-- ==== Sys2Proof/Word.lean ====
section
/-!
DEFINITION. Word.lean: the word and byte types and their plainest arithmetic. Field access and every helper that
a test could show wrong stand in Machine/, where they can be mended.
-/

namespace Sys2Proof

/-- A 32-bit interconnect word (the interconnect carries 32-bit words). -/
abbrev Word := BitVec 32

/-- One byte. -/
abbrev Byte := BitVec 8

end Sys2Proof
end

