-- ==== Sys2Proof/Syntax.lean ====
section
/-!
DEFINITION. Syntax.lean: the commands of the block, one constructor per row of the opcode table, with their operands.
What the environment decides (edge times, readings, currents, checksums that fail, levels on pins) is an operand; what the
device itself holds is not.
-/

namespace Sys2Proof

/-- The eleven interconnect masters of R92, in the order of GCTL_BUSERR.MASTER. -/
inductive Master where
  | trio | mgs | host | can0 | can1 | seg0 | seg1 | seg2 | seg3 | mover | xip
deriving DecidableEq, Repr

/-- Width of an interconnect access, R70. -/
inductive AccessSize where
  | byte | half | word
deriving DecidableEq, Repr

/-- Wake sources of NAP and HIBERNATE, in the order of the WAKESRC bits of GCTL_RUNSTAT, R57. -/
inductive WakeSource where
  | can0 | can1 | encoder | step | pin | rtc | tamper | host
deriving DecidableEq, Repr

/-- Wake sources of DOZE, R57. -/
inductive DozeSource where
  | axis | event | can0 | can1 | hostFrame | hostWrite
deriving DecidableEq, Repr

/-- The four VM conditions of a side, R115. -/
inductive VmCond where
  | uvFault | uvWarning | ovFault | ovWarning
deriving DecidableEq, Repr

/-- What a coach measures and carries in a STAT frame, R114 and R115: eight temperatures (0.0625 °C, none for a sensor with no
valid reading), VM in 10 mV, VCPr − VM of the four ranks in 10 mV, charge pumps in regulation (bit i for rank 4c + i), and the
gate regulator in regulation. -/
structure CoachMeas where
  temps  : List (Option Int)
  vm     : Nat
  vcp    : List Nat
  cpOk   : Nat
  gregOk : Bool
deriving DecidableEq, Repr

/-- What the hub reads from a coupling up to a STAT frame: what the frame carries, and how many IDLE frames failed CRC since the
last one, downstream and upstream (R13). -/
structure StatRead where
  meas : Option CoachMeas
  idle : Nat × Nat
deriving DecidableEq, Repr

/-- The end of an on-time of a gang's conducting switches, R109: a leg of the gang, the length in 5 ns counts, and the members' sense
currents in mA of switch current, leader first. -/
structure GangEnd where
  leg    : Fin 512
  onTime : Nat
  cur    : List Nat
deriving DecidableEq, Repr

/-- What a rank's PWM period start finds: the coils whose current was under the ripple target (R143), and the on-times of gangs that
it ends (R109). -/
structure PeriodEdges where
  deep  : List (Fin 16)
  gangs : List GangEnd
deriving DecidableEq, Repr

/-- What a coach's PWM period start finds: the edge times of its adapting legs (leg, rising, ns, R103), and the on-times of gangs that
it ends when it declares a loss (R109). -/
structure CoachEdges where
  edges : List (Fin 512 × Bool × Nat)
  gangs : List GangEnd
deriving DecidableEq, Repr

/-- What a trip finds: the sense currents of the gang whose on-time it ends, and the on-times of other gangs it ends, R109. -/
structure TripRead where
  cur   : List Nat
  gangs : List GangEnd
deriving DecidableEq, Repr

/-- A coil position of a rank at a moment that ends on-times of gangs, R109. -/
structure CoilMoment where
  z     : Fin 16
  gangs : List GangEnd
deriving DecidableEq, Repr

/-- A coach at a moment that ends on-times of gangs, R109. -/
structure CoachMoment where
  c     : Fin 4
  gangs : List GangEnd
deriving DecidableEq, Repr

/-- A leg whose override ends its on-time, with the on-times of gangs that end, R109 and R113. -/
structure LegMoment where
  l     : Fin 512
  gangs : List GangEnd
deriving DecidableEq, Repr

/-- How a downstream frame arrives: whether it passes CRC, and the on-times of gangs that its effect ends, R13 and R109. -/
structure DownRead where
  ok    : Bool
  gangs : List GangEnd
deriving DecidableEq, Repr

/-- A wake from HIBERNATE: its source, and the 32.768 kHz periods since the RTC last counted, R57 and R64. -/
structure Wake where
  source  : WakeSource
  elapsed : BitVec 48
deriving DecidableEq, Repr

/-- What the reset sequence finds: whether the images of slots A and B read well (R371), the 32.768 kHz periods since the RTC last
counted, and those the sequence takes (R64). -/
structure BootRead where
  ok       : Bool × Bool
  elapsed  : BitVec 48
  sequence : BitVec 48
deriving DecidableEq, Repr

/-- The level of an input at its ball, and the motion clock when the ball took it, R229. -/
structure Pin where
  level : Bool
  since : Nat
deriving DecidableEq, Repr

/-- A sample of the index input of encoder channel `n` at motion-clock time `stamp`, R234. -/
structure IndexSample where
  n     : Fin 8
  z     : Pin
  stamp : Nat
deriving DecidableEq, Repr

/-- A pulse of modulator `d`'s timer, and an edge of TRIG_IN, at motion-clock time `now`, R266 and R267. -/
structure TimerPulse where
  d   : Fin 4
  now : Nat
deriving DecidableEq, Repr
structure TrigEdge where
  rising : Bool
  now    : Nat
deriving DecidableEq, Repr

/-- A read of the XIP window, R355. -/
structure WindowRead where
  size : AccessSize
  addr : BitVec 24
deriving DecidableEq, Repr

/-- A poll of the flash's status, R359: its status byte, and the words the transaction received before the first poll. -/
structure SpmPoll where
  status : BitVec 8
  rx     : List Word
deriving DecidableEq, Repr

/-- A word of the recipe buffer, R209: word w of entry e, or header word i. -/
inductive RecipeWord where
  | entry (e : Fin 128) (w : Fin 4)
  | header (i : Fin 4)
deriving DecidableEq, Repr

/-- Error counters and last error of a CAN controller, NET_STAT. -/
structure CanErr where
  txe : Fin 256 := 0
  rxe : Fin 256 := 0
  lec : Fin 7 := 0
deriving DecidableEq, Repr

/-- What reaches the block from outside by a profile tick: sources out of compliance and VEXC in its current limit (R250,
R253), the error counters of the CAN controllers, whether each finished sending a frame since the last tick, whether a frame of
any node ended on its bus since then and whether the bus is idle, the 32.768 kHz periods since then (R64), and the wake sources present (bits as WAKESRC, R55). -/
structure TickIn where
  compl  : BitVec 2 := 0
  vshort : Bool := false
  can0   : CanErr := {}
  can1   : CanErr := {}
  sent0  : Bool := false
  sent1  : Bool := false
  ended0 : Bool := false
  ended1 : Bool := false
  idle0  : Bool := true
  idle1  : Bool := true
  rtc    : Nat := 0
  wake   : BitVec 8 := 0
deriving DecidableEq, Repr

/-- A channel of the authentication exchange, R374: the host port, the debug port, or a USDO context (controller, client
node-ID, session ID). -/
inductive AuthChan where
  | host
  | debug
  | usdo (can : Fin 2) (node : Fin 128) (sess : Fin 256)
deriving DecidableEq, Repr

/-- A USDO request, R327, with the frame format of CiA 1301 taken off. -/
inductive UsdoOp where
  /-- The first request of an upload. -/
  | upload (idx : BitVec 16) (sub : BitVec 8)
  /-- The first request of a download, with its bytes; `last` if it is complete. -/
  | download (idx : BitVec 16) (sub : BitVec 8) (bytes : List (BitVec 8)) (last : Bool)
  /-- A further segment of the download in progress. -/
  | segment (bytes : List (BitVec 8)) (last : Bool)
  /-- The client asks for the rest of an upload, or ends it. -/
  | next (last : Bool)
  /-- A segment or request whose toggle or sequence is wrong, R330. -/
  | outOfSequence
  /-- A block download begins; a segment of a sub-block, numbered from 1; the download ends. -/
  | blockDownload (idx : BitVec 16) (sub : BitVec 8)
  | blockSegment (seq : BitVec 7) (bytes : List (BitVec 8)) (last : Bool)
  | blockEnd
  /-- A block upload begins, with the segments of a sub-block; the client lets the server send, acknowledges a sub-block up to a segment
  with the segments of the next, and confirms the end. -/
  | blockUpload (idx : BitVec 16) (sub : BitVec 8) (size : BitVec 7)
  | blockStart
  | blockAck (seq : BitVec 7) (size : BitVec 7)
  | blockDone
  /-- The client aborts, with the CiA 1301 abort code that applies. -/
  | abort (code : BitVec 32)
deriving DecidableEq, Repr

/-- The first bytes of a host frame, R343: command, address and, with CRC, the header CRC. -/
structure HostHead where
  cmd  : BitVec 8
  addr : BitVec 24
  crc  : BitVec 8
deriving DecidableEq, Repr

/-- How a host frame ends, R350: at a byte boundary where it may end; within the header, with the address bits received; inside
a word or its CRC byte, `last` once the last data byte has begun, when the read of the next slot has been issued (R346). -/
inductive FrameEnd where
  | clean
  | inHeader (addr : BitVec 24)
  | inWord (last : Bool)
deriving DecidableEq, Repr

/-- How the copies of the trio agreed while they were saved for NAP, R293: two of them, or all three, disagreed. -/
inductive SaveCheck where
  | agreed
  | pair
  | three
deriving DecidableEq, Repr

/-- What a copy of the trio's core does in a signature window, R284: a bus request, a write of an architectural register, or a cache
tag it sets, which no signature sees. -/
inductive CopyAct where
  | request (write : Bool) (addr : BitVec 32) (data : BitVec 32)
  | write (reg : BitVec 16) (w : BitVec 32)
  | tag (entry : BitVec 16) (w : BitVec 32)
deriving DecidableEq, Repr

/-- An entry of a copy that has come to hold another value by a physical event: a register, or a cache tag, R286. -/
structure Upset where
  tag   : Bool
  entry : BitVec 16
  now   : BitVec 32
deriving DecidableEq, Repr

/-- The commands of the block. -/
inductive Instr where

  /-- COACH_PERIOD_START, R15: A coach PWM period begins: the coach applies the command set received for it and the hub builds the set for the following period. -/
  | coachPeriodStart (c : Fin 4) (edges : CoachEdges)
  /-- CMD_FRAME, R15: The coach receives a CMD frame carrying one rank's coil records for a tagged period and keeps the first copy that passes CRC. -/
  | cmdFrame (c : Fin 4) (q : Fin 4) (copy : Fin 2) (crcOk : Bool)
  /-- CFG_FRAME, R17: The coach receives a register write or read request, applies a write at most once per sequence number, and answers with a CFGR frame. -/
  | cfgFrame (c : Fin 4) (rx : DownRead)
  /-- CFGR_FRAME, R17: The hub receives the acknowledge or read data of a CFG frame and completes the coach register access. -/
  | cfgrFrame (c : Fin 4) (crcOk : Bool)
  /-- CFG_RESEND, R17: A CFG exchange that failed CRC or had no answer within 600 ns is sent once more with the same sequence number. -/
  | cfgResend (c : Fin 4)
  /-- CTL_SAFE_SELECT, R20: The coach receives a CTL frame carrying the SAFE selection it will use on coupling loss. -/
  | ctlSafeSelect (c : Fin 4) (crcOk : Bool)
  /-- CTL_KILL, R123: The coach receives a CTL kill frame and turns off and holds off both switches of the named legs. -/
  | ctlKill (c : Fin 4) (rx : DownRead)
  /-- CTL_RELEASE, R23: The coach receives a CTL release frame, leaves its safe state or releases killed legs, and resumes with slots disabled. -/
  | ctlRelease (c : Fin 4) (rx : DownRead)
  /-- STAT_FRAME, R117: The hub receives a STAT frame and records leg trips, leg status, temperatures and coach error counts, passing trips to the axis fault manager. -/
  | statFrame (c : Fin 4) (crcOk : Bool) (read : StatRead)
  /-- SNS_FRAME, R193: The hub receives an SNS frame carrying back-EMF samples, charge records and decay flags. -/
  | snsFrame (c : Fin 4) (crcOk : Bool) (charge : List (Fin 4 × Fin 16 × Int))
  /-- COACH_WATCHDOG_EXPIRY, R19: The coach sees no valid downstream frame for 1.0 µs and declares the coupling lost. -/
  | coachWatchdogExpiry (x : CoachMoment)
  /-- HUB_WATCHDOG_EXPIRY, R19: The hub sees no valid upstream frame for 1.0 µs and declares the coupling lost. -/
  | hubWatchdogExpiry (c : Fin 4)
  /-- COACH_SILENCE_END, R21: The 2 µs transmit silence after a coach-declared loss ends, and the coach waits for training. -/
  | coachSilenceEnd (c : Fin 4)
  /-- TRAINING_ATTEMPT, R23: The hub starts training a lost coupling, 4 µs after the loss and then every 1 ms until training succeeds. -/
  | trainingAttempt (c : Fin 4)
  /-- TRAINING_COMPLETE, R23: Training succeeds, UP is set and SAFE is copied to the coach, which stays in its safe state until released. -/
  | trainingComplete (c : Fin 4)
  /-- COACH_ON_REQUEST, R50: A guarded write changes GCTL_PWRDOM.COACH[c] from 0 to 1, and the power controller checks VM, then starts the gate regulator, the pumps and training. -/
  | coachOnRequest (m : Master) (c : Fin 4)
  /-- COACH_ON_COMPLETE, R50: Training has succeeded, the coach registers are reloaded from the shadow, and COACHON[c] is set. -/
  | coachOnComplete (c : Fin 4)
  /-- COACH_ON_TIMEOUT, R50: Training at coach power-up has not succeeded within 1 ms, so the domain is switched off, ONFAIL is set and LOSSCAUSE 3 is recorded. -/
  | coachOnTimeout (c : Fin 4)
  /-- COACH_OFF_REQUEST, R51: A write of COACH[c] = 0 without FORCE is refused if any slot of the coach has work, and otherwise switches the coach off. -/
  | coachOffRequest (m : Master) (c : Fin 4)
  /-- COACH_FORCED_OFF, R52: A write of COACH[c] = 0 with FORCE quick-stops and parks the slots of the coach, then turns the legs off, disables the slots and switches the domain off. -/
  | coachForcedOff (m : Master) (c : Fin 4)
  /-- FORCED_OFF_TIMEOUT, R52: A slot has not reached standstill 1 s after a forced power-down write, so it is halted and the sequence continues. -/
  | forcedOffTimeout (c : Fin 4)
  /-- AFE_OFF, R53: A write of AFE = 0 switches D5 off at the next modulator clock and discards conversions in progress. -/
  | afeOff (m : Master)
  /-- AFE_ON, R53: A write of AFE = 1 switches D5 on and restores its registers from the hub's shadow within 100 µs. -/
  | afeOn (m : Master)
  /-- SOFTWARE_RESET, R65: A write of 1 to GCTL_PWRDOM.SWRST resets D1 to D9 and the wake controller with cause SOFT. -/
  | softwareReset (m : Master)
  /-- REQ_RUN, R57: A host write of REQ = 0 wakes the device from DOZE or NAP. -/
  | reqRun (m : Master)
  /-- REQ_DOZE, R55: A request for DOZE either enters DOZE or is refused with a REFUSE reason. -/
  | reqDoze (m : Master)
  /-- REQ_NAP, R56: A request for NAP, unless refused, parks the axes, switches off the coaches and D5, saves D2 and D3 state and stops the PLL. -/
  | reqNap (m : Master)
  /-- REQ_HIBERNATE, R56: A request for HIBERNATE, unless refused, does the NAP entry steps, saves the positions to Thyme RAM and switches off all but D0. -/
  | reqHibernate (m : Master)
  /-- AUTODOZE_ENTRY, R55: With AUTODOZE set, 1 ms passes with no work, no register access and no CAN reception, and the device enters DOZE. -/
  | autodozeEntry
  /-- DOZE_WAKE, R57: A wake source in DOZE restarts the fast clocks within 1 µs. -/
  | dozeWake (src : DozeSource)
  /-- NAP_WAKE, R58: An armed wake source in NAP restores the D2 and D3 state, returns parked axes to their standstill modes and brings back the coach domains that were on. -/
  | napWake (src : WakeSource) (chk : SaveCheck)
  /-- HIBERNATE_WAKE, R59: An armed wake source in HIBERNATE runs the reset sequence with cause HIB and restores the saved axis positions. -/
  | hibernateWake (wake : Wake)
  /-- CLOCK_FAILURE, R62: The clock monitor detects loss of the 25 MHz reference or of PLL lock, and the hub is held in reset with cause CLKFAIL. -/
  | clockFailure (refLost : Bool)
  /-- OSCILLATOR_RESTART, R62: While the reference is lost, the oscillator is restarted every 10 ms. -/
  | oscillatorRestart
  /-- CLOCK_RECOVERY, R62: The clock monitor sees the reference running again, the CLKFAIL reset clears and the reset sequence starts. -/
  | clockRecovery
  /-- CRYSTAL_CHANGEOVER, R63: After 1,024 good crystal periods, D0 changes over from the internal RC to the 32.768 kHz crystal. -/
  | crystalChangeover
  /-- CRYSTAL_STOP, R63: The 32.768 kHz crystal stops for 4 RC periods, and D0 returns to the RC and sets T32FAIL. -/
  | crystalStop
  /-- RTC_WRITE_COMMIT, R64: A write of the RTC is committed at the next 32.768 kHz edge. -/
  | rtcWriteCommit
  /-- RTC_ALARM, R64: The RTC whole seconds match GCTL_RTCALM, raising the RTC wake when WRTC is 1. -/
  | rtcAlarm
  /-- POWER_ON_RESET, R65: VAON falls below 1.60 V, resetting everything, D0 included. -/
  | powerOnReset
  /-- RESET_PIN, R65: RESET_N is low for 1 µs or more, resetting D1 to D9 and the wake controller with cause PIN. -/
  | resetPin
  /-- PWRGOOD_LOW, R65: PWRGOOD is low for 1 µs or more, resetting D1 to D9 and the wake controller with cause PWRGOOD. -/
  | pwrgoodLow
  /-- BROWN_OUT, R65: VDDC, VDDIO or VDDA stays below its brown-out threshold for 2 µs, causing a reset with cause BOR. -/
  | brownOut
  /-- RESET_SEQUENCE_START, R67: The last reset source releases with the reference running, and the reset sequence starts: D1 on, MGS boot and strap sampling. -/
  | resetSequenceStart (strap : BitVec 7) (boot : BootRead)
  /-- RESET_SEQUENCE_END, R67: The reset sequence ends: the trio is released, RWS settings are restored and the host port accepts accesses. -/
  | resetSequenceEnd
  /-- BOOT_UP, R317: The CANopen boot-up message is sent and the node enters pre-operational, or operational when 0x1F80 bit 2 is set. -/
  | bootUp
  /-- REGISTER_WRITE, R72: A write to a register that has no row of its own passes the ordered checks and is performed, staged or refused with a bus error. -/
  | registerWrite (m : Master) (size : AccessSize) (addr : BitVec 24) (w : Word)
  /-- GUARD_TIMEOUT, R76: A guard window closes with no effect when no complement arrives within 16 interconnect cycles. -/
  | guardTimeout (addr : BitVec 24)
  /-- PAIR_LO_READ, R89: A read of a LO word returns the LO half and latches the HI half into the master's shadow. -/
  | pairLoRead (m : Master) (addr : BitVec 24)
  /-- PAIR_LO_WRITE, R90: A write of a LO word stages the value for its pair, setting SEQ_ERR if it replaced another pair's value. -/
  | pairLoWrite (m : Master) (addr : BitVec 24) (w : Word)
  /-- PAIR_HI_WRITE, R90: A write of the HI word of the staged pair checks and commits both halves in one cycle. -/
  | pairHiWrite (m : Master) (addr : BitVec 24) (w : Word)
  /-- BUFHOLD_TIMEOUT, R80: A buffered-landing hold that has stayed set for 10 ms is released by the hardware and HOLDTO is set. -/
  | bufholdTimeout (cls : Fin 5)
  /-- STORE_SETTINGS, R81: GCTL_STORE command 1 saves every RWS field to NVM. -/
  | storeSettings (m : Master)
  /-- STORE_WAVE_TABLES, R158: GCTL_STORE command 2 saves wave tables 1 to 7, and is refused while any table is open for loading. -/
  | storeWaveTables (m : Master)
  /-- STORE_BOTH, R81: GCTL_STORE command 3 saves the RWS fields and wave tables 1 to 7. -/
  | storeBoth (m : Master)
  /-- ERASE_STORED_SETTINGS, R81: GCTL_STORE command 4 erases the stored settings and tables so that the next reset restores reset values. -/
  | eraseStoredSettings (m : Master)
  /-- STORE_COMPLETE, R81: A store or erase ends, the new set takes force, DONE or FAIL is set, COUNT increases and event 119 pends. -/
  | storeComplete (ok : Bool)
  /-- PARITY_SCRUB, R86: The scrubber checks every RWB and RWS word and shadow copy, at least once every 1 ms. -/
  | parityScrub (failing : List (BitVec 24))
  /-- RANK_PERIOD_START, R134: A rank's local PWM period starts at its stagger offset, and its coils enter drive or decay. -/
  | rankPeriodStart (r : Fin 16) (edges : PeriodEdges)
  /-- INTERLOCK_TIMEOUT, R100: The opposite gate is not sensed low within 1 µs, so the leg enters BLOCK, counts ILKCNT and reports it. -/
  | interlockTimeout (l : Fin 512)
  /-- RK_MODE_WRITE, R111: A guarded write of RK_MODE is checked per half-rank and sets MODEPEND until the coach applies the topology. -/
  | rkModeWrite (m : Master) (r : Fin 16) (v : Fin 16)
  /-- LEG_TEST_WRITE, R113: A guarded write of LEG_TEST sets up or removes an on-time override of a leg, or is refused. -/
  | legTestWrite (m : Master) (l : Fin 512) (w : Word)
  /-- OVERCURRENT_TRIP, R117: OC or HOC trips on a switch after its filter: the switch goes off for the rest of the period, and the trip is counted and reported. -/
  | overcurrentTrip (l : Fin 512) (hs : Bool) (hard : Bool) (time : Nat) (stamp : Nat) (onTime : Nat) (gang : TripRead)
  /-- TRIP_CHECK, R121: The 1 µs check of an unclaimed trip classifies the trips within 1 µs and faults ranks or axes. -/
  | tripCheck
  /-- PERIOD_CHECK, R121: The period check of a coach faults axes with trips on two coil ends, or whose PERSIST run count is reached. -/
  | periodCheck (c : Fin 4) (p : Fin 256)
  /-- FAULT_WAIT_EXPIRY, R125: WAIT ms after entry to FAULT_WAIT, the axis enters TEST and TRYCNT increases. -/
  | faultWaitExpiry (a : Fin 128)
  /-- RETRY_TEST_PASS, R125: 16 PWM periods pass in TEST with no fault, so the axis returns to OK, RECOV is set and AXIS_ALERT pends. -/
  | retryTestPass (a : Fin 128)
  /-- RETRY_WINDOW_EXPIRY, R125: WIN seconds after the fault that raised TRYCNT from 0, with the axis in OK, TRYCNT returns to 0. -/
  | retryWindowExpiry (a : Fin 128)
  /-- AXIS_FAULT_LATCH, R127: AX_FLTCTL.LATCH moves an axis in FAULT_WAIT or TEST to LATCHED. -/
  | axisFaultLatch (m : Master) (a : Fin 128)
  /-- AXIS_FAULT_CLEAR, R127: AX_FLTCTL.CLR clears a latched axis fault to OK with the axis disabled, or is refused. -/
  | axisFaultClear (m : Master) (a : Fin 128)
  /-- RANK_FAULT_CLEAR, R131: RK_FLTCTL.CLR releases the rank's legs and clears the rank-cause faults of its axes, or is refused. -/
  | rankFaultClear (m : Master) (r : Fin 16)
  /-- COACH_FAULT_CLEAR, R131: CO_FLTCTL.CLR sends the CTL release and clears the coach-cause faults of the coach's axes, or is refused. -/
  | coachFaultClear (m : Master) (c : Fin 4)
  /-- VM_FAULT_CLEAR, R127: CO_FLTCTL.CLRVM clears the VM_UV and VM_OV faults of the coach's axes, and is refused while the side is outside release. -/
  | vmFaultClear (m : Master) (c : Fin 4)
  /-- CHARGE_PUMP_UNDERVOLTAGE, R115: VCPr − VM stays below 7.0 V for the filter time, which latches a rank fault with cause CPUV. -/
  | chargePumpUndervoltage (r : Fin 16)
  /-- GATE_REG_UNDERVOLTAGE, R115: VGDc stays below 6.0 V for the filter time, which latches a coach fault with cause GREGUV. -/
  | gateRegUndervoltage (c : Fin 4)
  /-- TEMP_SENSOR_FAILURE, R115: Both sensors of a rank are invalid for 1 ms, which latches a rank fault with cause TSENSOR. -/
  | tempSensorFailure (r : Fin 16)
  /-- VM_UNDERVOLTAGE_FAULT, R116: A side's VM falls below 7.0 V for 2 µs, or below 4 V, and VM_FAULT latches the side's axes with cause VM_UV. -/
  | vmUndervoltageFault (c : Fin 4) (below4 : Bool)
  /-- VM_UNDERVOLTAGE_WARNING, R115: A side's VM falls below 7.8 V for 20 µs, and VM_WARN pends. -/
  | vmUndervoltageWarning (c : Fin 4) (below4 : Bool)
  /-- VM_OVERVOLTAGE_FAULT, R129: A side's VM rises above 38.5 V for 1 µs, and its enabled axes are braked or turned off as OVACT selects. -/
  | vmOvervoltageFault (c : Fin 4)
  /-- VM_OVERVOLTAGE_WARNING, R115: A side's VM rises above 37.0 V for 20 µs, and VM_WARN pends. -/
  | vmOvervoltageWarning (c : Fin 4)
  /-- VM_RELEASE, R115: A side's VM returns past the release level of a VM condition, which ends that condition. -/
  | vmRelease (c : Fin 4) (cond : VmCond)
  /-- VM_BELOW_6V, R130: VM falls below 6.0 V, so VM_UV is declared at once, the coach domain drops and its coupling is lost. -/
  | vmBelow6v (c : Fin 4)
  /-- BLANKING_END, R118: Blanking ends and comparisons and OC evaluation begin, so an OC condition present then trips 100 ns later. -/
  | blankingEnd (r : Fin 16) (z : Fin 16)
  /-- COMPARATOR_TRIP, R136: The coil comparator reaches THR after blanking, and the coil leaves drive for its decay. -/
  | comparatorTrip (r : Fin 16) (z : Fin 16) (time : Nat) (first : Bool) (onTime : Nat) (gang : TripRead)
  /-- MIXED_DECAY_SWITCH, R136: The fast portion t_fast of mixed decay expires and the coil continues in slow decay. -/
  | mixedDecaySwitch (r : Fin 16) (x : CoilMoment)
  /-- FAST_DECAY_ZERO_GUARD, R137: During fast decay, the current falls below the zero guard, and both coil ends go off. -/
  | fastDecayZeroGuard (r : Fin 16) (x : CoilMoment)
  /-- DECAY_TRIM_WINDOW, R143: At the end of every WIN periods, the hub updates FFEFF of each trimming axis from its EARLY and DEEP flags. -/
  | decayTrimWindow (c : Fin 4)
  /-- STANDSTILL_DELAY_EXPIRY, R147: The standstill DELAY elapses and the axis enters its mode state. -/
  | standstillDelayExpiry (a : Fin 128)
  /-- ENERGISE_EXPIRY, R149: ENERG ticks after energising elapse, and the axis moves or enters the written mode state. -/
  | energiseExpiry (a : Fin 128)
  /-- PROFILE_TICK, R166: At each 10 µs tick, every engine processes commands and landed writes, steps, guards, saturation check and snapshot for each enabled slot. -/
  | profileTick (inp : TickIn)
  /-- AXIS_ENABLE, R169: Setting an AXEN bit requests an enable that takes effect at the next tick, or is refused. -/
  | axisEnable (m : Master) (a : Fin 128)
  /-- AXIS_DISABLE, R170: Clearing an AXEN bit disables the axis at the next tick, or quick-stops it with the disable pending until standstill. -/
  | axisDisable (m : Master) (a : Fin 128)
  /-- START, R171: AX_CTL command START requests a start that starts, arms, is ignored or is refused. -/
  | start (m : Master) (a : Fin 128)
  /-- AXSTART_WRITE, R171: A write of AXSTART bits, or their aliases, requests starts that form one start group at the next tick. -/
  | axstartWrite (m : Master) (k : Fin 4) (w : Word)
  /-- STOP, R185: AX_CTL command STOP stops the axis at dmax, or runs its stop segment. -/
  | stop (m : Master) (a : Fin 128)
  /-- QSTOP, R185: AX_CTL command QSTOP stops the axis at qdmax. -/
  | qstop (m : Master) (a : Fin 128)
  /-- HALT, R186: AX_CTL command HALT stops the axis at once and freezes its address. -/
  | halt (m : Master) (a : Fin 128)
  /-- RELEASE, R186: AX_CTL command RELEASE clears HALTED, and is refused while HALT_N holds the axis. -/
  | release (m : Master) (a : Fin 128)
  /-- CONT, R180: AX_CTL command CONT ends a chain wait at HOLD or WSYNC. -/
  | cont (m : Master) (a : Fin 128)
  /-- CLRPML, R187: AX_CTL command CLRPML clears position-may-be-lost. -/
  | clrpml (m : Master) (a : Fin 128)
  /-- SYNC_IN_EDGE, R173: A SYNC_IN edge is recognised, which starts armed axes and ends WSYNC waits at the next tick. -/
  | syncInEdge (rising : Bool)
  /-- AX_POS_WRITE, R187: A committed write of AX_POS sets the position with fraction 0, clears PML and sets ALIGNPEND, or is refused. -/
  | axPosWrite (m : Master) (a : Fin 128) (lo : Word) (hi : Word)
  /-- WAVE_LOAD_OPEN, R157: A write of WAVE_CTL.LOAD = 1 opens a wave table for writing, or is refused. -/
  | waveLoadOpen (m : Master) (t : Fin 8)
  /-- WAVE_LOAD_CLOSE, R157: A write of WAVE_CTL.LOAD = 0 closes a wave table to writing. -/
  | waveLoadClose (m : Master) (t : Fin 8)
  /-- WAVE_ENTRY_WRITE, R157: A write of a wave table entry is accepted only while its table is open for loading. -/
  | waveEntryWrite (m : Master) (t : Fin 8) (k : Fin 257) (w : Word)
  /-- WAVE_SELECT_WRITE, R159: A write of AX_WAVESEL selects a table landing at a tick, and is refused for an INV change while enabled. -/
  | waveSelectWrite (m : Master) (a : Fin 128) (w : Word)
  /-- WAVE_ECC_ERROR, R156: A wave-table entry error is corrected and counted, or an uncorrectable error pends event 114 and faults the axes using the table. -/
  | waveEccError (t : Fin 8) (k : Fin 257) (fatal : Bool)
  /-- BEMF_WINDOW_ZERO, R192: In a back-EMF window, the coil current reaches the zero guard, the ends float biased and TZ is recorded. -/
  | bemfWindowZero (r : Fin 16) (x : CoilMoment) (tz : Nat)
  /-- BEMF_SAR_REQUEST, R192: TSET after TZ, the rank SAR is requested for the floating coil and converts in order of arrival. -/
  | bemfSarRequest (r : Fin 16) (z : Fin 16)
  /-- BEMF_CONVERSION_END, R192: The SAR conversion ends, the bias is removed, the coil resumes chopping and the sample is reported in SNS. -/
  | bemfConversionEnd (r : Fin 16) (z : Fin 16) (sample : Int)
  /-- BEMF_WINDOW_ABANDON, R192: The zero guard is not met within TZMAX, or the conversion cannot end in the period, so the window is abandoned with NOZERO. -/
  | bemfWindowAbandon (r : Fin 16) (x : CoilMoment)
  /-- LOAD_ANGLE_EVALUATION, R196: At the first tick after an SNS record arrives, the estimator pairs window results and computes the load angle and kest. -/
  | loadAngleEvaluation (a : Fin 128)
  /-- HOMING_SETTLE_EXPIRY, R201: SETTLE ms after contact, the homing axis begins its back-off. -/
  | homingSettleExpiry (a : Fin 128)
  /-- CLRE, R206: AX_LACTL.CLRE sets AX_ENERGY to 0. -/
  | clre (m : Master) (a : Fin 128)
  /-- CLRS, R199: AX_LACTL.CLRS clears STALLS and AX_BEMFCNT. -/
  | clrs (m : Master) (a : Fin 128)
  /-- CLRH, R201: AX_LACTL.CLRH clears AX_HOMEST.ERR and HOMED. -/
  | clrh (m : Master) (a : Fin 128)
  /-- WITALIGN, R204: AX_LACTL.WITALIGN sets ALIGNPEND for the witness. -/
  | witalign (m : Master) (a : Fin 128)
  /-- LEARN, R197: AX_LACTL.LEARN starts learning KE. -/
  | learn (m : Master) (a : Fin 128)
  /-- LOAD, R212: Planner command LOAD copies a recipe image from an NVM slot to the buffer after checking it. -/
  | load (m : Master) (slot : BitVec 8)
  /-- SAVE, R210: Planner command SAVE writes the recipe buffer, with header and CRC, to an NVM slot. -/
  | save (m : Master) (slot : BitVec 8)
  /-- ERASE, R210: Planner command ERASE empties an NVM recipe slot. -/
  | erase (m : Master) (slot : BitVec 8)
  /-- LOADX, R357: Planner command LOADX reads a recipe image from external flash through the XIP window into the buffer. -/
  | loadx (m : Master)
  /-- PLAN, R213: Planner command PLAN makes the trio validate, estimate and order the recipe. -/
  | plan (m : Master)
  /-- RUN, R220: Planner command RUN starts the plan at once or waits for its start source. -/
  | run (m : Master)
  /-- ABORT, R226: Planner command ABORT ends the plan, completing or quick-stopping the running moves as ABQ selects. -/
  | abort (m : Master) (abq : Bool)
  /-- CLEAR, R209: Planner command CLEAR empties the buffer and results and returns the planner to EMPTY. -/
  | clear (m : Master)
  /-- PLAN_COMPLETE, R219: The trio finishes PLAN, writing PL_ORD, PL_RES and PL_PRED and entering PLANNED, or fails with an error. -/
  | planComplete
  /-- PL_COMMAND_END, R210: A LOAD, SAVE, ERASE or LOADX command ends, its result lands in PL_STAT and BUSY clears. -/
  | plCommandEnd (ok : Bool) (flash : List Word)
  /-- PLAN_START, R220: RUN takes effect at the tick after its start source, which is plan tick 0, and entries become READY or WAITING. -/
  | planStart
  /-- ADMISSION_BLOCKED, R225: An entry has been READY for BLKMS × 10 ms without admission, and source 29 pends. -/
  | admissionBlocked (e : Fin 128)
  /-- RECIPE_BUFFER_WRITE, R213: A write to PL_RCP or PL_RCPHDR returns the plan to LOADED, or is refused while a plan runs or is being planned. -/
  | recipeBufferWrite (m : Master) (at_ : RecipeWord) (w : Word)
  /-- PL_ORD_WRITE, R219: A write of PL_ORD rewrites the start order, and is accepted only in PLANNED. -/
  | plOrdWrite (m : Master) (k : Fin 128) (w : Word)
  /-- STEP_EDGE, R230: An active filtered STEP edge adds or subtracts PUPS in the direction of DIR. -/
  | stepEdge (n : Fin 8) (step : Pin) (dir : Pin) (stamps : Nat × Nat)
  /-- QUADRATURE_TRANSITION, R232: A sample shows a new filtered A/B state, so the encoder count moves by one, or the transition is illegal. -/
  | quadratureTransition (n : Fin 8) (a : Pin) (b : Pin) (stamp : Nat)
  /-- ENCODER_ERROR_WINDOW, R233: An illegal-transition counting window of WIN ms ends and the next begins. -/
  | encoderErrorWindow (n : Fin 8)
  /-- INDEX_EDGE, R234: An active index edge latches the count and may reset it, according to ZMODE. -/
  | indexEdge (sample : IndexSample)
  /-- SPEED_TIMEOUT, R238: In period mode, no count arrives for 2^24 × 5 ns, so the speed becomes 0. -/
  | speedTimeout (n : Fin 8)
  /-- COUNT_WINDOW_END, R239: A 100 µs speed window ends, and count-mode speed is evaluated with the mode hysteresis applied. -/
  | countWindowEnd
  /-- COMPARE_PULSE_END, R242: A compare pulse's width PW elapses and CMPOUT returns to inactive. -/
  | comparePulseEnd (n : Fin 8)
  /-- COMPARE_ARM, R241: Writing ARM = 1 loads LEFT from COUNT and checks CMP_POS for being behind. -/
  | compareArm (m : Master) (n : Fin 8) (w : Word)
  /-- CMP_POS_WRITE, R243: A write of CMP_POS takes effect in the next sample or tick and is checked for being behind, with catch-up. -/
  | cmpPosWrite (m : Master) (n : Fin 8) (w : Word)
  /-- ENC_CNT_WRITE, R235: A host write of ENC_CNT sets the count without touching the motion count, and rechecks CMP_POS. -/
  | encCntWrite (m : Master) (n : Fin 8) (w : Word)
  /-- STEP_CNT_WRITE, R235: A host write of STEP_CNT sets the count without touching the motion count. -/
  | stepCntWrite (m : Master) (n : Fin 8) (w : Word)
  /-- CONVERSION_START, R248: A conversion starts, connecting the pins, setting the gain, turning on the pulsed sources and applying the break bias. -/
  | conversionStart (d : Fin 4) (now : Nat)
  /-- SETTLE_END, R248: SETTLE modulator clocks elapse and the modulator begins converting. -/
  | settleEnd (d : Fin 4)
  /-- BREAK_CHECK, R257: Every 16 modulator clocks, the common mode is checked against the break window, and a conversion outside it is marked broken. -/
  | breakCheck (d : Fin 4) (vcm : Nat)
  /-- CONVERSION_END, R261: A conversion's result word is produced, and pulsed sources and pending shared settings may change. -/
  | conversionEnd (d : Fin 4) (code : Int) (ovr : Bool)
  /-- LEAD_CONVERSION_END, R256: A lead conversion ends and writes LEAD. -/
  | leadConversionEnd (d : Fin 4) (code : Int) (ovr : Bool)
  /-- RESULT_LAND, R264: A corrected result lands in its result register 2 µs after its last word and pends its event, with overrun if unconsumed. -/
  | resultLand (d : Fin 4)
  /-- DUTY_WINDOW_START, R252: A new 100 ms pulsed-excitation window begins, and conversions held for the duty limit may start. -/
  | dutyWindowStart
  /-- AFE_SHARED_WRITE, R254: A write of a shared excitation or test DAC setting waits with EXCPEND until no touched conversion is in progress. -/
  | afeSharedWrite (m : Master) (k : Fin 3) (w : Word)
  /-- SD_START, R265: SD_CMD START begins direct conversions or a regular scan according to CLASS and REGTRIG. -/
  | sdStart (m : Master) (d : Fin 4)
  /-- SD_STOP, R274: SD_CMD STOP ends the regular or direct activity and discards the conversion in progress. -/
  | sdStop (m : Master) (d : Fin 4)
  /-- SD_INJ, R267: SD_CMD INJ is an urgent trigger that runs the injected sequence. -/
  | sdInj (m : Master) (d : Fin 4)
  /-- SD_SIMUL, R272: SD_CMD SIMUL starts the masked modulators at the same modulator clock edge. -/
  | sdSimul (m : Master) (d : Fin 4) (mask : BitVec 4)
  /-- SD_CAL, R273: SD_CMD CAL starts self-calibration of every gain of the masked modulators. -/
  | sdCal (m : Master) (d : Fin 4) (mask : BitVec 4)
  /-- SD_CLRCNT, R268: SD_CMD CLRCNT clears SD_CNT. -/
  | sdClrcnt (m : Master) (d : Fin 4)
  /-- SD_DISABLE, R274: A write of SD_CFG.EN = 0 ends every activity of the modulator and resets its gains in use. -/
  | sdDisable (m : Master) (d : Fin 4) (w : Word)
  /-- SD_TIMER_PULSE, R266: The modulator timer pulses, starting a conversion or pass, or an urgent trigger, or setting TLATE. -/
  | sdTimerPulse (x : TimerPulse)
  /-- TRIG_IN_EDGE, R267: A TRIG_IN edge is recognised as an urgent trigger on every modulator that enables it. -/
  | trigInEdge (x : TrigEdge)
  /-- CAL_PHASE_END, R273: An offset or gain calibration phase ends and its factor lands, or CALFAIL is set. -/
  | calPhaseEnd (d : Fin 4) (value : Int)
  /-- SD_RESULT_READ, R271: With MOVE = 0, the first read of a result LO word consumes the result and latches its INFO word. -/
  | sdResultRead (m : Master) (d : Fin 4) (inj : Bool)
  /-- LINEARISE, R276: The trio turns a delivered result into its linearised value and publishes it in SD_LINRES. -/
  | linearise (d : Fin 4)
  /-- SD_LINDATA_ACCESS, R278: An access to SD_LINDATA reads or writes the linearisation store word at the address and increments it. -/
  | sdLindataAccess (m : Master) (d : Fin 4) (w : Option Word)
  /-- SIGNATURE_WINDOW_END, R284: At the end of a signature window, the three signatures are compared 2-of-3. -/
  | signatureWindowEnd (x0 : List CopyAct) (x1 : List CopyAct) (x2 : List CopyAct) (n0 : Nat) (n1 : Nat) (n2 : Nat)
  /-- QUIET_STATE_SCRUB, R286: Every 1 ms, the register files and cache tags of the three copies are hashed and compared. -/
  | quietStateScrub (x0 : List Upset) (x1 : List Upset) (x2 : List Upset)
  /-- COMPARATOR_SELF_TEST, R287: Every 10 ms, one signature bit is flipped at the comparator input and both halves must report that copy. -/
  | comparatorSelfTest (half0 : Option (Fin 3)) (half1 : Option (Fin 3))
  /-- DELAY_PARITY_ERROR, R285: A delay-register stage fails parity, which is a mismatch of kind DPARITY of its copy. -/
  | delayParityError (k : Fin 3)
  /-- CACHE_PARITY_ERROR, R285: A cache array word of a copy fails parity, which is a mismatch of kind CPARITY. -/
  | cacheParityError (k : Fin 3)
  /-- SRAM_DOUBLE_BIT_ERROR, R281: The trio reads a double-bit error in the shared SRAM, and the device enters its safe state with cause SRAM. -/
  | sramDoubleBitError
  /-- SRAM_SCRUB, R281: The hardware scrub visits shared SRAM words, correcting and counting single-bit errors. -/
  | sramScrub (n : Nat)
  /-- RESYNC_HOLD_DONE, R289: The odd copy's caches have been invalidated, and the pair runs on to an instruction boundary. -/
  | resyncHoldDone
  /-- RESYNC_BOUNDARY, R289: The pair reaches a boundary with no bus access outstanding and stalls, and its state is copied into the odd copy. -/
  | resyncBoundary
  /-- RESYNC_COMPLETE, R289: The three copies are released, STATE returns to TRIPLE, RESYNCS counts, event 120 pends and a scrub runs. -/
  | resyncComplete
  /-- RESYNC_TIMEOUT, R288: A resynchronisation is not complete 60 µs after its comparison, and the device enters safe state with cause RS_TIME. -/
  | resyncTimeout
  /-- DEBUG_HALT, R294: An authenticated halt request or a breakpoint halts all three copies at one instruction boundary. -/
  | debugHalt
  /-- DEBUG_RESUME, R295: A resume or single step replays the queued register writes, scrubs and releases the trio. -/
  | debugResume (step : Bool) (x0 : List Upset) (x1 : List Upset) (x2 : List Upset)
  /-- DEBUG_REGISTER_WRITE, R295: A debugger register write to copy 0 enters the replay queue, or is refused when the queue is full. -/
  | debugRegisterWrite (reg : BitVec 16) (w : Word)
  /-- DEBUG_MEMORY_WRITE, R295: A debugger memory write goes to the shared SRAM and invalidates the line in all three caches. -/
  | debugMemoryWrite (addr : Fin 262144) (w : Word)
  /-- EV_PEND_CLEAR, R297: A write of 1 to a pending bit clears it without clearing the cause. -/
  | evPendClear (m : Master) (k : Fin 4) (w : Word)
  /-- EV_EN_WRITE, R298: A write of EV_EN enables or disables sources at once, driving level routes of pending sources. -/
  | evEnWrite (m : Master) (k : Fin 4) (w : Word)
  /-- DOORBELL, R299: A write of EV_DOORBELL.RING pends source 127. -/
  | doorbell (m : Master)
  /-- TRIO_EVENT_DELIVERY, R301: An occurrence routed to the trio is delivered in priority order, queued through RESYNC or HALTED. -/
  | trioEventDelivery
  /-- EMCY_QUEUE, R303: For an occurrence routed to EMCY, the firmware queues an EMCY with its code and manufacturer data. -/
  | emcyQueue
  /-- LOG_ENTRY, R304: The MGS writes a log entry for an occurrence routed to log, folding repeats within 10 ms into its count. -/
  | logEntry
  /-- LOG_REPEAT_REWRITE, R364: 10 ms after an entry with further occurrences, the entry is rewritten once with its repeat count. -/
  | logRepeatRewrite (src : Fin 128)
  /-- HALT_N_LOW, R306: HALT_N is recognised low, which sets HALTSEEN and halts every enabled axis with PIN = 1 at the next tick. -/
  | haltNLow
  /-- HALT_N_HIGH, R306: HALT_N is recognised high again, so RELEASE is no longer refused for it. -/
  | haltNHigh
  /-- NMT_START, R317: NMT start remote node enters Operational. -/
  | nmtStart (k : Fin 2) (node : Fin 128)
  /-- NMT_STOP, R317: NMT stop remote node enters Stopped. -/
  | nmtStop (k : Fin 2) (node : Fin 128)
  /-- NMT_PRE_OPERATIONAL, R317: NMT enter pre-operational enters Pre-operational. -/
  | nmtPreOperational (k : Fin 2) (node : Fin 128)
  /-- NMT_RESET_NODE, R317: NMT reset node quick-stops axes with work and schedules a software reset, or is ignored and counted. -/
  | nmtResetNode (k : Fin 2) (node : Fin 128)
  /-- NMT_RESET_DEFERRED, R317: The software reset of a reset node follows at the first tick with no axis working, or 1 s after the command. -/
  | nmtResetDeferred
  /-- NMT_RESET_COMMUNICATION, R317: NMT reset communication closes all USDO contexts, reloads communication objects, applies a pending node-ID and sends boot-up. -/
  | nmtResetCommunication (k : Fin 2) (node : Fin 128)
  /-- HEARTBEAT_PRODUCE, R319: The producer heartbeat timer expires and the node sends its heartbeat. -/
  | heartbeatProduce
  /-- HEARTBEAT_RECEIVED, R320: A heartbeat from a monitored partner starts or restarts monitoring of its consumer entry. -/
  | heartbeatReceived (k : Fin 2) (node : Fin 128)
  /-- HEARTBEAT_LOSS, R320: T ms pass without a partner's heartbeat, so the loss is flagged and NET_HBACT, EMCY 0x8130 and a log entry follow. -/
  | heartbeatLoss (n : Fin 32)
  /-- EMCY_SEND, R321: A queued EMCY is transmitted, spaced by the inhibit time. -/
  | emcySend (k : Fin 2)
  /-- SYNC, R322: A SYNC frame is recognised in hardware as a sync event for starts, waits, plan runs, RPDOs and synchronous TPDOs. -/
  | canSync (k : Fin 2) (len : Fin 65) (counter : BitVec 8)
  /-- TIME, R323: A TIME frame sets the RTC when 0x2015:02 is 1. -/
  | canTime (k : Fin 2) (t : Option (BitVec 16 × BitVec 28))
  /-- RPDO, R325: An RPDO is received, and its mapped objects are written at once or held for the next SYNC. -/
  | rpdo (k : Fin 2) (n : Fin 64) (bytes : List (BitVec 8))
  /-- RPDO_DEADLINE, R325: The gap since the last RPDO exceeds its deadline, and EMCY 0x8250 is queued. -/
  | rpdoDeadline (n : Fin 64)
  /-- TPDO_SEND, R326: An event-driven TPDO is queued on an occurrence of its event source, reading the current snapshot. -/
  | tpdoSend (n : Fin 64)
  /-- TPDO_TIMER, R326: The event timer of an event-driven TPDO expires and the TPDO is sent. -/
  | tpdoTimer (n : Fin 64)
  /-- USDO_REQUEST, R327: A USDO request is received and served in its session context, with the object access performed on completion. -/
  | usdoRequest (can : Fin 2) (node : Fin 128) (sess : Fin 256) (op : UsdoOp)
  /-- USDO_TIMEOUT, R329: A transfer's next request does not arrive within TOUT, so it is aborted and its context closes unless authenticated. -/
  | usdoTimeout (can : Fin 2) (node : Fin 128) (sess : Fin 256)
  /-- MALFORMED_FRAME, R330: A malformed frame is counted and may quarantine its node or pend event 110. -/
  | malformedFrame (k : Fin 2) (node : Option (Fin 128))
  /-- QUARANTINE_END, R330: A node's quarantine of QUAR seconds ends. -/
  | quarantineEnd (node : Fin 128)
  /-- CONTEXT_IDLE_TIMEOUT, R331: An authenticated context has no request for 10 s and closes. -/
  | contextIdleTimeout (can : Fin 2) (node : Fin 128) (sess : Fin 256)
  /-- RX_DISCARD, R311: A received extended-format or remote frame is acknowledged, discarded and counted in RXDISC. -/
  | rxDiscard (k : Fin 2)
  /-- BUS_OFF, R314: A controller enters bus-off, keeping its transmit queue, and event 104 + k pends. -/
  | busOff (k : Fin 2)
  /-- BUS_OFF_RECOVERY, R314: After 128 runs of 11 recessive bits, the controller recovers, resumes its queue and queues the bus-off EMCY. -/
  | busOffRecovery (k : Fin 2)
  /-- ERROR_PASSIVE, R314: A controller enters error passive and event 106 + k pends. -/
  | errorPassive (k : Fin 2)
  /-- CONTROLLER_ENABLE, R312: A write of NET_CTL.EN = 1 checks the bit timing and starts the controller, or is refused. -/
  | controllerEnable (m : Master) (k : Fin 2)
  /-- CONTROLLER_DISABLE, R315: A write of NET_CTL.EN = 0 lets the frame on the bus finish and switches the controller off at the next bus idle. -/
  | controllerDisable (m : Master) (k : Fin 2)
  /-- CONTROLLER_OFF, R315: At bus idle the controller goes off, discarding its queue and closing its USDO contexts. -/
  | controllerOff (k : Fin 2)
  /-- STORE_OBJECT_WRITE, R336: A download of "save" to 0x1010:01 issues store command 3 and answers when it ends. -/
  | storeObjectWrite (can : Fin 2) (node : Fin 128) (sess : Fin 256) (w : Word)
  /-- RESTORE_OBJECT_WRITE, R336: A download of "load" to 0x1011:01 issues command 4. -/
  | restoreObjectWrite (can : Fin 2) (node : Fin 128) (sess : Fin 256) (w : Word)
  /-- HOST_FRAME_START, R342: SPH_SS_N falls, which starts a host frame, selects the SPI mode and lands SPH_CFG. -/
  | hostFrameStart (mode3 : Bool) (header : Option HostHead)
  /-- READ, R346: Host command READ reads successive addresses, one word per slot. -/
  | hostRead
  /-- READ_FIXED, R344: Host command READ FIXED reads one address in every slot. -/
  | hostReadFixed
  /-- WRITE, R347: Host command WRITE buffers write words in 64-byte blocks and issues them to successive addresses. -/
  | hostWrite (w : Word) (crc : BitVec 8)
  /-- WRITE_FIXED, R344: Host command WRITE FIXED writes one address with each word as soon as it is buffered. -/
  | hostWriteFixed (w : Word) (crc : BitVec 8)
  /-- STATUS, R344: Host command STATUS returns SPH_STAT in every slot without interconnect access. -/
  | hostStatus
  /-- HOST_BUSY_LIMIT, R349: 64 consecutive busy bytes in one slot end the frame with BUSYLIM and pend event 112. -/
  | hostBusyLimit
  /-- HOST_FRAME_END, R350: SPH_SS_N rises, which ends the frame, issues buffered writes and records SHORT if the end was early. -/
  | hostFrameEnd (kind : FrameEnd)
  /-- XIP_READ, R355: A read in the XIP window is served from a read-ahead line or fetches a line from flash, or fails. -/
  | xipRead (m : Master) (read : WindowRead)
  /-- LINE_FETCH_COMPLETE, R356: A line fetch from flash completes, serving waiting reads and possibly starting a background fetch. -/
  | lineFetchComplete (words : List Word)
  /-- SPM_GO, R359: A write of SPM_CMD with GO starts a FIFO flash transaction, or is refused. -/
  | spmGo (m : Master) (w : Word)
  /-- SPM_STATUS_POLL, R359: With WAIT set, every 10 µs the flash status is read until bit 0 reads 0. -/
  | spmStatusPoll (poll : SpmPoll)
  /-- SPM_TRANSACTION_END, R359: A FIFO transaction or probe ends, DONE is set, the window lock is released and lines may be invalidated. -/
  | spmTransactionEnd (rx : List Word) (found : Option (List Word))
  /-- SPM_WAIT_TIMEOUT, R359: A WAIT still unsatisfied after 4 s ends the transaction with TOUT and pends event 113. -/
  | spmWaitTimeout
  /-- PROBE, R358: SPM_CTL.PROBE reads the flash SFDP and sets the read command, address bytes and SPM_SFDP. -/
  | probe (m : Master)
  /-- INV, R356: SPM_CTL.INV invalidates the read-ahead lines. -/
  | spmInv (m : Master)
  /-- FLUSH, R360: SPM_CTL.FLUSH empties both FIFOs. -/
  | flush (m : Master)
  /-- TXFIFO_PUSH, R360: A write of SPM_TXFIFO pushes a word, or is refused when the FIFO is full. -/
  | txfifoPush (m : Master) (w : Word)
  /-- RXFIFO_POP, R360: A read of SPM_RXFIFO pops a word, or returns 0 and sets RXUNDER when the FIFO is empty. -/
  | rxfifoPop (m : Master)
  /-- MONITOR_SAMPLE, R361: Every 1 ms, the MGS measures the hub temperature and rails, logs rail excursions and handles the thermal thresholds. -/
  | monitorSample (temp : Int) (mv : List Nat) (active : BitVec 3) (periods : Nat)
  /-- WATCHDOG_SERVICE, R362: The trio services the MGS watchdog, restarting its TOUT. -/
  | watchdogService
  /-- WATCHDOG_EXPIRY, R362: The trio watchdog expires, event 123 pends, the safe state is requested and a reset is scheduled with ACT = 0. -/
  | watchdogExpiry
  /-- MGS_DEFERRED_RESET, R362: The MGS reset falls at the first tick with no axis working, or 1 s after expiry or ACTIVATE_RESET. -/
  | mgsDeferredReset
  /-- LOG_DATA_READ, R365: A read of MGS_LOGDATA returns the next word of the entry at RPTR, advancing RPTR after word 7. -/
  | logDataRead (m : Master)
  /-- LOG_POINTER_WRITE, R365: A write of MGS_LOGRPTR sets the read pointer, clamped to the entries held. -/
  | logPointerWrite (m : Master) (w : Word)
  /-- BEGIN, R368: Update command BEGIN empties the spare slot and starts writing it. -/
  | updBegin (m : Master)
  /-- END, R368: Update command END verifies the written image, making it VALID or INVALID. -/
  | updEnd (m : Master)
  /-- ACTIVATE, R368: Update command ACTIVATE marks the spare slot PENDING for a trial boot. -/
  | activate (m : Master)
  /-- CANCEL, R368: Update command CANCEL returns a PENDING spare slot to VALID. -/
  | cancel (m : Master)
  /-- CONFIRM, R368: Update command CONFIRM makes the TRIAL slot ACTIVE and raises the roll-back counter. -/
  | confirm (m : Master)
  /-- ACTIVATE_RESET, R368: Update command ACTIVATE_RESET activates the spare slot and schedules a reset. -/
  | activateReset (m : Master)
  /-- UPDATE_DATA_WRITE, R368: A write of MGS_UPDDATA stores one image word in the spare slot and advances UPDADDR. -/
  | updateDataWrite (m : Master) (w : Word)
  /-- UPDATE_COMMAND_END, R368: An update command ends, BUSY clears and the slot states are updated. -/
  | updateCommandEnd
  /-- LOGOUT, R373: Security command LOGOUT ends the host port session. -/
  | logout (m : Master)
  /-- SETKEY, R373: Security command SETKEY installs the authentication key and clears ERASED and an erase lock. -/
  | setkey (m : Master)
  /-- GENID, R373: Security command GENID generates a device identity key pair. -/
  | genid (m : Master)
  /-- READPUB, R373: Security command READPUB places the identity public key in SECBUF. -/
  | readpub (m : Master)
  /-- READCERT, R373: Security command READCERT places 64 bytes of the certificate in SECBUF. -/
  | readcert (m : Master) (arg : BitVec 8)
  /-- ATTEST, R373: Security command ATTEST signs a nonce with device data using the identity key. -/
  | attest (m : Master)
  /-- UNLOCK, R373: Security command UNLOCK clears the configuration lock. -/
  | unlock (m : Master)
  /-- CLRALARM, R373: Security command CLRALARM clears MGS_ALSTAT.SEEN. -/
  | clralarm (m : Master)
  /-- SECURITY_COMMAND_END, R373: A security command ends and its RESULT is reported. -/
  | securityCommandEnd
  /-- CHALLENGE_ISSUE, R374: An upload of 0x3300:01 or a read of MGS_AUCHAL[0] issues a 16-byte challenge. -/
  | challengeIssue (ch : AuthChan)
  /-- RESPONSE_CHECK, R374: A written response is checked against the HMAC, authenticating the context or counting a failure. -/
  | responseCheck (ch : AuthChan) (resp : List Word)
  /-- CHALLENGE_EXPIRY, R374: A challenge has had no response within 2 s and is no longer valid. -/
  | challengeExpiry (ch : AuthChan)
  /-- HOST_SESSION_TIMEOUT, R376: The host port session has had no MGS access for 10 s and ends. -/
  | hostSessionTimeout
  /-- DEBUG_SESSION_END, R376: DBG_EN falls, which ends the debug session. -/
  | debugSessionEnd
  /-- TAMPER, R377: TAMPER_N is low for 10 µs, triggering the security alarm with its configured response. -/
  | tamper
  /-- VOLTAGE_GLITCH, R377: A voltage glitch on VAON or VDDC triggers the security alarm. -/
  | voltageGlitch (vddc : Bool)
  /-- CLOCK_GLITCH, R377: A clock glitch on the 32.768 kHz or 25 MHz clock triggers the security alarm. -/
  | clockGlitch (ref : Bool)
  /-- UNAUTHENTICATED_DEBUG, R377: A debug request other than authentication without a session triggers the security alarm. -/
  | unauthenticatedDebug
  /-- KEY_INTEGRITY_CHECK, R372: At boot and every 1 s, the MGS verifies the key region, and a failure triggers the alarm. -/
  | keyIntegrityCheck (ok : Bool)
  /-- KEY_ERASE_COMPLETE, R379: Within 5 ms of an erase latch, the keys are overwritten, ERASED and LOCK are set and sessions close. -/
  | keyEraseComplete
  /-- DEAD_TIME_END, R98: The outgoing gate has been sensed low for DT, so a leg in WAIT_HS or WAIT_LS turns its incoming switch on. -/
  | deadTimeEnd (l : Fin 512)
  /-- OVERRIDE_ONTIME_END, R113: The LEG_TEST on-time ONTIME elapses within a period, and the overridden switch is commanded off. -/
  | overrideOntimeEnd (x : LegMoment)
  /-- SYNC_OUT_PULSE_END, R173: The 1 µs SYNC_OUT pulse started at an axis start tick ends, and SYNC_OUT returns low. -/
  | syncOutPulseEnd
  /-- ERROR_ACTIVE, R299: A CAN controller in error passive becomes error active again, ending the condition of source 106 + k in EV_ACT. -/
  | errorActive (k : Fin 2)
  /-- BUS_INTEGRATION, R315: An enabled CAN controller has seen 11 recessive bits, integrates on the bus with TEC = REC = 0 and sets NET_STAT.ON. -/
  | busIntegration (k : Fin 2)
  /-- COMPARATOR_FAULT, R283: The two halves of the input agreement stage or of the signature comparator disagree in a cycle, pending event 121 and sending the device to safe state with cause COMP. -/
  | comparatorFault
  /-- VOTER_DISAGREEMENT, R282: With one copy out of step or fenced, the two remaining copies' bus requests differ, so the voter blocks the request and the mismatch leads to safe state. -/
  | voterDisagreement
deriving DecidableEq, Repr

end Sys2Proof
end

