-- ==== Sys2Proof/Decode.lean ====
section
/-!
DEFINITION. Decode.lean: the command a word of spec/opcode_table.json spells. The block takes commands from outside and has no
instruction words: no row of the table gives bits, so no word spells a command.
-/

namespace Sys2Proof

/-- The command spelled by a word of `nbits` bits: none, since the table gives no row any bits. -/
def decodeTableWord (_nbits _w : Nat) : Option Instr := none

end Sys2Proof
end

