-- ==== Sys2Proof/Config.lean ====
section
/-!
DEFINITION. Config.lean: the values the spec leaves open. Each is an opaque constant with no body: nothing can be proved of
its value, and a statement holds whatever it is.
-/

namespace Sys2Proof

/-- The legal value nearest to a not-a-number written to AFE_RREF (R87 names the nearest legal value, and there is none). -/
opaque Config.rrefOfNan : Nat → Nat

/-- Whether a quotient whose rounding the spec does not state is rounded up (ENC_SPD of R238 and R239, AX_LA.AMP and AX_STALLST.KEST of R195), by free number. -/
opaque Config.roundUp : Nat → Bool

/-- The count-mode speed of a window with counts and no count before it (R239 takes an edge that does not exist), by free number. -/
opaque Config.firstWindowSpeed : Nat → Nat

/-- When in the present tick a command stops a conversion (R248), in 1/32 motion-clock counts modulo the tick, by free number. -/
opaque Config.stopMoment : Nat → Nat

/-- The code delivered with the result of a pulsed conversion that R252 does not run, by free number. -/
opaque Config.codeNotRun : Nat → Int

/-- The lead resistance, binary32 ohms, of a lead conversion with REF = 2, for which R255 gives no formula, by free number. -/
opaque Config.leadRatio : Nat → BitVec 32

/-- The value a Callendar–Van Dusen curve returns within the accuracy the method leaves (R277), by free number. -/
opaque Config.cvdValue : Nat → BitVec 32

/-- The reference function of a thermocouple type in IEC 60584-1 (R277), in mV by °C, and the ends of the type's range in whole °C:
the standard is not in the spec. -/
opaque Config.tcRef : Nat → BitVec 32 → BitVec 32
opaque Config.tcLow : Nat → Int
opaque Config.tcHigh : Nat → Int

/-- The temperature solved from a reference function within the accuracy of the method (R277), by free number. -/
opaque Config.tcValue : Nat → BitVec 32

/-- The β model of R277, whose rounding is not stated, within the bounds `ntcCurve` sets. Arguments: R, R25, β. -/
opaque Config.ntcValue : BitVec 32 → BitVec 32 → BitVec 32 → BitVec 32

/-- TRIO_MM.COPY for a mismatch of two running copies, of which neither is the odd one (R288), by free number. -/
opaque Config.pairCopy : Nat → Nat

/-- Words the internal random source gives (R373, R374), by free number and place. -/
opaque Config.random : Nat → Nat → BitVec 32

/-- The serial number of the part, object 0x1018:04. -/
opaque Config.serial : BitVec 32

/-- Firmware version and roll-back index of the image the part is delivered with. -/
opaque Config.factoryVersion : BitVec 32
opaque Config.factoryIndex : BitVec 16

/-- The bytes of the firmware verification key hash in the key region (R372). -/
opaque Config.firmwareKeyHash : Nat → BitVec 8

/-- Public half of the identity key and the certificate a part is delivered with (R372), by word. -/
opaque Config.identityKey : Nat → BitVec 32
opaque Config.certificate : Nat → BitVec 32

/-- The signature of ATTEST (R373): free number, the words signed, word of the result. -/
opaque Config.attestation : Nat → List (BitVec 32) → Nat → BitVec 32

/-- The text of object 0x100A, the firmware version of an image as a string (R337 gives no format). -/
opaque Config.versionText : BitVec 32 → List Nat

/-- The manufacturer data word of the EMCYs 0x8210, 0x8220 and 0x8250 (R325 gives none), by free number. -/
opaque Config.emcyWord : Nat → BitVec 32

/-- The nominal VAON of the board in mV, which R45 puts between 1.8 V and 3.3 V. -/
opaque Config.vaonNominal : Nat

end Sys2Proof
end

