-- ==== Sys2Proof/Machine/Float32.lean ====
section
/-!
DEFINITION. Machine/Float32.lean: IEEE 754 binary32 arithmetic, which R195, R216, R255 and R275 to R277 name, on words: exact
results rounded to nearest, ties to even.
-/

namespace Sys2Proof.Machine

/-- The canonical not-a-number. -/
def f32NaN : Word := 0x7FC00000

/-- Positive infinity. -/
def f32Inf : Word := 0x7F800000

/-- Sign, exponent and fraction fields. -/
def f32Sign (w : Word) : Bool := w.getLsbD 31
def f32Exp (w : Word) : Nat := (w.toNat >>> 23) % 256
def f32Frac (w : Word) : Nat := w.toNat % 2 ^ 23

def f32IsNaN (w : Word) : Bool := f32Exp w = 255 && f32Frac w ≠ 0
def f32IsInf (w : Word) : Bool := f32Exp w = 255 && f32Frac w = 0
def f32IsZero (w : Word) : Bool := w.toNat % 2 ^ 31 = 0

/-- The significand of a finite number: its value is significand × 2^(f32Scale − 149). -/
def f32Mant (w : Word) : Nat := if f32Exp w = 0 then f32Frac w else f32Frac w + 2 ^ 23

/-- The scale of a finite number, see f32Mant. -/
def f32Scale (w : Word) : Nat := if f32Exp w = 0 then 0 else f32Exp w - 1

/-- The word with a sign put on it. -/
def f32WithSign (neg : Bool) (n : Nat) : Word := BitVec.ofNat 32 (if neg then n + 2 ^ 31 else n)

/-- Zero of a sign. -/
def f32Zero (neg : Bool) : Word := f32WithSign neg 0

/-- `num / den` rounded to an integer, ties to even; `den` is not 0. -/
def divEven (num den : Nat) : Nat :=
  let q := num / den
  let r := num % den
  if den < 2 * r then q + 1 else if 2 * r < den then q else q + q % 2

/-- The binary32 nearest to ± num / den × 2^-149, with den not 0. -/
def f32Round (neg : Bool) (num den : Nat) : Word :=
  if num = 0 then f32Zero neg
  else
    -- the least scale at which the significand stays below 2^24
    let e0 := (num / den).log2
    let k := if e0 ≤ 23 then 0 else e0 - 23
    let q := divEven num (den * 2 ^ k)
    let (q, k) := if q = 2 ^ 24 then (2 ^ 23, k + 1) else (q, k)
    if q < 2 ^ 23 then f32WithSign neg q
    else if 253 < k then f32WithSign neg f32Inf.toNat
    else f32WithSign neg ((k + 1) * 2 ^ 23 + (q - 2 ^ 23))

/-- A finite number as an integer multiple of 2^-149. -/
def f32Int (w : Word) : Int :=
  let m : Int := (f32Mant w * 2 ^ f32Scale w : Nat)
  if f32Sign w then -m else m

/-- The nearest binary32 of an integer multiple of 2^-149. -/
def f32OfScaled (i : Int) (negZero : Bool) : Word :=
  if i = 0 then f32Zero negZero else f32Round (decide (i < 0)) i.natAbs 1

/-- The nearest binary32 of an integer. -/
def f32OfInt (i : Int) : Word := f32Round (decide (i < 0)) (i.natAbs * 2 ^ 149) 1

/-- The nearest binary32 of a fraction; the denominator is not 0. -/
def f32OfRat (num : Int) (den : Nat) : Word := f32Round (decide (num < 0)) (num.natAbs * 2 ^ 149) den

/-- Sign change. -/
def f32Neg (a : Word) : Word := a ^^^ 0x80000000

/-- Magnitude. -/
def f32Abs (a : Word) : Word := a &&& 0x7FFFFFFF

/-- Addition. -/
def f32Add (a b : Word) : Word :=
  if f32IsNaN a || f32IsNaN b then f32NaN
  else if f32IsInf a then (if f32IsInf b && f32Sign a ≠ f32Sign b then f32NaN else a)
  else if f32IsInf b then b
  else f32OfScaled (f32Int a + f32Int b) (f32Sign a && f32Sign b && f32IsZero a && f32IsZero b)

/-- Subtraction. -/
def f32Sub (a b : Word) : Word := f32Add a (f32Neg b)

/-- Multiplication. -/
def f32Mul (a b : Word) : Word :=
  let neg := f32Sign a != f32Sign b
  if f32IsNaN a || f32IsNaN b then f32NaN
  else if f32IsInf a || f32IsInf b then
    (if f32IsZero a || f32IsZero b then f32NaN else f32WithSign neg f32Inf.toNat)
  else f32Round neg ((f32Int a).natAbs * (f32Int b).natAbs) (2 ^ 149)

/-- Division. -/
def f32Div (a b : Word) : Word :=
  let neg := f32Sign a != f32Sign b
  if f32IsNaN a || f32IsNaN b then f32NaN
  else if f32IsInf a then (if f32IsInf b then f32NaN else f32WithSign neg f32Inf.toNat)
  else if f32IsInf b then f32Zero neg
  else if f32IsZero b then (if f32IsZero a then f32NaN else f32WithSign neg f32Inf.toNat)
  else f32Round neg ((f32Int a).natAbs * 2 ^ 149) (f32Int b).natAbs

/-- Largest r with r² ≤ n, searched over `fuel` bits from the top. -/
def isqrtBits : Nat → Nat → Nat → Nat
  | 0, _, r => r
  | b + 1, n, r =>
    let r' := r + 2 ^ b
    isqrtBits b n (if r' * r' ≤ n then r' else r)

/-- The integer square root, rounded down. -/
def isqrt (n : Nat) : Nat := isqrtBits (n.log2 / 2 + 1) n 0

/-- Square root: the significand is computed to 40 more bits, with a sticky bit for the rest. -/
def f32Sqrt (a : Word) : Word :=
  if f32IsNaN a then f32NaN
  else if f32IsZero a then a
  else if f32Sign a then f32NaN
  else if f32IsInf a then a
  else
    -- a = x × 2^-149, so sqrt a = sqrt (x × 2^149) × 2^-149
    let x := (f32Int a).natAbs * 2 ^ 149 * 2 ^ 160
    let r := isqrt x
    f32Round false (2 * r + (if r * r = x then 0 else 1)) (2 ^ 81)

/-- a < b; false with a not-a-number. -/
def f32Lt (a b : Word) : Bool :=
  if f32IsNaN a || f32IsNaN b then false
  else
    let key (w : Word) : Int := if f32Sign w then -((w.toNat % 2 ^ 31 : Nat) : Int) else ((w.toNat % 2 ^ 31 : Nat) : Int)
    decide (key a < key b)

/-- a ≤ b; false with a not-a-number. -/
def f32Le (a b : Word) : Bool := !f32IsNaN a && !f32IsNaN b && !f32Lt b a

/-- A finite number rounded up to an integer. -/
def f32Ceil (a : Word) : Int := -(-(f32Int a) / Int.ofNat (2 ^ 149))

/-- A finite number rounded to the nearest integer, halves away from zero. -/
def f32Nearest (a : Word) : Int :=
  let m : Nat := (2 * (f32Int a).natAbs + 2 ^ 149) / 2 ^ 150
  if f32Sign a then -(Int.ofNat m) else Int.ofNat m

/-- A finite number times `k`, rounded down to an integer. -/
def f32FloorMul (a : Word) (k : Int) : Int := (f32Int a * k) / Int.ofNat (2 ^ 149)

end Sys2Proof.Machine
end

