-- ==== Sys2Proof/Machine/RegTypes.lean ====
section
/-!
DEFINITION. Machine/RegTypes.lean: what an entry of the register map holds (R69, R73, R78, R87).
-/

namespace Sys2Proof.Machine

/-- The blocks of the address map, R69. SPH and SPM share one range of the map and are told apart by their bases. -/
inductive Block where
  | GCTL | AX | LEG | RK | CO | SEG | WAVE | ENC | STEP | AFE | SD | EV | PL | NET | SPH | SPM | MGS
deriving DecidableEq, Repr

/-- Access types of fields, R73. -/
inductive AccessType where
  | rw | ro | wo | w1c | rwm | rwg | rwb | rws
deriving DecidableEq, Repr

/-- Which values of a field are legal, R87. -/
inductive Check where
  /-- Every value of the field is legal. -/
  | any
  /-- A quantity from `lo` to `hi`; values outside are clamped. -/
  | range (lo hi : Nat)
  /-- A signed quantity from `lo` to `hi`; values outside are clamped. -/
  | srange (lo hi : Int)
  /-- A coded field whose defined values are 0 to `hi`; others end the write with REFUSED. -/
  | codedTo (hi : Nat)
  /-- A command field whose defined values are `lo` to `hi`; others end the write with REFUSED. -/
  | cmd (lo hi : Nat)
  /-- Eight 4-bit quantities, each from `lo` to `hi` (PL_RANKLIM). -/
  | nibbles (lo hi : Nat)
  /-- A band entry speed: 1 to 20000, or 0xFFFF for never (R160). -/
  | band
  /-- The signed homing speed, magnitude 1 to 2000 (AX_HOMECFG.HSPD). -/
  | hspd
  /-- The reference resistor, binary32 from 1.0 to 1,000,000.0 (AFE_RREF). -/
  | rref
deriving DecidableEq, Repr

/-- The landing classes of buffered fields, R78, and the boundaries some chapters name for fields of their own. -/
inductive BufClass where
  /-- Takes effect at the write (no boundary is named). -/
  | now
  | axis | pwm | leg | conv | frame
  /-- CO_PWMPER, which lands under R133. -/
  | period
  /-- SPH_CFG, which lands at the next SS_N falling edge. -/
  | hostFrame
  /-- SPM_CFG, SPM_CLK and SPM_XOFS, which land when the memory port is idle. -/
  | memIdle
  /-- TRIO_CFG, which lands at the end of the signature window in progress. -/
  | window
deriving DecidableEq, Repr

/-- Whether a register is a half of a 64-bit pair, R89 and R90. -/
inductive PairRole where
  | none | lo | hi
deriving DecidableEq, Repr

/-- One field of a register: its bits, access type, reset value, legal values, buffered class, and whether a read
of it comes from the tick snapshot of R88. -/
structure FieldDef where
  name  : String
  hi    : Nat
  lo    : Nat
  ty    : AccessType
  reset : Nat
  chk   : Check
  cls   : BufClass
  snap  : Bool
deriving DecidableEq, Repr

/-- The registers, under the names the spec gives them. -/
inductive RegName where
  | GCTL_ID | GCTL_PROD | GCTL_SCRATCH | GCTL_BUSERR | GCTL_BUSERRADDR | GCTL_BUSERRCNT | GCTL_SEQERR | GCTL_PARERR
  | GCTL_BUFHOLD | GCTL_BUFSTAT | GCTL_CLAMPREQHI | GCTL_CLAMPADDR | GCTL_CLAMPREQ | GCTL_CLAMPAPP | GCTL_CLAMPAPPHI
  | GCTL_PWRDOM | GCTL_PWRSTAT | GCTL_RUNCTL | GCTL_RUNSTAT | GCTL_CLKSTAT | GCTL_RTC_LO | GCTL_RTC_HI | GCTL_RTCALM
  | GCTL_RSTCAUSE | GCTL_STORE | GCTL_STORESTAT | AX_CTL | AX_MODE | AX_TGT_LO | AX_TGT_HI | AX_VMAX | AX_AMAX
  | AX_DMAX | AX_QDMAX | AX_JERK | AX_VTGT | AX_POS_LO | AX_POS_HI | AX_VEL | AX_ACC | AX_LIMN_LO | AX_LIMN_HI
  | AX_LIMP_LO | AX_LIMP_HI | AX_LIMCFG | AX_STAT | AX_EVT | AX_CHAIN | AX_CHAINST | AX_FOLLOW | AX_GEARNUM
  | AX_GEARDEN | AX_FLWERR | AX_HALTCFG | AX_STARTCFG | AX_STARTSTAT | AX_LOOPS | AX_CS | AX_CSLIM | AX_TRIM | AX_CSEFF
  | AX_THR | AX_DECAY | AX_DECAYST | AX_STANDSTILL | AX_SSTAT | AX_WAVESEL | AX_RESBAND0 | AX_RESBAND1 | AX_USTAT
  | AX_BEMFCFG | AX_BEMFSPD | AX_BEMFKE | AX_STALLCFG | AX_LA | AX_STALLST | AX_LACTL | AX_BEMFCNT | AX_HOMECFG
  | AX_HOMEMAX | AX_HOMEBACK | AX_HOMEOFS_LO | AX_HOMEOFS_HI | AX_HOMEST | AX_WITCFG | AX_WITGAIN | AX_WITOFS_LO
  | AX_WITOFS_HI | AX_WITTOL | AX_WITST | AX_ENERGY_LO | AX_ENERGY_HI | AX_MOVEEN | AX_EPFS | AX_FLTCFG | AX_FLTSTAT
  | AX_FLTCTL | AX_FLTCNT | LEG_CFG | LEG_STAT | LEG_EDGE | LEG_FLTCNT | LEG_TEST | LEG_TRIP | RK_MODE | RK_STAT
  | RK_VCP | RK_IMB | RK_BALCFG | RK_FLTSTAT | RK_FLTCTL | RK_TRIPMAP | RK_THERM | CO_PWMPER | CO_BLANK | CO_CHOPCFG
  | CO_PERCNT | CO_DTRIM | CO_SLEWTGT | CO_DEADT | CO_TEMP | CO_TEMPMAX | CO_STAT | CO_PROTCFG | CO_VM | CO_FLTSTAT
  | CO_FLTCTL | CO_LINKCFG | CO_LINKSTAT | CO_LINKERR | SEG0 | SEG1 | SEG2 | SEG3 | WAVE | WAVE_CTL | WAVE_STAT
  | ENC_CFG | ENC_FILT | ENC_CNT | ENC_ZLATCH | ENC_ZVAL | ENC_STAT | ENC_ERR | ENC_ERRCFG | ENC_SPD | ENC_PER
  | ENC_SPDCFG | ENC_MCNT | CMP_CFG | CMP_POS | CMP_SPACING | CMP_COUNT | CMP_STAT | CMP_CNTS | STEP_CFG | STEP_FILT
  | STEP_CNT | STEP_TIMING | STEP_STAT | STEP_ERR | STEP_MCNT | AFE_CFGA | AFE_CFGB | AFE_CFGC | AFE_IEXC | AFE_VEXC
  | AFE_TDAC | AFE_RREF | AFE_STAT | AFE_BRK | AFE_BRKCNT | AFE_DUTY | SD_CFG | SD_CMD | SD_DIRECT | SD_SEQ0 | SD_SEQ1
  | SD_SEQCTL | SD_AVG | SD_STAT | SD_RESULT | SD_RESINFO | SD_INJRESULT | SD_INJRESINFO | SD_CNT | SD_LINRES
  | SD_LINADDR | SD_LINDATA | SD_CAL_OFS | SD_CAL_GAIN | EV_PEND | EV_EN | EV_ACT | EV_AXDONE | EV_GCFG | EV_IRQ0ID
  | EV_IRQ1ID | EV_PIN | EV_DOORBELL | EV_LEGFLT | EV_CFG | PL_CMD | PL_STAT | PL_CFG | PL_XADDR | PL_BUDGET_VMA
  | PL_BUDGET_VMB | PL_BUDGET_PKG | PL_SKIPTOL | PL_BUDGET_COACH | PL_OVH | PL_RANKLIM | PL_SUM | PL_MOVERS
  | PL_MAKESPAN | PL_PRED | PL_ENERGY_LO | PL_ENERGY_HI | PL_EVINFO | PL_RCPHDR | PL_AXLIVE | PL_AXMOT | PL_AXLRN
  | PL_ORD | PL_RCP0 | PL_RCP1 | PL_RCP2 | PL_RCP3 | PL_RES | PL_RES_START | PL_RES_END | PL_RES_TEST | PL_RES_EEST
  | PL_RES_EACT | AXEN | AXSTART | AXALERT | NET_CTL | NET_NBT | NET_DBT | NET_STAT | NET_CNT | NET_NODE | NET_GUARD
  | NET_SESS | NET_MAL | NET_HB | NET_HBACT | SPH_CFG | SPH_STAT | SPH_ERR | SPH_ERRCODE | SPH_CNT | SPM_CFG | SPM_CLK
  | SPM_XOFS | SPM_SFDP | SPM_CMD | SPM_ADDR | SPM_TXFIFO | SPM_RXFIFO | SPM_STAT | SPM_CTL | MGS_MON | MGS_THCFG
  | MGS_WDCFG | MGS_LOGRPTR | MGS_LOGSTAT | MGS_LOGCFG | MGS_LOGDATA | MGS_UPDCTL | MGS_UPDSTAT | MGS_UPDADDR
  | MGS_UPDDATA | MGS_RBCNT | MGS_AUCHAL | MGS_AURESP | MGS_AUSTAT | MGS_SECCMD | MGS_SECSTAT | MGS_ALCFG | MGS_ALSTAT
  | MGS_PROV | MGS_SECBUF | TRIO_CFG | TRIO_STAT | TRIO_MM | TRIO_CNT | TRIO_INDIS | TRIO_STEST | TRIO_SRAM | TRIO_CTL
deriving DecidableEq, Repr

/-- One register of a block: `count` copies from offset `off`, `stride` bytes apart. A guarded register (R76) also
answers at the complement address, its own address plus 4. -/
structure RegDef where
  reg     : RegName
  off     : Nat
  count   : Nat
  stride  : Nat
  guarded : Bool
  pair    : PairRole
  fields  : List FieldDef
deriving DecidableEq, Repr

/-- The place of a field: the address of its register and its bits. -/
structure Fld where
  addr : Nat
  hi   : Nat
  lo   : Nat
deriving DecidableEq, Repr

end Sys2Proof.Machine
end

