-- ==== Sys2Proof/Machine/RegMap.lean ====
section
/-!
DEFINITION. Machine/RegMap.lean: the register map, one table per block, as the register tables of spec/01 to spec/19 give it.
An entry holds the register's offset in its block, how many copies it has and their stride, and every field with its
bits, access type (R73), reset value, legal values (R87) and buffered class (R78).
-/

namespace Sys2Proof.Machine


/-- Registers of the GCTL block, part 0. -/
def gctlRegs0 : List RegDef := [
  ⟨.GCTL_ID, 0x000, 1, 0, false, .none, [
    ⟨"DEVICE", 31, 16, .ro, 0x5120, .any, .now, false⟩,
    ⟨"STEPL", 15, 8, .ro, 2, .any, .now, false⟩,
    ⟨"STEPD", 7, 0, .ro, 0, .any, .now, false⟩]⟩,
  ⟨.GCTL_PROD, 0x004, 1, 0, false, .none, [
    ⟨"PROD", 31, 0, .ro, 0x51201, .any, .now, false⟩]⟩,
  ⟨.GCTL_SCRATCH, 0x008, 1, 0, false, .none, [
    ⟨"DATA", 31, 0, .rw, 0, .any, .now, false⟩]⟩,
  ⟨.GCTL_BUSERR, 0x010, 1, 0, false, .none, [
    ⟨"VALID", 31, 31, .w1c, 0, .any, .now, false⟩,
    ⟨"MORE", 30, 30, .ro, 0, .any, .now, false⟩,
    ⟨"MASTER", 19, 16, .ro, 0, .any, .now, false⟩,
    ⟨"CODE", 3, 0, .ro, 0, .any, .now, false⟩]⟩,
  ⟨.GCTL_BUSERRADDR, 0x014, 1, 0, false, .none, [
    ⟨"ADDR", 23, 0, .ro, 0, .any, .now, false⟩]⟩,
  ⟨.GCTL_BUSERRCNT, 0x018, 1, 0, false, .none, [
    ⟨"COUNT", 15, 0, .ro, 0, .any, .now, false⟩]⟩,
  ⟨.GCTL_SEQERR, 0x01C, 1, 0, false, .none, [
    ⟨"MGS", 2, 2, .w1c, 0, .any, .now, false⟩,
    ⟨"TRIO", 1, 1, .w1c, 0, .any, .now, false⟩,
    ⟨"HOST", 0, 0, .w1c, 0, .any, .now, false⟩]⟩,
  ⟨.GCTL_PARERR, 0x020, 1, 0, false, .none, [
    ⟨"VALID", 31, 31, .w1c, 0, .any, .now, false⟩,
    ⟨"MORE", 30, 30, .ro, 0, .any, .now, false⟩,
    ⟨"ADDR", 23, 0, .ro, 0, .any, .now, false⟩]⟩,
  ⟨.GCTL_BUFHOLD, 0x024, 1, 0, false, .none, [
    ⟨"MASK", 31, 16, .wo, 0, .any, .now, false⟩,
    ⟨"HOLD", 4, 0, .rwm, 0, .any, .now, false⟩]⟩,
  ⟨.GCTL_BUFSTAT, 0x028, 1, 0, false, .none, [
    ⟨"HOLDTO", 4, 0, .w1c, 0, .any, .now, false⟩]⟩,
  ⟨.GCTL_CLAMPREQHI, 0x02C, 1, 0, false, .none, [
    ⟨"REQHI", 31, 0, .ro, 0, .any, .now, false⟩]⟩,
  ⟨.GCTL_CLAMPADDR, 0x030, 1, 0, false, .none, [
    ⟨"VALID", 31, 31, .w1c, 0, .any, .now, false⟩,
    ⟨"MORE", 30, 30, .ro, 0, .any, .now, false⟩,
    ⟨"PAIR", 29, 29, .ro, 0, .any, .now, false⟩,
    ⟨"ADDR", 23, 0, .ro, 0, .any, .now, false⟩]⟩,
  ⟨.GCTL_CLAMPREQ, 0x034, 1, 0, false, .none, [
    ⟨"REQ", 31, 0, .ro, 0, .any, .now, false⟩]⟩,
  ⟨.GCTL_CLAMPAPP, 0x038, 1, 0, false, .none, [
    ⟨"APP", 31, 0, .ro, 0, .any, .now, false⟩]⟩,
  ⟨.GCTL_CLAMPAPPHI, 0x03C, 1, 0, false, .none, [
    ⟨"APPHI", 31, 0, .ro, 0, .any, .now, false⟩]⟩,
  ⟨.GCTL_PWRDOM, 0x040, 1, 0, true, .none, [
    ⟨"SWRST", 31, 31, .rwg, 0, .any, .now, false⟩,
    ⟨"FORCE", 11, 8, .rwg, 0, .any, .now, false⟩,
    ⟨"COACH", 7, 4, .rwg, 0, .any, .now, false⟩,
    ⟨"AFE", 0, 0, .rwg, 1, .any, .now, false⟩]⟩]

/-- Registers of the GCTL block, part 1. -/
def gctlRegs1 : List RegDef := [
  ⟨.GCTL_PWRSTAT, 0x048, 1, 0, false, .none, [
    ⟨"ONFAIL", 15, 12, .ro, 0, .any, .now, false⟩,
    ⟨"PENDOFF", 11, 8, .ro, 0, .any, .now, false⟩,
    ⟨"COACHON", 7, 4, .ro, 0, .any, .now, false⟩,
    ⟨"AFEON", 0, 0, .ro, 0, .any, .now, false⟩]⟩,
  ⟨.GCTL_RUNCTL, 0x04C, 1, 0, false, .none, [
    ⟨"MASK", 31, 16, .wo, 0, .any, .now, false⟩,
    ⟨"WTAMPER", 10, 10, .rwm, 1, .any, .now, false⟩,
    ⟨"WRTC", 9, 9, .rwm, 0, .any, .now, false⟩,
    ⟨"WPIN", 8, 8, .rwm, 1, .any, .now, false⟩,
    ⟨"WSTEP", 7, 7, .rwm, 0, .any, .now, false⟩,
    ⟨"WENC", 6, 6, .rwm, 0, .any, .now, false⟩,
    ⟨"WCAN1", 5, 5, .rwm, 0, .any, .now, false⟩,
    ⟨"WCAN0", 4, 4, .rwm, 0, .any, .now, false⟩,
    ⟨"AUTODOZE", 3, 3, .rwm, 0, .any, .now, false⟩,
    ⟨"REQ", 2, 0, .rwm, 0, .any, .now, false⟩]⟩,
  ⟨.GCTL_RUNSTAT, 0x050, 1, 0, false, .none, [
    ⟨"WAKESRC", 15, 8, .w1c, 0, .any, .now, false⟩,
    ⟨"REFUSE", 6, 4, .ro, 0, .any, .now, false⟩,
    ⟨"STATE", 2, 0, .ro, 0, .any, .now, false⟩]⟩,
  ⟨.GCTL_CLKSTAT, 0x054, 1, 0, false, .none, [
    ⟨"T32FAIL", 3, 3, .w1c, 0, .any, .now, false⟩,
    ⟨"T32SRC", 2, 2, .ro, 0, .any, .now, false⟩,
    ⟨"REFOK", 1, 1, .ro, 0, .any, .now, false⟩,
    ⟨"LOCK", 0, 0, .ro, 0, .any, .now, false⟩]⟩,
  ⟨.GCTL_RTC_LO, 0x058, 1, 0, false, .lo, [
    ⟨"RTC", 31, 0, .rw, 0, .any, .now, false⟩]⟩,
  ⟨.GCTL_RTC_HI, 0x05C, 1, 0, false, .hi, [
    ⟨"RTC", 15, 0, .rw, 0, .any, .now, false⟩]⟩,
  ⟨.GCTL_RTCALM, 0x060, 1, 0, false, .none, [
    ⟨"ALM", 31, 0, .rw, 0xFFFFFFFF, .any, .now, false⟩]⟩,
  ⟨.GCTL_RSTCAUSE, 0x064, 1, 0, false, .none, [
    ⟨"HIB", 7, 7, .w1c, 0, .any, .now, false⟩,
    ⟨"MGS", 6, 6, .w1c, 0, .any, .now, false⟩,
    ⟨"CLKFAIL", 5, 5, .w1c, 0, .any, .now, false⟩,
    ⟨"SOFT", 4, 4, .w1c, 0, .any, .now, false⟩,
    ⟨"BOR", 3, 3, .w1c, 0, .any, .now, false⟩,
    ⟨"PWRGOOD", 2, 2, .w1c, 0, .any, .now, false⟩,
    ⟨"PIN", 1, 1, .w1c, 0, .any, .now, false⟩,
    ⟨"POR", 0, 0, .w1c, 1, .any, .now, false⟩]⟩,
  ⟨.GCTL_STORE, 0x080, 1, 0, true, .none, [
    ⟨"CMD", 3, 0, .rwg, 0, (.cmd 1 4), .now, false⟩]⟩,
  ⟨.GCTL_STORESTAT, 0x088, 1, 0, false, .none, [
    ⟨"COUNT", 31, 16, .ro, 0, .any, .now, false⟩,
    ⟨"FAIL", 2, 2, .w1c, 0, .any, .now, false⟩,
    ⟨"DONE", 1, 1, .w1c, 0, .any, .now, false⟩,
    ⟨"BUSY", 0, 0, .ro, 0, .any, .now, false⟩]⟩]

/-- Registers of the GCTL block. -/
def gctlRegs : List RegDef := gctlRegs0 ++ gctlRegs1

/-- Registers of the AX block, part 0. -/
def axRegs0 : List RegDef := [
  ⟨.AX_CTL, 0x000, 1, 0, false, .none, [
    ⟨"CMD", 3, 0, .wo, 0, (.cmd 1 7), .axis, false⟩]⟩,
  ⟨.AX_MODE, 0x004, 1, 0, false, .none, [
    ⟨"MODE", 2, 0, .rws, 0, (.codedTo 5), .axis, false⟩]⟩,
  ⟨.AX_TGT_LO, 0x008, 1, 0, false, .lo, [
    ⟨"TGT", 31, 0, .rwb, 0, .any, .axis, false⟩]⟩,
  ⟨.AX_TGT_HI, 0x00C, 1, 0, false, .hi, [
    ⟨"TGT", 31, 0, .rwb, 0, .any, .axis, false⟩]⟩,
  ⟨.AX_VMAX, 0x010, 1, 0, false, .none, [
    ⟨"VMAX", 21, 0, .rws, 0x28F5C, (.range 1 3355443), .axis, false⟩]⟩,
  ⟨.AX_AMAX, 0x014, 1, 0, false, .none, [
    ⟨"ACC", 31, 0, .rws, 0x10C6F8, (.range 1 4294967295), .axis, false⟩]⟩,
  ⟨.AX_DMAX, 0x018, 1, 0, false, .none, [
    ⟨"ACC", 31, 0, .rws, 0x10C6F8, (.range 1 4294967295), .axis, false⟩]⟩,
  ⟨.AX_QDMAX, 0x01C, 1, 0, false, .none, [
    ⟨"ACC", 31, 0, .rws, 0x14F8B59, (.range 1 4294967295), .axis, false⟩]⟩,
  ⟨.AX_JERK, 0x020, 1, 0, false, .none, [
    ⟨"JERK", 31, 0, .rws, 0, .any, .axis, false⟩]⟩,
  ⟨.AX_VTGT, 0x024, 1, 0, false, .none, [
    ⟨"VTGT", 31, 0, .rwb, 0, (.srange (-3355443) 3355443), .axis, false⟩]⟩,
  ⟨.AX_POS_LO, 0x028, 1, 0, false, .lo, [
    ⟨"POS", 31, 0, .rw, 0, .any, .axis, true⟩]⟩,
  ⟨.AX_POS_HI, 0x02C, 1, 0, false, .hi, [
    ⟨"POS", 31, 0, .rw, 0, .any, .axis, true⟩]⟩,
  ⟨.AX_VEL, 0x030, 1, 0, false, .none, [
    ⟨"VEL", 31, 0, .ro, 0, .any, .axis, true⟩]⟩,
  ⟨.AX_ACC, 0x034, 1, 0, false, .none, [
    ⟨"ACC", 31, 0, .ro, 0, .any, .axis, true⟩]⟩,
  ⟨.AX_LIMN_LO, 0x038, 1, 0, false, .lo, [
    ⟨"LIMN", 31, 0, .rws, 1, .any, .axis, false⟩]⟩,
  ⟨.AX_LIMN_HI, 0x03C, 1, 0, false, .hi, [
    ⟨"LIMN", 31, 0, .rws, 0xFFFFFF80, .any, .axis, false⟩]⟩]

/-- Registers of the AX block, part 1. -/
def axRegs1 : List RegDef := [
  ⟨.AX_LIMP_LO, 0x040, 1, 0, false, .lo, [
    ⟨"LIMP", 31, 0, .rws, 0xFFFFFFFF, .any, .axis, false⟩]⟩,
  ⟨.AX_LIMP_HI, 0x044, 1, 0, false, .hi, [
    ⟨"LIMP", 31, 0, .rws, 0x7F, .any, .axis, false⟩]⟩,
  ⟨.AX_LIMCFG, 0x048, 1, 0, false, .none, [
    ⟨"EN", 0, 0, .rws, 0, .any, .axis, false⟩]⟩,
  ⟨.AX_STAT, 0x04C, 1, 0, false, .none, [
    ⟨"NOTPRES", 31, 31, .ro, 0, .any, .axis, true⟩,
    ⟨"ENABLED", 30, 30, .ro, 0, .any, .axis, true⟩,
    ⟨"DISPEND", 29, 29, .ro, 0, .any, .axis, true⟩,
    ⟨"HALTED", 28, 28, .ro, 0, .any, .axis, true⟩,
    ⟨"PML", 27, 27, .ro, 0, .any, .axis, true⟩,
    ⟨"ARMED", 26, 26, .ro, 0, .any, .axis, true⟩,
    ⟨"WAITING", 25, 25, .ro, 0, .any, .axis, true⟩,
    ⟨"TGTPEND", 24, 24, .ro, 0, .any, .axis, true⟩,
    ⟨"TRAP", 23, 23, .ro, 0, .any, .axis, true⟩,
    ⟨"OUTSIDE", 22, 22, .ro, 0, .any, .axis, true⟩,
    ⟨"MODEACT", 18, 16, .ro, 0, .any, .axis, true⟩,
    ⟨"MOVING", 15, 15, .ro, 0, .any, .axis, true⟩,
    ⟨"STOPKIND", 14, 12, .ro, 0, .any, .axis, true⟩]⟩,
  ⟨.AX_EVT, 0x050, 1, 0, false, .none, [
    ⟨"ERRCODE", 15, 12, .ro, 0, .any, .axis, true⟩,
    ⟨"FLWOVR", 8, 8, .w1c, 0, .any, .axis, true⟩,
    ⟨"CHAINERR", 7, 7, .w1c, 0, .any, .axis, true⟩,
    ⟨"SAT", 6, 6, .w1c, 0, .any, .axis, true⟩,
    ⟨"LIMOVR", 5, 5, .w1c, 0, .any, .axis, true⟩,
    ⟨"LIMQ", 4, 4, .w1c, 0, .any, .axis, true⟩,
    ⟨"LIMHIT", 3, 3, .w1c, 0, .any, .axis, true⟩,
    ⟨"SEGEV", 2, 2, .w1c, 0, .any, .axis, true⟩,
    ⟨"STOPPED", 1, 1, .w1c, 0, .any, .axis, true⟩,
    ⟨"DONE", 0, 0, .w1c, 0, .any, .axis, true⟩]⟩,
  ⟨.AX_CHAIN, 0x054, 1, 0, false, .none, [
    ⟨"STOPEN", 31, 31, .rws, 0, .any, .axis, false⟩,
    ⟨"STOPSEG", 27, 16, .rws, 0, .any, .axis, false⟩,
    ⟨"FIRST", 11, 0, .rws, 0, .any, .axis, false⟩]⟩,
  ⟨.AX_CHAINST, 0x058, 1, 0, false, .none, [
    ⟨"LASTEV", 27, 16, .ro, 0, .any, .axis, true⟩,
    ⟨"SEG", 11, 0, .ro, 0, .any, .axis, true⟩]⟩,
  ⟨.AX_FOLLOW, 0x05C, 1, 0, false, .none, [
    ⟨"DIRECT", 16, 16, .rws, 0, .any, .axis, false⟩,
    ⟨"AXIS", 14, 8, .rws, 0, .any, .axis, false⟩,
    ⟨"CH", 6, 4, .rws, 0, .any, .axis, false⟩,
    ⟨"SRC", 1, 0, .rws, 0, (.codedTo 2), .axis, false⟩]⟩,
  ⟨.AX_GEARNUM, 0x060, 1, 0, false, .none, [
    ⟨"NUM", 31, 0, .rws, 1, .any, .axis, false⟩]⟩,
  ⟨.AX_GEARDEN, 0x064, 1, 0, false, .none, [
    ⟨"DEN", 15, 0, .rws, 1, (.range 1 65535), .axis, false⟩]⟩,
  ⟨.AX_FLWERR, 0x068, 1, 0, false, .none, [
    ⟨"ERR", 31, 0, .ro, 0, .any, .axis, true⟩]⟩,
  ⟨.AX_HALTCFG, 0x06C, 1, 0, false, .none, [
    ⟨"PIN", 16, 16, .rws, 1, .any, .axis, false⟩,
    ⟨"LOSTSPD", 15, 0, .rws, 0x32, (.range 0 20000), .axis, false⟩]⟩,
  ⟨.AX_STARTCFG, 0x070, 1, 0, false, .none, [
    ⟨"EDGE", 5, 5, .rws, 0, .any, .axis, false⟩,
    ⟨"SYNCOUT", 4, 4, .rws, 0, .any, .axis, false⟩,
    ⟨"SEGSYNC", 3, 2, .rws, 0, (.codedTo 2), .axis, false⟩,
    ⟨"SRC", 1, 0, .rws, 0, (.codedTo 2), .axis, false⟩]⟩,
  ⟨.AX_STARTSTAT, 0x074, 1, 0, false, .none, [
    ⟨"CLR", 31, 31, .wo, 0, .any, .axis, false⟩,
    ⟨"LASTREJ", 11, 8, .ro, 0, .any, .axis, true⟩,
    ⟨"IGNCNT", 7, 0, .ro, 0, .any, .axis, true⟩]⟩,
  ⟨.AX_LOOPS, 0x078, 1, 0, false, .none, [
    ⟨"LOOPLEFT", 31, 16, .ro, 0, .any, .axis, true⟩,
    ⟨"LOOPS", 15, 0, .rws, 0, .any, .axis, false⟩]⟩,
  ⟨.AX_CS, 0x100, 1, 0, false, .none, [
    ⟨"CS", 7, 0, .rws, 0x3F, .any, .pwm, false⟩]⟩]

/-- Registers of the AX block, part 2. -/
def axRegs2 : List RegDef := [
  ⟨.AX_CSLIM, 0x104, 1, 0, false, .none, [
    ⟨"CSMAX", 15, 8, .rws, 0xFF, .any, .axis, false⟩,
    ⟨"CSMIN", 7, 0, .rws, 0x20, .any, .axis, false⟩]⟩,
  ⟨.AX_TRIM, 0x108, 1, 0, false, .none, [
    ⟨"EN", 31, 31, .rws, 0, .any, .axis, false⟩,
    ⟨"ACC", 30, 30, .rws, 0, .any, .axis, false⟩,
    ⟨"URGENT", 29, 24, .rws, 0xF, (.range 5 30), .axis, false⟩,
    ⟨"FALLDIV", 23, 16, .rws, 0x10, (.range 1 255), .axis, false⟩,
    ⟨"RISE", 15, 12, .rws, 8, (.range 1 15), .axis, false⟩,
    ⟨"DB", 11, 8, .rws, 5, (.range 1 15), .axis, false⟩,
    ⟨"TGT", 7, 0, .rws, 0x3C, (.range 30 85), .axis, false⟩]⟩,
  ⟨.AX_CSEFF, 0x10C, 1, 0, false, .none, [
    ⟨"SUSP", 11, 9, .ro, 1, .any, .axis, true⟩,
    ⟨"CSEFF", 7, 0, .ro, 0x3F, .any, .axis, true⟩]⟩,
  ⟨.AX_THR, 0x110, 1, 0, false, .none, [
    ⟨"OPB", 31, 30, .ro, 0, .any, .axis, true⟩,
    ⟨"POLB", 29, 29, .ro, 0, .any, .axis, true⟩,
    ⟨"THRB", 25, 16, .ro, 0, .any, .axis, true⟩,
    ⟨"OPA", 15, 14, .ro, 0, .any, .axis, true⟩,
    ⟨"POLA", 13, 13, .ro, 0, .any, .axis, true⟩,
    ⟨"THRA", 9, 0, .ro, 0, .any, .axis, true⟩]⟩,
  ⟨.AX_DECAY, 0x114, 1, 0, false, .none, [
    ⟨"TRIM", 15, 15, .rws, 0, .any, .axis, false⟩,
    ⟨"FF", 14, 8, .rws, 0x20, .any, .pwm, false⟩,
    ⟨"MODE", 1, 0, .rws, 2, (.codedTo 2), .pwm, false⟩]⟩,
  ⟨.AX_DECAYST, 0x118, 1, 0, false, .none, [
    ⟨"FFEFF", 14, 8, .ro, 0x20, .any, .axis, true⟩,
    ⟨"EARLY", 7, 0, .ro, 0, .any, .axis, true⟩]⟩,
  ⟨.AX_STANDSTILL, 0x120, 1, 0, false, .none, [
    ⟨"DELAY", 31, 16, .rws, 0, .any, .axis, false⟩,
    ⟨"PCT", 14, 8, .rws, 0x32, (.range 1 100), .axis, false⟩,
    ⟨"ENERG", 7, 2, .rws, 0, .any, .axis, false⟩,
    ⟨"MODE", 1, 0, .rws, 0, .any, .axis, false⟩]⟩,
  ⟨.AX_SSTAT, 0x124, 1, 0, false, .none, [
    ⟨"DIR", 8, 8, .ro, 1, .any, .axis, true⟩,
    ⟨"STATE", 2, 0, .ro, 0, .any, .axis, true⟩]⟩,
  ⟨.AX_WAVESEL, 0x140, 1, 0, false, .none, [
    ⟨"INV", 8, 8, .rws, 0, .any, .axis, false⟩,
    ⟨"TABLE", 2, 0, .rws, 0, .any, .axis, false⟩]⟩,
  ⟨.AX_RESBAND0, 0x144, 1, 0, false, .none, [
    ⟨"V2", 31, 16, .rws, 0xFA0, .band, .axis, false⟩,
    ⟨"V1", 15, 0, .rws, 0x3E8, .band, .axis, false⟩]⟩,
  ⟨.AX_RESBAND1, 0x148, 1, 0, false, .none, [
    ⟨"V4", 31, 16, .rws, 0xFFFF, .band, .axis, false⟩,
    ⟨"V3", 15, 0, .rws, 0x2EE0, .band, .axis, false⟩]⟩,
  ⟨.AX_USTAT, 0x14C, 1, 0, false, .none, [
    ⟨"TGT", 18, 16, .ro, 0, .any, .axis, true⟩,
    ⟨"PEND", 15, 15, .ro, 0, .any, .axis, true⟩,
    ⟨"BAND", 14, 12, .ro, 0, .any, .axis, true⟩,
    ⟨"ADDR", 9, 0, .ro, 0, .any, .axis, true⟩]⟩,
  ⟨.AX_BEMFCFG, 0x160, 1, 0, false, .none, [
    ⟨"EN", 31, 31, .rws, 0, .any, .axis, false⟩,
    ⟨"TZMAX", 23, 16, .rws, 8, (.range 2 40), .axis, false⟩,
    ⟨"TSET", 15, 8, .rws, 0xA, (.range 2 100), .axis, false⟩,
    ⟨"PH", 7, 0, .rws, 0x20, (.range 32 128), .axis, false⟩]⟩,
  ⟨.AX_BEMFSPD, 0x164, 1, 0, false, .none, [
    ⟨"MINSPD", 15, 0, .rws, 0x14, (.range 1 2000), .axis, false⟩]⟩,
  ⟨.AX_BEMFKE, 0x168, 1, 0, false, .none, [
    ⟨"LEARNED", 31, 31, .ro, 0, .any, .axis, true⟩,
    ⟨"LEARNING", 30, 30, .ro, 0, .any, .axis, true⟩,
    ⟨"KE", 15, 0, .rws, 0, .any, .axis, false⟩]⟩,
  ⟨.AX_STALLCFG, 0x16C, 1, 0, false, .none, [
    ⟨"EN", 31, 31, .rws, 0, .any, .axis, false⟩,
    ⟨"ACT", 29, 28, .rws, 0, .any, .axis, false⟩,
    ⟨"N", 27, 24, .rws, 2, (.range 1 15), .axis, false⟩,
    ⟨"AFRAC", 15, 8, .rws, 0x32, (.range 10 90), .axis, false⟩,
    ⟨"THANG", 7, 0, .rws, 0x50, (.range 45 120), .axis, false⟩]⟩]

/-- Registers of the AX block, part 3. -/
def axRegs3 : List RegDef := [
  ⟨.AX_LA, 0x170, 1, 0, false, .none, [
    ⟨"VALID", 31, 31, .ro, 0, .any, .axis, true⟩,
    ⟨"REASON", 30, 28, .ro, 5, .any, .axis, true⟩,
    ⟨"ANGLE", 27, 16, .ro, 0, .any, .axis, true⟩,
    ⟨"AMP", 15, 0, .ro, 0, .any, .axis, true⟩]⟩,
  ⟨.AX_STALLST, 0x174, 1, 0, false, .none, [
    ⟨"STALL", 31, 31, .w1c, 0, .any, .axis, true⟩,
    ⟨"UNAV", 30, 30, .ro, 0, .any, .axis, true⟩,
    ⟨"CNT", 27, 24, .ro, 0, .any, .axis, true⟩,
    ⟨"STALLS", 23, 16, .ro, 0, .any, .axis, true⟩,
    ⟨"KEST", 15, 0, .ro, 0, .any, .axis, true⟩]⟩,
  ⟨.AX_LACTL, 0x178, 1, 0, false, .none, [
    ⟨"CLRE", 31, 31, .wo, 0, .any, .axis, false⟩,
    ⟨"CLRS", 30, 30, .wo, 0, .any, .axis, false⟩,
    ⟨"CLRH", 29, 29, .wo, 0, .any, .axis, false⟩,
    ⟨"WITALIGN", 1, 1, .wo, 0, .any, .axis, false⟩,
    ⟨"LEARN", 0, 0, .wo, 0, .any, .axis, false⟩]⟩,
  ⟨.AX_BEMFCNT, 0x17C, 1, 0, false, .none, [
    ⟨"WINDOWS", 31, 16, .ro, 0, .any, .axis, true⟩,
    ⟨"NOZERO", 15, 8, .ro, 0, .any, .axis, true⟩,
    ⟨"CLIP", 7, 0, .ro, 0, .any, .axis, true⟩]⟩,
  ⟨.AX_HOMECFG, 0x180, 1, 0, false, .none, [
    ⟨"SETTLE", 31, 24, .rws, 0x32, .any, .axis, false⟩,
    ⟨"HCS", 23, 16, .rws, 0x20, .any, .axis, false⟩,
    ⟨"HSPD", 15, 0, .rws, 0x64, .hspd, .axis, false⟩]⟩,
  ⟨.AX_HOMEMAX, 0x184, 1, 0, false, .none, [
    ⟨"MAX", 31, 0, .rws, 0x100000, (.range 1 2147483647), .axis, false⟩]⟩,
  ⟨.AX_HOMEBACK, 0x188, 1, 0, false, .none, [
    ⟨"BACK", 23, 0, .rws, 0x200, .any, .axis, false⟩]⟩,
  ⟨.AX_HOMEOFS_LO, 0x18C, 1, 0, false, .lo, [
    ⟨"OFS", 31, 0, .rws, 0, .any, .axis, false⟩]⟩,
  ⟨.AX_HOMEOFS_HI, 0x190, 1, 0, false, .hi, [
    ⟨"OFS", 31, 0, .rws, 0, .any, .axis, false⟩]⟩,
  ⟨.AX_HOMEST, 0x194, 1, 0, false, .none, [
    ⟨"HOMED", 31, 31, .ro, 0, .any, .axis, true⟩,
    ⟨"ERR", 7, 4, .ro, 0, .any, .axis, true⟩,
    ⟨"STATE", 2, 0, .ro, 0, .any, .axis, true⟩]⟩,
  ⟨.AX_WITCFG, 0x198, 1, 0, false, .none, [
    ⟨"ACT", 31, 30, .rws, 0, .any, .axis, false⟩,
    ⟨"WN", 23, 16, .rws, 2, (.range 1 255), .axis, false⟩,
    ⟨"STILL", 15, 15, .rws, 1, .any, .axis, false⟩,
    ⟨"SLOT", 11, 8, .rws, 0, .any, .axis, false⟩,
    ⟨"CH", 6, 4, .rws, 0, .any, .axis, false⟩,
    ⟨"SRC", 1, 0, .rws, 0, (.codedTo 2), .axis, false⟩]⟩,
  ⟨.AX_WITGAIN, 0x19C, 1, 0, false, .none, [
    ⟨"GAIN", 31, 0, .rws, 0x10000, .any, .axis, false⟩]⟩,
  ⟨.AX_WITOFS_LO, 0x1A0, 1, 0, false, .lo, [
    ⟨"OFS", 31, 0, .rws, 0, .any, .axis, false⟩]⟩,
  ⟨.AX_WITOFS_HI, 0x1A4, 1, 0, false, .hi, [
    ⟨"OFS", 31, 0, .rws, 0, .any, .axis, false⟩]⟩,
  ⟨.AX_WITTOL, 0x1A8, 1, 0, false, .none, [
    ⟨"TOL", 23, 0, .rws, 0x100, (.range 1 16777215), .axis, false⟩]⟩,
  ⟨.AX_WITST, 0x1AC, 1, 0, false, .none, [
    ⟨"LOST", 31, 31, .w1c, 0, .any, .axis, true⟩,
    ⟨"INV", 30, 30, .ro, 0, .any, .axis, true⟩,
    ⟨"ALIGNPEND", 29, 29, .ro, 0, .any, .axis, true⟩,
    ⟨"CNT", 23, 16, .ro, 0, .any, .axis, true⟩,
    ⟨"DIFF", 15, 0, .ro, 0, .any, .axis, true⟩]⟩]

/-- Registers of the AX block, part 4. -/
def axRegs4 : List RegDef := [
  ⟨.AX_ENERGY_LO, 0x1B0, 1, 0, false, .lo, [
    ⟨"E", 31, 0, .ro, 0, .any, .axis, true⟩]⟩,
  ⟨.AX_ENERGY_HI, 0x1B4, 1, 0, false, .hi, [
    ⟨"E", 31, 0, .ro, 0, .any, .axis, true⟩]⟩,
  ⟨.AX_MOVEEN, 0x1B8, 1, 0, false, .none, [
    ⟨"E", 31, 0, .ro, 0, .any, .axis, true⟩]⟩,
  ⟨.AX_EPFS, 0x1BC, 1, 0, false, .none, [
    ⟨"EPFS", 23, 0, .ro, 0xFFFFFF, .any, .axis, true⟩]⟩,
  ⟨.AX_FLTCFG, 0x1C0, 1, 0, false, .none, [
    ⟨"WIN", 31, 24, .rws, 0xA, (.range 1 255), .axis, false⟩,
    ⟨"TRIES", 23, 20, .rws, 3, .any, .axis, false⟩,
    ⟨"WAIT", 9, 0, .rws, 0x64, (.range 1 1000), .axis, false⟩]⟩,
  ⟨.AX_FLTSTAT, 0x1C4, 1, 0, false, .none, [
    ⟨"RECOV", 31, 31, .w1c, 0, .any, .axis, true⟩,
    ⟨"LEG", 24, 16, .ro, 0, .any, .axis, true⟩,
    ⟨"TRYCNT", 15, 12, .ro, 0, .any, .axis, true⟩,
    ⟨"CAUSE", 11, 8, .ro, 0, .any, .axis, true⟩,
    ⟨"STATE", 1, 0, .ro, 0, .any, .axis, true⟩]⟩,
  ⟨.AX_FLTCTL, 0x1C8, 1, 0, false, .none, [
    ⟨"LATCH", 1, 1, .wo, 0, .any, .axis, false⟩,
    ⟨"CLR", 0, 0, .wo, 0, .any, .axis, false⟩]⟩,
  ⟨.AX_FLTCNT, 0x1CC, 1, 0, false, .none, [
    ⟨"CLR", 31, 31, .wo, 0, .any, .axis, false⟩,
    ⟨"RETRIES", 15, 8, .ro, 0, .any, .axis, true⟩,
    ⟨"FAULTS", 7, 0, .ro, 0, .any, .axis, true⟩]⟩]

/-- Registers of the AX block. -/
def axRegs : List RegDef := axRegs0 ++ axRegs1 ++ axRegs2 ++ axRegs3 ++ axRegs4

/-- Registers of the LEG block, part 0. -/
def legRegs0 : List RegDef := [
  ⟨.LEG_CFG, 0x000, 1, 0, false, .none, [
    ⟨"ADAPT", 8, 8, .rws, 1, .any, .leg, false⟩,
    ⟨"DRVINIT", 4, 0, .rws, 0x10, .any, .leg, false⟩]⟩,
  ⟨.LEG_STAT, 0x004, 1, 0, false, .none, [
    ⟨"HOC", 15, 15, .w1c, 0, .any, .leg, true⟩,
    ⟨"OC", 14, 14, .w1c, 0, .any, .leg, true⟩,
    ⟨"IMB", 13, 13, .w1c, 0, .any, .leg, true⟩,
    ⟨"ILKTO", 12, 12, .w1c, 0, .any, .leg, true⟩,
    ⟨"XCMD", 11, 11, .w1c, 0, .any, .leg, true⟩,
    ⟨"SLEWU", 10, 10, .w1c, 0, .any, .leg, true⟩,
    ⟨"FOLLOW", 9, 9, .ro, 0, .any, .leg, true⟩,
    ⟨"PINNED", 8, 8, .ro, 0, .any, .leg, true⟩,
    ⟨"DRVCODE", 4, 0, .ro, 0x10, .any, .leg, true⟩]⟩,
  ⟨.LEG_EDGE, 0x008, 1, 0, false, .none, [
    ⟨"TFALL", 15, 8, .ro, 0, .any, .leg, true⟩,
    ⟨"TRISE", 7, 0, .ro, 0, .any, .leg, true⟩]⟩,
  ⟨.LEG_FLTCNT, 0x00C, 1, 0, false, .none, [
    ⟨"CLR", 31, 31, .wo, 0, .any, .leg, false⟩,
    ⟨"ILKCNT", 30, 24, .ro, 0, .any, .leg, true⟩,
    ⟨"HOCCNT", 23, 16, .ro, 0, .any, .leg, true⟩,
    ⟨"OCCNT", 15, 8, .ro, 0, .any, .leg, true⟩,
    ⟨"XCMDCNT", 7, 0, .ro, 0, .any, .leg, true⟩]⟩,
  ⟨.LEG_TEST, 0x010, 1, 0, true, .none, [
    ⟨"ONTIME", 15, 4, .rwg, 0, .any, .leg, false⟩,
    ⟨"LSON", 2, 2, .rwg, 0, .any, .leg, false⟩,
    ⟨"HSON", 1, 1, .rwg, 0, .any, .leg, false⟩,
    ⟨"OVR", 0, 0, .rwg, 0, .any, .leg, false⟩]⟩,
  ⟨.LEG_TRIP, 0x020, 1, 0, false, .none, [
    ⟨"HARD", 31, 31, .ro, 0, .any, .leg, true⟩,
    ⟨"SW", 30, 30, .ro, 0, .any, .leg, true⟩,
    ⟨"PERIOD", 29, 22, .ro, 0, .any, .leg, true⟩,
    ⟨"TIME", 13, 0, .ro, 0, .any, .leg, true⟩]⟩]

/-- Registers of the LEG block. -/
def legRegs : List RegDef := legRegs0

/-- Registers of the RK block, part 0. -/
def rkRegs0 : List RegDef := [
  ⟨.RK_MODE, 0x000, 1, 0, true, .none, [
    ⟨"MODE1", 3, 2, .rwg, 0, (.codedTo 2), .leg, false⟩,
    ⟨"MODE0", 1, 0, .rwg, 0, (.codedTo 2), .leg, false⟩]⟩,
  ⟨.RK_STAT, 0x008, 1, 0, false, .none, [
    ⟨"IMB", 17, 16, .w1c, 0, .any, .leg, true⟩,
    ⟨"CPRUN", 9, 9, .ro, 0, .any, .leg, true⟩,
    ⟨"CPOK", 8, 8, .ro, 0, .any, .leg, true⟩,
    ⟨"MODEPEND", 5, 4, .ro, 0, .any, .leg, true⟩,
    ⟨"APPLIED1", 3, 2, .ro, 0, .any, .leg, true⟩,
    ⟨"APPLIED0", 1, 0, .ro, 0, .any, .leg, true⟩]⟩,
  ⟨.RK_VCP, 0x00C, 1, 0, false, .none, [
    ⟨"VCPDIF", 11, 0, .ro, 0, .any, .leg, true⟩]⟩,
  ⟨.RK_IMB, 0x010, 1, 0, false, .none, [
    ⟨"PCT", 15, 8, .ro, 0, .any, .leg, true⟩,
    ⟨"H", 4, 4, .ro, 0, .any, .leg, true⟩,
    ⟨"J", 3, 0, .ro, 0, .any, .leg, true⟩]⟩,
  ⟨.RK_BALCFG, 0x014, 1, 0, false, .none, [
    ⟨"MASK", 31, 16, .wo, 0, .any, .leg, false⟩,
    ⟨"NPER", 15, 8, .rwm, 0x10, (.range 1 255), .leg, false⟩,
    ⟨"THR", 5, 0, .rwm, 0x14, (.range 5 50), .leg, false⟩]⟩,
  ⟨.RK_FLTSTAT, 0x040, 1, 0, false, .none, [
    ⟨"CAUSE", 15, 12, .ro, 0, .any, .leg, true⟩,
    ⟨"WARN", 2, 2, .ro, 0, .any, .leg, true⟩,
    ⟨"CLRBLK", 1, 1, .ro, 0, .any, .leg, true⟩,
    ⟨"FAULT", 0, 0, .ro, 0, .any, .leg, true⟩]⟩,
  ⟨.RK_FLTCTL, 0x044, 1, 0, false, .none, [
    ⟨"CLR", 0, 0, .wo, 0, .any, .leg, false⟩]⟩,
  ⟨.RK_TRIPMAP, 0x048, 1, 0, false, .none, [
    ⟨"LEGS", 31, 0, .ro, 0, .any, .leg, true⟩]⟩,
  ⟨.RK_THERM, 0x04C, 1, 0, false, .none, [
    ⟨"VALID", 31, 31, .ro, 0, .any, .leg, true⟩,
    ⟨"TEMP", 15, 0, .ro, 0, .any, .leg, true⟩]⟩]

/-- Registers of the RK block. -/
def rkRegs : List RegDef := rkRegs0

/-- Registers of the CO block, part 0. -/
def coRegs0 : List RegDef := [
  ⟨.CO_PWMPER, 0x000, 1, 0, false, .none, [
    ⟨"PER", 13, 0, .rws, 0x1388, (.range 2000 10000), .period, false⟩]⟩,
  ⟨.CO_BLANK, 0x004, 1, 0, false, .none, [
    ⟨"BLANK", 7, 0, .rws, 0x3C, (.range 20 200), .leg, false⟩]⟩,
  ⟨.CO_CHOPCFG, 0x008, 1, 0, false, .none, [
    ⟨"ZCG", 12, 8, .rws, 2, (.range 1 20), .leg, false⟩,
    ⟨"STAGGER", 0, 0, .rws, 1, .any, .leg, false⟩]⟩,
  ⟨.CO_PERCNT, 0x00C, 1, 0, false, .none, [
    ⟨"COUNT", 31, 0, .ro, 0, .any, .leg, true⟩]⟩,
  ⟨.CO_DTRIM, 0x010, 1, 0, false, .none, [
    ⟨"STEP", 19, 16, .rws, 2, (.range 1 15), .leg, false⟩,
    ⟨"WIN", 15, 8, .rws, 8, (.range 2 255), .leg, false⟩,
    ⟨"RIPTGT", 5, 0, .rws, 0xA, (.range 2 50), .leg, false⟩]⟩,
  ⟨.CO_SLEWTGT, 0x040, 1, 0, false, .none, [
    ⟨"TGT", 7, 0, .rws, 0x3C, (.range 20 200), .leg, false⟩]⟩,
  ⟨.CO_DEADT, 0x044, 1, 0, false, .none, [
    ⟨"DT", 6, 0, .rws, 0x14, (.range 4 100), .leg, false⟩]⟩,
  ⟨.CO_TEMP, 0x050, 8, 4, false, .none, [
    ⟨"VALID", 31, 31, .ro, 0, .any, .leg, true⟩,
    ⟨"TEMP", 15, 0, .ro, 0, .any, .leg, true⟩]⟩,
  ⟨.CO_TEMPMAX, 0x070, 1, 0, false, .none, [
    ⟨"SENSOR", 18, 16, .ro, 0, .any, .leg, true⟩,
    ⟨"TEMP", 15, 0, .ro, 0, .any, .leg, true⟩]⟩,
  ⟨.CO_STAT, 0x074, 1, 0, false, .none, [
    ⟨"XCMDR", 15, 12, .ro, 0, .any, .leg, true⟩,
    ⟨"SLEWR", 11, 8, .ro, 0, .any, .leg, true⟩,
    ⟨"CPOKR", 7, 4, .ro, 0, .any, .leg, true⟩,
    ⟨"GREGOK", 0, 0, .ro, 0, .any, .leg, true⟩]⟩,
  ⟨.CO_PROTCFG, 0x080, 1, 0, false, .none, [
    ⟨"MASK", 31, 16, .wo, 0, .any, .leg, false⟩,
    ⟨"PERSIST", 15, 8, .rwm, 8, (.range 1 255), .leg, false⟩,
    ⟨"OVACT", 0, 0, .rwm, 0, .any, .leg, false⟩]⟩,
  ⟨.CO_VM, 0x084, 1, 0, false, .none, [
    ⟨"UVF", 19, 19, .ro, 0, .any, .leg, true⟩,
    ⟨"OVF", 18, 18, .ro, 0, .any, .leg, true⟩,
    ⟨"UVW", 17, 17, .ro, 0, .any, .leg, true⟩,
    ⟨"OVW", 16, 16, .ro, 0, .any, .leg, true⟩,
    ⟨"VM", 15, 0, .ro, 0, .any, .leg, true⟩]⟩,
  ⟨.CO_FLTSTAT, 0x088, 1, 0, false, .none, [
    ⟨"CAUSE", 7, 4, .ro, 0, .any, .leg, true⟩,
    ⟨"FAULT", 0, 0, .ro, 0, .any, .leg, true⟩]⟩,
  ⟨.CO_FLTCTL, 0x08C, 1, 0, false, .none, [
    ⟨"CLRVM", 1, 1, .wo, 0, .any, .leg, false⟩,
    ⟨"CLR", 0, 0, .wo, 0, .any, .leg, false⟩]⟩,
  ⟨.CO_LINKCFG, 0x0C0, 1, 0, false, .none, [
    ⟨"MASK", 31, 16, .wo, 0, .any, .leg, false⟩,
    ⟨"CLRCNT", 1, 1, .wo, 0, .any, .leg, false⟩,
    ⟨"SAFE", 0, 0, .rwm, 0, .any, .leg, false⟩]⟩,
  ⟨.CO_LINKSTAT, 0x0C4, 1, 0, false, .none, [
    ⟨"LOSSCAUSE", 7, 4, .ro, 0, .any, .leg, false⟩,
    ⟨"SAFEACT", 1, 1, .ro, 0, .any, .leg, false⟩,
    ⟨"UP", 0, 0, .ro, 0, .any, .leg, false⟩]⟩]

/-- Registers of the CO block, part 1. -/
def coRegs1 : List RegDef := [
  ⟨.CO_LINKERR, 0x0C8, 1, 0, false, .none, [
    ⟨"CRCUP", 31, 16, .ro, 0, .any, .leg, false⟩,
    ⟨"CRCDN", 15, 8, .ro, 0, .any, .leg, false⟩,
    ⟨"MISS", 7, 0, .ro, 0, .any, .leg, false⟩]⟩]

/-- Registers of the CO block. -/
def coRegs : List RegDef := coRegs0 ++ coRegs1

/-- Registers of the SEG block, part 0. -/
def segRegs0 : List RegDef := [
  ⟨.SEG0, 0x000, 1, 0, false, .none, [
    ⟨"DPOSL", 31, 0, .rw, 0, .any, .now, false⟩]⟩,
  ⟨.SEG1, 0x004, 1, 0, false, .none, [
    ⟨"DPOSH", 31, 24, .rw, 0, .any, .now, false⟩,
    ⟨"DUR", 23, 0, .rw, 0, .any, .now, false⟩]⟩,
  ⟨.SEG2, 0x008, 1, 0, false, .none, [
    ⟨"VEND", 31, 0, .rw, 0, .any, .now, false⟩]⟩,
  ⟨.SEG3, 0x00C, 1, 0, false, .none, [
    ⟨"FLAGS", 31, 24, .rw, 0, .any, .now, false⟩,
    ⟨"ZERO", 23, 12, .rw, 0, .any, .now, false⟩,
    ⟨"NEXT", 11, 0, .rw, 0, .any, .now, false⟩]⟩]

/-- Registers of the SEG block. -/
def segRegs : List RegDef := segRegs0

/-- Registers of the WAVE block, part 0. -/
def waveRegs0 : List RegDef := [
  ⟨.WAVE, 0x000, 257, 4, false, .none, [
    ⟨"Q", 11, 0, .rw, 0, .any, .now, false⟩]⟩,
  ⟨.WAVE_CTL, 0x404, 1, 0, false, .none, [
    ⟨"LOAD", 0, 0, .rw, 0, .any, .now, false⟩]⟩,
  ⟨.WAVE_STAT, 0x408, 1, 0, false, .none, [
    ⟨"CLR", 31, 31, .wo, 0, .any, .now, false⟩,
    ⟨"STORED", 16, 16, .ro, 0, .any, .now, false⟩,
    ⟨"CORR", 15, 8, .ro, 0, .any, .now, false⟩,
    ⟨"UNCORR", 7, 0, .ro, 0, .any, .now, false⟩]⟩]

/-- Registers of the WAVE block. -/
def waveRegs : List RegDef := waveRegs0

/-- Registers of the ENC block, part 0. -/
def encRegs0 : List RegDef := [
  ⟨.ENC_CFG, 0x000, 1, 0, false, .none, [
    ⟨"REPEAT", 9, 8, .rws, 0, (.codedTo 2), .axis, false⟩,
    ⟨"ZEV", 6, 6, .rws, 0, .any, .axis, false⟩,
    ⟨"ZGATE", 5, 5, .rws, 0, .any, .axis, false⟩,
    ⟨"ZPOL", 4, 4, .rws, 0, .any, .axis, false⟩,
    ⟨"ZMODE", 3, 2, .rws, 0, .any, .axis, false⟩,
    ⟨"INV", 1, 1, .rws, 0, .any, .axis, false⟩,
    ⟨"EN", 0, 0, .rws, 0, .any, .axis, false⟩]⟩,
  ⟨.ENC_FILT, 0x004, 1, 0, false, .none, [
    ⟨"PRE", 15, 8, .rws, 0, .any, .axis, false⟩,
    ⟨"N", 7, 0, .rws, 4, (.range 1 255), .axis, false⟩]⟩,
  ⟨.ENC_CNT, 0x008, 1, 0, false, .none, [
    ⟨"CNT", 31, 0, .rw, 0, .any, .axis, true⟩]⟩,
  ⟨.ENC_ZLATCH, 0x00C, 1, 0, false, .none, [
    ⟨"LATCH", 31, 0, .ro, 0, .any, .axis, true⟩]⟩,
  ⟨.ENC_ZVAL, 0x010, 1, 0, false, .none, [
    ⟨"VAL", 31, 0, .rws, 0, .any, .axis, false⟩]⟩,
  ⟨.ENC_STAT, 0x014, 1, 0, false, .none, [
    ⟨"FAULT", 11, 11, .w1c, 0, .any, .axis, true⟩,
    ⟨"ILL", 10, 10, .w1c, 0, .any, .axis, true⟩,
    ⟨"ZSEEN", 9, 9, .w1c, 0, .any, .axis, true⟩,
    ⟨"WRAP", 8, 8, .w1c, 0, .any, .axis, true⟩,
    ⟨"SPDMODE", 4, 4, .ro, 0, .any, .axis, true⟩,
    ⟨"DIR", 3, 3, .ro, 1, .any, .axis, true⟩,
    ⟨"Z", 2, 2, .ro, 0, .any, .axis, true⟩,
    ⟨"B", 1, 1, .ro, 0, .any, .axis, true⟩,
    ⟨"A", 0, 0, .ro, 0, .any, .axis, true⟩]⟩,
  ⟨.ENC_ERR, 0x018, 1, 0, false, .none, [
    ⟨"CLR", 31, 31, .wo, 0, .any, .axis, false⟩,
    ⟨"ERRCNT", 7, 0, .ro, 0, .any, .axis, true⟩]⟩,
  ⟨.ENC_ERRCFG, 0x01C, 1, 0, false, .none, [
    ⟨"WIN", 31, 16, .rws, 0x64, (.range 1 65535), .axis, false⟩,
    ⟨"LIM", 7, 0, .rws, 4, (.range 1 255), .axis, false⟩]⟩,
  ⟨.ENC_SPD, 0x020, 1, 0, false, .none, [
    ⟨"SPD", 31, 0, .ro, 0, .any, .axis, true⟩]⟩,
  ⟨.ENC_PER, 0x024, 1, 0, false, .none, [
    ⟨"PER", 23, 0, .ro, 0xFFFFFF, .any, .axis, true⟩]⟩,
  ⟨.ENC_SPDCFG, 0x028, 1, 0, false, .none, [
    ⟨"SPDSW", 19, 0, .rws, 0x7D0, (.range 100 1000000), .axis, false⟩]⟩,
  ⟨.ENC_MCNT, 0x02C, 1, 0, false, .none, [
    ⟨"MCNT", 31, 0, .ro, 0, .any, .axis, true⟩]⟩,
  ⟨.CMP_CFG, 0x040, 1, 0, false, .none, [
    ⟨"PW", 31, 16, .rws, 0xC8, (.range 4 65535), .axis, false⟩,
    ⟨"AXIS", 14, 8, .rws, 0, .any, .axis, false⟩,
    ⟨"SRC", 4, 4, .rws, 0, .any, .axis, false⟩,
    ⟨"POL", 3, 3, .rws, 0, .any, .axis, false⟩,
    ⟨"CATCHUP", 2, 2, .rws, 0, .any, .axis, false⟩,
    ⟨"DIR", 1, 1, .rws, 0, .any, .axis, false⟩,
    ⟨"ARM", 0, 0, .rwb, 0, .any, .axis, false⟩]⟩,
  ⟨.CMP_POS, 0x044, 1, 0, false, .none, [
    ⟨"POS", 31, 0, .rw, 0, .any, .axis, true⟩]⟩,
  ⟨.CMP_SPACING, 0x048, 1, 0, false, .none, [
    ⟨"SPACING", 30, 0, .rws, 0x100, (.range 1 2147483647), .axis, false⟩]⟩,
  ⟨.CMP_COUNT, 0x04C, 1, 0, false, .none, [
    ⟨"LEFT", 31, 16, .ro, 0, .any, .axis, true⟩,
    ⟨"COUNT", 15, 0, .rws, 0, .any, .axis, false⟩]⟩]

/-- Registers of the ENC block, part 1. -/
def encRegs1 : List RegDef := [
  ⟨.CMP_STAT, 0x050, 1, 0, false, .none, [
    ⟨"OUT", 4, 4, .ro, 0, .any, .axis, true⟩,
    ⟨"OVLP", 3, 3, .w1c, 0, .any, .axis, true⟩,
    ⟨"DONE", 2, 2, .w1c, 0, .any, .axis, true⟩,
    ⟨"BEHIND", 1, 1, .w1c, 0, .any, .axis, true⟩,
    ⟨"ARMED", 0, 0, .ro, 0, .any, .axis, true⟩]⟩,
  ⟨.CMP_CNTS, 0x054, 1, 0, false, .none, [
    ⟨"CLR", 31, 31, .wo, 0, .any, .axis, false⟩,
    ⟨"SKIP", 30, 16, .ro, 0, .any, .axis, true⟩,
    ⟨"HITS", 15, 0, .ro, 0, .any, .axis, true⟩]⟩]

/-- Registers of the ENC block. -/
def encRegs : List RegDef := encRegs0 ++ encRegs1

/-- Registers of the STEP block, part 0. -/
def stepRegs0 : List RegDef := [
  ⟨.STEP_CFG, 0x000, 1, 0, false, .none, [
    ⟨"PUPS", 26, 16, .rws, 0x10, (.range 1 1024), .axis, false⟩,
    ⟨"DIRINV", 2, 2, .rws, 0, .any, .axis, false⟩,
    ⟨"EDGE", 1, 1, .rws, 0, .any, .axis, false⟩,
    ⟨"EN", 0, 0, .rws, 0, .any, .axis, false⟩]⟩,
  ⟨.STEP_FILT, 0x004, 1, 0, false, .none, [
    ⟨"PRE", 15, 8, .rws, 0, .any, .axis, false⟩,
    ⟨"N", 7, 0, .rws, 4, (.range 1 255), .axis, false⟩]⟩,
  ⟨.STEP_CNT, 0x008, 1, 0, false, .none, [
    ⟨"CNT", 31, 0, .rw, 0, .any, .axis, true⟩]⟩,
  ⟨.STEP_TIMING, 0x00C, 1, 0, false, .none, [
    ⟨"TSU", 23, 16, .rws, 4, .any, .axis, false⟩,
    ⟨"MINPER", 15, 0, .rws, 0x28, (.range 1 65535), .axis, false⟩]⟩,
  ⟨.STEP_STAT, 0x010, 1, 0, false, .none, [
    ⟨"SETUP", 10, 10, .w1c, 0, .any, .axis, true⟩,
    ⟨"OVSPD", 9, 9, .w1c, 0, .any, .axis, true⟩,
    ⟨"WRAP", 8, 8, .w1c, 0, .any, .axis, true⟩,
    ⟨"DIR", 1, 1, .ro, 0, .any, .axis, true⟩,
    ⟨"STEP", 0, 0, .ro, 0, .any, .axis, true⟩]⟩,
  ⟨.STEP_ERR, 0x014, 1, 0, false, .none, [
    ⟨"CLR", 31, 31, .wo, 0, .any, .axis, false⟩,
    ⟨"OVCNT", 15, 8, .ro, 0, .any, .axis, true⟩,
    ⟨"SUCNT", 7, 0, .ro, 0, .any, .axis, true⟩]⟩,
  ⟨.STEP_MCNT, 0x018, 1, 0, false, .none, [
    ⟨"MCNT", 31, 0, .ro, 0, .any, .axis, true⟩]⟩]

/-- Registers of the STEP block. -/
def stepRegs : List RegDef := stepRegs0

/-- Registers of the AFE block, part 0. -/
def afeRegs0 : List RegDef := [
  ⟨.AFE_CFGA, 0x000, 16, 4, false, .none, [
    ⟨"ISRC", 30, 30, .rws, 0, .any, .conv, false⟩,
    ⟨"TDAC", 29, 28, .rws, 0, (.codedTo 2), .conv, false⟩,
    ⟨"LEADK", 27, 26, .rws, 0, (.codedTo 2), .conv, false⟩,
    ⟨"OHMS", 25, 25, .rws, 0, .any, .conv, false⟩,
    ⟨"BRKEN", 24, 24, .rws, 0, .any, .conv, false⟩,
    ⟨"PEXC", 23, 22, .rws, 0, .any, .conv, false⟩,
    ⟨"REF", 21, 20, .rws, 0, (.codedTo 2), .conv, false⟩,
    ⟨"GAIN", 19, 17, .rws, 0, .any, .conv, false⟩,
    ⟨"LEADPIN", 16, 12, .rws, 0, .any, .conv, false⟩,
    ⟨"AINN", 11, 6, .rws, 0x20, (.codedTo 33), .conv, false⟩,
    ⟨"AINP", 5, 0, .rws, 0, (.codedTo 33), .conv, false⟩]⟩,
  ⟨.AFE_CFGB, 0x040, 16, 4, false, .none, [
    ⟨"LEADN", 23, 16, .rws, 0x10, (.range 1 255), .conv, false⟩,
    ⟨"SETTLE", 15, 0, .rws, 0, .any, .conv, false⟩]⟩,
  ⟨.AFE_CFGC, 0x080, 16, 4, false, .none, [
    ⟨"LEAD", 31, 16, .ro, 0xFFFF, .any, .conv, false⟩,
    ⟨"VCMHI", 15, 8, .rws, 0xAF, (.range 0 180), .conv, false⟩,
    ⟨"VCMLO", 7, 0, .rws, 5, (.range 0 180), .conv, false⟩]⟩,
  ⟨.AFE_IEXC, 0x0C0, 1, 0, false, .none, [
    ⟨"MODE1", 26, 25, .rws, 0, (.codedTo 2), .conv, false⟩,
    ⟨"PIN1", 24, 20, .rws, 0, .any, .conv, false⟩,
    ⟨"CODE1", 18, 16, .rws, 0, .any, .conv, false⟩,
    ⟨"MODE0", 10, 9, .rws, 0, (.codedTo 2), .conv, false⟩,
    ⟨"PIN0", 8, 4, .rws, 0, .any, .conv, false⟩,
    ⟨"CODE0", 2, 0, .rws, 0, .any, .conv, false⟩]⟩,
  ⟨.AFE_VEXC, 0x0C4, 1, 0, false, .none, [
    ⟨"LEVEL", 1, 1, .rws, 0, .any, .conv, false⟩,
    ⟨"EN", 0, 0, .rws, 0, .any, .conv, false⟩]⟩,
  ⟨.AFE_TDAC, 0x0C8, 1, 0, false, .none, [
    ⟨"CODE", 11, 0, .rws, 0, .any, .conv, false⟩]⟩,
  ⟨.AFE_RREF, 0x0CC, 1, 0, false, .none, [
    ⟨"RREF", 31, 0, .rws, 0x44FA0000, .rref, .conv, false⟩]⟩,
  ⟨.AFE_STAT, 0x0D0, 1, 0, false, .none, [
    ⟨"EXCPEND", 8, 8, .ro, 0, .any, .conv, true⟩,
    ⟨"REFOFF", 7, 7, .w1c, 0, .any, .conv, true⟩,
    ⟨"PLONG", 6, 6, .w1c, 0, .any, .conv, true⟩,
    ⟨"DUTYHOLD", 5, 4, .w1c, 0, .any, .conv, true⟩,
    ⟨"VSHORT", 3, 3, .ro, 0, .any, .conv, true⟩,
    ⟨"COMPL", 1, 0, .ro, 0, .any, .conv, true⟩]⟩,
  ⟨.AFE_BRK, 0x0D4, 1, 0, false, .none, [
    ⟨"VALID", 31, 31, .w1c, 0, .any, .conv, true⟩,
    ⟨"MORE", 30, 30, .ro, 0, .any, .conv, true⟩,
    ⟨"M", 25, 24, .ro, 0, .any, .conv, true⟩,
    ⟨"CFG", 19, 16, .ro, 0, .any, .conv, true⟩,
    ⟨"HIGH", 8, 8, .ro, 0, .any, .conv, true⟩,
    ⟨"VCM", 7, 0, .ro, 0, .any, .conv, true⟩]⟩,
  ⟨.AFE_BRKCNT, 0x0D8, 1, 0, false, .none, [
    ⟨"CNT", 31, 0, .ro, 0, .any, .conv, true⟩]⟩,
  ⟨.AFE_DUTY, 0x0DC, 1, 0, false, .none, [
    ⟨"CLR", 31, 31, .wo, 0, .any, .conv, false⟩,
    ⟨"HOLDCNT1", 15, 8, .ro, 0, .any, .conv, true⟩,
    ⟨"HOLDCNT0", 7, 0, .ro, 0, .any, .conv, true⟩]⟩]

/-- Registers of the AFE block. -/
def afeRegs : List RegDef := afeRegs0

/-- Registers of the SD block, part 0. -/
def sdRegs0 : List RegDef := [
  ⟨.SD_CFG, 0x000, 1, 0, false, .none, [
    ⟨"MOVE", 23, 23, .rws, 1, .any, .conv, false⟩,
    ⟨"ARMAX", 22, 20, .rws, 7, .any, .conv, false⟩,
    ⟨"ARMIN", 18, 16, .rws, 0, .any, .conv, false⟩,
    ⟨"AR", 15, 15, .rws, 0, .any, .conv, false⟩,
    ⟨"RATE", 11, 8, .rws, 6, (.codedTo 11), .conv, false⟩,
    ⟨"FILT", 7, 6, .rws, 0, (.codedTo 2), .conv, false⟩,
    ⟨"REGTRIG", 5, 4, .rws, 1, (.codedTo 2), .conv, false⟩,
    ⟨"CLASS", 1, 1, .rws, 0, .any, .conv, false⟩,
    ⟨"EN", 0, 0, .rw, 0, .any, .conv, false⟩]⟩,
  ⟨.SD_CMD, 0x004, 1, 0, false, .none, [
    ⟨"MASK", 11, 8, .wo, 0, .any, .conv, false⟩,
    ⟨"CMD", 3, 0, .wo, 0, (.cmd 1 6), .conv, false⟩]⟩,
  ⟨.SD_DIRECT, 0x008, 1, 0, false, .none, [
    ⟨"CFG", 3, 0, .rws, 0, .any, .conv, false⟩]⟩,
  ⟨.SD_SEQ0, 0x00C, 1, 0, false, .none, [
    ⟨"SLOT", 31, 0, .rws, 0x76543210, .any, .conv, false⟩]⟩,
  ⟨.SD_SEQ1, 0x010, 1, 0, false, .none, [
    ⟨"SLOT", 31, 0, .rws, 0xFEDCBA98, .any, .conv, false⟩]⟩,
  ⟨.SD_SEQCTL, 0x014, 1, 0, false, .none, [
    ⟨"RLEN", 31, 28, .rws, 0, .any, .conv, false⟩,
    ⟨"ILEN", 25, 24, .rws, 0, .any, .conv, false⟩,
    ⟨"TPL", 22, 22, .rws, 0, .any, .conv, false⟩,
    ⟨"TTIM", 21, 21, .rws, 0, .any, .conv, false⟩,
    ⟨"TPIN", 20, 20, .rws, 0, .any, .conv, false⟩,
    ⟨"PEDGE", 19, 19, .rws, 0, .any, .conv, false⟩,
    ⟨"ISLOT", 15, 0, .rws, 0x3210, .any, .conv, false⟩]⟩,
  ⟨.SD_AVG, 0x018, 1, 0, false, .none, [
    ⟨"TPER", 31, 16, .rws, 0x3E8, (.range 1 65535), .conv, false⟩,
    ⟨"SHIFT", 15, 12, .rws, 0, (.range 0 8), .conv, false⟩,
    ⟨"AVG", 8, 0, .rws, 1, (.range 1 256), .conv, false⟩]⟩,
  ⟨.SD_STAT, 0x01C, 1, 0, false, .none, [
    ⟨"CALFAIL", 31, 24, .ro, 0, .any, .conv, true⟩,
    ⟨"LINSRC", 23, 21, .ro, 0, .any, .conv, true⟩,
    ⟨"TDEF", 20, 20, .ro, 0, .any, .conv, true⟩,
    ⟨"SIMLATE", 19, 19, .w1c, 0, .any, .conv, true⟩,
    ⟨"IOVR", 18, 18, .w1c, 0, .any, .conv, true⟩,
    ⟨"OVR", 17, 17, .w1c, 0, .any, .conv, true⟩,
    ⟨"CALDONE", 16, 16, .w1c, 0, .any, .conv, true⟩,
    ⟨"SLOT", 15, 12, .ro, 0, .any, .conv, true⟩,
    ⟨"CAL", 9, 9, .ro, 0, .any, .conv, true⟩,
    ⟨"INJ", 8, 8, .ro, 0, .any, .conv, true⟩,
    ⟨"WAIT", 3, 3, .ro, 0, .any, .conv, true⟩,
    ⟨"TLATE", 2, 2, .w1c, 0, .any, .conv, true⟩,
    ⟨"CONV", 1, 1, .ro, 0, .any, .conv, true⟩,
    ⟨"ACTIVE", 0, 0, .ro, 0, .any, .conv, true⟩]⟩,
  ⟨.SD_RESULT, 0x020, 1, 0, false, .lo, [
    ⟨"GAIN", 31, 29, .ro, 0, .any, .conv, false⟩,
    ⟨"BRK", 28, 28, .ro, 0, .any, .conv, false⟩,
    ⟨"OVR", 27, 27, .ro, 0, .any, .conv, false⟩,
    ⟨"SAT", 26, 26, .ro, 0, .any, .conv, false⟩,
    ⟨"CODE", 23, 0, .ro, 0, .any, .conv, false⟩]⟩,
  ⟨.SD_RESINFO, 0x024, 1, 0, false, .hi, [
    ⟨"SEQ", 31, 16, .ro, 0, .any, .conv, false⟩,
    ⟨"SLOT", 15, 12, .ro, 0, .any, .conv, false⟩,
    ⟨"INJ", 11, 11, .ro, 0, .any, .conv, false⟩,
    ⟨"DIRECT", 10, 10, .ro, 0, .any, .conv, false⟩,
    ⟨"CFG", 7, 4, .ro, 0, .any, .conv, false⟩]⟩,
  ⟨.SD_INJRESULT, 0x028, 1, 0, false, .lo, [
    ⟨"GAIN", 31, 29, .ro, 0, .any, .conv, false⟩,
    ⟨"BRK", 28, 28, .ro, 0, .any, .conv, false⟩,
    ⟨"OVR", 27, 27, .ro, 0, .any, .conv, false⟩,
    ⟨"SAT", 26, 26, .ro, 0, .any, .conv, false⟩,
    ⟨"CODE", 23, 0, .ro, 0, .any, .conv, false⟩]⟩,
  ⟨.SD_INJRESINFO, 0x02C, 1, 0, false, .hi, [
    ⟨"SEQ", 31, 16, .ro, 0, .any, .conv, false⟩,
    ⟨"SLOT", 15, 12, .ro, 0, .any, .conv, false⟩,
    ⟨"INJ", 11, 11, .ro, 0, .any, .conv, false⟩,
    ⟨"DIRECT", 10, 10, .ro, 0, .any, .conv, false⟩,
    ⟨"CFG", 7, 4, .ro, 0, .any, .conv, false⟩]⟩,
  ⟨.SD_CNT, 0x030, 1, 0, false, .none, [
    ⟨"INJDROP", 31, 16, .ro, 0, .any, .conv, true⟩,
    ⟨"OVRCNT", 15, 8, .ro, 0, .any, .conv, true⟩,
    ⟨"ARCNT", 7, 0, .ro, 0, .any, .conv, true⟩]⟩,
  ⟨.SD_LINRES, 0x034, 1, 0, false, .none, [
    ⟨"Y", 31, 0, .ro, 0x7FC00000, .any, .conv, false⟩]⟩,
  ⟨.SD_LINADDR, 0x038, 1, 0, false, .none, [
    ⟨"ADDR", 9, 0, .rw, 0, (.range 0 527), .conv, false⟩]⟩,
  ⟨.SD_LINDATA, 0x03C, 1, 0, false, .none, [
    ⟨"DATA", 31, 0, .rws, 0, .any, .conv, false⟩]⟩]

/-- Registers of the SD block, part 1. -/
def sdRegs1 : List RegDef := [
  ⟨.SD_CAL_OFS, 0x040, 8, 8, false, .none, [
    ⟨"OFS", 23, 0, .rws, 0, .any, .conv, false⟩]⟩,
  ⟨.SD_CAL_GAIN, 0x044, 8, 8, false, .none, [
    ⟨"GAIN", 23, 0, .rws, 0x400000, (.range 2097152 6291456), .conv, false⟩]⟩]

/-- Registers of the SD block. -/
def sdRegs : List RegDef := sdRegs0 ++ sdRegs1

/-- Registers of the EV block, part 0. -/
def evRegs0 : List RegDef := [
  ⟨.EV_PEND, 0x000, 4, 4, false, .none, [
    ⟨"PEND", 31, 0, .w1c, 0, .any, .axis, false⟩]⟩,
  ⟨.EV_EN, 0x010, 4, 4, false, .none, [
    ⟨"EN", 31, 0, .rw, 0, .any, .axis, false⟩]⟩,
  ⟨.EV_ACT, 0x020, 4, 4, false, .none, [
    ⟨"ACT", 31, 0, .ro, 0, .any, .axis, false⟩]⟩,
  ⟨.EV_AXDONE, 0x030, 4, 4, false, .none, [
    ⟨"DONE", 31, 0, .w1c, 0, .any, .axis, false⟩]⟩,
  ⟨.EV_GCFG, 0x040, 1, 0, false, .none, [
    ⟨"MASK", 31, 16, .wo, 0, .any, .axis, false⟩,
    ⟨"FAULTEN", 12, 12, .rwm, 1, .any, .axis, false⟩,
    ⟨"IRQ1PRI", 10, 8, .rwm, 0, .any, .axis, false⟩,
    ⟨"IRQ0PRI", 6, 4, .rwm, 0, .any, .axis, false⟩,
    ⟨"FAULTPRI", 2, 0, .rwm, 7, .any, .axis, false⟩]⟩,
  ⟨.EV_IRQ0ID, 0x044, 1, 0, false, .none, [
    ⟨"NONE", 8, 8, .ro, 1, .any, .axis, false⟩,
    ⟨"SRC", 6, 0, .ro, 0, .any, .axis, false⟩]⟩,
  ⟨.EV_IRQ1ID, 0x048, 1, 0, false, .none, [
    ⟨"NONE", 8, 8, .ro, 1, .any, .axis, false⟩,
    ⟨"SRC", 6, 0, .ro, 0, .any, .axis, false⟩]⟩,
  ⟨.EV_PIN, 0x04C, 1, 0, false, .none, [
    ⟨"FAULTN", 2, 2, .ro, 0, .any, .axis, false⟩,
    ⟨"HALTSEEN", 1, 1, .w1c, 0, .any, .axis, false⟩,
    ⟨"HALTN", 0, 0, .ro, 1, .any, .axis, false⟩]⟩,
  ⟨.EV_DOORBELL, 0x050, 1, 0, false, .none, [
    ⟨"RING", 0, 0, .wo, 0, .any, .axis, false⟩]⟩,
  ⟨.EV_LEGFLT, 0x060, 16, 4, false, .none, [
    ⟨"FLT", 31, 0, .w1c, 0, .any, .axis, false⟩]⟩,
  ⟨.EV_CFG, 0x400, 128, 4, false, .none, [
    ⟨"LOG", 12, 12, .rws, 0, .any, .axis, false⟩,
    ⟨"EMCY", 11, 11, .rws, 0, .any, .axis, false⟩,
    ⟨"IRQ1", 10, 10, .rws, 0, .any, .axis, false⟩,
    ⟨"IRQ0", 9, 9, .rws, 0, .any, .axis, false⟩,
    ⟨"TRIO", 8, 8, .rws, 0, .any, .axis, false⟩,
    ⟨"PRI", 2, 0, .rws, 0, .any, .axis, false⟩]⟩]

/-- Registers of the EV block. -/
def evRegs : List RegDef := evRegs0

/-- Registers of the PL block, part 0. -/
def plRegs0 : List RegDef := [
  ⟨.PL_CMD, 0x000, 1, 0, false, .none, [
    ⟨"SLOT", 15, 8, .wo, 0, .any, .axis, false⟩,
    ⟨"ABQ", 4, 4, .wo, 0, .any, .axis, false⟩,
    ⟨"CMD", 3, 0, .wo, 0, (.cmd 1 8), .axis, false⟩]⟩,
  ⟨.PL_STAT, 0x004, 1, 0, false, .none, [
    ⟨"OVER", 30, 24, .ro, 0, .any, .axis, true⟩,
    ⟨"BUSY", 23, 23, .ro, 0, .any, .axis, true⟩,
    ⟨"ERRENT", 22, 16, .ro, 0, .any, .axis, true⟩,
    ⟨"ERR", 15, 12, .ro, 0, .any, .axis, true⟩,
    ⟨"STATE", 10, 8, .ro, 0, .any, .axis, true⟩,
    ⟨"FAILCNT", 7, 0, .ro, 0, .any, .axis, true⟩]⟩,
  ⟨.PL_CFG, 0x008, 1, 0, false, .none, [
    ⟨"PASSMAX", 31, 24, .rws, 8, .any, .axis, false⟩,
    ⟨"BLKMS", 23, 16, .rws, 0x64, (.range 1 255), .axis, false⟩,
    ⟨"EFRAC", 15, 8, .rws, 0x3C, (.range 20 100), .axis, false⟩,
    ⟨"LEARN", 7, 7, .rws, 1, .any, .axis, false⟩,
    ⟨"FAILACT", 6, 6, .rws, 0, .any, .axis, false⟩,
    ⟨"RUNSRC", 5, 4, .rws, 0, (.codedTo 2), .axis, false⟩,
    ⟨"POLICY", 1, 0, .rws, 0, (.codedTo 2), .axis, false⟩]⟩,
  ⟨.PL_XADDR, 0x010, 1, 0, false, .none, [
    ⟨"ADDR", 23, 4, .rw, 0, .any, .axis, false⟩]⟩,
  ⟨.PL_BUDGET_VMA, 0x020, 1, 0, false, .none, [
    ⟨"MA", 15, 0, .rws, 0x4E20, (.range 500 25000), .axis, false⟩]⟩,
  ⟨.PL_BUDGET_VMB, 0x024, 1, 0, false, .none, [
    ⟨"MA", 15, 0, .rws, 0x4E20, (.range 500 25000), .axis, false⟩]⟩,
  ⟨.PL_BUDGET_PKG, 0x028, 1, 0, false, .none, [
    ⟨"MW", 15, 0, .rws, 0x9C40, (.range 5000 60000), .axis, false⟩]⟩,
  ⟨.PL_SKIPTOL, 0x02C, 1, 0, false, .none, [
    ⟨"TOL", 23, 0, .rws, 0, .any, .axis, false⟩]⟩,
  ⟨.PL_BUDGET_COACH, 0x030, 4, 4, false, .none, [
    ⟨"MW", 15, 0, .rws, 0x3A98, (.range 1500 30000), .axis, false⟩]⟩,
  ⟨.PL_OVH, 0x040, 1, 0, false, .none, [
    ⟨"COACH", 31, 16, .rws, 0x4B0, (.range 0 5000), .axis, false⟩,
    ⟨"HUB", 15, 0, .rws, 0xDAC, (.range 0 10000), .axis, false⟩]⟩,
  ⟨.PL_RANKLIM, 0x044, 2, 4, false, .none, [
    ⟨"LIM", 31, 0, .rws, 0x88888888, (.nibbles 1 8), .axis, false⟩]⟩,
  ⟨.PL_SUM, 0x050, 7, 4, false, .none, [
    ⟨"LIM", 31, 16, .ro, 0, .any, .axis, true⟩,
    ⟨"SUM", 15, 0, .ro, 0, .any, .axis, true⟩]⟩,
  ⟨.PL_MOVERS, 0x070, 2, 4, false, .none, [
    ⟨"M", 31, 0, .ro, 0, .any, .axis, true⟩]⟩,
  ⟨.PL_MAKESPAN, 0x078, 1, 0, false, .none, [
    ⟨"TICKS", 31, 0, .ro, 0, .any, .axis, true⟩]⟩,
  ⟨.PL_PRED, 0x07C, 1, 0, false, .none, [
    ⟨"TICKS", 31, 0, .ro, 0, .any, .axis, true⟩]⟩,
  ⟨.PL_ENERGY_LO, 0x080, 1, 0, false, .lo, [
    ⟨"E", 31, 0, .ro, 0, .any, .axis, true⟩]⟩]

/-- Registers of the PL block, part 1. -/
def plRegs1 : List RegDef := [
  ⟨.PL_ENERGY_HI, 0x084, 1, 0, false, .hi, [
    ⟨"E", 31, 0, .ro, 0, .any, .axis, true⟩]⟩,
  ⟨.PL_EVINFO, 0x088, 1, 0, false, .none, [
    ⟨"FAILENT", 22, 16, .ro, 0, .any, .axis, true⟩,
    ⟨"BLKENT", 6, 0, .ro, 0, .any, .axis, true⟩]⟩,
  ⟨.PL_RCPHDR, 0x090, 4, 4, false, .none, [
    ⟨"HDR", 31, 0, .rw, 0, .any, .axis, false⟩]⟩,
  ⟨.PL_AXLIVE, 0x100, 128, 4, false, .none, [
    ⟨"MA", 31, 16, .ro, 0, .any, .axis, true⟩,
    ⟨"MW", 15, 0, .ro, 0, .any, .axis, true⟩]⟩,
  ⟨.PL_AXMOT, 0x300, 128, 4, false, .none, [
    ⟨"RMOT", 15, 0, .rws, 0, .any, .axis, false⟩]⟩,
  ⟨.PL_AXLRN, 0x500, 128, 4, false, .none, [
    ⟨"VALID", 31, 31, .rw, 0, .any, .axis, false⟩,
    ⟨"CSL", 23, 16, .rw, 0, .any, .axis, false⟩,
    ⟨"EF", 15, 0, .rw, 0x100, (.range 64 1024), .axis, false⟩]⟩,
  ⟨.PL_ORD, 0x800, 128, 4, false, .none, [
    ⟨"ENTRY", 6, 0, .rw, 0, .any, .axis, false⟩]⟩,
  ⟨.PL_RCP0, 0x1000, 128, 16, false, .none, [
    ⟨"WORD", 31, 0, .rw, 0, .any, .axis, false⟩]⟩,
  ⟨.PL_RCP1, 0x1004, 128, 16, false, .none, [
    ⟨"WORD", 31, 0, .rw, 0, .any, .axis, false⟩]⟩,
  ⟨.PL_RCP2, 0x1008, 128, 16, false, .none, [
    ⟨"WORD", 31, 0, .rw, 0, .any, .axis, false⟩]⟩,
  ⟨.PL_RCP3, 0x100C, 128, 16, false, .none, [
    ⟨"WORD", 31, 0, .rw, 0, .any, .axis, false⟩]⟩,
  ⟨.PL_RES, 0x2000, 128, 32, false, .none, [
    ⟨"STATE", 31, 28, .ro, 0, .any, .axis, true⟩,
    ⟨"HOLDER", 27, 27, .ro, 0, .any, .axis, true⟩,
    ⟨"LIMHIT", 26, 26, .ro, 0, .any, .axis, true⟩,
    ⟨"PASS", 23, 16, .ro, 0, .any, .axis, true⟩,
    ⟨"REASON", 15, 12, .ro, 0, .any, .axis, true⟩]⟩,
  ⟨.PL_RES_START, 0x2004, 128, 32, false, .none, [
    ⟨"START", 31, 0, .ro, 0, .any, .axis, true⟩]⟩,
  ⟨.PL_RES_END, 0x2008, 128, 32, false, .none, [
    ⟨"END", 31, 0, .ro, 0, .any, .axis, true⟩]⟩,
  ⟨.PL_RES_TEST, 0x200C, 128, 32, false, .none, [
    ⟨"TEST", 31, 0, .ro, 0, .any, .axis, true⟩]⟩,
  ⟨.PL_RES_EEST, 0x2010, 128, 32, false, .none, [
    ⟨"EEST", 31, 0, .ro, 0, .any, .axis, true⟩]⟩]

/-- Registers of the PL block, part 2. -/
def plRegs2 : List RegDef := [
  ⟨.PL_RES_EACT, 0x2014, 128, 32, false, .none, [
    ⟨"EACT", 31, 0, .ro, 0, .any, .axis, true⟩]⟩,
  ⟨.AXEN, 0xF000, 4, 4, false, .none, [
    ⟨"EN", 31, 0, .rw, 0, .any, .axis, false⟩]⟩,
  ⟨.AXSTART, 0xF010, 4, 4, false, .none, [
    ⟨"START", 31, 0, .wo, 0, .any, .axis, false⟩]⟩,
  ⟨.AXALERT, 0xF020, 4, 4, false, .none, [
    ⟨"ALERT", 31, 0, .ro, 0, .any, .axis, true⟩]⟩]

/-- Registers of the PL block. -/
def plRegs : List RegDef := plRegs0 ++ plRegs1 ++ plRegs2

/-- Registers of the NET block, part 0. -/
def netRegs0 : List RegDef := [
  ⟨.NET_CTL, 0x000, 2, 256, false, .none, [
    ⟨"MASK", 31, 16, .wo, 0, .any, .frame, false⟩,
    ⟨"BRS", 4, 4, .rwm, 1, .any, .frame, false⟩,
    ⟨"FDOE", 3, 3, .rwm, 1, .any, .frame, false⟩,
    ⟨"LISTEN", 2, 2, .rwm, 0, .any, .frame, false⟩,
    ⟨"TDC", 1, 1, .rwm, 1, .any, .frame, false⟩,
    ⟨"EN", 0, 0, .rwm, 0, .any, .frame, false⟩]⟩,
  ⟨.NET_NBT, 0x004, 2, 256, false, .none, [
    ⟨"NSJW", 31, 27, .rws, 5, (.range 1 31), .frame, false⟩,
    ⟨"NTSEG2", 26, 22, .rws, 5, (.range 1 31), .frame, false⟩,
    ⟨"NTSEG1", 21, 16, .rws, 0x13, (.range 2 63), .frame, false⟩,
    ⟨"NBRP", 5, 0, .rws, 2, (.range 1 32), .frame, false⟩]⟩,
  ⟨.NET_DBT, 0x008, 2, 256, false, .none, [
    ⟨"TDCO", 29, 24, .rws, 8, .any, .frame, false⟩,
    ⟨"DSJW", 19, 16, .rws, 2, (.range 1 8), .frame, false⟩,
    ⟨"DTSEG2", 15, 12, .rws, 2, (.range 1 8), .frame, false⟩,
    ⟨"DTSEG1", 7, 3, .rws, 7, (.range 1 16), .frame, false⟩,
    ⟨"DBRP", 2, 0, .rws, 1, (.range 1 7), .frame, false⟩]⟩,
  ⟨.NET_STAT, 0x00C, 2, 256, false, .none, [
    ⟨"TEC", 23, 16, .ro, 0, .any, .frame, true⟩,
    ⟨"REC", 15, 8, .ro, 0, .any, .frame, true⟩,
    ⟨"LEC", 7, 4, .ro, 0, .any, .frame, true⟩,
    ⟨"STATE", 3, 2, .ro, 3, .any, .frame, true⟩,
    ⟨"ON", 0, 0, .ro, 0, .any, .frame, true⟩]⟩,
  ⟨.NET_CNT, 0x010, 2, 256, false, .none, [
    ⟨"CLR", 31, 31, .wo, 0, .any, .frame, false⟩,
    ⟨"RXDISC", 30, 16, .ro, 0, .any, .frame, true⟩,
    ⟨"TXDROP", 15, 8, .ro, 0, .any, .frame, true⟩,
    ⟨"BOFF", 7, 0, .ro, 0, .any, .frame, true⟩]⟩,
  ⟨.NET_NODE, 0x200, 1, 0, false, .none, [
    ⟨"RNIGN", 31, 24, .ro, 0, .any, .frame, true⟩,
    ⟨"PEND", 22, 16, .rws, 0, .any, .frame, false⟩,
    ⟨"SETRTC", 15, 15, .rws, 1, .any, .frame, false⟩,
    ⟨"SYNCBUS", 14, 14, .rws, 0, .any, .frame, false⟩,
    ⟨"RNACT", 13, 13, .rws, 0, .any, .frame, false⟩,
    ⟨"SRC", 12, 11, .ro, 0, .any, .frame, true⟩,
    ⟨"NMT", 10, 8, .ro, 0, .any, .frame, true⟩,
    ⟨"NODE", 6, 0, .ro, 0, .any, .frame, true⟩]⟩,
  ⟨.NET_GUARD, 0x204, 1, 0, false, .none, [
    ⟨"QUAR", 31, 24, .rws, 0x1E, (.range 1 255), .frame, false⟩,
    ⟨"MALLIM", 23, 16, .rws, 0x14, (.range 1 255), .frame, false⟩,
    ⟨"PERNODE", 15, 8, .rws, 0x10, (.range 1 224), .frame, false⟩,
    ⟨"TOUT", 7, 0, .rws, 0xA, (.range 1 255), .frame, false⟩]⟩,
  ⟨.NET_SESS, 0x208, 1, 0, false, .none, [
    ⟨"INUSE", 24, 16, .ro, 0, .any, .frame, true⟩,
    ⟨"AUTH", 15, 8, .ro, 0, .any, .frame, true⟩,
    ⟨"FULL", 7, 0, .ro, 0, .any, .frame, true⟩]⟩,
  ⟨.NET_MAL, 0x20C, 1, 0, false, .none, [
    ⟨"CLR", 31, 31, .wo, 0, .any, .frame, false⟩,
    ⟨"MALCNT", 30, 16, .ro, 0, .any, .frame, true⟩,
    ⟨"QCNT", 15, 8, .ro, 0, .any, .frame, true⟩,
    ⟨"QACT", 7, 7, .ro, 0, .any, .frame, true⟩,
    ⟨"LASTNODE", 6, 0, .ro, 0, .any, .frame, true⟩]⟩,
  ⟨.NET_HB, 0x210, 1, 0, false, .none, [
    ⟨"LOST", 31, 0, .ro, 0, .any, .frame, true⟩]⟩,
  ⟨.NET_HBACT, 0x300, 32, 4, false, .none, [
    ⟨"PLAB", 23, 23, .rws, 0, .any, .frame, false⟩,
    ⟨"ABQ", 22, 22, .rws, 0, .any, .frame, false⟩,
    ⟨"ACT", 18, 16, .rws, 0, (.codedTo 3), .frame, false⟩,
    ⟨"GROUPS", 15, 0, .rws, 0, .any, .frame, false⟩]⟩]

/-- Registers of the NET block. -/
def netRegs : List RegDef := netRegs0

/-- Registers of the SPH block, part 0. -/
def sphRegs0 : List RegDef := [
  ⟨.SPH_CFG, 0x000, 1, 0, false, .none, [
    ⟨"CRC", 0, 0, .rws, 0, .any, .hostFrame, false⟩]⟩,
  ⟨.SPH_STAT, 0x004, 1, 0, false, .none, [
    ⟨"WORDS", 31, 16, .ro, 0, .any, .hostFrame, false⟩,
    ⟨"OUTCOME", 15, 8, .ro, 0xA5, .any, .hostFrame, false⟩,
    ⟨"PENDING", 0, 0, .ro, 0, .any, .hostFrame, false⟩]⟩,
  ⟨.SPH_ERR, 0x008, 1, 0, false, .none, [
    ⟨"VALID", 31, 31, .w1c, 0, .any, .hostFrame, false⟩,
    ⟨"MORE", 30, 30, .ro, 0, .any, .hostFrame, false⟩,
    ⟨"CAUSE", 27, 24, .ro, 0, .any, .hostFrame, false⟩,
    ⟨"ADDR", 23, 0, .ro, 0, .any, .hostFrame, false⟩]⟩,
  ⟨.SPH_ERRCODE, 0x00C, 1, 0, false, .none, [
    ⟨"CODE", 3, 0, .ro, 0, .any, .hostFrame, false⟩]⟩,
  ⟨.SPH_CNT, 0x010, 1, 0, false, .none, [
    ⟨"CLR", 31, 31, .wo, 0, .any, .hostFrame, false⟩,
    ⟨"BUSYLIM", 30, 24, .ro, 0, .any, .hostFrame, false⟩,
    ⟨"CRCERR", 23, 16, .ro, 0, .any, .hostFrame, false⟩,
    ⟨"ERRS", 15, 0, .ro, 0, .any, .hostFrame, false⟩]⟩]

/-- Registers of the SPH block. -/
def sphRegs : List RegDef := sphRegs0

/-- Registers of the SPM block, part 0. -/
def spmRegs0 : List RegDef := [
  ⟨.SPM_CFG, 0x000, 1, 0, false, .none, [
    ⟨"XEN", 31, 31, .rws, 0, .any, .memIdle, false⟩,
    ⟨"DUMMY", 27, 24, .rws, 6, .any, .memIdle, false⟩,
    ⟨"RDCMD", 23, 16, .rws, 0xEB, .any, .memIdle, false⟩,
    ⟨"RDMODE", 15, 14, .rws, 2, (.codedTo 2), .memIdle, false⟩,
    ⟨"ADDR4", 13, 13, .rws, 0, .any, .memIdle, false⟩,
    ⟨"SMP", 12, 12, .rws, 0, .any, .memIdle, false⟩,
    ⟨"MODEB", 7, 0, .rws, 0, .any, .memIdle, false⟩]⟩,
  ⟨.SPM_CLK, 0x004, 1, 0, false, .none, [
    ⟨"DIV", 3, 0, .rws, 3, .any, .memIdle, false⟩]⟩,
  ⟨.SPM_XOFS, 0x008, 1, 0, false, .none, [
    ⟨"OFS", 31, 16, .rws, 0, .any, .memIdle, false⟩]⟩,
  ⟨.SPM_SFDP, 0x00C, 1, 0, false, .none, [
    ⟨"VALID", 31, 31, .ro, 0, .any, .memIdle, false⟩,
    ⟨"QER", 30, 28, .ro, 0, .any, .memIdle, false⟩,
    ⟨"SIZE", 23, 16, .ro, 0, .any, .memIdle, false⟩]⟩,
  ⟨.SPM_CMD, 0x010, 1, 0, false, .none, [
    ⟨"GO", 31, 31, .wo, 0, .any, .memIdle, false⟩,
    ⟨"WAIT", 30, 30, .rw, 0, .any, .memIdle, false⟩,
    ⟨"WREN", 29, 29, .rw, 0, .any, .memIdle, false⟩,
    ⟨"DIR", 28, 28, .rw, 0, .any, .memIdle, false⟩,
    ⟨"MODE", 27, 26, .rw, 0, (.codedTo 2), .memIdle, false⟩,
    ⟨"ABYTES", 25, 24, .rw, 0, (.codedTo 2), .memIdle, false⟩,
    ⟨"DUMMY", 23, 20, .rw, 0, .any, .memIdle, false⟩,
    ⟨"LEN", 16, 8, .rw, 0, .any, .memIdle, false⟩,
    ⟨"OPC", 7, 0, .rw, 0, .any, .memIdle, false⟩]⟩,
  ⟨.SPM_ADDR, 0x014, 1, 0, false, .none, [
    ⟨"ADDR", 31, 0, .rw, 0, .any, .memIdle, false⟩]⟩,
  ⟨.SPM_TXFIFO, 0x018, 1, 0, false, .none, [
    ⟨"DATA", 31, 0, .wo, 0, .any, .memIdle, false⟩]⟩,
  ⟨.SPM_RXFIFO, 0x01C, 1, 0, false, .none, [
    ⟨"DATA", 31, 0, .ro, 0, .any, .memIdle, false⟩]⟩,
  ⟨.SPM_STAT, 0x020, 1, 0, false, .none, [
    ⟨"RXLVL", 31, 24, .ro, 0, .any, .memIdle, false⟩,
    ⟨"TXLVL", 23, 16, .ro, 0, .any, .memIdle, false⟩,
    ⟨"TOUT", 6, 6, .w1c, 0, .any, .memIdle, false⟩,
    ⟨"RXUNDER", 5, 5, .w1c, 0, .any, .memIdle, false⟩,
    ⟨"PERR", 4, 4, .w1c, 0, .any, .memIdle, false⟩,
    ⟨"DONE", 3, 3, .w1c, 0, .any, .memIdle, false⟩,
    ⟨"LOCK", 2, 2, .ro, 0, .any, .memIdle, false⟩,
    ⟨"BUSY", 1, 1, .ro, 0, .any, .memIdle, false⟩]⟩,
  ⟨.SPM_CTL, 0x024, 1, 0, false, .none, [
    ⟨"PROBE", 2, 2, .wo, 0, .any, .memIdle, false⟩,
    ⟨"INV", 1, 1, .wo, 0, .any, .memIdle, false⟩,
    ⟨"FLUSH", 0, 0, .wo, 0, .any, .memIdle, false⟩]⟩]

/-- Registers of the SPM block. -/
def spmRegs : List RegDef := spmRegs0

/-- Registers of the MGS block, part 0. -/
def mgsRegs0 : List RegDef := [
  ⟨.MGS_MON, 0x000, 5, 4, false, .none, [
    ⟨"VALID", 31, 31, .ro, 0, .any, .now, false⟩,
    ⟨"VALUE", 15, 0, .ro, 0, .any, .now, false⟩]⟩,
  ⟨.MGS_THCFG, 0x014, 1, 0, false, .none, [
    ⟨"SHUT", 15, 8, .rws, 0x87, (.range 100 150), .now, false⟩,
    ⟨"WARN", 7, 0, .rws, 0x6E, (.range 80 140), .now, false⟩]⟩,
  ⟨.MGS_WDCFG, 0x018, 1, 0, false, .none, [
    ⟨"EXPCNT", 31, 24, .ro, 0, .any, .now, false⟩,
    ⟨"ACT", 16, 16, .rws, 0, .any, .now, false⟩,
    ⟨"TOUT", 9, 0, .rws, 0x64, (.range 10 1000), .now, false⟩]⟩,
  ⟨.MGS_LOGRPTR, 0x020, 1, 0, false, .none, [
    ⟨"SEQ", 31, 0, .rw, 0, .any, .now, false⟩]⟩,
  ⟨.MGS_LOGSTAT, 0x024, 1, 0, false, .none, [
    ⟨"DROP", 31, 24, .ro, 0, .any, .now, false⟩,
    ⟨"OVERRUN", 23, 12, .ro, 0, .any, .now, false⟩,
    ⟨"UNREAD", 11, 0, .ro, 0, .any, .now, false⟩]⟩,
  ⟨.MGS_LOGCFG, 0x028, 1, 0, false, .none, [
    ⟨"NEARTHR", 11, 0, .rws, 0x700, (.range 1 2048), .now, false⟩]⟩,
  ⟨.MGS_LOGDATA, 0x02C, 1, 0, false, .none, [
    ⟨"DATA", 31, 0, .ro, 0, .any, .now, false⟩]⟩,
  ⟨.MGS_UPDCTL, 0x040, 1, 0, false, .none, [
    ⟨"CMD", 3, 0, .wo, 0, (.cmd 1 6), .now, false⟩]⟩,
  ⟨.MGS_UPDSTAT, 0x044, 1, 0, false, .none, [
    ⟨"BUSY", 24, 24, .ro, 0, .any, .now, false⟩,
    ⟨"ERR", 23, 20, .ro, 0, .any, .now, false⟩,
    ⟨"TRIES", 19, 16, .ro, 0, .any, .now, false⟩,
    ⟨"RUN", 8, 8, .ro, 0, .any, .now, false⟩,
    ⟨"STB", 7, 4, .ro, 0, .any, .now, false⟩,
    ⟨"STA", 3, 0, .ro, 0, .any, .now, false⟩]⟩,
  ⟨.MGS_UPDADDR, 0x048, 1, 0, false, .none, [
    ⟨"ADDR", 20, 2, .rw, 0, .any, .now, false⟩]⟩,
  ⟨.MGS_UPDDATA, 0x04C, 1, 0, false, .none, [
    ⟨"DATA", 31, 0, .wo, 0, .any, .now, false⟩]⟩,
  ⟨.MGS_RBCNT, 0x050, 1, 0, false, .none, [
    ⟨"CNT", 15, 0, .ro, 0, .any, .now, false⟩]⟩,
  ⟨.MGS_AUCHAL, 0x060, 4, 4, false, .none, [
    ⟨"CHAL", 31, 0, .ro, 0, .any, .now, false⟩]⟩,
  ⟨.MGS_AURESP, 0x070, 8, 4, false, .none, [
    ⟨"RESP", 31, 0, .wo, 0, .any, .now, false⟩]⟩,
  ⟨.MGS_AUSTAT, 0x090, 1, 0, false, .none, [
    ⟨"FAILCNT", 31, 16, .ro, 0, .any, .now, false⟩,
    ⟨"STATE", 9, 8, .ro, 0, .any, .now, false⟩,
    ⟨"WINFAIL", 7, 0, .ro, 0, .any, .now, false⟩]⟩,
  ⟨.MGS_SECCMD, 0x094, 1, 0, false, .none, [
    ⟨"ARG", 31, 24, .wo, 0, .any, .now, false⟩,
    ⟨"CMD", 3, 0, .wo, 0, (.cmd 1 8), .now, false⟩]⟩]

/-- Registers of the MGS block, part 1. -/
def mgsRegs1 : List RegDef := [
  ⟨.MGS_SECSTAT, 0x098, 1, 0, false, .none, [
    ⟨"BUSY", 8, 8, .ro, 0, .any, .now, false⟩,
    ⟨"RESULT", 3, 0, .ro, 0, .any, .now, false⟩]⟩,
  ⟨.MGS_ALCFG, 0x09C, 1, 0, false, .none, [
    ⟨"AUTHLIM", 31, 24, .rws, 0xA, (.range 1 255), .now, false⟩,
    ⟨"RESP", 11, 0, .rws, 0x954, .any, .now, false⟩]⟩,
  ⟨.MGS_ALSTAT, 0x0A0, 1, 0, false, .none, [
    ⟨"SEEN", 21, 16, .ro, 0, .any, .now, false⟩,
    ⟨"ACTIVE", 5, 0, .ro, 0, .any, .now, false⟩]⟩,
  ⟨.MGS_PROV, 0x0A4, 1, 0, false, .none, [
    ⟨"LOCKSRC", 11, 8, .ro, 0, .any, .now, false⟩,
    ⟨"LOCK", 4, 4, .ro, 0, .any, .now, false⟩,
    ⟨"ERASED", 3, 3, .ro, 0, .any, .now, false⟩,
    ⟨"AK", 2, 2, .ro, 0, .any, .now, false⟩,
    ⟨"CERT", 1, 1, .ro, 0, .any, .now, false⟩,
    ⟨"ID", 0, 0, .ro, 0, .any, .now, false⟩]⟩,
  ⟨.MGS_SECBUF, 0x0C0, 16, 4, false, .none, [
    ⟨"DATA", 31, 0, .rw, 0, .any, .now, false⟩]⟩,
  ⟨.TRIO_CFG, 0x100, 1, 0, false, .none, [
    ⟨"PERMDUP", 20, 20, .rws, 0, .any, .window, false⟩,
    ⟨"RSLIM", 19, 16, .rws, 4, (.range 1 15), .window, false⟩,
    ⟨"WIN", 12, 0, .rws, 0x100, (.range 64 4096), .window, false⟩]⟩,
  ⟨.TRIO_STAT, 0x104, 1, 0, false, .none, [
    ⟨"SAFECAUSE", 11, 8, .ro, 0, .any, .now, true⟩,
    ⟨"FENCED", 6, 6, .ro, 0, .any, .now, true⟩,
    ⟨"ODD", 5, 4, .ro, 3, .any, .now, true⟩,
    ⟨"STATE", 2, 0, .ro, 0, .any, .now, true⟩]⟩,
  ⟨.TRIO_MM, 0x108, 1, 0, false, .none, [
    ⟨"VALID", 31, 31, .w1c, 0, .any, .now, true⟩,
    ⟨"MORE", 30, 30, .ro, 0, .any, .now, true⟩,
    ⟨"COPY", 19, 18, .ro, 0, .any, .now, true⟩,
    ⟨"KIND", 15, 12, .ro, 0, .any, .now, true⟩]⟩,
  ⟨.TRIO_CNT, 0x10C, 1, 0, false, .none, [
    ⟨"RESYNCS", 31, 16, .ro, 0, .any, .now, true⟩,
    ⟨"SCRUBMM", 15, 8, .ro, 0, .any, .now, true⟩,
    ⟨"DPAR", 7, 0, .ro, 0, .any, .now, true⟩]⟩,
  ⟨.TRIO_INDIS, 0x110, 1, 0, false, .none, [
    ⟨"COPY2", 29, 20, .ro, 0, .any, .now, true⟩,
    ⟨"COPY1", 19, 10, .ro, 0, .any, .now, true⟩,
    ⟨"COPY0", 9, 0, .ro, 0, .any, .now, true⟩]⟩,
  ⟨.TRIO_STEST, 0x114, 1, 0, false, .none, [
    ⟨"TESTS", 31, 8, .ro, 0, .any, .now, true⟩,
    ⟨"PATTERN", 7, 0, .ro, 0, .any, .now, true⟩]⟩,
  ⟨.TRIO_SRAM, 0x118, 1, 0, false, .none, [
    ⟨"CORR", 15, 0, .ro, 0, .any, .now, true⟩]⟩,
  ⟨.TRIO_CTL, 0x11C, 1, 0, false, .none, [
    ⟨"CLR", 0, 0, .wo, 0, .any, .now, false⟩]⟩]

/-- Registers of the MGS block. -/
def mgsRegs : List RegDef := mgsRegs0 ++ mgsRegs1

end Sys2Proof.Machine
end

