-- ==== Sys2Proof/Machine/RegNames.lean ====
section
/-!
DEFINITION. Machine/RegNames.lean: the address of every register and the place of every field, under the names the spec gives them.
-/

namespace Sys2Proof.Machine

/-- Address of GCTL_ID. -/
abbrev GCTL_ID : Nat := 0x0
abbrev GCTL_ID.DEVICE : Fld := ⟨GCTL_ID, 31, 16⟩
abbrev GCTL_ID.STEPL : Fld := ⟨GCTL_ID, 15, 8⟩
abbrev GCTL_ID.STEPD : Fld := ⟨GCTL_ID, 7, 0⟩
/-- Address of GCTL_PROD. -/
abbrev GCTL_PROD : Nat := 0x4
abbrev GCTL_PROD.PROD : Fld := ⟨GCTL_PROD, 31, 0⟩
/-- Address of GCTL_SCRATCH. -/
abbrev GCTL_SCRATCH : Nat := 0x8
abbrev GCTL_SCRATCH.DATA : Fld := ⟨GCTL_SCRATCH, 31, 0⟩
/-- Address of GCTL_BUSERR. -/
abbrev GCTL_BUSERR : Nat := 0x10
abbrev GCTL_BUSERR.VALID : Fld := ⟨GCTL_BUSERR, 31, 31⟩
abbrev GCTL_BUSERR.MORE : Fld := ⟨GCTL_BUSERR, 30, 30⟩
abbrev GCTL_BUSERR.MASTER : Fld := ⟨GCTL_BUSERR, 19, 16⟩
abbrev GCTL_BUSERR.CODE : Fld := ⟨GCTL_BUSERR, 3, 0⟩
/-- Address of GCTL_BUSERRADDR. -/
abbrev GCTL_BUSERRADDR : Nat := 0x14
abbrev GCTL_BUSERRADDR.ADDR : Fld := ⟨GCTL_BUSERRADDR, 23, 0⟩
/-- Address of GCTL_BUSERRCNT. -/
abbrev GCTL_BUSERRCNT : Nat := 0x18
abbrev GCTL_BUSERRCNT.COUNT : Fld := ⟨GCTL_BUSERRCNT, 15, 0⟩
/-- Address of GCTL_SEQERR. -/
abbrev GCTL_SEQERR : Nat := 0x1C
abbrev GCTL_SEQERR.MGS : Fld := ⟨GCTL_SEQERR, 2, 2⟩
abbrev GCTL_SEQERR.TRIO : Fld := ⟨GCTL_SEQERR, 1, 1⟩
abbrev GCTL_SEQERR.HOST : Fld := ⟨GCTL_SEQERR, 0, 0⟩
/-- Address of GCTL_PARERR. -/
abbrev GCTL_PARERR : Nat := 0x20
abbrev GCTL_PARERR.VALID : Fld := ⟨GCTL_PARERR, 31, 31⟩
abbrev GCTL_PARERR.MORE : Fld := ⟨GCTL_PARERR, 30, 30⟩
abbrev GCTL_PARERR.ADDR : Fld := ⟨GCTL_PARERR, 23, 0⟩
/-- Address of GCTL_BUFHOLD. -/
abbrev GCTL_BUFHOLD : Nat := 0x24
abbrev GCTL_BUFHOLD.MASK : Fld := ⟨GCTL_BUFHOLD, 31, 16⟩
abbrev GCTL_BUFHOLD.HOLD : Fld := ⟨GCTL_BUFHOLD, 4, 0⟩
/-- Address of GCTL_BUFSTAT. -/
abbrev GCTL_BUFSTAT : Nat := 0x28
abbrev GCTL_BUFSTAT.HOLDTO : Fld := ⟨GCTL_BUFSTAT, 4, 0⟩
/-- Address of GCTL_CLAMPREQHI. -/
abbrev GCTL_CLAMPREQHI : Nat := 0x2C
abbrev GCTL_CLAMPREQHI.REQHI : Fld := ⟨GCTL_CLAMPREQHI, 31, 0⟩
/-- Address of GCTL_CLAMPADDR. -/
abbrev GCTL_CLAMPADDR : Nat := 0x30
abbrev GCTL_CLAMPADDR.VALID : Fld := ⟨GCTL_CLAMPADDR, 31, 31⟩
abbrev GCTL_CLAMPADDR.MORE : Fld := ⟨GCTL_CLAMPADDR, 30, 30⟩
abbrev GCTL_CLAMPADDR.PAIR : Fld := ⟨GCTL_CLAMPADDR, 29, 29⟩
abbrev GCTL_CLAMPADDR.ADDR : Fld := ⟨GCTL_CLAMPADDR, 23, 0⟩
/-- Address of GCTL_CLAMPREQ. -/
abbrev GCTL_CLAMPREQ : Nat := 0x34
abbrev GCTL_CLAMPREQ.REQ : Fld := ⟨GCTL_CLAMPREQ, 31, 0⟩
/-- Address of GCTL_CLAMPAPP. -/
abbrev GCTL_CLAMPAPP : Nat := 0x38
abbrev GCTL_CLAMPAPP.APP : Fld := ⟨GCTL_CLAMPAPP, 31, 0⟩
/-- Address of GCTL_CLAMPAPPHI. -/
abbrev GCTL_CLAMPAPPHI : Nat := 0x3C
abbrev GCTL_CLAMPAPPHI.APPHI : Fld := ⟨GCTL_CLAMPAPPHI, 31, 0⟩
/-- Address of GCTL_PWRDOM. -/
abbrev GCTL_PWRDOM : Nat := 0x40
abbrev GCTL_PWRDOM.SWRST : Fld := ⟨GCTL_PWRDOM, 31, 31⟩
abbrev GCTL_PWRDOM.FORCE : Fld := ⟨GCTL_PWRDOM, 11, 8⟩
abbrev GCTL_PWRDOM.COACH : Fld := ⟨GCTL_PWRDOM, 7, 4⟩
abbrev GCTL_PWRDOM.AFE : Fld := ⟨GCTL_PWRDOM, 0, 0⟩
/-- Address of GCTL_PWRSTAT. -/
abbrev GCTL_PWRSTAT : Nat := 0x48
abbrev GCTL_PWRSTAT.ONFAIL : Fld := ⟨GCTL_PWRSTAT, 15, 12⟩
abbrev GCTL_PWRSTAT.PENDOFF : Fld := ⟨GCTL_PWRSTAT, 11, 8⟩
abbrev GCTL_PWRSTAT.COACHON : Fld := ⟨GCTL_PWRSTAT, 7, 4⟩
abbrev GCTL_PWRSTAT.AFEON : Fld := ⟨GCTL_PWRSTAT, 0, 0⟩
/-- Address of GCTL_RUNCTL. -/
abbrev GCTL_RUNCTL : Nat := 0x4C
abbrev GCTL_RUNCTL.MASK : Fld := ⟨GCTL_RUNCTL, 31, 16⟩
abbrev GCTL_RUNCTL.WTAMPER : Fld := ⟨GCTL_RUNCTL, 10, 10⟩
abbrev GCTL_RUNCTL.WRTC : Fld := ⟨GCTL_RUNCTL, 9, 9⟩
abbrev GCTL_RUNCTL.WPIN : Fld := ⟨GCTL_RUNCTL, 8, 8⟩
abbrev GCTL_RUNCTL.WSTEP : Fld := ⟨GCTL_RUNCTL, 7, 7⟩
abbrev GCTL_RUNCTL.WENC : Fld := ⟨GCTL_RUNCTL, 6, 6⟩
abbrev GCTL_RUNCTL.WCAN1 : Fld := ⟨GCTL_RUNCTL, 5, 5⟩
abbrev GCTL_RUNCTL.WCAN0 : Fld := ⟨GCTL_RUNCTL, 4, 4⟩
abbrev GCTL_RUNCTL.AUTODOZE : Fld := ⟨GCTL_RUNCTL, 3, 3⟩
abbrev GCTL_RUNCTL.REQ : Fld := ⟨GCTL_RUNCTL, 2, 0⟩
/-- Address of GCTL_RUNSTAT. -/
abbrev GCTL_RUNSTAT : Nat := 0x50
abbrev GCTL_RUNSTAT.WAKESRC : Fld := ⟨GCTL_RUNSTAT, 15, 8⟩
abbrev GCTL_RUNSTAT.REFUSE : Fld := ⟨GCTL_RUNSTAT, 6, 4⟩
abbrev GCTL_RUNSTAT.STATE : Fld := ⟨GCTL_RUNSTAT, 2, 0⟩
/-- Address of GCTL_CLKSTAT. -/
abbrev GCTL_CLKSTAT : Nat := 0x54
abbrev GCTL_CLKSTAT.T32FAIL : Fld := ⟨GCTL_CLKSTAT, 3, 3⟩
abbrev GCTL_CLKSTAT.T32SRC : Fld := ⟨GCTL_CLKSTAT, 2, 2⟩
abbrev GCTL_CLKSTAT.REFOK : Fld := ⟨GCTL_CLKSTAT, 1, 1⟩
abbrev GCTL_CLKSTAT.LOCK : Fld := ⟨GCTL_CLKSTAT, 0, 0⟩
/-- Address of GCTL_RTC_LO. -/
abbrev GCTL_RTC_LO : Nat := 0x58
abbrev GCTL_RTC_LO.RTC : Fld := ⟨GCTL_RTC_LO, 31, 0⟩
/-- Address of GCTL_RTC_HI. -/
abbrev GCTL_RTC_HI : Nat := 0x5C
abbrev GCTL_RTC_HI.RTC : Fld := ⟨GCTL_RTC_HI, 15, 0⟩
/-- Address of GCTL_RTCALM. -/
abbrev GCTL_RTCALM : Nat := 0x60
abbrev GCTL_RTCALM.ALM : Fld := ⟨GCTL_RTCALM, 31, 0⟩
/-- Address of GCTL_RSTCAUSE. -/
abbrev GCTL_RSTCAUSE : Nat := 0x64
abbrev GCTL_RSTCAUSE.HIB : Fld := ⟨GCTL_RSTCAUSE, 7, 7⟩
abbrev GCTL_RSTCAUSE.MGS : Fld := ⟨GCTL_RSTCAUSE, 6, 6⟩
abbrev GCTL_RSTCAUSE.CLKFAIL : Fld := ⟨GCTL_RSTCAUSE, 5, 5⟩
abbrev GCTL_RSTCAUSE.SOFT : Fld := ⟨GCTL_RSTCAUSE, 4, 4⟩
abbrev GCTL_RSTCAUSE.BOR : Fld := ⟨GCTL_RSTCAUSE, 3, 3⟩
abbrev GCTL_RSTCAUSE.PWRGOOD : Fld := ⟨GCTL_RSTCAUSE, 2, 2⟩
abbrev GCTL_RSTCAUSE.PIN : Fld := ⟨GCTL_RSTCAUSE, 1, 1⟩
abbrev GCTL_RSTCAUSE.POR : Fld := ⟨GCTL_RSTCAUSE, 0, 0⟩
/-- Address of GCTL_STORE. -/
abbrev GCTL_STORE : Nat := 0x80
abbrev GCTL_STORE.CMD : Fld := ⟨GCTL_STORE, 3, 0⟩
/-- Address of GCTL_STORESTAT. -/
abbrev GCTL_STORESTAT : Nat := 0x88
abbrev GCTL_STORESTAT.COUNT : Fld := ⟨GCTL_STORESTAT, 31, 16⟩
abbrev GCTL_STORESTAT.FAIL : Fld := ⟨GCTL_STORESTAT, 2, 2⟩
abbrev GCTL_STORESTAT.DONE : Fld := ⟨GCTL_STORESTAT, 1, 1⟩
abbrev GCTL_STORESTAT.BUSY : Fld := ⟨GCTL_STORESTAT, 0, 0⟩
/-- Address of AX_CTL. -/
abbrev AX_CTL (a : Nat) : Nat := 0x10000 + 0x200 * a
abbrev AX_CTL.CMD (a : Nat) : Fld := ⟨(AX_CTL a), 3, 0⟩
/-- Address of AX_MODE. -/
abbrev AX_MODE (a : Nat) : Nat := 0x10004 + 0x200 * a
abbrev AX_MODE.MODE (a : Nat) : Fld := ⟨(AX_MODE a), 2, 0⟩
/-- Address of AX_TGT_LO. -/
abbrev AX_TGT_LO (a : Nat) : Nat := 0x10008 + 0x200 * a
abbrev AX_TGT_LO.TGT (a : Nat) : Fld := ⟨(AX_TGT_LO a), 31, 0⟩
/-- Address of AX_TGT_HI. -/
abbrev AX_TGT_HI (a : Nat) : Nat := 0x1000C + 0x200 * a
abbrev AX_TGT_HI.TGT (a : Nat) : Fld := ⟨(AX_TGT_HI a), 31, 0⟩
/-- Address of AX_VMAX. -/
abbrev AX_VMAX (a : Nat) : Nat := 0x10010 + 0x200 * a
abbrev AX_VMAX.VMAX (a : Nat) : Fld := ⟨(AX_VMAX a), 21, 0⟩
/-- Address of AX_AMAX. -/
abbrev AX_AMAX (a : Nat) : Nat := 0x10014 + 0x200 * a
abbrev AX_AMAX.ACC (a : Nat) : Fld := ⟨(AX_AMAX a), 31, 0⟩
/-- Address of AX_DMAX. -/
abbrev AX_DMAX (a : Nat) : Nat := 0x10018 + 0x200 * a
abbrev AX_DMAX.ACC (a : Nat) : Fld := ⟨(AX_DMAX a), 31, 0⟩
/-- Address of AX_QDMAX. -/
abbrev AX_QDMAX (a : Nat) : Nat := 0x1001C + 0x200 * a
abbrev AX_QDMAX.ACC (a : Nat) : Fld := ⟨(AX_QDMAX a), 31, 0⟩
/-- Address of AX_JERK. -/
abbrev AX_JERK (a : Nat) : Nat := 0x10020 + 0x200 * a
abbrev AX_JERK.JERK (a : Nat) : Fld := ⟨(AX_JERK a), 31, 0⟩
/-- Address of AX_VTGT. -/
abbrev AX_VTGT (a : Nat) : Nat := 0x10024 + 0x200 * a
abbrev AX_VTGT.VTGT (a : Nat) : Fld := ⟨(AX_VTGT a), 31, 0⟩
/-- Address of AX_POS_LO. -/
abbrev AX_POS_LO (a : Nat) : Nat := 0x10028 + 0x200 * a
abbrev AX_POS_LO.POS (a : Nat) : Fld := ⟨(AX_POS_LO a), 31, 0⟩
/-- Address of AX_POS_HI. -/
abbrev AX_POS_HI (a : Nat) : Nat := 0x1002C + 0x200 * a
abbrev AX_POS_HI.POS (a : Nat) : Fld := ⟨(AX_POS_HI a), 31, 0⟩
/-- Address of AX_VEL. -/
abbrev AX_VEL (a : Nat) : Nat := 0x10030 + 0x200 * a
abbrev AX_VEL.VEL (a : Nat) : Fld := ⟨(AX_VEL a), 31, 0⟩
/-- Address of AX_ACC. -/
abbrev AX_ACC (a : Nat) : Nat := 0x10034 + 0x200 * a
abbrev AX_ACC.ACC (a : Nat) : Fld := ⟨(AX_ACC a), 31, 0⟩
/-- Address of AX_LIMN_LO. -/
abbrev AX_LIMN_LO (a : Nat) : Nat := 0x10038 + 0x200 * a
abbrev AX_LIMN_LO.LIMN (a : Nat) : Fld := ⟨(AX_LIMN_LO a), 31, 0⟩
/-- Address of AX_LIMN_HI. -/
abbrev AX_LIMN_HI (a : Nat) : Nat := 0x1003C + 0x200 * a
abbrev AX_LIMN_HI.LIMN (a : Nat) : Fld := ⟨(AX_LIMN_HI a), 31, 0⟩
/-- Address of AX_LIMP_LO. -/
abbrev AX_LIMP_LO (a : Nat) : Nat := 0x10040 + 0x200 * a
abbrev AX_LIMP_LO.LIMP (a : Nat) : Fld := ⟨(AX_LIMP_LO a), 31, 0⟩
/-- Address of AX_LIMP_HI. -/
abbrev AX_LIMP_HI (a : Nat) : Nat := 0x10044 + 0x200 * a
abbrev AX_LIMP_HI.LIMP (a : Nat) : Fld := ⟨(AX_LIMP_HI a), 31, 0⟩
/-- Address of AX_LIMCFG. -/
abbrev AX_LIMCFG (a : Nat) : Nat := 0x10048 + 0x200 * a
abbrev AX_LIMCFG.EN (a : Nat) : Fld := ⟨(AX_LIMCFG a), 0, 0⟩
/-- Address of AX_STAT. -/
abbrev AX_STAT (a : Nat) : Nat := 0x1004C + 0x200 * a
abbrev AX_STAT.NOTPRES (a : Nat) : Fld := ⟨(AX_STAT a), 31, 31⟩
abbrev AX_STAT.ENABLED (a : Nat) : Fld := ⟨(AX_STAT a), 30, 30⟩
abbrev AX_STAT.DISPEND (a : Nat) : Fld := ⟨(AX_STAT a), 29, 29⟩
abbrev AX_STAT.HALTED (a : Nat) : Fld := ⟨(AX_STAT a), 28, 28⟩
abbrev AX_STAT.PML (a : Nat) : Fld := ⟨(AX_STAT a), 27, 27⟩
abbrev AX_STAT.ARMED (a : Nat) : Fld := ⟨(AX_STAT a), 26, 26⟩
abbrev AX_STAT.WAITING (a : Nat) : Fld := ⟨(AX_STAT a), 25, 25⟩
abbrev AX_STAT.TGTPEND (a : Nat) : Fld := ⟨(AX_STAT a), 24, 24⟩
abbrev AX_STAT.TRAP (a : Nat) : Fld := ⟨(AX_STAT a), 23, 23⟩
abbrev AX_STAT.OUTSIDE (a : Nat) : Fld := ⟨(AX_STAT a), 22, 22⟩
abbrev AX_STAT.MODEACT (a : Nat) : Fld := ⟨(AX_STAT a), 18, 16⟩
abbrev AX_STAT.MOVING (a : Nat) : Fld := ⟨(AX_STAT a), 15, 15⟩
abbrev AX_STAT.STOPKIND (a : Nat) : Fld := ⟨(AX_STAT a), 14, 12⟩
/-- Address of AX_EVT. -/
abbrev AX_EVT (a : Nat) : Nat := 0x10050 + 0x200 * a
abbrev AX_EVT.ERRCODE (a : Nat) : Fld := ⟨(AX_EVT a), 15, 12⟩
abbrev AX_EVT.FLWOVR (a : Nat) : Fld := ⟨(AX_EVT a), 8, 8⟩
abbrev AX_EVT.CHAINERR (a : Nat) : Fld := ⟨(AX_EVT a), 7, 7⟩
abbrev AX_EVT.SAT (a : Nat) : Fld := ⟨(AX_EVT a), 6, 6⟩
abbrev AX_EVT.LIMOVR (a : Nat) : Fld := ⟨(AX_EVT a), 5, 5⟩
abbrev AX_EVT.LIMQ (a : Nat) : Fld := ⟨(AX_EVT a), 4, 4⟩
abbrev AX_EVT.LIMHIT (a : Nat) : Fld := ⟨(AX_EVT a), 3, 3⟩
abbrev AX_EVT.SEGEV (a : Nat) : Fld := ⟨(AX_EVT a), 2, 2⟩
abbrev AX_EVT.STOPPED (a : Nat) : Fld := ⟨(AX_EVT a), 1, 1⟩
abbrev AX_EVT.DONE (a : Nat) : Fld := ⟨(AX_EVT a), 0, 0⟩
/-- Address of AX_CHAIN. -/
abbrev AX_CHAIN (a : Nat) : Nat := 0x10054 + 0x200 * a
abbrev AX_CHAIN.STOPEN (a : Nat) : Fld := ⟨(AX_CHAIN a), 31, 31⟩
abbrev AX_CHAIN.STOPSEG (a : Nat) : Fld := ⟨(AX_CHAIN a), 27, 16⟩
abbrev AX_CHAIN.FIRST (a : Nat) : Fld := ⟨(AX_CHAIN a), 11, 0⟩
/-- Address of AX_CHAINST. -/
abbrev AX_CHAINST (a : Nat) : Nat := 0x10058 + 0x200 * a
abbrev AX_CHAINST.LASTEV (a : Nat) : Fld := ⟨(AX_CHAINST a), 27, 16⟩
abbrev AX_CHAINST.SEG (a : Nat) : Fld := ⟨(AX_CHAINST a), 11, 0⟩
/-- Address of AX_FOLLOW. -/
abbrev AX_FOLLOW (a : Nat) : Nat := 0x1005C + 0x200 * a
abbrev AX_FOLLOW.DIRECT (a : Nat) : Fld := ⟨(AX_FOLLOW a), 16, 16⟩
abbrev AX_FOLLOW.AXIS (a : Nat) : Fld := ⟨(AX_FOLLOW a), 14, 8⟩
abbrev AX_FOLLOW.CH (a : Nat) : Fld := ⟨(AX_FOLLOW a), 6, 4⟩
abbrev AX_FOLLOW.SRC (a : Nat) : Fld := ⟨(AX_FOLLOW a), 1, 0⟩
/-- Address of AX_GEARNUM. -/
abbrev AX_GEARNUM (a : Nat) : Nat := 0x10060 + 0x200 * a
abbrev AX_GEARNUM.NUM (a : Nat) : Fld := ⟨(AX_GEARNUM a), 31, 0⟩
/-- Address of AX_GEARDEN. -/
abbrev AX_GEARDEN (a : Nat) : Nat := 0x10064 + 0x200 * a
abbrev AX_GEARDEN.DEN (a : Nat) : Fld := ⟨(AX_GEARDEN a), 15, 0⟩
/-- Address of AX_FLWERR. -/
abbrev AX_FLWERR (a : Nat) : Nat := 0x10068 + 0x200 * a
abbrev AX_FLWERR.ERR (a : Nat) : Fld := ⟨(AX_FLWERR a), 31, 0⟩
/-- Address of AX_HALTCFG. -/
abbrev AX_HALTCFG (a : Nat) : Nat := 0x1006C + 0x200 * a
abbrev AX_HALTCFG.PIN (a : Nat) : Fld := ⟨(AX_HALTCFG a), 16, 16⟩
abbrev AX_HALTCFG.LOSTSPD (a : Nat) : Fld := ⟨(AX_HALTCFG a), 15, 0⟩
/-- Address of AX_STARTCFG. -/
abbrev AX_STARTCFG (a : Nat) : Nat := 0x10070 + 0x200 * a
abbrev AX_STARTCFG.EDGE (a : Nat) : Fld := ⟨(AX_STARTCFG a), 5, 5⟩
abbrev AX_STARTCFG.SYNCOUT (a : Nat) : Fld := ⟨(AX_STARTCFG a), 4, 4⟩
abbrev AX_STARTCFG.SEGSYNC (a : Nat) : Fld := ⟨(AX_STARTCFG a), 3, 2⟩
abbrev AX_STARTCFG.SRC (a : Nat) : Fld := ⟨(AX_STARTCFG a), 1, 0⟩
/-- Address of AX_STARTSTAT. -/
abbrev AX_STARTSTAT (a : Nat) : Nat := 0x10074 + 0x200 * a
abbrev AX_STARTSTAT.CLR (a : Nat) : Fld := ⟨(AX_STARTSTAT a), 31, 31⟩
abbrev AX_STARTSTAT.LASTREJ (a : Nat) : Fld := ⟨(AX_STARTSTAT a), 11, 8⟩
abbrev AX_STARTSTAT.IGNCNT (a : Nat) : Fld := ⟨(AX_STARTSTAT a), 7, 0⟩
/-- Address of AX_LOOPS. -/
abbrev AX_LOOPS (a : Nat) : Nat := 0x10078 + 0x200 * a
abbrev AX_LOOPS.LOOPLEFT (a : Nat) : Fld := ⟨(AX_LOOPS a), 31, 16⟩
abbrev AX_LOOPS.LOOPS (a : Nat) : Fld := ⟨(AX_LOOPS a), 15, 0⟩
/-- Address of AX_CS. -/
abbrev AX_CS (a : Nat) : Nat := 0x10100 + 0x200 * a
abbrev AX_CS.CS (a : Nat) : Fld := ⟨(AX_CS a), 7, 0⟩
/-- Address of AX_CSLIM. -/
abbrev AX_CSLIM (a : Nat) : Nat := 0x10104 + 0x200 * a
abbrev AX_CSLIM.CSMAX (a : Nat) : Fld := ⟨(AX_CSLIM a), 15, 8⟩
abbrev AX_CSLIM.CSMIN (a : Nat) : Fld := ⟨(AX_CSLIM a), 7, 0⟩
/-- Address of AX_TRIM. -/
abbrev AX_TRIM (a : Nat) : Nat := 0x10108 + 0x200 * a
abbrev AX_TRIM.EN (a : Nat) : Fld := ⟨(AX_TRIM a), 31, 31⟩
abbrev AX_TRIM.ACC (a : Nat) : Fld := ⟨(AX_TRIM a), 30, 30⟩
abbrev AX_TRIM.URGENT (a : Nat) : Fld := ⟨(AX_TRIM a), 29, 24⟩
abbrev AX_TRIM.FALLDIV (a : Nat) : Fld := ⟨(AX_TRIM a), 23, 16⟩
abbrev AX_TRIM.RISE (a : Nat) : Fld := ⟨(AX_TRIM a), 15, 12⟩
abbrev AX_TRIM.DB (a : Nat) : Fld := ⟨(AX_TRIM a), 11, 8⟩
abbrev AX_TRIM.TGT (a : Nat) : Fld := ⟨(AX_TRIM a), 7, 0⟩
/-- Address of AX_CSEFF. -/
abbrev AX_CSEFF (a : Nat) : Nat := 0x1010C + 0x200 * a
abbrev AX_CSEFF.SUSP (a : Nat) : Fld := ⟨(AX_CSEFF a), 11, 9⟩
abbrev AX_CSEFF.CSEFF (a : Nat) : Fld := ⟨(AX_CSEFF a), 7, 0⟩
/-- Address of AX_THR. -/
abbrev AX_THR (a : Nat) : Nat := 0x10110 + 0x200 * a
abbrev AX_THR.OPB (a : Nat) : Fld := ⟨(AX_THR a), 31, 30⟩
abbrev AX_THR.POLB (a : Nat) : Fld := ⟨(AX_THR a), 29, 29⟩
abbrev AX_THR.THRB (a : Nat) : Fld := ⟨(AX_THR a), 25, 16⟩
abbrev AX_THR.OPA (a : Nat) : Fld := ⟨(AX_THR a), 15, 14⟩
abbrev AX_THR.POLA (a : Nat) : Fld := ⟨(AX_THR a), 13, 13⟩
abbrev AX_THR.THRA (a : Nat) : Fld := ⟨(AX_THR a), 9, 0⟩
/-- Address of AX_DECAY. -/
abbrev AX_DECAY (a : Nat) : Nat := 0x10114 + 0x200 * a
abbrev AX_DECAY.TRIM (a : Nat) : Fld := ⟨(AX_DECAY a), 15, 15⟩
abbrev AX_DECAY.FF (a : Nat) : Fld := ⟨(AX_DECAY a), 14, 8⟩
abbrev AX_DECAY.MODE (a : Nat) : Fld := ⟨(AX_DECAY a), 1, 0⟩
/-- Address of AX_DECAYST. -/
abbrev AX_DECAYST (a : Nat) : Nat := 0x10118 + 0x200 * a
abbrev AX_DECAYST.FFEFF (a : Nat) : Fld := ⟨(AX_DECAYST a), 14, 8⟩
abbrev AX_DECAYST.EARLY (a : Nat) : Fld := ⟨(AX_DECAYST a), 7, 0⟩
/-- Address of AX_STANDSTILL. -/
abbrev AX_STANDSTILL (a : Nat) : Nat := 0x10120 + 0x200 * a
abbrev AX_STANDSTILL.DELAY (a : Nat) : Fld := ⟨(AX_STANDSTILL a), 31, 16⟩
abbrev AX_STANDSTILL.PCT (a : Nat) : Fld := ⟨(AX_STANDSTILL a), 14, 8⟩
abbrev AX_STANDSTILL.ENERG (a : Nat) : Fld := ⟨(AX_STANDSTILL a), 7, 2⟩
abbrev AX_STANDSTILL.MODE (a : Nat) : Fld := ⟨(AX_STANDSTILL a), 1, 0⟩
/-- Address of AX_SSTAT. -/
abbrev AX_SSTAT (a : Nat) : Nat := 0x10124 + 0x200 * a
abbrev AX_SSTAT.DIR (a : Nat) : Fld := ⟨(AX_SSTAT a), 8, 8⟩
abbrev AX_SSTAT.STATE (a : Nat) : Fld := ⟨(AX_SSTAT a), 2, 0⟩
/-- Address of AX_WAVESEL. -/
abbrev AX_WAVESEL (a : Nat) : Nat := 0x10140 + 0x200 * a
abbrev AX_WAVESEL.INV (a : Nat) : Fld := ⟨(AX_WAVESEL a), 8, 8⟩
abbrev AX_WAVESEL.TABLE (a : Nat) : Fld := ⟨(AX_WAVESEL a), 2, 0⟩
/-- Address of AX_RESBAND0. -/
abbrev AX_RESBAND0 (a : Nat) : Nat := 0x10144 + 0x200 * a
abbrev AX_RESBAND0.V2 (a : Nat) : Fld := ⟨(AX_RESBAND0 a), 31, 16⟩
abbrev AX_RESBAND0.V1 (a : Nat) : Fld := ⟨(AX_RESBAND0 a), 15, 0⟩
/-- Address of AX_RESBAND1. -/
abbrev AX_RESBAND1 (a : Nat) : Nat := 0x10148 + 0x200 * a
abbrev AX_RESBAND1.V4 (a : Nat) : Fld := ⟨(AX_RESBAND1 a), 31, 16⟩
abbrev AX_RESBAND1.V3 (a : Nat) : Fld := ⟨(AX_RESBAND1 a), 15, 0⟩
/-- Address of AX_USTAT. -/
abbrev AX_USTAT (a : Nat) : Nat := 0x1014C + 0x200 * a
abbrev AX_USTAT.TGT (a : Nat) : Fld := ⟨(AX_USTAT a), 18, 16⟩
abbrev AX_USTAT.PEND (a : Nat) : Fld := ⟨(AX_USTAT a), 15, 15⟩
abbrev AX_USTAT.BAND (a : Nat) : Fld := ⟨(AX_USTAT a), 14, 12⟩
abbrev AX_USTAT.ADDR (a : Nat) : Fld := ⟨(AX_USTAT a), 9, 0⟩
/-- Address of AX_BEMFCFG. -/
abbrev AX_BEMFCFG (a : Nat) : Nat := 0x10160 + 0x200 * a
abbrev AX_BEMFCFG.EN (a : Nat) : Fld := ⟨(AX_BEMFCFG a), 31, 31⟩
abbrev AX_BEMFCFG.TZMAX (a : Nat) : Fld := ⟨(AX_BEMFCFG a), 23, 16⟩
abbrev AX_BEMFCFG.TSET (a : Nat) : Fld := ⟨(AX_BEMFCFG a), 15, 8⟩
abbrev AX_BEMFCFG.PH (a : Nat) : Fld := ⟨(AX_BEMFCFG a), 7, 0⟩
/-- Address of AX_BEMFSPD. -/
abbrev AX_BEMFSPD (a : Nat) : Nat := 0x10164 + 0x200 * a
abbrev AX_BEMFSPD.MINSPD (a : Nat) : Fld := ⟨(AX_BEMFSPD a), 15, 0⟩
/-- Address of AX_BEMFKE. -/
abbrev AX_BEMFKE (a : Nat) : Nat := 0x10168 + 0x200 * a
abbrev AX_BEMFKE.LEARNED (a : Nat) : Fld := ⟨(AX_BEMFKE a), 31, 31⟩
abbrev AX_BEMFKE.LEARNING (a : Nat) : Fld := ⟨(AX_BEMFKE a), 30, 30⟩
abbrev AX_BEMFKE.KE (a : Nat) : Fld := ⟨(AX_BEMFKE a), 15, 0⟩
/-- Address of AX_STALLCFG. -/
abbrev AX_STALLCFG (a : Nat) : Nat := 0x1016C + 0x200 * a
abbrev AX_STALLCFG.EN (a : Nat) : Fld := ⟨(AX_STALLCFG a), 31, 31⟩
abbrev AX_STALLCFG.ACT (a : Nat) : Fld := ⟨(AX_STALLCFG a), 29, 28⟩
abbrev AX_STALLCFG.N (a : Nat) : Fld := ⟨(AX_STALLCFG a), 27, 24⟩
abbrev AX_STALLCFG.AFRAC (a : Nat) : Fld := ⟨(AX_STALLCFG a), 15, 8⟩
abbrev AX_STALLCFG.THANG (a : Nat) : Fld := ⟨(AX_STALLCFG a), 7, 0⟩
/-- Address of AX_LA. -/
abbrev AX_LA (a : Nat) : Nat := 0x10170 + 0x200 * a
abbrev AX_LA.VALID (a : Nat) : Fld := ⟨(AX_LA a), 31, 31⟩
abbrev AX_LA.REASON (a : Nat) : Fld := ⟨(AX_LA a), 30, 28⟩
abbrev AX_LA.ANGLE (a : Nat) : Fld := ⟨(AX_LA a), 27, 16⟩
abbrev AX_LA.AMP (a : Nat) : Fld := ⟨(AX_LA a), 15, 0⟩
/-- Address of AX_STALLST. -/
abbrev AX_STALLST (a : Nat) : Nat := 0x10174 + 0x200 * a
abbrev AX_STALLST.STALL (a : Nat) : Fld := ⟨(AX_STALLST a), 31, 31⟩
abbrev AX_STALLST.UNAV (a : Nat) : Fld := ⟨(AX_STALLST a), 30, 30⟩
abbrev AX_STALLST.CNT (a : Nat) : Fld := ⟨(AX_STALLST a), 27, 24⟩
abbrev AX_STALLST.STALLS (a : Nat) : Fld := ⟨(AX_STALLST a), 23, 16⟩
abbrev AX_STALLST.KEST (a : Nat) : Fld := ⟨(AX_STALLST a), 15, 0⟩
/-- Address of AX_LACTL. -/
abbrev AX_LACTL (a : Nat) : Nat := 0x10178 + 0x200 * a
abbrev AX_LACTL.CLRE (a : Nat) : Fld := ⟨(AX_LACTL a), 31, 31⟩
abbrev AX_LACTL.CLRS (a : Nat) : Fld := ⟨(AX_LACTL a), 30, 30⟩
abbrev AX_LACTL.CLRH (a : Nat) : Fld := ⟨(AX_LACTL a), 29, 29⟩
abbrev AX_LACTL.WITALIGN (a : Nat) : Fld := ⟨(AX_LACTL a), 1, 1⟩
abbrev AX_LACTL.LEARN (a : Nat) : Fld := ⟨(AX_LACTL a), 0, 0⟩
/-- Address of AX_BEMFCNT. -/
abbrev AX_BEMFCNT (a : Nat) : Nat := 0x1017C + 0x200 * a
abbrev AX_BEMFCNT.WINDOWS (a : Nat) : Fld := ⟨(AX_BEMFCNT a), 31, 16⟩
abbrev AX_BEMFCNT.NOZERO (a : Nat) : Fld := ⟨(AX_BEMFCNT a), 15, 8⟩
abbrev AX_BEMFCNT.CLIP (a : Nat) : Fld := ⟨(AX_BEMFCNT a), 7, 0⟩
/-- Address of AX_HOMECFG. -/
abbrev AX_HOMECFG (a : Nat) : Nat := 0x10180 + 0x200 * a
abbrev AX_HOMECFG.SETTLE (a : Nat) : Fld := ⟨(AX_HOMECFG a), 31, 24⟩
abbrev AX_HOMECFG.HCS (a : Nat) : Fld := ⟨(AX_HOMECFG a), 23, 16⟩
abbrev AX_HOMECFG.HSPD (a : Nat) : Fld := ⟨(AX_HOMECFG a), 15, 0⟩
/-- Address of AX_HOMEMAX. -/
abbrev AX_HOMEMAX (a : Nat) : Nat := 0x10184 + 0x200 * a
abbrev AX_HOMEMAX.MAX (a : Nat) : Fld := ⟨(AX_HOMEMAX a), 31, 0⟩
/-- Address of AX_HOMEBACK. -/
abbrev AX_HOMEBACK (a : Nat) : Nat := 0x10188 + 0x200 * a
abbrev AX_HOMEBACK.BACK (a : Nat) : Fld := ⟨(AX_HOMEBACK a), 23, 0⟩
/-- Address of AX_HOMEOFS_LO. -/
abbrev AX_HOMEOFS_LO (a : Nat) : Nat := 0x1018C + 0x200 * a
abbrev AX_HOMEOFS_LO.OFS (a : Nat) : Fld := ⟨(AX_HOMEOFS_LO a), 31, 0⟩
/-- Address of AX_HOMEOFS_HI. -/
abbrev AX_HOMEOFS_HI (a : Nat) : Nat := 0x10190 + 0x200 * a
abbrev AX_HOMEOFS_HI.OFS (a : Nat) : Fld := ⟨(AX_HOMEOFS_HI a), 31, 0⟩
/-- Address of AX_HOMEST. -/
abbrev AX_HOMEST (a : Nat) : Nat := 0x10194 + 0x200 * a
abbrev AX_HOMEST.HOMED (a : Nat) : Fld := ⟨(AX_HOMEST a), 31, 31⟩
abbrev AX_HOMEST.ERR (a : Nat) : Fld := ⟨(AX_HOMEST a), 7, 4⟩
abbrev AX_HOMEST.STATE (a : Nat) : Fld := ⟨(AX_HOMEST a), 2, 0⟩
/-- Address of AX_WITCFG. -/
abbrev AX_WITCFG (a : Nat) : Nat := 0x10198 + 0x200 * a
abbrev AX_WITCFG.ACT (a : Nat) : Fld := ⟨(AX_WITCFG a), 31, 30⟩
abbrev AX_WITCFG.WN (a : Nat) : Fld := ⟨(AX_WITCFG a), 23, 16⟩
abbrev AX_WITCFG.STILL (a : Nat) : Fld := ⟨(AX_WITCFG a), 15, 15⟩
abbrev AX_WITCFG.SLOT (a : Nat) : Fld := ⟨(AX_WITCFG a), 11, 8⟩
abbrev AX_WITCFG.CH (a : Nat) : Fld := ⟨(AX_WITCFG a), 6, 4⟩
abbrev AX_WITCFG.SRC (a : Nat) : Fld := ⟨(AX_WITCFG a), 1, 0⟩
/-- Address of AX_WITGAIN. -/
abbrev AX_WITGAIN (a : Nat) : Nat := 0x1019C + 0x200 * a
abbrev AX_WITGAIN.GAIN (a : Nat) : Fld := ⟨(AX_WITGAIN a), 31, 0⟩
/-- Address of AX_WITOFS_LO. -/
abbrev AX_WITOFS_LO (a : Nat) : Nat := 0x101A0 + 0x200 * a
abbrev AX_WITOFS_LO.OFS (a : Nat) : Fld := ⟨(AX_WITOFS_LO a), 31, 0⟩
/-- Address of AX_WITOFS_HI. -/
abbrev AX_WITOFS_HI (a : Nat) : Nat := 0x101A4 + 0x200 * a
abbrev AX_WITOFS_HI.OFS (a : Nat) : Fld := ⟨(AX_WITOFS_HI a), 31, 0⟩
/-- Address of AX_WITTOL. -/
abbrev AX_WITTOL (a : Nat) : Nat := 0x101A8 + 0x200 * a
abbrev AX_WITTOL.TOL (a : Nat) : Fld := ⟨(AX_WITTOL a), 23, 0⟩
/-- Address of AX_WITST. -/
abbrev AX_WITST (a : Nat) : Nat := 0x101AC + 0x200 * a
abbrev AX_WITST.LOST (a : Nat) : Fld := ⟨(AX_WITST a), 31, 31⟩
abbrev AX_WITST.INV (a : Nat) : Fld := ⟨(AX_WITST a), 30, 30⟩
abbrev AX_WITST.ALIGNPEND (a : Nat) : Fld := ⟨(AX_WITST a), 29, 29⟩
abbrev AX_WITST.CNT (a : Nat) : Fld := ⟨(AX_WITST a), 23, 16⟩
abbrev AX_WITST.DIFF (a : Nat) : Fld := ⟨(AX_WITST a), 15, 0⟩
/-- Address of AX_ENERGY_LO. -/
abbrev AX_ENERGY_LO (a : Nat) : Nat := 0x101B0 + 0x200 * a
abbrev AX_ENERGY_LO.E (a : Nat) : Fld := ⟨(AX_ENERGY_LO a), 31, 0⟩
/-- Address of AX_ENERGY_HI. -/
abbrev AX_ENERGY_HI (a : Nat) : Nat := 0x101B4 + 0x200 * a
abbrev AX_ENERGY_HI.E (a : Nat) : Fld := ⟨(AX_ENERGY_HI a), 31, 0⟩
/-- Address of AX_MOVEEN. -/
abbrev AX_MOVEEN (a : Nat) : Nat := 0x101B8 + 0x200 * a
abbrev AX_MOVEEN.E (a : Nat) : Fld := ⟨(AX_MOVEEN a), 31, 0⟩
/-- Address of AX_EPFS. -/
abbrev AX_EPFS (a : Nat) : Nat := 0x101BC + 0x200 * a
abbrev AX_EPFS.EPFS (a : Nat) : Fld := ⟨(AX_EPFS a), 23, 0⟩
/-- Address of AX_FLTCFG. -/
abbrev AX_FLTCFG (a : Nat) : Nat := 0x101C0 + 0x200 * a
abbrev AX_FLTCFG.WIN (a : Nat) : Fld := ⟨(AX_FLTCFG a), 31, 24⟩
abbrev AX_FLTCFG.TRIES (a : Nat) : Fld := ⟨(AX_FLTCFG a), 23, 20⟩
abbrev AX_FLTCFG.WAIT (a : Nat) : Fld := ⟨(AX_FLTCFG a), 9, 0⟩
/-- Address of AX_FLTSTAT. -/
abbrev AX_FLTSTAT (a : Nat) : Nat := 0x101C4 + 0x200 * a
abbrev AX_FLTSTAT.RECOV (a : Nat) : Fld := ⟨(AX_FLTSTAT a), 31, 31⟩
abbrev AX_FLTSTAT.LEG (a : Nat) : Fld := ⟨(AX_FLTSTAT a), 24, 16⟩
abbrev AX_FLTSTAT.TRYCNT (a : Nat) : Fld := ⟨(AX_FLTSTAT a), 15, 12⟩
abbrev AX_FLTSTAT.CAUSE (a : Nat) : Fld := ⟨(AX_FLTSTAT a), 11, 8⟩
abbrev AX_FLTSTAT.STATE (a : Nat) : Fld := ⟨(AX_FLTSTAT a), 1, 0⟩
/-- Address of AX_FLTCTL. -/
abbrev AX_FLTCTL (a : Nat) : Nat := 0x101C8 + 0x200 * a
abbrev AX_FLTCTL.LATCH (a : Nat) : Fld := ⟨(AX_FLTCTL a), 1, 1⟩
abbrev AX_FLTCTL.CLR (a : Nat) : Fld := ⟨(AX_FLTCTL a), 0, 0⟩
/-- Address of AX_FLTCNT. -/
abbrev AX_FLTCNT (a : Nat) : Nat := 0x101CC + 0x200 * a
abbrev AX_FLTCNT.CLR (a : Nat) : Fld := ⟨(AX_FLTCNT a), 31, 31⟩
abbrev AX_FLTCNT.RETRIES (a : Nat) : Fld := ⟨(AX_FLTCNT a), 15, 8⟩
abbrev AX_FLTCNT.FAULTS (a : Nat) : Fld := ⟨(AX_FLTCNT a), 7, 0⟩
/-- Address of LEG_CFG. -/
abbrev LEG_CFG (l : Nat) : Nat := 0x20000 + 0x40 * l
abbrev LEG_CFG.ADAPT (l : Nat) : Fld := ⟨(LEG_CFG l), 8, 8⟩
abbrev LEG_CFG.DRVINIT (l : Nat) : Fld := ⟨(LEG_CFG l), 4, 0⟩
/-- Address of LEG_STAT. -/
abbrev LEG_STAT (l : Nat) : Nat := 0x20004 + 0x40 * l
abbrev LEG_STAT.HOC (l : Nat) : Fld := ⟨(LEG_STAT l), 15, 15⟩
abbrev LEG_STAT.OC (l : Nat) : Fld := ⟨(LEG_STAT l), 14, 14⟩
abbrev LEG_STAT.IMB (l : Nat) : Fld := ⟨(LEG_STAT l), 13, 13⟩
abbrev LEG_STAT.ILKTO (l : Nat) : Fld := ⟨(LEG_STAT l), 12, 12⟩
abbrev LEG_STAT.XCMD (l : Nat) : Fld := ⟨(LEG_STAT l), 11, 11⟩
abbrev LEG_STAT.SLEWU (l : Nat) : Fld := ⟨(LEG_STAT l), 10, 10⟩
abbrev LEG_STAT.FOLLOW (l : Nat) : Fld := ⟨(LEG_STAT l), 9, 9⟩
abbrev LEG_STAT.PINNED (l : Nat) : Fld := ⟨(LEG_STAT l), 8, 8⟩
abbrev LEG_STAT.DRVCODE (l : Nat) : Fld := ⟨(LEG_STAT l), 4, 0⟩
/-- Address of LEG_EDGE. -/
abbrev LEG_EDGE (l : Nat) : Nat := 0x20008 + 0x40 * l
abbrev LEG_EDGE.TFALL (l : Nat) : Fld := ⟨(LEG_EDGE l), 15, 8⟩
abbrev LEG_EDGE.TRISE (l : Nat) : Fld := ⟨(LEG_EDGE l), 7, 0⟩
/-- Address of LEG_FLTCNT. -/
abbrev LEG_FLTCNT (l : Nat) : Nat := 0x2000C + 0x40 * l
abbrev LEG_FLTCNT.CLR (l : Nat) : Fld := ⟨(LEG_FLTCNT l), 31, 31⟩
abbrev LEG_FLTCNT.ILKCNT (l : Nat) : Fld := ⟨(LEG_FLTCNT l), 30, 24⟩
abbrev LEG_FLTCNT.HOCCNT (l : Nat) : Fld := ⟨(LEG_FLTCNT l), 23, 16⟩
abbrev LEG_FLTCNT.OCCNT (l : Nat) : Fld := ⟨(LEG_FLTCNT l), 15, 8⟩
abbrev LEG_FLTCNT.XCMDCNT (l : Nat) : Fld := ⟨(LEG_FLTCNT l), 7, 0⟩
/-- Address of LEG_TEST. -/
abbrev LEG_TEST (l : Nat) : Nat := 0x20010 + 0x40 * l
abbrev LEG_TEST.ONTIME (l : Nat) : Fld := ⟨(LEG_TEST l), 15, 4⟩
abbrev LEG_TEST.LSON (l : Nat) : Fld := ⟨(LEG_TEST l), 2, 2⟩
abbrev LEG_TEST.HSON (l : Nat) : Fld := ⟨(LEG_TEST l), 1, 1⟩
abbrev LEG_TEST.OVR (l : Nat) : Fld := ⟨(LEG_TEST l), 0, 0⟩
/-- Address of LEG_TRIP. -/
abbrev LEG_TRIP (l : Nat) : Nat := 0x20020 + 0x40 * l
abbrev LEG_TRIP.HARD (l : Nat) : Fld := ⟨(LEG_TRIP l), 31, 31⟩
abbrev LEG_TRIP.SW (l : Nat) : Fld := ⟨(LEG_TRIP l), 30, 30⟩
abbrev LEG_TRIP.PERIOD (l : Nat) : Fld := ⟨(LEG_TRIP l), 29, 22⟩
abbrev LEG_TRIP.TIME (l : Nat) : Fld := ⟨(LEG_TRIP l), 13, 0⟩
/-- Address of RK_MODE. -/
abbrev RK_MODE (r : Nat) : Nat := 0x28000 + 0x80 * r
abbrev RK_MODE.MODE1 (r : Nat) : Fld := ⟨(RK_MODE r), 3, 2⟩
abbrev RK_MODE.MODE0 (r : Nat) : Fld := ⟨(RK_MODE r), 1, 0⟩
/-- Address of RK_STAT. -/
abbrev RK_STAT (r : Nat) : Nat := 0x28008 + 0x80 * r
abbrev RK_STAT.IMB (r : Nat) : Fld := ⟨(RK_STAT r), 17, 16⟩
abbrev RK_STAT.CPRUN (r : Nat) : Fld := ⟨(RK_STAT r), 9, 9⟩
abbrev RK_STAT.CPOK (r : Nat) : Fld := ⟨(RK_STAT r), 8, 8⟩
abbrev RK_STAT.MODEPEND (r : Nat) : Fld := ⟨(RK_STAT r), 5, 4⟩
abbrev RK_STAT.APPLIED1 (r : Nat) : Fld := ⟨(RK_STAT r), 3, 2⟩
abbrev RK_STAT.APPLIED0 (r : Nat) : Fld := ⟨(RK_STAT r), 1, 0⟩
/-- Address of RK_VCP. -/
abbrev RK_VCP (r : Nat) : Nat := 0x2800C + 0x80 * r
abbrev RK_VCP.VCPDIF (r : Nat) : Fld := ⟨(RK_VCP r), 11, 0⟩
/-- Address of RK_IMB. -/
abbrev RK_IMB (r : Nat) : Nat := 0x28010 + 0x80 * r
abbrev RK_IMB.PCT (r : Nat) : Fld := ⟨(RK_IMB r), 15, 8⟩
abbrev RK_IMB.H (r : Nat) : Fld := ⟨(RK_IMB r), 4, 4⟩
abbrev RK_IMB.J (r : Nat) : Fld := ⟨(RK_IMB r), 3, 0⟩
/-- Address of RK_BALCFG. -/
abbrev RK_BALCFG (r : Nat) : Nat := 0x28014 + 0x80 * r
abbrev RK_BALCFG.MASK (r : Nat) : Fld := ⟨(RK_BALCFG r), 31, 16⟩
abbrev RK_BALCFG.NPER (r : Nat) : Fld := ⟨(RK_BALCFG r), 15, 8⟩
abbrev RK_BALCFG.THR (r : Nat) : Fld := ⟨(RK_BALCFG r), 5, 0⟩
/-- Address of RK_FLTSTAT. -/
abbrev RK_FLTSTAT (r : Nat) : Nat := 0x28040 + 0x80 * r
abbrev RK_FLTSTAT.CAUSE (r : Nat) : Fld := ⟨(RK_FLTSTAT r), 15, 12⟩
abbrev RK_FLTSTAT.WARN (r : Nat) : Fld := ⟨(RK_FLTSTAT r), 2, 2⟩
abbrev RK_FLTSTAT.CLRBLK (r : Nat) : Fld := ⟨(RK_FLTSTAT r), 1, 1⟩
abbrev RK_FLTSTAT.FAULT (r : Nat) : Fld := ⟨(RK_FLTSTAT r), 0, 0⟩
/-- Address of RK_FLTCTL. -/
abbrev RK_FLTCTL (r : Nat) : Nat := 0x28044 + 0x80 * r
abbrev RK_FLTCTL.CLR (r : Nat) : Fld := ⟨(RK_FLTCTL r), 0, 0⟩
/-- Address of RK_TRIPMAP. -/
abbrev RK_TRIPMAP (r : Nat) : Nat := 0x28048 + 0x80 * r
abbrev RK_TRIPMAP.LEGS (r : Nat) : Fld := ⟨(RK_TRIPMAP r), 31, 0⟩
/-- Address of RK_THERM. -/
abbrev RK_THERM (r : Nat) : Nat := 0x2804C + 0x80 * r
abbrev RK_THERM.VALID (r : Nat) : Fld := ⟨(RK_THERM r), 31, 31⟩
abbrev RK_THERM.TEMP (r : Nat) : Fld := ⟨(RK_THERM r), 15, 0⟩
/-- Address of CO_PWMPER. -/
abbrev CO_PWMPER (c : Nat) : Nat := 0x29000 + 0x100 * c
abbrev CO_PWMPER.PER (c : Nat) : Fld := ⟨(CO_PWMPER c), 13, 0⟩
/-- Address of CO_BLANK. -/
abbrev CO_BLANK (c : Nat) : Nat := 0x29004 + 0x100 * c
abbrev CO_BLANK.BLANK (c : Nat) : Fld := ⟨(CO_BLANK c), 7, 0⟩
/-- Address of CO_CHOPCFG. -/
abbrev CO_CHOPCFG (c : Nat) : Nat := 0x29008 + 0x100 * c
abbrev CO_CHOPCFG.ZCG (c : Nat) : Fld := ⟨(CO_CHOPCFG c), 12, 8⟩
abbrev CO_CHOPCFG.STAGGER (c : Nat) : Fld := ⟨(CO_CHOPCFG c), 0, 0⟩
/-- Address of CO_PERCNT. -/
abbrev CO_PERCNT (c : Nat) : Nat := 0x2900C + 0x100 * c
abbrev CO_PERCNT.COUNT (c : Nat) : Fld := ⟨(CO_PERCNT c), 31, 0⟩
/-- Address of CO_DTRIM. -/
abbrev CO_DTRIM (c : Nat) : Nat := 0x29010 + 0x100 * c
abbrev CO_DTRIM.STEP (c : Nat) : Fld := ⟨(CO_DTRIM c), 19, 16⟩
abbrev CO_DTRIM.WIN (c : Nat) : Fld := ⟨(CO_DTRIM c), 15, 8⟩
abbrev CO_DTRIM.RIPTGT (c : Nat) : Fld := ⟨(CO_DTRIM c), 5, 0⟩
/-- Address of CO_SLEWTGT. -/
abbrev CO_SLEWTGT (c : Nat) : Nat := 0x29040 + 0x100 * c
abbrev CO_SLEWTGT.TGT (c : Nat) : Fld := ⟨(CO_SLEWTGT c), 7, 0⟩
/-- Address of CO_DEADT. -/
abbrev CO_DEADT (c : Nat) : Nat := 0x29044 + 0x100 * c
abbrev CO_DEADT.DT (c : Nat) : Fld := ⟨(CO_DEADT c), 6, 0⟩
/-- Address of CO_TEMP. -/
abbrev CO_TEMP (c : Nat) (k : Nat) : Nat := 0x29050 + 0x100 * c + 0x4 * k
abbrev CO_TEMP.VALID (c : Nat) (k : Nat) : Fld := ⟨(CO_TEMP c k), 31, 31⟩
abbrev CO_TEMP.TEMP (c : Nat) (k : Nat) : Fld := ⟨(CO_TEMP c k), 15, 0⟩
/-- Address of CO_TEMPMAX. -/
abbrev CO_TEMPMAX (c : Nat) : Nat := 0x29070 + 0x100 * c
abbrev CO_TEMPMAX.SENSOR (c : Nat) : Fld := ⟨(CO_TEMPMAX c), 18, 16⟩
abbrev CO_TEMPMAX.TEMP (c : Nat) : Fld := ⟨(CO_TEMPMAX c), 15, 0⟩
/-- Address of CO_STAT. -/
abbrev CO_STAT (c : Nat) : Nat := 0x29074 + 0x100 * c
abbrev CO_STAT.XCMDR (c : Nat) : Fld := ⟨(CO_STAT c), 15, 12⟩
abbrev CO_STAT.SLEWR (c : Nat) : Fld := ⟨(CO_STAT c), 11, 8⟩
abbrev CO_STAT.CPOKR (c : Nat) : Fld := ⟨(CO_STAT c), 7, 4⟩
abbrev CO_STAT.GREGOK (c : Nat) : Fld := ⟨(CO_STAT c), 0, 0⟩
/-- Address of CO_PROTCFG. -/
abbrev CO_PROTCFG (c : Nat) : Nat := 0x29080 + 0x100 * c
abbrev CO_PROTCFG.MASK (c : Nat) : Fld := ⟨(CO_PROTCFG c), 31, 16⟩
abbrev CO_PROTCFG.PERSIST (c : Nat) : Fld := ⟨(CO_PROTCFG c), 15, 8⟩
abbrev CO_PROTCFG.OVACT (c : Nat) : Fld := ⟨(CO_PROTCFG c), 0, 0⟩
/-- Address of CO_VM. -/
abbrev CO_VM (c : Nat) : Nat := 0x29084 + 0x100 * c
abbrev CO_VM.UVF (c : Nat) : Fld := ⟨(CO_VM c), 19, 19⟩
abbrev CO_VM.OVF (c : Nat) : Fld := ⟨(CO_VM c), 18, 18⟩
abbrev CO_VM.UVW (c : Nat) : Fld := ⟨(CO_VM c), 17, 17⟩
abbrev CO_VM.OVW (c : Nat) : Fld := ⟨(CO_VM c), 16, 16⟩
abbrev CO_VM.VM (c : Nat) : Fld := ⟨(CO_VM c), 15, 0⟩
/-- Address of CO_FLTSTAT. -/
abbrev CO_FLTSTAT (c : Nat) : Nat := 0x29088 + 0x100 * c
abbrev CO_FLTSTAT.CAUSE (c : Nat) : Fld := ⟨(CO_FLTSTAT c), 7, 4⟩
abbrev CO_FLTSTAT.FAULT (c : Nat) : Fld := ⟨(CO_FLTSTAT c), 0, 0⟩
/-- Address of CO_FLTCTL. -/
abbrev CO_FLTCTL (c : Nat) : Nat := 0x2908C + 0x100 * c
abbrev CO_FLTCTL.CLRVM (c : Nat) : Fld := ⟨(CO_FLTCTL c), 1, 1⟩
abbrev CO_FLTCTL.CLR (c : Nat) : Fld := ⟨(CO_FLTCTL c), 0, 0⟩
/-- Address of CO_LINKCFG. -/
abbrev CO_LINKCFG (c : Nat) : Nat := 0x290C0 + 0x100 * c
abbrev CO_LINKCFG.MASK (c : Nat) : Fld := ⟨(CO_LINKCFG c), 31, 16⟩
abbrev CO_LINKCFG.CLRCNT (c : Nat) : Fld := ⟨(CO_LINKCFG c), 1, 1⟩
abbrev CO_LINKCFG.SAFE (c : Nat) : Fld := ⟨(CO_LINKCFG c), 0, 0⟩
/-- Address of CO_LINKSTAT. -/
abbrev CO_LINKSTAT (c : Nat) : Nat := 0x290C4 + 0x100 * c
abbrev CO_LINKSTAT.LOSSCAUSE (c : Nat) : Fld := ⟨(CO_LINKSTAT c), 7, 4⟩
abbrev CO_LINKSTAT.SAFEACT (c : Nat) : Fld := ⟨(CO_LINKSTAT c), 1, 1⟩
abbrev CO_LINKSTAT.UP (c : Nat) : Fld := ⟨(CO_LINKSTAT c), 0, 0⟩
/-- Address of CO_LINKERR. -/
abbrev CO_LINKERR (c : Nat) : Nat := 0x290C8 + 0x100 * c
abbrev CO_LINKERR.CRCUP (c : Nat) : Fld := ⟨(CO_LINKERR c), 31, 16⟩
abbrev CO_LINKERR.CRCDN (c : Nat) : Fld := ⟨(CO_LINKERR c), 15, 8⟩
abbrev CO_LINKERR.MISS (c : Nat) : Fld := ⟨(CO_LINKERR c), 7, 0⟩
/-- Address of SEG0. -/
abbrev SEG0 (i : Nat) : Nat := 0x30000 + 0x10 * i
abbrev SEG0.DPOSL (i : Nat) : Fld := ⟨(SEG0 i), 31, 0⟩
/-- Address of SEG1. -/
abbrev SEG1 (i : Nat) : Nat := 0x30004 + 0x10 * i
abbrev SEG1.DPOSH (i : Nat) : Fld := ⟨(SEG1 i), 31, 24⟩
abbrev SEG1.DUR (i : Nat) : Fld := ⟨(SEG1 i), 23, 0⟩
/-- Address of SEG2. -/
abbrev SEG2 (i : Nat) : Nat := 0x30008 + 0x10 * i
abbrev SEG2.VEND (i : Nat) : Fld := ⟨(SEG2 i), 31, 0⟩
/-- Address of SEG3. -/
abbrev SEG3 (i : Nat) : Nat := 0x3000C + 0x10 * i
abbrev SEG3.FLAGS (i : Nat) : Fld := ⟨(SEG3 i), 31, 24⟩
abbrev SEG3.ZERO (i : Nat) : Fld := ⟨(SEG3 i), 23, 12⟩
abbrev SEG3.NEXT (i : Nat) : Fld := ⟨(SEG3 i), 11, 0⟩
/-- Address of WAVE. -/
abbrev WAVE (t : Nat) (k : Nat) : Nat := 0x40000 + 0x800 * t + 0x4 * k
abbrev WAVE.Q (t : Nat) (k : Nat) : Fld := ⟨(WAVE t k), 11, 0⟩
/-- Address of WAVE_CTL. -/
abbrev WAVE_CTL (t : Nat) : Nat := 0x40404 + 0x800 * t
abbrev WAVE_CTL.LOAD (t : Nat) : Fld := ⟨(WAVE_CTL t), 0, 0⟩
/-- Address of WAVE_STAT. -/
abbrev WAVE_STAT (t : Nat) : Nat := 0x40408 + 0x800 * t
abbrev WAVE_STAT.CLR (t : Nat) : Fld := ⟨(WAVE_STAT t), 31, 31⟩
abbrev WAVE_STAT.STORED (t : Nat) : Fld := ⟨(WAVE_STAT t), 16, 16⟩
abbrev WAVE_STAT.CORR (t : Nat) : Fld := ⟨(WAVE_STAT t), 15, 8⟩
abbrev WAVE_STAT.UNCORR (t : Nat) : Fld := ⟨(WAVE_STAT t), 7, 0⟩
/-- Address of ENC_CFG. -/
abbrev ENC_CFG (n : Nat) : Nat := 0x50000 + 0x80 * n
abbrev ENC_CFG.REPEAT (n : Nat) : Fld := ⟨(ENC_CFG n), 9, 8⟩
abbrev ENC_CFG.ZEV (n : Nat) : Fld := ⟨(ENC_CFG n), 6, 6⟩
abbrev ENC_CFG.ZGATE (n : Nat) : Fld := ⟨(ENC_CFG n), 5, 5⟩
abbrev ENC_CFG.ZPOL (n : Nat) : Fld := ⟨(ENC_CFG n), 4, 4⟩
abbrev ENC_CFG.ZMODE (n : Nat) : Fld := ⟨(ENC_CFG n), 3, 2⟩
abbrev ENC_CFG.INV (n : Nat) : Fld := ⟨(ENC_CFG n), 1, 1⟩
abbrev ENC_CFG.EN (n : Nat) : Fld := ⟨(ENC_CFG n), 0, 0⟩
/-- Address of ENC_FILT. -/
abbrev ENC_FILT (n : Nat) : Nat := 0x50004 + 0x80 * n
abbrev ENC_FILT.PRE (n : Nat) : Fld := ⟨(ENC_FILT n), 15, 8⟩
abbrev ENC_FILT.N (n : Nat) : Fld := ⟨(ENC_FILT n), 7, 0⟩
/-- Address of ENC_CNT. -/
abbrev ENC_CNT (n : Nat) : Nat := 0x50008 + 0x80 * n
abbrev ENC_CNT.CNT (n : Nat) : Fld := ⟨(ENC_CNT n), 31, 0⟩
/-- Address of ENC_ZLATCH. -/
abbrev ENC_ZLATCH (n : Nat) : Nat := 0x5000C + 0x80 * n
abbrev ENC_ZLATCH.LATCH (n : Nat) : Fld := ⟨(ENC_ZLATCH n), 31, 0⟩
/-- Address of ENC_ZVAL. -/
abbrev ENC_ZVAL (n : Nat) : Nat := 0x50010 + 0x80 * n
abbrev ENC_ZVAL.VAL (n : Nat) : Fld := ⟨(ENC_ZVAL n), 31, 0⟩
/-- Address of ENC_STAT. -/
abbrev ENC_STAT (n : Nat) : Nat := 0x50014 + 0x80 * n
abbrev ENC_STAT.FAULT (n : Nat) : Fld := ⟨(ENC_STAT n), 11, 11⟩
abbrev ENC_STAT.ILL (n : Nat) : Fld := ⟨(ENC_STAT n), 10, 10⟩
abbrev ENC_STAT.ZSEEN (n : Nat) : Fld := ⟨(ENC_STAT n), 9, 9⟩
abbrev ENC_STAT.WRAP (n : Nat) : Fld := ⟨(ENC_STAT n), 8, 8⟩
abbrev ENC_STAT.SPDMODE (n : Nat) : Fld := ⟨(ENC_STAT n), 4, 4⟩
abbrev ENC_STAT.DIR (n : Nat) : Fld := ⟨(ENC_STAT n), 3, 3⟩
abbrev ENC_STAT.Z (n : Nat) : Fld := ⟨(ENC_STAT n), 2, 2⟩
abbrev ENC_STAT.B (n : Nat) : Fld := ⟨(ENC_STAT n), 1, 1⟩
abbrev ENC_STAT.A (n : Nat) : Fld := ⟨(ENC_STAT n), 0, 0⟩
/-- Address of ENC_ERR. -/
abbrev ENC_ERR (n : Nat) : Nat := 0x50018 + 0x80 * n
abbrev ENC_ERR.CLR (n : Nat) : Fld := ⟨(ENC_ERR n), 31, 31⟩
abbrev ENC_ERR.ERRCNT (n : Nat) : Fld := ⟨(ENC_ERR n), 7, 0⟩
/-- Address of ENC_ERRCFG. -/
abbrev ENC_ERRCFG (n : Nat) : Nat := 0x5001C + 0x80 * n
abbrev ENC_ERRCFG.WIN (n : Nat) : Fld := ⟨(ENC_ERRCFG n), 31, 16⟩
abbrev ENC_ERRCFG.LIM (n : Nat) : Fld := ⟨(ENC_ERRCFG n), 7, 0⟩
/-- Address of ENC_SPD. -/
abbrev ENC_SPD (n : Nat) : Nat := 0x50020 + 0x80 * n
abbrev ENC_SPD.SPD (n : Nat) : Fld := ⟨(ENC_SPD n), 31, 0⟩
/-- Address of ENC_PER. -/
abbrev ENC_PER (n : Nat) : Nat := 0x50024 + 0x80 * n
abbrev ENC_PER.PER (n : Nat) : Fld := ⟨(ENC_PER n), 23, 0⟩
/-- Address of ENC_SPDCFG. -/
abbrev ENC_SPDCFG (n : Nat) : Nat := 0x50028 + 0x80 * n
abbrev ENC_SPDCFG.SPDSW (n : Nat) : Fld := ⟨(ENC_SPDCFG n), 19, 0⟩
/-- Address of ENC_MCNT. -/
abbrev ENC_MCNT (n : Nat) : Nat := 0x5002C + 0x80 * n
abbrev ENC_MCNT.MCNT (n : Nat) : Fld := ⟨(ENC_MCNT n), 31, 0⟩
/-- Address of CMP_CFG. -/
abbrev CMP_CFG (n : Nat) : Nat := 0x50040 + 0x80 * n
abbrev CMP_CFG.PW (n : Nat) : Fld := ⟨(CMP_CFG n), 31, 16⟩
abbrev CMP_CFG.AXIS (n : Nat) : Fld := ⟨(CMP_CFG n), 14, 8⟩
abbrev CMP_CFG.SRC (n : Nat) : Fld := ⟨(CMP_CFG n), 4, 4⟩
abbrev CMP_CFG.POL (n : Nat) : Fld := ⟨(CMP_CFG n), 3, 3⟩
abbrev CMP_CFG.CATCHUP (n : Nat) : Fld := ⟨(CMP_CFG n), 2, 2⟩
abbrev CMP_CFG.DIR (n : Nat) : Fld := ⟨(CMP_CFG n), 1, 1⟩
abbrev CMP_CFG.ARM (n : Nat) : Fld := ⟨(CMP_CFG n), 0, 0⟩
/-- Address of CMP_POS. -/
abbrev CMP_POS (n : Nat) : Nat := 0x50044 + 0x80 * n
abbrev CMP_POS.POS (n : Nat) : Fld := ⟨(CMP_POS n), 31, 0⟩
/-- Address of CMP_SPACING. -/
abbrev CMP_SPACING (n : Nat) : Nat := 0x50048 + 0x80 * n
abbrev CMP_SPACING.SPACING (n : Nat) : Fld := ⟨(CMP_SPACING n), 30, 0⟩
/-- Address of CMP_COUNT. -/
abbrev CMP_COUNT (n : Nat) : Nat := 0x5004C + 0x80 * n
abbrev CMP_COUNT.LEFT (n : Nat) : Fld := ⟨(CMP_COUNT n), 31, 16⟩
abbrev CMP_COUNT.COUNT (n : Nat) : Fld := ⟨(CMP_COUNT n), 15, 0⟩
/-- Address of CMP_STAT. -/
abbrev CMP_STAT (n : Nat) : Nat := 0x50050 + 0x80 * n
abbrev CMP_STAT.OUT (n : Nat) : Fld := ⟨(CMP_STAT n), 4, 4⟩
abbrev CMP_STAT.OVLP (n : Nat) : Fld := ⟨(CMP_STAT n), 3, 3⟩
abbrev CMP_STAT.DONE (n : Nat) : Fld := ⟨(CMP_STAT n), 2, 2⟩
abbrev CMP_STAT.BEHIND (n : Nat) : Fld := ⟨(CMP_STAT n), 1, 1⟩
abbrev CMP_STAT.ARMED (n : Nat) : Fld := ⟨(CMP_STAT n), 0, 0⟩
/-- Address of CMP_CNTS. -/
abbrev CMP_CNTS (n : Nat) : Nat := 0x50054 + 0x80 * n
abbrev CMP_CNTS.CLR (n : Nat) : Fld := ⟨(CMP_CNTS n), 31, 31⟩
abbrev CMP_CNTS.SKIP (n : Nat) : Fld := ⟨(CMP_CNTS n), 30, 16⟩
abbrev CMP_CNTS.HITS (n : Nat) : Fld := ⟨(CMP_CNTS n), 15, 0⟩
/-- Address of STEP_CFG. -/
abbrev STEP_CFG (n : Nat) : Nat := 0x50400 + 0x40 * n
abbrev STEP_CFG.PUPS (n : Nat) : Fld := ⟨(STEP_CFG n), 26, 16⟩
abbrev STEP_CFG.DIRINV (n : Nat) : Fld := ⟨(STEP_CFG n), 2, 2⟩
abbrev STEP_CFG.EDGE (n : Nat) : Fld := ⟨(STEP_CFG n), 1, 1⟩
abbrev STEP_CFG.EN (n : Nat) : Fld := ⟨(STEP_CFG n), 0, 0⟩
/-- Address of STEP_FILT. -/
abbrev STEP_FILT (n : Nat) : Nat := 0x50404 + 0x40 * n
abbrev STEP_FILT.PRE (n : Nat) : Fld := ⟨(STEP_FILT n), 15, 8⟩
abbrev STEP_FILT.N (n : Nat) : Fld := ⟨(STEP_FILT n), 7, 0⟩
/-- Address of STEP_CNT. -/
abbrev STEP_CNT (n : Nat) : Nat := 0x50408 + 0x40 * n
abbrev STEP_CNT.CNT (n : Nat) : Fld := ⟨(STEP_CNT n), 31, 0⟩
/-- Address of STEP_TIMING. -/
abbrev STEP_TIMING (n : Nat) : Nat := 0x5040C + 0x40 * n
abbrev STEP_TIMING.TSU (n : Nat) : Fld := ⟨(STEP_TIMING n), 23, 16⟩
abbrev STEP_TIMING.MINPER (n : Nat) : Fld := ⟨(STEP_TIMING n), 15, 0⟩
/-- Address of STEP_STAT. -/
abbrev STEP_STAT (n : Nat) : Nat := 0x50410 + 0x40 * n
abbrev STEP_STAT.SETUP (n : Nat) : Fld := ⟨(STEP_STAT n), 10, 10⟩
abbrev STEP_STAT.OVSPD (n : Nat) : Fld := ⟨(STEP_STAT n), 9, 9⟩
abbrev STEP_STAT.WRAP (n : Nat) : Fld := ⟨(STEP_STAT n), 8, 8⟩
abbrev STEP_STAT.DIR (n : Nat) : Fld := ⟨(STEP_STAT n), 1, 1⟩
abbrev STEP_STAT.STEP (n : Nat) : Fld := ⟨(STEP_STAT n), 0, 0⟩
/-- Address of STEP_ERR. -/
abbrev STEP_ERR (n : Nat) : Nat := 0x50414 + 0x40 * n
abbrev STEP_ERR.CLR (n : Nat) : Fld := ⟨(STEP_ERR n), 31, 31⟩
abbrev STEP_ERR.OVCNT (n : Nat) : Fld := ⟨(STEP_ERR n), 15, 8⟩
abbrev STEP_ERR.SUCNT (n : Nat) : Fld := ⟨(STEP_ERR n), 7, 0⟩
/-- Address of STEP_MCNT. -/
abbrev STEP_MCNT (n : Nat) : Nat := 0x50418 + 0x40 * n
abbrev STEP_MCNT.MCNT (n : Nat) : Fld := ⟨(STEP_MCNT n), 31, 0⟩
/-- Address of AFE_CFGA. -/
abbrev AFE_CFGA (k : Nat) : Nat := 0x60000 + 0x4 * k
abbrev AFE_CFGA.ISRC (k : Nat) : Fld := ⟨(AFE_CFGA k), 30, 30⟩
abbrev AFE_CFGA.TDAC (k : Nat) : Fld := ⟨(AFE_CFGA k), 29, 28⟩
abbrev AFE_CFGA.LEADK (k : Nat) : Fld := ⟨(AFE_CFGA k), 27, 26⟩
abbrev AFE_CFGA.OHMS (k : Nat) : Fld := ⟨(AFE_CFGA k), 25, 25⟩
abbrev AFE_CFGA.BRKEN (k : Nat) : Fld := ⟨(AFE_CFGA k), 24, 24⟩
abbrev AFE_CFGA.PEXC (k : Nat) : Fld := ⟨(AFE_CFGA k), 23, 22⟩
abbrev AFE_CFGA.REF (k : Nat) : Fld := ⟨(AFE_CFGA k), 21, 20⟩
abbrev AFE_CFGA.GAIN (k : Nat) : Fld := ⟨(AFE_CFGA k), 19, 17⟩
abbrev AFE_CFGA.LEADPIN (k : Nat) : Fld := ⟨(AFE_CFGA k), 16, 12⟩
abbrev AFE_CFGA.AINN (k : Nat) : Fld := ⟨(AFE_CFGA k), 11, 6⟩
abbrev AFE_CFGA.AINP (k : Nat) : Fld := ⟨(AFE_CFGA k), 5, 0⟩
/-- Address of AFE_CFGB. -/
abbrev AFE_CFGB (k : Nat) : Nat := 0x60040 + 0x4 * k
abbrev AFE_CFGB.LEADN (k : Nat) : Fld := ⟨(AFE_CFGB k), 23, 16⟩
abbrev AFE_CFGB.SETTLE (k : Nat) : Fld := ⟨(AFE_CFGB k), 15, 0⟩
/-- Address of AFE_CFGC. -/
abbrev AFE_CFGC (k : Nat) : Nat := 0x60080 + 0x4 * k
abbrev AFE_CFGC.LEAD (k : Nat) : Fld := ⟨(AFE_CFGC k), 31, 16⟩
abbrev AFE_CFGC.VCMHI (k : Nat) : Fld := ⟨(AFE_CFGC k), 15, 8⟩
abbrev AFE_CFGC.VCMLO (k : Nat) : Fld := ⟨(AFE_CFGC k), 7, 0⟩
/-- Address of AFE_IEXC. -/
abbrev AFE_IEXC : Nat := 0x600C0
abbrev AFE_IEXC.MODE1 : Fld := ⟨AFE_IEXC, 26, 25⟩
abbrev AFE_IEXC.PIN1 : Fld := ⟨AFE_IEXC, 24, 20⟩
abbrev AFE_IEXC.CODE1 : Fld := ⟨AFE_IEXC, 18, 16⟩
abbrev AFE_IEXC.MODE0 : Fld := ⟨AFE_IEXC, 10, 9⟩
abbrev AFE_IEXC.PIN0 : Fld := ⟨AFE_IEXC, 8, 4⟩
abbrev AFE_IEXC.CODE0 : Fld := ⟨AFE_IEXC, 2, 0⟩
/-- Address of AFE_VEXC. -/
abbrev AFE_VEXC : Nat := 0x600C4
abbrev AFE_VEXC.LEVEL : Fld := ⟨AFE_VEXC, 1, 1⟩
abbrev AFE_VEXC.EN : Fld := ⟨AFE_VEXC, 0, 0⟩
/-- Address of AFE_TDAC. -/
abbrev AFE_TDAC : Nat := 0x600C8
abbrev AFE_TDAC.CODE : Fld := ⟨AFE_TDAC, 11, 0⟩
/-- Address of AFE_RREF. -/
abbrev AFE_RREF : Nat := 0x600CC
abbrev AFE_RREF.RREF : Fld := ⟨AFE_RREF, 31, 0⟩
/-- Address of AFE_STAT. -/
abbrev AFE_STAT : Nat := 0x600D0
abbrev AFE_STAT.EXCPEND : Fld := ⟨AFE_STAT, 8, 8⟩
abbrev AFE_STAT.REFOFF : Fld := ⟨AFE_STAT, 7, 7⟩
abbrev AFE_STAT.PLONG : Fld := ⟨AFE_STAT, 6, 6⟩
abbrev AFE_STAT.DUTYHOLD : Fld := ⟨AFE_STAT, 5, 4⟩
abbrev AFE_STAT.VSHORT : Fld := ⟨AFE_STAT, 3, 3⟩
abbrev AFE_STAT.COMPL : Fld := ⟨AFE_STAT, 1, 0⟩
/-- Address of AFE_BRK. -/
abbrev AFE_BRK : Nat := 0x600D4
abbrev AFE_BRK.VALID : Fld := ⟨AFE_BRK, 31, 31⟩
abbrev AFE_BRK.MORE : Fld := ⟨AFE_BRK, 30, 30⟩
abbrev AFE_BRK.M : Fld := ⟨AFE_BRK, 25, 24⟩
abbrev AFE_BRK.CFG : Fld := ⟨AFE_BRK, 19, 16⟩
abbrev AFE_BRK.HIGH : Fld := ⟨AFE_BRK, 8, 8⟩
abbrev AFE_BRK.VCM : Fld := ⟨AFE_BRK, 7, 0⟩
/-- Address of AFE_BRKCNT. -/
abbrev AFE_BRKCNT : Nat := 0x600D8
abbrev AFE_BRKCNT.CNT : Fld := ⟨AFE_BRKCNT, 31, 0⟩
/-- Address of AFE_DUTY. -/
abbrev AFE_DUTY : Nat := 0x600DC
abbrev AFE_DUTY.CLR : Fld := ⟨AFE_DUTY, 31, 31⟩
abbrev AFE_DUTY.HOLDCNT1 : Fld := ⟨AFE_DUTY, 15, 8⟩
abbrev AFE_DUTY.HOLDCNT0 : Fld := ⟨AFE_DUTY, 7, 0⟩
/-- Address of SD_CFG. -/
abbrev SD_CFG (m : Nat) : Nat := 0x60100 + 0x80 * m
abbrev SD_CFG.MOVE (m : Nat) : Fld := ⟨(SD_CFG m), 23, 23⟩
abbrev SD_CFG.ARMAX (m : Nat) : Fld := ⟨(SD_CFG m), 22, 20⟩
abbrev SD_CFG.ARMIN (m : Nat) : Fld := ⟨(SD_CFG m), 18, 16⟩
abbrev SD_CFG.AR (m : Nat) : Fld := ⟨(SD_CFG m), 15, 15⟩
abbrev SD_CFG.RATE (m : Nat) : Fld := ⟨(SD_CFG m), 11, 8⟩
abbrev SD_CFG.FILT (m : Nat) : Fld := ⟨(SD_CFG m), 7, 6⟩
abbrev SD_CFG.REGTRIG (m : Nat) : Fld := ⟨(SD_CFG m), 5, 4⟩
abbrev SD_CFG.CLASS (m : Nat) : Fld := ⟨(SD_CFG m), 1, 1⟩
abbrev SD_CFG.EN (m : Nat) : Fld := ⟨(SD_CFG m), 0, 0⟩
/-- Address of SD_CMD. -/
abbrev SD_CMD (m : Nat) : Nat := 0x60104 + 0x80 * m
abbrev SD_CMD.MASK (m : Nat) : Fld := ⟨(SD_CMD m), 11, 8⟩
abbrev SD_CMD.CMD (m : Nat) : Fld := ⟨(SD_CMD m), 3, 0⟩
/-- Address of SD_DIRECT. -/
abbrev SD_DIRECT (m : Nat) : Nat := 0x60108 + 0x80 * m
abbrev SD_DIRECT.CFG (m : Nat) : Fld := ⟨(SD_DIRECT m), 3, 0⟩
/-- Address of SD_SEQ0. -/
abbrev SD_SEQ0 (m : Nat) : Nat := 0x6010C + 0x80 * m
abbrev SD_SEQ0.SLOT (m : Nat) : Fld := ⟨(SD_SEQ0 m), 31, 0⟩
/-- Address of SD_SEQ1. -/
abbrev SD_SEQ1 (m : Nat) : Nat := 0x60110 + 0x80 * m
abbrev SD_SEQ1.SLOT (m : Nat) : Fld := ⟨(SD_SEQ1 m), 31, 0⟩
/-- Address of SD_SEQCTL. -/
abbrev SD_SEQCTL (m : Nat) : Nat := 0x60114 + 0x80 * m
abbrev SD_SEQCTL.RLEN (m : Nat) : Fld := ⟨(SD_SEQCTL m), 31, 28⟩
abbrev SD_SEQCTL.ILEN (m : Nat) : Fld := ⟨(SD_SEQCTL m), 25, 24⟩
abbrev SD_SEQCTL.TPL (m : Nat) : Fld := ⟨(SD_SEQCTL m), 22, 22⟩
abbrev SD_SEQCTL.TTIM (m : Nat) : Fld := ⟨(SD_SEQCTL m), 21, 21⟩
abbrev SD_SEQCTL.TPIN (m : Nat) : Fld := ⟨(SD_SEQCTL m), 20, 20⟩
abbrev SD_SEQCTL.PEDGE (m : Nat) : Fld := ⟨(SD_SEQCTL m), 19, 19⟩
abbrev SD_SEQCTL.ISLOT (m : Nat) : Fld := ⟨(SD_SEQCTL m), 15, 0⟩
/-- Address of SD_AVG. -/
abbrev SD_AVG (m : Nat) : Nat := 0x60118 + 0x80 * m
abbrev SD_AVG.TPER (m : Nat) : Fld := ⟨(SD_AVG m), 31, 16⟩
abbrev SD_AVG.SHIFT (m : Nat) : Fld := ⟨(SD_AVG m), 15, 12⟩
abbrev SD_AVG.AVG (m : Nat) : Fld := ⟨(SD_AVG m), 8, 0⟩
/-- Address of SD_STAT. -/
abbrev SD_STAT (m : Nat) : Nat := 0x6011C + 0x80 * m
abbrev SD_STAT.CALFAIL (m : Nat) : Fld := ⟨(SD_STAT m), 31, 24⟩
abbrev SD_STAT.LINSRC (m : Nat) : Fld := ⟨(SD_STAT m), 23, 21⟩
abbrev SD_STAT.TDEF (m : Nat) : Fld := ⟨(SD_STAT m), 20, 20⟩
abbrev SD_STAT.SIMLATE (m : Nat) : Fld := ⟨(SD_STAT m), 19, 19⟩
abbrev SD_STAT.IOVR (m : Nat) : Fld := ⟨(SD_STAT m), 18, 18⟩
abbrev SD_STAT.OVR (m : Nat) : Fld := ⟨(SD_STAT m), 17, 17⟩
abbrev SD_STAT.CALDONE (m : Nat) : Fld := ⟨(SD_STAT m), 16, 16⟩
abbrev SD_STAT.SLOT (m : Nat) : Fld := ⟨(SD_STAT m), 15, 12⟩
abbrev SD_STAT.CAL (m : Nat) : Fld := ⟨(SD_STAT m), 9, 9⟩
abbrev SD_STAT.INJ (m : Nat) : Fld := ⟨(SD_STAT m), 8, 8⟩
abbrev SD_STAT.WAIT (m : Nat) : Fld := ⟨(SD_STAT m), 3, 3⟩
abbrev SD_STAT.TLATE (m : Nat) : Fld := ⟨(SD_STAT m), 2, 2⟩
abbrev SD_STAT.CONV (m : Nat) : Fld := ⟨(SD_STAT m), 1, 1⟩
abbrev SD_STAT.ACTIVE (m : Nat) : Fld := ⟨(SD_STAT m), 0, 0⟩
/-- Address of SD_RESULT. -/
abbrev SD_RESULT (m : Nat) : Nat := 0x60120 + 0x80 * m
abbrev SD_RESULT.GAIN (m : Nat) : Fld := ⟨(SD_RESULT m), 31, 29⟩
abbrev SD_RESULT.BRK (m : Nat) : Fld := ⟨(SD_RESULT m), 28, 28⟩
abbrev SD_RESULT.OVR (m : Nat) : Fld := ⟨(SD_RESULT m), 27, 27⟩
abbrev SD_RESULT.SAT (m : Nat) : Fld := ⟨(SD_RESULT m), 26, 26⟩
abbrev SD_RESULT.CODE (m : Nat) : Fld := ⟨(SD_RESULT m), 23, 0⟩
/-- Address of SD_RESINFO. -/
abbrev SD_RESINFO (m : Nat) : Nat := 0x60124 + 0x80 * m
abbrev SD_RESINFO.SEQ (m : Nat) : Fld := ⟨(SD_RESINFO m), 31, 16⟩
abbrev SD_RESINFO.SLOT (m : Nat) : Fld := ⟨(SD_RESINFO m), 15, 12⟩
abbrev SD_RESINFO.INJ (m : Nat) : Fld := ⟨(SD_RESINFO m), 11, 11⟩
abbrev SD_RESINFO.DIRECT (m : Nat) : Fld := ⟨(SD_RESINFO m), 10, 10⟩
abbrev SD_RESINFO.CFG (m : Nat) : Fld := ⟨(SD_RESINFO m), 7, 4⟩
/-- Address of SD_INJRESULT. -/
abbrev SD_INJRESULT (m : Nat) : Nat := 0x60128 + 0x80 * m
abbrev SD_INJRESULT.GAIN (m : Nat) : Fld := ⟨(SD_INJRESULT m), 31, 29⟩
abbrev SD_INJRESULT.BRK (m : Nat) : Fld := ⟨(SD_INJRESULT m), 28, 28⟩
abbrev SD_INJRESULT.OVR (m : Nat) : Fld := ⟨(SD_INJRESULT m), 27, 27⟩
abbrev SD_INJRESULT.SAT (m : Nat) : Fld := ⟨(SD_INJRESULT m), 26, 26⟩
abbrev SD_INJRESULT.CODE (m : Nat) : Fld := ⟨(SD_INJRESULT m), 23, 0⟩
/-- Address of SD_INJRESINFO. -/
abbrev SD_INJRESINFO (m : Nat) : Nat := 0x6012C + 0x80 * m
abbrev SD_INJRESINFO.SEQ (m : Nat) : Fld := ⟨(SD_INJRESINFO m), 31, 16⟩
abbrev SD_INJRESINFO.SLOT (m : Nat) : Fld := ⟨(SD_INJRESINFO m), 15, 12⟩
abbrev SD_INJRESINFO.INJ (m : Nat) : Fld := ⟨(SD_INJRESINFO m), 11, 11⟩
abbrev SD_INJRESINFO.DIRECT (m : Nat) : Fld := ⟨(SD_INJRESINFO m), 10, 10⟩
abbrev SD_INJRESINFO.CFG (m : Nat) : Fld := ⟨(SD_INJRESINFO m), 7, 4⟩
/-- Address of SD_CNT. -/
abbrev SD_CNT (m : Nat) : Nat := 0x60130 + 0x80 * m
abbrev SD_CNT.INJDROP (m : Nat) : Fld := ⟨(SD_CNT m), 31, 16⟩
abbrev SD_CNT.OVRCNT (m : Nat) : Fld := ⟨(SD_CNT m), 15, 8⟩
abbrev SD_CNT.ARCNT (m : Nat) : Fld := ⟨(SD_CNT m), 7, 0⟩
/-- Address of SD_LINRES. -/
abbrev SD_LINRES (m : Nat) : Nat := 0x60134 + 0x80 * m
abbrev SD_LINRES.Y (m : Nat) : Fld := ⟨(SD_LINRES m), 31, 0⟩
/-- Address of SD_LINADDR. -/
abbrev SD_LINADDR (m : Nat) : Nat := 0x60138 + 0x80 * m
abbrev SD_LINADDR.ADDR (m : Nat) : Fld := ⟨(SD_LINADDR m), 9, 0⟩
/-- Address of SD_LINDATA. -/
abbrev SD_LINDATA (m : Nat) : Nat := 0x6013C + 0x80 * m
abbrev SD_LINDATA.DATA (m : Nat) : Fld := ⟨(SD_LINDATA m), 31, 0⟩
/-- Address of SD_CAL_OFS. -/
abbrev SD_CAL_OFS (m : Nat) (k : Nat) : Nat := 0x60140 + 0x80 * m + 0x8 * k
abbrev SD_CAL_OFS.OFS (m : Nat) (k : Nat) : Fld := ⟨(SD_CAL_OFS m k), 23, 0⟩
/-- Address of SD_CAL_GAIN. -/
abbrev SD_CAL_GAIN (m : Nat) (k : Nat) : Nat := 0x60144 + 0x80 * m + 0x8 * k
abbrev SD_CAL_GAIN.GAIN (m : Nat) (k : Nat) : Fld := ⟨(SD_CAL_GAIN m k), 23, 0⟩
/-- Address of EV_PEND. -/
abbrev EV_PEND (k : Nat) : Nat := 0x70000 + 0x4 * k
abbrev EV_PEND.PEND (k : Nat) : Fld := ⟨(EV_PEND k), 31, 0⟩
/-- Address of EV_EN. -/
abbrev EV_EN (k : Nat) : Nat := 0x70010 + 0x4 * k
abbrev EV_EN.EN (k : Nat) : Fld := ⟨(EV_EN k), 31, 0⟩
/-- Address of EV_ACT. -/
abbrev EV_ACT (k : Nat) : Nat := 0x70020 + 0x4 * k
abbrev EV_ACT.ACT (k : Nat) : Fld := ⟨(EV_ACT k), 31, 0⟩
/-- Address of EV_AXDONE. -/
abbrev EV_AXDONE (k : Nat) : Nat := 0x70030 + 0x4 * k
abbrev EV_AXDONE.DONE (k : Nat) : Fld := ⟨(EV_AXDONE k), 31, 0⟩
/-- Address of EV_GCFG. -/
abbrev EV_GCFG : Nat := 0x70040
abbrev EV_GCFG.MASK : Fld := ⟨EV_GCFG, 31, 16⟩
abbrev EV_GCFG.FAULTEN : Fld := ⟨EV_GCFG, 12, 12⟩
abbrev EV_GCFG.IRQ1PRI : Fld := ⟨EV_GCFG, 10, 8⟩
abbrev EV_GCFG.IRQ0PRI : Fld := ⟨EV_GCFG, 6, 4⟩
abbrev EV_GCFG.FAULTPRI : Fld := ⟨EV_GCFG, 2, 0⟩
/-- Address of EV_IRQ0ID. -/
abbrev EV_IRQ0ID : Nat := 0x70044
abbrev EV_IRQ0ID.NONE : Fld := ⟨EV_IRQ0ID, 8, 8⟩
abbrev EV_IRQ0ID.SRC : Fld := ⟨EV_IRQ0ID, 6, 0⟩
/-- Address of EV_IRQ1ID. -/
abbrev EV_IRQ1ID : Nat := 0x70048
abbrev EV_IRQ1ID.NONE : Fld := ⟨EV_IRQ1ID, 8, 8⟩
abbrev EV_IRQ1ID.SRC : Fld := ⟨EV_IRQ1ID, 6, 0⟩
/-- Address of EV_PIN. -/
abbrev EV_PIN : Nat := 0x7004C
abbrev EV_PIN.FAULTN : Fld := ⟨EV_PIN, 2, 2⟩
abbrev EV_PIN.HALTSEEN : Fld := ⟨EV_PIN, 1, 1⟩
abbrev EV_PIN.HALTN : Fld := ⟨EV_PIN, 0, 0⟩
/-- Address of EV_DOORBELL. -/
abbrev EV_DOORBELL : Nat := 0x70050
abbrev EV_DOORBELL.RING : Fld := ⟨EV_DOORBELL, 0, 0⟩
/-- Address of EV_LEGFLT. -/
abbrev EV_LEGFLT (k : Nat) : Nat := 0x70060 + 0x4 * k
abbrev EV_LEGFLT.FLT (k : Nat) : Fld := ⟨(EV_LEGFLT k), 31, 0⟩
/-- Address of EV_CFG. -/
abbrev EV_CFG (k : Nat) : Nat := 0x70400 + 0x4 * k
abbrev EV_CFG.LOG (k : Nat) : Fld := ⟨(EV_CFG k), 12, 12⟩
abbrev EV_CFG.EMCY (k : Nat) : Fld := ⟨(EV_CFG k), 11, 11⟩
abbrev EV_CFG.IRQ1 (k : Nat) : Fld := ⟨(EV_CFG k), 10, 10⟩
abbrev EV_CFG.IRQ0 (k : Nat) : Fld := ⟨(EV_CFG k), 9, 9⟩
abbrev EV_CFG.TRIO (k : Nat) : Fld := ⟨(EV_CFG k), 8, 8⟩
abbrev EV_CFG.PRI (k : Nat) : Fld := ⟨(EV_CFG k), 2, 0⟩
/-- Address of PL_CMD. -/
abbrev PL_CMD : Nat := 0x80000
abbrev PL_CMD.SLOT : Fld := ⟨PL_CMD, 15, 8⟩
abbrev PL_CMD.ABQ : Fld := ⟨PL_CMD, 4, 4⟩
abbrev PL_CMD.CMD : Fld := ⟨PL_CMD, 3, 0⟩
/-- Address of PL_STAT. -/
abbrev PL_STAT : Nat := 0x80004
abbrev PL_STAT.OVER : Fld := ⟨PL_STAT, 30, 24⟩
abbrev PL_STAT.BUSY : Fld := ⟨PL_STAT, 23, 23⟩
abbrev PL_STAT.ERRENT : Fld := ⟨PL_STAT, 22, 16⟩
abbrev PL_STAT.ERR : Fld := ⟨PL_STAT, 15, 12⟩
abbrev PL_STAT.STATE : Fld := ⟨PL_STAT, 10, 8⟩
abbrev PL_STAT.FAILCNT : Fld := ⟨PL_STAT, 7, 0⟩
/-- Address of PL_CFG. -/
abbrev PL_CFG : Nat := 0x80008
abbrev PL_CFG.PASSMAX : Fld := ⟨PL_CFG, 31, 24⟩
abbrev PL_CFG.BLKMS : Fld := ⟨PL_CFG, 23, 16⟩
abbrev PL_CFG.EFRAC : Fld := ⟨PL_CFG, 15, 8⟩
abbrev PL_CFG.LEARN : Fld := ⟨PL_CFG, 7, 7⟩
abbrev PL_CFG.FAILACT : Fld := ⟨PL_CFG, 6, 6⟩
abbrev PL_CFG.RUNSRC : Fld := ⟨PL_CFG, 5, 4⟩
abbrev PL_CFG.POLICY : Fld := ⟨PL_CFG, 1, 0⟩
/-- Address of PL_XADDR. -/
abbrev PL_XADDR : Nat := 0x80010
abbrev PL_XADDR.ADDR : Fld := ⟨PL_XADDR, 23, 4⟩
/-- Address of PL_BUDGET_VMA. -/
abbrev PL_BUDGET_VMA : Nat := 0x80020
abbrev PL_BUDGET_VMA.MA : Fld := ⟨PL_BUDGET_VMA, 15, 0⟩
/-- Address of PL_BUDGET_VMB. -/
abbrev PL_BUDGET_VMB : Nat := 0x80024
abbrev PL_BUDGET_VMB.MA : Fld := ⟨PL_BUDGET_VMB, 15, 0⟩
/-- Address of PL_BUDGET_PKG. -/
abbrev PL_BUDGET_PKG : Nat := 0x80028
abbrev PL_BUDGET_PKG.MW : Fld := ⟨PL_BUDGET_PKG, 15, 0⟩
/-- Address of PL_SKIPTOL. -/
abbrev PL_SKIPTOL : Nat := 0x8002C
abbrev PL_SKIPTOL.TOL : Fld := ⟨PL_SKIPTOL, 23, 0⟩
/-- Address of PL_BUDGET_COACH. -/
abbrev PL_BUDGET_COACH (k : Nat) : Nat := 0x80030 + 0x4 * k
abbrev PL_BUDGET_COACH.MW (k : Nat) : Fld := ⟨(PL_BUDGET_COACH k), 15, 0⟩
/-- Address of PL_OVH. -/
abbrev PL_OVH : Nat := 0x80040
abbrev PL_OVH.COACH : Fld := ⟨PL_OVH, 31, 16⟩
abbrev PL_OVH.HUB : Fld := ⟨PL_OVH, 15, 0⟩
/-- Address of PL_RANKLIM. -/
abbrev PL_RANKLIM (k : Nat) : Nat := 0x80044 + 0x4 * k
abbrev PL_RANKLIM.LIM (k : Nat) : Fld := ⟨(PL_RANKLIM k), 31, 0⟩
/-- Address of PL_SUM. -/
abbrev PL_SUM (k : Nat) : Nat := 0x80050 + 0x4 * k
abbrev PL_SUM.LIM (k : Nat) : Fld := ⟨(PL_SUM k), 31, 16⟩
abbrev PL_SUM.SUM (k : Nat) : Fld := ⟨(PL_SUM k), 15, 0⟩
/-- Address of PL_MOVERS. -/
abbrev PL_MOVERS (k : Nat) : Nat := 0x80070 + 0x4 * k
abbrev PL_MOVERS.M (k : Nat) : Fld := ⟨(PL_MOVERS k), 31, 0⟩
/-- Address of PL_MAKESPAN. -/
abbrev PL_MAKESPAN : Nat := 0x80078
abbrev PL_MAKESPAN.TICKS : Fld := ⟨PL_MAKESPAN, 31, 0⟩
/-- Address of PL_PRED. -/
abbrev PL_PRED : Nat := 0x8007C
abbrev PL_PRED.TICKS : Fld := ⟨PL_PRED, 31, 0⟩
/-- Address of PL_ENERGY_LO. -/
abbrev PL_ENERGY_LO : Nat := 0x80080
abbrev PL_ENERGY_LO.E : Fld := ⟨PL_ENERGY_LO, 31, 0⟩
/-- Address of PL_ENERGY_HI. -/
abbrev PL_ENERGY_HI : Nat := 0x80084
abbrev PL_ENERGY_HI.E : Fld := ⟨PL_ENERGY_HI, 31, 0⟩
/-- Address of PL_EVINFO. -/
abbrev PL_EVINFO : Nat := 0x80088
abbrev PL_EVINFO.FAILENT : Fld := ⟨PL_EVINFO, 22, 16⟩
abbrev PL_EVINFO.BLKENT : Fld := ⟨PL_EVINFO, 6, 0⟩
/-- Address of PL_RCPHDR. -/
abbrev PL_RCPHDR (k : Nat) : Nat := 0x80090 + 0x4 * k
abbrev PL_RCPHDR.HDR (k : Nat) : Fld := ⟨(PL_RCPHDR k), 31, 0⟩
/-- Address of PL_AXLIVE. -/
abbrev PL_AXLIVE (k : Nat) : Nat := 0x80100 + 0x4 * k
abbrev PL_AXLIVE.MA (k : Nat) : Fld := ⟨(PL_AXLIVE k), 31, 16⟩
abbrev PL_AXLIVE.MW (k : Nat) : Fld := ⟨(PL_AXLIVE k), 15, 0⟩
/-- Address of PL_AXMOT. -/
abbrev PL_AXMOT (k : Nat) : Nat := 0x80300 + 0x4 * k
abbrev PL_AXMOT.RMOT (k : Nat) : Fld := ⟨(PL_AXMOT k), 15, 0⟩
/-- Address of PL_AXLRN. -/
abbrev PL_AXLRN (k : Nat) : Nat := 0x80500 + 0x4 * k
abbrev PL_AXLRN.VALID (k : Nat) : Fld := ⟨(PL_AXLRN k), 31, 31⟩
abbrev PL_AXLRN.CSL (k : Nat) : Fld := ⟨(PL_AXLRN k), 23, 16⟩
abbrev PL_AXLRN.EF (k : Nat) : Fld := ⟨(PL_AXLRN k), 15, 0⟩
/-- Address of PL_ORD. -/
abbrev PL_ORD (k : Nat) : Nat := 0x80800 + 0x4 * k
abbrev PL_ORD.ENTRY (k : Nat) : Fld := ⟨(PL_ORD k), 6, 0⟩
/-- Address of PL_RCP0. -/
abbrev PL_RCP0 (k : Nat) : Nat := 0x81000 + 0x10 * k
abbrev PL_RCP0.WORD (k : Nat) : Fld := ⟨(PL_RCP0 k), 31, 0⟩
/-- Address of PL_RCP1. -/
abbrev PL_RCP1 (k : Nat) : Nat := 0x81004 + 0x10 * k
abbrev PL_RCP1.WORD (k : Nat) : Fld := ⟨(PL_RCP1 k), 31, 0⟩
/-- Address of PL_RCP2. -/
abbrev PL_RCP2 (k : Nat) : Nat := 0x81008 + 0x10 * k
abbrev PL_RCP2.WORD (k : Nat) : Fld := ⟨(PL_RCP2 k), 31, 0⟩
/-- Address of PL_RCP3. -/
abbrev PL_RCP3 (k : Nat) : Nat := 0x8100C + 0x10 * k
abbrev PL_RCP3.WORD (k : Nat) : Fld := ⟨(PL_RCP3 k), 31, 0⟩
/-- Address of PL_RES. -/
abbrev PL_RES (k : Nat) : Nat := 0x82000 + 0x20 * k
abbrev PL_RES.STATE (k : Nat) : Fld := ⟨(PL_RES k), 31, 28⟩
abbrev PL_RES.HOLDER (k : Nat) : Fld := ⟨(PL_RES k), 27, 27⟩
abbrev PL_RES.LIMHIT (k : Nat) : Fld := ⟨(PL_RES k), 26, 26⟩
abbrev PL_RES.PASS (k : Nat) : Fld := ⟨(PL_RES k), 23, 16⟩
abbrev PL_RES.REASON (k : Nat) : Fld := ⟨(PL_RES k), 15, 12⟩
/-- Address of PL_RES_START. -/
abbrev PL_RES_START (k : Nat) : Nat := 0x82004 + 0x20 * k
abbrev PL_RES_START.START (k : Nat) : Fld := ⟨(PL_RES_START k), 31, 0⟩
/-- Address of PL_RES_END. -/
abbrev PL_RES_END (k : Nat) : Nat := 0x82008 + 0x20 * k
abbrev PL_RES_END.END (k : Nat) : Fld := ⟨(PL_RES_END k), 31, 0⟩
/-- Address of PL_RES_TEST. -/
abbrev PL_RES_TEST (k : Nat) : Nat := 0x8200C + 0x20 * k
abbrev PL_RES_TEST.TEST (k : Nat) : Fld := ⟨(PL_RES_TEST k), 31, 0⟩
/-- Address of PL_RES_EEST. -/
abbrev PL_RES_EEST (k : Nat) : Nat := 0x82010 + 0x20 * k
abbrev PL_RES_EEST.EEST (k : Nat) : Fld := ⟨(PL_RES_EEST k), 31, 0⟩
/-- Address of PL_RES_EACT. -/
abbrev PL_RES_EACT (k : Nat) : Nat := 0x82014 + 0x20 * k
abbrev PL_RES_EACT.EACT (k : Nat) : Fld := ⟨(PL_RES_EACT k), 31, 0⟩
/-- Address of AXEN. -/
abbrev AXEN (k : Nat) : Nat := 0x8F000 + 0x4 * k
abbrev AXEN.EN (k : Nat) : Fld := ⟨(AXEN k), 31, 0⟩
/-- Address of AXSTART. -/
abbrev AXSTART (k : Nat) : Nat := 0x8F010 + 0x4 * k
abbrev AXSTART.START (k : Nat) : Fld := ⟨(AXSTART k), 31, 0⟩
/-- Address of AXALERT. -/
abbrev AXALERT (k : Nat) : Nat := 0x8F020 + 0x4 * k
abbrev AXALERT.ALERT (k : Nat) : Fld := ⟨(AXALERT k), 31, 0⟩
/-- Address of NET_CTL. -/
abbrev NET_CTL (k : Nat) : Nat := 0x90000 + 0x100 * k
abbrev NET_CTL.MASK (k : Nat) : Fld := ⟨(NET_CTL k), 31, 16⟩
abbrev NET_CTL.BRS (k : Nat) : Fld := ⟨(NET_CTL k), 4, 4⟩
abbrev NET_CTL.FDOE (k : Nat) : Fld := ⟨(NET_CTL k), 3, 3⟩
abbrev NET_CTL.LISTEN (k : Nat) : Fld := ⟨(NET_CTL k), 2, 2⟩
abbrev NET_CTL.TDC (k : Nat) : Fld := ⟨(NET_CTL k), 1, 1⟩
abbrev NET_CTL.EN (k : Nat) : Fld := ⟨(NET_CTL k), 0, 0⟩
/-- Address of NET_NBT. -/
abbrev NET_NBT (k : Nat) : Nat := 0x90004 + 0x100 * k
abbrev NET_NBT.NSJW (k : Nat) : Fld := ⟨(NET_NBT k), 31, 27⟩
abbrev NET_NBT.NTSEG2 (k : Nat) : Fld := ⟨(NET_NBT k), 26, 22⟩
abbrev NET_NBT.NTSEG1 (k : Nat) : Fld := ⟨(NET_NBT k), 21, 16⟩
abbrev NET_NBT.NBRP (k : Nat) : Fld := ⟨(NET_NBT k), 5, 0⟩
/-- Address of NET_DBT. -/
abbrev NET_DBT (k : Nat) : Nat := 0x90008 + 0x100 * k
abbrev NET_DBT.TDCO (k : Nat) : Fld := ⟨(NET_DBT k), 29, 24⟩
abbrev NET_DBT.DSJW (k : Nat) : Fld := ⟨(NET_DBT k), 19, 16⟩
abbrev NET_DBT.DTSEG2 (k : Nat) : Fld := ⟨(NET_DBT k), 15, 12⟩
abbrev NET_DBT.DTSEG1 (k : Nat) : Fld := ⟨(NET_DBT k), 7, 3⟩
abbrev NET_DBT.DBRP (k : Nat) : Fld := ⟨(NET_DBT k), 2, 0⟩
/-- Address of NET_STAT. -/
abbrev NET_STAT (k : Nat) : Nat := 0x9000C + 0x100 * k
abbrev NET_STAT.TEC (k : Nat) : Fld := ⟨(NET_STAT k), 23, 16⟩
abbrev NET_STAT.REC (k : Nat) : Fld := ⟨(NET_STAT k), 15, 8⟩
abbrev NET_STAT.LEC (k : Nat) : Fld := ⟨(NET_STAT k), 7, 4⟩
abbrev NET_STAT.STATE (k : Nat) : Fld := ⟨(NET_STAT k), 3, 2⟩
abbrev NET_STAT.ON (k : Nat) : Fld := ⟨(NET_STAT k), 0, 0⟩
/-- Address of NET_CNT. -/
abbrev NET_CNT (k : Nat) : Nat := 0x90010 + 0x100 * k
abbrev NET_CNT.CLR (k : Nat) : Fld := ⟨(NET_CNT k), 31, 31⟩
abbrev NET_CNT.RXDISC (k : Nat) : Fld := ⟨(NET_CNT k), 30, 16⟩
abbrev NET_CNT.TXDROP (k : Nat) : Fld := ⟨(NET_CNT k), 15, 8⟩
abbrev NET_CNT.BOFF (k : Nat) : Fld := ⟨(NET_CNT k), 7, 0⟩
/-- Address of NET_NODE. -/
abbrev NET_NODE : Nat := 0x90200
abbrev NET_NODE.RNIGN : Fld := ⟨NET_NODE, 31, 24⟩
abbrev NET_NODE.PEND : Fld := ⟨NET_NODE, 22, 16⟩
abbrev NET_NODE.SETRTC : Fld := ⟨NET_NODE, 15, 15⟩
abbrev NET_NODE.SYNCBUS : Fld := ⟨NET_NODE, 14, 14⟩
abbrev NET_NODE.RNACT : Fld := ⟨NET_NODE, 13, 13⟩
abbrev NET_NODE.SRC : Fld := ⟨NET_NODE, 12, 11⟩
abbrev NET_NODE.NMT : Fld := ⟨NET_NODE, 10, 8⟩
abbrev NET_NODE.NODE : Fld := ⟨NET_NODE, 6, 0⟩
/-- Address of NET_GUARD. -/
abbrev NET_GUARD : Nat := 0x90204
abbrev NET_GUARD.QUAR : Fld := ⟨NET_GUARD, 31, 24⟩
abbrev NET_GUARD.MALLIM : Fld := ⟨NET_GUARD, 23, 16⟩
abbrev NET_GUARD.PERNODE : Fld := ⟨NET_GUARD, 15, 8⟩
abbrev NET_GUARD.TOUT : Fld := ⟨NET_GUARD, 7, 0⟩
/-- Address of NET_SESS. -/
abbrev NET_SESS : Nat := 0x90208
abbrev NET_SESS.INUSE : Fld := ⟨NET_SESS, 24, 16⟩
abbrev NET_SESS.AUTH : Fld := ⟨NET_SESS, 15, 8⟩
abbrev NET_SESS.FULL : Fld := ⟨NET_SESS, 7, 0⟩
/-- Address of NET_MAL. -/
abbrev NET_MAL : Nat := 0x9020C
abbrev NET_MAL.CLR : Fld := ⟨NET_MAL, 31, 31⟩
abbrev NET_MAL.MALCNT : Fld := ⟨NET_MAL, 30, 16⟩
abbrev NET_MAL.QCNT : Fld := ⟨NET_MAL, 15, 8⟩
abbrev NET_MAL.QACT : Fld := ⟨NET_MAL, 7, 7⟩
abbrev NET_MAL.LASTNODE : Fld := ⟨NET_MAL, 6, 0⟩
/-- Address of NET_HB. -/
abbrev NET_HB : Nat := 0x90210
abbrev NET_HB.LOST : Fld := ⟨NET_HB, 31, 0⟩
/-- Address of NET_HBACT. -/
abbrev NET_HBACT (n : Nat) : Nat := 0x90300 + 0x4 * n
abbrev NET_HBACT.PLAB (n : Nat) : Fld := ⟨(NET_HBACT n), 23, 23⟩
abbrev NET_HBACT.ABQ (n : Nat) : Fld := ⟨(NET_HBACT n), 22, 22⟩
abbrev NET_HBACT.ACT (n : Nat) : Fld := ⟨(NET_HBACT n), 18, 16⟩
abbrev NET_HBACT.GROUPS (n : Nat) : Fld := ⟨(NET_HBACT n), 15, 0⟩
/-- Address of SPH_CFG. -/
abbrev SPH_CFG : Nat := 0xA0000
abbrev SPH_CFG.CRC : Fld := ⟨SPH_CFG, 0, 0⟩
/-- Address of SPH_STAT. -/
abbrev SPH_STAT : Nat := 0xA0004
abbrev SPH_STAT.WORDS : Fld := ⟨SPH_STAT, 31, 16⟩
abbrev SPH_STAT.OUTCOME : Fld := ⟨SPH_STAT, 15, 8⟩
abbrev SPH_STAT.PENDING : Fld := ⟨SPH_STAT, 0, 0⟩
/-- Address of SPH_ERR. -/
abbrev SPH_ERR : Nat := 0xA0008
abbrev SPH_ERR.VALID : Fld := ⟨SPH_ERR, 31, 31⟩
abbrev SPH_ERR.MORE : Fld := ⟨SPH_ERR, 30, 30⟩
abbrev SPH_ERR.CAUSE : Fld := ⟨SPH_ERR, 27, 24⟩
abbrev SPH_ERR.ADDR : Fld := ⟨SPH_ERR, 23, 0⟩
/-- Address of SPH_ERRCODE. -/
abbrev SPH_ERRCODE : Nat := 0xA000C
abbrev SPH_ERRCODE.CODE : Fld := ⟨SPH_ERRCODE, 3, 0⟩
/-- Address of SPH_CNT. -/
abbrev SPH_CNT : Nat := 0xA0010
abbrev SPH_CNT.CLR : Fld := ⟨SPH_CNT, 31, 31⟩
abbrev SPH_CNT.BUSYLIM : Fld := ⟨SPH_CNT, 30, 24⟩
abbrev SPH_CNT.CRCERR : Fld := ⟨SPH_CNT, 23, 16⟩
abbrev SPH_CNT.ERRS : Fld := ⟨SPH_CNT, 15, 0⟩
/-- Address of SPM_CFG. -/
abbrev SPM_CFG : Nat := 0xA0100
abbrev SPM_CFG.XEN : Fld := ⟨SPM_CFG, 31, 31⟩
abbrev SPM_CFG.DUMMY : Fld := ⟨SPM_CFG, 27, 24⟩
abbrev SPM_CFG.RDCMD : Fld := ⟨SPM_CFG, 23, 16⟩
abbrev SPM_CFG.RDMODE : Fld := ⟨SPM_CFG, 15, 14⟩
abbrev SPM_CFG.ADDR4 : Fld := ⟨SPM_CFG, 13, 13⟩
abbrev SPM_CFG.SMP : Fld := ⟨SPM_CFG, 12, 12⟩
abbrev SPM_CFG.MODEB : Fld := ⟨SPM_CFG, 7, 0⟩
/-- Address of SPM_CLK. -/
abbrev SPM_CLK : Nat := 0xA0104
abbrev SPM_CLK.DIV : Fld := ⟨SPM_CLK, 3, 0⟩
/-- Address of SPM_XOFS. -/
abbrev SPM_XOFS : Nat := 0xA0108
abbrev SPM_XOFS.OFS : Fld := ⟨SPM_XOFS, 31, 16⟩
/-- Address of SPM_SFDP. -/
abbrev SPM_SFDP : Nat := 0xA010C
abbrev SPM_SFDP.VALID : Fld := ⟨SPM_SFDP, 31, 31⟩
abbrev SPM_SFDP.QER : Fld := ⟨SPM_SFDP, 30, 28⟩
abbrev SPM_SFDP.SIZE : Fld := ⟨SPM_SFDP, 23, 16⟩
/-- Address of SPM_CMD. -/
abbrev SPM_CMD : Nat := 0xA0110
abbrev SPM_CMD.GO : Fld := ⟨SPM_CMD, 31, 31⟩
abbrev SPM_CMD.WAIT : Fld := ⟨SPM_CMD, 30, 30⟩
abbrev SPM_CMD.WREN : Fld := ⟨SPM_CMD, 29, 29⟩
abbrev SPM_CMD.DIR : Fld := ⟨SPM_CMD, 28, 28⟩
abbrev SPM_CMD.MODE : Fld := ⟨SPM_CMD, 27, 26⟩
abbrev SPM_CMD.ABYTES : Fld := ⟨SPM_CMD, 25, 24⟩
abbrev SPM_CMD.DUMMY : Fld := ⟨SPM_CMD, 23, 20⟩
abbrev SPM_CMD.LEN : Fld := ⟨SPM_CMD, 16, 8⟩
abbrev SPM_CMD.OPC : Fld := ⟨SPM_CMD, 7, 0⟩
/-- Address of SPM_ADDR. -/
abbrev SPM_ADDR : Nat := 0xA0114
abbrev SPM_ADDR.ADDR : Fld := ⟨SPM_ADDR, 31, 0⟩
/-- Address of SPM_TXFIFO. -/
abbrev SPM_TXFIFO : Nat := 0xA0118
abbrev SPM_TXFIFO.DATA : Fld := ⟨SPM_TXFIFO, 31, 0⟩
/-- Address of SPM_RXFIFO. -/
abbrev SPM_RXFIFO : Nat := 0xA011C
abbrev SPM_RXFIFO.DATA : Fld := ⟨SPM_RXFIFO, 31, 0⟩
/-- Address of SPM_STAT. -/
abbrev SPM_STAT : Nat := 0xA0120
abbrev SPM_STAT.RXLVL : Fld := ⟨SPM_STAT, 31, 24⟩
abbrev SPM_STAT.TXLVL : Fld := ⟨SPM_STAT, 23, 16⟩
abbrev SPM_STAT.TOUT : Fld := ⟨SPM_STAT, 6, 6⟩
abbrev SPM_STAT.RXUNDER : Fld := ⟨SPM_STAT, 5, 5⟩
abbrev SPM_STAT.PERR : Fld := ⟨SPM_STAT, 4, 4⟩
abbrev SPM_STAT.DONE : Fld := ⟨SPM_STAT, 3, 3⟩
abbrev SPM_STAT.LOCK : Fld := ⟨SPM_STAT, 2, 2⟩
abbrev SPM_STAT.BUSY : Fld := ⟨SPM_STAT, 1, 1⟩
/-- Address of SPM_CTL. -/
abbrev SPM_CTL : Nat := 0xA0124
abbrev SPM_CTL.PROBE : Fld := ⟨SPM_CTL, 2, 2⟩
abbrev SPM_CTL.INV : Fld := ⟨SPM_CTL, 1, 1⟩
abbrev SPM_CTL.FLUSH : Fld := ⟨SPM_CTL, 0, 0⟩
/-- Address of MGS_MON. -/
abbrev MGS_MON (k : Nat) : Nat := 0xB0000 + 0x4 * k
abbrev MGS_MON.VALID (k : Nat) : Fld := ⟨(MGS_MON k), 31, 31⟩
abbrev MGS_MON.VALUE (k : Nat) : Fld := ⟨(MGS_MON k), 15, 0⟩
/-- Address of MGS_THCFG. -/
abbrev MGS_THCFG : Nat := 0xB0014
abbrev MGS_THCFG.SHUT : Fld := ⟨MGS_THCFG, 15, 8⟩
abbrev MGS_THCFG.WARN : Fld := ⟨MGS_THCFG, 7, 0⟩
/-- Address of MGS_WDCFG. -/
abbrev MGS_WDCFG : Nat := 0xB0018
abbrev MGS_WDCFG.EXPCNT : Fld := ⟨MGS_WDCFG, 31, 24⟩
abbrev MGS_WDCFG.ACT : Fld := ⟨MGS_WDCFG, 16, 16⟩
abbrev MGS_WDCFG.TOUT : Fld := ⟨MGS_WDCFG, 9, 0⟩
/-- Address of MGS_LOGRPTR. -/
abbrev MGS_LOGRPTR : Nat := 0xB0020
abbrev MGS_LOGRPTR.SEQ : Fld := ⟨MGS_LOGRPTR, 31, 0⟩
/-- Address of MGS_LOGSTAT. -/
abbrev MGS_LOGSTAT : Nat := 0xB0024
abbrev MGS_LOGSTAT.DROP : Fld := ⟨MGS_LOGSTAT, 31, 24⟩
abbrev MGS_LOGSTAT.OVERRUN : Fld := ⟨MGS_LOGSTAT, 23, 12⟩
abbrev MGS_LOGSTAT.UNREAD : Fld := ⟨MGS_LOGSTAT, 11, 0⟩
/-- Address of MGS_LOGCFG. -/
abbrev MGS_LOGCFG : Nat := 0xB0028
abbrev MGS_LOGCFG.NEARTHR : Fld := ⟨MGS_LOGCFG, 11, 0⟩
/-- Address of MGS_LOGDATA. -/
abbrev MGS_LOGDATA : Nat := 0xB002C
abbrev MGS_LOGDATA.DATA : Fld := ⟨MGS_LOGDATA, 31, 0⟩
/-- Address of MGS_UPDCTL. -/
abbrev MGS_UPDCTL : Nat := 0xB0040
abbrev MGS_UPDCTL.CMD : Fld := ⟨MGS_UPDCTL, 3, 0⟩
/-- Address of MGS_UPDSTAT. -/
abbrev MGS_UPDSTAT : Nat := 0xB0044
abbrev MGS_UPDSTAT.BUSY : Fld := ⟨MGS_UPDSTAT, 24, 24⟩
abbrev MGS_UPDSTAT.ERR : Fld := ⟨MGS_UPDSTAT, 23, 20⟩
abbrev MGS_UPDSTAT.TRIES : Fld := ⟨MGS_UPDSTAT, 19, 16⟩
abbrev MGS_UPDSTAT.RUN : Fld := ⟨MGS_UPDSTAT, 8, 8⟩
abbrev MGS_UPDSTAT.STB : Fld := ⟨MGS_UPDSTAT, 7, 4⟩
abbrev MGS_UPDSTAT.STA : Fld := ⟨MGS_UPDSTAT, 3, 0⟩
/-- Address of MGS_UPDADDR. -/
abbrev MGS_UPDADDR : Nat := 0xB0048
abbrev MGS_UPDADDR.ADDR : Fld := ⟨MGS_UPDADDR, 20, 2⟩
/-- Address of MGS_UPDDATA. -/
abbrev MGS_UPDDATA : Nat := 0xB004C
abbrev MGS_UPDDATA.DATA : Fld := ⟨MGS_UPDDATA, 31, 0⟩
/-- Address of MGS_RBCNT. -/
abbrev MGS_RBCNT : Nat := 0xB0050
abbrev MGS_RBCNT.CNT : Fld := ⟨MGS_RBCNT, 15, 0⟩
/-- Address of MGS_AUCHAL. -/
abbrev MGS_AUCHAL (k : Nat) : Nat := 0xB0060 + 0x4 * k
abbrev MGS_AUCHAL.CHAL (k : Nat) : Fld := ⟨(MGS_AUCHAL k), 31, 0⟩
/-- Address of MGS_AURESP. -/
abbrev MGS_AURESP (k : Nat) : Nat := 0xB0070 + 0x4 * k
abbrev MGS_AURESP.RESP (k : Nat) : Fld := ⟨(MGS_AURESP k), 31, 0⟩
/-- Address of MGS_AUSTAT. -/
abbrev MGS_AUSTAT : Nat := 0xB0090
abbrev MGS_AUSTAT.FAILCNT : Fld := ⟨MGS_AUSTAT, 31, 16⟩
abbrev MGS_AUSTAT.STATE : Fld := ⟨MGS_AUSTAT, 9, 8⟩
abbrev MGS_AUSTAT.WINFAIL : Fld := ⟨MGS_AUSTAT, 7, 0⟩
/-- Address of MGS_SECCMD. -/
abbrev MGS_SECCMD : Nat := 0xB0094
abbrev MGS_SECCMD.ARG : Fld := ⟨MGS_SECCMD, 31, 24⟩
abbrev MGS_SECCMD.CMD : Fld := ⟨MGS_SECCMD, 3, 0⟩
/-- Address of MGS_SECSTAT. -/
abbrev MGS_SECSTAT : Nat := 0xB0098
abbrev MGS_SECSTAT.BUSY : Fld := ⟨MGS_SECSTAT, 8, 8⟩
abbrev MGS_SECSTAT.RESULT : Fld := ⟨MGS_SECSTAT, 3, 0⟩
/-- Address of MGS_ALCFG. -/
abbrev MGS_ALCFG : Nat := 0xB009C
abbrev MGS_ALCFG.AUTHLIM : Fld := ⟨MGS_ALCFG, 31, 24⟩
abbrev MGS_ALCFG.RESP : Fld := ⟨MGS_ALCFG, 11, 0⟩
/-- Address of MGS_ALSTAT. -/
abbrev MGS_ALSTAT : Nat := 0xB00A0
abbrev MGS_ALSTAT.SEEN : Fld := ⟨MGS_ALSTAT, 21, 16⟩
abbrev MGS_ALSTAT.ACTIVE : Fld := ⟨MGS_ALSTAT, 5, 0⟩
/-- Address of MGS_PROV. -/
abbrev MGS_PROV : Nat := 0xB00A4
abbrev MGS_PROV.LOCKSRC : Fld := ⟨MGS_PROV, 11, 8⟩
abbrev MGS_PROV.LOCK : Fld := ⟨MGS_PROV, 4, 4⟩
abbrev MGS_PROV.ERASED : Fld := ⟨MGS_PROV, 3, 3⟩
abbrev MGS_PROV.AK : Fld := ⟨MGS_PROV, 2, 2⟩
abbrev MGS_PROV.CERT : Fld := ⟨MGS_PROV, 1, 1⟩
abbrev MGS_PROV.ID : Fld := ⟨MGS_PROV, 0, 0⟩
/-- Address of MGS_SECBUF. -/
abbrev MGS_SECBUF (k : Nat) : Nat := 0xB00C0 + 0x4 * k
abbrev MGS_SECBUF.DATA (k : Nat) : Fld := ⟨(MGS_SECBUF k), 31, 0⟩
/-- Address of TRIO_CFG. -/
abbrev TRIO_CFG : Nat := 0xB0100
abbrev TRIO_CFG.PERMDUP : Fld := ⟨TRIO_CFG, 20, 20⟩
abbrev TRIO_CFG.RSLIM : Fld := ⟨TRIO_CFG, 19, 16⟩
abbrev TRIO_CFG.WIN : Fld := ⟨TRIO_CFG, 12, 0⟩
/-- Address of TRIO_STAT. -/
abbrev TRIO_STAT : Nat := 0xB0104
abbrev TRIO_STAT.SAFECAUSE : Fld := ⟨TRIO_STAT, 11, 8⟩
abbrev TRIO_STAT.FENCED : Fld := ⟨TRIO_STAT, 6, 6⟩
abbrev TRIO_STAT.ODD : Fld := ⟨TRIO_STAT, 5, 4⟩
abbrev TRIO_STAT.STATE : Fld := ⟨TRIO_STAT, 2, 0⟩
/-- Address of TRIO_MM. -/
abbrev TRIO_MM : Nat := 0xB0108
abbrev TRIO_MM.VALID : Fld := ⟨TRIO_MM, 31, 31⟩
abbrev TRIO_MM.MORE : Fld := ⟨TRIO_MM, 30, 30⟩
abbrev TRIO_MM.COPY : Fld := ⟨TRIO_MM, 19, 18⟩
abbrev TRIO_MM.KIND : Fld := ⟨TRIO_MM, 15, 12⟩
/-- Address of TRIO_CNT. -/
abbrev TRIO_CNT : Nat := 0xB010C
abbrev TRIO_CNT.RESYNCS : Fld := ⟨TRIO_CNT, 31, 16⟩
abbrev TRIO_CNT.SCRUBMM : Fld := ⟨TRIO_CNT, 15, 8⟩
abbrev TRIO_CNT.DPAR : Fld := ⟨TRIO_CNT, 7, 0⟩
/-- Address of TRIO_INDIS. -/
abbrev TRIO_INDIS : Nat := 0xB0110
abbrev TRIO_INDIS.COPY2 : Fld := ⟨TRIO_INDIS, 29, 20⟩
abbrev TRIO_INDIS.COPY1 : Fld := ⟨TRIO_INDIS, 19, 10⟩
abbrev TRIO_INDIS.COPY0 : Fld := ⟨TRIO_INDIS, 9, 0⟩
/-- Address of TRIO_STEST. -/
abbrev TRIO_STEST : Nat := 0xB0114
abbrev TRIO_STEST.TESTS : Fld := ⟨TRIO_STEST, 31, 8⟩
abbrev TRIO_STEST.PATTERN : Fld := ⟨TRIO_STEST, 7, 0⟩
/-- Address of TRIO_SRAM. -/
abbrev TRIO_SRAM : Nat := 0xB0118
abbrev TRIO_SRAM.CORR : Fld := ⟨TRIO_SRAM, 15, 0⟩
/-- Address of TRIO_CTL. -/
abbrev TRIO_CTL : Nat := 0xB011C
abbrev TRIO_CTL.CLR : Fld := ⟨TRIO_CTL, 0, 0⟩

end Sys2Proof.Machine
end

