-- ==== Sys2Proof/Machine/State.lean ====
section
/-!
DEFINITION. Machine/State.lean: the state of the block as plain data, the outcomes a command could end in besides a next
state, and the state after reset.
-/

namespace Sys2Proof.Machine

/-- Plain data keyed by a number: (key, value) pairs. The canonical form, which every operation keeps, has strictly rising
keys and no entry equal to what an unlisted key reads as. -/
abbrev Sparse (α : Type) := List (Nat × α)

/-- The bus errors of R84. -/
inductive BusErr where
  | align | reservedAddr | reservedBit | access | domainOff | linkErr | guard | refused | restricted | parity | xipWrite
deriving DecidableEq, Repr

/-- What a master received for an access: nothing yet, data, or the error. -/
inductive Reply where
  /-- No access has been answered. -/
  | none
  /-- The access waits for a coach register exchange, R17. -/
  | waiting
  /-- A write was performed or staged. -/
  | done
  /-- Read data. -/
  | data (w : Word)
  /-- The access ended with a bus error, R84. -/
  | error (e : BusErr)
deriving DecidableEq, Repr

/-- An open guard window, R76: the master that opened it and the value V. -/
structure GuardWin where
  master : Master
  value  : Word
deriving DecidableEq, Repr

/-- A staged word: the value and the mask of field bits still waiting for their boundary, R78. -/
structure Staged where
  value : Word := 0
  mask  : Word := 0
deriving DecidableEq, Repr

/-- The read shadow and write stage of a master for 64-bit values: address of the LO word and the held half, R89 and R90. -/
structure PairPort where
  shadow : Option (Nat × Word) := none
  stage  : Option (Nat × Word) := none
deriving DecidableEq, Repr

/-- One occurrence of an event source: its source, the cause code and the axis, leg or channel concerned (R303), and the RTC
value at the moment of pending (R304). -/
structure Occ where
  src   : Nat
  cause : Nat := 0
  idx   : Nat := 0
  time  : Nat := 0
deriving DecidableEq, Repr

/-- An entry on its way to the log, R363 and R364: code, RTC value, and DATA bytes 0 to 11 as three words, byte 0 lowest. -/
structure LogItem where
  code : Nat
  time : Nat
  d0   : Word := 0
  d1   : Word := 0
  d2   : Word := 0
deriving DecidableEq, Repr

/-- An entry of the log in NVM, R363. -/
structure LogEntry where
  seq    : Nat
  time   : Nat
  code   : Nat
  rep    : Nat
  rtcSet : Bool
  d0     : Word
  d1     : Word
  d2     : Word
deriving DecidableEq, Repr

/-! ### Legs, coils and coaches -/

/-- Leg switching states, R98. -/
inductive LegPhase where
  | off | waitHs | hsOn | waitLs | lsOn | block
deriving DecidableEq, Repr

/-- One leg on its coach, beside its registers. -/
structure Leg where
  phase  : LegPhase := .off
  /-- High-side and low-side on-commands in force. -/
  hs     : Bool := false
  ls     : Bool := false
  /-- The outgoing gate has been sensed low for DT (R98), awaited by the whole gang (R108). -/
  ready  : Bool := false
  /-- The switch tripped and ignores on-commands until the next period, R117. -/
  tripHs : Bool := false
  tripLs : Bool := false
  /-- OCCNT, HOCCNT and XCMDCNT have already counted this period, R117, R99. -/
  ocSeen  : Bool := false
  hocSeen : Bool := false
  xcSeen  : Bool := false
  /-- Held off by a CTL kill frame until released, R123. -/
  killed : Bool := false
  /-- Pin count of the drive-code loop, R103. -/
  pin    : Nat := 0
  /-- The leg was waiting when a timeout of another leg blocked its gang: its own timeout of that cycle is still to come, R108. -/
  stuck  : Bool := false
  /-- An overcurrent elsewhere turned the switch off at this motion-clock time, and whether OC was evaluated on it then: its own trip
  of that instant is still to come, R117 and R119. -/
  cutHs  : Option (Nat × Bool) := none
  cutLs  : Option (Nat × Bool) := none
deriving DecidableEq, Repr

/-- A coil record, R135. -/
structure CoilRec where
  op  : Nat := 0
  pol : Nat := 0
  dec : Nat := 0
  ff  : Nat := 0
  thr : Nat := 0
deriving DecidableEq, Repr

/-- What a coil is doing within its local period, R136, R137 and R192. -/
inductive CoilPhase where
  | off | brake | drive | slow | fast
  /-- Both ends off for the rest of the fast portion, R137. -/
  | zero
  /-- Back-EMF window: forced to zero, floating, conversion requested. -/
  | winFast | winFloat | winConv
deriving DecidableEq, Repr

/-- One coil position of a rank, on its coach. -/
structure Coil where
  cmd     : CoilRec := {}
  phase   : CoilPhase := .off
  /-- Blanking of the present drive has not ended. -/
  blank   : Bool := false
  tripped : Bool := false
  tTrip   : Nat := 0
  /-- Length of the fast portion of mixed decay, counts. -/
  tFast   : Nat := 0
  early   : Bool := false
  deep    : Bool := false
  /-- TZ of the window in progress, 5 ns counts. -/
  tz      : Nat := 0
  /-- Consecutive gang evaluations over the imbalance threshold, one per coil end, R109. -/
  imb1    : Nat := 0
  imb2    : Nat := 0
deriving DecidableEq, Repr

/-- A coach register access in flight across the coupling, R17. -/
structure Exchange where
  master : Master
  addr   : Nat
  /-- The word written, or none for a read. -/
  wr     : Option Word
  /-- Sequence number of its CFG frame, modulo 256, R13. -/
  seq    : Nat
  /-- The frame has been sent, and has been sent for the second time, R17. -/
  sent   : Bool := false
  resent : Bool := false
  /-- The coach has handled this sequence number and its answer is under way. -/
  answer : Option Word := none
deriving DecidableEq, Repr

/-- A CMD frame a coach has received for a period: rank within the coach, period number modulo 256, records, R15. -/
structure CmdRx where
  q      : Nat
  period : Nat
  recs   : List CoilRec
deriving DecidableEq, Repr

/-- A report a coach holds for its next STAT frame. -/
inductive StatRep where
  /-- A trip, R117: leg, high side, hard, period number, time in the local period, motion-clock timestamp. -/
  | trip (leg : Nat) (hs hard : Bool) (period time stamp : Nat)
  | xcmd (leg : Nat)
  | ilk (leg : Nat)
  | slewu (leg : Nat)
  /-- An imbalance flag, R109: leg and percent. -/
  | imb (leg pct : Nat)
deriving DecidableEq, Repr

/-- A record a coach holds for an SNS frame, R193. -/
inductive SnsRec where
  | bemf (q z period : Nat) (sample : Int) (tz : Nat) (noZero clip : Bool)
  | charge (q z : Nat) (nC : Int)
  | decay (q period early deep : Nat)
deriving DecidableEq, Repr

/-- A CTL frame waiting to be sent, R14. -/
inductive CtlFrame where
  | safe
  | kill (legs : List Nat)
  /-- Release of the named legs; `coach` also takes the coach out of its safe state. -/
  | release (legs : List Nat) (coach : Bool)
deriving DecidableEq, Repr

/-- Both ends of one coupling and the coach behind it, beside their registers. -/
structure Coach where
  /-- The coach is in its safe state, has declared the loss itself, is in its 2 µs silence. -/
  safe      : Bool := false
  declared  : Bool := false
  silent    : Bool := false
  /-- The coach has declared the loss, or has just been powered up, and waits for training, R21 and R23. -/
  awaits    : Bool := false
  /-- Last SAFE value received, R20. -/
  safeSel   : Bool := false
  /-- Power-up under R50 is in progress; training has been started. -/
  powering  : Bool := false
  training  : Bool := false
  /-- Consecutive repeated periods, and repeats not yet reported, R16. -/
  missRun   : Nat := 0
  missRep   : Nat := 0
  /-- Downstream frames discarded and not yet reported. -/
  crcRep    : Nat := 0
  /-- The set the hub is sending: its period number and four ranks of sixteen records. -/
  txPeriod  : Nat := 0
  tx        : List (List CoilRec) := []
  /-- Frames of that set already sent, (rank, copy), and CMD frames sent in a row, R14 and R15. -/
  cmdSent   : List (Nat × Nat) := []
  cmdRun    : Nat := 0
  /-- Frames received for the next period, first copy per rank. -/
  rx        : List CmdRx := []
  /-- The set in force. -/
  applied   : List (List CoilRec) := []
  /-- Accesses waiting at the hub end, the head in flight; next sequence number; last one the coach applied. -/
  cfgq      : List Exchange := []
  seq       : Nat := 0
  applSeq   : Option Nat := none
  /-- Sequence numbers of the next CMD, CTL, STAT, CFGR and SNS frames, modulo 256, R13. -/
  cmdSeq    : Nat := 0
  ctlSeq    : Nat := 0
  statSeq   : Nat := 0
  cfgrSeq   : Nat := 0
  snsSeq    : Nat := 0
  /-- CTL frames waiting at the hub end, R123, R23. -/
  ctlq      : List CtlFrame := []
  statq     : List StatRep := []
  snsq      : List SnsRec := []
  /-- Local period in progress of each rank of the coach, modulo 256, R134, and SAR requests in order: (rank, position), R192. -/
  locPer    : List Nat := [0, 0, 0, 0]
  sar       : List (Nat × Nat) := []
  /-- Start of the period in progress and its length, motion-clock counts, R133. -/
  tStart    : Nat := 0
  perLen    : Nat := 5000
  /-- VM comparators of this coach's standby block, R116: undervoltage and overvoltage, fault and warning. -/
  uvf       : Bool := false
  uvw       : Bool := false
  ovf       : Bool := false
  ovw       : Bool := false
  /-- Charge pump and gate regulator conditions awaited by R131, one bit per rank of the coach. -/
  cpuv      : Nat := 0
  greguv    : Bool := false
  /-- Ranks whose charge pump has been in regulation since power-up, one bit each, and whether the gate regulator has: their
  undervoltage detections are active, R115. -/
  cpSeen    : Nat := 0
  gregSeen  : Bool := false
  /-- Consecutive readings at or above the warning and over-temperature levels, per rank (four each), R115. -/
  warnRun   : List Nat := [0, 0, 0, 0]
  otRun     : List Nat := [0, 0, 0, 0]
  /-- A forced power-down waits for this period start to turn the legs off, R52; step 2 parks have been ordered. -/
  offWait   : Bool := false
  offParked : Bool := false
  /-- A parity failure of a shadow word of this coach has not been rewritten: the addresses, R131. -/
  badWords  : List Nat := []
  /-- Ranks of the coach (one bit each) whose last RK_MODE write failed and has not been read back, R111. -/
  modeLost  : Nat := 0
deriving DecidableEq, Repr

/-- A trip the axis fault manager holds for its two checks, R121. `coilEnd` numbers the four coil ends of the axis. -/
structure Trip where
  leg     : Nat
  hard    : Bool
  period  : Nat
  stamp   : Nat
  axis    : Nat
  coilEnd : Nat
  claimed : Bool := false
  /-- The 1 µs check of this trip has been made; the period check of its period has been made. -/
  checked : Bool := false
  counted : Bool := false
deriving DecidableEq, Repr

/-! ### Axes -/

/-- Commands that act at the next tick, in the order they were accepted (R166 step 1). -/
inductive AxReq where
  | start | gateStart | stop | qstop | halt | release | cont | clrpml
deriving DecidableEq, Repr

/-- A segment in progress: table index, tick within it, and what R179 needs. -/
structure SegRun where
  idx  : Nat := 0
  n    : Nat := 0
  p0   : Int := 0
  v0   : Int := 0
  dpos : Int := 0
  dur  : Nat := 0
  vend : Int := 0
  flags : Nat := 0
  next  : Nat := 0
deriving DecidableEq, Repr

/-- An S-curve plan, R176: start, signed distance (2^-24 pu) and the durations of its phases in ticks, and the tick reached. -/
structure Scurve where
  p0 : Int := 0
  d  : Int := 0
  tj : Nat := 0
  ta : Nat := 0
  tc : Nat := 0
  tk : Nat := 0
  td : Nat := 0
  n  : Nat := 0
  /-- The target the plan was made for had been clamped into the limits, R174. -/
  clamped : Bool := false
deriving DecidableEq, Repr

/-- What the profile engine runs for an axis. -/
inductive Run where
  | idle
  /-- A trapezoid toward the target in force, R174. -/
  | target
  /-- A held target is planned at the next tick, R175. -/
  | retarget
  | scurve (plan : Scurve)
  | velocity
  /-- Segment `run` in progress. -/
  | seg (run : SegRun)
  /-- Waiting at v = 0 for CONT (HOLD) or a sync event (WSYNC) before segment `next`. -/
  | segWait (next : Nat) (wsync : Bool)
  /-- Segment `next` is read at the next tick. -/
  | segNext (next : Nat)
  /-- A WSYNC wait before segment `next` has ended. -/
  | segGo (next : Nat)
  /-- Follow: command position and gear remainder, R182. -/
  | follow (c : Int) (rem : Int)
  | homeRamp (p0 : Int)
  | homeRun (p0 : Int)
  | homeContact
  | homeBack (target : Int)
  /-- A stop at dmax, a quick stop, a limit brake at rate b toward a limit, the stop segment. -/
  | stop
  | qstop
  | brake (limit : Int)
  | stopSeg (run : SegRun)
deriving DecidableEq, Repr

/-- What follows the ENERGISE state, R147 and R149. -/
inductive AfterEnerg where
  | none | move | modeState
deriving DecidableEq, Repr

/-- The profile engine's state of one axis, beside its registers. -/
structure Motion where
  /-- Position in 2^-24 pu and velocity in 2^-40 pu/tick, R167. -/
  p        : Int := 0
  v        : Int := 0
  /-- Velocity change of the last tick. -/
  acc      : Int := 0
  run      : Run := .idle
  reqs     : List AxReq := []
  /-- An accepted enable or disable that takes effect at the next tick, R169, R170. -/
  enPend   : Bool := false
  disNext  : Bool := false
  /-- A start was requested since the last tick: further requests count as the same one, R171. -/
  asked    : Bool := false
  /-- Sync event recognised for an armed axis or a waiting chain since the last tick. -/
  syncHit  : Bool := false
  waitHit  : Bool := false
  /-- The halt came from a fault, R186. -/
  faultHalt : Bool := false
  /-- A CFG_PARITY fault of the axis came from one of its own words, not from its coach's, R86. -/
  ownParity : Bool := false
  afterEnerg : AfterEnerg := .none
  /-- AXIS_DONE was already raised at this tick. -/
  said      : Bool := false
  /-- Parking ordered by NAP, HIBERNATE, forced power-down or the device safe state, whatever the mode. -/
  forcePark : Bool := false
  /-- Stall or witness action to run after the commands of the next tick, coded as AX_STALLCFG.ACT, R199. -/
  stallAct : Option Nat := none
  /-- Action of a witness mismatch found between ticks, run at the next tick, R203. -/
  witAct   : Option Nat := none
  /-- Ordered to quick-stop at the next tick by R52, R226 or R291. -/
  orderQ    : Bool := false
  /-- Halt ordered from outside the axis's commands: HALT_N, FORCED_OFF_TIMEOUT. -/
  orderH    : Bool := false
  /-- Move in progress for R207: position and energy at its start. -/
  moving    : Bool := false
  pStart    : Int := 0
  eStart    : Int := 0
  /-- Exact energy in 10 pJ units, R206. -/
  energy    : Int := 0
  /-- Ticks at standstill, to one, for R203; the tick since which it has stood still. -/
  still     : Bool := false
  stillAt   : Option Nat := none
  /-- Halted where its mode state is PARKING: it chops at AX_CS at its frozen address until released, R147. -/
  parkHeld  : Bool := false
  /-- Integer position at the snapshot before the last one, for an axis that follows this one, R182. -/
  posLast   : Int := 0
deriving DecidableEq, Repr

/-- A back-EMF window result the estimator can pair, R195. -/
structure WinRes where
  /-- Applied address travel position of the result (pu), direction of travel (up), sample times polarity, speed. -/
  pos   : Int
  up    : Bool
  dist  : Nat
  m     : Word
  speed : Nat
  /-- Stretch of travel without standstill, halt or reversal it belongs to, R195. -/
  era   : Nat
deriving DecidableEq, Repr

/-- A window placed in a command set, so that its sample can be read: coil, period number, target class. -/
structure WinTag where
  coilB  : Bool
  period : Nat
  addr   : Nat
  dist   : Nat
  sigma  : Bool
  up     : Bool
  speed  : Nat
  pos    : Int
  era    : Nat
deriving DecidableEq, Repr

/-- A window result waiting for its evaluation at the next tick, R196. -/
structure EvalReq where
  tag    : WinTag
  sample : Int
  noZero : Bool
  clip   : Bool
deriving DecidableEq, Repr

/-- Microstep, current and estimator state of one axis, beside its registers. -/
structure Sense where
  /-- Table address before INV (the grid position in force), previous position, previous sign, R163. -/
  addrPos  : Int := 0
  pprev    : Int := 0
  signPrev : Int := 0
  /-- The sequencer restarts pprev at the next tick (enable, or end of a halt). -/
  fresh    : Bool := true
  /-- Address of the last command set built, for window placement, R191. -/
  lastSet  : Option Int := none
  csEff    : Nat := 63
  fallCnt  : Nat := 0
  stallCs  : Bool := false
  /-- Decay flags of the window in progress, R143. -/
  earlyN   : Nat := 0
  deepN    : Nat := 0
  ffEff    : Nat := 32
  tags     : List WinTag := []
  evals    : List EvalReq := []
  results  : List WinRes := []
  /-- Number of the present stretch of travel, while windows of an earlier one are still to be evaluated, R195. -/
  era      : Nat := 0
  learnN   : Nat := 0
  learnSum : Nat := 0
  /-- The last tick's velocity change was zero. -/
  steady   : Bool := true
  /-- Valid evaluations seen in homing RUN, R201. -/
  homeN    : Nat := 0
  /-- Sum and number of CS_EFF over the ticks of the move, for CSL of R227. -/
  csSum    : Nat := 0
  csN      : Nat := 0
  /-- Witness: accumulated raw, last encoder count, whether a value is valid, R202. -/
  witRaw   : Int := 0
  witLast  : Nat := 0
  witOk    : Bool := false
  /-- Encoder channel the sum belongs to. -/
  witCh    : Nat := 0
  /-- AX_SSTAT as it stood at the build of the last command set, R151. -/
  sstat    : Word := 0x100
  /-- Alarm levels kept for AXALERT: imbalance legs are read from LEG_STAT. -/
  alert    : Bool := false
deriving DecidableEq, Repr

/-- One axis slot. -/
structure Axis where
  mo : Motion := {}
  se : Sense := {}
deriving DecidableEq, Repr

/-! ### Planner -/

/-- The planner's engine state, beside its registers. -/
structure Planner where
  /-- The command in progress (PL_CMD.CMD) and its slot while BUSY. -/
  cmd     : Nat := 0
  slot    : Nat := 0
  abq     : Bool := false
  /-- The PLAN in progress was written while the trio resynchronised, R210. -/
  held    : Bool := false
  /-- RUN waits for its start source; its sync event has been recognised. -/
  waiting : Bool := false
  sync    : Bool := false
  /-- Ticks since plan tick 0, number of entries in order, abort requested (with ABQ). -/
  tick    : Nat := 0
  count   : Nat := 0
  abort   : Option Bool := none
  /-- Budgets above their limit at the previous tick, one bit each, R221. -/
  ovr     : Nat := 0
  /-- Owned axes: (axis, entry) pairs of the active plan. -/
  owned   : List (Nat × Nat) := []
  /-- Entries whose start the gate made for the next tick. -/
  started : List Nat := []
  /-- Failure causes noted for running entries (entry, plan tick, reason), R224. -/
  causes  : List (Nat × Nat × Nat) := []
  /-- Entries that raised admission blocked. -/
  blocked : List Nat := []
  /-- Entries that ended DONE at this tick, whose losses are to be learned at its end, R227. -/
  learn   : List Nat := []
  /-- Temperatures (RK_THERM words) and VM (CO_VM words) held at PLAN, R227. -/
  heldT   : List Nat := []
  heldVm  : List Nat := []
deriving DecidableEq, Repr

/-! ### Power, clocks and reset -/

/-- Reset, run states and what the Thyme domain holds, beside the GCTL registers. -/
structure Power where
  /-- The device is held in reset; its reset sequence has started, R67. -/
  inReset  : Bool := false
  sequence : Bool := false
  /-- The 32.768 kHz periods that the reset sequence in progress takes, R64. -/
  seqTime  : Nat := 0
  /-- The 25 MHz reference is lost; a clock failure is to be logged once the hub has left reset, R62, R362. -/
  refLost  : Bool := false
  clkFail  : Bool := false
  /-- Node-ID strap as sampled, R36. -/
  strap    : Nat := 0
  /-- RTC write waiting for the next 32.768 kHz edge, R64. -/
  rtcStage : Option Nat := none
  /-- Positions saved in Thyme retention RAM for HIBERNATE (axis, position in pu), R56. -/
  hibPos   : List (Nat × Int) := []
  /-- A run state entry waits for its parks: the requested state, or 0. -/
  entering : Nat := 0
  /-- Axes parked on entry, and coaches that were on, R58. -/
  napParked : List Nat := []
  napCoach : Nat := 0
  /-- FAULT_N is held low in NAP or HIBERNATE, R35. -/
  heldFault : Bool := false
  /-- Wake sources present at the last tick: bits as WAKESRC, R55. -/
  wakeAct  : Nat := 0
  /-- No profile tick has passed since the wake from NAP: no edge counts yet, R237. -/
  unticked : Bool := false
  /-- The RTC has been set since power-on, R363. -/
  rtcSet   : Bool := false
  /-- Milliseconds of NAP since the reset, in which no profile tick comes. -/
  napMs    : Nat := 0
  /-- D4 causes of NAP that pend at the wake: source, cause code and channel, R308. -/
  napPend  : List (Nat × Nat × Nat) := []
  /-- HALT_N has been recognised low since the last tick, R306. -/
  haltDue  : Bool := false
deriving DecidableEq, Repr

/-! ### Feedback channels -/

/-- The settings the input filters of a channel have run under, R229: the motion-clock time from which the present one counts, and the
earlier ones that still matter, newest first, each with its first time, its end and its PRE. -/
structure Filt where
  start : Nat := 0
  past  : List (Nat × Nat × Nat) := []
deriving DecidableEq, Repr

/-- What an encoder channel and its compare unit hold beside their registers. -/
structure EncCh where
  /-- Motion-clock time of the last count, and its direction. -/
  tLast   : Option Nat := none
  lastUp  : Option Bool := none
  /-- Net counts and time since the last count at or before the previous window end, R239; counts seen in this window. -/
  net     : Int := 0
  span    : Nat := 0
  counted : Bool := false
  /-- A count exists at or before the previous window end. -/
  ref     : Bool := false
  /-- Illegal transitions in the present window, R233. -/
  ill     : Nat := 0
  /-- Axis position of the previous tick, for a compare unit with SRC = 1. -/
  cmpPrev : Nat := 0
  /-- A write of CMP_POS waiting for its tick, R244. -/
  posWr   : Option Word := none
  /-- The unit disarms when the pulse in progress ends, R243. -/
  disarm  : Bool := false
  /-- An encoder fault has been declared in the present window, R233. -/
  declared : Bool := false
  /-- Levels of ENCnA, ENCnB and ENCnZ at the balls, which the raw repeater passes on, R240. -/
  ballA   : Bool := false
  ballB   : Bool := false
  ballZ   : Bool := false
  /-- The input filters, and those of the step channel of the same number, R229. -/
  filt    : Filt := {}
  stepFilt : Filt := {}
deriving DecidableEq, Repr

/-! ### Sensor front end and converters -/

/-- A conversion in progress on a modulator, R248, with the configuration words it started with, R247. -/
structure SdConv where
  /-- Configuration, slot (regular 0 to 15, injected 0 to 3), class of the conversion. -/
  x       : Nat
  slot    : Nat
  inj     : Bool
  direct  : Bool
  /-- The lead conversion of R256 that comes before the conversion proper. -/
  lead    : Bool
  gain    : Nat
  cfgA    : Word
  cfgB    : Word
  cfgC    : Word
  settling : Bool
  /-- A break check failed; VEXC was off with REF = 2, R253. -/
  broken  : Bool := false
  refOff  : Bool := false
  /-- Motion-clock time of its start, in 1/32 counts, which names its pulses (R252), and the last profile tick before it (R203). -/
  start   : Nat := 0
  tick    : Nat := 0
deriving DecidableEq, Repr

/-- A result on its way to its register, R264, and to linearisation. -/
structure SdRes where
  x      : Nat
  slot   : Nat
  inj    : Bool
  direct : Bool
  gain   : Nat
  code   : Int
  brk    : Bool
  sat    : Bool
  cfgA   : Word
  /-- LEAD when the conversion ended. -/
  lead   : Nat
  /-- The last profile tick before its first conversion began, R203. -/
  tick   : Nat
deriving DecidableEq, Repr

/-- A partial sum of R269: configuration, conversions taken, their sum, and the tags gathered. -/
structure SdSum where
  x   : Nat := 0
  n   : Nat := 0
  sum : Int := 0
  brk : Bool := false
  sat : Bool := false
  /-- The gain of all its conversions, R269 and R270. -/
  gain : Nat := 0
  /-- The last profile tick before its first conversion began, R203. -/
  tick : Nat := 0
deriving DecidableEq, Repr

/-- The gain in use of a slot, R270, and the delivered results that may still cause no change. -/
structure SdGain where
  x     : Nat
  gain  : Nat
  quiet : Nat := 0
deriving DecidableEq, Repr

/-- Configuration words as they have landed for one modulator, R247, and the number of the write of AFE_CFGA seen. -/
structure CfgWords where
  a    : Word
  b    : Word
  c    : Word
  seen : Nat
deriving DecidableEq, Repr

/-- A sigma-delta modulator beside its registers. -/
structure SdMod where
  conv     : Option SdConv := none
  /-- A conversion of the regular or direct activity is to start. -/
  due      : Bool := false
  /-- Injected slot in progress or next. -/
  inj      : Option Nat := none
  /-- A SIMUL start deferred to the end of an injected sequence or calibration, R272. -/
  simul    : Bool := false
  /-- The regular, and the injected, conversion waits for the next duty window, R252. -/
  heldReg  : Bool := false
  heldInj  : Bool := false
  /-- The lead conversion of the conversion to start has run, R256; the configuration it was made for. -/
  leadDone : Bool := false
  leadFor  : Nat := 0
  /-- Partial sums by regular slot; 16 is the direct class. -/
  sums     : Sparse SdSum := []
  /-- Gains in use: regular slots 0 to 15, direct configuration x at 16 + x, injected slots at 32 + i. -/
  gains    : Sparse (Option SdGain) := []
  /-- Conversions of x since its lead conversion; 0 before the first. -/
  leadCnt  : Sparse Nat := []
  cfg      : Sparse (Option CfgWords) := []
  landing  : List SdRes := []
  /-- The result, and the injected result, has not been consumed, R271. -/
  fresh    : Bool := false
  injFresh : Bool := false
  /-- Calibration phase in progress: 2g offset, 2g + 1 gain, 16 finished; the gain whose factors are rejected. -/
  cal      : Option Nat := none
  /-- Results the mover has taken that are not linearised yet. -/
  lin      : List SdRes := []
  /-- The break bias is applied to the inputs, R248. -/
  bias     : Bool := false
deriving DecidableEq, Repr

/-- On-time of a pulsed source, R252, in 1/32 motion-clock counts: modulator, start and end. -/
structure OnTime where
  mod   : Nat
  start : Nat
  stop  : Nat
deriving DecidableEq, Repr

/-- The front end and the linearisation, shared by the four modulators. -/
structure Afe where
  on0     : List OnTime := []
  on1     : List OnTime := []
  /-- Modulators of the calibration in progress, R273. -/
  calMask : Nat := 0
  /-- Writes of AFE_CFGA by configuration, R270. -/
  cfgSeq  : Sparse Nat := []
  /-- The linearisation store, R278. -/
  store   : Sparse Word := []
  /-- Latest finite linearised value of each configuration, R275. -/
  linCfg  : Sparse (Option Word) := []
  /-- Latest linearised value by slot, key 32m + slot, injected 32m + 16 + slot, for the objects of R337. -/
  linSlot : Sparse (Option Word) := []
deriving DecidableEq, Repr
/-! ### The trio and the management subsystem -/

/-- One copy of the trio's core, R280: its architectural registers, and the tags of its two caches by entry, R286. -/
structure Copy where
  regs : Sparse Word := []
  tags : Sparse Word := []
deriving DecidableEq, Repr

/-- The trio supervision, beside its registers, and the device safe state. -/
structure Trio where
  /-- The three copies, R280. -/
  copy0   : Copy := {}
  copy1   : Copy := {}
  copy2   : Copy := {}
  /-- The architectural state saved for NAP, and how the copies agreed when it was saved, R293. -/
  saved   : Sparse Word := []
  saveChk : SaveCheck := .agreed
  /-- The scrub that precedes the first instruction after a wake from NAP is still to come, R293. -/
  wake    : Bool := false
  /-- The device safe state has been entered; its first tick has passed, R291. -/
  safe    : Bool := false
  safeIn  : Bool := false
  /-- When the resynchronisations of the last 1,000 ms began, in ticks and the time of NAP, R288. -/
  begins  : List Nat := []
  /-- Step of the resynchronisation in progress, R289: 1 caches of the odd copy, 2 running to a boundary, 3 copying. -/
  phase   : Nat := 0
  /-- State before a debug halt, R288, and before NAP, R293. -/
  halted  : Nat := 0
  asleep  : Nat := 0
  /-- A scrub is due before or after the release of the copies, R289, R293, R295. -/
  scrub   : Bool := false
  /-- The replay queue: register and value, R295; the last debugger access was refused. -/
  replay  : List (Nat × Word) := []
  dbgErr  : Bool := false
  /-- Combination the next comparator self-test injects, R287. -/
  nextPat : Nat := 0
  /-- Words of the shared SRAM written by the debugger, R281, R295. -/
  sram    : Sparse Word := []
deriving DecidableEq, Repr

/-- A firmware slot, R366 and R367. -/
structure Slot where
  state   : Nat := 0
  /-- Words of the image by word offset. -/
  words   : Sparse Word := []
  /-- The image is the one the part was delivered with, whose bytes the spec does not give. -/
  factory : Bool := false
  /-- Its bytes were not read without error at the last boot, R366. -/
  flawed  : Bool := false
deriving DecidableEq, Repr

/-- A security command in progress, R373: code, argument, whether a security session was open, and whether the host gave it. -/
structure SecRun where
  cmd     : Nat
  arg     : Nat
  session : Bool
  host    : Bool
deriving DecidableEq, Repr

/-- The two ordering codes, ZR512-FB1156-IP and -IU, which differ in the keys present at delivery and in the product code, R3. -/
inductive OrderCode where
  | ip
  | iu
deriving DecidableEq, Repr

/-- Object 0x1018:02 and GCTL_PROD, R5. -/
def OrderCode.product : OrderCode → Word
  | .ip => 0x00051201
  | .iu => 0x00051200

/-- The management subsystem, beside its registers. -/
structure Mgs where
  /-- The ordering code of this part, which nothing changes, R3 and R5. -/
  part     : OrderCode := .ip
  /-- The log in NVM, oldest entry first, and the next sequence number, R363; words of the entry at RPTR read so far. -/
  log      : List LogEntry := []
  nextSeq  : Nat := 0
  logIdx   : Nat := 0
  /-- Monitor samples taken: milliseconds, R361. -/
  ms       : Nat := 0
  /-- Rails out of their window, one bit each. -/
  railOut  : Nat := 0
  /-- The trio watchdog has not expired since the reset, R362; the tick at which it last restarted; the tick of an expiry whose reset
  is to come. -/
  wdRun    : Bool := true
  wdStart  : Nat := 0
  resetDue : Option Nat := none
  /-- The reset of ACTIVATE_RESET is to come, R368. -/
  actReset : Bool := false
  slotA    : Slot := { state := 4, factory := true }
  slotB    : Slot := {}
  /-- Update command in progress, R368; 0 none. -/
  updCmd   : Nat := 0
  /-- The spare slot has been written up to its end; an update runs, from its BEGIN to its END, R368. -/
  updFull  : Bool := false
  updRun   : Bool := false
  /-- Identity key pair: 0 none, 1 as delivered, 2 generated, with the public half generated; certificate, authentication key,
  R372. An -IP part is delivered with the first two. -/
  ident    : Nat := 1
  identKey : List Word := []
  cert     : Bool := true
  ak       : Option (List Word) := none
  /-- Trigger of a latched key erase, R379; the lock was set by an erase. -/
  erase    : Option Nat := none
  lockErase : Bool := false
  sec      : Option SecRun := none
  /-- Words written to MGS_SECBUF and MGS_AURESP, which reads never return, R382. -/
  secIn    : Sparse Word := []
  resp     : Sparse Word := []
  /-- The host port's challenge and session, the debug port's, R374. -/
  hostCh   : Option (List Word) := none
  hostAuth : Bool := false
  respDue  : Bool := false
  dbgCh    : Option (List Word) := none
  dbgAuth  : Bool := false
  /-- Times of the authentication failures of the last 60 s, in ms. -/
  fails    : List Nat := []
deriving DecidableEq, Repr
/-! ### The network -/

/-- An answer of the USDO server, R327 and R333: an acknowledgement, the bytes of an upload, or an abort code. -/
inductive UsdoResp where
  | ok
  | data (bytes : List Nat)
  | abort (code : Nat)
  /-- Block transfers: the start, with the segments of a sub-block or the bytes to come; the acknowledgement of a sub-block; a segment;
  the end of an upload. -/
  | blockReady (n : Nat)
  | blockAck (seq size : Nat)
  | blockSegment (seq : Nat) (bytes : List Nat) (last : Bool)
  | blockEnd
deriving DecidableEq, Repr

/-- What a frame the node sends says. -/
inductive NetMsg where
  | heartbeat (byte : Nat)
  /-- Error code, error register, manufacturer data word, R321. -/
  | emcy (code reg : Nat) (word : Word)
  | tpdo (n : Nat) (bytes : List Nat)
  | usdo (node sess : Nat) (r : UsdoResp)
deriving DecidableEq, Repr

/-- A frame in a transmit queue: identifier and content. -/
structure TxFrame where
  id  : Nat
  msg : NetMsg
deriving DecidableEq, Repr

/-- A CAN controller beside its registers. -/
structure Can where
  queue   : List TxFrame := []
  emcys   : List NetMsg := []
  /-- Data word of a bus-off EMCY to be queued at recovery, R303. -/
  boff    : Option Word := none
  /-- EN was written 0; the controller goes off at the next bus idle, R315. -/
  ending  : Bool := false
  /-- Tick at which the last EMCY was sent. -/
  emcyAt  : Option Nat := none
  /-- A frame was in progress on the bus at the last tick, R78. -/
  busy    : Bool := false
deriving DecidableEq, Repr

/-- A block transfer in progress: segments of a sub-block, segments of the present one received or sent, and whether the last segment
has been received or acknowledged. -/
structure BlockRun where
  size  : Nat
  seq   : Nat := 0
  ended : Bool := false
deriving DecidableEq, Repr

/-- A USDO transfer in progress: object, direction, the bytes received or still to be sent, and its block run if it is a block
transfer. -/
structure Xfer where
  idx   : Nat
  sub   : Nat
  down  : Bool
  data  : List Nat := []
  block : Option BlockRun := none
deriving DecidableEq, Repr

/-- What the answer to a request waits for. -/
inductive UsdoWait where
  | none
  /-- A coach register exchange, R17: of an upload, or of a download. -/
  | exchange (down : Bool) (idx sub addr : Nat)
  | store
  | update
deriving DecidableEq, Repr

/-- A USDO session context, R328. -/
structure Ctx where
  can   : Nat
  node  : Nat
  sess  : Nat
  auth  : Bool := false
  xfer  : Option Xfer := none
  wait  : UsdoWait := .none
  /-- A challenge issued in the context, and a response waiting for its check, R374. -/
  chal  : Option (List Word) := none
  resp  : Option (List Word) := none
deriving DecidableEq, Repr

/-- An entry of the clamp report, R335: index, subindex or address, source, requested and applied values. -/
structure ClampRec where
  ref    : Nat
  source : Nat
  req    : Int
  app    : Int
deriving DecidableEq, Repr

/-- A frame that waits in a controller's receive buffer, R58: NMT commands (1 pre-operational, 2 operational, 3 stopped), the two NMT
resets, heartbeat, SYNC, TIME, RPDO, USDO request, malformed frame. -/
inductive RxFrame where
  | nmt (st node : Nat)
  | nmtReset (node : Nat)
  | nmtResetComm (node : Nat)
  | heartbeat (node : Nat)
  | sync (len counter : Nat)
  | time (t : Option (Nat × Nat))
  | rpdo (n : Nat) (bytes : List Nat)
  | usdo (node sess : Nat) (op : UsdoOp)
  | malformed (node : Option Nat)
deriving DecidableEq, Repr

/-- The network node beside its registers. -/
structure Net where
  /-- Frames received in NAP, and by the trio's stack before it has resumed, oldest first, with their controllers, R58. -/
  rxHeld   : List (Nat × RxFrame) := []
  /-- The two controllers, R311. -/
  can0     : Can := {}
  can1     : Can := {}
  /-- Communication objects that differ from their defaults, by 256 × index + subindex, R336. -/
  objs     : Sparse (Option Word) := []
  ctxs     : List Ctx := []
  /-- Nodes in quarantine; malformed frames of the last 1,000 ms (node if known, time); event 110 has pended for the present excess of
  those of no node; consecutive failed responses by node, R330. -/
  quar     : List Nat := []
  mal      : List (Option Nat × Nat) := []
  malOver  : Bool := false
  badResp  : Sparse Nat := []
  /-- Consumer entries monitored (bit n − 1) by heartbeats on either controller, and losses whose action comes at the next
  tick, R320. -/
  hbMon0   : Nat := 0
  hbMon1   : Nat := 0
  hbDue    : List Nat := []
  /-- The error register and the pre-defined error field, newest first, R303, R321. -/
  errReg   : Nat := 0
  errHist  : List Nat := []
  /-- RPDOs held for the next SYNC, R325. -/
  held     : List (Nat × List Nat) := []
  /-- RPDOs received at least once, by bit, for the deadline of R325. -/
  rpdoSeen : Nat := 0
  /-- TPDOs: triggered by their event, to be sent at the next tick, SYNCs counted, tick of the last instance, R326. -/
  tpdoDue  : Nat := 0
  tpdoSync : List Nat := []
  tpdoCnt  : Sparse Nat := []
  tpdoLast : Sparse (Option Nat) := []
  /-- Tick of an NMT reset node whose reset is to come, R317. -/
  reset    : Option Nat := none
  /-- The clamp report, newest first, R335; the source of a write in progress: kind, index and subindex. -/
  clamps   : List ClampRec := []
  clampCnt : Nat := 0
  clampSrc : Option (Nat × Nat) := none
  /-- Coach register exchanges of the trio that have ended, by address; the register address at 0x2100:01, R338. -/
  done     : List (Nat × Reply) := []
  regWin   : Nat := 0
deriving DecidableEq, Repr

/-! ### The two serial ports -/

/-- What a host frame is doing, R342 to R351. -/
structure HostPort where
  inFrame : Bool := false
  /-- SPI mode 3 was selected. -/
  mode3   : Bool := false
  /-- The frame started before the reset sequence ended, R353; it is dead from the first status byte after an error, R348. -/
  early   : Bool := false
  dead    : Bool := false
  /-- The header has been received: command and address of the frame, and the address of the next word. -/
  headed  : Bool := false
  cmd     : Nat := 0
  start   : Nat := 0
  addr    : Nat := 0
  /-- Words performed by the frame; a cause has been recorded for it. -/
  words   : Nat := 0
  failed  : Bool := false
  /-- The block being gathered; it waits to be issued, and so many frames have ended since. -/
  block    : List (Nat × Word) := []
  full     : Bool := false
  blockAge : Nat := 0
  /-- The same of the block gathered behind one that waits, R347. -/
  next     : List (Nat × Word) := []
  nextFull : Bool := false
  nextAge  : Nat := 0
  /-- Words being issued, the head under way, and how many frames have ended since: 0 this frame's, 1 the previous frame's. -/
  issue   : List (Nat × Word) := []
  prev    : Nat := 0
  /-- The outcome of the previous frame is not known yet, R351; it has failed; so has the one before it. -/
  due     : Bool := false
  prevBad : Bool := false
  oldBad  : Bool := false
  /-- The read of a slot is under way, for an address; so many frames have ended since it was issued, and its own had failed when it
  ended; its data, to be sent in the slot. -/
  reading  : Bool := false
  readAt   : Nat := 0
  stale    : Nat := 0
  staleBad : Bool := false
  got      : Option Word := none
  /-- Words sent on MISO in the frame, newest first; every whole byte sent, oldest first, R343. -/
  miso    : List Word := []
  out     : List Nat := []
deriving DecidableEq, Repr

/-- A read-ahead line, R356: its number (flash address / 64) and its sixteen words. -/
structure XipLine where
  line  : Nat
  words : List Word
deriving DecidableEq, Repr

/-- A transaction of the memory port, R359: the command word, whether WAIT has been satisfied, and whether its words have been
received; or a probe. -/
structure SpmRun where
  probe  : Bool
  cmd    : Word
  locks  : Bool
  waitOk : Bool
  got    : Bool
deriving DecidableEq, Repr

/-- The memory port beside its registers. -/
structure Spm where
  tx       : List Word := []
  rx       : List Word := []
  /-- Lines held, most recently used first. -/
  lines    : List XipLine := []
  /-- Lines to be fetched, the head in progress, and whether it is a background fetch. -/
  fetches  : List (Nat × Bool) := []
  lastMiss : Option Nat := none
  /-- Reads waiting for a line: master, flash address and size. -/
  waits    : List (Master × Nat × AccessSize) := []
  run      : Option SpmRun := none
deriving DecidableEq, Repr

/-! ### NVM settings -/

/-- A stored set of settings, R81: RWS registers by address, linearisation store, NET RWS objects. -/
structure NvmSet where
  regs : Sparse Word := []
  lin  : Sparse Word := []
  objs : Sparse (Option Word) := []
deriving DecidableEq, Repr

/-- Settings and wave tables in NVM, and the store command in progress, R81 and R158. -/
structure Nvm where
  settings : Option NvmSet := none
  waves    : Option (Sparse Word) := none
  /-- The command in progress (GCTL_STORE.CMD), 0 for none; its values are to be taken at the next tick. -/
  cmd      : Nat := 0
  due      : Bool := false
  /-- The values taken. -/
  newSet   : NvmSet := {}
  newWaves : Sparse Word := []
deriving DecidableEq, Repr

/-! ### The whole machine -/

/-- Reasons the machine could stop with a fault. No meaning of this model ends in one: every command of the table has an
effect in every state, so the type is empty. -/
inductive Fault where
deriving DecidableEq, Repr

/-- Reasons a command is refused by the model. -/
inductive Refusal where
  /-- Raised by exec's own arms for a command whose meaning is not written yet; safe, since no effect is claimed. No arm
  raises it now. -/
  | notModelled (mnemonic : String)
deriving DecidableEq, Repr

/-- The block's state: every register, buffer, counter, mode and pin the spec gives it, and the queue of waiting commands. -/
structure State where
  /-- Live value of every register word by byte address; an unlisted address reads as its reset value in the register map. -/
  regs    : Sparse Word := []
  /-- Snapshot of the registers at the last profile tick, R88. -/
  snap    : Sparse Word := []
  /-- Words staged for their natural boundary, by address, R78. -/
  staged  : Sparse Staged := []
  /-- Words that fail parity, by address, R86. -/
  bad     : Sparse Bool := []
  /-- Last answer to each master, by GCTL_BUSERR.MASTER number. -/
  replies : Sparse Reply := []
  /-- Open guard windows, by address A, R76. -/
  guards  : Sparse (Option GuardWin) := []
  hostPair : PairPort := {}
  trioPair : PairPort := {}
  mgsPair  : PairPort := {}
  /-- The locked two-word transfer of a CAN engine, R90. -/
  canPair  : PairPort := {}
  /-- Profile ticks since reset (the motion-clock counter is a multiple of 2,000 at each), R166. -/
  ticks   : Nat := 0
  /-- The model's own counter, which every free value advances. -/
  free    : Nat := 0
  /-- Occurrences waiting for the trio and EMCY routes, R298. -/
  trioQ   : List Occ := []
  emcyQ   : List Occ := []
  /-- Entries waiting to be written to the log, at most 64, R364; for each source the tick of its last entry and the further
  occurrences since, R304. -/
  logQ    : List LogItem := []
  logWin  : Sparse (Option (Nat × Nat)) := []
  legs    : Sparse Leg := []
  coils   : Sparse Coil := []
  coaches : Sparse Coach := []
  /-- Trips held for the two checks of R121, and the run count of each coil end (4a + end). -/
  trips   : List Trip := []
  runs    : Sparse Nat := []
  axes    : Sparse Axis := []
  pl      : Planner := {}
  power   : Power := {}
  /-- SYNC_OUT is driven high, R173. -/
  syncOut : Bool := false
  encs    : Sparse EncCh := []
  /-- Motion-clock time of the last active edge of each step channel, plus one; 0 for none. -/
  stepLast : Sparse Nat := []
  /-- Filtered level of each DIR ball, before DIRINV, R230. -/
  stepDir : Sparse Bool := []
  /-- Recipe images in the 64 NVM slots: header and entry words; none for an empty slot, R210 and R212. -/
  recipes : Sparse (List Word) := []
  /-- The roll-back counter in its write-once region, which MGS_RBCNT shows, R371. -/
  rbcnt   : BitVec 16 := 0
  sds     : Sparse SdMod := []
  afe     : Afe := {}
  trio    : Trio := {}
  mgs     : Mgs := {}
  net     : Net := {}
  sph     : HostPort := {}
  spm     : Spm := {}
  nvm     : Nvm := {}
  /-- Commands waiting, first in, first out. -/
  pending : List Instr := []
deriving DecidableEq, Repr

/-- The machine at the end of the reset sequence that follows a power-on, R67 and R68. Every register word that is not listed
reads as its reset value in the register maps; the three listed differ: GCTL_PWRSTAT (AFEON = 1, R67), GCTL_CLKSTAT (REFOK and
LOCK, R67) and NET_NODE (node-ID and source from a strap of 1, DESIGN CHOICE, log entry 2). The power-on waits for its log
entry. Memory that power-on leaves without a stated value (wave tables, segments, recipes, log, NVM sets) is empty. -/
def State.reset : State :=
  { regs := [(0x00048, 1), (0x00054, 3), (0x90200, 0x8801)]
    logQ :=
      [{ code := 0x0100, time := 0
         d0 := BitVec.ofNat 32 (1 + 65536 * (Config.factoryVersion.toNat % 65536))
         d1 := BitVec.ofNat 32 (Config.factoryVersion.toNat / 65536) }]
    power := { strap := 1 } }

/-- A part of an ordering code as delivered, R3: State.reset is an -IP part; an -IU part has no identity key pair and no certificate. -/
def State.delivered (p : OrderCode) : State :=
  match p with
  | .ip => State.reset
  | .iu => { State.reset with mgs := { part := .iu, ident := 0, cert := false } }

end Sys2Proof.Machine
end

