-- ==== Sys2Proof/Machine/WaveTable.lean ====
section
/-!
DEFINITION. Machine/WaveTable.lean: the fixed wave table 0, R155: Q[k] = round(4095 × sin(π × k / 512)), halves rounded up.
-/

namespace Sys2Proof.Machine

/-- Entries 0 to 32 of table 0. -/
def waveTable0p0 : List Nat :=
  [0, 25, 50, 75, 100, 126, 151, 176, 201, 226, 251, 276, 301, 326, 351, 376, 401, 426, 451, 476, 501, 526, 551, 576, 601, 626, 651, 675, 700, 725, 750, 774, 799]

/-- Entries 33 to 65 of table 0. -/
def waveTable0p1 : List Nat :=
  [824, 848, 873, 897, 922, 946, 971, 995, 1019, 1044, 1068, 1092, 1116, 1141, 1165, 1189, 1213, 1237, 1261, 1285, 1308, 1332, 1356, 1380, 1403, 1427, 1450, 1474, 1497, 1521, 1544, 1567, 1590]

/-- Entries 66 to 98 of table 0. -/
def waveTable0p2 : List Nat :=
  [1613, 1636, 1659, 1682, 1705, 1728, 1751, 1774, 1796, 1819, 1841, 1864, 1886, 1908, 1930, 1952, 1975, 1997, 2018, 2040, 2062, 2084, 2105, 2127, 2148, 2170, 2191, 2212, 2233, 2254, 2275, 2296, 2317]

/-- Entries 99 to 131 of table 0. -/
def waveTable0p3 : List Nat :=
  [2337, 2358, 2378, 2399, 2419, 2439, 2460, 2480, 2500, 2519, 2539, 2559, 2578, 2598, 2617, 2636, 2656, 2675, 2694, 2713, 2731, 2750, 2769, 2787, 2805, 2824, 2842, 2860, 2878, 2896, 2913, 2931, 2948]

/-- Entries 132 to 164 of table 0. -/
def waveTable0p4 : List Nat :=
  [2966, 2983, 3000, 3017, 3034, 3051, 3068, 3084, 3101, 3117, 3133, 3149, 3165, 3181, 3197, 3213, 3228, 3244, 3259, 3274, 3289, 3304, 3319, 3333, 3348, 3362, 3377, 3391, 3405, 3419, 3433, 3446, 3460]

/-- Entries 165 to 197 of table 0. -/
def waveTable0p5 : List Nat :=
  [3473, 3486, 3499, 3512, 3525, 3538, 3551, 3563, 3575, 3588, 3600, 3611, 3623, 3635, 3646, 3658, 3669, 3680, 3691, 3702, 3713, 3723, 3733, 3744, 3754, 3764, 3774, 3783, 3793, 3802, 3811, 3821, 3830]

/-- Entries 198 to 230 of table 0. -/
def waveTable0p6 : List Nat :=
  [3838, 3847, 3856, 3864, 3872, 3880, 3888, 3896, 3904, 3911, 3919, 3926, 3933, 3940, 3947, 3953, 3960, 3966, 3972, 3978, 3984, 3990, 3996, 4001, 4006, 4011, 4016, 4021, 4026, 4030, 4035, 4039, 4043]

/-- Entries 231 to 256 of table 0. -/
def waveTable0p7 : List Nat :=
  [4047, 4051, 4054, 4058, 4061, 4064, 4067, 4070, 4073, 4075, 4078, 4080, 4082, 4084, 4086, 4087, 4089, 4090, 4091, 4092, 4093, 4094, 4094, 4095, 4095, 4095]

/-- Entry k of wave table 0, R155. -/
def waveTable0 (k : Nat) : Nat :=
  match k / 33 with
  | 0 => waveTable0p0.getD (k % 33) 0
  | 1 => waveTable0p1.getD (k % 33) 0
  | 2 => waveTable0p2.getD (k % 33) 0
  | 3 => waveTable0p3.getD (k % 33) 0
  | 4 => waveTable0p4.getD (k % 33) 0
  | 5 => waveTable0p5.getD (k % 33) 0
  | 6 => waveTable0p6.getD (k % 33) 0
  | 7 => waveTable0p7.getD (k % 33) 0
  | _ => 0

end Sys2Proof.Machine
end

