-- ==== Sys2Proof/Machine/Ops.lean ====
section
/-!
DEFINITION. Machine/Ops.lean: the address map, the reset value of every register word, and the named operations that read
and write registers, fields and the keyed parts of the state. Every read and write of a register goes through these.
-/

namespace Sys2Proof.Machine

/-- The outcome of a command. -/
abbrev Out := Host.Outcome State Fault Refusal

/-! ### Bits of a word -/

/-- Bits [hi:lo] of a word as a number. -/
def wordField (w : Word) (hi lo : Nat) : Nat := (w.toNat >>> lo) % 2 ^ (hi + 1 - lo)

/-- The word whose bits [hi:lo] are 1. -/
def fieldMask (hi lo : Nat) : Word := BitVec.ofNat 32 (2 ^ (hi + 1 - lo) - 1) <<< lo

/-- The word with bits [hi:lo] replaced by the low bits of `v`. -/
def wordPut (w : Word) (hi lo v : Nat) : Word :=
  (w &&& ~~~ fieldMask hi lo) ||| ((BitVec.ofNat 32 v <<< lo) &&& fieldMask hi lo)

/-- `n` read as a two's complement number of `bits` bits. -/
def signed (bits n : Nat) : Int := if n < 2 ^ (bits - 1) then (n : Int) else (n : Int) - (2 ^ bits : Nat)

/-- The two's complement code of `i` in `bits` bits. -/
def unsigned (bits : Nat) (i : Int) : Nat := (i % ((2 ^ bits : Nat) : Int)).toNat

/-- Bit `b` of a number. -/
def natBit (n b : Nat) : Bool := (n >>> b) % 2 = 1

/-- `n` with bit `b` set or cleared. -/
def natPutBit (n b : Nat) (v : Bool) : Nat :=
  if natBit n b then (if v then n else n - 2 ^ b) else (if v then n + 2 ^ b else n)

/-- 1 for true. -/
def b2n (b : Bool) : Nat := if b then 1 else 0

/-- `x` kept within `lo` to `hi`. -/
def clampNat (lo hi x : Nat) : Nat := if x < lo then lo else if hi < x then hi else x

/-- `x` kept within `lo` to `hi`. -/
def clampInt (lo hi x : Int) : Int := if x < lo then lo else if hi < x then hi else x

/-- Quotient rounded up. -/
def ceilDiv (n d : Nat) : Nat := (n + d - 1) / d

/-! ### The address map, R69 -/

/-- First address of a block, number of instances and bytes per instance. -/
def Block.place : Block → Nat × Nat × Nat
  | .GCTL => (0x00000, 1, 0x1000)
  | .AX   => (0x10000, 128, 0x200)
  | .LEG  => (0x20000, 512, 0x40)
  | .RK   => (0x28000, 16, 0x80)
  | .CO   => (0x29000, 4, 0x100)
  | .SEG  => (0x30000, 4096, 0x10)
  | .WAVE => (0x40000, 8, 0x800)
  | .ENC  => (0x50000, 8, 0x80)
  | .STEP => (0x50400, 8, 0x40)
  | .AFE  => (0x60000, 1, 0x100)
  | .SD   => (0x60100, 4, 0x80)
  | .EV   => (0x70000, 1, 0x1000)
  | .PL   => (0x80000, 1, 0x10000)
  | .NET  => (0x90000, 1, 0x10000)
  | .SPH  => (0xA0000, 1, 0x100)
  | .SPM  => (0xA0100, 1, 0xFF00)
  | .MGS  => (0xB0000, 1, 0x10000)

/-- The registers of a block. -/
def Block.regs : Block → List RegDef
  | .GCTL => gctlRegs
  | .AX   => axRegs
  | .LEG  => legRegs
  | .RK   => rkRegs
  | .CO   => coRegs
  | .SEG  => segRegs
  | .WAVE => waveRegs
  | .ENC  => encRegs
  | .STEP => stepRegs
  | .AFE  => afeRegs
  | .SD   => sdRegs
  | .EV   => evRegs
  | .PL   => plRegs
  | .NET  => netRegs
  | .SPH  => sphRegs
  | .SPM  => spmRegs
  | .MGS  => mgsRegs

/-- The block whose range holds an address, R69. -/
def blockOf (addr : Nat) : Option Block :=
  if addr < 0x1000 then some .GCTL
  else if addr < 0x10000 then none
  else if addr < 0x20000 then some .AX
  else if addr < 0x28000 then some .LEG
  else if addr < 0x28800 then some .RK
  else if addr < 0x29000 then none
  else if addr < 0x29400 then some .CO
  else if addr < 0x30000 then none
  else if addr < 0x40000 then some .SEG
  else if addr < 0x44000 then some .WAVE
  else if addr < 0x50000 then none
  else if addr < 0x50400 then some .ENC
  else if addr < 0x50600 then some .STEP
  else if addr < 0x60000 then none
  else if addr < 0x60100 then some .AFE
  else if addr < 0x60300 then some .SD
  else if addr < 0x70000 then none
  else if addr < 0x71000 then some .EV
  else if addr < 0x80000 then none
  else if addr < 0x90000 then some .PL
  else if addr < 0xA0000 then some .NET
  else if addr < 0xA0100 then some .SPH
  else if addr < 0xB0000 then some .SPM
  else if addr < 0xC0000 then some .MGS
  else none

/-- A register found by its address: block, instance, entry of the map, copy number, and whether the address is the
complement address of a guarded register. -/
structure Loc where
  blk   : Block
  inst  : Nat
  defn  : RegDef
  copy  : Nat
  compl : Bool
deriving DecidableEq, Repr

/-- The register of a block's map at an offset. -/
def findReg : List RegDef → Nat → Option (RegDef × Nat × Bool)
  | [], _ => none
  | d :: ds, off =>
    if d.count ≤ 1 then
      if off = d.off then some (d, 0, false)
      else if d.guarded && off = d.off + 4 then some (d, 0, true)
      else findReg ds off
    else if d.off ≤ off && (off - d.off) % d.stride = 0 && (off - d.off) / d.stride < d.count then
      some (d, (off - d.off) / d.stride, false)
    else findReg ds off

/-- The register at an address; none for a reserved address, R69. -/
def locate (addr : Nat) : Option Loc :=
  match blockOf addr with
  | none => none
  | some b =>
    let (base, count, stride) := b.place
    let inst := (addr - base) / stride
    if count ≤ inst then none
    else match findReg b.regs ((addr - base) % stride) with
      | none => none
      | some (d, k, c) => some ⟨b, inst, d, k, c⟩

/-- The bits of a field. -/
def FieldDef.mask (f : FieldDef) : Word := fieldMask f.hi f.lo

/-- The bits of all fields that satisfy `p`. -/
def RegDef.maskOf (d : RegDef) (p : FieldDef → Bool) : Word :=
  d.fields.foldl (fun m f => if p f then m ||| f.mask else m) 0

/-- Whether a field is buffered: RWB or RWS with a boundary to land at. -/
def FieldDef.buffered (f : FieldDef) : Bool := (f.ty = .rwb || f.ty = .rws) && f.cls ≠ .now

/-- Whether any field of a register can be written, R72 step 4. -/
def RegDef.writable (d : RegDef) : Bool := d.fields.any fun f => f.ty ≠ .ro

/-- Whether a register is written through a mask in bits [31:16], R74. -/
def RegDef.masked (d : RegDef) : Bool := d.fields.any fun f => f.ty = .rwm

/-! ### Reset values of the map -/

/-- Reset priority of an event source, R299. -/
def evPri (src : Nat) : Nat :=
  if src < 20 then 7 else if src < 24 then 4 else if src < 26 then 7 else if src < 28 then 4
  else if src < 32 then 3 else if src < 48 then 2 else if src < 64 then 5 else if src < 72 then 3
  else if src < 80 then 1 else if src < 88 then 3 else if src < 96 then 1 else if src < 100 then 3
  else if src = 100 then 2 else if src = 101 then 4 else if src < 104 then 2 else if src < 108 then 5
  else if src < 113 then 4 else if src = 113 then 3 else if src = 114 then 7 else if src < 118 then 3
  else if src < 120 then 1 else if src = 120 then 4 else if src = 121 then 7 else if src = 122 then 4
  else if src < 125 then 7 else if src = 125 then 4 else if src = 126 then 6 else 0

/-- Reset routes of an event source, R299: trio, EMCY, log. -/
def evRoutes (src : Nat) : Bool × Bool × Bool :=
  if src < 20 then (true, true, true) else if src < 24 then (true, false, true)
  else if src < 26 then (true, true, true) else if src < 28 then (true, false, true)
  else if src < 32 then (true, false, false) else if src < 48 then (false, false, false)
  else if src < 64 then (true, false, true) else if src < 101 then (false, false, false)
  else if src = 101 then (false, false, true) else if src < 104 then (false, false, false)
  else if src < 108 then (true, true, true) else if src < 114 then (false, false, true)
  else if src = 114 then (true, true, true) else if src < 118 then (false, false, true)
  else if src = 118 then (false, false, false) else if src = 119 then (true, false, false)
  else if src < 125 then (false, false, true) else if src = 125 then (true, false, true)
  else if src = 126 then (true, true, true) else (false, false, false)

/-- Reset value of EV_CFG[src]. -/
def evCfgReset (src : Nat) : Word :=
  let (t, e, l) := evRoutes src
  BitVec.ofNat 32 (evPri src + 0x100 * b2n t + 0x800 * b2n e + 0x1000 * b2n l)

/-- Reset value of EV_EN[w]. -/
def evEnReset (w : Nat) : Word :=
  if w = 0 then 0xFFFFFFFF else if w = 1 then 0xFFFF0000 else if w = 2 then 0 else 0x7FBFFF20

/-- The reset values of a register's fields put together. -/
def RegDef.resetWord (d : RegDef) : Word :=
  d.fields.foldl (fun w f => wordPut w f.hi f.lo f.reset) 0

/-- What the word at an address reads as when nothing has written it: its reset value in the register maps. -/
def resetWord (addr : Nat) : Word :=
  match locate addr with
  | none => 0
  | some l =>
    if l.compl then 0
    else match l.defn.reg with
      | .WAVE => BitVec.ofNat 32 (waveTable0 l.copy)
      | .EV_CFG => evCfgReset l.copy
      | .EV_EN => evEnReset l.copy
      | .NET_CTL => if l.copy = 0 then wordPut l.defn.resetWord 0 0 1 else l.defn.resetWord
      | _ => l.defn.resetWord

/-! ### Registers and fields -/

/-- The live word at an address. -/
def State.rd (s : State) (addr : Nat) : Word := Sparse.get resetWord s.regs addr

/-- Sets the live word at an address. -/
def State.wr (s : State) (addr : Nat) (w : Word) : State :=
  { s with regs := Sparse.set resetWord s.regs addr w }

/-- The value of a field. -/
def State.get (s : State) (f : Fld) : Nat := wordField (s.rd f.addr) f.hi f.lo

/-- The value of a signed field. -/
def State.getI (s : State) (f : Fld) : Int := signed (f.hi + 1 - f.lo) (s.get f)

/-- Whether a field is not 0. -/
def State.on (s : State) (f : Fld) : Bool := s.get f ≠ 0

/-- Sets a field. -/
def State.put (s : State) (f : Fld) (v : Nat) : State := s.wr f.addr (wordPut (s.rd f.addr) f.hi f.lo v)

/-- Sets a one-bit field. -/
def State.putB (s : State) (f : Fld) (b : Bool) : State := s.put f (b2n b)

/-- Sets a signed field. -/
def State.putI (s : State) (f : Fld) (v : Int) : State := s.put f (unsigned (f.hi + 1 - f.lo) v)

/-- The largest value of a field. -/
def Fld.max (f : Fld) : Nat := 2 ^ (f.hi + 1 - f.lo) - 1

/-- Adds to a counter that saturates at its maximum, R91. -/
def State.addSat (s : State) (f : Fld) (n : Nat) : State := s.put f (min f.max (s.get f + n))

/-- Counts one in a saturating counter, R91. -/
def State.inc (s : State) (f : Fld) : State := s.addSat f 1

/-- Counts one in a counter that wraps. -/
def State.incWrap (s : State) (f : Fld) : State := s.put f (s.get f + 1)

/-- Bit `b` of the word at an address. -/
def State.bitAt (s : State) (addr b : Nat) : Bool := (s.rd addr).getLsbD b

/-- Sets bit `b` of the word at an address. -/
def State.putBitAt (s : State) (addr b : Nat) (v : Bool) : State :=
  s.wr addr (wordPut (s.rd addr) b b (b2n v))

/-- The 64-bit value of a pair whose LO word is at `lo`. -/
def State.pair (s : State) (lo : Nat) : Int :=
  signed 64 ((s.rd lo).toNat + 2 ^ 32 * (s.rd (lo + 4)).toNat)

/-- Sets a pair. -/
def State.putPair (s : State) (lo : Nat) (v : Int) : State :=
  let u := unsigned 64 v
  (s.wr lo (BitVec.ofNat 32 u)).wr (lo + 4) (BitVec.ofNat 32 (u / 2 ^ 32))

/-- The word of the last tick snapshot, R88. -/
def State.snapWord (s : State) (addr : Nat) : Word := Sparse.get resetWord s.snap addr

/-- What is staged at an address. -/
def State.stagedAt (s : State) (addr : Nat) : Staged := Sparse.get (fun _ => {}) s.staged addr

/-- Replaces what is staged at an address. -/
def State.setStaged (s : State) (addr : Nat) (x : Staged) : State :=
  { s with staged := Sparse.set (fun _ => {}) s.staged addr x }

/-- The value most recently written to a register with buffered fields: staged bits over live bits, R73. -/
def State.latest (s : State) (addr : Nat) : Word :=
  let x := s.stagedAt addr
  (x.value &&& x.mask) ||| (s.rd addr &&& ~~~ x.mask)

/-- The value of a field as most recently written. -/
def State.getLatest (s : State) (f : Fld) : Nat := wordField (s.latest f.addr) f.hi f.lo

/-- The value of a pair as most recently written. -/
def State.latestPair (s : State) (lo : Nat) : Int :=
  signed 64 ((s.latest lo).toNat + 2 ^ 32 * (s.latest (lo + 4)).toNat)

/-! ### Keyed parts -/

/-- Axis slot `a`. -/
def State.ax (s : State) (a : Nat) : Axis := Sparse.get (fun _ => {}) s.axes a

/-- Changes the motion state of axis `a`. -/
def State.modMo (s : State) (a : Nat) (f : Motion → Motion) : State :=
  { s with axes := Sparse.modify (fun _ => {}) s.axes a fun x => { x with mo := f x.mo } }

/-- Changes the sequencer and estimator state of axis `a`. -/
def State.modSe (s : State) (a : Nat) (f : Sense → Sense) : State :=
  { s with axes := Sparse.modify (fun _ => {}) s.axes a fun x => { x with se := f x.se } }

/-- The motion state of axis `a`. -/
def State.mo (s : State) (a : Nat) : Motion := (s.ax a).mo

/-- The sequencer and estimator state of axis `a`. -/
def State.se (s : State) (a : Nat) : Sense := (s.ax a).se

/-- Leg `l`. -/
def State.leg (s : State) (l : Nat) : Leg := Sparse.get (fun _ => {}) s.legs l

/-- Changes leg `l`. -/
def State.modLeg (s : State) (l : Nat) (f : Leg → Leg) : State :=
  { s with legs := Sparse.modify (fun _ => {}) s.legs l f }

/-- Coil position `z` of rank `r`. -/
def State.coil (s : State) (r z : Nat) : Coil := Sparse.get (fun _ => {}) s.coils (16 * r + z)

/-- Changes coil position `z` of rank `r`. -/
def State.modCoil (s : State) (r z : Nat) (f : Coil → Coil) : State :=
  { s with coils := Sparse.modify (fun _ => {}) s.coils (16 * r + z) f }

/-- Coach `c`. -/
def State.coach (s : State) (c : Nat) : Coach := Sparse.get (fun _ => {}) s.coaches c

/-- Changes coach `c`. -/
def State.modCoach (s : State) (c : Nat) (f : Coach → Coach) : State :=
  { s with coaches := Sparse.modify (fun _ => {}) s.coaches c f }

/-- The number of a master in GCTL_BUSERR.MASTER. -/
def masterCode : Master → Nat
  | .trio => 0 | .mgs => 1 | .host => 2 | .can0 => 3 | .can1 => 4
  | .seg0 => 5 | .seg1 => 6 | .seg2 => 7 | .seg3 => 8 | .mover => 9 | .xip => 10

/-- The last answer a master received. -/
def State.reply (s : State) (m : Master) : Reply := Sparse.get (fun _ => .none) s.replies (masterCode m)

/-- Answers a master. -/
def State.answer (s : State) (m : Master) (r : Reply) : State :=
  { s with replies := Sparse.set (fun _ => .none) s.replies (masterCode m) r }

/-- Applies an operation to every element of a list, in order. -/
def forEach {α : Type} (l : List α) (f : α → State → State) (s : State) : State := l.foldl (fun s x => f x s) s

/-- Applies an operation when a condition holds. -/
def applyIf (b : Bool) (f : State → State) (s : State) : State := if b then f s else s

/-- Takes the next free number for a free value, and the state with the counter advanced. -/
def State.fresh (s : State) : Nat × State := (s.free, { s with free := s.free + 1 })

end Sys2Proof.Machine
end

