-- ==== Sys2Proof/Machine/Flags.lean ====
section
/-!
DEFINITION. Machine/Flags.lean: event sources and their routes (R297 to R305), the axis alert bits (R189), which legs form an
axis (R106 to R108), and the output pins as functions of the state.
-/

namespace Sys2Proof.Machine

/-- Changes the power part. -/
def State.modPower (s : State) (f : Power → Power) : State := { s with power := f s.power }

/-- The RTC value, R64. -/
def State.rtc (s : State) : Nat := (s.rd GCTL_RTC_LO).toNat + 2 ^ 32 * s.get GCTL_RTC_HI.RTC

/-! ### Events -/

/-- Whether source `src` is enabled, R298. -/
def State.evEnabled (s : State) (src : Nat) : Bool := s.bitAt (EV_EN (src / 32)) (src % 32)

/-- Whether source `src` is pending, R297. -/
def State.evPending (s : State) (src : Nat) : Bool := s.bitAt (EV_PEND (src / 32)) (src % 32)

/-- The routes in force of a source: trio, IRQ0, IRQ1, EMCY, log. A parity failure of its EV_CFG word leaves the log only, R308. -/
structure Routes where
  trio : Bool
  irq0 : Bool
  irq1 : Bool
  emcy : Bool
  log  : Bool
deriving DecidableEq, Repr

/-- Whether the word at an address fails parity, R86. -/
def State.isBad (s : State) (addr : Nat) : Bool := Sparse.get (fun _ => false) s.bad addr

/-- Whether a word in `n` bytes from `lo` on fails parity. -/
def State.badWithin (s : State) (lo n : Nat) : Bool := s.bad.any fun x => x.2 && decide (lo ≤ x.1) && decide (x.1 < lo + n)

/-- Marks or clears a parity failure of a word. -/
def State.setBad (s : State) (addr : Nat) (b : Bool) : State :=
  { s with bad := Sparse.set (fun _ => false) s.bad addr b }

/-- The routes of a source in force. -/
def State.routes (s : State) (src : Nat) : Routes :=
  if s.isBad (EV_CFG src) then ⟨false, false, false, false, true⟩
  else ⟨s.on (EV_CFG.TRIO src), s.on (EV_CFG.IRQ0 src), s.on (EV_CFG.IRQ1 src), s.on (EV_CFG.EMCY src), s.on (EV_CFG.LOG src)⟩

/-- The word of manufacturer data, R303: source, cause code, and the axis, leg or channel concerned. -/
def Occ.word (o : Occ) : Word := BitVec.ofNat 32 (o.src * 2 ^ 24 + o.cause % 256 * 2 ^ 16 + o.idx % 65536)

/-- Queues an entry for the log; one that finds the queue of 64 full is dropped and counted, R364. -/
def logAdd (x : LogItem) (s : State) : State :=
  if s.logQ.length < 64 then { s with logQ := s.logQ ++ [x] } else s.inc MGS_LOGSTAT.DROP

/-- The MGS logs an entry of its own. -/
def logMgs (code : Nat) (d0 d1 d2 : Word) (s : State) : State := logAdd ⟨code, s.rtc, d0, d1, d2⟩ s

/-- Time since the reset in profile ticks of 10 µs: the ticks, and the milliseconds passed in NAP, where none comes. -/
def State.elapsed (s : State) : Nat := s.ticks + 100 * s.power.napMs

/-- An occurrence gets an entry of its own, R304; one that the queue drops begins no repeat count, R364. -/
def logOcc (o : Occ) (s : State) : State :=
  let x : LogItem := ⟨o.src, o.time, o.word, 0, 0⟩
  if s.logQ.length < 64 then
    logAdd x { s with logWin := Sparse.set (fun _ => none) s.logWin o.src (some (s.elapsed, 0)) }
  else logAdd x { s with logWin := Sparse.set (fun _ => none) s.logWin o.src none }

/-- The log route, R304: an occurrence within 10 ms of the last entry of its source is counted in that entry. -/
def logRoute (o : Occ) (s : State) : State :=
  match Sparse.get (fun _ => none) s.logWin o.src with
  | some (t0, n) =>
    if s.elapsed < t0 + 1000 then
      { s with logWin := Sparse.set (fun _ => none) s.logWin o.src (some (t0, n + 1)) }
    else logOcc o s
  | none => logOcc o s

/-- Pends a source, R297: its bit is set, and each occurrence route in force takes the occurrence if the source is enabled,
R298. -/
def pend (src cause idx : Nat) (s : State) : State :=
  let o : Occ := ⟨src, cause, idx, s.rtc⟩
  let s := s.putBitAt (EV_PEND (src / 32)) (src % 32) true
  if s.evEnabled src then
    let r := s.routes src
    let s := if r.log then logRoute o s else s
    { s with
      trioQ := if r.trio then s.trioQ ++ [o] else s.trioQ
      emcyQ := if r.emcy then s.emcyQ ++ [o] else s.emcyQ }
  else s

/-- A D4 cause: one that arises in NAP pends at the wake, R308. -/
def pendD4 (src cause idx : Nat) (s : State) : State :=
  if s.get GCTL_RUNSTAT.STATE = 2 && !s.power.inReset then s.modPower fun p => { p with napPend := p.napPend ++ [(src, cause, idx)] }
  else pend src cause idx s

/-- Pends a source with nothing further to say. -/
def pendSrc (src : Nat) (s : State) : State := pend src 0 0 s

/-- Sets whether the condition of a source holds now, R299. -/
def setAct (src : Nat) (b : Bool) (s : State) : State := s.putBitAt (EV_ACT (src / 32)) (src % 32) b

/-- Sources that are pending, enabled, and routed by `route`, at priority `pri` or above. -/
def State.driving (s : State) (route : Routes → Bool) (pri src : Nat) : Bool :=
  s.evPending src && s.evEnabled src && route (s.routes src) && decide (pri ≤ s.get (EV_CFG.PRI src))

/-- Present run state, R54: 0 RUN, 1 DOZE, 2 NAP, 3 HIBERNATE. -/
def State.runState (s : State) : Nat := s.get GCTL_RUNSTAT.STATE

/-- D3 runs: not in reset, NAP or HIBERNATE. -/
def State.fabricOn (s : State) : Bool := !s.power.inReset && decide (s.runState < 2)

/-- State of the trio, R288: 0 TRIPLE, 1 RESYNC, 2 DUPLEX, 3 HALTED, 4 SAFE, 5 OFF. -/
def State.trioState (s : State) : Nat := s.get TRIO_STAT.STATE

/-- Whether the trio's firmware runs: out of reset, not stalled, halted, held or off, and past the scrub of a wake from NAP, R293. -/
def State.trioRuns (s : State) : Bool :=
  !s.power.inReset && !s.trio.wake && (s.trioState = 0 || s.trioState = 2 || (s.trioState = 1 && s.trio.phase < 3))

/-- Whether the trio clock runs: it is gated in DOZE, R288. -/
def State.trioClock (s : State) : Bool := !s.power.inReset && s.get GCTL_RUNSTAT.STATE = 0

/-- Whether IRQ0_N is driven low, R302; it is released in reset, NAP and HIBERNATE, R35. -/
def State.irq0Low (s : State) : Bool :=
  s.fabricOn && (List.range 128).any fun src => s.driving (·.irq0) (s.get EV_GCFG.IRQ0PRI) src

/-- Whether IRQ1_N is driven low, R302; it is released in reset, NAP and HIBERNATE, R35. -/
def State.irq1Low (s : State) : Bool :=
  s.fabricOn && (List.range 128).any fun src => s.driving (·.irq1) (s.get EV_GCFG.IRQ1PRI) src

/-- The source a pin's handler serves first: highest priority, then lowest number, R302. -/
def State.firstSource (s : State) (route : Routes → Bool) (pri : Nat) : Option Nat :=
  (List.range 128).foldl (fun best src =>
    if s.driving route pri src then
      match best with
      | none => some src
      | some b => if s.get (EV_CFG.PRI b) < s.get (EV_CFG.PRI src) then some src else some b
    else best) none

/-- The word EV_IRQ0ID or EV_IRQ1ID reads, R302. -/
def irqIdWord : Option Nat → Word
  | none => 0x100
  | some src => BitVec.ofNat 32 src

/-- Whether some pending and enabled source drives FAULT_N, third case of R305. -/
def State.faultEvent (s : State) : Bool :=
  s.on EV_GCFG.FAULTEN && (List.range 128).any fun src => s.driving (fun _ => true) (s.get EV_GCFG.FAULTPRI) src

/-! ### Which legs form an axis -/

/-- Topology in force in half-rank `h` of rank `r`: 0 B4, 1 G8, 2 G16. -/
def State.topo (s : State) (r h : Nat) : Nat :=
  if h = 0 then s.get (RK_STAT.APPLIED0 r) else s.get (RK_STAT.APPLIED1 r)

/-- Whether slot `k` of a half-rank is live in a topology, R106. -/
def slotLive (topo k : Nat) : Bool :=
  if topo = 0 then true else if topo = 1 then k = 0 || k = 2 else k = 0

/-- Rank, half-rank and slot of an axis, R7. -/
def axisRank (a : Nat) : Nat := a / 8
def axisHalf (a : Nat) : Nat := a / 4 % 2
def axisSlot (a : Nat) : Nat := a % 4
/-- Coach of an axis, R8. -/
def axisCoach (a : Nat) : Nat := a / 32
/-- Side of a coach: 0 for A, 1 for B, R8. -/
def coachSide (c : Nat) : Nat := c / 2
/-- The axis of slot `k` of half-rank `h` of rank `r`, R7. -/
def axisAt (r h k : Nat) : Nat := 8 * r + 4 * h + k

/-- Whether an axis slot is absent, R107. -/
def State.absent (s : State) (a : Nat) : Bool := !slotLive (s.topo (axisRank a) (axisHalf a)) (axisSlot a)

/-- Legs per coil end of a topology, R106. -/
def legsPerEnd (topo : Nat) : Nat := if topo = 0 then 1 else if topo = 1 then 2 else 4

/-- The local legs of coil end `e` of slot `k` (0 and 1 the ends of coil A, 2 and 3 of coil B), leader first, R106. -/
def endLocals (topo k e : Nat) : List Nat := (List.range (legsPerEnd topo)).map fun i => 4 * k + e + 4 * i

/-- The legs of coil end `e` of axis `a`, R6 and R106. -/
def State.endLegs (s : State) (a e : Nat) : List Nat :=
  (endLocals (s.topo (axisRank a) (axisHalf a)) (axisSlot a) e).map fun j => 32 * axisRank a + 16 * axisHalf a + j

/-- All legs of axis `a`; none for an absent slot. -/
def State.axisLegs (s : State) (a : Nat) : List Nat :=
  if s.absent a then [] else (List.range 4).flatMap fun e => s.endLegs a e

/-- The axis and coil end a leg belongs to in the topology in force, R106. -/
def State.legOwner (s : State) (l : Nat) : Nat × Nat :=
  let r := l / 32
  let h := l / 16 % 2
  let j := l % 16
  let t := s.topo r h
  let k := if t = 0 then j / 4 else if t = 1 then j / 8 * 2 else 0
  (axisAt r h k, j % 4)

/-- The leader of a leg's gang, R108. -/
def State.legLeader (s : State) (l : Nat) : Nat :=
  let (a, e) := s.legOwner l
  (s.endLegs a e).headD l

/-- All legs of a leg's gang, R108. -/
def State.legGang (s : State) (l : Nat) : List Nat :=
  let (a, e) := s.legOwner l
  s.endLegs a e

/-- Whether axis `a` is enabled. -/
def State.enabled (s : State) (a : Nat) : Bool := s.on (AX_STAT.ENABLED a)

/-- Enabled, or with an accepted enable that takes effect at the next tick: R169 makes checks count both. -/
def State.enabledOrPend (s : State) (a : Nat) : Bool := s.enabled a || (s.mo a).enPend

/-! ### Axis alerts, R189 -/

/-- Whether a condition of R189 holds for axis `a`. -/
def State.alertCond (s : State) (a : Nat) : Bool :=
  s.on (AX_STAT.PML a) || s.on (AX_EVT.FLWOVR a) || s.on (AX_EVT.CHAINERR a) || s.on (AX_EVT.SAT a)
    || s.on (AX_EVT.LIMOVR a) || s.on (AX_FLTSTAT.STATE a) || s.on (AX_STALLST.STALL a) || s.on (AX_WITST.LOST a)
    || s.on (AX_HOMEST.ERR a) || (s.axisLegs a).any fun l => s.on (LEG_STAT.IMB l)

/-- Recomputes the alert bit of axis `a`; AXIS_ALERT of its group pends when the bit goes from 0 to 1, with the cause of the axis's fault
if it has one, R303. -/
def updAlert (a : Nat) (s : State) : State :=
  let old := s.bitAt (AXALERT (a / 32)) (a % 32)
  let new := s.alertCond a
  let s := s.putBitAt (AXALERT (a / 32)) (a % 32) new
  if new && !old then pend (48 + a / 8) (if s.on (AX_FLTSTAT.STATE a) then s.get (AX_FLTSTAT.CAUSE a) else 0) a s else s

/-- AXIS_DONE of the axis's group pends and its EV_AXDONE bit is set, R300. -/
def pendDone (a : Nat) (s : State) : State :=
  pend (32 + a / 8) 0 a (s.putBitAt (EV_AXDONE (a / 32)) (a % 32) true)

/-! ### Frames that hold legs off, R123 -/

/-- Queues a CTL frame at the hub end of a trained coupling, R14 and R123. -/
def sendCtl (c : Nat) (f : CtlFrame) (s : State) : State :=
  if s.on (CO_LINKSTAT.UP c) then s.modCoach c fun x => { x with ctlq := x.ctlq ++ [f] } else s

/-- Kills legs of one coach, R123. -/
def killLegs (c : Nat) (legs : List Nat) (s : State) : State := if legs.isEmpty then s else sendCtl c (.kill legs) s

/-- AX_FLTCTL.LATCH: FAULT_WAIT or TEST becomes LATCHED. -/
def latchAxis (a : Nat) (s : State) : State :=
  let st := s.get (AX_FLTSTAT.STATE a)
  if st = 1 || st = 2 then
    let s := updAlert a (s.put (AX_FLTSTAT.STATE a) 3)
    if st = 2 then killLegs (axisCoach a) (s.axisLegs a) s else s
  else s

end Sys2Proof.Machine
end

