-- ==== Sys2Proof/Machine/Operands.lean ====
section
/-!
DEFINITION. Machine/Operands.lean: what a written word asks of the fields of a register: the mask of an RWM register (R74),
reserved bits (R85), range checking and clamping (R87), and the record of a clamp; and the record of a bus error (R84).
-/

namespace Sys2Proof.Machine

/-! ### Bus errors, R84 -/

/-- The code of a bus error. -/
def BusErr.code : BusErr → Nat
  | .align => 1 | .reservedAddr => 2 | .reservedBit => 3 | .access => 4 | .domainOff => 5 | .linkErr => 6
  | .guard => 7 | .refused => 8 | .restricted => 9 | .parity => 10 | .xipWrite => 11

/-- The event source a bus error raises. -/
def BusErr.event : BusErr → Nat
  | .domainOff => 117 | .guard => 115 | .parity => 114 | .xipWrite => 113 | _ => 116

/-- Records a bus error and raises its event, R84: the first error since the record was cleared is kept, MORE notes a later
one, and every error counts. -/
def recordErr (m : Master) (addr : Nat) (e : BusErr) (s : State) : State :=
  let s :=
    if s.on GCTL_BUSERR.VALID then s.put GCTL_BUSERR.MORE 1
    else (((s.put GCTL_BUSERR.VALID 1).put GCTL_BUSERR.MASTER (masterCode m)).put GCTL_BUSERR.CODE e.code).put
      GCTL_BUSERRADDR.ADDR addr
  let s := s.inc GCTL_BUSERRCNT.COUNT
  if e.event = 113 then pendD4 113 0 0 s else pendSrc e.event s

/-- A failed access: recorded, and the error returned to the master. -/
def busFail (m : Master) (addr : Nat) (e : BusErr) (s : State) : State :=
  (recordErr m addr e s).answer m (.error e)

/-! ### The fields a write asks for -/

/-- A write after the checks on its fields: the new value of value fields, the W1C bits written 1, and the WO bits written. -/
structure WriteWord where
  val : Word
  clr : Word
  act : Word
deriving DecidableEq, Repr

/-- One clamp: the requested and the applied value, the width of a signed field, 0 for an unsigned one, and the field's lowest bit. -/
structure Clamp where
  req  : Nat
  app  : Nat
  bits : Nat := 0
  low  : Nat := 0
deriving DecidableEq, Repr

/-- The clamps of two checks made one after the other: a field both clamp makes one record, with the value first requested and the
value applied in the end, R87. -/
def mergeClamps (first second : List Clamp) : List Clamp :=
  let kept := first.filter fun c => second.all fun d => d.low ≠ c.low
  let moved := second.map fun d =>
    match first.find? fun c => c.low = d.low with
    | none => d
    | some c => { d with req := c.req }
  kept ++ moved.filter fun d => d.req ≠ d.app

/-- The clamp of a field's value, if it moved. -/
def clampOf (low req app : Nat) : List Clamp := if app = req then [] else [⟨req, app, 0, low⟩]

/-- The data mask of a write: bits [31:16] for an RWM register, every bit otherwise, R74. -/
def dataMask (d : RegDef) (v : Word) : Word := if d.masked then v >>> 16 else 0xFFFFFFFF

/-- The range of AFE_RREF, 1.0 to 1,000,000.0: binary32 codes of positive numbers are ordered as the numbers, and negative
numbers lie below the range. A not-a-number has no nearest legal value, so the legal value taken for it is free. -/
def clampRref (v : Nat) : Nat :=
  if 0x7F800000 < v % 0x80000000 then clampNat 0x3F800000 0x49742400 (Config.rrefOfNan v)
  else if 0x80000000 ≤ v then 0x3F800000
  else clampNat 0x3F800000 0x49742400 v

/-- A field value after clamping, or none if it is undefined in a command or coded field, R87. -/
def checkField (c : Check) (bits v : Nat) : Option Nat :=
  match c with
  | .any => some v
  | .range lo hi => some (clampNat lo hi v)
  | .srange lo hi => some (unsigned bits (clampInt lo hi (signed bits v)))
  | .codedTo hi => if v ≤ hi then some v else none
  | .cmd lo hi => if lo ≤ v ∧ v ≤ hi then some v else none
  | .nibbles lo hi =>
    some ((List.range 8).foldl (fun n i => n + 16 ^ i * clampNat lo hi (v / 16 ^ i % 16)) 0)
  | .band => some (if v = 0xFFFF then v else clampNat 1 20000 v)
  | .hspd =>
    let i := signed 16 v
    some (unsigned 16 (if i = 0 then 1 else clampInt (-2000) 2000 i))
  | .rref => some (clampRref v)

/-- The width of a signed quantity, 0 for any other field. -/
def FieldDef.signBits (f : FieldDef) : Nat :=
  match f.chk with
  | .srange _ _ => f.hi + 1 - f.lo
  | .hspd => f.hi + 1 - f.lo
  | _ => 0

/-- Checks the fields of a write one after another: the new word and the clamps made, or none if a coded or command value is
undefined. `v` already holds the merged value of masked fields. -/
def checkFields : List FieldDef → Word → Option (Word × List Clamp)
  | [], v => some (v, [])
  | f :: fs, v =>
    match checkFields fs v with
    | none => none
    | some (w, cl) =>
      if f.ty = .ro ∨ f.ty = .w1c then some (w, cl)
      else
        let x := wordField v f.hi f.lo
        match checkField f.chk (f.hi + 1 - f.lo) x with
        | none => none
        | some y => some (wordPut w f.hi f.lo y, if y = x then cl else ⟨x, y, f.signBits, f.lo⟩ :: cl)

/-- The order of two related fields after a write, R87: `lo + gap ≤ hi`. A write that changes one field moves that field; a
write that changes both moves the lower. Answers the two values. -/
def relate (oldLo lo hi gap : Nat) : Nat × Nat :=
  if lo + gap ≤ hi then (lo, hi)
  else if lo = oldLo then (lo, lo + gap)
  else (hi - gap, hi)

/-- The fields of a register two of whose fields are related, with the gap between them: lower field, upper field. -/
def relation : RegName → Option (Nat × Nat × Nat × Nat × Nat)
  | .AX_CSLIM => some (7, 0, 15, 8, 0)
  | .AFE_CFGC => some (7, 0, 15, 8, 0)
  | .SD_CFG => some (18, 16, 22, 20, 0)
  | .MGS_THCFG => some (7, 0, 15, 8, 5)
  | _ => none

/-- Band thresholds count 0xFFFF as above every value; the order of R160 is then plain. Clamps the two thresholds of a
RESBAND word in order, between the neighbours below and above. -/
def bandOrder (below above old2 v1 v2 : Nat) : Nat × Nat :=
  let x1 := clampNat below old2 v1
  let x2 := clampNat x1 above v2
  (x1, x2)

/-- The rules that relate fields of one register, R87, R160: the word, and the clamps they add. `old` is the word reads
return before the write. -/
def relateFields (l : Loc) (old w : Word) (s : State) : Word × List Clamp :=
  match l.defn.reg with
  | .AX_RESBAND0 =>
    let above := s.getLatest (AX_RESBAND1.V3 l.inst)
    let (a, b) := bandOrder 1 above (wordField old 31 16) (wordField w 15 0) (wordField w 31 16)
    (wordPut (wordPut w 15 0 a) 31 16 b, clampOf 0 (wordField w 15 0) a ++ clampOf 16 (wordField w 31 16) b)
  | .AX_RESBAND1 =>
    let below := s.getLatest (AX_RESBAND0.V2 l.inst)
    let (a, b) := bandOrder below 0xFFFF (wordField old 31 16) (wordField w 15 0) (wordField w 31 16)
    (wordPut (wordPut w 15 0 a) 31 16 b, clampOf 0 (wordField w 15 0) a ++ clampOf 16 (wordField w 31 16) b)
  | r =>
    match relation r with
    | none => (w, [])
    | some (lh, ll, hh, hl, gap) =>
      let (a, b) := relate (wordField old lh ll) (wordField w lh ll) (wordField w hh hl) gap
      (wordPut (wordPut w lh ll a) hh hl b, clampOf ll (wordField w lh ll) a ++ clampOf hl (wordField w hh hl) b)

/-- The value fields of a register. -/
def FieldDef.isValue (f : FieldDef) : Bool := f.ty ≠ .ro && f.ty ≠ .wo && f.ty ≠ .w1c

/-- What a write of `v` asks of a register whose value fields read `old`: none if a coded or command value is undefined. -/
def decodeWrite (l : Loc) (old v : Word) (s : State) : Option (WriteWord × List Clamp) :=
  let d := l.defn
  let dm := dataMask d v
  let wo := d.maskOf fun f => f.ty = .wo
  let data := if d.masked then (v &&& dm &&& 0xFFFF) ||| (old &&& ~~~ dm) else v
  match checkFields d.fields data with
  | none => none
  | some (w, cl) =>
    let (w, cl') := relateFields l old w s
    some (⟨w &&& d.maskOf FieldDef.isValue,
           v &&& dm &&& d.maskOf (fun f => f.ty = .w1c),
           w &&& wo &&& (if d.masked then dm &&& 0xFFFF else 0xFFFFFFFF)⟩, mergeClamps cl cl')

/-- A clamped value as a number. -/
def clampValue (bits n : Nat) : Int := if bits = 0 then (n : Int) else signed bits n

/-- A value saturated to 48 bits signed, R335. -/
def sat48 (x : Int) : Int := clampInt (-(2 ^ 47)) (2 ^ 47 - 1) x

/-- The clamp report, R335: the last 16 clamps, newest first; a register write is named by its address. -/
def reportClamp (addr : Nat) (c : Clamp) (s : State) : State :=
  let (src, ref) := s.net.clampSrc.getD (2, addr)
  let x : ClampRec := ⟨ref, src, sat48 (clampValue c.bits c.req), sat48 (clampValue c.bits c.app)⟩
  { s with net := { s.net with clamps := (x :: s.net.clamps).take 16, clampCnt := min 65535 (s.net.clampCnt + 1) } }

/-- Records one clamp, R87, and pends event 118. -/
def recordClamp (addr : Nat) (pair : Bool) (c : Clamp) (s : State) : State :=
  let s := if s.on GCTL_CLAMPADDR.VALID then s.put GCTL_CLAMPADDR.MORE 1 else s
  let s := (((s.put GCTL_CLAMPADDR.VALID 1).putB GCTL_CLAMPADDR.PAIR pair).put GCTL_CLAMPADDR.ADDR addr)
  let s := ((s.wr GCTL_CLAMPREQ (BitVec.ofNat 32 c.req)).wr GCTL_CLAMPAPP (BitVec.ofNat 32 c.app))
  let s := (s.wr GCTL_CLAMPREQHI (BitVec.ofNat 32 (c.req / 2 ^ 32))).wr GCTL_CLAMPAPPHI (BitVec.ofNat 32 (c.app / 2 ^ 32))
  pend 118 0 0 (reportClamp addr c s)

/-- Records the clamps of a write, in order. -/
def recordClamps (addr : Nat) (cl : List Clamp) (s : State) : State :=
  cl.foldl (fun s c => recordClamp addr false c s) s

end Sys2Proof.Machine
end

