-- ==== Sys2Proof/Machine/PlanOps.lean ====
section
/-!
DEFINITION. Machine/PlanOps.lean: the cost model (R216, R217), the duration and energy estimates (R218), the budgets (R214,
R215), and how a plan entry ends (R224, R227).
-/

namespace Sys2Proof.Machine

/-! ### Velocities, R160 and R167 -/

/-- The speed of a velocity, 2^-16 pu per tick. -/
def speedOf (v : Int) : Nat := v.natAbs / 2 ^ 24

/-- A speed in full steps/s as the hardware compares it, R160. -/
def speedTh (fs : Nat) : Nat := fs * 16777216 / 100000

/-- A speed in full steps/s as an internal velocity: the nearest register value of R167, shifted left by 24. -/
def velOfSteps (fs : Nat) : Nat := (fs * 16777216 + 50000) / 100000 * 2 ^ 24

/-- AX_VMAX, AX_AMAX, AX_DMAX, AX_QDMAX and AX_JERK in internal units, R167. -/
def State.vmax (s : State) (a : Nat) : Nat := s.get (AX_VMAX.VMAX a) * 2 ^ 24
def State.amax (s : State) (a : Nat) : Nat := s.get (AX_AMAX.ACC a) * 2 ^ 8
def State.dmax (s : State) (a : Nat) : Nat := s.get (AX_DMAX.ACC a) * 2 ^ 8
def State.qdmax (s : State) (a : Nat) : Nat := s.get (AX_QDMAX.ACC a) * 2 ^ 8
def State.jerk (s : State) (a : Nat) : Nat := s.get (AX_JERK.JERK a)
/-- |HSPD| as an internal velocity. -/
def State.hspd (s : State) (a : Nat) : Nat := velOfSteps (s.getI (AX_HOMECFG.HSPD a)).natAbs

/-- The integer position of an axis, R152. -/
def State.posOf (s : State) (a : Nat) : Int := (s.mo a).p / 2 ^ 24

/-- The target in force of a given target, R174. -/
def State.inLimits (s : State) (a : Nat) (t : Int) : Int :=
  if s.on (AX_LIMCFG.EN a) then clampInt (s.pair (AX_LIMN_LO a)) (s.pair (AX_LIMP_LO a)) t else t

/-! ### The cost model, R216 -/

/-- Nominal current scale CSN, R144: AX_CS kept within AX_CSLIM; with AX_TRIM.EN = 0 AX_CS itself. -/
def State.csn (s : State) (a : Nat) : Nat :=
  let cs := s.get (AX_CS.CS a)
  if s.on (AX_TRIM.EN a) then min (s.get (AX_CSLIM.CSMAX a)) (max (s.get (AX_CSLIM.CSMIN a)) cs) else cs

/-- The hold scale CS_HOLD, R150. -/
def State.csHold (s : State) (a : Nat) : Nat :=
  ((s.get (AX_CS.CS a) + 1) * s.get (AX_STANDSTILL.PCT a) + 50) / 100 - 1

/-- A rank temperature word (RK_THERM) as R95 takes it, in 0.0625 °C: clamped to −40 °C to 150 °C; 150 °C if invalid. -/
def thermOf (w : Word) : Int :=
  if w.getLsbD 31 then clampInt (-640) 2400 (signed 16 (wordField w 15 0)) else 2400

/-- A VM reading (CO_VM) in 10 mV, clamped to 8 V to 36 V. -/
def vmOf (w : Word) : Nat := clampNat 800 3600 (wordField w 15 0)

/-- What the cost model answers: whole mW, whole mA, and the power drawn as binary32 W. -/
structure Cost where
  mW : Nat
  mA : Nat
  watts : Word
deriving DecidableEq, Repr

/-- The cost of axis `a` at scale `cs` and speed `sp` (2^-16 pu per tick), with the rank temperature and VM words given, R216. -/
def State.costWith (s : State) (a cs sp : Nat) (therm vm : Word) : Cost :=
  let c := axisCoach a
  let n := legsPerEnd (s.topo (axisRank a) (axisHalf a))
  let icrest := f32Div (f32Mul (f32Mul (f32OfRat 9 10) (f32OfInt n)) (f32OfInt (cs + 1))) (f32OfInt 256)
  let dt := f32Sub (f32OfRat (thermOf therm) 16) (f32OfInt 25)
  let rpath := f32Div (f32Mul (f32OfInt 1) (f32Add (f32OfInt 1) (f32Mul (f32OfRat 6 1000) dt))) (f32OfInt n)
  let pcond := f32Mul (f32Mul icrest icrest) rpath
  let v := f32OfRat (vmOf vm) 100
  let tedge := f32OfRat (s.get (CO_SLEWTGT.TGT c)) (10 ^ 9)
  let fpwm := f32Div (f32OfInt 200000000) (f32OfInt (s.get (CO_PWMPER.PER c)))
  let psw := f32Mul (f32Mul (f32Mul (f32Mul (f32OfInt 4) v) icrest) tedge) fpwm
  let pdiss := f32Add pcond psw
  let pmot := f32Mul (f32Mul icrest icrest) (f32OfRat (s.get (PL_AXMOT.RMOT a)) 1000)
  let ke := s.get (AX_BEMFKE.KE a)
  let pmech := if ke = 0 then f32Zero false
    else f32Mul (f32Mul (f32OfRat ke (10 ^ 6)) (f32OfRat (sp * 100000) 16777216)) icrest
  let total := f32Add (f32Add pdiss pmot) pmech
  let ivm := f32Div total v
  ⟨(-(f32FloorMul pdiss (-1000))).toNat, (-(f32FloorMul ivm (-1000))).toNat, total⟩

/-- The cost with the temperature and VM of now. -/
def State.cost (s : State) (a cs sp : Nat) : Cost :=
  s.costWith a cs sp (s.rd (RK_THERM (axisRank a))) (s.rd (CO_VM (axisCoach a)))

/-- The live cost of axis `a`: mW and mA, R217. -/
def State.liveCost (s : State) (a : Nat) : Nat × Nat :=
  let flt := s.get (AX_FLTSTAT.STATE a)
  let st := s.get (AX_SSTAT.STATE a)
  if !s.enabled a || flt = 1 || flt = 3 then (0, 0)
  else
    let k : Option (Nat × Nat) :=
      if flt = 2 then some (s.get (AX_CS.CS a), 0)
      else if st = 0 then some ((s.se a).csEff, speedOf (s.mo a).v)
      else if st = 1 || st = 5 || st = 7 then some (s.get (AX_CS.CS a), 0)
      else if st = 4 then some (s.csHold a, 0)
      else none
    match k with
    | none => (0, 0)
    | some (cs, sp) => let c := s.cost a cs sp; (c.mW, c.mA)

/-- Whether axis `a` is a mover, R214. -/
def State.mover (s : State) (a : Nat) : Bool :=
  s.enabled a && (s.on (AX_STAT.MODEACT a) || s.get (AX_SSTAT.STATE a) = 7)

/-! ### Budgets, R214 and R215 -/

/-- The budgets of an axis: its side, its coach and the package. -/
def axisBudgets (a : Nat) : List Nat := [coachSide (axisCoach a), 2, 3 + axisCoach a]

/-- What an axis costs of budget `b`. -/
def costOf (b : Nat) (c : Nat × Nat) : Nat := if b < 2 then c.2 else c.1

/-- Configured value of budget `b`. -/
def State.budget (s : State) (b : Nat) : Nat :=
  if b = 0 then s.get PL_BUDGET_VMA.MA else if b = 1 then s.get PL_BUDGET_VMB.MA
  else if b = 2 then s.get PL_BUDGET_PKG.MW else s.get (PL_BUDGET_COACH.MW (b - 3))

/-- Whether coach `c` is on. -/
def State.coachOn (s : State) (c : Nat) : Bool := natBit (s.get GCTL_PWRSTAT.COACHON) c

/-- Highest temperature of a coach for derating, 0.0625 °C: 150 °C while no reading is valid, R215. -/
def State.coachTemp (s : State) (c : Nat) : Int :=
  if (List.range 8).any (fun k => s.on (CO_TEMP.VALID c k)) then s.getI (CO_TEMPMAX.TEMP c) else 2400

/-- The derating fraction f of a temperature as 1/400: clamp((145 − T)/25, 0, 1). -/
def derate (t : Int) : Nat := (clampInt 0 400 (2320 - t)).toNat

/-- The limit in force of budget `b`, R215. -/
def State.limit (s : State) (b : Nat) : Nat :=
  let cfg := s.budget b
  if b < 2 then cfg
  else
    let e := s.get PL_CFG.EFRAC
    let (num, den) := match s.get PL_CFG.POLICY with
      | 0 => (1, 1)
      | 1 => (e, 100)
      | _ => (100 + e, 200)
    let f :=
      if b = 2 then
        ((List.range 4).filter s.coachOn).foldl (fun f c => min f (derate (s.coachTemp c))) 400
      else derate (s.coachTemp (b - 3))
    cfg * num * f / (den * 400)

/-- The overhead that belongs to budget `b` now, R214. -/
def State.overhead (s : State) (b : Nat) : Nat :=
  if b < 2 then 0
  else if b = 2 then s.get PL_OVH.HUB + s.get PL_OVH.COACH * ((List.range 4).filter s.coachOn).length
  else if s.coachOn (b - 3) then s.get PL_OVH.COACH else 0

/-- The axes with a cost or a mover to count. -/
def State.enabledAxes (s : State) : List Nat := (List.range 128).filter s.enabled

/-- The live sum of budget `b`, R214. -/
def State.liveSum (s : State) (b : Nat) : Nat :=
  s.enabledAxes.foldl (fun n a => if b ∈ axisBudgets a then n + costOf b (s.liveCost a) else n) (s.overhead b)

/-- Movers in rank `r`, R214. -/
def State.moversIn (s : State) (r : Nat) : Nat :=
  (s.enabledAxes.filter fun a => decide (axisRank a = r) && s.mover a).length

/-- Movers allowed in rank `r`. -/
def State.rankLim (s : State) (r : Nat) : Nat := wordField (s.rd (PL_RANKLIM (r / 8))) (4 * (r % 8) + 3) (4 * (r % 8))

/-! ### Recipe entries, R211 -/

/-- Bits of a recipe word. -/
def State.rcp (s : State) (e w hi lo : Nat) : Nat := s.get ⟨PL_RCP0 e + 4 * w, hi, lo⟩
def State.rcpValid (s : State) (e : Nat) : Bool := s.rcp e 0 31 31 = 1
def State.rcpAxis (s : State) (e : Nat) : Nat := s.rcp e 0 30 24
def State.rcpRel (s : State) (e : Nat) : Bool := s.rcp e 0 23 23 = 1
def State.rcpChain (s : State) (e : Nat) : Bool := s.rcp e 0 22 22 = 1
def State.rcpHome (s : State) (e : Nat) : Bool := s.rcp e 0 21 21 = 1
def State.rcpAfter (s : State) (e : Nat) : Bool := s.rcp e 0 20 20 = 1
def State.rcpSkip (s : State) (e : Nat) : Bool := s.rcp e 0 19 19 = 1
def State.rcpPrio (s : State) (e : Nat) : Nat := s.rcp e 0 10 8
def State.rcpFirst (s : State) (e : Nat) : Nat := s.rcp e 2 11 0
/-- The 40-bit target of an entry. -/
def State.rcpTgt (s : State) (e : Nat) : Int := signed 40 (s.rcp e 1 31 0 + 2 ^ 32 * s.rcp e 0 7 0)
/-- A target move: neither CHAIN nor HOME. -/
def State.rcpMove (s : State) (e : Nat) : Bool := !s.rcpChain e && !s.rcpHome e
/-- The target an entry moves to from the present position, kept within the register range. -/
def State.rcpGoal (s : State) (e : Nat) : Int :=
  let t := if s.rcpRel e then s.posOf (s.rcpAxis e) + s.rcpTgt e else s.rcpTgt e
  clampInt (-(2 ^ 39 - 1)) (2 ^ 39 - 1) t

/-- The valid entries, in index order. -/
def State.validEntries (s : State) : List Nat := (List.range 128).filter s.rcpValid

/-- The candidate cost of an entry, R217. -/
def State.candidate (s : State) (e : Nat) : Nat × Nat :=
  let a := s.rcpAxis e
  let sp := if s.rcpHome e then s.hspd a / 2 ^ 24 else s.get (AX_VMAX.VMAX a)
  let c := s.cost a (s.csn a) sp
  (c.mW, c.mA)

/-! ### Segments, R178 -/

/-- The fields of a segment entry. -/
structure SegEntry where
  dpos  : Int
  dur   : Nat
  vend  : Int
  flags : Nat
  next  : Nat
  must0 : Bool
deriving DecidableEq, Repr

/-- Reads segment entry `i`. -/
def State.segEntry (s : State) (i : Nat) : SegEntry :=
  { dpos := signed 40 (s.get (SEG0.DPOSL i) + 2 ^ 32 * s.get (SEG1.DPOSH i))
    dur := s.get (SEG1.DUR i)
    vend := s.getI (SEG2.VEND i)
    flags := s.get (SEG3.FLAGS i)
    next := s.get (SEG3.NEXT i)
    must0 := s.get (SEG3.ZERO i) = 0 && s.get (SEG3.FLAGS i) / 32 = 0 }

/-- The chain error an entry read finds, R181: 0 for none. Of several codes the rule does not say which is recorded: a word that fails
parity comes first, then codes 1, 2 and 3 in order (DESIGN CHOICE, log entry 60). -/
def State.segError (s : State) (i : Nat) : Nat :=
  let x := s.segEntry i
  if (List.range 4).any fun w => s.isBad (SEG0 i + 4 * w) then 4
  else if x.dur = 0 then 1
  else if !x.must0 then 2
  else if 3355443 < x.vend.natAbs then 3
  else 0

/-- Where a chain goes after the segment `i` ends, R180: the next segment, or none when it ends; an error code 7 for a continuation
past the table. Each says the loops then left. -/
inductive ChainNext where
  | go (i loopLeft : Nat)
  | stop (loopLeft : Nat)
  | error (code loopLeft : Nat)
deriving DecidableEq, Repr

/-- The flags LOOP and LAST at the end of a segment, R180. -/
def chainNext (x : SegEntry) (i loops loopLeft : Nat) : ChainNext :=
  let loop := natBit x.flags 1
  let last := natBit x.flags 0
  if loop then
    if loops = 0 then .go x.next loopLeft
    else if 0 < loopLeft then .go x.next (loopLeft - 1)
    else if last then .stop loops
    else if i = 4095 then .error 7 loops else .go (i + 1) loops
  else if last then .stop loopLeft
  else .go x.next loopLeft

/-- The total duration of a chain with loops expanded, or none if it meets an error of R181 codes 1 to 3 or 7 or no LAST
within the fuel, R213 error 3 and R218. -/
def State.chainTicks (s : State) (loops : Nat) : Nat → Nat → Nat → Nat → Option Nat
  | 0, _, _, _ => none
  | fuel + 1, i, left, sum =>
    let err := s.segError i
    if err = 1 || err = 2 || err = 3 then none
    else
      let x := s.segEntry i
      match chainNext x i loops left with
      | .stop _ => some (sum + x.dur)
      | .error _ _ => none
      | .go j left' => s.chainTicks loops fuel j left' (sum + x.dur)

/-! ### Durations, R176 and R218 -/

/-- Whether `k × x × sqrt(x / j) ≤ num / den` exactly; j and den are positive. -/
def leSqrt (k x j : Nat) (num : Int) (den : Nat) : Bool :=
  if num < 0 then false
  else decide (k * k * x ^ 3 * den * den ≤ j * num.natAbs * num.natAbs)

/-- The rational part of dacc or ddec of R176, as numerator over 2 × acc × j, and whether the square-root form applies. -/
def rampPart (x acc j : Nat) : Nat × Bool :=
  if x * j ≤ acc * acc then (0, true) else (x * (acc * acc + x * j), false)

/-- Whether dacc(x) + ddec(x) ≤ d, R176. -/
def rampFits (x am dm j d : Nat) : Bool :=
  let (qa, ra) := rampPart x am j
  let (qd, rd) := rampPart x dm j
  let den := 2 * am * dm * j
  leSqrt (b2n ra + b2n rd) x j ((d * den : Nat) - ((qa * dm + qd * am : Nat) : Int)) den

/-- Largest x ≤ hi with p x, for p true below a point, searched over `bits` bits. -/
def searchTop (p : Nat → Bool) (hi : Nat) : Nat → Nat → Nat
  | 0, x => x
  | b + 1, x => searchTop p hi b (if x + 2 ^ b ≤ hi && p (x + 2 ^ b) then x + 2 ^ b else x)

/-- Least n below 2^bits with p n, for p true above a point; 2^bits when none. -/
def searchLeast (p : Nat → Bool) (bits : Nat) : Nat :=
  if p 0 then 0 else searchTop (fun n => !p n) (2 ^ bits) bits 0 + 1

/-- Least n with n² × j ≥ x: sqrt(x / j) rounded up. -/
def ceilSqrtDiv (x j : Nat) : Nat := searchLeast (fun n => decide (x ≤ n * n * j)) 40

/-- The plan durations of R176 for a distance d in 2^-40 pu: Tj, Ta, Tc, Tk, Td; none if no velocity fits. -/
def scurveTimes (d vm am dm j : Nat) : Option (Nat × Nat × Nat × Nat × Nat) :=
  let vp := searchTop (fun x => rampFits x am dm j d) vm 48 0
  if vp = 0 then none
  else
    let ramp (acc : Nat) : Nat × Nat :=
      let t1 := if vp * j ≤ acc * acc then ceilSqrtDiv vp j else ceilDiv acc j
      let t2 := if vp * j ≤ acc * acc then 0 else ceilDiv (vp * j - acc * acc) (acc * j)
      (max 1 t1, t2)
    let (tj, ta) := ramp am
    let (tk, td) := ramp dm
    let (qa, ra) := rampPart vp am j
    let (qd, rd) := rampPart vp dm j
    let den := 2 * am * dm * j
    let k := b2n ra + b2n rd
    -- Tc rounded up: least n with n vp ≥ d − dacc − ddec
    let rest (n : Nat) : Int := ((d * den : Nat) : Int) - ((qa * dm + qd * am : Nat) : Int) - ((n * vp * den : Nat) : Int)
    let enough (n : Nat) : Bool :=
      let r := rest n
      if r ≤ 0 then true else decide (j * r.natAbs * r.natAbs ≤ k * k * vp ^ 3 * den * den)
    some (tj, ta, searchLeast enough 80, tk, td)

/-- Ticks of a trapezoid over distance d (2^-40 pu) from rest, rounded up, R218. -/
def trapTicks (d v a b : Nat) : Nat :=
  if v * v * (a + b) ≤ 2 * a * b * d then ceilDiv (2 * a * b * d + v * v * (a + b)) (2 * a * b * v)
  else searchLeast (fun n => decide (2 * d * (a + b) ≤ n * n * (a * b))) 80

/-- Ticks of a homing, R218: the way `p` (2^-40 pu) at speed `v` and a trapezoid over distance `d` at that speed, rounded up as one
sum. -/
def homeTicks (p d v a b : Nat) : Nat :=
  if v * v * (a + b) ≤ 2 * a * b * d then ceilDiv (2 * a * b * (p + d) + v * v * (a + b)) (2 * a * b * v)
  else searchLeast (fun n => decide (p ≤ n * v) && decide (2 * d * (a + b) * v * v ≤ (n * v - p) * (n * v - p) * (a * b))) 80

/-- Ticks of the acceleration ramp of a trapezoid, rounded up, R219: vmax/amax, or vp/amax when vmax is not reached. -/
def trapRamp (d v a b : Nat) : Nat :=
  if v * v * (a + b) ≤ 2 * a * b * d then ceilDiv v a
  else searchLeast (fun n => decide (2 * d * b ≤ n * n * (a * (a + b)))) 80

/-- Distance of an entry's target move, 2^-40 pu, R218. -/
def State.entryDist (s : State) (e : Nat) : Nat :=
  let a := s.rcpAxis e
  let d := if s.rcpRel e then (s.rcpTgt e).natAbs else (s.inLimits a (s.rcpTgt e) - s.posOf a).natAbs
  d * 2 ^ 40

/-- Duration of an entry in ticks and its ramp, R218 and R219. -/
def State.entryTicks (s : State) (e : Nat) : Nat × Nat :=
  let a := s.rcpAxis e
  let st := s.get (AX_SSTAT.STATE a)
  let energ := if st = 2 || st = 6 then s.get (AX_STANDSTILL.ENERG a) else 0
  if s.rcpChain e then
    ((s.chainTicks (s.get (AX_LOOPS.LOOPS a)) 65536 (s.rcpFirst e) (s.get (AX_LOOPS.LOOPS a)) 0).getD 0 + energ, 0)
  else if s.rcpHome e then
    let v := s.hspd a
    (homeTicks (s.get (AX_HOMEMAX.MAX a) * 2 ^ 40) (s.get (AX_HOMEBACK.BACK a) * 2 ^ 40) v (s.amax a) (s.dmax a)
      + 100 * s.get (AX_HOMECFG.SETTLE a) + energ, 0)
  else
    let d := s.entryDist e
    let trap := (trapTicks d (s.vmax a) (s.amax a) (s.dmax a) + energ, trapRamp d (s.vmax a) (s.amax a) (s.dmax a))
    if s.jerk a = 0 then trap
    else match scurveTimes d (s.vmax a) (s.amax a) (s.dmax a) (s.jerk a) with
      | none => trap
      | some (tj, ta, tc, tk, td) => (2 * tj + ta + tc + 2 * tk + td + energ, 2 * tj + ta)

/-- Energy estimate in whole mJ of power `watts` over T ticks, times ef/256, R218. -/
def energyEst (watts : Word) (t ef : Nat) : Nat :=
  let e := f32Mul watts (f32OfRat t 100000)
  let e := f32Div (f32Mul e (f32OfInt ef)) (f32OfInt 256)
  (-(f32FloorMul e (-1000))).toNat

/-- The energy estimate of an entry, R218. -/
def State.entryEnergy (s : State) (e t : Nat) : Nat :=
  let a := s.rcpAxis e
  let learned := s.on PL_CFG.LEARN && s.on (PL_AXLRN.VALID a)
  let cs := if learned then s.get (PL_AXLRN.CSL a) else s.csn a
  let ef := if learned then s.get (PL_AXLRN.EF a) else 256
  energyEst (s.cost a cs (s.get (AX_VMAX.VMAX a))).watts t ef

/-! ### How an entry ends, R224 and R227 -/

/-- Planner state codes, R209. -/
def State.plState (s : State) : Nat := s.get PL_STAT.STATE

/-- Whether a plan is active, R209. -/
def State.planActive (s : State) : Bool := s.plState = 4 || s.plState = 5

/-- The entry that owns axis `a`, R223. -/
def State.ownerEntry (s : State) (a : Nat) : Option Nat := (s.pl.owned.find? fun p => p.1 = a).map (·.2)

/-- The state of entry `e` in PL_RES. -/
def State.entryState (s : State) (e : Nat) : Nat := s.get (PL_RES.STATE e)

/-- Learning at the end of a DONE entry of at least 1,000 ticks, R227, the last tick of its move included. -/
def learnEntry (e a : Nat) (s : State) : State :=
  let se := s.se a
  if se.csN < 1000 then s
  else
    let csl := se.csSum / se.csN
    let sp := s.get (AX_VMAX.VMAX a)
    let therm := BitVec.ofNat 32 (s.pl.heldT.getD (axisRank a) 0)
    let vm := BitVec.ofNat 32 (s.pl.heldVm.getD (axisCoach a) 0)
    let est : Int := Int.ofNat (energyEst (s.costWith a csl sp therm vm).watts (s.get (PL_RES_TEST.TEST e)) 256)
    let ef : Int := s.get (PL_AXLRN.EF a)
    -- (q − EF) / 4 with q = 256 × energy / estimate, rounded to nearest, halves away from zero
    let num := 256 * s.getI (AX_MOVEEN.E a) - ef * est
    let den := 4 * est
    let step := if den = 0 then 0 else (if num < 0 then -((-num * 2 + den) / (2 * den)) else (num * 2 + den) / (2 * den))
    let s := s.put (PL_AXLRN.CSL a) csl
    let s := s.put (PL_AXLRN.EF a) (clampInt 64 1024 (ef + step)).toNat
    s.put (PL_AXLRN.VALID a) 1

/-- Ends entry `e` in a state of PL_RES (3 DONE, 4 SKIPPED, 5 FAILED, 6 NOTRUN) with a reason, R224. -/
def endEntry (e st reason : Nat) (s : State) : State :=
  let ran : Bool := s.entryState e = 2
  let a := s.rcpAxis e
  let s := (((s.put (PL_RES.STATE e) st).put (PL_RES.REASON e) reason).put (PL_RES.HOLDER e) 0).put
    (PL_RES_END.END e) s.pl.tick
  let s := s.put PL_MAKESPAN.TICKS s.pl.tick
  let s := { s with pl := { s.pl with
    owned := s.pl.owned.filter (fun p => p.2 ≠ e)
    causes := s.pl.causes.filter (fun p => p.1 ≠ e) } }
  let s : State := if ran then
      let s := s.put (PL_RES_EACT.EACT e) (s.get (AX_MOVEEN.E a))
      s.putPair PL_ENERGY_LO (s.pair PL_ENERGY_LO + s.getI (AX_MOVEEN.E a))
    else s
  if st = 5 then
    let firstFail : Bool := decide (s.get PL_STAT.FAILCNT = 0)
    let s := s.inc PL_STAT.FAILCNT
    let s := if firstFail then s.put PL_EVINFO.FAILENT e else s
    if firstFail && s.on PL_CFG.FAILACT && s.plState = 4 && s.pl.abort = none
    then { s with pl := { s.pl with abort := some false } } else s
  else s

/-- Notes a cause of failure for the entry that owns axis `a`: a READY or WAITING entry fails at once, a RUNNING one when its
move ends, R223 and R224. -/
def planCause (a reason : Nat) (s : State) : State :=
  match s.ownerEntry a with
  | none => s
  | some e =>
    if s.entryState e = 2 then { s with pl := { s.pl with causes := s.pl.causes ++ [(e, s.pl.tick, reason)] } }
    else endEntry e 5 reason s

/-- The reason an entry fails with: the earliest cause in time, and the lowest code among causes of one tick, R224. -/
def firstCause (causes : List (Nat × Nat × Nat)) (e dflt : Nat) : Nat :=
  match causes.filter (fun c => c.1 = e) with
  | [] => dflt
  | c :: cs => (cs.foldl (fun b x => if x.2.1 < b.2.1 || (x.2.1 = b.2.1 && x.2.2 < b.2.2) then x else b) c).2.2

/-- Notes a cause of failure that concerns only a RUNNING entry, R224. -/
def planRunCause (a reason : Nat) (s : State) : State :=
  match s.ownerEntry a with
  | none => s
  | some e => if s.entryState e = 2 then planCause a reason s else s

/-- The move of axis `a` ended, DONE or not: its running plan entry ends, R224. -/
def planMoveEnd (a : Nat) (done : Bool) (s : State) : State :=
  match s.ownerEntry a with
  | none => s
  | some e =>
    if s.entryState e ≠ 2 then s
    else if done then
      let s := endEntry e 3 0 (s.put (PL_RES.LIMHIT e) (s.get (AX_EVT.LIMHIT a)))
      { s with pl := { s.pl with learn := s.pl.learn ++ [e] } }
    else endEntry e 5 (firstCause s.pl.causes e 4) s

end Sys2Proof.Machine
end

