-- ==== Sys2Proof/Machine/MotionOps.lean ====
section
/-!
DEFINITION. Machine/MotionOps.lean: the arithmetic of the profile engine (R168, R174, R176, R177, R179, R183) and what starts,
stops, halts, enables and disables an axis do to its state (R169 to R173, R180, R181, R185 to R188, R201, R207).
-/

namespace Sys2Proof.Machine

/-! ### Arithmetic of one step -/

/-- Position and velocity after a step. -/
structure PV where
  p : Int
  v : Int
deriving DecidableEq, Repr

/-- The step of R168 with acceleration `a`. -/
def advance (p v a : Int) : PV := ⟨p + (v + (v + a)) / 2 ^ 17, v + a⟩

/-- Quotient rounded toward plus infinity. -/
def ceilQ (n d : Nat) : Nat := ceilDiv n d

/-- Speed left after one braking step onto a point `r` (2^-24 pu) ahead, R174: w − w²/(2r), the quotient rounded up; none when
the step lands on it. -/
def brakeSpeed (w r : Nat) : Option Nat := if r * 2 ^ 16 ≤ w then none else some (w - ceilQ (w * w) (2 * r * 2 ^ 16))

/-- One tick of a trapezoid toward `target`, R174; the flag is true when the move ends. -/
def trapStep (p v target : Int) (vmax amax dmax : Nat) : PV × Bool :=
  let r := target - p
  if v = 0 ∧ r = 0 then (⟨target, 0⟩, true)
  else
    let dir : Int := if v = 0 then (if r < 0 then -1 else 1) else (if v < 0 then -1 else 1)
    let w : Nat := v.natAbs
    -- distance in 2^-40 pu, signed along the direction of travel
    let rr : Int := r * dir * 2 ^ 16
    let move (wn : Nat) : PV × Bool := (advance p v (((wn : Int) - w) * dir), false)
    if 0 < w ∧ 2 * (dmax : Int) * rr < w * w then move (w - dmax)
    else
      let wa : Nat := if w < vmax then min vmax (w + amax) else max vmax (w - dmax)
      if (dmax : Int) * (2 * rr - (w + wa)) ≥ wa * wa then move wa
      else if 0 < w ∧ w ≤ vmax ∧ 2 * (dmax : Int) * (rr - w) ≥ w * w then move w
      else if w = 0 ∨ rr ≤ w then (⟨target, 0⟩, true)
      else move (w - ceilQ (w * w) (2 * rr.toNat))

/-- Velocity after one step of velocity mode, R177. -/
def velStep (v vt : Int) (amax dmax : Nat) : Int :=
  if v = 0 ∨ (0 < v * vt ∧ v.natAbs < vt.natAbs) then
    if v ≤ vt then min vt (v + amax) else max vt (v - amax)
  else if v < vt then
    let n := min vt (v + dmax)
    if v < 0 ∧ 0 < n then 0 else n
  else
    let n := max vt (v - dmax)
    if 0 < v ∧ n < 0 then 0 else n

/-- Quotient of integers, the denominator positive, rounded to nearest with halves up. -/
def roundHalfUp (n : Int) (d : Nat) : Int := (2 * n + d) / (2 * d : Nat)

/-- Tick `n` of a segment, R179. -/
def segPV (g : SegRun) (n : Nat) : PV :=
  if n = g.dur then ⟨g.p0 + g.dpos * 2 ^ 24, g.vend * 2 ^ 24⟩
  else
    let dur : Int := g.dur
    let dp : Int := g.dpos * 2 ^ 40
    let ve : Int := g.vend * 2 ^ 24
    let k2 : Int := (3 * dp - (2 * g.v0 + ve) * dur) * dur
    let k3 : Int := (g.v0 + ve) * dur - 2 * dp
    let d3 : Nat := g.dur * g.dur * g.dur
    let m : Int := n
    ⟨roundHalfUp (g.p0 * 2 ^ 16 * d3 + g.v0 * m * d3 + k2 * m * m + k3 * m * m * m) (d3 * 2 ^ 16),
     roundHalfUp (g.v0 * d3 + 2 * k2 * m + 3 * k3 * m * m) d3⟩

/-- Position and velocity at tick `n` of an S-curve plan, R176: each phase evaluated exactly, then rounded as R179. Quantities
are fractions of vq = 2d / (2Tj + Ta + 2Tc + 2Tk + Td). -/
def scurvePV (c : Scurve) : PV :=
  let n := c.n
  let len := 2 * c.tj + c.ta + c.tc + 2 * c.tk + c.td
  let dd : Int := c.d * 2 ^ 16
  -- shape of a ramp of phases (j, a, j): covered time × vq as (num, 6 j (j + a)), velocity as (num, 2 j (j + a))
  let shape (j a t : Nat) : Int × Int :=
    let jj : Int := j
    let aa : Int := a
    let x : Int := t
    if t ≤ j then (x * x * x, x * x)
    else if t ≤ j + a then
      let m := x - jj
      (jj * (jj * jj + 3 * jj * m + 3 * m * m), jj * (jj + 2 * m))
    else
      let u : Int := 2 * jj + aa - x
      -- by symmetry about the middle of the ramp
      (6 * jj * (jj + aa) * (x - (2 * jj + aa)) + 3 * jj * (jj + aa) * (2 * jj + aa) + u * u * u,
        2 * jj * (jj + aa) - u * u)
  let den : Nat := 2 * c.tj + c.ta + 2 * c.tc + 2 * c.tk + c.td
  let da : Nat := 6 * c.tj * (c.tj + c.ta)
  let db : Nat := 6 * c.tk * (c.tk + c.td)
  if len ≤ n then ⟨c.p0 + c.d, 0⟩
  else
    let t1 := 2 * c.tj + c.ta
    let (pn, vn) : Int × Int :=
      if n ≤ t1 then
        let (x, y) := shape c.tj c.ta n
        (x * db, y * 3 * db)
      else if n ≤ t1 + c.tc then
        let x : Int := (n : Int) - t1
        ((6 * x + 3 * (t1 : Int)) * c.tj * (c.tj + c.ta) * db, (da * db : Nat))
      else
        let u : Nat := len - n
        let (x, y) := shape c.tk c.td u
        -- whole distance less what the mirrored deceleration still covers
        ((den : Int) * c.tj * (c.tj + c.ta) * 3 * db - x * da, y * 3 * da)
    ⟨c.p0 + roundHalfUp (2 * dd * pn) (den * da * db * 2 ^ 16), roundHalfUp (2 * dd * vn) (den * da * db)⟩

/-- What the guard of R183 decides about a proposed step. -/
inductive GuardOut where
  | accept
  | qstop
  /-- v = 0 before the step: keep p and end. -/
  | hold
  | land (limit : Int)
  /-- Brake onto the limit; the flag is LIMQ. -/
  | brake (limit : Int) (q : Bool)
deriving DecidableEq, Repr

/-- The limit guard of R183 for limits LIMN and LIMP (pu). -/
def guardStep (p v vNew : Int) (limn limp : Int) (dmax qdmax : Nat) : GuardOut :=
  if vNew = 0 then .accept
  else
    let l : Int := (if 0 < vNew then limp else limn) * 2 ^ 24
    let beyond : Bool := if 0 < vNew then decide (l < p) else decide (p < l)
    if beyond then .qstop
    else
      let w := v.natAbs
      let wn := vNew.natAbs
      let rr : Nat := (l - p).natAbs * 2 ^ 16
      if (dmax : Int) * (2 * (rr : Int) - (w + wn)) ≥ wn * wn then .accept
      else if w = 0 then .hold
      else if 2 * rr * qdmax < w * w then .qstop
      else if rr ≤ w then .land l
      else .brake l (decide (2 * rr * dmax < w * w))

/-! ### Queries -/

/-- A disable of the axis is pending, R170. -/
def State.disPending (s : State) (a : Nat) : Bool := s.on (AX_STAT.DISPEND a) || (s.mo a).disNext

/-- Velocity not 0 or a stop in progress. -/
def State.inMotion (s : State) (a : Nat) : Bool := (s.mo a).v ≠ 0 || s.on (AX_STAT.STOPKIND a)

/-- The axis is in standstill: velocity 0, no stop, no start delay, active mode not 5 (the definition above R147). -/
def State.atStandstill (s : State) (a : Nat) : Bool :=
  s.enabled a && !s.inMotion a && !(s.get (AX_SSTAT.STATE a) = 7 && (s.mo a).afterEnerg = .move)
    && s.get (AX_STAT.MODEACT a) ≠ 5

/-- Whether the axis slot has work, as defined above R51: velocity, a stop, an unfinished plan entry, or an accepted start that
has not taken effect. -/
def State.hasWork (s : State) (a : Nat) : Bool :=
  s.inMotion a || (s.planActive && (s.ownerEntry a).isSome)
    || (s.mo a).reqs.any fun r => r = .start || r = .gateStart

/-- Whether the source axis chain of a follow start returns to the axis, R171. -/
def State.followLoop (s : State) (a : Nat) : Nat → Nat → Bool
  | 0, _ => false
  | fuel + 1, b =>
    if s.getLatest (AX_FOLLOW.SRC b) ≠ 2 then false
    else
      let c := s.getLatest (AX_FOLLOW.AXIS b)
      if c = a then true
      else if s.getLatest (AX_MODE.MODE c) = 4 || s.get (AX_STAT.MODEACT c) = 4 then s.followLoop a fuel c
      else false

/-- Outcome of a start request, R171. -/
inductive StartOut where
  | ignored (reason : Nat) | refused | armed | starts
deriving DecidableEq, Repr

/-- The first row of the table of R171 that applies; `gate` ignores AX_STARTCFG.SRC (R222). -/
def State.startOutcome (s : State) (a : Nat) (gate : Bool) : StartOut :=
  if s.absent a then .ignored 1
  else if s.on (AX_FLTSTAT.STATE a) then .refused
  else if !s.enabled a then .ignored 2
  else if s.on (AX_STAT.HALTED a) || s.disPending a then .refused
  else
    let m := s.getLatest (AX_MODE.MODE a)
    if m = 0 then .ignored 3
    else if m = 5 && (s.mo a).v ≠ 0 then .ignored 4
    else if m = 4 && s.followLoop a 128 a then .refused
    else if s.getLatest (AX_STARTCFG.SRC a) ≠ 0 && !gate then .armed
    else .starts

/-! ### Events of one axis -/

/-- Sets DONE, STOPPED or SEGEV and raises AXIS_DONE, once per axis and tick (R189). -/
def raiseDone (a : Nat) (f : Fld) (s : State) : State :=
  let s := s.put f 1
  if (s.mo a).said then s else pendDone a (s.modMo a fun m => { m with said := true })

/-- Ends homing with an error if it is in progress, R201. -/
def homeAbort (a err : Nat) (s : State) : State :=
  if s.on (AX_HOMEST.STATE a) then
    planRunCause a 8 (updAlert a ((s.put (AX_HOMEST.STATE a) 0).put (AX_HOMEST.ERR a) err))
  else s

/-- A start replaces a homing in progress, R172: the homing ends with error 3, but it is no cause for the plan entry that starts. That a
replaced homing reports error 3 is not stated (DESIGN CHOICE, log entry 60). -/
def homeReplaced (a : Nat) (s : State) : State :=
  if s.on (AX_HOMEST.STATE a) then updAlert a ((s.put (AX_HOMEST.STATE a) 0).put (AX_HOMEST.ERR a) 3) else s

/-- Writes AX_MOVEEN and AX_EPFS for the move in progress, R207. -/
def closeMove (a : Nat) (s : State) : State :=
  let mo := s.mo a
  if mo.moving then
    let e := mo.energy - mo.eStart
    let f := (mo.p / 2 ^ 24 - mo.pStart).natAbs / 256
    let q : Int := if f = 0 then -1 else e / (10 ^ 5 * f : Nat)
    let s := s.modMo a fun m => { m with moving := false }
    let s := s.putI (AX_MOVEEN.E a) (clampInt (-(2 ^ 31)) (2 ^ 31 - 1) (e / 10 ^ 8))
    s.put (AX_EPFS.EPFS a) (if q < 0 ∨ 0xFFFFFE < q then 0xFFFFFF else q.toNat)
  else s

/-- The move of axis `a` ends: the active mode returns to 0, R172. -/
def endMove (a : Nat) (done : Bool) (s : State) : State :=
  let was : Bool := (s.mo a).moving
  let s := (((s.put (AX_STAT.MODEACT a) 0).put (AX_STAT.TGTPEND a) 0).put (AX_STAT.TRAP a) 0).put (AX_STAT.WAITING a) 0
  let s := s.modMo a fun m => { m with
    run := .idle
    afterEnerg := if m.afterEnerg = .move then .modeState else m.afterEnerg }
  let s := closeMove a s
  if was then planMoveEnd a done s else s

/-- A new stretch of travel begins, R195: a standstill, halt, disable or reversal separates its window results from the earlier ones.
While windows placed before are still to be evaluated, the stretches are told apart by number. -/
def Sense.cut (e : Sense) : Sense :=
  if e.tags.isEmpty && e.evals.isEmpty then { e with results := [] } else { e with era := e.era + 1 }

/-- The estimator pairs no window result of axis `a` across this moment, R195. -/
def clearResults (a : Nat) (s : State) : State := s.modSe a Sense.cut

/-- A halt, R186 and R187; `fault` for a halt from a fault, a coupling loss or a parity failure. -/
def haltNow (a : Nat) (fault : Bool) (s : State) : State :=
  let mo := s.mo a
  let lost : Bool := fault || decide (speedTh (s.get (AX_HALTCFG.LOSTSPD a)) ≤ speedOf mo.v) || s.on (AX_USTAT.BAND a)
  let s := homeAbort a 3 s
  let s := s.modMo a fun m => { m with v := 0, acc := 0, faultHalt := fault, disNext := m.disNext || s.on (AX_STAT.DISPEND a) }
  let s := (((((s.put (AX_STAT.STOPKIND a) 0).put (AX_STAT.ARMED a) 0).put (AX_STAT.MOVING a) 0).put (AX_STAT.HALTED a) 1).put
    (AX_VEL.VEL a) 0).put (AX_ACC.ACC a) 0
  let s := ((s.put (AX_USTAT.BAND a) 0).put (AX_USTAT.TGT a) 0).put (AX_USTAT.PEND a) 0
  let s := applyIf lost (·.put (AX_STAT.PML a) 1) s
  let s := (clearResults a s).put (AX_STALLST.CNT a) 0
  let s := s.modSe a fun e => { e with fresh := true }
  updAlert a (endMove a false s)

/-- A disable takes effect, R170: it ends every standstill state and any move; position and configuration stay. An axis it finds in
FAULT_WAIT or TEST is latched, R125. -/
def disableNow (a : Nat) (s : State) : State :=
  let s := homeAbort a 3 (latchAxis a s)
  let s := s.modMo a fun m => { m with
    v := 0, acc := 0, disNext := false, orderQ := false, orderH := false, forcePark := false, parkHeld := false
    still := false, stillAt := none, stallAct := none }
  let s := ((((((s.put (AX_STAT.ENABLED a) 0).put (AX_STAT.DISPEND a) 0).put (AX_STAT.ARMED a) 0).put
    (AX_STAT.STOPKIND a) 0).put (AX_STAT.MOVING a) 0).put (AX_VEL.VEL a) 0).put (AX_ACC.ACC a) 0
  let s := s.putBitAt (AXEN (a / 32)) (a % 32) false
  let s := (clearResults a s).put (AX_STALLST.CNT a) 0
  let s := endMove a false s
  let s := s.modMo a fun m => { m with afterEnerg := .none }
  s.put (AX_SSTAT.STATE a) 0

/-- A halt at a tick: velocity is 0 from that tick, so a disable that waits for it takes effect there, R170. -/
def haltTick (a : Nat) (s : State) : State :=
  let s := haltNow a false s
  if s.on (AX_STAT.DISPEND a) then disableNow a s else s

/-- Precedence of a kind of stop, R185. -/
def stopRank (kind : Nat) : Nat := if kind = 2 then 3 else if kind = 3 then 2 else if kind = 0 then 0 else 1

/-- A stop of any kind completes, R185: STOPPED unless it was a limit brake, and a pending disable takes effect. -/
def stopDone (a : Nat) (s : State) : State :=
  let kind := s.get (AX_STAT.STOPKIND a)
  let s := s.put (AX_STAT.STOPKIND a) 0
  let s := if kind = 3 then s else raiseDone a (AX_EVT.STOPPED a) s
  let s := endMove a false s
  if s.on (AX_STAT.DISPEND a) then disableNow a s else s

/-- Begins a stop of a kind, unless one of the same or higher precedence is in progress; at v = 0 it completes at once, R185. -/
def beginStop (a kind : Nat) (run : Run) (s : State) : State :=
  if !s.enabled a || s.on (AX_STAT.HALTED a) || stopRank kind ≤ stopRank (s.get (AX_STAT.STOPKIND a)) then s
  else
    let s := homeAbort a 3 s
    let s := (s.put (AX_STAT.STOPKIND a) kind).put (AX_STAT.WAITING a) 0
    let s := (s.put (AX_STAT.TGTPEND a) 0).modMo a fun m => { m with run := run }
    if (s.mo a).v = 0 then stopDone a s else s

/-- Quick stop, R185. -/
def quickStop (a : Nat) (s : State) : State := beginStop a 2 .qstop s

/-- A chain error, R181: the chain ends and the axis is quick-stopped. -/
def chainError (a code : Nat) (s : State) : State :=
  let s := (s.put (AX_EVT.CHAINERR a) 1).put (AX_EVT.ERRCODE a) code
  quickStop a (planRunCause a 7 (updAlert a s))

/-- An uncorrectable error in segment entry `i` is recorded and pends event 114, R156 and R178. -/
def segEcc (i : Nat) (s : State) : State :=
  let n := (List.range 4).find? fun w => s.isBad (SEG0 i + 4 * w)
  pend 114 0 0 (if s.on GCTL_PARERR.VALID then s.put GCTL_PARERR.MORE 1
    else (s.put GCTL_PARERR.VALID 1).put GCTL_PARERR.ADDR (SEG0 i + 4 * n.getD 0))

/-- A chain error found at the read of entry `i`, R181. -/
def segRefused (a i code : Nat) (s : State) : State := chainError a code (applyIf (code = 4) (segEcc i) s)

/-- The stop requested by CMD STOP, R185: at dmax, or the stop segment in a chain with STOPEN = 1, which AX_CHAINST.SEG then shows. -/
def stopCmd (a : Nat) (s : State) : State :=
  if s.get (AX_STAT.MODEACT a) = 3 && s.on (AX_CHAIN.STOPEN a) && (s.mo a).v ≠ 0
      && s.get (AX_STAT.STOPKIND a) = 0 && !s.on (AX_STAT.HALTED a) then
    let i := s.get (AX_CHAIN.STOPSEG a)
    let err := s.segError i
    let x := s.segEntry i
    if err ≠ 0 then segRefused a i err s
    else
      let mo := s.mo a
      let sg : Int := if mo.v < 0 then -1 else 1
      beginStop a 4 (.stopSeg ⟨i, 0, mo.p, mo.v, sg * x.dpos, x.dur, sg * x.vend, x.flags, x.next⟩)
        (s.put (AX_CHAINST.SEG a) i)
  else beginStop a 1 .stop s

/-! ### Starts, R172 -/

/-- An ignored start is counted, R171. -/
def ignoreStart (a reason : Nat) (s : State) : State :=
  (s.inc (AX_STARTSTAT.IGNCNT a)).put (AX_STARTSTAT.LASTREJ a) reason

/-- The target in force and whether it was clamped, R174. -/
def State.target (s : State) (a : Nat) : Int × Bool :=
  let t := s.pair (AX_TGT_LO a)
  let u := s.inLimits a t
  (u, u ≠ t)

/-- Plans a target move from the present position, R174 and R176. -/
def planTarget (a : Nat) (s : State) : State :=
  let mo := s.mo a
  let (t, clamped) := s.target a
  let d := t * 2 ^ 24 - mo.p
  let jerky : Bool := s.jerk a ≠ 0
  let s := s.put (AX_STAT.TRAP a) 0
  if !jerky || d = 0 && mo.v = 0 then s.modMo a fun m => { m with run := .target }
  else if mo.v ≠ 0 then (s.put (AX_STAT.TRAP a) 1).modMo a fun m => { m with run := .target }
  else match scurveTimes (d.natAbs * 2 ^ 16) (s.vmax a) (s.amax a) (s.dmax a) (s.jerk a) with
    | none => (s.put (AX_STAT.TRAP a) 1).modMo a fun m => { m with run := .target }
    | some (tj, ta, tc, tk, td) =>
      s.modMo a fun m => { m with run := .scurve ⟨m.p, d, tj, ta, tc, tk, td, 0, clamped⟩ }

/-- Change of a motion count since the last tick, modulo 2^32, R235: the snapshot holds the count at that tick. -/
def State.countChange (s : State) (addr : Nat) : Int :=
  signed 32 (unsigned 32 ((s.rd addr).toNat - (s.snapWord addr).toNat : Int))

/-- The integer position of an axis at the last snapshot. -/
def State.posSnap (s : State) (a : Nat) : Int :=
  signed 64 ((s.snapWord (AX_POS_LO a)).toNat + 2 ^ 32 * (s.snapWord (AX_POS_HI a)).toNat)

/-- Whether the follow source gives changes: enabled, and present for an axis, R182. -/
def State.followOn (s : State) (a : Nat) : Bool :=
  let ch := s.get (AX_FOLLOW.CH a)
  match s.get (AX_FOLLOW.SRC a) with
  | 0 => s.on (STEP_CFG.EN ch)
  | 1 => s.on (ENC_CFG.EN ch)
  | _ =>
    let b := s.get (AX_FOLLOW.AXIS a)
    s.enabled b && !s.absent b

/-- Change of the follow source of an axis since the previous tick, R182: of a motion count, or of an axis's position at the previous
tick's snapshot; 0 from a source that gives none. -/
def State.followChange (s : State) (a : Nat) : Int :=
  let ch := s.get (AX_FOLLOW.CH a)
  let b := s.get (AX_FOLLOW.AXIS a)
  if !s.followOn a then 0
  else match s.get (AX_FOLLOW.SRC a) with
    | 0 => s.countChange (STEP_MCNT ch)
    | 1 => s.countChange (ENC_MCNT ch)
    | _ => s.posSnap b - (s.mo b).posLast

/-- The first step is delayed by ENERG ticks when the axis leaves OFF or PARKED, R149; otherwise it is MOVING. A start in an ENERGISE that
a write of AX_STANDSTILL began goes on with its count, and a move stopped in its start delay ends in the mode state without DELAY
(DESIGN CHOICE, log entry 60). -/
def leaveStandstill (a : Nat) (s : State) : State :=
  let st := s.get (AX_SSTAT.STATE a)
  if (st = 2 || st = 6) && s.on (AX_STANDSTILL.ENERG a) || st = 7 then
    (s.put (AX_SSTAT.STATE a) 7).modMo a fun m => { m with afterEnerg := .move }
  else s.put (AX_SSTAT.STATE a) 0

/-- A start takes effect, R172: the landed AX_MODE becomes the active mode. A move it replaces ends with it, R207: AX_MOVEEN and AX_EPFS
are set (DESIGN CHOICE, log entry 60). -/
def startNow (a : Nat) (s : State) : State :=
  let mode := s.get (AX_MODE.MODE a)
  if mode = 0 then ignoreStart a 3 s
  else
    let s := closeMove a (homeReplaced a s)
    let s := (((((s.put (AX_STAT.MODEACT a) mode).put (AX_STAT.STOPKIND a) 0).put (AX_STAT.ARMED a) 0).put
      (AX_STAT.WAITING a) 0).put (AX_STAT.TGTPEND a) 0).put (AX_STAT.TRAP a) 0
    let s := updAlert a ((s.put (AX_STALLST.STALL a) 0).put (AX_STALLST.CNT a) 0)
    let s := s.modSe a fun e => { e with csEff := s.csn a, fallCnt := 0, stallCs := false, csSum := 0, csN := 0 }
    let s := s.modMo a fun m => { m with moving := true, pStart := m.p / 2 ^ 24, eStart := m.energy }
    let s := if s.on (AX_STARTCFG.SYNCOUT a) then { s with syncOut := true } else s
    let s := leaveStandstill a s
    if mode = 1 then planTarget a s
    else if mode = 2 then s.modMo a fun m => { m with run := .velocity }
    else if mode = 3 then
      (s.put (AX_LOOPS.LOOPLEFT a) (s.get (AX_LOOPS.LOOPS a))).modMo a fun m => { m with run := .segNext (s.get (AX_CHAIN.FIRST a)) }
    else if mode = 4 then
      s.modMo a fun m => { m with run := .follow m.p 0 }
    else
      let s := ((s.put (AX_HOMEST.HOMED a) 0).put (AX_HOMEST.ERR a) 0).put (AX_HOMEST.STATE a) 1
      let s := updAlert a s
      let s := s.modMo a fun m => { m with run := .homeRamp m.p }
      if (s.getI (AX_HOMECFG.HSPD a)).natAbs < s.get (AX_BEMFSPD.MINSPD a) || !s.on (AX_BEMFCFG.EN a)
      then quickStop a (homeAbort a 1 s) else s

/-- Whether a start that was accepted can take effect at this tick: none in the device safe state, R291. -/
def State.canStart (s : State) (a : Nat) : Bool :=
  !s.trio.safeIn && s.enabled a && !s.on (AX_STAT.HALTED a) && !s.on (AX_STAT.DISPEND a) && !s.on (AX_FLTSTAT.STATE a)

/-! ### Enables, R169 -/

/-- The conditions of R169 that refuse an enable. -/
def State.enableRefused (s : State) (a : Nat) : Bool :=
  !s.coachOn (axisCoach a) || s.absent a
    || natBit (s.get (RK_STAT.MODEPEND (axisRank a))) (axisHalf a)
    || (s.axisLegs a).any (fun l => s.on (LEG_TEST.OVR l))
    || s.on (AX_FLTSTAT.STATE a)
    || s.on (WAVE_CTL.LOAD (s.get (AX_WAVESEL.TABLE a))) || s.on (WAVE_CTL.LOAD (s.getLatest (AX_WAVESEL.TABLE a)))
    || s.disPending a

/-- The table address of a grid position, R152. -/
def State.tableAddr (s : State) (a : Nat) (pos : Int) : Nat := unsigned 10 (if s.on (AX_WAVESEL.INV a) then -pos else pos)

/-- An enable takes effect, R169: velocity 0, idle, band 0 and the address P (R164), DIR up; a recognised low on HALT_N halts the
axis (R306). -/
def enableNow (a : Nat) (s : State) : State :=
  let s := s.modMo a fun m => { m with
    v := 0, acc := 0, run := .idle, enPend := false, forcePark := false, parkHeld := false, afterEnerg := .none }
  let s := (s.put (AX_STAT.ENABLED a) 1).put (AX_STAT.MODEACT a) 0
  let s := ((s.put (AX_USTAT.BAND a) 0).put (AX_USTAT.TGT a) 0).put (AX_USTAT.PEND a) 0
  let s := (s.put (AX_SSTAT.DIR a) 1).put (AX_SSTAT.STATE a) 0
  let s := s.put (AX_USTAT.ADDR a) (s.tableAddr a (s.posOf a))
  let s := s.modSe a fun e => { e.cut with fresh := true, ffEff := s.get (AX_DECAY.FF a), addrPos := s.posOf a }
  if !s.on EV_PIN.HALTN && s.on (AX_HALTCFG.PIN a) then haltNow a false (planCause a 4 s) else s

/-- A pending enable at its tick: made, or dropped when a condition of R169 has arisen or the device is in its safe state, R291. -/
def landEnable (a : Nat) (s : State) : State :=
  if (s.mo a).enPend then
    if s.enableRefused a || s.trio.safeIn then
      (s.putBitAt (AXEN (a / 32)) (a % 32) false).modMo a fun m => { m with enPend := false }
    else enableNow a s
  else s

end Sys2Proof.Machine
end

