-- ==== Sys2Proof/Machine/Trig.lean ====
section
/-!
DEFINITION. Machine/Trig.lean: the sine and the arc tangent that R195 names. Sine arguments are multiples of one table address
(360°/1024), so the binary32 sine is a table of a quarter cycle, each entry the mathematical value rounded to nearest (DEDUCED).
The angle is found by comparing the quotient of the two coordinates with the tangents of the quarter-degree boundaries.
-/

namespace Sys2Proof.Machine

/-- Part 0 of sinQuarter. -/
def sinQuarter0 : List Nat := [
  0x00000000, 0x3BC90F88, 0x3C490E90, 0x3C96C9B6, 0x3CC90AB0, 0x3CFB49BA, 0x3D16C32C, 0x3D2FE007, 0x3D48FB30,
  0x3D621469, 0x3D7B2B74, 0x3D8A200A, 0x3D96A905, 0x3DA3308C, 0x3DAFB680, 0x3DBC3AC3, 0x3DC8BD36, 0x3DD53DB9,
  0x3DE1BC2E, 0x3DEE3876, 0x3DFAB273, 0x3E039502, 0x3E09CF86, 0x3E1008B7, 0x3E164083, 0x3E1C76DE, 0x3E22ABB6,
  0x3E28DEFC, 0x3E2F10A2, 0x3E354098, 0x3E3B6ECF, 0x3E419B37, 0x3E47C5C2, 0x3E4DEE60, 0x3E541501, 0x3E5A3997,
  0x3E605C13, 0x3E667C66, 0x3E6C9A7F, 0x3E72B651, 0x3E78CFCC, 0x3E7EE6E1, 0x3E827DC0, 0x3E8586CE, 0x3E888E93,
  0x3E8B9507, 0x3E8E9A22, 0x3E919DDD, 0x3E94A031, 0x3E97A117, 0x3E9AA086, 0x3E9D9E78, 0x3EA09AE5, 0x3EA395C5,
  0x3EA68F12, 0x3EA986C4, 0x3EAC7CD4, 0x3EAF713A, 0x3EB263EF, 0x3EB554EC, 0x3EB8442A, 0x3EBB31A0, 0x3EBE1D4A,
  0x3EC1071E]

/-- Part 1 of sinQuarter. -/
def sinQuarter1 : List Nat := [
  0x3EC3EF15, 0x3EC6D529, 0x3EC9B953, 0x3ECC9B8B, 0x3ECF7BCA, 0x3ED25A09, 0x3ED53641, 0x3ED8106B, 0x3EDAE880,
  0x3EDDBE79, 0x3EE0924F, 0x3EE363FA, 0x3EE63375, 0x3EE900B7, 0x3EEBCBBB, 0x3EEE9479, 0x3EF15AEA, 0x3EF41F07,
  0x3EF6E0CB, 0x3EF9A02D, 0x3EFC5D27, 0x3EFF17B2, 0x3F00E7E4, 0x3F0242B1, 0x3F039C3D, 0x3F04F484, 0x3F064B82,
  0x3F07A136, 0x3F08F59B, 0x3F0A48AD, 0x3F0B9A6B, 0x3F0CEAD0, 0x3F0E39DA, 0x3F0F8784, 0x3F10D3CD, 0x3F121EB0,
  0x3F13682A, 0x3F14B039, 0x3F15F6D9, 0x3F173C07, 0x3F187FC0, 0x3F19C200, 0x3F1B02C6, 0x3F1C420C, 0x3F1D7FD1,
  0x3F1EBC12, 0x3F1FF6CB, 0x3F212FF9, 0x3F226799, 0x3F239DA9, 0x3F24D225, 0x3F26050A, 0x3F273656, 0x3F286605,
  0x3F299415, 0x3F2AC082, 0x3F2BEB4A, 0x3F2D1469, 0x3F2E3BDE, 0x3F2F61A5, 0x3F3085BB, 0x3F31A81D, 0x3F32C8C9,
  0x3F33E7BC]

/-- Part 2 of sinQuarter. -/
def sinQuarter2 : List Nat := [
  0x3F3504F3, 0x3F36206C, 0x3F373A23, 0x3F385216, 0x3F396842, 0x3F3A7CA4, 0x3F3B8F3B, 0x3F3CA003, 0x3F3DAEF9,
  0x3F3EBC1B, 0x3F3FC767, 0x3F40D0DA, 0x3F41D870, 0x3F42DE29, 0x3F43E200, 0x3F44E3F5, 0x3F45E403, 0x3F46E22A,
  0x3F47DE65, 0x3F48D8B3, 0x3F49D112, 0x3F4AC77F, 0x3F4BBBF8, 0x3F4CAE79, 0x3F4D9F02, 0x3F4E8D90, 0x3F4F7A1F,
  0x3F5064AF, 0x3F514D3D, 0x3F5233C6, 0x3F531849, 0x3F53FAC3, 0x3F54DB31, 0x3F55B993, 0x3F5695E5, 0x3F577026,
  0x3F584853, 0x3F591E6A, 0x3F59F26A, 0x3F5AC450, 0x3F5B941A, 0x3F5C61C7, 0x3F5D2D53, 0x3F5DF6BE, 0x3F5EBE05,
  0x3F5F8327, 0x3F604621, 0x3F6106F2, 0x3F61C598, 0x3F628210, 0x3F633C5A, 0x3F63F473, 0x3F64AA59, 0x3F655E0B,
  0x3F660F88, 0x3F66BECC, 0x3F676BD8, 0x3F6816A8, 0x3F68BF3C, 0x3F696591, 0x3F6A09A7, 0x3F6AAB7B, 0x3F6B4B0C,
  0x3F6BE858]

/-- Part 3 of sinQuarter. -/
def sinQuarter3 : List Nat := [
  0x3F6C835E, 0x3F6D1C1D, 0x3F6DB293, 0x3F6E46BE, 0x3F6ED89E, 0x3F6F6830, 0x3F6FF573, 0x3F708066, 0x3F710908,
  0x3F718F57, 0x3F721352, 0x3F7294F8, 0x3F731447, 0x3F73913F, 0x3F740BDD, 0x3F748422, 0x3F74FA0B, 0x3F756D97,
  0x3F75DEC6, 0x3F764D97, 0x3F76BA07, 0x3F772417, 0x3F778BC5, 0x3F77F110, 0x3F7853F8, 0x3F78B47B, 0x3F791298,
  0x3F796E4E, 0x3F79C79D, 0x3F7A1E84, 0x3F7A7302, 0x3F7AC516, 0x3F7B14BE, 0x3F7B61FC, 0x3F7BACCD, 0x3F7BF531,
  0x3F7C3B28, 0x3F7C7EB0, 0x3F7CBFC9, 0x3F7CFE73, 0x3F7D3AAC, 0x3F7D7474, 0x3F7DABCC, 0x3F7DE0B1, 0x3F7E1324,
  0x3F7E4323, 0x3F7E70B0, 0x3F7E9BC9, 0x3F7EC46D, 0x3F7EEA9D, 0x3F7F0E58, 0x3F7F2F9D, 0x3F7F4E6D, 0x3F7F6AC7,
  0x3F7F84AB, 0x3F7F9C18, 0x3F7FB10F, 0x3F7FC38F, 0x3F7FD397, 0x3F7FE129, 0x3F7FEC43, 0x3F7FF4E6, 0x3F7FFB11,
  0x3F7FFEC4]

/-- Part 4 of sinQuarter. -/
def sinQuarter4 : List Nat := [
  0x3F800000]

/-- Binary32 codes of sin(2π k / 1024) for k = 0 to 256. -/
def sinQuarter : List Nat := sinQuarter0 ++ sinQuarter1 ++ sinQuarter2 ++ sinQuarter3 ++ sinQuarter4

/-- Part 0 of tanBounds. -/
def tanBounds0 : List Nat := [
  40244616394951532, 120735381612999408, 201230744348895167, 281733770392657779, 362247526701751263,
  442775081868591810, 523319506588584368, 603883874128840456, 684471260797729374, 765084746415415429,
  845727414785534335, 926402354168162606, 1007112657754234457, 1087861424141561547, 1168651757812611801,
  1249486769614204502, 1330369577239279964, 1411303305710903208, 1492291087868662359, 1573336064857623803,
  1654441386620007594, 1735610212389748125, 1816845711190106721, 1898151062334504529, 1979529455930745898,
  2060984093388804396, 2142518187932345608, 2224134965114163001, 2305837663335705403, 2387629534370876944,
  2469513843894292806, 2551493872014176667, 2633572913810088417, 2715754279875673524, 2798041296866628331,
  2880437308054078631, 2962945673883571993, 3045569772539887631, 3128313000517871023, 3211178773199504029,
  3294170525437424957, 3377291712145116860, 3460545808893986309, 3543936312517559011, 3627466741723022931,
  3711140637710353970, 3794961564799263868, 3878933111064214732, 3963058888977749514, 4047342536062392855,
  4131787715551381956, 4216398117058492637, 4301177457257231312, 4386129480569669504, 4471257959865203510,
  4556566697169528066, 4642059524384119335, 4727740304016529151, 4813612929921799391, 4899681328055312409]

/-- Part 1 of tanBounds. -/
def tanBounds1 : List Nat := [
  4985949457237400869, 5072421309930047870, 5159100913026016130, 5245992328650753103, 5333099654977427268,
  5420427027055459504, 5507978617652922413, 5595758638113189652, 5683771339226226943, 5772021012114926227,
  5860511989136894667, 5949248644802120681, 6038235396706950103, 6127476706484816761, 6216977080774183391,
  6306741072204160773, 6396773280398285380, 6487078352996948613, 6577660986698983921, 6668525928322931767,
  6759677975888516527, 6851121979718883986, 6942862843564163181, 7034905525746931940, 7127255040330181535,
  7219916458308392566, 7312894908822351377, 7406195580398354103, 7499823722212463855, 7593784645380505572,
  7688083724274502741, 7782726397866280533, 7877718171098980937, 7973064616287257268, 8068771374546937900,
  8164844157254972404, 8261288747540497357, 8358111001807884030, 8455316851292655970, 8552912303651191216,
  8650903444585151511, 8749296439501609532, 8848097535209874762, 8947313061656049323, 9046949433696376881,
  9147013152910480602, 9247510809455620286, 9348449083963134037, 9449834749478266502, 9551674673444623545,
  9653975819734532549, 9756745250726628243, 9859990129432026165, 9963717721670489603, 10067935398298041274,
  10172650637487517991, 10277871027063615400, 10383604266894020479, 10489858171338281976, 10596640671756123475]

/-- Part 2 of tanBounds. -/
def tanBounds2 : List Nat := [
  10703959819076960288, 10811823786432440058, 10920240871853887874, 11029219501036599914, 11138768230172995294,
  11248895748856704009, 11359610883059739617, 11470922598184978940, 11582840002196247457, 11695372348828388492,
  11808529040879776856, 11922319633589823392, 12036753838104106097, 12151841525029856211, 12267592728084624183,
  12384017647841050696, 12501126655570772370, 12618930297190600344, 12737439297314222959, 12856664563412801453,
  12976617190087950000, 13097308463460719011, 13218749865680333373, 13340953079556575685, 13463929993319848633,
  13587692705513100838, 13712253530019957014, 13837625001233556414, 13963819879370773624, 14090851155936673133,
  14218732059344234106, 14347476060694574753, 14477096879723107035, 14607608490917262613, 14739025129811650245,
  14871361299466733870, 15004631777137359736, 15138851621137710681, 15274036177909526624, 15410201089300702944,
  15547362300061663373, 15685536065567201903, 15824738959771799639, 15964987883406748259, 16106300072427752440,
  16248693106722040098, 16392184919084382350, 16536793804471815631, 16682538429547267237, 16829437842522713794,
  16977511483312950646, 17126779194011520118, 17277261229700839116, 17428978269609082803, 17581951428626922414,
  17736202269197783029, 17891752813595882682, 18048625556606939192, 18206843478627086998, 18366430059196235017]

/-- tan((2k + 1)/8 degrees) × 2^64, rounded down, for k = 0 to 179. -/
def tanBounds : List Nat := tanBounds0 ++ tanBounds1 ++ tanBounds2

/-- tan(k degrees) × 2^64, rounded down, for k = 0 to 45. -/
def tanDegrees : List Nat := [
  0, 321989115520813190, 644174497671274758, 966752891905718544, 1289922003812353016, 1613880985413607647,
  1938830929008891745, 2264975371178684778, 2592520809660533117, 2921677235924444010, 3252658686418974684,
  3585683815632039052, 3920976494314559472, 4258766436453525428, 4599289858857281659, 4942790177534073028,
  5289518745409849627, 5639735636348725610, 5993710480915872495, 6351723359865686548, 6714065761956745581,
  7081041613399792025, 7452968387047915845, 7830178300353477392, 8213019612160734391, 8601858029596099760,
  8997078237682323217, 9399085565865550112, 9808307807436856924, 10225197209889927957, 10650232656628343401,
  11083922063172102730, 11526805014176115532, 11979455671238161561, 12442485985729652759, 12916549255836718295,
  13402344072780846858, 13900618707953548651, 14412176000637243317, 14937878815324616930, 15478656148671360568,
  16035509979165787953, 16609522968095291599, 17201867138854663116, 17813813683720230906, 18446744073709551616]

/-- Whether the angle atan2(y, x) is above `t` degrees, `t` from 45 to 120: δ against THANG, R198. -/
def angleOver (y x : Word) (t : Nat) : Bool :=
  let ax := (f32Int x).natAbs
  let ay := (f32Int y).natAbs
  if f32Sign y || (ax = 0 && ay = 0) then false
  else if f32Sign x && ax ≠ 0 then decide (t ≤ 90) || decide (tanDegrees.getD (t - 90) 0 * ay < ax * 2 ^ 64)
  -- right of the vertical: the angle left to 90 degrees is below 90 - t
  else decide (t < 90) && decide (ax * 2 ^ 64 < tanDegrees.getD (90 - t) 0 * ay)

/-- The binary32 sine of an angle of `k` addresses (360°/1024 each). -/
def sinAddr (k : Int) : Word :=
  let e := (k % 1024).toNat
  let u := e % 512
  let w := BitVec.ofNat 32 (sinQuarter.getD (if u ≤ 256 then u else 512 - u) 0)
  if e < 512 then w else f32Neg w

/-- The binary32 cosine of an angle of `k` addresses. -/
def cosAddr (k : Int) : Word := sinAddr (k + 256)

/-- atan2(y, x) in 0.25° units, rounded to nearest, −720 to 720; finite arguments. -/
def atan2Quarter (y x : Word) : Int :=
  let ax := (f32Int x).natAbs
  let ay := (f32Int y).natAbs
  let small := min ax ay
  let big := max ax ay
  let n45 : Int := if big = 0 then 0 else ((tanBounds.filter fun t => decide (t * big < small * 2 ^ 64)).length : Nat)
  let first : Int := if ax < ay then 360 - n45 else n45
  let half : Int := if f32Sign x && big ≠ 0 then 720 - first else first
  if f32Sign y then -half else half

end Sys2Proof.Machine
end

