-- ==== Sys2Proof/Machine/EstOps.lean ====
section
/-!
DEFINITION. Machine/EstOps.lean: the load-angle estimator (R194 to R197), the stall detector (R198, R199), current trimming
(R144, R145) and the position witness (R202 to R204).
-/

namespace Sys2Proof.Machine

/-! ### Load angle, R194 and R195 -/

/-- A speed (2^-16 pu per tick) in full steps per second, binary32. -/
def speedFs (sp : Nat) : Word := f32OfRat (sp * 100000) 16777216

/-- The aligned sample m of a window, R194. -/
def alignedSample (t : WinTag) (sample : Int) : Word :=
  let m := f32Div (f32OfRat (sample * 2) 100) (speedFs t.speed)
  if t.sigma then m else f32Neg m

/-- |sin(βi − βj)| ≥ 0.35. -/
def wideEnough (di dj : Nat) : Bool := f32Le (f32OfRat 35 100) (f32Abs (sinAddr ((di : Int) - dj)))

/-- An earlier result meets every condition of R195 but the last. -/
def nearEnough (t : WinTag) (r : WinRes) : Bool :=
  decide ((t.pos - r.pos).natAbs ≤ 512) && (t.up == r.up) && r.era = t.era

/-- What an evaluation finds: kest (V per full step/s), δ as reported in 0.25°, and the coordinates δ is the angle of. -/
structure Estimate where
  kest  : Word
  delta : Int
  x     : Word
  y     : Word
deriving DecidableEq, Repr

/-- The equations of R195 for the new result i and its partner j. -/
def estimate (mi : Word) (di : Nat) (mj : Word) (dj : Nat) : Estimate :=
  let det := sinAddr ((dj : Int) - di)
  let x := f32Div (f32Sub (f32Mul mi (sinAddr dj)) (f32Mul mj (sinAddr di))) det
  let y := f32Div (f32Sub (f32Mul mj (cosAddr di)) (f32Mul mi (cosAddr dj))) det
  ⟨f32Sqrt (f32Add (f32Mul x x) (f32Mul y y)), atan2Quarter y x, x, y⟩

/-- The outcome of an evaluation: a validity code, or an estimate. -/
inductive Eval where
  | invalid (reason : Nat)
  | valid (e : Estimate)
deriving DecidableEq, Repr

/-- Evaluates a window result against the results kept, R195. The validity codes are tried in the order 1, 2, 6, 5, then the
partner (3, 4), then the partner's speed (1). -/
def State.evaluate (s : State) (a : Nat) (q : EvalReq) : Eval :=
  let min := speedTh (s.get (AX_BEMFSPD.MINSPD a))
  if q.tag.speed < min then .invalid 1
  else if q.noZero then .invalid 2
  else if q.clip then .invalid 6
  else if !s.on (AX_BEMFCFG.EN a) then .invalid 5
  else
    let near := (s.se a).results.filter (nearEnough q.tag)
    match near.find? fun r => wideEnough q.tag.dist r.dist with
    | none => .invalid (if near.isEmpty then 3 else 4)
    | some r =>
      if r.speed < min then .invalid 1
      else .valid (estimate (alignedSample q.tag q.sample) q.tag.dist r.m r.dist)

/-- A binary32 quantity times `k` as a register value of `bits` bits, saturating; the rounding is not stated and is free. -/
def roundReg (x : Word) (k bits : Nat) (s : State) : Nat × State :=
  let n : Nat := (f32Int x).natAbs * k
  let exact : Bool := n % 2 ^ 149 = 0
  let (j, s1) := s.fresh
  let q := n / 2 ^ 149 + (if !exact && Config.roundUp j then 1 else 0)
  (min (2 ^ bits - 1) q, if exact then s else s1)

/-! ### Trimming, R144 and R145 -/

/-- Why trimming is suspended: the code of AX_CSEFF.SUSP. Where several hold, EN = 0, homing, standstill, stall, invalid
estimate and ramp are taken in this order. In mode 4 only the stall and the invalid estimate suspend. -/
def State.suspend (s : State) (a : Nat) : Nat :=
  if !s.on (AX_TRIM.EN a) then 1
  else if s.get (AX_STAT.MODEACT a) = 5 then 6
  else if s.atStandstill a && s.get (AX_STAT.MODEACT a) ≠ 4 then 4
  else if (s.se a).stallCs then 5
  else if !s.on (AX_LA.VALID a) then 2
  else if (s.mo a).acc ≠ 0 && !s.on (AX_TRIM.ACC a) && s.get (AX_STAT.MODEACT a) ≠ 4 then 3
  else 0

/-- What a suspension does to CS_EFF, R145; also the bounds of AX_CSLIM, R144. -/
def applySuspend (a : Nat) (s : State) : State :=
  let lo := s.get (AX_CSLIM.CSMIN a)
  let hi := s.get (AX_CSLIM.CSMAX a)
  match s.suspend a with
  | 0 => s.modSe a fun e => { e with csEff := clampNat lo hi e.csEff }
  | 1 => s.modSe a fun e => { e with csEff := s.get (AX_CS.CS a), fallCnt := 0 }
  | 5 => s.modSe a fun e => { e with csEff := hi, fallCnt := 0 }
  | 2 => s.modSe a fun e => { e with csEff := clampNat lo hi (max (s.csn a) e.csEff), fallCnt := 0 }
  | 3 => s.modSe a fun e => { e with csEff := clampNat lo hi (max (s.csn a) e.csEff), fallCnt := 0 }
  | _ => s.modSe a fun e => { e with csEff := clampNat lo hi e.csEff, fallCnt := 0 }

/-- One update of CS_EFF with load angle θ (0.25°), R144. -/
def trimUpdate (a : Nat) (theta : Int) (s : State) : State :=
  let tgt : Int := Int.ofNat (s.get (AX_TRIM.TGT a))
  let db : Int := Int.ofNat (s.get (AX_TRIM.DB a))
  let urg : Int := Int.ofNat (s.get (AX_TRIM.URGENT a))
  let lo := s.get (AX_CSLIM.CSMIN a)
  let hi := s.get (AX_CSLIM.CSMAX a)
  if 4 * (tgt + urg) ≤ theta then s.modSe a fun e => { e with csEff := hi, fallCnt := 0 }
  else if 4 * (tgt + db) < theta then
    s.modSe a fun e => { e with csEff := min hi (e.csEff + s.get (AX_TRIM.RISE a)), fallCnt := 0 }
  else if theta < 4 * (tgt - db) then
    s.modSe a fun e =>
      if e.fallCnt + 1 = s.get (AX_TRIM.FALLDIV a) then { e with csEff := max lo (e.csEff - 1), fallCnt := 0 }
      else { e with fallCnt := e.fallCnt + 1 }
  else s.modSe a fun e => { e with fallCnt := 0 }

/-! ### Learning and stall, R197 and R198 -/

/-- A valid evaluation at constant velocity while learning, R197. -/
def learnKe (a : Nat) (kest : Word) (s : State) : State :=
  if !s.on (AX_BEMFKE.LEARNING a) then s
  else if !(s.se a).steady then s.modSe a fun e => { e with learnN := 0, learnSum := 0 }
  else
    let n := (s.se a).learnN + 1
    let sum := (s.se a).learnSum + (f32Int kest).natAbs
    if n < 64 then s.modSe a fun e => { e with learnN := n, learnSum := sum }
    else
      let ke := (2 * sum * 10 ^ 6 + 64 * 2 ^ 149) / (2 * 64 * 2 ^ 149)
      let s := s.modSe a fun e => { e with learnN := 0, learnSum := 0 }
      ((s.put (AX_BEMFKE.KE a) (min 0xFFFF ke)).put (AX_BEMFKE.LEARNING a) 0).put (AX_BEMFKE.LEARNED a) 1

/-- Whether a criterion of R198 holds; δ is compared before it is rounded for AX_LA. -/
def State.stallCriterion (s : State) (a : Nat) (e : Estimate) : Bool :=
  let ke := s.get (AX_BEMFKE.KE a)
  angleOver e.y e.x (s.get (AX_STALLCFG.THANG a))
    || (ke ≠ 0 && decide ((f32Int e.kest).natAbs * 10 ^ 6 * 100 < ke * s.get (AX_STALLCFG.AFRAC a) * 2 ^ 149))

/-- The consecutive count of R198, and whether this evaluation takes it to N. -/
def countStall (a : Nat) (hit : Bool) (s : State) : Bool × State :=
  if hit then
    let was := s.get (AX_STALLST.CNT a)
    let n := min 15 (was + 1)
    (n = s.get (AX_STALLCFG.N a) && was ≠ n, s.put (AX_STALLST.CNT a) n)
  else (false, s.put (AX_STALLST.CNT a) 0)

/-- What an evaluation does to the detector: a stall outside mode 5 waits for the tick's commands (R199); in RUN of mode 5
it is contact (R201). Code 4 stands for contact. -/
def detect (a : Nat) (e : Estimate) (s : State) : State :=
  let hit := s.stallCriterion a e
  if s.get (AX_STAT.MODEACT a) = 5 then
    if s.get (AX_HOMEST.STATE a) = 2 then
      let n := (s.se a).homeN + 1
      let s := s.modSe a fun x => { x with homeN := n }
      if n ≤ 2 then s
      else
        let (r, s) := countStall a hit s
        if r then s.modMo a fun m => { m with stallAct := some 4 } else s
    else s
  else if s.on (AX_STALLCFG.EN a) then
    let (r, s) := countStall a hit s
    if r then s.modMo a fun m => { m with stallAct := some (s.get (AX_STALLCFG.ACT a)) } else s
  else s

/-- Marks the estimate invalid with a reason, R195 and R198. -/
def setInvalid (a reason : Nat) (s : State) : State :=
  ((s.put (AX_LA.VALID a) 0).put (AX_LA.REASON a) reason).putB (AX_STALLST.UNAV a) (s.on (AX_STALLCFG.EN a))

/-- What an evaluation of axis `a` leaves in its registers: the reason it is invalid, or angle, amplitude and KEST, the trim and
the stall detection, R196 to R199. -/
def evalNote (a : Nat) (q : EvalReq) (r : Eval) (s : State) : State :=
  match r with
  | .invalid reason =>
    let s := (setInvalid a reason s).put (AX_STALLST.CNT a) 0
    s.modSe a fun e => { e with learnN := 0, learnSum := 0 }
  | .valid e =>
    let trim : Bool := s.on (AX_TRIM.EN a)
    let s := ((s.put (AX_LA.VALID a) 1).put (AX_LA.REASON a) 0).put (AX_STALLST.UNAV a) 0
    let s := s.putI (AX_LA.ANGLE a) e.delta
    let (amp, s) := roundReg (f32Mul e.kest (speedFs q.tag.speed)) 100 16 s
    let (k, s) := roundReg e.kest 1000000 16 s
    let s := (s.put (AX_LA.AMP a) amp).put (AX_STALLST.KEST a) k
    let s := if trim && s.suspend a = 0 then trimUpdate a e.delta s else s
    detect a e (learnKe a e.kest s)

/-- One evaluation, R195 to R198. -/
def evalOne (a : Nat) (q : EvalReq) (s : State) : State :=
  let s := evalNote a q (s.evaluate a q) s
  if q.noZero || q.clip then s
  else
    let w : WinRes := ⟨q.tag.pos, q.tag.up, q.tag.dist, alignedSample q.tag q.sample, q.tag.speed, q.tag.era⟩
    s.modSe a fun e => { e with
      results := w :: e.results.filter fun r => decide ((r.pos - w.pos).natAbs ≤ 512) && r.era = w.era }

/-- Evaluates every result waiting for axis `a`, R196. -/
def evalAxis (a : Nat) (s : State) : State :=
  let l := (s.se a).evals
  l.foldl (fun s q => evalOne a q s) (s.modSe a fun e => { e with evals := [] })

/-- A stop action: 1 stop, 2 quick stop, 3 halt, as R185 lays down. -/
def runAction (a act : Nat) (s : State) : State :=
  if act = 0 then s
  else
    let s := planRunCause a 5 s
    if act = 1 then stopCmd a s else if act = 2 then quickStop a s
    else if s.on (AX_STAT.HALTED a) || !s.enabled a then s else haltTick a s

/-- A stall takes effect, R199; or contact in homing, R201. -/
def stallEffect (a act : Nat) (s : State) : State :=
  if act = 4 then
    if s.get (AX_HOMEST.STATE a) = 2 then
      let s := s.modMo a fun m => { m with v := 0, acc := 0, run := .homeContact }
      let s := s.modSe a fun e => { e.cut with fresh := true }
      (s.put (AX_HOMEST.STATE a) 3).put (AX_STALLST.CNT a) 0
    else s
  else
    let s := (s.put (AX_STALLST.STALL a) 1).inc (AX_STALLST.STALLS a)
    let s := s.put (AX_STAT.PML a) 1
    let s := if s.on (AX_TRIM.EN a) then
        s.modSe a fun e => { e with stallCs := true, csEff := s.get (AX_CSLIM.CSMAX a) }
      else s
    runAction a act (updAlert a s)

/-- SETTLE ms after contact the homing axis begins its back-off against HSPD, R201. -/
def homeSettle (a : Nat) (s : State) : State :=
  if s.get (AX_HOMEST.STATE a) = 3 && (s.mo a).run = .homeContact then
    let d : Int := Int.ofNat (s.get (AX_HOMEBACK.BACK a)) * 2 ^ 24
    let t := if s.getI (AX_HOMECFG.HSPD a) < 0 then (s.mo a).p + d else (s.mo a).p - d
    (s.put (AX_HOMEST.STATE a) 4).modMo a fun m => { m with run := .homeBack t }
  else s

/-! ### Witness, R202 to R204 -/

/-- The witness position for a raw value, R202. -/
def State.witPos (s : State) (a : Nat) (raw : Int) : Int :=
  s.pair (AX_WITOFS_LO a) + raw * s.getI (AX_WITGAIN.GAIN a) / 2 ^ 16

/-- No valid witness value now, R202. -/
def witInvalid (a : Nat) (s : State) : State := s.put (AX_WITST.INV a) 1

/-- Consecutive mismatches reach WN, R203: the action runs now inside a tick, else at the next tick. -/
def witLost (a : Nat) (inTick : Bool) (s : State) : State :=
  let s := (s.put (AX_WITST.LOST a) 1).put (AX_STAT.PML a) 1
  let s := updAlert a s
  let act := s.get (AX_WITCFG.ACT a)
  if inTick then runAction a act s else s.modMo a fun m => { m with witAct := some act }

/-- A valid witness value: alignment if pending (R204), else the check of R203; `still` says that a STILL = 1 check counts. The value that
completes an alignment is not checked, and DIFF keeps what the last check found (DESIGN CHOICE, log entry 60). -/
def witCheck (a : Nat) (raw : Int) (still inTick : Bool) (s : State) : State :=
  let s := s.put (AX_WITST.INV a) 0
  if s.on (AX_WITST.ALIGNPEND a) then
    let ofs := s.posOf a - raw * s.getI (AX_WITGAIN.GAIN a) / 2 ^ 16
    let s := s.putPair (AX_WITOFS_LO a) (clampInt (-(2 ^ 39 - 1)) (2 ^ 39 - 1) ofs)
    updAlert a (((s.put (AX_WITST.CNT a) 0).put (AX_WITST.LOST a) 0).put (AX_WITST.ALIGNPEND a) 0)
  else if s.on (AX_WITCFG.STILL a) && !still then s
  else
    let diff := s.witPos a raw - s.posOf a
    let s := s.putI (AX_WITST.DIFF a) (clampInt (-32767) 32767 diff)
    if s.get (AX_WITTOL.TOL a) < diff.natAbs then
      let was := s.get (AX_WITST.CNT a)
      let n := min 255 (was + 1)
      let s := s.put (AX_WITST.CNT a) n
      if n = s.get (AX_WITCFG.WN a) && was ≠ n then witLost a inTick s else s
    else s.put (AX_WITST.CNT a) 0

/-- The encoder witness at a tick, R202 and R203: the sum of motion-count changes since the witness was enabled on its channel. -/
def witTick (a : Nat) (s : State) : State :=
  if s.get (AX_WITCFG.SRC a) ≠ 2 then
    if (s.se a).witOk then s.modSe a fun e => { e with witOk := false } else s
  else
    let n := s.get (AX_WITCFG.CH a)
    let now := (s.rd (ENC_MCNT n)).toNat
    let e := s.se a
    let raw : Int := if e.witOk && e.witCh = n then e.witRaw + signed 32 (unsigned 32 ((now : Int) - e.witLast)) else 0
    let s := s.modSe a fun x => { x with witOk := true, witCh := n, witRaw := raw, witLast := now }
    if s.on (ENC_STAT.FAULT n) then witInvalid a s
    else witCheck a (signed 40 (unsigned 40 raw)) ((s.mo a).still && s.atStandstill a) true s

end Sys2Proof.Machine
end

