-- ==== Sys2Proof/Machine/EncOps.lean ====
section
/-!
DEFINITION. Machine/EncOps.lean: step channels, quadrature counting, index, speed measurement and compare units (R229 to R245).
-/

namespace Sys2Proof.Machine

/-- Encoder channel `n`. -/
def State.enc (s : State) (n : Nat) : EncCh := Sparse.get (fun _ => {}) s.encs n

/-- Changes encoder channel `n`. -/
def State.modEnc (s : State) (n : Nat) (f : EncCh → EncCh) : State :=
  { s with encs := Sparse.modify (fun _ => {}) s.encs n f }

/-- The motion-clock counter at the last profile tick, 5 ns counts, R166. -/
def State.clock (s : State) : Nat := 2000 * s.ticks

/-! ### Compare units, R241 to R244 -/

/-- Present position of a compare unit: the encoder count or bits [31:0] of the axis position. -/
def State.cmpPos (s : State) (n : Nat) : Nat :=
  if s.on (CMP_CFG.SRC n) then unsigned 32 (s.posOf (s.get (CMP_CFG.AXIS n))) else (s.rd (ENC_CNT n)).toNat

/-- The level of CMPOUTn: high while a pulse is active, or low with POL = 1, R241; driven low in NAP and high-impedance (none) in
reset and HIBERNATE, R35. -/
def State.cmpOut (s : State) (n : Nat) : Option Bool :=
  if s.power.inReset || s.runState = 3 then none
  else some (decide (s.runState ≠ 2) && (s.on (CMP_STAT.OUT n) != s.on (CMP_CFG.POL n)))

/-- How far a position is past CMP_POS in the armed direction, signed modulo 2^32. -/
def State.cmpPast (s : State) (n pos : Nat) : Int :=
  let d := signed 32 (unsigned 32 ((pos : Int) - (s.rd (CMP_POS n)).toNat))
  if s.on (CMP_CFG.DIR n) then -d else d

/-- Hits may still come: armed, and with a limit some positions remain. -/
def State.cmpLive (s : State) (n : Nat) : Bool :=
  s.on (CMP_STAT.ARMED n) && (!s.on (CMP_COUNT.COUNT n) || s.on (CMP_COUNT.LEFT n))

/-- The unit disarms with DONE. -/
def cmpDone (n : Nat) (s : State) : State :=
  ((s.put (CMP_STAT.ARMED n) 0).put (CMP_STAT.DONE n) 1).put (CMP_CFG.ARM n) 0

/-- A hit that advances CMP_POS by `k` spacings, R241 to R243; `late` for a catch-up, which disarms after its pulse. -/
def cmpHit (n k : Nat) (late : Bool) (s : State) : State :=
  let step : Int := (k * s.get (CMP_SPACING.SPACING n) : Nat)
  let pos : Int := (s.rd (CMP_POS n)).toNat
  let s := s.put (CMP_POS.POS n) (unsigned 32 (if s.on (CMP_CFG.DIR n) then pos - step else pos + step))
  let s := applyIf (s.on (CMP_STAT.OUT n)) (·.put (CMP_STAT.OVLP n) 1) s
  let s := ((s.put (CMP_STAT.OUT n) 1).inc (CMP_CNTS.HITS n)).addSat (CMP_CNTS.SKIP n) (k - 1)
  let s := pend (72 + n) 0 n s
  if s.on (CMP_COUNT.COUNT n) then
    let left := s.get (CMP_COUNT.LEFT n) - k
    let s := s.put (CMP_COUNT.LEFT n) left
    if left ≠ 0 then s
    else if late then s.modEnc n fun e => { e with disarm := true }
    else cmpDone n s
  else s

/-- The smallest number of spacings, at least one, that leaves CMP_POS ahead of a position `past` beyond it. -/
def cmpCatch (past spacing : Nat) : Nat := past / spacing + 1

/-- The position moved from `prev` to `pos`: a crossing of an armed unit is a hit, R241. -/
def cmpMove (n prev pos : Nat) (s : State) : State :=
  let past := s.cmpPast n pos
  if s.cmpLive n && decide (s.cmpPast n prev < 0) && decide (0 ≤ past) then
    let k := cmpCatch past.toNat (s.get (CMP_SPACING.SPACING n))
    -- a check that crosses several positions follows the rule of CATCHUP = 1, R243
    cmpHit n k (decide (1 < k)) (applyIf (decide (1 < k)) (·.put (CMP_STAT.BEHIND n) 1) s)
  else s

/-- The check of R243: CMP_POS is behind. BEHIND is set whether or not the unit is armed; only an armed unit hits. -/
def cmpBehind (n : Nat) (s : State) : State :=
  let past := s.cmpPast n (s.cmpPos n)
  if 0 < past then
    let s := s.put (CMP_STAT.BEHIND n) 1
    if s.on (CMP_CFG.CATCHUP n) && s.cmpLive n then
      cmpHit n (cmpCatch past.toNat (s.get (CMP_SPACING.SPACING n))) true s
    else s
  else s

/-- ARM written 1 or 0 takes effect, R241. -/
def cmpArm (n : Nat) (on : Bool) (s : State) : State :=
  if on then
    let s := (s.put (CMP_STAT.ARMED n) 1).put (CMP_COUNT.LEFT n) (s.get (CMP_COUNT.COUNT n))
    cmpBehind n (s.modEnc n fun e => { e with disarm := false, cmpPrev := s.cmpPos n })
  else s.put (CMP_STAT.ARMED n) 0

/-- A write of CMP_POS takes effect, R244. -/
def cmpPosSet (n : Nat) (w : Word) (s : State) : State := cmpBehind n (s.wr (CMP_POS n) w)

/-- The check of a unit that watches an axis position, made at every tick, and a waiting write of CMP_POS, which takes effect at
this tick also where SRC = 0 has just landed, R244. -/
def cmpTick (n : Nat) (s : State) : State :=
  let e := s.enc n
  let s := if s.on (CMP_CFG.SRC n) then
      let pos := s.cmpPos n
      (cmpMove n e.cmpPrev pos s).modEnc n fun x => { x with cmpPrev := pos }
    else s
  match e.posWr with
  | none => s
  | some w => cmpPosSet n w (s.modEnc n fun x => { x with posWr := none })

/-! ### Counting -/

/-- Adds to a 32-bit count that wraps, setting the WRAP flag at a wrap in either direction, R230. -/
def countBy (cnt : Fld) (wrap : Fld) (d : Int) (s : State) : State :=
  let x : Int := Int.ofNat (s.get cnt) + d
  let s := s.put cnt (unsigned 32 x)
  if x < 0 ∨ 2 ^ 32 ≤ x then s.put wrap 1 else s

/-! ### The input filter, R229 -/

/-- Sampling instants from `since` to `stamp`, both motion-clock times, one every PRE + 1 counts of 5 ns. That they fall at the
multiples of PRE + 1 is a DESIGN CHOICE (log entry 61): the spec states no phase. -/
def filterSamples (pre since stamp : Nat) : Nat := stamp / (pre + 1) + 1 - (since + pre) / (pre + 1)

/-- The filters begin to run at time `t`: nothing sampled before counts (DEDUCED, log entry 61). -/
def Filt.begin (t : Nat) : Filt := { start := t }

/-- A new PRE lands at time `t`, where `pre` was in force: the next sample counts under it. Settings older than 255 samples of the
longest period have no part in a count any more. -/
def Filt.change (f : Filt) (pre t : Nat) : Filt :=
  { start := t, past := (f.start, t, pre) :: f.past.filter fun x => decide (t < x.2.1 + 65280) }

/-- The filter's count: the samples that show a ball's level since `since`, each under the PRE then in force. -/
def Filt.count (f : Filt) (pre since stamp : Nat) : Nat :=
  filterSamples pre (max since f.start) stamp
    + (f.past.map fun x => filterSamples x.2.2 (max since x.1) (x.2.1 - 1)).sum

/-- The filtered level of a ball that shows `now` since `since`: it changes only after N consecutive samples, R229. -/
def filtered (f : Filt) (pre n : Nat) (was now : Bool) (since stamp : Nat) : Bool :=
  if n ≤ f.count pre since stamp then now else was


/-- Whether an enabled channel counts: not before the first tick after a wake from NAP, R237. -/
def State.counting (s : State) (en : Fld) : Bool := s.on en && !s.power.unticked

/-- Whether the filters of an encoder channel run: it is enabled, or its repeater is in the filtered mode, R229. -/
def State.encFilters (s : State) (n : Nat) : Bool := s.on (ENC_CFG.EN n) || s.get (ENC_CFG.REPEAT n) = 2

/-- Levels of ENCOUTnA, ENCOUTnB and ENCOUTnZ: high-impedance (none) with REPEAT = 0 and in reset and HIBERNATE, else the ball
levels or the filtered levels, R240; held in NAP, where neither changes, R35. -/
def State.encOut (s : State) (n : Nat) : Option (Bool × Bool × Bool) :=
  if s.power.inReset || s.runState = 3 then none
  else
    match s.get (ENC_CFG.REPEAT n) with
    | 0 => none
    | 1 => some ((s.enc n).ballA, (s.enc n).ballB, (s.enc n).ballZ)
    | _ => some (s.on (ENC_STAT.A n), s.on (ENC_STAT.B n), s.on (ENC_STAT.Z n))

/-- A counted edge of a step channel, R230 and R231. -/
def stepCount (n : Nat) (up : Bool) (stamp dirStamp : Nat) (s : State) : State :=
  let last := Sparse.get (fun _ => 0) s.stepLast n
  let pups : Int := Int.ofNat (s.get (STEP_CFG.PUPS n))
  let d : Int := if up then pups else -pups
  let s := countBy (STEP_CNT.CNT n) (STEP_STAT.WRAP n) d s
  let s := s.put (STEP_MCNT.MCNT n) (unsigned 32 (Int.ofNat (s.get (STEP_MCNT.MCNT n)) + d))
  let fast : Bool := last ≠ 0 && decide (stamp < last - 1 + s.get (STEP_TIMING.MINPER n))
  let s := if fast then pend (80 + n) 0 n ((s.put (STEP_STAT.OVSPD n) 1).inc (STEP_ERR.OVCNT n)) else s
  let s := if stamp < dirStamp + s.get (STEP_TIMING.TSU n)
    then pend (80 + n) 0 n ((s.put (STEP_STAT.SETUP n) 1).inc (STEP_ERR.SUCNT n)) else s
  { s with stepLast := Sparse.set (fun _ => 0) s.stepLast n (stamp + 1) }

/-- STEP_STAT.DIR: filtered DIRn after DIRINV, R245. -/
def showDir (n : Nat) (s : State) : State :=
  s.putB (STEP_STAT.DIR n) (Sparse.get (fun _ => false) s.stepDir n != s.on (STEP_CFG.DIRINV n))

/-- A sample of STEPn and DIRn at `stamp`: the levels at the balls and the times they took them. The filtered levels follow by
R229 while the channel is enabled, and an active edge of filtered STEPn is counted in the direction of filtered DIRn, which
last changed at `dirStamp`, R230. -/
def stepSample (n : Nat) (step dir : Bool) (stepSince dirSince stamp dirStamp : Nat) (s : State) : State :=
  if !s.on (STEP_CFG.EN n) then s
  else
    let pre := s.get (STEP_FILT.PRE n)
    let stable := s.get (STEP_FILT.N n)
    let was := s.on (STEP_STAT.STEP n)
    let f := (s.enc n).stepFilt
    let fs := filtered f pre stable was step stepSince stamp
    let fd := filtered f pre stable (Sparse.get (fun _ => false) s.stepDir n) dir dirSince stamp
    let s := showDir n { s with stepDir := Sparse.set (fun _ => false) s.stepDir n fd }
    let s := s.putB (STEP_STAT.STEP n) fs
    if fs != was && fs != s.on (STEP_CFG.EDGE n) && s.counting (STEP_CFG.EN n)
    then stepCount n (s.on (STEP_STAT.DIR n)) stamp dirStamp s else s

/-- Sets ENC_SPD to a signed quotient in 1/16 counts/s; a rounding the spec does not state is free. -/
def setSpeed (n : Nat) (num : Int) (den : Nat) (s : State) : State :=
  let q := num.natAbs / den
  let exact : Bool := num.natAbs % den = 0
  let (k, s1) := s.fresh
  let q := if !exact && Config.roundUp k then q + 1 else q
  (if exact then s else s1).putI (ENC_SPD.SPD n) (if num < 0 then -(q : Int) else (q : Int))

/-- Speed of the count `up` after `per` counts of 5 ns since the last, period mode, R238. -/
def periodSpeed (n : Nat) (up : Bool) (per : Nat) (s : State) : State :=
  let s := s.put (ENC_PER.PER n) (min per 0xFFFFFF)
  let s := if per = 0 then s else setSpeed n (if up then 3200000000 else -3200000000) per s
  let sw := s.get (ENC_SPDCFG.SPDSW n)
  if (sw + sw / 8) * 16 ≤ (s.getI (ENC_SPD.SPD n)).natAbs then s.put (ENC_STAT.SPDMODE n) 1 else s

/-- One count of an encoder channel at a motion-clock time: count, motion count, speed and compare, R232 to R241. -/
def encCount (n : Nat) (up : Bool) (stamp : Nat) (s : State) : State :=
  let d : Int := if up then 1 else -1
  let prev := (s.rd (ENC_CNT n)).toNat
  let s := countBy (ENC_CNT.CNT n) (ENC_STAT.WRAP n) d s
  let s := s.put (ENC_MCNT.MCNT n) (unsigned 32 (Int.ofNat (s.get (ENC_MCNT.MCNT n)) + d))
  let s := s.putB (ENC_STAT.DIR n) up
  let e := s.enc n
  let per := match e.tLast with
    | none => 0
    | some t => stamp - t
  let s := s.modEnc n fun x => { x with
    tLast := some stamp, lastUp := some up, net := x.net + d, span := x.span + per, counted := true }
  let s :=
    if s.on (ENC_STAT.SPDMODE n) then s
    else if e.lastUp = some up then periodSpeed n up per s
    else s.put (ENC_SPD.SPD n) 0
  if s.on (CMP_CFG.SRC n) then s else cmpMove n prev (s.rd (ENC_CNT n)).toNat s

/-- More than LIM illegal transitions in one window declare an encoder fault, once in the window, R233. -/
def encFault (n : Nat) (s : State) : State :=
  let e := s.enc n
  if s.get (ENC_ERRCFG.LIM n) < e.ill && !e.declared then
    pend (64 + n) 0 n ((s.put (ENC_STAT.FAULT n) 1).modEnc n fun x => { x with declared := true })
  else s

/-- A window of R233 begins: at the enable of the channel and at the end of the window before. -/
def encWindow (n : Nat) (s : State) : State := s.modEnc n fun e => { e with ill := 0, declared := false }

/-- A new filtered pair of a counting channel, R232 and R233. The sequence is 00, 10, 11, 01 in (A, B). -/
def quadDecode (n : Nat) (pa pb a b : Bool) (stamp : Nat) (s : State) : State :=
  if a = pa ∧ b = pb then s
  else if a ≠ pa ∧ b ≠ pb then
    let s := s.modEnc n fun e => { e with ill := e.ill + 1 }
    encFault n (pend (64 + n) 0 n ((s.put (ENC_STAT.ILL n) 1).inc (ENC_ERR.ERRCNT n)))
  else
    -- forward when A leads: the changed line is A while B differs from the new A, or B while it follows A
    let fwd : Bool := if a ≠ pa then a != b else a == b
    encCount n (fwd != s.on (ENC_CFG.INV n)) stamp s

/-- A sample of ENCnA and ENCnB at `stamp`: the levels at the balls and the times they took them. The filtered pair follows by
R229 while the filters run, and an enabled channel decodes it, R232. -/
def quadSample (n : Nat) (a b : Bool) (aSince bSince stamp : Nat) (s : State) : State :=
  let s := s.modEnc n fun e => { e with ballA := a, ballB := b }
  if !s.encFilters n then s
  else
    let pre := s.get (ENC_FILT.PRE n)
    let stable := s.get (ENC_FILT.N n)
    let pa := s.on (ENC_STAT.A n)
    let pb := s.on (ENC_STAT.B n)
    let f := (s.enc n).filt
    let fa := filtered f pre stable pa a aSince stamp
    let fb := filtered f pre stable pb b bSince stamp
    let s := (s.putB (ENC_STAT.A n) fa).putB (ENC_STAT.B n) fb
    if s.counting (ENC_CFG.EN n) then quadDecode n pa pb fa fb stamp s else s

/-- Sets ENC_CNT other than by counting: not a crossing, but CMP_POS is checked for being behind, R241. -/
def encSet (n : Nat) (w : Word) (s : State) : State :=
  let s := s.wr (ENC_CNT n) w
  if s.on (CMP_CFG.SRC n) then s else cmpBehind n s

/-- An active edge of filtered Z, R234. -/
def indexEdge (n : Nat) (s : State) : State :=
  let mode := s.get (ENC_CFG.ZMODE n)
  if s.on (ENC_CFG.ZGATE n) && !(s.on (ENC_STAT.A n) && s.on (ENC_STAT.B n)) then s
  else
    let s := if mode = 0 then s else (s.wr (ENC_ZLATCH n) (s.rd (ENC_CNT n))).put (ENC_STAT.ZSEEN n) 1
    let s := if mode = 2 then s.put (ENC_CFG.ZMODE n) 1 else s
    let s := if 2 ≤ mode then encSet n (s.rd (ENC_ZVAL n)) s else s
    if s.on (ENC_CFG.ZEV n) then pend (64 + n) 0 n s else s

/-- A sample of ENCnZ at `stamp`: the level at the ball and the time it took it; filtered Z follows by R229, and its active edge
is an index, R234. -/
def indexSample (n : Nat) (z : Bool) (since stamp : Nat) (s : State) : State :=
  let s := s.modEnc n fun e => { e with ballZ := z }
  if !s.encFilters n then s
  else
    let was := s.on (ENC_STAT.Z n)
    let fz := filtered (s.enc n).filt (s.get (ENC_FILT.PRE n)) (s.get (ENC_FILT.N n)) was z since stamp
    let s := s.putB (ENC_STAT.Z n) fz
    if fz != was && fz != s.on (ENC_CFG.ZPOL n) && s.counting (ENC_CFG.EN n) then indexEdge n s else s

/-- No count for 2^24 × 5 ns in period mode, R238. -/
def speedTimeout (n : Nat) (s : State) : State :=
  if s.on (ENC_CFG.EN n) && !s.on (ENC_STAT.SPDMODE n) then (s.put (ENC_SPD.SPD n) 0).put (ENC_PER.PER n) 0xFFFFFF else s

/-- A 100 µs speed window of channel `n` ends, R239. -/
def windowEnd (n : Nat) (s : State) : State :=
  let e := s.enc n
  let s1 := s.modEnc n fun x => { x with net := 0, span := 0, counted := false, ref := x.ref || x.counted }
  if s.on (ENC_CFG.EN n) && s.on (ENC_STAT.SPDMODE n) then
    let s2 :=
      if !e.counted then s1.put (ENC_SPD.SPD n) 0
      else if !e.ref ∨ e.span = 0 then
        let (k, s2) := s1.fresh
        s2.put (ENC_SPD.SPD n) (Config.firstWindowSpeed k)
      else setSpeed n (e.net * 3200000000) e.span s1
    let sw := s2.get (ENC_SPDCFG.SPDSW n)
    if (s2.getI (ENC_SPD.SPD n)).natAbs < (sw - sw / 8) * 16 then s2.put (ENC_STAT.SPDMODE n) 0 else s2
  else s1

/-- The reported magnitude falls with the time since the last count, period mode at a tick, R238. -/
def speedDecay (n : Nat) (s : State) : State :=
  match (s.enc n).tLast with
  | none => s
  | some t =>
    let dt := s.clock - t
    let sp := s.getI (ENC_SPD.SPD n)
    if s.on (ENC_CFG.EN n) && !s.on (ENC_STAT.SPDMODE n) && sp ≠ 0 && dt ≠ 0
        && decide (3200000000 < sp.natAbs * dt) then
      setSpeed n (if sp < 0 then -3200000000 else 3200000000) dt s
    else s

/-- A compare pulse ends, R242; a unit that ran out while catching up disarms then, R243. -/
def pulseEnd (n : Nat) (s : State) : State :=
  let e := s.enc n
  let s := s.put (CMP_STAT.OUT n) 0
  if e.disarm then cmpDone n (s.modEnc n fun x => { x with disarm := false }) else s

end Sys2Proof.Machine
end

