-- ==== Sys2Proof/Machine/TickOps.lean ====
section
/-!
DEFINITION. Machine/TickOps.lean: what one profile tick does to one axis (R166): its commands, the step of its mode or stop, the
limit guard, the saturation check, the standstill table (R147 to R149) and the microstep sequencer (R152 to R164).
-/

namespace Sys2Proof.Machine

/-! ### Step 1: commands -/

/-- A power-down of the axis's coach is pending: the admission gate starts no move there, R51 and R52. -/
def State.closing (s : State) (a : Nat) : Bool :=
  natBit (s.get GCTL_PWRSTAT.PENDOFF) (axisCoach a) || (s.coach (axisCoach a)).offWait

/-- A start made by the admission gate takes effect, or its entry ends when it no longer can, R222: its move has not begun, so it
has used no energy. -/
def gateBegin (a : Nat) (s : State) : State :=
  if s.canStart a && !s.closing a then startNow a s
  else match s.ownerEntry a with
    | none => s
    | some e =>
      if s.entryState e ≠ 2 then s
      else endEntry e 5 (firstCause (s.pl.causes ++ [(e, s.pl.tick, 1)]) e 1) (s.put (PL_RES.STATE e) 1)

/-- A host start request takes effect: the axis starts or is armed, R171 and R173. -/
def hostBegin (a : Nat) (s : State) : State :=
  if !s.canStart a || s.on (AX_STAT.ARMED a) then s
  else if s.on (AX_STARTCFG.SRC a) then s.put (AX_STAT.ARMED a) 1
  else startNow a s

/-- One command of AX_CTL or a start at its tick, R166 step 1. -/
def runReq (a : Nat) (r : AxReq) (s : State) : State :=
  match r with
  | .start => hostBegin a s
  | .gateStart => gateBegin a s
  | .stop =>
    let s := (planCause a 4 s).put (AX_STAT.ARMED a) 0
    if s.enabled a then stopCmd a s else s
  | .qstop =>
    let s := (planCause a 4 s).put (AX_STAT.ARMED a) 0
    if s.enabled a then quickStop a s else s
  | .halt =>
    let s := planCause a 4 s
    if s.enabled a && !s.on (AX_STAT.HALTED a) then haltTick a s else s
  | .release =>
    if (s.mo a).faultHalt then s
    else (s.put (AX_STAT.HALTED a) 0).modSe a fun e => { e with fresh := true }
  | .cont =>
    match (s.mo a).run with
    | .segWait i w =>
      (s.put (AX_STAT.WAITING a) 0).modMo a fun m => { m with run := if w then .segGo i else .segNext i }
    | _ => s
  | .clrpml => updAlert a (s.put (AX_STAT.PML a) 0)

/-- Sync events recognised since the last tick: armed axes start and WSYNC waits end, R173 and R180. -/
def syncAxis (a : Nat) (s : State) : State :=
  let m := s.mo a
  let s := s.modMo a fun m => { m with syncHit := false, waitHit := false }
  if m.syncHit && s.on (AX_STAT.ARMED a) then
    if s.canStart a then startNow a s else s.put (AX_STAT.ARMED a) 0
  else if m.waitHit then
    match m.run with
    | .segWait i true => (s.put (AX_STAT.WAITING a) 0).modMo a fun m => { m with run := .segGo i }
    | _ => s
  else s

/-- The commands of one axis at a tick. -/
def axisCommands (a : Nat) (s : State) : State :=
  let m0 := s.mo a
  if m0 = {} then s
  else
    let s := s.modMo a fun m => { m with reqs := [], asked := false, said := false }
    let s := landEnable a s
    let s := if m0.disNext && s.enabled a then disableNow a s else s
    let s := syncAxis a s
    let s := m0.reqs.foldl (fun s r => runReq a r s) s
    let s := if (s.mo a).orderH && s.enabled a && !s.on (AX_STAT.HALTED a) then haltTick a s else s
    let s := if (s.mo a).orderQ then quickStop a s else s
    s.modMo a fun m => { m with orderH := false, orderQ := false }

/-- Stall and witness actions waiting for this tick, after its commands, R199. -/
def axisActions (a : Nat) (s : State) : State :=
  let m := s.mo a
  let s := match m.stallAct with
    | none => s
    | some act =>
      let s := s.modMo a fun m => { m with stallAct := none }
      if s.enabled a then stallEffect a act s else s
  match m.witAct with
  | none => s
  | some act => runAction a act (s.modMo a fun m => { m with witAct := none })

/-! ### Steps 2 to 4 -/

/-- Puts a step's outcome into the motion state. -/
def setPV (a : Nat) (x : PV) (s : State) : State :=
  s.modMo a fun m => { m with acc := x.v - m.v, p := x.p, v := x.v }

/-- One step of a stop that only reduces speed by `rate`, R185. -/
def slowStep (m : Motion) (rate : Nat) : PV :=
  let w := m.v.natAbs
  let wn := w - rate
  advance m.p m.v (if m.v < 0 then (w : Int) - wn else (wn : Int) - w)

/-- One step of a quick stop. -/
def qstopStep (a : Nat) (s : State) : State :=
  let s := setPV a (slowStep (s.mo a) (s.qdmax a)) s
  if (s.mo a).v = 0 then stopDone a s else s

/-- A quick stop begins with this tick as its first. -/
def qstopFrom (a : Nat) (s : State) : State :=
  let s := quickStop a s
  if s.get (AX_STAT.STOPKIND a) = 2 then qstopStep a s else s

/-- One braking step onto a limit, R174 and R183. -/
def brakeStep (a : Nat) (limit : Int) (s : State) : State :=
  let m := s.mo a
  match brakeSpeed m.v.natAbs (limit - m.p).natAbs with
  | none => stopDone a (setPV a ⟨limit, 0⟩ s)
  | some wn =>
    let w := m.v.natAbs
    let s := setPV a (advance m.p m.v (if m.v < 0 then (w : Int) - wn else (wn : Int) - w)) s
    if (s.mo a).v = 0 then stopDone a s else s

/-- Commits a proposed step through the limit guard of R183; the continuation runs when the step is accepted. -/
def guarded (a : Nat) (x : PV) (k : State → State) (s : State) : State :=
  let m := s.mo a
  let out := if s.on (AX_LIMCFG.EN a)
    then guardStep m.p m.v x.v (s.pair (AX_LIMN_LO a)) (s.pair (AX_LIMP_LO a)) (s.dmax a) (s.qdmax a)
    else .accept
  match out with
  | .accept => k (setPV a x s)
  | .qstop =>
    let s := planRunCause a 6 (updAlert a (s.put (AX_EVT.LIMOVR a) 1))
    qstopFrom a s
  | .hold =>
    let s := planRunCause a 6 (s.put (AX_EVT.LIMHIT a) 1)
    endMove a false ((setPV a ⟨m.p, 0⟩ s).put (AX_STAT.STOPKIND a) 0)
  | .land l =>
    let s := planRunCause a 6 (s.put (AX_EVT.LIMHIT a) 1)
    let s := setPV a ⟨l, 0⟩ s
    let s := endMove a false (s.put (AX_STAT.STOPKIND a) 0)
    if s.on (AX_STAT.DISPEND a) then disableNow a s else s
  | .brake l q =>
    let s := planRunCause a 6 (s.put (AX_EVT.LIMHIT a) 1)
    let s := applyIf q (·.put (AX_EVT.LIMQ a) 1) s
    let s := beginStop a 3 (.brake l) s
    if s.get (AX_STAT.STOPKIND a) = 3 then brakeStep a l s else s

/-- A target move lands, R174 and R175: a held target runs as a new move from standstill at the tick after. `clamped` says that the
target of the move had been clamped. -/
def targetDone (a : Nat) (clamped : Bool) (s : State) : State :=
  let s := applyIf clamped (·.put (AX_EVT.LIMHIT a) 1) s
  let s := raiseDone a (AX_EVT.DONE a) s
  if s.on (AX_STAT.TGTPEND a) then
    (s.put (AX_STAT.TGTPEND a) 0).modMo a fun m => { m with run := .retarget }
  else endMove a true s

/-- One tick of a trapezoid toward the target in force. -/
def targetStep (a : Nat) (s : State) : State :=
  let m := s.mo a
  let (x, fin) := trapStep m.p m.v ((s.target a).1 * 2 ^ 24) (s.vmax a) (s.amax a) (s.dmax a)
  guarded a x (fun s => if fin then targetDone a (s.target a).2 s else s) s

/-- One tick of an S-curve, R176. -/
def scurveStep (a : Nat) (c : Scurve) (s : State) : State :=
  let c := { c with n := c.n + 1 }
  let x := scurvePV c
  guarded a x (fun s =>
    let s := s.modMo a fun m => { m with run := .scurve c }
    if 2 * c.tj + c.ta + c.tc + 2 * c.tk + c.td ≤ c.n then targetDone a c.clamped s else s) s

/-- One tick of mode 1, a held or newly started target included. -/
def mode1Step (a : Nat) (s : State) : State :=
  let s := match (s.mo a).run with
    | .retarget => planTarget a s
    | _ => s
  match (s.mo a).run with
  | .scurve c => scurveStep a c s
  | _ => targetStep a s

/-- One tick of velocity mode, R177. -/
def mode2Step (a : Nat) (s : State) : State :=
  let m := s.mo a
  let lim : Int := Int.ofNat (s.vmax a)
  let vt := clampInt (-lim) lim (s.getI (AX_VTGT.VTGT a) * 2 ^ 24)
  let v := velStep m.v vt (s.amax a) (s.dmax a)
  guarded a (advance m.p m.v (v - m.v)) id s

/-- The device maximum velocity. -/
def vDevice : Nat := 3355443 * 2 ^ 24

/-- Whether segment `i` begins with a wait: the WSYNC flag of its entry, looked at when the segment before it ends, R180 and R181. The
entry itself is read once, at the first tick after the wait (DESIGN CHOICE, log entry 60). -/
def State.segSync (s : State) (i : Nat) : Bool := !s.isBad (SEG0 i + 12) && natBit (s.segEntry i).flags 3

/-- After the last tick of a chain segment, R180: its flags in table order, and the WSYNC flag of the next. -/
def segEnd (a : Nat) (g : SegRun) (s : State) : State :=
  let s := if natBit g.flags 4 then
      raiseDone a (AX_EVT.SEGEV a) (s.put (AX_CHAINST.LASTEV a) g.idx)
    else s
  let loops := s.get (AX_LOOPS.LOOPS a)
  let left := s.get (AX_LOOPS.LOOPLEFT a)
  let x : SegEntry := ⟨0, 0, 0, g.flags, g.next, true⟩
  let atRest : Bool := (s.mo a).v = 0
  match chainNext x g.idx loops left with
  | .error code left' => chainError a code (s.put (AX_LOOPS.LOOPLEFT a) left')
  | .stop left' =>
    let s := s.put (AX_LOOPS.LOOPLEFT a) left'
    if atRest then endMove a true (raiseDone a (AX_EVT.DONE a) s) else chainError a 6 s
  | .go j left' =>
    let s := s.put (AX_LOOPS.LOOPLEFT a) left'
    if natBit g.flags 2 then
      if atRest then (s.put (AX_STAT.WAITING a) 1).modMo a fun m => { m with run := .segWait j false }
      else chainError a 6 s
    else if s.segSync j then
      if atRest then (s.put (AX_STAT.WAITING a) 1).modMo a fun m => { m with run := .segWait j true }
      else chainError a 6 s
    else s.modMo a fun m => { m with run := .segNext j }

/-- One tick of a segment in progress, R179; a tick above the device maximum is chain error 5. -/
def segTick (a : Nat) (g : SegRun) (s : State) : State :=
  let g := { g with n := g.n + 1 }
  let x := segPV g g.n
  if vDevice < x.v.natAbs then
    let s := chainError a 5 s
    if s.get (AX_STAT.STOPKIND a) = 2 then qstopStep a s else s
  else
    guarded a x (fun s =>
      let s := s.modMo a fun m => { m with run := .seg g }
      if g.n = g.dur then segEnd a g s else s) s

/-- The quick stop of a chain error has this tick as its first, R181. -/
def errorStep (a : Nat) (s : State) : State := if s.get (AX_STAT.STOPKIND a) = 2 then qstopStep a s else s

/-- The first tick of segment `i`: its entry is read, R178 and R180. A chain's first segment, or one whose flag was set since the segment
before it ended, waits first if it has WSYNC, unless the wait is over. -/
def segBegin (a i : Nat) (waited : Bool) (s : State) : State :=
  if s.segSync i && !waited then
    if (s.mo a).v ≠ 0 then errorStep a (chainError a 6 s)
    else (s.put (AX_STAT.WAITING a) 1).modMo a fun m => { m with run := .segWait i true }
  else
    let s := s.put (AX_CHAINST.SEG a) i
    let err := s.segError i
    let x := s.segEntry i
    if err ≠ 0 then errorStep a (segRefused a i err s)
    else
      let m := s.mo a
      segTick a ⟨i, 0, m.p, m.v, x.dpos, x.dur, x.vend, x.flags, x.next⟩ s

/-- One tick of a chain. -/
def mode3Step (a : Nat) (s : State) : State :=
  match (s.mo a).run with
  | .seg g => segTick a g s
  | .segNext i => segBegin a i false s
  | .segGo i => segBegin a i true s
  | _ => setPV a ⟨(s.mo a).p, 0⟩ s

/-- One tick of follow mode, R182. -/
def mode4Step (a : Nat) (s : State) : State :=
  match (s.mo a).run with
  | .follow c rem =>
    let m := s.mo a
    let ds := s.followChange a
    let den : Int := Int.ofNat (s.get (AX_GEARDEN.DEN a))
    let q := ds * s.getI (AX_GEARNUM.NUM a) + rem
    let c := c + q / den * 2 ^ 24
    let rem := q - den * (q / den)
    let s := s.modMo a fun m => { m with run := .follow c rem }
    if s.get (AX_SSTAT.STATE a) = 7 then s
    else if s.on (AX_FOLLOW.DIRECT a) then
      let step : Int := clampInt (-(vDevice / 2 ^ 16 : Nat)) ((vDevice / 2 ^ 16 : Nat) : Int) (c - m.p)
      let x : PV := ⟨m.p + step, step * 2 ^ 16⟩
      guarded a x (fun s => if step ≠ c - m.p then updAlert a (s.put (AX_EVT.FLWOVR a) 1) else s) s
    else
      let (x, _) := trapStep m.p m.v c (s.vmax a) (s.amax a) (s.dmax a)
      guarded a x id s
  | _ => s

/-- One step of the velocity rule of R177 toward HSPD at AX_AMAX and AX_DMAX, for homing. -/
def homeVel (a : Nat) (s : State) : State :=
  let m := s.mo a
  let lim : Int := Int.ofNat (s.hspd a)
  let vt : Int := if s.getI (AX_HOMECFG.HSPD a) < 0 then -lim else lim
  setPV a (advance m.p m.v (velStep m.v vt (s.amax a) (s.dmax a) - m.v)) s

/-- Homing completes in the tick of landing, R201. -/
def homeDone (a : Nat) (s : State) : State :=
  let s := (s.put (AX_HOMEST.STATE a) 0).put (AX_HOMEST.HOMED a) 1
  let s := endMove a true (raiseDone a (AX_EVT.DONE a) s)
  let s := s.modMo a fun m => { m with p := s.pair (AX_HOMEOFS_LO a) * 2 ^ 24 }
  let s := s.modSe a fun e => { e with fresh := true }
  updAlert a (s.put (AX_STAT.PML a) 0)

/-- One tick of homing, R201. -/
def mode5Step (a : Nat) (s : State) : State :=
  match (s.mo a).run with
  | .homeRamp p0 =>
    let s := homeVel a s
    if (s.mo a).v.natAbs = s.hspd a then
      let s := s.modMo a fun m => { m with run := .homeRun p0 }
      (s.modSe a fun e => { e with homeN := 0 }).put (AX_HOMEST.STATE a) 2
    else s
  | .homeRun p0 =>
    let s := homeVel a s
    if s.get (AX_HOMEMAX.MAX a) * 2 ^ 24 < ((s.mo a).p - p0).natAbs then quickStop a (homeAbort a 2 s) else s
  | .homeBack t =>
    let m := s.mo a
    let (x, fin) := trapStep m.p m.v t (s.hspd a) (s.amax a) (s.dmax a)
    let s := setPV a x s
    if fin then homeDone a s else s
  | _ => setPV a ⟨(s.mo a).p, 0⟩ s

/-- Whether an axis standing in OFF or PARKED leaves it for motion without a new start, R147 and R149. -/
def State.wakes (s : State) (a : Nat) : Bool :=
  match s.get (AX_STAT.MODEACT a) with
  | 1 => true
  | 2 => s.on (AX_VTGT.VTGT a)
  | 3 => match (s.mo a).run with
    | .segWait _ _ => false
    | _ => true
  | 4 => match (s.mo a).run with
    | .follow c _ => c ≠ (s.mo a).p || s.followChange a ≠ 0
    | _ => false
  | _ => false

/-- The stop segment has run, R185: its EVENT flag acts, and a VEND other than 0 is chain error 6, R181. -/
def stopSegEnd (a : Nat) (g : SegRun) (s : State) : State :=
  let s := if natBit g.flags 4 then (raiseDone a (AX_EVT.SEGEV a) s).put (AX_CHAINST.LASTEV a) g.idx else s
  if (s.mo a).v = 0 then stopDone a s else chainError a 6 s

/-- One step of the stop in progress. -/
def stopStep (a : Nat) (s : State) : State :=
  match (s.mo a).run with
  | .qstop => qstopStep a s
  | .brake l => brakeStep a l s
  | .stopSeg g =>
    let g := { g with n := g.n + 1 }
    let x := segPV g g.n
    if vDevice < x.v.natAbs then
      let s := chainError a 5 s
      if s.get (AX_STAT.STOPKIND a) = 2 then qstopStep a s else s
    else
      guarded a x (fun s =>
        let s := s.modMo a fun m => { m with run := .stopSeg g }
        if g.n = g.dur then stopSegEnd a g s else s) s
  | _ =>
    guarded a (slowStep (s.mo a) (s.dmax a)) (fun s => if (s.mo a).v = 0 then stopDone a s else s) s

/-- The step of the active mode. -/
def modeStep (a : Nat) (s : State) : State :=
  match s.get (AX_STAT.MODEACT a) with
  | 1 => mode1Step a s
  | 2 => mode2Step a s
  | 3 => mode3Step a s
  | 4 => mode4Step a s
  | 5 => mode5Step a s
  | _ => setPV a ⟨(s.mo a).p, 0⟩ s

/-- The largest position, pu. -/
def posMax : Int := 2 ^ 39 - 1

/-- The saturation check of R188 after a step from position `p0`, a step that completed a pending disable included. -/
def satCheck (a : Nat) (p0 : Int) (s : State) : State :=
  let p := (s.mo a).p
  let ovr : Bool := decide (posMax < p / 2 ^ 24) || decide (p / 2 ^ 24 < -posMax)
    || (p0 = posMax * 2 ^ 24 && decide (p0 < p))
  if ovr then
    let s := s.modMo a fun m => { m with p := if 0 < p then posMax * 2 ^ 24 else -posMax * 2 ^ 24 }
    let s := planRunCause a 11 (s.put (AX_EVT.SAT a) 1)
    haltTick a s
  else s

/-- A tick of the start delay of R149: follow sources keep being counted, R182. -/
def delayStep (a : Nat) (s : State) : State := if s.get (AX_STAT.MODEACT a) = 4 then mode4Step a s else s

/-- Steps 2 to 4 of R166 for an enabled axis. The acceleration is that of the step the tick makes: 0 if it makes none. -/
def axisMove (a : Nat) (s : State) : State :=
  let s := s.modMo a fun m => { m with acc := 0 }
  if s.on (AX_STAT.HALTED a) then s
  else
    let p0 := (s.mo a).p
    let st := s.get (AX_SSTAT.STATE a)
    let s :=
      if s.on (AX_STAT.STOPKIND a) then stopStep a s
      else if st = 7 then
        delayStep a s
      else if (st = 2 || st = 6) && s.on (AX_STANDSTILL.ENERG a) && s.wakes a then delayStep a (leaveStandstill a s)
      else modeStep a s
    let m := s.mo a
    let s :=
      if m.v ≠ 0 then s.putB (AX_SSTAT.DIR a) (decide (0 < m.v))
      else if m.p ≠ p0 then s.putB (AX_SSTAT.DIR a) (decide (p0 < m.p))
      else s
    satCheck a p0 s

/-! ### Standstill, R147 to R149 -/

/-- Distance to the park address in address direction and its sign, R148. -/
def State.parkDelta (s : State) (a : Nat) : Int :=
  let inv := s.on (AX_WAVESEL.INV a)
  let p := s.posOf a
  let addr : Nat := unsigned 10 (if inv then -p else p)
  let d : Nat := (addr + 256 - 128) % 256
  let up : Bool := s.on (AX_SSTAT.DIR a) != inv
  if d < 128 then -(d : Int) else if 128 < d then ((256 - d : Nat) : Int) else if up then 128 else -128

/-- Enters PARKING; with the axis on a park address already, PARKED. A halted axis does not park: it stays chopping at AX_CS at its
frozen address until released, R147, for which AX_SSTAT has no code of its own: it shows DELAY (DESIGN CHOICE, log entry 60). -/
def startPark (a : Nat) (s : State) : State :=
  if s.on (AX_STAT.HALTED a) then (s.put (AX_SSTAT.STATE a) 1).modMo a fun m => { m with parkHeld := true }
  else (s.put (AX_SSTAT.STATE a) (if s.parkDelta a = 0 then 6 else 5)).modMo a fun m => { m with parkHeld := false }

/-- One step of a park: 1 pu toward the park address, followed by AX_POS. The command position of a follower is not shifted with it, so
the axis steps back when it leaves its park (DESIGN CHOICE, log entry 60). -/
def parkStep (a : Nat) (s : State) : State :=
  let d := s.parkDelta a
  if d = 0 then s.put (AX_SSTAT.STATE a) 6
  else
    let dir : Int := if (0 < d) != s.on (AX_WAVESEL.INV a) then 1 else -1
    let p0 := (s.mo a).p
    let s := s.modMo a fun m => { m with p := m.p + dir * 2 ^ 24 }
    let s := s.putB (AX_SSTAT.DIR a) (decide (0 < dir))
    let s := satCheck a p0 s
    if s.parkDelta a = 0 && !s.on (AX_STAT.HALTED a) then s.put (AX_SSTAT.STATE a) 6 else s

/-- Enters the mode state of AX_STANDSTILL.MODE; from OFF or PARKED the coils are energised first when ENERG asks for it. A
forced park enters PARKING whatever the mode. -/
def modeState (a : Nat) (s : State) : State :=
  let st := s.get (AX_SSTAT.STATE a)
  let target := if (s.mo a).forcePark then 5 else s.get (AX_STANDSTILL.MODE a) + 2
  if st = 6 && target = 5 then s
  else if (st = 2 || st = 6) && target ≠ 2 && s.on (AX_STANDSTILL.ENERG a) then
    (s.put (AX_SSTAT.STATE a) 7).modMo a fun m => { m with afterEnerg := .modeState }
  else if target = 5 then startPark a s
  else (s.put (AX_SSTAT.STATE a) target).modMo a fun m => { m with parkHeld := false }

/-- The standstill table at a tick, R147. -/
def standstill (a : Nat) (s : State) : State :=
  let st := s.get (AX_SSTAT.STATE a)
  if s.on (AX_FLTSTAT.STATE a) || st = 7 then s
  else if !s.atStandstill a then (s.put (AX_SSTAT.STATE a) 0).modMo a fun m => { m with parkHeld := false }
  else if (s.mo a).forcePark && st ≠ 5 && st ≠ 6 then modeState a s
  else
    let target := if (s.mo a).forcePark then 5 else s.get (AX_STANDSTILL.MODE a) + 2
    if st = 0 then (if s.on (AX_STANDSTILL.DELAY a) then s.put (AX_SSTAT.STATE a) 1 else modeState a s)
    else if st = 1 then
      -- a halted axis whose mode state is PARKING parks when released, and enters a mode state written meanwhile
      (if (s.mo a).parkHeld && (!s.on (AX_STAT.HALTED a) || target ≠ 5) then modeState a s else s)
    else if st = 5 then (if target = 5 && !s.on (AX_STAT.HALTED a) then parkStep a s else modeState a s)
    else if st = 6 then (if target = 5 then s else modeState a s)
    else if st = target then s
    else modeState a s

/-- The standstill delay has elapsed, R147. -/
def delayExpiry (a : Nat) (s : State) : State :=
  if s.enabled a && s.get (AX_SSTAT.STATE a) = 1 && !s.on (AX_FLTSTAT.STATE a) then modeState a s else s

/-- ENERG ticks have elapsed, R149: the axis moves, or enters the written mode state. -/
def energExpiry (a : Nat) (s : State) : State :=
  if s.enabled a && s.get (AX_SSTAT.STATE a) = 7 then
    let after := (s.mo a).afterEnerg
    let s := (s.put (AX_SSTAT.STATE a) 0).modMo a fun m => { m with afterEnerg := .none }
    if after = .modeState then modeState a s else s
  else s

/-! ### Microstep sequencer, R152 to R164 -/

/-- Quantum of a band. -/
def quantum (band : Nat) : Nat := 4 ^ band

/-- Entry speed of band 1 to 4 as the hardware compares it; 0xFFFF never. -/
def State.bandTh (s : State) (a b : Nat) : Option Nat :=
  let v := if b = 1 then s.get (AX_RESBAND0.V1 a) else if b = 2 then s.get (AX_RESBAND0.V2 a)
    else if b = 3 then s.get (AX_RESBAND1.V3 a) else s.get (AX_RESBAND1.V4 a)
  if v = 0xFFFF then none else some (speedTh v)

/-- Whether speed `sp` reaches band `b`. -/
def State.reaches (s : State) (a b sp : Nat) : Bool :=
  match s.bandTh a b with
  | none => false
  | some th => decide (th ≤ sp)

/-- Whether speed `sp` falls under the leaving level of band `b`; a band that is never entered is always left. -/
def State.leaves (s : State) (a b sp : Nat) : Bool :=
  match s.bandTh a b with
  | none => true
  | some th => decide (sp < th - th / 8)

/-- Going down from a band: the first band not left, or 0. -/
def State.bandDown (s : State) (a sp : Nat) : Nat → Nat
  | 0 => 0
  | b + 1 => if s.leaves a (b + 1) sp then s.bandDown a sp b else b + 1

/-- The band called for from band `b` at speed `sp`, R161. -/
def State.bandFor (s : State) (a b sp : Nat) : Nat :=
  if b < 4 && s.reaches a (b + 1) sp then
    if s.reaches a 4 sp then 4 else if s.reaches a 3 sp then 3 else if s.reaches a 2 sp then 2 else 1
  else if 0 < b && s.leaves a b sp then s.bandDown a sp (b - 1)
  else b

/-- Largest grid point at or below p, and smallest at or above, R162. -/
def gridBelow (p : Int) (q : Nat) : Int := p - (p - 128) % q
def gridAbove (p : Int) (q : Nat) : Int := -(gridBelow (-p) q)

/-- The sequencer at a tick, R163; frozen while the axis is halted. In CONTACT of a homing, at velocity 0, the band is 0 and the address
is held, R201. -/
def sequence (a : Nat) (s : State) : State :=
  if s.on (AX_STAT.HALTED a) then s
  else if s.get (AX_HOMEST.STATE a) = 3 then
    let s := s.modSe a fun e => { e.cut with pprev := (s.mo a).p / 2 ^ 24, signPrev := 0 }
    ((s.put (AX_USTAT.BAND a) 0).put (AX_USTAT.TGT a) 0).put (AX_USTAT.PEND a) 0
  else
    let m := s.mo a
    let e := s.se a
    let p := m.p / 2 ^ 24
    let v := m.v
    let sg : Int := if v < 0 then -1 else if 0 < v then 1 else 0
    let pprev := if e.fresh then p else e.pprev
    let band := s.get (AX_USTAT.BAND a)
    let (band, tgt, pos) : Nat × Nat × Int :=
      if v = 0 ∨ sg ≠ e.signPrev then (0, 0, p)
      else
        let tgt := s.bandFor a band (speedOf v)
        let g := quantum (max band tgt)
        let crossed : Bool := if 0 < v then decide (pprev < gridBelow p g) else decide (gridAbove p g < pprev)
        let band := if tgt ≠ band && crossed then tgt else band
        (band, tgt, if 0 < v then gridBelow p (quantum band) else gridAbove p (quantum band))
    let reversed : Bool := v = 0 || (e.signPrev ≠ 0 && sg ≠ e.signPrev)
    let s := s.modSe a fun e => { (if reversed then e.cut else e) with
      addrPos := pos, pprev := p, signPrev := sg, fresh := false }
    (((s.put (AX_USTAT.BAND a) band).put (AX_USTAT.TGT a) tgt).putB (AX_USTAT.PEND a) (tgt ≠ band)).put
      (AX_USTAT.ADDR a) (s.tableAddr a pos)

/-! ### After the step -/

/-- Validity of the estimate and consumers of the tick's motion: R195, R197, R145, R227. `moving` says that a move was in progress at
this tick, its last one included. -/
def axisEstimate (a : Nat) (moving : Bool) (s : State) : State :=
  let m := s.mo a
  let steady : Bool := m.acc = 0
  let s := s.modSe a fun e => { e with
    steady := steady
    learnN := if steady then e.learnN else 0
    learnSum := if steady then e.learnSum else 0 }
  let s :=
    if !s.on (AX_BEMFCFG.EN a) then setInvalid a 5 s
    else if speedOf m.v < speedTh (s.get (AX_BEMFSPD.MINSPD a)) then setInvalid a 1 s
    else s
  let s := applySuspend a s
  if moving then s.modSe a fun e => { e with csSum := e.csSum + e.csEff, csN := e.csN + 1 } else s

/-- Writes the live position, velocity and status words of an axis, R168 and R190. AX_ACC takes the low 32 bits of an acceleration that
does not fit it (DESIGN CHOICE, log entry 60). -/
def axisPublish (a : Nat) (s : State) : State :=
  let m := s.mo a
  let p := m.p / 2 ^ 24
  let s := s.putPair (AX_POS_LO a) p
  let s := (s.putI (AX_VEL.VEL a) (m.v / 2 ^ 24)).putI (AX_ACC.ACC a) (m.acc / 2 ^ 8)
  let s := s.putB (AX_STAT.MOVING a) (m.v ≠ 0)
  let outside : Bool := s.on (AX_LIMCFG.EN a)
    && (decide (m.p < s.pair (AX_LIMN_LO a) * 2 ^ 24) || decide (s.pair (AX_LIMP_LO a) * 2 ^ 24 < m.p))
  let s := s.putB (AX_STAT.OUTSIDE a) outside
  match m.run with
  | .follow c _ => s.putI (AX_FLWERR.ERR a) (clampInt (-(2 ^ 31 - 1)) (2 ^ 31 - 1) (c / 2 ^ 24 - p))
  | _ => s

/-- Everything a tick does to one axis after the commands. -/
def axisTick (a : Nat) (s : State) : State :=
  if s.enabled a then
    let moving := (s.mo a).moving
    let s := axisMove a s
    if s.enabled a then
      let s := standstill a s
      let s := sequence a s
      let s := axisEstimate a moving s
      let s := witTick a s
      let s := s.modMo a fun m => { m with
        still := s.atStandstill a
        stillAt := if s.atStandstill a then some (m.stillAt.getD s.ticks) else none }
      axisPublish a s
    else axisPublish a (witTick a s)
  else if s.ax a = {} && !s.on (AX_LIMCFG.EN a) && !s.on (AX_STAT.OUTSIDE a) && s.get (AX_WITCFG.SRC a) ≠ 2 then s
  else axisPublish a (witTick a s)

end Sys2Proof.Machine
end

