-- ==== Sys2Proof/Machine/FaultOps.lean ====
section
/-!
DEFINITION. Machine/FaultOps.lean: the axis fault manager (R121 to R128), rank, coach and side faults and their clears (R127 to
R131), and the loss of a coupling (R19 to R23).
-/

namespace Sys2Proof.Machine

/-! ### Legs held off -/

/-- The legs of rank `r`. -/
def rankLegs (r : Nat) : List Nat := (List.range 32).map fun i => 32 * r + i

/-- The axes of rank `r`, coach `c`, side `sd`. -/
def rankAxes (r : Nat) : List Nat := (List.range 8).map fun i => 8 * r + i
def coachAxes (c : Nat) : List Nat := (List.range 32).map fun i => 32 * c + i
def sideCoaches (sd : Nat) : List Nat := [2 * sd, 2 * sd + 1]
def coachRanks (c : Nat) : List Nat := (List.range 4).map fun i => 4 * c + i

/-- Whether the hub holds the legs of axis `a` off: FAULT_WAIT or LATCHED, or a latched rank or coach fault. -/
def State.heldOff (s : State) (a : Nat) : Bool :=
  s.get (AX_FLTSTAT.STATE a) = 1 || s.get (AX_FLTSTAT.STATE a) = 3
    || s.on (RK_FLTSTAT.FAULT (axisRank a)) || s.on (CO_FLTSTAT.FAULT (axisCoach a))

/-- Whether a fault of cause VM_OV brakes the axis, R129. -/
def State.ovBrake (s : State) (a : Nat) : Bool :=
  s.get (AX_FLTSTAT.STATE a) = 3 && s.get (AX_FLTSTAT.CAUSE a) = 12 && !s.on (CO_PROTCFG.OVACT (axisCoach a))
    && !s.on (RK_FLTSTAT.FAULT (axisRank a)) && !s.on (CO_FLTSTAT.FAULT (axisCoach a))

/-! ### Axis faults, R123 and R125 -/

/-- Retry causes, R125. -/
def retryCause (cause : Nat) : Bool := cause = 1 || cause = 2 || cause = 4 || cause = 5

/-- Faults axis `a`, R123, without its kill frame: fault state by R125, cause, counters, halt, plan and alert. -/
def faultState (a cause leg : Nat) (s : State) : State :=
  let st := s.get (AX_FLTSTAT.STATE a)
  if st = 3 || st = 1 && retryCause cause then s
  else
    let s := planCause a 2 s
    let wait : Bool := retryCause cause && decide (s.get (AX_FLTSTAT.TRYCNT a) < s.get (AX_FLTCFG.TRIES a))
    let s := ((s.put (AX_FLTSTAT.STATE a) (if wait then 1 else 3)).put (AX_FLTSTAT.CAUSE a) cause).put (AX_FLTSTAT.LEG a) leg
    let s := (haltNow a true (s.inc (AX_FLTCNT.FAULTS a))).modMo a fun m => { m with ownParity := false }
    updAlert a s

/-- Faults an enabled axis and kills its legs. -/
def faultAxis (a cause leg : Nat) (s : State) : State :=
  if s.enabled a then killLegs (axisCoach a) (s.axisLegs a) (faultState a cause leg s) else s

/-- Faults the enabled axes of a list. -/
def faultAll (axes : List Nat) (cause leg : Nat) (s : State) : State :=
  forEach axes (fun a s => if s.enabled a then faultState a cause leg s else s) s

/-- A clear would be refused now, R131. A RANK_OT fault of a rank whose sensors are both invalid can be cleared: there is no temperature
to compare (DESIGN CHOICE, log entry 58). -/
def State.rankClearBlocked (s : State) (r : Nat) : Bool :=
  let cause := s.get (RK_FLTSTAT.CAUSE r)
  let x := s.coach (r / 4)
  if cause = 8 then s.on (RK_THERM.VALID r) && decide (2080 < s.getI (RK_THERM.TEMP r))
  else if cause = 9 then natBit x.cpuv (r % 4)
  else if cause = 15 then !s.on (RK_THERM.VALID r)
  else false

/-- Recomputes RK_FLTSTAT.CLRBLK. -/
def updRank (r : Nat) (s : State) : State := s.putB (RK_FLTSTAT.CLRBLK r) (s.on (RK_FLTSTAT.FAULT r) && s.rankClearBlocked r)

/-- Some axis of a list is enabled and not latched: a fault of its scope still has to stop it. -/
def State.anyRunning (s : State) (axes : List Nat) : Bool :=
  axes.any fun a => s.enabled a && s.get (AX_FLTSTAT.STATE a) ≠ 3

/-- A rank fault, R128: the first latches in RK_FLTSTAT and pends its event; each stops every enabled axis of the rank. -/
def rankFault (r cause leg : Nat) (s : State) : State :=
  if s.on (RK_FLTSTAT.FAULT r) && !s.anyRunning (rankAxes r) then s
  else
    let s := if s.on (RK_FLTSTAT.FAULT r) then s
      else pend r cause leg (setAct r true ((s.put (RK_FLTSTAT.FAULT r) 1).put (RK_FLTSTAT.CAUSE r) cause))
    let s := faultAll (rankAxes r) cause leg s
    updRank r (killLegs (r / 4) (rankLegs r) s)

/-- A coach fault latches, R128. -/
def coachFault (c cause : Nat) (s : State) : State :=
  let s := if s.on (CO_FLTSTAT.FAULT c) then s
    else pend (16 + c) cause 0 (setAct (16 + c) true ((s.put (CO_FLTSTAT.FAULT c) 1).put (CO_FLTSTAT.CAUSE c) cause))
  faultAll (coachAxes c) cause 0 s

/-- A coach fault whose legs are killed by a frame: GREGUV. -/
def gregFault (c : Nat) (s : State) : State :=
  if s.on (CO_FLTSTAT.FAULT c) && !s.anyRunning (coachAxes c) then s
  else killLegs c ((List.range 128).map fun i => 128 * c + i) (coachFault c 10 s)

/-! ### Clearing, R127 and R131 -/

/-- An axis fault is cleared to OK with the axis disabled; HALTED clears with it, R186. -/
def clearAxis (a : Nat) (s : State) : State :=
  let s := (s.put (AX_FLTSTAT.STATE a) 0).put (AX_FLTSTAT.CAUSE a) 0
  let s := (disableNow a s).put (AX_STAT.HALTED a) 0
  updAlert a (s.modMo a fun m => { m with faultHalt := false })

/-- Rank causes and coach causes, R128. -/
def rankCause (cause : Nat) : Bool := cause = 3 || cause = 8 || cause = 9 || cause = 15
def coachCause (cause : Nat) : Bool := cause = 10 || cause = 13 || cause = 14

/-- Whether the cause of axis `a`'s fault is a coach cause: a CFG_PARITY of one of its own words is not. -/
def State.byCoach (s : State) (a : Nat) : Bool :=
  coachCause (s.get (AX_FLTSTAT.CAUSE a)) && !(s.get (AX_FLTSTAT.CAUSE a) = 14 && (s.mo a).ownParity)

/-- A word of axis `a` fails parity and has not been rewritten, R86. -/
def State.axisBad (s : State) (a : Nat) : Bool := s.badWithin (0x10000 + 0x200 * a) 0x200

/-- Whether AX_FLTCTL.CLR would be refused for an axis in fault state `st`, R127; R86 keeps a faulted axis in its safe state
until its word has been rewritten (DEDUCED, log entry 58). -/
def State.clearRefused (s : State) (a st : Nat) : Bool :=
  let cause := s.get (AX_FLTSTAT.CAUSE a)
  let c := axisCoach a
  st ≠ 3
    || (rankCause cause && s.on (RK_FLTSTAT.FAULT (axisRank a)))
    || (s.byCoach a && s.on (CO_FLTSTAT.FAULT c))
    || s.axisBad a
    || (cause = 11 && s.on (CO_VM.UVF c)) || (cause = 12 && s.on (CO_VM.OVF c))
    || ((cause = 11 || cause = 12) && (s.on (CO_VM.UVF c) || s.on (CO_VM.OVF c)))

/-- An accepted AX_FLTCTL.CLR: the retries restart at 0 and the legs are released. -/
def clearAxisCmd (a : Nat) (s : State) : State :=
  let s := clearAxis a (s.put (AX_FLTSTAT.TRYCNT a) 0)
  if s.heldOff a then s else sendCtl (axisCoach a) (.release (s.axisLegs a) false) s

/-- The legs of a list that belong to no axis still held off. -/
def State.releasable (s : State) (legs : List Nat) : List Nat := legs.filter fun l => !s.heldOff (s.legOwner l).1

/-- An accepted RK_FLTCTL.CLR, R131. -/
def clearRank (r : Nat) (s : State) : State :=
  let s := setAct r false ((s.put (RK_FLTSTAT.FAULT r) 0).put (RK_FLTSTAT.CAUSE r) 0)
  let s := forEach (rankAxes r) (fun a s =>
    if s.get (AX_FLTSTAT.STATE a) = 3 && rankCause (s.get (AX_FLTSTAT.CAUSE a)) then clearAxis a s else s) s
  let s := { s with runs := s.runs.filter fun x => decide (x.1 / 32 ≠ r) }
  updRank r (sendCtl (r / 4) (.release (s.releasable (rankLegs r)) false) s)

/-- CO_FLTCTL.CLR would be refused, R131. -/
def State.coachClearRefused (s : State) (c : Nat) : Bool :=
  !s.on (CO_LINKSTAT.UP c) || !s.on (CO_STAT.GREGOK c) || !(s.coach c).badWords.isEmpty

/-- An accepted CO_FLTCTL.CLR, R131: the CTL release of R23. Axes latched with another cause stay latched, and every slot of the
coach is disabled, since the coach resumes so; of a coach with no fault latched and not in its safe state too (DESIGN CHOICE, log
entry 58). -/
def clearCoach (c : Nat) (s : State) : State :=
  let s := setAct (16 + c) false ((s.put (CO_FLTSTAT.FAULT c) 0).put (CO_FLTSTAT.CAUSE c) 0)
  let s := forEach (coachAxes c) (fun a s =>
    if s.get (AX_FLTSTAT.STATE a) = 3 && s.byCoach a then clearAxis a (s.put (AX_FLTSTAT.TRYCNT a) 0)
    else if s.enabled a then disableNow a s
    else s) s
  sendCtl c (.release (s.releasable ((List.range 128).map fun i => 128 * c + i)) true) s

/-- An accepted CO_FLTCTL.CLRVM. -/
def clearVm (c : Nat) (s : State) : State :=
  let s := forEach (coachAxes c) (fun a s =>
    let cause := s.get (AX_FLTSTAT.CAUSE a)
    if s.get (AX_FLTSTAT.STATE a) = 3 && (cause = 11 || cause = 12) then clearAxis a s else s) s
  let legs := s.releasable ((List.range 128).map fun i => 128 * c + i)
  if legs.isEmpty then s else sendCtl c (.release legs false) s

/-! ### Classification, R121 -/

/-- A trip passed to the manager by a STAT frame: kept only on an enabled slot, R120. -/
def acceptTrip (leg : Nat) (hard : Bool) (period stamp : Nat) (s : State) : State :=
  let (a, e) := s.legOwner leg
  if s.enabled a then { s with trips := s.trips ++ [⟨leg, hard, period, stamp, a, e, false, false, false⟩] } else s

/-- Drops trips both checks have passed. -/
def sweepTrips (s : State) : State :=
  { s with trips := s.trips.filter fun t => !((t.checked || t.claimed) && t.counted) }

/-- The distinct coil ends of a list of trips, as (axis, end) pairs. -/
def coilEnds (l : List Trip) : List (Nat × Nat) := (l.map fun t => (t.axis, t.coilEnd)).eraseDups

/-- The first tripped leg of axis `a` in a list in time order, or the first leg. -/
def firstLeg (l : List Trip) (a : Nat) : Nat :=
  match l.find? fun t => t.axis = a with
  | some t => t.leg
  | none => (l.head?.map (·.leg)).getD 0

/-- RK_TRIPMAP of each rank involved in a classified event. -/
def tripMaps (l : List Trip) (s : State) : State :=
  forEach ((l.map fun t => t.leg / 32).eraseDups) (fun r s =>
    let m := (l.filter fun t => t.leg / 32 = r).foldl (fun m t => natPutBit m (t.leg % 32) true) 0
    s.put (RK_TRIPMAP.LEGS r) m) s

/-- Earliest trip that is neither claimed nor checked. -/
def nextTrip (l : List Trip) : Option Trip :=
  (l.filter fun t => !t.claimed && !t.checked).foldl (fun b t =>
    match b with
    | none => some t
    | some x => if t.stamp < x.stamp then some t else some x) none

/-- Two trips lie within 1.000 µs. -/
def within1us (x t : Trip) : Bool := decide (x.stamp ≤ t.stamp + 200) && decide (t.stamp ≤ x.stamp + 200)

/-- The 1 µs check of one trip, R121. AX_FLTSTAT.LEG of each axis of an XAXIS event is the first of that axis's own legs that tripped:
'first leg of the event' leaves it open (DESIGN CHOICE, log entry 58). -/
def checkTrip (x : Trip) (s : State) : State :=
  let set := s.trips.filter fun t => !t.claimed && within1us x t
  let ends := coilEnds set
  let axes := (ends.map (·.1)).eraseDups
  let ranks := (axes.map axisRank).eraseDups
  let bad := ranks.filter fun r => decide (4 ≤ (ends.filter fun p => axisRank p.1 = r).length)
  let s := forEach bad (fun r s => rankFault r 3 (firstLeg (set.filter fun t => axisRank t.axis = r) 128) s) s
  let mine := (ends.filter fun p => p.1 = x.axis).length
  let (hit, s) :=
    if 2 ≤ axes.length then
      (true, forEach axes (fun a s =>
        if s.on (RK_FLTSTAT.FAULT (axisRank a)) then s else faultAxis a 2 (firstLeg set a) s) s)
    else if 2 ≤ mine then (true, faultAxis x.axis 1 (firstLeg set x.axis) s)
    else if x.hard then (true, faultAxis x.axis 4 x.leg s)
    else (false, s)
  if hit || !bad.isEmpty then
    let s := tripMaps set s
    { s with trips := s.trips.map fun t => if !t.claimed && within1us x t then { t with claimed := true } else t }
  else { s with trips := s.trips.map fun t => if t = x then { t with checked := true } else t }

/-- The 1 µs check that is due next. -/
def tripCheck (s : State) : State :=
  match nextTrip s.trips with
  | none => s
  | some x => sweepTrips (checkTrip x s)

/-- The run count of a coil end, R121. -/
def State.runCount (s : State) (a e : Nat) : Nat := Sparse.get (fun _ => 0) s.runs (4 * a + e)

/-- The period check of coach `c` for period `p`, R121. -/
def periodCheck (c p : Nat) (s : State) : State :=
  let inP := s.trips.filter fun t => axisCoach t.axis = c && t.period % 256 = p % 256 && !t.counted
  let ends := coilEnds inP
  let s := forEach (coachAxes c) (fun a s =>
    if s.enabled a && s.get (AX_FLTSTAT.STATE a) % 2 = 0 && decide (2 ≤ (ends.filter fun q => q.1 = a).length)
    then faultAxis a 1 (firstLeg inP a) (tripMaps (inP.filter fun t => t.axis = a) s) else s) s
  let s := forEach (coachAxes c) (fun a s => forEach [0, 1, 2, 3] (fun e s =>
    let run := if ends.contains (a, e) then s.runCount a e + 1 else 0
    let s := { s with runs := Sparse.set (fun _ => 0) s.runs (4 * a + e) run }
    if run = s.get (CO_PROTCFG.PERSIST c) then
      faultAxis a 5 (firstLeg inP a) (tripMaps (inP.filter fun t => t.axis = a) s)
    else s) s) s
  let mark (t : Trip) : Trip :=
    if axisCoach t.axis = c && t.period % 256 = p % 256 then { t with counted := true } else t
  sweepTrips { s with trips := s.trips.map mark }

/-! ### Retry, R125 -/

/-- WAIT has elapsed: TEST, unless a rank, coach or VM fault stands. -/
def waitExpiry (a : Nat) (s : State) : State :=
  let c := axisCoach a
  if s.get (AX_FLTSTAT.STATE a) = 1 && !s.on (RK_FLTSTAT.FAULT (axisRank a)) && !s.on (CO_FLTSTAT.FAULT c)
      && !s.on (CO_VM.UVF c) && !s.on (CO_VM.OVF c) then
    let s := (s.put (AX_FLTSTAT.STATE a) 2).put (AX_FLTSTAT.TRYCNT a) (s.get (AX_FLTSTAT.TRYCNT a) + 1)
    sendCtl c (.release (s.axisLegs a) false) (s.inc (AX_FLTCNT.RETRIES a))
  else s

/-- Sixteen periods passed in TEST: OK at standstill with AX_MODE = 0; AXIS_ALERT pends. -/
def testPass (a : Nat) (s : State) : State :=
  if s.get (AX_FLTSTAT.STATE a) = 2 then
    let s := (s.put (AX_FLTSTAT.STATE a) 0).put (AX_FLTSTAT.RECOV a) 1
    let s := (s.put (AX_STAT.HALTED a) 0).setStaged (AX_MODE a) {}
    let s := (s.put (AX_MODE.MODE a) 0).put (AX_SSTAT.STATE a) 0
    let s := (s.modMo a fun m => { m with faultHalt := false }).modSe a fun e => { e with fresh := true }
    pend (48 + a / 8) (s.get (AX_FLTSTAT.CAUSE a)) a (updAlert a s)
  else s

/-! ### Side conditions, R115, R116, R129 and R130 -/

/-- Whether side `sd` is in a VM condition: either coach's comparator reports it. -/
def State.sideUvf (s : State) (sd : Nat) : Bool := (sideCoaches sd).any fun c => (s.coach c).uvf
def State.sideUvw (s : State) (sd : Nat) : Bool := (sideCoaches sd).any fun c => (s.coach c).uvw
def State.sideOvf (s : State) (sd : Nat) : Bool := (sideCoaches sd).any fun c => (s.coach c).ovf
def State.sideOvw (s : State) (sd : Nat) : Bool := (sideCoaches sd).any fun c => (s.coach c).ovw

/-- Shows the side's conditions in CO_VM of both coaches and in EV_ACT. -/
def showSide (sd : Nat) (s : State) : State :=
  let s := forEach (sideCoaches sd) (fun c s =>
    (((s.putB (CO_VM.UVF c) (s.sideUvf sd)).putB (CO_VM.OVF c) (s.sideOvf sd)).putB (CO_VM.UVW c) (s.sideUvw sd)).putB
      (CO_VM.OVW c) (s.sideOvw sd)) s
  setAct (26 + sd) (s.sideUvw sd || s.sideOvw sd) (setAct (24 + sd) (s.sideUvf sd || s.sideOvf sd) s)

/-- The axes of a side. -/
def sideAxes (sd : Nat) : List Nat := (List.range 64).map fun i => 64 * sd + i

/-- A side fault acts, R128: legs off by kill frames, or brake for VM_OV with OVACT = 0, R129. An axis that is to brake and whose
legs were held off in FAULT_WAIT is released, so that its brake records take effect. -/
def sideFault (sd cause : Nat) (s : State) : State :=
  let held := (sideAxes sd).filter fun a => s.enabled a && s.get (AX_FLTSTAT.STATE a) = 1
  let s := pend (24 + sd) cause 0 s
  let s := faultAll (sideAxes sd) cause 0 s
  forEach (sideCoaches sd) (fun c s =>
    if cause = 12 && !s.on (CO_PROTCFG.OVACT c) then
      forEach (held.filter fun a => axisCoach a = c && s.ovBrake a) (fun a s => sendCtl c (.release (s.axisLegs a) false) s) s
    else killLegs c ((List.range 128).map fun i => 128 * c + i) s) s

/-- A coach's comparators change; the side's new conditions pend and act. VM_WARN stands for the side's two warnings as one
condition: entering the second while the first holds pends nothing (DESIGN CHOICE, log entry 58). -/
def vmChange (c : Nat) (f : Coach → Coach) (s : State) : State :=
  let sd := coachSide c
  let uvf := s.sideUvf sd
  let ovf := s.sideOvf sd
  let warn := s.sideUvw sd || s.sideOvw sd
  let s := showSide sd (s.modCoach c f)
  let s := applyIf (!uvf && s.sideUvf sd) (sideFault sd 11) s
  let s := applyIf (!ovf && s.sideOvf sd) (sideFault sd 12) s
  applyIf (!warn && (s.sideUvw sd || s.sideOvw sd)) (pendSrc (26 + sd)) s

/-! ### Coupling loss, R19 to R23 -/

/-- The state a leg's commands take it to, R98, its tripped switches ignoring theirs (R117), and a killed leg held off (R123). -/
def nextPhase (g : Leg) : LegPhase :=
  if g.phase = .block then .block
  else if g.killed then .off
  else if g.hs && !g.tripHs then (if g.phase = .hsOn then .hsOn else .waitHs)
  else if g.ls && !g.tripLs then (if g.phase = .lsOn then .lsOn else .waitLs)
  else .off

/-- Moves a leg to the state its commands call for; a new wait starts with its condition not met. -/
def settle (l : Nat) (s : State) : State :=
  s.modLeg l fun g =>
    let p := nextPhase g
    { g with phase := p, ready := if p = g.phase then g.ready else false }

/-- The coach takes its safe state, R20: brake leaves the low sides of enabled slots on, every other leg goes off. A killed leg
stays off, a tripped low side and a leg in BLOCK follow at the next period. The set applied before is not repeated: after the release
slots are disabled until a new set comes, R23. -/
def coachSafe (c : Nat) (s : State) : State :=
  let brake := (s.coach c).safeSel
  let s := forEach ((List.range 128).map fun i => 128 * c + i) (fun l s =>
    let on : Bool := brake && s.enabled (s.legOwner l).1 && !s.absent (s.legOwner l).1
    settle l ((s.put (LEG_TEST.OVR l) 0).modLeg l fun g => { g with hs := false, ls := on })) s
  let s := forEach (coachRanks c) (fun r s => forEach (List.range 16) (fun z s =>
    s.modCoil r z fun x => { x with phase := .off, cmd := {} }) s) s
  (s.modCoach c fun x => { x with safe := true, applied := [], snsq := [], sar := [] }).put (CO_LINKSTAT.SAFEACT c) 1

/-- The coach and its rank whose RK_MODE an exchange writes. -/
def Exchange.modeOf (e : Exchange) : Option (Nat × Nat) :=
  match locate e.addr with
  | some l => if l.defn.reg = .RK_MODE && e.wr.isSome then some (l.inst / 4, l.inst % 4) else none
  | none => none

/-- An RK_MODE write has failed: MODEPEND stays until the hub has read the value back, R111. -/
def modeFailed (e : Exchange) (s : State) : State :=
  match e.modeOf with
  | some (c, q) => s.modCoach c fun k => { k with modeLost := natPutBit k.modeLost q true }
  | none => s

/-- A coach register exchange ends with an answer to its master, R17 and R18. -/
def endExchange (e : Exchange) (r : Reply) (s : State) : State :=
  let s := match r with
    | .error x => recordErr e.master e.addr x (modeFailed e s)
    | _ => s
  let s := s.answer e.master r
  if e.master = .trio then { s with net := { s.net with done := s.net.done ++ [(e.addr, r)] } } else s

/-- Every exchange of a coupling ends: the one under way with LINK_ERR, those still queued with DOMAIN_OFF, R18. -/
def endExchanges (q : List Exchange) (s : State) : State :=
  match q with
  | [] => s
  | h :: t => t.foldl (fun s e => endExchange e (.error .domainOff) s) (endExchange h (.error .linkErr) s)

/-- The hub declares the coupling lost, R22. `cause` is the LOSSCAUSE; exchanges and CTL frames under way are lost. -/
def couplingLost (c cause : Nat) (s : State) : State :=
  let s := (s.put (CO_LINKSTAT.UP c) 0).put (CO_LINKSTAT.LOSSCAUSE c) cause
  let q := (s.coach c).cfgq
  let s := s.modCoach c fun x => { x with cfgq := [], ctlq := [], snsq := [], training := false, tx := [], rx := [] }
  coachFault c 13 (endExchanges q s)

end Sys2Proof.Machine
end

