-- ==== Sys2Proof/Machine/LandOps.lean ====
section
/-!
DEFINITION. Machine/LandOps.lean: staged words landing at their natural boundary (R78 to R80), and what a landing starts.
-/

namespace Sys2Proof.Machine

/-- The class whose hold applies to a landing, R80: the PWM period register lands at a LEG boundary of its own (R133). -/
def holdIndex : BufClass → Option Nat
  | .axis => some 0
  | .pwm => some 1
  | .leg => some 2
  | .period => some 2
  | .conv => some 3
  | .frame => some 4
  | _ => none

/-- Whether GCTL_BUFHOLD holds back a class, R80. -/
def State.held (s : State) (c : BufClass) : Bool :=
  match holdIndex c with
  | none => false
  | some b => natBit (s.get GCTL_BUFHOLD.HOLD) b

/-- The bits of a register that land with a class. -/
def RegDef.classMask (d : RegDef) (c : BufClass) : Word := d.maskOf fun f => f.buffered && f.cls = c

/-- The bits of one field of a register's mask are all among the bits that landed. -/
def landedField (m : Word) (f : Fld) : Bool := m &&& fieldMask f.hi f.lo = fieldMask f.hi f.lo

/-- Followers show their leader's code, R108. -/
def showFollower (l : Nat) (s : State) : State :=
  let m := s.legLeader l
  if m = l then s.put (LEG_STAT.FOLLOW l) 0
  else
    let s := (s.modLeg l fun g => { g with pin := 0 }).put (LEG_STAT.PINNED l) 0
    (s.put (LEG_STAT.FOLLOW l) 1).put (LEG_STAT.DRVCODE l) (s.get (LEG_STAT.DRVCODE m))

/-- A leg that does not adapt holds DRVINIT, and its followers show the same code, R104 and R108. -/
def holdCode (l : Nat) (s : State) : State :=
  if s.legLeader l ≠ l || s.on (LEG_CFG.ADAPT l) then s
  else
    let s := ((s.put (LEG_STAT.DRVCODE l) (s.get (LEG_CFG.DRVINIT l))).put (LEG_STAT.PINNED l) 0).modLeg l fun g => { g with pin := 0 }
    forEach (s.legGang l) showFollower s

/-- What follows when bits `m` of a register, which held `old`, have landed. -/
def landed (l : Loc) (m old : Word) (s : State) : State :=
  let a := l.inst
  match l.defn.reg with
  | .AX_DECAY =>
    -- FFEFF restarts when TRIM is written 1 and when FF is written, R143
    if landedField m (AX_DECAY.FF a) || (landedField m (AX_DECAY.TRIM a) && s.on (AX_DECAY.TRIM a)) then
      s.modSe a fun e => { e with ffEff := s.get (AX_DECAY.FF a) }
    else s
  | .AX_TGT_LO =>
    -- during an S-curve move a landed target is held, R175
    (match (s.mo a).run with
    | .scurve _ => s.put (AX_STAT.TGTPEND a) 1
    | _ => s)
  | .AX_CS =>
    -- a new CSN raises a suspended CS_EFF at this build, R146
    let c := s.suspend a
    if c = 2 || c = 3 then applySuspend a s else s
  | .AX_BEMFKE =>
    -- a write of KE clears LEARNED and ends learning, R197
    ((s.put (AX_BEMFKE.LEARNED a) 0).put (AX_BEMFKE.LEARNING a) 0).modSe a fun e => { e with learnN := 0, learnSum := 0 }
  | .AX_STALLCFG => s.putB (AX_STALLST.UNAV a) (s.on (AX_STALLCFG.EN a) && !s.on (AX_LA.VALID a))
  | .CMP_CFG => if landedField m (CMP_CFG.ARM a) then cmpArm a (s.on (CMP_CFG.ARM a)) s else s
  -- the windows of R233 start when the channel is enabled, its filters when they are to run, R229
  | .ENC_CFG =>
    let ran : Bool := old.getLsbD 0 || wordField old (ENC_CFG.REPEAT a).hi (ENC_CFG.REPEAT a).lo = 2
    let s := applyIf (s.encFilters a && !ran) (·.modEnc a fun e => { e with filt := Filt.begin s.clock }) s
    if s.on (ENC_CFG.EN a) && !old.getLsbD 0 then encWindow a s else s
  | .ENC_FILT =>
    s.modEnc a fun e => { e with filt := e.filt.change (wordField old (ENC_FILT.PRE a).hi (ENC_FILT.PRE a).lo) s.clock }
  | .ENC_ERRCFG => encFault a s
  | .STEP_CFG =>
    let starts : Bool := s.on (STEP_CFG.EN a) && !old.getLsbD 0
    showDir a (applyIf starts (·.modEnc a fun e => { e with stepFilt := Filt.begin s.clock }) s)
  | .STEP_FILT =>
    s.modEnc a fun e =>
      { e with stepFilt := e.stepFilt.change (wordField old (STEP_FILT.PRE a).hi (STEP_FILT.PRE a).lo) s.clock }
  | .LEG_CFG => holdCode a s
  | .CO_SLEWTGT =>
    -- the pin count of every leg of the coach restarts, R104
    forEach ((List.range 128).map fun i => 128 * a + i) (fun g s =>
      (s.modLeg g fun x => { x with pin := 0 }).put (LEG_STAT.PINNED g) 0) s
  | _ => s

/-- The bits of class `c` staged at an address. -/
def State.landing (c : BufClass) (addr : Nat) (s : State) : Word :=
  match locate addr with
  | none => 0
  | some l => (s.stagedAt addr).mask &&& l.defn.classMask c

/-- The staged values of the bits `m` at an address become the values in force. -/
def landValue (addr : Nat) (m : Word) (s : State) : State :=
  let x := s.stagedAt addr
  (s.wr addr ((x.value &&& m) ||| (s.rd addr &&& ~~~ m))).setStaged addr ⟨x.value &&& ~~~ m, x.mask &&& ~~~ m⟩

/-- Words that land together: all values first, and then what the landings start, R79. -/
def landWords (c : BufClass) (addrs : List Nat) (s : State) : State :=
  let xs := (addrs.map fun addr => (addr, s.landing c addr, s.rd addr)).filter fun x => x.2.1 ≠ 0
  let s := forEach xs (fun x => landValue x.1 x.2.1) s
  forEach xs (fun x s =>
    match locate x.1 with
    | none => s
    | some l => landed l x.2.1 x.2.2 s) s

/-- Lands class `c` at the addresses that satisfy `p`, unless the class is held, R80. -/
def landClass (c : BufClass) (p : Nat → Bool) (s : State) : State :=
  if s.held c then s else landWords c ((s.staged.map (·.1)).filter p) s

/-- The coach that holds the register at an address: LEG, RK and CO registers other than the coupling registers. -/
def coachOf (addr : Nat) : Option Nat :=
  if addr < 0x20000 then none
  else if addr < 0x28000 then some ((addr - 0x20000) / 0x2000)
  else if addr < 0x28800 then some ((addr - 0x28000) / 0x200)
  else if addr < 0x29000 then none
  else if addr < 0x29400 then (if addr % 0x100 < 0xC0 then some ((addr - 0x29000) / 0x100) else none)
  else none

/-- The coach whose axis an AX address belongs to. -/
def coachOfAx (addr : Nat) : Option Nat :=
  if addr < 0x10000 then none else if addr < 0x20000 then some ((addr - 0x10000) / 0x4000) else none

/-- The LEG boundary of a coach, R78: the start of its chopper period; a CO_PWMPER write lands there too, R133. -/
def landLegs (c : Nat) (s : State) : State :=
  let p (addr : Nat) : Bool := coachOf addr = some c
  landClass .period p (landClass .leg p s)

/-- The PWM boundary of a coach, R78 and R79: the build of its next command set. -/
def landPwm (c : Nat) (s : State) : State := landClass .pwm (fun addr => coachOfAx addr = some c) s

/-- The AXIS boundary, R78 and R79: a profile tick. -/
def landAxis (s : State) : State := landClass .axis (fun _ => true) s

/-- Copies to the tick snapshot the words of a list, R88. -/
def snapWords (addrs : List Nat) (s : State) : State :=
  forEach addrs (fun a s => { s with snap := Sparse.set resetWord s.snap a (s.rd a) }) s

end Sys2Proof.Machine
end

