-- ==== Sys2Proof/Machine/AfeOps.lean ====
section
/-!
DEFINITION. Machine/AfeOps.lean: the sensor front end and the sigma-delta converters (R246 to R279): conversions and their
sequences, excitation, averaging, auto-range, results, self-calibration and linearisation.
-/

namespace Sys2Proof.Machine

/-! ### Access -/

/-- Modulator `d`. -/
def State.sd (s : State) (d : Nat) : SdMod := Sparse.get (fun _ => {}) s.sds d

/-- Changes modulator `d`. -/
def State.modSd (s : State) (d : Nat) (f : SdMod → SdMod) : State :=
  { s with sds := Sparse.modify (fun _ => {}) s.sds d f }

/-- Changes the shared part of the front end. -/
def State.modAfe (s : State) (f : Afe → Afe) : State := { s with afe := f s.afe }

/-- Whether domain D5 is on and out of reset. -/
def State.afeOn (s : State) : Bool := s.on GCTL_PWRSTAT.AFEON

/-- An injected sequence runs until its last result has landed, R268. -/
def SdMod.injecting (x : SdMod) : Bool := x.inj.isSome || x.landing.any (·.inj)

/-! ### Fields of configuration words -/

def cfgAinp (a : Word) : Nat := wordField a 5 0
def cfgAinn (a : Word) : Nat := wordField a 11 6
def cfgLeadPin (a : Word) : Nat := wordField a 16 12
def cfgGain (a : Word) : Nat := wordField a 19 17
def cfgRef (a : Word) : Nat := wordField a 21 20
def cfgPexc (a : Word) : Nat := wordField a 23 22
def cfgBrken (a : Word) : Bool := wordField a 24 24 = 1
def cfgOhms (a : Word) : Bool := wordField a 25 25 = 1
def cfgLeadK (a : Word) : Nat := wordField a 27 26
def cfgTdac (a : Word) : Nat := wordField a 29 28
def cfgIsrc (a : Word) : Nat := wordField a 30 30
def cfgSettle (b : Word) : Nat := wordField b 15 0
def cfgLeadN (b : Word) : Nat := wordField b 23 16

/-! ### What comes next -/

/-- Whether the direct class is in force. -/
def State.sdDirect (s : State) (d : Nat) : Bool := s.get (SD_CFG.CLASS d) = 0

/-- The configuration of regular slot `k`. -/
def State.regCfg (s : State) (d k : Nat) : Nat :=
  if k < 8 then wordField (s.rd (SD_SEQ0 d)) (4 * k + 3) (4 * k) else wordField (s.rd (SD_SEQ1 d)) (4 * k - 29) (4 * k - 32)

/-- The configuration of injected slot `i`. -/
def State.injCfg (s : State) (d i : Nat) : Nat := wordField (s.rd (SD_SEQCTL d)) (4 * i + 3) (4 * i)

/-- What the next conversion of a modulator is, waiting for a duty window or not: injected or not, its slot and its configuration. -/
def State.sdComing (s : State) (d : Nat) : Option (Bool × Nat × Nat) :=
  let x := s.sd d
  match x.inj with
  | some i => some (true, i, s.injCfg d i)
  | none =>
    if x.due then
      if s.sdDirect d then some (false, 0, s.get (SD_DIRECT.CFG d))
      else
        let k := s.get (SD_STAT.SLOT d)
        some (false, k, s.regCfg d k)
    else none

/-- The next conversion of a modulator, unless it is held to the next duty window, R252. -/
def State.sdNext (s : State) (d : Nat) : Option (Bool × Nat × Nat) :=
  let x := s.sd d
  if (if x.inj.isSome then x.heldInj else x.heldReg) then none else s.sdComing d

/-- The break bias while no conversion runs: it stays only if the next one uses a configuration with BRKEN = 1, R248. -/
def State.biasStays (s : State) (d : Nat) : Bool :=
  match s.sdComing d with
  | none => false
  | some (_, _, x) => (s.sd d).bias && cfgBrken (s.rd (AFE_CFGA x))

/-- Sets what follows from what a modulator does: the status bits, and the break bias of R248. -/
def sdStatus (d : Nat) (s : State) : State :=
  let x := s.sd d
  let bias : Bool := match x.conv with | some v => cfgBrken v.cfgA | none => s.biasStays d
  let s := s.modSd d fun x => { x with bias := bias }
  let s := s.putB (SD_STAT.CONV d) x.conv.isSome
  let s := s.putB (SD_STAT.INJ d) x.injecting
  s.putB (SD_STAT.CAL d) x.cal.isSome

/-- Mode, pin and current code of a source in an AFE_IEXC word, R250. -/
def iexcMode (w : Word) (i : Nat) : Nat := if i = 0 then wordField w 10 9 else wordField w 26 25
def iexcPin (w : Word) (i : Nat) : Nat := if i = 0 then wordField w 8 4 else wordField w 24 20
def iexcCode (w : Word) (i : Nat) : Nat := if i = 0 then wordField w 2 0 else wordField w 18 16

/-- The pulsed sources a configuration uses: PEXC bits whose source is in MODE 2, R251. -/
def State.pulsed (s : State) (a : Word) : List Nat :=
  (List.range 2).filter fun i => natBit (cfgPexc a) i && iexcMode (s.rd AFE_IEXC) i = 2

/-! ### Filters, R261 to R263 -/

/-- Modulator clocks per word, R262. -/
def rateD (rate : Nat) : Nat :=
  match rate with
  | 0 => 512 | 1 => 1024 | 2 => 2048 | 3 => 4096 | 4 => 8192 | 5 => 20480 | 6 => 40960 | 7 => 81920
  | 8 => 122880 | 9 => 204800 | 10 => 409600 | _ => 819200

/-- Modulator clocks of a conversion after SETTLE, R261 and R263. -/
def State.convClocks (s : State) (d : Nat) : Nat :=
  let n := rateD (s.get (SD_CFG.RATE d))
  match s.get (SD_CFG.FILT d) with
  | 0 => 4 * n
  | 1 => 6 * n
  | _ => 122880

/-- A modulator clock in 1/32 motion-clock counts: 200 MHz / 2.048 MHz = 3125/32, R61. -/
def modClock : Nat := 3125

/-! ### The duty limit of pulsed sources, R252 -/

/-- 100 ms and 5 ms in 1/32 motion-clock counts. -/
def dutyWindow : Nat := 640000000
def dutyLimit : Nat := 32000000

/-- On-times of source `i` noted in the present window. -/
def State.onTimes (s : State) (i : Nat) : List OnTime := if i = 0 then s.afe.on0 else s.afe.on1

/-- Replaces the on-times of source `i`. -/
def State.setOnTimes (s : State) (i : Nat) (l : List OnTime) : State :=
  s.modAfe fun f => if i = 0 then { f with on0 := l } else { f with on1 := l }

/-- Puts an on-time in its place by start. -/
def insertOn (o : OnTime) : List OnTime → List OnTime
  | [] => [o]
  | p :: l => if o.start < p.start then o :: p :: l else p :: insertOn o l

/-- The time covered by on-times in order of their starts, overlaps counted once. -/
def unionTime (l : List OnTime) : Nat :=
  (l.foldl (fun (acc : Nat × Nat) o =>
    let from_ := max o.start acc.2
    (acc.1 + (o.stop - from_), max acc.2 o.stop)) (0, 0)).1

/-- Whether a conversion from `t` for `len` may use source `i` in this window. -/
def State.dutyAllows (s : State) (i t len : Nat) : Bool :=
  let w := t / dutyWindow
  let l := (s.onTimes i).filter fun o => o.start / dutyWindow = w
  decide (t + len ≤ (w + 1) * dutyWindow) && decide (unionTime (insertOn ⟨0, t, t + len⟩ l) ≤ dutyLimit)

/-- Notes the on-time of a conversion of modulator `d`. -/
def noteOn (d : Nat) (srcs : List Nat) (t len : Nat) (s : State) : State :=
  forEach srcs (fun i s => s.setOnTimes i (insertOn ⟨d, t, t + len⟩ (s.onTimes i))) s

/-- The moment, in 1/32 motion-clock counts, at which a command acts: the one it tells (counts), or one of the present tick that it
does not tell, and which is free (DESIGN CHOICE, log entry 62). -/
def momentOf (now : Option Nat) (s : State) : Nat × State :=
  match now with
  | some t => (32 * t, s)
  | none =>
    let (k, s) := s.fresh
    (64000 * s.ticks + Config.stopMoment k % 64000, s)

/-- The pulsed sources of the conversion in progress turn off at the moment it is stopped, R248 and R252. -/
def cutOn (d : Nat) (now : Option Nat) (s : State) : State :=
  match (s.sd d).conv with
  | none => s
  | some v =>
    let runs (o : OnTime) : Bool := o.mod = d && o.start = v.start
    if !(s.afe.on0.any runs || s.afe.on1.any runs) then s
    else
      let (t, s) := momentOf now s
      let cut (l : List OnTime) : List OnTime := l.map fun o => if runs o then { o with stop := min o.stop (max o.start t) } else o
      s.modAfe fun f => { f with on0 := cut f.on0, on1 := cut f.on1 }

/-! ### Shared settings, R254 -/

/-- Addresses of the shared words. -/
def sharedWords : List Nat := [AFE_IEXC, AFE_VEXC, AFE_TDAC]

/-- Whether changing the shared word at `addr` to what is staged there touches a conversion with configuration word `a`. -/
def State.touches (s : State) (addr : Nat) (a : Word) : Bool :=
  if addr = AFE_VEXC then true
  else if addr = AFE_TDAC then cfgTdac a ≠ 0
  else
    let old := s.rd AFE_IEXC
    let new := s.latest AFE_IEXC
    let pins := [cfgAinp a, cfgAinn a, cfgLeadPin a]
    (List.range 2).any fun i =>
      (iexcMode old i ≠ iexcMode new i || iexcPin old i ≠ iexcPin new i || iexcCode old i ≠ iexcCode new i)
        && (pins.contains (iexcPin old i) || pins.contains (iexcPin new i))

/-- Whether a write waits at `addr`. -/
def State.waits (s : State) (addr : Nat) : Bool := (s.stagedAt addr).mask ≠ 0

/-- Whether a conversion with configuration word `a` may not start because a waiting write would touch it. -/
def State.blockedBy (s : State) (a : Word) : Bool := sharedWords.any fun addr => s.waits addr && s.touches addr a

/-- Shared writes land at the first moment no conversion they touch is in progress. -/
def sharedLand (s : State) : State :=
  let s := forEach sharedWords (fun addr s =>
    if s.waits addr && !s.held .conv
        && !(List.range 4).any (fun d => match (s.sd d).conv with | none => false | some v => s.touches addr v.cfgA) then
      landWords .conv [addr] s
    else s) s
  s.putB AFE_STAT.EXCPEND (sharedWords.any s.waits)

/-! ### Landing of a modulator's own words, R247, R266, R274 -/

/-- Whether an address is a register of modulator `d`. -/
def sdAddr (d addr : Nat) : Bool := decide (0x60100 + 0x80 * d ≤ addr) && decide (addr < 0x60180 + 0x80 * d)

/-- Whether words of modulator `d` wait for a conversion start. -/
def State.sdWaiting (s : State) (d : Nat) : Bool := !s.held .conv && s.staged.any fun e => sdAddr d e.1 && e.2.mask ≠ 0

/-- Ends the regular or direct activity, R274: the conversion in progress and the partial sums are discarded. -/
def sdEndRegular (d : Nat) (s : State) : State :=
  let x := s.sd d
  let regular : Bool := match x.conv with | some v => !v.inj | none => false
  let s := applyIf regular (cutOn d none) s
  let s := s.modSd d fun x =>
    { x with
      conv := if regular then none else x.conv
      due := false
      heldReg := false
      leadDone := x.leadDone && x.inj.isSome
      simul := false
      sums := [] }
  let s := ((s.put (SD_STAT.ACTIVE d) 0).put (SD_STAT.SLOT d) 0).put (SD_STAT.WAIT d) 0
  sharedLand (sdStatus d s)

/-- The words of modulator `d` land; a change of CLASS ends the running activity, and a new AVG or SHIFT discards every
partial sum, R269. Answers whether CLASS changed. -/
def sdLand (d : Nat) (s : State) : Bool × State :=
  let cls := s.get (SD_CFG.CLASS d)
  let avg (s : State) : Nat × Nat := (s.get (SD_AVG.AVG d), s.get (SD_AVG.SHIFT d))
  let was := avg s
  let s := landClass .conv (sdAddr d) s
  let s := applyIf (avg s != was) (fun s => s.modSd d fun x => { x with sums := [] }) s
  if s.get (SD_CFG.CLASS d) = cls then (false, s)
  else
    let s := (sdEndRegular d s).modSd d fun x => { x with inj := none, heldInj := false }
    (true, sdStatus d s)

/-- The configuration words in force for modulator `d` before its next conversion of `x`: those noted, or else those the registers
hold, which no write has changed since D5 came on. -/
def State.cfgOf (s : State) (d x : Nat) : CfgWords :=
  match Sparse.get (fun _ => none) (s.sd d).cfg x with
  | some c => c
  | none => ⟨s.rd (AFE_CFGA x), s.rd (AFE_CFGB x), s.rd (AFE_CFGC x), Sparse.get (fun _ => 0) s.afe.cfgSeq x⟩

/-- A write of a word of configuration `x` is about to wait for each modulator: the words in force until then are noted, R247. `f` puts
the word that stood before back. -/
def cfgNote (x : Nat) (f : CfgWords → CfgWords) (s : State) : State :=
  forEach (List.range 4) (fun d s =>
    let c := s.cfgOf d x
    match Sparse.get (fun _ => none) (s.sd d).cfg x with
    | some _ => s
    | none => s.modSd d fun m => { m with cfg := Sparse.set (fun _ => none) m.cfg x (some (f c)) }) s

/-- The words of configuration `x` land for modulator `d`, R247; a landed GAIN sets the gains in use again, R270. -/
def cfgLand (d x : Nat) (s : State) : State :=
  if s.held .conv then s
  else
    let old := s.cfgOf d x
    let n := Sparse.get (fun _ => 0) s.afe.cfgSeq x
    let new : CfgWords := ⟨s.rd (AFE_CFGA x), s.rd (AFE_CFGB x), s.rd (AFE_CFGC x), n⟩
    let s := s.modSd d fun m => { m with cfg := Sparse.set (fun _ => none) m.cfg x (some new) }
    if old.seen = n then s
    else s.modSd d fun m =>
      { m with gains := m.gains.filter fun e => match e.2 with | some g => g.x ≠ x | none => false }

/-! ### Gains, sums and sequences -/

/-- Key of the gain in use, R270. -/
def gainKey (inj direct : Bool) (x slot : Nat) : Nat := if inj then 32 + slot else if direct then 16 + x else slot

/-- The gain in use: it starts at the configuration's GAIN. -/
def State.gainInUse (s : State) (d key x : Nat) (cfgA : Word) : SdGain :=
  match Sparse.get (fun _ => none) (s.sd d).gains key with
  | some g => if g.x = x then g else ⟨x, cfgGain cfgA, 0⟩
  | none => ⟨x, cfgGain cfgA, 0⟩

/-- The gain the next conversion of a slot is taken at: that of its partial sum, since a gain never changes within an averaged
result, and else the gain in use, R270. -/
def State.startGain (s : State) (d : Nat) (inj direct : Bool) (x slot : Nat) (cfgA : Word) : Nat :=
  let sum := Sparse.get (fun _ => {}) (s.sd d).sums (if direct then 16 else slot)
  if !inj && sum.n ≠ 0 && sum.x = x then sum.gain else (s.gainInUse d (gainKey inj direct x slot) x cfgA).gain

/-- Sets the gain in use. -/
def setGain (d key : Nat) (g : SdGain) (s : State) : State :=
  s.modSd d fun m => { m with gains := Sparse.set (fun _ => none) m.gains key (some g) }

/-- A pass, or a direct conversion result, is complete, R265 and R266. -/
def sdPassEnd (d : Nat) (s : State) : State :=
  let s := s.put (SD_STAT.SLOT d) 0
  match s.get (SD_CFG.REGTRIG d) with
  | 0 => s
  | 1 => (s.modSd d fun x => { x with due := false }).put (SD_STAT.ACTIVE d) 0
  | _ => s.modSd d fun x => { x with due := false }

/-- The regular activity goes on after slot `k` delivered its result, R266. -/
def sdNextSlot (d k : Nat) (s : State) : State :=
  if s.sdDirect d then sdPassEnd d s
  else if s.get (SD_SEQCTL.RLEN d) ≤ k then sdPassEnd d s
  else s.put (SD_STAT.SLOT d) (k + 1)

/-- Starts the regular or direct activity from its beginning. -/
def sdBegin (d : Nat) (s : State) : State :=
  let s := ((s.put (SD_STAT.ACTIVE d) 1).put (SD_STAT.SLOT d) 0)
  s.modSd d fun x => { x with due := true, leadDone := x.leadDone && x.inj.isSome, heldReg := false }

/-- Aborts the conversion in progress, which is discarded with its lead conversion, R268. -/
def sdAbort (d : Nat) (now : Option Nat) (s : State) : State :=
  if (s.sd d).conv.isNone then s.modSd d fun x => { x with leadDone := false }
  else
    let s := (cutOn d now s).modSd d fun x => { x with conv := none, leadDone := false }
    sharedLand (sdStatus d s)

/-- A start deferred by SIMUL takes place when nothing stands in its way any more; a regular
conversion begun meanwhile is aborted and discarded, R272. -/
def sdDeferred (d : Nat) (s : State) : State :=
  if (s.sd d).simul && !(s.sd d).injecting && (s.sd d).cal.isNone then
    let s := (sdLand d (sdAbort d none s)).2
    sdBegin d (s.modSd d fun x => { x with simul := false, sums := [] })
  else s

/-! ### Results, R264, R269 to R271 -/

/-- A raw word corrected with the calibration factors of its gain, and whether it was clipped, R264. -/
def State.corrected (s : State) (d g : Nat) (w : Int) : Int × Bool :=
  let c := (w - s.getI (SD_CAL_OFS.OFS d g)) * (s.get (SD_CAL_GAIN.GAIN d g) : Int) / (2 ^ 22 : Int)
  let m : Int := 2 ^ 23 - 1
  (clampInt (-m) m c, decide (c < -m) || decide (m < c))

/-- Auto-range after a delivered result, R270: a step of the gain in use, which a GAIN landed meanwhile has set again. -/
def autoRange (d : Nat) (r : SdRes) (s : State) : State :=
  if !s.on (SD_CFG.AR d) then s
  else
    let key := gainKey r.inj r.direct r.x r.slot
    let g := s.gainInUse d key r.x (s.cfgOf d r.x).a
    if 0 < g.quiet then setGain d key { g with quiet := g.quiet - 1 } s
    else
      let mag := r.code.natAbs
      let lo := s.get (SD_CFG.ARMIN d)
      let hi := s.get (SD_CFG.ARMAX d)
      let new : Nat :=
        if 7549748 ≤ mag || r.sat then (if lo < g.gain then g.gain - 1 else g.gain)
        else if mag ≤ 1677721 then (if g.gain < hi then g.gain + 1 else g.gain)
        else g.gain
      if new = g.gain then s
      else pendSrc 102 ((setGain d key ⟨r.x, new, 3⟩ s).inc (SD_CNT.ARCNT d))

/-- The result word and the information word of a landed result. -/
def resWord (r : SdRes) (ovr : Bool) : Word :=
  BitVec.ofNat 32 (r.gain * 2 ^ 29 + b2n r.brk * 2 ^ 28 + b2n ovr * 2 ^ 27 + b2n r.sat * 2 ^ 26 + unsigned 24 r.code)

def resInfo (r : SdRes) (seq : Nat) : Word :=
  BitVec.ofNat 32 (seq % 2 ^ 16 * 2 ^ 16 + r.slot * 2 ^ 12 + b2n r.inj * 2 ^ 11 + b2n r.direct * 2 ^ 10 + r.x * 2 ^ 4)

/-- The result mover delivers a result to the witnesses, R202 and R271. -/
def toWitnesses (d : Nat) (r : SdRes) (s : State) : State :=
  if r.inj || r.direct then s
  else forEach (List.range 128) (fun a s =>
    if s.get (AX_WITCFG.SRC a) = 1 && s.get (AX_WITCFG.CH a) = d && s.get (AX_WITCFG.SLOT a) = r.slot then
      if r.brk then witInvalid a s
      else witCheck a r.code (s.atStandstill a && (s.mo a).stillAt.any fun t => decide (t ≤ r.tick)) false s
    else s) s

/-- A result lands, R264, R270 and R271. -/
def landResult (d : Nat) (r : SdRes) (s : State) : State :=
  let x := s.sd d
  let old := if r.inj then x.injFresh else x.fresh
  let move := s.on (SD_CFG.MOVE d)
  let ovr : Bool := old && !move
  let s := if r.inj then
      let seq := wordField (s.rd (SD_INJRESINFO d)) 31 16 + 1
      (s.wr (SD_INJRESULT d) (resWord r ovr)).wr (SD_INJRESINFO d) (resInfo r seq)
    else
      let seq := wordField (s.rd (SD_RESINFO d)) 31 16 + 1
      (s.wr (SD_RESULT d) (resWord r ovr)).wr (SD_RESINFO d) (resInfo r seq)
  let s := s.modSd d fun x => if r.inj then { x with injFresh := !move } else { x with fresh := !move }
  let s := applyIf ovr (fun s =>
    pendSrc (96 + d) ((s.put (if r.inj then SD_STAT.IOVR d else SD_STAT.OVR d) 1).inc (SD_CNT.OVRCNT d))) s
  let s := pendSrc ((if r.inj then 92 else 88) + d) s
  let s := if move then
      let s := s.modSd d fun x => { x with lin := x.lin ++ [r] }
      toWitnesses d r s
    else s
  autoRange d r s

/-- RESULT_LAND: the oldest result under way lands. -/
def resultLand (d : Nat) (s : State) : State :=
  match (s.sd d).landing with
  | [] => s
  | r :: l =>
    let s := landResult d r (s.modSd d fun x => { x with landing := l })
    sdDeferred d (sdStatus d s)

/-- One conversion of a slot has delivered a corrected code: it joins the partial sum of R269. Answers the result if it is
complete. Injected conversions are never averaged, R267. -/
def accumulate (d : Nat) (v : SdConv) (c : Int) (brk sat : Bool) (s : State) : Option SdRes × State :=
  let lead := s.get (AFE_CFGC.LEAD v.x)
  let res (code : Int) (brk sat : Bool) (tick : Nat) : SdRes :=
    ⟨v.x, v.slot, v.inj, v.direct, v.gain, code, brk, sat, v.cfgA, lead, tick⟩
  if v.inj then (some (res c brk sat v.tick), s)
  else
    let key := if v.direct then 16 else v.slot
    let old := Sparse.get (fun _ => {}) (s.sd d).sums key
    let old : SdSum := if old.x = v.x then old else { x := v.x }
    let new : SdSum := ⟨v.x, old.n + 1, old.sum + c, old.brk || brk, old.sat || sat, v.gain, if old.n = 0 then v.tick else old.tick⟩
    if new.n < s.get (SD_AVG.AVG d) then
      (none, s.modSd d fun x => { x with sums := Sparse.set (fun _ => {}) x.sums key new })
    else
      let m : Int := 2 ^ 23 - 1
      let q := if s.get (SD_AVG.AVG d) = 1 then new.sum else new.sum / ((2 ^ s.get (SD_AVG.SHIFT d) : Nat) : Int)
      let clip : Bool := decide (q < -m) || decide (m < q)
      (some (res (clampInt (-m) m q) new.brk (new.sat || clip) new.tick),
        s.modSd d fun x => { x with sums := Sparse.set (fun _ => {}) x.sums key {} })

/-! ### Conversions -/

/-- Conversions of `x` on modulator `d` since its lead conversion. -/
def State.leadCount (s : State) (d x : Nat) : Nat := Sparse.get (fun _ => 0) (s.sd d).leadCnt x

/-- Whether a lead conversion comes before the next conversion of `x`, R256. -/
def State.leadDue (s : State) (d x : Nat) (cfgA : Word) : Bool := cfgLeadK cfgA ≠ 0 && s.leadCount d x = 0

/-- A conversion of `x` has completed: the count of R256 goes on. -/
def leadStep (d x : Nat) (cfgA cfgB : Word) (s : State) : State :=
  if cfgLeadK cfgA = 0 then s
  else s.modSd d fun m =>
    { m with leadCnt := Sparse.set (fun _ => 0) m.leadCnt x ((s.leadCount d x + 1) % max 1 (cfgLeadN cfgB)) }

/-- The invalid marking a result carries, R253, R256, R257. -/
def State.invalidMark (s : State) (v : SdConv) : Bool :=
  v.broken || v.refOff || (cfgLeadK v.cfgA ≠ 0 && s.get (AFE_CFGC.LEAD v.x) = 0xFFFF)

/-- A conversion that is not run because its pulse would be longer than 5 ms, R252: its result is delivered at once. -/
def sdNotRun (d : Nat) (v : SdConv) (s : State) : State :=
  let (n, s) := s.fresh
  let r : SdRes := ⟨v.x, v.slot, v.inj, v.direct, v.gain, Config.codeNotRun n, true, false, v.cfgA, s.get (AFE_CFGC.LEAD v.x), v.tick⟩
  let s := landResult d r (s.put AFE_STAT.PLONG 1)
  let s := s.modSd d fun x => { x with leadDone := false }
  let s :=
    if v.inj then s.modSd d fun x =>
      { x with inj := if s.get (SD_SEQCTL.ILEN d) ≤ v.slot then none else some (v.slot + 1) }
    else sdNextSlot d v.slot (s.modSd d fun x =>
      { x with sums := Sparse.set (fun _ => {}) x.sums (if v.direct then 16 else v.slot) {} })
  sdDeferred d (sdStatus d s)

/-- Holds a start for the duty limit, R252. -/
def sdHold (d : Nat) (inj : Bool) (srcs : List Nat) (s : State) : State :=
  let s := forEach srcs (fun i s =>
    let s := s.putBitAt AFE_STAT (4 + i) true
    if i = 0 then s.inc AFE_DUTY.HOLDCNT0 else s.inc AFE_DUTY.HOLDCNT1) s
  let s := s.modSd d fun x => if inj then { x with heldInj := true } else { x with heldReg := true }
  s.put (SD_STAT.WAIT d) 1

/-- The conversion that is next starts at motion-clock time `now`, once its words have landed, R248, R252 to R254. -/
def sdStartConv (d : Nat) (inj : Bool) (slot x now : Nat) (s : State) : State :=
  let c := s.cfgOf d x
  let direct : Bool := !inj && s.sdDirect d
  let lead : Bool := s.leadDue d x c.a && !(s.sd d).leadDone
  let g := s.startGain d inj direct x slot c.a
  let srcs := s.pulsed c.a
  let len := (cfgSettle c.b + s.convClocks d) * modClock
  let t := 32 * now
  let refOff : Bool := cfgRef c.a = 2 && !s.on AFE_VEXC.EN
  let v : SdConv := ⟨x, slot, inj, direct, lead, g, c.a, c.b, c.c, decide (cfgSettle c.b ≠ 0), false, refOff, t, s.ticks⟩
  if s.blockedBy c.a then s.put (SD_STAT.WAIT d) 1
  else if !srcs.isEmpty && decide (dutyLimit < len) then sdNotRun d v s
  else
    let short := srcs.filter fun i => !s.dutyAllows i t len
    if !short.isEmpty then sdHold d inj short s
    else
      let s := noteOn d srcs t len s
      let s := applyIf refOff (fun s => s.put AFE_STAT.REFOFF 1) s
      let s := s.modSd d fun m => { m with conv := some v }
      sdStatus d (s.put (SD_STAT.WAIT d) 0)

/-- Whether a word that modulator `d` needs fails parity, R86: its own, apart from SD_CFG, and the global ones. -/
def State.sdBad (s : State) (d : Nat) : Bool := s.badWithin (0x60104 + 0x80 * d) 0x7C || s.badWithin AFE_IEXC 16

/-- Whether a word of configuration `x` fails parity, R86. -/
def State.cfgBad (s : State) (x : Nat) : Bool := s.isBad (AFE_CFGA x) || s.isBad (AFE_CFGB x) || s.isBad (AFE_CFGC x)

/-- SETTLE_END: the modulator begins to convert. -/
def settleEnd (d : Nat) (s : State) : State :=
  match (s.sd d).conv with
  | none => s
  | some v => s.modSd d fun x => { x with conv := some { v with settling := false } }

/-- BREAK_CHECK: the common mode, in 10 mV units, is held against the window, R257. -/
def breakCheck (d vcm : Nat) (s : State) : State :=
  match (s.sd d).conv with
  | none => s
  | some v =>
    let high : Bool := decide (wordField v.cfgC 15 8 < vcm)
    let low : Bool := decide (vcm < wordField v.cfgC 7 0)
    if v.settling || !cfgBrken v.cfgA || cfgTdac v.cfgA = 1 || v.broken || !(high || low) then s
    else
      let s := s.modSd d fun x => { x with conv := some { v with broken := true } }
      let s :=
        if s.on AFE_BRK.VALID then s.put AFE_BRK.MORE 1
        else ((((s.put AFE_BRK.VALID 1).put AFE_BRK.M d).put AFE_BRK.CFG v.x).putB AFE_BRK.HIGH high).put AFE_BRK.VCM (min 255 vcm)
      pend 101 0 d (s.inc ⟨AFE_BRKCNT, 8 * d + 7, 8 * d⟩)

/-- Whether a direct conversion in continuous running goes on without a flush, R261 and R265. -/
def State.sdContinues (s : State) (d : Nat) (v : SdConv) : Bool :=
  v.direct && s.get (SD_CFG.REGTRIG d) = 0 && s.get (SD_CFG.FILT d) ≠ 2 && cfgPexc v.cfgA = 0
    && (s.sd d).due && (s.sd d).inj.isNone
    && !s.sdWaiting d && (s.held .conv || (s.rd (AFE_CFGA v.x) = v.cfgA && s.rd (AFE_CFGB v.x) = v.cfgB
      && (s.rd (AFE_CFGC v.x) &&& 0xFFFF) = (v.cfgC &&& 0xFFFF)
      && (s.cfgOf d v.x).seen = Sparse.get (fun _ => 0) s.afe.cfgSeq v.x))
    && s.startGain d false true v.x 0 v.cfgA = v.gain
    && !s.leadDue d v.x v.cfgA && !s.blockedBy v.cfgA

/-- CONVERSION_END: the result word `w` of the conversion in progress; `over` says that the modulator was over its range. -/
def conversionEnd (d : Nat) (w : Int) (ovr : Bool) (s : State) : State :=
  match (s.sd d).conv with
  | none => s
  | some v =>
    if v.lead || v.settling then s
    else
      let (c, clip) := s.corrected d v.gain w
      let mark := s.invalidMark v
      let (r, s) := accumulate d v c mark (clip || ovr) s
      let s := leadStep d v.x v.cfgA v.cfgB s
      let s := match r with
        | none => s
        | some r => s.modSd d fun x => { x with landing := x.landing ++ [r] }
      let s := s.modSd d fun x => { x with leadDone := false }
      let s :=
        if v.inj then s.modSd d fun x =>
          { x with inj := if s.get (SD_SEQCTL.ILEN d) ≤ v.slot then none else some (v.slot + 1) }
        else if r.isSome then sdNextSlot d v.slot s
        else s
      let go := s.sdContinues d v
      let off : Bool := cfgRef v.cfgA = 2 && !s.on AFE_VEXC.EN
      let s := applyIf (go && off) (fun s => s.put AFE_STAT.REFOFF 1) s
      let s := s.modSd d fun x =>
        { x with conv := if go then some { v with broken := false, refOff := off, tick := s.ticks } else none }
      sharedLand (sdDeferred d (sdStatus d s))

/-! ### Resistance and lead compensation, R255 and R256 -/

/-- The binary32 value of 2^23, 1.250 and 1000. -/
def f32Two23 : Word := 0x4B000000
def f32Vref : Word := 0x3FA00000
def f32Thousand : Word := 0x447A0000

/-- The resistance of a code in ohms, R255; REF is 0 or 1. -/
def State.resistance (s : State) (cfgA : Word) (gain : Nat) (k : Int) : Word :=
  let q := f32Div (f32OfInt k) f32Two23
  let g := f32OfInt ((2 ^ gain : Nat) : Int)
  if cfgRef cfgA = 1 then f32Div (f32Mul q (s.rd AFE_RREF)) g
  else
    let i := f32OfRat ((10 * 2 ^ iexcCode (s.rd AFE_IEXC) (cfgIsrc cfgA) : Nat) : Int) 1000000
    f32Div (f32Mul q f32Vref) (f32Mul g i)

/-- LEAD of a lead resistance: milliohms, nearest, 0 to 0xFFFE. -/
def leadMilli (r : Word) : Nat := (clampInt 0 0xFFFE (f32Nearest (f32Mul r f32Thousand))).toNat

/-- LEAD_CONVERSION_END: the lead conversion in progress writes LEAD, R256; the conversion proper follows. -/
def leadEnd (d : Nat) (w : Int) (ovr : Bool) (s : State) : State :=
  match (s.sd d).conv with
  | none => s
  | some v =>
    if !v.lead || v.settling then s
    else
      let (c, clip) := s.corrected d v.gain w
      let (n, s) := s.fresh
      let r : Word := if cfgRef v.cfgA = 2 then Config.leadRatio n else s.resistance v.cfgA v.gain c
      let lead : Nat := if v.broken || v.refOff || ovr || clip then 0xFFFF else leadMilli r
      let s := s.put (AFE_CFGC.LEAD v.x) lead
      let s := s.modSd d fun x => { x with conv := none, leadDone := true, leadFor := v.x }
      sharedLand (sdStatus d s)

/-! ### Commands -/

/-- An urgent trigger, R268, at the motion-clock time `now` if it is told. -/
def urgent (now : Option Nat) (d : Nat) (s : State) : State :=
  let x := s.sd d
  if !s.afeOn || !s.on (SD_CFG.EN d) || s.sdDirect d then s
  else if x.cal.isSome || x.injecting then pendSrc 100 (s.inc (SD_CNT.INJDROP d))
  else
    let s := sdAbort d now s
    sdStatus d (s.modSd d fun x => { x with inj := some 0, heldInj := false })

/-- An urgent trigger on every modulator whose SD_SEQCTL enables it. -/
def urgentAll (now : Option Nat) (p : Nat → Bool) (s : State) : State := forEach ((List.range 4).filter p) (urgent now) s

/-- The planner's urgent trigger at a tick, R267. -/
def plannerTrigger (s : State) : State := urgentAll (some (2000 * s.ticks)) (fun d => s.on (SD_SEQCTL.TPL d)) s

/-- START, R265: the words waiting land if no conversion is in progress, nor waits after its lead conversion; a START of a running
activity starts nothing. -/
def sdStart (d : Nat) (s : State) : State :=
  if !s.afeOn || !s.on (SD_CFG.EN d) then s
  else
    let s := if (s.sd d).conv.isNone && !(s.sd d).leadDone then (sdLand d s).2 else s
    if s.on (SD_STAT.ACTIVE d) then s
    else if s.get (SD_CFG.REGTRIG d) = 2 then (s.put (SD_STAT.ACTIVE d) 1).put (SD_STAT.SLOT d) 0
    else sdBegin d s

/-- SIMUL on one masked modulator, R272. -/
def sdSimulOne (d : Nat) (s : State) : State :=
  if (s.sd d).injecting || (s.sd d).cal.isSome then
    (s.modSd d fun x => { x with simul := true }).put (SD_STAT.SIMLATE d) 1
  else
    let s := sdAbort d none s
    let s := (sdLand d s).2
    sdBegin d (s.modSd d fun x => { x with sums := [] })

/-- The modulators of a mask. -/
def sdMask (mask : Nat) : List Nat := (List.range 4).filter (natBit mask)

/-- SIMUL is refused if a masked modulator is disabled. -/
def State.simulRefused (s : State) (mask : Nat) : Bool := (sdMask mask).any fun d => !s.on (SD_CFG.EN d)

/-- CAL is refused also while a calibration runs, R273. -/
def State.calRefused (s : State) (mask : Nat) : Bool :=
  s.simulRefused mask || (List.range 4).any fun d => (s.sd d).cal.isSome

/-- CAL on one masked modulator: its conversions are discarded, and an injected sequence with them. -/
def sdCalOne (d : Nat) (s : State) : State :=
  let s := sdAbort d none s
  let s := s.modSd d fun x => { x with cal := some 0, inj := none, heldInj := false }
  sdStatus d (s.put (SD_STAT.CALFAIL d) 0)

/-- CAL, R273. -/
def sdCal (mask : Nat) (s : State) : State :=
  forEach (sdMask mask) sdCalOne (s.modAfe fun f => { f with calMask := mask })

/-- The end of a calibration once every masked modulator has finished, R273: activity resumes at the aborted slot. -/
def calEnd (s : State) : State :=
  let l := sdMask s.afe.calMask
  if l.isEmpty || l.any (fun d => match (s.sd d).cal with | some p => decide (p < 16) | none => false) then s
  else
    let done := l.filter fun d => (s.sd d).cal.isSome
    let s := forEach done (fun d s =>
      let s := s.modSd d fun x => { x with cal := none }
      sdDeferred d (sdStatus d (s.put (SD_STAT.CALDONE d) 1))) s
    applyIf (!done.isEmpty) (pendSrc 103) (s.modAfe fun f => { f with calMask := 0 })

/-- CAL_PHASE_END: the phase in progress measured `value`. A factor outside its range is rejected, and no later factor of that
gain lands. -/
def calPhase (d : Nat) (value : Int) (s : State) : State :=
  match (s.sd d).cal with
  | none => s
  | some p =>
    if 16 ≤ p then s
    else
      let g := p / 2
      let ofs : Bool := p % 2 = 0
      let ok : Bool := if ofs then decide (-(2 ^ 23) ≤ value) && decide (value < 2 ^ 23)
        else decide (0x200000 ≤ value) && decide (value ≤ 0x600000)
      let failed := s.bitAt (SD_STAT d) (24 + g)
      let addr := if ofs then SD_CAL_OFS d g else SD_CAL_GAIN d g
      let s :=
        if failed then s
        else if ok then
          (s.setStaged addr {}).put (if ofs then SD_CAL_OFS.OFS d g else SD_CAL_GAIN.GAIN d g) (unsigned 24 value)
        else s.putBitAt (SD_STAT d) (24 + g) true
      calEnd (s.modSd d fun x => { x with cal := some (p + 1) })

/-- EN becomes 0, R274. -/
def sdDisable (d : Nat) (s : State) : State :=
  let s := sdEndRegular d (s.put (SD_CFG.EN d) 0)
  let s := (cutOn d none s).modSd d fun x =>
    { x with
      conv := none
      inj := none
      heldInj := false
      cal := none
      landing := []
      gains := [] }
  let s := calEnd (sharedLand (sdStatus d s))
  (sdLand d s).2

/-- SD_TIMER_PULSE at motion-clock time `now`, R266 and R267. -/
def timerPulse (d now : Nat) (s : State) : State :=
  if !s.afeOn || !s.on (SD_CFG.EN d) then s
  else
    let x := s.sd d
    let s :=
      if s.get (SD_CFG.REGTRIG d) = 2 && s.on (SD_STAT.ACTIVE d) then
        if x.due then applyIf (!s.sdDirect d) (fun s => s.put (SD_STAT.TLATE d) 1) s
        else sdBegin d s
      else s
    applyIf (s.on (SD_SEQCTL.TTIM d)) (urgent (some now) d) s

/-- TRIG_IN_EDGE at motion-clock time `now`, R267. -/
def trigEdge (rising : Bool) (now : Nat) (s : State) : State :=
  urgentAll (some now) (fun d => s.on (SD_SEQCTL.TPIN d) && (s.on (SD_SEQCTL.PEDGE d) == !rising)) s

/-- DUTY_WINDOW_START: a new window begins, and the conversions held for the duty limit may start. -/
def dutyWindowStart (s : State) : State :=
  let s := s.modAfe fun f => { f with on0 := [], on1 := [] }
  forEach (List.range 4) (fun d s =>
    let x := s.sd d
    let s := applyIf (x.heldReg || x.heldInj) (fun s => s.put (SD_STAT.WAIT d) 0) s
    s.modSd d fun x => { x with heldReg := false, heldInj := false }) s

/-- The word of a register in the stored settings, R81; its reset value where none is stored. -/
def State.storedWord (s : State) (addr : Nat) : Word :=
  match s.nvm.settings with
  | none => resetWord addr
  | some x => Sparse.get resetWord x.regs addr

/-- The calibration factors of gain `g` that were not stored are lost: the stored ones are back in force, R53. -/
def calLost (d g : Nat) (s : State) : State :=
  forEach [SD_CAL_OFS d g, SD_CAL_GAIN d g] (fun addr s => (s.setStaged addr {}).wr addr (s.storedWord addr)) s

/-- D5 goes off, R53: conversions and calibration stop, and everything held in the domain is lost. The on-times of the present duty
window have been, R252: they still count. -/
def afeLost (s : State) : State :=
  let s := forEach (List.range 4) (fun d s => cutOn d none s) s
  let s := { s with sds := [], afe := { s.afe with calMask := 0 } }
  let s := forEach (List.range 4) (fun d s => forEach (List.range 8) (fun g s => calLost d g s) s) s
  let gone (addr : Nat) : Bool := decide (0x60000 ≤ addr) && decide (addr < 0x60300)
  let roOnly (addr : Nat) (w : Word) : Word :=
    match locate addr with
    | none => w
    | some l =>
      let m := l.defn.maskOf fun f => f.ty = .ro || f.ty = .w1c
      (w &&& ~~~ m) ||| (resetWord addr &&& m)
  sharedLand (forEach ((s.regs.map (·.1)).filter gone) (fun addr s => s.wr addr (roOnly addr (s.rd addr))) s)

/-! ### Linearisation, R275 to R278 -/

/-- The word of the linearisation store at an address. -/
def State.lin (s : State) (k : Nat) : Word := Sparse.get (fun _ => 0) s.afe.store k

/-- Writes the store. -/
def State.setLin (s : State) (k : Nat) (w : Word) : State :=
  s.modAfe fun f => { f with store := Sparse.set (fun _ => 0) f.store k w }

/-- Whether a store write is refused, R278: bits that must be 0, NT = 3, CURVE above 9. -/
def linRefused (k : Nat) (w : Word) : Bool :=
  if k < 512 then
    let i := k % 32
    if i = 24 || i = 25 || 28 < i then w ≠ 0
    else if i = 21 then w &&& 0x7FFFF8FC ≠ 0 || wordField w 1 0 = 3
    else false
  else w &&& 0x707070FF ≠ 0 || 9 < wordField w 19 16

/-- The word a store write leaves: NS is kept within 0 to 6, and the clamp is recorded, R87. -/
def linStored (k : Nat) (w : Word) : Word :=
  if k < 512 && k % 32 = 21 then wordPut w 10 8 (min 6 (wordField w 10 8)) else w

/-- A finite number. -/
def f32Finite (w : Word) : Bool := f32Exp w ≠ 255

/-- The input value of a result, R275. -/
def State.linInput (s : State) (r : SdRes) : Word :=
  if cfgOhms r.cfgA then
    let lead := f32Div (f32Mul (f32OfInt (cfgLeadK r.cfgA : Int)) (f32OfInt (r.lead : Int))) f32Thousand
    f32Sub (s.resistance r.cfgA r.gain r.code) lead
  else
    let q := f32Div (f32OfInt r.code) f32Two23
    if cfgRef r.cfgA = 0 then f32Div (f32Mul q f32Vref) (f32OfInt ((2 ^ r.gain : Nat) : Int)) else q

/-- Coefficient i, j of set `set`: those of order above NS or NT are 0, R276. -/
def State.linCoef (s : State) (set ns nt i j : Nat) : Word :=
  if ns < i || nt < j then 0 else s.lin (32 * set + 3 * i + j)

/-- Whether a set is valid for x, R276. -/
def State.linValid (s : State) (set : Nat) (x : Word) : Bool :=
  let h := s.lin (32 * set + 21)
  let ns := wordField h 10 8
  let nt := wordField h 1 0
  wordField h 31 31 = 1
    && ((List.range (ns + 1)).all fun i => (List.range (nt + 1)).all fun j => f32Finite (s.lin (32 * set + 3 * i + j)))
    && f32Le (s.lin (32 * set + 22)) x && f32Le x (s.lin (32 * set + 23))

/-- The polynomial of a set in binary32, in the order R276 writes. -/
def State.linPoly (s : State) (set : Nat) (x t : Word) : Word :=
  let h := s.lin (32 * set + 21)
  let ns := wordField h 10 8
  let nt := wordField h 1 0
  let p (i : Nat) : Word :=
    f32Add (s.linCoef set ns nt i 0)
      (f32Mul t (f32Add (s.linCoef set ns nt i 1) (f32Mul t (s.linCoef set ns nt i 2))))
  (List.range ns).foldl (fun y i => f32Add (f32Mul y x) (p (ns - 1 - i))) (p ns)

/-- R(T)/R0 of the Callendar–Van Dusen equation at T = n/d, times 10^15 d^4. -/
def cvdNum (n d : Int) : Int :=
  let base := 10 ^ 15 * d ^ 4 + 39083 * 10 ^ 8 * n * d ^ 3 - 5775 * 10 ^ 5 * n ^ 2 * d ^ 2
  if n < 0 then base - 4183 * (n - 100 * d) * n ^ 3 else base

/-- Whether R(n/d) ≤ R, with R = x and R0 in ohms. -/
def cvdLe (n d : Int) (x : Word) (r0 : Int) : Bool :=
  decide (cvdNum n d * r0 * 2 ^ 149 ≤ f32Int x * (10 ^ 15 * d ^ 4))

/-- The temperature whose resistance is x, in 2^-16 °C above −200 °C, rounded down, by halving. -/
def cvdSolve : Nat → Word → Int → Nat → Nat
  | 0, _, _, t => t
  | b + 1, x, r0, t =>
    let t' := t + 2 ^ b
    cvdSolve b x r0 (if cvdLe ((t' : Int) - 200 * 65536) 65536 x r0 then t' else t)

/-- Whether a binary32 temperature `y` solves the curve for x within ± num/10000 °C. -/
def cvdAccepts (y x : Word) (r0 : Int) (num : Int) : Bool :=
  let d : Int := 2 ^ 149 * 10000
  let n : Int := f32Int y * 10000
  let e : Int := num * 2 ^ 149
  f32Finite y && cvdLe (n - e) d x r0 && !cvdLe (n + e) d x r0

/-- Curves 1 and 2, R277: none outside −200 °C to 850 °C. Below R0 the value is within 0.0001 °C of the solution; the closed
form's rounding in binary32 is not stated, and it is taken within 0.001 °C. Within these bounds the value is free. -/
def cvdCurve (free : Nat) (x : Word) (r0 : Int) : Option Word :=
  if !f32Finite x || !cvdLe (-200) 1 x r0 || (cvdLe 850 1 x r0 && !decide (cvdNum 850 1 * r0 * 2 ^ 149 = f32Int x * 10 ^ 15)) then none
  else
    let tol : Int := if cvdLe 0 1 x r0 then 10 else 1
    let y : Word := Config.cvdValue free
    if cvdAccepts y x r0 tol then some y
    else some (f32OfRat ((cvdSolve 27 x r0 0 : Int) - 200 * 65536) 65536)

/-! The natural logarithm of curve 9, in fixed point of 2^-64. -/

/-- ln 2 in 2^-64, rounded. -/
def lnTwo : Int := 12786308645202655660

/-- The sum of z^(2k+1) / (2k+1) over k, from term `k` on: `n` more terms, `p` the power of z so far and `z2` its square, 2^-64. -/
def atanhSum : Nat → Nat → Int → Int → Int
  | 0, _, _, _ => 0
  | n + 1, k, p, z2 => p / (2 * k + 1 : Nat) + atanhSum n (k + 1) (p * z2 / 2 ^ 64) z2

/-- ln(a / b) in 2^-64 for positive a and b: the ratio is brought into 1 to 2 by powers of 2, and 2 artanh((m − 1) / (m + 1)) is summed. -/
def lnRatio (a b : Nat) : Int :=
  let la := a.log2
  let lb := b.log2
  let m : Int := if lb ≤ la then (a : Int) * 2 ^ 64 / ((b : Int) * 2 ^ (la - lb)) else (a : Int) * 2 ^ (lb - la) * 2 ^ 64 / b
  let z : Int := (m - 2 ^ 64) * 2 ^ 64 / (m + 2 ^ 64)
  2 * atanhSum 40 0 z (z * z / 2 ^ 64) + ((la : Int) - lb) * lnTwo

/-- Curve 9: T = 1 / (1/298.15 K + ln(R/R25)/β) − 273.15, for finite positive R, R25 and β. The rounding of the formula in binary32 is
not stated: the value is free within 0.001 °C of it and one part in 2^20, log entry 9; where the denominator is 0 it is free. -/
def ntcCurve (r r25 beta : Word) : Word :=
  let y : Word := Config.ntcValue r r25 beta
  let b := f32Int beta
  -- kelvins are num / den
  let num : Int := 5963 * 2 ^ 64 * b
  let den : Int := 20 * 2 ^ 64 * b + 5963 * lnRatio (f32Int r).toNat (f32Int r25).toNat * 2 ^ 149
  if !f32Finite r || !f32Finite r25 || !f32Finite beta || den = 0 then y
  else
    let top : Int := (if den < 0 then -1 else 1) * (100 * num - 27315 * den)
    let bot : Nat := 100 * den.natAbs
    let err : Nat := (f32Int y * bot - top * 2 ^ 149).natAbs
    if f32Finite y && decide (err * 1000 * 2 ^ 20 ≤ (bot * 2 ^ 20 + 1000 * top.natAbs) * 2 ^ 149) then y
    else f32OfRat top bot

/-- Degrees above the low end of a thermocouple's range at which its reference function does not pass `e`, in 2^-16 °C, by halving. -/
def tcSolve : Nat → Nat → Word → Nat → Nat
  | 0, _, _, t => t
  | b + 1, curve, e, t =>
    let t' := t + 2 ^ b
    let lo := Config.tcLow curve
    let inside : Bool := decide (lo * 65536 + t' ≤ Config.tcHigh curve * 65536)
    tcSolve b curve e (if inside && f32Le (Config.tcRef curve (f32OfRat (lo * 65536 + t') 65536)) e then t' else t)

/-- Curves 3 to 8: E = 1000 x mV plus the reference function at the cold junction, and the temperature within the type's range at
which the reference function is E, to 0.001 °C; none outside the range. The reference functions and ranges of IEC 60584-1 are
not in the spec: they are opaque, and within 0.001 °C the value is free, log entry 9. -/
def tcCurve (free curve : Nat) (x t : Word) : Option Word :=
  let e := f32Add (f32Mul f32Thousand x) (Config.tcRef curve t)
  let lo := Config.tcLow curve
  let hi := Config.tcHigh curve
  let ref (n : Int) (d : Nat) : Word := Config.tcRef curve (f32OfRat n d)
  if !(f32Le (ref lo 1) e && f32Le e (ref hi 1)) then none
  else
    let y := Config.tcValue free
    let below : Word := f32Sub y 0x3A83126F
    let above : Word := f32Add y 0x3A83126F
    if f32Finite y && f32Le (ref lo 1) (Config.tcRef curve y) && f32Le (Config.tcRef curve y) (ref hi 1)
        && f32Le (Config.tcRef curve below) e && f32Le e (Config.tcRef curve above) then some y
    else some (f32OfRat (lo * 65536 + tcSolve 28 curve e 0) 65536)

/-- What a curve gives: a value, out of range, or a wrong configuration. -/
inductive CurveOut where
  | value (y : Word)
  | range
  | config
deriving DecidableEq, Repr

/-- The fallback curves, R277. -/
def State.linCurve (s : State) (free curve set : Nat) (cfgA x t : Word) : CurveOut :=
  if curve ≤ 2 then
    if !cfgOhms cfgA then .config
    else match cvdCurve free x (if curve = 1 then 100 else 1000) with
      | some y => .value y
      | none => .range
  else if curve ≤ 8 then
    if cfgOhms cfgA || cfgRef cfgA ≠ 0 then .config
    else match tcCurve free curve x t with
      | some y => .value y
      | none => .range
  else
    let r25 := s.lin (32 * set + 26)
    let beta := s.lin (32 * set + 27)
    if !f32Lt 0 r25 || !f32Lt 0 beta then .config
    else if cfgOhms cfgA then (if f32Lt 0 x then .value (ntcCurve x r25 beta) else .range)
    else if f32Lt 0 x && f32Lt x 0x3F800000 then
      let r := f32Div (f32Mul (s.lin (32 * set + 28)) x) (f32Sub 0x3F800000 x)
      if f32Lt 0 r then .value (ntcCurve r r25 beta) else .range
    else .range

/-- The output of the linearisation and its LINSRC, R276. -/
def State.linOutput (s : State) (free : Nat) (r : SdRes) (x t : Word) : Word × Nat :=
  let sel := s.lin (512 + r.x)
  let set := wordField sel 27 24
  if wordField sel 31 31 = 0 then (x, 0)
  else
    let y := s.linPoly set x t
    if wordField sel 23 23 = 1 && s.linValid set x && f32Finite y then (y, 1)
    else if wordField sel 19 16 = 0 then (f32NaN, 4)
    else match s.linCurve free (wordField sel 19 16) set r.cfgA x t with
      | .value y => (y, 2)
      | .range => (f32NaN, 4)
      | .config => (f32NaN, 5)

/-- The temperature used for a configuration and whether it is the default, R275. -/
def State.linTemp (s : State) (x : Nat) : Word × Bool :=
  let sel := s.lin (512 + x)
  if wordField sel 15 15 = 0 then (0x41C80000, false)
  else match Sparse.get (fun _ => none) s.afe.linCfg (wordField sel 11 8) with
    | some t => (t, false)
    | none => (0x41C80000, true)

/-- LINEARISE: the oldest result the mover took from modulator `d` is linearised and published, R275 and R276. -/
def linearise (d : Nat) (s : State) : State :=
  match (s.sd d).lin with
  | [] => s
  | r :: l =>
    let s := s.modSd d fun x => { x with lin := l }
    let (n, s) := s.fresh
    let (t, def_) := s.linTemp r.x
    let (y, src) := if r.brk then (f32NaN, 3) else s.linOutput n r (s.linInput r) t
    let key := 32 * d + (if r.inj then 16 else 0) + r.slot
    let s := s.modAfe fun f => { f with linSlot := Sparse.set (fun _ => none) f.linSlot key (some y) }
    let s := if f32Finite y then
        s.modAfe fun f => { f with linCfg := Sparse.set (fun _ => none) f.linCfg r.x (some y) }
      else s
    let s := s.putB (SD_STAT.TDEF d) def_
    if r.inj then s else (s.wr (SD_LINRES d) y).put (SD_STAT.LINSRC d) src

/-! ### Register accesses -/

/-- Whether a write of `w` to a front-end or converter word is refused: `w` is the word the register would hold. -/
def afeRefuses (l : Loc) (w : Word) (s : State) : Bool :=
  match l.defn.reg with
  | .AFE_CFGA =>
    33 < cfgAinp w || 33 < cfgAinn w || cfgTdac w = 3 || cfgLeadK w = 3 || cfgRef w = 3 || (cfgOhms w && cfgRef w = 2)
  | .AFE_IEXC => (List.range 2).any fun i => iexcMode w i = 2 && decide (3 < iexcPin w i)
  | .SD_CMD =>
    let mask := wordField w 11 8
    if wordField w 3 0 = 4 then s.simulRefused mask
    else if wordField w 3 0 = 5 then s.calRefused mask
    else false
  -- a modulator stopped by R86 is not enabled again while another of its words fails parity (DEDUCED, log entry 58)
  | .SD_CFG => w.getLsbD 0 && s.sdBad l.inst
  | .SD_CAL_OFS => (s.sd l.inst).cal.isSome
  | .SD_CAL_GAIN => (s.sd l.inst).cal.isSome
  | .SD_LINDATA => linRefused (s.get (SD_LINADDR.ADDR l.inst) % 528) w
  | _ => false

/-- The address of the store an instance accesses next. -/
def linAdvance (d : Nat) (s : State) : State :=
  let k := s.get (SD_LINADDR.ADDR d)
  s.put (SD_LINADDR.ADDR d) (if 527 ≤ k then 0 else k + 1)

/-- SD_CMD, once accepted. -/
def sdCommand (d cmd mask : Nat) (s : State) : State :=
  match cmd with
  | 1 => sdStart d s
  | 2 => if s.on (SD_CFG.EN d) then sdEndRegular d s else s
  | 3 => urgent none d s
  | 4 => forEach (sdMask mask) sdSimulOne s
  | 5 => sdCal mask s
  | 6 => s.wr (SD_CNT d) 0
  | _ => s

/-- What a write to a front-end or converter register does once its fields are stored or staged: `act` holds the WO bits
written, `old` the word before. -/
def afeWritten (l : Loc) (old act w : Word) (s : State) : State :=
  let d := l.inst
  match l.defn.reg with
  | .AFE_CFGA => (cfgNote l.copy (fun c => { c with a := old }) s).modAfe fun f =>
      { f with cfgSeq := Sparse.modify (fun _ => 0) f.cfgSeq l.copy (· + 1) }
  | .AFE_CFGB => cfgNote l.copy (fun c => { c with b := old }) s
  | .AFE_CFGC => cfgNote l.copy (fun c => { c with c := old }) s
  | .AFE_IEXC => sharedLand s
  | .AFE_VEXC => sharedLand s
  | .AFE_TDAC => sharedLand s
  | .AFE_BRK => applyIf (!s.on AFE_BRK.VALID) (fun s => s.put AFE_BRK.MORE 0) s
  | .AFE_DUTY =>
    if wordField act 31 31 = 1 then
      ((s.put AFE_DUTY.HOLDCNT0 0).put AFE_DUTY.HOLDCNT1 0).wr AFE_BRKCNT 0
    else s
  | .SD_CFG =>
    if wordField old 0 0 = 1 && wordField w 0 0 = 0 then sdDisable d s
    else if !s.on (SD_CFG.EN d) then (sdLand d s).2
    else s
  | .SD_CMD => sdCommand d (wordField act 3 0) (wordField act 11 8) s
  | .SD_LINDATA =>
    let k := s.get (SD_LINADDR.ADDR d) % 528
    linAdvance d (s.setLin k (linStored k w))
  | .SD_LINADDR => s
  | _ =>
    if l.blk = .SD && !s.on (SD_CFG.EN d) then (sdLand d s).2 else s

/-- What a read of a converter register does after its value is taken. -/
def afeReadDone (l : Loc) (s : State) : State :=
  let d := l.inst
  match l.defn.reg with
  | .SD_RESULT => applyIf (!s.on (SD_CFG.MOVE d)) (fun s => s.modSd d fun x => { x with fresh := false }) s
  | .SD_INJRESULT => applyIf (!s.on (SD_CFG.MOVE d)) (fun s => s.modSd d fun x => { x with injFresh := false }) s
  | .SD_LINDATA => linAdvance d s
  | _ => s

/-- A modulator stops on a parity failure, and its results are marked invalid, R86. -/
def sdParity (d : Nat) (s : State) : State := ((sdDisable d s).put (SD_RESULT.BRK d) 1).put (SD_INJRESULT.BRK d) 1

/-- A parity failure in a front-end or converter word stops the modulators it concerns, R86: a configuration word those whose
conversion, in progress or waiting, names it, a global word all four, a word of a modulator that one. -/
def afeParity (l : Loc) (s : State) : State :=
  match l.blk with
  | .AFE =>
    let stops (d : Nat) : Bool :=
      match l.defn.reg with
      | .AFE_CFGA | .AFE_CFGB | .AFE_CFGC =>
        (match (s.sd d).conv with
        | some v => v.x = l.copy
        | none => (s.sdComing d).any fun x => x.2.2 = l.copy)
      | _ => true
    forEach ((List.range 4).filter stops) sdParity s
  | .SD => sdParity l.inst s
  | _ => s

/-- CONVERSION_START: the modulator starts the conversion that is next, if there is one it may start. Its own words and those
of the configuration land first; a conversion after its lead conversion keeps the words the lead conversion started with. A
modulator whose next conversion names a configuration with a word that fails parity stops, R86. -/
def conversionStart (d now : Nat) (s : State) : State :=
  let x := s.sd d
  if !s.afeOn || !s.on (SD_CFG.EN d) || x.conv.isSome || x.cal.isSome then s
  else match s.sdNext d with
    | none => s
    | some (inj, slot, cfg) =>
      if s.cfgBad cfg then sdParity d s
      else if x.leadDone && x.leadFor = cfg then sdStartConv d inj slot cfg now s
      else
        let (ended, s) := sdLand d (s.modSd d fun x => { x with leadDone := false })
        if ended then s
        else match s.sdNext d with
          | none => s
          | some (inj, slot, cfg) =>
            if s.cfgBad cfg then sdParity d s else sdStartConv d inj slot cfg now (cfgLand d cfg s)

end Sys2Proof.Machine
end

