-- ==== Sys2Proof/Machine/Crc.lean ====
section
/-!
DEFINITION. Machine/Crc.lean: CRC-32C with the parameters of R13, over bytes and over words stored least significant byte first
(R212), and the CRC-64 of R284.
-/

namespace Sys2Proof.Machine

/-- One bit of a reflected CRC-32C. -/
def crcBit (c : Word) : Word := if c.getLsbD 0 then (c >>> 1) ^^^ 0x82F63B78 else c >>> 1

/-- One byte of a CRC-32C. -/
def crcByte (c : Word) (b : Nat) : Word :=
  let c := c ^^^ BitVec.ofNat 32 (b % 256)
  crcBit (crcBit (crcBit (crcBit (crcBit (crcBit (crcBit (crcBit c)))))))

/-- CRC-32C of bytes: initial value and final XOR all ones, reflected input and output, R13. -/
def crc32c (bytes : List Nat) : Word := ~~~ (bytes.foldl crcByte 0xFFFFFFFF)

/-- The bytes of a word, least significant first. -/
def wordBytes (w : Word) : List Nat := [w.toNat % 256, w.toNat / 256 % 256, w.toNat / 65536 % 256, w.toNat / 16777216]

/-- The bytes of a number, most significant first. -/
def beBytes (n v : Nat) : List Nat := (List.range n).map fun i => v / 256 ^ (n - 1 - i) % 256

/-- CRC-32C over words. -/
def crcWords (l : List Word) : Word := crc32c (l.flatMap wordBytes)

/-- One bit of the CRC-64 of R284. -/
def crc64Bit (c : BitVec 64) : BitVec 64 := if c.getLsbD 63 then (c <<< 1) ^^^ 0x42F0E1EBA9EA3693 else c <<< 1

/-- One byte of the CRC-64, most significant bit first. -/
def crc64Byte (c : BitVec 64) (b : Nat) : BitVec 64 :=
  let c := c ^^^ BitVec.ofNat 64 (b % 256 * 2 ^ 56)
  crc64Bit (crc64Bit (crc64Bit (crc64Bit (crc64Bit (crc64Bit (crc64Bit (crc64Bit c)))))))

/-- The CRC-64 of bytes, from the initial value 0, R284. How requests and writes are laid out as bytes, and that no bit is reflected,
the rule leaves open (DESIGN CHOICE, log entry 65). -/
def crc64 (bytes : List Nat) : BitVec 64 := bytes.foldl crc64Byte 0

end Sys2Proof.Machine
end

