-- ==== Sys2Proof/Machine/CoachOps.lean ====
section
/-!
DEFINITION. Machine/CoachOps.lean: what a coach does: leg switching (R98 to R100, R108), gate-drive adaptation (R103 to R105),
coil chopping (R136 to R138), back-EMF windows (R192), overcurrent (R117, R119), gang balance (R109), and its periods (R133).
-/

namespace Sys2Proof.Machine

/-- A coach's domain is on, or powering up under R50. -/
def State.coachLive (s : State) (c : Nat) : Bool := s.coachOn c || (s.coach c).powering

/-- Frames pass on a coupling: trained, and the coach has not fallen silent, R21. -/
def State.linkLive (s : State) (c : Nat) : Bool := s.on (CO_LINKSTAT.UP c) && !(s.coach c).declared

/-- The coach queues a report for its next STAT frame, R117. -/
def report (c : Nat) (x : StatRep) (s : State) : State := s.modCoach c fun k => { k with statq := k.statq ++ [x] }

/-- Coach of a leg. -/
def legCoach (l : Nat) : Nat := l / 128

/-- The override of LEG_TEST replaces the commands of a leg: its leader's, R113. -/
def State.overridden (s : State) (l : Nat) : Bool := s.on (LEG_TEST.OVR (s.legLeader l))

/-! ### Leg switching, R98 to R100 -/

/-- A crossed command, R99: the leg enters BLOCK, and counts and reports it once in a period, a killed leg too. -/
def crossed (l : Nat) (s : State) : State :=
  let seen := (s.leg l).xcSeen
  let s := s.modLeg l fun g => { g with phase := .block, ready := false, xcSeen := true }
  if seen then s else report (legCoach l) (.xcmd l) (s.inc (LEG_FLTCNT.XCMDCNT l))

/-- Gives a leg its two on-commands. -/
def legCmd (l : Nat) (hs ls : Bool) (s : State) : State :=
  let s := s.modLeg l fun g => { g with hs := hs, ls := ls }
  let g := s.leg l
  if hs && ls then (if g.phase = .block then s else crossed l s) else settle l s

/-- The outgoing gate of a leg has been sensed low for DT, R98; a gang moves when every member is ready, R108. -/
def deadTimeEnd (l : Nat) (s : State) : State :=
  let p := (s.leg l).phase
  if p = .waitHs || p = .waitLs then
    let s := s.modLeg l fun g => { g with ready := true }
    let gang := s.legGang l
    if gang.all fun m => (s.leg m).ready && (s.leg m).phase = p then
      forEach gang (fun m s => s.modLeg m fun g => { g with phase := if p = .waitHs then .hsOn else .lsOn, ready := false }) s
    else s
  else s

/-- A leg waits for the opposite gate, which has not been sensed low. -/
def Leg.waits (g : Leg) : Bool := (g.phase = .waitHs || g.phase = .waitLs) && !g.ready

/-- The outgoing gate is not sensed low within 1 µs, R100: the gang blocks, and the leg counts and reports it. Another member
that waited too can still report the timeout it detected in the same cycle, R108. -/
def interlockTimeout (l : Nat) (s : State) : State :=
  let g := s.leg l
  if g.waits then
    let s := forEach (s.legGang l) (fun m s =>
      s.modLeg m fun g => { g with phase := .block, ready := false, stuck := g.waits && m ≠ l }) s
    report (legCoach l) (.ilk l) (s.inc (LEG_FLTCNT.ILKCNT l))
  else if g.stuck then
    report (legCoach l) (.ilk l) ((s.inc (LEG_FLTCNT.ILKCNT l)).modLeg l fun g => { g with stuck := false })
  else s

/-- A kill frame turns a leg off and holds it off, R123; a release frame releases it. -/
def killLeg (l : Nat) (s : State) : State :=
  s.modLeg l fun g => { g with killed := true, phase := if g.phase = .block then .block else .off, ready := false }
def freeLeg (l : Nat) (s : State) : State := s.modLeg l fun g => { g with killed := false, hs := false, ls := false }

/-! ### Coils -/

/-- The axis of coil position `z` of rank `r`, R134. -/
def coilAxis (r z : Nat) : Nat := axisAt r (z / 8) (z % 8 / 2)

/-- Whether a coil position holds a live coil. -/
def State.coilLive (s : State) (r z : Nat) : Bool := slotLive (s.topo r (z / 8)) (z % 8 / 2)

/-- Coil ends E1 and E2 for a polarity, R135. -/
def coilE (z pol : Nat) : Nat × Nat :=
  let f := 2 * (z % 2)
  if pol = 0 then (f, f + 1) else (f + 1, f)

/-- Gives every leg of a coil end its commands, unless LEG_TEST overrides them. -/
def setEnd (a e : Nat) (hs ls : Bool) (s : State) : State :=
  forEach (s.endLegs a e) (fun l s => if s.overridden l then s else legCmd l hs ls s) s

/-- Gives the legs of a coil the switch states of its phase (the table before R136). -/
def showCoil (r z : Nat) (s : State) : State :=
  let c := s.coil r z
  let a := coilAxis r z
  let (e1, e2) := coilE z c.cmd.pol
  match c.phase with
  | .drive => setEnd a e2 false true (setEnd a e1 true false s)
  | .fast => setEnd a e2 true false (setEnd a e1 false true s)
  | .winFast => setEnd a e2 true false (setEnd a e1 false true s)
  | .slow => setEnd a e2 false true (setEnd a e1 false true s)
  | .brake => setEnd a e2 false true (setEnd a e1 false true s)
  | _ => setEnd a e2 false false (setEnd a e1 false false s)

/-- Puts a coil into a phase. -/
def coilTo (r z : Nat) (p : CoilPhase) (s : State) : State := showCoil r z (s.modCoil r z fun c => { c with phase := p })

/-- Length of the fast portion of mixed decay, R136 step 4. -/
def fastLen (ff per tTrip : Nat) : Nat := ff * (per - tTrip) / 128

/-- The decay of DEC from time `t`, R136 steps 4 and 6. -/
def enterDecay (r z t : Nat) (s : State) : State :=
  let c := s.coil r z
  let n := fastLen c.cmd.ff (s.get (CO_PWMPER.PER (r / 4))) t
  let s := s.modCoil r z fun c => { c with tTrip := t, tFast := if c.cmd.dec = 2 then n else 0 }
  coilTo r z (if c.cmd.dec = 1 || (c.cmd.dec = 2 && 0 < n) then .fast else .slow) s

/-- R136 from step 1. `cont` says that the coil was already in drive at this polarity, its blanking over or not. -/
def beginChop (r z : Nat) (cont : Bool) (s : State) : State :=
  if 0 < (s.coil r z).cmd.thr then
    coilTo r z .drive (s.modCoil r z fun c => { c with blank := c.blank || !cont, tTrip := 0, tFast := 0 })
  else enterDecay r z 0 (s.modCoil r z fun c => { c with blank := false })

/-- Queues an SNS record, R193. -/
def sense (c : Nat) (x : SnsRec) (s : State) : State := s.modCoach c fun k => { k with snsq := k.snsq ++ [x] }

/-- Local period number of a rank, modulo 256. -/
def State.locPer (s : State) (r : Nat) : Nat := (s.coach (r / 4)).locPer.getD (r % 4) 0

/-- Removes a SAR request. -/
def dropSar (r z : Nat) (s : State) : State :=
  s.modCoach (r / 4) fun k => { k with sar := k.sar.filter fun x => x ≠ (r % 4, z) }

/-- A coil is in a back-EMF window. -/
def CoilPhase.window (p : CoilPhase) : Bool := p = .winFast || p = .winFloat || p = .winConv

/-- A window is abandoned, R192: reported with NOZERO, and the coil resumes under step 4. -/
def windowAbandon (r z : Nat) (s : State) : State :=
  if (s.coil r z).phase.window then
    let s := sense (r / 4) (.bemf (r % 4) z (s.locPer r) 0 (s.coil r z).tz true false) s
    beginChop r z false (dropSar r z s)
  else s

/-- The conducting low side falls below the zero guard in a window: both ends go off and TZ is recorded. -/
def windowZero (r z tz : Nat) (s : State) : State :=
  if (s.coil r z).phase = .winFast then coilTo r z .winFloat (s.modCoil r z fun c => { c with tz := tz }) else s

/-- TSET has passed: the rank SAR is requested. -/
def sarRequest (r z : Nat) (s : State) : State :=
  if (s.coil r z).phase = .winFloat then
    (s.modCoil r z fun c => { c with phase := .winConv }).modCoach (r / 4) fun k => { k with sar := k.sar ++ [(r % 4, z)] }
  else s

/-- The conversion of the oldest request of the rank ends: its record is sent and the coil runs R136 from step 1. -/
def sarConversion (r z : Nat) (sample : Int) (s : State) : State :=
  let first := ((s.coach (r / 4)).sar.find? fun x => x.1 = r % 4).map (·.2)
  if (s.coil r z).phase = .winConv && first = some z then
    let x := clampInt (-2048) 2047 sample
    let clip : Bool := x = -2048 || x = 2047
    let s := sense (r / 4) (.bemf (r % 4) z (s.locPer r) x (s.coil r z).tz false clip) s
    beginChop r z false (dropSar r z s)
  else s

/-- Blanking ends, R136 step 2: it has run since the later drive-path switch reached its on state. -/
def blankingEnd (r z : Nat) (s : State) : State :=
  let c := s.coil r z
  let a := coilAxis r z
  let (e1, e2) := coilE z c.cmd.pol
  if c.phase = .drive && (s.endLegs a e1).all (fun l => (s.leg l).phase = .hsOn)
      && (s.endLegs a e2).all (fun l => (s.leg l).phase = .lsOn) then
    s.modCoil r z fun c => { c with blank := false }
  else s

/-- Drive ends at time `t`, R136 step 3 and R138; `early` is the EARLY flag. -/
def driveEnd (r z t : Nat) (early : Bool) (s : State) : State :=
  enterDecay r z t (s.modCoil r z fun c => { c with tripped := true, early := early })

/-- The fast portion of mixed decay ends. -/
def mixedSwitch (r z : Nat) (s : State) : State :=
  let c := s.coil r z
  if c.cmd.dec = 2 && (c.phase = .fast || c.phase = .zero) then coilTo r z .slow s else s

/-- The zero guard of R137 in fast decay. -/
def zeroGuard (r z : Nat) (s : State) : State := if (s.coil r z).phase = .fast then coilTo r z .zero s else s

/-! ### Gang balance, R109 -/

/-- Sum and largest deviation from the mean, both times the number of members. -/
def spread (l : List Nat) : Nat × Nat :=
  let n := l.length
  let sum : Nat := l.foldl (· + ·) 0
  (sum, l.foldl (fun m i => max m (((n * i : Nat) : Int) - sum).natAbs) 0)

/-- The member with the largest deviation, lowest leg first. -/
def worst (legs : List Nat) (l : List Nat) : Nat :=
  let n := l.length
  let sum : Nat := l.foldl (· + ·) 0
  ((legs.zip l).foldl (fun (b : Option (Nat × Nat)) p =>
    let d := (((n * p.2 : Nat) : Int) - sum).natAbs
    match b with
    | none => some (p.1, d)
    | some (_, e) => if e < d then some (p.1, d) else b) none).map (·.1) |>.getD 0

/-- The imbalance in percent as RK_IMB shows it; how the quotient is rounded is not stated and is free. -/
def imbPct (dev sum : Nat) (s : State) : Nat × State :=
  if 100 * dev % sum = 0 then (min 255 (100 * dev / sum), s)
  else
    let (j, s) := s.fresh
    (min 255 (100 * dev / sum + b2n (Config.roundUp j)), s)

/-- The end of an on-time of a gang's conducting switches: `cur` the members' sense currents in mA of switch current, leader
first, `onTime` its length in 5 ns counts. Whether the count restarts once NPER is reached is not stated: it does not, and each
further evaluation over THR flags again (DESIGN CHOICE, log entry 56). -/
def balance (a e onTime : Nat) (cur : List Nat) (s : State) : State :=
  let legs := s.endLegs a e
  let r := axisRank a
  let n := legs.length
  let z := 8 * axisHalf a + 2 * axisSlot a + e / 2
  let (sum, dev) := spread cur
  if n < 2 || cur.length ≠ n || onTime < s.get (CO_BLANK.BLANK (r / 4)) + 40 || sum < 90 * n then s
  else if 100 * dev ≤ s.get (RK_BALCFG.THR r) * sum then
    s.modCoil r z fun c => if e % 2 = 0 then { c with imb1 := 0 } else { c with imb2 := 0 }
  else
    let run := 1 + (if e % 2 = 0 then (s.coil r z).imb1 else (s.coil r z).imb2)
    let per := s.get (RK_BALCFG.NPER r)
    let s := s.modCoil r z fun c => if e % 2 = 0 then { c with imb1 := min run per } else { c with imb2 := min run per }
    if per ≤ run then
      let (pct, s) := imbPct dev sum s
      report (r / 4) (.imb (worst legs cur) pct) s
    else s

/-- A switch of a leg conducts. -/
def Leg.conducts (g : Leg) : Bool := g.phase = .hsOn || g.phase = .lsOn

/-- A command ends on-times of gangs, at legs that satisfy `p`: each is evaluated if its gang conducted, R109. -/
def gangOffs (p : Nat → Bool) (l : List GangEnd) (s : State) : State :=
  l.foldl (fun s x =>
    let (a, e) := s.legOwner x.leg
    if p x.leg && (s.leg x.leg).conducts then balance a e x.onTime x.cur s else s) s

/-- A leg of rank `r`; of coach `c`. -/
def ofRank (r l : Nat) : Bool := l / 32 = r
def ofCoach (c l : Nat) : Bool := legCoach l = c

/-- A comparator trip, R136 step 3. `x` and `onTime` describe the on-time of E1's high sides that it ends, and those of other gangs. -/
def comparatorTrip (r z t : Nat) (first : Bool) (onTime : Nat) (x : TripRead) (s : State) : State :=
  let c := s.coil r z
  if c.phase = .drive && !c.blank then
    balance (coilAxis r z) (coilE z c.cmd.pol).1 onTime x.cur (driveEnd r z t first (gangOffs (ofRank r) x.gangs s))
  else s

/-! ### Overcurrent, R117 to R119 -/

/-- A coil is in the blanking of its drive, in which OC is not evaluated, R118. -/
def State.blanked (s : State) (r z : Nat) : Bool := (s.coil r z).phase = .drive && (s.coil r z).blank

/-- Whether the detector of a switch that another trip of the same instant turned off evaluated OC, R117 and R119: none if that was
not so. -/
def Leg.cutAt (g : Leg) (hs : Bool) (stamp : Nat) : Option Bool :=
  match if hs then g.cutHs else g.cutLs with
  | some (t, ev) => if t = stamp then some ev else none
  | none => none

/-- The switch that conducts in a leg may trip yet in the instant `stamp` in which another of its coil did. -/
def Leg.cut (stamp : Nat) (ev : Bool) (g : Leg) : Leg :=
  match g.phase with
  | .hsOn => { g with cutHs := some (stamp, ev) }
  | .lsOn => { g with cutLs := some (stamp, ev) }
  | _ => g

/-- Drops the mark of a switch. -/
def Leg.uncut (hs : Bool) (g : Leg) : Leg := if hs then { g with cutHs := none } else { g with cutLs := none }

/-- A switch of leg `l` trips: it and the same switch of its gang go off for the period, and the trip is counted and reported.
A trip in the drive path ends drive, R138. Switches of the coil that conducted when the first trip of an instant came can trip in the
same instant. -/
def overcurrent (l : Nat) (hs hard : Bool) (time stamp onTime : Nat) (x : TripRead) (s : State) : State :=
  let g := s.leg l
  let isOn : Bool := if hs then g.phase = .hsOn else g.phase = .lsOn
  let (a, e) := s.legOwner l
  let r := l / 32
  let z := 8 * axisHalf a + 2 * axisSlot a + e / 2
  let ev := !s.blanked r z
  let may : Bool := match g.cutAt hs stamp with
    | some ev => hard || ev
    | none => isOn && (hard || ev)
  if may then
    let s := forEach (s.endLegs a e ++ s.endLegs a (e / 2 * 2 + (e + 1) % 2)) (fun m s =>
      if (s.leg m).cutAt true stamp = none && (s.leg m).cutAt false stamp = none then s.modLeg m (Leg.cut stamp ev) else s) s
    let s := s.modLeg l (Leg.uncut hs)
    let s := forEach (s.legGang l) (fun m s =>
      settle m (s.modLeg m fun g => if hs then { g with tripHs := true } else { g with tripLs := true })) s
    let s :=
      if hard then (if g.hocSeen then s else (s.inc (LEG_FLTCNT.HOCCNT l)).modLeg l fun g => { g with hocSeen := true })
      else if g.ocSeen then s else (s.inc (LEG_FLTCNT.OCCNT l)).modLeg l fun g => { g with ocSeen := true }
    let s := report (legCoach l) (.trip l hs hard (s.locPer r) time stamp) s
    let s := gangOffs (ofRank r) x.gangs (if isOn then balance a e onTime x.cur s else s)
    let c := s.coil r z
    let (e1, e2) := coilE z c.cmd.pol
    if c.phase = .drive && (if hs then e = e1 else e = e2) then driveEnd r z time false s else s
  else s

/-! ### Local periods, R134 and R136 -/

/-- A coil starts a local period with its record. -/
def startPeriod (r z : Nat) (x : CoilRec) (s : State) : State :=
  let old := s.coil r z
  let cont : Bool := old.phase = .drive && old.cmd.pol = x.pol
  let s := s.modCoil r z fun c => { c with cmd := x, tripped := false, early := false, deep := false, tz := 0 }
  match x.op with
  | 0 => coilTo r z .off s
  | 1 => beginChop r z cont s
  | 2 => coilTo r z .brake s
  | _ => coilTo r z .winFast (s.modCoil r z fun c => { c with blank := false })

/-- The decay flags of the local period that ends, R143: EARLY and DEEP of coils that chopped without a window and tripped. -/
def decayFlags (r : Nat) (deep : List Nat) (s : State) : State :=
  let zs := List.range 16
  let flags (p : Nat → Bool) : Nat := zs.foldl (fun n z => natPutBit n z (p z)) 0
  let chop (z : Nat) : Bool := (s.coil r z).tripped && (s.coil r z).cmd.op = 1
  let e := flags fun z => chop z && (s.coil r z).early
  let d := flags fun z => chop z && deep.contains z
  if e = 0 ∧ d = 0 then s else sense (r / 4) (.decay (r % 4) (s.locPer r) e d) s

/-- The override of a leg's gang in a period: its commands until the on-time ends, R113. A write of LEG_TEST that sets OVR or changes
the switches or the on-time acts from the next period start of its rank (DESIGN CHOICE, log entry 56). -/
def overrideStart (l : Nat) (s : State) : State :=
  let m := s.legLeader l
  if s.overridden l then
    let on : Bool := s.on (LEG_TEST.ONTIME m)
    legCmd l (on && s.on (LEG_TEST.HSON m)) (on && s.on (LEG_TEST.LSON m)) s
  else s

/-- The on-time of an override ends. -/
def overrideEnd (l : Nat) (s : State) : State :=
  if s.overridden l then forEach (s.legGang l) (fun m s => legCmd m false false s) s else s

/-- An override is taken away: the leg's coil end follows the regulation controller's commands again, R113. -/
def overrideOff (l : Nat) (s : State) : State :=
  let (a, e) := s.legOwner l
  showCoil (l / 32) (8 * axisHalf a + 2 * axisSlot a + e / 2) s

/-- A leg at a period start: trips and BLOCK end, R98 and R117. -/
def legPeriod (l : Nat) (s : State) : State :=
  s.modLeg l fun g =>
    { g with
      tripHs := false, tripLs := false, ocSeen := false, hocSeen := false, xcSeen := false, stuck := false
      cutHs := none, cutLs := none
      phase := if g.phase = .block then .off else g.phase }

/-- The local period of rank `r` starts; `deep` are the coils whose low side was below the ripple target at the end of the
last one (R143), `gangs` the on-times of gangs that end with it. -/
def rankStart (r : Nat) (deep : List Nat) (gangs : List GangEnd) (s : State) : State :=
  let c := r / 4
  if !s.coachLive c then s
  else
    let s := gangOffs (ofRank r) gangs s
    let s := forEach (List.range 16) (windowAbandon r) s
    let s := decayFlags r deep s
    let s := s.modCoach c fun k => { k with locPer := k.locPer.set (r % 4) (s.get (CO_PERCNT.COUNT c) % 256) }
    let s := forEach (rankLegs r) legPeriod s
    let x := s.coach c
    if x.safe then
      forEach (rankLegs r) (fun l s => legCmd l (s.leg l).hs (s.leg l).ls s) s
    else
      let recs := x.applied.getD (r % 4) []
      let s := forEach (List.range 16) (fun z s =>
        if s.coilLive r z then startPeriod r z (recs.getD z {}) s else s) s
      forEach (rankLegs r) overrideStart s

/-! ### Coach periods -/

/-- Gate-drive adaptation of one leg at the end of a period, R103 to R105; `ts` its counted edge times, ns. -/
def adaptLeg (l : Nat) (ts : List Nat) (s : State) : State :=
  let c := legCoach l
  if s.legLeader l ≠ l then s
  else if !s.on (LEG_CFG.ADAPT l) then holdCode l s
  else if ts.isEmpty then s
  else
    let tgt := s.get (CO_SLEWTGT.TGT c)
    let n := ts.length
    let sum := ts.foldl (· + ·) 0
    -- both sides times 20 n: mean against TGT ± max (3, TGT / 20)
    let band := max 60 tgt
    let code := s.get (LEG_STAT.DRVCODE l)
    let up : Bool := decide (n * (20 * tgt + band) < 20 * sum)
    let down : Bool := decide (20 * sum < n * (20 * tgt - band))
    if (up && code = 31) || (down && code = 0) then
      let pin := (s.leg l).pin + 1
      let s := (s.modLeg l fun g => { g with pin := pin }).put (LEG_STAT.PINNED l) 1
      if pin = 256 then report c (.slewu l) s else s
    else
      let s := (s.modLeg l fun g => { g with pin := 0 }).put (LEG_STAT.PINNED l) 0
      s.put (LEG_STAT.DRVCODE l) (if up then code + 1 else if down then code - 1 else code)

/-- The legs of coach `c`. -/
def coachLegs (c : Nat) : List Nat := (List.range 128).map fun i => 128 * c + i

/-- The edges counted in the period that ends (leg, rising, ns): LEG_EDGE and the adaptation. -/
def adapt (c : Nat) (edges : List (Nat × Bool × Nat)) (s : State) : State :=
  let mine := edges.filter fun x => legCoach x.1 = c
  let s := mine.foldl (fun s x =>
    s.put (if x.2.1 then LEG_EDGE.TRISE x.1 else LEG_EDGE.TFALL x.1) (min 255 x.2.2)) s
  let s := forEach (coachLegs c) (fun l s => adaptLeg l ((mine.filter fun x => x.1 = l).map fun x => min 255 x.2.2) s) s
  forEach (coachLegs c) showFollower s

/-- Which axes of rank `r` are absent is shown in AX_STAT.NOTPRES, R107. -/
def showPresent (r : Nat) (s : State) : State := forEach (rankAxes r) (fun a s => s.putB (AX_STAT.NOTPRES a) (s.absent a)) s

/-- A write of RK_MODE that would give half-rank `h` of rank `r` another topology is still on its way to the coach, R111. -/
def State.modeComing (s : State) (r h : Nat) : Bool :=
  (s.coach (r / 4)).cfgq.any fun e =>
    e.addr = RK_MODE r && match e.wr with
      | some v => wordField v (2 * h + 1) (2 * h) ≠ s.topo r h
      | none => false

/-- RK_STAT.MODEPEND when the coach has applied RK_MODE, R111: clear, but for a half-rank that a further write on its way still
changes; while the coupling is down, or the hub does not know that the value arrived, it stays. -/
def State.modePend (s : State) (r : Nat) : Nat :=
  if !s.linkLive (r / 4) || natBit (s.coach (r / 4)).modeLost (r % 4) then s.get (RK_STAT.MODEPEND r)
  else natPutBit (b2n (s.modeComing r 0)) 1 (s.modeComing r 1)

/-- The coach applies RK_MODE at a LEG boundary, R111 and R112; the balance counts of the half-ranks that changed restart, and the legs'
kept flags are those of their new axes, R189. -/
def applyTopology (r : Nat) (s : State) : State :=
  let m0 := s.get (RK_MODE.MODE0 r)
  let m1 := s.get (RK_MODE.MODE1 r)
  let c0 : Bool := m0 ≠ s.get (RK_STAT.APPLIED0 r)
  let c1 : Bool := m1 ≠ s.get (RK_STAT.APPLIED1 r)
  if !c0 && !c1 then s
  else
    let s := (s.put (RK_STAT.APPLIED0 r) m0).put (RK_STAT.APPLIED1 r) m1
    let s := s.put (RK_STAT.MODEPEND r) (s.modePend r)
    let s := forEach ((List.range 16).filter fun z => if z < 8 then c0 else c1) (fun z s =>
      s.modCoil r z fun c => { c with imb1 := 0, imb2 := 0 }) s
    forEach (rankAxes r) updAlert (showPresent r (forEach (rankLegs r) showFollower s))

/-- The start and length of the coach period that begins, R133: `t` is its start, `changed` says that a new PER landed. -/
def periodLength (per t : Nat) (changed : Bool) : Nat :=
  let from_ := if changed then t + 2000 else t + 1
  let p := max 1 per
  (from_ + p - 1) / p * p - t

/-- The clock of the coach's periods. -/
def advancePeriod (c oldPer : Nat) (s : State) : State :=
  let per := s.get (CO_PWMPER.PER c)
  s.modCoach c fun k =>
    let t := k.tStart + k.perLen
    { k with tStart := t, perLen := periodLength per t (per ≠ oldPer) }

/-- A coach declares the loss of its coupling, R20 and R21: it takes its safe state, is silent for 2 µs and then waits for training. A
loss it declares while the hub holds the coupling up is reported after training. -/
def coachLoses (c : Nat) (s : State) : State :=
  let up := s.on (CO_LINKSTAT.UP c)
  (coachSafe c s).modCoach c fun k => { k with declared := up, silent := true, awaits := true, missRun := 0 }

/-- The coach takes the set received for the period that begins, or repeats the last one, R15 and R16: for each rank the first
frame tagged with this period's number; a frame tagged with another is ignored. Three repeats in a row are a loss of the
coupling, R19; `gangs` are the on-times it ends. -/
def takeSet (c : Nat) (gangs : List GangEnd) (s : State) : State :=
  let k := s.coach c
  let p := s.get (CO_PERCNT.COUNT c) % 256
  let sets := (List.range 4).map fun q => (k.rx.find? fun x => x.q = q && x.period = p).map (·.recs)
  if sets.all (·.isSome) then
    s.modCoach c fun k => { k with applied := sets.map fun x => x.getD [], rx := [], missRun := 0 }
  else
    let run := k.missRun + 1
    let s := s.modCoach c fun k => { k with rx := [], missRun := run, missRep := k.missRep + 1 }
    if 3 ≤ run then coachLoses c (gangOffs (ofCoach c) gangs s) else s

end Sys2Proof.Machine
end

