-- ==== Sys2Proof/Machine/LinkOps.lean ====
section
/-!
DEFINITION. Machine/LinkOps.lean: the hub end of the couplings: command sets (R15, R135, R139 to R143), window placement (R191),
what STAT, SNS and CTL frames do (R13, R99, R100, R105, R109, R115, R117, R122, R193, R206), watchdogs and training (R19 to R23).
-/

namespace Sys2Proof.Machine

/-! ### Coil records -/

/-- The table entry of a table address, R153. -/
def waveEntry (addr : Nat) : Nat := if addr / 256 % 2 = 0 then addr % 256 else 256 - addr % 256

/-- Magnitude and polarity of coil A at a table address, R153. -/
def State.coilWave (s : State) (t addr : Nat) : Nat × Nat := (s.get (WAVE.Q t (waveEntry addr)), addr / 256 % 4 / 2)

/-- The threshold of R139. -/
def threshold (wave cs : Nat) : Nat := (wave * (cs + 1) * 1023 + 524160) / 1048320

/-- OP (0 off, 1 chop, 2 brake) and current scale an axis's coils get from the next build, R123, R125, R129, R142, R147. In the
device safe state the legs of a halted axis are off, R291. -/
def State.coilCmd (s : State) (a : Nat) : Nat × Nat :=
  let cs := s.get (AX_CS.CS a)
  if s.absent a then (0, 0)
  else if s.ovBrake a then (2, 0)
  else if s.heldOff a || !s.enabled a || (s.coach (axisCoach a)).offWait then (0, 0)
  else if s.trio.safeIn && s.on (AX_STAT.HALTED a) then (0, 0)
  else if s.get (AX_FLTSTAT.STATE a) = 2 then (1, cs)
  -- the scale of a homing axis is HCS in every state, ENERGISE included, R201
  else if s.on (AX_HOMEST.STATE a) then (1, s.get (AX_HOMECFG.HCS a))
  else
    let st := s.get (AX_SSTAT.STATE a)
    if st = 2 || st = 6 then (0, 0)
    else if st = 3 then (2, 0)
    else if st = 4 then (1, s.csHold a)
    else if st = 1 || st = 5 || st = 7 then (1, cs)
    else if s.get (AX_STAT.MODEACT a) = 5 then (1, s.get (AX_HOMECFG.HCS a))
    else (1, if s.on (AX_TRIM.EN a) then (s.se a).csEff else cs)

/-- The record of coil A (false) or B (true) of an axis, R135, R139, R143 and R153, before any window. -/
def State.coilRec (s : State) (a : Nat) (b : Bool) : CoilRec :=
  let (op, cs) := s.coilCmd a
  if op = 1 then
    let addr := (s.tableAddr a (s.se a).addrPos + if b then 256 else 0) % 1024
    let (wave, pol) := s.coilWave (s.get (AX_WAVESEL.TABLE a)) addr
    let mode := s.get (AX_DECAY.MODE a)
    let ff := if mode = 2 && s.on (AX_DECAY.TRIM a) then (s.se a).ffEff else s.get (AX_DECAY.FF a)
    ⟨1, pol, mode, ff, threshold wave cs⟩
  else { op := op }

/-! ### Window placement, R191 and R194 -/

/-- The last point congruent to `x` modulo `m` that travel from `last` to `now` has reached or passed. -/
def lastPassed (x m : Nat) (last now : Int) : Option Int :=
  if last < now then
    let p := now - (now - x) % m
    if last < p then some p else none
  else if now < last then
    let p := now + (x - now) % m
    if p < last then some p else none
  else none

/-- Of two points passed, the later one in the direction of travel. -/
def laterOf (up : Bool) : Option Int → Option Int → Option Int
  | none, y => y
  | x, none => x
  | some x, some y => some (if up then max x y else min x y)

/-- The target of coil A or B passed since the last command set, and the reference zero Z0 of R194. -/
def State.windowTarget (s : State) (a : Nat) (b : Bool) (last now : Int) : Option (Int × Int) :=
  let up : Bool := decide (last < now)
  let zeroAt : Nat := if b then 256 else 0
  -- the zero at or before `x` in the direction of travel
  let zeroBefore (x : Int) : Int := if up then x - (x - zeroAt) % 512 else x + (zeroAt - x) % 512
  if s.get (AX_USTAT.BAND a) = 4 then
    if b then none else (lastPassed 128 256 last now).map fun p => (p, zeroBefore now)
  else
    let ph := s.get (AX_BEMFCFG.PH a)
    (laterOf up (lastPassed ((zeroAt + ph) % 512) 512 last now) (lastPassed ((zeroAt + 512 - ph) % 512) 512 last now)).map
      fun p => (p, zeroBefore p)

/-- The address travel of an axis: its grid position, reversed by INV. -/
def State.travel (s : State) (a : Nat) : Int :=
  let p := (s.se a).addrPos
  if s.on (AX_WAVESEL.INV a) then -p else p

/-- Whether windows are placed for an axis at this build, R191. -/
def State.windows (s : State) (a : Nat) : Bool :=
  s.on (AX_BEMFCFG.EN a) && s.enabled a && !s.on (AX_STAT.HALTED a)
    && decide (speedTh (s.get (AX_BEMFSPD.MINSPD a) * 7 / 8) ≤ speedOf (s.mo a).v)

/-- Turns a chopping record into a window where R191 places one, and notes the window for its result. -/
def placeWindow (a : Nat) (b : Bool) (period : Nat) (x : CoilRec) (s : State) : CoilRec × State :=
  let now := s.travel a
  match (s.se a).lastSet with
  | none => (x, s)
  | some last =>
    if x.op = 1 && s.windows a then
      match s.windowTarget a b last now with
      | none => (x, s)
      | some (_, z0) =>
        let up : Bool := decide (last < now)
        -- the polarity the coil takes just after Z0 in the direction of travel
        let just : Nat := unsigned 10 ((if up then z0 else z0 - 1) + if b then 256 else 0)
        let pol0 : Bool := decide (just < 512)
        let tag : WinTag := ⟨b, period, unsigned 10 now, (now - z0).natAbs, pol0 == up, up, speedOf (s.mo a).v, now,
          (s.se a).era⟩
        ({ x with op := 3 }, s.modSe a fun e =>
          { e with tags := tag :: e.tags.filter fun t => t.coilB ≠ b || t.period ≠ period })
    else (x, s)

/-! ### Building and sending a set, R15, R79, R141 -/

/-- The two records of an axis, with what AX_THR, AX_CSEFF and AX_DECAYST show of them, R151. With records of OFF or BRAKE, in which no
scale is in force, AX_CSEFF.CSEFF keeps the last one (DESIGN CHOICE, log entry 60). -/
def buildAxis (a period : Nat) (s : State) : (CoilRec × CoilRec) × State :=
  let (x, s) := placeWindow a false period (s.coilRec a false) s
  let (y, s) := placeWindow a true period (s.coilRec a true) s
  let (op, cs) := s.coilCmd a
  let s := s.modSe a fun e =>
    { e with lastSet := if s.enabled a then some (s.travel a) else none, sstat := s.rd (AX_SSTAT a) }
  let s := ((s.put (AX_THR.OPA a) x.op).put (AX_THR.POLA a) x.pol).put (AX_THR.THRA a) x.thr
  let s := ((s.put (AX_THR.OPB a) y.op).put (AX_THR.POLB a) y.pol).put (AX_THR.THRB a) y.thr
  let s := applyIf (op = 1) (·.put (AX_CSEFF.CSEFF a) cs) s
  let s := s.put (AX_CSEFF.SUSP a) (s.suspend a)
  let mixed : Bool := s.get (AX_DECAY.MODE a) = 2 && s.on (AX_DECAY.TRIM a)
  let s := s.put (AX_DECAYST.FFEFF a) (if mixed then (s.se a).ffEff else s.get (AX_DECAY.FF a))
  ((x, y), s)

/-- The sixteen records of one rank, R134 and R135: a position that is no live coil carries 0. -/
def buildRank (r period : Nat) (s : State) : List CoilRec × State :=
  [0, 1].foldl (fun (acc : List CoilRec × State) h =>
    [0, 1, 2, 3].foldl (fun (acc : List CoilRec × State) k =>
      let (recs, s) := acc
      if slotLive (s.topo r h) k then
        let ((x, y), s) := buildAxis (axisAt r h k) period s
        (recs ++ [x, y], s)
      else (recs ++ [{}, {}], s)) acc) ([], s)

/-- The command set for the next period of coach `c`, R79 and R141. -/
def buildSet (c : Nat) (s : State) : State :=
  let period := (s.get (CO_PERCNT.COUNT c) + 1) % 256
  let s := landPwm c s
  let (sets, s) := (coachRanks c).foldl (fun (acc : List (List CoilRec) × State) r =>
    let (recs, s) := buildRank r period acc.2
    (acc.1 ++ [recs], s)) ([], s)
  s.modCoach c fun k => { k with tx := sets, txPeriod := period, cmdSent := [] }

/-- The start of a period of coach `c`: the coach's end of the last period, the set it takes, its LEG boundary, and the hub's
build of the following set. -/
def coachPeriod (c : Nat) (edges : List (Nat × Bool × Nat)) (gangs : List GangEnd) (s : State) : State :=
  if !s.coachLive c then s
  else
    let per := s.get (CO_PWMPER.PER c)
    let s := adapt c edges s
    let s := s.incWrap (CO_PERCNT.COUNT c)
    let s := if s.linkLive c then takeSet c gangs s else s
    let s := landLegs c s
    let s := if s.held .leg then s else forEach (coachRanks c) applyTopology s
    let s := advancePeriod c per s
    if s.linkLive c then buildSet c s else s.modCoach c fun k => { k with tx := [] }

/-- A frame of priority 2 waits at the hub end of a coupling, R14: a CTL frame, or a CFG frame that is to be sent. -/
def Coach.controlWaits (k : Coach) : Bool := !k.ctlq.isEmpty || k.cfgq.head?.any fun e => !e.sent

/-- The hub sends frames of priority 2 when no CMD frame of the set waits, and after two CMD frames in a row, R14: the frames of a set
wait from its build (DEDUCED, log entry 56). -/
def Coach.controlMay (k : Coach) : Bool := k.tx.isEmpty || decide (8 ≤ k.cmdSent.length) || k.cmdRun = 2

/-- The hub can send copy `copy` of rank `q`'s CMD frame, R14 and R15: the set is complete, that copy has not been sent, and it
would not be the third CMD frame in a row while a frame of priority 2 waits. Between two CMD frames of which the second may not
follow directly, an IDLE frame goes when nothing else waits. -/
def Coach.cmdMay (k : Coach) (q copy : Nat) : Bool :=
  !k.tx.isEmpty && !k.cmdSent.contains (q, copy) && !(k.cmdRun = 2 && k.controlWaits)

/-- A copy of rank `q`'s CMD frame is sent and received, R13 and R15: the first copy that passes CRC is kept. -/
def cmdFrame (c q copy : Nat) (crcOk : Bool) (s : State) : State :=
  if !s.linkLive c || !(s.coach c).cmdMay q copy then s
  else
    let s := s.modCoach c fun k =>
      { k with
        cmdSent := k.cmdSent ++ [(q, copy)], cmdRun := if k.cmdRun = 2 then 1 else k.cmdRun + 1, cmdSeq := (k.cmdSeq + 1) % 256 }
    if !crcOk then s.modCoach c fun k => { k with crcRep := k.crcRep + 1 }
    else if (s.coach c).rx.any fun x => x.q = q then s
    else s.modCoach c fun k => { k with rx := k.rx ++ [⟨q, k.txPeriod, k.tx.getD q []⟩] }

/-! ### CTL frames -/

/-- Whether a CTL frame is of the kind a command names: 0 safe selection, 1 kill, 2 release. -/
def CtlFrame.kind : CtlFrame → Nat
  | .safe => 0
  | .kill _ => 1
  | .release _ _ => 2

/-- What a coach does with a CTL frame, R20, R23 and R123. A safe-selection frame carries the SAFE value that stands when it is
sent and received (DESIGN CHOICE, log entry 56). -/
def ctlEffect (c : Nat) (f : CtlFrame) (s : State) : State :=
  match f with
  | .safe => s.modCoach c fun k => { k with safeSel := s.on (CO_LINKCFG.SAFE c) }
  | .kill legs => forEach legs killLeg s
  | .release legs whole =>
    let s :=
      if whole && (s.coach c).safe then
        let s := forEach (coachLegs c) (fun l s => legCmd l false false s) s
        (s.modCoach c fun k => { k with safe := false }).put (CO_LINKSTAT.SAFEACT c) 0
      else s
    forEach legs freeLeg s

/-- The CTL frame that has waited longest is sent and received, if it is of the kind named, R13 and R14; `gangs` are the on-times its
effect ends. One that fails CRC is lost: no rule repeats a CTL frame (DESIGN CHOICE, log entry 56). -/
def ctlFrame (c kind : Nat) (crcOk : Bool) (gangs : List GangEnd) (s : State) : State :=
  if !s.linkLive c || !(s.coach c).controlMay then s
  else match (s.coach c).ctlq with
    | [] => s
    | f :: rest =>
      if f.kind ≠ kind then s
      else
        let s := s.modCoach c fun k => { k with ctlq := rest, cmdRun := 0, ctlSeq := (k.ctlSeq + 1) % 256 }
        if crcOk then ctlEffect c f (gangOffs (ofCoach c) gangs s) else s.modCoach c fun k => { k with crcRep := k.crcRep + 1 }

/-! ### STAT frames -/

/-- Sets the leg fault bit of a leg, R99 and R117. -/
def legFault (l : Nat) (s : State) : State := s.putBitAt (EV_LEGFLT (l / 32)) (l % 32) true

/-- COACH_WARN of coach `c`. -/
def coachWarn (c idx : Nat) (s : State) : State := pend (20 + c) 0 idx s

/-- XCMD or ILK on a leg: an enabled slot faults at once, R122. -/
def legCause (l cause : Nat) (s : State) : State :=
  let a := (s.legOwner l).1
  if s.enabled a then faultAxis a cause l s else s

/-- What the hub does with one report of a STAT frame. -/
def statReport (x : StatRep) (s : State) : State :=
  match x with
  | .trip l hs hard period time stamp =>
    let s := s.put (if hard then LEG_STAT.HOC l else LEG_STAT.OC l) 1
    let s := ((((legFault l s).putB (LEG_TRIP.HARD l) hard).putB (LEG_TRIP.SW l) hs).put (LEG_TRIP.PERIOD l) period).put
      (LEG_TRIP.TIME l) time
    acceptTrip l hard period stamp s
  | .xcmd l => legCause l 6 (coachWarn (legCoach l) l (legFault l (s.put (LEG_STAT.XCMD l) 1)))
  | .ilk l => legCause l 7 (coachWarn (legCoach l) l (legFault l (s.put (LEG_STAT.ILKTO l) 1)))
  | .slewu l => coachWarn (legCoach l) l (s.put (LEG_STAT.SLEWU l) 1)
  | .imb l pct =>
    let r := l / 32
    let h := l / 16 % 2
    let s := s.put (LEG_STAT.IMB l) 1
    let s := s.put (RK_STAT.IMB r) (natPutBit (s.get (RK_STAT.IMB r)) h true)
    let s := ((s.put (RK_IMB.PCT r) pct).put (RK_IMB.H r) h).put (RK_IMB.J r) (l % 16)
    updAlert (s.legOwner l).1 s

/-- One reading of the rank temperature, R12 and R115: the higher valid sensor, the warning, over-temperature. -/
def rankTemp (r : Nat) (t0 t1 : Option Int) (s : State) : State :=
  let c := r / 4
  let q := r % 4
  let t : Option Int := match t0, t1 with
    | some x, some y => some (max x y)
    | some x, none => some x
    | none, y => y
  match t with
  | none =>
    let s := (s.put (RK_THERM.VALID r) 0).put (RK_THERM.TEMP r) 0
    s.modCoach c fun k => { k with warnRun := k.warnRun.set q 0, otRun := k.otRun.set q 0 }
  | some x =>
    let s := (s.put (RK_THERM.VALID r) 1).putI (RK_THERM.TEMP r) x
    let w := if 1920 ≤ x then (s.coach c).warnRun.getD q 0 + 1 else 0
    let o := if 2320 ≤ x then (s.coach c).otRun.getD q 0 + 1 else 0
    let s := s.modCoach c fun k => { k with warnRun := k.warnRun.set q (min 2 w), otRun := k.otRun.set q (min 2 o) }
    let was := s.on (RK_FLTSTAT.WARN r)
    let s :=
      if 2 ≤ w && !was then coachWarn c 0 (s.put (RK_FLTSTAT.WARN r) 1)
      else if x ≤ 1840 then s.put (RK_FLTSTAT.WARN r) 0
      else s
    if 2 ≤ o then rankFault r 8 0 s else s

/-- The highest valid reading of a list of sensors, with its index. -/
def hottest (l : List (Option Int)) : Option (Nat × Int) :=
  (l.zip (List.range l.length)).foldl (fun b p =>
    match p.1, b with
    | none, _ => b
    | some x, none => some (p.2, x)
    | some x, some y => if y.2 < x then some (p.2, x) else b) none

/-- The measurements of a STAT frame, R101, R102, R114 and R115. -/
def measure (c : Nat) (m : CoachMeas) (s : State) : State :=
  let s := forEach (List.range 8) (fun k s =>
    match m.temps.getD k none with
    | some t => (s.put (CO_TEMP.VALID c k) 1).putI (CO_TEMP.TEMP c k) t
    | none => (s.put (CO_TEMP.VALID c k) 0).put (CO_TEMP.TEMP c k) 0) s
  let s := match hottest (m.temps.take 8) with
    | some (k, t) => (s.put (CO_TEMPMAX.SENSOR c) k).putI (CO_TEMPMAX.TEMP c) t
    | none => s
  let s := (s.put (CO_VM.VM c) (min 0xFFFF m.vm)).putB (CO_STAT.GREGOK c) m.gregOk
  let s := if m.gregOk then s.modCoach c fun k => { k with greguv := false, gregSeen := true } else s
  let s := s.modCoach c fun k => { k with cpSeen := k.cpSeen ||| m.cpOk % 16 }
  forEach (List.range 4) (fun q s =>
    let r := 4 * c + q
    let v := m.vcp.getD q 0
    let s := (s.put (RK_VCP.VCPDIF r) (min 4095 v)).putB (RK_STAT.CPOK r) (natBit m.cpOk q)
    let s := if 800 < v then s.modCoach c fun k => { k with cpuv := natPutBit k.cpuv q false } else s
    rankTemp r (m.temps.getD (2 * q) none) (m.temps.getD (2 * q + 1) none) s) s

/-- Whether an exchange of RK_MODE of rank `r` is under way. -/
def State.modeBusy (s : State) (r : Nat) : Bool := (s.coach (r / 4)).cfgq.any fun e => e.addr = RK_MODE r && e.wr.isSome

/-- CO_STAT roll-ups, RK_FLTSTAT.CLRBLK, and MODEPEND of an exchange that failed and whose value the hub now reads back, R111. -/
def rollUp (c : Nat) (s : State) : State :=
  let bits (p : Nat → Bool) : Nat := [0, 1, 2, 3].foldl (fun n q => natPutBit n q (p (4 * c + q))) 0
  let s := s.put (CO_STAT.XCMDR c) (bits fun r => (rankLegs r).any fun l => s.on (LEG_STAT.XCMD l))
  let s := s.put (CO_STAT.SLEWR c) (bits fun r => (rankLegs r).any fun l => s.on (LEG_STAT.SLEWU l))
  let s := s.put (CO_STAT.CPOKR c) (bits fun r => s.on (RK_STAT.CPOK r))
  let s := setAct (20 + c) ((coachRanks c).any fun r => s.on (RK_FLTSTAT.WARN r)) s
  forEach (coachRanks c) (fun r s =>
    let back : Bool := s.get (RK_MODE.MODE0 r) = s.get (RK_STAT.APPLIED0 r) && s.get (RK_MODE.MODE1 r) = s.get (RK_STAT.APPLIED1 r)
    updRank r (if back && !s.modeBusy r then
        (s.put (RK_STAT.MODEPEND r) 0).modCoach c fun k => { k with modeLost := natPutBit k.modeLost (r % 4) false }
      else s)) s

/-- The status words of coach `c` that follow STAT frames, R114 and R151. -/
def coachWords (c : Nat) : List Nat :=
  (coachLegs c).flatMap (fun l => [LEG_STAT l, LEG_EDGE l, LEG_FLTCNT l, LEG_TRIP l])
    ++ (coachRanks c).flatMap (fun r => [RK_STAT r, RK_VCP r, RK_IMB r, RK_FLTSTAT r, RK_TRIPMAP r, RK_THERM r])
    ++ (List.range 8).map (CO_TEMP c) ++ [CO_PERCNT c, CO_TEMPMAX c, CO_STAT c, CO_VM c, CO_FLTSTAT c]

/-- The hub discards an upstream frame, R13. -/
def discardUp (c : Nat) (s : State) : State := s.inc (CO_LINKERR.CRCUP c)

/-- The hub receives a STAT frame of coach `c`, R16, R114 and R117. `idle` are the IDLE frames that failed CRC since the last STAT
frame, downstream and upstream: the receiver of each counts it, R13. -/
def statFrame (c : Nat) (crcOk : Bool) (meas : Option CoachMeas) (idle : Nat × Nat) (s : State) : State :=
  if !s.linkLive c then s
  else
    let s := (s.modCoach c fun k => { k with crcRep := k.crcRep + idle.1 }).addSat (CO_LINKERR.CRCUP c) idle.2
    let k := s.coach c
    let s := s.modCoach c fun k => { k with statq := [], statSeq := (k.statSeq + 1) % 256 }
    if !crcOk then discardUp c s
    else
      let s := s.modCoach c fun k => { k with missRep := 0, crcRep := 0 }
      let s := (s.addSat (CO_LINKERR.CRCDN c) k.crcRep).addSat (CO_LINKERR.MISS c) k.missRep
      let s := forEach (List.range k.missRep) (fun _ s => coachWarn c 0 s) s
      let s := k.statq.foldl (fun s x => statReport x s) s
      let s := match meas with
        | some m => measure c m s
        | none => s
      let s := rollUp c s
      snapWords (coachWords c) s

/-! ### SNS frames, R193 and R206 -/

/-- A window result waits for the tick, R196. -/
def windowResult (c q z period : Nat) (sample : Int) (noZero clip : Bool) (s : State) : State :=
  let r := 4 * c + q
  let a := coilAxis r z
  let b : Bool := z % 2 = 1
  let s := s.inc (AX_BEMFCNT.WINDOWS a)
  let s := applyIf noZero (·.inc (AX_BEMFCNT.NOZERO a)) s
  let s := applyIf clip (·.inc (AX_BEMFCNT.CLIP a)) s
  match (s.se a).tags.find? fun t => t.coilB == b && t.period = period with
  | none => s
  | some t => s.modSe a fun e => { e with tags := e.tags.filter (fun u => u ≠ t), evals := e.evals ++ [⟨t, sample, noZero, clip⟩] }

/-- The net charge (nC) of a coil adds VM × Q to an enabled axis's energy, R206: 10 mV × 1 nC is 10 pJ. -/
def chargeRecord (c q z : Nat) (nC : Int) (s : State) : State :=
  let r := 4 * c + q
  let a := coilAxis r z
  if s.coilLive r z && s.enabled a then
    let e := (s.mo a).energy + nC * Int.ofNat (s.get (CO_VM.VM c))
    let e := clampInt (-(2 ^ 63) * 10 ^ 8) (2 ^ 63 * 10 ^ 8 - 1) e
    (s.modMo a fun m => { m with energy := e }).putPair (AX_ENERGY_LO a) (e / 10 ^ 8)
  else s

/-- Bits set in a number of sixteen bits. -/
def popcount (n : Nat) : Nat := ((List.range 16).filter fun b => natBit n b).length

/-- The decay flags of a rank count for the axes whose coils set them, R143. -/
def flagRecord (c q early deep : Nat) (s : State) : State :=
  forEach (List.range 16) (fun z s =>
    let e : Bool := natBit early z
    let d : Bool := natBit deep z
    if e || d then
      s.modSe (coilAxis (4 * c + q) z) fun x => { x with earlyN := x.earlyN + b2n e, deepN := x.deepN + b2n d }
    else s) s

/-- What the hub does with one SNS record. -/
def snsRecord (c : Nat) (x : SnsRec) (s : State) : State :=
  match x with
  | .bemf q z period sample _ noZero clip => windowResult c q z period sample noZero clip s
  | .charge q z nC => chargeRecord c q z nC s
  | .decay q _ early deep => flagRecord c q early deep s

/-- Whether a record is a back-EMF record, and a decay record: the order in which a coach fills a frame, R193. -/
def SnsRec.isBemf : SnsRec → Bool
  | .bemf _ _ _ _ _ _ _ => true
  | _ => false

/-- A coach sends an SNS frame only while no report for a STAT frame and no answer to a CFG frame waits, R14. -/
def Coach.snsMay (k : Coach) : Bool := k.statq.isEmpty && !k.cfgq.head?.any fun e => e.answer.isSome

/-- The records of the next SNS frame: up to seven, those the coach holds, back-EMF before decay flags, and charge records after them,
R193. -/
def snsRecords (k : Coach) (charge : List (Nat × Nat × Int)) : List SnsRec :=
  let sent := (k.snsq.filter SnsRec.isBemf ++ k.snsq.filter fun x => !x.isBemf).take 7
  sent ++ (charge.take (7 - sent.length)).map fun x => SnsRec.charge x.1 x.2.1 x.2.2

/-- The hub receives an SNS frame: up to seven records, those the coach holds (back-EMF first, then decay flags) before the
charge records measured now. -/
def snsFrame (c : Nat) (crcOk : Bool) (charge : List (Nat × Nat × Int)) (s : State) : State :=
  if !s.linkLive c || !(s.coach c).snsMay then s
  else
    let recs := snsRecords (s.coach c) charge
    let s := s.modCoach c fun k =>
      { k with
        snsq := (k.snsq.filter SnsRec.isBemf ++ k.snsq.filter fun x => !x.isBemf).drop 7
        snsSeq := (k.snsSeq + 1) % 256 }
    if !crcOk then discardUp c s else forEach recs (snsRecord c) s

/-- The end of a decay-trim window of coach `c`, R143. -/
def trimWindow (c : Nat) (s : State) : State :=
  let win := s.get (CO_DTRIM.WIN c)
  let step := s.get (CO_DTRIM.STEP c)
  forEach (coachAxes c) (fun a s =>
    let e := s.se a
    let ff :=
      if s.get (AX_DECAY.MODE a) = 2 && s.on (AX_DECAY.TRIM a) then
        if 2 ≤ e.earlyN then min 127 (e.ffEff + step)
        else if win ≤ 2 * e.deepN then e.ffEff - step
        else e.ffEff
      else s.get (AX_DECAY.FF a)
    let s := s.put (AX_DECAYST.EARLY a) (min 255 e.earlyN)
    s.modSe a fun x => { x with earlyN := 0, deepN := 0, ffEff := ff }) s

/-! ### Watchdogs and training, R19 to R23 -/

/-- The coach watchdog expires: the coach declares the loss, R20 and R21, in its safe state too; it declares no second loss before it
is trained again. `gangs` are the on-times this ends. -/
def coachExpiry (c : Nat) (gangs : List GangEnd) (s : State) : State :=
  if s.coachLive c && !(s.coach c).awaits then coachLoses c (gangOffs (ofCoach c) gangs s) else s

/-- The hub watchdog expires, R19. -/
def hubExpiry (c : Nat) (s : State) : State := if s.on (CO_LINKSTAT.UP c) then couplingLost c 1 s else s

/-- The hub starts training a lost coupling of a powered coach, R23. -/
def trainAttempt (c : Nat) (s : State) : State :=
  if s.coachLive c && !s.on (CO_LINKSTAT.UP c) then s.modCoach c fun k => { k with training := true } else s

/-- Training succeeds with a coach that waits for it, R21 and R23: UP is set, SAFE is copied, and a coach that declared the loss first
reports cause 2. -/
def trainDone (c : Nat) (s : State) : State :=
  let k := s.coach c
  if k.training && s.coachLive c && k.awaits && !k.silent then
    let s := s.put (CO_LINKSTAT.UP c) 1
    let s := applyIf k.declared (·.put (CO_LINKSTAT.LOSSCAUSE c) 2) s
    let s := s.putB (CO_LINKSTAT.SAFEACT c) k.safe
    let s := s.modCoach c fun k => { k with training := false, declared := false, awaits := false, missRun := 0, tx := [], cmdSent := [], rx := [] }
    sendCtl c .safe s
  else s

end Sys2Proof.Machine
end

