-- ==== Sys2Proof/Machine/GateOps.lean ====
section
/-!
DEFINITION. Machine/GateOps.lean: the changeover planner: recipe images (R212), validation and ordering (R213, R218, R219), the
commands of R210, the admission gate (R220 to R222) and aborts (R226).
-/

namespace Sys2Proof.Machine

/-! ### The recipe buffer -/

/-- Changes the planner's engine state. -/
def State.modPl (s : State) (f : Planner → Planner) : State := { s with pl := f s.pl }

/-- Enters a plan state. -/
def plTo (st : Nat) (s : State) : State := s.put PL_STAT.STATE st

/-- Whether a RUN waits for its start source, R210. -/
def State.runWaits (s : State) : Bool := s.pl.waiting

/-- Whether a write of the recipe buffer is refused, R213. -/
def State.recipeRefused (s : State) : Bool := s.planActive || s.plState = 2 || s.runWaits

/-- Whether a write of PL_ORD is refused, R213. -/
def State.ordRefused (s : State) : Bool := s.plState ≠ 3 || s.runWaits

/-- The words of entry `e`. -/
def State.rcpWords (s : State) (e : Nat) : List Word := [s.rd (PL_RCP0 e), s.rd (PL_RCP1 e), s.rd (PL_RCP2 e), s.rd (PL_RCP3 e)]

/-- Writes the words of entry `e`. -/
def putEntry (e : Nat) (w : List Word) (s : State) : State :=
  (((s.wr (PL_RCP0 e) (w.getD 0 0)).wr (PL_RCP1 e) (w.getD 1 0)).wr (PL_RCP2 e) (w.getD 2 0)).wr (PL_RCP3 e) (w.getD 3 0)

/-- Number of entries a SAVE stores: through the last VALID one, at least one, R212. -/
def State.saveCount (s : State) : Nat := max 1 ((s.validEntries.getLast?.map (· + 1)).getD 1)

/-- The image a SAVE writes, R212: header with the CRC of its entries, then the entries. -/
def State.recipeImage (s : State) : List Word :=
  let n := s.saveCount
  let es := (List.range n).flatMap s.rcpWords
  [s.rd (PL_RCPHDR 0) &&& 0xFFFF, BitVec.ofNat 32 (2 ^ 24 + n * 2 ^ 16), crcWords es, 0] ++ es

/-- The checks of an image, R212 and R213: the error code, or 0. -/
def imageError (img : List Word) : Nat :=
  let w1 := img.getD 1 0
  let n := wordField w1 23 16
  let es := (img.drop 4).take (4 * n)
  if wordField w1 31 24 ≠ 1 || n = 0 || 128 < n then 7
  else if crcWords es ≠ img.getD 2 0 then 5
  else 0

/-- Copies a good image to the buffer, entries above the count cleared, R212. -/
def loadImage (img : List Word) (s : State) : State :=
  let n := wordField (img.getD 1 0) 23 16
  let s := forEach [0, 1, 2, 3] (fun i s => s.wr (PL_RCPHDR i) (img.getD i 0)) s
  let s := forEach (List.range 128) (fun e s => putEntry e (if e < n then (img.drop (4 + 4 * e)).take 4 else []) s) s
  plTo 1 s

/-- CLEAR: the buffer emptied and the results cleared, R210. -/
def plClear (s : State) : State :=
  let s := forEach [0, 1, 2, 3] (fun i s => s.wr (PL_RCPHDR i) 0) s
  let s := forEach (List.range 128) (fun e s =>
    let s := putEntry e [] s
    let s := ((s.wr (PL_RES e) 0).wr (PL_RES_START e) 0).wr (PL_RES_END e) 0
    ((s.wr (PL_RES_TEST e) 0).wr (PL_RES_EEST e) 0).wr (PL_RES_EACT e) 0) s
  let s := ((s.wr PL_MAKESPAN 0).wr PL_PRED 0).putPair PL_ENERGY_LO 0
  let s := ((s.put PL_STAT.FAILCNT 0).put PL_STAT.ERR 0).put PL_STAT.ERRENT 0
  plTo 0 (s.wr PL_EVINFO 0)

/-! ### Planning, R213, R218 and R219 -/

/-- The first check of R213 that entry `e` fails, in the order 8, 1, 2, 3, 4; 0 for none. -/
def State.entryError (s : State) (e : Nat) : Nat :=
  let a := s.rcpAxis e
  let must0 : Bool := s.rcp e 0 18 11 = 0 && s.rcp e 2 31 12 = 0 && s.rcp e 3 31 0 = 0
  let loops := s.get (AX_LOOPS.LOOPS a)
  let (mW, mA) := s.candidate e
  if (s.rcpChain e && s.rcpHome e) || !must0 then 8
  else if (List.range e).any fun x => s.rcpValid x && s.rcpAxis x = a then 1
  else if s.absent a then 2
  else if s.rcpChain e && (s.chainTicks loops 65536 (s.rcpFirst e) loops 0).isNone then 3
  else if s.limit (coachSide (axisCoach a)) < mA
      || s.limit (3 + axisCoach a) < mW + s.get PL_OVH.COACH
      || s.limit 2 < mW + s.get PL_OVH.COACH + s.get PL_OVH.HUB then 4
  else 0

/-- Puts an item into a list kept in order by `before`. -/
def orderInto {α : Type} (before : α → α → Bool) (x : α) : List α → List α
  | [] => [x]
  | y :: l => if before x y then x :: y :: l else y :: orderInto before x l

/-- Sorts, the earlier of equal items first. -/
def orderBy {α : Type} (before : α → α → Bool) (l : List α) : List α :=
  l.foldr (fun x acc => orderInto before x acc) []

/-- An entry in the simulation of R219. -/
structure SimEntry where
  e      : Nat
  axis   : Nat
  prio   : Nat
  dur    : Nat
  ramp   : Nat
  after  : Bool
  skip   : Bool
  cost   : Nat × Nat
  /-- The learned cost that replaces it after the ramp, where there is one. -/
  later  : Option (Nat × Nat)
  /-- 0 WAITING, 1 READY, 2 RUNNING, 3 ended. -/
  state  : Nat
  start  : Nat := 0
  pass   : Nat := 0
deriving DecidableEq, Repr

/-- Whether the gate would skip entry `e` now, R221. -/
def State.wouldSkip (s : State) (e : Nat) : Bool :=
  s.rcpSkip e && s.rcpMove e && decide ((s.rcpGoal e - s.posOf (s.rcpAxis e)).natAbs ≤ s.get PL_SKIPTOL.TOL)

/-- What the simulation knows of an entry. -/
def State.simEntry (s : State) (e : Nat) : SimEntry :=
  let a := s.rcpAxis e
  let (t, r) := s.entryTicks e
  let learned : Bool := s.on (PL_AXLRN.VALID a) && s.rcpMove e
  let sp := s.get (AX_VMAX.VMAX a)
  let later := if learned then
      let c := s.cost a (s.get (PL_AXLRN.CSL a)) sp
      some (c.mW, c.mA)
    else none
  ⟨e, a, s.rcpPrio e, t, r, s.rcpAfter e, s.wouldSkip e, s.candidate e, later, if s.rcpAfter e then 0 else 1, 0, 0⟩

/-- Higher PRIO first, then longer, then lower axis, R219. -/
def simBefore (x y : SimEntry) : Bool :=
  decide (y.prio < x.prio) || (x.prio = y.prio && (decide (y.dur < x.dur) || (x.dur = y.dur && decide (x.axis < y.axis))))

/-- What the gate compares against: sums and limits of the seven budgets, movers and limits of the sixteen ranks. -/
structure Room where
  sums   : List Nat
  limits : List Nat
  movers : List Nat
  ranks  : List Nat
  held   : List Nat := [0, 0, 0, 0, 0, 0, 0]
  heldM  : List Nat := [0, 0, 0, 0, 0, 0, 0, 0, 0, 0, 0, 0, 0, 0, 0, 0]
deriving DecidableEq, Repr

/-- Adds to one place of a list. -/
def addAt (l : List Nat) (i n : Nat) : List Nat := l.set i (l.getD i 0 + n)

/-- Whether an axis of candidate cost `c` fits, R221. -/
def Room.fits (m : Room) (a : Nat) (c : Nat × Nat) : Bool :=
  ((axisBudgets a).all fun b => decide (m.sums.getD b 0 + m.held.getD b 0 + costOf b c ≤ m.limits.getD b 0))
    && decide (m.movers.getD (axisRank a) 0 + m.heldM.getD (axisRank a) 0 < m.ranks.getD (axisRank a) 0)

/-- Counts a started axis in the sums. -/
def Room.take (m : Room) (a : Nat) (c : Nat × Nat) : Room :=
  { m with
    sums := (axisBudgets a).foldl (fun l b => addAt l b (costOf b c)) m.sums
    movers := addAt m.movers (axisRank a) 1 }

/-- Reserves a holder's cost. -/
def Room.hold (m : Room) (a : Nat) (c : Nat × Nat) : Room :=
  { m with
    held := (axisBudgets a).foldl (fun l b => addAt l b (costOf b c)) m.held
    heldM := addAt m.heldM (axisRank a) 1 }

/-- The sums, movers and limits of this moment, R214 and R215. -/
def State.room (s : State) : Room :=
  ⟨(List.range 7).map s.liveSum, (List.range 7).map s.limit, (List.range 16).map s.moversIn, (List.range 16).map s.rankLim,
    [0, 0, 0, 0, 0, 0, 0], [0, 0, 0, 0, 0, 0, 0, 0, 0, 0, 0, 0, 0, 0, 0, 0]⟩

/-- The cost of a running entry at simulated time `t`. -/
def SimEntry.now (x : SimEntry) (t : Nat) : Nat × Nat :=
  match x.later with
  | some c => if x.start + x.ramp ≤ t then c else x.cost
  | none => x.cost

/-- One scan of the gate at simulated time `t`. `seen` are the READY entries passed so far in this scan. -/
def simScan (passMax t : Nat) : List SimEntry → Room → List SimEntry → List SimEntry
  | [], _, done => done
  | x :: rest, m, done =>
    if x.state ≠ 1 then simScan passMax t rest m (done ++ [x])
    else if x.skip then simScan passMax t rest m (done ++ [{ x with state := 3 }])
    else if m.fits x.axis x.cost then
      let done := done.map fun y => if y.state = 1 then { y with pass := y.pass + 1 } else y
      simScan passMax t rest (m.take x.axis x.cost) (done ++ [{ x with state := 2, start := t }])
    else if passMax ≤ x.pass then simScan passMax t rest (m.hold x.axis x.cost) (done ++ [x])
    else simScan passMax t rest m (done ++ [x])

/-- WAITING entries whose higher-PRIO entries have all ended become READY. -/
def simWake (l : List SimEntry) : List SimEntry :=
  l.map fun x => if x.state = 0 && l.all (fun y => decide (y.prio ≤ x.prio) || y.state = 3) then { x with state := 1 } else x

/-- The simulation of R219 from time `t`: the predicted makespan, or the first entry that cannot be admitted. -/
def simulate (passMax : Nat) (base : Room) : Nat → Nat → List SimEntry → Except Nat Nat
  | 0, t, _ => .ok t
  | fuel + 1, t, l =>
    if l.all fun x => x.state = 3 then .ok t
    else
      let woken := simWake l
      let m := woken.foldl (fun m x => if x.state = 2 then m.take x.axis (x.now t) else m) base
      let l' := simScan passMax t woken m []
      let running := l'.filter fun x => x.state = 2
      match (running.map fun x => x.start + x.dur) with
      | [] =>
        if l' ≠ l then simulate passMax base fuel t l'
        else .error ((l'.find? fun x => x.state ≠ 3).map (·.e) |>.getD 0)
      | d :: ds =>
        let t' := ds.foldl min d
        simulate passMax base fuel t' (l'.map fun x => if x.state = 2 && x.start + x.dur = t' then { x with state := 3 } else x)

/-- PLAN ends with an error, R213. -/
def planFail (err ent : Nat) (s : State) : State :=
  plTo 1 (((s.put PL_STAT.ERR err).put PL_STAT.ERRENT ent).put PL_STAT.BUSY 0)

/-- The trio finishes PLAN, R213, R218 and R219: while it does not run, PLAN waits until it resumes, R210. Everything PLAN depends on is
read at this moment, and the temperatures and VM are held for R227. -/
def planComplete (s : State) : State :=
  if s.plState ≠ 2 || !s.on PL_STAT.BUSY || !s.trioRuns || !s.trioClock || (s.pl.held && s.trioState = 1) then s
  else
    let es := s.validEntries
    match es.find? fun e => s.entryError e ≠ 0 with
    | some e => planFail (s.entryError e) e s
    | none =>
      let order := orderBy simBefore (es.map s.simEntry)
      match simulate (s.get PL_CFG.PASSMAX) s.room 1000 0 order with
      | .error e => planFail 11 e s
      | .ok t =>
        let s := forEach (List.range order.length) (fun k s => s.put (PL_ORD.ENTRY k) ((order.map (·.e)).getD k 0)) s
        let s := order.foldl (fun s x =>
          (s.put (PL_RES_TEST.TEST x.e) x.dur).put (PL_RES_EEST.EEST x.e) (s.entryEnergy x.e x.dur)) s
        let s := s.modPl fun p => { p with
          heldT := (List.range 16).map fun r => (s.rd (RK_THERM r)).toNat
          heldVm := (List.range 4).map fun c => (s.rd (CO_VM c)).toNat
          count := es.length }
        let s := (s.put PL_PRED.TICKS t).put PL_STAT.BUSY 0
        plTo 3 ((s.put PL_STAT.ERR 0).put PL_STAT.ERRENT 0)

/-! ### Commands, R210 -/

/-- A word of the planner fails parity and has not been rewritten: no plan is made or run, R86. -/
def State.planBad (s : State) : Bool := s.badWithin 0x80000 0x10000

/-- Whether PL_ORD names every valid entry exactly once, R219. -/
def State.orderGood (s : State) : Bool :=
  let n := s.validEntries.length
  let l := (List.range n).map fun k => s.get (PL_ORD.ENTRY k)
  s.validEntries.all fun e => (l.filter fun x => x = e).length = 1

/-- Whether a planner command is refused, R210 and R219. -/
def State.plRefused (s : State) (cmd slot : Nat) : Bool :=
  let st := s.plState
  if (cmd = 5 || cmd = 6) && s.planBad then true else
  if s.runWaits && cmd = 7 then false
  else if s.on PL_STAT.BUSY then true
  else match cmd with
    | 1 => (st = 2 || st = 4 || st = 5) || decide (63 < slot)
    | 2 => !(st = 1 || st = 3 || st = 6 || st = 7) || decide (63 < slot)
    | 3 => decide (63 < slot)
    | 4 => st = 2 || st = 4 || st = 5
    | 5 => !(st = 1 || st = 3 || st = 6 || st = 7)
    | 6 => st ≠ 3 || !s.orderGood
    | 7 => !(st = 4 || st = 5)
    | _ => st = 4 || st = 5

/-- An accepted planner command, R210. -/
def plCommand (cmd slot : Nat) (abq : Bool) (s : State) : State :=
  let busy (s : State) : State := (s.modPl fun p => { p with cmd := cmd, slot := slot }).put PL_STAT.BUSY 1
  match cmd with
  | 5 => (plTo 2 (busy s)).modPl fun p => { p with held := s.trioState = 1 }
  | 6 => (busy s).modPl fun p => { p with waiting := true, sync := false }
  | 7 =>
    if s.runWaits then (s.modPl fun p => { p with waiting := false, sync := false, cmd := 0 }).put PL_STAT.BUSY 0
    else if s.plState = 4 then s.modPl fun p => { p with abort := some (abq || p.abort = some true) }
    else if abq then s.modPl fun p => { p with abort := some true }
    else s
  | 8 => plClear s
  | _ => busy s

/-- A LOAD, SAVE, ERASE or LOADX ends: `ok` says that the NVM write or flash read succeeded, `flash` are the words read. -/
def plEnd (ok : Bool) (flash : List Word) (s : State) : State :=
  let cmd := s.pl.cmd
  let slot := s.pl.slot
  if !s.on PL_STAT.BUSY || !(cmd = 1 || cmd = 2 || cmd = 3 || cmd = 4) then s
  else
    let s := (s.put PL_STAT.BUSY 0).modPl fun p => { p with cmd := 0 }
    let err (n : Nat) (s : State) : State := s.put PL_STAT.ERR n
    let img := Sparse.get (fun _ => []) s.recipes slot
    if cmd = 1 then
      if img.isEmpty then err 6 s
      else if imageError img ≠ 0 then err (imageError img) s
      else err 0 (loadImage img s)
    else if cmd = 2 then
      if ok then
        let img := s.recipeImage
        let s := forEach [0, 1, 2, 3] (fun i s => s.wr (PL_RCPHDR i) (img.getD i 0)) s
        err 0 { s with recipes := Sparse.set (fun _ => []) s.recipes slot img }
      else err 9 s
    else if cmd = 3 then err 0 { s with recipes := Sparse.set (fun _ => []) s.recipes slot [] }
    else if !ok then err 10 s
    else if imageError flash ≠ 0 then err (imageError flash) s
    else err 0 (loadImage flash s)

/-! ### Running, R220 to R222 -/

/-- Whether the start source of a waiting RUN has come, R220. -/
def State.runReady (s : State) : Bool := s.runWaits && !s.planBad && (s.get PL_CFG.RUNSRC = 0 || s.pl.sync)

/-- Plan tick 0, R220: entries become READY or WAITING and the plan owns their axes, R223. -/
def planBegin (s : State) : State :=
  if !s.runReady || s.plState ≠ 3 then s
  else
    let es := s.validEntries
    let s := forEach (List.range 128) (fun e s =>
      (((s.wr (PL_RES e) 0).wr (PL_RES_START e) 0).wr (PL_RES_END e) 0).wr (PL_RES_EACT e) 0) s
    let s := forEach es (fun e s => s.put (PL_RES.STATE e) (if s.rcpAfter e then 0 else 1)) s
    let s := ((s.put PL_STAT.FAILCNT 0).put PL_STAT.BUSY 0).put PL_MAKESPAN.TICKS 0
    let s := s.putPair PL_ENERGY_LO 0
    plTo 4 (s.modPl fun p => { p with
      cmd := 0, waiting := false, sync := false, tick := 0, count := es.length, abort := none
      owned := es.map fun e => (s.rcpAxis e, e)
      started := [], causes := [], blocked := [] })

/-- Admission is open: not in the device safe state, R291. -/
def State.admissionOpen (s : State) : Bool := !s.trio.safeIn

/-- The gate starts entry `e` at the next tick, R222: landed values are written past staging, then the start is requested. -/
def letIn (e : Nat) (s : State) : State :=
  let a := s.rcpAxis e
  let mode := if s.rcpChain e then 3 else if s.rcpHome e then 5 else 1
  let s := (s.setStaged (AX_MODE a) {}).put (AX_MODE.MODE a) mode
  let s := if mode = 1 then
      ((s.setStaged (AX_TGT_LO a) {}).setStaged (AX_TGT_HI a) {}).putPair (AX_TGT_LO a) (s.rcpGoal e)
    else s
  let s := if mode = 3 then
      let x := s.stagedAt (AX_CHAIN a)
      let m := fieldMask (AX_CHAIN.FIRST a).hi (AX_CHAIN.FIRST a).lo
      (s.setStaged (AX_CHAIN a) ⟨x.value &&& ~~~ m, x.mask &&& ~~~ m⟩).put (AX_CHAIN.FIRST a) (s.rcpFirst e)
    else s
  match s.startOutcome a true with
  | .ignored reason => endEntry e 5 1 (ignoreStart a reason s)
  | .refused => endEntry e 5 1 s
  | _ =>
    let s := (s.put (PL_RES.STATE e) 2).put (PL_RES_START.START e) (s.pl.tick + 1)
    s.modMo a fun m => { m with reqs := m.reqs ++ [.gateStart] }

/-- One entry of the gate's scan, R221. -/
def gateEntry (before : List Nat) (e : Nat) (m : Room) (s : State) : Room × State :=
  let a := s.rcpAxis e
  if s.entryState e ≠ 1 then (m, s)
  else if s.wouldSkip e then (m, endEntry e 4 0 s)
  else if s.closing a then (m, s)
  else
    let c := s.candidate e
    if m.fits a c then
      let s := forEach before (fun y s => if s.entryState y = 1 then s.inc (PL_RES.PASS y) else s) s
      (m.take a c, letIn e s)
    else if s.get PL_CFG.PASSMAX ≤ s.get (PL_RES.PASS e) then (m.hold a c, s.put (PL_RES.HOLDER e) 1)
    else (m, s)

/-- The gate's scan in PL_ORD order. -/
def gateScan : List Nat → List Nat → Room → State → Room × State
  | [], _, m, s => (m, s)
  | e :: rest, before, m, s =>
    let (m, s) := gateEntry before e m s
    gateScan rest (before ++ [e]) m s

/-- WAITING entries at the end of a tick, R220: READY from the next tick once every entry of higher PRIO has ended DONE or
SKIPPED; failed with PREREQ when one ended otherwise. -/
def gateWaiting (s : State) : State :=
  forEach [7, 6, 5, 4, 3, 2, 1, 0] (fun prio s =>
    forEach (s.validEntries.filter fun e => s.rcpPrio e = prio && s.entryState e = 0) (fun e s =>
      let above := s.validEntries.filter fun y => decide (prio < s.rcpPrio y)
      if above.any fun y => s.entryState y = 5 || s.entryState y = 6 then endEntry e 5 10 s
      else if above.all fun y => s.entryState y = 3 || s.entryState y = 4 then s.put (PL_RES.STATE e) 1
      else s) s) s

/-- The plan completes or its abort does, R209 and R225. -/
def gateEnd (s : State) : State :=
  let live (f : Nat → Bool) : Bool := s.validEntries.any fun e => f (s.entryState e)
  if s.plState = 4 && !live (fun x => decide (x ≤ 2)) then pendSrc 28 (plTo 6 (s.modPl fun p => { p with owned := [] }))
  else if s.plState = 5 && !live (fun x => x = 2) then
    pendSrc 31 (plTo 7 (s.modPl fun p => { p with owned := [], abort := none }))
  else s

/-- Publishes the sums, limits, movers and live costs, R228. -/
def gatePublish (m : Room) (s : State) : State :=
  let s := forEach (List.range 7) (fun b s =>
    (s.put (PL_SUM.LIM b) (min 0xFFFF (m.limits.getD b 0))).put (PL_SUM.SUM b) (min 0xFFFF (m.sums.getD b 0))) s
  let s := forEach (List.range 16) (fun r s =>
    s.put ⟨PL_MOVERS (r / 8), 4 * (r % 8) + 3, 4 * (r % 8)⟩ (min 15 (m.movers.getD r 0))) s
  forEach (List.range 128) (fun a s =>
    let (mW, mA) := s.liveCost a
    (s.put (PL_AXLIVE.MW a) (min 0xFFFF mW)).put (PL_AXLIVE.MA a) (min 0xFFFF mA)) s

/-- The losses of the entries that ended DONE at this tick are learned, R227. -/
def gateLearn (s : State) : State :=
  (forEach s.pl.learn (fun e s => learnEntry e (s.rcpAxis e) s) s).modPl fun p => { p with learn := [] }

/-- The admission gate at the end of a tick, R221. An abort that a failure of this tick asks for takes effect at the next tick, R226. -/
def gateTick (s : State) : State :=
  let s := gateLearn s
  let m := s.room
  let ovr := (List.range 7).foldl (fun n b => natPutBit n b (decide (m.limits.getD b 0 < m.sums.getD b 0))) 0
  let newlyOver (b : Nat) : Bool := natBit ovr b && !natBit s.pl.ovr b
  let s := forEach ((List.range 7).filter newlyOver) (fun _ s => pendSrc 30 s) s
  let s := (s.modPl fun p => { p with ovr := ovr }).put PL_STAT.OVER ovr
  let order := (List.range s.pl.count).map fun k => s.get (PL_ORD.ENTRY k)
  let (m, s) := if s.plState = 4 && s.admissionOpen then gateScan order [] m s else (m, s)
  let s := if s.plState = 4 then gateWaiting s else s
  let s := gateEnd s
  let s := gatePublish m s
  if s.planActive then s.modPl fun p => { p with tick := p.tick + 1 } else s

/-- An abort takes effect at a tick, R226. -/
def abortTick (s : State) : State :=
  match s.pl.abort with
  | none => s
  | some abq =>
    if !s.planActive then s.modPl fun p => { p with abort := none }
    else
      let s := forEach s.validEntries (fun e s =>
        if s.entryState e = 0 || s.entryState e = 1 then endEntry e 6 0 s else s) s
      let s := plTo 5 (s.modPl fun p => { p with abort := none })
      let s := if abq then
          forEach s.validEntries (fun e s =>
            if s.entryState e = 2 then
              let a := s.rcpAxis e
              (planRunCause a 9 s).modMo a fun m => { m with orderQ := true }
            else s) s
        else s
      if s.validEntries.any fun e => s.entryState e = 2 then s
      else pendSrc 31 (plTo 7 (s.modPl fun p => { p with owned := [] }))

/-- An entry has been READY for BLKMS × 10 ms, R225. -/
def admissionBlocked (e : Nat) (s : State) : State :=
  if s.plState = 4 && s.rcpValid e && s.entryState e = 1 && !s.pl.blocked.contains e then
    pend 29 0 (s.rcpAxis e) ((s.put PL_EVINFO.BLKENT e).modPl fun p => { p with blocked := e :: p.blocked })
  else s

end Sys2Proof.Machine
end

