-- ==== Sys2Proof/Machine/TrioOps.lean ====
section
/-!
DEFINITION. Machine/TrioOps.lean: the supervision of the trio (R280 to R296): signatures, scrub, comparator self-test, the states
of the trio, resynchronisation, debug, and entry of the device safe state.
-/

namespace Sys2Proof.Machine

/-- Changes the trio part. -/
def State.modTrio (s : State) (f : Trio → Trio) : State := { s with trio := f s.trio }

/-! ### The copies, R280 -/

/-- Copy `k`. -/
def Trio.copy (t : Trio) (k : Nat) : Copy := if k = 0 then t.copy0 else if k = 1 then t.copy1 else t.copy2

/-- Replaces copy `k`. -/
def Trio.setCopy (t : Trio) (k : Nat) (c : Copy) : Trio :=
  if k = 0 then { t with copy0 := c } else if k = 1 then { t with copy1 := c } else { t with copy2 := c }

/-- Changes copy `k`. -/
def modCopy (k : Nat) (f : Copy → Copy) (s : State) : State := s.modTrio fun t => t.setCopy k (f (t.copy k))

/-- A register of a copy is written. -/
def Copy.setReg (c : Copy) (r : Nat) (w : Word) : Copy := { c with regs := Sparse.set (fun _ => 0) c.regs r w }

/-- A cache tag of a copy is written. -/
def Copy.setTag (c : Copy) (e : Nat) (w : Word) : Copy := { c with tags := Sparse.set (fun _ => 0) c.tags e w }

/-- A copy that is neither out of step nor fenced, R289 and R290: TRIO_STAT.ODD names the other. -/
def State.runsCopy (s : State) (k : Nat) : Bool := s.get TRIO_STAT.ODD ≠ k

/-- The two copies that run while one does not: the lower one. -/
def State.pairFirst (s : State) : Nat := if s.get TRIO_STAT.ODD = 0 then 1 else 0

/-- What a copy does in a window changes its registers and tags. -/
def Copy.act (c : Copy) : CopyAct → Copy
  | .request _ _ _ => c
  | .write r w => c.setReg r.toNat w
  | .tag e w => c.setTag e.toNat w

/-- A physical event leaves an entry with another value. -/
def Copy.upset (c : Copy) (u : Upset) : Copy := if u.tag then c.setTag u.entry.toNat u.now else c.setReg u.entry.toNat u.now

/-- The bytes a signature takes of an act: its kind, the address or register, the word, R284. -/
def CopyAct.bytes : CopyAct → List Nat
  | .request wr a d => b2n wr :: (beBytes 4 a.toNat ++ beBytes 4 d.toNat)
  | .write r w => 2 :: (beBytes 4 r.toNat ++ beBytes 4 w.toNat)
  | .tag _ _ => []

/-- The signature of a window, R284. -/
def signature (l : List CopyAct) : BitVec 64 := crc64 (l.flatMap CopyAct.bytes)

/-- The hash of a copy's registers and tags, R286: of the entries that are not 0, each with its number. -/
def Copy.hash (c : Copy) : BitVec 64 :=
  let part (kind : Nat) (m : Sparse Word) : List Nat := m.flatMap fun x => kind :: (beBytes 4 x.1 ++ beBytes 4 x.2.toNat)
  crc64 (part 0 c.regs ++ part 1 c.tags)

/-- The three hashes. -/
def State.hashes (s : State) : BitVec 64 × BitVec 64 × BitVec 64 := (s.trio.copy0.hash, s.trio.copy1.hash, s.trio.copy2.hash)

/-- The copies do what their windows held; a copy out of step or fenced does nothing. -/
def actCopies (x0 x1 x2 : List CopyAct) (s : State) : State :=
  let one (k : Nat) (l : List CopyAct) (s : State) : State := if s.runsCopy k then modCopy k (fun c => l.foldl Copy.act c) s else s
  one 2 x2 (one 1 x1 (one 0 x0 s))

/-- Physical events strike the copies. -/
def upsetCopies (x0 x1 x2 : List Upset) (s : State) : State :=
  let one (k : Nat) (l : List Upset) (s : State) : State := modCopy k (fun c => l.foldl Copy.upset c) s
  one 2 x2 (one 1 x1 (one 0 x0 s))

/-- The caches of a copy are made invalid. -/
def clearTags (k : Nat) (s : State) : State := modCopy k (fun c => { c with tags := [] }) s

/-- The bitwise 2-of-3 majority, R282. -/
def majority (x y z : Word) : Word := (x &&& y) ||| (x &&& z) ||| (y &&& z)

/-- The registers of the copies as the output voter, or the pair, gives them, R293. -/
def State.votedRegs (s : State) : Sparse Word :=
  let t := s.trio
  let at_ (c : Copy) (k : Nat) : Word := Sparse.get (fun _ => 0) c.regs k
  if s.get TRIO_STAT.ODD ≤ 2 then (t.copy s.pairFirst).regs
  else (t.copy0.regs ++ t.copy1.regs ++ t.copy2.regs).foldl (fun m x =>
    Sparse.set (fun _ => 0) m x.1 (majority (at_ t.copy0 x.1) (at_ t.copy1 x.1) (at_ t.copy2 x.1))) []

/-- How the running copies agree, R293: a single copy that differs from two is outvoted (DEDUCED, log entry 65). -/
def State.copiesAgree (s : State) : SaveCheck :=
  let t := s.trio
  let at_ (c : Copy) (k : Nat) : Word := Sparse.get (fun _ => 0) c.regs k
  let odd := s.get TRIO_STAT.ODD
  if odd ≤ 2 then
    (if (t.copy s.pairFirst).regs = (t.copy (if odd = 2 then 1 else 2)).regs then .agreed else .pair)
  else if (t.copy0.regs ++ t.copy1.regs ++ t.copy2.regs).any fun x =>
      let p := at_ t.copy0 x.1
      let q := at_ t.copy1 x.1
      let r := at_ t.copy2 x.1
      decide (p ≠ q) && decide (p ≠ r) && decide (q ≠ r)
  then .three
  else .agreed

/-- Every running copy takes the saved registers, its caches invalid, R293. -/
def loadCopies (s : State) : State :=
  forEach [0, 1, 2] (fun k s => if s.runsCopy k then s.modTrio fun t => t.setCopy k { regs := t.saved } else s) s

/-- The debugger's register writes reach the running copies 1 and 2, R295. -/
def replayCopies (s : State) : State :=
  forEach [1, 2] (fun k s =>
    if s.runsCopy k then modCopy k (fun c => s.trio.replay.foldl (fun c x => c.setReg x.1 x.2) c) s else s) s

/-- The trio's state is saved for NAP, R293; writes that wait for replay are among it. -/
def saveTrio (s : State) : State :=
  let s := s.modTrio fun t => { t with asleep := s.trioState }
  if s.trioState = 4 then s
  else
    let s := replayCopies s
    s.modTrio fun t => { t with saved := s.votedRegs, saveChk := s.copiesAgree }

/-- The MGS logs a device safe state, R291 and R296. -/
def logSafe (s : State) : State := logMgs 0x0103 (s.rd TRIO_STAT) (s.rd TRIO_MM) (s.rd TRIO_CNT) s

/-- The device safe state for a trio cause, R291 and R292: the trio is held until a reset. What it does to the axes begins at
the next profile tick. -/
def enterSafe (cause : Nat) (s : State) : State :=
  if s.trioState = 4 then s
  else
    let s := (s.put TRIO_STAT.STATE 4).put TRIO_STAT.SAFECAUSE cause
    logSafe (s.modTrio fun t => { t with safe := true, phase := 0, wake := false })

/-- The device safe state for a parity failure of a GCTL word: the trio is not held, R292. -/
def enterSafeParity (s : State) : State :=
  if s.trio.safe then s else logSafe (s.modTrio fun t => { t with safe := true })

/-- A comparator or agreement-stage fault, R283 and R287. -/
def comparatorFault (s : State) : State :=
  if s.trioState = 4 || s.trioState = 5 || s.power.inReset then s else enterSafe 3 (pendSrc 121 s)

/-- Records a mismatch in TRIO_MM. -/
def recordMismatch (copy kind : Nat) (s : State) : State :=
  if s.on TRIO_MM.VALID then s.put TRIO_MM.MORE 1
  else ((s.put TRIO_MM.VALID 1).put TRIO_MM.COPY copy).put TRIO_MM.KIND kind

/-- Resynchronisations that began in the preceding 1,000 ms. -/
def State.recentResyncs (s : State) : List Nat := s.trio.begins.filter fun t => decide (s.elapsed < t + 100000)

/-- A single-copy mismatch of copy `k`, R288. -/
def mismatch (k kind : Nat) (s : State) : State :=
  match s.trioState with
  | 0 =>
    let s := recordMismatch k kind s
    let l := s.recentResyncs
    if l.length < s.get TRIO_CFG.RSLIM then
      ((s.put TRIO_STAT.STATE 1).put TRIO_STAT.ODD k).modTrio fun t => { t with begins := l ++ [s.elapsed], phase := 1 }
    else if s.on TRIO_CFG.PERMDUP then
      ((s.put TRIO_STAT.STATE 2).put TRIO_STAT.ODD k).put TRIO_STAT.FENCED 1
    else enterSafe 4 s
  | 1 => if s.get TRIO_STAT.ODD = k then s else enterSafe 1 (recordMismatch k kind s)
  | 2 => enterSafe 6 (recordMismatch k kind s)
  | 3 => recordMismatch k kind s
  | _ => s

/-- The two running copies differ, R288: neither is known to be the odd one. -/
def pairMismatch (kind : Nat) (s : State) : State :=
  let (n, s) := s.fresh
  let s := recordMismatch (Config.pairCopy n) kind s
  if s.trioState = 1 then enterSafe 1 s else if s.trioState = 2 then enterSafe 6 s else s

/-- The outcome of comparing three values 2-of-3. -/
inductive Vote where
  | equal
  | odd (k : Nat)
  | none
deriving DecidableEq, Repr

/-- Compares the three copies' values 2-of-3, R284. -/
def vote (x0 x1 x2 : BitVec 64) : Vote :=
  if x0 = x1 then (if x1 = x2 then .equal else .odd 2)
  else if x1 = x2 then .odd 0
  else if x0 = x2 then .odd 1
  else .none

/-- Whether the two copies other than `odd` agree. -/
def pairEqual (odd : Nat) (x0 x1 x2 : BitVec 64) : Bool :=
  if odd = 0 then x1 = x2 else if odd = 1 then x0 = x2 else x0 = x1

/-- Counts inputs on which a copy was outvoted, R283. -/
def countInputs (n0 n1 n2 : Nat) (s : State) : State :=
  ((s.addSat TRIO_INDIS.COPY0 n0).addSat TRIO_INDIS.COPY1 n1).addSat TRIO_INDIS.COPY2 n2

/-- SIGNATURE_WINDOW_END: what the running copies did in the window stands, a new WIN lands, the inputs outvoted in the window are
counted, and the signatures of the window, which start at 0, are compared. -/
def signatureEnd (x0 x1 x2 : List CopyAct) (n0 n1 n2 : Nat) (s : State) : State :=
  if !s.trioClock then s
  else
    let s := landClass .window (fun addr => addr = TRIO_CFG) s
    match s.trioState with
    | 0 =>
      let s := countInputs n0 n1 n2 (actCopies x0 x1 x2 s)
      match vote (signature x0) (signature x1) (signature x2) with
      | .equal => s
      | .odd k => mismatch k 1 s
      | .none => enterSafe 2 s
    | 1 | 2 =>
      let s := countInputs n0 n1 n2 (actCopies x0 x1 x2 s)
      if pairEqual (s.get TRIO_STAT.ODD) (signature x0) (signature x1) (signature x2) then s else pairMismatch 1 s
    | _ => s

/-- A scrub finds a difference, R286. -/
def scrubFound (s : State) : State := pendSrc 122 (s.inc TRIO_CNT.SCRUBMM)

/-- The hashes of the copies are compared in trio state `st`, R286. -/
def compareHashes (st : Nat) (s : State) : State :=
  let (h0, h1, h2) := s.hashes
  match st with
  | 0 => match vote h0 h1 h2 with
    | .equal => s
    | .odd k => mismatch k 2 (scrubFound s)
    | .none => enterSafe 2 s
  | 2 => if pairEqual (s.get TRIO_STAT.ODD) h0 h1 h2 then s else pairMismatch 2 (scrubFound s)
  | _ => s

/-- QUIET_STATE_SCRUB: the three hashes are compared, R286; a scrub during a resynchronisation is run again later. The scrub that a wake
from NAP waits for lets the trio go on, R293. -/
def quietScrub (x0 x1 x2 : List Upset) (s : State) : State :=
  if !s.trioClock then s
  else
    let s := (upsetCopies x0 x1 x2 s).modTrio fun t => { t with wake := false }
    let s := if s.trioState = 0 || s.trioState = 2 then s.modTrio fun t => { t with scrub := false } else s
    compareHashes s.trioState s

/-- The combination of copy and bit tested next: the fenced copy is passed over, R287. -/
def State.testPattern (s : State) : Nat :=
  let p := s.trio.nextPat
  if s.on TRIO_STAT.FENCED && p / 64 = s.get TRIO_STAT.ODD then (p / 64 + 1) * 64 % 192 else p

/-- COMPARATOR_SELF_TEST: each half reports the copy it finds odd, or none; both must name the copy injected, R287. -/
def selfTest (half0 half1 : Option Nat) (s : State) : State :=
  if !s.trioClock || s.trioState = 3 || s.trioState = 4 || s.trioState = 5 then s
  else
    let p := s.testPattern
    let s := (s.put TRIO_STEST.PATTERN p).modTrio fun t => { t with nextPat := (p + 1) % 192 }
    if half0 = some (p / 64) && half1 = some (p / 64) then s.incWrap TRIO_STEST.TESTS
    else comparatorFault s

/-- DELAY_PARITY_ERROR, R285. -/
def delayParity (k : Nat) (s : State) : State :=
  if !s.trioClock || s.trioState = 4 || s.trioState = 5 then s else mismatch k 3 (s.inc TRIO_CNT.DPAR)

/-- CACHE_PARITY_ERROR, R281 and R285. -/
def cacheParity (k : Nat) (s : State) : State := if !s.trioClock then s else mismatch k 4 s

/-- SRAM_DOUBLE_BIT_ERROR, R281. -/
def sramDouble (s : State) : State :=
  if s.power.inReset || s.trioState = 5 then s else enterSafe 7 s

/-- SRAM_SCRUB: `n` single-bit errors were corrected, R281. -/
def sramScrub (n : Nat) (s : State) : State := if !s.trioClock then s else s.addSat TRIO_SRAM.CORR n

/-- VOTER_DISAGREEMENT: with two copies running, their requests differ, R282. -/
def voterDisagreement (s : State) : State :=
  if s.trioClock && (s.trioState = 1 || s.trioState = 2) then pairMismatch 5 s else s

/-! ### Resynchronisation, R289 -/

/-- Whether the resynchronisation is at a step, with the clock it needs: DOZE gates it, R288. -/
def State.resyncAt (s : State) (step : Nat) : Bool := s.trioClock && s.trioState = 1 && s.trio.phase = step

/-- RESYNC_HOLD_DONE: the caches of the odd copy are invalid; the pair runs on to a boundary. -/
def resyncHold (s : State) : State :=
  if s.resyncAt 1 then clearTags (s.get TRIO_STAT.ODD) (s.modTrio fun t => { t with phase := 2 }) else s

/-- RESYNC_BOUNDARY: the pair stalls, and its state is copied. -/
def resyncBoundary (s : State) : State :=
  if s.resyncAt 2 then s.modTrio fun t => { t with phase := 3 } else s

/-- The odd copy has taken the pair's state, all caches are empty, and the copies are released: RESYNCS counts, event 120 pends, and a
scrub is due at once. -/
def resyncComplete (s : State) : State :=
  if s.resyncAt 3 then
    let odd := s.get TRIO_STAT.ODD
    let first := s.pairFirst
    let s := s.modTrio fun t => t.setCopy odd { t.copy odd with regs := (t.copy first).regs }
    let s := forEach [0, 1, 2] clearTags s
    let s := ((s.put TRIO_STAT.STATE 0).put TRIO_STAT.ODD 3).inc TRIO_CNT.RESYNCS
    pendSrc 120 (s.modTrio fun t => { t with phase := 0, scrub := true })
  else s

/-- RESYNC_TIMEOUT, R288. -/
def resyncTimeout (s : State) : State := if s.trioState = 1 then enterSafe 5 s else s

/-- The trio watchdog restarts with a full TOUT, R362. -/
def restartWatchdog (s : State) : State := { s with mgs := { s.mgs with wdStart := s.ticks } }

/-! ### Debug, R294 and R295; the caller has checked the debug session -/

/-- DEBUG_HALT: the three copies halt. -/
def debugHalt (s : State) : State :=
  if s.trioClock && (s.trioState = 0 || s.trioState = 2) then
    let st := s.trioState
    (s.put TRIO_STAT.STATE 3).modTrio fun t => { t with halted := st }
  else s

/-- DEBUG_RESUME: the replay queue is replayed and a scrub compares the copies; a single step halts again. -/
def debugResume (step : Bool) (x0 x1 x2 : List Upset) (s : State) : State :=
  if s.trioState ≠ 3 then s
  else
    let st := s.trio.halted
    let s := upsetCopies x0 x1 x2 (replayCopies s)
    let s := s.modTrio fun t => { t with replay := [], dbgErr := false, wake := false }
    let s := s.put TRIO_STAT.STATE st
    let s := compareHashes (if st = 2 then 2 else 0) (restartWatchdog s)
    if step && s.trioState = st then s.put TRIO_STAT.STATE 3 else s

/-- DEBUG_REGISTER_WRITE: copy 0 takes the word, which also waits for replay; refused with a debug error when the replay queue is full. -/
def debugRegister (reg : Nat) (w : Word) (s : State) : State :=
  if s.trioState ≠ 3 then s
  else if s.trio.replay.length < 64 then
    modCopy 0 (fun c => c.setReg reg w) (s.modTrio fun t => { t with replay := t.replay ++ [(reg, w)], dbgErr := false })
  else s.modTrio fun t => { t with dbgErr := true }

/-- DEBUG_MEMORY_WRITE: one word of the shared SRAM. Which line of the caches holds it the spec does not say, so the tags stay as they are
in all three copies (log entry 65). -/
def debugMemory (k : Nat) (w : Word) (s : State) : State :=
  if s.trioState ≠ 3 then s
  else s.modTrio fun t => { t with sram := Sparse.set (fun _ => 0) t.sram k w, dbgErr := false }

/-! ### Delivery of occurrences, R301 -/

/-- Whether occurrence `x` is delivered before `y`: higher priority, then lower source number. -/
def State.occBefore (s : State) (x y : Occ) : Bool :=
  let px := s.get (EV_CFG.PRI x.src)
  let py := s.get (EV_CFG.PRI y.src)
  decide (py < px) || (px = py && decide (x.src < y.src))

/-- The occurrence delivered first; the oldest among equals. -/
def State.firstOcc (s : State) : List Occ → Option Occ
  | [] => none
  | o :: l => match s.firstOcc l with
    | none => some o
    | some p => if s.occBefore p o then some p else some o

/-- Removes the first occurrence equal to `o`. -/
def removeOcc (o : Occ) : List Occ → List Occ
  | [] => []
  | p :: l => if p = o then l else p :: removeOcc o l

/-- HALT_N_LOW and HALT_N_HIGH, R306: ignored in reset, NAP and HIBERNATE. The axes halt at the next tick. -/
def haltNLow (s : State) : State :=
  if !s.fabricOn then s
  else ((s.put EV_PIN.HALTN 0).put EV_PIN.HALTSEEN 1).modPower fun p => { p with haltDue := true }

def haltNHigh (s : State) : State := if !s.fabricOn then s else s.put EV_PIN.HALTN 1

end Sys2Proof.Machine
end

