-- ==== Sys2Proof/Machine/MgsOps.lean ====
section
/-!
DEFINITION. Machine/MgsOps.lean: the management subsystem (R361 to R382): monitors, trio watchdog, event log, firmware slots,
keys, security commands, authentication and the security alarm.
-/

namespace Sys2Proof.Machine

/-- Changes the management subsystem. -/
def State.modMgs (s : State) (f : Mgs → Mgs) : State := { s with mgs := f s.mgs }

/-- Whether the configuration is locked, R378. -/
def State.locked (s : State) : Bool := s.on MGS_PROV.LOCK

/-- Whether the keys are erased or their erase is latched, R379. -/
def State.keysGone (s : State) : Bool := s.on MGS_PROV.ERASED || s.mgs.erase.isSome

/-! ### The event log, R363 to R365 -/

/-- The entries from sequence number `n` on, at most 2,048. -/
def State.unreadFrom (s : State) (n : Nat) : Nat := min 2048 (s.mgs.nextSeq - n)

/-- Unread entries. -/
def State.unread (s : State) : Nat := s.unreadFrom (s.rd MGS_LOGRPTR).toNat

/-- Event 125 pends when the unread count, `n0` before, rises to NEARTHR, R365. -/
def nearFull (n0 : Nat) (s : State) : State :=
  let thr := s.get MGS_LOGCFG.NEARTHR
  if n0 < thr && decide (thr ≤ s.unread) then pendSrc 125 s else s

/-- MGS_LOGSTAT as it stands. -/
def State.logStat (s : State) : Word := wordPut (s.rd MGS_LOGSTAT) 11 0 s.unread

/-- Writes an entry to NVM: the oldest of 2,048 is overwritten. -/
def logWrite (x : LogItem) (s : State) : State :=
  let n0 := s.unread
  let e : LogEntry := ⟨s.mgs.nextSeq, x.time, x.code, 0, s.power.rtcSet, x.d0, x.d1, x.d2⟩
  let lost : Bool := match s.mgs.log with
    | o :: _ => decide (2048 ≤ s.mgs.log.length) && decide ((s.rd MGS_LOGRPTR).toNat ≤ o.seq)
    | [] => false
  let s := applyIf lost (fun s =>
    (s.wr MGS_LOGRPTR (BitVec.ofNat 32 ((s.rd MGS_LOGRPTR).toNat + 1))).inc MGS_LOGSTAT.OVERRUN) s
  nearFull n0 (s.modMgs fun m =>
    { m with
      log := (if 2048 ≤ m.log.length then m.log.drop 1 else m.log) ++ [e]
      nextSeq := m.nextSeq + 1
      logIdx := if lost then 0 else m.logIdx })

/-- LOG_ENTRY: the oldest entry of the queue is written, R364. -/
def logEntry (s : State) : State :=
  match s.logQ with
  | [] => s
  | x :: q => logWrite x { s with logQ := q }

/-- Gives the newest entry of a code its repeat count. -/
def setRepeat (code n : Nat) (l : List LogEntry) : List LogEntry :=
  match l with
  | [] => []
  | e :: l => if e.code = code && !(l.any fun x => x.code = code) then { e with rep := min 65535 n } :: l else e :: setRepeat code n l

/-- LOG_REPEAT_REWRITE: the 10 ms of an entry are over, and it takes its count, R304; not before it has been written, R364. -/
def logRepeat (src : Nat) (s : State) : State :=
  match Sparse.get (fun _ => none) s.logWin src with
  | none => s
  | some (_, n) =>
    if s.logQ.any fun x => x.code = src then s
    else
    let s := { s with logWin := Sparse.set (fun _ => none) s.logWin src none }
    if n = 0 then s else s.modMgs fun m => { m with log := setRepeat src n m.log }

/-- The eight words of an entry, R363. -/
def LogEntry.words (e : LogEntry) : List Word :=
  let l : List Word :=
    [BitVec.ofNat 32 e.time, BitVec.ofNat 32 (e.time / 2 ^ 32 % 2 ^ 16 + e.code * 2 ^ 16),
     BitVec.ofNat 32 (e.rep + b2n e.rtcSet * 2 ^ 16), BitVec.ofNat 32 e.seq, e.d0, e.d1, e.d2]
  l ++ [crcWords l]

/-- The words of the entry at RPTR; zeros with nothing unread, R365. -/
def State.logWords (s : State) : List Word :=
  match s.mgs.log.find? fun e => e.seq = (s.rd MGS_LOGRPTR).toNat with
  | some e => if s.unread = 0 then List.replicate 8 0 else e.words
  | none => List.replicate 8 0

/-- A read of MGS_LOGDATA: the next word, and RPTR advances after word 7. -/
def logDataRead (s : State) : Word × State :=
  if s.unread = 0 then (0, s)
  else
    let i := s.mgs.logIdx
    let w := s.logWords.getD i 0
    if i = 7 then
      (w, (s.wr MGS_LOGRPTR (BitVec.ofNat 32 ((s.rd MGS_LOGRPTR).toNat + 1))).modMgs fun m => { m with logIdx := 0 })
    else (w, s.modMgs fun m => { m with logIdx := i + 1 })

/-- The oldest sequence number held. -/
def State.oldestSeq (s : State) : Nat := match s.mgs.log with | e :: _ => e.seq | [] => s.mgs.nextSeq

/-- The legal read pointer nearest to `w`, R365. -/
def State.clampSeq (s : State) (w : Nat) : Nat := clampNat s.oldestSeq s.mgs.nextSeq w

/-! ### The security alarm, R377 to R379 -/

/-- Sets the configuration lock for trigger `t`, R378. -/
def setLock (t : Nat) (s : State) : State :=
  if s.locked then s
  else logMgs 0x0123 (BitVec.ofNat 32 (1 + 256 * t)) 0 0 ((s.put MGS_PROV.LOCK 1).put MGS_PROV.LOCKSRC t)

/-- Security trigger `t`, R377: event 124, SEEN, the log, and its response. -/
def alarm (t : Nat) (s : State) : State :=
  let resp := wordField (s.rd MGS_ALCFG) (2 * t + 1) (2 * t)
  let s := pendSrc 124 (s.putBitAt MGS_ALSTAT (16 + t) true)
  let s := logMgs 0x0121 (BitVec.ofNat 32 (t + 256 * resp)) 0 0 s
  match resp with
  | 1 => setLock t s
  | 2 =>
    -- the Thyme domain latches the erase; a sleeping device is to wake
    s.modMgs fun m => { m with erase := some (m.erase.getD t) }
  | _ => s

/-- The condition of a trigger while it lasts. -/
def setActive (t : Nat) (b : Bool) (s : State) : State := s.putBitAt MGS_ALSTAT t b

/-- The MGS clears MGS_SECBUF, R382. -/
def clearSecbuf (s : State) : State :=
  let s := forEach (List.range 16) (fun i s => s.wr (MGS_SECBUF i) 0) s
  s.modMgs fun m => { m with secIn := [] }

/-- The host port session ends, R376. -/
def endHostSession (s : State) : State :=
  clearSecbuf (s.modMgs fun m => { m with hostAuth := false, hostCh := none })

/-- The debug session ends, R376. -/
def endDebugSession (s : State) : State :=
  clearSecbuf (s.modMgs fun m => { m with dbgAuth := false, dbgCh := none })

/-- KEY_ERASE_COMPLETE on the MGS's own part, R379: the keys are overwritten, ERASED and LOCK are set, sessions close, and a security
command in progress loses its own. -/
def keyErase (s : State) : State :=
  match s.mgs.erase with
  | none => s
  | some t =>
    let s := s.modMgs fun m =>
      { m with
        ident := 0, identKey := [], cert := false, ak := none, erase := none, lockErase := true
        sec := m.sec.map fun r => { r with session := false } }
    let s := if s.locked then s else (s.put MGS_PROV.LOCK 1).put MGS_PROV.LOCKSRC t
    let s := logMgs 0x0122 (BitVec.ofNat 32 t) 0 0 (s.put MGS_PROV.ERASED 1)
    endDebugSession (endHostSession s)

/-! ### Monitors and watchdog, R361 and R362 -/

/-- The thresholds of the hub temperature, in 0.0625 °C, R361. -/
def thermalCheck (t : Int) (s : State) : State :=
  let warn : Int := 16 * s.get MGS_THCFG.WARN
  let was := s.bitAt (EV_ACT 3) 30
  let s :=
    if warn ≤ t then (if was then s else pendSrc 126 (setAct 126 true s))
    else if t ≤ warn - 80 then setAct 126 false s
    else s
  if 16 * (s.get MGS_THCFG.SHUT : Int) ≤ t then enterSafe 8 s else s

/-- Nominal rail voltages in mV: VDDC, VDDIO, VDDA, VAON, R45. -/
def railNominal (k : Nat) : Nat :=
  match k with
  | 1 => 900 | 2 => 3300 | 3 => 1800 | _ => Config.vaonNominal

/-- A rail reading: logged when it leaves ±7 % of its nominal value and when it returns. -/
def railCheck (k mv : Nat) (s : State) : State :=
  let n := railNominal k
  let out : Bool := decide (100 * mv < 93 * n) || decide (107 * n < 100 * mv)
  let was := natBit s.mgs.railOut k
  if out = was then s
  else
    let d := k + 256 * b2n out + 65536 * mv
    logMgs 0x0102 (BitVec.ofNat 32 d) 0 0 (s.modMgs fun m => { m with railOut := natPutBit m.railOut k out })

/-- The failures of the last 60 s. -/
def State.winFail (s : State) : List Nat := s.mgs.fails.filter fun t => decide (s.mgs.ms < t + 60000)

/-- The RTC counts `n` periods of 32.768 kHz, R64. -/
def rtcCount (n : Nat) (s : State) : State :=
  if n = 0 then s
  else
    let v := (s.rtc + n) % 2 ^ 48
    (s.wr GCTL_RTC_LO (BitVec.ofNat 32 v)).put GCTL_RTC_HI.RTC (v / 2 ^ 32)

/-- MONITOR_SAMPLE: hub temperature, the four rails, and the conditions of triggers 0 to 2. -/
def monitorSample (temp : Int) (mv : List Nat) (active periods : Nat) (s : State) : State :=
  if s.power.inReset || s.get GCTL_RUNSTAT.STATE = 3 then s
  else
    let s := rtcCount periods (s.modMgs fun m => { m with ms := m.ms + 1 })
    let s := applyIf (s.runState = 2) (·.modPower fun p => { p with napMs := p.napMs + 1 }) s
    let live := s.winFail
    let s := s.modMgs fun m => { m with fails := live }
    let s := (s.put (MGS_MON.VALID 0) 1).put (MGS_MON.VALUE 0) (unsigned 16 temp)
    let s := forEach [1, 2, 3, 4] (fun k s =>
      let v := mv.getD (k - 1) 0
      railCheck k v ((s.put (MGS_MON.VALID k) 1).put (MGS_MON.VALUE k) v)) s
    let s := forEach [0, 1, 2] (fun t s => setActive t (natBit active t) s) s
    let s := setActive 3 (decide (s.get MGS_ALCFG.AUTHLIM < live.length)) s
    thermalCheck temp (setActive 4 false s)

/-- Whether the watchdog runs, R362: it is suspended while the trio is HALTED or OFF and in DOZE. It goes on while the trio is held in
SAFE, and it expires once until the next reset (DEDUCED, log entry 64). -/
def State.watchdogRuns (s : State) : Bool := s.trioClock && s.mgs.wdRun && s.trioState ≠ 3 && s.trioState ≠ 5

/-- WATCHDOG_SERVICE: only the trio's firmware can. -/
def watchdogService (s : State) : State := if s.trioRuns then restartWatchdog s else s

/-- WATCHDOG_EXPIRY, R362, once TOUT has passed without a service. The record of the safe state is logged even where the trio is in it
already. -/
def watchdogExpiry (s : State) : State :=
  if !s.watchdogRuns || decide (s.ticks < s.mgs.wdStart + 100 * s.get MGS_WDCFG.TOUT) then s
  else
    let s := (pendSrc 123 s).inc MGS_WDCFG.EXPCNT
    let act := s.get MGS_WDCFG.ACT
    let s := if s.trioState = 4 then logSafe s else enterSafe 8 s
    let s := logMgs 0x0104 (BitVec.ofNat 32 act) 0 0 s
    s.modMgs fun m => { m with wdRun := false, resetDue := if act = 0 then some s.elapsed else m.resetDue }

/-- Whether a reset of the MGS that waited comes: at the first tick with no axis working, or 1 s after the watchdog's expiry; that of
ACTIVATE_RESET has no such limit, R362 and R368. -/
def deferredDue (s : State) : Bool :=
  let idle : Bool := !(List.range 128).any s.hasWork
  (s.mgs.actReset && idle) || match s.mgs.resetDue with
    | none => false
    | some t => idle || decide (t + 100000 ≤ s.elapsed)

/-! ### Firmware slots, R366 to R371 -/

/-- Slot A or B. -/
def Mgs.slot (m : Mgs) (b : Bool) : Slot := if b then m.slotB else m.slotA

/-- The running slot, and the spare slot. -/
def State.runSlot (s : State) : Bool := s.on MGS_UPDSTAT.RUN
def State.spare (s : State) : Slot := s.mgs.slot (!s.runSlot)

/-- Changes a slot. -/
def modSlot (b : Bool) (f : Slot → Slot) (s : State) : State :=
  s.modMgs fun m => if b then { m with slotB := f m.slotB } else { m with slotA := f m.slotA }

/-- A word of an image. -/
def Slot.word (x : Slot) (k : Nat) : Word := Sparse.get (fun _ => 0) x.words k

/-- Firmware version and roll-back index of a slot's image. -/
def Slot.version (x : Slot) : Word := if x.factory then Config.factoryVersion else x.word 3
def Slot.index (x : Slot) : Nat := if x.factory then Config.factoryIndex.toNat else (x.word 4).toNat % 65536

/-- A slot takes a state, logged when it changes. -/
def slotTo (b : Bool) (st : Nat) (s : State) : State :=
  let x := s.mgs.slot b
  if x.state = st then s
  else logMgs 0x0110 (BitVec.ofNat 32 (b2n b + 256 * x.state + 65536 * st)) x.version 0 (modSlot b (fun y => { y with state := st }) s)

/-- MGS_UPDSTAT as it stands. -/
def State.updStat (s : State) : Word :=
  let w := wordPut (wordPut (s.rd MGS_UPDSTAT) 7 4 s.mgs.slotB.state) 3 0 s.mgs.slotA.state
  wordPut w 24 24 (b2n (s.mgs.updCmd ≠ 0))

/-- Bytes of image words: the least significant at the lower offset, R368. -/
def imageBytes (l : List Word) : List Nat := l.flatMap wordBytes

/-- Whether SHA-256 of the verification key of an image (its words 5 to 20) equals the hash held in the key region, R366. -/
def keyHashOk (key : List Word) : Bool := sha256 (imageBytes key) = (List.range 32).map fun i => (Config.firmwareKeyHash i).toNat

/-- Whether a signature verifies under a key, over the SHA-256 of the words of bytes 0 to 191 and the body, R366. -/
def signatureOk (head key sig body : List Word) : Bool :=
  let half (l : List Word) (i : Nat) : Nat := ofBeBytes (imageBytes ((l.drop (8 * i)).take 8))
  ecdsaOk (half key 0) (half key 1) (half sig 0) (half sig 1) (ofBeBytes (sha256 (imageBytes (head ++ body))))

/-- The first check of R366 an image fails: 0 valid, 1 header, 2 key hash, 3 signature, 4 roll-back index. -/
def State.imageCheck (s : State) (x : Slot) : Nat :=
  let len := (x.word 2).toNat
  let zeros : Bool := (x.word 4).toNat < 65536 && (List.range 27).all fun i => x.word (21 + i) = 0
  let words (a n : Nat) : List Word := (List.range n).map fun i => x.word (a + i)
  if x.word 0 ≠ 0x4E4B5A52 || x.word 1 ≠ 1 || len < 4 || 2096896 < len || len % 4 ≠ 0 || !zeros then 1
  else if !keyHashOk (words 5 16) then 2
  else if !signatureOk (words 0 48) (words 5 16) (words 48 16) (words 64 (len / 4)) then 3
  else if x.index < s.rbcnt.toNat then 4
  else 0

/-- Whether an update command is refused, R368. -/
def State.updRefused (s : State) (cmd : Nat) : Bool :=
  let sp := s.spare.state
  let run := (s.mgs.slot s.runSlot).state
  s.mgs.updCmd ≠ 0 || s.locked || match cmd with
    | 1 => sp = 6
    | 2 => sp ≠ 1
    | 3 => sp ≠ 2
    | 4 => sp ≠ 5
    | 5 => run ≠ 6
    | 6 => sp ≠ 2
    | _ => true

/-- Whether a slot holds a valid image, R366. The one the part was delivered with, whose bytes the spec does not give, is taken to
fail no check but that of its roll-back index (log entry 8); a slot whose bytes could not be read at the last boot holds none. -/
def State.holdsValid (s : State) (x : Slot) : Bool :=
  !x.flawed && if x.factory then decide (s.rbcnt.toNat ≤ x.index) else s.imageCheck x = 0

/-- Whether a download to 0x3200:02 finds another update running, or BEGIN refused, R368: an update runs from its BEGIN to its END, and
no longer after a reset (DEDUCED, log entry 64). -/
def State.imageRefused (s : State) : Bool := s.updRefused 1 || s.mgs.updRun

/-- ACTIVATE: the spare slot becomes PENDING, R368. -/
def slotPending (s : State) : State := slotTo (!s.runSlot) 5 (s.put MGS_UPDSTAT.TRIES 0)

/-- What an update command does at its end. -/
def updEffect (cmd : Nat) (s : State) : State :=
  let sp := !s.runSlot
  match cmd with
  | 1 =>
    let s := slotTo sp 1 (modSlot sp (fun x => { x with words := [], factory := false, flawed := false }) s)
    (s.put MGS_UPDADDR.ADDR 0).modMgs fun m => { m with updFull := false, updRun := true }
  | 2 =>
    let e := s.imageCheck s.spare
    (slotTo sp (if e = 0 then 2 else 3) (s.put MGS_UPDSTAT.ERR e)).modMgs fun m => { m with updRun := false }
  | 3 => slotPending s
  | 4 => slotTo sp 2 s
  | 5 =>
    let run := s.runSlot
    let idx := (s.mgs.slot run).index
    let s := slotTo run 4 s
    let s := if s.holdsValid (s.mgs.slot sp) then slotTo sp 2 s else s
    { s with rbcnt := BitVec.ofNat 16 (max s.rbcnt.toNat idx) }
  | _ => s

/-- An accepted update command: BUSY until its end, but for ACTIVATE_RESET, which takes effect at once and whose reset comes at the
first tick with no axis working. -/
def updCommand (cmd : Nat) (s : State) : State :=
  if cmd = 6 then (slotPending s).modMgs fun m => { m with actReset := true }
  else s.modMgs fun m => { m with updCmd := cmd }

/-- UPDATE_COMMAND_END. -/
def updEnd (s : State) : State :=
  if s.mgs.updCmd = 0 then s
  else
    let cmd := s.mgs.updCmd
    updEffect cmd (s.modMgs fun m => { m with updCmd := 0 })

/-- A write of MGS_UPDDATA: one word of the spare slot, R368. -/
def updData (w : Word) (s : State) : State :=
  let k := s.get MGS_UPDADDR.ADDR
  let s := modSlot (!s.runSlot) (fun x => { x with words := Sparse.set (fun _ => 0) x.words k w }) s
  if k = 2 ^ 19 - 1 then s.modMgs fun m => { m with updFull := true }
  else s.put MGS_UPDADDR.ADDR (k + 1)

/-! ### Authentication, R374 and R375 -/

/-- The state of a channel as MGS_AUSTAT.STATE codes it. -/
def State.hostState (s : State) : Nat :=
  if s.on MGS_PROV.ERASED then 3 else if s.mgs.hostAuth then 2 else if s.mgs.hostCh.isSome then 1 else 0

/-- MGS_AUSTAT as it stands. -/
def State.auStat (s : State) : Word :=
  wordPut (wordPut (s.rd MGS_AUSTAT) 9 8 s.hostState) 7 0 (min 255 s.winFail.length)

/-- A new challenge from the internal random source. -/
def newChallenge (s : State) : List Word × State :=
  let (n, s) := s.fresh
  ((List.range 4).map (Config.random n), s)

/-- Issues a challenge on the host port, where the four words can be read. -/
def issueHost (s : State) : State :=
  let (c, s) := newChallenge s
  let s := forEach (List.range 4) (fun i s => s.wr (MGS_AUCHAL i) (c.getD i 0)) s
  s.modMgs fun m => { m with hostCh := some c }

/-- A read of MGS_AUCHAL[0] on the debug port issues a challenge where none is outstanding, R374. -/
def issueDebug (s : State) : State :=
  if s.mgs.dbgCh.isSome then s
  else
    let (c, s) := newChallenge s
    s.modMgs fun m => { m with dbgCh := some c }

/-- The response expected, R374: the HMAC under the authentication key, whose bytes stand as MGS_SECBUF holds them. Challenge and
response words hold their first byte in bits [7:0], and node-ID and session ID are one byte each (DEDUCED, log entry 64). -/
def responseTag (key chal : List Word) (serial : Word) (channel node sess : Nat) : List Word :=
  let tag := hmacSha256 (key.flatMap fun w => beBytes 4 w.toNat)
    (chal.flatMap wordBytes ++ wordBytes serial ++ [channel % 256, node % 256, sess % 256])
  (List.range 8).map fun i => BitVec.ofNat 32 (ofBeBytes ((tag.drop (4 * i)).take 4).reverse)

/-- Whether a response is right, R374 and R375. -/
def State.responseOk (s : State) (chal : Option (List Word)) (resp : List Word) (channel node sess : Nat) : Bool :=
  match chal with
  | none => false
  | some c =>
    if s.keysGone then false
    else
      let key := match s.mgs.ak with
        | some k => k
        | none => List.replicate 8 0
      resp = responseTag key c Config.serial channel node sess

/-- A failed response, R374: event 109, the log, the counts, and trigger 3 above AUTHLIM. -/
def authFailure (channel node : Nat) (s : State) : State :=
  let s := pend 109 0 channel s
  let s := logMgs 0x0120 (BitVec.ofNat 32 (channel + 256 * node)) 0 0 (s.inc MGS_AUSTAT.FAILCNT)
  let l := s.winFail ++ [s.mgs.ms]
  let s := s.modMgs fun m => { m with fails := l }
  if s.get MGS_ALCFG.AUTHLIM < l.length then alarm 3 (setActive 3 true s) else s

/-- The response written to MGS_AURESP. -/
def State.hostResponse (s : State) : List Word := (List.range 8).map fun i => Sparse.get (fun _ => 0) s.mgs.resp i

/-- RESPONSE_CHECK for the host port, once word 7 has been written. -/
def checkHost (s : State) : State :=
  if !s.mgs.respDue then s
  else
    let ok := s.responseOk s.mgs.hostCh s.hostResponse 2 0 0
    let s := s.modMgs fun m =>
      { m with hostCh := none, respDue := false, resp := [], hostAuth := m.hostAuth || ok }
    let s := forEach (List.range 4) (fun i s => s.wr (MGS_AUCHAL i) 0) s
    if ok then s else authFailure 2 0 s

/-- RESPONSE_CHECK for the debug port. -/
def checkDebug (resp : List Word) (s : State) : State :=
  let ok := s.responseOk s.mgs.dbgCh resp 3 0 0
  let s := s.modMgs fun m => { m with dbgCh := none, dbgAuth := m.dbgAuth || ok }
  if ok then s else authFailure 3 0 s

/-- CHALLENGE_EXPIRY on the host or debug port. -/
def expireHost (s : State) : State :=
  let s := forEach (List.range 4) (fun i s => s.wr (MGS_AUCHAL i) 0) s
  s.modMgs fun m => { m with hostCh := none }

/-! ### Security commands, R373 -/

/-- MGS_SECSTAT and MGS_PROV as they stand. -/
def State.secStat (s : State) : Word := wordPut (s.rd MGS_SECSTAT) 8 8 (b2n s.mgs.sec.isSome)
def State.provWord (s : State) : Word :=
  let w := wordPut (wordPut (s.rd MGS_PROV) 2 2 (b2n s.mgs.ak.isSome)) 1 1 (b2n s.mgs.cert)
  wordPut w 0 0 (b2n (s.mgs.ident ≠ 0))

/-- A word the host wrote to MGS_SECBUF. -/
def State.secWord (s : State) (i : Nat) : Word := Sparse.get (fun _ => 0) s.mgs.secIn i

/-- The MGS places words in MGS_SECBUF. -/
def placeSecbuf (f : Nat → Word) (s : State) : State := forEach (List.range 16) (fun i s => s.wr (MGS_SECBUF i) (f i)) s

/-- The public identity key. -/
def State.publicKey (s : State) (i : Nat) : Word :=
  if s.mgs.ident = 1 then Config.identityKey i else s.mgs.identKey.getD i 0

/-- The result of a security command: 0 success, 1 no session, 2 not allowed, 3 keys erased. -/
def State.secResult (s : State) (r : SecRun) : Nat :=
  let gone := s.keysGone
  match r.cmd with
  | 1 => 0
  | 2 =>
    if s.mgs.erase.isSome then 3
    else if r.session || (s.mgs.ak.isNone && r.host) then 0 else 1
  | 3 => if gone then 3 else if !r.session then 1 else if s.mgs.ident ≠ 0 then 2 else 0
  | 4 => if gone then 3 else if s.mgs.ident = 0 then 2 else 0
  | 5 => if gone then 3 else if !s.mgs.cert || decide (15 < r.arg) then 2 else 0
  | 6 => if gone then 3 else if s.mgs.ident = 0 then 2 else 0
  | 7 => if gone then 3 else if !r.session then 1 else if s.mgs.ak.isNone then 2 else 0
  | 8 => if r.session then 0 else 1
  | _ => 2

/-- Clears the configuration lock. -/
def clearLock (s : State) : State :=
  if s.locked then logMgs 0x0123 0xFF00 0 0 ((s.put MGS_PROV.LOCK 0).modMgs fun m => { m with lockErase := false }) else s

/-- The action of a security command that succeeds. -/
def secEffect (r : SecRun) (s : State) : State :=
  match r.cmd with
  | 1 => endHostSession s
  | 2 =>
    let key := (List.range 8).map s.secWord
    let s := (s.modMgs fun m => { m with ak := some key }).put MGS_PROV.ERASED 0
    let s := if s.mgs.lockErase then (s.put MGS_PROV.LOCK 0).modMgs fun m => { m with lockErase := false } else s
    clearSecbuf (logMgs 0x0124 1 0 0 s)
  | 3 =>
    let (n, s) := s.fresh
    let key := (List.range 16).map (Config.random n)
    let s := s.modMgs fun m => { m with ident := 2, identKey := key }
    placeSecbuf (fun i => key.getD i 0) (logMgs 0x0124 2 0 0 s)
  | 4 => placeSecbuf s.publicKey s
  | 5 => placeSecbuf (fun i => Config.certificate (16 * r.arg + i)) s
  | 6 =>
    let (n, s) := s.fresh
    let msg := (List.range 8).map s.secWord ++
      [Config.serial, s.mgs.part.product, s.rd GCTL_ID, (s.mgs.slot s.runSlot).version, s.rbcnt.setWidth 32]
    placeSecbuf (Config.attestation n msg) s
  | 7 => clearLock s
  | _ => s.wr MGS_ALSTAT (s.rd MGS_ALSTAT &&& 0x3F)

/-- SECURITY_COMMAND_END. -/
def secEnd (s : State) : State :=
  match s.mgs.sec with
  | none => s
  | some r =>
    let res := s.secResult r
    let s := (s.modMgs fun m => { m with sec := none }).put MGS_SECSTAT.RESULT res
    if res = 0 then secEffect r s else s

/-! ### Register accesses, R380 to R382 -/

/-- Whether a security session stands behind a master, R373: behind the trio, an authenticated context it may write for, or an
authenticated debug session, whose accesses the trio makes (DEDUCED, log entry 64). -/
def State.sessionOf (s : State) (m : Master) : Bool :=
  match m with
  | .host => s.mgs.hostAuth
  | .trio => s.mgs.dbgAuth || s.net.ctxs.any (·.auth)
  | .mgs => true
  | _ => false

/-- Whether a write of `w` to a mailbox word is refused; `w` holds the word with its WO bits. -/
def mgsRefuses (l : Loc) (w : Word) (s : State) : Bool :=
  match l.defn.reg with
  | .MGS_UPDCTL => s.updRefused (wordField w 3 0)
  | .MGS_UPDDATA => s.spare.state ≠ 1 || s.mgs.updFull
  | .MGS_SECCMD => s.mgs.sec.isSome || wordField w 3 0 = 0 || decide (8 < wordField w 3 0)
  | .MGS_ALCFG => (List.range 6).any fun t => wordField w (2 * t + 1) (2 * t) = 3
  | _ => false

/-- Whether a mailbox write needs a security session the master does not hold, R380. MGS_AURESP answers the challenge of the host port,
whose session it opens, so only that port writes it (DEDUCED, log entry 64). -/
def mgsRestricts (m : Master) (l : Loc) (s : State) : Bool :=
  (l.defn.reg = .MGS_ALCFG && !s.sessionOf m) || (l.defn.reg = .MGS_AURESP && !(m = .host || m = .mgs))

/-- Whether a security command needs a session, given by the host port or another master, R373: SETKEY from the host port needs none
while no key is present. -/
def State.needsSession (s : State) (cmd : Nat) (host : Bool) : Bool :=
  cmd = 3 || cmd = 7 || cmd = 8 || (cmd = 2 && !(host && s.mgs.ak.isNone))

/-- Whether a write of `v` is one of a command, or of the data of a command in progress, that needs a session its port does not hold,
R380. With no command in progress MGS_SECBUF takes the nonce of ATTEST, which needs none (DEDUCED, log entry 64). -/
def secRestricts (m : Master) (l : Loc) (v : Word) (s : State) : Bool :=
  match l.defn.reg with
  | .MGS_SECCMD => s.needsSession (wordField v 3 0) (m = .host) && !s.sessionOf m
  | .MGS_SECBUF => s.mgs.sec.any (fun r => s.needsSession r.cmd r.host) && !s.sessionOf m
  | _ => false

/-- What a write to a mailbox word does; `w` is the stored word with the WO bits written, `old` the word before. -/
def mgsWritten (m : Master) (l : Loc) (old w : Word) (s : State) : State :=
  match l.defn.reg with
  | .MGS_UPDCTL => updCommand (wordField w 3 0) s
  | .MGS_UPDDATA => updData w s
  | .MGS_UPDADDR => s.modMgs fun x => { x with updFull := false }
  | .MGS_LOGRPTR => nearFull (s.unreadFrom old.toNat) (s.modMgs fun x => { x with logIdx := 0 })
  | .MGS_AURESP =>
    let s := s.modMgs fun x => { x with resp := Sparse.set (fun _ => 0) x.resp l.copy w }
    if l.copy = 7 then s.modMgs fun x => { x with respDue := true } else s
  | .MGS_SECBUF =>
    -- written words are kept apart from those the MGS places
    s.modMgs fun x => { x with secIn := Sparse.set (fun _ => 0) x.secIn l.copy w }
  | .MGS_SECCMD =>
    s.modMgs fun x => { x with sec := some ⟨wordField w 3 0, wordField w 31 24, s.sessionOf m, m = .host⟩ }
  | .MGS_THCFG =>
    if s.on (MGS_MON.VALID 0) then thermalCheck (s.getI (MGS_MON.VALUE 0)) s else s
  | .TRIO_CTL => if wordField w 0 0 = 1 then ((s.wr TRIO_CNT 0).wr TRIO_INDIS 0).wr TRIO_SRAM 0 else s
  | .TRIO_MM => applyIf (!s.on TRIO_MM.VALID) (fun s => s.put TRIO_MM.MORE 0) s
  | _ => s

/-- Mailbox words whose value is formed at the read. -/
def mgsWord (l : Loc) (s : State) : Option Word :=
  match l.defn.reg with
  | .MGS_LOGSTAT => some s.logStat
  | .MGS_UPDSTAT => some s.updStat
  | .MGS_AUSTAT => some s.auStat
  | .MGS_SECSTAT => some s.secStat
  | .MGS_PROV => some s.provWord
  | .MGS_RBCNT => some (s.rbcnt.setWidth 32)
  | _ => none

end Sys2Proof.Machine
end

