-- ==== Sys2Proof/Machine/NetCtl.lean ====
section
/-!
DEFINITION. Machine/NetCtl.lean: the two CAN controllers and their transmit queues (R311 to R315), communication objects
(R324, R336, R337), NMT states and the node-ID (R316 to R318), and EMCYs (R303, R321).
-/

namespace Sys2Proof.Machine

/-- Changes the network part. -/
def State.modNet (s : State) (f : Net → Net) : State := { s with net := f s.net }

/-- Controller `k`. -/
def State.can (s : State) (k : Nat) : Can := if k = 0 then s.net.can0 else s.net.can1

/-- Changes controller `k`. -/
def State.modCan (s : State) (k : Nat) (f : Can → Can) : State :=
  s.modNet fun n => if k = 0 then { n with can0 := f n.can0 } else { n with can1 := f n.can1 }

/-- The node-ID in force, and the NMT state: 0 initialisation, 1 pre-operational, 2 operational, 3 stopped. -/
def State.node (s : State) : Nat := s.get NET_NODE.NODE
def State.nmt (s : State) : Nat := s.get NET_NODE.NMT

/-- State of controller `k`: 0 error active, 1 error passive, 2 bus-off, 3 off. -/
def State.canState (s : State) (k : Nat) : Nat := s.get (NET_STAT.STATE k)

/-! ### Communication objects, R336 and R337 -/

/-- Default of a communication object. The COB-IDs of PDOs 1 to 4 are those CiA 1301 predefines, and the transmission type of
an event-driven PDO is its default: both PRESUMED, since the spec names CiA 1301 and no value. -/
def objDefault (node idx sub : Nat) : Word :=
  let pdo := idx % 0x40
  let lowHalf : Bool := decide (idx / 0x40 % 4 = 0)
  if idx = 0x1005 then 0x80
  else if idx = 0x1012 then 0x80000100
  else if idx = 0x1014 then BitVec.ofNat 32 (0x80 + node)
  else if 0x1400 ≤ idx && idx < 0x1440 && lowHalf then
    if sub = 1 then (if pdo < 4 then BitVec.ofNat 32 (0x200 + 0x100 * pdo + node) else 0x80000000)
    else if sub = 2 then 0xFF else 0
  else if 0x1800 ≤ idx && idx < 0x1840 && lowHalf then
    if sub = 1 then (if pdo < 4 then BitVec.ofNat 32 (0x180 + 0x100 * pdo + node) else 0x80000000)
    else if sub = 2 then 0xFF else 0
  else if idx = 0x2016 then 0xFF
  else 0

/-- The value of a communication object. -/
def State.obj (s : State) (idx sub : Nat) : Word :=
  (Sparse.get (fun _ => none) s.net.objs (256 * idx + sub)).getD (objDefault s.node idx sub)

/-- Sets a communication object. -/
def State.setObj (s : State) (idx sub : Nat) (w : Word) : State :=
  s.modNet fun n => { n with objs := Sparse.set (fun _ => none) n.objs (256 * idx + sub) (some w) }

/-! ### Transmitting, R313 to R315 -/

/-- Whether the words of controller `k` are free of a parity failure, R86. -/
def State.canGood (s : State) (k : Nat) : Bool :=
  !([NET_CTL k, NET_NBT k, NET_DBT k, NET_NODE, NET_GUARD] ++ (List.range 32).map NET_HBACT).any s.isBad

/-- Whether the trio firmware's stack runs: not halted, held or off, and resumed after NAP. While it resynchronises its work is delayed,
R25. -/
def State.stackOn (s : State) : Bool := s.fabricOn && !s.trio.wake && decide (s.trioState < 3)

/-- Whether controller `k` is not in listen operation (R312, R316, R292). -/
def State.canDrive (s : State) (k : Nat) : Bool := !s.on (NET_CTL.LISTEN k) && s.get NET_NODE.SRC ≠ 2 && s.trioState ≠ 4

/-- Whether controller `k` takes frames to send: on, not ending, not in listen operation. -/
def State.canSends (s : State) (k : Nat) : Bool := s.on (NET_CTL.EN k) && !(s.can k).ending && s.canDrive k

/-- Whether controller `k` receives: integrated on the bus and not bus-off. A frame under way is finished while it ends, R315. -/
def State.canReceives (s : State) (k : Nat) : Bool :=
  (s.on (NET_CTL.EN k) || (s.can k).ending) && decide (s.canState k < 2) && s.on (NET_STAT.ON k) && !s.power.inReset

/-- Whether a queued frame is an instance of TPDO `n`. -/
def TxFrame.isTpdo (x : TxFrame) (n : Nat) : Bool :=
  match x.msg with
  | .tpdo m _ => m = n
  | _ => false

/-- Puts a frame into the transmit queue of controller `k`, R313: a TPDO takes the place of its earlier instance; a frame that
finds 32 waiting is dropped. -/
def txAdd (k : Nat) (x : TxFrame) (s : State) : State :=
  if !s.canSends k then s
  else
    let q := (s.can k).queue
    let old : Bool := match x.msg with
      | .tpdo n _ => q.any fun y => y.isTpdo n
      | _ => false
    if old then
      let n := match x.msg with
        | .tpdo n _ => n
        | _ => 0
      (s.modCan k fun c => { c with queue := q.map fun y => if y.isTpdo n then x else y }).inc (NET_CNT.TXDROP k)
    else if 32 ≤ q.length then s.inc (NET_CNT.TXDROP k)
    else s.modCan k fun c => { c with queue := q ++ [x] }

/-- Sends a frame on every controller of a list. -/
def txAll (ks : List Nat) (x : TxFrame) (s : State) : State := forEach ks (fun k s => txAdd k x s) s

/-- The lowest identifier of a queue. -/
def lowestId (q : List TxFrame) : Option Nat :=
  q.foldl (fun b x => match b with
    | none => some x.id
    | some i => some (min i x.id)) none

/-- Removes the oldest frame of an identifier. -/
def dropId (i : Nat) : List TxFrame → List TxFrame
  | [] => []
  | x :: q => if x.id = i then q else x :: dropId i q

/-- Controller `k` has sent a frame: the one of the lowest identifier. A frame under way when EN is written 0 is finished, R315. -/
def txSent (k : Nat) (s : State) : State :=
  if decide (s.canState k < 2) && s.on (NET_STAT.ON k) && (s.canSends k || (s.can k).ending && s.canDrive k) && s.canGood k then
    match lowestId (s.can k).queue with
    | none => s
    | some i => s.modCan k fun c => { c with queue := dropId i c.queue }
  else s

/-- NET_SESS shows the contexts open. -/
def showSessions (s : State) : State :=
  (s.put NET_SESS.INUSE s.net.ctxs.length).put NET_SESS.AUTH (min 255 (s.net.ctxs.filter (·.auth)).length)

/-- Closes the contexts that satisfy `p`; the end of a security session clears MGS_SECBUF, R382. -/
def closeContexts (p : Ctx → Bool) (s : State) : State :=
  let auth : Bool := s.net.ctxs.any fun c => c.auth && p c
  let s := showSessions (s.modNet fun n => { n with ctxs := n.ctxs.filter fun c => !p c })
  if auth then clearSecbuf s else s

/-- Controller `k` goes off, R315. -/
def controllerOff (k : Nat) (s : State) : State :=
  let c := s.can k
  let s := s.addSat (NET_CNT.TXDROP k) (c.queue.length + c.emcys.length)
  let s := s.modCan k fun _ => {}
  let s := s.modNet fun n => if k = 0 then { n with hbMon0 := 0 } else { n with hbMon1 := 0 }
  let s := setAct (106 + k) false (closeContexts (fun x => x.can = k) s)
  (s.put (NET_STAT.STATE k) 3).put (NET_STAT.ON k) 0

/-- BUS_INTEGRATION: an enabled controller has seen 11 recessive bits, R315. -/
def busIntegration (k : Nat) (s : State) : State :=
  if s.on (NET_CTL.EN k) && s.canState k = 3 && !s.power.inReset && s.runState ≠ 3 then
    (((s.put (NET_STAT.STATE k) 0).put (NET_STAT.ON k) 1).put (NET_STAT.TEC k) 0).put (NET_STAT.REC k) 0
  else s

/-- The word a register of the NET block would hold latest, with a write applied, and whether it breaks R312. -/
def timingBad (ctl nbt dbt : Word) : Bool :=
  let nq := 1 + wordField nbt 21 16 + wordField nbt 26 22
  let dq := 1 + wordField dbt 7 3 + wordField dbt 15 12
  let n := wordField nbt 5 0 * nq
  let d := wordField dbt 2 0 * dq
  decide (n < 25) || decide (wordField nbt 26 22 < wordField nbt 31 27) || decide (wordField dbt 15 12 < wordField dbt 19 16)
    || (wordField ctl 4 4 = 1 && (decide (d < 5) || decide (n < d)))

/-- Whether a write to a controller's word is refused, R312: `sel` holds the data bits the write selects, `w` the word it would
leave. -/
def netRefuses (l : Loc) (sel w : Word) (s : State) : Bool :=
  let k := l.copy
  match l.defn.reg with
  | .NET_CTL =>
    if s.on (NET_CTL.EN k) then sel &&& 0x1A ≠ 0
    else wordField w 0 0 = 1 && timingBad w (s.latest (NET_NBT k)) (s.latest (NET_DBT k))
  | .NET_NBT => s.on (NET_CTL.EN k)
  | .NET_DBT => s.on (NET_CTL.EN k)
  | _ => false

/-- Whether a NET address belongs to controller `k` alone. -/
def netOwn (k a : Nat) : Bool := decide (0x90000 + 256 * k ≤ a) && decide (a < 0x90100 + 256 * k)

/-- Whether a NET address belongs to both controllers. -/
def netShared (a : Nat) : Bool := decide (0x90200 ≤ a) && decide (a < 0xA0000)

/-- Lands words of the FRAME class that satisfy `p`. -/
def landFrame (p : Nat → Bool) (s : State) : State := landClass .frame p s

/-- Whether a frame is in progress on the bus of controller `k`, as far as the last tick told. -/
def State.canBusy (s : State) (k : Nat) : Bool := (s.can k).busy && s.canState k ≠ 3

/-- Changes the NMT state. -/
def setNmt (n : Nat) (s : State) : State := s.put NET_NODE.NMT n

/-- A communication error, R318. -/
def commError (s : State) : State :=
  let b := (s.obj 0x1029 1).toNat
  if b = 0 then (if s.nmt = 2 then setNmt 1 s else s)
  else if b = 2 && s.nmt ≠ 0 then setNmt 3 s
  else s

/-- Whether every enabled controller is in bus-off. -/
def State.allBusOff (s : State) : Bool :=
  (s.on (NET_CTL.EN 0) || s.on (NET_CTL.EN 1))
    && [0, 1].all fun k => !s.on (NET_CTL.EN k) || s.canState k = 2

/-- What a write to a NET word does: `old` is the word before, `act` holds the WO bits. A word of one controller lands at once if
its bus is idle, R78; a word of both does if both buses are (DESIGN CHOICE, log entry 63). -/
def netWritten (l : Loc) (old act : Word) (s : State) : State :=
  let k := l.copy
  match l.defn.reg with
  | .NET_CTL =>
    if old.getLsbD 0 && !s.on (NET_CTL.EN k) then
      -- the controllers left may now all be in bus-off, R318
      let s := if s.allBusOff && s.canState k ≠ 2 then commError s else s
      if 2 ≤ s.canState k then controllerOff k s else s.modCan k fun c => { c with ending := true }
    else s
  | .NET_NBT | .NET_DBT => if s.canBusy k then s else landFrame (netOwn k) s
  | .NET_CNT =>
    if act = 0 then s else ((s.put (NET_CNT.RXDISC k) 0).put (NET_CNT.TXDROP k) 0).put (NET_CNT.BOFF k) 0
  | .NET_MAL => if act = 0 then s else (s.put NET_MAL.MALCNT 0).put NET_MAL.QCNT 0
  | _ => if s.canBusy 0 || s.canBusy 1 then s else landFrame netShared s

/-! ### Node-ID and NMT, R316 to R318 -/

/-- The node-ID is taken, and the node is in initialisation, R316. -/
def nodeAtReset (strap : Nat) (s : State) : State :=
  let pend := s.getLatest NET_NODE.PEND
  let (id, src) := if pend ≠ 0 then (pend, 0) else if strap ≠ 0 then (strap, 1) else (0, 2)
  ((s.put NET_NODE.NODE id).put NET_NODE.SRC src).put NET_NODE.NMT 0

/-- The boot-up message, and the state that follows it, R317. -/
def bootUp (s : State) : State :=
  if s.stackOn && s.nmt = 0 && s.get NET_NODE.SRC ≠ 2 then
    setNmt (if (s.obj 0x1F80 0).getLsbD 2 then 2 else 1) (txAll [0, 1] ⟨0x700 + s.node, .heartbeat 0⟩ s)
  else s

/-! ### EMCYs, R303 and R321 -/

/-- Queues an EMCY on every enabled controller, sets its error-register bits and notes its code. Stopped nodes, and nodes not
yet booted up, send none, R317. -/
def queueEmcy (code bits : Nat) (word : Word) (s : State) : State :=
  let reg := (BitVec.ofNat 8 s.net.errReg ||| BitVec.ofNat 8 bits ||| 1).toNat
  let s := s.modNet fun n => { n with errReg := reg, errHist := (code :: n.errHist).take 16 }
  if s.nmt = 1 || s.nmt = 2 then
    forEach [0, 1] (fun k s =>
      if !s.canSends k || (s.obj 0x1014 0).getLsbD 31 then s
      else if 16 ≤ (s.can k).emcys.length then s.inc (NET_CNT.TXDROP k)
      else s.modCan k fun c => { c with emcys := c.emcys ++ [.emcy code reg word] }) s
  else s

/-- Code and error-register bits of an occurrence, R303. -/
def emcyCode (o : Occ) : Nat × Nat :=
  let other : Nat × Nat := (0xFF00 + o.src, 0x80)
  if o.src < 16 then
    match o.cause with
    | 3 => (0x2320, 0x02)
    | 8 => (0x4210, 0x08)
    | 9 => (0x5110, 0x04)
    | 15 => (0x5000, 0)
    | _ => other
  else if o.src < 20 then
    match o.cause with
    | 10 => (0x5110, 0x04)
    | 13 => (0x5000, 0)
    | 14 => (0x6300, 0)
    | _ => other
  else if o.src = 24 || o.src = 25 then (if o.cause = 12 then (0x3210, 0x04) else (0x3220, 0x04))
  else if o.src = 104 || o.src = 105 then (0x8140, 0x10)
  else if o.src = 106 || o.src = 107 then (0x8120, 0x10)
  else if o.src = 114 then (0x6300, 0)
  else if o.src = 126 then (0x4210, 0x08)
  else other

/-- Queues the EMCY of an occurrence; that of a bus-off waits for the recovery, R314. -/
def occEmcy (o : Occ) (s : State) : State :=
  let (code, bits) := emcyCode o
  let k := o.src - 104
  if (o.src = 104 || o.src = 105) && s.canState k = 2 then s.modCan k fun c => { c with boff := some o.word }
  else queueEmcy code bits o.word s

/-- EMCY_QUEUE: the firmware takes the oldest occurrence routed to EMCY. -/
def emcyTake (s : State) : State :=
  if !s.stackOn then s
  else match s.emcyQ with
    | [] => s
    | o :: q => occEmcy o { s with emcyQ := q }

/-- Whether an EMCY condition stands: a source routed to EMCY pending and enabled, or a partner lost, R303 and R320. -/
def State.emcyStands (s : State) : Bool :=
  s.rd NET_HB ≠ 0 || (List.range 128).any fun src => s.driving (·.emcy) 0 src

/-- The error-reset EMCY, once no condition stands. -/
def errorReset (s : State) : State :=
  if s.net.errReg ≠ 0 && s.emcyQ.isEmpty && (s.can 0).boff.isNone && (s.can 1).boff.isNone && s.stackOn && !s.emcyStands then
    let s := s.modNet fun n => { n with errReg := 0 }
    if s.nmt = 1 || s.nmt = 2 then
      forEach [0, 1] (fun k s =>
        if !s.canSends k || (s.obj 0x1014 0).getLsbD 31 then s
        else if 16 ≤ (s.can k).emcys.length then s.inc (NET_CNT.TXDROP k)
        else s.modCan k fun c => { c with emcys := c.emcys ++ [.emcy 0 0 0] }) s
    else s
  else s

/-- EMCY_SEND: the oldest EMCY of controller `k` goes to its transmit queue, the inhibit time being over, R321. -/
def emcySend (k : Nat) (s : State) : State :=
  let c := s.can k
  let ok : Bool := match c.emcyAt with
    | none => true
    | some t => decide (t + 10 * (s.obj 0x1015 0).toNat ≤ s.ticks)
  match c.emcys with
  | [] => s
  | x :: rest =>
    if ok && s.stackOn && (s.nmt = 1 || s.nmt = 2) then
      txAdd k ⟨(s.obj 0x1014 0).toNat % 2048, x⟩ (s.modCan k fun c => { c with emcys := rest, emcyAt := some s.ticks })
    else s

/-! ### Bus conditions, R314 -/

/-- A controller enters bus-off: its queue is kept. One that finishes its last frame (R315) goes off. -/
def busOff (k : Nat) (s : State) : State :=
  if (s.on (NET_CTL.EN k) || (s.can k).ending) && decide (s.canState k < 2) && s.on (NET_STAT.ON k) then
    let s := (s.put (NET_STAT.STATE k) 2).inc (NET_CNT.BOFF k)
    let s := pendD4 (104 + k) 0 k (setAct (106 + k) false s)
    if (s.can k).ending then controllerOff k s else if s.allBusOff then commError s else s
  else s

/-- Recovery after 128 runs of 11 recessive bits: the queue resumes and the bus-off EMCY is queued. -/
def busOffRecovery (k : Nat) (s : State) : State :=
  if s.canState k = 2 && s.on (NET_CTL.EN k) then
    let s := ((s.put (NET_STAT.STATE k) 0).put (NET_STAT.TEC k) 0).put (NET_STAT.REC k) 0
    match (s.can k).boff with
    | none => s
    | some w => queueEmcy 0x8140 0x10 w (s.modCan k fun c => { c with boff := none })
  else s

/-- A controller enters error passive. -/
def errorPassive (k : Nat) (s : State) : State :=
  if s.canState k = 0 && s.on (NET_STAT.ON k) then
    pendD4 (106 + k) 0 k (setAct (106 + k) true (s.put (NET_STAT.STATE k) 1))
  else s

/-- A controller is error active again. -/
def errorActive (k : Nat) (s : State) : State :=
  if s.canState k = 1 then setAct (106 + k) false (s.put (NET_STAT.STATE k) 0) else s

/-- Error counters and last error of controller `k`, as the bus gives them. -/
def canCounters (k : Nat) (e : CanErr) (s : State) : State :=
  if s.canState k = 3 then s
  else ((s.put (NET_STAT.TEC k) e.txe.val).put (NET_STAT.REC k) e.rxe.val).put (NET_STAT.LEC k) e.lec.val

end Sys2Proof.Machine
end

