-- ==== Sys2Proof/Machine/SpmOps.lean ====
section
/-!
DEFINITION. Machine/SpmOps.lean: the memory port (R354 to R360): the XIP window and its read-ahead lines, the command FIFO and
the SFDP probe.
-/

namespace Sys2Proof.Machine

/-- Changes the memory port. -/
def State.modSpm (s : State) (f : Spm → Spm) : State := { s with spm := f s.spm }

/-- Whether a FIFO transaction or probe is in progress. -/
def State.spmBusy (s : State) : Bool := s.spm.run.isSome

/-- Whether the window is locked, R359. -/
def State.spmLocked (s : State) : Bool :=
  match s.spm.run with
  | some r => r.locks
  | none => false

/-- SPM_STAT as it stands. -/
def State.spmStat (s : State) : Word :=
  let w := s.rd SPM_STAT &&& 0x78
  let w := wordPut (wordPut w 31 24 s.spm.rx.length) 23 16 s.spm.tx.length
  wordPut (wordPut w 2 2 (b2n s.spmLocked)) 1 1 (b2n s.spmBusy)

/-- The flash address of a window address, R355. -/
def State.flashAddr (s : State) (w : Nat) : Nat := s.get SPM_XOFS.OFS * 65536 + (w - 0x800000)

/-- Whether the window can be read at flash address `f`, R355. -/
def State.windowOpen (s : State) (f : Nat) : Bool :=
  s.on SPM_CFG.XEN && !s.spmLocked
    && !(s.on SPM_SFDP.VALID && decide (2 ^ s.get SPM_SFDP.SIZE ≤ f))
    && (s.on SPM_CFG.ADDR4 || decide (f ≤ 0xFFFFFF))

/-- Invalidates the read-ahead lines. -/
def spmInvalidate (s : State) : State := s.modSpm fun p => { p with lines := [] }

/-- SPM_CFG, SPM_CLK and SPM_XOFS land when no fetch or transaction is in progress, R360; a landed change invalidates the
lines, R356. -/
def spmLand (s : State) : State :=
  if s.spmBusy || !s.spm.fetches.isEmpty then s
  else
    let old := (s.rd SPM_CFG, s.rd SPM_CLK, s.rd SPM_XOFS)
    let s := landClass .memIdle (fun addr => addr = SPM_CFG || addr = SPM_CLK || addr = SPM_XOFS) s
    if old = (s.rd SPM_CFG, s.rd SPM_CLK, s.rd SPM_XOFS) then s else spmInvalidate s

/-- The word of a line at flash address `f`. -/
def XipLine.word (l : XipLine) (f : Nat) : Word := l.words.getD (f / 4 % 16) 0

/-- What a read of the window at flash address `f` answers: the word, or the byte or half word there, right-aligned. That a word's
first byte is its lowest is a DESIGN CHOICE (log entry 57): R70 does not say where a part stands. -/
def XipLine.part (l : XipLine) (size : AccessSize) (f : Nat) : Word :=
  let w := l.word f >>> (8 * (f % 4))
  match size with
  | .word => l.word f
  | .half => w &&& 0xFFFF
  | .byte => w &&& 0xFF

/-- Puts a line in front, as the most recently used of at most four. -/
def useLine (x : XipLine) (l : List XipLine) : List XipLine := (x :: l.filter fun y => y.line ≠ x.line).take 4

/-- Queues a demand fetch, unless the line is being fetched or demanded: it takes the place of a background fetch that has not started,
of its own line or another; others keep their order, R356. -/
def queueFetch (line : Nat) (l : List (Nat × Bool)) : List (Nat × Bool) :=
  match l with
  | [] => [(line, false)]
  | x :: rest =>
    if x.1 = line || rest.any (· = (line, false)) then l else x :: (rest.filter fun y => !y.2) ++ [(line, false)]

/-- A read of the window by master `m`, R355 and R356: served from a line, waiting for a fetch, or refused. -/
def xipRead (m : Master) (size : AccessSize) (w : Nat) (fail : State → State) (s : State) : State :=
  let f := s.flashAddr w
  if !s.windowOpen f then fail (pendD4 113 0 0 s)
  else
    let line := f / 64
    match s.spm.lines.find? fun x => x.line = line with
    | some x => (s.modSpm fun p => { p with lines := useLine x p.lines }).answer m (.data (x.part size f))
    | none =>
      let next : Bool := s.spm.lastMiss = some (line - 1) && line ≠ 0
      let s := s.modSpm fun p =>
        let q := queueFetch line p.fetches
        { p with
          fetches := if next && !(q.any fun x => x.1 = line + 1) then q ++ [(line + 1, true)] else q
          lastMiss := some line
          waits := p.waits ++ [(m, f, size)] }
      s.answer m .waiting

/-- LINE_FETCH_COMPLETE: the fetch in progress delivers sixteen words; reads waiting for the line are served. A fetch does not
complete while a transaction occupies the port. -/
def fetchComplete (words : List Word) (s : State) : State :=
  match s.spm.fetches with
  | [] => s
  | (line, _) :: rest =>
    if s.spmBusy then s
    else
      let x : XipLine := ⟨line, words.take 16⟩
      let mine := s.spm.waits.filter fun p => p.2.1 / 64 = line
      let s := s.modSpm fun p =>
        { p with
          lines := useLine x p.lines
          fetches := rest
          waits := p.waits.filter fun q => q.2.1 / 64 ≠ line }
      let s := mine.foldl (fun s p => s.answer p.1 (.data (x.part p.2.2 p.2.1))) s
      spmLand s

/-- Whether a write to a memory port word is refused, R360; `w` is the word the register would hold with its WO bits. -/
def spmRefuses (l : Loc) (w : Word) (s : State) : Bool :=
  match l.defn.reg with
  | .SPM_CMD =>
    let len := wordField w 16 8
    s.spmBusy || (wordField w 31 31 = 1
      && (decide (256 < len) || wordField w 25 24 = 3 || wordField w 27 26 = 3
        || (if wordField w 28 28 = 1 then decide (4 * s.spm.tx.length < len)
            else decide (4 * (64 - s.spm.rx.length) < len))))
  | .SPM_ADDR => s.spmBusy
  | .SPM_CTL => s.spmBusy
  | .SPM_TXFIFO => decide (64 ≤ s.spm.tx.length)
  | _ => false

/-- SPM_CMD with GO = 1 starts a transaction, R359; a transmitted word leaves the FIFO as it is sent. -/
def spmGo (w : Word) (s : State) : State :=
  let send : Bool := wordField w 28 28 = 1
  let locks : Bool := wordField w 29 29 = 1 || send
  s.modSpm fun p =>
    { p with
      run := some ⟨false, w, locks, wordField w 30 30 = 0, false⟩
      tx := if send then p.tx.drop (ceilDiv (wordField w 16 8) 4) else p.tx }

/-- SPM_CTL.PROBE starts a probe, which locks the window. -/
def spmProbe (s : State) : State := s.modSpm fun p => { p with run := some ⟨true, 0, true, true, false⟩ }

/-- What a write to a memory port register does: `w` is the stored word with the WO bits written. -/
def spmWritten (l : Loc) (w : Word) (s : State) : State :=
  match l.defn.reg with
  | .SPM_CMD => if wordField w 31 31 = 1 then spmGo w s else s
  | .SPM_TXFIFO => s.modSpm fun p => { p with tx := (p.tx ++ [w]).take 64 }
  | .SPM_CTL =>
    let s := if wordField w 0 0 = 1 then s.modSpm fun p => { p with tx := [], rx := [] } else s
    let s := if wordField w 1 1 = 1 then spmInvalidate s else s
    if wordField w 2 2 = 1 then spmProbe s else s
  | .SPM_CFG => spmLand s
  | .SPM_CLK => spmLand s
  | .SPM_XOFS => spmLand s
  | _ => s

/-- The word a read of SPM_RXFIFO returns, and the pop, R360. -/
def rxPop (s : State) : Word × State :=
  match s.spm.rx with
  | [] => (0, s.put SPM_STAT.RXUNDER 1)
  | w :: rest => (w, s.modSpm fun p => { p with rx := rest })

/-- The words a transaction received go to SPM_RXFIFO, once. -/
def takeRx (r : SpmRun) (rx : List Word) (s : State) : State :=
  if wordField r.cmd 28 28 = 1 || r.got then s
  else s.modSpm fun p => { p with rx := (p.rx ++ rx.take (ceilDiv (wordField r.cmd 16 8) 4)).take 64 }

/-- SPM_STATUS_POLL: the flash's status byte, R359. The data phase is over by the first poll, with the words `rx`. -/
def statusPoll (st : Nat) (rx : List Word) (s : State) : State :=
  match s.spm.run with
  | none => s
  | some r =>
    if r.probe || wordField r.cmd 30 30 = 0 then s
    else (takeRx r rx s).modSpm fun p => { p with run := some { r with waitOk := !natBit st 0, got := true } }

/-- Ends the run in progress. -/
def spmEnd (s : State) : State :=
  match s.spm.run with
  | none => s
  | some r =>
    let s := (s.modSpm fun p => { p with run := none }).put SPM_STAT.DONE 1
    let s := if !r.probe && r.locks then spmInvalidate s else s
    spmLand s

/-- What a probe uses of the basic flash parameter table, R358: the density as log2 of bytes, the quad-enable requirement, whether the
device takes 4-byte addresses alone, and opcode and dummy clocks of the 1-4-4 and 1-1-4 fast reads it supports. -/
structure Sfdp where
  size  : Nat
  qer   : Nat
  only4 : Bool
  q144  : Option (Nat × Nat)
  q114  : Option (Nat × Nat)
deriving DecidableEq, Repr

/-- The basic flash parameter table in the DWORDs of the SFDP: signature, and the first of the parameter headers with ID 0xFF00; none
where the signature is missing or the table was not read whole. The headers' layout is JESD216's (PRESUMED, log entry 67). -/
def basicTable (d : List Word) : Option (List Word) :=
  let w (i : Nat) : Word := d.getD i 0
  if w 0 ≠ 0x50444653 then none
  else match (List.range (wordField (w 1) 23 16 + 1)).find? fun i =>
      wordField (w (2 + 2 * i)) 7 0 = 0 && wordField (w (3 + 2 * i)) 31 24 = 0xFF with
    | none => none
    | some i =>
      let n := wordField (w (2 + 2 * i)) 31 24
      let t := (d.drop (wordField (w (3 + 2 * i)) 23 0 / 4)).take n
      if n < 4 || t.length ≠ n then none else some t

/-- A fast read as half of DWORD 3 describes it: opcode, and wait states with mode clocks; none for opcode 0 (PRESUMED from JESD216, log
entry 67). -/
def fastRead (h : Nat) : Option (Nat × Nat) :=
  if h / 256 = 0 then none else some (h / 256, min 15 (h % 32 + h / 32 % 8))

/-- What the table says, R358. Its fields stand as in JESD216 (PRESUMED, log entry 67). -/
def Sfdp.decode (t : List Word) : Sfdp :=
  let w (i : Nat) : Word := t.getD (i - 1) 0
  let n := wordField (w 2) 30 0
  { size := (if wordField (w 2) 31 31 = 1 then n else Nat.log2 (n + 1)) - 3
    qer := if 15 ≤ t.length then wordField (w 15) 22 20 else 0
    only4 := wordField (w 1) 18 17 = 2
    q144 := fastRead (wordField (w 3) 15 0)
    q114 := fastRead (wordField (w 3) 31 16) }

/-- Sets what a probe found, R358. -/
def probeDone (x : Sfdp) (s : State) : State :=
  let (mode, opc, dum) : Nat × Nat × Nat :=
    match x.q144, x.q114 with
    | some (o, d), _ => (2, o, d)
    | none, some (o, d) => (1, o, d)
    | none, none => (0, 0x0B, 8)
  let s := s.setStaged SPM_CFG ⟨(s.stagedAt SPM_CFG).value, (s.stagedAt SPM_CFG).mask &&& 0xF0001FFF⟩
  let s := (((s.put SPM_CFG.RDCMD opc).put SPM_CFG.RDMODE mode).put SPM_CFG.DUMMY dum).putB SPM_CFG.ADDR4 x.only4
  ((s.put SPM_SFDP.VALID 1).put SPM_SFDP.SIZE x.size).put SPM_SFDP.QER x.qer

/-- A probe ends with the DWORDs it read, R358; a change of SPM_CFG invalidates the lines, R356. -/
def probeEnd (found : Option (List Word)) (s : State) : State :=
  match found.bind basicTable with
  | none => s.put SPM_STAT.PERR 1
  | some t =>
    let old := s.rd SPM_CFG
    let s := probeDone (Sfdp.decode t) s
    if s.rd SPM_CFG = old then s else spmInvalidate s

/-- SPM_TRANSACTION_END: a transaction ends, with the words it received, or a probe, with what it read. A transaction with
WAIT = 1 ends once the status has been satisfied. -/
def transactionEnd (rx : List Word) (found : Option (List Word)) (s : State) : State :=
  match s.spm.run with
  | none => s
  | some r =>
    if r.probe then spmEnd (probeEnd found s)
    else if !r.waitOk then s
    else spmEnd (takeRx r rx s)

/-- SPM_WAIT_TIMEOUT, R359: the words of the data phase stay received. -/
def waitTimeout (s : State) : State :=
  match s.spm.run with
  | none => s
  | some r =>
    if r.probe || r.waitOk then s
    else spmEnd (pendD4 113 0 0 (s.put SPM_STAT.TOUT 1))

/-- Whether a LOADX image of `words` words at PL_XADDR is wholly inside the window, R357. -/
def State.loadxInside (s : State) (words : Nat) : Bool :=
  let f := (s.rd PL_XADDR).toNat
  let base := s.get SPM_XOFS.OFS * 65536
  decide (base ≤ f) && decide (f + 4 * words - 1 - base < 0x800000)

/-- The flash address of the first word of a LOADX image, all inside the window, whose read fails under R355. -/
def State.loadxStop (s : State) (words : Nat) : Option Nat :=
  if s.loadxInside words then
    ((List.range words).map fun i => (s.rd PL_XADDR).toNat + 4 * i).find? fun f => !s.windowOpen f
  else none

/-- Whether the XIP fetcher can read a LOADX image of `words` words at PL_XADDR, R357. -/
def State.loadxReach (s : State) (words : Nat) : Bool := s.loadxInside words && (s.loadxStop words).isNone

/-- The reads of a LOADX by the XIP fetcher: one that fails ends in REFUSED, and event 113 pends, R355. -/
def loadxReads (words : Nat) (s : State) : State :=
  match s.loadxStop words with
  | none => s
  | some f => recordErr .xip (0x800000 + (f - s.get SPM_XOFS.OFS * 65536)) .refused (pendD4 113 0 0 s)

end Sys2Proof.Machine
end

