-- ==== Sys2Proof/Machine/PowerOps.lean ====
section
/-!
DEFINITION. Machine/PowerOps.lean: power domains (R50 to R53), run states (R54 to R59), reset (R65 to R68, R369), the store (R81)
and the RTC (R64).
-/

namespace Sys2Proof.Machine

/-- Changes what NVM holds. -/
def State.modNvm (s : State) (f : Nvm → Nvm) : State := { s with nvm := f s.nvm }

/-- Sets or clears bit `b` of a field. -/
def State.putBitOf (s : State) (f : Fld) (b : Nat) (v : Bool) : State := s.put f (natPutBit (s.get f) b v)

/-- FAULT_N is driven low, R305; in NAP and HIBERNATE it holds its level, R35. A device safe state asked for at a wake asserts it at
the wake, R293. -/
def State.faultNLow (s : State) : Bool :=
  s.power.inReset || if s.fabricOn then s.trio.safeIn || (s.trio.safe && s.power.unticked) || s.faultEvent else s.power.heldFault

/-! ### Coach domains, R50 to R52, R130 -/

/-- Coach `c` loses its domain: legs and coils go off, and what the coach held is lost. Its comparators live on (R116), the pump
that has not returned above 8.0 V stays noted (R131), and every OVR is 0 (R113). -/
def coachLost (c : Nat) (s : State) : State :=
  let q := (s.coach c).cfgq
  let s := { s with
    legs := s.legs.filter fun x => x.1 / 128 ≠ c
    coils := s.coils.filter fun x => x.1 / 64 ≠ c }
  let s := s.modCoach c fun k =>
    { ({} : Coach) with uvf := k.uvf, uvw := k.uvw, ovf := k.ovf, ovw := k.ovw, cpuv := k.cpuv, badWords := k.badWords }
  let s := forEach (coachLegs c) (fun l s => s.put (LEG_TEST.OVR l) 0) s
  let s := (s.put (CO_LINKSTAT.UP c) 0).put (CO_LINKSTAT.SAFEACT c) 0
  let s := s.putBitOf GCTL_PWRSTAT.COACHON c false
  let s := setAct (20 + c) false (forEach (coachRanks c) (fun r s => s.put (RK_FLTSTAT.WARN r) 0) s)
  endExchanges q s

/-- The coupling goes down with a cause and the domain goes off, step 5 of R52. -/
def coachDown (c cause : Nat) (s : State) : State :=
  coachLost c (if (s.coach c).powering || s.coachOn c then s.put (CO_LINKSTAT.LOSSCAUSE c) cause else s)

/-- Status fields of a coach register, which start anew with the domain; the fault manager's records are on the hub. -/
def coachStatus (addr : Nat) (w : Word) : Word :=
  match locate addr with
  | none => w
  | some l =>
    match l.defn.reg with
    | .RK_FLTSTAT | .CO_FLTSTAT | .RK_TRIPMAP | .CO_VM => w
    | _ =>
      let m := l.defn.maskOf fun f => f.ty = .ro || f.ty = .w1c
      (w &&& ~~~ m) ||| (resetWord addr &&& m)

/-- Step 4 of R50: the registers of coach `c` are loaded from the hub's shadow, and legs start at DRVINIT (R104); the charge pumps
run (R101). Staged words wait for their own boundary, R79. -/
def coachReload (c : Nat) (s : State) : State :=
  let mine (addr : Nat) : Bool := coachOf addr = some c
  let s := forEach ((s.regs.map (·.1)).filter mine) (fun addr s => s.wr addr (coachStatus addr (s.rd addr))) s
  let s := forEach (coachLegs c) (fun l s => s.put (LEG_STAT.DRVCODE l) (s.get (LEG_CFG.DRVINIT l))) s
  let s := forEach (coachRanks c) (fun r s =>
    let s := (s.put (RK_STAT.APPLIED0 r) (s.get (RK_MODE.MODE0 r))).put (RK_STAT.APPLIED1 r) (s.get (RK_MODE.MODE1 r))
    showPresent r (forEach (rankLegs r) showFollower (s.put (RK_STAT.CPRUN r) 1))) s
  forEach (coachAxes c) updAlert s

/-- COACH[c] changed from 0 to 1, R50: the side's VM is checked, then the power-up begins: pumps run, training starts, and
periods are counted on the grid of R133. -/
def coachPowerUp (c : Nat) (s : State) : State :=
  let s := s.putBitOf GCTL_PWRSTAT.ONFAIL c false
  if s.sideUvf (coachSide c) then
    (s.putBitOf GCTL_PWRSTAT.ONFAIL c true).putBitOf GCTL_PWRDOM.COACH c false
  else if s.coachLive c then s
  else
    let s := forEach (coachRanks c) (fun r s => s.put (RK_STAT.CPRUN r) 1) s
    s.modCoach c fun k =>
      { k with powering := true, training := true, awaits := true, tStart := s.clock, perLen := periodLength (s.get (CO_PWMPER.PER c)) s.clock false }

/-- COACH_ON_COMPLETE, R50 steps 4 and 5. -/
def coachOnDone (c : Nat) (s : State) : State :=
  if (s.coach c).powering && s.on (CO_LINKSTAT.UP c) then
    (coachReload c (s.modCoach c fun k => { k with powering := false })).putBitOf GCTL_PWRSTAT.COACHON c true
  else s

/-- COACH_ON_TIMEOUT, R50: training has not succeeded. -/
def coachOnFail (c : Nat) (s : State) : State :=
  if (s.coach c).powering && !s.on (CO_LINKSTAT.UP c) then
    ((coachDown c 3 s).putBitOf GCTL_PWRSTAT.ONFAIL c true).putBitOf GCTL_PWRDOM.COACH c false
  else s

/-- Any slot of coach `c` has work, as defined above R51. -/
def State.coachWork (s : State) (c : Nat) : Bool := (coachAxes c).any s.hasWork

/-- A forced power-down of coach `c` is in progress. -/
def State.pendOff (s : State) (c : Nat) : Bool := natBit (s.get GCTL_PWRSTAT.PENDOFF) c

/-- A power-down of coach `c`, forced or not, has been ordered and has not ended. -/
def State.goingOff (s : State) (c : Nat) : Bool := s.pendOff c || (s.coach c).offWait

/-- Steps 3 to 5 of R52 at a PWM period start of coach `c`, or at once for a coach that has no periods yet. COACH[c] written 1 again while
a power-down waits is not followed: the bit is cleared here (DEDUCED, log entry 21). -/
def coachOffNow (c : Nat) (s : State) : State :=
  let s := forEach (coachAxes c) (fun a s =>
    let s := s.modMo a fun m => { m with enPend := false }
    if s.enabled a then disableNow a s else s) s
  let s := coachDown c 4 s
  (s.putBitOf GCTL_PWRSTAT.PENDOFF c false).putBitOf GCTL_PWRDOM.COACH c false

/-- COACH[c] written 0: without work the power-down goes on to step 3 at once. -/
def coachOffReq (c : Nat) (s : State) : State :=
  if s.coachOn c then s.modCoach c fun k => { k with offWait := true } else coachOffNow c s

/-- A slot counts as at standstill for R52: also when disabled, halted or in a fault state (R126). -/
def State.quiet (s : State) (a : Nat) : Bool :=
  !s.enabled a || s.on (AX_STAT.HALTED a) || s.on (AX_FLTSTAT.STATE a) || s.atStandstill a

/-- A slot that is to be parked: enabled, not halted and not in a fault state. -/
def State.parkable (s : State) (a : Nat) : Bool :=
  s.enabled a && !s.on (AX_STAT.HALTED a) && !s.on (AX_FLTSTAT.STATE a) && !s.absent a

/-- COACH[c] written 0 with FORCE[c] = 1: step 1 of R52. -/
def coachForce (c : Nat) (s : State) : State :=
  if s.coachOn c then
    let s := s.putBitOf GCTL_PWRSTAT.PENDOFF c true
    forEach (coachAxes c) (fun a s =>
      let s := planCause a 3 s
      if s.inMotion a then s.modMo a fun m => { m with orderQ := true } else s) s
  else coachOffNow c s

/-- A forced power-down of coach `c` at a tick: slots at standstill are parked, and then the legs are to go off. -/
def forcedTick (c : Nat) (s : State) : State :=
  if !s.pendOff c || (s.coach c).offWait then s
  else if !(s.coach c).offParked then
    if (coachAxes c).all s.quiet then
      let s := forEach ((coachAxes c).filter s.parkable) (fun a s => s.modMo a fun m => { m with forcePark := true }) s
      s.modCoach c fun k => { k with offParked := true }
    else s
  else if ((coachAxes c).filter s.parkable).all fun a => s.get (AX_SSTAT.STATE a) = 6 then
    s.modCoach c fun k => { k with offWait := true }
  else s

/-- FORCED_OFF_TIMEOUT: the slots that are not at standstill are halted, R52. -/
def forcedTimeout (c : Nat) (s : State) : State :=
  if s.pendOff c then
    forEach (coachAxes c) (fun a s => if s.quiet a then s else s.modMo a fun m => { m with orderH := true }) s
  else s

/-- VM of coach `c` falls below 6.0 V, R130: VM_UV is declared first, then the domain drops with its coupling. -/
def vmBelow6 (c : Nat) (s : State) : State :=
  let s := vmChange c (fun k => { k with uvf := true, uvw := true }) s
  -- an axis enabled while the side was in the condition already is faulted by it too
  let s := faultAll (coachAxes c) 11 0 s
  if s.coachLive c then
    let s := if s.on (CO_LINKSTAT.UP c) then couplingLost c 1 s else s
    (((coachDown c 1 s).putBitOf GCTL_PWRDOM.COACH c false).putBitOf GCTL_PWRSTAT.PENDOFF c false)
  else s

/-! ### The front end, R53 -/

/-- D5 goes off. -/
def afeGoOff (s : State) : State := if s.afeOn then (afeLost s).put GCTL_PWRSTAT.AFEON 0 else s

/-- D5 comes on. -/
def afeGoOn (s : State) : State := s.put GCTL_PWRSTAT.AFEON 1

/-! ### Run states, R54 to R59 -/

/-- Present wake sources that are armed for entry of run state `lvl`, R55: bits as WAKESRC. -/
def State.armed (s : State) (lvl b : Nat) : Bool :=
  match b with
  | 0 => s.on GCTL_RUNCTL.WCAN0
  | 1 => s.on GCTL_RUNCTL.WCAN1
  | 2 => s.on GCTL_RUNCTL.WENC && lvl = 2
  | 3 => s.on GCTL_RUNCTL.WSTEP && lvl = 2
  | 4 => s.on GCTL_RUNCTL.WPIN
  | 5 => s.on GCTL_RUNCTL.WRTC
  | 6 => s.on GCTL_RUNCTL.WTAMPER && lvl = 3
  | _ => false

/-- Why a request for run state `lvl` is refused, R55; 0 if it is not. -/
def State.refuseCode (s : State) (lvl : Nat) : Nat :=
  if s.power.entering ≠ 0 then 5
  else if (List.range 128).any s.hasWork then 1
  else if s.planActive then 2
  else if s.nvm.cmd ≠ 0 then 3
  else if 2 ≤ lvl && (List.range 8).any fun b => natBit s.power.wakeAct b && s.armed lvl b then 4
  else 0

/-- Steps 6 to 8 of R56. -/
def hibernateNow (s : State) : State :=
  let pos := ((List.range 128).map fun a => (a, s.posOf a)).filter fun x => x.2 ≠ 0
  let s := { s.modPower fun p => { p with hibPos := pos, entering := 0 } with logQ := [] }
  (s.put GCTL_RUNSTAT.STATE 3).put GCTL_CLKSTAT.REFOK 0

/-- Coaches whose domain GCTL_PWRDOM requests. -/
def State.coachAsked (s : State) (c : Nat) : Bool := natBit (s.get GCTL_PWRDOM.COACH) c

/-- Steps 2 to 5 of R56, and for HIBERNATE the rest. A power-down that was under way ends here with steps 3 to 5 of R52, and its coach
does not come back. In NAP the compare outputs are inactive, R35. -/
def sleepNow (lvl : Nat) (s : State) : State :=
  let low := s.faultNLow
  let on := (List.range 4).foldl (fun n c => natPutBit n c (s.coachLive c && s.coachAsked c && !s.goingOff c)) 0
  let s := s.modPower fun p => { p with heldFault := low, napCoach := on, entering := 0 }
  let s := forEach ((List.range 4).filter s.coachLive) (fun c s => if s.goingOff c then coachOffNow c s else coachDown c 4 s) s
  let s := afeGoOff s
  let s := forEach (List.range 8) (fun n s => s.put (CMP_STAT.OUT n) 0) s
  let s := saveTrio s
  let s := ((s.put TRIO_STAT.STATE 5).put GCTL_CLKSTAT.LOCK 0).put GCTL_RUNSTAT.STATE 2
  let s := { s with syncOut := false }
  if lvl = 3 then hibernateNow s else s

/-- Powered slots are parked for a NAP or HIBERNATE entry, R56 step 1: at its request, and those that come to be powered while it
waits. -/
def sleepParks (s : State) : State :=
  let l := ((List.range 128).filter s.parkable).filter fun a =>
    !((s.mo a).forcePark || s.get (AX_SSTAT.STATE a) = 2 || s.get (AX_SSTAT.STATE a) = 5 || s.get (AX_SSTAT.STATE a) = 6)
  let s := s.modPower fun p => { p with napParked := p.napParked ++ l }
  forEach l (fun a s => s.modMo a fun m => { m with forcePark := true }) s

/-- A NAP or HIBERNATE entry goes on once every slot is unpowered, R56 step 1. -/
def sleepStep (s : State) : State :=
  if s.power.entering = 0 then s
  else
    let s := sleepParks s
    if ((List.range 128).filter s.parkable).all (fun a => s.get (AX_SSTAT.STATE a) = 2 || s.get (AX_SSTAT.STATE a) = 6) then
      sleepNow s.power.entering s
    else s

/-- An accepted request for NAP or HIBERNATE. -/
def sleepBegin (lvl : Nat) (s : State) : State := sleepStep (s.modPower fun p => { p with entering := lvl, napParked := [] })

/-- A wake is recorded: WAKESRC names the cause of the last wake, R54. -/
def noteWake (b : Nat) (s : State) : State := s.put GCTL_RUNSTAT.WAKESRC (2 ^ b)

/-- DOZE ends: the fast clocks run, and the trio watchdog restarts, R57 and R362. -/
def dozeEnd (s : State) : State :=
  if s.runState = 1 then restartWatchdog (s.put GCTL_RUNSTAT.STATE 0) else s

/-- The worse of two findings of a save, R293. -/
def worseSave (x y : SaveCheck) : SaveCheck :=
  if x = .three || y = .three then .three else if x = .pair || y = .pair then .pair else .agreed

/-- The trio goes on in the state it left, R293: the running copies take the saved state, and a scrub comes before the first instruction.
A safe state the MGS asked for in NAP stays. -/
def wakeTrio (chk : SaveCheck) (s : State) : State :=
  let s := if s.trioState = 4 then s else s.put TRIO_STAT.STATE s.trio.asleep
  let s := if s.trioState = 4 then s
    else (loadCopies s).modTrio fun t => { t with scrub := true, wake := true }
  match worseSave chk s.trio.saveChk with
  | .agreed => s
  | .pair => enterSafe 1 s
  | .three => enterSafe 2 s

/-- The D4 causes of NAP pend at the wake, R308. -/
def pendHeld (s : State) : State :=
  let l := s.power.napPend
  let s := s.modPower fun p => { p with napPend := [] }
  l.foldl (fun s x => pend x.1 x.2.1 x.2.2 s) s

/-- NAP ends, R58 and R293; `chk` is what the save of the trio found beyond what the copies hold. -/
def napEnd (b : Nat) (chk : SaveCheck) (s : State) : State :=
  if s.runState ≠ 2 then s
  else
    let s := ((noteWake b s).put GCTL_RUNSTAT.STATE 0).put GCTL_CLKSTAT.LOCK 1
    let s := if s.on GCTL_PWRDOM.AFE then afeGoOn s else s
    let s := pendHeld (restartWatchdog ((wakeTrio chk s).put EV_PIN.HALTN 1))
    let s := forEach s.power.napParked (fun a s => s.modMo a fun m => { m with forcePark := false }) s
    let on := s.power.napCoach
    let s := s.modPower fun p => { p with napParked := [], napCoach := 0, unticked := true }
    forEach ((List.range 4).filter fun c => natBit on c) coachPowerUp s

/-- A request written to GCTL_RUNCTL.REQ, R54 and R55. -/
def runRequest (r : Nat) (s : State) : State :=
  let st := s.runState
  if 3 < r then s
  else if s.power.entering ≠ 0 then s.put GCTL_RUNSTAT.REFUSE 5
  else
    let s := s.put GCTL_RUNSTAT.REFUSE 0
    if r = 0 then (if st = 1 then dozeEnd (noteWake 7 s) else if st = 2 then napEnd 7 .agreed s else s)
    else if r ≤ st then s
    else
      let code := s.refuseCode r
      if code ≠ 0 then s.put GCTL_RUNSTAT.REFUSE code
      else if r = 1 then s.put GCTL_RUNSTAT.STATE 1
      else if st = 2 then hibernateNow s
      else sleepBegin r s

/-- AUTODOZE_ENTRY, R55. -/
def autodoze (s : State) : State :=
  if s.on GCTL_RUNCTL.AUTODOZE && s.fabricOn && s.runState = 0 && s.refuseCode 1 = 0 then s.put GCTL_RUNSTAT.STATE 1 else s

/-- Bits of WAKESRC, R57. -/
def wakeBit : WakeSource → Nat
  | .can0 => 0 | .can1 => 1 | .encoder => 2 | .step => 3 | .pin => 4 | .rtc => 5 | .tamper => 6 | .host => 7

/-- Whether a source wakes from NAP or HIBERNATE: armed, a host request in NAP, or a latched key erase, R57 and R379. -/
def State.wakesFrom (s : State) (lvl : Nat) (w : WakeSource) : Bool :=
  s.armed lvl (wakeBit w) || (w = .host && lvl = 2) || (w = .tamper && s.mgs.erase.isSome)

/-! ### Reset, R65 to R68 -/

/-- Registers kept in D0 or in the MRAM through every reset but a power-on: the RTC, causes, wake cause, alarm record; and
GCTL_CLKSTAT, of which R68 does not say whether T32FAIL and T32SRC are kept (DESIGN CHOICE, log entry 59). -/
def keptD0 (addr : Nat) : Bool :=
  addr = GCTL_RTC_LO || addr = GCTL_RTC_HI || addr = GCTL_RSTCAUSE || addr = GCTL_CLKSTAT || addr = GCTL_RUNSTAT || addr = MGS_ALSTAT

/-- Registers kept in the MRAM. -/
def keptNvm (addr : Nat) : Bool :=
  addr = GCTL_STORESTAT || addr = MGS_LOGRPTR || addr = MGS_PROV || addr = MGS_THCFG || addr = MGS_WDCFG
    || addr = MGS_LOGCFG || addr = MGS_ALCFG || addr = MGS_AUSTAT || addr = MGS_UPDSTAT

/-- What the management subsystem keeps through a reset: log, slots, keys, the erase latch. -/
def Mgs.kept (m : Mgs) (por : Bool) : Mgs :=
  { part := m.part, log := m.log, nextSeq := m.nextSeq, slotA := m.slotA, slotB := m.slotB, ident := m.ident, identKey := m.identKey,
    cert := m.cert, ak := m.ak, erase := if por then none else m.erase, lockErase := m.lockErase, ms := m.ms,
    fails := if por then [] else m.fails }

/-- The device enters reset with a cause (bit of GCTL_RSTCAUSE): everything in its scope takes its reset state, and every leg
is off, R65 and R66. `lost` says that the reference is lost. What a store or an authentication left in W1C fields goes, and with a
power-on the counts since power-on. The 25 MHz reference goes on running through a reset, R35, unless it is lost; a wake from
HIBERNATE keeps the wake enables alone of GCTL_RUNCTL. The hibernate record is kept only for a wake's own reset: a reset that follows it, as the MGS
reset of a trial image that does not boot, drops it (DESIGN CHOICE, log entry 59). -/
def enterReset (cause : Nat) (lost : Bool) (s : State) : State :=
  let por : Bool := cause = 0
  let hib : Bool := cause = 7
  let keep (addr : Nat) : Bool :=
    keptNvm addr || (!por && keptD0 addr) || (hib && addr = GCTL_RUNCTL)
  let causes := if por then 1 else natPutBit (s.rd GCTL_RSTCAUSE).toNat cause true
  let coach (k : Coach) : Coach := { uvf := k.uvf, uvw := k.uvw, ovf := k.ovf, ovw := k.ovw }
  let s' : State :=
    { regs := s.regs.filter fun x => keep x.1
      free := s.free, pending := s.pending, recipes := s.recipes, rbcnt := s.rbcnt
      nvm := { settings := s.nvm.settings, waves := s.nvm.waves }
      mgs := s.mgs.kept por
      logQ := if por || cause = 3 then [] else s.logQ
      power :=
        { inReset := true, refLost := lost || (s.power.refLost && s.power.inReset), rtcStage := if por then none else s.power.rtcStage
          clkFail := cause = 5 || (s.power.clkFail && !por), hibPos := if hib then s.power.hibPos else []
          rtcSet := s.power.rtcSet && !por } }
  let s' := forEach (List.range 4) (fun c t => t.modCoach c fun _ => coach (s.coach c)) s'
  let s' := s'.wr GCTL_RSTCAUSE (BitVec.ofNat 32 causes)
  let s' := (s'.put GCTL_RUNSTAT.STATE 0).put GCTL_RUNSTAT.REFUSE 0
  let s' := applyIf por (fun t => (t.put MGS_WDCFG.EXPCNT 0).put MGS_AUSTAT.FAILCNT 0) s'
  let s' := ((s'.put GCTL_STORESTAT.DONE 0).put GCTL_STORESTAT.FAIL 0).put MGS_UPDSTAT.ERR 0
  let s' := (s'.put GCTL_STORESTAT.BUSY 0).wr MGS_ALSTAT (s'.rd MGS_ALSTAT &&& 0xFFFF0000)
  let s' := s'.put GCTL_RUNCTL.AUTODOZE 0
  applyIf lost (·.put GCTL_CLKSTAT.REFOK 0) (s'.put GCTL_CLKSTAT.LOCK 0)

/-- The slot whose state is ACTIVE. -/
def State.activeSlot (s : State) : Option Bool :=
  if s.mgs.slotA.state = 4 then some false else if s.mgs.slotB.state = 4 then some true else none

/-- Notes which slots were read from NVM without error. -/
def noteRead (readOk : Bool × Bool) (s : State) : State :=
  modSlot true (fun x => { x with flawed := !readOk.2 }) (modSlot false (fun x => { x with flawed := !readOk.1 }) s)

/-- Whether the image of a slot verifies at boot, R366. -/
def State.bootOk (s : State) (b : Bool) : Bool := s.holdsValid (s.mgs.slot b)

/-- The slot R369 boots first. -/
def bootChoice (s : State) : Option Bool × State :=
  let trial (b : Bool) : Bool := (s.mgs.slot b).state = 5 || (s.mgs.slot b).state = 6
  if trial false || trial true then
    let b := !trial false
    let n := s.get MGS_UPDSTAT.TRIES
    if n = 3 then
      let s := logMgs 0x0111 (BitVec.ofNat 32 (b2n b + 256 * n)) 0 0 (slotTo b 7 s)
      (s.activeSlot, s)
    else (some b, slotTo b 6 (s.put MGS_UPDSTAT.TRIES (n + 1)))
  else (s.activeSlot, s)

/-- The entry of a reset, R363: causes in byte 0, the slot booted in byte 1, its version in bytes 2 to 5. -/
def logReset (b : Bool) (s : State) : State :=
  let v := (s.mgs.slot b).version.toNat
  let d := (s.rd GCTL_RSTCAUSE).toNat % 256 + 256 * b2n b + 65536 * (v % 65536)
  logMgs 0x0100 (BitVec.ofNat 32 d) (BitVec.ofNat 32 (v / 65536)) 0 s

/-- Recovery, R370: the trio is held in the safe state. -/
def recovery (s : State) : State := (enterSafe 8 s).modTrio fun t => { t with safeIn := true }

/-- RESET_SEQUENCE_START: the strap is sampled and the firmware slot is selected and verified, R67 and R369; `readOk` says which slots
were read from NVM without error. The reset's entry names the slot taken in the end; where none boots, the one tried first. -/
def resetStart (strap : Nat) (readOk : Bool × Bool) (s : State) : State :=
  if !s.power.inReset || s.power.sequence || s.power.refLost then s
  else
    let s := s.modPower fun p => { p with sequence := true, strap := strap }
    let s := noteRead readOk (s.put GCTL_CLKSTAT.REFOK 1)
    let (c, s) := bootChoice s
    match c with
    | none => recovery (logReset s.runSlot s)
    | some b =>
      let s := s.putB MGS_UPDSTAT.RUN b
      if s.bootOk b then logReset b s
      else if (s.mgs.slot b).state = 6 then enterReset 6 false (logReset b s)
      else if (s.mgs.slot (!b)).state = 2 then
        let s := logReset (!b) ((slotTo (!b) 6 (s.put MGS_UPDSTAT.TRIES 1)).putB MGS_UPDSTAT.RUN (!b))
        if s.bootOk (!b) then s else enterReset 6 false s
      else recovery (logReset b s)

/-! ### Store and restore, R81 and R158 -/

/-- Registers of another access type whose fields are RWS values too: RK_MODE (R111), CO_PROTCFG, EV_GCFG, NET_CTL. -/
def alsoRws (r : RegName) : Bool := r = .RK_MODE || r = .CO_PROTCFG || r = .EV_GCFG || r = .NET_CTL

/-- The fields of a register that are RWS values. -/
def RegDef.rwsMask (d : RegDef) : Word :=
  d.maskOf fun f => f.ty = .rws || (alsoRws d.reg && (f.ty = .rwm || f.ty = .rwg))

/-- The RWS fields as they read now; every other field is taken at its reset value. MGS words that stay in the MRAM are no
part of the set. -/
def State.takeRegs (s : State) : Sparse Word :=
  (s.regs.map (·.1) ++ s.staged.map (·.1)).foldl (fun m a =>
    match locate a with
    | none => m
    | some l =>
      let k := l.defn.rwsMask
      if k = 0 || keptNvm a then m else Sparse.set resetWord m a ((s.latest a &&& k) ||| (resetWord a &&& ~~~ k))) []

/-- The entries of wave tables 1 to 7. -/
def waveAddr (a : Nat) : Bool := decide (0x40800 ≤ a) && decide (a < 0x44000) && decide (a % 0x800 < 0x404)

/-- A store takes its values at the first tick after the command was accepted. -/
def storeTake (s : State) : State :=
  if s.nvm.due then
    s.modNvm fun n =>
      { n with
        due := false
        newSet := ⟨s.takeRegs, s.afe.store, s.net.objs⟩
        newWaves := s.regs.filter fun x => waveAddr x.1 }
  else s

/-- Whether GCTL_STORE refuses a command, R81 and R158. -/
def State.storeRefused (s : State) (cmd : Nat) : Bool :=
  s.nvm.cmd ≠ 0 || ((cmd = 2 || cmd = 3) && (List.range 8).any fun t => s.on (WAVE_CTL.LOAD t))

/-- An accepted store command. -/
def storeBegin (cmd : Nat) (s : State) : State :=
  (s.modNvm fun n => { n with cmd := cmd, due := decide (cmd < 4) }).put GCTL_STORESTAT.BUSY 1

/-- STORE_COMPLETE: the set takes force, or the store has failed and the previous set stays. DONE and FAIL of an earlier store
stay until they are written 1 (DESIGN CHOICE, log entry 57). -/
def storeEnd (ok : Bool) (s : State) : State :=
  let cmd := s.nvm.cmd
  if cmd = 0 || s.nvm.due then s
  else
    let s := s.modNvm fun n =>
      let set := if !ok then n.settings else if cmd = 1 || cmd = 3 then some n.newSet else if cmd = 4 then none else n.settings
      let wav := if !ok then n.waves else if cmd = 2 || cmd = 3 then some n.newWaves else if cmd = 4 then none else n.waves
      { settings := set, waves := wav }
    let s := s.put GCTL_STORESTAT.BUSY 0
    let s := if ok then (s.put GCTL_STORESTAT.DONE 1).inc GCTL_STORESTAT.COUNT else s.put GCTL_STORESTAT.FAIL 1
    pendSrc 119 s

/-- Restores the stored settings, R67. -/
def restore (s : State) : State :=
  let s := match s.nvm.settings with
    | none => s
    | some x =>
      let s := x.regs.foldl (fun (s : State) (p : Nat × Word) =>
        match locate p.1 with
        | none => s
        | some l =>
          let k := l.defn.rwsMask
          s.wr p.1 ((p.2 &&& k) ||| (s.rd p.1 &&& ~~~ k))) s
      (s.modAfe fun a => { a with store := x.lin }).modNet fun n => { n with objs := x.objs }
  match s.nvm.waves with
  | none => s
  | some w =>
    let s := w.foldl (fun (s : State) (p : Nat × Word) => if waveAddr p.1 then s.wr p.1 p.2 else s) s
    forEach (List.range 7) (fun t s => s.put (WAVE_STAT.STORED (t + 1)) 1) s

/-- RESET_SEQUENCE_END, R67 and R68. -/
def resetEnd (s : State) : State :=
  if !s.power.sequence then s
  else
    let pos := s.power.hibPos
    let hib : Bool := !pos.isEmpty
    let fail := s.power.clkFail
    let strap := s.power.strap
    let s := s.modPower fun p => { p with inReset := false, sequence := false, seqTime := 0, clkFail := false, hibPos := [] }
    let s := restore s
    let s := ((s.put GCTL_CLKSTAT.LOCK 1).put GCTL_PWRSTAT.AFEON 1)
    let s := applyIf fail (logMgs 0x0101 0 0 0) s
    -- a trio held in recovery is not released, and its watchdog does not start, R362
    let s := if s.trioState = 4 then s.modMgs fun m => { m with wdRun := false } else restartWatchdog s
    let s := forEach [0, 1] showSide s
    let s := forEach (List.range 16) (fun r s =>
      let s := (s.put (RK_STAT.APPLIED0 r) (s.get (RK_MODE.MODE0 r))).put (RK_STAT.APPLIED1 r) (s.get (RK_MODE.MODE1 r))
      showPresent r s) s
    let s := nodeAtReset strap s
    if hib then
      pos.foldl (fun s (x : Nat × Int) =>
        let s := (s.modMo x.1 fun m => { m with p := x.2 * 2 ^ 24 }).putPair (AX_POS_LO x.1) x.2
        snapWords [AX_POS_LO x.1, AX_POS_HI x.1] s) s
    else s

/-! ### The RTC, R64 -/

/-- RTC_WRITE_COMMIT: the next 32.768 kHz edge. -/
def rtcCommit (s : State) : State :=
  match s.power.rtcStage with
  | none => s
  | some v =>
    let s := (s.wr GCTL_RTC_LO (BitVec.ofNat 32 v)).put GCTL_RTC_HI.RTC (v / 2 ^ 32)
    s.modPower fun p => { p with rtcStage := none, rtcSet := true }

end Sys2Proof.Machine
end

