-- ==== Sys2Proof/Machine/BusOps.lean ====
section
/-!
DEFINITION. Machine/BusOps.lean: what the owning blocks say of a register write: conditions that refuse it (step 8 of R72) and
what it does once its fields are stored or staged (step 9).
-/

namespace Sys2Proof.Machine

/-! ### Start, enable and stop requests, R169 to R173 -/

/-- A start request of axis `a` is refused: ownership by the plan (R223), the device safe state (R291), or R171. -/
def State.startRefused (s : State) (a : Nat) : Bool :=
  (s.ownerEntry a).isSome || s.trio.safeIn || s.startOutcome a false = .refused

/-- A command of AX_CTL waits for the next tick. -/
def addReq (a : Nat) (r : AxReq) (s : State) : State := s.modMo a fun m => { m with reqs := m.reqs ++ [r] }

/-- A start request that is not refused: requests before one tick count as one, R171. -/
def requestStart (a : Nat) (s : State) : State :=
  let was := (s.mo a).asked
  let s := s.modMo a fun m => { m with asked := true }
  match s.startOutcome a false with
  | .ignored r => if was then s else ignoreStart a r s
  | .refused => s
  | _ => if (s.mo a).reqs.contains .start then s else addReq a .start s

/-- An enable request: it takes effect at the next tick, R169. -/
def requestEnable (a : Nat) (s : State) : State := s.modMo a fun m => { m with enPend := true }

/-- A disable request, R170; in LATCHED it changes nothing, so the bit stays 1, R132. -/
def requestDisable (a : Nat) (s : State) : State :=
  let s := s.modMo a fun m => { m with enPend := false }
  if s.get (AX_FLTSTAT.STATE a) = 3 && s.enabled a then s.putBitAt (AXEN (a / 32)) (a % 32) true
  else if s.enabled a then
    let s := planCause a 4 (latchAxis a s)
    if s.inMotion a then ((s.put (AX_STAT.DISPEND a) 1).put (AX_STAT.ARMED a) 0).modMo a fun m => { m with orderQ := true }
    else s.modMo a fun m => { m with disNext := true }
  else planCause a 4 s

/-- Bits that differ, in order. -/
def changedBits (old new : Word) : List Nat := (List.range 32).filter fun b => old.getLsbD b != new.getLsbD b

/-- The bits set in a word, in order. -/
def setBits (w : Word) : List Nat := (List.range 32).filter fun b => w.getLsbD b

/-! ### Refusals -/

/-- GCTL: R51, R81. -/
def gctlRefuses (l : Loc) (w : Word) (s : State) : Bool :=
  match l.defn.reg with
  | .GCTL_PWRDOM => (List.range 4).any fun c => !w.getLsbD (4 + c) && !w.getLsbD (8 + c) && s.coachWork c
  | .GCTL_STORE => s.storeRefused (wordField w 3 0)
  | _ => false

/-- Whether AX_FLTCTL is refused, R127. -/
def State.fltctlRefused (s : State) (a : Nat) (w : Word) : Bool :=
  let st := s.get (AX_FLTSTAT.STATE a)
  let st' := if w.getLsbD 1 && (st = 1 || st = 2) then 3 else st
  w.getLsbD 0 && s.clearRefused a st'

/-- AX: R171, R186, R223, R157, R159, R127. -/
def axRefuses (l : Loc) (old w : Word) (s : State) : Bool :=
  let a := l.inst
  match l.defn.reg with
  | .AX_CTL =>
    if wordField w 3 0 = 1 then s.startRefused a
    else wordField w 3 0 = 5 && !s.on EV_PIN.HALTN && s.on (AX_HALTCFG.PIN a)
  | .AX_MODE => (s.ownerEntry a).isSome
  | .AX_VTGT => (s.ownerEntry a).isSome
  | .AX_CHAIN => (s.ownerEntry a).isSome && wordField w 11 0 ≠ wordField old 11 0
  | .AX_WAVESEL =>
    let t : Fld := AX_WAVESEL.TABLE a
    (s.enabled a && decide (wordField w (AX_WAVESEL.INV a).hi (AX_WAVESEL.INV a).lo
        ≠ wordField old (AX_WAVESEL.INV a).hi (AX_WAVESEL.INV a).lo))
      || (s.enabledOrPend a && s.on (WAVE_CTL.LOAD (wordField w t.hi t.lo)))
  | .AX_FLTCTL => s.fltctlRefused a w
  | _ => false

/-- The bitmaps of the profile engines: R169, R171. A write that leaves the AXEN bit of a faulted axis at 1 asks for nothing and is not
refused; R126 does not say (DESIGN CHOICE, log entry 58). -/
def bitmapRefuses (l : Loc) (old w : Word) (s : State) : Bool :=
  match l.defn.reg with
  | .AXEN =>
    (changedBits old w).any fun b =>
      w.getLsbD b && (s.enableRefused (32 * l.copy + b) || s.trio.safeIn)
  | .AXSTART => (setBits w).any fun b => s.startRefused (32 * l.copy + b)
  | _ => false

/-- Whether axis `a` is enabled, to be enabled at the next tick, or has a disable pending. -/
def State.busyAxis (s : State) (a : Nat) : Bool := s.enabledOrPend a || s.disPending a

/-- LEG, RK and CO: R111, R113, R131. -/
def coachRefuses (l : Loc) (old w : Word) (s : State) : Bool :=
  match l.defn.reg with
  | .RK_MODE =>
    [0, 1].any fun h =>
      wordField w (2 * h + 1) (2 * h) ≠ wordField old (2 * h + 1) (2 * h)
        && [0, 1, 2, 3].any fun k => s.busyAxis (axisAt l.inst h k)
  | .LEG_TEST => w.getLsbD 0 && (s.busyAxis (s.legOwner l.inst).1 || s.legLeader l.inst ≠ l.inst)
  | .RK_FLTCTL => w.getLsbD 0 && s.rankClearBlocked l.inst
  | .CO_FLTCTL =>
    (w.getLsbD 0 && s.coachClearRefused l.inst)
      || (w.getLsbD 1 && (s.on (CO_VM.UVF l.inst) || s.on (CO_VM.OVF l.inst)))
  | _ => false

/-- Whether an axis that is enabled, or is to be at the next tick, uses wave table `t`, in force or staged. -/
def State.tableUsed (s : State) (t : Nat) : Bool :=
  (List.range 128).any fun a =>
    s.enabledOrPend a && (s.get (AX_WAVESEL.TABLE a) = t || s.getLatest (AX_WAVESEL.TABLE a) = t)

/-- WAVE: R157. -/
def waveRefuses (l : Loc) (w : Word) (s : State) : Bool :=
  match l.defn.reg with
  | .WAVE => !s.on (WAVE_CTL.LOAD l.inst)
  | .WAVE_CTL => w.getLsbD 0 && (l.inst = 0 || s.tableUsed l.inst)
  | _ => false

/-- ENC and STEP: R236. A channel disabled by R86 is not enabled again while another of its words fails parity (DEDUCED, log
entry 58). -/
def feedbackRefuses (l : Loc) (old w : Word) (s : State) : Bool :=
  let n := l.inst
  match l.defn.reg with
  | .ENC_CFG => s.on (ENC_CFG.EN n) && w.getLsbD 1 != old.getLsbD 1 || w.getLsbD 0 && s.badWithin (ENC_CFG n + 4) 0x7C
  | .STEP_CFG => s.on (STEP_CFG.EN n) && (w.getLsbD 1 != old.getLsbD 1 || w.getLsbD 2 != old.getLsbD 2)
      || w.getLsbD 0 && s.badWithin (STEP_CFG n + 4) 0x3C
  | _ => false

/-- Whether a PL register is a word of the recipe buffer, R209. -/
def recipeReg (r : RegName) : Bool := r = .PL_RCP0 || r = .PL_RCP1 || r = .PL_RCP2 || r = .PL_RCP3 || r = .PL_RCPHDR

/-- PL: R210, R213. -/
def plWriteRefused (l : Loc) (w : Word) (s : State) : Bool :=
  if recipeReg l.defn.reg then s.recipeRefused
  else match l.defn.reg with
    | .PL_ORD => s.ordRefused
    | .PL_CMD => s.plRefused (wordField w 3 0) (wordField w 15 8)
    | _ => false

/-- What the configuration lock refuses, R378. -/
def lockRefuses (l : Loc) (old w : Word) (s : State) : Bool :=
  let rws := l.defn.maskOf fun f => f.ty = .rws
  s.locked &&
    (w &&& rws ≠ old &&& rws ||
      match l.defn.reg with
      | .RK_MODE | .LEG_TEST | .GCTL_STORE | .MGS_UPDCTL | .MGS_ALCFG | .WAVE => true
      | .PL_CMD => wordField w 3 0 = 2 || wordField w 3 0 = 3
      | _ => false)

/-- The conditions of the owning block, step 8 of R72: `old` is the word before, `w` the word with its WO bits, `sel` the data
bits selected by a masked write. -/
def blockRefuses (l : Loc) (old w sel : Word) (s : State) : Bool :=
  lockRefuses l old w s ||
    match l.blk with
    | .GCTL => gctlRefuses l w s
    | .AX => axRefuses l old w s
    | .LEG | .RK | .CO => coachRefuses l old w s
    | .WAVE => waveRefuses l w s
    | .ENC | .STEP => feedbackRefuses l old w s
    | .AFE | .SD => afeRefuses l w s
    | .PL => bitmapRefuses l old w s || plWriteRefused l w s
    | .NET => netRefuses l sel w s
    | .SPM => spmRefuses l w s
    | .MGS => mgsRefuses l w s
    | _ => false

/-! ### Effects -/

/-- The run-state request a write of GCTL_RUNCTL makes: none if its mask selects no bit of REQ. -/
def runWritten (sel w : Word) (s : State) : State := if sel &&& 7 = 0 then s else runRequest (wordField w 2 0) s

/-- GCTL_PWRDOM: R50 to R53, R65. In NAP, where R54 has no other domain on, a change is carried out by the wake (DEDUCED, log
entry 59). -/
def powerWritten (old w : Word) (s : State) : State :=
  if w.getLsbD 31 then enterReset 4 false s
  else if s.runState = 2 then
    -- no coach and no front end is on in NAP: the wake brings the coaches that are then to be on, R57
    forEach (List.range 4) (fun c s =>
      if w.getLsbD (4 + c) && old.getLsbD (4 + c) then s
      else s.modPower fun p => { p with napCoach := natPutBit p.napCoach c (w.getLsbD (4 + c)) }) s
  else
    let s := forEach (List.range 4) (fun c s =>
      if w.getLsbD (4 + c) then (if old.getLsbD (4 + c) then s else coachPowerUp c s)
      else if !s.coachLive c then s
      else if w.getLsbD (8 + c) then coachForce c s
      else if old.getLsbD (4 + c) then coachOffReq c s else s) s
    if old.getLsbD 0 && !w.getLsbD 0 then afeGoOff s
    else if !old.getLsbD 0 && w.getLsbD 0 then afeGoOn s
    else s

/-- GCTL words. -/
def gctlWritten (l : Loc) (old : Word) (x : WriteWord) (sel : Word) (s : State) : State :=
  match l.defn.reg with
  | .GCTL_BUSERR =>
    if x.clr = 0 then s else ((s.wr GCTL_BUSERR 0).wr GCTL_BUSERRADDR 0).wr GCTL_BUSERRCNT 0
  | .GCTL_PARERR => if x.clr = 0 then s else s.put GCTL_PARERR.MORE 0
  | .GCTL_CLAMPADDR => if x.clr = 0 then s else s.put GCTL_CLAMPADDR.MORE 0
  | .GCTL_PWRDOM => powerWritten old x.val s
  -- a released CONV hold lets the waiting shared settings land, R80 and R254
  | .GCTL_BUFHOLD => sharedLand s
  | .GCTL_RUNCTL => runWritten sel x.val s
  | .GCTL_STORE => storeBegin (wordField x.val 3 0) s
  | _ => s

/-- The commands of AX_LACTL. -/
def lactlWritten (a : Nat) (w : Word) (s : State) : State :=
  let s := if w.getLsbD 31 then
      (s.modMo a fun m => { m with eStart := m.eStart - m.energy, energy := 0 }).putPair (AX_ENERGY_LO a) 0
    else s
  let s := if w.getLsbD 30 then (s.put (AX_STALLST.STALLS a) 0).wr (AX_BEMFCNT a) 0 else s
  let s := if w.getLsbD 29 then updAlert a ((s.put (AX_HOMEST.ERR a) 0).put (AX_HOMEST.HOMED a) 0) else s
  let s := if w.getLsbD 1 then s.put (AX_WITST.ALIGNPEND a) 1 else s
  if w.getLsbD 0 then
    (s.put (AX_BEMFKE.LEARNING a) 1).modSe a fun e => { e with learnN := 0, learnSum := 0 }
  else s

/-- The commands of AX_CTL. -/
def ctlWritten (a cmd : Nat) (s : State) : State :=
  match cmd with
  | 1 => requestStart a (dozeEnd s)
  | 2 => addReq a .stop s
  | 3 => addReq a .qstop s
  | 4 => addReq a .halt s
  | 5 => addReq a .release s
  | 6 => addReq a .cont s
  | 7 => addReq a .clrpml s
  | _ => s

/-- AX words. -/
def axWritten (l : Loc) (x : WriteWord) (s : State) : State :=
  let a := l.inst
  match l.defn.reg with
  | .AX_CTL => ctlWritten a (wordField x.act 3 0) s
  | .AX_EVT | .AX_STALLST | .AX_WITST => updAlert a s
  | .AX_STARTSTAT => if x.act = 0 then s else (s.put (AX_STARTSTAT.IGNCNT a) 0).put (AX_STARTSTAT.LASTREJ a) 0
  | .AX_FLTCNT => if x.act = 0 then s else (s.put (AX_FLTCNT.RETRIES a) 0).put (AX_FLTCNT.FAULTS a) 0
  | .AX_CS => s.put (PL_AXLRN.VALID a) 0
  | .AX_LACTL => lactlWritten a x.act s
  | .AX_FLTCTL =>
    let s := if x.act.getLsbD 1 then latchAxis a s else s
    if x.act.getLsbD 0 then clearAxisCmd a s else s
  | _ => s

/-- The bitmaps of the profile engines. -/
def bitmapWritten (l : Loc) (old : Word) (x : WriteWord) (s : State) : State :=
  match l.defn.reg with
  | .AXEN =>
    forEach (changedBits old x.val) (fun b s =>
      let a := 32 * l.copy + b
      if x.val.getLsbD b then requestEnable a (dozeEnd s) else requestDisable a s) s
  | .AXSTART => forEach (setBits x.act) (fun b s => requestStart (32 * l.copy + b) (dozeEnd s)) s
  | _ => s

/-- LEG, RK and CO words, at the coach for those it holds. -/
def coachWritten (l : Loc) (old : Word) (x : WriteWord) (s : State) : State :=
  let i := l.inst
  match l.defn.reg with
  | .LEG_STAT => updAlert (s.legOwner i).1 s
  | .LEG_TEST => if old.getLsbD 0 && !x.val.getLsbD 0 then overrideOff i s else s
  | .LEG_FLTCNT => if x.act = 0 then s else s.wr (LEG_FLTCNT i) 0
  | .RK_FLTCTL => if x.act = 0 then s else clearRank i s
  | .CO_FLTCTL =>
    let s := if x.act.getLsbD 0 then clearCoach i s else s
    if x.act.getLsbD 1 then clearVm i s else s
  | .CO_LINKCFG =>
    let s := if x.act.getLsbD 1 then (s.wr (CO_LINKERR i) 0).put (CO_LINKSTAT.LOSSCAUSE i) 0 else s
    if old.getLsbD 0 != x.val.getLsbD 0 then sendCtl i .safe s else s
  | _ => s

/-- WAVE words. -/
def waveWritten (l : Loc) (x : WriteWord) (s : State) : State :=
  match l.defn.reg with
  | .WAVE_STAT => if x.act = 0 then s else (s.put (WAVE_STAT.CORR l.inst) 0).put (WAVE_STAT.UNCORR l.inst) 0
  | _ => s

/-- ENC, CMP and STEP words. -/
def feedbackWritten (l : Loc) (x : WriteWord) (s : State) : State :=
  let n := l.inst
  match l.defn.reg with
  | .ENC_CNT => encSet n x.val s
  | .CMP_POS => if s.on (CMP_CFG.SRC n) then s.modEnc n fun e => { e with posWr := some x.val } else cmpPosSet n x.val s
  | .ENC_ERR => if x.act = 0 then s else s.put (ENC_ERR.ERRCNT n) 0
  | .CMP_CNTS => if x.act = 0 then s else (s.put (CMP_CNTS.SKIP n) 0).put (CMP_CNTS.HITS n) 0
  | .STEP_ERR => if x.act = 0 then s else (s.put (STEP_ERR.OVCNT n) 0).put (STEP_ERR.SUCNT n) 0
  | _ => s

/-- EV words. -/
def evWritten (l : Loc) (x : WriteWord) (s : State) : State :=
  match l.defn.reg with
  | .EV_DOORBELL => if x.act = 0 then s else pendSrc 127 s
  | _ => s

/-- PL words. -/
def plWritten (l : Loc) (x : WriteWord) (s : State) : State :=
  if recipeReg l.defn.reg then plTo 1 s
  else match l.defn.reg with
    | .PL_CMD => plCommand (wordField x.act 3 0) (wordField x.act 15 8) (x.act.getLsbD 4) s
    | _ => s

/-- SPH words. -/
def sphWritten (l : Loc) (x : WriteWord) (s : State) : State :=
  match l.defn.reg with
  | .SPH_ERR => if x.clr = 0 then s else s.put SPH_ERR.MORE 0
  | .SPH_CNT => if x.act = 0 then s else s.wr SPH_CNT 0
  | _ => s

/-- What a performed write does beyond its fields, step 9 of R72. -/
def blockWritten (m : Master) (l : Loc) (old : Word) (x : WriteWord) (sel : Word) (s : State) : State :=
  let w := x.val ||| x.act
  match l.blk with
  | .GCTL => gctlWritten l old x sel s
  | .AX => axWritten l x s
  | .LEG | .RK | .CO => coachWritten l old x s
  | .WAVE => waveWritten l x s
  | .ENC | .STEP => feedbackWritten l x s
  | .AFE | .SD => afeWritten l old x.act w s
  | .EV => evWritten l x s
  | .PL => bitmapWritten l old x (plWritten l x s)
  | .NET => netWritten l old x.act s
  | .SPH => sphWritten l x s
  | .SPM => spmWritten l w s
  | .MGS => mgsWritten m l old w s
  | .SEG => s

/-! ### Parity, R86 -/

/-- A channel of the feedback block is disabled: the enable is bit 0 of its configuration word. -/
def channelOff (l : Loc) (s : State) : State :=
  let n := l.inst
  let clear (x : Staged) : Staged := ⟨x.value &&& 0xFFFFFFFE, x.mask &&& 0xFFFFFFFE⟩
  if l.blk = .ENC then (s.put (ENC_CFG.EN n) 0).setStaged (ENC_CFG n) (clear (s.stagedAt (ENC_CFG n)))
  else (s.put (STEP_CFG.EN n) 0).setStaged (STEP_CFG n) (clear (s.stagedAt (STEP_CFG n)))

/-- The AX consequence of R86: the axis is faulted with cause 14, its legs go off, and it is disabled. -/
def axisParity (a : Nat) (s : State) : State :=
  if (s.mo a).ownParity && s.get (AX_FLTSTAT.STATE a) = 3 && !s.enabled a then s else
  let s := killLegs (axisCoach a) (s.axisLegs a) (faultState a 14 0 s)
  disableNow a (s.modMo a fun m => { m with ownParity := true })

/-- The safe state of the owning block. -/
def paritySafe (l : Loc) (addr : Nat) (s : State) : State :=
  match l.blk with
  | .AX => axisParity l.inst s
  | .LEG | .RK | .CO =>
    match coachOf addr with
    | none => s
    | some c =>
      let s := s.modCoach c fun k => { k with badWords := k.badWords.filter (· ≠ addr) ++ [addr] }
      coachFault c 14 (coachSafe c s)
  | .PL =>
    if s.planActive then s.modPl fun p => { p with abort := some true }
    else if s.runWaits then (s.modPl fun p => { p with waiting := false, sync := false, cmd := 0 }).put PL_STAT.BUSY 0
    else s
  | .ENC | .STEP => channelOff l s
  | .AFE | .SD => afeParity l s
  | .GCTL => enterSafeParity s
  | _ => s

/-- GCTL_PARERR records an address, R86. -/
def noteParity (addr : Nat) (s : State) : State :=
  if s.on GCTL_PARERR.VALID then s.put GCTL_PARERR.MORE 1 else (s.put GCTL_PARERR.VALID 1).put GCTL_PARERR.ADDR addr

/-- GCTL_PARERR records an address and event 114 pends, R86. -/
def recordParity (addr : Nat) (s : State) : State := pend 114 0 0 (noteParity addr s)

/-- An error in entry `k` of wave table `t`, R156: corrected and counted, or uncorrectable. Axes are faulted when the sequencer reads
the entry. -/
def waveEcc (t k : Nat) (fatal : Bool) (s : State) : State :=
  if t = 0 then s
  else if !fatal then s.inc (WAVE_STAT.CORR t)
  else recordParity (WAVE t k) ((s.inc (WAVE_STAT.UNCORR t)).setBad (WAVE t k) true)

/-- A word is found to fail parity, at each check of it, R86. Wave and segment entries follow R156: an axis is concerned when its
sequencer or its fetcher reads one. -/
def parityFail (addr : Nat) (s : State) : State :=
  match locate addr with
  | none => s
  | some l =>
    if l.compl then s
    else if l.defn.reg = .WAVE then waveEcc l.inst ((addr - WAVE l.inst 0) / 4) true s
    else paritySafe l addr (recordParity addr (s.setBad addr true))

/-- A read finds a word that fails parity: recorded, and the safe state is taken again; the bus error pends event 114, R86. -/
def parityRead (addr : Nat) (s : State) : State :=
  match locate addr with
  | none => s
  | some l => paritySafe l addr (noteParity addr s)

end Sys2Proof.Machine
end

