-- ==== Sys2Proof/Machine/Bus.lean ====
section
/-!
DEFINITION. Machine/Bus.lean: an access to the interconnect (R70 to R77, R82 to R90): the ordered checks, guarded writes, bit
aliases, 64-bit pairs, reads, and the register exchanges of the couplings (R17, R18).
-/

namespace Sys2Proof.Machine

/-! ### Checks 1 to 3 of R72 -/

/-- What an address names: a register, a bit alias (R82), or a word of the XIP window (R355). -/
inductive Target where
  | reg (l : Loc)
  | bit (id b : Nat)
  | xip
deriving DecidableEq, Repr

/-- Bits of an aliased bitmap, R82. -/
def aliasBits (id : Nat) : Nat := if id = 4 then 512 else 128

/-- The word of a bitmap that holds a bit, R82. -/
def aliasWord (id b : Nat) : Nat :=
  match id with
  | 0 => EV_PEND (b / 32)
  | 1 => EV_EN (b / 32)
  | 2 => AXEN (b / 32)
  | 3 => AXSTART (b / 32)
  | 4 => EV_LEGFLT (b / 32)
  | _ => AXALERT (b / 32)

/-- The target of an address, R69; none if it is reserved. -/
def targetOf (addr : Nat) : Option Target :=
  if addr < 0x100000 then (locate addr).map Target.reg
  else if addr < 0x106000 then
    let id := (addr - 0x100000) / 0x1000
    let b := addr % 0x1000 / 4
    if b < aliasBits id then some (.bit id b) else none
  else if 0x800000 ≤ addr && addr < 0x1000000 then some .xip
  else none

/-- Whether an address lies in a range of `n` bytes. -/
def inRange (lo n addr : Nat) : Bool := decide (lo ≤ addr) && decide (addr < lo + n)

/-- What a master cannot reach, R71 and R380; the NET RWS words of the firmware no master can. -/
def restricted (m : Master) (addr : Nat) (write : Bool) : Bool :=
  inRange 0x91000 0xF000 addr || match m with
  | .mgs => false
  | .seg0 | .seg1 | .seg2 | .seg3 => write || !inRange 0x30000 0x10000 addr
  -- the result mover reads the result words of the modulators, R271 (DEDUCED, log entry 57); the XIP fetcher, R357
  | .mover => write || !(inRange 0x60100 0x200 addr && inRange 0x20 0x10 (addr % 0x80))
  | .xip => if write then !(inRange 0x80090 0x10 addr || inRange 0x81000 0x800 addr) else !decide (0x800000 ≤ addr)
  | _ =>
    let can : Bool := m = .can0 || m = .can1
    if inRange 0xB0000 0x100 addr then write && can
    else if inRange 0xB0100 0x40 addr then write && m ≠ .host
    else if inRange 0xB0140 0xFEC0 addr then true
    else can && (coachOf addr).isSome

/-- Whether a session the master does not hold is needed, R380. -/
def State.sessionLacks (s : State) (m : Master) (t : Target) (write : Bool) : Bool :=
  match t with
  | .reg l => write && l.blk = .MGS && mgsRestricts m l s
  | _ => false

/-- What NAP leaves reachable: the D0 words of GCTL, and the D1 and D4 blocks, R57. The segment and wave tables only keep their
contents on the retention rail: that they cannot be accessed is read from R57's list (DEDUCED, log entry 57). -/
def napReach (addr : Nat) : Bool :=
  inRange 0x00040 0x28 addr || inRange 0x90000 0x30000 addr || decide (0x800000 ≤ addr)

/-- Whether the domain of an address is off, its COACHON still 0, or its coupling down, R18, R83 and R383. -/
def State.domainOff (s : State) (addr : Nat) : Bool :=
  s.power.inReset || s.runState = 3 || (s.runState = 2 && !napReach addr)
    || (inRange 0x60000 0x300 addr && !s.afeOn)
    || match coachOf addr with
      | some c => !s.coachOn c || !s.on (CO_LINKSTAT.UP c)
      | none => false

/-- Checks 1 to 3 of R72. Of an address that is reserved and out of the master's reach, RESTRICTED is answered; step 2 does not say
which comes first (DESIGN CHOICE, log entry 57). -/
def accessCheck (m : Master) (size : AccessSize) (addr : Nat) (write : Bool) (s : State) : Except BusErr Target :=
  let xip : Bool := decide (0x800000 ≤ addr)
  let whole : Bool := size = .word && addr % 4 = 0
  let part : Bool := xip && !write && (size = .byte || (size = .half && addr % 2 = 0))
  if !whole && !part then .error .align
  else if restricted m addr write then .error .restricted
  else match targetOf addr with
    | none => .error .reservedAddr
    | some t =>
      if s.sessionLacks m t write then .error .restricted
      else if write && t = .xip then .error .xipWrite
      else if s.domainOff addr then .error .domainOff
      else .ok t

/-! ### Performing a write, steps 7 to 9 of R72 -/

/-- The word value fields read before a write: the run-state request reads the run state (R54), and SD_LINDATA the word its
address selects (R278). -/
def State.before (s : State) (l : Loc) (addr : Nat) : Word :=
  match l.defn.reg with
  | .GCTL_RUNCTL => wordPut (s.latest addr) (GCTL_RUNCTL.REQ).hi (GCTL_RUNCTL.REQ).lo s.runState
  | .SD_LINDATA => s.lin (s.get (SD_LINADDR.ADDR l.inst) % 528)
  | _ => s.latest addr

/-- A field kept within a range that depends on the state, with the clamp it makes. -/
def limitField (hi lo most : Nat) (x : WriteWord) : WriteWord × List Clamp :=
  let v := wordField x.val hi lo
  let y := min most v
  if y = v then (x, []) else ({ x with val := wordPut x.val hi lo y }, [⟨v, y, 0, lo⟩])

/-- Range checks that depend on the state: the log pointer (R365), the on-time of a leg override (R113), NS in the header of a
linearisation set (R278), and LEN of a SPM_CMD that starts nothing (with GO = 1 R360 refuses it). -/
def stateClamps (l : Loc) (x : WriteWord) (s : State) : WriteWord × List Clamp :=
  match l.defn.reg with
  | .MGS_LOGRPTR =>
    let v := x.val.toNat
    let y := s.clampSeq v
    if y = v then (x, []) else ({ x with val := BitVec.ofNat 32 y }, [⟨v, y, 0, 0⟩])
  | .LEG_TEST =>
    let c := legCoach l.inst
    let per := min (s.get (CO_PWMPER.PER c)) (s.getLatest (CO_PWMPER.PER c))
    limitField (LEG_TEST.ONTIME l.inst).hi (LEG_TEST.ONTIME l.inst).lo (per - 20) x
  | .SPM_CMD => if wordField x.act 31 31 = 1 then (x, []) else limitField (SPM_CMD.LEN).hi (SPM_CMD.LEN).lo 256 x
  | .SD_LINDATA =>
    let k := s.get (SD_LINADDR.ADDR l.inst) % 528
    let y := linStored k x.val
    ({ x with val := y }, clampOf 8 (wordField x.val 10 8) (wordField y 10 8))
  | _ => (x, [])

/-- Bits that a write does not store: commands, and values whose write acts in another way. -/
def unstored (r : RegName) : Word :=
  match r with
  | .GCTL_PWRDOM => 0x80000F00
  | .GCTL_RUNCTL => 7
  | .GCTL_STORE | .ENC_CNT | .CMP_POS | .MGS_SECBUF | .SD_LINDATA => 0xFFFFFFFF
  | _ => 0

/-- Words kept by the front end as written, each conversion taking its own copy, R247. -/
def keptAtOnce (r : RegName) : Bool := r = .AFE_CFGA || r = .AFE_CFGB || r = .AFE_CFGC || r = .AFE_RREF

/-- Stores the fields of a write: values at once or staged, R73 and R78. -/
def storeWord (l : Loc) (addr : Nat) (x : WriteWord) (s : State) : State :=
  let keep := ~~~ unstored l.defn.reg
  let staged := if keptAtOnce l.defn.reg then 0 else l.defn.maskOf FieldDef.buffered &&& keep
  let now := l.defn.maskOf FieldDef.isValue &&& ~~~ staged &&& keep
  let s := s.wr addr (((x.val &&& now) ||| (s.rd addr &&& ~~~ now)) &&& ~~~ x.clr)
  if staged = 0 then s
  else
    let p := s.stagedAt addr
    s.setStaged addr ⟨(x.val &&& staged) ||| (p.value &&& ~~~ staged), p.mask ||| staged⟩

/-- A word that has been rewritten no longer fails parity, R86. -/
def rewritten (addr : Nat) (s : State) : State :=
  let s := s.setBad addr false
  match coachOf addr with
  | none => s
  | some c => s.modCoach c fun k => { k with badWords := k.badWords.filter (· ≠ addr) }

/-- Stores a write and lets the owning block act on it. -/
def performWrite (m : Master) (l : Loc) (addr : Nat) (old : Word) (x : WriteWord) (sel : Word) (s : State) : State :=
  blockWritten m l old x sel (storeWord l addr x (rewritten addr s))

/-- The half-ranks whose topology a write changes show MODEPEND, R111. -/
def noteMode (l : Loc) (old new : Word) (s : State) : State :=
  if l.defn.reg = .RK_MODE then
    forEach [0, 1] (fun h s =>
      if wordField new (2 * h + 1) (2 * h) ≠ wordField old (2 * h + 1) (2 * h) then
        s.put (RK_STAT.MODEPEND l.inst) (natPutBit (s.get (RK_STAT.MODEPEND l.inst)) h true)
      else s) s
  else s

/-- Queues a register exchange with a coach, R17. -/
def submit (m : Master) (c addr : Nat) (wr : Option Word) (s : State) : State :=
  (s.modCoach c fun k =>
    { k with
      cfgq := k.cfgq ++ [{ master := m, addr := addr, wr := wr, seq := k.seq }]
      seq := (k.seq + 1) % 256 }).answer m .waiting

/-- The exchanges that wait when one of master `last` has ended, the next to be served in front: level 2 of R92 serves the waiting
accesses of a coach round-robin by master, those of one master in their order. -/
def nextServed (last : Master) (q : List Exchange) : List Exchange :=
  let turn (e : Exchange) : Nat := (masterCode e.master + 10 - masterCode last) % 11
  match q.foldl (fun (b : Option Exchange) e =>
      match b with
      | none => some e
      | some x => if turn e < turn x then some e else some x) none with
  | none => []
  | some x => x :: q.erase x

/-- Steps 7 to 9 of R72 for a word at `addr`; an error is recorded at `ea`. A write that step 8 refuses records no clamp, since no
value was applied; R87 does not say (DESIGN CHOICE, log entry 57). -/
def finishWrite (m : Master) (ea addr : Nat) (l : Loc) (v : Word) (s : State) : State :=
  let old := s.before l addr
  match decodeWrite l old v s with
  | none => busFail m ea .refused s
  | some (x, cl) =>
    let (x, more) := stateClamps l x s
    let sel := dataMask l.defn v
    if blockRefuses l old (x.val ||| x.act) sel s then busFail m ea .refused s
    else
      let s := recordClamps addr (mergeClamps cl more) s
      match coachOf addr with
      | some c => submit m c addr (some v) (noteMode l old x.val s)
      | none => (performWrite m l addr old x sel s).answer m .done

/-! ### Guarded writes, R76 -/

/-- The open guard window of the register at an address. -/
def State.guardAt (s : State) (addr : Nat) : Option GuardWin := Sparse.get (fun _ => none) s.guards addr

/-- Opens, replaces or closes a guard window. -/
def State.setGuard (s : State) (addr : Nat) (g : Option GuardWin) : State :=
  { s with guards := Sparse.set (fun _ => none) s.guards addr g }

/-- A write of V at A. -/
def guardOpen (m : Master) (ea addr : Nat) (v : Word) (s : State) : State :=
  let mine : Bool := match s.guardAt addr with
    | some g => g.master = m
    | none => true
  if mine then (s.setGuard addr (some ⟨m, v⟩)).answer m .done else busFail m ea .guard s

/-- A write at A + 4. -/
def guardClose (m : Master) (ea addr : Nat) (l : Loc) (v : Word) (s : State) : State :=
  match s.guardAt addr with
  | none => busFail m ea .guard s
  | some g =>
    if g.master ≠ m then busFail m ea .guard s
    else
      let s := s.setGuard addr none
      if v = ~~~ g.value then finishWrite m ea addr { l with compl := false } g.value s else busFail m ea .guard s

/-- GUARD_TIMEOUT: the window closes, and the error is recorded against its master. -/
def guardTimeout (addr : Nat) (s : State) : State :=
  match s.guardAt addr with
  | none => s
  | some g => recordErr g.master addr .guard (s.setGuard addr none)

/-! ### A write of one word -/

/-- The bits that carry no field, check 5 of R72. -/
def reservedBits (d : RegDef) : Word :=
  let w := ~~~ d.maskOf fun _ => true
  if d.masked then w &&& 0xFFFF else w

/-- Whether a register has a field that can be written; table 0 of the wave tables has none, R155. -/
def Loc.writable (l : Loc) : Bool := l.defn.writable && !(l.defn.reg = .WAVE && l.inst = 0)

/-- A write at A that carries a reserved bit leaves its own master no open window, R76. -/
def dropGuard (m : Master) (addr : Nat) (s : State) : State :=
  match s.guardAt addr with
  | none => s
  | some g => if g.master = m then s.setGuard addr none else s

/-- Checks 4 to 9 of R72. -/
def wordWrite (m : Master) (ea addr : Nat) (l : Loc) (v : Word) (s : State) : State :=
  if l.compl then guardClose m ea (addr - 4) l v s
  else if !l.writable then busFail m ea .access s
  else if v &&& reservedBits l.defn ≠ 0 then busFail m ea .reservedBit (if l.defn.guarded then dropGuard m addr s else s)
  else if l.defn.guarded then guardOpen m ea addr v s
  else finishWrite m ea addr l v s

/-- A write of a bit alias, R82: the same checks as a write of the bitmap word for that bit. -/
def aliasWrite (m : Master) (ea id b : Nat) (v : Word) (s : State) : State :=
  let addr := aliasWord id b
  match locate addr with
  | none => busFail m ea .reservedAddr s
  | some l =>
    if id = 5 then busFail m ea .access s
    else if v &&& 0xFFFFFFFE ≠ 0 then busFail m ea .reservedBit s
    else
      let one := wordPut 0 (b % 32) (b % 32) v.toNat
      wordWrite m ea addr l (if id = 1 || id = 2 then wordPut (s.latest addr) (b % 32) (b % 32) v.toNat else one) s

/-! ### 64-bit pairs, R89 and R90 -/

/-- The read shadow and write stage of a master. -/
def State.port (s : State) (m : Master) : PairPort :=
  match m with
  | .host => s.hostPair
  | .trio => s.trioPair
  | .mgs => s.mgsPair
  | _ => s.canPair

/-- Changes the read shadow and write stage of a master. -/
def State.setPort (s : State) (m : Master) (p : PairPort) : State :=
  match m with
  | .host => { s with hostPair := p }
  | .trio => { s with trioPair := p }
  | .mgs => { s with mgsPair := p }
  | _ => { s with canPair := p }

/-- A 64-bit sequence error of a master. -/
def seqErr (m : Master) (s : State) : State :=
  match m with
  | .host => s.put GCTL_SEQERR.HOST 1
  | .trio => s.put GCTL_SEQERR.TRIO 1
  | .mgs => s.put GCTL_SEQERR.MGS 1
  | _ => s

/-- A write of a LO word that passes checks 1 to 3. -/
def stageLo (m : Master) (addr : Nat) (v : Word) (s : State) : State :=
  let p := s.port m
  let other : Bool := match p.stage with
    | some (a, _) => a ≠ addr
    | none => false
  ((applyIf other (seqErr m) s).setPort m { p with stage := some (addr, v) }).answer m .done

/-- The LO word of a limit pair's other limit, and whether the pair is the lower one, R184. -/
def otherLimit (r : RegName) (a : Nat) : Option (Nat × Bool) :=
  match r with
  | .AX_LIMN_LO => some (AX_LIMP_LO a, true)
  | .AX_LIMP_LO => some (AX_LIMN_LO a, false)
  | _ => none

/-- The value of an AX pair after its range checks, R87 and R184. -/
def pairClamp (l : Loc) (v : Int) (s : State) : Int :=
  let x := clampInt (-posMax) posMax v
  match otherLimit l.defn.reg l.inst with
  | none => x
  | some (addr, lower) =>
    let y := s.latestPair addr
    if lower then min x y else max x y

/-- Conditions of the owning block on a pair, step 8 of R72: R223, R187, R378. -/
def pairRefused (l : Loc) (addr : Nat) (v : Int) (s : State) : Bool :=
  let a := l.inst
  match l.defn.reg with
  | .AX_TGT_LO => (s.ownerEntry a).isSome
  | .AX_POS_LO => s.enabled a && s.get (AX_SSTAT.STATE a) ≠ 2 && s.get (AX_SSTAT.STATE a) ≠ 6
  | _ => s.locked && (l.defn.fields.any fun f => f.ty = .rws) && v ≠ s.latestPair addr

/-- A committed write of AX_POS, R187. -/
def axPosSet (a : Nat) (v : Int) (s : State) : State :=
  let s := (s.modMo a fun m => { m with p := v * 2 ^ 24 }).putPair (AX_POS_LO a) v
  let s := (s.put (AX_STAT.PML a) 0).put (AX_WITST.ALIGNPEND a) 1
  updAlert a (s.modSe a fun e => { e.cut with fresh := true })

/-- Performs or stages a pair whose LO word is at `addr`. -/
def performPair (l : Loc) (addr : Nat) (v : Int) (s : State) : State :=
  match l.defn.reg with
  | .GCTL_RTC_LO => s.modPower fun p => { p with rtcStage := some (unsigned 64 v % 2 ^ 48) }
  | .AX_POS_LO => axPosSet l.inst v s
  | _ =>
    let u := unsigned 64 v
    let s := rewritten (addr + 4) (rewritten addr s)
    if l.defn.fields.any FieldDef.buffered then
      (s.setStaged addr ⟨BitVec.ofNat 32 u, 0xFFFFFFFF⟩).setStaged (addr + 4) ⟨BitVec.ofNat 32 (u / 2 ^ 32), 0xFFFFFFFF⟩
    else s.putPair addr v

/-- Checks 4 to 9 of R72 on a pair as a whole: `addr` is the LO word's address. -/
def commitPair (m : Master) (ea addr : Nat) (l : Loc) (lo hi : Word) (s : State) : State :=
  if !l.writable then busFail m ea .access s
  else
    let top := match locate (addr + 4) with
      | some h => reservedBits h.defn
      | none => 0
    if hi &&& top ≠ 0 then busFail m ea .reservedBit s
    else
      let v := signed 64 (lo.toNat + 2 ^ 32 * hi.toNat)
      let x := if l.blk = .AX then pairClamp l v s else v
      if pairRefused l addr x s then busFail m ea .refused s
      else
        let s := if x = v then s else recordClamp addr true ⟨unsigned 64 v, unsigned 64 x, 64, 0⟩ s
        (performPair l addr x s).answer m .done

/-- A write of a HI word that passes checks 1 to 3. -/
def commitHi (m : Master) (addr : Nat) (v : Word) (s : State) : State :=
  let p := s.port m
  match p.stage, locate (addr - 4) with
  | some (a, lo), some l =>
    if a = addr - 4 then commitPair m addr a l lo v (s.setPort m { p with stage := none })
    else (seqErr m s).answer m .done
  | _, _ => (seqErr m s).answer m .done

/-! ### Writes -/

/-- The output voter blocks every request of a trio that is held, R292: nothing of it reaches the interconnect. -/
def State.voterBlocks (s : State) (m : Master) : Bool := m = .trio && s.trioState = 4

/-- A write to the interconnect. -/
def busWrite (m : Master) (size : AccessSize) (addr : Nat) (v : Word) (s : State) : State :=
  if s.voterBlocks m then s
  else match accessCheck m size addr true s with
  | .error e => busFail m addr e s
  | .ok t =>
    match t with
    | .xip => busFail m addr .xipWrite s
    | .bit id b => aliasWrite m addr id b v s
    | .reg l =>
      match l.defn.pair with
      | .lo => stageLo m addr v s
      | .hi => commitHi m addr v s
      | .none => if secRestricts m l v s then busFail m addr .restricted s else wordWrite m addr addr l v s

/-- A write of one word, and of a guarded register: V, and then its complement at A + 4. -/
def regWrite (m : Master) (addr : Nat) (v : Word) (s : State) : State := busWrite m .word addr v s

/-- A guarded write: V at A, and its complement at A + 4 if the first was not in error. -/
def guardedWrite (m : Master) (addr : Nat) (v : Word) (s : State) : State :=
  let s := regWrite m addr v s
  if s.reply m = .done then regWrite m (addr + 4) (~~~ v) s else s

/-! ### Reads -/

/-- The bits of a register that are read from the tick snapshot, R88. -/
def RegDef.snapMask (d : RegDef) : Word := d.maskOf fun f => f.snap

/-- The word a register's fields read: snapshot, present or latest values; WO fields read 0. -/
def State.fieldWord (s : State) (l : Loc) (addr : Nat) : Word :=
  let snap := if s.fabricOn then l.defn.snapMask else 0
  let wo := l.defn.maskOf fun f => f.ty = .wo
  ((s.snapWord addr &&& snap) ||| (s.latest addr &&& ~~~ snap)) &&& ~~~ wo

/-- The word a register reads. -/
def State.readWord (s : State) (l : Loc) (addr : Nat) : Word :=
  let w := s.fieldWord l addr
  match l.defn.reg with
  | .GCTL_RUNCTL => wordPut w (GCTL_RUNCTL.REQ).hi (GCTL_RUNCTL.REQ).lo s.runState
  | .GCTL_PROD => s.mgs.part.product
  | .EV_IRQ0ID => irqIdWord (s.firstSource (·.irq0) (s.get EV_GCFG.IRQ0PRI))
  | .EV_IRQ1ID => irqIdWord (s.firstSource (·.irq1) (s.get EV_GCFG.IRQ1PRI))
  | .EV_PIN => wordPut w (EV_PIN.FAULTN).hi (EV_PIN.FAULTN).lo (b2n s.faultNLow)
  | .SPM_STAT => s.spmStat
  | .SD_LINDATA => s.lin (s.get (SD_LINADDR.ADDR l.inst) % 528)
  | _ => (mgsWord l s).getD w

/-- Reads that act: FIFO, log, challenge and converter result words. -/
def readAct (m : Master) (l : Loc) (w : Word) (s : State) : Word × State :=
  match l.defn.reg with
  | .SPM_RXFIFO => rxPop s
  | .MGS_LOGDATA => logDataRead s
  | .MGS_AUCHAL =>
    if m = .host && l.copy = 0 && s.mgs.hostCh.isNone then
      let s := issueHost s
      (s.rd (MGS_AUCHAL 0), s)
    else (w, s)
  | _ => (w, afeReadDone l s)

/-- A read of a LO word: the HI half of the same snapshot goes to the shadow, R89; a converter result is consumed, R271. -/
def readLo (m : Master) (addr : Nat) (l : Loc) (s : State) : State :=
  let hi := match locate (addr + 4) with
    | some h => s.readWord h (addr + 4)
    | none => 0
  let w := s.readWord l addr
  (afeReadDone l (s.setPort m { s.port m with shadow := some (addr, hi) })).answer m (.data w)

/-- A read of a HI word, R89. -/
def readHi (m : Master) (addr : Nat) (l : Loc) (s : State) : State :=
  match (s.port m).shadow with
  | some (a, hi) =>
    if a = addr - 4 then s.answer m (.data hi) else (seqErr m s).answer m (.data (s.readWord l addr))
  | none => (seqErr m s).answer m (.data (s.readWord l addr))

/-- A read of a register that passed checks 1 to 3. -/
def regRead (m : Master) (addr : Nat) (l : Loc) (s : State) : State :=
  let at_ := if l.compl then addr - 4 else addr
  if s.isBad at_ then busFail m addr .parity (parityRead at_ s)
  else match coachOf addr with
    | some c => submit m c addr none s
    | none =>
      match l.defn.pair with
      | .lo => readLo m addr l s
      | .hi => readHi m addr l s
      | .none =>
        if l.compl then s.answer m (.data (~~~ s.readWord l at_))
        else
          let (w, s) := readAct m l (s.readWord l addr) s
          s.answer m (.data w)

/-- A read of the interconnect. -/
def busRead (m : Master) (size : AccessSize) (addr : Nat) (s : State) : State :=
  if s.voterBlocks m then s
  else match accessCheck m size addr false s with
  | .error e => busFail m addr e s
  | .ok t =>
    match t with
    | .xip => xipRead m size addr (busFail m addr .refused) s
    | .bit id b =>
      let at_ := aliasWord id b
      if s.isBad at_ then busFail m addr .parity (parityRead at_ s)
      else match locate at_ with
        | some l => s.answer m (.data (if (s.readWord l at_).getLsbD (b % 32) then 1 else 0))
        | none => s
    | .reg l => regRead m addr l s

/-! ### Register exchanges of a coupling, R17 and R18 -/

/-- The coach performs a write once. -/
def coachApply (e : Exchange) (l : Loc) (v : Word) (s : State) : State :=
  let old := s.latest e.addr
  match decodeWrite l old v s with
  | none => s
  | some (x, _) => performWrite e.master l e.addr old (stateClamps l x s).1 (dataMask l.defn v) s

/-- CFG_FRAME: with no CTL frame waiting (R14, R123), the coach receives the request at the head, applies a write at most once,
and answers; `gangs` are the on-times the write ends. -/
def cfgFrame (c : Nat) (crcOk : Bool) (gangs : List GangEnd) (s : State) : State :=
  if !s.linkLive c || !(s.coach c).controlMay || !(s.coach c).ctlq.isEmpty then s
  else match (s.coach c).cfgq with
    | [] => s
    | e :: rest =>
      if e.sent then s
      else
        let e := { e with sent := true }
        let s := s.modCoach c fun k => { k with cmdRun := 0, cfgq := e :: rest }
        if !crcOk then s.modCoach c fun k => { k with crcRep := k.crcRep + 1 }
        else match locate e.addr with
        | none => s
        | some l =>
          let l := { l with compl := false }
          let s := match e.wr with
            | some v => if (s.coach c).applSeq = some e.seq then s else coachApply e l v (gangOffs (ofCoach c) gangs s)
            | none => s
          let at_ := if (locate e.addr).any (·.compl) then e.addr - 4 else e.addr
          let w := s.readWord l at_
          let w := if at_ = e.addr then w else ~~~ w
          s.modCoach c fun k => { k with applSeq := some e.seq, cfgq := { e with answer := some w } :: rest }

/-- CFGR_FRAME: with no STAT report waiting (R14), the hub receives the coach's answer, and the access ends. -/
def cfgrFrame (c : Nat) (crcOk : Bool) (s : State) : State :=
  if !s.linkLive c || !(s.coach c).statq.isEmpty then s
  else match (s.coach c).cfgq with
    | [] => s
    | e :: rest =>
      match e.answer with
      | none => s
      | some w =>
        let s := s.modCoach c fun k => { k with cfgrSeq := (k.cfgrSeq + 1) % 256 }
        if !crcOk then (discardUp c s).modCoach c fun k => { k with cfgq := { e with answer := none } :: rest }
        else
          let s := s.modCoach c fun k => { k with cfgq := nextServed e.master rest }
          endExchange e (if e.wr.isSome then .done else .data w) s

/-- CFG_RESEND: the request is sent once more; if it has been, the access ends with LINK_ERR. -/
def cfgResend (c : Nat) (s : State) : State :=
  if !s.on (CO_LINKSTAT.UP c) then s
  else match (s.coach c).cfgq with
    | [] => s
    | e :: rest =>
      if !e.sent then s
      else if e.resent then endExchange e (.error .linkErr) (s.modCoach c fun k => { k with cfgq := nextServed e.master rest })
      else s.modCoach c fun k => { k with cfgq := { e with sent := false, resent := true, answer := none } :: rest }

/-! ### The tick snapshot, R88 -/

/-- Registers whose live values are taken at each profile tick. -/
def tickAddr (addr : Nat) : Bool :=
  inRange 0x10000 0x10000 addr || inRange 0x50000 0x10300 addr || inRange 0x80000 0x11000 addr || inRange 0xB0100 0x40 addr

/-- Whether an address is AX_SSTAT of an axis, which reads as of the last command set built before the snapshot, R151. -/
def sstatAddr (addr : Nat) : Bool := inRange 0x10000 0x10000 addr && addr % 0x200 = 0x124

/-- Takes the snapshot of the words that follow the tick; the others keep theirs. -/
def tickSnap (s : State) : State :=
  let low := s.regs.filter fun x => tickAddr x.1 && !sstatAddr x.1
  let keep := s.snap.filter fun x => !tickAddr x.1
  let snap := low.foldl (fun m x => Sparse.set resetWord m x.1 x.2) keep
  { s with snap := s.axes.foldl (fun m x => Sparse.set resetWord m (AX_SSTAT x.1) x.2.se.sstat) snap }

end Sys2Proof.Machine
end

