-- ==== Sys2Proof/Machine/HostOps.lean ====
section
/-!
DEFINITION. Machine/HostOps.lean: frames of the host port (R342 to R353): header, reads, buffered writes, errors, and the end of
a frame.
-/

namespace Sys2Proof.Machine

/-- Changes the host port. -/
def State.modSph (s : State) (f : HostPort → HostPort) : State := { s with sph := f s.sph }

/-- One bit of the host port's CRC-8, R352. -/
def crc8Bit (c : BitVec 8) : BitVec 8 := if c.getLsbD 7 then (c <<< 1) ^^^ 0x07 else c <<< 1

/-- One byte of a CRC-8. -/
def crc8Byte (c : BitVec 8) (b : Nat) : BitVec 8 :=
  let c := c ^^^ BitVec.ofNat 8 b
  crc8Bit (crc8Bit (crc8Bit (crc8Bit (crc8Bit (crc8Bit (crc8Bit (crc8Bit c)))))))

/-- The CRC-8 of bytes, R352. -/
def crc8 (bytes : List Nat) : BitVec 8 := bytes.foldl crc8Byte 0

/-- Whether frames carry CRC bytes. -/
def State.hostCrc (s : State) : Bool := s.on SPH_CFG.CRC

/-! ### Errors, R348 -/

/-- Records a cause and raises its event. -/
def hostCause (cause addr code : Nat) (s : State) : State :=
  let s := if s.on SPH_ERR.VALID then s.put SPH_ERR.MORE 1
    else (((s.put SPH_ERR.VALID 1).put SPH_ERR.CAUSE cause).put SPH_ERR.ADDR addr).put SPH_ERRCODE.CODE code
  let s := if cause = 3 || cause = 4 then s.inc SPH_CNT.CRCERR else if cause = 6 then s.inc SPH_CNT.BUSYLIM else s
  pendD4 (if cause = 6 then 112 else 111) 0 0 s

/-- The frame in progress fails: from its next status byte on it is dead. -/
def hostFail (cause addr code : Nat) (s : State) : State :=
  (hostCause cause addr code s).modSph fun p => { p with failed := true }

/-! ### What MISO sends, R343 and R345 -/

/-- Bytes go out on MISO. -/
def sendBytes (l : List Nat) (s : State) : State := s.modSph fun p => { p with out := p.out ++ l }

/-- The data bytes of a slot, with the CRC byte of R352. -/
def State.dataBytes (s : State) (w : Word) : List Nat :=
  beBytes 4 w.toNat ++ if s.hostCrc then [(crc8 (beBytes 4 w.toNat)).toNat] else []

/-- The bytes of a slot in a frame that is dead, or that started too early: each is 0xE1, R348 and R353. -/
def deadSlot (s : State) : State :=
  sendBytes (List.replicate (5 + b2n s.hostCrc) 0xE1) (s.modSph fun p => { p with dead := true })

/-- Whether the frame in progress answers 0xE1 from its next status byte on. -/
def HostPort.refusing (p : HostPort) : Bool := p.inFrame && (p.early || (p.headed && p.failed))

/-! ### Issuing, R346 and R347 -/

/-- One word of a write has been performed. -/
def countWord (s : State) : State :=
  if s.sph.prev = 0 then s.modSph fun p => { p with words := p.words + 1 }
  else if s.sph.prev = 1 then s.inc SPH_STAT.WORDS
  else s

/-- Guard windows of the host that a frame leaves open when its last word has been issued time out: the complement of another frame
never comes in time, R77. -/
def splitGuards (s : State) : State :=
  forEach (s.guards.map (·.1)) (fun addr s =>
    match s.guardAt addr with
    | none => s
    | some g => if g.master = .host then guardTimeout addr s else s) s

/-- Whether a block of the frame that ended `n` frames ago waits to be issued. -/
def HostPort.holds (p : HostPort) (n : Nat) : Bool := (p.full && p.blockAge = n) || (p.nextFull && p.nextAge = n)

/-- Whether both buffers are held, R347: one block is being issued or waits behind another's access, and one more waits. -/
def HostPort.buffersHeld (p : HostPort) : Bool := p.full && (!p.issue.isEmpty || p.nextFull)

/-- Drops the blocks not yet issued of the frame that ended `n` frames ago. -/
def HostPort.dropBlocks (p : HostPort) (n : Nat) : HostPort :=
  let p := if p.nextAge = n then { p with next := [], nextFull := false, nextAge := 0 } else p
  if p.blockAge = n then
    { p with block := p.next, full := p.nextFull, blockAge := p.nextAge, next := [], nextFull := false, nextAge := 0 }
  else p

/-- Whether the words being issued are the last ones of a frame that is over, and not of the previous one. -/
def HostPort.lastOld (p : HostPort) : Bool := decide (2 ≤ p.prev) && !p.holds p.prev

/-- No word is left to issue. -/
def issued (s : State) : State :=
  applyIf s.sph.lastOld splitGuards (s.modSph fun p => { p with issue := [], prev := 0 })

/-- A write has failed: its block and every later block of its frame are dropped, R348. -/
def writeFailed (addr : Nat) (e : BusErr) (s : State) : State :=
  if s.sph.prev = 0 then (hostFail 1 addr e.code s).modSph fun p => { p.dropBlocks 0 with issue := [] }
  else
    let n := s.sph.prev
    let bad := if n = 1 then s.sph.prevBad else s.sph.oldBad
    let s := applyIf (n ≠ 1 && !bad) (·.inc SPH_CNT.ERRS) (hostCause 1 addr e.code s)
    let s := s.modSph fun p => p.dropBlocks n
    issued (s.modSph fun p => { p with prevBad := p.prevBad || n = 1, oldBad := p.oldBad || n ≠ 1 })

/-- Issues words in order until one waits for its coach or fails. -/
def issueWords : List (Nat × Word) → State → State
  | [], s => issued s
  | (a, w) :: l, s =>
    let s := busWrite .host .word a w s
    match s.reply .host with
    | .waiting => s.modSph fun p => { p with issue := (a, w) :: l }
    | .error e => writeFailed a e s
    | _ => issueWords l (countWord s)

/-- Issues the block that has been gathered. -/
def issueBlock (s : State) : State :=
  let b := s.sph.block
  issueWords b (s.modSph fun p =>
    { p with
      prev := p.blockAge, block := p.next, full := p.nextFull, blockAge := p.nextAge
      next := [], nextFull := false, nextAge := 0 })

/-- The outcome of the previous frame is known, R351. -/
def closePrev (s : State) : State :=
  let s := applyIf s.sph.issue.isEmpty splitGuards s
  let bad := s.sph.prevBad
  let s := (s.put SPH_STAT.OUTCOME (if bad then 0xE1 else 0xA5)).put SPH_STAT.PENDING 0
  let s := applyIf bad (·.inc SPH_CNT.ERRS) s
  s.modSph fun p => { p with due := false, prevBad := false }

/-- The previous frame is over once none of its words waits. -/
def closeIdle (s : State) : State :=
  let p := s.sph
  if p.due && p.issue.isEmpty && !p.holds 1 then closePrev s else s

/-- Whether the frame in progress reads. -/
def HostPort.reads (p : HostPort) : Bool := p.inFrame && p.headed && !p.failed && (p.cmd = 0x03 || p.cmd = 0x0B)

/-- The read under way is over: `g` is the word for its slot, and `n` the words it counts for the frame in progress. -/
def readTaken (g : Option Word) (n : Nat) (s : State) : State :=
  s.modSph fun p => { p with reading := false, stale := 0, got := g, words := p.words + n }

/-- A read fails after its frame: that frame ended in error, R351. -/
def lateFail (p : HostPort) (s : State) : State :=
  if p.staleBad then s
  else applyIf (p.stale = 1) (·.put SPH_STAT.OUTCOME 0xE1) (s.inc SPH_CNT.ERRS)

/-- The answer of a slot's read is taken; that of a frame that has ended is discarded, and counts for it. -/
def takeRead (s : State) : State :=
  if !s.sph.reading then s
  else
    let p := s.sph
    match s.reply .host with
    | .data w =>
      if p.stale = 0 then readTaken (if p.failed then none else some w) 1 s
      else applyIf (p.stale = 1) (·.inc SPH_STAT.WORDS) (readTaken none 0 s)
    | .error e =>
      if p.stale = 0 then hostFail 1 p.readAt e.code (readTaken none 0 s)
      else lateFail p (hostCause 1 p.readAt e.code (readTaken none 0 s))
    | _ => s

/-- The read of the next slot is issued. -/
def issueRead (s : State) : State :=
  takeRead ((busRead .host .word s.sph.addr s).modSph fun p => { p with reading := true, readAt := p.addr, stale := 0 })

/-- What can go on goes on: the end of an earlier frame's writes, the block gathered, the read of the next slot. -/
def hostSettle (s : State) : State :=
  let s := closeIdle s
  let s := if s.sph.issue.isEmpty && !s.sph.reading && s.sph.full then issueBlock s else s
  let s := closeIdle s
  if s.sph.issue.isEmpty && !s.sph.full && s.sph.reads && !s.sph.reading && s.sph.got.isNone then issueRead s else s

/-- The accesses under way are looked at again. -/
def hostPoll (s : State) : State :=
  let was := s.sph.reading
  let s := takeRead s
  match s.sph.issue with
  | [] => if was && !s.sph.reading then hostSettle s else s
  | (a, _) :: l =>
    match s.reply .host with
    | .waiting => s
    | .error e => hostSettle (writeFailed a e s)
    | _ => hostSettle (issueWords l (countWord s))

/-! ### Frames -/

/-- Whether a byte is a command, R344. -/
def hostCommand (c : Nat) : Bool := c = 0x03 || c = 0x0B || c = 0x02 || c = 0x0A || c = 0x05

/-- HOST_FRAME_START, with the header once it has been received: MISO sends the outcome of the previous frame, and 0x00 in the other
header bytes, R343 and R351. A frame that starts before the reset sequence ends receives 0xE1, R353. -/
def frameStart (mode3 : Bool) (h : Option HostHead) (s : State) : State :=
  if s.power.inReset then
    let n := if h.isSome then 4 + b2n s.hostCrc else 0
    s.modSph fun p => { p with inFrame := true, early := true, mode3 := mode3, miso := [], out := List.replicate n 0xE1 }
  else if s.runState = 3 then s
  else
    let s := if s.runState = 1 then dozeEnd (noteWake 7 s) else s
    let s := landClass .hostFrame (· = SPH_CFG) s
    let s := (hostPoll s).modSph fun p =>
      { p with inFrame := true, early := false, mode3 := mode3, dead := false, headed := false, words := 0, failed := false,
               got := none, miso := [], out := [] }
    match h with
    | none => s
    | some x =>
      let c := x.cmd.toNat
      let a := x.addr.toNat
      let s := sendBytes (s.get SPH_STAT.OUTCOME :: List.replicate (3 + b2n s.hostCrc) 0) s
      let s := s.modSph fun p => { p with headed := true, cmd := c, start := a, addr := a }
      if s.hostCrc && crc8 (c :: beBytes 3 a) ≠ x.crc then hostFail 3 a 0 s
      else if !hostCommand c then hostFail 2 a 0 s
      else hostSettle s

/-- Whether a slot of command `c` can pass. -/
def State.slotOpen (s : State) (c : Nat) : Bool := s.sph.inFrame && !s.sph.early && s.sph.headed && !s.sph.failed && s.sph.cmd = c

/-- The address of the slot after one at `a`. -/
def nextAddr (fixed : Bool) (a : Nat) : Nat := if fixed then a else (a + 4) % 2 ^ 24

/-- The status byte 0xA5 and the data bytes of a word go out. -/
def sendWord (w : Word) (s : State) : State :=
  (sendBytes (0xA5 :: s.dataBytes w) s).modSph fun p => { p with miso := w :: p.miso }

/-- A slot of READ or READ FIXED: its word is sent, and the next read is issued. While the word is awaited the slot passes a busy
byte. -/
def hostReadSlot (fixed : Bool) (s : State) : State :=
  let s := hostPoll s
  if s.sph.refusing then deadSlot s
  else if !s.slotOpen (if fixed then 0x0B else 0x03) then s
  else match s.sph.got with
    | none => sendBytes [0x5A] s
    | some w => hostSettle ((sendWord w s).modSph fun p => { p with got := none, addr := nextAddr fixed p.addr })

/-- A slot of STATUS. -/
def hostStatusSlot (s : State) : State :=
  let s := hostPoll s
  if s.sph.refusing then deadSlot s
  else if s.slotOpen 0x05 then sendWord (s.rd SPH_STAT) s
  else s

/-- A word goes to the buffer that gathers; `close` says that its block is then to be issued. -/
def HostPort.buffer (p : HostPort) (x : Nat × Word) (close : Bool) : HostPort :=
  if p.full then { p with next := p.next ++ [x], nextFull := close } else { p with block := p.block ++ [x], full := close }

/-- A slot of WRITE or WRITE FIXED with the word and CRC byte received; with both buffers held it passes a busy byte. A word of another
block than the one gathered has that one issued; where that fails, nothing later of the frame is performed, R348. -/
def hostWriteSlot (fixed : Bool) (w : Word) (crc : BitVec 8) (s : State) : State :=
  let s := hostPoll s
  if s.sph.refusing then deadSlot s
  else if !s.slotOpen (if fixed then 0x0A else 0x02) then s
  else if s.sph.buffersHeld then sendBytes [0x5A] s
  else
    let s := sendBytes (0xA5 :: List.replicate (4 + b2n s.hostCrc) 0) s
    if s.hostCrc && crc8 (beBytes 4 w.toNat) ≠ crc then hostFail 4 s.sph.addr 0 s
    else
      let a := s.sph.addr
      let other : Bool := !s.sph.full && s.sph.block.any fun x => x.1 / 64 ≠ a / 64
      let s := if other then hostSettle (s.modSph fun p => { p with full := true }) else s
      if s.sph.failed then s
      else hostSettle (s.modSph fun p => { p.buffer (a, w) (fixed || a % 64 = 0x3C) with addr := nextAddr fixed a })

/-- HOST_BUSY_LIMIT, R349: the slot in progress has been busy for 64 bytes, and the next status byte is 0xE1. Its own blocks are
discarded; those of an earlier frame wait on (DEDUCED, log entry 48). -/
def hostBusyLimit (s : State) : State :=
  let s := hostPoll s
  let p := s.sph
  let busy : Bool := (p.reads && p.got.isNone) || ((p.cmd = 0x02 || p.cmd = 0x0A) && p.buffersHeld)
  if p.inFrame && !p.early && p.headed && !p.failed && busy then
    sendBytes [0xE1] ((hostFail 6 p.addr 0 s).modSph fun p => { p.dropBlocks 0 with dead := true })
  else s

/-- What the end of a frame inside its header or a word records, R350: nothing of a frame that is dead. -/
def shortEnd (kind : FrameEnd) (s : State) : State :=
  if s.sph.dead then s
  else match kind with
    | .clean => s
    | .inHeader a => hostFail 5 a.toNat 0 s
    | .inWord last =>
      let a := s.sph.addr
      let s := if last && s.sph.reads && s.sph.got.isSome then
          hostSettle (s.modSph fun p => { p with got := none, addr := nextAddr (p.cmd = 0x0B) p.addr })
        else s
      hostFail 5 a 0 s

/-- The frame becomes the previous frame, R351; what an earlier one still has to issue goes on. -/
def frameOver (s : State) : State :=
  let p := s.sph
  let late : Bool := p.due && p.prevBad
  let prev := if p.issue.isEmpty then 0 else p.prev + 1
  let age := if p.full then p.blockAge + 1 else 0
  let nextAge := if p.nextFull then p.nextAge + 1 else 0
  let pending : Bool := prev = 1 || age = 1 || nextAge = 1
  let s := applyIf late (·.inc SPH_CNT.ERRS) s
  let s := (s.put SPH_STAT.WORDS (min 0xFFFF p.words)).putB SPH_STAT.PENDING pending
  let s := s.modSph fun p =>
    { p with
      inFrame := false, headed := false, got := none, prev := prev, blockAge := age, nextAge := nextAge, due := pending
      prevBad := p.failed, oldBad := late
      stale := if p.reading then p.stale + 1 else 0
      staleBad := if p.stale = 0 then p.failed else p.staleBad }
  if pending then s.put SPH_STAT.OUTCOME 0x5A else closePrev s

/-- HOST_FRAME_END: SS_N rises. A frame without an SCK edge leaves no trace, R342. -/
def frameEnd (kind : FrameEnd) (s : State) : State :=
  let s := hostPoll s
  if !s.sph.inFrame then s
  else if s.sph.early || (!s.sph.headed && kind = .clean) then s.modSph fun p => { p with inFrame := false, early := false }
  else
    let s := shortEnd kind s
    frameOver (hostSettle (s.modSph fun p => { p with full := !p.block.isEmpty, nextFull := !p.next.isEmpty }))

end Sys2Proof.Machine
end

