-- ==== Sys2Proof/Machine/Access.lean ====
section
/-!
DEFINITION. Machine/Access.lean: the commands of register access, the store and the parity scrub (R72 to R90).
-/

namespace Sys2Proof.Machine

/-- REGISTER_WRITE, R72. -/
def execRegisterWrite (m : Master) (size : AccessSize) (addr : BitVec 24) (w : Word) (s : State) : Out :=
  .next (busWrite m size addr.toNat w s)

/-- GUARD_TIMEOUT, R76. -/
def execGuardTimeout (addr : BitVec 24) (s : State) : Out := .next (guardTimeout addr.toNat s)

/-- PAIR_LO_READ, R89. -/
def execPairLoRead (m : Master) (addr : BitVec 24) (s : State) : Out := .next (busRead m .word addr.toNat s)

/-- PAIR_LO_WRITE, R90. -/
def execPairLoWrite (m : Master) (addr : BitVec 24) (w : Word) (s : State) : Out := .next (regWrite m addr.toNat w s)

/-- PAIR_HI_WRITE, R90. -/
def execPairHiWrite (m : Master) (addr : BitVec 24) (w : Word) (s : State) : Out := .next (regWrite m addr.toNat w s)

/-- BUFHOLD_TIMEOUT, R80. -/
def execBufholdTimeout (cls : Fin 5) (s : State) : Out :=
  .next (if natBit (s.get GCTL_BUFHOLD.HOLD) cls then
      sharedLand ((s.putBitOf GCTL_BUFHOLD.HOLD cls false).putBitOf GCTL_BUFSTAT.HOLDTO cls true)
    else s)

/-- STORE_SETTINGS, R81. -/
def execStoreSettings (m : Master) (s : State) : Out := .next (guardedWrite m GCTL_STORE 1 s)

/-- STORE_WAVE_TABLES, R158. -/
def execStoreWaveTables (m : Master) (s : State) : Out := .next (guardedWrite m GCTL_STORE 2 s)

/-- STORE_BOTH, R81. -/
def execStoreBoth (m : Master) (s : State) : Out := .next (guardedWrite m GCTL_STORE 3 s)

/-- ERASE_STORED_SETTINGS, R81. -/
def execEraseStoredSettings (m : Master) (s : State) : Out := .next (guardedWrite m GCTL_STORE 4 s)

/-- STORE_COMPLETE, R81: `ok` says whether the NVM took the set. -/
def execStoreComplete (ok : Bool) (s : State) : Out := .next (storeEnd ok s)

/-- PARITY_SCRUB, R86: `failing` are the words found bad. -/
def execParityScrub (failing : List (BitVec 24)) (s : State) : Out :=
  .next (if s.power.inReset then s else failing.foldl (fun s a => parityFail a.toNat s) s)

end Sys2Proof.Machine
end

