-- ==== Sys2Proof/Machine/Converters.lean ====
section
/-!
DEFINITION. Machine/Converters.lean: the commands of the sensor front end and the sigma-delta converters (R246 to R279).
-/

namespace Sys2Proof.Machine

/-- CONVERSION_START, R248: `now` is the motion-clock time, in 5 ns counts. -/
def execConversionStart (d : Fin 4) (now : Nat) (s : State) : Out := .next (conversionStart d now s)

/-- SETTLE_END, R248. -/
def execSettleEnd (d : Fin 4) (s : State) : Out := .next (settleEnd d s)

/-- BREAK_CHECK, R257: the common mode found, in 10 mV. -/
def execBreakCheck (d : Fin 4) (vcm : Nat) (s : State) : Out := .next (breakCheck d vcm s)

/-- CONVERSION_END, R261: the filter's raw result, and whether the modulator was overloaded. -/
def execConversionEnd (d : Fin 4) (code : Int) (ovr : Bool) (s : State) : Out := .next (conversionEnd d code ovr s)

/-- LEAD_CONVERSION_END, R256. -/
def execLeadConversionEnd (d : Fin 4) (code : Int) (ovr : Bool) (s : State) : Out := .next (leadEnd d code ovr s)

/-- RESULT_LAND, R264. -/
def execResultLand (d : Fin 4) (s : State) : Out := .next (resultLand d s)

/-- DUTY_WINDOW_START, R252. -/
def execDutyWindowStart (s : State) : Out := .next (dutyWindowStart s)

/-- AFE_SHARED_WRITE, R254: AFE_IEXC, AFE_VEXC or AFE_TDAC. -/
def execAfeSharedWrite (m : Master) (k : Fin 3) (w : Word) (s : State) : Out :=
  .next (regWrite m (sharedWords.getD k AFE_IEXC) w s)

/-- The word of SD_CMD for a command. -/
def sdWord (cmd mask : Nat) : Word := BitVec.ofNat 32 (mask * 256 + cmd)

/-- SD_START, R265. -/
def execSdStart (m : Master) (d : Fin 4) (s : State) : Out := .next (regWrite m (SD_CMD d) (sdWord 1 0) s)

/-- SD_STOP, R274. -/
def execSdStop (m : Master) (d : Fin 4) (s : State) : Out := .next (regWrite m (SD_CMD d) (sdWord 2 0) s)

/-- SD_INJ, R267. -/
def execSdInj (m : Master) (d : Fin 4) (s : State) : Out := .next (regWrite m (SD_CMD d) (sdWord 3 0) s)

/-- SD_SIMUL, R272. -/
def execSdSimul (m : Master) (d : Fin 4) (mask : BitVec 4) (s : State) : Out :=
  .next (regWrite m (SD_CMD d) (sdWord 4 mask.toNat) s)

/-- SD_CAL, R273. -/
def execSdCal (m : Master) (d : Fin 4) (mask : BitVec 4) (s : State) : Out :=
  .next (regWrite m (SD_CMD d) (sdWord 5 mask.toNat) s)

/-- SD_CLRCNT, R268. -/
def execSdClrcnt (m : Master) (d : Fin 4) (s : State) : Out := .next (regWrite m (SD_CMD d) (sdWord 6 0) s)

/-- SD_DISABLE, R274: a write of SD_CFG with EN = 0. -/
def execSdDisable (m : Master) (d : Fin 4) (w : Word) (s : State) : Out := .next (regWrite m (SD_CFG d) (wordPut w 0 0 0) s)

/-- SD_TIMER_PULSE, R266. -/
def execSdTimerPulse (x : TimerPulse) (s : State) : Out := .next (timerPulse x.d x.now s)

/-- TRIG_IN_EDGE, R267. -/
def execTrigInEdge (x : TrigEdge) (s : State) : Out := .next (trigEdge x.rising x.now s)

/-- CAL_PHASE_END, R273: what the phase measured. -/
def execCalPhaseEnd (d : Fin 4) (value : Int) (s : State) : Out := .next (calPhase d value s)

/-- SD_RESULT_READ, R271. -/
def execSdResultRead (m : Master) (d : Fin 4) (inj : Bool) (s : State) : Out :=
  .next (busRead m .word (if inj then SD_INJRESULT d else SD_RESULT d) s)

/-- LINEARISE, R276. -/
def execLinearise (d : Fin 4) (s : State) : Out := .next (linearise d s)

/-- SD_LINDATA_ACCESS, R278: a read, or a write of a word. -/
def execSdLindataAccess (m : Master) (d : Fin 4) (w : Option Word) (s : State) : Out :=
  match w with
  | none => .next (busRead m .word (SD_LINDATA d) s)
  | some w => .next (regWrite m (SD_LINDATA d) w s)

end Sys2Proof.Machine
end

