-- ==== Sys2Proof/Machine/Current.lean ====
section
/-!
DEFINITION. Machine/Current.lean: the commands of current regulation and of the back-EMF windows at the coaches (R118, R136 to
R143, R192).
-/

namespace Sys2Proof.Machine

/-- BLANKING_END, R118 and R136. -/
def execBlankingEnd (r z : Fin 16) (s : State) : Out := .next (blankingEnd r z s)

/-- COMPARATOR_TRIP, R136: `first` says that THR was already exceeded when blanking ended (the EARLY flag of R143); `onTime` and
`gang` are those of the on-time the trip ends (R109). -/
def execComparatorTrip (r z : Fin 16) (time : Nat) (first : Bool) (onTime : Nat) (gang : TripRead) (s : State) : Out :=
  .next (comparatorTrip r z time first onTime gang s)

/-- MIXED_DECAY_SWITCH, R136. -/
def execMixedDecaySwitch (r : Fin 16) (x : CoilMoment) (s : State) : Out :=
  .next (mixedSwitch r x.z (gangOffs (ofRank r) x.gangs s))

/-- FAST_DECAY_ZERO_GUARD, R137. -/
def execFastDecayZeroGuard (r : Fin 16) (x : CoilMoment) (s : State) : Out :=
  .next (zeroGuard r x.z (gangOffs (ofRank r) x.gangs s))

/-- DECAY_TRIM_WINDOW, R143. -/
def execDecayTrimWindow (c : Fin 4) (s : State) : Out := .next (trimWindow c s)

/-- BEMF_WINDOW_ZERO, R192: `tz` is TZ in 5 ns counts. -/
def execBemfWindowZero (r : Fin 16) (x : CoilMoment) (tz : Nat) (s : State) : Out :=
  .next (windowZero r x.z tz (gangOffs (ofRank r) x.gangs s))

/-- BEMF_SAR_REQUEST, R192. -/
def execBemfSarRequest (r z : Fin 16) (s : State) : Out := .next (sarRequest r z s)

/-- BEMF_CONVERSION_END, R192. -/
def execBemfConversionEnd (r z : Fin 16) (sample : Int) (s : State) : Out := .next (sarConversion r z sample s)

/-- BEMF_WINDOW_ABANDON, R192. -/
def execBemfWindowAbandon (r : Fin 16) (x : CoilMoment) (s : State) : Out :=
  .next (windowAbandon r x.z (gangOffs (ofRank r) x.gangs s))

end Sys2Proof.Machine
end

