-- ==== Sys2Proof/Machine/Objects.lean ====
section
/-!
DEFINITION. Machine/Objects.lean: the object dictionary (R324, R332 to R340): which objects exist, where each lives, and reading
and writing one through the interconnect.
-/

namespace Sys2Proof.Machine

/-- Access of an object, R332 and R337. -/
inductive Acc where
  | const | ro | wo | rw | rww | rwr
deriving DecidableEq, Repr

/-- The CiA 402 objects with a conversion, R340. -/
inductive CiaKind where
  | mode | modeAct | pos | vel | acc
deriving DecidableEq, Repr

/-- Where an object's value lives. -/
inductive Place where
  | num (v : Nat)
  | text (bytes : List Nat)
  /-- A communication object the NET block holds. -/
  | comm
  /-- The low bytes of a register word. -/
  | word (addr : Nat)
  /-- A named field. -/
  | field (f : Fld)
  /-- A 64-bit pair, by its LO word. -/
  | pair (addr : Nat)
  /-- The AXEN bit of an axis, through its alias. -/
  | enable (a : Nat)
  /-- Four words of the recipe buffer. -/
  | octets (addr : Nat)
  /-- The result of a planner entry. -/
  | result (e : Nat)
  /-- A word of the linearisation store; a linearised value. -/
  | lin (k : Nat)
  | linOut (key : Nat)
  | cia (k : CiaKind) (addr : Nat)
  /-- Held or served by the firmware. -/
  | firm
deriving DecidableEq, Repr

/-- An object: its place, its size in bytes (0 if it varies), and its access. -/
structure ObjDef where
  place : Place
  size  : Nat
  acc   : Acc
deriving DecidableEq, Repr

/-- Result of looking up an object: an abort code, or the object. -/
abbrev Found := Except Nat ObjDef

/-- Abort codes of R333. -/
def noObject : Nat := 0x06020000
def noSub : Nat := 0x06090011
def badRange : Nat := 0x06090030
def badLength : Nat := 0x06070010
def notNow : Nat := 0x08000022
def noTransfer : Nat := 0x08000020
def noAuth : Nat := 0x06010000
def readOnly : Nat := 0x06010002
def writeOnly : Nat := 0x06010001

/-- An object with nothing but subindex 0. -/
def lone (sub : Nat) (d : ObjDef) : Found := if sub = 0 then .ok d else .error noSub

/-- Subindices 1 to `n`; subindex 0 reads the highest. -/
def upTo (n sub : Nat) (d : ObjDef) : Found :=
  if sub = 0 then .ok ⟨.num n, 1, .ro⟩ else if sub ≤ n then .ok d else .error noSub

/-- Access of a whole register, R332. -/
def regAcc (d : RegDef) : Acc :=
  if !d.writable then .ro else if d.fields.all fun f => f.ty = .wo then .wo else .rw

/-- Registers of a block from `base`, one per subindex up to `n`, R332 and R338; those of `rwr` are rwr. -/
def regArray (base n sub : Nat) (rwr : List Nat) : Found :=
  if sub = 0 then .ok ⟨.num n, 1, .ro⟩
  else if n < sub then .error noSub
  else
    let addr := base + 4 * (sub - 1)
    match locate addr with
    | none => .error noSub
    | some l =>
      if l.compl then .error noSub
      else .ok ⟨.word addr, 4, if rwr.contains sub then .rwr else regAcc l.defn⟩

/-- Size of a communication object in bytes, R337. -/
def commSize (idx sub : Nat) : Nat :=
  if idx = 0x1015 || idx = 0x1017 then 2
  else if idx = 0x1019 || idx = 0x1029 || idx = 0x2016 || idx = 0x2017 || idx = 0x2F00 then 1
  else if idx / 0x40 = 0x1400 / 0x40 || idx / 0x40 = 0x1800 / 0x40 then
    (if sub = 1 then 4 else if sub = 2 || sub = 6 then 1 else 2)
  else if idx / 0x40 = 0x1600 / 0x40 || idx / 0x40 = 0x1A00 / 0x40 then (if sub = 0 then 1 else 4)
  else 4

/-- A communication object. -/
def commObj (idx sub : Nat) : ObjDef := ⟨.comm, commSize idx sub, .rw⟩

/-- The communication area, R337. -/
def findComm (s : State) (idx sub : Nat) : Found :=
  let rec0 (n : Nat) (d : ObjDef) : Found := upTo n sub d
  if idx = 0x1000 then lone sub ⟨.num 0, 4, .const⟩
  else if idx = 0x1001 then lone sub ⟨.firm, 1, .ro⟩
  else if idx = 0x1003 then
    (if sub = 0 then .ok ⟨.firm, 1, .rw⟩ else if sub ≤ 16 then .ok ⟨.firm, 4, .ro⟩ else .error noSub)
  else if idx = 0x1008 then lone sub ⟨.text [0x5A, 0x52, 0x35, 0x31, 0x32], 0, .const⟩
  else if idx = 0x1009 then lone sub ⟨.text [0x42, 0x30], 0, .const⟩
  else if idx = 0x100A then lone sub ⟨.text (Config.versionText (s.mgs.slot s.runSlot).version), 0, .const⟩
  else if idx = 0x1010 || idx = 0x1011 then rec0 1 ⟨.firm, 4, .rw⟩
  else if idx = 0x1016 then rec0 32 (commObj idx sub)
  else if idx = 0x1018 then
    match sub with
    | 0 => .ok ⟨.num 4, 1, .ro⟩
    | 1 => .ok ⟨.num 0x5B1, 4, .ro⟩
    | 2 => .ok ⟨.word GCTL_PROD, 4, .ro⟩
    -- the stepping: letter above, digit below, R4
    | 3 => .ok ⟨.num (65536 * s.get GCTL_ID.STEPL + s.get GCTL_ID.STEPD), 4, .ro⟩
    | 4 => .ok ⟨.num Config.serial.toNat, 4, .ro⟩
    | _ => .error noSub
  else if idx = 0x1029 then rec0 1 (commObj idx sub)
  else if idx = 0x1005 || idx = 0x1012 || idx = 0x1014 || idx = 0x1015 || idx = 0x1017 || idx = 0x1019 || idx = 0x1F80 then
    lone sub (commObj idx sub)
  else if 0x1400 ≤ idx && idx < 0x1440 then (if sub = 4 then .error noSub else rec0 5 (commObj idx sub))
  else if 0x1800 ≤ idx && idx < 0x1840 then (if sub = 4 then .error noSub else rec0 6 (commObj idx sub))
  else if (0x1600 ≤ idx && idx < 0x1640) || (0x1A00 ≤ idx && idx < 0x1A40) then
    (if sub ≤ 64 then .ok (commObj idx sub) else .error noSub)
  else .error noObject

/-- The management objects, R338 and R381. -/
def findMgs (idx sub : Nat) : Found :=
  let pick (l : List ObjDef) : Found :=
    if sub = 0 then .ok ⟨.num l.length, 1, .ro⟩
    else match l[sub - 1]? with
      | some d => .ok d
      | none => .error noSub
  if idx = 0x3100 then
    pick [⟨.field MGS_LOGSTAT.UNREAD, 2, .ro⟩, ⟨.word MGS_LOGRPTR, 4, .rw⟩, ⟨.firm, 32, .ro⟩, ⟨.field MGS_LOGCFG.NEARTHR, 2, .rw⟩]
  else if idx = 0x3200 then
    pick [⟨.word MGS_UPDSTAT, 4, .ro⟩, ⟨.firm, 0, .wo⟩, ⟨.word MGS_UPDCTL, 4, .wo⟩, ⟨.word MGS_RBCNT, 4, .ro⟩]
  else if idx = 0x3300 then pick [⟨.firm, 16, .ro⟩, ⟨.firm, 32, .wo⟩, ⟨.firm, 1, .ro⟩, ⟨.firm, 1, .wo⟩]
  else pick [⟨.word MGS_ALCFG, 4, .rw⟩, ⟨.word MGS_ALSTAT, 4, .ro⟩, ⟨.word MGS_PROV, 4, .ro⟩]

/-- The vendor area below the axis blocks, R338. -/
def findVendor (idx sub : Nat) : Found :=
  if idx = 0x2000 then regArray 0 0x23 sub []
  else if idx = 0x2010 then
    match sub with
    | 0 => .ok ⟨.num 3, 1, .ro⟩
    | 1 => .ok ⟨.field NET_NODE.PEND, 1, .rw⟩
    | 2 => .ok ⟨.field NET_NODE.NODE, 1, .ro⟩
    | 3 => .ok ⟨.field NET_NODE.RNACT, 1, .rw⟩
    | _ => .error noSub
  else if idx = 0x2011 || idx = 0x2012 then regArray (NET_CTL (idx - 0x2011)) 5 sub []
  else if idx = 0x2013 then upTo 32 sub ⟨.word (NET_HBACT (sub - 1)), 4, .rw⟩
  else if idx = 0x2014 then regArray NET_GUARD 4 sub []
  else if idx = 0x2015 then
    match sub with
    | 0 => .ok ⟨.num 2, 1, .ro⟩
    | 1 => .ok ⟨.field NET_NODE.SYNCBUS, 1, .rw⟩
    | 2 => .ok ⟨.field NET_NODE.SETRTC, 1, .rw⟩
    | _ => .error noSub
  else if idx = 0x2016 then upTo 64 sub (commObj idx sub)
  else if idx = 0x2017 then upTo 128 sub (commObj idx sub)
  else if idx = 0x2100 then upTo 2 sub ⟨.firm, 4, .rw⟩
  else if idx = 0x2200 then regArray 0x80000 0x28 sub []
  else if idx = 0x2300 then regArray 0x60000 0x38 sub []
  else if 0x2400 ≤ idx && idx < 0x2404 then regArray (0x60100 + 0x80 * (idx - 0x2400)) 0x20 sub [0x09, 0x0B, 0x0E]
  else if 0x2410 ≤ idx && idx < 0x2414 then upTo 20 sub ⟨.linOut (32 * (idx - 0x2410) + sub - 1), 4, .ro⟩
  else if 0x2420 ≤ idx && idx < 0x2430 then upTo 32 sub ⟨.lin (32 * (idx - 0x2420) + sub - 1), 4, .rw⟩
  else if idx = 0x2430 then upTo 16 sub ⟨.lin (511 + sub), 4, .rw⟩
  else if 0x2500 ≤ idx && idx < 0x2508 then regArray (0x50000 + 0x80 * (idx - 0x2500)) 0x16 sub [0x03, 0x09, 0x0C]
  else if 0x2510 ≤ idx && idx < 0x2518 then regArray (0x50400 + 0x40 * (idx - 0x2510)) 0x07 sub [0x03, 0x07]
  else if idx = 0x2600 then regArray 0x70000 0x15 sub []
  else if idx = 0x2601 then upTo 128 sub ⟨.word (EV_CFG (sub - 1)), 4, .rw⟩
  else if 0x2700 ≤ idx && idx < 0x2704 then regArray (0x29000 + 0x100 * (idx - 0x2700)) 0x40 sub []
  else if 0x2710 ≤ idx && idx < 0x2720 then regArray (0x28000 + 0x80 * (idx - 0x2710)) 0x20 sub []
  else if idx = 0x2800 then
    match sub with
    | 0 => .ok ⟨.num 3, 1, .ro⟩
    | 1 => .ok ⟨.octets (PL_RCPHDR 0), 16, .rw⟩
    | 2 => .ok ⟨.firm, 0, .rw⟩
    | 3 => .ok ⟨.firm, 0, .rw⟩
    | _ => .error noSub
  else if idx = 0x2801 then upTo 128 sub ⟨.octets (PL_RCP0 (sub - 1)), 16, .rw⟩
  else if idx = 0x2A00 then
    match sub with
    | 0 => .ok ⟨.num 3, 1, .ro⟩
    | 1 => .ok ⟨.word PL_MAKESPAN, 4, .ro⟩
    | 2 => .ok ⟨.word PL_PRED, 4, .ro⟩
    | 3 => .ok ⟨.pair PL_ENERGY_LO, 8, .ro⟩
    | _ => .error noSub
  else if idx = 0x2A01 then upTo 128 sub ⟨.result (sub - 1), 32, .ro⟩
  else if idx = 0x2A02 then upTo 128 sub ⟨.word (PL_ORD (sub - 1)), 1, .rw⟩
  else if idx = 0x2F00 then
    (if sub = 0 then .ok ⟨.num 18, 1, .ro⟩
     else if sub = 1 then .ok (commObj idx sub)
     else if sub = 2 then .ok ⟨.firm, 2, .rw⟩
     else if sub ≤ 18 then .ok ⟨.firm, 16, .ro⟩
     else .error noSub)
  else if idx = 0x3000 then upTo 8 sub ⟨.word (0xB0100 + 4 * (sub - 1)), 4, .ro⟩
  else if idx = 0x3100 || idx = 0x3200 || idx = 0x3300 || idx = 0x3400 then findMgs idx sub
  else .error noObject

/-- The axis block from its subindex 1, R339. -/
def axisBlock (a : Nat) : List ObjDef :=
  let w (addr : Nat) (acc : Acc) : ObjDef := ⟨.word addr, 4, acc⟩
  let h (addr : Nat) (acc : Acc) : ObjDef := ⟨.word addr, 2, acc⟩
  let b (addr : Nat) (acc : Acc) : ObjDef := ⟨.word addr, 1, acc⟩
  let p (addr : Nat) (acc : Acc) : ObjDef := ⟨.pair addr, 5, acc⟩
  [⟨.enable a, 1, .rww⟩, b (AX_CTL a) .rww, b (AX_MODE a) .rw, p (AX_TGT_LO a) .rww, w (AX_VTGT a) .rww,
   w (AX_VMAX a) .rw, w (AX_AMAX a) .rw, w (AX_DMAX a) .rw, w (AX_QDMAX a) .rw, w (AX_JERK a) .rw,
   p (AX_POS_LO a) .rwr, w (AX_VEL a) .ro, p (AX_LIMN_LO a) .rw, p (AX_LIMP_LO a) .rw, b (AX_LIMCFG a) .rw,
   w (AX_STAT a) .ro, w (AX_EVT a) .rwr, w (AX_CHAIN a) .rw, w (AX_LOOPS a) .rw, w (AX_FOLLOW a) .rw,
   w (AX_GEARNUM a) .rw, h (AX_GEARDEN a) .rw, w (AX_FLWERR a) .ro, w (AX_HALTCFG a) .rw, w (AX_STARTCFG a) .rw,
   b (AX_CS a) .rww, h (AX_CSLIM a) .rw, w (AX_TRIM a) .rw, h (AX_CSEFF a) .ro, h (AX_DECAY a) .rw, w (AX_STANDSTILL a) .rw]
  ++ [h (AX_SSTAT a) .ro, h (AX_WAVESEL a) .rw, w (AX_RESBAND0 a) .rw, w (AX_RESBAND1 a) .rw, w (AX_BEMFCFG a) .rw,
   w (AX_BEMFSPD a) .rw, w (AX_BEMFKE a) .rw, w (AX_STALLCFG a) .rw, w (AX_LA a) .ro, w (AX_STALLST a) .rwr,
   w (AX_LACTL a) .wo, w (AX_HOMECFG a) .rw, w (AX_HOMEMAX a) .rw, w (AX_HOMEBACK a) .rw, p (AX_HOMEOFS_LO a) .rw,
   w (AX_HOMEST a) .ro, w (AX_WITCFG a) .rw, w (AX_WITGAIN a) .rw, p (AX_WITOFS_LO a) .rw, w (AX_WITTOL a) .rw,
   w (AX_WITST a) .rwr, ⟨.pair (AX_ENERGY_LO a), 8, .ro⟩, w (AX_MOVEEN a) .ro, w (AX_EPFS a) .ro, w (AX_FLTCFG a) .rw,
   w (AX_FLTSTAT a) .rwr, b (AX_FLTCTL a) .wo, w (AX_FLTCNT a) .rw, h (PL_AXMOT a) .rw, w (PL_AXLIVE a) .ro,
   w (PL_AXLRN a) .rw, w (AX_THR a) .ro]

/-- The CiA 402 subset of axis `a`, R340. -/
def findCia (a idx sub : Nat) : Found :=
  let one (k : CiaKind) (addr size : Nat) (acc : Acc) : Found := lone sub ⟨.cia k addr, size, acc⟩
  match idx with
  | 0x6060 => one .mode (AX_MODE a) 1 .rww
  | 0x6061 => one .modeAct (AX_STAT a) 1 .ro
  | 0x6064 => one .pos (AX_POS_LO a) 4 .ro
  | 0x606C => one .vel (AX_VEL a) 4 .ro
  | 0x607A => one .pos (AX_TGT_LO a) 4 .rww
  | 0x607D =>
    match sub with
    | 0 => .ok ⟨.num 2, 1, .ro⟩
    | 1 => .ok ⟨.cia .pos (AX_LIMN_LO a), 4, .rw⟩
    | 2 => .ok ⟨.cia .pos (AX_LIMP_LO a), 4, .rw⟩
    | _ => .error noSub
  | 0x6081 => one .vel (AX_VMAX a) 4 .rw
  | 0x6083 => one .acc (AX_AMAX a) 4 .rw
  | 0x6084 => one .acc (AX_DMAX a) 4 .rw
  | 0x6085 => one .acc (AX_QDMAX a) 4 .rw
  | 0x60FF => one .vel (AX_VTGT a) 4 .rww
  | 0x6502 => lone sub ⟨.num 0x25, 4, .const⟩
  | _ => .error noObject

/-- The object at an index and subindex, R337 to R340. -/
def State.findObj (s : State) (idx sub : Nat) : Found :=
  if idx < 0x2000 then findComm s idx sub
  else if idx < 0x4000 then findVendor idx sub
  else if idx < 0x6000 then
    if idx % 0x40 ≠ 0 then .error noObject
    else if sub = 0 then .ok ⟨.num 0x3F, 1, .ro⟩
    else match (axisBlock ((idx - 0x4000) / 0x40))[sub - 1]? with
      | some d => .ok d
      | none => .error noSub
  else if idx < 0xA000 then findCia ((idx - 0x6000) / 0x800) (0x6000 + (idx - 0x6000) % 0x800) sub
  else .error noObject

/-! ### Bytes -/

/-- The `n` bytes of a number, least significant first. -/
def leBytes (n v : Nat) : List Nat := (List.range n).map fun i => v / 256 ^ i % 256

/-- A number from its bytes, least significant first. -/
def ofBytes : List Nat → Nat
  | [] => 0
  | b :: l => b % 256 + 256 * ofBytes l

/-- Words from bytes, the last filled with zeros. -/
def wordsOf (b : List Nat) : List Word :=
  (List.range (ceilDiv b.length 4)).map fun i => BitVec.ofNat 32 (ofBytes ((b.drop (4 * i)).take 4))

/-- The abort code of a bus error, R333. -/
def busAbort : BusErr → Nat
  | .access | .xipWrite => readOnly
  | .restricted => noAuth
  | .reservedBit | .align => badRange
  | .reservedAddr => noSub
  | .domainOff | .refused => notNow
  | .linkErr | .guard => noTransfer
  | .parity => 0x06060000

/-! ### Reading -/

/-- Outcome of reading an object. -/
inductive Got where
  | bytes (b : List Nat)
  | fail (code : Nat)
  /-- Waits for a coach register exchange at this address. -/
  | wait (addr : Nat)
deriving DecidableEq, Repr

/-- What a master was answered to a read. -/
def gotWord (m : Master) (addr : Nat) (f : Word → List Nat) (s : State) : Got × State :=
  match s.reply m with
  | .data w => (.bytes (f w), s)
  | .error e => (.fail (busAbort e), s)
  | _ => (.wait addr, s)

/-- Reads one register word. -/
def readReg (m : Master) (addr : Nat) (f : Word → List Nat) (s : State) : Got × State :=
  gotWord m addr f (busRead m .word addr s)

/-- Reads consecutive words. -/
def readRegs (m : Master) : List Nat → State → Got × State
  | [], s => (.bytes [], s)
  | a :: l, s =>
    match readReg m a (fun w => leBytes 4 w.toNat) s with
    | (.bytes b, s) =>
      match readRegs m l s with
      | (.bytes b', s) => (.bytes (b ++ b'), s)
      | r => r
    | r => r

/-- Quotient rounded to nearest, halves away from zero. -/
def roundAway (n : Int) (d : Nat) : Int :=
  let q : Int := Int.ofNat ((2 * n.natAbs + d) / (2 * d))
  if n < 0 then -q else q

/-- AX_MODE as 0x6060 codes it, R340; chain and follow as 0x6061 does. -/
def ciaMode (m : Nat) : Int :=
  match m with
  | 0 => 0 | 1 => 1 | 2 => 3 | 3 => -3 | 4 => -1 | _ => 6

/-- A register value as a CiA 402 object gives it. -/
def ciaRead (k : CiaKind) (addr : Nat) (w : Word) : Int :=
  let sgn := locate addr |>.any fun l => l.defn.reg = .AX_VEL || l.defn.reg = .AX_VTGT
  let v : Int := if sgn then signed 32 w.toNat else (w.toNat : Int)
  match k with
  | .mode => ciaMode (wordField w 2 0)
  | .modeAct =>
    let f : Fld := AX_STAT.MODEACT 0
    ciaMode (wordField w f.hi f.lo)
  | .pos => 0
  | .vel => roundAway (v * 100000) 65536
  | .acc => roundAway (v * 10 ^ 10) (2 ^ 32)

/-- A pair as its 64-bit value. -/
def pairOf (b : List Nat) : Int := signed 64 (ofBytes b)

/-- An entry of the clamp report in bytes, R335. -/
def ClampRec.bytes (x : ClampRec) : List Nat :=
  leBytes 3 x.ref ++ [x.source] ++ leBytes 6 (unsigned 48 x.req) ++ leBytes 6 (unsigned 48 x.app)

/-- Objects the firmware serves, but for those of R374. -/
def firmRead (m : Master) (idx sub : Nat) (s : State) : Got × State :=
  match idx with
  | 0x1001 => (.bytes [s.net.errReg], s)
  | 0x1003 =>
    if sub = 0 then (.bytes [s.net.errHist.length], s) else (.bytes (leBytes 4 (s.net.errHist.getD (sub - 1) 0)), s)
  | 0x1010 => (.bytes [1, 0, 0, 0], s)
  | 0x1011 => (.bytes [1, 0, 0, 0], s)
  | 0x2100 =>
    if sub = 1 then (.bytes (leBytes 4 s.net.regWin), s) else readReg m s.net.regWin (fun w => leBytes 4 w.toNat) s
  | 0x2800 =>
    let n := if sub = 2 then s.saveCount else clampNat 1 128 (wordField (s.rd (PL_RCPHDR 1)) 23 16)
    let es := (List.range n).flatMap fun e => s.rcpWords e
    let hdr := if sub = 2 then [] else [0, 1, 2, 3].map fun i => s.rd (PL_RCPHDR i)
    (.bytes ((hdr ++ es).flatMap fun w => leBytes 4 w.toNat), s)
  | 0x2F00 =>
    if sub = 2 then (.bytes (leBytes 2 s.net.clampCnt), s)
    else match s.net.clamps[sub - 3]? with
      | some x => (.bytes x.bytes, s)
      | none => (.bytes (List.replicate 16 0), s)
  | 0x3100 =>
    let ws := s.logWords
    let s := if s.unread = 0 then s
      else (s.wr MGS_LOGRPTR (BitVec.ofNat 32 ((s.rd MGS_LOGRPTR).toNat + 1))).modMgs fun x => { x with logIdx := 0 }
    (.bytes (ws.flatMap fun w => leBytes 4 w.toNat), s)
  | _ => (.fail writeOnly, s)

/-- Reads an object's value as bytes. -/
def readObj (m : Master) (idx sub : Nat) (d : ObjDef) (s : State) : Got × State :=
  match d.place with
  | .num v => (.bytes (leBytes d.size v), s)
  | .text b => (.bytes b, s)
  | .comm => (.bytes (leBytes d.size (s.obj idx sub).toNat), s)
  | .word addr => readReg m addr (fun w => leBytes d.size w.toNat) s
  | .field f => readReg m f.addr (fun w => leBytes d.size (wordField w f.hi f.lo)) s
  | .pair addr =>
    match readRegs m [addr, addr + 4] s with
    | (.bytes b, s) => (.bytes (b.take d.size), s)
    | r => r
  | .enable a => readReg m (0x102000 + 4 * a) (fun w => leBytes 1 w.toNat) s
  | .octets addr => readRegs m [addr, addr + 4, addr + 8, addr + 12] s
  | .result e =>
    match readRegs m ((List.range 6).map fun i => PL_RES e + 4 * i) s with
    | (.bytes b, s) => (.bytes (b ++ List.replicate 8 0), s)
    | r => r
  | .lin k => if s.afeOn then (.bytes (leBytes 4 (s.lin k).toNat), s) else (.fail notNow, s)
  | .linOut key => (.bytes (leBytes 4 ((Sparse.get (fun _ => none) s.afe.linSlot key).getD f32NaN).toNat), s)
  | .cia k addr =>
    match k with
    | .pos =>
      match readRegs m [addr, addr + 4] s with
      | (.bytes b, s) => (.bytes (leBytes 4 (unsigned 32 (clampInt (-(2 ^ 31)) (2 ^ 31 - 1) (pairOf b)))), s)
      | r => r
    | _ => readReg m addr (fun w => leBytes d.size (unsigned (8 * d.size) (ciaRead k addr w))) s
  | .firm => firmRead m idx sub s

/-! ### Writing -/

/-- Outcome of writing an object. -/
inductive Put where
  | done
  | fail (code : Nat)
  | wait (addr : Nat)
deriving DecidableEq, Repr

/-- What a master was answered to a write. -/
def putReply (m : Master) (addr : Nat) (s : State) : Put × State :=
  match s.reply m with
  | .done => (.done, s)
  | .error e => (.fail (busAbort e), s)
  | _ => (.wait addr, s)

/-- Whether a word write would be clamped: STRICT refuses it, R334. -/
def State.wordClamps (s : State) (addr : Nat) (v : Word) : Bool :=
  match locate addr with
  | none => false
  | some l =>
    match decodeWrite { l with compl := false } (s.latest addr) v s with
    | none => false
    | some (x, cl) => !cl.isEmpty || !(stateClamps l x s).2.isEmpty

/-- Whether a pair write would be clamped. -/
def State.pairClamps (s : State) (addr : Nat) (v : Int) : Bool :=
  match locate addr with
  | none => false
  | some l => l.blk = .AX && pairClamp l v s ≠ v

/-- The word a write of an object's field gives, with the mask of R74 on a masked register; `hi` and `lo` are the field's bits. -/
def State.fieldWrite (s : State) (addr hi lo v : Nat) : Word :=
  match locate addr with
  | none => BitVec.ofNat 32 v
  | some l =>
    if l.defn.masked then
      let m : Word := if hi = 31 then 0xFFFF0000 else fieldMask hi lo <<< 16
      (wordPut 0 hi lo v &&& 0xFFFF) ||| m
    else wordPut (s.latest addr &&& l.defn.maskOf FieldDef.isValue) hi lo v

/-- Writes a register word, a guarded one as a pair of V and its complement, R332. -/
def writeReg (m : Master) (strict : Bool) (addr : Nat) (v : Word) (s : State) : Put × State :=
  if strict && s.wordClamps addr v then (.fail badRange, s)
  else
    let g : Bool := (locate addr).any fun l => l.defn.guarded && !l.compl
    putReply m addr (if g then guardedWrite m addr v s else regWrite m addr v s)

/-- Writes a pair LO then HI. -/
def writePair (m : Master) (strict : Bool) (addr : Nat) (v : Int) (s : State) : Put × State :=
  if strict && s.pairClamps addr v then (.fail badRange, s)
  else
    let u := unsigned 64 v
    match putReply m addr (regWrite m addr (BitVec.ofNat 32 u) s) with
    | (.done, s) => putReply m addr (regWrite m (addr + 4) (BitVec.ofNat 32 (u / 2 ^ 32)) s)
    | r => r

/-- Writes consecutive words, stopping at an error. -/
def writeRegs (m : Master) : List (Nat × Word) → State → Put × State
  | [], s => (.done, s)
  | (a, w) :: l, s =>
    match putReply m a (regWrite m a w s) with
    | (.done, s) => writeRegs m l s
    | r => r

/-- A field's value kept to the field, with its clamp in the report. -/
def fitField (strict : Bool) (f : Fld) (v : Nat) (s : State) : Except Nat (Nat × State) :=
  if v ≤ f.max then .ok (v, s)
  else if strict then .error badRange
  else .ok (f.max, recordClamp f.addr false ⟨v, f.max, 0, 0⟩ s)

/-- AX_MODE for a value of 0x6060; none if it is not defined. -/
def modeOfCia (v : Int) : Option Nat := if v = 0 then some 0 else if v = 1 then some 1 else if v = 3 then some 2 else if v = 6 then some 5 else none

/-- The register word of a CiA 402 value, R340: the value is kept within 32 bits for the range checks that follow. -/
def ciaWord (k : CiaKind) (sgn : Bool) (v : Int) : Word :=
  let x : Int := match k with
    | .vel => roundAway (v * 65536) 100000
    | _ => roundAway (v * 2 ^ 32) (10 ^ 10)
  if sgn then BitVec.ofNat 32 (unsigned 32 (clampInt (-(2 ^ 31)) (2 ^ 31 - 1) x)) else BitVec.ofNat 32 (clampInt 0 (2 ^ 32 - 1) x).toNat

/-- The largest legal value of a quantity in bits [hi:0] of a register, if a word does not fit its field, R87. -/
def tooWide (addr : Nat) (w : Word) : Option Word :=
  match locate addr with
  | none => none
  | some l => match l.defn.fields with
    | [f] => match f.chk with
      | .range _ hi => if w.toNat < 2 ^ (f.hi + 1) then none else some (BitVec.ofNat 32 hi)
      | _ => none
    | _ => none

/-- Writes a word of the linearisation store, R278 and R378. -/
def writeLin (strict : Bool) (k : Nat) (w : Word) (s : State) : Put × State :=
  let y := linStored k w
  if !s.afeOn || linRefused k w then (.fail notNow, s)
  else if s.locked && s.lin k ≠ y then (.fail notNow, s)
  else if y = w then (.done, s.setLin k y)
  else if strict then (.fail badRange, s)
  else (.done, s.setLin k y |> reportClamp (SD_LINDATA 0) ⟨wordField w 10 8, wordField y 10 8, 0, 8⟩ |> pend 118 0 0)

/-! ### Communication objects, R322 to R326 and R337 -/

/-- Whether an object can be mapped into an RPDO (`rx`) or a TPDO, with its size in bytes, R324. -/
def State.mappable (s : State) (rx : Bool) (idx sub : Nat) : Option Nat :=
  if rx && decide (2 ≤ idx) && decide (idx ≤ 7) then
    some (match idx with | 2 => 1 | 3 => 2 | 4 => 4 | 5 => 1 | 6 => 2 | _ => 4)
  else match s.findObj idx sub with
    | .error _ => none
    | .ok d =>
      let live : Bool := match d.place with
        | .word addr => (coachOf addr).isNone
        | .field _ | .pair _ | .enable _ | .result _ | .cia _ _ => true
        | _ => false
      let ro : Bool := d.acc = .ro && !(inRange 0x2000 0x10 idx || idx = 0x2011 || idx = 0x2012 || idx = 0x2014 || idx = 0x2200
        || idx = 0x2300 || inRange 0x2400 0x10 idx || inRange 0x2500 0x18 idx || idx = 0x2600 || inRange 0x2700 0x20 idx
        || inRange 0x1000 0x1000 idx)
      if live && (if rx then d.acc = .rww else d.acc = .rwr || ro) then some d.size else none

/-- Index, subindex and length in bytes of a mapping entry. -/
def mapIdx (w : Word) : Nat := wordField w 31 16
def mapSub (w : Word) : Nat := wordField w 15 8
def mapLen (w : Word) : Nat := wordField w 7 0 / 8

/-- The entries of a mapping in force. -/
def State.mapping (s : State) (base n : Nat) : List Word := (List.range (s.obj (base + n) 0).toNat).map fun i => s.obj (base + n) (i + 1)

/-- Length of a mapping in bytes. -/
def mapBytes (l : List Word) : Nat := (l.map mapLen).foldl (· + ·) 0

/-- Whether a PDO is valid: bit 31 of its COB-ID is 0. -/
def State.pdoValid (s : State) (base n : Nat) : Bool := !(s.obj (base + n) 1).getLsbD 31

/-- The checks of a mapping write, R324: abort code, or 0. -/
def State.mapCheck (s : State) (idx sub v : Nat) : Nat :=
  let rx : Bool := decide (idx < 0x1800)
  let n := idx % 0x40
  if s.pdoValid (if rx then 0x1400 else 0x1800) n then notNow
  else
    let cnt := (s.obj idx 0).toNat
    if sub = 0 then
      if v = 0 then 0
      else if cnt ≠ 0 then notNow
      else if 64 < v then 0x06040042
      else
        let l := (List.range v).map fun i => s.obj idx (i + 1)
        if l.any fun w => (s.mappable rx (mapIdx w) (mapSub w)).isNone then 0x06040041
        else if 64 < mapBytes l then 0x06040042 else 0
    else if cnt ≠ 0 then notNow
    else
      let w := BitVec.ofNat 32 v
      match s.mappable rx (mapIdx w) (mapSub w) with
      | none => 0x06040041
      | some k => if wordField w 7 0 = 8 * k then 0 else 0x06040041

/-- The checks of a communication object write: the abort code, or the value stored. -/
def State.commCheck (s : State) (idx sub v : Nat) : Except Nat Nat :=
  if idx = 0x1005 && natBit v 30 then .error badRange
  else if idx = 0x1012 && natBit v 30 then .error notNow
  else if idx = 0x1016 then
    let node := v / 65536 % 256
    if node ≠ 0 && (List.range 32).any fun i => i + 1 ≠ sub && wordField (s.obj idx (i + 1)) 23 16 = node then .error 0x06040043
    else .ok v
  else if idx = 0x1019 then .ok (if v = 1 then 2 else if 240 < v then 240 else v)
  else if idx = 0x1029 then (if v ≤ 2 then .ok v else .error notNow)
  else if idx = 0x1F80 then (if v = 0 || v = 4 then .ok v else .error badRange)
  else if idx = 0x2016 then (if v < 128 || v = 0xFF then .ok v else .error notNow)
  else if idx = 0x2017 then (if v ≤ 2 then .ok v else .error notNow)
  else if idx = 0x2F00 then (if v ≤ 1 then .ok v else .error notNow)
  else if (idx / 0x40 = 0x1400 / 0x40 || idx / 0x40 = 0x1800 / 0x40) && sub = 2 then
    (if v ≤ 240 || v = 254 || v = 255 then .ok v else .error notNow)
  else if idx / 0x40 = 0x1600 / 0x40 || idx / 0x40 = 0x1A00 / 0x40 then
    (if s.mapCheck idx sub v = 0 then .ok v else .error (s.mapCheck idx sub v))
  else .ok v

/-- A heartbeat consumer entry that names another node is not monitored until that node's first heartbeat, and is not lost
(DEDUCED, log entry 63), R320. -/
def dropMonitor (idx sub v : Nat) (s : State) : State :=
  if idx ≠ 0x1016 || sub = 0 || v / 65536 % 256 = wordField (s.obj idx sub) 23 16 then s
  else
    (s.putBitAt NET_HB (sub - 1) false).modNet fun n =>
      { n with hbMon0 := natPutBit n.hbMon0 (sub - 1) false, hbMon1 := natPutBit n.hbMon1 (sub - 1) false }

/-- Writes a communication object. -/
def writeComm (strict : Bool) (idx sub v : Nat) (s : State) : Put × State :=
  match s.commCheck idx sub v with
  | .error e => (.fail e, s)
  | .ok y =>
    if s.locked && (s.obj idx sub).toNat ≠ y then (.fail notNow, s)
    else if y = v then (.done, (dropMonitor idx sub v s).setObj idx sub (BitVec.ofNat 32 v))
    else if strict then (.fail badRange, s)
    else (.done, (s.setObj idx sub (BitVec.ofNat 32 y)) |> reportClamp 0 ⟨v, y, 0, 0⟩ |> pend 118 0 0)

/-! ### Objects of the firmware -/

/-- Writes entries of the recipe buffer from entry 0, the rest cleared, R338. -/
def writeEntries (ws : List Word) (s : State) : State :=
  let n := ws.length / 4
  plTo 1 (forEach (List.range 128) (fun e s => putEntry e (if e < n then (ws.drop (4 * e)).take 4 else []) s) s)

/-- Downloads to the objects the firmware serves, but for 0x1010, 0x1011, 0x3200 and 0x3300. -/
def firmWrite (m : Master) (strict : Bool) (idx sub : Nat) (b : List Nat) (s : State) : Put × State :=
  let v := ofBytes b
  match idx with
  | 0x1003 => if v = 0 then (.done, s.modNet fun n => { n with errHist := [] }) else (.fail badRange, s)
  | 0x2100 =>
    if sub = 1 then
      if v ≤ 0x7FFFFC then (.done, s.modNet fun n => { n with regWin := v })
      else if strict then (.fail badRange, s)
      else (.done, (s.modNet fun n => { n with regWin := 0x7FFFFC }) |> reportClamp 0 ⟨v, 0x7FFFFC, 0, 0⟩ |> pend 118 0 0)
    else
      let addr := s.net.regWin
      writeReg m strict addr (s.fieldWrite addr 31 0 v) s
  | 0x2800 =>
    let n := b.length
    if n % 16 ≠ 0 || (if sub = 2 then decide (n < 16) || decide (2048 < n) else decide (n < 32) || decide (2064 < n)) then
      (.fail badLength, s)
    else if s.recipeRefused then (.fail notNow, s)
    else
      let ws := wordsOf b
      if sub = 2 then (.done, writeEntries ws s)
      else
        let e := if ws.length < 4 * (wordField (ws.getD 1 0) 23 16 + 1) then 7 else imageError ws
        if e ≠ 0 then (.fail noTransfer, s.put PL_STAT.ERR e) else (.done, loadImage ws s)
  | 0x2F00 => if v = 0 then (.done, s.modNet fun n => { n with clamps := [], clampCnt := 0 }) else (.fail badRange, s)
  | _ => (.fail readOnly, s)

/-- Writes an object's value. -/
def writePlace (m : Master) (strict : Bool) (idx sub : Nat) (d : ObjDef) (b : List Nat) (s : State) : Put × State :=
  let v := ofBytes b
  match d.place with
  | .comm => writeComm strict idx sub v s
  | .word addr => writeReg m strict addr (s.fieldWrite addr (8 * d.size - 1) 0 v) s
  | .field f =>
    match fitField strict f v s with
    | .error e => (.fail e, s)
    | .ok (v, s) => writeReg m strict f.addr (s.fieldWrite f.addr f.hi f.lo v) s
  | .pair addr => writePair m strict addr (signed (8 * d.size) v) s
  | .enable a =>
    -- a value above 1 carries reserved bits of the alias, R82
    if strict && decide (1 < v) then (.fail badRange, s)
    else putReply m a (regWrite m (0x102000 + 4 * a) (BitVec.ofNat 32 v) s)
  | .octets addr =>
    let ws := wordsOf b
    writeRegs m ((List.range 4).map fun i => (addr + 4 * i, ws.getD i 0)) s
  | .lin k => writeLin strict k (BitVec.ofNat 32 v) s
  | .cia k addr =>
    let x := signed (8 * d.size) v
    match k with
    | .mode =>
      -- a mode that is not defined is written as one that AX_MODE does not define, R87
      writeReg m strict addr (s.fieldWrite addr 2 0 ((modeOfCia x).getD 7)) s
    | .pos => writePair m strict addr x s
    | _ =>
      let sgn : Bool := (locate addr).any fun l => l.defn.reg = .AX_VTGT
      let w := ciaWord k sgn (if sgn then x else (v : Int))
      match tooWide addr w with
      | none => writeReg m strict addr w s
      | some y =>
        if strict then (.fail badRange, s)
        else writeReg m strict addr y (recordClamp addr false ⟨w.toNat, y.toNat, 0, 0⟩ s)
  | .firm => firmWrite m strict idx sub b s
  | _ => (.fail readOnly, s)

/-- Writes an object, the clamps it makes noted under its index: `kind` is 0 for a USDO download, 1 for an RPDO, R335. -/
def writeObj (m : Master) (strict : Bool) (kind idx sub : Nat) (d : ObjDef) (b : List Nat) (s : State) : Put × State :=
  let s := s.modNet fun n => { n with clampSrc := some (kind, idx + 65536 * sub) }
  let (r, s) := writePlace m strict idx sub d b s
  (r, s.modNet fun n => { n with clampSrc := none })

end Sys2Proof.Machine
end

