-- ==== Sys2Proof/Machine/UsdoOps.lean ====
section
/-!
DEFINITION. Machine/UsdoOps.lean: the USDO server (R327 to R331, R336): contexts, transfers, authentication in a context,
malformed frames and quarantine.
-/

namespace Sys2Proof.Machine

/-- A frame arrives on controller `k` while the fabric runs: it wakes the device from DOZE, R57. -/
def received (k : Nat) (s : State) : State := if s.runState = 1 then dozeEnd (noteWake k s) else s

/-- Whether the node takes frames of controller `k`. -/
def State.hears (s : State) (k : Nat) : Bool := s.canReceives k && s.fabricOn

/-! ### Malformed frames and quarantine, R330 -/

/-- A node is quarantined: its contexts close without a response. -/
def quarantine (node : Nat) (s : State) : State :=
  let s := closeContexts (fun c => c.node = node) s
  let s := s.modNet fun n =>
    { n with
      quar := if n.quar.contains node then n.quar else n.quar ++ [node]
      mal := n.mal.filter fun x => x.1 ≠ some node
      badResp := Sparse.set (fun _ => 0) n.badResp node 0 }
  let s := ((s.inc NET_MAL.QCNT).put NET_MAL.QACT 1).put NET_MAL.LASTNODE node
  pendSrc 110 s

/-- MALFORMED_FRAME: a malformed frame of a node, or of none. A request with node-ID 0 or the node's own names no client. -/
def malformed (node : Option Nat) (s : State) : State :=
  let node := node.filter fun n => n ≠ 0 && n ≠ s.node
  let ignored : Bool := match node with
    | some n => s.net.quar.contains n
    | none => false
  if ignored then s
  else
    let s := s.inc NET_MAL.MALCNT
    let l := (s.net.mal.filter fun x => decide (s.elapsed < x.2 + 100000)) ++ [(node, s.elapsed)]
    let s := s.modNet fun n => { n with mal := l }
    let count := (l.filter fun x => x.1 = node).length
    match node with
    | some n => if s.get NET_GUARD.MALLIM < count then quarantine n s else s
    | none =>
      -- the excess begins with this frame, or with a limit lowered since the last
      let most := 4 * s.get NET_GUARD.MALLIM
      let was : Bool := decide (most < count - 1) && s.net.malOver
      let now : Bool := decide (most < count)
      applyIf (now && !was) (pendSrc 110) (s.modNet fun n => { n with malOver := now })

/-- QUARANTINE_END. -/
def quarantineEnd (node : Nat) (s : State) : State :=
  if s.net.quar.contains node then
    let s := s.modNet fun n => { n with quar := n.quar.filter (· ≠ node) }
    if s.get NET_MAL.LASTNODE = node then s.put NET_MAL.QACT 0 else s
  else s

/-! ### Contexts, R328 -/

/-- Controller, client node-ID and session ID. -/
structure CtxKey where
  can  : Nat
  node : Nat
  sess : Nat
deriving DecidableEq, Repr

/-- Whether a context has a key. -/
def CtxKey.names (k : CtxKey) (c : Ctx) : Bool := c.can = k.can && c.node = k.node && c.sess = k.sess

/-- The context of a key. -/
def State.ctx (s : State) (k : CtxKey) : Option Ctx := s.net.ctxs.find? k.names

/-- Changes the context of a key. -/
def modCtx (k : CtxKey) (f : Ctx → Ctx) (s : State) : State :=
  s.modNet fun n => { n with ctxs := n.ctxs.map fun c => if k.names c then f c else c }

/-- A response goes out on the controller that received the request, R313 and R327. -/
def usdoReply (k : CtxKey) (r : UsdoResp) (s : State) : State := txAdd k.can ⟨0x580 + s.node, .usdo k.node k.sess r⟩ s

/-- The transfer of a context is over: the context closes, unless it is authenticated or holds a challenge that a response may
still answer. -/
def endTransfer (k : CtxKey) (s : State) : State :=
  let s := modCtx k (fun c => { c with xfer := none, wait := .none }) s
  closeContexts (fun c => k.names c && !c.auth && c.chal.isNone && c.resp.isNone) s

/-- A transfer ends with its response. -/
def finishUsdo (k : CtxKey) (r : UsdoResp) (s : State) : State := endTransfer k (usdoReply k r s)

/-- Whether a new context may be opened, and whether its refusal pends event 108. -/
def State.ctxRoom (s : State) (node : Nat) : Bool × Bool :=
  let l := s.net.ctxs
  let holder : Bool := l.any fun c => c.node = node && c.auth
  let open_ := (l.filter fun c => !c.auth).length
  if s.get NET_GUARD.PERNODE ≤ (l.filter fun c => c.node = node).length then (false, false)
  else if 256 ≤ l.length || (224 ≤ open_ && !holder) then (false, true)
  else (true, false)

/-- Opens a context, or refuses it. -/
def openCtx (k : CtxKey) (s : State) : Bool × State :=
  match s.ctx k with
  | some _ => (true, s)
  | none =>
    match s.ctxRoom k.node with
    | (true, _) => (true, showSessions (s.modNet fun n => { n with ctxs := n.ctxs ++ [{ can := k.can, node := k.node, sess := k.sess }] }))
    | (false, full) =>
      let s := if full then pendSrc 108 (s.inc NET_SESS.FULL) else s
      (false, usdoReply k (.abort 0x05040005) s)

/-- Whether a context is authenticated. -/
def State.ctxAuth (s : State) (k : CtxKey) : Bool := (s.ctx k).any (·.auth)

/-! ### Uploads -/

/-- Bytes of an upload that the first response, and each later one, carries: an expedited transfer holds up to 56. -/
def usdoChunk : Nat := 56

/-- Segments of a sub-block that the server asks for. -/
def blockMax : Nat := 127

/-- The block run of the transfer of a context. -/
def State.blockOf (s : State) (k : CtxKey) : Option BlockRun := (s.ctx k).bind fun c => c.xfer.bind (·.block)

/-- The data of an upload is sent, all of it at once or in parts; a block upload first tells how much is to come. -/
def sendData (k : CtxKey) (b : List Nat) (s : State) : State :=
  if (s.blockOf k).isSome then
    modCtx k (fun c => { c with wait := .none, xfer := c.xfer.map fun x => { x with data := b } }) (usdoReply k (.blockReady b.length) s)
  else if b.length ≤ usdoChunk then finishUsdo k (.data b) s
  else
    let s := usdoReply k (.data (b.take usdoChunk)) s
    modCtx k (fun c => { c with wait := .none, xfer := c.xfer.map fun x => { x with data := b.drop usdoChunk } }) s

/-- The state of a context at 0x3300:03, R381. -/
def State.ctxState (s : State) (k : CtxKey) : Nat :=
  if s.on MGS_PROV.ERASED then 3
  else match s.ctx k with
    | some c => if c.auth then 2 else if c.chal.isSome then 1 else 0
    | none => 0

/-- Reads an object for an upload; a challenge is issued by the upload itself, R374. -/
def uploadValue (k : CtxKey) (idx sub : Nat) (d : ObjDef) (s : State) : Got × State :=
  if idx = 0x3300 && sub = 1 then
    let (c, s) := newChallenge s
    (.bytes (c.flatMap fun w => leBytes 4 w.toNat), modCtx k (fun x => { x with chal := some c }) s)
  else if idx = 0x3300 && sub = 3 then (.bytes [s.ctxState k], s)
  else readObj .trio idx sub d s

/-- The first request of an upload, in its context; `block` for a block upload. -/
def upload (k : CtxKey) (idx sub : Nat) (block : Option BlockRun) (s : State) : State :=
  match s.findObj idx sub with
  | .error e => finishUsdo k (.abort e) s
  | .ok d =>
    if d.acc = .wo then finishUsdo k (.abort writeOnly) s
    else if ((idx = 0x3100 && sub = 3) || (idx = 0x3400 && sub = 1)) && !s.ctxAuth k then finishUsdo k (.abort noAuth) s
    else
      let s := modCtx k (fun c => { c with xfer := some { idx := idx, sub := sub, down := false, block := block } }) s
      match uploadValue k idx sub d s with
      | (.bytes b, s) => sendData k b s
      | (.fail e, s) => finishUsdo k (.abort e) s
      | (.wait addr, s) => modCtx k (fun c => { c with wait := .exchange false idx sub addr }) s

/-! ### Downloads -/

/-- The largest download of an object, R327. -/
def downloadMax (idx sub : Nat) : Nat := if idx = 0x3200 && sub = 2 then 0x200000 else 2064

/-- Whether STRICT checking is on, R334. -/
def State.strict (s : State) : Bool := s.obj 0x2F00 1 ≠ 0

/-- The outcome of a write answers the request. -/
def answerPut (k : CtxKey) (idx sub : Nat) (r : Put) (s : State) : State :=
  match r with
  | .done => finishUsdo k .ok s
  | .fail e => finishUsdo k (.abort e) s
  | .wait addr => modCtx k (fun c => { c with wait := .exchange true idx sub addr }) s

/-- A store or erase asked for through the objects, R336: `cmd` is the GCTL_STORE command. -/
def storeObject (k : CtxKey) (cmd word value : Nat) (s : State) : State :=
  if value ≠ word then finishUsdo k (.abort noTransfer) s
  else
    let s := guardedWrite .trio GCTL_STORE (BitVec.ofNat 32 cmd) s
    match s.reply .trio with
    | .done => modCtx k (fun c => { c with wait := .store }) s
    | .error e => finishUsdo k (.abort (busAbort e)) s
    | _ => finishUsdo k (.abort notNow) s

/-- The image download starts with BEGIN, R368. -/
def beginImage (k : CtxKey) (b : List Nat) (s : State) : State :=
  if b.isEmpty then finishUsdo k (.abort badLength) s
  else if s.imageRefused then finishUsdo k (.abort notNow) s
  else
    let s := regWrite .trio MGS_UPDCTL 1 s
    match s.reply .trio with
    | .done => modCtx k (fun c => { c with wait := .update, xfer := some { idx := 0x3200, sub := 2, down := true, data := b } }) s
    | .error e => finishUsdo k (.abort (busAbort e)) s
    | _ => finishUsdo k (.abort notNow) s

/-- A download whose last byte has arrived is performed, R329. -/
def perform (k : CtxKey) (idx sub : Nat) (d : ObjDef) (b : List Nat) (s : State) : State :=
  if d.size ≠ 0 && b.length ≠ d.size then finishUsdo k (.abort badLength) s
  else if idx = 0x1010 then storeObject k 3 0x65766173 (ofBytes b) s
  else if idx = 0x1011 then storeObject k 4 0x64616F6C (ofBytes b) s
  else if idx = 0x3200 && sub = 2 then beginImage k b s
  else if idx = 0x3300 && sub = 2 then modCtx k (fun c => { c with xfer := none, resp := some (wordsOf b) }) s
  else if idx = 0x3300 && sub = 4 then closeContexts k.names (usdoReply k .ok s)
  else
    let (r, s) := writeObj .trio s.strict 0 idx sub d b s
    answerPut k idx sub r s

/-- Bytes of a download arrive. -/
def downloadData (k : CtxKey) (idx sub : Nat) (b : List Nat) (last : Bool) (s : State) : State :=
  match s.findObj idx sub with
  | .error e => finishUsdo k (.abort e) s
  | .ok d =>
    if downloadMax idx sub < b.length then finishUsdo k (.abort badLength) s
    else if last then perform k idx sub d b s
    else
      usdoReply k .ok (modCtx k (fun c => { c with xfer := some { idx := idx, sub := sub, down := true, data := b } }) s)

/-- Why the first request of a download is aborted, R331, R333 and R368; none if it is taken. Authentication is checked first. -/
def State.downloadStop (s : State) (k : CtxKey) (idx sub : Nat) : Option Nat :=
  if idx ≠ 0x3300 && !s.ctxAuth k then some noAuth
  else match s.findObj idx sub with
    | .error e => some e
    | .ok d =>
      if d.acc = .ro || d.acc = .const then some readOnly
      else if idx = 0x3200 && sub = 2 && s.imageRefused then some notNow
      else none

/-- The first request of a download, in its context. -/
def download (k : CtxKey) (idx sub : Nat) (b : List Nat) (last : Bool) (s : State) : State :=
  match s.downloadStop k idx sub with
  | some e => finishUsdo k (.abort e) s
  | none => downloadData k idx sub b last s

/-! ### Block transfers, R327 (PRESUMED from CiA 1301, log entry 66) -/

/-- A block download begins. -/
def blockDownload (k : CtxKey) (idx sub : Nat) (s : State) : State :=
  match s.downloadStop k idx sub with
  | some e => finishUsdo k (.abort e) s
  | none =>
    usdoReply k (.blockReady blockMax)
      (modCtx k (fun c => { c with xfer := some { idx := idx, sub := sub, down := true, block := some ⟨blockMax, 0, false⟩ } }) s)

/-- A segment of a sub-block arrives in order: the sub-block's last one is acknowledged. -/
def blockSegment (k : CtxKey) (x : Xfer) (b : BlockRun) (bytes : List Nat) (last : Bool) (s : State) : State :=
  let data := x.data ++ bytes
  if downloadMax x.idx x.sub < data.length then finishUsdo k (.abort badLength) s
  else
    let n := b.seq + 1
    let full : Bool := last || n = b.size
    let b := { b with seq := if full then 0 else n, ended := last }
    let s := modCtx k (fun c => { c with xfer := some { x with data := data, block := some b } }) s
    if full then usdoReply k (.blockAck n blockMax) s else s

/-- The segments of a sub-block of at most `n` that carry `b`: numbered from 1, the last of the data marked. -/
def blockParts : Nat → Nat → List Nat → List (Nat × List Nat × Bool)
  | 0, _, _ => []
  | n + 1, i, b =>
    if b.length ≤ usdoChunk then [(i, b, true)] else (i, b.take usdoChunk, false) :: blockParts n (i + 1) (b.drop usdoChunk)

/-- A sub-block of an upload is sent. -/
def sendBlock (k : CtxKey) (x : Xfer) (size : Nat) (s : State) : State :=
  let l := blockParts size 1 x.data
  let s := modCtx k (fun c => { c with xfer := some { x with block := some ⟨size, l.length, false⟩ } }) s
  l.foldl (fun s p => usdoReply k (.blockSegment p.1 p.2.1 p.2.2) s) s

/-- The client has received a sub-block up to segment `seq`: what is left is sent, or the upload ends. -/
def blockAcked (k : CtxKey) (x : Xfer) (b : BlockRun) (seq size : Nat) (s : State) : State :=
  let x := { x with data := x.data.drop (seq * usdoChunk) }
  if x.data.isEmpty then
    usdoReply k .blockEnd (modCtx k (fun c => { c with xfer := some { x with block := some { b with ended := true } } }) s)
  else sendBlock k x size s

/-! ### Requests -/

/-- Whether a context waits for something before its answer. -/
def Ctx.busy (c : Ctx) : Bool := c.wait ≠ .none || c.resp.isSome

/-- The CiA 1301 abort codes of a wrong toggle, a wrong command and a wrong sequence number (PRESUMED, log entry 66). -/
def wrongToggle : Nat := 0x05030000
def wrongCommand : Nat := 0x05040001
def wrongSize : Nat := 0x05040002
def wrongSequence : Nat := 0x05040003

/-- A request out of sequence is malformed and ends its transfer, R329 and R330; a node quarantined for it gets no response. -/
def endWrong (k : CtxKey) (code : Nat) (s : State) : State :=
  let s := malformed (some k.node) s
  if s.net.quar.contains k.node then s else finishUsdo k (.abort code) s

/-- A request in a block transfer. -/
def nextBlock (k : CtxKey) (x : Xfer) (b : BlockRun) (op : UsdoOp) (s : State) : State :=
  match op, x.down with
  | .blockSegment seq bytes last, true =>
    if b.ended || seq.toNat ≠ b.seq + 1 then endWrong k wrongSequence s else blockSegment k x b (bytes.map (·.toNat)) last s
  | .blockEnd, true =>
    if !b.ended then endWrong k wrongSequence s
    else match s.findObj x.idx x.sub with
      | .error e => finishUsdo k (.abort e) s
      | .ok d => perform k x.idx x.sub d x.data s
  | .blockStart, false => if b.ended || b.seq ≠ 0 then endWrong k wrongSequence s else sendBlock k x b.size s
  | .blockAck seq size, false =>
    if b.ended || b.seq = 0 || b.seq < seq.toNat then endWrong k wrongSequence s
    else if size = 0 then endWrong k wrongSize s
    else blockAcked k x b seq.toNat size.toNat s
  | .blockDone, false => if b.ended then endTransfer k s else endWrong k wrongSequence s
  | .outOfSequence, _ => endWrong k wrongSequence s
  | _, _ => endWrong k wrongCommand s

/-- A request in a segmented transfer. -/
def nextSegment (k : CtxKey) (x : Xfer) (op : UsdoOp) (s : State) : State :=
  match op, x.down with
  | .segment b last, true => downloadData k x.idx x.sub (x.data ++ b.map (·.toNat)) last s
  | .next last, false => if last then endTransfer k s else sendData k x.data s
  | .outOfSequence, _ => endWrong k wrongToggle s
  | _, _ => endWrong k wrongCommand s

/-- A request in the context of its transfer. -/
def nextRequest (k : CtxKey) (op : UsdoOp) (s : State) : State :=
  match s.ctx k with
  | none => malformed (some k.node) s
  | some c =>
    if c.busy then s
    else match op, c.xfer with
      | .abort _, _ => endTransfer k s
      | _, none => malformed (some k.node) s
      | op, some x => match x.block with
        | some b => nextBlock k x b op s
        | none => nextSegment k x op s

/-- The first request of a transfer: its context is opened, unless it exists or must be refused, R328. -/
def firstRequest (k : CtxKey) (f : State → State) (s : State) : State :=
  if (s.ctx k).any (·.busy) then s
  else match openCtx k s with
    | (true, s) => f s
    | (false, s) => s

/-- USDO_REQUEST, R327: served in Pre-operational and Operational, R317. -/
def usdoRequest (k : CtxKey) (op : UsdoOp) (s : State) : State :=
  if !s.hears k.can then s
  else
    let s := received k.can s
    if !s.stackOn || !(s.nmt = 1 || s.nmt = 2) then s
    else if k.node = 0 || k.node = s.node then malformed none s
    else if s.net.quar.contains k.node then s
    else match op with
      | .upload idx sub => firstRequest k (upload k idx.toNat sub.toNat none) s
      | .download idx sub b last => firstRequest k (download k idx.toNat sub.toNat (b.map (·.toNat)) last) s
      | .blockDownload idx sub => firstRequest k (blockDownload k idx.toNat sub.toNat) s
      | .blockUpload idx sub size =>
        if size = 0 then firstRequest k (finishUsdo k (.abort wrongSize)) s
        else firstRequest k (upload k idx.toNat sub.toNat (some ⟨size.toNat, 0, false⟩)) s
      | op => nextRequest k op s

/-- USDO_TIMEOUT, R329. -/
def usdoTimeout (k : CtxKey) (s : State) : State :=
  if !s.stackOn then s
  else match s.ctx k with
    | none => s
    | some c => if c.xfer.isSome && !c.busy then finishUsdo k (.abort 0x05040000) s else s

/-- CONTEXT_IDLE_TIMEOUT, R331. -/
def contextIdle (k : CtxKey) (s : State) : State :=
  if s.stackOn && s.ctxAuth k then closeContexts k.names s else s

/-- RESPONSE_CHECK in a context, R374: three failures in a row quarantine the node, R330. -/
def checkCtx (k : CtxKey) (s : State) : State :=
  match s.ctx k with
  | none => s
  | some c =>
    match c.resp with
    | none => s
    | some r =>
      let ok := s.responseOk c.chal r k.can k.node k.sess
      let s := modCtx k (fun c => { c with chal := none, resp := none, auth := c.auth || ok }) s
      let set (v : Nat) (s : State) : State := s.modNet fun n => { n with badResp := Sparse.set (fun _ => 0) n.badResp k.node v }
      if ok then showSessions (finishUsdo k .ok (set 0 s))
      else
        let n := Sparse.get (fun _ => 0) s.net.badResp k.node + 1
        let s := finishUsdo k (.abort noAuth) (authFailure k.can k.node (set n s))
        if 3 ≤ n then quarantine k.node s else s

/-- CHALLENGE_EXPIRY in a context. -/
def expireCtx (k : CtxKey) (s : State) : State :=
  let s := modCtx k (fun c => { c with chal := none }) s
  closeContexts (fun c => k.names c && !c.auth && c.xfer.isNone && c.resp.isNone && c.wait = .none) s

/-! ### Answers that waited -/

/-- One exchange that has ended answers the request that waits for it. -/
def doneExchange (addr : Nat) (r : Reply) (s : State) : State :=
  let waits (c : Ctx) : Bool := match c.wait with
    | .exchange _ _ _ a => a = addr
    | _ => false
  match s.net.ctxs.find? waits with
  | none => s
  | some c =>
    let k : CtxKey := ⟨c.can, c.node, c.sess⟩
    match c.wait, r with
    | .exchange false _ _ _, .data w => sendData k (leBytes 4 w.toNat) s
    | .exchange true _ _ _, .done => finishUsdo k .ok s
    | _, .error e => finishUsdo k (.abort (busAbort e)) s
    | _, _ => s

/-- A store that has ended answers its request, R336. -/
def doneStore (c : Ctx) (s : State) : State :=
  if c.wait = .store && s.nvm.cmd = 0 then
    finishUsdo ⟨c.can, c.node, c.sess⟩ (if s.on GCTL_STORESTAT.FAIL then .abort noTransfer else .ok) s
  else s

/-- An image download goes on once a command has ended: the words and END after BEGIN, and the answer after END. -/
def doneUpdate (c : Ctx) (s : State) : State :=
  if c.wait ≠ .update || s.mgs.updCmd ≠ 0 then s
  else
    let k : CtxKey := ⟨c.can, c.node, c.sess⟩
    let b := match c.xfer with
      | some x => x.data
      | none => []
    if b.isEmpty then finishUsdo k (if s.spare.state = 2 then .ok else .abort noTransfer) s
    else if s.spare.state ≠ 1 then finishUsdo k (.abort notNow) s
    else
      let s := (wordsOf b).foldl (fun s w => updData w s) s
      let s := regWrite .trio MGS_UPDCTL 2 s
      modCtx k (fun c => { c with xfer := some { idx := 0x3200, sub := 2, down := true } }) s

/-- Requests whose answer waited for something that has happened are answered. -/
def netSweep (s : State) : State :=
  if !s.stackOn then s
  else
    let done := s.net.done
    let s := s.modNet fun n => { n with done := [] }
    let s := done.foldl (fun s x => doneExchange x.1 x.2 s) s
    let s := s.net.ctxs.foldl (fun s c => doneStore c s) s
    s.net.ctxs.foldl (fun s c => doneUpdate c s) s

end Sys2Proof.Machine
end

