-- ==== Sys2Proof/Machine/NetOps.lean ====
section
/-!
DEFINITION. Machine/NetOps.lean: NMT commands (R317), heartbeat (R319, R320), SYNC and TIME (R322, R323), and PDOs (R325, R326).
-/

namespace Sys2Proof.Machine

/-! ### Sync events, R173 -/

/-- Whether a sync event is of the source selected by `sel`: 1 SYNC_IN of the axis's edge, 2 CANopen SYNC. -/
def State.syncMatches (s : State) (a sel src : Nat) (rising : Bool) : Bool :=
  sel = src && (src = 2 || (s.on (AX_STARTCFG.EDGE a)) = !rising)

/-- A sync event is recognised: `src` is 1 for SYNC_IN, 2 for a CANopen SYNC. Armed axes, WSYNC waits and a waiting RUN take it
at the next tick, R173, R180 and R220; the RUN waits for an edge of AX_STARTCFG[0].EDGE polarity. -/
def syncEvent (src : Nat) (rising : Bool) (s : State) : State :=
  let s := forEach (List.range 128) (fun a s =>
    let start := s.on (AX_STAT.ARMED a) && s.syncMatches a (s.get (AX_STARTCFG.SRC a)) src rising
    let wait : Bool := match (s.mo a).run with
      | .segWait _ true => s.syncMatches a (s.get (AX_STARTCFG.SEGSYNC a)) src rising
      | _ => false
    if start || wait then s.modMo a fun m => { m with syncHit := m.syncHit || start, waitHit := m.waitHit || wait } else s) s
  if s.runWaits && s.syncMatches 0 (s.get PL_CFG.RUNSRC) src rising then s.modPl fun p => { p with sync := true } else s

/-! ### NMT, R317 -/

/-- Whether an NMT command on controller `k` for `node` (0 for all) concerns this node. -/
def State.nmtFor (s : State) (k node : Nat) : Bool := s.hears k && s.stackOn && (node = 0 || node = s.node)

/-- NMT start, stop and pre-operational. -/
def nmtCommand (k node st : Nat) (s : State) : State :=
  let s := if s.hears k then received k s else s
  if s.nmtFor k node && s.nmt ≠ 0 then setNmt st s else s

/-- NMT reset node. -/
def nmtReset (k node : Nat) (s : State) : State :=
  let s := if s.hears k then received k s else s
  if s.nmtFor k node && s.nmt ≠ 0 then
    if s.on NET_NODE.RNACT then s.inc NET_NODE.RNIGN
    else
      let s := forEach ((List.range 128).filter s.hasWork) (fun a s => s.modMo a fun m => { m with orderQ := true }) s
      s.modNet fun n => { n with reset := some (n.reset.getD s.elapsed) }
  else s

/-- NMT_RESET_DEFERRED: at the first tick with no axis working, or 1 s after the command. -/
def nmtResetDeferred (s : State) : State :=
  match s.net.reset with
  | none => s
  | some t =>
    if decide (t + 100000 ≤ s.elapsed) || !(List.range 128).any s.hasWork then enterReset 4 false s else s

/-- The communication objects, 0x1000 to 0x1FFF, at their stored values, and the other objects as they stand, R317. -/
def reloadObjs (stored now : Sparse (Option Word)) : Sparse (Option Word) :=
  (stored.filter fun x => decide (x.1 < 0x200000)) ++ now.filter fun x => decide (0x200000 ≤ x.1)

/-- NMT reset communication: contexts close, communication objects reload, a pending node-ID is applied, boot-up is sent. -/
def nmtResetComm (k node : Nat) (s : State) : State :=
  let s := if s.hears k then received k s else s
  if s.nmtFor k node then
    let s := closeContexts (fun _ => true) s
    let objs := match s.nvm.settings with
      | some x => x.objs
      | none => []
    let s := s.modNet fun n =>
      { n with objs := reloadObjs objs n.objs, hbMon0 := 0, hbMon1 := 0, held := [], rpdoSeen := 0, tpdoDue := 0, tpdoSync := [], tpdoCnt := [],
               tpdoLast := [] }
    bootUp (nodeAtReset s.power.strap s)
  else s

/-! ### Heartbeat, R319 and R320 -/

/-- HEARTBEAT_PRODUCE. -/
def heartbeatSend (s : State) : State :=
  if s.stackOn && s.nmt ≠ 0 && s.obj 0x1017 0 ≠ 0 then
    let b := if s.nmt = 1 then 0x7F else if s.nmt = 2 then 0x05 else 0x04
    txAll [0, 1] ⟨0x700 + s.node, .heartbeat b⟩ s
  else s

/-- Node-ID and time of consumer entry `n` (0-based). -/
def State.hbEntry (s : State) (n : Nat) : Nat × Nat :=
  let w := s.obj 0x1016 (n + 1)
  (wordField w 23 16, wordField w 15 0)

/-- HEARTBEAT_RECEIVED: monitoring starts or goes on, and a lost partner returns. Initialisation serves none, R317. -/
def heartbeatIn (k node : Nat) (s : State) : State :=
  if !s.hears k then s
  else
    let s := received k s
    if !s.stackOn || s.nmt = 0 then s
    else
      forEach (List.range 32) (fun n s =>
        let (id, t) := s.hbEntry n
        if id = node && id ≠ 0 && t ≠ 0 then
          let s := s.putBitAt NET_HB n false
          s.modNet fun x => if k = 0 then { x with hbMon0 := natPutBit x.hbMon0 n true } else { x with hbMon1 := natPutBit x.hbMon1 n true }
        else s) s

/-- HEARTBEAT_LOSS of entry `n` (0-based): its action comes at the next tick. -/
def heartbeatLoss (n : Nat) (s : State) : State :=
  let (id, t) := s.hbEntry n
  if s.stackOn && id ≠ 0 && t ≠ 0 && (natBit s.net.hbMon0 n || natBit s.net.hbMon1 n) then
    let s := s.modNet fun x =>
      { x with hbMon0 := natPutBit x.hbMon0 n false, hbMon1 := natPutBit x.hbMon1 n false, hbDue := x.hbDue ++ [n] }
    commError (s.putBitAt NET_HB n true)
  else s

/-- The axes of the event groups of a mask, R320: group g holds axes 8g to 8g + 7. -/
def groupAxes (mask : Nat) : List Nat := (List.range 128).filter fun a => natBit mask (a / 8)

/-- The action of a heartbeat loss at the first tick after it. -/
def lossAction (n : Nat) (s : State) : State :=
  let act := s.get (NET_HBACT.ACT n)
  let axes := (groupAxes (s.get (NET_HBACT.GROUPS n))).filter s.enabled
  let s := forEach axes (fun a s =>
    match act with
    | 1 => addReq a .stop s
    | 2 => addReq a .qstop s
    | 3 => addReq a .halt s
    | _ => s) s
  let s := if s.on (NET_HBACT.PLAB n) && s.plState = 4 then
      let q := s.on (NET_HBACT.ABQ n)
      s.modPl fun p => { p with abort := some (q || p.abort = some true) }
    else s
  let id := (s.hbEntry n).1
  let s := queueEmcy 0x8130 0x10 (BitVec.ofNat 32 (256 * (n + 1) + id)) s
  logMgs 0x0130 (BitVec.ofNat 32 (n + 1 + 256 * id)) 0 0 s

/-- The losses that wait for this tick. -/
def lossActions (s : State) : State :=
  if s.stackOn then
    let l := s.net.hbDue
    forEach l lossAction (s.modNet fun n => { n with hbDue := [] })
  else s

/-! ### PDOs, R324 to R326 -/

/-- Whether RPDO or TPDO `n` (0-based) uses controller `k`, 0x2017. -/
def State.pdoOn (s : State) (rx : Bool) (n k : Nat) : Bool :=
  let v := (s.obj 0x2017 (if rx then n + 1 else n + 65)).toNat
  v = k || v = 2

/-- The CAN engine of controller `k` as a master. -/
def canMaster (k : Nat) : Master := if k = 0 then .can0 else .can1

/-- Writes the mapped objects of an RPDO in mapping order; dummy entries take their bytes, R324 and R325. -/
def writeMapped (m : Master) : List Word → List Nat → State → State
  | [], _, s => s
  | w :: l, b, s =>
    let k := mapLen w
    let s := match s.findObj (mapIdx w) (mapSub w) with
      | .ok d => if d.acc = .rww then (writeObj m false 1 (mapIdx w) (mapSub w) d (b.take k) s).2 else s
      | .error _ => s
    writeMapped m l (b.drop k) s

/-- An EMCY of R325, whose manufacturer data the spec does not give. -/
def pdoEmcy (code : Nat) (s : State) : State :=
  let (n, s) := s.fresh
  queueEmcy code 0x10 (Config.emcyWord n) s

/-- The data of RPDO `n` is written. -/
def writeRpdo (k n : Nat) (b : List Nat) (s : State) : State := writeMapped (canMaster k) (s.mapping 0x1600 n) b s

/-- RPDO: written on receipt, or held for the next SYNC. -/
def rpdoIn (k n : Nat) (b : List Nat) (s : State) : State :=
  if !s.hears k then s
  else
    let s := received k s
    if s.nmt ≠ 2 || !s.pdoValid 0x1400 n || !s.pdoOn true n k then s
    else
      let s := s.modNet fun x => { x with rpdoSeen := natPutBit x.rpdoSeen n true }
      let len := mapBytes (s.mapping 0x1600 n)
      if b.length < len then pdoEmcy 0x8210 s
      else
        let s := if len < b.length then pdoEmcy 0x8220 s else s
        if 254 ≤ (s.obj (0x1400 + n) 2).toNat then writeRpdo k n b s
        else s.modNet fun x => { x with held := (x.held.filter fun p => p.1 ≠ 64 * k + n) ++ [(64 * k + n, b)] }

/-- The RPDOs held for a SYNC are written in increasing number. -/
def writeHeld (s : State) : State :=
  let h := s.net.held
  let s := s.modNet fun x => { x with held := [] }
  if s.nmt ≠ 2 then s
  else
    forEach (List.range 64) (fun n s =>
      (h.filter fun p => p.1 % 64 = n).foldl (fun s p => writeRpdo (p.1 / 64) n p.2 s) s) s

/-- RPDO_DEADLINE: once for a gap, R325. -/
def rpdoDeadline (n : Nat) (s : State) : State :=
  if s.nmt = 2 && s.stackOn && s.pdoValid 0x1400 n && s.obj (0x1400 + n) 5 ≠ 0 && natBit s.net.rpdoSeen n then
    pdoEmcy 0x8250 (s.modNet fun x => { x with rpdoSeen := natPutBit x.rpdoSeen n false })
  else s

/-- The next CAN FD data length. -/
def fdLength (n : Nat) : Nat :=
  if n ≤ 8 then n else if n ≤ 12 then 12 else if n ≤ 16 then 16 else if n ≤ 20 then 20 else if n ≤ 24 then 24
  else if n ≤ 32 then 32 else if n ≤ 48 then 48 else 64

/-- The data of a TPDO, as the CAN engine reads it: a read that fails gives 0, R85 and R86. -/
def readMapped (m : Master) : List Word → State → List Nat × State
  | [], s => ([], s)
  | w :: l, s =>
    let k := mapLen w
    let (b, s) := match s.findObj (mapIdx w) (mapSub w) with
      | .ok d =>
        match readObj m (mapIdx w) (mapSub w) d s with
        | (.bytes b, s) => (b.take k, s)
        | (_, s) => ([], s)
      | .error _ => ([], s)
    let (t, s) := readMapped m l s
    (b ++ List.replicate (k - b.length) 0 ++ t, s)

/-- TPDO `n` is read by the CAN engine of controller `k` and queued there, R324. -/
def queueOn (n k : Nat) (s : State) : State :=
  let (b, s) := readMapped (canMaster k) (s.mapping 0x1A00 n) s
  let b := b ++ List.replicate (fdLength b.length - b.length) 0
  txAdd k ⟨(s.obj (0x1800 + n) 1).toNat % 2048, .tpdo n b⟩ s

/-- TPDO `n` is read and queued by those of its controllers that send. -/
def queueTpdo (n : Nat) (s : State) : State :=
  let ks := [0, 1].filter fun k => s.pdoOn false n k && s.canSends k
  let s := s.modNet fun x =>
    { x with tpdoLast := Sparse.set (fun _ => none) x.tpdoLast n (some s.ticks), tpdoDue := natPutBit x.tpdoDue n false }
  forEach ks (fun k s => queueOn n k s) s

/-- Whether TPDO `n` is sent at all. -/
def State.tpdoOn (s : State) (n : Nat) : Bool := s.nmt = 2 && s.fabricOn && s.pdoValid 0x1800 n

/-- Transmission type of TPDO `n`. -/
def State.tpdoType (s : State) (n : Nat) : Nat := (s.obj (0x1800 + n) 2).toNat

/-- Whether the inhibit time of TPDO `n` has passed. -/
def State.tpdoFree (s : State) (n : Nat) : Bool :=
  match Sparse.get (fun _ => none) s.net.tpdoLast n with
  | none => true
  | some t => decide (t + 10 * (s.obj (0x1800 + n) 3).toNat ≤ s.ticks)

/-- TPDO_SEND: an event-driven TPDO whose event has occurred. -/
def tpdoSend (n : Nat) (s : State) : State :=
  if s.tpdoOn n && 254 ≤ s.tpdoType n && natBit s.net.tpdoDue n && s.tpdoFree n then queueTpdo n s else s

/-- TPDO_TIMER: the event timer of an event-driven TPDO; within the inhibit time the TPDO waits. -/
def tpdoTimer (n : Nat) (s : State) : State :=
  if s.tpdoOn n && 254 ≤ s.tpdoType n && s.obj (0x1800 + n) 5 ≠ 0 then
    if s.tpdoFree n then queueTpdo n s else s.modNet fun x => { x with tpdoDue := natPutBit x.tpdoDue n true }
  else s

/-- The TPDOs whose event source is `src` have their event. -/
def tpdoEvents (src : Nat) (s : State) : State :=
  forEach (List.range 64) (fun n s =>
    if s.obj 0x2016 (n + 1) = BitVec.ofNat 32 src then s.modNet fun x => { x with tpdoDue := natPutBit x.tpdoDue n true } else s) s

/-- A SYNC reaches TPDO `n`: type 0 after its event, types 1 to 240 at every such-numbered SYNC, counted from the start value of
0x18xx:06 where a counter is used, R322 and R326. -/
def syncTpdo (counter n : Nat) (s : State) : State :=
  let t := s.tpdoType n
  let due (s : State) : State := s.modNet fun x => { x with tpdoSync := x.tpdoSync ++ [n] }
  if !s.tpdoOn n || 240 < t then s
  else if t = 0 then (if natBit s.net.tpdoDue n then due s else s)
  else
    let c := Sparse.get (fun _ => 0) s.net.tpdoCnt n
    let set (v : Nat) (s : State) : State := s.modNet fun x => { x with tpdoCnt := Sparse.set (fun _ => 0) x.tpdoCnt n v }
    let start := (s.obj (0x1800 + n) 6).toNat
    if c = 0 && start ≠ 0 && 2 ≤ (s.obj 0x1019 0).toNat then (if counter = start then set 1 (due s) else s)
    else
      let j := (c - 1) + 1
      if t ≤ j then set 1 (due s) else set (j + 1) s

/-- SYNC on controller `k`: `len` data bytes, the first being `counter`, R322. -/
def syncIn (k len counter : Nat) (s : State) : State :=
  if !s.hears k then s
  else
    let s := received k s
    if s.get NET_NODE.SYNCBUS ≠ k || s.nmt = 0 then s
    else if 1 < len then malformed none s
    else
      let c := if len = 0 || (s.obj 0x1019 0).toNat < 2 then 0 else counter
      let s := writeHeld (syncEvent 2 true s)
      forEach (List.range 64) (syncTpdo c) s

/-- The TPDOs due at a SYNC read the snapshot of the tick after it. -/
def tpdoTick (s : State) : State :=
  let l := s.net.tpdoSync
  forEach (List.range 64) (fun n s => if l.contains n && s.tpdoOn n then queueTpdo n s else s) (s.modNet fun x => { x with tpdoSync := [] })

/-- TIME on controller `k`: days since 1984 and milliseconds after midnight, or none for a frame of another length, R323. -/
def timeIn (k : Nat) (x : Option (Nat × Nat)) (s : State) : State :=
  if !s.hears k then s
  else
    let s := received k s
    if s.nmt = 0 then s
    else match x with
      | none => malformed none s
      | some (days, ms) =>
        if s.on NET_NODE.SETRTC then
          s.modPower fun p => { p with rtcStage := some ((days * 86400000 + ms) * 4096 / 125 % 2 ^ 48) }
        else s

/-! ### Frames received in NAP, R58 -/

/-- What a frame on controller `k` does once it is processed. -/
def rxFrame (k : Nat) (f : RxFrame) (s : State) : State :=
  match f with
  | .nmt st node => nmtCommand k node st s
  | .nmtReset node => nmtReset k node s
  | .nmtResetComm node => nmtResetComm k node s
  | .heartbeat node => heartbeatIn k node s
  | .sync len counter => syncIn k len counter s
  | .time t => timeIn k t s
  | .rpdo n b => rpdoIn k n b s
  | .usdo node sess op => netSweep (usdoRequest ⟨k, node, sess⟩ op s)
  | .malformed node => if s.hears k && s.stackOn then malformed node (received k s) else s

/-- SYNC and RPDO data are hardware's, R311 and R322; the trio's stack serves every other frame. -/
def RxFrame.hardware : RxFrame → Bool
  | .sync _ _ => true
  | .rpdo _ _ => true
  | _ => false

/-- Whether a frame stays in the receive buffer of controller `k`, R58: one that wakes the device from NAP, and one for the stack before
the trio has resumed. A frame on a controller that is not armed is not kept (DEDUCED, log entry 66). -/
def State.keepsFrame (s : State) (k : Nat) (f : RxFrame) : Bool :=
  s.canReceives k && ((s.runState = 2 && s.armed 2 k) || (s.fabricOn && s.trio.wake && !f.hardware))

/-- A frame arrives on controller `k`: it is kept for the trio, or processed. -/
def rxIn (k : Nat) (f : RxFrame) (s : State) : State :=
  if s.keepsFrame k f then s.modNet fun n => { n with rxHeld := n.rxHeld ++ [(k, f)] } else rxFrame k f s

/-- The trio has resumed: the frames kept are processed in their order, R58. -/
def resumeNet (s : State) : State :=
  if s.stackOn then
    let l := s.net.rxHeld
    l.foldl (fun s x => rxFrame x.1 x.2 s) (s.modNet fun n => { n with rxHeld := [] })
  else s

/-! ### Controllers -/

/-- RX_DISCARD, R311. -/
def rxDiscard (k : Nat) (s : State) : State :=
  if s.canReceives k then (received k s).inc (NET_CNT.RXDISC k) else s

/-- CONTROLLER_OFF: the bus idle after EN was written 0, R315. -/
def controllerIdle (k : Nat) (s : State) : State := if (s.can k).ending then controllerOff k s else s

end Sys2Proof.Machine
end

