-- ==== Sys2Proof/Machine/Events.lean ====
section
/-!
DEFINITION. Machine/Events.lean: the commands of event sources, routes and the HALT_N pin (R297 to R306).
-/

namespace Sys2Proof.Machine

/-- EV_PEND_CLEAR, R297. -/
def execEvPendClear (m : Master) (k : Fin 4) (w : Word) (s : State) : Out := .next (regWrite m (EV_PEND k) w s)

/-- EV_EN_WRITE, R298. -/
def execEvEnWrite (m : Master) (k : Fin 4) (w : Word) (s : State) : Out := .next (regWrite m (EV_EN k) w s)

/-- DOORBELL, R299. -/
def execDoorbell (m : Master) (s : State) : Out := .next (regWrite m EV_DOORBELL 1 s)

/-- TRIO_EVENT_DELIVERY, R301: the occurrence of highest priority is delivered while the trio runs, so not before the scrub of a wake from
NAP (R293); a TPDO whose event it is falls due (R326). -/
def execTrioEventDelivery (s : State) : Out :=
  .next (if s.fabricOn && !s.trio.wake && (s.trioState = 0 || s.trioState = 2) then
      match s.firstOcc s.trioQ with
      | none => s
      | some o => tpdoEvents o.src { s with trioQ := removeOcc o s.trioQ }
    else s)

/-- EMCY_QUEUE, R303. -/
def execEmcyQueue (s : State) : Out := .next (emcyTake s)

/-- LOG_ENTRY, R304. -/
def execLogEntry (s : State) : Out := .next (logEntry s)

/-- LOG_REPEAT_REWRITE, R364. -/
def execLogRepeatRewrite (src : Fin 128) (s : State) : Out := .next (logRepeat src s)

/-- HALT_N_LOW, R306. -/
def execHaltNLow (s : State) : Out := .next (haltNLow s)

/-- HALT_N_HIGH, R306. -/
def execHaltNHigh (s : State) : Out := .next (haltNHigh s)

end Sys2Proof.Machine
end

