-- ==== Sys2Proof/Machine/Feedback.lean ====
section
/-!
DEFINITION. Machine/Feedback.lean: the commands of step inputs, encoders and compare units (R229 to R245). The channels count
while the motion clock runs, which it does not in reset, NAP and HIBERNATE.
-/

namespace Sys2Proof.Machine

/-- What a channel does, while its clock runs. -/
def clocked (f : State → State) (s : State) : Out := .next (if s.fabricOn then f s else s)

/-- STEP_EDGE, R229 and R230: the levels of STEP and DIR at the balls, the times they took them, the time of the sample, and the
time of the last change of filtered DIR. -/
def execStepEdge (n : Fin 8) (step dir : Pin) (stamps : Nat × Nat) (s : State) : Out :=
  clocked (stepSample n step.level dir.level step.since dir.since stamps.1 stamps.2) s

/-- QUADRATURE_TRANSITION, R229 and R232: the levels of A and B at the balls, the times they took them, the time of the sample. -/
def execQuadratureTransition (n : Fin 8) (a b : Pin) (stamp : Nat) (s : State) : Out :=
  clocked (quadSample n a.level b.level a.since b.since stamp) s

/-- ENCODER_ERROR_WINDOW, R233. -/
def execEncoderErrorWindow (n : Fin 8) (s : State) : Out := clocked (encWindow n) s

/-- INDEX_EDGE, R229 and R234: the level of Z at the ball, the time it took it, the time of the sample. -/
def execIndexEdge (x : IndexSample) (s : State) : Out := clocked (indexSample x.n x.z.level x.z.since x.stamp) s

/-- SPEED_TIMEOUT, R238. -/
def execSpeedTimeout (n : Fin 8) (s : State) : Out := clocked (speedTimeout n) s

/-- COUNT_WINDOW_END, R239. -/
def execCountWindowEnd (s : State) : Out := clocked (forEach (List.range 8) windowEnd) s

/-- COMPARE_PULSE_END, R242. -/
def execComparePulseEnd (n : Fin 8) (s : State) : Out := clocked (pulseEnd n) s

/-- COMPARE_ARM, R241: a write of CMP_CFG, whose ARM bit arms or disarms. -/
def execCompareArm (m : Master) (n : Fin 8) (w : Word) (s : State) : Out := .next (regWrite m (CMP_CFG n) w s)

/-- CMP_POS_WRITE, R243. -/
def execCmpPosWrite (m : Master) (n : Fin 8) (w : Word) (s : State) : Out := .next (regWrite m (CMP_POS n) w s)

/-- ENC_CNT_WRITE, R235. -/
def execEncCntWrite (m : Master) (n : Fin 8) (w : Word) (s : State) : Out := .next (regWrite m (ENC_CNT n) w s)

/-- STEP_CNT_WRITE, R235. -/
def execStepCntWrite (m : Master) (n : Fin 8) (w : Word) (s : State) : Out := .next (regWrite m (STEP_CNT n) w s)

end Sys2Proof.Machine
end

