-- ==== Sys2Proof/Machine/Legs.lean ====
section
/-!
DEFINITION. Machine/Legs.lean: the commands of legs, rank modes, protection and the axis fault manager (R96 to R134).
-/

namespace Sys2Proof.Machine

/-- RANK_PERIOD_START, R134. -/
def execRankPeriodStart (r : Fin 16) (edges : PeriodEdges) (s : State) : Out :=
  .next (rankStart r (edges.deep.map (·.val)) edges.gangs s)

/-- INTERLOCK_TIMEOUT, R100. -/
def execInterlockTimeout (l : Fin 512) (s : State) : Out := .next (interlockTimeout l s)

/-- DEAD_TIME_END, R98. -/
def execDeadTimeEnd (l : Fin 512) (s : State) : Out := .next (deadTimeEnd l s)

/-- OVERRIDE_ONTIME_END, R113. -/
def execOverrideOntimeEnd (x : LegMoment) (s : State) : Out :=
  .next (overrideEnd x.l (gangOffs (ofRank (x.l / 32)) x.gangs s))

/-- RK_MODE_WRITE, R111. -/
def execRkModeWrite (m : Master) (r : Fin 16) (v : Fin 16) (s : State) : Out :=
  .next (guardedWrite m (RK_MODE r) (BitVec.ofNat 32 v.val) s)

/-- LEG_TEST_WRITE, R113. -/
def execLegTestWrite (m : Master) (l : Fin 512) (w : Word) (s : State) : Out := .next (guardedWrite m (LEG_TEST l) w s)

/-- OVERCURRENT_TRIP, R117: the switch, the level, the time in the local period, the motion-clock stamp, and the on-time it ends
with the sense currents of the gang and the other on-times that end with it (R109). -/
def execOvercurrentTrip (l : Fin 512) (hs hard : Bool) (time stamp onTime : Nat) (gang : TripRead) (s : State) : Out :=
  .next (overcurrent l hs hard time stamp onTime gang s)

/-- TRIP_CHECK, R121. -/
def execTripCheck (s : State) : Out := .next (tripCheck s)

/-- PERIOD_CHECK, R121. -/
def execPeriodCheck (c : Fin 4) (p : Fin 256) (s : State) : Out := .next (periodCheck c p s)

/-- FAULT_WAIT_EXPIRY, R125. -/
def execFaultWaitExpiry (a : Fin 128) (s : State) : Out := .next (waitExpiry a s)

/-- RETRY_TEST_PASS, R125. -/
def execRetryTestPass (a : Fin 128) (s : State) : Out := .next (testPass a s)

/-- RETRY_WINDOW_EXPIRY, R125. -/
def execRetryWindowExpiry (a : Fin 128) (s : State) : Out :=
  .next (if s.get (AX_FLTSTAT.STATE a) = 0 then s.put (AX_FLTSTAT.TRYCNT a) 0 else s)

/-- AXIS_FAULT_LATCH, R127. -/
def execAxisFaultLatch (m : Master) (a : Fin 128) (s : State) : Out := .next (regWrite m (AX_FLTCTL a) 2 s)

/-- AXIS_FAULT_CLEAR, R127. -/
def execAxisFaultClear (m : Master) (a : Fin 128) (s : State) : Out := .next (regWrite m (AX_FLTCTL a) 1 s)

/-- RANK_FAULT_CLEAR, R131. -/
def execRankFaultClear (m : Master) (r : Fin 16) (s : State) : Out := .next (regWrite m (RK_FLTCTL r) 1 s)

/-- COACH_FAULT_CLEAR, R131. -/
def execCoachFaultClear (m : Master) (c : Fin 4) (s : State) : Out := .next (regWrite m (CO_FLTCTL c) 1 s)

/-- VM_FAULT_CLEAR, R127. -/
def execVmFaultClear (m : Master) (c : Fin 4) (s : State) : Out := .next (regWrite m (CO_FLTCTL c) 2 s)

/-- CHARGE_PUMP_UNDERVOLTAGE, R115: CPUV is cause 9; the detection is active from the first CPOK after power-up. -/
def execChargePumpUndervoltage (r : Fin 16) (s : State) : Out :=
  .next (if s.coachLive (r / 4) && natBit (s.coach (r / 4)).cpSeen (r % 4) then
      updRank r (rankFault r 9 0 (s.modCoach (r / 4) fun k => { k with cpuv := natPutBit k.cpuv (r % 4) true }))
    else s)

/-- GATE_REG_UNDERVOLTAGE, R115: active from the first GREGOK after power-up; the regulator is out of regulation until a STAT
frame says otherwise. -/
def execGateRegUndervoltage (c : Fin 4) (s : State) : Out :=
  .next (if s.coachLive c && (s.coach c).gregSeen then
      gregFault c ((s.put (CO_STAT.GREGOK c) 0).modCoach c fun k => { k with greguv := true })
    else s)

/-- TEMP_SENSOR_FAILURE, R115: TSENSOR is cause 15. -/
def execTempSensorFailure (r : Fin 16) (s : State) : Out :=
  .next (if s.coachLive (r / 4) then updRank r (rankFault r 15 0 (s.put (RK_THERM.VALID r) 0)) else s)

/-- A VM comparator of coach `c` changes; while the hub is held in reset or off only the comparator's own output does. -/
def vmEvent (c : Nat) (f : Coach → Coach) (s : State) : State :=
  if s.power.inReset || s.runState = 3 then s.modCoach c f else vmChange c f s

/-- VM under 4 V: both undervoltage conditions and no overvoltage, R116. -/
def noVm (k : Coach) : Coach := { k with uvf := true, uvw := true, ovf := false, ovw := false }

/-- VM_UNDERVOLTAGE_FAULT, R116: `below4` says that VM is below 4 V. -/
def execVmUndervoltageFault (c : Fin 4) (below4 : Bool) (s : State) : Out :=
  .next (vmEvent c (fun k => if below4 then noVm k else { k with uvf := true }) s)

/-- VM_UNDERVOLTAGE_WARNING, R115 and R116. -/
def execVmUndervoltageWarning (c : Fin 4) (below4 : Bool) (s : State) : Out :=
  .next (vmEvent c (fun k => if below4 then noVm k else { k with uvw := true }) s)

/-- VM_OVERVOLTAGE_FAULT, R129. -/
def execVmOvervoltageFault (c : Fin 4) (s : State) : Out := .next (vmEvent c (fun k => { k with ovf := true }) s)

/-- VM_OVERVOLTAGE_WARNING, R115. -/
def execVmOvervoltageWarning (c : Fin 4) (s : State) : Out := .next (vmEvent c (fun k => { k with ovw := true }) s)

/-- A VM condition of a coach ends. -/
def releaseVm (cond : VmCond) (k : Coach) : Coach :=
  match cond with
  | .uvFault => { k with uvf := false }
  | .uvWarning => { k with uvw := false }
  | .ovFault => { k with ovf := false }
  | .ovWarning => { k with ovw := false }

/-- VM_RELEASE, R115. -/
def execVmRelease (c : Fin 4) (cond : VmCond) (s : State) : Out := .next (vmEvent c (releaseVm cond) s)

/-- VM_BELOW_6V, R130. -/
def execVmBelow6v (c : Fin 4) (s : State) : Out :=
  .next (if s.power.inReset || s.runState = 3 then s.modCoach c fun k => { k with uvf := true, uvw := true } else vmBelow6 c s)

end Sys2Proof.Machine
end

