-- ==== Sys2Proof/Machine/Frames.lean ====
section
/-!
DEFINITION. Machine/Frames.lean: the bytes of coupling frames (R13, R14), of the coil records a CMD frame carries (R135) and of the
records an SNS frame carries (R193), as the state sends them.
-/

namespace Sys2Proof.Machine

/-- The frame types of R14. -/
inductive FrameKind where
  | idleDown | cmd | cfg | ctl | idleUp | stat | cfgr | sns
deriving DecidableEq, Repr

/-- Type codes, R14. -/
def FrameKind.code : FrameKind → Nat
  | .idleDown => 0x00 | .cmd => 0x01 | .cfg => 0x02 | .ctl => 0x03
  | .idleUp => 0x80 | .stat => 0x81 | .cfgr => 0x82 | .sns => 0x83

/-- A frame of 64 bytes, R13: type, sequence number, payload and the CRC-32C of these sixty bytes. The order of the CRC's own bytes is
not stated; least significant first is a DESIGN CHOICE (log entry 56). -/
def frameBytes (k : FrameKind) (seq : Nat) (payload : List Nat) : List Nat :=
  let body := k.code :: (seq % 256) :: payload
  body ++ wordBytes (crc32c body)

/-- A frame passes its check, R13. -/
def frameGood (f : List Nat) : Bool := f.length = 64 && f.drop 60 = wordBytes (crc32c (f.take 60))

/-- A coil record in 24 bits, R135. -/
def CoilRec.bits (r : CoilRec) : Nat := r.op * 2 ^ 22 + r.pol * 2 ^ 21 + r.dec * 2 ^ 19 + r.ff * 2 ^ 12 + r.thr

/-- The payload of a CMD frame, R135: the sixteen records of rank `q` of the coach, the period number, rank and copy, and zeros. -/
def cmdPayload (recs : List CoilRec) (p q copy : Nat) : List Nat :=
  (List.range 16).flatMap (fun z => beBytes 3 (recs.getD z {}).bits) ++ [p % 256, q % 4 + 128 * (copy % 2)] ++ List.replicate 8 0

/-- An SNS record in 64 bits, R193. -/
def SnsRec.bits : SnsRec → Nat
  | .bemf q z p sample tz noZero clip =>
    1 * 2 ^ 60 + q * 2 ^ 58 + z * 2 ^ 54 + p % 256 * 2 ^ 46 + unsigned 12 sample * 2 ^ 34 + tz * 2 ^ 20 + b2n noZero * 2 ^ 19 + b2n clip * 2 ^ 18
  | .charge q z nC => 2 * 2 ^ 60 + q * 2 ^ 58 + z * 2 ^ 54 + unsigned 24 nC * 2 ^ 30
  | .decay q p early deep => 3 * 2 ^ 60 + q * 2 ^ 58 + p % 256 * 2 ^ 50 + early * 2 ^ 34 + deep * 2 ^ 18

/-- The payload of an SNS frame of at most seven records, R193: their number, a zero, the records, and zeros. -/
def snsPayload (recs : List SnsRec) : List Nat :=
  [recs.length, 0] ++ recs.flatMap (fun x => beBytes 8 x.bits) ++ List.replicate (8 * (7 - recs.length)) 0

/-- The CMD frame of rank `q` that the hub sends next on the coupling of coach `c`, R13 and R135. -/
def State.cmdFrameBytes (s : State) (c q copy : Nat) : List Nat :=
  let k := s.coach c
  frameBytes .cmd k.cmdSeq (cmdPayload (k.tx.getD q []) k.txPeriod q copy)

/-- The SNS frame that coach `c` sends next, with the charge records measured now, R13 and R193. -/
def State.snsFrameBytes (s : State) (c : Nat) (charge : List (Nat × Nat × Int)) : List Nat :=
  let k := s.coach c
  frameBytes .sns k.snsSeq (snsPayload (snsRecords k charge))

end Sys2Proof.Machine
end

