-- ==== Sys2Proof/Machine/Link.lean ====
section
/-!
DEFINITION. Machine/Link.lean: the commands of the couplings between hub and coaches (R13 to R23, R117, R123, R193).
-/

namespace Sys2Proof.Machine

/-- COACH_PERIOD_START, R15: `edges` holds the edge times the adapting legs of the coach measured in the period that ends (R103), and
the on-times that end when the coach loses its coupling here. Steps 3 to 5 of R52 fall at a period start. -/
def execCoachPeriodStart (c : Fin 4) (edges : CoachEdges) (s : State) : Out :=
  let s := coachPeriod c (edges.edges.map fun e => (e.1.val, e.2.1, e.2.2)) edges.gangs s
  .next (if (s.coach c).offWait then coachOffNow c s else s)

/-- CMD_FRAME, R15. Both copies of a rank carry the same records. -/
def execCmdFrame (c : Fin 4) (q : Fin 4) (copy : Fin 2) (crcOk : Bool) (s : State) : Out :=
  .next (cmdFrame c q copy crcOk s)

/-- CFG_FRAME, R17. -/
def execCfgFrame (c : Fin 4) (rx : DownRead) (s : State) : Out := .next (hostPoll (cfgFrame c rx.ok rx.gangs s))

/-- CFGR_FRAME, R17. -/
def execCfgrFrame (c : Fin 4) (crcOk : Bool) (s : State) : Out := .next (hostPoll (cfgrFrame c crcOk s))

/-- CFG_RESEND, R17 and R18. -/
def execCfgResend (c : Fin 4) (s : State) : Out := .next (hostPoll (cfgResend c s))

/-- CTL_SAFE_SELECT, R20. -/
def execCtlSafeSelect (c : Fin 4) (crcOk : Bool) (s : State) : Out := .next (ctlFrame c CtlFrame.safe.kind crcOk [] s)

/-- CTL_KILL, R123. -/
def execCtlKill (c : Fin 4) (rx : DownRead) (s : State) : Out := .next (ctlFrame c (CtlFrame.kill []).kind rx.ok rx.gangs s)

/-- CTL_RELEASE, R23. -/
def execCtlRelease (c : Fin 4) (rx : DownRead) (s : State) : Out :=
  .next (ctlFrame c (CtlFrame.release [] false).kind rx.ok rx.gangs s)

/-- STAT_FRAME, R117: `meas` is what the coach measured, if the frame carries it; `idle` are the IDLE frames discarded since the
last STAT frame, downstream and upstream (R13). -/
def execStatFrame (c : Fin 4) (crcOk : Bool) (read : StatRead) (s : State) : Out :=
  .next (statFrame c crcOk read.meas read.idle s)

/-- SNS_FRAME, R193: `charge` are the charge records (rank of the coach, coil, nC). -/
def execSnsFrame (c : Fin 4) (crcOk : Bool) (charge : List (Fin 4 × Fin 16 × Int)) (s : State) : Out :=
  .next (snsFrame c crcOk (charge.map fun e => (e.1.val, e.2.1.val, e.2.2)) s)

/-- COACH_WATCHDOG_EXPIRY, R19 and R20. -/
def execCoachWatchdogExpiry (x : CoachMoment) (s : State) : Out := .next (coachExpiry x.c x.gangs s)

/-- HUB_WATCHDOG_EXPIRY, R19 and R22. -/
def execHubWatchdogExpiry (c : Fin 4) (s : State) : Out := .next (hubExpiry c s)

/-- COACH_SILENCE_END, R21. -/
def execCoachSilenceEnd (c : Fin 4) (s : State) : Out := .next (s.modCoach c fun k => { k with silent := false })

/-- TRAINING_ATTEMPT, R23. -/
def execTrainingAttempt (c : Fin 4) (s : State) : Out := .next (trainAttempt c s)

/-- TRAINING_COMPLETE, R23. -/
def execTrainingComplete (c : Fin 4) (s : State) : Out := .next (trainDone c s)

end Sys2Proof.Machine
end

