-- ==== Sys2Proof/Machine/Management.lean ====
section
/-!
DEFINITION. Machine/Management.lean: the commands of the management subsystem: monitors, watchdog, log, update, security and the
alarm (R361 to R382).
-/

namespace Sys2Proof.Machine

/-- MONITOR_SAMPLE, R361: hub temperature (0.0625 °C), the four rails (mV), the conditions of triggers 0 to 2 (R377), and the
32.768 kHz periods since the last sample. -/
def execMonitorSample (temp : Int) (mv : List Nat) (active : BitVec 3) (periods : Nat) (s : State) : Out :=
  .next (monitorSample temp mv active.toNat periods s)

/-- WATCHDOG_SERVICE, R362. -/
def execWatchdogService (s : State) : Out := .next (watchdogService s)

/-- WATCHDOG_EXPIRY, R362. -/
def execWatchdogExpiry (s : State) : Out := .next (watchdogExpiry s)

/-- MGS_DEFERRED_RESET, R362 and R368: at the first tick with no axis working, or 1 s after the watchdog's expiry. -/
def execMgsDeferredReset (s : State) : Out :=
  .next (if deferredDue s then enterReset 6 false s else s)

/-- LOG_DATA_READ, R365. -/
def execLogDataRead (m : Master) (s : State) : Out := .next (busRead m .word MGS_LOGDATA s)

/-- LOG_POINTER_WRITE, R365. -/
def execLogPointerWrite (m : Master) (w : Word) (s : State) : Out := .next (regWrite m MGS_LOGRPTR w s)

/-- BEGIN, R368. -/
def execUpdBegin (m : Master) (s : State) : Out := .next (regWrite m MGS_UPDCTL 1 s)

/-- END, R368. -/
def execUpdEnd (m : Master) (s : State) : Out := .next (regWrite m MGS_UPDCTL 2 s)

/-- ACTIVATE, R368. -/
def execActivate (m : Master) (s : State) : Out := .next (regWrite m MGS_UPDCTL 3 s)

/-- CANCEL, R368. -/
def execCancel (m : Master) (s : State) : Out := .next (regWrite m MGS_UPDCTL 4 s)

/-- CONFIRM, R368. -/
def execConfirm (m : Master) (s : State) : Out := .next (regWrite m MGS_UPDCTL 5 s)

/-- ACTIVATE_RESET, R368. -/
def execActivateReset (m : Master) (s : State) : Out := .next (regWrite m MGS_UPDCTL 6 s)

/-- UPDATE_DATA_WRITE, R368. -/
def execUpdateDataWrite (m : Master) (w : Word) (s : State) : Out := .next (regWrite m MGS_UPDDATA w s)

/-- UPDATE_COMMAND_END, R368. -/
def execUpdateCommandEnd (s : State) : Out := .next (netSweep (updEnd s))

/-- LOGOUT, R373. -/
def execLogout (m : Master) (s : State) : Out := .next (regWrite m MGS_SECCMD 1 s)

/-- SETKEY, R373. -/
def execSetkey (m : Master) (s : State) : Out := .next (regWrite m MGS_SECCMD 2 s)

/-- GENID, R373. -/
def execGenid (m : Master) (s : State) : Out := .next (regWrite m MGS_SECCMD 3 s)

/-- READPUB, R373. -/
def execReadpub (m : Master) (s : State) : Out := .next (regWrite m MGS_SECCMD 4 s)

/-- ATTEST, R373. -/
def execAttest (m : Master) (s : State) : Out := .next (regWrite m MGS_SECCMD 6 s)

/-- UNLOCK, R373. -/
def execUnlock (m : Master) (s : State) : Out := .next (regWrite m MGS_SECCMD 7 s)

/-- CLRALARM, R373. -/
def execClralarm (m : Master) (s : State) : Out := .next (regWrite m MGS_SECCMD 8 s)

/-- READCERT, R373: `arg` numbers the block of 64 bytes. -/
def execReadcert (m : Master) (arg : BitVec 8) (s : State) : Out :=
  .next (regWrite m MGS_SECCMD (BitVec.ofNat 32 (arg.toNat * 2 ^ 24 + 5)) s)

/-- SECURITY_COMMAND_END, R373. -/
def execSecurityCommandEnd (s : State) : Out := .next (secEnd s)

/-- CHALLENGE_ISSUE, R374: an upload of 0x3300:01, a read of MGS_AUCHAL[0], or the same on the debug port. -/
def execChallengeIssue (ch : AuthChan) (s : State) : Out :=
  .next (match ch with
    | .host => busRead .host .word (MGS_AUCHAL 0) s
    | .debug => if s.fabricOn then issueDebug s else s
    | .usdo can node sess => usdoRequest ⟨can, node, sess⟩ (.upload 0x3300 1) s)

/-- RESPONSE_CHECK, R374: `resp` is the response the debug port received; the others have been written. -/
def execResponseCheck (ch : AuthChan) (resp : List Word) (s : State) : Out :=
  .next (match ch with
    | .host => checkHost s
    | .debug => if s.fabricOn then checkDebug resp s else s
    | .usdo can node sess => checkCtx ⟨can, node, sess⟩ s)

/-- CHALLENGE_EXPIRY, R374. -/
def execChallengeExpiry (ch : AuthChan) (s : State) : Out :=
  .next (match ch with
    | .host => expireHost s
    | .debug => s.modMgs fun m => { m with dbgCh := none }
    | .usdo can node sess => expireCtx ⟨can, node, sess⟩ s)

/-- HOST_SESSION_TIMEOUT, R376. -/
def execHostSessionTimeout (s : State) : Out := .next (if s.mgs.hostAuth then endHostSession s else s)

/-- DEBUG_SESSION_END, R376: DBG_EN falls; in NAP and HIBERNATE the pin is ignored, R35. -/
def execDebugSessionEnd (s : State) : Out :=
  .next (if 2 ≤ s.runState then s
    else if s.mgs.dbgAuth then endDebugSession s else s.modMgs fun m => { m with dbgCh := none })

/-- TAMPER, R377: active in every state. -/
def execTamper (s : State) : Out := .next (alarm 0 (setActive 0 true s))

/-- VOLTAGE_GLITCH, R377: on VDDC, or on VAON, which is watched in HIBERNATE too. -/
def execVoltageGlitch (vddc : Bool) (s : State) : Out :=
  .next (if vddc && s.runState = 3 then s else alarm 1 (setActive 1 true s))

/-- CLOCK_GLITCH, R377: on the 25 MHz clock while it runs, or on the 32.768 kHz clock. -/
def execClockGlitch (ref : Bool) (s : State) : Out :=
  .next (if ref && !s.on GCTL_CLKSTAT.REFOK then s else alarm 2 (setActive 2 true s))

/-- UNAUTHENTICATED_DEBUG, R377: in RUN and DOZE, without a debug session. -/
def execUnauthenticatedDebug (s : State) : Out :=
  .next (if s.fabricOn && !s.mgs.dbgAuth then alarm 4 (setActive 4 true s) else s)

/-- KEY_INTEGRITY_CHECK, R372: whether the key region verifies. -/
def execKeyIntegrityCheck (ok : Bool) (s : State) : Out :=
  .next (if s.runState = 3 then s
    else
      let s := setActive 5 (!ok) s
      if ok then s else alarm 5 s)

/-- KEY_ERASE_COMPLETE, R379: not before the end of a wake; every authenticated context closes too. -/
def execKeyEraseComplete (s : State) : Out :=
  .next (if s.power.inReset || s.runState = 3 || s.mgs.erase.isNone then s else closeContexts (·.auth) (keyErase s))

end Sys2Proof.Machine
end

