-- ==== Sys2Proof/Machine/Network.lean ====
section
/-!
DEFINITION. Machine/Network.lean: the commands of the CAN FD controllers and the CANopen FD node (R307 to R341).
-/

namespace Sys2Proof.Machine

/-- The name of a USDO session context. -/
def ctxKey (can : Fin 2) (node : Fin 128) (sess : Fin 256) : CtxKey := ⟨can, node, sess⟩

/-- NMT_START, R317. -/
def execNmtStart (k : Fin 2) (node : Fin 128) (s : State) : Out := .next (rxIn k (.nmt 2 node) s)

/-- NMT_STOP, R317. -/
def execNmtStop (k : Fin 2) (node : Fin 128) (s : State) : Out := .next (rxIn k (.nmt 3 node) s)

/-- NMT_PRE_OPERATIONAL, R317. -/
def execNmtPreOperational (k : Fin 2) (node : Fin 128) (s : State) : Out := .next (rxIn k (.nmt 1 node) s)

/-- NMT_RESET_NODE, R317. -/
def execNmtResetNode (k : Fin 2) (node : Fin 128) (s : State) : Out := .next (rxIn k (.nmtReset node) s)

/-- NMT_RESET_DEFERRED, R317. -/
def execNmtResetDeferred (s : State) : Out := .next (nmtResetDeferred s)

/-- NMT_RESET_COMMUNICATION, R317. -/
def execNmtResetCommunication (k : Fin 2) (node : Fin 128) (s : State) : Out := .next (rxIn k (.nmtResetComm node) s)

/-- HEARTBEAT_PRODUCE, R319. -/
def execHeartbeatProduce (s : State) : Out := .next (heartbeatSend s)

/-- HEARTBEAT_RECEIVED, R320. -/
def execHeartbeatReceived (k : Fin 2) (node : Fin 128) (s : State) : Out := .next (rxIn k (.heartbeat node) s)

/-- HEARTBEAT_LOSS, R320: consumer entry n + 1. -/
def execHeartbeatLoss (n : Fin 32) (s : State) : Out := .next (heartbeatLoss n s)

/-- EMCY_SEND, R321. -/
def execEmcySend (k : Fin 2) (s : State) : Out := .next (emcySend k s)

/-- SYNC, R322: the number of data bytes and the first of them. -/
def execCanSync (k : Fin 2) (len : Fin 65) (counter : BitVec 8) (s : State) : Out := .next (rxIn k (.sync len counter.toNat) s)

/-- TIME, R323: days and milliseconds, or none for a frame of another length. -/
def execCanTime (k : Fin 2) (t : Option (BitVec 16 × BitVec 28)) (s : State) : Out :=
  .next (rxIn k (.time (t.map fun x => (x.1.toNat, x.2.toNat))) s)

/-- RPDO, R325: RPDO n + 1 with its data. -/
def execRpdo (k : Fin 2) (n : Fin 64) (bytes : List (BitVec 8)) (s : State) : Out := .next (rxIn k (.rpdo n (bytes.map (·.toNat))) s)

/-- RPDO_DEADLINE, R325. -/
def execRpdoDeadline (n : Fin 64) (s : State) : Out := .next (rpdoDeadline n s)

/-- TPDO_SEND, R326. -/
def execTpdoSend (n : Fin 64) (s : State) : Out := .next (tpdoSend n s)

/-- TPDO_TIMER, R326. -/
def execTpdoTimer (n : Fin 64) (s : State) : Out := .next (tpdoTimer n s)

/-- USDO_REQUEST, R327. -/
def execUsdoRequest (can : Fin 2) (node : Fin 128) (sess : Fin 256) (op : UsdoOp) (s : State) : Out :=
  .next (rxIn can (.usdo node sess op) s)

/-- USDO_TIMEOUT, R329. -/
def execUsdoTimeout (can : Fin 2) (node : Fin 128) (sess : Fin 256) (s : State) : Out := .next (usdoTimeout (ctxKey can node sess) s)

/-- MALFORMED_FRAME, R330. -/
def execMalformedFrame (k : Fin 2) (node : Option (Fin 128)) (s : State) : Out :=
  .next (rxIn k (.malformed (node.map (·.val))) s)

/-- QUARANTINE_END, R330. -/
def execQuarantineEnd (node : Fin 128) (s : State) : Out := .next (quarantineEnd node s)

/-- CONTEXT_IDLE_TIMEOUT, R331. -/
def execContextIdleTimeout (can : Fin 2) (node : Fin 128) (sess : Fin 256) (s : State) : Out :=
  .next (contextIdle (ctxKey can node sess) s)

/-- RX_DISCARD, R311. -/
def execRxDiscard (k : Fin 2) (s : State) : Out := .next (rxDiscard k s)

/-- BUS_OFF, R314. -/
def execBusOff (k : Fin 2) (s : State) : Out := .next (busOff k s)

/-- BUS_OFF_RECOVERY, R314. -/
def execBusOffRecovery (k : Fin 2) (s : State) : Out := .next (busOffRecovery k s)

/-- ERROR_PASSIVE, R314. -/
def execErrorPassive (k : Fin 2) (s : State) : Out := .next (errorPassive k s)

/-- ERROR_ACTIVE, R299. -/
def execErrorActive (k : Fin 2) (s : State) : Out := .next (errorActive k s)

/-- BUS_INTEGRATION, R315. -/
def execBusIntegration (k : Fin 2) (s : State) : Out := .next (busIntegration k s)

/-- CONTROLLER_ENABLE, R312. -/
def execControllerEnable (m : Master) (k : Fin 2) (s : State) : Out := .next (regWrite m (NET_CTL k) 0x00010001 s)

/-- CONTROLLER_DISABLE, R315. -/
def execControllerDisable (m : Master) (k : Fin 2) (s : State) : Out := .next (regWrite m (NET_CTL k) 0x00010000 s)

/-- CONTROLLER_OFF, R315. -/
def execControllerOff (k : Fin 2) (s : State) : Out := .next (controllerIdle k s)

/-- A complete download of four bytes to sub-index 1 of an object. -/
def wordDownload (idx : BitVec 16) (w : Word) : UsdoOp :=
  .download idx 1 ((leBytes 4 w.toNat).map (BitVec.ofNat 8)) true

/-- STORE_OBJECT_WRITE, R336. -/
def execStoreObjectWrite (can : Fin 2) (node : Fin 128) (sess : Fin 256) (w : Word) (s : State) : Out :=
  .next (rxIn can (.usdo node sess (wordDownload 0x1010 w)) s)

/-- RESTORE_OBJECT_WRITE, R336. -/
def execRestoreObjectWrite (can : Fin 2) (node : Fin 128) (sess : Fin 256) (w : Word) (s : State) : Out :=
  .next (rxIn can (.usdo node sess (wordDownload 0x1011 w)) s)

end Sys2Proof.Machine
end

