-- ==== Sys2Proof/Machine/Plan.lean ====
section
/-!
DEFINITION. Machine/Plan.lean: the commands of the changeover planner (R209 to R228).
-/

namespace Sys2Proof.Machine

/-- The word of PL_CMD for a command. -/
def plWord (cmd slot : Nat) (abq : Bool) : Word := BitVec.ofNat 32 (slot * 256 + b2n abq * 16 + cmd)

/-- LOAD, R212. -/
def execLoad (m : Master) (slot : BitVec 8) (s : State) : Out := .next (regWrite m PL_CMD (plWord 1 slot.toNat false) s)

/-- SAVE, R210. -/
def execSave (m : Master) (slot : BitVec 8) (s : State) : Out := .next (regWrite m PL_CMD (plWord 2 slot.toNat false) s)

/-- ERASE, R210. -/
def execErase (m : Master) (slot : BitVec 8) (s : State) : Out := .next (regWrite m PL_CMD (plWord 3 slot.toNat false) s)

/-- LOADX, R357. -/
def execLoadx (m : Master) (s : State) : Out := .next (regWrite m PL_CMD (plWord 4 0 false) s)

/-- PLAN, R213. -/
def execPlan (m : Master) (s : State) : Out := .next (regWrite m PL_CMD (plWord 5 0 false) s)

/-- RUN, R220. -/
def execRun (m : Master) (s : State) : Out := .next (regWrite m PL_CMD (plWord 6 0 false) s)

/-- ABORT, R226. -/
def execAbort (m : Master) (abq : Bool) (s : State) : Out := .next (regWrite m PL_CMD (plWord 7 0 abq) s)

/-- CLEAR, R209. -/
def execClear (m : Master) (s : State) : Out := .next (regWrite m PL_CMD (plWord 8 0 false) s)

/-- PLAN_COMPLETE, R219. -/
def execPlanComplete (s : State) : Out := .next (planComplete s)

/-- PL_COMMAND_END, R210: `ok` says that the NVM write or the flash read succeeded, `flash` are the words a LOADX read,
which the XIP fetcher must have been able to reach (R357): a read of it that fails ends in its own bus error (R355). A read that gave
nothing stands for one word. -/
def execPlCommandEnd (ok : Bool) (flash : List Word) (s : State) : Out :=
  let n := max 1 flash.length
  .next (if s.pl.cmd = 4 then plEnd (ok && s.loadxReach n) flash (loadxReads n s) else plEnd ok flash s)

/-- PLAN_START, R220; the urgent trigger of R267 falls at plan tick 0. -/
def execPlanStart (s : State) : Out :=
  .next (if s.fabricOn && s.runReady && s.plState = 3 then plannerTrigger (planBegin s) else s)

/-- ADMISSION_BLOCKED, R225. -/
def execAdmissionBlocked (e : Fin 128) (s : State) : Out := .next (admissionBlocked e s)

/-- The address of a word of the recipe buffer. -/
def recipeAddr : RecipeWord → Nat
  | .entry e w => PL_RCP0 e + 4 * w
  | .header i => PL_RCPHDR i

/-- RECIPE_BUFFER_WRITE, R213. -/
def execRecipeBufferWrite (m : Master) (at_ : RecipeWord) (w : Word) (s : State) : Out := .next (regWrite m (recipeAddr at_) w s)

/-- PL_ORD_WRITE, R219. -/
def execPlOrdWrite (m : Master) (k : Fin 128) (w : Word) (s : State) : Out := .next (regWrite m (PL_ORD k) w s)

end Sys2Proof.Machine
end

