-- ==== Sys2Proof/Machine/Power.lean ====
section
/-!
DEFINITION. Machine/Power.lean: the commands of power domains, run states, clocks and resets (R50 to R68).
-/

namespace Sys2Proof.Machine

/-- The domains GCTL_PWRDOM now selects, no command bit set. -/
def State.powerWord (s : State) : Word := s.latest GCTL_PWRDOM &&& 0xF1

/-- GCTL_PWRDOM with COACH[c] = `on` and FORCE[c] = `force`, the other domains as they are. -/
def State.coachWord (s : State) (c : Nat) (on force : Bool) : Word :=
  let w := wordPut s.powerWord (4 + c) (4 + c) (b2n on)
  wordPut w 11 8 (if force then 2 ^ c else 0)

/-- The word of GCTL_RUNCTL that requests run state `r` and selects nothing else. -/
def runWord (r : Nat) : Word := BitVec.ofNat 32 (0x70000 + r)

/-- COACH_ON_REQUEST, R50. -/
def execCoachOnRequest (m : Master) (c : Fin 4) (s : State) : Out :=
  .next (guardedWrite m GCTL_PWRDOM (s.coachWord c true false) s)

/-- COACH_ON_COMPLETE, R50. -/
def execCoachOnComplete (c : Fin 4) (s : State) : Out := .next (coachOnDone c s)

/-- COACH_ON_TIMEOUT, R50. -/
def execCoachOnTimeout (c : Fin 4) (s : State) : Out := .next (coachOnFail c s)

/-- COACH_OFF_REQUEST, R51. -/
def execCoachOffRequest (m : Master) (c : Fin 4) (s : State) : Out :=
  .next (guardedWrite m GCTL_PWRDOM (s.coachWord c false false) s)

/-- COACH_FORCED_OFF, R52. -/
def execCoachForcedOff (m : Master) (c : Fin 4) (s : State) : Out :=
  .next (guardedWrite m GCTL_PWRDOM (s.coachWord c false true) s)

/-- FORCED_OFF_TIMEOUT, R52. -/
def execForcedOffTimeout (c : Fin 4) (s : State) : Out := .next (forcedTimeout c s)

/-- AFE_OFF, R53. -/
def execAfeOff (m : Master) (s : State) : Out := .next (guardedWrite m GCTL_PWRDOM (wordPut s.powerWord 0 0 0) s)

/-- AFE_ON, R53. -/
def execAfeOn (m : Master) (s : State) : Out := .next (guardedWrite m GCTL_PWRDOM (wordPut s.powerWord 0 0 1) s)

/-- SOFTWARE_RESET, R65. -/
def execSoftwareReset (m : Master) (s : State) : Out :=
  .next (guardedWrite m GCTL_PWRDOM (wordPut s.powerWord 31 31 1) s)

/-- REQ_RUN, R57. -/
def execReqRun (m : Master) (s : State) : Out := .next (regWrite m GCTL_RUNCTL (runWord 0) s)

/-- REQ_DOZE, R55. -/
def execReqDoze (m : Master) (s : State) : Out := .next (regWrite m GCTL_RUNCTL (runWord 1) s)

/-- REQ_NAP, R56. -/
def execReqNap (m : Master) (s : State) : Out := .next (regWrite m GCTL_RUNCTL (runWord 2) s)

/-- REQ_HIBERNATE, R56. -/
def execReqHibernate (m : Master) (s : State) : Out := .next (regWrite m GCTL_RUNCTL (runWord 3) s)

/-- AUTODOZE_ENTRY, R55. -/
def execAutodozeEntry (s : State) : Out := .next (autodoze s)

/-- What a source records when it ends DOZE, R57: starts, enables and events have no bit in WAKESRC. -/
def dozeBit : DozeSource → Option Nat
  | .axis => none
  | .event => none
  | .can0 => some 0
  | .can1 => some 1
  | .hostFrame => some 7
  | .hostWrite => some 7

/-- DOZE_WAKE, R57. -/
def execDozeWake (src : DozeSource) (s : State) : Out :=
  .next (if s.runState = 1 && !s.power.inReset then
      match dozeBit src with
      | none => dozeEnd s
      | some b => dozeEnd (noteWake b s)
    else s)

/-- NAP_WAKE, R57 and R58: a source that is not armed wakes nothing. -/
def execNapWake (src : WakeSource) (chk : SaveCheck) (s : State) : Out :=
  .next (if s.runState = 2 && !s.power.inReset && s.wakesFrom 2 src then napEnd (wakeBit src) chk s else s)

/-- HIBERNATE_WAKE, R57 and R59; the RTC has counted on in HIBERNATE (R64). -/
def execHibernateWake (wake : Wake) (s : State) : Out :=
  .next (if s.runState = 3 && !s.power.inReset && s.wakesFrom 3 wake.source then
      enterReset 7 false (noteWake (wakeBit wake.source) (rtcCount wake.elapsed.toNat s))
    else s)

/-- CLOCK_FAILURE, R62: loss of the reference, or of lock where the PLL is to run. -/
def execClockFailure (refLost : Bool) (s : State) : Out :=
  .next (if s.power.inReset || s.runState < 2 || (s.runState = 2 && refLost) then enterReset 5 refLost s else s)

/-- OSCILLATOR_RESTART, R62: the oscillator is tried again; whether the reference runs is seen by CLOCK_RECOVERY. -/
def execOscillatorRestart (s : State) : Out := .next s

/-- CLOCK_RECOVERY, R62: the reference runs again, and the reset sequence can start. -/
def execClockRecovery (s : State) : Out :=
  .next (if s.power.refLost then (s.modPower fun p => { p with refLost := false }).put GCTL_CLKSTAT.REFOK 1 else s)

/-- CRYSTAL_CHANGEOVER, R63. -/
def execCrystalChangeover (s : State) : Out := .next (s.put GCTL_CLKSTAT.T32SRC 1)

/-- CRYSTAL_STOP, R63. -/
def execCrystalStop (s : State) : Out :=
  .next (if s.on GCTL_CLKSTAT.T32SRC then (s.put GCTL_CLKSTAT.T32SRC 0).put GCTL_CLKSTAT.T32FAIL 1 else s)

/-- RTC_WRITE_COMMIT, R64. -/
def execRtcWriteCommit (s : State) : Out := .next (rtcCommit s)

/-- The RTC count at the moment of an alarm: in HIBERNATE no command counts it, so the alarm itself says that it has come to the
value compared, R64. -/
def rtcAtAlarm (s : State) : State :=
  let v := s.rtc / 2 ^ 47 * 2 ^ 47 + (s.rd GCTL_RTCALM).toNat * 32768
  if s.runState = 3 then rtcCount (v - s.rtc) s else s

/-- RTC_ALARM, R64: a match raises the RTC wake when WRTC is 1. -/
def execRtcAlarm (s : State) : Out :=
  let s := rtcAtAlarm s
  .next (if s.rtc / 32768 % 2 ^ 32 = (s.rd GCTL_RTCALM).toNat && s.on GCTL_RUNCTL.WRTC then
      s.modPower fun p => { p with wakeAct := natPutBit p.wakeAct 5 true }
    else s)

/-- POWER_ON_RESET, R65. -/
def execPowerOnReset (s : State) : Out := .next (enterReset 0 false s)

/-- RESET_PIN, R65. -/
def execResetPin (s : State) : Out := .next (enterReset 1 false s)

/-- PWRGOOD_LOW, R65: ignored in HIBERNATE, where the supplies it guards are off, R35. -/
def execPwrgoodLow (s : State) : Out := .next (if s.runState = 3 && !s.power.inReset then s else enterReset 2 false s)

/-- BROWN_OUT, R65. -/
def execBrownOut (s : State) : Out := .next (enterReset 3 false s)

/-- RESET_SEQUENCE_START, R67 and R369; the RTC has counted on in reset, and goes on through the sequence (R64). -/
def execResetSequenceStart (strap : BitVec 7) (boot : BootRead) (s : State) : Out :=
  .next (resetStart strap.toNat boot.ok (if s.power.inReset && !s.power.sequence && !s.power.refLost then
      rtcCount boot.elapsed.toNat (s.modPower fun p => { p with seqTime := boot.sequence.toNat })
    else s))

/-- RESET_SEQUENCE_END, R67 and R68; the RTC has counted on through the sequence (R64). -/
def execResetSequenceEnd (s : State) : Out := .next (resetEnd (if s.power.sequence then rtcCount s.power.seqTime s else s))

/-- BOOT_UP, R317. -/
def execBootUp (s : State) : Out := .next (bootUp s)

end Sys2Proof.Machine
end

