-- ==== Sys2Proof/Machine/Tick.lean ====
section
/-!
DEFINITION. Machine/Tick.lean: the profile tick as a whole (R166): what lands, what every axis does, what follows the axes.
-/

namespace Sys2Proof.Machine

/-- The axis slots. -/
def allAxes : List Nat := List.range 128

/-- What the surroundings show the part at a tick: RTC periods passed, wake sources, excitation limits, bus counters. -/
def tickInputs (i : TickIn) (s : State) : State :=
  let s := rtcCount i.rtc s
  let s := s.modPower fun p => { p with wakeAct := i.wake.toNat, unticked := false }
  let s := (s.put AFE_STAT.COMPL (if s.afeOn then i.compl.toNat else 0)).putB AFE_STAT.VSHORT (i.vshort && s.afeOn)
  canCounters 1 i.can1 (canCounters 0 i.can0 s)

/-- Frames sent since the last tick, and the FRAME boundaries of R78: since the last tick a frame ended on the bus of a controller,
or the bus is idle or the controller off. A word of both controllers lands when both are at one (DESIGN CHOICE, log entry 63). -/
def tickBuses (i : TickIn) (s : State) : State :=
  let s := applyIf i.sent1 (txSent 1) (applyIf i.sent0 (txSent 0) s)
  let s := (s.modCan 0 fun c => { c with busy := !i.idle0 }).modCan 1 fun c => { c with busy := !i.idle1 }
  let at0 : Bool := i.idle0 || i.sent0 || i.ended0 || s.canState 0 = 3
  let at1 : Bool := i.idle1 || i.sent1 || i.ended1 || s.canState 1 = 3
  let s := applyIf at1 (landFrame (netOwn 1)) (applyIf at0 (landFrame (netOwn 0)) s)
  applyIf (at0 && at1) (landFrame netShared) s

/-- The first tick in the device safe state, items 1 to 3 of R291. -/
def safeTick (s : State) : State :=
  if s.trio.safe && !s.trio.safeIn then
    let s := s.modTrio fun t => { t with safeIn := true }
    let s := applyIf s.planActive (·.modPl fun p => { p with abort := some true }) s
    forEach allAxes (fun a s =>
      if s.enabled a && (s.inMotion a || (s.mo a).run ≠ .idle) then s.modMo a fun m => { m with orderQ := true } else s) s
  else s

/-- Parking in the device safe state, item 5 of R291. -/
def safeParks (s : State) : State :=
  if s.trio.safeIn then
    forEach allAxes (fun a s =>
      if s.parkable a && s.atStandstill a then s.modMo a fun m => { m with forcePark := true } else s) s
  else s

/-- Compare units that watch a position, and the fall of a reported speed, R238 and R244. -/
def tickFeedback (s : State) : State :=
  forEach (List.range 8) (fun n s => speedDecay n (cmpTick n s)) s

/-- Whether the sequencer of an enabled axis that is not halted reads an uncorrectable wave entry at this tick, R156: coil B's
address is 256 ahead of coil A's, R154. -/
def State.waveRead (s : State) (a : Nat) : Bool :=
  let t := s.get (AX_WAVESEL.TABLE a)
  let addr := s.tableAddr a (s.se a).addrPos
  s.enabled a && !s.on (AX_STAT.HALTED a) && t ≠ 0
    && (s.isBad (WAVE t (waveEntry (addr % 1024))) || s.isBad (WAVE t (waveEntry ((addr + 256) % 1024))))

/-- An uncorrectable entry read by a sequencer faults every enabled axis that selects the table, R156. -/
def tickWave (s : State) : State :=
  if s.bad.isEmpty then s
  else
    let tables := (allAxes.filter s.waveRead).map fun a => s.get (AX_WAVESEL.TABLE a)
    forEach allAxes (fun a s =>
      if s.enabled a && tables.contains (s.get (AX_WAVESEL.TABLE a)) then axisParity a s else s) s

/-- HALT_N recognised low since the last tick, R306: every enabled axis with PIN = 1 halts as by HALT; a plan entry that waits for an
axis with PIN = 1 fails, R223. -/
def tickHaltN (s : State) : State :=
  if s.power.haltDue then
    forEach allAxes (fun a s =>
      if s.on (AX_HALTCFG.PIN a) && (s.enabledOrPend a || (s.ownerEntry a).isSome) then s.modMo a fun m => { m with reqs := m.reqs ++ [.halt] } else s)
      (s.modPower fun p => { p with haltDue := false })
  else s

/-- Steps 1 to 5 of R166 for every slot, and the admission gate of R221 after them. -/
def tickAxes (s : State) : State :=
  let s := abortTick s
  let s := forEach allAxes (fun a s => axisActions a (axisCommands a s)) s
  let s := tickWave (forEach allAxes axisTick s)
  gateTick (tickFeedback s)

/-- The planner's trigger at the tick at which a plan ends, R267. -/
def tickTrigger (before : Bool) (s : State) : State :=
  if before && !s.planActive then plannerTrigger s else s

/-- Each axis notes its position at the last snapshot before the new one is taken, R182. -/
def notePositions (s : State) : State :=
  forEach (s.axes.map (·.1)) (fun a s => s.modMo a fun m => { m with posLast := s.posSnap a }) s

/-- What follows the engines at a tick: power-downs, run states, network and host port. -/
def tickRest (s : State) : State :=
  let s := tpdoTick (tickSnap (notePositions s))
  let s := forEach (List.range 4) forcedTick (safeParks s)
  hostPoll (netSweep (sleepStep s))

/-- The profile tick, R166. -/
def profileTick (i : TickIn) (s : State) : State :=
  if !s.fabricOn then s
  else
    let s := tickInputs i { s with ticks := s.ticks + 1 }
    let s := safeTick (errorReset (tickBuses i s))
    let s := tickHaltN (storeTake (landAxis (lossActions s)))
    let before := s.planActive
    tickRest (tickTrigger before (tickAxes s))

end Sys2Proof.Machine
end

