-- ==== Sys2Proof/Machine/Profile.lean ====
section
/-!
DEFINITION. Machine/Profile.lean: the commands of the profile engines, the microstep tables and the load-angle estimator (R147 to
R207).
-/

namespace Sys2Proof.Machine

/-- PROFILE_TICK, R166. -/
def execProfileTick (inp : TickIn) (s : State) : Out := .next (profileTick inp s)

/-- STANDSTILL_DELAY_EXPIRY, R147. -/
def execStandstillDelayExpiry (a : Fin 128) (s : State) : Out := .next (delayExpiry a s)

/-- ENERGISE_EXPIRY, R149. -/
def execEnergiseExpiry (a : Fin 128) (s : State) : Out := .next (energExpiry a s)

/-- The word of AXEN that holds the bit of axis `a`, with that bit as given and the others as they read. -/
def State.axenWord (s : State) (a : Nat) (on : Bool) : Word := wordPut (s.latest (AXEN (a / 32))) (a % 32) (a % 32) (b2n on)

/-- AXIS_ENABLE, R169. -/
def execAxisEnable (m : Master) (a : Fin 128) (s : State) : Out := .next (regWrite m (AXEN (a / 32)) (s.axenWord a true) s)

/-- AXIS_DISABLE, R170. -/
def execAxisDisable (m : Master) (a : Fin 128) (s : State) : Out := .next (regWrite m (AXEN (a / 32)) (s.axenWord a false) s)

/-- START, R171. -/
def execStart (m : Master) (a : Fin 128) (s : State) : Out := .next (regWrite m (AX_CTL a) 1 s)

/-- AXSTART_WRITE, R171. -/
def execAxstartWrite (m : Master) (k : Fin 4) (w : Word) (s : State) : Out := .next (regWrite m (AXSTART k) w s)

/-- STOP, R185. -/
def execStop (m : Master) (a : Fin 128) (s : State) : Out := .next (regWrite m (AX_CTL a) 2 s)

/-- QSTOP, R185. -/
def execQstop (m : Master) (a : Fin 128) (s : State) : Out := .next (regWrite m (AX_CTL a) 3 s)

/-- HALT, R186. -/
def execHalt (m : Master) (a : Fin 128) (s : State) : Out := .next (regWrite m (AX_CTL a) 4 s)

/-- RELEASE, R186. -/
def execRelease (m : Master) (a : Fin 128) (s : State) : Out := .next (regWrite m (AX_CTL a) 5 s)

/-- CONT, R180. -/
def execCont (m : Master) (a : Fin 128) (s : State) : Out := .next (regWrite m (AX_CTL a) 6 s)

/-- CLRPML, R187. -/
def execClrpml (m : Master) (a : Fin 128) (s : State) : Out := .next (regWrite m (AX_CTL a) 7 s)

/-- SYNC_IN_EDGE, R173. -/
def execSyncInEdge (rising : Bool) (s : State) : Out := .next (if s.fabricOn then syncEvent 1 rising s else s)

/-- SYNC_OUT_PULSE_END, R173. -/
def execSyncOutPulseEnd (s : State) : Out := .next { s with syncOut := false }

/-- AX_POS_WRITE, R187: the LO word, then the HI word that commits the pair, R90. -/
def execAxPosWrite (m : Master) (a : Fin 128) (lo hi : Word) (s : State) : Out :=
  let s := regWrite m (AX_POS_LO a) lo s
  .next (if s.reply m = .done then regWrite m (AX_POS_HI a) hi s else s)

/-- WAVE_LOAD_OPEN, R157. -/
def execWaveLoadOpen (m : Master) (t : Fin 8) (s : State) : Out := .next (regWrite m (WAVE_CTL t) 1 s)

/-- WAVE_LOAD_CLOSE, R157. -/
def execWaveLoadClose (m : Master) (t : Fin 8) (s : State) : Out := .next (regWrite m (WAVE_CTL t) 0 s)

/-- WAVE_ENTRY_WRITE, R157. -/
def execWaveEntryWrite (m : Master) (t : Fin 8) (k : Fin 257) (w : Word) (s : State) : Out := .next (regWrite m (WAVE t k) w s)

/-- WAVE_SELECT_WRITE, R159. -/
def execWaveSelectWrite (m : Master) (a : Fin 128) (w : Word) (s : State) : Out := .next (regWrite m (AX_WAVESEL a) w s)

/-- WAVE_ECC_ERROR, R156. -/
def execWaveEccError (t : Fin 8) (k : Fin 257) (fatal : Bool) (s : State) : Out :=
  .next (if s.power.inReset then s else waveEcc t k fatal s)

/-- LOAD_ANGLE_EVALUATION, R196. -/
def execLoadAngleEvaluation (a : Fin 128) (s : State) : Out := .next (evalAxis a s)

/-- HOMING_SETTLE_EXPIRY, R201. -/
def execHomingSettleExpiry (a : Fin 128) (s : State) : Out := .next (homeSettle a s)

/-- CLRE, R206. -/
def execClre (m : Master) (a : Fin 128) (s : State) : Out := .next (regWrite m (AX_LACTL a) 0x80000000 s)

/-- CLRS, R199. -/
def execClrs (m : Master) (a : Fin 128) (s : State) : Out := .next (regWrite m (AX_LACTL a) 0x40000000 s)

/-- CLRH, R201. -/
def execClrh (m : Master) (a : Fin 128) (s : State) : Out := .next (regWrite m (AX_LACTL a) 0x20000000 s)

/-- WITALIGN, R204. -/
def execWitalign (m : Master) (a : Fin 128) (s : State) : Out := .next (regWrite m (AX_LACTL a) 2 s)

/-- LEARN, R197. -/
def execLearn (m : Master) (a : Fin 128) (s : State) : Out := .next (regWrite m (AX_LACTL a) 1 s)

end Sys2Proof.Machine
end

