-- ==== Sys2Proof/Machine/SerialPorts.lean ====
section
/-!
DEFINITION. Machine/SerialPorts.lean: the commands of the host SPI port and of the flash memory port (R342 to R360).
-/

namespace Sys2Proof.Machine

/-- HOST_FRAME_START, R342: the SPI mode selected and the header, if the frame carries a whole one. -/
def execHostFrameStart (mode3 : Bool) (header : Option HostHead) (s : State) : Out := .next (frameStart mode3 header s)

/-- READ, R346: one slot. -/
def execHostRead (s : State) : Out := .next (hostReadSlot false s)

/-- READ_FIXED, R344: one slot. -/
def execHostReadFixed (s : State) : Out := .next (hostReadSlot true s)

/-- WRITE, R347: one word and, with CRC, its CRC byte. -/
def execHostWrite (w : Word) (crc : BitVec 8) (s : State) : Out := .next (hostWriteSlot false w crc s)

/-- WRITE_FIXED, R344. -/
def execHostWriteFixed (w : Word) (crc : BitVec 8) (s : State) : Out := .next (hostWriteSlot true w crc s)

/-- STATUS, R344: one slot. -/
def execHostStatus (s : State) : Out := .next (hostStatusSlot s)

/-- HOST_BUSY_LIMIT, R349. -/
def execHostBusyLimit (s : State) : Out := .next (hostBusyLimit s)

/-- HOST_FRAME_END, R350. -/
def execHostFrameEnd (kind : FrameEnd) (s : State) : Out := .next (frameEnd kind s)

/-- XIP_READ, R355. -/
def execXipRead (m : Master) (read : WindowRead) (s : State) : Out := .next (busRead m read.size read.addr.toNat s)

/-- LINE_FETCH_COMPLETE, R356: the sixteen words of the line. -/
def execLineFetchComplete (words : List Word) (s : State) : Out := .next (hostPoll (fetchComplete words s))

/-- SPM_GO, R359: a write of SPM_CMD with GO = 1. -/
def execSpmGo (m : Master) (w : Word) (s : State) : Out := .next (regWrite m SPM_CMD (wordPut w 31 31 1) s)

/-- SPM_STATUS_POLL, R359. -/
def execSpmStatusPoll (poll : SpmPoll) (s : State) : Out := .next (statusPoll poll.status.toNat poll.rx s)

/-- SPM_TRANSACTION_END, R359: the words received, or the DWORDs of the SFDP a probe read. -/
def execSpmTransactionEnd (rx : List Word) (found : Option (List Word)) (s : State) : Out := .next (transactionEnd rx found s)

/-- SPM_WAIT_TIMEOUT, R359. -/
def execSpmWaitTimeout (s : State) : Out := .next (waitTimeout s)

/-- PROBE, R358. -/
def execProbe (m : Master) (s : State) : Out := .next (regWrite m SPM_CTL 4 s)

/-- INV, R356. -/
def execSpmInv (m : Master) (s : State) : Out := .next (regWrite m SPM_CTL 2 s)

/-- FLUSH, R360. -/
def execFlush (m : Master) (s : State) : Out := .next (regWrite m SPM_CTL 1 s)

/-- TXFIFO_PUSH, R360. -/
def execTxfifoPush (m : Master) (w : Word) (s : State) : Out := .next (regWrite m SPM_TXFIFO w s)

/-- RXFIFO_POP, R360. -/
def execRxfifoPop (m : Master) (s : State) : Out := .next (busRead m .word SPM_RXFIFO s)

end Sys2Proof.Machine
end

