-- ==== Sys2Proof/Machine/TrioCmds.lean ====
section
/-!
DEFINITION. Machine/TrioCmds.lean: the commands of the Sage trio's supervision and of its debug port (R280 to R295).
-/

namespace Sys2Proof.Machine

/-- SIGNATURE_WINDOW_END, R284: what copies 0, 1, 2 did in the window, and the input disagreements of each (R283). -/
def execSignatureWindowEnd (x0 x1 x2 : List CopyAct) (n0 n1 n2 : Nat) (s : State) : Out := .next (signatureEnd x0 x1 x2 n0 n1 n2 s)

/-- QUIET_STATE_SCRUB, R286: the entries of copies 0, 1, 2 that physical events have changed. -/
def execQuietStateScrub (x0 x1 x2 : List Upset) (s : State) : Out := .next (resumeNet (quietScrub x0 x1 x2 s))

/-- COMPARATOR_SELF_TEST, R287: the copy each half reports as odd, if any. -/
def execComparatorSelfTest (half0 half1 : Option (Fin 3)) (s : State) : Out :=
  .next (selfTest (half0.map (·.val)) (half1.map (·.val)) s)

/-- DELAY_PARITY_ERROR, R285. -/
def execDelayParityError (k : Fin 3) (s : State) : Out := .next (delayParity k s)

/-- CACHE_PARITY_ERROR, R285. -/
def execCacheParityError (k : Fin 3) (s : State) : Out := .next (cacheParity k s)

/-- SRAM_DOUBLE_BIT_ERROR, R281. -/
def execSramDoubleBitError (s : State) : Out := .next (sramDouble s)

/-- SRAM_SCRUB, R281: single-bit errors corrected. -/
def execSramScrub (n : Nat) (s : State) : Out := .next (sramScrub n s)

/-- RESYNC_HOLD_DONE, R289. -/
def execResyncHoldDone (s : State) : Out := .next (resyncHold s)

/-- RESYNC_BOUNDARY, R289. -/
def execResyncBoundary (s : State) : Out := .next (resyncBoundary s)

/-- RESYNC_COMPLETE, R289. -/
def execResyncComplete (s : State) : Out := .next (resyncComplete s)

/-- RESYNC_TIMEOUT, R288. -/
def execResyncTimeout (s : State) : Out := .next (resyncTimeout s)

/-- COMPARATOR_FAULT, R283. -/
def execComparatorFault (s : State) : Out := .next (comparatorFault s)

/-- VOTER_DISAGREEMENT, R282. -/
def execVoterDisagreement (s : State) : Out := .next (voterDisagreement s)

/-- A debug request: without a debug session it is trigger 4 of the alarm, R294 and R377. -/
def debugRequest (f : State → State) (s : State) : State :=
  if !s.fabricOn then s
  else if s.mgs.dbgAuth then f s
  else alarm 4 (setActive 4 true s)

/-- DEBUG_HALT, R294. -/
def execDebugHalt (s : State) : Out := .next (debugRequest debugHalt s)

/-- DEBUG_RESUME, R295: a single step if `step`; the entries physical events have changed before its scrub. -/
def execDebugResume (step : Bool) (x0 x1 x2 : List Upset) (s : State) : Out :=
  .next (resumeNet (debugRequest (debugResume step x0 x1 x2) s))

/-- DEBUG_REGISTER_WRITE, R295. -/
def execDebugRegisterWrite (reg : BitVec 16) (w : Word) (s : State) : Out := .next (debugRequest (debugRegister reg.toNat w) s)

/-- DEBUG_MEMORY_WRITE, R295: a word of the 1 MB shared SRAM. -/
def execDebugMemoryWrite (addr : Fin 262144) (w : Word) (s : State) : Out := .next (debugRequest (debugMemory addr w) s)

end Sys2Proof.Machine
end

