-- ==== Sys2Proof/Machine/Dispatch.lean ====
section
/-!
DEFINITION. Machine/Dispatch.lean: one arm per command of the opcode table, each a direct call of the command's meaning.
-/

namespace Sys2Proof.Machine

/-- The effect of a command on everything but the queue. -/
def exec (i : Instr) (s : State) : Host.Outcome State Fault Refusal :=
  match i with
  | .coachPeriodStart c edges => Sys2Proof.Machine.execCoachPeriodStart c edges s
  | .cmdFrame c q copy crcOk => Sys2Proof.Machine.execCmdFrame c q copy crcOk s
  | .cfgFrame c rx => Sys2Proof.Machine.execCfgFrame c rx s
  | .cfgrFrame c crcOk => Sys2Proof.Machine.execCfgrFrame c crcOk s
  | .cfgResend c => Sys2Proof.Machine.execCfgResend c s
  | .ctlSafeSelect c crcOk => Sys2Proof.Machine.execCtlSafeSelect c crcOk s
  | .ctlKill c rx => Sys2Proof.Machine.execCtlKill c rx s
  | .ctlRelease c rx => Sys2Proof.Machine.execCtlRelease c rx s
  | .statFrame c crcOk read => Sys2Proof.Machine.execStatFrame c crcOk read s
  | .snsFrame c crcOk charge => Sys2Proof.Machine.execSnsFrame c crcOk charge s
  | .coachWatchdogExpiry x => Sys2Proof.Machine.execCoachWatchdogExpiry x s
  | .hubWatchdogExpiry c => Sys2Proof.Machine.execHubWatchdogExpiry c s
  | .coachSilenceEnd c => Sys2Proof.Machine.execCoachSilenceEnd c s
  | .trainingAttempt c => Sys2Proof.Machine.execTrainingAttempt c s
  | .trainingComplete c => Sys2Proof.Machine.execTrainingComplete c s
  | .coachOnRequest m c => Sys2Proof.Machine.execCoachOnRequest m c s
  | .coachOnComplete c => Sys2Proof.Machine.execCoachOnComplete c s
  | .coachOnTimeout c => Sys2Proof.Machine.execCoachOnTimeout c s
  | .coachOffRequest m c => Sys2Proof.Machine.execCoachOffRequest m c s
  | .coachForcedOff m c => Sys2Proof.Machine.execCoachForcedOff m c s
  | .forcedOffTimeout c => Sys2Proof.Machine.execForcedOffTimeout c s
  | .afeOff m => Sys2Proof.Machine.execAfeOff m s
  | .afeOn m => Sys2Proof.Machine.execAfeOn m s
  | .softwareReset m => Sys2Proof.Machine.execSoftwareReset m s
  | .reqRun m => Sys2Proof.Machine.execReqRun m s
  | .reqDoze m => Sys2Proof.Machine.execReqDoze m s
  | .reqNap m => Sys2Proof.Machine.execReqNap m s
  | .reqHibernate m => Sys2Proof.Machine.execReqHibernate m s
  | .autodozeEntry => Sys2Proof.Machine.execAutodozeEntry s
  | .dozeWake src => Sys2Proof.Machine.execDozeWake src s
  | .napWake src chk => Sys2Proof.Machine.execNapWake src chk s
  | .hibernateWake wake => Sys2Proof.Machine.execHibernateWake wake s
  | .clockFailure refLost => Sys2Proof.Machine.execClockFailure refLost s
  | .oscillatorRestart => Sys2Proof.Machine.execOscillatorRestart s
  | .clockRecovery => Sys2Proof.Machine.execClockRecovery s
  | .crystalChangeover => Sys2Proof.Machine.execCrystalChangeover s
  | .crystalStop => Sys2Proof.Machine.execCrystalStop s
  | .rtcWriteCommit => Sys2Proof.Machine.execRtcWriteCommit s
  | .rtcAlarm => Sys2Proof.Machine.execRtcAlarm s
  | .powerOnReset => Sys2Proof.Machine.execPowerOnReset s
  | .resetPin => Sys2Proof.Machine.execResetPin s
  | .pwrgoodLow => Sys2Proof.Machine.execPwrgoodLow s
  | .brownOut => Sys2Proof.Machine.execBrownOut s
  | .resetSequenceStart strap boot => Sys2Proof.Machine.execResetSequenceStart strap boot s
  | .resetSequenceEnd => Sys2Proof.Machine.execResetSequenceEnd s
  | .bootUp => Sys2Proof.Machine.execBootUp s
  | .registerWrite m size addr w => Sys2Proof.Machine.execRegisterWrite m size addr w s
  | .guardTimeout addr => Sys2Proof.Machine.execGuardTimeout addr s
  | .pairLoRead m addr => Sys2Proof.Machine.execPairLoRead m addr s
  | .pairLoWrite m addr w => Sys2Proof.Machine.execPairLoWrite m addr w s
  | .pairHiWrite m addr w => Sys2Proof.Machine.execPairHiWrite m addr w s
  | .bufholdTimeout cls => Sys2Proof.Machine.execBufholdTimeout cls s
  | .storeSettings m => Sys2Proof.Machine.execStoreSettings m s
  | .storeWaveTables m => Sys2Proof.Machine.execStoreWaveTables m s
  | .storeBoth m => Sys2Proof.Machine.execStoreBoth m s
  | .eraseStoredSettings m => Sys2Proof.Machine.execEraseStoredSettings m s
  | .storeComplete ok => Sys2Proof.Machine.execStoreComplete ok s
  | .parityScrub failing => Sys2Proof.Machine.execParityScrub failing s
  | .rankPeriodStart r edges => Sys2Proof.Machine.execRankPeriodStart r edges s
  | .interlockTimeout l => Sys2Proof.Machine.execInterlockTimeout l s
  | .rkModeWrite m r v => Sys2Proof.Machine.execRkModeWrite m r v s
  | .legTestWrite m l w => Sys2Proof.Machine.execLegTestWrite m l w s
  | .overcurrentTrip l hs hard time stamp onTime gang => Sys2Proof.Machine.execOvercurrentTrip l hs hard time stamp onTime gang s
  | .tripCheck => Sys2Proof.Machine.execTripCheck s
  | .periodCheck c p => Sys2Proof.Machine.execPeriodCheck c p s
  | .faultWaitExpiry a => Sys2Proof.Machine.execFaultWaitExpiry a s
  | .retryTestPass a => Sys2Proof.Machine.execRetryTestPass a s
  | .retryWindowExpiry a => Sys2Proof.Machine.execRetryWindowExpiry a s
  | .axisFaultLatch m a => Sys2Proof.Machine.execAxisFaultLatch m a s
  | .axisFaultClear m a => Sys2Proof.Machine.execAxisFaultClear m a s
  | .rankFaultClear m r => Sys2Proof.Machine.execRankFaultClear m r s
  | .coachFaultClear m c => Sys2Proof.Machine.execCoachFaultClear m c s
  | .vmFaultClear m c => Sys2Proof.Machine.execVmFaultClear m c s
  | .chargePumpUndervoltage r => Sys2Proof.Machine.execChargePumpUndervoltage r s
  | .gateRegUndervoltage c => Sys2Proof.Machine.execGateRegUndervoltage c s
  | .tempSensorFailure r => Sys2Proof.Machine.execTempSensorFailure r s
  | .vmUndervoltageFault c below4 => Sys2Proof.Machine.execVmUndervoltageFault c below4 s
  | .vmUndervoltageWarning c below4 => Sys2Proof.Machine.execVmUndervoltageWarning c below4 s
  | .vmOvervoltageFault c => Sys2Proof.Machine.execVmOvervoltageFault c s
  | .vmOvervoltageWarning c => Sys2Proof.Machine.execVmOvervoltageWarning c s
  | .vmRelease c cond => Sys2Proof.Machine.execVmRelease c cond s
  | .vmBelow6v c => Sys2Proof.Machine.execVmBelow6v c s
  | .blankingEnd r z => Sys2Proof.Machine.execBlankingEnd r z s
  | .comparatorTrip r z time first onTime gang => Sys2Proof.Machine.execComparatorTrip r z time first onTime gang s
  | .mixedDecaySwitch r x => Sys2Proof.Machine.execMixedDecaySwitch r x s
  | .fastDecayZeroGuard r x => Sys2Proof.Machine.execFastDecayZeroGuard r x s
  | .decayTrimWindow c => Sys2Proof.Machine.execDecayTrimWindow c s
  | .standstillDelayExpiry a => Sys2Proof.Machine.execStandstillDelayExpiry a s
  | .energiseExpiry a => Sys2Proof.Machine.execEnergiseExpiry a s
  | .profileTick inp => Sys2Proof.Machine.execProfileTick inp s
  | .axisEnable m a => Sys2Proof.Machine.execAxisEnable m a s
  | .axisDisable m a => Sys2Proof.Machine.execAxisDisable m a s
  | .start m a => Sys2Proof.Machine.execStart m a s
  | .axstartWrite m k w => Sys2Proof.Machine.execAxstartWrite m k w s
  | .stop m a => Sys2Proof.Machine.execStop m a s
  | .qstop m a => Sys2Proof.Machine.execQstop m a s
  | .halt m a => Sys2Proof.Machine.execHalt m a s
  | .release m a => Sys2Proof.Machine.execRelease m a s
  | .cont m a => Sys2Proof.Machine.execCont m a s
  | .clrpml m a => Sys2Proof.Machine.execClrpml m a s
  | .syncInEdge rising => Sys2Proof.Machine.execSyncInEdge rising s
  | .axPosWrite m a lo hi => Sys2Proof.Machine.execAxPosWrite m a lo hi s
  | .waveLoadOpen m t => Sys2Proof.Machine.execWaveLoadOpen m t s
  | .waveLoadClose m t => Sys2Proof.Machine.execWaveLoadClose m t s
  | .waveEntryWrite m t k w => Sys2Proof.Machine.execWaveEntryWrite m t k w s
  | .waveSelectWrite m a w => Sys2Proof.Machine.execWaveSelectWrite m a w s
  | .waveEccError t k fatal => Sys2Proof.Machine.execWaveEccError t k fatal s
  | .bemfWindowZero r x tz => Sys2Proof.Machine.execBemfWindowZero r x tz s
  | .bemfSarRequest r z => Sys2Proof.Machine.execBemfSarRequest r z s
  | .bemfConversionEnd r z sample => Sys2Proof.Machine.execBemfConversionEnd r z sample s
  | .bemfWindowAbandon r x => Sys2Proof.Machine.execBemfWindowAbandon r x s
  | .loadAngleEvaluation a => Sys2Proof.Machine.execLoadAngleEvaluation a s
  | .homingSettleExpiry a => Sys2Proof.Machine.execHomingSettleExpiry a s
  | .clre m a => Sys2Proof.Machine.execClre m a s
  | .clrs m a => Sys2Proof.Machine.execClrs m a s
  | .clrh m a => Sys2Proof.Machine.execClrh m a s
  | .witalign m a => Sys2Proof.Machine.execWitalign m a s
  | .learn m a => Sys2Proof.Machine.execLearn m a s
  | .load m slot => Sys2Proof.Machine.execLoad m slot s
  | .save m slot => Sys2Proof.Machine.execSave m slot s
  | .erase m slot => Sys2Proof.Machine.execErase m slot s
  | .loadx m => Sys2Proof.Machine.execLoadx m s
  | .plan m => Sys2Proof.Machine.execPlan m s
  | .run m => Sys2Proof.Machine.execRun m s
  | .abort m abq => Sys2Proof.Machine.execAbort m abq s
  | .clear m => Sys2Proof.Machine.execClear m s
  | .planComplete => Sys2Proof.Machine.execPlanComplete s
  | .plCommandEnd ok flash => Sys2Proof.Machine.execPlCommandEnd ok flash s
  | .planStart => Sys2Proof.Machine.execPlanStart s
  | .admissionBlocked e => Sys2Proof.Machine.execAdmissionBlocked e s
  | .recipeBufferWrite m at_ w => Sys2Proof.Machine.execRecipeBufferWrite m at_ w s
  | .plOrdWrite m k w => Sys2Proof.Machine.execPlOrdWrite m k w s
  | .stepEdge n step dir stamps => Sys2Proof.Machine.execStepEdge n step dir stamps s
  | .quadratureTransition n a b stamp => Sys2Proof.Machine.execQuadratureTransition n a b stamp s
  | .encoderErrorWindow n => Sys2Proof.Machine.execEncoderErrorWindow n s
  | .indexEdge sample => Sys2Proof.Machine.execIndexEdge sample s
  | .speedTimeout n => Sys2Proof.Machine.execSpeedTimeout n s
  | .countWindowEnd => Sys2Proof.Machine.execCountWindowEnd s
  | .comparePulseEnd n => Sys2Proof.Machine.execComparePulseEnd n s
  | .compareArm m n w => Sys2Proof.Machine.execCompareArm m n w s
  | .cmpPosWrite m n w => Sys2Proof.Machine.execCmpPosWrite m n w s
  | .encCntWrite m n w => Sys2Proof.Machine.execEncCntWrite m n w s
  | .stepCntWrite m n w => Sys2Proof.Machine.execStepCntWrite m n w s
  | .conversionStart d now => Sys2Proof.Machine.execConversionStart d now s
  | .settleEnd d => Sys2Proof.Machine.execSettleEnd d s
  | .breakCheck d vcm => Sys2Proof.Machine.execBreakCheck d vcm s
  | .conversionEnd d code ovr => Sys2Proof.Machine.execConversionEnd d code ovr s
  | .leadConversionEnd d code ovr => Sys2Proof.Machine.execLeadConversionEnd d code ovr s
  | .resultLand d => Sys2Proof.Machine.execResultLand d s
  | .dutyWindowStart => Sys2Proof.Machine.execDutyWindowStart s
  | .afeSharedWrite m k w => Sys2Proof.Machine.execAfeSharedWrite m k w s
  | .sdStart m d => Sys2Proof.Machine.execSdStart m d s
  | .sdStop m d => Sys2Proof.Machine.execSdStop m d s
  | .sdInj m d => Sys2Proof.Machine.execSdInj m d s
  | .sdSimul m d mask => Sys2Proof.Machine.execSdSimul m d mask s
  | .sdCal m d mask => Sys2Proof.Machine.execSdCal m d mask s
  | .sdClrcnt m d => Sys2Proof.Machine.execSdClrcnt m d s
  | .sdDisable m d w => Sys2Proof.Machine.execSdDisable m d w s
  | .sdTimerPulse x => Sys2Proof.Machine.execSdTimerPulse x s
  | .trigInEdge x => Sys2Proof.Machine.execTrigInEdge x s
  | .calPhaseEnd d value => Sys2Proof.Machine.execCalPhaseEnd d value s
  | .sdResultRead m d inj => Sys2Proof.Machine.execSdResultRead m d inj s
  | .linearise d => Sys2Proof.Machine.execLinearise d s
  | .sdLindataAccess m d w => Sys2Proof.Machine.execSdLindataAccess m d w s
  | .signatureWindowEnd x0 x1 x2 n0 n1 n2 => Sys2Proof.Machine.execSignatureWindowEnd x0 x1 x2 n0 n1 n2 s
  | .quietStateScrub x0 x1 x2 => Sys2Proof.Machine.execQuietStateScrub x0 x1 x2 s
  | .comparatorSelfTest half0 half1 => Sys2Proof.Machine.execComparatorSelfTest half0 half1 s
  | .delayParityError k => Sys2Proof.Machine.execDelayParityError k s
  | .cacheParityError k => Sys2Proof.Machine.execCacheParityError k s
  | .sramDoubleBitError => Sys2Proof.Machine.execSramDoubleBitError s
  | .sramScrub n => Sys2Proof.Machine.execSramScrub n s
  | .resyncHoldDone => Sys2Proof.Machine.execResyncHoldDone s
  | .resyncBoundary => Sys2Proof.Machine.execResyncBoundary s
  | .resyncComplete => Sys2Proof.Machine.execResyncComplete s
  | .resyncTimeout => Sys2Proof.Machine.execResyncTimeout s
  | .debugHalt => Sys2Proof.Machine.execDebugHalt s
  | .debugResume step x0 x1 x2 => Sys2Proof.Machine.execDebugResume step x0 x1 x2 s
  | .debugRegisterWrite reg w => Sys2Proof.Machine.execDebugRegisterWrite reg w s
  | .debugMemoryWrite addr w => Sys2Proof.Machine.execDebugMemoryWrite addr w s
  | .evPendClear m k w => Sys2Proof.Machine.execEvPendClear m k w s
  | .evEnWrite m k w => Sys2Proof.Machine.execEvEnWrite m k w s
  | .doorbell m => Sys2Proof.Machine.execDoorbell m s
  | .trioEventDelivery => Sys2Proof.Machine.execTrioEventDelivery s
  | .emcyQueue => Sys2Proof.Machine.execEmcyQueue s
  | .logEntry => Sys2Proof.Machine.execLogEntry s
  | .logRepeatRewrite src => Sys2Proof.Machine.execLogRepeatRewrite src s
  | .haltNLow => Sys2Proof.Machine.execHaltNLow s
  | .haltNHigh => Sys2Proof.Machine.execHaltNHigh s
  | .nmtStart k node => Sys2Proof.Machine.execNmtStart k node s
  | .nmtStop k node => Sys2Proof.Machine.execNmtStop k node s
  | .nmtPreOperational k node => Sys2Proof.Machine.execNmtPreOperational k node s
  | .nmtResetNode k node => Sys2Proof.Machine.execNmtResetNode k node s
  | .nmtResetDeferred => Sys2Proof.Machine.execNmtResetDeferred s
  | .nmtResetCommunication k node => Sys2Proof.Machine.execNmtResetCommunication k node s
  | .heartbeatProduce => Sys2Proof.Machine.execHeartbeatProduce s
  | .heartbeatReceived k node => Sys2Proof.Machine.execHeartbeatReceived k node s
  | .heartbeatLoss n => Sys2Proof.Machine.execHeartbeatLoss n s
  | .emcySend k => Sys2Proof.Machine.execEmcySend k s
  | .canSync k len counter => Sys2Proof.Machine.execCanSync k len counter s
  | .canTime k t => Sys2Proof.Machine.execCanTime k t s
  | .rpdo k n bytes => Sys2Proof.Machine.execRpdo k n bytes s
  | .rpdoDeadline n => Sys2Proof.Machine.execRpdoDeadline n s
  | .tpdoSend n => Sys2Proof.Machine.execTpdoSend n s
  | .tpdoTimer n => Sys2Proof.Machine.execTpdoTimer n s
  | .usdoRequest can node sess op => Sys2Proof.Machine.execUsdoRequest can node sess op s
  | .usdoTimeout can node sess => Sys2Proof.Machine.execUsdoTimeout can node sess s
  | .malformedFrame k node => Sys2Proof.Machine.execMalformedFrame k node s
  | .quarantineEnd node => Sys2Proof.Machine.execQuarantineEnd node s
  | .contextIdleTimeout can node sess => Sys2Proof.Machine.execContextIdleTimeout can node sess s
  | .rxDiscard k => Sys2Proof.Machine.execRxDiscard k s
  | .busOff k => Sys2Proof.Machine.execBusOff k s
  | .busOffRecovery k => Sys2Proof.Machine.execBusOffRecovery k s
  | .errorPassive k => Sys2Proof.Machine.execErrorPassive k s
  | .controllerEnable m k => Sys2Proof.Machine.execControllerEnable m k s
  | .controllerDisable m k => Sys2Proof.Machine.execControllerDisable m k s
  | .controllerOff k => Sys2Proof.Machine.execControllerOff k s
  | .storeObjectWrite can node sess w => Sys2Proof.Machine.execStoreObjectWrite can node sess w s
  | .restoreObjectWrite can node sess w => Sys2Proof.Machine.execRestoreObjectWrite can node sess w s
  | .hostFrameStart mode3 header => Sys2Proof.Machine.execHostFrameStart mode3 header s
  | .hostRead => Sys2Proof.Machine.execHostRead s
  | .hostReadFixed => Sys2Proof.Machine.execHostReadFixed s
  | .hostWrite w crc => Sys2Proof.Machine.execHostWrite w crc s
  | .hostWriteFixed w crc => Sys2Proof.Machine.execHostWriteFixed w crc s
  | .hostStatus => Sys2Proof.Machine.execHostStatus s
  | .hostBusyLimit => Sys2Proof.Machine.execHostBusyLimit s
  | .hostFrameEnd kind => Sys2Proof.Machine.execHostFrameEnd kind s
  | .xipRead m read => Sys2Proof.Machine.execXipRead m read s
  | .lineFetchComplete words => Sys2Proof.Machine.execLineFetchComplete words s
  | .spmGo m w => Sys2Proof.Machine.execSpmGo m w s
  | .spmStatusPoll poll => Sys2Proof.Machine.execSpmStatusPoll poll s
  | .spmTransactionEnd rx found => Sys2Proof.Machine.execSpmTransactionEnd rx found s
  | .spmWaitTimeout => Sys2Proof.Machine.execSpmWaitTimeout s
  | .probe m => Sys2Proof.Machine.execProbe m s
  | .spmInv m => Sys2Proof.Machine.execSpmInv m s
  | .flush m => Sys2Proof.Machine.execFlush m s
  | .txfifoPush m w => Sys2Proof.Machine.execTxfifoPush m w s
  | .rxfifoPop m => Sys2Proof.Machine.execRxfifoPop m s
  | .monitorSample temp mv active periods => Sys2Proof.Machine.execMonitorSample temp mv active periods s
  | .watchdogService => Sys2Proof.Machine.execWatchdogService s
  | .watchdogExpiry => Sys2Proof.Machine.execWatchdogExpiry s
  | .mgsDeferredReset => Sys2Proof.Machine.execMgsDeferredReset s
  | .logDataRead m => Sys2Proof.Machine.execLogDataRead m s
  | .logPointerWrite m w => Sys2Proof.Machine.execLogPointerWrite m w s
  | .updBegin m => Sys2Proof.Machine.execUpdBegin m s
  | .updEnd m => Sys2Proof.Machine.execUpdEnd m s
  | .activate m => Sys2Proof.Machine.execActivate m s
  | .cancel m => Sys2Proof.Machine.execCancel m s
  | .confirm m => Sys2Proof.Machine.execConfirm m s
  | .activateReset m => Sys2Proof.Machine.execActivateReset m s
  | .updateDataWrite m w => Sys2Proof.Machine.execUpdateDataWrite m w s
  | .updateCommandEnd => Sys2Proof.Machine.execUpdateCommandEnd s
  | .logout m => Sys2Proof.Machine.execLogout m s
  | .setkey m => Sys2Proof.Machine.execSetkey m s
  | .genid m => Sys2Proof.Machine.execGenid m s
  | .readpub m => Sys2Proof.Machine.execReadpub m s
  | .readcert m arg => Sys2Proof.Machine.execReadcert m arg s
  | .attest m => Sys2Proof.Machine.execAttest m s
  | .unlock m => Sys2Proof.Machine.execUnlock m s
  | .clralarm m => Sys2Proof.Machine.execClralarm m s
  | .securityCommandEnd => Sys2Proof.Machine.execSecurityCommandEnd s
  | .challengeIssue ch => Sys2Proof.Machine.execChallengeIssue ch s
  | .responseCheck ch resp => Sys2Proof.Machine.execResponseCheck ch resp s
  | .challengeExpiry ch => Sys2Proof.Machine.execChallengeExpiry ch s
  | .hostSessionTimeout => Sys2Proof.Machine.execHostSessionTimeout s
  | .debugSessionEnd => Sys2Proof.Machine.execDebugSessionEnd s
  | .tamper => Sys2Proof.Machine.execTamper s
  | .voltageGlitch vddc => Sys2Proof.Machine.execVoltageGlitch vddc s
  | .clockGlitch ref => Sys2Proof.Machine.execClockGlitch ref s
  | .unauthenticatedDebug => Sys2Proof.Machine.execUnauthenticatedDebug s
  | .keyIntegrityCheck ok => Sys2Proof.Machine.execKeyIntegrityCheck ok s
  | .keyEraseComplete => Sys2Proof.Machine.execKeyEraseComplete s
  | .deadTimeEnd l => Sys2Proof.Machine.execDeadTimeEnd l s
  | .overrideOntimeEnd x => Sys2Proof.Machine.execOverrideOntimeEnd x s
  | .syncOutPulseEnd => Sys2Proof.Machine.execSyncOutPulseEnd s
  | .errorActive k => Sys2Proof.Machine.execErrorActive k s
  | .busIntegration k => Sys2Proof.Machine.execBusIntegration k s
  | .comparatorFault => Sys2Proof.Machine.execComparatorFault s
  | .voterDisagreement => Sys2Proof.Machine.execVoterDisagreement s

end Sys2Proof.Machine
end

