-- ==== Sys2Proof/Safety.lean ====
section
/-!
DEFINITION. Safety.lean: the terms the obligations speak in: the parts of the state and what it means that only some of them
changed, the registers that a command leaves alone, and what a good state is: every keyed part in its canonical form, and the
bounds the spec gives the block's buffers.
-/

namespace Sys2Proof.Machine

/-! ### Frames -/

/-- The address of word `k` of instance `i` of a register, as the register maps lay it out. -/
def regAddr : RegName → Nat → Nat → Nat
  | .GCTL_ID, _, _ => GCTL_ID
  | .GCTL_PROD, _, _ => GCTL_PROD
  | .GCTL_SCRATCH, _, _ => GCTL_SCRATCH
  | .GCTL_BUSERR, _, _ => GCTL_BUSERR
  | .GCTL_BUSERRADDR, _, _ => GCTL_BUSERRADDR
  | .GCTL_BUSERRCNT, _, _ => GCTL_BUSERRCNT
  | .GCTL_SEQERR, _, _ => GCTL_SEQERR
  | .GCTL_PARERR, _, _ => GCTL_PARERR
  | .GCTL_BUFHOLD, _, _ => GCTL_BUFHOLD
  | .GCTL_BUFSTAT, _, _ => GCTL_BUFSTAT
  | .GCTL_CLAMPREQHI, _, _ => GCTL_CLAMPREQHI
  | .GCTL_CLAMPADDR, _, _ => GCTL_CLAMPADDR
  | .GCTL_CLAMPREQ, _, _ => GCTL_CLAMPREQ
  | .GCTL_CLAMPAPP, _, _ => GCTL_CLAMPAPP
  | .GCTL_CLAMPAPPHI, _, _ => GCTL_CLAMPAPPHI
  | .GCTL_PWRDOM, _, _ => GCTL_PWRDOM
  | .GCTL_PWRSTAT, _, _ => GCTL_PWRSTAT
  | .GCTL_RUNCTL, _, _ => GCTL_RUNCTL
  | .GCTL_RUNSTAT, _, _ => GCTL_RUNSTAT
  | .GCTL_CLKSTAT, _, _ => GCTL_CLKSTAT
  | .GCTL_RTC_LO, _, _ => GCTL_RTC_LO
  | .GCTL_RTC_HI, _, _ => GCTL_RTC_HI
  | .GCTL_RTCALM, _, _ => GCTL_RTCALM
  | .GCTL_RSTCAUSE, _, _ => GCTL_RSTCAUSE
  | .GCTL_STORE, _, _ => GCTL_STORE
  | .GCTL_STORESTAT, _, _ => GCTL_STORESTAT
  | .AX_CTL, i, _ => AX_CTL i
  | .AX_MODE, i, _ => AX_MODE i
  | .AX_TGT_LO, i, _ => AX_TGT_LO i
  | .AX_TGT_HI, i, _ => AX_TGT_HI i
  | .AX_VMAX, i, _ => AX_VMAX i
  | .AX_AMAX, i, _ => AX_AMAX i
  | .AX_DMAX, i, _ => AX_DMAX i
  | .AX_QDMAX, i, _ => AX_QDMAX i
  | .AX_JERK, i, _ => AX_JERK i
  | .AX_VTGT, i, _ => AX_VTGT i
  | .AX_POS_LO, i, _ => AX_POS_LO i
  | .AX_POS_HI, i, _ => AX_POS_HI i
  | .AX_VEL, i, _ => AX_VEL i
  | .AX_ACC, i, _ => AX_ACC i
  | .AX_LIMN_LO, i, _ => AX_LIMN_LO i
  | .AX_LIMN_HI, i, _ => AX_LIMN_HI i
  | .AX_LIMP_LO, i, _ => AX_LIMP_LO i
  | .AX_LIMP_HI, i, _ => AX_LIMP_HI i
  | .AX_LIMCFG, i, _ => AX_LIMCFG i
  | .AX_STAT, i, _ => AX_STAT i
  | .AX_EVT, i, _ => AX_EVT i
  | .AX_CHAIN, i, _ => AX_CHAIN i
  | .AX_CHAINST, i, _ => AX_CHAINST i
  | .AX_FOLLOW, i, _ => AX_FOLLOW i
  | .AX_GEARNUM, i, _ => AX_GEARNUM i
  | .AX_GEARDEN, i, _ => AX_GEARDEN i
  | .AX_FLWERR, i, _ => AX_FLWERR i
  | .AX_HALTCFG, i, _ => AX_HALTCFG i
  | .AX_STARTCFG, i, _ => AX_STARTCFG i
  | .AX_STARTSTAT, i, _ => AX_STARTSTAT i
  | .AX_LOOPS, i, _ => AX_LOOPS i
  | .AX_CS, i, _ => AX_CS i
  | .AX_CSLIM, i, _ => AX_CSLIM i
  | .AX_TRIM, i, _ => AX_TRIM i
  | .AX_CSEFF, i, _ => AX_CSEFF i
  | .AX_THR, i, _ => AX_THR i
  | .AX_DECAY, i, _ => AX_DECAY i
  | .AX_DECAYST, i, _ => AX_DECAYST i
  | .AX_STANDSTILL, i, _ => AX_STANDSTILL i
  | .AX_SSTAT, i, _ => AX_SSTAT i
  | .AX_WAVESEL, i, _ => AX_WAVESEL i
  | .AX_RESBAND0, i, _ => AX_RESBAND0 i
  | .AX_RESBAND1, i, _ => AX_RESBAND1 i
  | .AX_USTAT, i, _ => AX_USTAT i
  | .AX_BEMFCFG, i, _ => AX_BEMFCFG i
  | .AX_BEMFSPD, i, _ => AX_BEMFSPD i
  | .AX_BEMFKE, i, _ => AX_BEMFKE i
  | .AX_STALLCFG, i, _ => AX_STALLCFG i
  | .AX_LA, i, _ => AX_LA i
  | .AX_STALLST, i, _ => AX_STALLST i
  | .AX_LACTL, i, _ => AX_LACTL i
  | .AX_BEMFCNT, i, _ => AX_BEMFCNT i
  | .AX_HOMECFG, i, _ => AX_HOMECFG i
  | .AX_HOMEMAX, i, _ => AX_HOMEMAX i
  | .AX_HOMEBACK, i, _ => AX_HOMEBACK i
  | .AX_HOMEOFS_LO, i, _ => AX_HOMEOFS_LO i
  | .AX_HOMEOFS_HI, i, _ => AX_HOMEOFS_HI i
  | .AX_HOMEST, i, _ => AX_HOMEST i
  | .AX_WITCFG, i, _ => AX_WITCFG i
  | .AX_WITGAIN, i, _ => AX_WITGAIN i
  | .AX_WITOFS_LO, i, _ => AX_WITOFS_LO i
  | .AX_WITOFS_HI, i, _ => AX_WITOFS_HI i
  | .AX_WITTOL, i, _ => AX_WITTOL i
  | .AX_WITST, i, _ => AX_WITST i
  | .AX_ENERGY_LO, i, _ => AX_ENERGY_LO i
  | .AX_ENERGY_HI, i, _ => AX_ENERGY_HI i
  | .AX_MOVEEN, i, _ => AX_MOVEEN i
  | .AX_EPFS, i, _ => AX_EPFS i
  | .AX_FLTCFG, i, _ => AX_FLTCFG i
  | .AX_FLTSTAT, i, _ => AX_FLTSTAT i
  | .AX_FLTCTL, i, _ => AX_FLTCTL i
  | .AX_FLTCNT, i, _ => AX_FLTCNT i
  | .LEG_CFG, i, _ => LEG_CFG i
  | .LEG_STAT, i, _ => LEG_STAT i
  | .LEG_EDGE, i, _ => LEG_EDGE i
  | .LEG_FLTCNT, i, _ => LEG_FLTCNT i
  | .LEG_TEST, i, _ => LEG_TEST i
  | .LEG_TRIP, i, _ => LEG_TRIP i
  | .RK_MODE, i, _ => RK_MODE i
  | .RK_STAT, i, _ => RK_STAT i
  | .RK_VCP, i, _ => RK_VCP i
  | .RK_IMB, i, _ => RK_IMB i
  | .RK_BALCFG, i, _ => RK_BALCFG i
  | .RK_FLTSTAT, i, _ => RK_FLTSTAT i
  | .RK_FLTCTL, i, _ => RK_FLTCTL i
  | .RK_TRIPMAP, i, _ => RK_TRIPMAP i
  | .RK_THERM, i, _ => RK_THERM i
  | .CO_PWMPER, i, _ => CO_PWMPER i
  | .CO_BLANK, i, _ => CO_BLANK i
  | .CO_CHOPCFG, i, _ => CO_CHOPCFG i
  | .CO_PERCNT, i, _ => CO_PERCNT i
  | .CO_DTRIM, i, _ => CO_DTRIM i
  | .CO_SLEWTGT, i, _ => CO_SLEWTGT i
  | .CO_DEADT, i, _ => CO_DEADT i
  | .CO_TEMP, i, k => CO_TEMP i k
  | .CO_TEMPMAX, i, _ => CO_TEMPMAX i
  | .CO_STAT, i, _ => CO_STAT i
  | .CO_PROTCFG, i, _ => CO_PROTCFG i
  | .CO_VM, i, _ => CO_VM i
  | .CO_FLTSTAT, i, _ => CO_FLTSTAT i
  | .CO_FLTCTL, i, _ => CO_FLTCTL i
  | .CO_LINKCFG, i, _ => CO_LINKCFG i
  | .CO_LINKSTAT, i, _ => CO_LINKSTAT i
  | .CO_LINKERR, i, _ => CO_LINKERR i
  | .SEG0, i, _ => SEG0 i
  | .SEG1, i, _ => SEG1 i
  | .SEG2, i, _ => SEG2 i
  | .SEG3, i, _ => SEG3 i
  | .WAVE, i, k => WAVE i k
  | .WAVE_CTL, i, _ => WAVE_CTL i
  | .WAVE_STAT, i, _ => WAVE_STAT i
  | .ENC_CFG, i, _ => ENC_CFG i
  | .ENC_FILT, i, _ => ENC_FILT i
  | .ENC_CNT, i, _ => ENC_CNT i
  | .ENC_ZLATCH, i, _ => ENC_ZLATCH i
  | .ENC_ZVAL, i, _ => ENC_ZVAL i
  | .ENC_STAT, i, _ => ENC_STAT i
  | .ENC_ERR, i, _ => ENC_ERR i
  | .ENC_ERRCFG, i, _ => ENC_ERRCFG i
  | .ENC_SPD, i, _ => ENC_SPD i
  | .ENC_PER, i, _ => ENC_PER i
  | .ENC_SPDCFG, i, _ => ENC_SPDCFG i
  | .ENC_MCNT, i, _ => ENC_MCNT i
  | .CMP_CFG, i, _ => CMP_CFG i
  | .CMP_POS, i, _ => CMP_POS i
  | .CMP_SPACING, i, _ => CMP_SPACING i
  | .CMP_COUNT, i, _ => CMP_COUNT i
  | .CMP_STAT, i, _ => CMP_STAT i
  | .CMP_CNTS, i, _ => CMP_CNTS i
  | .STEP_CFG, i, _ => STEP_CFG i
  | .STEP_FILT, i, _ => STEP_FILT i
  | .STEP_CNT, i, _ => STEP_CNT i
  | .STEP_TIMING, i, _ => STEP_TIMING i
  | .STEP_STAT, i, _ => STEP_STAT i
  | .STEP_ERR, i, _ => STEP_ERR i
  | .STEP_MCNT, i, _ => STEP_MCNT i
  | .AFE_CFGA, i, _ => AFE_CFGA i
  | .AFE_CFGB, i, _ => AFE_CFGB i
  | .AFE_CFGC, i, _ => AFE_CFGC i
  | .AFE_IEXC, _, _ => AFE_IEXC
  | .AFE_VEXC, _, _ => AFE_VEXC
  | .AFE_TDAC, _, _ => AFE_TDAC
  | .AFE_RREF, _, _ => AFE_RREF
  | .AFE_STAT, _, _ => AFE_STAT
  | .AFE_BRK, _, _ => AFE_BRK
  | .AFE_BRKCNT, _, _ => AFE_BRKCNT
  | .AFE_DUTY, _, _ => AFE_DUTY
  | .SD_CFG, i, _ => SD_CFG i
  | .SD_CMD, i, _ => SD_CMD i
  | .SD_DIRECT, i, _ => SD_DIRECT i
  | .SD_SEQ0, i, _ => SD_SEQ0 i
  | .SD_SEQ1, i, _ => SD_SEQ1 i
  | .SD_SEQCTL, i, _ => SD_SEQCTL i
  | .SD_AVG, i, _ => SD_AVG i
  | .SD_STAT, i, _ => SD_STAT i
  | .SD_RESULT, i, _ => SD_RESULT i
  | .SD_RESINFO, i, _ => SD_RESINFO i
  | .SD_INJRESULT, i, _ => SD_INJRESULT i
  | .SD_INJRESINFO, i, _ => SD_INJRESINFO i
  | .SD_CNT, i, _ => SD_CNT i
  | .SD_LINRES, i, _ => SD_LINRES i
  | .SD_LINADDR, i, _ => SD_LINADDR i
  | .SD_LINDATA, i, _ => SD_LINDATA i
  | .SD_CAL_OFS, i, k => SD_CAL_OFS i k
  | .SD_CAL_GAIN, i, k => SD_CAL_GAIN i k
  | .EV_PEND, i, _ => EV_PEND i
  | .EV_EN, i, _ => EV_EN i
  | .EV_ACT, i, _ => EV_ACT i
  | .EV_AXDONE, i, _ => EV_AXDONE i
  | .EV_GCFG, _, _ => EV_GCFG
  | .EV_IRQ0ID, _, _ => EV_IRQ0ID
  | .EV_IRQ1ID, _, _ => EV_IRQ1ID
  | .EV_PIN, _, _ => EV_PIN
  | .EV_DOORBELL, _, _ => EV_DOORBELL
  | .EV_LEGFLT, i, _ => EV_LEGFLT i
  | .EV_CFG, i, _ => EV_CFG i
  | .PL_CMD, _, _ => PL_CMD
  | .PL_STAT, _, _ => PL_STAT
  | .PL_CFG, _, _ => PL_CFG
  | .PL_XADDR, _, _ => PL_XADDR
  | .PL_BUDGET_VMA, _, _ => PL_BUDGET_VMA
  | .PL_BUDGET_VMB, _, _ => PL_BUDGET_VMB
  | .PL_BUDGET_PKG, _, _ => PL_BUDGET_PKG
  | .PL_SKIPTOL, _, _ => PL_SKIPTOL
  | .PL_BUDGET_COACH, i, _ => PL_BUDGET_COACH i
  | .PL_OVH, _, _ => PL_OVH
  | .PL_RANKLIM, i, _ => PL_RANKLIM i
  | .PL_SUM, i, _ => PL_SUM i
  | .PL_MOVERS, i, _ => PL_MOVERS i
  | .PL_MAKESPAN, _, _ => PL_MAKESPAN
  | .PL_PRED, _, _ => PL_PRED
  | .PL_ENERGY_LO, _, _ => PL_ENERGY_LO
  | .PL_ENERGY_HI, _, _ => PL_ENERGY_HI
  | .PL_EVINFO, _, _ => PL_EVINFO
  | .PL_RCPHDR, i, _ => PL_RCPHDR i
  | .PL_AXLIVE, i, _ => PL_AXLIVE i
  | .PL_AXMOT, i, _ => PL_AXMOT i
  | .PL_AXLRN, i, _ => PL_AXLRN i
  | .PL_ORD, i, _ => PL_ORD i
  | .PL_RCP0, i, _ => PL_RCP0 i
  | .PL_RCP1, i, _ => PL_RCP1 i
  | .PL_RCP2, i, _ => PL_RCP2 i
  | .PL_RCP3, i, _ => PL_RCP3 i
  | .PL_RES, i, _ => PL_RES i
  | .PL_RES_START, i, _ => PL_RES_START i
  | .PL_RES_END, i, _ => PL_RES_END i
  | .PL_RES_TEST, i, _ => PL_RES_TEST i
  | .PL_RES_EEST, i, _ => PL_RES_EEST i
  | .PL_RES_EACT, i, _ => PL_RES_EACT i
  | .AXEN, i, _ => AXEN i
  | .AXSTART, i, _ => AXSTART i
  | .AXALERT, i, _ => AXALERT i
  | .NET_CTL, i, _ => NET_CTL i
  | .NET_NBT, i, _ => NET_NBT i
  | .NET_DBT, i, _ => NET_DBT i
  | .NET_STAT, i, _ => NET_STAT i
  | .NET_CNT, i, _ => NET_CNT i
  | .NET_NODE, _, _ => NET_NODE
  | .NET_GUARD, _, _ => NET_GUARD
  | .NET_SESS, _, _ => NET_SESS
  | .NET_MAL, _, _ => NET_MAL
  | .NET_HB, _, _ => NET_HB
  | .NET_HBACT, i, _ => NET_HBACT i
  | .SPH_CFG, _, _ => SPH_CFG
  | .SPH_STAT, _, _ => SPH_STAT
  | .SPH_ERR, _, _ => SPH_ERR
  | .SPH_ERRCODE, _, _ => SPH_ERRCODE
  | .SPH_CNT, _, _ => SPH_CNT
  | .SPM_CFG, _, _ => SPM_CFG
  | .SPM_CLK, _, _ => SPM_CLK
  | .SPM_XOFS, _, _ => SPM_XOFS
  | .SPM_SFDP, _, _ => SPM_SFDP
  | .SPM_CMD, _, _ => SPM_CMD
  | .SPM_ADDR, _, _ => SPM_ADDR
  | .SPM_TXFIFO, _, _ => SPM_TXFIFO
  | .SPM_RXFIFO, _, _ => SPM_RXFIFO
  | .SPM_STAT, _, _ => SPM_STAT
  | .SPM_CTL, _, _ => SPM_CTL
  | .MGS_MON, i, _ => MGS_MON i
  | .MGS_THCFG, _, _ => MGS_THCFG
  | .MGS_WDCFG, _, _ => MGS_WDCFG
  | .MGS_LOGRPTR, _, _ => MGS_LOGRPTR
  | .MGS_LOGSTAT, _, _ => MGS_LOGSTAT
  | .MGS_LOGCFG, _, _ => MGS_LOGCFG
  | .MGS_LOGDATA, _, _ => MGS_LOGDATA
  | .MGS_UPDCTL, _, _ => MGS_UPDCTL
  | .MGS_UPDSTAT, _, _ => MGS_UPDSTAT
  | .MGS_UPDADDR, _, _ => MGS_UPDADDR
  | .MGS_UPDDATA, _, _ => MGS_UPDDATA
  | .MGS_RBCNT, _, _ => MGS_RBCNT
  | .MGS_AUCHAL, i, _ => MGS_AUCHAL i
  | .MGS_AURESP, i, _ => MGS_AURESP i
  | .MGS_AUSTAT, _, _ => MGS_AUSTAT
  | .MGS_SECCMD, _, _ => MGS_SECCMD
  | .MGS_SECSTAT, _, _ => MGS_SECSTAT
  | .MGS_ALCFG, _, _ => MGS_ALCFG
  | .MGS_ALSTAT, _, _ => MGS_ALSTAT
  | .MGS_PROV, _, _ => MGS_PROV
  | .MGS_SECBUF, i, _ => MGS_SECBUF i
  | .TRIO_CFG, _, _ => TRIO_CFG
  | .TRIO_STAT, _, _ => TRIO_STAT
  | .TRIO_MM, _, _ => TRIO_MM
  | .TRIO_CNT, _, _ => TRIO_CNT
  | .TRIO_INDIS, _, _ => TRIO_INDIS
  | .TRIO_STEST, _, _ => TRIO_STEST
  | .TRIO_SRAM, _, _ => TRIO_SRAM
  | .TRIO_CTL, _, _ => TRIO_CTL

/-- The address is that of a word of register `r`, of any instance. -/
def RegName.at (r : RegName) (addr : Nat) : Prop := ∃ i k, addr = regAddr r i k

/-- What a command can change: the words of one register (of every instance), any register word, or a field of State. -/
inductive Part where
  | reg (r : RegName)
  | regs
  | snap | staged | bad | replies | guards | hostPair | trioPair | mgsPair
  | canPair | ticks | free | trioQ | emcyQ | logQ | logWin | legs | coils
  | coaches | trips | runs | axes | pl | power | syncOut | encs | stepLast | stepDir
  | recipes | rbcnt | sds | afe | trio | mgs | net | sph | spm | nvm
  | pending
deriving DecidableEq, Repr

/-- A field of State holds the same in two states; register words are compared by `Frame` itself. -/
def Part.same (s t : State) : Part → Prop
  | .reg _ => True
  | .regs => True
  | .snap => t.snap = s.snap
  | .staged => t.staged = s.staged
  | .bad => t.bad = s.bad
  | .replies => t.replies = s.replies
  | .guards => t.guards = s.guards
  | .hostPair => t.hostPair = s.hostPair
  | .trioPair => t.trioPair = s.trioPair
  | .mgsPair => t.mgsPair = s.mgsPair
  | .canPair => t.canPair = s.canPair
  | .ticks => t.ticks = s.ticks
  | .free => t.free = s.free
  | .trioQ => t.trioQ = s.trioQ
  | .emcyQ => t.emcyQ = s.emcyQ
  | .logQ => t.logQ = s.logQ
  | .logWin => t.logWin = s.logWin
  | .legs => t.legs = s.legs
  | .coils => t.coils = s.coils
  | .coaches => t.coaches = s.coaches
  | .trips => t.trips = s.trips
  | .runs => t.runs = s.runs
  | .axes => t.axes = s.axes
  | .pl => t.pl = s.pl
  | .power => t.power = s.power
  | .syncOut => t.syncOut = s.syncOut
  | .encs => t.encs = s.encs
  | .stepLast => t.stepLast = s.stepLast
  | .stepDir => t.stepDir = s.stepDir
  | .recipes => t.recipes = s.recipes
  | .rbcnt => t.rbcnt = s.rbcnt
  | .sds => t.sds = s.sds
  | .afe => t.afe = s.afe
  | .trio => t.trio = s.trio
  | .mgs => t.mgs = s.mgs
  | .net => t.net = s.net
  | .sph => t.sph = s.sph
  | .spm => t.spm = s.spm
  | .nvm => t.nvm = s.nvm
  | .pending => t.pending = s.pending

/-- Only the parts of a list may differ between two states: every other field of State is the same, and every register word
that the list does not name reads the same. -/
def Frame (l : List Part) (s t : State) : Prop :=
  (∀ p, p ∉ l → p.same s t) ∧ (.regs ∈ l ∨ ∀ a, (∀ r, .reg r ∈ l → ¬ r.at a) → t.rd a = s.rd a)

/-- Only the register words of a list may differ between two states. -/
def Words (l : List Nat) (s t : State) : Prop := ∀ a, a ∉ l → t.rd a = s.rd a

/-! ### What the statements say of commands -/

/-- The command completes: it answers a next state, of which `P` holds. -/
def Does (c : Instr) (s : State) (P : State → Prop) : Prop := ∃ t, exec c s = .next t ∧ P t

/-- Master `m` may make accesses (R292 blocks those of a trio that is held), and checks 1 to 3 of R72 let it write the word at `addr`. -/
def State.mayWrite (s : State) (m : Master) (addr : Nat) : Prop :=
  s.voterBlocks m = false ∧ ∃ t, accessCheck m .word addr true s = .ok t

/-- The same of a read. -/
def State.mayRead (s : State) (m : Master) (addr : Nat) : Prop :=
  s.voterBlocks m = false ∧ ∃ t, accessCheck m .word addr false s = .ok t

/-- Checks 1 to 3 of R72 let master `m` make both writes of a guarded register at `addr`, and no other master has its window
open, R76. -/
def State.mayGuard (s : State) (m : Master) (addr : Nat) : Prop :=
  s.mayWrite m addr ∧ s.mayWrite m (addr + 4) ∧ ∀ g, s.guardAt addr = some g → g.master = m

/-! ### Good states -/

/-- A modulator's keyed parts are in canonical form. -/
def SdMod.good (m : SdMod) : Prop :=
  Sparse.wf (fun _ => {}) m.sums ∧ Sparse.wf (fun _ => none) m.gains ∧ Sparse.wf (fun _ => 0) m.leadCnt
    ∧ Sparse.wf (fun _ => none) m.cfg

/-- The front end's keyed parts are in canonical form. -/
def Afe.good (f : Afe) : Prop :=
  Sparse.wf (fun _ => 0) f.cfgSeq ∧ Sparse.wf (fun _ => 0) f.store ∧ Sparse.wf (fun _ => none) f.linCfg
    ∧ Sparse.wf (fun _ => none) f.linSlot

/-- The management subsystem's keyed parts are in canonical form, and the log holds at most 2,048 entries, R363. -/
def Mgs.good (m : Mgs) : Prop :=
  Sparse.wf (fun _ => 0) m.slotA.words ∧ Sparse.wf (fun _ => 0) m.slotB.words ∧ Sparse.wf (fun _ => 0) m.secIn
    ∧ Sparse.wf (fun _ => 0) m.resp ∧ m.log.length ≤ 2048

/-- The registers and the tags of a copy are in canonical form. -/
def Copy.good (c : Copy) : Prop := Sparse.wf (fun _ => 0) c.regs ∧ Sparse.wf (fun _ => 0) c.tags

/-- The trio's keyed parts are in canonical form: the shared SRAM, the copies, and the saved registers. -/
def Trio.good (t : Trio) : Prop :=
  Sparse.wf (fun _ => 0) t.sram ∧ t.copy0.good ∧ t.copy1.good ∧ t.copy2.good ∧ Sparse.wf (fun _ => 0) t.saved

/-- The node's keyed parts are in canonical form; the clamp report (R335) and the pre-defined error field (R321) hold at most
16 entries. -/
def Net.good (n : Net) : Prop :=
  Sparse.wf (fun _ => none) n.objs ∧ Sparse.wf (fun _ => 0) n.badResp ∧ Sparse.wf (fun _ => 0) n.tpdoCnt
    ∧ Sparse.wf (fun _ => none) n.tpdoLast ∧ n.clamps.length ≤ 16 ∧ n.errHist.length ≤ 16

/-- The memory port's FIFOs hold at most 64 words (R360), and it holds at most four lines (R356). -/
def Spm.good (p : Spm) : Prop := p.tx.length ≤ 64 ∧ p.rx.length ≤ 64 ∧ p.lines.length ≤ 4

/-- A stored set is in canonical form. -/
def NvmSet.good (x : NvmSet) : Prop :=
  Sparse.wf resetWord x.regs ∧ Sparse.wf (fun _ => 0) x.lin ∧ Sparse.wf (fun _ => none) x.objs

/-- What NVM holds is in canonical form. -/
def Nvm.good (n : Nvm) : Prop :=
  (∀ x, n.settings = some x → x.good) ∧ (∀ w, n.waves = some w → Sparse.wf resetWord w) ∧ n.newSet.good
    ∧ Sparse.wf resetWord n.newWaves

/-- A good state: every keyed part, also inside the others, is in canonical form, and every buffer keeps the bound the spec
gives it; the queue of log entries holds at most 64 (R364). -/
structure Good (s : State) : Prop where
  regs : Sparse.wf resetWord s.regs
  snap : Sparse.wf resetWord s.snap
  staged : Sparse.wf (fun _ => {}) s.staged
  bad : Sparse.wf (fun _ => false) s.bad
  replies : Sparse.wf (fun _ => .none) s.replies
  guards : Sparse.wf (fun _ => none) s.guards
  logQ : s.logQ.length ≤ 64
  logWin : Sparse.wf (fun _ => none) s.logWin
  legs : Sparse.wf (fun _ => {}) s.legs
  coils : Sparse.wf (fun _ => {}) s.coils
  coaches : Sparse.wf (fun _ => {}) s.coaches
  runs : Sparse.wf (fun _ => 0) s.runs
  axes : Sparse.wf (fun _ => {}) s.axes
  encs : Sparse.wf (fun _ => {}) s.encs
  stepLast : Sparse.wf (fun _ => 0) s.stepLast
  stepDir : Sparse.wf (fun _ => false) s.stepDir
  recipes : Sparse.wf (fun _ => []) s.recipes
  sds : Sparse.wf (fun _ => {}) s.sds
  sdMods : ∀ x ∈ s.sds, x.2.good
  afe : s.afe.good
  trio : s.trio.good
  mgs : s.mgs.good
  net : s.net.good
  spm : s.spm.good
  nvm : s.nvm.good

end Sys2Proof.Machine
end

