-- ==== Sys2Proof/Certificates/Slice0/Obligations.lean ====
section
/-!
DEFINITION. Certificates/Slice0/Obligations.lean: the statements for the provers. A statement named …Completes or …Complete says of
each command it names where the command answers a next state with its own effect, what that effect is, and what it leaves alone
(Frame lists the parts of the state that may differ; every other part and register word is the same).
-/

open Sys2Proof Sys2Proof.Machine


/-- What pending an event source can change. -/
def eventParts : List Part := [.trioQ, .emcyQ, .logQ, .logWin, .reg .EV_PEND, .reg .MGS_LOGSTAT]

/-- The read shadow and the write stage of the masters, R89 and R90. -/
def pairParts : List Part := [.hostPair, .trioPair, .mgsPair, .canPair]

/-- What a bus error can change, R84. -/
def errorParts : List Part :=
  [.replies, .trioQ, .emcyQ, .logQ, .logWin, .reg .EV_PEND, .reg .MGS_LOGSTAT, .reg .GCTL_BUSERR, .reg .GCTL_BUSERRADDR, .reg .GCTL_BUSERRCNT]

/-- Registers a write of which does more than set their fields. -/
def actsOnWrite : RegName → Bool
  | .GCTL_BUFHOLD | .AX_CS | .AXEN | .ENC_CNT | .CMP_POS | .PL_RCP0 | .PL_RCP1 | .PL_RCP2 | .PL_RCP3 | .PL_RCPHDR | .LEG_TEST
  | .CO_LINKCFG | .AFE_CFGA | .AFE_CFGB | .AFE_CFGC | .AFE_IEXC | .AFE_VEXC | .AFE_TDAC | .SD_CFG | .SD_LINDATA | .NET_CTL
  | .MGS_UPDADDR | .MGS_LOGRPTR | .MGS_AURESP | .MGS_SECBUF | .MGS_THCFG => true
  | _ => false

/-- A plain register: of RW, RWB, RWS and RO fields, and not guarded, masked, one of a pair, or held in a coach. -/
def plainReg (l : Loc) (addr : Nat) : Prop :=
  l.defn.pair = .none ∧ l.defn.guarded = false ∧ l.defn.masked = false ∧ l.compl = false ∧ l.writable = true ∧ coachOf addr = none
    ∧ actsOnWrite l.defn.reg = false ∧ ∀ f ∈ l.defn.fields, f.hi < 32 ∧ (f.ty = .rw ∨ f.ty = .rwb ∨ f.ty = .rws ∨ f.ty = .ro)

/-- Every field of a register takes its part of `v` as it is: each is in range, and none is moved for its order with another, R87. -/
def fieldsTake (l : Loc) (addr : Nat) (v : Word) (s : State) : Prop :=
  (∀ f ∈ l.defn.fields, f.ty ≠ .ro → checkField f.chk (f.hi + 1 - f.lo) (wordField v f.hi f.lo) = some (wordField v f.hi f.lo))
    ∧ relateFields l (s.before l addr) v s = (v, [])

/-- No word of the block of a register waits to land with it: a modulator, a CAN controller or the memory port is at work. -/
def landsLater (l : Loc) (s : State) : Prop :=
  (l.blk = .SD → s.on (SD_CFG.EN l.inst) = true) ∧ (l.blk = .NET → s.canBusy 0 = true ∧ s.canBusy 1 = true)
    ∧ (l.blk = .SPM → s.spmBusy = true)

/-- REGISTER_WRITE, PAIR_LO_WRITE, PAIR_HI_WRITE and PAIR_LO_READ complete: for the words named, and for every plain register whose
fields `w` fits and whose block does not refuse it, R72 and R73. -/
def Obligations.AccessCompletes : Prop :=
  ∀ (s : State) (m : Master) (w : Word) (a : Fin 128),
    (s.mayWrite m GCTL_SCRATCH →
      Does (.registerWrite m .word (BitVec.ofNat 24 GCTL_SCRATCH) w) s fun t =>
        t.rd GCTL_SCRATCH = w ∧ t.reply m = .done ∧ Frame [.replies, .bad, .reg .GCTL_SCRATCH] s t) ∧
    (s.mayWrite m (AX_VMAX a) → s.locked = false → 1 ≤ w.toNat → w.toNat ≤ 0x333333 →
      Does (.registerWrite m .word (BitVec.ofNat 24 (AX_VMAX a)) w) s fun t =>
        t.rd (AX_VMAX a) = s.rd (AX_VMAX a) ∧ t.getLatest (AX_VMAX.VMAX a) = w.toNat ∧ t.reply m = .done
          ∧ Frame [.replies, .bad, .staged] s t) ∧
    (s.mayWrite m (AX_TGT_LO a) → (∀ x, (s.port m).stage = some x → x.1 = AX_TGT_LO a) →
      Does (.pairLoWrite m (BitVec.ofNat 24 (AX_TGT_LO a)) w) s fun t =>
        (t.port m).stage = some (AX_TGT_LO a, w) ∧ t.reply m = .done ∧ Frame (.replies :: pairParts) s t) ∧
    (∀ v : Int, s.mayWrite m (AX_TGT_HI a) → (s.port m).stage = some (AX_TGT_LO a, BitVec.ofInt 32 v) →
        (s.ownerEntry a).isSome = false → -posMax ≤ v → v ≤ posMax →
      Does (.pairHiWrite m (BitVec.ofNat 24 (AX_TGT_HI a)) (BitVec.ofInt 32 (v / 2 ^ 32))) s fun t =>
        t.latestPair (AX_TGT_LO a) = v ∧ (t.port m).stage = none ∧ t.reply m = .done
          ∧ Frame (.replies :: .bad :: .staged :: pairParts) s t) ∧
    (s.mayRead m (AX_POS_LO a) → s.isBad (AX_POS_LO a) = false → s.fabricOn = true →
      Does (.pairLoRead m (BitVec.ofNat 24 (AX_POS_LO a))) s fun t =>
        t.reply m = .data (s.snapWord (AX_POS_LO a))
          ∧ (t.port m).shadow = some (AX_POS_LO a, s.snapWord (AX_POS_HI a)) ∧ Frame (.replies :: pairParts) s t) ∧
    (∀ (addr : BitVec 24) l, addr.toNat < 0x100000 → locate addr.toNat = some l → plainReg l addr.toNat → s.mayWrite m addr.toNat →
        w &&& reservedBits l.defn = 0 → fieldsTake l addr.toNat w s → landsLater l s →
      let fields := l.defn.maskOf FieldDef.isValue
      blockRefuses l (s.before l addr.toNat) (w &&& fields) 0xFFFFFFFF s = false →
      Does (.registerWrite m .word addr w) s fun t =>
        t.reply m = .done ∧ t.latest addr.toNat = (w &&& fields) ||| (s.latest addr.toNat &&& ~~~ fields)
          ∧ (l.defn.maskOf FieldDef.buffered = 0 → t.rd addr.toNat = (w &&& fields) ||| (s.rd addr.toNat &&& ~~~ fields))
          ∧ Frame [.replies, .bad, .staged, .reg l.defn.reg] s t)

/-- GUARD_TIMEOUT, BUFHOLD_TIMEOUT, the store commands and PARITY_SCRUB complete. That a completed store leaves FAIL as it is and a failed
one DONE is the model's choice (log entry 57), and that ERASE forgets the stored wave tables too is log entry 38. -/
def Obligations.StoreCompletes : Prop :=
  ∀ (s : State) (m : Master),
    (∀ (addr : BitVec 24) (g : GuardWin), s.guardAt addr.toNat = some g → s.on GCTL_BUSERR.VALID = false →
      Does (.guardTimeout addr) s fun t =>
        t.guardAt addr.toNat = none ∧ t.get GCTL_BUSERR.CODE = BusErr.guard.code ∧ t.get GCTL_BUSERR.MASTER = masterCode g.master
          ∧ t.get GCTL_BUSERRADDR.ADDR = addr.toNat ∧ t.evPending 115 = true ∧ Frame (.guards :: errorParts) s t) ∧
    (∀ cls : Fin 5, natBit (s.get GCTL_BUFHOLD.HOLD) cls = true →
      Does (.bufholdTimeout cls) s fun t =>
        natBit (t.get GCTL_BUFHOLD.HOLD) cls = false ∧ natBit (t.get GCTL_BUFSTAT.HOLDTO) cls = true
          ∧ Frame [.reg .GCTL_BUFHOLD, .reg .GCTL_BUFSTAT] s t) ∧
    (s.mayGuard m GCTL_STORE → s.locked = false → s.nvm.cmd = 0 →
      let begun (k : Nat) (t : State) : Prop :=
        t.nvm = { s.nvm with cmd := k, due := decide (k < 4) } ∧ t.get GCTL_STORESTAT.BUSY = 1 ∧ t.reply m = .done
          ∧ Frame [.guards, .replies, .bad, .nvm, .reg .GCTL_STORESTAT] s t
      Does (.storeSettings m) s (begun 1) ∧ Does (.eraseStoredSettings m) s (begun 4) ∧
        ((∀ t : Fin 8, s.on (WAVE_CTL.LOAD t) = false) →
          Does (.storeWaveTables m) s (begun 2) ∧ Does (.storeBoth m) s (begun 3))) ∧
    (∀ ok : Bool, s.nvm.cmd ≠ 0 → s.nvm.due = false →
      Does (.storeComplete ok) s fun t =>
        t.nvm.cmd = 0 ∧ t.get GCTL_STORESTAT.BUSY = 0 ∧ t.evPending 119 = true ∧ t.get GCTL_STORESTAT.FAIL = (if ok then s.get GCTL_STORESTAT.FAIL else 1)
          ∧ (ok = true → t.get GCTL_STORESTAT.DONE = 1)
          ∧ (ok = true ∧ (s.nvm.cmd = 1 ∨ s.nvm.cmd = 3) → t.nvm.settings = some s.nvm.newSet)
          ∧ (ok = true ∧ (s.nvm.cmd = 2 ∨ s.nvm.cmd = 3) → t.nvm.waves = some s.nvm.newWaves)
          ∧ (ok = true ∧ s.nvm.cmd = 4 → t.nvm.settings = none ∧ t.nvm.waves = none)
          ∧ (ok = false → t.nvm.settings = s.nvm.settings ∧ t.nvm.waves = s.nvm.waves)
          ∧ Frame (.nvm :: .reg .GCTL_STORESTAT :: eventParts) s t) ∧
    (∀ addr : BitVec 24, s.power.inReset = false → (∃ l, locate addr.toNat = some l ∧ l.blk = .EV ∧ l.compl = false) →
        s.isBad addr.toNat = false → s.on GCTL_PARERR.VALID = false →
      Does (.parityScrub [addr]) s fun t =>
        t.isBad addr.toNat = true ∧ t.on GCTL_PARERR.VALID = true ∧ t.get GCTL_PARERR.ADDR = addr.toNat
          ∧ t.evPending 114 = true ∧ Frame (.bad :: .reg .GCTL_PARERR :: eventParts) s t)

/-- No access of the host port is under way. -/
def portIdle (s : State) : Prop := s.sph.reading = false ∧ s.sph.issue = []

/-- CMD_FRAME, CTL_SAFE_SELECT, CTL_KILL, CTL_RELEASE, STAT_FRAME and SNS_FRAME complete on a coupling that is up, in the order of R14.
That a CTL frame which fails CRC is lost, and that the CMD frames of a set wait from its build, are the model's choices (log entry 56). -/
def Obligations.FramesComplete : Prop :=
  ∀ (s : State) (c q : Fin 4), s.linkLive c = true →
    (∀ copy : Fin 2, (s.coach c).cmdMay q copy = true →
      let k := { s.coach c with
        cmdSent := (s.coach c).cmdSent ++ [(q.val, copy.val)]
        cmdRun := if (s.coach c).cmdRun = 2 then 1 else (s.coach c).cmdRun + 1
        cmdSeq := ((s.coach c).cmdSeq + 1) % 256 }
      Does (.cmdFrame c q copy false) s (fun t => t.coach c = { k with crcRep := k.crcRep + 1 } ∧ Frame [.coaches] s t) ∧
      ((∀ x ∈ k.rx, x.q ≠ q.val) → Does (.cmdFrame c q copy true) s fun t =>
        t.coach c = { k with rx := k.rx ++ [⟨q.val, k.txPeriod, k.tx.getD q []⟩] } ∧ Frame [.coaches] s t) ∧
      ((∃ x ∈ k.rx, x.q = q.val) → Does (.cmdFrame c q copy true) s fun t => t.coach c = k ∧ Frame [.coaches] s t)) ∧
    (∀ f rest, (s.coach c).ctlq = f :: rest → (s.coach c).controlMay = true →
      let k := { s.coach c with ctlq := rest, cmdRun := 0, ctlSeq := ((s.coach c).ctlSeq + 1) % 256 }
      let lost (t : State) : Prop := t.coach c = { k with crcRep := k.crcRep + 1 } ∧ Frame [.coaches] s t
      (f = .safe → Does (.ctlSafeSelect c false) s lost ∧ Does (.ctlSafeSelect c true) s fun t =>
        t.coach c = { k with safeSel := s.on (CO_LINKCFG.SAFE c) } ∧ Frame [.coaches] s t) ∧
      (∀ legs gangs, f = .kill legs → Does (.ctlKill c ⟨false, gangs⟩) s lost ∧ Does (.ctlKill c ⟨true, gangs⟩) s fun t =>
        (gangs = [] → t.coach c = k ∧ Frame [.legs, .coaches] s t) ∧ (t.coach c).ctlq = rest
          ∧ (∀ l, t.leg l = if l ∈ legs then { s.leg l with
            killed := true, phase := if (s.leg l).phase = .block then .block else .off, ready := false } else s.leg l)
          ∧ Frame [.legs, .coils, .coaches, .free] s t) ∧
      (∀ legs whole gangs, f = .release legs whole → Does (.ctlRelease c ⟨false, gangs⟩) s lost ∧
        Does (.ctlRelease c ⟨true, gangs⟩) s fun t =>
        (∀ l ∈ legs, (t.leg l).killed = false ∧ (t.leg l).hs = false ∧ (t.leg l).ls = false)
          ∧ (whole = false → (∀ l, l ∉ legs → t.leg l = s.leg l) ∧ Frame [.legs, .coils, .coaches, .free] s t)
          ∧ (whole = false → gangs = [] → t.coach c = k ∧ Frame [.legs, .coaches] s t)
          ∧ (whole = true → gangs = [] → t.coach c = { k with safe := false })
          ∧ (whole = true → (t.coach c).safe = false
              ∧ ((s.coach c).safe = true → t.on (CO_LINKSTAT.SAFEACT c) = false)
              ∧ Frame [.legs, .coils, .coaches, .free, .reg .CO_LINKSTAT] s t))) ∧
    (∀ read, Does (.statFrame c true read) s (fun t =>
      ∀ a ∈ coachWords c, t.snapWord a = t.rd a)) ∧
    (∀ meas idle, Does (.statFrame c false ⟨meas, idle⟩) s (fun t =>
      t.coach c = { s.coach c with
          crcRep := (s.coach c).crcRep + idle.1, statq := [], statSeq := ((s.coach c).statSeq + 1) % 256 }
        ∧ t.get (CO_LINKERR.CRCUP c) = min 65535 (min 65535 (s.get (CO_LINKERR.CRCUP c) + idle.2) + 1)
        ∧ Frame [.coaches, .reg .CO_LINKERR] s t)) ∧
    (∀ (z : Fin 16) (nC : Int), let a := coilAxis (4 * c + q) z
      (s.coach c).snsMay = true → (s.coach c).snsq = [] → s.coilLive (4 * c + q) z = true → s.enabled a = true →
      Does (.snsFrame c true [(q, z, nC)]) s fun t =>
        (t.mo a).energy = clampInt (-(2 ^ 63) * 10 ^ 8) (2 ^ 63 * 10 ^ 8 - 1) ((s.mo a).energy + nC * Int.ofNat (s.get (CO_VM.VM c)))
          ∧ Frame [.coaches, .axes, .reg .AX_ENERGY_LO, .reg .AX_ENERGY_HI] s t)

/-- CFG_FRAME, CFGR_FRAME, CFG_RESEND, the watchdogs, the silence, training and COACH_PERIOD_START complete. -/
def Obligations.CouplingsComplete : Prop :=
  ∀ (s : State) (c : Fin 4),
    (∀ e rest l gangs, portIdle s → s.linkLive c = true → (s.coach c).controlMay = true → (s.coach c).ctlq = [] →
        (s.coach c).cfgq = e :: rest → e.sent = false → coachOf e.addr = some c.val → locate e.addr = some l → l.compl = false →
      Does (.cfgFrame c ⟨false, gangs⟩) s (fun t =>
        t.coach c = { s.coach c with
            cmdRun := 0, crcRep := (s.coach c).crcRep + 1, cfgq := { e with sent := true } :: rest } ∧ Frame [.coaches] s t) ∧
      (e.wr = none ∨ (s.coach c).applSeq = some e.seq → Does (.cfgFrame c ⟨true, gangs⟩) s fun t =>
        t.coach c = { s.coach c with
            cmdRun := 0, applSeq := some e.seq, cfgq := { e with sent := true, answer := some (s.readWord l e.addr) } :: rest }
          ∧ Frame [.coaches] s t) ∧
      Does (.cfgFrame c ⟨true, gangs⟩) s (fun t => (t.coach c).applSeq = some e.seq
        ∧ ∃ w, (t.coach c).cfgq = { e with sent := true, answer := some w } :: rest)) ∧
    (∀ e rest w, portIdle s → s.linkLive c = true → (s.coach c).statq = [] → (s.coach c).cfgq = e :: rest →
        e.answer = some w →
      let k := { s.coach c with cfgrSeq := ((s.coach c).cfgrSeq + 1) % 256 }
      Does (.cfgrFrame c false) s (fun t => t.coach c = { k with cfgq := { e with answer := none } :: rest }
        ∧ Frame [.coaches, .reg .CO_LINKERR] s t) ∧
      Does (.cfgrFrame c true) s fun t =>
        t.coach c = { k with cfgq := nextServed e.master rest } ∧ t.reply e.master = (if e.wr.isSome then .done else .data w)
          ∧ Frame [.coaches, .replies, .net] s t) ∧
    (∀ e rest, portIdle s → s.on (CO_LINKSTAT.UP c) = true → (s.coach c).cfgq = e :: rest → e.sent = true →
      Does (.cfgResend c) s fun t =>
        (e.resent = false →
          t.coach c = { s.coach c with cfgq := { e with sent := false, resent := true, answer := none } :: rest }
          ∧ Frame [.coaches] s t) ∧
        (e.resent = true → t.coach c = { (modeFailed e s).coach c with cfgq := nextServed e.master rest }
          ∧ t.reply e.master = .error .linkErr ∧ Frame (.coaches :: .net :: errorParts) s t)) ∧
    (∀ gangs, s.coachLive c = true → (s.coach c).awaits = false →
      Does (.coachWatchdogExpiry ⟨c, gangs⟩) s fun t =>
        (t.coach c).safe = true ∧ (t.coach c).declared = s.on (CO_LINKSTAT.UP c) ∧ (t.coach c).silent = true
          ∧ (t.coach c).awaits = true ∧ (t.coach c).missRun = 0 ∧ (t.coach c).applied = [] ∧ t.on (CO_LINKSTAT.SAFEACT c) = true
          ∧ (∀ i : Fin 128, t.on (LEG_TEST.OVR (128 * c + i)) = false ∧ (t.leg (128 * c + i)).hs = false ∧
              let a := (s.legOwner (128 * c + i)).1
              (t.leg (128 * c + i)).ls = ((s.coach c).safeSel && s.enabled a && !s.absent a))
          ∧ Frame [.legs, .coils, .coaches, .free, .reg .CO_LINKSTAT, .reg .LEG_TEST] s t) ∧
    (∀ gangs, (s.coach c).awaits = true → Does (.coachWatchdogExpiry ⟨c, gangs⟩) s (· = s)) ∧
    (s.on (CO_LINKSTAT.UP c) = true →
      Does (.hubWatchdogExpiry c) s fun t =>
        t.on (CO_LINKSTAT.UP c) = false ∧ t.get (CO_LINKSTAT.LOSSCAUSE c) = 1 ∧ t.on (CO_FLTSTAT.FAULT c) = true
          ∧ (t.coach c).cfgq = [] ∧ (t.coach c).ctlq = []) ∧
    Does (.coachSilenceEnd c) s (fun t => t.coach c = { s.coach c with silent := false } ∧ Frame [.coaches] s t) ∧
    (s.coachLive c = true → s.on (CO_LINKSTAT.UP c) = false →
      Does (.trainingAttempt c) s fun t => t.coach c = { s.coach c with training := true } ∧ Frame [.coaches] s t) ∧
    (s.coachLive c = true → (s.coach c).training = true → (s.coach c).awaits = true → (s.coach c).silent = false →
      Does (.trainingComplete c) s fun t =>
        t.on (CO_LINKSTAT.UP c) = true ∧ t.on (CO_LINKSTAT.SAFEACT c) = (s.coach c).safe
          ∧ t.get (CO_LINKSTAT.LOSSCAUSE c) = (if (s.coach c).declared then 2 else s.get (CO_LINKSTAT.LOSSCAUSE c))
          ∧ t.coach c = { s.coach c with training := false, declared := false, awaits := false, missRun := 0, tx := [],
                                         cmdSent := [], rx := [], ctlq := (s.coach c).ctlq ++ [.safe] }
          ∧ Frame [.coaches, .reg .CO_LINKSTAT] s t) ∧
    (s.coachLive c = true → (s.coach c).offWait = false →
      ∀ x, Does (.coachPeriodStart c x) s fun t =>
        let n := (s.get (CO_PERCNT.COUNT c) + 1) % 2 ^ 32
        t.get (CO_PERCNT.COUNT c) = n ∧ (t.coach c).tStart = (s.coach c).tStart + (s.coach c).perLen
          ∧ ∀ f : Fin 4 → List CoilRec, s.linkLive c = true →
              (s.coach c).rx = (List.finRange 4).map (fun q => ⟨q.val, n % 256, f q⟩) →
            (t.coach c).applied = (List.finRange 4).map f ∧ (t.coach c).missRun = 0)

/-- No other coach than `c` loses its domain by a write of GCTL_PWRDOM that keeps its COACH bit, R51. -/
def othersKept (s : State) (c : Nat) : Prop :=
  ∀ d : Fin 4, d.val ≠ c → natBit (s.getLatest GCTL_PWRDOM.COACH) d = false → s.coachWork d = false

/-- COACH_ON_REQUEST, COACH_ON_COMPLETE, COACH_ON_TIMEOUT, COACH_OFF_REQUEST, COACH_FORCED_OFF, FORCED_OFF_TIMEOUT, AFE_OFF
and AFE_ON complete. That a coach asked for in NAP comes up at the wake is the model's choice (log entry 59), as is that a coach which
is still powering up is switched off at once (log entry 21). -/
def Obligations.DomainsComplete : Prop :=
  ∀ (s : State) (m : Master) (c : Fin 4),
    (s.mayGuard m GCTL_PWRDOM → othersKept s c → s.runState ≠ 2 →
      (natBit (s.getLatest GCTL_PWRDOM.COACH) c = false → s.sideUvf (coachSide c) = false → s.coachLive c = false →
        Does (.coachOnRequest m c) s fun t =>
          (t.coach c).powering = true ∧ (t.coach c).training = true ∧ (t.coach c).awaits = true ∧ natBit (t.get GCTL_PWRDOM.COACH) c = true
            ∧ natBit (t.get GCTL_PWRSTAT.ONFAIL) c = false ∧ t.reply m = .done
            ∧ Frame [.guards, .replies, .bad, .coaches, .reg .GCTL_PWRDOM, .reg .GCTL_PWRSTAT, .reg .RK_STAT] s t) ∧
      (natBit (s.getLatest GCTL_PWRDOM.COACH) c = true → s.coachOn c = true →
        (s.coachWork c = false → Does (.coachOffRequest m c) s fun t =>
          t.coach c = { s.coach c with offWait := true } ∧ natBit (t.get GCTL_PWRDOM.COACH) c = false ∧ t.reply m = .done
            ∧ Frame [.guards, .replies, .bad, .coaches, .reg .GCTL_PWRDOM] s t) ∧
        Does (.coachForcedOff m c) s fun t =>
          natBit (t.get GCTL_PWRSTAT.PENDOFF) c = true ∧ natBit (t.get GCTL_PWRDOM.COACH) c = false ∧ t.reply m = .done
            ∧ ∀ a : Fin 128, axisCoach a = c → s.inMotion a = true → (t.mo a).orderQ = true) ∧
      (natBit (s.getLatest GCTL_PWRDOM.COACH) c = true → s.coachOn c = false → (s.coach c).powering = true →
          s.coachWork c = false →
        Does (.coachOffRequest m c) s fun t => t.coachLive c = false ∧ t.reply m = .done)) ∧
    (s.mayGuard m GCTL_PWRDOM → othersKept s c → s.runState = 2 → natBit (s.getLatest GCTL_PWRDOM.COACH) c = false →
      Does (.coachOnRequest m c) s fun t =>
        natBit t.power.napCoach c = true ∧ natBit (t.get GCTL_PWRDOM.COACH) c = true ∧ t.reply m = .done
          ∧ Frame [.guards, .replies, .bad, .power, .reg .GCTL_PWRDOM] s t) ∧
    ((s.coach c).powering = true →
      (s.on (CO_LINKSTAT.UP c) = true → Does (.coachOnComplete c) s fun t =>
        (t.coach c).powering = false ∧ t.coachOn c = true) ∧
      (s.on (CO_LINKSTAT.UP c) = false → Does (.coachOnTimeout c) s fun t =>
        t.coachLive c = false ∧ natBit (t.get GCTL_PWRSTAT.ONFAIL) c = true ∧ natBit (t.get GCTL_PWRDOM.COACH) c = false
          ∧ t.get (CO_LINKSTAT.LOSSCAUSE c) = 3)) ∧
    (s.pendOff c = true → Does (.forcedOffTimeout c) s fun t =>
      (∀ a : Fin 128, axisCoach a = c → (t.mo a).orderH = (!s.quiet a || (s.mo a).orderH)) ∧ Frame [.axes] s t) ∧
    (s.mayGuard m GCTL_PWRDOM → othersKept s 4 → s.runState ≠ 2 →
      (s.getLatest GCTL_PWRDOM.AFE = 1 → s.afeOn = true → Does (.afeOff m) s fun t =>
        t.afeOn = false ∧ t.get GCTL_PWRDOM.AFE = 0 ∧ t.reply m = .done
          ∧ Frame [.guards, .replies, .bad, .regs, .staged, .free, .sds, .afe] s t) ∧
      (s.getLatest GCTL_PWRDOM.AFE = 0 → Does (.afeOn m) s fun t =>
        t.get GCTL_PWRSTAT.AFEON = 1 ∧ t.get GCTL_PWRDOM.AFE = 1 ∧ t.reply m = .done
          ∧ Frame [.guards, .replies, .bad, .reg .GCTL_PWRDOM, .reg .GCTL_PWRSTAT] s t))

/-- REQ_RUN, REQ_DOZE, REQ_NAP, REQ_HIBERNATE, AUTODOZE_ENTRY, DOZE_WAKE and NAP_WAKE complete. That REQ_RUN of any master ends DOZE
and NAP, with bit 7 of WAKESRC as a host write has it (R57), is the model's choice (log entries 22 and 23). -/
def Obligations.RunStatesComplete : Prop :=
  ∀ (s : State) (m : Master), s.power.entering = 0 →
    (s.mayWrite m GCTL_RUNCTL →
      (s.runState = 1 → Does (.reqRun m) s fun t =>
        t.runState = 0 ∧ t.get GCTL_RUNSTAT.WAKESRC = 2 ^ 7 ∧ t.get GCTL_RUNSTAT.REFUSE = 0 ∧ t.reply m = .done
          ∧ Frame [.replies, .bad, .mgs, .reg .GCTL_RUNCTL, .reg .GCTL_RUNSTAT] s t) ∧
      (s.runState = 2 → Does (.reqRun m) s fun t =>
        t.runState = 0 ∧ t.get GCTL_RUNSTAT.WAKESRC = 2 ^ 7 ∧ t.on GCTL_CLKSTAT.LOCK = true ∧ t.reply m = .done) ∧
      (s.runState = 0 → s.refuseCode 1 = 0 → Does (.reqDoze m) s fun t =>
        t.runState = 1 ∧ t.get GCTL_RUNSTAT.REFUSE = 0 ∧ t.reply m = .done
          ∧ Frame [.replies, .bad, .reg .GCTL_RUNCTL, .reg .GCTL_RUNSTAT] s t) ∧
      (s.runState = 0 → s.refuseCode 1 = 0 → s.power.wakeAct = 0 → (∀ a : Fin 128, s.parkable a = false) →
        Does (.reqNap m) s (fun t =>
          t.runState = 2 ∧ t.get TRIO_STAT.STATE = 5 ∧ t.on GCTL_CLKSTAT.LOCK = false ∧ t.afeOn = false ∧ t.syncOut = false) ∧
        Does (.reqHibernate m) s (fun t => t.runState = 3 ∧ t.on GCTL_CLKSTAT.REFOK = false ∧ t.logQ = [])) ∧
      (s.runState = 0 → s.planActive = true → Does (.reqDoze m) s fun t =>
        t.runState = 0 ∧ t.get GCTL_RUNSTAT.REFUSE ≠ 0 ∧ t.reply m = .done)) ∧
    (s.on GCTL_RUNCTL.AUTODOZE = true → s.power.inReset = false → s.runState = 0 → s.refuseCode 1 = 0 →
      Does .autodozeEntry s fun t => t.runState = 1 ∧ Frame [.reg .GCTL_RUNSTAT] s t) ∧
    (∀ src, s.runState = 1 → s.power.inReset = false → Does (.dozeWake src) s fun t =>
      t.runState = 0 ∧ (∀ b, dozeBit src = some b → t.get GCTL_RUNSTAT.WAKESRC = 2 ^ b)
        ∧ Frame [.mgs, .reg .GCTL_RUNSTAT] s t) ∧
    (∀ src, s.runState = 2 → s.power.inReset = false → s.wakesFrom 2 src = true → s.trio.saveChk = .agreed →
      Does (.napWake src .agreed) s fun t =>
      t.runState = 0 ∧ t.get GCTL_RUNSTAT.WAKESRC = 2 ^ wakeBit src ∧ t.on GCTL_CLKSTAT.LOCK = true
        ∧ t.on EV_PIN.HALTN = true ∧ t.get TRIO_STAT.STATE = (if s.trioState = 4 then 4 else s.trio.asleep % 8) ∧ t.power.napParked = [] ∧ t.power.unticked = true
        ∧ t.power.napPend = [] ∧ (s.trioState ≠ 4 → t.trio.wake = true ∧ t.trio.scrub = true)
        ∧ (s.trioState ≠ 4 → ∀ k : Fin 3, s.get TRIO_STAT.ODD ≠ k → t.trio.copy k = { regs := s.trio.saved })
        ∧ ∀ a ∈ s.power.napParked, (t.mo a).forcePark = false)

/-- The device has entered reset: every leg is off, no axis, plan, coil or session is left, and the cause is recorded. -/
def hasReset (cause : Nat) (s t : State) : Prop :=
  t.power.inReset = true ∧ t.power.sequence = false ∧ (t.rd GCTL_RSTCAUSE).getLsbD cause = true ∧ t.runState = 0
    ∧ t.legs = [] ∧ t.coils = [] ∧ t.axes = [] ∧ t.pl = {} ∧ t.net = {} ∧ t.staged = [] ∧ t.bad = []
    ∧ t.nvm.settings = s.nvm.settings ∧ t.mgs.log = s.mgs.log ∧ t.pending = s.pending ∧ t.recipes = s.recipes

/-- SOFTWARE_RESET, HIBERNATE_WAKE, CLOCK_FAILURE, POWER_ON_RESET, RESET_PIN, PWRGOOD_LOW, BROWN_OUT, the reset sequence and
BOOT_UP complete. -/
def Obligations.ResetsComplete : Prop :=
  ∀ (s : State) (m : Master),
    (s.mayGuard m GCTL_PWRDOM → othersKept s 4 → Does (.softwareReset m) s (hasReset 4 s)) ∧
    (∀ src (n : BitVec 48), s.runState = 3 → s.power.inReset = false → s.wakesFrom 3 src = true →
      Does (.hibernateWake ⟨src, n⟩) s fun t => hasReset 7 s t ∧ t.get GCTL_RUNSTAT.WAKESRC = 2 ^ wakeBit src) ∧
    (∀ lost, s.power.inReset = true ∨ s.runState < 2 ∨ (s.runState = 2 ∧ lost = true) → Does (.clockFailure lost) s fun t => hasReset 5 s t ∧ t.power.clkFail = true) ∧
    Does .powerOnReset s (fun t => hasReset 0 s t ∧ t.rd GCTL_RSTCAUSE = 1 ∧ t.rtc = 0) ∧
    Does .resetPin s (fun t => hasReset 1 s t ∧ t.rtc = s.rtc) ∧
    (s.power.inReset = true ∨ s.runState ≠ 3 → Does .pwrgoodLow s (fun t => hasReset 2 s t ∧ t.rtc = s.rtc)) ∧
    (s.power.inReset = false → s.runState = 3 → Does .pwrgoodLow s (· = s)) ∧
    Does .brownOut s (fun t => hasReset 3 s t ∧ t.logQ = []) ∧
    (∀ (strap : BitVec 7) ok (n k : BitVec 48) b, s.power.inReset = true → s.power.sequence = false → s.power.refLost = false →
        s.mgs.slotA.state ≠ 5 → s.mgs.slotA.state ≠ 6 → s.mgs.slotB.state ≠ 5 → s.mgs.slotB.state ≠ 6 →
        s.activeSlot = some b → (noteRead ok s).bootOk b = true →
      Does (.resetSequenceStart strap ⟨ok, n, k⟩) s fun t =>
        t.power.inReset = true ∧ t.power.sequence = true ∧ t.power.seqTime = k.toNat ∧ t.power.strap = strap.toNat ∧ t.on GCTL_CLKSTAT.REFOK = true
          ∧ t.on MGS_UPDSTAT.RUN = b) ∧
    (s.power.sequence = true → s.nvm.settings = none → s.nvm.waves = none → s.power.hibPos = [] →
      Does .resetSequenceEnd s fun t =>
        t.power.inReset = false ∧ t.power.sequence = false ∧ t.on GCTL_CLKSTAT.LOCK = true ∧ t.on GCTL_PWRSTAT.AFEON = true) ∧
    (s.stackOn = true → s.nmt = 0 → s.get NET_NODE.SRC ≠ 2 → Does .bootUp s fun t =>
      t.nmt = if (s.obj 0x1F80 0).getLsbD 2 then 2 else 1)

/-- OSCILLATOR_RESTART, CLOCK_RECOVERY, CRYSTAL_CHANGEOVER, CRYSTAL_STOP, RTC_WRITE_COMMIT and RTC_ALARM complete. That
OSCILLATOR_RESTART changes nothing, and that RTC_ALARM in HIBERNATE moves the RTC to the value compared, are the model's choices (log
entry 24). -/
def Obligations.ClocksComplete : Prop :=
  ∀ s : State,
    Does .oscillatorRestart s (· = s) ∧
    (s.power.refLost = true → Does .clockRecovery s fun t =>
      t.power = { s.power with refLost := false } ∧ t.on GCTL_CLKSTAT.REFOK = true ∧ Frame [.power, .reg .GCTL_CLKSTAT] s t) ∧
    Does .crystalChangeover s (fun t => t.on GCTL_CLKSTAT.T32SRC = true ∧ Frame [.reg .GCTL_CLKSTAT] s t) ∧
    (s.on GCTL_CLKSTAT.T32SRC = true → Does .crystalStop s fun t =>
      t.on GCTL_CLKSTAT.T32SRC = false ∧ t.on GCTL_CLKSTAT.T32FAIL = true ∧ Frame [.reg .GCTL_CLKSTAT] s t) ∧
    (∀ v, s.power.rtcStage = some v → v < 2 ^ 48 → Does .rtcWriteCommit s fun t =>
      t.rtc = v ∧ t.power = { s.power with rtcStage := none, rtcSet := true }
        ∧ Frame [.power, .reg .GCTL_RTC_LO, .reg .GCTL_RTC_HI] s t) ∧
    (s.rtc / 32768 % 2 ^ 32 = (s.rd GCTL_RTCALM).toNat → s.on GCTL_RUNCTL.WRTC = true → Does .rtcAlarm s fun t =>
      t.power = { s.power with wakeAct := natPutBit s.power.wakeAct 5 true } ∧ Frame [.power] s t) ∧
    (let v := s.rtc / 2 ^ 47 * 2 ^ 47 + (s.rd GCTL_RTCALM).toNat * 32768;
      s.runState = 3 → s.rtc ≤ v → s.on GCTL_RUNCTL.WRTC = true → Does .rtcAlarm s fun t =>
        t.rtc = v ∧ natBit t.power.wakeAct 5 = true ∧ Frame [.power, .reg .GCTL_RTC_LO, .reg .GCTL_RTC_HI] s t)

/-- RANK_PERIOD_START, INTERLOCK_TIMEOUT, DEAD_TIME_END, OVERRIDE_ONTIME_END and OVERCURRENT_TRIP complete. -/
def Obligations.LegsComplete : Prop :=
  ∀ (s : State) (l : Fin 512),
    (∀ (r : Fin 16) edges, s.coachLive (r / 4) = true → Does (.rankPeriodStart r edges) s fun t =>
      (∀ i : Fin 32, (t.leg (32 * r + i)).tripHs = false ∧ (t.leg (32 * r + i)).tripLs = false)
        ∧ Frame [.free, .legs, .coils, .coaches, .reg .LEG_FLTCNT] s t) ∧
    ((s.leg l).phase = .waitHs ∨ (s.leg l).phase = .waitLs → (s.leg l).ready = false → Does (.interlockTimeout l) s fun t =>
      (∀ m ∈ s.legGang l, (t.leg m).phase = .block) ∧ t.get (LEG_FLTCNT.ILKCNT l) = min 127 (s.get (LEG_FLTCNT.ILKCNT l) + 1)
        ∧ (t.coach (legCoach l)).statq = (s.coach (legCoach l)).statq ++ [.ilk l]
        ∧ Frame [.legs, .coaches, .reg .LEG_FLTCNT] s t) ∧
    ((s.leg l).waits = false → (s.leg l).stuck = true → Does (.interlockTimeout l) s fun t =>
      t.leg l = { s.leg l with stuck := false } ∧ t.get (LEG_FLTCNT.ILKCNT l) = min 127 (s.get (LEG_FLTCNT.ILKCNT l) + 1)
        ∧ (t.coach (legCoach l)).statq = (s.coach (legCoach l)).statq ++ [.ilk l]
        ∧ Frame [.legs, .coaches, .reg .LEG_FLTCNT] s t) ∧
    (∀ hs : Bool, let p : LegPhase := if hs then .waitHs else .waitLs
      (s.leg l).phase = p → (∀ m ∈ s.legGang l, m ≠ l → (s.leg m).ready = true ∧ (s.leg m).phase = p) →
      Does (.deadTimeEnd l) s fun t =>
        (∀ m ∈ s.legGang l, (t.leg m).phase = if hs then .hsOn else .lsOn) ∧ Frame [.legs] s t) ∧
    (∀ gangs, s.overridden l = true → Does (.overrideOntimeEnd ⟨l, gangs⟩) s fun t =>
      (∀ m ∈ s.legGang l, (t.leg m).hs = false ∧ (t.leg m).ls = false)
        ∧ Frame [.free, .legs, .coils, .coaches, .reg .LEG_FLTCNT] s t) ∧
    (∀ (hs hard : Bool) time stamp onTime gang,
        (s.leg l).phase = (if hs then .hsOn else .lsOn) ∨ ((s.leg l).cutAt hs stamp).isSome = true →
      let (a, e) := s.legOwner l
      -- OC is not evaluated in the blanking, R118; a switch that another trip of this instant turned off counts as it was before it
      let evaluates : Bool := ((s.leg l).cutAt hs stamp).getD (!s.blanked (l / 32) (8 * axisHalf a + 2 * axisSlot a + e / 2))
      (hard = false → evaluates = false → Does (.overcurrentTrip l hs hard time stamp onTime gang) s (· = s)) ∧
      (hard = true ∨ evaluates = true → Does (.overcurrentTrip l hs hard time stamp onTime gang) s fun t =>
        (∀ m ∈ s.legGang l, (if hs then (t.leg m).tripHs else (t.leg m).tripLs) = true)
          ∧ StatRep.trip l hs hard (s.locPer (l / 32)) time stamp ∈ (t.coach (legCoach l)).statq
          ∧ Frame [.free, .legs, .coils, .coaches, .reg .LEG_FLTCNT] s t))

/-- RK_MODE_WRITE and LEG_TEST_WRITE complete at the hub: they wait for the coach as exchanges. -/
def Obligations.CoachWritesComplete : Prop :=
  ∀ (s : State) (m : Master), s.locked = false →
    (∀ (r v : Fin 16), s.mayGuard m (RK_MODE r) → (∀ a : Fin 128, axisRank a = r → s.busyAxis a = false) →
        v.val % 4 ≠ 3 → v.val / 4 ≠ 3 →
      Does (.rkModeWrite m r v) s fun t =>
        (t.coach (r / 4)).cfgq = (s.coach (r / 4)).cfgq ++
          [{ master := m, addr := RK_MODE r, wr := some (BitVec.ofNat 32 v), seq := (s.coach (r / 4)).seq }]
        ∧ t.reply m = .waiting ∧ Frame [.guards, .replies, .coaches, .reg .RK_STAT] s t) ∧
    (∀ (l : Fin 512) (hs ls : Bool) (n : Nat), s.mayGuard m (LEG_TEST l) → s.busyAxis (s.legOwner l).1 = false →
        s.legLeader l = l → n < 4096 →
        n + 20 ≤ min (s.get (CO_PWMPER.PER (legCoach l))) (s.getLatest (CO_PWMPER.PER (legCoach l))) →
      let w : Word := BitVec.ofNat 32 (1 + 2 * b2n hs + 4 * b2n ls + 16 * n)
      Does (.legTestWrite m l w) s fun t =>
        (t.coach (legCoach l)).cfgq = (s.coach (legCoach l)).cfgq ++
          [{ master := m, addr := LEG_TEST l, wr := some w, seq := (s.coach (legCoach l)).seq }]
        ∧ t.reply m = .waiting ∧ Frame [.guards, .replies, .coaches] s t)

/-- TRIP_CHECK, PERIOD_CHECK, FAULT_WAIT_EXPIRY, RETRY_TEST_PASS and RETRY_WINDOW_EXPIRY complete. -/
def Obligations.FaultManagerCompletes : Prop :=
  ∀ (s : State) (a : Fin 128),
    (∀ x : Trip, s.trips = [x] → x.claimed = false → x.checked = false → x.axis = a → x.leg < 512 → s.enabled a = true →
        s.get (AX_FLTSTAT.STATE a) = 0 →
      Does .tripCheck s fun t =>
        (x.hard = true → t.get (AX_FLTSTAT.CAUSE a) = 4 ∧ t.get (AX_FLTSTAT.LEG a) = x.leg
          ∧ t.get (AX_FLTSTAT.STATE a) = if s.get (AX_FLTSTAT.TRYCNT a) < s.get (AX_FLTCFG.TRIES a) then 1 else 3) ∧
        (x.hard = false → t.get (AX_FLTSTAT.STATE a) = 0 ∧ Frame [.trips] s t)) ∧
    (∀ (c : Fin 4) (p : Fin 256), s.trips = [] → s.get (CO_PROTCFG.PERSIST c) ≠ 0 → Does (.periodCheck c p) s fun t =>
      (∀ e : Fin 4, axisCoach a = c → t.runCount a e = 0) ∧ Frame [.runs] s t) ∧
    (∀ (p : Fin 256) (x : Trip), s.trips = [x] → x.counted = false → x.axis = a → x.coilEnd < 4 → x.leg < 512 →
        x.period % 256 = p → s.enabled a = true → s.get (AX_FLTSTAT.STATE a) = 0 →
        s.runCount a x.coilEnd + 1 = s.get (CO_PROTCFG.PERSIST (axisCoach a)) → ∀ c : Fin 4, axisCoach a = c →
      Does (.periodCheck c p) s fun t => t.get (AX_FLTSTAT.CAUSE a) = 5 ∧ t.get (AX_FLTSTAT.LEG a) = x.leg) ∧
    (s.get (AX_FLTSTAT.STATE a) = 1 → s.on (RK_FLTSTAT.FAULT (axisRank a)) = false →
        s.on (CO_FLTSTAT.FAULT (axisCoach a)) = false → s.on (CO_VM.UVF (axisCoach a)) = false →
        s.on (CO_VM.OVF (axisCoach a)) = false →
      Does (.faultWaitExpiry a) s fun t =>
        t.get (AX_FLTSTAT.STATE a) = 2 ∧ t.get (AX_FLTSTAT.TRYCNT a) = (s.get (AX_FLTSTAT.TRYCNT a) + 1) % 16
          ∧ t.get (AX_FLTCNT.RETRIES a) = min 255 (s.get (AX_FLTCNT.RETRIES a) + 1)
          ∧ Frame [.coaches, .reg .AX_FLTCNT, .reg .AX_FLTSTAT] s t) ∧
    (s.get (AX_FLTSTAT.STATE a) = 2 → Does (.retryTestPass a) s fun t =>
      t.get (AX_FLTSTAT.STATE a) = 0 ∧ t.on (AX_FLTSTAT.RECOV a) = true ∧ t.on (AX_STAT.HALTED a) = false
        ∧ t.get (AX_MODE.MODE a) = 0 ∧ t.get (AX_SSTAT.STATE a) = 0 ∧ t.evPending (48 + a / 8) = true) ∧
    (s.get (AX_FLTSTAT.STATE a) = 0 → Does (.retryWindowExpiry a) s fun t =>
      t.get (AX_FLTSTAT.TRYCNT a) = 0 ∧ t.get (AX_FLTSTAT.CAUSE a) = s.get (AX_FLTSTAT.CAUSE a)
        ∧ Frame [.reg .AX_FLTSTAT] s t)

/-- A write of `w` to a coach's fault control register crosses the coupling as an exchange, R17. -/
def clearSent (m : Master) (c addr : Nat) (w : Word) (s t : State) : Prop :=
  t.coach c = { s.coach c with
      cfgq := (s.coach c).cfgq ++ [{ master := m, addr := addr, wr := some w, seq := (s.coach c).seq }]
      seq := ((s.coach c).seq + 1) % 256 }
    ∧ t.reply m = .waiting ∧ Frame [.replies, .coaches] s t

/-- The coach's next CFG frame carries a write of `w` to `addr`, R14 and R17. -/
def clearNext (c addr : Nat) (w : Word) (s : State) : Prop :=
  portIdle s ∧ s.linkLive c = true ∧ (s.coach c).controlMay = true ∧ (s.coach c).ctlq = []
    ∧ ∃ e rest, (s.coach c).cfgq = e :: rest ∧ e.addr = addr ∧ e.wr = some w ∧ e.sent = false ∧ (s.coach c).applSeq ≠ some e.seq

/-- AXIS_FAULT_LATCH, AXIS_FAULT_CLEAR, RANK_FAULT_CLEAR, COACH_FAULT_CLEAR and VM_FAULT_CLEAR complete; a clear of a rank, a coach or
VM crosses as an exchange, and acts when the CFG frame that carries it has passed. -/
def Obligations.ClearsComplete : Prop :=
  ∀ (s : State) (m : Master),
    (∀ a : Fin 128, s.mayWrite m (AX_FLTCTL a) →
      (s.get (AX_FLTSTAT.STATE a) = 1 ∨ s.get (AX_FLTSTAT.STATE a) = 2 →
        Does (.axisFaultLatch m a) s fun t => t.get (AX_FLTSTAT.STATE a) = 3 ∧ t.reply m = .done) ∧
      (s.clearRefused a (s.get (AX_FLTSTAT.STATE a)) = false → Does (.axisFaultClear m a) s fun t =>
        t.get (AX_FLTSTAT.STATE a) = 0 ∧ t.get (AX_FLTSTAT.CAUSE a) = 0 ∧ t.get (AX_FLTSTAT.TRYCNT a) = 0
          ∧ t.enabled a = false ∧ t.on (AX_STAT.HALTED a) = false ∧ t.reply m = .done)) ∧
    (∀ r : Fin 16,
      (s.mayWrite m (RK_FLTCTL r) → s.rankClearBlocked r = false →
        Does (.rankFaultClear m r) s (clearSent m (r / 4) (RK_FLTCTL r) 1 s)) ∧
      (∀ (c : Fin 4) gangs, r.val / 4 = c → clearNext c (RK_FLTCTL r) 1 s → Does (.cfgFrame c ⟨true, gangs⟩) s fun t =>
        t.on (RK_FLTSTAT.FAULT r) = false ∧ t.get (RK_FLTSTAT.CAUSE r) = 0
          ∧ ∀ a : Fin 128, axisRank a = r → s.get (AX_FLTSTAT.STATE a) = 3 → rankCause (s.get (AX_FLTSTAT.CAUSE a)) = true →
              t.get (AX_FLTSTAT.STATE a) = 0)) ∧
    (∀ c : Fin 4,
      (s.mayWrite m (CO_FLTCTL c) →
        (s.coachClearRefused c = false → Does (.coachFaultClear m c) s (clearSent m c (CO_FLTCTL c) 1 s)) ∧
        (s.on (CO_VM.UVF c) = false → s.on (CO_VM.OVF c) = false →
          Does (.vmFaultClear m c) s (clearSent m c (CO_FLTCTL c) 2 s))) ∧
      (∀ gangs, clearNext c (CO_FLTCTL c) 1 s → Does (.cfgFrame c ⟨true, gangs⟩) s fun t =>
        t.on (CO_FLTSTAT.FAULT c) = false ∧ t.get (CO_FLTSTAT.CAUSE c) = 0
          ∧ ∀ a : Fin 128, axisCoach a = c → t.enabled a = false ∧
              (s.get (AX_FLTSTAT.STATE a) = 3 → s.byCoach a = true → t.get (AX_FLTSTAT.STATE a) = 0)) ∧
      (∀ gangs, clearNext c (CO_FLTCTL c) 2 s → Does (.cfgFrame c ⟨true, gangs⟩) s fun t =>
        ∀ a : Fin 128, axisCoach a = c → s.get (AX_FLTSTAT.STATE a) = 3 →
          (s.get (AX_FLTSTAT.CAUSE a) = 11 ∨ s.get (AX_FLTSTAT.CAUSE a) = 12) → t.get (AX_FLTSTAT.STATE a) = 0))

/-- CHARGE_PUMP_UNDERVOLTAGE, GATE_REG_UNDERVOLTAGE and TEMP_SENSOR_FAILURE complete. -/
def Obligations.RankConditionsComplete : Prop :=
  ∀ s : State,
    (∀ r : Fin 16, s.coachLive (r / 4) = true → s.on (RK_FLTSTAT.FAULT r) = false →
      (natBit (s.coach (r / 4)).cpSeen (r % 4) = true → Does (.chargePumpUndervoltage r) s fun t =>
        t.on (RK_FLTSTAT.FAULT r) = true ∧ t.get (RK_FLTSTAT.CAUSE r) = 9 ∧ t.evPending r = true
          ∧ natBit (t.coach (r / 4)).cpuv (r % 4) = true) ∧
      Does (.tempSensorFailure r) s (fun t =>
        t.on (RK_FLTSTAT.FAULT r) = true ∧ t.get (RK_FLTSTAT.CAUSE r) = 15 ∧ t.evPending r = true
          ∧ t.on (RK_THERM.VALID r) = false)) ∧
    (∀ c : Fin 4, s.coachLive c = true → (s.coach c).gregSeen = true → s.on (CO_FLTSTAT.FAULT c) = false →
      Does (.gateRegUndervoltage c) s fun t =>
        t.on (CO_FLTSTAT.FAULT c) = true ∧ t.get (CO_FLTSTAT.CAUSE c) = 10 ∧ t.evPending (16 + c) = true
          ∧ t.on (CO_STAT.GREGOK c) = false ∧ (t.coach c).greguv = true)

/-- The six commands of the VM comparators, and VM_BELOW_6V, complete. -/
def Obligations.SideConditionsComplete : Prop :=
  ∀ (s : State) (c : Fin 4), s.power.inReset = false → s.runState ≠ 3 →
    (∀ below4, Does (.vmUndervoltageFault c below4) s fun t =>
      (t.coach c).uvf = true ∧ (below4 = true → (t.coach c).uvw = true) ∧ t.on (CO_VM.UVF c) = true
        ∧ (s.sideUvf (coachSide c) = false → t.evPending (24 + coachSide c) = true)) ∧
    (∀ below4, Does (.vmUndervoltageWarning c below4) s fun t =>
      (t.coach c).uvw = true ∧ (below4 = true → (t.coach c).uvf = true) ∧ t.on (CO_VM.UVW c) = true
        ∧ (s.sideUvw (coachSide c) = false → s.sideOvw (coachSide c) = false → t.evPending (26 + coachSide c) = true)) ∧
    Does (.vmOvervoltageFault c) s (fun t =>
      (t.coach c).ovf = true ∧ t.on (CO_VM.OVF c) = true
        ∧ (s.sideOvf (coachSide c) = false → t.evPending (24 + coachSide c) = true)) ∧
    Does (.vmOvervoltageWarning c) s (fun t =>
      (t.coach c).ovw = true ∧ t.on (CO_VM.OVW c) = true
        ∧ (s.sideUvw (coachSide c) = false → s.sideOvw (coachSide c) = false → t.evPending (26 + coachSide c) = true)) ∧
    (∀ cond, Does (.vmRelease c cond) s fun t =>
      t.coach c = releaseVm cond (s.coach c) ∧ t.on (CO_VM.UVF c) = t.sideUvf (coachSide c)
        ∧ t.on (CO_VM.OVF c) = t.sideOvf (coachSide c) ∧ t.on (CO_VM.UVW c) = t.sideUvw (coachSide c)
        ∧ t.on (CO_VM.OVW c) = t.sideOvw (coachSide c) ∧ Frame [.coaches, .reg .CO_VM, .reg .EV_ACT] s t) ∧
    Does (.vmBelow6v c) s (fun t =>
      (t.coach c).uvf = true ∧ (t.coach c).uvw = true ∧ t.on (CO_VM.UVF c) = true ∧ t.coachLive c = false
        ∧ (s.coachLive c = true → t.get (CO_LINKSTAT.LOSSCAUSE c) = 1 ∧ natBit (t.get GCTL_PWRDOM.COACH) c = false))

/-- The phase in which R136 step 1 begins a coil that is not in drive yet: drive where THR is above 0, its decay where it is 0. -/
def chopPhase (s : State) (r z : Nat) : CoilPhase :=
  let c := (s.coil r z).cmd
  if 0 < c.thr then .drive
  else if c.dec = 1 ∨ (c.dec = 2 ∧ 0 < fastLen c.ff (s.get (CO_PWMPER.PER (r / 4))) 0) then .fast else .slow

/-- The commands of current regulation and of the back-EMF windows complete; the on-times of gangs that end with a command are evaluated
first (R109). -/
def Obligations.CurrentCompletes : Prop :=
  ∀ (s : State) (r z : Fin 16), let a := coilAxis r z
    let p := (s.coil r z).phase
    let coilParts : List Part := [.legs, .coils, .coaches, .reg .LEG_FLTCNT]
    (p = .drive → (∀ l ∈ s.endLegs a (coilE z (s.coil r z).cmd.pol).1, (s.leg l).phase = .hsOn) →
        (∀ l ∈ s.endLegs a (coilE z (s.coil r z).cmd.pol).2, (s.leg l).phase = .lsOn) →
      Does (.blankingEnd r z) s fun t => t.coil r z = { s.coil r z with blank := false } ∧ Frame [.coils] s t) ∧
    (∀ time first onTime gang, p = .drive → (s.coil r z).blank = false →
      let c := (s.coil r z).cmd
      let n := fastLen c.ff (s.get (CO_PWMPER.PER (r / 4))) time
      Does (.comparatorTrip r z time first onTime gang) s fun t =>
        (t.coil r z).tripped = true ∧ (t.coil r z).early = first ∧ (t.coil r z).tTrip = time
          ∧ (t.coil r z).phase = (if c.dec = 1 ∨ (c.dec = 2 ∧ 0 < n) then .fast else .slow)
          ∧ (t.coil r z).tFast = (if c.dec = 2 then n else 0) ∧ Frame (.free :: coilParts) s t) ∧
    (∀ gangs, (s.coil r z).cmd.dec = 2 → p = .fast ∨ p = .zero → Does (.mixedDecaySwitch r ⟨z, gangs⟩) s fun t =>
      t.coil r z = { (gangOffs (ofRank r) gangs s).coil r z with phase := .slow } ∧ Frame (.free :: coilParts) s t) ∧
    (∀ gangs, p = .fast → Does (.fastDecayZeroGuard r ⟨z, gangs⟩) s fun t =>
      t.coil r z = { (gangOffs (ofRank r) gangs s).coil r z with phase := .zero }
        ∧ (∀ l, l ∈ s.endLegs a (2 * (z % 2)) ∨ l ∈ s.endLegs a (2 * (z % 2) + 1) → s.overridden l = false →
            (t.leg l).hs = false ∧ (t.leg l).ls = false)
        ∧ Frame (.free :: coilParts) s t) ∧
    (∀ (c : Fin 4) (b : Fin 128), axisCoach b = c → Does (.decayTrimWindow c) s fun t =>
      t.se b = { s.se b with
        earlyN := 0, deepN := 0
        ffEff :=
          if s.get (AX_DECAY.MODE b) = 2 ∧ s.on (AX_DECAY.TRIM b) = true then
            if 2 ≤ (s.se b).earlyN then min 127 ((s.se b).ffEff + s.get (CO_DTRIM.STEP c))
            else if s.get (CO_DTRIM.WIN c) ≤ 2 * (s.se b).deepN then (s.se b).ffEff - s.get (CO_DTRIM.STEP c)
            else (s.se b).ffEff
          else s.get (AX_DECAY.FF b) }
      ∧ t.get (AX_DECAYST.EARLY b) = min 255 (s.se b).earlyN ∧ Frame [.axes, .reg .AX_DECAYST] s t) ∧
    (∀ tz gangs, p = .winFast → Does (.bemfWindowZero r ⟨z, gangs⟩ tz) s fun t =>
      t.coil r z = { (gangOffs (ofRank r) gangs s).coil r z with phase := .winFloat, tz := tz } ∧ Frame (.free :: coilParts) s t) ∧
    (p = .winFloat → Does (.bemfSarRequest r z) s fun t =>
      t.coil r z = { s.coil r z with phase := .winConv }
        ∧ t.coach (r / 4) = { s.coach (r / 4) with sar := (s.coach (r / 4)).sar ++ [(r.val % 4, z.val)] }
        ∧ Frame [.coils, .coaches] s t) ∧
    (∀ sample : Int, p = .winConv → (s.coach (r / 4)).sar.find? (fun x => x.1 = r.val % 4) = some (r.val % 4, z.val) →
      let x := clampInt (-2048) 2047 sample
      Does (.bemfConversionEnd r z sample) s fun t =>
        (t.coach (r / 4)).snsq = (s.coach (r / 4)).snsq ++
          [.bemf (r % 4) z (s.locPer r) x (s.coil r z).tz false (x = -2048 || x = 2047)]
        ∧ (t.coil r z).phase = chopPhase s r z ∧ Frame coilParts s t) ∧
    (∀ gangs, p = .winFast ∨ p = .winFloat ∨ p = .winConv → Does (.bemfWindowAbandon r ⟨z, gangs⟩) s fun t =>
      (t.coach (r / 4)).snsq = (s.coach (r / 4)).snsq ++ [.bemf (r % 4) z (s.locPer r) 0 (s.coil r z).tz true false]
        ∧ (t.coil r z).phase = chopPhase s r z ∧ Frame (.free :: coilParts) s t)

/-- What wakes the block from DOZE can change, R57. -/
def wakeParts : List Part := [.mgs, .reg .GCTL_RUNSTAT]

/-- What an access that is performed changes beside its effect. -/
def accessParts : List Part := [.replies, .bad]

/-- STANDSTILL_DELAY_EXPIRY and ENERGISE_EXPIRY complete: the mode state of AX_STANDSTILL.MODE is entered, PARKING when a park is
forced. That a halted axis whose mode state is PARKING shows DELAY is the model's choice (log entry 60). -/
def Obligations.StandstillCompletes : Prop :=
  ∀ (s : State) (a : Fin 128), s.enabled a = true →
    let mode := s.get (AX_STANDSTILL.MODE a)
    let halted := s.on (AX_STAT.HALTED a)
    let park : Bool := (s.mo a).forcePark || decide (mode = 3)
    let entered (m : Motion) (t : State) : Prop :=
      t.get (AX_SSTAT.STATE a) = (if park then (if halted then 1 else if s.parkDelta a = 0 then 6 else 5) else mode + 2)
        ∧ t.mo a = { m with parkHeld := park && halted } ∧ Frame [.axes, .reg .AX_SSTAT] s t
    (s.get (AX_SSTAT.STATE a) = 1 → s.get (AX_FLTSTAT.STATE a) = 0 → Does (.standstillDelayExpiry a) s (entered (s.mo a))) ∧
    (s.get (AX_SSTAT.STATE a) = 7 →
      ((s.mo a).afterEnerg ≠ .modeState → Does (.energiseExpiry a) s fun t =>
        t.get (AX_SSTAT.STATE a) = 0 ∧ t.mo a = { s.mo a with afterEnerg := .none } ∧ Frame [.axes, .reg .AX_SSTAT] s t) ∧
      ((s.mo a).afterEnerg = .modeState → Does (.energiseExpiry a) s (entered { s.mo a with afterEnerg := .none })))

/-- What a request to disable an axis can change: an axis in motion stops, a pending retry or an entry of the plan ends. -/
def disableParts : List Part :=
  [.trioQ, .emcyQ, .logQ, .logWin, .coaches, .axes, .pl, .reg .AXALERT, .reg .AXEN, .reg .AX_FLTSTAT, .reg .AX_STAT, .reg .EV_PEND,
    .reg .MGS_LOGSTAT, .reg .PL_ENERGY_HI, .reg .PL_ENERGY_LO, .reg .PL_EVINFO, .reg .PL_MAKESPAN, .reg .PL_RES, .reg .PL_RES_EACT,
    .reg .PL_RES_END, .reg .PL_STAT]

/-- What the record of a clamp can change, R87. -/
def clampParts : List Part :=
  eventParts ++ [.net, .reg .GCTL_CLAMPADDR, .reg .GCTL_CLAMPREQ, .reg .GCTL_CLAMPAPP, .reg .GCTL_CLAMPREQHI, .reg .GCTL_CLAMPAPPHI]

/-- AXIS_ENABLE, AXIS_DISABLE, START, AXSTART_WRITE, STOP, QSTOP, HALT, RELEASE, CONT and CLRPML complete: what they ask waits
for the next profile tick. That AXIS_ENABLE of a bit that is 1 completes for a faulted axis too (log entry 58), and that the outcome of a
start is decided when it is asked (log entry 17), are the model's choices. -/
def Obligations.AxisCommandsComplete : Prop :=
  ∀ (s : State) (m : Master) (a : Fin 128),
    (s.mayWrite m (AXEN (a / 32)) →
      ((s.latest (AXEN (a / 32))).getLsbD (a % 32) = true → Does (.axisEnable m a) s fun t =>
        t.reply m = .done ∧ Frame (accessParts ++ [.reg .AXEN]) s t) ∧
      ((s.latest (AXEN (a / 32))).getLsbD (a % 32) = false → s.enableRefused a = false → s.trio.safeIn = false →
        Does (.axisEnable m a) s fun t =>
          t.mo a = { s.mo a with enPend := true } ∧ (t.rd (AXEN (a / 32))).getLsbD (a % 32) = true ∧ t.reply m = .done
            ∧ t.runState = (if s.runState = 1 then 0 else s.runState)
            ∧ Frame (accessParts ++ wakeParts ++ [.axes, .reg .AXEN]) s t) ∧
      ((s.latest (AXEN (a / 32))).getLsbD (a % 32) = false → Does (.axisDisable m a) s fun t =>
        t.reply m = .done ∧ Frame (accessParts ++ [.reg .AXEN]) s t) ∧
      ((s.latest (AXEN (a / 32))).getLsbD (a % 32) = true → Does (.axisDisable m a) s fun t =>
        (t.mo a).enPend = false ∧ t.reply m = .done ∧ Frame (accessParts ++ disableParts) s t
          ∧ (s.enabled a = true → s.get (AX_FLTSTAT.STATE a) = 3 →
              (t.rd (AXEN (a / 32))).getLsbD (a % 32) = true ∧ t.mo a = { s.mo a with enPend := false })
          ∧ (s.enabled a = false ∨ s.get (AX_FLTSTAT.STATE a) ≠ 3 → (t.rd (AXEN (a / 32))).getLsbD (a % 32) = false)
          ∧ (s.enabled a = true → s.get (AX_FLTSTAT.STATE a) ≠ 3 →
              (s.inMotion a = true → t.on (AX_STAT.DISPEND a) = true ∧ t.on (AX_STAT.ARMED a) = false ∧ (t.mo a).orderQ = true)
                ∧ (s.inMotion a = false → (t.mo a).disNext = true)
                ∧ (s.get (AX_FLTSTAT.STATE a) ≠ 0 → t.get (AX_FLTSTAT.STATE a) = 3)))) ∧
    (s.mayWrite m (AX_CTL a) → s.startRefused a = false →
      (s.startOutcome a false = .starts ∨ s.startOutcome a false = .armed → .start ∉ (s.mo a).reqs →
        Does (.start m a) s fun t =>
          t.mo a = { s.mo a with asked := true, reqs := (s.mo a).reqs ++ [.start] } ∧ t.reply m = .done
            ∧ t.runState = (if s.runState = 1 then 0 else s.runState) ∧ Frame (accessParts ++ wakeParts ++ [.axes]) s t) ∧
      (∀ k, s.startOutcome a false = .ignored k → (s.mo a).asked = false → Does (.start m a) s fun t =>
        t.get (AX_STARTSTAT.LASTREJ a) = k ∧ t.get (AX_STARTSTAT.IGNCNT a) = min 255 (s.get (AX_STARTSTAT.IGNCNT a) + 1)
          ∧ t.reply m = .done ∧ Frame (accessParts ++ wakeParts ++ [.axes, .reg .AX_STARTSTAT]) s t)) ∧
    (∀ (k : Fin 4) (w : Word), s.mayWrite m (AXSTART k) →
        (∀ b : Fin 32, w.getLsbD b = true → s.startRefused (32 * k + b) = false) →
      Does (.axstartWrite m k w) s fun t =>
        (∀ b : Fin 32, w.getLsbD b = true → .start ∉ (s.mo (32 * k + b)).reqs →
            s.startOutcome (32 * k + b) false = .starts ∨ s.startOutcome (32 * k + b) false = .armed →
          t.mo (32 * k + b) = { s.mo (32 * k + b) with asked := true, reqs := (s.mo (32 * k + b)).reqs ++ [.start] })
        ∧ (∀ (b : Fin 32) (r : Nat), w.getLsbD b = true → s.startOutcome (32 * k + b) false = .ignored r →
            (s.mo (32 * k + b)).asked = false →
          t.get (AX_STARTSTAT.LASTREJ (32 * k + b)) = r
            ∧ t.get (AX_STARTSTAT.IGNCNT (32 * k + b)) = min 255 (s.get (AX_STARTSTAT.IGNCNT (32 * k + b)) + 1))
        ∧ (∀ b : Fin 32, w.getLsbD b = false → t.mo (32 * k + b) = s.mo (32 * k + b))
        ∧ t.reply m = .done ∧ Frame (accessParts ++ wakeParts ++ [.axes, .reg .AX_STARTSTAT]) s t) ∧
    (s.mayWrite m (AX_CTL a) →
      let waits (r : AxReq) (t : State) : Prop :=
        t.mo a = { s.mo a with reqs := (s.mo a).reqs ++ [r] } ∧ t.reply m = .done ∧ Frame (accessParts ++ [.axes]) s t
      Does (.stop m a) s (waits .stop) ∧ Does (.qstop m a) s (waits .qstop) ∧ Does (.halt m a) s (waits .halt)
        ∧ Does (.cont m a) s (waits .cont) ∧ Does (.clrpml m a) s (waits .clrpml)
        ∧ (s.on EV_PIN.HALTN = true ∨ s.on (AX_HALTCFG.PIN a) = false → Does (.release m a) s (waits .release)))

/-- SYNC_IN_EDGE, SYNC_OUT_PULSE_END and AX_POS_WRITE complete. An edge is taken by the armed axes, the chains and the plan whose
source is SYNC_IN with that edge; a position outside the range of R188 is clamped, R87. -/
def Obligations.SyncAndPositionComplete : Prop :=
  ∀ s : State,
    (∀ rising, s.fabricOn = true → Does (.syncInEdge rising) s fun t =>
      (∀ a : Fin 128,
        let edge : Bool := s.on (AX_STARTCFG.EDGE a) = !rising
        let starts : Bool := s.on (AX_STAT.ARMED a) && decide (s.get (AX_STARTCFG.SRC a) = 1) && edge
        let goesOn : Bool := (match (s.mo a).run with | .segWait _ true => true | _ => false)
          && decide (s.get (AX_STARTCFG.SEGSYNC a) = 1) && edge
        t.mo a = { s.mo a with syncHit := (s.mo a).syncHit || starts, waitHit := (s.mo a).waitHit || goesOn }
          ∧ t.se a = s.se a)
      ∧ t.pl = (if s.runWaits = true ∧ s.get PL_CFG.RUNSRC = 1 ∧ s.on (AX_STARTCFG.EDGE 0) = !rising then { s.pl with sync := true }
          else s.pl)
      ∧ Frame [.axes, .pl] s t) ∧
    (∀ rising, s.fabricOn = false → Does (.syncInEdge rising) s fun t => t = s) ∧
    Does .syncOutPulseEnd s (fun t => t = { s with syncOut := false }) ∧
    (∀ (m : Master) (a : Fin 128) (lo hi : Word), s.mayWrite m (AX_POS_LO a) → s.mayWrite m (AX_POS_HI a) →
        s.enabled a = false ∨ s.get (AX_SSTAT.STATE a) = 2 ∨ s.get (AX_SSTAT.STATE a) = 6 →
      let v := signed 64 (lo.toNat + 2 ^ 32 * hi.toNat)
      let x := clampInt (-posMax) posMax v
      let parts := pairParts ++ eventParts
        ++ [.replies, .axes, .reg .GCTL_SEQERR, .reg .AX_POS_LO, .reg .AX_POS_HI, .reg .AX_STAT, .reg .AX_WITST, .reg .AXALERT]
      Does (.axPosWrite m a lo hi) s fun t =>
        t.mo a = { s.mo a with p := x * 2 ^ 24 } ∧ t.pair (AX_POS_LO a) = x ∧ t.on (AX_STAT.PML a) = false
          ∧ t.on (AX_WITST.ALIGNPEND a) = true ∧ (t.port m).stage = none ∧ t.reply m = .done
          ∧ (x = v → Frame parts s t)
          ∧ (x ≠ v → t.on GCTL_CLAMPADDR.VALID = true ∧ t.get GCTL_CLAMPADDR.ADDR = AX_POS_LO a ∧ t.evPending 118 = true
              ∧ Frame (parts ++ clampParts) s t))

/-- The commands of the microstep tables complete. -/
def Obligations.WavesComplete : Prop :=
  ∀ (s : State) (m : Master) (t : Fin 8), t ≠ 0 →
    (s.mayWrite m (WAVE_CTL t) →
      (s.tableUsed t = false → Does (.waveLoadOpen m t) s fun u =>
        u.on (WAVE_CTL.LOAD t) = true ∧ u.reply m = .done ∧ Frame (accessParts ++ [.reg .WAVE_CTL]) s u) ∧
      Does (.waveLoadClose m t) s (fun u =>
        u.on (WAVE_CTL.LOAD t) = false ∧ u.reply m = .done ∧ Frame (accessParts ++ [.reg .WAVE_CTL]) s u)) ∧
    (∀ (k : Fin 257) (w : Word), s.mayWrite m (WAVE t k) → s.locked = false → s.on (WAVE_CTL.LOAD t) = true → w.toNat < 4096 →
      Does (.waveEntryWrite m t k w) s fun u =>
        u.get (WAVE.Q t k) = w.toNat ∧ u.reply m = .done ∧ Frame (accessParts ++ [.reg .WAVE]) s u) ∧
    (∀ (a : Fin 128) (w : Word), s.mayWrite m (AX_WAVESEL a) → s.locked = false → w &&& 0xFFFFFEF8 = 0 →
        (s.enabled a = true → w.getLsbD 8 = (s.latest (AX_WAVESEL a)).getLsbD 8) →
        (s.enabledOrPend a = true → s.on (WAVE_CTL.LOAD (w.toNat % 8)) = false) →
      Does (.waveSelectWrite m a w) s fun u =>
        u.getLatest (AX_WAVESEL.TABLE a) = w.toNat % 8 ∧ u.getLatest (AX_WAVESEL.INV a) = b2n (w.getLsbD 8) ∧ u.reply m = .done
          ∧ Frame (accessParts ++ [.staged]) s u) ∧
    (∀ k : Fin 257, s.power.inReset = false →
      Does (.waveEccError t k false) s (fun u =>
        u.get (WAVE_STAT.CORR t) = min (WAVE_STAT.CORR t).max (s.get (WAVE_STAT.CORR t) + 1) ∧ Frame [.reg .WAVE_STAT] s u) ∧
      Does (.waveEccError t k true) s (fun u =>
        u.isBad (WAVE t k) = true ∧ u.on GCTL_PARERR.VALID = true ∧ u.evPending 114 = true
          ∧ u.get (WAVE_STAT.UNCORR t) = min (WAVE_STAT.UNCORR t).max (s.get (WAVE_STAT.UNCORR t) + 1)
          ∧ Frame (.bad :: .reg .GCTL_PARERR :: .reg .WAVE_STAT :: eventParts) s u))

/-- LOAD_ANGLE_EVALUATION, HOMING_SETTLE_EXPIRY and the commands of AX_LACTL complete. -/
def Obligations.EstimatorCompletes : Prop :=
  ∀ (s : State) (m : Master) (a : Fin 128),
    (∀ q k, (s.se a).evals = [q] → s.evaluate a q = .invalid k → Does (.loadAngleEvaluation a) s fun t =>
      t.on (AX_LA.VALID a) = false ∧ t.get (AX_LA.REASON a) = k ∧ t.get (AX_STALLST.CNT a) = 0 ∧ (t.se a).evals = []
        ∧ Frame [.axes, .reg .AX_LA, .reg .AX_STALLST] s t) ∧
    (∀ q e, (s.se a).evals = [q] → s.evaluate a q = .valid e → Does (.loadAngleEvaluation a) s fun t =>
      t.on (AX_LA.VALID a) = true ∧ t.get (AX_LA.REASON a) = 0
        ∧ t.get (AX_LA.ANGLE a) = unsigned ((AX_LA.ANGLE a).hi + 1 - (AX_LA.ANGLE a).lo) e.delta
        ∧ (t.se a).evals = []
        ∧ (t.se a).results.head? = some ⟨q.tag.pos, q.tag.up, q.tag.dist, alignedSample q.tag q.sample, q.tag.speed, q.tag.era⟩
        ∧ Frame [.free, .axes, .reg .AX_BEMFKE, .reg .AX_LA, .reg .AX_STALLST] s t) ∧
    (s.get (AX_HOMEST.STATE a) = 3 → (s.mo a).run = .homeContact → Does (.homingSettleExpiry a) s fun t =>
      let d : Int := Int.ofNat (s.get (AX_HOMEBACK.BACK a)) * 2 ^ 24
      t.get (AX_HOMEST.STATE a) = 4
        ∧ t.mo a = { s.mo a with run := .homeBack (if s.getI (AX_HOMECFG.HSPD a) < 0 then (s.mo a).p + d else (s.mo a).p - d) }
        ∧ Frame [.axes, .reg .AX_HOMEST] s t) ∧
    (s.mayWrite m (AX_LACTL a) →
      Does (.clre m a) s (fun t =>
        (t.mo a).energy = 0 ∧ t.pair (AX_ENERGY_LO a) = 0 ∧ t.reply m = .done
          ∧ Frame (accessParts ++ [.axes, .reg .AX_ENERGY_LO, .reg .AX_ENERGY_HI]) s t) ∧
      Does (.clrs m a) s (fun t =>
        t.get (AX_STALLST.STALLS a) = 0 ∧ t.rd (AX_BEMFCNT a) = 0 ∧ t.reply m = .done
          ∧ Frame (accessParts ++ [.reg .AX_STALLST, .reg .AX_BEMFCNT]) s t) ∧
      Does (.clrh m a) s (fun t =>
        t.on (AX_HOMEST.HOMED a) = false ∧ t.get (AX_HOMEST.ERR a) = 0 ∧ t.reply m = .done
          ∧ Frame (accessParts ++ eventParts ++ [.reg .AX_HOMEST, .reg .AXALERT]) s t) ∧
      Does (.witalign m a) s (fun t =>
        t.on (AX_WITST.ALIGNPEND a) = true ∧ t.reply m = .done ∧ Frame (accessParts ++ [.reg .AX_WITST]) s t) ∧
      Does (.learn m a) s (fun t =>
        t.on (AX_BEMFKE.LEARNING a) = true ∧ t.se a = { s.se a with learnN := 0, learnSum := 0 } ∧ t.reply m = .done
          ∧ Frame (accessParts ++ [.axes, .reg .AX_BEMFKE]) s t))

/-- Nothing but the profile engines acts at a tick: no access of the host port, no network request, no loss and no sleep entry
waits, nothing is staged, no word fails parity, no plan runs, HALT_N has not been recognised low, the trio is not in the safe state and
no coach is to power down. -/
def quietTick (s : State) : Prop :=
  portIdle s ∧ s.power.entering = 0 ∧ s.power.haltDue = false ∧ s.net.done = [] ∧ s.net.ctxs = [] ∧ s.net.hbDue = [] ∧ s.staged = [] ∧ s.bad = [] ∧ s.planActive = false
    ∧ s.pl.abort = none ∧ s.trio.safe = false ∧ s.trio.safeIn = false ∧ ∀ c : Fin 4, s.pendOff c = false

/-- PROFILE_TICK completes: it counts the tick, and an axis that runs in velocity mode, the only one at work, makes the step of
R168 with the velocity of R177. -/
def Obligations.ProfileTickCompletes : Prop :=
  ∀ (s : State) (inp : TickIn), s.fabricOn = true → quietTick s →
    Does (.profileTick inp) s (fun t => t.ticks = s.ticks + 1 ∧ t.power.wakeAct = inp.wake.toNat) ∧
    ∀ a : Fin 128, (∀ b : Fin 128, b ≠ a → s.ax b = {} ∧ s.enabled b = false ∧ s.on (AX_LIMCFG.EN b) = false
        ∧ s.on (AX_STAT.OUTSIDE b) = false) →
      s.enabled a = true → s.on (AX_STAT.HALTED a) = false → s.get (AX_STAT.STOPKIND a) = 0 → s.get (AX_STAT.MODEACT a) = 2 →
      s.get (AX_SSTAT.STATE a) = 0 → s.on (AX_LIMCFG.EN a) = false → s.get (AX_WITCFG.SRC a) ≠ 2 →
      (s.mo a).enPend = false → (s.mo a).disNext = false → (s.mo a).syncHit = false → (s.mo a).waitHit = false →
      (s.mo a).reqs = [] → (s.mo a).orderH = false → (s.mo a).orderQ = false → (s.mo a).stallAct = none → (s.mo a).witAct = none →
      let m := s.mo a
      let lim : Int := Int.ofNat (s.vmax a)
      let v := velStep m.v (clampInt (-lim) lim (s.getI (AX_VTGT.VTGT a) * 2 ^ 24)) (s.amax a) (s.dmax a)
      let p := m.p + (m.v + v) / 2 ^ 17
      p < posMax * 2 ^ 24 → -posMax * 2 ^ 24 ≤ p →
      Does (.profileTick inp) s fun t =>
        (t.mo a).v = v ∧ (t.mo a).p = p ∧ (t.mo a).acc = v - m.v ∧ t.pair (AX_POS_LO a) = p / 2 ^ 24

/-- What a trigger that starts conversions can change. -/
def triggerParts : List Part :=
  eventParts ++ [.staged, .free, .sds, .afe, .reg .AFE_CFGA, .reg .AFE_CFGB, .reg .AFE_CFGC, .reg .AFE_IEXC, .reg .AFE_RREF,
    .reg .AFE_STAT, .reg .AFE_TDAC, .reg .AFE_VEXC, .reg .SD_AVG, .reg .SD_CAL_GAIN, .reg .SD_CAL_OFS, .reg .SD_CFG, .reg .SD_CNT,
    .reg .SD_DIRECT, .reg .SD_LINDATA, .reg .SD_SEQ0, .reg .SD_SEQ1, .reg .SD_SEQCTL, .reg .SD_STAT]

/-- The recipe buffer. -/
def bufferParts : List Part := [.reg .PL_RCPHDR, .reg .PL_RCP0, .reg .PL_RCP1, .reg .PL_RCP2, .reg .PL_RCP3]

/-- The commands of PL_CMD complete, R210; while the configuration is locked, all but SAVE and ERASE, R378. -/
def Obligations.PlanCommandsComplete : Prop :=
  ∀ (s : State) (m : Master), s.mayWrite m PL_CMD →
    let begun (cmd slot : Nat) (t : State) : Prop :=
      t.pl = { s.pl with cmd := cmd, slot := slot } ∧ t.on PL_STAT.BUSY = true ∧ t.plState = s.plState ∧ t.reply m = .done
        ∧ Frame (accessParts ++ [.pl, .reg .PL_STAT]) s t
    (∀ slot : BitVec 8,
      (s.plRefused 1 slot.toNat = false → Does (.load m slot) s (begun 1 slot.toNat)) ∧
      (s.locked = false → s.plRefused 2 slot.toNat = false → Does (.save m slot) s (begun 2 slot.toNat)) ∧
      (s.locked = false → s.plRefused 3 slot.toNat = false → Does (.erase m slot) s (begun 3 slot.toNat)) ∧
      (s.locked = true → ∀ i ∈ [Instr.save m slot, Instr.erase m slot], Does i s fun t =>
        t.reply m = .error .refused ∧ Frame errorParts s t)) ∧
    (s.plRefused 4 0 = false → Does (.loadx m) s (begun 4 0)) ∧
    (s.plRefused 5 0 = false → Does (.plan m) s fun t =>
      t.pl = { s.pl with cmd := 5, slot := 0, held := s.trioState = 1 } ∧ t.on PL_STAT.BUSY = true ∧ t.plState = 2 ∧ t.reply m = .done
        ∧ Frame (accessParts ++ [.pl, .reg .PL_STAT]) s t) ∧
    (s.plRefused 6 0 = false → Does (.run m) s fun t =>
      t.pl = { s.pl with cmd := 6, slot := 0, waiting := true, sync := false } ∧ t.on PL_STAT.BUSY = true ∧ t.plState = s.plState
        ∧ t.reply m = .done ∧ Frame (accessParts ++ [.pl, .reg .PL_STAT]) s t) ∧
    (∀ abq, s.plRefused 7 0 = false → Does (.abort m abq) s fun t =>
      (s.runWaits = true → t.pl = { s.pl with waiting := false, sync := false, cmd := 0 } ∧ t.on PL_STAT.BUSY = false)
        ∧ (s.runWaits = false → s.plState = 4 → t.pl.abort = some (abq || s.pl.abort = some true))
        ∧ (s.runWaits = false → s.plState = 5 → abq = true → t.pl.abort = some true)
        ∧ t.reply m = .done ∧ Frame (accessParts ++ [.pl, .reg .PL_STAT]) s t) ∧
    (s.plRefused 8 0 = false → Does (.clear m) s fun t =>
      t.plState = 0 ∧ t.get PL_STAT.ERR = 0 ∧ (∀ e : Fin 128, t.rcpWords e = [0, 0, 0, 0] ∧ t.rd (PL_RES e) = 0)
        ∧ (∀ i : Fin 4, t.rd (PL_RCPHDR i) = 0) ∧ t.pl = s.pl ∧ t.reply m = .done
        ∧ Frame (accessParts ++ bufferParts ++ [.reg .PL_STAT, .reg .PL_EVINFO, .reg .PL_MAKESPAN, .reg .PL_PRED, .reg .PL_ENERGY_LO,
            .reg .PL_ENERGY_HI, .reg .PL_RES, .reg .PL_RES_START, .reg .PL_RES_END, .reg .PL_RES_TEST, .reg .PL_RES_EEST,
            .reg .PL_RES_EACT]) s t)

/-- PLAN_COMPLETE, PL_COMMAND_END, PLAN_START, ADMISSION_BLOCKED, RECIPE_BUFFER_WRITE and PL_ORD_WRITE complete. A PLAN written while
the trio resynchronises waits until it resumes, R210; the read of a LOADX that fails is a bus error of the flash reader too, R355. -/
def Obligations.PlanStepsComplete : Prop :=
  ∀ s : State,
    (s.plState = 2 → s.on PL_STAT.BUSY = true →
      (s.trioRuns = false ∨ s.trioClock = false ∨ (s.pl.held = true ∧ s.trioState = 1) → Does .planComplete s fun t => t = s) ∧
      (s.trioRuns = true → s.trioClock = true → s.pl.held = false ∨ s.trioState ≠ 1 →
      (∀ e, s.validEntries.find? (fun e => s.entryError e ≠ 0) = some e → Does .planComplete s fun t =>
        t.plState = 1 ∧ t.get PL_STAT.ERR = s.entryError e ∧ t.get PL_STAT.ERRENT = e ∧ t.on PL_STAT.BUSY = false
          ∧ Frame [.reg .PL_STAT] s t) ∧
      (∀ n, (∀ e ∈ s.validEntries, s.entryError e = 0) →
          simulate (s.get PL_CFG.PASSMAX) s.room 1000 0 (orderBy simBefore (s.validEntries.map s.simEntry)) = .ok n →
        Does .planComplete s fun t =>
          t.plState = 3 ∧ t.get PL_STAT.ERR = 0 ∧ t.on PL_STAT.BUSY = false ∧ t.get PL_PRED.TICKS = n % 2 ^ 32
            ∧ t.pl.count = s.validEntries.length ∧ t.orderGood = true
            ∧ Frame [.pl, .reg .PL_ORD, .reg .PL_PRED, .reg .PL_RES_EEST, .reg .PL_RES_TEST, .reg .PL_STAT] s t))) ∧
    (∀ ok flash, s.on PL_STAT.BUSY = true →
      let loaded (w : List Word) (t : State) : Prop :=
        t.plState = 1 ∧ t.get PL_STAT.ERR = 0 ∧ (∀ i : Fin 4, t.rd (PL_RCPHDR i) = w.getD i 0)
          ∧ (∀ e : Fin 128, ∀ i < 4, (t.rcpWords e).getD i 0
              = if e < wordField (w.getD 1 0) 23 16 then w.getD (4 + 4 * e + i) 0 else 0)
          ∧ Frame (bufferParts ++ [.pl, .reg .PL_STAT]) s t
      let image (t : State) : List Word := Sparse.get (fun _ => []) t.recipes s.pl.slot
      let n := max 1 flash.length
      (s.pl.cmd = 1 ∨ s.pl.cmd = 2 ∨ s.pl.cmd = 3 ∨ s.pl.cmd = 4 → Does (.plCommandEnd ok flash) s fun t =>
        t.on PL_STAT.BUSY = false ∧ t.pl = { s.pl with cmd := 0 }
          ∧ (s.pl.cmd = 1 → image s ≠ [] → imageError (image s) = 0 → loaded (image s) t)
          ∧ (s.pl.cmd = 1 → image s ≠ [] → imageError (image s) ≠ 0 →
              t.get PL_STAT.ERR = imageError (image s) ∧ Frame [.pl, .reg .PL_STAT] s t)
          ∧ (s.pl.cmd = 1 → image s = [] → t.get PL_STAT.ERR = 6 ∧ Frame [.pl, .reg .PL_STAT] s t)
          ∧ (s.pl.cmd = 2 → ok = true → image t = s.recipeImage ∧ t.get PL_STAT.ERR = 0
              ∧ Frame [.pl, .recipes, .reg .PL_RCPHDR, .reg .PL_STAT] s t)
          ∧ (s.pl.cmd = 2 → ok = false → t.get PL_STAT.ERR = 9 ∧ Frame [.pl, .reg .PL_STAT] s t)
          ∧ (s.pl.cmd = 3 → image t = [] ∧ t.get PL_STAT.ERR = 0 ∧ Frame [.pl, .recipes, .reg .PL_STAT] s t)
          ∧ (s.pl.cmd = 4 → ok = true → s.loadxReach n = true → imageError flash = 0 → loaded flash t)
          ∧ (s.pl.cmd = 4 → ok = true → s.loadxReach n = true → imageError flash ≠ 0 →
              t.get PL_STAT.ERR = imageError flash ∧ Frame [.pl, .reg .PL_STAT] s t)
          ∧ (s.pl.cmd = 4 → ok = false ∨ s.loadxReach n = false → t.get PL_STAT.ERR = 10)
          ∧ (s.pl.cmd = 4 → ok = false ∨ s.loadxReach n = false → s.loadxStop n = none → Frame [.pl, .reg .PL_STAT] s t)
          ∧ (∀ f, s.pl.cmd = 4 → s.loadxStop n = some f →
              t.evPending 116 = true ∧ (s.runState ≠ 2 → t.evPending 113 = true)
                ∧ (s.on GCTL_BUSERR.VALID = false → t.get GCTL_BUSERR.CODE = BusErr.refused.code
                    ∧ t.get GCTL_BUSERR.MASTER = masterCode .xip ∧ t.get GCTL_BUSERRADDR.ADDR = (0x800000 + (f - s.get SPM_XOFS.OFS * 65536)) % 2 ^ 24)
                ∧ Frame (.pl :: .power :: .reg .PL_STAT :: errorParts) s t))) ∧
    (s.fabricOn = true → s.runReady = true → s.plState = 3 → Does .planStart s fun t =>
      t.plState = 4 ∧ t.on PL_STAT.BUSY = false ∧ t.pl.waiting = false ∧ t.pl.tick = 0
        ∧ t.pl.owned = s.validEntries.map (fun e => (s.rcpAxis e, e))
        ∧ (∀ e ∈ s.validEntries, t.entryState e = if s.rcpAfter e then 0 else 1)
        ∧ Frame (triggerParts ++ [.pl, .reg .PL_STAT, .reg .PL_MAKESPAN, .reg .PL_ENERGY_LO, .reg .PL_ENERGY_HI, .reg .PL_RES,
            .reg .PL_RES_START, .reg .PL_RES_END, .reg .PL_RES_EACT]) s t) ∧
    (∀ e : Fin 128, s.plState = 4 → s.rcpValid e = true → s.entryState e = 1 → e.val ∉ s.pl.blocked →
      Does (.admissionBlocked e) s fun t =>
        t.evPending 29 = true ∧ t.get PL_EVINFO.BLKENT = e ∧ t.pl = { s.pl with blocked := e.val :: s.pl.blocked }
          ∧ Frame (.pl :: .reg .PL_EVINFO :: eventParts) s t) ∧
    (∀ m at_ w, s.mayWrite m (recipeAddr at_) → s.recipeRefused = false → Does (.recipeBufferWrite m at_ w) s fun t =>
      t.rd (recipeAddr at_) = w ∧ t.plState = 1 ∧ t.reply m = .done
        ∧ Frame (accessParts ++ bufferParts ++ [.reg .PL_STAT]) s t) ∧
    (∀ m (k : Fin 128) (w : Word), s.mayWrite m (PL_ORD k) → s.ordRefused = false → w.toNat < 128 →
      Does (.plOrdWrite m k w) s fun t =>
        t.get (PL_ORD.ENTRY k) = w.toNat ∧ t.reply m = .done ∧ Frame (accessParts ++ [.reg .PL_ORD]) s t)

/-- The pair (A, B) that follows while A leads, R232. -/
def quadNext : Bool × Bool → Bool × Bool
  | (false, false) => (true, false)
  | (true, false) => (true, true)
  | (true, true) => (false, true)
  | (false, true) => (false, false)

/-- The commands of step inputs, encoders and compare units complete. That the filters sample at multiples of PRE + 1, that BEHIND is set
whether or not a unit is armed and that nothing counts before the first tick after a NAP are the model's choices (log entry 61), as is the
free rounding of ENC_SPD (log entry 6). -/
def Obligations.FeedbackCompletes : Prop :=
  ∀ (s : State) (n : Fin 8), s.fabricOn = true →
    let cmpParts : List Part := [.encs, .reg .CMP_CFG, .reg .CMP_CNTS, .reg .CMP_COUNT, .reg .CMP_POS, .reg .CMP_STAT]
    (∀ step dir stepSince dirSince stamp dirStamp,
      let c : Instr := .stepEdge n ⟨step, stepSince⟩ ⟨dir, dirSince⟩ (stamp, dirStamp)
      let settled (was now : Bool) (since : Nat) : Bool :=
        filtered (s.enc n).stepFilt (s.get (STEP_FILT.PRE n)) (s.get (STEP_FILT.N n)) was now since stamp
      let fs := settled (s.on (STEP_STAT.STEP n)) step stepSince
      let up := settled (Sparse.get (fun _ => false) s.stepDir n) dir dirSince != s.on (STEP_CFG.DIRINV n)
      let counts : Bool := fs != s.on (STEP_STAT.STEP n) && fs != s.on (STEP_CFG.EDGE n) && !s.power.unticked
      let d : Int := if up then s.get (STEP_CFG.PUPS n) else -s.get (STEP_CFG.PUPS n)
      let x : Int := s.get (STEP_CNT.CNT n) + d
      let last := Sparse.get (fun _ => 0) s.stepLast n
      (s.on (STEP_CFG.EN n) = false → Does c s fun t => t = s) ∧
      (s.on (STEP_CFG.EN n) = true → Does c s fun t =>
        t.on (STEP_STAT.STEP n) = fs ∧ t.on (STEP_STAT.DIR n) = up
          ∧ (counts = false → Frame [.stepDir, .reg .STEP_STAT] s t)
          ∧ (counts = true → t.get (STEP_CNT.CNT n) = unsigned 32 x
              ∧ t.get (STEP_MCNT.MCNT n) = unsigned 32 (s.get (STEP_MCNT.MCNT n) + d)
              ∧ (x < 0 ∨ 2 ^ 32 ≤ x → t.on (STEP_STAT.WRAP n) = true)
              ∧ (last ≠ 0 → stamp < last - 1 + s.get (STEP_TIMING.MINPER n) →
                  t.on (STEP_STAT.OVSPD n) = true ∧ t.evPending (80 + n) = true)
              ∧ (stamp < dirStamp + s.get (STEP_TIMING.TSU n) → t.on (STEP_STAT.SETUP n) = true ∧ t.evPending (80 + n) = true)
              ∧ Frame (eventParts ++ [.stepLast, .stepDir, .reg .STEP_CNT, .reg .STEP_MCNT, .reg .STEP_STAT, .reg .STEP_ERR]) s t))) ∧
    (∀ (a b : Bool) aSince bSince stamp,
      let c : Instr := .quadratureTransition n ⟨a, aSince⟩ ⟨b, bSince⟩ stamp
      let settled (was now : Bool) (since : Nat) : Bool :=
        filtered (s.enc n).filt (s.get (ENC_FILT.PRE n)) (s.get (ENC_FILT.N n)) was now since stamp
      let old := (s.on (ENC_STAT.A n), s.on (ENC_STAT.B n))
      let new := (settled old.1 a aSince, settled old.2 b bSince)
      let shows (t : State) : Prop := t.on (ENC_STAT.A n) = new.1 ∧ t.on (ENC_STAT.B n) = new.2
      (s.on (ENC_CFG.EN n) = false → s.get (ENC_CFG.REPEAT n) ≠ 2 → Does c s fun t =>
        t.enc n = { s.enc n with ballA := a, ballB := b } ∧ Frame [.encs] s t) ∧
      (s.on (ENC_CFG.EN n) = false ∧ s.get (ENC_CFG.REPEAT n) = 2 ∨ s.on (ENC_CFG.EN n) = true ∧ (s.power.unticked = true ∨ new = old) →
        Does c s fun t => shows t ∧ t.enc n = { s.enc n with ballA := a, ballB := b } ∧ Frame [.encs, .reg .ENC_STAT] s t) ∧
      (s.on (ENC_CFG.EN n) = true → s.power.unticked = false →
        (∀ d : Int, (d = 1 ∧ quadNext old = new) ∨ (d = -1 ∧ quadNext new = old) → Does c s fun t =>
          let e : Int := if s.on (ENC_CFG.INV n) then -d else d
          t.get (ENC_CNT.CNT n) = unsigned 32 (s.get (ENC_CNT.CNT n) + e)
            ∧ t.get (ENC_MCNT.MCNT n) = unsigned 32 (s.get (ENC_MCNT.MCNT n) + e)
            ∧ shows t ∧ t.on (ENC_STAT.DIR n) = decide (e = 1)
            ∧ Frame (eventParts ++ cmpParts ++ [.free, .reg .ENC_CNT, .reg .ENC_MCNT, .reg .ENC_PER, .reg .ENC_SPD, .reg .ENC_STAT]) s t) ∧
        (new.1 ≠ old.1 → new.2 ≠ old.2 → Does c s fun t =>
          t.on (ENC_STAT.ILL n) = true ∧ shows t ∧ t.evPending (64 + n) = true
            ∧ (s.get (ENC_ERRCFG.LIM n) < (s.enc n).ill + 1 → (s.enc n).declared = false → t.on (ENC_STAT.FAULT n) = true)
            ∧ Frame (eventParts ++ [.encs, .reg .ENC_STAT, .reg .ENC_ERR]) s t))) ∧
    Does (.encoderErrorWindow n) s (fun t => t.enc n = { s.enc n with ill := 0, declared := false } ∧ Frame [.encs] s t) ∧
    (∀ (z : Bool) since stamp, s.on (ENC_CFG.EN n) = true → s.power.unticked = false →
      let fz := filtered (s.enc n).filt (s.get (ENC_FILT.PRE n)) (s.get (ENC_FILT.N n)) (s.on (ENC_STAT.Z n)) z since stamp
      let open_ : Bool := !s.on (ENC_CFG.ZGATE n) || s.on (ENC_STAT.A n) && s.on (ENC_STAT.B n)
      let edge : Bool := fz != s.on (ENC_STAT.Z n) && fz != s.on (ENC_CFG.ZPOL n)
      ((edge && open_) = true → Does (.indexEdge ⟨n, ⟨z, since⟩, stamp⟩) s fun t =>
        t.on (ENC_STAT.Z n) = fz
          ∧ (s.get (ENC_CFG.ZMODE n) ≠ 0 → t.rd (ENC_ZLATCH n) = s.rd (ENC_CNT n) ∧ t.on (ENC_STAT.ZSEEN n) = true)
          ∧ (s.get (ENC_CFG.ZMODE n) = 2 → t.get (ENC_CFG.ZMODE n) = 1)
          ∧ t.rd (ENC_CNT n) = (if 2 ≤ s.get (ENC_CFG.ZMODE n) then s.rd (ENC_ZVAL n) else s.rd (ENC_CNT n))
          ∧ (s.on (ENC_CFG.ZEV n) = true → t.evPending (64 + n) = true)
          ∧ Frame (eventParts ++ cmpParts ++ [.reg .ENC_CFG, .reg .ENC_CNT, .reg .ENC_STAT, .reg .ENC_ZLATCH]) s t) ∧
      ((edge && open_) = false → Does (.indexEdge ⟨n, ⟨z, since⟩, stamp⟩) s fun t =>
        t.on (ENC_STAT.Z n) = fz ∧ t.enc n = { s.enc n with ballZ := z } ∧ Frame [.encs, .reg .ENC_STAT] s t)) ∧
    (s.on (ENC_CFG.EN n) = true → s.on (ENC_STAT.SPDMODE n) = false → Does (.speedTimeout n) s fun t =>
      t.get (ENC_SPD.SPD n) = 0 ∧ t.get (ENC_PER.PER n) = 0xFFFFFF ∧ Frame [.reg .ENC_SPD, .reg .ENC_PER] s t) ∧
    (s.on (ENC_CFG.EN n) = true → s.on (ENC_STAT.SPDMODE n) = true → Does .countWindowEnd s fun t =>
      let e := s.enc n
      t.enc n = { e with net := 0, span := 0, counted := false, ref := e.ref || e.counted }
        ∧ (e.counted = false → t.get (ENC_SPD.SPD n) = 0)
        -- a quotient that is not whole is rounded one way or the other, which the spec does not state
        ∧ (e.counted = true → e.ref = true → e.span ≠ 0 →
            let q := (e.net * 3200000000).natAbs / e.span
            ∃ r ≤ 1, ((e.net * 3200000000).natAbs % e.span = 0 → r = 0)
              ∧ t.get (ENC_SPD.SPD n) = unsigned 32 (if e.net < 0 then -((q + r : Nat) : Int) else ((q + r : Nat) : Int)))
        ∧ Frame [.free, .encs, .reg .ENC_SPD, .reg .ENC_STAT] s t) ∧
    Does (.comparePulseEnd n) s (fun t =>
      t.on (CMP_STAT.OUT n) = false ∧ (t.enc n).disarm = false
        ∧ ((s.enc n).disarm = true → t.on (CMP_STAT.ARMED n) = false ∧ t.on (CMP_STAT.DONE n) = true)
        ∧ Frame [.encs, .reg .CMP_STAT, .reg .CMP_CFG] s t) ∧
    (∀ (m : Master) (w : Word),
      (s.mayWrite m (CMP_CFG n) → s.locked = false → w &&& 0x000080E0 = 0 → 4 ≤ w.toNat / 65536 →
        Does (.compareArm m n w) s fun t =>
          t.latest (CMP_CFG n) &&& 0xFFFF7F1F = w ∧ t.reply m = .done ∧ Frame (accessParts ++ [.staged, .reg .CMP_CFG]) s t) ∧
      (s.mayWrite m (CMP_POS n) →
        (s.on (CMP_CFG.SRC n) = true → Does (.cmpPosWrite m n w) s fun t =>
          t.enc n = { s.enc n with posWr := some w } ∧ t.reply m = .done ∧ Frame (accessParts ++ [.encs]) s t) ∧
        (s.on (CMP_CFG.SRC n) = false → Does (.cmpPosWrite m n w) s fun t =>
          let past := signed 32 (unsigned 32 ((s.rd (ENC_CNT n)).toNat - (w.toNat : Int)))
          (0 < (if s.on (CMP_CFG.DIR n) then -past else past) → t.on (CMP_STAT.BEHIND n) = true)
            ∧ (s.on (CMP_STAT.ARMED n) = false → t.rd (CMP_POS n) = w ∧ Frame (accessParts ++ [.reg .CMP_POS, .reg .CMP_STAT]) s t)
            ∧ t.reply m = .done ∧ Frame (accessParts ++ eventParts ++ cmpParts) s t)) ∧
      (s.mayWrite m (ENC_CNT n) → Does (.encCntWrite m n w) s fun t =>
        t.rd (ENC_CNT n) = w ∧ t.reply m = .done ∧ Frame (accessParts ++ eventParts ++ cmpParts ++ [.reg .ENC_CNT]) s t) ∧
      (s.mayWrite m (STEP_CNT n) → Does (.stepCntWrite m n w) s fun t =>
        t.rd (STEP_CNT n) = w ∧ t.reply m = .done ∧ Frame (accessParts ++ [.reg .STEP_CNT]) s t))

/-- CONVERSION_START, SETTLE_END, BREAK_CHECK, CONVERSION_END, LEAD_CONVERSION_END, RESULT_LAND and DUTY_WINDOW_START complete. That LEAD
is the binary32 product rounded to the nearest milliohm is the model's choice (log entry 62). -/
def Obligations.ConversionsComplete : Prop :=
  ∀ (s : State) (d : Fin 4),
    (∀ inj slot x now, s.afeOn = true → s.on (SD_CFG.EN d) = true → (s.sd d).conv = none → (s.sd d).cal = none →
        (s.sd d).leadDone = false → s.sdNext d = some (inj, slot, x) → s.sdWaiting d = false →
        (∀ addr ∈ sharedWords, s.waits addr = false) → s.cfgBad x = false →
      -- the configuration in force: as last landed while CONV is held, R80, else as written
      let c : Word × Word × Word := if s.held .conv then ((s.cfgOf d x).a, (s.cfgOf d x).b, (s.cfgOf d x).c)
        else (s.rd (AFE_CFGA x), s.rd (AFE_CFGB x), s.rd (AFE_CFGC x))
      let len := (cfgSettle c.2.1 + s.convClocks d) * modClock
      (s.pulsed c.1 = [] ∨ len ≤ dutyLimit ∧ (∀ i ∈ s.pulsed c.1, s.dutyAllows i (32 * now) len = true) →
        Does (.conversionStart d now) s fun t =>
          t.on (SD_STAT.CONV d) = true ∧ t.on (SD_STAT.WAIT d) = false
            ∧ (∃ v, (t.sd d).conv = some v ∧ v.x = x ∧ v.slot = slot ∧ v.inj = inj ∧ v.direct = (!inj && s.sdDirect d)
                ∧ v.cfgA = c.1 ∧ v.cfgB = c.2.1 ∧ v.cfgC = c.2.2 ∧ v.broken = false ∧ v.lead = s.leadDue d x c.1
                ∧ v.settling = decide (cfgSettle c.2.1 ≠ 0) ∧ v.start = 32 * now ∧ v.tick = s.ticks)
            ∧ Frame [.sds, .afe, .reg .AFE_STAT, .reg .SD_STAT] s t) ∧
      (len ≤ dutyLimit → (∃ i ∈ s.pulsed c.1, s.dutyAllows i (32 * now) len = false) → Does (.conversionStart d now) s fun t =>
        t.on (SD_STAT.WAIT d) = true ∧ (t.sd d).conv = none ∧ (if inj then (t.sd d).heldInj else (t.sd d).heldReg) = true
          ∧ Frame [.sds, .reg .AFE_STAT, .reg .AFE_DUTY, .reg .SD_STAT] s t)) ∧
    (∀ v, (s.sd d).conv = some v →
      Does (.settleEnd d) s (fun t =>
        t.sd d = { s.sd d with conv := some { v with settling := false } } ∧ Frame [.sds] s t) ∧
      (∀ vcm, v.settling = false → cfgBrken v.cfgA = true → cfgTdac v.cfgA ≠ 1 → v.broken = false →
          wordField v.cfgC 15 8 < vcm ∨ vcm < wordField v.cfgC 7 0 →
        Does (.breakCheck d vcm) s fun t =>
          t.sd d = { s.sd d with conv := some { v with broken := true } } ∧ t.on AFE_BRK.VALID = true ∧ t.evPending 101 = true
            ∧ t.get ⟨AFE_BRKCNT, 8 * d + 7, 8 * d⟩ = min 255 (s.get ⟨AFE_BRKCNT, 8 * d + 7, 8 * d⟩ + 1)
            ∧ Frame (eventParts ++ [.sds, .reg .AFE_BRK, .reg .AFE_BRKCNT]) s t) ∧
      (∀ vcm, vcm ≤ wordField v.cfgC 15 8 → wordField v.cfgC 7 0 ≤ vcm → Does (.breakCheck d vcm) s fun t => t = s) ∧
      (∀ code ov, v.lead = false → v.settling = false →
        let (c, clip) := s.corrected d v.gain code
        let key := if v.direct then 16 else v.slot
        let old := Sparse.get (fun _ => {}) (s.sd d).sums key
        let part : SdSum := if old.x = v.x then old else { x := v.x }
        let m : Int := 2 ^ 23 - 1
        let q : Int := if s.get (SD_AVG.AVG d) = 1 then part.sum + c else (part.sum + c) / ((2 ^ s.get (SD_AVG.SHIFT d) : Nat) : Int)
        let lead := s.get (AFE_CFGC.LEAD v.x)
        let tick := if part.n = 0 then v.tick else part.tick
        Does (.conversionEnd d code ov) s fun t =>
          (t.sd d).leadDone = false ∧ Frame triggerParts s t
            ∧ (v.inj = true → (t.sd d).landing = (s.sd d).landing ++
                [⟨v.x, v.slot, v.inj, v.direct, v.gain, c, s.invalidMark v, clip || ov, v.cfgA, lead, v.tick⟩]
              ∧ ((s.sd d).simul = false → (t.sd d).inj = if s.get (SD_SEQCTL.ILEN d) ≤ v.slot then none else some (v.slot + 1)))
            ∧ (v.inj = false → part.n + 1 < s.get (SD_AVG.AVG d) → (t.sd d).landing = (s.sd d).landing
              ∧ ((s.sd d).simul = false → Sparse.get (fun _ => {}) (t.sd d).sums key
                  = ⟨v.x, part.n + 1, part.sum + c, part.brk || s.invalidMark v, part.sat || (clip || ov), v.gain, tick⟩))
            ∧ (v.inj = false → s.get (SD_AVG.AVG d) ≤ part.n + 1 → (t.sd d).landing = (s.sd d).landing ++
                [⟨v.x, v.slot, v.inj, v.direct, v.gain, clampInt (-m) m q, part.brk || s.invalidMark v,
                  part.sat || (clip || ov) || (decide (q < -m) || decide (m < q)), v.cfgA, lead, tick⟩])) ∧
      (∀ code ov, v.lead = true → v.settling = false → Does (.leadConversionEnd d code ov) s fun t =>
        (t.sd d).conv = none ∧ (t.sd d).leadDone = true ∧ (t.sd d).leadFor = v.x ∧ Frame triggerParts s t
          ∧ (v.broken = true ∨ v.refOff = true ∨ ov = true ∨ (s.corrected d v.gain code).2 = true → t.get (AFE_CFGC.LEAD v.x) = 0xFFFF)
          ∧ (v.broken = false → v.refOff = false → ov = false → (s.corrected d v.gain code).2 = false → cfgRef v.cfgA < 2 →
              t.get (AFE_CFGC.LEAD v.x) = leadMilli (s.resistance v.cfgA v.gain (s.corrected d v.gain code).1)))) ∧
    (∀ r l, (s.sd d).landing = r :: l → Does (.resultLand d) s fun t =>
      (t.sd d).landing = l
        ∧ (s.on (SD_CFG.MOVE d) = false → Frame (triggerParts ++
            [.reg .SD_RESULT, .reg .SD_RESINFO, .reg .SD_INJRESULT, .reg .SD_INJRESINFO]) s t) ∧
        if r.inj then
          t.rd (SD_INJRESULT d) = resWord r ((s.sd d).injFresh && !s.on (SD_CFG.MOVE d)) ∧ t.evPending (92 + d) = true
        else t.rd (SD_RESULT d) = resWord r ((s.sd d).fresh && !s.on (SD_CFG.MOVE d)) ∧ t.evPending (88 + d) = true) ∧
    Does .dutyWindowStart s (fun t =>
      t.afe = { s.afe with on0 := [], on1 := [] } ∧ t.sd d = { s.sd d with heldReg := false, heldInj := false }
        ∧ Frame [.sds, .afe, .reg .SD_STAT] s t)

/-- What the landing of a shared word can change, R254. -/
def sharedParts : List Part :=
  [.staged, .reg .AFE_CFGA, .reg .AFE_CFGB, .reg .AFE_CFGC, .reg .AFE_IEXC, .reg .AFE_RREF, .reg .AFE_STAT, .reg .AFE_TDAC,
    .reg .AFE_VEXC, .reg .SD_AVG, .reg .SD_CAL_GAIN, .reg .SD_CAL_OFS, .reg .SD_CFG, .reg .SD_DIRECT, .reg .SD_LINDATA, .reg .SD_SEQ0,
    .reg .SD_SEQ1, .reg .SD_SEQCTL]

/-- AFE_SHARED_WRITE completes for each of its three words. -/
def Obligations.SharedWordsComplete : Prop :=
  ∀ (s : State) (m : Master) (w : Word), s.locked = false →
    let waits (addr : Nat) (mask : Word) (t : State) : Prop := t.latest addr &&& mask = w ∧ t.reply m = .done
      ∧ Frame (accessParts ++ sharedParts) s t
    (s.mayWrite m AFE_IEXC → w &&& 0xF808F808 = 0 →
        (∀ i : Fin 2, iexcMode w i < 3 ∧ (iexcMode w i = 2 → iexcPin w i ≤ 3)) →
      Does (.afeSharedWrite m 0 w) s (waits AFE_IEXC 0x07F707F7)) ∧
    (s.mayWrite m AFE_VEXC → w.toNat < 4 → Does (.afeSharedWrite m 1 w) s (waits AFE_VEXC 3)) ∧
    (s.mayWrite m AFE_TDAC → w.toNat < 4096 → Does (.afeSharedWrite m 2 w) s (waits AFE_TDAC 0xFFF))

/-- The commands of SD_CMD and SD_DISABLE complete. That CAL ends an injected sequence, that SIMUL discards the partial sums and that
SD_DISABLE drops what waits to land are the model's choices (log entry 33). -/
def Obligations.ConverterCommandsComplete : Prop :=
  ∀ (s : State) (m : Master) (d : Fin 4),
    (s.mayWrite m (SD_CMD d) → s.afeOn = true → s.on (SD_CFG.EN d) = true →
      (s.sdWaiting d = false → s.on (SD_STAT.ACTIVE d) = false → Does (.sdStart m d) s fun t =>
        t.on (SD_STAT.ACTIVE d) = true ∧ t.get (SD_STAT.SLOT d) = 0 ∧ t.reply m = .done
          ∧ (s.get (SD_CFG.REGTRIG d) ≠ 2 → (t.sd d).due = true) ∧ Frame (accessParts ++ [.sds, .reg .SD_STAT]) s t) ∧
      Does (.sdStop m d) s (fun t =>
        t.on (SD_STAT.ACTIVE d) = false ∧ t.get (SD_STAT.SLOT d) = 0 ∧ (t.sd d).due = false ∧ (t.sd d).sums = []
          ∧ t.reply m = .done ∧ Frame (accessParts ++ triggerParts) s t ∧ (∀ v, (s.sd d).conv = some v → v.inj = false → (t.sd d).conv = none)) ∧
      (s.sdDirect d = false →
        ((s.sd d).cal = none → (s.sd d).injecting = false → Does (.sdInj m d) s fun t =>
          (t.sd d).inj = some 0 ∧ (t.sd d).conv = none ∧ t.on (SD_STAT.INJ d) = true ∧ t.reply m = .done
            ∧ Frame (accessParts ++ triggerParts) s t) ∧
        ((s.sd d).cal.isSome = true ∨ (s.sd d).injecting = true → Does (.sdInj m d) s fun t =>
          t.get (SD_CNT.INJDROP d) = min (SD_CNT.INJDROP d).max (s.get (SD_CNT.INJDROP d) + 1) ∧ t.evPending 100 = true
            ∧ t.reply m = .done ∧ Frame (accessParts ++ eventParts ++ [.reg .SD_CNT]) s t)) ∧
      (s.sdDirect d = true → Does (.sdInj m d) s fun t => t.reply m = .done ∧ Frame accessParts s t)) ∧
    (s.mayWrite m (SD_CMD d) →
      (∀ mask : BitVec 4, s.simulRefused mask.toNat = false → Does (.sdSimul m d mask) s fun t =>
        t.reply m = .done ∧ Frame (accessParts ++ triggerParts) s t ∧ ∀ e : Fin 4, mask.getLsbD e = true →
          ((s.sd e).injecting = false → (s.sd e).cal = none →
            (t.sd e).due = true ∧ (t.sd e).conv = none ∧ (t.sd e).sums = [] ∧ t.on (SD_STAT.ACTIVE e) = true
              ∧ t.get (SD_STAT.SLOT e) = 0) ∧
          ((s.sd e).injecting = true ∨ (s.sd e).cal.isSome = true →
            t.sd e = { s.sd e with simul := true } ∧ t.on (SD_STAT.SIMLATE e) = true)) ∧
      (∀ mask : BitVec 4, s.calRefused mask.toNat = false → Does (.sdCal m d mask) s fun t =>
        t.reply m = .done ∧ t.afe.calMask = mask.toNat ∧ Frame (accessParts ++ triggerParts) s t ∧ ∀ e : Fin 4, mask.getLsbD e = true →
          (t.sd e).cal = some 0 ∧ (t.sd e).conv = none ∧ (t.sd e).inj = none ∧ t.on (SD_STAT.CAL e) = true
            ∧ t.get (SD_STAT.CALFAIL e) = 0) ∧
      Does (.sdClrcnt m d) s (fun t => t.rd (SD_CNT d) = 0 ∧ t.reply m = .done ∧ Frame (accessParts ++ [.reg .SD_CNT]) s t)) ∧
    (∀ w : Word, s.mayWrite m (SD_CFG d) → s.locked = false → (s.latest (SD_CFG d)).getLsbD 0 = true → w &&& 0xFF08700C = 0 →
        wordField w 11 8 < 12 → wordField w 7 6 < 3 → wordField w 5 4 < 3 →
      Does (.sdDisable m d w) s fun t =>
        t.on (SD_CFG.EN d) = false ∧ (t.sd d).conv = none ∧ (t.sd d).inj = none ∧ (t.sd d).cal = none ∧ (t.sd d).landing = []
          ∧ (t.sd d).due = false ∧ t.on (SD_STAT.ACTIVE d) = false ∧ t.reply m = .done
          ∧ Frame (accessParts ++ clampParts ++ triggerParts) s t)

/-- SD_TIMER_PULSE, TRIG_IN_EDGE, CAL_PHASE_END, SD_RESULT_READ, LINEARISE and SD_LINDATA_ACCESS complete. -/
def Obligations.ConverterEventsComplete : Prop :=
  ∀ (s : State) (d : Fin 4),
    -- the outcome of an urgent trigger on a scanning modulator, R268
    let urgent (t : State) : Prop :=
      if (s.sd d).cal.isSome ∨ (s.sd d).injecting then
        t.get (SD_CNT.INJDROP d) = min (SD_CNT.INJDROP d).max (s.get (SD_CNT.INJDROP d) + 1) ∧ t.evPending 100 = true
      else (t.sd d).inj = some 0 ∧ (t.sd d).conv = none ∧ t.on (SD_STAT.INJ d) = true
    (∀ now, s.afeOn = true → s.on (SD_CFG.EN d) = true →
      let starts : Bool := decide (s.get (SD_CFG.REGTRIG d) = 2) && s.on (SD_STAT.ACTIVE d)
      let fires : Bool := s.on (SD_SEQCTL.TTIM d) && !s.sdDirect d
      Does (.sdTimerPulse ⟨d, now⟩) s fun t =>
        (starts = true → (t.sd d).due = true ∧ ((s.sd d).due = false → t.get (SD_STAT.SLOT d) = 0)
          ∧ ((s.sd d).due = true → s.sdDirect d = false → t.on (SD_STAT.TLATE d) = true))
        ∧ (fires = true → urgent t)
        ∧ (fires = false → starts = false → t = s) ∧ (fires = false → Frame [.sds, .reg .SD_STAT] s t) ∧ Frame triggerParts s t) ∧
    (∀ now, s.afeOn = false ∨ s.on (SD_CFG.EN d) = false → Does (.sdTimerPulse ⟨d, now⟩) s fun t => t = s) ∧
    (∀ rising now, Does (.trigInEdge ⟨rising, now⟩) s fun t =>
      let takes : Bool := s.on (SD_SEQCTL.TPIN d) && s.on (SD_SEQCTL.PEDGE d) == !rising
      (s.afeOn = true → s.on (SD_CFG.EN d) = true → s.sdDirect d = false → takes = true → urgent t)
      ∧ (takes = false → t.sd d = s.sd d) ∧ Frame triggerParts s t) ∧
    (∀ (g : Fin 8) (value : Int), s.bitAt (SD_STAT d) (24 + g) = false →
      ((s.sd d).cal = some (2 * g.val) → Does (.calPhaseEnd d value) s fun t =>
        (-(2 ^ 23) ≤ value → value < 2 ^ 23 → t.getI (SD_CAL_OFS.OFS d g) = value)
          ∧ (value < -(2 ^ 23) ∨ 2 ^ 23 ≤ value →
              t.get (SD_CAL_OFS.OFS d g) = s.get (SD_CAL_OFS.OFS d g) ∧ t.bitAt (SD_STAT d) (24 + g) = true)
          ∧ (t.sd d).cal = some (2 * g.val + 1) ∧ Frame triggerParts s t) ∧
      ((s.sd d).cal = some (2 * g.val + 1) → Does (.calPhaseEnd d value) s fun t =>
        (0x200000 ≤ value → value ≤ 0x600000 → (t.get (SD_CAL_GAIN.GAIN d g) : Int) = value)
          ∧ (value < 0x200000 ∨ 0x600000 < value → t.bitAt (SD_STAT d) (24 + g) = true
              ∧ ((s.sd d).simul = false → t.get (SD_CAL_GAIN.GAIN d g) = s.get (SD_CAL_GAIN.GAIN d g)))
          ∧ (g.val < 7 → (t.sd d).cal = some (2 * g.val + 2))
          ∧ (g.val = 7 → s.afe.calMask = 2 ^ d.val →
              (t.sd d).cal = none ∧ t.on (SD_STAT.CALDONE d) = true ∧ t.evPending 103 = true)
          ∧ Frame triggerParts s t)) ∧
    (∀ (p : Fin 16) (value : Int), s.bitAt (SD_STAT d) (24 + p.val / 2) = true → (s.sd d).cal = some p.val → (s.sd d).simul = false →
      Does (.calPhaseEnd d value) s fun t =>
        t.get (SD_CAL_OFS.OFS d (p.val / 2)) = s.get (SD_CAL_OFS.OFS d (p.val / 2))
          ∧ t.get (SD_CAL_GAIN.GAIN d (p.val / 2)) = s.get (SD_CAL_GAIN.GAIN d (p.val / 2))
          ∧ (p.val < 15 → (t.sd d).cal = some (p.val + 1)) ∧ Frame triggerParts s t) ∧
    (∀ (m : Master) (inj : Bool), let addr := if inj then SD_INJRESULT d else SD_RESULT d
      s.mayRead m addr → s.isBad addr = false → Does (.sdResultRead m d inj) s fun t =>
        (∃ lo hi, locate addr = some lo ∧ locate (addr + 4) = some hi ∧ t.reply m = .data (s.readWord lo addr)
            ∧ (t.port m).shadow = some (addr, s.readWord hi (addr + 4)))
          ∧ t.sd d = (if s.on (SD_CFG.MOVE d) then s.sd d
              else if inj then { s.sd d with injFresh := false } else { s.sd d with fresh := false })
          ∧ Frame (.replies :: .sds :: pairParts) s t) ∧
    (∀ r l, (s.sd d).lin = r :: l → Does (.linearise d) s fun t =>
      (t.sd d).lin = l ∧ Frame [.free, .sds, .afe, .reg .SD_LINRES, .reg .SD_STAT] s t ∧ ∃ n,
        let (T, default) := s.linTemp r.x
        let (y, source) := if r.brk then (f32NaN, 3) else s.linOutput n r (s.linInput r) T
        Sparse.get (fun _ => none) t.afe.linSlot (32 * d + (if r.inj then 16 else 0) + r.slot) = some y
          ∧ (f32Finite y = true → Sparse.get (fun _ => none) t.afe.linCfg r.x = some y)
          ∧ t.on (SD_STAT.TDEF d) = default
          ∧ (r.inj = true → t.get (SD_STAT.LINSRC d) = s.get (SD_STAT.LINSRC d) ∧ Frame [.free, .sds, .afe, .reg .SD_STAT] s t)
          ∧ (r.inj = false → t.rd (SD_LINRES d) = y ∧ t.get (SD_STAT.LINSRC d) = source)
          ∧ (r.brk = false → wordField (s.lin (512 + r.x)) 31 31 = 0 → y = s.linInput r ∧ source = 0)) ∧
    (∀ m : Master, s.get (SD_LINADDR.ADDR d) < 528 →
      let k := s.get (SD_LINADDR.ADDR d)
      (s.mayRead m (SD_LINDATA d) → s.isBad (SD_LINDATA d) = false → Does (.sdLindataAccess m d none) s fun t =>
        t.reply m = .data (s.lin k) ∧ t.get (SD_LINADDR.ADDR d) = (k + 1) % 528 ∧ Frame [.replies, .reg .SD_LINADDR] s t) ∧
      (∀ w, s.mayWrite m (SD_LINDATA d) → s.locked = false → linRefused k w = false →
        Does (.sdLindataAccess m d (some w)) s fun t =>
          t.lin k = linStored k w ∧ (∀ j, j ≠ k → t.lin j = s.lin j) ∧ t.get (SD_LINADDR.ADDR d) = (k + 1) % 528
            ∧ t.reply m = .done
            ∧ (linStored k w = w → Frame (accessParts ++ [.afe, .reg .SD_LINADDR]) s t)
            ∧ (linStored k w ≠ w → t.on GCTL_CLAMPADDR.VALID = true ∧ t.evPending 118 = true
                ∧ Frame (accessParts ++ clampParts ++ [.afe, .reg .SD_LINADDR]) s t)) ∧
      (∀ w, s.mayWrite m (SD_LINDATA d) → linRefused k w = true → Does (.sdLindataAccess m d (some w)) s fun t =>
        t.reply m = .error .refused ∧ Frame errorParts s t))

/-- The device safe state is entered for a cause of R291, and the trio is held, R292. -/
def safeEntered (cause : Nat) (t : State) : Prop :=
  t.trioState = 4 ∧ t.get TRIO_STAT.SAFECAUSE = cause ∧ t.trio.safe = true ∧ t.trio.phase = 0
    ∧ t.trio.wake = false

/-- What recording a mismatch and entering RESYNC, DUPLEX or the device safe state can change. -/
def mismatchParts : List Part := [.logQ, .trio, .reg .MGS_LOGSTAT, .reg .TRIO_MM, .reg .TRIO_STAT]

/-- Of three copies' values, that of copy `k` is the odd one. -/
def oddOne (x0 x1 x2 : BitVec 64) (k : Fin 3) : Prop :=
  match k with
  | 0 => x0 ≠ x1 ∧ x1 = x2
  | 1 => x1 ≠ x0 ∧ x0 = x2
  | 2 => x2 ≠ x0 ∧ x0 = x1

/-- The values of the two copies beside the odd one are the same. -/
def runningAgree (s : State) (x0 x1 x2 : BitVec 64) : Prop :=
  if s.get TRIO_STAT.ODD = 0 then x1 = x2 else if s.get TRIO_STAT.ODD = 1 then x0 = x2 else x0 = x1

/-- TRIO_MM keeps the first mismatch until it is cleared. -/
def mismatchNoted (s : State) (copy kind : Nat) (t : State) : Prop :=
  t.on TRIO_MM.VALID = true ∧ (s.on TRIO_MM.VALID = false → t.get TRIO_MM.COPY = copy ∧ t.get TRIO_MM.KIND = kind)
    ∧ (s.on TRIO_MM.VALID = true → t.on TRIO_MM.MORE = true)

/-- What a mismatch of copy `k` alone does in TRIPLE, RESYNC, DUPLEX and HALTED, R288. -/
def copyFails (s : State) (k : Fin 3) (kind : Nat) (t : State) : Prop :=
  (s.trioState = 0 → mismatchNoted s k kind t
    ∧ (s.recentResyncs.length < s.get TRIO_CFG.RSLIM →
        t.trioState = 1 ∧ t.get TRIO_STAT.ODD = k ∧ t.trio.phase = 1 ∧ t.trio.begins = s.recentResyncs ++ [s.elapsed])
    ∧ (s.get TRIO_CFG.RSLIM ≤ s.recentResyncs.length →
        (s.on TRIO_CFG.PERMDUP = true → t.trioState = 2 ∧ t.get TRIO_STAT.ODD = k ∧ t.on TRIO_STAT.FENCED = true)
          ∧ (s.on TRIO_CFG.PERMDUP = false → safeEntered 4 t))) ∧
  (s.trioState = 1 → (s.get TRIO_STAT.ODD = k → t.trioState = 1 ∧ t.trio = s.trio)
    ∧ (s.get TRIO_STAT.ODD ≠ k → mismatchNoted s k kind t ∧ safeEntered 1 t)) ∧
  (s.trioState = 2 → mismatchNoted s k kind t ∧ safeEntered 6 t) ∧
  (s.trioState = 3 → mismatchNoted s k kind t ∧ t.trioState = 3 ∧ t.trio = s.trio)

/-- SIGNATURE_WINDOW_END, QUIET_STATE_SCRUB, COMPARATOR_SELF_TEST and COMPARATOR_FAULT complete. The signatures are the CRC of R284 over
what the copies did in the window, the hashes the same CRC over the registers and tags of the copies. The bytes the CRC takes are the
model's choice (log entry 65). -/
def Obligations.ChecksComplete : Prop :=
  ∀ s : State, s.trioClock = true →
    let pairParts2 : List Part := .free :: mismatchParts
    (∀ (x0 x1 x2 : List CopyAct) n0 n1 n2, (∀ x ∈ s.staged, x.1 ≠ TRIO_CFG) →
      let c : Instr := .signatureWindowEnd x0 x1 x2 n0 n1 n2
      let (g0, g1, g2) := (signature x0, signature x1, signature x2)
      let counted (t : State) : Prop := t.get TRIO_INDIS.COPY0 = min TRIO_INDIS.COPY0.max (s.get TRIO_INDIS.COPY0 + n0)
        ∧ t.get TRIO_INDIS.COPY1 = min TRIO_INDIS.COPY1.max (s.get TRIO_INDIS.COPY1 + n1)
        ∧ t.get TRIO_INDIS.COPY2 = min TRIO_INDIS.COPY2.max (s.get TRIO_INDIS.COPY2 + n2)
      -- the copies that run have done what the window held
      let acted (t : State) : Prop := ∀ k : Fin 3, t.trio.copy k =
        if s.runsCopy k then ([x0, x1, x2].getD k []).foldl Copy.act (s.trio.copy k) else s.trio.copy k
      (s.trioState = 0 → Does c s fun t => counted t ∧ acted t
        ∧ (g0 = g1 → g1 = g2 → Frame [.trio, .reg .TRIO_INDIS] s t)
        ∧ (∀ k, oddOne g0 g1 g2 k → copyFails s k 1 t)
        ∧ (g0 ≠ g1 → g1 ≠ g2 → g0 ≠ g2 → safeEntered 2 t) ∧ Frame (.reg .TRIO_INDIS :: mismatchParts) s t) ∧
      (s.trioState = 1 ∨ s.trioState = 2 → Does c s fun t => counted t ∧ acted t
        ∧ (runningAgree s g0 g1 g2 → Frame [.trio, .reg .TRIO_INDIS] s t)
        ∧ (¬ runningAgree s g0 g1 g2 → t.on TRIO_MM.VALID = true ∧ safeEntered (if s.trioState = 1 then 1 else 6) t)
        ∧ Frame (.reg .TRIO_INDIS :: pairParts2) s t) ∧
      (2 < s.trioState → Does c s fun t => t = s)) ∧
    (∀ x0 x1 x2 : List Upset, s.net.rxHeld = [] →
      let c : Instr := .quietStateScrub x0 x1 x2
      -- the copies as the physical events have left them
      let u := upsetCopies x0 x1 x2 s
      let (h0, h1, h2) := u.hashes
      let clean : Trio := { u.trio with scrub := false, wake := false }
      let found (t : State) : Prop :=
        t.evPending 122 = true ∧ t.get TRIO_CNT.SCRUBMM = min TRIO_CNT.SCRUBMM.max (s.get TRIO_CNT.SCRUBMM + 1)
      (s.trioState = 0 → Does c s fun t => t.trio.scrub = false
        ∧ (h0 = h1 → h1 = h2 → t.trio = clean ∧ Frame [.trio] s t)
        ∧ (∀ k, oddOne h0 h1 h2 k → found t ∧ copyFails s k 2 t)
        ∧ (h0 ≠ h1 → h1 ≠ h2 → h0 ≠ h2 → safeEntered 2 t) ∧ Frame (.reg .TRIO_CNT :: eventParts ++ mismatchParts) s t) ∧
      (s.trioState = 2 → Does c s fun t => t.trio.scrub = false
        ∧ (runningAgree s h0 h1 h2 → t.trio = clean ∧ Frame [.trio] s t)
        ∧ (¬ runningAgree s h0 h1 h2 → found t ∧ t.on TRIO_MM.VALID = true ∧ safeEntered 6 t)
        ∧ Frame (.reg .TRIO_CNT :: eventParts ++ pairParts2) s t) ∧
      (s.trioState = 1 ∨ 2 < s.trioState → Does c s fun t => t.trio = { u.trio with wake := false } ∧ Frame [.trio] s t)) ∧
    (∀ h0 h1 : Option (Fin 3), s.trioState < 3 → s.trio.nextPat < 192 →
      let right : Prop := ∃ k : Fin 3, h0 = some k ∧ h1 = some k ∧ k.val = s.testPattern / 64
      Does (.comparatorSelfTest h0 h1) s fun t =>
        t.get TRIO_STEST.PATTERN = s.testPattern ∧ t.trio.nextPat = (s.testPattern + 1) % 192
          ∧ (right → t.get TRIO_STEST.TESTS = (s.get TRIO_STEST.TESTS + 1) % (TRIO_STEST.TESTS.max + 1)
              ∧ Frame [.trio, .reg .TRIO_STEST] s t)
          ∧ (¬ right → safeEntered 3 t ∧ t.evPending 121 = true)
          ∧ Frame (.trio :: .reg .TRIO_STEST :: .reg .TRIO_STAT :: eventParts) s t) ∧
    (s.trioState < 4 → Does .comparatorFault s fun t =>
      safeEntered 3 t ∧ t.evPending 121 = true ∧ Frame (.trio :: .reg .TRIO_STAT :: eventParts) s t)

/-- DELAY_PARITY_ERROR, CACHE_PARITY_ERROR, SRAM_DOUBLE_BIT_ERROR, SRAM_SCRUB and VOTER_DISAGREEMENT complete. -/
def Obligations.CopyErrorsComplete : Prop :=
  ∀ s : State, s.trioClock = true →
    (∀ k : Fin 3, s.trioState < 4 →
      Does (.delayParityError k) s (fun t =>
        copyFails s k 3 t ∧ t.get TRIO_CNT.DPAR = min TRIO_CNT.DPAR.max (s.get TRIO_CNT.DPAR + 1)
          ∧ Frame (.reg .TRIO_CNT :: mismatchParts) s t) ∧
      Does (.cacheParityError k) s (fun t => copyFails s k 4 t ∧ Frame mismatchParts s t)) ∧
    (s.trioState < 4 → Does .sramDoubleBitError s fun t =>
      safeEntered 7 t ∧ Frame [.logQ, .trio, .reg .MGS_LOGSTAT, .reg .TRIO_STAT] s t) ∧
    (∀ n, Does (.sramScrub n) s fun t =>
      t.get TRIO_SRAM.CORR = min TRIO_SRAM.CORR.max (s.get TRIO_SRAM.CORR + n) ∧ Frame [.reg .TRIO_SRAM] s t) ∧
    (s.trioState = 1 ∨ s.trioState = 2 → Does .voterDisagreement s fun t =>
      safeEntered (if s.trioState = 1 then 1 else 6) t ∧ t.on TRIO_MM.VALID = true
        ∧ (s.on TRIO_MM.VALID = false → t.get TRIO_MM.KIND = 5) ∧ Frame (.free :: mismatchParts) s t)

/-- The commands of a resynchronisation complete: the odd copy's caches are emptied, the pair runs to a boundary, and the odd copy takes
the pair's registers, all caches empty. -/
def Obligations.ResyncCompletes : Prop :=
  ∀ s : State, s.trioState = 1 →
    (∀ odd : Fin 3, s.trioClock = true → s.get TRIO_STAT.ODD = odd →
      (s.trio.phase = 1 → Does .resyncHoldDone s fun t =>
        t.trio = ({ s.trio with phase := 2 }).setCopy odd { s.trio.copy odd with tags := [] } ∧ Frame [.trio] s t) ∧
      (s.trio.phase = 2 → Does .resyncBoundary s fun t => t.trio = { s.trio with phase := 3 } ∧ Frame [.trio] s t) ∧
      (s.trio.phase = 3 → Does .resyncComplete s fun t =>
        t.trioState = 0 ∧ t.get TRIO_STAT.ODD = 3 ∧ t.get TRIO_CNT.RESYNCS = min TRIO_CNT.RESYNCS.max (s.get TRIO_CNT.RESYNCS + 1)
          ∧ t.evPending 120 = true
          ∧ t.trio = { s.trio with
              phase := 0, scrub := true, copy0 := t.trio.copy0, copy1 := t.trio.copy1, copy2 := t.trio.copy2 }
          ∧ (∀ k : Fin 3, t.trio.copy k = { regs := (s.trio.copy (if k = odd then (if odd = 0 then 1 else 0) else k)).regs })
          ∧ Frame (.trio :: .reg .TRIO_CNT :: .reg .TRIO_STAT :: eventParts) s t)) ∧
    Does .resyncTimeout s fun t => safeEntered 5 t ∧ Frame [.logQ, .trio, .reg .MGS_LOGSTAT, .reg .TRIO_STAT] s t

/-- The debug port's commands complete in an authenticated debug session, R294 and R295: a register write reaches copy 0 at once and the
others by the replay at the resume. That a write of the shared SRAM leaves the tags is the model's choice (log entry 65). -/
def Obligations.DebugCompletes : Prop :=
  ∀ s : State, s.fabricOn = true → s.mgs.dbgAuth = true →
    (s.trioClock = true → s.trioState = 0 ∨ s.trioState = 2 → Does .debugHalt s fun t =>
      t.trioState = 3 ∧ t.trio = { s.trio with halted := s.trioState } ∧ Frame [.trio, .reg .TRIO_STAT] s t) ∧
    (s.trioState = 3 →
      (∀ step (x0 x1 x2 : List Upset), s.net.rxHeld = [] →
        let c : Instr := .debugResume step x0 x1 x2
        -- the copies after the replay and the physical events
        let u := upsetCopies x0 x1 x2 (replayCopies s)
        let (h0, h1, h2) := u.hashes
        (∀ k : Fin 3, u.trio.copy k = ([x0, x1, x2].getD k []).foldl Copy.upset
          (if k ≠ 0 ∧ s.runsCopy k then s.trio.replay.foldl (fun c x => c.setReg x.1 x.2) (s.trio.copy k) else s.trio.copy k)) ∧
        ((s.trio.halted = 0 ∧ h0 = h1 ∧ h1 = h2) ∨ (s.trio.halted = 2 ∧ runningAgree s h0 h1 h2) → Does c s fun t =>
          t.trioState = (if step then 3 else s.trio.halted) ∧ t.trio = { u.trio with replay := [], dbgErr := false, wake := false }
            ∧ t.mgs = { s.mgs with wdStart := s.ticks } ∧ Frame [.trio, .mgs, .reg .TRIO_STAT] s t) ∧
        (∀ k, s.trio.halted = 0 → oddOne h0 h1 h2 k → s.recentResyncs.length < s.get TRIO_CFG.RSLIM → Does c s fun t =>
          t.trioState = 1 ∧ t.get TRIO_STAT.ODD = k ∧ t.trio.phase = 1 ∧ t.trio.replay = [] ∧ t.evPending 122 = true
            ∧ Frame (.mgs :: .reg .TRIO_CNT :: eventParts ++ mismatchParts) s t) ∧
        (s.trio.halted = 0 → h0 ≠ h1 → h1 ≠ h2 → h0 ≠ h2 → Does c s fun t =>
          safeEntered 2 t ∧ Frame (.mgs :: mismatchParts) s t) ∧
        (s.trio.halted = 2 → ¬ runningAgree s h0 h1 h2 → Does c s fun t =>
          safeEntered 6 t ∧ t.evPending 122 = true ∧ Frame (.free :: .mgs :: .reg .TRIO_CNT :: eventParts ++ mismatchParts) s t)) ∧
      (∀ (r : BitVec 16) w, s.trio.replay.length < 64 → Does (.debugRegisterWrite r w) s fun t =>
        t.trio = { s.trio with
          replay := s.trio.replay ++ [(r.toNat, w)], dbgErr := false, copy0 := s.trio.copy0.setReg r.toNat w } ∧ Frame [.trio] s t) ∧
      (∀ (r : BitVec 16) w, 64 ≤ s.trio.replay.length → Does (.debugRegisterWrite r w) s fun t =>
        t.trio = { s.trio with dbgErr := true } ∧ Frame [.trio] s t) ∧
      (∀ (k : Fin 262144) w, Does (.debugMemoryWrite k w) s fun t =>
        t.trio.dbgErr = false ∧ (∀ j : Fin 262144,
          Sparse.get (fun _ => 0) t.trio.sram j = if j = k then w else Sparse.get (fun _ => 0) s.trio.sram j)
          ∧ Frame [.trio] s t))

/-- The commands of event sources, of their routes and of HALT_N complete. -/
def Obligations.EventsComplete : Prop :=
  ∀ s : State,
    (∀ (m : Master) (k : Fin 4) w,
      (s.mayWrite m (EV_PEND k) → Does (.evPendClear m k w) s fun t =>
        t.rd (EV_PEND k) = s.rd (EV_PEND k) &&& ~~~ w ∧ t.reply m = .done ∧ Frame (accessParts ++ [.reg .EV_PEND]) s t) ∧
      (s.mayWrite m (EV_EN k) → Does (.evEnWrite m k w) s fun t =>
        t.rd (EV_EN k) = w ∧ t.reply m = .done ∧ Frame (accessParts ++ [.reg .EV_EN]) s t)) ∧
    (∀ m, s.mayWrite m EV_DOORBELL → Does (.doorbell m) s fun t =>
      t.evPending 127 = true ∧ t.reply m = .done ∧ Frame (accessParts ++ eventParts) s t) ∧
    (∀ o, s.fabricOn = true → s.trio.wake = false → s.trioState = 0 ∨ s.trioState = 2 → s.firstOcc s.trioQ = some o → Does .trioEventDelivery s fun t =>
      t.trioQ = removeOcc o s.trioQ
        ∧ (∀ n : Fin 64, s.obj 0x2016 (n + 1) = BitVec.ofNat 32 o.src → natBit t.net.tpdoDue n = true)
        ∧ Frame [.trioQ, .net] s t) ∧
    (∀ o q, s.stackOn = true → s.emcyQ = o :: q → Does .emcyQueue s fun t =>
      t.emcyQ = q ∧ (o.src ≠ 104 → o.src ≠ 105 → t.net.errHist.head? = some (emcyCode o).1)
        ∧ (o.src = 104 → s.canState 0 = 2 → (t.can 0).boff = some o.word) ∧ Frame [.emcyQ, .net, .reg .NET_CNT] s t) ∧
    (∀ x q, s.logQ = x :: q → Does .logEntry s fun t =>
      t.mgs.log = (if 2048 ≤ s.mgs.log.length then s.mgs.log.drop 1 else s.mgs.log)
          ++ [⟨s.mgs.nextSeq, x.time, x.code, 0, s.power.rtcSet, x.d0, x.d1, x.d2⟩]
        ∧ t.mgs.nextSeq = s.mgs.nextSeq + 1 ∧ q <+: t.logQ
        ∧ Frame (eventParts ++ [.mgs, .reg .MGS_LOGRPTR]) s t) ∧
    (∀ (src : Fin 128) t0 n, Sparse.get (fun _ => none) s.logWin src = some (t0, n) → (∃ x ∈ s.logQ, x.code = src.val) →
      Does (.logRepeatRewrite src) s fun t => t = s) ∧
    (∀ (src : Fin 128) t0 n, Sparse.get (fun _ => none) s.logWin src = some (t0, n) → (∀ x ∈ s.logQ, x.code ≠ src.val) →
      Does (.logRepeatRewrite src) s fun t =>
      Sparse.get (fun _ => none) t.logWin src = none
        ∧ t.mgs = { s.mgs with log := if n = 0 then s.mgs.log else setRepeat src n s.mgs.log } ∧ Frame [.logWin, .mgs] s t) ∧
    (s.fabricOn = true →
      Does .haltNLow s (fun t =>
        t.on EV_PIN.HALTN = false ∧ t.on EV_PIN.HALTSEEN = true
          ∧ t.power = { s.power with haltDue := true }
          -- what the next profile tick then asks of the axes, once the words that waited for it have landed
          ∧ (∀ (u : State) (a : Fin 128), u.power.haltDue = true → ((tickHaltN u).mo a).reqs
              = (u.mo a).reqs ++ if u.on (AX_HALTCFG.PIN a) && (u.enabledOrPend a || (u.ownerEntry a).isSome) then [.halt] else [])
          ∧ Frame [.power, .reg .EV_PIN] s t) ∧
      Does .haltNHigh s fun t => t.on EV_PIN.HALTN = true ∧ Frame [.reg .EV_PIN] s t)


/-- The device is in NAP, where a cause that D4 finds waits for the wake, R308. -/
def napping (s : State) : Bool := decide (s.runState = 2) && !s.power.inReset

/-- A D4 cause is noted: it pends, or waits for the wake in NAP. -/
def noted (src idx : Nat) (s t : State) : Prop :=
  if napping s then t.power = { s.power with napPend := s.power.napPend ++ [(src, 0, idx)] } else t.evPending src = true

/-- What noting a D4 cause can change. -/
def d4Parts (s : State) : List Part := if napping s then [.power] else eventParts

/-- Controller `k` takes a frame to send, and its transmit queue has room, R313. -/
def sendRoom (s : State) (k : Nat) : Prop := s.canSends k = true ∧ (s.can k).queue.length < 32

/-- A frame joined the transmit queue of controller `k`. -/
def queued (k : Nat) (x : TxFrame) (s t : State) : Prop := (t.can k).queue = (s.can k).queue ++ [x]

/-- Controller `k` is given a frame that replaces none: if it sends (`able`), it takes it, or counts it dropped where 32 wait already,
R313; that a frame which finds the queue full is the one dropped is the model's choice (log entry 41). -/
def sendsIf (able : Bool) (k : Nat) (x : TxFrame) (s t : State) : Prop :=
  (able = true → (s.can k).queue.length < 32 → queued k x s t ∧ t.rd (NET_CNT k) = s.rd (NET_CNT k)) ∧
    (able = true → 32 ≤ (s.can k).queue.length →
      (t.can k).queue = (s.can k).queue ∧ t.get (NET_CNT.TXDROP k) = min (NET_CNT.TXDROP k).max (s.get (NET_CNT.TXDROP k) + 1)) ∧
    (able = false → (t.can k).queue = (s.can k).queue ∧ t.rd (NET_CNT k) = s.rd (NET_CNT k))

/-- Controller `k`, as it stands, is given a frame. -/
def sends (k : Nat) (x : TxFrame) (s t : State) : Prop := sendsIf (s.canSends k) k x s t

/-- What a malformed frame of no known node leaves: counted, and noted for a second, R330. -/
def malformedNoted (s t : State) : Prop :=
  let l := (s.net.mal.filter fun x => decide (s.elapsed < x.2 + 100000)) ++ [(none, s.elapsed)]
  let n := (l.filter fun x => x.1 = none).length
  let most := 4 * s.get NET_GUARD.MALLIM
  t.get NET_MAL.MALCNT = min NET_MAL.MALCNT.max (s.get NET_MAL.MALCNT + 1)
    ∧ t.net = { s.net with mal := l, malOver := decide (most < n) }
    ∧ (most < n → n ≤ most + 1 ∨ s.net.malOver = false → t.evPending 110 = true)
    ∧ (n ≤ most → t.rd (EV_PEND 3) = s.rd (EV_PEND 3))
    ∧ Frame (wakeParts ++ eventParts ++ [.net, .reg .NET_MAL]) s t

/-- The NMT state a communication error leaves, R318. -/
def commNmt (s : State) : Nat :=
  if s.obj 0x1029 1 = 0 then (if s.nmt = 2 then 1 else s.nmt) else if s.obj 0x1029 1 = 2 ∧ s.nmt ≠ 0 then 3 else s.nmt

/-- NMT commands complete: those that set the state, reset node, its deferred reset, and reset communication. Of the model's choices,
the frame dropped from a full queue is log entry 41, the earlier deadline that a second reset node keeps is log entry 37, and the
objects that reset communication reloads (0x1000 to 0x1FFF) are log entry 63. -/
def Obligations.NmtCompletes : Prop :=
  ∀ s : State, s.stackOn = true →
    (∀ (k : Fin 2) (node : Fin 128), s.hears k = true → node.val = 0 ∨ node.val = s.node → s.nmt ≠ 0 →
      Does (.nmtStart k node) s (fun t => t.nmt = 2 ∧ Frame (wakeParts ++ [.reg .NET_NODE]) s t) ∧
      Does (.nmtStop k node) s (fun t => t.nmt = 3 ∧ Frame (wakeParts ++ [.reg .NET_NODE]) s t) ∧
      Does (.nmtPreOperational k node) s (fun t => t.nmt = 1 ∧ Frame (wakeParts ++ [.reg .NET_NODE]) s t) ∧
      (s.on NET_NODE.RNACT = true → Does (.nmtResetNode k node) s fun t =>
        t.get NET_NODE.RNIGN = min 255 (s.get NET_NODE.RNIGN + 1) ∧ Frame (wakeParts ++ [.reg .NET_NODE]) s t) ∧
      (s.on NET_NODE.RNACT = false → Does (.nmtResetNode k node) s fun t =>
        t.net = { s.net with reset := some (s.net.reset.getD s.elapsed) } ∧ (∀ a : Fin 128, (t.mo a).orderQ = ((s.mo a).orderQ || s.hasWork a))
          ∧ Frame (wakeParts ++ [.axes, .net]) s t)) ∧
    (∀ (k : Fin 2) (node : Fin 128), s.hears k = true → (node.val ≠ 0 ∧ node.val ≠ s.node) ∨ s.nmt = 0 →
      Does (.nmtStart k node) s (Frame wakeParts s) ∧ Does (.nmtStop k node) s (Frame wakeParts s) ∧
        Does (.nmtPreOperational k node) s (Frame wakeParts s) ∧ Does (.nmtResetNode k node) s (Frame wakeParts s)) ∧
    (∀ t0, s.net.reset = some t0 → s.elapsed < t0 + 100000 → (∃ a : Fin 128, s.hasWork a = true) →
      Does .nmtResetDeferred s fun t => t = s) ∧
    (∀ t0, s.net.reset = some t0 → (t0 + 100000 ≤ s.elapsed ∨ ∀ a : Fin 128, s.hasWork a = false) →
      Does .nmtResetDeferred s (hasReset 4 s)) ∧
    (∀ (k : Fin 2) (node : Fin 128), s.hears k = true → node.val = 0 ∨ node.val = s.node → s.power.strap < 128 →
      let id := if s.getLatest NET_NODE.PEND = 0 then s.power.strap else s.getLatest NET_NODE.PEND
      Does (.nmtResetCommunication k node) s fun t =>
        t.node = id ∧ t.net.objs = reloadObjs (match s.nvm.settings with | some x => x.objs | none => []) s.net.objs
          ∧ t.nmt = (if id = 0 then 0 else if (t.obj 0x1F80 0).getLsbD 2 then 2 else 1)
          -- the boot-up message goes out on each controller that sends under the new node-ID; with none (SRC 2) there is no message
          ∧ t.get NET_NODE.SRC = (if s.getLatest NET_NODE.PEND ≠ 0 then 0 else if s.power.strap ≠ 0 then 1 else 2)
          ∧ (id ≠ 0 → ∀ c : Fin 2, sendsIf (t.canSends c) c ⟨0x700 + id, .heartbeat 0⟩ s t)
          ∧ (id = 0 → ∀ c : Fin 2, (t.can c).queue = (s.can c).queue ∧ t.rd (NET_CNT c) = s.rd (NET_CNT c))
          ∧ t.net.ctxs = [] ∧ t.net.hbMon0 = 0 ∧ t.net.hbMon1 = 0 ∧ t.get NET_SESS.INUSE = 0
          ∧ Frame (wakeParts ++ [.net, .reg .MGS_SECBUF, .reg .NET_CNT, .reg .NET_NODE, .reg .NET_SESS]) s t) ∧
    (∀ (k : Fin 2) (node : Fin 128), s.hears k = true → node.val ≠ 0 → node.val ≠ s.node →
      Does (.nmtResetCommunication k node) s (Frame wakeParts s))

/-- HEARTBEAT_PRODUCE, HEARTBEAT_RECEIVED, HEARTBEAT_LOSS, EMCY_SEND, SYNC and TIME complete; SYNC whether or not the trio runs, R322.
That the frame which finds a transmit queue full is the one dropped is the model's choice (log entry 41). -/
def Obligations.MessagesComplete : Prop :=
  (∀ s : State, s.stackOn = true → s.nmt ≠ 0 →
    (s.obj 0x1017 0 ≠ 0 → Does .heartbeatProduce s fun t =>
      (∀ k : Fin 2, sends k ⟨0x700 + s.node, .heartbeat (if s.nmt = 1 then 0x7F else if s.nmt = 2 then 0x05 else 0x04)⟩ s t)
        ∧ Frame [.net, .reg .NET_CNT] s t) ∧
    (s.obj 0x1017 0 = 0 → Does .heartbeatProduce s fun t => t = s) ∧
    (∀ (k : Fin 2) (node : Fin 128), s.hears k = true → Does (.heartbeatReceived k node) s fun t =>
      (∀ n : Fin 32, (s.hbEntry n).1 = node → node.val ≠ 0 → (s.hbEntry n).2 ≠ 0 →
        t.bitAt NET_HB n = false ∧ natBit (if k.val = 0 then t.net.hbMon0 else t.net.hbMon1) n = true)
        ∧ (∀ n : Fin 32, (s.hbEntry n).1 ≠ node → t.bitAt NET_HB n = s.bitAt NET_HB n)
        ∧ Frame (wakeParts ++ [.net, .reg .NET_HB]) s t) ∧
    (∀ n : Fin 32, (s.hbEntry n).1 = 0 ∨ (s.hbEntry n).2 = 0 ∨ (natBit s.net.hbMon0 n = false ∧ natBit s.net.hbMon1 n = false) →
      Does (.heartbeatLoss n) s fun t => t = s) ∧
    (∀ n : Fin 32, (s.hbEntry n).1 ≠ 0 → (s.hbEntry n).2 ≠ 0 → natBit s.net.hbMon0 n = true ∨ natBit s.net.hbMon1 n = true →
      Does (.heartbeatLoss n) s fun t =>
      t.bitAt NET_HB n = true ∧ t.net.hbDue = s.net.hbDue ++ [n.val] ∧ natBit t.net.hbMon0 n = false ∧ natBit t.net.hbMon1 n = false
        ∧ t.nmt = commNmt s
        ∧ Frame [.net, .reg .NET_HB, .reg .NET_NODE] s t) ∧
    (∀ (k : Fin 2) code reg w rest, (s.can k).emcys = .emcy code reg w :: rest →
      (s.nmt = 1 ∨ s.nmt = 2 → (∀ t0, (s.can k).emcyAt = some t0 → t0 + 10 * (s.obj 0x1015 0).toNat ≤ s.ticks) →
        Does (.emcySend k) s fun t =>
          sends k ⟨(s.obj 0x1014 0).toNat % 2048, .emcy code reg w⟩ s t ∧ (t.can k).emcys = rest ∧ (t.can k).emcyAt = some s.ticks
            ∧ Frame [.net, .reg .NET_CNT] s t) ∧
      (∀ t0, (s.can k).emcyAt = some t0 → s.ticks < t0 + 10 * (s.obj 0x1015 0).toNat → Does (.emcySend k) s fun t => t = s)) ∧
    (∀ (k : Fin 2) (days : BitVec 16) (ms : BitVec 28), s.hears k = true →
      (s.on NET_NODE.SETRTC = true → Does (.canTime k (some (days, ms))) s fun t =>
        t.power = { s.power with rtcStage := some ((days.toNat * 86400000 + ms.toNat) * 4096 / 125 % 2 ^ 48) }
          ∧ Frame (wakeParts ++ [.power]) s t) ∧
      (s.on NET_NODE.SETRTC = false → Does (.canTime k (some (days, ms))) s (Frame wakeParts s)) ∧
      Does (.canTime k none) s (malformedNoted s))) ∧
    (∀ (s : State) (k : Fin 2) (len : Fin 65) (counter : BitVec 8), s.hears k = true → s.nmt ≠ 0 →
      (s.get NET_NODE.SYNCBUS ≠ k → Does (.canSync k len counter) s (Frame wakeParts s)) ∧
      (s.get NET_NODE.SYNCBUS = k → 1 < len.val → Does (.canSync k len counter) s (malformedNoted s)) ∧
      (s.get NET_NODE.SYNCBUS = k → len.val ≤ 1 → Does (.canSync k len counter) s fun t =>
        ∃ u, (∀ a : Fin 128, s.on (AX_STAT.ARMED a) = true → s.get (AX_STARTCFG.SRC a) = 2 → (u.mo a).syncHit = true)
          ∧ (∀ (a : Fin 128) j, (s.mo a).run = .segWait j true → s.get (AX_STARTCFG.SEGSYNC a) = 2 → (u.mo a).waitHit = true)
          ∧ (s.runWaits = true → s.get PL_CFG.RUNSRC = 2 → u.pl = { s.pl with sync := true })
          ∧ u.net = s.net ∧ Frame (wakeParts ++ [.axes, .pl]) s u
          ∧ t = forEach (List.range 64) (syncTpdo (if len.val = 0 ∨ (s.obj 0x1019 0).toNat < 2 then 0 else counter.toNat)) (writeHeld u)) ∧
      (s.get NET_NODE.SYNCBUS = k → len.val ≤ 1 → s.net.held = [] ∨ s.nmt ≠ 2 → Does (.canSync k len counter) s fun t =>
        (∀ a : Fin 128, s.on (AX_STAT.ARMED a) = true → s.get (AX_STARTCFG.SRC a) = 2 → (t.mo a).syncHit = true)
          ∧ (s.runWaits = true → s.get PL_CFG.RUNSRC = 2 → t.pl = { s.pl with sync := true }) ∧ t.net.held = []
          ∧ (∀ n : Fin 64, s.tpdoOn n = true → s.tpdoType n = 0 → natBit s.net.tpdoDue n = true → n.val ∈ t.net.tpdoSync)
          ∧ Frame (wakeParts ++ [.axes, .pl, .net]) s t))

/-- What the reads of a TPDO's mapped objects can change. -/
def tpdoParts : List Part :=
  [.regs, .staged, .replies, .hostPair, .trioPair, .mgsPair, .canPair, .free, .trioQ, .emcyQ, .logQ, .logWin, .legs, .coils, .coaches,
    .axes, .pl, .power, .sds, .afe, .trio, .mgs, .net, .spm]

/-- RPDO, RPDO_DEADLINE, TPDO_SEND and TPDO_TIMER complete: an RPDO of a synchronous type is held for the next SYNC and one of an
event-driven type written at once, a long one queues EMCY 0x8220, a short one queues 0x8210 and writes nothing, and a TPDO that is
due takes the place of its earlier instance, or joins the queue, of each of its controllers. -/
def Obligations.PdosComplete : Prop :=
  ∀ (s : State) (k : Fin 2) (n : Fin 64), s.nmt = 2 →
    (∀ bytes, s.hears k = true → s.pdoValid 0x1400 n = true → s.pdoOn true n k = true →
      (mapBytes (s.mapping 0x1600 n) ≤ bytes.length →
        ((s.obj (0x1400 + n) 2).toNat < 254 → Does (.rpdo k n bytes) s fun t =>
          t.net.rpdoSeen = natPutBit s.net.rpdoSeen n true
            ∧ t.net.held = (s.net.held.filter fun p => p.1 ≠ 64 * k.val + n.val) ++ [(64 * k.val + n.val, bytes.map (·.toNat))]
            ∧ (mapBytes (s.mapping 0x1600 n) < bytes.length → t.net.errHist.head? = some 0x8220)
            ∧ (bytes.length = mapBytes (s.mapping 0x1600 n) → Frame (wakeParts ++ [.net]) s t)
            ∧ Frame (wakeParts ++ [.net, .free, .reg .NET_CNT]) s t) ∧
        (254 ≤ (s.obj (0x1400 + n) 2).toNat → Does (.rpdo k n bytes) s fun t =>
          ∃ u, u.net.rpdoSeen = natPutBit s.net.rpdoSeen n true ∧ u.net.held = s.net.held
            ∧ (mapBytes (s.mapping 0x1600 n) < bytes.length → u.net.errHist.head? = some 0x8220)
            ∧ Frame (wakeParts ++ [.net, .free, .reg .NET_CNT]) s u ∧ t = writeRpdo k n (bytes.map (·.toNat)) u)) ∧
      (bytes.length < mapBytes (s.mapping 0x1600 n) → Does (.rpdo k n bytes) s fun t =>
        t.net.errHist.head? = some 0x8210 ∧ t.net.held = s.net.held ∧ Frame (wakeParts ++ [.net, .free, .reg .NET_CNT]) s t)) ∧
    (∀ bytes, s.hears k = true → s.pdoValid 0x1400 n = false ∨ s.pdoOn true n k = false →
      Does (.rpdo k n bytes) s (Frame wakeParts s)) ∧
    (s.stackOn = true → s.pdoValid 0x1400 n = true → s.obj (0x1400 + n) 5 ≠ 0 → natBit s.net.rpdoSeen n = true → Does (.rpdoDeadline n) s fun t =>
      t.net.errHist.head? = some 0x8250 ∧ natBit t.net.rpdoSeen n = false ∧ Frame [.net, .free, .reg .NET_CNT] s t) ∧
    (let sent (t : State) : Prop :=
        let frame (b : List Nat) : TxFrame := ⟨(s.obj (0x1800 + n) 1).toNat % 2048, .tpdo n b⟩
        Sparse.get (fun _ => none) t.net.tpdoLast n = some s.ticks ∧ natBit t.net.tpdoDue n = false ∧ Frame tpdoParts s t
          ∧ (s.bad = [] → s.canSends k = true → s.pdoOn false n k = true →
              ((∀ x ∈ (s.can k).queue, x.isTpdo n = false) → (s.can k).queue.length < 32 → ∃ b, queued k (frame b) s t) ∧
              ((∃ x ∈ (s.can k).queue, x.isTpdo n = true) →
                ∃ b, (t.can k).queue = (s.can k).queue.map fun y => if y.isTpdo n then frame b else y))
          ∧ (s.mapping 0x1A00 n = [] → Frame [.net, .reg .NET_CNT] s t);
      s.tpdoOn n = true → 254 ≤ s.tpdoType n →
        (s.tpdoFree n = true → natBit s.net.tpdoDue n = true → Does (.tpdoSend n) s sent) ∧
        (natBit s.net.tpdoDue n = true → s.tpdoFree n = false → Does (.tpdoSend n) s fun t => t = s) ∧
        (s.obj (0x1800 + n) 5 ≠ 0 → s.tpdoFree n = true → Does (.tpdoTimer n) s sent) ∧
        (s.obj (0x1800 + n) 5 ≠ 0 → s.tpdoFree n = false → Does (.tpdoTimer n) s fun t =>
          t.net = { s.net with tpdoDue := natPutBit s.net.tpdoDue n true } ∧ Frame [.net] s t))

/-- USDO requests complete: an upload of 0x3300:03 or of an object that does not exist, a download to 0x1017 in an authenticated context
and one to any object but 0x3300 in none, the refusals of R328, a block download and a block upload, the abort, the misplaced next
request and the request out of sequence of a transfer, the store and restore objects, and the ends of transfers and contexts. Of the
model's choices, the frame dropped from a full queue is log entry 41, a request without a transfer counted as malformed and the answers
that wait are log entry 46, and the abort codes of a transfer and the block protocol, as CiA 1301 has them, are log entry 66. -/
def Obligations.UsdoCompletes : Prop :=
  ∀ (s : State) (can : Fin 2) (node : Fin 128) (sess : Fin 256), s.stackOn = true →
    let c : Ctx := { can := can, node := node, sess := sess, auth := true };
    let answered (r : UsdoResp) (t : State) : Prop := sends can ⟨0x580 + s.node, .usdo node sess r⟩ s t;
    let netFrame (t : State) : Prop := Frame (wakeParts ++ [.net, .reg .NET_CNT, .reg .NET_SESS]) s t;
    (s.hears can = true → s.nmt = 1 ∨ s.nmt = 2 → node.val ≠ 0 → node.val ≠ s.node → s.net.quar.contains node.val = false →
        s.net.done = [] →
      (s.net.ctxs = [] → 0 < s.get NET_GUARD.PERNODE →
        Does (.usdoRequest can node sess (.upload 0x3300 3)) s (fun t =>
          answered (.data [if s.on MGS_PROV.ERASED then 3 else 0]) t ∧ t.net.ctxs = [] ∧ netFrame t) ∧
        (∀ (idx : BitVec 16) (sub : BitVec 8) e, s.findObj idx.toNat sub.toNat = .error e →
          Does (.usdoRequest can node sess (.upload idx sub)) s fun t => answered (.abort e) t ∧ t.net.ctxs = [] ∧ netFrame t) ∧
        (∀ (idx : BitVec 16) (sub : BitVec 8) b last, idx ≠ 0x3300 → Does (.usdoRequest can node sess (.download idx sub b last)) s fun t =>
          answered (.abort noAuth) t ∧ t.net.ctxs = [] ∧ t.net.objs = s.net.objs ∧ netFrame t)) ∧
      -- the limits of R328: contexts of a node, open contexts and contexts in all
      (s.ctx ⟨can, node, sess⟩ = none → (∀ x ∈ s.net.ctxs, x.wait = .none) → ∀ idx sub,
        let own := (s.net.ctxs.filter fun x => x.node = node.val).length
        let full : Prop := s.net.ctxs.length = 256
          ∨ (224 ≤ (s.net.ctxs.filter fun x => !x.auth).length ∧ ∀ x ∈ s.net.ctxs, x.node = node.val → x.auth = false)
        (s.get NET_GUARD.PERNODE ≤ own → Does (.usdoRequest can node sess (.upload idx sub)) s fun t =>
          answered (.abort 0x05040005) t ∧ t.net.ctxs = s.net.ctxs ∧ t.get NET_SESS.FULL = s.get NET_SESS.FULL
            ∧ Frame (wakeParts ++ [.net, .reg .NET_CNT]) s t) ∧
        (own < s.get NET_GUARD.PERNODE → full → Does (.usdoRequest can node sess (.upload idx sub)) s fun t =>
          answered (.abort 0x05040005) t ∧ t.net.ctxs = s.net.ctxs ∧ t.evPending 108 = true
            ∧ t.get NET_SESS.FULL = min NET_SESS.FULL.max (s.get NET_SESS.FULL + 1)
            ∧ Frame (wakeParts ++ eventParts ++ [.net, .reg .NET_CNT, .reg .NET_SESS]) s t)) ∧
      (∀ x code, s.net.ctxs = [{ c with xfer := x }] → Does (.usdoRequest can node sess (.abort code)) s fun t =>
        t.net.ctxs = [c] ∧ netFrame t) ∧
      (∀ b last, s.net.ctxs = [c] → s.get NET_GUARD.MALLIM ≠ 0 → s.net.mal = [] →
        Does (.usdoRequest can node sess (.segment b last)) s fun t =>
          t.get NET_MAL.MALCNT = min NET_MAL.MALCNT.max (s.get NET_MAL.MALCNT + 1)
            ∧ t.net = { s.net with mal := [(some node.val, s.elapsed)] } ∧ Frame (wakeParts ++ [.net, .reg .NET_MAL]) s t) ∧
      -- a request out of sequence ends its transfer, R329, and counts as malformed, R330
      (∀ x : Xfer, s.net.ctxs = [{ c with xfer := some x }] → s.get NET_GUARD.MALLIM ≠ 0 → s.net.mal = [] →
        Does (.usdoRequest can node sess .outOfSequence) s fun t =>
          answered (.abort (if x.block.isSome then wrongSequence else wrongToggle)) t ∧ t.net.ctxs = [c]
            ∧ t.get NET_MAL.MALCNT = min NET_MAL.MALCNT.max (s.get NET_MAL.MALCNT + 1)
            ∧ t.net.mal = [(some node.val, s.elapsed)]
            ∧ Frame (wakeParts ++ [.net, .reg .NET_CNT, .reg .NET_MAL, .reg .NET_SESS]) s t) ∧
      -- block transfers of 0x1017
      (let run (down : Bool) (d : List Nat) (b : BlockRun) : Xfer := { idx := 0x1017, sub := 0, down := down, data := d, block := some b };
        (s.net.ctxs = [c] → Does (.usdoRequest can node sess (.blockDownload 0x1017 0)) s fun t =>
          answered (.blockReady blockMax) t ∧ t.net.ctxs = [{ c with xfer := some (run true [] ⟨blockMax, 0, false⟩) }] ∧ netFrame t) ∧
        (∀ b0 b1 : BitVec 8, s.net.ctxs = [{ c with xfer := some (run true [] ⟨blockMax, 0, false⟩) }] →
          Does (.usdoRequest can node sess (.blockSegment 1 [b0, b1] true)) s fun t =>
            answered (.blockAck 1 blockMax) t
              ∧ t.net.ctxs = [{ c with xfer := some (run true [b0.toNat, b1.toNat] ⟨blockMax, 0, true⟩) }] ∧ netFrame t) ∧
        (∀ b0 b1 : BitVec 8, s.net.ctxs = [{ c with xfer := some (run true [b0.toNat, b1.toNat] ⟨blockMax, 0, true⟩) }] →
            s.locked = false →
          Does (.usdoRequest can node sess .blockEnd) s fun t =>
            t.obj 0x1017 0 = BitVec.ofNat 32 (b0.toNat + 256 * b1.toNat) ∧ t.net.ctxs = [c] ∧ answered .ok t ∧ netFrame t) ∧
        (∀ size : BitVec 7, size ≠ 0 → s.net.ctxs = [c] → Does (.usdoRequest can node sess (.blockUpload 0x1017 0 size)) s fun t =>
          answered (.blockReady 2) t
            ∧ t.net.ctxs = [{ c with xfer := some (run false (leBytes 2 (s.obj 0x1017 0).toNat) ⟨size.toNat, 0, false⟩) }]
            ∧ netFrame t) ∧
        (∀ (d : List Nat) (size : Nat), size ≠ 0 → d.length ≤ usdoChunk → s.net.ctxs = [{ c with xfer := some (run false d ⟨size, 0, false⟩) }] →
          Does (.usdoRequest can node sess .blockStart) s fun t =>
            answered (.blockSegment 1 d true) t ∧ t.net.ctxs = [{ c with xfer := some (run false d ⟨size, 1, false⟩) }] ∧ netFrame t)) ∧
      (∀ b0 b1 : BitVec 8, s.net.ctxs = [c] → s.locked = false →
        Does (.usdoRequest can node sess (.download 0x1017 0 [b0, b1] true)) s fun t =>
          t.obj 0x1017 0 = BitVec.ofNat 32 (b0.toNat + 256 * b1.toNat) ∧ t.net.ctxs = [c] ∧ answered .ok t
            ∧ Frame (wakeParts ++ [.net, .reg .NET_CNT, .reg .NET_SESS]) s t) ∧
      (∀ w : Word, s.net.ctxs = [c] →
        (w ≠ 0x65766173 → Does (.storeObjectWrite can node sess w) s fun t =>
          answered (.abort noTransfer) t ∧ t.nvm = s.nvm ∧ netFrame t) ∧
        (w ≠ 0x64616F6C → Does (.restoreObjectWrite can node sess w) s fun t =>
          answered (.abort noTransfer) t ∧ t.nvm = s.nvm ∧ netFrame t)) ∧
      (s.net.ctxs = [c] → s.runState = 0 → s.mayGuard .trio GCTL_STORE → s.locked = false → s.nvm.cmd = 0 →
        let begun (k : Nat) (t : State) : Prop :=
          t.nvm = { s.nvm with cmd := k, due := decide (k < 4) } ∧ t.get GCTL_STORESTAT.BUSY = 1
            ∧ t.net = { s.net with ctxs := [{ c with wait := .store }] }
            ∧ Frame [.guards, .replies, .bad, .nvm, .net, .reg .GCTL_STORESTAT] s t;
        ((∀ i : Fin 8, s.on (WAVE_CTL.LOAD i) = false) → Does (.storeObjectWrite can node sess 0x65766173) s (begun 3)) ∧
        Does (.restoreObjectWrite can node sess 0x64616F6C) s (begun 4))) ∧
    (∀ x, s.ctx ⟨can, node, sess⟩ = some x → x.xfer.isSome = true → x.busy = false → Does (.usdoTimeout can node sess) s fun t =>
      (∀ y ∈ t.net.ctxs, CtxKey.names ⟨can, node, sess⟩ y = true → y.xfer = none)
        ∧ answered (.abort 0x05040000) t
        ∧ Frame [.mgs, .net, .reg .MGS_SECBUF, .reg .NET_CNT, .reg .NET_SESS] s t) ∧
    (s.ctxAuth ⟨can, node, sess⟩ = true → Does (.contextIdleTimeout can node sess) s fun t =>
      t.net.ctxs = s.net.ctxs.filter (fun y => !CtxKey.names ⟨can, node, sess⟩ y)
        ∧ t.get NET_SESS.INUSE = t.net.ctxs.length % 512 ∧ Frame [.mgs, .net, .reg .MGS_SECBUF, .reg .NET_SESS] s t)

/-- MALFORMED_FRAME and QUARANTINE_END complete. -/
def Obligations.QuarantineCompletes : Prop :=
  ∀ (s : State) (k : Fin 2) (node : Fin 128),
    (s.hears k = true → s.stackOn = true → node.val ≠ 0 → node.val ≠ s.node → s.net.quar.contains node.val = false →
      let l := (s.net.mal.filter fun x => decide (s.elapsed < x.2 + 100000)) ++ [(some node.val, s.elapsed)]
      let n := (l.filter fun x => x.1 = some node.val).length
      Does (.malformedFrame k (some node)) s fun t =>
        t.get NET_MAL.MALCNT = min NET_MAL.MALCNT.max (s.get NET_MAL.MALCNT + 1)
          ∧ (n ≤ s.get NET_GUARD.MALLIM → t.net = { s.net with mal := l } ∧ Frame (wakeParts ++ [.net, .reg .NET_MAL]) s t)
          ∧ (s.get NET_GUARD.MALLIM < n → t.net.quar.contains node.val = true ∧ (∀ c ∈ t.net.ctxs, c.node ≠ node)
              ∧ t.get NET_MAL.LASTNODE = node ∧ t.on NET_MAL.QACT = true ∧ t.evPending 110 = true
              ∧ t.get NET_MAL.QCNT = min NET_MAL.QCNT.max (s.get NET_MAL.QCNT + 1)
              ∧ Frame (wakeParts ++ eventParts ++ [.net, .reg .MGS_SECBUF, .reg .NET_MAL, .reg .NET_SESS]) s t)) ∧
    (s.hears k = true → s.stackOn = true →
      Does (.malformedFrame k none) s (malformedNoted s) ∧
        (node.val = 0 ∨ node.val = s.node → Does (.malformedFrame k (some node)) s (malformedNoted s)) ∧
        (node.val ≠ 0 → node.val ≠ s.node → s.net.quar.contains node.val = true →
          Does (.malformedFrame k (some node)) s (Frame wakeParts s))) ∧
    (s.net.quar.contains node.val = true → Does (.quarantineEnd node) s fun t =>
      t.net = { s.net with quar := s.net.quar.filter (· ≠ node.val) } ∧ (s.get NET_MAL.LASTNODE = node → t.on NET_MAL.QACT = false)
        ∧ Frame [.net, .reg .NET_MAL] s t)

/-- RX_DISCARD, BUS_OFF, BUS_OFF_RECOVERY, ERROR_PASSIVE, ERROR_ACTIVE, BUS_INTEGRATION, CONTROLLER_ENABLE,
CONTROLLER_DISABLE and CONTROLLER_OFF complete, R312, R314, R315 and R318. What D4 finds in NAP pends at the wake, R308. Of the
model's choices, the frames counted as dropped when a controller goes off are log entry 41, and a communication error when the
disable of one controller leaves the enabled ones all in bus-off is log entry 63. -/
def Obligations.ControllersComplete : Prop :=
  ∀ (s : State) (m : Master) (k : Fin 2),
    (s.canReceives k = true → Does (.rxDiscard k) s fun t =>
      t.get (NET_CNT.RXDISC k) = min (NET_CNT.RXDISC k).max (s.get (NET_CNT.RXDISC k) + 1)
        ∧ Frame (wakeParts ++ [.reg .NET_CNT]) s t) ∧
    (s.on (NET_CTL.EN k) = true ∨ (s.can k).ending = true → s.on (NET_STAT.ON k) = true → s.canState k < 2 →
      Does (.busOff k) s fun t =>
        t.get (NET_CNT.BOFF k) = min (NET_CNT.BOFF k).max (s.get (NET_CNT.BOFF k) + 1)
          ∧ noted (104 + k) k s t ∧ t.bitAt (EV_ACT 3) (10 + k) = false
          ∧ ((s.can k).ending = false → t.canState k = 2 ∧ t.can k = s.can k
              ∧ Frame (d4Parts s ++ [.reg .EV_ACT, .reg .NET_CNT, .reg .NET_NODE, .reg .NET_STAT]) s t)
          ∧ ((s.can k).ending = true → t.canState k = 3 ∧ t.can k = {} ∧ (∀ c ∈ t.net.ctxs, c.can ≠ k)
              ∧ Frame (d4Parts s ++ [.mgs, .net, .reg .EV_ACT, .reg .MGS_SECBUF, .reg .NET_CNT, .reg .NET_SESS, .reg .NET_STAT]) s t)
          ∧ t.nmt = (if (s.can k).ending = false ∧ (∀ x : Fin 2, x ≠ k → s.on (NET_CTL.EN x) = false ∨ s.canState x = 2) then
              commNmt s else s.nmt)) ∧
    (s.on (NET_CTL.EN k) = true → s.canState k = 2 → Does (.busOffRecovery k) s fun t =>
      t.canState k = 0 ∧ t.get (NET_STAT.TEC k) = 0 ∧ t.get (NET_STAT.REC k) = 0 ∧ (t.can k).queue = (s.can k).queue
        ∧ (t.can k).boff = none ∧ Frame [.net, .reg .NET_CNT, .reg .NET_STAT] s t) ∧
    (s.on (NET_STAT.ON k) = true → s.canState k = 0 → Does (.errorPassive k) s fun t =>
      t.canState k = 1 ∧ noted (106 + k) k s t ∧ t.bitAt (EV_ACT 3) (10 + k) = true
        ∧ Frame (d4Parts s ++ [.reg .EV_ACT, .reg .NET_STAT]) s t) ∧
    (s.canState k = 1 → Does (.errorActive k) s fun t =>
      t.canState k = 0 ∧ t.bitAt (EV_ACT 3) (10 + k) = false ∧ Frame [.reg .EV_ACT, .reg .NET_STAT] s t) ∧
    (s.on (NET_CTL.EN k) = true → s.canState k = 3 → s.power.inReset = false → s.runState ≠ 3 →
      Does (.busIntegration k) s fun t =>
        t.canState k = 0 ∧ t.on (NET_STAT.ON k) = true ∧ t.get (NET_STAT.TEC k) = 0 ∧ t.get (NET_STAT.REC k) = 0
          ∧ Frame [.reg .NET_STAT] s t) ∧
    (s.mayWrite m (NET_CTL k) →
      -- the controller left is in bus-off, and this one was not, R318
      let left : Prop := s.canState k ≠ 2 ∧ ∃ x : Fin 2, x ≠ k ∧ s.on (NET_CTL.EN x) = true ∧ s.canState x = 2;
      let nmtLeft (t : State) : Prop := (left → t.nmt = commNmt s) ∧ (¬ left → t.rd NET_NODE = s.rd NET_NODE);
      (s.on (NET_CTL.EN k) = true ∨ timingBad (s.latest (NET_CTL k)) (s.latest (NET_NBT k)) (s.latest (NET_DBT k)) = false →
        Does (.controllerEnable m k) s fun t =>
          t.on (NET_CTL.EN k) = true ∧ t.reply m = .done ∧ Frame (accessParts ++ [.reg .NET_CTL]) s t) ∧
      (s.on (NET_CTL.EN k) = false → timingBad (s.latest (NET_CTL k)) (s.latest (NET_NBT k)) (s.latest (NET_DBT k)) = true →
        Does (.controllerEnable m k) s fun t =>
          t.reply m = .error .refused ∧ t.on (NET_CTL.EN k) = false ∧ t.evPending 116 = true ∧ Frame errorParts s t) ∧
      ((s.latest (NET_CTL k)).getLsbD 0 = true → s.canState k = 2 ∨ s.canState k = 3 → Does (.controllerDisable m k) s fun t =>
        t.on (NET_CTL.EN k) = false ∧ t.can k = {} ∧ t.canState k = 3 ∧ (∀ c ∈ t.net.ctxs, c.can ≠ k) ∧ t.reply m = .done
          ∧ nmtLeft t
          ∧ Frame (accessParts ++ [.mgs, .net, .reg .EV_ACT, .reg .MGS_SECBUF, .reg .NET_CNT, .reg .NET_CTL, .reg .NET_NODE,
              .reg .NET_SESS, .reg .NET_STAT]) s t) ∧
      ((s.latest (NET_CTL k)).getLsbD 0 = false → Does (.controllerDisable m k) s fun t =>
        t.on (NET_CTL.EN k) = false ∧ t.net = s.net ∧ t.reply m = .done ∧ Frame (accessParts ++ [.reg .NET_CTL]) s t) ∧
      ((s.latest (NET_CTL k)).getLsbD 0 = true → s.canState k < 2 → Does (.controllerDisable m k) s fun t =>
        t.on (NET_CTL.EN k) = false ∧ t.can k = { s.can k with ending := true } ∧ t.canState k = s.canState k ∧ t.reply m = .done
          ∧ nmtLeft t ∧ Frame (accessParts ++ [.net, .reg .NET_CTL, .reg .NET_NODE]) s t)) ∧
    ((s.can k).ending = true → Does (.controllerOff k) s fun t =>
      t.canState k = 3 ∧ t.on (NET_STAT.ON k) = false ∧ t.can k = {} ∧ (∀ c ∈ t.net.ctxs, c.can ≠ k)
        ∧ t.get (NET_CNT.TXDROP k)
            = min (NET_CNT.TXDROP k).max (s.get (NET_CNT.TXDROP k) + ((s.can k).queue.length + (s.can k).emcys.length))
        ∧ Frame [.mgs, .net, .reg .EV_ACT, .reg .MGS_SECBUF, .reg .NET_CNT, .reg .NET_SESS, .reg .NET_STAT] s t)


/-- No write of an earlier frame of the host port waits, and no block waits to be issued. -/
def noneWaits (s : State) : Prop :=
  s.sph.prev = 0 ∧ s.sph.full = false ∧ s.sph.blockAge = 0 ∧ s.sph.next = [] ∧ s.sph.nextFull = false ∧ s.sph.nextAge = 0
    ∧ s.sph.due = false

/-- The host port is in a frame of command `c` whose slots can pass, no access of it is under way, and nothing waits. -/
def inSlot (s : State) (c : Nat) : Prop := portIdle s ∧ s.slotOpen c = true ∧ noneWaits s

/-- What the record of a host port error can change, R348. -/
def hostErrorParts (s : State) : List Part := d4Parts s ++ [.sph, .reg .SPH_ERR, .reg .SPH_ERRCODE, .reg .SPH_CNT]

/-- The commands of the host port complete, R342 to R351: the bytes each sends on MISO, the words it takes or performs, and its errors. A
guard window that a frame leaves open times out, R77. That a busy limit keeps the blocks of an earlier frame is the model's choice (log
entry 48). -/
def Obligations.HostFramesComplete : Prop :=
  ∀ s : State,
    let idle : List Nat := List.replicate (b2n s.hostCrc) 0
    -- a cause has failed the frame in progress, R348
    let fails (cause addr : Nat) (t : State) : Prop :=
      t.sph.failed = true ∧ noted (if cause = 6 then 112 else 111) 0 s t ∧ t.on SPH_ERR.VALID = true
        ∧ (s.on SPH_ERR.VALID = false → t.get SPH_ERR.CAUSE = cause ∧ t.get SPH_ERR.ADDR = addr % 2 ^ 24)
        ∧ (s.on SPH_ERR.VALID = true → t.on SPH_ERR.MORE = true)
    -- the next read has been issued and answered, for the word the statements use
    let reads (addr : Nat) (t : State) : Prop :=
      addr = GCTL_SCRATCH → s.mayRead .host GCTL_SCRATCH → s.isBad GCTL_SCRATCH = false →
        t.sph.got = some (s.latest GCTL_SCRATCH) ∧ Frame [.sph, .replies] s t
    let closes (t : State) : Prop := ∀ a g, s.guardAt a = some g → g.master = .host → t.guardAt a = none
    let noGuard : Prop := ∀ a g, s.guardAt a = some g → g.master ≠ .host
    (∀ mode3, s.power.inReset = false → s.runState = 0 → (∀ x ∈ s.staged, x.1 ≠ SPH_CFG) → portIdle s →
      Does (.hostFrameStart mode3 none) s (fun t =>
        t.sph.inFrame = true ∧ t.sph.headed = false ∧ t.sph.mode3 = mode3 ∧ t.sph.miso = [] ∧ t.sph.out = [] ∧ Frame [.sph] s t) ∧
      (∀ h : HostHead,
        let header : List Nat := s.get SPH_STAT.OUTCOME :: 0 :: 0 :: 0 :: idle
        (noneWaits s → hostCommand h.cmd.toNat = true → (s.hostCrc = true → h.crc = crc8 (h.cmd.toNat :: beBytes 3 h.addr.toNat)) →
          Does (.hostFrameStart mode3 (some h)) s fun t =>
            t.sph.inFrame = true ∧ t.sph.headed = true ∧ t.sph.cmd = h.cmd.toNat ∧ t.sph.start = h.addr.toNat
              ∧ t.sph.addr = h.addr.toNat ∧ t.sph.miso = [] ∧ t.sph.out = header
              ∧ (h.cmd = 0x02 ∨ h.cmd = 0x0A ∨ h.cmd = 0x05 →
                  t.slotOpen h.cmd.toNat = true ∧ t.sph.words = 0 ∧ Frame [.sph] s t)
              ∧ (h.cmd = 0x03 ∨ h.cmd = 0x0B → reads h.addr.toNat t)) ∧
        (s.hostCrc = true → h.crc ≠ crc8 (h.cmd.toNat :: beBytes 3 h.addr.toNat) →
          Does (.hostFrameStart mode3 (some h)) s fun t =>
            fails 3 h.addr.toNat t ∧ t.sph.refusing = true ∧ t.sph.out = header ∧ Frame (hostErrorParts s) s t) ∧
        (hostCommand h.cmd.toNat = false → (s.hostCrc = true → h.crc = crc8 (h.cmd.toNat :: beBytes 3 h.addr.toNat)) →
          Does (.hostFrameStart mode3 (some h)) s fun t =>
            fails 2 h.addr.toNat t ∧ t.sph.refusing = true ∧ t.sph.out = header ∧ Frame (hostErrorParts s) s t))) ∧
    -- a frame that starts before the reset sequence ends, R353
    (∀ mode3 h, s.power.inReset = true → Does (.hostFrameStart mode3 h) s fun t =>
      t.sph.early = true ∧ t.sph.out = (if h.isSome then List.replicate (4 + b2n s.hostCrc) 0xE1 else []) ∧ Frame [.sph] s t) ∧
    -- a slot of a frame that has failed or started too early, R348 and R353
    (∀ (w : Word) crc, portIdle s → s.sph.refusing = true →
      let dead (t : State) : Prop :=
        t.sph = { s.sph with dead := true, out := s.sph.out ++ List.replicate (5 + b2n s.hostCrc) 0xE1 } ∧ Frame [.sph] s t
      Does .hostRead s dead ∧ Does .hostReadFixed s dead ∧ Does (.hostWrite w crc) s dead ∧ Does (.hostWriteFixed w crc) s dead
        ∧ Does .hostStatus s dead) ∧
    (∀ w, s.sph.got = some w →
      let sent (t : State) : Prop := t.sph.miso = w :: s.sph.miso ∧ t.sph.out = s.sph.out ++ 0xA5 :: s.dataBytes w
      (inSlot s 0x03 → Does .hostRead s fun t =>
        sent t ∧ t.sph.addr = (s.sph.addr + 4) % 2 ^ 24 ∧ reads ((s.sph.addr + 4) % 2 ^ 24) t) ∧
      (inSlot s 0x0B → Does .hostReadFixed s fun t => sent t ∧ t.sph.addr = s.sph.addr ∧ reads s.sph.addr t)) ∧
    -- a busy byte, R345
    (let busy (t : State) : Prop := t.sph = { s.sph with out := s.sph.out ++ [0x5A] } ∧ Frame [.sph] s t;
      (s.sph.issue = [] → s.sph.reading = true → s.sph.got = none → s.reply .host = .waiting →
        (s.slotOpen 0x03 = true → Does .hostRead s busy) ∧ (s.slotOpen 0x0B = true → Does .hostReadFixed s busy)) ∧
      (∀ (w : Word) crc, s.sph.reading = false → s.sph.buffersHeld = true → (s.sph.issue ≠ [] → s.reply .host = .waiting) →
        (s.slotOpen 0x02 = true → Does (.hostWrite w crc) s busy) ∧ (s.slotOpen 0x0A = true → Does (.hostWriteFixed w crc) s busy))) ∧
    (∀ (w : Word) crc,
      let out : List Nat := s.sph.out ++ 0xA5 :: 0 :: 0 :: 0 :: 0 :: idle
      ((s.hostCrc = true → crc = crc8 (beBytes 4 w.toNat)) →
        (inSlot s 0x02 → (∀ x ∈ s.sph.block, x.1 / 64 = s.sph.addr / 64) → s.sph.addr % 64 ≠ 0x3C → Does (.hostWrite w crc) s fun t =>
          t.sph = { s.sph with block := s.sph.block ++ [(s.sph.addr, w)], addr := (s.sph.addr + 4) % 2 ^ 24, out := out }
            ∧ Frame [.sph] s t) ∧
        (inSlot s 0x0A → s.sph.block = [] → s.sph.addr = GCTL_SCRATCH → s.mayWrite .host GCTL_SCRATCH →
          Does (.hostWriteFixed w crc) s fun t =>
            t.rd GCTL_SCRATCH = w ∧ t.sph = { s.sph with words := s.sph.words + 1, out := out }
              ∧ Frame (accessParts ++ [.sph, .reg .GCTL_SCRATCH]) s t)) ∧
      (s.hostCrc = true → crc ≠ crc8 (beBytes 4 w.toNat) →
        let lost (t : State) : Prop :=
          fails 4 s.sph.addr t ∧ t.sph = { s.sph with failed := true, out := out } ∧ Frame (hostErrorParts s) s t
        (inSlot s 0x02 → Does (.hostWrite w crc) s lost) ∧ (inSlot s 0x0A → Does (.hostWriteFixed w crc) s lost))) ∧
    (inSlot s 0x05 → Does .hostStatus s fun t =>
      t.sph = { s.sph with miso := s.rd SPH_STAT :: s.sph.miso, out := s.sph.out ++ 0xA5 :: s.dataBytes (s.rd SPH_STAT) }
        ∧ Frame [.sph] s t) ∧
    ((s.slotOpen 0x03 = true ∨ s.slotOpen 0x0B = true) ∧ s.sph.got = none
        ∨ (s.slotOpen 0x02 = true ∨ s.slotOpen 0x0A = true) ∧ s.sph.buffersHeld = true →
      (s.sph.reading = true ∨ s.sph.issue ≠ [] → s.reply .host = .waiting) →
      Does .hostBusyLimit s fun t =>
        fails 6 s.sph.addr t ∧ t.sph.dead = true ∧ t.sph.out = s.sph.out ++ [0xE1]
          ∧ t.sph.reading = s.sph.reading ∧ t.sph.issue = s.sph.issue
          ∧ (s.sph.blockAge = 0 → s.sph.nextAge = 0 → t.sph.block = [] ∧ t.sph.full = false ∧ t.sph.next = [])
          ∧ (s.sph.blockAge ≠ 0 → t.sph.block = s.sph.block ∧ t.sph.full = s.sph.full)
          ∧ t.get SPH_CNT.BUSYLIM = min SPH_CNT.BUSYLIM.max (s.get SPH_CNT.BUSYLIM + 1) ∧ Frame (hostErrorParts s) s t) ∧
    (portIdle s → noneWaits s → s.sph.block = [] → s.sph.inFrame = true → s.sph.early = false → s.sph.headed = true →
        s.sph.reads = false → Does (.hostFrameEnd .clean) s fun t =>
      t.sph.inFrame = false ∧ t.get SPH_STAT.WORDS = min 0xFFFF s.sph.words ∧ t.on SPH_STAT.PENDING = false
        ∧ t.get SPH_STAT.OUTCOME = (if s.sph.failed then 0xE1 else 0xA5)
        ∧ t.get SPH_CNT.ERRS = (if s.sph.failed then min SPH_CNT.ERRS.max (s.get SPH_CNT.ERRS + 1) else s.get SPH_CNT.ERRS) ∧ closes t
        ∧ (noGuard → Frame [.sph, .reg .SPH_STAT, .reg .SPH_CNT] s t)) ∧
    -- a frame without an SCK edge, R342
    (portIdle s → s.sph.inFrame = true → s.sph.headed = false → Does (.hostFrameEnd .clean) s fun t =>
      t.sph = { s.sph with inFrame := false, early := false } ∧ Frame [.sph] s t) ∧
    (∀ w, inSlot s 0x02 → s.sph.block = [(GCTL_SCRATCH, w)] → s.mayWrite .host GCTL_SCRATCH →
      Does (.hostFrameEnd .clean) s fun t =>
        t.rd GCTL_SCRATCH = w ∧ t.sph.inFrame = false ∧ t.get SPH_STAT.WORDS = min 0xFFFF (s.sph.words + 1)
          ∧ t.get SPH_STAT.OUTCOME = 0xA5 ∧ closes t
          ∧ (noGuard → Frame (accessParts ++ [.sph, .reg .SPH_STAT, .reg .GCTL_SCRATCH]) s t)) ∧
    -- frames that end early, R350
    (portIdle s → noneWaits s → s.sph.inFrame = true → s.sph.early = false → s.sph.dead = false → s.sph.block = [] →
      let short (a : Nat) (t : State) : Prop :=
        fails 5 a t ∧ t.sph.inFrame = false ∧ t.get SPH_STAT.OUTCOME = 0xE1
          ∧ closes t ∧ (noGuard → Frame (hostErrorParts s ++ [.reg .SPH_STAT]) s t)
      (∀ a : BitVec 24, s.sph.headed = false → Does (.hostFrameEnd (.inHeader a)) s (short a.toNat)) ∧
        (∀ last, s.sph.headed = true → s.sph.reads = false → Does (.hostFrameEnd (.inWord last)) s (short s.sph.addr)))

/-- XIP_READ and LINE_FETCH_COMPLETE complete, R355 and R356. Where a byte or a half word stands in its word is the model's choice
(log entry 57). -/
def Obligations.WindowCompletes : Prop :=
  ∀ s : State,
    (∀ (m : Master) (size : AccessSize) (addr : BitVec 24), let f := s.flashAddr addr.toNat
      0x800000 ≤ addr.toNat → (∃ x, accessCheck m size addr.toNat false s = .ok x) →
        (s.windowOpen f = true →
          (∀ x, s.spm.lines.find? (fun x => x.line = f / 64) = some x → Does (.xipRead m ⟨size, addr⟩) s fun t =>
            t.reply m = .data (x.part size f) ∧ t.spm = { s.spm with lines := useLine x s.spm.lines } ∧ Frame [.replies, .spm] s t) ∧
          (s.spm.lines.find? (fun x => x.line = f / 64) = none → Does (.xipRead m ⟨size, addr⟩) s fun t =>
            t.reply m = .waiting ∧ t.spm.waits = s.spm.waits ++ [(m, f, size)] ∧ (∃ b, (f / 64, b) ∈ t.spm.fetches)
              ∧ t.spm.lastMiss = some (f / 64) ∧ t.spm.lines = s.spm.lines ∧ Frame [.replies, .spm] s t)) ∧
        (s.windowOpen f = false → Does (.xipRead m ⟨size, addr⟩) s fun t =>
          t.reply m = .error .refused ∧ noted 113 0 s t ∧ t.evPending 116 = true ∧ Frame (d4Parts s ++ errorParts) s t)) ∧
    (∀ line b rest m f size (words : List Word), s.spm.fetches = (line, b) :: rest → s.spmBusy = false →
        s.spm.waits = [(m, f, size)] → portIdle s →
        rest ≠ [] ∨ (∀ x ∈ s.staged, x.1 ≠ SPM_CFG ∧ x.1 ≠ SPM_CLK ∧ x.1 ≠ SPM_XOFS) →
      let x : XipLine := ⟨line, words.take 16⟩
      Does (.lineFetchComplete words) s fun t =>
        (f / 64 = line → t.reply m = .data (x.part size f) ∧ t.spm.waits = [])
          ∧ (f / 64 ≠ line → t.reply m = s.reply m ∧ t.spm.waits = s.spm.waits)
          ∧ t.spm.fetches = rest ∧ t.spm.lines = useLine x s.spm.lines ∧ Frame [.replies, .spm] s t)

/-- The commands of the flash memory port's FIFOs complete, R358 to R360. Where the basic flash parameter table and its fields stand is
JESD216's layout (log entry 67). -/
def Obligations.FlashCompletes : Prop :=
  ∀ (s : State) (m : Master),
    (∀ w : Word, let v := wordPut w 31 31 1
      let n := wordField v 16 8
      s.mayWrite m SPM_CMD → s.spmBusy = false → v &&& 0xE0000 = 0 → n ≤ 256 → wordField v 25 24 ≠ 3 → wordField v 27 26 ≠ 3 →
        (wordField v 28 28 = 1 → n ≤ 4 * s.spm.tx.length) → (wordField v 28 28 = 0 → n ≤ 4 * (64 - s.spm.rx.length)) →
      Does (.spmGo m w) s fun t =>
        t.spm = { s.spm with
            run := some ⟨false, v, wordField v 29 29 = 1 || wordField v 28 28 = 1, wordField v 30 30 = 0, false⟩,
            tx := if wordField v 28 28 = 1 then s.spm.tx.drop (ceilDiv n 4) else s.spm.tx }
          ∧ t.reply m = .done ∧ Frame (accessParts ++ [.spm, .reg .SPM_CMD]) s t) ∧
    (∀ w : Word, let v := wordPut w 31 31 1
      s.mayWrite m SPM_CMD → v &&& 0xE0000 = 0 → wordField v 25 24 ≠ 3 → wordField v 27 26 ≠ 3 →
          s.spmBusy = true ∨ 256 < wordField v 16 8 → Does (.spmGo m w) s fun t =>
        t.reply m = .error .refused ∧ t.evPending 116 = true ∧ Frame errorParts s t) ∧
    (∀ r, s.spm.run = some r → r.probe = false →
      let taken (rx : List Word) : List Word := if wordField r.cmd 28 28 = 1 ∨ r.got = true then s.spm.rx
        else (s.spm.rx ++ rx.take (ceilDiv (wordField r.cmd 16 8) 4)).take 64
      (∀ (st : BitVec 8) (rx : List Word), wordField r.cmd 30 30 = 1 → Does (.spmStatusPoll ⟨st, rx⟩) s fun t =>
        t.spm = { s.spm with run := some { r with waitOk := !st.getLsbD 0, got := true }, rx := taken rx } ∧ Frame [.spm] s t) ∧
      (∀ (rx : List Word) found, r.waitOk = true → Does (.spmTransactionEnd rx found) s fun t =>
        t.spm.run = none ∧ t.on SPM_STAT.DONE = true ∧ t.spm.tx = s.spm.tx ∧ t.spm.rx = taken rx
          ∧ (r.locks = true → t.spm.lines = [])
          ∧ Frame [.staged, .spm, .reg .SPM_CFG, .reg .SPM_CLK, .reg .SPM_XOFS, .reg .SPM_STAT] s t) ∧
      (r.waitOk = false → Does .spmWaitTimeout s fun t =>
        t.spm.run = none ∧ t.spm.tx = s.spm.tx ∧ t.spm.rx = s.spm.rx ∧ t.on SPM_STAT.TOUT = true ∧ t.on SPM_STAT.DONE = true
          ∧ noted 113 0 s t
          ∧ Frame (d4Parts s ++ [.staged, .spm, .reg .SPM_CFG, .reg .SPM_CLK, .reg .SPM_XOFS, .reg .SPM_STAT]) s t)) ∧
    (∀ r d l rx, s.spm.run = some r → r.probe = true → basicTable d = some l → Does (.spmTransactionEnd rx (some d)) s fun t =>
      let x := Sfdp.decode l
      t.spm.run = none ∧ t.on SPM_STAT.DONE = true ∧ t.on SPM_SFDP.VALID = true
        ∧ t.get SPM_SFDP.SIZE = x.size % 256 ∧ t.get SPM_SFDP.QER = x.qer
        ∧ (∀ o n, x.q144 = some (o, n) → t.get SPM_CFG.RDMODE = 2 ∧ t.get SPM_CFG.RDCMD = o ∧ t.get SPM_CFG.DUMMY = n)
        ∧ (∀ o n, x.q144 = none → x.q114 = some (o, n) →
            t.get SPM_CFG.RDMODE = 1 ∧ t.get SPM_CFG.RDCMD = o ∧ t.get SPM_CFG.DUMMY = n)
        ∧ (x.q144 = none → x.q114 = none → t.get SPM_CFG.RDMODE = 0 ∧ t.get SPM_CFG.RDCMD = 0x0B ∧ t.get SPM_CFG.DUMMY = 8)
        ∧ t.on SPM_CFG.ADDR4 = x.only4 ∧ (t.rd SPM_CFG ≠ s.rd SPM_CFG → t.spm.lines = [])
        ∧ Frame [.staged, .spm, .reg .SPM_CFG, .reg .SPM_CLK, .reg .SPM_XOFS, .reg .SPM_SFDP, .reg .SPM_STAT] s t) ∧
    (∀ r found rx, s.spm.run = some r → r.probe = true → found.bind basicTable = none → Does (.spmTransactionEnd rx found) s fun t =>
      t.spm.run = none ∧ t.on SPM_STAT.DONE = true ∧ t.on SPM_STAT.PERR = true
        ∧ Frame [.staged, .spm, .reg .SPM_CFG, .reg .SPM_CLK, .reg .SPM_XOFS, .reg .SPM_STAT] s t) ∧
    (s.mayWrite m SPM_CTL → s.spmBusy = false →
      let only (p : Spm) (t : State) : Prop := t.spm = p ∧ t.reply m = .done ∧ Frame (accessParts ++ [.spm]) s t
      Does (.probe m) s (only { s.spm with run := some ⟨true, 0, true, true, false⟩ }) ∧
        Does (.spmInv m) s (only { s.spm with lines := [] }) ∧
        Does (.flush m) s (only { s.spm with tx := [], rx := [] })) ∧
    (∀ w, s.mayWrite m SPM_TXFIFO → s.spm.tx.length < 64 → Does (.txfifoPush m w) s fun t =>
      t.spm = { s.spm with tx := s.spm.tx ++ [w] } ∧ t.reply m = .done ∧ Frame (accessParts ++ [.spm]) s t) ∧
    (∀ w, s.mayWrite m SPM_TXFIFO → 64 ≤ s.spm.tx.length → Does (.txfifoPush m w) s fun t =>
      t.reply m = .error .refused ∧ Frame errorParts s t) ∧
    (s.mayRead m SPM_RXFIFO → s.isBad SPM_RXFIFO = false →
      (∀ w rest, s.spm.rx = w :: rest → Does (.rxfifoPop m) s fun t =>
        t.reply m = .data w ∧ t.spm = { s.spm with rx := rest } ∧ Frame [.replies, .spm] s t) ∧
      (s.spm.rx = [] → Does (.rxfifoPop m) s fun t =>
        t.reply m = .data 0 ∧ t.on SPM_STAT.RXUNDER = true ∧ Frame [.replies, .reg .SPM_STAT] s t))


/-- What a security trigger can change. -/
def alarmParts : List Part := eventParts ++ [.mgs, .reg .MGS_ALSTAT, .reg .MGS_PROV]

/-- The response of trigger `n` that MGS_ALCFG configures. -/
def alarmResponse (s : State) (n : Nat) : Nat := wordField (s.rd MGS_ALCFG) (2 * n + 1) (2 * n)

/-- Trigger `n` of the security alarm acts: event 124 pends, it is seen and active, and its response follows, R377. -/
def alarmed (n : Nat) (s t : State) : Prop :=
  t.evPending 124 = true ∧ t.bitAt MGS_ALSTAT (16 + n) = true ∧ t.bitAt MGS_ALSTAT n = true
    ∧ (alarmResponse s n = 1 → t.locked = true) ∧ (alarmResponse s n = 2 → t.mgs.erase.isSome = true)
    ∧ (alarmResponse s n = 0 → t.mgs = s.mgs ∧ t.rd MGS_PROV = s.rd MGS_PROV) ∧ Frame alarmParts s t

/-- MONITOR_SAMPLE, the watchdog commands and MGS_DEFERRED_RESET complete, R361 and R362. That the sample gives the conditions of
triggers 0 to 2 is log entry 36, and that the watchdog runs in SAFE and expires once until the next reset is log entry 64. -/
def Obligations.MonitorsComplete : Prop :=
  ∀ s : State,
    (∀ temp mv active periods, s.power.inReset = false → s.runState ≠ 3 → Does (.monitorSample temp mv active periods) s fun t =>
      t.get (MGS_MON.VALUE 0) = unsigned 16 temp ∧ (∀ k : Fin 4, t.get (MGS_MON.VALUE (k + 1)) = mv.getD k 0 % 2 ^ 16)
        ∧ (∀ k : Fin 5, t.on (MGS_MON.VALID k) = true) ∧ t.mgs.ms = s.mgs.ms + 1 ∧ t.rtc = (s.rtc + periods) % 2 ^ 48
        ∧ (∀ n : Fin 3, t.bitAt MGS_ALSTAT n = active.getLsbD n)
        ∧ (16 * (s.get MGS_THCFG.WARN : Int) ≤ temp → s.bitAt (EV_ACT 3) 30 = false → t.evPending 126 = true)
        ∧ (16 * (s.get MGS_THCFG.SHUT : Int) ≤ temp → s.trioState ≠ 4 → safeEntered 8 t)
        ∧ t.power = { s.power with napMs := s.power.napMs + if s.runState = 2 then 1 else 0 }
        ∧ Frame (eventParts ++ [.trio, .mgs, .power, .reg .EV_ACT, .reg .GCTL_RTC_HI, .reg .GCTL_RTC_LO, .reg .MGS_ALSTAT,
            .reg .MGS_MON, .reg .TRIO_STAT]) s t) ∧
    (∀ temp mv active periods, s.power.inReset = true ∨ s.runState = 3 →
      Does (.monitorSample temp mv active periods) s fun t => t = s) ∧
    (s.trioRuns = false → Does .watchdogService s fun t => t = s) ∧
    (s.ticks < s.mgs.wdStart + 100 * s.get MGS_WDCFG.TOUT → Does .watchdogExpiry s fun t => t = s) ∧
    (s.watchdogRuns = false → Does .watchdogExpiry s fun t => t = s) ∧
    ((∃ a : Fin 128, s.hasWork a = true) → (∀ t0, s.mgs.resetDue = some t0 → s.elapsed < t0 + 100000) →
      Does .mgsDeferredReset s fun t => t = s) ∧
    (s.mgs.actReset = false → s.mgs.resetDue = none → Does .mgsDeferredReset s fun t => t = s) ∧
    (s.trioRuns = true → Does .watchdogService s fun t => t.mgs = { s.mgs with wdStart := s.ticks } ∧ Frame [.mgs] s t) ∧
    (s.watchdogRuns = true → s.mgs.wdStart + 100 * s.get MGS_WDCFG.TOUT ≤ s.ticks →
      Does .watchdogExpiry s fun t =>
        t.evPending 123 = true ∧ t.trioState = 4 ∧ (s.trioState ≠ 4 → safeEntered 8 t)
          ∧ t.get MGS_WDCFG.EXPCNT = min 255 (s.get MGS_WDCFG.EXPCNT + 1) ∧ t.mgs.wdRun = false
          ∧ t.mgs.resetDue = (if s.get MGS_WDCFG.ACT = 0 then some s.elapsed else s.mgs.resetDue)
          -- the record of the safe state, and that of the expiry
          ∧ (s.logQ.length < 62 → (t.logQ.filter fun x => x.code = 0x0103).length = (s.logQ.filter fun x => x.code = 0x0103).length + 1
              ∧ (t.logQ.filter fun x => x.code = 0x0104).length = (s.logQ.filter fun x => x.code = 0x0104).length + 1)
          ∧ Frame (eventParts ++ [.trio, .mgs, .reg .MGS_WDCFG, .reg .TRIO_STAT]) s t) ∧
    ((∀ a : Fin 128, s.hasWork a = false) → s.mgs.actReset = true ∨ s.mgs.resetDue.isSome = true →
      Does .mgsDeferredReset s (hasReset 6 s)) ∧
    (∀ t0, s.mgs.resetDue = some t0 → t0 + 100000 ≤ s.elapsed → Does .mgsDeferredReset s (hasReset 6 s))

/-- LOG_DATA_READ, LOG_POINTER_WRITE and the update commands complete, R365 and R368. That a write of MGS_LOGRPTR starts the entry
anew, logIdx = 0, is log entry 64. -/
def Obligations.LogAndUpdateComplete : Prop :=
  ∀ (s : State) (m : Master),
    (s.mayRead m MGS_LOGDATA → s.isBad MGS_LOGDATA = false →
      (s.unread = 0 → Does (.logDataRead m) s fun t => t.reply m = .data 0 ∧ Frame [.replies] s t) ∧
      (s.unread ≠ 0 → s.mgs.logIdx < 7 → Does (.logDataRead m) s fun t =>
        t.reply m = .data (s.logWords.getD s.mgs.logIdx 0) ∧ t.mgs = { s.mgs with logIdx := s.mgs.logIdx + 1 }
          ∧ Frame [.replies, .mgs] s t) ∧
      (s.unread ≠ 0 → s.mgs.logIdx = 7 → Does (.logDataRead m) s fun t =>
        t.reply m = .data (s.logWords.getD 7 0) ∧ t.mgs = { s.mgs with logIdx := 0 } ∧ t.rd MGS_LOGRPTR = s.rd MGS_LOGRPTR + 1
          ∧ Frame [.replies, .mgs, .reg .MGS_LOGRPTR] s t)) ∧
    (∀ w : Word, s.mayWrite m MGS_LOGRPTR → s.oldestSeq ≤ w.toNat → w.toNat ≤ s.mgs.nextSeq → Does (.logPointerWrite m w) s fun t =>
      let rises : Prop := s.unread < s.get MGS_LOGCFG.NEARTHR ∧ s.get MGS_LOGCFG.NEARTHR ≤ t.unread
      t.rd MGS_LOGRPTR = w ∧ t.mgs = { s.mgs with logIdx := 0 } ∧ t.reply m = .done ∧ (rises → t.evPending 125 = true)
        ∧ (¬ rises → Frame (accessParts ++ [.mgs, .reg .MGS_LOGRPTR]) s t)
        ∧ Frame (accessParts ++ eventParts ++ [.mgs, .reg .MGS_LOGRPTR]) s t) ∧
    (∀ w : Word, s.mayWrite m MGS_LOGRPTR → s.clampSeq w.toNat ≠ w.toNat → Does (.logPointerWrite m w) s fun t =>
      t.rd MGS_LOGRPTR = BitVec.ofNat 32 (s.clampSeq w.toNat) ∧ t.mgs = { s.mgs with logIdx := 0 } ∧ t.evPending 118 = true
        ∧ t.reply m = .done ∧ Frame (accessParts ++ clampParts ++ [.mgs, .reg .MGS_LOGRPTR]) s t) ∧
    (s.mayWrite m MGS_UPDCTL →
      let begun (k : Nat) (t : State) : Prop :=
        t.mgs = { s.mgs with updCmd := k } ∧ t.reply m = .done ∧ Frame (accessParts ++ [.mgs]) s t;
      (s.updRefused 1 = false → Does (.updBegin m) s (begun 1)) ∧
      (s.updRefused 2 = false → Does (.updEnd m) s (begun 2)) ∧
      (s.updRefused 3 = false → Does (.activate m) s (begun 3)) ∧
      (s.updRefused 4 = false → Does (.cancel m) s (begun 4)) ∧
      (s.updRefused 5 = false → Does (.confirm m) s (begun 5)) ∧
      (s.updRefused 6 = false → Does (.activateReset m) s fun t =>
        t.spare.state = 5 ∧ t.mgs.actReset = true ∧ t.get MGS_UPDSTAT.TRIES = 0 ∧ t.reply m = .done
          ∧ Frame (accessParts ++ [.logQ, .mgs, .reg .MGS_LOGSTAT, .reg .MGS_UPDSTAT]) s t) ∧
      (let refused (t : State) : Prop := t.reply m = .error .refused ∧ t.evPending 116 = true ∧ Frame errorParts s t;
        (s.updRefused 1 = true → Does (.updBegin m) s refused) ∧ (s.updRefused 2 = true → Does (.updEnd m) s refused) ∧
          (s.updRefused 3 = true → Does (.activate m) s refused) ∧ (s.updRefused 4 = true → Does (.cancel m) s refused) ∧
          (s.updRefused 5 = true → Does (.confirm m) s refused) ∧ (s.updRefused 6 = true → Does (.activateReset m) s refused))) ∧
    (∀ w, s.mayWrite m MGS_UPDDATA → s.spare.state = 1 → s.mgs.updFull = false → s.get MGS_UPDADDR.ADDR < 2 ^ 19 - 1 →
      Does (.updateDataWrite m w) s fun t =>
        t.spare.word (s.get MGS_UPDADDR.ADDR) = w ∧ (∀ k, k ≠ s.get MGS_UPDADDR.ADDR → t.spare.word k = s.spare.word k)
          ∧ t.get MGS_UPDADDR.ADDR = s.get MGS_UPDADDR.ADDR + 1 ∧ t.reply m = .done
          ∧ Frame (accessParts ++ [.mgs, .reg .MGS_UPDADDR]) s t) ∧
    (∀ w, s.mayWrite m MGS_UPDDATA → s.spare.state = 1 → s.mgs.updFull = false → s.get MGS_UPDADDR.ADDR = 2 ^ 19 - 1 →
      Does (.updateDataWrite m w) s fun t =>
        t.spare.word (2 ^ 19 - 1) = w ∧ (∀ k, k ≠ 2 ^ 19 - 1 → t.spare.word k = s.spare.word k) ∧ t.mgs.updFull = true
          ∧ t.reply m = .done ∧ Frame (accessParts ++ [.mgs]) s t) ∧
    (∀ w, s.mayWrite m MGS_UPDDATA → s.spare.state ≠ 1 ∨ s.mgs.updFull = true → Does (.updateDataWrite m w) s fun t =>
      t.reply m = .error .refused ∧ t.evPending 116 = true ∧ Frame errorParts s t)

/-- UPDATE_COMMAND_END completes for each command, R366 and R368, with no request of the network waiting for it; and a download of
an image that waits for END is answered; that the answer comes at the end of the update is log entry 46, and a frame dropped from a full
queue log entry 41. -/
def Obligations.UpdateEndCompletes : Prop :=
  ∀ s : State, s.net.done = [] →
    (∀ (can : Fin 2) (node : Fin 128) (sess : Fin 256) x,
        s.net.ctxs = [{ can := can, node := node, sess := sess, auth := true, wait := .update, xfer := some x }] → x.data = [] →
        s.stackOn = true → s.mgs.updCmd = 2 →
      Does .updateCommandEnd s fun t =>
        sends can ⟨0x580 + s.node, .usdo node sess (if s.imageCheck s.spare = 0 then .ok else .abort noTransfer)⟩ s t
          ∧ t.net.ctxs = [{ can := can, node := node, sess := sess, auth := true }] ∧ t.mgs.updCmd = 0
          ∧ t.spare.state = (if s.imageCheck s.spare = 0 then 2 else 3)
          ∧ Frame [.logQ, .mgs, .net, .reg .MGS_LOGSTAT, .reg .MGS_UPDSTAT, .reg .NET_CNT, .reg .NET_SESS] s t) ∧
    (s.net.ctxs = [] →
    (s.mgs.updCmd = 0 → Does .updateCommandEnd s fun t => t = s) ∧
    let ends (P : State → Prop) : Prop := Does .updateCommandEnd s fun t =>
      t.mgs.updCmd = 0 ∧ P t ∧ Frame [.logQ, .mgs, .rbcnt, .reg .MGS_LOGSTAT, .reg .MGS_UPDADDR, .reg .MGS_UPDSTAT] s t;
    (s.mgs.updCmd = 1 → ends fun t =>
      t.spare.state = 1 ∧ t.spare.words = [] ∧ t.get MGS_UPDADDR.ADDR = 0 ∧ t.mgs.updRun = true) ∧
    (s.mgs.updCmd = 2 → ends fun t =>
      t.spare.state = (if s.imageCheck s.spare = 0 then 2 else 3) ∧ t.get MGS_UPDSTAT.ERR = s.imageCheck s.spare
        ∧ t.mgs.updRun = false) ∧
    (s.mgs.updCmd = 3 → ends fun t => t.spare.state = 5 ∧ t.get MGS_UPDSTAT.TRIES = 0) ∧
    (s.mgs.updCmd = 4 → ends fun t => t.spare.state = 2) ∧
    (s.mgs.updCmd = 5 → ends fun t =>
      (t.mgs.slot t.runSlot).state = 4 ∧ (s.holdsValid s.spare = true → t.spare.state = 2)
        ∧ t.rbcnt.toNat = max s.rbcnt.toNat (s.mgs.slot s.runSlot).index))

/-- The security commands and their ends complete, R373: one that needs a security session is RESTRICTED without it, R380, and one written
while another runs is REFUSED. What of a lock an erase has set SETKEY takes back is log entry 64, and the key pair of GENID, the
certificate and the signature of ATTEST, whose values the spec does not give, are log entry 8. -/
def Obligations.SecurityCompletes : Prop :=
  ∀ (s : State) (m : Master),
    (s.mayWrite m MGS_SECCMD → s.mgs.sec = none →
      let begun (k arg : Nat) (t : State) : Prop :=
        t.mgs = { s.mgs with sec := some ⟨k, arg, s.sessionOf m, m = .host⟩ } ∧ t.reply m = .done
          ∧ Frame (accessParts ++ [.mgs]) s t;
      Does (.logout m) s (begun 1 0) ∧ Does (.readpub m) s (begun 4 0) ∧ (∀ arg, Does (.readcert m arg) s (begun 5 arg.toNat)) ∧
        Does (.attest m) s (begun 6 0) ∧
        (s.sessionOf m = true ∨ (m = .host ∧ s.mgs.ak = none) → Does (.setkey m) s (begun 2 0)) ∧
        (s.sessionOf m = true →
          Does (.genid m) s (begun 3 0) ∧ Does (.unlock m) s (begun 7 0) ∧ Does (.clralarm m) s (begun 8 0))) ∧
    (s.mayWrite m MGS_SECCMD → s.sessionOf m = false →
      let barred (t : State) : Prop := t.reply m = .error .restricted ∧ t.evPending 116 = true ∧ Frame errorParts s t;
      (m ≠ .host ∨ s.mgs.ak ≠ none → Does (.setkey m) s barred) ∧ Does (.genid m) s barred ∧ Does (.unlock m) s barred ∧
        Does (.clralarm m) s barred) ∧
    (s.mayWrite m MGS_SECCMD → s.mgs.sec ≠ none →
      let refused (t : State) : Prop := t.reply m = .error .refused ∧ t.evPending 116 = true ∧ Frame errorParts s t;
      Does (.logout m) s refused ∧ Does (.readpub m) s refused ∧ (∀ arg, Does (.readcert m arg) s refused) ∧ Does (.attest m) s refused ∧
        (s.sessionOf m = true ∨ (m = .host ∧ s.mgs.ak = none) → Does (.setkey m) s refused) ∧
        (s.sessionOf m = true → Does (.genid m) s refused ∧ Does (.unlock m) s refused ∧ Does (.clralarm m) s refused)) ∧
    (s.mgs.sec = none → Does .securityCommandEnd s fun t => t = s) ∧
    (∀ r, s.mgs.sec = some r →
      (s.secResult r ≠ 0 → Does .securityCommandEnd s fun t =>
        t.mgs = { s.mgs with sec := none } ∧ t.get MGS_SECSTAT.RESULT = s.secResult r ∧ Frame [.mgs, .reg .MGS_SECSTAT] s t) ∧
      (s.secResult r = 0 → Does .securityCommandEnd s fun t =>
        t.mgs.sec = none ∧ t.get MGS_SECSTAT.RESULT = 0
          ∧ (r.cmd = 1 → t.mgs.hostAuth = false ∧ t.mgs.secIn = [])
          ∧ (r.cmd = 2 → t.mgs.ak = some ((List.range 8).map s.secWord) ∧ t.on MGS_PROV.ERASED = false
              ∧ (s.mgs.lockErase = true → t.locked = false))
          ∧ (r.cmd = 3 → t.mgs.ident = 2 ∧ ∀ i : Fin 16, t.rd (MGS_SECBUF i) = t.mgs.identKey.getD i 0)
          ∧ (r.cmd = 4 → ∀ i : Fin 16, t.rd (MGS_SECBUF i) = s.publicKey i)
          ∧ (r.cmd = 5 → ∀ i : Fin 16, t.rd (MGS_SECBUF i) = Config.certificate (16 * r.arg + i))
          ∧ (r.cmd = 6 → ∀ i : Fin 16, t.rd (MGS_SECBUF i) = Config.attestation s.free ((List.range 8).map s.secWord ++
              [Config.serial, s.mgs.part.product, s.rd GCTL_ID, (s.mgs.slot s.runSlot).version, s.rbcnt.setWidth 32]) i)
          ∧ (r.cmd = 7 → t.locked = false)
          ∧ (r.cmd = 8 → t.get MGS_ALSTAT.SEEN = 0 ∧ t.get MGS_ALSTAT.ACTIVE = s.get MGS_ALSTAT.ACTIVE)
          ∧ Frame [.free, .logQ, .mgs, .reg .MGS_ALSTAT, .reg .MGS_LOGSTAT, .reg .MGS_PROV, .reg .MGS_SECBUF,
              .reg .MGS_SECSTAT] s t))

/-- CHALLENGE_ISSUE, RESPONSE_CHECK, CHALLENGE_EXPIRY, HOST_SESSION_TIMEOUT and DEBUG_SESSION_END complete, R374 to R376: a
challenge is four words of the random source, whatever they are. The context left open with its challenge and the abort code of a failed
authentication are log entry 46, a frame dropped from a full queue log entry 41, and the byte order of challenge and response log
entry 64. -/
def Obligations.AuthenticationCompletes : Prop :=
  ∀ s : State,
    let chal : List Word := (List.range 4).map (Config.random s.free);
    (s.mayRead .host (MGS_AUCHAL 0) → s.isBad (MGS_AUCHAL 0) = false → s.mgs.hostCh = none → Does (.challengeIssue .host) s fun t =>
      t.mgs = { s.mgs with hostCh := some chal } ∧ (∀ i : Fin 4, t.rd (MGS_AUCHAL i) = chal.getD i 0)
        ∧ t.reply .host = .data (chal.getD 0 0) ∧ Frame [.replies, .free, .mgs, .reg .MGS_AUCHAL] s t) ∧
    (s.mayRead .host (MGS_AUCHAL 0) → s.isBad (MGS_AUCHAL 0) = false → s.mgs.hostCh ≠ none → Does (.challengeIssue .host) s fun t =>
      t.reply .host = .data (s.rd (MGS_AUCHAL 0)) ∧ Frame [.replies] s t) ∧
    (s.fabricOn = true → s.mgs.dbgCh = none → Does (.challengeIssue .debug) s fun t =>
      t.mgs = { s.mgs with dbgCh := some chal } ∧ Frame [.free, .mgs] s t) ∧
    (s.fabricOn = false ∨ s.mgs.dbgCh ≠ none → Does (.challengeIssue .debug) s fun t => t = s) ∧
    (∀ (can : Fin 2) (node : Fin 128) (sess : Fin 256), s.stackOn = true → s.hears can = true → s.nmt = 1 ∨ s.nmt = 2 → node.val ≠ 0 →
        node.val ≠ s.node → s.net.quar.contains node.val = false → s.net.ctxs = [] → 0 < s.get NET_GUARD.PERNODE →
      Does (.challengeIssue (.usdo can node sess)) s fun t =>
        t.net.ctxs = [{ can := can, node := node, sess := sess, chal := some chal }]
          ∧ sends can ⟨0x580 + s.node, .usdo node sess (.data (chal.flatMap fun w => leBytes 4 w.toNat))⟩ s t
          ∧ Frame (wakeParts ++ [.free, .net, .reg .NET_CNT, .reg .NET_SESS]) s t) ∧
    (∀ resp, s.mgs.respDue = true →
      let ok := s.responseOk s.mgs.hostCh s.hostResponse 2 0 0
      Does (.responseCheck .host resp) s fun t =>
        t.mgs.hostAuth = (s.mgs.hostAuth || ok) ∧ t.mgs.hostCh = none ∧ t.mgs.respDue = false
          ∧ (∀ i : Fin 4, t.rd (MGS_AUCHAL i) = 0)
          ∧ (ok = true → Frame [.mgs, .reg .MGS_AUCHAL] s t)
          ∧ (ok = false → t.evPending 109 = true ∧ t.get MGS_AUSTAT.FAILCNT = min 0xFFFF (s.get MGS_AUSTAT.FAILCNT + 1)
              ∧ Frame (alarmParts ++ [.reg .MGS_AUCHAL, .reg .MGS_AUSTAT]) s t)) ∧
    (∀ resp, s.mgs.respDue = false → Does (.responseCheck .host resp) s fun t => t = s) ∧
    (∀ resp, s.fabricOn = true →
      let ok := s.responseOk s.mgs.dbgCh resp 3 0 0
      Does (.responseCheck .debug resp) s fun t =>
        t.mgs.dbgAuth = (s.mgs.dbgAuth || ok) ∧ t.mgs.dbgCh = none ∧ (ok = true → Frame [.mgs] s t)
          ∧ (ok = false → t.evPending 109 = true ∧ t.get MGS_AUSTAT.FAILCNT = min 0xFFFF (s.get MGS_AUSTAT.FAILCNT + 1)
              ∧ Frame (alarmParts ++ [.reg .MGS_AUSTAT]) s t)) ∧
    (∀ (can : Fin 2) (node : Fin 128) (sess : Fin 256) resp c r,
        s.net.ctxs = [{ can := can, node := node, sess := sess, chal := c, resp := some r }] →
      let fails := Sparse.get (fun _ => 0) s.net.badResp node + 1
      (s.responseOk c r can node sess = true → Does (.responseCheck (.usdo can node sess) resp) s fun t =>
        t.net.ctxs = [{ can := can, node := node, sess := sess, auth := true }] ∧ t.get NET_SESS.AUTH = 1
          ∧ sends can ⟨0x580 + s.node, .usdo node sess .ok⟩ s t ∧ Frame [.net, .reg .NET_CNT, .reg .NET_SESS] s t) ∧
      (s.responseOk c r can node sess = false → Does (.responseCheck (.usdo can node sess) resp) s fun t =>
        t.net.ctxs = [] ∧ t.evPending 109 = true ∧ t.get MGS_AUSTAT.FAILCNT = min 0xFFFF (s.get MGS_AUSTAT.FAILCNT + 1)
          ∧ sends can ⟨0x580 + s.node, .usdo node sess (.abort noAuth)⟩ s t
          ∧ (fails < 3 → Sparse.get (fun _ => 0) t.net.badResp node = fails ∧ t.net.quar = s.net.quar)
          ∧ (3 ≤ fails → t.net.quar.contains node.val = true ∧ t.evPending 110 = true)
          ∧ Frame (alarmParts ++ [.net, .reg .MGS_AUSTAT, .reg .MGS_SECBUF, .reg .NET_CNT, .reg .NET_MAL, .reg .NET_SESS]) s t)) ∧
    Does (.challengeExpiry .host) s (fun t =>
      t.mgs = { s.mgs with hostCh := none } ∧ (∀ i : Fin 4, t.rd (MGS_AUCHAL i) = 0) ∧ Frame [.mgs, .reg .MGS_AUCHAL] s t) ∧
    Does (.challengeExpiry .debug) s (fun t => t.mgs = { s.mgs with dbgCh := none } ∧ Frame [.mgs] s t) ∧
    (∀ can node sess, Does (.challengeExpiry (.usdo can node sess)) s fun t =>
      (∀ c ∈ t.net.ctxs, CtxKey.names ⟨can, node, sess⟩ c = true → c.chal = none) ∧ Frame [.net, .reg .NET_SESS] s t) ∧
    (s.mgs.hostAuth = true → Does .hostSessionTimeout s fun t =>
      t.mgs = { s.mgs with hostAuth := false, hostCh := none, secIn := [] } ∧ (∀ i : Fin 16, t.rd (MGS_SECBUF i) = 0)
        ∧ Frame [.mgs, .reg .MGS_SECBUF] s t) ∧
    (s.mgs.hostAuth = false → Does .hostSessionTimeout s fun t => t = s) ∧
    (2 ≤ s.runState → Does .debugSessionEnd s fun t => t = s) ∧
    (s.runState < 2 → s.mgs.dbgAuth = false → Does .debugSessionEnd s fun t => t.mgs = { s.mgs with dbgCh := none } ∧ Frame [.mgs] s t) ∧
    (s.runState < 2 → s.mgs.dbgAuth = true → Does .debugSessionEnd s fun t =>
      t.mgs = { s.mgs with dbgAuth := false, dbgCh := none, secIn := [] } ∧ (∀ i : Fin 16, t.rd (MGS_SECBUF i) = 0)
        ∧ Frame [.mgs, .reg .MGS_SECBUF] s t)

/-- The triggers of the security alarm, KEY_INTEGRITY_CHECK and KEY_ERASE_COMPLETE complete, R372, R377 and R379. How long the condition
of a trigger lasts is log entry 36. -/
def Obligations.AlarmCompletes : Prop :=
  ∀ s : State,
    Does .tamper s (alarmed 0 s) ∧
    (∀ vddc, s.runState ≠ 3 ∨ vddc = false → Does (.voltageGlitch vddc) s (alarmed 1 s)) ∧
    (∀ ref, s.on GCTL_CLKSTAT.REFOK = true ∨ ref = false → Does (.clockGlitch ref) s (alarmed 2 s)) ∧
    (s.fabricOn = true → s.mgs.dbgAuth = false → Does .unauthenticatedDebug s (alarmed 4 s)) ∧
    (s.runState ≠ 3 → Does (.keyIntegrityCheck false) s (alarmed 5 s)) ∧
    (s.runState ≠ 3 → Does (.keyIntegrityCheck true) s fun t => t.bitAt MGS_ALSTAT 5 = false ∧ Frame [.reg .MGS_ALSTAT] s t) ∧
    (s.runState = 3 → Does (.voltageGlitch true) s fun t => t = s) ∧
    (s.on GCTL_CLKSTAT.REFOK = false → Does (.clockGlitch true) s fun t => t = s) ∧
    (s.fabricOn = false ∨ s.mgs.dbgAuth = true → Does .unauthenticatedDebug s fun t => t = s) ∧
    (∀ ok, s.runState = 3 → Does (.keyIntegrityCheck ok) s fun t => t = s) ∧
    (s.power.inReset = true ∨ s.runState = 3 ∨ s.mgs.erase = none → Does .keyEraseComplete s fun t => t = s) ∧
    (∀ n, s.power.inReset = false → s.runState ≠ 3 → s.mgs.erase = some n → Does .keyEraseComplete s fun t =>
      t.mgs.ak = none ∧ t.mgs.ident = 0 ∧ t.mgs.identKey = [] ∧ t.mgs.cert = false ∧ t.mgs.erase = none ∧ t.mgs.hostAuth = false
        ∧ t.mgs.dbgAuth = false ∧ t.on MGS_PROV.ERASED = true ∧ t.locked = true ∧ (∀ c ∈ t.net.ctxs, c.auth = false)
        ∧ (∀ i : Fin 16, t.rd (MGS_SECBUF i) = 0)
        ∧ Frame [.logQ, .mgs, .net, .reg .MGS_LOGSTAT, .reg .MGS_PROV, .reg .MGS_SECBUF, .reg .NET_SESS] s t)


/-- A step takes the command at the front of the queue and runs it on the state that holds the rest. -/
def Obligations.StepRunsFront : Prop :=
  ∀ (c : Instr) (cs : List Instr) (s : State), s.pending = c :: cs → step s = exec c { s with pending := cs }

/-- On an empty queue the block idles: the model's choice, log entry 3. -/
def Obligations.EmptyQueueIdles : Prop := ∀ s : State, s.pending = [] → step s = .next s

/-- Every command answers a next state in every state, and leaves the queue alone; so a run stops for no ordinary data. -/
def Obligations.EveryCommandAnswers : Prop :=
  ∀ (c : Instr) (s : State), Does c s fun t => t.pending = s.pending

/-- A step of a good state answers a good state: every keyed part stays in canonical form and every buffer within its bound. -/
def Obligations.GoodKept : Prop := ∀ s t : State, Good s → step s = .next t → Good t

/-- The state after reset is good. -/
def Obligations.ResetGood : Prop := Good State.reset

/-- After reset the device is in RUN with the trio in TRIPLE and the front end on, power-on is the reset cause, every axis is
disabled and in no motion, every coach domain and both CAN controllers are off, no plan is loaded, no error is recorded and no
command waits. -/
def Obligations.ResetState : Prop :=
  let s := State.reset
  s.runState = 0 ∧ s.trioState = 0 ∧ s.power.inReset = false ∧ s.afeOn = true ∧ s.rd GCTL_RSTCAUSE = 1
    ∧ (∀ w : Fin 4, s.rd (AXEN w) = 0 ∧ s.rd (EV_PEND w) = 0) ∧ (∀ c : Fin 4, s.coachOn c = false ∧ s.coachLive c = false)
    ∧ s.canState 0 = 3 ∧ s.canState 1 = 3 ∧ s.plState = 0 ∧ s.on GCTL_BUSERR.VALID = false ∧ s.on GCTL_PARERR.VALID = false
    ∧ s.rd (EV_EN 0) = 0xFFFFFFFF ∧ s.axes = [] ∧ s.legs = [] ∧ s.coils = [] ∧ s.pending = []

/-- A write that a check of R72 ends changes nothing but the record of the error: the master receives the error, its event pends (a
write into the XIP window in NAP at the wake, R308), every error counts, and GCTL_BUSERR keeps the first error until it is cleared, R84.
Checks 1 to 3; ACCESS; RESERVED_BIT, which closes the master's own guard window; GUARD, with no window open, one of another master, and
a value that is no complement, R76; and REFUSED, of an undefined value and by the owning block. A request of a trio in its safe state
does not pass the voter, R292. -/
def Obligations.FailedWriteRecorded : Prop :=
  ∀ (s : State) (m : Master) (size : AccessSize) (addr : BitVec 24) (w : Word),
    let a := addr.toNat
    let ended (e : BusErr) (parts : List Part) (t : State) : Prop :=
      t.reply m = .error e ∧ (if e.event = 113 then noted 113 0 s t else t.evPending e.event = true)
        ∧ t.get GCTL_BUSERRCNT.COUNT = min GCTL_BUSERRCNT.COUNT.max (s.get GCTL_BUSERRCNT.COUNT + 1)
        ∧ t.on GCTL_BUSERR.VALID = true
        ∧ (s.on GCTL_BUSERR.VALID = false → t.get GCTL_BUSERR.CODE = e.code ∧ t.get GCTL_BUSERR.MASTER = masterCode m
            ∧ t.get GCTL_BUSERRADDR.ADDR = a)
        ∧ (s.on GCTL_BUSERR.VALID = true → t.on GCTL_BUSERR.MORE = true ∧ t.get GCTL_BUSERR.CODE = s.get GCTL_BUSERR.CODE
            ∧ t.get GCTL_BUSERR.MASTER = s.get GCTL_BUSERR.MASTER ∧ t.rd GCTL_BUSERRADDR = s.rd GCTL_BUSERRADDR)
        ∧ Frame (parts ++ (if e.event = 113 then d4Parts s else []) ++ errorParts) s t
    (s.voterBlocks m = true → Does (.registerWrite m size addr w) s fun t => t = s) ∧
    (s.voterBlocks m = false →
      (∀ e, accessCheck m size a true s = .error e → Does (.registerWrite m size addr w) s (ended e [])) ∧
      (∀ l, accessCheck m size a true s = .ok (.reg l) → l.defn.pair = .none → secRestricts m l w s = false →
        (l.compl = false →
          (l.writable = false → Does (.registerWrite m size addr w) s (ended .access [])) ∧
          (l.writable = true →
            (w &&& reservedBits l.defn ≠ 0 → Does (.registerWrite m size addr w) s fun t => ended .reservedBit [.guards] t
              ∧ (l.defn.guarded = false → t.guards = s.guards)
              ∧ (l.defn.guarded = true → ∀ g, s.guardAt a = some g → t.guardAt a = if g.master = m then none else some g)) ∧
            (w &&& reservedBits l.defn = 0 → l.defn.guarded = true → ∀ g, s.guardAt a = some g → g.master ≠ m →
              Does (.registerWrite m size addr w) s (ended .guard [])) ∧
            (w &&& reservedBits l.defn = 0 → l.defn.guarded = false →
              (l.defn.masked = false →
                (∃ f ∈ l.defn.fields, f.ty ≠ .ro ∧ f.ty ≠ .w1c ∧ checkField f.chk (f.hi + 1 - f.lo) (wordField w f.hi f.lo) = none) →
                Does (.registerWrite m size addr w) s (ended .refused [])) ∧
              (∀ x cl, decodeWrite l (s.before l a) w s = some (x, cl) →
                let y := (stateClamps l x s).1
                blockRefuses l (s.before l a) (y.val ||| y.act) (dataMask l.defn w) s = true →
                Does (.registerWrite m size addr w) s (ended .refused []))))) ∧
        (l.compl = true →
          (s.guardAt (a - 4) = none → Does (.registerWrite m size addr w) s (ended .guard [])) ∧
          (∀ g, s.guardAt (a - 4) = some g →
            (g.master ≠ m → Does (.registerWrite m size addr w) s (ended .guard [])) ∧
            (g.master = m → w ≠ ~~~ g.value → Does (.registerWrite m size addr w) s fun t =>
              ended .guard [.guards] t ∧ t.guardAt (a - 4) = none)))))

/-- R70: outside the XIP window any access but a 32-bit one at a multiple of 4 fails with ALIGN, a write or a read; in the window
8-bit reads, and 16-bit reads of an even address, do not. That a 16-bit read of an odd address fails is the model's choice (log entry
57). -/
def Obligations.AlignmentChecked : Prop :=
  ∀ (s : State) (m : Master) (size : AccessSize) (addr : BitVec 24),
    (addr.toNat < 0x800000 → size ≠ .word ∨ addr.toNat % 4 ≠ 0 →
      accessCheck m size addr.toNat true s = .error .align ∧ accessCheck m size addr.toNat false s = .error .align
        ∧ ∀ w, Does (.registerWrite m size addr w) s fun t =>
            t.reply m = .error .align ∧ (s.on GCTL_BUSERR.VALID = false → t.get GCTL_BUSERR.CODE = 1) ∧ Frame errorParts s t) ∧
    (addr.toNat < 0x800000 → addr.toNat % 4 ≠ 0 → Does (.pairLoRead m addr) s fun t =>
      t.reply m = .error .align ∧ (s.on GCTL_BUSERR.VALID = false → t.get GCTL_BUSERR.CODE = 1) ∧ Frame errorParts s t) ∧
    (addr.toNat < 0x800000 → size = .word → addr.toNat % 4 = 0 →
      accessCheck m size addr.toNat true s ≠ .error .align ∧ accessCheck m size addr.toNat false s ≠ .error .align) ∧
    (0x800000 ≤ addr.toNat → size = .byte ∨ (size = .half ∧ addr.toNat % 2 = 0) →
      accessCheck m size addr.toNat false s ≠ .error .align)

/-- A source is pending and enabled, routed by `route`, and of priority `pri` or above. -/
def drives (s : State) (route : Routes → Bool) (pri : Nat) (src : Fin 128) : Prop :=
  s.evPending src = true ∧ s.evEnabled src = true ∧ route (s.routes src) = true ∧ pri ≤ s.get (EV_CFG.PRI src)

/-- What a read of the identity word of a pin answers, R302: the driving source of highest priority, the lowest number among
equals, or NONE. -/
def names (s : State) (route : Routes → Bool) (pri addr : Nat) : Prop :=
  ∀ m, s.mayRead m addr → s.isBad addr = false → Does (.pairLoRead m (BitVec.ofNat 24 addr)) s fun t =>
    ((∀ src, ¬ drives s route pri src) → ∃ w : Word, t.reply m = .data w ∧ w.getLsbD 8 = true)
      ∧ (∀ src, drives s route pri src →
          (∀ x, drives s route pri x → s.get (EV_CFG.PRI x) < s.get (EV_CFG.PRI src)
            ∨ (s.get (EV_CFG.PRI x) = s.get (EV_CFG.PRI src) ∧ src ≤ x)) →
          t.reply m = .data (BitVec.ofNat 32 src))
      ∧ Frame [.replies] s t

/-- R302: each interrupt pin is asserted while a source drives it, outside reset, NAP and HIBERNATE (R35), and its identity word names the source to be served first. -/
def Obligations.InterruptPinsFollow : Prop :=
  ∀ s : State,
    (s.irq0Low = true ↔ s.fabricOn = true ∧ ∃ src, drives s (·.irq0) (s.get EV_GCFG.IRQ0PRI) src) ∧
    (s.irq1Low = true ↔ s.fabricOn = true ∧ ∃ src, drives s (·.irq1) (s.get EV_GCFG.IRQ1PRI) src) ∧
    names s (·.irq0) (s.get EV_GCFG.IRQ0PRI) EV_IRQ0ID ∧ names s (·.irq1) (s.get EV_GCFG.IRQ1PRI) EV_IRQ1ID

/-- The roll-back counter, of 16 bits, only increases, and only at the end of CONFIRM, R371: whatever the command, the word stays as it
is, but at the end of an update command, which leaves it unless the command is CONFIRM and never lowers it. MGS_RBCNT reads it, and no write
reaches it. No image whose index is below it verifies, when it is written or when it boots. -/
def Obligations.RollbackOnlyIncreases : Prop :=
  ∀ s : State,
    (∀ c, c ≠ .updateCommandEnd → Does c s fun t => t.rbcnt = s.rbcnt) ∧
    (Does .updateCommandEnd s fun t => s.rbcnt ≤ t.rbcnt ∧ (s.mgs.updCmd ≠ 5 → t.rbcnt = s.rbcnt)) ∧
    (∀ m, s.mayRead m MGS_RBCNT → s.isBad MGS_RBCNT = false → Does (.pairLoRead m (BitVec.ofNat 24 MGS_RBCNT)) s fun t =>
      t.reply m = .data (s.rbcnt.setWidth 32) ∧ Frame [.replies] s t) ∧
    (∀ m size w, s.voterBlocks m = false → Does (.registerWrite m size (BitVec.ofNat 24 MGS_RBCNT) w) s fun t =>
      ∃ e, t.reply m = .error e) ∧
    (∀ x : Slot, x.index < s.rbcnt.toNat → s.imageCheck x ≠ 0) ∧
    (∀ b, (s.mgs.slot b).index < s.rbcnt.toNat → s.bootOk b = false)

/-- Whatever the command, the recipe slots change at the end of a planner command alone: no write, reset, restore or store reaches
them. -/
def Obligations.RecipesKept : Prop :=
  ∀ (c : Instr) (s : State), (∀ ok flash, c ≠ .plCommandEnd ok flash) → Does c s fun t => t.recipes = s.recipes

/-- Words written to MGS_SECBUF and MGS_AURESP are never returned: a write leaves every word of both as it reads, and a reset or
the end of a session clears MGS_SECBUF, R382. -/
def Obligations.MailboxSecretsHidden : Prop :=
  ∀ (s : State) (m : Master),
    (∀ (k : Fin 16) w, s.mayWrite m (MGS_SECBUF k) →
        (∀ r, s.mgs.sec = some r → s.needsSession r.cmd r.host = true → s.sessionOf m = true) →
      Does (.registerWrite m .word (BitVec.ofNat 24 (MGS_SECBUF k)) w) s fun t =>
      (∀ a, t.rd a = s.rd a) ∧ t.mgs = { s.mgs with secIn := Sparse.set (fun _ => 0) s.mgs.secIn k w } ∧ t.reply m = .done) ∧
    (∀ (k : Fin 16) w r, s.mayWrite m (MGS_SECBUF k) → s.mgs.sec = some r → s.needsSession r.cmd r.host = true → s.sessionOf m = false →
      Does (.registerWrite m .word (BitVec.ofNat 24 (MGS_SECBUF k)) w) s fun t =>
        t.reply m = .error .restricted ∧ t.mgs = s.mgs ∧ Frame errorParts s t) ∧
    (∀ (k : Fin 8) w, s.mayWrite m (MGS_AURESP k) → Does (.registerWrite m .word (BitVec.ofNat 24 (MGS_AURESP k)) w) s fun t =>
      (∀ a, t.rd a = s.rd a) ∧ t.mgs = { s.mgs with
          resp := Sparse.set (fun _ => 0) s.mgs.resp k w, respDue := s.mgs.respDue || k.val = 7 } ∧ t.reply m = .done) ∧
    (∀ k : Fin 16, s.mayRead m (MGS_SECBUF k) → s.isBad (MGS_SECBUF k) = false →
      Does (.pairLoRead m (BitVec.ofNat 24 (MGS_SECBUF k))) s fun t => t.reply m = .data (s.latest (MGS_SECBUF k)) ∧ Frame [.replies] s t) ∧
    (∀ c, c = .powerOnReset ∨ c = .resetPin ∨ (c = .pwrgoodLow ∧ (s.power.inReset = true ∨ s.runState ≠ 3)) ∨ c = .brownOut
        ∨ (c = .softwareReset m ∧ s.mayGuard m GCTL_PWRDOM ∧ othersKept s 4)
        ∨ (∃ lost, c = .clockFailure lost ∧ (s.power.inReset = true ∨ s.runState < 2 ∨ (s.runState = 2 ∧ lost = true)))
        ∨ (∃ src n, c = .hibernateWake ⟨src, n⟩ ∧ s.runState = 3 ∧ s.power.inReset = false ∧ s.wakesFrom 3 src = true)
        ∨ (c = .hostSessionTimeout ∧ s.mgs.hostAuth = true)
        ∨ (c = .debugSessionEnd ∧ s.mgs.dbgAuth = true ∧ s.runState < 2)
        ∨ (c = .securityCommandEnd ∧ ∃ r, s.mgs.sec = some r ∧ r.cmd = 1)
        ∨ (∃ (can : Fin 2) (node : Fin 128) (sess : Fin 256), c = .contextIdleTimeout can node sess ∧ s.stackOn = true ∧ s.ctxAuth ⟨can, node, sess⟩ = true)
        ∨ (c = .keyEraseComplete ∧ s.power.inReset = false ∧ s.runState ≠ 3 ∧ s.mgs.erase.isSome = true) →
      Does c s fun t => t.mgs.secIn = [] ∧ ∀ k : Fin 16, t.rd (MGS_SECBUF k) = 0)
end

