-- ==== Sys2Proof/Laws/Sparse.lean ====
section
/-!
SUPPORT. Laws/Sparse.lean: keyed plain data: a read after a write, and the canonical form, which every write keeps.
-/

namespace Sys2Proof.Machine.Sparse

set_option Elab.async false

variable {α : Type} {d : Nat → α} {m : Sparse α} {k j : Nat} {v : α}

@[simp] theorem get_nil : get d ([] : Sparse α) k = d k := rfl

theorem get_cons {k' : Nat} {v' : α} : get d ((k', v') :: m) k = if k' = k then v' else get d m k := rfl

theorem erase_eq_filter : erase k m = m.filter fun x => decide (x.1 ≠ k) := by
  induction m with
  | nil => rfl
  | cons x m ih =>
    obtain ⟨k', v'⟩ := x
    by_cases h : k' = k <;> simp [erase, h, ih]

theorem get_erase_self : get d (erase k m) k = d k := by
  induction m with
  | nil => rfl
  | cons x m ih =>
    obtain ⟨k', v'⟩ := x
    by_cases h : k' = k <;> simp [erase, get, h, ih]

theorem get_erase_ne (h : j ≠ k) : get d (erase k m) j = get d m j := by
  induction m with
  | nil => rfl
  | cons x m ih =>
    obtain ⟨k', v'⟩ := x
    by_cases hk : k' = k
    · subst hk; simp [erase, get, ih, Ne.symm h]
    · simp [erase, get, hk, ih]

theorem get_insert_self (h : ∀ x ∈ m, x.1 ≠ k) : get d (insert k v m) k = v := by
  induction m with
  | nil => simp [insert, get]
  | cons x m ih =>
    obtain ⟨k', v'⟩ := x
    have hk : k' ≠ k := h (k', v') (by simp)
    by_cases hl : k < k'
    · simp [insert, get, hl]
    · simp [insert, get, hl, hk, ih fun x hx => h x (by simp [hx])]

theorem get_insert_ne (h : j ≠ k) : get d (insert k v m) j = get d m j := by
  induction m with
  | nil => simp [insert, get, Ne.symm h]
  | cons x m ih =>
    obtain ⟨k', v'⟩ := x
    by_cases hl : k < k'
    · simp [insert, get, hl, Ne.symm h]
    · simp [insert, get, hl, ih]

theorem key_ne_of_mem_erase : ∀ x ∈ erase k m, x.1 ≠ k := by
  intro x hx
  rw [erase_eq_filter] at hx
  simpa using (List.mem_filter.mp hx).2

variable [DecidableEq α]

/-- A read of the key just written. -/
@[simp] theorem get_set_self : get d (set d m k v) k = v := by
  unfold set
  split
  · rename_i h; rw [get_erase_self, h]
  · exact get_insert_self key_ne_of_mem_erase

/-- A read of any other key. -/
theorem get_set_ne (h : j ≠ k) : get d (set d m k v) j = get d m j := by
  unfold set
  split
  · exact get_erase_ne h
  · rw [get_insert_ne h, get_erase_ne h]

theorem get_set : get d (set d m k v) j = if j = k then v else get d m j := by
  by_cases h : j = k
  · subst h; simp
  · simp [h, get_set_ne h]

@[simp] theorem get_modify_self {f : α → α} : get d (modify d m k f) k = f (get d m k) := get_set_self

theorem get_modify_ne {f : α → α} (h : j ≠ k) : get d (modify d m k f) j = get d m j := get_set_ne h

/-- The canonical form, in terms of the entries. -/
theorem wf_iff : wf d m ↔ m.Pairwise (fun x y => x.1 < y.1) ∧ ∀ x ∈ m, x.2 ≠ d x.1 := by
  induction m with
  | nil => simp [wf]
  | cons x m ih =>
    cases m with
    | nil => simp [wf]
    | cons y m =>
      simp only [wf, Bool.and_eq_true, decide_eq_true_eq, ih]
      constructor
      · rintro ⟨⟨hv, hlt⟩, hp, ha⟩
        refine ⟨List.pairwise_cons.mpr ⟨?_, hp⟩, List.forall_mem_cons.mpr ⟨hv, ha⟩⟩
        intro z hz
        rcases List.mem_cons.mp hz with rfl | hz
        · exact hlt
        · exact hlt.trans ((List.pairwise_cons.mp hp).1 z hz)
      · rintro ⟨hp, ha⟩
        obtain ⟨h1, hp⟩ := List.pairwise_cons.mp hp
        exact ⟨⟨ha x (by simp), h1 y (by simp)⟩, hp, fun z hz => ha z (by simp [hz])⟩

theorem wf_nil : wf d ([] : Sparse α) := rfl

/-- Leaving entries out keeps the canonical form. -/
theorem wf_filter (p : Nat × α → Bool) (h : wf d m) : wf d (m.filter p) := by
  rw [wf_iff] at h ⊢
  exact ⟨h.1.filter p, fun x hx => h.2 x (List.mem_filter.mp hx).1⟩

/-- Two canonical lists, one cut above a key and one below it, join to a canonical list. -/
theorem wf_split {n : Sparse α} (b : Nat) (h : wf d m) (h' : wf d n) :
    wf d ((m.filter fun x => decide (x.1 < b)) ++ n.filter fun x => decide (b ≤ x.1)) := by
  have h1 := wf_iff.mp (wf_filter (fun x => decide (x.1 < b)) h)
  have h2 := wf_iff.mp (wf_filter (fun x => decide (b ≤ x.1)) h')
  refine wf_iff.mpr ⟨List.pairwise_append.mpr ⟨h1.1, h2.1, fun x hx y hy => ?_⟩, fun x hx => ?_⟩
  · have hx := (List.mem_filter.mp hx).2
    have hy := (List.mem_filter.mp hy).2
    simp only [decide_eq_true_eq] at hx hy
    omega
  · exact (List.mem_append.mp hx).elim (h1.2 x) (h2.2 x)

theorem mem_insert {x : Nat × α} : x ∈ insert k v m ↔ x = (k, v) ∨ x ∈ m := by
  induction m with
  | nil => simp [insert]
  | cons y m ih =>
    obtain ⟨k', v'⟩ := y
    by_cases hl : k < k'
    · simp [insert, hl]
    · simp [insert, hl, ih]; tauto

theorem pairwise_insert (h : m.Pairwise fun x y => x.1 < y.1) (hk : ∀ x ∈ m, x.1 ≠ k) :
    (insert k v m).Pairwise fun x y => x.1 < y.1 := by
  induction m with
  | nil => simp [insert]
  | cons y m ih =>
    obtain ⟨k', v'⟩ := y
    obtain ⟨h1, h2⟩ := List.pairwise_cons.mp h
    by_cases hl : k < k'
    · simp only [insert, hl, if_true]
      refine List.pairwise_cons.mpr ⟨?_, h⟩
      intro z hz
      rcases List.mem_cons.mp hz with rfl | hz
      · exact hl
      · exact hl.trans (h1 z hz)
    · simp only [insert, hl, if_false]
      refine List.pairwise_cons.mpr ⟨?_, ih h2 fun x hx => hk x (by simp [hx])⟩
      intro z hz
      have hne : k' ≠ k := hk (k', v') (by simp)
      rcases mem_insert.mp hz with rfl | hz
      · show k' < k; omega
      · exact h1 z hz

/-- A write keeps the canonical form. -/
theorem wf_set (h : wf d m) : wf d (set d m k v) := by
  have he : wf d (erase k m) := by rw [erase_eq_filter]; exact wf_filter _ h
  unfold set
  split
  · exact he
  · rename_i hv
    rw [wf_iff] at he ⊢
    refine ⟨pairwise_insert he.1 key_ne_of_mem_erase, fun x hx => ?_⟩
    rcases mem_insert.mp hx with rfl | hx
    · exact hv
    · exact he.2 x hx

theorem wf_modify {f : α → α} (h : wf d m) : wf d (modify d m k f) := wf_set h

/-- Every entry after a write is the written one or was there before. -/
theorem mem_set {x : Nat × α} (hx : x ∈ set d m k v) : x = (k, v) ∨ x ∈ m := by
  unfold set at hx
  split at hx
  · rw [erase_eq_filter] at hx; exact .inr (List.mem_filter.mp hx).1
  · rcases mem_insert.mp hx with rfl | hx
    · exact .inl rfl
    · rw [erase_eq_filter] at hx; exact .inr (List.mem_filter.mp hx).1

/-- A read gives an entry or the default. -/
theorem get_mem_or : (k, get d m k) ∈ m ∨ get d m k = d k := by
  induction m with
  | nil => exact .inr rfl
  | cons y m ih =>
    obtain ⟨k', v'⟩ := y
    by_cases h : k' = k
    · subst h; simp [get]
    · rcases ih with h' | h'
      · simp [get, h, h']
      · right; simpa [get, h] using h'

/-- Many writes in a row keep the canonical form. -/
theorem wf_foldl_set {β : Type} (g : β → Nat) (w : β → α) (l : List β) (h : wf d m) :
    wf d (l.foldl (fun m x => set d m (g x) (w x)) m) := by
  induction l generalizing m with
  | nil => exact h
  | cons x l ih => exact ih (wf_set h)

end Sys2Proof.Machine.Sparse
end

