-- ==== Sys2Proof/Laws/Ok.lean ====
section
/-!
SUPPORT. Laws/Ok.lean: what every operation's lemma says: which parts of the state it can change, and that a good state stays
good; and the rules by which such lemmas go together.
-/

namespace Sys2Proof.Machine

set_option Elab.async false

/-- `t` comes from `s` by a change of the parts in `W` alone, and is good if `s` is. -/
def Ok (W : List Part) (s t : State) : Prop := Frame W s t ∧ (Good s → Good t)

/-- The same of an operation that also answers a value. -/
def OkP {α : Type} (W : List Part) (s : State) (x : α × State) : Prop := Ok W s x.2

/-- The same of an operation that may answer without a state. -/
def OkE {ε α : Type} (W : List Part) (s : State) (x : Except ε (α × State)) : Prop := ∀ a t, x = .ok (a, t) → Ok W s t

/-- The same of a command's outcome. -/
def OkO (W : List Part) (s : State) (o : Out) : Prop := ∀ t, o = .next t → Ok W s t

/-- A number for each part. -/
def Part.code : Part → Nat
  | .reg r => 64 + r.ctorIdx
  | p => p.ctorIdx

theorem regIdx_inj {r r' : RegName} (h : r.ctorIdx = r'.ctorIdx) : r = r' := by
  have := congrArg RegName.ofNat h
  rwa [RegName.ofNat_ctorIdx, RegName.ofNat_ctorIdx] at this

theorem Part.code_inj {p q : Part} (h : p.code = q.code) : p = q := by
  cases p <;> cases q <;> first | rfl | (exact congrArg Part.reg (regIdx_inj (Nat.add_left_cancel h))) | skip
  all_goals simp [Part.code, Part.ctorIdx] at h
  all_goals omega

/-- Whether a part is one of a list, or is a register where the list has them all. -/
def covered (p : Part) (m : List Part) : Bool :=
  m.any (fun q => Nat.beq p.code q.code) || (Nat.ble 64 p.code && m.any fun q => Nat.beq q.code 1)

/-- Every part of the first list is covered by the second. -/
def within (l m : List Part) : Bool := l.all fun p => covered p m

theorem any_code {p : Part} {m : List Part} (h : (m.any fun q => Nat.beq p.code q.code) = true) : p ∈ m := by
  obtain ⟨q, hq, e⟩ := List.any_eq_true.mp h
  rw [Part.code_inj (Nat.eq_of_beq_eq_true e)]
  exact hq

theorem regs_code {m : List Part} (h : (m.any fun q => Nat.beq q.code 1) = true) : .regs ∈ m := by
  obtain ⟨q, hq, e⟩ := List.any_eq_true.mp h
  have : q = .regs := Part.code_inj (Nat.eq_of_beq_eq_true e)
  exact this ▸ hq

theorem within_mem {l m : List Part} (h : within l m = true) {p : Part} (hp : p ∈ l) : p ∈ m ∨ (64 ≤ p.code ∧ .regs ∈ m) := by
  have := List.all_eq_true.mp h p hp
  simp only [covered, Bool.or_eq_true, Bool.and_eq_true] at this
  exact this.imp any_code fun ⟨h1, h2⟩ => ⟨Nat.le_of_ble_eq_true h1, regs_code h2⟩

theorem Frame.refl {W : List Part} {s : State} : Frame W s s :=
  ⟨fun p _ => by cases p <;> first | rfl | trivial, .inr fun _ _ => rfl⟩

theorem Frame.trans {W : List Part} {s t u : State} (h : Frame W s t) (h' : Frame W t u) : Frame W s u := by
  refine ⟨fun p hp => ?_, ?_⟩
  · have h1 := h.1 p hp
    have h2 := h'.1 p hp
    cases p <;> first | exact Eq.trans h2 h1 | trivial
  · rcases h.2 with h1 | h1
    · exact .inl h1
    · exact h'.2.imp id fun h2 a ha => (h2 a ha).trans (h1 a ha)

theorem Frame.mono {W W' : List Part} {s t : State} (h : Frame W s t) (hw : within W W' = true) : Frame W' s t := by
  refine ⟨fun p hp => ?_, ?_⟩
  · by_cases hl : p ∈ W
    · rcases within_mem hw hl with h1 | ⟨h1, _⟩
      · exact absurd h1 hp
      · cases p <;> trivial
    · exact h.1 p hl
  · rcases h.2 with h1 | h1
    · rcases within_mem hw h1 with h2 | ⟨h2, _⟩
      · exact .inl h2
      · exact absurd h2 (by decide)
    · by_cases hr : .regs ∈ W'
      · exact .inl hr
      · refine .inr fun a ha => h1 a fun r hl => ?_
        rcases within_mem hw hl with h2 | ⟨_, h2⟩
        · exact ha r h2
        · exact absurd h2 hr

variable {W W' : List Part} {s t u : State} {α β ε : Type}

theorem Ok.refl : Ok W s s := ⟨Frame.refl, id⟩

theorem Ok.trans (h : Ok W s t) (h' : Ok W t u) : Ok W s u := ⟨h.1.trans h'.1, fun g => h'.2 (h.2 g)⟩

theorem Ok.mono (h : Ok W s t) (hw : within W W' = true) : Ok W' s t := ⟨h.1.mono hw, h.2⟩

/-- A last operation, after those that led to `t`. -/
theorem Ok.via (h : Ok W' t u) (hw : within W' W = true) (h0 : Ok W s t) : Ok W s u := h0.trans (h.mono hw)

theorem OkP.via {x : α × State} (h : OkP W' t x) (hw : within W' W = true) (h0 : Ok W s t) : OkP W s x := h0.trans (Ok.mono h hw)

theorem OkE.via {x : Except ε (α × State)} (h : OkE W' t x) (hw : within W' W = true) (h0 : Ok W s t) : OkE W s x :=
  fun a t' e => h0.trans ((h a t' e).mono hw)

theorem OkO.via {o : Out} (h : OkO W' t o) (hw : within W' W = true) (h0 : Ok W s t) : OkO W s o :=
  fun t' e => h0.trans ((h t' e).mono hw)

theorem OkP.mk {a : α} (h : Ok W s t) : OkP W s (a, t) := h

theorem OkE.ok {a : α} (h : Ok W s t) : OkE W s (.ok (a, t) : Except ε (α × State)) := by
  intro b u e
  cases e
  exact h

theorem OkE.error {e : ε} : OkE W s (.error e : Except ε (α × State)) := by
  intro b u h
  cases h

theorem OkO.next (h : Ok W s t) : OkO W s (.next t) := by
  intro u e
  cases e
  exact h

theorem OkP.snd {x : α × State} (h : OkP W s x) : Ok W s x.2 := h

theorem OkP.of_eq {x : α × State} {a : α} (e : x = (a, t)) (h : OkP W s x) : Ok W s t := by
  subst e
  exact h

theorem OkE.of_eq {x : Except ε (α × State)} {a : α} (e : x = .ok (a, t)) (h : OkE W s x) : Ok W s t := h a t e

theorem Ok.ite {c : Prop} [Decidable c] {x y : State} (h : Ok W s x) (h' : Ok W s y) : Ok W s (if c then x else y) := by
  split <;> assumption

theorem Ok.dite {c : Prop} [Decidable c] {x : c → State} {y : ¬ c → State} (h : ∀ p, Ok W s (x p)) (h' : ∀ p, Ok W s (y p)) :
    Ok W s (if p : c then x p else y p) := by
  split
  · exact h _
  · exact h' _

theorem Ok.withS {x : State} {e : State} (hx : Ok W s x) (h : Ok W s x → Ok W s e) : Ok W s e := h hx

theorem Ok.withP {x : α × State} {e : State} (hx : OkP W s x) (h : OkP W s x → Ok W s e) : Ok W s e := h hx

theorem OkP.ite {c : Prop} [Decidable c] {x y : α × State} (h : OkP W s x) (h' : OkP W s y) : OkP W s (if c then x else y) := by
  split <;> assumption

theorem OkP.dite {c : Prop} [Decidable c] {x : c → α × State} {y : ¬ c → α × State} (h : ∀ p, OkP W s (x p)) (h' : ∀ p, OkP W s (y p)) :
    OkP W s (if p : c then x p else y p) := by
  split
  · exact h _
  · exact h' _

theorem OkP.withS {x : State} {e : α × State} (hx : Ok W s x) (h : Ok W s x → OkP W s e) : OkP W s e := h hx

theorem OkP.withP {x : α × State} {e : β × State} (hx : OkP W s x) (h : OkP W s x → OkP W s e) : OkP W s e := h hx

theorem OkE.ite {c : Prop} [Decidable c] {x y : Except ε (α × State)} (h : OkE W s x) (h' : OkE W s y) : OkE W s (if c then x else y) := by
  split <;> assumption

theorem OkE.dite {c : Prop} [Decidable c] {x : c → Except ε (α × State)} {y : ¬ c → Except ε (α × State)} (h : ∀ p, OkE W s (x p)) (h' : ∀ p, OkE W s (y p)) :
    OkE W s (if p : c then x p else y p) := by
  split
  · exact h _
  · exact h' _

theorem OkE.withS {x : State} {e : Except ε (α × State)} (hx : Ok W s x) (h : Ok W s x → OkE W s e) : OkE W s e := h hx

theorem OkE.withP {x : α × State} {e : Except ε (β × State)} (hx : OkP W s x) (h : OkP W s x → OkE W s e) : OkE W s e := h hx

theorem OkO.ite {c : Prop} [Decidable c] {x y : Out} (h : OkO W s x) (h' : OkO W s y) : OkO W s (if c then x else y) := by
  split <;> assumption

theorem OkO.dite {c : Prop} [Decidable c] {x : c → Out} {y : ¬ c → Out} (h : ∀ p, OkO W s (x p)) (h' : ∀ p, OkO W s (y p)) :
    OkO W s (if p : c then x p else y p) := by
  split
  · exact h _
  · exact h' _

theorem OkO.withS {x : State} {e : Out} (hx : Ok W s x) (h : Ok W s x → OkO W s e) : OkO W s e := h hx

theorem OkO.withP {x : α × State} {e : Out} (hx : OkP W s x) (h : OkP W s x → OkO W s e) : OkO W s e := h hx

theorem Ok.forEach {β : Type} {l : List β} {f : β → State → State} (h : ∀ x u, Ok W u (f x u)) (h0 : Ok W s t) :
    Ok W s (forEach l f t) := by
  unfold Machine.forEach
  induction l generalizing t with
  | nil => exact h0
  | cons x l ih => exact ih (h0.trans (h x t))

theorem Ok.foldl {l : List β} {f : State → β → State} (h : ∀ u x, Ok W u (f u x)) (h0 : Ok W s t) : Ok W s (l.foldl f t) := by
  induction l generalizing t with
  | nil => exact h0
  | cons x l ih => exact ih (h0.trans (h t x))

theorem OkP.foldl {l : List β} {f : α × State → β → α × State} {p : α × State} (h : ∀ a u x, OkP W u (f (a, u) x))
    (h0 : OkP W s p) : OkP W s (l.foldl f p) := by
  induction l generalizing p with
  | nil => exact h0
  | cons x l ih => exact ih (Ok.trans h0 (h p.1 p.2 x))

theorem Ok.applyIf {b : Bool} {f : State → State} (h : ∀ u, Ok W u (f u)) (h0 : Ok W s t) : Ok W s (applyIf b f t) := by
  cases b
  · exact h0
  · exact h0.trans (h t)

theorem Ok.mk' (hf : Frame W s t) (hg : Good s → Good t) : Ok W s t := ⟨hf, hg⟩

theorem Ok.idS (h : Ok W s t) : Ok W s (id t) := h

theorem OkP.of_eq' {x r : α × State} (e : x = r) (h : OkP W s x) : OkP W s r := e ▸ h

theorem covered_mono {p : Part} {m n : List Part} (h : ∀ q ∈ m, q ∈ n) (hc : covered p m = true) : covered p n = true := by
  simp only [covered, Bool.or_eq_true, Bool.and_eq_true] at *
  refine hc.imp (fun h1 => ?_) fun ⟨h0, h1⟩ => ⟨h0, ?_⟩ <;>
    (obtain ⟨q, hq, e⟩ := List.any_eq_true.mp h1; exact List.any_eq_true.mpr ⟨q, h q hq, e⟩)

theorem covered_self {p : Part} {m : List Part} (h : p ∈ m) : covered p m = true := by
  simp only [covered, Bool.or_eq_true]
  exact .inl (List.any_eq_true.mpr ⟨p, h, Nat.beq_refl _⟩)

theorem within_left {l m n : List Part} (h : within l m = true) : within l (m ++ n) = true :=
  List.all_eq_true.mpr fun p hp => covered_mono (fun _ hq => List.mem_append_left _ hq) (List.all_eq_true.mp h p hp)

theorem within_right {l m : List Part} : within l (m ++ l) = true :=
  List.all_eq_true.mpr fun _ hp => covered_self (List.mem_append_right _ hp)

theorem within_cons {p : Part} {l m : List Part} (h : within l m = true) : within l (p :: m) = true :=
  List.all_eq_true.mpr fun _ hp => covered_mono (fun _ hq => List.mem_cons_of_mem _ hq) (List.all_eq_true.mp h _ hp)

/-! ### Words of a register -/

theorem State.wr_at {a : Nat} {w : Word} {r : RegName} (h : r.at a) : Ok [.reg r] s (s.wr a w) := by
  refine ⟨⟨fun p hp => ?_, .inr fun b hb => ?_⟩, fun g => { g with regs := Sparse.wf_set g.regs }⟩
  · cases p <;> first | rfl | trivial
  · exact Sparse.get_set_ne fun e => hb r (List.mem_singleton.mpr rfl) (e ▸ h)

theorem State.put_at {f : Fld} {v : Nat} {r : RegName} (h : r.at f.addr) : Ok [.reg r] s (s.put f v) := State.wr_at h

theorem State.put_at2 {c : Prop} [Decidable c] {f g : Fld} {v : Nat} {r r' : RegName} (h : r.at f.addr) (h' : r'.at g.addr) :
    Ok [.reg r, .reg r'] s (s.put (if c then f else g) v) := by
  split
  · exact (State.put_at h).mono (by simp [within, covered])
  · exact (State.put_at h').mono (by simp [within, covered])

theorem State.putB_at {f : Fld} {v : Bool} {r : RegName} (h : r.at f.addr) : Ok [.reg r] s (s.putB f v) := State.wr_at h

theorem State.putI_at {f : Fld} {v : Int} {r : RegName} (h : r.at f.addr) : Ok [.reg r] s (s.putI f v) := State.wr_at h

theorem State.addSat_at {f : Fld} {v : Nat} {r : RegName} (h : r.at f.addr) : Ok [.reg r] s (s.addSat f v) := State.wr_at h

theorem State.inc_at {f : Fld} {r : RegName} (h : r.at f.addr) : Ok [.reg r] s (s.inc f) := State.wr_at h

theorem State.incWrap_at {f : Fld} {r : RegName} (h : r.at f.addr) : Ok [.reg r] s (s.incWrap f) := State.wr_at h

theorem State.putBitAt_at {a b : Nat} {v : Bool} {r : RegName} (h : r.at a) : Ok [.reg r] s (s.putBitAt a b v) := State.wr_at h

theorem State.putPair_at {a : Nat} {v : Int} {r r' : RegName} (h : r.at a) (h' : r'.at (a + 4)) :
    Ok [.reg r, .reg r'] s (s.putPair a v) :=
  Ok.trans ((State.wr_at h).mono (by simp [within, covered])) ((State.wr_at h').mono (by simp [within, covered]))


theorem at_GCTL_ID : RegName.at .GCTL_ID GCTL_ID := ⟨0, 0, rfl⟩
theorem at_GCTL_PROD : RegName.at .GCTL_PROD GCTL_PROD := ⟨0, 0, rfl⟩
theorem at_GCTL_SCRATCH : RegName.at .GCTL_SCRATCH GCTL_SCRATCH := ⟨0, 0, rfl⟩
theorem at_GCTL_BUSERR : RegName.at .GCTL_BUSERR GCTL_BUSERR := ⟨0, 0, rfl⟩
theorem at_GCTL_BUSERRADDR : RegName.at .GCTL_BUSERRADDR GCTL_BUSERRADDR := ⟨0, 0, rfl⟩
theorem at_GCTL_BUSERRCNT : RegName.at .GCTL_BUSERRCNT GCTL_BUSERRCNT := ⟨0, 0, rfl⟩
theorem at_GCTL_SEQERR : RegName.at .GCTL_SEQERR GCTL_SEQERR := ⟨0, 0, rfl⟩
theorem at_GCTL_PARERR : RegName.at .GCTL_PARERR GCTL_PARERR := ⟨0, 0, rfl⟩
theorem at_GCTL_BUFHOLD : RegName.at .GCTL_BUFHOLD GCTL_BUFHOLD := ⟨0, 0, rfl⟩
theorem at_GCTL_BUFSTAT : RegName.at .GCTL_BUFSTAT GCTL_BUFSTAT := ⟨0, 0, rfl⟩
theorem at_GCTL_CLAMPREQHI : RegName.at .GCTL_CLAMPREQHI GCTL_CLAMPREQHI := ⟨0, 0, rfl⟩
theorem at_GCTL_CLAMPADDR : RegName.at .GCTL_CLAMPADDR GCTL_CLAMPADDR := ⟨0, 0, rfl⟩
theorem at_GCTL_CLAMPREQ : RegName.at .GCTL_CLAMPREQ GCTL_CLAMPREQ := ⟨0, 0, rfl⟩
theorem at_GCTL_CLAMPAPP : RegName.at .GCTL_CLAMPAPP GCTL_CLAMPAPP := ⟨0, 0, rfl⟩
theorem at_GCTL_CLAMPAPPHI : RegName.at .GCTL_CLAMPAPPHI GCTL_CLAMPAPPHI := ⟨0, 0, rfl⟩
theorem at_GCTL_PWRDOM : RegName.at .GCTL_PWRDOM GCTL_PWRDOM := ⟨0, 0, rfl⟩
theorem at_GCTL_PWRSTAT : RegName.at .GCTL_PWRSTAT GCTL_PWRSTAT := ⟨0, 0, rfl⟩
theorem at_GCTL_RUNCTL : RegName.at .GCTL_RUNCTL GCTL_RUNCTL := ⟨0, 0, rfl⟩
theorem at_GCTL_RUNSTAT : RegName.at .GCTL_RUNSTAT GCTL_RUNSTAT := ⟨0, 0, rfl⟩
theorem at_GCTL_CLKSTAT : RegName.at .GCTL_CLKSTAT GCTL_CLKSTAT := ⟨0, 0, rfl⟩
theorem at_GCTL_RTC_LO : RegName.at .GCTL_RTC_LO GCTL_RTC_LO := ⟨0, 0, rfl⟩
theorem at_GCTL_RTC_HI : RegName.at .GCTL_RTC_HI GCTL_RTC_HI := ⟨0, 0, rfl⟩
theorem at_GCTL_RTCALM : RegName.at .GCTL_RTCALM GCTL_RTCALM := ⟨0, 0, rfl⟩
theorem at_GCTL_RSTCAUSE : RegName.at .GCTL_RSTCAUSE GCTL_RSTCAUSE := ⟨0, 0, rfl⟩
theorem at_GCTL_STORE : RegName.at .GCTL_STORE GCTL_STORE := ⟨0, 0, rfl⟩
theorem at_GCTL_STORESTAT : RegName.at .GCTL_STORESTAT GCTL_STORESTAT := ⟨0, 0, rfl⟩
theorem at_AX_CTL (i : Nat) : RegName.at .AX_CTL (AX_CTL i) := ⟨i, 0, rfl⟩
theorem at_AX_MODE (i : Nat) : RegName.at .AX_MODE (AX_MODE i) := ⟨i, 0, rfl⟩
theorem at_AX_TGT_LO (i : Nat) : RegName.at .AX_TGT_LO (AX_TGT_LO i) := ⟨i, 0, rfl⟩
theorem at_AX_TGT_HI (i : Nat) : RegName.at .AX_TGT_HI (AX_TGT_HI i) := ⟨i, 0, rfl⟩
theorem at_AX_VMAX (i : Nat) : RegName.at .AX_VMAX (AX_VMAX i) := ⟨i, 0, rfl⟩
theorem at_AX_AMAX (i : Nat) : RegName.at .AX_AMAX (AX_AMAX i) := ⟨i, 0, rfl⟩
theorem at_AX_DMAX (i : Nat) : RegName.at .AX_DMAX (AX_DMAX i) := ⟨i, 0, rfl⟩
theorem at_AX_QDMAX (i : Nat) : RegName.at .AX_QDMAX (AX_QDMAX i) := ⟨i, 0, rfl⟩
theorem at_AX_JERK (i : Nat) : RegName.at .AX_JERK (AX_JERK i) := ⟨i, 0, rfl⟩
theorem at_AX_VTGT (i : Nat) : RegName.at .AX_VTGT (AX_VTGT i) := ⟨i, 0, rfl⟩
theorem at_AX_POS_LO (i : Nat) : RegName.at .AX_POS_LO (AX_POS_LO i) := ⟨i, 0, rfl⟩
theorem at_AX_POS_HI (i : Nat) : RegName.at .AX_POS_HI (AX_POS_HI i) := ⟨i, 0, rfl⟩
theorem at_AX_VEL (i : Nat) : RegName.at .AX_VEL (AX_VEL i) := ⟨i, 0, rfl⟩
theorem at_AX_ACC (i : Nat) : RegName.at .AX_ACC (AX_ACC i) := ⟨i, 0, rfl⟩
theorem at_AX_LIMN_LO (i : Nat) : RegName.at .AX_LIMN_LO (AX_LIMN_LO i) := ⟨i, 0, rfl⟩
theorem at_AX_LIMN_HI (i : Nat) : RegName.at .AX_LIMN_HI (AX_LIMN_HI i) := ⟨i, 0, rfl⟩
theorem at_AX_LIMP_LO (i : Nat) : RegName.at .AX_LIMP_LO (AX_LIMP_LO i) := ⟨i, 0, rfl⟩
theorem at_AX_LIMP_HI (i : Nat) : RegName.at .AX_LIMP_HI (AX_LIMP_HI i) := ⟨i, 0, rfl⟩
theorem at_AX_LIMCFG (i : Nat) : RegName.at .AX_LIMCFG (AX_LIMCFG i) := ⟨i, 0, rfl⟩
theorem at_AX_STAT (i : Nat) : RegName.at .AX_STAT (AX_STAT i) := ⟨i, 0, rfl⟩
theorem at_AX_EVT (i : Nat) : RegName.at .AX_EVT (AX_EVT i) := ⟨i, 0, rfl⟩
theorem at_AX_CHAIN (i : Nat) : RegName.at .AX_CHAIN (AX_CHAIN i) := ⟨i, 0, rfl⟩
theorem at_AX_CHAINST (i : Nat) : RegName.at .AX_CHAINST (AX_CHAINST i) := ⟨i, 0, rfl⟩
theorem at_AX_FOLLOW (i : Nat) : RegName.at .AX_FOLLOW (AX_FOLLOW i) := ⟨i, 0, rfl⟩
theorem at_AX_GEARNUM (i : Nat) : RegName.at .AX_GEARNUM (AX_GEARNUM i) := ⟨i, 0, rfl⟩
theorem at_AX_GEARDEN (i : Nat) : RegName.at .AX_GEARDEN (AX_GEARDEN i) := ⟨i, 0, rfl⟩
theorem at_AX_FLWERR (i : Nat) : RegName.at .AX_FLWERR (AX_FLWERR i) := ⟨i, 0, rfl⟩
theorem at_AX_HALTCFG (i : Nat) : RegName.at .AX_HALTCFG (AX_HALTCFG i) := ⟨i, 0, rfl⟩
theorem at_AX_STARTCFG (i : Nat) : RegName.at .AX_STARTCFG (AX_STARTCFG i) := ⟨i, 0, rfl⟩
theorem at_AX_STARTSTAT (i : Nat) : RegName.at .AX_STARTSTAT (AX_STARTSTAT i) := ⟨i, 0, rfl⟩
theorem at_AX_LOOPS (i : Nat) : RegName.at .AX_LOOPS (AX_LOOPS i) := ⟨i, 0, rfl⟩
theorem at_AX_CS (i : Nat) : RegName.at .AX_CS (AX_CS i) := ⟨i, 0, rfl⟩
theorem at_AX_CSLIM (i : Nat) : RegName.at .AX_CSLIM (AX_CSLIM i) := ⟨i, 0, rfl⟩
theorem at_AX_TRIM (i : Nat) : RegName.at .AX_TRIM (AX_TRIM i) := ⟨i, 0, rfl⟩
theorem at_AX_CSEFF (i : Nat) : RegName.at .AX_CSEFF (AX_CSEFF i) := ⟨i, 0, rfl⟩
theorem at_AX_THR (i : Nat) : RegName.at .AX_THR (AX_THR i) := ⟨i, 0, rfl⟩
theorem at_AX_DECAY (i : Nat) : RegName.at .AX_DECAY (AX_DECAY i) := ⟨i, 0, rfl⟩
theorem at_AX_DECAYST (i : Nat) : RegName.at .AX_DECAYST (AX_DECAYST i) := ⟨i, 0, rfl⟩
theorem at_AX_STANDSTILL (i : Nat) : RegName.at .AX_STANDSTILL (AX_STANDSTILL i) := ⟨i, 0, rfl⟩
theorem at_AX_SSTAT (i : Nat) : RegName.at .AX_SSTAT (AX_SSTAT i) := ⟨i, 0, rfl⟩
theorem at_AX_WAVESEL (i : Nat) : RegName.at .AX_WAVESEL (AX_WAVESEL i) := ⟨i, 0, rfl⟩
theorem at_AX_RESBAND0 (i : Nat) : RegName.at .AX_RESBAND0 (AX_RESBAND0 i) := ⟨i, 0, rfl⟩
theorem at_AX_RESBAND1 (i : Nat) : RegName.at .AX_RESBAND1 (AX_RESBAND1 i) := ⟨i, 0, rfl⟩
theorem at_AX_USTAT (i : Nat) : RegName.at .AX_USTAT (AX_USTAT i) := ⟨i, 0, rfl⟩
theorem at_AX_BEMFCFG (i : Nat) : RegName.at .AX_BEMFCFG (AX_BEMFCFG i) := ⟨i, 0, rfl⟩
theorem at_AX_BEMFSPD (i : Nat) : RegName.at .AX_BEMFSPD (AX_BEMFSPD i) := ⟨i, 0, rfl⟩
theorem at_AX_BEMFKE (i : Nat) : RegName.at .AX_BEMFKE (AX_BEMFKE i) := ⟨i, 0, rfl⟩
theorem at_AX_STALLCFG (i : Nat) : RegName.at .AX_STALLCFG (AX_STALLCFG i) := ⟨i, 0, rfl⟩
theorem at_AX_LA (i : Nat) : RegName.at .AX_LA (AX_LA i) := ⟨i, 0, rfl⟩
theorem at_AX_STALLST (i : Nat) : RegName.at .AX_STALLST (AX_STALLST i) := ⟨i, 0, rfl⟩
theorem at_AX_LACTL (i : Nat) : RegName.at .AX_LACTL (AX_LACTL i) := ⟨i, 0, rfl⟩
theorem at_AX_BEMFCNT (i : Nat) : RegName.at .AX_BEMFCNT (AX_BEMFCNT i) := ⟨i, 0, rfl⟩
theorem at_AX_HOMECFG (i : Nat) : RegName.at .AX_HOMECFG (AX_HOMECFG i) := ⟨i, 0, rfl⟩
theorem at_AX_HOMEMAX (i : Nat) : RegName.at .AX_HOMEMAX (AX_HOMEMAX i) := ⟨i, 0, rfl⟩
theorem at_AX_HOMEBACK (i : Nat) : RegName.at .AX_HOMEBACK (AX_HOMEBACK i) := ⟨i, 0, rfl⟩
theorem at_AX_HOMEOFS_LO (i : Nat) : RegName.at .AX_HOMEOFS_LO (AX_HOMEOFS_LO i) := ⟨i, 0, rfl⟩
theorem at_AX_HOMEOFS_HI (i : Nat) : RegName.at .AX_HOMEOFS_HI (AX_HOMEOFS_HI i) := ⟨i, 0, rfl⟩
theorem at_AX_HOMEST (i : Nat) : RegName.at .AX_HOMEST (AX_HOMEST i) := ⟨i, 0, rfl⟩
theorem at_AX_WITCFG (i : Nat) : RegName.at .AX_WITCFG (AX_WITCFG i) := ⟨i, 0, rfl⟩
theorem at_AX_WITGAIN (i : Nat) : RegName.at .AX_WITGAIN (AX_WITGAIN i) := ⟨i, 0, rfl⟩
theorem at_AX_WITOFS_LO (i : Nat) : RegName.at .AX_WITOFS_LO (AX_WITOFS_LO i) := ⟨i, 0, rfl⟩
theorem at_AX_WITOFS_HI (i : Nat) : RegName.at .AX_WITOFS_HI (AX_WITOFS_HI i) := ⟨i, 0, rfl⟩
theorem at_AX_WITTOL (i : Nat) : RegName.at .AX_WITTOL (AX_WITTOL i) := ⟨i, 0, rfl⟩
theorem at_AX_WITST (i : Nat) : RegName.at .AX_WITST (AX_WITST i) := ⟨i, 0, rfl⟩
theorem at_AX_ENERGY_LO (i : Nat) : RegName.at .AX_ENERGY_LO (AX_ENERGY_LO i) := ⟨i, 0, rfl⟩
theorem at_AX_ENERGY_HI (i : Nat) : RegName.at .AX_ENERGY_HI (AX_ENERGY_HI i) := ⟨i, 0, rfl⟩
theorem at_AX_MOVEEN (i : Nat) : RegName.at .AX_MOVEEN (AX_MOVEEN i) := ⟨i, 0, rfl⟩
theorem at_AX_EPFS (i : Nat) : RegName.at .AX_EPFS (AX_EPFS i) := ⟨i, 0, rfl⟩
theorem at_AX_FLTCFG (i : Nat) : RegName.at .AX_FLTCFG (AX_FLTCFG i) := ⟨i, 0, rfl⟩
theorem at_AX_FLTSTAT (i : Nat) : RegName.at .AX_FLTSTAT (AX_FLTSTAT i) := ⟨i, 0, rfl⟩
theorem at_AX_FLTCTL (i : Nat) : RegName.at .AX_FLTCTL (AX_FLTCTL i) := ⟨i, 0, rfl⟩
theorem at_AX_FLTCNT (i : Nat) : RegName.at .AX_FLTCNT (AX_FLTCNT i) := ⟨i, 0, rfl⟩
theorem at_LEG_CFG (i : Nat) : RegName.at .LEG_CFG (LEG_CFG i) := ⟨i, 0, rfl⟩
theorem at_LEG_STAT (i : Nat) : RegName.at .LEG_STAT (LEG_STAT i) := ⟨i, 0, rfl⟩
theorem at_LEG_EDGE (i : Nat) : RegName.at .LEG_EDGE (LEG_EDGE i) := ⟨i, 0, rfl⟩
theorem at_LEG_FLTCNT (i : Nat) : RegName.at .LEG_FLTCNT (LEG_FLTCNT i) := ⟨i, 0, rfl⟩
theorem at_LEG_TEST (i : Nat) : RegName.at .LEG_TEST (LEG_TEST i) := ⟨i, 0, rfl⟩
theorem at_LEG_TRIP (i : Nat) : RegName.at .LEG_TRIP (LEG_TRIP i) := ⟨i, 0, rfl⟩
theorem at_RK_MODE (i : Nat) : RegName.at .RK_MODE (RK_MODE i) := ⟨i, 0, rfl⟩
theorem at_RK_STAT (i : Nat) : RegName.at .RK_STAT (RK_STAT i) := ⟨i, 0, rfl⟩
theorem at_RK_VCP (i : Nat) : RegName.at .RK_VCP (RK_VCP i) := ⟨i, 0, rfl⟩
theorem at_RK_IMB (i : Nat) : RegName.at .RK_IMB (RK_IMB i) := ⟨i, 0, rfl⟩
theorem at_RK_BALCFG (i : Nat) : RegName.at .RK_BALCFG (RK_BALCFG i) := ⟨i, 0, rfl⟩
theorem at_RK_FLTSTAT (i : Nat) : RegName.at .RK_FLTSTAT (RK_FLTSTAT i) := ⟨i, 0, rfl⟩
theorem at_RK_FLTCTL (i : Nat) : RegName.at .RK_FLTCTL (RK_FLTCTL i) := ⟨i, 0, rfl⟩
theorem at_RK_TRIPMAP (i : Nat) : RegName.at .RK_TRIPMAP (RK_TRIPMAP i) := ⟨i, 0, rfl⟩
theorem at_RK_THERM (i : Nat) : RegName.at .RK_THERM (RK_THERM i) := ⟨i, 0, rfl⟩
theorem at_CO_PWMPER (i : Nat) : RegName.at .CO_PWMPER (CO_PWMPER i) := ⟨i, 0, rfl⟩
theorem at_CO_BLANK (i : Nat) : RegName.at .CO_BLANK (CO_BLANK i) := ⟨i, 0, rfl⟩
theorem at_CO_CHOPCFG (i : Nat) : RegName.at .CO_CHOPCFG (CO_CHOPCFG i) := ⟨i, 0, rfl⟩
theorem at_CO_PERCNT (i : Nat) : RegName.at .CO_PERCNT (CO_PERCNT i) := ⟨i, 0, rfl⟩
theorem at_CO_DTRIM (i : Nat) : RegName.at .CO_DTRIM (CO_DTRIM i) := ⟨i, 0, rfl⟩
theorem at_CO_SLEWTGT (i : Nat) : RegName.at .CO_SLEWTGT (CO_SLEWTGT i) := ⟨i, 0, rfl⟩
theorem at_CO_DEADT (i : Nat) : RegName.at .CO_DEADT (CO_DEADT i) := ⟨i, 0, rfl⟩
theorem at_CO_TEMP (i k : Nat) : RegName.at .CO_TEMP (CO_TEMP i k) := ⟨i, k, rfl⟩
theorem at_CO_TEMPMAX (i : Nat) : RegName.at .CO_TEMPMAX (CO_TEMPMAX i) := ⟨i, 0, rfl⟩
theorem at_CO_STAT (i : Nat) : RegName.at .CO_STAT (CO_STAT i) := ⟨i, 0, rfl⟩
theorem at_CO_PROTCFG (i : Nat) : RegName.at .CO_PROTCFG (CO_PROTCFG i) := ⟨i, 0, rfl⟩
theorem at_CO_VM (i : Nat) : RegName.at .CO_VM (CO_VM i) := ⟨i, 0, rfl⟩
theorem at_CO_FLTSTAT (i : Nat) : RegName.at .CO_FLTSTAT (CO_FLTSTAT i) := ⟨i, 0, rfl⟩
theorem at_CO_FLTCTL (i : Nat) : RegName.at .CO_FLTCTL (CO_FLTCTL i) := ⟨i, 0, rfl⟩
theorem at_CO_LINKCFG (i : Nat) : RegName.at .CO_LINKCFG (CO_LINKCFG i) := ⟨i, 0, rfl⟩
theorem at_CO_LINKSTAT (i : Nat) : RegName.at .CO_LINKSTAT (CO_LINKSTAT i) := ⟨i, 0, rfl⟩
theorem at_CO_LINKERR (i : Nat) : RegName.at .CO_LINKERR (CO_LINKERR i) := ⟨i, 0, rfl⟩
theorem at_SEG0 (i : Nat) : RegName.at .SEG0 (SEG0 i) := ⟨i, 0, rfl⟩
theorem at_SEG1 (i : Nat) : RegName.at .SEG1 (SEG1 i) := ⟨i, 0, rfl⟩
theorem at_SEG2 (i : Nat) : RegName.at .SEG2 (SEG2 i) := ⟨i, 0, rfl⟩
theorem at_SEG3 (i : Nat) : RegName.at .SEG3 (SEG3 i) := ⟨i, 0, rfl⟩
theorem at_WAVE (i k : Nat) : RegName.at .WAVE (WAVE i k) := ⟨i, k, rfl⟩
theorem at_WAVE_CTL (i : Nat) : RegName.at .WAVE_CTL (WAVE_CTL i) := ⟨i, 0, rfl⟩
theorem at_WAVE_STAT (i : Nat) : RegName.at .WAVE_STAT (WAVE_STAT i) := ⟨i, 0, rfl⟩
theorem at_ENC_CFG (i : Nat) : RegName.at .ENC_CFG (ENC_CFG i) := ⟨i, 0, rfl⟩
theorem at_ENC_FILT (i : Nat) : RegName.at .ENC_FILT (ENC_FILT i) := ⟨i, 0, rfl⟩
theorem at_ENC_CNT (i : Nat) : RegName.at .ENC_CNT (ENC_CNT i) := ⟨i, 0, rfl⟩
theorem at_ENC_ZLATCH (i : Nat) : RegName.at .ENC_ZLATCH (ENC_ZLATCH i) := ⟨i, 0, rfl⟩
theorem at_ENC_ZVAL (i : Nat) : RegName.at .ENC_ZVAL (ENC_ZVAL i) := ⟨i, 0, rfl⟩
theorem at_ENC_STAT (i : Nat) : RegName.at .ENC_STAT (ENC_STAT i) := ⟨i, 0, rfl⟩
theorem at_ENC_ERR (i : Nat) : RegName.at .ENC_ERR (ENC_ERR i) := ⟨i, 0, rfl⟩
theorem at_ENC_ERRCFG (i : Nat) : RegName.at .ENC_ERRCFG (ENC_ERRCFG i) := ⟨i, 0, rfl⟩
theorem at_ENC_SPD (i : Nat) : RegName.at .ENC_SPD (ENC_SPD i) := ⟨i, 0, rfl⟩
theorem at_ENC_PER (i : Nat) : RegName.at .ENC_PER (ENC_PER i) := ⟨i, 0, rfl⟩
theorem at_ENC_SPDCFG (i : Nat) : RegName.at .ENC_SPDCFG (ENC_SPDCFG i) := ⟨i, 0, rfl⟩
theorem at_ENC_MCNT (i : Nat) : RegName.at .ENC_MCNT (ENC_MCNT i) := ⟨i, 0, rfl⟩
theorem at_CMP_CFG (i : Nat) : RegName.at .CMP_CFG (CMP_CFG i) := ⟨i, 0, rfl⟩
theorem at_CMP_POS (i : Nat) : RegName.at .CMP_POS (CMP_POS i) := ⟨i, 0, rfl⟩
theorem at_CMP_SPACING (i : Nat) : RegName.at .CMP_SPACING (CMP_SPACING i) := ⟨i, 0, rfl⟩
theorem at_CMP_COUNT (i : Nat) : RegName.at .CMP_COUNT (CMP_COUNT i) := ⟨i, 0, rfl⟩
theorem at_CMP_STAT (i : Nat) : RegName.at .CMP_STAT (CMP_STAT i) := ⟨i, 0, rfl⟩
theorem at_CMP_CNTS (i : Nat) : RegName.at .CMP_CNTS (CMP_CNTS i) := ⟨i, 0, rfl⟩
theorem at_STEP_CFG (i : Nat) : RegName.at .STEP_CFG (STEP_CFG i) := ⟨i, 0, rfl⟩
theorem at_STEP_FILT (i : Nat) : RegName.at .STEP_FILT (STEP_FILT i) := ⟨i, 0, rfl⟩
theorem at_STEP_CNT (i : Nat) : RegName.at .STEP_CNT (STEP_CNT i) := ⟨i, 0, rfl⟩
theorem at_STEP_TIMING (i : Nat) : RegName.at .STEP_TIMING (STEP_TIMING i) := ⟨i, 0, rfl⟩
theorem at_STEP_STAT (i : Nat) : RegName.at .STEP_STAT (STEP_STAT i) := ⟨i, 0, rfl⟩
theorem at_STEP_ERR (i : Nat) : RegName.at .STEP_ERR (STEP_ERR i) := ⟨i, 0, rfl⟩
theorem at_STEP_MCNT (i : Nat) : RegName.at .STEP_MCNT (STEP_MCNT i) := ⟨i, 0, rfl⟩
theorem at_AFE_CFGA (i : Nat) : RegName.at .AFE_CFGA (AFE_CFGA i) := ⟨i, 0, rfl⟩
theorem at_AFE_CFGB (i : Nat) : RegName.at .AFE_CFGB (AFE_CFGB i) := ⟨i, 0, rfl⟩
theorem at_AFE_CFGC (i : Nat) : RegName.at .AFE_CFGC (AFE_CFGC i) := ⟨i, 0, rfl⟩
theorem at_AFE_IEXC : RegName.at .AFE_IEXC AFE_IEXC := ⟨0, 0, rfl⟩
theorem at_AFE_VEXC : RegName.at .AFE_VEXC AFE_VEXC := ⟨0, 0, rfl⟩
theorem at_AFE_TDAC : RegName.at .AFE_TDAC AFE_TDAC := ⟨0, 0, rfl⟩
theorem at_AFE_RREF : RegName.at .AFE_RREF AFE_RREF := ⟨0, 0, rfl⟩
theorem at_AFE_STAT : RegName.at .AFE_STAT AFE_STAT := ⟨0, 0, rfl⟩
theorem at_AFE_BRK : RegName.at .AFE_BRK AFE_BRK := ⟨0, 0, rfl⟩
theorem at_AFE_BRKCNT : RegName.at .AFE_BRKCNT AFE_BRKCNT := ⟨0, 0, rfl⟩
theorem at_AFE_DUTY : RegName.at .AFE_DUTY AFE_DUTY := ⟨0, 0, rfl⟩
theorem at_SD_CFG (i : Nat) : RegName.at .SD_CFG (SD_CFG i) := ⟨i, 0, rfl⟩
theorem at_SD_CMD (i : Nat) : RegName.at .SD_CMD (SD_CMD i) := ⟨i, 0, rfl⟩
theorem at_SD_DIRECT (i : Nat) : RegName.at .SD_DIRECT (SD_DIRECT i) := ⟨i, 0, rfl⟩
theorem at_SD_SEQ0 (i : Nat) : RegName.at .SD_SEQ0 (SD_SEQ0 i) := ⟨i, 0, rfl⟩
theorem at_SD_SEQ1 (i : Nat) : RegName.at .SD_SEQ1 (SD_SEQ1 i) := ⟨i, 0, rfl⟩
theorem at_SD_SEQCTL (i : Nat) : RegName.at .SD_SEQCTL (SD_SEQCTL i) := ⟨i, 0, rfl⟩
theorem at_SD_AVG (i : Nat) : RegName.at .SD_AVG (SD_AVG i) := ⟨i, 0, rfl⟩
theorem at_SD_STAT (i : Nat) : RegName.at .SD_STAT (SD_STAT i) := ⟨i, 0, rfl⟩
theorem at_SD_RESULT (i : Nat) : RegName.at .SD_RESULT (SD_RESULT i) := ⟨i, 0, rfl⟩
theorem at_SD_RESINFO (i : Nat) : RegName.at .SD_RESINFO (SD_RESINFO i) := ⟨i, 0, rfl⟩
theorem at_SD_INJRESULT (i : Nat) : RegName.at .SD_INJRESULT (SD_INJRESULT i) := ⟨i, 0, rfl⟩
theorem at_SD_INJRESINFO (i : Nat) : RegName.at .SD_INJRESINFO (SD_INJRESINFO i) := ⟨i, 0, rfl⟩
theorem at_SD_CNT (i : Nat) : RegName.at .SD_CNT (SD_CNT i) := ⟨i, 0, rfl⟩
theorem at_SD_LINRES (i : Nat) : RegName.at .SD_LINRES (SD_LINRES i) := ⟨i, 0, rfl⟩
theorem at_SD_LINADDR (i : Nat) : RegName.at .SD_LINADDR (SD_LINADDR i) := ⟨i, 0, rfl⟩
theorem at_SD_LINDATA (i : Nat) : RegName.at .SD_LINDATA (SD_LINDATA i) := ⟨i, 0, rfl⟩
theorem at_SD_CAL_OFS (i k : Nat) : RegName.at .SD_CAL_OFS (SD_CAL_OFS i k) := ⟨i, k, rfl⟩
theorem at_SD_CAL_GAIN (i k : Nat) : RegName.at .SD_CAL_GAIN (SD_CAL_GAIN i k) := ⟨i, k, rfl⟩
theorem at_EV_PEND (i : Nat) : RegName.at .EV_PEND (EV_PEND i) := ⟨i, 0, rfl⟩
theorem at_EV_EN (i : Nat) : RegName.at .EV_EN (EV_EN i) := ⟨i, 0, rfl⟩
theorem at_EV_ACT (i : Nat) : RegName.at .EV_ACT (EV_ACT i) := ⟨i, 0, rfl⟩
theorem at_EV_AXDONE (i : Nat) : RegName.at .EV_AXDONE (EV_AXDONE i) := ⟨i, 0, rfl⟩
theorem at_EV_GCFG : RegName.at .EV_GCFG EV_GCFG := ⟨0, 0, rfl⟩
theorem at_EV_IRQ0ID : RegName.at .EV_IRQ0ID EV_IRQ0ID := ⟨0, 0, rfl⟩
theorem at_EV_IRQ1ID : RegName.at .EV_IRQ1ID EV_IRQ1ID := ⟨0, 0, rfl⟩
theorem at_EV_PIN : RegName.at .EV_PIN EV_PIN := ⟨0, 0, rfl⟩
theorem at_EV_DOORBELL : RegName.at .EV_DOORBELL EV_DOORBELL := ⟨0, 0, rfl⟩
theorem at_EV_LEGFLT (i : Nat) : RegName.at .EV_LEGFLT (EV_LEGFLT i) := ⟨i, 0, rfl⟩
theorem at_EV_CFG (i : Nat) : RegName.at .EV_CFG (EV_CFG i) := ⟨i, 0, rfl⟩
theorem at_PL_CMD : RegName.at .PL_CMD PL_CMD := ⟨0, 0, rfl⟩
theorem at_PL_STAT : RegName.at .PL_STAT PL_STAT := ⟨0, 0, rfl⟩
theorem at_PL_CFG : RegName.at .PL_CFG PL_CFG := ⟨0, 0, rfl⟩
theorem at_PL_XADDR : RegName.at .PL_XADDR PL_XADDR := ⟨0, 0, rfl⟩
theorem at_PL_BUDGET_VMA : RegName.at .PL_BUDGET_VMA PL_BUDGET_VMA := ⟨0, 0, rfl⟩
theorem at_PL_BUDGET_VMB : RegName.at .PL_BUDGET_VMB PL_BUDGET_VMB := ⟨0, 0, rfl⟩
theorem at_PL_BUDGET_PKG : RegName.at .PL_BUDGET_PKG PL_BUDGET_PKG := ⟨0, 0, rfl⟩
theorem at_PL_SKIPTOL : RegName.at .PL_SKIPTOL PL_SKIPTOL := ⟨0, 0, rfl⟩
theorem at_PL_BUDGET_COACH (i : Nat) : RegName.at .PL_BUDGET_COACH (PL_BUDGET_COACH i) := ⟨i, 0, rfl⟩
theorem at_PL_OVH : RegName.at .PL_OVH PL_OVH := ⟨0, 0, rfl⟩
theorem at_PL_RANKLIM (i : Nat) : RegName.at .PL_RANKLIM (PL_RANKLIM i) := ⟨i, 0, rfl⟩
theorem at_PL_SUM (i : Nat) : RegName.at .PL_SUM (PL_SUM i) := ⟨i, 0, rfl⟩
theorem at_PL_MOVERS (i : Nat) : RegName.at .PL_MOVERS (PL_MOVERS i) := ⟨i, 0, rfl⟩
theorem at_PL_MAKESPAN : RegName.at .PL_MAKESPAN PL_MAKESPAN := ⟨0, 0, rfl⟩
theorem at_PL_PRED : RegName.at .PL_PRED PL_PRED := ⟨0, 0, rfl⟩
theorem at_PL_ENERGY_LO : RegName.at .PL_ENERGY_LO PL_ENERGY_LO := ⟨0, 0, rfl⟩
theorem at_PL_ENERGY_HI : RegName.at .PL_ENERGY_HI PL_ENERGY_HI := ⟨0, 0, rfl⟩
theorem at_PL_EVINFO : RegName.at .PL_EVINFO PL_EVINFO := ⟨0, 0, rfl⟩
theorem at_PL_RCPHDR (i : Nat) : RegName.at .PL_RCPHDR (PL_RCPHDR i) := ⟨i, 0, rfl⟩
theorem at_PL_AXLIVE (i : Nat) : RegName.at .PL_AXLIVE (PL_AXLIVE i) := ⟨i, 0, rfl⟩
theorem at_PL_AXMOT (i : Nat) : RegName.at .PL_AXMOT (PL_AXMOT i) := ⟨i, 0, rfl⟩
theorem at_PL_AXLRN (i : Nat) : RegName.at .PL_AXLRN (PL_AXLRN i) := ⟨i, 0, rfl⟩
theorem at_PL_ORD (i : Nat) : RegName.at .PL_ORD (PL_ORD i) := ⟨i, 0, rfl⟩
theorem at_PL_RCP0 (i : Nat) : RegName.at .PL_RCP0 (PL_RCP0 i) := ⟨i, 0, rfl⟩
theorem at_PL_RCP1 (i : Nat) : RegName.at .PL_RCP1 (PL_RCP1 i) := ⟨i, 0, rfl⟩
theorem at_PL_RCP2 (i : Nat) : RegName.at .PL_RCP2 (PL_RCP2 i) := ⟨i, 0, rfl⟩
theorem at_PL_RCP3 (i : Nat) : RegName.at .PL_RCP3 (PL_RCP3 i) := ⟨i, 0, rfl⟩
theorem at_PL_RES (i : Nat) : RegName.at .PL_RES (PL_RES i) := ⟨i, 0, rfl⟩
theorem at_PL_RES_START (i : Nat) : RegName.at .PL_RES_START (PL_RES_START i) := ⟨i, 0, rfl⟩
theorem at_PL_RES_END (i : Nat) : RegName.at .PL_RES_END (PL_RES_END i) := ⟨i, 0, rfl⟩
theorem at_PL_RES_TEST (i : Nat) : RegName.at .PL_RES_TEST (PL_RES_TEST i) := ⟨i, 0, rfl⟩
theorem at_PL_RES_EEST (i : Nat) : RegName.at .PL_RES_EEST (PL_RES_EEST i) := ⟨i, 0, rfl⟩
theorem at_PL_RES_EACT (i : Nat) : RegName.at .PL_RES_EACT (PL_RES_EACT i) := ⟨i, 0, rfl⟩
theorem at_AXEN (i : Nat) : RegName.at .AXEN (AXEN i) := ⟨i, 0, rfl⟩
theorem at_AXSTART (i : Nat) : RegName.at .AXSTART (AXSTART i) := ⟨i, 0, rfl⟩
theorem at_AXALERT (i : Nat) : RegName.at .AXALERT (AXALERT i) := ⟨i, 0, rfl⟩
theorem at_NET_CTL (i : Nat) : RegName.at .NET_CTL (NET_CTL i) := ⟨i, 0, rfl⟩
theorem at_NET_NBT (i : Nat) : RegName.at .NET_NBT (NET_NBT i) := ⟨i, 0, rfl⟩
theorem at_NET_DBT (i : Nat) : RegName.at .NET_DBT (NET_DBT i) := ⟨i, 0, rfl⟩
theorem at_NET_STAT (i : Nat) : RegName.at .NET_STAT (NET_STAT i) := ⟨i, 0, rfl⟩
theorem at_NET_CNT (i : Nat) : RegName.at .NET_CNT (NET_CNT i) := ⟨i, 0, rfl⟩
theorem at_NET_NODE : RegName.at .NET_NODE NET_NODE := ⟨0, 0, rfl⟩
theorem at_NET_GUARD : RegName.at .NET_GUARD NET_GUARD := ⟨0, 0, rfl⟩
theorem at_NET_SESS : RegName.at .NET_SESS NET_SESS := ⟨0, 0, rfl⟩
theorem at_NET_MAL : RegName.at .NET_MAL NET_MAL := ⟨0, 0, rfl⟩
theorem at_NET_HB : RegName.at .NET_HB NET_HB := ⟨0, 0, rfl⟩
theorem at_NET_HBACT (i : Nat) : RegName.at .NET_HBACT (NET_HBACT i) := ⟨i, 0, rfl⟩
theorem at_SPH_CFG : RegName.at .SPH_CFG SPH_CFG := ⟨0, 0, rfl⟩
theorem at_SPH_STAT : RegName.at .SPH_STAT SPH_STAT := ⟨0, 0, rfl⟩
theorem at_SPH_ERR : RegName.at .SPH_ERR SPH_ERR := ⟨0, 0, rfl⟩
theorem at_SPH_ERRCODE : RegName.at .SPH_ERRCODE SPH_ERRCODE := ⟨0, 0, rfl⟩
theorem at_SPH_CNT : RegName.at .SPH_CNT SPH_CNT := ⟨0, 0, rfl⟩
theorem at_SPM_CFG : RegName.at .SPM_CFG SPM_CFG := ⟨0, 0, rfl⟩
theorem at_SPM_CLK : RegName.at .SPM_CLK SPM_CLK := ⟨0, 0, rfl⟩
theorem at_SPM_XOFS : RegName.at .SPM_XOFS SPM_XOFS := ⟨0, 0, rfl⟩
theorem at_SPM_SFDP : RegName.at .SPM_SFDP SPM_SFDP := ⟨0, 0, rfl⟩
theorem at_SPM_CMD : RegName.at .SPM_CMD SPM_CMD := ⟨0, 0, rfl⟩
theorem at_SPM_ADDR : RegName.at .SPM_ADDR SPM_ADDR := ⟨0, 0, rfl⟩
theorem at_SPM_TXFIFO : RegName.at .SPM_TXFIFO SPM_TXFIFO := ⟨0, 0, rfl⟩
theorem at_SPM_RXFIFO : RegName.at .SPM_RXFIFO SPM_RXFIFO := ⟨0, 0, rfl⟩
theorem at_SPM_STAT : RegName.at .SPM_STAT SPM_STAT := ⟨0, 0, rfl⟩
theorem at_SPM_CTL : RegName.at .SPM_CTL SPM_CTL := ⟨0, 0, rfl⟩
theorem at_MGS_MON (i : Nat) : RegName.at .MGS_MON (MGS_MON i) := ⟨i, 0, rfl⟩
theorem at_MGS_THCFG : RegName.at .MGS_THCFG MGS_THCFG := ⟨0, 0, rfl⟩
theorem at_MGS_WDCFG : RegName.at .MGS_WDCFG MGS_WDCFG := ⟨0, 0, rfl⟩
theorem at_MGS_LOGRPTR : RegName.at .MGS_LOGRPTR MGS_LOGRPTR := ⟨0, 0, rfl⟩
theorem at_MGS_LOGSTAT : RegName.at .MGS_LOGSTAT MGS_LOGSTAT := ⟨0, 0, rfl⟩
theorem at_MGS_LOGCFG : RegName.at .MGS_LOGCFG MGS_LOGCFG := ⟨0, 0, rfl⟩
theorem at_MGS_LOGDATA : RegName.at .MGS_LOGDATA MGS_LOGDATA := ⟨0, 0, rfl⟩
theorem at_MGS_UPDCTL : RegName.at .MGS_UPDCTL MGS_UPDCTL := ⟨0, 0, rfl⟩
theorem at_MGS_UPDSTAT : RegName.at .MGS_UPDSTAT MGS_UPDSTAT := ⟨0, 0, rfl⟩
theorem at_MGS_UPDADDR : RegName.at .MGS_UPDADDR MGS_UPDADDR := ⟨0, 0, rfl⟩
theorem at_MGS_UPDDATA : RegName.at .MGS_UPDDATA MGS_UPDDATA := ⟨0, 0, rfl⟩
theorem at_MGS_RBCNT : RegName.at .MGS_RBCNT MGS_RBCNT := ⟨0, 0, rfl⟩
theorem at_MGS_AUCHAL (i : Nat) : RegName.at .MGS_AUCHAL (MGS_AUCHAL i) := ⟨i, 0, rfl⟩
theorem at_MGS_AURESP (i : Nat) : RegName.at .MGS_AURESP (MGS_AURESP i) := ⟨i, 0, rfl⟩
theorem at_MGS_AUSTAT : RegName.at .MGS_AUSTAT MGS_AUSTAT := ⟨0, 0, rfl⟩
theorem at_MGS_SECCMD : RegName.at .MGS_SECCMD MGS_SECCMD := ⟨0, 0, rfl⟩
theorem at_MGS_SECSTAT : RegName.at .MGS_SECSTAT MGS_SECSTAT := ⟨0, 0, rfl⟩
theorem at_MGS_ALCFG : RegName.at .MGS_ALCFG MGS_ALCFG := ⟨0, 0, rfl⟩
theorem at_MGS_ALSTAT : RegName.at .MGS_ALSTAT MGS_ALSTAT := ⟨0, 0, rfl⟩
theorem at_MGS_PROV : RegName.at .MGS_PROV MGS_PROV := ⟨0, 0, rfl⟩
theorem at_MGS_SECBUF (i : Nat) : RegName.at .MGS_SECBUF (MGS_SECBUF i) := ⟨i, 0, rfl⟩
theorem at_TRIO_CFG : RegName.at .TRIO_CFG TRIO_CFG := ⟨0, 0, rfl⟩
theorem at_TRIO_STAT : RegName.at .TRIO_STAT TRIO_STAT := ⟨0, 0, rfl⟩
theorem at_TRIO_MM : RegName.at .TRIO_MM TRIO_MM := ⟨0, 0, rfl⟩
theorem at_TRIO_CNT : RegName.at .TRIO_CNT TRIO_CNT := ⟨0, 0, rfl⟩
theorem at_TRIO_INDIS : RegName.at .TRIO_INDIS TRIO_INDIS := ⟨0, 0, rfl⟩
theorem at_TRIO_STEST : RegName.at .TRIO_STEST TRIO_STEST := ⟨0, 0, rfl⟩
theorem at_TRIO_SRAM : RegName.at .TRIO_SRAM TRIO_SRAM := ⟨0, 0, rfl⟩
theorem at_TRIO_CTL : RegName.at .TRIO_CTL TRIO_CTL := ⟨0, 0, rfl⟩
theorem hi_GCTL_RTC_LO : RegName.at .GCTL_RTC_HI (GCTL_RTC_LO + 4) := ⟨0, 0, rfl⟩
theorem hi_AX_TGT_LO (i : Nat) : RegName.at .AX_TGT_HI (AX_TGT_LO i + 4) := ⟨i, 0, by simp only [regAddr, AX_TGT_LO, AX_TGT_HI]; omega⟩
theorem hi_AX_POS_LO (i : Nat) : RegName.at .AX_POS_HI (AX_POS_LO i + 4) := ⟨i, 0, by simp only [regAddr, AX_POS_LO, AX_POS_HI]; omega⟩
theorem hi_AX_LIMN_LO (i : Nat) : RegName.at .AX_LIMN_HI (AX_LIMN_LO i + 4) := ⟨i, 0, by simp only [regAddr, AX_LIMN_LO, AX_LIMN_HI]; omega⟩
theorem hi_AX_LIMP_LO (i : Nat) : RegName.at .AX_LIMP_HI (AX_LIMP_LO i + 4) := ⟨i, 0, by simp only [regAddr, AX_LIMP_LO, AX_LIMP_HI]; omega⟩
theorem hi_AX_HOMEOFS_LO (i : Nat) : RegName.at .AX_HOMEOFS_HI (AX_HOMEOFS_LO i + 4) := ⟨i, 0, by simp only [regAddr, AX_HOMEOFS_LO, AX_HOMEOFS_HI]; omega⟩
theorem hi_AX_WITOFS_LO (i : Nat) : RegName.at .AX_WITOFS_HI (AX_WITOFS_LO i + 4) := ⟨i, 0, by simp only [regAddr, AX_WITOFS_LO, AX_WITOFS_HI]; omega⟩
theorem hi_AX_ENERGY_LO (i : Nat) : RegName.at .AX_ENERGY_HI (AX_ENERGY_LO i + 4) := ⟨i, 0, by simp only [regAddr, AX_ENERGY_LO, AX_ENERGY_HI]; omega⟩
theorem hi_PL_ENERGY_LO : RegName.at .PL_ENERGY_HI (PL_ENERGY_LO + 4) := ⟨0, 0, rfl⟩

/-! ### One part at a time -/

theorem Ok.regs {x} (h : Sparse.wf resetWord s.regs → Sparse.wf resetWord x) : Ok [.regs] s { s with regs := x } := by
  refine ⟨⟨fun p hp => ?_, .inl (List.mem_singleton.mpr rfl)⟩, fun g => { g with regs := h g.regs }⟩
  cases p <;> first | rfl | trivial

theorem Ok.snap {x} (h : Sparse.wf resetWord s.snap → Sparse.wf resetWord x) : Ok [.snap] s { s with snap := x } := by
  refine ⟨⟨fun p hp => ?_, .inr fun _ _ => rfl⟩, fun g => { g with snap := h g.snap }⟩
  cases p <;> first | rfl | trivial

theorem Ok.staged {x} (h : Sparse.wf (fun _ => {}) s.staged → Sparse.wf (fun _ => {}) x) : Ok [.staged] s { s with staged := x } := by
  refine ⟨⟨fun p hp => ?_, .inr fun _ _ => rfl⟩, fun g => { g with staged := h g.staged }⟩
  cases p <;> first | rfl | trivial

theorem Ok.bad {x} (h : Sparse.wf (fun _ => false) s.bad → Sparse.wf (fun _ => false) x) : Ok [.bad] s { s with bad := x } := by
  refine ⟨⟨fun p hp => ?_, .inr fun _ _ => rfl⟩, fun g => { g with bad := h g.bad }⟩
  cases p <;> first | rfl | trivial

theorem Ok.replies {x} (h : Sparse.wf (fun _ => .none) s.replies → Sparse.wf (fun _ => .none) x) : Ok [.replies] s { s with replies := x } := by
  refine ⟨⟨fun p hp => ?_, .inr fun _ _ => rfl⟩, fun g => { g with replies := h g.replies }⟩
  cases p <;> first | rfl | trivial

theorem Ok.guards {x} (h : Sparse.wf (fun _ => none) s.guards → Sparse.wf (fun _ => none) x) : Ok [.guards] s { s with guards := x } := by
  refine ⟨⟨fun p hp => ?_, .inr fun _ _ => rfl⟩, fun g => { g with guards := h g.guards }⟩
  cases p <;> first | rfl | trivial

theorem Ok.hostPair {x}  : Ok [.hostPair] s { s with hostPair := x } := by
  refine ⟨⟨fun p hp => ?_, .inr fun _ _ => rfl⟩, fun g => { g with }⟩
  cases p <;> first | rfl | trivial

theorem Ok.trioPair {x}  : Ok [.trioPair] s { s with trioPair := x } := by
  refine ⟨⟨fun p hp => ?_, .inr fun _ _ => rfl⟩, fun g => { g with }⟩
  cases p <;> first | rfl | trivial

theorem Ok.mgsPair {x}  : Ok [.mgsPair] s { s with mgsPair := x } := by
  refine ⟨⟨fun p hp => ?_, .inr fun _ _ => rfl⟩, fun g => { g with }⟩
  cases p <;> first | rfl | trivial

theorem Ok.canPair {x}  : Ok [.canPair] s { s with canPair := x } := by
  refine ⟨⟨fun p hp => ?_, .inr fun _ _ => rfl⟩, fun g => { g with }⟩
  cases p <;> first | rfl | trivial

theorem Ok.ticks {x}  : Ok [.ticks] s { s with ticks := x } := by
  refine ⟨⟨fun p hp => ?_, .inr fun _ _ => rfl⟩, fun g => { g with }⟩
  cases p <;> first | rfl | trivial

theorem Ok.free {x}  : Ok [.free] s { s with free := x } := by
  refine ⟨⟨fun p hp => ?_, .inr fun _ _ => rfl⟩, fun g => { g with }⟩
  cases p <;> first | rfl | trivial

theorem Ok.trioQ {x}  : Ok [.trioQ] s { s with trioQ := x } := by
  refine ⟨⟨fun p hp => ?_, .inr fun _ _ => rfl⟩, fun g => { g with }⟩
  cases p <;> first | rfl | trivial

theorem Ok.emcyQ {x}  : Ok [.emcyQ] s { s with emcyQ := x } := by
  refine ⟨⟨fun p hp => ?_, .inr fun _ _ => rfl⟩, fun g => { g with }⟩
  cases p <;> first | rfl | trivial

theorem Ok.logQ {x} (h : s.logQ.length ≤ 64 → x.length ≤ 64) : Ok [.logQ] s { s with logQ := x } := by
  refine ⟨⟨fun p hp => ?_, .inr fun _ _ => rfl⟩, fun g => { g with logQ := h g.logQ }⟩
  cases p <;> first | rfl | trivial

theorem Ok.logWin {x} (h : Sparse.wf (fun _ => none) s.logWin → Sparse.wf (fun _ => none) x) : Ok [.logWin] s { s with logWin := x } := by
  refine ⟨⟨fun p hp => ?_, .inr fun _ _ => rfl⟩, fun g => { g with logWin := h g.logWin }⟩
  cases p <;> first | rfl | trivial

theorem Ok.legs {x} (h : Sparse.wf (fun _ => {}) s.legs → Sparse.wf (fun _ => {}) x) : Ok [.legs] s { s with legs := x } := by
  refine ⟨⟨fun p hp => ?_, .inr fun _ _ => rfl⟩, fun g => { g with legs := h g.legs }⟩
  cases p <;> first | rfl | trivial

theorem Ok.coils {x} (h : Sparse.wf (fun _ => {}) s.coils → Sparse.wf (fun _ => {}) x) : Ok [.coils] s { s with coils := x } := by
  refine ⟨⟨fun p hp => ?_, .inr fun _ _ => rfl⟩, fun g => { g with coils := h g.coils }⟩
  cases p <;> first | rfl | trivial

theorem Ok.coaches {x} (h : Sparse.wf (fun _ => {}) s.coaches → Sparse.wf (fun _ => {}) x) : Ok [.coaches] s { s with coaches := x } := by
  refine ⟨⟨fun p hp => ?_, .inr fun _ _ => rfl⟩, fun g => { g with coaches := h g.coaches }⟩
  cases p <;> first | rfl | trivial

theorem Ok.trips {x}  : Ok [.trips] s { s with trips := x } := by
  refine ⟨⟨fun p hp => ?_, .inr fun _ _ => rfl⟩, fun g => { g with }⟩
  cases p <;> first | rfl | trivial

theorem Ok.runs {x} (h : Sparse.wf (fun _ => 0) s.runs → Sparse.wf (fun _ => 0) x) : Ok [.runs] s { s with runs := x } := by
  refine ⟨⟨fun p hp => ?_, .inr fun _ _ => rfl⟩, fun g => { g with runs := h g.runs }⟩
  cases p <;> first | rfl | trivial

theorem Ok.axes {x} (h : Sparse.wf (fun _ => {}) s.axes → Sparse.wf (fun _ => {}) x) : Ok [.axes] s { s with axes := x } := by
  refine ⟨⟨fun p hp => ?_, .inr fun _ _ => rfl⟩, fun g => { g with axes := h g.axes }⟩
  cases p <;> first | rfl | trivial

theorem Ok.pl {x}  : Ok [.pl] s { s with pl := x } := by
  refine ⟨⟨fun p hp => ?_, .inr fun _ _ => rfl⟩, fun g => { g with }⟩
  cases p <;> first | rfl | trivial

theorem Ok.power {x}  : Ok [.power] s { s with power := x } := by
  refine ⟨⟨fun p hp => ?_, .inr fun _ _ => rfl⟩, fun g => { g with }⟩
  cases p <;> first | rfl | trivial

theorem Ok.syncOut {x}  : Ok [.syncOut] s { s with syncOut := x } := by
  refine ⟨⟨fun p hp => ?_, .inr fun _ _ => rfl⟩, fun g => { g with }⟩
  cases p <;> first | rfl | trivial

theorem Ok.encs {x} (h : Sparse.wf (fun _ => {}) s.encs → Sparse.wf (fun _ => {}) x) : Ok [.encs] s { s with encs := x } := by
  refine ⟨⟨fun p hp => ?_, .inr fun _ _ => rfl⟩, fun g => { g with encs := h g.encs }⟩
  cases p <;> first | rfl | trivial

theorem Ok.stepLast {x} (h : Sparse.wf (fun _ => 0) s.stepLast → Sparse.wf (fun _ => 0) x) : Ok [.stepLast] s { s with stepLast := x } := by
  refine ⟨⟨fun p hp => ?_, .inr fun _ _ => rfl⟩, fun g => { g with stepLast := h g.stepLast }⟩
  cases p <;> first | rfl | trivial

theorem Ok.stepDir {x} (h : Sparse.wf (fun _ => false) s.stepDir → Sparse.wf (fun _ => false) x) : Ok [.stepDir] s { s with stepDir := x } := by
  refine ⟨⟨fun p hp => ?_, .inr fun _ _ => rfl⟩, fun g => { g with stepDir := h g.stepDir }⟩
  cases p <;> first | rfl | trivial

theorem Ok.recipes {x} (h : Sparse.wf (fun _ => []) s.recipes → Sparse.wf (fun _ => []) x) : Ok [.recipes] s { s with recipes := x } := by
  refine ⟨⟨fun p hp => ?_, .inr fun _ _ => rfl⟩, fun g => { g with recipes := h g.recipes }⟩
  cases p <;> first | rfl | trivial

theorem Ok.rbcnt {x}  : Ok [.rbcnt] s { s with rbcnt := x } := by
  refine ⟨⟨fun p hp => ?_, .inr fun _ _ => rfl⟩, fun g => { g with }⟩
  cases p <;> first | rfl | trivial

theorem Ok.sds {x} (h : Sparse.wf (fun _ => {}) s.sds → (∀ y ∈ s.sds, y.2.good) → Sparse.wf (fun _ => {}) x ∧ ∀ y ∈ x, y.2.good) : Ok [.sds] s { s with sds := x } := by
  refine ⟨⟨fun p hp => ?_, .inr fun _ _ => rfl⟩, fun g => { g with sds := (h g.sds g.sdMods).1, sdMods := (h g.sds g.sdMods).2 }⟩
  cases p <;> first | rfl | trivial

theorem Ok.afe {x} (h : s.afe.good → x.good) : Ok [.afe] s { s with afe := x } := by
  refine ⟨⟨fun p hp => ?_, .inr fun _ _ => rfl⟩, fun g => { g with afe := h g.afe }⟩
  cases p <;> first | rfl | trivial

theorem Ok.trio {x} (h : s.trio.good → x.good) : Ok [.trio] s { s with trio := x } := by
  refine ⟨⟨fun p hp => ?_, .inr fun _ _ => rfl⟩, fun g => { g with trio := h g.trio }⟩
  cases p <;> first | rfl | trivial

theorem Ok.mgs {x} (h : s.mgs.good → x.good) : Ok [.mgs] s { s with mgs := x } := by
  refine ⟨⟨fun p hp => ?_, .inr fun _ _ => rfl⟩, fun g => { g with mgs := h g.mgs }⟩
  cases p <;> first | rfl | trivial

theorem Ok.net {x} (h : s.net.good → x.good) : Ok [.net] s { s with net := x } := by
  refine ⟨⟨fun p hp => ?_, .inr fun _ _ => rfl⟩, fun g => { g with net := h g.net }⟩
  cases p <;> first | rfl | trivial

theorem Ok.sph {x}  : Ok [.sph] s { s with sph := x } := by
  refine ⟨⟨fun p hp => ?_, .inr fun _ _ => rfl⟩, fun g => { g with }⟩
  cases p <;> first | rfl | trivial

theorem Ok.spm {x} (h : s.spm.good → x.good) : Ok [.spm] s { s with spm := x } := by
  refine ⟨⟨fun p hp => ?_, .inr fun _ _ => rfl⟩, fun g => { g with spm := h g.spm }⟩
  cases p <;> first | rfl | trivial

theorem Ok.nvm {x} (h : s.nvm.good → x.good) : Ok [.nvm] s { s with nvm := x } := by
  refine ⟨⟨fun p hp => ?_, .inr fun _ _ => rfl⟩, fun g => { g with nvm := h g.nvm }⟩
  cases p <;> first | rfl | trivial

theorem Ok.pending {x}  : Ok [.pending] s { s with pending := x } := by
  refine ⟨⟨fun p hp => ?_, .inr fun _ _ => rfl⟩, fun g => { g with }⟩
  cases p <;> first | rfl | trivial

end Sys2Proof.Machine
end

