-- ==== Sys2Proof/Laws/OkOps.lean ====
section
/-!
SUPPORT. Laws/OkOps.lean: for each operation of Machine/Ops.lean, the parts of the state it can change, and that it keeps a
good state good.
-/

namespace Sys2Proof.Machine

set_option Elab.async false

theorem State.wr_ok : ∀ s x1 x2, Ok [.regs] s (@State.wr s x1 x2) := by
  intro s x1 x2
  delta State.wr
  refine Ok.via (Ok.regs ?_) rfl ?_
  · exact fun h => Sparse.wf_set h
  exact Ok.refl

theorem State.put_ok : ∀ s x1 x2, Ok [.regs] s (@State.put s x1 x2) := by
  intro s x1 x2
  delta State.put
  refine Ok.via (State.wr_ok ..) rfl ?_
  exact Ok.refl

theorem State.putB_ok : ∀ s x1 x2, Ok [.regs] s (@State.putB s x1 x2) := by
  intro s x1 x2
  delta State.putB
  refine Ok.via (State.put_ok ..) rfl ?_
  exact Ok.refl

theorem State.putI_ok : ∀ s x1 x2, Ok [.regs] s (@State.putI s x1 x2) := by
  intro s x1 x2
  delta State.putI
  refine Ok.via (State.put_ok ..) rfl ?_
  exact Ok.refl

theorem State.addSat_ok : ∀ s x1 x2, Ok [.regs] s (@State.addSat s x1 x2) := by
  intro s x1 x2
  delta State.addSat
  refine Ok.via (State.put_ok ..) rfl ?_
  exact Ok.refl

theorem State.inc_ok : ∀ s x1, Ok [.regs] s (@State.inc s x1) := by
  intro s x1
  delta State.inc
  refine Ok.via (State.addSat_ok ..) rfl ?_
  exact Ok.refl

theorem State.incWrap_ok : ∀ s x1, Ok [.regs] s (@State.incWrap s x1) := by
  intro s x1
  delta State.incWrap
  refine Ok.via (State.put_ok ..) rfl ?_
  exact Ok.refl

theorem State.putBitAt_ok : ∀ s x1 x2 x3, Ok [.regs] s (@State.putBitAt s x1 x2 x3) := by
  intro s x1 x2 x3
  delta State.putBitAt
  refine Ok.via (State.wr_ok ..) rfl ?_
  exact Ok.refl

theorem State.putPair_ok : ∀ s x1 x2, Ok [.regs] s (@State.putPair s x1 x2) := by
  intro s x1 x2
  delta State.putPair
  extract_lets +onlyGivenNames -merge -useContext s0
  clear_value s0
  refine Ok.via (State.wr_ok ..) rfl ?_
  refine Ok.via (State.wr_ok ..) rfl ?_
  exact Ok.refl

theorem State.setStaged_ok : ∀ s x1 x2, Ok [.staged] s (@State.setStaged s x1 x2) := by
  intro s x1 x2
  delta State.setStaged
  refine Ok.via (Ok.staged ?_) rfl ?_
  · exact fun h => Sparse.wf_set h
  exact Ok.refl

theorem State.modMo_ok : ∀ s x1 x2, Ok [.axes] s (@State.modMo s x1 x2) := by
  intro s x1 x2
  delta State.modMo
  refine Ok.via (Ok.axes ?_) rfl ?_
  · exact fun h => Sparse.wf_modify h
  exact Ok.refl

theorem State.modSe_ok : ∀ s x1 x2, Ok [.axes] s (@State.modSe s x1 x2) := by
  intro s x1 x2
  delta State.modSe
  refine Ok.via (Ok.axes ?_) rfl ?_
  · exact fun h => Sparse.wf_modify h
  exact Ok.refl

theorem State.modLeg_ok : ∀ s x1 x2, Ok [.legs] s (@State.modLeg s x1 x2) := by
  intro s x1 x2
  delta State.modLeg
  refine Ok.via (Ok.legs ?_) rfl ?_
  · exact fun h => Sparse.wf_modify h
  exact Ok.refl

theorem State.modCoil_ok : ∀ s x1 x2 x3, Ok [.coils] s (@State.modCoil s x1 x2 x3) := by
  intro s x1 x2 x3
  delta State.modCoil
  refine Ok.via (Ok.coils ?_) rfl ?_
  · exact fun h => Sparse.wf_modify h
  exact Ok.refl

theorem State.modCoach_ok : ∀ s x1 x2, Ok [.coaches] s (@State.modCoach s x1 x2) := by
  intro s x1 x2
  delta State.modCoach
  refine Ok.via (Ok.coaches ?_) rfl ?_
  · exact fun h => Sparse.wf_modify h
  exact Ok.refl

theorem State.answer_ok : ∀ s x1 x2, Ok [.replies] s (@State.answer s x1 x2) := by
  intro s x1 x2
  delta State.answer
  refine Ok.via (Ok.replies ?_) rfl ?_
  · exact fun h => Sparse.wf_set h
  exact Ok.refl

theorem State.fresh_ok : ∀ s, OkP [.free] s (@State.fresh s) := by
  intro s
  delta State.fresh
  refine OkP.mk ?_
  refine Ok.via Ok.free rfl ?_
  exact Ok.refl

end Sys2Proof.Machine
end

