-- ==== Sys2Proof/Laws/OkFlags.lean ====
section
/-!
SUPPORT. Laws/OkFlags.lean: for each operation of Machine/Flags.lean, the parts of the state it can change, and that it keeps a
good state good.
-/

namespace Sys2Proof.Machine

set_option Elab.async false

theorem State.modPower_ok : ∀ s x1, Ok [.power] s (@State.modPower s x1) := by
  intro s x1
  delta State.modPower
  refine Ok.via Ok.power rfl ?_
  exact Ok.refl

theorem State.setBad_ok : ∀ s x1 x2, Ok [.bad] s (@State.setBad s x1 x2) := by
  intro s x1 x2
  delta State.setBad
  refine Ok.via (Ok.bad ?_) rfl ?_
  · exact fun h => Sparse.wf_set h
  exact Ok.refl

theorem logAdd_ok : ∀ x s, Ok [.logQ, .reg .MGS_LOGSTAT] s (logAdd x s) := by
  intro x s
  delta logAdd
  split
  · rename_i h
    refine (Ok.logQ fun _ => ?_).mono rfl
    simp only [List.length_append, List.length_cons, List.length_nil]
    omega
  · exact (State.inc_at (at_MGS_LOGSTAT)).mono rfl

theorem logMgs_ok : ∀ x0 x1 x2 x3 s, Ok [.logQ, .reg .MGS_LOGSTAT] s (@logMgs x0 x1 x2 x3 s) := by
  intro x0 x1 x2 x3 s
  delta logMgs
  refine Ok.via (logAdd_ok ..) rfl ?_
  exact Ok.refl

theorem logOcc_ok : ∀ x0 s, Ok [.logQ, .logWin, .reg .MGS_LOGSTAT] s (@logOcc x0 s) := by
  intro x0 s
  delta logOcc
  extract_lets +onlyGivenNames -merge -useContext s0
  clear_value s0
  refine Ok.ite ?_ ?_
  · refine Ok.via (logAdd_ok ..) rfl ?_
    refine Ok.via (Ok.logWin ?_) rfl ?_
    · exact fun h => Sparse.wf_set h
    exact Ok.refl
  · refine Ok.via (logAdd_ok ..) rfl ?_
    refine Ok.via (Ok.logWin ?_) rfl ?_
    · exact fun h => Sparse.wf_set h
    exact Ok.refl

theorem logRoute_ok : ∀ x0 s, Ok [.logQ, .logWin, .reg .MGS_LOGSTAT] s (@logRoute x0 s) := by
  intro x0 s
  delta logRoute
  split
  · refine Ok.ite ?_ ?_
    · refine Ok.via (Ok.logWin ?_) rfl ?_
      · exact fun h => Sparse.wf_set h
      exact Ok.refl
    · refine Ok.via (logOcc_ok ..) rfl ?_
      exact Ok.refl
  · refine Ok.via (logOcc_ok ..) rfl ?_
    exact Ok.refl

theorem pend_ok : ∀ x0 x1 x2 s, Ok [.trioQ, .emcyQ, .logQ, .logWin, .reg .EV_PEND, .reg .MGS_LOGSTAT] s (@pend x0 x1 x2 s) := by
  intro x0 x1 x2 s
  delta pend
  extract_lets +onlyGivenNames -merge -useContext s0
  clear_value s0
  extract_lets +onlyGivenNames -merge -useContext s1
  refine Ok.withS (x := s1) ?_ fun h2 => ?_
  · unfold s1
    refine Ok.via (State.putBitAt_at (at_EV_PEND _)) rfl ?_
    exact Ok.refl
  clear_value s1
  refine Ok.ite ?_ ?_
  · extract_lets +onlyGivenNames -merge -useContext s3
    clear_value s3
    extract_lets +onlyGivenNames -merge -useContext s4
    refine Ok.withS (x := s4) ?_ fun h5 => ?_
    · unfold s4
      refine Ok.ite ?_ ?_
      · refine Ok.via (logRoute_ok ..) rfl ?_
        exact h2
      · exact h2
    clear_value s4
    refine Ok.trans h5 ((Ok.mk' (W := [.trioQ, .emcyQ]) ⟨?_, ?_⟩ ?_).mono rfl)
    · intro p hp
      cases p <;> first | rfl | trivial
    · exact .inr fun _ _ => rfl
    · exact fun g => { g with  }
  · exact h2

theorem pendD4_ok : ∀ x0 x1 x2 s, Ok [.trioQ, .emcyQ, .logQ, .logWin, .power, .reg .EV_PEND, .reg .MGS_LOGSTAT] s (@pendD4 x0 x1 x2 s) := by
  intro x0 x1 x2 s
  delta pendD4
  refine Ok.ite ?_ ?_
  · refine Ok.via (State.modPower_ok ..) rfl ?_
    exact Ok.refl
  · refine Ok.via (pend_ok ..) rfl ?_
    exact Ok.refl

theorem pendSrc_ok : ∀ x0 s, Ok [.trioQ, .emcyQ, .logQ, .logWin, .reg .EV_PEND, .reg .MGS_LOGSTAT] s (@pendSrc x0 s) := by
  intro x0 s
  delta pendSrc
  refine Ok.via (pend_ok ..) rfl ?_
  exact Ok.refl

theorem setAct_ok : ∀ x0 x1 s, Ok [.reg .EV_ACT] s (@setAct x0 x1 s) := by
  intro x0 x1 s
  delta setAct
  refine Ok.via (State.putBitAt_at (at_EV_ACT _)) rfl ?_
  exact Ok.refl

theorem updAlert_ok : ∀ x0 s, Ok [.trioQ, .emcyQ, .logQ, .logWin, .reg .AXALERT, .reg .EV_PEND, .reg .MGS_LOGSTAT] s (@updAlert x0 s) := by
  intro x0 s
  delta updAlert
  extract_lets +onlyGivenNames -merge -useContext s0
  clear_value s0
  extract_lets +onlyGivenNames -merge -useContext s1
  clear_value s1
  extract_lets +onlyGivenNames -merge -useContext s2
  refine Ok.withS (x := s2) ?_ fun h3 => ?_
  · unfold s2
    refine Ok.via (State.putBitAt_at (at_AXALERT _)) rfl ?_
    exact Ok.refl
  clear_value s2
  refine Ok.ite ?_ ?_
  · refine Ok.via (pend_ok ..) rfl ?_
    exact h3
  · exact h3

theorem pendDone_ok : ∀ x0 s, Ok [.trioQ, .emcyQ, .logQ, .logWin, .reg .EV_AXDONE, .reg .EV_PEND, .reg .MGS_LOGSTAT] s (@pendDone x0 s) := by
  intro x0 s
  delta pendDone
  refine Ok.via (pend_ok ..) rfl ?_
  refine Ok.via (State.putBitAt_at (at_EV_AXDONE _)) rfl ?_
  exact Ok.refl

theorem sendCtl_ok : ∀ x0 x1 s, Ok [.coaches] s (@sendCtl x0 x1 s) := by
  intro x0 x1 s
  delta sendCtl
  refine Ok.ite ?_ ?_
  · refine Ok.via (State.modCoach_ok ..) rfl ?_
    exact Ok.refl
  · exact Ok.refl

theorem killLegs_ok : ∀ x0 x1 s, Ok [.coaches] s (@killLegs x0 x1 s) := by
  intro x0 x1 s
  delta killLegs
  refine Ok.ite ?_ ?_
  · exact Ok.refl
  · refine Ok.via (sendCtl_ok ..) rfl ?_
    exact Ok.refl

theorem latchAxis_ok : ∀ x0 s, Ok [.trioQ, .emcyQ, .logQ, .logWin, .coaches, .reg .AXALERT, .reg .AX_FLTSTAT, .reg .EV_PEND, .reg .MGS_LOGSTAT] s (@latchAxis x0 s) := by
  intro x0 s
  delta latchAxis
  extract_lets +onlyGivenNames -merge -useContext s0
  clear_value s0
  refine Ok.ite ?_ ?_
  · extract_lets +onlyGivenNames -merge -useContext s1
    refine Ok.withS (x := s1) ?_ fun h2 => ?_
    · unfold s1
      refine Ok.via (updAlert_ok ..) rfl ?_
      refine Ok.via (State.put_at (at_AX_FLTSTAT _)) rfl ?_
      exact Ok.refl
    clear_value s1
    refine Ok.ite ?_ ?_
    · refine Ok.via (killLegs_ok ..) rfl ?_
      exact h2
    · exact h2
  · exact Ok.refl

end Sys2Proof.Machine
end

