-- ==== Sys2Proof/Laws/State.lean ====
section
/-!
SUPPORT. Laws/State.lean: what each named update of the state leaves and sets, field by field and reader by reader; reading a
register word, a field or a keyed part after writing it.
-/

namespace Sys2Proof.Machine

set_option Elab.async false

variable (s : State)

/-! ### Fields after each update -/

@[simp] theorem State.wr_snap (a : Nat) (w : Word) : (s.wr a w).snap = s.snap := rfl
@[simp] theorem State.wr_staged (a : Nat) (w : Word) : (s.wr a w).staged = s.staged := rfl
@[simp] theorem State.wr_bad (a : Nat) (w : Word) : (s.wr a w).bad = s.bad := rfl
@[simp] theorem State.wr_replies (a : Nat) (w : Word) : (s.wr a w).replies = s.replies := rfl
@[simp] theorem State.wr_guards (a : Nat) (w : Word) : (s.wr a w).guards = s.guards := rfl
@[simp] theorem State.wr_hostPair (a : Nat) (w : Word) : (s.wr a w).hostPair = s.hostPair := rfl
@[simp] theorem State.wr_trioPair (a : Nat) (w : Word) : (s.wr a w).trioPair = s.trioPair := rfl
@[simp] theorem State.wr_mgsPair (a : Nat) (w : Word) : (s.wr a w).mgsPair = s.mgsPair := rfl
@[simp] theorem State.wr_canPair (a : Nat) (w : Word) : (s.wr a w).canPair = s.canPair := rfl
@[simp] theorem State.wr_ticks (a : Nat) (w : Word) : (s.wr a w).ticks = s.ticks := rfl
@[simp] theorem State.wr_free (a : Nat) (w : Word) : (s.wr a w).free = s.free := rfl
@[simp] theorem State.wr_trioQ (a : Nat) (w : Word) : (s.wr a w).trioQ = s.trioQ := rfl
@[simp] theorem State.wr_emcyQ (a : Nat) (w : Word) : (s.wr a w).emcyQ = s.emcyQ := rfl
@[simp] theorem State.wr_logQ (a : Nat) (w : Word) : (s.wr a w).logQ = s.logQ := rfl
@[simp] theorem State.wr_logWin (a : Nat) (w : Word) : (s.wr a w).logWin = s.logWin := rfl
@[simp] theorem State.wr_legs (a : Nat) (w : Word) : (s.wr a w).legs = s.legs := rfl
@[simp] theorem State.wr_coils (a : Nat) (w : Word) : (s.wr a w).coils = s.coils := rfl
@[simp] theorem State.wr_coaches (a : Nat) (w : Word) : (s.wr a w).coaches = s.coaches := rfl
@[simp] theorem State.wr_trips (a : Nat) (w : Word) : (s.wr a w).trips = s.trips := rfl
@[simp] theorem State.wr_runs (a : Nat) (w : Word) : (s.wr a w).runs = s.runs := rfl
@[simp] theorem State.wr_axes (a : Nat) (w : Word) : (s.wr a w).axes = s.axes := rfl
@[simp] theorem State.wr_pl (a : Nat) (w : Word) : (s.wr a w).pl = s.pl := rfl
@[simp] theorem State.wr_power (a : Nat) (w : Word) : (s.wr a w).power = s.power := rfl
@[simp] theorem State.wr_syncOut (a : Nat) (w : Word) : (s.wr a w).syncOut = s.syncOut := rfl
@[simp] theorem State.wr_encs (a : Nat) (w : Word) : (s.wr a w).encs = s.encs := rfl
@[simp] theorem State.wr_stepLast (a : Nat) (w : Word) : (s.wr a w).stepLast = s.stepLast := rfl
@[simp] theorem State.wr_stepDir (a : Nat) (w : Word) : (s.wr a w).stepDir = s.stepDir := rfl
@[simp] theorem State.wr_recipes (a : Nat) (w : Word) : (s.wr a w).recipes = s.recipes := rfl
@[simp] theorem State.wr_rbcnt (a : Nat) (w : Word) : (s.wr a w).rbcnt = s.rbcnt := rfl
@[simp] theorem State.wr_sds (a : Nat) (w : Word) : (s.wr a w).sds = s.sds := rfl
@[simp] theorem State.wr_afe (a : Nat) (w : Word) : (s.wr a w).afe = s.afe := rfl
@[simp] theorem State.wr_trio (a : Nat) (w : Word) : (s.wr a w).trio = s.trio := rfl
@[simp] theorem State.wr_mgs (a : Nat) (w : Word) : (s.wr a w).mgs = s.mgs := rfl
@[simp] theorem State.wr_net (a : Nat) (w : Word) : (s.wr a w).net = s.net := rfl
@[simp] theorem State.wr_sph (a : Nat) (w : Word) : (s.wr a w).sph = s.sph := rfl
@[simp] theorem State.wr_spm (a : Nat) (w : Word) : (s.wr a w).spm = s.spm := rfl
@[simp] theorem State.wr_nvm (a : Nat) (w : Word) : (s.wr a w).nvm = s.nvm := rfl
@[simp] theorem State.wr_pending (a : Nat) (w : Word) : (s.wr a w).pending = s.pending := rfl
@[simp] theorem State.wr_stagedAt (a : Nat) (w : Word) (i : Nat) : (s.wr a w).stagedAt i = s.stagedAt i := rfl
@[simp] theorem State.wr_isBad (a : Nat) (w : Word) (i : Nat) : (s.wr a w).isBad i = s.isBad i := rfl
@[simp] theorem State.wr_reply (a : Nat) (w : Word) (o : Master) : (s.wr a w).reply o = s.reply o := rfl
@[simp] theorem State.wr_guardAt (a : Nat) (w : Word) (i : Nat) : (s.wr a w).guardAt i = s.guardAt i := rfl
@[simp] theorem State.wr_mo (a : Nat) (w : Word) (i : Nat) : (s.wr a w).mo i = s.mo i := rfl
@[simp] theorem State.wr_se (a : Nat) (w : Word) (i : Nat) : (s.wr a w).se i = s.se i := rfl
@[simp] theorem State.wr_leg (a : Nat) (w : Word) (i : Nat) : (s.wr a w).leg i = s.leg i := rfl
@[simp] theorem State.wr_coil (a : Nat) (w : Word) (i j : Nat) : (s.wr a w).coil i j = s.coil i j := rfl
@[simp] theorem State.wr_coach (a : Nat) (w : Word) (i : Nat) : (s.wr a w).coach i = s.coach i := rfl
@[simp] theorem State.wr_enc (a : Nat) (w : Word) (i : Nat) : (s.wr a w).enc i = s.enc i := rfl
@[simp] theorem State.wr_sd (a : Nat) (w : Word) (i : Nat) : (s.wr a w).sd i = s.sd i := rfl
@[simp] theorem State.put_snap (f : Fld) (v : Nat) : (s.put f v).snap = s.snap := rfl
@[simp] theorem State.put_staged (f : Fld) (v : Nat) : (s.put f v).staged = s.staged := rfl
@[simp] theorem State.put_bad (f : Fld) (v : Nat) : (s.put f v).bad = s.bad := rfl
@[simp] theorem State.put_replies (f : Fld) (v : Nat) : (s.put f v).replies = s.replies := rfl
@[simp] theorem State.put_guards (f : Fld) (v : Nat) : (s.put f v).guards = s.guards := rfl
@[simp] theorem State.put_hostPair (f : Fld) (v : Nat) : (s.put f v).hostPair = s.hostPair := rfl
@[simp] theorem State.put_trioPair (f : Fld) (v : Nat) : (s.put f v).trioPair = s.trioPair := rfl
@[simp] theorem State.put_mgsPair (f : Fld) (v : Nat) : (s.put f v).mgsPair = s.mgsPair := rfl
@[simp] theorem State.put_canPair (f : Fld) (v : Nat) : (s.put f v).canPair = s.canPair := rfl
@[simp] theorem State.put_ticks (f : Fld) (v : Nat) : (s.put f v).ticks = s.ticks := rfl
@[simp] theorem State.put_free (f : Fld) (v : Nat) : (s.put f v).free = s.free := rfl
@[simp] theorem State.put_trioQ (f : Fld) (v : Nat) : (s.put f v).trioQ = s.trioQ := rfl
@[simp] theorem State.put_emcyQ (f : Fld) (v : Nat) : (s.put f v).emcyQ = s.emcyQ := rfl
@[simp] theorem State.put_logQ (f : Fld) (v : Nat) : (s.put f v).logQ = s.logQ := rfl
@[simp] theorem State.put_logWin (f : Fld) (v : Nat) : (s.put f v).logWin = s.logWin := rfl
@[simp] theorem State.put_legs (f : Fld) (v : Nat) : (s.put f v).legs = s.legs := rfl
@[simp] theorem State.put_coils (f : Fld) (v : Nat) : (s.put f v).coils = s.coils := rfl
@[simp] theorem State.put_coaches (f : Fld) (v : Nat) : (s.put f v).coaches = s.coaches := rfl
@[simp] theorem State.put_trips (f : Fld) (v : Nat) : (s.put f v).trips = s.trips := rfl
@[simp] theorem State.put_runs (f : Fld) (v : Nat) : (s.put f v).runs = s.runs := rfl
@[simp] theorem State.put_axes (f : Fld) (v : Nat) : (s.put f v).axes = s.axes := rfl
@[simp] theorem State.put_pl (f : Fld) (v : Nat) : (s.put f v).pl = s.pl := rfl
@[simp] theorem State.put_power (f : Fld) (v : Nat) : (s.put f v).power = s.power := rfl
@[simp] theorem State.put_syncOut (f : Fld) (v : Nat) : (s.put f v).syncOut = s.syncOut := rfl
@[simp] theorem State.put_encs (f : Fld) (v : Nat) : (s.put f v).encs = s.encs := rfl
@[simp] theorem State.put_stepLast (f : Fld) (v : Nat) : (s.put f v).stepLast = s.stepLast := rfl
@[simp] theorem State.put_stepDir (f : Fld) (v : Nat) : (s.put f v).stepDir = s.stepDir := rfl
@[simp] theorem State.put_recipes (f : Fld) (v : Nat) : (s.put f v).recipes = s.recipes := rfl
@[simp] theorem State.put_rbcnt (f : Fld) (v : Nat) : (s.put f v).rbcnt = s.rbcnt := rfl
@[simp] theorem State.put_sds (f : Fld) (v : Nat) : (s.put f v).sds = s.sds := rfl
@[simp] theorem State.put_afe (f : Fld) (v : Nat) : (s.put f v).afe = s.afe := rfl
@[simp] theorem State.put_trio (f : Fld) (v : Nat) : (s.put f v).trio = s.trio := rfl
@[simp] theorem State.put_mgs (f : Fld) (v : Nat) : (s.put f v).mgs = s.mgs := rfl
@[simp] theorem State.put_net (f : Fld) (v : Nat) : (s.put f v).net = s.net := rfl
@[simp] theorem State.put_sph (f : Fld) (v : Nat) : (s.put f v).sph = s.sph := rfl
@[simp] theorem State.put_spm (f : Fld) (v : Nat) : (s.put f v).spm = s.spm := rfl
@[simp] theorem State.put_nvm (f : Fld) (v : Nat) : (s.put f v).nvm = s.nvm := rfl
@[simp] theorem State.put_pending (f : Fld) (v : Nat) : (s.put f v).pending = s.pending := rfl
@[simp] theorem State.put_stagedAt (f : Fld) (v : Nat) (i : Nat) : (s.put f v).stagedAt i = s.stagedAt i := rfl
@[simp] theorem State.put_isBad (f : Fld) (v : Nat) (i : Nat) : (s.put f v).isBad i = s.isBad i := rfl
@[simp] theorem State.put_reply (f : Fld) (v : Nat) (o : Master) : (s.put f v).reply o = s.reply o := rfl
@[simp] theorem State.put_guardAt (f : Fld) (v : Nat) (i : Nat) : (s.put f v).guardAt i = s.guardAt i := rfl
@[simp] theorem State.put_mo (f : Fld) (v : Nat) (i : Nat) : (s.put f v).mo i = s.mo i := rfl
@[simp] theorem State.put_se (f : Fld) (v : Nat) (i : Nat) : (s.put f v).se i = s.se i := rfl
@[simp] theorem State.put_leg (f : Fld) (v : Nat) (i : Nat) : (s.put f v).leg i = s.leg i := rfl
@[simp] theorem State.put_coil (f : Fld) (v : Nat) (i j : Nat) : (s.put f v).coil i j = s.coil i j := rfl
@[simp] theorem State.put_coach (f : Fld) (v : Nat) (i : Nat) : (s.put f v).coach i = s.coach i := rfl
@[simp] theorem State.put_enc (f : Fld) (v : Nat) (i : Nat) : (s.put f v).enc i = s.enc i := rfl
@[simp] theorem State.put_sd (f : Fld) (v : Nat) (i : Nat) : (s.put f v).sd i = s.sd i := rfl
@[simp] theorem State.putB_snap (f : Fld) (v : Bool) : (s.putB f v).snap = s.snap := rfl
@[simp] theorem State.putB_staged (f : Fld) (v : Bool) : (s.putB f v).staged = s.staged := rfl
@[simp] theorem State.putB_bad (f : Fld) (v : Bool) : (s.putB f v).bad = s.bad := rfl
@[simp] theorem State.putB_replies (f : Fld) (v : Bool) : (s.putB f v).replies = s.replies := rfl
@[simp] theorem State.putB_guards (f : Fld) (v : Bool) : (s.putB f v).guards = s.guards := rfl
@[simp] theorem State.putB_hostPair (f : Fld) (v : Bool) : (s.putB f v).hostPair = s.hostPair := rfl
@[simp] theorem State.putB_trioPair (f : Fld) (v : Bool) : (s.putB f v).trioPair = s.trioPair := rfl
@[simp] theorem State.putB_mgsPair (f : Fld) (v : Bool) : (s.putB f v).mgsPair = s.mgsPair := rfl
@[simp] theorem State.putB_canPair (f : Fld) (v : Bool) : (s.putB f v).canPair = s.canPair := rfl
@[simp] theorem State.putB_ticks (f : Fld) (v : Bool) : (s.putB f v).ticks = s.ticks := rfl
@[simp] theorem State.putB_free (f : Fld) (v : Bool) : (s.putB f v).free = s.free := rfl
@[simp] theorem State.putB_trioQ (f : Fld) (v : Bool) : (s.putB f v).trioQ = s.trioQ := rfl
@[simp] theorem State.putB_emcyQ (f : Fld) (v : Bool) : (s.putB f v).emcyQ = s.emcyQ := rfl
@[simp] theorem State.putB_logQ (f : Fld) (v : Bool) : (s.putB f v).logQ = s.logQ := rfl
@[simp] theorem State.putB_logWin (f : Fld) (v : Bool) : (s.putB f v).logWin = s.logWin := rfl
@[simp] theorem State.putB_legs (f : Fld) (v : Bool) : (s.putB f v).legs = s.legs := rfl
@[simp] theorem State.putB_coils (f : Fld) (v : Bool) : (s.putB f v).coils = s.coils := rfl
@[simp] theorem State.putB_coaches (f : Fld) (v : Bool) : (s.putB f v).coaches = s.coaches := rfl
@[simp] theorem State.putB_trips (f : Fld) (v : Bool) : (s.putB f v).trips = s.trips := rfl
@[simp] theorem State.putB_runs (f : Fld) (v : Bool) : (s.putB f v).runs = s.runs := rfl
@[simp] theorem State.putB_axes (f : Fld) (v : Bool) : (s.putB f v).axes = s.axes := rfl
@[simp] theorem State.putB_pl (f : Fld) (v : Bool) : (s.putB f v).pl = s.pl := rfl
@[simp] theorem State.putB_power (f : Fld) (v : Bool) : (s.putB f v).power = s.power := rfl
@[simp] theorem State.putB_syncOut (f : Fld) (v : Bool) : (s.putB f v).syncOut = s.syncOut := rfl
@[simp] theorem State.putB_encs (f : Fld) (v : Bool) : (s.putB f v).encs = s.encs := rfl
@[simp] theorem State.putB_stepLast (f : Fld) (v : Bool) : (s.putB f v).stepLast = s.stepLast := rfl
@[simp] theorem State.putB_stepDir (f : Fld) (v : Bool) : (s.putB f v).stepDir = s.stepDir := rfl
@[simp] theorem State.putB_recipes (f : Fld) (v : Bool) : (s.putB f v).recipes = s.recipes := rfl
@[simp] theorem State.putB_rbcnt (f : Fld) (v : Bool) : (s.putB f v).rbcnt = s.rbcnt := rfl
@[simp] theorem State.putB_sds (f : Fld) (v : Bool) : (s.putB f v).sds = s.sds := rfl
@[simp] theorem State.putB_afe (f : Fld) (v : Bool) : (s.putB f v).afe = s.afe := rfl
@[simp] theorem State.putB_trio (f : Fld) (v : Bool) : (s.putB f v).trio = s.trio := rfl
@[simp] theorem State.putB_mgs (f : Fld) (v : Bool) : (s.putB f v).mgs = s.mgs := rfl
@[simp] theorem State.putB_net (f : Fld) (v : Bool) : (s.putB f v).net = s.net := rfl
@[simp] theorem State.putB_sph (f : Fld) (v : Bool) : (s.putB f v).sph = s.sph := rfl
@[simp] theorem State.putB_spm (f : Fld) (v : Bool) : (s.putB f v).spm = s.spm := rfl
@[simp] theorem State.putB_nvm (f : Fld) (v : Bool) : (s.putB f v).nvm = s.nvm := rfl
@[simp] theorem State.putB_pending (f : Fld) (v : Bool) : (s.putB f v).pending = s.pending := rfl
@[simp] theorem State.putB_stagedAt (f : Fld) (v : Bool) (i : Nat) : (s.putB f v).stagedAt i = s.stagedAt i := rfl
@[simp] theorem State.putB_isBad (f : Fld) (v : Bool) (i : Nat) : (s.putB f v).isBad i = s.isBad i := rfl
@[simp] theorem State.putB_reply (f : Fld) (v : Bool) (o : Master) : (s.putB f v).reply o = s.reply o := rfl
@[simp] theorem State.putB_guardAt (f : Fld) (v : Bool) (i : Nat) : (s.putB f v).guardAt i = s.guardAt i := rfl
@[simp] theorem State.putB_mo (f : Fld) (v : Bool) (i : Nat) : (s.putB f v).mo i = s.mo i := rfl
@[simp] theorem State.putB_se (f : Fld) (v : Bool) (i : Nat) : (s.putB f v).se i = s.se i := rfl
@[simp] theorem State.putB_leg (f : Fld) (v : Bool) (i : Nat) : (s.putB f v).leg i = s.leg i := rfl
@[simp] theorem State.putB_coil (f : Fld) (v : Bool) (i j : Nat) : (s.putB f v).coil i j = s.coil i j := rfl
@[simp] theorem State.putB_coach (f : Fld) (v : Bool) (i : Nat) : (s.putB f v).coach i = s.coach i := rfl
@[simp] theorem State.putB_enc (f : Fld) (v : Bool) (i : Nat) : (s.putB f v).enc i = s.enc i := rfl
@[simp] theorem State.putB_sd (f : Fld) (v : Bool) (i : Nat) : (s.putB f v).sd i = s.sd i := rfl
@[simp] theorem State.putI_snap (f : Fld) (v : Int) : (s.putI f v).snap = s.snap := rfl
@[simp] theorem State.putI_staged (f : Fld) (v : Int) : (s.putI f v).staged = s.staged := rfl
@[simp] theorem State.putI_bad (f : Fld) (v : Int) : (s.putI f v).bad = s.bad := rfl
@[simp] theorem State.putI_replies (f : Fld) (v : Int) : (s.putI f v).replies = s.replies := rfl
@[simp] theorem State.putI_guards (f : Fld) (v : Int) : (s.putI f v).guards = s.guards := rfl
@[simp] theorem State.putI_hostPair (f : Fld) (v : Int) : (s.putI f v).hostPair = s.hostPair := rfl
@[simp] theorem State.putI_trioPair (f : Fld) (v : Int) : (s.putI f v).trioPair = s.trioPair := rfl
@[simp] theorem State.putI_mgsPair (f : Fld) (v : Int) : (s.putI f v).mgsPair = s.mgsPair := rfl
@[simp] theorem State.putI_canPair (f : Fld) (v : Int) : (s.putI f v).canPair = s.canPair := rfl
@[simp] theorem State.putI_ticks (f : Fld) (v : Int) : (s.putI f v).ticks = s.ticks := rfl
@[simp] theorem State.putI_free (f : Fld) (v : Int) : (s.putI f v).free = s.free := rfl
@[simp] theorem State.putI_trioQ (f : Fld) (v : Int) : (s.putI f v).trioQ = s.trioQ := rfl
@[simp] theorem State.putI_emcyQ (f : Fld) (v : Int) : (s.putI f v).emcyQ = s.emcyQ := rfl
@[simp] theorem State.putI_logQ (f : Fld) (v : Int) : (s.putI f v).logQ = s.logQ := rfl
@[simp] theorem State.putI_logWin (f : Fld) (v : Int) : (s.putI f v).logWin = s.logWin := rfl
@[simp] theorem State.putI_legs (f : Fld) (v : Int) : (s.putI f v).legs = s.legs := rfl
@[simp] theorem State.putI_coils (f : Fld) (v : Int) : (s.putI f v).coils = s.coils := rfl
@[simp] theorem State.putI_coaches (f : Fld) (v : Int) : (s.putI f v).coaches = s.coaches := rfl
@[simp] theorem State.putI_trips (f : Fld) (v : Int) : (s.putI f v).trips = s.trips := rfl
@[simp] theorem State.putI_runs (f : Fld) (v : Int) : (s.putI f v).runs = s.runs := rfl
@[simp] theorem State.putI_axes (f : Fld) (v : Int) : (s.putI f v).axes = s.axes := rfl
@[simp] theorem State.putI_pl (f : Fld) (v : Int) : (s.putI f v).pl = s.pl := rfl
@[simp] theorem State.putI_power (f : Fld) (v : Int) : (s.putI f v).power = s.power := rfl
@[simp] theorem State.putI_syncOut (f : Fld) (v : Int) : (s.putI f v).syncOut = s.syncOut := rfl
@[simp] theorem State.putI_encs (f : Fld) (v : Int) : (s.putI f v).encs = s.encs := rfl
@[simp] theorem State.putI_stepLast (f : Fld) (v : Int) : (s.putI f v).stepLast = s.stepLast := rfl
@[simp] theorem State.putI_stepDir (f : Fld) (v : Int) : (s.putI f v).stepDir = s.stepDir := rfl
@[simp] theorem State.putI_recipes (f : Fld) (v : Int) : (s.putI f v).recipes = s.recipes := rfl
@[simp] theorem State.putI_rbcnt (f : Fld) (v : Int) : (s.putI f v).rbcnt = s.rbcnt := rfl
@[simp] theorem State.putI_sds (f : Fld) (v : Int) : (s.putI f v).sds = s.sds := rfl
@[simp] theorem State.putI_afe (f : Fld) (v : Int) : (s.putI f v).afe = s.afe := rfl
@[simp] theorem State.putI_trio (f : Fld) (v : Int) : (s.putI f v).trio = s.trio := rfl
@[simp] theorem State.putI_mgs (f : Fld) (v : Int) : (s.putI f v).mgs = s.mgs := rfl
@[simp] theorem State.putI_net (f : Fld) (v : Int) : (s.putI f v).net = s.net := rfl
@[simp] theorem State.putI_sph (f : Fld) (v : Int) : (s.putI f v).sph = s.sph := rfl
@[simp] theorem State.putI_spm (f : Fld) (v : Int) : (s.putI f v).spm = s.spm := rfl
@[simp] theorem State.putI_nvm (f : Fld) (v : Int) : (s.putI f v).nvm = s.nvm := rfl
@[simp] theorem State.putI_pending (f : Fld) (v : Int) : (s.putI f v).pending = s.pending := rfl
@[simp] theorem State.putI_stagedAt (f : Fld) (v : Int) (i : Nat) : (s.putI f v).stagedAt i = s.stagedAt i := rfl
@[simp] theorem State.putI_isBad (f : Fld) (v : Int) (i : Nat) : (s.putI f v).isBad i = s.isBad i := rfl
@[simp] theorem State.putI_reply (f : Fld) (v : Int) (o : Master) : (s.putI f v).reply o = s.reply o := rfl
@[simp] theorem State.putI_guardAt (f : Fld) (v : Int) (i : Nat) : (s.putI f v).guardAt i = s.guardAt i := rfl
@[simp] theorem State.putI_mo (f : Fld) (v : Int) (i : Nat) : (s.putI f v).mo i = s.mo i := rfl
@[simp] theorem State.putI_se (f : Fld) (v : Int) (i : Nat) : (s.putI f v).se i = s.se i := rfl
@[simp] theorem State.putI_leg (f : Fld) (v : Int) (i : Nat) : (s.putI f v).leg i = s.leg i := rfl
@[simp] theorem State.putI_coil (f : Fld) (v : Int) (i j : Nat) : (s.putI f v).coil i j = s.coil i j := rfl
@[simp] theorem State.putI_coach (f : Fld) (v : Int) (i : Nat) : (s.putI f v).coach i = s.coach i := rfl
@[simp] theorem State.putI_enc (f : Fld) (v : Int) (i : Nat) : (s.putI f v).enc i = s.enc i := rfl
@[simp] theorem State.putI_sd (f : Fld) (v : Int) (i : Nat) : (s.putI f v).sd i = s.sd i := rfl
@[simp] theorem State.addSat_snap (f : Fld) (v : Nat) : (s.addSat f v).snap = s.snap := rfl
@[simp] theorem State.addSat_staged (f : Fld) (v : Nat) : (s.addSat f v).staged = s.staged := rfl
@[simp] theorem State.addSat_bad (f : Fld) (v : Nat) : (s.addSat f v).bad = s.bad := rfl
@[simp] theorem State.addSat_replies (f : Fld) (v : Nat) : (s.addSat f v).replies = s.replies := rfl
@[simp] theorem State.addSat_guards (f : Fld) (v : Nat) : (s.addSat f v).guards = s.guards := rfl
@[simp] theorem State.addSat_hostPair (f : Fld) (v : Nat) : (s.addSat f v).hostPair = s.hostPair := rfl
@[simp] theorem State.addSat_trioPair (f : Fld) (v : Nat) : (s.addSat f v).trioPair = s.trioPair := rfl
@[simp] theorem State.addSat_mgsPair (f : Fld) (v : Nat) : (s.addSat f v).mgsPair = s.mgsPair := rfl
@[simp] theorem State.addSat_canPair (f : Fld) (v : Nat) : (s.addSat f v).canPair = s.canPair := rfl
@[simp] theorem State.addSat_ticks (f : Fld) (v : Nat) : (s.addSat f v).ticks = s.ticks := rfl
@[simp] theorem State.addSat_free (f : Fld) (v : Nat) : (s.addSat f v).free = s.free := rfl
@[simp] theorem State.addSat_trioQ (f : Fld) (v : Nat) : (s.addSat f v).trioQ = s.trioQ := rfl
@[simp] theorem State.addSat_emcyQ (f : Fld) (v : Nat) : (s.addSat f v).emcyQ = s.emcyQ := rfl
@[simp] theorem State.addSat_logQ (f : Fld) (v : Nat) : (s.addSat f v).logQ = s.logQ := rfl
@[simp] theorem State.addSat_logWin (f : Fld) (v : Nat) : (s.addSat f v).logWin = s.logWin := rfl
@[simp] theorem State.addSat_legs (f : Fld) (v : Nat) : (s.addSat f v).legs = s.legs := rfl
@[simp] theorem State.addSat_coils (f : Fld) (v : Nat) : (s.addSat f v).coils = s.coils := rfl
@[simp] theorem State.addSat_coaches (f : Fld) (v : Nat) : (s.addSat f v).coaches = s.coaches := rfl
@[simp] theorem State.addSat_trips (f : Fld) (v : Nat) : (s.addSat f v).trips = s.trips := rfl
@[simp] theorem State.addSat_runs (f : Fld) (v : Nat) : (s.addSat f v).runs = s.runs := rfl
@[simp] theorem State.addSat_axes (f : Fld) (v : Nat) : (s.addSat f v).axes = s.axes := rfl
@[simp] theorem State.addSat_pl (f : Fld) (v : Nat) : (s.addSat f v).pl = s.pl := rfl
@[simp] theorem State.addSat_power (f : Fld) (v : Nat) : (s.addSat f v).power = s.power := rfl
@[simp] theorem State.addSat_syncOut (f : Fld) (v : Nat) : (s.addSat f v).syncOut = s.syncOut := rfl
@[simp] theorem State.addSat_encs (f : Fld) (v : Nat) : (s.addSat f v).encs = s.encs := rfl
@[simp] theorem State.addSat_stepLast (f : Fld) (v : Nat) : (s.addSat f v).stepLast = s.stepLast := rfl
@[simp] theorem State.addSat_stepDir (f : Fld) (v : Nat) : (s.addSat f v).stepDir = s.stepDir := rfl
@[simp] theorem State.addSat_recipes (f : Fld) (v : Nat) : (s.addSat f v).recipes = s.recipes := rfl
@[simp] theorem State.addSat_rbcnt (f : Fld) (v : Nat) : (s.addSat f v).rbcnt = s.rbcnt := rfl
@[simp] theorem State.addSat_sds (f : Fld) (v : Nat) : (s.addSat f v).sds = s.sds := rfl
@[simp] theorem State.addSat_afe (f : Fld) (v : Nat) : (s.addSat f v).afe = s.afe := rfl
@[simp] theorem State.addSat_trio (f : Fld) (v : Nat) : (s.addSat f v).trio = s.trio := rfl
@[simp] theorem State.addSat_mgs (f : Fld) (v : Nat) : (s.addSat f v).mgs = s.mgs := rfl
@[simp] theorem State.addSat_net (f : Fld) (v : Nat) : (s.addSat f v).net = s.net := rfl
@[simp] theorem State.addSat_sph (f : Fld) (v : Nat) : (s.addSat f v).sph = s.sph := rfl
@[simp] theorem State.addSat_spm (f : Fld) (v : Nat) : (s.addSat f v).spm = s.spm := rfl
@[simp] theorem State.addSat_nvm (f : Fld) (v : Nat) : (s.addSat f v).nvm = s.nvm := rfl
@[simp] theorem State.addSat_pending (f : Fld) (v : Nat) : (s.addSat f v).pending = s.pending := rfl
@[simp] theorem State.addSat_stagedAt (f : Fld) (v : Nat) (i : Nat) : (s.addSat f v).stagedAt i = s.stagedAt i := rfl
@[simp] theorem State.addSat_isBad (f : Fld) (v : Nat) (i : Nat) : (s.addSat f v).isBad i = s.isBad i := rfl
@[simp] theorem State.addSat_reply (f : Fld) (v : Nat) (o : Master) : (s.addSat f v).reply o = s.reply o := rfl
@[simp] theorem State.addSat_guardAt (f : Fld) (v : Nat) (i : Nat) : (s.addSat f v).guardAt i = s.guardAt i := rfl
@[simp] theorem State.addSat_mo (f : Fld) (v : Nat) (i : Nat) : (s.addSat f v).mo i = s.mo i := rfl
@[simp] theorem State.addSat_se (f : Fld) (v : Nat) (i : Nat) : (s.addSat f v).se i = s.se i := rfl
@[simp] theorem State.addSat_leg (f : Fld) (v : Nat) (i : Nat) : (s.addSat f v).leg i = s.leg i := rfl
@[simp] theorem State.addSat_coil (f : Fld) (v : Nat) (i j : Nat) : (s.addSat f v).coil i j = s.coil i j := rfl
@[simp] theorem State.addSat_coach (f : Fld) (v : Nat) (i : Nat) : (s.addSat f v).coach i = s.coach i := rfl
@[simp] theorem State.addSat_enc (f : Fld) (v : Nat) (i : Nat) : (s.addSat f v).enc i = s.enc i := rfl
@[simp] theorem State.addSat_sd (f : Fld) (v : Nat) (i : Nat) : (s.addSat f v).sd i = s.sd i := rfl
@[simp] theorem State.inc_snap (f : Fld) : (s.inc f).snap = s.snap := rfl
@[simp] theorem State.inc_staged (f : Fld) : (s.inc f).staged = s.staged := rfl
@[simp] theorem State.inc_bad (f : Fld) : (s.inc f).bad = s.bad := rfl
@[simp] theorem State.inc_replies (f : Fld) : (s.inc f).replies = s.replies := rfl
@[simp] theorem State.inc_guards (f : Fld) : (s.inc f).guards = s.guards := rfl
@[simp] theorem State.inc_hostPair (f : Fld) : (s.inc f).hostPair = s.hostPair := rfl
@[simp] theorem State.inc_trioPair (f : Fld) : (s.inc f).trioPair = s.trioPair := rfl
@[simp] theorem State.inc_mgsPair (f : Fld) : (s.inc f).mgsPair = s.mgsPair := rfl
@[simp] theorem State.inc_canPair (f : Fld) : (s.inc f).canPair = s.canPair := rfl
@[simp] theorem State.inc_ticks (f : Fld) : (s.inc f).ticks = s.ticks := rfl
@[simp] theorem State.inc_free (f : Fld) : (s.inc f).free = s.free := rfl
@[simp] theorem State.inc_trioQ (f : Fld) : (s.inc f).trioQ = s.trioQ := rfl
@[simp] theorem State.inc_emcyQ (f : Fld) : (s.inc f).emcyQ = s.emcyQ := rfl
@[simp] theorem State.inc_logQ (f : Fld) : (s.inc f).logQ = s.logQ := rfl
@[simp] theorem State.inc_logWin (f : Fld) : (s.inc f).logWin = s.logWin := rfl
@[simp] theorem State.inc_legs (f : Fld) : (s.inc f).legs = s.legs := rfl
@[simp] theorem State.inc_coils (f : Fld) : (s.inc f).coils = s.coils := rfl
@[simp] theorem State.inc_coaches (f : Fld) : (s.inc f).coaches = s.coaches := rfl
@[simp] theorem State.inc_trips (f : Fld) : (s.inc f).trips = s.trips := rfl
@[simp] theorem State.inc_runs (f : Fld) : (s.inc f).runs = s.runs := rfl
@[simp] theorem State.inc_axes (f : Fld) : (s.inc f).axes = s.axes := rfl
@[simp] theorem State.inc_pl (f : Fld) : (s.inc f).pl = s.pl := rfl
@[simp] theorem State.inc_power (f : Fld) : (s.inc f).power = s.power := rfl
@[simp] theorem State.inc_syncOut (f : Fld) : (s.inc f).syncOut = s.syncOut := rfl
@[simp] theorem State.inc_encs (f : Fld) : (s.inc f).encs = s.encs := rfl
@[simp] theorem State.inc_stepLast (f : Fld) : (s.inc f).stepLast = s.stepLast := rfl
@[simp] theorem State.inc_stepDir (f : Fld) : (s.inc f).stepDir = s.stepDir := rfl
@[simp] theorem State.inc_recipes (f : Fld) : (s.inc f).recipes = s.recipes := rfl
@[simp] theorem State.inc_rbcnt (f : Fld) : (s.inc f).rbcnt = s.rbcnt := rfl
@[simp] theorem State.inc_sds (f : Fld) : (s.inc f).sds = s.sds := rfl
@[simp] theorem State.inc_afe (f : Fld) : (s.inc f).afe = s.afe := rfl
@[simp] theorem State.inc_trio (f : Fld) : (s.inc f).trio = s.trio := rfl
@[simp] theorem State.inc_mgs (f : Fld) : (s.inc f).mgs = s.mgs := rfl
@[simp] theorem State.inc_net (f : Fld) : (s.inc f).net = s.net := rfl
@[simp] theorem State.inc_sph (f : Fld) : (s.inc f).sph = s.sph := rfl
@[simp] theorem State.inc_spm (f : Fld) : (s.inc f).spm = s.spm := rfl
@[simp] theorem State.inc_nvm (f : Fld) : (s.inc f).nvm = s.nvm := rfl
@[simp] theorem State.inc_pending (f : Fld) : (s.inc f).pending = s.pending := rfl
@[simp] theorem State.inc_stagedAt (f : Fld) (i : Nat) : (s.inc f).stagedAt i = s.stagedAt i := rfl
@[simp] theorem State.inc_isBad (f : Fld) (i : Nat) : (s.inc f).isBad i = s.isBad i := rfl
@[simp] theorem State.inc_reply (f : Fld) (o : Master) : (s.inc f).reply o = s.reply o := rfl
@[simp] theorem State.inc_guardAt (f : Fld) (i : Nat) : (s.inc f).guardAt i = s.guardAt i := rfl
@[simp] theorem State.inc_mo (f : Fld) (i : Nat) : (s.inc f).mo i = s.mo i := rfl
@[simp] theorem State.inc_se (f : Fld) (i : Nat) : (s.inc f).se i = s.se i := rfl
@[simp] theorem State.inc_leg (f : Fld) (i : Nat) : (s.inc f).leg i = s.leg i := rfl
@[simp] theorem State.inc_coil (f : Fld) (i j : Nat) : (s.inc f).coil i j = s.coil i j := rfl
@[simp] theorem State.inc_coach (f : Fld) (i : Nat) : (s.inc f).coach i = s.coach i := rfl
@[simp] theorem State.inc_enc (f : Fld) (i : Nat) : (s.inc f).enc i = s.enc i := rfl
@[simp] theorem State.inc_sd (f : Fld) (i : Nat) : (s.inc f).sd i = s.sd i := rfl
@[simp] theorem State.putBitAt_snap (a b : Nat) (v : Bool) : (s.putBitAt a b v).snap = s.snap := rfl
@[simp] theorem State.putBitAt_staged (a b : Nat) (v : Bool) : (s.putBitAt a b v).staged = s.staged := rfl
@[simp] theorem State.putBitAt_bad (a b : Nat) (v : Bool) : (s.putBitAt a b v).bad = s.bad := rfl
@[simp] theorem State.putBitAt_replies (a b : Nat) (v : Bool) : (s.putBitAt a b v).replies = s.replies := rfl
@[simp] theorem State.putBitAt_guards (a b : Nat) (v : Bool) : (s.putBitAt a b v).guards = s.guards := rfl
@[simp] theorem State.putBitAt_hostPair (a b : Nat) (v : Bool) : (s.putBitAt a b v).hostPair = s.hostPair := rfl
@[simp] theorem State.putBitAt_trioPair (a b : Nat) (v : Bool) : (s.putBitAt a b v).trioPair = s.trioPair := rfl
@[simp] theorem State.putBitAt_mgsPair (a b : Nat) (v : Bool) : (s.putBitAt a b v).mgsPair = s.mgsPair := rfl
@[simp] theorem State.putBitAt_canPair (a b : Nat) (v : Bool) : (s.putBitAt a b v).canPair = s.canPair := rfl
@[simp] theorem State.putBitAt_ticks (a b : Nat) (v : Bool) : (s.putBitAt a b v).ticks = s.ticks := rfl
@[simp] theorem State.putBitAt_free (a b : Nat) (v : Bool) : (s.putBitAt a b v).free = s.free := rfl
@[simp] theorem State.putBitAt_trioQ (a b : Nat) (v : Bool) : (s.putBitAt a b v).trioQ = s.trioQ := rfl
@[simp] theorem State.putBitAt_emcyQ (a b : Nat) (v : Bool) : (s.putBitAt a b v).emcyQ = s.emcyQ := rfl
@[simp] theorem State.putBitAt_logQ (a b : Nat) (v : Bool) : (s.putBitAt a b v).logQ = s.logQ := rfl
@[simp] theorem State.putBitAt_logWin (a b : Nat) (v : Bool) : (s.putBitAt a b v).logWin = s.logWin := rfl
@[simp] theorem State.putBitAt_legs (a b : Nat) (v : Bool) : (s.putBitAt a b v).legs = s.legs := rfl
@[simp] theorem State.putBitAt_coils (a b : Nat) (v : Bool) : (s.putBitAt a b v).coils = s.coils := rfl
@[simp] theorem State.putBitAt_coaches (a b : Nat) (v : Bool) : (s.putBitAt a b v).coaches = s.coaches := rfl
@[simp] theorem State.putBitAt_trips (a b : Nat) (v : Bool) : (s.putBitAt a b v).trips = s.trips := rfl
@[simp] theorem State.putBitAt_runs (a b : Nat) (v : Bool) : (s.putBitAt a b v).runs = s.runs := rfl
@[simp] theorem State.putBitAt_axes (a b : Nat) (v : Bool) : (s.putBitAt a b v).axes = s.axes := rfl
@[simp] theorem State.putBitAt_pl (a b : Nat) (v : Bool) : (s.putBitAt a b v).pl = s.pl := rfl
@[simp] theorem State.putBitAt_power (a b : Nat) (v : Bool) : (s.putBitAt a b v).power = s.power := rfl
@[simp] theorem State.putBitAt_syncOut (a b : Nat) (v : Bool) : (s.putBitAt a b v).syncOut = s.syncOut := rfl
@[simp] theorem State.putBitAt_encs (a b : Nat) (v : Bool) : (s.putBitAt a b v).encs = s.encs := rfl
@[simp] theorem State.putBitAt_stepLast (a b : Nat) (v : Bool) : (s.putBitAt a b v).stepLast = s.stepLast := rfl
@[simp] theorem State.putBitAt_stepDir (a b : Nat) (v : Bool) : (s.putBitAt a b v).stepDir = s.stepDir := rfl
@[simp] theorem State.putBitAt_recipes (a b : Nat) (v : Bool) : (s.putBitAt a b v).recipes = s.recipes := rfl
@[simp] theorem State.putBitAt_rbcnt (a b : Nat) (v : Bool) : (s.putBitAt a b v).rbcnt = s.rbcnt := rfl
@[simp] theorem State.putBitAt_sds (a b : Nat) (v : Bool) : (s.putBitAt a b v).sds = s.sds := rfl
@[simp] theorem State.putBitAt_afe (a b : Nat) (v : Bool) : (s.putBitAt a b v).afe = s.afe := rfl
@[simp] theorem State.putBitAt_trio (a b : Nat) (v : Bool) : (s.putBitAt a b v).trio = s.trio := rfl
@[simp] theorem State.putBitAt_mgs (a b : Nat) (v : Bool) : (s.putBitAt a b v).mgs = s.mgs := rfl
@[simp] theorem State.putBitAt_net (a b : Nat) (v : Bool) : (s.putBitAt a b v).net = s.net := rfl
@[simp] theorem State.putBitAt_sph (a b : Nat) (v : Bool) : (s.putBitAt a b v).sph = s.sph := rfl
@[simp] theorem State.putBitAt_spm (a b : Nat) (v : Bool) : (s.putBitAt a b v).spm = s.spm := rfl
@[simp] theorem State.putBitAt_nvm (a b : Nat) (v : Bool) : (s.putBitAt a b v).nvm = s.nvm := rfl
@[simp] theorem State.putBitAt_pending (a b : Nat) (v : Bool) : (s.putBitAt a b v).pending = s.pending := rfl
@[simp] theorem State.putBitAt_stagedAt (a b : Nat) (v : Bool) (i : Nat) : (s.putBitAt a b v).stagedAt i = s.stagedAt i := rfl
@[simp] theorem State.putBitAt_isBad (a b : Nat) (v : Bool) (i : Nat) : (s.putBitAt a b v).isBad i = s.isBad i := rfl
@[simp] theorem State.putBitAt_reply (a b : Nat) (v : Bool) (o : Master) : (s.putBitAt a b v).reply o = s.reply o := rfl
@[simp] theorem State.putBitAt_guardAt (a b : Nat) (v : Bool) (i : Nat) : (s.putBitAt a b v).guardAt i = s.guardAt i := rfl
@[simp] theorem State.putBitAt_mo (a b : Nat) (v : Bool) (i : Nat) : (s.putBitAt a b v).mo i = s.mo i := rfl
@[simp] theorem State.putBitAt_se (a b : Nat) (v : Bool) (i : Nat) : (s.putBitAt a b v).se i = s.se i := rfl
@[simp] theorem State.putBitAt_leg (a b : Nat) (v : Bool) (i : Nat) : (s.putBitAt a b v).leg i = s.leg i := rfl
@[simp] theorem State.putBitAt_coil (a b : Nat) (v : Bool) (i j : Nat) : (s.putBitAt a b v).coil i j = s.coil i j := rfl
@[simp] theorem State.putBitAt_coach (a b : Nat) (v : Bool) (i : Nat) : (s.putBitAt a b v).coach i = s.coach i := rfl
@[simp] theorem State.putBitAt_enc (a b : Nat) (v : Bool) (i : Nat) : (s.putBitAt a b v).enc i = s.enc i := rfl
@[simp] theorem State.putBitAt_sd (a b : Nat) (v : Bool) (i : Nat) : (s.putBitAt a b v).sd i = s.sd i := rfl
@[simp] theorem State.putBitOf_snap (f : Fld) (b : Nat) (v : Bool) : (s.putBitOf f b v).snap = s.snap := rfl
@[simp] theorem State.putBitOf_staged (f : Fld) (b : Nat) (v : Bool) : (s.putBitOf f b v).staged = s.staged := rfl
@[simp] theorem State.putBitOf_bad (f : Fld) (b : Nat) (v : Bool) : (s.putBitOf f b v).bad = s.bad := rfl
@[simp] theorem State.putBitOf_replies (f : Fld) (b : Nat) (v : Bool) : (s.putBitOf f b v).replies = s.replies := rfl
@[simp] theorem State.putBitOf_guards (f : Fld) (b : Nat) (v : Bool) : (s.putBitOf f b v).guards = s.guards := rfl
@[simp] theorem State.putBitOf_hostPair (f : Fld) (b : Nat) (v : Bool) : (s.putBitOf f b v).hostPair = s.hostPair := rfl
@[simp] theorem State.putBitOf_trioPair (f : Fld) (b : Nat) (v : Bool) : (s.putBitOf f b v).trioPair = s.trioPair := rfl
@[simp] theorem State.putBitOf_mgsPair (f : Fld) (b : Nat) (v : Bool) : (s.putBitOf f b v).mgsPair = s.mgsPair := rfl
@[simp] theorem State.putBitOf_canPair (f : Fld) (b : Nat) (v : Bool) : (s.putBitOf f b v).canPair = s.canPair := rfl
@[simp] theorem State.putBitOf_ticks (f : Fld) (b : Nat) (v : Bool) : (s.putBitOf f b v).ticks = s.ticks := rfl
@[simp] theorem State.putBitOf_free (f : Fld) (b : Nat) (v : Bool) : (s.putBitOf f b v).free = s.free := rfl
@[simp] theorem State.putBitOf_trioQ (f : Fld) (b : Nat) (v : Bool) : (s.putBitOf f b v).trioQ = s.trioQ := rfl
@[simp] theorem State.putBitOf_emcyQ (f : Fld) (b : Nat) (v : Bool) : (s.putBitOf f b v).emcyQ = s.emcyQ := rfl
@[simp] theorem State.putBitOf_logQ (f : Fld) (b : Nat) (v : Bool) : (s.putBitOf f b v).logQ = s.logQ := rfl
@[simp] theorem State.putBitOf_logWin (f : Fld) (b : Nat) (v : Bool) : (s.putBitOf f b v).logWin = s.logWin := rfl
@[simp] theorem State.putBitOf_legs (f : Fld) (b : Nat) (v : Bool) : (s.putBitOf f b v).legs = s.legs := rfl
@[simp] theorem State.putBitOf_coils (f : Fld) (b : Nat) (v : Bool) : (s.putBitOf f b v).coils = s.coils := rfl
@[simp] theorem State.putBitOf_coaches (f : Fld) (b : Nat) (v : Bool) : (s.putBitOf f b v).coaches = s.coaches := rfl
@[simp] theorem State.putBitOf_trips (f : Fld) (b : Nat) (v : Bool) : (s.putBitOf f b v).trips = s.trips := rfl
@[simp] theorem State.putBitOf_runs (f : Fld) (b : Nat) (v : Bool) : (s.putBitOf f b v).runs = s.runs := rfl
@[simp] theorem State.putBitOf_axes (f : Fld) (b : Nat) (v : Bool) : (s.putBitOf f b v).axes = s.axes := rfl
@[simp] theorem State.putBitOf_pl (f : Fld) (b : Nat) (v : Bool) : (s.putBitOf f b v).pl = s.pl := rfl
@[simp] theorem State.putBitOf_power (f : Fld) (b : Nat) (v : Bool) : (s.putBitOf f b v).power = s.power := rfl
@[simp] theorem State.putBitOf_syncOut (f : Fld) (b : Nat) (v : Bool) : (s.putBitOf f b v).syncOut = s.syncOut := rfl
@[simp] theorem State.putBitOf_encs (f : Fld) (b : Nat) (v : Bool) : (s.putBitOf f b v).encs = s.encs := rfl
@[simp] theorem State.putBitOf_stepLast (f : Fld) (b : Nat) (v : Bool) : (s.putBitOf f b v).stepLast = s.stepLast := rfl
@[simp] theorem State.putBitOf_stepDir (f : Fld) (b : Nat) (v : Bool) : (s.putBitOf f b v).stepDir = s.stepDir := rfl
@[simp] theorem State.putBitOf_recipes (f : Fld) (b : Nat) (v : Bool) : (s.putBitOf f b v).recipes = s.recipes := rfl
@[simp] theorem State.putBitOf_rbcnt (f : Fld) (b : Nat) (v : Bool) : (s.putBitOf f b v).rbcnt = s.rbcnt := rfl
@[simp] theorem State.putBitOf_sds (f : Fld) (b : Nat) (v : Bool) : (s.putBitOf f b v).sds = s.sds := rfl
@[simp] theorem State.putBitOf_afe (f : Fld) (b : Nat) (v : Bool) : (s.putBitOf f b v).afe = s.afe := rfl
@[simp] theorem State.putBitOf_trio (f : Fld) (b : Nat) (v : Bool) : (s.putBitOf f b v).trio = s.trio := rfl
@[simp] theorem State.putBitOf_mgs (f : Fld) (b : Nat) (v : Bool) : (s.putBitOf f b v).mgs = s.mgs := rfl
@[simp] theorem State.putBitOf_net (f : Fld) (b : Nat) (v : Bool) : (s.putBitOf f b v).net = s.net := rfl
@[simp] theorem State.putBitOf_sph (f : Fld) (b : Nat) (v : Bool) : (s.putBitOf f b v).sph = s.sph := rfl
@[simp] theorem State.putBitOf_spm (f : Fld) (b : Nat) (v : Bool) : (s.putBitOf f b v).spm = s.spm := rfl
@[simp] theorem State.putBitOf_nvm (f : Fld) (b : Nat) (v : Bool) : (s.putBitOf f b v).nvm = s.nvm := rfl
@[simp] theorem State.putBitOf_pending (f : Fld) (b : Nat) (v : Bool) : (s.putBitOf f b v).pending = s.pending := rfl
@[simp] theorem State.putBitOf_stagedAt (f : Fld) (b : Nat) (v : Bool) (i : Nat) : (s.putBitOf f b v).stagedAt i = s.stagedAt i := rfl
@[simp] theorem State.putBitOf_isBad (f : Fld) (b : Nat) (v : Bool) (i : Nat) : (s.putBitOf f b v).isBad i = s.isBad i := rfl
@[simp] theorem State.putBitOf_reply (f : Fld) (b : Nat) (v : Bool) (o : Master) : (s.putBitOf f b v).reply o = s.reply o := rfl
@[simp] theorem State.putBitOf_guardAt (f : Fld) (b : Nat) (v : Bool) (i : Nat) : (s.putBitOf f b v).guardAt i = s.guardAt i := rfl
@[simp] theorem State.putBitOf_mo (f : Fld) (b : Nat) (v : Bool) (i : Nat) : (s.putBitOf f b v).mo i = s.mo i := rfl
@[simp] theorem State.putBitOf_se (f : Fld) (b : Nat) (v : Bool) (i : Nat) : (s.putBitOf f b v).se i = s.se i := rfl
@[simp] theorem State.putBitOf_leg (f : Fld) (b : Nat) (v : Bool) (i : Nat) : (s.putBitOf f b v).leg i = s.leg i := rfl
@[simp] theorem State.putBitOf_coil (f : Fld) (b : Nat) (v : Bool) (i j : Nat) : (s.putBitOf f b v).coil i j = s.coil i j := rfl
@[simp] theorem State.putBitOf_coach (f : Fld) (b : Nat) (v : Bool) (i : Nat) : (s.putBitOf f b v).coach i = s.coach i := rfl
@[simp] theorem State.putBitOf_enc (f : Fld) (b : Nat) (v : Bool) (i : Nat) : (s.putBitOf f b v).enc i = s.enc i := rfl
@[simp] theorem State.putBitOf_sd (f : Fld) (b : Nat) (v : Bool) (i : Nat) : (s.putBitOf f b v).sd i = s.sd i := rfl
@[simp] theorem State.putPair_snap (a : Nat) (v : Int) : (s.putPair a v).snap = s.snap := rfl
@[simp] theorem State.putPair_staged (a : Nat) (v : Int) : (s.putPair a v).staged = s.staged := rfl
@[simp] theorem State.putPair_bad (a : Nat) (v : Int) : (s.putPair a v).bad = s.bad := rfl
@[simp] theorem State.putPair_replies (a : Nat) (v : Int) : (s.putPair a v).replies = s.replies := rfl
@[simp] theorem State.putPair_guards (a : Nat) (v : Int) : (s.putPair a v).guards = s.guards := rfl
@[simp] theorem State.putPair_hostPair (a : Nat) (v : Int) : (s.putPair a v).hostPair = s.hostPair := rfl
@[simp] theorem State.putPair_trioPair (a : Nat) (v : Int) : (s.putPair a v).trioPair = s.trioPair := rfl
@[simp] theorem State.putPair_mgsPair (a : Nat) (v : Int) : (s.putPair a v).mgsPair = s.mgsPair := rfl
@[simp] theorem State.putPair_canPair (a : Nat) (v : Int) : (s.putPair a v).canPair = s.canPair := rfl
@[simp] theorem State.putPair_ticks (a : Nat) (v : Int) : (s.putPair a v).ticks = s.ticks := rfl
@[simp] theorem State.putPair_free (a : Nat) (v : Int) : (s.putPair a v).free = s.free := rfl
@[simp] theorem State.putPair_trioQ (a : Nat) (v : Int) : (s.putPair a v).trioQ = s.trioQ := rfl
@[simp] theorem State.putPair_emcyQ (a : Nat) (v : Int) : (s.putPair a v).emcyQ = s.emcyQ := rfl
@[simp] theorem State.putPair_logQ (a : Nat) (v : Int) : (s.putPair a v).logQ = s.logQ := rfl
@[simp] theorem State.putPair_logWin (a : Nat) (v : Int) : (s.putPair a v).logWin = s.logWin := rfl
@[simp] theorem State.putPair_legs (a : Nat) (v : Int) : (s.putPair a v).legs = s.legs := rfl
@[simp] theorem State.putPair_coils (a : Nat) (v : Int) : (s.putPair a v).coils = s.coils := rfl
@[simp] theorem State.putPair_coaches (a : Nat) (v : Int) : (s.putPair a v).coaches = s.coaches := rfl
@[simp] theorem State.putPair_trips (a : Nat) (v : Int) : (s.putPair a v).trips = s.trips := rfl
@[simp] theorem State.putPair_runs (a : Nat) (v : Int) : (s.putPair a v).runs = s.runs := rfl
@[simp] theorem State.putPair_axes (a : Nat) (v : Int) : (s.putPair a v).axes = s.axes := rfl
@[simp] theorem State.putPair_pl (a : Nat) (v : Int) : (s.putPair a v).pl = s.pl := rfl
@[simp] theorem State.putPair_power (a : Nat) (v : Int) : (s.putPair a v).power = s.power := rfl
@[simp] theorem State.putPair_syncOut (a : Nat) (v : Int) : (s.putPair a v).syncOut = s.syncOut := rfl
@[simp] theorem State.putPair_encs (a : Nat) (v : Int) : (s.putPair a v).encs = s.encs := rfl
@[simp] theorem State.putPair_stepLast (a : Nat) (v : Int) : (s.putPair a v).stepLast = s.stepLast := rfl
@[simp] theorem State.putPair_stepDir (a : Nat) (v : Int) : (s.putPair a v).stepDir = s.stepDir := rfl
@[simp] theorem State.putPair_recipes (a : Nat) (v : Int) : (s.putPair a v).recipes = s.recipes := rfl
@[simp] theorem State.putPair_rbcnt (a : Nat) (v : Int) : (s.putPair a v).rbcnt = s.rbcnt := rfl
@[simp] theorem State.putPair_sds (a : Nat) (v : Int) : (s.putPair a v).sds = s.sds := rfl
@[simp] theorem State.putPair_afe (a : Nat) (v : Int) : (s.putPair a v).afe = s.afe := rfl
@[simp] theorem State.putPair_trio (a : Nat) (v : Int) : (s.putPair a v).trio = s.trio := rfl
@[simp] theorem State.putPair_mgs (a : Nat) (v : Int) : (s.putPair a v).mgs = s.mgs := rfl
@[simp] theorem State.putPair_net (a : Nat) (v : Int) : (s.putPair a v).net = s.net := rfl
@[simp] theorem State.putPair_sph (a : Nat) (v : Int) : (s.putPair a v).sph = s.sph := rfl
@[simp] theorem State.putPair_spm (a : Nat) (v : Int) : (s.putPair a v).spm = s.spm := rfl
@[simp] theorem State.putPair_nvm (a : Nat) (v : Int) : (s.putPair a v).nvm = s.nvm := rfl
@[simp] theorem State.putPair_pending (a : Nat) (v : Int) : (s.putPair a v).pending = s.pending := rfl
@[simp] theorem State.putPair_stagedAt (a : Nat) (v : Int) (i : Nat) : (s.putPair a v).stagedAt i = s.stagedAt i := rfl
@[simp] theorem State.putPair_isBad (a : Nat) (v : Int) (i : Nat) : (s.putPair a v).isBad i = s.isBad i := rfl
@[simp] theorem State.putPair_reply (a : Nat) (v : Int) (o : Master) : (s.putPair a v).reply o = s.reply o := rfl
@[simp] theorem State.putPair_guardAt (a : Nat) (v : Int) (i : Nat) : (s.putPair a v).guardAt i = s.guardAt i := rfl
@[simp] theorem State.putPair_mo (a : Nat) (v : Int) (i : Nat) : (s.putPair a v).mo i = s.mo i := rfl
@[simp] theorem State.putPair_se (a : Nat) (v : Int) (i : Nat) : (s.putPair a v).se i = s.se i := rfl
@[simp] theorem State.putPair_leg (a : Nat) (v : Int) (i : Nat) : (s.putPair a v).leg i = s.leg i := rfl
@[simp] theorem State.putPair_coil (a : Nat) (v : Int) (i j : Nat) : (s.putPair a v).coil i j = s.coil i j := rfl
@[simp] theorem State.putPair_coach (a : Nat) (v : Int) (i : Nat) : (s.putPair a v).coach i = s.coach i := rfl
@[simp] theorem State.putPair_enc (a : Nat) (v : Int) (i : Nat) : (s.putPair a v).enc i = s.enc i := rfl
@[simp] theorem State.putPair_sd (a : Nat) (v : Int) (i : Nat) : (s.putPair a v).sd i = s.sd i := rfl
@[simp] theorem State.setStaged_regs (a : Nat) (x : Staged) : (s.setStaged a x).regs = s.regs := rfl
@[simp] theorem State.setStaged_snap (a : Nat) (x : Staged) : (s.setStaged a x).snap = s.snap := rfl
@[simp] theorem State.setStaged_bad (a : Nat) (x : Staged) : (s.setStaged a x).bad = s.bad := rfl
@[simp] theorem State.setStaged_replies (a : Nat) (x : Staged) : (s.setStaged a x).replies = s.replies := rfl
@[simp] theorem State.setStaged_guards (a : Nat) (x : Staged) : (s.setStaged a x).guards = s.guards := rfl
@[simp] theorem State.setStaged_hostPair (a : Nat) (x : Staged) : (s.setStaged a x).hostPair = s.hostPair := rfl
@[simp] theorem State.setStaged_trioPair (a : Nat) (x : Staged) : (s.setStaged a x).trioPair = s.trioPair := rfl
@[simp] theorem State.setStaged_mgsPair (a : Nat) (x : Staged) : (s.setStaged a x).mgsPair = s.mgsPair := rfl
@[simp] theorem State.setStaged_canPair (a : Nat) (x : Staged) : (s.setStaged a x).canPair = s.canPair := rfl
@[simp] theorem State.setStaged_ticks (a : Nat) (x : Staged) : (s.setStaged a x).ticks = s.ticks := rfl
@[simp] theorem State.setStaged_free (a : Nat) (x : Staged) : (s.setStaged a x).free = s.free := rfl
@[simp] theorem State.setStaged_trioQ (a : Nat) (x : Staged) : (s.setStaged a x).trioQ = s.trioQ := rfl
@[simp] theorem State.setStaged_emcyQ (a : Nat) (x : Staged) : (s.setStaged a x).emcyQ = s.emcyQ := rfl
@[simp] theorem State.setStaged_logQ (a : Nat) (x : Staged) : (s.setStaged a x).logQ = s.logQ := rfl
@[simp] theorem State.setStaged_logWin (a : Nat) (x : Staged) : (s.setStaged a x).logWin = s.logWin := rfl
@[simp] theorem State.setStaged_legs (a : Nat) (x : Staged) : (s.setStaged a x).legs = s.legs := rfl
@[simp] theorem State.setStaged_coils (a : Nat) (x : Staged) : (s.setStaged a x).coils = s.coils := rfl
@[simp] theorem State.setStaged_coaches (a : Nat) (x : Staged) : (s.setStaged a x).coaches = s.coaches := rfl
@[simp] theorem State.setStaged_trips (a : Nat) (x : Staged) : (s.setStaged a x).trips = s.trips := rfl
@[simp] theorem State.setStaged_runs (a : Nat) (x : Staged) : (s.setStaged a x).runs = s.runs := rfl
@[simp] theorem State.setStaged_axes (a : Nat) (x : Staged) : (s.setStaged a x).axes = s.axes := rfl
@[simp] theorem State.setStaged_pl (a : Nat) (x : Staged) : (s.setStaged a x).pl = s.pl := rfl
@[simp] theorem State.setStaged_power (a : Nat) (x : Staged) : (s.setStaged a x).power = s.power := rfl
@[simp] theorem State.setStaged_syncOut (a : Nat) (x : Staged) : (s.setStaged a x).syncOut = s.syncOut := rfl
@[simp] theorem State.setStaged_encs (a : Nat) (x : Staged) : (s.setStaged a x).encs = s.encs := rfl
@[simp] theorem State.setStaged_stepLast (a : Nat) (x : Staged) : (s.setStaged a x).stepLast = s.stepLast := rfl
@[simp] theorem State.setStaged_stepDir (a : Nat) (x : Staged) : (s.setStaged a x).stepDir = s.stepDir := rfl
@[simp] theorem State.setStaged_recipes (a : Nat) (x : Staged) : (s.setStaged a x).recipes = s.recipes := rfl
@[simp] theorem State.setStaged_rbcnt (a : Nat) (x : Staged) : (s.setStaged a x).rbcnt = s.rbcnt := rfl
@[simp] theorem State.setStaged_sds (a : Nat) (x : Staged) : (s.setStaged a x).sds = s.sds := rfl
@[simp] theorem State.setStaged_afe (a : Nat) (x : Staged) : (s.setStaged a x).afe = s.afe := rfl
@[simp] theorem State.setStaged_trio (a : Nat) (x : Staged) : (s.setStaged a x).trio = s.trio := rfl
@[simp] theorem State.setStaged_mgs (a : Nat) (x : Staged) : (s.setStaged a x).mgs = s.mgs := rfl
@[simp] theorem State.setStaged_net (a : Nat) (x : Staged) : (s.setStaged a x).net = s.net := rfl
@[simp] theorem State.setStaged_sph (a : Nat) (x : Staged) : (s.setStaged a x).sph = s.sph := rfl
@[simp] theorem State.setStaged_spm (a : Nat) (x : Staged) : (s.setStaged a x).spm = s.spm := rfl
@[simp] theorem State.setStaged_nvm (a : Nat) (x : Staged) : (s.setStaged a x).nvm = s.nvm := rfl
@[simp] theorem State.setStaged_pending (a : Nat) (x : Staged) : (s.setStaged a x).pending = s.pending := rfl
@[simp] theorem State.setStaged_rd (a : Nat) (x : Staged) (i : Nat) : (s.setStaged a x).rd i = s.rd i := rfl
@[simp] theorem State.setStaged_get (a : Nat) (x : Staged) (h : Fld) : (s.setStaged a x).get h = s.get h := rfl
@[simp] theorem State.setStaged_on (a : Nat) (x : Staged) (h : Fld) : (s.setStaged a x).on h = s.on h := rfl
@[simp] theorem State.setStaged_bitAt (a : Nat) (x : Staged) (i j : Nat) : (s.setStaged a x).bitAt i j = s.bitAt i j := rfl
@[simp] theorem State.setStaged_isBad (a : Nat) (x : Staged) (i : Nat) : (s.setStaged a x).isBad i = s.isBad i := rfl
@[simp] theorem State.setStaged_reply (a : Nat) (x : Staged) (o : Master) : (s.setStaged a x).reply o = s.reply o := rfl
@[simp] theorem State.setStaged_guardAt (a : Nat) (x : Staged) (i : Nat) : (s.setStaged a x).guardAt i = s.guardAt i := rfl
@[simp] theorem State.setStaged_mo (a : Nat) (x : Staged) (i : Nat) : (s.setStaged a x).mo i = s.mo i := rfl
@[simp] theorem State.setStaged_se (a : Nat) (x : Staged) (i : Nat) : (s.setStaged a x).se i = s.se i := rfl
@[simp] theorem State.setStaged_leg (a : Nat) (x : Staged) (i : Nat) : (s.setStaged a x).leg i = s.leg i := rfl
@[simp] theorem State.setStaged_coil (a : Nat) (x : Staged) (i j : Nat) : (s.setStaged a x).coil i j = s.coil i j := rfl
@[simp] theorem State.setStaged_coach (a : Nat) (x : Staged) (i : Nat) : (s.setStaged a x).coach i = s.coach i := rfl
@[simp] theorem State.setStaged_enc (a : Nat) (x : Staged) (i : Nat) : (s.setStaged a x).enc i = s.enc i := rfl
@[simp] theorem State.setStaged_sd (a : Nat) (x : Staged) (i : Nat) : (s.setStaged a x).sd i = s.sd i := rfl
@[simp] theorem State.setBad_regs (a : Nat) (b : Bool) : (s.setBad a b).regs = s.regs := rfl
@[simp] theorem State.setBad_snap (a : Nat) (b : Bool) : (s.setBad a b).snap = s.snap := rfl
@[simp] theorem State.setBad_staged (a : Nat) (b : Bool) : (s.setBad a b).staged = s.staged := rfl
@[simp] theorem State.setBad_replies (a : Nat) (b : Bool) : (s.setBad a b).replies = s.replies := rfl
@[simp] theorem State.setBad_guards (a : Nat) (b : Bool) : (s.setBad a b).guards = s.guards := rfl
@[simp] theorem State.setBad_hostPair (a : Nat) (b : Bool) : (s.setBad a b).hostPair = s.hostPair := rfl
@[simp] theorem State.setBad_trioPair (a : Nat) (b : Bool) : (s.setBad a b).trioPair = s.trioPair := rfl
@[simp] theorem State.setBad_mgsPair (a : Nat) (b : Bool) : (s.setBad a b).mgsPair = s.mgsPair := rfl
@[simp] theorem State.setBad_canPair (a : Nat) (b : Bool) : (s.setBad a b).canPair = s.canPair := rfl
@[simp] theorem State.setBad_ticks (a : Nat) (b : Bool) : (s.setBad a b).ticks = s.ticks := rfl
@[simp] theorem State.setBad_free (a : Nat) (b : Bool) : (s.setBad a b).free = s.free := rfl
@[simp] theorem State.setBad_trioQ (a : Nat) (b : Bool) : (s.setBad a b).trioQ = s.trioQ := rfl
@[simp] theorem State.setBad_emcyQ (a : Nat) (b : Bool) : (s.setBad a b).emcyQ = s.emcyQ := rfl
@[simp] theorem State.setBad_logQ (a : Nat) (b : Bool) : (s.setBad a b).logQ = s.logQ := rfl
@[simp] theorem State.setBad_logWin (a : Nat) (b : Bool) : (s.setBad a b).logWin = s.logWin := rfl
@[simp] theorem State.setBad_legs (a : Nat) (b : Bool) : (s.setBad a b).legs = s.legs := rfl
@[simp] theorem State.setBad_coils (a : Nat) (b : Bool) : (s.setBad a b).coils = s.coils := rfl
@[simp] theorem State.setBad_coaches (a : Nat) (b : Bool) : (s.setBad a b).coaches = s.coaches := rfl
@[simp] theorem State.setBad_trips (a : Nat) (b : Bool) : (s.setBad a b).trips = s.trips := rfl
@[simp] theorem State.setBad_runs (a : Nat) (b : Bool) : (s.setBad a b).runs = s.runs := rfl
@[simp] theorem State.setBad_axes (a : Nat) (b : Bool) : (s.setBad a b).axes = s.axes := rfl
@[simp] theorem State.setBad_pl (a : Nat) (b : Bool) : (s.setBad a b).pl = s.pl := rfl
@[simp] theorem State.setBad_power (a : Nat) (b : Bool) : (s.setBad a b).power = s.power := rfl
@[simp] theorem State.setBad_syncOut (a : Nat) (b : Bool) : (s.setBad a b).syncOut = s.syncOut := rfl
@[simp] theorem State.setBad_encs (a : Nat) (b : Bool) : (s.setBad a b).encs = s.encs := rfl
@[simp] theorem State.setBad_stepLast (a : Nat) (b : Bool) : (s.setBad a b).stepLast = s.stepLast := rfl
@[simp] theorem State.setBad_stepDir (a : Nat) (b : Bool) : (s.setBad a b).stepDir = s.stepDir := rfl
@[simp] theorem State.setBad_recipes (a : Nat) (b : Bool) : (s.setBad a b).recipes = s.recipes := rfl
@[simp] theorem State.setBad_rbcnt (a : Nat) (b : Bool) : (s.setBad a b).rbcnt = s.rbcnt := rfl
@[simp] theorem State.setBad_sds (a : Nat) (b : Bool) : (s.setBad a b).sds = s.sds := rfl
@[simp] theorem State.setBad_afe (a : Nat) (b : Bool) : (s.setBad a b).afe = s.afe := rfl
@[simp] theorem State.setBad_trio (a : Nat) (b : Bool) : (s.setBad a b).trio = s.trio := rfl
@[simp] theorem State.setBad_mgs (a : Nat) (b : Bool) : (s.setBad a b).mgs = s.mgs := rfl
@[simp] theorem State.setBad_net (a : Nat) (b : Bool) : (s.setBad a b).net = s.net := rfl
@[simp] theorem State.setBad_sph (a : Nat) (b : Bool) : (s.setBad a b).sph = s.sph := rfl
@[simp] theorem State.setBad_spm (a : Nat) (b : Bool) : (s.setBad a b).spm = s.spm := rfl
@[simp] theorem State.setBad_nvm (a : Nat) (b : Bool) : (s.setBad a b).nvm = s.nvm := rfl
@[simp] theorem State.setBad_pending (a : Nat) (b : Bool) : (s.setBad a b).pending = s.pending := rfl
@[simp] theorem State.setBad_rd (a : Nat) (b : Bool) (i : Nat) : (s.setBad a b).rd i = s.rd i := rfl
@[simp] theorem State.setBad_get (a : Nat) (b : Bool) (h : Fld) : (s.setBad a b).get h = s.get h := rfl
@[simp] theorem State.setBad_on (a : Nat) (b : Bool) (h : Fld) : (s.setBad a b).on h = s.on h := rfl
@[simp] theorem State.setBad_bitAt (a : Nat) (b : Bool) (i j : Nat) : (s.setBad a b).bitAt i j = s.bitAt i j := rfl
@[simp] theorem State.setBad_stagedAt (a : Nat) (b : Bool) (i : Nat) : (s.setBad a b).stagedAt i = s.stagedAt i := rfl
@[simp] theorem State.setBad_reply (a : Nat) (b : Bool) (o : Master) : (s.setBad a b).reply o = s.reply o := rfl
@[simp] theorem State.setBad_guardAt (a : Nat) (b : Bool) (i : Nat) : (s.setBad a b).guardAt i = s.guardAt i := rfl
@[simp] theorem State.setBad_mo (a : Nat) (b : Bool) (i : Nat) : (s.setBad a b).mo i = s.mo i := rfl
@[simp] theorem State.setBad_se (a : Nat) (b : Bool) (i : Nat) : (s.setBad a b).se i = s.se i := rfl
@[simp] theorem State.setBad_leg (a : Nat) (b : Bool) (i : Nat) : (s.setBad a b).leg i = s.leg i := rfl
@[simp] theorem State.setBad_coil (a : Nat) (b : Bool) (i j : Nat) : (s.setBad a b).coil i j = s.coil i j := rfl
@[simp] theorem State.setBad_coach (a : Nat) (b : Bool) (i : Nat) : (s.setBad a b).coach i = s.coach i := rfl
@[simp] theorem State.setBad_enc (a : Nat) (b : Bool) (i : Nat) : (s.setBad a b).enc i = s.enc i := rfl
@[simp] theorem State.setBad_sd (a : Nat) (b : Bool) (i : Nat) : (s.setBad a b).sd i = s.sd i := rfl
@[simp] theorem State.answer_regs (m : Master) (r : Reply) : (s.answer m r).regs = s.regs := rfl
@[simp] theorem State.answer_snap (m : Master) (r : Reply) : (s.answer m r).snap = s.snap := rfl
@[simp] theorem State.answer_staged (m : Master) (r : Reply) : (s.answer m r).staged = s.staged := rfl
@[simp] theorem State.answer_bad (m : Master) (r : Reply) : (s.answer m r).bad = s.bad := rfl
@[simp] theorem State.answer_guards (m : Master) (r : Reply) : (s.answer m r).guards = s.guards := rfl
@[simp] theorem State.answer_hostPair (m : Master) (r : Reply) : (s.answer m r).hostPair = s.hostPair := rfl
@[simp] theorem State.answer_trioPair (m : Master) (r : Reply) : (s.answer m r).trioPair = s.trioPair := rfl
@[simp] theorem State.answer_mgsPair (m : Master) (r : Reply) : (s.answer m r).mgsPair = s.mgsPair := rfl
@[simp] theorem State.answer_canPair (m : Master) (r : Reply) : (s.answer m r).canPair = s.canPair := rfl
@[simp] theorem State.answer_ticks (m : Master) (r : Reply) : (s.answer m r).ticks = s.ticks := rfl
@[simp] theorem State.answer_free (m : Master) (r : Reply) : (s.answer m r).free = s.free := rfl
@[simp] theorem State.answer_trioQ (m : Master) (r : Reply) : (s.answer m r).trioQ = s.trioQ := rfl
@[simp] theorem State.answer_emcyQ (m : Master) (r : Reply) : (s.answer m r).emcyQ = s.emcyQ := rfl
@[simp] theorem State.answer_logQ (m : Master) (r : Reply) : (s.answer m r).logQ = s.logQ := rfl
@[simp] theorem State.answer_logWin (m : Master) (r : Reply) : (s.answer m r).logWin = s.logWin := rfl
@[simp] theorem State.answer_legs (m : Master) (r : Reply) : (s.answer m r).legs = s.legs := rfl
@[simp] theorem State.answer_coils (m : Master) (r : Reply) : (s.answer m r).coils = s.coils := rfl
@[simp] theorem State.answer_coaches (m : Master) (r : Reply) : (s.answer m r).coaches = s.coaches := rfl
@[simp] theorem State.answer_trips (m : Master) (r : Reply) : (s.answer m r).trips = s.trips := rfl
@[simp] theorem State.answer_runs (m : Master) (r : Reply) : (s.answer m r).runs = s.runs := rfl
@[simp] theorem State.answer_axes (m : Master) (r : Reply) : (s.answer m r).axes = s.axes := rfl
@[simp] theorem State.answer_pl (m : Master) (r : Reply) : (s.answer m r).pl = s.pl := rfl
@[simp] theorem State.answer_power (m : Master) (r : Reply) : (s.answer m r).power = s.power := rfl
@[simp] theorem State.answer_syncOut (m : Master) (r : Reply) : (s.answer m r).syncOut = s.syncOut := rfl
@[simp] theorem State.answer_encs (m : Master) (r : Reply) : (s.answer m r).encs = s.encs := rfl
@[simp] theorem State.answer_stepLast (m : Master) (r : Reply) : (s.answer m r).stepLast = s.stepLast := rfl
@[simp] theorem State.answer_stepDir (m : Master) (r : Reply) : (s.answer m r).stepDir = s.stepDir := rfl
@[simp] theorem State.answer_recipes (m : Master) (r : Reply) : (s.answer m r).recipes = s.recipes := rfl
@[simp] theorem State.answer_rbcnt (m : Master) (r : Reply) : (s.answer m r).rbcnt = s.rbcnt := rfl
@[simp] theorem State.answer_sds (m : Master) (r : Reply) : (s.answer m r).sds = s.sds := rfl
@[simp] theorem State.answer_afe (m : Master) (r : Reply) : (s.answer m r).afe = s.afe := rfl
@[simp] theorem State.answer_trio (m : Master) (r : Reply) : (s.answer m r).trio = s.trio := rfl
@[simp] theorem State.answer_mgs (m : Master) (r : Reply) : (s.answer m r).mgs = s.mgs := rfl
@[simp] theorem State.answer_net (m : Master) (r : Reply) : (s.answer m r).net = s.net := rfl
@[simp] theorem State.answer_sph (m : Master) (r : Reply) : (s.answer m r).sph = s.sph := rfl
@[simp] theorem State.answer_spm (m : Master) (r : Reply) : (s.answer m r).spm = s.spm := rfl
@[simp] theorem State.answer_nvm (m : Master) (r : Reply) : (s.answer m r).nvm = s.nvm := rfl
@[simp] theorem State.answer_pending (m : Master) (r : Reply) : (s.answer m r).pending = s.pending := rfl
@[simp] theorem State.answer_rd (m : Master) (r : Reply) (i : Nat) : (s.answer m r).rd i = s.rd i := rfl
@[simp] theorem State.answer_get (m : Master) (r : Reply) (h : Fld) : (s.answer m r).get h = s.get h := rfl
@[simp] theorem State.answer_on (m : Master) (r : Reply) (h : Fld) : (s.answer m r).on h = s.on h := rfl
@[simp] theorem State.answer_bitAt (m : Master) (r : Reply) (i j : Nat) : (s.answer m r).bitAt i j = s.bitAt i j := rfl
@[simp] theorem State.answer_stagedAt (m : Master) (r : Reply) (i : Nat) : (s.answer m r).stagedAt i = s.stagedAt i := rfl
@[simp] theorem State.answer_isBad (m : Master) (r : Reply) (i : Nat) : (s.answer m r).isBad i = s.isBad i := rfl
@[simp] theorem State.answer_guardAt (m : Master) (r : Reply) (i : Nat) : (s.answer m r).guardAt i = s.guardAt i := rfl
@[simp] theorem State.answer_mo (m : Master) (r : Reply) (i : Nat) : (s.answer m r).mo i = s.mo i := rfl
@[simp] theorem State.answer_se (m : Master) (r : Reply) (i : Nat) : (s.answer m r).se i = s.se i := rfl
@[simp] theorem State.answer_leg (m : Master) (r : Reply) (i : Nat) : (s.answer m r).leg i = s.leg i := rfl
@[simp] theorem State.answer_coil (m : Master) (r : Reply) (i j : Nat) : (s.answer m r).coil i j = s.coil i j := rfl
@[simp] theorem State.answer_coach (m : Master) (r : Reply) (i : Nat) : (s.answer m r).coach i = s.coach i := rfl
@[simp] theorem State.answer_enc (m : Master) (r : Reply) (i : Nat) : (s.answer m r).enc i = s.enc i := rfl
@[simp] theorem State.answer_sd (m : Master) (r : Reply) (i : Nat) : (s.answer m r).sd i = s.sd i := rfl
@[simp] theorem State.setGuard_regs (a : Nat) (g : Option GuardWin) : (s.setGuard a g).regs = s.regs := rfl
@[simp] theorem State.setGuard_snap (a : Nat) (g : Option GuardWin) : (s.setGuard a g).snap = s.snap := rfl
@[simp] theorem State.setGuard_staged (a : Nat) (g : Option GuardWin) : (s.setGuard a g).staged = s.staged := rfl
@[simp] theorem State.setGuard_bad (a : Nat) (g : Option GuardWin) : (s.setGuard a g).bad = s.bad := rfl
@[simp] theorem State.setGuard_replies (a : Nat) (g : Option GuardWin) : (s.setGuard a g).replies = s.replies := rfl
@[simp] theorem State.setGuard_hostPair (a : Nat) (g : Option GuardWin) : (s.setGuard a g).hostPair = s.hostPair := rfl
@[simp] theorem State.setGuard_trioPair (a : Nat) (g : Option GuardWin) : (s.setGuard a g).trioPair = s.trioPair := rfl
@[simp] theorem State.setGuard_mgsPair (a : Nat) (g : Option GuardWin) : (s.setGuard a g).mgsPair = s.mgsPair := rfl
@[simp] theorem State.setGuard_canPair (a : Nat) (g : Option GuardWin) : (s.setGuard a g).canPair = s.canPair := rfl
@[simp] theorem State.setGuard_ticks (a : Nat) (g : Option GuardWin) : (s.setGuard a g).ticks = s.ticks := rfl
@[simp] theorem State.setGuard_free (a : Nat) (g : Option GuardWin) : (s.setGuard a g).free = s.free := rfl
@[simp] theorem State.setGuard_trioQ (a : Nat) (g : Option GuardWin) : (s.setGuard a g).trioQ = s.trioQ := rfl
@[simp] theorem State.setGuard_emcyQ (a : Nat) (g : Option GuardWin) : (s.setGuard a g).emcyQ = s.emcyQ := rfl
@[simp] theorem State.setGuard_logQ (a : Nat) (g : Option GuardWin) : (s.setGuard a g).logQ = s.logQ := rfl
@[simp] theorem State.setGuard_logWin (a : Nat) (g : Option GuardWin) : (s.setGuard a g).logWin = s.logWin := rfl
@[simp] theorem State.setGuard_legs (a : Nat) (g : Option GuardWin) : (s.setGuard a g).legs = s.legs := rfl
@[simp] theorem State.setGuard_coils (a : Nat) (g : Option GuardWin) : (s.setGuard a g).coils = s.coils := rfl
@[simp] theorem State.setGuard_coaches (a : Nat) (g : Option GuardWin) : (s.setGuard a g).coaches = s.coaches := rfl
@[simp] theorem State.setGuard_trips (a : Nat) (g : Option GuardWin) : (s.setGuard a g).trips = s.trips := rfl
@[simp] theorem State.setGuard_runs (a : Nat) (g : Option GuardWin) : (s.setGuard a g).runs = s.runs := rfl
@[simp] theorem State.setGuard_axes (a : Nat) (g : Option GuardWin) : (s.setGuard a g).axes = s.axes := rfl
@[simp] theorem State.setGuard_pl (a : Nat) (g : Option GuardWin) : (s.setGuard a g).pl = s.pl := rfl
@[simp] theorem State.setGuard_power (a : Nat) (g : Option GuardWin) : (s.setGuard a g).power = s.power := rfl
@[simp] theorem State.setGuard_syncOut (a : Nat) (g : Option GuardWin) : (s.setGuard a g).syncOut = s.syncOut := rfl
@[simp] theorem State.setGuard_encs (a : Nat) (g : Option GuardWin) : (s.setGuard a g).encs = s.encs := rfl
@[simp] theorem State.setGuard_stepLast (a : Nat) (g : Option GuardWin) : (s.setGuard a g).stepLast = s.stepLast := rfl
@[simp] theorem State.setGuard_stepDir (a : Nat) (g : Option GuardWin) : (s.setGuard a g).stepDir = s.stepDir := rfl
@[simp] theorem State.setGuard_recipes (a : Nat) (g : Option GuardWin) : (s.setGuard a g).recipes = s.recipes := rfl
@[simp] theorem State.setGuard_rbcnt (a : Nat) (g : Option GuardWin) : (s.setGuard a g).rbcnt = s.rbcnt := rfl
@[simp] theorem State.setGuard_sds (a : Nat) (g : Option GuardWin) : (s.setGuard a g).sds = s.sds := rfl
@[simp] theorem State.setGuard_afe (a : Nat) (g : Option GuardWin) : (s.setGuard a g).afe = s.afe := rfl
@[simp] theorem State.setGuard_trio (a : Nat) (g : Option GuardWin) : (s.setGuard a g).trio = s.trio := rfl
@[simp] theorem State.setGuard_mgs (a : Nat) (g : Option GuardWin) : (s.setGuard a g).mgs = s.mgs := rfl
@[simp] theorem State.setGuard_net (a : Nat) (g : Option GuardWin) : (s.setGuard a g).net = s.net := rfl
@[simp] theorem State.setGuard_sph (a : Nat) (g : Option GuardWin) : (s.setGuard a g).sph = s.sph := rfl
@[simp] theorem State.setGuard_spm (a : Nat) (g : Option GuardWin) : (s.setGuard a g).spm = s.spm := rfl
@[simp] theorem State.setGuard_nvm (a : Nat) (g : Option GuardWin) : (s.setGuard a g).nvm = s.nvm := rfl
@[simp] theorem State.setGuard_pending (a : Nat) (g : Option GuardWin) : (s.setGuard a g).pending = s.pending := rfl
@[simp] theorem State.setGuard_rd (a : Nat) (g : Option GuardWin) (i : Nat) : (s.setGuard a g).rd i = s.rd i := rfl
@[simp] theorem State.setGuard_get (a : Nat) (g : Option GuardWin) (h : Fld) : (s.setGuard a g).get h = s.get h := rfl
@[simp] theorem State.setGuard_on (a : Nat) (g : Option GuardWin) (h : Fld) : (s.setGuard a g).on h = s.on h := rfl
@[simp] theorem State.setGuard_bitAt (a : Nat) (g : Option GuardWin) (i j : Nat) : (s.setGuard a g).bitAt i j = s.bitAt i j := rfl
@[simp] theorem State.setGuard_stagedAt (a : Nat) (g : Option GuardWin) (i : Nat) : (s.setGuard a g).stagedAt i = s.stagedAt i := rfl
@[simp] theorem State.setGuard_isBad (a : Nat) (g : Option GuardWin) (i : Nat) : (s.setGuard a g).isBad i = s.isBad i := rfl
@[simp] theorem State.setGuard_reply (a : Nat) (g : Option GuardWin) (o : Master) : (s.setGuard a g).reply o = s.reply o := rfl
@[simp] theorem State.setGuard_mo (a : Nat) (g : Option GuardWin) (i : Nat) : (s.setGuard a g).mo i = s.mo i := rfl
@[simp] theorem State.setGuard_se (a : Nat) (g : Option GuardWin) (i : Nat) : (s.setGuard a g).se i = s.se i := rfl
@[simp] theorem State.setGuard_leg (a : Nat) (g : Option GuardWin) (i : Nat) : (s.setGuard a g).leg i = s.leg i := rfl
@[simp] theorem State.setGuard_coil (a : Nat) (g : Option GuardWin) (i j : Nat) : (s.setGuard a g).coil i j = s.coil i j := rfl
@[simp] theorem State.setGuard_coach (a : Nat) (g : Option GuardWin) (i : Nat) : (s.setGuard a g).coach i = s.coach i := rfl
@[simp] theorem State.setGuard_enc (a : Nat) (g : Option GuardWin) (i : Nat) : (s.setGuard a g).enc i = s.enc i := rfl
@[simp] theorem State.setGuard_sd (a : Nat) (g : Option GuardWin) (i : Nat) : (s.setGuard a g).sd i = s.sd i := rfl
@[simp] theorem State.modMo_regs (a : Nat) (f : Motion → Motion) : (s.modMo a f).regs = s.regs := rfl
@[simp] theorem State.modMo_snap (a : Nat) (f : Motion → Motion) : (s.modMo a f).snap = s.snap := rfl
@[simp] theorem State.modMo_staged (a : Nat) (f : Motion → Motion) : (s.modMo a f).staged = s.staged := rfl
@[simp] theorem State.modMo_bad (a : Nat) (f : Motion → Motion) : (s.modMo a f).bad = s.bad := rfl
@[simp] theorem State.modMo_replies (a : Nat) (f : Motion → Motion) : (s.modMo a f).replies = s.replies := rfl
@[simp] theorem State.modMo_guards (a : Nat) (f : Motion → Motion) : (s.modMo a f).guards = s.guards := rfl
@[simp] theorem State.modMo_hostPair (a : Nat) (f : Motion → Motion) : (s.modMo a f).hostPair = s.hostPair := rfl
@[simp] theorem State.modMo_trioPair (a : Nat) (f : Motion → Motion) : (s.modMo a f).trioPair = s.trioPair := rfl
@[simp] theorem State.modMo_mgsPair (a : Nat) (f : Motion → Motion) : (s.modMo a f).mgsPair = s.mgsPair := rfl
@[simp] theorem State.modMo_canPair (a : Nat) (f : Motion → Motion) : (s.modMo a f).canPair = s.canPair := rfl
@[simp] theorem State.modMo_ticks (a : Nat) (f : Motion → Motion) : (s.modMo a f).ticks = s.ticks := rfl
@[simp] theorem State.modMo_free (a : Nat) (f : Motion → Motion) : (s.modMo a f).free = s.free := rfl
@[simp] theorem State.modMo_trioQ (a : Nat) (f : Motion → Motion) : (s.modMo a f).trioQ = s.trioQ := rfl
@[simp] theorem State.modMo_emcyQ (a : Nat) (f : Motion → Motion) : (s.modMo a f).emcyQ = s.emcyQ := rfl
@[simp] theorem State.modMo_logQ (a : Nat) (f : Motion → Motion) : (s.modMo a f).logQ = s.logQ := rfl
@[simp] theorem State.modMo_logWin (a : Nat) (f : Motion → Motion) : (s.modMo a f).logWin = s.logWin := rfl
@[simp] theorem State.modMo_legs (a : Nat) (f : Motion → Motion) : (s.modMo a f).legs = s.legs := rfl
@[simp] theorem State.modMo_coils (a : Nat) (f : Motion → Motion) : (s.modMo a f).coils = s.coils := rfl
@[simp] theorem State.modMo_coaches (a : Nat) (f : Motion → Motion) : (s.modMo a f).coaches = s.coaches := rfl
@[simp] theorem State.modMo_trips (a : Nat) (f : Motion → Motion) : (s.modMo a f).trips = s.trips := rfl
@[simp] theorem State.modMo_runs (a : Nat) (f : Motion → Motion) : (s.modMo a f).runs = s.runs := rfl
@[simp] theorem State.modMo_pl (a : Nat) (f : Motion → Motion) : (s.modMo a f).pl = s.pl := rfl
@[simp] theorem State.modMo_power (a : Nat) (f : Motion → Motion) : (s.modMo a f).power = s.power := rfl
@[simp] theorem State.modMo_syncOut (a : Nat) (f : Motion → Motion) : (s.modMo a f).syncOut = s.syncOut := rfl
@[simp] theorem State.modMo_encs (a : Nat) (f : Motion → Motion) : (s.modMo a f).encs = s.encs := rfl
@[simp] theorem State.modMo_stepLast (a : Nat) (f : Motion → Motion) : (s.modMo a f).stepLast = s.stepLast := rfl
@[simp] theorem State.modMo_stepDir (a : Nat) (f : Motion → Motion) : (s.modMo a f).stepDir = s.stepDir := rfl
@[simp] theorem State.modMo_recipes (a : Nat) (f : Motion → Motion) : (s.modMo a f).recipes = s.recipes := rfl
@[simp] theorem State.modMo_rbcnt (a : Nat) (f : Motion → Motion) : (s.modMo a f).rbcnt = s.rbcnt := rfl
@[simp] theorem State.modMo_sds (a : Nat) (f : Motion → Motion) : (s.modMo a f).sds = s.sds := rfl
@[simp] theorem State.modMo_afe (a : Nat) (f : Motion → Motion) : (s.modMo a f).afe = s.afe := rfl
@[simp] theorem State.modMo_trio (a : Nat) (f : Motion → Motion) : (s.modMo a f).trio = s.trio := rfl
@[simp] theorem State.modMo_mgs (a : Nat) (f : Motion → Motion) : (s.modMo a f).mgs = s.mgs := rfl
@[simp] theorem State.modMo_net (a : Nat) (f : Motion → Motion) : (s.modMo a f).net = s.net := rfl
@[simp] theorem State.modMo_sph (a : Nat) (f : Motion → Motion) : (s.modMo a f).sph = s.sph := rfl
@[simp] theorem State.modMo_spm (a : Nat) (f : Motion → Motion) : (s.modMo a f).spm = s.spm := rfl
@[simp] theorem State.modMo_nvm (a : Nat) (f : Motion → Motion) : (s.modMo a f).nvm = s.nvm := rfl
@[simp] theorem State.modMo_pending (a : Nat) (f : Motion → Motion) : (s.modMo a f).pending = s.pending := rfl
@[simp] theorem State.modMo_rd (a : Nat) (f : Motion → Motion) (i : Nat) : (s.modMo a f).rd i = s.rd i := rfl
@[simp] theorem State.modMo_get (a : Nat) (f : Motion → Motion) (h : Fld) : (s.modMo a f).get h = s.get h := rfl
@[simp] theorem State.modMo_on (a : Nat) (f : Motion → Motion) (h : Fld) : (s.modMo a f).on h = s.on h := rfl
@[simp] theorem State.modMo_bitAt (a : Nat) (f : Motion → Motion) (i j : Nat) : (s.modMo a f).bitAt i j = s.bitAt i j := rfl
@[simp] theorem State.modMo_stagedAt (a : Nat) (f : Motion → Motion) (i : Nat) : (s.modMo a f).stagedAt i = s.stagedAt i := rfl
@[simp] theorem State.modMo_isBad (a : Nat) (f : Motion → Motion) (i : Nat) : (s.modMo a f).isBad i = s.isBad i := rfl
@[simp] theorem State.modMo_reply (a : Nat) (f : Motion → Motion) (o : Master) : (s.modMo a f).reply o = s.reply o := rfl
@[simp] theorem State.modMo_guardAt (a : Nat) (f : Motion → Motion) (i : Nat) : (s.modMo a f).guardAt i = s.guardAt i := rfl
@[simp] theorem State.modMo_leg (a : Nat) (f : Motion → Motion) (i : Nat) : (s.modMo a f).leg i = s.leg i := rfl
@[simp] theorem State.modMo_coil (a : Nat) (f : Motion → Motion) (i j : Nat) : (s.modMo a f).coil i j = s.coil i j := rfl
@[simp] theorem State.modMo_coach (a : Nat) (f : Motion → Motion) (i : Nat) : (s.modMo a f).coach i = s.coach i := rfl
@[simp] theorem State.modMo_enc (a : Nat) (f : Motion → Motion) (i : Nat) : (s.modMo a f).enc i = s.enc i := rfl
@[simp] theorem State.modMo_sd (a : Nat) (f : Motion → Motion) (i : Nat) : (s.modMo a f).sd i = s.sd i := rfl
@[simp] theorem State.modSe_regs (a : Nat) (f : Sense → Sense) : (s.modSe a f).regs = s.regs := rfl
@[simp] theorem State.modSe_snap (a : Nat) (f : Sense → Sense) : (s.modSe a f).snap = s.snap := rfl
@[simp] theorem State.modSe_staged (a : Nat) (f : Sense → Sense) : (s.modSe a f).staged = s.staged := rfl
@[simp] theorem State.modSe_bad (a : Nat) (f : Sense → Sense) : (s.modSe a f).bad = s.bad := rfl
@[simp] theorem State.modSe_replies (a : Nat) (f : Sense → Sense) : (s.modSe a f).replies = s.replies := rfl
@[simp] theorem State.modSe_guards (a : Nat) (f : Sense → Sense) : (s.modSe a f).guards = s.guards := rfl
@[simp] theorem State.modSe_hostPair (a : Nat) (f : Sense → Sense) : (s.modSe a f).hostPair = s.hostPair := rfl
@[simp] theorem State.modSe_trioPair (a : Nat) (f : Sense → Sense) : (s.modSe a f).trioPair = s.trioPair := rfl
@[simp] theorem State.modSe_mgsPair (a : Nat) (f : Sense → Sense) : (s.modSe a f).mgsPair = s.mgsPair := rfl
@[simp] theorem State.modSe_canPair (a : Nat) (f : Sense → Sense) : (s.modSe a f).canPair = s.canPair := rfl
@[simp] theorem State.modSe_ticks (a : Nat) (f : Sense → Sense) : (s.modSe a f).ticks = s.ticks := rfl
@[simp] theorem State.modSe_free (a : Nat) (f : Sense → Sense) : (s.modSe a f).free = s.free := rfl
@[simp] theorem State.modSe_trioQ (a : Nat) (f : Sense → Sense) : (s.modSe a f).trioQ = s.trioQ := rfl
@[simp] theorem State.modSe_emcyQ (a : Nat) (f : Sense → Sense) : (s.modSe a f).emcyQ = s.emcyQ := rfl
@[simp] theorem State.modSe_logQ (a : Nat) (f : Sense → Sense) : (s.modSe a f).logQ = s.logQ := rfl
@[simp] theorem State.modSe_logWin (a : Nat) (f : Sense → Sense) : (s.modSe a f).logWin = s.logWin := rfl
@[simp] theorem State.modSe_legs (a : Nat) (f : Sense → Sense) : (s.modSe a f).legs = s.legs := rfl
@[simp] theorem State.modSe_coils (a : Nat) (f : Sense → Sense) : (s.modSe a f).coils = s.coils := rfl
@[simp] theorem State.modSe_coaches (a : Nat) (f : Sense → Sense) : (s.modSe a f).coaches = s.coaches := rfl
@[simp] theorem State.modSe_trips (a : Nat) (f : Sense → Sense) : (s.modSe a f).trips = s.trips := rfl
@[simp] theorem State.modSe_runs (a : Nat) (f : Sense → Sense) : (s.modSe a f).runs = s.runs := rfl
@[simp] theorem State.modSe_pl (a : Nat) (f : Sense → Sense) : (s.modSe a f).pl = s.pl := rfl
@[simp] theorem State.modSe_power (a : Nat) (f : Sense → Sense) : (s.modSe a f).power = s.power := rfl
@[simp] theorem State.modSe_syncOut (a : Nat) (f : Sense → Sense) : (s.modSe a f).syncOut = s.syncOut := rfl
@[simp] theorem State.modSe_encs (a : Nat) (f : Sense → Sense) : (s.modSe a f).encs = s.encs := rfl
@[simp] theorem State.modSe_stepLast (a : Nat) (f : Sense → Sense) : (s.modSe a f).stepLast = s.stepLast := rfl
@[simp] theorem State.modSe_stepDir (a : Nat) (f : Sense → Sense) : (s.modSe a f).stepDir = s.stepDir := rfl
@[simp] theorem State.modSe_recipes (a : Nat) (f : Sense → Sense) : (s.modSe a f).recipes = s.recipes := rfl
@[simp] theorem State.modSe_rbcnt (a : Nat) (f : Sense → Sense) : (s.modSe a f).rbcnt = s.rbcnt := rfl
@[simp] theorem State.modSe_sds (a : Nat) (f : Sense → Sense) : (s.modSe a f).sds = s.sds := rfl
@[simp] theorem State.modSe_afe (a : Nat) (f : Sense → Sense) : (s.modSe a f).afe = s.afe := rfl
@[simp] theorem State.modSe_trio (a : Nat) (f : Sense → Sense) : (s.modSe a f).trio = s.trio := rfl
@[simp] theorem State.modSe_mgs (a : Nat) (f : Sense → Sense) : (s.modSe a f).mgs = s.mgs := rfl
@[simp] theorem State.modSe_net (a : Nat) (f : Sense → Sense) : (s.modSe a f).net = s.net := rfl
@[simp] theorem State.modSe_sph (a : Nat) (f : Sense → Sense) : (s.modSe a f).sph = s.sph := rfl
@[simp] theorem State.modSe_spm (a : Nat) (f : Sense → Sense) : (s.modSe a f).spm = s.spm := rfl
@[simp] theorem State.modSe_nvm (a : Nat) (f : Sense → Sense) : (s.modSe a f).nvm = s.nvm := rfl
@[simp] theorem State.modSe_pending (a : Nat) (f : Sense → Sense) : (s.modSe a f).pending = s.pending := rfl
@[simp] theorem State.modSe_rd (a : Nat) (f : Sense → Sense) (i : Nat) : (s.modSe a f).rd i = s.rd i := rfl
@[simp] theorem State.modSe_get (a : Nat) (f : Sense → Sense) (h : Fld) : (s.modSe a f).get h = s.get h := rfl
@[simp] theorem State.modSe_on (a : Nat) (f : Sense → Sense) (h : Fld) : (s.modSe a f).on h = s.on h := rfl
@[simp] theorem State.modSe_bitAt (a : Nat) (f : Sense → Sense) (i j : Nat) : (s.modSe a f).bitAt i j = s.bitAt i j := rfl
@[simp] theorem State.modSe_stagedAt (a : Nat) (f : Sense → Sense) (i : Nat) : (s.modSe a f).stagedAt i = s.stagedAt i := rfl
@[simp] theorem State.modSe_isBad (a : Nat) (f : Sense → Sense) (i : Nat) : (s.modSe a f).isBad i = s.isBad i := rfl
@[simp] theorem State.modSe_reply (a : Nat) (f : Sense → Sense) (o : Master) : (s.modSe a f).reply o = s.reply o := rfl
@[simp] theorem State.modSe_guardAt (a : Nat) (f : Sense → Sense) (i : Nat) : (s.modSe a f).guardAt i = s.guardAt i := rfl
@[simp] theorem State.modSe_leg (a : Nat) (f : Sense → Sense) (i : Nat) : (s.modSe a f).leg i = s.leg i := rfl
@[simp] theorem State.modSe_coil (a : Nat) (f : Sense → Sense) (i j : Nat) : (s.modSe a f).coil i j = s.coil i j := rfl
@[simp] theorem State.modSe_coach (a : Nat) (f : Sense → Sense) (i : Nat) : (s.modSe a f).coach i = s.coach i := rfl
@[simp] theorem State.modSe_enc (a : Nat) (f : Sense → Sense) (i : Nat) : (s.modSe a f).enc i = s.enc i := rfl
@[simp] theorem State.modSe_sd (a : Nat) (f : Sense → Sense) (i : Nat) : (s.modSe a f).sd i = s.sd i := rfl
@[simp] theorem State.modLeg_regs (l : Nat) (f : Leg → Leg) : (s.modLeg l f).regs = s.regs := rfl
@[simp] theorem State.modLeg_snap (l : Nat) (f : Leg → Leg) : (s.modLeg l f).snap = s.snap := rfl
@[simp] theorem State.modLeg_staged (l : Nat) (f : Leg → Leg) : (s.modLeg l f).staged = s.staged := rfl
@[simp] theorem State.modLeg_bad (l : Nat) (f : Leg → Leg) : (s.modLeg l f).bad = s.bad := rfl
@[simp] theorem State.modLeg_replies (l : Nat) (f : Leg → Leg) : (s.modLeg l f).replies = s.replies := rfl
@[simp] theorem State.modLeg_guards (l : Nat) (f : Leg → Leg) : (s.modLeg l f).guards = s.guards := rfl
@[simp] theorem State.modLeg_hostPair (l : Nat) (f : Leg → Leg) : (s.modLeg l f).hostPair = s.hostPair := rfl
@[simp] theorem State.modLeg_trioPair (l : Nat) (f : Leg → Leg) : (s.modLeg l f).trioPair = s.trioPair := rfl
@[simp] theorem State.modLeg_mgsPair (l : Nat) (f : Leg → Leg) : (s.modLeg l f).mgsPair = s.mgsPair := rfl
@[simp] theorem State.modLeg_canPair (l : Nat) (f : Leg → Leg) : (s.modLeg l f).canPair = s.canPair := rfl
@[simp] theorem State.modLeg_ticks (l : Nat) (f : Leg → Leg) : (s.modLeg l f).ticks = s.ticks := rfl
@[simp] theorem State.modLeg_free (l : Nat) (f : Leg → Leg) : (s.modLeg l f).free = s.free := rfl
@[simp] theorem State.modLeg_trioQ (l : Nat) (f : Leg → Leg) : (s.modLeg l f).trioQ = s.trioQ := rfl
@[simp] theorem State.modLeg_emcyQ (l : Nat) (f : Leg → Leg) : (s.modLeg l f).emcyQ = s.emcyQ := rfl
@[simp] theorem State.modLeg_logQ (l : Nat) (f : Leg → Leg) : (s.modLeg l f).logQ = s.logQ := rfl
@[simp] theorem State.modLeg_logWin (l : Nat) (f : Leg → Leg) : (s.modLeg l f).logWin = s.logWin := rfl
@[simp] theorem State.modLeg_coils (l : Nat) (f : Leg → Leg) : (s.modLeg l f).coils = s.coils := rfl
@[simp] theorem State.modLeg_coaches (l : Nat) (f : Leg → Leg) : (s.modLeg l f).coaches = s.coaches := rfl
@[simp] theorem State.modLeg_trips (l : Nat) (f : Leg → Leg) : (s.modLeg l f).trips = s.trips := rfl
@[simp] theorem State.modLeg_runs (l : Nat) (f : Leg → Leg) : (s.modLeg l f).runs = s.runs := rfl
@[simp] theorem State.modLeg_axes (l : Nat) (f : Leg → Leg) : (s.modLeg l f).axes = s.axes := rfl
@[simp] theorem State.modLeg_pl (l : Nat) (f : Leg → Leg) : (s.modLeg l f).pl = s.pl := rfl
@[simp] theorem State.modLeg_power (l : Nat) (f : Leg → Leg) : (s.modLeg l f).power = s.power := rfl
@[simp] theorem State.modLeg_syncOut (l : Nat) (f : Leg → Leg) : (s.modLeg l f).syncOut = s.syncOut := rfl
@[simp] theorem State.modLeg_encs (l : Nat) (f : Leg → Leg) : (s.modLeg l f).encs = s.encs := rfl
@[simp] theorem State.modLeg_stepLast (l : Nat) (f : Leg → Leg) : (s.modLeg l f).stepLast = s.stepLast := rfl
@[simp] theorem State.modLeg_stepDir (l : Nat) (f : Leg → Leg) : (s.modLeg l f).stepDir = s.stepDir := rfl
@[simp] theorem State.modLeg_recipes (l : Nat) (f : Leg → Leg) : (s.modLeg l f).recipes = s.recipes := rfl
@[simp] theorem State.modLeg_rbcnt (l : Nat) (f : Leg → Leg) : (s.modLeg l f).rbcnt = s.rbcnt := rfl
@[simp] theorem State.modLeg_sds (l : Nat) (f : Leg → Leg) : (s.modLeg l f).sds = s.sds := rfl
@[simp] theorem State.modLeg_afe (l : Nat) (f : Leg → Leg) : (s.modLeg l f).afe = s.afe := rfl
@[simp] theorem State.modLeg_trio (l : Nat) (f : Leg → Leg) : (s.modLeg l f).trio = s.trio := rfl
@[simp] theorem State.modLeg_mgs (l : Nat) (f : Leg → Leg) : (s.modLeg l f).mgs = s.mgs := rfl
@[simp] theorem State.modLeg_net (l : Nat) (f : Leg → Leg) : (s.modLeg l f).net = s.net := rfl
@[simp] theorem State.modLeg_sph (l : Nat) (f : Leg → Leg) : (s.modLeg l f).sph = s.sph := rfl
@[simp] theorem State.modLeg_spm (l : Nat) (f : Leg → Leg) : (s.modLeg l f).spm = s.spm := rfl
@[simp] theorem State.modLeg_nvm (l : Nat) (f : Leg → Leg) : (s.modLeg l f).nvm = s.nvm := rfl
@[simp] theorem State.modLeg_pending (l : Nat) (f : Leg → Leg) : (s.modLeg l f).pending = s.pending := rfl
@[simp] theorem State.modLeg_rd (l : Nat) (f : Leg → Leg) (i : Nat) : (s.modLeg l f).rd i = s.rd i := rfl
@[simp] theorem State.modLeg_get (l : Nat) (f : Leg → Leg) (h : Fld) : (s.modLeg l f).get h = s.get h := rfl
@[simp] theorem State.modLeg_on (l : Nat) (f : Leg → Leg) (h : Fld) : (s.modLeg l f).on h = s.on h := rfl
@[simp] theorem State.modLeg_bitAt (l : Nat) (f : Leg → Leg) (i j : Nat) : (s.modLeg l f).bitAt i j = s.bitAt i j := rfl
@[simp] theorem State.modLeg_stagedAt (l : Nat) (f : Leg → Leg) (i : Nat) : (s.modLeg l f).stagedAt i = s.stagedAt i := rfl
@[simp] theorem State.modLeg_isBad (l : Nat) (f : Leg → Leg) (i : Nat) : (s.modLeg l f).isBad i = s.isBad i := rfl
@[simp] theorem State.modLeg_reply (l : Nat) (f : Leg → Leg) (o : Master) : (s.modLeg l f).reply o = s.reply o := rfl
@[simp] theorem State.modLeg_guardAt (l : Nat) (f : Leg → Leg) (i : Nat) : (s.modLeg l f).guardAt i = s.guardAt i := rfl
@[simp] theorem State.modLeg_mo (l : Nat) (f : Leg → Leg) (i : Nat) : (s.modLeg l f).mo i = s.mo i := rfl
@[simp] theorem State.modLeg_se (l : Nat) (f : Leg → Leg) (i : Nat) : (s.modLeg l f).se i = s.se i := rfl
@[simp] theorem State.modLeg_coil (l : Nat) (f : Leg → Leg) (i j : Nat) : (s.modLeg l f).coil i j = s.coil i j := rfl
@[simp] theorem State.modLeg_coach (l : Nat) (f : Leg → Leg) (i : Nat) : (s.modLeg l f).coach i = s.coach i := rfl
@[simp] theorem State.modLeg_enc (l : Nat) (f : Leg → Leg) (i : Nat) : (s.modLeg l f).enc i = s.enc i := rfl
@[simp] theorem State.modLeg_sd (l : Nat) (f : Leg → Leg) (i : Nat) : (s.modLeg l f).sd i = s.sd i := rfl
@[simp] theorem State.modCoil_regs (r z : Nat) (f : Coil → Coil) : (s.modCoil r z f).regs = s.regs := rfl
@[simp] theorem State.modCoil_snap (r z : Nat) (f : Coil → Coil) : (s.modCoil r z f).snap = s.snap := rfl
@[simp] theorem State.modCoil_staged (r z : Nat) (f : Coil → Coil) : (s.modCoil r z f).staged = s.staged := rfl
@[simp] theorem State.modCoil_bad (r z : Nat) (f : Coil → Coil) : (s.modCoil r z f).bad = s.bad := rfl
@[simp] theorem State.modCoil_replies (r z : Nat) (f : Coil → Coil) : (s.modCoil r z f).replies = s.replies := rfl
@[simp] theorem State.modCoil_guards (r z : Nat) (f : Coil → Coil) : (s.modCoil r z f).guards = s.guards := rfl
@[simp] theorem State.modCoil_hostPair (r z : Nat) (f : Coil → Coil) : (s.modCoil r z f).hostPair = s.hostPair := rfl
@[simp] theorem State.modCoil_trioPair (r z : Nat) (f : Coil → Coil) : (s.modCoil r z f).trioPair = s.trioPair := rfl
@[simp] theorem State.modCoil_mgsPair (r z : Nat) (f : Coil → Coil) : (s.modCoil r z f).mgsPair = s.mgsPair := rfl
@[simp] theorem State.modCoil_canPair (r z : Nat) (f : Coil → Coil) : (s.modCoil r z f).canPair = s.canPair := rfl
@[simp] theorem State.modCoil_ticks (r z : Nat) (f : Coil → Coil) : (s.modCoil r z f).ticks = s.ticks := rfl
@[simp] theorem State.modCoil_free (r z : Nat) (f : Coil → Coil) : (s.modCoil r z f).free = s.free := rfl
@[simp] theorem State.modCoil_trioQ (r z : Nat) (f : Coil → Coil) : (s.modCoil r z f).trioQ = s.trioQ := rfl
@[simp] theorem State.modCoil_emcyQ (r z : Nat) (f : Coil → Coil) : (s.modCoil r z f).emcyQ = s.emcyQ := rfl
@[simp] theorem State.modCoil_logQ (r z : Nat) (f : Coil → Coil) : (s.modCoil r z f).logQ = s.logQ := rfl
@[simp] theorem State.modCoil_logWin (r z : Nat) (f : Coil → Coil) : (s.modCoil r z f).logWin = s.logWin := rfl
@[simp] theorem State.modCoil_legs (r z : Nat) (f : Coil → Coil) : (s.modCoil r z f).legs = s.legs := rfl
@[simp] theorem State.modCoil_coaches (r z : Nat) (f : Coil → Coil) : (s.modCoil r z f).coaches = s.coaches := rfl
@[simp] theorem State.modCoil_trips (r z : Nat) (f : Coil → Coil) : (s.modCoil r z f).trips = s.trips := rfl
@[simp] theorem State.modCoil_runs (r z : Nat) (f : Coil → Coil) : (s.modCoil r z f).runs = s.runs := rfl
@[simp] theorem State.modCoil_axes (r z : Nat) (f : Coil → Coil) : (s.modCoil r z f).axes = s.axes := rfl
@[simp] theorem State.modCoil_pl (r z : Nat) (f : Coil → Coil) : (s.modCoil r z f).pl = s.pl := rfl
@[simp] theorem State.modCoil_power (r z : Nat) (f : Coil → Coil) : (s.modCoil r z f).power = s.power := rfl
@[simp] theorem State.modCoil_syncOut (r z : Nat) (f : Coil → Coil) : (s.modCoil r z f).syncOut = s.syncOut := rfl
@[simp] theorem State.modCoil_encs (r z : Nat) (f : Coil → Coil) : (s.modCoil r z f).encs = s.encs := rfl
@[simp] theorem State.modCoil_stepLast (r z : Nat) (f : Coil → Coil) : (s.modCoil r z f).stepLast = s.stepLast := rfl
@[simp] theorem State.modCoil_stepDir (r z : Nat) (f : Coil → Coil) : (s.modCoil r z f).stepDir = s.stepDir := rfl
@[simp] theorem State.modCoil_recipes (r z : Nat) (f : Coil → Coil) : (s.modCoil r z f).recipes = s.recipes := rfl
@[simp] theorem State.modCoil_rbcnt (r z : Nat) (f : Coil → Coil) : (s.modCoil r z f).rbcnt = s.rbcnt := rfl
@[simp] theorem State.modCoil_sds (r z : Nat) (f : Coil → Coil) : (s.modCoil r z f).sds = s.sds := rfl
@[simp] theorem State.modCoil_afe (r z : Nat) (f : Coil → Coil) : (s.modCoil r z f).afe = s.afe := rfl
@[simp] theorem State.modCoil_trio (r z : Nat) (f : Coil → Coil) : (s.modCoil r z f).trio = s.trio := rfl
@[simp] theorem State.modCoil_mgs (r z : Nat) (f : Coil → Coil) : (s.modCoil r z f).mgs = s.mgs := rfl
@[simp] theorem State.modCoil_net (r z : Nat) (f : Coil → Coil) : (s.modCoil r z f).net = s.net := rfl
@[simp] theorem State.modCoil_sph (r z : Nat) (f : Coil → Coil) : (s.modCoil r z f).sph = s.sph := rfl
@[simp] theorem State.modCoil_spm (r z : Nat) (f : Coil → Coil) : (s.modCoil r z f).spm = s.spm := rfl
@[simp] theorem State.modCoil_nvm (r z : Nat) (f : Coil → Coil) : (s.modCoil r z f).nvm = s.nvm := rfl
@[simp] theorem State.modCoil_pending (r z : Nat) (f : Coil → Coil) : (s.modCoil r z f).pending = s.pending := rfl
@[simp] theorem State.modCoil_rd (r z : Nat) (f : Coil → Coil) (i : Nat) : (s.modCoil r z f).rd i = s.rd i := rfl
@[simp] theorem State.modCoil_get (r z : Nat) (f : Coil → Coil) (h : Fld) : (s.modCoil r z f).get h = s.get h := rfl
@[simp] theorem State.modCoil_on (r z : Nat) (f : Coil → Coil) (h : Fld) : (s.modCoil r z f).on h = s.on h := rfl
@[simp] theorem State.modCoil_bitAt (r z : Nat) (f : Coil → Coil) (i j : Nat) : (s.modCoil r z f).bitAt i j = s.bitAt i j := rfl
@[simp] theorem State.modCoil_stagedAt (r z : Nat) (f : Coil → Coil) (i : Nat) : (s.modCoil r z f).stagedAt i = s.stagedAt i := rfl
@[simp] theorem State.modCoil_isBad (r z : Nat) (f : Coil → Coil) (i : Nat) : (s.modCoil r z f).isBad i = s.isBad i := rfl
@[simp] theorem State.modCoil_reply (r z : Nat) (f : Coil → Coil) (o : Master) : (s.modCoil r z f).reply o = s.reply o := rfl
@[simp] theorem State.modCoil_guardAt (r z : Nat) (f : Coil → Coil) (i : Nat) : (s.modCoil r z f).guardAt i = s.guardAt i := rfl
@[simp] theorem State.modCoil_mo (r z : Nat) (f : Coil → Coil) (i : Nat) : (s.modCoil r z f).mo i = s.mo i := rfl
@[simp] theorem State.modCoil_se (r z : Nat) (f : Coil → Coil) (i : Nat) : (s.modCoil r z f).se i = s.se i := rfl
@[simp] theorem State.modCoil_leg (r z : Nat) (f : Coil → Coil) (i : Nat) : (s.modCoil r z f).leg i = s.leg i := rfl
@[simp] theorem State.modCoil_coach (r z : Nat) (f : Coil → Coil) (i : Nat) : (s.modCoil r z f).coach i = s.coach i := rfl
@[simp] theorem State.modCoil_enc (r z : Nat) (f : Coil → Coil) (i : Nat) : (s.modCoil r z f).enc i = s.enc i := rfl
@[simp] theorem State.modCoil_sd (r z : Nat) (f : Coil → Coil) (i : Nat) : (s.modCoil r z f).sd i = s.sd i := rfl
@[simp] theorem State.modCoach_regs (c : Nat) (f : Coach → Coach) : (s.modCoach c f).regs = s.regs := rfl
@[simp] theorem State.modCoach_snap (c : Nat) (f : Coach → Coach) : (s.modCoach c f).snap = s.snap := rfl
@[simp] theorem State.modCoach_staged (c : Nat) (f : Coach → Coach) : (s.modCoach c f).staged = s.staged := rfl
@[simp] theorem State.modCoach_bad (c : Nat) (f : Coach → Coach) : (s.modCoach c f).bad = s.bad := rfl
@[simp] theorem State.modCoach_replies (c : Nat) (f : Coach → Coach) : (s.modCoach c f).replies = s.replies := rfl
@[simp] theorem State.modCoach_guards (c : Nat) (f : Coach → Coach) : (s.modCoach c f).guards = s.guards := rfl
@[simp] theorem State.modCoach_hostPair (c : Nat) (f : Coach → Coach) : (s.modCoach c f).hostPair = s.hostPair := rfl
@[simp] theorem State.modCoach_trioPair (c : Nat) (f : Coach → Coach) : (s.modCoach c f).trioPair = s.trioPair := rfl
@[simp] theorem State.modCoach_mgsPair (c : Nat) (f : Coach → Coach) : (s.modCoach c f).mgsPair = s.mgsPair := rfl
@[simp] theorem State.modCoach_canPair (c : Nat) (f : Coach → Coach) : (s.modCoach c f).canPair = s.canPair := rfl
@[simp] theorem State.modCoach_ticks (c : Nat) (f : Coach → Coach) : (s.modCoach c f).ticks = s.ticks := rfl
@[simp] theorem State.modCoach_free (c : Nat) (f : Coach → Coach) : (s.modCoach c f).free = s.free := rfl
@[simp] theorem State.modCoach_trioQ (c : Nat) (f : Coach → Coach) : (s.modCoach c f).trioQ = s.trioQ := rfl
@[simp] theorem State.modCoach_emcyQ (c : Nat) (f : Coach → Coach) : (s.modCoach c f).emcyQ = s.emcyQ := rfl
@[simp] theorem State.modCoach_logQ (c : Nat) (f : Coach → Coach) : (s.modCoach c f).logQ = s.logQ := rfl
@[simp] theorem State.modCoach_logWin (c : Nat) (f : Coach → Coach) : (s.modCoach c f).logWin = s.logWin := rfl
@[simp] theorem State.modCoach_legs (c : Nat) (f : Coach → Coach) : (s.modCoach c f).legs = s.legs := rfl
@[simp] theorem State.modCoach_coils (c : Nat) (f : Coach → Coach) : (s.modCoach c f).coils = s.coils := rfl
@[simp] theorem State.modCoach_trips (c : Nat) (f : Coach → Coach) : (s.modCoach c f).trips = s.trips := rfl
@[simp] theorem State.modCoach_runs (c : Nat) (f : Coach → Coach) : (s.modCoach c f).runs = s.runs := rfl
@[simp] theorem State.modCoach_axes (c : Nat) (f : Coach → Coach) : (s.modCoach c f).axes = s.axes := rfl
@[simp] theorem State.modCoach_pl (c : Nat) (f : Coach → Coach) : (s.modCoach c f).pl = s.pl := rfl
@[simp] theorem State.modCoach_power (c : Nat) (f : Coach → Coach) : (s.modCoach c f).power = s.power := rfl
@[simp] theorem State.modCoach_syncOut (c : Nat) (f : Coach → Coach) : (s.modCoach c f).syncOut = s.syncOut := rfl
@[simp] theorem State.modCoach_encs (c : Nat) (f : Coach → Coach) : (s.modCoach c f).encs = s.encs := rfl
@[simp] theorem State.modCoach_stepLast (c : Nat) (f : Coach → Coach) : (s.modCoach c f).stepLast = s.stepLast := rfl
@[simp] theorem State.modCoach_stepDir (c : Nat) (f : Coach → Coach) : (s.modCoach c f).stepDir = s.stepDir := rfl
@[simp] theorem State.modCoach_recipes (c : Nat) (f : Coach → Coach) : (s.modCoach c f).recipes = s.recipes := rfl
@[simp] theorem State.modCoach_rbcnt (c : Nat) (f : Coach → Coach) : (s.modCoach c f).rbcnt = s.rbcnt := rfl
@[simp] theorem State.modCoach_sds (c : Nat) (f : Coach → Coach) : (s.modCoach c f).sds = s.sds := rfl
@[simp] theorem State.modCoach_afe (c : Nat) (f : Coach → Coach) : (s.modCoach c f).afe = s.afe := rfl
@[simp] theorem State.modCoach_trio (c : Nat) (f : Coach → Coach) : (s.modCoach c f).trio = s.trio := rfl
@[simp] theorem State.modCoach_mgs (c : Nat) (f : Coach → Coach) : (s.modCoach c f).mgs = s.mgs := rfl
@[simp] theorem State.modCoach_net (c : Nat) (f : Coach → Coach) : (s.modCoach c f).net = s.net := rfl
@[simp] theorem State.modCoach_sph (c : Nat) (f : Coach → Coach) : (s.modCoach c f).sph = s.sph := rfl
@[simp] theorem State.modCoach_spm (c : Nat) (f : Coach → Coach) : (s.modCoach c f).spm = s.spm := rfl
@[simp] theorem State.modCoach_nvm (c : Nat) (f : Coach → Coach) : (s.modCoach c f).nvm = s.nvm := rfl
@[simp] theorem State.modCoach_pending (c : Nat) (f : Coach → Coach) : (s.modCoach c f).pending = s.pending := rfl
@[simp] theorem State.modCoach_rd (c : Nat) (f : Coach → Coach) (i : Nat) : (s.modCoach c f).rd i = s.rd i := rfl
@[simp] theorem State.modCoach_get (c : Nat) (f : Coach → Coach) (h : Fld) : (s.modCoach c f).get h = s.get h := rfl
@[simp] theorem State.modCoach_on (c : Nat) (f : Coach → Coach) (h : Fld) : (s.modCoach c f).on h = s.on h := rfl
@[simp] theorem State.modCoach_bitAt (c : Nat) (f : Coach → Coach) (i j : Nat) : (s.modCoach c f).bitAt i j = s.bitAt i j := rfl
@[simp] theorem State.modCoach_stagedAt (c : Nat) (f : Coach → Coach) (i : Nat) : (s.modCoach c f).stagedAt i = s.stagedAt i := rfl
@[simp] theorem State.modCoach_isBad (c : Nat) (f : Coach → Coach) (i : Nat) : (s.modCoach c f).isBad i = s.isBad i := rfl
@[simp] theorem State.modCoach_reply (c : Nat) (f : Coach → Coach) (o : Master) : (s.modCoach c f).reply o = s.reply o := rfl
@[simp] theorem State.modCoach_guardAt (c : Nat) (f : Coach → Coach) (i : Nat) : (s.modCoach c f).guardAt i = s.guardAt i := rfl
@[simp] theorem State.modCoach_mo (c : Nat) (f : Coach → Coach) (i : Nat) : (s.modCoach c f).mo i = s.mo i := rfl
@[simp] theorem State.modCoach_se (c : Nat) (f : Coach → Coach) (i : Nat) : (s.modCoach c f).se i = s.se i := rfl
@[simp] theorem State.modCoach_leg (c : Nat) (f : Coach → Coach) (i : Nat) : (s.modCoach c f).leg i = s.leg i := rfl
@[simp] theorem State.modCoach_coil (c : Nat) (f : Coach → Coach) (i j : Nat) : (s.modCoach c f).coil i j = s.coil i j := rfl
@[simp] theorem State.modCoach_enc (c : Nat) (f : Coach → Coach) (i : Nat) : (s.modCoach c f).enc i = s.enc i := rfl
@[simp] theorem State.modCoach_sd (c : Nat) (f : Coach → Coach) (i : Nat) : (s.modCoach c f).sd i = s.sd i := rfl
@[simp] theorem State.modEnc_regs (n : Nat) (f : EncCh → EncCh) : (s.modEnc n f).regs = s.regs := rfl
@[simp] theorem State.modEnc_snap (n : Nat) (f : EncCh → EncCh) : (s.modEnc n f).snap = s.snap := rfl
@[simp] theorem State.modEnc_staged (n : Nat) (f : EncCh → EncCh) : (s.modEnc n f).staged = s.staged := rfl
@[simp] theorem State.modEnc_bad (n : Nat) (f : EncCh → EncCh) : (s.modEnc n f).bad = s.bad := rfl
@[simp] theorem State.modEnc_replies (n : Nat) (f : EncCh → EncCh) : (s.modEnc n f).replies = s.replies := rfl
@[simp] theorem State.modEnc_guards (n : Nat) (f : EncCh → EncCh) : (s.modEnc n f).guards = s.guards := rfl
@[simp] theorem State.modEnc_hostPair (n : Nat) (f : EncCh → EncCh) : (s.modEnc n f).hostPair = s.hostPair := rfl
@[simp] theorem State.modEnc_trioPair (n : Nat) (f : EncCh → EncCh) : (s.modEnc n f).trioPair = s.trioPair := rfl
@[simp] theorem State.modEnc_mgsPair (n : Nat) (f : EncCh → EncCh) : (s.modEnc n f).mgsPair = s.mgsPair := rfl
@[simp] theorem State.modEnc_canPair (n : Nat) (f : EncCh → EncCh) : (s.modEnc n f).canPair = s.canPair := rfl
@[simp] theorem State.modEnc_ticks (n : Nat) (f : EncCh → EncCh) : (s.modEnc n f).ticks = s.ticks := rfl
@[simp] theorem State.modEnc_free (n : Nat) (f : EncCh → EncCh) : (s.modEnc n f).free = s.free := rfl
@[simp] theorem State.modEnc_trioQ (n : Nat) (f : EncCh → EncCh) : (s.modEnc n f).trioQ = s.trioQ := rfl
@[simp] theorem State.modEnc_emcyQ (n : Nat) (f : EncCh → EncCh) : (s.modEnc n f).emcyQ = s.emcyQ := rfl
@[simp] theorem State.modEnc_logQ (n : Nat) (f : EncCh → EncCh) : (s.modEnc n f).logQ = s.logQ := rfl
@[simp] theorem State.modEnc_logWin (n : Nat) (f : EncCh → EncCh) : (s.modEnc n f).logWin = s.logWin := rfl
@[simp] theorem State.modEnc_legs (n : Nat) (f : EncCh → EncCh) : (s.modEnc n f).legs = s.legs := rfl
@[simp] theorem State.modEnc_coils (n : Nat) (f : EncCh → EncCh) : (s.modEnc n f).coils = s.coils := rfl
@[simp] theorem State.modEnc_coaches (n : Nat) (f : EncCh → EncCh) : (s.modEnc n f).coaches = s.coaches := rfl
@[simp] theorem State.modEnc_trips (n : Nat) (f : EncCh → EncCh) : (s.modEnc n f).trips = s.trips := rfl
@[simp] theorem State.modEnc_runs (n : Nat) (f : EncCh → EncCh) : (s.modEnc n f).runs = s.runs := rfl
@[simp] theorem State.modEnc_axes (n : Nat) (f : EncCh → EncCh) : (s.modEnc n f).axes = s.axes := rfl
@[simp] theorem State.modEnc_pl (n : Nat) (f : EncCh → EncCh) : (s.modEnc n f).pl = s.pl := rfl
@[simp] theorem State.modEnc_power (n : Nat) (f : EncCh → EncCh) : (s.modEnc n f).power = s.power := rfl
@[simp] theorem State.modEnc_syncOut (n : Nat) (f : EncCh → EncCh) : (s.modEnc n f).syncOut = s.syncOut := rfl
@[simp] theorem State.modEnc_stepLast (n : Nat) (f : EncCh → EncCh) : (s.modEnc n f).stepLast = s.stepLast := rfl
@[simp] theorem State.modEnc_stepDir (n : Nat) (f : EncCh → EncCh) : (s.modEnc n f).stepDir = s.stepDir := rfl
@[simp] theorem State.modEnc_recipes (n : Nat) (f : EncCh → EncCh) : (s.modEnc n f).recipes = s.recipes := rfl
@[simp] theorem State.modEnc_rbcnt (n : Nat) (f : EncCh → EncCh) : (s.modEnc n f).rbcnt = s.rbcnt := rfl
@[simp] theorem State.modEnc_sds (n : Nat) (f : EncCh → EncCh) : (s.modEnc n f).sds = s.sds := rfl
@[simp] theorem State.modEnc_afe (n : Nat) (f : EncCh → EncCh) : (s.modEnc n f).afe = s.afe := rfl
@[simp] theorem State.modEnc_trio (n : Nat) (f : EncCh → EncCh) : (s.modEnc n f).trio = s.trio := rfl
@[simp] theorem State.modEnc_mgs (n : Nat) (f : EncCh → EncCh) : (s.modEnc n f).mgs = s.mgs := rfl
@[simp] theorem State.modEnc_net (n : Nat) (f : EncCh → EncCh) : (s.modEnc n f).net = s.net := rfl
@[simp] theorem State.modEnc_sph (n : Nat) (f : EncCh → EncCh) : (s.modEnc n f).sph = s.sph := rfl
@[simp] theorem State.modEnc_spm (n : Nat) (f : EncCh → EncCh) : (s.modEnc n f).spm = s.spm := rfl
@[simp] theorem State.modEnc_nvm (n : Nat) (f : EncCh → EncCh) : (s.modEnc n f).nvm = s.nvm := rfl
@[simp] theorem State.modEnc_pending (n : Nat) (f : EncCh → EncCh) : (s.modEnc n f).pending = s.pending := rfl
@[simp] theorem State.modEnc_rd (n : Nat) (f : EncCh → EncCh) (i : Nat) : (s.modEnc n f).rd i = s.rd i := rfl
@[simp] theorem State.modEnc_get (n : Nat) (f : EncCh → EncCh) (h : Fld) : (s.modEnc n f).get h = s.get h := rfl
@[simp] theorem State.modEnc_on (n : Nat) (f : EncCh → EncCh) (h : Fld) : (s.modEnc n f).on h = s.on h := rfl
@[simp] theorem State.modEnc_bitAt (n : Nat) (f : EncCh → EncCh) (i j : Nat) : (s.modEnc n f).bitAt i j = s.bitAt i j := rfl
@[simp] theorem State.modEnc_stagedAt (n : Nat) (f : EncCh → EncCh) (i : Nat) : (s.modEnc n f).stagedAt i = s.stagedAt i := rfl
@[simp] theorem State.modEnc_isBad (n : Nat) (f : EncCh → EncCh) (i : Nat) : (s.modEnc n f).isBad i = s.isBad i := rfl
@[simp] theorem State.modEnc_reply (n : Nat) (f : EncCh → EncCh) (o : Master) : (s.modEnc n f).reply o = s.reply o := rfl
@[simp] theorem State.modEnc_guardAt (n : Nat) (f : EncCh → EncCh) (i : Nat) : (s.modEnc n f).guardAt i = s.guardAt i := rfl
@[simp] theorem State.modEnc_mo (n : Nat) (f : EncCh → EncCh) (i : Nat) : (s.modEnc n f).mo i = s.mo i := rfl
@[simp] theorem State.modEnc_se (n : Nat) (f : EncCh → EncCh) (i : Nat) : (s.modEnc n f).se i = s.se i := rfl
@[simp] theorem State.modEnc_leg (n : Nat) (f : EncCh → EncCh) (i : Nat) : (s.modEnc n f).leg i = s.leg i := rfl
@[simp] theorem State.modEnc_coil (n : Nat) (f : EncCh → EncCh) (i j : Nat) : (s.modEnc n f).coil i j = s.coil i j := rfl
@[simp] theorem State.modEnc_coach (n : Nat) (f : EncCh → EncCh) (i : Nat) : (s.modEnc n f).coach i = s.coach i := rfl
@[simp] theorem State.modEnc_sd (n : Nat) (f : EncCh → EncCh) (i : Nat) : (s.modEnc n f).sd i = s.sd i := rfl
@[simp] theorem State.modSd_regs (d : Nat) (f : SdMod → SdMod) : (s.modSd d f).regs = s.regs := rfl
@[simp] theorem State.modSd_snap (d : Nat) (f : SdMod → SdMod) : (s.modSd d f).snap = s.snap := rfl
@[simp] theorem State.modSd_staged (d : Nat) (f : SdMod → SdMod) : (s.modSd d f).staged = s.staged := rfl
@[simp] theorem State.modSd_bad (d : Nat) (f : SdMod → SdMod) : (s.modSd d f).bad = s.bad := rfl
@[simp] theorem State.modSd_replies (d : Nat) (f : SdMod → SdMod) : (s.modSd d f).replies = s.replies := rfl
@[simp] theorem State.modSd_guards (d : Nat) (f : SdMod → SdMod) : (s.modSd d f).guards = s.guards := rfl
@[simp] theorem State.modSd_hostPair (d : Nat) (f : SdMod → SdMod) : (s.modSd d f).hostPair = s.hostPair := rfl
@[simp] theorem State.modSd_trioPair (d : Nat) (f : SdMod → SdMod) : (s.modSd d f).trioPair = s.trioPair := rfl
@[simp] theorem State.modSd_mgsPair (d : Nat) (f : SdMod → SdMod) : (s.modSd d f).mgsPair = s.mgsPair := rfl
@[simp] theorem State.modSd_canPair (d : Nat) (f : SdMod → SdMod) : (s.modSd d f).canPair = s.canPair := rfl
@[simp] theorem State.modSd_ticks (d : Nat) (f : SdMod → SdMod) : (s.modSd d f).ticks = s.ticks := rfl
@[simp] theorem State.modSd_free (d : Nat) (f : SdMod → SdMod) : (s.modSd d f).free = s.free := rfl
@[simp] theorem State.modSd_trioQ (d : Nat) (f : SdMod → SdMod) : (s.modSd d f).trioQ = s.trioQ := rfl
@[simp] theorem State.modSd_emcyQ (d : Nat) (f : SdMod → SdMod) : (s.modSd d f).emcyQ = s.emcyQ := rfl
@[simp] theorem State.modSd_logQ (d : Nat) (f : SdMod → SdMod) : (s.modSd d f).logQ = s.logQ := rfl
@[simp] theorem State.modSd_logWin (d : Nat) (f : SdMod → SdMod) : (s.modSd d f).logWin = s.logWin := rfl
@[simp] theorem State.modSd_legs (d : Nat) (f : SdMod → SdMod) : (s.modSd d f).legs = s.legs := rfl
@[simp] theorem State.modSd_coils (d : Nat) (f : SdMod → SdMod) : (s.modSd d f).coils = s.coils := rfl
@[simp] theorem State.modSd_coaches (d : Nat) (f : SdMod → SdMod) : (s.modSd d f).coaches = s.coaches := rfl
@[simp] theorem State.modSd_trips (d : Nat) (f : SdMod → SdMod) : (s.modSd d f).trips = s.trips := rfl
@[simp] theorem State.modSd_runs (d : Nat) (f : SdMod → SdMod) : (s.modSd d f).runs = s.runs := rfl
@[simp] theorem State.modSd_axes (d : Nat) (f : SdMod → SdMod) : (s.modSd d f).axes = s.axes := rfl
@[simp] theorem State.modSd_pl (d : Nat) (f : SdMod → SdMod) : (s.modSd d f).pl = s.pl := rfl
@[simp] theorem State.modSd_power (d : Nat) (f : SdMod → SdMod) : (s.modSd d f).power = s.power := rfl
@[simp] theorem State.modSd_syncOut (d : Nat) (f : SdMod → SdMod) : (s.modSd d f).syncOut = s.syncOut := rfl
@[simp] theorem State.modSd_encs (d : Nat) (f : SdMod → SdMod) : (s.modSd d f).encs = s.encs := rfl
@[simp] theorem State.modSd_stepLast (d : Nat) (f : SdMod → SdMod) : (s.modSd d f).stepLast = s.stepLast := rfl
@[simp] theorem State.modSd_stepDir (d : Nat) (f : SdMod → SdMod) : (s.modSd d f).stepDir = s.stepDir := rfl
@[simp] theorem State.modSd_recipes (d : Nat) (f : SdMod → SdMod) : (s.modSd d f).recipes = s.recipes := rfl
@[simp] theorem State.modSd_rbcnt (d : Nat) (f : SdMod → SdMod) : (s.modSd d f).rbcnt = s.rbcnt := rfl
@[simp] theorem State.modSd_afe (d : Nat) (f : SdMod → SdMod) : (s.modSd d f).afe = s.afe := rfl
@[simp] theorem State.modSd_trio (d : Nat) (f : SdMod → SdMod) : (s.modSd d f).trio = s.trio := rfl
@[simp] theorem State.modSd_mgs (d : Nat) (f : SdMod → SdMod) : (s.modSd d f).mgs = s.mgs := rfl
@[simp] theorem State.modSd_net (d : Nat) (f : SdMod → SdMod) : (s.modSd d f).net = s.net := rfl
@[simp] theorem State.modSd_sph (d : Nat) (f : SdMod → SdMod) : (s.modSd d f).sph = s.sph := rfl
@[simp] theorem State.modSd_spm (d : Nat) (f : SdMod → SdMod) : (s.modSd d f).spm = s.spm := rfl
@[simp] theorem State.modSd_nvm (d : Nat) (f : SdMod → SdMod) : (s.modSd d f).nvm = s.nvm := rfl
@[simp] theorem State.modSd_pending (d : Nat) (f : SdMod → SdMod) : (s.modSd d f).pending = s.pending := rfl
@[simp] theorem State.modSd_rd (d : Nat) (f : SdMod → SdMod) (i : Nat) : (s.modSd d f).rd i = s.rd i := rfl
@[simp] theorem State.modSd_get (d : Nat) (f : SdMod → SdMod) (h : Fld) : (s.modSd d f).get h = s.get h := rfl
@[simp] theorem State.modSd_on (d : Nat) (f : SdMod → SdMod) (h : Fld) : (s.modSd d f).on h = s.on h := rfl
@[simp] theorem State.modSd_bitAt (d : Nat) (f : SdMod → SdMod) (i j : Nat) : (s.modSd d f).bitAt i j = s.bitAt i j := rfl
@[simp] theorem State.modSd_stagedAt (d : Nat) (f : SdMod → SdMod) (i : Nat) : (s.modSd d f).stagedAt i = s.stagedAt i := rfl
@[simp] theorem State.modSd_isBad (d : Nat) (f : SdMod → SdMod) (i : Nat) : (s.modSd d f).isBad i = s.isBad i := rfl
@[simp] theorem State.modSd_reply (d : Nat) (f : SdMod → SdMod) (o : Master) : (s.modSd d f).reply o = s.reply o := rfl
@[simp] theorem State.modSd_guardAt (d : Nat) (f : SdMod → SdMod) (i : Nat) : (s.modSd d f).guardAt i = s.guardAt i := rfl
@[simp] theorem State.modSd_mo (d : Nat) (f : SdMod → SdMod) (i : Nat) : (s.modSd d f).mo i = s.mo i := rfl
@[simp] theorem State.modSd_se (d : Nat) (f : SdMod → SdMod) (i : Nat) : (s.modSd d f).se i = s.se i := rfl
@[simp] theorem State.modSd_leg (d : Nat) (f : SdMod → SdMod) (i : Nat) : (s.modSd d f).leg i = s.leg i := rfl
@[simp] theorem State.modSd_coil (d : Nat) (f : SdMod → SdMod) (i j : Nat) : (s.modSd d f).coil i j = s.coil i j := rfl
@[simp] theorem State.modSd_coach (d : Nat) (f : SdMod → SdMod) (i : Nat) : (s.modSd d f).coach i = s.coach i := rfl
@[simp] theorem State.modSd_enc (d : Nat) (f : SdMod → SdMod) (i : Nat) : (s.modSd d f).enc i = s.enc i := rfl
@[simp] theorem State.modPl_regs (f : Planner → Planner) : (s.modPl f).regs = s.regs := rfl
@[simp] theorem State.modPl_snap (f : Planner → Planner) : (s.modPl f).snap = s.snap := rfl
@[simp] theorem State.modPl_staged (f : Planner → Planner) : (s.modPl f).staged = s.staged := rfl
@[simp] theorem State.modPl_bad (f : Planner → Planner) : (s.modPl f).bad = s.bad := rfl
@[simp] theorem State.modPl_replies (f : Planner → Planner) : (s.modPl f).replies = s.replies := rfl
@[simp] theorem State.modPl_guards (f : Planner → Planner) : (s.modPl f).guards = s.guards := rfl
@[simp] theorem State.modPl_hostPair (f : Planner → Planner) : (s.modPl f).hostPair = s.hostPair := rfl
@[simp] theorem State.modPl_trioPair (f : Planner → Planner) : (s.modPl f).trioPair = s.trioPair := rfl
@[simp] theorem State.modPl_mgsPair (f : Planner → Planner) : (s.modPl f).mgsPair = s.mgsPair := rfl
@[simp] theorem State.modPl_canPair (f : Planner → Planner) : (s.modPl f).canPair = s.canPair := rfl
@[simp] theorem State.modPl_ticks (f : Planner → Planner) : (s.modPl f).ticks = s.ticks := rfl
@[simp] theorem State.modPl_free (f : Planner → Planner) : (s.modPl f).free = s.free := rfl
@[simp] theorem State.modPl_trioQ (f : Planner → Planner) : (s.modPl f).trioQ = s.trioQ := rfl
@[simp] theorem State.modPl_emcyQ (f : Planner → Planner) : (s.modPl f).emcyQ = s.emcyQ := rfl
@[simp] theorem State.modPl_logQ (f : Planner → Planner) : (s.modPl f).logQ = s.logQ := rfl
@[simp] theorem State.modPl_logWin (f : Planner → Planner) : (s.modPl f).logWin = s.logWin := rfl
@[simp] theorem State.modPl_legs (f : Planner → Planner) : (s.modPl f).legs = s.legs := rfl
@[simp] theorem State.modPl_coils (f : Planner → Planner) : (s.modPl f).coils = s.coils := rfl
@[simp] theorem State.modPl_coaches (f : Planner → Planner) : (s.modPl f).coaches = s.coaches := rfl
@[simp] theorem State.modPl_trips (f : Planner → Planner) : (s.modPl f).trips = s.trips := rfl
@[simp] theorem State.modPl_runs (f : Planner → Planner) : (s.modPl f).runs = s.runs := rfl
@[simp] theorem State.modPl_axes (f : Planner → Planner) : (s.modPl f).axes = s.axes := rfl
@[simp] theorem State.modPl_power (f : Planner → Planner) : (s.modPl f).power = s.power := rfl
@[simp] theorem State.modPl_syncOut (f : Planner → Planner) : (s.modPl f).syncOut = s.syncOut := rfl
@[simp] theorem State.modPl_encs (f : Planner → Planner) : (s.modPl f).encs = s.encs := rfl
@[simp] theorem State.modPl_stepLast (f : Planner → Planner) : (s.modPl f).stepLast = s.stepLast := rfl
@[simp] theorem State.modPl_stepDir (f : Planner → Planner) : (s.modPl f).stepDir = s.stepDir := rfl
@[simp] theorem State.modPl_recipes (f : Planner → Planner) : (s.modPl f).recipes = s.recipes := rfl
@[simp] theorem State.modPl_rbcnt (f : Planner → Planner) : (s.modPl f).rbcnt = s.rbcnt := rfl
@[simp] theorem State.modPl_sds (f : Planner → Planner) : (s.modPl f).sds = s.sds := rfl
@[simp] theorem State.modPl_afe (f : Planner → Planner) : (s.modPl f).afe = s.afe := rfl
@[simp] theorem State.modPl_trio (f : Planner → Planner) : (s.modPl f).trio = s.trio := rfl
@[simp] theorem State.modPl_mgs (f : Planner → Planner) : (s.modPl f).mgs = s.mgs := rfl
@[simp] theorem State.modPl_net (f : Planner → Planner) : (s.modPl f).net = s.net := rfl
@[simp] theorem State.modPl_sph (f : Planner → Planner) : (s.modPl f).sph = s.sph := rfl
@[simp] theorem State.modPl_spm (f : Planner → Planner) : (s.modPl f).spm = s.spm := rfl
@[simp] theorem State.modPl_nvm (f : Planner → Planner) : (s.modPl f).nvm = s.nvm := rfl
@[simp] theorem State.modPl_pending (f : Planner → Planner) : (s.modPl f).pending = s.pending := rfl
@[simp] theorem State.modPl_pl (f : Planner → Planner) : (s.modPl f).pl = f s.pl := rfl
@[simp] theorem State.modPl_rd (f : Planner → Planner) (i : Nat) : (s.modPl f).rd i = s.rd i := rfl
@[simp] theorem State.modPl_get (f : Planner → Planner) (h : Fld) : (s.modPl f).get h = s.get h := rfl
@[simp] theorem State.modPl_on (f : Planner → Planner) (h : Fld) : (s.modPl f).on h = s.on h := rfl
@[simp] theorem State.modPl_bitAt (f : Planner → Planner) (i j : Nat) : (s.modPl f).bitAt i j = s.bitAt i j := rfl
@[simp] theorem State.modPl_stagedAt (f : Planner → Planner) (i : Nat) : (s.modPl f).stagedAt i = s.stagedAt i := rfl
@[simp] theorem State.modPl_isBad (f : Planner → Planner) (i : Nat) : (s.modPl f).isBad i = s.isBad i := rfl
@[simp] theorem State.modPl_reply (f : Planner → Planner) (o : Master) : (s.modPl f).reply o = s.reply o := rfl
@[simp] theorem State.modPl_guardAt (f : Planner → Planner) (i : Nat) : (s.modPl f).guardAt i = s.guardAt i := rfl
@[simp] theorem State.modPl_mo (f : Planner → Planner) (i : Nat) : (s.modPl f).mo i = s.mo i := rfl
@[simp] theorem State.modPl_se (f : Planner → Planner) (i : Nat) : (s.modPl f).se i = s.se i := rfl
@[simp] theorem State.modPl_leg (f : Planner → Planner) (i : Nat) : (s.modPl f).leg i = s.leg i := rfl
@[simp] theorem State.modPl_coil (f : Planner → Planner) (i j : Nat) : (s.modPl f).coil i j = s.coil i j := rfl
@[simp] theorem State.modPl_coach (f : Planner → Planner) (i : Nat) : (s.modPl f).coach i = s.coach i := rfl
@[simp] theorem State.modPl_enc (f : Planner → Planner) (i : Nat) : (s.modPl f).enc i = s.enc i := rfl
@[simp] theorem State.modPl_sd (f : Planner → Planner) (i : Nat) : (s.modPl f).sd i = s.sd i := rfl
@[simp] theorem State.modPower_regs (f : Power → Power) : (s.modPower f).regs = s.regs := rfl
@[simp] theorem State.modPower_snap (f : Power → Power) : (s.modPower f).snap = s.snap := rfl
@[simp] theorem State.modPower_staged (f : Power → Power) : (s.modPower f).staged = s.staged := rfl
@[simp] theorem State.modPower_bad (f : Power → Power) : (s.modPower f).bad = s.bad := rfl
@[simp] theorem State.modPower_replies (f : Power → Power) : (s.modPower f).replies = s.replies := rfl
@[simp] theorem State.modPower_guards (f : Power → Power) : (s.modPower f).guards = s.guards := rfl
@[simp] theorem State.modPower_hostPair (f : Power → Power) : (s.modPower f).hostPair = s.hostPair := rfl
@[simp] theorem State.modPower_trioPair (f : Power → Power) : (s.modPower f).trioPair = s.trioPair := rfl
@[simp] theorem State.modPower_mgsPair (f : Power → Power) : (s.modPower f).mgsPair = s.mgsPair := rfl
@[simp] theorem State.modPower_canPair (f : Power → Power) : (s.modPower f).canPair = s.canPair := rfl
@[simp] theorem State.modPower_ticks (f : Power → Power) : (s.modPower f).ticks = s.ticks := rfl
@[simp] theorem State.modPower_free (f : Power → Power) : (s.modPower f).free = s.free := rfl
@[simp] theorem State.modPower_trioQ (f : Power → Power) : (s.modPower f).trioQ = s.trioQ := rfl
@[simp] theorem State.modPower_emcyQ (f : Power → Power) : (s.modPower f).emcyQ = s.emcyQ := rfl
@[simp] theorem State.modPower_logQ (f : Power → Power) : (s.modPower f).logQ = s.logQ := rfl
@[simp] theorem State.modPower_logWin (f : Power → Power) : (s.modPower f).logWin = s.logWin := rfl
@[simp] theorem State.modPower_legs (f : Power → Power) : (s.modPower f).legs = s.legs := rfl
@[simp] theorem State.modPower_coils (f : Power → Power) : (s.modPower f).coils = s.coils := rfl
@[simp] theorem State.modPower_coaches (f : Power → Power) : (s.modPower f).coaches = s.coaches := rfl
@[simp] theorem State.modPower_trips (f : Power → Power) : (s.modPower f).trips = s.trips := rfl
@[simp] theorem State.modPower_runs (f : Power → Power) : (s.modPower f).runs = s.runs := rfl
@[simp] theorem State.modPower_axes (f : Power → Power) : (s.modPower f).axes = s.axes := rfl
@[simp] theorem State.modPower_pl (f : Power → Power) : (s.modPower f).pl = s.pl := rfl
@[simp] theorem State.modPower_syncOut (f : Power → Power) : (s.modPower f).syncOut = s.syncOut := rfl
@[simp] theorem State.modPower_encs (f : Power → Power) : (s.modPower f).encs = s.encs := rfl
@[simp] theorem State.modPower_stepLast (f : Power → Power) : (s.modPower f).stepLast = s.stepLast := rfl
@[simp] theorem State.modPower_stepDir (f : Power → Power) : (s.modPower f).stepDir = s.stepDir := rfl
@[simp] theorem State.modPower_recipes (f : Power → Power) : (s.modPower f).recipes = s.recipes := rfl
@[simp] theorem State.modPower_rbcnt (f : Power → Power) : (s.modPower f).rbcnt = s.rbcnt := rfl
@[simp] theorem State.modPower_sds (f : Power → Power) : (s.modPower f).sds = s.sds := rfl
@[simp] theorem State.modPower_afe (f : Power → Power) : (s.modPower f).afe = s.afe := rfl
@[simp] theorem State.modPower_trio (f : Power → Power) : (s.modPower f).trio = s.trio := rfl
@[simp] theorem State.modPower_mgs (f : Power → Power) : (s.modPower f).mgs = s.mgs := rfl
@[simp] theorem State.modPower_net (f : Power → Power) : (s.modPower f).net = s.net := rfl
@[simp] theorem State.modPower_sph (f : Power → Power) : (s.modPower f).sph = s.sph := rfl
@[simp] theorem State.modPower_spm (f : Power → Power) : (s.modPower f).spm = s.spm := rfl
@[simp] theorem State.modPower_nvm (f : Power → Power) : (s.modPower f).nvm = s.nvm := rfl
@[simp] theorem State.modPower_pending (f : Power → Power) : (s.modPower f).pending = s.pending := rfl
@[simp] theorem State.modPower_power (f : Power → Power) : (s.modPower f).power = f s.power := rfl
@[simp] theorem State.modPower_rd (f : Power → Power) (i : Nat) : (s.modPower f).rd i = s.rd i := rfl
@[simp] theorem State.modPower_get (f : Power → Power) (h : Fld) : (s.modPower f).get h = s.get h := rfl
@[simp] theorem State.modPower_on (f : Power → Power) (h : Fld) : (s.modPower f).on h = s.on h := rfl
@[simp] theorem State.modPower_bitAt (f : Power → Power) (i j : Nat) : (s.modPower f).bitAt i j = s.bitAt i j := rfl
@[simp] theorem State.modPower_stagedAt (f : Power → Power) (i : Nat) : (s.modPower f).stagedAt i = s.stagedAt i := rfl
@[simp] theorem State.modPower_isBad (f : Power → Power) (i : Nat) : (s.modPower f).isBad i = s.isBad i := rfl
@[simp] theorem State.modPower_reply (f : Power → Power) (o : Master) : (s.modPower f).reply o = s.reply o := rfl
@[simp] theorem State.modPower_guardAt (f : Power → Power) (i : Nat) : (s.modPower f).guardAt i = s.guardAt i := rfl
@[simp] theorem State.modPower_mo (f : Power → Power) (i : Nat) : (s.modPower f).mo i = s.mo i := rfl
@[simp] theorem State.modPower_se (f : Power → Power) (i : Nat) : (s.modPower f).se i = s.se i := rfl
@[simp] theorem State.modPower_leg (f : Power → Power) (i : Nat) : (s.modPower f).leg i = s.leg i := rfl
@[simp] theorem State.modPower_coil (f : Power → Power) (i j : Nat) : (s.modPower f).coil i j = s.coil i j := rfl
@[simp] theorem State.modPower_coach (f : Power → Power) (i : Nat) : (s.modPower f).coach i = s.coach i := rfl
@[simp] theorem State.modPower_enc (f : Power → Power) (i : Nat) : (s.modPower f).enc i = s.enc i := rfl
@[simp] theorem State.modPower_sd (f : Power → Power) (i : Nat) : (s.modPower f).sd i = s.sd i := rfl
@[simp] theorem State.modAfe_regs (f : Afe → Afe) : (s.modAfe f).regs = s.regs := rfl
@[simp] theorem State.modAfe_snap (f : Afe → Afe) : (s.modAfe f).snap = s.snap := rfl
@[simp] theorem State.modAfe_staged (f : Afe → Afe) : (s.modAfe f).staged = s.staged := rfl
@[simp] theorem State.modAfe_bad (f : Afe → Afe) : (s.modAfe f).bad = s.bad := rfl
@[simp] theorem State.modAfe_replies (f : Afe → Afe) : (s.modAfe f).replies = s.replies := rfl
@[simp] theorem State.modAfe_guards (f : Afe → Afe) : (s.modAfe f).guards = s.guards := rfl
@[simp] theorem State.modAfe_hostPair (f : Afe → Afe) : (s.modAfe f).hostPair = s.hostPair := rfl
@[simp] theorem State.modAfe_trioPair (f : Afe → Afe) : (s.modAfe f).trioPair = s.trioPair := rfl
@[simp] theorem State.modAfe_mgsPair (f : Afe → Afe) : (s.modAfe f).mgsPair = s.mgsPair := rfl
@[simp] theorem State.modAfe_canPair (f : Afe → Afe) : (s.modAfe f).canPair = s.canPair := rfl
@[simp] theorem State.modAfe_ticks (f : Afe → Afe) : (s.modAfe f).ticks = s.ticks := rfl
@[simp] theorem State.modAfe_free (f : Afe → Afe) : (s.modAfe f).free = s.free := rfl
@[simp] theorem State.modAfe_trioQ (f : Afe → Afe) : (s.modAfe f).trioQ = s.trioQ := rfl
@[simp] theorem State.modAfe_emcyQ (f : Afe → Afe) : (s.modAfe f).emcyQ = s.emcyQ := rfl
@[simp] theorem State.modAfe_logQ (f : Afe → Afe) : (s.modAfe f).logQ = s.logQ := rfl
@[simp] theorem State.modAfe_logWin (f : Afe → Afe) : (s.modAfe f).logWin = s.logWin := rfl
@[simp] theorem State.modAfe_legs (f : Afe → Afe) : (s.modAfe f).legs = s.legs := rfl
@[simp] theorem State.modAfe_coils (f : Afe → Afe) : (s.modAfe f).coils = s.coils := rfl
@[simp] theorem State.modAfe_coaches (f : Afe → Afe) : (s.modAfe f).coaches = s.coaches := rfl
@[simp] theorem State.modAfe_trips (f : Afe → Afe) : (s.modAfe f).trips = s.trips := rfl
@[simp] theorem State.modAfe_runs (f : Afe → Afe) : (s.modAfe f).runs = s.runs := rfl
@[simp] theorem State.modAfe_axes (f : Afe → Afe) : (s.modAfe f).axes = s.axes := rfl
@[simp] theorem State.modAfe_pl (f : Afe → Afe) : (s.modAfe f).pl = s.pl := rfl
@[simp] theorem State.modAfe_power (f : Afe → Afe) : (s.modAfe f).power = s.power := rfl
@[simp] theorem State.modAfe_syncOut (f : Afe → Afe) : (s.modAfe f).syncOut = s.syncOut := rfl
@[simp] theorem State.modAfe_encs (f : Afe → Afe) : (s.modAfe f).encs = s.encs := rfl
@[simp] theorem State.modAfe_stepLast (f : Afe → Afe) : (s.modAfe f).stepLast = s.stepLast := rfl
@[simp] theorem State.modAfe_stepDir (f : Afe → Afe) : (s.modAfe f).stepDir = s.stepDir := rfl
@[simp] theorem State.modAfe_recipes (f : Afe → Afe) : (s.modAfe f).recipes = s.recipes := rfl
@[simp] theorem State.modAfe_rbcnt (f : Afe → Afe) : (s.modAfe f).rbcnt = s.rbcnt := rfl
@[simp] theorem State.modAfe_sds (f : Afe → Afe) : (s.modAfe f).sds = s.sds := rfl
@[simp] theorem State.modAfe_trio (f : Afe → Afe) : (s.modAfe f).trio = s.trio := rfl
@[simp] theorem State.modAfe_mgs (f : Afe → Afe) : (s.modAfe f).mgs = s.mgs := rfl
@[simp] theorem State.modAfe_net (f : Afe → Afe) : (s.modAfe f).net = s.net := rfl
@[simp] theorem State.modAfe_sph (f : Afe → Afe) : (s.modAfe f).sph = s.sph := rfl
@[simp] theorem State.modAfe_spm (f : Afe → Afe) : (s.modAfe f).spm = s.spm := rfl
@[simp] theorem State.modAfe_nvm (f : Afe → Afe) : (s.modAfe f).nvm = s.nvm := rfl
@[simp] theorem State.modAfe_pending (f : Afe → Afe) : (s.modAfe f).pending = s.pending := rfl
@[simp] theorem State.modAfe_afe (f : Afe → Afe) : (s.modAfe f).afe = f s.afe := rfl
@[simp] theorem State.modAfe_rd (f : Afe → Afe) (i : Nat) : (s.modAfe f).rd i = s.rd i := rfl
@[simp] theorem State.modAfe_get (f : Afe → Afe) (h : Fld) : (s.modAfe f).get h = s.get h := rfl
@[simp] theorem State.modAfe_on (f : Afe → Afe) (h : Fld) : (s.modAfe f).on h = s.on h := rfl
@[simp] theorem State.modAfe_bitAt (f : Afe → Afe) (i j : Nat) : (s.modAfe f).bitAt i j = s.bitAt i j := rfl
@[simp] theorem State.modAfe_stagedAt (f : Afe → Afe) (i : Nat) : (s.modAfe f).stagedAt i = s.stagedAt i := rfl
@[simp] theorem State.modAfe_isBad (f : Afe → Afe) (i : Nat) : (s.modAfe f).isBad i = s.isBad i := rfl
@[simp] theorem State.modAfe_reply (f : Afe → Afe) (o : Master) : (s.modAfe f).reply o = s.reply o := rfl
@[simp] theorem State.modAfe_guardAt (f : Afe → Afe) (i : Nat) : (s.modAfe f).guardAt i = s.guardAt i := rfl
@[simp] theorem State.modAfe_mo (f : Afe → Afe) (i : Nat) : (s.modAfe f).mo i = s.mo i := rfl
@[simp] theorem State.modAfe_se (f : Afe → Afe) (i : Nat) : (s.modAfe f).se i = s.se i := rfl
@[simp] theorem State.modAfe_leg (f : Afe → Afe) (i : Nat) : (s.modAfe f).leg i = s.leg i := rfl
@[simp] theorem State.modAfe_coil (f : Afe → Afe) (i j : Nat) : (s.modAfe f).coil i j = s.coil i j := rfl
@[simp] theorem State.modAfe_coach (f : Afe → Afe) (i : Nat) : (s.modAfe f).coach i = s.coach i := rfl
@[simp] theorem State.modAfe_enc (f : Afe → Afe) (i : Nat) : (s.modAfe f).enc i = s.enc i := rfl
@[simp] theorem State.modAfe_sd (f : Afe → Afe) (i : Nat) : (s.modAfe f).sd i = s.sd i := rfl
@[simp] theorem State.modTrio_regs (f : Trio → Trio) : (s.modTrio f).regs = s.regs := rfl
@[simp] theorem State.modTrio_snap (f : Trio → Trio) : (s.modTrio f).snap = s.snap := rfl
@[simp] theorem State.modTrio_staged (f : Trio → Trio) : (s.modTrio f).staged = s.staged := rfl
@[simp] theorem State.modTrio_bad (f : Trio → Trio) : (s.modTrio f).bad = s.bad := rfl
@[simp] theorem State.modTrio_replies (f : Trio → Trio) : (s.modTrio f).replies = s.replies := rfl
@[simp] theorem State.modTrio_guards (f : Trio → Trio) : (s.modTrio f).guards = s.guards := rfl
@[simp] theorem State.modTrio_hostPair (f : Trio → Trio) : (s.modTrio f).hostPair = s.hostPair := rfl
@[simp] theorem State.modTrio_trioPair (f : Trio → Trio) : (s.modTrio f).trioPair = s.trioPair := rfl
@[simp] theorem State.modTrio_mgsPair (f : Trio → Trio) : (s.modTrio f).mgsPair = s.mgsPair := rfl
@[simp] theorem State.modTrio_canPair (f : Trio → Trio) : (s.modTrio f).canPair = s.canPair := rfl
@[simp] theorem State.modTrio_ticks (f : Trio → Trio) : (s.modTrio f).ticks = s.ticks := rfl
@[simp] theorem State.modTrio_free (f : Trio → Trio) : (s.modTrio f).free = s.free := rfl
@[simp] theorem State.modTrio_trioQ (f : Trio → Trio) : (s.modTrio f).trioQ = s.trioQ := rfl
@[simp] theorem State.modTrio_emcyQ (f : Trio → Trio) : (s.modTrio f).emcyQ = s.emcyQ := rfl
@[simp] theorem State.modTrio_logQ (f : Trio → Trio) : (s.modTrio f).logQ = s.logQ := rfl
@[simp] theorem State.modTrio_logWin (f : Trio → Trio) : (s.modTrio f).logWin = s.logWin := rfl
@[simp] theorem State.modTrio_legs (f : Trio → Trio) : (s.modTrio f).legs = s.legs := rfl
@[simp] theorem State.modTrio_coils (f : Trio → Trio) : (s.modTrio f).coils = s.coils := rfl
@[simp] theorem State.modTrio_coaches (f : Trio → Trio) : (s.modTrio f).coaches = s.coaches := rfl
@[simp] theorem State.modTrio_trips (f : Trio → Trio) : (s.modTrio f).trips = s.trips := rfl
@[simp] theorem State.modTrio_runs (f : Trio → Trio) : (s.modTrio f).runs = s.runs := rfl
@[simp] theorem State.modTrio_axes (f : Trio → Trio) : (s.modTrio f).axes = s.axes := rfl
@[simp] theorem State.modTrio_pl (f : Trio → Trio) : (s.modTrio f).pl = s.pl := rfl
@[simp] theorem State.modTrio_power (f : Trio → Trio) : (s.modTrio f).power = s.power := rfl
@[simp] theorem State.modTrio_syncOut (f : Trio → Trio) : (s.modTrio f).syncOut = s.syncOut := rfl
@[simp] theorem State.modTrio_encs (f : Trio → Trio) : (s.modTrio f).encs = s.encs := rfl
@[simp] theorem State.modTrio_stepLast (f : Trio → Trio) : (s.modTrio f).stepLast = s.stepLast := rfl
@[simp] theorem State.modTrio_stepDir (f : Trio → Trio) : (s.modTrio f).stepDir = s.stepDir := rfl
@[simp] theorem State.modTrio_recipes (f : Trio → Trio) : (s.modTrio f).recipes = s.recipes := rfl
@[simp] theorem State.modTrio_rbcnt (f : Trio → Trio) : (s.modTrio f).rbcnt = s.rbcnt := rfl
@[simp] theorem State.modTrio_sds (f : Trio → Trio) : (s.modTrio f).sds = s.sds := rfl
@[simp] theorem State.modTrio_afe (f : Trio → Trio) : (s.modTrio f).afe = s.afe := rfl
@[simp] theorem State.modTrio_mgs (f : Trio → Trio) : (s.modTrio f).mgs = s.mgs := rfl
@[simp] theorem State.modTrio_net (f : Trio → Trio) : (s.modTrio f).net = s.net := rfl
@[simp] theorem State.modTrio_sph (f : Trio → Trio) : (s.modTrio f).sph = s.sph := rfl
@[simp] theorem State.modTrio_spm (f : Trio → Trio) : (s.modTrio f).spm = s.spm := rfl
@[simp] theorem State.modTrio_nvm (f : Trio → Trio) : (s.modTrio f).nvm = s.nvm := rfl
@[simp] theorem State.modTrio_pending (f : Trio → Trio) : (s.modTrio f).pending = s.pending := rfl
@[simp] theorem State.modTrio_trio (f : Trio → Trio) : (s.modTrio f).trio = f s.trio := rfl
@[simp] theorem State.modTrio_rd (f : Trio → Trio) (i : Nat) : (s.modTrio f).rd i = s.rd i := rfl
@[simp] theorem State.modTrio_get (f : Trio → Trio) (h : Fld) : (s.modTrio f).get h = s.get h := rfl
@[simp] theorem State.modTrio_on (f : Trio → Trio) (h : Fld) : (s.modTrio f).on h = s.on h := rfl
@[simp] theorem State.modTrio_bitAt (f : Trio → Trio) (i j : Nat) : (s.modTrio f).bitAt i j = s.bitAt i j := rfl
@[simp] theorem State.modTrio_stagedAt (f : Trio → Trio) (i : Nat) : (s.modTrio f).stagedAt i = s.stagedAt i := rfl
@[simp] theorem State.modTrio_isBad (f : Trio → Trio) (i : Nat) : (s.modTrio f).isBad i = s.isBad i := rfl
@[simp] theorem State.modTrio_reply (f : Trio → Trio) (o : Master) : (s.modTrio f).reply o = s.reply o := rfl
@[simp] theorem State.modTrio_guardAt (f : Trio → Trio) (i : Nat) : (s.modTrio f).guardAt i = s.guardAt i := rfl
@[simp] theorem State.modTrio_mo (f : Trio → Trio) (i : Nat) : (s.modTrio f).mo i = s.mo i := rfl
@[simp] theorem State.modTrio_se (f : Trio → Trio) (i : Nat) : (s.modTrio f).se i = s.se i := rfl
@[simp] theorem State.modTrio_leg (f : Trio → Trio) (i : Nat) : (s.modTrio f).leg i = s.leg i := rfl
@[simp] theorem State.modTrio_coil (f : Trio → Trio) (i j : Nat) : (s.modTrio f).coil i j = s.coil i j := rfl
@[simp] theorem State.modTrio_coach (f : Trio → Trio) (i : Nat) : (s.modTrio f).coach i = s.coach i := rfl
@[simp] theorem State.modTrio_enc (f : Trio → Trio) (i : Nat) : (s.modTrio f).enc i = s.enc i := rfl
@[simp] theorem State.modTrio_sd (f : Trio → Trio) (i : Nat) : (s.modTrio f).sd i = s.sd i := rfl
@[simp] theorem State.modMgs_regs (f : Mgs → Mgs) : (s.modMgs f).regs = s.regs := rfl
@[simp] theorem State.modMgs_snap (f : Mgs → Mgs) : (s.modMgs f).snap = s.snap := rfl
@[simp] theorem State.modMgs_staged (f : Mgs → Mgs) : (s.modMgs f).staged = s.staged := rfl
@[simp] theorem State.modMgs_bad (f : Mgs → Mgs) : (s.modMgs f).bad = s.bad := rfl
@[simp] theorem State.modMgs_replies (f : Mgs → Mgs) : (s.modMgs f).replies = s.replies := rfl
@[simp] theorem State.modMgs_guards (f : Mgs → Mgs) : (s.modMgs f).guards = s.guards := rfl
@[simp] theorem State.modMgs_hostPair (f : Mgs → Mgs) : (s.modMgs f).hostPair = s.hostPair := rfl
@[simp] theorem State.modMgs_trioPair (f : Mgs → Mgs) : (s.modMgs f).trioPair = s.trioPair := rfl
@[simp] theorem State.modMgs_mgsPair (f : Mgs → Mgs) : (s.modMgs f).mgsPair = s.mgsPair := rfl
@[simp] theorem State.modMgs_canPair (f : Mgs → Mgs) : (s.modMgs f).canPair = s.canPair := rfl
@[simp] theorem State.modMgs_ticks (f : Mgs → Mgs) : (s.modMgs f).ticks = s.ticks := rfl
@[simp] theorem State.modMgs_free (f : Mgs → Mgs) : (s.modMgs f).free = s.free := rfl
@[simp] theorem State.modMgs_trioQ (f : Mgs → Mgs) : (s.modMgs f).trioQ = s.trioQ := rfl
@[simp] theorem State.modMgs_emcyQ (f : Mgs → Mgs) : (s.modMgs f).emcyQ = s.emcyQ := rfl
@[simp] theorem State.modMgs_logQ (f : Mgs → Mgs) : (s.modMgs f).logQ = s.logQ := rfl
@[simp] theorem State.modMgs_logWin (f : Mgs → Mgs) : (s.modMgs f).logWin = s.logWin := rfl
@[simp] theorem State.modMgs_legs (f : Mgs → Mgs) : (s.modMgs f).legs = s.legs := rfl
@[simp] theorem State.modMgs_coils (f : Mgs → Mgs) : (s.modMgs f).coils = s.coils := rfl
@[simp] theorem State.modMgs_coaches (f : Mgs → Mgs) : (s.modMgs f).coaches = s.coaches := rfl
@[simp] theorem State.modMgs_trips (f : Mgs → Mgs) : (s.modMgs f).trips = s.trips := rfl
@[simp] theorem State.modMgs_runs (f : Mgs → Mgs) : (s.modMgs f).runs = s.runs := rfl
@[simp] theorem State.modMgs_axes (f : Mgs → Mgs) : (s.modMgs f).axes = s.axes := rfl
@[simp] theorem State.modMgs_pl (f : Mgs → Mgs) : (s.modMgs f).pl = s.pl := rfl
@[simp] theorem State.modMgs_power (f : Mgs → Mgs) : (s.modMgs f).power = s.power := rfl
@[simp] theorem State.modMgs_syncOut (f : Mgs → Mgs) : (s.modMgs f).syncOut = s.syncOut := rfl
@[simp] theorem State.modMgs_encs (f : Mgs → Mgs) : (s.modMgs f).encs = s.encs := rfl
@[simp] theorem State.modMgs_stepLast (f : Mgs → Mgs) : (s.modMgs f).stepLast = s.stepLast := rfl
@[simp] theorem State.modMgs_stepDir (f : Mgs → Mgs) : (s.modMgs f).stepDir = s.stepDir := rfl
@[simp] theorem State.modMgs_recipes (f : Mgs → Mgs) : (s.modMgs f).recipes = s.recipes := rfl
@[simp] theorem State.modMgs_rbcnt (f : Mgs → Mgs) : (s.modMgs f).rbcnt = s.rbcnt := rfl
@[simp] theorem State.modMgs_sds (f : Mgs → Mgs) : (s.modMgs f).sds = s.sds := rfl
@[simp] theorem State.modMgs_afe (f : Mgs → Mgs) : (s.modMgs f).afe = s.afe := rfl
@[simp] theorem State.modMgs_trio (f : Mgs → Mgs) : (s.modMgs f).trio = s.trio := rfl
@[simp] theorem State.modMgs_net (f : Mgs → Mgs) : (s.modMgs f).net = s.net := rfl
@[simp] theorem State.modMgs_sph (f : Mgs → Mgs) : (s.modMgs f).sph = s.sph := rfl
@[simp] theorem State.modMgs_spm (f : Mgs → Mgs) : (s.modMgs f).spm = s.spm := rfl
@[simp] theorem State.modMgs_nvm (f : Mgs → Mgs) : (s.modMgs f).nvm = s.nvm := rfl
@[simp] theorem State.modMgs_pending (f : Mgs → Mgs) : (s.modMgs f).pending = s.pending := rfl
@[simp] theorem State.modMgs_mgs (f : Mgs → Mgs) : (s.modMgs f).mgs = f s.mgs := rfl
@[simp] theorem State.modMgs_rd (f : Mgs → Mgs) (i : Nat) : (s.modMgs f).rd i = s.rd i := rfl
@[simp] theorem State.modMgs_get (f : Mgs → Mgs) (h : Fld) : (s.modMgs f).get h = s.get h := rfl
@[simp] theorem State.modMgs_on (f : Mgs → Mgs) (h : Fld) : (s.modMgs f).on h = s.on h := rfl
@[simp] theorem State.modMgs_bitAt (f : Mgs → Mgs) (i j : Nat) : (s.modMgs f).bitAt i j = s.bitAt i j := rfl
@[simp] theorem State.modMgs_stagedAt (f : Mgs → Mgs) (i : Nat) : (s.modMgs f).stagedAt i = s.stagedAt i := rfl
@[simp] theorem State.modMgs_isBad (f : Mgs → Mgs) (i : Nat) : (s.modMgs f).isBad i = s.isBad i := rfl
@[simp] theorem State.modMgs_reply (f : Mgs → Mgs) (o : Master) : (s.modMgs f).reply o = s.reply o := rfl
@[simp] theorem State.modMgs_guardAt (f : Mgs → Mgs) (i : Nat) : (s.modMgs f).guardAt i = s.guardAt i := rfl
@[simp] theorem State.modMgs_mo (f : Mgs → Mgs) (i : Nat) : (s.modMgs f).mo i = s.mo i := rfl
@[simp] theorem State.modMgs_se (f : Mgs → Mgs) (i : Nat) : (s.modMgs f).se i = s.se i := rfl
@[simp] theorem State.modMgs_leg (f : Mgs → Mgs) (i : Nat) : (s.modMgs f).leg i = s.leg i := rfl
@[simp] theorem State.modMgs_coil (f : Mgs → Mgs) (i j : Nat) : (s.modMgs f).coil i j = s.coil i j := rfl
@[simp] theorem State.modMgs_coach (f : Mgs → Mgs) (i : Nat) : (s.modMgs f).coach i = s.coach i := rfl
@[simp] theorem State.modMgs_enc (f : Mgs → Mgs) (i : Nat) : (s.modMgs f).enc i = s.enc i := rfl
@[simp] theorem State.modMgs_sd (f : Mgs → Mgs) (i : Nat) : (s.modMgs f).sd i = s.sd i := rfl
@[simp] theorem State.modNet_regs (f : Net → Net) : (s.modNet f).regs = s.regs := rfl
@[simp] theorem State.modNet_snap (f : Net → Net) : (s.modNet f).snap = s.snap := rfl
@[simp] theorem State.modNet_staged (f : Net → Net) : (s.modNet f).staged = s.staged := rfl
@[simp] theorem State.modNet_bad (f : Net → Net) : (s.modNet f).bad = s.bad := rfl
@[simp] theorem State.modNet_replies (f : Net → Net) : (s.modNet f).replies = s.replies := rfl
@[simp] theorem State.modNet_guards (f : Net → Net) : (s.modNet f).guards = s.guards := rfl
@[simp] theorem State.modNet_hostPair (f : Net → Net) : (s.modNet f).hostPair = s.hostPair := rfl
@[simp] theorem State.modNet_trioPair (f : Net → Net) : (s.modNet f).trioPair = s.trioPair := rfl
@[simp] theorem State.modNet_mgsPair (f : Net → Net) : (s.modNet f).mgsPair = s.mgsPair := rfl
@[simp] theorem State.modNet_canPair (f : Net → Net) : (s.modNet f).canPair = s.canPair := rfl
@[simp] theorem State.modNet_ticks (f : Net → Net) : (s.modNet f).ticks = s.ticks := rfl
@[simp] theorem State.modNet_free (f : Net → Net) : (s.modNet f).free = s.free := rfl
@[simp] theorem State.modNet_trioQ (f : Net → Net) : (s.modNet f).trioQ = s.trioQ := rfl
@[simp] theorem State.modNet_emcyQ (f : Net → Net) : (s.modNet f).emcyQ = s.emcyQ := rfl
@[simp] theorem State.modNet_logQ (f : Net → Net) : (s.modNet f).logQ = s.logQ := rfl
@[simp] theorem State.modNet_logWin (f : Net → Net) : (s.modNet f).logWin = s.logWin := rfl
@[simp] theorem State.modNet_legs (f : Net → Net) : (s.modNet f).legs = s.legs := rfl
@[simp] theorem State.modNet_coils (f : Net → Net) : (s.modNet f).coils = s.coils := rfl
@[simp] theorem State.modNet_coaches (f : Net → Net) : (s.modNet f).coaches = s.coaches := rfl
@[simp] theorem State.modNet_trips (f : Net → Net) : (s.modNet f).trips = s.trips := rfl
@[simp] theorem State.modNet_runs (f : Net → Net) : (s.modNet f).runs = s.runs := rfl
@[simp] theorem State.modNet_axes (f : Net → Net) : (s.modNet f).axes = s.axes := rfl
@[simp] theorem State.modNet_pl (f : Net → Net) : (s.modNet f).pl = s.pl := rfl
@[simp] theorem State.modNet_power (f : Net → Net) : (s.modNet f).power = s.power := rfl
@[simp] theorem State.modNet_syncOut (f : Net → Net) : (s.modNet f).syncOut = s.syncOut := rfl
@[simp] theorem State.modNet_encs (f : Net → Net) : (s.modNet f).encs = s.encs := rfl
@[simp] theorem State.modNet_stepLast (f : Net → Net) : (s.modNet f).stepLast = s.stepLast := rfl
@[simp] theorem State.modNet_stepDir (f : Net → Net) : (s.modNet f).stepDir = s.stepDir := rfl
@[simp] theorem State.modNet_recipes (f : Net → Net) : (s.modNet f).recipes = s.recipes := rfl
@[simp] theorem State.modNet_rbcnt (f : Net → Net) : (s.modNet f).rbcnt = s.rbcnt := rfl
@[simp] theorem State.modNet_sds (f : Net → Net) : (s.modNet f).sds = s.sds := rfl
@[simp] theorem State.modNet_afe (f : Net → Net) : (s.modNet f).afe = s.afe := rfl
@[simp] theorem State.modNet_trio (f : Net → Net) : (s.modNet f).trio = s.trio := rfl
@[simp] theorem State.modNet_mgs (f : Net → Net) : (s.modNet f).mgs = s.mgs := rfl
@[simp] theorem State.modNet_sph (f : Net → Net) : (s.modNet f).sph = s.sph := rfl
@[simp] theorem State.modNet_spm (f : Net → Net) : (s.modNet f).spm = s.spm := rfl
@[simp] theorem State.modNet_nvm (f : Net → Net) : (s.modNet f).nvm = s.nvm := rfl
@[simp] theorem State.modNet_pending (f : Net → Net) : (s.modNet f).pending = s.pending := rfl
@[simp] theorem State.modNet_net (f : Net → Net) : (s.modNet f).net = f s.net := rfl
@[simp] theorem State.modNet_rd (f : Net → Net) (i : Nat) : (s.modNet f).rd i = s.rd i := rfl
@[simp] theorem State.modNet_get (f : Net → Net) (h : Fld) : (s.modNet f).get h = s.get h := rfl
@[simp] theorem State.modNet_on (f : Net → Net) (h : Fld) : (s.modNet f).on h = s.on h := rfl
@[simp] theorem State.modNet_bitAt (f : Net → Net) (i j : Nat) : (s.modNet f).bitAt i j = s.bitAt i j := rfl
@[simp] theorem State.modNet_stagedAt (f : Net → Net) (i : Nat) : (s.modNet f).stagedAt i = s.stagedAt i := rfl
@[simp] theorem State.modNet_isBad (f : Net → Net) (i : Nat) : (s.modNet f).isBad i = s.isBad i := rfl
@[simp] theorem State.modNet_reply (f : Net → Net) (o : Master) : (s.modNet f).reply o = s.reply o := rfl
@[simp] theorem State.modNet_guardAt (f : Net → Net) (i : Nat) : (s.modNet f).guardAt i = s.guardAt i := rfl
@[simp] theorem State.modNet_mo (f : Net → Net) (i : Nat) : (s.modNet f).mo i = s.mo i := rfl
@[simp] theorem State.modNet_se (f : Net → Net) (i : Nat) : (s.modNet f).se i = s.se i := rfl
@[simp] theorem State.modNet_leg (f : Net → Net) (i : Nat) : (s.modNet f).leg i = s.leg i := rfl
@[simp] theorem State.modNet_coil (f : Net → Net) (i j : Nat) : (s.modNet f).coil i j = s.coil i j := rfl
@[simp] theorem State.modNet_coach (f : Net → Net) (i : Nat) : (s.modNet f).coach i = s.coach i := rfl
@[simp] theorem State.modNet_enc (f : Net → Net) (i : Nat) : (s.modNet f).enc i = s.enc i := rfl
@[simp] theorem State.modNet_sd (f : Net → Net) (i : Nat) : (s.modNet f).sd i = s.sd i := rfl
@[simp] theorem State.modSph_regs (f : HostPort → HostPort) : (s.modSph f).regs = s.regs := rfl
@[simp] theorem State.modSph_snap (f : HostPort → HostPort) : (s.modSph f).snap = s.snap := rfl
@[simp] theorem State.modSph_staged (f : HostPort → HostPort) : (s.modSph f).staged = s.staged := rfl
@[simp] theorem State.modSph_bad (f : HostPort → HostPort) : (s.modSph f).bad = s.bad := rfl
@[simp] theorem State.modSph_replies (f : HostPort → HostPort) : (s.modSph f).replies = s.replies := rfl
@[simp] theorem State.modSph_guards (f : HostPort → HostPort) : (s.modSph f).guards = s.guards := rfl
@[simp] theorem State.modSph_hostPair (f : HostPort → HostPort) : (s.modSph f).hostPair = s.hostPair := rfl
@[simp] theorem State.modSph_trioPair (f : HostPort → HostPort) : (s.modSph f).trioPair = s.trioPair := rfl
@[simp] theorem State.modSph_mgsPair (f : HostPort → HostPort) : (s.modSph f).mgsPair = s.mgsPair := rfl
@[simp] theorem State.modSph_canPair (f : HostPort → HostPort) : (s.modSph f).canPair = s.canPair := rfl
@[simp] theorem State.modSph_ticks (f : HostPort → HostPort) : (s.modSph f).ticks = s.ticks := rfl
@[simp] theorem State.modSph_free (f : HostPort → HostPort) : (s.modSph f).free = s.free := rfl
@[simp] theorem State.modSph_trioQ (f : HostPort → HostPort) : (s.modSph f).trioQ = s.trioQ := rfl
@[simp] theorem State.modSph_emcyQ (f : HostPort → HostPort) : (s.modSph f).emcyQ = s.emcyQ := rfl
@[simp] theorem State.modSph_logQ (f : HostPort → HostPort) : (s.modSph f).logQ = s.logQ := rfl
@[simp] theorem State.modSph_logWin (f : HostPort → HostPort) : (s.modSph f).logWin = s.logWin := rfl
@[simp] theorem State.modSph_legs (f : HostPort → HostPort) : (s.modSph f).legs = s.legs := rfl
@[simp] theorem State.modSph_coils (f : HostPort → HostPort) : (s.modSph f).coils = s.coils := rfl
@[simp] theorem State.modSph_coaches (f : HostPort → HostPort) : (s.modSph f).coaches = s.coaches := rfl
@[simp] theorem State.modSph_trips (f : HostPort → HostPort) : (s.modSph f).trips = s.trips := rfl
@[simp] theorem State.modSph_runs (f : HostPort → HostPort) : (s.modSph f).runs = s.runs := rfl
@[simp] theorem State.modSph_axes (f : HostPort → HostPort) : (s.modSph f).axes = s.axes := rfl
@[simp] theorem State.modSph_pl (f : HostPort → HostPort) : (s.modSph f).pl = s.pl := rfl
@[simp] theorem State.modSph_power (f : HostPort → HostPort) : (s.modSph f).power = s.power := rfl
@[simp] theorem State.modSph_syncOut (f : HostPort → HostPort) : (s.modSph f).syncOut = s.syncOut := rfl
@[simp] theorem State.modSph_encs (f : HostPort → HostPort) : (s.modSph f).encs = s.encs := rfl
@[simp] theorem State.modSph_stepLast (f : HostPort → HostPort) : (s.modSph f).stepLast = s.stepLast := rfl
@[simp] theorem State.modSph_stepDir (f : HostPort → HostPort) : (s.modSph f).stepDir = s.stepDir := rfl
@[simp] theorem State.modSph_recipes (f : HostPort → HostPort) : (s.modSph f).recipes = s.recipes := rfl
@[simp] theorem State.modSph_rbcnt (f : HostPort → HostPort) : (s.modSph f).rbcnt = s.rbcnt := rfl
@[simp] theorem State.modSph_sds (f : HostPort → HostPort) : (s.modSph f).sds = s.sds := rfl
@[simp] theorem State.modSph_afe (f : HostPort → HostPort) : (s.modSph f).afe = s.afe := rfl
@[simp] theorem State.modSph_trio (f : HostPort → HostPort) : (s.modSph f).trio = s.trio := rfl
@[simp] theorem State.modSph_mgs (f : HostPort → HostPort) : (s.modSph f).mgs = s.mgs := rfl
@[simp] theorem State.modSph_net (f : HostPort → HostPort) : (s.modSph f).net = s.net := rfl
@[simp] theorem State.modSph_spm (f : HostPort → HostPort) : (s.modSph f).spm = s.spm := rfl
@[simp] theorem State.modSph_nvm (f : HostPort → HostPort) : (s.modSph f).nvm = s.nvm := rfl
@[simp] theorem State.modSph_pending (f : HostPort → HostPort) : (s.modSph f).pending = s.pending := rfl
@[simp] theorem State.modSph_sph (f : HostPort → HostPort) : (s.modSph f).sph = f s.sph := rfl
@[simp] theorem State.modSph_rd (f : HostPort → HostPort) (i : Nat) : (s.modSph f).rd i = s.rd i := rfl
@[simp] theorem State.modSph_get (f : HostPort → HostPort) (h : Fld) : (s.modSph f).get h = s.get h := rfl
@[simp] theorem State.modSph_on (f : HostPort → HostPort) (h : Fld) : (s.modSph f).on h = s.on h := rfl
@[simp] theorem State.modSph_bitAt (f : HostPort → HostPort) (i j : Nat) : (s.modSph f).bitAt i j = s.bitAt i j := rfl
@[simp] theorem State.modSph_stagedAt (f : HostPort → HostPort) (i : Nat) : (s.modSph f).stagedAt i = s.stagedAt i := rfl
@[simp] theorem State.modSph_isBad (f : HostPort → HostPort) (i : Nat) : (s.modSph f).isBad i = s.isBad i := rfl
@[simp] theorem State.modSph_reply (f : HostPort → HostPort) (o : Master) : (s.modSph f).reply o = s.reply o := rfl
@[simp] theorem State.modSph_guardAt (f : HostPort → HostPort) (i : Nat) : (s.modSph f).guardAt i = s.guardAt i := rfl
@[simp] theorem State.modSph_mo (f : HostPort → HostPort) (i : Nat) : (s.modSph f).mo i = s.mo i := rfl
@[simp] theorem State.modSph_se (f : HostPort → HostPort) (i : Nat) : (s.modSph f).se i = s.se i := rfl
@[simp] theorem State.modSph_leg (f : HostPort → HostPort) (i : Nat) : (s.modSph f).leg i = s.leg i := rfl
@[simp] theorem State.modSph_coil (f : HostPort → HostPort) (i j : Nat) : (s.modSph f).coil i j = s.coil i j := rfl
@[simp] theorem State.modSph_coach (f : HostPort → HostPort) (i : Nat) : (s.modSph f).coach i = s.coach i := rfl
@[simp] theorem State.modSph_enc (f : HostPort → HostPort) (i : Nat) : (s.modSph f).enc i = s.enc i := rfl
@[simp] theorem State.modSph_sd (f : HostPort → HostPort) (i : Nat) : (s.modSph f).sd i = s.sd i := rfl
@[simp] theorem State.modSpm_regs (f : Spm → Spm) : (s.modSpm f).regs = s.regs := rfl
@[simp] theorem State.modSpm_snap (f : Spm → Spm) : (s.modSpm f).snap = s.snap := rfl
@[simp] theorem State.modSpm_staged (f : Spm → Spm) : (s.modSpm f).staged = s.staged := rfl
@[simp] theorem State.modSpm_bad (f : Spm → Spm) : (s.modSpm f).bad = s.bad := rfl
@[simp] theorem State.modSpm_replies (f : Spm → Spm) : (s.modSpm f).replies = s.replies := rfl
@[simp] theorem State.modSpm_guards (f : Spm → Spm) : (s.modSpm f).guards = s.guards := rfl
@[simp] theorem State.modSpm_hostPair (f : Spm → Spm) : (s.modSpm f).hostPair = s.hostPair := rfl
@[simp] theorem State.modSpm_trioPair (f : Spm → Spm) : (s.modSpm f).trioPair = s.trioPair := rfl
@[simp] theorem State.modSpm_mgsPair (f : Spm → Spm) : (s.modSpm f).mgsPair = s.mgsPair := rfl
@[simp] theorem State.modSpm_canPair (f : Spm → Spm) : (s.modSpm f).canPair = s.canPair := rfl
@[simp] theorem State.modSpm_ticks (f : Spm → Spm) : (s.modSpm f).ticks = s.ticks := rfl
@[simp] theorem State.modSpm_free (f : Spm → Spm) : (s.modSpm f).free = s.free := rfl
@[simp] theorem State.modSpm_trioQ (f : Spm → Spm) : (s.modSpm f).trioQ = s.trioQ := rfl
@[simp] theorem State.modSpm_emcyQ (f : Spm → Spm) : (s.modSpm f).emcyQ = s.emcyQ := rfl
@[simp] theorem State.modSpm_logQ (f : Spm → Spm) : (s.modSpm f).logQ = s.logQ := rfl
@[simp] theorem State.modSpm_logWin (f : Spm → Spm) : (s.modSpm f).logWin = s.logWin := rfl
@[simp] theorem State.modSpm_legs (f : Spm → Spm) : (s.modSpm f).legs = s.legs := rfl
@[simp] theorem State.modSpm_coils (f : Spm → Spm) : (s.modSpm f).coils = s.coils := rfl
@[simp] theorem State.modSpm_coaches (f : Spm → Spm) : (s.modSpm f).coaches = s.coaches := rfl
@[simp] theorem State.modSpm_trips (f : Spm → Spm) : (s.modSpm f).trips = s.trips := rfl
@[simp] theorem State.modSpm_runs (f : Spm → Spm) : (s.modSpm f).runs = s.runs := rfl
@[simp] theorem State.modSpm_axes (f : Spm → Spm) : (s.modSpm f).axes = s.axes := rfl
@[simp] theorem State.modSpm_pl (f : Spm → Spm) : (s.modSpm f).pl = s.pl := rfl
@[simp] theorem State.modSpm_power (f : Spm → Spm) : (s.modSpm f).power = s.power := rfl
@[simp] theorem State.modSpm_syncOut (f : Spm → Spm) : (s.modSpm f).syncOut = s.syncOut := rfl
@[simp] theorem State.modSpm_encs (f : Spm → Spm) : (s.modSpm f).encs = s.encs := rfl
@[simp] theorem State.modSpm_stepLast (f : Spm → Spm) : (s.modSpm f).stepLast = s.stepLast := rfl
@[simp] theorem State.modSpm_stepDir (f : Spm → Spm) : (s.modSpm f).stepDir = s.stepDir := rfl
@[simp] theorem State.modSpm_recipes (f : Spm → Spm) : (s.modSpm f).recipes = s.recipes := rfl
@[simp] theorem State.modSpm_rbcnt (f : Spm → Spm) : (s.modSpm f).rbcnt = s.rbcnt := rfl
@[simp] theorem State.modSpm_sds (f : Spm → Spm) : (s.modSpm f).sds = s.sds := rfl
@[simp] theorem State.modSpm_afe (f : Spm → Spm) : (s.modSpm f).afe = s.afe := rfl
@[simp] theorem State.modSpm_trio (f : Spm → Spm) : (s.modSpm f).trio = s.trio := rfl
@[simp] theorem State.modSpm_mgs (f : Spm → Spm) : (s.modSpm f).mgs = s.mgs := rfl
@[simp] theorem State.modSpm_net (f : Spm → Spm) : (s.modSpm f).net = s.net := rfl
@[simp] theorem State.modSpm_sph (f : Spm → Spm) : (s.modSpm f).sph = s.sph := rfl
@[simp] theorem State.modSpm_nvm (f : Spm → Spm) : (s.modSpm f).nvm = s.nvm := rfl
@[simp] theorem State.modSpm_pending (f : Spm → Spm) : (s.modSpm f).pending = s.pending := rfl
@[simp] theorem State.modSpm_spm (f : Spm → Spm) : (s.modSpm f).spm = f s.spm := rfl
@[simp] theorem State.modSpm_rd (f : Spm → Spm) (i : Nat) : (s.modSpm f).rd i = s.rd i := rfl
@[simp] theorem State.modSpm_get (f : Spm → Spm) (h : Fld) : (s.modSpm f).get h = s.get h := rfl
@[simp] theorem State.modSpm_on (f : Spm → Spm) (h : Fld) : (s.modSpm f).on h = s.on h := rfl
@[simp] theorem State.modSpm_bitAt (f : Spm → Spm) (i j : Nat) : (s.modSpm f).bitAt i j = s.bitAt i j := rfl
@[simp] theorem State.modSpm_stagedAt (f : Spm → Spm) (i : Nat) : (s.modSpm f).stagedAt i = s.stagedAt i := rfl
@[simp] theorem State.modSpm_isBad (f : Spm → Spm) (i : Nat) : (s.modSpm f).isBad i = s.isBad i := rfl
@[simp] theorem State.modSpm_reply (f : Spm → Spm) (o : Master) : (s.modSpm f).reply o = s.reply o := rfl
@[simp] theorem State.modSpm_guardAt (f : Spm → Spm) (i : Nat) : (s.modSpm f).guardAt i = s.guardAt i := rfl
@[simp] theorem State.modSpm_mo (f : Spm → Spm) (i : Nat) : (s.modSpm f).mo i = s.mo i := rfl
@[simp] theorem State.modSpm_se (f : Spm → Spm) (i : Nat) : (s.modSpm f).se i = s.se i := rfl
@[simp] theorem State.modSpm_leg (f : Spm → Spm) (i : Nat) : (s.modSpm f).leg i = s.leg i := rfl
@[simp] theorem State.modSpm_coil (f : Spm → Spm) (i j : Nat) : (s.modSpm f).coil i j = s.coil i j := rfl
@[simp] theorem State.modSpm_coach (f : Spm → Spm) (i : Nat) : (s.modSpm f).coach i = s.coach i := rfl
@[simp] theorem State.modSpm_enc (f : Spm → Spm) (i : Nat) : (s.modSpm f).enc i = s.enc i := rfl
@[simp] theorem State.modSpm_sd (f : Spm → Spm) (i : Nat) : (s.modSpm f).sd i = s.sd i := rfl
@[simp] theorem State.modNvm_regs (f : Nvm → Nvm) : (s.modNvm f).regs = s.regs := rfl
@[simp] theorem State.modNvm_snap (f : Nvm → Nvm) : (s.modNvm f).snap = s.snap := rfl
@[simp] theorem State.modNvm_staged (f : Nvm → Nvm) : (s.modNvm f).staged = s.staged := rfl
@[simp] theorem State.modNvm_bad (f : Nvm → Nvm) : (s.modNvm f).bad = s.bad := rfl
@[simp] theorem State.modNvm_replies (f : Nvm → Nvm) : (s.modNvm f).replies = s.replies := rfl
@[simp] theorem State.modNvm_guards (f : Nvm → Nvm) : (s.modNvm f).guards = s.guards := rfl
@[simp] theorem State.modNvm_hostPair (f : Nvm → Nvm) : (s.modNvm f).hostPair = s.hostPair := rfl
@[simp] theorem State.modNvm_trioPair (f : Nvm → Nvm) : (s.modNvm f).trioPair = s.trioPair := rfl
@[simp] theorem State.modNvm_mgsPair (f : Nvm → Nvm) : (s.modNvm f).mgsPair = s.mgsPair := rfl
@[simp] theorem State.modNvm_canPair (f : Nvm → Nvm) : (s.modNvm f).canPair = s.canPair := rfl
@[simp] theorem State.modNvm_ticks (f : Nvm → Nvm) : (s.modNvm f).ticks = s.ticks := rfl
@[simp] theorem State.modNvm_free (f : Nvm → Nvm) : (s.modNvm f).free = s.free := rfl
@[simp] theorem State.modNvm_trioQ (f : Nvm → Nvm) : (s.modNvm f).trioQ = s.trioQ := rfl
@[simp] theorem State.modNvm_emcyQ (f : Nvm → Nvm) : (s.modNvm f).emcyQ = s.emcyQ := rfl
@[simp] theorem State.modNvm_logQ (f : Nvm → Nvm) : (s.modNvm f).logQ = s.logQ := rfl
@[simp] theorem State.modNvm_logWin (f : Nvm → Nvm) : (s.modNvm f).logWin = s.logWin := rfl
@[simp] theorem State.modNvm_legs (f : Nvm → Nvm) : (s.modNvm f).legs = s.legs := rfl
@[simp] theorem State.modNvm_coils (f : Nvm → Nvm) : (s.modNvm f).coils = s.coils := rfl
@[simp] theorem State.modNvm_coaches (f : Nvm → Nvm) : (s.modNvm f).coaches = s.coaches := rfl
@[simp] theorem State.modNvm_trips (f : Nvm → Nvm) : (s.modNvm f).trips = s.trips := rfl
@[simp] theorem State.modNvm_runs (f : Nvm → Nvm) : (s.modNvm f).runs = s.runs := rfl
@[simp] theorem State.modNvm_axes (f : Nvm → Nvm) : (s.modNvm f).axes = s.axes := rfl
@[simp] theorem State.modNvm_pl (f : Nvm → Nvm) : (s.modNvm f).pl = s.pl := rfl
@[simp] theorem State.modNvm_power (f : Nvm → Nvm) : (s.modNvm f).power = s.power := rfl
@[simp] theorem State.modNvm_syncOut (f : Nvm → Nvm) : (s.modNvm f).syncOut = s.syncOut := rfl
@[simp] theorem State.modNvm_encs (f : Nvm → Nvm) : (s.modNvm f).encs = s.encs := rfl
@[simp] theorem State.modNvm_stepLast (f : Nvm → Nvm) : (s.modNvm f).stepLast = s.stepLast := rfl
@[simp] theorem State.modNvm_stepDir (f : Nvm → Nvm) : (s.modNvm f).stepDir = s.stepDir := rfl
@[simp] theorem State.modNvm_recipes (f : Nvm → Nvm) : (s.modNvm f).recipes = s.recipes := rfl
@[simp] theorem State.modNvm_rbcnt (f : Nvm → Nvm) : (s.modNvm f).rbcnt = s.rbcnt := rfl
@[simp] theorem State.modNvm_sds (f : Nvm → Nvm) : (s.modNvm f).sds = s.sds := rfl
@[simp] theorem State.modNvm_afe (f : Nvm → Nvm) : (s.modNvm f).afe = s.afe := rfl
@[simp] theorem State.modNvm_trio (f : Nvm → Nvm) : (s.modNvm f).trio = s.trio := rfl
@[simp] theorem State.modNvm_mgs (f : Nvm → Nvm) : (s.modNvm f).mgs = s.mgs := rfl
@[simp] theorem State.modNvm_net (f : Nvm → Nvm) : (s.modNvm f).net = s.net := rfl
@[simp] theorem State.modNvm_sph (f : Nvm → Nvm) : (s.modNvm f).sph = s.sph := rfl
@[simp] theorem State.modNvm_spm (f : Nvm → Nvm) : (s.modNvm f).spm = s.spm := rfl
@[simp] theorem State.modNvm_pending (f : Nvm → Nvm) : (s.modNvm f).pending = s.pending := rfl
@[simp] theorem State.modNvm_nvm (f : Nvm → Nvm) : (s.modNvm f).nvm = f s.nvm := rfl
@[simp] theorem State.modNvm_rd (f : Nvm → Nvm) (i : Nat) : (s.modNvm f).rd i = s.rd i := rfl
@[simp] theorem State.modNvm_get (f : Nvm → Nvm) (h : Fld) : (s.modNvm f).get h = s.get h := rfl
@[simp] theorem State.modNvm_on (f : Nvm → Nvm) (h : Fld) : (s.modNvm f).on h = s.on h := rfl
@[simp] theorem State.modNvm_bitAt (f : Nvm → Nvm) (i j : Nat) : (s.modNvm f).bitAt i j = s.bitAt i j := rfl
@[simp] theorem State.modNvm_stagedAt (f : Nvm → Nvm) (i : Nat) : (s.modNvm f).stagedAt i = s.stagedAt i := rfl
@[simp] theorem State.modNvm_isBad (f : Nvm → Nvm) (i : Nat) : (s.modNvm f).isBad i = s.isBad i := rfl
@[simp] theorem State.modNvm_reply (f : Nvm → Nvm) (o : Master) : (s.modNvm f).reply o = s.reply o := rfl
@[simp] theorem State.modNvm_guardAt (f : Nvm → Nvm) (i : Nat) : (s.modNvm f).guardAt i = s.guardAt i := rfl
@[simp] theorem State.modNvm_mo (f : Nvm → Nvm) (i : Nat) : (s.modNvm f).mo i = s.mo i := rfl
@[simp] theorem State.modNvm_se (f : Nvm → Nvm) (i : Nat) : (s.modNvm f).se i = s.se i := rfl
@[simp] theorem State.modNvm_leg (f : Nvm → Nvm) (i : Nat) : (s.modNvm f).leg i = s.leg i := rfl
@[simp] theorem State.modNvm_coil (f : Nvm → Nvm) (i j : Nat) : (s.modNvm f).coil i j = s.coil i j := rfl
@[simp] theorem State.modNvm_coach (f : Nvm → Nvm) (i : Nat) : (s.modNvm f).coach i = s.coach i := rfl
@[simp] theorem State.modNvm_enc (f : Nvm → Nvm) (i : Nat) : (s.modNvm f).enc i = s.enc i := rfl
@[simp] theorem State.modNvm_sd (f : Nvm → Nvm) (i : Nat) : (s.modNvm f).sd i = s.sd i := rfl

/-! ### A record update that leaves a part alone -/

@[simp] theorem State.pending_rd (q : List Instr) (b : Nat) : ({ s with pending := q } : State).rd b = s.rd b := rfl

/-! ### Reading what was written -/

variable {s}

theorem State.rd_wr (a : Nat) (w : Word) (b : Nat) : (s.wr a w).rd b = if b = a then w else s.rd b := Sparse.get_set

@[simp] theorem State.rd_wr_self (a : Nat) (w : Word) : (s.wr a w).rd a = w := by
  rw [State.rd_wr, if_pos rfl]

theorem State.rd_wr_ne {a b : Nat} (w : Word) (h : b ≠ a) : (s.wr a w).rd b = s.rd b := Sparse.get_set_ne h

theorem State.rd_put_ne {f : Fld} {b : Nat} (v : Nat) (h : b ≠ f.addr) : (s.put f v).rd b = s.rd b := State.rd_wr_ne _ h

theorem State.get_wr_ne {a : Nat} {g : Fld} (w : Word) (h : g.addr ≠ a) : (s.wr a w).get g = s.get g := by
  unfold State.get
  rw [State.rd_wr_ne w h]

theorem State.get_put_ne {f g : Fld} (v : Nat) (h : g.addr ≠ f.addr) : (s.put f v).get g = s.get g := State.get_wr_ne _ h

theorem wordField_eq (w : Word) (hi lo : Nat) : wordField w hi lo = w.toNat / 2 ^ lo % 2 ^ (hi + 1 - lo) := by
  rw [wordField, Nat.shiftRight_eq_div_pow]

theorem getLsbD_fieldMask (hi lo i : Nat) (h : hi < 32) : (fieldMask hi lo).getLsbD i = (decide (lo ≤ i) && decide (i ≤ hi)) := by
  unfold fieldMask
  rw [BitVec.getLsbD_shiftLeft, BitVec.getLsbD_ofNat, Nat.testBit_two_pow_sub_one]
  rw [Bool.eq_iff_iff]
  simp only [Bool.and_eq_true, decide_eq_true_eq, Bool.not_eq_true', decide_eq_false_iff_not]
  omega

theorem getLsbD_wordPut (w : Word) (hi lo v i : Nat) (h : hi < 32) :
    (wordPut w hi lo v).getLsbD i = if lo ≤ i ∧ i ≤ hi then v.testBit (i - lo) else w.getLsbD i := by
  unfold wordPut
  rw [BitVec.getLsbD_or, BitVec.getLsbD_and, BitVec.getLsbD_and, BitVec.getLsbD_not, getLsbD_fieldMask _ _ _ h,
    BitVec.getLsbD_shiftLeft, BitVec.getLsbD_ofNat]
  by_cases h1 : lo ≤ i
  · by_cases h2 : i ≤ hi
    · have h3 : i < 32 := by omega
      have h4 : i - lo < 32 := by omega
      have h5 : ¬ i < lo := by omega
      simp [h1, h2, h3, h4, h5]
    · simp [h1, h2]
      intro h3
      exact BitVec.lt_of_getLsbD h3
  · simp [h1]
    intro h3
    exact BitVec.lt_of_getLsbD h3

theorem testBit_wordField (w : Word) (hi lo i : Nat) :
    (wordField w hi lo).testBit i = (decide (i < hi + 1 - lo) && w.getLsbD (lo + i)) := by
  rw [wordField_eq, Nat.testBit_mod_two_pow, Nat.testBit_div_two_pow, BitVec.getLsbD, Nat.add_comm lo i]

/-- A field that was put reads the low bits of the value. -/
theorem wordField_put_self (w : Word) (hi lo v : Nat) (h : hi < 32) (_hl : lo ≤ hi) :
    wordField (wordPut w hi lo v) hi lo = v % 2 ^ (hi + 1 - lo) := by
  refine Nat.eq_of_testBit_eq fun i => ?_
  rw [testBit_wordField, Nat.testBit_mod_two_pow, getLsbD_wordPut _ _ _ _ _ h]
  by_cases h1 : i < hi + 1 - lo
  · have h2 : lo ≤ lo + i ∧ lo + i ≤ hi := by omega
    simp [h1, h2]
  · simp [h1]

/-- Another field of the word is left alone. -/
theorem wordField_put_ne (w : Word) (hi lo v hi' lo' : Nat) (h : hi < 32) (hd : hi' < lo ∨ hi < lo') :
    wordField (wordPut w hi lo v) hi' lo' = wordField w hi' lo' := by
  refine Nat.eq_of_testBit_eq fun i => ?_
  rw [testBit_wordField, testBit_wordField, getLsbD_wordPut _ _ _ _ _ h]
  by_cases h1 : i < hi' + 1 - lo'
  · have h2 : ¬ (lo ≤ lo' + i ∧ lo' + i ≤ hi) := by omega
    simp [h2]
  · simp [h1]

theorem State.get_put_self {f : Fld} (v : Nat) (h : f.hi < 32) (hl : f.lo ≤ f.hi) :
    (s.put f v).get f = v % 2 ^ (f.hi + 1 - f.lo) := by
  unfold State.get State.put
  rw [State.rd_wr_self, wordField_put_self _ _ _ _ h hl]

theorem State.get_put_disj {f g : Fld} (v : Nat) (h : f.hi < 32) (hd : g.hi < f.lo ∨ f.hi < g.lo) :
    (s.put f v).get g = s.get g := by
  by_cases e : g.addr = f.addr
  · unfold State.get State.put
    rw [e, State.rd_wr_self, wordField_put_ne _ _ _ _ _ _ h hd]
  · exact State.get_put_ne v e

theorem State.bitAt_putBitAt_self (a b : Nat) (v : Bool) (h : b < 32) : (s.putBitAt a b v).bitAt a b = v := by
  unfold State.bitAt State.putBitAt
  rw [State.rd_wr_self, getLsbD_wordPut _ _ _ _ _ h, if_pos ⟨Nat.le_refl _, Nat.le_refl _⟩, Nat.sub_self]
  cases v <;> rfl

theorem State.bitAt_putBitAt_ne {a b c d : Nat} (v : Bool) (hb : b < 32) (h : c ≠ a ∨ d ≠ b) :
    (s.putBitAt a b v).bitAt c d = s.bitAt c d := by
  unfold State.bitAt State.putBitAt
  by_cases e : c = a
  · subst e
    rw [State.rd_wr_self, getLsbD_wordPut _ _ _ _ _ hb, if_neg (by omega)]
  · rw [State.rd_wr_ne _ e]

@[simp] theorem State.mo_modMo (a : Nat) (f : Motion → Motion) : (s.modMo a f).mo a = f (s.mo a) := by
  simp only [State.mo, State.ax, State.modMo, Sparse.modify, Sparse.get_set, if_true]

theorem State.mo_modMo_ne {a b : Nat} (f : Motion → Motion) (h : b ≠ a) : (s.modMo a f).mo b = s.mo b := by
  simp only [State.mo, State.ax, State.modMo, Sparse.get_modify_ne h]

@[simp] theorem State.se_modMo (a b : Nat) (f : Motion → Motion) : (s.modMo a f).se b = s.se b := by
  simp only [State.se, State.ax, State.modMo, Sparse.modify, Sparse.get_set]
  split
  · rename_i h
    rw [h]
  · rfl

@[simp] theorem State.se_modSe (a : Nat) (f : Sense → Sense) : (s.modSe a f).se a = f (s.se a) := by
  simp only [State.se, State.ax, State.modSe, Sparse.modify, Sparse.get_set, if_true]

theorem State.se_modSe_ne {a b : Nat} (f : Sense → Sense) (h : b ≠ a) : (s.modSe a f).se b = s.se b := by
  simp only [State.se, State.ax, State.modSe, Sparse.get_modify_ne h]

@[simp] theorem State.mo_modSe (a b : Nat) (f : Sense → Sense) : (s.modSe a f).mo b = s.mo b := by
  simp only [State.mo, State.ax, State.modSe, Sparse.modify, Sparse.get_set]
  split
  · rename_i h
    rw [h]
  · rfl

@[simp] theorem State.leg_modLeg (l : Nat) (f : Leg → Leg) : (s.modLeg l f).leg l = f (s.leg l) := by
  simp only [State.leg, State.modLeg, Sparse.modify, Sparse.get_set, if_true]

theorem State.leg_modLeg_ne {l k : Nat} (f : Leg → Leg) (h : k ≠ l) : (s.modLeg l f).leg k = s.leg k := Sparse.get_modify_ne h

@[simp] theorem State.coil_modCoil (r z : Nat) (f : Coil → Coil) : (s.modCoil r z f).coil r z = f (s.coil r z) := by
  simp only [State.coil, State.modCoil, Sparse.modify, Sparse.get_set, if_true]

@[simp] theorem State.coach_modCoach (c : Nat) (f : Coach → Coach) : (s.modCoach c f).coach c = f (s.coach c) := by
  simp only [State.coach, State.modCoach, Sparse.modify, Sparse.get_set, if_true]

theorem State.coach_modCoach_ne {c d : Nat} (f : Coach → Coach) (h : d ≠ c) : (s.modCoach c f).coach d = s.coach d :=
  Sparse.get_modify_ne h

@[simp] theorem State.enc_modEnc (n : Nat) (f : EncCh → EncCh) : (s.modEnc n f).enc n = f (s.enc n) := by
  simp only [State.enc, State.modEnc, Sparse.modify, Sparse.get_set, if_true]

@[simp] theorem State.sd_modSd (d : Nat) (f : SdMod → SdMod) : (s.modSd d f).sd d = f (s.sd d) := by
  simp only [State.sd, State.modSd, Sparse.modify, Sparse.get_set, if_true]

@[simp] theorem State.stagedAt_setStaged (a : Nat) (x : Staged) : (s.setStaged a x).stagedAt a = x := by
  simp only [State.stagedAt, State.setStaged, Sparse.get_set, if_true]

@[simp] theorem State.isBad_setBad (a : Nat) (b : Bool) : (s.setBad a b).isBad a = b := by
  simp only [State.isBad, State.setBad, Sparse.get_set, if_true]

@[simp] theorem State.reply_answer (m : Master) (r : Reply) : (s.answer m r).reply m = r := by
  simp only [State.reply, State.answer, Sparse.get_set, if_true]

theorem masterCode_inj {m n : Master} (h : masterCode m = masterCode n) : m = n := by
  cases m <;> cases n <;> first | rfl | cases h

theorem State.reply_answer_ne {m n : Master} (r : Reply) (h : n ≠ m) : (s.answer m r).reply n = s.reply n :=
  Sparse.get_set_ne fun e => h (masterCode_inj e)

@[simp] theorem Trio.copy_setCopy (t : Trio) (k : Nat) (c : Copy) : (t.setCopy k c).copy k = c := by
  unfold Trio.setCopy Trio.copy
  split <;> simp_all

theorem Trio.copy_setCopy_ne {t : Trio} {j k : Nat} (c : Copy) (hj : j < 3) (hk : k < 3) (h : j ≠ k) :
    (t.setCopy k c).copy j = t.copy j := by
  obtain rfl | rfl | rfl : k = 0 ∨ k = 1 ∨ k = 2 := by omega
  all_goals (obtain rfl | rfl | rfl : j = 0 ∨ j = 1 ∨ j = 2 := by omega) <;> first | rfl | contradiction

@[simp] theorem State.modCopy_copy (k : Nat) (f : Copy → Copy) : (modCopy k f s).trio.copy k = f (s.trio.copy k) :=
  Trio.copy_setCopy ..

@[simp] theorem Copy.setReg_tags (c : Copy) (r : Nat) (w : Word) : (c.setReg r w).tags = c.tags := rfl
@[simp] theorem Copy.setTag_regs (c : Copy) (e : Nat) (w : Word) : (c.setTag e w).regs = c.regs := rfl

@[simp] theorem State.guardAt_setGuard (a : Nat) (g : Option GuardWin) : (s.setGuard a g).guardAt a = g := by
  simp only [State.guardAt, State.setGuard, Sparse.get_set, if_true]

end Sys2Proof.Machine
end

