-- ==== Sys2Proof/Laws/Pend.lean ====
section
/-!
SUPPORT. Laws/Pend.lean: what pending an event source does: its bit of EV_PEND is set, and no other register word but the
counter of dropped log entries changes.
-/

namespace Sys2Proof.Machine

set_option Elab.async false

theorem rd_logAdd_ne {x : LogItem} {s : State} {b : Nat} (h : b ≠ MGS_LOGSTAT) : (logAdd x s).rd b = s.rd b := by
  unfold logAdd
  split
  · rfl
  · exact State.rd_wr_ne _ h

theorem rd_logOcc_ne {o : Occ} {s : State} {b : Nat} (h : b ≠ MGS_LOGSTAT) : (logOcc o s).rd b = s.rd b := by
  unfold logOcc
  dsimp only
  split
  · exact rd_logAdd_ne h
  · exact rd_logAdd_ne h

theorem rd_logRoute_ne {o : Occ} {s : State} {b : Nat} (h : b ≠ MGS_LOGSTAT) : (logRoute o s).rd b = s.rd b := by
  unfold logRoute
  split
  · split
    · rfl
    · exact rd_logOcc_ne h
  · exact rd_logOcc_ne h

theorem rd_pend {src cause idx : Nat} {s : State} {b : Nat} (h : b ≠ MGS_LOGSTAT) :
    (pend src cause idx s).rd b = (s.putBitAt (EV_PEND (src / 32)) (src % 32) true).rd b := by
  unfold pend
  dsimp only
  split
  · show (if _ then logRoute _ _ else _ : State).rd b = _
    split
    · exact rd_logRoute_ne h
    · rfl
  · rfl

theorem rd_pend_ne {src cause idx : Nat} {s : State} {b : Nat} (h : b ≠ MGS_LOGSTAT) (h' : b ≠ EV_PEND (src / 32)) :
    (pend src cause idx s).rd b = s.rd b := by
  rw [rd_pend h]
  exact State.rd_wr_ne _ h'

theorem get_pend_ne {src cause idx : Nat} {s : State} {f : Fld} (h : f.addr ≠ MGS_LOGSTAT) (h' : f.addr ≠ EV_PEND (src / 32)) :
    (pend src cause idx s).get f = s.get f := by
  unfold State.get
  rw [rd_pend_ne h h']

/-- A source that pends is pending, R297. -/
theorem evPending_pend {src cause idx : Nat} {s : State} (h : src < 128) : (pend src cause idx s).evPending src = true := by
  unfold State.evPending State.bitAt
  rw [rd_pend (by simp only [EV_PEND, MGS_LOGSTAT]; omega)]
  exact State.bitAt_putBitAt_self _ _ _ (Nat.mod_lt _ (by decide))

theorem pend_parts {src cause idx : Nat} {s : State} :
    Frame [.trioQ, .emcyQ, .logQ, .logWin, .reg .EV_PEND, .reg .MGS_LOGSTAT] s (pend src cause idx s) :=
  (pend_ok ..).1

theorem rd_pendSrc_ne {src : Nat} {s : State} {b : Nat} (h : b ≠ MGS_LOGSTAT) (h' : b ≠ EV_PEND (src / 32)) :
    (pendSrc src s).rd b = s.rd b := rd_pend_ne h h'

theorem get_pendSrc_ne {src : Nat} {s : State} {f : Fld} (h : f.addr ≠ MGS_LOGSTAT) (h' : f.addr ≠ EV_PEND (src / 32)) :
    (pendSrc src s).get f = s.get f := get_pend_ne h h'

theorem evPending_pendSrc {src : Nat} {s : State} (h : src < 128) : (pendSrc src s).evPending src = true := evPending_pend h

end Sys2Proof.Machine
end

