-- ==== Sys2Proof/Laws/Map.lean ====
section
/-!
SUPPORT. Laws/Map.lean: what the address map finds at an address: the register whose word stands there.
-/

namespace Sys2Proof.Machine

set_option Elab.async false

/-- Where copy `k` of instance `i` of an entry of a block's map stands. -/
def RegDef.addrIn (b : Block) (d : RegDef) (i k : Nat) : Nat := b.place.1 + b.place.2.2 * i + d.off + d.stride * k

theorem findReg_some {ds : List RegDef} {off : Nat} {d : RegDef} {k : Nat} {c : Bool} (h : findReg ds off = some (d, k, c)) :
    d ∈ ds ∧ (d.count ≤ 1 → k = 0) ∧ (c = true → d.guarded = true) ∧ off = d.off + d.stride * k + (if c then 4 else 0) := by
  induction ds with
  | nil => cases h
  | cons x ds ih =>
    have next (h : findReg ds off = some (d, k, c)) := (ih h).imp_left (List.mem_cons_of_mem x)
    unfold findReg at h
    split at h
    · split at h
      · cases h
        exact ⟨List.mem_cons_self .., fun _ => rfl, nofun, by simp_all⟩
      · split at h
        · cases h
          exact ⟨List.mem_cons_self .., fun _ => rfl, fun _ => by simp_all, by simp_all⟩
        · exact next h
    · rename_i h1
      split at h
      · rename_i h2
        cases h
        simp only [Bool.and_eq_true, decide_eq_true_eq] at h2
        have := Nat.div_add_mod (off - d.off) d.stride
        exact ⟨List.mem_cons_self .., fun h => absurd h h1, nofun, by simp only [Bool.false_eq_true, if_false]; omega⟩
      · exact next h

theorem locate_some {addr : Nat} {l : Loc} (h : locate addr = some l) :
    blockOf addr = some l.blk ∧ l.defn ∈ l.blk.regs ∧ l.inst < l.blk.place.2.1 ∧ (l.defn.count ≤ 1 → l.copy = 0)
      ∧ (l.compl = true → l.defn.guarded = true) ∧ (addr - l.blk.place.1) % l.blk.place.2.2 = l.defn.off + l.defn.stride * l.copy + (if l.compl then 4 else 0)
      ∧ l.inst = (addr - l.blk.place.1) / l.blk.place.2.2 := by
  unfold locate at h
  split at h
  · cases h
  · rename_i b hb
    dsimp only at h
    split at h
    · cases h
    · rename_i hc
      split at h
      · cases h
      · rename_i d k c hf
        cases h
        obtain ⟨h1, h2, h3, h4⟩ := findReg_some hf
        exact ⟨hb, h1, Nat.lt_of_not_le hc, h2, h3, h4, rfl⟩

theorem block_le {addr : Nat} {b : Block} (h : blockOf addr = some b) : b.place.1 ≤ addr := by
  unfold blockOf at h
  by_cases h0 : addr < 0x1000
  · rw [if_pos h0] at h
    cases h
    exact Nat.zero_le _
  rw [if_neg h0] at h
  by_cases h1 : addr < 0x10000
  · rw [if_pos h1] at h
    cases h
  rw [if_neg h1] at h
  by_cases h2 : addr < 0x20000
  · rw [if_pos h2] at h
    cases h
    simp only [Block.place]; omega
  rw [if_neg h2] at h
  by_cases h3 : addr < 0x28000
  · rw [if_pos h3] at h
    cases h
    simp only [Block.place]; omega
  rw [if_neg h3] at h
  by_cases h4 : addr < 0x28800
  · rw [if_pos h4] at h
    cases h
    simp only [Block.place]; omega
  rw [if_neg h4] at h
  by_cases h5 : addr < 0x29000
  · rw [if_pos h5] at h
    cases h
  rw [if_neg h5] at h
  by_cases h6 : addr < 0x29400
  · rw [if_pos h6] at h
    cases h
    simp only [Block.place]; omega
  rw [if_neg h6] at h
  by_cases h7 : addr < 0x30000
  · rw [if_pos h7] at h
    cases h
  rw [if_neg h7] at h
  by_cases h8 : addr < 0x40000
  · rw [if_pos h8] at h
    cases h
    simp only [Block.place]; omega
  rw [if_neg h8] at h
  by_cases h9 : addr < 0x44000
  · rw [if_pos h9] at h
    cases h
    simp only [Block.place]; omega
  rw [if_neg h9] at h
  by_cases h10 : addr < 0x50000
  · rw [if_pos h10] at h
    cases h
  rw [if_neg h10] at h
  by_cases h11 : addr < 0x50400
  · rw [if_pos h11] at h
    cases h
    simp only [Block.place]; omega
  rw [if_neg h11] at h
  by_cases h12 : addr < 0x50600
  · rw [if_pos h12] at h
    cases h
    simp only [Block.place]; omega
  rw [if_neg h12] at h
  by_cases h13 : addr < 0x60000
  · rw [if_pos h13] at h
    cases h
  rw [if_neg h13] at h
  by_cases h14 : addr < 0x60100
  · rw [if_pos h14] at h
    cases h
    simp only [Block.place]; omega
  rw [if_neg h14] at h
  by_cases h15 : addr < 0x60300
  · rw [if_pos h15] at h
    cases h
    simp only [Block.place]; omega
  rw [if_neg h15] at h
  by_cases h16 : addr < 0x70000
  · rw [if_pos h16] at h
    cases h
  rw [if_neg h16] at h
  by_cases h17 : addr < 0x71000
  · rw [if_pos h17] at h
    cases h
    simp only [Block.place]; omega
  rw [if_neg h17] at h
  by_cases h18 : addr < 0x80000
  · rw [if_pos h18] at h
    cases h
  rw [if_neg h18] at h
  by_cases h19 : addr < 0x90000
  · rw [if_pos h19] at h
    cases h
    simp only [Block.place]; omega
  rw [if_neg h19] at h
  by_cases h20 : addr < 0xA0000
  · rw [if_pos h20] at h
    cases h
    simp only [Block.place]; omega
  rw [if_neg h20] at h
  by_cases h21 : addr < 0xA0100
  · rw [if_pos h21] at h
    cases h
    simp only [Block.place]; omega
  rw [if_neg h21] at h
  by_cases h22 : addr < 0xB0000
  · rw [if_pos h22] at h
    cases h
    simp only [Block.place]; omega
  rw [if_neg h22] at h
  by_cases h23 : addr < 0xC0000
  · rw [if_pos h23] at h
    cases h
    simp only [Block.place]; omega
  rw [if_neg h23] at h
  cases h

theorem locate_addr {addr : Nat} {l : Loc} (h : locate addr = some l) :
    addr = RegDef.addrIn l.blk l.defn l.inst l.copy + (if l.compl then 4 else 0) := by
  obtain ⟨h1, _, _, _, _, h4, h5⟩ := locate_some h
  have := block_le h1
  have := Nat.div_add_mod (addr - l.blk.place.1) l.blk.place.2.2
  unfold RegDef.addrIn
  rw [h5]
  omega

theorem gctlRegs0_at : ∀ d ∈ gctlRegs0, ∀ i k, i < Block.GCTL.place.2.1 → (d.count ≤ 1 → k = 0) → d.reg.at (d.addrIn .GCTL i k) := by
  unfold gctlRegs0
  refine List.forall_mem_cons.mpr ⟨fun i k hi hk => ⟨0, 0, ?_⟩, ?_⟩
  · simp only [RegDef.addrIn, Block.place, regAddr, GCTL_ID] at hi hk ⊢; omega
  refine List.forall_mem_cons.mpr ⟨fun i k hi hk => ⟨0, 0, ?_⟩, ?_⟩
  · simp only [RegDef.addrIn, Block.place, regAddr, GCTL_PROD] at hi hk ⊢; omega
  refine List.forall_mem_cons.mpr ⟨fun i k hi hk => ⟨0, 0, ?_⟩, ?_⟩
  · simp only [RegDef.addrIn, Block.place, regAddr, GCTL_SCRATCH] at hi hk ⊢; omega
  refine List.forall_mem_cons.mpr ⟨fun i k hi hk => ⟨0, 0, ?_⟩, ?_⟩
  · simp only [RegDef.addrIn, Block.place, regAddr, GCTL_BUSERR] at hi hk ⊢; omega
  refine List.forall_mem_cons.mpr ⟨fun i k hi hk => ⟨0, 0, ?_⟩, ?_⟩
  · simp only [RegDef.addrIn, Block.place, regAddr, GCTL_BUSERRADDR] at hi hk ⊢; omega
  refine List.forall_mem_cons.mpr ⟨fun i k hi hk => ⟨0, 0, ?_⟩, ?_⟩
  · simp only [RegDef.addrIn, Block.place, regAddr, GCTL_BUSERRCNT] at hi hk ⊢; omega
  refine List.forall_mem_cons.mpr ⟨fun i k hi hk => ⟨0, 0, ?_⟩, ?_⟩
  · simp only [RegDef.addrIn, Block.place, regAddr, GCTL_SEQERR] at hi hk ⊢; omega
  refine List.forall_mem_cons.mpr ⟨fun i k hi hk => ⟨0, 0, ?_⟩, ?_⟩
  · simp only [RegDef.addrIn, Block.place, regAddr, GCTL_PARERR] at hi hk ⊢; omega
  refine List.forall_mem_cons.mpr ⟨fun i k hi hk => ⟨0, 0, ?_⟩, ?_⟩
  · simp only [RegDef.addrIn, Block.place, regAddr, GCTL_BUFHOLD] at hi hk ⊢; omega
  refine List.forall_mem_cons.mpr ⟨fun i k hi hk => ⟨0, 0, ?_⟩, ?_⟩
  · simp only [RegDef.addrIn, Block.place, regAddr, GCTL_BUFSTAT] at hi hk ⊢; omega
  refine List.forall_mem_cons.mpr ⟨fun i k hi hk => ⟨0, 0, ?_⟩, ?_⟩
  · simp only [RegDef.addrIn, Block.place, regAddr, GCTL_CLAMPREQHI] at hi hk ⊢; omega
  refine List.forall_mem_cons.mpr ⟨fun i k hi hk => ⟨0, 0, ?_⟩, ?_⟩
  · simp only [RegDef.addrIn, Block.place, regAddr, GCTL_CLAMPADDR] at hi hk ⊢; omega
  refine List.forall_mem_cons.mpr ⟨fun i k hi hk => ⟨0, 0, ?_⟩, ?_⟩
  · simp only [RegDef.addrIn, Block.place, regAddr, GCTL_CLAMPREQ] at hi hk ⊢; omega
  refine List.forall_mem_cons.mpr ⟨fun i k hi hk => ⟨0, 0, ?_⟩, ?_⟩
  · simp only [RegDef.addrIn, Block.place, regAddr, GCTL_CLAMPAPP] at hi hk ⊢; omega
  refine List.forall_mem_cons.mpr ⟨fun i k hi hk => ⟨0, 0, ?_⟩, ?_⟩
  · simp only [RegDef.addrIn, Block.place, regAddr, GCTL_CLAMPAPPHI] at hi hk ⊢; omega
  refine List.forall_mem_cons.mpr ⟨fun i k hi hk => ⟨0, 0, ?_⟩, ?_⟩
  · simp only [RegDef.addrIn, Block.place, regAddr, GCTL_PWRDOM] at hi hk ⊢; omega
  exact fun _ h => absurd h List.not_mem_nil

theorem gctlRegs1_at : ∀ d ∈ gctlRegs1, ∀ i k, i < Block.GCTL.place.2.1 → (d.count ≤ 1 → k = 0) → d.reg.at (d.addrIn .GCTL i k) := by
  unfold gctlRegs1
  refine List.forall_mem_cons.mpr ⟨fun i k hi hk => ⟨0, 0, ?_⟩, ?_⟩
  · simp only [RegDef.addrIn, Block.place, regAddr, GCTL_PWRSTAT] at hi hk ⊢; omega
  refine List.forall_mem_cons.mpr ⟨fun i k hi hk => ⟨0, 0, ?_⟩, ?_⟩
  · simp only [RegDef.addrIn, Block.place, regAddr, GCTL_RUNCTL] at hi hk ⊢; omega
  refine List.forall_mem_cons.mpr ⟨fun i k hi hk => ⟨0, 0, ?_⟩, ?_⟩
  · simp only [RegDef.addrIn, Block.place, regAddr, GCTL_RUNSTAT] at hi hk ⊢; omega
  refine List.forall_mem_cons.mpr ⟨fun i k hi hk => ⟨0, 0, ?_⟩, ?_⟩
  · simp only [RegDef.addrIn, Block.place, regAddr, GCTL_CLKSTAT] at hi hk ⊢; omega
  refine List.forall_mem_cons.mpr ⟨fun i k hi hk => ⟨0, 0, ?_⟩, ?_⟩
  · simp only [RegDef.addrIn, Block.place, regAddr, GCTL_RTC_LO] at hi hk ⊢; omega
  refine List.forall_mem_cons.mpr ⟨fun i k hi hk => ⟨0, 0, ?_⟩, ?_⟩
  · simp only [RegDef.addrIn, Block.place, regAddr, GCTL_RTC_HI] at hi hk ⊢; omega
  refine List.forall_mem_cons.mpr ⟨fun i k hi hk => ⟨0, 0, ?_⟩, ?_⟩
  · simp only [RegDef.addrIn, Block.place, regAddr, GCTL_RTCALM] at hi hk ⊢; omega
  refine List.forall_mem_cons.mpr ⟨fun i k hi hk => ⟨0, 0, ?_⟩, ?_⟩
  · simp only [RegDef.addrIn, Block.place, regAddr, GCTL_RSTCAUSE] at hi hk ⊢; omega
  refine List.forall_mem_cons.mpr ⟨fun i k hi hk => ⟨0, 0, ?_⟩, ?_⟩
  · simp only [RegDef.addrIn, Block.place, regAddr, GCTL_STORE] at hi hk ⊢; omega
  refine List.forall_mem_cons.mpr ⟨fun i k hi hk => ⟨0, 0, ?_⟩, ?_⟩
  · simp only [RegDef.addrIn, Block.place, regAddr, GCTL_STORESTAT] at hi hk ⊢; omega
  exact fun _ h => absurd h List.not_mem_nil

theorem axRegs0_at : ∀ d ∈ axRegs0, ∀ i k, i < Block.AX.place.2.1 → (d.count ≤ 1 → k = 0) → d.reg.at (d.addrIn .AX i k) := by
  unfold axRegs0
  refine List.forall_mem_cons.mpr ⟨fun i k hi hk => ⟨i, 0, ?_⟩, ?_⟩
  · simp only [RegDef.addrIn, Block.place, regAddr, AX_CTL] at hi hk ⊢; omega
  refine List.forall_mem_cons.mpr ⟨fun i k hi hk => ⟨i, 0, ?_⟩, ?_⟩
  · simp only [RegDef.addrIn, Block.place, regAddr, AX_MODE] at hi hk ⊢; omega
  refine List.forall_mem_cons.mpr ⟨fun i k hi hk => ⟨i, 0, ?_⟩, ?_⟩
  · simp only [RegDef.addrIn, Block.place, regAddr, AX_TGT_LO] at hi hk ⊢; omega
  refine List.forall_mem_cons.mpr ⟨fun i k hi hk => ⟨i, 0, ?_⟩, ?_⟩
  · simp only [RegDef.addrIn, Block.place, regAddr, AX_TGT_HI] at hi hk ⊢; omega
  refine List.forall_mem_cons.mpr ⟨fun i k hi hk => ⟨i, 0, ?_⟩, ?_⟩
  · simp only [RegDef.addrIn, Block.place, regAddr, AX_VMAX] at hi hk ⊢; omega
  refine List.forall_mem_cons.mpr ⟨fun i k hi hk => ⟨i, 0, ?_⟩, ?_⟩
  · simp only [RegDef.addrIn, Block.place, regAddr, AX_AMAX] at hi hk ⊢; omega
  refine List.forall_mem_cons.mpr ⟨fun i k hi hk => ⟨i, 0, ?_⟩, ?_⟩
  · simp only [RegDef.addrIn, Block.place, regAddr, AX_DMAX] at hi hk ⊢; omega
  refine List.forall_mem_cons.mpr ⟨fun i k hi hk => ⟨i, 0, ?_⟩, ?_⟩
  · simp only [RegDef.addrIn, Block.place, regAddr, AX_QDMAX] at hi hk ⊢; omega
  refine List.forall_mem_cons.mpr ⟨fun i k hi hk => ⟨i, 0, ?_⟩, ?_⟩
  · simp only [RegDef.addrIn, Block.place, regAddr, AX_JERK] at hi hk ⊢; omega
  refine List.forall_mem_cons.mpr ⟨fun i k hi hk => ⟨i, 0, ?_⟩, ?_⟩
  · simp only [RegDef.addrIn, Block.place, regAddr, AX_VTGT] at hi hk ⊢; omega
  refine List.forall_mem_cons.mpr ⟨fun i k hi hk => ⟨i, 0, ?_⟩, ?_⟩
  · simp only [RegDef.addrIn, Block.place, regAddr, AX_POS_LO] at hi hk ⊢; omega
  refine List.forall_mem_cons.mpr ⟨fun i k hi hk => ⟨i, 0, ?_⟩, ?_⟩
  · simp only [RegDef.addrIn, Block.place, regAddr, AX_POS_HI] at hi hk ⊢; omega
  refine List.forall_mem_cons.mpr ⟨fun i k hi hk => ⟨i, 0, ?_⟩, ?_⟩
  · simp only [RegDef.addrIn, Block.place, regAddr, AX_VEL] at hi hk ⊢; omega
  refine List.forall_mem_cons.mpr ⟨fun i k hi hk => ⟨i, 0, ?_⟩, ?_⟩
  · simp only [RegDef.addrIn, Block.place, regAddr, AX_ACC] at hi hk ⊢; omega
  refine List.forall_mem_cons.mpr ⟨fun i k hi hk => ⟨i, 0, ?_⟩, ?_⟩
  · simp only [RegDef.addrIn, Block.place, regAddr, AX_LIMN_LO] at hi hk ⊢; omega
  refine List.forall_mem_cons.mpr ⟨fun i k hi hk => ⟨i, 0, ?_⟩, ?_⟩
  · simp only [RegDef.addrIn, Block.place, regAddr, AX_LIMN_HI] at hi hk ⊢; omega
  exact fun _ h => absurd h List.not_mem_nil

theorem axRegs1_at : ∀ d ∈ axRegs1, ∀ i k, i < Block.AX.place.2.1 → (d.count ≤ 1 → k = 0) → d.reg.at (d.addrIn .AX i k) := by
  unfold axRegs1
  refine List.forall_mem_cons.mpr ⟨fun i k hi hk => ⟨i, 0, ?_⟩, ?_⟩
  · simp only [RegDef.addrIn, Block.place, regAddr, AX_LIMP_LO] at hi hk ⊢; omega
  refine List.forall_mem_cons.mpr ⟨fun i k hi hk => ⟨i, 0, ?_⟩, ?_⟩
  · simp only [RegDef.addrIn, Block.place, regAddr, AX_LIMP_HI] at hi hk ⊢; omega
  refine List.forall_mem_cons.mpr ⟨fun i k hi hk => ⟨i, 0, ?_⟩, ?_⟩
  · simp only [RegDef.addrIn, Block.place, regAddr, AX_LIMCFG] at hi hk ⊢; omega
  refine List.forall_mem_cons.mpr ⟨fun i k hi hk => ⟨i, 0, ?_⟩, ?_⟩
  · simp only [RegDef.addrIn, Block.place, regAddr, AX_STAT] at hi hk ⊢; omega
  refine List.forall_mem_cons.mpr ⟨fun i k hi hk => ⟨i, 0, ?_⟩, ?_⟩
  · simp only [RegDef.addrIn, Block.place, regAddr, AX_EVT] at hi hk ⊢; omega
  refine List.forall_mem_cons.mpr ⟨fun i k hi hk => ⟨i, 0, ?_⟩, ?_⟩
  · simp only [RegDef.addrIn, Block.place, regAddr, AX_CHAIN] at hi hk ⊢; omega
  refine List.forall_mem_cons.mpr ⟨fun i k hi hk => ⟨i, 0, ?_⟩, ?_⟩
  · simp only [RegDef.addrIn, Block.place, regAddr, AX_CHAINST] at hi hk ⊢; omega
  refine List.forall_mem_cons.mpr ⟨fun i k hi hk => ⟨i, 0, ?_⟩, ?_⟩
  · simp only [RegDef.addrIn, Block.place, regAddr, AX_FOLLOW] at hi hk ⊢; omega
  refine List.forall_mem_cons.mpr ⟨fun i k hi hk => ⟨i, 0, ?_⟩, ?_⟩
  · simp only [RegDef.addrIn, Block.place, regAddr, AX_GEARNUM] at hi hk ⊢; omega
  refine List.forall_mem_cons.mpr ⟨fun i k hi hk => ⟨i, 0, ?_⟩, ?_⟩
  · simp only [RegDef.addrIn, Block.place, regAddr, AX_GEARDEN] at hi hk ⊢; omega
  refine List.forall_mem_cons.mpr ⟨fun i k hi hk => ⟨i, 0, ?_⟩, ?_⟩
  · simp only [RegDef.addrIn, Block.place, regAddr, AX_FLWERR] at hi hk ⊢; omega
  refine List.forall_mem_cons.mpr ⟨fun i k hi hk => ⟨i, 0, ?_⟩, ?_⟩
  · simp only [RegDef.addrIn, Block.place, regAddr, AX_HALTCFG] at hi hk ⊢; omega
  refine List.forall_mem_cons.mpr ⟨fun i k hi hk => ⟨i, 0, ?_⟩, ?_⟩
  · simp only [RegDef.addrIn, Block.place, regAddr, AX_STARTCFG] at hi hk ⊢; omega
  refine List.forall_mem_cons.mpr ⟨fun i k hi hk => ⟨i, 0, ?_⟩, ?_⟩
  · simp only [RegDef.addrIn, Block.place, regAddr, AX_STARTSTAT] at hi hk ⊢; omega
  refine List.forall_mem_cons.mpr ⟨fun i k hi hk => ⟨i, 0, ?_⟩, ?_⟩
  · simp only [RegDef.addrIn, Block.place, regAddr, AX_LOOPS] at hi hk ⊢; omega
  refine List.forall_mem_cons.mpr ⟨fun i k hi hk => ⟨i, 0, ?_⟩, ?_⟩
  · simp only [RegDef.addrIn, Block.place, regAddr, AX_CS] at hi hk ⊢; omega
  exact fun _ h => absurd h List.not_mem_nil

theorem axRegs2_at : ∀ d ∈ axRegs2, ∀ i k, i < Block.AX.place.2.1 → (d.count ≤ 1 → k = 0) → d.reg.at (d.addrIn .AX i k) := by
  unfold axRegs2
  refine List.forall_mem_cons.mpr ⟨fun i k hi hk => ⟨i, 0, ?_⟩, ?_⟩
  · simp only [RegDef.addrIn, Block.place, regAddr, AX_CSLIM] at hi hk ⊢; omega
  refine List.forall_mem_cons.mpr ⟨fun i k hi hk => ⟨i, 0, ?_⟩, ?_⟩
  · simp only [RegDef.addrIn, Block.place, regAddr, AX_TRIM] at hi hk ⊢; omega
  refine List.forall_mem_cons.mpr ⟨fun i k hi hk => ⟨i, 0, ?_⟩, ?_⟩
  · simp only [RegDef.addrIn, Block.place, regAddr, AX_CSEFF] at hi hk ⊢; omega
  refine List.forall_mem_cons.mpr ⟨fun i k hi hk => ⟨i, 0, ?_⟩, ?_⟩
  · simp only [RegDef.addrIn, Block.place, regAddr, AX_THR] at hi hk ⊢; omega
  refine List.forall_mem_cons.mpr ⟨fun i k hi hk => ⟨i, 0, ?_⟩, ?_⟩
  · simp only [RegDef.addrIn, Block.place, regAddr, AX_DECAY] at hi hk ⊢; omega
  refine List.forall_mem_cons.mpr ⟨fun i k hi hk => ⟨i, 0, ?_⟩, ?_⟩
  · simp only [RegDef.addrIn, Block.place, regAddr, AX_DECAYST] at hi hk ⊢; omega
  refine List.forall_mem_cons.mpr ⟨fun i k hi hk => ⟨i, 0, ?_⟩, ?_⟩
  · simp only [RegDef.addrIn, Block.place, regAddr, AX_STANDSTILL] at hi hk ⊢; omega
  refine List.forall_mem_cons.mpr ⟨fun i k hi hk => ⟨i, 0, ?_⟩, ?_⟩
  · simp only [RegDef.addrIn, Block.place, regAddr, AX_SSTAT] at hi hk ⊢; omega
  refine List.forall_mem_cons.mpr ⟨fun i k hi hk => ⟨i, 0, ?_⟩, ?_⟩
  · simp only [RegDef.addrIn, Block.place, regAddr, AX_WAVESEL] at hi hk ⊢; omega
  refine List.forall_mem_cons.mpr ⟨fun i k hi hk => ⟨i, 0, ?_⟩, ?_⟩
  · simp only [RegDef.addrIn, Block.place, regAddr, AX_RESBAND0] at hi hk ⊢; omega
  refine List.forall_mem_cons.mpr ⟨fun i k hi hk => ⟨i, 0, ?_⟩, ?_⟩
  · simp only [RegDef.addrIn, Block.place, regAddr, AX_RESBAND1] at hi hk ⊢; omega
  refine List.forall_mem_cons.mpr ⟨fun i k hi hk => ⟨i, 0, ?_⟩, ?_⟩
  · simp only [RegDef.addrIn, Block.place, regAddr, AX_USTAT] at hi hk ⊢; omega
  refine List.forall_mem_cons.mpr ⟨fun i k hi hk => ⟨i, 0, ?_⟩, ?_⟩
  · simp only [RegDef.addrIn, Block.place, regAddr, AX_BEMFCFG] at hi hk ⊢; omega
  refine List.forall_mem_cons.mpr ⟨fun i k hi hk => ⟨i, 0, ?_⟩, ?_⟩
  · simp only [RegDef.addrIn, Block.place, regAddr, AX_BEMFSPD] at hi hk ⊢; omega
  refine List.forall_mem_cons.mpr ⟨fun i k hi hk => ⟨i, 0, ?_⟩, ?_⟩
  · simp only [RegDef.addrIn, Block.place, regAddr, AX_BEMFKE] at hi hk ⊢; omega
  refine List.forall_mem_cons.mpr ⟨fun i k hi hk => ⟨i, 0, ?_⟩, ?_⟩
  · simp only [RegDef.addrIn, Block.place, regAddr, AX_STALLCFG] at hi hk ⊢; omega
  exact fun _ h => absurd h List.not_mem_nil

theorem axRegs3_at : ∀ d ∈ axRegs3, ∀ i k, i < Block.AX.place.2.1 → (d.count ≤ 1 → k = 0) → d.reg.at (d.addrIn .AX i k) := by
  unfold axRegs3
  refine List.forall_mem_cons.mpr ⟨fun i k hi hk => ⟨i, 0, ?_⟩, ?_⟩
  · simp only [RegDef.addrIn, Block.place, regAddr, AX_LA] at hi hk ⊢; omega
  refine List.forall_mem_cons.mpr ⟨fun i k hi hk => ⟨i, 0, ?_⟩, ?_⟩
  · simp only [RegDef.addrIn, Block.place, regAddr, AX_STALLST] at hi hk ⊢; omega
  refine List.forall_mem_cons.mpr ⟨fun i k hi hk => ⟨i, 0, ?_⟩, ?_⟩
  · simp only [RegDef.addrIn, Block.place, regAddr, AX_LACTL] at hi hk ⊢; omega
  refine List.forall_mem_cons.mpr ⟨fun i k hi hk => ⟨i, 0, ?_⟩, ?_⟩
  · simp only [RegDef.addrIn, Block.place, regAddr, AX_BEMFCNT] at hi hk ⊢; omega
  refine List.forall_mem_cons.mpr ⟨fun i k hi hk => ⟨i, 0, ?_⟩, ?_⟩
  · simp only [RegDef.addrIn, Block.place, regAddr, AX_HOMECFG] at hi hk ⊢; omega
  refine List.forall_mem_cons.mpr ⟨fun i k hi hk => ⟨i, 0, ?_⟩, ?_⟩
  · simp only [RegDef.addrIn, Block.place, regAddr, AX_HOMEMAX] at hi hk ⊢; omega
  refine List.forall_mem_cons.mpr ⟨fun i k hi hk => ⟨i, 0, ?_⟩, ?_⟩
  · simp only [RegDef.addrIn, Block.place, regAddr, AX_HOMEBACK] at hi hk ⊢; omega
  refine List.forall_mem_cons.mpr ⟨fun i k hi hk => ⟨i, 0, ?_⟩, ?_⟩
  · simp only [RegDef.addrIn, Block.place, regAddr, AX_HOMEOFS_LO] at hi hk ⊢; omega
  refine List.forall_mem_cons.mpr ⟨fun i k hi hk => ⟨i, 0, ?_⟩, ?_⟩
  · simp only [RegDef.addrIn, Block.place, regAddr, AX_HOMEOFS_HI] at hi hk ⊢; omega
  refine List.forall_mem_cons.mpr ⟨fun i k hi hk => ⟨i, 0, ?_⟩, ?_⟩
  · simp only [RegDef.addrIn, Block.place, regAddr, AX_HOMEST] at hi hk ⊢; omega
  refine List.forall_mem_cons.mpr ⟨fun i k hi hk => ⟨i, 0, ?_⟩, ?_⟩
  · simp only [RegDef.addrIn, Block.place, regAddr, AX_WITCFG] at hi hk ⊢; omega
  refine List.forall_mem_cons.mpr ⟨fun i k hi hk => ⟨i, 0, ?_⟩, ?_⟩
  · simp only [RegDef.addrIn, Block.place, regAddr, AX_WITGAIN] at hi hk ⊢; omega
  refine List.forall_mem_cons.mpr ⟨fun i k hi hk => ⟨i, 0, ?_⟩, ?_⟩
  · simp only [RegDef.addrIn, Block.place, regAddr, AX_WITOFS_LO] at hi hk ⊢; omega
  refine List.forall_mem_cons.mpr ⟨fun i k hi hk => ⟨i, 0, ?_⟩, ?_⟩
  · simp only [RegDef.addrIn, Block.place, regAddr, AX_WITOFS_HI] at hi hk ⊢; omega
  refine List.forall_mem_cons.mpr ⟨fun i k hi hk => ⟨i, 0, ?_⟩, ?_⟩
  · simp only [RegDef.addrIn, Block.place, regAddr, AX_WITTOL] at hi hk ⊢; omega
  refine List.forall_mem_cons.mpr ⟨fun i k hi hk => ⟨i, 0, ?_⟩, ?_⟩
  · simp only [RegDef.addrIn, Block.place, regAddr, AX_WITST] at hi hk ⊢; omega
  exact fun _ h => absurd h List.not_mem_nil

theorem axRegs4_at : ∀ d ∈ axRegs4, ∀ i k, i < Block.AX.place.2.1 → (d.count ≤ 1 → k = 0) → d.reg.at (d.addrIn .AX i k) := by
  unfold axRegs4
  refine List.forall_mem_cons.mpr ⟨fun i k hi hk => ⟨i, 0, ?_⟩, ?_⟩
  · simp only [RegDef.addrIn, Block.place, regAddr, AX_ENERGY_LO] at hi hk ⊢; omega
  refine List.forall_mem_cons.mpr ⟨fun i k hi hk => ⟨i, 0, ?_⟩, ?_⟩
  · simp only [RegDef.addrIn, Block.place, regAddr, AX_ENERGY_HI] at hi hk ⊢; omega
  refine List.forall_mem_cons.mpr ⟨fun i k hi hk => ⟨i, 0, ?_⟩, ?_⟩
  · simp only [RegDef.addrIn, Block.place, regAddr, AX_MOVEEN] at hi hk ⊢; omega
  refine List.forall_mem_cons.mpr ⟨fun i k hi hk => ⟨i, 0, ?_⟩, ?_⟩
  · simp only [RegDef.addrIn, Block.place, regAddr, AX_EPFS] at hi hk ⊢; omega
  refine List.forall_mem_cons.mpr ⟨fun i k hi hk => ⟨i, 0, ?_⟩, ?_⟩
  · simp only [RegDef.addrIn, Block.place, regAddr, AX_FLTCFG] at hi hk ⊢; omega
  refine List.forall_mem_cons.mpr ⟨fun i k hi hk => ⟨i, 0, ?_⟩, ?_⟩
  · simp only [RegDef.addrIn, Block.place, regAddr, AX_FLTSTAT] at hi hk ⊢; omega
  refine List.forall_mem_cons.mpr ⟨fun i k hi hk => ⟨i, 0, ?_⟩, ?_⟩
  · simp only [RegDef.addrIn, Block.place, regAddr, AX_FLTCTL] at hi hk ⊢; omega
  refine List.forall_mem_cons.mpr ⟨fun i k hi hk => ⟨i, 0, ?_⟩, ?_⟩
  · simp only [RegDef.addrIn, Block.place, regAddr, AX_FLTCNT] at hi hk ⊢; omega
  exact fun _ h => absurd h List.not_mem_nil

theorem legRegs0_at : ∀ d ∈ legRegs0, ∀ i k, i < Block.LEG.place.2.1 → (d.count ≤ 1 → k = 0) → d.reg.at (d.addrIn .LEG i k) := by
  unfold legRegs0
  refine List.forall_mem_cons.mpr ⟨fun i k hi hk => ⟨i, 0, ?_⟩, ?_⟩
  · simp only [RegDef.addrIn, Block.place, regAddr, LEG_CFG] at hi hk ⊢; omega
  refine List.forall_mem_cons.mpr ⟨fun i k hi hk => ⟨i, 0, ?_⟩, ?_⟩
  · simp only [RegDef.addrIn, Block.place, regAddr, LEG_STAT] at hi hk ⊢; omega
  refine List.forall_mem_cons.mpr ⟨fun i k hi hk => ⟨i, 0, ?_⟩, ?_⟩
  · simp only [RegDef.addrIn, Block.place, regAddr, LEG_EDGE] at hi hk ⊢; omega
  refine List.forall_mem_cons.mpr ⟨fun i k hi hk => ⟨i, 0, ?_⟩, ?_⟩
  · simp only [RegDef.addrIn, Block.place, regAddr, LEG_FLTCNT] at hi hk ⊢; omega
  refine List.forall_mem_cons.mpr ⟨fun i k hi hk => ⟨i, 0, ?_⟩, ?_⟩
  · simp only [RegDef.addrIn, Block.place, regAddr, LEG_TEST] at hi hk ⊢; omega
  refine List.forall_mem_cons.mpr ⟨fun i k hi hk => ⟨i, 0, ?_⟩, ?_⟩
  · simp only [RegDef.addrIn, Block.place, regAddr, LEG_TRIP] at hi hk ⊢; omega
  exact fun _ h => absurd h List.not_mem_nil

theorem rkRegs0_at : ∀ d ∈ rkRegs0, ∀ i k, i < Block.RK.place.2.1 → (d.count ≤ 1 → k = 0) → d.reg.at (d.addrIn .RK i k) := by
  unfold rkRegs0
  refine List.forall_mem_cons.mpr ⟨fun i k hi hk => ⟨i, 0, ?_⟩, ?_⟩
  · simp only [RegDef.addrIn, Block.place, regAddr, RK_MODE] at hi hk ⊢; omega
  refine List.forall_mem_cons.mpr ⟨fun i k hi hk => ⟨i, 0, ?_⟩, ?_⟩
  · simp only [RegDef.addrIn, Block.place, regAddr, RK_STAT] at hi hk ⊢; omega
  refine List.forall_mem_cons.mpr ⟨fun i k hi hk => ⟨i, 0, ?_⟩, ?_⟩
  · simp only [RegDef.addrIn, Block.place, regAddr, RK_VCP] at hi hk ⊢; omega
  refine List.forall_mem_cons.mpr ⟨fun i k hi hk => ⟨i, 0, ?_⟩, ?_⟩
  · simp only [RegDef.addrIn, Block.place, regAddr, RK_IMB] at hi hk ⊢; omega
  refine List.forall_mem_cons.mpr ⟨fun i k hi hk => ⟨i, 0, ?_⟩, ?_⟩
  · simp only [RegDef.addrIn, Block.place, regAddr, RK_BALCFG] at hi hk ⊢; omega
  refine List.forall_mem_cons.mpr ⟨fun i k hi hk => ⟨i, 0, ?_⟩, ?_⟩
  · simp only [RegDef.addrIn, Block.place, regAddr, RK_FLTSTAT] at hi hk ⊢; omega
  refine List.forall_mem_cons.mpr ⟨fun i k hi hk => ⟨i, 0, ?_⟩, ?_⟩
  · simp only [RegDef.addrIn, Block.place, regAddr, RK_FLTCTL] at hi hk ⊢; omega
  refine List.forall_mem_cons.mpr ⟨fun i k hi hk => ⟨i, 0, ?_⟩, ?_⟩
  · simp only [RegDef.addrIn, Block.place, regAddr, RK_TRIPMAP] at hi hk ⊢; omega
  refine List.forall_mem_cons.mpr ⟨fun i k hi hk => ⟨i, 0, ?_⟩, ?_⟩
  · simp only [RegDef.addrIn, Block.place, regAddr, RK_THERM] at hi hk ⊢; omega
  exact fun _ h => absurd h List.not_mem_nil

theorem coRegs0_at : ∀ d ∈ coRegs0, ∀ i k, i < Block.CO.place.2.1 → (d.count ≤ 1 → k = 0) → d.reg.at (d.addrIn .CO i k) := by
  unfold coRegs0
  refine List.forall_mem_cons.mpr ⟨fun i k hi hk => ⟨i, 0, ?_⟩, ?_⟩
  · simp only [RegDef.addrIn, Block.place, regAddr, CO_PWMPER] at hi hk ⊢; omega
  refine List.forall_mem_cons.mpr ⟨fun i k hi hk => ⟨i, 0, ?_⟩, ?_⟩
  · simp only [RegDef.addrIn, Block.place, regAddr, CO_BLANK] at hi hk ⊢; omega
  refine List.forall_mem_cons.mpr ⟨fun i k hi hk => ⟨i, 0, ?_⟩, ?_⟩
  · simp only [RegDef.addrIn, Block.place, regAddr, CO_CHOPCFG] at hi hk ⊢; omega
  refine List.forall_mem_cons.mpr ⟨fun i k hi hk => ⟨i, 0, ?_⟩, ?_⟩
  · simp only [RegDef.addrIn, Block.place, regAddr, CO_PERCNT] at hi hk ⊢; omega
  refine List.forall_mem_cons.mpr ⟨fun i k hi hk => ⟨i, 0, ?_⟩, ?_⟩
  · simp only [RegDef.addrIn, Block.place, regAddr, CO_DTRIM] at hi hk ⊢; omega
  refine List.forall_mem_cons.mpr ⟨fun i k hi hk => ⟨i, 0, ?_⟩, ?_⟩
  · simp only [RegDef.addrIn, Block.place, regAddr, CO_SLEWTGT] at hi hk ⊢; omega
  refine List.forall_mem_cons.mpr ⟨fun i k hi hk => ⟨i, 0, ?_⟩, ?_⟩
  · simp only [RegDef.addrIn, Block.place, regAddr, CO_DEADT] at hi hk ⊢; omega
  refine List.forall_mem_cons.mpr ⟨fun i k hi hk => ⟨i, k, ?_⟩, ?_⟩
  · simp only [RegDef.addrIn, Block.place, regAddr, CO_TEMP] at hi hk ⊢; omega
  refine List.forall_mem_cons.mpr ⟨fun i k hi hk => ⟨i, 0, ?_⟩, ?_⟩
  · simp only [RegDef.addrIn, Block.place, regAddr, CO_TEMPMAX] at hi hk ⊢; omega
  refine List.forall_mem_cons.mpr ⟨fun i k hi hk => ⟨i, 0, ?_⟩, ?_⟩
  · simp only [RegDef.addrIn, Block.place, regAddr, CO_STAT] at hi hk ⊢; omega
  refine List.forall_mem_cons.mpr ⟨fun i k hi hk => ⟨i, 0, ?_⟩, ?_⟩
  · simp only [RegDef.addrIn, Block.place, regAddr, CO_PROTCFG] at hi hk ⊢; omega
  refine List.forall_mem_cons.mpr ⟨fun i k hi hk => ⟨i, 0, ?_⟩, ?_⟩
  · simp only [RegDef.addrIn, Block.place, regAddr, CO_VM] at hi hk ⊢; omega
  refine List.forall_mem_cons.mpr ⟨fun i k hi hk => ⟨i, 0, ?_⟩, ?_⟩
  · simp only [RegDef.addrIn, Block.place, regAddr, CO_FLTSTAT] at hi hk ⊢; omega
  refine List.forall_mem_cons.mpr ⟨fun i k hi hk => ⟨i, 0, ?_⟩, ?_⟩
  · simp only [RegDef.addrIn, Block.place, regAddr, CO_FLTCTL] at hi hk ⊢; omega
  refine List.forall_mem_cons.mpr ⟨fun i k hi hk => ⟨i, 0, ?_⟩, ?_⟩
  · simp only [RegDef.addrIn, Block.place, regAddr, CO_LINKCFG] at hi hk ⊢; omega
  refine List.forall_mem_cons.mpr ⟨fun i k hi hk => ⟨i, 0, ?_⟩, ?_⟩
  · simp only [RegDef.addrIn, Block.place, regAddr, CO_LINKSTAT] at hi hk ⊢; omega
  exact fun _ h => absurd h List.not_mem_nil

theorem coRegs1_at : ∀ d ∈ coRegs1, ∀ i k, i < Block.CO.place.2.1 → (d.count ≤ 1 → k = 0) → d.reg.at (d.addrIn .CO i k) := by
  unfold coRegs1
  refine List.forall_mem_cons.mpr ⟨fun i k hi hk => ⟨i, 0, ?_⟩, ?_⟩
  · simp only [RegDef.addrIn, Block.place, regAddr, CO_LINKERR] at hi hk ⊢; omega
  exact fun _ h => absurd h List.not_mem_nil

theorem segRegs0_at : ∀ d ∈ segRegs0, ∀ i k, i < Block.SEG.place.2.1 → (d.count ≤ 1 → k = 0) → d.reg.at (d.addrIn .SEG i k) := by
  unfold segRegs0
  refine List.forall_mem_cons.mpr ⟨fun i k hi hk => ⟨i, 0, ?_⟩, ?_⟩
  · simp only [RegDef.addrIn, Block.place, regAddr, SEG0] at hi hk ⊢; omega
  refine List.forall_mem_cons.mpr ⟨fun i k hi hk => ⟨i, 0, ?_⟩, ?_⟩
  · simp only [RegDef.addrIn, Block.place, regAddr, SEG1] at hi hk ⊢; omega
  refine List.forall_mem_cons.mpr ⟨fun i k hi hk => ⟨i, 0, ?_⟩, ?_⟩
  · simp only [RegDef.addrIn, Block.place, regAddr, SEG2] at hi hk ⊢; omega
  refine List.forall_mem_cons.mpr ⟨fun i k hi hk => ⟨i, 0, ?_⟩, ?_⟩
  · simp only [RegDef.addrIn, Block.place, regAddr, SEG3] at hi hk ⊢; omega
  exact fun _ h => absurd h List.not_mem_nil

theorem waveRegs0_at : ∀ d ∈ waveRegs0, ∀ i k, i < Block.WAVE.place.2.1 → (d.count ≤ 1 → k = 0) → d.reg.at (d.addrIn .WAVE i k) := by
  unfold waveRegs0
  refine List.forall_mem_cons.mpr ⟨fun i k hi hk => ⟨i, k, ?_⟩, ?_⟩
  · simp only [RegDef.addrIn, Block.place, regAddr, WAVE] at hi hk ⊢; omega
  refine List.forall_mem_cons.mpr ⟨fun i k hi hk => ⟨i, 0, ?_⟩, ?_⟩
  · simp only [RegDef.addrIn, Block.place, regAddr, WAVE_CTL] at hi hk ⊢; omega
  refine List.forall_mem_cons.mpr ⟨fun i k hi hk => ⟨i, 0, ?_⟩, ?_⟩
  · simp only [RegDef.addrIn, Block.place, regAddr, WAVE_STAT] at hi hk ⊢; omega
  exact fun _ h => absurd h List.not_mem_nil

theorem encRegs0_at : ∀ d ∈ encRegs0, ∀ i k, i < Block.ENC.place.2.1 → (d.count ≤ 1 → k = 0) → d.reg.at (d.addrIn .ENC i k) := by
  unfold encRegs0
  refine List.forall_mem_cons.mpr ⟨fun i k hi hk => ⟨i, 0, ?_⟩, ?_⟩
  · simp only [RegDef.addrIn, Block.place, regAddr, ENC_CFG] at hi hk ⊢; omega
  refine List.forall_mem_cons.mpr ⟨fun i k hi hk => ⟨i, 0, ?_⟩, ?_⟩
  · simp only [RegDef.addrIn, Block.place, regAddr, ENC_FILT] at hi hk ⊢; omega
  refine List.forall_mem_cons.mpr ⟨fun i k hi hk => ⟨i, 0, ?_⟩, ?_⟩
  · simp only [RegDef.addrIn, Block.place, regAddr, ENC_CNT] at hi hk ⊢; omega
  refine List.forall_mem_cons.mpr ⟨fun i k hi hk => ⟨i, 0, ?_⟩, ?_⟩
  · simp only [RegDef.addrIn, Block.place, regAddr, ENC_ZLATCH] at hi hk ⊢; omega
  refine List.forall_mem_cons.mpr ⟨fun i k hi hk => ⟨i, 0, ?_⟩, ?_⟩
  · simp only [RegDef.addrIn, Block.place, regAddr, ENC_ZVAL] at hi hk ⊢; omega
  refine List.forall_mem_cons.mpr ⟨fun i k hi hk => ⟨i, 0, ?_⟩, ?_⟩
  · simp only [RegDef.addrIn, Block.place, regAddr, ENC_STAT] at hi hk ⊢; omega
  refine List.forall_mem_cons.mpr ⟨fun i k hi hk => ⟨i, 0, ?_⟩, ?_⟩
  · simp only [RegDef.addrIn, Block.place, regAddr, ENC_ERR] at hi hk ⊢; omega
  refine List.forall_mem_cons.mpr ⟨fun i k hi hk => ⟨i, 0, ?_⟩, ?_⟩
  · simp only [RegDef.addrIn, Block.place, regAddr, ENC_ERRCFG] at hi hk ⊢; omega
  refine List.forall_mem_cons.mpr ⟨fun i k hi hk => ⟨i, 0, ?_⟩, ?_⟩
  · simp only [RegDef.addrIn, Block.place, regAddr, ENC_SPD] at hi hk ⊢; omega
  refine List.forall_mem_cons.mpr ⟨fun i k hi hk => ⟨i, 0, ?_⟩, ?_⟩
  · simp only [RegDef.addrIn, Block.place, regAddr, ENC_PER] at hi hk ⊢; omega
  refine List.forall_mem_cons.mpr ⟨fun i k hi hk => ⟨i, 0, ?_⟩, ?_⟩
  · simp only [RegDef.addrIn, Block.place, regAddr, ENC_SPDCFG] at hi hk ⊢; omega
  refine List.forall_mem_cons.mpr ⟨fun i k hi hk => ⟨i, 0, ?_⟩, ?_⟩
  · simp only [RegDef.addrIn, Block.place, regAddr, ENC_MCNT] at hi hk ⊢; omega
  refine List.forall_mem_cons.mpr ⟨fun i k hi hk => ⟨i, 0, ?_⟩, ?_⟩
  · simp only [RegDef.addrIn, Block.place, regAddr, CMP_CFG] at hi hk ⊢; omega
  refine List.forall_mem_cons.mpr ⟨fun i k hi hk => ⟨i, 0, ?_⟩, ?_⟩
  · simp only [RegDef.addrIn, Block.place, regAddr, CMP_POS] at hi hk ⊢; omega
  refine List.forall_mem_cons.mpr ⟨fun i k hi hk => ⟨i, 0, ?_⟩, ?_⟩
  · simp only [RegDef.addrIn, Block.place, regAddr, CMP_SPACING] at hi hk ⊢; omega
  refine List.forall_mem_cons.mpr ⟨fun i k hi hk => ⟨i, 0, ?_⟩, ?_⟩
  · simp only [RegDef.addrIn, Block.place, regAddr, CMP_COUNT] at hi hk ⊢; omega
  exact fun _ h => absurd h List.not_mem_nil

theorem encRegs1_at : ∀ d ∈ encRegs1, ∀ i k, i < Block.ENC.place.2.1 → (d.count ≤ 1 → k = 0) → d.reg.at (d.addrIn .ENC i k) := by
  unfold encRegs1
  refine List.forall_mem_cons.mpr ⟨fun i k hi hk => ⟨i, 0, ?_⟩, ?_⟩
  · simp only [RegDef.addrIn, Block.place, regAddr, CMP_STAT] at hi hk ⊢; omega
  refine List.forall_mem_cons.mpr ⟨fun i k hi hk => ⟨i, 0, ?_⟩, ?_⟩
  · simp only [RegDef.addrIn, Block.place, regAddr, CMP_CNTS] at hi hk ⊢; omega
  exact fun _ h => absurd h List.not_mem_nil

theorem stepRegs0_at : ∀ d ∈ stepRegs0, ∀ i k, i < Block.STEP.place.2.1 → (d.count ≤ 1 → k = 0) → d.reg.at (d.addrIn .STEP i k) := by
  unfold stepRegs0
  refine List.forall_mem_cons.mpr ⟨fun i k hi hk => ⟨i, 0, ?_⟩, ?_⟩
  · simp only [RegDef.addrIn, Block.place, regAddr, STEP_CFG] at hi hk ⊢; omega
  refine List.forall_mem_cons.mpr ⟨fun i k hi hk => ⟨i, 0, ?_⟩, ?_⟩
  · simp only [RegDef.addrIn, Block.place, regAddr, STEP_FILT] at hi hk ⊢; omega
  refine List.forall_mem_cons.mpr ⟨fun i k hi hk => ⟨i, 0, ?_⟩, ?_⟩
  · simp only [RegDef.addrIn, Block.place, regAddr, STEP_CNT] at hi hk ⊢; omega
  refine List.forall_mem_cons.mpr ⟨fun i k hi hk => ⟨i, 0, ?_⟩, ?_⟩
  · simp only [RegDef.addrIn, Block.place, regAddr, STEP_TIMING] at hi hk ⊢; omega
  refine List.forall_mem_cons.mpr ⟨fun i k hi hk => ⟨i, 0, ?_⟩, ?_⟩
  · simp only [RegDef.addrIn, Block.place, regAddr, STEP_STAT] at hi hk ⊢; omega
  refine List.forall_mem_cons.mpr ⟨fun i k hi hk => ⟨i, 0, ?_⟩, ?_⟩
  · simp only [RegDef.addrIn, Block.place, regAddr, STEP_ERR] at hi hk ⊢; omega
  refine List.forall_mem_cons.mpr ⟨fun i k hi hk => ⟨i, 0, ?_⟩, ?_⟩
  · simp only [RegDef.addrIn, Block.place, regAddr, STEP_MCNT] at hi hk ⊢; omega
  exact fun _ h => absurd h List.not_mem_nil

theorem afeRegs0_at : ∀ d ∈ afeRegs0, ∀ i k, i < Block.AFE.place.2.1 → (d.count ≤ 1 → k = 0) → d.reg.at (d.addrIn .AFE i k) := by
  unfold afeRegs0
  refine List.forall_mem_cons.mpr ⟨fun i k hi hk => ⟨k, 0, ?_⟩, ?_⟩
  · simp only [RegDef.addrIn, Block.place, regAddr, AFE_CFGA] at hi hk ⊢; omega
  refine List.forall_mem_cons.mpr ⟨fun i k hi hk => ⟨k, 0, ?_⟩, ?_⟩
  · simp only [RegDef.addrIn, Block.place, regAddr, AFE_CFGB] at hi hk ⊢; omega
  refine List.forall_mem_cons.mpr ⟨fun i k hi hk => ⟨k, 0, ?_⟩, ?_⟩
  · simp only [RegDef.addrIn, Block.place, regAddr, AFE_CFGC] at hi hk ⊢; omega
  refine List.forall_mem_cons.mpr ⟨fun i k hi hk => ⟨0, 0, ?_⟩, ?_⟩
  · simp only [RegDef.addrIn, Block.place, regAddr, AFE_IEXC] at hi hk ⊢; omega
  refine List.forall_mem_cons.mpr ⟨fun i k hi hk => ⟨0, 0, ?_⟩, ?_⟩
  · simp only [RegDef.addrIn, Block.place, regAddr, AFE_VEXC] at hi hk ⊢; omega
  refine List.forall_mem_cons.mpr ⟨fun i k hi hk => ⟨0, 0, ?_⟩, ?_⟩
  · simp only [RegDef.addrIn, Block.place, regAddr, AFE_TDAC] at hi hk ⊢; omega
  refine List.forall_mem_cons.mpr ⟨fun i k hi hk => ⟨0, 0, ?_⟩, ?_⟩
  · simp only [RegDef.addrIn, Block.place, regAddr, AFE_RREF] at hi hk ⊢; omega
  refine List.forall_mem_cons.mpr ⟨fun i k hi hk => ⟨0, 0, ?_⟩, ?_⟩
  · simp only [RegDef.addrIn, Block.place, regAddr, AFE_STAT] at hi hk ⊢; omega
  refine List.forall_mem_cons.mpr ⟨fun i k hi hk => ⟨0, 0, ?_⟩, ?_⟩
  · simp only [RegDef.addrIn, Block.place, regAddr, AFE_BRK] at hi hk ⊢; omega
  refine List.forall_mem_cons.mpr ⟨fun i k hi hk => ⟨0, 0, ?_⟩, ?_⟩
  · simp only [RegDef.addrIn, Block.place, regAddr, AFE_BRKCNT] at hi hk ⊢; omega
  refine List.forall_mem_cons.mpr ⟨fun i k hi hk => ⟨0, 0, ?_⟩, ?_⟩
  · simp only [RegDef.addrIn, Block.place, regAddr, AFE_DUTY] at hi hk ⊢; omega
  exact fun _ h => absurd h List.not_mem_nil

theorem sdRegs0_at : ∀ d ∈ sdRegs0, ∀ i k, i < Block.SD.place.2.1 → (d.count ≤ 1 → k = 0) → d.reg.at (d.addrIn .SD i k) := by
  unfold sdRegs0
  refine List.forall_mem_cons.mpr ⟨fun i k hi hk => ⟨i, 0, ?_⟩, ?_⟩
  · simp only [RegDef.addrIn, Block.place, regAddr, SD_CFG] at hi hk ⊢; omega
  refine List.forall_mem_cons.mpr ⟨fun i k hi hk => ⟨i, 0, ?_⟩, ?_⟩
  · simp only [RegDef.addrIn, Block.place, regAddr, SD_CMD] at hi hk ⊢; omega
  refine List.forall_mem_cons.mpr ⟨fun i k hi hk => ⟨i, 0, ?_⟩, ?_⟩
  · simp only [RegDef.addrIn, Block.place, regAddr, SD_DIRECT] at hi hk ⊢; omega
  refine List.forall_mem_cons.mpr ⟨fun i k hi hk => ⟨i, 0, ?_⟩, ?_⟩
  · simp only [RegDef.addrIn, Block.place, regAddr, SD_SEQ0] at hi hk ⊢; omega
  refine List.forall_mem_cons.mpr ⟨fun i k hi hk => ⟨i, 0, ?_⟩, ?_⟩
  · simp only [RegDef.addrIn, Block.place, regAddr, SD_SEQ1] at hi hk ⊢; omega
  refine List.forall_mem_cons.mpr ⟨fun i k hi hk => ⟨i, 0, ?_⟩, ?_⟩
  · simp only [RegDef.addrIn, Block.place, regAddr, SD_SEQCTL] at hi hk ⊢; omega
  refine List.forall_mem_cons.mpr ⟨fun i k hi hk => ⟨i, 0, ?_⟩, ?_⟩
  · simp only [RegDef.addrIn, Block.place, regAddr, SD_AVG] at hi hk ⊢; omega
  refine List.forall_mem_cons.mpr ⟨fun i k hi hk => ⟨i, 0, ?_⟩, ?_⟩
  · simp only [RegDef.addrIn, Block.place, regAddr, SD_STAT] at hi hk ⊢; omega
  refine List.forall_mem_cons.mpr ⟨fun i k hi hk => ⟨i, 0, ?_⟩, ?_⟩
  · simp only [RegDef.addrIn, Block.place, regAddr, SD_RESULT] at hi hk ⊢; omega
  refine List.forall_mem_cons.mpr ⟨fun i k hi hk => ⟨i, 0, ?_⟩, ?_⟩
  · simp only [RegDef.addrIn, Block.place, regAddr, SD_RESINFO] at hi hk ⊢; omega
  refine List.forall_mem_cons.mpr ⟨fun i k hi hk => ⟨i, 0, ?_⟩, ?_⟩
  · simp only [RegDef.addrIn, Block.place, regAddr, SD_INJRESULT] at hi hk ⊢; omega
  refine List.forall_mem_cons.mpr ⟨fun i k hi hk => ⟨i, 0, ?_⟩, ?_⟩
  · simp only [RegDef.addrIn, Block.place, regAddr, SD_INJRESINFO] at hi hk ⊢; omega
  refine List.forall_mem_cons.mpr ⟨fun i k hi hk => ⟨i, 0, ?_⟩, ?_⟩
  · simp only [RegDef.addrIn, Block.place, regAddr, SD_CNT] at hi hk ⊢; omega
  refine List.forall_mem_cons.mpr ⟨fun i k hi hk => ⟨i, 0, ?_⟩, ?_⟩
  · simp only [RegDef.addrIn, Block.place, regAddr, SD_LINRES] at hi hk ⊢; omega
  refine List.forall_mem_cons.mpr ⟨fun i k hi hk => ⟨i, 0, ?_⟩, ?_⟩
  · simp only [RegDef.addrIn, Block.place, regAddr, SD_LINADDR] at hi hk ⊢; omega
  refine List.forall_mem_cons.mpr ⟨fun i k hi hk => ⟨i, 0, ?_⟩, ?_⟩
  · simp only [RegDef.addrIn, Block.place, regAddr, SD_LINDATA] at hi hk ⊢; omega
  exact fun _ h => absurd h List.not_mem_nil

theorem sdRegs1_at : ∀ d ∈ sdRegs1, ∀ i k, i < Block.SD.place.2.1 → (d.count ≤ 1 → k = 0) → d.reg.at (d.addrIn .SD i k) := by
  unfold sdRegs1
  refine List.forall_mem_cons.mpr ⟨fun i k hi hk => ⟨i, k, ?_⟩, ?_⟩
  · simp only [RegDef.addrIn, Block.place, regAddr, SD_CAL_OFS] at hi hk ⊢; omega
  refine List.forall_mem_cons.mpr ⟨fun i k hi hk => ⟨i, k, ?_⟩, ?_⟩
  · simp only [RegDef.addrIn, Block.place, regAddr, SD_CAL_GAIN] at hi hk ⊢; omega
  exact fun _ h => absurd h List.not_mem_nil

theorem evRegs0_at : ∀ d ∈ evRegs0, ∀ i k, i < Block.EV.place.2.1 → (d.count ≤ 1 → k = 0) → d.reg.at (d.addrIn .EV i k) := by
  unfold evRegs0
  refine List.forall_mem_cons.mpr ⟨fun i k hi hk => ⟨k, 0, ?_⟩, ?_⟩
  · simp only [RegDef.addrIn, Block.place, regAddr, EV_PEND] at hi hk ⊢; omega
  refine List.forall_mem_cons.mpr ⟨fun i k hi hk => ⟨k, 0, ?_⟩, ?_⟩
  · simp only [RegDef.addrIn, Block.place, regAddr, EV_EN] at hi hk ⊢; omega
  refine List.forall_mem_cons.mpr ⟨fun i k hi hk => ⟨k, 0, ?_⟩, ?_⟩
  · simp only [RegDef.addrIn, Block.place, regAddr, EV_ACT] at hi hk ⊢; omega
  refine List.forall_mem_cons.mpr ⟨fun i k hi hk => ⟨k, 0, ?_⟩, ?_⟩
  · simp only [RegDef.addrIn, Block.place, regAddr, EV_AXDONE] at hi hk ⊢; omega
  refine List.forall_mem_cons.mpr ⟨fun i k hi hk => ⟨0, 0, ?_⟩, ?_⟩
  · simp only [RegDef.addrIn, Block.place, regAddr, EV_GCFG] at hi hk ⊢; omega
  refine List.forall_mem_cons.mpr ⟨fun i k hi hk => ⟨0, 0, ?_⟩, ?_⟩
  · simp only [RegDef.addrIn, Block.place, regAddr, EV_IRQ0ID] at hi hk ⊢; omega
  refine List.forall_mem_cons.mpr ⟨fun i k hi hk => ⟨0, 0, ?_⟩, ?_⟩
  · simp only [RegDef.addrIn, Block.place, regAddr, EV_IRQ1ID] at hi hk ⊢; omega
  refine List.forall_mem_cons.mpr ⟨fun i k hi hk => ⟨0, 0, ?_⟩, ?_⟩
  · simp only [RegDef.addrIn, Block.place, regAddr, EV_PIN] at hi hk ⊢; omega
  refine List.forall_mem_cons.mpr ⟨fun i k hi hk => ⟨0, 0, ?_⟩, ?_⟩
  · simp only [RegDef.addrIn, Block.place, regAddr, EV_DOORBELL] at hi hk ⊢; omega
  refine List.forall_mem_cons.mpr ⟨fun i k hi hk => ⟨k, 0, ?_⟩, ?_⟩
  · simp only [RegDef.addrIn, Block.place, regAddr, EV_LEGFLT] at hi hk ⊢; omega
  refine List.forall_mem_cons.mpr ⟨fun i k hi hk => ⟨k, 0, ?_⟩, ?_⟩
  · simp only [RegDef.addrIn, Block.place, regAddr, EV_CFG] at hi hk ⊢; omega
  exact fun _ h => absurd h List.not_mem_nil

theorem plRegs0_at : ∀ d ∈ plRegs0, ∀ i k, i < Block.PL.place.2.1 → (d.count ≤ 1 → k = 0) → d.reg.at (d.addrIn .PL i k) := by
  unfold plRegs0
  refine List.forall_mem_cons.mpr ⟨fun i k hi hk => ⟨0, 0, ?_⟩, ?_⟩
  · simp only [RegDef.addrIn, Block.place, regAddr, PL_CMD] at hi hk ⊢; omega
  refine List.forall_mem_cons.mpr ⟨fun i k hi hk => ⟨0, 0, ?_⟩, ?_⟩
  · simp only [RegDef.addrIn, Block.place, regAddr, PL_STAT] at hi hk ⊢; omega
  refine List.forall_mem_cons.mpr ⟨fun i k hi hk => ⟨0, 0, ?_⟩, ?_⟩
  · simp only [RegDef.addrIn, Block.place, regAddr, PL_CFG] at hi hk ⊢; omega
  refine List.forall_mem_cons.mpr ⟨fun i k hi hk => ⟨0, 0, ?_⟩, ?_⟩
  · simp only [RegDef.addrIn, Block.place, regAddr, PL_XADDR] at hi hk ⊢; omega
  refine List.forall_mem_cons.mpr ⟨fun i k hi hk => ⟨0, 0, ?_⟩, ?_⟩
  · simp only [RegDef.addrIn, Block.place, regAddr, PL_BUDGET_VMA] at hi hk ⊢; omega
  refine List.forall_mem_cons.mpr ⟨fun i k hi hk => ⟨0, 0, ?_⟩, ?_⟩
  · simp only [RegDef.addrIn, Block.place, regAddr, PL_BUDGET_VMB] at hi hk ⊢; omega
  refine List.forall_mem_cons.mpr ⟨fun i k hi hk => ⟨0, 0, ?_⟩, ?_⟩
  · simp only [RegDef.addrIn, Block.place, regAddr, PL_BUDGET_PKG] at hi hk ⊢; omega
  refine List.forall_mem_cons.mpr ⟨fun i k hi hk => ⟨0, 0, ?_⟩, ?_⟩
  · simp only [RegDef.addrIn, Block.place, regAddr, PL_SKIPTOL] at hi hk ⊢; omega
  refine List.forall_mem_cons.mpr ⟨fun i k hi hk => ⟨k, 0, ?_⟩, ?_⟩
  · simp only [RegDef.addrIn, Block.place, regAddr, PL_BUDGET_COACH] at hi hk ⊢; omega
  refine List.forall_mem_cons.mpr ⟨fun i k hi hk => ⟨0, 0, ?_⟩, ?_⟩
  · simp only [RegDef.addrIn, Block.place, regAddr, PL_OVH] at hi hk ⊢; omega
  refine List.forall_mem_cons.mpr ⟨fun i k hi hk => ⟨k, 0, ?_⟩, ?_⟩
  · simp only [RegDef.addrIn, Block.place, regAddr, PL_RANKLIM] at hi hk ⊢; omega
  refine List.forall_mem_cons.mpr ⟨fun i k hi hk => ⟨k, 0, ?_⟩, ?_⟩
  · simp only [RegDef.addrIn, Block.place, regAddr, PL_SUM] at hi hk ⊢; omega
  refine List.forall_mem_cons.mpr ⟨fun i k hi hk => ⟨k, 0, ?_⟩, ?_⟩
  · simp only [RegDef.addrIn, Block.place, regAddr, PL_MOVERS] at hi hk ⊢; omega
  refine List.forall_mem_cons.mpr ⟨fun i k hi hk => ⟨0, 0, ?_⟩, ?_⟩
  · simp only [RegDef.addrIn, Block.place, regAddr, PL_MAKESPAN] at hi hk ⊢; omega
  refine List.forall_mem_cons.mpr ⟨fun i k hi hk => ⟨0, 0, ?_⟩, ?_⟩
  · simp only [RegDef.addrIn, Block.place, regAddr, PL_PRED] at hi hk ⊢; omega
  refine List.forall_mem_cons.mpr ⟨fun i k hi hk => ⟨0, 0, ?_⟩, ?_⟩
  · simp only [RegDef.addrIn, Block.place, regAddr, PL_ENERGY_LO] at hi hk ⊢; omega
  exact fun _ h => absurd h List.not_mem_nil

theorem plRegs1_at : ∀ d ∈ plRegs1, ∀ i k, i < Block.PL.place.2.1 → (d.count ≤ 1 → k = 0) → d.reg.at (d.addrIn .PL i k) := by
  unfold plRegs1
  refine List.forall_mem_cons.mpr ⟨fun i k hi hk => ⟨0, 0, ?_⟩, ?_⟩
  · simp only [RegDef.addrIn, Block.place, regAddr, PL_ENERGY_HI] at hi hk ⊢; omega
  refine List.forall_mem_cons.mpr ⟨fun i k hi hk => ⟨0, 0, ?_⟩, ?_⟩
  · simp only [RegDef.addrIn, Block.place, regAddr, PL_EVINFO] at hi hk ⊢; omega
  refine List.forall_mem_cons.mpr ⟨fun i k hi hk => ⟨k, 0, ?_⟩, ?_⟩
  · simp only [RegDef.addrIn, Block.place, regAddr, PL_RCPHDR] at hi hk ⊢; omega
  refine List.forall_mem_cons.mpr ⟨fun i k hi hk => ⟨k, 0, ?_⟩, ?_⟩
  · simp only [RegDef.addrIn, Block.place, regAddr, PL_AXLIVE] at hi hk ⊢; omega
  refine List.forall_mem_cons.mpr ⟨fun i k hi hk => ⟨k, 0, ?_⟩, ?_⟩
  · simp only [RegDef.addrIn, Block.place, regAddr, PL_AXMOT] at hi hk ⊢; omega
  refine List.forall_mem_cons.mpr ⟨fun i k hi hk => ⟨k, 0, ?_⟩, ?_⟩
  · simp only [RegDef.addrIn, Block.place, regAddr, PL_AXLRN] at hi hk ⊢; omega
  refine List.forall_mem_cons.mpr ⟨fun i k hi hk => ⟨k, 0, ?_⟩, ?_⟩
  · simp only [RegDef.addrIn, Block.place, regAddr, PL_ORD] at hi hk ⊢; omega
  refine List.forall_mem_cons.mpr ⟨fun i k hi hk => ⟨k, 0, ?_⟩, ?_⟩
  · simp only [RegDef.addrIn, Block.place, regAddr, PL_RCP0] at hi hk ⊢; omega
  refine List.forall_mem_cons.mpr ⟨fun i k hi hk => ⟨k, 0, ?_⟩, ?_⟩
  · simp only [RegDef.addrIn, Block.place, regAddr, PL_RCP1] at hi hk ⊢; omega
  refine List.forall_mem_cons.mpr ⟨fun i k hi hk => ⟨k, 0, ?_⟩, ?_⟩
  · simp only [RegDef.addrIn, Block.place, regAddr, PL_RCP2] at hi hk ⊢; omega
  refine List.forall_mem_cons.mpr ⟨fun i k hi hk => ⟨k, 0, ?_⟩, ?_⟩
  · simp only [RegDef.addrIn, Block.place, regAddr, PL_RCP3] at hi hk ⊢; omega
  refine List.forall_mem_cons.mpr ⟨fun i k hi hk => ⟨k, 0, ?_⟩, ?_⟩
  · simp only [RegDef.addrIn, Block.place, regAddr, PL_RES] at hi hk ⊢; omega
  refine List.forall_mem_cons.mpr ⟨fun i k hi hk => ⟨k, 0, ?_⟩, ?_⟩
  · simp only [RegDef.addrIn, Block.place, regAddr, PL_RES_START] at hi hk ⊢; omega
  refine List.forall_mem_cons.mpr ⟨fun i k hi hk => ⟨k, 0, ?_⟩, ?_⟩
  · simp only [RegDef.addrIn, Block.place, regAddr, PL_RES_END] at hi hk ⊢; omega
  refine List.forall_mem_cons.mpr ⟨fun i k hi hk => ⟨k, 0, ?_⟩, ?_⟩
  · simp only [RegDef.addrIn, Block.place, regAddr, PL_RES_TEST] at hi hk ⊢; omega
  refine List.forall_mem_cons.mpr ⟨fun i k hi hk => ⟨k, 0, ?_⟩, ?_⟩
  · simp only [RegDef.addrIn, Block.place, regAddr, PL_RES_EEST] at hi hk ⊢; omega
  exact fun _ h => absurd h List.not_mem_nil

theorem plRegs2_at : ∀ d ∈ plRegs2, ∀ i k, i < Block.PL.place.2.1 → (d.count ≤ 1 → k = 0) → d.reg.at (d.addrIn .PL i k) := by
  unfold plRegs2
  refine List.forall_mem_cons.mpr ⟨fun i k hi hk => ⟨k, 0, ?_⟩, ?_⟩
  · simp only [RegDef.addrIn, Block.place, regAddr, PL_RES_EACT] at hi hk ⊢; omega
  refine List.forall_mem_cons.mpr ⟨fun i k hi hk => ⟨k, 0, ?_⟩, ?_⟩
  · simp only [RegDef.addrIn, Block.place, regAddr, AXEN] at hi hk ⊢; omega
  refine List.forall_mem_cons.mpr ⟨fun i k hi hk => ⟨k, 0, ?_⟩, ?_⟩
  · simp only [RegDef.addrIn, Block.place, regAddr, AXSTART] at hi hk ⊢; omega
  refine List.forall_mem_cons.mpr ⟨fun i k hi hk => ⟨k, 0, ?_⟩, ?_⟩
  · simp only [RegDef.addrIn, Block.place, regAddr, AXALERT] at hi hk ⊢; omega
  exact fun _ h => absurd h List.not_mem_nil

theorem netRegs0_at : ∀ d ∈ netRegs0, ∀ i k, i < Block.NET.place.2.1 → (d.count ≤ 1 → k = 0) → d.reg.at (d.addrIn .NET i k) := by
  unfold netRegs0
  refine List.forall_mem_cons.mpr ⟨fun i k hi hk => ⟨k, 0, ?_⟩, ?_⟩
  · simp only [RegDef.addrIn, Block.place, regAddr, NET_CTL] at hi hk ⊢; omega
  refine List.forall_mem_cons.mpr ⟨fun i k hi hk => ⟨k, 0, ?_⟩, ?_⟩
  · simp only [RegDef.addrIn, Block.place, regAddr, NET_NBT] at hi hk ⊢; omega
  refine List.forall_mem_cons.mpr ⟨fun i k hi hk => ⟨k, 0, ?_⟩, ?_⟩
  · simp only [RegDef.addrIn, Block.place, regAddr, NET_DBT] at hi hk ⊢; omega
  refine List.forall_mem_cons.mpr ⟨fun i k hi hk => ⟨k, 0, ?_⟩, ?_⟩
  · simp only [RegDef.addrIn, Block.place, regAddr, NET_STAT] at hi hk ⊢; omega
  refine List.forall_mem_cons.mpr ⟨fun i k hi hk => ⟨k, 0, ?_⟩, ?_⟩
  · simp only [RegDef.addrIn, Block.place, regAddr, NET_CNT] at hi hk ⊢; omega
  refine List.forall_mem_cons.mpr ⟨fun i k hi hk => ⟨0, 0, ?_⟩, ?_⟩
  · simp only [RegDef.addrIn, Block.place, regAddr, NET_NODE] at hi hk ⊢; omega
  refine List.forall_mem_cons.mpr ⟨fun i k hi hk => ⟨0, 0, ?_⟩, ?_⟩
  · simp only [RegDef.addrIn, Block.place, regAddr, NET_GUARD] at hi hk ⊢; omega
  refine List.forall_mem_cons.mpr ⟨fun i k hi hk => ⟨0, 0, ?_⟩, ?_⟩
  · simp only [RegDef.addrIn, Block.place, regAddr, NET_SESS] at hi hk ⊢; omega
  refine List.forall_mem_cons.mpr ⟨fun i k hi hk => ⟨0, 0, ?_⟩, ?_⟩
  · simp only [RegDef.addrIn, Block.place, regAddr, NET_MAL] at hi hk ⊢; omega
  refine List.forall_mem_cons.mpr ⟨fun i k hi hk => ⟨0, 0, ?_⟩, ?_⟩
  · simp only [RegDef.addrIn, Block.place, regAddr, NET_HB] at hi hk ⊢; omega
  refine List.forall_mem_cons.mpr ⟨fun i k hi hk => ⟨k, 0, ?_⟩, ?_⟩
  · simp only [RegDef.addrIn, Block.place, regAddr, NET_HBACT] at hi hk ⊢; omega
  exact fun _ h => absurd h List.not_mem_nil

theorem sphRegs0_at : ∀ d ∈ sphRegs0, ∀ i k, i < Block.SPH.place.2.1 → (d.count ≤ 1 → k = 0) → d.reg.at (d.addrIn .SPH i k) := by
  unfold sphRegs0
  refine List.forall_mem_cons.mpr ⟨fun i k hi hk => ⟨0, 0, ?_⟩, ?_⟩
  · simp only [RegDef.addrIn, Block.place, regAddr, SPH_CFG] at hi hk ⊢; omega
  refine List.forall_mem_cons.mpr ⟨fun i k hi hk => ⟨0, 0, ?_⟩, ?_⟩
  · simp only [RegDef.addrIn, Block.place, regAddr, SPH_STAT] at hi hk ⊢; omega
  refine List.forall_mem_cons.mpr ⟨fun i k hi hk => ⟨0, 0, ?_⟩, ?_⟩
  · simp only [RegDef.addrIn, Block.place, regAddr, SPH_ERR] at hi hk ⊢; omega
  refine List.forall_mem_cons.mpr ⟨fun i k hi hk => ⟨0, 0, ?_⟩, ?_⟩
  · simp only [RegDef.addrIn, Block.place, regAddr, SPH_ERRCODE] at hi hk ⊢; omega
  refine List.forall_mem_cons.mpr ⟨fun i k hi hk => ⟨0, 0, ?_⟩, ?_⟩
  · simp only [RegDef.addrIn, Block.place, regAddr, SPH_CNT] at hi hk ⊢; omega
  exact fun _ h => absurd h List.not_mem_nil

theorem spmRegs0_at : ∀ d ∈ spmRegs0, ∀ i k, i < Block.SPM.place.2.1 → (d.count ≤ 1 → k = 0) → d.reg.at (d.addrIn .SPM i k) := by
  unfold spmRegs0
  refine List.forall_mem_cons.mpr ⟨fun i k hi hk => ⟨0, 0, ?_⟩, ?_⟩
  · simp only [RegDef.addrIn, Block.place, regAddr, SPM_CFG] at hi hk ⊢; omega
  refine List.forall_mem_cons.mpr ⟨fun i k hi hk => ⟨0, 0, ?_⟩, ?_⟩
  · simp only [RegDef.addrIn, Block.place, regAddr, SPM_CLK] at hi hk ⊢; omega
  refine List.forall_mem_cons.mpr ⟨fun i k hi hk => ⟨0, 0, ?_⟩, ?_⟩
  · simp only [RegDef.addrIn, Block.place, regAddr, SPM_XOFS] at hi hk ⊢; omega
  refine List.forall_mem_cons.mpr ⟨fun i k hi hk => ⟨0, 0, ?_⟩, ?_⟩
  · simp only [RegDef.addrIn, Block.place, regAddr, SPM_SFDP] at hi hk ⊢; omega
  refine List.forall_mem_cons.mpr ⟨fun i k hi hk => ⟨0, 0, ?_⟩, ?_⟩
  · simp only [RegDef.addrIn, Block.place, regAddr, SPM_CMD] at hi hk ⊢; omega
  refine List.forall_mem_cons.mpr ⟨fun i k hi hk => ⟨0, 0, ?_⟩, ?_⟩
  · simp only [RegDef.addrIn, Block.place, regAddr, SPM_ADDR] at hi hk ⊢; omega
  refine List.forall_mem_cons.mpr ⟨fun i k hi hk => ⟨0, 0, ?_⟩, ?_⟩
  · simp only [RegDef.addrIn, Block.place, regAddr, SPM_TXFIFO] at hi hk ⊢; omega
  refine List.forall_mem_cons.mpr ⟨fun i k hi hk => ⟨0, 0, ?_⟩, ?_⟩
  · simp only [RegDef.addrIn, Block.place, regAddr, SPM_RXFIFO] at hi hk ⊢; omega
  refine List.forall_mem_cons.mpr ⟨fun i k hi hk => ⟨0, 0, ?_⟩, ?_⟩
  · simp only [RegDef.addrIn, Block.place, regAddr, SPM_STAT] at hi hk ⊢; omega
  refine List.forall_mem_cons.mpr ⟨fun i k hi hk => ⟨0, 0, ?_⟩, ?_⟩
  · simp only [RegDef.addrIn, Block.place, regAddr, SPM_CTL] at hi hk ⊢; omega
  exact fun _ h => absurd h List.not_mem_nil

theorem mgsRegs0_at : ∀ d ∈ mgsRegs0, ∀ i k, i < Block.MGS.place.2.1 → (d.count ≤ 1 → k = 0) → d.reg.at (d.addrIn .MGS i k) := by
  unfold mgsRegs0
  refine List.forall_mem_cons.mpr ⟨fun i k hi hk => ⟨k, 0, ?_⟩, ?_⟩
  · simp only [RegDef.addrIn, Block.place, regAddr, MGS_MON] at hi hk ⊢; omega
  refine List.forall_mem_cons.mpr ⟨fun i k hi hk => ⟨0, 0, ?_⟩, ?_⟩
  · simp only [RegDef.addrIn, Block.place, regAddr, MGS_THCFG] at hi hk ⊢; omega
  refine List.forall_mem_cons.mpr ⟨fun i k hi hk => ⟨0, 0, ?_⟩, ?_⟩
  · simp only [RegDef.addrIn, Block.place, regAddr, MGS_WDCFG] at hi hk ⊢; omega
  refine List.forall_mem_cons.mpr ⟨fun i k hi hk => ⟨0, 0, ?_⟩, ?_⟩
  · simp only [RegDef.addrIn, Block.place, regAddr, MGS_LOGRPTR] at hi hk ⊢; omega
  refine List.forall_mem_cons.mpr ⟨fun i k hi hk => ⟨0, 0, ?_⟩, ?_⟩
  · simp only [RegDef.addrIn, Block.place, regAddr, MGS_LOGSTAT] at hi hk ⊢; omega
  refine List.forall_mem_cons.mpr ⟨fun i k hi hk => ⟨0, 0, ?_⟩, ?_⟩
  · simp only [RegDef.addrIn, Block.place, regAddr, MGS_LOGCFG] at hi hk ⊢; omega
  refine List.forall_mem_cons.mpr ⟨fun i k hi hk => ⟨0, 0, ?_⟩, ?_⟩
  · simp only [RegDef.addrIn, Block.place, regAddr, MGS_LOGDATA] at hi hk ⊢; omega
  refine List.forall_mem_cons.mpr ⟨fun i k hi hk => ⟨0, 0, ?_⟩, ?_⟩
  · simp only [RegDef.addrIn, Block.place, regAddr, MGS_UPDCTL] at hi hk ⊢; omega
  refine List.forall_mem_cons.mpr ⟨fun i k hi hk => ⟨0, 0, ?_⟩, ?_⟩
  · simp only [RegDef.addrIn, Block.place, regAddr, MGS_UPDSTAT] at hi hk ⊢; omega
  refine List.forall_mem_cons.mpr ⟨fun i k hi hk => ⟨0, 0, ?_⟩, ?_⟩
  · simp only [RegDef.addrIn, Block.place, regAddr, MGS_UPDADDR] at hi hk ⊢; omega
  refine List.forall_mem_cons.mpr ⟨fun i k hi hk => ⟨0, 0, ?_⟩, ?_⟩
  · simp only [RegDef.addrIn, Block.place, regAddr, MGS_UPDDATA] at hi hk ⊢; omega
  refine List.forall_mem_cons.mpr ⟨fun i k hi hk => ⟨0, 0, ?_⟩, ?_⟩
  · simp only [RegDef.addrIn, Block.place, regAddr, MGS_RBCNT] at hi hk ⊢; omega
  refine List.forall_mem_cons.mpr ⟨fun i k hi hk => ⟨k, 0, ?_⟩, ?_⟩
  · simp only [RegDef.addrIn, Block.place, regAddr, MGS_AUCHAL] at hi hk ⊢; omega
  refine List.forall_mem_cons.mpr ⟨fun i k hi hk => ⟨k, 0, ?_⟩, ?_⟩
  · simp only [RegDef.addrIn, Block.place, regAddr, MGS_AURESP] at hi hk ⊢; omega
  refine List.forall_mem_cons.mpr ⟨fun i k hi hk => ⟨0, 0, ?_⟩, ?_⟩
  · simp only [RegDef.addrIn, Block.place, regAddr, MGS_AUSTAT] at hi hk ⊢; omega
  refine List.forall_mem_cons.mpr ⟨fun i k hi hk => ⟨0, 0, ?_⟩, ?_⟩
  · simp only [RegDef.addrIn, Block.place, regAddr, MGS_SECCMD] at hi hk ⊢; omega
  exact fun _ h => absurd h List.not_mem_nil

theorem mgsRegs1_at : ∀ d ∈ mgsRegs1, ∀ i k, i < Block.MGS.place.2.1 → (d.count ≤ 1 → k = 0) → d.reg.at (d.addrIn .MGS i k) := by
  unfold mgsRegs1
  refine List.forall_mem_cons.mpr ⟨fun i k hi hk => ⟨0, 0, ?_⟩, ?_⟩
  · simp only [RegDef.addrIn, Block.place, regAddr, MGS_SECSTAT] at hi hk ⊢; omega
  refine List.forall_mem_cons.mpr ⟨fun i k hi hk => ⟨0, 0, ?_⟩, ?_⟩
  · simp only [RegDef.addrIn, Block.place, regAddr, MGS_ALCFG] at hi hk ⊢; omega
  refine List.forall_mem_cons.mpr ⟨fun i k hi hk => ⟨0, 0, ?_⟩, ?_⟩
  · simp only [RegDef.addrIn, Block.place, regAddr, MGS_ALSTAT] at hi hk ⊢; omega
  refine List.forall_mem_cons.mpr ⟨fun i k hi hk => ⟨0, 0, ?_⟩, ?_⟩
  · simp only [RegDef.addrIn, Block.place, regAddr, MGS_PROV] at hi hk ⊢; omega
  refine List.forall_mem_cons.mpr ⟨fun i k hi hk => ⟨k, 0, ?_⟩, ?_⟩
  · simp only [RegDef.addrIn, Block.place, regAddr, MGS_SECBUF] at hi hk ⊢; omega
  refine List.forall_mem_cons.mpr ⟨fun i k hi hk => ⟨0, 0, ?_⟩, ?_⟩
  · simp only [RegDef.addrIn, Block.place, regAddr, TRIO_CFG] at hi hk ⊢; omega
  refine List.forall_mem_cons.mpr ⟨fun i k hi hk => ⟨0, 0, ?_⟩, ?_⟩
  · simp only [RegDef.addrIn, Block.place, regAddr, TRIO_STAT] at hi hk ⊢; omega
  refine List.forall_mem_cons.mpr ⟨fun i k hi hk => ⟨0, 0, ?_⟩, ?_⟩
  · simp only [RegDef.addrIn, Block.place, regAddr, TRIO_MM] at hi hk ⊢; omega
  refine List.forall_mem_cons.mpr ⟨fun i k hi hk => ⟨0, 0, ?_⟩, ?_⟩
  · simp only [RegDef.addrIn, Block.place, regAddr, TRIO_CNT] at hi hk ⊢; omega
  refine List.forall_mem_cons.mpr ⟨fun i k hi hk => ⟨0, 0, ?_⟩, ?_⟩
  · simp only [RegDef.addrIn, Block.place, regAddr, TRIO_INDIS] at hi hk ⊢; omega
  refine List.forall_mem_cons.mpr ⟨fun i k hi hk => ⟨0, 0, ?_⟩, ?_⟩
  · simp only [RegDef.addrIn, Block.place, regAddr, TRIO_STEST] at hi hk ⊢; omega
  refine List.forall_mem_cons.mpr ⟨fun i k hi hk => ⟨0, 0, ?_⟩, ?_⟩
  · simp only [RegDef.addrIn, Block.place, regAddr, TRIO_SRAM] at hi hk ⊢; omega
  refine List.forall_mem_cons.mpr ⟨fun i k hi hk => ⟨0, 0, ?_⟩, ?_⟩
  · simp only [RegDef.addrIn, Block.place, regAddr, TRIO_CTL] at hi hk ⊢; omega
  exact fun _ h => absurd h List.not_mem_nil

theorem regs_at (b : Block) : ∀ d ∈ b.regs, ∀ i k, i < b.place.2.1 → (d.count ≤ 1 → k = 0) → d.reg.at (d.addrIn b i k) := by
  intro d hd
  cases b <;> simp only [Block.regs, gctlRegs, axRegs, legRegs, rkRegs, coRegs, segRegs, waveRegs, encRegs, stepRegs, afeRegs, sdRegs, evRegs, plRegs, netRegs, sphRegs, spmRegs, mgsRegs, List.mem_append] at hd
  · rcases hd with h | h
    · exact gctlRegs0_at d h
    · exact gctlRegs1_at d h
  · rcases hd with (((h | h) | h) | h) | h
    · exact axRegs0_at d h
    · exact axRegs1_at d h
    · exact axRegs2_at d h
    · exact axRegs3_at d h
    · exact axRegs4_at d h
  · exact legRegs0_at d hd
  · exact rkRegs0_at d hd
  · rcases hd with h | h
    · exact coRegs0_at d h
    · exact coRegs1_at d h
  · exact segRegs0_at d hd
  · exact waveRegs0_at d hd
  · rcases hd with h | h
    · exact encRegs0_at d h
    · exact encRegs1_at d h
  · exact stepRegs0_at d hd
  · exact afeRegs0_at d hd
  · rcases hd with h | h
    · exact sdRegs0_at d h
    · exact sdRegs1_at d h
  · exact evRegs0_at d hd
  · rcases hd with (h | h) | h
    · exact plRegs0_at d h
    · exact plRegs1_at d h
    · exact plRegs2_at d h
  · exact netRegs0_at d hd
  · exact sphRegs0_at d hd
  · exact spmRegs0_at d hd
  · rcases hd with h | h
    · exact mgsRegs0_at d h
    · exact mgsRegs1_at d h

/-- A register found at an address is the register of that address. -/
theorem locate_at {addr : Nat} {l : Loc} (h : locate addr = some l) (hc : l.compl = false) : l.defn.reg.at addr := by
  have e := locate_addr h
  rw [hc] at e
  obtain ⟨_, h1, h2, h3, _⟩ := locate_some h
  rw [e]
  exact regs_at l.blk l.defn h1 _ _ h2 h3

end Sys2Proof.Machine
end

