-- ==== Sys2Proof/Laws/OkOperands.lean ====
section
/-!
SUPPORT. Laws/OkOperands.lean: for each operation of Machine/Operands.lean, the parts of the state it can change, and that it keeps a
good state good.
-/

namespace Sys2Proof.Machine

set_option Elab.async false

theorem recordErr_ok : ∀ x0 x1 x2 s, Ok [.trioQ, .emcyQ, .logQ, .logWin, .power, .reg .EV_PEND, .reg .GCTL_BUSERR, .reg .GCTL_BUSERRADDR, .reg .GCTL_BUSERRCNT, .reg .MGS_LOGSTAT] s (@recordErr x0 x1 x2 s) := by
  intro x0 x1 x2 s
  delta recordErr
  extract_lets +onlyGivenNames -merge -useContext s0
  refine Ok.withS (x := s0) ?_ fun h1 => ?_
  · unfold s0
    refine Ok.ite ?_ ?_
    · refine Ok.via (State.put_at (at_GCTL_BUSERR)) rfl ?_
      exact Ok.refl
    · refine Ok.via (State.put_at (at_GCTL_BUSERRADDR)) rfl ?_
      refine Ok.via (State.put_at (at_GCTL_BUSERR)) rfl ?_
      refine Ok.via (State.put_at (at_GCTL_BUSERR)) rfl ?_
      refine Ok.via (State.put_at (at_GCTL_BUSERR)) rfl ?_
      exact Ok.refl
  clear_value s0
  extract_lets +onlyGivenNames -merge -useContext s2
  refine Ok.withS (x := s2) ?_ fun h3 => ?_
  · unfold s2
    refine Ok.via (State.inc_at (at_GCTL_BUSERRCNT)) rfl ?_
    exact h1
  clear_value s2
  refine Ok.ite ?_ ?_
  · refine Ok.via (pendD4_ok ..) rfl ?_
    exact h3
  · refine Ok.via (pendSrc_ok ..) rfl ?_
    exact h3

theorem busFail_ok : ∀ x0 x1 x2 s, Ok [.replies, .trioQ, .emcyQ, .logQ, .logWin, .power, .reg .EV_PEND, .reg .GCTL_BUSERR, .reg .GCTL_BUSERRADDR, .reg .GCTL_BUSERRCNT, .reg .MGS_LOGSTAT] s (@busFail x0 x1 x2 s) := by
  intro x0 x1 x2 s
  delta busFail
  refine Ok.via (State.answer_ok ..) rfl ?_
  refine Ok.via (recordErr_ok ..) rfl ?_
  exact Ok.refl

theorem reportClamp_ok : ∀ a c s, Ok [.net] s (reportClamp a c s) := by
  intro a c s
  delta reportClamp
  split
  extract_lets x
  refine Ok.net fun h => ?_
  obtain ⟨h1, h2, h3, h4, h5, h6⟩ := h
  exact ⟨h1, h2, h3, h4, List.length_take_le _ _, h6⟩

theorem recordClamp_ok : ∀ x0 x1 x2 s, Ok [.trioQ, .emcyQ, .logQ, .logWin, .net, .reg .EV_PEND, .reg .GCTL_CLAMPADDR, .reg .GCTL_CLAMPAPP, .reg .GCTL_CLAMPAPPHI, .reg .GCTL_CLAMPREQ, .reg .GCTL_CLAMPREQHI, .reg .MGS_LOGSTAT] s (@recordClamp x0 x1 x2 s) := by
  intro x0 x1 x2 s
  delta recordClamp
  extract_lets +onlyGivenNames -merge -useContext s0
  refine Ok.withS (x := s0) ?_ fun h1 => ?_
  · unfold s0
    refine Ok.ite ?_ ?_
    · refine Ok.via (State.put_at (at_GCTL_CLAMPADDR)) rfl ?_
      exact Ok.refl
    · exact Ok.refl
  clear_value s0
  extract_lets +onlyGivenNames -merge -useContext s2
  refine Ok.withS (x := s2) ?_ fun h3 => ?_
  · unfold s2
    refine Ok.via (State.put_at (at_GCTL_CLAMPADDR)) rfl ?_
    refine Ok.via (State.putB_at (at_GCTL_CLAMPADDR)) rfl ?_
    refine Ok.via (State.put_at (at_GCTL_CLAMPADDR)) rfl ?_
    exact h1
  clear_value s2
  extract_lets +onlyGivenNames -merge -useContext s4
  refine Ok.withS (x := s4) ?_ fun h5 => ?_
  · unfold s4
    refine Ok.via (State.wr_at (at_GCTL_CLAMPAPP)) rfl ?_
    refine Ok.via (State.wr_at (at_GCTL_CLAMPREQ)) rfl ?_
    exact h3
  clear_value s4
  extract_lets +onlyGivenNames -merge -useContext s6
  refine Ok.withS (x := s6) ?_ fun h7 => ?_
  · unfold s6
    refine Ok.via (State.wr_at (at_GCTL_CLAMPAPPHI)) rfl ?_
    refine Ok.via (State.wr_at (at_GCTL_CLAMPREQHI)) rfl ?_
    exact h5
  clear_value s6
  refine Ok.via (pend_ok ..) rfl ?_
  refine Ok.via (reportClamp_ok ..) rfl ?_
  exact h7

theorem recordClamps_ok : ∀ x0 x1 s, Ok [.trioQ, .emcyQ, .logQ, .logWin, .net, .reg .EV_PEND, .reg .GCTL_CLAMPADDR, .reg .GCTL_CLAMPAPP, .reg .GCTL_CLAMPAPPHI, .reg .GCTL_CLAMPREQ, .reg .GCTL_CLAMPREQHI, .reg .MGS_LOGSTAT] s (@recordClamps x0 x1 s) := by
  intro x0 x1 s
  delta recordClamps
  refine Ok.foldl ?_ ?_
  · intro u0 x1
    refine Ok.via (recordClamp_ok ..) rfl ?_
    exact Ok.refl
  · exact Ok.refl

end Sys2Proof.Machine
end

