-- ==== Sys2Proof/Laws/OkPlanOps.lean ====
section
/-!
SUPPORT. Laws/OkPlanOps.lean: for each operation of Machine/PlanOps.lean, the parts of the state it can change, and that it keeps a
good state good.
-/

namespace Sys2Proof.Machine

set_option Elab.async false

theorem learnEntry_ok : ∀ x0 x1 s, Ok [.reg .PL_AXLRN] s (@learnEntry x0 x1 s) := by
  intro x0 x1 s
  delta learnEntry
  extract_lets +onlyGivenNames -merge -useContext s0
  clear_value s0
  refine Ok.ite ?_ ?_
  · exact Ok.refl
  · extract_lets +onlyGivenNames -merge -useContext s1
    clear_value s1
    extract_lets +onlyGivenNames -merge -useContext s2
    clear_value s2
    extract_lets +onlyGivenNames -merge -useContext s3
    clear_value s3
    extract_lets +onlyGivenNames -merge -useContext s4
    clear_value s4
    extract_lets +onlyGivenNames -merge -useContext s5
    clear_value s5
    extract_lets +onlyGivenNames -merge -useContext s6
    clear_value s6
    extract_lets +onlyGivenNames -merge -useContext s7
    clear_value s7
    extract_lets +onlyGivenNames -merge -useContext s8
    clear_value s8
    extract_lets +onlyGivenNames -merge -useContext s9
    clear_value s9
    extract_lets +onlyGivenNames -merge -useContext s10
    refine Ok.withS (x := s10) ?_ fun h11 => ?_
    · unfold s10
      refine Ok.via (State.put_at (at_PL_AXLRN _)) rfl ?_
      exact Ok.refl
    clear_value s10
    extract_lets +onlyGivenNames -merge -useContext s12
    refine Ok.withS (x := s12) ?_ fun h13 => ?_
    · unfold s12
      refine Ok.via (State.put_at (at_PL_AXLRN _)) rfl ?_
      exact h11
    clear_value s12
    refine Ok.via (State.put_at (at_PL_AXLRN _)) rfl ?_
    exact h13

theorem endEntry_ok : ∀ x0 x1 x2 s, Ok [.pl, .reg .PL_ENERGY_HI, .reg .PL_ENERGY_LO, .reg .PL_EVINFO, .reg .PL_MAKESPAN, .reg .PL_RES, .reg .PL_RES_EACT, .reg .PL_RES_END, .reg .PL_STAT] s (@endEntry x0 x1 x2 s) := by
  intro x0 x1 x2 s
  delta endEntry
  extract_lets +onlyGivenNames -merge -useContext s0
  clear_value s0
  extract_lets +onlyGivenNames -merge -useContext s1
  clear_value s1
  extract_lets +onlyGivenNames -merge -useContext s2
  refine Ok.withS (x := s2) ?_ fun h3 => ?_
  · unfold s2
    refine Ok.via (State.put_at (at_PL_RES_END _)) rfl ?_
    refine Ok.via (State.put_at (at_PL_RES _)) rfl ?_
    refine Ok.via (State.put_at (at_PL_RES _)) rfl ?_
    refine Ok.via (State.put_at (at_PL_RES _)) rfl ?_
    exact Ok.refl
  clear_value s2
  extract_lets +onlyGivenNames -merge -useContext s4
  refine Ok.withS (x := s4) ?_ fun h5 => ?_
  · unfold s4
    refine Ok.via (State.put_at (at_PL_MAKESPAN)) rfl ?_
    exact h3
  clear_value s4
  extract_lets +onlyGivenNames -merge -useContext s6 s7
  refine Ok.withS (x := s7) ?_ fun h8 => ?_
  · unfold s7
    refine Ok.via Ok.pl rfl ?_
    exact h5
  clear_value s6 s7
  extract_lets +onlyGivenNames -merge -useContext s9 s10
  refine Ok.withS (x := s9) ?_ fun h11 => ?_
  · unfold s9
    refine Ok.via (State.put_at (at_PL_RES_EACT _)) rfl ?_
    exact h8
  refine Ok.withS (x := s10) ?_ fun h12 => ?_
  · unfold s10
    refine Ok.ite ?_ ?_
    · refine Ok.via (State.putPair_at (at_PL_ENERGY_LO) (hi_PL_ENERGY_LO)) rfl ?_
      exact h11
    · exact h8
  clear_value s9 s10
  refine Ok.ite ?_ ?_
  · extract_lets +onlyGivenNames -merge -useContext s13
    clear_value s13
    extract_lets +onlyGivenNames -merge -useContext s14
    refine Ok.withS (x := s14) ?_ fun h15 => ?_
    · unfold s14
      refine Ok.via (State.inc_at (at_PL_STAT)) rfl ?_
      exact h12
    clear_value s14
    extract_lets +onlyGivenNames -merge -useContext s16
    refine Ok.withS (x := s16) ?_ fun h17 => ?_
    · unfold s16
      refine Ok.ite ?_ ?_
      · refine Ok.via (State.put_at (at_PL_EVINFO)) rfl ?_
        exact h15
      · exact h15
    clear_value s16
    refine Ok.ite ?_ ?_
    · refine Ok.via Ok.pl rfl ?_
      exact h17
    · exact h17
  · exact h12

theorem planCause_ok : ∀ x0 x1 s, Ok [.pl, .reg .PL_ENERGY_HI, .reg .PL_ENERGY_LO, .reg .PL_EVINFO, .reg .PL_MAKESPAN, .reg .PL_RES, .reg .PL_RES_EACT, .reg .PL_RES_END, .reg .PL_STAT] s (@planCause x0 x1 s) := by
  intro x0 x1 s
  delta planCause
  split
  · exact Ok.refl
  · refine Ok.ite ?_ ?_
    · refine Ok.via Ok.pl rfl ?_
      exact Ok.refl
    · refine Ok.via (endEntry_ok ..) rfl ?_
      exact Ok.refl

theorem planRunCause_ok : ∀ x0 x1 s, Ok [.pl, .reg .PL_ENERGY_HI, .reg .PL_ENERGY_LO, .reg .PL_EVINFO, .reg .PL_MAKESPAN, .reg .PL_RES, .reg .PL_RES_EACT, .reg .PL_RES_END, .reg .PL_STAT] s (@planRunCause x0 x1 s) := by
  intro x0 x1 s
  delta planRunCause
  split
  · exact Ok.refl
  · refine Ok.ite ?_ ?_
    · refine Ok.via (planCause_ok ..) rfl ?_
      exact Ok.refl
    · exact Ok.refl

theorem planMoveEnd_ok : ∀ x0 x1 s, Ok [.pl, .reg .PL_ENERGY_HI, .reg .PL_ENERGY_LO, .reg .PL_EVINFO, .reg .PL_MAKESPAN, .reg .PL_RES, .reg .PL_RES_EACT, .reg .PL_RES_END, .reg .PL_STAT] s (@planMoveEnd x0 x1 s) := by
  intro x0 x1 s
  delta planMoveEnd
  split
  · exact Ok.refl
  · refine Ok.ite ?_ ?_
    · exact Ok.refl
    · refine Ok.ite ?_ ?_
      · extract_lets +onlyGivenNames -merge -useContext s0
        refine Ok.withS (x := s0) ?_ fun h1 => ?_
        · unfold s0
          refine Ok.via (endEntry_ok ..) rfl ?_
          refine Ok.via (State.put_at (at_PL_RES _)) rfl ?_
          exact Ok.refl
        clear_value s0
        refine Ok.via Ok.pl rfl ?_
        exact h1
      · refine Ok.via (endEntry_ok ..) rfl ?_
        exact Ok.refl

end Sys2Proof.Machine
end

