-- ==== Sys2Proof/Laws/OkMotionOps.lean ====
section
/-!
SUPPORT. Laws/OkMotionOps.lean: for each operation of Machine/MotionOps.lean, the parts of the state it can change, and that it keeps a
good state good.
-/

namespace Sys2Proof.Machine

set_option Elab.async false

theorem raiseDone_at {s : State} {a : Nat} {f : Fld} {r : RegName} (h : r.at f.addr) :
    Ok (.reg r :: [.trioQ, .emcyQ, .logQ, .logWin, .axes, .reg .EV_AXDONE, .reg .EV_PEND, .reg .MGS_LOGSTAT]) s (raiseDone a f s) := by
  unfold raiseDone
  have h1 : Ok (.reg r :: [.trioQ, .emcyQ, .logQ, .logWin, .axes, .reg .EV_AXDONE, .reg .EV_PEND, .reg .MGS_LOGSTAT]) s (s.put f 1) :=
    (State.put_at h).mono (by simp [within, covered])
  exact Ok.ite h1 (((h1.trans ((State.modMo_ok ..).mono (within_cons rfl))).trans ((pendDone_ok ..).mono (within_cons rfl))))

theorem raiseDone_ok : ∀ a f s, Ok [.regs, .trioQ, .emcyQ, .logQ, .logWin, .axes] s (raiseDone a f s) := by
  intro a f s
  unfold raiseDone
  exact Ok.ite ((State.put_ok ..).mono rfl) ((((State.put_ok ..).mono rfl).trans ((State.modMo_ok ..).mono rfl)).trans ((pendDone_ok ..).mono rfl))

theorem homeAbort_ok : ∀ x0 x1 s, Ok [.trioQ, .emcyQ, .logQ, .logWin, .pl, .reg .AXALERT, .reg .AX_HOMEST, .reg .EV_PEND, .reg .MGS_LOGSTAT, .reg .PL_ENERGY_HI, .reg .PL_ENERGY_LO, .reg .PL_EVINFO, .reg .PL_MAKESPAN, .reg .PL_RES, .reg .PL_RES_EACT, .reg .PL_RES_END, .reg .PL_STAT] s (@homeAbort x0 x1 s) := by
  intro x0 x1 s
  delta homeAbort
  refine Ok.ite ?_ ?_
  · refine Ok.via (planRunCause_ok ..) rfl ?_
    refine Ok.via (updAlert_ok ..) rfl ?_
    refine Ok.via (State.put_at (at_AX_HOMEST _)) rfl ?_
    refine Ok.via (State.put_at (at_AX_HOMEST _)) rfl ?_
    exact Ok.refl
  · exact Ok.refl

theorem homeReplaced_ok : ∀ x0 s, Ok [.trioQ, .emcyQ, .logQ, .logWin, .reg .AXALERT, .reg .AX_HOMEST, .reg .EV_PEND, .reg .MGS_LOGSTAT] s (@homeReplaced x0 s) := by
  intro x0 s
  delta homeReplaced
  refine Ok.ite ?_ ?_
  · refine Ok.via (updAlert_ok ..) rfl ?_
    refine Ok.via (State.put_at (at_AX_HOMEST _)) rfl ?_
    refine Ok.via (State.put_at (at_AX_HOMEST _)) rfl ?_
    exact Ok.refl
  · exact Ok.refl

theorem closeMove_ok : ∀ x0 s, Ok [.axes, .reg .AX_EPFS, .reg .AX_MOVEEN] s (@closeMove x0 s) := by
  intro x0 s
  delta closeMove
  extract_lets +onlyGivenNames -merge -useContext s0
  clear_value s0
  refine Ok.ite ?_ ?_
  · extract_lets +onlyGivenNames -merge -useContext s1
    clear_value s1
    extract_lets +onlyGivenNames -merge -useContext s2
    clear_value s2
    extract_lets +onlyGivenNames -merge -useContext s3
    clear_value s3
    extract_lets +onlyGivenNames -merge -useContext s4
    refine Ok.withS (x := s4) ?_ fun h5 => ?_
    · unfold s4
      refine Ok.via (State.modMo_ok ..) rfl ?_
      exact Ok.refl
    clear_value s4
    extract_lets +onlyGivenNames -merge -useContext s6
    refine Ok.withS (x := s6) ?_ fun h7 => ?_
    · unfold s6
      refine Ok.via (State.putI_at (at_AX_MOVEEN _)) rfl ?_
      exact h5
    clear_value s6
    refine Ok.via (State.put_at (at_AX_EPFS _)) rfl ?_
    exact h7
  · exact Ok.refl

theorem endMove_ok : ∀ x0 x1 s, Ok [.axes, .pl, .reg .AX_EPFS, .reg .AX_MOVEEN, .reg .AX_STAT, .reg .PL_ENERGY_HI, .reg .PL_ENERGY_LO, .reg .PL_EVINFO, .reg .PL_MAKESPAN, .reg .PL_RES, .reg .PL_RES_EACT, .reg .PL_RES_END, .reg .PL_STAT] s (@endMove x0 x1 s) := by
  intro x0 x1 s
  delta endMove
  extract_lets +onlyGivenNames -merge -useContext s0
  clear_value s0
  extract_lets +onlyGivenNames -merge -useContext s1
  refine Ok.withS (x := s1) ?_ fun h2 => ?_
  · unfold s1
    refine Ok.via (State.put_at (at_AX_STAT _)) rfl ?_
    refine Ok.via (State.put_at (at_AX_STAT _)) rfl ?_
    refine Ok.via (State.put_at (at_AX_STAT _)) rfl ?_
    refine Ok.via (State.put_at (at_AX_STAT _)) rfl ?_
    exact Ok.refl
  clear_value s1
  extract_lets +onlyGivenNames -merge -useContext s3
  refine Ok.withS (x := s3) ?_ fun h4 => ?_
  · unfold s3
    refine Ok.via (State.modMo_ok ..) rfl ?_
    exact h2
  clear_value s3
  extract_lets +onlyGivenNames -merge -useContext s5
  refine Ok.withS (x := s5) ?_ fun h6 => ?_
  · unfold s5
    refine Ok.via (closeMove_ok ..) rfl ?_
    exact h4
  clear_value s5
  refine Ok.ite ?_ ?_
  · refine Ok.via (planMoveEnd_ok ..) rfl ?_
    exact h6
  · exact h6

theorem clearResults_ok : ∀ x0 s, Ok [.axes] s (@clearResults x0 s) := by
  intro x0 s
  delta clearResults
  refine Ok.via (State.modSe_ok ..) rfl ?_
  exact Ok.refl

theorem haltNow_ok : ∀ x0 x1 s, Ok (.trioQ :: .emcyQ :: .logQ :: .logWin :: .axes :: .pl :: .reg .AXALERT :: .reg .AX_ACC :: .reg .AX_EPFS :: .reg .AX_HOMEST :: .reg .AX_MOVEEN :: .reg .AX_STALLST :: .reg .AX_STAT :: .reg .AX_USTAT :: .reg .AX_VEL :: .reg .EV_PEND :: .reg .MGS_LOGSTAT :: .reg .PL_ENERGY_HI :: .reg .PL_ENERGY_LO :: .reg .PL_EVINFO :: .reg .PL_MAKESPAN :: .reg .PL_RES :: .reg .PL_RES_EACT :: .reg .PL_RES_END :: .reg .PL_STAT :: []) s (@haltNow x0 x1 s) := by
  intro x0 x1 s
  delta haltNow
  extract_lets +onlyGivenNames -merge -useContext s0
  clear_value s0
  extract_lets +onlyGivenNames -merge -useContext s1
  clear_value s1
  extract_lets +onlyGivenNames -merge -useContext s2
  refine Ok.withS (x := s2) ?_ fun h3 => ?_
  · unfold s2
    refine Ok.via (homeAbort_ok ..) rfl ?_
    exact Ok.refl
  clear_value s2
  extract_lets +onlyGivenNames -merge -useContext s4
  refine Ok.withS (x := s4) ?_ fun h5 => ?_
  · unfold s4
    refine Ok.via (State.modMo_ok ..) rfl ?_
    exact h3
  clear_value s4
  extract_lets +onlyGivenNames -merge -useContext s6
  refine Ok.withS (x := s6) ?_ fun h7 => ?_
  · unfold s6
    refine Ok.via (State.put_at (at_AX_ACC _)) rfl ?_
    refine Ok.via (State.put_at (at_AX_VEL _)) rfl ?_
    refine Ok.via (State.put_at (at_AX_STAT _)) rfl ?_
    refine Ok.via (State.put_at (at_AX_STAT _)) rfl ?_
    refine Ok.via (State.put_at (at_AX_STAT _)) rfl ?_
    refine Ok.via (State.put_at (at_AX_STAT _)) rfl ?_
    exact h5
  clear_value s6
  extract_lets +onlyGivenNames -merge -useContext s8
  refine Ok.withS (x := s8) ?_ fun h9 => ?_
  · unfold s8
    refine Ok.via (State.put_at (at_AX_USTAT _)) rfl ?_
    refine Ok.via (State.put_at (at_AX_USTAT _)) rfl ?_
    refine Ok.via (State.put_at (at_AX_USTAT _)) rfl ?_
    exact h7
  clear_value s8
  extract_lets +onlyGivenNames -merge -useContext s10
  refine Ok.withS (x := s10) ?_ fun h12 => ?_
  · unfold s10
    refine Ok.applyIf ?_ ?_
    · intro a11
      refine Ok.via (State.put_at (at_AX_STAT _)) rfl ?_
      exact Ok.refl
    · exact h9
  clear_value s10
  extract_lets +onlyGivenNames -merge -useContext s13
  refine Ok.withS (x := s13) ?_ fun h14 => ?_
  · unfold s13
    refine Ok.via (State.put_at (at_AX_STALLST _)) rfl ?_
    refine Ok.via (clearResults_ok ..) rfl ?_
    exact h12
  clear_value s13
  extract_lets +onlyGivenNames -merge -useContext s15
  refine Ok.withS (x := s15) ?_ fun h16 => ?_
  · unfold s15
    refine Ok.via (State.modSe_ok ..) rfl ?_
    exact h14
  clear_value s15
  refine Ok.via (updAlert_ok ..) rfl ?_
  refine Ok.via (endMove_ok ..) rfl ?_
  exact h16

theorem disableNow_ok : ∀ x0 s, Ok (.trioQ :: .emcyQ :: .logQ :: .logWin :: .coaches :: .axes :: .pl :: .reg .AXALERT :: .reg .AXEN :: .reg .AX_ACC :: .reg .AX_EPFS :: .reg .AX_FLTSTAT :: .reg .AX_HOMEST :: .reg .AX_MOVEEN :: .reg .AX_SSTAT :: .reg .AX_STALLST :: .reg .AX_STAT :: .reg .AX_VEL :: .reg .EV_PEND :: .reg .MGS_LOGSTAT :: .reg .PL_ENERGY_HI :: .reg .PL_ENERGY_LO :: .reg .PL_EVINFO :: .reg .PL_MAKESPAN :: .reg .PL_RES :: .reg .PL_RES_EACT :: .reg .PL_RES_END :: .reg .PL_STAT :: []) s (@disableNow x0 s) := by
  intro x0 s
  delta disableNow
  extract_lets +onlyGivenNames -merge -useContext s0
  refine Ok.withS (x := s0) ?_ fun h1 => ?_
  · unfold s0
    refine Ok.via (homeAbort_ok ..) rfl ?_
    refine Ok.via (latchAxis_ok ..) rfl ?_
    exact Ok.refl
  clear_value s0
  extract_lets +onlyGivenNames -merge -useContext s2
  refine Ok.withS (x := s2) ?_ fun h3 => ?_
  · unfold s2
    refine Ok.via (State.modMo_ok ..) rfl ?_
    exact h1
  clear_value s2
  extract_lets +onlyGivenNames -merge -useContext s4
  refine Ok.withS (x := s4) ?_ fun h5 => ?_
  · unfold s4
    refine Ok.via (State.put_at (at_AX_ACC _)) rfl ?_
    refine Ok.via (State.put_at (at_AX_VEL _)) rfl ?_
    refine Ok.via (State.put_at (at_AX_STAT _)) rfl ?_
    refine Ok.via (State.put_at (at_AX_STAT _)) rfl ?_
    refine Ok.via (State.put_at (at_AX_STAT _)) rfl ?_
    refine Ok.via (State.put_at (at_AX_STAT _)) rfl ?_
    refine Ok.via (State.put_at (at_AX_STAT _)) rfl ?_
    exact h3
  clear_value s4
  extract_lets +onlyGivenNames -merge -useContext s6
  refine Ok.withS (x := s6) ?_ fun h7 => ?_
  · unfold s6
    refine Ok.via (State.putBitAt_at (at_AXEN _)) rfl ?_
    exact h5
  clear_value s6
  extract_lets +onlyGivenNames -merge -useContext s8
  refine Ok.withS (x := s8) ?_ fun h9 => ?_
  · unfold s8
    refine Ok.via (State.put_at (at_AX_STALLST _)) rfl ?_
    refine Ok.via (clearResults_ok ..) rfl ?_
    exact h7
  clear_value s8
  extract_lets +onlyGivenNames -merge -useContext s10
  refine Ok.withS (x := s10) ?_ fun h11 => ?_
  · unfold s10
    refine Ok.via (endMove_ok ..) rfl ?_
    exact h9
  clear_value s10
  extract_lets +onlyGivenNames -merge -useContext s12
  refine Ok.withS (x := s12) ?_ fun h13 => ?_
  · unfold s12
    refine Ok.via (State.modMo_ok ..) rfl ?_
    exact h11
  clear_value s12
  refine Ok.via (State.put_at (at_AX_SSTAT _)) rfl ?_
  exact h13

theorem haltTick_ok : ∀ x0 s, Ok (.trioQ :: .emcyQ :: .logQ :: .logWin :: .coaches :: .axes :: .pl :: .reg .AXALERT :: .reg .AXEN :: .reg .AX_ACC :: .reg .AX_EPFS :: .reg .AX_FLTSTAT :: .reg .AX_HOMEST :: .reg .AX_MOVEEN :: .reg .AX_SSTAT :: .reg .AX_STALLST :: .reg .AX_STAT :: .reg .AX_USTAT :: .reg .AX_VEL :: .reg .EV_PEND :: .reg .MGS_LOGSTAT :: .reg .PL_ENERGY_HI :: .reg .PL_ENERGY_LO :: .reg .PL_EVINFO :: .reg .PL_MAKESPAN :: .reg .PL_RES :: .reg .PL_RES_EACT :: .reg .PL_RES_END :: .reg .PL_STAT :: []) s (@haltTick x0 s) := by
  intro x0 s
  delta haltTick
  extract_lets +onlyGivenNames -merge -useContext s0
  refine Ok.withS (x := s0) ?_ fun h1 => ?_
  · unfold s0
    refine Ok.via (haltNow_ok ..) rfl ?_
    exact Ok.refl
  clear_value s0
  refine Ok.ite ?_ ?_
  · refine Ok.via (disableNow_ok ..) rfl ?_
    exact h1
  · exact h1

theorem stopDone_ok : ∀ x0 s, Ok (.trioQ :: .emcyQ :: .logQ :: .logWin :: .coaches :: .axes :: .pl :: .reg .AXALERT :: .reg .AXEN :: .reg .AX_ACC :: .reg .AX_EPFS :: .reg .AX_EVT :: .reg .AX_FLTSTAT :: .reg .AX_HOMEST :: .reg .AX_MOVEEN :: .reg .AX_SSTAT :: .reg .AX_STALLST :: .reg .AX_STAT :: .reg .AX_VEL :: .reg .EV_AXDONE :: .reg .EV_PEND :: .reg .MGS_LOGSTAT :: .reg .PL_ENERGY_HI :: .reg .PL_ENERGY_LO :: .reg .PL_EVINFO :: .reg .PL_MAKESPAN :: .reg .PL_RES :: .reg .PL_RES_EACT :: .reg .PL_RES_END :: .reg .PL_STAT :: []) s (@stopDone x0 s) := by
  intro x0 s
  delta stopDone
  extract_lets +onlyGivenNames -merge -useContext s0
  clear_value s0
  extract_lets +onlyGivenNames -merge -useContext s1
  refine Ok.withS (x := s1) ?_ fun h2 => ?_
  · unfold s1
    refine Ok.via (State.put_at (at_AX_STAT _)) rfl ?_
    exact Ok.refl
  clear_value s1
  extract_lets +onlyGivenNames -merge -useContext s3
  refine Ok.withS (x := s3) ?_ fun h4 => ?_
  · unfold s3
    refine Ok.ite ?_ ?_
    · exact h2
    · refine Ok.via (raiseDone_at (at_AX_EVT _)) rfl ?_
      exact h2
  clear_value s3
  extract_lets +onlyGivenNames -merge -useContext s5
  refine Ok.withS (x := s5) ?_ fun h6 => ?_
  · unfold s5
    refine Ok.via (endMove_ok ..) rfl ?_
    exact h4
  clear_value s5
  refine Ok.ite ?_ ?_
  · refine Ok.via (disableNow_ok ..) rfl ?_
    exact h6
  · exact h6

theorem beginStop_ok : ∀ x0 x1 x2 s, Ok (.trioQ :: .emcyQ :: .logQ :: .logWin :: .coaches :: .axes :: .pl :: .reg .AXALERT :: .reg .AXEN :: .reg .AX_ACC :: .reg .AX_EPFS :: .reg .AX_EVT :: .reg .AX_FLTSTAT :: .reg .AX_HOMEST :: .reg .AX_MOVEEN :: .reg .AX_SSTAT :: .reg .AX_STALLST :: .reg .AX_STAT :: .reg .AX_VEL :: .reg .EV_AXDONE :: .reg .EV_PEND :: .reg .MGS_LOGSTAT :: .reg .PL_ENERGY_HI :: .reg .PL_ENERGY_LO :: .reg .PL_EVINFO :: .reg .PL_MAKESPAN :: .reg .PL_RES :: .reg .PL_RES_EACT :: .reg .PL_RES_END :: .reg .PL_STAT :: []) s (@beginStop x0 x1 x2 s) := by
  intro x0 x1 x2 s
  delta beginStop
  refine Ok.ite ?_ ?_
  · exact Ok.refl
  · extract_lets +onlyGivenNames -merge -useContext s0
    refine Ok.withS (x := s0) ?_ fun h1 => ?_
    · unfold s0
      refine Ok.via (homeAbort_ok ..) rfl ?_
      exact Ok.refl
    clear_value s0
    extract_lets +onlyGivenNames -merge -useContext s2
    refine Ok.withS (x := s2) ?_ fun h3 => ?_
    · unfold s2
      refine Ok.via (State.put_at (at_AX_STAT _)) rfl ?_
      refine Ok.via (State.put_at (at_AX_STAT _)) rfl ?_
      exact h1
    clear_value s2
    extract_lets +onlyGivenNames -merge -useContext s4
    refine Ok.withS (x := s4) ?_ fun h5 => ?_
    · unfold s4
      refine Ok.via (State.modMo_ok ..) rfl ?_
      refine Ok.via (State.put_at (at_AX_STAT _)) rfl ?_
      exact h3
    clear_value s4
    refine Ok.ite ?_ ?_
    · refine Ok.via (stopDone_ok ..) rfl ?_
      exact h5
    · exact h5

theorem quickStop_ok : ∀ x0 s, Ok (.trioQ :: .emcyQ :: .logQ :: .logWin :: .coaches :: .axes :: .pl :: .reg .AXALERT :: .reg .AXEN :: .reg .AX_ACC :: .reg .AX_EPFS :: .reg .AX_EVT :: .reg .AX_FLTSTAT :: .reg .AX_HOMEST :: .reg .AX_MOVEEN :: .reg .AX_SSTAT :: .reg .AX_STALLST :: .reg .AX_STAT :: .reg .AX_VEL :: .reg .EV_AXDONE :: .reg .EV_PEND :: .reg .MGS_LOGSTAT :: .reg .PL_ENERGY_HI :: .reg .PL_ENERGY_LO :: .reg .PL_EVINFO :: .reg .PL_MAKESPAN :: .reg .PL_RES :: .reg .PL_RES_EACT :: .reg .PL_RES_END :: .reg .PL_STAT :: []) s (@quickStop x0 s) := by
  intro x0 s
  delta quickStop
  refine Ok.via (beginStop_ok ..) rfl ?_
  exact Ok.refl

theorem chainError_ok : ∀ x0 x1 s, Ok (.trioQ :: .emcyQ :: .logQ :: .logWin :: .coaches :: .axes :: .pl :: .reg .AXALERT :: .reg .AXEN :: .reg .AX_ACC :: .reg .AX_EPFS :: .reg .AX_EVT :: .reg .AX_FLTSTAT :: .reg .AX_HOMEST :: .reg .AX_MOVEEN :: .reg .AX_SSTAT :: .reg .AX_STALLST :: .reg .AX_STAT :: .reg .AX_VEL :: .reg .EV_AXDONE :: .reg .EV_PEND :: .reg .MGS_LOGSTAT :: .reg .PL_ENERGY_HI :: .reg .PL_ENERGY_LO :: .reg .PL_EVINFO :: .reg .PL_MAKESPAN :: .reg .PL_RES :: .reg .PL_RES_EACT :: .reg .PL_RES_END :: .reg .PL_STAT :: []) s (@chainError x0 x1 s) := by
  intro x0 x1 s
  delta chainError
  extract_lets +onlyGivenNames -merge -useContext s0
  refine Ok.withS (x := s0) ?_ fun h1 => ?_
  · unfold s0
    refine Ok.via (State.put_at (at_AX_EVT _)) rfl ?_
    refine Ok.via (State.put_at (at_AX_EVT _)) rfl ?_
    exact Ok.refl
  clear_value s0
  refine Ok.via (quickStop_ok ..) rfl ?_
  refine Ok.via (planRunCause_ok ..) rfl ?_
  refine Ok.via (updAlert_ok ..) rfl ?_
  exact h1

theorem segEcc_ok : ∀ x0 s, Ok [.trioQ, .emcyQ, .logQ, .logWin, .reg .EV_PEND, .reg .GCTL_PARERR, .reg .MGS_LOGSTAT] s (@segEcc x0 s) := by
  intro x0 s
  delta segEcc
  extract_lets +onlyGivenNames -merge -useContext s0
  clear_value s0
  refine Ok.via (pend_ok ..) rfl ?_
  refine Ok.ite ?_ ?_
  · refine Ok.via (State.put_at (at_GCTL_PARERR)) rfl ?_
    exact Ok.refl
  · refine Ok.via (State.put_at (at_GCTL_PARERR)) rfl ?_
    refine Ok.via (State.put_at (at_GCTL_PARERR)) rfl ?_
    exact Ok.refl

theorem segRefused_ok : ∀ x0 x1 x2 s, Ok (.trioQ :: .emcyQ :: .logQ :: .logWin :: .coaches :: .axes :: .pl :: .reg .AXALERT :: .reg .AXEN :: .reg .AX_ACC :: .reg .AX_EPFS :: .reg .AX_EVT :: .reg .AX_FLTSTAT :: .reg .AX_HOMEST :: .reg .AX_MOVEEN :: .reg .AX_SSTAT :: .reg .AX_STALLST :: .reg .AX_STAT :: .reg .AX_VEL :: .reg .EV_AXDONE :: .reg .EV_PEND :: .reg .GCTL_PARERR :: .reg .MGS_LOGSTAT :: .reg .PL_ENERGY_HI :: .reg .PL_ENERGY_LO :: .reg .PL_EVINFO :: .reg .PL_MAKESPAN :: .reg .PL_RES :: .reg .PL_RES_EACT :: .reg .PL_RES_END :: .reg .PL_STAT :: []) s (@segRefused x0 x1 x2 s) := by
  intro x0 x1 x2 s
  delta segRefused
  refine Ok.via (chainError_ok ..) rfl ?_
  refine Ok.applyIf ?_ ?_
  · intro a0
    refine Ok.via (segEcc_ok ..) rfl ?_
    exact Ok.refl
  · exact Ok.refl

theorem stopCmd_ok : ∀ x0 s, Ok (.trioQ :: .emcyQ :: .logQ :: .logWin :: .coaches :: .axes :: .pl :: .reg .AXALERT :: .reg .AXEN :: .reg .AX_ACC :: .reg .AX_CHAINST :: .reg .AX_EPFS :: .reg .AX_EVT :: .reg .AX_FLTSTAT :: .reg .AX_HOMEST :: .reg .AX_MOVEEN :: .reg .AX_SSTAT :: .reg .AX_STALLST :: .reg .AX_STAT :: .reg .AX_VEL :: .reg .EV_AXDONE :: .reg .EV_PEND :: .reg .GCTL_PARERR :: .reg .MGS_LOGSTAT :: .reg .PL_ENERGY_HI :: .reg .PL_ENERGY_LO :: .reg .PL_EVINFO :: .reg .PL_MAKESPAN :: .reg .PL_RES :: .reg .PL_RES_EACT :: .reg .PL_RES_END :: .reg .PL_STAT :: []) s (@stopCmd x0 s) := by
  intro x0 s
  delta stopCmd
  refine Ok.ite ?_ ?_
  · extract_lets +onlyGivenNames -merge -useContext s0
    clear_value s0
    extract_lets +onlyGivenNames -merge -useContext s1
    clear_value s1
    extract_lets +onlyGivenNames -merge -useContext s2
    clear_value s2
    refine Ok.ite ?_ ?_
    · refine Ok.via (segRefused_ok ..) rfl ?_
      exact Ok.refl
    · extract_lets +onlyGivenNames -merge -useContext s3
      clear_value s3
      extract_lets +onlyGivenNames -merge -useContext s4
      clear_value s4
      refine Ok.via (beginStop_ok ..) rfl ?_
      refine Ok.via (State.put_at (at_AX_CHAINST _)) rfl ?_
      exact Ok.refl
  · refine Ok.via (beginStop_ok ..) rfl ?_
    exact Ok.refl

theorem ignoreStart_ok : ∀ x0 x1 s, Ok [.reg .AX_STARTSTAT] s (@ignoreStart x0 x1 s) := by
  intro x0 x1 s
  delta ignoreStart
  refine Ok.via (State.put_at (at_AX_STARTSTAT _)) rfl ?_
  refine Ok.via (State.inc_at (at_AX_STARTSTAT _)) rfl ?_
  exact Ok.refl

theorem planTarget_ok : ∀ x0 s, Ok [.axes, .reg .AX_STAT] s (@planTarget x0 s) := by
  intro x0 s
  delta planTarget
  extract_lets +onlyGivenNames -merge -useContext s0
  clear_value s0
  split
  · extract_lets +onlyGivenNames -merge -useContext s1
    clear_value s1
    extract_lets +onlyGivenNames -merge -useContext s2
    clear_value s2
    extract_lets +onlyGivenNames -merge -useContext s3
    refine Ok.withS (x := s3) ?_ fun h4 => ?_
    · unfold s3
      refine Ok.via (State.put_at (at_AX_STAT _)) rfl ?_
      exact Ok.refl
    clear_value s3
    refine Ok.ite ?_ ?_
    · refine Ok.via (State.modMo_ok ..) rfl ?_
      exact h4
    · refine Ok.ite ?_ ?_
      · refine Ok.via (State.modMo_ok ..) rfl ?_
        refine Ok.via (State.put_at (at_AX_STAT _)) rfl ?_
        exact h4
      · split
        · refine Ok.via (State.modMo_ok ..) rfl ?_
          refine Ok.via (State.put_at (at_AX_STAT _)) rfl ?_
          exact h4
        · refine Ok.via (State.modMo_ok ..) rfl ?_
          exact h4

theorem leaveStandstill_ok : ∀ x0 s, Ok [.axes, .reg .AX_SSTAT] s (@leaveStandstill x0 s) := by
  intro x0 s
  delta leaveStandstill
  extract_lets +onlyGivenNames -merge -useContext s0
  clear_value s0
  refine Ok.ite ?_ ?_
  · refine Ok.via (State.modMo_ok ..) rfl ?_
    refine Ok.via (State.put_at (at_AX_SSTAT _)) rfl ?_
    exact Ok.refl
  · refine Ok.via (State.put_at (at_AX_SSTAT _)) rfl ?_
    exact Ok.refl

theorem startNow_ok : ∀ x0 s, Ok (.trioQ :: .emcyQ :: .logQ :: .logWin :: .coaches :: .axes :: .pl :: .syncOut :: .reg .AXALERT :: .reg .AXEN :: .reg .AX_ACC :: .reg .AX_EPFS :: .reg .AX_EVT :: .reg .AX_FLTSTAT :: .reg .AX_HOMEST :: .reg .AX_LOOPS :: .reg .AX_MOVEEN :: .reg .AX_SSTAT :: .reg .AX_STALLST :: .reg .AX_STARTSTAT :: .reg .AX_STAT :: .reg .AX_VEL :: .reg .EV_AXDONE :: .reg .EV_PEND :: .reg .MGS_LOGSTAT :: .reg .PL_ENERGY_HI :: .reg .PL_ENERGY_LO :: .reg .PL_EVINFO :: .reg .PL_MAKESPAN :: .reg .PL_RES :: .reg .PL_RES_EACT :: .reg .PL_RES_END :: .reg .PL_STAT :: []) s (@startNow x0 s) := by
  intro x0 s
  delta startNow
  extract_lets +onlyGivenNames -merge -useContext s0
  clear_value s0
  refine Ok.ite ?_ ?_
  · refine Ok.via (ignoreStart_ok ..) rfl ?_
    exact Ok.refl
  · extract_lets +onlyGivenNames -merge -useContext s1
    refine Ok.withS (x := s1) ?_ fun h2 => ?_
    · unfold s1
      refine Ok.via (closeMove_ok ..) rfl ?_
      refine Ok.via (homeReplaced_ok ..) rfl ?_
      exact Ok.refl
    clear_value s1
    extract_lets +onlyGivenNames -merge -useContext s3
    refine Ok.withS (x := s3) ?_ fun h4 => ?_
    · unfold s3
      refine Ok.via (State.put_at (at_AX_STAT _)) rfl ?_
      refine Ok.via (State.put_at (at_AX_STAT _)) rfl ?_
      refine Ok.via (State.put_at (at_AX_STAT _)) rfl ?_
      refine Ok.via (State.put_at (at_AX_STAT _)) rfl ?_
      refine Ok.via (State.put_at (at_AX_STAT _)) rfl ?_
      refine Ok.via (State.put_at (at_AX_STAT _)) rfl ?_
      exact h2
    clear_value s3
    extract_lets +onlyGivenNames -merge -useContext s5
    refine Ok.withS (x := s5) ?_ fun h6 => ?_
    · unfold s5
      refine Ok.via (updAlert_ok ..) rfl ?_
      refine Ok.via (State.put_at (at_AX_STALLST _)) rfl ?_
      refine Ok.via (State.put_at (at_AX_STALLST _)) rfl ?_
      exact h4
    clear_value s5
    extract_lets +onlyGivenNames -merge -useContext s7
    refine Ok.withS (x := s7) ?_ fun h8 => ?_
    · unfold s7
      refine Ok.via (State.modSe_ok ..) rfl ?_
      exact h6
    clear_value s7
    extract_lets +onlyGivenNames -merge -useContext s9
    refine Ok.withS (x := s9) ?_ fun h10 => ?_
    · unfold s9
      refine Ok.via (State.modMo_ok ..) rfl ?_
      exact h8
    clear_value s9
    extract_lets +onlyGivenNames -merge -useContext s11
    refine Ok.withS (x := s11) ?_ fun h12 => ?_
    · unfold s11
      refine Ok.ite ?_ ?_
      · refine Ok.via Ok.syncOut rfl ?_
        exact h10
      · exact h10
    clear_value s11
    extract_lets +onlyGivenNames -merge -useContext s13
    refine Ok.withS (x := s13) ?_ fun h14 => ?_
    · unfold s13
      refine Ok.via (leaveStandstill_ok ..) rfl ?_
      exact h12
    clear_value s13
    refine Ok.ite ?_ ?_
    · refine Ok.via (planTarget_ok ..) rfl ?_
      exact h14
    · refine Ok.ite ?_ ?_
      · refine Ok.via (State.modMo_ok ..) rfl ?_
        exact h14
      · refine Ok.ite ?_ ?_
        · refine Ok.via (State.modMo_ok ..) rfl ?_
          refine Ok.via (State.put_at (at_AX_LOOPS _)) rfl ?_
          exact h14
        · refine Ok.ite ?_ ?_
          · refine Ok.via (State.modMo_ok ..) rfl ?_
            exact h14
          · extract_lets +onlyGivenNames -merge -useContext s15
            refine Ok.withS (x := s15) ?_ fun h16 => ?_
            · unfold s15
              refine Ok.via (State.put_at (at_AX_HOMEST _)) rfl ?_
              refine Ok.via (State.put_at (at_AX_HOMEST _)) rfl ?_
              refine Ok.via (State.put_at (at_AX_HOMEST _)) rfl ?_
              exact h14
            clear_value s15
            extract_lets +onlyGivenNames -merge -useContext s17
            refine Ok.withS (x := s17) ?_ fun h18 => ?_
            · unfold s17
              refine Ok.via (updAlert_ok ..) rfl ?_
              exact h16
            clear_value s17
            extract_lets +onlyGivenNames -merge -useContext s19
            refine Ok.withS (x := s19) ?_ fun h20 => ?_
            · unfold s19
              refine Ok.via (State.modMo_ok ..) rfl ?_
              exact h18
            clear_value s19
            refine Ok.ite ?_ ?_
            · refine Ok.via (quickStop_ok ..) rfl ?_
              refine Ok.via (homeAbort_ok ..) rfl ?_
              exact h20
            · exact h20

theorem enableNow_ok : ∀ x0 s, Ok (.trioQ :: .emcyQ :: .logQ :: .logWin :: .axes :: .pl :: .reg .AXALERT :: .reg .AX_ACC :: .reg .AX_EPFS :: .reg .AX_HOMEST :: .reg .AX_MOVEEN :: .reg .AX_SSTAT :: .reg .AX_STALLST :: .reg .AX_STAT :: .reg .AX_USTAT :: .reg .AX_VEL :: .reg .EV_PEND :: .reg .MGS_LOGSTAT :: .reg .PL_ENERGY_HI :: .reg .PL_ENERGY_LO :: .reg .PL_EVINFO :: .reg .PL_MAKESPAN :: .reg .PL_RES :: .reg .PL_RES_EACT :: .reg .PL_RES_END :: .reg .PL_STAT :: []) s (@enableNow x0 s) := by
  intro x0 s
  delta enableNow
  extract_lets +onlyGivenNames -merge -useContext s0
  refine Ok.withS (x := s0) ?_ fun h1 => ?_
  · unfold s0
    refine Ok.via (State.modMo_ok ..) rfl ?_
    exact Ok.refl
  clear_value s0
  extract_lets +onlyGivenNames -merge -useContext s2
  refine Ok.withS (x := s2) ?_ fun h3 => ?_
  · unfold s2
    refine Ok.via (State.put_at (at_AX_STAT _)) rfl ?_
    refine Ok.via (State.put_at (at_AX_STAT _)) rfl ?_
    exact h1
  clear_value s2
  extract_lets +onlyGivenNames -merge -useContext s4
  refine Ok.withS (x := s4) ?_ fun h5 => ?_
  · unfold s4
    refine Ok.via (State.put_at (at_AX_USTAT _)) rfl ?_
    refine Ok.via (State.put_at (at_AX_USTAT _)) rfl ?_
    refine Ok.via (State.put_at (at_AX_USTAT _)) rfl ?_
    exact h3
  clear_value s4
  extract_lets +onlyGivenNames -merge -useContext s6
  refine Ok.withS (x := s6) ?_ fun h7 => ?_
  · unfold s6
    refine Ok.via (State.put_at (at_AX_SSTAT _)) rfl ?_
    refine Ok.via (State.put_at (at_AX_SSTAT _)) rfl ?_
    exact h5
  clear_value s6
  extract_lets +onlyGivenNames -merge -useContext s8
  refine Ok.withS (x := s8) ?_ fun h9 => ?_
  · unfold s8
    refine Ok.via (State.put_at (at_AX_USTAT _)) rfl ?_
    exact h7
  clear_value s8
  extract_lets +onlyGivenNames -merge -useContext s10
  refine Ok.withS (x := s10) ?_ fun h11 => ?_
  · unfold s10
    refine Ok.via (State.modSe_ok ..) rfl ?_
    exact h9
  clear_value s10
  refine Ok.ite ?_ ?_
  · refine Ok.via (haltNow_ok ..) rfl ?_
    refine Ok.via (planCause_ok ..) rfl ?_
    exact h11
  · exact h11

theorem landEnable_ok : ∀ x0 s, Ok (.trioQ :: .emcyQ :: .logQ :: .logWin :: .axes :: .pl :: .reg .AXALERT :: .reg .AXEN :: .reg .AX_ACC :: .reg .AX_EPFS :: .reg .AX_HOMEST :: .reg .AX_MOVEEN :: .reg .AX_SSTAT :: .reg .AX_STALLST :: .reg .AX_STAT :: .reg .AX_USTAT :: .reg .AX_VEL :: .reg .EV_PEND :: .reg .MGS_LOGSTAT :: .reg .PL_ENERGY_HI :: .reg .PL_ENERGY_LO :: .reg .PL_EVINFO :: .reg .PL_MAKESPAN :: .reg .PL_RES :: .reg .PL_RES_EACT :: .reg .PL_RES_END :: .reg .PL_STAT :: []) s (@landEnable x0 s) := by
  intro x0 s
  delta landEnable
  refine Ok.ite ?_ ?_
  · refine Ok.ite ?_ ?_
    · refine Ok.via (State.modMo_ok ..) rfl ?_
      refine Ok.via (State.putBitAt_at (at_AXEN _)) rfl ?_
      exact Ok.refl
    · refine Ok.via (enableNow_ok ..) rfl ?_
      exact Ok.refl
  · exact Ok.refl

end Sys2Proof.Machine
end

