-- ==== Sys2Proof/Laws/OkEstOps.lean ====
section
/-!
SUPPORT. Laws/OkEstOps.lean: for each operation of Machine/EstOps.lean, the parts of the state it can change, and that it keeps a
good state good.
-/

namespace Sys2Proof.Machine

set_option Elab.async false

theorem roundReg_ok : ∀ x0 x1 x2 s, OkP [.free] s (@roundReg x0 x1 x2 s) := by
  intro x0 x1 x2 s
  delta roundReg
  extract_lets +onlyGivenNames -merge -useContext s0
  clear_value s0
  extract_lets +onlyGivenNames -merge -useContext s1
  clear_value s1
  split
  · rename_i t2 e3
    refine OkP.withS (x := t2) (OkP.of_eq e3 ?_) fun h4 => ?_
    · refine OkP.via (State.fresh_ok ..) rfl ?_
      exact Ok.refl
    extract_lets +onlyGivenNames -merge -useContext s5
    clear_value s5
    refine OkP.mk ?_
    refine Ok.ite ?_ ?_
    · exact Ok.refl
    · exact h4

theorem applySuspend_ok : ∀ x0 s, Ok [.axes] s (@applySuspend x0 s) := by
  intro x0 s
  delta applySuspend
  extract_lets +onlyGivenNames -merge -useContext s0
  clear_value s0
  extract_lets +onlyGivenNames -merge -useContext s1
  clear_value s1
  split
  · refine Ok.via (State.modSe_ok ..) rfl ?_
    exact Ok.refl
  · refine Ok.via (State.modSe_ok ..) rfl ?_
    exact Ok.refl
  · refine Ok.via (State.modSe_ok ..) rfl ?_
    exact Ok.refl
  · refine Ok.via (State.modSe_ok ..) rfl ?_
    exact Ok.refl
  · refine Ok.via (State.modSe_ok ..) rfl ?_
    exact Ok.refl
  · refine Ok.via (State.modSe_ok ..) rfl ?_
    exact Ok.refl

theorem trimUpdate_ok : ∀ x0 x1 s, Ok [.axes] s (@trimUpdate x0 x1 s) := by
  intro x0 x1 s
  delta trimUpdate
  extract_lets +onlyGivenNames -merge -useContext s0
  clear_value s0
  extract_lets +onlyGivenNames -merge -useContext s1
  clear_value s1
  extract_lets +onlyGivenNames -merge -useContext s2
  clear_value s2
  extract_lets +onlyGivenNames -merge -useContext s3
  clear_value s3
  extract_lets +onlyGivenNames -merge -useContext s4
  clear_value s4
  refine Ok.ite ?_ ?_
  · refine Ok.via (State.modSe_ok ..) rfl ?_
    exact Ok.refl
  · refine Ok.ite ?_ ?_
    · refine Ok.via (State.modSe_ok ..) rfl ?_
      exact Ok.refl
    · refine Ok.ite ?_ ?_
      · refine Ok.via (State.modSe_ok ..) rfl ?_
        exact Ok.refl
      · refine Ok.via (State.modSe_ok ..) rfl ?_
        exact Ok.refl

theorem learnKe_ok : ∀ x0 x1 s, Ok [.axes, .reg .AX_BEMFKE] s (@learnKe x0 x1 s) := by
  intro x0 x1 s
  delta learnKe
  refine Ok.ite ?_ ?_
  · exact Ok.refl
  · refine Ok.ite ?_ ?_
    · refine Ok.via (State.modSe_ok ..) rfl ?_
      exact Ok.refl
    · extract_lets +onlyGivenNames -merge -useContext s0
      clear_value s0
      extract_lets +onlyGivenNames -merge -useContext s1
      clear_value s1
      refine Ok.ite ?_ ?_
      · refine Ok.via (State.modSe_ok ..) rfl ?_
        exact Ok.refl
      · extract_lets +onlyGivenNames -merge -useContext s2
        clear_value s2
        extract_lets +onlyGivenNames -merge -useContext s3
        refine Ok.withS (x := s3) ?_ fun h4 => ?_
        · unfold s3
          refine Ok.via (State.modSe_ok ..) rfl ?_
          exact Ok.refl
        clear_value s3
        refine Ok.via (State.put_at (at_AX_BEMFKE _)) rfl ?_
        refine Ok.via (State.put_at (at_AX_BEMFKE _)) rfl ?_
        refine Ok.via (State.put_at (at_AX_BEMFKE _)) rfl ?_
        exact h4

theorem countStall_ok : ∀ x0 x1 s, OkP [.reg .AX_STALLST] s (@countStall x0 x1 s) := by
  intro x0 x1 s
  delta countStall
  refine OkP.ite ?_ ?_
  · extract_lets +onlyGivenNames -merge -useContext s0
    clear_value s0
    extract_lets +onlyGivenNames -merge -useContext s1
    clear_value s1
    refine OkP.mk ?_
    refine Ok.via (State.put_at (at_AX_STALLST _)) rfl ?_
    exact Ok.refl
  · refine OkP.mk ?_
    refine Ok.via (State.put_at (at_AX_STALLST _)) rfl ?_
    exact Ok.refl

theorem detect_ok : ∀ x0 x1 s, Ok [.axes, .reg .AX_STALLST] s (@detect x0 x1 s) := by
  intro x0 x1 s
  delta detect
  extract_lets +onlyGivenNames -merge -useContext s0
  clear_value s0
  refine Ok.ite ?_ ?_
  · refine Ok.ite ?_ ?_
    · extract_lets +onlyGivenNames -merge -useContext s1
      clear_value s1
      extract_lets +onlyGivenNames -merge -useContext s2
      refine Ok.withS (x := s2) ?_ fun h3 => ?_
      · unfold s2
        refine Ok.via (State.modSe_ok ..) rfl ?_
        exact Ok.refl
      clear_value s2
      refine Ok.ite ?_ ?_
      · exact h3
      · split
        · rename_i t4 e5
          refine Ok.withS (x := t4) (OkP.of_eq e5 ?_) fun h6 => ?_
          · refine OkP.via (countStall_ok ..) rfl ?_
            exact h3
          refine Ok.ite ?_ ?_
          · refine Ok.via (State.modMo_ok ..) rfl ?_
            exact h6
          · exact h6
    · exact Ok.refl
  · refine Ok.ite ?_ ?_
    · split
      · rename_i t7 e8
        refine Ok.withS (x := t7) (OkP.of_eq e8 ?_) fun h9 => ?_
        · refine OkP.via (countStall_ok ..) rfl ?_
          exact Ok.refl
        refine Ok.ite ?_ ?_
        · refine Ok.via (State.modMo_ok ..) rfl ?_
          exact h9
        · exact h9
    · exact Ok.refl

theorem setInvalid_ok : ∀ x0 x1 s, Ok [.reg .AX_LA, .reg .AX_STALLST] s (@setInvalid x0 x1 s) := by
  intro x0 x1 s
  delta setInvalid
  refine Ok.via (State.putB_at (at_AX_STALLST _)) rfl ?_
  refine Ok.via (State.put_at (at_AX_LA _)) rfl ?_
  refine Ok.via (State.put_at (at_AX_LA _)) rfl ?_
  exact Ok.refl

theorem evalNote_ok : ∀ x0 x1 x2 s, Ok [.free, .axes, .reg .AX_BEMFKE, .reg .AX_LA, .reg .AX_STALLST] s (@evalNote x0 x1 x2 s) := by
  intro x0 x1 x2 s
  delta evalNote
  split
  · extract_lets +onlyGivenNames -merge -useContext s0
    refine Ok.withS (x := s0) ?_ fun h1 => ?_
    · unfold s0
      refine Ok.via (State.put_at (at_AX_STALLST _)) rfl ?_
      refine Ok.via (setInvalid_ok ..) rfl ?_
      exact Ok.refl
    clear_value s0
    refine Ok.via (State.modSe_ok ..) rfl ?_
    exact h1
  · extract_lets +onlyGivenNames -merge -useContext s2
    clear_value s2
    extract_lets +onlyGivenNames -merge -useContext s3
    refine Ok.withS (x := s3) ?_ fun h4 => ?_
    · unfold s3
      refine Ok.via (State.put_at (at_AX_STALLST _)) rfl ?_
      refine Ok.via (State.put_at (at_AX_LA _)) rfl ?_
      refine Ok.via (State.put_at (at_AX_LA _)) rfl ?_
      exact Ok.refl
    clear_value s3
    extract_lets +onlyGivenNames -merge -useContext s5
    refine Ok.withS (x := s5) ?_ fun h6 => ?_
    · unfold s5
      refine Ok.via (State.putI_at (at_AX_LA _)) rfl ?_
      exact h4
    clear_value s5
    split
    · rename_i t7 e8
      refine Ok.withS (x := t7) (OkP.of_eq e8 ?_) fun h9 => ?_
      · refine OkP.via (roundReg_ok ..) rfl ?_
        exact h6
      split
      · rename_i t10 e11
        refine Ok.withS (x := t10) (OkP.of_eq e11 ?_) fun h12 => ?_
        · refine OkP.via (roundReg_ok ..) rfl ?_
          exact h9
        extract_lets +onlyGivenNames -merge -useContext s13
        refine Ok.withS (x := s13) ?_ fun h14 => ?_
        · unfold s13
          refine Ok.via (State.put_at (at_AX_STALLST _)) rfl ?_
          refine Ok.via (State.put_at (at_AX_LA _)) rfl ?_
          exact h12
        clear_value s13
        extract_lets +onlyGivenNames -merge -useContext s15
        refine Ok.withS (x := s15) ?_ fun h16 => ?_
        · unfold s15
          refine Ok.ite ?_ ?_
          · refine Ok.via (trimUpdate_ok ..) rfl ?_
            exact h14
          · exact h14
        clear_value s15
        refine Ok.via (detect_ok ..) rfl ?_
        refine Ok.via (learnKe_ok ..) rfl ?_
        exact h16

theorem evalOne_ok : ∀ x0 x1 s, Ok [.free, .axes, .reg .AX_BEMFKE, .reg .AX_LA, .reg .AX_STALLST] s (@evalOne x0 x1 s) := by
  intro x0 x1 s
  delta evalOne
  extract_lets +onlyGivenNames -merge -useContext s0
  refine Ok.withS (x := s0) ?_ fun h1 => ?_
  · unfold s0
    refine Ok.via (evalNote_ok ..) rfl ?_
    exact Ok.refl
  clear_value s0
  refine Ok.ite ?_ ?_
  · exact h1
  · extract_lets +onlyGivenNames -merge -useContext s2
    clear_value s2
    refine Ok.via (State.modSe_ok ..) rfl ?_
    exact h1

theorem evalAxis_ok : ∀ x0 s, Ok [.free, .axes, .reg .AX_BEMFKE, .reg .AX_LA, .reg .AX_STALLST] s (@evalAxis x0 s) := by
  intro x0 s
  delta evalAxis
  extract_lets +onlyGivenNames -merge -useContext s0
  clear_value s0
  refine Ok.foldl ?_ ?_
  · intro u1 x2
    refine Ok.via (evalOne_ok ..) rfl ?_
    exact Ok.refl
  · refine Ok.via (State.modSe_ok ..) rfl ?_
    exact Ok.refl

theorem runAction_ok : ∀ x0 x1 s, Ok (.trioQ :: .emcyQ :: .logQ :: .logWin :: .coaches :: .axes :: .pl :: .reg .AXALERT :: .reg .AXEN :: .reg .AX_ACC :: .reg .AX_CHAINST :: .reg .AX_EPFS :: .reg .AX_EVT :: .reg .AX_FLTSTAT :: .reg .AX_HOMEST :: .reg .AX_MOVEEN :: .reg .AX_SSTAT :: .reg .AX_STALLST :: .reg .AX_STAT :: .reg .AX_USTAT :: .reg .AX_VEL :: .reg .EV_AXDONE :: .reg .EV_PEND :: .reg .GCTL_PARERR :: .reg .MGS_LOGSTAT :: .reg .PL_ENERGY_HI :: .reg .PL_ENERGY_LO :: .reg .PL_EVINFO :: .reg .PL_MAKESPAN :: .reg .PL_RES :: .reg .PL_RES_EACT :: .reg .PL_RES_END :: .reg .PL_STAT :: []) s (@runAction x0 x1 s) := by
  intro x0 x1 s
  delta runAction
  refine Ok.ite ?_ ?_
  · exact Ok.refl
  · extract_lets +onlyGivenNames -merge -useContext s0
    refine Ok.withS (x := s0) ?_ fun h1 => ?_
    · unfold s0
      refine Ok.via (planRunCause_ok ..) rfl ?_
      exact Ok.refl
    clear_value s0
    refine Ok.ite ?_ ?_
    · refine Ok.via (stopCmd_ok ..) rfl ?_
      exact h1
    · refine Ok.ite ?_ ?_
      · refine Ok.via (quickStop_ok ..) rfl ?_
        exact h1
      · refine Ok.ite ?_ ?_
        · exact h1
        · refine Ok.via (haltTick_ok ..) rfl ?_
          exact h1

theorem stallEffect_ok : ∀ x0 x1 s, Ok (.trioQ :: .emcyQ :: .logQ :: .logWin :: .coaches :: .axes :: .pl :: .reg .AXALERT :: .reg .AXEN :: .reg .AX_ACC :: .reg .AX_CHAINST :: .reg .AX_EPFS :: .reg .AX_EVT :: .reg .AX_FLTSTAT :: .reg .AX_HOMEST :: .reg .AX_MOVEEN :: .reg .AX_SSTAT :: .reg .AX_STALLST :: .reg .AX_STAT :: .reg .AX_USTAT :: .reg .AX_VEL :: .reg .EV_AXDONE :: .reg .EV_PEND :: .reg .GCTL_PARERR :: .reg .MGS_LOGSTAT :: .reg .PL_ENERGY_HI :: .reg .PL_ENERGY_LO :: .reg .PL_EVINFO :: .reg .PL_MAKESPAN :: .reg .PL_RES :: .reg .PL_RES_EACT :: .reg .PL_RES_END :: .reg .PL_STAT :: []) s (@stallEffect x0 x1 s) := by
  intro x0 x1 s
  delta stallEffect
  refine Ok.ite ?_ ?_
  · refine Ok.ite ?_ ?_
    · extract_lets +onlyGivenNames -merge -useContext s0
      refine Ok.withS (x := s0) ?_ fun h1 => ?_
      · unfold s0
        refine Ok.via (State.modMo_ok ..) rfl ?_
        exact Ok.refl
      clear_value s0
      extract_lets +onlyGivenNames -merge -useContext s2
      refine Ok.withS (x := s2) ?_ fun h3 => ?_
      · unfold s2
        refine Ok.via (State.modSe_ok ..) rfl ?_
        exact h1
      clear_value s2
      refine Ok.via (State.put_at (at_AX_STALLST _)) rfl ?_
      refine Ok.via (State.put_at (at_AX_HOMEST _)) rfl ?_
      exact h3
    · exact Ok.refl
  · extract_lets +onlyGivenNames -merge -useContext s4
    refine Ok.withS (x := s4) ?_ fun h5 => ?_
    · unfold s4
      refine Ok.via (State.inc_at (at_AX_STALLST _)) rfl ?_
      refine Ok.via (State.put_at (at_AX_STALLST _)) rfl ?_
      exact Ok.refl
    clear_value s4
    extract_lets +onlyGivenNames -merge -useContext s6
    refine Ok.withS (x := s6) ?_ fun h7 => ?_
    · unfold s6
      refine Ok.via (State.put_at (at_AX_STAT _)) rfl ?_
      exact h5
    clear_value s6
    extract_lets +onlyGivenNames -merge -useContext s8
    refine Ok.withS (x := s8) ?_ fun h9 => ?_
    · unfold s8
      refine Ok.ite ?_ ?_
      · refine Ok.via (State.modSe_ok ..) rfl ?_
        exact h7
      · exact h7
    clear_value s8
    refine Ok.via (runAction_ok ..) rfl ?_
    refine Ok.via (updAlert_ok ..) rfl ?_
    exact h9

theorem homeSettle_ok : ∀ x0 s, Ok [.axes, .reg .AX_HOMEST] s (@homeSettle x0 s) := by
  intro x0 s
  delta homeSettle
  refine Ok.ite ?_ ?_
  · extract_lets +onlyGivenNames -merge -useContext s0
    clear_value s0
    extract_lets +onlyGivenNames -merge -useContext s1
    clear_value s1
    refine Ok.via (State.modMo_ok ..) rfl ?_
    refine Ok.via (State.put_at (at_AX_HOMEST _)) rfl ?_
    exact Ok.refl
  · exact Ok.refl

theorem witInvalid_ok : ∀ x0 s, Ok [.reg .AX_WITST] s (@witInvalid x0 s) := by
  intro x0 s
  delta witInvalid
  refine Ok.via (State.put_at (at_AX_WITST _)) rfl ?_
  exact Ok.refl

theorem witLost_ok : ∀ x0 x1 s, Ok (.trioQ :: .emcyQ :: .logQ :: .logWin :: .coaches :: .axes :: .pl :: .reg .AXALERT :: .reg .AXEN :: .reg .AX_ACC :: .reg .AX_CHAINST :: .reg .AX_EPFS :: .reg .AX_EVT :: .reg .AX_FLTSTAT :: .reg .AX_HOMEST :: .reg .AX_MOVEEN :: .reg .AX_SSTAT :: .reg .AX_STALLST :: .reg .AX_STAT :: .reg .AX_USTAT :: .reg .AX_VEL :: .reg .AX_WITST :: .reg .EV_AXDONE :: .reg .EV_PEND :: .reg .GCTL_PARERR :: .reg .MGS_LOGSTAT :: .reg .PL_ENERGY_HI :: .reg .PL_ENERGY_LO :: .reg .PL_EVINFO :: .reg .PL_MAKESPAN :: .reg .PL_RES :: .reg .PL_RES_EACT :: .reg .PL_RES_END :: .reg .PL_STAT :: []) s (@witLost x0 x1 s) := by
  intro x0 x1 s
  delta witLost
  extract_lets +onlyGivenNames -merge -useContext s0
  refine Ok.withS (x := s0) ?_ fun h1 => ?_
  · unfold s0
    refine Ok.via (State.put_at (at_AX_STAT _)) rfl ?_
    refine Ok.via (State.put_at (at_AX_WITST _)) rfl ?_
    exact Ok.refl
  clear_value s0
  extract_lets +onlyGivenNames -merge -useContext s2
  refine Ok.withS (x := s2) ?_ fun h3 => ?_
  · unfold s2
    refine Ok.via (updAlert_ok ..) rfl ?_
    exact h1
  clear_value s2
  extract_lets +onlyGivenNames -merge -useContext s4
  clear_value s4
  refine Ok.ite ?_ ?_
  · refine Ok.via (runAction_ok ..) rfl ?_
    exact h3
  · refine Ok.via (State.modMo_ok ..) rfl ?_
    exact h3

theorem witCheck_ok : ∀ x0 x1 x2 x3 s, Ok (.trioQ :: .emcyQ :: .logQ :: .logWin :: .coaches :: .axes :: .pl :: .reg .AXALERT :: .reg .AXEN :: .reg .AX_ACC :: .reg .AX_CHAINST :: .reg .AX_EPFS :: .reg .AX_EVT :: .reg .AX_FLTSTAT :: .reg .AX_HOMEST :: .reg .AX_MOVEEN :: .reg .AX_SSTAT :: .reg .AX_STALLST :: .reg .AX_STAT :: .reg .AX_USTAT :: .reg .AX_VEL :: .reg .AX_WITOFS_HI :: .reg .AX_WITOFS_LO :: .reg .AX_WITST :: .reg .EV_AXDONE :: .reg .EV_PEND :: .reg .GCTL_PARERR :: .reg .MGS_LOGSTAT :: .reg .PL_ENERGY_HI :: .reg .PL_ENERGY_LO :: .reg .PL_EVINFO :: .reg .PL_MAKESPAN :: .reg .PL_RES :: .reg .PL_RES_EACT :: .reg .PL_RES_END :: .reg .PL_STAT :: []) s (@witCheck x0 x1 x2 x3 s) := by
  intro x0 x1 x2 x3 s
  delta witCheck
  extract_lets +onlyGivenNames -merge -useContext s0
  refine Ok.withS (x := s0) ?_ fun h1 => ?_
  · unfold s0
    refine Ok.via (State.put_at (at_AX_WITST _)) rfl ?_
    exact Ok.refl
  clear_value s0
  refine Ok.ite ?_ ?_
  · extract_lets +onlyGivenNames -merge -useContext s2
    clear_value s2
    extract_lets +onlyGivenNames -merge -useContext s3
    refine Ok.withS (x := s3) ?_ fun h4 => ?_
    · unfold s3
      refine Ok.via (State.putPair_at (at_AX_WITOFS_LO _) (hi_AX_WITOFS_LO _)) rfl ?_
      exact h1
    clear_value s3
    refine Ok.via (updAlert_ok ..) rfl ?_
    refine Ok.via (State.put_at (at_AX_WITST _)) rfl ?_
    refine Ok.via (State.put_at (at_AX_WITST _)) rfl ?_
    refine Ok.via (State.put_at (at_AX_WITST _)) rfl ?_
    exact h4
  · refine Ok.ite ?_ ?_
    · exact h1
    · extract_lets +onlyGivenNames -merge -useContext s5
      clear_value s5
      extract_lets +onlyGivenNames -merge -useContext s6
      refine Ok.withS (x := s6) ?_ fun h7 => ?_
      · unfold s6
        refine Ok.via (State.putI_at (at_AX_WITST _)) rfl ?_
        exact h1
      clear_value s6
      refine Ok.ite ?_ ?_
      · extract_lets +onlyGivenNames -merge -useContext s8
        clear_value s8
        extract_lets +onlyGivenNames -merge -useContext s9
        clear_value s9
        extract_lets +onlyGivenNames -merge -useContext s10
        refine Ok.withS (x := s10) ?_ fun h11 => ?_
        · unfold s10
          refine Ok.via (State.put_at (at_AX_WITST _)) rfl ?_
          exact h7
        clear_value s10
        refine Ok.ite ?_ ?_
        · refine Ok.via (witLost_ok ..) rfl ?_
          exact h11
        · exact h11
      · refine Ok.via (State.put_at (at_AX_WITST _)) rfl ?_
        exact h7

theorem witTick_ok : ∀ x0 s, Ok (.trioQ :: .emcyQ :: .logQ :: .logWin :: .coaches :: .axes :: .pl :: .reg .AXALERT :: .reg .AXEN :: .reg .AX_ACC :: .reg .AX_CHAINST :: .reg .AX_EPFS :: .reg .AX_EVT :: .reg .AX_FLTSTAT :: .reg .AX_HOMEST :: .reg .AX_MOVEEN :: .reg .AX_SSTAT :: .reg .AX_STALLST :: .reg .AX_STAT :: .reg .AX_USTAT :: .reg .AX_VEL :: .reg .AX_WITOFS_HI :: .reg .AX_WITOFS_LO :: .reg .AX_WITST :: .reg .EV_AXDONE :: .reg .EV_PEND :: .reg .GCTL_PARERR :: .reg .MGS_LOGSTAT :: .reg .PL_ENERGY_HI :: .reg .PL_ENERGY_LO :: .reg .PL_EVINFO :: .reg .PL_MAKESPAN :: .reg .PL_RES :: .reg .PL_RES_EACT :: .reg .PL_RES_END :: .reg .PL_STAT :: []) s (@witTick x0 s) := by
  intro x0 s
  delta witTick
  refine Ok.ite ?_ ?_
  · refine Ok.ite ?_ ?_
    · refine Ok.via (State.modSe_ok ..) rfl ?_
      exact Ok.refl
    · exact Ok.refl
  · extract_lets +onlyGivenNames -merge -useContext s0
    clear_value s0
    extract_lets +onlyGivenNames -merge -useContext s1
    clear_value s1
    extract_lets +onlyGivenNames -merge -useContext s2
    clear_value s2
    extract_lets +onlyGivenNames -merge -useContext s3
    clear_value s3
    extract_lets +onlyGivenNames -merge -useContext s4
    refine Ok.withS (x := s4) ?_ fun h5 => ?_
    · unfold s4
      refine Ok.via (State.modSe_ok ..) rfl ?_
      exact Ok.refl
    clear_value s4
    refine Ok.ite ?_ ?_
    · refine Ok.via (witInvalid_ok ..) rfl ?_
      exact h5
    · refine Ok.via (witCheck_ok ..) rfl ?_
      exact h5

end Sys2Proof.Machine
end

