-- ==== Sys2Proof/Laws/OkEncOps.lean ====
section
/-!
SUPPORT. Laws/OkEncOps.lean: for each operation of Machine/EncOps.lean, the parts of the state it can change, and that it keeps a
good state good.
-/

namespace Sys2Proof.Machine

set_option Elab.async false

theorem State.modEnc_ok : ∀ s x1 x2, Ok [.encs] s (@State.modEnc s x1 x2) := by
  intro s x1 x2
  delta State.modEnc
  refine Ok.via (Ok.encs ?_) rfl ?_
  · exact fun h => Sparse.wf_modify h
  exact Ok.refl

theorem cmpDone_ok : ∀ x0 s, Ok [.reg .CMP_CFG, .reg .CMP_STAT] s (@cmpDone x0 s) := by
  intro x0 s
  delta cmpDone
  refine Ok.via (State.put_at (at_CMP_CFG _)) rfl ?_
  refine Ok.via (State.put_at (at_CMP_STAT _)) rfl ?_
  refine Ok.via (State.put_at (at_CMP_STAT _)) rfl ?_
  exact Ok.refl

theorem cmpHit_ok : ∀ x0 x1 x2 s, Ok [.trioQ, .emcyQ, .logQ, .logWin, .encs, .reg .CMP_CFG, .reg .CMP_CNTS, .reg .CMP_COUNT, .reg .CMP_POS, .reg .CMP_STAT, .reg .EV_PEND, .reg .MGS_LOGSTAT] s (@cmpHit x0 x1 x2 s) := by
  intro x0 x1 x2 s
  delta cmpHit
  extract_lets +onlyGivenNames -merge -useContext s0
  clear_value s0
  extract_lets +onlyGivenNames -merge -useContext s1
  clear_value s1
  extract_lets +onlyGivenNames -merge -useContext s2
  refine Ok.withS (x := s2) ?_ fun h3 => ?_
  · unfold s2
    refine Ok.via (State.put_at (at_CMP_POS _)) rfl ?_
    exact Ok.refl
  clear_value s2
  extract_lets +onlyGivenNames -merge -useContext s4
  refine Ok.withS (x := s4) ?_ fun h6 => ?_
  · unfold s4
    refine Ok.applyIf ?_ ?_
    · intro a5
      refine Ok.via (State.put_at (at_CMP_STAT _)) rfl ?_
      exact Ok.refl
    · exact h3
  clear_value s4
  extract_lets +onlyGivenNames -merge -useContext s7
  refine Ok.withS (x := s7) ?_ fun h8 => ?_
  · unfold s7
    refine Ok.via (State.addSat_at (at_CMP_CNTS _)) rfl ?_
    refine Ok.via (State.inc_at (at_CMP_CNTS _)) rfl ?_
    refine Ok.via (State.put_at (at_CMP_STAT _)) rfl ?_
    exact h6
  clear_value s7
  extract_lets +onlyGivenNames -merge -useContext s9
  refine Ok.withS (x := s9) ?_ fun h10 => ?_
  · unfold s9
    refine Ok.via (pend_ok ..) rfl ?_
    exact h8
  clear_value s9
  refine Ok.ite ?_ ?_
  · extract_lets +onlyGivenNames -merge -useContext s11
    clear_value s11
    extract_lets +onlyGivenNames -merge -useContext s12
    refine Ok.withS (x := s12) ?_ fun h13 => ?_
    · unfold s12
      refine Ok.via (State.put_at (at_CMP_COUNT _)) rfl ?_
      exact h10
    clear_value s12
    refine Ok.ite ?_ ?_
    · exact h13
    · refine Ok.ite ?_ ?_
      · refine Ok.via (State.modEnc_ok ..) rfl ?_
        exact h13
      · refine Ok.via (cmpDone_ok ..) rfl ?_
        exact h13
  · exact h10

theorem cmpMove_ok : ∀ x0 x1 x2 s, Ok [.trioQ, .emcyQ, .logQ, .logWin, .encs, .reg .CMP_CFG, .reg .CMP_CNTS, .reg .CMP_COUNT, .reg .CMP_POS, .reg .CMP_STAT, .reg .EV_PEND, .reg .MGS_LOGSTAT] s (@cmpMove x0 x1 x2 s) := by
  intro x0 x1 x2 s
  delta cmpMove
  extract_lets +onlyGivenNames -merge -useContext s0
  clear_value s0
  refine Ok.ite ?_ ?_
  · extract_lets +onlyGivenNames -merge -useContext s1
    clear_value s1
    refine Ok.via (cmpHit_ok ..) rfl ?_
    refine Ok.applyIf ?_ ?_
    · intro a2
      refine Ok.via (State.put_at (at_CMP_STAT _)) rfl ?_
      exact Ok.refl
    · exact Ok.refl
  · exact Ok.refl

theorem cmpBehind_ok : ∀ x0 s, Ok [.trioQ, .emcyQ, .logQ, .logWin, .encs, .reg .CMP_CFG, .reg .CMP_CNTS, .reg .CMP_COUNT, .reg .CMP_POS, .reg .CMP_STAT, .reg .EV_PEND, .reg .MGS_LOGSTAT] s (@cmpBehind x0 s) := by
  intro x0 s
  delta cmpBehind
  extract_lets +onlyGivenNames -merge -useContext s0
  clear_value s0
  refine Ok.ite ?_ ?_
  · extract_lets +onlyGivenNames -merge -useContext s1
    refine Ok.withS (x := s1) ?_ fun h2 => ?_
    · unfold s1
      refine Ok.via (State.put_at (at_CMP_STAT _)) rfl ?_
      exact Ok.refl
    clear_value s1
    refine Ok.ite ?_ ?_
    · refine Ok.via (cmpHit_ok ..) rfl ?_
      exact h2
    · exact h2
  · exact Ok.refl

theorem cmpArm_ok : ∀ x0 x1 s, Ok [.trioQ, .emcyQ, .logQ, .logWin, .encs, .reg .CMP_CFG, .reg .CMP_CNTS, .reg .CMP_COUNT, .reg .CMP_POS, .reg .CMP_STAT, .reg .EV_PEND, .reg .MGS_LOGSTAT] s (@cmpArm x0 x1 s) := by
  intro x0 x1 s
  delta cmpArm
  refine Ok.ite ?_ ?_
  · extract_lets +onlyGivenNames -merge -useContext s0
    refine Ok.withS (x := s0) ?_ fun h1 => ?_
    · unfold s0
      refine Ok.via (State.put_at (at_CMP_COUNT _)) rfl ?_
      refine Ok.via (State.put_at (at_CMP_STAT _)) rfl ?_
      exact Ok.refl
    clear_value s0
    refine Ok.via (cmpBehind_ok ..) rfl ?_
    refine Ok.via (State.modEnc_ok ..) rfl ?_
    exact h1
  · refine Ok.via (State.put_at (at_CMP_STAT _)) rfl ?_
    exact Ok.refl

theorem cmpPosSet_ok : ∀ x0 x1 s, Ok [.trioQ, .emcyQ, .logQ, .logWin, .encs, .reg .CMP_CFG, .reg .CMP_CNTS, .reg .CMP_COUNT, .reg .CMP_POS, .reg .CMP_STAT, .reg .EV_PEND, .reg .MGS_LOGSTAT] s (@cmpPosSet x0 x1 s) := by
  intro x0 x1 s
  delta cmpPosSet
  refine Ok.via (cmpBehind_ok ..) rfl ?_
  refine Ok.via (State.wr_at (at_CMP_POS _)) rfl ?_
  exact Ok.refl

theorem cmpTick_ok : ∀ x0 s, Ok [.trioQ, .emcyQ, .logQ, .logWin, .encs, .reg .CMP_CFG, .reg .CMP_CNTS, .reg .CMP_COUNT, .reg .CMP_POS, .reg .CMP_STAT, .reg .EV_PEND, .reg .MGS_LOGSTAT] s (@cmpTick x0 s) := by
  intro x0 s
  delta cmpTick
  extract_lets +onlyGivenNames -merge -useContext s0
  clear_value s0
  extract_lets +onlyGivenNames -merge -useContext s1 s2
  refine Ok.withS (x := s2) ?_ fun h3 => ?_
  · unfold s2
    refine Ok.ite ?_ ?_
    · refine Ok.via (State.modEnc_ok ..) rfl ?_
      refine Ok.via (cmpMove_ok ..) rfl ?_
      exact Ok.refl
    · exact Ok.refl
  clear_value s1 s2
  split
  · exact h3
  · refine Ok.via (cmpPosSet_ok ..) rfl ?_
    refine Ok.via (State.modEnc_ok ..) rfl ?_
    exact h3

theorem countBy_at {s : State} {f g : Fld} {d : Int} {r r' : RegName} (h : r.at f.addr) (h' : r'.at g.addr) :
    Ok [.reg r, .reg r'] s (countBy f g d s) := by
  unfold countBy
  exact Ok.ite (((State.put_at h).mono (by simp [within, covered])).trans ((State.put_at h').mono (by simp [within, covered])))
    ((State.put_at h).mono (by simp [within, covered]))

theorem countBy_ok : ∀ f g d s, Ok [.regs] s (countBy f g d s) := by
  intro f g d s
  unfold countBy
  exact Ok.ite ((State.put_ok ..).trans (State.put_ok ..)) (State.put_ok ..)

theorem stepCount_ok : ∀ x0 x1 x2 x3 s, Ok [.trioQ, .emcyQ, .logQ, .logWin, .stepLast, .reg .EV_PEND, .reg .MGS_LOGSTAT, .reg .STEP_CNT, .reg .STEP_ERR, .reg .STEP_MCNT, .reg .STEP_STAT] s (@stepCount x0 x1 x2 x3 s) := by
  intro x0 x1 x2 x3 s
  delta stepCount
  extract_lets +onlyGivenNames -merge -useContext s0
  clear_value s0
  extract_lets +onlyGivenNames -merge -useContext s1
  clear_value s1
  extract_lets +onlyGivenNames -merge -useContext s2
  clear_value s2
  extract_lets +onlyGivenNames -merge -useContext s3
  refine Ok.withS (x := s3) ?_ fun h4 => ?_
  · unfold s3
    refine Ok.via (countBy_at (at_STEP_CNT _) (at_STEP_STAT _)) rfl ?_
    exact Ok.refl
  clear_value s3
  extract_lets +onlyGivenNames -merge -useContext s5
  refine Ok.withS (x := s5) ?_ fun h6 => ?_
  · unfold s5
    refine Ok.via (State.put_at (at_STEP_MCNT _)) rfl ?_
    exact h4
  clear_value s5
  extract_lets +onlyGivenNames -merge -useContext s7
  clear_value s7
  extract_lets +onlyGivenNames -merge -useContext s8
  refine Ok.withS (x := s8) ?_ fun h9 => ?_
  · unfold s8
    refine Ok.ite ?_ ?_
    · refine Ok.via (pend_ok ..) rfl ?_
      refine Ok.via (State.inc_at (at_STEP_ERR _)) rfl ?_
      refine Ok.via (State.put_at (at_STEP_STAT _)) rfl ?_
      exact h6
    · exact h6
  clear_value s8
  extract_lets +onlyGivenNames -merge -useContext s10
  refine Ok.withS (x := s10) ?_ fun h11 => ?_
  · unfold s10
    refine Ok.ite ?_ ?_
    · refine Ok.via (pend_ok ..) rfl ?_
      refine Ok.via (State.inc_at (at_STEP_ERR _)) rfl ?_
      refine Ok.via (State.put_at (at_STEP_STAT _)) rfl ?_
      exact h9
    · exact h9
  clear_value s10
  refine Ok.via (Ok.stepLast ?_) rfl ?_
  · exact fun h => Sparse.wf_set h
  exact h11

theorem showDir_ok : ∀ x0 s, Ok [.reg .STEP_STAT] s (@showDir x0 s) := by
  intro x0 s
  delta showDir
  refine Ok.via (State.putB_at (at_STEP_STAT _)) rfl ?_
  exact Ok.refl

theorem stepSample_ok : ∀ x0 x1 x2 x3 x4 x5 x6 s, Ok [.trioQ, .emcyQ, .logQ, .logWin, .stepLast, .stepDir, .reg .EV_PEND, .reg .MGS_LOGSTAT, .reg .STEP_CNT, .reg .STEP_ERR, .reg .STEP_MCNT, .reg .STEP_STAT] s (@stepSample x0 x1 x2 x3 x4 x5 x6 s) := by
  intro x0 x1 x2 x3 x4 x5 x6 s
  delta stepSample
  refine Ok.ite ?_ ?_
  · exact Ok.refl
  · extract_lets +onlyGivenNames -merge -useContext s0
    clear_value s0
    extract_lets +onlyGivenNames -merge -useContext s1
    clear_value s1
    extract_lets +onlyGivenNames -merge -useContext s2
    clear_value s2
    extract_lets +onlyGivenNames -merge -useContext s3
    clear_value s3
    extract_lets +onlyGivenNames -merge -useContext s4
    clear_value s4
    extract_lets +onlyGivenNames -merge -useContext s5
    clear_value s5
    extract_lets +onlyGivenNames -merge -useContext s6
    refine Ok.withS (x := s6) ?_ fun h7 => ?_
    · unfold s6
      refine Ok.via (showDir_ok ..) rfl ?_
      refine Ok.via (Ok.stepDir ?_) rfl ?_
      · exact fun h => Sparse.wf_set h
      exact Ok.refl
    clear_value s6
    extract_lets +onlyGivenNames -merge -useContext s8
    refine Ok.withS (x := s8) ?_ fun h9 => ?_
    · unfold s8
      refine Ok.via (State.putB_at (at_STEP_STAT _)) rfl ?_
      exact h7
    clear_value s8
    refine Ok.ite ?_ ?_
    · refine Ok.via (stepCount_ok ..) rfl ?_
      exact h9
    · exact h9

theorem setSpeed_ok : ∀ x0 x1 x2 s, Ok [.free, .reg .ENC_SPD] s (@setSpeed x0 x1 x2 s) := by
  intro x0 x1 x2 s
  delta setSpeed
  extract_lets +onlyGivenNames -merge -useContext s0
  clear_value s0
  extract_lets +onlyGivenNames -merge -useContext s1
  clear_value s1
  split
  · rename_i t2 e3
    refine Ok.withS (x := t2) (OkP.of_eq e3 ?_) fun h4 => ?_
    · refine OkP.via (State.fresh_ok ..) rfl ?_
      exact Ok.refl
    extract_lets +onlyGivenNames -merge -useContext s5
    clear_value s5
    refine Ok.via (State.putI_at (at_ENC_SPD _)) rfl ?_
    refine Ok.ite ?_ ?_
    · exact Ok.refl
    · exact h4

theorem periodSpeed_ok : ∀ x0 x1 x2 s, Ok [.free, .reg .ENC_PER, .reg .ENC_SPD, .reg .ENC_STAT] s (@periodSpeed x0 x1 x2 s) := by
  intro x0 x1 x2 s
  delta periodSpeed
  extract_lets +onlyGivenNames -merge -useContext s0
  refine Ok.withS (x := s0) ?_ fun h1 => ?_
  · unfold s0
    refine Ok.via (State.put_at (at_ENC_PER _)) rfl ?_
    exact Ok.refl
  clear_value s0
  extract_lets +onlyGivenNames -merge -useContext s2
  refine Ok.withS (x := s2) ?_ fun h3 => ?_
  · unfold s2
    refine Ok.ite ?_ ?_
    · exact h1
    · refine Ok.via (setSpeed_ok ..) rfl ?_
      exact h1
  clear_value s2
  extract_lets +onlyGivenNames -merge -useContext s4
  clear_value s4
  refine Ok.ite ?_ ?_
  · refine Ok.via (State.put_at (at_ENC_STAT _)) rfl ?_
    exact h3
  · exact h3

theorem encCount_ok : ∀ x0 x1 x2 s, Ok [.free, .trioQ, .emcyQ, .logQ, .logWin, .encs, .reg .CMP_CFG, .reg .CMP_CNTS, .reg .CMP_COUNT, .reg .CMP_POS, .reg .CMP_STAT, .reg .ENC_CNT, .reg .ENC_MCNT, .reg .ENC_PER, .reg .ENC_SPD, .reg .ENC_STAT, .reg .EV_PEND, .reg .MGS_LOGSTAT] s (@encCount x0 x1 x2 s) := by
  intro x0 x1 x2 s
  delta encCount
  extract_lets +onlyGivenNames -merge -useContext s0
  clear_value s0
  extract_lets +onlyGivenNames -merge -useContext s1
  clear_value s1
  extract_lets +onlyGivenNames -merge -useContext s2
  refine Ok.withS (x := s2) ?_ fun h3 => ?_
  · unfold s2
    refine Ok.via (countBy_at (at_ENC_CNT _) (at_ENC_STAT _)) rfl ?_
    exact Ok.refl
  clear_value s2
  extract_lets +onlyGivenNames -merge -useContext s4
  refine Ok.withS (x := s4) ?_ fun h5 => ?_
  · unfold s4
    refine Ok.via (State.put_at (at_ENC_MCNT _)) rfl ?_
    exact h3
  clear_value s4
  extract_lets +onlyGivenNames -merge -useContext s6
  refine Ok.withS (x := s6) ?_ fun h7 => ?_
  · unfold s6
    refine Ok.via (State.putB_at (at_ENC_STAT _)) rfl ?_
    exact h5
  clear_value s6
  extract_lets +onlyGivenNames -merge -useContext s8
  clear_value s8
  extract_lets +onlyGivenNames -merge -useContext s9
  clear_value s9
  extract_lets +onlyGivenNames -merge -useContext s10
  refine Ok.withS (x := s10) ?_ fun h11 => ?_
  · unfold s10
    refine Ok.via (State.modEnc_ok ..) rfl ?_
    exact h7
  clear_value s10
  extract_lets +onlyGivenNames -merge -useContext s12
  refine Ok.withS (x := s12) ?_ fun h13 => ?_
  · unfold s12
    refine Ok.ite ?_ ?_
    · exact h11
    · refine Ok.ite ?_ ?_
      · refine Ok.via (periodSpeed_ok ..) rfl ?_
        exact h11
      · refine Ok.via (State.put_at (at_ENC_SPD _)) rfl ?_
        exact h11
  clear_value s12
  refine Ok.ite ?_ ?_
  · exact h13
  · refine Ok.via (cmpMove_ok ..) rfl ?_
    exact h13

theorem encFault_ok : ∀ x0 s, Ok [.trioQ, .emcyQ, .logQ, .logWin, .encs, .reg .ENC_STAT, .reg .EV_PEND, .reg .MGS_LOGSTAT] s (@encFault x0 s) := by
  intro x0 s
  delta encFault
  extract_lets +onlyGivenNames -merge -useContext s0
  clear_value s0
  refine Ok.ite ?_ ?_
  · refine Ok.via (pend_ok ..) rfl ?_
    refine Ok.via (State.modEnc_ok ..) rfl ?_
    refine Ok.via (State.put_at (at_ENC_STAT _)) rfl ?_
    exact Ok.refl
  · exact Ok.refl

theorem encWindow_ok : ∀ x0 s, Ok [.encs] s (@encWindow x0 s) := by
  intro x0 s
  delta encWindow
  refine Ok.via (State.modEnc_ok ..) rfl ?_
  exact Ok.refl

theorem quadDecode_ok : ∀ x0 x1 x2 x3 x4 x5 s, Ok [.free, .trioQ, .emcyQ, .logQ, .logWin, .encs, .reg .CMP_CFG, .reg .CMP_CNTS, .reg .CMP_COUNT, .reg .CMP_POS, .reg .CMP_STAT, .reg .ENC_CNT, .reg .ENC_ERR, .reg .ENC_MCNT, .reg .ENC_PER, .reg .ENC_SPD, .reg .ENC_STAT, .reg .EV_PEND, .reg .MGS_LOGSTAT] s (@quadDecode x0 x1 x2 x3 x4 x5 s) := by
  intro x0 x1 x2 x3 x4 x5 s
  delta quadDecode
  refine Ok.ite ?_ ?_
  · exact Ok.refl
  · refine Ok.ite ?_ ?_
    · extract_lets +onlyGivenNames -merge -useContext s0
      refine Ok.withS (x := s0) ?_ fun h1 => ?_
      · unfold s0
        refine Ok.via (State.modEnc_ok ..) rfl ?_
        exact Ok.refl
      clear_value s0
      refine Ok.via (encFault_ok ..) rfl ?_
      refine Ok.via (pend_ok ..) rfl ?_
      refine Ok.via (State.inc_at (at_ENC_ERR _)) rfl ?_
      refine Ok.via (State.put_at (at_ENC_STAT _)) rfl ?_
      exact h1
    · extract_lets +onlyGivenNames -merge -useContext s2
      clear_value s2
      refine Ok.via (encCount_ok ..) rfl ?_
      exact Ok.refl

theorem quadSample_ok : ∀ x0 x1 x2 x3 x4 x5 s, Ok [.free, .trioQ, .emcyQ, .logQ, .logWin, .encs, .reg .CMP_CFG, .reg .CMP_CNTS, .reg .CMP_COUNT, .reg .CMP_POS, .reg .CMP_STAT, .reg .ENC_CNT, .reg .ENC_ERR, .reg .ENC_MCNT, .reg .ENC_PER, .reg .ENC_SPD, .reg .ENC_STAT, .reg .EV_PEND, .reg .MGS_LOGSTAT] s (@quadSample x0 x1 x2 x3 x4 x5 s) := by
  intro x0 x1 x2 x3 x4 x5 s
  delta quadSample
  extract_lets +onlyGivenNames -merge -useContext s0
  refine Ok.withS (x := s0) ?_ fun h1 => ?_
  · unfold s0
    refine Ok.via (State.modEnc_ok ..) rfl ?_
    exact Ok.refl
  clear_value s0
  refine Ok.ite ?_ ?_
  · exact h1
  · extract_lets +onlyGivenNames -merge -useContext s2
    clear_value s2
    extract_lets +onlyGivenNames -merge -useContext s3
    clear_value s3
    extract_lets +onlyGivenNames -merge -useContext s4
    clear_value s4
    extract_lets +onlyGivenNames -merge -useContext s5
    clear_value s5
    extract_lets +onlyGivenNames -merge -useContext s6
    clear_value s6
    extract_lets +onlyGivenNames -merge -useContext s7
    clear_value s7
    extract_lets +onlyGivenNames -merge -useContext s8
    clear_value s8
    extract_lets +onlyGivenNames -merge -useContext s9
    refine Ok.withS (x := s9) ?_ fun h10 => ?_
    · unfold s9
      refine Ok.via (State.putB_at (at_ENC_STAT _)) rfl ?_
      refine Ok.via (State.putB_at (at_ENC_STAT _)) rfl ?_
      exact h1
    clear_value s9
    refine Ok.ite ?_ ?_
    · refine Ok.via (quadDecode_ok ..) rfl ?_
      exact h10
    · exact h10

theorem encSet_ok : ∀ x0 x1 s, Ok [.trioQ, .emcyQ, .logQ, .logWin, .encs, .reg .CMP_CFG, .reg .CMP_CNTS, .reg .CMP_COUNT, .reg .CMP_POS, .reg .CMP_STAT, .reg .ENC_CNT, .reg .EV_PEND, .reg .MGS_LOGSTAT] s (@encSet x0 x1 s) := by
  intro x0 x1 s
  delta encSet
  extract_lets +onlyGivenNames -merge -useContext s0
  refine Ok.withS (x := s0) ?_ fun h1 => ?_
  · unfold s0
    refine Ok.via (State.wr_at (at_ENC_CNT _)) rfl ?_
    exact Ok.refl
  clear_value s0
  refine Ok.ite ?_ ?_
  · exact h1
  · refine Ok.via (cmpBehind_ok ..) rfl ?_
    exact h1

theorem indexEdge_ok : ∀ x0 s, Ok [.trioQ, .emcyQ, .logQ, .logWin, .encs, .reg .CMP_CFG, .reg .CMP_CNTS, .reg .CMP_COUNT, .reg .CMP_POS, .reg .CMP_STAT, .reg .ENC_CFG, .reg .ENC_CNT, .reg .ENC_STAT, .reg .ENC_ZLATCH, .reg .EV_PEND, .reg .MGS_LOGSTAT] s (@indexEdge x0 s) := by
  intro x0 s
  delta indexEdge
  extract_lets +onlyGivenNames -merge -useContext s0
  clear_value s0
  refine Ok.ite ?_ ?_
  · exact Ok.refl
  · extract_lets +onlyGivenNames -merge -useContext s1
    refine Ok.withS (x := s1) ?_ fun h2 => ?_
    · unfold s1
      refine Ok.ite ?_ ?_
      · exact Ok.refl
      · refine Ok.via (State.put_at (at_ENC_STAT _)) rfl ?_
        refine Ok.via (State.wr_at (at_ENC_ZLATCH _)) rfl ?_
        exact Ok.refl
    clear_value s1
    extract_lets +onlyGivenNames -merge -useContext s3
    refine Ok.withS (x := s3) ?_ fun h4 => ?_
    · unfold s3
      refine Ok.ite ?_ ?_
      · refine Ok.via (State.put_at (at_ENC_CFG _)) rfl ?_
        exact h2
      · exact h2
    clear_value s3
    extract_lets +onlyGivenNames -merge -useContext s5
    refine Ok.withS (x := s5) ?_ fun h6 => ?_
    · unfold s5
      refine Ok.ite ?_ ?_
      · refine Ok.via (encSet_ok ..) rfl ?_
        exact h4
      · exact h4
    clear_value s5
    refine Ok.ite ?_ ?_
    · refine Ok.via (pend_ok ..) rfl ?_
      exact h6
    · exact h6

theorem indexSample_ok : ∀ x0 x1 x2 x3 s, Ok [.trioQ, .emcyQ, .logQ, .logWin, .encs, .reg .CMP_CFG, .reg .CMP_CNTS, .reg .CMP_COUNT, .reg .CMP_POS, .reg .CMP_STAT, .reg .ENC_CFG, .reg .ENC_CNT, .reg .ENC_STAT, .reg .ENC_ZLATCH, .reg .EV_PEND, .reg .MGS_LOGSTAT] s (@indexSample x0 x1 x2 x3 s) := by
  intro x0 x1 x2 x3 s
  delta indexSample
  extract_lets +onlyGivenNames -merge -useContext s0
  refine Ok.withS (x := s0) ?_ fun h1 => ?_
  · unfold s0
    refine Ok.via (State.modEnc_ok ..) rfl ?_
    exact Ok.refl
  clear_value s0
  refine Ok.ite ?_ ?_
  · exact h1
  · extract_lets +onlyGivenNames -merge -useContext s2
    clear_value s2
    extract_lets +onlyGivenNames -merge -useContext s3
    clear_value s3
    extract_lets +onlyGivenNames -merge -useContext s4
    refine Ok.withS (x := s4) ?_ fun h5 => ?_
    · unfold s4
      refine Ok.via (State.putB_at (at_ENC_STAT _)) rfl ?_
      exact h1
    clear_value s4
    refine Ok.ite ?_ ?_
    · refine Ok.via (indexEdge_ok ..) rfl ?_
      exact h5
    · exact h5

theorem speedTimeout_ok : ∀ x0 s, Ok [.reg .ENC_PER, .reg .ENC_SPD] s (@speedTimeout x0 s) := by
  intro x0 s
  delta speedTimeout
  refine Ok.ite ?_ ?_
  · refine Ok.via (State.put_at (at_ENC_PER _)) rfl ?_
    refine Ok.via (State.put_at (at_ENC_SPD _)) rfl ?_
    exact Ok.refl
  · exact Ok.refl

theorem windowEnd_ok : ∀ x0 s, Ok [.free, .encs, .reg .ENC_SPD, .reg .ENC_STAT] s (@windowEnd x0 s) := by
  intro x0 s
  delta windowEnd
  extract_lets +onlyGivenNames -merge -useContext s0
  clear_value s0
  extract_lets +onlyGivenNames -merge -useContext s1
  refine Ok.withS (x := s1) ?_ fun h2 => ?_
  · unfold s1
    refine Ok.via (State.modEnc_ok ..) rfl ?_
    exact Ok.refl
  clear_value s1
  refine Ok.ite ?_ ?_
  · extract_lets +onlyGivenNames -merge -useContext s3
    refine Ok.withS (x := s3) ?_ fun h7 => ?_
    · unfold s3
      refine Ok.ite ?_ ?_
      · refine Ok.via (State.put_at (at_ENC_SPD _)) rfl ?_
        exact h2
      · refine Ok.ite ?_ ?_
        · split
          · rename_i t4 e5
            refine Ok.withS (x := t4) (OkP.of_eq e5 ?_) fun h6 => ?_
            · refine OkP.via (State.fresh_ok ..) rfl ?_
              exact h2
            refine Ok.via (State.put_at (at_ENC_SPD _)) rfl ?_
            exact h6
        · refine Ok.via (setSpeed_ok ..) rfl ?_
          exact h2
    clear_value s3
    extract_lets +onlyGivenNames -merge -useContext s8
    clear_value s8
    refine Ok.ite ?_ ?_
    · refine Ok.via (State.put_at (at_ENC_STAT _)) rfl ?_
      exact h7
    · exact h7
  · exact h2

theorem speedDecay_ok : ∀ x0 s, Ok [.free, .reg .ENC_SPD] s (@speedDecay x0 s) := by
  intro x0 s
  delta speedDecay
  split
  · exact Ok.refl
  · extract_lets +onlyGivenNames -merge -useContext s0
    clear_value s0
    extract_lets +onlyGivenNames -merge -useContext s1
    clear_value s1
    refine Ok.ite ?_ ?_
    · refine Ok.via (setSpeed_ok ..) rfl ?_
      exact Ok.refl
    · exact Ok.refl

theorem pulseEnd_ok : ∀ x0 s, Ok [.encs, .reg .CMP_CFG, .reg .CMP_STAT] s (@pulseEnd x0 s) := by
  intro x0 s
  delta pulseEnd
  extract_lets +onlyGivenNames -merge -useContext s0
  clear_value s0
  extract_lets +onlyGivenNames -merge -useContext s1
  refine Ok.withS (x := s1) ?_ fun h2 => ?_
  · unfold s1
    refine Ok.via (State.put_at (at_CMP_STAT _)) rfl ?_
    exact Ok.refl
  clear_value s1
  refine Ok.ite ?_ ?_
  · refine Ok.via (cmpDone_ok ..) rfl ?_
    refine Ok.via (State.modEnc_ok ..) rfl ?_
    exact h2
  · exact h2

end Sys2Proof.Machine
end

