-- ==== Sys2Proof/Laws/OkTickOps.lean ====
section
/-!
SUPPORT. Laws/OkTickOps.lean: for each operation of Machine/TickOps.lean, the parts of the state it can change, and that it keeps a
good state good.
-/

namespace Sys2Proof.Machine

set_option Elab.async false

theorem gateBegin_ok : ∀ x0 s, Ok (.trioQ :: .emcyQ :: .logQ :: .logWin :: .coaches :: .axes :: .pl :: .syncOut :: .reg .AXALERT :: .reg .AXEN :: .reg .AX_ACC :: .reg .AX_EPFS :: .reg .AX_EVT :: .reg .AX_FLTSTAT :: .reg .AX_HOMEST :: .reg .AX_LOOPS :: .reg .AX_MOVEEN :: .reg .AX_SSTAT :: .reg .AX_STALLST :: .reg .AX_STARTSTAT :: .reg .AX_STAT :: .reg .AX_VEL :: .reg .EV_AXDONE :: .reg .EV_PEND :: .reg .MGS_LOGSTAT :: .reg .PL_ENERGY_HI :: .reg .PL_ENERGY_LO :: .reg .PL_EVINFO :: .reg .PL_MAKESPAN :: .reg .PL_RES :: .reg .PL_RES_EACT :: .reg .PL_RES_END :: .reg .PL_STAT :: []) s (@gateBegin x0 s) := by
  intro x0 s
  delta gateBegin
  refine Ok.ite ?_ ?_
  · refine Ok.via (startNow_ok ..) rfl ?_
    exact Ok.refl
  · split
    · exact Ok.refl
    · refine Ok.ite ?_ ?_
      · exact Ok.refl
      · refine Ok.via (endEntry_ok ..) rfl ?_
        refine Ok.via (State.put_at (at_PL_RES _)) rfl ?_
        exact Ok.refl

theorem hostBegin_ok : ∀ x0 s, Ok (.trioQ :: .emcyQ :: .logQ :: .logWin :: .coaches :: .axes :: .pl :: .syncOut :: .reg .AXALERT :: .reg .AXEN :: .reg .AX_ACC :: .reg .AX_EPFS :: .reg .AX_EVT :: .reg .AX_FLTSTAT :: .reg .AX_HOMEST :: .reg .AX_LOOPS :: .reg .AX_MOVEEN :: .reg .AX_SSTAT :: .reg .AX_STALLST :: .reg .AX_STARTSTAT :: .reg .AX_STAT :: .reg .AX_VEL :: .reg .EV_AXDONE :: .reg .EV_PEND :: .reg .MGS_LOGSTAT :: .reg .PL_ENERGY_HI :: .reg .PL_ENERGY_LO :: .reg .PL_EVINFO :: .reg .PL_MAKESPAN :: .reg .PL_RES :: .reg .PL_RES_EACT :: .reg .PL_RES_END :: .reg .PL_STAT :: []) s (@hostBegin x0 s) := by
  intro x0 s
  delta hostBegin
  refine Ok.ite ?_ ?_
  · exact Ok.refl
  · refine Ok.ite ?_ ?_
    · refine Ok.via (State.put_at (at_AX_STAT _)) rfl ?_
      exact Ok.refl
    · refine Ok.via (startNow_ok ..) rfl ?_
      exact Ok.refl

theorem runReq_ok : ∀ x0 x1 s, Ok (.trioQ :: .emcyQ :: .logQ :: .logWin :: .coaches :: .axes :: .pl :: .syncOut :: .reg .AXALERT :: .reg .AXEN :: .reg .AX_ACC :: .reg .AX_CHAINST :: .reg .AX_EPFS :: .reg .AX_EVT :: .reg .AX_FLTSTAT :: .reg .AX_HOMEST :: .reg .AX_LOOPS :: .reg .AX_MOVEEN :: .reg .AX_SSTAT :: .reg .AX_STALLST :: .reg .AX_STARTSTAT :: .reg .AX_STAT :: .reg .AX_USTAT :: .reg .AX_VEL :: .reg .EV_AXDONE :: .reg .EV_PEND :: .reg .GCTL_PARERR :: .reg .MGS_LOGSTAT :: .reg .PL_ENERGY_HI :: .reg .PL_ENERGY_LO :: .reg .PL_EVINFO :: .reg .PL_MAKESPAN :: .reg .PL_RES :: .reg .PL_RES_EACT :: .reg .PL_RES_END :: .reg .PL_STAT :: []) s (@runReq x0 x1 s) := by
  intro x0 x1 s
  delta runReq
  split
  · refine Ok.via (hostBegin_ok ..) rfl ?_
    exact Ok.refl
  · refine Ok.via (gateBegin_ok ..) rfl ?_
    exact Ok.refl
  · extract_lets +onlyGivenNames -merge -useContext s0
    refine Ok.withS (x := s0) ?_ fun h1 => ?_
    · unfold s0
      refine Ok.via (State.put_at (at_AX_STAT _)) rfl ?_
      refine Ok.via (planCause_ok ..) rfl ?_
      exact Ok.refl
    clear_value s0
    refine Ok.ite ?_ ?_
    · refine Ok.via (stopCmd_ok ..) rfl ?_
      exact h1
    · exact h1
  · extract_lets +onlyGivenNames -merge -useContext s2
    refine Ok.withS (x := s2) ?_ fun h3 => ?_
    · unfold s2
      refine Ok.via (State.put_at (at_AX_STAT _)) rfl ?_
      refine Ok.via (planCause_ok ..) rfl ?_
      exact Ok.refl
    clear_value s2
    refine Ok.ite ?_ ?_
    · refine Ok.via (quickStop_ok ..) rfl ?_
      exact h3
    · exact h3
  · extract_lets +onlyGivenNames -merge -useContext s4
    refine Ok.withS (x := s4) ?_ fun h5 => ?_
    · unfold s4
      refine Ok.via (planCause_ok ..) rfl ?_
      exact Ok.refl
    clear_value s4
    refine Ok.ite ?_ ?_
    · refine Ok.via (haltTick_ok ..) rfl ?_
      exact h5
    · exact h5
  · refine Ok.ite ?_ ?_
    · exact Ok.refl
    · refine Ok.via (State.modSe_ok ..) rfl ?_
      refine Ok.via (State.put_at (at_AX_STAT _)) rfl ?_
      exact Ok.refl
  · split
    · refine Ok.via (State.modMo_ok ..) rfl ?_
      refine Ok.via (State.put_at (at_AX_STAT _)) rfl ?_
      exact Ok.refl
    · exact Ok.refl
  · refine Ok.via (updAlert_ok ..) rfl ?_
    refine Ok.via (State.put_at (at_AX_STAT _)) rfl ?_
    exact Ok.refl

theorem syncAxis_ok : ∀ x0 s, Ok (.trioQ :: .emcyQ :: .logQ :: .logWin :: .coaches :: .axes :: .pl :: .syncOut :: .reg .AXALERT :: .reg .AXEN :: .reg .AX_ACC :: .reg .AX_EPFS :: .reg .AX_EVT :: .reg .AX_FLTSTAT :: .reg .AX_HOMEST :: .reg .AX_LOOPS :: .reg .AX_MOVEEN :: .reg .AX_SSTAT :: .reg .AX_STALLST :: .reg .AX_STARTSTAT :: .reg .AX_STAT :: .reg .AX_VEL :: .reg .EV_AXDONE :: .reg .EV_PEND :: .reg .MGS_LOGSTAT :: .reg .PL_ENERGY_HI :: .reg .PL_ENERGY_LO :: .reg .PL_EVINFO :: .reg .PL_MAKESPAN :: .reg .PL_RES :: .reg .PL_RES_EACT :: .reg .PL_RES_END :: .reg .PL_STAT :: []) s (@syncAxis x0 s) := by
  intro x0 s
  delta syncAxis
  extract_lets +onlyGivenNames -merge -useContext s0
  clear_value s0
  extract_lets +onlyGivenNames -merge -useContext s1
  refine Ok.withS (x := s1) ?_ fun h2 => ?_
  · unfold s1
    refine Ok.via (State.modMo_ok ..) rfl ?_
    exact Ok.refl
  clear_value s1
  refine Ok.ite ?_ ?_
  · refine Ok.ite ?_ ?_
    · refine Ok.via (startNow_ok ..) rfl ?_
      exact h2
    · refine Ok.via (State.put_at (at_AX_STAT _)) rfl ?_
      exact h2
  · refine Ok.ite ?_ ?_
    · split
      · refine Ok.via (State.modMo_ok ..) rfl ?_
        refine Ok.via (State.put_at (at_AX_STAT _)) rfl ?_
        exact h2
      · exact h2
    · exact h2

theorem axisCommands_ok : ∀ x0 s, Ok (.trioQ :: .emcyQ :: .logQ :: .logWin :: .coaches :: .axes :: .pl :: .syncOut :: .reg .AXALERT :: .reg .AXEN :: .reg .AX_ACC :: .reg .AX_CHAINST :: .reg .AX_EPFS :: .reg .AX_EVT :: .reg .AX_FLTSTAT :: .reg .AX_HOMEST :: .reg .AX_LOOPS :: .reg .AX_MOVEEN :: .reg .AX_SSTAT :: .reg .AX_STALLST :: .reg .AX_STARTSTAT :: .reg .AX_STAT :: .reg .AX_USTAT :: .reg .AX_VEL :: .reg .EV_AXDONE :: .reg .EV_PEND :: .reg .GCTL_PARERR :: .reg .MGS_LOGSTAT :: .reg .PL_ENERGY_HI :: .reg .PL_ENERGY_LO :: .reg .PL_EVINFO :: .reg .PL_MAKESPAN :: .reg .PL_RES :: .reg .PL_RES_EACT :: .reg .PL_RES_END :: .reg .PL_STAT :: []) s (@axisCommands x0 s) := by
  intro x0 s
  delta axisCommands
  extract_lets +onlyGivenNames -merge -useContext s0
  clear_value s0
  refine Ok.ite ?_ ?_
  · exact Ok.refl
  · extract_lets +onlyGivenNames -merge -useContext s1
    refine Ok.withS (x := s1) ?_ fun h2 => ?_
    · unfold s1
      refine Ok.via (State.modMo_ok ..) rfl ?_
      exact Ok.refl
    clear_value s1
    extract_lets +onlyGivenNames -merge -useContext s3
    refine Ok.withS (x := s3) ?_ fun h4 => ?_
    · unfold s3
      refine Ok.via (landEnable_ok ..) rfl ?_
      exact h2
    clear_value s3
    extract_lets +onlyGivenNames -merge -useContext s5
    refine Ok.withS (x := s5) ?_ fun h6 => ?_
    · unfold s5
      refine Ok.ite ?_ ?_
      · refine Ok.via (disableNow_ok ..) rfl ?_
        exact h4
      · exact h4
    clear_value s5
    extract_lets +onlyGivenNames -merge -useContext s7
    refine Ok.withS (x := s7) ?_ fun h8 => ?_
    · unfold s7
      refine Ok.via (syncAxis_ok ..) rfl ?_
      exact h6
    clear_value s7
    extract_lets +onlyGivenNames -merge -useContext s9
    refine Ok.withS (x := s9) ?_ fun h12 => ?_
    · unfold s9
      refine Ok.foldl ?_ ?_
      · intro u10 x11
        refine Ok.via (runReq_ok ..) rfl ?_
        exact Ok.refl
      · exact h8
    clear_value s9
    extract_lets +onlyGivenNames -merge -useContext s13
    refine Ok.withS (x := s13) ?_ fun h14 => ?_
    · unfold s13
      refine Ok.ite ?_ ?_
      · refine Ok.via (haltTick_ok ..) rfl ?_
        exact h12
      · exact h12
    clear_value s13
    extract_lets +onlyGivenNames -merge -useContext s15
    refine Ok.withS (x := s15) ?_ fun h16 => ?_
    · unfold s15
      refine Ok.ite ?_ ?_
      · refine Ok.via (quickStop_ok ..) rfl ?_
        exact h14
      · exact h14
    clear_value s15
    refine Ok.via (State.modMo_ok ..) rfl ?_
    exact h16

theorem axisActions_ok : ∀ x0 s, Ok (.trioQ :: .emcyQ :: .logQ :: .logWin :: .coaches :: .axes :: .pl :: .reg .AXALERT :: .reg .AXEN :: .reg .AX_ACC :: .reg .AX_CHAINST :: .reg .AX_EPFS :: .reg .AX_EVT :: .reg .AX_FLTSTAT :: .reg .AX_HOMEST :: .reg .AX_MOVEEN :: .reg .AX_SSTAT :: .reg .AX_STALLST :: .reg .AX_STAT :: .reg .AX_USTAT :: .reg .AX_VEL :: .reg .EV_AXDONE :: .reg .EV_PEND :: .reg .GCTL_PARERR :: .reg .MGS_LOGSTAT :: .reg .PL_ENERGY_HI :: .reg .PL_ENERGY_LO :: .reg .PL_EVINFO :: .reg .PL_MAKESPAN :: .reg .PL_RES :: .reg .PL_RES_EACT :: .reg .PL_RES_END :: .reg .PL_STAT :: []) s (@axisActions x0 s) := by
  intro x0 s
  delta axisActions
  extract_lets +onlyGivenNames -merge -useContext s0
  clear_value s0
  extract_lets +onlyGivenNames -merge -useContext s1 s2
  refine Ok.withS (x := s1) ?_ fun h3 => ?_
  · unfold s1
    refine Ok.via (State.modMo_ok ..) rfl ?_
    exact Ok.refl
  refine Ok.withS (x := s2) ?_ fun h4 => ?_
  · unfold s2
    split
    · exact Ok.refl
    · refine Ok.ite ?_ ?_
      · refine Ok.via (stallEffect_ok ..) rfl ?_
        exact h3
      · exact h3
  clear_value s1 s2
  split
  · exact h4
  · refine Ok.via (runAction_ok ..) rfl ?_
    refine Ok.via (State.modMo_ok ..) rfl ?_
    exact h4

theorem setPV_ok : ∀ x0 x1 s, Ok [.axes] s (@setPV x0 x1 s) := by
  intro x0 x1 s
  delta setPV
  refine Ok.via (State.modMo_ok ..) rfl ?_
  exact Ok.refl

theorem qstopStep_ok : ∀ x0 s, Ok (.trioQ :: .emcyQ :: .logQ :: .logWin :: .coaches :: .axes :: .pl :: .reg .AXALERT :: .reg .AXEN :: .reg .AX_ACC :: .reg .AX_EPFS :: .reg .AX_EVT :: .reg .AX_FLTSTAT :: .reg .AX_HOMEST :: .reg .AX_MOVEEN :: .reg .AX_SSTAT :: .reg .AX_STALLST :: .reg .AX_STAT :: .reg .AX_VEL :: .reg .EV_AXDONE :: .reg .EV_PEND :: .reg .MGS_LOGSTAT :: .reg .PL_ENERGY_HI :: .reg .PL_ENERGY_LO :: .reg .PL_EVINFO :: .reg .PL_MAKESPAN :: .reg .PL_RES :: .reg .PL_RES_EACT :: .reg .PL_RES_END :: .reg .PL_STAT :: []) s (@qstopStep x0 s) := by
  intro x0 s
  delta qstopStep
  extract_lets +onlyGivenNames -merge -useContext s0
  refine Ok.withS (x := s0) ?_ fun h1 => ?_
  · unfold s0
    refine Ok.via (setPV_ok ..) rfl ?_
    exact Ok.refl
  clear_value s0
  refine Ok.ite ?_ ?_
  · refine Ok.via (stopDone_ok ..) rfl ?_
    exact h1
  · exact h1

theorem qstopFrom_ok : ∀ x0 s, Ok (.trioQ :: .emcyQ :: .logQ :: .logWin :: .coaches :: .axes :: .pl :: .reg .AXALERT :: .reg .AXEN :: .reg .AX_ACC :: .reg .AX_EPFS :: .reg .AX_EVT :: .reg .AX_FLTSTAT :: .reg .AX_HOMEST :: .reg .AX_MOVEEN :: .reg .AX_SSTAT :: .reg .AX_STALLST :: .reg .AX_STAT :: .reg .AX_VEL :: .reg .EV_AXDONE :: .reg .EV_PEND :: .reg .MGS_LOGSTAT :: .reg .PL_ENERGY_HI :: .reg .PL_ENERGY_LO :: .reg .PL_EVINFO :: .reg .PL_MAKESPAN :: .reg .PL_RES :: .reg .PL_RES_EACT :: .reg .PL_RES_END :: .reg .PL_STAT :: []) s (@qstopFrom x0 s) := by
  intro x0 s
  delta qstopFrom
  extract_lets +onlyGivenNames -merge -useContext s0
  refine Ok.withS (x := s0) ?_ fun h1 => ?_
  · unfold s0
    refine Ok.via (quickStop_ok ..) rfl ?_
    exact Ok.refl
  clear_value s0
  refine Ok.ite ?_ ?_
  · refine Ok.via (qstopStep_ok ..) rfl ?_
    exact h1
  · exact h1

theorem brakeStep_ok : ∀ x0 x1 s, Ok (.trioQ :: .emcyQ :: .logQ :: .logWin :: .coaches :: .axes :: .pl :: .reg .AXALERT :: .reg .AXEN :: .reg .AX_ACC :: .reg .AX_EPFS :: .reg .AX_EVT :: .reg .AX_FLTSTAT :: .reg .AX_HOMEST :: .reg .AX_MOVEEN :: .reg .AX_SSTAT :: .reg .AX_STALLST :: .reg .AX_STAT :: .reg .AX_VEL :: .reg .EV_AXDONE :: .reg .EV_PEND :: .reg .MGS_LOGSTAT :: .reg .PL_ENERGY_HI :: .reg .PL_ENERGY_LO :: .reg .PL_EVINFO :: .reg .PL_MAKESPAN :: .reg .PL_RES :: .reg .PL_RES_EACT :: .reg .PL_RES_END :: .reg .PL_STAT :: []) s (@brakeStep x0 x1 s) := by
  intro x0 x1 s
  delta brakeStep
  extract_lets +onlyGivenNames -merge -useContext s0
  clear_value s0
  split
  · refine Ok.via (stopDone_ok ..) rfl ?_
    refine Ok.via (setPV_ok ..) rfl ?_
    exact Ok.refl
  · extract_lets +onlyGivenNames -merge -useContext s1
    clear_value s1
    extract_lets +onlyGivenNames -merge -useContext s2
    refine Ok.withS (x := s2) ?_ fun h3 => ?_
    · unfold s2
      refine Ok.via (setPV_ok ..) rfl ?_
      exact Ok.refl
    clear_value s2
    refine Ok.ite ?_ ?_
    · refine Ok.via (stopDone_ok ..) rfl ?_
      exact h3
    · exact h3

theorem guarded_ok {W' : List Part} {x0 x1} {x2} {s : State} (hk : ∀ u, Ok W' u (x2 u)) :
    Ok ((.trioQ :: .emcyQ :: .logQ :: .logWin :: .coaches :: .axes :: .pl :: .reg .AXALERT :: .reg .AXEN :: .reg .AX_ACC :: .reg .AX_EPFS :: .reg .AX_EVT :: .reg .AX_FLTSTAT :: .reg .AX_HOMEST :: .reg .AX_MOVEEN :: .reg .AX_SSTAT :: .reg .AX_STALLST :: .reg .AX_STAT :: .reg .AX_VEL :: .reg .EV_AXDONE :: .reg .EV_PEND :: .reg .MGS_LOGSTAT :: .reg .PL_ENERGY_HI :: .reg .PL_ENERGY_LO :: .reg .PL_EVINFO :: .reg .PL_MAKESPAN :: .reg .PL_RES :: .reg .PL_RES_EACT :: .reg .PL_RES_END :: .reg .PL_STAT :: []) ++ W') s (@guarded x0 x1 x2 s) := by
  delta guarded
  extract_lets +onlyGivenNames -merge -useContext s0
  clear_value s0
  extract_lets +onlyGivenNames -merge -useContext s1
  clear_value s1
  split
  · refine Ok.via (hk ..) within_right ?_
    refine Ok.via (setPV_ok ..) (within_left rfl) ?_
    exact Ok.refl
  · extract_lets +onlyGivenNames -merge -useContext s2
    refine Ok.withS (x := s2) ?_ fun h3 => ?_
    · unfold s2
      refine Ok.via (planRunCause_ok ..) (within_left rfl) ?_
      refine Ok.via (updAlert_ok ..) (within_left rfl) ?_
      refine Ok.via (State.put_at (at_AX_EVT _)) (within_left rfl) ?_
      exact Ok.refl
    clear_value s2
    refine Ok.via (qstopFrom_ok ..) (within_left rfl) ?_
    exact h3
  · extract_lets +onlyGivenNames -merge -useContext s4
    refine Ok.withS (x := s4) ?_ fun h5 => ?_
    · unfold s4
      refine Ok.via (planRunCause_ok ..) (within_left rfl) ?_
      refine Ok.via (State.put_at (at_AX_EVT _)) (within_left rfl) ?_
      exact Ok.refl
    clear_value s4
    refine Ok.via (endMove_ok ..) (within_left rfl) ?_
    refine Ok.via (State.put_at (at_AX_STAT _)) (within_left rfl) ?_
    refine Ok.via (setPV_ok ..) (within_left rfl) ?_
    exact h5
  · extract_lets +onlyGivenNames -merge -useContext s6
    refine Ok.withS (x := s6) ?_ fun h7 => ?_
    · unfold s6
      refine Ok.via (planRunCause_ok ..) (within_left rfl) ?_
      refine Ok.via (State.put_at (at_AX_EVT _)) (within_left rfl) ?_
      exact Ok.refl
    clear_value s6
    extract_lets +onlyGivenNames -merge -useContext s8
    refine Ok.withS (x := s8) ?_ fun h9 => ?_
    · unfold s8
      refine Ok.via (setPV_ok ..) (within_left rfl) ?_
      exact h7
    clear_value s8
    extract_lets +onlyGivenNames -merge -useContext s10
    refine Ok.withS (x := s10) ?_ fun h11 => ?_
    · unfold s10
      refine Ok.via (endMove_ok ..) (within_left rfl) ?_
      refine Ok.via (State.put_at (at_AX_STAT _)) (within_left rfl) ?_
      exact h9
    clear_value s10
    refine Ok.ite ?_ ?_
    · refine Ok.via (disableNow_ok ..) (within_left rfl) ?_
      exact h11
    · exact h11
  · extract_lets +onlyGivenNames -merge -useContext s12
    refine Ok.withS (x := s12) ?_ fun h13 => ?_
    · unfold s12
      refine Ok.via (planRunCause_ok ..) (within_left rfl) ?_
      refine Ok.via (State.put_at (at_AX_EVT _)) (within_left rfl) ?_
      exact Ok.refl
    clear_value s12
    extract_lets +onlyGivenNames -merge -useContext s14
    refine Ok.withS (x := s14) ?_ fun h16 => ?_
    · unfold s14
      refine Ok.applyIf ?_ ?_
      · intro a15
        refine Ok.via (State.put_at (at_AX_EVT _)) (within_left rfl) ?_
        exact Ok.refl
      · exact h13
    clear_value s14
    extract_lets +onlyGivenNames -merge -useContext s17
    refine Ok.withS (x := s17) ?_ fun h18 => ?_
    · unfold s17
      refine Ok.via (beginStop_ok ..) (within_left rfl) ?_
      exact h16
    clear_value s17
    refine Ok.ite ?_ ?_
    · refine Ok.via (brakeStep_ok ..) (within_left rfl) ?_
      exact h18
    · exact h18

theorem targetDone_ok : ∀ x0 x1 s, Ok (.trioQ :: .emcyQ :: .logQ :: .logWin :: .axes :: .pl :: .reg .AX_EPFS :: .reg .AX_EVT :: .reg .AX_MOVEEN :: .reg .AX_STAT :: .reg .EV_AXDONE :: .reg .EV_PEND :: .reg .MGS_LOGSTAT :: .reg .PL_ENERGY_HI :: .reg .PL_ENERGY_LO :: .reg .PL_EVINFO :: .reg .PL_MAKESPAN :: .reg .PL_RES :: .reg .PL_RES_EACT :: .reg .PL_RES_END :: .reg .PL_STAT :: []) s (@targetDone x0 x1 s) := by
  intro x0 x1 s
  delta targetDone
  extract_lets +onlyGivenNames -merge -useContext s0
  refine Ok.withS (x := s0) ?_ fun h2 => ?_
  · unfold s0
    refine Ok.applyIf ?_ ?_
    · intro a1
      refine Ok.via (State.put_at (at_AX_EVT _)) rfl ?_
      exact Ok.refl
    · exact Ok.refl
  clear_value s0
  extract_lets +onlyGivenNames -merge -useContext s3
  refine Ok.withS (x := s3) ?_ fun h4 => ?_
  · unfold s3
    refine Ok.via (raiseDone_at (at_AX_EVT _)) rfl ?_
    exact h2
  clear_value s3
  refine Ok.ite ?_ ?_
  · refine Ok.via (State.modMo_ok ..) rfl ?_
    refine Ok.via (State.put_at (at_AX_STAT _)) rfl ?_
    exact h4
  · refine Ok.via (endMove_ok ..) rfl ?_
    exact h4

theorem targetStep_ok : ∀ x0 s, Ok (.trioQ :: .emcyQ :: .logQ :: .logWin :: .coaches :: .axes :: .pl :: .reg .AXALERT :: .reg .AXEN :: .reg .AX_ACC :: .reg .AX_EPFS :: .reg .AX_EVT :: .reg .AX_FLTSTAT :: .reg .AX_HOMEST :: .reg .AX_MOVEEN :: .reg .AX_SSTAT :: .reg .AX_STALLST :: .reg .AX_STAT :: .reg .AX_VEL :: .reg .EV_AXDONE :: .reg .EV_PEND :: .reg .MGS_LOGSTAT :: .reg .PL_ENERGY_HI :: .reg .PL_ENERGY_LO :: .reg .PL_EVINFO :: .reg .PL_MAKESPAN :: .reg .PL_RES :: .reg .PL_RES_EACT :: .reg .PL_RES_END :: .reg .PL_STAT :: []) s (@targetStep x0 s) := by
  intro x0 s
  delta targetStep
  extract_lets +onlyGivenNames -merge -useContext s0
  clear_value s0
  split
  · refine Ok.via (guarded_ok (W' := (.trioQ :: .emcyQ :: .logQ :: .logWin :: .axes :: .pl :: .reg .AX_EPFS :: .reg .AX_EVT :: .reg .AX_MOVEEN :: .reg .AX_STAT :: .reg .EV_AXDONE :: .reg .EV_PEND :: .reg .MGS_LOGSTAT :: .reg .PL_ENERGY_HI :: .reg .PL_ENERGY_LO :: .reg .PL_EVINFO :: .reg .PL_MAKESPAN :: .reg .PL_RES :: .reg .PL_RES_EACT :: .reg .PL_RES_END :: .reg .PL_STAT :: [])) ?_) rfl ?_
    · intro a1
      refine Ok.ite ?_ ?_
      · refine Ok.via (targetDone_ok ..) rfl ?_
        exact Ok.refl
      · exact Ok.refl
    exact Ok.refl

theorem scurveStep_ok : ∀ x0 x1 s, Ok (.trioQ :: .emcyQ :: .logQ :: .logWin :: .coaches :: .axes :: .pl :: .reg .AXALERT :: .reg .AXEN :: .reg .AX_ACC :: .reg .AX_EPFS :: .reg .AX_EVT :: .reg .AX_FLTSTAT :: .reg .AX_HOMEST :: .reg .AX_MOVEEN :: .reg .AX_SSTAT :: .reg .AX_STALLST :: .reg .AX_STAT :: .reg .AX_VEL :: .reg .EV_AXDONE :: .reg .EV_PEND :: .reg .MGS_LOGSTAT :: .reg .PL_ENERGY_HI :: .reg .PL_ENERGY_LO :: .reg .PL_EVINFO :: .reg .PL_MAKESPAN :: .reg .PL_RES :: .reg .PL_RES_EACT :: .reg .PL_RES_END :: .reg .PL_STAT :: []) s (@scurveStep x0 x1 s) := by
  intro x0 x1 s
  delta scurveStep
  extract_lets +onlyGivenNames -merge -useContext s0
  clear_value s0
  extract_lets +onlyGivenNames -merge -useContext s1
  clear_value s1
  refine Ok.via (guarded_ok (W' := (.trioQ :: .emcyQ :: .logQ :: .logWin :: .axes :: .pl :: .reg .AX_EPFS :: .reg .AX_EVT :: .reg .AX_MOVEEN :: .reg .AX_STAT :: .reg .EV_AXDONE :: .reg .EV_PEND :: .reg .MGS_LOGSTAT :: .reg .PL_ENERGY_HI :: .reg .PL_ENERGY_LO :: .reg .PL_EVINFO :: .reg .PL_MAKESPAN :: .reg .PL_RES :: .reg .PL_RES_EACT :: .reg .PL_RES_END :: .reg .PL_STAT :: [])) ?_) rfl ?_
  · intro a2
    extract_lets +onlyGivenNames -merge -useContext s3
    refine Ok.withS (x := s3) ?_ fun h4 => ?_
    · unfold s3
      refine Ok.via (State.modMo_ok ..) rfl ?_
      exact Ok.refl
    clear_value s3
    refine Ok.ite ?_ ?_
    · refine Ok.via (targetDone_ok ..) rfl ?_
      exact h4
    · exact h4
  exact Ok.refl

theorem mode1Step_ok : ∀ x0 s, Ok (.trioQ :: .emcyQ :: .logQ :: .logWin :: .coaches :: .axes :: .pl :: .reg .AXALERT :: .reg .AXEN :: .reg .AX_ACC :: .reg .AX_EPFS :: .reg .AX_EVT :: .reg .AX_FLTSTAT :: .reg .AX_HOMEST :: .reg .AX_MOVEEN :: .reg .AX_SSTAT :: .reg .AX_STALLST :: .reg .AX_STAT :: .reg .AX_VEL :: .reg .EV_AXDONE :: .reg .EV_PEND :: .reg .MGS_LOGSTAT :: .reg .PL_ENERGY_HI :: .reg .PL_ENERGY_LO :: .reg .PL_EVINFO :: .reg .PL_MAKESPAN :: .reg .PL_RES :: .reg .PL_RES_EACT :: .reg .PL_RES_END :: .reg .PL_STAT :: []) s (@mode1Step x0 s) := by
  intro x0 s
  delta mode1Step
  extract_lets +onlyGivenNames -merge -useContext s0
  refine Ok.withS (x := s0) ?_ fun h1 => ?_
  · unfold s0
    split
    · refine Ok.via (planTarget_ok ..) rfl ?_
      exact Ok.refl
    · exact Ok.refl
  clear_value s0
  split
  · refine Ok.via (scurveStep_ok ..) rfl ?_
    exact h1
  · refine Ok.via (targetStep_ok ..) rfl ?_
    exact h1

theorem mode2Step_ok : ∀ x0 s, Ok (.trioQ :: .emcyQ :: .logQ :: .logWin :: .coaches :: .axes :: .pl :: .reg .AXALERT :: .reg .AXEN :: .reg .AX_ACC :: .reg .AX_EPFS :: .reg .AX_EVT :: .reg .AX_FLTSTAT :: .reg .AX_HOMEST :: .reg .AX_MOVEEN :: .reg .AX_SSTAT :: .reg .AX_STALLST :: .reg .AX_STAT :: .reg .AX_VEL :: .reg .EV_AXDONE :: .reg .EV_PEND :: .reg .MGS_LOGSTAT :: .reg .PL_ENERGY_HI :: .reg .PL_ENERGY_LO :: .reg .PL_EVINFO :: .reg .PL_MAKESPAN :: .reg .PL_RES :: .reg .PL_RES_EACT :: .reg .PL_RES_END :: .reg .PL_STAT :: []) s (@mode2Step x0 s) := by
  intro x0 s
  delta mode2Step
  extract_lets +onlyGivenNames -merge -useContext s0
  clear_value s0
  extract_lets +onlyGivenNames -merge -useContext s1
  clear_value s1
  extract_lets +onlyGivenNames -merge -useContext s2
  clear_value s2
  extract_lets +onlyGivenNames -merge -useContext s3
  clear_value s3
  refine Ok.via (guarded_ok (W' := []) ?_) rfl ?_
  · intro a4
    refine Ok.idS ?_
    exact Ok.refl
  exact Ok.refl

theorem segEnd_ok : ∀ x0 x1 s, Ok (.trioQ :: .emcyQ :: .logQ :: .logWin :: .coaches :: .axes :: .pl :: .reg .AXALERT :: .reg .AXEN :: .reg .AX_ACC :: .reg .AX_CHAINST :: .reg .AX_EPFS :: .reg .AX_EVT :: .reg .AX_FLTSTAT :: .reg .AX_HOMEST :: .reg .AX_LOOPS :: .reg .AX_MOVEEN :: .reg .AX_SSTAT :: .reg .AX_STALLST :: .reg .AX_STAT :: .reg .AX_VEL :: .reg .EV_AXDONE :: .reg .EV_PEND :: .reg .MGS_LOGSTAT :: .reg .PL_ENERGY_HI :: .reg .PL_ENERGY_LO :: .reg .PL_EVINFO :: .reg .PL_MAKESPAN :: .reg .PL_RES :: .reg .PL_RES_EACT :: .reg .PL_RES_END :: .reg .PL_STAT :: []) s (@segEnd x0 x1 s) := by
  intro x0 x1 s
  delta segEnd
  extract_lets +onlyGivenNames -merge -useContext s0
  refine Ok.withS (x := s0) ?_ fun h1 => ?_
  · unfold s0
    refine Ok.ite ?_ ?_
    · refine Ok.via (raiseDone_at (at_AX_EVT _)) rfl ?_
      refine Ok.via (State.put_at (at_AX_CHAINST _)) rfl ?_
      exact Ok.refl
    · exact Ok.refl
  clear_value s0
  extract_lets +onlyGivenNames -merge -useContext s2
  clear_value s2
  extract_lets +onlyGivenNames -merge -useContext s3
  clear_value s3
  extract_lets +onlyGivenNames -merge -useContext s4
  clear_value s4
  extract_lets +onlyGivenNames -merge -useContext s5
  clear_value s5
  split
  · refine Ok.via (chainError_ok ..) rfl ?_
    refine Ok.via (State.put_at (at_AX_LOOPS _)) rfl ?_
    exact h1
  · extract_lets +onlyGivenNames -merge -useContext s6
    refine Ok.withS (x := s6) ?_ fun h7 => ?_
    · unfold s6
      refine Ok.via (State.put_at (at_AX_LOOPS _)) rfl ?_
      exact h1
    clear_value s6
    refine Ok.ite ?_ ?_
    · refine Ok.via (endMove_ok ..) rfl ?_
      refine Ok.via (raiseDone_at (at_AX_EVT _)) rfl ?_
      exact h7
    · refine Ok.via (chainError_ok ..) rfl ?_
      exact h7
  · extract_lets +onlyGivenNames -merge -useContext s8
    refine Ok.withS (x := s8) ?_ fun h9 => ?_
    · unfold s8
      refine Ok.via (State.put_at (at_AX_LOOPS _)) rfl ?_
      exact h1
    clear_value s8
    refine Ok.ite ?_ ?_
    · refine Ok.ite ?_ ?_
      · refine Ok.via (State.modMo_ok ..) rfl ?_
        refine Ok.via (State.put_at (at_AX_STAT _)) rfl ?_
        exact h9
      · refine Ok.via (chainError_ok ..) rfl ?_
        exact h9
    · refine Ok.ite ?_ ?_
      · refine Ok.ite ?_ ?_
        · refine Ok.via (State.modMo_ok ..) rfl ?_
          refine Ok.via (State.put_at (at_AX_STAT _)) rfl ?_
          exact h9
        · refine Ok.via (chainError_ok ..) rfl ?_
          exact h9
      · refine Ok.via (State.modMo_ok ..) rfl ?_
        exact h9

theorem segTick_ok : ∀ x0 x1 s, Ok (.trioQ :: .emcyQ :: .logQ :: .logWin :: .coaches :: .axes :: .pl :: .reg .AXALERT :: .reg .AXEN :: .reg .AX_ACC :: .reg .AX_CHAINST :: .reg .AX_EPFS :: .reg .AX_EVT :: .reg .AX_FLTSTAT :: .reg .AX_HOMEST :: .reg .AX_LOOPS :: .reg .AX_MOVEEN :: .reg .AX_SSTAT :: .reg .AX_STALLST :: .reg .AX_STAT :: .reg .AX_VEL :: .reg .EV_AXDONE :: .reg .EV_PEND :: .reg .MGS_LOGSTAT :: .reg .PL_ENERGY_HI :: .reg .PL_ENERGY_LO :: .reg .PL_EVINFO :: .reg .PL_MAKESPAN :: .reg .PL_RES :: .reg .PL_RES_EACT :: .reg .PL_RES_END :: .reg .PL_STAT :: []) s (@segTick x0 x1 s) := by
  intro x0 x1 s
  delta segTick
  extract_lets +onlyGivenNames -merge -useContext s0
  clear_value s0
  extract_lets +onlyGivenNames -merge -useContext s1
  clear_value s1
  refine Ok.ite ?_ ?_
  · extract_lets +onlyGivenNames -merge -useContext s2
    refine Ok.withS (x := s2) ?_ fun h3 => ?_
    · unfold s2
      refine Ok.via (chainError_ok ..) rfl ?_
      exact Ok.refl
    clear_value s2
    refine Ok.ite ?_ ?_
    · refine Ok.via (qstopStep_ok ..) rfl ?_
      exact h3
    · exact h3
  · refine Ok.via (guarded_ok (W' := (.trioQ :: .emcyQ :: .logQ :: .logWin :: .coaches :: .axes :: .pl :: .reg .AXALERT :: .reg .AXEN :: .reg .AX_ACC :: .reg .AX_CHAINST :: .reg .AX_EPFS :: .reg .AX_EVT :: .reg .AX_FLTSTAT :: .reg .AX_HOMEST :: .reg .AX_LOOPS :: .reg .AX_MOVEEN :: .reg .AX_SSTAT :: .reg .AX_STALLST :: .reg .AX_STAT :: .reg .AX_VEL :: .reg .EV_AXDONE :: .reg .EV_PEND :: .reg .MGS_LOGSTAT :: .reg .PL_ENERGY_HI :: .reg .PL_ENERGY_LO :: .reg .PL_EVINFO :: .reg .PL_MAKESPAN :: .reg .PL_RES :: .reg .PL_RES_EACT :: .reg .PL_RES_END :: .reg .PL_STAT :: [])) ?_) rfl ?_
    · intro a4
      extract_lets +onlyGivenNames -merge -useContext s5
      refine Ok.withS (x := s5) ?_ fun h6 => ?_
      · unfold s5
        refine Ok.via (State.modMo_ok ..) rfl ?_
        exact Ok.refl
      clear_value s5
      refine Ok.ite ?_ ?_
      · refine Ok.via (segEnd_ok ..) rfl ?_
        exact h6
      · exact h6
    exact Ok.refl

theorem errorStep_ok : ∀ x0 s, Ok (.trioQ :: .emcyQ :: .logQ :: .logWin :: .coaches :: .axes :: .pl :: .reg .AXALERT :: .reg .AXEN :: .reg .AX_ACC :: .reg .AX_EPFS :: .reg .AX_EVT :: .reg .AX_FLTSTAT :: .reg .AX_HOMEST :: .reg .AX_MOVEEN :: .reg .AX_SSTAT :: .reg .AX_STALLST :: .reg .AX_STAT :: .reg .AX_VEL :: .reg .EV_AXDONE :: .reg .EV_PEND :: .reg .MGS_LOGSTAT :: .reg .PL_ENERGY_HI :: .reg .PL_ENERGY_LO :: .reg .PL_EVINFO :: .reg .PL_MAKESPAN :: .reg .PL_RES :: .reg .PL_RES_EACT :: .reg .PL_RES_END :: .reg .PL_STAT :: []) s (@errorStep x0 s) := by
  intro x0 s
  delta errorStep
  refine Ok.ite ?_ ?_
  · refine Ok.via (qstopStep_ok ..) rfl ?_
    exact Ok.refl
  · exact Ok.refl

theorem segBegin_ok : ∀ x0 x1 x2 s, Ok (.trioQ :: .emcyQ :: .logQ :: .logWin :: .coaches :: .axes :: .pl :: .reg .AXALERT :: .reg .AXEN :: .reg .AX_ACC :: .reg .AX_CHAINST :: .reg .AX_EPFS :: .reg .AX_EVT :: .reg .AX_FLTSTAT :: .reg .AX_HOMEST :: .reg .AX_LOOPS :: .reg .AX_MOVEEN :: .reg .AX_SSTAT :: .reg .AX_STALLST :: .reg .AX_STAT :: .reg .AX_VEL :: .reg .EV_AXDONE :: .reg .EV_PEND :: .reg .GCTL_PARERR :: .reg .MGS_LOGSTAT :: .reg .PL_ENERGY_HI :: .reg .PL_ENERGY_LO :: .reg .PL_EVINFO :: .reg .PL_MAKESPAN :: .reg .PL_RES :: .reg .PL_RES_EACT :: .reg .PL_RES_END :: .reg .PL_STAT :: []) s (@segBegin x0 x1 x2 s) := by
  intro x0 x1 x2 s
  delta segBegin
  refine Ok.ite ?_ ?_
  · refine Ok.ite ?_ ?_
    · refine Ok.via (errorStep_ok ..) rfl ?_
      refine Ok.via (chainError_ok ..) rfl ?_
      exact Ok.refl
    · refine Ok.via (State.modMo_ok ..) rfl ?_
      refine Ok.via (State.put_at (at_AX_STAT _)) rfl ?_
      exact Ok.refl
  · extract_lets +onlyGivenNames -merge -useContext s0
    refine Ok.withS (x := s0) ?_ fun h1 => ?_
    · unfold s0
      refine Ok.via (State.put_at (at_AX_CHAINST _)) rfl ?_
      exact Ok.refl
    clear_value s0
    extract_lets +onlyGivenNames -merge -useContext s2
    clear_value s2
    extract_lets +onlyGivenNames -merge -useContext s3
    clear_value s3
    refine Ok.ite ?_ ?_
    · refine Ok.via (errorStep_ok ..) rfl ?_
      refine Ok.via (segRefused_ok ..) rfl ?_
      exact h1
    · extract_lets +onlyGivenNames -merge -useContext s4
      clear_value s4
      refine Ok.via (segTick_ok ..) rfl ?_
      exact h1

theorem mode3Step_ok : ∀ x0 s, Ok (.trioQ :: .emcyQ :: .logQ :: .logWin :: .coaches :: .axes :: .pl :: .reg .AXALERT :: .reg .AXEN :: .reg .AX_ACC :: .reg .AX_CHAINST :: .reg .AX_EPFS :: .reg .AX_EVT :: .reg .AX_FLTSTAT :: .reg .AX_HOMEST :: .reg .AX_LOOPS :: .reg .AX_MOVEEN :: .reg .AX_SSTAT :: .reg .AX_STALLST :: .reg .AX_STAT :: .reg .AX_VEL :: .reg .EV_AXDONE :: .reg .EV_PEND :: .reg .GCTL_PARERR :: .reg .MGS_LOGSTAT :: .reg .PL_ENERGY_HI :: .reg .PL_ENERGY_LO :: .reg .PL_EVINFO :: .reg .PL_MAKESPAN :: .reg .PL_RES :: .reg .PL_RES_EACT :: .reg .PL_RES_END :: .reg .PL_STAT :: []) s (@mode3Step x0 s) := by
  intro x0 s
  delta mode3Step
  split
  · refine Ok.via (segTick_ok ..) rfl ?_
    exact Ok.refl
  · refine Ok.via (segBegin_ok ..) rfl ?_
    exact Ok.refl
  · refine Ok.via (segBegin_ok ..) rfl ?_
    exact Ok.refl
  · refine Ok.via (setPV_ok ..) rfl ?_
    exact Ok.refl

theorem mode4Step_ok : ∀ x0 s, Ok (.trioQ :: .emcyQ :: .logQ :: .logWin :: .coaches :: .axes :: .pl :: .reg .AXALERT :: .reg .AXEN :: .reg .AX_ACC :: .reg .AX_EPFS :: .reg .AX_EVT :: .reg .AX_FLTSTAT :: .reg .AX_HOMEST :: .reg .AX_MOVEEN :: .reg .AX_SSTAT :: .reg .AX_STALLST :: .reg .AX_STAT :: .reg .AX_VEL :: .reg .EV_AXDONE :: .reg .EV_PEND :: .reg .MGS_LOGSTAT :: .reg .PL_ENERGY_HI :: .reg .PL_ENERGY_LO :: .reg .PL_EVINFO :: .reg .PL_MAKESPAN :: .reg .PL_RES :: .reg .PL_RES_EACT :: .reg .PL_RES_END :: .reg .PL_STAT :: []) s (@mode4Step x0 s) := by
  intro x0 s
  delta mode4Step
  split
  · extract_lets +onlyGivenNames -merge -useContext s0
    clear_value s0
    extract_lets +onlyGivenNames -merge -useContext s1
    clear_value s1
    extract_lets +onlyGivenNames -merge -useContext s2
    clear_value s2
    extract_lets +onlyGivenNames -merge -useContext s3
    clear_value s3
    extract_lets +onlyGivenNames -merge -useContext s4
    clear_value s4
    extract_lets +onlyGivenNames -merge -useContext s5
    clear_value s5
    extract_lets +onlyGivenNames -merge -useContext s6
    refine Ok.withS (x := s6) ?_ fun h7 => ?_
    · unfold s6
      refine Ok.via (State.modMo_ok ..) rfl ?_
      exact Ok.refl
    clear_value s6
    refine Ok.ite ?_ ?_
    · exact h7
    · refine Ok.ite ?_ ?_
      · extract_lets +onlyGivenNames -merge -useContext s8
        clear_value s8
        extract_lets +onlyGivenNames -merge -useContext s9
        clear_value s9
        refine Ok.via (guarded_ok (W' := [.trioQ, .emcyQ, .logQ, .logWin, .reg .AXALERT, .reg .AX_EVT, .reg .EV_PEND, .reg .MGS_LOGSTAT]) ?_) rfl ?_
        · intro a10
          refine Ok.ite ?_ ?_
          · refine Ok.via (updAlert_ok ..) rfl ?_
            refine Ok.via (State.put_at (at_AX_EVT _)) rfl ?_
            exact Ok.refl
          · exact Ok.refl
        exact h7
      · split
        · refine Ok.via (guarded_ok (W' := []) ?_) rfl ?_
          · intro a11
            refine Ok.idS ?_
            exact Ok.refl
          exact h7
  · exact Ok.refl

theorem homeVel_ok : ∀ x0 s, Ok [.axes] s (@homeVel x0 s) := by
  intro x0 s
  delta homeVel
  extract_lets +onlyGivenNames -merge -useContext s0
  clear_value s0
  extract_lets +onlyGivenNames -merge -useContext s1
  clear_value s1
  extract_lets +onlyGivenNames -merge -useContext s2
  clear_value s2
  refine Ok.via (setPV_ok ..) rfl ?_
  exact Ok.refl

theorem homeDone_ok : ∀ x0 s, Ok (.trioQ :: .emcyQ :: .logQ :: .logWin :: .axes :: .pl :: .reg .AXALERT :: .reg .AX_EPFS :: .reg .AX_EVT :: .reg .AX_HOMEST :: .reg .AX_MOVEEN :: .reg .AX_STAT :: .reg .EV_AXDONE :: .reg .EV_PEND :: .reg .MGS_LOGSTAT :: .reg .PL_ENERGY_HI :: .reg .PL_ENERGY_LO :: .reg .PL_EVINFO :: .reg .PL_MAKESPAN :: .reg .PL_RES :: .reg .PL_RES_EACT :: .reg .PL_RES_END :: .reg .PL_STAT :: []) s (@homeDone x0 s) := by
  intro x0 s
  delta homeDone
  extract_lets +onlyGivenNames -merge -useContext s0
  refine Ok.withS (x := s0) ?_ fun h1 => ?_
  · unfold s0
    refine Ok.via (State.put_at (at_AX_HOMEST _)) rfl ?_
    refine Ok.via (State.put_at (at_AX_HOMEST _)) rfl ?_
    exact Ok.refl
  clear_value s0
  extract_lets +onlyGivenNames -merge -useContext s2
  refine Ok.withS (x := s2) ?_ fun h3 => ?_
  · unfold s2
    refine Ok.via (endMove_ok ..) rfl ?_
    refine Ok.via (raiseDone_at (at_AX_EVT _)) rfl ?_
    exact h1
  clear_value s2
  extract_lets +onlyGivenNames -merge -useContext s4
  refine Ok.withS (x := s4) ?_ fun h5 => ?_
  · unfold s4
    refine Ok.via (State.modMo_ok ..) rfl ?_
    exact h3
  clear_value s4
  extract_lets +onlyGivenNames -merge -useContext s6
  refine Ok.withS (x := s6) ?_ fun h7 => ?_
  · unfold s6
    refine Ok.via (State.modSe_ok ..) rfl ?_
    exact h5
  clear_value s6
  refine Ok.via (updAlert_ok ..) rfl ?_
  refine Ok.via (State.put_at (at_AX_STAT _)) rfl ?_
  exact h7

theorem mode5Step_ok : ∀ x0 s, Ok (.trioQ :: .emcyQ :: .logQ :: .logWin :: .coaches :: .axes :: .pl :: .reg .AXALERT :: .reg .AXEN :: .reg .AX_ACC :: .reg .AX_EPFS :: .reg .AX_EVT :: .reg .AX_FLTSTAT :: .reg .AX_HOMEST :: .reg .AX_MOVEEN :: .reg .AX_SSTAT :: .reg .AX_STALLST :: .reg .AX_STAT :: .reg .AX_VEL :: .reg .EV_AXDONE :: .reg .EV_PEND :: .reg .MGS_LOGSTAT :: .reg .PL_ENERGY_HI :: .reg .PL_ENERGY_LO :: .reg .PL_EVINFO :: .reg .PL_MAKESPAN :: .reg .PL_RES :: .reg .PL_RES_EACT :: .reg .PL_RES_END :: .reg .PL_STAT :: []) s (@mode5Step x0 s) := by
  intro x0 s
  delta mode5Step
  split
  · extract_lets +onlyGivenNames -merge -useContext s0
    refine Ok.withS (x := s0) ?_ fun h1 => ?_
    · unfold s0
      refine Ok.via (homeVel_ok ..) rfl ?_
      exact Ok.refl
    clear_value s0
    refine Ok.ite ?_ ?_
    · extract_lets +onlyGivenNames -merge -useContext s2
      refine Ok.withS (x := s2) ?_ fun h3 => ?_
      · unfold s2
        refine Ok.via (State.modMo_ok ..) rfl ?_
        exact h1
      clear_value s2
      refine Ok.via (State.put_at (at_AX_HOMEST _)) rfl ?_
      refine Ok.via (State.modSe_ok ..) rfl ?_
      exact h3
    · exact h1
  · extract_lets +onlyGivenNames -merge -useContext s4
    refine Ok.withS (x := s4) ?_ fun h5 => ?_
    · unfold s4
      refine Ok.via (homeVel_ok ..) rfl ?_
      exact Ok.refl
    clear_value s4
    refine Ok.ite ?_ ?_
    · refine Ok.via (quickStop_ok ..) rfl ?_
      refine Ok.via (homeAbort_ok ..) rfl ?_
      exact h5
    · exact h5
  · extract_lets +onlyGivenNames -merge -useContext s6
    clear_value s6
    split
    · extract_lets +onlyGivenNames -merge -useContext s7
      refine Ok.withS (x := s7) ?_ fun h8 => ?_
      · unfold s7
        refine Ok.via (setPV_ok ..) rfl ?_
        exact Ok.refl
      clear_value s7
      refine Ok.ite ?_ ?_
      · refine Ok.via (homeDone_ok ..) rfl ?_
        exact h8
      · exact h8
  · refine Ok.via (setPV_ok ..) rfl ?_
    exact Ok.refl

theorem stopSegEnd_ok : ∀ x0 x1 s, Ok (.trioQ :: .emcyQ :: .logQ :: .logWin :: .coaches :: .axes :: .pl :: .reg .AXALERT :: .reg .AXEN :: .reg .AX_ACC :: .reg .AX_CHAINST :: .reg .AX_EPFS :: .reg .AX_EVT :: .reg .AX_FLTSTAT :: .reg .AX_HOMEST :: .reg .AX_MOVEEN :: .reg .AX_SSTAT :: .reg .AX_STALLST :: .reg .AX_STAT :: .reg .AX_VEL :: .reg .EV_AXDONE :: .reg .EV_PEND :: .reg .MGS_LOGSTAT :: .reg .PL_ENERGY_HI :: .reg .PL_ENERGY_LO :: .reg .PL_EVINFO :: .reg .PL_MAKESPAN :: .reg .PL_RES :: .reg .PL_RES_EACT :: .reg .PL_RES_END :: .reg .PL_STAT :: []) s (@stopSegEnd x0 x1 s) := by
  intro x0 x1 s
  delta stopSegEnd
  extract_lets +onlyGivenNames -merge -useContext s0
  refine Ok.withS (x := s0) ?_ fun h1 => ?_
  · unfold s0
    refine Ok.ite ?_ ?_
    · refine Ok.via (State.put_at (at_AX_CHAINST _)) rfl ?_
      refine Ok.via (raiseDone_at (at_AX_EVT _)) rfl ?_
      exact Ok.refl
    · exact Ok.refl
  clear_value s0
  refine Ok.ite ?_ ?_
  · refine Ok.via (stopDone_ok ..) rfl ?_
    exact h1
  · refine Ok.via (chainError_ok ..) rfl ?_
    exact h1

theorem stopStep_ok : ∀ x0 s, Ok (.trioQ :: .emcyQ :: .logQ :: .logWin :: .coaches :: .axes :: .pl :: .reg .AXALERT :: .reg .AXEN :: .reg .AX_ACC :: .reg .AX_CHAINST :: .reg .AX_EPFS :: .reg .AX_EVT :: .reg .AX_FLTSTAT :: .reg .AX_HOMEST :: .reg .AX_MOVEEN :: .reg .AX_SSTAT :: .reg .AX_STALLST :: .reg .AX_STAT :: .reg .AX_VEL :: .reg .EV_AXDONE :: .reg .EV_PEND :: .reg .MGS_LOGSTAT :: .reg .PL_ENERGY_HI :: .reg .PL_ENERGY_LO :: .reg .PL_EVINFO :: .reg .PL_MAKESPAN :: .reg .PL_RES :: .reg .PL_RES_EACT :: .reg .PL_RES_END :: .reg .PL_STAT :: []) s (@stopStep x0 s) := by
  intro x0 s
  delta stopStep
  split
  · refine Ok.via (qstopStep_ok ..) rfl ?_
    exact Ok.refl
  · refine Ok.via (brakeStep_ok ..) rfl ?_
    exact Ok.refl
  · extract_lets +onlyGivenNames -merge -useContext s0
    clear_value s0
    extract_lets +onlyGivenNames -merge -useContext s1
    clear_value s1
    refine Ok.ite ?_ ?_
    · extract_lets +onlyGivenNames -merge -useContext s2
      refine Ok.withS (x := s2) ?_ fun h3 => ?_
      · unfold s2
        refine Ok.via (chainError_ok ..) rfl ?_
        exact Ok.refl
      clear_value s2
      refine Ok.ite ?_ ?_
      · refine Ok.via (qstopStep_ok ..) rfl ?_
        exact h3
      · exact h3
    · refine Ok.via (guarded_ok (W' := (.trioQ :: .emcyQ :: .logQ :: .logWin :: .coaches :: .axes :: .pl :: .reg .AXALERT :: .reg .AXEN :: .reg .AX_ACC :: .reg .AX_CHAINST :: .reg .AX_EPFS :: .reg .AX_EVT :: .reg .AX_FLTSTAT :: .reg .AX_HOMEST :: .reg .AX_MOVEEN :: .reg .AX_SSTAT :: .reg .AX_STALLST :: .reg .AX_STAT :: .reg .AX_VEL :: .reg .EV_AXDONE :: .reg .EV_PEND :: .reg .MGS_LOGSTAT :: .reg .PL_ENERGY_HI :: .reg .PL_ENERGY_LO :: .reg .PL_EVINFO :: .reg .PL_MAKESPAN :: .reg .PL_RES :: .reg .PL_RES_EACT :: .reg .PL_RES_END :: .reg .PL_STAT :: [])) ?_) rfl ?_
      · intro a4
        extract_lets +onlyGivenNames -merge -useContext s5
        refine Ok.withS (x := s5) ?_ fun h6 => ?_
        · unfold s5
          refine Ok.via (State.modMo_ok ..) rfl ?_
          exact Ok.refl
        clear_value s5
        refine Ok.ite ?_ ?_
        · refine Ok.via (stopSegEnd_ok ..) rfl ?_
          exact h6
        · exact h6
      exact Ok.refl
  · refine Ok.via (guarded_ok (W' := (.trioQ :: .emcyQ :: .logQ :: .logWin :: .coaches :: .axes :: .pl :: .reg .AXALERT :: .reg .AXEN :: .reg .AX_ACC :: .reg .AX_EPFS :: .reg .AX_EVT :: .reg .AX_FLTSTAT :: .reg .AX_HOMEST :: .reg .AX_MOVEEN :: .reg .AX_SSTAT :: .reg .AX_STALLST :: .reg .AX_STAT :: .reg .AX_VEL :: .reg .EV_AXDONE :: .reg .EV_PEND :: .reg .MGS_LOGSTAT :: .reg .PL_ENERGY_HI :: .reg .PL_ENERGY_LO :: .reg .PL_EVINFO :: .reg .PL_MAKESPAN :: .reg .PL_RES :: .reg .PL_RES_EACT :: .reg .PL_RES_END :: .reg .PL_STAT :: [])) ?_) rfl ?_
    · intro a7
      refine Ok.ite ?_ ?_
      · refine Ok.via (stopDone_ok ..) rfl ?_
        exact Ok.refl
      · exact Ok.refl
    exact Ok.refl

theorem modeStep_ok : ∀ x0 s, Ok (.trioQ :: .emcyQ :: .logQ :: .logWin :: .coaches :: .axes :: .pl :: .reg .AXALERT :: .reg .AXEN :: .reg .AX_ACC :: .reg .AX_CHAINST :: .reg .AX_EPFS :: .reg .AX_EVT :: .reg .AX_FLTSTAT :: .reg .AX_HOMEST :: .reg .AX_LOOPS :: .reg .AX_MOVEEN :: .reg .AX_SSTAT :: .reg .AX_STALLST :: .reg .AX_STAT :: .reg .AX_VEL :: .reg .EV_AXDONE :: .reg .EV_PEND :: .reg .GCTL_PARERR :: .reg .MGS_LOGSTAT :: .reg .PL_ENERGY_HI :: .reg .PL_ENERGY_LO :: .reg .PL_EVINFO :: .reg .PL_MAKESPAN :: .reg .PL_RES :: .reg .PL_RES_EACT :: .reg .PL_RES_END :: .reg .PL_STAT :: []) s (@modeStep x0 s) := by
  intro x0 s
  delta modeStep
  split
  · refine Ok.via (mode1Step_ok ..) rfl ?_
    exact Ok.refl
  · refine Ok.via (mode2Step_ok ..) rfl ?_
    exact Ok.refl
  · refine Ok.via (mode3Step_ok ..) rfl ?_
    exact Ok.refl
  · refine Ok.via (mode4Step_ok ..) rfl ?_
    exact Ok.refl
  · refine Ok.via (mode5Step_ok ..) rfl ?_
    exact Ok.refl
  · refine Ok.via (setPV_ok ..) rfl ?_
    exact Ok.refl

theorem satCheck_ok : ∀ x0 x1 s, Ok (.trioQ :: .emcyQ :: .logQ :: .logWin :: .coaches :: .axes :: .pl :: .reg .AXALERT :: .reg .AXEN :: .reg .AX_ACC :: .reg .AX_EPFS :: .reg .AX_EVT :: .reg .AX_FLTSTAT :: .reg .AX_HOMEST :: .reg .AX_MOVEEN :: .reg .AX_SSTAT :: .reg .AX_STALLST :: .reg .AX_STAT :: .reg .AX_USTAT :: .reg .AX_VEL :: .reg .EV_PEND :: .reg .MGS_LOGSTAT :: .reg .PL_ENERGY_HI :: .reg .PL_ENERGY_LO :: .reg .PL_EVINFO :: .reg .PL_MAKESPAN :: .reg .PL_RES :: .reg .PL_RES_EACT :: .reg .PL_RES_END :: .reg .PL_STAT :: []) s (@satCheck x0 x1 s) := by
  intro x0 x1 s
  delta satCheck
  extract_lets +onlyGivenNames -merge -useContext s0
  clear_value s0
  extract_lets +onlyGivenNames -merge -useContext s1
  clear_value s1
  refine Ok.ite ?_ ?_
  · extract_lets +onlyGivenNames -merge -useContext s2
    refine Ok.withS (x := s2) ?_ fun h3 => ?_
    · unfold s2
      refine Ok.via (State.modMo_ok ..) rfl ?_
      exact Ok.refl
    clear_value s2
    extract_lets +onlyGivenNames -merge -useContext s4
    refine Ok.withS (x := s4) ?_ fun h5 => ?_
    · unfold s4
      refine Ok.via (planRunCause_ok ..) rfl ?_
      refine Ok.via (State.put_at (at_AX_EVT _)) rfl ?_
      exact h3
    clear_value s4
    refine Ok.via (haltTick_ok ..) rfl ?_
    exact h5
  · exact Ok.refl

theorem delayStep_ok : ∀ x0 s, Ok (.trioQ :: .emcyQ :: .logQ :: .logWin :: .coaches :: .axes :: .pl :: .reg .AXALERT :: .reg .AXEN :: .reg .AX_ACC :: .reg .AX_EPFS :: .reg .AX_EVT :: .reg .AX_FLTSTAT :: .reg .AX_HOMEST :: .reg .AX_MOVEEN :: .reg .AX_SSTAT :: .reg .AX_STALLST :: .reg .AX_STAT :: .reg .AX_VEL :: .reg .EV_AXDONE :: .reg .EV_PEND :: .reg .MGS_LOGSTAT :: .reg .PL_ENERGY_HI :: .reg .PL_ENERGY_LO :: .reg .PL_EVINFO :: .reg .PL_MAKESPAN :: .reg .PL_RES :: .reg .PL_RES_EACT :: .reg .PL_RES_END :: .reg .PL_STAT :: []) s (@delayStep x0 s) := by
  intro x0 s
  delta delayStep
  refine Ok.ite ?_ ?_
  · refine Ok.via (mode4Step_ok ..) rfl ?_
    exact Ok.refl
  · exact Ok.refl

theorem axisMove_ok : ∀ x0 s, Ok (.trioQ :: .emcyQ :: .logQ :: .logWin :: .coaches :: .axes :: .pl :: .reg .AXALERT :: .reg .AXEN :: .reg .AX_ACC :: .reg .AX_CHAINST :: .reg .AX_EPFS :: .reg .AX_EVT :: .reg .AX_FLTSTAT :: .reg .AX_HOMEST :: .reg .AX_LOOPS :: .reg .AX_MOVEEN :: .reg .AX_SSTAT :: .reg .AX_STALLST :: .reg .AX_STAT :: .reg .AX_USTAT :: .reg .AX_VEL :: .reg .EV_AXDONE :: .reg .EV_PEND :: .reg .GCTL_PARERR :: .reg .MGS_LOGSTAT :: .reg .PL_ENERGY_HI :: .reg .PL_ENERGY_LO :: .reg .PL_EVINFO :: .reg .PL_MAKESPAN :: .reg .PL_RES :: .reg .PL_RES_EACT :: .reg .PL_RES_END :: .reg .PL_STAT :: []) s (@axisMove x0 s) := by
  intro x0 s
  delta axisMove
  extract_lets +onlyGivenNames -merge -useContext s0
  refine Ok.withS (x := s0) ?_ fun h1 => ?_
  · unfold s0
    refine Ok.via (State.modMo_ok ..) rfl ?_
    exact Ok.refl
  clear_value s0
  refine Ok.ite ?_ ?_
  · exact h1
  · extract_lets +onlyGivenNames -merge -useContext s2
    clear_value s2
    extract_lets +onlyGivenNames -merge -useContext s3
    clear_value s3
    extract_lets +onlyGivenNames -merge -useContext s4
    refine Ok.withS (x := s4) ?_ fun h5 => ?_
    · unfold s4
      refine Ok.ite ?_ ?_
      · refine Ok.via (stopStep_ok ..) rfl ?_
        exact h1
      · refine Ok.ite ?_ ?_
        · refine Ok.via (delayStep_ok ..) rfl ?_
          exact h1
        · refine Ok.ite ?_ ?_
          · refine Ok.via (delayStep_ok ..) rfl ?_
            refine Ok.via (leaveStandstill_ok ..) rfl ?_
            exact h1
          · refine Ok.via (modeStep_ok ..) rfl ?_
            exact h1
    clear_value s4
    extract_lets +onlyGivenNames -merge -useContext s6
    clear_value s6
    extract_lets +onlyGivenNames -merge -useContext s7
    refine Ok.withS (x := s7) ?_ fun h8 => ?_
    · unfold s7
      refine Ok.ite ?_ ?_
      · refine Ok.via (State.putB_at (at_AX_SSTAT _)) rfl ?_
        exact h5
      · refine Ok.ite ?_ ?_
        · refine Ok.via (State.putB_at (at_AX_SSTAT _)) rfl ?_
          exact h5
        · exact h5
    clear_value s7
    refine Ok.via (satCheck_ok ..) rfl ?_
    exact h8

theorem startPark_ok : ∀ x0 s, Ok [.axes, .reg .AX_SSTAT] s (@startPark x0 s) := by
  intro x0 s
  delta startPark
  refine Ok.ite ?_ ?_
  · refine Ok.via (State.modMo_ok ..) rfl ?_
    refine Ok.via (State.put_at (at_AX_SSTAT _)) rfl ?_
    exact Ok.refl
  · refine Ok.via (State.modMo_ok ..) rfl ?_
    refine Ok.via (State.put_at (at_AX_SSTAT _)) rfl ?_
    exact Ok.refl

theorem parkStep_ok : ∀ x0 s, Ok (.trioQ :: .emcyQ :: .logQ :: .logWin :: .coaches :: .axes :: .pl :: .reg .AXALERT :: .reg .AXEN :: .reg .AX_ACC :: .reg .AX_EPFS :: .reg .AX_EVT :: .reg .AX_FLTSTAT :: .reg .AX_HOMEST :: .reg .AX_MOVEEN :: .reg .AX_SSTAT :: .reg .AX_STALLST :: .reg .AX_STAT :: .reg .AX_USTAT :: .reg .AX_VEL :: .reg .EV_PEND :: .reg .MGS_LOGSTAT :: .reg .PL_ENERGY_HI :: .reg .PL_ENERGY_LO :: .reg .PL_EVINFO :: .reg .PL_MAKESPAN :: .reg .PL_RES :: .reg .PL_RES_EACT :: .reg .PL_RES_END :: .reg .PL_STAT :: []) s (@parkStep x0 s) := by
  intro x0 s
  delta parkStep
  extract_lets +onlyGivenNames -merge -useContext s0
  clear_value s0
  refine Ok.ite ?_ ?_
  · refine Ok.via (State.put_at (at_AX_SSTAT _)) rfl ?_
    exact Ok.refl
  · extract_lets +onlyGivenNames -merge -useContext s1
    clear_value s1
    extract_lets +onlyGivenNames -merge -useContext s2
    clear_value s2
    extract_lets +onlyGivenNames -merge -useContext s3
    refine Ok.withS (x := s3) ?_ fun h4 => ?_
    · unfold s3
      refine Ok.via (State.modMo_ok ..) rfl ?_
      exact Ok.refl
    clear_value s3
    extract_lets +onlyGivenNames -merge -useContext s5
    refine Ok.withS (x := s5) ?_ fun h6 => ?_
    · unfold s5
      refine Ok.via (State.putB_at (at_AX_SSTAT _)) rfl ?_
      exact h4
    clear_value s5
    extract_lets +onlyGivenNames -merge -useContext s7
    refine Ok.withS (x := s7) ?_ fun h8 => ?_
    · unfold s7
      refine Ok.via (satCheck_ok ..) rfl ?_
      exact h6
    clear_value s7
    refine Ok.ite ?_ ?_
    · refine Ok.via (State.put_at (at_AX_SSTAT _)) rfl ?_
      exact h8
    · exact h8

theorem modeState_ok : ∀ x0 s, Ok [.axes, .reg .AX_SSTAT] s (@modeState x0 s) := by
  intro x0 s
  delta modeState
  extract_lets +onlyGivenNames -merge -useContext s0
  clear_value s0
  extract_lets +onlyGivenNames -merge -useContext s1
  clear_value s1
  refine Ok.ite ?_ ?_
  · exact Ok.refl
  · refine Ok.ite ?_ ?_
    · refine Ok.via (State.modMo_ok ..) rfl ?_
      refine Ok.via (State.put_at (at_AX_SSTAT _)) rfl ?_
      exact Ok.refl
    · refine Ok.ite ?_ ?_
      · refine Ok.via (startPark_ok ..) rfl ?_
        exact Ok.refl
      · refine Ok.via (State.modMo_ok ..) rfl ?_
        refine Ok.via (State.put_at (at_AX_SSTAT _)) rfl ?_
        exact Ok.refl

theorem standstill_ok : ∀ x0 s, Ok (.trioQ :: .emcyQ :: .logQ :: .logWin :: .coaches :: .axes :: .pl :: .reg .AXALERT :: .reg .AXEN :: .reg .AX_ACC :: .reg .AX_EPFS :: .reg .AX_EVT :: .reg .AX_FLTSTAT :: .reg .AX_HOMEST :: .reg .AX_MOVEEN :: .reg .AX_SSTAT :: .reg .AX_STALLST :: .reg .AX_STAT :: .reg .AX_USTAT :: .reg .AX_VEL :: .reg .EV_PEND :: .reg .MGS_LOGSTAT :: .reg .PL_ENERGY_HI :: .reg .PL_ENERGY_LO :: .reg .PL_EVINFO :: .reg .PL_MAKESPAN :: .reg .PL_RES :: .reg .PL_RES_EACT :: .reg .PL_RES_END :: .reg .PL_STAT :: []) s (@standstill x0 s) := by
  intro x0 s
  delta standstill
  extract_lets +onlyGivenNames -merge -useContext s0
  clear_value s0
  refine Ok.ite ?_ ?_
  · exact Ok.refl
  · refine Ok.ite ?_ ?_
    · refine Ok.via (State.modMo_ok ..) rfl ?_
      refine Ok.via (State.put_at (at_AX_SSTAT _)) rfl ?_
      exact Ok.refl
    · refine Ok.ite ?_ ?_
      · refine Ok.via (modeState_ok ..) rfl ?_
        exact Ok.refl
      · extract_lets +onlyGivenNames -merge -useContext s1
        clear_value s1
        refine Ok.ite ?_ ?_
        · refine Ok.ite ?_ ?_
          · refine Ok.via (State.put_at (at_AX_SSTAT _)) rfl ?_
            exact Ok.refl
          · refine Ok.via (modeState_ok ..) rfl ?_
            exact Ok.refl
        · refine Ok.ite ?_ ?_
          · refine Ok.ite ?_ ?_
            · refine Ok.via (modeState_ok ..) rfl ?_
              exact Ok.refl
            · exact Ok.refl
          · refine Ok.ite ?_ ?_
            · refine Ok.ite ?_ ?_
              · refine Ok.via (parkStep_ok ..) rfl ?_
                exact Ok.refl
              · refine Ok.via (modeState_ok ..) rfl ?_
                exact Ok.refl
            · refine Ok.ite ?_ ?_
              · refine Ok.ite ?_ ?_
                · exact Ok.refl
                · refine Ok.via (modeState_ok ..) rfl ?_
                  exact Ok.refl
              · refine Ok.ite ?_ ?_
                · exact Ok.refl
                · refine Ok.via (modeState_ok ..) rfl ?_
                  exact Ok.refl

theorem delayExpiry_ok : ∀ x0 s, Ok [.axes, .reg .AX_SSTAT] s (@delayExpiry x0 s) := by
  intro x0 s
  delta delayExpiry
  refine Ok.ite ?_ ?_
  · refine Ok.via (modeState_ok ..) rfl ?_
    exact Ok.refl
  · exact Ok.refl

theorem energExpiry_ok : ∀ x0 s, Ok [.axes, .reg .AX_SSTAT] s (@energExpiry x0 s) := by
  intro x0 s
  delta energExpiry
  refine Ok.ite ?_ ?_
  · extract_lets +onlyGivenNames -merge -useContext s0
    clear_value s0
    extract_lets +onlyGivenNames -merge -useContext s1
    refine Ok.withS (x := s1) ?_ fun h2 => ?_
    · unfold s1
      refine Ok.via (State.modMo_ok ..) rfl ?_
      refine Ok.via (State.put_at (at_AX_SSTAT _)) rfl ?_
      exact Ok.refl
    clear_value s1
    refine Ok.ite ?_ ?_
    · refine Ok.via (modeState_ok ..) rfl ?_
      exact h2
    · exact h2
  · exact Ok.refl

theorem sequence_ok : ∀ x0 s, Ok [.axes, .reg .AX_USTAT] s (@sequence x0 s) := by
  intro x0 s
  delta sequence
  refine Ok.ite ?_ ?_
  · exact Ok.refl
  · refine Ok.ite ?_ ?_
    · extract_lets +onlyGivenNames -merge -useContext s0
      refine Ok.withS (x := s0) ?_ fun h1 => ?_
      · unfold s0
        refine Ok.via (State.modSe_ok ..) rfl ?_
        exact Ok.refl
      clear_value s0
      refine Ok.via (State.put_at (at_AX_USTAT _)) rfl ?_
      refine Ok.via (State.put_at (at_AX_USTAT _)) rfl ?_
      refine Ok.via (State.put_at (at_AX_USTAT _)) rfl ?_
      exact h1
    · extract_lets +onlyGivenNames -merge -useContext s2
      clear_value s2
      extract_lets +onlyGivenNames -merge -useContext s3
      clear_value s3
      extract_lets +onlyGivenNames -merge -useContext s4
      clear_value s4
      extract_lets +onlyGivenNames -merge -useContext s5
      clear_value s5
      extract_lets +onlyGivenNames -merge -useContext s6
      clear_value s6
      extract_lets +onlyGivenNames -merge -useContext s7
      clear_value s7
      extract_lets +onlyGivenNames -merge -useContext s8
      clear_value s8
      split
      · extract_lets +onlyGivenNames -merge -useContext s9
        clear_value s9
        extract_lets +onlyGivenNames -merge -useContext s10
        refine Ok.withS (x := s10) ?_ fun h11 => ?_
        · unfold s10
          refine Ok.via (State.modSe_ok ..) rfl ?_
          exact Ok.refl
        clear_value s10
        refine Ok.via (State.put_at (at_AX_USTAT _)) rfl ?_
        refine Ok.via (State.putB_at (at_AX_USTAT _)) rfl ?_
        refine Ok.via (State.put_at (at_AX_USTAT _)) rfl ?_
        refine Ok.via (State.put_at (at_AX_USTAT _)) rfl ?_
        exact h11

theorem axisEstimate_ok : ∀ x0 x1 s, Ok [.axes, .reg .AX_LA, .reg .AX_STALLST] s (@axisEstimate x0 x1 s) := by
  intro x0 x1 s
  delta axisEstimate
  extract_lets +onlyGivenNames -merge -useContext s0
  clear_value s0
  extract_lets +onlyGivenNames -merge -useContext s1
  clear_value s1
  extract_lets +onlyGivenNames -merge -useContext s2
  refine Ok.withS (x := s2) ?_ fun h3 => ?_
  · unfold s2
    refine Ok.via (State.modSe_ok ..) rfl ?_
    exact Ok.refl
  clear_value s2
  extract_lets +onlyGivenNames -merge -useContext s4
  refine Ok.withS (x := s4) ?_ fun h5 => ?_
  · unfold s4
    refine Ok.ite ?_ ?_
    · refine Ok.via (setInvalid_ok ..) rfl ?_
      exact h3
    · refine Ok.ite ?_ ?_
      · refine Ok.via (setInvalid_ok ..) rfl ?_
        exact h3
      · exact h3
  clear_value s4
  extract_lets +onlyGivenNames -merge -useContext s6
  refine Ok.withS (x := s6) ?_ fun h7 => ?_
  · unfold s6
    refine Ok.via (applySuspend_ok ..) rfl ?_
    exact h5
  clear_value s6
  refine Ok.ite ?_ ?_
  · refine Ok.via (State.modSe_ok ..) rfl ?_
    exact h7
  · exact h7

theorem axisPublish_ok : ∀ x0 s, Ok [.reg .AX_ACC, .reg .AX_FLWERR, .reg .AX_POS_HI, .reg .AX_POS_LO, .reg .AX_STAT, .reg .AX_VEL] s (@axisPublish x0 s) := by
  intro x0 s
  delta axisPublish
  extract_lets +onlyGivenNames -merge -useContext s0
  clear_value s0
  extract_lets +onlyGivenNames -merge -useContext s1
  clear_value s1
  extract_lets +onlyGivenNames -merge -useContext s2
  refine Ok.withS (x := s2) ?_ fun h3 => ?_
  · unfold s2
    refine Ok.via (State.putPair_at (at_AX_POS_LO _) (hi_AX_POS_LO _)) rfl ?_
    exact Ok.refl
  clear_value s2
  extract_lets +onlyGivenNames -merge -useContext s4
  refine Ok.withS (x := s4) ?_ fun h5 => ?_
  · unfold s4
    refine Ok.via (State.putI_at (at_AX_ACC _)) rfl ?_
    refine Ok.via (State.putI_at (at_AX_VEL _)) rfl ?_
    exact h3
  clear_value s4
  extract_lets +onlyGivenNames -merge -useContext s6
  refine Ok.withS (x := s6) ?_ fun h7 => ?_
  · unfold s6
    refine Ok.via (State.putB_at (at_AX_STAT _)) rfl ?_
    exact h5
  clear_value s6
  extract_lets +onlyGivenNames -merge -useContext s8
  clear_value s8
  extract_lets +onlyGivenNames -merge -useContext s9
  refine Ok.withS (x := s9) ?_ fun h10 => ?_
  · unfold s9
    refine Ok.via (State.putB_at (at_AX_STAT _)) rfl ?_
    exact h7
  clear_value s9
  split
  · refine Ok.via (State.putI_at (at_AX_FLWERR _)) rfl ?_
    exact h10
  · exact h10

theorem axisTick_ok : ∀ x0 s, Ok (.trioQ :: .emcyQ :: .logQ :: .logWin :: .coaches :: .axes :: .pl :: .reg .AXALERT :: .reg .AXEN :: .reg .AX_ACC :: .reg .AX_CHAINST :: .reg .AX_EPFS :: .reg .AX_EVT :: .reg .AX_FLTSTAT :: .reg .AX_FLWERR :: .reg .AX_HOMEST :: .reg .AX_LA :: .reg .AX_LOOPS :: .reg .AX_MOVEEN :: .reg .AX_POS_HI :: .reg .AX_POS_LO :: .reg .AX_SSTAT :: .reg .AX_STALLST :: .reg .AX_STAT :: .reg .AX_USTAT :: .reg .AX_VEL :: .reg .AX_WITOFS_HI :: .reg .AX_WITOFS_LO :: .reg .AX_WITST :: .reg .EV_AXDONE :: .reg .EV_PEND :: .reg .GCTL_PARERR :: .reg .MGS_LOGSTAT :: .reg .PL_ENERGY_HI :: .reg .PL_ENERGY_LO :: .reg .PL_EVINFO :: .reg .PL_MAKESPAN :: .reg .PL_RES :: .reg .PL_RES_EACT :: .reg .PL_RES_END :: .reg .PL_STAT :: []) s (@axisTick x0 s) := by
  intro x0 s
  delta axisTick
  refine Ok.ite ?_ ?_
  · extract_lets +onlyGivenNames -merge -useContext s0
    clear_value s0
    extract_lets +onlyGivenNames -merge -useContext s1
    refine Ok.withS (x := s1) ?_ fun h2 => ?_
    · unfold s1
      refine Ok.via (axisMove_ok ..) rfl ?_
      exact Ok.refl
    clear_value s1
    refine Ok.ite ?_ ?_
    · extract_lets +onlyGivenNames -merge -useContext s3
      refine Ok.withS (x := s3) ?_ fun h4 => ?_
      · unfold s3
        refine Ok.via (standstill_ok ..) rfl ?_
        exact h2
      clear_value s3
      extract_lets +onlyGivenNames -merge -useContext s5
      refine Ok.withS (x := s5) ?_ fun h6 => ?_
      · unfold s5
        refine Ok.via (sequence_ok ..) rfl ?_
        exact h4
      clear_value s5
      extract_lets +onlyGivenNames -merge -useContext s7
      refine Ok.withS (x := s7) ?_ fun h8 => ?_
      · unfold s7
        refine Ok.via (axisEstimate_ok ..) rfl ?_
        exact h6
      clear_value s7
      extract_lets +onlyGivenNames -merge -useContext s9
      refine Ok.withS (x := s9) ?_ fun h10 => ?_
      · unfold s9
        refine Ok.via (witTick_ok ..) rfl ?_
        exact h8
      clear_value s9
      extract_lets +onlyGivenNames -merge -useContext s11
      refine Ok.withS (x := s11) ?_ fun h12 => ?_
      · unfold s11
        refine Ok.via (State.modMo_ok ..) rfl ?_
        exact h10
      clear_value s11
      refine Ok.via (axisPublish_ok ..) rfl ?_
      exact h12
    · refine Ok.via (axisPublish_ok ..) rfl ?_
      refine Ok.via (witTick_ok ..) rfl ?_
      exact h2
  · refine Ok.ite ?_ ?_
    · exact Ok.refl
    · refine Ok.via (axisPublish_ok ..) rfl ?_
      refine Ok.via (witTick_ok ..) rfl ?_
      exact Ok.refl

end Sys2Proof.Machine
end

