-- ==== Sys2Proof/Laws/OkFaultOps.lean ====
section
/-!
SUPPORT. Laws/OkFaultOps.lean: for each operation of Machine/FaultOps.lean, the parts of the state it can change, and that it keeps a
good state good.
-/

namespace Sys2Proof.Machine

set_option Elab.async false

theorem faultState_ok : ∀ x0 x1 x2 s, Ok (.trioQ :: .emcyQ :: .logQ :: .logWin :: .axes :: .pl :: .reg .AXALERT :: .reg .AX_ACC :: .reg .AX_EPFS :: .reg .AX_FLTCNT :: .reg .AX_FLTSTAT :: .reg .AX_HOMEST :: .reg .AX_MOVEEN :: .reg .AX_STALLST :: .reg .AX_STAT :: .reg .AX_USTAT :: .reg .AX_VEL :: .reg .EV_PEND :: .reg .MGS_LOGSTAT :: .reg .PL_ENERGY_HI :: .reg .PL_ENERGY_LO :: .reg .PL_EVINFO :: .reg .PL_MAKESPAN :: .reg .PL_RES :: .reg .PL_RES_EACT :: .reg .PL_RES_END :: .reg .PL_STAT :: []) s (@faultState x0 x1 x2 s) := by
  intro x0 x1 x2 s
  delta faultState
  extract_lets +onlyGivenNames -merge -useContext s0
  clear_value s0
  refine Ok.ite ?_ ?_
  · exact Ok.refl
  · extract_lets +onlyGivenNames -merge -useContext s1
    refine Ok.withS (x := s1) ?_ fun h2 => ?_
    · unfold s1
      refine Ok.via (planCause_ok ..) rfl ?_
      exact Ok.refl
    clear_value s1
    extract_lets +onlyGivenNames -merge -useContext s3
    clear_value s3
    extract_lets +onlyGivenNames -merge -useContext s4
    refine Ok.withS (x := s4) ?_ fun h5 => ?_
    · unfold s4
      refine Ok.via (State.put_at (at_AX_FLTSTAT _)) rfl ?_
      refine Ok.via (State.put_at (at_AX_FLTSTAT _)) rfl ?_
      refine Ok.via (State.put_at (at_AX_FLTSTAT _)) rfl ?_
      exact h2
    clear_value s4
    extract_lets +onlyGivenNames -merge -useContext s6
    refine Ok.withS (x := s6) ?_ fun h7 => ?_
    · unfold s6
      refine Ok.via (State.modMo_ok ..) rfl ?_
      refine Ok.via (haltNow_ok ..) rfl ?_
      refine Ok.via (State.inc_at (at_AX_FLTCNT _)) rfl ?_
      exact h5
    clear_value s6
    refine Ok.via (updAlert_ok ..) rfl ?_
    exact h7

theorem faultAxis_ok : ∀ x0 x1 x2 s, Ok (.trioQ :: .emcyQ :: .logQ :: .logWin :: .coaches :: .axes :: .pl :: .reg .AXALERT :: .reg .AX_ACC :: .reg .AX_EPFS :: .reg .AX_FLTCNT :: .reg .AX_FLTSTAT :: .reg .AX_HOMEST :: .reg .AX_MOVEEN :: .reg .AX_STALLST :: .reg .AX_STAT :: .reg .AX_USTAT :: .reg .AX_VEL :: .reg .EV_PEND :: .reg .MGS_LOGSTAT :: .reg .PL_ENERGY_HI :: .reg .PL_ENERGY_LO :: .reg .PL_EVINFO :: .reg .PL_MAKESPAN :: .reg .PL_RES :: .reg .PL_RES_EACT :: .reg .PL_RES_END :: .reg .PL_STAT :: []) s (@faultAxis x0 x1 x2 s) := by
  intro x0 x1 x2 s
  delta faultAxis
  refine Ok.ite ?_ ?_
  · refine Ok.via (killLegs_ok ..) rfl ?_
    refine Ok.via (faultState_ok ..) rfl ?_
    exact Ok.refl
  · exact Ok.refl

theorem faultAll_ok : ∀ x0 x1 x2 s, Ok (.trioQ :: .emcyQ :: .logQ :: .logWin :: .axes :: .pl :: .reg .AXALERT :: .reg .AX_ACC :: .reg .AX_EPFS :: .reg .AX_FLTCNT :: .reg .AX_FLTSTAT :: .reg .AX_HOMEST :: .reg .AX_MOVEEN :: .reg .AX_STALLST :: .reg .AX_STAT :: .reg .AX_USTAT :: .reg .AX_VEL :: .reg .EV_PEND :: .reg .MGS_LOGSTAT :: .reg .PL_ENERGY_HI :: .reg .PL_ENERGY_LO :: .reg .PL_EVINFO :: .reg .PL_MAKESPAN :: .reg .PL_RES :: .reg .PL_RES_EACT :: .reg .PL_RES_END :: .reg .PL_STAT :: []) s (@faultAll x0 x1 x2 s) := by
  intro x0 x1 x2 s
  delta faultAll
  refine Ok.forEach ?_ ?_
  · intro a0 a1
    refine Ok.ite ?_ ?_
    · refine Ok.via (faultState_ok ..) rfl ?_
      exact Ok.refl
    · exact Ok.refl
  · exact Ok.refl

theorem updRank_ok : ∀ x0 s, Ok [.reg .RK_FLTSTAT] s (@updRank x0 s) := by
  intro x0 s
  delta updRank
  refine Ok.via (State.putB_at (at_RK_FLTSTAT _)) rfl ?_
  exact Ok.refl

theorem rankFault_ok : ∀ x0 x1 x2 s, Ok (.trioQ :: .emcyQ :: .logQ :: .logWin :: .coaches :: .axes :: .pl :: .reg .AXALERT :: .reg .AX_ACC :: .reg .AX_EPFS :: .reg .AX_FLTCNT :: .reg .AX_FLTSTAT :: .reg .AX_HOMEST :: .reg .AX_MOVEEN :: .reg .AX_STALLST :: .reg .AX_STAT :: .reg .AX_USTAT :: .reg .AX_VEL :: .reg .EV_ACT :: .reg .EV_PEND :: .reg .MGS_LOGSTAT :: .reg .PL_ENERGY_HI :: .reg .PL_ENERGY_LO :: .reg .PL_EVINFO :: .reg .PL_MAKESPAN :: .reg .PL_RES :: .reg .PL_RES_EACT :: .reg .PL_RES_END :: .reg .PL_STAT :: .reg .RK_FLTSTAT :: []) s (@rankFault x0 x1 x2 s) := by
  intro x0 x1 x2 s
  delta rankFault
  refine Ok.ite ?_ ?_
  · exact Ok.refl
  · extract_lets +onlyGivenNames -merge -useContext s0
    refine Ok.withS (x := s0) ?_ fun h1 => ?_
    · unfold s0
      refine Ok.ite ?_ ?_
      · exact Ok.refl
      · refine Ok.via (pend_ok ..) rfl ?_
        refine Ok.via (setAct_ok ..) rfl ?_
        refine Ok.via (State.put_at (at_RK_FLTSTAT _)) rfl ?_
        refine Ok.via (State.put_at (at_RK_FLTSTAT _)) rfl ?_
        exact Ok.refl
    clear_value s0
    extract_lets +onlyGivenNames -merge -useContext s2
    refine Ok.withS (x := s2) ?_ fun h3 => ?_
    · unfold s2
      refine Ok.via (faultAll_ok ..) rfl ?_
      exact h1
    clear_value s2
    refine Ok.via (updRank_ok ..) rfl ?_
    refine Ok.via (killLegs_ok ..) rfl ?_
    exact h3

theorem coachFault_ok : ∀ x0 x1 s, Ok (.trioQ :: .emcyQ :: .logQ :: .logWin :: .axes :: .pl :: .reg .AXALERT :: .reg .AX_ACC :: .reg .AX_EPFS :: .reg .AX_FLTCNT :: .reg .AX_FLTSTAT :: .reg .AX_HOMEST :: .reg .AX_MOVEEN :: .reg .AX_STALLST :: .reg .AX_STAT :: .reg .AX_USTAT :: .reg .AX_VEL :: .reg .CO_FLTSTAT :: .reg .EV_ACT :: .reg .EV_PEND :: .reg .MGS_LOGSTAT :: .reg .PL_ENERGY_HI :: .reg .PL_ENERGY_LO :: .reg .PL_EVINFO :: .reg .PL_MAKESPAN :: .reg .PL_RES :: .reg .PL_RES_EACT :: .reg .PL_RES_END :: .reg .PL_STAT :: []) s (@coachFault x0 x1 s) := by
  intro x0 x1 s
  delta coachFault
  extract_lets +onlyGivenNames -merge -useContext s0
  refine Ok.withS (x := s0) ?_ fun h1 => ?_
  · unfold s0
    refine Ok.ite ?_ ?_
    · exact Ok.refl
    · refine Ok.via (pend_ok ..) rfl ?_
      refine Ok.via (setAct_ok ..) rfl ?_
      refine Ok.via (State.put_at (at_CO_FLTSTAT _)) rfl ?_
      refine Ok.via (State.put_at (at_CO_FLTSTAT _)) rfl ?_
      exact Ok.refl
  clear_value s0
  refine Ok.via (faultAll_ok ..) rfl ?_
  exact h1

theorem gregFault_ok : ∀ x0 s, Ok (.trioQ :: .emcyQ :: .logQ :: .logWin :: .coaches :: .axes :: .pl :: .reg .AXALERT :: .reg .AX_ACC :: .reg .AX_EPFS :: .reg .AX_FLTCNT :: .reg .AX_FLTSTAT :: .reg .AX_HOMEST :: .reg .AX_MOVEEN :: .reg .AX_STALLST :: .reg .AX_STAT :: .reg .AX_USTAT :: .reg .AX_VEL :: .reg .CO_FLTSTAT :: .reg .EV_ACT :: .reg .EV_PEND :: .reg .MGS_LOGSTAT :: .reg .PL_ENERGY_HI :: .reg .PL_ENERGY_LO :: .reg .PL_EVINFO :: .reg .PL_MAKESPAN :: .reg .PL_RES :: .reg .PL_RES_EACT :: .reg .PL_RES_END :: .reg .PL_STAT :: []) s (@gregFault x0 s) := by
  intro x0 s
  delta gregFault
  refine Ok.ite ?_ ?_
  · exact Ok.refl
  · refine Ok.via (killLegs_ok ..) rfl ?_
    refine Ok.via (coachFault_ok ..) rfl ?_
    exact Ok.refl

theorem clearAxis_ok : ∀ x0 s, Ok (.trioQ :: .emcyQ :: .logQ :: .logWin :: .coaches :: .axes :: .pl :: .reg .AXALERT :: .reg .AXEN :: .reg .AX_ACC :: .reg .AX_EPFS :: .reg .AX_FLTSTAT :: .reg .AX_HOMEST :: .reg .AX_MOVEEN :: .reg .AX_SSTAT :: .reg .AX_STALLST :: .reg .AX_STAT :: .reg .AX_VEL :: .reg .EV_PEND :: .reg .MGS_LOGSTAT :: .reg .PL_ENERGY_HI :: .reg .PL_ENERGY_LO :: .reg .PL_EVINFO :: .reg .PL_MAKESPAN :: .reg .PL_RES :: .reg .PL_RES_EACT :: .reg .PL_RES_END :: .reg .PL_STAT :: []) s (@clearAxis x0 s) := by
  intro x0 s
  delta clearAxis
  extract_lets +onlyGivenNames -merge -useContext s0
  refine Ok.withS (x := s0) ?_ fun h1 => ?_
  · unfold s0
    refine Ok.via (State.put_at (at_AX_FLTSTAT _)) rfl ?_
    refine Ok.via (State.put_at (at_AX_FLTSTAT _)) rfl ?_
    exact Ok.refl
  clear_value s0
  extract_lets +onlyGivenNames -merge -useContext s2
  refine Ok.withS (x := s2) ?_ fun h3 => ?_
  · unfold s2
    refine Ok.via (State.put_at (at_AX_STAT _)) rfl ?_
    refine Ok.via (disableNow_ok ..) rfl ?_
    exact h1
  clear_value s2
  refine Ok.via (updAlert_ok ..) rfl ?_
  refine Ok.via (State.modMo_ok ..) rfl ?_
  exact h3

theorem clearAxisCmd_ok : ∀ x0 s, Ok (.trioQ :: .emcyQ :: .logQ :: .logWin :: .coaches :: .axes :: .pl :: .reg .AXALERT :: .reg .AXEN :: .reg .AX_ACC :: .reg .AX_EPFS :: .reg .AX_FLTSTAT :: .reg .AX_HOMEST :: .reg .AX_MOVEEN :: .reg .AX_SSTAT :: .reg .AX_STALLST :: .reg .AX_STAT :: .reg .AX_VEL :: .reg .EV_PEND :: .reg .MGS_LOGSTAT :: .reg .PL_ENERGY_HI :: .reg .PL_ENERGY_LO :: .reg .PL_EVINFO :: .reg .PL_MAKESPAN :: .reg .PL_RES :: .reg .PL_RES_EACT :: .reg .PL_RES_END :: .reg .PL_STAT :: []) s (@clearAxisCmd x0 s) := by
  intro x0 s
  delta clearAxisCmd
  extract_lets +onlyGivenNames -merge -useContext s0
  refine Ok.withS (x := s0) ?_ fun h1 => ?_
  · unfold s0
    refine Ok.via (clearAxis_ok ..) rfl ?_
    refine Ok.via (State.put_at (at_AX_FLTSTAT _)) rfl ?_
    exact Ok.refl
  clear_value s0
  refine Ok.ite ?_ ?_
  · exact h1
  · refine Ok.via (sendCtl_ok ..) rfl ?_
    exact h1

theorem clearRank_ok : ∀ x0 s, Ok (.trioQ :: .emcyQ :: .logQ :: .logWin :: .coaches :: .runs :: .axes :: .pl :: .reg .AXALERT :: .reg .AXEN :: .reg .AX_ACC :: .reg .AX_EPFS :: .reg .AX_FLTSTAT :: .reg .AX_HOMEST :: .reg .AX_MOVEEN :: .reg .AX_SSTAT :: .reg .AX_STALLST :: .reg .AX_STAT :: .reg .AX_VEL :: .reg .EV_ACT :: .reg .EV_PEND :: .reg .MGS_LOGSTAT :: .reg .PL_ENERGY_HI :: .reg .PL_ENERGY_LO :: .reg .PL_EVINFO :: .reg .PL_MAKESPAN :: .reg .PL_RES :: .reg .PL_RES_EACT :: .reg .PL_RES_END :: .reg .PL_STAT :: .reg .RK_FLTSTAT :: []) s (@clearRank x0 s) := by
  intro x0 s
  delta clearRank
  extract_lets +onlyGivenNames -merge -useContext s0
  refine Ok.withS (x := s0) ?_ fun h1 => ?_
  · unfold s0
    refine Ok.via (setAct_ok ..) rfl ?_
    refine Ok.via (State.put_at (at_RK_FLTSTAT _)) rfl ?_
    refine Ok.via (State.put_at (at_RK_FLTSTAT _)) rfl ?_
    exact Ok.refl
  clear_value s0
  extract_lets +onlyGivenNames -merge -useContext s2
  refine Ok.withS (x := s2) ?_ fun h5 => ?_
  · unfold s2
    refine Ok.forEach ?_ ?_
    · intro a3 a4
      refine Ok.ite ?_ ?_
      · refine Ok.via (clearAxis_ok ..) rfl ?_
        exact Ok.refl
      · exact Ok.refl
    · exact h1
  clear_value s2
  extract_lets +onlyGivenNames -merge -useContext s6
  refine Ok.withS (x := s6) ?_ fun h7 => ?_
  · unfold s6
    refine Ok.via (Ok.runs ?_) rfl ?_
    · exact fun h => Sparse.wf_filter _ h
    exact h5
  clear_value s6
  refine Ok.via (updRank_ok ..) rfl ?_
  refine Ok.via (sendCtl_ok ..) rfl ?_
  exact h7

theorem clearCoach_ok : ∀ x0 s, Ok (.trioQ :: .emcyQ :: .logQ :: .logWin :: .coaches :: .axes :: .pl :: .reg .AXALERT :: .reg .AXEN :: .reg .AX_ACC :: .reg .AX_EPFS :: .reg .AX_FLTSTAT :: .reg .AX_HOMEST :: .reg .AX_MOVEEN :: .reg .AX_SSTAT :: .reg .AX_STALLST :: .reg .AX_STAT :: .reg .AX_VEL :: .reg .CO_FLTSTAT :: .reg .EV_ACT :: .reg .EV_PEND :: .reg .MGS_LOGSTAT :: .reg .PL_ENERGY_HI :: .reg .PL_ENERGY_LO :: .reg .PL_EVINFO :: .reg .PL_MAKESPAN :: .reg .PL_RES :: .reg .PL_RES_EACT :: .reg .PL_RES_END :: .reg .PL_STAT :: []) s (@clearCoach x0 s) := by
  intro x0 s
  delta clearCoach
  extract_lets +onlyGivenNames -merge -useContext s0
  refine Ok.withS (x := s0) ?_ fun h1 => ?_
  · unfold s0
    refine Ok.via (setAct_ok ..) rfl ?_
    refine Ok.via (State.put_at (at_CO_FLTSTAT _)) rfl ?_
    refine Ok.via (State.put_at (at_CO_FLTSTAT _)) rfl ?_
    exact Ok.refl
  clear_value s0
  extract_lets +onlyGivenNames -merge -useContext s2
  refine Ok.withS (x := s2) ?_ fun h5 => ?_
  · unfold s2
    refine Ok.forEach ?_ ?_
    · intro a3 a4
      refine Ok.ite ?_ ?_
      · refine Ok.via (clearAxis_ok ..) rfl ?_
        refine Ok.via (State.put_at (at_AX_FLTSTAT _)) rfl ?_
        exact Ok.refl
      · refine Ok.ite ?_ ?_
        · refine Ok.via (disableNow_ok ..) rfl ?_
          exact Ok.refl
        · exact Ok.refl
    · exact h1
  clear_value s2
  refine Ok.via (sendCtl_ok ..) rfl ?_
  exact h5

theorem clearVm_ok : ∀ x0 s, Ok (.trioQ :: .emcyQ :: .logQ :: .logWin :: .coaches :: .axes :: .pl :: .reg .AXALERT :: .reg .AXEN :: .reg .AX_ACC :: .reg .AX_EPFS :: .reg .AX_FLTSTAT :: .reg .AX_HOMEST :: .reg .AX_MOVEEN :: .reg .AX_SSTAT :: .reg .AX_STALLST :: .reg .AX_STAT :: .reg .AX_VEL :: .reg .EV_PEND :: .reg .MGS_LOGSTAT :: .reg .PL_ENERGY_HI :: .reg .PL_ENERGY_LO :: .reg .PL_EVINFO :: .reg .PL_MAKESPAN :: .reg .PL_RES :: .reg .PL_RES_EACT :: .reg .PL_RES_END :: .reg .PL_STAT :: []) s (@clearVm x0 s) := by
  intro x0 s
  delta clearVm
  extract_lets +onlyGivenNames -merge -useContext s0
  refine Ok.withS (x := s0) ?_ fun h4 => ?_
  · unfold s0
    refine Ok.forEach ?_ ?_
    · intro a1 a2
      extract_lets +onlyGivenNames -merge -useContext s3
      clear_value s3
      refine Ok.ite ?_ ?_
      · refine Ok.via (clearAxis_ok ..) rfl ?_
        exact Ok.refl
      · exact Ok.refl
    · exact Ok.refl
  clear_value s0
  extract_lets +onlyGivenNames -merge -useContext s5
  clear_value s5
  refine Ok.ite ?_ ?_
  · exact h4
  · refine Ok.via (sendCtl_ok ..) rfl ?_
    exact h4

theorem acceptTrip_ok : ∀ x0 x1 x2 x3 s, Ok [.trips] s (@acceptTrip x0 x1 x2 x3 s) := by
  intro x0 x1 x2 x3 s
  delta acceptTrip
  split
  · refine Ok.ite ?_ ?_
    · refine Ok.via Ok.trips rfl ?_
      exact Ok.refl
    · exact Ok.refl

theorem sweepTrips_ok : ∀ s, Ok [.trips] s (@sweepTrips s) := by
  intro s
  delta sweepTrips
  refine Ok.via Ok.trips rfl ?_
  exact Ok.refl

theorem tripMaps_ok : ∀ x0 s, Ok [.reg .RK_TRIPMAP] s (@tripMaps x0 s) := by
  intro x0 s
  delta tripMaps
  refine Ok.forEach ?_ ?_
  · intro a0 a1
    extract_lets +onlyGivenNames -merge -useContext s2
    clear_value s2
    refine Ok.via (State.put_at (at_RK_TRIPMAP _)) rfl ?_
    exact Ok.refl
  · exact Ok.refl

theorem checkTrip_ok : ∀ x0 s, Ok (.trioQ :: .emcyQ :: .logQ :: .logWin :: .coaches :: .trips :: .axes :: .pl :: .reg .AXALERT :: .reg .AX_ACC :: .reg .AX_EPFS :: .reg .AX_FLTCNT :: .reg .AX_FLTSTAT :: .reg .AX_HOMEST :: .reg .AX_MOVEEN :: .reg .AX_STALLST :: .reg .AX_STAT :: .reg .AX_USTAT :: .reg .AX_VEL :: .reg .EV_ACT :: .reg .EV_PEND :: .reg .MGS_LOGSTAT :: .reg .PL_ENERGY_HI :: .reg .PL_ENERGY_LO :: .reg .PL_EVINFO :: .reg .PL_MAKESPAN :: .reg .PL_RES :: .reg .PL_RES_EACT :: .reg .PL_RES_END :: .reg .PL_STAT :: .reg .RK_FLTSTAT :: .reg .RK_TRIPMAP :: []) s (@checkTrip x0 s) := by
  intro x0 s
  delta checkTrip
  extract_lets +onlyGivenNames -merge -useContext s0
  clear_value s0
  extract_lets +onlyGivenNames -merge -useContext s1
  clear_value s1
  extract_lets +onlyGivenNames -merge -useContext s2
  clear_value s2
  extract_lets +onlyGivenNames -merge -useContext s3
  clear_value s3
  extract_lets +onlyGivenNames -merge -useContext s4
  clear_value s4
  extract_lets +onlyGivenNames -merge -useContext s5
  refine Ok.withS (x := s5) ?_ fun h8 => ?_
  · unfold s5
    refine Ok.forEach ?_ ?_
    · intro a6 a7
      refine Ok.via (rankFault_ok ..) rfl ?_
      exact Ok.refl
    · exact Ok.refl
  clear_value s5
  extract_lets +onlyGivenNames -merge -useContext s9
  clear_value s9
  split
  · rename_i t10 e11
    refine Ok.withS (x := t10) (OkP.of_eq e11 ?_) fun h12 => ?_
    · refine OkP.ite ?_ ?_
      · refine OkP.mk ?_
        refine Ok.forEach ?_ ?_
        · intro a13 a14
          refine Ok.ite ?_ ?_
          · exact Ok.refl
          · refine Ok.via (faultAxis_ok ..) rfl ?_
            exact Ok.refl
        · exact h8
      · refine OkP.ite ?_ ?_
        · refine OkP.mk ?_
          refine Ok.via (faultAxis_ok ..) rfl ?_
          exact h8
        · refine OkP.ite ?_ ?_
          · refine OkP.mk ?_
            refine Ok.via (faultAxis_ok ..) rfl ?_
            exact h8
          · refine OkP.mk ?_
            exact h8
    refine Ok.ite ?_ ?_
    · extract_lets +onlyGivenNames -merge -useContext s15
      refine Ok.withS (x := s15) ?_ fun h16 => ?_
      · unfold s15
        refine Ok.via (tripMaps_ok ..) rfl ?_
        exact h12
      clear_value s15
      refine Ok.via Ok.trips rfl ?_
      exact h16
    · refine Ok.via Ok.trips rfl ?_
      exact h12

theorem tripCheck_ok : ∀ s, Ok (.trioQ :: .emcyQ :: .logQ :: .logWin :: .coaches :: .trips :: .axes :: .pl :: .reg .AXALERT :: .reg .AX_ACC :: .reg .AX_EPFS :: .reg .AX_FLTCNT :: .reg .AX_FLTSTAT :: .reg .AX_HOMEST :: .reg .AX_MOVEEN :: .reg .AX_STALLST :: .reg .AX_STAT :: .reg .AX_USTAT :: .reg .AX_VEL :: .reg .EV_ACT :: .reg .EV_PEND :: .reg .MGS_LOGSTAT :: .reg .PL_ENERGY_HI :: .reg .PL_ENERGY_LO :: .reg .PL_EVINFO :: .reg .PL_MAKESPAN :: .reg .PL_RES :: .reg .PL_RES_EACT :: .reg .PL_RES_END :: .reg .PL_STAT :: .reg .RK_FLTSTAT :: .reg .RK_TRIPMAP :: []) s (@tripCheck s) := by
  intro s
  delta tripCheck
  split
  · exact Ok.refl
  · refine Ok.via (sweepTrips_ok ..) rfl ?_
    refine Ok.via (checkTrip_ok ..) rfl ?_
    exact Ok.refl

theorem periodCheck_ok : ∀ x0 x1 s, Ok (.trioQ :: .emcyQ :: .logQ :: .logWin :: .coaches :: .trips :: .runs :: .axes :: .pl :: .reg .AXALERT :: .reg .AX_ACC :: .reg .AX_EPFS :: .reg .AX_FLTCNT :: .reg .AX_FLTSTAT :: .reg .AX_HOMEST :: .reg .AX_MOVEEN :: .reg .AX_STALLST :: .reg .AX_STAT :: .reg .AX_USTAT :: .reg .AX_VEL :: .reg .EV_PEND :: .reg .MGS_LOGSTAT :: .reg .PL_ENERGY_HI :: .reg .PL_ENERGY_LO :: .reg .PL_EVINFO :: .reg .PL_MAKESPAN :: .reg .PL_RES :: .reg .PL_RES_EACT :: .reg .PL_RES_END :: .reg .PL_STAT :: .reg .RK_TRIPMAP :: []) s (@periodCheck x0 x1 s) := by
  intro x0 x1 s
  delta periodCheck
  extract_lets +onlyGivenNames -merge -useContext s0
  clear_value s0
  extract_lets +onlyGivenNames -merge -useContext s1
  clear_value s1
  extract_lets +onlyGivenNames -merge -useContext s2
  refine Ok.withS (x := s2) ?_ fun h5 => ?_
  · unfold s2
    refine Ok.forEach ?_ ?_
    · intro a3 a4
      refine Ok.ite ?_ ?_
      · refine Ok.via (faultAxis_ok ..) rfl ?_
        refine Ok.via (tripMaps_ok ..) rfl ?_
        exact Ok.refl
      · exact Ok.refl
    · exact Ok.refl
  clear_value s2
  extract_lets +onlyGivenNames -merge -useContext s6
  refine Ok.withS (x := s6) ?_ fun h14 => ?_
  · unfold s6
    refine Ok.forEach ?_ ?_
    · intro a7 a8
      refine Ok.forEach ?_ ?_
      · intro a9 a10
        extract_lets +onlyGivenNames -merge -useContext s11
        clear_value s11
        extract_lets +onlyGivenNames -merge -useContext s12
        refine Ok.withS (x := s12) ?_ fun h13 => ?_
        · unfold s12
          refine Ok.via (Ok.runs ?_) rfl ?_
          · exact fun h => Sparse.wf_set h
          exact Ok.refl
        clear_value s12
        refine Ok.ite ?_ ?_
        · refine Ok.via (faultAxis_ok ..) rfl ?_
          refine Ok.via (tripMaps_ok ..) rfl ?_
          exact h13
        · exact h13
      · exact Ok.refl
    · exact h5
  clear_value s6
  extract_lets +onlyGivenNames -merge -useContext s15
  clear_value s15
  refine Ok.via (sweepTrips_ok ..) rfl ?_
  refine Ok.via Ok.trips rfl ?_
  exact h14

theorem waitExpiry_ok : ∀ x0 s, Ok [.coaches, .reg .AX_FLTCNT, .reg .AX_FLTSTAT] s (@waitExpiry x0 s) := by
  intro x0 s
  delta waitExpiry
  extract_lets +onlyGivenNames -merge -useContext s0
  clear_value s0
  refine Ok.ite ?_ ?_
  · extract_lets +onlyGivenNames -merge -useContext s1
    refine Ok.withS (x := s1) ?_ fun h2 => ?_
    · unfold s1
      refine Ok.via (State.put_at (at_AX_FLTSTAT _)) rfl ?_
      refine Ok.via (State.put_at (at_AX_FLTSTAT _)) rfl ?_
      exact Ok.refl
    clear_value s1
    refine Ok.via (sendCtl_ok ..) rfl ?_
    refine Ok.via (State.inc_at (at_AX_FLTCNT _)) rfl ?_
    exact h2
  · exact Ok.refl

theorem testPass_ok : ∀ x0 s, Ok [.staged, .trioQ, .emcyQ, .logQ, .logWin, .axes, .reg .AXALERT, .reg .AX_FLTSTAT, .reg .AX_MODE, .reg .AX_SSTAT, .reg .AX_STAT, .reg .EV_PEND, .reg .MGS_LOGSTAT] s (@testPass x0 s) := by
  intro x0 s
  delta testPass
  refine Ok.ite ?_ ?_
  · extract_lets +onlyGivenNames -merge -useContext s0
    refine Ok.withS (x := s0) ?_ fun h1 => ?_
    · unfold s0
      refine Ok.via (State.put_at (at_AX_FLTSTAT _)) rfl ?_
      refine Ok.via (State.put_at (at_AX_FLTSTAT _)) rfl ?_
      exact Ok.refl
    clear_value s0
    extract_lets +onlyGivenNames -merge -useContext s2
    refine Ok.withS (x := s2) ?_ fun h3 => ?_
    · unfold s2
      refine Ok.via (State.setStaged_ok ..) rfl ?_
      refine Ok.via (State.put_at (at_AX_STAT _)) rfl ?_
      exact h1
    clear_value s2
    extract_lets +onlyGivenNames -merge -useContext s4
    refine Ok.withS (x := s4) ?_ fun h5 => ?_
    · unfold s4
      refine Ok.via (State.put_at (at_AX_SSTAT _)) rfl ?_
      refine Ok.via (State.put_at (at_AX_MODE _)) rfl ?_
      exact h3
    clear_value s4
    extract_lets +onlyGivenNames -merge -useContext s6
    refine Ok.withS (x := s6) ?_ fun h7 => ?_
    · unfold s6
      refine Ok.via (State.modSe_ok ..) rfl ?_
      refine Ok.via (State.modMo_ok ..) rfl ?_
      exact h5
    clear_value s6
    refine Ok.via (pend_ok ..) rfl ?_
    refine Ok.via (updAlert_ok ..) rfl ?_
    exact h7
  · exact Ok.refl

theorem showSide_ok : ∀ x0 s, Ok [.reg .CO_VM, .reg .EV_ACT] s (@showSide x0 s) := by
  intro x0 s
  delta showSide
  extract_lets +onlyGivenNames -merge -useContext s0
  refine Ok.withS (x := s0) ?_ fun h3 => ?_
  · unfold s0
    refine Ok.forEach ?_ ?_
    · intro a1 a2
      refine Ok.via (State.putB_at (at_CO_VM _)) rfl ?_
      refine Ok.via (State.putB_at (at_CO_VM _)) rfl ?_
      refine Ok.via (State.putB_at (at_CO_VM _)) rfl ?_
      refine Ok.via (State.putB_at (at_CO_VM _)) rfl ?_
      exact Ok.refl
    · exact Ok.refl
  clear_value s0
  refine Ok.via (setAct_ok ..) rfl ?_
  refine Ok.via (setAct_ok ..) rfl ?_
  exact h3

theorem sideFault_ok : ∀ x0 x1 s, Ok (.trioQ :: .emcyQ :: .logQ :: .logWin :: .coaches :: .axes :: .pl :: .reg .AXALERT :: .reg .AX_ACC :: .reg .AX_EPFS :: .reg .AX_FLTCNT :: .reg .AX_FLTSTAT :: .reg .AX_HOMEST :: .reg .AX_MOVEEN :: .reg .AX_STALLST :: .reg .AX_STAT :: .reg .AX_USTAT :: .reg .AX_VEL :: .reg .EV_PEND :: .reg .MGS_LOGSTAT :: .reg .PL_ENERGY_HI :: .reg .PL_ENERGY_LO :: .reg .PL_EVINFO :: .reg .PL_MAKESPAN :: .reg .PL_RES :: .reg .PL_RES_EACT :: .reg .PL_RES_END :: .reg .PL_STAT :: []) s (@sideFault x0 x1 s) := by
  intro x0 x1 s
  delta sideFault
  extract_lets +onlyGivenNames -merge -useContext s0
  clear_value s0
  extract_lets +onlyGivenNames -merge -useContext s1
  refine Ok.withS (x := s1) ?_ fun h2 => ?_
  · unfold s1
    refine Ok.via (pend_ok ..) rfl ?_
    exact Ok.refl
  clear_value s1
  extract_lets +onlyGivenNames -merge -useContext s3
  refine Ok.withS (x := s3) ?_ fun h4 => ?_
  · unfold s3
    refine Ok.via (faultAll_ok ..) rfl ?_
    exact h2
  clear_value s3
  refine Ok.forEach ?_ ?_
  · intro a5 a6
    refine Ok.ite ?_ ?_
    · refine Ok.forEach ?_ ?_
      · intro a7 a8
        refine Ok.via (sendCtl_ok ..) rfl ?_
        exact Ok.refl
      · exact Ok.refl
    · refine Ok.via (killLegs_ok ..) rfl ?_
      exact Ok.refl
  · exact h4

theorem vmChange_ok : ∀ x0 x1 s, Ok (.trioQ :: .emcyQ :: .logQ :: .logWin :: .coaches :: .axes :: .pl :: .reg .AXALERT :: .reg .AX_ACC :: .reg .AX_EPFS :: .reg .AX_FLTCNT :: .reg .AX_FLTSTAT :: .reg .AX_HOMEST :: .reg .AX_MOVEEN :: .reg .AX_STALLST :: .reg .AX_STAT :: .reg .AX_USTAT :: .reg .AX_VEL :: .reg .CO_VM :: .reg .EV_ACT :: .reg .EV_PEND :: .reg .MGS_LOGSTAT :: .reg .PL_ENERGY_HI :: .reg .PL_ENERGY_LO :: .reg .PL_EVINFO :: .reg .PL_MAKESPAN :: .reg .PL_RES :: .reg .PL_RES_EACT :: .reg .PL_RES_END :: .reg .PL_STAT :: []) s (@vmChange x0 x1 s) := by
  intro x0 x1 s
  delta vmChange
  extract_lets +onlyGivenNames -merge -useContext s0
  clear_value s0
  extract_lets +onlyGivenNames -merge -useContext s1
  clear_value s1
  extract_lets +onlyGivenNames -merge -useContext s2
  clear_value s2
  extract_lets +onlyGivenNames -merge -useContext s3
  clear_value s3
  extract_lets +onlyGivenNames -merge -useContext s4
  refine Ok.withS (x := s4) ?_ fun h5 => ?_
  · unfold s4
    refine Ok.via (showSide_ok ..) rfl ?_
    refine Ok.via (State.modCoach_ok ..) rfl ?_
    exact Ok.refl
  clear_value s4
  extract_lets +onlyGivenNames -merge -useContext s6
  refine Ok.withS (x := s6) ?_ fun h8 => ?_
  · unfold s6
    refine Ok.applyIf ?_ ?_
    · intro a7
      refine Ok.via (sideFault_ok ..) rfl ?_
      exact Ok.refl
    · exact h5
  clear_value s6
  extract_lets +onlyGivenNames -merge -useContext s9
  refine Ok.withS (x := s9) ?_ fun h11 => ?_
  · unfold s9
    refine Ok.applyIf ?_ ?_
    · intro a10
      refine Ok.via (sideFault_ok ..) rfl ?_
      exact Ok.refl
    · exact h8
  clear_value s9
  refine Ok.applyIf ?_ ?_
  · intro a12
    refine Ok.via (pendSrc_ok ..) rfl ?_
    exact Ok.refl
  · exact h11

theorem settle_ok : ∀ x0 s, Ok [.legs] s (@settle x0 s) := by
  intro x0 s
  delta settle
  refine Ok.via (State.modLeg_ok ..) rfl ?_
  exact Ok.refl

theorem coachSafe_ok : ∀ x0 s, Ok [.legs, .coils, .coaches, .reg .CO_LINKSTAT, .reg .LEG_TEST] s (@coachSafe x0 s) := by
  intro x0 s
  delta coachSafe
  extract_lets +onlyGivenNames -merge -useContext s0
  clear_value s0
  extract_lets +onlyGivenNames -merge -useContext s1
  refine Ok.withS (x := s1) ?_ fun h5 => ?_
  · unfold s1
    refine Ok.forEach ?_ ?_
    · intro a2 a3
      extract_lets +onlyGivenNames -merge -useContext s4
      clear_value s4
      refine Ok.via (settle_ok ..) rfl ?_
      refine Ok.via (State.modLeg_ok ..) rfl ?_
      refine Ok.via (State.put_at (at_LEG_TEST _)) rfl ?_
      exact Ok.refl
    · exact Ok.refl
  clear_value s1
  extract_lets +onlyGivenNames -merge -useContext s6
  refine Ok.withS (x := s6) ?_ fun h11 => ?_
  · unfold s6
    refine Ok.forEach ?_ ?_
    · intro a7 a8
      refine Ok.forEach ?_ ?_
      · intro a9 a10
        refine Ok.via (State.modCoil_ok ..) rfl ?_
        exact Ok.refl
      · exact Ok.refl
    · exact h5
  clear_value s6
  refine Ok.via (State.put_at (at_CO_LINKSTAT _)) rfl ?_
  refine Ok.via (State.modCoach_ok ..) rfl ?_
  exact h11

theorem modeFailed_ok : ∀ x0 s, Ok [.coaches] s (@modeFailed x0 s) := by
  intro x0 s
  delta modeFailed
  split
  · refine Ok.via (State.modCoach_ok ..) rfl ?_
    exact Ok.refl
  · exact Ok.refl

theorem endExchange_ok : ∀ x0 x1 s, Ok [.replies, .trioQ, .emcyQ, .logQ, .logWin, .coaches, .power, .net, .reg .EV_PEND, .reg .GCTL_BUSERR, .reg .GCTL_BUSERRADDR, .reg .GCTL_BUSERRCNT, .reg .MGS_LOGSTAT] s (@endExchange x0 x1 s) := by
  intro x0 x1 s
  delta endExchange
  extract_lets +onlyGivenNames -merge -useContext s0
  refine Ok.withS (x := s0) ?_ fun h1 => ?_
  · unfold s0
    split
    · refine Ok.via (recordErr_ok ..) rfl ?_
      refine Ok.via (modeFailed_ok ..) rfl ?_
      exact Ok.refl
    · exact Ok.refl
  clear_value s0
  extract_lets +onlyGivenNames -merge -useContext s2
  refine Ok.withS (x := s2) ?_ fun h3 => ?_
  · unfold s2
    refine Ok.via (State.answer_ok ..) rfl ?_
    exact h1
  clear_value s2
  refine Ok.ite ?_ ?_
  · refine Ok.via (Ok.net ?_) rfl ?_
    · exact fun ⟨h1, h2, h3, h4, h5, h6⟩ => ⟨h1, h2, h3, h4, h5, h6⟩
    exact h3
  · exact h3

theorem endExchanges_ok : ∀ x0 s, Ok [.replies, .trioQ, .emcyQ, .logQ, .logWin, .coaches, .power, .net, .reg .EV_PEND, .reg .GCTL_BUSERR, .reg .GCTL_BUSERRADDR, .reg .GCTL_BUSERRCNT, .reg .MGS_LOGSTAT] s (@endExchanges x0 s) := by
  intro x0 s
  delta endExchanges
  split
  · exact Ok.refl
  · refine Ok.foldl ?_ ?_
    · intro u0 x1
      refine Ok.via (endExchange_ok ..) rfl ?_
      exact Ok.refl
    · refine Ok.via (endExchange_ok ..) rfl ?_
      exact Ok.refl

theorem couplingLost_ok : ∀ x0 x1 s, Ok (.replies :: .trioQ :: .emcyQ :: .logQ :: .logWin :: .coaches :: .axes :: .pl :: .power :: .net :: .reg .AXALERT :: .reg .AX_ACC :: .reg .AX_EPFS :: .reg .AX_FLTCNT :: .reg .AX_FLTSTAT :: .reg .AX_HOMEST :: .reg .AX_MOVEEN :: .reg .AX_STALLST :: .reg .AX_STAT :: .reg .AX_USTAT :: .reg .AX_VEL :: .reg .CO_FLTSTAT :: .reg .CO_LINKSTAT :: .reg .EV_ACT :: .reg .EV_PEND :: .reg .GCTL_BUSERR :: .reg .GCTL_BUSERRADDR :: .reg .GCTL_BUSERRCNT :: .reg .MGS_LOGSTAT :: .reg .PL_ENERGY_HI :: .reg .PL_ENERGY_LO :: .reg .PL_EVINFO :: .reg .PL_MAKESPAN :: .reg .PL_RES :: .reg .PL_RES_EACT :: .reg .PL_RES_END :: .reg .PL_STAT :: []) s (@couplingLost x0 x1 s) := by
  intro x0 x1 s
  delta couplingLost
  extract_lets +onlyGivenNames -merge -useContext s0
  refine Ok.withS (x := s0) ?_ fun h1 => ?_
  · unfold s0
    refine Ok.via (State.put_at (at_CO_LINKSTAT _)) rfl ?_
    refine Ok.via (State.put_at (at_CO_LINKSTAT _)) rfl ?_
    exact Ok.refl
  clear_value s0
  extract_lets +onlyGivenNames -merge -useContext s2
  clear_value s2
  extract_lets +onlyGivenNames -merge -useContext s3
  refine Ok.withS (x := s3) ?_ fun h4 => ?_
  · unfold s3
    refine Ok.via (State.modCoach_ok ..) rfl ?_
    exact h1
  clear_value s3
  refine Ok.via (coachFault_ok ..) rfl ?_
  refine Ok.via (endExchanges_ok ..) rfl ?_
  exact h4

end Sys2Proof.Machine
end

