-- ==== Sys2Proof/Laws/OkLandOps.lean ====
section
/-!
SUPPORT. Laws/OkLandOps.lean: for each operation of Machine/LandOps.lean, the parts of the state it can change, and that it keeps a
good state good.
-/

namespace Sys2Proof.Machine

set_option Elab.async false

theorem showFollower_ok : ∀ x0 s, Ok [.legs, .reg .LEG_STAT] s (@showFollower x0 s) := by
  intro x0 s
  delta showFollower
  extract_lets +onlyGivenNames -merge -useContext s0
  clear_value s0
  refine Ok.ite ?_ ?_
  · refine Ok.via (State.put_at (at_LEG_STAT _)) rfl ?_
    exact Ok.refl
  · extract_lets +onlyGivenNames -merge -useContext s1
    refine Ok.withS (x := s1) ?_ fun h2 => ?_
    · unfold s1
      refine Ok.via (State.put_at (at_LEG_STAT _)) rfl ?_
      refine Ok.via (State.modLeg_ok ..) rfl ?_
      exact Ok.refl
    clear_value s1
    refine Ok.via (State.put_at (at_LEG_STAT _)) rfl ?_
    refine Ok.via (State.put_at (at_LEG_STAT _)) rfl ?_
    exact h2

theorem holdCode_ok : ∀ x0 s, Ok [.legs, .reg .LEG_STAT] s (@holdCode x0 s) := by
  intro x0 s
  delta holdCode
  refine Ok.ite ?_ ?_
  · exact Ok.refl
  · extract_lets +onlyGivenNames -merge -useContext s0
    refine Ok.withS (x := s0) ?_ fun h1 => ?_
    · unfold s0
      refine Ok.via (State.modLeg_ok ..) rfl ?_
      refine Ok.via (State.put_at (at_LEG_STAT _)) rfl ?_
      refine Ok.via (State.put_at (at_LEG_STAT _)) rfl ?_
      exact Ok.refl
    clear_value s0
    refine Ok.forEach ?_ ?_
    · intro a2 a3
      refine Ok.via (showFollower_ok ..) rfl ?_
      exact Ok.refl
    · exact h1

theorem landed_ok : ∀ x0 x1 x2 s, Ok [.trioQ, .emcyQ, .logQ, .logWin, .legs, .axes, .encs, .reg .AX_BEMFKE, .reg .AX_STALLST, .reg .AX_STAT, .reg .CMP_CFG, .reg .CMP_CNTS, .reg .CMP_COUNT, .reg .CMP_POS, .reg .CMP_STAT, .reg .ENC_STAT, .reg .EV_PEND, .reg .LEG_STAT, .reg .MGS_LOGSTAT, .reg .STEP_STAT] s (@landed x0 x1 x2 s) := by
  intro x0 x1 x2 s
  delta landed
  extract_lets +onlyGivenNames -merge -useContext s0
  clear_value s0
  split
  · refine Ok.ite ?_ ?_
    · refine Ok.via (State.modSe_ok ..) rfl ?_
      exact Ok.refl
    · exact Ok.refl
  · split
    · refine Ok.via (State.put_at (at_AX_STAT _)) rfl ?_
      exact Ok.refl
    · exact Ok.refl
  · extract_lets +onlyGivenNames -merge -useContext s1
    clear_value s1
    refine Ok.ite ?_ ?_
    · refine Ok.via (applySuspend_ok ..) rfl ?_
      exact Ok.refl
    · exact Ok.refl
  · refine Ok.via (State.modSe_ok ..) rfl ?_
    refine Ok.via (State.put_at (at_AX_BEMFKE _)) rfl ?_
    refine Ok.via (State.put_at (at_AX_BEMFKE _)) rfl ?_
    exact Ok.refl
  · refine Ok.via (State.putB_at (at_AX_STALLST _)) rfl ?_
    exact Ok.refl
  · refine Ok.ite ?_ ?_
    · refine Ok.via (cmpArm_ok ..) rfl ?_
      exact Ok.refl
    · exact Ok.refl
  · extract_lets +onlyGivenNames -merge -useContext s2
    clear_value s2
    extract_lets +onlyGivenNames -merge -useContext s3
    refine Ok.withS (x := s3) ?_ fun h5 => ?_
    · unfold s3
      refine Ok.applyIf ?_ ?_
      · intro a4
        refine Ok.via (State.modEnc_ok ..) rfl ?_
        exact Ok.refl
      · exact Ok.refl
    clear_value s3
    refine Ok.ite ?_ ?_
    · refine Ok.via (encWindow_ok ..) rfl ?_
      exact h5
    · exact h5
  · refine Ok.via (State.modEnc_ok ..) rfl ?_
    exact Ok.refl
  · refine Ok.via (encFault_ok ..) rfl ?_
    exact Ok.refl
  · extract_lets +onlyGivenNames -merge -useContext s6
    clear_value s6
    refine Ok.via (showDir_ok ..) rfl ?_
    refine Ok.applyIf ?_ ?_
    · intro a7
      refine Ok.via (State.modEnc_ok ..) rfl ?_
      exact Ok.refl
    · exact Ok.refl
  · refine Ok.via (State.modEnc_ok ..) rfl ?_
    exact Ok.refl
  · refine Ok.via (holdCode_ok ..) rfl ?_
    exact Ok.refl
  · refine Ok.forEach ?_ ?_
    · intro a8 a9
      refine Ok.via (State.put_at (at_LEG_STAT _)) rfl ?_
      refine Ok.via (State.modLeg_ok ..) rfl ?_
      exact Ok.refl
    · exact Ok.refl
  · exact Ok.refl

theorem landValue_ok : ∀ x0 x1 s, Ok [.regs, .staged] s (@landValue x0 x1 s) := by
  intro x0 x1 s
  delta landValue
  extract_lets +onlyGivenNames -merge -useContext s0
  clear_value s0
  refine Ok.via (State.setStaged_ok ..) rfl ?_
  refine Ok.via (State.wr_ok ..) rfl ?_
  exact Ok.refl

/-- Every register with a field that lands with class `c` is one of a list, and none of them is guarded. -/
def classIn (c : BufClass) (rs : List RegName) : Bool :=
  [Block.GCTL, .AX, .LEG, .RK, .CO, .SEG, .WAVE, .ENC, .STEP, .AFE, .SD, .EV, .PL, .NET, .SPH, .SPM, .MGS].all fun b =>
    b.regs.all fun d => d.classMask c == 0 || (rs.contains d.reg && !d.guarded)

theorem classIn_mem {c : BufClass} {rs : List RegName} (h : classIn c rs = true) {b : Block} {d : RegDef} (hd : d ∈ b.regs)
    (hm : d.classMask c ≠ 0) : d.reg ∈ rs ∧ d.guarded = false := by
  have hb := List.all_eq_true.mp h b (by cases b <;> decide)
  have := List.all_eq_true.mp hb d hd
  simp only [Bool.or_eq_true, beq_iff_eq, Bool.and_eq_true, List.contains_iff_mem, Bool.not_eq_true'] at this
  exact this.resolve_left hm

theorem covered_regs {r : RegName} {rs : List RegName} {W : List Part} (h : r ∈ rs) : within [.reg r] (rs.map .reg ++ W) = true := by
  simp only [within, List.all_cons, List.all_nil, Bool.and_true]
  exact covered_self (List.mem_append_left _ (List.mem_map.mpr ⟨r, h, rfl⟩))

theorem Ok.forEach_mem {α : Type} {W : List Part} {l : List α} {f : α → State → State} {s t : State}
    (h : ∀ x ∈ l, ∀ u, Ok W u (f x u)) (h0 : Ok W s t) : Ok W s (Machine.forEach l f t) := by
  unfold Machine.forEach
  induction l generalizing t with
  | nil => exact h0
  | cons x l ih =>
    exact ih (fun y hy => h y (List.mem_cons_of_mem _ hy)) (h0.trans (h x List.mem_cons_self t))

/-- A word of class `c` is in a register of the class that no guard protects. -/
theorem landing_some {c : BufClass} {rs : List RegName} (hc : classIn c rs = true) {addr : Nat} {s : State}
    (h : s.landing c addr ≠ 0) : ∃ l, locate addr = some l ∧ l.defn.reg ∈ rs ∧ l.compl = false := by
  unfold State.landing at h
  split at h
  · exact absurd rfl h
  · rename_i l e
    obtain ⟨_, hd, _, _, hg, _⟩ := locate_some e
    have hm' : l.defn.classMask c ≠ 0 := fun h' => h (by simp [h'])
    obtain ⟨hr, hn⟩ := classIn_mem hc hd hm'
    refine ⟨l, e, hr, ?_⟩
    cases hl' : l.compl with
    | false => rfl
    | true => rw [hg hl'] at hn; cases hn

/-- Words of class `c` change the registers of the class, and what the landings start changes. -/
theorem landWords_at {c : BufClass} {rs : List RegName} {W : List Part} (hc : classIn c rs = true) (hs : within [.staged] W = true)
    (hl : ∀ l m old u, l.defn.reg ∈ rs → Ok W u (landed l m old u)) (addrs : List Nat) (s : State) :
    Ok (rs.map .reg ++ W) s (landWords c addrs s) := by
  have hW : within W (rs.map Part.reg ++ W) = true := within_right
  have hS : within [.staged] (rs.map Part.reg ++ W) = true :=
    List.all_eq_true.mpr fun q hq => covered_mono (fun x hx => List.mem_append_right _ hx) (List.all_eq_true.mp hs q hq)
  have key : ∀ x ∈ (addrs.map fun addr => (addr, s.landing c addr, s.rd addr)).filter fun x => x.2.1 ≠ 0,
      ∃ l, locate x.1 = some l ∧ l.defn.reg ∈ rs ∧ l.compl = false := by
    intro x hx
    obtain ⟨hx, hn⟩ := List.mem_filter.mp hx
    obtain ⟨a, _, rfl⟩ := List.mem_map.mp hx
    exact landing_some hc (by simpa using hn)
  unfold landWords
  refine Ok.forEach_mem (fun x hx u => ?_) (Ok.forEach_mem (fun x hx u => ?_) Ok.refl)
  · obtain ⟨l, e, hr, _⟩ := key x hx
    rw [e]
    exact (hl _ _ _ _ hr).mono hW
  · obtain ⟨l, e, hr, hcm⟩ := key x hx
    unfold landValue
    exact Ok.via (State.setStaged_ok ..) hS (Ok.via (State.wr_at (locate_at e hcm)) (covered_regs hr) Ok.refl)

theorem landClass_at {c : BufClass} {rs : List RegName} {W : List Part} (hc : classIn c rs = true) (hs : within [.staged] W = true)
    (hl : ∀ l m old u, l.defn.reg ∈ rs → Ok W u (landed l m old u)) (p : Nat → Bool) (s : State) :
    Ok (rs.map .reg ++ W) s (landClass c p s) := by
  unfold landClass
  exact Ok.ite Ok.refl (landWords_at hc hs hl _ s)

theorem landWords_leg (addrs : List Nat) (s : State) : Ok [.reg .CO_BLANK, .reg .CO_CHOPCFG, .reg .CO_DEADT, .reg .CO_DTRIM, .reg .CO_SLEWTGT, .reg .LEG_CFG, .axes, .emcyQ, .encs, .legs, .logQ, .logWin, .reg .AX_BEMFKE, .reg .AX_STALLST, .reg .AX_STAT, .reg .CMP_CFG, .reg .CMP_CNTS, .reg .CMP_COUNT, .reg .CMP_POS, .reg .CMP_STAT, .reg .ENC_STAT, .reg .EV_PEND, .reg .LEG_STAT, .reg .MGS_LOGSTAT, .reg .STEP_STAT, .staged, .trioQ] s (landWords .leg addrs s) :=
  landWords_at (rs := [.CO_BLANK, .CO_CHOPCFG, .CO_DEADT, .CO_DTRIM, .CO_SLEWTGT, .LEG_CFG]) (W := [.axes, .emcyQ, .encs, .legs, .logQ, .logWin, .reg .AX_BEMFKE, .reg .AX_STALLST, .reg .AX_STAT, .reg .CMP_CFG, .reg .CMP_CNTS, .reg .CMP_COUNT, .reg .CMP_POS, .reg .CMP_STAT, .reg .ENC_STAT, .reg .EV_PEND, .reg .LEG_STAT, .reg .MGS_LOGSTAT, .reg .STEP_STAT, .staged, .trioQ]) (by decide +kernel) rfl (fun _ _ _ _ _ => (landed_ok ..).mono rfl) addrs s

theorem landClass_leg (p : Nat → Bool) (s : State) : Ok [.reg .CO_BLANK, .reg .CO_CHOPCFG, .reg .CO_DEADT, .reg .CO_DTRIM, .reg .CO_SLEWTGT, .reg .LEG_CFG, .axes, .emcyQ, .encs, .legs, .logQ, .logWin, .reg .AX_BEMFKE, .reg .AX_STALLST, .reg .AX_STAT, .reg .CMP_CFG, .reg .CMP_CNTS, .reg .CMP_COUNT, .reg .CMP_POS, .reg .CMP_STAT, .reg .ENC_STAT, .reg .EV_PEND, .reg .LEG_STAT, .reg .MGS_LOGSTAT, .reg .STEP_STAT, .staged, .trioQ] s (landClass .leg p s) :=
  landClass_at (rs := [.CO_BLANK, .CO_CHOPCFG, .CO_DEADT, .CO_DTRIM, .CO_SLEWTGT, .LEG_CFG]) (W := [.axes, .emcyQ, .encs, .legs, .logQ, .logWin, .reg .AX_BEMFKE, .reg .AX_STALLST, .reg .AX_STAT, .reg .CMP_CFG, .reg .CMP_CNTS, .reg .CMP_COUNT, .reg .CMP_POS, .reg .CMP_STAT, .reg .ENC_STAT, .reg .EV_PEND, .reg .LEG_STAT, .reg .MGS_LOGSTAT, .reg .STEP_STAT, .staged, .trioQ]) (by decide +kernel) rfl (fun _ _ _ _ _ => (landed_ok ..).mono rfl) p s

theorem landed_period (l : Loc) (m old : Word) (u : State) (h : l.defn.reg ∈ ([.CO_PWMPER] : List RegName)) : Ok [.staged] u (landed l m old u) := by
  have e : landed l m old u = u := by
    unfold landed
    split <;> first | (rename_i e; rw [e] at h; exact absurd h (by decide)) | rfl
  rw [e]
  exact Ok.refl

theorem landWords_period (addrs : List Nat) (s : State) : Ok [.reg .CO_PWMPER, .staged] s (landWords .period addrs s) :=
  landWords_at (rs := [.CO_PWMPER]) (by decide +kernel) rfl landed_period addrs s

theorem landClass_period (p : Nat → Bool) (s : State) : Ok [.reg .CO_PWMPER, .staged] s (landClass .period p s) :=
  landClass_at (rs := [.CO_PWMPER]) (by decide +kernel) rfl landed_period p s

theorem landWords_pwm (addrs : List Nat) (s : State) : Ok [.reg .AX_CS, .reg .AX_DECAY, .axes, .emcyQ, .encs, .legs, .logQ, .logWin, .reg .AX_BEMFKE, .reg .AX_STALLST, .reg .AX_STAT, .reg .CMP_CFG, .reg .CMP_CNTS, .reg .CMP_COUNT, .reg .CMP_POS, .reg .CMP_STAT, .reg .ENC_STAT, .reg .EV_PEND, .reg .LEG_STAT, .reg .MGS_LOGSTAT, .reg .STEP_STAT, .staged, .trioQ] s (landWords .pwm addrs s) :=
  landWords_at (rs := [.AX_CS, .AX_DECAY]) (W := [.axes, .emcyQ, .encs, .legs, .logQ, .logWin, .reg .AX_BEMFKE, .reg .AX_STALLST, .reg .AX_STAT, .reg .CMP_CFG, .reg .CMP_CNTS, .reg .CMP_COUNT, .reg .CMP_POS, .reg .CMP_STAT, .reg .ENC_STAT, .reg .EV_PEND, .reg .LEG_STAT, .reg .MGS_LOGSTAT, .reg .STEP_STAT, .staged, .trioQ]) (by decide +kernel) rfl (fun _ _ _ _ _ => (landed_ok ..).mono rfl) addrs s

theorem landClass_pwm (p : Nat → Bool) (s : State) : Ok [.reg .AX_CS, .reg .AX_DECAY, .axes, .emcyQ, .encs, .legs, .logQ, .logWin, .reg .AX_BEMFKE, .reg .AX_STALLST, .reg .AX_STAT, .reg .CMP_CFG, .reg .CMP_CNTS, .reg .CMP_COUNT, .reg .CMP_POS, .reg .CMP_STAT, .reg .ENC_STAT, .reg .EV_PEND, .reg .LEG_STAT, .reg .MGS_LOGSTAT, .reg .STEP_STAT, .staged, .trioQ] s (landClass .pwm p s) :=
  landClass_at (rs := [.AX_CS, .AX_DECAY]) (W := [.axes, .emcyQ, .encs, .legs, .logQ, .logWin, .reg .AX_BEMFKE, .reg .AX_STALLST, .reg .AX_STAT, .reg .CMP_CFG, .reg .CMP_CNTS, .reg .CMP_COUNT, .reg .CMP_POS, .reg .CMP_STAT, .reg .ENC_STAT, .reg .EV_PEND, .reg .LEG_STAT, .reg .MGS_LOGSTAT, .reg .STEP_STAT, .staged, .trioQ]) (by decide +kernel) rfl (fun _ _ _ _ _ => (landed_ok ..).mono rfl) p s

theorem landed_conv (l : Loc) (m old : Word) (u : State) (h : l.defn.reg ∈ ([.AFE_CFGA, .AFE_CFGB, .AFE_CFGC, .AFE_IEXC, .AFE_RREF, .AFE_TDAC, .AFE_VEXC, .SD_AVG, .SD_CAL_GAIN, .SD_CAL_OFS, .SD_CFG, .SD_DIRECT, .SD_LINDATA, .SD_SEQ0, .SD_SEQ1, .SD_SEQCTL] : List RegName)) : Ok [.staged] u (landed l m old u) := by
  have e : landed l m old u = u := by
    unfold landed
    split <;> first | (rename_i e; rw [e] at h; exact absurd h (by decide)) | rfl
  rw [e]
  exact Ok.refl

theorem landWords_conv (addrs : List Nat) (s : State) : Ok [.reg .AFE_CFGA, .reg .AFE_CFGB, .reg .AFE_CFGC, .reg .AFE_IEXC, .reg .AFE_RREF, .reg .AFE_TDAC, .reg .AFE_VEXC, .reg .SD_AVG, .reg .SD_CAL_GAIN, .reg .SD_CAL_OFS, .reg .SD_CFG, .reg .SD_DIRECT, .reg .SD_LINDATA, .reg .SD_SEQ0, .reg .SD_SEQ1, .reg .SD_SEQCTL, .staged] s (landWords .conv addrs s) :=
  landWords_at (rs := [.AFE_CFGA, .AFE_CFGB, .AFE_CFGC, .AFE_IEXC, .AFE_RREF, .AFE_TDAC, .AFE_VEXC, .SD_AVG, .SD_CAL_GAIN, .SD_CAL_OFS, .SD_CFG, .SD_DIRECT, .SD_LINDATA, .SD_SEQ0, .SD_SEQ1, .SD_SEQCTL]) (by decide +kernel) rfl landed_conv addrs s

theorem landClass_conv (p : Nat → Bool) (s : State) : Ok [.reg .AFE_CFGA, .reg .AFE_CFGB, .reg .AFE_CFGC, .reg .AFE_IEXC, .reg .AFE_RREF, .reg .AFE_TDAC, .reg .AFE_VEXC, .reg .SD_AVG, .reg .SD_CAL_GAIN, .reg .SD_CAL_OFS, .reg .SD_CFG, .reg .SD_DIRECT, .reg .SD_LINDATA, .reg .SD_SEQ0, .reg .SD_SEQ1, .reg .SD_SEQCTL, .staged] s (landClass .conv p s) :=
  landClass_at (rs := [.AFE_CFGA, .AFE_CFGB, .AFE_CFGC, .AFE_IEXC, .AFE_RREF, .AFE_TDAC, .AFE_VEXC, .SD_AVG, .SD_CAL_GAIN, .SD_CAL_OFS, .SD_CFG, .SD_DIRECT, .SD_LINDATA, .SD_SEQ0, .SD_SEQ1, .SD_SEQCTL]) (by decide +kernel) rfl landed_conv p s

theorem landed_window (l : Loc) (m old : Word) (u : State) (h : l.defn.reg ∈ ([.TRIO_CFG] : List RegName)) : Ok [.staged] u (landed l m old u) := by
  have e : landed l m old u = u := by
    unfold landed
    split <;> first | (rename_i e; rw [e] at h; exact absurd h (by decide)) | rfl
  rw [e]
  exact Ok.refl

theorem landWords_window (addrs : List Nat) (s : State) : Ok [.reg .TRIO_CFG, .staged] s (landWords .window addrs s) :=
  landWords_at (rs := [.TRIO_CFG]) (by decide +kernel) rfl landed_window addrs s

theorem landClass_window (p : Nat → Bool) (s : State) : Ok [.reg .TRIO_CFG, .staged] s (landClass .window p s) :=
  landClass_at (rs := [.TRIO_CFG]) (by decide +kernel) rfl landed_window p s

theorem landed_frame (l : Loc) (m old : Word) (u : State) (h : l.defn.reg ∈ ([.NET_DBT, .NET_GUARD, .NET_HBACT, .NET_NBT, .NET_NODE] : List RegName)) : Ok [.staged] u (landed l m old u) := by
  have e : landed l m old u = u := by
    unfold landed
    split <;> first | (rename_i e; rw [e] at h; exact absurd h (by decide)) | rfl
  rw [e]
  exact Ok.refl

theorem landWords_frame (addrs : List Nat) (s : State) : Ok [.reg .NET_DBT, .reg .NET_GUARD, .reg .NET_HBACT, .reg .NET_NBT, .reg .NET_NODE, .staged] s (landWords .frame addrs s) :=
  landWords_at (rs := [.NET_DBT, .NET_GUARD, .NET_HBACT, .NET_NBT, .NET_NODE]) (by decide +kernel) rfl landed_frame addrs s

theorem landClass_frame (p : Nat → Bool) (s : State) : Ok [.reg .NET_DBT, .reg .NET_GUARD, .reg .NET_HBACT, .reg .NET_NBT, .reg .NET_NODE, .staged] s (landClass .frame p s) :=
  landClass_at (rs := [.NET_DBT, .NET_GUARD, .NET_HBACT, .NET_NBT, .NET_NODE]) (by decide +kernel) rfl landed_frame p s

theorem landed_hostFrame (l : Loc) (m old : Word) (u : State) (h : l.defn.reg ∈ ([.SPH_CFG] : List RegName)) : Ok [.staged] u (landed l m old u) := by
  have e : landed l m old u = u := by
    unfold landed
    split <;> first | (rename_i e; rw [e] at h; exact absurd h (by decide)) | rfl
  rw [e]
  exact Ok.refl

theorem landWords_hostFrame (addrs : List Nat) (s : State) : Ok [.reg .SPH_CFG, .staged] s (landWords .hostFrame addrs s) :=
  landWords_at (rs := [.SPH_CFG]) (by decide +kernel) rfl landed_hostFrame addrs s

theorem landClass_hostFrame (p : Nat → Bool) (s : State) : Ok [.reg .SPH_CFG, .staged] s (landClass .hostFrame p s) :=
  landClass_at (rs := [.SPH_CFG]) (by decide +kernel) rfl landed_hostFrame p s

theorem landed_memIdle (l : Loc) (m old : Word) (u : State) (h : l.defn.reg ∈ ([.SPM_CFG, .SPM_CLK, .SPM_XOFS] : List RegName)) : Ok [.staged] u (landed l m old u) := by
  have e : landed l m old u = u := by
    unfold landed
    split <;> first | (rename_i e; rw [e] at h; exact absurd h (by decide)) | rfl
  rw [e]
  exact Ok.refl

theorem landWords_memIdle (addrs : List Nat) (s : State) : Ok [.reg .SPM_CFG, .reg .SPM_CLK, .reg .SPM_XOFS, .staged] s (landWords .memIdle addrs s) :=
  landWords_at (rs := [.SPM_CFG, .SPM_CLK, .SPM_XOFS]) (by decide +kernel) rfl landed_memIdle addrs s

theorem landClass_memIdle (p : Nat → Bool) (s : State) : Ok [.reg .SPM_CFG, .reg .SPM_CLK, .reg .SPM_XOFS, .staged] s (landClass .memIdle p s) :=
  landClass_at (rs := [.SPM_CFG, .SPM_CLK, .SPM_XOFS]) (by decide +kernel) rfl landed_memIdle p s

theorem landWords_ok : ∀ x0 x1 s, Ok [.regs, .staged, .trioQ, .emcyQ, .logQ, .logWin, .legs, .axes, .encs] s (@landWords x0 x1 s) := by
  intro x0 x1 s
  delta landWords
  extract_lets +onlyGivenNames -merge -useContext s0
  clear_value s0
  extract_lets +onlyGivenNames -merge -useContext s1
  refine Ok.withS (x := s1) ?_ fun h4 => ?_
  · unfold s1
    refine Ok.forEach ?_ ?_
    · intro a2 a3
      refine Ok.via (landValue_ok ..) rfl ?_
      exact Ok.refl
    · exact Ok.refl
  clear_value s1
  refine Ok.forEach ?_ ?_
  · intro a5 a6
    split
    · exact Ok.refl
    · refine Ok.via (landed_ok ..) rfl ?_
      exact Ok.refl
  · exact h4

theorem landClass_ok : ∀ x0 x1 s, Ok [.regs, .staged, .trioQ, .emcyQ, .logQ, .logWin, .legs, .axes, .encs] s (@landClass x0 x1 s) := by
  intro x0 x1 s
  delta landClass
  refine Ok.ite ?_ ?_
  · exact Ok.refl
  · refine Ok.via (landWords_ok ..) rfl ?_
    exact Ok.refl

theorem landLegs_ok : ∀ x0 s, Ok (.staged :: .trioQ :: .emcyQ :: .logQ :: .logWin :: .legs :: .axes :: .encs :: .reg .AX_BEMFKE :: .reg .AX_STALLST :: .reg .AX_STAT :: .reg .CMP_CFG :: .reg .CMP_CNTS :: .reg .CMP_COUNT :: .reg .CMP_POS :: .reg .CMP_STAT :: .reg .CO_BLANK :: .reg .CO_CHOPCFG :: .reg .CO_DEADT :: .reg .CO_DTRIM :: .reg .CO_PWMPER :: .reg .CO_SLEWTGT :: .reg .ENC_STAT :: .reg .EV_PEND :: .reg .LEG_CFG :: .reg .LEG_STAT :: .reg .MGS_LOGSTAT :: .reg .STEP_STAT :: []) s (@landLegs x0 s) := by
  intro x0 s
  delta landLegs
  extract_lets +onlyGivenNames -merge -useContext s0
  clear_value s0
  refine Ok.via (landClass_period ..) rfl ?_
  refine Ok.via (landClass_leg ..) rfl ?_
  exact Ok.refl

theorem landPwm_ok : ∀ x0 s, Ok (.staged :: .trioQ :: .emcyQ :: .logQ :: .logWin :: .legs :: .axes :: .encs :: .reg .AX_BEMFKE :: .reg .AX_CS :: .reg .AX_DECAY :: .reg .AX_STALLST :: .reg .AX_STAT :: .reg .CMP_CFG :: .reg .CMP_CNTS :: .reg .CMP_COUNT :: .reg .CMP_POS :: .reg .CMP_STAT :: .reg .ENC_STAT :: .reg .EV_PEND :: .reg .LEG_STAT :: .reg .MGS_LOGSTAT :: .reg .STEP_STAT :: []) s (@landPwm x0 s) := by
  intro x0 s
  delta landPwm
  refine Ok.via (landClass_pwm ..) rfl ?_
  exact Ok.refl

theorem landAxis_ok : ∀ s, Ok [.regs, .staged, .trioQ, .emcyQ, .logQ, .logWin, .legs, .axes, .encs] s (@landAxis s) := by
  intro s
  delta landAxis
  refine Ok.via (landClass_ok ..) rfl ?_
  exact Ok.refl

theorem snapWords_ok : ∀ x0 s, Ok [.snap] s (@snapWords x0 s) := by
  intro x0 s
  delta snapWords
  refine Ok.forEach ?_ ?_
  · intro a0 a1
    refine Ok.via (Ok.snap ?_) rfl ?_
    · exact fun h => Sparse.wf_set h
    exact Ok.refl
  · exact Ok.refl

end Sys2Proof.Machine
end

