-- ==== Sys2Proof/Laws/OkAfeOps.lean ====
section
/-!
SUPPORT. Laws/OkAfeOps.lean: for each operation of Machine/AfeOps.lean, the parts of the state it can change, and that it keeps a
good state good.
-/

namespace Sys2Proof.Machine

set_option Elab.async false

theorem State.modSd_ok {s : State} {d : Nat} {f : SdMod → SdMod} (h : ∀ x : SdMod, x.good → (f x).good) :
    Ok [.sds] s (s.modSd d f) := by
  refine Ok.sds fun g1 g2 => ⟨Sparse.wf_modify g1, fun y hy => ?_⟩
  rcases Sparse.mem_set hy with rfl | hy
  · refine h _ ?_
    rcases Sparse.get_mem_or (d := fun _ => ({} : SdMod)) (m := s.sds) (k := d) with hm | hm
    · exact g2 _ hm
    · rw [hm]
      exact ⟨rfl, rfl, rfl, rfl⟩
  · exact g2 y hy

theorem State.modAfe_ok {s : State} {f : Afe → Afe} (h : ∀ x : Afe, x.good → (f x).good) : Ok [.afe] s (s.modAfe f) :=
  Ok.afe (h _)

/-- The same where the new value is good because the whole state is. -/
theorem State.modAfe_good {s : State} {f : Afe → Afe} (h : Good s → (f s.afe).good) : Ok [.afe] s (s.modAfe f) := by
  refine ⟨⟨fun q hq => ?_, .inr fun _ _ => rfl⟩, fun g => { g with afe := h g }⟩
  cases q <;> first | rfl | trivial

theorem sdStatus_ok : ∀ x0 s, Ok [.sds, .reg .SD_STAT] s (@sdStatus x0 s) := by
  intro x0 s
  delta sdStatus
  extract_lets +onlyGivenNames -merge -useContext s0
  clear_value s0
  extract_lets +onlyGivenNames -merge -useContext s1
  clear_value s1
  extract_lets +onlyGivenNames -merge -useContext s2
  refine Ok.withS (x := s2) ?_ fun h3 => ?_
  · unfold s2
    refine Ok.via (State.modSd_ok ?_) rfl ?_
    · exact fun _ h => ⟨h.1, h.2.1, h.2.2.1, h.2.2.2⟩
    exact Ok.refl
  clear_value s2
  extract_lets +onlyGivenNames -merge -useContext s4
  refine Ok.withS (x := s4) ?_ fun h5 => ?_
  · unfold s4
    refine Ok.via (State.putB_at (at_SD_STAT _)) rfl ?_
    exact h3
  clear_value s4
  extract_lets +onlyGivenNames -merge -useContext s6
  refine Ok.withS (x := s6) ?_ fun h7 => ?_
  · unfold s6
    refine Ok.via (State.putB_at (at_SD_STAT _)) rfl ?_
    exact h5
  clear_value s6
  refine Ok.via (State.putB_at (at_SD_STAT _)) rfl ?_
  exact h7

theorem State.setOnTimes_ok : ∀ s x1 x2, Ok [.afe] s (@State.setOnTimes s x1 x2) := by
  intro s x1 x2
  delta State.setOnTimes
  refine Ok.via (State.modAfe_ok ?_) rfl ?_
  · intro _ h
    split
    · exact ⟨h.1, h.2.1, h.2.2.1, h.2.2.2⟩
    · exact ⟨h.1, h.2.1, h.2.2.1, h.2.2.2⟩
  exact Ok.refl

theorem noteOn_ok : ∀ x0 x1 x2 x3 s, Ok [.afe] s (@noteOn x0 x1 x2 x3 s) := by
  intro x0 x1 x2 x3 s
  delta noteOn
  refine Ok.forEach ?_ ?_
  · intro a0 a1
    refine Ok.via (State.setOnTimes_ok ..) rfl ?_
    exact Ok.refl
  · exact Ok.refl

theorem momentOf_ok : ∀ x0 s, OkP [.free] s (@momentOf x0 s) := by
  intro x0 s
  delta momentOf
  split
  · refine OkP.mk ?_
    exact Ok.refl
  · split
    · rename_i t0 e1
      refine OkP.withS (x := t0) (OkP.of_eq e1 ?_) fun h2 => ?_
      · refine OkP.via (State.fresh_ok ..) rfl ?_
        exact Ok.refl
      refine OkP.mk ?_
      exact h2

theorem cutOn_ok : ∀ x0 x1 s, Ok [.free, .afe] s (@cutOn x0 x1 s) := by
  intro x0 x1 s
  delta cutOn
  split
  · exact Ok.refl
  · extract_lets +onlyGivenNames -merge -useContext s0
    clear_value s0
    refine Ok.ite ?_ ?_
    · exact Ok.refl
    · split
      · rename_i t1 e2
        refine Ok.withS (x := t1) (OkP.of_eq e2 ?_) fun h3 => ?_
        · refine OkP.via (momentOf_ok ..) rfl ?_
          exact Ok.refl
        extract_lets +onlyGivenNames -merge -useContext s4
        clear_value s4
        refine Ok.via (State.modAfe_ok ?_) rfl ?_
        · exact fun _ h => ⟨h.1, h.2.1, h.2.2.1, h.2.2.2⟩
        exact h3

theorem sharedLand_ok : ∀ s, Ok [.staged, .reg .AFE_CFGA, .reg .AFE_CFGB, .reg .AFE_CFGC, .reg .AFE_IEXC, .reg .AFE_RREF, .reg .AFE_STAT, .reg .AFE_TDAC, .reg .AFE_VEXC, .reg .SD_AVG, .reg .SD_CAL_GAIN, .reg .SD_CAL_OFS, .reg .SD_CFG, .reg .SD_DIRECT, .reg .SD_LINDATA, .reg .SD_SEQ0, .reg .SD_SEQ1, .reg .SD_SEQCTL] s (@sharedLand s) := by
  intro s
  delta sharedLand
  extract_lets +onlyGivenNames -merge -useContext s0
  refine Ok.withS (x := s0) ?_ fun h3 => ?_
  · unfold s0
    refine Ok.forEach ?_ ?_
    · intro a1 a2
      refine Ok.ite ?_ ?_
      · refine Ok.via (landWords_conv ..) rfl ?_
        exact Ok.refl
      · exact Ok.refl
    · exact Ok.refl
  clear_value s0
  refine Ok.via (State.putB_at (at_AFE_STAT)) rfl ?_
  exact h3

theorem sdEndRegular_ok : ∀ x0 s, Ok (.staged :: .free :: .sds :: .afe :: .reg .AFE_CFGA :: .reg .AFE_CFGB :: .reg .AFE_CFGC :: .reg .AFE_IEXC :: .reg .AFE_RREF :: .reg .AFE_STAT :: .reg .AFE_TDAC :: .reg .AFE_VEXC :: .reg .SD_AVG :: .reg .SD_CAL_GAIN :: .reg .SD_CAL_OFS :: .reg .SD_CFG :: .reg .SD_DIRECT :: .reg .SD_LINDATA :: .reg .SD_SEQ0 :: .reg .SD_SEQ1 :: .reg .SD_SEQCTL :: .reg .SD_STAT :: []) s (@sdEndRegular x0 s) := by
  intro x0 s
  delta sdEndRegular
  extract_lets +onlyGivenNames -merge -useContext s0
  clear_value s0
  extract_lets +onlyGivenNames -merge -useContext s1
  clear_value s1
  extract_lets +onlyGivenNames -merge -useContext s2
  refine Ok.withS (x := s2) ?_ fun h4 => ?_
  · unfold s2
    refine Ok.applyIf ?_ ?_
    · intro a3
      refine Ok.via (cutOn_ok ..) rfl ?_
      exact Ok.refl
    · exact Ok.refl
  clear_value s2
  extract_lets +onlyGivenNames -merge -useContext s5
  refine Ok.withS (x := s5) ?_ fun h6 => ?_
  · unfold s5
    refine Ok.via (State.modSd_ok ?_) rfl ?_
    · exact fun _ h => ⟨rfl, h.2.1, h.2.2.1, h.2.2.2⟩
    exact h4
  clear_value s5
  extract_lets +onlyGivenNames -merge -useContext s7
  refine Ok.withS (x := s7) ?_ fun h8 => ?_
  · unfold s7
    refine Ok.via (State.put_at (at_SD_STAT _)) rfl ?_
    refine Ok.via (State.put_at (at_SD_STAT _)) rfl ?_
    refine Ok.via (State.put_at (at_SD_STAT _)) rfl ?_
    exact h6
  clear_value s7
  refine Ok.via (sharedLand_ok ..) rfl ?_
  refine Ok.via (sdStatus_ok ..) rfl ?_
  exact h8

theorem sdLand_ok : ∀ x0 s, OkP (.staged :: .free :: .sds :: .afe :: .reg .AFE_CFGA :: .reg .AFE_CFGB :: .reg .AFE_CFGC :: .reg .AFE_IEXC :: .reg .AFE_RREF :: .reg .AFE_STAT :: .reg .AFE_TDAC :: .reg .AFE_VEXC :: .reg .SD_AVG :: .reg .SD_CAL_GAIN :: .reg .SD_CAL_OFS :: .reg .SD_CFG :: .reg .SD_DIRECT :: .reg .SD_LINDATA :: .reg .SD_SEQ0 :: .reg .SD_SEQ1 :: .reg .SD_SEQCTL :: .reg .SD_STAT :: []) s (@sdLand x0 s) := by
  intro x0 s
  delta sdLand
  extract_lets +onlyGivenNames -merge -useContext s0
  clear_value s0
  extract_lets +onlyGivenNames -merge -useContext s1
  clear_value s1
  extract_lets +onlyGivenNames -merge -useContext s2
  clear_value s2
  extract_lets +onlyGivenNames -merge -useContext s3
  refine OkP.withS (x := s3) ?_ fun h4 => ?_
  · unfold s3
    refine Ok.via (landClass_conv ..) rfl ?_
    exact Ok.refl
  clear_value s3
  extract_lets +onlyGivenNames -merge -useContext s5
  refine OkP.withS (x := s5) ?_ fun h7 => ?_
  · unfold s5
    refine Ok.applyIf ?_ ?_
    · intro a6
      refine Ok.via (State.modSd_ok ?_) rfl ?_
      · exact fun _ h => ⟨rfl, h.2.1, h.2.2.1, h.2.2.2⟩
      exact Ok.refl
    · exact h4
  clear_value s5
  refine OkP.ite ?_ ?_
  · refine OkP.mk ?_
    exact h7
  · extract_lets +onlyGivenNames -merge -useContext s8
    refine OkP.withS (x := s8) ?_ fun h9 => ?_
    · unfold s8
      refine Ok.via (State.modSd_ok ?_) rfl ?_
      · exact fun _ h => ⟨h.1, h.2.1, h.2.2.1, h.2.2.2⟩
      refine Ok.via (sdEndRegular_ok ..) rfl ?_
      exact h7
    clear_value s8
    refine OkP.mk ?_
    refine Ok.via (sdStatus_ok ..) rfl ?_
    exact h9

theorem cfgNote_ok : ∀ x0 x1 s, Ok [.sds] s (@cfgNote x0 x1 s) := by
  intro x0 x1 s
  delta cfgNote
  refine Ok.forEach ?_ ?_
  · intro a0 a1
    extract_lets +onlyGivenNames -merge -useContext s2
    clear_value s2
    split
    · exact Ok.refl
    · refine Ok.via (State.modSd_ok ?_) rfl ?_
      · intro _ h
        dsimp only [SdMod.good]
        exact ⟨h.1, h.2.1, h.2.2.1, Sparse.wf_set h.2.2.2⟩
      exact Ok.refl
  · exact Ok.refl

theorem cfgLand_ok : ∀ x0 x1 s, Ok [.sds] s (@cfgLand x0 x1 s) := by
  intro x0 x1 s
  delta cfgLand
  refine Ok.ite ?_ ?_
  · exact Ok.refl
  · extract_lets +onlyGivenNames -merge -useContext s0
    clear_value s0
    extract_lets +onlyGivenNames -merge -useContext s1
    clear_value s1
    extract_lets +onlyGivenNames -merge -useContext s2
    clear_value s2
    extract_lets +onlyGivenNames -merge -useContext s3
    refine Ok.withS (x := s3) ?_ fun h4 => ?_
    · unfold s3
      refine Ok.via (State.modSd_ok ?_) rfl ?_
      · intro _ h
        dsimp only [SdMod.good]
        exact ⟨h.1, h.2.1, h.2.2.1, Sparse.wf_set h.2.2.2⟩
      exact Ok.refl
    clear_value s3
    refine Ok.ite ?_ ?_
    · exact h4
    · refine Ok.via (State.modSd_ok ?_) rfl ?_
      · intro _ h
        dsimp only [SdMod.good]
        exact ⟨h.1, Sparse.wf_filter _ h.2.1, h.2.2.1, h.2.2.2⟩
      exact h4

theorem setGain_ok : ∀ x0 x1 x2 s, Ok [.sds] s (@setGain x0 x1 x2 s) := by
  intro x0 x1 x2 s
  delta setGain
  refine Ok.via (State.modSd_ok ?_) rfl ?_
  · intro _ h
    dsimp only [SdMod.good]
    exact ⟨h.1, Sparse.wf_set h.2.1, h.2.2.1, h.2.2.2⟩
  exact Ok.refl

theorem sdPassEnd_ok : ∀ x0 s, Ok [.sds, .reg .SD_STAT] s (@sdPassEnd x0 s) := by
  intro x0 s
  delta sdPassEnd
  extract_lets +onlyGivenNames -merge -useContext s0
  refine Ok.withS (x := s0) ?_ fun h1 => ?_
  · unfold s0
    refine Ok.via (State.put_at (at_SD_STAT _)) rfl ?_
    exact Ok.refl
  clear_value s0
  split
  · exact h1
  · refine Ok.via (State.put_at (at_SD_STAT _)) rfl ?_
    refine Ok.via (State.modSd_ok ?_) rfl ?_
    · exact fun _ h => ⟨h.1, h.2.1, h.2.2.1, h.2.2.2⟩
    exact h1
  · refine Ok.via (State.modSd_ok ?_) rfl ?_
    · exact fun _ h => ⟨h.1, h.2.1, h.2.2.1, h.2.2.2⟩
    exact h1

theorem sdNextSlot_ok : ∀ x0 x1 s, Ok [.sds, .reg .SD_STAT] s (@sdNextSlot x0 x1 s) := by
  intro x0 x1 s
  delta sdNextSlot
  refine Ok.ite ?_ ?_
  · refine Ok.via (sdPassEnd_ok ..) rfl ?_
    exact Ok.refl
  · refine Ok.ite ?_ ?_
    · refine Ok.via (sdPassEnd_ok ..) rfl ?_
      exact Ok.refl
    · refine Ok.via (State.put_at (at_SD_STAT _)) rfl ?_
      exact Ok.refl

theorem sdBegin_ok : ∀ x0 s, Ok [.sds, .reg .SD_STAT] s (@sdBegin x0 s) := by
  intro x0 s
  delta sdBegin
  extract_lets +onlyGivenNames -merge -useContext s0
  refine Ok.withS (x := s0) ?_ fun h1 => ?_
  · unfold s0
    refine Ok.via (State.put_at (at_SD_STAT _)) rfl ?_
    refine Ok.via (State.put_at (at_SD_STAT _)) rfl ?_
    exact Ok.refl
  clear_value s0
  refine Ok.via (State.modSd_ok ?_) rfl ?_
  · exact fun _ h => ⟨h.1, h.2.1, h.2.2.1, h.2.2.2⟩
  exact h1

theorem sdAbort_ok : ∀ x0 x1 s, Ok (.staged :: .free :: .sds :: .afe :: .reg .AFE_CFGA :: .reg .AFE_CFGB :: .reg .AFE_CFGC :: .reg .AFE_IEXC :: .reg .AFE_RREF :: .reg .AFE_STAT :: .reg .AFE_TDAC :: .reg .AFE_VEXC :: .reg .SD_AVG :: .reg .SD_CAL_GAIN :: .reg .SD_CAL_OFS :: .reg .SD_CFG :: .reg .SD_DIRECT :: .reg .SD_LINDATA :: .reg .SD_SEQ0 :: .reg .SD_SEQ1 :: .reg .SD_SEQCTL :: .reg .SD_STAT :: []) s (@sdAbort x0 x1 s) := by
  intro x0 x1 s
  delta sdAbort
  refine Ok.ite ?_ ?_
  · refine Ok.via (State.modSd_ok ?_) rfl ?_
    · exact fun _ h => ⟨h.1, h.2.1, h.2.2.1, h.2.2.2⟩
    exact Ok.refl
  · extract_lets +onlyGivenNames -merge -useContext s0
    refine Ok.withS (x := s0) ?_ fun h1 => ?_
    · unfold s0
      refine Ok.via (State.modSd_ok ?_) rfl ?_
      · exact fun _ h => ⟨h.1, h.2.1, h.2.2.1, h.2.2.2⟩
      refine Ok.via (cutOn_ok ..) rfl ?_
      exact Ok.refl
    clear_value s0
    refine Ok.via (sharedLand_ok ..) rfl ?_
    refine Ok.via (sdStatus_ok ..) rfl ?_
    exact h1

theorem sdDeferred_ok : ∀ x0 s, Ok (.staged :: .free :: .sds :: .afe :: .reg .AFE_CFGA :: .reg .AFE_CFGB :: .reg .AFE_CFGC :: .reg .AFE_IEXC :: .reg .AFE_RREF :: .reg .AFE_STAT :: .reg .AFE_TDAC :: .reg .AFE_VEXC :: .reg .SD_AVG :: .reg .SD_CAL_GAIN :: .reg .SD_CAL_OFS :: .reg .SD_CFG :: .reg .SD_DIRECT :: .reg .SD_LINDATA :: .reg .SD_SEQ0 :: .reg .SD_SEQ1 :: .reg .SD_SEQCTL :: .reg .SD_STAT :: []) s (@sdDeferred x0 s) := by
  intro x0 s
  delta sdDeferred
  refine Ok.ite ?_ ?_
  · extract_lets +onlyGivenNames -merge -useContext s0
    refine Ok.withS (x := s0) ?_ fun h1 => ?_
    · unfold s0
      refine OkP.snd ?_
      refine OkP.via (sdLand_ok ..) rfl ?_
      refine Ok.via (sdAbort_ok ..) rfl ?_
      exact Ok.refl
    clear_value s0
    refine Ok.via (sdBegin_ok ..) rfl ?_
    refine Ok.via (State.modSd_ok ?_) rfl ?_
    · exact fun _ h => ⟨rfl, h.2.1, h.2.2.1, h.2.2.2⟩
    exact h1
  · exact Ok.refl

theorem autoRange_ok : ∀ x0 x1 s, Ok [.trioQ, .emcyQ, .logQ, .logWin, .sds, .reg .EV_PEND, .reg .MGS_LOGSTAT, .reg .SD_CNT] s (@autoRange x0 x1 s) := by
  intro x0 x1 s
  delta autoRange
  refine Ok.ite ?_ ?_
  · exact Ok.refl
  · extract_lets +onlyGivenNames -merge -useContext s0
    clear_value s0
    extract_lets +onlyGivenNames -merge -useContext s1
    clear_value s1
    refine Ok.ite ?_ ?_
    · refine Ok.via (setGain_ok ..) rfl ?_
      exact Ok.refl
    · extract_lets +onlyGivenNames -merge -useContext s2
      clear_value s2
      extract_lets +onlyGivenNames -merge -useContext s3
      clear_value s3
      extract_lets +onlyGivenNames -merge -useContext s4
      clear_value s4
      extract_lets +onlyGivenNames -merge -useContext s5
      clear_value s5
      refine Ok.ite ?_ ?_
      · exact Ok.refl
      · refine Ok.via (pendSrc_ok ..) rfl ?_
        refine Ok.via (State.inc_at (at_SD_CNT _)) rfl ?_
        refine Ok.via (setGain_ok ..) rfl ?_
        exact Ok.refl

theorem toWitnesses_ok : ∀ x0 x1 s, Ok (.trioQ :: .emcyQ :: .logQ :: .logWin :: .coaches :: .axes :: .pl :: .reg .AXALERT :: .reg .AXEN :: .reg .AX_ACC :: .reg .AX_CHAINST :: .reg .AX_EPFS :: .reg .AX_EVT :: .reg .AX_FLTSTAT :: .reg .AX_HOMEST :: .reg .AX_MOVEEN :: .reg .AX_SSTAT :: .reg .AX_STALLST :: .reg .AX_STAT :: .reg .AX_USTAT :: .reg .AX_VEL :: .reg .AX_WITOFS_HI :: .reg .AX_WITOFS_LO :: .reg .AX_WITST :: .reg .EV_AXDONE :: .reg .EV_PEND :: .reg .GCTL_PARERR :: .reg .MGS_LOGSTAT :: .reg .PL_ENERGY_HI :: .reg .PL_ENERGY_LO :: .reg .PL_EVINFO :: .reg .PL_MAKESPAN :: .reg .PL_RES :: .reg .PL_RES_EACT :: .reg .PL_RES_END :: .reg .PL_STAT :: []) s (@toWitnesses x0 x1 s) := by
  intro x0 x1 s
  delta toWitnesses
  refine Ok.ite ?_ ?_
  · exact Ok.refl
  · refine Ok.forEach ?_ ?_
    · intro a0 a1
      refine Ok.ite ?_ ?_
      · refine Ok.ite ?_ ?_
        · refine Ok.via (witInvalid_ok ..) rfl ?_
          exact Ok.refl
        · refine Ok.via (witCheck_ok ..) rfl ?_
          exact Ok.refl
      · exact Ok.refl
    · exact Ok.refl

theorem landResult_ok : ∀ x0 x1 s, Ok (.trioQ :: .emcyQ :: .logQ :: .logWin :: .coaches :: .axes :: .pl :: .sds :: .reg .AXALERT :: .reg .AXEN :: .reg .AX_ACC :: .reg .AX_CHAINST :: .reg .AX_EPFS :: .reg .AX_EVT :: .reg .AX_FLTSTAT :: .reg .AX_HOMEST :: .reg .AX_MOVEEN :: .reg .AX_SSTAT :: .reg .AX_STALLST :: .reg .AX_STAT :: .reg .AX_USTAT :: .reg .AX_VEL :: .reg .AX_WITOFS_HI :: .reg .AX_WITOFS_LO :: .reg .AX_WITST :: .reg .EV_AXDONE :: .reg .EV_PEND :: .reg .GCTL_PARERR :: .reg .MGS_LOGSTAT :: .reg .PL_ENERGY_HI :: .reg .PL_ENERGY_LO :: .reg .PL_EVINFO :: .reg .PL_MAKESPAN :: .reg .PL_RES :: .reg .PL_RES_EACT :: .reg .PL_RES_END :: .reg .PL_STAT :: .reg .SD_CNT :: .reg .SD_INJRESINFO :: .reg .SD_INJRESULT :: .reg .SD_RESINFO :: .reg .SD_RESULT :: .reg .SD_STAT :: []) s (@landResult x0 x1 s) := by
  intro x0 x1 s
  delta landResult
  extract_lets +onlyGivenNames -merge -useContext s0
  clear_value s0
  extract_lets +onlyGivenNames -merge -useContext s1
  clear_value s1
  extract_lets +onlyGivenNames -merge -useContext s2
  clear_value s2
  extract_lets +onlyGivenNames -merge -useContext s3
  clear_value s3
  extract_lets +onlyGivenNames -merge -useContext s4 s5 s6
  refine Ok.withS (x := s6) ?_ fun h7 => ?_
  · unfold s6
    refine Ok.ite ?_ ?_
    · refine Ok.via (State.wr_at (at_SD_INJRESINFO _)) rfl ?_
      refine Ok.via (State.wr_at (at_SD_INJRESULT _)) rfl ?_
      exact Ok.refl
    · refine Ok.via (State.wr_at (at_SD_RESINFO _)) rfl ?_
      refine Ok.via (State.wr_at (at_SD_RESULT _)) rfl ?_
      exact Ok.refl
  clear_value s4 s5 s6
  extract_lets +onlyGivenNames -merge -useContext s8
  refine Ok.withS (x := s8) ?_ fun h9 => ?_
  · unfold s8
    refine Ok.via (State.modSd_ok ?_) rfl ?_
    · intro _ h
      split
      · exact ⟨h.1, h.2.1, h.2.2.1, h.2.2.2⟩
      · exact ⟨h.1, h.2.1, h.2.2.1, h.2.2.2⟩
    exact h7
  clear_value s8
  extract_lets +onlyGivenNames -merge -useContext s10
  refine Ok.withS (x := s10) ?_ fun h12 => ?_
  · unfold s10
    refine Ok.applyIf ?_ ?_
    · intro a11
      refine Ok.via (pendSrc_ok ..) rfl ?_
      refine Ok.via (State.inc_at (at_SD_CNT _)) rfl ?_
      refine Ok.via (State.put_at2 (at_SD_STAT _) (at_SD_STAT _)) rfl ?_
      exact Ok.refl
    · exact h9
  clear_value s10
  extract_lets +onlyGivenNames -merge -useContext s13
  refine Ok.withS (x := s13) ?_ fun h14 => ?_
  · unfold s13
    refine Ok.via (pendSrc_ok ..) rfl ?_
    exact h12
  clear_value s13
  extract_lets +onlyGivenNames -merge -useContext s15 s16
  refine Ok.withS (x := s15) ?_ fun h17 => ?_
  · unfold s15
    refine Ok.via (State.modSd_ok ?_) rfl ?_
    · exact fun _ h => ⟨h.1, h.2.1, h.2.2.1, h.2.2.2⟩
    exact h14
  refine Ok.withS (x := s16) ?_ fun h18 => ?_
  · unfold s16
    refine Ok.ite ?_ ?_
    · refine Ok.via (toWitnesses_ok ..) rfl ?_
      exact h17
    · exact h14
  clear_value s15 s16
  refine Ok.via (autoRange_ok ..) rfl ?_
  exact h18

theorem resultLand_ok : ∀ x0 s, Ok [.regs, .staged, .free, .trioQ, .emcyQ, .logQ, .logWin, .coaches, .axes, .pl, .sds, .afe] s (@resultLand x0 s) := by
  intro x0 s
  delta resultLand
  split
  · exact Ok.refl
  · extract_lets +onlyGivenNames -merge -useContext s0
    refine Ok.withS (x := s0) ?_ fun h1 => ?_
    · unfold s0
      refine Ok.via (landResult_ok ..) rfl ?_
      refine Ok.via (State.modSd_ok ?_) rfl ?_
      · exact fun _ h => ⟨h.1, h.2.1, h.2.2.1, h.2.2.2⟩
      exact Ok.refl
    clear_value s0
    refine Ok.via (sdDeferred_ok ..) rfl ?_
    refine Ok.via (sdStatus_ok ..) rfl ?_
    exact h1

theorem accumulate_ok : ∀ x0 x1 x2 x3 x4 s, OkP [.sds] s (@accumulate x0 x1 x2 x3 x4 s) := by
  intro x0 x1 x2 x3 x4 s
  delta accumulate
  extract_lets +onlyGivenNames -merge -useContext s0
  clear_value s0
  extract_lets +onlyGivenNames -merge -useContext s1
  clear_value s1
  refine OkP.ite ?_ ?_
  · refine OkP.mk ?_
    exact Ok.refl
  · extract_lets +onlyGivenNames -merge -useContext s2
    clear_value s2
    extract_lets +onlyGivenNames -merge -useContext s3
    clear_value s3
    extract_lets +onlyGivenNames -merge -useContext s4
    clear_value s4
    extract_lets +onlyGivenNames -merge -useContext s5
    clear_value s5
    refine OkP.ite ?_ ?_
    · refine OkP.mk ?_
      refine Ok.via (State.modSd_ok ?_) rfl ?_
      · intro _ h
        dsimp only [SdMod.good]
        exact ⟨Sparse.wf_set h.1, h.2.1, h.2.2.1, h.2.2.2⟩
      exact Ok.refl
    · extract_lets +onlyGivenNames -merge -useContext s6
      clear_value s6
      extract_lets +onlyGivenNames -merge -useContext s7
      clear_value s7
      extract_lets +onlyGivenNames -merge -useContext s8
      clear_value s8
      refine OkP.mk ?_
      refine Ok.via (State.modSd_ok ?_) rfl ?_
      · intro _ h
        dsimp only [SdMod.good]
        exact ⟨Sparse.wf_set h.1, h.2.1, h.2.2.1, h.2.2.2⟩
      exact Ok.refl

theorem leadStep_ok : ∀ x0 x1 x2 x3 s, Ok [.sds] s (@leadStep x0 x1 x2 x3 s) := by
  intro x0 x1 x2 x3 s
  delta leadStep
  refine Ok.ite ?_ ?_
  · exact Ok.refl
  · refine Ok.via (State.modSd_ok ?_) rfl ?_
    · intro _ h
      dsimp only [SdMod.good]
      exact ⟨h.1, h.2.1, Sparse.wf_set h.2.2.1, h.2.2.2⟩
    exact Ok.refl

theorem sdNotRun_ok : ∀ x0 x1 s, Ok [.regs, .staged, .free, .trioQ, .emcyQ, .logQ, .logWin, .coaches, .axes, .pl, .sds, .afe] s (@sdNotRun x0 x1 s) := by
  intro x0 x1 s
  delta sdNotRun
  split
  · rename_i t0 e1
    refine Ok.withS (x := t0) (OkP.of_eq e1 ?_) fun h2 => ?_
    · refine OkP.via (State.fresh_ok ..) rfl ?_
      exact Ok.refl
    extract_lets +onlyGivenNames -merge -useContext s3
    clear_value s3
    extract_lets +onlyGivenNames -merge -useContext s4
    refine Ok.withS (x := s4) ?_ fun h5 => ?_
    · unfold s4
      refine Ok.via (landResult_ok ..) rfl ?_
      refine Ok.via (State.put_at (at_AFE_STAT)) rfl ?_
      exact h2
    clear_value s4
    extract_lets +onlyGivenNames -merge -useContext s6
    refine Ok.withS (x := s6) ?_ fun h7 => ?_
    · unfold s6
      refine Ok.via (State.modSd_ok ?_) rfl ?_
      · exact fun _ h => ⟨h.1, h.2.1, h.2.2.1, h.2.2.2⟩
      exact h5
    clear_value s6
    extract_lets +onlyGivenNames -merge -useContext s8
    refine Ok.withS (x := s8) ?_ fun h9 => ?_
    · unfold s8
      refine Ok.ite ?_ ?_
      · refine Ok.via (State.modSd_ok ?_) rfl ?_
        · exact fun _ h => ⟨h.1, h.2.1, h.2.2.1, h.2.2.2⟩
        exact h7
      · refine Ok.via (sdNextSlot_ok ..) rfl ?_
        refine Ok.via (State.modSd_ok ?_) rfl ?_
        · intro _ h
          dsimp only [SdMod.good]
          exact ⟨Sparse.wf_set h.1, h.2.1, h.2.2.1, h.2.2.2⟩
        exact h7
    clear_value s8
    refine Ok.via (sdDeferred_ok ..) rfl ?_
    refine Ok.via (sdStatus_ok ..) rfl ?_
    exact h9

theorem sdHold_ok : ∀ x0 x1 x2 s, Ok [.sds, .reg .AFE_DUTY, .reg .AFE_STAT, .reg .SD_STAT] s (@sdHold x0 x1 x2 s) := by
  intro x0 x1 x2 s
  delta sdHold
  extract_lets +onlyGivenNames -merge -useContext s0
  refine Ok.withS (x := s0) ?_ fun h5 => ?_
  · unfold s0
    refine Ok.forEach ?_ ?_
    · intro a1 a2
      extract_lets +onlyGivenNames -merge -useContext s3
      refine Ok.withS (x := s3) ?_ fun h4 => ?_
      · unfold s3
        refine Ok.via (State.putBitAt_at (at_AFE_STAT)) rfl ?_
        exact Ok.refl
      clear_value s3
      refine Ok.ite ?_ ?_
      · refine Ok.via (State.inc_at (at_AFE_DUTY)) rfl ?_
        exact h4
      · refine Ok.via (State.inc_at (at_AFE_DUTY)) rfl ?_
        exact h4
    · exact Ok.refl
  clear_value s0
  extract_lets +onlyGivenNames -merge -useContext s6
  refine Ok.withS (x := s6) ?_ fun h7 => ?_
  · unfold s6
    refine Ok.via (State.modSd_ok ?_) rfl ?_
    · intro _ h
      split
      · exact ⟨h.1, h.2.1, h.2.2.1, h.2.2.2⟩
      · exact ⟨h.1, h.2.1, h.2.2.1, h.2.2.2⟩
    exact h5
  clear_value s6
  refine Ok.via (State.put_at (at_SD_STAT _)) rfl ?_
  exact h7

theorem sdStartConv_ok : ∀ x0 x1 x2 x3 x4 s, Ok [.regs, .staged, .free, .trioQ, .emcyQ, .logQ, .logWin, .coaches, .axes, .pl, .sds, .afe] s (@sdStartConv x0 x1 x2 x3 x4 s) := by
  intro x0 x1 x2 x3 x4 s
  delta sdStartConv
  extract_lets +onlyGivenNames -merge -useContext s0
  clear_value s0
  extract_lets +onlyGivenNames -merge -useContext s1
  clear_value s1
  extract_lets +onlyGivenNames -merge -useContext s2
  clear_value s2
  extract_lets +onlyGivenNames -merge -useContext s3
  clear_value s3
  extract_lets +onlyGivenNames -merge -useContext s4
  clear_value s4
  extract_lets +onlyGivenNames -merge -useContext s5
  clear_value s5
  extract_lets +onlyGivenNames -merge -useContext s6
  clear_value s6
  extract_lets +onlyGivenNames -merge -useContext s7
  clear_value s7
  extract_lets +onlyGivenNames -merge -useContext s8
  clear_value s8
  refine Ok.ite ?_ ?_
  · refine Ok.via (State.put_at (at_SD_STAT _)) rfl ?_
    exact Ok.refl
  · refine Ok.ite ?_ ?_
    · refine Ok.via (sdNotRun_ok ..) rfl ?_
      exact Ok.refl
    · extract_lets +onlyGivenNames -merge -useContext s9
      clear_value s9
      refine Ok.ite ?_ ?_
      · refine Ok.via (sdHold_ok ..) rfl ?_
        exact Ok.refl
      · extract_lets +onlyGivenNames -merge -useContext s10
        refine Ok.withS (x := s10) ?_ fun h11 => ?_
        · unfold s10
          refine Ok.via (noteOn_ok ..) rfl ?_
          exact Ok.refl
        clear_value s10
        extract_lets +onlyGivenNames -merge -useContext s12
        refine Ok.withS (x := s12) ?_ fun h14 => ?_
        · unfold s12
          refine Ok.applyIf ?_ ?_
          · intro a13
            refine Ok.via (State.put_at (at_AFE_STAT)) rfl ?_
            exact Ok.refl
          · exact h11
        clear_value s12
        extract_lets +onlyGivenNames -merge -useContext s15
        refine Ok.withS (x := s15) ?_ fun h16 => ?_
        · unfold s15
          refine Ok.via (State.modSd_ok ?_) rfl ?_
          · exact fun _ h => ⟨h.1, h.2.1, h.2.2.1, h.2.2.2⟩
          exact h14
        clear_value s15
        refine Ok.via (sdStatus_ok ..) rfl ?_
        refine Ok.via (State.put_at (at_SD_STAT _)) rfl ?_
        exact h16

theorem settleEnd_ok : ∀ x0 s, Ok [.sds] s (@settleEnd x0 s) := by
  intro x0 s
  delta settleEnd
  split
  · exact Ok.refl
  · refine Ok.via (State.modSd_ok ?_) rfl ?_
    · exact fun _ h => ⟨h.1, h.2.1, h.2.2.1, h.2.2.2⟩
    exact Ok.refl

theorem breakCheck_ok : ∀ x0 x1 s, Ok [.trioQ, .emcyQ, .logQ, .logWin, .sds, .reg .AFE_BRK, .reg .AFE_BRKCNT, .reg .EV_PEND, .reg .MGS_LOGSTAT] s (@breakCheck x0 x1 s) := by
  intro x0 x1 s
  delta breakCheck
  split
  · exact Ok.refl
  · extract_lets +onlyGivenNames -merge -useContext s0
    clear_value s0
    extract_lets +onlyGivenNames -merge -useContext s1
    clear_value s1
    refine Ok.ite ?_ ?_
    · exact Ok.refl
    · extract_lets +onlyGivenNames -merge -useContext s2
      refine Ok.withS (x := s2) ?_ fun h3 => ?_
      · unfold s2
        refine Ok.via (State.modSd_ok ?_) rfl ?_
        · exact fun _ h => ⟨h.1, h.2.1, h.2.2.1, h.2.2.2⟩
        exact Ok.refl
      clear_value s2
      extract_lets +onlyGivenNames -merge -useContext s4
      refine Ok.withS (x := s4) ?_ fun h5 => ?_
      · unfold s4
        refine Ok.ite ?_ ?_
        · refine Ok.via (State.put_at (at_AFE_BRK)) rfl ?_
          exact h3
        · refine Ok.via (State.put_at (at_AFE_BRK)) rfl ?_
          refine Ok.via (State.putB_at (at_AFE_BRK)) rfl ?_
          refine Ok.via (State.put_at (at_AFE_BRK)) rfl ?_
          refine Ok.via (State.put_at (at_AFE_BRK)) rfl ?_
          refine Ok.via (State.put_at (at_AFE_BRK)) rfl ?_
          exact h3
      clear_value s4
      refine Ok.via (pend_ok ..) rfl ?_
      refine Ok.via (State.inc_at (at_AFE_BRKCNT)) rfl ?_
      exact h5

theorem conversionEnd_ok : ∀ x0 x1 x2 s, Ok (.staged :: .free :: .sds :: .afe :: .reg .AFE_CFGA :: .reg .AFE_CFGB :: .reg .AFE_CFGC :: .reg .AFE_IEXC :: .reg .AFE_RREF :: .reg .AFE_STAT :: .reg .AFE_TDAC :: .reg .AFE_VEXC :: .reg .SD_AVG :: .reg .SD_CAL_GAIN :: .reg .SD_CAL_OFS :: .reg .SD_CFG :: .reg .SD_DIRECT :: .reg .SD_LINDATA :: .reg .SD_SEQ0 :: .reg .SD_SEQ1 :: .reg .SD_SEQCTL :: .reg .SD_STAT :: []) s (@conversionEnd x0 x1 x2 s) := by
  intro x0 x1 x2 s
  delta conversionEnd
  split
  · exact Ok.refl
  · refine Ok.ite ?_ ?_
    · exact Ok.refl
    · split
      · extract_lets +onlyGivenNames -merge -useContext s0
        clear_value s0
        split
        · rename_i t1 e2
          refine Ok.withS (x := t1) (OkP.of_eq e2 ?_) fun h3 => ?_
          · refine OkP.via (accumulate_ok ..) rfl ?_
            exact Ok.refl
          extract_lets +onlyGivenNames -merge -useContext s4
          refine Ok.withS (x := s4) ?_ fun h5 => ?_
          · unfold s4
            refine Ok.via (leadStep_ok ..) rfl ?_
            exact h3
          clear_value s4
          extract_lets +onlyGivenNames -merge -useContext s6
          refine Ok.withS (x := s6) ?_ fun h7 => ?_
          · unfold s6
            split
            · exact h5
            · refine Ok.via (State.modSd_ok ?_) rfl ?_
              · exact fun _ h => ⟨h.1, h.2.1, h.2.2.1, h.2.2.2⟩
              exact h5
          clear_value s6
          extract_lets +onlyGivenNames -merge -useContext s8
          refine Ok.withS (x := s8) ?_ fun h9 => ?_
          · unfold s8
            refine Ok.via (State.modSd_ok ?_) rfl ?_
            · exact fun _ h => ⟨h.1, h.2.1, h.2.2.1, h.2.2.2⟩
            exact h7
          clear_value s8
          extract_lets +onlyGivenNames -merge -useContext s10
          refine Ok.withS (x := s10) ?_ fun h11 => ?_
          · unfold s10
            refine Ok.ite ?_ ?_
            · refine Ok.via (State.modSd_ok ?_) rfl ?_
              · exact fun _ h => ⟨h.1, h.2.1, h.2.2.1, h.2.2.2⟩
              exact h9
            · refine Ok.ite ?_ ?_
              · refine Ok.via (sdNextSlot_ok ..) rfl ?_
                exact h9
              · exact h9
          clear_value s10
          extract_lets +onlyGivenNames -merge -useContext s12
          clear_value s12
          extract_lets +onlyGivenNames -merge -useContext s13
          clear_value s13
          extract_lets +onlyGivenNames -merge -useContext s14
          refine Ok.withS (x := s14) ?_ fun h16 => ?_
          · unfold s14
            refine Ok.applyIf ?_ ?_
            · intro a15
              refine Ok.via (State.put_at (at_AFE_STAT)) rfl ?_
              exact Ok.refl
            · exact h11
          clear_value s14
          extract_lets +onlyGivenNames -merge -useContext s17
          refine Ok.withS (x := s17) ?_ fun h18 => ?_
          · unfold s17
            refine Ok.via (State.modSd_ok ?_) rfl ?_
            · exact fun _ h => ⟨h.1, h.2.1, h.2.2.1, h.2.2.2⟩
            exact h16
          clear_value s17
          refine Ok.via (sharedLand_ok ..) rfl ?_
          refine Ok.via (sdDeferred_ok ..) rfl ?_
          refine Ok.via (sdStatus_ok ..) rfl ?_
          exact h18

theorem leadEnd_ok : ∀ x0 x1 x2 s, Ok (.staged :: .free :: .sds :: .reg .AFE_CFGA :: .reg .AFE_CFGB :: .reg .AFE_CFGC :: .reg .AFE_IEXC :: .reg .AFE_RREF :: .reg .AFE_STAT :: .reg .AFE_TDAC :: .reg .AFE_VEXC :: .reg .SD_AVG :: .reg .SD_CAL_GAIN :: .reg .SD_CAL_OFS :: .reg .SD_CFG :: .reg .SD_DIRECT :: .reg .SD_LINDATA :: .reg .SD_SEQ0 :: .reg .SD_SEQ1 :: .reg .SD_SEQCTL :: .reg .SD_STAT :: []) s (@leadEnd x0 x1 x2 s) := by
  intro x0 x1 x2 s
  delta leadEnd
  split
  · exact Ok.refl
  · refine Ok.ite ?_ ?_
    · exact Ok.refl
    · split
      · split
        · rename_i t0 e1
          refine Ok.withS (x := t0) (OkP.of_eq e1 ?_) fun h2 => ?_
          · refine OkP.via (State.fresh_ok ..) rfl ?_
            exact Ok.refl
          extract_lets +onlyGivenNames -merge -useContext s3
          clear_value s3
          extract_lets +onlyGivenNames -merge -useContext s4
          clear_value s4
          extract_lets +onlyGivenNames -merge -useContext s5
          refine Ok.withS (x := s5) ?_ fun h6 => ?_
          · unfold s5
            refine Ok.via (State.put_at (at_AFE_CFGC _)) rfl ?_
            exact h2
          clear_value s5
          extract_lets +onlyGivenNames -merge -useContext s7
          refine Ok.withS (x := s7) ?_ fun h8 => ?_
          · unfold s7
            refine Ok.via (State.modSd_ok ?_) rfl ?_
            · exact fun _ h => ⟨h.1, h.2.1, h.2.2.1, h.2.2.2⟩
            exact h6
          clear_value s7
          refine Ok.via (sharedLand_ok ..) rfl ?_
          refine Ok.via (sdStatus_ok ..) rfl ?_
          exact h8

theorem urgent_ok : ∀ x0 x1 s, Ok (.staged :: .free :: .trioQ :: .emcyQ :: .logQ :: .logWin :: .sds :: .afe :: .reg .AFE_CFGA :: .reg .AFE_CFGB :: .reg .AFE_CFGC :: .reg .AFE_IEXC :: .reg .AFE_RREF :: .reg .AFE_STAT :: .reg .AFE_TDAC :: .reg .AFE_VEXC :: .reg .EV_PEND :: .reg .MGS_LOGSTAT :: .reg .SD_AVG :: .reg .SD_CAL_GAIN :: .reg .SD_CAL_OFS :: .reg .SD_CFG :: .reg .SD_CNT :: .reg .SD_DIRECT :: .reg .SD_LINDATA :: .reg .SD_SEQ0 :: .reg .SD_SEQ1 :: .reg .SD_SEQCTL :: .reg .SD_STAT :: []) s (@urgent x0 x1 s) := by
  intro x0 x1 s
  delta urgent
  extract_lets +onlyGivenNames -merge -useContext s0
  clear_value s0
  refine Ok.ite ?_ ?_
  · exact Ok.refl
  · refine Ok.ite ?_ ?_
    · refine Ok.via (pendSrc_ok ..) rfl ?_
      refine Ok.via (State.inc_at (at_SD_CNT _)) rfl ?_
      exact Ok.refl
    · extract_lets +onlyGivenNames -merge -useContext s1
      refine Ok.withS (x := s1) ?_ fun h2 => ?_
      · unfold s1
        refine Ok.via (sdAbort_ok ..) rfl ?_
        exact Ok.refl
      clear_value s1
      refine Ok.via (sdStatus_ok ..) rfl ?_
      refine Ok.via (State.modSd_ok ?_) rfl ?_
      · exact fun _ h => ⟨h.1, h.2.1, h.2.2.1, h.2.2.2⟩
      exact h2

theorem urgentAll_ok : ∀ x0 x1 s, Ok (.staged :: .free :: .trioQ :: .emcyQ :: .logQ :: .logWin :: .sds :: .afe :: .reg .AFE_CFGA :: .reg .AFE_CFGB :: .reg .AFE_CFGC :: .reg .AFE_IEXC :: .reg .AFE_RREF :: .reg .AFE_STAT :: .reg .AFE_TDAC :: .reg .AFE_VEXC :: .reg .EV_PEND :: .reg .MGS_LOGSTAT :: .reg .SD_AVG :: .reg .SD_CAL_GAIN :: .reg .SD_CAL_OFS :: .reg .SD_CFG :: .reg .SD_CNT :: .reg .SD_DIRECT :: .reg .SD_LINDATA :: .reg .SD_SEQ0 :: .reg .SD_SEQ1 :: .reg .SD_SEQCTL :: .reg .SD_STAT :: []) s (@urgentAll x0 x1 s) := by
  intro x0 x1 s
  delta urgentAll
  refine Ok.forEach ?_ ?_
  · intro a0 a1
    refine Ok.via (urgent_ok ..) rfl ?_
    exact Ok.refl
  · exact Ok.refl

theorem plannerTrigger_ok : ∀ s, Ok (.staged :: .free :: .trioQ :: .emcyQ :: .logQ :: .logWin :: .sds :: .afe :: .reg .AFE_CFGA :: .reg .AFE_CFGB :: .reg .AFE_CFGC :: .reg .AFE_IEXC :: .reg .AFE_RREF :: .reg .AFE_STAT :: .reg .AFE_TDAC :: .reg .AFE_VEXC :: .reg .EV_PEND :: .reg .MGS_LOGSTAT :: .reg .SD_AVG :: .reg .SD_CAL_GAIN :: .reg .SD_CAL_OFS :: .reg .SD_CFG :: .reg .SD_CNT :: .reg .SD_DIRECT :: .reg .SD_LINDATA :: .reg .SD_SEQ0 :: .reg .SD_SEQ1 :: .reg .SD_SEQCTL :: .reg .SD_STAT :: []) s (@plannerTrigger s) := by
  intro s
  delta plannerTrigger
  refine Ok.via (urgentAll_ok ..) rfl ?_
  exact Ok.refl

theorem sdStart_ok : ∀ x0 s, Ok (.staged :: .free :: .sds :: .afe :: .reg .AFE_CFGA :: .reg .AFE_CFGB :: .reg .AFE_CFGC :: .reg .AFE_IEXC :: .reg .AFE_RREF :: .reg .AFE_STAT :: .reg .AFE_TDAC :: .reg .AFE_VEXC :: .reg .SD_AVG :: .reg .SD_CAL_GAIN :: .reg .SD_CAL_OFS :: .reg .SD_CFG :: .reg .SD_DIRECT :: .reg .SD_LINDATA :: .reg .SD_SEQ0 :: .reg .SD_SEQ1 :: .reg .SD_SEQCTL :: .reg .SD_STAT :: []) s (@sdStart x0 s) := by
  intro x0 s
  delta sdStart
  refine Ok.ite ?_ ?_
  · exact Ok.refl
  · extract_lets +onlyGivenNames -merge -useContext s0
    refine Ok.withS (x := s0) ?_ fun h1 => ?_
    · unfold s0
      refine Ok.ite ?_ ?_
      · refine OkP.snd ?_
        refine OkP.via (sdLand_ok ..) rfl ?_
        exact Ok.refl
      · exact Ok.refl
    clear_value s0
    refine Ok.ite ?_ ?_
    · exact h1
    · refine Ok.ite ?_ ?_
      · refine Ok.via (State.put_at (at_SD_STAT _)) rfl ?_
        refine Ok.via (State.put_at (at_SD_STAT _)) rfl ?_
        exact h1
      · refine Ok.via (sdBegin_ok ..) rfl ?_
        exact h1

theorem sdSimulOne_ok : ∀ x0 s, Ok (.staged :: .free :: .sds :: .afe :: .reg .AFE_CFGA :: .reg .AFE_CFGB :: .reg .AFE_CFGC :: .reg .AFE_IEXC :: .reg .AFE_RREF :: .reg .AFE_STAT :: .reg .AFE_TDAC :: .reg .AFE_VEXC :: .reg .SD_AVG :: .reg .SD_CAL_GAIN :: .reg .SD_CAL_OFS :: .reg .SD_CFG :: .reg .SD_DIRECT :: .reg .SD_LINDATA :: .reg .SD_SEQ0 :: .reg .SD_SEQ1 :: .reg .SD_SEQCTL :: .reg .SD_STAT :: []) s (@sdSimulOne x0 s) := by
  intro x0 s
  delta sdSimulOne
  refine Ok.ite ?_ ?_
  · refine Ok.via (State.put_at (at_SD_STAT _)) rfl ?_
    refine Ok.via (State.modSd_ok ?_) rfl ?_
    · exact fun _ h => ⟨h.1, h.2.1, h.2.2.1, h.2.2.2⟩
    exact Ok.refl
  · extract_lets +onlyGivenNames -merge -useContext s0
    refine Ok.withS (x := s0) ?_ fun h1 => ?_
    · unfold s0
      refine Ok.via (sdAbort_ok ..) rfl ?_
      exact Ok.refl
    clear_value s0
    extract_lets +onlyGivenNames -merge -useContext s2
    refine Ok.withS (x := s2) ?_ fun h3 => ?_
    · unfold s2
      refine OkP.snd ?_
      refine OkP.via (sdLand_ok ..) rfl ?_
      exact h1
    clear_value s2
    refine Ok.via (sdBegin_ok ..) rfl ?_
    refine Ok.via (State.modSd_ok ?_) rfl ?_
    · exact fun _ h => ⟨rfl, h.2.1, h.2.2.1, h.2.2.2⟩
    exact h3

theorem sdCalOne_ok : ∀ x0 s, Ok (.staged :: .free :: .sds :: .afe :: .reg .AFE_CFGA :: .reg .AFE_CFGB :: .reg .AFE_CFGC :: .reg .AFE_IEXC :: .reg .AFE_RREF :: .reg .AFE_STAT :: .reg .AFE_TDAC :: .reg .AFE_VEXC :: .reg .SD_AVG :: .reg .SD_CAL_GAIN :: .reg .SD_CAL_OFS :: .reg .SD_CFG :: .reg .SD_DIRECT :: .reg .SD_LINDATA :: .reg .SD_SEQ0 :: .reg .SD_SEQ1 :: .reg .SD_SEQCTL :: .reg .SD_STAT :: []) s (@sdCalOne x0 s) := by
  intro x0 s
  delta sdCalOne
  extract_lets +onlyGivenNames -merge -useContext s0
  refine Ok.withS (x := s0) ?_ fun h1 => ?_
  · unfold s0
    refine Ok.via (sdAbort_ok ..) rfl ?_
    exact Ok.refl
  clear_value s0
  extract_lets +onlyGivenNames -merge -useContext s2
  refine Ok.withS (x := s2) ?_ fun h3 => ?_
  · unfold s2
    refine Ok.via (State.modSd_ok ?_) rfl ?_
    · exact fun _ h => ⟨h.1, h.2.1, h.2.2.1, h.2.2.2⟩
    exact h1
  clear_value s2
  refine Ok.via (sdStatus_ok ..) rfl ?_
  refine Ok.via (State.put_at (at_SD_STAT _)) rfl ?_
  exact h3

theorem sdCal_ok : ∀ x0 s, Ok (.staged :: .free :: .sds :: .afe :: .reg .AFE_CFGA :: .reg .AFE_CFGB :: .reg .AFE_CFGC :: .reg .AFE_IEXC :: .reg .AFE_RREF :: .reg .AFE_STAT :: .reg .AFE_TDAC :: .reg .AFE_VEXC :: .reg .SD_AVG :: .reg .SD_CAL_GAIN :: .reg .SD_CAL_OFS :: .reg .SD_CFG :: .reg .SD_DIRECT :: .reg .SD_LINDATA :: .reg .SD_SEQ0 :: .reg .SD_SEQ1 :: .reg .SD_SEQCTL :: .reg .SD_STAT :: []) s (@sdCal x0 s) := by
  intro x0 s
  delta sdCal
  refine Ok.forEach ?_ ?_
  · intro a0 a1
    refine Ok.via (sdCalOne_ok ..) rfl ?_
    exact Ok.refl
  · refine Ok.via (State.modAfe_ok ?_) rfl ?_
    · exact fun _ h => ⟨h.1, h.2.1, h.2.2.1, h.2.2.2⟩
    exact Ok.refl

theorem calEnd_ok : ∀ s, Ok (.staged :: .free :: .trioQ :: .emcyQ :: .logQ :: .logWin :: .sds :: .afe :: .reg .AFE_CFGA :: .reg .AFE_CFGB :: .reg .AFE_CFGC :: .reg .AFE_IEXC :: .reg .AFE_RREF :: .reg .AFE_STAT :: .reg .AFE_TDAC :: .reg .AFE_VEXC :: .reg .EV_PEND :: .reg .MGS_LOGSTAT :: .reg .SD_AVG :: .reg .SD_CAL_GAIN :: .reg .SD_CAL_OFS :: .reg .SD_CFG :: .reg .SD_DIRECT :: .reg .SD_LINDATA :: .reg .SD_SEQ0 :: .reg .SD_SEQ1 :: .reg .SD_SEQCTL :: .reg .SD_STAT :: []) s (@calEnd s) := by
  intro s
  delta calEnd
  extract_lets +onlyGivenNames -merge -useContext s0
  clear_value s0
  refine Ok.ite ?_ ?_
  · exact Ok.refl
  · extract_lets +onlyGivenNames -merge -useContext s1
    clear_value s1
    extract_lets +onlyGivenNames -merge -useContext s2
    refine Ok.withS (x := s2) ?_ fun h7 => ?_
    · unfold s2
      refine Ok.forEach ?_ ?_
      · intro a3 a4
        extract_lets +onlyGivenNames -merge -useContext s5
        refine Ok.withS (x := s5) ?_ fun h6 => ?_
        · unfold s5
          refine Ok.via (State.modSd_ok ?_) rfl ?_
          · exact fun _ h => ⟨h.1, h.2.1, h.2.2.1, h.2.2.2⟩
          exact Ok.refl
        clear_value s5
        refine Ok.via (sdDeferred_ok ..) rfl ?_
        refine Ok.via (sdStatus_ok ..) rfl ?_
        refine Ok.via (State.put_at (at_SD_STAT _)) rfl ?_
        exact h6
      · exact Ok.refl
    clear_value s2
    refine Ok.applyIf ?_ ?_
    · intro a8
      refine Ok.via (pendSrc_ok ..) rfl ?_
      exact Ok.refl
    · refine Ok.via (State.modAfe_ok ?_) rfl ?_
      · exact fun _ h => ⟨h.1, h.2.1, h.2.2.1, h.2.2.2⟩
      exact h7

theorem calPhase_ok : ∀ x0 x1 s, Ok (.staged :: .free :: .trioQ :: .emcyQ :: .logQ :: .logWin :: .sds :: .afe :: .reg .AFE_CFGA :: .reg .AFE_CFGB :: .reg .AFE_CFGC :: .reg .AFE_IEXC :: .reg .AFE_RREF :: .reg .AFE_STAT :: .reg .AFE_TDAC :: .reg .AFE_VEXC :: .reg .EV_PEND :: .reg .MGS_LOGSTAT :: .reg .SD_AVG :: .reg .SD_CAL_GAIN :: .reg .SD_CAL_OFS :: .reg .SD_CFG :: .reg .SD_DIRECT :: .reg .SD_LINDATA :: .reg .SD_SEQ0 :: .reg .SD_SEQ1 :: .reg .SD_SEQCTL :: .reg .SD_STAT :: []) s (@calPhase x0 x1 s) := by
  intro x0 x1 s
  delta calPhase
  split
  · exact Ok.refl
  · refine Ok.ite ?_ ?_
    · exact Ok.refl
    · extract_lets +onlyGivenNames -merge -useContext s0
      clear_value s0
      extract_lets +onlyGivenNames -merge -useContext s1
      clear_value s1
      extract_lets +onlyGivenNames -merge -useContext s2
      clear_value s2
      extract_lets +onlyGivenNames -merge -useContext s3
      clear_value s3
      extract_lets +onlyGivenNames -merge -useContext s4
      clear_value s4
      extract_lets +onlyGivenNames -merge -useContext s5
      refine Ok.withS (x := s5) ?_ fun h6 => ?_
      · unfold s5
        refine Ok.ite ?_ ?_
        · exact Ok.refl
        · refine Ok.ite ?_ ?_
          · refine Ok.via (State.put_at2 (at_SD_CAL_OFS _ _) (at_SD_CAL_GAIN _ _)) rfl ?_
            refine Ok.via (State.setStaged_ok ..) rfl ?_
            exact Ok.refl
          · refine Ok.via (State.putBitAt_at (at_SD_STAT _)) rfl ?_
            exact Ok.refl
      clear_value s5
      refine Ok.via (calEnd_ok ..) rfl ?_
      refine Ok.via (State.modSd_ok ?_) rfl ?_
      · exact fun _ h => ⟨h.1, h.2.1, h.2.2.1, h.2.2.2⟩
      exact h6

theorem sdDisable_ok : ∀ x0 s, Ok (.staged :: .free :: .trioQ :: .emcyQ :: .logQ :: .logWin :: .sds :: .afe :: .reg .AFE_CFGA :: .reg .AFE_CFGB :: .reg .AFE_CFGC :: .reg .AFE_IEXC :: .reg .AFE_RREF :: .reg .AFE_STAT :: .reg .AFE_TDAC :: .reg .AFE_VEXC :: .reg .EV_PEND :: .reg .MGS_LOGSTAT :: .reg .SD_AVG :: .reg .SD_CAL_GAIN :: .reg .SD_CAL_OFS :: .reg .SD_CFG :: .reg .SD_DIRECT :: .reg .SD_LINDATA :: .reg .SD_SEQ0 :: .reg .SD_SEQ1 :: .reg .SD_SEQCTL :: .reg .SD_STAT :: []) s (@sdDisable x0 s) := by
  intro x0 s
  delta sdDisable
  extract_lets +onlyGivenNames -merge -useContext s0
  refine Ok.withS (x := s0) ?_ fun h1 => ?_
  · unfold s0
    refine Ok.via (sdEndRegular_ok ..) rfl ?_
    refine Ok.via (State.put_at (at_SD_CFG _)) rfl ?_
    exact Ok.refl
  clear_value s0
  extract_lets +onlyGivenNames -merge -useContext s2
  refine Ok.withS (x := s2) ?_ fun h3 => ?_
  · unfold s2
    refine Ok.via (State.modSd_ok ?_) rfl ?_
    · exact fun _ h => ⟨h.1, rfl, h.2.2.1, h.2.2.2⟩
    refine Ok.via (cutOn_ok ..) rfl ?_
    exact h1
  clear_value s2
  extract_lets +onlyGivenNames -merge -useContext s4
  refine Ok.withS (x := s4) ?_ fun h5 => ?_
  · unfold s4
    refine Ok.via (calEnd_ok ..) rfl ?_
    refine Ok.via (sharedLand_ok ..) rfl ?_
    refine Ok.via (sdStatus_ok ..) rfl ?_
    exact h3
  clear_value s4
  refine OkP.snd ?_
  refine OkP.via (sdLand_ok ..) rfl ?_
  exact h5

theorem timerPulse_ok : ∀ x0 x1 s, Ok (.staged :: .free :: .trioQ :: .emcyQ :: .logQ :: .logWin :: .sds :: .afe :: .reg .AFE_CFGA :: .reg .AFE_CFGB :: .reg .AFE_CFGC :: .reg .AFE_IEXC :: .reg .AFE_RREF :: .reg .AFE_STAT :: .reg .AFE_TDAC :: .reg .AFE_VEXC :: .reg .EV_PEND :: .reg .MGS_LOGSTAT :: .reg .SD_AVG :: .reg .SD_CAL_GAIN :: .reg .SD_CAL_OFS :: .reg .SD_CFG :: .reg .SD_CNT :: .reg .SD_DIRECT :: .reg .SD_LINDATA :: .reg .SD_SEQ0 :: .reg .SD_SEQ1 :: .reg .SD_SEQCTL :: .reg .SD_STAT :: []) s (@timerPulse x0 x1 s) := by
  intro x0 x1 s
  delta timerPulse
  refine Ok.ite ?_ ?_
  · exact Ok.refl
  · extract_lets +onlyGivenNames -merge -useContext s0
    clear_value s0
    extract_lets +onlyGivenNames -merge -useContext s1
    refine Ok.withS (x := s1) ?_ fun h3 => ?_
    · unfold s1
      refine Ok.ite ?_ ?_
      · refine Ok.ite ?_ ?_
        · refine Ok.applyIf ?_ ?_
          · intro a2
            refine Ok.via (State.put_at (at_SD_STAT _)) rfl ?_
            exact Ok.refl
          · exact Ok.refl
        · refine Ok.via (sdBegin_ok ..) rfl ?_
          exact Ok.refl
      · exact Ok.refl
    clear_value s1
    refine Ok.applyIf ?_ ?_
    · intro a4
      refine Ok.via (urgent_ok ..) rfl ?_
      exact Ok.refl
    · exact h3

theorem trigEdge_ok : ∀ x0 x1 s, Ok (.staged :: .free :: .trioQ :: .emcyQ :: .logQ :: .logWin :: .sds :: .afe :: .reg .AFE_CFGA :: .reg .AFE_CFGB :: .reg .AFE_CFGC :: .reg .AFE_IEXC :: .reg .AFE_RREF :: .reg .AFE_STAT :: .reg .AFE_TDAC :: .reg .AFE_VEXC :: .reg .EV_PEND :: .reg .MGS_LOGSTAT :: .reg .SD_AVG :: .reg .SD_CAL_GAIN :: .reg .SD_CAL_OFS :: .reg .SD_CFG :: .reg .SD_CNT :: .reg .SD_DIRECT :: .reg .SD_LINDATA :: .reg .SD_SEQ0 :: .reg .SD_SEQ1 :: .reg .SD_SEQCTL :: .reg .SD_STAT :: []) s (@trigEdge x0 x1 s) := by
  intro x0 x1 s
  delta trigEdge
  refine Ok.via (urgentAll_ok ..) rfl ?_
  exact Ok.refl

theorem dutyWindowStart_ok : ∀ s, Ok [.sds, .afe, .reg .SD_STAT] s (@dutyWindowStart s) := by
  intro s
  delta dutyWindowStart
  extract_lets +onlyGivenNames -merge -useContext s0
  refine Ok.withS (x := s0) ?_ fun h1 => ?_
  · unfold s0
    refine Ok.via (State.modAfe_ok ?_) rfl ?_
    · exact fun _ h => ⟨h.1, h.2.1, h.2.2.1, h.2.2.2⟩
    exact Ok.refl
  clear_value s0
  refine Ok.forEach ?_ ?_
  · intro a2 a3
    extract_lets +onlyGivenNames -merge -useContext s4
    clear_value s4
    extract_lets +onlyGivenNames -merge -useContext s5
    refine Ok.withS (x := s5) ?_ fun h7 => ?_
    · unfold s5
      refine Ok.applyIf ?_ ?_
      · intro a6
        refine Ok.via (State.put_at (at_SD_STAT _)) rfl ?_
        exact Ok.refl
      · exact Ok.refl
    clear_value s5
    refine Ok.via (State.modSd_ok ?_) rfl ?_
    · exact fun _ h => ⟨h.1, h.2.1, h.2.2.1, h.2.2.2⟩
    exact h7
  · exact h1

theorem calLost_ok : ∀ x0 x1 s, Ok [.regs, .staged] s (@calLost x0 x1 s) := by
  intro x0 x1 s
  delta calLost
  refine Ok.forEach ?_ ?_
  · intro a0 a1
    refine Ok.via (State.wr_ok ..) rfl ?_
    refine Ok.via (State.setStaged_ok ..) rfl ?_
    exact Ok.refl
  · exact Ok.refl

theorem afeLost_ok : ∀ s, Ok [.regs, .staged, .free, .sds, .afe] s (@afeLost s) := by
  intro s
  delta afeLost
  extract_lets +onlyGivenNames -merge -useContext s0
  refine Ok.withS (x := s0) ?_ fun h3 => ?_
  · unfold s0
    refine Ok.forEach ?_ ?_
    · intro a1 a2
      refine Ok.via (cutOn_ok ..) rfl ?_
      exact Ok.refl
    · exact Ok.refl
  clear_value s0
  extract_lets +onlyGivenNames -merge -useContext s4 s5
  refine Ok.withS (x := s5) ?_ fun h6 => ?_
  · unfold s5
    refine Ok.trans h3 ((Ok.mk' (W := [.sds, .afe]) ⟨?_, ?_⟩ ?_).mono rfl)
    · intro p hp
      cases p <;> first | rfl | trivial
    · exact .inr fun _ _ => rfl
    · exact fun g => { g with sds := (fun _ => Sparse.wf_nil) g.sds, sdMods := fun _ h => absurd h List.not_mem_nil, afe := g.afe }
  clear_value s4 s5
  extract_lets +onlyGivenNames -merge -useContext s7
  refine Ok.withS (x := s7) ?_ fun h12 => ?_
  · unfold s7
    refine Ok.forEach ?_ ?_
    · intro a8 a9
      refine Ok.forEach ?_ ?_
      · intro a10 a11
        refine Ok.via (calLost_ok ..) rfl ?_
        exact Ok.refl
      · exact Ok.refl
    · exact h6
  clear_value s7
  extract_lets +onlyGivenNames -merge -useContext s13
  clear_value s13
  extract_lets +onlyGivenNames -merge -useContext s14
  clear_value s14
  refine Ok.via (sharedLand_ok ..) rfl ?_
  refine Ok.forEach ?_ ?_
  · intro a15 a16
    refine Ok.via (State.wr_ok ..) rfl ?_
    exact Ok.refl
  · exact h12

theorem State.setLin_ok : ∀ s x1 x2, Ok [.afe] s (@State.setLin s x1 x2) := by
  intro s x1 x2
  delta State.setLin
  refine Ok.via (State.modAfe_ok ?_) rfl ?_
  · intro _ h
    dsimp only [Afe.good]
    exact ⟨h.1, Sparse.wf_set h.2.1, h.2.2.1, h.2.2.2⟩
  exact Ok.refl

theorem linearise_ok : ∀ x0 s, Ok [.free, .sds, .afe, .reg .SD_LINRES, .reg .SD_STAT] s (@linearise x0 s) := by
  intro x0 s
  delta linearise
  split
  · exact Ok.refl
  · extract_lets +onlyGivenNames -merge -useContext s0
    refine Ok.withS (x := s0) ?_ fun h1 => ?_
    · unfold s0
      refine Ok.via (State.modSd_ok ?_) rfl ?_
      · exact fun _ h => ⟨h.1, h.2.1, h.2.2.1, h.2.2.2⟩
      exact Ok.refl
    clear_value s0
    split
    · rename_i t2 e3
      refine Ok.withS (x := t2) (OkP.of_eq e3 ?_) fun h4 => ?_
      · refine OkP.via (State.fresh_ok ..) rfl ?_
        exact h1
      split
      · split
        · extract_lets +onlyGivenNames -merge -useContext s5
          clear_value s5
          extract_lets +onlyGivenNames -merge -useContext s6
          refine Ok.withS (x := s6) ?_ fun h7 => ?_
          · unfold s6
            refine Ok.via (State.modAfe_ok ?_) rfl ?_
            · intro _ h
              dsimp only [Afe.good]
              exact ⟨h.1, h.2.1, h.2.2.1, Sparse.wf_set h.2.2.2⟩
            exact h4
          clear_value s6
          extract_lets +onlyGivenNames -merge -useContext s8
          refine Ok.withS (x := s8) ?_ fun h9 => ?_
          · unfold s8
            refine Ok.ite ?_ ?_
            · refine Ok.via (State.modAfe_ok ?_) rfl ?_
              · intro _ h
                dsimp only [Afe.good]
                exact ⟨h.1, h.2.1, Sparse.wf_set h.2.2.1, h.2.2.2⟩
              exact h7
            · exact h7
          clear_value s8
          extract_lets +onlyGivenNames -merge -useContext s10
          refine Ok.withS (x := s10) ?_ fun h11 => ?_
          · unfold s10
            refine Ok.via (State.putB_at (at_SD_STAT _)) rfl ?_
            exact h9
          clear_value s10
          refine Ok.ite ?_ ?_
          · exact h11
          · refine Ok.via (State.put_at (at_SD_STAT _)) rfl ?_
            refine Ok.via (State.wr_at (at_SD_LINRES _)) rfl ?_
            exact h11

theorem linAdvance_ok : ∀ x0 s, Ok [.reg .SD_LINADDR] s (@linAdvance x0 s) := by
  intro x0 s
  delta linAdvance
  extract_lets +onlyGivenNames -merge -useContext s0
  clear_value s0
  refine Ok.via (State.put_at (at_SD_LINADDR _)) rfl ?_
  exact Ok.refl

theorem sdCommand_ok : ∀ x0 x1 x2 s, Ok (.staged :: .free :: .trioQ :: .emcyQ :: .logQ :: .logWin :: .sds :: .afe :: .reg .AFE_CFGA :: .reg .AFE_CFGB :: .reg .AFE_CFGC :: .reg .AFE_IEXC :: .reg .AFE_RREF :: .reg .AFE_STAT :: .reg .AFE_TDAC :: .reg .AFE_VEXC :: .reg .EV_PEND :: .reg .MGS_LOGSTAT :: .reg .SD_AVG :: .reg .SD_CAL_GAIN :: .reg .SD_CAL_OFS :: .reg .SD_CFG :: .reg .SD_CNT :: .reg .SD_DIRECT :: .reg .SD_LINDATA :: .reg .SD_SEQ0 :: .reg .SD_SEQ1 :: .reg .SD_SEQCTL :: .reg .SD_STAT :: []) s (@sdCommand x0 x1 x2 s) := by
  intro x0 x1 x2 s
  delta sdCommand
  split
  · refine Ok.via (sdStart_ok ..) rfl ?_
    exact Ok.refl
  · refine Ok.ite ?_ ?_
    · refine Ok.via (sdEndRegular_ok ..) rfl ?_
      exact Ok.refl
    · exact Ok.refl
  · refine Ok.via (urgent_ok ..) rfl ?_
    exact Ok.refl
  · refine Ok.forEach ?_ ?_
    · intro a0 a1
      refine Ok.via (sdSimulOne_ok ..) rfl ?_
      exact Ok.refl
    · exact Ok.refl
  · refine Ok.via (sdCal_ok ..) rfl ?_
    exact Ok.refl
  · refine Ok.via (State.wr_at (at_SD_CNT _)) rfl ?_
    exact Ok.refl
  · exact Ok.refl

theorem afeWritten_ok : ∀ x0 x1 x2 x3 s, Ok (.staged :: .free :: .trioQ :: .emcyQ :: .logQ :: .logWin :: .sds :: .afe :: .reg .AFE_BRK :: .reg .AFE_BRKCNT :: .reg .AFE_CFGA :: .reg .AFE_CFGB :: .reg .AFE_CFGC :: .reg .AFE_DUTY :: .reg .AFE_IEXC :: .reg .AFE_RREF :: .reg .AFE_STAT :: .reg .AFE_TDAC :: .reg .AFE_VEXC :: .reg .EV_PEND :: .reg .MGS_LOGSTAT :: .reg .SD_AVG :: .reg .SD_CAL_GAIN :: .reg .SD_CAL_OFS :: .reg .SD_CFG :: .reg .SD_CNT :: .reg .SD_DIRECT :: .reg .SD_LINADDR :: .reg .SD_LINDATA :: .reg .SD_SEQ0 :: .reg .SD_SEQ1 :: .reg .SD_SEQCTL :: .reg .SD_STAT :: []) s (@afeWritten x0 x1 x2 x3 s) := by
  intro x0 x1 x2 x3 s
  delta afeWritten
  extract_lets +onlyGivenNames -merge -useContext s0
  clear_value s0
  split
  · refine Ok.via (State.modAfe_ok ?_) rfl ?_
    · intro _ h
      dsimp only [Afe.good]
      exact ⟨Sparse.wf_modify h.1, h.2.1, h.2.2.1, h.2.2.2⟩
    refine Ok.via (cfgNote_ok ..) rfl ?_
    exact Ok.refl
  · refine Ok.via (cfgNote_ok ..) rfl ?_
    exact Ok.refl
  · refine Ok.via (cfgNote_ok ..) rfl ?_
    exact Ok.refl
  · refine Ok.via (sharedLand_ok ..) rfl ?_
    exact Ok.refl
  · refine Ok.via (sharedLand_ok ..) rfl ?_
    exact Ok.refl
  · refine Ok.via (sharedLand_ok ..) rfl ?_
    exact Ok.refl
  · refine Ok.applyIf ?_ ?_
    · intro a1
      refine Ok.via (State.put_at (at_AFE_BRK)) rfl ?_
      exact Ok.refl
    · exact Ok.refl
  · refine Ok.ite ?_ ?_
    · refine Ok.via (State.wr_at (at_AFE_BRKCNT)) rfl ?_
      refine Ok.via (State.put_at (at_AFE_DUTY)) rfl ?_
      refine Ok.via (State.put_at (at_AFE_DUTY)) rfl ?_
      exact Ok.refl
    · exact Ok.refl
  · refine Ok.ite ?_ ?_
    · refine Ok.via (sdDisable_ok ..) rfl ?_
      exact Ok.refl
    · refine Ok.ite ?_ ?_
      · refine OkP.snd ?_
        refine OkP.via (sdLand_ok ..) rfl ?_
        exact Ok.refl
      · exact Ok.refl
  · refine Ok.via (sdCommand_ok ..) rfl ?_
    exact Ok.refl
  · extract_lets +onlyGivenNames -merge -useContext s2
    clear_value s2
    refine Ok.via (linAdvance_ok ..) rfl ?_
    refine Ok.via (State.setLin_ok ..) rfl ?_
    exact Ok.refl
  · exact Ok.refl
  · refine Ok.ite ?_ ?_
    · refine OkP.snd ?_
      refine OkP.via (sdLand_ok ..) rfl ?_
      exact Ok.refl
    · exact Ok.refl

theorem afeReadDone_ok : ∀ x0 s, Ok [.sds, .reg .SD_LINADDR] s (@afeReadDone x0 s) := by
  intro x0 s
  delta afeReadDone
  extract_lets +onlyGivenNames -merge -useContext s0
  clear_value s0
  split
  · refine Ok.applyIf ?_ ?_
    · intro a1
      refine Ok.via (State.modSd_ok ?_) rfl ?_
      · exact fun _ h => ⟨h.1, h.2.1, h.2.2.1, h.2.2.2⟩
      exact Ok.refl
    · exact Ok.refl
  · refine Ok.applyIf ?_ ?_
    · intro a2
      refine Ok.via (State.modSd_ok ?_) rfl ?_
      · exact fun _ h => ⟨h.1, h.2.1, h.2.2.1, h.2.2.2⟩
      exact Ok.refl
    · exact Ok.refl
  · refine Ok.via (linAdvance_ok ..) rfl ?_
    exact Ok.refl
  · exact Ok.refl

theorem sdParity_ok : ∀ x0 s, Ok (.staged :: .free :: .trioQ :: .emcyQ :: .logQ :: .logWin :: .sds :: .afe :: .reg .AFE_CFGA :: .reg .AFE_CFGB :: .reg .AFE_CFGC :: .reg .AFE_IEXC :: .reg .AFE_RREF :: .reg .AFE_STAT :: .reg .AFE_TDAC :: .reg .AFE_VEXC :: .reg .EV_PEND :: .reg .MGS_LOGSTAT :: .reg .SD_AVG :: .reg .SD_CAL_GAIN :: .reg .SD_CAL_OFS :: .reg .SD_CFG :: .reg .SD_DIRECT :: .reg .SD_INJRESULT :: .reg .SD_LINDATA :: .reg .SD_RESULT :: .reg .SD_SEQ0 :: .reg .SD_SEQ1 :: .reg .SD_SEQCTL :: .reg .SD_STAT :: []) s (@sdParity x0 s) := by
  intro x0 s
  delta sdParity
  refine Ok.via (State.put_at (at_SD_INJRESULT _)) rfl ?_
  refine Ok.via (State.put_at (at_SD_RESULT _)) rfl ?_
  refine Ok.via (sdDisable_ok ..) rfl ?_
  exact Ok.refl

theorem afeParity_ok : ∀ x0 s, Ok (.staged :: .free :: .trioQ :: .emcyQ :: .logQ :: .logWin :: .sds :: .afe :: .reg .AFE_CFGA :: .reg .AFE_CFGB :: .reg .AFE_CFGC :: .reg .AFE_IEXC :: .reg .AFE_RREF :: .reg .AFE_STAT :: .reg .AFE_TDAC :: .reg .AFE_VEXC :: .reg .EV_PEND :: .reg .MGS_LOGSTAT :: .reg .SD_AVG :: .reg .SD_CAL_GAIN :: .reg .SD_CAL_OFS :: .reg .SD_CFG :: .reg .SD_DIRECT :: .reg .SD_INJRESULT :: .reg .SD_LINDATA :: .reg .SD_RESULT :: .reg .SD_SEQ0 :: .reg .SD_SEQ1 :: .reg .SD_SEQCTL :: .reg .SD_STAT :: []) s (@afeParity x0 s) := by
  intro x0 s
  delta afeParity
  split
  · extract_lets +onlyGivenNames -merge -useContext s0
    clear_value s0
    refine Ok.forEach ?_ ?_
    · intro a1 a2
      refine Ok.via (sdParity_ok ..) rfl ?_
      exact Ok.refl
    · exact Ok.refl
  · refine Ok.via (sdParity_ok ..) rfl ?_
    exact Ok.refl
  · exact Ok.refl

theorem conversionStart_ok : ∀ x0 x1 s, Ok [.regs, .staged, .free, .trioQ, .emcyQ, .logQ, .logWin, .coaches, .axes, .pl, .sds, .afe] s (@conversionStart x0 x1 s) := by
  intro x0 x1 s
  delta conversionStart
  extract_lets +onlyGivenNames -merge -useContext s0
  clear_value s0
  refine Ok.ite ?_ ?_
  · exact Ok.refl
  · split
    · exact Ok.refl
    · refine Ok.ite ?_ ?_
      · refine Ok.via (sdParity_ok ..) rfl ?_
        exact Ok.refl
      · refine Ok.ite ?_ ?_
        · refine Ok.via (sdStartConv_ok ..) rfl ?_
          exact Ok.refl
        · split
          · rename_i t1 e2
            refine Ok.withS (x := t1) (OkP.of_eq e2 ?_) fun h3 => ?_
            · refine OkP.via (sdLand_ok ..) rfl ?_
              refine Ok.via (State.modSd_ok ?_) rfl ?_
              · exact fun _ h => ⟨h.1, h.2.1, h.2.2.1, h.2.2.2⟩
              exact Ok.refl
            refine Ok.ite ?_ ?_
            · exact h3
            · split
              · exact h3
              · refine Ok.ite ?_ ?_
                · refine Ok.via (sdParity_ok ..) rfl ?_
                  exact h3
                · refine Ok.via (sdStartConv_ok ..) rfl ?_
                  refine Ok.via (cfgLand_ok ..) rfl ?_
                  exact h3

end Sys2Proof.Machine
end

