-- ==== Sys2Proof/Laws/OkCoachOps.lean ====
section
/-!
SUPPORT. Laws/OkCoachOps.lean: for each operation of Machine/CoachOps.lean, the parts of the state it can change, and that it keeps a
good state good.
-/

namespace Sys2Proof.Machine

set_option Elab.async false

theorem report_ok : ∀ x0 x1 s, Ok [.coaches] s (@report x0 x1 s) := by
  intro x0 x1 s
  delta report
  refine Ok.via (State.modCoach_ok ..) rfl ?_
  exact Ok.refl

theorem crossed_ok : ∀ x0 s, Ok [.legs, .coaches, .reg .LEG_FLTCNT] s (@crossed x0 s) := by
  intro x0 s
  delta crossed
  extract_lets +onlyGivenNames -merge -useContext s0
  clear_value s0
  extract_lets +onlyGivenNames -merge -useContext s1
  refine Ok.withS (x := s1) ?_ fun h2 => ?_
  · unfold s1
    refine Ok.via (State.modLeg_ok ..) rfl ?_
    exact Ok.refl
  clear_value s1
  refine Ok.ite ?_ ?_
  · exact h2
  · refine Ok.via (report_ok ..) rfl ?_
    refine Ok.via (State.inc_at (at_LEG_FLTCNT _)) rfl ?_
    exact h2

theorem legCmd_ok : ∀ x0 x1 x2 s, Ok [.legs, .coaches, .reg .LEG_FLTCNT] s (@legCmd x0 x1 x2 s) := by
  intro x0 x1 x2 s
  delta legCmd
  extract_lets +onlyGivenNames -merge -useContext s0
  refine Ok.withS (x := s0) ?_ fun h1 => ?_
  · unfold s0
    refine Ok.via (State.modLeg_ok ..) rfl ?_
    exact Ok.refl
  clear_value s0
  extract_lets +onlyGivenNames -merge -useContext s2
  clear_value s2
  refine Ok.ite ?_ ?_
  · refine Ok.ite ?_ ?_
    · exact h1
    · refine Ok.via (crossed_ok ..) rfl ?_
      exact h1
  · refine Ok.via (settle_ok ..) rfl ?_
    exact h1

theorem deadTimeEnd_ok : ∀ x0 s, Ok [.legs] s (@deadTimeEnd x0 s) := by
  intro x0 s
  delta deadTimeEnd
  extract_lets +onlyGivenNames -merge -useContext s0
  clear_value s0
  refine Ok.ite ?_ ?_
  · extract_lets +onlyGivenNames -merge -useContext s1
    refine Ok.withS (x := s1) ?_ fun h2 => ?_
    · unfold s1
      refine Ok.via (State.modLeg_ok ..) rfl ?_
      exact Ok.refl
    clear_value s1
    extract_lets +onlyGivenNames -merge -useContext s3
    clear_value s3
    refine Ok.ite ?_ ?_
    · refine Ok.forEach ?_ ?_
      · intro a4 a5
        refine Ok.via (State.modLeg_ok ..) rfl ?_
        exact Ok.refl
      · exact h2
    · exact h2
  · exact Ok.refl

theorem interlockTimeout_ok : ∀ x0 s, Ok [.legs, .coaches, .reg .LEG_FLTCNT] s (@interlockTimeout x0 s) := by
  intro x0 s
  delta interlockTimeout
  extract_lets +onlyGivenNames -merge -useContext s0
  clear_value s0
  refine Ok.ite ?_ ?_
  · extract_lets +onlyGivenNames -merge -useContext s1
    refine Ok.withS (x := s1) ?_ fun h4 => ?_
    · unfold s1
      refine Ok.forEach ?_ ?_
      · intro a2 a3
        refine Ok.via (State.modLeg_ok ..) rfl ?_
        exact Ok.refl
      · exact Ok.refl
    clear_value s1
    refine Ok.via (report_ok ..) rfl ?_
    refine Ok.via (State.inc_at (at_LEG_FLTCNT _)) rfl ?_
    exact h4
  · refine Ok.ite ?_ ?_
    · refine Ok.via (report_ok ..) rfl ?_
      refine Ok.via (State.modLeg_ok ..) rfl ?_
      refine Ok.via (State.inc_at (at_LEG_FLTCNT _)) rfl ?_
      exact Ok.refl
    · exact Ok.refl

theorem killLeg_ok : ∀ x0 s, Ok [.legs] s (@killLeg x0 s) := by
  intro x0 s
  delta killLeg
  refine Ok.via (State.modLeg_ok ..) rfl ?_
  exact Ok.refl

theorem freeLeg_ok : ∀ x0 s, Ok [.legs] s (@freeLeg x0 s) := by
  intro x0 s
  delta freeLeg
  refine Ok.via (State.modLeg_ok ..) rfl ?_
  exact Ok.refl

theorem setEnd_ok : ∀ x0 x1 x2 x3 s, Ok [.legs, .coaches, .reg .LEG_FLTCNT] s (@setEnd x0 x1 x2 x3 s) := by
  intro x0 x1 x2 x3 s
  delta setEnd
  refine Ok.forEach ?_ ?_
  · intro a0 a1
    refine Ok.ite ?_ ?_
    · exact Ok.refl
    · refine Ok.via (legCmd_ok ..) rfl ?_
      exact Ok.refl
  · exact Ok.refl

theorem showCoil_ok : ∀ x0 x1 s, Ok [.legs, .coaches, .reg .LEG_FLTCNT] s (@showCoil x0 x1 s) := by
  intro x0 x1 s
  delta showCoil
  extract_lets +onlyGivenNames -merge -useContext s0
  clear_value s0
  extract_lets +onlyGivenNames -merge -useContext s1
  clear_value s1
  split
  · split
    · refine Ok.via (setEnd_ok ..) rfl ?_
      refine Ok.via (setEnd_ok ..) rfl ?_
      exact Ok.refl
    · refine Ok.via (setEnd_ok ..) rfl ?_
      refine Ok.via (setEnd_ok ..) rfl ?_
      exact Ok.refl
    · refine Ok.via (setEnd_ok ..) rfl ?_
      refine Ok.via (setEnd_ok ..) rfl ?_
      exact Ok.refl
    · refine Ok.via (setEnd_ok ..) rfl ?_
      refine Ok.via (setEnd_ok ..) rfl ?_
      exact Ok.refl
    · refine Ok.via (setEnd_ok ..) rfl ?_
      refine Ok.via (setEnd_ok ..) rfl ?_
      exact Ok.refl
    · refine Ok.via (setEnd_ok ..) rfl ?_
      refine Ok.via (setEnd_ok ..) rfl ?_
      exact Ok.refl

theorem coilTo_ok : ∀ x0 x1 x2 s, Ok [.legs, .coils, .coaches, .reg .LEG_FLTCNT] s (@coilTo x0 x1 x2 s) := by
  intro x0 x1 x2 s
  delta coilTo
  refine Ok.via (showCoil_ok ..) rfl ?_
  refine Ok.via (State.modCoil_ok ..) rfl ?_
  exact Ok.refl

theorem enterDecay_ok : ∀ x0 x1 x2 s, Ok [.legs, .coils, .coaches, .reg .LEG_FLTCNT] s (@enterDecay x0 x1 x2 s) := by
  intro x0 x1 x2 s
  delta enterDecay
  extract_lets +onlyGivenNames -merge -useContext s0
  clear_value s0
  extract_lets +onlyGivenNames -merge -useContext s1
  clear_value s1
  extract_lets +onlyGivenNames -merge -useContext s2
  refine Ok.withS (x := s2) ?_ fun h3 => ?_
  · unfold s2
    refine Ok.via (State.modCoil_ok ..) rfl ?_
    exact Ok.refl
  clear_value s2
  refine Ok.via (coilTo_ok ..) rfl ?_
  exact h3

theorem beginChop_ok : ∀ x0 x1 x2 s, Ok [.legs, .coils, .coaches, .reg .LEG_FLTCNT] s (@beginChop x0 x1 x2 s) := by
  intro x0 x1 x2 s
  delta beginChop
  refine Ok.ite ?_ ?_
  · refine Ok.via (coilTo_ok ..) rfl ?_
    refine Ok.via (State.modCoil_ok ..) rfl ?_
    exact Ok.refl
  · refine Ok.via (enterDecay_ok ..) rfl ?_
    refine Ok.via (State.modCoil_ok ..) rfl ?_
    exact Ok.refl

theorem sense_ok : ∀ x0 x1 s, Ok [.coaches] s (@sense x0 x1 s) := by
  intro x0 x1 s
  delta sense
  refine Ok.via (State.modCoach_ok ..) rfl ?_
  exact Ok.refl

theorem dropSar_ok : ∀ x0 x1 s, Ok [.coaches] s (@dropSar x0 x1 s) := by
  intro x0 x1 s
  delta dropSar
  refine Ok.via (State.modCoach_ok ..) rfl ?_
  exact Ok.refl

theorem windowAbandon_ok : ∀ x0 x1 s, Ok [.legs, .coils, .coaches, .reg .LEG_FLTCNT] s (@windowAbandon x0 x1 s) := by
  intro x0 x1 s
  delta windowAbandon
  refine Ok.ite ?_ ?_
  · extract_lets +onlyGivenNames -merge -useContext s0
    refine Ok.withS (x := s0) ?_ fun h1 => ?_
    · unfold s0
      refine Ok.via (sense_ok ..) rfl ?_
      exact Ok.refl
    clear_value s0
    refine Ok.via (beginChop_ok ..) rfl ?_
    refine Ok.via (dropSar_ok ..) rfl ?_
    exact h1
  · exact Ok.refl

theorem windowZero_ok : ∀ x0 x1 x2 s, Ok [.legs, .coils, .coaches, .reg .LEG_FLTCNT] s (@windowZero x0 x1 x2 s) := by
  intro x0 x1 x2 s
  delta windowZero
  refine Ok.ite ?_ ?_
  · refine Ok.via (coilTo_ok ..) rfl ?_
    refine Ok.via (State.modCoil_ok ..) rfl ?_
    exact Ok.refl
  · exact Ok.refl

theorem sarRequest_ok : ∀ x0 x1 s, Ok [.coils, .coaches] s (@sarRequest x0 x1 s) := by
  intro x0 x1 s
  delta sarRequest
  refine Ok.ite ?_ ?_
  · refine Ok.via (State.modCoach_ok ..) rfl ?_
    refine Ok.via (State.modCoil_ok ..) rfl ?_
    exact Ok.refl
  · exact Ok.refl

theorem sarConversion_ok : ∀ x0 x1 x2 s, Ok [.legs, .coils, .coaches, .reg .LEG_FLTCNT] s (@sarConversion x0 x1 x2 s) := by
  intro x0 x1 x2 s
  delta sarConversion
  extract_lets +onlyGivenNames -merge -useContext s0
  clear_value s0
  refine Ok.ite ?_ ?_
  · extract_lets +onlyGivenNames -merge -useContext s1
    clear_value s1
    extract_lets +onlyGivenNames -merge -useContext s2
    clear_value s2
    extract_lets +onlyGivenNames -merge -useContext s3
    refine Ok.withS (x := s3) ?_ fun h4 => ?_
    · unfold s3
      refine Ok.via (sense_ok ..) rfl ?_
      exact Ok.refl
    clear_value s3
    refine Ok.via (beginChop_ok ..) rfl ?_
    refine Ok.via (dropSar_ok ..) rfl ?_
    exact h4
  · exact Ok.refl

theorem blankingEnd_ok : ∀ x0 x1 s, Ok [.coils] s (@blankingEnd x0 x1 s) := by
  intro x0 x1 s
  delta blankingEnd
  extract_lets +onlyGivenNames -merge -useContext s0
  clear_value s0
  extract_lets +onlyGivenNames -merge -useContext s1
  clear_value s1
  split
  · refine Ok.ite ?_ ?_
    · refine Ok.via (State.modCoil_ok ..) rfl ?_
      exact Ok.refl
    · exact Ok.refl

theorem driveEnd_ok : ∀ x0 x1 x2 x3 s, Ok [.legs, .coils, .coaches, .reg .LEG_FLTCNT] s (@driveEnd x0 x1 x2 x3 s) := by
  intro x0 x1 x2 x3 s
  delta driveEnd
  refine Ok.via (enterDecay_ok ..) rfl ?_
  refine Ok.via (State.modCoil_ok ..) rfl ?_
  exact Ok.refl

theorem mixedSwitch_ok : ∀ x0 x1 s, Ok [.legs, .coils, .coaches, .reg .LEG_FLTCNT] s (@mixedSwitch x0 x1 s) := by
  intro x0 x1 s
  delta mixedSwitch
  extract_lets +onlyGivenNames -merge -useContext s0
  clear_value s0
  refine Ok.ite ?_ ?_
  · refine Ok.via (coilTo_ok ..) rfl ?_
    exact Ok.refl
  · exact Ok.refl

theorem zeroGuard_ok : ∀ x0 x1 s, Ok [.legs, .coils, .coaches, .reg .LEG_FLTCNT] s (@zeroGuard x0 x1 s) := by
  intro x0 x1 s
  delta zeroGuard
  refine Ok.ite ?_ ?_
  · refine Ok.via (coilTo_ok ..) rfl ?_
    exact Ok.refl
  · exact Ok.refl

theorem imbPct_ok : ∀ x0 x1 s, OkP [.free] s (@imbPct x0 x1 s) := by
  intro x0 x1 s
  delta imbPct
  refine OkP.ite ?_ ?_
  · refine OkP.mk ?_
    exact Ok.refl
  · split
    · rename_i t0 e1
      refine OkP.withS (x := t0) (OkP.of_eq e1 ?_) fun h2 => ?_
      · refine OkP.via (State.fresh_ok ..) rfl ?_
        exact Ok.refl
      refine OkP.mk ?_
      exact h2

theorem balance_ok : ∀ x0 x1 x2 x3 s, Ok [.free, .coils, .coaches] s (@balance x0 x1 x2 x3 s) := by
  intro x0 x1 x2 x3 s
  delta balance
  extract_lets +onlyGivenNames -merge -useContext s0
  clear_value s0
  extract_lets +onlyGivenNames -merge -useContext s1
  clear_value s1
  extract_lets +onlyGivenNames -merge -useContext s2
  clear_value s2
  extract_lets +onlyGivenNames -merge -useContext s3
  clear_value s3
  split
  · refine Ok.ite ?_ ?_
    · exact Ok.refl
    · refine Ok.ite ?_ ?_
      · refine Ok.via (State.modCoil_ok ..) rfl ?_
        exact Ok.refl
      · extract_lets +onlyGivenNames -merge -useContext s4
        clear_value s4
        extract_lets +onlyGivenNames -merge -useContext s5
        clear_value s5
        extract_lets +onlyGivenNames -merge -useContext s6
        refine Ok.withS (x := s6) ?_ fun h7 => ?_
        · unfold s6
          refine Ok.via (State.modCoil_ok ..) rfl ?_
          exact Ok.refl
        clear_value s6
        refine Ok.ite ?_ ?_
        · split
          · rename_i t8 e9
            refine Ok.withS (x := t8) (OkP.of_eq e9 ?_) fun h10 => ?_
            · refine OkP.via (imbPct_ok ..) rfl ?_
              exact h7
            refine Ok.via (report_ok ..) rfl ?_
            exact h10
        · exact h7

theorem gangOffs_ok : ∀ x0 x1 s, Ok [.free, .coils, .coaches] s (@gangOffs x0 x1 s) := by
  intro x0 x1 s
  delta gangOffs
  refine Ok.foldl ?_ ?_
  · intro u0 x1
    split
    · refine Ok.ite ?_ ?_
      · refine Ok.via (balance_ok ..) rfl ?_
        exact Ok.refl
      · exact Ok.refl
  · exact Ok.refl

theorem comparatorTrip_ok : ∀ x0 x1 x2 x3 x4 x5 s, Ok [.free, .legs, .coils, .coaches, .reg .LEG_FLTCNT] s (@comparatorTrip x0 x1 x2 x3 x4 x5 s) := by
  intro x0 x1 x2 x3 x4 x5 s
  delta comparatorTrip
  extract_lets +onlyGivenNames -merge -useContext s0
  clear_value s0
  refine Ok.ite ?_ ?_
  · refine Ok.via (balance_ok ..) rfl ?_
    refine Ok.via (driveEnd_ok ..) rfl ?_
    refine Ok.via (gangOffs_ok ..) rfl ?_
    exact Ok.refl
  · exact Ok.refl

theorem overcurrent_ok : ∀ x0 x1 x2 x3 x4 x5 x6 s, Ok [.free, .legs, .coils, .coaches, .reg .LEG_FLTCNT] s (@overcurrent x0 x1 x2 x3 x4 x5 x6 s) := by
  intro x0 x1 x2 x3 x4 x5 x6 s
  delta overcurrent
  extract_lets +onlyGivenNames -merge -useContext s0
  clear_value s0
  extract_lets +onlyGivenNames -merge -useContext s1
  clear_value s1
  split
  · extract_lets +onlyGivenNames -merge -useContext s2
    clear_value s2
    extract_lets +onlyGivenNames -merge -useContext s3
    clear_value s3
    extract_lets +onlyGivenNames -merge -useContext s4
    clear_value s4
    extract_lets +onlyGivenNames -merge -useContext s5
    clear_value s5
    refine Ok.ite ?_ ?_
    · extract_lets +onlyGivenNames -merge -useContext s6
      refine Ok.withS (x := s6) ?_ fun h9 => ?_
      · unfold s6
        refine Ok.forEach ?_ ?_
        · intro a7 a8
          refine Ok.ite ?_ ?_
          · refine Ok.via (State.modLeg_ok ..) rfl ?_
            exact Ok.refl
          · exact Ok.refl
        · exact Ok.refl
      clear_value s6
      extract_lets +onlyGivenNames -merge -useContext s10
      refine Ok.withS (x := s10) ?_ fun h11 => ?_
      · unfold s10
        refine Ok.via (State.modLeg_ok ..) rfl ?_
        exact h9
      clear_value s10
      extract_lets +onlyGivenNames -merge -useContext s12
      refine Ok.withS (x := s12) ?_ fun h15 => ?_
      · unfold s12
        refine Ok.forEach ?_ ?_
        · intro a13 a14
          refine Ok.via (settle_ok ..) rfl ?_
          refine Ok.via (State.modLeg_ok ..) rfl ?_
          exact Ok.refl
        · exact h11
      clear_value s12
      extract_lets +onlyGivenNames -merge -useContext s16
      refine Ok.withS (x := s16) ?_ fun h17 => ?_
      · unfold s16
        refine Ok.ite ?_ ?_
        · refine Ok.ite ?_ ?_
          · exact h15
          · refine Ok.via (State.modLeg_ok ..) rfl ?_
            refine Ok.via (State.inc_at (at_LEG_FLTCNT _)) rfl ?_
            exact h15
        · refine Ok.ite ?_ ?_
          · exact h15
          · refine Ok.via (State.modLeg_ok ..) rfl ?_
            refine Ok.via (State.inc_at (at_LEG_FLTCNT _)) rfl ?_
            exact h15
      clear_value s16
      extract_lets +onlyGivenNames -merge -useContext s18
      refine Ok.withS (x := s18) ?_ fun h19 => ?_
      · unfold s18
        refine Ok.via (report_ok ..) rfl ?_
        exact h17
      clear_value s18
      extract_lets +onlyGivenNames -merge -useContext s20
      refine Ok.withS (x := s20) ?_ fun h21 => ?_
      · unfold s20
        refine Ok.via (gangOffs_ok ..) rfl ?_
        refine Ok.ite ?_ ?_
        · refine Ok.via (balance_ok ..) rfl ?_
          exact h19
        · exact h19
      clear_value s20
      extract_lets +onlyGivenNames -merge -useContext s22
      clear_value s22
      split
      · refine Ok.ite ?_ ?_
        · refine Ok.via (driveEnd_ok ..) rfl ?_
          exact h21
        · exact h21
    · exact Ok.refl

theorem startPeriod_ok : ∀ x0 x1 x2 s, Ok [.legs, .coils, .coaches, .reg .LEG_FLTCNT] s (@startPeriod x0 x1 x2 s) := by
  intro x0 x1 x2 s
  delta startPeriod
  extract_lets +onlyGivenNames -merge -useContext s0
  clear_value s0
  extract_lets +onlyGivenNames -merge -useContext s1
  clear_value s1
  extract_lets +onlyGivenNames -merge -useContext s2
  refine Ok.withS (x := s2) ?_ fun h3 => ?_
  · unfold s2
    refine Ok.via (State.modCoil_ok ..) rfl ?_
    exact Ok.refl
  clear_value s2
  split
  · refine Ok.via (coilTo_ok ..) rfl ?_
    exact h3
  · refine Ok.via (beginChop_ok ..) rfl ?_
    exact h3
  · refine Ok.via (coilTo_ok ..) rfl ?_
    exact h3
  · refine Ok.via (coilTo_ok ..) rfl ?_
    refine Ok.via (State.modCoil_ok ..) rfl ?_
    exact h3

theorem decayFlags_ok : ∀ x0 x1 s, Ok [.coaches] s (@decayFlags x0 x1 s) := by
  intro x0 x1 s
  delta decayFlags
  extract_lets +onlyGivenNames -merge -useContext s0
  clear_value s0
  extract_lets +onlyGivenNames -merge -useContext s1
  clear_value s1
  extract_lets +onlyGivenNames -merge -useContext s2
  clear_value s2
  extract_lets +onlyGivenNames -merge -useContext s3
  clear_value s3
  extract_lets +onlyGivenNames -merge -useContext s4
  clear_value s4
  refine Ok.ite ?_ ?_
  · exact Ok.refl
  · refine Ok.via (sense_ok ..) rfl ?_
    exact Ok.refl

theorem overrideStart_ok : ∀ x0 s, Ok [.legs, .coaches, .reg .LEG_FLTCNT] s (@overrideStart x0 s) := by
  intro x0 s
  delta overrideStart
  extract_lets +onlyGivenNames -merge -useContext s0
  clear_value s0
  refine Ok.ite ?_ ?_
  · extract_lets +onlyGivenNames -merge -useContext s1
    clear_value s1
    refine Ok.via (legCmd_ok ..) rfl ?_
    exact Ok.refl
  · exact Ok.refl

theorem overrideEnd_ok : ∀ x0 s, Ok [.legs, .coaches, .reg .LEG_FLTCNT] s (@overrideEnd x0 s) := by
  intro x0 s
  delta overrideEnd
  refine Ok.ite ?_ ?_
  · refine Ok.forEach ?_ ?_
    · intro a0 a1
      refine Ok.via (legCmd_ok ..) rfl ?_
      exact Ok.refl
    · exact Ok.refl
  · exact Ok.refl

theorem overrideOff_ok : ∀ x0 s, Ok [.legs, .coaches, .reg .LEG_FLTCNT] s (@overrideOff x0 s) := by
  intro x0 s
  delta overrideOff
  split
  · refine Ok.via (showCoil_ok ..) rfl ?_
    exact Ok.refl

theorem legPeriod_ok : ∀ x0 s, Ok [.legs] s (@legPeriod x0 s) := by
  intro x0 s
  delta legPeriod
  refine Ok.via (State.modLeg_ok ..) rfl ?_
  exact Ok.refl

theorem rankStart_ok : ∀ x0 x1 x2 s, Ok [.free, .legs, .coils, .coaches, .reg .LEG_FLTCNT] s (@rankStart x0 x1 x2 s) := by
  intro x0 x1 x2 s
  delta rankStart
  extract_lets +onlyGivenNames -merge -useContext s0
  clear_value s0
  refine Ok.ite ?_ ?_
  · exact Ok.refl
  · extract_lets +onlyGivenNames -merge -useContext s1
    refine Ok.withS (x := s1) ?_ fun h2 => ?_
    · unfold s1
      refine Ok.via (gangOffs_ok ..) rfl ?_
      exact Ok.refl
    clear_value s1
    extract_lets +onlyGivenNames -merge -useContext s3
    refine Ok.withS (x := s3) ?_ fun h6 => ?_
    · unfold s3
      refine Ok.forEach ?_ ?_
      · intro a4 a5
        refine Ok.via (windowAbandon_ok ..) rfl ?_
        exact Ok.refl
      · exact h2
    clear_value s3
    extract_lets +onlyGivenNames -merge -useContext s7
    refine Ok.withS (x := s7) ?_ fun h8 => ?_
    · unfold s7
      refine Ok.via (decayFlags_ok ..) rfl ?_
      exact h6
    clear_value s7
    extract_lets +onlyGivenNames -merge -useContext s9
    refine Ok.withS (x := s9) ?_ fun h10 => ?_
    · unfold s9
      refine Ok.via (State.modCoach_ok ..) rfl ?_
      exact h8
    clear_value s9
    extract_lets +onlyGivenNames -merge -useContext s11
    refine Ok.withS (x := s11) ?_ fun h14 => ?_
    · unfold s11
      refine Ok.forEach ?_ ?_
      · intro a12 a13
        refine Ok.via (legPeriod_ok ..) rfl ?_
        exact Ok.refl
      · exact h10
    clear_value s11
    extract_lets +onlyGivenNames -merge -useContext s15
    clear_value s15
    refine Ok.ite ?_ ?_
    · refine Ok.forEach ?_ ?_
      · intro a16 a17
        refine Ok.via (legCmd_ok ..) rfl ?_
        exact Ok.refl
      · exact h14
    · extract_lets +onlyGivenNames -merge -useContext s18
      clear_value s18
      extract_lets +onlyGivenNames -merge -useContext s19
      refine Ok.withS (x := s19) ?_ fun h22 => ?_
      · unfold s19
        refine Ok.forEach ?_ ?_
        · intro a20 a21
          refine Ok.ite ?_ ?_
          · refine Ok.via (startPeriod_ok ..) rfl ?_
            exact Ok.refl
          · exact Ok.refl
        · exact h14
      clear_value s19
      refine Ok.forEach ?_ ?_
      · intro a23 a24
        refine Ok.via (overrideStart_ok ..) rfl ?_
        exact Ok.refl
      · exact h22

theorem adaptLeg_ok : ∀ x0 x1 s, Ok [.legs, .coaches, .reg .LEG_STAT] s (@adaptLeg x0 x1 s) := by
  intro x0 x1 s
  delta adaptLeg
  extract_lets +onlyGivenNames -merge -useContext s0
  clear_value s0
  refine Ok.ite ?_ ?_
  · exact Ok.refl
  · refine Ok.ite ?_ ?_
    · refine Ok.via (holdCode_ok ..) rfl ?_
      exact Ok.refl
    · refine Ok.ite ?_ ?_
      · exact Ok.refl
      · extract_lets +onlyGivenNames -merge -useContext s1
        clear_value s1
        extract_lets +onlyGivenNames -merge -useContext s2
        clear_value s2
        extract_lets +onlyGivenNames -merge -useContext s3
        clear_value s3
        extract_lets +onlyGivenNames -merge -useContext s4
        clear_value s4
        extract_lets +onlyGivenNames -merge -useContext s5
        clear_value s5
        extract_lets +onlyGivenNames -merge -useContext s6
        clear_value s6
        extract_lets +onlyGivenNames -merge -useContext s7
        clear_value s7
        refine Ok.ite ?_ ?_
        · extract_lets +onlyGivenNames -merge -useContext s8
          clear_value s8
          extract_lets +onlyGivenNames -merge -useContext s9
          refine Ok.withS (x := s9) ?_ fun h10 => ?_
          · unfold s9
            refine Ok.via (State.put_at (at_LEG_STAT _)) rfl ?_
            refine Ok.via (State.modLeg_ok ..) rfl ?_
            exact Ok.refl
          clear_value s9
          refine Ok.ite ?_ ?_
          · refine Ok.via (report_ok ..) rfl ?_
            exact h10
          · exact h10
        · extract_lets +onlyGivenNames -merge -useContext s11
          refine Ok.withS (x := s11) ?_ fun h12 => ?_
          · unfold s11
            refine Ok.via (State.put_at (at_LEG_STAT _)) rfl ?_
            refine Ok.via (State.modLeg_ok ..) rfl ?_
            exact Ok.refl
          clear_value s11
          refine Ok.via (State.put_at (at_LEG_STAT _)) rfl ?_
          exact h12

theorem adapt_ok : ∀ x0 x1 s, Ok [.legs, .coaches, .reg .LEG_EDGE, .reg .LEG_STAT] s (@adapt x0 x1 s) := by
  intro x0 x1 s
  delta adapt
  extract_lets +onlyGivenNames -merge -useContext s0
  clear_value s0
  extract_lets +onlyGivenNames -merge -useContext s1
  refine Ok.withS (x := s1) ?_ fun h4 => ?_
  · unfold s1
    refine Ok.foldl ?_ ?_
    · intro u2 x3
      refine Ok.via (State.put_at2 (at_LEG_EDGE _) (at_LEG_EDGE _)) rfl ?_
      exact Ok.refl
    · exact Ok.refl
  clear_value s1
  extract_lets +onlyGivenNames -merge -useContext s5
  refine Ok.withS (x := s5) ?_ fun h8 => ?_
  · unfold s5
    refine Ok.forEach ?_ ?_
    · intro a6 a7
      refine Ok.via (adaptLeg_ok ..) rfl ?_
      exact Ok.refl
    · exact h4
  clear_value s5
  refine Ok.forEach ?_ ?_
  · intro a9 a10
    refine Ok.via (showFollower_ok ..) rfl ?_
    exact Ok.refl
  · exact h8

theorem showPresent_ok : ∀ x0 s, Ok [.reg .AX_STAT] s (@showPresent x0 s) := by
  intro x0 s
  delta showPresent
  refine Ok.forEach ?_ ?_
  · intro a0 a1
    refine Ok.via (State.putB_at (at_AX_STAT _)) rfl ?_
    exact Ok.refl
  · exact Ok.refl

theorem applyTopology_ok : ∀ x0 s, Ok [.trioQ, .emcyQ, .logQ, .logWin, .legs, .coils, .reg .AXALERT, .reg .AX_STAT, .reg .EV_PEND, .reg .LEG_STAT, .reg .MGS_LOGSTAT, .reg .RK_STAT] s (@applyTopology x0 s) := by
  intro x0 s
  delta applyTopology
  extract_lets +onlyGivenNames -merge -useContext s0
  clear_value s0
  extract_lets +onlyGivenNames -merge -useContext s1
  clear_value s1
  extract_lets +onlyGivenNames -merge -useContext s2
  clear_value s2
  extract_lets +onlyGivenNames -merge -useContext s3
  clear_value s3
  refine Ok.ite ?_ ?_
  · exact Ok.refl
  · extract_lets +onlyGivenNames -merge -useContext s4
    refine Ok.withS (x := s4) ?_ fun h5 => ?_
    · unfold s4
      refine Ok.via (State.put_at (at_RK_STAT _)) rfl ?_
      refine Ok.via (State.put_at (at_RK_STAT _)) rfl ?_
      exact Ok.refl
    clear_value s4
    extract_lets +onlyGivenNames -merge -useContext s6
    refine Ok.withS (x := s6) ?_ fun h7 => ?_
    · unfold s6
      refine Ok.via (State.put_at (at_RK_STAT _)) rfl ?_
      exact h5
    clear_value s6
    extract_lets +onlyGivenNames -merge -useContext s8
    refine Ok.withS (x := s8) ?_ fun h11 => ?_
    · unfold s8
      refine Ok.forEach ?_ ?_
      · intro a9 a10
        refine Ok.via (State.modCoil_ok ..) rfl ?_
        exact Ok.refl
      · exact h7
    clear_value s8
    refine Ok.forEach ?_ ?_
    · intro a14 a15
      refine Ok.via (updAlert_ok ..) rfl ?_
      exact Ok.refl
    · refine Ok.via (showPresent_ok ..) rfl ?_
      refine Ok.forEach ?_ ?_
      · intro a12 a13
        refine Ok.via (showFollower_ok ..) rfl ?_
        exact Ok.refl
      · exact h11

theorem advancePeriod_ok : ∀ x0 x1 s, Ok [.coaches] s (@advancePeriod x0 x1 s) := by
  intro x0 x1 s
  delta advancePeriod
  extract_lets +onlyGivenNames -merge -useContext s0
  clear_value s0
  refine Ok.via (State.modCoach_ok ..) rfl ?_
  exact Ok.refl

theorem coachLoses_ok : ∀ x0 s, Ok [.legs, .coils, .coaches, .reg .CO_LINKSTAT, .reg .LEG_TEST] s (@coachLoses x0 s) := by
  intro x0 s
  delta coachLoses
  extract_lets +onlyGivenNames -merge -useContext s0
  clear_value s0
  refine Ok.via (State.modCoach_ok ..) rfl ?_
  refine Ok.via (coachSafe_ok ..) rfl ?_
  exact Ok.refl

theorem takeSet_ok : ∀ x0 x1 s, Ok [.free, .legs, .coils, .coaches, .reg .CO_LINKSTAT, .reg .LEG_TEST] s (@takeSet x0 x1 s) := by
  intro x0 x1 s
  delta takeSet
  extract_lets +onlyGivenNames -merge -useContext s0
  clear_value s0
  extract_lets +onlyGivenNames -merge -useContext s1
  clear_value s1
  extract_lets +onlyGivenNames -merge -useContext s2
  clear_value s2
  refine Ok.ite ?_ ?_
  · refine Ok.via (State.modCoach_ok ..) rfl ?_
    exact Ok.refl
  · extract_lets +onlyGivenNames -merge -useContext s3
    clear_value s3
    extract_lets +onlyGivenNames -merge -useContext s4
    refine Ok.withS (x := s4) ?_ fun h5 => ?_
    · unfold s4
      refine Ok.via (State.modCoach_ok ..) rfl ?_
      exact Ok.refl
    clear_value s4
    refine Ok.ite ?_ ?_
    · refine Ok.via (coachLoses_ok ..) rfl ?_
      refine Ok.via (gangOffs_ok ..) rfl ?_
      exact h5
    · exact h5

end Sys2Proof.Machine
end

