-- ==== Sys2Proof/Laws/OkLinkOps.lean ====
section
/-!
SUPPORT. Laws/OkLinkOps.lean: for each operation of Machine/LinkOps.lean, the parts of the state it can change, and that it keeps a
good state good.
-/

namespace Sys2Proof.Machine

set_option Elab.async false

theorem placeWindow_ok : ∀ x0 x1 x2 x3 s, OkP [.axes] s (@placeWindow x0 x1 x2 x3 s) := by
  intro x0 x1 x2 x3 s
  delta placeWindow
  extract_lets +onlyGivenNames -merge -useContext s0
  clear_value s0
  split
  · refine OkP.mk ?_
    exact Ok.refl
  · refine OkP.ite ?_ ?_
    · split
      · refine OkP.mk ?_
        exact Ok.refl
      · extract_lets +onlyGivenNames -merge -useContext s1
        clear_value s1
        extract_lets +onlyGivenNames -merge -useContext s2
        clear_value s2
        extract_lets +onlyGivenNames -merge -useContext s3
        clear_value s3
        extract_lets +onlyGivenNames -merge -useContext s4
        clear_value s4
        refine OkP.mk ?_
        refine Ok.via (State.modSe_ok ..) rfl ?_
        exact Ok.refl
    · refine OkP.mk ?_
      exact Ok.refl

theorem buildAxis_ok : ∀ x0 x1 s, OkP [.axes, .reg .AX_CSEFF, .reg .AX_DECAYST, .reg .AX_THR] s (@buildAxis x0 x1 s) := by
  intro x0 x1 s
  delta buildAxis
  split
  · rename_i t0 e1
    refine OkP.withS (x := t0) (OkP.of_eq e1 ?_) fun h2 => ?_
    · refine OkP.via (placeWindow_ok ..) rfl ?_
      exact Ok.refl
    split
    · rename_i t3 e4
      refine OkP.withS (x := t3) (OkP.of_eq e4 ?_) fun h5 => ?_
      · refine OkP.via (placeWindow_ok ..) rfl ?_
        exact h2
      split
      · extract_lets +onlyGivenNames -merge -useContext s6
        refine OkP.withS (x := s6) ?_ fun h7 => ?_
        · unfold s6
          refine Ok.via (State.modSe_ok ..) rfl ?_
          exact h5
        clear_value s6
        extract_lets +onlyGivenNames -merge -useContext s8
        refine OkP.withS (x := s8) ?_ fun h9 => ?_
        · unfold s8
          refine Ok.via (State.put_at (at_AX_THR _)) rfl ?_
          refine Ok.via (State.put_at (at_AX_THR _)) rfl ?_
          refine Ok.via (State.put_at (at_AX_THR _)) rfl ?_
          exact h7
        clear_value s8
        extract_lets +onlyGivenNames -merge -useContext s10
        refine OkP.withS (x := s10) ?_ fun h11 => ?_
        · unfold s10
          refine Ok.via (State.put_at (at_AX_THR _)) rfl ?_
          refine Ok.via (State.put_at (at_AX_THR _)) rfl ?_
          refine Ok.via (State.put_at (at_AX_THR _)) rfl ?_
          exact h9
        clear_value s10
        extract_lets +onlyGivenNames -merge -useContext s12
        refine OkP.withS (x := s12) ?_ fun h14 => ?_
        · unfold s12
          refine Ok.applyIf ?_ ?_
          · intro a13
            refine Ok.via (State.put_at (at_AX_CSEFF _)) rfl ?_
            exact Ok.refl
          · exact h11
        clear_value s12
        extract_lets +onlyGivenNames -merge -useContext s15
        refine OkP.withS (x := s15) ?_ fun h16 => ?_
        · unfold s15
          refine Ok.via (State.put_at (at_AX_CSEFF _)) rfl ?_
          exact h14
        clear_value s15
        extract_lets +onlyGivenNames -merge -useContext s17
        clear_value s17
        extract_lets +onlyGivenNames -merge -useContext s18
        refine OkP.withS (x := s18) ?_ fun h19 => ?_
        · unfold s18
          refine Ok.via (State.put_at (at_AX_DECAYST _)) rfl ?_
          exact h16
        clear_value s18
        refine OkP.mk ?_
        exact h19

theorem buildRank_ok : ∀ x0 x1 s, OkP [.axes, .reg .AX_CSEFF, .reg .AX_DECAYST, .reg .AX_THR] s (@buildRank x0 x1 s) := by
  intro x0 x1 s
  delta buildRank
  refine OkP.foldl ?_ ?_
  · intro a2 u0 x1
    refine OkP.foldl ?_ ?_
    · intro a5 u3 x4
      split
      · rename_i t6 e7
        refine OkP.withS (x := t6) (OkP.of_eq e7 ?_) fun h8 => ?_
        · refine OkP.mk ?_
          exact Ok.refl
        refine OkP.ite ?_ ?_
        · split
          · rename_i t9 e10
            refine OkP.withS (x := t9) (OkP.of_eq e10 ?_) fun h11 => ?_
            · refine OkP.via (buildAxis_ok ..) rfl ?_
              exact h8
            refine OkP.mk ?_
            exact h11
        · refine OkP.mk ?_
          exact h8
    · refine OkP.mk ?_
      exact Ok.refl
  · refine OkP.mk ?_
    exact Ok.refl

theorem buildSet_ok : ∀ x0 s, Ok (.staged :: .trioQ :: .emcyQ :: .logQ :: .logWin :: .legs :: .coaches :: .axes :: .encs :: .reg .AX_BEMFKE :: .reg .AX_CS :: .reg .AX_CSEFF :: .reg .AX_DECAY :: .reg .AX_DECAYST :: .reg .AX_STALLST :: .reg .AX_STAT :: .reg .AX_THR :: .reg .CMP_CFG :: .reg .CMP_CNTS :: .reg .CMP_COUNT :: .reg .CMP_POS :: .reg .CMP_STAT :: .reg .ENC_STAT :: .reg .EV_PEND :: .reg .LEG_STAT :: .reg .MGS_LOGSTAT :: .reg .STEP_STAT :: []) s (@buildSet x0 s) := by
  intro x0 s
  delta buildSet
  extract_lets +onlyGivenNames -merge -useContext s0
  clear_value s0
  extract_lets +onlyGivenNames -merge -useContext s1
  refine Ok.withS (x := s1) ?_ fun h2 => ?_
  · unfold s1
    refine Ok.via (landPwm_ok ..) rfl ?_
    exact Ok.refl
  clear_value s1
  split
  · rename_i t3 e4
    refine Ok.withS (x := t3) (OkP.of_eq e4 ?_) fun h5 => ?_
    · refine OkP.foldl ?_ ?_
      · intro a8 u6 x7
        split
        · rename_i t9 e10
          refine OkP.withS (x := t9) (OkP.of_eq e10 ?_) fun h11 => ?_
          · refine OkP.via (buildRank_ok ..) rfl ?_
            refine OkP.snd ?_
            refine OkP.mk ?_
            exact Ok.refl
          refine OkP.mk ?_
          exact h11
      · refine OkP.mk ?_
        exact h2
    refine Ok.via (State.modCoach_ok ..) rfl ?_
    exact h5

theorem coachPeriod_ok : ∀ x0 x1 x2 s, Ok (.staged :: .free :: .trioQ :: .emcyQ :: .logQ :: .logWin :: .legs :: .coils :: .coaches :: .axes :: .encs :: .reg .AXALERT :: .reg .AX_BEMFKE :: .reg .AX_CS :: .reg .AX_CSEFF :: .reg .AX_DECAY :: .reg .AX_DECAYST :: .reg .AX_STALLST :: .reg .AX_STAT :: .reg .AX_THR :: .reg .CMP_CFG :: .reg .CMP_CNTS :: .reg .CMP_COUNT :: .reg .CMP_POS :: .reg .CMP_STAT :: .reg .CO_BLANK :: .reg .CO_CHOPCFG :: .reg .CO_DEADT :: .reg .CO_DTRIM :: .reg .CO_LINKSTAT :: .reg .CO_PERCNT :: .reg .CO_PWMPER :: .reg .CO_SLEWTGT :: .reg .ENC_STAT :: .reg .EV_PEND :: .reg .LEG_CFG :: .reg .LEG_EDGE :: .reg .LEG_STAT :: .reg .LEG_TEST :: .reg .MGS_LOGSTAT :: .reg .RK_STAT :: .reg .STEP_STAT :: []) s (@coachPeriod x0 x1 x2 s) := by
  intro x0 x1 x2 s
  delta coachPeriod
  refine Ok.ite ?_ ?_
  · exact Ok.refl
  · extract_lets +onlyGivenNames -merge -useContext s0
    clear_value s0
    extract_lets +onlyGivenNames -merge -useContext s1
    refine Ok.withS (x := s1) ?_ fun h2 => ?_
    · unfold s1
      refine Ok.via (adapt_ok ..) rfl ?_
      exact Ok.refl
    clear_value s1
    extract_lets +onlyGivenNames -merge -useContext s3
    refine Ok.withS (x := s3) ?_ fun h4 => ?_
    · unfold s3
      refine Ok.via (State.incWrap_at (at_CO_PERCNT _)) rfl ?_
      exact h2
    clear_value s3
    extract_lets +onlyGivenNames -merge -useContext s5
    refine Ok.withS (x := s5) ?_ fun h6 => ?_
    · unfold s5
      refine Ok.ite ?_ ?_
      · refine Ok.via (takeSet_ok ..) rfl ?_
        exact h4
      · exact h4
    clear_value s5
    extract_lets +onlyGivenNames -merge -useContext s7
    refine Ok.withS (x := s7) ?_ fun h8 => ?_
    · unfold s7
      refine Ok.via (landLegs_ok ..) rfl ?_
      exact h6
    clear_value s7
    extract_lets +onlyGivenNames -merge -useContext s9
    refine Ok.withS (x := s9) ?_ fun h12 => ?_
    · unfold s9
      refine Ok.ite ?_ ?_
      · exact h8
      · refine Ok.forEach ?_ ?_
        · intro a10 a11
          refine Ok.via (applyTopology_ok ..) rfl ?_
          exact Ok.refl
        · exact h8
    clear_value s9
    extract_lets +onlyGivenNames -merge -useContext s13
    refine Ok.withS (x := s13) ?_ fun h14 => ?_
    · unfold s13
      refine Ok.via (advancePeriod_ok ..) rfl ?_
      exact h12
    clear_value s13
    refine Ok.ite ?_ ?_
    · refine Ok.via (buildSet_ok ..) rfl ?_
      exact h14
    · refine Ok.via (State.modCoach_ok ..) rfl ?_
      exact h14

theorem cmdFrame_ok : ∀ x0 x1 x2 x3 s, Ok [.coaches] s (@cmdFrame x0 x1 x2 x3 s) := by
  intro x0 x1 x2 x3 s
  delta cmdFrame
  refine Ok.ite ?_ ?_
  · exact Ok.refl
  · extract_lets +onlyGivenNames -merge -useContext s0
    refine Ok.withS (x := s0) ?_ fun h1 => ?_
    · unfold s0
      refine Ok.via (State.modCoach_ok ..) rfl ?_
      exact Ok.refl
    clear_value s0
    refine Ok.ite ?_ ?_
    · refine Ok.via (State.modCoach_ok ..) rfl ?_
      exact h1
    · refine Ok.ite ?_ ?_
      · exact h1
      · refine Ok.via (State.modCoach_ok ..) rfl ?_
        exact h1

theorem ctlEffect_ok : ∀ x0 x1 s, Ok [.legs, .coaches, .reg .CO_LINKSTAT, .reg .LEG_FLTCNT] s (@ctlEffect x0 x1 s) := by
  intro x0 x1 s
  delta ctlEffect
  split
  · refine Ok.via (State.modCoach_ok ..) rfl ?_
    exact Ok.refl
  · refine Ok.forEach ?_ ?_
    · intro a0 a1
      refine Ok.via (killLeg_ok ..) rfl ?_
      exact Ok.refl
    · exact Ok.refl
  · extract_lets +onlyGivenNames -merge -useContext s2 s3
    refine Ok.withS (x := s2) ?_ fun h6 => ?_
    · unfold s2
      refine Ok.forEach ?_ ?_
      · intro a4 a5
        refine Ok.via (legCmd_ok ..) rfl ?_
        exact Ok.refl
      · exact Ok.refl
    refine Ok.withS (x := s3) ?_ fun h7 => ?_
    · unfold s3
      refine Ok.ite ?_ ?_
      · refine Ok.via (State.put_at (at_CO_LINKSTAT _)) rfl ?_
        refine Ok.via (State.modCoach_ok ..) rfl ?_
        exact h6
      · exact Ok.refl
    clear_value s2 s3
    refine Ok.forEach ?_ ?_
    · intro a8 a9
      refine Ok.via (freeLeg_ok ..) rfl ?_
      exact Ok.refl
    · exact h7

theorem ctlFrame_ok : ∀ x0 x1 x2 x3 s, Ok [.free, .legs, .coils, .coaches, .reg .CO_LINKSTAT, .reg .LEG_FLTCNT] s (@ctlFrame x0 x1 x2 x3 s) := by
  intro x0 x1 x2 x3 s
  delta ctlFrame
  refine Ok.ite ?_ ?_
  · exact Ok.refl
  · split
    · exact Ok.refl
    · refine Ok.ite ?_ ?_
      · exact Ok.refl
      · extract_lets +onlyGivenNames -merge -useContext s0
        refine Ok.withS (x := s0) ?_ fun h1 => ?_
        · unfold s0
          refine Ok.via (State.modCoach_ok ..) rfl ?_
          exact Ok.refl
        clear_value s0
        refine Ok.ite ?_ ?_
        · refine Ok.via (ctlEffect_ok ..) rfl ?_
          refine Ok.via (gangOffs_ok ..) rfl ?_
          exact h1
        · refine Ok.via (State.modCoach_ok ..) rfl ?_
          exact h1

theorem legFault_ok : ∀ x0 s, Ok [.reg .EV_LEGFLT] s (@legFault x0 s) := by
  intro x0 s
  delta legFault
  refine Ok.via (State.putBitAt_at (at_EV_LEGFLT _)) rfl ?_
  exact Ok.refl

theorem coachWarn_ok : ∀ x0 x1 s, Ok [.trioQ, .emcyQ, .logQ, .logWin, .reg .EV_PEND, .reg .MGS_LOGSTAT] s (@coachWarn x0 x1 s) := by
  intro x0 x1 s
  delta coachWarn
  refine Ok.via (pend_ok ..) rfl ?_
  exact Ok.refl

theorem legCause_ok : ∀ x0 x1 s, Ok (.trioQ :: .emcyQ :: .logQ :: .logWin :: .coaches :: .axes :: .pl :: .reg .AXALERT :: .reg .AX_ACC :: .reg .AX_EPFS :: .reg .AX_FLTCNT :: .reg .AX_FLTSTAT :: .reg .AX_HOMEST :: .reg .AX_MOVEEN :: .reg .AX_STALLST :: .reg .AX_STAT :: .reg .AX_USTAT :: .reg .AX_VEL :: .reg .EV_PEND :: .reg .MGS_LOGSTAT :: .reg .PL_ENERGY_HI :: .reg .PL_ENERGY_LO :: .reg .PL_EVINFO :: .reg .PL_MAKESPAN :: .reg .PL_RES :: .reg .PL_RES_EACT :: .reg .PL_RES_END :: .reg .PL_STAT :: []) s (@legCause x0 x1 s) := by
  intro x0 x1 s
  delta legCause
  extract_lets +onlyGivenNames -merge -useContext s0
  clear_value s0
  refine Ok.ite ?_ ?_
  · refine Ok.via (faultAxis_ok ..) rfl ?_
    exact Ok.refl
  · exact Ok.refl

theorem statReport_ok : ∀ x0 s, Ok (.trioQ :: .emcyQ :: .logQ :: .logWin :: .coaches :: .trips :: .axes :: .pl :: .reg .AXALERT :: .reg .AX_ACC :: .reg .AX_EPFS :: .reg .AX_FLTCNT :: .reg .AX_FLTSTAT :: .reg .AX_HOMEST :: .reg .AX_MOVEEN :: .reg .AX_STALLST :: .reg .AX_STAT :: .reg .AX_USTAT :: .reg .AX_VEL :: .reg .EV_LEGFLT :: .reg .EV_PEND :: .reg .LEG_STAT :: .reg .LEG_TRIP :: .reg .MGS_LOGSTAT :: .reg .PL_ENERGY_HI :: .reg .PL_ENERGY_LO :: .reg .PL_EVINFO :: .reg .PL_MAKESPAN :: .reg .PL_RES :: .reg .PL_RES_EACT :: .reg .PL_RES_END :: .reg .PL_STAT :: .reg .RK_IMB :: .reg .RK_STAT :: []) s (@statReport x0 s) := by
  intro x0 s
  delta statReport
  split
  · extract_lets +onlyGivenNames -merge -useContext s0
    refine Ok.withS (x := s0) ?_ fun h1 => ?_
    · unfold s0
      refine Ok.via (State.put_at2 (at_LEG_STAT _) (at_LEG_STAT _)) rfl ?_
      exact Ok.refl
    clear_value s0
    extract_lets +onlyGivenNames -merge -useContext s2
    refine Ok.withS (x := s2) ?_ fun h3 => ?_
    · unfold s2
      refine Ok.via (State.put_at (at_LEG_TRIP _)) rfl ?_
      refine Ok.via (State.put_at (at_LEG_TRIP _)) rfl ?_
      refine Ok.via (State.putB_at (at_LEG_TRIP _)) rfl ?_
      refine Ok.via (State.putB_at (at_LEG_TRIP _)) rfl ?_
      refine Ok.via (legFault_ok ..) rfl ?_
      exact h1
    clear_value s2
    refine Ok.via (acceptTrip_ok ..) rfl ?_
    exact h3
  · refine Ok.via (legCause_ok ..) rfl ?_
    refine Ok.via (coachWarn_ok ..) rfl ?_
    refine Ok.via (legFault_ok ..) rfl ?_
    refine Ok.via (State.put_at (at_LEG_STAT _)) rfl ?_
    exact Ok.refl
  · refine Ok.via (legCause_ok ..) rfl ?_
    refine Ok.via (coachWarn_ok ..) rfl ?_
    refine Ok.via (legFault_ok ..) rfl ?_
    refine Ok.via (State.put_at (at_LEG_STAT _)) rfl ?_
    exact Ok.refl
  · refine Ok.via (coachWarn_ok ..) rfl ?_
    refine Ok.via (State.put_at (at_LEG_STAT _)) rfl ?_
    exact Ok.refl
  · extract_lets +onlyGivenNames -merge -useContext s4
    clear_value s4
    extract_lets +onlyGivenNames -merge -useContext s5
    clear_value s5
    extract_lets +onlyGivenNames -merge -useContext s6
    refine Ok.withS (x := s6) ?_ fun h7 => ?_
    · unfold s6
      refine Ok.via (State.put_at (at_LEG_STAT _)) rfl ?_
      exact Ok.refl
    clear_value s6
    extract_lets +onlyGivenNames -merge -useContext s8
    refine Ok.withS (x := s8) ?_ fun h9 => ?_
    · unfold s8
      refine Ok.via (State.put_at (at_RK_STAT _)) rfl ?_
      exact h7
    clear_value s8
    extract_lets +onlyGivenNames -merge -useContext s10
    refine Ok.withS (x := s10) ?_ fun h11 => ?_
    · unfold s10
      refine Ok.via (State.put_at (at_RK_IMB _)) rfl ?_
      refine Ok.via (State.put_at (at_RK_IMB _)) rfl ?_
      refine Ok.via (State.put_at (at_RK_IMB _)) rfl ?_
      exact h9
    clear_value s10
    refine Ok.via (updAlert_ok ..) rfl ?_
    exact h11

theorem rankTemp_ok : ∀ x0 x1 x2 s, Ok (.trioQ :: .emcyQ :: .logQ :: .logWin :: .coaches :: .axes :: .pl :: .reg .AXALERT :: .reg .AX_ACC :: .reg .AX_EPFS :: .reg .AX_FLTCNT :: .reg .AX_FLTSTAT :: .reg .AX_HOMEST :: .reg .AX_MOVEEN :: .reg .AX_STALLST :: .reg .AX_STAT :: .reg .AX_USTAT :: .reg .AX_VEL :: .reg .EV_ACT :: .reg .EV_PEND :: .reg .MGS_LOGSTAT :: .reg .PL_ENERGY_HI :: .reg .PL_ENERGY_LO :: .reg .PL_EVINFO :: .reg .PL_MAKESPAN :: .reg .PL_RES :: .reg .PL_RES_EACT :: .reg .PL_RES_END :: .reg .PL_STAT :: .reg .RK_FLTSTAT :: .reg .RK_THERM :: []) s (@rankTemp x0 x1 x2 s) := by
  intro x0 x1 x2 s
  delta rankTemp
  extract_lets +onlyGivenNames -merge -useContext s0
  clear_value s0
  extract_lets +onlyGivenNames -merge -useContext s1
  clear_value s1
  extract_lets +onlyGivenNames -merge -useContext s2
  clear_value s2
  split
  · extract_lets +onlyGivenNames -merge -useContext s3
    refine Ok.withS (x := s3) ?_ fun h4 => ?_
    · unfold s3
      refine Ok.via (State.put_at (at_RK_THERM _)) rfl ?_
      refine Ok.via (State.put_at (at_RK_THERM _)) rfl ?_
      exact Ok.refl
    clear_value s3
    refine Ok.via (State.modCoach_ok ..) rfl ?_
    exact h4
  · extract_lets +onlyGivenNames -merge -useContext s5
    refine Ok.withS (x := s5) ?_ fun h6 => ?_
    · unfold s5
      refine Ok.via (State.putI_at (at_RK_THERM _)) rfl ?_
      refine Ok.via (State.put_at (at_RK_THERM _)) rfl ?_
      exact Ok.refl
    clear_value s5
    extract_lets +onlyGivenNames -merge -useContext s7
    clear_value s7
    extract_lets +onlyGivenNames -merge -useContext s8
    clear_value s8
    extract_lets +onlyGivenNames -merge -useContext s9
    refine Ok.withS (x := s9) ?_ fun h10 => ?_
    · unfold s9
      refine Ok.via (State.modCoach_ok ..) rfl ?_
      exact h6
    clear_value s9
    extract_lets +onlyGivenNames -merge -useContext s11
    clear_value s11
    extract_lets +onlyGivenNames -merge -useContext s12
    refine Ok.withS (x := s12) ?_ fun h13 => ?_
    · unfold s12
      refine Ok.ite ?_ ?_
      · refine Ok.via (coachWarn_ok ..) rfl ?_
        refine Ok.via (State.put_at (at_RK_FLTSTAT _)) rfl ?_
        exact h10
      · refine Ok.ite ?_ ?_
        · refine Ok.via (State.put_at (at_RK_FLTSTAT _)) rfl ?_
          exact h10
        · exact h10
    clear_value s12
    refine Ok.ite ?_ ?_
    · refine Ok.via (rankFault_ok ..) rfl ?_
      exact h13
    · exact h13

theorem measure_ok : ∀ x0 x1 s, Ok (.trioQ :: .emcyQ :: .logQ :: .logWin :: .coaches :: .axes :: .pl :: .reg .AXALERT :: .reg .AX_ACC :: .reg .AX_EPFS :: .reg .AX_FLTCNT :: .reg .AX_FLTSTAT :: .reg .AX_HOMEST :: .reg .AX_MOVEEN :: .reg .AX_STALLST :: .reg .AX_STAT :: .reg .AX_USTAT :: .reg .AX_VEL :: .reg .CO_STAT :: .reg .CO_TEMP :: .reg .CO_TEMPMAX :: .reg .CO_VM :: .reg .EV_ACT :: .reg .EV_PEND :: .reg .MGS_LOGSTAT :: .reg .PL_ENERGY_HI :: .reg .PL_ENERGY_LO :: .reg .PL_EVINFO :: .reg .PL_MAKESPAN :: .reg .PL_RES :: .reg .PL_RES_EACT :: .reg .PL_RES_END :: .reg .PL_STAT :: .reg .RK_FLTSTAT :: .reg .RK_STAT :: .reg .RK_THERM :: .reg .RK_VCP :: []) s (@measure x0 x1 s) := by
  intro x0 x1 s
  delta measure
  extract_lets +onlyGivenNames -merge -useContext s0
  refine Ok.withS (x := s0) ?_ fun h3 => ?_
  · unfold s0
    refine Ok.forEach ?_ ?_
    · intro a1 a2
      split
      · refine Ok.via (State.putI_at (at_CO_TEMP _ _)) rfl ?_
        refine Ok.via (State.put_at (at_CO_TEMP _ _)) rfl ?_
        exact Ok.refl
      · refine Ok.via (State.put_at (at_CO_TEMP _ _)) rfl ?_
        refine Ok.via (State.put_at (at_CO_TEMP _ _)) rfl ?_
        exact Ok.refl
    · exact Ok.refl
  clear_value s0
  extract_lets +onlyGivenNames -merge -useContext s4
  refine Ok.withS (x := s4) ?_ fun h5 => ?_
  · unfold s4
    split
    · refine Ok.via (State.putI_at (at_CO_TEMPMAX _)) rfl ?_
      refine Ok.via (State.put_at (at_CO_TEMPMAX _)) rfl ?_
      exact h3
    · exact h3
  clear_value s4
  extract_lets +onlyGivenNames -merge -useContext s6
  refine Ok.withS (x := s6) ?_ fun h7 => ?_
  · unfold s6
    refine Ok.via (State.putB_at (at_CO_STAT _)) rfl ?_
    refine Ok.via (State.put_at (at_CO_VM _)) rfl ?_
    exact h5
  clear_value s6
  extract_lets +onlyGivenNames -merge -useContext s8
  refine Ok.withS (x := s8) ?_ fun h9 => ?_
  · unfold s8
    refine Ok.ite ?_ ?_
    · refine Ok.via (State.modCoach_ok ..) rfl ?_
      exact h7
    · exact h7
  clear_value s8
  extract_lets +onlyGivenNames -merge -useContext s10
  refine Ok.withS (x := s10) ?_ fun h11 => ?_
  · unfold s10
    refine Ok.via (State.modCoach_ok ..) rfl ?_
    exact h9
  clear_value s10
  refine Ok.forEach ?_ ?_
  · intro a12 a13
    extract_lets +onlyGivenNames -merge -useContext s14
    clear_value s14
    extract_lets +onlyGivenNames -merge -useContext s15
    clear_value s15
    extract_lets +onlyGivenNames -merge -useContext s16
    refine Ok.withS (x := s16) ?_ fun h17 => ?_
    · unfold s16
      refine Ok.via (State.putB_at (at_RK_STAT _)) rfl ?_
      refine Ok.via (State.put_at (at_RK_VCP _)) rfl ?_
      exact Ok.refl
    clear_value s16
    extract_lets +onlyGivenNames -merge -useContext s18
    refine Ok.withS (x := s18) ?_ fun h19 => ?_
    · unfold s18
      refine Ok.ite ?_ ?_
      · refine Ok.via (State.modCoach_ok ..) rfl ?_
        exact h17
      · exact h17
    clear_value s18
    refine Ok.via (rankTemp_ok ..) rfl ?_
    exact h19
  · exact h11

theorem rollUp_ok : ∀ x0 s, Ok [.coaches, .reg .CO_STAT, .reg .EV_ACT, .reg .RK_FLTSTAT, .reg .RK_STAT] s (@rollUp x0 s) := by
  intro x0 s
  delta rollUp
  extract_lets +onlyGivenNames -merge -useContext s0
  clear_value s0
  extract_lets +onlyGivenNames -merge -useContext s1
  refine Ok.withS (x := s1) ?_ fun h2 => ?_
  · unfold s1
    refine Ok.via (State.put_at (at_CO_STAT _)) rfl ?_
    exact Ok.refl
  clear_value s1
  extract_lets +onlyGivenNames -merge -useContext s3
  refine Ok.withS (x := s3) ?_ fun h4 => ?_
  · unfold s3
    refine Ok.via (State.put_at (at_CO_STAT _)) rfl ?_
    exact h2
  clear_value s3
  extract_lets +onlyGivenNames -merge -useContext s5
  refine Ok.withS (x := s5) ?_ fun h6 => ?_
  · unfold s5
    refine Ok.via (State.put_at (at_CO_STAT _)) rfl ?_
    exact h4
  clear_value s5
  extract_lets +onlyGivenNames -merge -useContext s7
  refine Ok.withS (x := s7) ?_ fun h8 => ?_
  · unfold s7
    refine Ok.via (setAct_ok ..) rfl ?_
    exact h6
  clear_value s7
  refine Ok.forEach ?_ ?_
  · intro a9 a10
    extract_lets +onlyGivenNames -merge -useContext s11
    clear_value s11
    refine Ok.via (updRank_ok ..) rfl ?_
    refine Ok.ite ?_ ?_
    · refine Ok.via (State.modCoach_ok ..) rfl ?_
      refine Ok.via (State.put_at (at_RK_STAT _)) rfl ?_
      exact Ok.refl
    · exact Ok.refl
  · exact h8

theorem discardUp_ok : ∀ x0 s, Ok [.reg .CO_LINKERR] s (@discardUp x0 s) := by
  intro x0 s
  delta discardUp
  refine Ok.via (State.inc_at (at_CO_LINKERR _)) rfl ?_
  exact Ok.refl

theorem statFrame_ok : ∀ x0 x1 x2 x3 s, Ok (.snap :: .trioQ :: .emcyQ :: .logQ :: .logWin :: .coaches :: .trips :: .axes :: .pl :: .reg .AXALERT :: .reg .AX_ACC :: .reg .AX_EPFS :: .reg .AX_FLTCNT :: .reg .AX_FLTSTAT :: .reg .AX_HOMEST :: .reg .AX_MOVEEN :: .reg .AX_STALLST :: .reg .AX_STAT :: .reg .AX_USTAT :: .reg .AX_VEL :: .reg .CO_LINKERR :: .reg .CO_STAT :: .reg .CO_TEMP :: .reg .CO_TEMPMAX :: .reg .CO_VM :: .reg .EV_ACT :: .reg .EV_LEGFLT :: .reg .EV_PEND :: .reg .LEG_STAT :: .reg .LEG_TRIP :: .reg .MGS_LOGSTAT :: .reg .PL_ENERGY_HI :: .reg .PL_ENERGY_LO :: .reg .PL_EVINFO :: .reg .PL_MAKESPAN :: .reg .PL_RES :: .reg .PL_RES_EACT :: .reg .PL_RES_END :: .reg .PL_STAT :: .reg .RK_FLTSTAT :: .reg .RK_IMB :: .reg .RK_STAT :: .reg .RK_THERM :: .reg .RK_VCP :: []) s (@statFrame x0 x1 x2 x3 s) := by
  intro x0 x1 x2 x3 s
  delta statFrame
  refine Ok.ite ?_ ?_
  · exact Ok.refl
  · extract_lets +onlyGivenNames -merge -useContext s0
    refine Ok.withS (x := s0) ?_ fun h1 => ?_
    · unfold s0
      refine Ok.via (State.addSat_at (at_CO_LINKERR _)) rfl ?_
      refine Ok.via (State.modCoach_ok ..) rfl ?_
      exact Ok.refl
    clear_value s0
    extract_lets +onlyGivenNames -merge -useContext s2
    clear_value s2
    extract_lets +onlyGivenNames -merge -useContext s3
    refine Ok.withS (x := s3) ?_ fun h4 => ?_
    · unfold s3
      refine Ok.via (State.modCoach_ok ..) rfl ?_
      exact h1
    clear_value s3
    refine Ok.ite ?_ ?_
    · refine Ok.via (discardUp_ok ..) rfl ?_
      exact h4
    · extract_lets +onlyGivenNames -merge -useContext s5
      refine Ok.withS (x := s5) ?_ fun h6 => ?_
      · unfold s5
        refine Ok.via (State.modCoach_ok ..) rfl ?_
        exact h4
      clear_value s5
      extract_lets +onlyGivenNames -merge -useContext s7
      refine Ok.withS (x := s7) ?_ fun h8 => ?_
      · unfold s7
        refine Ok.via (State.addSat_at (at_CO_LINKERR _)) rfl ?_
        refine Ok.via (State.addSat_at (at_CO_LINKERR _)) rfl ?_
        exact h6
      clear_value s7
      extract_lets +onlyGivenNames -merge -useContext s9
      refine Ok.withS (x := s9) ?_ fun h12 => ?_
      · unfold s9
        refine Ok.forEach ?_ ?_
        · intro a10 a11
          refine Ok.via (coachWarn_ok ..) rfl ?_
          exact Ok.refl
        · exact h8
      clear_value s9
      extract_lets +onlyGivenNames -merge -useContext s13
      refine Ok.withS (x := s13) ?_ fun h16 => ?_
      · unfold s13
        refine Ok.foldl ?_ ?_
        · intro u14 x15
          refine Ok.via (statReport_ok ..) rfl ?_
          exact Ok.refl
        · exact h12
      clear_value s13
      extract_lets +onlyGivenNames -merge -useContext s17
      refine Ok.withS (x := s17) ?_ fun h18 => ?_
      · unfold s17
        split
        · refine Ok.via (measure_ok ..) rfl ?_
          exact h16
        · exact h16
      clear_value s17
      extract_lets +onlyGivenNames -merge -useContext s19
      refine Ok.withS (x := s19) ?_ fun h20 => ?_
      · unfold s19
        refine Ok.via (rollUp_ok ..) rfl ?_
        exact h18
      clear_value s19
      refine Ok.via (snapWords_ok ..) rfl ?_
      exact h20

theorem windowResult_ok : ∀ x0 x1 x2 x3 x4 x5 x6 s, Ok [.axes, .reg .AX_BEMFCNT] s (@windowResult x0 x1 x2 x3 x4 x5 x6 s) := by
  intro x0 x1 x2 x3 x4 x5 x6 s
  delta windowResult
  extract_lets +onlyGivenNames -merge -useContext s0
  clear_value s0
  extract_lets +onlyGivenNames -merge -useContext s1
  clear_value s1
  extract_lets +onlyGivenNames -merge -useContext s2
  clear_value s2
  extract_lets +onlyGivenNames -merge -useContext s3
  refine Ok.withS (x := s3) ?_ fun h4 => ?_
  · unfold s3
    refine Ok.via (State.inc_at (at_AX_BEMFCNT _)) rfl ?_
    exact Ok.refl
  clear_value s3
  extract_lets +onlyGivenNames -merge -useContext s5
  refine Ok.withS (x := s5) ?_ fun h7 => ?_
  · unfold s5
    refine Ok.applyIf ?_ ?_
    · intro a6
      refine Ok.via (State.inc_at (at_AX_BEMFCNT _)) rfl ?_
      exact Ok.refl
    · exact h4
  clear_value s5
  extract_lets +onlyGivenNames -merge -useContext s8
  refine Ok.withS (x := s8) ?_ fun h10 => ?_
  · unfold s8
    refine Ok.applyIf ?_ ?_
    · intro a9
      refine Ok.via (State.inc_at (at_AX_BEMFCNT _)) rfl ?_
      exact Ok.refl
    · exact h7
  clear_value s8
  split
  · exact h10
  · refine Ok.via (State.modSe_ok ..) rfl ?_
    exact h10

theorem chargeRecord_ok : ∀ x0 x1 x2 x3 s, Ok [.axes, .reg .AX_ENERGY_HI, .reg .AX_ENERGY_LO] s (@chargeRecord x0 x1 x2 x3 s) := by
  intro x0 x1 x2 x3 s
  delta chargeRecord
  extract_lets +onlyGivenNames -merge -useContext s0
  clear_value s0
  extract_lets +onlyGivenNames -merge -useContext s1
  clear_value s1
  refine Ok.ite ?_ ?_
  · extract_lets +onlyGivenNames -merge -useContext s2
    clear_value s2
    extract_lets +onlyGivenNames -merge -useContext s3
    clear_value s3
    refine Ok.via (State.putPair_at (at_AX_ENERGY_LO _) (hi_AX_ENERGY_LO _)) rfl ?_
    refine Ok.via (State.modMo_ok ..) rfl ?_
    exact Ok.refl
  · exact Ok.refl

theorem flagRecord_ok : ∀ x0 x1 x2 x3 s, Ok [.axes] s (@flagRecord x0 x1 x2 x3 s) := by
  intro x0 x1 x2 x3 s
  delta flagRecord
  refine Ok.forEach ?_ ?_
  · intro a0 a1
    extract_lets +onlyGivenNames -merge -useContext s2
    clear_value s2
    extract_lets +onlyGivenNames -merge -useContext s3
    clear_value s3
    refine Ok.ite ?_ ?_
    · refine Ok.via (State.modSe_ok ..) rfl ?_
      exact Ok.refl
    · exact Ok.refl
  · exact Ok.refl

theorem snsRecord_ok : ∀ x0 x1 s, Ok [.axes, .reg .AX_BEMFCNT, .reg .AX_ENERGY_HI, .reg .AX_ENERGY_LO] s (@snsRecord x0 x1 s) := by
  intro x0 x1 s
  delta snsRecord
  split
  · refine Ok.via (windowResult_ok ..) rfl ?_
    exact Ok.refl
  · refine Ok.via (chargeRecord_ok ..) rfl ?_
    exact Ok.refl
  · refine Ok.via (flagRecord_ok ..) rfl ?_
    exact Ok.refl

theorem snsFrame_ok : ∀ x0 x1 x2 s, Ok [.coaches, .axes, .reg .AX_BEMFCNT, .reg .AX_ENERGY_HI, .reg .AX_ENERGY_LO, .reg .CO_LINKERR] s (@snsFrame x0 x1 x2 s) := by
  intro x0 x1 x2 s
  delta snsFrame
  refine Ok.ite ?_ ?_
  · exact Ok.refl
  · extract_lets +onlyGivenNames -merge -useContext s0
    clear_value s0
    extract_lets +onlyGivenNames -merge -useContext s1
    refine Ok.withS (x := s1) ?_ fun h2 => ?_
    · unfold s1
      refine Ok.via (State.modCoach_ok ..) rfl ?_
      exact Ok.refl
    clear_value s1
    refine Ok.ite ?_ ?_
    · refine Ok.via (discardUp_ok ..) rfl ?_
      exact h2
    · refine Ok.forEach ?_ ?_
      · intro a3 a4
        refine Ok.via (snsRecord_ok ..) rfl ?_
        exact Ok.refl
      · exact h2

theorem trimWindow_ok : ∀ x0 s, Ok [.axes, .reg .AX_DECAYST] s (@trimWindow x0 s) := by
  intro x0 s
  delta trimWindow
  extract_lets +onlyGivenNames -merge -useContext s0
  clear_value s0
  extract_lets +onlyGivenNames -merge -useContext s1
  clear_value s1
  refine Ok.forEach ?_ ?_
  · intro a2 a3
    extract_lets +onlyGivenNames -merge -useContext s4
    clear_value s4
    extract_lets +onlyGivenNames -merge -useContext s5
    clear_value s5
    extract_lets +onlyGivenNames -merge -useContext s6
    refine Ok.withS (x := s6) ?_ fun h7 => ?_
    · unfold s6
      refine Ok.via (State.put_at (at_AX_DECAYST _)) rfl ?_
      exact Ok.refl
    clear_value s6
    refine Ok.via (State.modSe_ok ..) rfl ?_
    exact h7
  · exact Ok.refl

theorem coachExpiry_ok : ∀ x0 x1 s, Ok [.free, .legs, .coils, .coaches, .reg .CO_LINKSTAT, .reg .LEG_TEST] s (@coachExpiry x0 x1 s) := by
  intro x0 x1 s
  delta coachExpiry
  refine Ok.ite ?_ ?_
  · refine Ok.via (coachLoses_ok ..) rfl ?_
    refine Ok.via (gangOffs_ok ..) rfl ?_
    exact Ok.refl
  · exact Ok.refl

theorem hubExpiry_ok : ∀ x0 s, Ok (.replies :: .trioQ :: .emcyQ :: .logQ :: .logWin :: .coaches :: .axes :: .pl :: .power :: .net :: .reg .AXALERT :: .reg .AX_ACC :: .reg .AX_EPFS :: .reg .AX_FLTCNT :: .reg .AX_FLTSTAT :: .reg .AX_HOMEST :: .reg .AX_MOVEEN :: .reg .AX_STALLST :: .reg .AX_STAT :: .reg .AX_USTAT :: .reg .AX_VEL :: .reg .CO_FLTSTAT :: .reg .CO_LINKSTAT :: .reg .EV_ACT :: .reg .EV_PEND :: .reg .GCTL_BUSERR :: .reg .GCTL_BUSERRADDR :: .reg .GCTL_BUSERRCNT :: .reg .MGS_LOGSTAT :: .reg .PL_ENERGY_HI :: .reg .PL_ENERGY_LO :: .reg .PL_EVINFO :: .reg .PL_MAKESPAN :: .reg .PL_RES :: .reg .PL_RES_EACT :: .reg .PL_RES_END :: .reg .PL_STAT :: []) s (@hubExpiry x0 s) := by
  intro x0 s
  delta hubExpiry
  refine Ok.ite ?_ ?_
  · refine Ok.via (couplingLost_ok ..) rfl ?_
    exact Ok.refl
  · exact Ok.refl

theorem trainAttempt_ok : ∀ x0 s, Ok [.coaches] s (@trainAttempt x0 s) := by
  intro x0 s
  delta trainAttempt
  refine Ok.ite ?_ ?_
  · refine Ok.via (State.modCoach_ok ..) rfl ?_
    exact Ok.refl
  · exact Ok.refl

theorem trainDone_ok : ∀ x0 s, Ok [.coaches, .reg .CO_LINKSTAT] s (@trainDone x0 s) := by
  intro x0 s
  delta trainDone
  extract_lets +onlyGivenNames -merge -useContext s0
  clear_value s0
  refine Ok.ite ?_ ?_
  · extract_lets +onlyGivenNames -merge -useContext s1
    refine Ok.withS (x := s1) ?_ fun h2 => ?_
    · unfold s1
      refine Ok.via (State.put_at (at_CO_LINKSTAT _)) rfl ?_
      exact Ok.refl
    clear_value s1
    extract_lets +onlyGivenNames -merge -useContext s3
    refine Ok.withS (x := s3) ?_ fun h5 => ?_
    · unfold s3
      refine Ok.applyIf ?_ ?_
      · intro a4
        refine Ok.via (State.put_at (at_CO_LINKSTAT _)) rfl ?_
        exact Ok.refl
      · exact h2
    clear_value s3
    extract_lets +onlyGivenNames -merge -useContext s6
    refine Ok.withS (x := s6) ?_ fun h7 => ?_
    · unfold s6
      refine Ok.via (State.putB_at (at_CO_LINKSTAT _)) rfl ?_
      exact h5
    clear_value s6
    extract_lets +onlyGivenNames -merge -useContext s8
    refine Ok.withS (x := s8) ?_ fun h9 => ?_
    · unfold s8
      refine Ok.via (State.modCoach_ok ..) rfl ?_
      exact h7
    clear_value s8
    refine Ok.via (sendCtl_ok ..) rfl ?_
    exact h9
  · exact Ok.refl

end Sys2Proof.Machine
end

