-- ==== Sys2Proof/Laws/OkGateOps.lean ====
section
/-!
SUPPORT. Laws/OkGateOps.lean: for each operation of Machine/GateOps.lean, the parts of the state it can change, and that it keeps a
good state good.
-/

namespace Sys2Proof.Machine

set_option Elab.async false

theorem State.modPl_ok : ∀ s x1, Ok [.pl] s (@State.modPl s x1) := by
  intro s x1
  delta State.modPl
  refine Ok.via Ok.pl rfl ?_
  exact Ok.refl

theorem plTo_ok : ∀ x0 s, Ok [.reg .PL_STAT] s (@plTo x0 s) := by
  intro x0 s
  delta plTo
  refine Ok.via (State.put_at (at_PL_STAT)) rfl ?_
  exact Ok.refl

theorem putEntry_ok : ∀ x0 x1 s, Ok [.reg .PL_RCP0, .reg .PL_RCP1, .reg .PL_RCP2, .reg .PL_RCP3] s (@putEntry x0 x1 s) := by
  intro x0 x1 s
  delta putEntry
  refine Ok.via (State.wr_at (at_PL_RCP3 _)) rfl ?_
  refine Ok.via (State.wr_at (at_PL_RCP2 _)) rfl ?_
  refine Ok.via (State.wr_at (at_PL_RCP1 _)) rfl ?_
  refine Ok.via (State.wr_at (at_PL_RCP0 _)) rfl ?_
  exact Ok.refl

theorem loadImage_ok : ∀ x0 s, Ok [.reg .PL_RCP0, .reg .PL_RCP1, .reg .PL_RCP2, .reg .PL_RCP3, .reg .PL_RCPHDR, .reg .PL_STAT] s (@loadImage x0 s) := by
  intro x0 s
  delta loadImage
  extract_lets +onlyGivenNames -merge -useContext s0
  clear_value s0
  extract_lets +onlyGivenNames -merge -useContext s1
  refine Ok.withS (x := s1) ?_ fun h4 => ?_
  · unfold s1
    refine Ok.forEach ?_ ?_
    · intro a2 a3
      refine Ok.via (State.wr_at (at_PL_RCPHDR _)) rfl ?_
      exact Ok.refl
    · exact Ok.refl
  clear_value s1
  extract_lets +onlyGivenNames -merge -useContext s5
  refine Ok.withS (x := s5) ?_ fun h8 => ?_
  · unfold s5
    refine Ok.forEach ?_ ?_
    · intro a6 a7
      refine Ok.via (putEntry_ok ..) rfl ?_
      exact Ok.refl
    · exact h4
  clear_value s5
  refine Ok.via (plTo_ok ..) rfl ?_
  exact h8

theorem plClear_ok : ∀ s, Ok [.reg .PL_ENERGY_HI, .reg .PL_ENERGY_LO, .reg .PL_EVINFO, .reg .PL_MAKESPAN, .reg .PL_PRED, .reg .PL_RCP0, .reg .PL_RCP1, .reg .PL_RCP2, .reg .PL_RCP3, .reg .PL_RCPHDR, .reg .PL_RES, .reg .PL_RES_EACT, .reg .PL_RES_EEST, .reg .PL_RES_END, .reg .PL_RES_START, .reg .PL_RES_TEST, .reg .PL_STAT] s (@plClear s) := by
  intro s
  delta plClear
  extract_lets +onlyGivenNames -merge -useContext s0
  refine Ok.withS (x := s0) ?_ fun h3 => ?_
  · unfold s0
    refine Ok.forEach ?_ ?_
    · intro a1 a2
      refine Ok.via (State.wr_at (at_PL_RCPHDR _)) rfl ?_
      exact Ok.refl
    · exact Ok.refl
  clear_value s0
  extract_lets +onlyGivenNames -merge -useContext s4
  refine Ok.withS (x := s4) ?_ fun h11 => ?_
  · unfold s4
    refine Ok.forEach ?_ ?_
    · intro a5 a6
      extract_lets +onlyGivenNames -merge -useContext s7
      refine Ok.withS (x := s7) ?_ fun h8 => ?_
      · unfold s7
        refine Ok.via (putEntry_ok ..) rfl ?_
        exact Ok.refl
      clear_value s7
      extract_lets +onlyGivenNames -merge -useContext s9
      refine Ok.withS (x := s9) ?_ fun h10 => ?_
      · unfold s9
        refine Ok.via (State.wr_at (at_PL_RES_END _)) rfl ?_
        refine Ok.via (State.wr_at (at_PL_RES_START _)) rfl ?_
        refine Ok.via (State.wr_at (at_PL_RES _)) rfl ?_
        exact h8
      clear_value s9
      refine Ok.via (State.wr_at (at_PL_RES_EACT _)) rfl ?_
      refine Ok.via (State.wr_at (at_PL_RES_EEST _)) rfl ?_
      refine Ok.via (State.wr_at (at_PL_RES_TEST _)) rfl ?_
      exact h10
    · exact h3
  clear_value s4
  extract_lets +onlyGivenNames -merge -useContext s12
  refine Ok.withS (x := s12) ?_ fun h13 => ?_
  · unfold s12
    refine Ok.via (State.putPair_at (at_PL_ENERGY_LO) (hi_PL_ENERGY_LO)) rfl ?_
    refine Ok.via (State.wr_at (at_PL_PRED)) rfl ?_
    refine Ok.via (State.wr_at (at_PL_MAKESPAN)) rfl ?_
    exact h11
  clear_value s12
  extract_lets +onlyGivenNames -merge -useContext s14
  refine Ok.withS (x := s14) ?_ fun h15 => ?_
  · unfold s14
    refine Ok.via (State.put_at (at_PL_STAT)) rfl ?_
    refine Ok.via (State.put_at (at_PL_STAT)) rfl ?_
    refine Ok.via (State.put_at (at_PL_STAT)) rfl ?_
    exact h13
  clear_value s14
  refine Ok.via (plTo_ok ..) rfl ?_
  refine Ok.via (State.wr_at (at_PL_EVINFO)) rfl ?_
  exact h15

theorem planFail_ok : ∀ x0 x1 s, Ok [.reg .PL_STAT] s (@planFail x0 x1 s) := by
  intro x0 x1 s
  delta planFail
  refine Ok.via (plTo_ok ..) rfl ?_
  refine Ok.via (State.put_at (at_PL_STAT)) rfl ?_
  refine Ok.via (State.put_at (at_PL_STAT)) rfl ?_
  refine Ok.via (State.put_at (at_PL_STAT)) rfl ?_
  exact Ok.refl

theorem planComplete_ok : ∀ s, Ok [.pl, .reg .PL_ORD, .reg .PL_PRED, .reg .PL_RES_EEST, .reg .PL_RES_TEST, .reg .PL_STAT] s (@planComplete s) := by
  intro s
  delta planComplete
  refine Ok.ite ?_ ?_
  · exact Ok.refl
  · extract_lets +onlyGivenNames -merge -useContext s0
    clear_value s0
    split
    · refine Ok.via (planFail_ok ..) rfl ?_
      exact Ok.refl
    · extract_lets +onlyGivenNames -merge -useContext s1
      clear_value s1
      split
      · refine Ok.via (planFail_ok ..) rfl ?_
        exact Ok.refl
      · extract_lets +onlyGivenNames -merge -useContext s2
        refine Ok.withS (x := s2) ?_ fun h5 => ?_
        · unfold s2
          refine Ok.forEach ?_ ?_
          · intro a3 a4
            refine Ok.via (State.put_at (at_PL_ORD _)) rfl ?_
            exact Ok.refl
          · exact Ok.refl
        clear_value s2
        extract_lets +onlyGivenNames -merge -useContext s6
        refine Ok.withS (x := s6) ?_ fun h9 => ?_
        · unfold s6
          refine Ok.foldl ?_ ?_
          · intro u7 x8
            refine Ok.via (State.put_at (at_PL_RES_EEST _)) rfl ?_
            refine Ok.via (State.put_at (at_PL_RES_TEST _)) rfl ?_
            exact Ok.refl
          · exact h5
        clear_value s6
        extract_lets +onlyGivenNames -merge -useContext s10
        refine Ok.withS (x := s10) ?_ fun h11 => ?_
        · unfold s10
          refine Ok.via (State.modPl_ok ..) rfl ?_
          exact h9
        clear_value s10
        extract_lets +onlyGivenNames -merge -useContext s12
        refine Ok.withS (x := s12) ?_ fun h13 => ?_
        · unfold s12
          refine Ok.via (State.put_at (at_PL_STAT)) rfl ?_
          refine Ok.via (State.put_at (at_PL_PRED)) rfl ?_
          exact h11
        clear_value s12
        refine Ok.via (plTo_ok ..) rfl ?_
        refine Ok.via (State.put_at (at_PL_STAT)) rfl ?_
        refine Ok.via (State.put_at (at_PL_STAT)) rfl ?_
        exact h13

theorem plCommand_ok : ∀ x0 x1 x2 s, Ok [.pl, .reg .PL_ENERGY_HI, .reg .PL_ENERGY_LO, .reg .PL_EVINFO, .reg .PL_MAKESPAN, .reg .PL_PRED, .reg .PL_RCP0, .reg .PL_RCP1, .reg .PL_RCP2, .reg .PL_RCP3, .reg .PL_RCPHDR, .reg .PL_RES, .reg .PL_RES_EACT, .reg .PL_RES_EEST, .reg .PL_RES_END, .reg .PL_RES_START, .reg .PL_RES_TEST, .reg .PL_STAT] s (@plCommand x0 x1 x2 s) := by
  intro x0 x1 x2 s
  delta plCommand
  extract_lets +onlyGivenNames -merge -useContext s0
  have hf2 : ∀ z0, Ok [.pl, .reg .PL_STAT] z0 (s0 z0) := by
    unfold s0
    intro a1
    refine Ok.via (State.put_at (at_PL_STAT)) rfl ?_
    refine Ok.via (State.modPl_ok ..) rfl ?_
    exact Ok.refl
  clear_value s0
  split
  · refine Ok.via (State.modPl_ok ..) rfl ?_
    refine Ok.via (plTo_ok ..) rfl ?_
    refine Ok.via (hf2 ..) rfl ?_
    exact Ok.refl
  · refine Ok.via (State.modPl_ok ..) rfl ?_
    refine Ok.via (hf2 ..) rfl ?_
    exact Ok.refl
  · refine Ok.ite ?_ ?_
    · refine Ok.via (State.put_at (at_PL_STAT)) rfl ?_
      refine Ok.via (State.modPl_ok ..) rfl ?_
      exact Ok.refl
    · refine Ok.ite ?_ ?_
      · refine Ok.via (State.modPl_ok ..) rfl ?_
        exact Ok.refl
      · refine Ok.ite ?_ ?_
        · refine Ok.via (State.modPl_ok ..) rfl ?_
          exact Ok.refl
        · exact Ok.refl
  · refine Ok.via (plClear_ok ..) rfl ?_
    exact Ok.refl
  · refine Ok.via (hf2 ..) rfl ?_
    exact Ok.refl

theorem plEnd_ok : ∀ x0 x1 s, Ok [.pl, .recipes, .reg .PL_RCP0, .reg .PL_RCP1, .reg .PL_RCP2, .reg .PL_RCP3, .reg .PL_RCPHDR, .reg .PL_STAT] s (@plEnd x0 x1 s) := by
  intro x0 x1 s
  delta plEnd
  extract_lets +onlyGivenNames -merge -useContext s0
  clear_value s0
  extract_lets +onlyGivenNames -merge -useContext s1
  clear_value s1
  refine Ok.ite ?_ ?_
  · exact Ok.refl
  · extract_lets +onlyGivenNames -merge -useContext s2
    refine Ok.withS (x := s2) ?_ fun h3 => ?_
    · unfold s2
      refine Ok.via (State.modPl_ok ..) rfl ?_
      refine Ok.via (State.put_at (at_PL_STAT)) rfl ?_
      exact Ok.refl
    clear_value s2
    extract_lets +onlyGivenNames -merge -useContext s4
    have hf7 : ∀ z0 z1, Ok [.reg .PL_STAT] z1 (s4 z0 z1) := by
      unfold s4
      intro a5 a6
      refine Ok.via (State.put_at (at_PL_STAT)) rfl ?_
      exact Ok.refl
    clear_value s4
    extract_lets +onlyGivenNames -merge -useContext s8
    clear_value s8
    refine Ok.ite ?_ ?_
    · refine Ok.ite ?_ ?_
      · refine Ok.via (hf7 ..) rfl ?_
        exact h3
      · refine Ok.ite ?_ ?_
        · refine Ok.via (hf7 ..) rfl ?_
          exact h3
        · refine Ok.via (hf7 ..) rfl ?_
          refine Ok.via (loadImage_ok ..) rfl ?_
          exact h3
    · refine Ok.ite ?_ ?_
      · refine Ok.ite ?_ ?_
        · extract_lets +onlyGivenNames -merge -useContext s9
          clear_value s9
          extract_lets +onlyGivenNames -merge -useContext s10
          refine Ok.withS (x := s10) ?_ fun h13 => ?_
          · unfold s10
            refine Ok.forEach ?_ ?_
            · intro a11 a12
              refine Ok.via (State.wr_at (at_PL_RCPHDR _)) rfl ?_
              exact Ok.refl
            · exact h3
          clear_value s10
          refine Ok.via (hf7 ..) rfl ?_
          refine Ok.via (Ok.recipes ?_) rfl ?_
          · exact fun h => Sparse.wf_set h
          exact h13
        · refine Ok.via (hf7 ..) rfl ?_
          exact h3
      · refine Ok.ite ?_ ?_
        · refine Ok.via (hf7 ..) rfl ?_
          refine Ok.via (Ok.recipes ?_) rfl ?_
          · exact fun h => Sparse.wf_set h
          exact h3
        · refine Ok.ite ?_ ?_
          · refine Ok.via (hf7 ..) rfl ?_
            exact h3
          · refine Ok.ite ?_ ?_
            · refine Ok.via (hf7 ..) rfl ?_
              exact h3
            · refine Ok.via (hf7 ..) rfl ?_
              refine Ok.via (loadImage_ok ..) rfl ?_
              exact h3

theorem planBegin_ok : ∀ s, Ok [.pl, .reg .PL_ENERGY_HI, .reg .PL_ENERGY_LO, .reg .PL_MAKESPAN, .reg .PL_RES, .reg .PL_RES_EACT, .reg .PL_RES_END, .reg .PL_RES_START, .reg .PL_STAT] s (@planBegin s) := by
  intro s
  delta planBegin
  refine Ok.ite ?_ ?_
  · exact Ok.refl
  · extract_lets +onlyGivenNames -merge -useContext s0
    clear_value s0
    extract_lets +onlyGivenNames -merge -useContext s1
    refine Ok.withS (x := s1) ?_ fun h4 => ?_
    · unfold s1
      refine Ok.forEach ?_ ?_
      · intro a2 a3
        refine Ok.via (State.wr_at (at_PL_RES_EACT _)) rfl ?_
        refine Ok.via (State.wr_at (at_PL_RES_END _)) rfl ?_
        refine Ok.via (State.wr_at (at_PL_RES_START _)) rfl ?_
        refine Ok.via (State.wr_at (at_PL_RES _)) rfl ?_
        exact Ok.refl
      · exact Ok.refl
    clear_value s1
    extract_lets +onlyGivenNames -merge -useContext s5
    refine Ok.withS (x := s5) ?_ fun h8 => ?_
    · unfold s5
      refine Ok.forEach ?_ ?_
      · intro a6 a7
        refine Ok.via (State.put_at (at_PL_RES _)) rfl ?_
        exact Ok.refl
      · exact h4
    clear_value s5
    extract_lets +onlyGivenNames -merge -useContext s9
    refine Ok.withS (x := s9) ?_ fun h10 => ?_
    · unfold s9
      refine Ok.via (State.put_at (at_PL_MAKESPAN)) rfl ?_
      refine Ok.via (State.put_at (at_PL_STAT)) rfl ?_
      refine Ok.via (State.put_at (at_PL_STAT)) rfl ?_
      exact h8
    clear_value s9
    extract_lets +onlyGivenNames -merge -useContext s11
    refine Ok.withS (x := s11) ?_ fun h12 => ?_
    · unfold s11
      refine Ok.via (State.putPair_at (at_PL_ENERGY_LO) (hi_PL_ENERGY_LO)) rfl ?_
      exact h10
    clear_value s11
    refine Ok.via (plTo_ok ..) rfl ?_
    refine Ok.via (State.modPl_ok ..) rfl ?_
    exact h12

theorem letIn_ok : ∀ x0 s, Ok [.staged, .axes, .pl, .reg .AX_CHAIN, .reg .AX_MODE, .reg .AX_STARTSTAT, .reg .AX_TGT_HI, .reg .AX_TGT_LO, .reg .PL_ENERGY_HI, .reg .PL_ENERGY_LO, .reg .PL_EVINFO, .reg .PL_MAKESPAN, .reg .PL_RES, .reg .PL_RES_EACT, .reg .PL_RES_END, .reg .PL_RES_START, .reg .PL_STAT] s (@letIn x0 s) := by
  intro x0 s
  delta letIn
  extract_lets +onlyGivenNames -merge -useContext s0
  clear_value s0
  extract_lets +onlyGivenNames -merge -useContext s1
  clear_value s1
  extract_lets +onlyGivenNames -merge -useContext s2
  refine Ok.withS (x := s2) ?_ fun h3 => ?_
  · unfold s2
    refine Ok.via (State.put_at (at_AX_MODE _)) rfl ?_
    refine Ok.via (State.setStaged_ok ..) rfl ?_
    exact Ok.refl
  clear_value s2
  extract_lets +onlyGivenNames -merge -useContext s4
  refine Ok.withS (x := s4) ?_ fun h5 => ?_
  · unfold s4
    refine Ok.ite ?_ ?_
    · refine Ok.via (State.putPair_at (at_AX_TGT_LO _) (hi_AX_TGT_LO _)) rfl ?_
      refine Ok.via (State.setStaged_ok ..) rfl ?_
      refine Ok.via (State.setStaged_ok ..) rfl ?_
      exact h3
    · exact h3
  clear_value s4
  extract_lets +onlyGivenNames -merge -useContext s6 s7 s8
  refine Ok.withS (x := s8) ?_ fun h9 => ?_
  · unfold s8
    refine Ok.ite ?_ ?_
    · refine Ok.via (State.put_at (at_AX_CHAIN _)) rfl ?_
      refine Ok.via (State.setStaged_ok ..) rfl ?_
      exact h5
    · exact h5
  clear_value s6 s7 s8
  split
  · refine Ok.via (endEntry_ok ..) rfl ?_
    refine Ok.via (ignoreStart_ok ..) rfl ?_
    exact h9
  · refine Ok.via (endEntry_ok ..) rfl ?_
    exact h9
  · extract_lets +onlyGivenNames -merge -useContext s10
    refine Ok.withS (x := s10) ?_ fun h11 => ?_
    · unfold s10
      refine Ok.via (State.put_at (at_PL_RES_START _)) rfl ?_
      refine Ok.via (State.put_at (at_PL_RES _)) rfl ?_
      exact h9
    clear_value s10
    refine Ok.via (State.modMo_ok ..) rfl ?_
    exact h11

theorem gateEntry_ok : ∀ x0 x1 x2 s, OkP [.staged, .axes, .pl, .reg .AX_CHAIN, .reg .AX_MODE, .reg .AX_STARTSTAT, .reg .AX_TGT_HI, .reg .AX_TGT_LO, .reg .PL_ENERGY_HI, .reg .PL_ENERGY_LO, .reg .PL_EVINFO, .reg .PL_MAKESPAN, .reg .PL_RES, .reg .PL_RES_EACT, .reg .PL_RES_END, .reg .PL_RES_START, .reg .PL_STAT] s (@gateEntry x0 x1 x2 s) := by
  intro x0 x1 x2 s
  delta gateEntry
  extract_lets +onlyGivenNames -merge -useContext s0
  clear_value s0
  refine OkP.ite ?_ ?_
  · refine OkP.mk ?_
    exact Ok.refl
  · refine OkP.ite ?_ ?_
    · refine OkP.mk ?_
      refine Ok.via (endEntry_ok ..) rfl ?_
      exact Ok.refl
    · refine OkP.ite ?_ ?_
      · refine OkP.mk ?_
        exact Ok.refl
      · extract_lets +onlyGivenNames -merge -useContext s1
        clear_value s1
        refine OkP.ite ?_ ?_
        · extract_lets +onlyGivenNames -merge -useContext s2
          refine OkP.withS (x := s2) ?_ fun h5 => ?_
          · unfold s2
            refine Ok.forEach ?_ ?_
            · intro a3 a4
              refine Ok.ite ?_ ?_
              · refine Ok.via (State.inc_at (at_PL_RES _)) rfl ?_
                exact Ok.refl
              · exact Ok.refl
            · exact Ok.refl
          clear_value s2
          refine OkP.mk ?_
          refine Ok.via (letIn_ok ..) rfl ?_
          exact h5
        · refine OkP.ite ?_ ?_
          · refine OkP.mk ?_
            refine Ok.via (State.put_at (at_PL_RES _)) rfl ?_
            exact Ok.refl
          · refine OkP.mk ?_
            exact Ok.refl

theorem gateScan_ok : ∀ l before m s, OkP [.staged, .axes, .pl, .reg .AX_CHAIN, .reg .AX_MODE, .reg .AX_STARTSTAT, .reg .AX_TGT_HI, .reg .AX_TGT_LO, .reg .PL_ENERGY_HI, .reg .PL_ENERGY_LO, .reg .PL_EVINFO, .reg .PL_MAKESPAN, .reg .PL_RES, .reg .PL_RES_EACT, .reg .PL_RES_END, .reg .PL_RES_START, .reg .PL_STAT] s (gateScan l before m s)
  | [], _, _, _ => OkP.mk Ok.refl
  | e :: rest, before, m, s => by
    have h := gateEntry_ok before e m s
    unfold gateScan
    split
    rename_i m' t e'
    exact OkP.via (gateScan_ok rest _ m' t) rfl (OkP.of_eq e' h)

theorem gateWaiting_ok : ∀ s, Ok [.pl, .reg .PL_ENERGY_HI, .reg .PL_ENERGY_LO, .reg .PL_EVINFO, .reg .PL_MAKESPAN, .reg .PL_RES, .reg .PL_RES_EACT, .reg .PL_RES_END, .reg .PL_STAT] s (@gateWaiting s) := by
  intro s
  delta gateWaiting
  refine Ok.forEach ?_ ?_
  · intro a0 a1
    refine Ok.forEach ?_ ?_
    · intro a2 a3
      extract_lets +onlyGivenNames -merge -useContext s4
      clear_value s4
      refine Ok.ite ?_ ?_
      · refine Ok.via (endEntry_ok ..) rfl ?_
        exact Ok.refl
      · refine Ok.ite ?_ ?_
        · refine Ok.via (State.put_at (at_PL_RES _)) rfl ?_
          exact Ok.refl
        · exact Ok.refl
    · exact Ok.refl
  · exact Ok.refl

theorem gateEnd_ok : ∀ s, Ok [.trioQ, .emcyQ, .logQ, .logWin, .pl, .reg .EV_PEND, .reg .MGS_LOGSTAT, .reg .PL_STAT] s (@gateEnd s) := by
  intro s
  delta gateEnd
  extract_lets +onlyGivenNames -merge -useContext s0
  clear_value s0
  refine Ok.ite ?_ ?_
  · refine Ok.via (pendSrc_ok ..) rfl ?_
    refine Ok.via (plTo_ok ..) rfl ?_
    refine Ok.via (State.modPl_ok ..) rfl ?_
    exact Ok.refl
  · refine Ok.ite ?_ ?_
    · refine Ok.via (pendSrc_ok ..) rfl ?_
      refine Ok.via (plTo_ok ..) rfl ?_
      refine Ok.via (State.modPl_ok ..) rfl ?_
      exact Ok.refl
    · exact Ok.refl

theorem gatePublish_ok : ∀ x0 s, Ok [.reg .PL_AXLIVE, .reg .PL_MOVERS, .reg .PL_SUM] s (@gatePublish x0 s) := by
  intro x0 s
  delta gatePublish
  extract_lets +onlyGivenNames -merge -useContext s0
  refine Ok.withS (x := s0) ?_ fun h3 => ?_
  · unfold s0
    refine Ok.forEach ?_ ?_
    · intro a1 a2
      refine Ok.via (State.put_at (at_PL_SUM _)) rfl ?_
      refine Ok.via (State.put_at (at_PL_SUM _)) rfl ?_
      exact Ok.refl
    · exact Ok.refl
  clear_value s0
  extract_lets +onlyGivenNames -merge -useContext s4
  refine Ok.withS (x := s4) ?_ fun h7 => ?_
  · unfold s4
    refine Ok.forEach ?_ ?_
    · intro a5 a6
      refine Ok.via (State.put_at (at_PL_MOVERS _)) rfl ?_
      exact Ok.refl
    · exact h3
  clear_value s4
  refine Ok.forEach ?_ ?_
  · intro a8 a9
    split
    · refine Ok.via (State.put_at (at_PL_AXLIVE _)) rfl ?_
      refine Ok.via (State.put_at (at_PL_AXLIVE _)) rfl ?_
      exact Ok.refl
  · exact h7

theorem gateLearn_ok : ∀ s, Ok [.pl, .reg .PL_AXLRN] s (@gateLearn s) := by
  intro s
  delta gateLearn
  refine Ok.via (State.modPl_ok ..) rfl ?_
  refine Ok.forEach ?_ ?_
  · intro a0 a1
    refine Ok.via (learnEntry_ok ..) rfl ?_
    exact Ok.refl
  · exact Ok.refl

theorem gateTick_ok : ∀ s, Ok (.staged :: .trioQ :: .emcyQ :: .logQ :: .logWin :: .axes :: .pl :: .reg .AX_CHAIN :: .reg .AX_MODE :: .reg .AX_STARTSTAT :: .reg .AX_TGT_HI :: .reg .AX_TGT_LO :: .reg .EV_PEND :: .reg .MGS_LOGSTAT :: .reg .PL_AXLIVE :: .reg .PL_AXLRN :: .reg .PL_ENERGY_HI :: .reg .PL_ENERGY_LO :: .reg .PL_EVINFO :: .reg .PL_MAKESPAN :: .reg .PL_MOVERS :: .reg .PL_RES :: .reg .PL_RES_EACT :: .reg .PL_RES_END :: .reg .PL_RES_START :: .reg .PL_STAT :: .reg .PL_SUM :: []) s (@gateTick s) := by
  intro s
  delta gateTick
  extract_lets +onlyGivenNames -merge -useContext s0
  refine Ok.withS (x := s0) ?_ fun h1 => ?_
  · unfold s0
    refine Ok.via (gateLearn_ok ..) rfl ?_
    exact Ok.refl
  clear_value s0
  extract_lets +onlyGivenNames -merge -useContext s2
  clear_value s2
  extract_lets +onlyGivenNames -merge -useContext s3
  clear_value s3
  extract_lets +onlyGivenNames -merge -useContext s4
  clear_value s4
  extract_lets +onlyGivenNames -merge -useContext s5
  refine Ok.withS (x := s5) ?_ fun h8 => ?_
  · unfold s5
    refine Ok.forEach ?_ ?_
    · intro a6 a7
      refine Ok.via (pendSrc_ok ..) rfl ?_
      exact Ok.refl
    · exact h1
  clear_value s5
  extract_lets +onlyGivenNames -merge -useContext s9
  refine Ok.withS (x := s9) ?_ fun h10 => ?_
  · unfold s9
    refine Ok.via (State.put_at (at_PL_STAT)) rfl ?_
    refine Ok.via (State.modPl_ok ..) rfl ?_
    exact h8
  clear_value s9
  extract_lets +onlyGivenNames -merge -useContext s11
  clear_value s11
  split
  · rename_i t12 e13
    refine Ok.withS (x := t12) (OkP.of_eq e13 ?_) fun h14 => ?_
    · refine OkP.ite ?_ ?_
      · refine OkP.via (gateScan_ok ..) rfl ?_
        exact h10
      · refine OkP.mk ?_
        exact h10
    extract_lets +onlyGivenNames -merge -useContext s15
    refine Ok.withS (x := s15) ?_ fun h16 => ?_
    · unfold s15
      refine Ok.ite ?_ ?_
      · refine Ok.via (gateWaiting_ok ..) rfl ?_
        exact h14
      · exact h14
    clear_value s15
    extract_lets +onlyGivenNames -merge -useContext s17
    refine Ok.withS (x := s17) ?_ fun h18 => ?_
    · unfold s17
      refine Ok.via (gateEnd_ok ..) rfl ?_
      exact h16
    clear_value s17
    extract_lets +onlyGivenNames -merge -useContext s19
    refine Ok.withS (x := s19) ?_ fun h20 => ?_
    · unfold s19
      refine Ok.via (gatePublish_ok ..) rfl ?_
      exact h18
    clear_value s19
    refine Ok.ite ?_ ?_
    · refine Ok.via (State.modPl_ok ..) rfl ?_
      exact h20
    · exact h20

theorem abortTick_ok : ∀ s, Ok [.trioQ, .emcyQ, .logQ, .logWin, .axes, .pl, .reg .EV_PEND, .reg .MGS_LOGSTAT, .reg .PL_ENERGY_HI, .reg .PL_ENERGY_LO, .reg .PL_EVINFO, .reg .PL_MAKESPAN, .reg .PL_RES, .reg .PL_RES_EACT, .reg .PL_RES_END, .reg .PL_STAT] s (@abortTick s) := by
  intro s
  delta abortTick
  split
  · exact Ok.refl
  · refine Ok.ite ?_ ?_
    · refine Ok.via (State.modPl_ok ..) rfl ?_
      exact Ok.refl
    · extract_lets +onlyGivenNames -merge -useContext s0
      refine Ok.withS (x := s0) ?_ fun h3 => ?_
      · unfold s0
        refine Ok.forEach ?_ ?_
        · intro a1 a2
          refine Ok.ite ?_ ?_
          · refine Ok.via (endEntry_ok ..) rfl ?_
            exact Ok.refl
          · exact Ok.refl
        · exact Ok.refl
      clear_value s0
      extract_lets +onlyGivenNames -merge -useContext s4
      refine Ok.withS (x := s4) ?_ fun h5 => ?_
      · unfold s4
        refine Ok.via (plTo_ok ..) rfl ?_
        refine Ok.via (State.modPl_ok ..) rfl ?_
        exact h3
      clear_value s4
      extract_lets +onlyGivenNames -merge -useContext s6
      refine Ok.withS (x := s6) ?_ fun h10 => ?_
      · unfold s6
        refine Ok.ite ?_ ?_
        · refine Ok.forEach ?_ ?_
          · intro a7 a8
            refine Ok.ite ?_ ?_
            · extract_lets +onlyGivenNames -merge -useContext s9
              clear_value s9
              refine Ok.via (State.modMo_ok ..) rfl ?_
              refine Ok.via (planRunCause_ok ..) rfl ?_
              exact Ok.refl
            · exact Ok.refl
          · exact h5
        · exact h5
      clear_value s6
      refine Ok.ite ?_ ?_
      · exact h10
      · refine Ok.via (pendSrc_ok ..) rfl ?_
        refine Ok.via (plTo_ok ..) rfl ?_
        refine Ok.via (State.modPl_ok ..) rfl ?_
        exact h10

theorem admissionBlocked_ok : ∀ x0 s, Ok [.trioQ, .emcyQ, .logQ, .logWin, .pl, .reg .EV_PEND, .reg .MGS_LOGSTAT, .reg .PL_EVINFO] s (@admissionBlocked x0 s) := by
  intro x0 s
  delta admissionBlocked
  refine Ok.ite ?_ ?_
  · refine Ok.via (pend_ok ..) rfl ?_
    refine Ok.via (State.modPl_ok ..) rfl ?_
    refine Ok.via (State.put_at (at_PL_EVINFO)) rfl ?_
    exact Ok.refl
  · exact Ok.refl

end Sys2Proof.Machine
end

