-- ==== Sys2Proof/Laws/OkTrioOps.lean ====
section
/-!
SUPPORT. Laws/OkTrioOps.lean: for each operation of Machine/TrioOps.lean, the parts of the state it can change, and that it keeps a
good state good.
-/

namespace Sys2Proof.Machine

set_option Elab.async false

theorem State.modTrio_ok {s : State} {f : Trio → Trio} (h : ∀ x : Trio, x.good → (f x).good) : Ok [.trio] s (s.modTrio f) :=
  Ok.trio (h _)

/-- The same of a change that looks at the state itself. -/
theorem State.modTrio_good {s : State} {f : Trio → Trio} (h : s.trio.good → (f s.trio).good) : Ok [.trio] s (s.modTrio f) := Ok.trio h

theorem Trio.copy_good {t : Trio} (h : t.good) (k : Nat) : (t.copy k).good := by
  unfold Trio.copy
  split
  · exact h.2.1
  · split
    · exact h.2.2.1
    · exact h.2.2.2.1

theorem Trio.setCopy_good {t : Trio} {k : Nat} {c : Copy} (h : t.good) (hc : c.good) : (t.setCopy k c).good := by
  unfold Trio.setCopy
  split
  · exact ⟨h.1, hc, h.2.2.1, h.2.2.2.1, h.2.2.2.2⟩
  · split
    · exact ⟨h.1, h.2.1, hc, h.2.2.2.1, h.2.2.2.2⟩
    · exact ⟨h.1, h.2.1, h.2.2.1, hc, h.2.2.2.2⟩

theorem modCopy_ok {k : Nat} {s : State} {f : Copy → Copy} (h : ∀ c : Copy, c.good → (f c).good) : Ok [.trio] s (modCopy k f s) :=
  State.modTrio_ok fun _ g => Trio.setCopy_good g (h _ (Trio.copy_good g k))

theorem Copy.act_good {c : Copy} (h : c.good) (x : CopyAct) : (c.act x).good := by
  cases x
  · exact h
  · exact ⟨Sparse.wf_set h.1, h.2⟩
  · exact ⟨h.1, Sparse.wf_set h.2⟩

theorem Copy.upset_good {c : Copy} (h : c.good) (u : Upset) : (c.upset u).good := by
  unfold Copy.upset
  split
  · exact ⟨h.1, Sparse.wf_set h.2⟩
  · exact ⟨Sparse.wf_set h.1, h.2⟩

/-- What keeps a copy good step by step keeps it good over a list. -/
theorem Copy.foldl_good {α : Type} {f : Copy → α → Copy} (hf : ∀ c x, c.good → (f c x).good) (l : List α) {c : Copy} (h : c.good) :
    (l.foldl f c).good := by
  induction l generalizing c with
  | nil => exact h
  | cons x l ih => exact ih (hf c x h)

/-- The voted registers are in canonical form. -/
theorem State.votedRegs_wf {s : State} (h : s.trio.good) : Sparse.wf (fun _ => 0) s.votedRegs := by
  unfold State.votedRegs
  dsimp only
  split
  · exact (Trio.copy_good h _).1
  · exact Sparse.wf_foldl_set _ _ _ rfl

theorem actCopies_ok : ∀ x0 x1 x2 s, Ok [.trio] s (@actCopies x0 x1 x2 s) := by
  intro x0 x1 x2 s
  delta actCopies
  extract_lets +onlyGivenNames -merge -useContext s0
  have hf4 : ∀ z0 z1 z2, Ok [.trio] z2 (s0 z0 z1 z2) := by
    unfold s0
    intro a1 a2 a3
    refine Ok.ite ?_ ?_
    · refine Ok.via (modCopy_ok ?_) rfl ?_
      · exact fun _ h => Copy.foldl_good (fun _ x h => Copy.act_good h x) _ h
      exact Ok.refl
    · exact Ok.refl
  clear_value s0
  refine Ok.via (hf4 ..) rfl ?_
  refine Ok.via (hf4 ..) rfl ?_
  refine Ok.via (hf4 ..) rfl ?_
  exact Ok.refl

theorem upsetCopies_ok : ∀ x0 x1 x2 s, Ok [.trio] s (@upsetCopies x0 x1 x2 s) := by
  intro x0 x1 x2 s
  delta upsetCopies
  extract_lets +onlyGivenNames -merge -useContext s0
  have hf4 : ∀ z0 z1 z2, Ok [.trio] z2 (s0 z0 z1 z2) := by
    unfold s0
    intro a1 a2 a3
    refine Ok.via (modCopy_ok ?_) rfl ?_
    · exact fun _ h => Copy.foldl_good (fun _ x h => Copy.upset_good h x) _ h
    exact Ok.refl
  clear_value s0
  refine Ok.via (hf4 ..) rfl ?_
  refine Ok.via (hf4 ..) rfl ?_
  refine Ok.via (hf4 ..) rfl ?_
  exact Ok.refl

theorem clearTags_ok : ∀ x0 s, Ok [.trio] s (@clearTags x0 s) := by
  intro x0 s
  delta clearTags
  refine Ok.via (modCopy_ok ?_) rfl ?_
  · exact fun _ h => ⟨h.1, rfl⟩
  exact Ok.refl

theorem loadCopies_ok : ∀ s, Ok [.trio] s (@loadCopies s) := by
  intro s
  delta loadCopies
  refine Ok.forEach ?_ ?_
  · intro a0 a1
    refine Ok.ite ?_ ?_
    · refine Ok.via (State.modTrio_ok ?_) rfl ?_
      · exact fun _ h => Trio.setCopy_good h ⟨h.2.2.2.2, rfl⟩
      exact Ok.refl
    · exact Ok.refl
  · exact Ok.refl

theorem replayCopies_ok : ∀ s, Ok [.trio] s (@replayCopies s) := by
  intro s
  delta replayCopies
  refine Ok.forEach ?_ ?_
  · intro a0 a1
    refine Ok.ite ?_ ?_
    · refine Ok.via (modCopy_ok ?_) rfl ?_
      · exact fun _ h => Copy.foldl_good (α := Nat × Word) (f := fun c x => c.setReg x.1 x.2) (fun _ _ h => ⟨Sparse.wf_set h.1, h.2⟩) _ h
      exact Ok.refl
    · exact Ok.refl
  · exact Ok.refl

theorem saveTrio_ok : ∀ s, Ok [.trio] s (@saveTrio s) := by
  intro s
  delta saveTrio
  extract_lets +onlyGivenNames -merge -useContext s0
  refine Ok.withS (x := s0) ?_ fun h1 => ?_
  · unfold s0
    refine Ok.via (State.modTrio_ok ?_) rfl ?_
    · exact fun _ h => ⟨h.1, h.2.1, h.2.2.1, h.2.2.2.1, h.2.2.2.2⟩
    exact Ok.refl
  clear_value s0
  refine Ok.ite ?_ ?_
  · exact h1
  · extract_lets +onlyGivenNames -merge -useContext s2
    refine Ok.withS (x := s2) ?_ fun h3 => ?_
    · unfold s2
      refine Ok.via (replayCopies_ok ..) rfl ?_
      exact h1
    clear_value s2
    refine Ok.via (State.modTrio_good fun h => ⟨h.1, h.2.1, h.2.2.1, h.2.2.2.1, State.votedRegs_wf h⟩) rfl ?_
    exact h3

theorem logSafe_ok : ∀ s, Ok [.logQ, .reg .MGS_LOGSTAT] s (@logSafe s) := by
  intro s
  delta logSafe
  refine Ok.via (logMgs_ok ..) rfl ?_
  exact Ok.refl

theorem enterSafe_ok : ∀ x0 s, Ok [.logQ, .trio, .reg .MGS_LOGSTAT, .reg .TRIO_STAT] s (@enterSafe x0 s) := by
  intro x0 s
  delta enterSafe
  refine Ok.ite ?_ ?_
  · exact Ok.refl
  · extract_lets +onlyGivenNames -merge -useContext s0
    refine Ok.withS (x := s0) ?_ fun h1 => ?_
    · unfold s0
      refine Ok.via (State.put_at (at_TRIO_STAT)) rfl ?_
      refine Ok.via (State.put_at (at_TRIO_STAT)) rfl ?_
      exact Ok.refl
    clear_value s0
    refine Ok.via (logSafe_ok ..) rfl ?_
    refine Ok.via (State.modTrio_ok ?_) rfl ?_
    · exact fun _ h => ⟨h.1, h.2.1, h.2.2.1, h.2.2.2.1, h.2.2.2.2⟩
    exact h1

theorem enterSafeParity_ok : ∀ s, Ok [.logQ, .trio, .reg .MGS_LOGSTAT] s (@enterSafeParity s) := by
  intro s
  delta enterSafeParity
  refine Ok.ite ?_ ?_
  · exact Ok.refl
  · refine Ok.via (logSafe_ok ..) rfl ?_
    refine Ok.via (State.modTrio_ok ?_) rfl ?_
    · exact fun _ h => ⟨h.1, h.2.1, h.2.2.1, h.2.2.2.1, h.2.2.2.2⟩
    exact Ok.refl

theorem comparatorFault_ok : ∀ s, Ok [.trioQ, .emcyQ, .logQ, .logWin, .trio, .reg .EV_PEND, .reg .MGS_LOGSTAT, .reg .TRIO_STAT] s (@comparatorFault s) := by
  intro s
  delta comparatorFault
  refine Ok.ite ?_ ?_
  · exact Ok.refl
  · refine Ok.via (enterSafe_ok ..) rfl ?_
    refine Ok.via (pendSrc_ok ..) rfl ?_
    exact Ok.refl

theorem recordMismatch_ok : ∀ x0 x1 s, Ok [.reg .TRIO_MM] s (@recordMismatch x0 x1 s) := by
  intro x0 x1 s
  delta recordMismatch
  refine Ok.ite ?_ ?_
  · refine Ok.via (State.put_at (at_TRIO_MM)) rfl ?_
    exact Ok.refl
  · refine Ok.via (State.put_at (at_TRIO_MM)) rfl ?_
    refine Ok.via (State.put_at (at_TRIO_MM)) rfl ?_
    refine Ok.via (State.put_at (at_TRIO_MM)) rfl ?_
    exact Ok.refl

theorem mismatch_ok : ∀ x0 x1 s, Ok [.logQ, .trio, .reg .MGS_LOGSTAT, .reg .TRIO_MM, .reg .TRIO_STAT] s (@mismatch x0 x1 s) := by
  intro x0 x1 s
  delta mismatch
  split
  · extract_lets +onlyGivenNames -merge -useContext s0
    refine Ok.withS (x := s0) ?_ fun h1 => ?_
    · unfold s0
      refine Ok.via (recordMismatch_ok ..) rfl ?_
      exact Ok.refl
    clear_value s0
    extract_lets +onlyGivenNames -merge -useContext s2
    clear_value s2
    refine Ok.ite ?_ ?_
    · refine Ok.via (State.modTrio_ok ?_) rfl ?_
      · exact fun _ h => ⟨h.1, h.2.1, h.2.2.1, h.2.2.2.1, h.2.2.2.2⟩
      refine Ok.via (State.put_at (at_TRIO_STAT)) rfl ?_
      refine Ok.via (State.put_at (at_TRIO_STAT)) rfl ?_
      exact h1
    · refine Ok.ite ?_ ?_
      · refine Ok.via (State.put_at (at_TRIO_STAT)) rfl ?_
        refine Ok.via (State.put_at (at_TRIO_STAT)) rfl ?_
        refine Ok.via (State.put_at (at_TRIO_STAT)) rfl ?_
        exact h1
      · refine Ok.via (enterSafe_ok ..) rfl ?_
        exact h1
  · refine Ok.ite ?_ ?_
    · exact Ok.refl
    · refine Ok.via (enterSafe_ok ..) rfl ?_
      refine Ok.via (recordMismatch_ok ..) rfl ?_
      exact Ok.refl
  · refine Ok.via (enterSafe_ok ..) rfl ?_
    refine Ok.via (recordMismatch_ok ..) rfl ?_
    exact Ok.refl
  · refine Ok.via (recordMismatch_ok ..) rfl ?_
    exact Ok.refl
  · exact Ok.refl

theorem pairMismatch_ok : ∀ x0 s, Ok [.free, .logQ, .trio, .reg .MGS_LOGSTAT, .reg .TRIO_MM, .reg .TRIO_STAT] s (@pairMismatch x0 s) := by
  intro x0 s
  delta pairMismatch
  split
  · rename_i t0 e1
    refine Ok.withS (x := t0) (OkP.of_eq e1 ?_) fun h2 => ?_
    · refine OkP.via (State.fresh_ok ..) rfl ?_
      exact Ok.refl
    extract_lets +onlyGivenNames -merge -useContext s3
    refine Ok.withS (x := s3) ?_ fun h4 => ?_
    · unfold s3
      refine Ok.via (recordMismatch_ok ..) rfl ?_
      exact h2
    clear_value s3
    refine Ok.ite ?_ ?_
    · refine Ok.via (enterSafe_ok ..) rfl ?_
      exact h4
    · refine Ok.ite ?_ ?_
      · refine Ok.via (enterSafe_ok ..) rfl ?_
        exact h4
      · exact h4

theorem countInputs_ok : ∀ x0 x1 x2 s, Ok [.reg .TRIO_INDIS] s (@countInputs x0 x1 x2 s) := by
  intro x0 x1 x2 s
  delta countInputs
  refine Ok.via (State.addSat_at (at_TRIO_INDIS)) rfl ?_
  refine Ok.via (State.addSat_at (at_TRIO_INDIS)) rfl ?_
  refine Ok.via (State.addSat_at (at_TRIO_INDIS)) rfl ?_
  exact Ok.refl

theorem signatureEnd_ok : ∀ x0 x1 x2 x3 x4 x5 s, Ok [.staged, .free, .logQ, .trio, .reg .MGS_LOGSTAT, .reg .TRIO_CFG, .reg .TRIO_INDIS, .reg .TRIO_MM, .reg .TRIO_STAT] s (@signatureEnd x0 x1 x2 x3 x4 x5 s) := by
  intro x0 x1 x2 x3 x4 x5 s
  delta signatureEnd
  refine Ok.ite ?_ ?_
  · exact Ok.refl
  · extract_lets +onlyGivenNames -merge -useContext s0
    refine Ok.withS (x := s0) ?_ fun h1 => ?_
    · unfold s0
      refine Ok.via (landClass_window ..) rfl ?_
      exact Ok.refl
    clear_value s0
    split
    · extract_lets +onlyGivenNames -merge -useContext s2
      refine Ok.withS (x := s2) ?_ fun h3 => ?_
      · unfold s2
        refine Ok.via (countInputs_ok ..) rfl ?_
        refine Ok.via (actCopies_ok ..) rfl ?_
        exact h1
      clear_value s2
      split
      · exact h3
      · refine Ok.via (mismatch_ok ..) rfl ?_
        exact h3
      · refine Ok.via (enterSafe_ok ..) rfl ?_
        exact h3
    · extract_lets +onlyGivenNames -merge -useContext s4
      refine Ok.withS (x := s4) ?_ fun h5 => ?_
      · unfold s4
        refine Ok.via (countInputs_ok ..) rfl ?_
        refine Ok.via (actCopies_ok ..) rfl ?_
        exact h1
      clear_value s4
      refine Ok.ite ?_ ?_
      · exact h5
      · refine Ok.via (pairMismatch_ok ..) rfl ?_
        exact h5
    · extract_lets +onlyGivenNames -merge -useContext s6
      refine Ok.withS (x := s6) ?_ fun h7 => ?_
      · unfold s6
        refine Ok.via (countInputs_ok ..) rfl ?_
        refine Ok.via (actCopies_ok ..) rfl ?_
        exact h1
      clear_value s6
      refine Ok.ite ?_ ?_
      · exact h7
      · refine Ok.via (pairMismatch_ok ..) rfl ?_
        exact h7
    · exact h1

theorem scrubFound_ok : ∀ s, Ok [.trioQ, .emcyQ, .logQ, .logWin, .reg .EV_PEND, .reg .MGS_LOGSTAT, .reg .TRIO_CNT] s (@scrubFound s) := by
  intro s
  delta scrubFound
  refine Ok.via (pendSrc_ok ..) rfl ?_
  refine Ok.via (State.inc_at (at_TRIO_CNT)) rfl ?_
  exact Ok.refl

theorem compareHashes_ok : ∀ x0 s, Ok [.free, .trioQ, .emcyQ, .logQ, .logWin, .trio, .reg .EV_PEND, .reg .MGS_LOGSTAT, .reg .TRIO_CNT, .reg .TRIO_MM, .reg .TRIO_STAT] s (@compareHashes x0 s) := by
  intro x0 s
  delta compareHashes
  split
  · split
    · split
      · exact Ok.refl
      · refine Ok.via (mismatch_ok ..) rfl ?_
        refine Ok.via (scrubFound_ok ..) rfl ?_
        exact Ok.refl
      · refine Ok.via (enterSafe_ok ..) rfl ?_
        exact Ok.refl
    · refine Ok.ite ?_ ?_
      · exact Ok.refl
      · refine Ok.via (pairMismatch_ok ..) rfl ?_
        refine Ok.via (scrubFound_ok ..) rfl ?_
        exact Ok.refl
    · exact Ok.refl

theorem quietScrub_ok : ∀ x0 x1 x2 s, Ok [.free, .trioQ, .emcyQ, .logQ, .logWin, .trio, .reg .EV_PEND, .reg .MGS_LOGSTAT, .reg .TRIO_CNT, .reg .TRIO_MM, .reg .TRIO_STAT] s (@quietScrub x0 x1 x2 s) := by
  intro x0 x1 x2 s
  delta quietScrub
  refine Ok.ite ?_ ?_
  · exact Ok.refl
  · extract_lets +onlyGivenNames -merge -useContext s0
    refine Ok.withS (x := s0) ?_ fun h1 => ?_
    · unfold s0
      refine Ok.via (State.modTrio_ok ?_) rfl ?_
      · exact fun _ h => ⟨h.1, h.2.1, h.2.2.1, h.2.2.2.1, h.2.2.2.2⟩
      refine Ok.via (upsetCopies_ok ..) rfl ?_
      exact Ok.refl
    clear_value s0
    extract_lets +onlyGivenNames -merge -useContext s2
    refine Ok.withS (x := s2) ?_ fun h3 => ?_
    · unfold s2
      refine Ok.ite ?_ ?_
      · refine Ok.via (State.modTrio_ok ?_) rfl ?_
        · exact fun _ h => ⟨h.1, h.2.1, h.2.2.1, h.2.2.2.1, h.2.2.2.2⟩
        exact h1
      · exact h1
    clear_value s2
    refine Ok.via (compareHashes_ok ..) rfl ?_
    exact h3

theorem selfTest_ok : ∀ x0 x1 s, Ok [.trioQ, .emcyQ, .logQ, .logWin, .trio, .reg .EV_PEND, .reg .MGS_LOGSTAT, .reg .TRIO_STAT, .reg .TRIO_STEST] s (@selfTest x0 x1 s) := by
  intro x0 x1 s
  delta selfTest
  refine Ok.ite ?_ ?_
  · exact Ok.refl
  · extract_lets +onlyGivenNames -merge -useContext s0
    clear_value s0
    extract_lets +onlyGivenNames -merge -useContext s1
    refine Ok.withS (x := s1) ?_ fun h2 => ?_
    · unfold s1
      refine Ok.via (State.modTrio_ok ?_) rfl ?_
      · exact fun _ h => ⟨h.1, h.2.1, h.2.2.1, h.2.2.2.1, h.2.2.2.2⟩
      refine Ok.via (State.put_at (at_TRIO_STEST)) rfl ?_
      exact Ok.refl
    clear_value s1
    refine Ok.ite ?_ ?_
    · refine Ok.via (State.incWrap_at (at_TRIO_STEST)) rfl ?_
      exact h2
    · refine Ok.via (comparatorFault_ok ..) rfl ?_
      exact h2

theorem delayParity_ok : ∀ x0 s, Ok [.logQ, .trio, .reg .MGS_LOGSTAT, .reg .TRIO_CNT, .reg .TRIO_MM, .reg .TRIO_STAT] s (@delayParity x0 s) := by
  intro x0 s
  delta delayParity
  refine Ok.ite ?_ ?_
  · exact Ok.refl
  · refine Ok.via (mismatch_ok ..) rfl ?_
    refine Ok.via (State.inc_at (at_TRIO_CNT)) rfl ?_
    exact Ok.refl

theorem cacheParity_ok : ∀ x0 s, Ok [.logQ, .trio, .reg .MGS_LOGSTAT, .reg .TRIO_MM, .reg .TRIO_STAT] s (@cacheParity x0 s) := by
  intro x0 s
  delta cacheParity
  refine Ok.ite ?_ ?_
  · exact Ok.refl
  · refine Ok.via (mismatch_ok ..) rfl ?_
    exact Ok.refl

theorem sramDouble_ok : ∀ s, Ok [.logQ, .trio, .reg .MGS_LOGSTAT, .reg .TRIO_STAT] s (@sramDouble s) := by
  intro s
  delta sramDouble
  refine Ok.ite ?_ ?_
  · exact Ok.refl
  · refine Ok.via (enterSafe_ok ..) rfl ?_
    exact Ok.refl

theorem sramScrub_ok : ∀ x0 s, Ok [.reg .TRIO_SRAM] s (@sramScrub x0 s) := by
  intro x0 s
  delta sramScrub
  refine Ok.ite ?_ ?_
  · exact Ok.refl
  · refine Ok.via (State.addSat_at (at_TRIO_SRAM)) rfl ?_
    exact Ok.refl

theorem voterDisagreement_ok : ∀ s, Ok [.free, .logQ, .trio, .reg .MGS_LOGSTAT, .reg .TRIO_MM, .reg .TRIO_STAT] s (@voterDisagreement s) := by
  intro s
  delta voterDisagreement
  refine Ok.ite ?_ ?_
  · refine Ok.via (pairMismatch_ok ..) rfl ?_
    exact Ok.refl
  · exact Ok.refl

theorem resyncHold_ok : ∀ s, Ok [.trio] s (@resyncHold s) := by
  intro s
  delta resyncHold
  refine Ok.ite ?_ ?_
  · refine Ok.via (clearTags_ok ..) rfl ?_
    refine Ok.via (State.modTrio_ok ?_) rfl ?_
    · exact fun _ h => ⟨h.1, h.2.1, h.2.2.1, h.2.2.2.1, h.2.2.2.2⟩
    exact Ok.refl
  · exact Ok.refl

theorem resyncBoundary_ok : ∀ s, Ok [.trio] s (@resyncBoundary s) := by
  intro s
  delta resyncBoundary
  refine Ok.ite ?_ ?_
  · refine Ok.via (State.modTrio_ok ?_) rfl ?_
    · exact fun _ h => ⟨h.1, h.2.1, h.2.2.1, h.2.2.2.1, h.2.2.2.2⟩
    exact Ok.refl
  · exact Ok.refl

theorem resyncComplete_ok : ∀ s, Ok [.trioQ, .emcyQ, .logQ, .logWin, .trio, .reg .EV_PEND, .reg .MGS_LOGSTAT, .reg .TRIO_CNT, .reg .TRIO_STAT] s (@resyncComplete s) := by
  intro s
  delta resyncComplete
  refine Ok.ite ?_ ?_
  · extract_lets +onlyGivenNames -merge -useContext s0
    clear_value s0
    extract_lets +onlyGivenNames -merge -useContext s1
    clear_value s1
    extract_lets +onlyGivenNames -merge -useContext s2
    refine Ok.withS (x := s2) ?_ fun h3 => ?_
    · unfold s2
      refine Ok.via (State.modTrio_ok ?_) rfl ?_
      · exact fun _ h => Trio.setCopy_good h ⟨(Trio.copy_good h _).1, (Trio.copy_good h _).2⟩
      exact Ok.refl
    clear_value s2
    extract_lets +onlyGivenNames -merge -useContext s4
    refine Ok.withS (x := s4) ?_ fun h7 => ?_
    · unfold s4
      refine Ok.forEach ?_ ?_
      · intro a5 a6
        refine Ok.via (clearTags_ok ..) rfl ?_
        exact Ok.refl
      · exact h3
    clear_value s4
    extract_lets +onlyGivenNames -merge -useContext s8
    refine Ok.withS (x := s8) ?_ fun h9 => ?_
    · unfold s8
      refine Ok.via (State.inc_at (at_TRIO_CNT)) rfl ?_
      refine Ok.via (State.put_at (at_TRIO_STAT)) rfl ?_
      refine Ok.via (State.put_at (at_TRIO_STAT)) rfl ?_
      exact h7
    clear_value s8
    refine Ok.via (pendSrc_ok ..) rfl ?_
    refine Ok.via (State.modTrio_ok ?_) rfl ?_
    · exact fun _ h => ⟨h.1, h.2.1, h.2.2.1, h.2.2.2.1, h.2.2.2.2⟩
    exact h9
  · exact Ok.refl

theorem resyncTimeout_ok : ∀ s, Ok [.logQ, .trio, .reg .MGS_LOGSTAT, .reg .TRIO_STAT] s (@resyncTimeout s) := by
  intro s
  delta resyncTimeout
  refine Ok.ite ?_ ?_
  · refine Ok.via (enterSafe_ok ..) rfl ?_
    exact Ok.refl
  · exact Ok.refl

theorem restartWatchdog_ok : ∀ s, Ok [.mgs] s (@restartWatchdog s) := by
  intro s
  delta restartWatchdog
  refine Ok.via (Ok.mgs ?_) rfl ?_
  · exact fun ⟨h1, h2, h3, h4, h5⟩ => ⟨h1, h2, h3, h4, h5⟩
  exact Ok.refl

theorem debugHalt_ok : ∀ s, Ok [.trio, .reg .TRIO_STAT] s (@debugHalt s) := by
  intro s
  delta debugHalt
  refine Ok.ite ?_ ?_
  · extract_lets +onlyGivenNames -merge -useContext s0
    clear_value s0
    refine Ok.via (State.modTrio_ok ?_) rfl ?_
    · exact fun _ h => ⟨h.1, h.2.1, h.2.2.1, h.2.2.2.1, h.2.2.2.2⟩
    refine Ok.via (State.put_at (at_TRIO_STAT)) rfl ?_
    exact Ok.refl
  · exact Ok.refl

theorem debugResume_ok : ∀ x0 x1 x2 x3 s, Ok [.free, .trioQ, .emcyQ, .logQ, .logWin, .trio, .mgs, .reg .EV_PEND, .reg .MGS_LOGSTAT, .reg .TRIO_CNT, .reg .TRIO_MM, .reg .TRIO_STAT] s (@debugResume x0 x1 x2 x3 s) := by
  intro x0 x1 x2 x3 s
  delta debugResume
  refine Ok.ite ?_ ?_
  · exact Ok.refl
  · extract_lets +onlyGivenNames -merge -useContext s0
    clear_value s0
    extract_lets +onlyGivenNames -merge -useContext s1
    refine Ok.withS (x := s1) ?_ fun h2 => ?_
    · unfold s1
      refine Ok.via (upsetCopies_ok ..) rfl ?_
      refine Ok.via (replayCopies_ok ..) rfl ?_
      exact Ok.refl
    clear_value s1
    extract_lets +onlyGivenNames -merge -useContext s3
    refine Ok.withS (x := s3) ?_ fun h4 => ?_
    · unfold s3
      refine Ok.via (State.modTrio_ok ?_) rfl ?_
      · exact fun _ h => ⟨h.1, h.2.1, h.2.2.1, h.2.2.2.1, h.2.2.2.2⟩
      exact h2
    clear_value s3
    extract_lets +onlyGivenNames -merge -useContext s5
    refine Ok.withS (x := s5) ?_ fun h6 => ?_
    · unfold s5
      refine Ok.via (State.put_at (at_TRIO_STAT)) rfl ?_
      exact h4
    clear_value s5
    extract_lets +onlyGivenNames -merge -useContext s7
    refine Ok.withS (x := s7) ?_ fun h8 => ?_
    · unfold s7
      refine Ok.via (compareHashes_ok ..) rfl ?_
      refine Ok.via (restartWatchdog_ok ..) rfl ?_
      exact h6
    clear_value s7
    refine Ok.ite ?_ ?_
    · refine Ok.via (State.put_at (at_TRIO_STAT)) rfl ?_
      exact h8
    · exact h8

theorem debugRegister_ok : ∀ x0 x1 s, Ok [.trio] s (@debugRegister x0 x1 s) := by
  intro x0 x1 s
  delta debugRegister
  refine Ok.ite ?_ ?_
  · exact Ok.refl
  · refine Ok.ite ?_ ?_
    · refine Ok.via (modCopy_ok ?_) rfl ?_
      · exact fun _ h => ⟨Sparse.wf_set h.1, h.2⟩
      refine Ok.via (State.modTrio_ok ?_) rfl ?_
      · exact fun _ h => ⟨h.1, h.2.1, h.2.2.1, h.2.2.2.1, h.2.2.2.2⟩
      exact Ok.refl
    · refine Ok.via (State.modTrio_ok ?_) rfl ?_
      · exact fun _ h => ⟨h.1, h.2.1, h.2.2.1, h.2.2.2.1, h.2.2.2.2⟩
      exact Ok.refl

theorem debugMemory_ok : ∀ x0 x1 s, Ok [.trio] s (@debugMemory x0 x1 s) := by
  intro x0 x1 s
  delta debugMemory
  refine Ok.ite ?_ ?_
  · exact Ok.refl
  · refine Ok.via (State.modTrio_ok ?_) rfl ?_
    · intro _ h
      dsimp only [Trio.good]
      exact ⟨Sparse.wf_set h.1, h.2.1, h.2.2.1, h.2.2.2.1, h.2.2.2.2⟩
    exact Ok.refl

theorem haltNLow_ok : ∀ s, Ok [.power, .reg .EV_PIN] s (@haltNLow s) := by
  intro s
  delta haltNLow
  refine Ok.ite ?_ ?_
  · exact Ok.refl
  · refine Ok.via (State.modPower_ok ..) rfl ?_
    refine Ok.via (State.put_at (at_EV_PIN)) rfl ?_
    refine Ok.via (State.put_at (at_EV_PIN)) rfl ?_
    exact Ok.refl

theorem haltNHigh_ok : ∀ s, Ok [.reg .EV_PIN] s (@haltNHigh s) := by
  intro s
  delta haltNHigh
  refine Ok.ite ?_ ?_
  · exact Ok.refl
  · refine Ok.via (State.put_at (at_EV_PIN)) rfl ?_
    exact Ok.refl

end Sys2Proof.Machine
end

