-- ==== Sys2Proof/Laws/OkMgsOps.lean ====
section
/-!
SUPPORT. Laws/OkMgsOps.lean: for each operation of Machine/MgsOps.lean, the parts of the state it can change, and that it keeps a
good state good.
-/

namespace Sys2Proof.Machine

set_option Elab.async false

theorem State.modMgs_ok {s : State} {f : Mgs → Mgs} (h : ∀ x : Mgs, x.good → (f x).good) : Ok [.mgs] s (s.modMgs f) :=
  Ok.mgs (h _)

theorem nearFull_ok : ∀ x0 s, Ok [.trioQ, .emcyQ, .logQ, .logWin, .reg .EV_PEND, .reg .MGS_LOGSTAT] s (@nearFull x0 s) := by
  intro x0 s
  delta nearFull
  extract_lets +onlyGivenNames -merge -useContext s0
  clear_value s0
  refine Ok.ite ?_ ?_
  · refine Ok.via (pendSrc_ok ..) rfl ?_
    exact Ok.refl
  · exact Ok.refl

theorem logWrite_ok : ∀ x0 s, Ok [.trioQ, .emcyQ, .logQ, .logWin, .mgs, .reg .EV_PEND, .reg .MGS_LOGRPTR, .reg .MGS_LOGSTAT] s (@logWrite x0 s) := by
  intro x0 s
  delta logWrite
  extract_lets +onlyGivenNames -merge -useContext s0
  clear_value s0
  extract_lets +onlyGivenNames -merge -useContext s1
  clear_value s1
  extract_lets +onlyGivenNames -merge -useContext s2
  clear_value s2
  extract_lets +onlyGivenNames -merge -useContext s3
  refine Ok.withS (x := s3) ?_ fun h5 => ?_
  · unfold s3
    refine Ok.applyIf ?_ ?_
    · intro a4
      refine Ok.via (State.inc_at (at_MGS_LOGSTAT)) rfl ?_
      refine Ok.via (State.wr_at (at_MGS_LOGRPTR)) rfl ?_
      exact Ok.refl
    · exact Ok.refl
  clear_value s3
  refine Ok.via (nearFull_ok ..) rfl ?_
  refine Ok.via (State.modMgs_ok ?_) rfl ?_
  · exact fun m h => ⟨h.1, h.2.1, h.2.2.1, h.2.2.2.1, by have := h.2.2.2.2; dsimp only; split <;> simp <;> omega⟩
  exact h5

theorem logEntry_ok : ∀ s, Ok [.trioQ, .emcyQ, .logQ, .logWin, .mgs, .reg .EV_PEND, .reg .MGS_LOGRPTR, .reg .MGS_LOGSTAT] s (@logEntry s) := by
  intro s
  delta logEntry
  split
  · exact Ok.refl
  · refine Ok.via (logWrite_ok ..) rfl ?_
    rename_i x q e
    refine Ok.via (Ok.logQ fun h => ?_) rfl Ok.refl
    rw [e] at h
    exact Nat.le_of_succ_le h

theorem setRepeat_length (code n : Nat) (l : List LogEntry) : (setRepeat code n l).length = l.length := by
  induction l with
  | nil => rfl
  | cons e l ih =>
    unfold setRepeat
    split
    · rfl
    · simp [ih]

theorem logRepeat_ok : ∀ x0 s, Ok [.logWin, .mgs] s (logRepeat x0 s) := by
  intro x0 s
  delta logRepeat
  split
  · exact Ok.refl
  · refine Ok.ite Ok.refl ?_
    refine Ok.ite ?_ ?_
    · exact (Ok.logWin fun h => Sparse.wf_set h).mono rfl
    · refine Ok.via (State.modMgs_ok fun _ h => ?_) rfl ((Ok.logWin fun h => Sparse.wf_set h).mono rfl)
      refine ⟨h.1, h.2.1, h.2.2.1, h.2.2.2.1, ?_⟩
      rw [setRepeat_length]
      exact h.2.2.2.2

theorem logDataRead_ok : ∀ s, OkP [.mgs, .reg .MGS_LOGRPTR] s (@logDataRead s) := by
  intro s
  delta logDataRead
  refine OkP.ite ?_ ?_
  · refine OkP.mk ?_
    exact Ok.refl
  · extract_lets +onlyGivenNames -merge -useContext s0
    clear_value s0
    extract_lets +onlyGivenNames -merge -useContext s1
    clear_value s1
    refine OkP.ite ?_ ?_
    · refine OkP.mk ?_
      refine Ok.via (State.modMgs_ok ?_) rfl ?_
      · exact fun _ h => ⟨h.1, h.2.1, h.2.2.1, h.2.2.2.1, h.2.2.2.2⟩
      refine Ok.via (State.wr_at (at_MGS_LOGRPTR)) rfl ?_
      exact Ok.refl
    · refine OkP.mk ?_
      refine Ok.via (State.modMgs_ok ?_) rfl ?_
      · exact fun _ h => ⟨h.1, h.2.1, h.2.2.1, h.2.2.2.1, h.2.2.2.2⟩
      exact Ok.refl

theorem setLock_ok : ∀ x0 s, Ok [.logQ, .reg .MGS_LOGSTAT, .reg .MGS_PROV] s (@setLock x0 s) := by
  intro x0 s
  delta setLock
  refine Ok.ite ?_ ?_
  · exact Ok.refl
  · refine Ok.via (logMgs_ok ..) rfl ?_
    refine Ok.via (State.put_at (at_MGS_PROV)) rfl ?_
    refine Ok.via (State.put_at (at_MGS_PROV)) rfl ?_
    exact Ok.refl

theorem alarm_ok : ∀ x0 s, Ok [.trioQ, .emcyQ, .logQ, .logWin, .mgs, .reg .EV_PEND, .reg .MGS_ALSTAT, .reg .MGS_LOGSTAT, .reg .MGS_PROV] s (@alarm x0 s) := by
  intro x0 s
  delta alarm
  extract_lets +onlyGivenNames -merge -useContext s0
  clear_value s0
  extract_lets +onlyGivenNames -merge -useContext s1
  refine Ok.withS (x := s1) ?_ fun h2 => ?_
  · unfold s1
    refine Ok.via (pendSrc_ok ..) rfl ?_
    refine Ok.via (State.putBitAt_at (at_MGS_ALSTAT)) rfl ?_
    exact Ok.refl
  clear_value s1
  extract_lets +onlyGivenNames -merge -useContext s3
  refine Ok.withS (x := s3) ?_ fun h4 => ?_
  · unfold s3
    refine Ok.via (logMgs_ok ..) rfl ?_
    exact h2
  clear_value s3
  split
  · refine Ok.via (setLock_ok ..) rfl ?_
    exact h4
  · refine Ok.via (State.modMgs_ok ?_) rfl ?_
    · exact fun _ h => ⟨h.1, h.2.1, h.2.2.1, h.2.2.2.1, h.2.2.2.2⟩
    exact h4
  · exact h4

theorem setActive_ok : ∀ x0 x1 s, Ok [.reg .MGS_ALSTAT] s (@setActive x0 x1 s) := by
  intro x0 x1 s
  delta setActive
  refine Ok.via (State.putBitAt_at (at_MGS_ALSTAT)) rfl ?_
  exact Ok.refl

theorem clearSecbuf_ok : ∀ s, Ok [.mgs, .reg .MGS_SECBUF] s (@clearSecbuf s) := by
  intro s
  delta clearSecbuf
  extract_lets +onlyGivenNames -merge -useContext s0
  refine Ok.withS (x := s0) ?_ fun h3 => ?_
  · unfold s0
    refine Ok.forEach ?_ ?_
    · intro a1 a2
      refine Ok.via (State.wr_at (at_MGS_SECBUF _)) rfl ?_
      exact Ok.refl
    · exact Ok.refl
  clear_value s0
  refine Ok.via (State.modMgs_ok ?_) rfl ?_
  · exact fun _ h => ⟨h.1, h.2.1, rfl, h.2.2.2.1, h.2.2.2.2⟩
  exact h3

theorem endHostSession_ok : ∀ s, Ok [.mgs, .reg .MGS_SECBUF] s (@endHostSession s) := by
  intro s
  delta endHostSession
  refine Ok.via (clearSecbuf_ok ..) rfl ?_
  refine Ok.via (State.modMgs_ok ?_) rfl ?_
  · exact fun _ h => ⟨h.1, h.2.1, h.2.2.1, h.2.2.2.1, h.2.2.2.2⟩
  exact Ok.refl

theorem endDebugSession_ok : ∀ s, Ok [.mgs, .reg .MGS_SECBUF] s (@endDebugSession s) := by
  intro s
  delta endDebugSession
  refine Ok.via (clearSecbuf_ok ..) rfl ?_
  refine Ok.via (State.modMgs_ok ?_) rfl ?_
  · exact fun _ h => ⟨h.1, h.2.1, h.2.2.1, h.2.2.2.1, h.2.2.2.2⟩
  exact Ok.refl

theorem keyErase_ok : ∀ s, Ok [.logQ, .mgs, .reg .MGS_LOGSTAT, .reg .MGS_PROV, .reg .MGS_SECBUF] s (@keyErase s) := by
  intro s
  delta keyErase
  split
  · exact Ok.refl
  · extract_lets +onlyGivenNames -merge -useContext s0
    refine Ok.withS (x := s0) ?_ fun h1 => ?_
    · unfold s0
      refine Ok.via (State.modMgs_ok ?_) rfl ?_
      · exact fun _ h => ⟨h.1, h.2.1, h.2.2.1, h.2.2.2.1, h.2.2.2.2⟩
      exact Ok.refl
    clear_value s0
    extract_lets +onlyGivenNames -merge -useContext s2
    refine Ok.withS (x := s2) ?_ fun h3 => ?_
    · unfold s2
      refine Ok.ite ?_ ?_
      · exact h1
      · refine Ok.via (State.put_at (at_MGS_PROV)) rfl ?_
        refine Ok.via (State.put_at (at_MGS_PROV)) rfl ?_
        exact h1
    clear_value s2
    extract_lets +onlyGivenNames -merge -useContext s4
    refine Ok.withS (x := s4) ?_ fun h5 => ?_
    · unfold s4
      refine Ok.via (logMgs_ok ..) rfl ?_
      refine Ok.via (State.put_at (at_MGS_PROV)) rfl ?_
      exact h3
    clear_value s4
    refine Ok.via (endDebugSession_ok ..) rfl ?_
    refine Ok.via (endHostSession_ok ..) rfl ?_
    exact h5

theorem thermalCheck_ok : ∀ x0 s, Ok [.trioQ, .emcyQ, .logQ, .logWin, .trio, .reg .EV_ACT, .reg .EV_PEND, .reg .MGS_LOGSTAT, .reg .TRIO_STAT] s (@thermalCheck x0 s) := by
  intro x0 s
  delta thermalCheck
  extract_lets +onlyGivenNames -merge -useContext s0
  clear_value s0
  extract_lets +onlyGivenNames -merge -useContext s1
  clear_value s1
  extract_lets +onlyGivenNames -merge -useContext s2
  refine Ok.withS (x := s2) ?_ fun h3 => ?_
  · unfold s2
    refine Ok.ite ?_ ?_
    · refine Ok.ite ?_ ?_
      · exact Ok.refl
      · refine Ok.via (pendSrc_ok ..) rfl ?_
        refine Ok.via (setAct_ok ..) rfl ?_
        exact Ok.refl
    · refine Ok.ite ?_ ?_
      · refine Ok.via (setAct_ok ..) rfl ?_
        exact Ok.refl
      · exact Ok.refl
  clear_value s2
  refine Ok.ite ?_ ?_
  · refine Ok.via (enterSafe_ok ..) rfl ?_
    exact h3
  · exact h3

theorem railCheck_ok : ∀ x0 x1 s, Ok [.logQ, .mgs, .reg .MGS_LOGSTAT] s (@railCheck x0 x1 s) := by
  intro x0 x1 s
  delta railCheck
  extract_lets +onlyGivenNames -merge -useContext s0
  clear_value s0
  extract_lets +onlyGivenNames -merge -useContext s1
  clear_value s1
  extract_lets +onlyGivenNames -merge -useContext s2
  clear_value s2
  refine Ok.ite ?_ ?_
  · exact Ok.refl
  · extract_lets +onlyGivenNames -merge -useContext s3
    clear_value s3
    refine Ok.via (logMgs_ok ..) rfl ?_
    refine Ok.via (State.modMgs_ok ?_) rfl ?_
    · exact fun _ h => ⟨h.1, h.2.1, h.2.2.1, h.2.2.2.1, h.2.2.2.2⟩
    exact Ok.refl

theorem rtcCount_ok : ∀ x0 s, Ok [.reg .GCTL_RTC_HI, .reg .GCTL_RTC_LO] s (@rtcCount x0 s) := by
  intro x0 s
  delta rtcCount
  refine Ok.ite ?_ ?_
  · exact Ok.refl
  · extract_lets +onlyGivenNames -merge -useContext s0
    clear_value s0
    refine Ok.via (State.put_at (at_GCTL_RTC_HI)) rfl ?_
    refine Ok.via (State.wr_at (at_GCTL_RTC_LO)) rfl ?_
    exact Ok.refl

theorem monitorSample_ok : ∀ x0 x1 x2 x3 s, Ok [.trioQ, .emcyQ, .logQ, .logWin, .power, .trio, .mgs, .reg .EV_ACT, .reg .EV_PEND, .reg .GCTL_RTC_HI, .reg .GCTL_RTC_LO, .reg .MGS_ALSTAT, .reg .MGS_LOGSTAT, .reg .MGS_MON, .reg .TRIO_STAT] s (@monitorSample x0 x1 x2 x3 s) := by
  intro x0 x1 x2 x3 s
  delta monitorSample
  refine Ok.ite ?_ ?_
  · exact Ok.refl
  · extract_lets +onlyGivenNames -merge -useContext s0
    refine Ok.withS (x := s0) ?_ fun h1 => ?_
    · unfold s0
      refine Ok.via (rtcCount_ok ..) rfl ?_
      refine Ok.via (State.modMgs_ok ?_) rfl ?_
      · exact fun _ h => ⟨h.1, h.2.1, h.2.2.1, h.2.2.2.1, h.2.2.2.2⟩
      exact Ok.refl
    clear_value s0
    extract_lets +onlyGivenNames -merge -useContext s2
    refine Ok.withS (x := s2) ?_ fun h4 => ?_
    · unfold s2
      refine Ok.applyIf ?_ ?_
      · intro a3
        refine Ok.via (State.modPower_ok ..) rfl ?_
        exact Ok.refl
      · exact h1
    clear_value s2
    extract_lets +onlyGivenNames -merge -useContext s5
    clear_value s5
    extract_lets +onlyGivenNames -merge -useContext s6
    refine Ok.withS (x := s6) ?_ fun h7 => ?_
    · unfold s6
      refine Ok.via (State.modMgs_ok ?_) rfl ?_
      · exact fun _ h => ⟨h.1, h.2.1, h.2.2.1, h.2.2.2.1, h.2.2.2.2⟩
      exact h4
    clear_value s6
    extract_lets +onlyGivenNames -merge -useContext s8
    refine Ok.withS (x := s8) ?_ fun h9 => ?_
    · unfold s8
      refine Ok.via (State.put_at (at_MGS_MON _)) rfl ?_
      refine Ok.via (State.put_at (at_MGS_MON _)) rfl ?_
      exact h7
    clear_value s8
    extract_lets +onlyGivenNames -merge -useContext s10
    refine Ok.withS (x := s10) ?_ fun h14 => ?_
    · unfold s10
      refine Ok.forEach ?_ ?_
      · intro a11 a12
        extract_lets +onlyGivenNames -merge -useContext s13
        clear_value s13
        refine Ok.via (railCheck_ok ..) rfl ?_
        refine Ok.via (State.put_at (at_MGS_MON _)) rfl ?_
        refine Ok.via (State.put_at (at_MGS_MON _)) rfl ?_
        exact Ok.refl
      · exact h9
    clear_value s10
    extract_lets +onlyGivenNames -merge -useContext s15
    refine Ok.withS (x := s15) ?_ fun h18 => ?_
    · unfold s15
      refine Ok.forEach ?_ ?_
      · intro a16 a17
        refine Ok.via (setActive_ok ..) rfl ?_
        exact Ok.refl
      · exact h14
    clear_value s15
    extract_lets +onlyGivenNames -merge -useContext s19
    refine Ok.withS (x := s19) ?_ fun h20 => ?_
    · unfold s19
      refine Ok.via (setActive_ok ..) rfl ?_
      exact h18
    clear_value s19
    refine Ok.via (thermalCheck_ok ..) rfl ?_
    refine Ok.via (setActive_ok ..) rfl ?_
    exact h20

theorem watchdogService_ok : ∀ s, Ok [.mgs] s (@watchdogService s) := by
  intro s
  delta watchdogService
  refine Ok.ite ?_ ?_
  · refine Ok.via (restartWatchdog_ok ..) rfl ?_
    exact Ok.refl
  · exact Ok.refl

theorem watchdogExpiry_ok : ∀ s, Ok [.trioQ, .emcyQ, .logQ, .logWin, .trio, .mgs, .reg .EV_PEND, .reg .MGS_LOGSTAT, .reg .MGS_WDCFG, .reg .TRIO_STAT] s (@watchdogExpiry s) := by
  intro s
  delta watchdogExpiry
  refine Ok.ite ?_ ?_
  · exact Ok.refl
  · extract_lets +onlyGivenNames -merge -useContext s0
    refine Ok.withS (x := s0) ?_ fun h1 => ?_
    · unfold s0
      refine Ok.via (State.inc_at (at_MGS_WDCFG)) rfl ?_
      refine Ok.via (pendSrc_ok ..) rfl ?_
      exact Ok.refl
    clear_value s0
    extract_lets +onlyGivenNames -merge -useContext s2
    clear_value s2
    extract_lets +onlyGivenNames -merge -useContext s3
    refine Ok.withS (x := s3) ?_ fun h4 => ?_
    · unfold s3
      refine Ok.ite ?_ ?_
      · refine Ok.via (logSafe_ok ..) rfl ?_
        exact h1
      · refine Ok.via (enterSafe_ok ..) rfl ?_
        exact h1
    clear_value s3
    extract_lets +onlyGivenNames -merge -useContext s5
    refine Ok.withS (x := s5) ?_ fun h6 => ?_
    · unfold s5
      refine Ok.via (logMgs_ok ..) rfl ?_
      exact h4
    clear_value s5
    refine Ok.via (State.modMgs_ok ?_) rfl ?_
    · exact fun _ h => ⟨h.1, h.2.1, h.2.2.1, h.2.2.2.1, h.2.2.2.2⟩
    exact h6

theorem modSlot_ok {b : Bool} {s : State} {f : Slot → Slot}
    (h : ∀ x : Slot, Sparse.wf (fun _ => 0) x.words → Sparse.wf (fun _ => 0) (f x).words) : Ok [.mgs] s (modSlot b f s) := by
  refine State.modMgs_ok fun m g => ?_
  split
  · exact ⟨g.1, h _ g.2.1, g.2.2.1, g.2.2.2.1, g.2.2.2.2⟩
  · exact ⟨h _ g.1, g.2.1, g.2.2.1, g.2.2.2.1, g.2.2.2.2⟩

theorem slotTo_ok : ∀ x0 x1 s, Ok [.logQ, .mgs, .reg .MGS_LOGSTAT] s (@slotTo x0 x1 s) := by
  intro x0 x1 s
  delta slotTo
  extract_lets +onlyGivenNames -merge -useContext s0
  clear_value s0
  refine Ok.ite ?_ ?_
  · exact Ok.refl
  · refine Ok.via (logMgs_ok ..) rfl ?_
    refine Ok.via (modSlot_ok ?_) rfl ?_
    · exact fun _ h => h
    exact Ok.refl

theorem slotPending_ok : ∀ s, Ok [.logQ, .mgs, .reg .MGS_LOGSTAT, .reg .MGS_UPDSTAT] s (@slotPending s) := by
  intro s
  delta slotPending
  refine Ok.via (slotTo_ok ..) rfl ?_
  refine Ok.via (State.put_at (at_MGS_UPDSTAT)) rfl ?_
  exact Ok.refl

theorem updEffect_ok : ∀ x0 s, Ok [.logQ, .rbcnt, .mgs, .reg .MGS_LOGSTAT, .reg .MGS_UPDADDR, .reg .MGS_UPDSTAT] s (@updEffect x0 s) := by
  intro x0 s
  delta updEffect
  extract_lets +onlyGivenNames -merge -useContext s0
  clear_value s0
  split
  · extract_lets +onlyGivenNames -merge -useContext s1
    refine Ok.withS (x := s1) ?_ fun h2 => ?_
    · unfold s1
      refine Ok.via (slotTo_ok ..) rfl ?_
      refine Ok.via (modSlot_ok ?_) rfl ?_
      · exact fun _ h => rfl
      exact Ok.refl
    clear_value s1
    refine Ok.via (State.modMgs_ok ?_) rfl ?_
    · exact fun _ h => ⟨h.1, h.2.1, h.2.2.1, h.2.2.2.1, h.2.2.2.2⟩
    refine Ok.via (State.put_at (at_MGS_UPDADDR)) rfl ?_
    exact h2
  · extract_lets +onlyGivenNames -merge -useContext s3
    clear_value s3
    refine Ok.via (State.modMgs_ok ?_) rfl ?_
    · exact fun _ h => ⟨h.1, h.2.1, h.2.2.1, h.2.2.2.1, h.2.2.2.2⟩
    refine Ok.via (slotTo_ok ..) rfl ?_
    refine Ok.via (State.put_at (at_MGS_UPDSTAT)) rfl ?_
    exact Ok.refl
  · refine Ok.via (slotPending_ok ..) rfl ?_
    exact Ok.refl
  · refine Ok.via (slotTo_ok ..) rfl ?_
    exact Ok.refl
  · extract_lets +onlyGivenNames -merge -useContext s4
    clear_value s4
    extract_lets +onlyGivenNames -merge -useContext s5
    clear_value s5
    extract_lets +onlyGivenNames -merge -useContext s6
    refine Ok.withS (x := s6) ?_ fun h7 => ?_
    · unfold s6
      refine Ok.via (slotTo_ok ..) rfl ?_
      exact Ok.refl
    clear_value s6
    extract_lets +onlyGivenNames -merge -useContext s8
    refine Ok.withS (x := s8) ?_ fun h9 => ?_
    · unfold s8
      refine Ok.ite ?_ ?_
      · refine Ok.via (slotTo_ok ..) rfl ?_
        exact h7
      · exact h7
    clear_value s8
    refine Ok.via Ok.rbcnt rfl ?_
    exact h9
  · exact Ok.refl

theorem updCommand_ok : ∀ x0 s, Ok [.logQ, .mgs, .reg .MGS_LOGSTAT, .reg .MGS_UPDSTAT] s (@updCommand x0 s) := by
  intro x0 s
  delta updCommand
  refine Ok.ite ?_ ?_
  · refine Ok.via (State.modMgs_ok ?_) rfl ?_
    · exact fun _ h => ⟨h.1, h.2.1, h.2.2.1, h.2.2.2.1, h.2.2.2.2⟩
    refine Ok.via (slotPending_ok ..) rfl ?_
    exact Ok.refl
  · refine Ok.via (State.modMgs_ok ?_) rfl ?_
    · exact fun _ h => ⟨h.1, h.2.1, h.2.2.1, h.2.2.2.1, h.2.2.2.2⟩
    exact Ok.refl

theorem updEnd_ok : ∀ s, Ok [.logQ, .rbcnt, .mgs, .reg .MGS_LOGSTAT, .reg .MGS_UPDADDR, .reg .MGS_UPDSTAT] s (@updEnd s) := by
  intro s
  delta updEnd
  refine Ok.ite ?_ ?_
  · exact Ok.refl
  · extract_lets +onlyGivenNames -merge -useContext s0
    clear_value s0
    refine Ok.via (updEffect_ok ..) rfl ?_
    refine Ok.via (State.modMgs_ok ?_) rfl ?_
    · exact fun _ h => ⟨h.1, h.2.1, h.2.2.1, h.2.2.2.1, h.2.2.2.2⟩
    exact Ok.refl

theorem updData_ok : ∀ x0 s, Ok [.mgs, .reg .MGS_UPDADDR] s (@updData x0 s) := by
  intro x0 s
  delta updData
  extract_lets +onlyGivenNames -merge -useContext s0
  clear_value s0
  extract_lets +onlyGivenNames -merge -useContext s1
  refine Ok.withS (x := s1) ?_ fun h2 => ?_
  · unfold s1
    refine Ok.via (modSlot_ok ?_) rfl ?_
    · exact fun _ h => Sparse.wf_set h
    exact Ok.refl
  clear_value s1
  refine Ok.ite ?_ ?_
  · refine Ok.via (State.modMgs_ok ?_) rfl ?_
    · exact fun _ h => ⟨h.1, h.2.1, h.2.2.1, h.2.2.2.1, h.2.2.2.2⟩
    exact h2
  · refine Ok.via (State.put_at (at_MGS_UPDADDR)) rfl ?_
    exact h2

theorem newChallenge_ok : ∀ s, OkP [.free] s (@newChallenge s) := by
  intro s
  delta newChallenge
  split
  · rename_i t0 e1
    refine OkP.withS (x := t0) (OkP.of_eq e1 ?_) fun h2 => ?_
    · refine OkP.via (State.fresh_ok ..) rfl ?_
      exact Ok.refl
    refine OkP.mk ?_
    exact h2

theorem issueHost_ok : ∀ s, Ok [.free, .mgs, .reg .MGS_AUCHAL] s (@issueHost s) := by
  intro s
  delta issueHost
  split
  · rename_i t0 e1
    refine Ok.withS (x := t0) (OkP.of_eq e1 ?_) fun h2 => ?_
    · refine OkP.via (newChallenge_ok ..) rfl ?_
      exact Ok.refl
    extract_lets +onlyGivenNames -merge -useContext s3
    refine Ok.withS (x := s3) ?_ fun h6 => ?_
    · unfold s3
      refine Ok.forEach ?_ ?_
      · intro a4 a5
        refine Ok.via (State.wr_at (at_MGS_AUCHAL _)) rfl ?_
        exact Ok.refl
      · exact h2
    clear_value s3
    refine Ok.via (State.modMgs_ok ?_) rfl ?_
    · exact fun _ h => ⟨h.1, h.2.1, h.2.2.1, h.2.2.2.1, h.2.2.2.2⟩
    exact h6

theorem issueDebug_ok : ∀ s, Ok [.free, .mgs] s (@issueDebug s) := by
  intro s
  delta issueDebug
  refine Ok.ite ?_ ?_
  · exact Ok.refl
  · split
    · rename_i t0 e1
      refine Ok.withS (x := t0) (OkP.of_eq e1 ?_) fun h2 => ?_
      · refine OkP.via (newChallenge_ok ..) rfl ?_
        exact Ok.refl
      refine Ok.via (State.modMgs_ok ?_) rfl ?_
      · exact fun _ h => ⟨h.1, h.2.1, h.2.2.1, h.2.2.2.1, h.2.2.2.2⟩
      exact h2

theorem authFailure_ok : ∀ x0 x1 s, Ok [.trioQ, .emcyQ, .logQ, .logWin, .mgs, .reg .EV_PEND, .reg .MGS_ALSTAT, .reg .MGS_AUSTAT, .reg .MGS_LOGSTAT, .reg .MGS_PROV] s (@authFailure x0 x1 s) := by
  intro x0 x1 s
  delta authFailure
  extract_lets +onlyGivenNames -merge -useContext s0
  refine Ok.withS (x := s0) ?_ fun h1 => ?_
  · unfold s0
    refine Ok.via (pend_ok ..) rfl ?_
    exact Ok.refl
  clear_value s0
  extract_lets +onlyGivenNames -merge -useContext s2
  refine Ok.withS (x := s2) ?_ fun h3 => ?_
  · unfold s2
    refine Ok.via (logMgs_ok ..) rfl ?_
    refine Ok.via (State.inc_at (at_MGS_AUSTAT)) rfl ?_
    exact h1
  clear_value s2
  extract_lets +onlyGivenNames -merge -useContext s4
  clear_value s4
  extract_lets +onlyGivenNames -merge -useContext s5
  refine Ok.withS (x := s5) ?_ fun h6 => ?_
  · unfold s5
    refine Ok.via (State.modMgs_ok ?_) rfl ?_
    · exact fun _ h => ⟨h.1, h.2.1, h.2.2.1, h.2.2.2.1, h.2.2.2.2⟩
    exact h3
  clear_value s5
  refine Ok.ite ?_ ?_
  · refine Ok.via (alarm_ok ..) rfl ?_
    refine Ok.via (setActive_ok ..) rfl ?_
    exact h6
  · exact h6

theorem checkHost_ok : ∀ s, Ok [.trioQ, .emcyQ, .logQ, .logWin, .mgs, .reg .EV_PEND, .reg .MGS_ALSTAT, .reg .MGS_AUCHAL, .reg .MGS_AUSTAT, .reg .MGS_LOGSTAT, .reg .MGS_PROV] s (@checkHost s) := by
  intro s
  delta checkHost
  refine Ok.ite ?_ ?_
  · exact Ok.refl
  · extract_lets +onlyGivenNames -merge -useContext s0
    clear_value s0
    extract_lets +onlyGivenNames -merge -useContext s1
    refine Ok.withS (x := s1) ?_ fun h2 => ?_
    · unfold s1
      refine Ok.via (State.modMgs_ok ?_) rfl ?_
      · exact fun _ h => ⟨h.1, h.2.1, h.2.2.1, rfl, h.2.2.2.2⟩
      exact Ok.refl
    clear_value s1
    extract_lets +onlyGivenNames -merge -useContext s3
    refine Ok.withS (x := s3) ?_ fun h6 => ?_
    · unfold s3
      refine Ok.forEach ?_ ?_
      · intro a4 a5
        refine Ok.via (State.wr_at (at_MGS_AUCHAL _)) rfl ?_
        exact Ok.refl
      · exact h2
    clear_value s3
    refine Ok.ite ?_ ?_
    · exact h6
    · refine Ok.via (authFailure_ok ..) rfl ?_
      exact h6

theorem checkDebug_ok : ∀ x0 s, Ok [.trioQ, .emcyQ, .logQ, .logWin, .mgs, .reg .EV_PEND, .reg .MGS_ALSTAT, .reg .MGS_AUSTAT, .reg .MGS_LOGSTAT, .reg .MGS_PROV] s (@checkDebug x0 s) := by
  intro x0 s
  delta checkDebug
  extract_lets +onlyGivenNames -merge -useContext s0
  clear_value s0
  extract_lets +onlyGivenNames -merge -useContext s1
  refine Ok.withS (x := s1) ?_ fun h2 => ?_
  · unfold s1
    refine Ok.via (State.modMgs_ok ?_) rfl ?_
    · exact fun _ h => ⟨h.1, h.2.1, h.2.2.1, h.2.2.2.1, h.2.2.2.2⟩
    exact Ok.refl
  clear_value s1
  refine Ok.ite ?_ ?_
  · exact h2
  · refine Ok.via (authFailure_ok ..) rfl ?_
    exact h2

theorem expireHost_ok : ∀ s, Ok [.mgs, .reg .MGS_AUCHAL] s (@expireHost s) := by
  intro s
  delta expireHost
  extract_lets +onlyGivenNames -merge -useContext s0
  refine Ok.withS (x := s0) ?_ fun h3 => ?_
  · unfold s0
    refine Ok.forEach ?_ ?_
    · intro a1 a2
      refine Ok.via (State.wr_at (at_MGS_AUCHAL _)) rfl ?_
      exact Ok.refl
    · exact Ok.refl
  clear_value s0
  refine Ok.via (State.modMgs_ok ?_) rfl ?_
  · exact fun _ h => ⟨h.1, h.2.1, h.2.2.1, h.2.2.2.1, h.2.2.2.2⟩
  exact h3

theorem placeSecbuf_ok : ∀ x0 s, Ok [.reg .MGS_SECBUF] s (@placeSecbuf x0 s) := by
  intro x0 s
  delta placeSecbuf
  refine Ok.forEach ?_ ?_
  · intro a0 a1
    refine Ok.via (State.wr_at (at_MGS_SECBUF _)) rfl ?_
    exact Ok.refl
  · exact Ok.refl

theorem clearLock_ok : ∀ s, Ok [.logQ, .mgs, .reg .MGS_LOGSTAT, .reg .MGS_PROV] s (@clearLock s) := by
  intro s
  delta clearLock
  refine Ok.ite ?_ ?_
  · refine Ok.via (logMgs_ok ..) rfl ?_
    refine Ok.via (State.modMgs_ok ?_) rfl ?_
    · exact fun _ h => ⟨h.1, h.2.1, h.2.2.1, h.2.2.2.1, h.2.2.2.2⟩
    refine Ok.via (State.put_at (at_MGS_PROV)) rfl ?_
    exact Ok.refl
  · exact Ok.refl

theorem secEffect_ok : ∀ x0 s, Ok [.free, .logQ, .mgs, .reg .MGS_ALSTAT, .reg .MGS_LOGSTAT, .reg .MGS_PROV, .reg .MGS_SECBUF] s (@secEffect x0 s) := by
  intro x0 s
  delta secEffect
  split
  · refine Ok.via (endHostSession_ok ..) rfl ?_
    exact Ok.refl
  · extract_lets +onlyGivenNames -merge -useContext s0
    clear_value s0
    extract_lets +onlyGivenNames -merge -useContext s1
    refine Ok.withS (x := s1) ?_ fun h2 => ?_
    · unfold s1
      refine Ok.via (State.put_at (at_MGS_PROV)) rfl ?_
      refine Ok.via (State.modMgs_ok ?_) rfl ?_
      · exact fun _ h => ⟨h.1, h.2.1, h.2.2.1, h.2.2.2.1, h.2.2.2.2⟩
      exact Ok.refl
    clear_value s1
    extract_lets +onlyGivenNames -merge -useContext s3
    refine Ok.withS (x := s3) ?_ fun h4 => ?_
    · unfold s3
      refine Ok.ite ?_ ?_
      · refine Ok.via (State.modMgs_ok ?_) rfl ?_
        · exact fun _ h => ⟨h.1, h.2.1, h.2.2.1, h.2.2.2.1, h.2.2.2.2⟩
        refine Ok.via (State.put_at (at_MGS_PROV)) rfl ?_
        exact h2
      · exact h2
    clear_value s3
    refine Ok.via (clearSecbuf_ok ..) rfl ?_
    refine Ok.via (logMgs_ok ..) rfl ?_
    exact h4
  · split
    · rename_i t5 e6
      refine Ok.withS (x := t5) (OkP.of_eq e6 ?_) fun h7 => ?_
      · refine OkP.via (State.fresh_ok ..) rfl ?_
        exact Ok.refl
      extract_lets +onlyGivenNames -merge -useContext s8
      clear_value s8
      extract_lets +onlyGivenNames -merge -useContext s9
      refine Ok.withS (x := s9) ?_ fun h10 => ?_
      · unfold s9
        refine Ok.via (State.modMgs_ok ?_) rfl ?_
        · exact fun _ h => ⟨h.1, h.2.1, h.2.2.1, h.2.2.2.1, h.2.2.2.2⟩
        exact h7
      clear_value s9
      refine Ok.via (placeSecbuf_ok ..) rfl ?_
      refine Ok.via (logMgs_ok ..) rfl ?_
      exact h10
  · refine Ok.via (placeSecbuf_ok ..) rfl ?_
    exact Ok.refl
  · refine Ok.via (placeSecbuf_ok ..) rfl ?_
    exact Ok.refl
  · split
    · rename_i t11 e12
      refine Ok.withS (x := t11) (OkP.of_eq e12 ?_) fun h13 => ?_
      · refine OkP.via (State.fresh_ok ..) rfl ?_
        exact Ok.refl
      extract_lets +onlyGivenNames -merge -useContext s14
      clear_value s14
      refine Ok.via (placeSecbuf_ok ..) rfl ?_
      exact h13
  · refine Ok.via (clearLock_ok ..) rfl ?_
    exact Ok.refl
  · refine Ok.via (State.wr_at (at_MGS_ALSTAT)) rfl ?_
    exact Ok.refl

theorem secEnd_ok : ∀ s, Ok [.free, .logQ, .mgs, .reg .MGS_ALSTAT, .reg .MGS_LOGSTAT, .reg .MGS_PROV, .reg .MGS_SECBUF, .reg .MGS_SECSTAT] s (@secEnd s) := by
  intro s
  delta secEnd
  split
  · exact Ok.refl
  · extract_lets +onlyGivenNames -merge -useContext s0
    clear_value s0
    extract_lets +onlyGivenNames -merge -useContext s1
    refine Ok.withS (x := s1) ?_ fun h2 => ?_
    · unfold s1
      refine Ok.via (State.put_at (at_MGS_SECSTAT)) rfl ?_
      refine Ok.via (State.modMgs_ok ?_) rfl ?_
      · exact fun _ h => ⟨h.1, h.2.1, h.2.2.1, h.2.2.2.1, h.2.2.2.2⟩
      exact Ok.refl
    clear_value s1
    refine Ok.ite ?_ ?_
    · refine Ok.via (secEffect_ok ..) rfl ?_
      exact h2
    · exact h2

theorem mgsWritten_ok : ∀ x0 x1 x2 x3 s, Ok [.trioQ, .emcyQ, .logQ, .logWin, .trio, .mgs, .reg .EV_ACT, .reg .EV_PEND, .reg .MGS_LOGSTAT, .reg .MGS_UPDADDR, .reg .MGS_UPDSTAT, .reg .TRIO_CNT, .reg .TRIO_INDIS, .reg .TRIO_MM, .reg .TRIO_SRAM, .reg .TRIO_STAT] s (@mgsWritten x0 x1 x2 x3 s) := by
  intro x0 x1 x2 x3 s
  delta mgsWritten
  split
  · refine Ok.via (updCommand_ok ..) rfl ?_
    exact Ok.refl
  · refine Ok.via (updData_ok ..) rfl ?_
    exact Ok.refl
  · refine Ok.via (State.modMgs_ok ?_) rfl ?_
    · exact fun _ h => ⟨h.1, h.2.1, h.2.2.1, h.2.2.2.1, h.2.2.2.2⟩
    exact Ok.refl
  · refine Ok.via (nearFull_ok ..) rfl ?_
    refine Ok.via (State.modMgs_ok ?_) rfl ?_
    · exact fun _ h => ⟨h.1, h.2.1, h.2.2.1, h.2.2.2.1, h.2.2.2.2⟩
    exact Ok.refl
  · extract_lets +onlyGivenNames -merge -useContext s0
    refine Ok.withS (x := s0) ?_ fun h1 => ?_
    · unfold s0
      refine Ok.via (State.modMgs_ok ?_) rfl ?_
      · intro _ h
        dsimp only [Mgs.good]
        exact ⟨h.1, h.2.1, h.2.2.1, Sparse.wf_set h.2.2.2.1, h.2.2.2.2⟩
      exact Ok.refl
    clear_value s0
    refine Ok.ite ?_ ?_
    · refine Ok.via (State.modMgs_ok ?_) rfl ?_
      · exact fun _ h => ⟨h.1, h.2.1, h.2.2.1, h.2.2.2.1, h.2.2.2.2⟩
      exact h1
    · exact h1
  · refine Ok.via (State.modMgs_ok ?_) rfl ?_
    · intro _ h
      dsimp only [Mgs.good]
      exact ⟨h.1, h.2.1, Sparse.wf_set h.2.2.1, h.2.2.2.1, h.2.2.2.2⟩
    exact Ok.refl
  · refine Ok.via (State.modMgs_ok ?_) rfl ?_
    · exact fun _ h => ⟨h.1, h.2.1, h.2.2.1, h.2.2.2.1, h.2.2.2.2⟩
    exact Ok.refl
  · refine Ok.ite ?_ ?_
    · refine Ok.via (thermalCheck_ok ..) rfl ?_
      exact Ok.refl
    · exact Ok.refl
  · refine Ok.ite ?_ ?_
    · refine Ok.via (State.wr_at (at_TRIO_SRAM)) rfl ?_
      refine Ok.via (State.wr_at (at_TRIO_INDIS)) rfl ?_
      refine Ok.via (State.wr_at (at_TRIO_CNT)) rfl ?_
      exact Ok.refl
    · exact Ok.refl
  · refine Ok.applyIf ?_ ?_
    · intro a2
      refine Ok.via (State.put_at (at_TRIO_MM)) rfl ?_
      exact Ok.refl
    · exact Ok.refl
  · exact Ok.refl

end Sys2Proof.Machine
end

