-- ==== Sys2Proof/Laws/OkNetCtl.lean ====
section
/-!
SUPPORT. Laws/OkNetCtl.lean: for each operation of Machine/NetCtl.lean, the parts of the state it can change, and that it keeps a
good state good.
-/

namespace Sys2Proof.Machine

set_option Elab.async false

theorem State.modNet_ok {s : State} {f : Net → Net} (h : ∀ x : Net, x.good → (f x).good) : Ok [.net] s (s.modNet f) :=
  Ok.net (h _)

/-- The same where the new value is good because the whole state is. -/
theorem State.modNet_good {s : State} {f : Net → Net} (h : Good s → (f s.net).good) : Ok [.net] s (s.modNet f) := by
  refine ⟨⟨fun q hq => ?_, .inr fun _ _ => rfl⟩, fun g => { g with net := h g }⟩
  cases q <;> first | rfl | trivial

theorem State.modCan_ok : ∀ s x1 x2, Ok [.net] s (@State.modCan s x1 x2) := by
  intro s x1 x2
  delta State.modCan
  refine Ok.via (State.modNet_ok ?_) rfl ?_
  · intro _ h
    split
    · exact ⟨h.1, h.2.1, h.2.2.1, h.2.2.2.1, h.2.2.2.2.1, h.2.2.2.2.2⟩
    · exact ⟨h.1, h.2.1, h.2.2.1, h.2.2.2.1, h.2.2.2.2.1, h.2.2.2.2.2⟩
  exact Ok.refl

theorem State.setObj_ok : ∀ s x1 x2 x3, Ok [.net] s (@State.setObj s x1 x2 x3) := by
  intro s x1 x2 x3
  delta State.setObj
  refine Ok.via (State.modNet_ok ?_) rfl ?_
  · intro _ h
    dsimp only [Net.good]
    exact ⟨Sparse.wf_set h.1, h.2.1, h.2.2.1, h.2.2.2.1, h.2.2.2.2.1, h.2.2.2.2.2⟩
  exact Ok.refl

theorem txAdd_ok : ∀ x0 x1 s, Ok [.net, .reg .NET_CNT] s (@txAdd x0 x1 s) := by
  intro x0 x1 s
  delta txAdd
  refine Ok.ite ?_ ?_
  · exact Ok.refl
  · extract_lets +onlyGivenNames -merge -useContext s0
    clear_value s0
    extract_lets +onlyGivenNames -merge -useContext s1
    clear_value s1
    refine Ok.ite ?_ ?_
    · extract_lets +onlyGivenNames -merge -useContext s2
      clear_value s2
      refine Ok.via (State.inc_at (at_NET_CNT _)) rfl ?_
      refine Ok.via (State.modCan_ok ..) rfl ?_
      exact Ok.refl
    · refine Ok.ite ?_ ?_
      · refine Ok.via (State.inc_at (at_NET_CNT _)) rfl ?_
        exact Ok.refl
      · refine Ok.via (State.modCan_ok ..) rfl ?_
        exact Ok.refl

theorem txAll_ok : ∀ x0 x1 s, Ok [.net, .reg .NET_CNT] s (@txAll x0 x1 s) := by
  intro x0 x1 s
  delta txAll
  refine Ok.forEach ?_ ?_
  · intro a0 a1
    refine Ok.via (txAdd_ok ..) rfl ?_
    exact Ok.refl
  · exact Ok.refl

theorem txSent_ok : ∀ x0 s, Ok [.net] s (@txSent x0 s) := by
  intro x0 s
  delta txSent
  refine Ok.ite ?_ ?_
  · split
    · exact Ok.refl
    · refine Ok.via (State.modCan_ok ..) rfl ?_
      exact Ok.refl
  · exact Ok.refl

theorem showSessions_ok : ∀ s, Ok [.reg .NET_SESS] s (@showSessions s) := by
  intro s
  delta showSessions
  refine Ok.via (State.put_at (at_NET_SESS)) rfl ?_
  refine Ok.via (State.put_at (at_NET_SESS)) rfl ?_
  exact Ok.refl

theorem closeContexts_ok : ∀ x0 s, Ok [.mgs, .net, .reg .MGS_SECBUF, .reg .NET_SESS] s (@closeContexts x0 s) := by
  intro x0 s
  delta closeContexts
  extract_lets +onlyGivenNames -merge -useContext s0
  clear_value s0
  extract_lets +onlyGivenNames -merge -useContext s1
  refine Ok.withS (x := s1) ?_ fun h2 => ?_
  · unfold s1
    refine Ok.via (showSessions_ok ..) rfl ?_
    refine Ok.via (State.modNet_ok ?_) rfl ?_
    · exact fun _ h => ⟨h.1, h.2.1, h.2.2.1, h.2.2.2.1, h.2.2.2.2.1, h.2.2.2.2.2⟩
    exact Ok.refl
  clear_value s1
  refine Ok.ite ?_ ?_
  · refine Ok.via (clearSecbuf_ok ..) rfl ?_
    exact h2
  · exact h2

theorem controllerOff_ok : ∀ x0 s, Ok [.mgs, .net, .reg .EV_ACT, .reg .MGS_SECBUF, .reg .NET_CNT, .reg .NET_SESS, .reg .NET_STAT] s (@controllerOff x0 s) := by
  intro x0 s
  delta controllerOff
  extract_lets +onlyGivenNames -merge -useContext s0
  clear_value s0
  extract_lets +onlyGivenNames -merge -useContext s1
  refine Ok.withS (x := s1) ?_ fun h2 => ?_
  · unfold s1
    refine Ok.via (State.addSat_at (at_NET_CNT _)) rfl ?_
    exact Ok.refl
  clear_value s1
  extract_lets +onlyGivenNames -merge -useContext s3
  refine Ok.withS (x := s3) ?_ fun h4 => ?_
  · unfold s3
    refine Ok.via (State.modCan_ok ..) rfl ?_
    exact h2
  clear_value s3
  extract_lets +onlyGivenNames -merge -useContext s5
  refine Ok.withS (x := s5) ?_ fun h6 => ?_
  · unfold s5
    refine Ok.via (State.modNet_ok ?_) rfl ?_
    · intro _ h
      split
      · exact ⟨h.1, h.2.1, h.2.2.1, h.2.2.2.1, h.2.2.2.2.1, h.2.2.2.2.2⟩
      · exact ⟨h.1, h.2.1, h.2.2.1, h.2.2.2.1, h.2.2.2.2.1, h.2.2.2.2.2⟩
    exact h4
  clear_value s5
  extract_lets +onlyGivenNames -merge -useContext s7
  refine Ok.withS (x := s7) ?_ fun h8 => ?_
  · unfold s7
    refine Ok.via (setAct_ok ..) rfl ?_
    refine Ok.via (closeContexts_ok ..) rfl ?_
    exact h6
  clear_value s7
  refine Ok.via (State.put_at (at_NET_STAT _)) rfl ?_
  refine Ok.via (State.put_at (at_NET_STAT _)) rfl ?_
  exact h8

theorem busIntegration_ok : ∀ x0 s, Ok [.reg .NET_STAT] s (@busIntegration x0 s) := by
  intro x0 s
  delta busIntegration
  refine Ok.ite ?_ ?_
  · refine Ok.via (State.put_at (at_NET_STAT _)) rfl ?_
    refine Ok.via (State.put_at (at_NET_STAT _)) rfl ?_
    refine Ok.via (State.put_at (at_NET_STAT _)) rfl ?_
    refine Ok.via (State.put_at (at_NET_STAT _)) rfl ?_
    exact Ok.refl
  · exact Ok.refl

theorem landFrame_ok : ∀ x0 s, Ok [.staged, .reg .NET_DBT, .reg .NET_GUARD, .reg .NET_HBACT, .reg .NET_NBT, .reg .NET_NODE] s (@landFrame x0 s) := by
  intro x0 s
  delta landFrame
  refine Ok.via (landClass_frame ..) rfl ?_
  exact Ok.refl

theorem setNmt_ok : ∀ x0 s, Ok [.reg .NET_NODE] s (@setNmt x0 s) := by
  intro x0 s
  delta setNmt
  refine Ok.via (State.put_at (at_NET_NODE)) rfl ?_
  exact Ok.refl

theorem commError_ok : ∀ s, Ok [.reg .NET_NODE] s (@commError s) := by
  intro s
  delta commError
  extract_lets +onlyGivenNames -merge -useContext s0
  clear_value s0
  refine Ok.ite ?_ ?_
  · refine Ok.ite ?_ ?_
    · refine Ok.via (setNmt_ok ..) rfl ?_
      exact Ok.refl
    · exact Ok.refl
  · refine Ok.ite ?_ ?_
    · refine Ok.via (setNmt_ok ..) rfl ?_
      exact Ok.refl
    · exact Ok.refl

theorem netWritten_ok : ∀ x0 x1 x2 s, Ok [.staged, .mgs, .net, .reg .EV_ACT, .reg .MGS_SECBUF, .reg .NET_CNT, .reg .NET_DBT, .reg .NET_GUARD, .reg .NET_HBACT, .reg .NET_MAL, .reg .NET_NBT, .reg .NET_NODE, .reg .NET_SESS, .reg .NET_STAT] s (@netWritten x0 x1 x2 s) := by
  intro x0 x1 x2 s
  delta netWritten
  extract_lets +onlyGivenNames -merge -useContext s0
  clear_value s0
  split
  · refine Ok.ite ?_ ?_
    · extract_lets +onlyGivenNames -merge -useContext s1
      refine Ok.withS (x := s1) ?_ fun h2 => ?_
      · unfold s1
        refine Ok.ite ?_ ?_
        · refine Ok.via (commError_ok ..) rfl ?_
          exact Ok.refl
        · exact Ok.refl
      clear_value s1
      refine Ok.ite ?_ ?_
      · refine Ok.via (controllerOff_ok ..) rfl ?_
        exact h2
      · refine Ok.via (State.modCan_ok ..) rfl ?_
        exact h2
    · exact Ok.refl
  · refine Ok.ite ?_ ?_
    · exact Ok.refl
    · refine Ok.via (landFrame_ok ..) rfl ?_
      exact Ok.refl
  · refine Ok.ite ?_ ?_
    · exact Ok.refl
    · refine Ok.via (landFrame_ok ..) rfl ?_
      exact Ok.refl
  · refine Ok.ite ?_ ?_
    · exact Ok.refl
    · refine Ok.via (State.put_at (at_NET_CNT _)) rfl ?_
      refine Ok.via (State.put_at (at_NET_CNT _)) rfl ?_
      refine Ok.via (State.put_at (at_NET_CNT _)) rfl ?_
      exact Ok.refl
  · refine Ok.ite ?_ ?_
    · exact Ok.refl
    · refine Ok.via (State.put_at (at_NET_MAL)) rfl ?_
      refine Ok.via (State.put_at (at_NET_MAL)) rfl ?_
      exact Ok.refl
  · refine Ok.ite ?_ ?_
    · exact Ok.refl
    · refine Ok.via (landFrame_ok ..) rfl ?_
      exact Ok.refl

theorem nodeAtReset_ok : ∀ x0 s, Ok [.reg .NET_NODE] s (@nodeAtReset x0 s) := by
  intro x0 s
  delta nodeAtReset
  extract_lets +onlyGivenNames -merge -useContext s0
  clear_value s0
  split
  · refine Ok.via (State.put_at (at_NET_NODE)) rfl ?_
    refine Ok.via (State.put_at (at_NET_NODE)) rfl ?_
    refine Ok.via (State.put_at (at_NET_NODE)) rfl ?_
    exact Ok.refl

theorem bootUp_ok : ∀ s, Ok [.net, .reg .NET_CNT, .reg .NET_NODE] s (@bootUp s) := by
  intro s
  delta bootUp
  refine Ok.ite ?_ ?_
  · refine Ok.via (setNmt_ok ..) rfl ?_
    refine Ok.via (txAll_ok ..) rfl ?_
    exact Ok.refl
  · exact Ok.refl

theorem queueEmcy_ok : ∀ x0 x1 x2 s, Ok [.net, .reg .NET_CNT] s (@queueEmcy x0 x1 x2 s) := by
  intro x0 x1 x2 s
  delta queueEmcy
  extract_lets +onlyGivenNames -merge -useContext s0
  clear_value s0
  extract_lets +onlyGivenNames -merge -useContext s1
  refine Ok.withS (x := s1) ?_ fun h2 => ?_
  · unfold s1
    refine Ok.via (State.modNet_ok ?_) rfl ?_
    · exact fun _ h => ⟨h.1, h.2.1, h.2.2.1, h.2.2.2.1, h.2.2.2.2.1, List.length_take_le _ _⟩
    exact Ok.refl
  clear_value s1
  refine Ok.ite ?_ ?_
  · refine Ok.forEach ?_ ?_
    · intro a3 a4
      refine Ok.ite ?_ ?_
      · exact Ok.refl
      · refine Ok.ite ?_ ?_
        · refine Ok.via (State.inc_at (at_NET_CNT _)) rfl ?_
          exact Ok.refl
        · refine Ok.via (State.modCan_ok ..) rfl ?_
          exact Ok.refl
    · exact h2
  · exact h2

theorem occEmcy_ok : ∀ x0 s, Ok [.net, .reg .NET_CNT] s (@occEmcy x0 s) := by
  intro x0 s
  delta occEmcy
  split
  · extract_lets +onlyGivenNames -merge -useContext s0
    clear_value s0
    refine Ok.ite ?_ ?_
    · refine Ok.via (State.modCan_ok ..) rfl ?_
      exact Ok.refl
    · refine Ok.via (queueEmcy_ok ..) rfl ?_
      exact Ok.refl

theorem emcyTake_ok : ∀ s, Ok [.emcyQ, .net, .reg .NET_CNT] s (@emcyTake s) := by
  intro s
  delta emcyTake
  refine Ok.ite ?_ ?_
  · exact Ok.refl
  · split
    · exact Ok.refl
    · refine Ok.via (occEmcy_ok ..) rfl ?_
      refine Ok.via Ok.emcyQ rfl ?_
      exact Ok.refl

theorem errorReset_ok : ∀ s, Ok [.net, .reg .NET_CNT] s (@errorReset s) := by
  intro s
  delta errorReset
  refine Ok.ite ?_ ?_
  · extract_lets +onlyGivenNames -merge -useContext s0
    refine Ok.withS (x := s0) ?_ fun h1 => ?_
    · unfold s0
      refine Ok.via (State.modNet_ok ?_) rfl ?_
      · exact fun _ h => ⟨h.1, h.2.1, h.2.2.1, h.2.2.2.1, h.2.2.2.2.1, h.2.2.2.2.2⟩
      exact Ok.refl
    clear_value s0
    refine Ok.ite ?_ ?_
    · refine Ok.forEach ?_ ?_
      · intro a2 a3
        refine Ok.ite ?_ ?_
        · exact Ok.refl
        · refine Ok.ite ?_ ?_
          · refine Ok.via (State.inc_at (at_NET_CNT _)) rfl ?_
            exact Ok.refl
          · refine Ok.via (State.modCan_ok ..) rfl ?_
            exact Ok.refl
      · exact h1
    · exact h1
  · exact Ok.refl

theorem emcySend_ok : ∀ x0 s, Ok [.net, .reg .NET_CNT] s (@emcySend x0 s) := by
  intro x0 s
  delta emcySend
  extract_lets +onlyGivenNames -merge -useContext s0
  clear_value s0
  extract_lets +onlyGivenNames -merge -useContext s1
  clear_value s1
  split
  · exact Ok.refl
  · refine Ok.ite ?_ ?_
    · refine Ok.via (txAdd_ok ..) rfl ?_
      refine Ok.via (State.modCan_ok ..) rfl ?_
      exact Ok.refl
    · exact Ok.refl

theorem busOff_ok : ∀ x0 s, Ok [.trioQ, .emcyQ, .logQ, .logWin, .power, .mgs, .net, .reg .EV_ACT, .reg .EV_PEND, .reg .MGS_LOGSTAT, .reg .MGS_SECBUF, .reg .NET_CNT, .reg .NET_NODE, .reg .NET_SESS, .reg .NET_STAT] s (@busOff x0 s) := by
  intro x0 s
  delta busOff
  refine Ok.ite ?_ ?_
  · extract_lets +onlyGivenNames -merge -useContext s0
    refine Ok.withS (x := s0) ?_ fun h1 => ?_
    · unfold s0
      refine Ok.via (State.inc_at (at_NET_CNT _)) rfl ?_
      refine Ok.via (State.put_at (at_NET_STAT _)) rfl ?_
      exact Ok.refl
    clear_value s0
    extract_lets +onlyGivenNames -merge -useContext s2
    refine Ok.withS (x := s2) ?_ fun h3 => ?_
    · unfold s2
      refine Ok.via (pendD4_ok ..) rfl ?_
      refine Ok.via (setAct_ok ..) rfl ?_
      exact h1
    clear_value s2
    refine Ok.ite ?_ ?_
    · refine Ok.via (controllerOff_ok ..) rfl ?_
      exact h3
    · refine Ok.ite ?_ ?_
      · refine Ok.via (commError_ok ..) rfl ?_
        exact h3
      · exact h3
  · exact Ok.refl

theorem busOffRecovery_ok : ∀ x0 s, Ok [.net, .reg .NET_CNT, .reg .NET_STAT] s (@busOffRecovery x0 s) := by
  intro x0 s
  delta busOffRecovery
  refine Ok.ite ?_ ?_
  · extract_lets +onlyGivenNames -merge -useContext s0
    refine Ok.withS (x := s0) ?_ fun h1 => ?_
    · unfold s0
      refine Ok.via (State.put_at (at_NET_STAT _)) rfl ?_
      refine Ok.via (State.put_at (at_NET_STAT _)) rfl ?_
      refine Ok.via (State.put_at (at_NET_STAT _)) rfl ?_
      exact Ok.refl
    clear_value s0
    split
    · exact h1
    · refine Ok.via (queueEmcy_ok ..) rfl ?_
      refine Ok.via (State.modCan_ok ..) rfl ?_
      exact h1
  · exact Ok.refl

theorem errorPassive_ok : ∀ x0 s, Ok [.trioQ, .emcyQ, .logQ, .logWin, .power, .reg .EV_ACT, .reg .EV_PEND, .reg .MGS_LOGSTAT, .reg .NET_STAT] s (@errorPassive x0 s) := by
  intro x0 s
  delta errorPassive
  refine Ok.ite ?_ ?_
  · refine Ok.via (pendD4_ok ..) rfl ?_
    refine Ok.via (setAct_ok ..) rfl ?_
    refine Ok.via (State.put_at (at_NET_STAT _)) rfl ?_
    exact Ok.refl
  · exact Ok.refl

theorem errorActive_ok : ∀ x0 s, Ok [.reg .EV_ACT, .reg .NET_STAT] s (@errorActive x0 s) := by
  intro x0 s
  delta errorActive
  refine Ok.ite ?_ ?_
  · refine Ok.via (setAct_ok ..) rfl ?_
    refine Ok.via (State.put_at (at_NET_STAT _)) rfl ?_
    exact Ok.refl
  · exact Ok.refl

theorem canCounters_ok : ∀ x0 x1 s, Ok [.reg .NET_STAT] s (@canCounters x0 x1 s) := by
  intro x0 x1 s
  delta canCounters
  refine Ok.ite ?_ ?_
  · exact Ok.refl
  · refine Ok.via (State.put_at (at_NET_STAT _)) rfl ?_
    refine Ok.via (State.put_at (at_NET_STAT _)) rfl ?_
    refine Ok.via (State.put_at (at_NET_STAT _)) rfl ?_
    exact Ok.refl

end Sys2Proof.Machine
end

