-- ==== Sys2Proof/Laws/OkSpmOps.lean ====
section
/-!
SUPPORT. Laws/OkSpmOps.lean: for each operation of Machine/SpmOps.lean, the parts of the state it can change, and that it keeps a
good state good.
-/

namespace Sys2Proof.Machine

set_option Elab.async false

theorem State.modSpm_ok {s : State} {f : Spm → Spm} (h : ∀ x : Spm, x.good → (f x).good) : Ok [.spm] s (s.modSpm f) :=
  Ok.spm (h _)

theorem spmInvalidate_ok : ∀ s, Ok [.spm] s (@spmInvalidate s) := by
  intro s
  delta spmInvalidate
  refine Ok.via (State.modSpm_ok ?_) rfl ?_
  · exact fun _ h => ⟨h.1, h.2.1, Nat.zero_le _⟩
  exact Ok.refl

theorem spmLand_ok : ∀ s, Ok [.staged, .spm, .reg .SPM_CFG, .reg .SPM_CLK, .reg .SPM_XOFS] s (@spmLand s) := by
  intro s
  delta spmLand
  refine Ok.ite ?_ ?_
  · exact Ok.refl
  · extract_lets +onlyGivenNames -merge -useContext s0
    clear_value s0
    extract_lets +onlyGivenNames -merge -useContext s1
    refine Ok.withS (x := s1) ?_ fun h2 => ?_
    · unfold s1
      refine Ok.via (landClass_memIdle ..) rfl ?_
      exact Ok.refl
    clear_value s1
    refine Ok.ite ?_ ?_
    · exact h2
    · refine Ok.via (spmInvalidate_ok ..) rfl ?_
      exact h2

theorem xipRead_ok {W' : List Part} {x0 x1 x2} {x3} {s : State} (hk : ∀ u, Ok W' u (x3 u)) :
    Ok ([.replies, .trioQ, .emcyQ, .logQ, .logWin, .power, .spm, .reg .EV_PEND, .reg .MGS_LOGSTAT] ++ W') s (@xipRead x0 x1 x2 x3 s) := by
  delta xipRead
  extract_lets +onlyGivenNames -merge -useContext s0
  clear_value s0
  refine Ok.ite ?_ ?_
  · refine Ok.via (hk ..) within_right ?_
    refine Ok.via (pendD4_ok ..) (within_left rfl) ?_
    exact Ok.refl
  · extract_lets +onlyGivenNames -merge -useContext s1
    clear_value s1
    split
    · refine Ok.via (State.answer_ok ..) (within_left rfl) ?_
      refine Ok.via (State.modSpm_ok ?_) (within_left rfl) ?_
      · exact fun _ h => ⟨h.1, h.2.1, List.length_take_le _ _⟩
      exact Ok.refl
    · extract_lets +onlyGivenNames -merge -useContext s2
      clear_value s2
      extract_lets +onlyGivenNames -merge -useContext s3
      refine Ok.withS (x := s3) ?_ fun h4 => ?_
      · unfold s3
        refine Ok.via (State.modSpm_ok ?_) (within_left rfl) ?_
        · intro _ h
          extract_lets +onlyGivenNames -merge -useContext y
          exact ⟨h.1, h.2.1, h.2.2⟩
        exact Ok.refl
      clear_value s3
      refine Ok.via (State.answer_ok ..) (within_left rfl) ?_
      exact h4

theorem fetchComplete_ok : ∀ x0 s, Ok [.staged, .replies, .spm, .reg .SPM_CFG, .reg .SPM_CLK, .reg .SPM_XOFS] s (@fetchComplete x0 s) := by
  intro x0 s
  delta fetchComplete
  split
  · exact Ok.refl
  · refine Ok.ite ?_ ?_
    · exact Ok.refl
    · extract_lets +onlyGivenNames -merge -useContext s0
      clear_value s0
      extract_lets +onlyGivenNames -merge -useContext s1
      clear_value s1
      extract_lets +onlyGivenNames -merge -useContext s2
      refine Ok.withS (x := s2) ?_ fun h3 => ?_
      · unfold s2
        refine Ok.via (State.modSpm_ok ?_) rfl ?_
        · exact fun _ h => ⟨h.1, h.2.1, List.length_take_le _ _⟩
        exact Ok.refl
      clear_value s2
      extract_lets +onlyGivenNames -merge -useContext s4
      refine Ok.withS (x := s4) ?_ fun h7 => ?_
      · unfold s4
        refine Ok.foldl ?_ ?_
        · intro u5 x6
          refine Ok.via (State.answer_ok ..) rfl ?_
          exact Ok.refl
        · exact h3
      clear_value s4
      refine Ok.via (spmLand_ok ..) rfl ?_
      exact h7

theorem spmGo_ok : ∀ x0 s, Ok [.spm] s (@spmGo x0 s) := by
  intro x0 s
  delta spmGo
  extract_lets +onlyGivenNames -merge -useContext s0
  clear_value s0
  extract_lets +onlyGivenNames -merge -useContext s1
  clear_value s1
  refine Ok.via (State.modSpm_ok ?_) rfl ?_
  · exact fun _ h => ⟨Nat.le_trans (by dsimp only; split <;> simp) h.1, h.2.1, h.2.2⟩
  exact Ok.refl

theorem spmProbe_ok : ∀ s, Ok [.spm] s (@spmProbe s) := by
  intro s
  delta spmProbe
  refine Ok.via (State.modSpm_ok ?_) rfl ?_
  · exact fun _ h => ⟨h.1, h.2.1, h.2.2⟩
  exact Ok.refl

theorem spmWritten_ok : ∀ x0 x1 s, Ok [.staged, .spm, .reg .SPM_CFG, .reg .SPM_CLK, .reg .SPM_XOFS] s (@spmWritten x0 x1 s) := by
  intro x0 x1 s
  delta spmWritten
  split
  · refine Ok.ite ?_ ?_
    · refine Ok.via (spmGo_ok ..) rfl ?_
      exact Ok.refl
    · exact Ok.refl
  · refine Ok.via (State.modSpm_ok ?_) rfl ?_
    · exact fun _ h => ⟨List.length_take_le _ _, h.2.1, h.2.2⟩
    exact Ok.refl
  · extract_lets +onlyGivenNames -merge -useContext s0
    refine Ok.withS (x := s0) ?_ fun h1 => ?_
    · unfold s0
      refine Ok.ite ?_ ?_
      · refine Ok.via (State.modSpm_ok ?_) rfl ?_
        · exact fun _ h => ⟨Nat.zero_le _, Nat.zero_le _, h.2.2⟩
        exact Ok.refl
      · exact Ok.refl
    clear_value s0
    extract_lets +onlyGivenNames -merge -useContext s2
    refine Ok.withS (x := s2) ?_ fun h3 => ?_
    · unfold s2
      refine Ok.ite ?_ ?_
      · refine Ok.via (spmInvalidate_ok ..) rfl ?_
        exact h1
      · exact h1
    clear_value s2
    refine Ok.ite ?_ ?_
    · refine Ok.via (spmProbe_ok ..) rfl ?_
      exact h3
    · exact h3
  · refine Ok.via (spmLand_ok ..) rfl ?_
    exact Ok.refl
  · refine Ok.via (spmLand_ok ..) rfl ?_
    exact Ok.refl
  · refine Ok.via (spmLand_ok ..) rfl ?_
    exact Ok.refl
  · exact Ok.refl

theorem rxPop_ok : ∀ s, OkP [.spm, .reg .SPM_STAT] s (@rxPop s) := by
  intro s
  delta rxPop
  split
  · refine OkP.mk ?_
    refine Ok.via (State.put_at (at_SPM_STAT)) rfl ?_
    exact Ok.refl
  · rename_i w rest e
    refine OkP.mk (Ok.mono (W := [.spm]) (Ok.spm fun h => ?_) rfl)
    refine ⟨h.1, ?_, h.2.2⟩
    have := h.2.1
    rw [e] at this
    exact Nat.le_of_succ_le this

theorem takeRx_ok : ∀ x0 x1 s, Ok [.spm] s (@takeRx x0 x1 s) := by
  intro x0 x1 s
  delta takeRx
  refine Ok.ite ?_ ?_
  · exact Ok.refl
  · refine Ok.via (State.modSpm_ok ?_) rfl ?_
    · exact fun _ h => ⟨h.1, List.length_take_le _ _, h.2.2⟩
    exact Ok.refl

theorem statusPoll_ok : ∀ x0 x1 s, Ok [.spm] s (@statusPoll x0 x1 s) := by
  intro x0 x1 s
  delta statusPoll
  split
  · exact Ok.refl
  · refine Ok.ite ?_ ?_
    · exact Ok.refl
    · refine Ok.via (State.modSpm_ok ?_) rfl ?_
      · exact fun _ h => ⟨h.1, h.2.1, h.2.2⟩
      refine Ok.via (takeRx_ok ..) rfl ?_
      exact Ok.refl

theorem spmEnd_ok : ∀ s, Ok [.staged, .spm, .reg .SPM_CFG, .reg .SPM_CLK, .reg .SPM_STAT, .reg .SPM_XOFS] s (@spmEnd s) := by
  intro s
  delta spmEnd
  split
  · exact Ok.refl
  · extract_lets +onlyGivenNames -merge -useContext s0
    refine Ok.withS (x := s0) ?_ fun h1 => ?_
    · unfold s0
      refine Ok.via (State.put_at (at_SPM_STAT)) rfl ?_
      refine Ok.via (State.modSpm_ok ?_) rfl ?_
      · exact fun _ h => ⟨h.1, h.2.1, h.2.2⟩
      exact Ok.refl
    clear_value s0
    extract_lets +onlyGivenNames -merge -useContext s2
    refine Ok.withS (x := s2) ?_ fun h3 => ?_
    · unfold s2
      refine Ok.ite ?_ ?_
      · refine Ok.via (spmInvalidate_ok ..) rfl ?_
        exact h1
      · exact h1
    clear_value s2
    refine Ok.via (spmLand_ok ..) rfl ?_
    exact h3

theorem probeDone_ok : ∀ x0 s, Ok [.staged, .reg .SPM_CFG, .reg .SPM_SFDP] s (@probeDone x0 s) := by
  intro x0 s
  delta probeDone
  split
  · extract_lets +onlyGivenNames -merge -useContext s0
    refine Ok.withS (x := s0) ?_ fun h1 => ?_
    · unfold s0
      refine Ok.via (State.setStaged_ok ..) rfl ?_
      exact Ok.refl
    clear_value s0
    extract_lets +onlyGivenNames -merge -useContext s2
    refine Ok.withS (x := s2) ?_ fun h3 => ?_
    · unfold s2
      refine Ok.via (State.putB_at (at_SPM_CFG)) rfl ?_
      refine Ok.via (State.put_at (at_SPM_CFG)) rfl ?_
      refine Ok.via (State.put_at (at_SPM_CFG)) rfl ?_
      refine Ok.via (State.put_at (at_SPM_CFG)) rfl ?_
      exact h1
    clear_value s2
    refine Ok.via (State.put_at (at_SPM_SFDP)) rfl ?_
    refine Ok.via (State.put_at (at_SPM_SFDP)) rfl ?_
    refine Ok.via (State.put_at (at_SPM_SFDP)) rfl ?_
    exact h3

theorem probeEnd_ok : ∀ x0 s, Ok [.staged, .spm, .reg .SPM_CFG, .reg .SPM_SFDP, .reg .SPM_STAT] s (@probeEnd x0 s) := by
  intro x0 s
  delta probeEnd
  split
  · refine Ok.via (State.put_at (at_SPM_STAT)) rfl ?_
    exact Ok.refl
  · extract_lets +onlyGivenNames -merge -useContext s0
    clear_value s0
    extract_lets +onlyGivenNames -merge -useContext s1
    refine Ok.withS (x := s1) ?_ fun h2 => ?_
    · unfold s1
      refine Ok.via (probeDone_ok ..) rfl ?_
      exact Ok.refl
    clear_value s1
    refine Ok.ite ?_ ?_
    · exact h2
    · refine Ok.via (spmInvalidate_ok ..) rfl ?_
      exact h2

theorem transactionEnd_ok : ∀ x0 x1 s, Ok [.staged, .spm, .reg .SPM_CFG, .reg .SPM_CLK, .reg .SPM_SFDP, .reg .SPM_STAT, .reg .SPM_XOFS] s (@transactionEnd x0 x1 s) := by
  intro x0 x1 s
  delta transactionEnd
  split
  · exact Ok.refl
  · refine Ok.ite ?_ ?_
    · refine Ok.via (spmEnd_ok ..) rfl ?_
      refine Ok.via (probeEnd_ok ..) rfl ?_
      exact Ok.refl
    · refine Ok.ite ?_ ?_
      · exact Ok.refl
      · refine Ok.via (spmEnd_ok ..) rfl ?_
        refine Ok.via (takeRx_ok ..) rfl ?_
        exact Ok.refl

theorem waitTimeout_ok : ∀ s, Ok [.staged, .trioQ, .emcyQ, .logQ, .logWin, .power, .spm, .reg .EV_PEND, .reg .MGS_LOGSTAT, .reg .SPM_CFG, .reg .SPM_CLK, .reg .SPM_STAT, .reg .SPM_XOFS] s (@waitTimeout s) := by
  intro s
  delta waitTimeout
  split
  · exact Ok.refl
  · refine Ok.ite ?_ ?_
    · exact Ok.refl
    · refine Ok.via (spmEnd_ok ..) rfl ?_
      refine Ok.via (pendD4_ok ..) rfl ?_
      refine Ok.via (State.put_at (at_SPM_STAT)) rfl ?_
      exact Ok.refl

theorem loadxReads_ok : ∀ x0 s, Ok [.trioQ, .emcyQ, .logQ, .logWin, .power, .reg .EV_PEND, .reg .GCTL_BUSERR, .reg .GCTL_BUSERRADDR, .reg .GCTL_BUSERRCNT, .reg .MGS_LOGSTAT] s (@loadxReads x0 s) := by
  intro x0 s
  delta loadxReads
  split
  · exact Ok.refl
  · refine Ok.via (recordErr_ok ..) rfl ?_
    refine Ok.via (pendD4_ok ..) rfl ?_
    exact Ok.refl

end Sys2Proof.Machine
end

