-- ==== Sys2Proof/Laws/OkPowerOps.lean ====
section
/-!
SUPPORT. Laws/OkPowerOps.lean: for each operation of Machine/PowerOps.lean, the parts of the state it can change, and that it keeps a
good state good.
-/

namespace Sys2Proof.Machine

set_option Elab.async false

theorem State.modNvm_ok {s : State} {f : Nvm → Nvm} (h : ∀ x : Nvm, x.good → (f x).good) : Ok [.nvm] s (s.modNvm f) :=
  Ok.nvm (h _)

/-- The same where the new value is good because the whole state is. -/
theorem State.modNvm_good {s : State} {f : Nvm → Nvm} (h : Good s → (f s.nvm).good) : Ok [.nvm] s (s.modNvm f) := by
  refine ⟨⟨fun q hq => ?_, .inr fun _ _ => rfl⟩, fun g => { g with nvm := h g }⟩
  cases q <;> first | rfl | trivial

theorem State.putBitOf_at {s : State} {f : Fld} {b : Nat} {v : Bool} {r : RegName} (h : r.at f.addr) :
    Ok [.reg r] s (s.putBitOf f b v) := State.wr_at h

theorem State.putBitOf_ok : ∀ s f b v, Ok [.regs] s (State.putBitOf s f b v) := fun _ _ _ _ => (State.put_ok ..).mono rfl

theorem coachLost_ok : ∀ x0 s, Ok [.replies, .trioQ, .emcyQ, .logQ, .logWin, .legs, .coils, .coaches, .power, .net, .reg .CO_LINKSTAT, .reg .EV_ACT, .reg .EV_PEND, .reg .GCTL_BUSERR, .reg .GCTL_BUSERRADDR, .reg .GCTL_BUSERRCNT, .reg .GCTL_PWRSTAT, .reg .LEG_TEST, .reg .MGS_LOGSTAT, .reg .RK_FLTSTAT] s (@coachLost x0 s) := by
  intro x0 s
  delta coachLost
  extract_lets +onlyGivenNames -merge -useContext s0
  clear_value s0
  extract_lets +onlyGivenNames -merge -useContext s1
  refine Ok.withS (x := s1) ?_ fun h2 => ?_
  · unfold s1
    refine Ok.trans Ok.refl ((Ok.mk' (W := [.legs, .coils]) ⟨?_, ?_⟩ ?_).mono rfl)
    · intro p hp
      cases p <;> first | rfl | trivial
    · exact .inr fun _ _ => rfl
    · exact fun g => { g with legs := (fun h => Sparse.wf_filter _ h) g.legs, coils := (fun h => Sparse.wf_filter _ h) g.coils }
  clear_value s1
  extract_lets +onlyGivenNames -merge -useContext s3 s4
  refine Ok.withS (x := s4) ?_ fun h5 => ?_
  · unfold s4
    refine Ok.via (State.modCoach_ok ..) rfl ?_
    exact h2
  clear_value s3 s4
  extract_lets +onlyGivenNames -merge -useContext s6
  refine Ok.withS (x := s6) ?_ fun h9 => ?_
  · unfold s6
    refine Ok.forEach ?_ ?_
    · intro a7 a8
      refine Ok.via (State.put_at (at_LEG_TEST _)) rfl ?_
      exact Ok.refl
    · exact h5
  clear_value s6
  extract_lets +onlyGivenNames -merge -useContext s10
  refine Ok.withS (x := s10) ?_ fun h11 => ?_
  · unfold s10
    refine Ok.via (State.put_at (at_CO_LINKSTAT _)) rfl ?_
    refine Ok.via (State.put_at (at_CO_LINKSTAT _)) rfl ?_
    exact h9
  clear_value s10
  extract_lets +onlyGivenNames -merge -useContext s12
  refine Ok.withS (x := s12) ?_ fun h13 => ?_
  · unfold s12
    refine Ok.via (State.putBitOf_at (at_GCTL_PWRSTAT)) rfl ?_
    exact h11
  clear_value s12
  extract_lets +onlyGivenNames -merge -useContext s14
  refine Ok.withS (x := s14) ?_ fun h17 => ?_
  · unfold s14
    refine Ok.via (setAct_ok ..) rfl ?_
    refine Ok.forEach ?_ ?_
    · intro a15 a16
      refine Ok.via (State.put_at (at_RK_FLTSTAT _)) rfl ?_
      exact Ok.refl
    · exact h13
  clear_value s14
  refine Ok.via (endExchanges_ok ..) rfl ?_
  exact h17

theorem coachDown_ok : ∀ x0 x1 s, Ok [.replies, .trioQ, .emcyQ, .logQ, .logWin, .legs, .coils, .coaches, .power, .net, .reg .CO_LINKSTAT, .reg .EV_ACT, .reg .EV_PEND, .reg .GCTL_BUSERR, .reg .GCTL_BUSERRADDR, .reg .GCTL_BUSERRCNT, .reg .GCTL_PWRSTAT, .reg .LEG_TEST, .reg .MGS_LOGSTAT, .reg .RK_FLTSTAT] s (@coachDown x0 x1 s) := by
  intro x0 x1 s
  delta coachDown
  refine Ok.via (coachLost_ok ..) rfl ?_
  refine Ok.ite ?_ ?_
  · refine Ok.via (State.put_at (at_CO_LINKSTAT _)) rfl ?_
    exact Ok.refl
  · exact Ok.refl

theorem coachReload_ok : ∀ x0 s, Ok [.regs, .trioQ, .emcyQ, .logQ, .logWin, .legs] s (@coachReload x0 s) := by
  intro x0 s
  delta coachReload
  extract_lets +onlyGivenNames -merge -useContext s0
  clear_value s0
  extract_lets +onlyGivenNames -merge -useContext s1
  refine Ok.withS (x := s1) ?_ fun h4 => ?_
  · unfold s1
    refine Ok.forEach ?_ ?_
    · intro a2 a3
      refine Ok.via (State.wr_ok ..) rfl ?_
      exact Ok.refl
    · exact Ok.refl
  clear_value s1
  extract_lets +onlyGivenNames -merge -useContext s5
  refine Ok.withS (x := s5) ?_ fun h8 => ?_
  · unfold s5
    refine Ok.forEach ?_ ?_
    · intro a6 a7
      refine Ok.via (State.put_at (at_LEG_STAT _)) rfl ?_
      exact Ok.refl
    · exact h4
  clear_value s5
  extract_lets +onlyGivenNames -merge -useContext s9
  refine Ok.withS (x := s9) ?_ fun h16 => ?_
  · unfold s9
    refine Ok.forEach ?_ ?_
    · intro a10 a11
      extract_lets +onlyGivenNames -merge -useContext s12
      refine Ok.withS (x := s12) ?_ fun h13 => ?_
      · unfold s12
        refine Ok.via (State.put_at (at_RK_STAT _)) rfl ?_
        refine Ok.via (State.put_at (at_RK_STAT _)) rfl ?_
        exact Ok.refl
      clear_value s12
      refine Ok.via (showPresent_ok ..) rfl ?_
      refine Ok.forEach ?_ ?_
      · intro a14 a15
        refine Ok.via (showFollower_ok ..) rfl ?_
        exact Ok.refl
      · refine Ok.via (State.put_at (at_RK_STAT _)) rfl ?_
        exact h13
    · exact h8
  clear_value s9
  refine Ok.forEach ?_ ?_
  · intro a17 a18
    refine Ok.via (updAlert_ok ..) rfl ?_
    exact Ok.refl
  · exact h16

theorem coachPowerUp_ok : ∀ x0 s, Ok [.coaches, .reg .GCTL_PWRDOM, .reg .GCTL_PWRSTAT, .reg .RK_STAT] s (@coachPowerUp x0 s) := by
  intro x0 s
  delta coachPowerUp
  extract_lets +onlyGivenNames -merge -useContext s0
  refine Ok.withS (x := s0) ?_ fun h1 => ?_
  · unfold s0
    refine Ok.via (State.putBitOf_at (at_GCTL_PWRSTAT)) rfl ?_
    exact Ok.refl
  clear_value s0
  refine Ok.ite ?_ ?_
  · refine Ok.via (State.putBitOf_at (at_GCTL_PWRDOM)) rfl ?_
    refine Ok.via (State.putBitOf_at (at_GCTL_PWRSTAT)) rfl ?_
    exact h1
  · refine Ok.ite ?_ ?_
    · exact h1
    · extract_lets +onlyGivenNames -merge -useContext s2
      refine Ok.withS (x := s2) ?_ fun h5 => ?_
      · unfold s2
        refine Ok.forEach ?_ ?_
        · intro a3 a4
          refine Ok.via (State.put_at (at_RK_STAT _)) rfl ?_
          exact Ok.refl
        · exact h1
      clear_value s2
      refine Ok.via (State.modCoach_ok ..) rfl ?_
      exact h5

theorem coachOnDone_ok : ∀ x0 s, Ok [.regs, .trioQ, .emcyQ, .logQ, .logWin, .legs, .coaches] s (@coachOnDone x0 s) := by
  intro x0 s
  delta coachOnDone
  refine Ok.ite ?_ ?_
  · refine Ok.via (State.putBitOf_at (at_GCTL_PWRSTAT)) rfl ?_
    refine Ok.via (coachReload_ok ..) rfl ?_
    refine Ok.via (State.modCoach_ok ..) rfl ?_
    exact Ok.refl
  · exact Ok.refl

theorem coachOnFail_ok : ∀ x0 s, Ok (.replies :: .trioQ :: .emcyQ :: .logQ :: .logWin :: .legs :: .coils :: .coaches :: .power :: .net :: .reg .CO_LINKSTAT :: .reg .EV_ACT :: .reg .EV_PEND :: .reg .GCTL_BUSERR :: .reg .GCTL_BUSERRADDR :: .reg .GCTL_BUSERRCNT :: .reg .GCTL_PWRDOM :: .reg .GCTL_PWRSTAT :: .reg .LEG_TEST :: .reg .MGS_LOGSTAT :: .reg .RK_FLTSTAT :: []) s (@coachOnFail x0 s) := by
  intro x0 s
  delta coachOnFail
  refine Ok.ite ?_ ?_
  · refine Ok.via (State.putBitOf_at (at_GCTL_PWRDOM)) rfl ?_
    refine Ok.via (State.putBitOf_at (at_GCTL_PWRSTAT)) rfl ?_
    refine Ok.via (coachDown_ok ..) rfl ?_
    exact Ok.refl
  · exact Ok.refl

theorem coachOffNow_ok : ∀ x0 s, Ok (.replies :: .trioQ :: .emcyQ :: .logQ :: .logWin :: .legs :: .coils :: .coaches :: .axes :: .pl :: .power :: .net :: .reg .AXALERT :: .reg .AXEN :: .reg .AX_ACC :: .reg .AX_EPFS :: .reg .AX_FLTSTAT :: .reg .AX_HOMEST :: .reg .AX_MOVEEN :: .reg .AX_SSTAT :: .reg .AX_STALLST :: .reg .AX_STAT :: .reg .AX_VEL :: .reg .CO_LINKSTAT :: .reg .EV_ACT :: .reg .EV_PEND :: .reg .GCTL_BUSERR :: .reg .GCTL_BUSERRADDR :: .reg .GCTL_BUSERRCNT :: .reg .GCTL_PWRDOM :: .reg .GCTL_PWRSTAT :: .reg .LEG_TEST :: .reg .MGS_LOGSTAT :: .reg .PL_ENERGY_HI :: .reg .PL_ENERGY_LO :: .reg .PL_EVINFO :: .reg .PL_MAKESPAN :: .reg .PL_RES :: .reg .PL_RES_EACT :: .reg .PL_RES_END :: .reg .PL_STAT :: .reg .RK_FLTSTAT :: []) s (@coachOffNow x0 s) := by
  intro x0 s
  delta coachOffNow
  extract_lets +onlyGivenNames -merge -useContext s0
  refine Ok.withS (x := s0) ?_ fun h5 => ?_
  · unfold s0
    refine Ok.forEach ?_ ?_
    · intro a1 a2
      extract_lets +onlyGivenNames -merge -useContext s3
      refine Ok.withS (x := s3) ?_ fun h4 => ?_
      · unfold s3
        refine Ok.via (State.modMo_ok ..) rfl ?_
        exact Ok.refl
      clear_value s3
      refine Ok.ite ?_ ?_
      · refine Ok.via (disableNow_ok ..) rfl ?_
        exact h4
      · exact h4
    · exact Ok.refl
  clear_value s0
  extract_lets +onlyGivenNames -merge -useContext s6
  refine Ok.withS (x := s6) ?_ fun h7 => ?_
  · unfold s6
    refine Ok.via (coachDown_ok ..) rfl ?_
    exact h5
  clear_value s6
  refine Ok.via (State.putBitOf_at (at_GCTL_PWRDOM)) rfl ?_
  refine Ok.via (State.putBitOf_at (at_GCTL_PWRSTAT)) rfl ?_
  exact h7

theorem coachOffReq_ok : ∀ x0 s, Ok (.replies :: .trioQ :: .emcyQ :: .logQ :: .logWin :: .legs :: .coils :: .coaches :: .axes :: .pl :: .power :: .net :: .reg .AXALERT :: .reg .AXEN :: .reg .AX_ACC :: .reg .AX_EPFS :: .reg .AX_FLTSTAT :: .reg .AX_HOMEST :: .reg .AX_MOVEEN :: .reg .AX_SSTAT :: .reg .AX_STALLST :: .reg .AX_STAT :: .reg .AX_VEL :: .reg .CO_LINKSTAT :: .reg .EV_ACT :: .reg .EV_PEND :: .reg .GCTL_BUSERR :: .reg .GCTL_BUSERRADDR :: .reg .GCTL_BUSERRCNT :: .reg .GCTL_PWRDOM :: .reg .GCTL_PWRSTAT :: .reg .LEG_TEST :: .reg .MGS_LOGSTAT :: .reg .PL_ENERGY_HI :: .reg .PL_ENERGY_LO :: .reg .PL_EVINFO :: .reg .PL_MAKESPAN :: .reg .PL_RES :: .reg .PL_RES_EACT :: .reg .PL_RES_END :: .reg .PL_STAT :: .reg .RK_FLTSTAT :: []) s (@coachOffReq x0 s) := by
  intro x0 s
  delta coachOffReq
  refine Ok.ite ?_ ?_
  · refine Ok.via (State.modCoach_ok ..) rfl ?_
    exact Ok.refl
  · refine Ok.via (coachOffNow_ok ..) rfl ?_
    exact Ok.refl

theorem coachForce_ok : ∀ x0 s, Ok (.replies :: .trioQ :: .emcyQ :: .logQ :: .logWin :: .legs :: .coils :: .coaches :: .axes :: .pl :: .power :: .net :: .reg .AXALERT :: .reg .AXEN :: .reg .AX_ACC :: .reg .AX_EPFS :: .reg .AX_FLTSTAT :: .reg .AX_HOMEST :: .reg .AX_MOVEEN :: .reg .AX_SSTAT :: .reg .AX_STALLST :: .reg .AX_STAT :: .reg .AX_VEL :: .reg .CO_LINKSTAT :: .reg .EV_ACT :: .reg .EV_PEND :: .reg .GCTL_BUSERR :: .reg .GCTL_BUSERRADDR :: .reg .GCTL_BUSERRCNT :: .reg .GCTL_PWRDOM :: .reg .GCTL_PWRSTAT :: .reg .LEG_TEST :: .reg .MGS_LOGSTAT :: .reg .PL_ENERGY_HI :: .reg .PL_ENERGY_LO :: .reg .PL_EVINFO :: .reg .PL_MAKESPAN :: .reg .PL_RES :: .reg .PL_RES_EACT :: .reg .PL_RES_END :: .reg .PL_STAT :: .reg .RK_FLTSTAT :: []) s (@coachForce x0 s) := by
  intro x0 s
  delta coachForce
  refine Ok.ite ?_ ?_
  · extract_lets +onlyGivenNames -merge -useContext s0
    refine Ok.withS (x := s0) ?_ fun h1 => ?_
    · unfold s0
      refine Ok.via (State.putBitOf_at (at_GCTL_PWRSTAT)) rfl ?_
      exact Ok.refl
    clear_value s0
    refine Ok.forEach ?_ ?_
    · intro a2 a3
      extract_lets +onlyGivenNames -merge -useContext s4
      refine Ok.withS (x := s4) ?_ fun h5 => ?_
      · unfold s4
        refine Ok.via (planCause_ok ..) rfl ?_
        exact Ok.refl
      clear_value s4
      refine Ok.ite ?_ ?_
      · refine Ok.via (State.modMo_ok ..) rfl ?_
        exact h5
      · exact h5
    · exact h1
  · refine Ok.via (coachOffNow_ok ..) rfl ?_
    exact Ok.refl

theorem forcedTick_ok : ∀ x0 s, Ok [.coaches, .axes] s (@forcedTick x0 s) := by
  intro x0 s
  delta forcedTick
  refine Ok.ite ?_ ?_
  · exact Ok.refl
  · refine Ok.ite ?_ ?_
    · refine Ok.ite ?_ ?_
      · extract_lets +onlyGivenNames -merge -useContext s0
        refine Ok.withS (x := s0) ?_ fun h3 => ?_
        · unfold s0
          refine Ok.forEach ?_ ?_
          · intro a1 a2
            refine Ok.via (State.modMo_ok ..) rfl ?_
            exact Ok.refl
          · exact Ok.refl
        clear_value s0
        refine Ok.via (State.modCoach_ok ..) rfl ?_
        exact h3
      · exact Ok.refl
    · refine Ok.ite ?_ ?_
      · refine Ok.via (State.modCoach_ok ..) rfl ?_
        exact Ok.refl
      · exact Ok.refl

theorem forcedTimeout_ok : ∀ x0 s, Ok [.axes] s (@forcedTimeout x0 s) := by
  intro x0 s
  delta forcedTimeout
  refine Ok.ite ?_ ?_
  · refine Ok.forEach ?_ ?_
    · intro a0 a1
      refine Ok.ite ?_ ?_
      · exact Ok.refl
      · refine Ok.via (State.modMo_ok ..) rfl ?_
        exact Ok.refl
    · exact Ok.refl
  · exact Ok.refl

theorem vmBelow6_ok : ∀ x0 s, Ok (.replies :: .trioQ :: .emcyQ :: .logQ :: .logWin :: .legs :: .coils :: .coaches :: .axes :: .pl :: .power :: .net :: .reg .AXALERT :: .reg .AX_ACC :: .reg .AX_EPFS :: .reg .AX_FLTCNT :: .reg .AX_FLTSTAT :: .reg .AX_HOMEST :: .reg .AX_MOVEEN :: .reg .AX_STALLST :: .reg .AX_STAT :: .reg .AX_USTAT :: .reg .AX_VEL :: .reg .CO_FLTSTAT :: .reg .CO_LINKSTAT :: .reg .CO_VM :: .reg .EV_ACT :: .reg .EV_PEND :: .reg .GCTL_BUSERR :: .reg .GCTL_BUSERRADDR :: .reg .GCTL_BUSERRCNT :: .reg .GCTL_PWRDOM :: .reg .GCTL_PWRSTAT :: .reg .LEG_TEST :: .reg .MGS_LOGSTAT :: .reg .PL_ENERGY_HI :: .reg .PL_ENERGY_LO :: .reg .PL_EVINFO :: .reg .PL_MAKESPAN :: .reg .PL_RES :: .reg .PL_RES_EACT :: .reg .PL_RES_END :: .reg .PL_STAT :: .reg .RK_FLTSTAT :: []) s (@vmBelow6 x0 s) := by
  intro x0 s
  delta vmBelow6
  extract_lets +onlyGivenNames -merge -useContext s0
  refine Ok.withS (x := s0) ?_ fun h1 => ?_
  · unfold s0
    refine Ok.via (vmChange_ok ..) rfl ?_
    exact Ok.refl
  clear_value s0
  extract_lets +onlyGivenNames -merge -useContext s2
  refine Ok.withS (x := s2) ?_ fun h3 => ?_
  · unfold s2
    refine Ok.via (faultAll_ok ..) rfl ?_
    exact h1
  clear_value s2
  refine Ok.ite ?_ ?_
  · extract_lets +onlyGivenNames -merge -useContext s4
    refine Ok.withS (x := s4) ?_ fun h5 => ?_
    · unfold s4
      refine Ok.ite ?_ ?_
      · refine Ok.via (couplingLost_ok ..) rfl ?_
        exact h3
      · exact h3
    clear_value s4
    refine Ok.via (State.putBitOf_at (at_GCTL_PWRSTAT)) rfl ?_
    refine Ok.via (State.putBitOf_at (at_GCTL_PWRDOM)) rfl ?_
    refine Ok.via (coachDown_ok ..) rfl ?_
    exact h5
  · exact h3

theorem afeGoOff_ok : ∀ s, Ok [.regs, .staged, .free, .sds, .afe] s (@afeGoOff s) := by
  intro s
  delta afeGoOff
  refine Ok.ite ?_ ?_
  · refine Ok.via (State.put_at (at_GCTL_PWRSTAT)) rfl ?_
    refine Ok.via (afeLost_ok ..) rfl ?_
    exact Ok.refl
  · exact Ok.refl

theorem afeGoOn_ok : ∀ s, Ok [.reg .GCTL_PWRSTAT] s (@afeGoOn s) := by
  intro s
  delta afeGoOn
  refine Ok.via (State.put_at (at_GCTL_PWRSTAT)) rfl ?_
  exact Ok.refl

theorem hibernateNow_ok : ∀ s, Ok [.logQ, .power, .reg .GCTL_CLKSTAT, .reg .GCTL_RUNSTAT] s (@hibernateNow s) := by
  intro s
  delta hibernateNow
  extract_lets +onlyGivenNames -merge -useContext s0
  clear_value s0
  extract_lets +onlyGivenNames -merge -useContext s1 s2
  refine Ok.withS (x := s1) ?_ fun h3 => ?_
  · unfold s1
    refine Ok.via (State.modPower_ok ..) rfl ?_
    exact Ok.refl
  refine Ok.withS (x := s2) ?_ fun h4 => ?_
  · unfold s2
    refine Ok.via (Ok.logQ ?_) rfl ?_
    · exact fun _ => Nat.zero_le _
    exact h3
  clear_value s1 s2
  refine Ok.via (State.put_at (at_GCTL_CLKSTAT)) rfl ?_
  refine Ok.via (State.put_at (at_GCTL_RUNSTAT)) rfl ?_
  exact h4

theorem sleepNow_ok : ∀ x0 s, Ok [.regs, .staged, .replies, .free, .trioQ, .emcyQ, .logQ, .logWin, .legs, .coils, .coaches, .axes, .pl, .power, .syncOut, .sds, .afe, .trio, .net] s (@sleepNow x0 s) := by
  intro x0 s
  delta sleepNow
  extract_lets +onlyGivenNames -merge -useContext s0
  clear_value s0
  extract_lets +onlyGivenNames -merge -useContext s1
  clear_value s1
  extract_lets +onlyGivenNames -merge -useContext s2
  refine Ok.withS (x := s2) ?_ fun h3 => ?_
  · unfold s2
    refine Ok.via (State.modPower_ok ..) rfl ?_
    exact Ok.refl
  clear_value s2
  extract_lets +onlyGivenNames -merge -useContext s4
  refine Ok.withS (x := s4) ?_ fun h7 => ?_
  · unfold s4
    refine Ok.forEach ?_ ?_
    · intro a5 a6
      refine Ok.ite ?_ ?_
      · refine Ok.via (coachOffNow_ok ..) rfl ?_
        exact Ok.refl
      · refine Ok.via (coachDown_ok ..) rfl ?_
        exact Ok.refl
    · exact h3
  clear_value s4
  extract_lets +onlyGivenNames -merge -useContext s8
  refine Ok.withS (x := s8) ?_ fun h9 => ?_
  · unfold s8
    refine Ok.via (afeGoOff_ok ..) rfl ?_
    exact h7
  clear_value s8
  extract_lets +onlyGivenNames -merge -useContext s10
  refine Ok.withS (x := s10) ?_ fun h13 => ?_
  · unfold s10
    refine Ok.forEach ?_ ?_
    · intro a11 a12
      refine Ok.via (State.put_at (at_CMP_STAT _)) rfl ?_
      exact Ok.refl
    · exact h9
  clear_value s10
  extract_lets +onlyGivenNames -merge -useContext s14
  refine Ok.withS (x := s14) ?_ fun h15 => ?_
  · unfold s14
    refine Ok.via (saveTrio_ok ..) rfl ?_
    exact h13
  clear_value s14
  extract_lets +onlyGivenNames -merge -useContext s16
  refine Ok.withS (x := s16) ?_ fun h17 => ?_
  · unfold s16
    refine Ok.via (State.put_at (at_GCTL_RUNSTAT)) rfl ?_
    refine Ok.via (State.put_at (at_GCTL_CLKSTAT)) rfl ?_
    refine Ok.via (State.put_at (at_TRIO_STAT)) rfl ?_
    exact h15
  clear_value s16
  extract_lets +onlyGivenNames -merge -useContext s18
  refine Ok.withS (x := s18) ?_ fun h19 => ?_
  · unfold s18
    refine Ok.via Ok.syncOut rfl ?_
    exact h17
  clear_value s18
  refine Ok.ite ?_ ?_
  · refine Ok.via (hibernateNow_ok ..) rfl ?_
    exact h19
  · exact h19

theorem sleepParks_ok : ∀ s, Ok [.axes, .power] s (@sleepParks s) := by
  intro s
  delta sleepParks
  extract_lets +onlyGivenNames -merge -useContext s0
  clear_value s0
  extract_lets +onlyGivenNames -merge -useContext s1
  refine Ok.withS (x := s1) ?_ fun h2 => ?_
  · unfold s1
    refine Ok.via (State.modPower_ok ..) rfl ?_
    exact Ok.refl
  clear_value s1
  refine Ok.forEach ?_ ?_
  · intro a3 a4
    refine Ok.via (State.modMo_ok ..) rfl ?_
    exact Ok.refl
  · exact h2

theorem sleepStep_ok : ∀ s, Ok [.regs, .staged, .replies, .free, .trioQ, .emcyQ, .logQ, .logWin, .legs, .coils, .coaches, .axes, .pl, .power, .syncOut, .sds, .afe, .trio, .net] s (@sleepStep s) := by
  intro s
  delta sleepStep
  refine Ok.ite ?_ ?_
  · exact Ok.refl
  · extract_lets +onlyGivenNames -merge -useContext s0
    refine Ok.withS (x := s0) ?_ fun h1 => ?_
    · unfold s0
      refine Ok.via (sleepParks_ok ..) rfl ?_
      exact Ok.refl
    clear_value s0
    refine Ok.ite ?_ ?_
    · refine Ok.via (sleepNow_ok ..) rfl ?_
      exact h1
    · exact h1

theorem sleepBegin_ok : ∀ x0 s, Ok [.regs, .staged, .replies, .free, .trioQ, .emcyQ, .logQ, .logWin, .legs, .coils, .coaches, .axes, .pl, .power, .syncOut, .sds, .afe, .trio, .net] s (@sleepBegin x0 s) := by
  intro x0 s
  delta sleepBegin
  refine Ok.via (sleepStep_ok ..) rfl ?_
  refine Ok.via (State.modPower_ok ..) rfl ?_
  exact Ok.refl

theorem noteWake_ok : ∀ x0 s, Ok [.reg .GCTL_RUNSTAT] s (@noteWake x0 s) := by
  intro x0 s
  delta noteWake
  refine Ok.via (State.put_at (at_GCTL_RUNSTAT)) rfl ?_
  exact Ok.refl

theorem dozeEnd_ok : ∀ s, Ok [.mgs, .reg .GCTL_RUNSTAT] s (@dozeEnd s) := by
  intro s
  delta dozeEnd
  refine Ok.ite ?_ ?_
  · refine Ok.via (restartWatchdog_ok ..) rfl ?_
    refine Ok.via (State.put_at (at_GCTL_RUNSTAT)) rfl ?_
    exact Ok.refl
  · exact Ok.refl

theorem wakeTrio_ok : ∀ x0 s, Ok [.logQ, .trio, .reg .MGS_LOGSTAT, .reg .TRIO_STAT] s (@wakeTrio x0 s) := by
  intro x0 s
  delta wakeTrio
  extract_lets +onlyGivenNames -merge -useContext s0
  refine Ok.withS (x := s0) ?_ fun h1 => ?_
  · unfold s0
    refine Ok.ite ?_ ?_
    · exact Ok.refl
    · refine Ok.via (State.put_at (at_TRIO_STAT)) rfl ?_
      exact Ok.refl
  clear_value s0
  extract_lets +onlyGivenNames -merge -useContext s2
  refine Ok.withS (x := s2) ?_ fun h3 => ?_
  · unfold s2
    refine Ok.ite ?_ ?_
    · exact h1
    · refine Ok.via (State.modTrio_ok ?_) rfl ?_
      · exact fun _ h => ⟨h.1, h.2.1, h.2.2.1, h.2.2.2.1, h.2.2.2.2⟩
      refine Ok.via (loadCopies_ok ..) rfl ?_
      exact h1
  clear_value s2
  split
  · exact h3
  · refine Ok.via (enterSafe_ok ..) rfl ?_
    exact h3
  · refine Ok.via (enterSafe_ok ..) rfl ?_
    exact h3

theorem pendHeld_ok : ∀ s, Ok [.trioQ, .emcyQ, .logQ, .logWin, .power, .reg .EV_PEND, .reg .MGS_LOGSTAT] s (@pendHeld s) := by
  intro s
  delta pendHeld
  extract_lets +onlyGivenNames -merge -useContext s0
  clear_value s0
  extract_lets +onlyGivenNames -merge -useContext s1
  refine Ok.withS (x := s1) ?_ fun h2 => ?_
  · unfold s1
    refine Ok.via (State.modPower_ok ..) rfl ?_
    exact Ok.refl
  clear_value s1
  refine Ok.foldl ?_ ?_
  · intro u3 x4
    refine Ok.via (pend_ok ..) rfl ?_
    exact Ok.refl
  · exact h2

theorem napEnd_ok : ∀ x0 x1 s, Ok [.trioQ, .emcyQ, .logQ, .logWin, .coaches, .axes, .power, .trio, .mgs, .reg .EV_PEND, .reg .EV_PIN, .reg .GCTL_CLKSTAT, .reg .GCTL_PWRDOM, .reg .GCTL_PWRSTAT, .reg .GCTL_RUNSTAT, .reg .MGS_LOGSTAT, .reg .RK_STAT, .reg .TRIO_STAT] s (@napEnd x0 x1 s) := by
  intro x0 x1 s
  delta napEnd
  refine Ok.ite ?_ ?_
  · exact Ok.refl
  · extract_lets +onlyGivenNames -merge -useContext s0
    refine Ok.withS (x := s0) ?_ fun h1 => ?_
    · unfold s0
      refine Ok.via (State.put_at (at_GCTL_CLKSTAT)) rfl ?_
      refine Ok.via (State.put_at (at_GCTL_RUNSTAT)) rfl ?_
      refine Ok.via (noteWake_ok ..) rfl ?_
      exact Ok.refl
    clear_value s0
    extract_lets +onlyGivenNames -merge -useContext s2
    refine Ok.withS (x := s2) ?_ fun h3 => ?_
    · unfold s2
      refine Ok.ite ?_ ?_
      · refine Ok.via (afeGoOn_ok ..) rfl ?_
        exact h1
      · exact h1
    clear_value s2
    extract_lets +onlyGivenNames -merge -useContext s4
    refine Ok.withS (x := s4) ?_ fun h5 => ?_
    · unfold s4
      refine Ok.via (pendHeld_ok ..) rfl ?_
      refine Ok.via (restartWatchdog_ok ..) rfl ?_
      refine Ok.via (State.put_at (at_EV_PIN)) rfl ?_
      refine Ok.via (wakeTrio_ok ..) rfl ?_
      exact h3
    clear_value s4
    extract_lets +onlyGivenNames -merge -useContext s6
    refine Ok.withS (x := s6) ?_ fun h9 => ?_
    · unfold s6
      refine Ok.forEach ?_ ?_
      · intro a7 a8
        refine Ok.via (State.modMo_ok ..) rfl ?_
        exact Ok.refl
      · exact h5
    clear_value s6
    extract_lets +onlyGivenNames -merge -useContext s10
    clear_value s10
    extract_lets +onlyGivenNames -merge -useContext s11
    refine Ok.withS (x := s11) ?_ fun h12 => ?_
    · unfold s11
      refine Ok.via (State.modPower_ok ..) rfl ?_
      exact h9
    clear_value s11
    refine Ok.forEach ?_ ?_
    · intro a13 a14
      refine Ok.via (coachPowerUp_ok ..) rfl ?_
      exact Ok.refl
    · exact h12

theorem runRequest_ok : ∀ x0 s, Ok [.regs, .staged, .replies, .free, .trioQ, .emcyQ, .logQ, .logWin, .legs, .coils, .coaches, .axes, .pl, .power, .syncOut, .sds, .afe, .trio, .mgs, .net] s (@runRequest x0 s) := by
  intro x0 s
  delta runRequest
  extract_lets +onlyGivenNames -merge -useContext s0
  clear_value s0
  refine Ok.ite ?_ ?_
  · exact Ok.refl
  · refine Ok.ite ?_ ?_
    · refine Ok.via (State.put_at (at_GCTL_RUNSTAT)) rfl ?_
      exact Ok.refl
    · extract_lets +onlyGivenNames -merge -useContext s1
      refine Ok.withS (x := s1) ?_ fun h2 => ?_
      · unfold s1
        refine Ok.via (State.put_at (at_GCTL_RUNSTAT)) rfl ?_
        exact Ok.refl
      clear_value s1
      refine Ok.ite ?_ ?_
      · refine Ok.ite ?_ ?_
        · refine Ok.via (dozeEnd_ok ..) rfl ?_
          refine Ok.via (noteWake_ok ..) rfl ?_
          exact h2
        · refine Ok.ite ?_ ?_
          · refine Ok.via (napEnd_ok ..) rfl ?_
            exact h2
          · exact h2
      · refine Ok.ite ?_ ?_
        · exact h2
        · extract_lets +onlyGivenNames -merge -useContext s3
          clear_value s3
          refine Ok.ite ?_ ?_
          · refine Ok.via (State.put_at (at_GCTL_RUNSTAT)) rfl ?_
            exact h2
          · refine Ok.ite ?_ ?_
            · refine Ok.via (State.put_at (at_GCTL_RUNSTAT)) rfl ?_
              exact h2
            · refine Ok.ite ?_ ?_
              · refine Ok.via (hibernateNow_ok ..) rfl ?_
                exact h2
              · refine Ok.via (sleepBegin_ok ..) rfl ?_
                exact h2

theorem autodoze_ok : ∀ s, Ok [.reg .GCTL_RUNSTAT] s (@autodoze s) := by
  intro s
  delta autodoze
  refine Ok.ite ?_ ?_
  · refine Ok.via (State.put_at (at_GCTL_RUNSTAT)) rfl ?_
    exact Ok.refl
  · exact Ok.refl

theorem enterReset_ok : ∀ x0 x1 s, Ok (.regs :: .snap :: .staged :: .bad :: .replies :: .guards :: .hostPair :: .trioPair :: .mgsPair :: .canPair :: .ticks :: .trioQ :: .emcyQ :: .logQ :: .logWin :: .legs :: .coils :: .coaches :: .trips :: .runs :: .axes :: .pl :: .power :: .syncOut :: .encs :: .stepLast :: .stepDir :: .sds :: .afe :: .trio :: .mgs :: .net :: .sph :: .spm :: .nvm :: []) s (@enterReset x0 x1 s) := by
  intro x0 x1 s
  delta enterReset
  extract_lets +onlyGivenNames -merge -useContext s0
  clear_value s0
  extract_lets +onlyGivenNames -merge -useContext s1
  clear_value s1
  extract_lets +onlyGivenNames -merge -useContext s2
  clear_value s2
  extract_lets +onlyGivenNames -merge -useContext s3
  clear_value s3
  extract_lets +onlyGivenNames -merge -useContext s4
  clear_value s4
  extract_lets +onlyGivenNames -merge -useContext s5
  refine Ok.withS (x := s5) ?_ fun h6 => ?_
  · unfold s5
    refine Ok.trans Ok.refl ((Ok.mk' (W := (.regs :: .snap :: .staged :: .bad :: .replies :: .guards :: .hostPair :: .trioPair :: .mgsPair :: .canPair :: .ticks :: .trioQ :: .emcyQ :: .logQ :: .logWin :: .legs :: .coils :: .coaches :: .trips :: .runs :: .axes :: .pl :: .power :: .syncOut :: .encs :: .stepLast :: .stepDir :: .sds :: .afe :: .trio :: .mgs :: .net :: .sph :: .spm :: .nvm :: [])) ⟨?_, ?_⟩ ?_).mono rfl)
    · intro p hp
      cases p <;> first | rfl | trivial
    · exact .inl (by decide)
    · exact fun g => { g with regs := (fun h => Sparse.wf_filter _ h) g.regs, snap := (fun _ => Sparse.wf_nil) g.snap, staged := (fun _ => Sparse.wf_nil) g.staged, bad := (fun _ => Sparse.wf_nil) g.bad, replies := (fun _ => Sparse.wf_nil) g.replies, guards := (fun _ => Sparse.wf_nil) g.guards, logQ := (fun h => by dsimp only; split <;> [exact Nat.zero_le _; exact h]) g.logQ, logWin := (fun _ => Sparse.wf_nil) g.logWin, legs := (fun _ => Sparse.wf_nil) g.legs, coils := (fun _ => Sparse.wf_nil) g.coils, coaches := (fun _ => Sparse.wf_nil) g.coaches, runs := (fun _ => Sparse.wf_nil) g.runs, axes := (fun _ => Sparse.wf_nil) g.axes, encs := (fun _ => Sparse.wf_nil) g.encs, stepLast := (fun _ => Sparse.wf_nil) g.stepLast, stepDir := (fun _ => Sparse.wf_nil) g.stepDir, sds := (fun _ => Sparse.wf_nil) g.sds, sdMods := fun _ h => absurd h List.not_mem_nil, afe := ⟨rfl, rfl, rfl, rfl⟩, trio := ⟨rfl, ⟨rfl, rfl⟩, ⟨rfl, rfl⟩, ⟨rfl, rfl⟩, rfl⟩, mgs := ⟨g.mgs.1, g.mgs.2.1, rfl, rfl, g.mgs.2.2.2.2⟩, net := ⟨rfl, rfl, rfl, rfl, Nat.zero_le _, Nat.zero_le _⟩, spm := ⟨Nat.zero_le _, Nat.zero_le _, Nat.zero_le _⟩, nvm := ⟨g.nvm.1, g.nvm.2.1, ⟨rfl, rfl, rfl⟩, rfl⟩ }
  clear_value s5
  extract_lets +onlyGivenNames -merge -useContext s7
  refine Ok.withS (x := s7) ?_ fun h10 => ?_
  · unfold s7
    refine Ok.forEach ?_ ?_
    · intro a8 a9
      refine Ok.via (State.modCoach_ok ..) rfl ?_
      exact Ok.refl
    · exact h6
  clear_value s7
  extract_lets +onlyGivenNames -merge -useContext s11
  refine Ok.withS (x := s11) ?_ fun h12 => ?_
  · unfold s11
    refine Ok.via (State.wr_at (at_GCTL_RSTCAUSE)) rfl ?_
    exact h10
  clear_value s11
  extract_lets +onlyGivenNames -merge -useContext s13
  refine Ok.withS (x := s13) ?_ fun h14 => ?_
  · unfold s13
    refine Ok.via (State.put_at (at_GCTL_RUNSTAT)) rfl ?_
    refine Ok.via (State.put_at (at_GCTL_RUNSTAT)) rfl ?_
    exact h12
  clear_value s13
  extract_lets +onlyGivenNames -merge -useContext s15
  refine Ok.withS (x := s15) ?_ fun h17 => ?_
  · unfold s15
    refine Ok.applyIf ?_ ?_
    · intro a16
      refine Ok.via (State.put_at (at_MGS_AUSTAT)) rfl ?_
      refine Ok.via (State.put_at (at_MGS_WDCFG)) rfl ?_
      exact Ok.refl
    · exact h14
  clear_value s15
  extract_lets +onlyGivenNames -merge -useContext s18
  refine Ok.withS (x := s18) ?_ fun h19 => ?_
  · unfold s18
    refine Ok.via (State.put_at (at_MGS_UPDSTAT)) rfl ?_
    refine Ok.via (State.put_at (at_GCTL_STORESTAT)) rfl ?_
    refine Ok.via (State.put_at (at_GCTL_STORESTAT)) rfl ?_
    exact h17
  clear_value s18
  extract_lets +onlyGivenNames -merge -useContext s20
  refine Ok.withS (x := s20) ?_ fun h21 => ?_
  · unfold s20
    refine Ok.via (State.wr_at (at_MGS_ALSTAT)) rfl ?_
    refine Ok.via (State.put_at (at_GCTL_STORESTAT)) rfl ?_
    exact h19
  clear_value s20
  extract_lets +onlyGivenNames -merge -useContext s22
  refine Ok.withS (x := s22) ?_ fun h23 => ?_
  · unfold s22
    refine Ok.via (State.put_at (at_GCTL_RUNCTL)) rfl ?_
    exact h21
  clear_value s22
  refine Ok.applyIf ?_ ?_
  · intro a24
    refine Ok.via (State.put_at (at_GCTL_CLKSTAT)) rfl ?_
    exact Ok.refl
  · refine Ok.via (State.put_at (at_GCTL_CLKSTAT)) rfl ?_
    exact h23

theorem noteRead_ok : ∀ x0 s, Ok [.mgs] s (@noteRead x0 s) := by
  intro x0 s
  delta noteRead
  refine Ok.via (modSlot_ok ?_) rfl ?_
  · exact fun _ h => h
  refine Ok.via (modSlot_ok ?_) rfl ?_
  · exact fun _ h => h
  exact Ok.refl

theorem bootChoice_ok : ∀ s, OkP [.logQ, .mgs, .reg .MGS_LOGSTAT, .reg .MGS_UPDSTAT] s (@bootChoice s) := by
  intro s
  delta bootChoice
  extract_lets +onlyGivenNames -merge -useContext s0
  clear_value s0
  refine OkP.ite ?_ ?_
  · extract_lets +onlyGivenNames -merge -useContext s1
    clear_value s1
    extract_lets +onlyGivenNames -merge -useContext s2
    clear_value s2
    refine OkP.ite ?_ ?_
    · extract_lets +onlyGivenNames -merge -useContext s3
      refine OkP.withS (x := s3) ?_ fun h4 => ?_
      · unfold s3
        refine Ok.via (logMgs_ok ..) rfl ?_
        refine Ok.via (slotTo_ok ..) rfl ?_
        exact Ok.refl
      clear_value s3
      refine OkP.mk ?_
      exact h4
    · refine OkP.mk ?_
      refine Ok.via (slotTo_ok ..) rfl ?_
      refine Ok.via (State.put_at (at_MGS_UPDSTAT)) rfl ?_
      exact Ok.refl
  · refine OkP.mk ?_
    exact Ok.refl

theorem logReset_ok : ∀ x0 s, Ok [.logQ, .reg .MGS_LOGSTAT] s (@logReset x0 s) := by
  intro x0 s
  delta logReset
  extract_lets +onlyGivenNames -merge -useContext s0
  clear_value s0
  extract_lets +onlyGivenNames -merge -useContext s1
  clear_value s1
  refine Ok.via (logMgs_ok ..) rfl ?_
  exact Ok.refl

theorem recovery_ok : ∀ s, Ok [.logQ, .trio, .reg .MGS_LOGSTAT, .reg .TRIO_STAT] s (@recovery s) := by
  intro s
  delta recovery
  refine Ok.via (State.modTrio_ok ?_) rfl ?_
  · exact fun _ h => ⟨h.1, h.2.1, h.2.2.1, h.2.2.2.1, h.2.2.2.2⟩
  refine Ok.via (enterSafe_ok ..) rfl ?_
  exact Ok.refl

theorem resetStart_ok : ∀ x0 x1 s, Ok (.regs :: .snap :: .staged :: .bad :: .replies :: .guards :: .hostPair :: .trioPair :: .mgsPair :: .canPair :: .ticks :: .trioQ :: .emcyQ :: .logQ :: .logWin :: .legs :: .coils :: .coaches :: .trips :: .runs :: .axes :: .pl :: .power :: .syncOut :: .encs :: .stepLast :: .stepDir :: .sds :: .afe :: .trio :: .mgs :: .net :: .sph :: .spm :: .nvm :: []) s (@resetStart x0 x1 s) := by
  intro x0 x1 s
  delta resetStart
  refine Ok.ite ?_ ?_
  · exact Ok.refl
  · extract_lets +onlyGivenNames -merge -useContext s0
    refine Ok.withS (x := s0) ?_ fun h1 => ?_
    · unfold s0
      refine Ok.via (State.modPower_ok ..) rfl ?_
      exact Ok.refl
    clear_value s0
    extract_lets +onlyGivenNames -merge -useContext s2
    refine Ok.withS (x := s2) ?_ fun h3 => ?_
    · unfold s2
      refine Ok.via (noteRead_ok ..) rfl ?_
      refine Ok.via (State.put_at (at_GCTL_CLKSTAT)) rfl ?_
      exact h1
    clear_value s2
    split
    · rename_i t4 e5
      refine Ok.withS (x := t4) (OkP.of_eq e5 ?_) fun h6 => ?_
      · refine OkP.via (bootChoice_ok ..) rfl ?_
        exact h3
      split
      · refine Ok.via (recovery_ok ..) rfl ?_
        refine Ok.via (logReset_ok ..) rfl ?_
        exact h6
      · extract_lets +onlyGivenNames -merge -useContext s7
        refine Ok.withS (x := s7) ?_ fun h8 => ?_
        · unfold s7
          refine Ok.via (State.putB_at (at_MGS_UPDSTAT)) rfl ?_
          exact h6
        clear_value s7
        refine Ok.ite ?_ ?_
        · refine Ok.via (logReset_ok ..) rfl ?_
          exact h8
        · refine Ok.ite ?_ ?_
          · refine Ok.via (enterReset_ok ..) rfl ?_
            refine Ok.via (logReset_ok ..) rfl ?_
            exact h8
          · refine Ok.ite ?_ ?_
            · extract_lets +onlyGivenNames -merge -useContext s9
              refine Ok.withS (x := s9) ?_ fun h10 => ?_
              · unfold s9
                refine Ok.via (logReset_ok ..) rfl ?_
                refine Ok.via (State.putB_at (at_MGS_UPDSTAT)) rfl ?_
                refine Ok.via (slotTo_ok ..) rfl ?_
                refine Ok.via (State.put_at (at_MGS_UPDSTAT)) rfl ?_
                exact h8
              clear_value s9
              refine Ok.ite ?_ ?_
              · exact h10
              · refine Ok.via (enterReset_ok ..) rfl ?_
                exact h10
            · refine Ok.via (recovery_ok ..) rfl ?_
              refine Ok.via (logReset_ok ..) rfl ?_
              exact h8

theorem State.takeRegs_wf (s : State) : Sparse.wf resetWord s.takeRegs := by
  unfold State.takeRegs
  generalize s.regs.map (·.1) ++ s.staged.map (·.1) = l
  suffices h : ∀ m : Sparse Word, Sparse.wf resetWord m → Sparse.wf resetWord (l.foldl (fun m a =>
      match locate a with
      | none => m
      | some l =>
        let k := l.defn.rwsMask
        if k = 0 || keptNvm a then m else Sparse.set resetWord m a ((s.latest a &&& k) ||| (resetWord a &&& ~~~ k))) m) from
    h [] Sparse.wf_nil
  induction l with
  | nil => exact fun m h => h
  | cons a l ih =>
    intro m h
    refine ih _ ?_
    beta_reduce
    split
    · exact h
    · dsimp only
      split
      · exact h
      · exact Sparse.wf_set h

theorem storeTake_ok : ∀ s, Ok [.nvm] s (storeTake s) := by
  intro s
  delta storeTake
  refine Ok.ite ?_ Ok.refl
  exact State.modNvm_good fun g =>
    ⟨g.nvm.1, g.nvm.2.1, ⟨s.takeRegs_wf, g.afe.2.1, g.net.1⟩, Sparse.wf_filter _ g.regs⟩

theorem storeBegin_ok : ∀ x0 s, Ok [.nvm, .reg .GCTL_STORESTAT] s (@storeBegin x0 s) := by
  intro x0 s
  delta storeBegin
  refine Ok.via (State.put_at (at_GCTL_STORESTAT)) rfl ?_
  refine Ok.via (State.modNvm_ok ?_) rfl ?_
  · exact fun _ h => ⟨h.1, h.2.1, h.2.2.1, h.2.2.2⟩
  exact Ok.refl

theorem storeEnd_ok : ∀ x0 s, Ok [.trioQ, .emcyQ, .logQ, .logWin, .nvm, .reg .EV_PEND, .reg .GCTL_STORESTAT, .reg .MGS_LOGSTAT] s (@storeEnd x0 s) := by
  intro x0 s
  delta storeEnd
  extract_lets +onlyGivenNames -merge -useContext s0
  clear_value s0
  refine Ok.ite ?_ ?_
  · exact Ok.refl
  · extract_lets +onlyGivenNames -merge -useContext s1
    refine Ok.withS (x := s1) ?_ fun h2 => ?_
    · unfold s1
      refine Ok.via (State.modNvm_ok ?_) rfl ?_
      · intro _ h
        refine ⟨fun x hx => ?_, fun w hw => ?_, ⟨rfl, rfl, rfl⟩, rfl⟩
        · dsimp only at hx
          split_ifs at hx
          · exact h.1 x hx
          · cases hx
            exact h.2.2.1
          · exact h.1 x hx
        · dsimp only at hw
          split_ifs at hw
          · exact h.2.1 w hw
          · cases hw
            exact h.2.2.2
          · exact h.2.1 w hw
      exact Ok.refl
    clear_value s1
    extract_lets +onlyGivenNames -merge -useContext s3
    refine Ok.withS (x := s3) ?_ fun h4 => ?_
    · unfold s3
      refine Ok.via (State.put_at (at_GCTL_STORESTAT)) rfl ?_
      exact h2
    clear_value s3
    extract_lets +onlyGivenNames -merge -useContext s5
    refine Ok.withS (x := s5) ?_ fun h6 => ?_
    · unfold s5
      refine Ok.ite ?_ ?_
      · refine Ok.via (State.inc_at (at_GCTL_STORESTAT)) rfl ?_
        refine Ok.via (State.put_at (at_GCTL_STORESTAT)) rfl ?_
        exact h4
      · refine Ok.via (State.put_at (at_GCTL_STORESTAT)) rfl ?_
        exact h4
    clear_value s5
    refine Ok.via (pendSrc_ok ..) rfl ?_
    exact h6

theorem restore_ok : ∀ s, Ok [.regs, .afe, .net] s (@restore s) := by
  intro s
  delta restore
  extract_lets +onlyGivenNames -merge -useContext s0
  refine Ok.withS (x := s0) ?_ fun h6 => ?_
  · unfold s0
    split
    · exact Ok.refl
    · rename_i x e
      extract_lets +onlyGivenNames -merge -useContext s1
      refine Ok.withS (x := s1) ?_ fun h5 => ?_
      · unfold s1
        refine Ok.foldl ?_ ?_
        · intro u2 x3
          split
          · exact Ok.refl
          · extract_lets +onlyGivenNames -merge -useContext s4
            clear_value s4
            refine Ok.via (State.wr_ok ..) rfl ?_
            exact Ok.refl
        · exact Ok.refl
      clear_value s1
      have e1 : s1.nvm.settings = some x := (congrArg Nvm.settings (h5.1.1 .nvm (by decide))).trans e
      refine Ok.via (State.modNet_good fun g => ?_) rfl ?_
      · have h := g.net
        exact ⟨(g.nvm.1 x e1).2.2, h.2⟩
      refine Ok.via (State.modAfe_good fun g => ?_) rfl ?_
      · have h := g.afe
        exact ⟨h.1, (g.nvm.1 x e1).2.1, h.2.2⟩
      exact h5
  clear_value s0
  split
  · exact h6
  · extract_lets +onlyGivenNames -merge -useContext s7
    refine Ok.withS (x := s7) ?_ fun h10 => ?_
    · unfold s7
      refine Ok.foldl ?_ ?_
      · intro u8 x9
        refine Ok.ite ?_ ?_
        · refine Ok.via (State.wr_ok ..) rfl ?_
          exact Ok.refl
        · exact Ok.refl
      · exact h6
    clear_value s7
    refine Ok.forEach ?_ ?_
    · intro a11 a12
      refine Ok.via (State.put_at (at_WAVE_STAT _)) rfl ?_
      exact Ok.refl
    · exact h10

theorem resetEnd_ok : ∀ s, Ok [.regs, .snap, .logQ, .axes, .power, .afe, .mgs, .net] s (@resetEnd s) := by
  intro s
  delta resetEnd
  refine Ok.ite ?_ ?_
  · exact Ok.refl
  · extract_lets +onlyGivenNames -merge -useContext s0
    clear_value s0
    extract_lets +onlyGivenNames -merge -useContext s1
    clear_value s1
    extract_lets +onlyGivenNames -merge -useContext s2
    clear_value s2
    extract_lets +onlyGivenNames -merge -useContext s3
    clear_value s3
    extract_lets +onlyGivenNames -merge -useContext s4
    refine Ok.withS (x := s4) ?_ fun h5 => ?_
    · unfold s4
      refine Ok.via (State.modPower_ok ..) rfl ?_
      exact Ok.refl
    clear_value s4
    extract_lets +onlyGivenNames -merge -useContext s6
    refine Ok.withS (x := s6) ?_ fun h7 => ?_
    · unfold s6
      refine Ok.via (restore_ok ..) rfl ?_
      exact h5
    clear_value s6
    extract_lets +onlyGivenNames -merge -useContext s8
    refine Ok.withS (x := s8) ?_ fun h9 => ?_
    · unfold s8
      refine Ok.via (State.put_at (at_GCTL_PWRSTAT)) rfl ?_
      refine Ok.via (State.put_at (at_GCTL_CLKSTAT)) rfl ?_
      exact h7
    clear_value s8
    extract_lets +onlyGivenNames -merge -useContext s10
    refine Ok.withS (x := s10) ?_ fun h12 => ?_
    · unfold s10
      refine Ok.applyIf ?_ ?_
      · intro a11
        refine Ok.via (logMgs_ok ..) rfl ?_
        exact Ok.refl
      · exact h9
    clear_value s10
    extract_lets +onlyGivenNames -merge -useContext s13
    refine Ok.withS (x := s13) ?_ fun h14 => ?_
    · unfold s13
      refine Ok.ite ?_ ?_
      · refine Ok.via (State.modMgs_ok ?_) rfl ?_
        · exact fun _ h => ⟨h.1, h.2.1, h.2.2.1, h.2.2.2.1, h.2.2.2.2⟩
        exact h12
      · refine Ok.via (restartWatchdog_ok ..) rfl ?_
        exact h12
    clear_value s13
    extract_lets +onlyGivenNames -merge -useContext s15
    refine Ok.withS (x := s15) ?_ fun h18 => ?_
    · unfold s15
      refine Ok.forEach ?_ ?_
      · intro a16 a17
        refine Ok.via (showSide_ok ..) rfl ?_
        exact Ok.refl
      · exact h14
    clear_value s15
    extract_lets +onlyGivenNames -merge -useContext s19
    refine Ok.withS (x := s19) ?_ fun h24 => ?_
    · unfold s19
      refine Ok.forEach ?_ ?_
      · intro a20 a21
        extract_lets +onlyGivenNames -merge -useContext s22
        refine Ok.withS (x := s22) ?_ fun h23 => ?_
        · unfold s22
          refine Ok.via (State.put_at (at_RK_STAT _)) rfl ?_
          refine Ok.via (State.put_at (at_RK_STAT _)) rfl ?_
          exact Ok.refl
        clear_value s22
        refine Ok.via (showPresent_ok ..) rfl ?_
        exact h23
      · exact h18
    clear_value s19
    extract_lets +onlyGivenNames -merge -useContext s25
    refine Ok.withS (x := s25) ?_ fun h26 => ?_
    · unfold s25
      refine Ok.via (nodeAtReset_ok ..) rfl ?_
      exact h24
    clear_value s25
    refine Ok.ite ?_ ?_
    · refine Ok.foldl ?_ ?_
      · intro u27 x28
        extract_lets +onlyGivenNames -merge -useContext s29
        refine Ok.withS (x := s29) ?_ fun h30 => ?_
        · unfold s29
          refine Ok.via (State.putPair_at (at_AX_POS_LO _) (hi_AX_POS_LO _)) rfl ?_
          refine Ok.via (State.modMo_ok ..) rfl ?_
          exact Ok.refl
        clear_value s29
        refine Ok.via (snapWords_ok ..) rfl ?_
        exact h30
      · exact h26
    · exact h26

theorem rtcCommit_ok : ∀ s, Ok [.power, .reg .GCTL_RTC_HI, .reg .GCTL_RTC_LO] s (@rtcCommit s) := by
  intro s
  delta rtcCommit
  split
  · exact Ok.refl
  · extract_lets +onlyGivenNames -merge -useContext s0
    refine Ok.withS (x := s0) ?_ fun h1 => ?_
    · unfold s0
      refine Ok.via (State.put_at (at_GCTL_RTC_HI)) rfl ?_
      refine Ok.via (State.wr_at (at_GCTL_RTC_LO)) rfl ?_
      exact Ok.refl
    clear_value s0
    refine Ok.via (State.modPower_ok ..) rfl ?_
    exact h1

end Sys2Proof.Machine
end

