-- ==== Sys2Proof/Laws/OkBusOps.lean ====
section
/-!
SUPPORT. Laws/OkBusOps.lean: for each operation of Machine/BusOps.lean, the parts of the state it can change, and that it keeps a
good state good.
-/

namespace Sys2Proof.Machine

set_option Elab.async false

theorem addReq_ok : ∀ x0 x1 s, Ok [.axes] s (@addReq x0 x1 s) := by
  intro x0 x1 s
  delta addReq
  refine Ok.via (State.modMo_ok ..) rfl ?_
  exact Ok.refl

theorem requestStart_ok : ∀ x0 s, Ok [.axes, .reg .AX_STARTSTAT] s (@requestStart x0 s) := by
  intro x0 s
  delta requestStart
  extract_lets +onlyGivenNames -merge -useContext s0
  clear_value s0
  extract_lets +onlyGivenNames -merge -useContext s1
  refine Ok.withS (x := s1) ?_ fun h2 => ?_
  · unfold s1
    refine Ok.via (State.modMo_ok ..) rfl ?_
    exact Ok.refl
  clear_value s1
  split
  · refine Ok.ite ?_ ?_
    · exact h2
    · refine Ok.via (ignoreStart_ok ..) rfl ?_
      exact h2
  · exact h2
  · refine Ok.ite ?_ ?_
    · exact h2
    · refine Ok.via (addReq_ok ..) rfl ?_
      exact h2

theorem requestEnable_ok : ∀ x0 s, Ok [.axes] s (@requestEnable x0 s) := by
  intro x0 s
  delta requestEnable
  refine Ok.via (State.modMo_ok ..) rfl ?_
  exact Ok.refl

theorem requestDisable_ok : ∀ x0 s, Ok (.trioQ :: .emcyQ :: .logQ :: .logWin :: .coaches :: .axes :: .pl :: .reg .AXALERT :: .reg .AXEN :: .reg .AX_FLTSTAT :: .reg .AX_STAT :: .reg .EV_PEND :: .reg .MGS_LOGSTAT :: .reg .PL_ENERGY_HI :: .reg .PL_ENERGY_LO :: .reg .PL_EVINFO :: .reg .PL_MAKESPAN :: .reg .PL_RES :: .reg .PL_RES_EACT :: .reg .PL_RES_END :: .reg .PL_STAT :: []) s (@requestDisable x0 s) := by
  intro x0 s
  delta requestDisable
  extract_lets +onlyGivenNames -merge -useContext s0
  refine Ok.withS (x := s0) ?_ fun h1 => ?_
  · unfold s0
    refine Ok.via (State.modMo_ok ..) rfl ?_
    exact Ok.refl
  clear_value s0
  refine Ok.ite ?_ ?_
  · refine Ok.via (State.putBitAt_at (at_AXEN _)) rfl ?_
    exact h1
  · refine Ok.ite ?_ ?_
    · extract_lets +onlyGivenNames -merge -useContext s2
      refine Ok.withS (x := s2) ?_ fun h3 => ?_
      · unfold s2
        refine Ok.via (planCause_ok ..) rfl ?_
        refine Ok.via (latchAxis_ok ..) rfl ?_
        exact h1
      clear_value s2
      refine Ok.ite ?_ ?_
      · refine Ok.via (State.modMo_ok ..) rfl ?_
        refine Ok.via (State.put_at (at_AX_STAT _)) rfl ?_
        refine Ok.via (State.put_at (at_AX_STAT _)) rfl ?_
        exact h3
      · refine Ok.via (State.modMo_ok ..) rfl ?_
        exact h3
    · refine Ok.via (planCause_ok ..) rfl ?_
      exact h1

theorem runWritten_ok : ∀ x0 x1 s, Ok [.regs, .staged, .replies, .free, .trioQ, .emcyQ, .logQ, .logWin, .legs, .coils, .coaches, .axes, .pl, .power, .syncOut, .sds, .afe, .trio, .mgs, .net] s (@runWritten x0 x1 s) := by
  intro x0 x1 s
  delta runWritten
  refine Ok.ite ?_ ?_
  · exact Ok.refl
  · refine Ok.via (runRequest_ok ..) rfl ?_
    exact Ok.refl

theorem powerWritten_ok : ∀ x0 x1 s, Ok (.regs :: .snap :: .staged :: .bad :: .replies :: .guards :: .hostPair :: .trioPair :: .mgsPair :: .canPair :: .ticks :: .free :: .trioQ :: .emcyQ :: .logQ :: .logWin :: .legs :: .coils :: .coaches :: .trips :: .runs :: .axes :: .pl :: .power :: .syncOut :: .encs :: .stepLast :: .stepDir :: .sds :: .afe :: .trio :: .mgs :: .net :: .sph :: .spm :: .nvm :: []) s (@powerWritten x0 x1 s) := by
  intro x0 x1 s
  delta powerWritten
  refine Ok.ite ?_ ?_
  · refine Ok.via (enterReset_ok ..) rfl ?_
    exact Ok.refl
  · refine Ok.ite ?_ ?_
    · refine Ok.forEach ?_ ?_
      · intro a0 a1
        refine Ok.ite ?_ ?_
        · exact Ok.refl
        · refine Ok.via (State.modPower_ok ..) rfl ?_
          exact Ok.refl
      · exact Ok.refl
    · extract_lets +onlyGivenNames -merge -useContext s2
      refine Ok.withS (x := s2) ?_ fun h5 => ?_
      · unfold s2
        refine Ok.forEach ?_ ?_
        · intro a3 a4
          refine Ok.ite ?_ ?_
          · refine Ok.ite ?_ ?_
            · exact Ok.refl
            · refine Ok.via (coachPowerUp_ok ..) rfl ?_
              exact Ok.refl
          · refine Ok.ite ?_ ?_
            · exact Ok.refl
            · refine Ok.ite ?_ ?_
              · refine Ok.via (coachForce_ok ..) rfl ?_
                exact Ok.refl
              · refine Ok.ite ?_ ?_
                · refine Ok.via (coachOffReq_ok ..) rfl ?_
                  exact Ok.refl
                · exact Ok.refl
        · exact Ok.refl
      clear_value s2
      refine Ok.ite ?_ ?_
      · refine Ok.via (afeGoOff_ok ..) rfl ?_
        exact h5
      · refine Ok.ite ?_ ?_
        · refine Ok.via (afeGoOn_ok ..) rfl ?_
          exact h5
        · exact h5

theorem gctlWritten_ok : ∀ x0 x1 x2 x3 s, Ok (.regs :: .snap :: .staged :: .bad :: .replies :: .guards :: .hostPair :: .trioPair :: .mgsPair :: .canPair :: .ticks :: .free :: .trioQ :: .emcyQ :: .logQ :: .logWin :: .legs :: .coils :: .coaches :: .trips :: .runs :: .axes :: .pl :: .power :: .syncOut :: .encs :: .stepLast :: .stepDir :: .sds :: .afe :: .trio :: .mgs :: .net :: .sph :: .spm :: .nvm :: []) s (@gctlWritten x0 x1 x2 x3 s) := by
  intro x0 x1 x2 x3 s
  delta gctlWritten
  split
  · refine Ok.ite ?_ ?_
    · exact Ok.refl
    · refine Ok.via (State.wr_at (at_GCTL_BUSERRCNT)) rfl ?_
      refine Ok.via (State.wr_at (at_GCTL_BUSERRADDR)) rfl ?_
      refine Ok.via (State.wr_at (at_GCTL_BUSERR)) rfl ?_
      exact Ok.refl
  · refine Ok.ite ?_ ?_
    · exact Ok.refl
    · refine Ok.via (State.put_at (at_GCTL_PARERR)) rfl ?_
      exact Ok.refl
  · refine Ok.ite ?_ ?_
    · exact Ok.refl
    · refine Ok.via (State.put_at (at_GCTL_CLAMPADDR)) rfl ?_
      exact Ok.refl
  · refine Ok.via (powerWritten_ok ..) rfl ?_
    exact Ok.refl
  · refine Ok.via (sharedLand_ok ..) rfl ?_
    exact Ok.refl
  · refine Ok.via (runWritten_ok ..) rfl ?_
    exact Ok.refl
  · refine Ok.via (storeBegin_ok ..) rfl ?_
    exact Ok.refl
  · exact Ok.refl

theorem lactlWritten_ok : ∀ x0 x1 s, Ok [.trioQ, .emcyQ, .logQ, .logWin, .axes, .reg .AXALERT, .reg .AX_BEMFCNT, .reg .AX_BEMFKE, .reg .AX_ENERGY_HI, .reg .AX_ENERGY_LO, .reg .AX_HOMEST, .reg .AX_STALLST, .reg .AX_WITST, .reg .EV_PEND, .reg .MGS_LOGSTAT] s (@lactlWritten x0 x1 s) := by
  intro x0 x1 s
  delta lactlWritten
  extract_lets +onlyGivenNames -merge -useContext s0
  refine Ok.withS (x := s0) ?_ fun h1 => ?_
  · unfold s0
    refine Ok.ite ?_ ?_
    · refine Ok.via (State.putPair_at (at_AX_ENERGY_LO _) (hi_AX_ENERGY_LO _)) rfl ?_
      refine Ok.via (State.modMo_ok ..) rfl ?_
      exact Ok.refl
    · exact Ok.refl
  clear_value s0
  extract_lets +onlyGivenNames -merge -useContext s2
  refine Ok.withS (x := s2) ?_ fun h3 => ?_
  · unfold s2
    refine Ok.ite ?_ ?_
    · refine Ok.via (State.wr_at (at_AX_BEMFCNT _)) rfl ?_
      refine Ok.via (State.put_at (at_AX_STALLST _)) rfl ?_
      exact h1
    · exact h1
  clear_value s2
  extract_lets +onlyGivenNames -merge -useContext s4
  refine Ok.withS (x := s4) ?_ fun h5 => ?_
  · unfold s4
    refine Ok.ite ?_ ?_
    · refine Ok.via (updAlert_ok ..) rfl ?_
      refine Ok.via (State.put_at (at_AX_HOMEST _)) rfl ?_
      refine Ok.via (State.put_at (at_AX_HOMEST _)) rfl ?_
      exact h3
    · exact h3
  clear_value s4
  extract_lets +onlyGivenNames -merge -useContext s6
  refine Ok.withS (x := s6) ?_ fun h7 => ?_
  · unfold s6
    refine Ok.ite ?_ ?_
    · refine Ok.via (State.put_at (at_AX_WITST _)) rfl ?_
      exact h5
    · exact h5
  clear_value s6
  refine Ok.ite ?_ ?_
  · refine Ok.via (State.modSe_ok ..) rfl ?_
    refine Ok.via (State.put_at (at_AX_BEMFKE _)) rfl ?_
    exact h7
  · exact h7

theorem ctlWritten_ok : ∀ x0 x1 s, Ok [.axes, .mgs, .reg .AX_STARTSTAT, .reg .GCTL_RUNSTAT] s (@ctlWritten x0 x1 s) := by
  intro x0 x1 s
  delta ctlWritten
  split
  · refine Ok.via (requestStart_ok ..) rfl ?_
    refine Ok.via (dozeEnd_ok ..) rfl ?_
    exact Ok.refl
  · refine Ok.via (addReq_ok ..) rfl ?_
    exact Ok.refl
  · refine Ok.via (addReq_ok ..) rfl ?_
    exact Ok.refl
  · refine Ok.via (addReq_ok ..) rfl ?_
    exact Ok.refl
  · refine Ok.via (addReq_ok ..) rfl ?_
    exact Ok.refl
  · refine Ok.via (addReq_ok ..) rfl ?_
    exact Ok.refl
  · refine Ok.via (addReq_ok ..) rfl ?_
    exact Ok.refl
  · exact Ok.refl

theorem axWritten_ok : ∀ x0 x1 s, Ok (.trioQ :: .emcyQ :: .logQ :: .logWin :: .coaches :: .axes :: .pl :: .mgs :: .reg .AXALERT :: .reg .AXEN :: .reg .AX_ACC :: .reg .AX_BEMFCNT :: .reg .AX_BEMFKE :: .reg .AX_ENERGY_HI :: .reg .AX_ENERGY_LO :: .reg .AX_EPFS :: .reg .AX_FLTCNT :: .reg .AX_FLTSTAT :: .reg .AX_HOMEST :: .reg .AX_MOVEEN :: .reg .AX_SSTAT :: .reg .AX_STALLST :: .reg .AX_STARTSTAT :: .reg .AX_STAT :: .reg .AX_VEL :: .reg .AX_WITST :: .reg .EV_PEND :: .reg .GCTL_RUNSTAT :: .reg .MGS_LOGSTAT :: .reg .PL_AXLRN :: .reg .PL_ENERGY_HI :: .reg .PL_ENERGY_LO :: .reg .PL_EVINFO :: .reg .PL_MAKESPAN :: .reg .PL_RES :: .reg .PL_RES_EACT :: .reg .PL_RES_END :: .reg .PL_STAT :: []) s (@axWritten x0 x1 s) := by
  intro x0 x1 s
  delta axWritten
  extract_lets +onlyGivenNames -merge -useContext s0
  clear_value s0
  split
  · refine Ok.via (ctlWritten_ok ..) rfl ?_
    exact Ok.refl
  · refine Ok.via (updAlert_ok ..) rfl ?_
    exact Ok.refl
  · refine Ok.via (updAlert_ok ..) rfl ?_
    exact Ok.refl
  · refine Ok.via (updAlert_ok ..) rfl ?_
    exact Ok.refl
  · refine Ok.ite ?_ ?_
    · exact Ok.refl
    · refine Ok.via (State.put_at (at_AX_STARTSTAT _)) rfl ?_
      refine Ok.via (State.put_at (at_AX_STARTSTAT _)) rfl ?_
      exact Ok.refl
  · refine Ok.ite ?_ ?_
    · exact Ok.refl
    · refine Ok.via (State.put_at (at_AX_FLTCNT _)) rfl ?_
      refine Ok.via (State.put_at (at_AX_FLTCNT _)) rfl ?_
      exact Ok.refl
  · refine Ok.via (State.put_at (at_PL_AXLRN _)) rfl ?_
    exact Ok.refl
  · refine Ok.via (lactlWritten_ok ..) rfl ?_
    exact Ok.refl
  · extract_lets +onlyGivenNames -merge -useContext s1
    refine Ok.withS (x := s1) ?_ fun h2 => ?_
    · unfold s1
      refine Ok.ite ?_ ?_
      · refine Ok.via (latchAxis_ok ..) rfl ?_
        exact Ok.refl
      · exact Ok.refl
    clear_value s1
    refine Ok.ite ?_ ?_
    · refine Ok.via (clearAxisCmd_ok ..) rfl ?_
      exact h2
    · exact h2
  · exact Ok.refl

theorem bitmapWritten_ok : ∀ x0 x1 x2 s, Ok (.trioQ :: .emcyQ :: .logQ :: .logWin :: .coaches :: .axes :: .pl :: .mgs :: .reg .AXALERT :: .reg .AXEN :: .reg .AX_FLTSTAT :: .reg .AX_STARTSTAT :: .reg .AX_STAT :: .reg .EV_PEND :: .reg .GCTL_RUNSTAT :: .reg .MGS_LOGSTAT :: .reg .PL_ENERGY_HI :: .reg .PL_ENERGY_LO :: .reg .PL_EVINFO :: .reg .PL_MAKESPAN :: .reg .PL_RES :: .reg .PL_RES_EACT :: .reg .PL_RES_END :: .reg .PL_STAT :: []) s (@bitmapWritten x0 x1 x2 s) := by
  intro x0 x1 x2 s
  delta bitmapWritten
  split
  · refine Ok.forEach ?_ ?_
    · intro a0 a1
      extract_lets +onlyGivenNames -merge -useContext s2
      clear_value s2
      refine Ok.ite ?_ ?_
      · refine Ok.via (requestEnable_ok ..) rfl ?_
        refine Ok.via (dozeEnd_ok ..) rfl ?_
        exact Ok.refl
      · refine Ok.via (requestDisable_ok ..) rfl ?_
        exact Ok.refl
    · exact Ok.refl
  · refine Ok.forEach ?_ ?_
    · intro a3 a4
      refine Ok.via (requestStart_ok ..) rfl ?_
      refine Ok.via (dozeEnd_ok ..) rfl ?_
      exact Ok.refl
    · exact Ok.refl
  · exact Ok.refl

theorem coachWritten_ok : ∀ x0 x1 x2 s, Ok (.trioQ :: .emcyQ :: .logQ :: .logWin :: .legs :: .coaches :: .runs :: .axes :: .pl :: .reg .AXALERT :: .reg .AXEN :: .reg .AX_ACC :: .reg .AX_EPFS :: .reg .AX_FLTSTAT :: .reg .AX_HOMEST :: .reg .AX_MOVEEN :: .reg .AX_SSTAT :: .reg .AX_STALLST :: .reg .AX_STAT :: .reg .AX_VEL :: .reg .CO_FLTSTAT :: .reg .CO_LINKERR :: .reg .CO_LINKSTAT :: .reg .EV_ACT :: .reg .EV_PEND :: .reg .LEG_FLTCNT :: .reg .MGS_LOGSTAT :: .reg .PL_ENERGY_HI :: .reg .PL_ENERGY_LO :: .reg .PL_EVINFO :: .reg .PL_MAKESPAN :: .reg .PL_RES :: .reg .PL_RES_EACT :: .reg .PL_RES_END :: .reg .PL_STAT :: .reg .RK_FLTSTAT :: []) s (@coachWritten x0 x1 x2 s) := by
  intro x0 x1 x2 s
  delta coachWritten
  extract_lets +onlyGivenNames -merge -useContext s0
  clear_value s0
  split
  · refine Ok.via (updAlert_ok ..) rfl ?_
    exact Ok.refl
  · refine Ok.ite ?_ ?_
    · refine Ok.via (overrideOff_ok ..) rfl ?_
      exact Ok.refl
    · exact Ok.refl
  · refine Ok.ite ?_ ?_
    · exact Ok.refl
    · refine Ok.via (State.wr_at (at_LEG_FLTCNT _)) rfl ?_
      exact Ok.refl
  · refine Ok.ite ?_ ?_
    · exact Ok.refl
    · refine Ok.via (clearRank_ok ..) rfl ?_
      exact Ok.refl
  · extract_lets +onlyGivenNames -merge -useContext s1
    refine Ok.withS (x := s1) ?_ fun h2 => ?_
    · unfold s1
      refine Ok.ite ?_ ?_
      · refine Ok.via (clearCoach_ok ..) rfl ?_
        exact Ok.refl
      · exact Ok.refl
    clear_value s1
    refine Ok.ite ?_ ?_
    · refine Ok.via (clearVm_ok ..) rfl ?_
      exact h2
    · exact h2
  · extract_lets +onlyGivenNames -merge -useContext s3
    refine Ok.withS (x := s3) ?_ fun h4 => ?_
    · unfold s3
      refine Ok.ite ?_ ?_
      · refine Ok.via (State.put_at (at_CO_LINKSTAT _)) rfl ?_
        refine Ok.via (State.wr_at (at_CO_LINKERR _)) rfl ?_
        exact Ok.refl
      · exact Ok.refl
    clear_value s3
    refine Ok.ite ?_ ?_
    · refine Ok.via (sendCtl_ok ..) rfl ?_
      exact h4
    · exact h4
  · exact Ok.refl

theorem waveWritten_ok : ∀ x0 x1 s, Ok [.reg .WAVE_STAT] s (@waveWritten x0 x1 s) := by
  intro x0 x1 s
  delta waveWritten
  split
  · refine Ok.ite ?_ ?_
    · exact Ok.refl
    · refine Ok.via (State.put_at (at_WAVE_STAT _)) rfl ?_
      refine Ok.via (State.put_at (at_WAVE_STAT _)) rfl ?_
      exact Ok.refl
  · exact Ok.refl

theorem feedbackWritten_ok : ∀ x0 x1 s, Ok [.trioQ, .emcyQ, .logQ, .logWin, .encs, .reg .CMP_CFG, .reg .CMP_CNTS, .reg .CMP_COUNT, .reg .CMP_POS, .reg .CMP_STAT, .reg .ENC_CNT, .reg .ENC_ERR, .reg .EV_PEND, .reg .MGS_LOGSTAT, .reg .STEP_ERR] s (@feedbackWritten x0 x1 s) := by
  intro x0 x1 s
  delta feedbackWritten
  extract_lets +onlyGivenNames -merge -useContext s0
  clear_value s0
  split
  · refine Ok.via (encSet_ok ..) rfl ?_
    exact Ok.refl
  · refine Ok.ite ?_ ?_
    · refine Ok.via (State.modEnc_ok ..) rfl ?_
      exact Ok.refl
    · refine Ok.via (cmpPosSet_ok ..) rfl ?_
      exact Ok.refl
  · refine Ok.ite ?_ ?_
    · exact Ok.refl
    · refine Ok.via (State.put_at (at_ENC_ERR _)) rfl ?_
      exact Ok.refl
  · refine Ok.ite ?_ ?_
    · exact Ok.refl
    · refine Ok.via (State.put_at (at_CMP_CNTS _)) rfl ?_
      refine Ok.via (State.put_at (at_CMP_CNTS _)) rfl ?_
      exact Ok.refl
  · refine Ok.ite ?_ ?_
    · exact Ok.refl
    · refine Ok.via (State.put_at (at_STEP_ERR _)) rfl ?_
      refine Ok.via (State.put_at (at_STEP_ERR _)) rfl ?_
      exact Ok.refl
  · exact Ok.refl

theorem evWritten_ok : ∀ x0 x1 s, Ok [.trioQ, .emcyQ, .logQ, .logWin, .reg .EV_PEND, .reg .MGS_LOGSTAT] s (@evWritten x0 x1 s) := by
  intro x0 x1 s
  delta evWritten
  split
  · refine Ok.ite ?_ ?_
    · exact Ok.refl
    · refine Ok.via (pendSrc_ok ..) rfl ?_
      exact Ok.refl
  · exact Ok.refl

theorem plWritten_ok : ∀ x0 x1 s, Ok [.pl, .reg .PL_ENERGY_HI, .reg .PL_ENERGY_LO, .reg .PL_EVINFO, .reg .PL_MAKESPAN, .reg .PL_PRED, .reg .PL_RCP0, .reg .PL_RCP1, .reg .PL_RCP2, .reg .PL_RCP3, .reg .PL_RCPHDR, .reg .PL_RES, .reg .PL_RES_EACT, .reg .PL_RES_EEST, .reg .PL_RES_END, .reg .PL_RES_START, .reg .PL_RES_TEST, .reg .PL_STAT] s (@plWritten x0 x1 s) := by
  intro x0 x1 s
  delta plWritten
  refine Ok.ite ?_ ?_
  · refine Ok.via (plTo_ok ..) rfl ?_
    exact Ok.refl
  · split
    · refine Ok.via (plCommand_ok ..) rfl ?_
      exact Ok.refl
    · exact Ok.refl

theorem sphWritten_ok : ∀ x0 x1 s, Ok [.reg .SPH_CNT, .reg .SPH_ERR] s (@sphWritten x0 x1 s) := by
  intro x0 x1 s
  delta sphWritten
  split
  · refine Ok.ite ?_ ?_
    · exact Ok.refl
    · refine Ok.via (State.put_at (at_SPH_ERR)) rfl ?_
      exact Ok.refl
  · refine Ok.ite ?_ ?_
    · exact Ok.refl
    · refine Ok.via (State.wr_at (at_SPH_CNT)) rfl ?_
      exact Ok.refl
  · exact Ok.refl

theorem blockWritten_ok : ∀ x0 x1 x2 x3 x4 s, Ok (.regs :: .snap :: .staged :: .bad :: .replies :: .guards :: .hostPair :: .trioPair :: .mgsPair :: .canPair :: .ticks :: .free :: .trioQ :: .emcyQ :: .logQ :: .logWin :: .legs :: .coils :: .coaches :: .trips :: .runs :: .axes :: .pl :: .power :: .syncOut :: .encs :: .stepLast :: .stepDir :: .sds :: .afe :: .trio :: .mgs :: .net :: .sph :: .spm :: .nvm :: []) s (@blockWritten x0 x1 x2 x3 x4 s) := by
  intro x0 x1 x2 x3 x4 s
  delta blockWritten
  extract_lets +onlyGivenNames -merge -useContext s0
  clear_value s0
  split
  · refine Ok.via (gctlWritten_ok ..) rfl ?_
    exact Ok.refl
  · refine Ok.via (axWritten_ok ..) rfl ?_
    exact Ok.refl
  · refine Ok.via (coachWritten_ok ..) rfl ?_
    exact Ok.refl
  · refine Ok.via (coachWritten_ok ..) rfl ?_
    exact Ok.refl
  · refine Ok.via (coachWritten_ok ..) rfl ?_
    exact Ok.refl
  · refine Ok.via (waveWritten_ok ..) rfl ?_
    exact Ok.refl
  · refine Ok.via (feedbackWritten_ok ..) rfl ?_
    exact Ok.refl
  · refine Ok.via (feedbackWritten_ok ..) rfl ?_
    exact Ok.refl
  · refine Ok.via (afeWritten_ok ..) rfl ?_
    exact Ok.refl
  · refine Ok.via (afeWritten_ok ..) rfl ?_
    exact Ok.refl
  · refine Ok.via (evWritten_ok ..) rfl ?_
    exact Ok.refl
  · refine Ok.via (bitmapWritten_ok ..) rfl ?_
    refine Ok.via (plWritten_ok ..) rfl ?_
    exact Ok.refl
  · refine Ok.via (netWritten_ok ..) rfl ?_
    exact Ok.refl
  · refine Ok.via (sphWritten_ok ..) rfl ?_
    exact Ok.refl
  · refine Ok.via (spmWritten_ok ..) rfl ?_
    exact Ok.refl
  · refine Ok.via (mgsWritten_ok ..) rfl ?_
    exact Ok.refl
  · exact Ok.refl

theorem channelOff_ok : ∀ x0 s, Ok [.staged, .reg .ENC_CFG, .reg .STEP_CFG] s (@channelOff x0 s) := by
  intro x0 s
  delta channelOff
  extract_lets +onlyGivenNames -merge -useContext s0
  clear_value s0
  extract_lets +onlyGivenNames -merge -useContext s1
  clear_value s1
  refine Ok.ite ?_ ?_
  · refine Ok.via (State.setStaged_ok ..) rfl ?_
    refine Ok.via (State.put_at (at_ENC_CFG _)) rfl ?_
    exact Ok.refl
  · refine Ok.via (State.setStaged_ok ..) rfl ?_
    refine Ok.via (State.put_at (at_STEP_CFG _)) rfl ?_
    exact Ok.refl

theorem axisParity_ok : ∀ x0 s, Ok (.trioQ :: .emcyQ :: .logQ :: .logWin :: .coaches :: .axes :: .pl :: .reg .AXALERT :: .reg .AXEN :: .reg .AX_ACC :: .reg .AX_EPFS :: .reg .AX_FLTCNT :: .reg .AX_FLTSTAT :: .reg .AX_HOMEST :: .reg .AX_MOVEEN :: .reg .AX_SSTAT :: .reg .AX_STALLST :: .reg .AX_STAT :: .reg .AX_USTAT :: .reg .AX_VEL :: .reg .EV_PEND :: .reg .MGS_LOGSTAT :: .reg .PL_ENERGY_HI :: .reg .PL_ENERGY_LO :: .reg .PL_EVINFO :: .reg .PL_MAKESPAN :: .reg .PL_RES :: .reg .PL_RES_EACT :: .reg .PL_RES_END :: .reg .PL_STAT :: []) s (@axisParity x0 s) := by
  intro x0 s
  delta axisParity
  refine Ok.ite ?_ ?_
  · exact Ok.refl
  · extract_lets +onlyGivenNames -merge -useContext s0
    refine Ok.withS (x := s0) ?_ fun h1 => ?_
    · unfold s0
      refine Ok.via (killLegs_ok ..) rfl ?_
      refine Ok.via (faultState_ok ..) rfl ?_
      exact Ok.refl
    clear_value s0
    refine Ok.via (disableNow_ok ..) rfl ?_
    refine Ok.via (State.modMo_ok ..) rfl ?_
    exact h1

theorem paritySafe_ok : ∀ x0 x1 s, Ok [.regs, .staged, .free, .trioQ, .emcyQ, .logQ, .logWin, .legs, .coils, .coaches, .axes, .pl, .sds, .afe, .trio] s (@paritySafe x0 x1 s) := by
  intro x0 x1 s
  delta paritySafe
  split
  · refine Ok.via (axisParity_ok ..) rfl ?_
    exact Ok.refl
  · split
    · exact Ok.refl
    · extract_lets +onlyGivenNames -merge -useContext s0
      refine Ok.withS (x := s0) ?_ fun h1 => ?_
      · unfold s0
        refine Ok.via (State.modCoach_ok ..) rfl ?_
        exact Ok.refl
      clear_value s0
      refine Ok.via (coachFault_ok ..) rfl ?_
      refine Ok.via (coachSafe_ok ..) rfl ?_
      exact h1
  · split
    · exact Ok.refl
    · extract_lets +onlyGivenNames -merge -useContext s2
      refine Ok.withS (x := s2) ?_ fun h3 => ?_
      · unfold s2
        refine Ok.via (State.modCoach_ok ..) rfl ?_
        exact Ok.refl
      clear_value s2
      refine Ok.via (coachFault_ok ..) rfl ?_
      refine Ok.via (coachSafe_ok ..) rfl ?_
      exact h3
  · split
    · exact Ok.refl
    · extract_lets +onlyGivenNames -merge -useContext s4
      refine Ok.withS (x := s4) ?_ fun h5 => ?_
      · unfold s4
        refine Ok.via (State.modCoach_ok ..) rfl ?_
        exact Ok.refl
      clear_value s4
      refine Ok.via (coachFault_ok ..) rfl ?_
      refine Ok.via (coachSafe_ok ..) rfl ?_
      exact h5
  · refine Ok.ite ?_ ?_
    · refine Ok.via (State.modPl_ok ..) rfl ?_
      exact Ok.refl
    · refine Ok.ite ?_ ?_
      · refine Ok.via (State.put_at (at_PL_STAT)) rfl ?_
        refine Ok.via (State.modPl_ok ..) rfl ?_
        exact Ok.refl
      · exact Ok.refl
  · refine Ok.via (channelOff_ok ..) rfl ?_
    exact Ok.refl
  · refine Ok.via (channelOff_ok ..) rfl ?_
    exact Ok.refl
  · refine Ok.via (afeParity_ok ..) rfl ?_
    exact Ok.refl
  · refine Ok.via (afeParity_ok ..) rfl ?_
    exact Ok.refl
  · refine Ok.via (enterSafeParity_ok ..) rfl ?_
    exact Ok.refl
  · exact Ok.refl

theorem noteParity_ok : ∀ x0 s, Ok [.reg .GCTL_PARERR] s (@noteParity x0 s) := by
  intro x0 s
  delta noteParity
  refine Ok.ite ?_ ?_
  · refine Ok.via (State.put_at (at_GCTL_PARERR)) rfl ?_
    exact Ok.refl
  · refine Ok.via (State.put_at (at_GCTL_PARERR)) rfl ?_
    refine Ok.via (State.put_at (at_GCTL_PARERR)) rfl ?_
    exact Ok.refl

theorem recordParity_ok : ∀ x0 s, Ok [.trioQ, .emcyQ, .logQ, .logWin, .reg .EV_PEND, .reg .GCTL_PARERR, .reg .MGS_LOGSTAT] s (@recordParity x0 s) := by
  intro x0 s
  delta recordParity
  refine Ok.via (pend_ok ..) rfl ?_
  refine Ok.via (noteParity_ok ..) rfl ?_
  exact Ok.refl

theorem waveEcc_ok : ∀ x0 x1 x2 s, Ok [.bad, .trioQ, .emcyQ, .logQ, .logWin, .reg .EV_PEND, .reg .GCTL_PARERR, .reg .MGS_LOGSTAT, .reg .WAVE_STAT] s (@waveEcc x0 x1 x2 s) := by
  intro x0 x1 x2 s
  delta waveEcc
  refine Ok.ite ?_ ?_
  · exact Ok.refl
  · refine Ok.ite ?_ ?_
    · refine Ok.via (State.inc_at (at_WAVE_STAT _)) rfl ?_
      exact Ok.refl
    · refine Ok.via (recordParity_ok ..) rfl ?_
      refine Ok.via (State.setBad_ok ..) rfl ?_
      refine Ok.via (State.inc_at (at_WAVE_STAT _)) rfl ?_
      exact Ok.refl

theorem parityFail_ok : ∀ x0 s, Ok [.regs, .staged, .bad, .free, .trioQ, .emcyQ, .logQ, .logWin, .legs, .coils, .coaches, .axes, .pl, .sds, .afe, .trio] s (@parityFail x0 s) := by
  intro x0 s
  delta parityFail
  split
  · exact Ok.refl
  · refine Ok.ite ?_ ?_
    · exact Ok.refl
    · refine Ok.ite ?_ ?_
      · refine Ok.via (waveEcc_ok ..) rfl ?_
        exact Ok.refl
      · refine Ok.via (paritySafe_ok ..) rfl ?_
        refine Ok.via (recordParity_ok ..) rfl ?_
        refine Ok.via (State.setBad_ok ..) rfl ?_
        exact Ok.refl

theorem parityRead_ok : ∀ x0 s, Ok [.regs, .staged, .free, .trioQ, .emcyQ, .logQ, .logWin, .legs, .coils, .coaches, .axes, .pl, .sds, .afe, .trio] s (@parityRead x0 s) := by
  intro x0 s
  delta parityRead
  split
  · exact Ok.refl
  · refine Ok.via (paritySafe_ok ..) rfl ?_
    refine Ok.via (noteParity_ok ..) rfl ?_
    exact Ok.refl

end Sys2Proof.Machine
end

