-- ==== Sys2Proof/Laws/OkBus.lean ====
section
/-!
SUPPORT. Laws/OkBus.lean: for each operation of Machine/Bus.lean, the parts of the state it can change, and that it keeps a
good state good.
-/

namespace Sys2Proof.Machine

set_option Elab.async false

theorem storeWord_ok : ∀ x0 x1 x2 s, Ok [.regs, .staged] s (@storeWord x0 x1 x2 s) := by
  intro x0 x1 x2 s
  delta storeWord
  extract_lets +onlyGivenNames -merge -useContext s0
  clear_value s0
  extract_lets +onlyGivenNames -merge -useContext s1
  clear_value s1
  extract_lets +onlyGivenNames -merge -useContext s2
  clear_value s2
  extract_lets +onlyGivenNames -merge -useContext s3
  refine Ok.withS (x := s3) ?_ fun h4 => ?_
  · unfold s3
    refine Ok.via (State.wr_ok ..) rfl ?_
    exact Ok.refl
  clear_value s3
  refine Ok.ite ?_ ?_
  · exact h4
  · extract_lets +onlyGivenNames -merge -useContext s5
    clear_value s5
    refine Ok.via (State.setStaged_ok ..) rfl ?_
    exact h4

theorem rewritten_ok : ∀ x0 s, Ok [.bad, .coaches] s (@rewritten x0 s) := by
  intro x0 s
  delta rewritten
  extract_lets +onlyGivenNames -merge -useContext s0
  refine Ok.withS (x := s0) ?_ fun h1 => ?_
  · unfold s0
    refine Ok.via (State.setBad_ok ..) rfl ?_
    exact Ok.refl
  clear_value s0
  split
  · exact h1
  · refine Ok.via (State.modCoach_ok ..) rfl ?_
    exact h1

theorem performWrite_ok : ∀ x0 x1 x2 x3 x4 x5 s, Ok (.regs :: .snap :: .staged :: .bad :: .replies :: .guards :: .hostPair :: .trioPair :: .mgsPair :: .canPair :: .ticks :: .free :: .trioQ :: .emcyQ :: .logQ :: .logWin :: .legs :: .coils :: .coaches :: .trips :: .runs :: .axes :: .pl :: .power :: .syncOut :: .encs :: .stepLast :: .stepDir :: .sds :: .afe :: .trio :: .mgs :: .net :: .sph :: .spm :: .nvm :: []) s (@performWrite x0 x1 x2 x3 x4 x5 s) := by
  intro x0 x1 x2 x3 x4 x5 s
  delta performWrite
  refine Ok.via (blockWritten_ok ..) rfl ?_
  refine Ok.via (storeWord_ok ..) rfl ?_
  refine Ok.via (rewritten_ok ..) rfl ?_
  exact Ok.refl

theorem noteMode_ok : ∀ x0 x1 x2 s, Ok [.reg .RK_STAT] s (@noteMode x0 x1 x2 s) := by
  intro x0 x1 x2 s
  delta noteMode
  refine Ok.ite ?_ ?_
  · refine Ok.forEach ?_ ?_
    · intro a0 a1
      refine Ok.ite ?_ ?_
      · refine Ok.via (State.put_at (at_RK_STAT _)) rfl ?_
        exact Ok.refl
      · exact Ok.refl
    · exact Ok.refl
  · exact Ok.refl

theorem submit_ok : ∀ x0 x1 x2 x3 s, Ok [.replies, .coaches] s (@submit x0 x1 x2 x3 s) := by
  intro x0 x1 x2 x3 s
  delta submit
  refine Ok.via (State.answer_ok ..) rfl ?_
  refine Ok.via (State.modCoach_ok ..) rfl ?_
  exact Ok.refl

theorem finishWrite_ok : ∀ x0 x1 x2 x3 x4 s, Ok (.regs :: .snap :: .staged :: .bad :: .replies :: .guards :: .hostPair :: .trioPair :: .mgsPair :: .canPair :: .ticks :: .free :: .trioQ :: .emcyQ :: .logQ :: .logWin :: .legs :: .coils :: .coaches :: .trips :: .runs :: .axes :: .pl :: .power :: .syncOut :: .encs :: .stepLast :: .stepDir :: .sds :: .afe :: .trio :: .mgs :: .net :: .sph :: .spm :: .nvm :: []) s (@finishWrite x0 x1 x2 x3 x4 s) := by
  intro x0 x1 x2 x3 x4 s
  delta finishWrite
  extract_lets +onlyGivenNames -merge -useContext s0
  clear_value s0
  split
  · refine Ok.via (busFail_ok ..) rfl ?_
    exact Ok.refl
  · split
    · extract_lets +onlyGivenNames -merge -useContext s1
      clear_value s1
      refine Ok.ite ?_ ?_
      · refine Ok.via (busFail_ok ..) rfl ?_
        exact Ok.refl
      · extract_lets +onlyGivenNames -merge -useContext s2
        refine Ok.withS (x := s2) ?_ fun h3 => ?_
        · unfold s2
          refine Ok.via (recordClamps_ok ..) rfl ?_
          exact Ok.refl
        clear_value s2
        split
        · refine Ok.via (submit_ok ..) rfl ?_
          refine Ok.via (noteMode_ok ..) rfl ?_
          exact h3
        · refine Ok.via (State.answer_ok ..) rfl ?_
          refine Ok.via (performWrite_ok ..) rfl ?_
          exact h3

theorem State.setGuard_ok : ∀ s x1 x2, Ok [.guards] s (@State.setGuard s x1 x2) := by
  intro s x1 x2
  delta State.setGuard
  refine Ok.via (Ok.guards ?_) rfl ?_
  · exact fun h => Sparse.wf_set h
  exact Ok.refl

theorem guardOpen_ok : ∀ x0 x1 x2 x3 s, Ok [.replies, .guards, .trioQ, .emcyQ, .logQ, .logWin, .power, .reg .EV_PEND, .reg .GCTL_BUSERR, .reg .GCTL_BUSERRADDR, .reg .GCTL_BUSERRCNT, .reg .MGS_LOGSTAT] s (@guardOpen x0 x1 x2 x3 s) := by
  intro x0 x1 x2 x3 s
  delta guardOpen
  extract_lets +onlyGivenNames -merge -useContext s0
  clear_value s0
  refine Ok.ite ?_ ?_
  · refine Ok.via (State.answer_ok ..) rfl ?_
    refine Ok.via (State.setGuard_ok ..) rfl ?_
    exact Ok.refl
  · refine Ok.via (busFail_ok ..) rfl ?_
    exact Ok.refl

theorem guardClose_ok : ∀ x0 x1 x2 x3 x4 s, Ok (.regs :: .snap :: .staged :: .bad :: .replies :: .guards :: .hostPair :: .trioPair :: .mgsPair :: .canPair :: .ticks :: .free :: .trioQ :: .emcyQ :: .logQ :: .logWin :: .legs :: .coils :: .coaches :: .trips :: .runs :: .axes :: .pl :: .power :: .syncOut :: .encs :: .stepLast :: .stepDir :: .sds :: .afe :: .trio :: .mgs :: .net :: .sph :: .spm :: .nvm :: []) s (@guardClose x0 x1 x2 x3 x4 s) := by
  intro x0 x1 x2 x3 x4 s
  delta guardClose
  split
  · refine Ok.via (busFail_ok ..) rfl ?_
    exact Ok.refl
  · refine Ok.ite ?_ ?_
    · refine Ok.via (busFail_ok ..) rfl ?_
      exact Ok.refl
    · extract_lets +onlyGivenNames -merge -useContext s0
      refine Ok.withS (x := s0) ?_ fun h1 => ?_
      · unfold s0
        refine Ok.via (State.setGuard_ok ..) rfl ?_
        exact Ok.refl
      clear_value s0
      refine Ok.ite ?_ ?_
      · refine Ok.via (finishWrite_ok ..) rfl ?_
        exact h1
      · refine Ok.via (busFail_ok ..) rfl ?_
        exact h1

theorem guardTimeout_ok : ∀ x0 s, Ok [.guards, .trioQ, .emcyQ, .logQ, .logWin, .power, .reg .EV_PEND, .reg .GCTL_BUSERR, .reg .GCTL_BUSERRADDR, .reg .GCTL_BUSERRCNT, .reg .MGS_LOGSTAT] s (@guardTimeout x0 s) := by
  intro x0 s
  delta guardTimeout
  split
  · exact Ok.refl
  · refine Ok.via (recordErr_ok ..) rfl ?_
    refine Ok.via (State.setGuard_ok ..) rfl ?_
    exact Ok.refl

theorem dropGuard_ok : ∀ x0 x1 s, Ok [.guards] s (@dropGuard x0 x1 s) := by
  intro x0 x1 s
  delta dropGuard
  split
  · exact Ok.refl
  · refine Ok.ite ?_ ?_
    · refine Ok.via (State.setGuard_ok ..) rfl ?_
      exact Ok.refl
    · exact Ok.refl

theorem wordWrite_ok : ∀ x0 x1 x2 x3 x4 s, Ok (.regs :: .snap :: .staged :: .bad :: .replies :: .guards :: .hostPair :: .trioPair :: .mgsPair :: .canPair :: .ticks :: .free :: .trioQ :: .emcyQ :: .logQ :: .logWin :: .legs :: .coils :: .coaches :: .trips :: .runs :: .axes :: .pl :: .power :: .syncOut :: .encs :: .stepLast :: .stepDir :: .sds :: .afe :: .trio :: .mgs :: .net :: .sph :: .spm :: .nvm :: []) s (@wordWrite x0 x1 x2 x3 x4 s) := by
  intro x0 x1 x2 x3 x4 s
  delta wordWrite
  refine Ok.ite ?_ ?_
  · refine Ok.via (guardClose_ok ..) rfl ?_
    exact Ok.refl
  · refine Ok.ite ?_ ?_
    · refine Ok.via (busFail_ok ..) rfl ?_
      exact Ok.refl
    · refine Ok.ite ?_ ?_
      · refine Ok.via (busFail_ok ..) rfl ?_
        refine Ok.ite ?_ ?_
        · refine Ok.via (dropGuard_ok ..) rfl ?_
          exact Ok.refl
        · exact Ok.refl
      · refine Ok.ite ?_ ?_
        · refine Ok.via (guardOpen_ok ..) rfl ?_
          exact Ok.refl
        · refine Ok.via (finishWrite_ok ..) rfl ?_
          exact Ok.refl

theorem aliasWrite_ok : ∀ x0 x1 x2 x3 x4 s, Ok (.regs :: .snap :: .staged :: .bad :: .replies :: .guards :: .hostPair :: .trioPair :: .mgsPair :: .canPair :: .ticks :: .free :: .trioQ :: .emcyQ :: .logQ :: .logWin :: .legs :: .coils :: .coaches :: .trips :: .runs :: .axes :: .pl :: .power :: .syncOut :: .encs :: .stepLast :: .stepDir :: .sds :: .afe :: .trio :: .mgs :: .net :: .sph :: .spm :: .nvm :: []) s (@aliasWrite x0 x1 x2 x3 x4 s) := by
  intro x0 x1 x2 x3 x4 s
  delta aliasWrite
  extract_lets +onlyGivenNames -merge -useContext s0
  clear_value s0
  split
  · refine Ok.via (busFail_ok ..) rfl ?_
    exact Ok.refl
  · refine Ok.ite ?_ ?_
    · refine Ok.via (busFail_ok ..) rfl ?_
      exact Ok.refl
    · refine Ok.ite ?_ ?_
      · refine Ok.via (busFail_ok ..) rfl ?_
        exact Ok.refl
      · extract_lets +onlyGivenNames -merge -useContext s1
        clear_value s1
        refine Ok.via (wordWrite_ok ..) rfl ?_
        exact Ok.refl

theorem State.setPort_ok : ∀ s x1 x2, Ok [.hostPair, .trioPair, .mgsPair, .canPair] s (@State.setPort s x1 x2) := by
  intro s x1 x2
  delta State.setPort
  split
  · refine Ok.via Ok.hostPair rfl ?_
    exact Ok.refl
  · refine Ok.via Ok.trioPair rfl ?_
    exact Ok.refl
  · refine Ok.via Ok.mgsPair rfl ?_
    exact Ok.refl
  · refine Ok.via Ok.canPair rfl ?_
    exact Ok.refl

theorem seqErr_ok : ∀ x0 s, Ok [.reg .GCTL_SEQERR] s (@seqErr x0 s) := by
  intro x0 s
  delta seqErr
  split
  · refine Ok.via (State.put_at (at_GCTL_SEQERR)) rfl ?_
    exact Ok.refl
  · refine Ok.via (State.put_at (at_GCTL_SEQERR)) rfl ?_
    exact Ok.refl
  · refine Ok.via (State.put_at (at_GCTL_SEQERR)) rfl ?_
    exact Ok.refl
  · exact Ok.refl

theorem stageLo_ok : ∀ x0 x1 x2 s, Ok [.replies, .hostPair, .trioPair, .mgsPair, .canPair, .reg .GCTL_SEQERR] s (@stageLo x0 x1 x2 s) := by
  intro x0 x1 x2 s
  delta stageLo
  extract_lets +onlyGivenNames -merge -useContext s0
  clear_value s0
  extract_lets +onlyGivenNames -merge -useContext s1
  clear_value s1
  refine Ok.via (State.answer_ok ..) rfl ?_
  refine Ok.via (State.setPort_ok ..) rfl ?_
  refine Ok.applyIf ?_ ?_
  · intro a2
    refine Ok.via (seqErr_ok ..) rfl ?_
    exact Ok.refl
  · exact Ok.refl

theorem axPosSet_ok : ∀ x0 x1 s, Ok [.trioQ, .emcyQ, .logQ, .logWin, .axes, .reg .AXALERT, .reg .AX_POS_HI, .reg .AX_POS_LO, .reg .AX_STAT, .reg .AX_WITST, .reg .EV_PEND, .reg .MGS_LOGSTAT] s (@axPosSet x0 x1 s) := by
  intro x0 x1 s
  delta axPosSet
  extract_lets +onlyGivenNames -merge -useContext s0
  refine Ok.withS (x := s0) ?_ fun h1 => ?_
  · unfold s0
    refine Ok.via (State.putPair_at (at_AX_POS_LO _) (hi_AX_POS_LO _)) rfl ?_
    refine Ok.via (State.modMo_ok ..) rfl ?_
    exact Ok.refl
  clear_value s0
  extract_lets +onlyGivenNames -merge -useContext s2
  refine Ok.withS (x := s2) ?_ fun h3 => ?_
  · unfold s2
    refine Ok.via (State.put_at (at_AX_WITST _)) rfl ?_
    refine Ok.via (State.put_at (at_AX_STAT _)) rfl ?_
    exact h1
  clear_value s2
  refine Ok.via (updAlert_ok ..) rfl ?_
  refine Ok.via (State.modSe_ok ..) rfl ?_
  exact h3

theorem performPair_ok : ∀ x0 x1 x2 s, Ok [.regs, .staged, .bad, .trioQ, .emcyQ, .logQ, .logWin, .coaches, .axes, .power] s (@performPair x0 x1 x2 s) := by
  intro x0 x1 x2 s
  delta performPair
  split
  · refine Ok.via (State.modPower_ok ..) rfl ?_
    exact Ok.refl
  · refine Ok.via (axPosSet_ok ..) rfl ?_
    exact Ok.refl
  · extract_lets +onlyGivenNames -merge -useContext s0
    clear_value s0
    extract_lets +onlyGivenNames -merge -useContext s1
    refine Ok.withS (x := s1) ?_ fun h2 => ?_
    · unfold s1
      refine Ok.via (rewritten_ok ..) rfl ?_
      refine Ok.via (rewritten_ok ..) rfl ?_
      exact Ok.refl
    clear_value s1
    refine Ok.ite ?_ ?_
    · refine Ok.via (State.setStaged_ok ..) rfl ?_
      refine Ok.via (State.setStaged_ok ..) rfl ?_
      exact h2
    · refine Ok.via (State.putPair_ok ..) rfl ?_
      exact h2

theorem commitPair_ok : ∀ x0 x1 x2 x3 x4 x5 s, Ok [.regs, .staged, .bad, .replies, .trioQ, .emcyQ, .logQ, .logWin, .coaches, .axes, .power, .net] s (@commitPair x0 x1 x2 x3 x4 x5 s) := by
  intro x0 x1 x2 x3 x4 x5 s
  delta commitPair
  refine Ok.ite ?_ ?_
  · refine Ok.via (busFail_ok ..) rfl ?_
    exact Ok.refl
  · extract_lets +onlyGivenNames -merge -useContext s0
    clear_value s0
    refine Ok.ite ?_ ?_
    · refine Ok.via (busFail_ok ..) rfl ?_
      exact Ok.refl
    · extract_lets +onlyGivenNames -merge -useContext s1
      clear_value s1
      extract_lets +onlyGivenNames -merge -useContext s2
      clear_value s2
      refine Ok.ite ?_ ?_
      · refine Ok.via (busFail_ok ..) rfl ?_
        exact Ok.refl
      · extract_lets +onlyGivenNames -merge -useContext s3
        refine Ok.withS (x := s3) ?_ fun h4 => ?_
        · unfold s3
          refine Ok.ite ?_ ?_
          · exact Ok.refl
          · refine Ok.via (recordClamp_ok ..) rfl ?_
            exact Ok.refl
        clear_value s3
        refine Ok.via (State.answer_ok ..) rfl ?_
        refine Ok.via (performPair_ok ..) rfl ?_
        exact h4

theorem commitHi_ok : ∀ x0 x1 x2 s, Ok [.regs, .staged, .bad, .replies, .hostPair, .trioPair, .mgsPair, .canPair, .trioQ, .emcyQ, .logQ, .logWin, .coaches, .axes, .power, .net] s (@commitHi x0 x1 x2 s) := by
  intro x0 x1 x2 s
  delta commitHi
  extract_lets +onlyGivenNames -merge -useContext s0
  clear_value s0
  split
  · refine Ok.ite ?_ ?_
    · refine Ok.via (commitPair_ok ..) rfl ?_
      refine Ok.via (State.setPort_ok ..) rfl ?_
      exact Ok.refl
    · refine Ok.via (State.answer_ok ..) rfl ?_
      refine Ok.via (seqErr_ok ..) rfl ?_
      exact Ok.refl
  · refine Ok.via (State.answer_ok ..) rfl ?_
    refine Ok.via (seqErr_ok ..) rfl ?_
    exact Ok.refl

theorem busWrite_ok : ∀ x0 x1 x2 x3 s, Ok (.regs :: .snap :: .staged :: .bad :: .replies :: .guards :: .hostPair :: .trioPair :: .mgsPair :: .canPair :: .ticks :: .free :: .trioQ :: .emcyQ :: .logQ :: .logWin :: .legs :: .coils :: .coaches :: .trips :: .runs :: .axes :: .pl :: .power :: .syncOut :: .encs :: .stepLast :: .stepDir :: .sds :: .afe :: .trio :: .mgs :: .net :: .sph :: .spm :: .nvm :: []) s (@busWrite x0 x1 x2 x3 s) := by
  intro x0 x1 x2 x3 s
  delta busWrite
  refine Ok.ite ?_ ?_
  · exact Ok.refl
  · split
    · refine Ok.via (busFail_ok ..) rfl ?_
      exact Ok.refl
    · split
      · refine Ok.via (busFail_ok ..) rfl ?_
        exact Ok.refl
      · refine Ok.via (aliasWrite_ok ..) rfl ?_
        exact Ok.refl
      · split
        · refine Ok.via (stageLo_ok ..) rfl ?_
          exact Ok.refl
        · refine Ok.via (commitHi_ok ..) rfl ?_
          exact Ok.refl
        · refine Ok.ite ?_ ?_
          · refine Ok.via (busFail_ok ..) rfl ?_
            exact Ok.refl
          · refine Ok.via (wordWrite_ok ..) rfl ?_
            exact Ok.refl

theorem regWrite_ok : ∀ x0 x1 x2 s, Ok (.regs :: .snap :: .staged :: .bad :: .replies :: .guards :: .hostPair :: .trioPair :: .mgsPair :: .canPair :: .ticks :: .free :: .trioQ :: .emcyQ :: .logQ :: .logWin :: .legs :: .coils :: .coaches :: .trips :: .runs :: .axes :: .pl :: .power :: .syncOut :: .encs :: .stepLast :: .stepDir :: .sds :: .afe :: .trio :: .mgs :: .net :: .sph :: .spm :: .nvm :: []) s (@regWrite x0 x1 x2 s) := by
  intro x0 x1 x2 s
  delta regWrite
  refine Ok.via (busWrite_ok ..) rfl ?_
  exact Ok.refl

theorem guardedWrite_ok : ∀ x0 x1 x2 s, Ok (.regs :: .snap :: .staged :: .bad :: .replies :: .guards :: .hostPair :: .trioPair :: .mgsPair :: .canPair :: .ticks :: .free :: .trioQ :: .emcyQ :: .logQ :: .logWin :: .legs :: .coils :: .coaches :: .trips :: .runs :: .axes :: .pl :: .power :: .syncOut :: .encs :: .stepLast :: .stepDir :: .sds :: .afe :: .trio :: .mgs :: .net :: .sph :: .spm :: .nvm :: []) s (@guardedWrite x0 x1 x2 s) := by
  intro x0 x1 x2 s
  delta guardedWrite
  extract_lets +onlyGivenNames -merge -useContext s0
  refine Ok.withS (x := s0) ?_ fun h1 => ?_
  · unfold s0
    refine Ok.via (regWrite_ok ..) rfl ?_
    exact Ok.refl
  clear_value s0
  refine Ok.ite ?_ ?_
  · refine Ok.via (regWrite_ok ..) rfl ?_
    exact h1
  · exact h1

theorem readAct_ok : ∀ x0 x1 x2 s, OkP [.free, .sds, .mgs, .spm, .reg .MGS_AUCHAL, .reg .MGS_LOGRPTR, .reg .SD_LINADDR, .reg .SPM_STAT] s (@readAct x0 x1 x2 s) := by
  intro x0 x1 x2 s
  delta readAct
  split
  · refine OkP.via (rxPop_ok ..) rfl ?_
    exact Ok.refl
  · refine OkP.via (logDataRead_ok ..) rfl ?_
    exact Ok.refl
  · refine OkP.ite ?_ ?_
    · extract_lets +onlyGivenNames -merge -useContext s0
      refine OkP.withS (x := s0) ?_ fun h1 => ?_
      · unfold s0
        refine Ok.via (issueHost_ok ..) rfl ?_
        exact Ok.refl
      clear_value s0
      refine OkP.mk ?_
      exact h1
    · refine OkP.mk ?_
      exact Ok.refl
  · refine OkP.mk ?_
    refine Ok.via (afeReadDone_ok ..) rfl ?_
    exact Ok.refl

theorem readLo_ok : ∀ x0 x1 x2 s, Ok [.replies, .hostPair, .trioPair, .mgsPair, .canPair, .sds, .reg .SD_LINADDR] s (@readLo x0 x1 x2 s) := by
  intro x0 x1 x2 s
  delta readLo
  extract_lets +onlyGivenNames -merge -useContext s0
  clear_value s0
  extract_lets +onlyGivenNames -merge -useContext s1
  clear_value s1
  refine Ok.via (State.answer_ok ..) rfl ?_
  refine Ok.via (afeReadDone_ok ..) rfl ?_
  refine Ok.via (State.setPort_ok ..) rfl ?_
  exact Ok.refl

theorem readHi_ok : ∀ x0 x1 x2 s, Ok [.replies, .reg .GCTL_SEQERR] s (@readHi x0 x1 x2 s) := by
  intro x0 x1 x2 s
  delta readHi
  split
  · refine Ok.ite ?_ ?_
    · refine Ok.via (State.answer_ok ..) rfl ?_
      exact Ok.refl
    · refine Ok.via (State.answer_ok ..) rfl ?_
      refine Ok.via (seqErr_ok ..) rfl ?_
      exact Ok.refl
  · refine Ok.via (State.answer_ok ..) rfl ?_
    refine Ok.via (seqErr_ok ..) rfl ?_
    exact Ok.refl

theorem regRead_ok : ∀ x0 x1 x2 s, Ok (.regs :: .staged :: .replies :: .hostPair :: .trioPair :: .mgsPair :: .canPair :: .free :: .trioQ :: .emcyQ :: .logQ :: .logWin :: .legs :: .coils :: .coaches :: .axes :: .pl :: .power :: .sds :: .afe :: .trio :: .mgs :: .spm :: []) s (@regRead x0 x1 x2 s) := by
  intro x0 x1 x2 s
  delta regRead
  extract_lets +onlyGivenNames -merge -useContext s0
  clear_value s0
  refine Ok.ite ?_ ?_
  · refine Ok.via (busFail_ok ..) rfl ?_
    refine Ok.via (parityRead_ok ..) rfl ?_
    exact Ok.refl
  · split
    · refine Ok.via (submit_ok ..) rfl ?_
      exact Ok.refl
    · split
      · refine Ok.via (readLo_ok ..) rfl ?_
        exact Ok.refl
      · refine Ok.via (readHi_ok ..) rfl ?_
        exact Ok.refl
      · refine Ok.ite ?_ ?_
        · refine Ok.via (State.answer_ok ..) rfl ?_
          exact Ok.refl
        · split
          · rename_i t1 e2
            refine Ok.withS (x := t1) (OkP.of_eq e2 ?_) fun h3 => ?_
            · refine OkP.via (readAct_ok ..) rfl ?_
              exact Ok.refl
            refine Ok.via (State.answer_ok ..) rfl ?_
            exact h3

theorem busRead_ok : ∀ x0 x1 x2 s, Ok (.regs :: .staged :: .replies :: .hostPair :: .trioPair :: .mgsPair :: .canPair :: .free :: .trioQ :: .emcyQ :: .logQ :: .logWin :: .legs :: .coils :: .coaches :: .axes :: .pl :: .power :: .sds :: .afe :: .trio :: .mgs :: .spm :: []) s (@busRead x0 x1 x2 s) := by
  intro x0 x1 x2 s
  delta busRead
  refine Ok.ite ?_ ?_
  · exact Ok.refl
  · split
    · refine Ok.via (busFail_ok ..) rfl ?_
      exact Ok.refl
    · split
      · refine Ok.via (xipRead_ok (W' := [.replies, .trioQ, .emcyQ, .logQ, .logWin, .power, .reg .EV_PEND, .reg .GCTL_BUSERR, .reg .GCTL_BUSERRADDR, .reg .GCTL_BUSERRCNT, .reg .MGS_LOGSTAT]) ?_) rfl ?_
        · intro a0
          refine Ok.via (busFail_ok ..) rfl ?_
          exact Ok.refl
        exact Ok.refl
      · extract_lets +onlyGivenNames -merge -useContext s1
        clear_value s1
        refine Ok.ite ?_ ?_
        · refine Ok.via (busFail_ok ..) rfl ?_
          refine Ok.via (parityRead_ok ..) rfl ?_
          exact Ok.refl
        · split
          · refine Ok.via (State.answer_ok ..) rfl ?_
            exact Ok.refl
          · exact Ok.refl
      · refine Ok.via (regRead_ok ..) rfl ?_
        exact Ok.refl

theorem coachApply_ok : ∀ x0 x1 x2 s, Ok (.regs :: .snap :: .staged :: .bad :: .replies :: .guards :: .hostPair :: .trioPair :: .mgsPair :: .canPair :: .ticks :: .free :: .trioQ :: .emcyQ :: .logQ :: .logWin :: .legs :: .coils :: .coaches :: .trips :: .runs :: .axes :: .pl :: .power :: .syncOut :: .encs :: .stepLast :: .stepDir :: .sds :: .afe :: .trio :: .mgs :: .net :: .sph :: .spm :: .nvm :: []) s (@coachApply x0 x1 x2 s) := by
  intro x0 x1 x2 s
  delta coachApply
  extract_lets +onlyGivenNames -merge -useContext s0
  clear_value s0
  split
  · exact Ok.refl
  · refine Ok.via (performWrite_ok ..) rfl ?_
    exact Ok.refl

theorem cfgFrame_ok : ∀ x0 x1 x2 s, Ok (.regs :: .snap :: .staged :: .bad :: .replies :: .guards :: .hostPair :: .trioPair :: .mgsPair :: .canPair :: .ticks :: .free :: .trioQ :: .emcyQ :: .logQ :: .logWin :: .legs :: .coils :: .coaches :: .trips :: .runs :: .axes :: .pl :: .power :: .syncOut :: .encs :: .stepLast :: .stepDir :: .sds :: .afe :: .trio :: .mgs :: .net :: .sph :: .spm :: .nvm :: []) s (@cfgFrame x0 x1 x2 s) := by
  intro x0 x1 x2 s
  delta cfgFrame
  refine Ok.ite ?_ ?_
  · exact Ok.refl
  · split
    · exact Ok.refl
    · refine Ok.ite ?_ ?_
      · exact Ok.refl
      · extract_lets +onlyGivenNames -merge -useContext s0
        clear_value s0
        extract_lets +onlyGivenNames -merge -useContext s1
        refine Ok.withS (x := s1) ?_ fun h2 => ?_
        · unfold s1
          refine Ok.via (State.modCoach_ok ..) rfl ?_
          exact Ok.refl
        clear_value s1
        refine Ok.ite ?_ ?_
        · refine Ok.via (State.modCoach_ok ..) rfl ?_
          exact h2
        · split
          · exact h2
          · extract_lets +onlyGivenNames -merge -useContext s3
            clear_value s3
            extract_lets +onlyGivenNames -merge -useContext s4
            refine Ok.withS (x := s4) ?_ fun h5 => ?_
            · unfold s4
              split
              · refine Ok.ite ?_ ?_
                · exact h2
                · refine Ok.via (coachApply_ok ..) rfl ?_
                  refine Ok.via (gangOffs_ok ..) rfl ?_
                  exact h2
              · exact h2
            clear_value s4
            extract_lets +onlyGivenNames -merge -useContext s6
            clear_value s6
            extract_lets +onlyGivenNames -merge -useContext s7
            clear_value s7
            extract_lets +onlyGivenNames -merge -useContext s8
            clear_value s8
            refine Ok.via (State.modCoach_ok ..) rfl ?_
            exact h5

theorem cfgrFrame_ok : ∀ x0 x1 s, Ok [.replies, .trioQ, .emcyQ, .logQ, .logWin, .coaches, .power, .net, .reg .CO_LINKERR, .reg .EV_PEND, .reg .GCTL_BUSERR, .reg .GCTL_BUSERRADDR, .reg .GCTL_BUSERRCNT, .reg .MGS_LOGSTAT] s (@cfgrFrame x0 x1 s) := by
  intro x0 x1 s
  delta cfgrFrame
  refine Ok.ite ?_ ?_
  · exact Ok.refl
  · split
    · exact Ok.refl
    · split
      · exact Ok.refl
      · extract_lets +onlyGivenNames -merge -useContext s0
        refine Ok.withS (x := s0) ?_ fun h1 => ?_
        · unfold s0
          refine Ok.via (State.modCoach_ok ..) rfl ?_
          exact Ok.refl
        clear_value s0
        refine Ok.ite ?_ ?_
        · refine Ok.via (State.modCoach_ok ..) rfl ?_
          refine Ok.via (discardUp_ok ..) rfl ?_
          exact h1
        · extract_lets +onlyGivenNames -merge -useContext s2
          refine Ok.withS (x := s2) ?_ fun h3 => ?_
          · unfold s2
            refine Ok.via (State.modCoach_ok ..) rfl ?_
            exact h1
          clear_value s2
          refine Ok.via (endExchange_ok ..) rfl ?_
          exact h3

theorem cfgResend_ok : ∀ x0 s, Ok [.replies, .trioQ, .emcyQ, .logQ, .logWin, .coaches, .power, .net, .reg .EV_PEND, .reg .GCTL_BUSERR, .reg .GCTL_BUSERRADDR, .reg .GCTL_BUSERRCNT, .reg .MGS_LOGSTAT] s (@cfgResend x0 s) := by
  intro x0 s
  delta cfgResend
  refine Ok.ite ?_ ?_
  · exact Ok.refl
  · split
    · exact Ok.refl
    · refine Ok.ite ?_ ?_
      · exact Ok.refl
      · refine Ok.ite ?_ ?_
        · refine Ok.via (endExchange_ok ..) rfl ?_
          refine Ok.via (State.modCoach_ok ..) rfl ?_
          exact Ok.refl
        · refine Ok.via (State.modCoach_ok ..) rfl ?_
          exact Ok.refl

theorem tickSnap_ok : ∀ s, Ok [.snap] s (tickSnap s) := by
  intro s
  exact Ok.snap fun h => Sparse.wf_foldl_set _ _ _ (Sparse.wf_foldl_set _ _ _ (Sparse.wf_filter _ h))

end Sys2Proof.Machine
end

