-- ==== Sys2Proof/Laws/Writes.lean ====
section
/-!
SUPPORT. Laws/Writes.lean: what a write that the checks of R72 let pass does: one law for a plain register, one for a guarded
register, and one for a pair.
-/

namespace Sys2Proof.Machine

set_option Elab.async false

theorem Sparse.erase_insert {α : Type} {m : Sparse α} {k : Nat} {v : α} (h : ∀ x ∈ m, x.1 ≠ k) :
    Sparse.erase k (Sparse.insert k v m) = m := by
  induction m with
  | nil => simp [Sparse.insert, Sparse.erase]
  | cons x m ih =>
    obtain ⟨k', v'⟩ := x
    have hk : k' ≠ k := h (k', v') (List.mem_cons_self ..)
    have hm : ∀ x ∈ m, x.1 ≠ k := fun x hx => h x (List.mem_cons_of_mem _ hx)
    have he : Sparse.erase k m = m := by
      rw [Sparse.erase_eq_filter, List.filter_eq_self]
      exact fun x hx => decide_eq_true (hm x hx)
    unfold Sparse.insert
    split
    · simp only [Sparse.erase, if_true, if_neg hk, he]
    · simp only [Sparse.erase, if_neg hk, ih hm]

theorem Sparse.set_set {α : Type} [DecidableEq α] {d : Nat → α} {m : Sparse α} {k : Nat} {v w : α} :
    Sparse.set d (Sparse.set d m k v) k w = Sparse.set d m k w := by
  have h : Sparse.erase k (Sparse.set d m k v) = Sparse.erase k m := by
    unfold Sparse.set
    split
    · rw [Sparse.erase_eq_filter, Sparse.erase_eq_filter, List.filter_filter]
      congr 1
      funext x
      simp
    · exact Sparse.erase_insert Sparse.key_ne_of_mem_erase
  rw [show Sparse.set d (Sparse.set d m k v) k w
      = if w = d k then Sparse.erase k (Sparse.set d m k v) else Sparse.insert k w (Sparse.erase k (Sparse.set d m k v)) from rfl, h]
  rfl

theorem State.setGuard_setGuard {s : State} (a : Nat) (g h : Option GuardWin) : (s.setGuard a g).setGuard a h = s.setGuard a h := by
  simp only [State.setGuard, Sparse.set_set]

theorem State.answer_answer {s : State} (m : Master) (r q : Reply) : (s.answer m r).answer m q = s.answer m q := by
  simp only [State.answer, Sparse.set_set]

/-- A write that passes checks 1 to 3 reaches what stands at its address. -/
theorem State.mayWrite_target {s : State} {m : Master} {addr : Nat} {l : Loc} (h : s.mayWrite m addr) (hl : locate addr = some l)
    (ha : addr < 0x100000) : accessCheck m .word addr true s = .ok (.reg l) := by
  obtain ⟨-, t, ht⟩ := h
  rw [ht]
  have e : targetOf addr = some (.reg l) := by simp [targetOf, ha, hl]
  unfold accessCheck at ht
  dsimp only at ht
  split at ht
  · cases ht
  · split at ht
    · cases ht
    · rw [e] at ht
      dsimp only at ht
      split at ht
      · cases ht
      · split at ht
        · cases ht
        · split at ht
          · cases ht
          · exact ht.symm ▸ rfl

theorem mergeClamps_nil {l : List Clamp} : mergeClamps l [] = l := by
  simp [mergeClamps]

/-- A register without a guard: what follows when every check of R72 lets the write pass, and a check that depends on the state makes
`y` of what was asked. -/
theorem clamped_eq {m : Master} {addr : Nat} {v : Word} {s : State} {l : Loc} {x y : WriteWord} {cl : List Clamp}
    (h : s.mayWrite m addr) (hl : locate addr = some l) (ha : addr < 0x100000) (hp : l.defn.pair = .none) (hc : l.compl = false)
    (hw : l.writable = true) (hr : v &&& reservedBits l.defn = 0) (hg : l.defn.guarded = false)
    (hd : decodeWrite l (s.before l addr) v s = some (x, [])) (hs : stateClamps l x s = (y, cl))
    (hb : blockRefuses l (s.before l addr) (y.val ||| y.act) (dataMask l.defn v) s = false) (he : coachOf addr = none)
    (hq : secRestricts m l v s = false := by rfl) :
    regWrite m addr v s = (performWrite m l addr (s.before l addr) y (dataMask l.defn v)
      (recordClamps addr (mergeClamps [] cl) s)).answer m .done := by
  unfold regWrite busWrite
  rw [s.mayWrite_target h hl ha, h.1]
  dsimp only
  rw [hp, hq]
  simp only [Bool.false_eq_true, if_false]
  unfold wordWrite
  rw [hc, hw, hg, hr]
  simp only [Bool.false_eq_true, if_false, Bool.not_true, ne_eq, not_true_eq_false]
  unfold finishWrite
  dsimp only
  rw [hd]
  dsimp only
  rw [hs]
  dsimp only
  rw [hb, he]
  simp only [Bool.false_eq_true, if_false]

/-- A plain register: what follows when every check of R72 lets the write pass and nothing is clamped. -/
theorem regWrite_eq {m : Master} {addr : Nat} {v : Word} {s : State} {l : Loc} {x : WriteWord} (h : s.mayWrite m addr)
    (hl : locate addr = some l) (ha : addr < 0x100000) (hp : l.defn.pair = .none) (hc : l.compl = false)
    (hw : l.writable = true) (hr : v &&& reservedBits l.defn = 0) (hg : l.defn.guarded = false)
    (hd : decodeWrite l (s.before l addr) v s = some (x, [])) (hs : stateClamps l x s = (x, []))
    (hb : blockRefuses l (s.before l addr) (x.val ||| x.act) (dataMask l.defn v) s = false) (he : coachOf addr = none)
    (hq : secRestricts m l v s = false := by rfl) :
    regWrite m addr v s = (performWrite m l addr (s.before l addr) x (dataMask l.defn v) s).answer m .done := by
  have e := clamped_eq h hl ha hp hc hw hr hg hd hs hb he hq
  rwa [mergeClamps_nil, show recordClamps addr [] s = s from rfl] at e

/-- Checks 1 to 3 do not look at guard windows or answers. -/
theorem accessCheck_guard {m n : Master} {z : AccessSize} {a addr : Nat} {b : Bool} {g : Option GuardWin} {r : Reply} {s : State} :
    accessCheck m z a b ((s.setGuard addr g).answer n r) = accessCheck m z a b s := rfl

/-- The state in which a guarded write is performed: its window is closed. -/
def State.closed (s : State) (m : Master) (addr : Nat) : State := (s.setGuard addr none).answer m .done

/-- A guarded register: what follows when every check of R72 and R76 lets both writes pass and nothing is clamped. -/
theorem guardedWrite_eq {m : Master} {addr : Nat} {v : Word} {s : State} {l : Loc} {x : WriteWord} (h : s.mayGuard m addr)
    (hl : locate addr = some l) (hl' : locate (addr + 4) = some { l with compl := true }) (ha : addr + 4 < 0x100000)
    (hp : l.defn.pair = .none) (hc : l.compl = false) (hw : l.writable = true) (hr : v &&& reservedBits l.defn = 0)
    (hg : l.defn.guarded = true)
    (hd : decodeWrite l ((s.closed m addr).before l addr) v (s.closed m addr) = some (x, []))
    (hs : stateClamps l x (s.closed m addr) = (x, []))
    (hb : blockRefuses l ((s.closed m addr).before l addr) (x.val ||| x.act) (dataMask l.defn v) (s.closed m addr) = false)
    (he : coachOf addr = none) (hq : ∀ w t, secRestricts m l w t = false := by intros; rfl) :
    guardedWrite m addr v s
      = (performWrite m l addr ((s.closed m addr).before l addr) x (dataMask l.defn v) (s.closed m addr)).answer m .done := by
  obtain ⟨h1, h2, h3⟩ := h
  have e1 : regWrite m addr v s = (s.setGuard addr (some ⟨m, v⟩)).answer m .done := by
    unfold regWrite busWrite
    rw [s.mayWrite_target h1 hl (by omega), h1.1]
    dsimp only
    rw [hp, hq]
    simp only [Bool.false_eq_true, if_false]
    unfold wordWrite
    rw [hc, hw, hg, hr]
    simp only [Bool.false_eq_true, if_false, Bool.not_true, ne_eq, not_true_eq_false, if_true]
    unfold guardOpen
    cases e : s.guardAt addr with
    | none => rfl
    | some g => simp [h3 g e]
  unfold guardedWrite
  dsimp only
  rw [e1, State.reply_answer, if_pos rfl]
  unfold regWrite busWrite
  have hv : ((s.setGuard addr (some ⟨m, v⟩)).answer m .done).voterBlocks m = false := h1.1
  rw [accessCheck_guard, s.mayWrite_target h2 hl' ha, hv]
  dsimp only
  rw [hp, show secRestricts m { l with compl := true } (~~~ v) ((s.setGuard addr (some ⟨m, v⟩)).answer m .done) = false from hq _ _]
  simp only [Bool.false_eq_true, if_false]
  unfold wordWrite
  rw [if_pos rfl]
  unfold guardClose
  simp only [Nat.add_sub_cancel]
  have eg : (((s.setGuard addr (some ⟨m, v⟩)).answer m .done).guardAt addr) = some ⟨m, v⟩ := by
    rw [State.answer_guardAt, State.guardAt_setGuard]
  rw [eg]
  dsimp only
  have es : ((s.setGuard addr (some ⟨m, v⟩)).answer m .done).setGuard addr none = s.closed m addr := by
    show ((s.setGuard addr (some ⟨m, v⟩)).setGuard addr none).answer m .done = _
    rw [State.setGuard_setGuard]
    rfl
  have el : ({ blk := l.blk, inst := l.inst, defn := l.defn, copy := l.copy, compl := false } : Loc) = l := by
    rw [← hc]
  rw [es, el, if_neg (by simp), if_pos rfl]
  unfold finishWrite
  dsimp only
  rw [hd]
  dsimp only
  rw [hs]
  dsimp only
  rw [hb, he]
  rfl


/-! ### The fields of a write -/

theorem wordPut_wordField (w : Word) (hi lo : Nat) (h : hi < 32) : wordPut w hi lo (wordField w hi lo) = w := by
  refine BitVec.eq_of_getLsbD_eq fun i _ => ?_
  rw [getLsbD_wordPut _ _ _ _ _ h]
  split
  · rename_i hb
    rw [testBit_wordField, Nat.add_sub_cancel' hb.1]
    simp only [Bool.and_eq_right_iff_imp, decide_eq_true_eq]
    omega
  · rfl

/-- Every field of a register takes its part of `v` as it is. -/
def fieldsFit (fs : List FieldDef) (v : Word) : Bool :=
  fs.all fun f => decide (f.hi < 32) && (decide (f.ty = .ro ∨ f.ty = .w1c)
    || checkField f.chk (f.hi + 1 - f.lo) (wordField v f.hi f.lo) == some (wordField v f.hi f.lo))

/-- Every value of every field is legal. -/
def fieldsAny (fs : List FieldDef) : Bool := fs.all fun f => decide (f.hi < 32) && decide (f.chk = .any)

theorem fieldsFit_any {fs : List FieldDef} (h : fieldsAny fs = true) (v : Word) : fieldsFit fs v = true := by
  refine List.all_eq_true.mpr fun f hf => ?_
  have := List.all_eq_true.mp h f hf
  simp only [Bool.and_eq_true, decide_eq_true_eq] at this
  simp only [Bool.and_eq_true, Bool.or_eq_true, decide_eq_true_eq, beq_iff_eq]
  exact ⟨this.1, .inr (by rw [this.2]; rfl)⟩

theorem checkFields_fit {fs : List FieldDef} {v : Word} (h : fieldsFit fs v = true) : checkFields fs v = some (v, []) := by
  induction fs with
  | nil => rfl
  | cons f fs ih =>
    unfold fieldsFit at h
    rw [List.all_cons, Bool.and_eq_true] at h
    obtain ⟨h1, h2⟩ := h
    simp only [Bool.and_eq_true, Bool.or_eq_true, decide_eq_true_eq, beq_iff_eq] at h1
    unfold checkFields
    rw [ih h2]
    dsimp only
    split
    · rfl
    · rename_i hn
      rw [h1.2.resolve_left hn]
      dsimp only
      rw [wordPut_wordField _ _ _ h1.1, if_pos rfl]

theorem Word.and_zero (w : Word) : w &&& (0 : Word) = 0 := BitVec.and_zero

theorem Word.and_ones (w : Word) : w &&& (0xFFFFFFFF : Word) = w := BitVec.and_allOnes

/-- What a write asks of a register none of whose fields is clamped or related to another. -/
theorem decodeWrite_fit {l : Loc} {old v : Word} {s : State} (hm : l.defn.masked = false) (hf : fieldsFit l.defn.fields v = true)
    (hr : relateFields l old v s = (v, [])) :
    decodeWrite l old v s = some (⟨v &&& l.defn.maskOf FieldDef.isValue, v &&& l.defn.maskOf (fun f => f.ty = .w1c),
      v &&& l.defn.maskOf (fun f => f.ty = .wo)⟩, []) := by
  unfold decodeWrite
  dsimp only
  rw [hm]
  simp only [Bool.false_eq_true, if_false]
  rw [checkFields_fit hf]
  dsimp only
  rw [hr]
  have e : dataMask l.defn v = 0xFFFFFFFF := by
    unfold dataMask
    rw [hm]
    rfl
  rw [e]
  simp only [mergeClamps_nil, Word.and_ones]

theorem relateFields_none {l : Loc} {old v : Word} {s : State} (h : relation l.defn.reg = none) (h0 : l.defn.reg ≠ .AX_RESBAND0)
    (h1 : l.defn.reg ≠ .AX_RESBAND1) : relateFields l old v s = (v, []) := by
  unfold relateFields
  split
  · exact absurd ‹_› h0
  · exact absurd ‹_› h1
  · rw [h]

theorem rewritten_eq {addr : Nat} {s : State} (h : coachOf addr = none) : rewritten addr s = s.setBad addr false := by
  unfold rewritten
  rw [h]

theorem State.rd_wr_rd (s : State) (a b : Nat) : (s.wr a (s.rd a)).rd b = s.rd b := by
  rw [State.rd_wr]
  split
  · rename_i h
    rw [h]
  · rfl

/-- Writing a word with what it holds changes nothing that can be read. -/
theorem State.wr_rd_ok (s : State) (a : Nat) : Ok [] s (s.wr a (s.rd a)) :=
  ⟨⟨fun p _ => by cases p <;> first | rfl | trivial, .inr fun b _ => s.rd_wr_rd a b⟩,
    fun g => { g with regs := Sparse.wf_set g.regs }⟩

theorem Word.zero_and (w : Word) : (0 : Word) &&& w = 0 := BitVec.zero_and

theorem Word.zero_or (w : Word) : (0 : Word) ||| w = w := BitVec.zero_or

theorem Word.or_zero (w : Word) : w ||| (0 : Word) = w := BitVec.or_zero

theorem Word.not_zero : ~~~ (0 : Word) = 0xFFFFFFFF := by decide

theorem Word.not_ones : ~~~ (0xFFFFFFFF : Word) = 0 := by decide

theorem Word.ones_and (w : Word) : (0xFFFFFFFF : Word) &&& w = w := BitVec.allOnes_and

/-- A value whose other bits are 0. -/
theorem Word.and_of_rest {v m : Word} (h : v &&& ~~~ m = 0) : v &&& m = v := by
  refine BitVec.eq_of_getLsbD_eq fun i hi => ?_
  have e : (v &&& ~~~ m).getLsbD i = (0 : Word).getLsbD i := by rw [h]
  simp only [BitVec.getLsbD_and, BitVec.getLsbD_not, hi, decide_true, Bool.true_and, BitVec.ofNat_eq_ofNat, BitVec.getLsbD_zero] at e ⊢
  cases h1 : v.getLsbD i <;> cases h2 : m.getLsbD i <;> simp_all

/-- A register of command fields alone keeps nothing of a write. -/
theorem storeWord_command {l : Loc} {addr : Nat} {c : Word} {s : State} (hv : l.defn.maskOf FieldDef.isValue = 0)
    (hb : l.defn.maskOf FieldDef.buffered = 0) : storeWord l addr ⟨0, 0, c⟩ s = s.wr addr (s.rd addr) := by
  unfold storeWord
  dsimp only
  rw [hv, hb]
  simp only [Word.zero_and, ite_self, if_true, Word.not_zero, Word.and_ones, Word.zero_or]

/-- A command register: what follows when every check lets the command `v` pass. -/
theorem command_eq {m : Master} {addr : Nat} {v : Word} {s : State} {l : Loc} (h : s.mayWrite m addr)
    (hl : locate addr = some l) (ha : addr < 0x100000) (hp : l.defn.pair = .none) (hc : l.compl = false)
    (hw : l.writable = true) (hr : v &&& reservedBits l.defn = 0) (hg : l.defn.guarded = false)
    (hm : l.defn.masked = false) (hf : fieldsFit l.defn.fields v = true) (hx : relation l.defn.reg = none)
    (h0 : l.defn.reg ≠ .AX_RESBAND0 ∧ l.defn.reg ≠ .AX_RESBAND1 ∧ l.defn.reg ≠ .MGS_LOGRPTR ∧ l.defn.reg ≠ .LEG_TEST
      ∧ l.defn.reg ≠ .SPM_CMD ∧ l.defn.reg ≠ .SD_LINDATA)
    (hv : l.defn.maskOf FieldDef.isValue = 0) (hc1 : l.defn.maskOf (fun f => f.ty = .w1c) = 0)
    (hbu : l.defn.maskOf FieldDef.buffered = 0) (hco : coachOf addr = none)
    (hb : blockRefuses l (s.before l addr) (v &&& l.defn.maskOf (fun f => f.ty = .wo)) 0xFFFFFFFF s = false)
    (hq : secRestricts m l v s = false := by rfl) :
    regWrite m addr v s = (blockWritten m l (s.before l addr) ⟨0, 0, v &&& l.defn.maskOf (fun f => f.ty = .wo)⟩ 0xFFFFFFFF
      ((s.setBad addr false).wr addr (s.rd addr))).answer m .done := by
  have hz : ∀ w : Word, w &&& 0 = 0 := fun w => BitVec.and_zero
  have hd := decodeWrite_fit (s := s) (old := s.before l addr) hm hf (relateFields_none hx h0.1 h0.2.1)
  rw [hv, hc1, hz] at hd
  have hdm : dataMask l.defn v = 0xFFFFFFFF := by
    unfold dataMask
    rw [hm]
    rfl
  have hs : stateClamps l ⟨0, 0, v &&& l.defn.maskOf (fun f => f.ty = .wo)⟩ s = (⟨0, 0, v &&& l.defn.maskOf (fun f => f.ty = .wo)⟩, []) := by
    unfold stateClamps
    split
    · exact absurd ‹_› h0.2.2.1
    · exact absurd ‹_› h0.2.2.2.1
    · exact absurd ‹_› h0.2.2.2.2.1
    · exact absurd ‹_› h0.2.2.2.2.2
    · rfl
  rw [regWrite_eq h hl ha hp hc hw hr hg hd hs ?_ hco hq, hdm, performWrite, rewritten_eq hco, storeWord_command hv hbu]
  · rfl
  · rw [hdm]
    have e : (0 : Word) ||| v &&& l.defn.maskOf (fun f => f.ty = .wo) = v &&& l.defn.maskOf (fun f => f.ty = .wo) := BitVec.zero_or
    dsimp only
    rw [e]
    exact hb

/-- What a write of `v` asks of an unmasked register that takes it as it is. -/
def plainWord (d : RegDef) (v : Word) : WriteWord :=
  ⟨v &&& d.maskOf FieldDef.isValue, v &&& d.maskOf (fun f => f.ty = .w1c), v &&& d.maskOf (fun f => f.ty = .wo)⟩

/-- An unmasked register: what follows when every check lets `v` pass and neither its fields nor the state clamp any. -/
theorem plain_clamp {m : Master} {addr : Nat} {v : Word} {s : State} {l : Loc} (h : s.mayWrite m addr)
    (hl : locate addr = some l) (ha : addr < 0x100000) (hp : l.defn.pair = .none) (hc : l.compl = false)
    (hw : l.writable = true) (hr : v &&& reservedBits l.defn = 0) (hg : l.defn.guarded = false)
    (hm : l.defn.masked = false) (hf : fieldsFit l.defn.fields v = true) (hx : relation l.defn.reg = none)
    (h0 : l.defn.reg ≠ .AX_RESBAND0 ∧ l.defn.reg ≠ .AX_RESBAND1)
    (hs : stateClamps l (plainWord l.defn v) s = (plainWord l.defn v, []))
    (hco : coachOf addr = none)
    (hb : blockRefuses l (s.before l addr) ((plainWord l.defn v).val ||| (plainWord l.defn v).act) 0xFFFFFFFF s = false)
    (hq : secRestricts m l v s = false := by rfl) :
    regWrite m addr v s = (blockWritten m l (s.before l addr) (plainWord l.defn v) 0xFFFFFFFF
      (storeWord l addr (plainWord l.defn v) (s.setBad addr false))).answer m .done := by
  have hd := decodeWrite_fit (s := s) (old := s.before l addr) hm hf (relateFields_none hx h0.1 h0.2)
  have hdm : dataMask l.defn v = 0xFFFFFFFF := by
    unfold dataMask
    rw [hm]
    rfl
  rw [regWrite_eq h hl ha hp hc hw hr hg hd hs ?_ hco hq, hdm, performWrite, rewritten_eq hco]
  · rfl
  · rw [hdm]
    exact hb

/-- An unmasked register: what follows when every check lets `v` pass and no field is clamped. -/
theorem plain_eq {m : Master} {addr : Nat} {v : Word} {s : State} {l : Loc} (h : s.mayWrite m addr)
    (hl : locate addr = some l) (ha : addr < 0x100000) (hp : l.defn.pair = .none) (hc : l.compl = false)
    (hw : l.writable = true) (hr : v &&& reservedBits l.defn = 0) (hg : l.defn.guarded = false)
    (hm : l.defn.masked = false) (hf : fieldsFit l.defn.fields v = true) (hx : relation l.defn.reg = none)
    (h0 : l.defn.reg ≠ .AX_RESBAND0 ∧ l.defn.reg ≠ .AX_RESBAND1 ∧ l.defn.reg ≠ .MGS_LOGRPTR ∧ l.defn.reg ≠ .LEG_TEST
      ∧ l.defn.reg ≠ .SPM_CMD ∧ l.defn.reg ≠ .SD_LINDATA)
    (hco : coachOf addr = none)
    (hb : blockRefuses l (s.before l addr) ((plainWord l.defn v).val ||| (plainWord l.defn v).act) 0xFFFFFFFF s = false)
    (hq : secRestricts m l v s = false := by rfl) :
    regWrite m addr v s = (blockWritten m l (s.before l addr) (plainWord l.defn v) 0xFFFFFFFF
      (storeWord l addr (plainWord l.defn v) (s.setBad addr false))).answer m .done := by
  refine plain_clamp h hl ha hp hc hw hr hg hm hf hx ⟨h0.1, h0.2.1⟩ ?_ hco hb hq
  unfold stateClamps
  split
  · exact absurd ‹_› h0.2.2.1
  · exact absurd ‹_› h0.2.2.2.1
  · exact absurd ‹_› h0.2.2.2.2.1
  · exact absurd ‹_› h0.2.2.2.2.2
  · rfl

/-- The word a register without buffered fields holds after a write. -/
theorem storeWord_now {l : Loc} {addr : Nat} {x : WriteWord} {s : State} (h : l.defn.maskOf FieldDef.buffered = 0)
    (hu : unstored l.defn.reg = 0) :
    storeWord l addr x s = s.wr addr (((x.val &&& l.defn.maskOf FieldDef.isValue)
      ||| (s.rd addr &&& ~~~ l.defn.maskOf FieldDef.isValue)) &&& ~~~ x.clr) := by
  unfold storeWord
  dsimp only
  rw [h, hu]
  simp only [ite_self, if_true, Word.not_zero, Word.and_ones]

/-- A register of plain values that take all of `v`. -/
theorem storeWord_value {l : Loc} {addr : Nat} {v k : Word} {s : State} (h : l.defn.maskOf FieldDef.buffered = 0)
    (hu : unstored l.defn.reg = 0) (hm : l.defn.maskOf FieldDef.isValue = k) (hv : v &&& k = v) :
    storeWord l addr ⟨v, 0, 0⟩ s = s.wr addr (v ||| (s.rd addr &&& ~~~ k)) := by
  rw [storeWord_now h hu, hm]
  simp only [hv, Word.not_zero, Word.and_ones]

/-- A register of plain values beside its commands. -/
theorem storeWord_part {l : Loc} {addr : Nat} {v k c : Word} {s : State} (h : l.defn.maskOf FieldDef.buffered = 0)
    (hu : unstored l.defn.reg = 0) (hm : l.defn.maskOf FieldDef.isValue = k) :
    storeWord l addr ⟨v &&& k, 0, c⟩ s = s.wr addr ((v &&& k) ||| (s.rd addr &&& ~~~ k)) := by
  rw [storeWord_now h hu, hm]
  have e : v &&& k &&& k = v &&& k := by rw [BitVec.and_assoc, BitVec.and_self]
  simp only [e, Word.not_zero, Word.and_ones]

/-- A register that is one plain value. -/
theorem storeWord_full {l : Loc} {addr : Nat} {v c : Word} {s : State} (h : l.defn.maskOf FieldDef.buffered = 0)
    (hu : unstored l.defn.reg = 0) (hm : l.defn.maskOf FieldDef.isValue = 0xFFFFFFFF) :
    storeWord l addr ⟨v, 0, c⟩ s = s.wr addr v := by
  rw [storeWord_now h hu, hm]
  simp only [Word.not_zero, Word.not_ones, Word.and_ones, Word.and_zero, Word.or_zero]

/-- A register of bits that writing 1 clears. -/
theorem storeWord_clear {l : Loc} {addr : Nat} {v : Word} {s : State} (h : l.defn.maskOf FieldDef.buffered = 0)
    (hu : unstored l.defn.reg = 0) (hm : l.defn.maskOf FieldDef.isValue = 0) :
    storeWord l addr ⟨0, v, 0⟩ s = s.wr addr (s.rd addr &&& ~~~ v) := by
  rw [storeWord_now h hu, hm]
  simp only [Word.not_zero, Word.and_ones, Word.zero_and, Word.zero_or]

/-- A register none of whose bits is stored: its write acts in another way. -/
theorem storeWord_gone {l : Loc} {addr : Nat} {v c : Word} {s : State} (hu : unstored l.defn.reg = 0xFFFFFFFF) :
    storeWord l addr ⟨v, 0, c⟩ s = s.wr addr (s.rd addr) := by
  unfold storeWord
  dsimp only
  rw [hu]
  simp only [Word.not_ones, Word.and_zero, ite_self, if_true, Word.not_zero, Word.and_ones, Word.zero_or]

/-- A register all of whose value fields are buffered keeps its word, and what is written waits, R73. -/
theorem storeWord_staged {l : Loc} {addr : Nat} {v k : Word} {s : State} (h : l.defn.maskOf FieldDef.buffered = k)
    (hm : l.defn.maskOf FieldDef.isValue = k) (h0 : k ≠ 0) (hu : unstored l.defn.reg = 0) (hk : keptAtOnce l.defn.reg = false)
    (hv : v &&& k = v) :
    storeWord l addr ⟨v, 0, 0⟩ s = (s.wr addr (s.rd addr)).setStaged addr
      ⟨v ||| ((s.stagedAt addr).value &&& ~~~ k), (s.stagedAt addr).mask ||| k⟩ := by
  have e : k &&& ~~~ k = 0 := by simp
  unfold storeWord
  dsimp only
  rw [hk, hu, h, hm]
  simp only [Bool.false_eq_true, if_false, Word.not_zero, Word.and_ones, e, Word.and_zero, Word.zero_or]
  rw [if_neg h0, hv]
  rfl

/-! ### What refuses a write -/

/-- The lock refuses nothing when it is open, R378. -/
theorem lock_open {l : Loc} {old w : Word} {s : State} (h : s.locked = false) : lockRefuses l old w s = false := by
  unfold lockRefuses
  rw [h]
  rfl

/-- The lock says nothing of a register without RWS fields that R378 does not name. -/
theorem lock_none {l : Loc} {old w : Word} {s : State} (h : l.defn.maskOf (fun f => f.ty = .rws) = 0)
    (h1 : l.defn.reg ∉ [RegName.RK_MODE, .LEG_TEST, .GCTL_STORE, .MGS_UPDCTL, .MGS_ALCFG, .WAVE, .PL_CMD]) :
    lockRefuses l old w s = false := by
  have e : ∀ x : Word, x &&& (0 : Word) = 0 := fun x => BitVec.and_zero
  unfold lockRefuses
  dsimp only
  rw [h, e, e]
  split <;> first | (rename_i h2; exact absurd (by rw [h2]; decide) h1) | simp

end Sys2Proof.Machine
end

