-- ==== Sys2Proof/Laws/Regs.lean ====
section
/-!
SUPPORT. Laws/Regs.lean: the registers the commands write and read: their entries in the register maps, and that the address map
finds them at their addresses.
-/

namespace Sys2Proof.Machine

set_option Elab.async false

theorem locate_of {addr : Nat} {b : Block} {i off : Nat} {x : RegDef × Nat × Bool} (hb : blockOf addr = some b)
    (hi : (addr - b.place.1) / b.place.2.2 = i) (ho : (addr - b.place.1) % b.place.2.2 = off) (hc : i < b.place.2.1)
    (hf : findReg b.regs off = some x) : locate addr = some ⟨b, i, x.1, x.2.1, x.2.2⟩ := by
  unfold locate
  rw [hb]
  dsimp only
  rw [hi, ho, hf, if_neg (Nat.not_le.mpr hc)]

theorem blockOf_GCTL {addr : Nat} (h : 0x0 ≤ addr) (h2 : addr < 0x1000) : blockOf addr = some .GCTL := by
  unfold blockOf
  rw [if_pos (by omega)]

theorem blockOf_AX {addr : Nat} (h : 0x10000 ≤ addr) (h2 : addr < 0x20000) : blockOf addr = some .AX := by
  unfold blockOf
  rw [if_neg (by omega)]
  rw [if_neg (by omega)]
  rw [if_pos (by omega)]

theorem blockOf_LEG {addr : Nat} (h : 0x20000 ≤ addr) (h2 : addr < 0x28000) : blockOf addr = some .LEG := by
  unfold blockOf
  rw [if_neg (by omega)]
  rw [if_neg (by omega)]
  rw [if_neg (by omega)]
  rw [if_pos (by omega)]

theorem blockOf_RK {addr : Nat} (h : 0x28000 ≤ addr) (h2 : addr < 0x28800) : blockOf addr = some .RK := by
  unfold blockOf
  rw [if_neg (by omega)]
  rw [if_neg (by omega)]
  rw [if_neg (by omega)]
  rw [if_neg (by omega)]
  rw [if_pos (by omega)]

theorem blockOf_CO {addr : Nat} (h : 0x29000 ≤ addr) (h2 : addr < 0x29400) : blockOf addr = some .CO := by
  unfold blockOf
  rw [if_neg (by omega)]
  rw [if_neg (by omega)]
  rw [if_neg (by omega)]
  rw [if_neg (by omega)]
  rw [if_neg (by omega)]
  rw [if_neg (by omega)]
  rw [if_pos (by omega)]

theorem blockOf_SEG {addr : Nat} (h : 0x30000 ≤ addr) (h2 : addr < 0x40000) : blockOf addr = some .SEG := by
  unfold blockOf
  rw [if_neg (by omega)]
  rw [if_neg (by omega)]
  rw [if_neg (by omega)]
  rw [if_neg (by omega)]
  rw [if_neg (by omega)]
  rw [if_neg (by omega)]
  rw [if_neg (by omega)]
  rw [if_neg (by omega)]
  rw [if_pos (by omega)]

theorem blockOf_WAVE {addr : Nat} (h : 0x40000 ≤ addr) (h2 : addr < 0x44000) : blockOf addr = some .WAVE := by
  unfold blockOf
  rw [if_neg (by omega)]
  rw [if_neg (by omega)]
  rw [if_neg (by omega)]
  rw [if_neg (by omega)]
  rw [if_neg (by omega)]
  rw [if_neg (by omega)]
  rw [if_neg (by omega)]
  rw [if_neg (by omega)]
  rw [if_neg (by omega)]
  rw [if_pos (by omega)]

theorem blockOf_ENC {addr : Nat} (h : 0x50000 ≤ addr) (h2 : addr < 0x50400) : blockOf addr = some .ENC := by
  unfold blockOf
  rw [if_neg (by omega)]
  rw [if_neg (by omega)]
  rw [if_neg (by omega)]
  rw [if_neg (by omega)]
  rw [if_neg (by omega)]
  rw [if_neg (by omega)]
  rw [if_neg (by omega)]
  rw [if_neg (by omega)]
  rw [if_neg (by omega)]
  rw [if_neg (by omega)]
  rw [if_neg (by omega)]
  rw [if_pos (by omega)]

theorem blockOf_STEP {addr : Nat} (h : 0x50400 ≤ addr) (h2 : addr < 0x50600) : blockOf addr = some .STEP := by
  unfold blockOf
  rw [if_neg (by omega)]
  rw [if_neg (by omega)]
  rw [if_neg (by omega)]
  rw [if_neg (by omega)]
  rw [if_neg (by omega)]
  rw [if_neg (by omega)]
  rw [if_neg (by omega)]
  rw [if_neg (by omega)]
  rw [if_neg (by omega)]
  rw [if_neg (by omega)]
  rw [if_neg (by omega)]
  rw [if_neg (by omega)]
  rw [if_pos (by omega)]

theorem blockOf_AFE {addr : Nat} (h : 0x60000 ≤ addr) (h2 : addr < 0x60100) : blockOf addr = some .AFE := by
  unfold blockOf
  rw [if_neg (by omega)]
  rw [if_neg (by omega)]
  rw [if_neg (by omega)]
  rw [if_neg (by omega)]
  rw [if_neg (by omega)]
  rw [if_neg (by omega)]
  rw [if_neg (by omega)]
  rw [if_neg (by omega)]
  rw [if_neg (by omega)]
  rw [if_neg (by omega)]
  rw [if_neg (by omega)]
  rw [if_neg (by omega)]
  rw [if_neg (by omega)]
  rw [if_neg (by omega)]
  rw [if_pos (by omega)]

theorem blockOf_SD {addr : Nat} (h : 0x60100 ≤ addr) (h2 : addr < 0x60300) : blockOf addr = some .SD := by
  unfold blockOf
  rw [if_neg (by omega)]
  rw [if_neg (by omega)]
  rw [if_neg (by omega)]
  rw [if_neg (by omega)]
  rw [if_neg (by omega)]
  rw [if_neg (by omega)]
  rw [if_neg (by omega)]
  rw [if_neg (by omega)]
  rw [if_neg (by omega)]
  rw [if_neg (by omega)]
  rw [if_neg (by omega)]
  rw [if_neg (by omega)]
  rw [if_neg (by omega)]
  rw [if_neg (by omega)]
  rw [if_neg (by omega)]
  rw [if_pos (by omega)]

theorem blockOf_EV {addr : Nat} (h : 0x70000 ≤ addr) (h2 : addr < 0x71000) : blockOf addr = some .EV := by
  unfold blockOf
  rw [if_neg (by omega)]
  rw [if_neg (by omega)]
  rw [if_neg (by omega)]
  rw [if_neg (by omega)]
  rw [if_neg (by omega)]
  rw [if_neg (by omega)]
  rw [if_neg (by omega)]
  rw [if_neg (by omega)]
  rw [if_neg (by omega)]
  rw [if_neg (by omega)]
  rw [if_neg (by omega)]
  rw [if_neg (by omega)]
  rw [if_neg (by omega)]
  rw [if_neg (by omega)]
  rw [if_neg (by omega)]
  rw [if_neg (by omega)]
  rw [if_neg (by omega)]
  rw [if_pos (by omega)]

theorem blockOf_PL {addr : Nat} (h : 0x80000 ≤ addr) (h2 : addr < 0x90000) : blockOf addr = some .PL := by
  unfold blockOf
  rw [if_neg (by omega)]
  rw [if_neg (by omega)]
  rw [if_neg (by omega)]
  rw [if_neg (by omega)]
  rw [if_neg (by omega)]
  rw [if_neg (by omega)]
  rw [if_neg (by omega)]
  rw [if_neg (by omega)]
  rw [if_neg (by omega)]
  rw [if_neg (by omega)]
  rw [if_neg (by omega)]
  rw [if_neg (by omega)]
  rw [if_neg (by omega)]
  rw [if_neg (by omega)]
  rw [if_neg (by omega)]
  rw [if_neg (by omega)]
  rw [if_neg (by omega)]
  rw [if_neg (by omega)]
  rw [if_neg (by omega)]
  rw [if_pos (by omega)]

theorem blockOf_NET {addr : Nat} (h : 0x90000 ≤ addr) (h2 : addr < 0xa0000) : blockOf addr = some .NET := by
  unfold blockOf
  rw [if_neg (by omega)]
  rw [if_neg (by omega)]
  rw [if_neg (by omega)]
  rw [if_neg (by omega)]
  rw [if_neg (by omega)]
  rw [if_neg (by omega)]
  rw [if_neg (by omega)]
  rw [if_neg (by omega)]
  rw [if_neg (by omega)]
  rw [if_neg (by omega)]
  rw [if_neg (by omega)]
  rw [if_neg (by omega)]
  rw [if_neg (by omega)]
  rw [if_neg (by omega)]
  rw [if_neg (by omega)]
  rw [if_neg (by omega)]
  rw [if_neg (by omega)]
  rw [if_neg (by omega)]
  rw [if_neg (by omega)]
  rw [if_neg (by omega)]
  rw [if_pos (by omega)]

theorem blockOf_SPH {addr : Nat} (h : 0xa0000 ≤ addr) (h2 : addr < 0xa0100) : blockOf addr = some .SPH := by
  unfold blockOf
  rw [if_neg (by omega)]
  rw [if_neg (by omega)]
  rw [if_neg (by omega)]
  rw [if_neg (by omega)]
  rw [if_neg (by omega)]
  rw [if_neg (by omega)]
  rw [if_neg (by omega)]
  rw [if_neg (by omega)]
  rw [if_neg (by omega)]
  rw [if_neg (by omega)]
  rw [if_neg (by omega)]
  rw [if_neg (by omega)]
  rw [if_neg (by omega)]
  rw [if_neg (by omega)]
  rw [if_neg (by omega)]
  rw [if_neg (by omega)]
  rw [if_neg (by omega)]
  rw [if_neg (by omega)]
  rw [if_neg (by omega)]
  rw [if_neg (by omega)]
  rw [if_neg (by omega)]
  rw [if_pos (by omega)]

theorem blockOf_SPM {addr : Nat} (h : 0xa0100 ≤ addr) (h2 : addr < 0xb0000) : blockOf addr = some .SPM := by
  unfold blockOf
  rw [if_neg (by omega)]
  rw [if_neg (by omega)]
  rw [if_neg (by omega)]
  rw [if_neg (by omega)]
  rw [if_neg (by omega)]
  rw [if_neg (by omega)]
  rw [if_neg (by omega)]
  rw [if_neg (by omega)]
  rw [if_neg (by omega)]
  rw [if_neg (by omega)]
  rw [if_neg (by omega)]
  rw [if_neg (by omega)]
  rw [if_neg (by omega)]
  rw [if_neg (by omega)]
  rw [if_neg (by omega)]
  rw [if_neg (by omega)]
  rw [if_neg (by omega)]
  rw [if_neg (by omega)]
  rw [if_neg (by omega)]
  rw [if_neg (by omega)]
  rw [if_neg (by omega)]
  rw [if_neg (by omega)]
  rw [if_pos (by omega)]

theorem blockOf_MGS {addr : Nat} (h : 0xb0000 ≤ addr) (h2 : addr < 0xc0000) : blockOf addr = some .MGS := by
  unfold blockOf
  rw [if_neg (by omega)]
  rw [if_neg (by omega)]
  rw [if_neg (by omega)]
  rw [if_neg (by omega)]
  rw [if_neg (by omega)]
  rw [if_neg (by omega)]
  rw [if_neg (by omega)]
  rw [if_neg (by omega)]
  rw [if_neg (by omega)]
  rw [if_neg (by omega)]
  rw [if_neg (by omega)]
  rw [if_neg (by omega)]
  rw [if_neg (by omega)]
  rw [if_neg (by omega)]
  rw [if_neg (by omega)]
  rw [if_neg (by omega)]
  rw [if_neg (by omega)]
  rw [if_neg (by omega)]
  rw [if_neg (by omega)]
  rw [if_neg (by omega)]
  rw [if_neg (by omega)]
  rw [if_neg (by omega)]
  rw [if_neg (by omega)]
  rw [if_pos (by omega)]

/-- The entry of GCTL_SCRATCH. -/
abbrev entry_GCTL_SCRATCH : RegDef :=
  ⟨.GCTL_SCRATCH, 0x008, 1, 0, false, .none, [
    ⟨"DATA", 31, 0, .rw, 0, .any, .now, false⟩]⟩

theorem locate_GCTL_SCRATCH : locate (GCTL_SCRATCH) = some ⟨.GCTL, 0, entry_GCTL_SCRATCH, 0, false⟩ :=
  locate_of (off := 0x8) (x := (entry_GCTL_SCRATCH, 0, false)) (blockOf_GCTL (by decide) (by decide)) (rfl) (rfl)
    (by decide) rfl

/-- The entry of GCTL_BUFHOLD. -/
abbrev entry_GCTL_BUFHOLD : RegDef :=
  ⟨.GCTL_BUFHOLD, 0x024, 1, 0, false, .none, [
    ⟨"MASK", 31, 16, .wo, 0, .any, .now, false⟩,
    ⟨"HOLD", 4, 0, .rwm, 0, .any, .now, false⟩]⟩

theorem locate_GCTL_BUFHOLD : locate (GCTL_BUFHOLD) = some ⟨.GCTL, 0, entry_GCTL_BUFHOLD, 0, false⟩ :=
  locate_of (off := 0x24) (x := (entry_GCTL_BUFHOLD, 0, false)) (blockOf_GCTL (by decide) (by decide)) (rfl) (rfl)
    (by decide) rfl

/-- The entry of GCTL_STORE. -/
abbrev entry_GCTL_STORE : RegDef :=
  ⟨.GCTL_STORE, 0x080, 1, 0, true, .none, [
    ⟨"CMD", 3, 0, .rwg, 0, (.cmd 1 4), .now, false⟩]⟩

theorem locate_GCTL_STORE : locate (GCTL_STORE) = some ⟨.GCTL, 0, entry_GCTL_STORE, 0, false⟩ :=
  locate_of (off := 0x80) (x := (entry_GCTL_STORE, 0, false)) (blockOf_GCTL (by decide) (by decide)) (rfl) (rfl)
    (by decide) rfl

theorem locate_GCTL_STORE_compl : locate (GCTL_STORE + 4) = some ⟨.GCTL, 0, entry_GCTL_STORE, 0, true⟩ :=
  locate_of (off := 0x84) (x := (entry_GCTL_STORE, 0, true)) (blockOf_GCTL (by decide) (by decide)) (rfl) (rfl)
    (by decide) rfl

/-- The entry of GCTL_PWRDOM. -/
abbrev entry_GCTL_PWRDOM : RegDef :=
  ⟨.GCTL_PWRDOM, 0x040, 1, 0, true, .none, [
    ⟨"SWRST", 31, 31, .rwg, 0, .any, .now, false⟩,
    ⟨"FORCE", 11, 8, .rwg, 0, .any, .now, false⟩,
    ⟨"COACH", 7, 4, .rwg, 0, .any, .now, false⟩,
    ⟨"AFE", 0, 0, .rwg, 1, .any, .now, false⟩]⟩

theorem locate_GCTL_PWRDOM : locate (GCTL_PWRDOM) = some ⟨.GCTL, 0, entry_GCTL_PWRDOM, 0, false⟩ :=
  locate_of (off := 0x40) (x := (entry_GCTL_PWRDOM, 0, false)) (blockOf_GCTL (by decide) (by decide)) (rfl) (rfl)
    (by decide) rfl

theorem locate_GCTL_PWRDOM_compl : locate (GCTL_PWRDOM + 4) = some ⟨.GCTL, 0, entry_GCTL_PWRDOM, 0, true⟩ :=
  locate_of (off := 0x44) (x := (entry_GCTL_PWRDOM, 0, true)) (blockOf_GCTL (by decide) (by decide)) (rfl) (rfl)
    (by decide) rfl

/-- The entry of GCTL_RUNCTL. -/
abbrev entry_GCTL_RUNCTL : RegDef :=
  ⟨.GCTL_RUNCTL, 0x04C, 1, 0, false, .none, [
    ⟨"MASK", 31, 16, .wo, 0, .any, .now, false⟩,
    ⟨"WTAMPER", 10, 10, .rwm, 1, .any, .now, false⟩,
    ⟨"WRTC", 9, 9, .rwm, 0, .any, .now, false⟩,
    ⟨"WPIN", 8, 8, .rwm, 1, .any, .now, false⟩,
    ⟨"WSTEP", 7, 7, .rwm, 0, .any, .now, false⟩,
    ⟨"WENC", 6, 6, .rwm, 0, .any, .now, false⟩,
    ⟨"WCAN1", 5, 5, .rwm, 0, .any, .now, false⟩,
    ⟨"WCAN0", 4, 4, .rwm, 0, .any, .now, false⟩,
    ⟨"AUTODOZE", 3, 3, .rwm, 0, .any, .now, false⟩,
    ⟨"REQ", 2, 0, .rwm, 0, .any, .now, false⟩]⟩

theorem locate_GCTL_RUNCTL : locate (GCTL_RUNCTL) = some ⟨.GCTL, 0, entry_GCTL_RUNCTL, 0, false⟩ :=
  locate_of (off := 0x4c) (x := (entry_GCTL_RUNCTL, 0, false)) (blockOf_GCTL (by decide) (by decide)) (rfl) (rfl)
    (by decide) rfl

/-- The entry of AX_CTL. -/
abbrev entry_AX_CTL : RegDef :=
  ⟨.AX_CTL, 0x000, 1, 0, false, .none, [
    ⟨"CMD", 3, 0, .wo, 0, (.cmd 1 7), .axis, false⟩]⟩

theorem locate_AX_CTL (i : Fin 128) : locate (AX_CTL i) = some ⟨.AX, i.val, entry_AX_CTL, 0, false⟩ :=
  locate_of (off := 0x0) (x := (entry_AX_CTL, 0, false)) (blockOf_AX (by simp only [AX_CTL]; omega) (by simp only [AX_CTL]; omega)) (by simp only [AX_CTL, Block.place]; omega) (by simp only [AX_CTL, Block.place]; omega)
    (by simp only [Block.place]; omega) rfl

/-- The entry of AX_LACTL. -/
abbrev entry_AX_LACTL : RegDef :=
  ⟨.AX_LACTL, 0x178, 1, 0, false, .none, [
    ⟨"CLRE", 31, 31, .wo, 0, .any, .axis, false⟩,
    ⟨"CLRS", 30, 30, .wo, 0, .any, .axis, false⟩,
    ⟨"CLRH", 29, 29, .wo, 0, .any, .axis, false⟩,
    ⟨"WITALIGN", 1, 1, .wo, 0, .any, .axis, false⟩,
    ⟨"LEARN", 0, 0, .wo, 0, .any, .axis, false⟩]⟩

theorem locate_AX_LACTL (i : Fin 128) : locate (AX_LACTL i) = some ⟨.AX, i.val, entry_AX_LACTL, 0, false⟩ :=
  locate_of (off := 0x178) (x := (entry_AX_LACTL, 0, false)) (blockOf_AX (by simp only [AX_LACTL]; omega) (by simp only [AX_LACTL]; omega)) (by simp only [AX_LACTL, Block.place]; omega) (by simp only [AX_LACTL, Block.place]; omega)
    (by simp only [Block.place]; omega) rfl

/-- The entry of AX_FLTCTL. -/
abbrev entry_AX_FLTCTL : RegDef :=
  ⟨.AX_FLTCTL, 0x1C8, 1, 0, false, .none, [
    ⟨"LATCH", 1, 1, .wo, 0, .any, .axis, false⟩,
    ⟨"CLR", 0, 0, .wo, 0, .any, .axis, false⟩]⟩

theorem locate_AX_FLTCTL (i : Fin 128) : locate (AX_FLTCTL i) = some ⟨.AX, i.val, entry_AX_FLTCTL, 0, false⟩ :=
  locate_of (off := 0x1c8) (x := (entry_AX_FLTCTL, 0, false)) (blockOf_AX (by simp only [AX_FLTCTL]; omega) (by simp only [AX_FLTCTL]; omega)) (by simp only [AX_FLTCTL, Block.place]; omega) (by simp only [AX_FLTCTL, Block.place]; omega)
    (by simp only [Block.place]; omega) rfl

/-- The entry of AX_TGT_LO. -/
abbrev entry_AX_TGT_LO : RegDef :=
  ⟨.AX_TGT_LO, 0x008, 1, 0, false, .lo, [
    ⟨"TGT", 31, 0, .rwb, 0, .any, .axis, false⟩]⟩

theorem locate_AX_TGT_LO (i : Fin 128) : locate (AX_TGT_LO i) = some ⟨.AX, i.val, entry_AX_TGT_LO, 0, false⟩ :=
  locate_of (off := 0x8) (x := (entry_AX_TGT_LO, 0, false)) (blockOf_AX (by simp only [AX_TGT_LO]; omega) (by simp only [AX_TGT_LO]; omega)) (by simp only [AX_TGT_LO, Block.place]; omega) (by simp only [AX_TGT_LO, Block.place]; omega)
    (by simp only [Block.place]; omega) rfl

/-- The entry of AX_TGT_HI. -/
abbrev entry_AX_TGT_HI : RegDef :=
  ⟨.AX_TGT_HI, 0x00C, 1, 0, false, .hi, [
    ⟨"TGT", 31, 0, .rwb, 0, .any, .axis, false⟩]⟩

theorem locate_AX_TGT_HI (i : Fin 128) : locate (AX_TGT_HI i) = some ⟨.AX, i.val, entry_AX_TGT_HI, 0, false⟩ :=
  locate_of (off := 0xc) (x := (entry_AX_TGT_HI, 0, false)) (blockOf_AX (by simp only [AX_TGT_HI]; omega) (by simp only [AX_TGT_HI]; omega)) (by simp only [AX_TGT_HI, Block.place]; omega) (by simp only [AX_TGT_HI, Block.place]; omega)
    (by simp only [Block.place]; omega) rfl

/-- The entry of AX_POS_LO. -/
abbrev entry_AX_POS_LO : RegDef :=
  ⟨.AX_POS_LO, 0x028, 1, 0, false, .lo, [
    ⟨"POS", 31, 0, .rw, 0, .any, .axis, true⟩]⟩

theorem locate_AX_POS_LO (i : Fin 128) : locate (AX_POS_LO i) = some ⟨.AX, i.val, entry_AX_POS_LO, 0, false⟩ :=
  locate_of (off := 0x28) (x := (entry_AX_POS_LO, 0, false)) (blockOf_AX (by simp only [AX_POS_LO]; omega) (by simp only [AX_POS_LO]; omega)) (by simp only [AX_POS_LO, Block.place]; omega) (by simp only [AX_POS_LO, Block.place]; omega)
    (by simp only [Block.place]; omega) rfl

/-- The entry of AX_POS_HI. -/
abbrev entry_AX_POS_HI : RegDef :=
  ⟨.AX_POS_HI, 0x02C, 1, 0, false, .hi, [
    ⟨"POS", 31, 0, .rw, 0, .any, .axis, true⟩]⟩

theorem locate_AX_POS_HI (i : Fin 128) : locate (AX_POS_HI i) = some ⟨.AX, i.val, entry_AX_POS_HI, 0, false⟩ :=
  locate_of (off := 0x2c) (x := (entry_AX_POS_HI, 0, false)) (blockOf_AX (by simp only [AX_POS_HI]; omega) (by simp only [AX_POS_HI]; omega)) (by simp only [AX_POS_HI, Block.place]; omega) (by simp only [AX_POS_HI, Block.place]; omega)
    (by simp only [Block.place]; omega) rfl

/-- The entry of AX_WAVESEL. -/
abbrev entry_AX_WAVESEL : RegDef :=
  ⟨.AX_WAVESEL, 0x140, 1, 0, false, .none, [
    ⟨"INV", 8, 8, .rws, 0, .any, .axis, false⟩,
    ⟨"TABLE", 2, 0, .rws, 0, .any, .axis, false⟩]⟩

theorem locate_AX_WAVESEL (i : Fin 128) : locate (AX_WAVESEL i) = some ⟨.AX, i.val, entry_AX_WAVESEL, 0, false⟩ :=
  locate_of (off := 0x140) (x := (entry_AX_WAVESEL, 0, false)) (blockOf_AX (by simp only [AX_WAVESEL]; omega) (by simp only [AX_WAVESEL]; omega)) (by simp only [AX_WAVESEL, Block.place]; omega) (by simp only [AX_WAVESEL, Block.place]; omega)
    (by simp only [Block.place]; omega) rfl

/-- The entry of AXEN. -/
abbrev entry_AXEN : RegDef :=
  ⟨.AXEN, 0xF000, 4, 4, false, .none, [
    ⟨"EN", 31, 0, .rw, 0, .any, .axis, false⟩]⟩

theorem find_AXEN : ∀ k : Fin 4, findReg (Block.regs .PL) (0xf000 + 4 * k.val) = some (entry_AXEN, k.val, false) := by decide +kernel

theorem locate_AXEN (k : Fin 4) : locate (AXEN k) = some ⟨.PL, 0, entry_AXEN, k.val, false⟩ :=
  locate_of (off := 0xf000 + 4 * k.val) (x := (entry_AXEN, k.val, false)) (blockOf_PL (by simp only [AXEN]; omega) (by simp only [AXEN]; omega)) (by simp only [AXEN, Block.place]; omega) (by simp only [AXEN, Block.place]; omega)
    (by simp only [Block.place]; omega) (find_AXEN k)

/-- The entry of AXSTART. -/
abbrev entry_AXSTART : RegDef :=
  ⟨.AXSTART, 0xF010, 4, 4, false, .none, [
    ⟨"START", 31, 0, .wo, 0, .any, .axis, false⟩]⟩

theorem find_AXSTART : ∀ k : Fin 4, findReg (Block.regs .PL) (0xf010 + 4 * k.val) = some (entry_AXSTART, k.val, false) := by decide +kernel

theorem locate_AXSTART (k : Fin 4) : locate (AXSTART k) = some ⟨.PL, 0, entry_AXSTART, k.val, false⟩ :=
  locate_of (off := 0xf010 + 4 * k.val) (x := (entry_AXSTART, k.val, false)) (blockOf_PL (by simp only [AXSTART]; omega) (by simp only [AXSTART]; omega)) (by simp only [AXSTART, Block.place]; omega) (by simp only [AXSTART, Block.place]; omega)
    (by simp only [Block.place]; omega) (find_AXSTART k)

/-- The entry of WAVE_CTL. -/
abbrev entry_WAVE_CTL : RegDef :=
  ⟨.WAVE_CTL, 0x404, 1, 0, false, .none, [
    ⟨"LOAD", 0, 0, .rw, 0, .any, .now, false⟩]⟩

theorem locate_WAVE_CTL (i : Fin 8) : locate (WAVE_CTL i) = some ⟨.WAVE, i.val, entry_WAVE_CTL, 0, false⟩ :=
  locate_of (off := 0x404) (x := (entry_WAVE_CTL, 0, false)) (blockOf_WAVE (by simp only [WAVE_CTL]; omega) (by simp only [WAVE_CTL]; omega)) (by simp only [WAVE_CTL, Block.place]; omega) (by simp only [WAVE_CTL, Block.place]; omega)
    (by simp only [Block.place]; omega) rfl

/-- The entry of WAVE. -/
abbrev entry_WAVE : RegDef :=
  ⟨.WAVE, 0x000, 257, 4, false, .none, [
    ⟨"Q", 11, 0, .rw, 0, .any, .now, false⟩]⟩

theorem find_WAVE : ∀ k : Fin 257, findReg (Block.regs .WAVE) (0x0 + 4 * k.val) = some (entry_WAVE, k.val, false) := by decide +kernel

theorem locate_WAVE (i : Fin 8) (k : Fin 257) : locate (WAVE i k) = some ⟨.WAVE, i.val, entry_WAVE, k.val, false⟩ :=
  locate_of (off := 0x0 + 4 * k.val) (x := (entry_WAVE, k.val, false)) (blockOf_WAVE (by simp only [WAVE]; omega) (by simp only [WAVE]; omega)) (by simp only [WAVE, Block.place]; omega) (by simp only [WAVE, Block.place]; omega)
    (by simp only [Block.place]; omega) (find_WAVE k)

/-- The entry of PL_CMD. -/
abbrev entry_PL_CMD : RegDef :=
  ⟨.PL_CMD, 0x000, 1, 0, false, .none, [
    ⟨"SLOT", 15, 8, .wo, 0, .any, .axis, false⟩,
    ⟨"ABQ", 4, 4, .wo, 0, .any, .axis, false⟩,
    ⟨"CMD", 3, 0, .wo, 0, (.cmd 1 8), .axis, false⟩]⟩

theorem locate_PL_CMD : locate (PL_CMD) = some ⟨.PL, 0, entry_PL_CMD, 0, false⟩ :=
  locate_of (off := 0x0) (x := (entry_PL_CMD, 0, false)) (blockOf_PL (by decide) (by decide)) (rfl) (rfl)
    (by decide) rfl

/-- The entry of PL_RCP0. -/
abbrev entry_PL_RCP0 : RegDef :=
  ⟨.PL_RCP0, 0x1000, 128, 16, false, .none, [
    ⟨"WORD", 31, 0, .rw, 0, .any, .axis, false⟩]⟩

theorem find_PL_RCP0 : ∀ k : Fin 128, findReg (Block.regs .PL) (0x1000 + 16 * k.val) = some (entry_PL_RCP0, k.val, false) := by decide +kernel

theorem locate_PL_RCP0 (k : Fin 128) : locate (PL_RCP0 k) = some ⟨.PL, 0, entry_PL_RCP0, k.val, false⟩ :=
  locate_of (off := 0x1000 + 16 * k.val) (x := (entry_PL_RCP0, k.val, false)) (blockOf_PL (by simp only [PL_RCP0]; omega) (by simp only [PL_RCP0]; omega)) (by simp only [PL_RCP0, Block.place]; omega) (by simp only [PL_RCP0, Block.place]; omega)
    (by simp only [Block.place]; omega) (find_PL_RCP0 k)

/-- The entry of PL_RCP1. -/
abbrev entry_PL_RCP1 : RegDef :=
  ⟨.PL_RCP1, 0x1004, 128, 16, false, .none, [
    ⟨"WORD", 31, 0, .rw, 0, .any, .axis, false⟩]⟩

theorem find_PL_RCP1 : ∀ k : Fin 128, findReg (Block.regs .PL) (0x1004 + 16 * k.val) = some (entry_PL_RCP1, k.val, false) := by decide +kernel

theorem locate_PL_RCP1 (k : Fin 128) : locate (PL_RCP1 k) = some ⟨.PL, 0, entry_PL_RCP1, k.val, false⟩ :=
  locate_of (off := 0x1004 + 16 * k.val) (x := (entry_PL_RCP1, k.val, false)) (blockOf_PL (by simp only [PL_RCP1]; omega) (by simp only [PL_RCP1]; omega)) (by simp only [PL_RCP1, Block.place]; omega) (by simp only [PL_RCP1, Block.place]; omega)
    (by simp only [Block.place]; omega) (find_PL_RCP1 k)

/-- The entry of PL_RCP2. -/
abbrev entry_PL_RCP2 : RegDef :=
  ⟨.PL_RCP2, 0x1008, 128, 16, false, .none, [
    ⟨"WORD", 31, 0, .rw, 0, .any, .axis, false⟩]⟩

theorem find_PL_RCP2 : ∀ k : Fin 128, findReg (Block.regs .PL) (0x1008 + 16 * k.val) = some (entry_PL_RCP2, k.val, false) := by decide +kernel

theorem locate_PL_RCP2 (k : Fin 128) : locate (PL_RCP2 k) = some ⟨.PL, 0, entry_PL_RCP2, k.val, false⟩ :=
  locate_of (off := 0x1008 + 16 * k.val) (x := (entry_PL_RCP2, k.val, false)) (blockOf_PL (by simp only [PL_RCP2]; omega) (by simp only [PL_RCP2]; omega)) (by simp only [PL_RCP2, Block.place]; omega) (by simp only [PL_RCP2, Block.place]; omega)
    (by simp only [Block.place]; omega) (find_PL_RCP2 k)

/-- The entry of PL_RCP3. -/
abbrev entry_PL_RCP3 : RegDef :=
  ⟨.PL_RCP3, 0x100C, 128, 16, false, .none, [
    ⟨"WORD", 31, 0, .rw, 0, .any, .axis, false⟩]⟩

theorem find_PL_RCP3 : ∀ k : Fin 128, findReg (Block.regs .PL) (0x100c + 16 * k.val) = some (entry_PL_RCP3, k.val, false) := by decide +kernel

theorem locate_PL_RCP3 (k : Fin 128) : locate (PL_RCP3 k) = some ⟨.PL, 0, entry_PL_RCP3, k.val, false⟩ :=
  locate_of (off := 0x100c + 16 * k.val) (x := (entry_PL_RCP3, k.val, false)) (blockOf_PL (by simp only [PL_RCP3]; omega) (by simp only [PL_RCP3]; omega)) (by simp only [PL_RCP3, Block.place]; omega) (by simp only [PL_RCP3, Block.place]; omega)
    (by simp only [Block.place]; omega) (find_PL_RCP3 k)

/-- The entry of PL_RCPHDR. -/
abbrev entry_PL_RCPHDR : RegDef :=
  ⟨.PL_RCPHDR, 0x090, 4, 4, false, .none, [
    ⟨"HDR", 31, 0, .rw, 0, .any, .axis, false⟩]⟩

theorem find_PL_RCPHDR : ∀ k : Fin 4, findReg (Block.regs .PL) (0x90 + 4 * k.val) = some (entry_PL_RCPHDR, k.val, false) := by decide +kernel

theorem locate_PL_RCPHDR (k : Fin 4) : locate (PL_RCPHDR k) = some ⟨.PL, 0, entry_PL_RCPHDR, k.val, false⟩ :=
  locate_of (off := 0x90 + 4 * k.val) (x := (entry_PL_RCPHDR, k.val, false)) (blockOf_PL (by simp only [PL_RCPHDR]; omega) (by simp only [PL_RCPHDR]; omega)) (by simp only [PL_RCPHDR, Block.place]; omega) (by simp only [PL_RCPHDR, Block.place]; omega)
    (by simp only [Block.place]; omega) (find_PL_RCPHDR k)

/-- The entry of PL_ORD. -/
abbrev entry_PL_ORD : RegDef :=
  ⟨.PL_ORD, 0x800, 128, 4, false, .none, [
    ⟨"ENTRY", 6, 0, .rw, 0, .any, .axis, false⟩]⟩

theorem find_PL_ORD : ∀ k : Fin 128, findReg (Block.regs .PL) (0x800 + 4 * k.val) = some (entry_PL_ORD, k.val, false) := by decide +kernel

theorem locate_PL_ORD (k : Fin 128) : locate (PL_ORD k) = some ⟨.PL, 0, entry_PL_ORD, k.val, false⟩ :=
  locate_of (off := 0x800 + 4 * k.val) (x := (entry_PL_ORD, k.val, false)) (blockOf_PL (by simp only [PL_ORD]; omega) (by simp only [PL_ORD]; omega)) (by simp only [PL_ORD, Block.place]; omega) (by simp only [PL_ORD, Block.place]; omega)
    (by simp only [Block.place]; omega) (find_PL_ORD k)

/-- The entry of CMP_CFG. -/
abbrev entry_CMP_CFG : RegDef :=
  ⟨.CMP_CFG, 0x040, 1, 0, false, .none, [
    ⟨"PW", 31, 16, .rws, 0xC8, (.range 4 65535), .axis, false⟩,
    ⟨"AXIS", 14, 8, .rws, 0, .any, .axis, false⟩,
    ⟨"SRC", 4, 4, .rws, 0, .any, .axis, false⟩,
    ⟨"POL", 3, 3, .rws, 0, .any, .axis, false⟩,
    ⟨"CATCHUP", 2, 2, .rws, 0, .any, .axis, false⟩,
    ⟨"DIR", 1, 1, .rws, 0, .any, .axis, false⟩,
    ⟨"ARM", 0, 0, .rwb, 0, .any, .axis, false⟩]⟩

theorem locate_CMP_CFG (i : Fin 8) : locate (CMP_CFG i) = some ⟨.ENC, i.val, entry_CMP_CFG, 0, false⟩ :=
  locate_of (off := 0x40) (x := (entry_CMP_CFG, 0, false)) (blockOf_ENC (by simp only [CMP_CFG]; omega) (by simp only [CMP_CFG]; omega)) (by simp only [CMP_CFG, Block.place]; omega) (by simp only [CMP_CFG, Block.place]; omega)
    (by simp only [Block.place]; omega) rfl

/-- The entry of CMP_POS. -/
abbrev entry_CMP_POS : RegDef :=
  ⟨.CMP_POS, 0x044, 1, 0, false, .none, [
    ⟨"POS", 31, 0, .rw, 0, .any, .axis, true⟩]⟩

theorem locate_CMP_POS (i : Fin 8) : locate (CMP_POS i) = some ⟨.ENC, i.val, entry_CMP_POS, 0, false⟩ :=
  locate_of (off := 0x44) (x := (entry_CMP_POS, 0, false)) (blockOf_ENC (by simp only [CMP_POS]; omega) (by simp only [CMP_POS]; omega)) (by simp only [CMP_POS, Block.place]; omega) (by simp only [CMP_POS, Block.place]; omega)
    (by simp only [Block.place]; omega) rfl

/-- The entry of ENC_CNT. -/
abbrev entry_ENC_CNT : RegDef :=
  ⟨.ENC_CNT, 0x008, 1, 0, false, .none, [
    ⟨"CNT", 31, 0, .rw, 0, .any, .axis, true⟩]⟩

theorem locate_ENC_CNT (i : Fin 8) : locate (ENC_CNT i) = some ⟨.ENC, i.val, entry_ENC_CNT, 0, false⟩ :=
  locate_of (off := 0x8) (x := (entry_ENC_CNT, 0, false)) (blockOf_ENC (by simp only [ENC_CNT]; omega) (by simp only [ENC_CNT]; omega)) (by simp only [ENC_CNT, Block.place]; omega) (by simp only [ENC_CNT, Block.place]; omega)
    (by simp only [Block.place]; omega) rfl

/-- The entry of STEP_CNT. -/
abbrev entry_STEP_CNT : RegDef :=
  ⟨.STEP_CNT, 0x008, 1, 0, false, .none, [
    ⟨"CNT", 31, 0, .rw, 0, .any, .axis, true⟩]⟩

theorem locate_STEP_CNT (i : Fin 8) : locate (STEP_CNT i) = some ⟨.STEP, i.val, entry_STEP_CNT, 0, false⟩ :=
  locate_of (off := 0x8) (x := (entry_STEP_CNT, 0, false)) (blockOf_STEP (by simp only [STEP_CNT]; omega) (by simp only [STEP_CNT]; omega)) (by simp only [STEP_CNT, Block.place]; omega) (by simp only [STEP_CNT, Block.place]; omega)
    (by simp only [Block.place]; omega) rfl

/-- The entry of AFE_IEXC. -/
abbrev entry_AFE_IEXC : RegDef :=
  ⟨.AFE_IEXC, 0x0C0, 1, 0, false, .none, [
    ⟨"MODE1", 26, 25, .rws, 0, (.codedTo 2), .conv, false⟩,
    ⟨"PIN1", 24, 20, .rws, 0, .any, .conv, false⟩,
    ⟨"CODE1", 18, 16, .rws, 0, .any, .conv, false⟩,
    ⟨"MODE0", 10, 9, .rws, 0, (.codedTo 2), .conv, false⟩,
    ⟨"PIN0", 8, 4, .rws, 0, .any, .conv, false⟩,
    ⟨"CODE0", 2, 0, .rws, 0, .any, .conv, false⟩]⟩

theorem locate_AFE_IEXC : locate (AFE_IEXC) = some ⟨.AFE, 0, entry_AFE_IEXC, 0, false⟩ :=
  locate_of (off := 0xc0) (x := (entry_AFE_IEXC, 0, false)) (blockOf_AFE (by decide) (by decide)) (rfl) (rfl)
    (by decide) rfl

/-- The entry of AFE_VEXC. -/
abbrev entry_AFE_VEXC : RegDef :=
  ⟨.AFE_VEXC, 0x0C4, 1, 0, false, .none, [
    ⟨"LEVEL", 1, 1, .rws, 0, .any, .conv, false⟩,
    ⟨"EN", 0, 0, .rws, 0, .any, .conv, false⟩]⟩

theorem locate_AFE_VEXC : locate (AFE_VEXC) = some ⟨.AFE, 0, entry_AFE_VEXC, 0, false⟩ :=
  locate_of (off := 0xc4) (x := (entry_AFE_VEXC, 0, false)) (blockOf_AFE (by decide) (by decide)) (rfl) (rfl)
    (by decide) rfl

/-- The entry of AFE_TDAC. -/
abbrev entry_AFE_TDAC : RegDef :=
  ⟨.AFE_TDAC, 0x0C8, 1, 0, false, .none, [
    ⟨"CODE", 11, 0, .rws, 0, .any, .conv, false⟩]⟩

theorem locate_AFE_TDAC : locate (AFE_TDAC) = some ⟨.AFE, 0, entry_AFE_TDAC, 0, false⟩ :=
  locate_of (off := 0xc8) (x := (entry_AFE_TDAC, 0, false)) (blockOf_AFE (by decide) (by decide)) (rfl) (rfl)
    (by decide) rfl

/-- The entry of SD_CMD. -/
abbrev entry_SD_CMD : RegDef :=
  ⟨.SD_CMD, 0x004, 1, 0, false, .none, [
    ⟨"MASK", 11, 8, .wo, 0, .any, .conv, false⟩,
    ⟨"CMD", 3, 0, .wo, 0, (.cmd 1 6), .conv, false⟩]⟩

theorem locate_SD_CMD (i : Fin 4) : locate (SD_CMD i) = some ⟨.SD, i.val, entry_SD_CMD, 0, false⟩ :=
  locate_of (off := 0x4) (x := (entry_SD_CMD, 0, false)) (blockOf_SD (by simp only [SD_CMD]; omega) (by simp only [SD_CMD]; omega)) (by simp only [SD_CMD, Block.place]; omega) (by simp only [SD_CMD, Block.place]; omega)
    (by simp only [Block.place]; omega) rfl

/-- The entry of SD_CFG. -/
abbrev entry_SD_CFG : RegDef :=
  ⟨.SD_CFG, 0x000, 1, 0, false, .none, [
    ⟨"MOVE", 23, 23, .rws, 1, .any, .conv, false⟩,
    ⟨"ARMAX", 22, 20, .rws, 7, .any, .conv, false⟩,
    ⟨"ARMIN", 18, 16, .rws, 0, .any, .conv, false⟩,
    ⟨"AR", 15, 15, .rws, 0, .any, .conv, false⟩,
    ⟨"RATE", 11, 8, .rws, 6, (.codedTo 11), .conv, false⟩,
    ⟨"FILT", 7, 6, .rws, 0, (.codedTo 2), .conv, false⟩,
    ⟨"REGTRIG", 5, 4, .rws, 1, (.codedTo 2), .conv, false⟩,
    ⟨"CLASS", 1, 1, .rws, 0, .any, .conv, false⟩,
    ⟨"EN", 0, 0, .rw, 0, .any, .conv, false⟩]⟩

theorem locate_SD_CFG (i : Fin 4) : locate (SD_CFG i) = some ⟨.SD, i.val, entry_SD_CFG, 0, false⟩ :=
  locate_of (off := 0x0) (x := (entry_SD_CFG, 0, false)) (blockOf_SD (by simp only [SD_CFG]; omega) (by simp only [SD_CFG]; omega)) (by simp only [SD_CFG, Block.place]; omega) (by simp only [SD_CFG, Block.place]; omega)
    (by simp only [Block.place]; omega) rfl

/-- The entry of SD_LINDATA. -/
abbrev entry_SD_LINDATA : RegDef :=
  ⟨.SD_LINDATA, 0x03C, 1, 0, false, .none, [
    ⟨"DATA", 31, 0, .rws, 0, .any, .conv, false⟩]⟩

theorem locate_SD_LINDATA (i : Fin 4) : locate (SD_LINDATA i) = some ⟨.SD, i.val, entry_SD_LINDATA, 0, false⟩ :=
  locate_of (off := 0x3c) (x := (entry_SD_LINDATA, 0, false)) (blockOf_SD (by simp only [SD_LINDATA]; omega) (by simp only [SD_LINDATA]; omega)) (by simp only [SD_LINDATA, Block.place]; omega) (by simp only [SD_LINDATA, Block.place]; omega)
    (by simp only [Block.place]; omega) rfl

/-- The entry of SD_RESULT. -/
abbrev entry_SD_RESULT : RegDef :=
  ⟨.SD_RESULT, 0x020, 1, 0, false, .lo, [
    ⟨"GAIN", 31, 29, .ro, 0, .any, .conv, false⟩,
    ⟨"BRK", 28, 28, .ro, 0, .any, .conv, false⟩,
    ⟨"OVR", 27, 27, .ro, 0, .any, .conv, false⟩,
    ⟨"SAT", 26, 26, .ro, 0, .any, .conv, false⟩,
    ⟨"CODE", 23, 0, .ro, 0, .any, .conv, false⟩]⟩

theorem locate_SD_RESULT (i : Fin 4) : locate (SD_RESULT i) = some ⟨.SD, i.val, entry_SD_RESULT, 0, false⟩ :=
  locate_of (off := 0x20) (x := (entry_SD_RESULT, 0, false)) (blockOf_SD (by simp only [SD_RESULT]; omega) (by simp only [SD_RESULT]; omega)) (by simp only [SD_RESULT, Block.place]; omega) (by simp only [SD_RESULT, Block.place]; omega)
    (by simp only [Block.place]; omega) rfl

/-- The entry of SD_INJRESULT. -/
abbrev entry_SD_INJRESULT : RegDef :=
  ⟨.SD_INJRESULT, 0x028, 1, 0, false, .lo, [
    ⟨"GAIN", 31, 29, .ro, 0, .any, .conv, false⟩,
    ⟨"BRK", 28, 28, .ro, 0, .any, .conv, false⟩,
    ⟨"OVR", 27, 27, .ro, 0, .any, .conv, false⟩,
    ⟨"SAT", 26, 26, .ro, 0, .any, .conv, false⟩,
    ⟨"CODE", 23, 0, .ro, 0, .any, .conv, false⟩]⟩

theorem locate_SD_INJRESULT (i : Fin 4) : locate (SD_INJRESULT i) = some ⟨.SD, i.val, entry_SD_INJRESULT, 0, false⟩ :=
  locate_of (off := 0x28) (x := (entry_SD_INJRESULT, 0, false)) (blockOf_SD (by simp only [SD_INJRESULT]; omega) (by simp only [SD_INJRESULT]; omega)) (by simp only [SD_INJRESULT, Block.place]; omega) (by simp only [SD_INJRESULT, Block.place]; omega)
    (by simp only [Block.place]; omega) rfl

/-- The entry of EV_PEND. -/
abbrev entry_EV_PEND : RegDef :=
  ⟨.EV_PEND, 0x000, 4, 4, false, .none, [
    ⟨"PEND", 31, 0, .w1c, 0, .any, .axis, false⟩]⟩

theorem find_EV_PEND : ∀ k : Fin 4, findReg (Block.regs .EV) (0x0 + 4 * k.val) = some (entry_EV_PEND, k.val, false) := by decide +kernel

theorem locate_EV_PEND (k : Fin 4) : locate (EV_PEND k) = some ⟨.EV, 0, entry_EV_PEND, k.val, false⟩ :=
  locate_of (off := 0x0 + 4 * k.val) (x := (entry_EV_PEND, k.val, false)) (blockOf_EV (by simp only [EV_PEND]; omega) (by simp only [EV_PEND]; omega)) (by simp only [EV_PEND, Block.place]; omega) (by simp only [EV_PEND, Block.place]; omega)
    (by simp only [Block.place]; omega) (find_EV_PEND k)

/-- The entry of EV_EN. -/
abbrev entry_EV_EN : RegDef :=
  ⟨.EV_EN, 0x010, 4, 4, false, .none, [
    ⟨"EN", 31, 0, .rw, 0, .any, .axis, false⟩]⟩

theorem find_EV_EN : ∀ k : Fin 4, findReg (Block.regs .EV) (0x10 + 4 * k.val) = some (entry_EV_EN, k.val, false) := by decide +kernel

theorem locate_EV_EN (k : Fin 4) : locate (EV_EN k) = some ⟨.EV, 0, entry_EV_EN, k.val, false⟩ :=
  locate_of (off := 0x10 + 4 * k.val) (x := (entry_EV_EN, k.val, false)) (blockOf_EV (by simp only [EV_EN]; omega) (by simp only [EV_EN]; omega)) (by simp only [EV_EN, Block.place]; omega) (by simp only [EV_EN, Block.place]; omega)
    (by simp only [Block.place]; omega) (find_EV_EN k)

/-- The entry of EV_DOORBELL. -/
abbrev entry_EV_DOORBELL : RegDef :=
  ⟨.EV_DOORBELL, 0x050, 1, 0, false, .none, [
    ⟨"RING", 0, 0, .wo, 0, .any, .axis, false⟩]⟩

theorem locate_EV_DOORBELL : locate (EV_DOORBELL) = some ⟨.EV, 0, entry_EV_DOORBELL, 0, false⟩ :=
  locate_of (off := 0x50) (x := (entry_EV_DOORBELL, 0, false)) (blockOf_EV (by decide) (by decide)) (rfl) (rfl)
    (by decide) rfl

/-- The entry of NET_CTL. -/
abbrev entry_NET_CTL : RegDef :=
  ⟨.NET_CTL, 0x000, 2, 256, false, .none, [
    ⟨"MASK", 31, 16, .wo, 0, .any, .frame, false⟩,
    ⟨"BRS", 4, 4, .rwm, 1, .any, .frame, false⟩,
    ⟨"FDOE", 3, 3, .rwm, 1, .any, .frame, false⟩,
    ⟨"LISTEN", 2, 2, .rwm, 0, .any, .frame, false⟩,
    ⟨"TDC", 1, 1, .rwm, 1, .any, .frame, false⟩,
    ⟨"EN", 0, 0, .rwm, 0, .any, .frame, false⟩]⟩

theorem find_NET_CTL : ∀ k : Fin 2, findReg (Block.regs .NET) (0x0 + 256 * k.val) = some (entry_NET_CTL, k.val, false) := by decide +kernel

theorem locate_NET_CTL (k : Fin 2) : locate (NET_CTL k) = some ⟨.NET, 0, entry_NET_CTL, k.val, false⟩ :=
  locate_of (off := 0x0 + 256 * k.val) (x := (entry_NET_CTL, k.val, false)) (blockOf_NET (by simp only [NET_CTL]; omega) (by simp only [NET_CTL]; omega)) (by simp only [NET_CTL, Block.place]; omega) (by simp only [NET_CTL, Block.place]; omega)
    (by simp only [Block.place]; omega) (find_NET_CTL k)

/-- The entry of SPM_CMD. -/
abbrev entry_SPM_CMD : RegDef :=
  ⟨.SPM_CMD, 0x010, 1, 0, false, .none, [
    ⟨"GO", 31, 31, .wo, 0, .any, .memIdle, false⟩,
    ⟨"WAIT", 30, 30, .rw, 0, .any, .memIdle, false⟩,
    ⟨"WREN", 29, 29, .rw, 0, .any, .memIdle, false⟩,
    ⟨"DIR", 28, 28, .rw, 0, .any, .memIdle, false⟩,
    ⟨"MODE", 27, 26, .rw, 0, (.codedTo 2), .memIdle, false⟩,
    ⟨"ABYTES", 25, 24, .rw, 0, (.codedTo 2), .memIdle, false⟩,
    ⟨"DUMMY", 23, 20, .rw, 0, .any, .memIdle, false⟩,
    ⟨"LEN", 16, 8, .rw, 0, .any, .memIdle, false⟩,
    ⟨"OPC", 7, 0, .rw, 0, .any, .memIdle, false⟩]⟩

theorem locate_SPM_CMD : locate (SPM_CMD) = some ⟨.SPM, 0, entry_SPM_CMD, 0, false⟩ :=
  locate_of (off := 0x10) (x := (entry_SPM_CMD, 0, false)) (blockOf_SPM (by decide) (by decide)) (rfl) (rfl)
    (by decide) rfl

/-- The entry of SPM_CTL. -/
abbrev entry_SPM_CTL : RegDef :=
  ⟨.SPM_CTL, 0x024, 1, 0, false, .none, [
    ⟨"PROBE", 2, 2, .wo, 0, .any, .memIdle, false⟩,
    ⟨"INV", 1, 1, .wo, 0, .any, .memIdle, false⟩,
    ⟨"FLUSH", 0, 0, .wo, 0, .any, .memIdle, false⟩]⟩

theorem locate_SPM_CTL : locate (SPM_CTL) = some ⟨.SPM, 0, entry_SPM_CTL, 0, false⟩ :=
  locate_of (off := 0x24) (x := (entry_SPM_CTL, 0, false)) (blockOf_SPM (by decide) (by decide)) (rfl) (rfl)
    (by decide) rfl

/-- The entry of SPM_TXFIFO. -/
abbrev entry_SPM_TXFIFO : RegDef :=
  ⟨.SPM_TXFIFO, 0x018, 1, 0, false, .none, [
    ⟨"DATA", 31, 0, .wo, 0, .any, .memIdle, false⟩]⟩

theorem locate_SPM_TXFIFO : locate (SPM_TXFIFO) = some ⟨.SPM, 0, entry_SPM_TXFIFO, 0, false⟩ :=
  locate_of (off := 0x18) (x := (entry_SPM_TXFIFO, 0, false)) (blockOf_SPM (by decide) (by decide)) (rfl) (rfl)
    (by decide) rfl

/-- The entry of SPM_RXFIFO. -/
abbrev entry_SPM_RXFIFO : RegDef :=
  ⟨.SPM_RXFIFO, 0x01C, 1, 0, false, .none, [
    ⟨"DATA", 31, 0, .ro, 0, .any, .memIdle, false⟩]⟩

theorem locate_SPM_RXFIFO : locate (SPM_RXFIFO) = some ⟨.SPM, 0, entry_SPM_RXFIFO, 0, false⟩ :=
  locate_of (off := 0x1c) (x := (entry_SPM_RXFIFO, 0, false)) (blockOf_SPM (by decide) (by decide)) (rfl) (rfl)
    (by decide) rfl

/-- The entry of MGS_LOGRPTR. -/
abbrev entry_MGS_LOGRPTR : RegDef :=
  ⟨.MGS_LOGRPTR, 0x020, 1, 0, false, .none, [
    ⟨"SEQ", 31, 0, .rw, 0, .any, .now, false⟩]⟩

theorem locate_MGS_LOGRPTR : locate (MGS_LOGRPTR) = some ⟨.MGS, 0, entry_MGS_LOGRPTR, 0, false⟩ :=
  locate_of (off := 0x20) (x := (entry_MGS_LOGRPTR, 0, false)) (blockOf_MGS (by decide) (by decide)) (rfl) (rfl)
    (by decide) rfl

/-- The entry of MGS_LOGDATA. -/
abbrev entry_MGS_LOGDATA : RegDef :=
  ⟨.MGS_LOGDATA, 0x02C, 1, 0, false, .none, [
    ⟨"DATA", 31, 0, .ro, 0, .any, .now, false⟩]⟩

theorem locate_MGS_LOGDATA : locate (MGS_LOGDATA) = some ⟨.MGS, 0, entry_MGS_LOGDATA, 0, false⟩ :=
  locate_of (off := 0x2c) (x := (entry_MGS_LOGDATA, 0, false)) (blockOf_MGS (by decide) (by decide)) (rfl) (rfl)
    (by decide) rfl

/-- The entry of MGS_UPDCTL. -/
abbrev entry_MGS_UPDCTL : RegDef :=
  ⟨.MGS_UPDCTL, 0x040, 1, 0, false, .none, [
    ⟨"CMD", 3, 0, .wo, 0, (.cmd 1 6), .now, false⟩]⟩

theorem locate_MGS_UPDCTL : locate (MGS_UPDCTL) = some ⟨.MGS, 0, entry_MGS_UPDCTL, 0, false⟩ :=
  locate_of (off := 0x40) (x := (entry_MGS_UPDCTL, 0, false)) (blockOf_MGS (by decide) (by decide)) (rfl) (rfl)
    (by decide) rfl

/-- The entry of MGS_UPDDATA. -/
abbrev entry_MGS_UPDDATA : RegDef :=
  ⟨.MGS_UPDDATA, 0x04C, 1, 0, false, .none, [
    ⟨"DATA", 31, 0, .wo, 0, .any, .now, false⟩]⟩

theorem locate_MGS_UPDDATA : locate (MGS_UPDDATA) = some ⟨.MGS, 0, entry_MGS_UPDDATA, 0, false⟩ :=
  locate_of (off := 0x4c) (x := (entry_MGS_UPDDATA, 0, false)) (blockOf_MGS (by decide) (by decide)) (rfl) (rfl)
    (by decide) rfl

/-- The entry of MGS_SECCMD. -/
abbrev entry_MGS_SECCMD : RegDef :=
  ⟨.MGS_SECCMD, 0x094, 1, 0, false, .none, [
    ⟨"ARG", 31, 24, .wo, 0, .any, .now, false⟩,
    ⟨"CMD", 3, 0, .wo, 0, (.cmd 1 8), .now, false⟩]⟩

theorem locate_MGS_SECCMD : locate (MGS_SECCMD) = some ⟨.MGS, 0, entry_MGS_SECCMD, 0, false⟩ :=
  locate_of (off := 0x94) (x := (entry_MGS_SECCMD, 0, false)) (blockOf_MGS (by decide) (by decide)) (rfl) (rfl)
    (by decide) rfl

/-- The entry of MGS_AUCHAL. -/
abbrev entry_MGS_AUCHAL : RegDef :=
  ⟨.MGS_AUCHAL, 0x060, 4, 4, false, .none, [
    ⟨"CHAL", 31, 0, .ro, 0, .any, .now, false⟩]⟩

theorem find_MGS_AUCHAL : ∀ k : Fin 4, findReg (Block.regs .MGS) (0x60 + 4 * k.val) = some (entry_MGS_AUCHAL, k.val, false) := by decide +kernel

theorem locate_MGS_AUCHAL (k : Fin 4) : locate (MGS_AUCHAL k) = some ⟨.MGS, 0, entry_MGS_AUCHAL, k.val, false⟩ :=
  locate_of (off := 0x60 + 4 * k.val) (x := (entry_MGS_AUCHAL, k.val, false)) (blockOf_MGS (by simp only [MGS_AUCHAL]; omega) (by simp only [MGS_AUCHAL]; omega)) (by simp only [MGS_AUCHAL, Block.place]; omega) (by simp only [MGS_AUCHAL, Block.place]; omega)
    (by simp only [Block.place]; omega) (find_MGS_AUCHAL k)

/-- The entry of RK_MODE. -/
abbrev entry_RK_MODE : RegDef :=
  ⟨.RK_MODE, 0x000, 1, 0, true, .none, [
    ⟨"MODE1", 3, 2, .rwg, 0, (.codedTo 2), .leg, false⟩,
    ⟨"MODE0", 1, 0, .rwg, 0, (.codedTo 2), .leg, false⟩]⟩

theorem locate_RK_MODE (i : Fin 16) : locate (RK_MODE i) = some ⟨.RK, i.val, entry_RK_MODE, 0, false⟩ :=
  locate_of (off := 0x0) (x := (entry_RK_MODE, 0, false)) (blockOf_RK (by simp only [RK_MODE]; omega) (by simp only [RK_MODE]; omega)) (by simp only [RK_MODE, Block.place]; omega) (by simp only [RK_MODE, Block.place]; omega)
    (by simp only [Block.place]; omega) rfl

theorem locate_RK_MODE_compl (i : Fin 16) : locate (RK_MODE i + 4) = some ⟨.RK, i.val, entry_RK_MODE, 0, true⟩ :=
  locate_of (off := 0x4) (x := (entry_RK_MODE, 0, true)) (blockOf_RK (by simp only [RK_MODE]; omega) (by simp only [RK_MODE]; omega)) (by simp only [RK_MODE, Block.place]; omega) (by simp only [RK_MODE, Block.place]; omega)
    (by simp only [Block.place]; omega) rfl

/-- The entry of LEG_TEST. -/
abbrev entry_LEG_TEST : RegDef :=
  ⟨.LEG_TEST, 0x010, 1, 0, true, .none, [
    ⟨"ONTIME", 15, 4, .rwg, 0, .any, .leg, false⟩,
    ⟨"LSON", 2, 2, .rwg, 0, .any, .leg, false⟩,
    ⟨"HSON", 1, 1, .rwg, 0, .any, .leg, false⟩,
    ⟨"OVR", 0, 0, .rwg, 0, .any, .leg, false⟩]⟩

theorem locate_LEG_TEST (i : Fin 512) : locate (LEG_TEST i) = some ⟨.LEG, i.val, entry_LEG_TEST, 0, false⟩ :=
  locate_of (off := 0x10) (x := (entry_LEG_TEST, 0, false)) (blockOf_LEG (by simp only [LEG_TEST]; omega) (by simp only [LEG_TEST]; omega)) (by simp only [LEG_TEST, Block.place]; omega) (by simp only [LEG_TEST, Block.place]; omega)
    (by simp only [Block.place]; omega) rfl

theorem locate_LEG_TEST_compl (i : Fin 512) : locate (LEG_TEST i + 4) = some ⟨.LEG, i.val, entry_LEG_TEST, 0, true⟩ :=
  locate_of (off := 0x14) (x := (entry_LEG_TEST, 0, true)) (blockOf_LEG (by simp only [LEG_TEST]; omega) (by simp only [LEG_TEST]; omega)) (by simp only [LEG_TEST, Block.place]; omega) (by simp only [LEG_TEST, Block.place]; omega)
    (by simp only [Block.place]; omega) rfl

/-- The entry of RK_FLTCTL. -/
abbrev entry_RK_FLTCTL : RegDef :=
  ⟨.RK_FLTCTL, 0x044, 1, 0, false, .none, [
    ⟨"CLR", 0, 0, .wo, 0, .any, .leg, false⟩]⟩

theorem locate_RK_FLTCTL (i : Fin 16) : locate (RK_FLTCTL i) = some ⟨.RK, i.val, entry_RK_FLTCTL, 0, false⟩ :=
  locate_of (off := 0x44) (x := (entry_RK_FLTCTL, 0, false)) (blockOf_RK (by simp only [RK_FLTCTL]; omega) (by simp only [RK_FLTCTL]; omega)) (by simp only [RK_FLTCTL, Block.place]; omega) (by simp only [RK_FLTCTL, Block.place]; omega)
    (by simp only [Block.place]; omega) rfl

/-- The entry of CO_FLTCTL. -/
abbrev entry_CO_FLTCTL : RegDef :=
  ⟨.CO_FLTCTL, 0x08C, 1, 0, false, .none, [
    ⟨"CLRVM", 1, 1, .wo, 0, .any, .leg, false⟩,
    ⟨"CLR", 0, 0, .wo, 0, .any, .leg, false⟩]⟩

theorem locate_CO_FLTCTL (i : Fin 4) : locate (CO_FLTCTL i) = some ⟨.CO, i.val, entry_CO_FLTCTL, 0, false⟩ :=
  locate_of (off := 0x8c) (x := (entry_CO_FLTCTL, 0, false)) (blockOf_CO (by simp only [CO_FLTCTL]; omega) (by simp only [CO_FLTCTL]; omega)) (by simp only [CO_FLTCTL, Block.place]; omega) (by simp only [CO_FLTCTL, Block.place]; omega)
    (by simp only [Block.place]; omega) rfl

/-- The entry of AX_VMAX. -/
abbrev entry_AX_VMAX : RegDef :=
  ⟨.AX_VMAX, 0x010, 1, 0, false, .none, [
    ⟨"VMAX", 21, 0, .rws, 0x28F5C, (.range 1 3355443), .axis, false⟩]⟩

theorem locate_AX_VMAX (i : Fin 128) : locate (AX_VMAX i) = some ⟨.AX, i.val, entry_AX_VMAX, 0, false⟩ :=
  locate_of (off := 0x10) (x := (entry_AX_VMAX, 0, false)) (blockOf_AX (by simp only [AX_VMAX]; omega) (by simp only [AX_VMAX]; omega)) (by simp only [AX_VMAX, Block.place]; omega) (by simp only [AX_VMAX, Block.place]; omega)
    (by simp only [Block.place]; omega) rfl

/-! ### What their words carry -/

theorem plain_GCTL_SCRATCH (v : Word) : plainWord entry_GCTL_SCRATCH v = ⟨v, 0, 0⟩ := by
  rw [plainWord, show entry_GCTL_SCRATCH.maskOf FieldDef.isValue = 0xffffffff from rfl, show entry_GCTL_SCRATCH.maskOf (fun f => f.ty = .w1c) = 0x0 from rfl,
    show entry_GCTL_SCRATCH.maskOf (fun f => f.ty = .wo) = 0x0 from rfl]
  simp only [Word.and_zero, Word.and_ones]

theorem lock_GCTL_SCRATCH {i k : Nat} {old w : Word} {s : State} : lockRefuses ⟨.GCTL, i, entry_GCTL_SCRATCH, k, false⟩ old w s = false :=
  lock_none rfl (by dsimp only; decide)

theorem plain_GCTL_STORE (v : Word) : plainWord entry_GCTL_STORE v = ⟨v &&& 0xf, 0, 0⟩ := by
  rw [plainWord, show entry_GCTL_STORE.maskOf FieldDef.isValue = 0xf from rfl, show entry_GCTL_STORE.maskOf (fun f => f.ty = .w1c) = 0x0 from rfl,
    show entry_GCTL_STORE.maskOf (fun f => f.ty = .wo) = 0x0 from rfl]
  simp only [Word.and_zero]

theorem plain_GCTL_PWRDOM (v : Word) : plainWord entry_GCTL_PWRDOM v = ⟨v &&& 0x80000ff1, 0, 0⟩ := by
  rw [plainWord, show entry_GCTL_PWRDOM.maskOf FieldDef.isValue = 0x80000ff1 from rfl, show entry_GCTL_PWRDOM.maskOf (fun f => f.ty = .w1c) = 0x0 from rfl,
    show entry_GCTL_PWRDOM.maskOf (fun f => f.ty = .wo) = 0x0 from rfl]
  simp only [Word.and_zero]

theorem lock_GCTL_PWRDOM {i k : Nat} {old w : Word} {s : State} : lockRefuses ⟨.GCTL, i, entry_GCTL_PWRDOM, k, false⟩ old w s = false :=
  lock_none rfl (by dsimp only; decide)

theorem plain_AX_CTL (v : Word) : plainWord entry_AX_CTL v = ⟨0, 0, v &&& 0xf⟩ := by
  rw [plainWord, show entry_AX_CTL.maskOf FieldDef.isValue = 0x0 from rfl, show entry_AX_CTL.maskOf (fun f => f.ty = .w1c) = 0x0 from rfl,
    show entry_AX_CTL.maskOf (fun f => f.ty = .wo) = 0xf from rfl]
  simp only [Word.and_zero]

theorem lock_AX_CTL {i k : Nat} {old w : Word} {s : State} : lockRefuses ⟨.AX, i, entry_AX_CTL, k, false⟩ old w s = false :=
  lock_none rfl (by dsimp only; decide)

theorem plain_AX_LACTL (v : Word) : plainWord entry_AX_LACTL v = ⟨0, 0, v &&& 0xe0000003⟩ := by
  rw [plainWord, show entry_AX_LACTL.maskOf FieldDef.isValue = 0x0 from rfl, show entry_AX_LACTL.maskOf (fun f => f.ty = .w1c) = 0x0 from rfl,
    show entry_AX_LACTL.maskOf (fun f => f.ty = .wo) = 0xe0000003 from rfl]
  simp only [Word.and_zero]

theorem lock_AX_LACTL {i k : Nat} {old w : Word} {s : State} : lockRefuses ⟨.AX, i, entry_AX_LACTL, k, false⟩ old w s = false :=
  lock_none rfl (by dsimp only; decide)

theorem plain_AX_FLTCTL (v : Word) : plainWord entry_AX_FLTCTL v = ⟨0, 0, v &&& 0x3⟩ := by
  rw [plainWord, show entry_AX_FLTCTL.maskOf FieldDef.isValue = 0x0 from rfl, show entry_AX_FLTCTL.maskOf (fun f => f.ty = .w1c) = 0x0 from rfl,
    show entry_AX_FLTCTL.maskOf (fun f => f.ty = .wo) = 0x3 from rfl]
  simp only [Word.and_zero]

theorem lock_AX_FLTCTL {i k : Nat} {old w : Word} {s : State} : lockRefuses ⟨.AX, i, entry_AX_FLTCTL, k, false⟩ old w s = false :=
  lock_none rfl (by dsimp only; decide)

theorem plain_AX_TGT_LO (v : Word) : plainWord entry_AX_TGT_LO v = ⟨v, 0, 0⟩ := by
  rw [plainWord, show entry_AX_TGT_LO.maskOf FieldDef.isValue = 0xffffffff from rfl, show entry_AX_TGT_LO.maskOf (fun f => f.ty = .w1c) = 0x0 from rfl,
    show entry_AX_TGT_LO.maskOf (fun f => f.ty = .wo) = 0x0 from rfl]
  simp only [Word.and_zero, Word.and_ones]

theorem lock_AX_TGT_LO {i k : Nat} {old w : Word} {s : State} : lockRefuses ⟨.AX, i, entry_AX_TGT_LO, k, false⟩ old w s = false :=
  lock_none rfl (by dsimp only; decide)

theorem plain_AX_TGT_HI (v : Word) : plainWord entry_AX_TGT_HI v = ⟨v, 0, 0⟩ := by
  rw [plainWord, show entry_AX_TGT_HI.maskOf FieldDef.isValue = 0xffffffff from rfl, show entry_AX_TGT_HI.maskOf (fun f => f.ty = .w1c) = 0x0 from rfl,
    show entry_AX_TGT_HI.maskOf (fun f => f.ty = .wo) = 0x0 from rfl]
  simp only [Word.and_zero, Word.and_ones]

theorem lock_AX_TGT_HI {i k : Nat} {old w : Word} {s : State} : lockRefuses ⟨.AX, i, entry_AX_TGT_HI, k, false⟩ old w s = false :=
  lock_none rfl (by dsimp only; decide)

theorem plain_AX_POS_LO (v : Word) : plainWord entry_AX_POS_LO v = ⟨v, 0, 0⟩ := by
  rw [plainWord, show entry_AX_POS_LO.maskOf FieldDef.isValue = 0xffffffff from rfl, show entry_AX_POS_LO.maskOf (fun f => f.ty = .w1c) = 0x0 from rfl,
    show entry_AX_POS_LO.maskOf (fun f => f.ty = .wo) = 0x0 from rfl]
  simp only [Word.and_zero, Word.and_ones]

theorem lock_AX_POS_LO {i k : Nat} {old w : Word} {s : State} : lockRefuses ⟨.AX, i, entry_AX_POS_LO, k, false⟩ old w s = false :=
  lock_none rfl (by dsimp only; decide)

theorem plain_AX_POS_HI (v : Word) : plainWord entry_AX_POS_HI v = ⟨v, 0, 0⟩ := by
  rw [plainWord, show entry_AX_POS_HI.maskOf FieldDef.isValue = 0xffffffff from rfl, show entry_AX_POS_HI.maskOf (fun f => f.ty = .w1c) = 0x0 from rfl,
    show entry_AX_POS_HI.maskOf (fun f => f.ty = .wo) = 0x0 from rfl]
  simp only [Word.and_zero, Word.and_ones]

theorem lock_AX_POS_HI {i k : Nat} {old w : Word} {s : State} : lockRefuses ⟨.AX, i, entry_AX_POS_HI, k, false⟩ old w s = false :=
  lock_none rfl (by dsimp only; decide)

theorem plain_AX_WAVESEL (v : Word) : plainWord entry_AX_WAVESEL v = ⟨v &&& 0x107, 0, 0⟩ := by
  rw [plainWord, show entry_AX_WAVESEL.maskOf FieldDef.isValue = 0x107 from rfl, show entry_AX_WAVESEL.maskOf (fun f => f.ty = .w1c) = 0x0 from rfl,
    show entry_AX_WAVESEL.maskOf (fun f => f.ty = .wo) = 0x0 from rfl]
  simp only [Word.and_zero]

theorem plain_AXEN (v : Word) : plainWord entry_AXEN v = ⟨v, 0, 0⟩ := by
  rw [plainWord, show entry_AXEN.maskOf FieldDef.isValue = 0xffffffff from rfl, show entry_AXEN.maskOf (fun f => f.ty = .w1c) = 0x0 from rfl,
    show entry_AXEN.maskOf (fun f => f.ty = .wo) = 0x0 from rfl]
  simp only [Word.and_zero, Word.and_ones]

theorem lock_AXEN {i k : Nat} {old w : Word} {s : State} : lockRefuses ⟨.PL, i, entry_AXEN, k, false⟩ old w s = false :=
  lock_none rfl (by dsimp only; decide)

theorem plain_AXSTART (v : Word) : plainWord entry_AXSTART v = ⟨0, 0, v⟩ := by
  rw [plainWord, show entry_AXSTART.maskOf FieldDef.isValue = 0x0 from rfl, show entry_AXSTART.maskOf (fun f => f.ty = .w1c) = 0x0 from rfl,
    show entry_AXSTART.maskOf (fun f => f.ty = .wo) = 0xffffffff from rfl]
  simp only [Word.and_zero, Word.and_ones]

theorem lock_AXSTART {i k : Nat} {old w : Word} {s : State} : lockRefuses ⟨.PL, i, entry_AXSTART, k, false⟩ old w s = false :=
  lock_none rfl (by dsimp only; decide)

theorem plain_WAVE_CTL (v : Word) : plainWord entry_WAVE_CTL v = ⟨v &&& 0x1, 0, 0⟩ := by
  rw [plainWord, show entry_WAVE_CTL.maskOf FieldDef.isValue = 0x1 from rfl, show entry_WAVE_CTL.maskOf (fun f => f.ty = .w1c) = 0x0 from rfl,
    show entry_WAVE_CTL.maskOf (fun f => f.ty = .wo) = 0x0 from rfl]
  simp only [Word.and_zero]

theorem lock_WAVE_CTL {i k : Nat} {old w : Word} {s : State} : lockRefuses ⟨.WAVE, i, entry_WAVE_CTL, k, false⟩ old w s = false :=
  lock_none rfl (by dsimp only; decide)

theorem plain_WAVE (v : Word) : plainWord entry_WAVE v = ⟨v &&& 0xfff, 0, 0⟩ := by
  rw [plainWord, show entry_WAVE.maskOf FieldDef.isValue = 0xfff from rfl, show entry_WAVE.maskOf (fun f => f.ty = .w1c) = 0x0 from rfl,
    show entry_WAVE.maskOf (fun f => f.ty = .wo) = 0x0 from rfl]
  simp only [Word.and_zero]

theorem plain_PL_CMD (v : Word) : plainWord entry_PL_CMD v = ⟨0, 0, v &&& 0xff1f⟩ := by
  rw [plainWord, show entry_PL_CMD.maskOf FieldDef.isValue = 0x0 from rfl, show entry_PL_CMD.maskOf (fun f => f.ty = .w1c) = 0x0 from rfl,
    show entry_PL_CMD.maskOf (fun f => f.ty = .wo) = 0xff1f from rfl]
  simp only [Word.and_zero]

theorem plain_PL_RCP0 (v : Word) : plainWord entry_PL_RCP0 v = ⟨v, 0, 0⟩ := by
  rw [plainWord, show entry_PL_RCP0.maskOf FieldDef.isValue = 0xffffffff from rfl, show entry_PL_RCP0.maskOf (fun f => f.ty = .w1c) = 0x0 from rfl,
    show entry_PL_RCP0.maskOf (fun f => f.ty = .wo) = 0x0 from rfl]
  simp only [Word.and_zero, Word.and_ones]

theorem lock_PL_RCP0 {i k : Nat} {old w : Word} {s : State} : lockRefuses ⟨.PL, i, entry_PL_RCP0, k, false⟩ old w s = false :=
  lock_none rfl (by dsimp only; decide)

theorem plain_PL_RCP1 (v : Word) : plainWord entry_PL_RCP1 v = ⟨v, 0, 0⟩ := by
  rw [plainWord, show entry_PL_RCP1.maskOf FieldDef.isValue = 0xffffffff from rfl, show entry_PL_RCP1.maskOf (fun f => f.ty = .w1c) = 0x0 from rfl,
    show entry_PL_RCP1.maskOf (fun f => f.ty = .wo) = 0x0 from rfl]
  simp only [Word.and_zero, Word.and_ones]

theorem lock_PL_RCP1 {i k : Nat} {old w : Word} {s : State} : lockRefuses ⟨.PL, i, entry_PL_RCP1, k, false⟩ old w s = false :=
  lock_none rfl (by dsimp only; decide)

theorem plain_PL_RCP2 (v : Word) : plainWord entry_PL_RCP2 v = ⟨v, 0, 0⟩ := by
  rw [plainWord, show entry_PL_RCP2.maskOf FieldDef.isValue = 0xffffffff from rfl, show entry_PL_RCP2.maskOf (fun f => f.ty = .w1c) = 0x0 from rfl,
    show entry_PL_RCP2.maskOf (fun f => f.ty = .wo) = 0x0 from rfl]
  simp only [Word.and_zero, Word.and_ones]

theorem lock_PL_RCP2 {i k : Nat} {old w : Word} {s : State} : lockRefuses ⟨.PL, i, entry_PL_RCP2, k, false⟩ old w s = false :=
  lock_none rfl (by dsimp only; decide)

theorem plain_PL_RCP3 (v : Word) : plainWord entry_PL_RCP3 v = ⟨v, 0, 0⟩ := by
  rw [plainWord, show entry_PL_RCP3.maskOf FieldDef.isValue = 0xffffffff from rfl, show entry_PL_RCP3.maskOf (fun f => f.ty = .w1c) = 0x0 from rfl,
    show entry_PL_RCP3.maskOf (fun f => f.ty = .wo) = 0x0 from rfl]
  simp only [Word.and_zero, Word.and_ones]

theorem lock_PL_RCP3 {i k : Nat} {old w : Word} {s : State} : lockRefuses ⟨.PL, i, entry_PL_RCP3, k, false⟩ old w s = false :=
  lock_none rfl (by dsimp only; decide)

theorem plain_PL_RCPHDR (v : Word) : plainWord entry_PL_RCPHDR v = ⟨v, 0, 0⟩ := by
  rw [plainWord, show entry_PL_RCPHDR.maskOf FieldDef.isValue = 0xffffffff from rfl, show entry_PL_RCPHDR.maskOf (fun f => f.ty = .w1c) = 0x0 from rfl,
    show entry_PL_RCPHDR.maskOf (fun f => f.ty = .wo) = 0x0 from rfl]
  simp only [Word.and_zero, Word.and_ones]

theorem lock_PL_RCPHDR {i k : Nat} {old w : Word} {s : State} : lockRefuses ⟨.PL, i, entry_PL_RCPHDR, k, false⟩ old w s = false :=
  lock_none rfl (by dsimp only; decide)

theorem plain_PL_ORD (v : Word) : plainWord entry_PL_ORD v = ⟨v &&& 0x7f, 0, 0⟩ := by
  rw [plainWord, show entry_PL_ORD.maskOf FieldDef.isValue = 0x7f from rfl, show entry_PL_ORD.maskOf (fun f => f.ty = .w1c) = 0x0 from rfl,
    show entry_PL_ORD.maskOf (fun f => f.ty = .wo) = 0x0 from rfl]
  simp only [Word.and_zero]

theorem lock_PL_ORD {i k : Nat} {old w : Word} {s : State} : lockRefuses ⟨.PL, i, entry_PL_ORD, k, false⟩ old w s = false :=
  lock_none rfl (by dsimp only; decide)

theorem plain_CMP_CFG (v : Word) : plainWord entry_CMP_CFG v = ⟨v &&& 0xffff7f1f, 0, 0⟩ := by
  rw [plainWord, show entry_CMP_CFG.maskOf FieldDef.isValue = 0xffff7f1f from rfl, show entry_CMP_CFG.maskOf (fun f => f.ty = .w1c) = 0x0 from rfl,
    show entry_CMP_CFG.maskOf (fun f => f.ty = .wo) = 0x0 from rfl]
  simp only [Word.and_zero]

theorem plain_CMP_POS (v : Word) : plainWord entry_CMP_POS v = ⟨v, 0, 0⟩ := by
  rw [plainWord, show entry_CMP_POS.maskOf FieldDef.isValue = 0xffffffff from rfl, show entry_CMP_POS.maskOf (fun f => f.ty = .w1c) = 0x0 from rfl,
    show entry_CMP_POS.maskOf (fun f => f.ty = .wo) = 0x0 from rfl]
  simp only [Word.and_zero, Word.and_ones]

theorem lock_CMP_POS {i k : Nat} {old w : Word} {s : State} : lockRefuses ⟨.ENC, i, entry_CMP_POS, k, false⟩ old w s = false :=
  lock_none rfl (by dsimp only; decide)

theorem plain_ENC_CNT (v : Word) : plainWord entry_ENC_CNT v = ⟨v, 0, 0⟩ := by
  rw [plainWord, show entry_ENC_CNT.maskOf FieldDef.isValue = 0xffffffff from rfl, show entry_ENC_CNT.maskOf (fun f => f.ty = .w1c) = 0x0 from rfl,
    show entry_ENC_CNT.maskOf (fun f => f.ty = .wo) = 0x0 from rfl]
  simp only [Word.and_zero, Word.and_ones]

theorem lock_ENC_CNT {i k : Nat} {old w : Word} {s : State} : lockRefuses ⟨.ENC, i, entry_ENC_CNT, k, false⟩ old w s = false :=
  lock_none rfl (by dsimp only; decide)

theorem plain_STEP_CNT (v : Word) : plainWord entry_STEP_CNT v = ⟨v, 0, 0⟩ := by
  rw [plainWord, show entry_STEP_CNT.maskOf FieldDef.isValue = 0xffffffff from rfl, show entry_STEP_CNT.maskOf (fun f => f.ty = .w1c) = 0x0 from rfl,
    show entry_STEP_CNT.maskOf (fun f => f.ty = .wo) = 0x0 from rfl]
  simp only [Word.and_zero, Word.and_ones]

theorem lock_STEP_CNT {i k : Nat} {old w : Word} {s : State} : lockRefuses ⟨.STEP, i, entry_STEP_CNT, k, false⟩ old w s = false :=
  lock_none rfl (by dsimp only; decide)

theorem plain_AFE_IEXC (v : Word) : plainWord entry_AFE_IEXC v = ⟨v &&& 0x7f707f7, 0, 0⟩ := by
  rw [plainWord, show entry_AFE_IEXC.maskOf FieldDef.isValue = 0x7f707f7 from rfl, show entry_AFE_IEXC.maskOf (fun f => f.ty = .w1c) = 0x0 from rfl,
    show entry_AFE_IEXC.maskOf (fun f => f.ty = .wo) = 0x0 from rfl]
  simp only [Word.and_zero]

theorem plain_AFE_VEXC (v : Word) : plainWord entry_AFE_VEXC v = ⟨v &&& 0x3, 0, 0⟩ := by
  rw [plainWord, show entry_AFE_VEXC.maskOf FieldDef.isValue = 0x3 from rfl, show entry_AFE_VEXC.maskOf (fun f => f.ty = .w1c) = 0x0 from rfl,
    show entry_AFE_VEXC.maskOf (fun f => f.ty = .wo) = 0x0 from rfl]
  simp only [Word.and_zero]

theorem plain_AFE_TDAC (v : Word) : plainWord entry_AFE_TDAC v = ⟨v &&& 0xfff, 0, 0⟩ := by
  rw [plainWord, show entry_AFE_TDAC.maskOf FieldDef.isValue = 0xfff from rfl, show entry_AFE_TDAC.maskOf (fun f => f.ty = .w1c) = 0x0 from rfl,
    show entry_AFE_TDAC.maskOf (fun f => f.ty = .wo) = 0x0 from rfl]
  simp only [Word.and_zero]

theorem plain_SD_CMD (v : Word) : plainWord entry_SD_CMD v = ⟨0, 0, v &&& 0xf0f⟩ := by
  rw [plainWord, show entry_SD_CMD.maskOf FieldDef.isValue = 0x0 from rfl, show entry_SD_CMD.maskOf (fun f => f.ty = .w1c) = 0x0 from rfl,
    show entry_SD_CMD.maskOf (fun f => f.ty = .wo) = 0xf0f from rfl]
  simp only [Word.and_zero]

theorem lock_SD_CMD {i k : Nat} {old w : Word} {s : State} : lockRefuses ⟨.SD, i, entry_SD_CMD, k, false⟩ old w s = false :=
  lock_none rfl (by dsimp only; decide)

theorem plain_SD_CFG (v : Word) : plainWord entry_SD_CFG v = ⟨v &&& 0xf78ff3, 0, 0⟩ := by
  rw [plainWord, show entry_SD_CFG.maskOf FieldDef.isValue = 0xf78ff3 from rfl, show entry_SD_CFG.maskOf (fun f => f.ty = .w1c) = 0x0 from rfl,
    show entry_SD_CFG.maskOf (fun f => f.ty = .wo) = 0x0 from rfl]
  simp only [Word.and_zero]

theorem plain_SD_LINDATA (v : Word) : plainWord entry_SD_LINDATA v = ⟨v, 0, 0⟩ := by
  rw [plainWord, show entry_SD_LINDATA.maskOf FieldDef.isValue = 0xffffffff from rfl, show entry_SD_LINDATA.maskOf (fun f => f.ty = .w1c) = 0x0 from rfl,
    show entry_SD_LINDATA.maskOf (fun f => f.ty = .wo) = 0x0 from rfl]
  simp only [Word.and_zero, Word.and_ones]

theorem plain_SD_RESULT (v : Word) : plainWord entry_SD_RESULT v = ⟨0, 0, 0⟩ := by
  rw [plainWord, show entry_SD_RESULT.maskOf FieldDef.isValue = 0x0 from rfl, show entry_SD_RESULT.maskOf (fun f => f.ty = .w1c) = 0x0 from rfl,
    show entry_SD_RESULT.maskOf (fun f => f.ty = .wo) = 0x0 from rfl]
  simp only [Word.and_zero]

theorem lock_SD_RESULT {i k : Nat} {old w : Word} {s : State} : lockRefuses ⟨.SD, i, entry_SD_RESULT, k, false⟩ old w s = false :=
  lock_none rfl (by dsimp only; decide)

theorem plain_SD_INJRESULT (v : Word) : plainWord entry_SD_INJRESULT v = ⟨0, 0, 0⟩ := by
  rw [plainWord, show entry_SD_INJRESULT.maskOf FieldDef.isValue = 0x0 from rfl, show entry_SD_INJRESULT.maskOf (fun f => f.ty = .w1c) = 0x0 from rfl,
    show entry_SD_INJRESULT.maskOf (fun f => f.ty = .wo) = 0x0 from rfl]
  simp only [Word.and_zero]

theorem lock_SD_INJRESULT {i k : Nat} {old w : Word} {s : State} : lockRefuses ⟨.SD, i, entry_SD_INJRESULT, k, false⟩ old w s = false :=
  lock_none rfl (by dsimp only; decide)

theorem plain_EV_PEND (v : Word) : plainWord entry_EV_PEND v = ⟨0, v, 0⟩ := by
  rw [plainWord, show entry_EV_PEND.maskOf FieldDef.isValue = 0x0 from rfl, show entry_EV_PEND.maskOf (fun f => f.ty = .w1c) = 0xffffffff from rfl,
    show entry_EV_PEND.maskOf (fun f => f.ty = .wo) = 0x0 from rfl]
  simp only [Word.and_zero, Word.and_ones]

theorem lock_EV_PEND {i k : Nat} {old w : Word} {s : State} : lockRefuses ⟨.EV, i, entry_EV_PEND, k, false⟩ old w s = false :=
  lock_none rfl (by dsimp only; decide)

theorem plain_EV_EN (v : Word) : plainWord entry_EV_EN v = ⟨v, 0, 0⟩ := by
  rw [plainWord, show entry_EV_EN.maskOf FieldDef.isValue = 0xffffffff from rfl, show entry_EV_EN.maskOf (fun f => f.ty = .w1c) = 0x0 from rfl,
    show entry_EV_EN.maskOf (fun f => f.ty = .wo) = 0x0 from rfl]
  simp only [Word.and_zero, Word.and_ones]

theorem lock_EV_EN {i k : Nat} {old w : Word} {s : State} : lockRefuses ⟨.EV, i, entry_EV_EN, k, false⟩ old w s = false :=
  lock_none rfl (by dsimp only; decide)

theorem plain_EV_DOORBELL (v : Word) : plainWord entry_EV_DOORBELL v = ⟨0, 0, v &&& 0x1⟩ := by
  rw [plainWord, show entry_EV_DOORBELL.maskOf FieldDef.isValue = 0x0 from rfl, show entry_EV_DOORBELL.maskOf (fun f => f.ty = .w1c) = 0x0 from rfl,
    show entry_EV_DOORBELL.maskOf (fun f => f.ty = .wo) = 0x1 from rfl]
  simp only [Word.and_zero]

theorem lock_EV_DOORBELL {i k : Nat} {old w : Word} {s : State} : lockRefuses ⟨.EV, i, entry_EV_DOORBELL, k, false⟩ old w s = false :=
  lock_none rfl (by dsimp only; decide)

theorem plain_SPM_CMD (v : Word) : plainWord entry_SPM_CMD v = ⟨v &&& 0x7ff1ffff, 0, v &&& 0x80000000⟩ := by
  rw [plainWord, show entry_SPM_CMD.maskOf FieldDef.isValue = 0x7ff1ffff from rfl, show entry_SPM_CMD.maskOf (fun f => f.ty = .w1c) = 0x0 from rfl,
    show entry_SPM_CMD.maskOf (fun f => f.ty = .wo) = 0x80000000 from rfl]
  simp only [Word.and_zero]

theorem lock_SPM_CMD {i k : Nat} {old w : Word} {s : State} : lockRefuses ⟨.SPM, i, entry_SPM_CMD, k, false⟩ old w s = false :=
  lock_none rfl (by dsimp only; decide)

theorem plain_SPM_CTL (v : Word) : plainWord entry_SPM_CTL v = ⟨0, 0, v &&& 0x7⟩ := by
  rw [plainWord, show entry_SPM_CTL.maskOf FieldDef.isValue = 0x0 from rfl, show entry_SPM_CTL.maskOf (fun f => f.ty = .w1c) = 0x0 from rfl,
    show entry_SPM_CTL.maskOf (fun f => f.ty = .wo) = 0x7 from rfl]
  simp only [Word.and_zero]

theorem lock_SPM_CTL {i k : Nat} {old w : Word} {s : State} : lockRefuses ⟨.SPM, i, entry_SPM_CTL, k, false⟩ old w s = false :=
  lock_none rfl (by dsimp only; decide)

theorem plain_SPM_TXFIFO (v : Word) : plainWord entry_SPM_TXFIFO v = ⟨0, 0, v⟩ := by
  rw [plainWord, show entry_SPM_TXFIFO.maskOf FieldDef.isValue = 0x0 from rfl, show entry_SPM_TXFIFO.maskOf (fun f => f.ty = .w1c) = 0x0 from rfl,
    show entry_SPM_TXFIFO.maskOf (fun f => f.ty = .wo) = 0xffffffff from rfl]
  simp only [Word.and_zero, Word.and_ones]

theorem lock_SPM_TXFIFO {i k : Nat} {old w : Word} {s : State} : lockRefuses ⟨.SPM, i, entry_SPM_TXFIFO, k, false⟩ old w s = false :=
  lock_none rfl (by dsimp only; decide)

theorem plain_SPM_RXFIFO (v : Word) : plainWord entry_SPM_RXFIFO v = ⟨0, 0, 0⟩ := by
  rw [plainWord, show entry_SPM_RXFIFO.maskOf FieldDef.isValue = 0x0 from rfl, show entry_SPM_RXFIFO.maskOf (fun f => f.ty = .w1c) = 0x0 from rfl,
    show entry_SPM_RXFIFO.maskOf (fun f => f.ty = .wo) = 0x0 from rfl]
  simp only [Word.and_zero]

theorem lock_SPM_RXFIFO {i k : Nat} {old w : Word} {s : State} : lockRefuses ⟨.SPM, i, entry_SPM_RXFIFO, k, false⟩ old w s = false :=
  lock_none rfl (by dsimp only; decide)

theorem plain_MGS_LOGRPTR (v : Word) : plainWord entry_MGS_LOGRPTR v = ⟨v, 0, 0⟩ := by
  rw [plainWord, show entry_MGS_LOGRPTR.maskOf FieldDef.isValue = 0xffffffff from rfl, show entry_MGS_LOGRPTR.maskOf (fun f => f.ty = .w1c) = 0x0 from rfl,
    show entry_MGS_LOGRPTR.maskOf (fun f => f.ty = .wo) = 0x0 from rfl]
  simp only [Word.and_zero, Word.and_ones]

theorem lock_MGS_LOGRPTR {i k : Nat} {old w : Word} {s : State} : lockRefuses ⟨.MGS, i, entry_MGS_LOGRPTR, k, false⟩ old w s = false :=
  lock_none rfl (by dsimp only; decide)

theorem plain_MGS_LOGDATA (v : Word) : plainWord entry_MGS_LOGDATA v = ⟨0, 0, 0⟩ := by
  rw [plainWord, show entry_MGS_LOGDATA.maskOf FieldDef.isValue = 0x0 from rfl, show entry_MGS_LOGDATA.maskOf (fun f => f.ty = .w1c) = 0x0 from rfl,
    show entry_MGS_LOGDATA.maskOf (fun f => f.ty = .wo) = 0x0 from rfl]
  simp only [Word.and_zero]

theorem lock_MGS_LOGDATA {i k : Nat} {old w : Word} {s : State} : lockRefuses ⟨.MGS, i, entry_MGS_LOGDATA, k, false⟩ old w s = false :=
  lock_none rfl (by dsimp only; decide)

theorem plain_MGS_UPDCTL (v : Word) : plainWord entry_MGS_UPDCTL v = ⟨0, 0, v &&& 0xf⟩ := by
  rw [plainWord, show entry_MGS_UPDCTL.maskOf FieldDef.isValue = 0x0 from rfl, show entry_MGS_UPDCTL.maskOf (fun f => f.ty = .w1c) = 0x0 from rfl,
    show entry_MGS_UPDCTL.maskOf (fun f => f.ty = .wo) = 0xf from rfl]
  simp only [Word.and_zero]

theorem plain_MGS_UPDDATA (v : Word) : plainWord entry_MGS_UPDDATA v = ⟨0, 0, v⟩ := by
  rw [plainWord, show entry_MGS_UPDDATA.maskOf FieldDef.isValue = 0x0 from rfl, show entry_MGS_UPDDATA.maskOf (fun f => f.ty = .w1c) = 0x0 from rfl,
    show entry_MGS_UPDDATA.maskOf (fun f => f.ty = .wo) = 0xffffffff from rfl]
  simp only [Word.and_zero, Word.and_ones]

theorem lock_MGS_UPDDATA {i k : Nat} {old w : Word} {s : State} : lockRefuses ⟨.MGS, i, entry_MGS_UPDDATA, k, false⟩ old w s = false :=
  lock_none rfl (by dsimp only; decide)

theorem plain_MGS_SECCMD (v : Word) : plainWord entry_MGS_SECCMD v = ⟨0, 0, v &&& 0xff00000f⟩ := by
  rw [plainWord, show entry_MGS_SECCMD.maskOf FieldDef.isValue = 0x0 from rfl, show entry_MGS_SECCMD.maskOf (fun f => f.ty = .w1c) = 0x0 from rfl,
    show entry_MGS_SECCMD.maskOf (fun f => f.ty = .wo) = 0xff00000f from rfl]
  simp only [Word.and_zero]

theorem lock_MGS_SECCMD {i k : Nat} {old w : Word} {s : State} : lockRefuses ⟨.MGS, i, entry_MGS_SECCMD, k, false⟩ old w s = false :=
  lock_none rfl (by dsimp only; decide)

theorem plain_MGS_AUCHAL (v : Word) : plainWord entry_MGS_AUCHAL v = ⟨0, 0, 0⟩ := by
  rw [plainWord, show entry_MGS_AUCHAL.maskOf FieldDef.isValue = 0x0 from rfl, show entry_MGS_AUCHAL.maskOf (fun f => f.ty = .w1c) = 0x0 from rfl,
    show entry_MGS_AUCHAL.maskOf (fun f => f.ty = .wo) = 0x0 from rfl]
  simp only [Word.and_zero]

theorem lock_MGS_AUCHAL {i k : Nat} {old w : Word} {s : State} : lockRefuses ⟨.MGS, i, entry_MGS_AUCHAL, k, false⟩ old w s = false :=
  lock_none rfl (by dsimp only; decide)

theorem plain_RK_MODE (v : Word) : plainWord entry_RK_MODE v = ⟨v &&& 0xf, 0, 0⟩ := by
  rw [plainWord, show entry_RK_MODE.maskOf FieldDef.isValue = 0xf from rfl, show entry_RK_MODE.maskOf (fun f => f.ty = .w1c) = 0x0 from rfl,
    show entry_RK_MODE.maskOf (fun f => f.ty = .wo) = 0x0 from rfl]
  simp only [Word.and_zero]

theorem plain_LEG_TEST (v : Word) : plainWord entry_LEG_TEST v = ⟨v &&& 0xfff7, 0, 0⟩ := by
  rw [plainWord, show entry_LEG_TEST.maskOf FieldDef.isValue = 0xfff7 from rfl, show entry_LEG_TEST.maskOf (fun f => f.ty = .w1c) = 0x0 from rfl,
    show entry_LEG_TEST.maskOf (fun f => f.ty = .wo) = 0x0 from rfl]
  simp only [Word.and_zero]

theorem plain_RK_FLTCTL (v : Word) : plainWord entry_RK_FLTCTL v = ⟨0, 0, v &&& 0x1⟩ := by
  rw [plainWord, show entry_RK_FLTCTL.maskOf FieldDef.isValue = 0x0 from rfl, show entry_RK_FLTCTL.maskOf (fun f => f.ty = .w1c) = 0x0 from rfl,
    show entry_RK_FLTCTL.maskOf (fun f => f.ty = .wo) = 0x1 from rfl]
  simp only [Word.and_zero]

theorem lock_RK_FLTCTL {i k : Nat} {old w : Word} {s : State} : lockRefuses ⟨.RK, i, entry_RK_FLTCTL, k, false⟩ old w s = false :=
  lock_none rfl (by dsimp only; decide)

theorem plain_CO_FLTCTL (v : Word) : plainWord entry_CO_FLTCTL v = ⟨0, 0, v &&& 0x3⟩ := by
  rw [plainWord, show entry_CO_FLTCTL.maskOf FieldDef.isValue = 0x0 from rfl, show entry_CO_FLTCTL.maskOf (fun f => f.ty = .w1c) = 0x0 from rfl,
    show entry_CO_FLTCTL.maskOf (fun f => f.ty = .wo) = 0x3 from rfl]
  simp only [Word.and_zero]

theorem lock_CO_FLTCTL {i k : Nat} {old w : Word} {s : State} : lockRefuses ⟨.CO, i, entry_CO_FLTCTL, k, false⟩ old w s = false :=
  lock_none rfl (by dsimp only; decide)

theorem plain_AX_VMAX (v : Word) : plainWord entry_AX_VMAX v = ⟨v &&& 0x3fffff, 0, 0⟩ := by
  rw [plainWord, show entry_AX_VMAX.maskOf FieldDef.isValue = 0x3fffff from rfl, show entry_AX_VMAX.maskOf (fun f => f.ty = .w1c) = 0x0 from rfl,
    show entry_AX_VMAX.maskOf (fun f => f.ty = .wo) = 0x0 from rfl]
  simp only [Word.and_zero]

end Sys2Proof.Machine
end

