-- ==== Sys2Proof/Laws/Commands.lean ====
section
/-!
SUPPORT. Laws/Commands.lean: for each register that commands write, what a write does that every check of R72 lets pass and that
clamps nothing.
-/

namespace Sys2Proof.Machine

set_option Elab.async false

/-- A written word no longer fails parity; what it holds stays. -/
def State.touched (s : State) (a : Nat) : State := (s.setBad a false).wr a (s.rd a)

@[simp] theorem State.touched_snap (s : State) (a : Nat) : (s.touched a).snap = s.snap := rfl
@[simp] theorem State.touched_staged (s : State) (a : Nat) : (s.touched a).staged = s.staged := rfl
@[simp] theorem State.touched_replies (s : State) (a : Nat) : (s.touched a).replies = s.replies := rfl
@[simp] theorem State.touched_guards (s : State) (a : Nat) : (s.touched a).guards = s.guards := rfl
@[simp] theorem State.touched_hostPair (s : State) (a : Nat) : (s.touched a).hostPair = s.hostPair := rfl
@[simp] theorem State.touched_trioPair (s : State) (a : Nat) : (s.touched a).trioPair = s.trioPair := rfl
@[simp] theorem State.touched_mgsPair (s : State) (a : Nat) : (s.touched a).mgsPair = s.mgsPair := rfl
@[simp] theorem State.touched_canPair (s : State) (a : Nat) : (s.touched a).canPair = s.canPair := rfl
@[simp] theorem State.touched_ticks (s : State) (a : Nat) : (s.touched a).ticks = s.ticks := rfl
@[simp] theorem State.touched_free (s : State) (a : Nat) : (s.touched a).free = s.free := rfl
@[simp] theorem State.touched_trioQ (s : State) (a : Nat) : (s.touched a).trioQ = s.trioQ := rfl
@[simp] theorem State.touched_emcyQ (s : State) (a : Nat) : (s.touched a).emcyQ = s.emcyQ := rfl
@[simp] theorem State.touched_logQ (s : State) (a : Nat) : (s.touched a).logQ = s.logQ := rfl
@[simp] theorem State.touched_logWin (s : State) (a : Nat) : (s.touched a).logWin = s.logWin := rfl
@[simp] theorem State.touched_legs (s : State) (a : Nat) : (s.touched a).legs = s.legs := rfl
@[simp] theorem State.touched_coils (s : State) (a : Nat) : (s.touched a).coils = s.coils := rfl
@[simp] theorem State.touched_coaches (s : State) (a : Nat) : (s.touched a).coaches = s.coaches := rfl
@[simp] theorem State.touched_trips (s : State) (a : Nat) : (s.touched a).trips = s.trips := rfl
@[simp] theorem State.touched_runs (s : State) (a : Nat) : (s.touched a).runs = s.runs := rfl
@[simp] theorem State.touched_axes (s : State) (a : Nat) : (s.touched a).axes = s.axes := rfl
@[simp] theorem State.touched_pl (s : State) (a : Nat) : (s.touched a).pl = s.pl := rfl
@[simp] theorem State.touched_power (s : State) (a : Nat) : (s.touched a).power = s.power := rfl
@[simp] theorem State.touched_syncOut (s : State) (a : Nat) : (s.touched a).syncOut = s.syncOut := rfl
@[simp] theorem State.touched_encs (s : State) (a : Nat) : (s.touched a).encs = s.encs := rfl
@[simp] theorem State.touched_stepLast (s : State) (a : Nat) : (s.touched a).stepLast = s.stepLast := rfl
@[simp] theorem State.touched_recipes (s : State) (a : Nat) : (s.touched a).recipes = s.recipes := rfl
@[simp] theorem State.touched_rbcnt (s : State) (a : Nat) : (s.touched a).rbcnt = s.rbcnt := rfl
@[simp] theorem State.touched_sds (s : State) (a : Nat) : (s.touched a).sds = s.sds := rfl
@[simp] theorem State.touched_afe (s : State) (a : Nat) : (s.touched a).afe = s.afe := rfl
@[simp] theorem State.touched_trio (s : State) (a : Nat) : (s.touched a).trio = s.trio := rfl
@[simp] theorem State.touched_mgs (s : State) (a : Nat) : (s.touched a).mgs = s.mgs := rfl
@[simp] theorem State.touched_net (s : State) (a : Nat) : (s.touched a).net = s.net := rfl
@[simp] theorem State.touched_sph (s : State) (a : Nat) : (s.touched a).sph = s.sph := rfl
@[simp] theorem State.touched_spm (s : State) (a : Nat) : (s.touched a).spm = s.spm := rfl
@[simp] theorem State.touched_nvm (s : State) (a : Nat) : (s.touched a).nvm = s.nvm := rfl
@[simp] theorem State.touched_pending (s : State) (a : Nat) : (s.touched a).pending = s.pending := rfl
@[simp] theorem State.touched_stagedAt (s : State) (a : Nat) (i : Nat) : (s.touched a).stagedAt i = s.stagedAt i := rfl
@[simp] theorem State.touched_reply (s : State) (a : Nat) (o : Master) : (s.touched a).reply o = s.reply o := rfl
@[simp] theorem State.touched_guardAt (s : State) (a : Nat) (i : Nat) : (s.touched a).guardAt i = s.guardAt i := rfl
@[simp] theorem State.touched_mo (s : State) (a : Nat) (i : Nat) : (s.touched a).mo i = s.mo i := rfl
@[simp] theorem State.touched_se (s : State) (a : Nat) (i : Nat) : (s.touched a).se i = s.se i := rfl
@[simp] theorem State.touched_leg (s : State) (a : Nat) (i : Nat) : (s.touched a).leg i = s.leg i := rfl
@[simp] theorem State.touched_coil (s : State) (a : Nat) (i j : Nat) : (s.touched a).coil i j = s.coil i j := rfl
@[simp] theorem State.touched_coach (s : State) (a : Nat) (i : Nat) : (s.touched a).coach i = s.coach i := rfl
@[simp] theorem State.touched_enc (s : State) (a : Nat) (i : Nat) : (s.touched a).enc i = s.enc i := rfl
@[simp] theorem State.touched_sd (s : State) (a : Nat) (i : Nat) : (s.touched a).sd i = s.sd i := rfl
@[simp] theorem State.touched_rd (s : State) (a b : Nat) : (s.touched a).rd b = s.rd b := State.rd_wr_rd s a b
@[simp] theorem State.touched_get (s : State) (a : Nat) (f : Fld) : (s.touched a).get f = s.get f := by
  simp only [State.get, State.touched_rd]
@[simp] theorem State.touched_on (s : State) (a : Nat) (f : Fld) : (s.touched a).on f = s.on f := by
  simp only [State.on, State.touched_get]
@[simp] theorem State.touched_bitAt (s : State) (a b c : Nat) : (s.touched a).bitAt b c = s.bitAt b c := by
  simp only [State.bitAt, State.touched_rd]

theorem State.touched_ok (s : State) (a : Nat) : Ok [.bad] s (s.touched a) :=
  Ok.via (State.wr_rd_ok ..) rfl (Ok.via (State.setBad_ok ..) rfl Ok.refl)


theorem written_AX_CTL {m : Master} {v : Word} {s : State} (i : Fin 128) (h : s.mayWrite m (AX_CTL i)) (hr : v &&& 0xfffffff0 = 0) (hf : fieldsFit (entry_AX_CTL).fields v = true) (hx : axRefuses ⟨.AX, i.val, entry_AX_CTL, 0, false⟩ (s.before ⟨.AX, i.val, entry_AX_CTL, 0, false⟩ (AX_CTL i)) v s = false) :
    regWrite m (AX_CTL i) v s = (ctlWritten i (wordField v 3 0) (s.touched (AX_CTL i))).answer m .done := by
  have hv : v &&& 0xf = v := Word.and_of_rest (m := 0xf) hr
  have hp : plainWord entry_AX_CTL v = ⟨0, 0, v⟩ := by
    rw [plain_AX_CTL, hv]
  rw [plain_eq (l := ⟨.AX, i.val, entry_AX_CTL, 0, false⟩) h (locate_AX_CTL i) (by unfold AX_CTL; omega) rfl rfl rfl (by rw [show reservedBits entry_AX_CTL = 0xfffffff0 from by decide]; exact hr) rfl rfl (hf) rfl (by dsimp only; decide) (by
      have e : coachOf (AX_CTL i) = none := by
        unfold coachOf AX_CTL
        rw [if_pos (by omega)]
      exact e)
    (by rw [hp]; dsimp only; rw [blockRefuses, lock_AX_CTL, Bool.false_or]; rw [show (0 : Word) ||| v = v from BitVec.zero_or]; exact hx), hp]
  rw [storeWord_command rfl rfl]
  rfl

theorem written_AX_LACTL {m : Master} {v : Word} {s : State} (i : Fin 128) (h : s.mayWrite m (AX_LACTL i)) (hr : v &&& 0x1ffffffc = 0) :
    regWrite m (AX_LACTL i) v s = (lactlWritten i v (s.touched (AX_LACTL i))).answer m .done := by
  have hv : v &&& 0xe0000003 = v := Word.and_of_rest (m := 0xe0000003) hr
  have hp : plainWord entry_AX_LACTL v = ⟨0, 0, v⟩ := by
    rw [plain_AX_LACTL, hv]
  rw [plain_eq (l := ⟨.AX, i.val, entry_AX_LACTL, 0, false⟩) h (locate_AX_LACTL i) (by unfold AX_LACTL; omega) rfl rfl rfl (by rw [show reservedBits entry_AX_LACTL = 0x1ffffffc from by decide]; exact hr) rfl rfl (fieldsFit_any rfl v) rfl (by dsimp only; decide) (by
      have e : coachOf (AX_LACTL i) = none := by
        unfold coachOf AX_LACTL
        rw [if_pos (by omega)]
      exact e)
    (by rw [hp]; dsimp only; rw [blockRefuses, lock_AX_LACTL, Bool.false_or]; rw [show (0 : Word) ||| v = v from BitVec.zero_or]; exact rfl), hp]
  rw [storeWord_command rfl rfl]
  rfl

theorem written_AX_FLTCTL {m : Master} {v : Word} {s : State} (i : Fin 128) (h : s.mayWrite m (AX_FLTCTL i)) (hr : v &&& 0xfffffffc = 0) (hx : s.fltctlRefused i v = false) :
    regWrite m (AX_FLTCTL i) v s = (axWritten ⟨.AX, i.val, entry_AX_FLTCTL, 0, false⟩ ⟨0, 0, v⟩ (s.touched (AX_FLTCTL i))).answer m .done := by
  have hv : v &&& 0x3 = v := Word.and_of_rest (m := 0x3) hr
  have hp : plainWord entry_AX_FLTCTL v = ⟨0, 0, v⟩ := by
    rw [plain_AX_FLTCTL, hv]
  rw [plain_eq (l := ⟨.AX, i.val, entry_AX_FLTCTL, 0, false⟩) h (locate_AX_FLTCTL i) (by unfold AX_FLTCTL; omega) rfl rfl rfl (by rw [show reservedBits entry_AX_FLTCTL = 0xfffffffc from by decide]; exact hr) rfl rfl (fieldsFit_any rfl v) rfl (by dsimp only; decide) (by
      have e : coachOf (AX_FLTCTL i) = none := by
        unfold coachOf AX_FLTCTL
        rw [if_pos (by omega)]
      exact e)
    (by rw [hp]; dsimp only; rw [blockRefuses, lock_AX_FLTCTL, Bool.false_or]; rw [show (0 : Word) ||| v = v from BitVec.zero_or]; exact hx), hp]
  rw [storeWord_command rfl rfl]
  rfl

theorem written_AX_WAVESEL {m : Master} {v : Word} {s : State} (i : Fin 128) (h : s.mayWrite m (AX_WAVESEL i)) (hr : v &&& 0xfffffef8 = 0) (hx : axRefuses ⟨.AX, i.val, entry_AX_WAVESEL, 0, false⟩ (s.before ⟨.AX, i.val, entry_AX_WAVESEL, 0, false⟩ (AX_WAVESEL i)) v s = false) (hk : s.locked = false) :
    regWrite m (AX_WAVESEL i) v s = (((s.touched (AX_WAVESEL i)).setStaged (AX_WAVESEL i) ⟨v ||| ((s.stagedAt (AX_WAVESEL i)).value &&& ~~~ (0x107 : Word)), (s.stagedAt (AX_WAVESEL i)).mask ||| (0x107 : Word)⟩)).answer m .done := by
  have hv : v &&& 0x107 = v := Word.and_of_rest (m := 0x107) hr
  have hp : plainWord entry_AX_WAVESEL v = ⟨v, 0, 0⟩ := by
    rw [plain_AX_WAVESEL, hv]
  rw [plain_eq (l := ⟨.AX, i.val, entry_AX_WAVESEL, 0, false⟩) h (locate_AX_WAVESEL i) (by unfold AX_WAVESEL; omega) rfl rfl rfl (by rw [show reservedBits entry_AX_WAVESEL = 0xfffffef8 from by decide]; exact hr) rfl rfl (fieldsFit_any rfl v) rfl (by dsimp only; decide) (by
      have e : coachOf (AX_WAVESEL i) = none := by
        unfold coachOf AX_WAVESEL
        rw [if_pos (by omega)]
      exact e)
    (by rw [hp]; dsimp only; rw [blockRefuses, lock_open hk, Bool.false_or]; rw [show v ||| (0 : Word) = v from BitVec.or_zero]; exact hx), hp]
  rw [storeWord_staged (k := 0x107) rfl rfl (by decide) rfl rfl hv]
  rfl

theorem written_AXEN {m : Master} {v : Word} {s : State} (k : Fin 4) (h : s.mayWrite m (AXEN k)) (hx : bitmapRefuses ⟨.PL, 0, entry_AXEN, k.val, false⟩ (s.before ⟨.PL, 0, entry_AXEN, k.val, false⟩ (AXEN k)) v s = false) :
    regWrite m (AXEN k) v s = (bitmapWritten ⟨.PL, 0, entry_AXEN, k.val, false⟩ (s.before ⟨.PL, 0, entry_AXEN, k.val, false⟩ (AXEN k)) ⟨v, 0, 0⟩ ((s.setBad (AXEN k) false).wr (AXEN k) v)).answer m .done := by
  have hp : plainWord entry_AXEN v = ⟨v, 0, 0⟩ := by
    rw [plain_AXEN]
  rw [plain_eq (l := ⟨.PL, 0, entry_AXEN, k.val, false⟩) h (locate_AXEN k) (by unfold AXEN; omega) rfl rfl rfl (by rw [show reservedBits entry_AXEN = 0x0 from by decide]; exact Word.and_zero v) rfl rfl (fieldsFit_any rfl v) rfl (by dsimp only; decide) (by
      have e : coachOf (AXEN k) = none := by
        unfold coachOf AXEN
        rw [if_neg (by omega), if_neg (by omega), if_neg (by omega), if_neg (by omega), if_neg (by omega)]
      exact e)
    (by rw [hp]; dsimp only; rw [blockRefuses, lock_AXEN, Bool.false_or]; rw [show v ||| (0 : Word) = v from BitVec.or_zero]; exact Bool.or_eq_false_iff.mpr ⟨hx, rfl⟩), hp]
  rw [storeWord_full rfl rfl rfl]
  rfl

theorem written_AXSTART {m : Master} {v : Word} {s : State} (k : Fin 4) (h : s.mayWrite m (AXSTART k)) (hx : bitmapRefuses ⟨.PL, 0, entry_AXSTART, k.val, false⟩ (s.before ⟨.PL, 0, entry_AXSTART, k.val, false⟩ (AXSTART k)) v s = false) :
    regWrite m (AXSTART k) v s = (bitmapWritten ⟨.PL, 0, entry_AXSTART, k.val, false⟩ (s.before ⟨.PL, 0, entry_AXSTART, k.val, false⟩ (AXSTART k)) ⟨0, 0, v⟩ (s.touched (AXSTART k))).answer m .done := by
  have hp : plainWord entry_AXSTART v = ⟨0, 0, v⟩ := by
    rw [plain_AXSTART]
  rw [plain_eq (l := ⟨.PL, 0, entry_AXSTART, k.val, false⟩) h (locate_AXSTART k) (by unfold AXSTART; omega) rfl rfl rfl (by rw [show reservedBits entry_AXSTART = 0x0 from by decide]; exact Word.and_zero v) rfl rfl (fieldsFit_any rfl v) rfl (by dsimp only; decide) (by
      have e : coachOf (AXSTART k) = none := by
        unfold coachOf AXSTART
        rw [if_neg (by omega), if_neg (by omega), if_neg (by omega), if_neg (by omega), if_neg (by omega)]
      exact e)
    (by rw [hp]; dsimp only; rw [blockRefuses, lock_AXSTART, Bool.false_or]; rw [show (0 : Word) ||| v = v from BitVec.zero_or]; exact Bool.or_eq_false_iff.mpr ⟨hx, rfl⟩), hp]
  rw [storeWord_command rfl rfl]
  rfl

theorem written_WAVE_CTL {m : Master} {v : Word} {s : State} (i : Fin 8) (h : s.mayWrite m (WAVE_CTL i)) (hr : v &&& 0xfffffffe = 0) (hx : waveRefuses ⟨.WAVE, i.val, entry_WAVE_CTL, 0, false⟩ v s = false) :
    regWrite m (WAVE_CTL i) v s = (((s.setBad (WAVE_CTL i) false).wr (WAVE_CTL i) (v ||| (s.rd (WAVE_CTL i) &&& ~~~ (0x1 : Word))))).answer m .done := by
  have hv : v &&& 0x1 = v := Word.and_of_rest (m := 0x1) hr
  have hp : plainWord entry_WAVE_CTL v = ⟨v, 0, 0⟩ := by
    rw [plain_WAVE_CTL, hv]
  rw [plain_eq (l := ⟨.WAVE, i.val, entry_WAVE_CTL, 0, false⟩) h (locate_WAVE_CTL i) (by unfold WAVE_CTL; omega) rfl rfl rfl (by rw [show reservedBits entry_WAVE_CTL = 0xfffffffe from by decide]; exact hr) rfl rfl (fieldsFit_any rfl v) rfl (by dsimp only; decide) (by
      have e : coachOf (WAVE_CTL i) = none := by
        unfold coachOf WAVE_CTL
        rw [if_neg (by omega), if_neg (by omega), if_neg (by omega), if_neg (by omega), if_neg (by omega)]
      exact e)
    (by rw [hp]; dsimp only; rw [blockRefuses, lock_WAVE_CTL, Bool.false_or]; rw [show v ||| (0 : Word) = v from BitVec.or_zero]; exact hx), hp]
  rw [storeWord_value (k := 0x1) rfl rfl rfl hv]
  rfl

theorem written_PL_CMD {m : Master} {v : Word} {s : State} (h : s.mayWrite m PL_CMD) (hr : v &&& 0xffff00e0 = 0) (hf : fieldsFit (entry_PL_CMD).fields v = true) (hx : s.plRefused (wordField v 3 0) (wordField v 15 8) = false) (hk : s.locked = false) :
    regWrite m PL_CMD v s = (plCommand (wordField v 3 0) (wordField v 15 8) (v.getLsbD 4) (s.touched PL_CMD)).answer m .done := by
  have hv : v &&& 0xff1f = v := Word.and_of_rest (m := 0xff1f) hr
  have hp : plainWord entry_PL_CMD v = ⟨0, 0, v⟩ := by
    rw [plain_PL_CMD, hv]
  rw [plain_eq (l := ⟨.PL, 0, entry_PL_CMD, 0, false⟩) h (locate_PL_CMD) (by decide) rfl rfl rfl (by rw [show reservedBits entry_PL_CMD = 0xffff00e0 from by decide]; exact hr) rfl rfl (hf) rfl (by dsimp only; decide) (by decide)
    (by rw [hp]; dsimp only; rw [blockRefuses, lock_open hk, Bool.false_or]; rw [show (0 : Word) ||| v = v from BitVec.zero_or]; exact Bool.or_eq_false_iff.mpr ⟨rfl, hx⟩), hp]
  rw [storeWord_command rfl rfl]
  rfl

theorem written_PL_RCP0 {m : Master} {v : Word} {s : State} (k : Fin 128) (h : s.mayWrite m (PL_RCP0 k)) (hx : s.recipeRefused = false) :
    regWrite m (PL_RCP0 k) v s = (plTo 1 ((s.setBad (PL_RCP0 k) false).wr (PL_RCP0 k) v)).answer m .done := by
  have hp : plainWord entry_PL_RCP0 v = ⟨v, 0, 0⟩ := by
    rw [plain_PL_RCP0]
  rw [plain_eq (l := ⟨.PL, 0, entry_PL_RCP0, k.val, false⟩) h (locate_PL_RCP0 k) (by unfold PL_RCP0; omega) rfl rfl rfl (by rw [show reservedBits entry_PL_RCP0 = 0x0 from by decide]; exact Word.and_zero v) rfl rfl (fieldsFit_any rfl v) rfl (by dsimp only; decide) (by
      have e : coachOf (PL_RCP0 k) = none := by
        unfold coachOf PL_RCP0
        rw [if_neg (by omega), if_neg (by omega), if_neg (by omega), if_neg (by omega), if_neg (by omega)]
      exact e)
    (by rw [hp]; dsimp only; rw [blockRefuses, lock_PL_RCP0, Bool.false_or]; rw [show v ||| (0 : Word) = v from BitVec.or_zero]; exact Bool.or_eq_false_iff.mpr ⟨rfl, hx⟩), hp]
  rw [storeWord_full rfl rfl rfl]
  rfl

theorem written_PL_RCP1 {m : Master} {v : Word} {s : State} (k : Fin 128) (h : s.mayWrite m (PL_RCP1 k)) (hx : s.recipeRefused = false) :
    regWrite m (PL_RCP1 k) v s = (plTo 1 ((s.setBad (PL_RCP1 k) false).wr (PL_RCP1 k) v)).answer m .done := by
  have hp : plainWord entry_PL_RCP1 v = ⟨v, 0, 0⟩ := by
    rw [plain_PL_RCP1]
  rw [plain_eq (l := ⟨.PL, 0, entry_PL_RCP1, k.val, false⟩) h (locate_PL_RCP1 k) (by unfold PL_RCP1; omega) rfl rfl rfl (by rw [show reservedBits entry_PL_RCP1 = 0x0 from by decide]; exact Word.and_zero v) rfl rfl (fieldsFit_any rfl v) rfl (by dsimp only; decide) (by
      have e : coachOf (PL_RCP1 k) = none := by
        unfold coachOf PL_RCP1
        rw [if_neg (by omega), if_neg (by omega), if_neg (by omega), if_neg (by omega), if_neg (by omega)]
      exact e)
    (by rw [hp]; dsimp only; rw [blockRefuses, lock_PL_RCP1, Bool.false_or]; rw [show v ||| (0 : Word) = v from BitVec.or_zero]; exact Bool.or_eq_false_iff.mpr ⟨rfl, hx⟩), hp]
  rw [storeWord_full rfl rfl rfl]
  rfl

theorem written_PL_RCP2 {m : Master} {v : Word} {s : State} (k : Fin 128) (h : s.mayWrite m (PL_RCP2 k)) (hx : s.recipeRefused = false) :
    regWrite m (PL_RCP2 k) v s = (plTo 1 ((s.setBad (PL_RCP2 k) false).wr (PL_RCP2 k) v)).answer m .done := by
  have hp : plainWord entry_PL_RCP2 v = ⟨v, 0, 0⟩ := by
    rw [plain_PL_RCP2]
  rw [plain_eq (l := ⟨.PL, 0, entry_PL_RCP2, k.val, false⟩) h (locate_PL_RCP2 k) (by unfold PL_RCP2; omega) rfl rfl rfl (by rw [show reservedBits entry_PL_RCP2 = 0x0 from by decide]; exact Word.and_zero v) rfl rfl (fieldsFit_any rfl v) rfl (by dsimp only; decide) (by
      have e : coachOf (PL_RCP2 k) = none := by
        unfold coachOf PL_RCP2
        rw [if_neg (by omega), if_neg (by omega), if_neg (by omega), if_neg (by omega), if_neg (by omega)]
      exact e)
    (by rw [hp]; dsimp only; rw [blockRefuses, lock_PL_RCP2, Bool.false_or]; rw [show v ||| (0 : Word) = v from BitVec.or_zero]; exact Bool.or_eq_false_iff.mpr ⟨rfl, hx⟩), hp]
  rw [storeWord_full rfl rfl rfl]
  rfl

theorem written_PL_RCP3 {m : Master} {v : Word} {s : State} (k : Fin 128) (h : s.mayWrite m (PL_RCP3 k)) (hx : s.recipeRefused = false) :
    regWrite m (PL_RCP3 k) v s = (plTo 1 ((s.setBad (PL_RCP3 k) false).wr (PL_RCP3 k) v)).answer m .done := by
  have hp : plainWord entry_PL_RCP3 v = ⟨v, 0, 0⟩ := by
    rw [plain_PL_RCP3]
  rw [plain_eq (l := ⟨.PL, 0, entry_PL_RCP3, k.val, false⟩) h (locate_PL_RCP3 k) (by unfold PL_RCP3; omega) rfl rfl rfl (by rw [show reservedBits entry_PL_RCP3 = 0x0 from by decide]; exact Word.and_zero v) rfl rfl (fieldsFit_any rfl v) rfl (by dsimp only; decide) (by
      have e : coachOf (PL_RCP3 k) = none := by
        unfold coachOf PL_RCP3
        rw [if_neg (by omega), if_neg (by omega), if_neg (by omega), if_neg (by omega), if_neg (by omega)]
      exact e)
    (by rw [hp]; dsimp only; rw [blockRefuses, lock_PL_RCP3, Bool.false_or]; rw [show v ||| (0 : Word) = v from BitVec.or_zero]; exact Bool.or_eq_false_iff.mpr ⟨rfl, hx⟩), hp]
  rw [storeWord_full rfl rfl rfl]
  rfl

theorem written_PL_RCPHDR {m : Master} {v : Word} {s : State} (k : Fin 4) (h : s.mayWrite m (PL_RCPHDR k)) (hx : s.recipeRefused = false) :
    regWrite m (PL_RCPHDR k) v s = (plTo 1 ((s.setBad (PL_RCPHDR k) false).wr (PL_RCPHDR k) v)).answer m .done := by
  have hp : plainWord entry_PL_RCPHDR v = ⟨v, 0, 0⟩ := by
    rw [plain_PL_RCPHDR]
  rw [plain_eq (l := ⟨.PL, 0, entry_PL_RCPHDR, k.val, false⟩) h (locate_PL_RCPHDR k) (by unfold PL_RCPHDR; omega) rfl rfl rfl (by rw [show reservedBits entry_PL_RCPHDR = 0x0 from by decide]; exact Word.and_zero v) rfl rfl (fieldsFit_any rfl v) rfl (by dsimp only; decide) (by
      have e : coachOf (PL_RCPHDR k) = none := by
        unfold coachOf PL_RCPHDR
        rw [if_neg (by omega), if_neg (by omega), if_neg (by omega), if_neg (by omega), if_neg (by omega)]
      exact e)
    (by rw [hp]; dsimp only; rw [blockRefuses, lock_PL_RCPHDR, Bool.false_or]; rw [show v ||| (0 : Word) = v from BitVec.or_zero]; exact Bool.or_eq_false_iff.mpr ⟨rfl, hx⟩), hp]
  rw [storeWord_full rfl rfl rfl]
  rfl

theorem written_PL_ORD {m : Master} {v : Word} {s : State} (k : Fin 128) (h : s.mayWrite m (PL_ORD k)) (hr : v &&& 0xffffff80 = 0) (hx : s.ordRefused = false) :
    regWrite m (PL_ORD k) v s = (((s.setBad (PL_ORD k) false).wr (PL_ORD k) (v ||| (s.rd (PL_ORD k) &&& ~~~ (0x7f : Word))))).answer m .done := by
  have hv : v &&& 0x7f = v := Word.and_of_rest (m := 0x7f) hr
  have hp : plainWord entry_PL_ORD v = ⟨v, 0, 0⟩ := by
    rw [plain_PL_ORD, hv]
  rw [plain_eq (l := ⟨.PL, 0, entry_PL_ORD, k.val, false⟩) h (locate_PL_ORD k) (by unfold PL_ORD; omega) rfl rfl rfl (by rw [show reservedBits entry_PL_ORD = 0xffffff80 from by decide]; exact hr) rfl rfl (fieldsFit_any rfl v) rfl (by dsimp only; decide) (by
      have e : coachOf (PL_ORD k) = none := by
        unfold coachOf PL_ORD
        rw [if_neg (by omega), if_neg (by omega), if_neg (by omega), if_neg (by omega), if_neg (by omega)]
      exact e)
    (by rw [hp]; dsimp only; rw [blockRefuses, lock_PL_ORD, Bool.false_or]; rw [show v ||| (0 : Word) = v from BitVec.or_zero]; exact Bool.or_eq_false_iff.mpr ⟨rfl, hx⟩), hp]
  rw [storeWord_value (k := 0x7f) rfl rfl rfl hv]
  rfl

theorem written_SD_CMD {m : Master} {v : Word} {s : State} (i : Fin 4) (h : s.mayWrite m (SD_CMD i)) (hr : v &&& 0xfffff0f0 = 0) (hf : fieldsFit (entry_SD_CMD).fields v = true) (hx : afeRefuses ⟨.SD, i.val, entry_SD_CMD, 0, false⟩ v s = false) :
    regWrite m (SD_CMD i) v s = (sdCommand i (wordField v 3 0) (wordField v 11 8) (s.touched (SD_CMD i))).answer m .done := by
  have hv : v &&& 0xf0f = v := Word.and_of_rest (m := 0xf0f) hr
  have hp : plainWord entry_SD_CMD v = ⟨0, 0, v⟩ := by
    rw [plain_SD_CMD, hv]
  rw [plain_eq (l := ⟨.SD, i.val, entry_SD_CMD, 0, false⟩) h (locate_SD_CMD i) (by unfold SD_CMD; omega) rfl rfl rfl (by rw [show reservedBits entry_SD_CMD = 0xfffff0f0 from by decide]; exact hr) rfl rfl (hf) rfl (by dsimp only; decide) (by
      have e : coachOf (SD_CMD i) = none := by
        unfold coachOf SD_CMD
        rw [if_neg (by omega), if_neg (by omega), if_neg (by omega), if_neg (by omega), if_neg (by omega)]
      exact e)
    (by rw [hp]; dsimp only; rw [blockRefuses, lock_SD_CMD, Bool.false_or]; rw [show (0 : Word) ||| v = v from BitVec.zero_or]; exact hx), hp]
  rw [storeWord_command rfl rfl]
  rfl

theorem written_EV_PEND {m : Master} {v : Word} {s : State} (k : Fin 4) (h : s.mayWrite m (EV_PEND k)) :
    regWrite m (EV_PEND k) v s = (((s.setBad (EV_PEND k) false).wr (EV_PEND k) (s.rd (EV_PEND k) &&& ~~~ v))).answer m .done := by
  have hp : plainWord entry_EV_PEND v = ⟨0, v, 0⟩ := by
    rw [plain_EV_PEND]
  rw [plain_eq (l := ⟨.EV, 0, entry_EV_PEND, k.val, false⟩) h (locate_EV_PEND k) (by unfold EV_PEND; omega) rfl rfl rfl (by rw [show reservedBits entry_EV_PEND = 0x0 from by decide]; exact Word.and_zero v) rfl rfl (fieldsFit_any rfl v) rfl (by dsimp only; decide) (by
      have e : coachOf (EV_PEND k) = none := by
        unfold coachOf EV_PEND
        rw [if_neg (by omega), if_neg (by omega), if_neg (by omega), if_neg (by omega), if_neg (by omega)]
      exact e)
    (by rw [hp]; dsimp only; rw [blockRefuses, lock_EV_PEND, Bool.false_or]), hp]
  rw [storeWord_clear rfl rfl rfl]
  rfl

theorem written_EV_EN {m : Master} {v : Word} {s : State} (k : Fin 4) (h : s.mayWrite m (EV_EN k)) :
    regWrite m (EV_EN k) v s = (((s.setBad (EV_EN k) false).wr (EV_EN k) v)).answer m .done := by
  have hp : plainWord entry_EV_EN v = ⟨v, 0, 0⟩ := by
    rw [plain_EV_EN]
  rw [plain_eq (l := ⟨.EV, 0, entry_EV_EN, k.val, false⟩) h (locate_EV_EN k) (by unfold EV_EN; omega) rfl rfl rfl (by rw [show reservedBits entry_EV_EN = 0x0 from by decide]; exact Word.and_zero v) rfl rfl (fieldsFit_any rfl v) rfl (by dsimp only; decide) (by
      have e : coachOf (EV_EN k) = none := by
        unfold coachOf EV_EN
        rw [if_neg (by omega), if_neg (by omega), if_neg (by omega), if_neg (by omega), if_neg (by omega)]
      exact e)
    (by rw [hp]; dsimp only; rw [blockRefuses, lock_EV_EN, Bool.false_or]), hp]
  rw [storeWord_full rfl rfl rfl]
  rfl

theorem written_EV_DOORBELL {m : Master} {v : Word} {s : State} (h : s.mayWrite m EV_DOORBELL) (hr : v &&& 0xfffffffe = 0) :
    regWrite m EV_DOORBELL v s = (evWritten ⟨.EV, 0, entry_EV_DOORBELL, 0, false⟩ ⟨0, 0, v⟩ (s.touched EV_DOORBELL)).answer m .done := by
  have hv : v &&& 0x1 = v := Word.and_of_rest (m := 0x1) hr
  have hp : plainWord entry_EV_DOORBELL v = ⟨0, 0, v⟩ := by
    rw [plain_EV_DOORBELL, hv]
  rw [plain_eq (l := ⟨.EV, 0, entry_EV_DOORBELL, 0, false⟩) h (locate_EV_DOORBELL) (by decide) rfl rfl rfl (by rw [show reservedBits entry_EV_DOORBELL = 0xfffffffe from by decide]; exact hr) rfl rfl (fieldsFit_any rfl v) rfl (by dsimp only; decide) (by decide)
    (by rw [hp]; dsimp only; rw [blockRefuses, lock_EV_DOORBELL, Bool.false_or]), hp]
  rw [storeWord_command rfl rfl]
  rfl

theorem written_SPM_CTL {m : Master} {v : Word} {s : State} (h : s.mayWrite m SPM_CTL) (hr : v &&& 0xfffffff8 = 0) (hx : s.spmBusy = false) :
    regWrite m SPM_CTL v s = (spmWritten ⟨.SPM, 0, entry_SPM_CTL, 0, false⟩ v (s.touched SPM_CTL)).answer m .done := by
  have hv : v &&& 0x7 = v := Word.and_of_rest (m := 0x7) hr
  have hp : plainWord entry_SPM_CTL v = ⟨0, 0, v⟩ := by
    rw [plain_SPM_CTL, hv]
  rw [plain_eq (l := ⟨.SPM, 0, entry_SPM_CTL, 0, false⟩) h (locate_SPM_CTL) (by decide) rfl rfl rfl (by rw [show reservedBits entry_SPM_CTL = 0xfffffff8 from by decide]; exact hr) rfl rfl (fieldsFit_any rfl v) rfl (by dsimp only; decide) (by decide)
    (by rw [hp]; dsimp only; rw [blockRefuses, lock_SPM_CTL, Bool.false_or]; rw [show (0 : Word) ||| v = v from BitVec.zero_or]; exact hx), hp]
  rw [storeWord_command rfl rfl]
  show (spmWritten ⟨.SPM, 0, entry_SPM_CTL, 0, false⟩ ((0 : Word) ||| v) _).answer m .done = _
  rw [Word.zero_or]
  rfl

theorem written_SPM_TXFIFO {m : Master} {v : Word} {s : State} (h : s.mayWrite m SPM_TXFIFO) (hx : decide (64 ≤ s.spm.tx.length) = false) :
    regWrite m SPM_TXFIFO v s = ((s.touched SPM_TXFIFO).modSpm fun p => { p with tx := (p.tx ++ [v]).take 64 }).answer m .done := by
  have hp : plainWord entry_SPM_TXFIFO v = ⟨0, 0, v⟩ := by
    rw [plain_SPM_TXFIFO]
  rw [plain_eq (l := ⟨.SPM, 0, entry_SPM_TXFIFO, 0, false⟩) h (locate_SPM_TXFIFO) (by decide) rfl rfl rfl (by rw [show reservedBits entry_SPM_TXFIFO = 0x0 from by decide]; exact Word.and_zero v) rfl rfl (fieldsFit_any rfl v) rfl (by dsimp only; decide) (by decide)
    (by rw [hp]; dsimp only; rw [blockRefuses, lock_SPM_TXFIFO, Bool.false_or]; rw [show (0 : Word) ||| v = v from BitVec.zero_or]; exact hx), hp]
  rw [storeWord_command rfl rfl]
  show (spmWritten ⟨.SPM, 0, entry_SPM_TXFIFO, 0, false⟩ ((0 : Word) ||| v) _).answer m .done = _
  rw [Word.zero_or]
  rfl

theorem written_SPM_CMD {m : Master} {v : Word} {s : State} (h : s.mayWrite m SPM_CMD) (hr : v &&& 0xe0000 = 0) (hf : fieldsFit (entry_SPM_CMD).fields v = true) (hgo : v.getLsbD 31 = true) (hx : spmRefuses ⟨.SPM, 0, entry_SPM_CMD, 0, false⟩ v s = false) :
    regWrite m SPM_CMD v s = (spmWritten ⟨.SPM, 0, entry_SPM_CMD, 0, false⟩ v ((s.setBad SPM_CMD false).wr SPM_CMD ((v &&& 0x7ff1ffff) ||| (s.rd SPM_CMD &&& ~~~ (0x7ff1ffff : Word))))).answer m .done := by
  have hv : v &&& 0xfff1ffff = v := Word.and_of_rest (m := 0xfff1ffff) hr
  have hp : plainWord entry_SPM_CMD v = ⟨v &&& 0x7ff1ffff, 0, v &&& 0x80000000⟩ := by
    rw [plain_SPM_CMD]
  have split : v &&& 0x7ff1ffff ||| v &&& 0x80000000 = v := by
    rw [← BitVec.and_or_distrib_left]
    exact hv
  have hg : wordField (v &&& 0x80000000) 31 31 = 1 := by
    have e : v &&& 0x80000000 = 0x80000000 := by
      refine BitVec.eq_of_getLsbD_eq fun i hi => ?_
      rw [BitVec.getLsbD_and]
      by_cases h31 : i = 31
      · subst h31
        rw [hgo]
        rfl
      · have z : (0x80000000 : Word).getLsbD i = false := by
          have : ∀ j : Fin 32, j.val ≠ 31 → (0x80000000 : Word).getLsbD j.val = false := by decide
          exact this ⟨i, hi⟩ h31
        rw [z, Bool.and_false]
    rw [e]
    decide
  have hs : stateClamps ⟨.SPM, 0, entry_SPM_CMD, 0, false⟩ (plainWord entry_SPM_CMD v) s = (plainWord entry_SPM_CMD v, []) := by
    rw [hp]
    show (if wordField (v &&& 0x80000000) 31 31 = 1 then _ else _ : WriteWord × List Clamp) = _
    rw [if_pos hg]
  rw [plain_clamp (l := ⟨.SPM, 0, entry_SPM_CMD, 0, false⟩) h (locate_SPM_CMD) (by decide) rfl rfl rfl (by rw [show reservedBits entry_SPM_CMD = 0xe0000 from by decide]; exact hr) rfl rfl (hf) rfl (by dsimp only; decide) hs (by decide)
    (by rw [hp]; dsimp only; rw [blockRefuses, lock_SPM_CMD, Bool.false_or]; exact (by rw [split]; exact hx)), hp]
  rw [show storeWord ⟨.SPM, 0, entry_SPM_CMD, 0, false⟩ SPM_CMD ⟨v &&& 0x7ff1ffff, 0, v &&& 0x80000000⟩ (s.setBad SPM_CMD false) = _ from storeWord_part (k := 0x7ff1ffff) rfl rfl rfl]
  show (spmWritten ⟨.SPM, 0, entry_SPM_CMD, 0, false⟩ (v &&& 0x7ff1ffff ||| v &&& 0x80000000) _).answer m .done = _
  rw [split]
  rfl

theorem written_MGS_UPDCTL {m : Master} {v : Word} {s : State} (h : s.mayWrite m MGS_UPDCTL) (hr : v &&& 0xfffffff0 = 0) (hf : fieldsFit (entry_MGS_UPDCTL).fields v = true) (hx : s.updRefused (wordField v 3 0) = false) (hk : s.locked = false) :
    regWrite m MGS_UPDCTL v s = (updCommand (wordField v 3 0) (s.touched MGS_UPDCTL)).answer m .done := by
  have hv : v &&& 0xf = v := Word.and_of_rest (m := 0xf) hr
  have hp : plainWord entry_MGS_UPDCTL v = ⟨0, 0, v⟩ := by
    rw [plain_MGS_UPDCTL, hv]
  rw [plain_eq (l := ⟨.MGS, 0, entry_MGS_UPDCTL, 0, false⟩) h (locate_MGS_UPDCTL) (by decide) rfl rfl rfl (by rw [show reservedBits entry_MGS_UPDCTL = 0xfffffff0 from by decide]; exact hr) rfl rfl (hf) rfl (by dsimp only; decide) (by decide)
    (by rw [hp]; dsimp only; rw [blockRefuses, lock_open hk, Bool.false_or]; rw [show (0 : Word) ||| v = v from BitVec.zero_or]; exact hx), hp]
  rw [storeWord_command rfl rfl]
  show (mgsWritten m ⟨.MGS, 0, entry_MGS_UPDCTL, 0, false⟩ (s.before ⟨.MGS, 0, entry_MGS_UPDCTL, 0, false⟩ MGS_UPDCTL) ((0 : Word) ||| v) _).answer m .done = _
  rw [Word.zero_or]
  rfl

theorem written_MGS_UPDDATA {m : Master} {v : Word} {s : State} (h : s.mayWrite m MGS_UPDDATA) (hx : mgsRefuses ⟨.MGS, 0, entry_MGS_UPDDATA, 0, false⟩ v s = false) :
    regWrite m MGS_UPDDATA v s = (updData v (s.touched MGS_UPDDATA)).answer m .done := by
  have hp : plainWord entry_MGS_UPDDATA v = ⟨0, 0, v⟩ := by
    rw [plain_MGS_UPDDATA]
  rw [plain_eq (l := ⟨.MGS, 0, entry_MGS_UPDDATA, 0, false⟩) h (locate_MGS_UPDDATA) (by decide) rfl rfl rfl (by rw [show reservedBits entry_MGS_UPDDATA = 0x0 from by decide]; exact Word.and_zero v) rfl rfl (fieldsFit_any rfl v) rfl (by dsimp only; decide) (by decide)
    (by rw [hp]; dsimp only; rw [blockRefuses, lock_MGS_UPDDATA, Bool.false_or]; rw [show (0 : Word) ||| v = v from BitVec.zero_or]; exact hx), hp]
  rw [storeWord_command rfl rfl]
  show (mgsWritten m ⟨.MGS, 0, entry_MGS_UPDDATA, 0, false⟩ (s.before ⟨.MGS, 0, entry_MGS_UPDDATA, 0, false⟩ MGS_UPDDATA) ((0 : Word) ||| v) _).answer m .done = _
  rw [Word.zero_or]
  rfl

theorem written_MGS_SECCMD {m : Master} {v : Word} {s : State} (h : s.mayWrite m MGS_SECCMD) (hr : v &&& 0xfffff0 = 0) (hf : fieldsFit (entry_MGS_SECCMD).fields v = true) (hx : mgsRefuses ⟨.MGS, 0, entry_MGS_SECCMD, 0, false⟩ v s = false)
    (hq : secRestricts m ⟨.MGS, 0, entry_MGS_SECCMD, 0, false⟩ v s = false) :
    regWrite m MGS_SECCMD v s = ((s.touched MGS_SECCMD).modMgs fun x => { x with sec := some ⟨wordField v 3 0, wordField v 31 24, (s.touched MGS_SECCMD).sessionOf m, m = .host⟩ }).answer m .done := by
  have hv : v &&& 0xff00000f = v := Word.and_of_rest (m := 0xff00000f) hr
  have hp : plainWord entry_MGS_SECCMD v = ⟨0, 0, v⟩ := by
    rw [plain_MGS_SECCMD, hv]
  rw [plain_eq (l := ⟨.MGS, 0, entry_MGS_SECCMD, 0, false⟩) h (locate_MGS_SECCMD) (by decide) rfl rfl rfl (by rw [show reservedBits entry_MGS_SECCMD = 0xfffff0 from by decide]; exact hr) rfl rfl (hf) rfl (by dsimp only; decide) (by decide)
    (by rw [hp]; dsimp only; rw [blockRefuses, lock_MGS_SECCMD, Bool.false_or]; rw [show (0 : Word) ||| v = v from BitVec.zero_or]; exact hx) hq, hp]
  rw [storeWord_command rfl rfl]
  show (mgsWritten m ⟨.MGS, 0, entry_MGS_SECCMD, 0, false⟩ (s.before ⟨.MGS, 0, entry_MGS_SECCMD, 0, false⟩ MGS_SECCMD) ((0 : Word) ||| v) _).answer m .done = _
  rw [Word.zero_or]
  rfl

theorem written_STEP_CNT {m : Master} {v : Word} {s : State} (i : Fin 8) (h : s.mayWrite m (STEP_CNT i)) :
    regWrite m (STEP_CNT i) v s = (((s.setBad (STEP_CNT i) false).wr (STEP_CNT i) v)).answer m .done := by
  have hp : plainWord entry_STEP_CNT v = ⟨v, 0, 0⟩ := by
    rw [plain_STEP_CNT]
  rw [plain_eq (l := ⟨.STEP, i.val, entry_STEP_CNT, 0, false⟩) h (locate_STEP_CNT i) (by unfold STEP_CNT; omega) rfl rfl rfl (by rw [show reservedBits entry_STEP_CNT = 0x0 from by decide]; exact Word.and_zero v) rfl rfl (fieldsFit_any rfl v) rfl (by dsimp only; decide) (by
      have e : coachOf (STEP_CNT i) = none := by
        unfold coachOf STEP_CNT
        rw [if_neg (by omega), if_neg (by omega), if_neg (by omega), if_neg (by omega), if_neg (by omega)]
      exact e)
    (by rw [hp]; dsimp only; rw [blockRefuses, lock_STEP_CNT, Bool.false_or]; rw [show v ||| (0 : Word) = v from BitVec.or_zero]; exact rfl), hp]
  rw [storeWord_full rfl rfl rfl]
  rfl

theorem written_ENC_CNT {m : Master} {v : Word} {s : State} (i : Fin 8) (h : s.mayWrite m (ENC_CNT i)) :
    regWrite m (ENC_CNT i) v s = (encSet i v (s.touched (ENC_CNT i))).answer m .done := by
  have hp : plainWord entry_ENC_CNT v = ⟨v, 0, 0⟩ := by
    rw [plain_ENC_CNT]
  rw [plain_eq (l := ⟨.ENC, i.val, entry_ENC_CNT, 0, false⟩) h (locate_ENC_CNT i) (by unfold ENC_CNT; omega) rfl rfl rfl (by rw [show reservedBits entry_ENC_CNT = 0x0 from by decide]; exact Word.and_zero v) rfl rfl (fieldsFit_any rfl v) rfl (by dsimp only; decide) (by
      have e : coachOf (ENC_CNT i) = none := by
        unfold coachOf ENC_CNT
        rw [if_neg (by omega), if_neg (by omega), if_neg (by omega), if_neg (by omega), if_neg (by omega)]
      exact e)
    (by rw [hp]; dsimp only; rw [blockRefuses, lock_ENC_CNT, Bool.false_or]; rw [show v ||| (0 : Word) = v from BitVec.or_zero]; exact rfl), hp]
  rw [storeWord_gone rfl]
  rfl

theorem written_CMP_POS {m : Master} {v : Word} {s : State} (i : Fin 8) (h : s.mayWrite m (CMP_POS i)) :
    regWrite m (CMP_POS i) v s = ((if (s.touched (CMP_POS i)).on (CMP_CFG.SRC i) then (s.touched (CMP_POS i)).modEnc i fun e => { e with posWr := some v } else cmpPosSet i v (s.touched (CMP_POS i)))).answer m .done := by
  have hp : plainWord entry_CMP_POS v = ⟨v, 0, 0⟩ := by
    rw [plain_CMP_POS]
  rw [plain_eq (l := ⟨.ENC, i.val, entry_CMP_POS, 0, false⟩) h (locate_CMP_POS i) (by unfold CMP_POS; omega) rfl rfl rfl (by rw [show reservedBits entry_CMP_POS = 0x0 from by decide]; exact Word.and_zero v) rfl rfl (fieldsFit_any rfl v) rfl (by dsimp only; decide) (by
      have e : coachOf (CMP_POS i) = none := by
        unfold coachOf CMP_POS
        rw [if_neg (by omega), if_neg (by omega), if_neg (by omega), if_neg (by omega), if_neg (by omega)]
      exact e)
    (by rw [hp]; dsimp only; rw [blockRefuses, lock_CMP_POS, Bool.false_or]; rw [show v ||| (0 : Word) = v from BitVec.or_zero]; exact rfl), hp]
  rw [storeWord_gone rfl]
  rfl

theorem written_AFE_IEXC {m : Master} {v : Word} {s : State} (h : s.mayWrite m AFE_IEXC) (hr : v &&& 0xf808f808 = 0) (hf : fieldsFit (entry_AFE_IEXC).fields v = true) (hx : afeRefuses ⟨.AFE, 0, entry_AFE_IEXC, 0, false⟩ v s = false) (hk : s.locked = false) :
    regWrite m AFE_IEXC v s = (sharedLand ((s.touched AFE_IEXC).setStaged AFE_IEXC ⟨v ||| ((s.stagedAt AFE_IEXC).value &&& ~~~ (0x7f707f7 : Word)), (s.stagedAt AFE_IEXC).mask ||| (0x7f707f7 : Word)⟩)).answer m .done := by
  have hv : v &&& 0x7f707f7 = v := Word.and_of_rest (m := 0x7f707f7) hr
  have hp : plainWord entry_AFE_IEXC v = ⟨v, 0, 0⟩ := by
    rw [plain_AFE_IEXC, hv]
  rw [plain_eq (l := ⟨.AFE, 0, entry_AFE_IEXC, 0, false⟩) h (locate_AFE_IEXC) (by decide) rfl rfl rfl (by rw [show reservedBits entry_AFE_IEXC = 0xf808f808 from by decide]; exact hr) rfl rfl (hf) rfl (by dsimp only; decide) (by decide)
    (by rw [hp]; dsimp only; rw [blockRefuses, lock_open hk, Bool.false_or]; rw [show v ||| (0 : Word) = v from BitVec.or_zero]; exact hx), hp]
  rw [storeWord_staged (k := 0x7f707f7) rfl rfl (by decide) rfl rfl hv]
  rfl

theorem written_AFE_VEXC {m : Master} {v : Word} {s : State} (h : s.mayWrite m AFE_VEXC) (hr : v &&& 0xfffffffc = 0) (hk : s.locked = false) :
    regWrite m AFE_VEXC v s = (sharedLand ((s.touched AFE_VEXC).setStaged AFE_VEXC ⟨v ||| ((s.stagedAt AFE_VEXC).value &&& ~~~ (0x3 : Word)), (s.stagedAt AFE_VEXC).mask ||| (0x3 : Word)⟩)).answer m .done := by
  have hv : v &&& 0x3 = v := Word.and_of_rest (m := 0x3) hr
  have hp : plainWord entry_AFE_VEXC v = ⟨v, 0, 0⟩ := by
    rw [plain_AFE_VEXC, hv]
  rw [plain_eq (l := ⟨.AFE, 0, entry_AFE_VEXC, 0, false⟩) h (locate_AFE_VEXC) (by decide) rfl rfl rfl (by rw [show reservedBits entry_AFE_VEXC = 0xfffffffc from by decide]; exact hr) rfl rfl (fieldsFit_any rfl v) rfl (by dsimp only; decide) (by decide)
    (by rw [hp]; dsimp only; rw [blockRefuses, lock_open hk, Bool.false_or]; rw [show v ||| (0 : Word) = v from BitVec.or_zero]; exact rfl), hp]
  rw [storeWord_staged (k := 0x3) rfl rfl (by decide) rfl rfl hv]
  rfl

theorem written_AFE_TDAC {m : Master} {v : Word} {s : State} (h : s.mayWrite m AFE_TDAC) (hr : v &&& 0xfffff000 = 0) (hk : s.locked = false) :
    regWrite m AFE_TDAC v s = (sharedLand ((s.touched AFE_TDAC).setStaged AFE_TDAC ⟨v ||| ((s.stagedAt AFE_TDAC).value &&& ~~~ (0xfff : Word)), (s.stagedAt AFE_TDAC).mask ||| (0xfff : Word)⟩)).answer m .done := by
  have hv : v &&& 0xfff = v := Word.and_of_rest (m := 0xfff) hr
  have hp : plainWord entry_AFE_TDAC v = ⟨v, 0, 0⟩ := by
    rw [plain_AFE_TDAC, hv]
  rw [plain_eq (l := ⟨.AFE, 0, entry_AFE_TDAC, 0, false⟩) h (locate_AFE_TDAC) (by decide) rfl rfl rfl (by rw [show reservedBits entry_AFE_TDAC = 0xfffff000 from by decide]; exact hr) rfl rfl (fieldsFit_any rfl v) rfl (by dsimp only; decide) (by decide)
    (by rw [hp]; dsimp only; rw [blockRefuses, lock_open hk, Bool.false_or]; rw [show v ||| (0 : Word) = v from BitVec.or_zero]; exact rfl), hp]
  rw [storeWord_staged (k := 0xfff) rfl rfl (by decide) rfl rfl hv]
  rfl

/-- A write of the linearisation store clamps NS in a header word, and records it, R87 and R278. -/
theorem written_SD_LINDATA {m : Master} {v : Word} {s : State} (i : Fin 4) (h : s.mayWrite m (SD_LINDATA i))
    (hx : afeRefuses ⟨.SD, i.val, entry_SD_LINDATA, 0, false⟩ (linStored (s.get (SD_LINADDR.ADDR i) % 528) v) s = false)
    (hk : s.locked = false) :
    regWrite m (SD_LINDATA i) v s
      = (afeWritten ⟨.SD, i.val, entry_SD_LINDATA, 0, false⟩ (s.before ⟨.SD, i.val, entry_SD_LINDATA, 0, false⟩ (SD_LINDATA i)) 0
          (linStored (s.get (SD_LINADDR.ADDR i) % 528) v)
          ((recordClamps (SD_LINDATA i) (mergeClamps []
            (clampOf 8 (wordField v 10 8) (wordField (linStored (s.get (SD_LINADDR.ADDR i) % 528) v) 10 8))) s).touched
              (SD_LINDATA i))).answer m .done := by
  have hp : plainWord entry_SD_LINDATA v = ⟨v, 0, 0⟩ := by
    rw [plain_SD_LINDATA]
  have hco : coachOf (SD_LINDATA i) = none := by
    unfold coachOf SD_LINDATA
    rw [if_neg (by omega), if_neg (by omega), if_neg (by omega), if_neg (by omega), if_neg (by omega)]
  have hd := decodeWrite_fit (l := ⟨.SD, i.val, entry_SD_LINDATA, 0, false⟩) (s := s)
    (old := s.before ⟨.SD, i.val, entry_SD_LINDATA, 0, false⟩ (SD_LINDATA i)) (v := v) rfl (fieldsFit_any rfl v)
    (relateFields_none rfl (by dsimp only; decide) (by dsimp only; decide))
  rw [clamped_eq (l := ⟨.SD, i.val, entry_SD_LINDATA, 0, false⟩) (x := plainWord entry_SD_LINDATA v)
      (y := ⟨linStored (s.get (SD_LINADDR.ADDR i) % 528) v, 0, 0⟩) h (locate_SD_LINDATA i) (by unfold SD_LINDATA; omega) rfl rfl rfl
      (by rw [show reservedBits entry_SD_LINDATA = 0x0 from by decide]; exact Word.and_zero v) rfl hd (by rw [hp]; rfl) ?_ hco,
    performWrite, rewritten_eq hco, storeWord_gone rfl]
  · generalize linStored (s.get (SD_LINADDR.ADDR i) % 528) v = y
    generalize recordClamps (SD_LINDATA i) (mergeClamps [] (clampOf 8 (wordField v 10 8) (wordField y 10 8))) s = u
    show (afeWritten ⟨.SD, i.val, entry_SD_LINDATA, 0, false⟩ (s.before ⟨.SD, i.val, entry_SD_LINDATA, 0, false⟩ (SD_LINDATA i)) 0
      (y ||| (0 : Word)) ((u.setBad (SD_LINDATA i) false).wr (SD_LINDATA i) ((u.setBad (SD_LINDATA i) false).rd (SD_LINDATA i)))).answer
        m .done = _
    rw [Word.or_zero]
    rfl
  · rw [blockRefuses, lock_open hk, Bool.false_or]
    rw [show (linStored (s.get (SD_LINADDR.ADDR i) % 528) v ||| (0 : Word)) = _ from BitVec.or_zero]
    exact hx

end Sys2Proof.Machine
end

