-- ==== Sys2Proof/Laws/Pairs.lean ====
section
/-!
SUPPORT. Laws/Pairs.lean: 64-bit pairs: the read shadow and the write stage of a master, and what writes and reads of the two
words do when every check of R72 lets them pass.
-/

namespace Sys2Proof.Machine

set_option Elab.async false

@[simp] theorem State.port_setPort (s : State) (m : Master) (p : PairPort) : (s.setPort m p).port m = p := by
  cases m <;> rfl

@[simp] theorem State.port_answer (s : State) (m n : Master) (r : Reply) : (s.answer n r).port m = s.port m := by
  cases m <;> rfl

@[simp] theorem State.port_setStaged (s : State) (m : Master) (a : Nat) (x : Staged) : (s.setStaged a x).port m = s.port m := by
  cases m <;> rfl

@[simp] theorem State.port_setBad (s : State) (m : Master) (a : Nat) (x : Bool) : (s.setBad a x).port m = s.port m := by
  cases m <;> rfl

@[simp] theorem State.rd_setPort (s : State) (m : Master) (p : PairPort) (a : Nat) : (s.setPort m p).rd a = s.rd a := by
  cases m <;> rfl

@[simp] theorem State.stagedAt_setPort (s : State) (m : Master) (p : PairPort) (a : Nat) :
    (s.setPort m p).stagedAt a = s.stagedAt a := by
  cases m <;> rfl

@[simp] theorem State.reply_setPort (s : State) (m n : Master) (p : PairPort) : (s.setPort m p).reply n = s.reply n := by
  cases m <;> rfl

theorem State.setPort_parts (s : State) (m : Master) (p : PairPort) :
    Ok [.hostPair, .trioPair, .mgsPair, .canPair] s (s.setPort m p) := by
  cases m <;> exact ⟨⟨fun q hq => by cases q <;> first | rfl | trivial, .inr fun _ _ => rfl⟩,
    fun g => { g with }⟩

theorem Ok.frame {W : List Part} {s t : State} (h : Ok W s t) : Frame W s t := h.1

theorem coachOf_low {addr : Nat} (h : addr < 0x20000) : coachOf addr = none := if_pos h

theorem coachOf_high {addr : Nat} (h : 0x29400 ≤ addr) : coachOf addr = none := by
  unfold coachOf
  rw [if_neg (by omega), if_neg (by omega), if_neg (by omega), if_neg (by omega), if_neg (by omega)]

/-- A write of a LO word waits in the stage of its master, R90. -/
theorem pairLoWrite_eq {m : Master} {addr : Nat} {v : Word} {s : State} {l : Loc} (h : s.mayWrite m addr)
    (hl : locate addr = some l) (ha : addr < 0x100000) (hp : l.defn.pair = .lo)
    (hs : ∀ x, (s.port m).stage = some x → x.1 = addr) :
    regWrite m addr v s = (s.setPort m { s.port m with stage := some (addr, v) }).answer m .done := by
  unfold regWrite busWrite
  rw [s.mayWrite_target h hl ha, h.1]
  dsimp only
  rw [hp]
  simp only [Bool.false_eq_true, if_false]
  unfold stageLo
  cases e : (s.port m).stage with
  | none => simp [applyIf, e]
  | some x => simp [applyIf, e, hs x e]

/-- A write of a HI word whose LO word waits commits the pair, R90. -/
theorem pairHiWrite_eq {m : Master} {addr : Nat} {lo v : Word} {s : State} {l l' : Loc} (h : s.mayWrite m addr)
    (hl : locate addr = some l) (ha : addr < 0x100000) (hp : l.defn.pair = .hi) (hl' : locate (addr - 4) = some l')
    (hs : (s.port m).stage = some (addr - 4, lo)) :
    regWrite m addr v s = commitPair m addr (addr - 4) l' lo v (s.setPort m { s.port m with stage := none }) := by
  unfold regWrite busWrite
  rw [s.mayWrite_target h hl ha, h.1]
  dsimp only
  rw [hp]
  simp only [Bool.false_eq_true, if_false]
  unfold commitHi
  dsimp only
  rw [hs, hl']
  dsimp only
  rw [if_pos rfl]

/-- A read that passes checks 1 to 3 reaches what stands at its address. -/
theorem State.mayRead_target {s : State} {m : Master} {addr : Nat} {l : Loc} (h : s.mayRead m addr) (hl : locate addr = some l)
    (ha : addr < 0x100000) : accessCheck m .word addr false s = .ok (.reg l) := by
  obtain ⟨-, t, ht⟩ := h
  rw [ht]
  have e : targetOf addr = some (.reg l) := by simp [targetOf, ha, hl]
  unfold accessCheck at ht
  dsimp only at ht
  split at ht
  · cases ht
  · split at ht
    · cases ht
    · rw [e] at ht
      dsimp only at ht
      split at ht
      · cases ht
      · split at ht
        · cases ht
        · split at ht
          · cases ht
          · exact ht.symm ▸ rfl

/-- A read of a register held in the hub, whose word does not fail parity. -/
theorem busRead_eq {m : Master} {addr : Nat} {s : State} {l : Loc} (h : s.mayRead m addr)
    (hl : locate addr = some l) (ha : addr < 0x100000) (hc : l.compl = false) (hb : s.isBad addr = false)
    (he : coachOf addr = none) :
    busRead m .word addr s = match l.defn.pair with
      | .lo => readLo m addr l s
      | .hi => readHi m addr l s
      | .none => (readAct m l (s.readWord l addr) s).2.answer m (.data (readAct m l (s.readWord l addr) s).1) := by
  unfold busRead
  rw [s.mayRead_target h hl ha, h.1]
  dsimp only
  unfold regRead
  dsimp only
  rw [hc]
  simp only [Bool.false_eq_true, if_false]
  rw [hb, he]
  cases l.defn.pair <;> rfl

end Sys2Proof.Machine
end

