-- ==== Sys2Proof/Laws/Guarded.lean ====
section
/-!
SUPPORT. Laws/Guarded.lean: what a write does that every check of R72 lets pass, for the guarded registers (R76), the masked
ones (R74), and those that stand at a coach (R17).
-/

namespace Sys2Proof.Machine

set_option Elab.async false

/-- An accepted store command. -/
theorem written_GCTL_STORE {m : Master} {s : State} {k : Nat} (h : s.mayGuard m GCTL_STORE) (h1 : 1 ≤ k) (h4 : k ≤ 4)
    (hk : s.locked = false) (hx : s.storeRefused k = false) :
    guardedWrite m GCTL_STORE (BitVec.ofNat 32 k) s = (storeBegin k ((s.closed m GCTL_STORE).touched GCTL_STORE)).answer m .done := by
  have hk' : k = 1 ∨ k = 2 ∨ k = 3 ∨ k = 4 := by omega
  have hb : gctlRefuses ⟨.GCTL, 0, entry_GCTL_STORE, 0, false⟩ (BitVec.ofNat 32 k) (s.closed m GCTL_STORE) = false := by
    rcases hk' with rfl | rfl | rfl | rfl <;> exact hx
  rw [guardedWrite_eq (x := ⟨BitVec.ofNat 32 k, 0, 0⟩) (l := ⟨.GCTL, 0, entry_GCTL_STORE, 0, false⟩) h locate_GCTL_STORE locate_GCTL_STORE_compl (by decide) rfl rfl rfl
    (by rcases hk' with rfl | rfl | rfl | rfl <;> decide) rfl ?_ rfl ?_ (by decide)]
  · rw [performWrite, rewritten_eq (by decide), storeWord_gone rfl]
    rcases hk' with rfl | rfl | rfl | rfl <;> rfl
  · rw [decodeWrite_fit rfl (by rcases hk' with rfl | rfl | rfl | rfl <;> decide) (relateFields_none rfl (by decide) (by decide))]
    rcases hk' with rfl | rfl | rfl | rfl <;> rfl
  · rw [blockRefuses, lock_open (by exact hk), Bool.false_or]
    dsimp only
    rw [Word.or_zero]
    exact hb

/-- A write of the power domains. -/
theorem written_GCTL_PWRDOM {m : Master} {s : State} {v : Word} (h : s.mayGuard m GCTL_PWRDOM) (hr : v &&& 0x7FFFF00E = 0)
    (hx : ((List.range 4).any fun c => !v.getLsbD (4 + c) && !v.getLsbD (8 + c) && s.coachWork c) = false) :
    guardedWrite m GCTL_PWRDOM v s = (powerWritten (s.latest GCTL_PWRDOM) v (((s.closed m GCTL_PWRDOM).setBad GCTL_PWRDOM false).wr
      GCTL_PWRDOM ((v &&& 0xF1) ||| (s.rd GCTL_PWRDOM &&& 0xFFFFFF0E)))).answer m .done := by
  have hv : v &&& 0x80000ff1 = v := Word.and_of_rest (m := 0x80000ff1) hr
  have hp : plainWord entry_GCTL_PWRDOM v = ⟨v, 0, 0⟩ := by rw [plain_GCTL_PWRDOM, hv]
  rw [guardedWrite_eq (x := ⟨v, 0, 0⟩) (l := ⟨.GCTL, 0, entry_GCTL_PWRDOM, 0, false⟩) h locate_GCTL_PWRDOM locate_GCTL_PWRDOM_compl (by decide) rfl rfl rfl
    (by rw [show reservedBits entry_GCTL_PWRDOM = 0x7FFFF00E from by decide]; exact hr) rfl ?_ rfl ?_ (by decide)]
  · rw [performWrite, rewritten_eq (by decide)]
    have e : storeWord ⟨.GCTL, 0, entry_GCTL_PWRDOM, 0, false⟩ GCTL_PWRDOM ⟨v, 0, 0⟩ ((s.closed m GCTL_PWRDOM).setBad GCTL_PWRDOM false)
        = ((s.closed m GCTL_PWRDOM).setBad GCTL_PWRDOM false).wr GCTL_PWRDOM ((v &&& 0xF1) ||| (s.rd GCTL_PWRDOM &&& 0xFFFFFF0E)) := by
      unfold storeWord
      dsimp only
      rw [show entry_GCTL_PWRDOM.maskOf FieldDef.buffered = 0 from rfl, show entry_GCTL_PWRDOM.maskOf FieldDef.isValue = 0x80000ff1 from rfl,
        show unstored entry_GCTL_PWRDOM.reg = 0x80000F00 from rfl]
      simp only [Word.zero_and, ite_self, if_true, Word.not_zero, Word.and_ones]
      rw [show (0x80000ff1 : Word) &&& ~~~ (0x80000F00 : Word) = 0xF1 from by decide, show ~~~ (0xF1 : Word) = 0xFFFFFF0E from by decide]
      rfl
    rw [e]
    rfl
  · rw [decodeWrite_fit rfl (fieldsFit_any rfl v) (relateFields_none rfl (by decide) (by decide))]
    exact congrArg (fun x => some (x, [])) hp
  · rw [blockRefuses, lock_GCTL_PWRDOM, Bool.false_or]
    dsimp only
    rw [Word.or_zero]
    exact hx

/-- What a write asks of a masked register all of whose values are legal, R74. -/
theorem decodeWrite_masked {l : Loc} {old v : Word} {s : State} (hm : l.defn.masked = true) (hf : fieldsAny l.defn.fields = true)
    (hx : relation l.defn.reg = none) (h0 : l.defn.reg ≠ .AX_RESBAND0) (h1 : l.defn.reg ≠ .AX_RESBAND1) :
    decodeWrite l old v s = some (
      ⟨((v &&& (v >>> 16) &&& 0xFFFF) ||| (old &&& ~~~ (v >>> 16))) &&& l.defn.maskOf FieldDef.isValue,
        v &&& (v >>> 16) &&& l.defn.maskOf (fun f => f.ty = .w1c),
        ((v &&& (v >>> 16) &&& 0xFFFF) ||| (old &&& ~~~ (v >>> 16))) &&& l.defn.maskOf (fun f => f.ty = .wo) &&& (v >>> 16 &&& 0xFFFF)⟩, []) := by
  have e : dataMask l.defn v = v >>> 16 := by
    unfold dataMask
    rw [hm]
    rfl
  unfold decodeWrite
  dsimp only
  rw [e, hm]
  simp only [if_true]
  rw [checkFields_fit (fieldsFit_any hf _)]
  dsimp only
  rw [relateFields_none hx h0 h1]
  rfl

/-- A write of a register without buffered fields writes its word. -/
theorem storeWord_word {l : Loc} {addr : Nat} {x : WriteWord} {s : State} (h : l.defn.maskOf FieldDef.buffered = 0) :
    ∃ w, storeWord l addr x s = s.wr addr w := by
  unfold storeWord
  dsimp only
  rw [h]
  simp only [Word.zero_and, ite_self, if_true]
  exact ⟨_, rfl⟩

theorem runWord_field {r : Nat} (hr : r ≤ 3) (old : Word) :
    wordField ((((BitVec.ofNat 32 (0x70000 + r) : Word) &&& ((BitVec.ofNat 32 (0x70000 + r) : Word) >>> 16) &&& 0xFFFF) |||
      (old &&& ~~~ ((BitVec.ofNat 32 (0x70000 + r) : Word) >>> 16))) &&& 0x7FF) 2 0 = r := by
  refine Nat.eq_of_testBit_eq fun i => ?_
  have h : r = 0 ∨ r = 1 ∨ r = 2 ∨ r = 3 := by omega
  rw [testBit_wordField]
  by_cases h3 : i < 3
  · have hi : i = 0 ∨ i = 1 ∨ i = 2 := by omega
    rcases h with rfl | rfl | rfl | rfl <;> rcases hi with rfl | rfl | rfl <;> simp <;> decide
  · have : r.testBit i = false := by
      refine Nat.testBit_lt_two_pow (Nat.lt_of_lt_of_le (by omega : r < 2 ^ 3) (Nat.pow_le_pow_right (by decide) (by omega)))
    rw [this, decide_eq_false (by omega)]
    rfl

/-- A request of a run state, R54: the other bits of the word keep what they read. -/
theorem written_GCTL_RUNCTL {m : Master} {s : State} {r : Nat} (h : s.mayWrite m GCTL_RUNCTL) (hr : r ≤ 3) :
    ∃ w, regWrite m GCTL_RUNCTL (BitVec.ofNat 32 (0x70000 + r)) s
      = (runRequest r ((s.setBad GCTL_RUNCTL false).wr GCTL_RUNCTL w)).answer m .done := by
  have hk' : r = 0 ∨ r = 1 ∨ r = 2 ∨ r = 3 := by omega
  have hd := fun old => decodeWrite_masked (l := ⟨.GCTL, 0, entry_GCTL_RUNCTL, 0, false⟩) (old := old) (v := BitVec.ofNat 32 (0x70000 + r)) (s := s) rfl rfl rfl (by decide) (by decide)
  rw [regWrite_eq h locate_GCTL_RUNCTL (by decide) rfl rfl rfl ?_ rfl (hd _) rfl ?_ (by decide)]
  · obtain ⟨w, hw⟩ := storeWord_word (l := ⟨.GCTL, 0, entry_GCTL_RUNCTL, 0, false⟩) (addr := GCTL_RUNCTL) (s := s.setBad GCTL_RUNCTL false)
      (x := ⟨_, _, _⟩) (by rfl)
    refine ⟨w, ?_⟩
    rw [performWrite, rewritten_eq (by decide), hw]
    show (runWritten _ _ _).answer m .done = _
    unfold runWritten
    rw [if_neg (by rcases hk' with rfl | rfl | rfl | rfl <;> decide)]
    dsimp only
    rw [show entry_GCTL_RUNCTL.maskOf FieldDef.isValue = 0x7FF from rfl, runWord_field hr]
  · rcases hk' with rfl | rfl | rfl | rfl <;> decide
  · rw [blockRefuses, lock_none rfl (by dsimp only; decide)]
    rfl

end Sys2Proof.Machine
end

