-- ==== Sys2Proof/Laws/OkHostOps.lean ====
section
/-!
SUPPORT. Laws/OkHostOps.lean: for each operation of Machine/HostOps.lean, the parts of the state it can change, and that it keeps a
good state good.
-/

namespace Sys2Proof.Machine

set_option Elab.async false

theorem State.modSph_ok : ∀ s x1, Ok [.sph] s (@State.modSph s x1) := by
  intro s x1
  delta State.modSph
  refine Ok.via Ok.sph rfl ?_
  exact Ok.refl

theorem hostCause_ok : ∀ x0 x1 x2 s, Ok [.trioQ, .emcyQ, .logQ, .logWin, .power, .reg .EV_PEND, .reg .MGS_LOGSTAT, .reg .SPH_CNT, .reg .SPH_ERR, .reg .SPH_ERRCODE] s (@hostCause x0 x1 x2 s) := by
  intro x0 x1 x2 s
  delta hostCause
  extract_lets +onlyGivenNames -merge -useContext s0
  refine Ok.withS (x := s0) ?_ fun h1 => ?_
  · unfold s0
    refine Ok.ite ?_ ?_
    · refine Ok.via (State.put_at (at_SPH_ERR)) rfl ?_
      exact Ok.refl
    · refine Ok.via (State.put_at (at_SPH_ERRCODE)) rfl ?_
      refine Ok.via (State.put_at (at_SPH_ERR)) rfl ?_
      refine Ok.via (State.put_at (at_SPH_ERR)) rfl ?_
      refine Ok.via (State.put_at (at_SPH_ERR)) rfl ?_
      exact Ok.refl
  clear_value s0
  extract_lets +onlyGivenNames -merge -useContext s2
  refine Ok.withS (x := s2) ?_ fun h3 => ?_
  · unfold s2
    refine Ok.ite ?_ ?_
    · refine Ok.via (State.inc_at (at_SPH_CNT)) rfl ?_
      exact h1
    · refine Ok.ite ?_ ?_
      · refine Ok.via (State.inc_at (at_SPH_CNT)) rfl ?_
        exact h1
      · exact h1
  clear_value s2
  refine Ok.via (pendD4_ok ..) rfl ?_
  exact h3

theorem hostFail_ok : ∀ x0 x1 x2 s, Ok [.trioQ, .emcyQ, .logQ, .logWin, .power, .sph, .reg .EV_PEND, .reg .MGS_LOGSTAT, .reg .SPH_CNT, .reg .SPH_ERR, .reg .SPH_ERRCODE] s (@hostFail x0 x1 x2 s) := by
  intro x0 x1 x2 s
  delta hostFail
  refine Ok.via (State.modSph_ok ..) rfl ?_
  refine Ok.via (hostCause_ok ..) rfl ?_
  exact Ok.refl

theorem sendBytes_ok : ∀ x0 s, Ok [.sph] s (@sendBytes x0 s) := by
  intro x0 s
  delta sendBytes
  refine Ok.via (State.modSph_ok ..) rfl ?_
  exact Ok.refl

theorem deadSlot_ok : ∀ s, Ok [.sph] s (@deadSlot s) := by
  intro s
  delta deadSlot
  refine Ok.via (sendBytes_ok ..) rfl ?_
  refine Ok.via (State.modSph_ok ..) rfl ?_
  exact Ok.refl

theorem countWord_ok : ∀ s, Ok [.sph, .reg .SPH_STAT] s (@countWord s) := by
  intro s
  delta countWord
  refine Ok.ite ?_ ?_
  · refine Ok.via (State.modSph_ok ..) rfl ?_
    exact Ok.refl
  · refine Ok.ite ?_ ?_
    · refine Ok.via (State.inc_at (at_SPH_STAT)) rfl ?_
      exact Ok.refl
    · exact Ok.refl

theorem splitGuards_ok : ∀ s, Ok [.guards, .trioQ, .emcyQ, .logQ, .logWin, .power, .reg .EV_PEND, .reg .GCTL_BUSERR, .reg .GCTL_BUSERRADDR, .reg .GCTL_BUSERRCNT, .reg .MGS_LOGSTAT] s (@splitGuards s) := by
  intro s
  delta splitGuards
  refine Ok.forEach ?_ ?_
  · intro a0 a1
    split
    · exact Ok.refl
    · refine Ok.ite ?_ ?_
      · refine Ok.via (guardTimeout_ok ..) rfl ?_
        exact Ok.refl
      · exact Ok.refl
  · exact Ok.refl

theorem issued_ok : ∀ s, Ok [.guards, .trioQ, .emcyQ, .logQ, .logWin, .power, .sph, .reg .EV_PEND, .reg .GCTL_BUSERR, .reg .GCTL_BUSERRADDR, .reg .GCTL_BUSERRCNT, .reg .MGS_LOGSTAT] s (@issued s) := by
  intro s
  delta issued
  refine Ok.applyIf ?_ ?_
  · intro a0
    refine Ok.via (splitGuards_ok ..) rfl ?_
    exact Ok.refl
  · refine Ok.via (State.modSph_ok ..) rfl ?_
    exact Ok.refl

theorem writeFailed_ok : ∀ x0 x1 s, Ok [.guards, .trioQ, .emcyQ, .logQ, .logWin, .power, .sph, .reg .EV_PEND, .reg .GCTL_BUSERR, .reg .GCTL_BUSERRADDR, .reg .GCTL_BUSERRCNT, .reg .MGS_LOGSTAT, .reg .SPH_CNT, .reg .SPH_ERR, .reg .SPH_ERRCODE] s (@writeFailed x0 x1 s) := by
  intro x0 x1 s
  delta writeFailed
  refine Ok.ite ?_ ?_
  · refine Ok.via (State.modSph_ok ..) rfl ?_
    refine Ok.via (hostFail_ok ..) rfl ?_
    exact Ok.refl
  · extract_lets +onlyGivenNames -merge -useContext s0
    clear_value s0
    extract_lets +onlyGivenNames -merge -useContext s1
    clear_value s1
    extract_lets +onlyGivenNames -merge -useContext s2
    refine Ok.withS (x := s2) ?_ fun h4 => ?_
    · unfold s2
      refine Ok.applyIf ?_ ?_
      · intro a3
        refine Ok.via (State.inc_at (at_SPH_CNT)) rfl ?_
        exact Ok.refl
      · refine Ok.via (hostCause_ok ..) rfl ?_
        exact Ok.refl
    clear_value s2
    extract_lets +onlyGivenNames -merge -useContext s5
    refine Ok.withS (x := s5) ?_ fun h6 => ?_
    · unfold s5
      refine Ok.via (State.modSph_ok ..) rfl ?_
      exact h4
    clear_value s5
    refine Ok.via (issued_ok ..) rfl ?_
    refine Ok.via (State.modSph_ok ..) rfl ?_
    exact h6

theorem issueWords_ok : ∀ l s, Ok [.regs, .snap, .staged, .bad, .replies, .guards, .hostPair, .trioPair, .mgsPair, .canPair, .ticks, .free, .trioQ, .emcyQ, .logQ, .logWin, .legs, .coils, .coaches, .trips, .runs, .axes, .pl, .power, .syncOut, .encs, .stepLast, .stepDir, .sds, .afe, .trio, .mgs, .net, .sph, .spm, .nvm] s (issueWords l s)
  | [], s => (issued_ok ..).mono rfl
  | (a, w) :: l, s => by
    unfold issueWords
    have h := (busWrite_ok .host .word a w s)
    generalize busWrite .host .word a w s = t at h ⊢
    dsimp only
    split
    · exact Ok.via (State.modSph_ok ..) rfl h
    · exact Ok.via (writeFailed_ok ..) rfl h
    · exact Ok.via (issueWords_ok l _) rfl (Ok.via (countWord_ok ..) rfl h)

theorem issueBlock_ok : ∀ s, Ok (.regs :: .snap :: .staged :: .bad :: .replies :: .guards :: .hostPair :: .trioPair :: .mgsPair :: .canPair :: .ticks :: .free :: .trioQ :: .emcyQ :: .logQ :: .logWin :: .legs :: .coils :: .coaches :: .trips :: .runs :: .axes :: .pl :: .power :: .syncOut :: .encs :: .stepLast :: .stepDir :: .sds :: .afe :: .trio :: .mgs :: .net :: .sph :: .spm :: .nvm :: []) s (@issueBlock s) := by
  intro s
  delta issueBlock
  extract_lets +onlyGivenNames -merge -useContext s0
  clear_value s0
  refine Ok.via (issueWords_ok ..) rfl ?_
  refine Ok.via (State.modSph_ok ..) rfl ?_
  exact Ok.refl

theorem closePrev_ok : ∀ s, Ok [.guards, .trioQ, .emcyQ, .logQ, .logWin, .power, .sph, .reg .EV_PEND, .reg .GCTL_BUSERR, .reg .GCTL_BUSERRADDR, .reg .GCTL_BUSERRCNT, .reg .MGS_LOGSTAT, .reg .SPH_CNT, .reg .SPH_STAT] s (@closePrev s) := by
  intro s
  delta closePrev
  extract_lets +onlyGivenNames -merge -useContext s0
  refine Ok.withS (x := s0) ?_ fun h2 => ?_
  · unfold s0
    refine Ok.applyIf ?_ ?_
    · intro a1
      refine Ok.via (splitGuards_ok ..) rfl ?_
      exact Ok.refl
    · exact Ok.refl
  clear_value s0
  extract_lets +onlyGivenNames -merge -useContext s3
  clear_value s3
  extract_lets +onlyGivenNames -merge -useContext s4
  refine Ok.withS (x := s4) ?_ fun h5 => ?_
  · unfold s4
    refine Ok.via (State.put_at (at_SPH_STAT)) rfl ?_
    refine Ok.via (State.put_at (at_SPH_STAT)) rfl ?_
    exact h2
  clear_value s4
  extract_lets +onlyGivenNames -merge -useContext s6
  refine Ok.withS (x := s6) ?_ fun h8 => ?_
  · unfold s6
    refine Ok.applyIf ?_ ?_
    · intro a7
      refine Ok.via (State.inc_at (at_SPH_CNT)) rfl ?_
      exact Ok.refl
    · exact h5
  clear_value s6
  refine Ok.via (State.modSph_ok ..) rfl ?_
  exact h8

theorem closeIdle_ok : ∀ s, Ok [.guards, .trioQ, .emcyQ, .logQ, .logWin, .power, .sph, .reg .EV_PEND, .reg .GCTL_BUSERR, .reg .GCTL_BUSERRADDR, .reg .GCTL_BUSERRCNT, .reg .MGS_LOGSTAT, .reg .SPH_CNT, .reg .SPH_STAT] s (@closeIdle s) := by
  intro s
  delta closeIdle
  extract_lets +onlyGivenNames -merge -useContext s0
  clear_value s0
  refine Ok.ite ?_ ?_
  · refine Ok.via (closePrev_ok ..) rfl ?_
    exact Ok.refl
  · exact Ok.refl

theorem readTaken_ok : ∀ x0 x1 s, Ok [.sph] s (@readTaken x0 x1 s) := by
  intro x0 x1 s
  delta readTaken
  refine Ok.via (State.modSph_ok ..) rfl ?_
  exact Ok.refl

theorem lateFail_ok : ∀ x0 s, Ok [.reg .SPH_CNT, .reg .SPH_STAT] s (@lateFail x0 s) := by
  intro x0 s
  delta lateFail
  refine Ok.ite ?_ ?_
  · exact Ok.refl
  · refine Ok.applyIf ?_ ?_
    · intro a0
      refine Ok.via (State.put_at (at_SPH_STAT)) rfl ?_
      exact Ok.refl
    · refine Ok.via (State.inc_at (at_SPH_CNT)) rfl ?_
      exact Ok.refl

theorem takeRead_ok : ∀ s, Ok [.trioQ, .emcyQ, .logQ, .logWin, .power, .sph, .reg .EV_PEND, .reg .MGS_LOGSTAT, .reg .SPH_CNT, .reg .SPH_ERR, .reg .SPH_ERRCODE, .reg .SPH_STAT] s (@takeRead s) := by
  intro s
  delta takeRead
  refine Ok.ite ?_ ?_
  · exact Ok.refl
  · extract_lets +onlyGivenNames -merge -useContext s0
    clear_value s0
    split
    · refine Ok.ite ?_ ?_
      · refine Ok.via (readTaken_ok ..) rfl ?_
        exact Ok.refl
      · refine Ok.applyIf ?_ ?_
        · intro a1
          refine Ok.via (State.inc_at (at_SPH_STAT)) rfl ?_
          exact Ok.refl
        · refine Ok.via (readTaken_ok ..) rfl ?_
          exact Ok.refl
    · refine Ok.ite ?_ ?_
      · refine Ok.via (hostFail_ok ..) rfl ?_
        refine Ok.via (readTaken_ok ..) rfl ?_
        exact Ok.refl
      · refine Ok.via (lateFail_ok ..) rfl ?_
        refine Ok.via (hostCause_ok ..) rfl ?_
        refine Ok.via (readTaken_ok ..) rfl ?_
        exact Ok.refl
    · exact Ok.refl

theorem issueRead_ok : ∀ s, Ok (.regs :: .staged :: .replies :: .hostPair :: .trioPair :: .mgsPair :: .canPair :: .free :: .trioQ :: .emcyQ :: .logQ :: .logWin :: .legs :: .coils :: .coaches :: .axes :: .pl :: .power :: .sds :: .afe :: .trio :: .mgs :: .sph :: .spm :: []) s (@issueRead s) := by
  intro s
  delta issueRead
  refine Ok.via (takeRead_ok ..) rfl ?_
  refine Ok.via (State.modSph_ok ..) rfl ?_
  refine Ok.via (busRead_ok ..) rfl ?_
  exact Ok.refl

theorem hostSettle_ok : ∀ s, Ok (.regs :: .snap :: .staged :: .bad :: .replies :: .guards :: .hostPair :: .trioPair :: .mgsPair :: .canPair :: .ticks :: .free :: .trioQ :: .emcyQ :: .logQ :: .logWin :: .legs :: .coils :: .coaches :: .trips :: .runs :: .axes :: .pl :: .power :: .syncOut :: .encs :: .stepLast :: .stepDir :: .sds :: .afe :: .trio :: .mgs :: .net :: .sph :: .spm :: .nvm :: []) s (@hostSettle s) := by
  intro s
  delta hostSettle
  extract_lets +onlyGivenNames -merge -useContext s0
  refine Ok.withS (x := s0) ?_ fun h1 => ?_
  · unfold s0
    refine Ok.via (closeIdle_ok ..) rfl ?_
    exact Ok.refl
  clear_value s0
  extract_lets +onlyGivenNames -merge -useContext s2
  refine Ok.withS (x := s2) ?_ fun h3 => ?_
  · unfold s2
    refine Ok.ite ?_ ?_
    · refine Ok.via (issueBlock_ok ..) rfl ?_
      exact h1
    · exact h1
  clear_value s2
  extract_lets +onlyGivenNames -merge -useContext s4
  refine Ok.withS (x := s4) ?_ fun h5 => ?_
  · unfold s4
    refine Ok.via (closeIdle_ok ..) rfl ?_
    exact h3
  clear_value s4
  refine Ok.ite ?_ ?_
  · refine Ok.via (issueRead_ok ..) rfl ?_
    exact h5
  · exact h5

theorem hostPoll_ok : ∀ s, Ok (.regs :: .snap :: .staged :: .bad :: .replies :: .guards :: .hostPair :: .trioPair :: .mgsPair :: .canPair :: .ticks :: .free :: .trioQ :: .emcyQ :: .logQ :: .logWin :: .legs :: .coils :: .coaches :: .trips :: .runs :: .axes :: .pl :: .power :: .syncOut :: .encs :: .stepLast :: .stepDir :: .sds :: .afe :: .trio :: .mgs :: .net :: .sph :: .spm :: .nvm :: []) s (@hostPoll s) := by
  intro s
  delta hostPoll
  extract_lets +onlyGivenNames -merge -useContext s0
  clear_value s0
  extract_lets +onlyGivenNames -merge -useContext s1
  refine Ok.withS (x := s1) ?_ fun h2 => ?_
  · unfold s1
    refine Ok.via (takeRead_ok ..) rfl ?_
    exact Ok.refl
  clear_value s1
  split
  · refine Ok.ite ?_ ?_
    · refine Ok.via (hostSettle_ok ..) rfl ?_
      exact h2
    · exact h2
  · split
    · exact h2
    · refine Ok.via (hostSettle_ok ..) rfl ?_
      refine Ok.via (writeFailed_ok ..) rfl ?_
      exact h2
    · refine Ok.via (hostSettle_ok ..) rfl ?_
      refine Ok.via (issueWords_ok ..) rfl ?_
      refine Ok.via (countWord_ok ..) rfl ?_
      exact h2

theorem frameStart_ok : ∀ x0 x1 s, Ok (.regs :: .snap :: .staged :: .bad :: .replies :: .guards :: .hostPair :: .trioPair :: .mgsPair :: .canPair :: .ticks :: .free :: .trioQ :: .emcyQ :: .logQ :: .logWin :: .legs :: .coils :: .coaches :: .trips :: .runs :: .axes :: .pl :: .power :: .syncOut :: .encs :: .stepLast :: .stepDir :: .sds :: .afe :: .trio :: .mgs :: .net :: .sph :: .spm :: .nvm :: []) s (@frameStart x0 x1 s) := by
  intro x0 x1 s
  delta frameStart
  refine Ok.ite ?_ ?_
  · extract_lets +onlyGivenNames -merge -useContext s0
    clear_value s0
    refine Ok.via (State.modSph_ok ..) rfl ?_
    exact Ok.refl
  · refine Ok.ite ?_ ?_
    · exact Ok.refl
    · extract_lets +onlyGivenNames -merge -useContext s1
      refine Ok.withS (x := s1) ?_ fun h2 => ?_
      · unfold s1
        refine Ok.ite ?_ ?_
        · refine Ok.via (dozeEnd_ok ..) rfl ?_
          refine Ok.via (noteWake_ok ..) rfl ?_
          exact Ok.refl
        · exact Ok.refl
      clear_value s1
      extract_lets +onlyGivenNames -merge -useContext s3
      refine Ok.withS (x := s3) ?_ fun h4 => ?_
      · unfold s3
        refine Ok.via (landClass_hostFrame ..) rfl ?_
        exact h2
      clear_value s3
      extract_lets +onlyGivenNames -merge -useContext s5
      refine Ok.withS (x := s5) ?_ fun h6 => ?_
      · unfold s5
        refine Ok.via (State.modSph_ok ..) rfl ?_
        refine Ok.via (hostPoll_ok ..) rfl ?_
        exact h4
      clear_value s5
      split
      · exact h6
      · extract_lets +onlyGivenNames -merge -useContext s7
        clear_value s7
        extract_lets +onlyGivenNames -merge -useContext s8
        clear_value s8
        extract_lets +onlyGivenNames -merge -useContext s9
        refine Ok.withS (x := s9) ?_ fun h10 => ?_
        · unfold s9
          refine Ok.via (sendBytes_ok ..) rfl ?_
          exact h6
        clear_value s9
        extract_lets +onlyGivenNames -merge -useContext s11
        refine Ok.withS (x := s11) ?_ fun h12 => ?_
        · unfold s11
          refine Ok.via (State.modSph_ok ..) rfl ?_
          exact h10
        clear_value s11
        refine Ok.ite ?_ ?_
        · refine Ok.via (hostFail_ok ..) rfl ?_
          exact h12
        · refine Ok.ite ?_ ?_
          · refine Ok.via (hostFail_ok ..) rfl ?_
            exact h12
          · refine Ok.via (hostSettle_ok ..) rfl ?_
            exact h12

theorem sendWord_ok : ∀ x0 s, Ok [.sph] s (@sendWord x0 s) := by
  intro x0 s
  delta sendWord
  refine Ok.via (State.modSph_ok ..) rfl ?_
  refine Ok.via (sendBytes_ok ..) rfl ?_
  exact Ok.refl

theorem hostReadSlot_ok : ∀ x0 s, Ok (.regs :: .snap :: .staged :: .bad :: .replies :: .guards :: .hostPair :: .trioPair :: .mgsPair :: .canPair :: .ticks :: .free :: .trioQ :: .emcyQ :: .logQ :: .logWin :: .legs :: .coils :: .coaches :: .trips :: .runs :: .axes :: .pl :: .power :: .syncOut :: .encs :: .stepLast :: .stepDir :: .sds :: .afe :: .trio :: .mgs :: .net :: .sph :: .spm :: .nvm :: []) s (@hostReadSlot x0 s) := by
  intro x0 s
  delta hostReadSlot
  extract_lets +onlyGivenNames -merge -useContext s0
  refine Ok.withS (x := s0) ?_ fun h1 => ?_
  · unfold s0
    refine Ok.via (hostPoll_ok ..) rfl ?_
    exact Ok.refl
  clear_value s0
  refine Ok.ite ?_ ?_
  · refine Ok.via (deadSlot_ok ..) rfl ?_
    exact h1
  · refine Ok.ite ?_ ?_
    · exact h1
    · split
      · refine Ok.via (sendBytes_ok ..) rfl ?_
        exact h1
      · refine Ok.via (hostSettle_ok ..) rfl ?_
        refine Ok.via (State.modSph_ok ..) rfl ?_
        refine Ok.via (sendWord_ok ..) rfl ?_
        exact h1

theorem hostStatusSlot_ok : ∀ s, Ok (.regs :: .snap :: .staged :: .bad :: .replies :: .guards :: .hostPair :: .trioPair :: .mgsPair :: .canPair :: .ticks :: .free :: .trioQ :: .emcyQ :: .logQ :: .logWin :: .legs :: .coils :: .coaches :: .trips :: .runs :: .axes :: .pl :: .power :: .syncOut :: .encs :: .stepLast :: .stepDir :: .sds :: .afe :: .trio :: .mgs :: .net :: .sph :: .spm :: .nvm :: []) s (@hostStatusSlot s) := by
  intro s
  delta hostStatusSlot
  extract_lets +onlyGivenNames -merge -useContext s0
  refine Ok.withS (x := s0) ?_ fun h1 => ?_
  · unfold s0
    refine Ok.via (hostPoll_ok ..) rfl ?_
    exact Ok.refl
  clear_value s0
  refine Ok.ite ?_ ?_
  · refine Ok.via (deadSlot_ok ..) rfl ?_
    exact h1
  · refine Ok.ite ?_ ?_
    · refine Ok.via (sendWord_ok ..) rfl ?_
      exact h1
    · exact h1

theorem hostWriteSlot_ok : ∀ x0 x1 x2 s, Ok (.regs :: .snap :: .staged :: .bad :: .replies :: .guards :: .hostPair :: .trioPair :: .mgsPair :: .canPair :: .ticks :: .free :: .trioQ :: .emcyQ :: .logQ :: .logWin :: .legs :: .coils :: .coaches :: .trips :: .runs :: .axes :: .pl :: .power :: .syncOut :: .encs :: .stepLast :: .stepDir :: .sds :: .afe :: .trio :: .mgs :: .net :: .sph :: .spm :: .nvm :: []) s (@hostWriteSlot x0 x1 x2 s) := by
  intro x0 x1 x2 s
  delta hostWriteSlot
  extract_lets +onlyGivenNames -merge -useContext s0
  refine Ok.withS (x := s0) ?_ fun h1 => ?_
  · unfold s0
    refine Ok.via (hostPoll_ok ..) rfl ?_
    exact Ok.refl
  clear_value s0
  refine Ok.ite ?_ ?_
  · refine Ok.via (deadSlot_ok ..) rfl ?_
    exact h1
  · refine Ok.ite ?_ ?_
    · exact h1
    · refine Ok.ite ?_ ?_
      · refine Ok.via (sendBytes_ok ..) rfl ?_
        exact h1
      · extract_lets +onlyGivenNames -merge -useContext s2
        refine Ok.withS (x := s2) ?_ fun h3 => ?_
        · unfold s2
          refine Ok.via (sendBytes_ok ..) rfl ?_
          exact h1
        clear_value s2
        refine Ok.ite ?_ ?_
        · refine Ok.via (hostFail_ok ..) rfl ?_
          exact h3
        · extract_lets +onlyGivenNames -merge -useContext s4
          clear_value s4
          extract_lets +onlyGivenNames -merge -useContext s5
          clear_value s5
          extract_lets +onlyGivenNames -merge -useContext s6
          refine Ok.withS (x := s6) ?_ fun h7 => ?_
          · unfold s6
            refine Ok.ite ?_ ?_
            · refine Ok.via (hostSettle_ok ..) rfl ?_
              refine Ok.via (State.modSph_ok ..) rfl ?_
              exact h3
            · exact h3
          clear_value s6
          refine Ok.ite ?_ ?_
          · exact h7
          · refine Ok.via (hostSettle_ok ..) rfl ?_
            refine Ok.via (State.modSph_ok ..) rfl ?_
            exact h7

theorem hostBusyLimit_ok : ∀ s, Ok (.regs :: .snap :: .staged :: .bad :: .replies :: .guards :: .hostPair :: .trioPair :: .mgsPair :: .canPair :: .ticks :: .free :: .trioQ :: .emcyQ :: .logQ :: .logWin :: .legs :: .coils :: .coaches :: .trips :: .runs :: .axes :: .pl :: .power :: .syncOut :: .encs :: .stepLast :: .stepDir :: .sds :: .afe :: .trio :: .mgs :: .net :: .sph :: .spm :: .nvm :: []) s (@hostBusyLimit s) := by
  intro s
  delta hostBusyLimit
  extract_lets +onlyGivenNames -merge -useContext s0
  refine Ok.withS (x := s0) ?_ fun h1 => ?_
  · unfold s0
    refine Ok.via (hostPoll_ok ..) rfl ?_
    exact Ok.refl
  clear_value s0
  extract_lets +onlyGivenNames -merge -useContext s2
  clear_value s2
  extract_lets +onlyGivenNames -merge -useContext s3
  clear_value s3
  refine Ok.ite ?_ ?_
  · refine Ok.via (sendBytes_ok ..) rfl ?_
    refine Ok.via (State.modSph_ok ..) rfl ?_
    refine Ok.via (hostFail_ok ..) rfl ?_
    exact h1
  · exact h1

theorem shortEnd_ok : ∀ x0 s, Ok (.regs :: .snap :: .staged :: .bad :: .replies :: .guards :: .hostPair :: .trioPair :: .mgsPair :: .canPair :: .ticks :: .free :: .trioQ :: .emcyQ :: .logQ :: .logWin :: .legs :: .coils :: .coaches :: .trips :: .runs :: .axes :: .pl :: .power :: .syncOut :: .encs :: .stepLast :: .stepDir :: .sds :: .afe :: .trio :: .mgs :: .net :: .sph :: .spm :: .nvm :: []) s (@shortEnd x0 s) := by
  intro x0 s
  delta shortEnd
  refine Ok.ite ?_ ?_
  · exact Ok.refl
  · split
    · exact Ok.refl
    · refine Ok.via (hostFail_ok ..) rfl ?_
      exact Ok.refl
    · extract_lets +onlyGivenNames -merge -useContext s0
      clear_value s0
      extract_lets +onlyGivenNames -merge -useContext s1
      refine Ok.withS (x := s1) ?_ fun h2 => ?_
      · unfold s1
        refine Ok.ite ?_ ?_
        · refine Ok.via (hostSettle_ok ..) rfl ?_
          refine Ok.via (State.modSph_ok ..) rfl ?_
          exact Ok.refl
        · exact Ok.refl
      clear_value s1
      refine Ok.via (hostFail_ok ..) rfl ?_
      exact h2

theorem frameOver_ok : ∀ s, Ok [.guards, .trioQ, .emcyQ, .logQ, .logWin, .power, .sph, .reg .EV_PEND, .reg .GCTL_BUSERR, .reg .GCTL_BUSERRADDR, .reg .GCTL_BUSERRCNT, .reg .MGS_LOGSTAT, .reg .SPH_CNT, .reg .SPH_STAT] s (@frameOver s) := by
  intro s
  delta frameOver
  extract_lets +onlyGivenNames -merge -useContext s0
  clear_value s0
  extract_lets +onlyGivenNames -merge -useContext s1
  clear_value s1
  extract_lets +onlyGivenNames -merge -useContext s2
  clear_value s2
  extract_lets +onlyGivenNames -merge -useContext s3
  clear_value s3
  extract_lets +onlyGivenNames -merge -useContext s4
  clear_value s4
  extract_lets +onlyGivenNames -merge -useContext s5
  clear_value s5
  extract_lets +onlyGivenNames -merge -useContext s6
  refine Ok.withS (x := s6) ?_ fun h8 => ?_
  · unfold s6
    refine Ok.applyIf ?_ ?_
    · intro a7
      refine Ok.via (State.inc_at (at_SPH_CNT)) rfl ?_
      exact Ok.refl
    · exact Ok.refl
  clear_value s6
  extract_lets +onlyGivenNames -merge -useContext s9
  refine Ok.withS (x := s9) ?_ fun h10 => ?_
  · unfold s9
    refine Ok.via (State.putB_at (at_SPH_STAT)) rfl ?_
    refine Ok.via (State.put_at (at_SPH_STAT)) rfl ?_
    exact h8
  clear_value s9
  extract_lets +onlyGivenNames -merge -useContext s11
  refine Ok.withS (x := s11) ?_ fun h12 => ?_
  · unfold s11
    refine Ok.via (State.modSph_ok ..) rfl ?_
    exact h10
  clear_value s11
  refine Ok.ite ?_ ?_
  · refine Ok.via (State.put_at (at_SPH_STAT)) rfl ?_
    exact h12
  · refine Ok.via (closePrev_ok ..) rfl ?_
    exact h12

theorem frameEnd_ok : ∀ x0 s, Ok (.regs :: .snap :: .staged :: .bad :: .replies :: .guards :: .hostPair :: .trioPair :: .mgsPair :: .canPair :: .ticks :: .free :: .trioQ :: .emcyQ :: .logQ :: .logWin :: .legs :: .coils :: .coaches :: .trips :: .runs :: .axes :: .pl :: .power :: .syncOut :: .encs :: .stepLast :: .stepDir :: .sds :: .afe :: .trio :: .mgs :: .net :: .sph :: .spm :: .nvm :: []) s (@frameEnd x0 s) := by
  intro x0 s
  delta frameEnd
  extract_lets +onlyGivenNames -merge -useContext s0
  refine Ok.withS (x := s0) ?_ fun h1 => ?_
  · unfold s0
    refine Ok.via (hostPoll_ok ..) rfl ?_
    exact Ok.refl
  clear_value s0
  refine Ok.ite ?_ ?_
  · exact h1
  · refine Ok.ite ?_ ?_
    · refine Ok.via (State.modSph_ok ..) rfl ?_
      exact h1
    · extract_lets +onlyGivenNames -merge -useContext s2
      refine Ok.withS (x := s2) ?_ fun h3 => ?_
      · unfold s2
        refine Ok.via (shortEnd_ok ..) rfl ?_
        exact h1
      clear_value s2
      refine Ok.via (frameOver_ok ..) rfl ?_
      refine Ok.via (hostSettle_ok ..) rfl ?_
      refine Ok.via (State.modSph_ok ..) rfl ?_
      exact h3

end Sys2Proof.Machine
end

