-- ==== Sys2Proof/Laws/OkAccess.lean ====
section
/-!
SUPPORT. Laws/OkAccess.lean: for each operation of Machine/Access.lean, the parts of the state it can change, and that it keeps a
good state good.
-/

namespace Sys2Proof.Machine

set_option Elab.async false

theorem execRegisterWrite_ok : ∀ x0 x1 x2 x3 s, OkO (.regs :: .snap :: .staged :: .bad :: .replies :: .guards :: .hostPair :: .trioPair :: .mgsPair :: .canPair :: .ticks :: .free :: .trioQ :: .emcyQ :: .logQ :: .logWin :: .legs :: .coils :: .coaches :: .trips :: .runs :: .axes :: .pl :: .power :: .syncOut :: .encs :: .stepLast :: .stepDir :: .sds :: .afe :: .trio :: .mgs :: .net :: .sph :: .spm :: .nvm :: []) s (@execRegisterWrite x0 x1 x2 x3 s) := by
  intro x0 x1 x2 x3 s
  delta execRegisterWrite
  refine OkO.next ?_
  refine Ok.via (busWrite_ok ..) rfl ?_
  exact Ok.refl

theorem execGuardTimeout_ok : ∀ x0 s, OkO [.guards, .trioQ, .emcyQ, .logQ, .logWin, .power, .reg .EV_PEND, .reg .GCTL_BUSERR, .reg .GCTL_BUSERRADDR, .reg .GCTL_BUSERRCNT, .reg .MGS_LOGSTAT] s (@execGuardTimeout x0 s) := by
  intro x0 s
  delta execGuardTimeout
  refine OkO.next ?_
  refine Ok.via (guardTimeout_ok ..) rfl ?_
  exact Ok.refl

theorem execPairLoRead_ok : ∀ x0 x1 s, OkO (.regs :: .staged :: .replies :: .hostPair :: .trioPair :: .mgsPair :: .canPair :: .free :: .trioQ :: .emcyQ :: .logQ :: .logWin :: .legs :: .coils :: .coaches :: .axes :: .pl :: .power :: .sds :: .afe :: .trio :: .mgs :: .spm :: []) s (@execPairLoRead x0 x1 s) := by
  intro x0 x1 s
  delta execPairLoRead
  refine OkO.next ?_
  refine Ok.via (busRead_ok ..) rfl ?_
  exact Ok.refl

theorem execPairLoWrite_ok : ∀ x0 x1 x2 s, OkO (.regs :: .snap :: .staged :: .bad :: .replies :: .guards :: .hostPair :: .trioPair :: .mgsPair :: .canPair :: .ticks :: .free :: .trioQ :: .emcyQ :: .logQ :: .logWin :: .legs :: .coils :: .coaches :: .trips :: .runs :: .axes :: .pl :: .power :: .syncOut :: .encs :: .stepLast :: .stepDir :: .sds :: .afe :: .trio :: .mgs :: .net :: .sph :: .spm :: .nvm :: []) s (@execPairLoWrite x0 x1 x2 s) := by
  intro x0 x1 x2 s
  delta execPairLoWrite
  refine OkO.next ?_
  refine Ok.via (regWrite_ok ..) rfl ?_
  exact Ok.refl

theorem execPairHiWrite_ok : ∀ x0 x1 x2 s, OkO (.regs :: .snap :: .staged :: .bad :: .replies :: .guards :: .hostPair :: .trioPair :: .mgsPair :: .canPair :: .ticks :: .free :: .trioQ :: .emcyQ :: .logQ :: .logWin :: .legs :: .coils :: .coaches :: .trips :: .runs :: .axes :: .pl :: .power :: .syncOut :: .encs :: .stepLast :: .stepDir :: .sds :: .afe :: .trio :: .mgs :: .net :: .sph :: .spm :: .nvm :: []) s (@execPairHiWrite x0 x1 x2 s) := by
  intro x0 x1 x2 s
  delta execPairHiWrite
  refine OkO.next ?_
  refine Ok.via (regWrite_ok ..) rfl ?_
  exact Ok.refl

theorem execBufholdTimeout_ok : ∀ x0 s, OkO [.staged, .reg .AFE_CFGA, .reg .AFE_CFGB, .reg .AFE_CFGC, .reg .AFE_IEXC, .reg .AFE_RREF, .reg .AFE_STAT, .reg .AFE_TDAC, .reg .AFE_VEXC, .reg .GCTL_BUFHOLD, .reg .GCTL_BUFSTAT, .reg .SD_AVG, .reg .SD_CAL_GAIN, .reg .SD_CAL_OFS, .reg .SD_CFG, .reg .SD_DIRECT, .reg .SD_LINDATA, .reg .SD_SEQ0, .reg .SD_SEQ1, .reg .SD_SEQCTL] s (@execBufholdTimeout x0 s) := by
  intro x0 s
  delta execBufholdTimeout
  refine OkO.next ?_
  refine Ok.ite ?_ ?_
  · refine Ok.via (sharedLand_ok ..) rfl ?_
    refine Ok.via (State.putBitOf_at (at_GCTL_BUFSTAT)) rfl ?_
    refine Ok.via (State.putBitOf_at (at_GCTL_BUFHOLD)) rfl ?_
    exact Ok.refl
  · exact Ok.refl

theorem execStoreSettings_ok : ∀ x0 s, OkO (.regs :: .snap :: .staged :: .bad :: .replies :: .guards :: .hostPair :: .trioPair :: .mgsPair :: .canPair :: .ticks :: .free :: .trioQ :: .emcyQ :: .logQ :: .logWin :: .legs :: .coils :: .coaches :: .trips :: .runs :: .axes :: .pl :: .power :: .syncOut :: .encs :: .stepLast :: .stepDir :: .sds :: .afe :: .trio :: .mgs :: .net :: .sph :: .spm :: .nvm :: []) s (@execStoreSettings x0 s) := by
  intro x0 s
  delta execStoreSettings
  refine OkO.next ?_
  refine Ok.via (guardedWrite_ok ..) rfl ?_
  exact Ok.refl

theorem execStoreWaveTables_ok : ∀ x0 s, OkO (.regs :: .snap :: .staged :: .bad :: .replies :: .guards :: .hostPair :: .trioPair :: .mgsPair :: .canPair :: .ticks :: .free :: .trioQ :: .emcyQ :: .logQ :: .logWin :: .legs :: .coils :: .coaches :: .trips :: .runs :: .axes :: .pl :: .power :: .syncOut :: .encs :: .stepLast :: .stepDir :: .sds :: .afe :: .trio :: .mgs :: .net :: .sph :: .spm :: .nvm :: []) s (@execStoreWaveTables x0 s) := by
  intro x0 s
  delta execStoreWaveTables
  refine OkO.next ?_
  refine Ok.via (guardedWrite_ok ..) rfl ?_
  exact Ok.refl

theorem execStoreBoth_ok : ∀ x0 s, OkO (.regs :: .snap :: .staged :: .bad :: .replies :: .guards :: .hostPair :: .trioPair :: .mgsPair :: .canPair :: .ticks :: .free :: .trioQ :: .emcyQ :: .logQ :: .logWin :: .legs :: .coils :: .coaches :: .trips :: .runs :: .axes :: .pl :: .power :: .syncOut :: .encs :: .stepLast :: .stepDir :: .sds :: .afe :: .trio :: .mgs :: .net :: .sph :: .spm :: .nvm :: []) s (@execStoreBoth x0 s) := by
  intro x0 s
  delta execStoreBoth
  refine OkO.next ?_
  refine Ok.via (guardedWrite_ok ..) rfl ?_
  exact Ok.refl

theorem execEraseStoredSettings_ok : ∀ x0 s, OkO (.regs :: .snap :: .staged :: .bad :: .replies :: .guards :: .hostPair :: .trioPair :: .mgsPair :: .canPair :: .ticks :: .free :: .trioQ :: .emcyQ :: .logQ :: .logWin :: .legs :: .coils :: .coaches :: .trips :: .runs :: .axes :: .pl :: .power :: .syncOut :: .encs :: .stepLast :: .stepDir :: .sds :: .afe :: .trio :: .mgs :: .net :: .sph :: .spm :: .nvm :: []) s (@execEraseStoredSettings x0 s) := by
  intro x0 s
  delta execEraseStoredSettings
  refine OkO.next ?_
  refine Ok.via (guardedWrite_ok ..) rfl ?_
  exact Ok.refl

theorem execStoreComplete_ok : ∀ x0 s, OkO [.trioQ, .emcyQ, .logQ, .logWin, .nvm, .reg .EV_PEND, .reg .GCTL_STORESTAT, .reg .MGS_LOGSTAT] s (@execStoreComplete x0 s) := by
  intro x0 s
  delta execStoreComplete
  refine OkO.next ?_
  refine Ok.via (storeEnd_ok ..) rfl ?_
  exact Ok.refl

theorem execParityScrub_ok : ∀ x0 s, OkO [.regs, .staged, .bad, .free, .trioQ, .emcyQ, .logQ, .logWin, .legs, .coils, .coaches, .axes, .pl, .sds, .afe, .trio] s (@execParityScrub x0 s) := by
  intro x0 s
  delta execParityScrub
  refine OkO.next ?_
  refine Ok.ite ?_ ?_
  · exact Ok.refl
  · refine Ok.foldl ?_ ?_
    · intro u0 x1
      refine Ok.via (parityFail_ok ..) rfl ?_
      exact Ok.refl
    · exact Ok.refl

end Sys2Proof.Machine
end

