-- ==== Sys2Proof/Laws/OkConverters.lean ====
section
/-!
SUPPORT. Laws/OkConverters.lean: for each operation of Machine/Converters.lean, the parts of the state it can change, and that it keeps a
good state good.
-/

namespace Sys2Proof.Machine

set_option Elab.async false

theorem execConversionStart_ok : ∀ x0 x1 s, OkO [.regs, .staged, .free, .trioQ, .emcyQ, .logQ, .logWin, .coaches, .axes, .pl, .sds, .afe] s (@execConversionStart x0 x1 s) := by
  intro x0 x1 s
  delta execConversionStart
  refine OkO.next ?_
  refine Ok.via (conversionStart_ok ..) rfl ?_
  exact Ok.refl

theorem execSettleEnd_ok : ∀ x0 s, OkO [.sds] s (@execSettleEnd x0 s) := by
  intro x0 s
  delta execSettleEnd
  refine OkO.next ?_
  refine Ok.via (settleEnd_ok ..) rfl ?_
  exact Ok.refl

theorem execBreakCheck_ok : ∀ x0 x1 s, OkO [.trioQ, .emcyQ, .logQ, .logWin, .sds, .reg .AFE_BRK, .reg .AFE_BRKCNT, .reg .EV_PEND, .reg .MGS_LOGSTAT] s (@execBreakCheck x0 x1 s) := by
  intro x0 x1 s
  delta execBreakCheck
  refine OkO.next ?_
  refine Ok.via (breakCheck_ok ..) rfl ?_
  exact Ok.refl

theorem execConversionEnd_ok : ∀ x0 x1 x2 s, OkO (.staged :: .free :: .sds :: .afe :: .reg .AFE_CFGA :: .reg .AFE_CFGB :: .reg .AFE_CFGC :: .reg .AFE_IEXC :: .reg .AFE_RREF :: .reg .AFE_STAT :: .reg .AFE_TDAC :: .reg .AFE_VEXC :: .reg .SD_AVG :: .reg .SD_CAL_GAIN :: .reg .SD_CAL_OFS :: .reg .SD_CFG :: .reg .SD_DIRECT :: .reg .SD_LINDATA :: .reg .SD_SEQ0 :: .reg .SD_SEQ1 :: .reg .SD_SEQCTL :: .reg .SD_STAT :: []) s (@execConversionEnd x0 x1 x2 s) := by
  intro x0 x1 x2 s
  delta execConversionEnd
  refine OkO.next ?_
  refine Ok.via (conversionEnd_ok ..) rfl ?_
  exact Ok.refl

theorem execLeadConversionEnd_ok : ∀ x0 x1 x2 s, OkO (.staged :: .free :: .sds :: .reg .AFE_CFGA :: .reg .AFE_CFGB :: .reg .AFE_CFGC :: .reg .AFE_IEXC :: .reg .AFE_RREF :: .reg .AFE_STAT :: .reg .AFE_TDAC :: .reg .AFE_VEXC :: .reg .SD_AVG :: .reg .SD_CAL_GAIN :: .reg .SD_CAL_OFS :: .reg .SD_CFG :: .reg .SD_DIRECT :: .reg .SD_LINDATA :: .reg .SD_SEQ0 :: .reg .SD_SEQ1 :: .reg .SD_SEQCTL :: .reg .SD_STAT :: []) s (@execLeadConversionEnd x0 x1 x2 s) := by
  intro x0 x1 x2 s
  delta execLeadConversionEnd
  refine OkO.next ?_
  refine Ok.via (leadEnd_ok ..) rfl ?_
  exact Ok.refl

theorem execResultLand_ok : ∀ x0 s, OkO [.regs, .staged, .free, .trioQ, .emcyQ, .logQ, .logWin, .coaches, .axes, .pl, .sds, .afe] s (@execResultLand x0 s) := by
  intro x0 s
  delta execResultLand
  refine OkO.next ?_
  refine Ok.via (resultLand_ok ..) rfl ?_
  exact Ok.refl

theorem execDutyWindowStart_ok : ∀ s, OkO [.sds, .afe, .reg .SD_STAT] s (@execDutyWindowStart s) := by
  intro s
  delta execDutyWindowStart
  refine OkO.next ?_
  refine Ok.via (dutyWindowStart_ok ..) rfl ?_
  exact Ok.refl

theorem execAfeSharedWrite_ok : ∀ x0 x1 x2 s, OkO (.regs :: .snap :: .staged :: .bad :: .replies :: .guards :: .hostPair :: .trioPair :: .mgsPair :: .canPair :: .ticks :: .free :: .trioQ :: .emcyQ :: .logQ :: .logWin :: .legs :: .coils :: .coaches :: .trips :: .runs :: .axes :: .pl :: .power :: .syncOut :: .encs :: .stepLast :: .stepDir :: .sds :: .afe :: .trio :: .mgs :: .net :: .sph :: .spm :: .nvm :: []) s (@execAfeSharedWrite x0 x1 x2 s) := by
  intro x0 x1 x2 s
  delta execAfeSharedWrite
  refine OkO.next ?_
  refine Ok.via (regWrite_ok ..) rfl ?_
  exact Ok.refl

theorem execSdStart_ok : ∀ x0 x1 s, OkO (.regs :: .snap :: .staged :: .bad :: .replies :: .guards :: .hostPair :: .trioPair :: .mgsPair :: .canPair :: .ticks :: .free :: .trioQ :: .emcyQ :: .logQ :: .logWin :: .legs :: .coils :: .coaches :: .trips :: .runs :: .axes :: .pl :: .power :: .syncOut :: .encs :: .stepLast :: .stepDir :: .sds :: .afe :: .trio :: .mgs :: .net :: .sph :: .spm :: .nvm :: []) s (@execSdStart x0 x1 s) := by
  intro x0 x1 s
  delta execSdStart
  refine OkO.next ?_
  refine Ok.via (regWrite_ok ..) rfl ?_
  exact Ok.refl

theorem execSdStop_ok : ∀ x0 x1 s, OkO (.regs :: .snap :: .staged :: .bad :: .replies :: .guards :: .hostPair :: .trioPair :: .mgsPair :: .canPair :: .ticks :: .free :: .trioQ :: .emcyQ :: .logQ :: .logWin :: .legs :: .coils :: .coaches :: .trips :: .runs :: .axes :: .pl :: .power :: .syncOut :: .encs :: .stepLast :: .stepDir :: .sds :: .afe :: .trio :: .mgs :: .net :: .sph :: .spm :: .nvm :: []) s (@execSdStop x0 x1 s) := by
  intro x0 x1 s
  delta execSdStop
  refine OkO.next ?_
  refine Ok.via (regWrite_ok ..) rfl ?_
  exact Ok.refl

theorem execSdInj_ok : ∀ x0 x1 s, OkO (.regs :: .snap :: .staged :: .bad :: .replies :: .guards :: .hostPair :: .trioPair :: .mgsPair :: .canPair :: .ticks :: .free :: .trioQ :: .emcyQ :: .logQ :: .logWin :: .legs :: .coils :: .coaches :: .trips :: .runs :: .axes :: .pl :: .power :: .syncOut :: .encs :: .stepLast :: .stepDir :: .sds :: .afe :: .trio :: .mgs :: .net :: .sph :: .spm :: .nvm :: []) s (@execSdInj x0 x1 s) := by
  intro x0 x1 s
  delta execSdInj
  refine OkO.next ?_
  refine Ok.via (regWrite_ok ..) rfl ?_
  exact Ok.refl

theorem execSdSimul_ok : ∀ x0 x1 x2 s, OkO (.regs :: .snap :: .staged :: .bad :: .replies :: .guards :: .hostPair :: .trioPair :: .mgsPair :: .canPair :: .ticks :: .free :: .trioQ :: .emcyQ :: .logQ :: .logWin :: .legs :: .coils :: .coaches :: .trips :: .runs :: .axes :: .pl :: .power :: .syncOut :: .encs :: .stepLast :: .stepDir :: .sds :: .afe :: .trio :: .mgs :: .net :: .sph :: .spm :: .nvm :: []) s (@execSdSimul x0 x1 x2 s) := by
  intro x0 x1 x2 s
  delta execSdSimul
  refine OkO.next ?_
  refine Ok.via (regWrite_ok ..) rfl ?_
  exact Ok.refl

theorem execSdCal_ok : ∀ x0 x1 x2 s, OkO (.regs :: .snap :: .staged :: .bad :: .replies :: .guards :: .hostPair :: .trioPair :: .mgsPair :: .canPair :: .ticks :: .free :: .trioQ :: .emcyQ :: .logQ :: .logWin :: .legs :: .coils :: .coaches :: .trips :: .runs :: .axes :: .pl :: .power :: .syncOut :: .encs :: .stepLast :: .stepDir :: .sds :: .afe :: .trio :: .mgs :: .net :: .sph :: .spm :: .nvm :: []) s (@execSdCal x0 x1 x2 s) := by
  intro x0 x1 x2 s
  delta execSdCal
  refine OkO.next ?_
  refine Ok.via (regWrite_ok ..) rfl ?_
  exact Ok.refl

theorem execSdClrcnt_ok : ∀ x0 x1 s, OkO (.regs :: .snap :: .staged :: .bad :: .replies :: .guards :: .hostPair :: .trioPair :: .mgsPair :: .canPair :: .ticks :: .free :: .trioQ :: .emcyQ :: .logQ :: .logWin :: .legs :: .coils :: .coaches :: .trips :: .runs :: .axes :: .pl :: .power :: .syncOut :: .encs :: .stepLast :: .stepDir :: .sds :: .afe :: .trio :: .mgs :: .net :: .sph :: .spm :: .nvm :: []) s (@execSdClrcnt x0 x1 s) := by
  intro x0 x1 s
  delta execSdClrcnt
  refine OkO.next ?_
  refine Ok.via (regWrite_ok ..) rfl ?_
  exact Ok.refl

theorem execSdDisable_ok : ∀ x0 x1 x2 s, OkO (.regs :: .snap :: .staged :: .bad :: .replies :: .guards :: .hostPair :: .trioPair :: .mgsPair :: .canPair :: .ticks :: .free :: .trioQ :: .emcyQ :: .logQ :: .logWin :: .legs :: .coils :: .coaches :: .trips :: .runs :: .axes :: .pl :: .power :: .syncOut :: .encs :: .stepLast :: .stepDir :: .sds :: .afe :: .trio :: .mgs :: .net :: .sph :: .spm :: .nvm :: []) s (@execSdDisable x0 x1 x2 s) := by
  intro x0 x1 x2 s
  delta execSdDisable
  refine OkO.next ?_
  refine Ok.via (regWrite_ok ..) rfl ?_
  exact Ok.refl

theorem execSdTimerPulse_ok : ∀ x0 s, OkO (.staged :: .free :: .trioQ :: .emcyQ :: .logQ :: .logWin :: .sds :: .afe :: .reg .AFE_CFGA :: .reg .AFE_CFGB :: .reg .AFE_CFGC :: .reg .AFE_IEXC :: .reg .AFE_RREF :: .reg .AFE_STAT :: .reg .AFE_TDAC :: .reg .AFE_VEXC :: .reg .EV_PEND :: .reg .MGS_LOGSTAT :: .reg .SD_AVG :: .reg .SD_CAL_GAIN :: .reg .SD_CAL_OFS :: .reg .SD_CFG :: .reg .SD_CNT :: .reg .SD_DIRECT :: .reg .SD_LINDATA :: .reg .SD_SEQ0 :: .reg .SD_SEQ1 :: .reg .SD_SEQCTL :: .reg .SD_STAT :: []) s (@execSdTimerPulse x0 s) := by
  intro x0 s
  delta execSdTimerPulse
  refine OkO.next ?_
  refine Ok.via (timerPulse_ok ..) rfl ?_
  exact Ok.refl

theorem execTrigInEdge_ok : ∀ x0 s, OkO (.staged :: .free :: .trioQ :: .emcyQ :: .logQ :: .logWin :: .sds :: .afe :: .reg .AFE_CFGA :: .reg .AFE_CFGB :: .reg .AFE_CFGC :: .reg .AFE_IEXC :: .reg .AFE_RREF :: .reg .AFE_STAT :: .reg .AFE_TDAC :: .reg .AFE_VEXC :: .reg .EV_PEND :: .reg .MGS_LOGSTAT :: .reg .SD_AVG :: .reg .SD_CAL_GAIN :: .reg .SD_CAL_OFS :: .reg .SD_CFG :: .reg .SD_CNT :: .reg .SD_DIRECT :: .reg .SD_LINDATA :: .reg .SD_SEQ0 :: .reg .SD_SEQ1 :: .reg .SD_SEQCTL :: .reg .SD_STAT :: []) s (@execTrigInEdge x0 s) := by
  intro x0 s
  delta execTrigInEdge
  refine OkO.next ?_
  refine Ok.via (trigEdge_ok ..) rfl ?_
  exact Ok.refl

theorem execCalPhaseEnd_ok : ∀ x0 x1 s, OkO (.staged :: .free :: .trioQ :: .emcyQ :: .logQ :: .logWin :: .sds :: .afe :: .reg .AFE_CFGA :: .reg .AFE_CFGB :: .reg .AFE_CFGC :: .reg .AFE_IEXC :: .reg .AFE_RREF :: .reg .AFE_STAT :: .reg .AFE_TDAC :: .reg .AFE_VEXC :: .reg .EV_PEND :: .reg .MGS_LOGSTAT :: .reg .SD_AVG :: .reg .SD_CAL_GAIN :: .reg .SD_CAL_OFS :: .reg .SD_CFG :: .reg .SD_DIRECT :: .reg .SD_LINDATA :: .reg .SD_SEQ0 :: .reg .SD_SEQ1 :: .reg .SD_SEQCTL :: .reg .SD_STAT :: []) s (@execCalPhaseEnd x0 x1 s) := by
  intro x0 x1 s
  delta execCalPhaseEnd
  refine OkO.next ?_
  refine Ok.via (calPhase_ok ..) rfl ?_
  exact Ok.refl

theorem execSdResultRead_ok : ∀ x0 x1 x2 s, OkO (.regs :: .staged :: .replies :: .hostPair :: .trioPair :: .mgsPair :: .canPair :: .free :: .trioQ :: .emcyQ :: .logQ :: .logWin :: .legs :: .coils :: .coaches :: .axes :: .pl :: .power :: .sds :: .afe :: .trio :: .mgs :: .spm :: []) s (@execSdResultRead x0 x1 x2 s) := by
  intro x0 x1 x2 s
  delta execSdResultRead
  refine OkO.next ?_
  refine Ok.via (busRead_ok ..) rfl ?_
  exact Ok.refl

theorem execLinearise_ok : ∀ x0 s, OkO [.free, .sds, .afe, .reg .SD_LINRES, .reg .SD_STAT] s (@execLinearise x0 s) := by
  intro x0 s
  delta execLinearise
  refine OkO.next ?_
  refine Ok.via (linearise_ok ..) rfl ?_
  exact Ok.refl

theorem execSdLindataAccess_ok : ∀ x0 x1 x2 s, OkO (.regs :: .snap :: .staged :: .bad :: .replies :: .guards :: .hostPair :: .trioPair :: .mgsPair :: .canPair :: .ticks :: .free :: .trioQ :: .emcyQ :: .logQ :: .logWin :: .legs :: .coils :: .coaches :: .trips :: .runs :: .axes :: .pl :: .power :: .syncOut :: .encs :: .stepLast :: .stepDir :: .sds :: .afe :: .trio :: .mgs :: .net :: .sph :: .spm :: .nvm :: []) s (@execSdLindataAccess x0 x1 x2 s) := by
  intro x0 x1 x2 s
  delta execSdLindataAccess
  split
  · refine OkO.next ?_
    refine Ok.via (busRead_ok ..) rfl ?_
    exact Ok.refl
  · refine OkO.next ?_
    refine Ok.via (regWrite_ok ..) rfl ?_
    exact Ok.refl

end Sys2Proof.Machine
end

