-- ==== Sys2Proof/Laws/OkCurrent.lean ====
section
/-!
SUPPORT. Laws/OkCurrent.lean: for each operation of Machine/Current.lean, the parts of the state it can change, and that it keeps a
good state good.
-/

namespace Sys2Proof.Machine

set_option Elab.async false

theorem execBlankingEnd_ok : ∀ x0 x1 s, OkO [.coils] s (@execBlankingEnd x0 x1 s) := by
  intro x0 x1 s
  delta execBlankingEnd
  refine OkO.next ?_
  refine Ok.via (blankingEnd_ok ..) rfl ?_
  exact Ok.refl

theorem execComparatorTrip_ok : ∀ x0 x1 x2 x3 x4 x5 s, OkO [.free, .legs, .coils, .coaches, .reg .LEG_FLTCNT] s (@execComparatorTrip x0 x1 x2 x3 x4 x5 s) := by
  intro x0 x1 x2 x3 x4 x5 s
  delta execComparatorTrip
  refine OkO.next ?_
  refine Ok.via (comparatorTrip_ok ..) rfl ?_
  exact Ok.refl

theorem execMixedDecaySwitch_ok : ∀ x0 x1 s, OkO [.free, .legs, .coils, .coaches, .reg .LEG_FLTCNT] s (@execMixedDecaySwitch x0 x1 s) := by
  intro x0 x1 s
  delta execMixedDecaySwitch
  refine OkO.next ?_
  refine Ok.via (mixedSwitch_ok ..) rfl ?_
  refine Ok.via (gangOffs_ok ..) rfl ?_
  exact Ok.refl

theorem execFastDecayZeroGuard_ok : ∀ x0 x1 s, OkO [.free, .legs, .coils, .coaches, .reg .LEG_FLTCNT] s (@execFastDecayZeroGuard x0 x1 s) := by
  intro x0 x1 s
  delta execFastDecayZeroGuard
  refine OkO.next ?_
  refine Ok.via (zeroGuard_ok ..) rfl ?_
  refine Ok.via (gangOffs_ok ..) rfl ?_
  exact Ok.refl

theorem execDecayTrimWindow_ok : ∀ x0 s, OkO [.axes, .reg .AX_DECAYST] s (@execDecayTrimWindow x0 s) := by
  intro x0 s
  delta execDecayTrimWindow
  refine OkO.next ?_
  refine Ok.via (trimWindow_ok ..) rfl ?_
  exact Ok.refl

theorem execBemfWindowZero_ok : ∀ x0 x1 x2 s, OkO [.free, .legs, .coils, .coaches, .reg .LEG_FLTCNT] s (@execBemfWindowZero x0 x1 x2 s) := by
  intro x0 x1 x2 s
  delta execBemfWindowZero
  refine OkO.next ?_
  refine Ok.via (windowZero_ok ..) rfl ?_
  refine Ok.via (gangOffs_ok ..) rfl ?_
  exact Ok.refl

theorem execBemfSarRequest_ok : ∀ x0 x1 s, OkO [.coils, .coaches] s (@execBemfSarRequest x0 x1 s) := by
  intro x0 x1 s
  delta execBemfSarRequest
  refine OkO.next ?_
  refine Ok.via (sarRequest_ok ..) rfl ?_
  exact Ok.refl

theorem execBemfConversionEnd_ok : ∀ x0 x1 x2 s, OkO [.legs, .coils, .coaches, .reg .LEG_FLTCNT] s (@execBemfConversionEnd x0 x1 x2 s) := by
  intro x0 x1 x2 s
  delta execBemfConversionEnd
  refine OkO.next ?_
  refine Ok.via (sarConversion_ok ..) rfl ?_
  exact Ok.refl

theorem execBemfWindowAbandon_ok : ∀ x0 x1 s, OkO [.free, .legs, .coils, .coaches, .reg .LEG_FLTCNT] s (@execBemfWindowAbandon x0 x1 s) := by
  intro x0 x1 s
  delta execBemfWindowAbandon
  refine OkO.next ?_
  refine Ok.via (windowAbandon_ok ..) rfl ?_
  refine Ok.via (gangOffs_ok ..) rfl ?_
  exact Ok.refl

end Sys2Proof.Machine
end

