-- ==== Sys2Proof/Laws/OkObjects.lean ====
section
/-!
SUPPORT. Laws/OkObjects.lean: for each operation of Machine/Objects.lean, the parts of the state it can change, and that it keeps a
good state good.
-/

namespace Sys2Proof.Machine

set_option Elab.async false

theorem gotWord_ok : ∀ x0 x1 x2 s, OkP [] s (@gotWord x0 x1 x2 s) := by
  intro x0 x1 x2 s
  delta gotWord
  split
  · refine OkP.mk ?_
    exact Ok.refl
  · refine OkP.mk ?_
    exact Ok.refl
  · refine OkP.mk ?_
    exact Ok.refl

theorem readReg_ok : ∀ x0 x1 x2 s, OkP (.regs :: .staged :: .replies :: .hostPair :: .trioPair :: .mgsPair :: .canPair :: .free :: .trioQ :: .emcyQ :: .logQ :: .logWin :: .legs :: .coils :: .coaches :: .axes :: .pl :: .power :: .sds :: .afe :: .trio :: .mgs :: .spm :: []) s (@readReg x0 x1 x2 s) := by
  intro x0 x1 x2 s
  delta readReg
  refine OkP.via (gotWord_ok ..) rfl ?_
  refine Ok.via (busRead_ok ..) rfl ?_
  exact Ok.refl

theorem readRegs_ok : ∀ m l s, OkP (.regs :: .staged :: .replies :: .hostPair :: .trioPair :: .mgsPair :: .canPair :: .free :: .trioQ :: .emcyQ :: .logQ :: .logWin :: .legs :: .coils :: .coaches :: .axes :: .pl :: .power :: .sds :: .afe :: .trio :: .mgs :: .spm :: []) s (readRegs m l s)
  | _, [], _ => OkP.mk Ok.refl
  | m, a :: l, s => by
    have h := readReg_ok m a (fun w => leBytes 4 w.toNat) s
    unfold readRegs
    split
    · rename_i b t e
      have h' := OkP.of_eq e h
      have h2 := readRegs_ok m l t
      split
      · rename_i e2
        exact OkP.mk (h'.trans (OkP.of_eq e2 h2))
      · exact OkP.via h2 rfl h'
    · exact h

theorem firmRead_ok : ∀ x0 x1 x2 s, OkP (.regs :: .staged :: .replies :: .hostPair :: .trioPair :: .mgsPair :: .canPair :: .free :: .trioQ :: .emcyQ :: .logQ :: .logWin :: .legs :: .coils :: .coaches :: .axes :: .pl :: .power :: .sds :: .afe :: .trio :: .mgs :: .spm :: []) s (@firmRead x0 x1 x2 s) := by
  intro x0 x1 x2 s
  delta firmRead
  split
  · refine OkP.mk ?_
    exact Ok.refl
  · refine OkP.ite ?_ ?_
    · refine OkP.mk ?_
      exact Ok.refl
    · refine OkP.mk ?_
      exact Ok.refl
  · refine OkP.mk ?_
    exact Ok.refl
  · refine OkP.mk ?_
    exact Ok.refl
  · refine OkP.ite ?_ ?_
    · refine OkP.mk ?_
      exact Ok.refl
    · refine OkP.via (readReg_ok ..) rfl ?_
      exact Ok.refl
  · extract_lets +onlyGivenNames -merge -useContext s0
    clear_value s0
    extract_lets +onlyGivenNames -merge -useContext s1
    clear_value s1
    extract_lets +onlyGivenNames -merge -useContext s2
    clear_value s2
    refine OkP.mk ?_
    exact Ok.refl
  · refine OkP.ite ?_ ?_
    · refine OkP.mk ?_
      exact Ok.refl
    · split
      · refine OkP.mk ?_
        exact Ok.refl
      · refine OkP.mk ?_
        exact Ok.refl
  · extract_lets +onlyGivenNames -merge -useContext s3
    clear_value s3
    extract_lets +onlyGivenNames -merge -useContext s4
    refine OkP.withS (x := s4) ?_ fun h5 => ?_
    · unfold s4
      refine Ok.ite ?_ ?_
      · exact Ok.refl
      · refine Ok.via (State.modMgs_ok ?_) rfl ?_
        · exact fun _ h => ⟨h.1, h.2.1, h.2.2.1, h.2.2.2.1, h.2.2.2.2⟩
        refine Ok.via (State.wr_at (at_MGS_LOGRPTR)) rfl ?_
        exact Ok.refl
    clear_value s4
    refine OkP.mk ?_
    exact h5
  · refine OkP.mk ?_
    exact Ok.refl

theorem readObj_ok : ∀ x0 x1 x2 x3 s, OkP (.regs :: .staged :: .replies :: .hostPair :: .trioPair :: .mgsPair :: .canPair :: .free :: .trioQ :: .emcyQ :: .logQ :: .logWin :: .legs :: .coils :: .coaches :: .axes :: .pl :: .power :: .sds :: .afe :: .trio :: .mgs :: .spm :: []) s (@readObj x0 x1 x2 x3 s) := by
  intro x0 x1 x2 x3 s
  delta readObj
  split
  · refine OkP.mk ?_
    exact Ok.refl
  · refine OkP.mk ?_
    exact Ok.refl
  · refine OkP.mk ?_
    exact Ok.refl
  · refine OkP.via (readReg_ok ..) rfl ?_
    exact Ok.refl
  · refine OkP.via (readReg_ok ..) rfl ?_
    exact Ok.refl
  · split
    · rename_i t0 e1
      refine OkP.withS (x := t0) (OkP.of_eq e1 ?_) fun h2 => ?_
      · refine OkP.via (readRegs_ok ..) rfl ?_
        exact Ok.refl
      refine OkP.mk ?_
      exact h2
    · refine OkP.via (readRegs_ok ..) rfl ?_
      exact Ok.refl
  · refine OkP.via (readReg_ok ..) rfl ?_
    exact Ok.refl
  · refine OkP.via (readRegs_ok ..) rfl ?_
    exact Ok.refl
  · split
    · rename_i t3 e4
      refine OkP.withS (x := t3) (OkP.of_eq e4 ?_) fun h5 => ?_
      · refine OkP.via (readRegs_ok ..) rfl ?_
        exact Ok.refl
      refine OkP.mk ?_
      exact h5
    · refine OkP.via (readRegs_ok ..) rfl ?_
      exact Ok.refl
  · refine OkP.ite ?_ ?_
    · refine OkP.mk ?_
      exact Ok.refl
    · refine OkP.mk ?_
      exact Ok.refl
  · refine OkP.mk ?_
    exact Ok.refl
  · split
    · split
      · rename_i t6 e7
        refine OkP.withS (x := t6) (OkP.of_eq e7 ?_) fun h8 => ?_
        · refine OkP.via (readRegs_ok ..) rfl ?_
          exact Ok.refl
        refine OkP.mk ?_
        exact h8
      · refine OkP.via (readRegs_ok ..) rfl ?_
        exact Ok.refl
    · refine OkP.via (readReg_ok ..) rfl ?_
      exact Ok.refl
  · refine OkP.via (firmRead_ok ..) rfl ?_
    exact Ok.refl

theorem putReply_ok : ∀ x0 x1 s, OkP [] s (@putReply x0 x1 s) := by
  intro x0 x1 s
  delta putReply
  split
  · refine OkP.mk ?_
    exact Ok.refl
  · refine OkP.mk ?_
    exact Ok.refl
  · refine OkP.mk ?_
    exact Ok.refl

theorem writeReg_ok : ∀ x0 x1 x2 x3 s, OkP (.regs :: .snap :: .staged :: .bad :: .replies :: .guards :: .hostPair :: .trioPair :: .mgsPair :: .canPair :: .ticks :: .free :: .trioQ :: .emcyQ :: .logQ :: .logWin :: .legs :: .coils :: .coaches :: .trips :: .runs :: .axes :: .pl :: .power :: .syncOut :: .encs :: .stepLast :: .stepDir :: .sds :: .afe :: .trio :: .mgs :: .net :: .sph :: .spm :: .nvm :: []) s (@writeReg x0 x1 x2 x3 s) := by
  intro x0 x1 x2 x3 s
  delta writeReg
  refine OkP.ite ?_ ?_
  · refine OkP.mk ?_
    exact Ok.refl
  · extract_lets +onlyGivenNames -merge -useContext s0
    clear_value s0
    refine OkP.via (putReply_ok ..) rfl ?_
    refine Ok.ite ?_ ?_
    · refine Ok.via (guardedWrite_ok ..) rfl ?_
      exact Ok.refl
    · refine Ok.via (regWrite_ok ..) rfl ?_
      exact Ok.refl

theorem writePair_ok : ∀ x0 x1 x2 x3 s, OkP (.regs :: .snap :: .staged :: .bad :: .replies :: .guards :: .hostPair :: .trioPair :: .mgsPair :: .canPair :: .ticks :: .free :: .trioQ :: .emcyQ :: .logQ :: .logWin :: .legs :: .coils :: .coaches :: .trips :: .runs :: .axes :: .pl :: .power :: .syncOut :: .encs :: .stepLast :: .stepDir :: .sds :: .afe :: .trio :: .mgs :: .net :: .sph :: .spm :: .nvm :: []) s (@writePair x0 x1 x2 x3 s) := by
  intro x0 x1 x2 x3 s
  delta writePair
  refine OkP.ite ?_ ?_
  · refine OkP.mk ?_
    exact Ok.refl
  · extract_lets +onlyGivenNames -merge -useContext s0
    clear_value s0
    split
    · rename_i t1 e2
      refine OkP.withS (x := t1) (OkP.of_eq e2 ?_) fun h3 => ?_
      · refine OkP.via (putReply_ok ..) rfl ?_
        refine Ok.via (regWrite_ok ..) rfl ?_
        exact Ok.refl
      refine OkP.via (putReply_ok ..) rfl ?_
      refine Ok.via (regWrite_ok ..) rfl ?_
      exact h3
    · refine OkP.via (putReply_ok ..) rfl ?_
      refine Ok.via (regWrite_ok ..) rfl ?_
      exact Ok.refl

theorem writeRegs_ok : ∀ m l s, OkP [.regs, .snap, .staged, .bad, .replies, .guards, .hostPair, .trioPair, .mgsPair, .canPair, .ticks, .free, .trioQ, .emcyQ, .logQ, .logWin, .legs, .coils, .coaches, .trips, .runs, .axes, .pl, .power, .syncOut, .encs, .stepLast, .stepDir, .sds, .afe, .trio, .mgs, .net, .sph, .spm, .nvm] s (writeRegs m l s)
  | _, [], _ => OkP.mk Ok.refl
  | m, (a, w) :: l, s => by
    have h : OkP [.regs, .snap, .staged, .bad, .replies, .guards, .hostPair, .trioPair, .mgsPair, .canPair, .ticks, .free, .trioQ, .emcyQ, .logQ, .logWin, .legs, .coils, .coaches, .trips, .runs, .axes, .pl, .power, .syncOut, .encs, .stepLast, .stepDir, .sds, .afe, .trio, .mgs, .net, .sph, .spm, .nvm] s (putReply m a (regWrite m a w s)) :=
      OkP.via (putReply_ok ..) rfl ((regWrite_ok ..).mono rfl)
    unfold writeRegs
    split
    · rename_i t e
      exact OkP.via (writeRegs_ok m l t) rfl (OkP.of_eq e h)
    · exact h

theorem fitField_ok : ∀ x0 x1 x2 s, OkE [.trioQ, .emcyQ, .logQ, .logWin, .net, .reg .EV_PEND, .reg .GCTL_CLAMPADDR, .reg .GCTL_CLAMPAPP, .reg .GCTL_CLAMPAPPHI, .reg .GCTL_CLAMPREQ, .reg .GCTL_CLAMPREQHI, .reg .MGS_LOGSTAT] s (@fitField x0 x1 x2 s) := by
  intro x0 x1 x2 s
  delta fitField
  refine OkE.ite ?_ ?_
  · refine OkE.ok ?_
    exact Ok.refl
  · refine OkE.ite ?_ ?_
    · exact OkE.error
    · refine OkE.ok ?_
      refine Ok.via (recordClamp_ok ..) rfl ?_
      exact Ok.refl

theorem writeLin_ok : ∀ x0 x1 x2 s, OkP [.trioQ, .emcyQ, .logQ, .logWin, .afe, .net, .reg .EV_PEND, .reg .MGS_LOGSTAT] s (@writeLin x0 x1 x2 s) := by
  intro x0 x1 x2 s
  delta writeLin
  extract_lets +onlyGivenNames -merge -useContext s0
  clear_value s0
  refine OkP.ite ?_ ?_
  · refine OkP.mk ?_
    exact Ok.refl
  · refine OkP.ite ?_ ?_
    · refine OkP.mk ?_
      exact Ok.refl
    · refine OkP.ite ?_ ?_
      · refine OkP.mk ?_
        refine Ok.via (State.setLin_ok ..) rfl ?_
        exact Ok.refl
      · refine OkP.ite ?_ ?_
        · refine OkP.mk ?_
          exact Ok.refl
        · refine OkP.mk ?_
          refine Ok.via (pend_ok ..) rfl ?_
          refine Ok.via (reportClamp_ok ..) rfl ?_
          refine Ok.via (State.setLin_ok ..) rfl ?_
          exact Ok.refl

theorem dropMonitor_ok : ∀ x0 x1 x2 s, Ok [.net, .reg .NET_HB] s (@dropMonitor x0 x1 x2 s) := by
  intro x0 x1 x2 s
  delta dropMonitor
  refine Ok.ite ?_ ?_
  · exact Ok.refl
  · refine Ok.via (State.modNet_ok ?_) rfl ?_
    · exact fun _ h => ⟨h.1, h.2.1, h.2.2.1, h.2.2.2.1, h.2.2.2.2.1, h.2.2.2.2.2⟩
    refine Ok.via (State.putBitAt_at (at_NET_HB)) rfl ?_
    exact Ok.refl

theorem writeComm_ok : ∀ x0 x1 x2 x3 s, OkP [.trioQ, .emcyQ, .logQ, .logWin, .net, .reg .EV_PEND, .reg .MGS_LOGSTAT, .reg .NET_HB] s (@writeComm x0 x1 x2 x3 s) := by
  intro x0 x1 x2 x3 s
  delta writeComm
  split
  · refine OkP.mk ?_
    exact Ok.refl
  · refine OkP.ite ?_ ?_
    · refine OkP.mk ?_
      exact Ok.refl
    · refine OkP.ite ?_ ?_
      · refine OkP.mk ?_
        refine Ok.via (State.setObj_ok ..) rfl ?_
        refine Ok.via (dropMonitor_ok ..) rfl ?_
        exact Ok.refl
      · refine OkP.ite ?_ ?_
        · refine OkP.mk ?_
          exact Ok.refl
        · refine OkP.mk ?_
          refine Ok.via (pend_ok ..) rfl ?_
          refine Ok.via (reportClamp_ok ..) rfl ?_
          refine Ok.via (State.setObj_ok ..) rfl ?_
          exact Ok.refl

theorem writeEntries_ok : ∀ x0 s, Ok [.reg .PL_RCP0, .reg .PL_RCP1, .reg .PL_RCP2, .reg .PL_RCP3, .reg .PL_STAT] s (@writeEntries x0 s) := by
  intro x0 s
  delta writeEntries
  extract_lets +onlyGivenNames -merge -useContext s0
  clear_value s0
  refine Ok.via (plTo_ok ..) rfl ?_
  refine Ok.forEach ?_ ?_
  · intro a1 a2
    refine Ok.via (putEntry_ok ..) rfl ?_
    exact Ok.refl
  · exact Ok.refl

theorem firmWrite_ok : ∀ x0 x1 x2 x3 x4 s, OkP (.regs :: .snap :: .staged :: .bad :: .replies :: .guards :: .hostPair :: .trioPair :: .mgsPair :: .canPair :: .ticks :: .free :: .trioQ :: .emcyQ :: .logQ :: .logWin :: .legs :: .coils :: .coaches :: .trips :: .runs :: .axes :: .pl :: .power :: .syncOut :: .encs :: .stepLast :: .stepDir :: .sds :: .afe :: .trio :: .mgs :: .net :: .sph :: .spm :: .nvm :: []) s (@firmWrite x0 x1 x2 x3 x4 s) := by
  intro x0 x1 x2 x3 x4 s
  delta firmWrite
  extract_lets +onlyGivenNames -merge -useContext s0
  clear_value s0
  split
  · refine OkP.ite ?_ ?_
    · refine OkP.mk ?_
      refine Ok.via (State.modNet_ok ?_) rfl ?_
      · exact fun _ h => ⟨h.1, h.2.1, h.2.2.1, h.2.2.2.1, h.2.2.2.2.1, Nat.zero_le _⟩
      exact Ok.refl
    · refine OkP.mk ?_
      exact Ok.refl
  · refine OkP.ite ?_ ?_
    · refine OkP.ite ?_ ?_
      · refine OkP.mk ?_
        refine Ok.via (State.modNet_ok ?_) rfl ?_
        · exact fun _ h => ⟨h.1, h.2.1, h.2.2.1, h.2.2.2.1, h.2.2.2.2.1, h.2.2.2.2.2⟩
        exact Ok.refl
      · refine OkP.ite ?_ ?_
        · refine OkP.mk ?_
          exact Ok.refl
        · refine OkP.mk ?_
          refine Ok.via (pend_ok ..) rfl ?_
          refine Ok.via (reportClamp_ok ..) rfl ?_
          refine Ok.via (State.modNet_ok ?_) rfl ?_
          · exact fun _ h => ⟨h.1, h.2.1, h.2.2.1, h.2.2.2.1, h.2.2.2.2.1, h.2.2.2.2.2⟩
          exact Ok.refl
    · extract_lets +onlyGivenNames -merge -useContext s1
      clear_value s1
      refine OkP.via (writeReg_ok ..) rfl ?_
      exact Ok.refl
  · extract_lets +onlyGivenNames -merge -useContext s2
    clear_value s2
    refine OkP.ite ?_ ?_
    · refine OkP.mk ?_
      exact Ok.refl
    · refine OkP.ite ?_ ?_
      · refine OkP.mk ?_
        exact Ok.refl
      · extract_lets +onlyGivenNames -merge -useContext s3
        clear_value s3
        refine OkP.ite ?_ ?_
        · refine OkP.mk ?_
          refine Ok.via (writeEntries_ok ..) rfl ?_
          exact Ok.refl
        · extract_lets +onlyGivenNames -merge -useContext s4
          clear_value s4
          refine OkP.ite ?_ ?_
          · refine OkP.mk ?_
            refine Ok.via (State.put_at (at_PL_STAT)) rfl ?_
            exact Ok.refl
          · refine OkP.mk ?_
            refine Ok.via (loadImage_ok ..) rfl ?_
            exact Ok.refl
  · refine OkP.ite ?_ ?_
    · refine OkP.mk ?_
      refine Ok.via (State.modNet_ok ?_) rfl ?_
      · exact fun _ h => ⟨h.1, h.2.1, h.2.2.1, h.2.2.2.1, Nat.zero_le _, h.2.2.2.2.2⟩
      exact Ok.refl
    · refine OkP.mk ?_
      exact Ok.refl
  · refine OkP.mk ?_
    exact Ok.refl

theorem writePlace_ok : ∀ x0 x1 x2 x3 x4 x5 s, OkP (.regs :: .snap :: .staged :: .bad :: .replies :: .guards :: .hostPair :: .trioPair :: .mgsPair :: .canPair :: .ticks :: .free :: .trioQ :: .emcyQ :: .logQ :: .logWin :: .legs :: .coils :: .coaches :: .trips :: .runs :: .axes :: .pl :: .power :: .syncOut :: .encs :: .stepLast :: .stepDir :: .sds :: .afe :: .trio :: .mgs :: .net :: .sph :: .spm :: .nvm :: []) s (@writePlace x0 x1 x2 x3 x4 x5 s) := by
  intro x0 x1 x2 x3 x4 x5 s
  delta writePlace
  extract_lets +onlyGivenNames -merge -useContext s0
  clear_value s0
  split
  · refine OkP.via (writeComm_ok ..) rfl ?_
    exact Ok.refl
  · refine OkP.via (writeReg_ok ..) rfl ?_
    exact Ok.refl
  · split
    · refine OkP.mk ?_
      exact Ok.refl
    · rename_i t1 e2
      refine OkP.withS (x := t1) (OkE.of_eq e2 ?_) fun h3 => ?_
      · refine OkE.via (fitField_ok _ _ _ _) rfl ?_
        exact Ok.refl
      refine OkP.via (writeReg_ok ..) rfl ?_
      exact h3
  · refine OkP.via (writePair_ok ..) rfl ?_
    exact Ok.refl
  · refine OkP.ite ?_ ?_
    · refine OkP.mk ?_
      exact Ok.refl
    · refine OkP.via (putReply_ok ..) rfl ?_
      refine Ok.via (regWrite_ok ..) rfl ?_
      exact Ok.refl
  · extract_lets +onlyGivenNames -merge -useContext s4
    clear_value s4
    refine OkP.via (writeRegs_ok ..) rfl ?_
    exact Ok.refl
  · refine OkP.via (writeLin_ok ..) rfl ?_
    exact Ok.refl
  · extract_lets +onlyGivenNames -merge -useContext s5
    clear_value s5
    split
    · refine OkP.via (writeReg_ok ..) rfl ?_
      exact Ok.refl
    · refine OkP.via (writePair_ok ..) rfl ?_
      exact Ok.refl
    · extract_lets +onlyGivenNames -merge -useContext s6
      clear_value s6
      extract_lets +onlyGivenNames -merge -useContext s7
      clear_value s7
      split
      · refine OkP.via (writeReg_ok ..) rfl ?_
        exact Ok.refl
      · refine OkP.ite ?_ ?_
        · refine OkP.mk ?_
          exact Ok.refl
        · refine OkP.via (writeReg_ok ..) rfl ?_
          refine Ok.via (recordClamp_ok ..) rfl ?_
          exact Ok.refl
  · refine OkP.via (firmWrite_ok ..) rfl ?_
    exact Ok.refl
  · refine OkP.mk ?_
    exact Ok.refl

theorem writeObj_ok : ∀ x0 x1 x2 x3 x4 x5 x6 s, OkP (.regs :: .snap :: .staged :: .bad :: .replies :: .guards :: .hostPair :: .trioPair :: .mgsPair :: .canPair :: .ticks :: .free :: .trioQ :: .emcyQ :: .logQ :: .logWin :: .legs :: .coils :: .coaches :: .trips :: .runs :: .axes :: .pl :: .power :: .syncOut :: .encs :: .stepLast :: .stepDir :: .sds :: .afe :: .trio :: .mgs :: .net :: .sph :: .spm :: .nvm :: []) s (@writeObj x0 x1 x2 x3 x4 x5 x6 s) := by
  intro x0 x1 x2 x3 x4 x5 x6 s
  delta writeObj
  extract_lets +onlyGivenNames -merge -useContext s0
  refine OkP.withS (x := s0) ?_ fun h1 => ?_
  · unfold s0
    refine Ok.via (State.modNet_ok ?_) rfl ?_
    · exact fun _ h => ⟨h.1, h.2.1, h.2.2.1, h.2.2.2.1, h.2.2.2.2.1, h.2.2.2.2.2⟩
    exact Ok.refl
  clear_value s0
  split
  · rename_i t2 e3
    refine OkP.withS (x := t2) (OkP.of_eq e3 ?_) fun h4 => ?_
    · refine OkP.via (writePlace_ok ..) rfl ?_
      exact h1
    refine OkP.mk ?_
    refine Ok.via (State.modNet_ok ?_) rfl ?_
    · exact fun _ h => ⟨h.1, h.2.1, h.2.2.1, h.2.2.2.1, h.2.2.2.2.1, h.2.2.2.2.2⟩
    exact h4

end Sys2Proof.Machine
end

