-- ==== Sys2Proof/Laws/OkUsdoOps.lean ====
section
/-!
SUPPORT. Laws/OkUsdoOps.lean: for each operation of Machine/UsdoOps.lean, the parts of the state it can change, and that it keeps a
good state good.
-/

namespace Sys2Proof.Machine

set_option Elab.async false

theorem received_ok : ∀ x0 s, Ok [.mgs, .reg .GCTL_RUNSTAT] s (@received x0 s) := by
  intro x0 s
  delta received
  refine Ok.ite ?_ ?_
  · refine Ok.via (dozeEnd_ok ..) rfl ?_
    refine Ok.via (noteWake_ok ..) rfl ?_
    exact Ok.refl
  · exact Ok.refl

theorem quarantine_ok : ∀ x0 s, Ok [.trioQ, .emcyQ, .logQ, .logWin, .mgs, .net, .reg .EV_PEND, .reg .MGS_LOGSTAT, .reg .MGS_SECBUF, .reg .NET_MAL, .reg .NET_SESS] s (@quarantine x0 s) := by
  intro x0 s
  delta quarantine
  extract_lets +onlyGivenNames -merge -useContext s0
  refine Ok.withS (x := s0) ?_ fun h1 => ?_
  · unfold s0
    refine Ok.via (closeContexts_ok ..) rfl ?_
    exact Ok.refl
  clear_value s0
  extract_lets +onlyGivenNames -merge -useContext s2
  refine Ok.withS (x := s2) ?_ fun h3 => ?_
  · unfold s2
    refine Ok.via (State.modNet_ok ?_) rfl ?_
    · intro _ h
      dsimp only [Net.good]
      exact ⟨h.1, Sparse.wf_set h.2.1, h.2.2.1, h.2.2.2.1, h.2.2.2.2.1, h.2.2.2.2.2⟩
    exact h1
  clear_value s2
  extract_lets +onlyGivenNames -merge -useContext s4
  refine Ok.withS (x := s4) ?_ fun h5 => ?_
  · unfold s4
    refine Ok.via (State.put_at (at_NET_MAL)) rfl ?_
    refine Ok.via (State.put_at (at_NET_MAL)) rfl ?_
    refine Ok.via (State.inc_at (at_NET_MAL)) rfl ?_
    exact h3
  clear_value s4
  refine Ok.via (pendSrc_ok ..) rfl ?_
  exact h5

theorem malformed_ok : ∀ x0 s, Ok [.trioQ, .emcyQ, .logQ, .logWin, .mgs, .net, .reg .EV_PEND, .reg .MGS_LOGSTAT, .reg .MGS_SECBUF, .reg .NET_MAL, .reg .NET_SESS] s (@malformed x0 s) := by
  intro x0 s
  delta malformed
  extract_lets +onlyGivenNames -merge -useContext s0
  clear_value s0
  extract_lets +onlyGivenNames -merge -useContext s1
  clear_value s1
  refine Ok.ite ?_ ?_
  · exact Ok.refl
  · extract_lets +onlyGivenNames -merge -useContext s2
    refine Ok.withS (x := s2) ?_ fun h3 => ?_
    · unfold s2
      refine Ok.via (State.inc_at (at_NET_MAL)) rfl ?_
      exact Ok.refl
    clear_value s2
    extract_lets +onlyGivenNames -merge -useContext s4
    clear_value s4
    extract_lets +onlyGivenNames -merge -useContext s5
    refine Ok.withS (x := s5) ?_ fun h6 => ?_
    · unfold s5
      refine Ok.via (State.modNet_ok ?_) rfl ?_
      · exact fun _ h => ⟨h.1, h.2.1, h.2.2.1, h.2.2.2.1, h.2.2.2.2.1, h.2.2.2.2.2⟩
      exact h3
    clear_value s5
    extract_lets +onlyGivenNames -merge -useContext s7
    clear_value s7
    split
    · refine Ok.ite ?_ ?_
      · refine Ok.via (quarantine_ok ..) rfl ?_
        exact h6
      · exact h6
    · extract_lets +onlyGivenNames -merge -useContext s8
      clear_value s8
      extract_lets +onlyGivenNames -merge -useContext s9
      clear_value s9
      extract_lets +onlyGivenNames -merge -useContext s10
      clear_value s10
      refine Ok.applyIf ?_ ?_
      · intro a11
        refine Ok.via (pendSrc_ok ..) rfl ?_
        exact Ok.refl
      · refine Ok.via (State.modNet_ok ?_) rfl ?_
        · exact fun _ h => ⟨h.1, h.2.1, h.2.2.1, h.2.2.2.1, h.2.2.2.2.1, h.2.2.2.2.2⟩
        exact h6

theorem quarantineEnd_ok : ∀ x0 s, Ok [.net, .reg .NET_MAL] s (@quarantineEnd x0 s) := by
  intro x0 s
  delta quarantineEnd
  refine Ok.ite ?_ ?_
  · extract_lets +onlyGivenNames -merge -useContext s0
    refine Ok.withS (x := s0) ?_ fun h1 => ?_
    · unfold s0
      refine Ok.via (State.modNet_ok ?_) rfl ?_
      · exact fun _ h => ⟨h.1, h.2.1, h.2.2.1, h.2.2.2.1, h.2.2.2.2.1, h.2.2.2.2.2⟩
      exact Ok.refl
    clear_value s0
    refine Ok.ite ?_ ?_
    · refine Ok.via (State.put_at (at_NET_MAL)) rfl ?_
      exact h1
    · exact h1
  · exact Ok.refl

theorem modCtx_ok : ∀ x0 x1 s, Ok [.net] s (@modCtx x0 x1 s) := by
  intro x0 x1 s
  delta modCtx
  refine Ok.via (State.modNet_ok ?_) rfl ?_
  · exact fun _ h => ⟨h.1, h.2.1, h.2.2.1, h.2.2.2.1, h.2.2.2.2.1, h.2.2.2.2.2⟩
  exact Ok.refl

theorem usdoReply_ok : ∀ x0 x1 s, Ok [.net, .reg .NET_CNT] s (@usdoReply x0 x1 s) := by
  intro x0 x1 s
  delta usdoReply
  refine Ok.via (txAdd_ok ..) rfl ?_
  exact Ok.refl

theorem endTransfer_ok : ∀ x0 s, Ok [.mgs, .net, .reg .MGS_SECBUF, .reg .NET_SESS] s (@endTransfer x0 s) := by
  intro x0 s
  delta endTransfer
  extract_lets +onlyGivenNames -merge -useContext s0
  refine Ok.withS (x := s0) ?_ fun h1 => ?_
  · unfold s0
    refine Ok.via (modCtx_ok ..) rfl ?_
    exact Ok.refl
  clear_value s0
  refine Ok.via (closeContexts_ok ..) rfl ?_
  exact h1

theorem finishUsdo_ok : ∀ x0 x1 s, Ok [.mgs, .net, .reg .MGS_SECBUF, .reg .NET_CNT, .reg .NET_SESS] s (@finishUsdo x0 x1 s) := by
  intro x0 x1 s
  delta finishUsdo
  refine Ok.via (endTransfer_ok ..) rfl ?_
  refine Ok.via (usdoReply_ok ..) rfl ?_
  exact Ok.refl

theorem openCtx_ok : ∀ x0 s, OkP [.trioQ, .emcyQ, .logQ, .logWin, .net, .reg .EV_PEND, .reg .MGS_LOGSTAT, .reg .NET_CNT, .reg .NET_SESS] s (@openCtx x0 s) := by
  intro x0 s
  delta openCtx
  split
  · refine OkP.mk ?_
    exact Ok.refl
  · split
    · refine OkP.mk ?_
      refine Ok.via (showSessions_ok ..) rfl ?_
      refine Ok.via (State.modNet_ok ?_) rfl ?_
      · exact fun _ h => ⟨h.1, h.2.1, h.2.2.1, h.2.2.2.1, h.2.2.2.2.1, h.2.2.2.2.2⟩
      exact Ok.refl
    · extract_lets +onlyGivenNames -merge -useContext s0
      refine OkP.withS (x := s0) ?_ fun h1 => ?_
      · unfold s0
        refine Ok.ite ?_ ?_
        · refine Ok.via (pendSrc_ok ..) rfl ?_
          refine Ok.via (State.inc_at (at_NET_SESS)) rfl ?_
          exact Ok.refl
        · exact Ok.refl
      clear_value s0
      refine OkP.mk ?_
      refine Ok.via (usdoReply_ok ..) rfl ?_
      exact h1

theorem sendData_ok : ∀ x0 x1 s, Ok [.mgs, .net, .reg .MGS_SECBUF, .reg .NET_CNT, .reg .NET_SESS] s (@sendData x0 x1 s) := by
  intro x0 x1 s
  delta sendData
  refine Ok.ite ?_ ?_
  · refine Ok.via (modCtx_ok ..) rfl ?_
    refine Ok.via (usdoReply_ok ..) rfl ?_
    exact Ok.refl
  · refine Ok.ite ?_ ?_
    · refine Ok.via (finishUsdo_ok ..) rfl ?_
      exact Ok.refl
    · extract_lets +onlyGivenNames -merge -useContext s0
      refine Ok.withS (x := s0) ?_ fun h1 => ?_
      · unfold s0
        refine Ok.via (usdoReply_ok ..) rfl ?_
        exact Ok.refl
      clear_value s0
      refine Ok.via (modCtx_ok ..) rfl ?_
      exact h1

theorem uploadValue_ok : ∀ x0 x1 x2 x3 s, OkP (.regs :: .staged :: .replies :: .hostPair :: .trioPair :: .mgsPair :: .canPair :: .free :: .trioQ :: .emcyQ :: .logQ :: .logWin :: .legs :: .coils :: .coaches :: .axes :: .pl :: .power :: .sds :: .afe :: .trio :: .mgs :: .net :: .spm :: []) s (@uploadValue x0 x1 x2 x3 s) := by
  intro x0 x1 x2 x3 s
  delta uploadValue
  refine OkP.ite ?_ ?_
  · split
    · rename_i t0 e1
      refine OkP.withS (x := t0) (OkP.of_eq e1 ?_) fun h2 => ?_
      · refine OkP.via (newChallenge_ok ..) rfl ?_
        exact Ok.refl
      refine OkP.mk ?_
      refine Ok.via (modCtx_ok ..) rfl ?_
      exact h2
  · refine OkP.ite ?_ ?_
    · refine OkP.mk ?_
      exact Ok.refl
    · refine OkP.via (readObj_ok ..) rfl ?_
      exact Ok.refl

theorem upload_ok : ∀ x0 x1 x2 x3 s, Ok (.regs :: .staged :: .replies :: .hostPair :: .trioPair :: .mgsPair :: .canPair :: .free :: .trioQ :: .emcyQ :: .logQ :: .logWin :: .legs :: .coils :: .coaches :: .axes :: .pl :: .power :: .sds :: .afe :: .trio :: .mgs :: .net :: .spm :: []) s (@upload x0 x1 x2 x3 s) := by
  intro x0 x1 x2 x3 s
  delta upload
  split
  · refine Ok.via (finishUsdo_ok ..) rfl ?_
    exact Ok.refl
  · refine Ok.ite ?_ ?_
    · refine Ok.via (finishUsdo_ok ..) rfl ?_
      exact Ok.refl
    · refine Ok.ite ?_ ?_
      · refine Ok.via (finishUsdo_ok ..) rfl ?_
        exact Ok.refl
      · extract_lets +onlyGivenNames -merge -useContext s0
        refine Ok.withS (x := s0) ?_ fun h1 => ?_
        · unfold s0
          refine Ok.via (modCtx_ok ..) rfl ?_
          exact Ok.refl
        clear_value s0
        split
        · rename_i t2 e3
          refine Ok.withS (x := t2) (OkP.of_eq e3 ?_) fun h4 => ?_
          · refine OkP.via (uploadValue_ok ..) rfl ?_
            exact h1
          refine Ok.via (sendData_ok ..) rfl ?_
          exact h4
        · rename_i t5 e6
          refine Ok.withS (x := t5) (OkP.of_eq e6 ?_) fun h7 => ?_
          · refine OkP.via (uploadValue_ok ..) rfl ?_
            exact h1
          refine Ok.via (finishUsdo_ok ..) rfl ?_
          exact h7
        · rename_i t8 e9
          refine Ok.withS (x := t8) (OkP.of_eq e9 ?_) fun h10 => ?_
          · refine OkP.via (uploadValue_ok ..) rfl ?_
            exact h1
          refine Ok.via (modCtx_ok ..) rfl ?_
          exact h10

theorem answerPut_ok : ∀ x0 x1 x2 x3 s, Ok [.mgs, .net, .reg .MGS_SECBUF, .reg .NET_CNT, .reg .NET_SESS] s (@answerPut x0 x1 x2 x3 s) := by
  intro x0 x1 x2 x3 s
  delta answerPut
  split
  · refine Ok.via (finishUsdo_ok ..) rfl ?_
    exact Ok.refl
  · refine Ok.via (finishUsdo_ok ..) rfl ?_
    exact Ok.refl
  · refine Ok.via (modCtx_ok ..) rfl ?_
    exact Ok.refl

theorem storeObject_ok : ∀ x0 x1 x2 x3 s, Ok (.regs :: .snap :: .staged :: .bad :: .replies :: .guards :: .hostPair :: .trioPair :: .mgsPair :: .canPair :: .ticks :: .free :: .trioQ :: .emcyQ :: .logQ :: .logWin :: .legs :: .coils :: .coaches :: .trips :: .runs :: .axes :: .pl :: .power :: .syncOut :: .encs :: .stepLast :: .stepDir :: .sds :: .afe :: .trio :: .mgs :: .net :: .sph :: .spm :: .nvm :: []) s (@storeObject x0 x1 x2 x3 s) := by
  intro x0 x1 x2 x3 s
  delta storeObject
  refine Ok.ite ?_ ?_
  · refine Ok.via (finishUsdo_ok ..) rfl ?_
    exact Ok.refl
  · extract_lets +onlyGivenNames -merge -useContext s0
    refine Ok.withS (x := s0) ?_ fun h1 => ?_
    · unfold s0
      refine Ok.via (guardedWrite_ok ..) rfl ?_
      exact Ok.refl
    clear_value s0
    split
    · refine Ok.via (modCtx_ok ..) rfl ?_
      exact h1
    · refine Ok.via (finishUsdo_ok ..) rfl ?_
      exact h1
    · refine Ok.via (finishUsdo_ok ..) rfl ?_
      exact h1

theorem beginImage_ok : ∀ x0 x1 s, Ok (.regs :: .snap :: .staged :: .bad :: .replies :: .guards :: .hostPair :: .trioPair :: .mgsPair :: .canPair :: .ticks :: .free :: .trioQ :: .emcyQ :: .logQ :: .logWin :: .legs :: .coils :: .coaches :: .trips :: .runs :: .axes :: .pl :: .power :: .syncOut :: .encs :: .stepLast :: .stepDir :: .sds :: .afe :: .trio :: .mgs :: .net :: .sph :: .spm :: .nvm :: []) s (@beginImage x0 x1 s) := by
  intro x0 x1 s
  delta beginImage
  refine Ok.ite ?_ ?_
  · refine Ok.via (finishUsdo_ok ..) rfl ?_
    exact Ok.refl
  · refine Ok.ite ?_ ?_
    · refine Ok.via (finishUsdo_ok ..) rfl ?_
      exact Ok.refl
    · extract_lets +onlyGivenNames -merge -useContext s0
      refine Ok.withS (x := s0) ?_ fun h1 => ?_
      · unfold s0
        refine Ok.via (regWrite_ok ..) rfl ?_
        exact Ok.refl
      clear_value s0
      split
      · refine Ok.via (modCtx_ok ..) rfl ?_
        exact h1
      · refine Ok.via (finishUsdo_ok ..) rfl ?_
        exact h1
      · refine Ok.via (finishUsdo_ok ..) rfl ?_
        exact h1

theorem perform_ok : ∀ x0 x1 x2 x3 x4 s, Ok (.regs :: .snap :: .staged :: .bad :: .replies :: .guards :: .hostPair :: .trioPair :: .mgsPair :: .canPair :: .ticks :: .free :: .trioQ :: .emcyQ :: .logQ :: .logWin :: .legs :: .coils :: .coaches :: .trips :: .runs :: .axes :: .pl :: .power :: .syncOut :: .encs :: .stepLast :: .stepDir :: .sds :: .afe :: .trio :: .mgs :: .net :: .sph :: .spm :: .nvm :: []) s (@perform x0 x1 x2 x3 x4 s) := by
  intro x0 x1 x2 x3 x4 s
  delta perform
  refine Ok.ite ?_ ?_
  · refine Ok.via (finishUsdo_ok ..) rfl ?_
    exact Ok.refl
  · refine Ok.ite ?_ ?_
    · refine Ok.via (storeObject_ok ..) rfl ?_
      exact Ok.refl
    · refine Ok.ite ?_ ?_
      · refine Ok.via (storeObject_ok ..) rfl ?_
        exact Ok.refl
      · refine Ok.ite ?_ ?_
        · refine Ok.via (beginImage_ok ..) rfl ?_
          exact Ok.refl
        · refine Ok.ite ?_ ?_
          · refine Ok.via (modCtx_ok ..) rfl ?_
            exact Ok.refl
          · refine Ok.ite ?_ ?_
            · refine Ok.via (closeContexts_ok ..) rfl ?_
              refine Ok.via (usdoReply_ok ..) rfl ?_
              exact Ok.refl
            · split
              · rename_i t0 e1
                refine Ok.withS (x := t0) (OkP.of_eq e1 ?_) fun h2 => ?_
                · refine OkP.via (writeObj_ok ..) rfl ?_
                  exact Ok.refl
                refine Ok.via (answerPut_ok ..) rfl ?_
                exact h2

theorem downloadData_ok : ∀ x0 x1 x2 x3 x4 s, Ok (.regs :: .snap :: .staged :: .bad :: .replies :: .guards :: .hostPair :: .trioPair :: .mgsPair :: .canPair :: .ticks :: .free :: .trioQ :: .emcyQ :: .logQ :: .logWin :: .legs :: .coils :: .coaches :: .trips :: .runs :: .axes :: .pl :: .power :: .syncOut :: .encs :: .stepLast :: .stepDir :: .sds :: .afe :: .trio :: .mgs :: .net :: .sph :: .spm :: .nvm :: []) s (@downloadData x0 x1 x2 x3 x4 s) := by
  intro x0 x1 x2 x3 x4 s
  delta downloadData
  split
  · refine Ok.via (finishUsdo_ok ..) rfl ?_
    exact Ok.refl
  · refine Ok.ite ?_ ?_
    · refine Ok.via (finishUsdo_ok ..) rfl ?_
      exact Ok.refl
    · refine Ok.ite ?_ ?_
      · refine Ok.via (perform_ok ..) rfl ?_
        exact Ok.refl
      · refine Ok.via (usdoReply_ok ..) rfl ?_
        refine Ok.via (modCtx_ok ..) rfl ?_
        exact Ok.refl

theorem download_ok : ∀ x0 x1 x2 x3 x4 s, Ok (.regs :: .snap :: .staged :: .bad :: .replies :: .guards :: .hostPair :: .trioPair :: .mgsPair :: .canPair :: .ticks :: .free :: .trioQ :: .emcyQ :: .logQ :: .logWin :: .legs :: .coils :: .coaches :: .trips :: .runs :: .axes :: .pl :: .power :: .syncOut :: .encs :: .stepLast :: .stepDir :: .sds :: .afe :: .trio :: .mgs :: .net :: .sph :: .spm :: .nvm :: []) s (@download x0 x1 x2 x3 x4 s) := by
  intro x0 x1 x2 x3 x4 s
  delta download
  split
  · refine Ok.via (finishUsdo_ok ..) rfl ?_
    exact Ok.refl
  · refine Ok.via (downloadData_ok ..) rfl ?_
    exact Ok.refl

theorem blockDownload_ok : ∀ x0 x1 x2 s, Ok [.mgs, .net, .reg .MGS_SECBUF, .reg .NET_CNT, .reg .NET_SESS] s (@blockDownload x0 x1 x2 s) := by
  intro x0 x1 x2 s
  delta blockDownload
  split
  · refine Ok.via (finishUsdo_ok ..) rfl ?_
    exact Ok.refl
  · refine Ok.via (usdoReply_ok ..) rfl ?_
    refine Ok.via (modCtx_ok ..) rfl ?_
    exact Ok.refl

theorem blockSegment_ok : ∀ x0 x1 x2 x3 x4 s, Ok [.mgs, .net, .reg .MGS_SECBUF, .reg .NET_CNT, .reg .NET_SESS] s (@blockSegment x0 x1 x2 x3 x4 s) := by
  intro x0 x1 x2 x3 x4 s
  delta blockSegment
  extract_lets +onlyGivenNames -merge -useContext s0
  clear_value s0
  refine Ok.ite ?_ ?_
  · refine Ok.via (finishUsdo_ok ..) rfl ?_
    exact Ok.refl
  · extract_lets +onlyGivenNames -merge -useContext s1
    clear_value s1
    extract_lets +onlyGivenNames -merge -useContext s2
    clear_value s2
    extract_lets +onlyGivenNames -merge -useContext s3
    clear_value s3
    extract_lets +onlyGivenNames -merge -useContext s4
    refine Ok.withS (x := s4) ?_ fun h5 => ?_
    · unfold s4
      refine Ok.via (modCtx_ok ..) rfl ?_
      exact Ok.refl
    clear_value s4
    refine Ok.ite ?_ ?_
    · refine Ok.via (usdoReply_ok ..) rfl ?_
      exact h5
    · exact h5

theorem sendBlock_ok : ∀ x0 x1 x2 s, Ok [.net, .reg .NET_CNT] s (@sendBlock x0 x1 x2 s) := by
  intro x0 x1 x2 s
  delta sendBlock
  extract_lets +onlyGivenNames -merge -useContext s0
  clear_value s0
  extract_lets +onlyGivenNames -merge -useContext s1
  refine Ok.withS (x := s1) ?_ fun h2 => ?_
  · unfold s1
    refine Ok.via (modCtx_ok ..) rfl ?_
    exact Ok.refl
  clear_value s1
  refine Ok.foldl ?_ ?_
  · intro u3 x4
    refine Ok.via (usdoReply_ok ..) rfl ?_
    exact Ok.refl
  · exact h2

theorem blockAcked_ok : ∀ x0 x1 x2 x3 x4 s, Ok [.net, .reg .NET_CNT] s (@blockAcked x0 x1 x2 x3 x4 s) := by
  intro x0 x1 x2 x3 x4 s
  delta blockAcked
  extract_lets +onlyGivenNames -merge -useContext s0
  clear_value s0
  refine Ok.ite ?_ ?_
  · refine Ok.via (usdoReply_ok ..) rfl ?_
    refine Ok.via (modCtx_ok ..) rfl ?_
    exact Ok.refl
  · refine Ok.via (sendBlock_ok ..) rfl ?_
    exact Ok.refl

theorem endWrong_ok : ∀ x0 x1 s, Ok [.trioQ, .emcyQ, .logQ, .logWin, .mgs, .net, .reg .EV_PEND, .reg .MGS_LOGSTAT, .reg .MGS_SECBUF, .reg .NET_CNT, .reg .NET_MAL, .reg .NET_SESS] s (@endWrong x0 x1 s) := by
  intro x0 x1 s
  delta endWrong
  extract_lets +onlyGivenNames -merge -useContext s0
  refine Ok.withS (x := s0) ?_ fun h1 => ?_
  · unfold s0
    refine Ok.via (malformed_ok ..) rfl ?_
    exact Ok.refl
  clear_value s0
  refine Ok.ite ?_ ?_
  · exact h1
  · refine Ok.via (finishUsdo_ok ..) rfl ?_
    exact h1

theorem nextBlock_ok : ∀ x0 x1 x2 x3 s, Ok (.regs :: .snap :: .staged :: .bad :: .replies :: .guards :: .hostPair :: .trioPair :: .mgsPair :: .canPair :: .ticks :: .free :: .trioQ :: .emcyQ :: .logQ :: .logWin :: .legs :: .coils :: .coaches :: .trips :: .runs :: .axes :: .pl :: .power :: .syncOut :: .encs :: .stepLast :: .stepDir :: .sds :: .afe :: .trio :: .mgs :: .net :: .sph :: .spm :: .nvm :: []) s (@nextBlock x0 x1 x2 x3 s) := by
  intro x0 x1 x2 x3 s
  delta nextBlock
  split
  · refine Ok.ite ?_ ?_
    · refine Ok.via (endWrong_ok ..) rfl ?_
      exact Ok.refl
    · refine Ok.via (blockSegment_ok ..) rfl ?_
      exact Ok.refl
  · refine Ok.ite ?_ ?_
    · refine Ok.via (endWrong_ok ..) rfl ?_
      exact Ok.refl
    · split
      · refine Ok.via (finishUsdo_ok ..) rfl ?_
        exact Ok.refl
      · refine Ok.via (perform_ok ..) rfl ?_
        exact Ok.refl
  · refine Ok.ite ?_ ?_
    · refine Ok.via (endWrong_ok ..) rfl ?_
      exact Ok.refl
    · refine Ok.via (sendBlock_ok ..) rfl ?_
      exact Ok.refl
  · refine Ok.ite ?_ ?_
    · refine Ok.via (endWrong_ok ..) rfl ?_
      exact Ok.refl
    · refine Ok.ite ?_ ?_
      · refine Ok.via (endWrong_ok ..) rfl ?_
        exact Ok.refl
      · refine Ok.via (blockAcked_ok ..) rfl ?_
        exact Ok.refl
  · refine Ok.ite ?_ ?_
    · refine Ok.via (endTransfer_ok ..) rfl ?_
      exact Ok.refl
    · refine Ok.via (endWrong_ok ..) rfl ?_
      exact Ok.refl
  · refine Ok.via (endWrong_ok ..) rfl ?_
    exact Ok.refl
  · refine Ok.via (endWrong_ok ..) rfl ?_
    exact Ok.refl

theorem nextSegment_ok : ∀ x0 x1 x2 s, Ok (.regs :: .snap :: .staged :: .bad :: .replies :: .guards :: .hostPair :: .trioPair :: .mgsPair :: .canPair :: .ticks :: .free :: .trioQ :: .emcyQ :: .logQ :: .logWin :: .legs :: .coils :: .coaches :: .trips :: .runs :: .axes :: .pl :: .power :: .syncOut :: .encs :: .stepLast :: .stepDir :: .sds :: .afe :: .trio :: .mgs :: .net :: .sph :: .spm :: .nvm :: []) s (@nextSegment x0 x1 x2 s) := by
  intro x0 x1 x2 s
  delta nextSegment
  split
  · refine Ok.via (downloadData_ok ..) rfl ?_
    exact Ok.refl
  · refine Ok.ite ?_ ?_
    · refine Ok.via (endTransfer_ok ..) rfl ?_
      exact Ok.refl
    · refine Ok.via (sendData_ok ..) rfl ?_
      exact Ok.refl
  · refine Ok.via (endWrong_ok ..) rfl ?_
    exact Ok.refl
  · refine Ok.via (endWrong_ok ..) rfl ?_
    exact Ok.refl

theorem nextRequest_ok : ∀ x0 x1 s, Ok (.regs :: .snap :: .staged :: .bad :: .replies :: .guards :: .hostPair :: .trioPair :: .mgsPair :: .canPair :: .ticks :: .free :: .trioQ :: .emcyQ :: .logQ :: .logWin :: .legs :: .coils :: .coaches :: .trips :: .runs :: .axes :: .pl :: .power :: .syncOut :: .encs :: .stepLast :: .stepDir :: .sds :: .afe :: .trio :: .mgs :: .net :: .sph :: .spm :: .nvm :: []) s (@nextRequest x0 x1 s) := by
  intro x0 x1 s
  delta nextRequest
  split
  · refine Ok.via (malformed_ok ..) rfl ?_
    exact Ok.refl
  · refine Ok.ite ?_ ?_
    · exact Ok.refl
    · split
      · refine Ok.via (endTransfer_ok ..) rfl ?_
        exact Ok.refl
      · refine Ok.via (malformed_ok ..) rfl ?_
        exact Ok.refl
      · split
        · refine Ok.via (nextBlock_ok ..) rfl ?_
          exact Ok.refl
        · refine Ok.via (nextSegment_ok ..) rfl ?_
          exact Ok.refl

theorem firstRequest_ok {W' : List Part} {x0} {x1} {s : State} (hk : ∀ u, Ok W' u (x1 u)) :
    Ok ([.trioQ, .emcyQ, .logQ, .logWin, .net, .reg .EV_PEND, .reg .MGS_LOGSTAT, .reg .NET_CNT, .reg .NET_SESS] ++ W') s (@firstRequest x0 x1 s) := by
  delta firstRequest
  refine Ok.ite ?_ ?_
  · exact Ok.refl
  · split
    · rename_i t0 e1
      refine Ok.withS (x := t0) (OkP.of_eq e1 ?_) fun h2 => ?_
      · refine OkP.via (openCtx_ok ..) (within_left rfl) ?_
        exact Ok.refl
      refine Ok.via (hk ..) within_right ?_
      exact h2
    · rename_i t3 e4
      refine Ok.withS (x := t3) (OkP.of_eq e4 ?_) fun h5 => ?_
      · refine OkP.via (openCtx_ok ..) (within_left rfl) ?_
        exact Ok.refl
      exact h5

theorem usdoRequest_ok : ∀ x0 x1 s, Ok (.regs :: .snap :: .staged :: .bad :: .replies :: .guards :: .hostPair :: .trioPair :: .mgsPair :: .canPair :: .ticks :: .free :: .trioQ :: .emcyQ :: .logQ :: .logWin :: .legs :: .coils :: .coaches :: .trips :: .runs :: .axes :: .pl :: .power :: .syncOut :: .encs :: .stepLast :: .stepDir :: .sds :: .afe :: .trio :: .mgs :: .net :: .sph :: .spm :: .nvm :: []) s (@usdoRequest x0 x1 s) := by
  intro x0 x1 s
  delta usdoRequest
  refine Ok.ite ?_ ?_
  · exact Ok.refl
  · extract_lets +onlyGivenNames -merge -useContext s0
    refine Ok.withS (x := s0) ?_ fun h1 => ?_
    · unfold s0
      refine Ok.via (received_ok ..) rfl ?_
      exact Ok.refl
    clear_value s0
    refine Ok.ite ?_ ?_
    · exact h1
    · refine Ok.ite ?_ ?_
      · refine Ok.via (malformed_ok ..) rfl ?_
        exact h1
      · refine Ok.ite ?_ ?_
        · exact h1
        · split
          · refine Ok.via (firstRequest_ok (W' := (.regs :: .staged :: .replies :: .hostPair :: .trioPair :: .mgsPair :: .canPair :: .free :: .trioQ :: .emcyQ :: .logQ :: .logWin :: .legs :: .coils :: .coaches :: .axes :: .pl :: .power :: .sds :: .afe :: .trio :: .mgs :: .net :: .spm :: [])) ?_) rfl ?_
            · intro a2
              refine Ok.via (upload_ok ..) rfl ?_
              exact Ok.refl
            exact h1
          · refine Ok.via (firstRequest_ok (W' := (.regs :: .snap :: .staged :: .bad :: .replies :: .guards :: .hostPair :: .trioPair :: .mgsPair :: .canPair :: .ticks :: .free :: .trioQ :: .emcyQ :: .logQ :: .logWin :: .legs :: .coils :: .coaches :: .trips :: .runs :: .axes :: .pl :: .power :: .syncOut :: .encs :: .stepLast :: .stepDir :: .sds :: .afe :: .trio :: .mgs :: .net :: .sph :: .spm :: .nvm :: [])) ?_) rfl ?_
            · intro a3
              refine Ok.via (download_ok ..) rfl ?_
              exact Ok.refl
            exact h1
          · refine Ok.via (firstRequest_ok (W' := [.mgs, .net, .reg .MGS_SECBUF, .reg .NET_CNT, .reg .NET_SESS]) ?_) rfl ?_
            · intro a4
              refine Ok.via (blockDownload_ok ..) rfl ?_
              exact Ok.refl
            exact h1
          · refine Ok.ite ?_ ?_
            · refine Ok.via (firstRequest_ok (W' := [.mgs, .net, .reg .MGS_SECBUF, .reg .NET_CNT, .reg .NET_SESS]) ?_) rfl ?_
              · intro a5
                refine Ok.via (finishUsdo_ok ..) rfl ?_
                exact Ok.refl
              exact h1
            · refine Ok.via (firstRequest_ok (W' := (.regs :: .staged :: .replies :: .hostPair :: .trioPair :: .mgsPair :: .canPair :: .free :: .trioQ :: .emcyQ :: .logQ :: .logWin :: .legs :: .coils :: .coaches :: .axes :: .pl :: .power :: .sds :: .afe :: .trio :: .mgs :: .net :: .spm :: [])) ?_) rfl ?_
              · intro a6
                refine Ok.via (upload_ok ..) rfl ?_
                exact Ok.refl
              exact h1
          · refine Ok.via (nextRequest_ok ..) rfl ?_
            exact h1

theorem usdoTimeout_ok : ∀ x0 s, Ok [.mgs, .net, .reg .MGS_SECBUF, .reg .NET_CNT, .reg .NET_SESS] s (@usdoTimeout x0 s) := by
  intro x0 s
  delta usdoTimeout
  refine Ok.ite ?_ ?_
  · exact Ok.refl
  · split
    · exact Ok.refl
    · refine Ok.ite ?_ ?_
      · refine Ok.via (finishUsdo_ok ..) rfl ?_
        exact Ok.refl
      · exact Ok.refl

theorem contextIdle_ok : ∀ x0 s, Ok [.mgs, .net, .reg .MGS_SECBUF, .reg .NET_SESS] s (@contextIdle x0 s) := by
  intro x0 s
  delta contextIdle
  refine Ok.ite ?_ ?_
  · refine Ok.via (closeContexts_ok ..) rfl ?_
    exact Ok.refl
  · exact Ok.refl

theorem checkCtx_ok : ∀ x0 s, Ok [.trioQ, .emcyQ, .logQ, .logWin, .mgs, .net, .reg .EV_PEND, .reg .MGS_ALSTAT, .reg .MGS_AUSTAT, .reg .MGS_LOGSTAT, .reg .MGS_PROV, .reg .MGS_SECBUF, .reg .NET_CNT, .reg .NET_MAL, .reg .NET_SESS] s (@checkCtx x0 s) := by
  intro x0 s
  delta checkCtx
  split
  · exact Ok.refl
  · split
    · exact Ok.refl
    · extract_lets +onlyGivenNames -merge -useContext s0
      clear_value s0
      extract_lets +onlyGivenNames -merge -useContext s1
      refine Ok.withS (x := s1) ?_ fun h2 => ?_
      · unfold s1
        refine Ok.via (modCtx_ok ..) rfl ?_
        exact Ok.refl
      clear_value s1
      extract_lets +onlyGivenNames -merge -useContext s3
      have hf6 : ∀ z0 z1, Ok [.net] z1 (s3 z0 z1) := by
        unfold s3
        intro a4 a5
        refine Ok.via (State.modNet_ok ?_) rfl ?_
        · intro _ h
          dsimp only [Net.good]
          exact ⟨h.1, Sparse.wf_set h.2.1, h.2.2.1, h.2.2.2.1, h.2.2.2.2.1, h.2.2.2.2.2⟩
        exact Ok.refl
      clear_value s3
      refine Ok.ite ?_ ?_
      · refine Ok.via (showSessions_ok ..) rfl ?_
        refine Ok.via (finishUsdo_ok ..) rfl ?_
        refine Ok.via (hf6 ..) rfl ?_
        exact h2
      · extract_lets +onlyGivenNames -merge -useContext s7
        clear_value s7
        extract_lets +onlyGivenNames -merge -useContext s8
        refine Ok.withS (x := s8) ?_ fun h9 => ?_
        · unfold s8
          refine Ok.via (finishUsdo_ok ..) rfl ?_
          refine Ok.via (authFailure_ok ..) rfl ?_
          refine Ok.via (hf6 ..) rfl ?_
          exact h2
        clear_value s8
        refine Ok.ite ?_ ?_
        · refine Ok.via (quarantine_ok ..) rfl ?_
          exact h9
        · exact h9

theorem expireCtx_ok : ∀ x0 s, Ok [.mgs, .net, .reg .MGS_SECBUF, .reg .NET_SESS] s (@expireCtx x0 s) := by
  intro x0 s
  delta expireCtx
  extract_lets +onlyGivenNames -merge -useContext s0
  refine Ok.withS (x := s0) ?_ fun h1 => ?_
  · unfold s0
    refine Ok.via (modCtx_ok ..) rfl ?_
    exact Ok.refl
  clear_value s0
  refine Ok.via (closeContexts_ok ..) rfl ?_
  exact h1

theorem doneExchange_ok : ∀ x0 x1 s, Ok [.mgs, .net, .reg .MGS_SECBUF, .reg .NET_CNT, .reg .NET_SESS] s (@doneExchange x0 x1 s) := by
  intro x0 x1 s
  delta doneExchange
  extract_lets +onlyGivenNames -merge -useContext s0
  clear_value s0
  split
  · exact Ok.refl
  · extract_lets +onlyGivenNames -merge -useContext s1
    clear_value s1
    split
    · refine Ok.via (sendData_ok ..) rfl ?_
      exact Ok.refl
    · refine Ok.via (finishUsdo_ok ..) rfl ?_
      exact Ok.refl
    · refine Ok.via (finishUsdo_ok ..) rfl ?_
      exact Ok.refl
    · exact Ok.refl

theorem doneStore_ok : ∀ x0 s, Ok [.mgs, .net, .reg .MGS_SECBUF, .reg .NET_CNT, .reg .NET_SESS] s (@doneStore x0 s) := by
  intro x0 s
  delta doneStore
  refine Ok.ite ?_ ?_
  · refine Ok.via (finishUsdo_ok ..) rfl ?_
    exact Ok.refl
  · exact Ok.refl

theorem doneUpdate_ok : ∀ x0 s, Ok (.regs :: .snap :: .staged :: .bad :: .replies :: .guards :: .hostPair :: .trioPair :: .mgsPair :: .canPair :: .ticks :: .free :: .trioQ :: .emcyQ :: .logQ :: .logWin :: .legs :: .coils :: .coaches :: .trips :: .runs :: .axes :: .pl :: .power :: .syncOut :: .encs :: .stepLast :: .stepDir :: .sds :: .afe :: .trio :: .mgs :: .net :: .sph :: .spm :: .nvm :: []) s (@doneUpdate x0 s) := by
  intro x0 s
  delta doneUpdate
  refine Ok.ite ?_ ?_
  · exact Ok.refl
  · extract_lets +onlyGivenNames -merge -useContext s0
    clear_value s0
    extract_lets +onlyGivenNames -merge -useContext s1
    clear_value s1
    refine Ok.ite ?_ ?_
    · refine Ok.via (finishUsdo_ok ..) rfl ?_
      exact Ok.refl
    · refine Ok.ite ?_ ?_
      · refine Ok.via (finishUsdo_ok ..) rfl ?_
        exact Ok.refl
      · extract_lets +onlyGivenNames -merge -useContext s2
        refine Ok.withS (x := s2) ?_ fun h5 => ?_
        · unfold s2
          refine Ok.foldl ?_ ?_
          · intro u3 x4
            refine Ok.via (updData_ok ..) rfl ?_
            exact Ok.refl
          · exact Ok.refl
        clear_value s2
        extract_lets +onlyGivenNames -merge -useContext s6
        refine Ok.withS (x := s6) ?_ fun h7 => ?_
        · unfold s6
          refine Ok.via (regWrite_ok ..) rfl ?_
          exact h5
        clear_value s6
        refine Ok.via (modCtx_ok ..) rfl ?_
        exact h7

theorem netSweep_ok : ∀ s, Ok (.regs :: .snap :: .staged :: .bad :: .replies :: .guards :: .hostPair :: .trioPair :: .mgsPair :: .canPair :: .ticks :: .free :: .trioQ :: .emcyQ :: .logQ :: .logWin :: .legs :: .coils :: .coaches :: .trips :: .runs :: .axes :: .pl :: .power :: .syncOut :: .encs :: .stepLast :: .stepDir :: .sds :: .afe :: .trio :: .mgs :: .net :: .sph :: .spm :: .nvm :: []) s (@netSweep s) := by
  intro s
  delta netSweep
  refine Ok.ite ?_ ?_
  · exact Ok.refl
  · extract_lets +onlyGivenNames -merge -useContext s0
    clear_value s0
    extract_lets +onlyGivenNames -merge -useContext s1
    refine Ok.withS (x := s1) ?_ fun h2 => ?_
    · unfold s1
      refine Ok.via (State.modNet_ok ?_) rfl ?_
      · exact fun _ h => ⟨h.1, h.2.1, h.2.2.1, h.2.2.2.1, h.2.2.2.2.1, h.2.2.2.2.2⟩
      exact Ok.refl
    clear_value s1
    extract_lets +onlyGivenNames -merge -useContext s3
    refine Ok.withS (x := s3) ?_ fun h6 => ?_
    · unfold s3
      refine Ok.foldl ?_ ?_
      · intro u4 x5
        refine Ok.via (doneExchange_ok ..) rfl ?_
        exact Ok.refl
      · exact h2
    clear_value s3
    extract_lets +onlyGivenNames -merge -useContext s7
    refine Ok.withS (x := s7) ?_ fun h10 => ?_
    · unfold s7
      refine Ok.foldl ?_ ?_
      · intro u8 x9
        refine Ok.via (doneStore_ok ..) rfl ?_
        exact Ok.refl
      · exact h6
    clear_value s7
    refine Ok.foldl ?_ ?_
    · intro u11 x12
      refine Ok.via (doneUpdate_ok ..) rfl ?_
      exact Ok.refl
    · exact h10

end Sys2Proof.Machine
end

