-- ==== Sys2Proof/Laws/OkNetOps.lean ====
section
/-!
SUPPORT. Laws/OkNetOps.lean: for each operation of Machine/NetOps.lean, the parts of the state it can change, and that it keeps a
good state good.
-/

namespace Sys2Proof.Machine

set_option Elab.async false

theorem syncEvent_ok : ∀ x0 x1 s, Ok [.axes, .pl] s (@syncEvent x0 x1 s) := by
  intro x0 x1 s
  delta syncEvent
  extract_lets +onlyGivenNames -merge -useContext s0
  refine Ok.withS (x := s0) ?_ fun h5 => ?_
  · unfold s0
    refine Ok.forEach ?_ ?_
    · intro a1 a2
      extract_lets +onlyGivenNames -merge -useContext s3
      clear_value s3
      extract_lets +onlyGivenNames -merge -useContext s4
      clear_value s4
      refine Ok.ite ?_ ?_
      · refine Ok.via (State.modMo_ok ..) rfl ?_
        exact Ok.refl
      · exact Ok.refl
    · exact Ok.refl
  clear_value s0
  refine Ok.ite ?_ ?_
  · refine Ok.via (State.modPl_ok ..) rfl ?_
    exact h5
  · exact h5

theorem nmtCommand_ok : ∀ x0 x1 x2 s, Ok [.mgs, .reg .GCTL_RUNSTAT, .reg .NET_NODE] s (@nmtCommand x0 x1 x2 s) := by
  intro x0 x1 x2 s
  delta nmtCommand
  extract_lets +onlyGivenNames -merge -useContext s0
  refine Ok.withS (x := s0) ?_ fun h1 => ?_
  · unfold s0
    refine Ok.ite ?_ ?_
    · refine Ok.via (received_ok ..) rfl ?_
      exact Ok.refl
    · exact Ok.refl
  clear_value s0
  refine Ok.ite ?_ ?_
  · refine Ok.via (setNmt_ok ..) rfl ?_
    exact h1
  · exact h1

theorem nmtReset_ok : ∀ x0 x1 s, Ok [.axes, .mgs, .net, .reg .GCTL_RUNSTAT, .reg .NET_NODE] s (@nmtReset x0 x1 s) := by
  intro x0 x1 s
  delta nmtReset
  extract_lets +onlyGivenNames -merge -useContext s0
  refine Ok.withS (x := s0) ?_ fun h1 => ?_
  · unfold s0
    refine Ok.ite ?_ ?_
    · refine Ok.via (received_ok ..) rfl ?_
      exact Ok.refl
    · exact Ok.refl
  clear_value s0
  refine Ok.ite ?_ ?_
  · refine Ok.ite ?_ ?_
    · refine Ok.via (State.inc_at (at_NET_NODE)) rfl ?_
      exact h1
    · extract_lets +onlyGivenNames -merge -useContext s2
      refine Ok.withS (x := s2) ?_ fun h5 => ?_
      · unfold s2
        refine Ok.forEach ?_ ?_
        · intro a3 a4
          refine Ok.via (State.modMo_ok ..) rfl ?_
          exact Ok.refl
        · exact h1
      clear_value s2
      refine Ok.via (State.modNet_ok ?_) rfl ?_
      · exact fun _ h => ⟨h.1, h.2.1, h.2.2.1, h.2.2.2.1, h.2.2.2.2.1, h.2.2.2.2.2⟩
      exact h5
  · exact h1

theorem nmtResetDeferred_ok : ∀ s, Ok (.regs :: .snap :: .staged :: .bad :: .replies :: .guards :: .hostPair :: .trioPair :: .mgsPair :: .canPair :: .ticks :: .trioQ :: .emcyQ :: .logQ :: .logWin :: .legs :: .coils :: .coaches :: .trips :: .runs :: .axes :: .pl :: .power :: .syncOut :: .encs :: .stepLast :: .stepDir :: .sds :: .afe :: .trio :: .mgs :: .net :: .sph :: .spm :: .nvm :: []) s (@nmtResetDeferred s) := by
  intro s
  delta nmtResetDeferred
  split
  · exact Ok.refl
  · refine Ok.ite ?_ ?_
    · refine Ok.via (enterReset_ok ..) rfl ?_
      exact Ok.refl
    · exact Ok.refl

theorem nmtResetComm_ok : ∀ x0 x1 s, Ok [.mgs, .net, .reg .GCTL_RUNSTAT, .reg .MGS_SECBUF, .reg .NET_CNT, .reg .NET_NODE, .reg .NET_SESS] s (@nmtResetComm x0 x1 s) := by
  intro x0 x1 s
  delta nmtResetComm
  extract_lets +onlyGivenNames -merge -useContext s0
  refine Ok.withS (x := s0) ?_ fun h1 => ?_
  · unfold s0
    refine Ok.ite ?_ ?_
    · refine Ok.via (received_ok ..) rfl ?_
      exact Ok.refl
    · exact Ok.refl
  clear_value s0
  refine Ok.ite ?_ ?_
  · extract_lets +onlyGivenNames -merge -useContext s2
    refine Ok.withS (x := s2) ?_ fun h3 => ?_
    · unfold s2
      refine Ok.via (closeContexts_ok ..) rfl ?_
      exact h1
    clear_value s2
    extract_lets +onlyGivenNames -merge -useContext s4
    have ho : (∀ x, s2.nvm.settings = some x → x.good) → Sparse.wf (fun _ => none) s4 := by
      intro h
      unfold s4
      split
      · rename_i x e
        exact (h x e).2.2
      · rfl
    clear_value s4
    extract_lets +onlyGivenNames -merge -useContext s5
    refine Ok.withS (x := s5) ?_ fun h6 => ?_
    · unfold s5
      refine Ok.via (State.modNet_good fun g => ?_) rfl ?_
      · have h := g.net
        exact ⟨Sparse.wf_split 0x200000 (ho g.nvm.1) h.1, h.2.1, rfl, rfl, h.2.2.2.2.1, h.2.2.2.2.2⟩
      exact h3
    clear_value s5
    refine Ok.via (bootUp_ok ..) rfl ?_
    refine Ok.via (nodeAtReset_ok ..) rfl ?_
    exact h6
  · exact h1

theorem heartbeatSend_ok : ∀ s, Ok [.net, .reg .NET_CNT] s (@heartbeatSend s) := by
  intro s
  delta heartbeatSend
  refine Ok.ite ?_ ?_
  · extract_lets +onlyGivenNames -merge -useContext s0
    clear_value s0
    refine Ok.via (txAll_ok ..) rfl ?_
    exact Ok.refl
  · exact Ok.refl

theorem heartbeatIn_ok : ∀ x0 x1 s, Ok [.mgs, .net, .reg .GCTL_RUNSTAT, .reg .NET_HB] s (@heartbeatIn x0 x1 s) := by
  intro x0 x1 s
  delta heartbeatIn
  refine Ok.ite ?_ ?_
  · exact Ok.refl
  · extract_lets +onlyGivenNames -merge -useContext s0
    refine Ok.withS (x := s0) ?_ fun h1 => ?_
    · unfold s0
      refine Ok.via (received_ok ..) rfl ?_
      exact Ok.refl
    clear_value s0
    refine Ok.ite ?_ ?_
    · exact h1
    · refine Ok.forEach ?_ ?_
      · intro a2 a3
        split
        · refine Ok.ite ?_ ?_
          · extract_lets +onlyGivenNames -merge -useContext s4
            refine Ok.withS (x := s4) ?_ fun h5 => ?_
            · unfold s4
              refine Ok.via (State.putBitAt_at (at_NET_HB)) rfl ?_
              exact Ok.refl
            clear_value s4
            refine Ok.via (State.modNet_ok ?_) rfl ?_
            · intro _ h
              split
              · exact ⟨h.1, h.2.1, h.2.2.1, h.2.2.2.1, h.2.2.2.2.1, h.2.2.2.2.2⟩
              · exact ⟨h.1, h.2.1, h.2.2.1, h.2.2.2.1, h.2.2.2.2.1, h.2.2.2.2.2⟩
            exact h5
          · exact Ok.refl
      · exact h1

theorem heartbeatLoss_ok : ∀ x0 s, Ok [.net, .reg .NET_HB, .reg .NET_NODE] s (@heartbeatLoss x0 s) := by
  intro x0 s
  delta heartbeatLoss
  split
  · refine Ok.ite ?_ ?_
    · extract_lets +onlyGivenNames -merge -useContext s0
      refine Ok.withS (x := s0) ?_ fun h1 => ?_
      · unfold s0
        refine Ok.via (State.modNet_ok ?_) rfl ?_
        · exact fun _ h => ⟨h.1, h.2.1, h.2.2.1, h.2.2.2.1, h.2.2.2.2.1, h.2.2.2.2.2⟩
        exact Ok.refl
      clear_value s0
      refine Ok.via (commError_ok ..) rfl ?_
      refine Ok.via (State.putBitAt_at (at_NET_HB)) rfl ?_
      exact h1
    · exact Ok.refl

theorem lossAction_ok : ∀ x0 s, Ok [.logQ, .axes, .pl, .net, .reg .MGS_LOGSTAT, .reg .NET_CNT] s (@lossAction x0 s) := by
  intro x0 s
  delta lossAction
  extract_lets +onlyGivenNames -merge -useContext s0
  clear_value s0
  extract_lets +onlyGivenNames -merge -useContext s1
  clear_value s1
  extract_lets +onlyGivenNames -merge -useContext s2
  refine Ok.withS (x := s2) ?_ fun h5 => ?_
  · unfold s2
    refine Ok.forEach ?_ ?_
    · intro a3 a4
      split
      · refine Ok.via (addReq_ok ..) rfl ?_
        exact Ok.refl
      · refine Ok.via (addReq_ok ..) rfl ?_
        exact Ok.refl
      · refine Ok.via (addReq_ok ..) rfl ?_
        exact Ok.refl
      · exact Ok.refl
    · exact Ok.refl
  clear_value s2
  extract_lets +onlyGivenNames -merge -useContext s6 s7
  refine Ok.withS (x := s7) ?_ fun h8 => ?_
  · unfold s7
    refine Ok.ite ?_ ?_
    · refine Ok.via (State.modPl_ok ..) rfl ?_
      exact h5
    · exact h5
  clear_value s6 s7
  extract_lets +onlyGivenNames -merge -useContext s9
  clear_value s9
  extract_lets +onlyGivenNames -merge -useContext s10
  refine Ok.withS (x := s10) ?_ fun h11 => ?_
  · unfold s10
    refine Ok.via (queueEmcy_ok ..) rfl ?_
    exact h8
  clear_value s10
  refine Ok.via (logMgs_ok ..) rfl ?_
  exact h11

theorem lossActions_ok : ∀ s, Ok [.logQ, .axes, .pl, .net, .reg .MGS_LOGSTAT, .reg .NET_CNT] s (@lossActions s) := by
  intro s
  delta lossActions
  refine Ok.ite ?_ ?_
  · extract_lets +onlyGivenNames -merge -useContext s0
    clear_value s0
    refine Ok.forEach ?_ ?_
    · intro a1 a2
      refine Ok.via (lossAction_ok ..) rfl ?_
      exact Ok.refl
    · refine Ok.via (State.modNet_ok ?_) rfl ?_
      · exact fun _ h => ⟨h.1, h.2.1, h.2.2.1, h.2.2.2.1, h.2.2.2.2.1, h.2.2.2.2.2⟩
      exact Ok.refl
  · exact Ok.refl

theorem writeMapped_ok : ∀ m l b s, Ok [.regs, .snap, .staged, .bad, .replies, .guards, .hostPair, .trioPair, .mgsPair, .canPair, .ticks, .free, .trioQ, .emcyQ, .logQ, .logWin, .legs, .coils, .coaches, .trips, .runs, .axes, .pl, .power, .syncOut, .encs, .stepLast, .stepDir, .sds, .afe, .trio, .mgs, .net, .sph, .spm, .nvm] s (writeMapped m l b s)
  | _, [], _, _ => Ok.refl
  | m, w :: l, b, s => by
    unfold writeMapped
    split
    · refine Ok.via (writeMapped_ok m l _ _) rfl ?_
      exact Ok.ite (OkP.snd (OkP.via (writeObj_ok ..) rfl Ok.refl)) Ok.refl
    · exact Ok.via (writeMapped_ok m l _ _) rfl Ok.refl

theorem pdoEmcy_ok : ∀ x0 s, Ok [.free, .net, .reg .NET_CNT] s (@pdoEmcy x0 s) := by
  intro x0 s
  delta pdoEmcy
  split
  · rename_i t0 e1
    refine Ok.withS (x := t0) (OkP.of_eq e1 ?_) fun h2 => ?_
    · refine OkP.via (State.fresh_ok ..) rfl ?_
      exact Ok.refl
    refine Ok.via (queueEmcy_ok ..) rfl ?_
    exact h2

theorem writeRpdo_ok : ∀ x0 x1 x2 s, Ok (.regs :: .snap :: .staged :: .bad :: .replies :: .guards :: .hostPair :: .trioPair :: .mgsPair :: .canPair :: .ticks :: .free :: .trioQ :: .emcyQ :: .logQ :: .logWin :: .legs :: .coils :: .coaches :: .trips :: .runs :: .axes :: .pl :: .power :: .syncOut :: .encs :: .stepLast :: .stepDir :: .sds :: .afe :: .trio :: .mgs :: .net :: .sph :: .spm :: .nvm :: []) s (@writeRpdo x0 x1 x2 s) := by
  intro x0 x1 x2 s
  delta writeRpdo
  refine Ok.via (writeMapped_ok ..) rfl ?_
  exact Ok.refl

theorem rpdoIn_ok : ∀ x0 x1 x2 s, Ok (.regs :: .snap :: .staged :: .bad :: .replies :: .guards :: .hostPair :: .trioPair :: .mgsPair :: .canPair :: .ticks :: .free :: .trioQ :: .emcyQ :: .logQ :: .logWin :: .legs :: .coils :: .coaches :: .trips :: .runs :: .axes :: .pl :: .power :: .syncOut :: .encs :: .stepLast :: .stepDir :: .sds :: .afe :: .trio :: .mgs :: .net :: .sph :: .spm :: .nvm :: []) s (@rpdoIn x0 x1 x2 s) := by
  intro x0 x1 x2 s
  delta rpdoIn
  refine Ok.ite ?_ ?_
  · exact Ok.refl
  · extract_lets +onlyGivenNames -merge -useContext s0
    refine Ok.withS (x := s0) ?_ fun h1 => ?_
    · unfold s0
      refine Ok.via (received_ok ..) rfl ?_
      exact Ok.refl
    clear_value s0
    refine Ok.ite ?_ ?_
    · exact h1
    · extract_lets +onlyGivenNames -merge -useContext s2
      refine Ok.withS (x := s2) ?_ fun h3 => ?_
      · unfold s2
        refine Ok.via (State.modNet_ok ?_) rfl ?_
        · exact fun _ h => ⟨h.1, h.2.1, h.2.2.1, h.2.2.2.1, h.2.2.2.2.1, h.2.2.2.2.2⟩
        exact h1
      clear_value s2
      extract_lets +onlyGivenNames -merge -useContext s4
      clear_value s4
      refine Ok.ite ?_ ?_
      · refine Ok.via (pdoEmcy_ok ..) rfl ?_
        exact h3
      · extract_lets +onlyGivenNames -merge -useContext s5
        refine Ok.withS (x := s5) ?_ fun h6 => ?_
        · unfold s5
          refine Ok.ite ?_ ?_
          · refine Ok.via (pdoEmcy_ok ..) rfl ?_
            exact h3
          · exact h3
        clear_value s5
        refine Ok.ite ?_ ?_
        · refine Ok.via (writeRpdo_ok ..) rfl ?_
          exact h6
        · refine Ok.via (State.modNet_ok ?_) rfl ?_
          · exact fun _ h => ⟨h.1, h.2.1, h.2.2.1, h.2.2.2.1, h.2.2.2.2.1, h.2.2.2.2.2⟩
          exact h6

theorem writeHeld_ok : ∀ s, Ok (.regs :: .snap :: .staged :: .bad :: .replies :: .guards :: .hostPair :: .trioPair :: .mgsPair :: .canPair :: .ticks :: .free :: .trioQ :: .emcyQ :: .logQ :: .logWin :: .legs :: .coils :: .coaches :: .trips :: .runs :: .axes :: .pl :: .power :: .syncOut :: .encs :: .stepLast :: .stepDir :: .sds :: .afe :: .trio :: .mgs :: .net :: .sph :: .spm :: .nvm :: []) s (@writeHeld s) := by
  intro s
  delta writeHeld
  extract_lets +onlyGivenNames -merge -useContext s0
  clear_value s0
  extract_lets +onlyGivenNames -merge -useContext s1
  refine Ok.withS (x := s1) ?_ fun h2 => ?_
  · unfold s1
    refine Ok.via (State.modNet_ok ?_) rfl ?_
    · exact fun _ h => ⟨h.1, h.2.1, h.2.2.1, h.2.2.2.1, h.2.2.2.2.1, h.2.2.2.2.2⟩
    exact Ok.refl
  clear_value s1
  refine Ok.ite ?_ ?_
  · exact h2
  · refine Ok.forEach ?_ ?_
    · intro a3 a4
      refine Ok.foldl ?_ ?_
      · intro u5 x6
        refine Ok.via (writeRpdo_ok ..) rfl ?_
        exact Ok.refl
      · exact Ok.refl
    · exact h2

theorem rpdoDeadline_ok : ∀ x0 s, Ok [.free, .net, .reg .NET_CNT] s (@rpdoDeadline x0 s) := by
  intro x0 s
  delta rpdoDeadline
  refine Ok.ite ?_ ?_
  · refine Ok.via (pdoEmcy_ok ..) rfl ?_
    refine Ok.via (State.modNet_ok ?_) rfl ?_
    · exact fun _ h => ⟨h.1, h.2.1, h.2.2.1, h.2.2.2.1, h.2.2.2.2.1, h.2.2.2.2.2⟩
    exact Ok.refl
  · exact Ok.refl

theorem readMapped_ok : ∀ m l s, OkP (.regs :: .staged :: .replies :: .hostPair :: .trioPair :: .mgsPair :: .canPair :: .free :: .trioQ :: .emcyQ :: .logQ :: .logWin :: .legs :: .coils :: .coaches :: .axes :: .pl :: .power :: .sds :: .afe :: .trio :: .mgs :: .spm :: []) s (readMapped m l s)
  | _, [], _ => OkP.mk Ok.refl
  | m, w :: l, s => by
    unfold readMapped
    split
    · rename_i d _
      have h := readObj_ok m (mapIdx w) (mapSub w) d s
      split
      · rename_i e
        exact OkP.mk ((OkP.of_eq e h).trans (readMapped_ok m l _) |>.mono rfl)
      · rename_i e
        exact OkP.mk ((OkP.of_eq e h).trans (readMapped_ok m l _) |>.mono rfl)
    · exact OkP.mk (readMapped_ok m l s)

theorem queueOn_ok : ∀ x0 x1 s, Ok (.regs :: .staged :: .replies :: .hostPair :: .trioPair :: .mgsPair :: .canPair :: .free :: .trioQ :: .emcyQ :: .logQ :: .logWin :: .legs :: .coils :: .coaches :: .axes :: .pl :: .power :: .sds :: .afe :: .trio :: .mgs :: .net :: .spm :: []) s (@queueOn x0 x1 s) := by
  intro x0 x1 s
  delta queueOn
  split
  · rename_i t0 e1
    refine Ok.withS (x := t0) (OkP.of_eq e1 ?_) fun h2 => ?_
    · refine OkP.via (readMapped_ok ..) rfl ?_
      exact Ok.refl
    extract_lets +onlyGivenNames -merge -useContext s3
    clear_value s3
    refine Ok.via (txAdd_ok ..) rfl ?_
    exact h2

theorem queueTpdo_ok : ∀ x0 s, Ok (.regs :: .staged :: .replies :: .hostPair :: .trioPair :: .mgsPair :: .canPair :: .free :: .trioQ :: .emcyQ :: .logQ :: .logWin :: .legs :: .coils :: .coaches :: .axes :: .pl :: .power :: .sds :: .afe :: .trio :: .mgs :: .net :: .spm :: []) s (@queueTpdo x0 s) := by
  intro x0 s
  delta queueTpdo
  extract_lets +onlyGivenNames -merge -useContext s0
  clear_value s0
  extract_lets +onlyGivenNames -merge -useContext s1
  refine Ok.withS (x := s1) ?_ fun h2 => ?_
  · unfold s1
    refine Ok.via (State.modNet_ok ?_) rfl ?_
    · intro _ h
      dsimp only [Net.good]
      exact ⟨h.1, h.2.1, h.2.2.1, Sparse.wf_set h.2.2.2.1, h.2.2.2.2.1, h.2.2.2.2.2⟩
    exact Ok.refl
  clear_value s1
  refine Ok.forEach ?_ ?_
  · intro a3 a4
    refine Ok.via (queueOn_ok ..) rfl ?_
    exact Ok.refl
  · exact h2

theorem tpdoSend_ok : ∀ x0 s, Ok (.regs :: .staged :: .replies :: .hostPair :: .trioPair :: .mgsPair :: .canPair :: .free :: .trioQ :: .emcyQ :: .logQ :: .logWin :: .legs :: .coils :: .coaches :: .axes :: .pl :: .power :: .sds :: .afe :: .trio :: .mgs :: .net :: .spm :: []) s (@tpdoSend x0 s) := by
  intro x0 s
  delta tpdoSend
  refine Ok.ite ?_ ?_
  · refine Ok.via (queueTpdo_ok ..) rfl ?_
    exact Ok.refl
  · exact Ok.refl

theorem tpdoTimer_ok : ∀ x0 s, Ok (.regs :: .staged :: .replies :: .hostPair :: .trioPair :: .mgsPair :: .canPair :: .free :: .trioQ :: .emcyQ :: .logQ :: .logWin :: .legs :: .coils :: .coaches :: .axes :: .pl :: .power :: .sds :: .afe :: .trio :: .mgs :: .net :: .spm :: []) s (@tpdoTimer x0 s) := by
  intro x0 s
  delta tpdoTimer
  refine Ok.ite ?_ ?_
  · refine Ok.ite ?_ ?_
    · refine Ok.via (queueTpdo_ok ..) rfl ?_
      exact Ok.refl
    · refine Ok.via (State.modNet_ok ?_) rfl ?_
      · exact fun _ h => ⟨h.1, h.2.1, h.2.2.1, h.2.2.2.1, h.2.2.2.2.1, h.2.2.2.2.2⟩
      exact Ok.refl
  · exact Ok.refl

theorem tpdoEvents_ok : ∀ x0 s, Ok [.net] s (@tpdoEvents x0 s) := by
  intro x0 s
  delta tpdoEvents
  refine Ok.forEach ?_ ?_
  · intro a0 a1
    refine Ok.ite ?_ ?_
    · refine Ok.via (State.modNet_ok ?_) rfl ?_
      · exact fun _ h => ⟨h.1, h.2.1, h.2.2.1, h.2.2.2.1, h.2.2.2.2.1, h.2.2.2.2.2⟩
      exact Ok.refl
    · exact Ok.refl
  · exact Ok.refl

theorem syncTpdo_ok : ∀ x0 x1 s, Ok [.net] s (@syncTpdo x0 x1 s) := by
  intro x0 x1 s
  delta syncTpdo
  extract_lets +onlyGivenNames -merge -useContext s0
  clear_value s0
  extract_lets +onlyGivenNames -merge -useContext s1
  have hf3 : ∀ z0, Ok [.net] z0 (s1 z0) := by
    unfold s1
    intro a2
    refine Ok.via (State.modNet_ok ?_) rfl ?_
    · exact fun _ h => ⟨h.1, h.2.1, h.2.2.1, h.2.2.2.1, h.2.2.2.2.1, h.2.2.2.2.2⟩
    exact Ok.refl
  clear_value s1
  refine Ok.ite ?_ ?_
  · exact Ok.refl
  · refine Ok.ite ?_ ?_
    · refine Ok.ite ?_ ?_
      · refine Ok.via (hf3 ..) rfl ?_
        exact Ok.refl
      · exact Ok.refl
    · extract_lets +onlyGivenNames -merge -useContext s4
      clear_value s4
      extract_lets +onlyGivenNames -merge -useContext s5
      have hf8 : ∀ z0 z1, Ok [.net] z1 (s5 z0 z1) := by
        unfold s5
        intro a6 a7
        refine Ok.via (State.modNet_ok ?_) rfl ?_
        · intro _ h
          dsimp only [Net.good]
          exact ⟨h.1, h.2.1, Sparse.wf_set h.2.2.1, h.2.2.2.1, h.2.2.2.2.1, h.2.2.2.2.2⟩
        exact Ok.refl
      clear_value s5
      extract_lets +onlyGivenNames -merge -useContext s9
      clear_value s9
      refine Ok.ite ?_ ?_
      · refine Ok.ite ?_ ?_
        · refine Ok.via (hf8 ..) rfl ?_
          refine Ok.via (hf3 ..) rfl ?_
          exact Ok.refl
        · exact Ok.refl
      · extract_lets +onlyGivenNames -merge -useContext s10
        clear_value s10
        refine Ok.ite ?_ ?_
        · refine Ok.via (hf8 ..) rfl ?_
          refine Ok.via (hf3 ..) rfl ?_
          exact Ok.refl
        · refine Ok.via (hf8 ..) rfl ?_
          exact Ok.refl

theorem syncIn_ok : ∀ x0 x1 x2 s, Ok (.regs :: .snap :: .staged :: .bad :: .replies :: .guards :: .hostPair :: .trioPair :: .mgsPair :: .canPair :: .ticks :: .free :: .trioQ :: .emcyQ :: .logQ :: .logWin :: .legs :: .coils :: .coaches :: .trips :: .runs :: .axes :: .pl :: .power :: .syncOut :: .encs :: .stepLast :: .stepDir :: .sds :: .afe :: .trio :: .mgs :: .net :: .sph :: .spm :: .nvm :: []) s (@syncIn x0 x1 x2 s) := by
  intro x0 x1 x2 s
  delta syncIn
  refine Ok.ite ?_ ?_
  · exact Ok.refl
  · extract_lets +onlyGivenNames -merge -useContext s0
    refine Ok.withS (x := s0) ?_ fun h1 => ?_
    · unfold s0
      refine Ok.via (received_ok ..) rfl ?_
      exact Ok.refl
    clear_value s0
    refine Ok.ite ?_ ?_
    · exact h1
    · refine Ok.ite ?_ ?_
      · refine Ok.via (malformed_ok ..) rfl ?_
        exact h1
      · extract_lets +onlyGivenNames -merge -useContext s2
        clear_value s2
        extract_lets +onlyGivenNames -merge -useContext s3
        refine Ok.withS (x := s3) ?_ fun h4 => ?_
        · unfold s3
          refine Ok.via (writeHeld_ok ..) rfl ?_
          refine Ok.via (syncEvent_ok ..) rfl ?_
          exact h1
        clear_value s3
        refine Ok.forEach ?_ ?_
        · intro a5 a6
          refine Ok.via (syncTpdo_ok ..) rfl ?_
          exact Ok.refl
        · exact h4

theorem tpdoTick_ok : ∀ s, Ok (.regs :: .staged :: .replies :: .hostPair :: .trioPair :: .mgsPair :: .canPair :: .free :: .trioQ :: .emcyQ :: .logQ :: .logWin :: .legs :: .coils :: .coaches :: .axes :: .pl :: .power :: .sds :: .afe :: .trio :: .mgs :: .net :: .spm :: []) s (@tpdoTick s) := by
  intro s
  delta tpdoTick
  extract_lets +onlyGivenNames -merge -useContext s0
  clear_value s0
  refine Ok.forEach ?_ ?_
  · intro a1 a2
    refine Ok.ite ?_ ?_
    · refine Ok.via (queueTpdo_ok ..) rfl ?_
      exact Ok.refl
    · exact Ok.refl
  · refine Ok.via (State.modNet_ok ?_) rfl ?_
    · exact fun _ h => ⟨h.1, h.2.1, h.2.2.1, h.2.2.2.1, h.2.2.2.2.1, h.2.2.2.2.2⟩
    exact Ok.refl

theorem timeIn_ok : ∀ x0 x1 s, Ok [.trioQ, .emcyQ, .logQ, .logWin, .power, .mgs, .net, .reg .EV_PEND, .reg .GCTL_RUNSTAT, .reg .MGS_LOGSTAT, .reg .MGS_SECBUF, .reg .NET_MAL, .reg .NET_SESS] s (@timeIn x0 x1 s) := by
  intro x0 x1 s
  delta timeIn
  refine Ok.ite ?_ ?_
  · exact Ok.refl
  · extract_lets +onlyGivenNames -merge -useContext s0
    refine Ok.withS (x := s0) ?_ fun h1 => ?_
    · unfold s0
      refine Ok.via (received_ok ..) rfl ?_
      exact Ok.refl
    clear_value s0
    refine Ok.ite ?_ ?_
    · exact h1
    · split
      · refine Ok.via (malformed_ok ..) rfl ?_
        exact h1
      · refine Ok.ite ?_ ?_
        · refine Ok.via (State.modPower_ok ..) rfl ?_
          exact h1
        · exact h1

theorem rxFrame_ok : ∀ x0 x1 s, Ok (.regs :: .snap :: .staged :: .bad :: .replies :: .guards :: .hostPair :: .trioPair :: .mgsPair :: .canPair :: .ticks :: .free :: .trioQ :: .emcyQ :: .logQ :: .logWin :: .legs :: .coils :: .coaches :: .trips :: .runs :: .axes :: .pl :: .power :: .syncOut :: .encs :: .stepLast :: .stepDir :: .sds :: .afe :: .trio :: .mgs :: .net :: .sph :: .spm :: .nvm :: []) s (@rxFrame x0 x1 s) := by
  intro x0 x1 s
  delta rxFrame
  split
  · refine Ok.via (nmtCommand_ok ..) rfl ?_
    exact Ok.refl
  · refine Ok.via (nmtReset_ok ..) rfl ?_
    exact Ok.refl
  · refine Ok.via (nmtResetComm_ok ..) rfl ?_
    exact Ok.refl
  · refine Ok.via (heartbeatIn_ok ..) rfl ?_
    exact Ok.refl
  · refine Ok.via (syncIn_ok ..) rfl ?_
    exact Ok.refl
  · refine Ok.via (timeIn_ok ..) rfl ?_
    exact Ok.refl
  · refine Ok.via (rpdoIn_ok ..) rfl ?_
    exact Ok.refl
  · refine Ok.via (netSweep_ok ..) rfl ?_
    refine Ok.via (usdoRequest_ok ..) rfl ?_
    exact Ok.refl
  · refine Ok.ite ?_ ?_
    · refine Ok.via (malformed_ok ..) rfl ?_
      refine Ok.via (received_ok ..) rfl ?_
      exact Ok.refl
    · exact Ok.refl

theorem rxIn_ok : ∀ x0 x1 s, Ok (.regs :: .snap :: .staged :: .bad :: .replies :: .guards :: .hostPair :: .trioPair :: .mgsPair :: .canPair :: .ticks :: .free :: .trioQ :: .emcyQ :: .logQ :: .logWin :: .legs :: .coils :: .coaches :: .trips :: .runs :: .axes :: .pl :: .power :: .syncOut :: .encs :: .stepLast :: .stepDir :: .sds :: .afe :: .trio :: .mgs :: .net :: .sph :: .spm :: .nvm :: []) s (@rxIn x0 x1 s) := by
  intro x0 x1 s
  delta rxIn
  refine Ok.ite ?_ ?_
  · refine Ok.via (State.modNet_ok ?_) rfl ?_
    · exact fun _ h => ⟨h.1, h.2.1, h.2.2.1, h.2.2.2.1, h.2.2.2.2.1, h.2.2.2.2.2⟩
    exact Ok.refl
  · refine Ok.via (rxFrame_ok ..) rfl ?_
    exact Ok.refl

theorem resumeNet_ok : ∀ s, Ok (.regs :: .snap :: .staged :: .bad :: .replies :: .guards :: .hostPair :: .trioPair :: .mgsPair :: .canPair :: .ticks :: .free :: .trioQ :: .emcyQ :: .logQ :: .logWin :: .legs :: .coils :: .coaches :: .trips :: .runs :: .axes :: .pl :: .power :: .syncOut :: .encs :: .stepLast :: .stepDir :: .sds :: .afe :: .trio :: .mgs :: .net :: .sph :: .spm :: .nvm :: []) s (@resumeNet s) := by
  intro s
  delta resumeNet
  refine Ok.ite ?_ ?_
  · extract_lets +onlyGivenNames -merge -useContext s0
    clear_value s0
    refine Ok.foldl ?_ ?_
    · intro u1 x2
      refine Ok.via (rxFrame_ok ..) rfl ?_
      exact Ok.refl
    · refine Ok.via (State.modNet_ok ?_) rfl ?_
      · exact fun _ h => ⟨h.1, h.2.1, h.2.2.1, h.2.2.2.1, h.2.2.2.2.1, h.2.2.2.2.2⟩
      exact Ok.refl
  · exact Ok.refl

theorem rxDiscard_ok : ∀ x0 s, Ok [.mgs, .reg .GCTL_RUNSTAT, .reg .NET_CNT] s (@rxDiscard x0 s) := by
  intro x0 s
  delta rxDiscard
  refine Ok.ite ?_ ?_
  · refine Ok.via (State.inc_at (at_NET_CNT _)) rfl ?_
    refine Ok.via (received_ok ..) rfl ?_
    exact Ok.refl
  · exact Ok.refl

theorem controllerIdle_ok : ∀ x0 s, Ok [.mgs, .net, .reg .EV_ACT, .reg .MGS_SECBUF, .reg .NET_CNT, .reg .NET_SESS, .reg .NET_STAT] s (@controllerIdle x0 s) := by
  intro x0 s
  delta controllerIdle
  refine Ok.ite ?_ ?_
  · refine Ok.via (controllerOff_ok ..) rfl ?_
    exact Ok.refl
  · exact Ok.refl

end Sys2Proof.Machine
end

