-- ==== Sys2Proof/Laws/OkEvents.lean ====
section
/-!
SUPPORT. Laws/OkEvents.lean: for each operation of Machine/Events.lean, the parts of the state it can change, and that it keeps a
good state good.
-/

namespace Sys2Proof.Machine

set_option Elab.async false

theorem execEvPendClear_ok : ∀ x0 x1 x2 s, OkO (.regs :: .snap :: .staged :: .bad :: .replies :: .guards :: .hostPair :: .trioPair :: .mgsPair :: .canPair :: .ticks :: .free :: .trioQ :: .emcyQ :: .logQ :: .logWin :: .legs :: .coils :: .coaches :: .trips :: .runs :: .axes :: .pl :: .power :: .syncOut :: .encs :: .stepLast :: .stepDir :: .sds :: .afe :: .trio :: .mgs :: .net :: .sph :: .spm :: .nvm :: []) s (@execEvPendClear x0 x1 x2 s) := by
  intro x0 x1 x2 s
  delta execEvPendClear
  refine OkO.next ?_
  refine Ok.via (regWrite_ok ..) rfl ?_
  exact Ok.refl

theorem execEvEnWrite_ok : ∀ x0 x1 x2 s, OkO (.regs :: .snap :: .staged :: .bad :: .replies :: .guards :: .hostPair :: .trioPair :: .mgsPair :: .canPair :: .ticks :: .free :: .trioQ :: .emcyQ :: .logQ :: .logWin :: .legs :: .coils :: .coaches :: .trips :: .runs :: .axes :: .pl :: .power :: .syncOut :: .encs :: .stepLast :: .stepDir :: .sds :: .afe :: .trio :: .mgs :: .net :: .sph :: .spm :: .nvm :: []) s (@execEvEnWrite x0 x1 x2 s) := by
  intro x0 x1 x2 s
  delta execEvEnWrite
  refine OkO.next ?_
  refine Ok.via (regWrite_ok ..) rfl ?_
  exact Ok.refl

theorem execDoorbell_ok : ∀ x0 s, OkO (.regs :: .snap :: .staged :: .bad :: .replies :: .guards :: .hostPair :: .trioPair :: .mgsPair :: .canPair :: .ticks :: .free :: .trioQ :: .emcyQ :: .logQ :: .logWin :: .legs :: .coils :: .coaches :: .trips :: .runs :: .axes :: .pl :: .power :: .syncOut :: .encs :: .stepLast :: .stepDir :: .sds :: .afe :: .trio :: .mgs :: .net :: .sph :: .spm :: .nvm :: []) s (@execDoorbell x0 s) := by
  intro x0 s
  delta execDoorbell
  refine OkO.next ?_
  refine Ok.via (regWrite_ok ..) rfl ?_
  exact Ok.refl

theorem execTrioEventDelivery_ok : ∀ s, OkO [.trioQ, .net] s (@execTrioEventDelivery s) := by
  intro s
  delta execTrioEventDelivery
  refine OkO.next ?_
  refine Ok.ite ?_ ?_
  · split
    · exact Ok.refl
    · refine Ok.via (tpdoEvents_ok ..) rfl ?_
      refine Ok.via Ok.trioQ rfl ?_
      exact Ok.refl
  · exact Ok.refl

theorem execEmcyQueue_ok : ∀ s, OkO [.emcyQ, .net, .reg .NET_CNT] s (@execEmcyQueue s) := by
  intro s
  delta execEmcyQueue
  refine OkO.next ?_
  refine Ok.via (emcyTake_ok ..) rfl ?_
  exact Ok.refl

theorem execLogEntry_ok : ∀ s, OkO [.trioQ, .emcyQ, .logQ, .logWin, .mgs, .reg .EV_PEND, .reg .MGS_LOGRPTR, .reg .MGS_LOGSTAT] s (@execLogEntry s) := by
  intro s
  delta execLogEntry
  refine OkO.next ?_
  refine Ok.via (logEntry_ok ..) rfl ?_
  exact Ok.refl

theorem execLogRepeatRewrite_ok : ∀ x0 s, OkO [.logWin, .mgs] s (@execLogRepeatRewrite x0 s) := by
  intro x0 s
  delta execLogRepeatRewrite
  refine OkO.next ?_
  refine Ok.via (logRepeat_ok ..) rfl ?_
  exact Ok.refl

theorem execHaltNLow_ok : ∀ s, OkO [.power, .reg .EV_PIN] s (@execHaltNLow s) := by
  intro s
  delta execHaltNLow
  refine OkO.next ?_
  refine Ok.via (haltNLow_ok ..) rfl ?_
  exact Ok.refl

theorem execHaltNHigh_ok : ∀ s, OkO [.reg .EV_PIN] s (@execHaltNHigh s) := by
  intro s
  delta execHaltNHigh
  refine OkO.next ?_
  refine Ok.via (haltNHigh_ok ..) rfl ?_
  exact Ok.refl

end Sys2Proof.Machine
end

