-- ==== Sys2Proof/Laws/OkFeedback.lean ====
section
/-!
SUPPORT. Laws/OkFeedback.lean: for each operation of Machine/Feedback.lean, the parts of the state it can change, and that it keeps a
good state good.
-/

namespace Sys2Proof.Machine

set_option Elab.async false

theorem clocked_ok {W' : List Part} {x0} {s : State} (hk : ∀ u, Ok W' u (x0 u)) :
    OkO ([] ++ W') s (@clocked x0 s) := by
  delta clocked
  refine OkO.next ?_
  refine Ok.ite ?_ ?_
  · refine Ok.via (hk ..) within_right ?_
    exact Ok.refl
  · exact Ok.refl

theorem execStepEdge_ok : ∀ x0 x1 x2 x3 s, OkO [.trioQ, .emcyQ, .logQ, .logWin, .stepLast, .stepDir, .reg .EV_PEND, .reg .MGS_LOGSTAT, .reg .STEP_CNT, .reg .STEP_ERR, .reg .STEP_MCNT, .reg .STEP_STAT] s (@execStepEdge x0 x1 x2 x3 s) := by
  intro x0 x1 x2 x3 s
  delta execStepEdge
  refine OkO.via (clocked_ok (W' := [.trioQ, .emcyQ, .logQ, .logWin, .stepLast, .stepDir, .reg .EV_PEND, .reg .MGS_LOGSTAT, .reg .STEP_CNT, .reg .STEP_ERR, .reg .STEP_MCNT, .reg .STEP_STAT]) ?_) rfl ?_
  · intro a0
    refine Ok.via (stepSample_ok ..) rfl ?_
    exact Ok.refl
  exact Ok.refl

theorem execQuadratureTransition_ok : ∀ x0 x1 x2 x3 s, OkO [.free, .trioQ, .emcyQ, .logQ, .logWin, .encs, .reg .CMP_CFG, .reg .CMP_CNTS, .reg .CMP_COUNT, .reg .CMP_POS, .reg .CMP_STAT, .reg .ENC_CNT, .reg .ENC_ERR, .reg .ENC_MCNT, .reg .ENC_PER, .reg .ENC_SPD, .reg .ENC_STAT, .reg .EV_PEND, .reg .MGS_LOGSTAT] s (@execQuadratureTransition x0 x1 x2 x3 s) := by
  intro x0 x1 x2 x3 s
  delta execQuadratureTransition
  refine OkO.via (clocked_ok (W' := [.free, .trioQ, .emcyQ, .logQ, .logWin, .encs, .reg .CMP_CFG, .reg .CMP_CNTS, .reg .CMP_COUNT, .reg .CMP_POS, .reg .CMP_STAT, .reg .ENC_CNT, .reg .ENC_ERR, .reg .ENC_MCNT, .reg .ENC_PER, .reg .ENC_SPD, .reg .ENC_STAT, .reg .EV_PEND, .reg .MGS_LOGSTAT]) ?_) rfl ?_
  · intro a0
    refine Ok.via (quadSample_ok ..) rfl ?_
    exact Ok.refl
  exact Ok.refl

theorem execEncoderErrorWindow_ok : ∀ x0 s, OkO [.encs] s (@execEncoderErrorWindow x0 s) := by
  intro x0 s
  delta execEncoderErrorWindow
  refine OkO.via (clocked_ok (W' := [.encs]) ?_) rfl ?_
  · intro a0
    refine Ok.via (encWindow_ok ..) rfl ?_
    exact Ok.refl
  exact Ok.refl

theorem execIndexEdge_ok : ∀ x0 s, OkO [.trioQ, .emcyQ, .logQ, .logWin, .encs, .reg .CMP_CFG, .reg .CMP_CNTS, .reg .CMP_COUNT, .reg .CMP_POS, .reg .CMP_STAT, .reg .ENC_CFG, .reg .ENC_CNT, .reg .ENC_STAT, .reg .ENC_ZLATCH, .reg .EV_PEND, .reg .MGS_LOGSTAT] s (@execIndexEdge x0 s) := by
  intro x0 s
  delta execIndexEdge
  refine OkO.via (clocked_ok (W' := [.trioQ, .emcyQ, .logQ, .logWin, .encs, .reg .CMP_CFG, .reg .CMP_CNTS, .reg .CMP_COUNT, .reg .CMP_POS, .reg .CMP_STAT, .reg .ENC_CFG, .reg .ENC_CNT, .reg .ENC_STAT, .reg .ENC_ZLATCH, .reg .EV_PEND, .reg .MGS_LOGSTAT]) ?_) rfl ?_
  · intro a0
    refine Ok.via (indexSample_ok ..) rfl ?_
    exact Ok.refl
  exact Ok.refl

theorem execSpeedTimeout_ok : ∀ x0 s, OkO [.reg .ENC_PER, .reg .ENC_SPD] s (@execSpeedTimeout x0 s) := by
  intro x0 s
  delta execSpeedTimeout
  refine OkO.via (clocked_ok (W' := [.reg .ENC_PER, .reg .ENC_SPD]) ?_) rfl ?_
  · intro a0
    refine Ok.via (speedTimeout_ok ..) rfl ?_
    exact Ok.refl
  exact Ok.refl

theorem execCountWindowEnd_ok : ∀ s, OkO [.free, .encs, .reg .ENC_SPD, .reg .ENC_STAT] s (@execCountWindowEnd s) := by
  intro s
  delta execCountWindowEnd
  refine OkO.via (clocked_ok (W' := [.free, .encs, .reg .ENC_SPD, .reg .ENC_STAT]) ?_) rfl ?_
  · intro a0
    refine Ok.forEach ?_ ?_
    · intro a1 a2
      refine Ok.via (windowEnd_ok ..) rfl ?_
      exact Ok.refl
    · exact Ok.refl
  exact Ok.refl

theorem execComparePulseEnd_ok : ∀ x0 s, OkO [.encs, .reg .CMP_CFG, .reg .CMP_STAT] s (@execComparePulseEnd x0 s) := by
  intro x0 s
  delta execComparePulseEnd
  refine OkO.via (clocked_ok (W' := [.encs, .reg .CMP_CFG, .reg .CMP_STAT]) ?_) rfl ?_
  · intro a0
    refine Ok.via (pulseEnd_ok ..) rfl ?_
    exact Ok.refl
  exact Ok.refl

theorem execCompareArm_ok : ∀ x0 x1 x2 s, OkO (.regs :: .snap :: .staged :: .bad :: .replies :: .guards :: .hostPair :: .trioPair :: .mgsPair :: .canPair :: .ticks :: .free :: .trioQ :: .emcyQ :: .logQ :: .logWin :: .legs :: .coils :: .coaches :: .trips :: .runs :: .axes :: .pl :: .power :: .syncOut :: .encs :: .stepLast :: .stepDir :: .sds :: .afe :: .trio :: .mgs :: .net :: .sph :: .spm :: .nvm :: []) s (@execCompareArm x0 x1 x2 s) := by
  intro x0 x1 x2 s
  delta execCompareArm
  refine OkO.next ?_
  refine Ok.via (regWrite_ok ..) rfl ?_
  exact Ok.refl

theorem execCmpPosWrite_ok : ∀ x0 x1 x2 s, OkO (.regs :: .snap :: .staged :: .bad :: .replies :: .guards :: .hostPair :: .trioPair :: .mgsPair :: .canPair :: .ticks :: .free :: .trioQ :: .emcyQ :: .logQ :: .logWin :: .legs :: .coils :: .coaches :: .trips :: .runs :: .axes :: .pl :: .power :: .syncOut :: .encs :: .stepLast :: .stepDir :: .sds :: .afe :: .trio :: .mgs :: .net :: .sph :: .spm :: .nvm :: []) s (@execCmpPosWrite x0 x1 x2 s) := by
  intro x0 x1 x2 s
  delta execCmpPosWrite
  refine OkO.next ?_
  refine Ok.via (regWrite_ok ..) rfl ?_
  exact Ok.refl

theorem execEncCntWrite_ok : ∀ x0 x1 x2 s, OkO (.regs :: .snap :: .staged :: .bad :: .replies :: .guards :: .hostPair :: .trioPair :: .mgsPair :: .canPair :: .ticks :: .free :: .trioQ :: .emcyQ :: .logQ :: .logWin :: .legs :: .coils :: .coaches :: .trips :: .runs :: .axes :: .pl :: .power :: .syncOut :: .encs :: .stepLast :: .stepDir :: .sds :: .afe :: .trio :: .mgs :: .net :: .sph :: .spm :: .nvm :: []) s (@execEncCntWrite x0 x1 x2 s) := by
  intro x0 x1 x2 s
  delta execEncCntWrite
  refine OkO.next ?_
  refine Ok.via (regWrite_ok ..) rfl ?_
  exact Ok.refl

theorem execStepCntWrite_ok : ∀ x0 x1 x2 s, OkO (.regs :: .snap :: .staged :: .bad :: .replies :: .guards :: .hostPair :: .trioPair :: .mgsPair :: .canPair :: .ticks :: .free :: .trioQ :: .emcyQ :: .logQ :: .logWin :: .legs :: .coils :: .coaches :: .trips :: .runs :: .axes :: .pl :: .power :: .syncOut :: .encs :: .stepLast :: .stepDir :: .sds :: .afe :: .trio :: .mgs :: .net :: .sph :: .spm :: .nvm :: []) s (@execStepCntWrite x0 x1 x2 s) := by
  intro x0 x1 x2 s
  delta execStepCntWrite
  refine OkO.next ?_
  refine Ok.via (regWrite_ok ..) rfl ?_
  exact Ok.refl

end Sys2Proof.Machine
end

