-- ==== Sys2Proof/Laws/OkLegs.lean ====
section
/-!
SUPPORT. Laws/OkLegs.lean: for each operation of Machine/Legs.lean, the parts of the state it can change, and that it keeps a
good state good.
-/

namespace Sys2Proof.Machine

set_option Elab.async false

theorem execRankPeriodStart_ok : ∀ x0 x1 s, OkO [.free, .legs, .coils, .coaches, .reg .LEG_FLTCNT] s (@execRankPeriodStart x0 x1 s) := by
  intro x0 x1 s
  delta execRankPeriodStart
  refine OkO.next ?_
  refine Ok.via (rankStart_ok ..) rfl ?_
  exact Ok.refl

theorem execInterlockTimeout_ok : ∀ x0 s, OkO [.legs, .coaches, .reg .LEG_FLTCNT] s (@execInterlockTimeout x0 s) := by
  intro x0 s
  delta execInterlockTimeout
  refine OkO.next ?_
  refine Ok.via (interlockTimeout_ok ..) rfl ?_
  exact Ok.refl

theorem execDeadTimeEnd_ok : ∀ x0 s, OkO [.legs] s (@execDeadTimeEnd x0 s) := by
  intro x0 s
  delta execDeadTimeEnd
  refine OkO.next ?_
  refine Ok.via (deadTimeEnd_ok ..) rfl ?_
  exact Ok.refl

theorem execOverrideOntimeEnd_ok : ∀ x0 s, OkO [.free, .legs, .coils, .coaches, .reg .LEG_FLTCNT] s (@execOverrideOntimeEnd x0 s) := by
  intro x0 s
  delta execOverrideOntimeEnd
  refine OkO.next ?_
  refine Ok.via (overrideEnd_ok ..) rfl ?_
  refine Ok.via (gangOffs_ok ..) rfl ?_
  exact Ok.refl

theorem execRkModeWrite_ok : ∀ x0 x1 x2 s, OkO (.regs :: .snap :: .staged :: .bad :: .replies :: .guards :: .hostPair :: .trioPair :: .mgsPair :: .canPair :: .ticks :: .free :: .trioQ :: .emcyQ :: .logQ :: .logWin :: .legs :: .coils :: .coaches :: .trips :: .runs :: .axes :: .pl :: .power :: .syncOut :: .encs :: .stepLast :: .stepDir :: .sds :: .afe :: .trio :: .mgs :: .net :: .sph :: .spm :: .nvm :: []) s (@execRkModeWrite x0 x1 x2 s) := by
  intro x0 x1 x2 s
  delta execRkModeWrite
  refine OkO.next ?_
  refine Ok.via (guardedWrite_ok ..) rfl ?_
  exact Ok.refl

theorem execLegTestWrite_ok : ∀ x0 x1 x2 s, OkO (.regs :: .snap :: .staged :: .bad :: .replies :: .guards :: .hostPair :: .trioPair :: .mgsPair :: .canPair :: .ticks :: .free :: .trioQ :: .emcyQ :: .logQ :: .logWin :: .legs :: .coils :: .coaches :: .trips :: .runs :: .axes :: .pl :: .power :: .syncOut :: .encs :: .stepLast :: .stepDir :: .sds :: .afe :: .trio :: .mgs :: .net :: .sph :: .spm :: .nvm :: []) s (@execLegTestWrite x0 x1 x2 s) := by
  intro x0 x1 x2 s
  delta execLegTestWrite
  refine OkO.next ?_
  refine Ok.via (guardedWrite_ok ..) rfl ?_
  exact Ok.refl

theorem execOvercurrentTrip_ok : ∀ x0 x1 x2 x3 x4 x5 x6 s, OkO [.free, .legs, .coils, .coaches, .reg .LEG_FLTCNT] s (@execOvercurrentTrip x0 x1 x2 x3 x4 x5 x6 s) := by
  intro x0 x1 x2 x3 x4 x5 x6 s
  delta execOvercurrentTrip
  refine OkO.next ?_
  refine Ok.via (overcurrent_ok ..) rfl ?_
  exact Ok.refl

theorem execTripCheck_ok : ∀ s, OkO (.trioQ :: .emcyQ :: .logQ :: .logWin :: .coaches :: .trips :: .axes :: .pl :: .reg .AXALERT :: .reg .AX_ACC :: .reg .AX_EPFS :: .reg .AX_FLTCNT :: .reg .AX_FLTSTAT :: .reg .AX_HOMEST :: .reg .AX_MOVEEN :: .reg .AX_STALLST :: .reg .AX_STAT :: .reg .AX_USTAT :: .reg .AX_VEL :: .reg .EV_ACT :: .reg .EV_PEND :: .reg .MGS_LOGSTAT :: .reg .PL_ENERGY_HI :: .reg .PL_ENERGY_LO :: .reg .PL_EVINFO :: .reg .PL_MAKESPAN :: .reg .PL_RES :: .reg .PL_RES_EACT :: .reg .PL_RES_END :: .reg .PL_STAT :: .reg .RK_FLTSTAT :: .reg .RK_TRIPMAP :: []) s (@execTripCheck s) := by
  intro s
  delta execTripCheck
  refine OkO.next ?_
  refine Ok.via (tripCheck_ok ..) rfl ?_
  exact Ok.refl

theorem execPeriodCheck_ok : ∀ x0 x1 s, OkO (.trioQ :: .emcyQ :: .logQ :: .logWin :: .coaches :: .trips :: .runs :: .axes :: .pl :: .reg .AXALERT :: .reg .AX_ACC :: .reg .AX_EPFS :: .reg .AX_FLTCNT :: .reg .AX_FLTSTAT :: .reg .AX_HOMEST :: .reg .AX_MOVEEN :: .reg .AX_STALLST :: .reg .AX_STAT :: .reg .AX_USTAT :: .reg .AX_VEL :: .reg .EV_PEND :: .reg .MGS_LOGSTAT :: .reg .PL_ENERGY_HI :: .reg .PL_ENERGY_LO :: .reg .PL_EVINFO :: .reg .PL_MAKESPAN :: .reg .PL_RES :: .reg .PL_RES_EACT :: .reg .PL_RES_END :: .reg .PL_STAT :: .reg .RK_TRIPMAP :: []) s (@execPeriodCheck x0 x1 s) := by
  intro x0 x1 s
  delta execPeriodCheck
  refine OkO.next ?_
  refine Ok.via (periodCheck_ok ..) rfl ?_
  exact Ok.refl

theorem execFaultWaitExpiry_ok : ∀ x0 s, OkO [.coaches, .reg .AX_FLTCNT, .reg .AX_FLTSTAT] s (@execFaultWaitExpiry x0 s) := by
  intro x0 s
  delta execFaultWaitExpiry
  refine OkO.next ?_
  refine Ok.via (waitExpiry_ok ..) rfl ?_
  exact Ok.refl

theorem execRetryTestPass_ok : ∀ x0 s, OkO [.staged, .trioQ, .emcyQ, .logQ, .logWin, .axes, .reg .AXALERT, .reg .AX_FLTSTAT, .reg .AX_MODE, .reg .AX_SSTAT, .reg .AX_STAT, .reg .EV_PEND, .reg .MGS_LOGSTAT] s (@execRetryTestPass x0 s) := by
  intro x0 s
  delta execRetryTestPass
  refine OkO.next ?_
  refine Ok.via (testPass_ok ..) rfl ?_
  exact Ok.refl

theorem execRetryWindowExpiry_ok : ∀ x0 s, OkO [.reg .AX_FLTSTAT] s (@execRetryWindowExpiry x0 s) := by
  intro x0 s
  delta execRetryWindowExpiry
  refine OkO.next ?_
  refine Ok.ite ?_ ?_
  · refine Ok.via (State.put_at (at_AX_FLTSTAT _)) rfl ?_
    exact Ok.refl
  · exact Ok.refl

theorem execAxisFaultLatch_ok : ∀ x0 x1 s, OkO (.regs :: .snap :: .staged :: .bad :: .replies :: .guards :: .hostPair :: .trioPair :: .mgsPair :: .canPair :: .ticks :: .free :: .trioQ :: .emcyQ :: .logQ :: .logWin :: .legs :: .coils :: .coaches :: .trips :: .runs :: .axes :: .pl :: .power :: .syncOut :: .encs :: .stepLast :: .stepDir :: .sds :: .afe :: .trio :: .mgs :: .net :: .sph :: .spm :: .nvm :: []) s (@execAxisFaultLatch x0 x1 s) := by
  intro x0 x1 s
  delta execAxisFaultLatch
  refine OkO.next ?_
  refine Ok.via (regWrite_ok ..) rfl ?_
  exact Ok.refl

theorem execAxisFaultClear_ok : ∀ x0 x1 s, OkO (.regs :: .snap :: .staged :: .bad :: .replies :: .guards :: .hostPair :: .trioPair :: .mgsPair :: .canPair :: .ticks :: .free :: .trioQ :: .emcyQ :: .logQ :: .logWin :: .legs :: .coils :: .coaches :: .trips :: .runs :: .axes :: .pl :: .power :: .syncOut :: .encs :: .stepLast :: .stepDir :: .sds :: .afe :: .trio :: .mgs :: .net :: .sph :: .spm :: .nvm :: []) s (@execAxisFaultClear x0 x1 s) := by
  intro x0 x1 s
  delta execAxisFaultClear
  refine OkO.next ?_
  refine Ok.via (regWrite_ok ..) rfl ?_
  exact Ok.refl

theorem execRankFaultClear_ok : ∀ x0 x1 s, OkO (.regs :: .snap :: .staged :: .bad :: .replies :: .guards :: .hostPair :: .trioPair :: .mgsPair :: .canPair :: .ticks :: .free :: .trioQ :: .emcyQ :: .logQ :: .logWin :: .legs :: .coils :: .coaches :: .trips :: .runs :: .axes :: .pl :: .power :: .syncOut :: .encs :: .stepLast :: .stepDir :: .sds :: .afe :: .trio :: .mgs :: .net :: .sph :: .spm :: .nvm :: []) s (@execRankFaultClear x0 x1 s) := by
  intro x0 x1 s
  delta execRankFaultClear
  refine OkO.next ?_
  refine Ok.via (regWrite_ok ..) rfl ?_
  exact Ok.refl

theorem execCoachFaultClear_ok : ∀ x0 x1 s, OkO (.regs :: .snap :: .staged :: .bad :: .replies :: .guards :: .hostPair :: .trioPair :: .mgsPair :: .canPair :: .ticks :: .free :: .trioQ :: .emcyQ :: .logQ :: .logWin :: .legs :: .coils :: .coaches :: .trips :: .runs :: .axes :: .pl :: .power :: .syncOut :: .encs :: .stepLast :: .stepDir :: .sds :: .afe :: .trio :: .mgs :: .net :: .sph :: .spm :: .nvm :: []) s (@execCoachFaultClear x0 x1 s) := by
  intro x0 x1 s
  delta execCoachFaultClear
  refine OkO.next ?_
  refine Ok.via (regWrite_ok ..) rfl ?_
  exact Ok.refl

theorem execVmFaultClear_ok : ∀ x0 x1 s, OkO (.regs :: .snap :: .staged :: .bad :: .replies :: .guards :: .hostPair :: .trioPair :: .mgsPair :: .canPair :: .ticks :: .free :: .trioQ :: .emcyQ :: .logQ :: .logWin :: .legs :: .coils :: .coaches :: .trips :: .runs :: .axes :: .pl :: .power :: .syncOut :: .encs :: .stepLast :: .stepDir :: .sds :: .afe :: .trio :: .mgs :: .net :: .sph :: .spm :: .nvm :: []) s (@execVmFaultClear x0 x1 s) := by
  intro x0 x1 s
  delta execVmFaultClear
  refine OkO.next ?_
  refine Ok.via (regWrite_ok ..) rfl ?_
  exact Ok.refl

theorem execChargePumpUndervoltage_ok : ∀ x0 s, OkO (.trioQ :: .emcyQ :: .logQ :: .logWin :: .coaches :: .axes :: .pl :: .reg .AXALERT :: .reg .AX_ACC :: .reg .AX_EPFS :: .reg .AX_FLTCNT :: .reg .AX_FLTSTAT :: .reg .AX_HOMEST :: .reg .AX_MOVEEN :: .reg .AX_STALLST :: .reg .AX_STAT :: .reg .AX_USTAT :: .reg .AX_VEL :: .reg .EV_ACT :: .reg .EV_PEND :: .reg .MGS_LOGSTAT :: .reg .PL_ENERGY_HI :: .reg .PL_ENERGY_LO :: .reg .PL_EVINFO :: .reg .PL_MAKESPAN :: .reg .PL_RES :: .reg .PL_RES_EACT :: .reg .PL_RES_END :: .reg .PL_STAT :: .reg .RK_FLTSTAT :: []) s (@execChargePumpUndervoltage x0 s) := by
  intro x0 s
  delta execChargePumpUndervoltage
  refine OkO.next ?_
  refine Ok.ite ?_ ?_
  · refine Ok.via (updRank_ok ..) rfl ?_
    refine Ok.via (rankFault_ok ..) rfl ?_
    refine Ok.via (State.modCoach_ok ..) rfl ?_
    exact Ok.refl
  · exact Ok.refl

theorem execGateRegUndervoltage_ok : ∀ x0 s, OkO (.trioQ :: .emcyQ :: .logQ :: .logWin :: .coaches :: .axes :: .pl :: .reg .AXALERT :: .reg .AX_ACC :: .reg .AX_EPFS :: .reg .AX_FLTCNT :: .reg .AX_FLTSTAT :: .reg .AX_HOMEST :: .reg .AX_MOVEEN :: .reg .AX_STALLST :: .reg .AX_STAT :: .reg .AX_USTAT :: .reg .AX_VEL :: .reg .CO_FLTSTAT :: .reg .CO_STAT :: .reg .EV_ACT :: .reg .EV_PEND :: .reg .MGS_LOGSTAT :: .reg .PL_ENERGY_HI :: .reg .PL_ENERGY_LO :: .reg .PL_EVINFO :: .reg .PL_MAKESPAN :: .reg .PL_RES :: .reg .PL_RES_EACT :: .reg .PL_RES_END :: .reg .PL_STAT :: []) s (@execGateRegUndervoltage x0 s) := by
  intro x0 s
  delta execGateRegUndervoltage
  refine OkO.next ?_
  refine Ok.ite ?_ ?_
  · refine Ok.via (gregFault_ok ..) rfl ?_
    refine Ok.via (State.modCoach_ok ..) rfl ?_
    refine Ok.via (State.put_at (at_CO_STAT _)) rfl ?_
    exact Ok.refl
  · exact Ok.refl

theorem execTempSensorFailure_ok : ∀ x0 s, OkO (.trioQ :: .emcyQ :: .logQ :: .logWin :: .coaches :: .axes :: .pl :: .reg .AXALERT :: .reg .AX_ACC :: .reg .AX_EPFS :: .reg .AX_FLTCNT :: .reg .AX_FLTSTAT :: .reg .AX_HOMEST :: .reg .AX_MOVEEN :: .reg .AX_STALLST :: .reg .AX_STAT :: .reg .AX_USTAT :: .reg .AX_VEL :: .reg .EV_ACT :: .reg .EV_PEND :: .reg .MGS_LOGSTAT :: .reg .PL_ENERGY_HI :: .reg .PL_ENERGY_LO :: .reg .PL_EVINFO :: .reg .PL_MAKESPAN :: .reg .PL_RES :: .reg .PL_RES_EACT :: .reg .PL_RES_END :: .reg .PL_STAT :: .reg .RK_FLTSTAT :: .reg .RK_THERM :: []) s (@execTempSensorFailure x0 s) := by
  intro x0 s
  delta execTempSensorFailure
  refine OkO.next ?_
  refine Ok.ite ?_ ?_
  · refine Ok.via (updRank_ok ..) rfl ?_
    refine Ok.via (rankFault_ok ..) rfl ?_
    refine Ok.via (State.put_at (at_RK_THERM _)) rfl ?_
    exact Ok.refl
  · exact Ok.refl

theorem vmEvent_ok : ∀ x0 x1 s, Ok (.trioQ :: .emcyQ :: .logQ :: .logWin :: .coaches :: .axes :: .pl :: .reg .AXALERT :: .reg .AX_ACC :: .reg .AX_EPFS :: .reg .AX_FLTCNT :: .reg .AX_FLTSTAT :: .reg .AX_HOMEST :: .reg .AX_MOVEEN :: .reg .AX_STALLST :: .reg .AX_STAT :: .reg .AX_USTAT :: .reg .AX_VEL :: .reg .CO_VM :: .reg .EV_ACT :: .reg .EV_PEND :: .reg .MGS_LOGSTAT :: .reg .PL_ENERGY_HI :: .reg .PL_ENERGY_LO :: .reg .PL_EVINFO :: .reg .PL_MAKESPAN :: .reg .PL_RES :: .reg .PL_RES_EACT :: .reg .PL_RES_END :: .reg .PL_STAT :: []) s (@vmEvent x0 x1 s) := by
  intro x0 x1 s
  delta vmEvent
  refine Ok.ite ?_ ?_
  · refine Ok.via (State.modCoach_ok ..) rfl ?_
    exact Ok.refl
  · refine Ok.via (vmChange_ok ..) rfl ?_
    exact Ok.refl

theorem execVmUndervoltageFault_ok : ∀ x0 x1 s, OkO (.trioQ :: .emcyQ :: .logQ :: .logWin :: .coaches :: .axes :: .pl :: .reg .AXALERT :: .reg .AX_ACC :: .reg .AX_EPFS :: .reg .AX_FLTCNT :: .reg .AX_FLTSTAT :: .reg .AX_HOMEST :: .reg .AX_MOVEEN :: .reg .AX_STALLST :: .reg .AX_STAT :: .reg .AX_USTAT :: .reg .AX_VEL :: .reg .CO_VM :: .reg .EV_ACT :: .reg .EV_PEND :: .reg .MGS_LOGSTAT :: .reg .PL_ENERGY_HI :: .reg .PL_ENERGY_LO :: .reg .PL_EVINFO :: .reg .PL_MAKESPAN :: .reg .PL_RES :: .reg .PL_RES_EACT :: .reg .PL_RES_END :: .reg .PL_STAT :: []) s (@execVmUndervoltageFault x0 x1 s) := by
  intro x0 x1 s
  delta execVmUndervoltageFault
  refine OkO.next ?_
  refine Ok.via (vmEvent_ok ..) rfl ?_
  exact Ok.refl

theorem execVmUndervoltageWarning_ok : ∀ x0 x1 s, OkO (.trioQ :: .emcyQ :: .logQ :: .logWin :: .coaches :: .axes :: .pl :: .reg .AXALERT :: .reg .AX_ACC :: .reg .AX_EPFS :: .reg .AX_FLTCNT :: .reg .AX_FLTSTAT :: .reg .AX_HOMEST :: .reg .AX_MOVEEN :: .reg .AX_STALLST :: .reg .AX_STAT :: .reg .AX_USTAT :: .reg .AX_VEL :: .reg .CO_VM :: .reg .EV_ACT :: .reg .EV_PEND :: .reg .MGS_LOGSTAT :: .reg .PL_ENERGY_HI :: .reg .PL_ENERGY_LO :: .reg .PL_EVINFO :: .reg .PL_MAKESPAN :: .reg .PL_RES :: .reg .PL_RES_EACT :: .reg .PL_RES_END :: .reg .PL_STAT :: []) s (@execVmUndervoltageWarning x0 x1 s) := by
  intro x0 x1 s
  delta execVmUndervoltageWarning
  refine OkO.next ?_
  refine Ok.via (vmEvent_ok ..) rfl ?_
  exact Ok.refl

theorem execVmOvervoltageFault_ok : ∀ x0 s, OkO (.trioQ :: .emcyQ :: .logQ :: .logWin :: .coaches :: .axes :: .pl :: .reg .AXALERT :: .reg .AX_ACC :: .reg .AX_EPFS :: .reg .AX_FLTCNT :: .reg .AX_FLTSTAT :: .reg .AX_HOMEST :: .reg .AX_MOVEEN :: .reg .AX_STALLST :: .reg .AX_STAT :: .reg .AX_USTAT :: .reg .AX_VEL :: .reg .CO_VM :: .reg .EV_ACT :: .reg .EV_PEND :: .reg .MGS_LOGSTAT :: .reg .PL_ENERGY_HI :: .reg .PL_ENERGY_LO :: .reg .PL_EVINFO :: .reg .PL_MAKESPAN :: .reg .PL_RES :: .reg .PL_RES_EACT :: .reg .PL_RES_END :: .reg .PL_STAT :: []) s (@execVmOvervoltageFault x0 s) := by
  intro x0 s
  delta execVmOvervoltageFault
  refine OkO.next ?_
  refine Ok.via (vmEvent_ok ..) rfl ?_
  exact Ok.refl

theorem execVmOvervoltageWarning_ok : ∀ x0 s, OkO (.trioQ :: .emcyQ :: .logQ :: .logWin :: .coaches :: .axes :: .pl :: .reg .AXALERT :: .reg .AX_ACC :: .reg .AX_EPFS :: .reg .AX_FLTCNT :: .reg .AX_FLTSTAT :: .reg .AX_HOMEST :: .reg .AX_MOVEEN :: .reg .AX_STALLST :: .reg .AX_STAT :: .reg .AX_USTAT :: .reg .AX_VEL :: .reg .CO_VM :: .reg .EV_ACT :: .reg .EV_PEND :: .reg .MGS_LOGSTAT :: .reg .PL_ENERGY_HI :: .reg .PL_ENERGY_LO :: .reg .PL_EVINFO :: .reg .PL_MAKESPAN :: .reg .PL_RES :: .reg .PL_RES_EACT :: .reg .PL_RES_END :: .reg .PL_STAT :: []) s (@execVmOvervoltageWarning x0 s) := by
  intro x0 s
  delta execVmOvervoltageWarning
  refine OkO.next ?_
  refine Ok.via (vmEvent_ok ..) rfl ?_
  exact Ok.refl

theorem execVmRelease_ok : ∀ x0 x1 s, OkO (.trioQ :: .emcyQ :: .logQ :: .logWin :: .coaches :: .axes :: .pl :: .reg .AXALERT :: .reg .AX_ACC :: .reg .AX_EPFS :: .reg .AX_FLTCNT :: .reg .AX_FLTSTAT :: .reg .AX_HOMEST :: .reg .AX_MOVEEN :: .reg .AX_STALLST :: .reg .AX_STAT :: .reg .AX_USTAT :: .reg .AX_VEL :: .reg .CO_VM :: .reg .EV_ACT :: .reg .EV_PEND :: .reg .MGS_LOGSTAT :: .reg .PL_ENERGY_HI :: .reg .PL_ENERGY_LO :: .reg .PL_EVINFO :: .reg .PL_MAKESPAN :: .reg .PL_RES :: .reg .PL_RES_EACT :: .reg .PL_RES_END :: .reg .PL_STAT :: []) s (@execVmRelease x0 x1 s) := by
  intro x0 x1 s
  delta execVmRelease
  refine OkO.next ?_
  refine Ok.via (vmEvent_ok ..) rfl ?_
  exact Ok.refl

theorem execVmBelow6v_ok : ∀ x0 s, OkO (.replies :: .trioQ :: .emcyQ :: .logQ :: .logWin :: .legs :: .coils :: .coaches :: .axes :: .pl :: .power :: .net :: .reg .AXALERT :: .reg .AX_ACC :: .reg .AX_EPFS :: .reg .AX_FLTCNT :: .reg .AX_FLTSTAT :: .reg .AX_HOMEST :: .reg .AX_MOVEEN :: .reg .AX_STALLST :: .reg .AX_STAT :: .reg .AX_USTAT :: .reg .AX_VEL :: .reg .CO_FLTSTAT :: .reg .CO_LINKSTAT :: .reg .CO_VM :: .reg .EV_ACT :: .reg .EV_PEND :: .reg .GCTL_BUSERR :: .reg .GCTL_BUSERRADDR :: .reg .GCTL_BUSERRCNT :: .reg .GCTL_PWRDOM :: .reg .GCTL_PWRSTAT :: .reg .LEG_TEST :: .reg .MGS_LOGSTAT :: .reg .PL_ENERGY_HI :: .reg .PL_ENERGY_LO :: .reg .PL_EVINFO :: .reg .PL_MAKESPAN :: .reg .PL_RES :: .reg .PL_RES_EACT :: .reg .PL_RES_END :: .reg .PL_STAT :: .reg .RK_FLTSTAT :: []) s (@execVmBelow6v x0 s) := by
  intro x0 s
  delta execVmBelow6v
  refine OkO.next ?_
  refine Ok.ite ?_ ?_
  · refine Ok.via (State.modCoach_ok ..) rfl ?_
    exact Ok.refl
  · refine Ok.via (vmBelow6_ok ..) rfl ?_
    exact Ok.refl

end Sys2Proof.Machine
end

