-- ==== Sys2Proof/Laws/OkLink.lean ====
section
/-!
SUPPORT. Laws/OkLink.lean: for each operation of Machine/Link.lean, the parts of the state it can change, and that it keeps a
good state good.
-/

namespace Sys2Proof.Machine

set_option Elab.async false

theorem execCoachPeriodStart_ok : ∀ x0 x1 s, OkO [.regs, .staged, .replies, .free, .trioQ, .emcyQ, .logQ, .logWin, .legs, .coils, .coaches, .axes, .pl, .power, .encs, .net] s (@execCoachPeriodStart x0 x1 s) := by
  intro x0 x1 s
  delta execCoachPeriodStart
  extract_lets +onlyGivenNames -merge -useContext s0
  refine OkO.withS (x := s0) ?_ fun h1 => ?_
  · unfold s0
    refine Ok.via (coachPeriod_ok ..) rfl ?_
    exact Ok.refl
  clear_value s0
  refine OkO.next ?_
  refine Ok.ite ?_ ?_
  · refine Ok.via (coachOffNow_ok ..) rfl ?_
    exact h1
  · exact h1

theorem execCmdFrame_ok : ∀ x0 x1 x2 x3 s, OkO [.coaches] s (@execCmdFrame x0 x1 x2 x3 s) := by
  intro x0 x1 x2 x3 s
  delta execCmdFrame
  refine OkO.next ?_
  refine Ok.via (cmdFrame_ok ..) rfl ?_
  exact Ok.refl

theorem execCfgFrame_ok : ∀ x0 x1 s, OkO (.regs :: .snap :: .staged :: .bad :: .replies :: .guards :: .hostPair :: .trioPair :: .mgsPair :: .canPair :: .ticks :: .free :: .trioQ :: .emcyQ :: .logQ :: .logWin :: .legs :: .coils :: .coaches :: .trips :: .runs :: .axes :: .pl :: .power :: .syncOut :: .encs :: .stepLast :: .stepDir :: .sds :: .afe :: .trio :: .mgs :: .net :: .sph :: .spm :: .nvm :: []) s (@execCfgFrame x0 x1 s) := by
  intro x0 x1 s
  delta execCfgFrame
  refine OkO.next ?_
  refine Ok.via (hostPoll_ok ..) rfl ?_
  refine Ok.via (cfgFrame_ok ..) rfl ?_
  exact Ok.refl

theorem execCfgrFrame_ok : ∀ x0 x1 s, OkO (.regs :: .snap :: .staged :: .bad :: .replies :: .guards :: .hostPair :: .trioPair :: .mgsPair :: .canPair :: .ticks :: .free :: .trioQ :: .emcyQ :: .logQ :: .logWin :: .legs :: .coils :: .coaches :: .trips :: .runs :: .axes :: .pl :: .power :: .syncOut :: .encs :: .stepLast :: .stepDir :: .sds :: .afe :: .trio :: .mgs :: .net :: .sph :: .spm :: .nvm :: []) s (@execCfgrFrame x0 x1 s) := by
  intro x0 x1 s
  delta execCfgrFrame
  refine OkO.next ?_
  refine Ok.via (hostPoll_ok ..) rfl ?_
  refine Ok.via (cfgrFrame_ok ..) rfl ?_
  exact Ok.refl

theorem execCfgResend_ok : ∀ x0 s, OkO (.regs :: .snap :: .staged :: .bad :: .replies :: .guards :: .hostPair :: .trioPair :: .mgsPair :: .canPair :: .ticks :: .free :: .trioQ :: .emcyQ :: .logQ :: .logWin :: .legs :: .coils :: .coaches :: .trips :: .runs :: .axes :: .pl :: .power :: .syncOut :: .encs :: .stepLast :: .stepDir :: .sds :: .afe :: .trio :: .mgs :: .net :: .sph :: .spm :: .nvm :: []) s (@execCfgResend x0 s) := by
  intro x0 s
  delta execCfgResend
  refine OkO.next ?_
  refine Ok.via (hostPoll_ok ..) rfl ?_
  refine Ok.via (cfgResend_ok ..) rfl ?_
  exact Ok.refl

theorem execCtlSafeSelect_ok : ∀ x0 x1 s, OkO [.free, .legs, .coils, .coaches, .reg .CO_LINKSTAT, .reg .LEG_FLTCNT] s (@execCtlSafeSelect x0 x1 s) := by
  intro x0 x1 s
  delta execCtlSafeSelect
  refine OkO.next ?_
  refine Ok.via (ctlFrame_ok ..) rfl ?_
  exact Ok.refl

theorem execCtlKill_ok : ∀ x0 x1 s, OkO [.free, .legs, .coils, .coaches, .reg .CO_LINKSTAT, .reg .LEG_FLTCNT] s (@execCtlKill x0 x1 s) := by
  intro x0 x1 s
  delta execCtlKill
  refine OkO.next ?_
  refine Ok.via (ctlFrame_ok ..) rfl ?_
  exact Ok.refl

theorem execCtlRelease_ok : ∀ x0 x1 s, OkO [.free, .legs, .coils, .coaches, .reg .CO_LINKSTAT, .reg .LEG_FLTCNT] s (@execCtlRelease x0 x1 s) := by
  intro x0 x1 s
  delta execCtlRelease
  refine OkO.next ?_
  refine Ok.via (ctlFrame_ok ..) rfl ?_
  exact Ok.refl

theorem execStatFrame_ok : ∀ x0 x1 x2 s, OkO (.snap :: .trioQ :: .emcyQ :: .logQ :: .logWin :: .coaches :: .trips :: .axes :: .pl :: .reg .AXALERT :: .reg .AX_ACC :: .reg .AX_EPFS :: .reg .AX_FLTCNT :: .reg .AX_FLTSTAT :: .reg .AX_HOMEST :: .reg .AX_MOVEEN :: .reg .AX_STALLST :: .reg .AX_STAT :: .reg .AX_USTAT :: .reg .AX_VEL :: .reg .CO_LINKERR :: .reg .CO_STAT :: .reg .CO_TEMP :: .reg .CO_TEMPMAX :: .reg .CO_VM :: .reg .EV_ACT :: .reg .EV_LEGFLT :: .reg .EV_PEND :: .reg .LEG_STAT :: .reg .LEG_TRIP :: .reg .MGS_LOGSTAT :: .reg .PL_ENERGY_HI :: .reg .PL_ENERGY_LO :: .reg .PL_EVINFO :: .reg .PL_MAKESPAN :: .reg .PL_RES :: .reg .PL_RES_EACT :: .reg .PL_RES_END :: .reg .PL_STAT :: .reg .RK_FLTSTAT :: .reg .RK_IMB :: .reg .RK_STAT :: .reg .RK_THERM :: .reg .RK_VCP :: []) s (@execStatFrame x0 x1 x2 s) := by
  intro x0 x1 x2 s
  delta execStatFrame
  refine OkO.next ?_
  refine Ok.via (statFrame_ok ..) rfl ?_
  exact Ok.refl

theorem execSnsFrame_ok : ∀ x0 x1 x2 s, OkO [.coaches, .axes, .reg .AX_BEMFCNT, .reg .AX_ENERGY_HI, .reg .AX_ENERGY_LO, .reg .CO_LINKERR] s (@execSnsFrame x0 x1 x2 s) := by
  intro x0 x1 x2 s
  delta execSnsFrame
  refine OkO.next ?_
  refine Ok.via (snsFrame_ok ..) rfl ?_
  exact Ok.refl

theorem execCoachWatchdogExpiry_ok : ∀ x0 s, OkO [.free, .legs, .coils, .coaches, .reg .CO_LINKSTAT, .reg .LEG_TEST] s (@execCoachWatchdogExpiry x0 s) := by
  intro x0 s
  delta execCoachWatchdogExpiry
  refine OkO.next ?_
  refine Ok.via (coachExpiry_ok ..) rfl ?_
  exact Ok.refl

theorem execHubWatchdogExpiry_ok : ∀ x0 s, OkO (.replies :: .trioQ :: .emcyQ :: .logQ :: .logWin :: .coaches :: .axes :: .pl :: .power :: .net :: .reg .AXALERT :: .reg .AX_ACC :: .reg .AX_EPFS :: .reg .AX_FLTCNT :: .reg .AX_FLTSTAT :: .reg .AX_HOMEST :: .reg .AX_MOVEEN :: .reg .AX_STALLST :: .reg .AX_STAT :: .reg .AX_USTAT :: .reg .AX_VEL :: .reg .CO_FLTSTAT :: .reg .CO_LINKSTAT :: .reg .EV_ACT :: .reg .EV_PEND :: .reg .GCTL_BUSERR :: .reg .GCTL_BUSERRADDR :: .reg .GCTL_BUSERRCNT :: .reg .MGS_LOGSTAT :: .reg .PL_ENERGY_HI :: .reg .PL_ENERGY_LO :: .reg .PL_EVINFO :: .reg .PL_MAKESPAN :: .reg .PL_RES :: .reg .PL_RES_EACT :: .reg .PL_RES_END :: .reg .PL_STAT :: []) s (@execHubWatchdogExpiry x0 s) := by
  intro x0 s
  delta execHubWatchdogExpiry
  refine OkO.next ?_
  refine Ok.via (hubExpiry_ok ..) rfl ?_
  exact Ok.refl

theorem execCoachSilenceEnd_ok : ∀ x0 s, OkO [.coaches] s (@execCoachSilenceEnd x0 s) := by
  intro x0 s
  delta execCoachSilenceEnd
  refine OkO.next ?_
  refine Ok.via (State.modCoach_ok ..) rfl ?_
  exact Ok.refl

theorem execTrainingAttempt_ok : ∀ x0 s, OkO [.coaches] s (@execTrainingAttempt x0 s) := by
  intro x0 s
  delta execTrainingAttempt
  refine OkO.next ?_
  refine Ok.via (trainAttempt_ok ..) rfl ?_
  exact Ok.refl

theorem execTrainingComplete_ok : ∀ x0 s, OkO [.coaches, .reg .CO_LINKSTAT] s (@execTrainingComplete x0 s) := by
  intro x0 s
  delta execTrainingComplete
  refine OkO.next ?_
  refine Ok.via (trainDone_ok ..) rfl ?_
  exact Ok.refl

end Sys2Proof.Machine
end

