-- ==== Sys2Proof/Laws/OkManagement.lean ====
section
/-!
SUPPORT. Laws/OkManagement.lean: for each operation of Machine/Management.lean, the parts of the state it can change, and that it keeps a
good state good.
-/

namespace Sys2Proof.Machine

set_option Elab.async false

theorem execMonitorSample_ok : ∀ x0 x1 x2 x3 s, OkO [.trioQ, .emcyQ, .logQ, .logWin, .power, .trio, .mgs, .reg .EV_ACT, .reg .EV_PEND, .reg .GCTL_RTC_HI, .reg .GCTL_RTC_LO, .reg .MGS_ALSTAT, .reg .MGS_LOGSTAT, .reg .MGS_MON, .reg .TRIO_STAT] s (@execMonitorSample x0 x1 x2 x3 s) := by
  intro x0 x1 x2 x3 s
  delta execMonitorSample
  refine OkO.next ?_
  refine Ok.via (monitorSample_ok ..) rfl ?_
  exact Ok.refl

theorem execWatchdogService_ok : ∀ s, OkO [.mgs] s (@execWatchdogService s) := by
  intro s
  delta execWatchdogService
  refine OkO.next ?_
  refine Ok.via (watchdogService_ok ..) rfl ?_
  exact Ok.refl

theorem execWatchdogExpiry_ok : ∀ s, OkO [.trioQ, .emcyQ, .logQ, .logWin, .trio, .mgs, .reg .EV_PEND, .reg .MGS_LOGSTAT, .reg .MGS_WDCFG, .reg .TRIO_STAT] s (@execWatchdogExpiry s) := by
  intro s
  delta execWatchdogExpiry
  refine OkO.next ?_
  refine Ok.via (watchdogExpiry_ok ..) rfl ?_
  exact Ok.refl

theorem execMgsDeferredReset_ok : ∀ s, OkO (.regs :: .snap :: .staged :: .bad :: .replies :: .guards :: .hostPair :: .trioPair :: .mgsPair :: .canPair :: .ticks :: .trioQ :: .emcyQ :: .logQ :: .logWin :: .legs :: .coils :: .coaches :: .trips :: .runs :: .axes :: .pl :: .power :: .syncOut :: .encs :: .stepLast :: .stepDir :: .sds :: .afe :: .trio :: .mgs :: .net :: .sph :: .spm :: .nvm :: []) s (@execMgsDeferredReset s) := by
  intro s
  delta execMgsDeferredReset
  refine OkO.next ?_
  refine Ok.ite ?_ ?_
  · refine Ok.via (enterReset_ok ..) rfl ?_
    exact Ok.refl
  · exact Ok.refl

theorem execLogDataRead_ok : ∀ x0 s, OkO (.regs :: .staged :: .replies :: .hostPair :: .trioPair :: .mgsPair :: .canPair :: .free :: .trioQ :: .emcyQ :: .logQ :: .logWin :: .legs :: .coils :: .coaches :: .axes :: .pl :: .power :: .sds :: .afe :: .trio :: .mgs :: .spm :: []) s (@execLogDataRead x0 s) := by
  intro x0 s
  delta execLogDataRead
  refine OkO.next ?_
  refine Ok.via (busRead_ok ..) rfl ?_
  exact Ok.refl

theorem execLogPointerWrite_ok : ∀ x0 x1 s, OkO (.regs :: .snap :: .staged :: .bad :: .replies :: .guards :: .hostPair :: .trioPair :: .mgsPair :: .canPair :: .ticks :: .free :: .trioQ :: .emcyQ :: .logQ :: .logWin :: .legs :: .coils :: .coaches :: .trips :: .runs :: .axes :: .pl :: .power :: .syncOut :: .encs :: .stepLast :: .stepDir :: .sds :: .afe :: .trio :: .mgs :: .net :: .sph :: .spm :: .nvm :: []) s (@execLogPointerWrite x0 x1 s) := by
  intro x0 x1 s
  delta execLogPointerWrite
  refine OkO.next ?_
  refine Ok.via (regWrite_ok ..) rfl ?_
  exact Ok.refl

theorem execUpdBegin_ok : ∀ x0 s, OkO (.regs :: .snap :: .staged :: .bad :: .replies :: .guards :: .hostPair :: .trioPair :: .mgsPair :: .canPair :: .ticks :: .free :: .trioQ :: .emcyQ :: .logQ :: .logWin :: .legs :: .coils :: .coaches :: .trips :: .runs :: .axes :: .pl :: .power :: .syncOut :: .encs :: .stepLast :: .stepDir :: .sds :: .afe :: .trio :: .mgs :: .net :: .sph :: .spm :: .nvm :: []) s (@execUpdBegin x0 s) := by
  intro x0 s
  delta execUpdBegin
  refine OkO.next ?_
  refine Ok.via (regWrite_ok ..) rfl ?_
  exact Ok.refl

theorem execUpdEnd_ok : ∀ x0 s, OkO (.regs :: .snap :: .staged :: .bad :: .replies :: .guards :: .hostPair :: .trioPair :: .mgsPair :: .canPair :: .ticks :: .free :: .trioQ :: .emcyQ :: .logQ :: .logWin :: .legs :: .coils :: .coaches :: .trips :: .runs :: .axes :: .pl :: .power :: .syncOut :: .encs :: .stepLast :: .stepDir :: .sds :: .afe :: .trio :: .mgs :: .net :: .sph :: .spm :: .nvm :: []) s (@execUpdEnd x0 s) := by
  intro x0 s
  delta execUpdEnd
  refine OkO.next ?_
  refine Ok.via (regWrite_ok ..) rfl ?_
  exact Ok.refl

theorem execActivate_ok : ∀ x0 s, OkO (.regs :: .snap :: .staged :: .bad :: .replies :: .guards :: .hostPair :: .trioPair :: .mgsPair :: .canPair :: .ticks :: .free :: .trioQ :: .emcyQ :: .logQ :: .logWin :: .legs :: .coils :: .coaches :: .trips :: .runs :: .axes :: .pl :: .power :: .syncOut :: .encs :: .stepLast :: .stepDir :: .sds :: .afe :: .trio :: .mgs :: .net :: .sph :: .spm :: .nvm :: []) s (@execActivate x0 s) := by
  intro x0 s
  delta execActivate
  refine OkO.next ?_
  refine Ok.via (regWrite_ok ..) rfl ?_
  exact Ok.refl

theorem execCancel_ok : ∀ x0 s, OkO (.regs :: .snap :: .staged :: .bad :: .replies :: .guards :: .hostPair :: .trioPair :: .mgsPair :: .canPair :: .ticks :: .free :: .trioQ :: .emcyQ :: .logQ :: .logWin :: .legs :: .coils :: .coaches :: .trips :: .runs :: .axes :: .pl :: .power :: .syncOut :: .encs :: .stepLast :: .stepDir :: .sds :: .afe :: .trio :: .mgs :: .net :: .sph :: .spm :: .nvm :: []) s (@execCancel x0 s) := by
  intro x0 s
  delta execCancel
  refine OkO.next ?_
  refine Ok.via (regWrite_ok ..) rfl ?_
  exact Ok.refl

theorem execConfirm_ok : ∀ x0 s, OkO (.regs :: .snap :: .staged :: .bad :: .replies :: .guards :: .hostPair :: .trioPair :: .mgsPair :: .canPair :: .ticks :: .free :: .trioQ :: .emcyQ :: .logQ :: .logWin :: .legs :: .coils :: .coaches :: .trips :: .runs :: .axes :: .pl :: .power :: .syncOut :: .encs :: .stepLast :: .stepDir :: .sds :: .afe :: .trio :: .mgs :: .net :: .sph :: .spm :: .nvm :: []) s (@execConfirm x0 s) := by
  intro x0 s
  delta execConfirm
  refine OkO.next ?_
  refine Ok.via (regWrite_ok ..) rfl ?_
  exact Ok.refl

theorem execActivateReset_ok : ∀ x0 s, OkO (.regs :: .snap :: .staged :: .bad :: .replies :: .guards :: .hostPair :: .trioPair :: .mgsPair :: .canPair :: .ticks :: .free :: .trioQ :: .emcyQ :: .logQ :: .logWin :: .legs :: .coils :: .coaches :: .trips :: .runs :: .axes :: .pl :: .power :: .syncOut :: .encs :: .stepLast :: .stepDir :: .sds :: .afe :: .trio :: .mgs :: .net :: .sph :: .spm :: .nvm :: []) s (@execActivateReset x0 s) := by
  intro x0 s
  delta execActivateReset
  refine OkO.next ?_
  refine Ok.via (regWrite_ok ..) rfl ?_
  exact Ok.refl

theorem execUpdateDataWrite_ok : ∀ x0 x1 s, OkO (.regs :: .snap :: .staged :: .bad :: .replies :: .guards :: .hostPair :: .trioPair :: .mgsPair :: .canPair :: .ticks :: .free :: .trioQ :: .emcyQ :: .logQ :: .logWin :: .legs :: .coils :: .coaches :: .trips :: .runs :: .axes :: .pl :: .power :: .syncOut :: .encs :: .stepLast :: .stepDir :: .sds :: .afe :: .trio :: .mgs :: .net :: .sph :: .spm :: .nvm :: []) s (@execUpdateDataWrite x0 x1 s) := by
  intro x0 x1 s
  delta execUpdateDataWrite
  refine OkO.next ?_
  refine Ok.via (regWrite_ok ..) rfl ?_
  exact Ok.refl

theorem execUpdateCommandEnd_ok : ∀ s, OkO (.regs :: .snap :: .staged :: .bad :: .replies :: .guards :: .hostPair :: .trioPair :: .mgsPair :: .canPair :: .ticks :: .free :: .trioQ :: .emcyQ :: .logQ :: .logWin :: .legs :: .coils :: .coaches :: .trips :: .runs :: .axes :: .pl :: .power :: .syncOut :: .encs :: .stepLast :: .stepDir :: .rbcnt :: .sds :: .afe :: .trio :: .mgs :: .net :: .sph :: .spm :: .nvm :: []) s (@execUpdateCommandEnd s) := by
  intro s
  delta execUpdateCommandEnd
  refine OkO.next ?_
  refine Ok.via (netSweep_ok ..) rfl ?_
  refine Ok.via (updEnd_ok ..) rfl ?_
  exact Ok.refl

theorem execLogout_ok : ∀ x0 s, OkO (.regs :: .snap :: .staged :: .bad :: .replies :: .guards :: .hostPair :: .trioPair :: .mgsPair :: .canPair :: .ticks :: .free :: .trioQ :: .emcyQ :: .logQ :: .logWin :: .legs :: .coils :: .coaches :: .trips :: .runs :: .axes :: .pl :: .power :: .syncOut :: .encs :: .stepLast :: .stepDir :: .sds :: .afe :: .trio :: .mgs :: .net :: .sph :: .spm :: .nvm :: []) s (@execLogout x0 s) := by
  intro x0 s
  delta execLogout
  refine OkO.next ?_
  refine Ok.via (regWrite_ok ..) rfl ?_
  exact Ok.refl

theorem execSetkey_ok : ∀ x0 s, OkO (.regs :: .snap :: .staged :: .bad :: .replies :: .guards :: .hostPair :: .trioPair :: .mgsPair :: .canPair :: .ticks :: .free :: .trioQ :: .emcyQ :: .logQ :: .logWin :: .legs :: .coils :: .coaches :: .trips :: .runs :: .axes :: .pl :: .power :: .syncOut :: .encs :: .stepLast :: .stepDir :: .sds :: .afe :: .trio :: .mgs :: .net :: .sph :: .spm :: .nvm :: []) s (@execSetkey x0 s) := by
  intro x0 s
  delta execSetkey
  refine OkO.next ?_
  refine Ok.via (regWrite_ok ..) rfl ?_
  exact Ok.refl

theorem execGenid_ok : ∀ x0 s, OkO (.regs :: .snap :: .staged :: .bad :: .replies :: .guards :: .hostPair :: .trioPair :: .mgsPair :: .canPair :: .ticks :: .free :: .trioQ :: .emcyQ :: .logQ :: .logWin :: .legs :: .coils :: .coaches :: .trips :: .runs :: .axes :: .pl :: .power :: .syncOut :: .encs :: .stepLast :: .stepDir :: .sds :: .afe :: .trio :: .mgs :: .net :: .sph :: .spm :: .nvm :: []) s (@execGenid x0 s) := by
  intro x0 s
  delta execGenid
  refine OkO.next ?_
  refine Ok.via (regWrite_ok ..) rfl ?_
  exact Ok.refl

theorem execReadpub_ok : ∀ x0 s, OkO (.regs :: .snap :: .staged :: .bad :: .replies :: .guards :: .hostPair :: .trioPair :: .mgsPair :: .canPair :: .ticks :: .free :: .trioQ :: .emcyQ :: .logQ :: .logWin :: .legs :: .coils :: .coaches :: .trips :: .runs :: .axes :: .pl :: .power :: .syncOut :: .encs :: .stepLast :: .stepDir :: .sds :: .afe :: .trio :: .mgs :: .net :: .sph :: .spm :: .nvm :: []) s (@execReadpub x0 s) := by
  intro x0 s
  delta execReadpub
  refine OkO.next ?_
  refine Ok.via (regWrite_ok ..) rfl ?_
  exact Ok.refl

theorem execAttest_ok : ∀ x0 s, OkO (.regs :: .snap :: .staged :: .bad :: .replies :: .guards :: .hostPair :: .trioPair :: .mgsPair :: .canPair :: .ticks :: .free :: .trioQ :: .emcyQ :: .logQ :: .logWin :: .legs :: .coils :: .coaches :: .trips :: .runs :: .axes :: .pl :: .power :: .syncOut :: .encs :: .stepLast :: .stepDir :: .sds :: .afe :: .trio :: .mgs :: .net :: .sph :: .spm :: .nvm :: []) s (@execAttest x0 s) := by
  intro x0 s
  delta execAttest
  refine OkO.next ?_
  refine Ok.via (regWrite_ok ..) rfl ?_
  exact Ok.refl

theorem execUnlock_ok : ∀ x0 s, OkO (.regs :: .snap :: .staged :: .bad :: .replies :: .guards :: .hostPair :: .trioPair :: .mgsPair :: .canPair :: .ticks :: .free :: .trioQ :: .emcyQ :: .logQ :: .logWin :: .legs :: .coils :: .coaches :: .trips :: .runs :: .axes :: .pl :: .power :: .syncOut :: .encs :: .stepLast :: .stepDir :: .sds :: .afe :: .trio :: .mgs :: .net :: .sph :: .spm :: .nvm :: []) s (@execUnlock x0 s) := by
  intro x0 s
  delta execUnlock
  refine OkO.next ?_
  refine Ok.via (regWrite_ok ..) rfl ?_
  exact Ok.refl

theorem execClralarm_ok : ∀ x0 s, OkO (.regs :: .snap :: .staged :: .bad :: .replies :: .guards :: .hostPair :: .trioPair :: .mgsPair :: .canPair :: .ticks :: .free :: .trioQ :: .emcyQ :: .logQ :: .logWin :: .legs :: .coils :: .coaches :: .trips :: .runs :: .axes :: .pl :: .power :: .syncOut :: .encs :: .stepLast :: .stepDir :: .sds :: .afe :: .trio :: .mgs :: .net :: .sph :: .spm :: .nvm :: []) s (@execClralarm x0 s) := by
  intro x0 s
  delta execClralarm
  refine OkO.next ?_
  refine Ok.via (regWrite_ok ..) rfl ?_
  exact Ok.refl

theorem execReadcert_ok : ∀ x0 x1 s, OkO (.regs :: .snap :: .staged :: .bad :: .replies :: .guards :: .hostPair :: .trioPair :: .mgsPair :: .canPair :: .ticks :: .free :: .trioQ :: .emcyQ :: .logQ :: .logWin :: .legs :: .coils :: .coaches :: .trips :: .runs :: .axes :: .pl :: .power :: .syncOut :: .encs :: .stepLast :: .stepDir :: .sds :: .afe :: .trio :: .mgs :: .net :: .sph :: .spm :: .nvm :: []) s (@execReadcert x0 x1 s) := by
  intro x0 x1 s
  delta execReadcert
  refine OkO.next ?_
  refine Ok.via (regWrite_ok ..) rfl ?_
  exact Ok.refl

theorem execSecurityCommandEnd_ok : ∀ s, OkO [.free, .logQ, .mgs, .reg .MGS_ALSTAT, .reg .MGS_LOGSTAT, .reg .MGS_PROV, .reg .MGS_SECBUF, .reg .MGS_SECSTAT] s (@execSecurityCommandEnd s) := by
  intro s
  delta execSecurityCommandEnd
  refine OkO.next ?_
  refine Ok.via (secEnd_ok ..) rfl ?_
  exact Ok.refl

theorem execChallengeIssue_ok : ∀ x0 s, OkO (.regs :: .snap :: .staged :: .bad :: .replies :: .guards :: .hostPair :: .trioPair :: .mgsPair :: .canPair :: .ticks :: .free :: .trioQ :: .emcyQ :: .logQ :: .logWin :: .legs :: .coils :: .coaches :: .trips :: .runs :: .axes :: .pl :: .power :: .syncOut :: .encs :: .stepLast :: .stepDir :: .sds :: .afe :: .trio :: .mgs :: .net :: .sph :: .spm :: .nvm :: []) s (@execChallengeIssue x0 s) := by
  intro x0 s
  delta execChallengeIssue
  refine OkO.next ?_
  split
  · refine Ok.via (busRead_ok ..) rfl ?_
    exact Ok.refl
  · refine Ok.ite ?_ ?_
    · refine Ok.via (issueDebug_ok ..) rfl ?_
      exact Ok.refl
    · exact Ok.refl
  · refine Ok.via (usdoRequest_ok ..) rfl ?_
    exact Ok.refl

theorem execResponseCheck_ok : ∀ x0 x1 s, OkO [.trioQ, .emcyQ, .logQ, .logWin, .mgs, .net, .reg .EV_PEND, .reg .MGS_ALSTAT, .reg .MGS_AUCHAL, .reg .MGS_AUSTAT, .reg .MGS_LOGSTAT, .reg .MGS_PROV, .reg .MGS_SECBUF, .reg .NET_CNT, .reg .NET_MAL, .reg .NET_SESS] s (@execResponseCheck x0 x1 s) := by
  intro x0 x1 s
  delta execResponseCheck
  refine OkO.next ?_
  split
  · refine Ok.via (checkHost_ok ..) rfl ?_
    exact Ok.refl
  · refine Ok.ite ?_ ?_
    · refine Ok.via (checkDebug_ok ..) rfl ?_
      exact Ok.refl
    · exact Ok.refl
  · refine Ok.via (checkCtx_ok ..) rfl ?_
    exact Ok.refl

theorem execChallengeExpiry_ok : ∀ x0 s, OkO [.mgs, .net, .reg .MGS_AUCHAL, .reg .MGS_SECBUF, .reg .NET_SESS] s (@execChallengeExpiry x0 s) := by
  intro x0 s
  delta execChallengeExpiry
  refine OkO.next ?_
  split
  · refine Ok.via (expireHost_ok ..) rfl ?_
    exact Ok.refl
  · refine Ok.via (State.modMgs_ok ?_) rfl ?_
    · exact fun _ h => ⟨h.1, h.2.1, h.2.2.1, h.2.2.2.1, h.2.2.2.2⟩
    exact Ok.refl
  · refine Ok.via (expireCtx_ok ..) rfl ?_
    exact Ok.refl

theorem execHostSessionTimeout_ok : ∀ s, OkO [.mgs, .reg .MGS_SECBUF] s (@execHostSessionTimeout s) := by
  intro s
  delta execHostSessionTimeout
  refine OkO.next ?_
  refine Ok.ite ?_ ?_
  · refine Ok.via (endHostSession_ok ..) rfl ?_
    exact Ok.refl
  · exact Ok.refl

theorem execDebugSessionEnd_ok : ∀ s, OkO [.mgs, .reg .MGS_SECBUF] s (@execDebugSessionEnd s) := by
  intro s
  delta execDebugSessionEnd
  refine OkO.next ?_
  refine Ok.ite ?_ ?_
  · exact Ok.refl
  · refine Ok.ite ?_ ?_
    · refine Ok.via (endDebugSession_ok ..) rfl ?_
      exact Ok.refl
    · refine Ok.via (State.modMgs_ok ?_) rfl ?_
      · exact fun _ h => ⟨h.1, h.2.1, h.2.2.1, h.2.2.2.1, h.2.2.2.2⟩
      exact Ok.refl

theorem execTamper_ok : ∀ s, OkO [.trioQ, .emcyQ, .logQ, .logWin, .mgs, .reg .EV_PEND, .reg .MGS_ALSTAT, .reg .MGS_LOGSTAT, .reg .MGS_PROV] s (@execTamper s) := by
  intro s
  delta execTamper
  refine OkO.next ?_
  refine Ok.via (alarm_ok ..) rfl ?_
  refine Ok.via (setActive_ok ..) rfl ?_
  exact Ok.refl

theorem execVoltageGlitch_ok : ∀ x0 s, OkO [.trioQ, .emcyQ, .logQ, .logWin, .mgs, .reg .EV_PEND, .reg .MGS_ALSTAT, .reg .MGS_LOGSTAT, .reg .MGS_PROV] s (@execVoltageGlitch x0 s) := by
  intro x0 s
  delta execVoltageGlitch
  refine OkO.next ?_
  refine Ok.ite ?_ ?_
  · exact Ok.refl
  · refine Ok.via (alarm_ok ..) rfl ?_
    refine Ok.via (setActive_ok ..) rfl ?_
    exact Ok.refl

theorem execClockGlitch_ok : ∀ x0 s, OkO [.trioQ, .emcyQ, .logQ, .logWin, .mgs, .reg .EV_PEND, .reg .MGS_ALSTAT, .reg .MGS_LOGSTAT, .reg .MGS_PROV] s (@execClockGlitch x0 s) := by
  intro x0 s
  delta execClockGlitch
  refine OkO.next ?_
  refine Ok.ite ?_ ?_
  · exact Ok.refl
  · refine Ok.via (alarm_ok ..) rfl ?_
    refine Ok.via (setActive_ok ..) rfl ?_
    exact Ok.refl

theorem execUnauthenticatedDebug_ok : ∀ s, OkO [.trioQ, .emcyQ, .logQ, .logWin, .mgs, .reg .EV_PEND, .reg .MGS_ALSTAT, .reg .MGS_LOGSTAT, .reg .MGS_PROV] s (@execUnauthenticatedDebug s) := by
  intro s
  delta execUnauthenticatedDebug
  refine OkO.next ?_
  refine Ok.ite ?_ ?_
  · refine Ok.via (alarm_ok ..) rfl ?_
    refine Ok.via (setActive_ok ..) rfl ?_
    exact Ok.refl
  · exact Ok.refl

theorem execKeyIntegrityCheck_ok : ∀ x0 s, OkO [.trioQ, .emcyQ, .logQ, .logWin, .mgs, .reg .EV_PEND, .reg .MGS_ALSTAT, .reg .MGS_LOGSTAT, .reg .MGS_PROV] s (@execKeyIntegrityCheck x0 s) := by
  intro x0 s
  delta execKeyIntegrityCheck
  refine OkO.next ?_
  refine Ok.ite ?_ ?_
  · exact Ok.refl
  · extract_lets +onlyGivenNames -merge -useContext s0
    refine Ok.withS (x := s0) ?_ fun h1 => ?_
    · unfold s0
      refine Ok.via (setActive_ok ..) rfl ?_
      exact Ok.refl
    clear_value s0
    refine Ok.ite ?_ ?_
    · exact h1
    · refine Ok.via (alarm_ok ..) rfl ?_
      exact h1

theorem execKeyEraseComplete_ok : ∀ s, OkO [.logQ, .mgs, .net, .reg .MGS_LOGSTAT, .reg .MGS_PROV, .reg .MGS_SECBUF, .reg .NET_SESS] s (@execKeyEraseComplete s) := by
  intro s
  delta execKeyEraseComplete
  refine OkO.next ?_
  refine Ok.ite ?_ ?_
  · exact Ok.refl
  · refine Ok.via (closeContexts_ok ..) rfl ?_
    refine Ok.via (keyErase_ok ..) rfl ?_
    exact Ok.refl

end Sys2Proof.Machine
end

