-- ==== Sys2Proof/Laws/OkNetwork.lean ====
section
/-!
SUPPORT. Laws/OkNetwork.lean: for each operation of Machine/Network.lean, the parts of the state it can change, and that it keeps a
good state good.
-/

namespace Sys2Proof.Machine

set_option Elab.async false

theorem execNmtStart_ok : ∀ x0 x1 s, OkO (.regs :: .snap :: .staged :: .bad :: .replies :: .guards :: .hostPair :: .trioPair :: .mgsPair :: .canPair :: .ticks :: .free :: .trioQ :: .emcyQ :: .logQ :: .logWin :: .legs :: .coils :: .coaches :: .trips :: .runs :: .axes :: .pl :: .power :: .syncOut :: .encs :: .stepLast :: .stepDir :: .sds :: .afe :: .trio :: .mgs :: .net :: .sph :: .spm :: .nvm :: []) s (@execNmtStart x0 x1 s) := by
  intro x0 x1 s
  delta execNmtStart
  refine OkO.next ?_
  refine Ok.via (rxIn_ok ..) rfl ?_
  exact Ok.refl

theorem execNmtStop_ok : ∀ x0 x1 s, OkO (.regs :: .snap :: .staged :: .bad :: .replies :: .guards :: .hostPair :: .trioPair :: .mgsPair :: .canPair :: .ticks :: .free :: .trioQ :: .emcyQ :: .logQ :: .logWin :: .legs :: .coils :: .coaches :: .trips :: .runs :: .axes :: .pl :: .power :: .syncOut :: .encs :: .stepLast :: .stepDir :: .sds :: .afe :: .trio :: .mgs :: .net :: .sph :: .spm :: .nvm :: []) s (@execNmtStop x0 x1 s) := by
  intro x0 x1 s
  delta execNmtStop
  refine OkO.next ?_
  refine Ok.via (rxIn_ok ..) rfl ?_
  exact Ok.refl

theorem execNmtPreOperational_ok : ∀ x0 x1 s, OkO (.regs :: .snap :: .staged :: .bad :: .replies :: .guards :: .hostPair :: .trioPair :: .mgsPair :: .canPair :: .ticks :: .free :: .trioQ :: .emcyQ :: .logQ :: .logWin :: .legs :: .coils :: .coaches :: .trips :: .runs :: .axes :: .pl :: .power :: .syncOut :: .encs :: .stepLast :: .stepDir :: .sds :: .afe :: .trio :: .mgs :: .net :: .sph :: .spm :: .nvm :: []) s (@execNmtPreOperational x0 x1 s) := by
  intro x0 x1 s
  delta execNmtPreOperational
  refine OkO.next ?_
  refine Ok.via (rxIn_ok ..) rfl ?_
  exact Ok.refl

theorem execNmtResetNode_ok : ∀ x0 x1 s, OkO (.regs :: .snap :: .staged :: .bad :: .replies :: .guards :: .hostPair :: .trioPair :: .mgsPair :: .canPair :: .ticks :: .free :: .trioQ :: .emcyQ :: .logQ :: .logWin :: .legs :: .coils :: .coaches :: .trips :: .runs :: .axes :: .pl :: .power :: .syncOut :: .encs :: .stepLast :: .stepDir :: .sds :: .afe :: .trio :: .mgs :: .net :: .sph :: .spm :: .nvm :: []) s (@execNmtResetNode x0 x1 s) := by
  intro x0 x1 s
  delta execNmtResetNode
  refine OkO.next ?_
  refine Ok.via (rxIn_ok ..) rfl ?_
  exact Ok.refl

theorem execNmtResetDeferred_ok : ∀ s, OkO (.regs :: .snap :: .staged :: .bad :: .replies :: .guards :: .hostPair :: .trioPair :: .mgsPair :: .canPair :: .ticks :: .trioQ :: .emcyQ :: .logQ :: .logWin :: .legs :: .coils :: .coaches :: .trips :: .runs :: .axes :: .pl :: .power :: .syncOut :: .encs :: .stepLast :: .stepDir :: .sds :: .afe :: .trio :: .mgs :: .net :: .sph :: .spm :: .nvm :: []) s (@execNmtResetDeferred s) := by
  intro s
  delta execNmtResetDeferred
  refine OkO.next ?_
  refine Ok.via (nmtResetDeferred_ok ..) rfl ?_
  exact Ok.refl

theorem execNmtResetCommunication_ok : ∀ x0 x1 s, OkO (.regs :: .snap :: .staged :: .bad :: .replies :: .guards :: .hostPair :: .trioPair :: .mgsPair :: .canPair :: .ticks :: .free :: .trioQ :: .emcyQ :: .logQ :: .logWin :: .legs :: .coils :: .coaches :: .trips :: .runs :: .axes :: .pl :: .power :: .syncOut :: .encs :: .stepLast :: .stepDir :: .sds :: .afe :: .trio :: .mgs :: .net :: .sph :: .spm :: .nvm :: []) s (@execNmtResetCommunication x0 x1 s) := by
  intro x0 x1 s
  delta execNmtResetCommunication
  refine OkO.next ?_
  refine Ok.via (rxIn_ok ..) rfl ?_
  exact Ok.refl

theorem execHeartbeatProduce_ok : ∀ s, OkO [.net, .reg .NET_CNT] s (@execHeartbeatProduce s) := by
  intro s
  delta execHeartbeatProduce
  refine OkO.next ?_
  refine Ok.via (heartbeatSend_ok ..) rfl ?_
  exact Ok.refl

theorem execHeartbeatReceived_ok : ∀ x0 x1 s, OkO (.regs :: .snap :: .staged :: .bad :: .replies :: .guards :: .hostPair :: .trioPair :: .mgsPair :: .canPair :: .ticks :: .free :: .trioQ :: .emcyQ :: .logQ :: .logWin :: .legs :: .coils :: .coaches :: .trips :: .runs :: .axes :: .pl :: .power :: .syncOut :: .encs :: .stepLast :: .stepDir :: .sds :: .afe :: .trio :: .mgs :: .net :: .sph :: .spm :: .nvm :: []) s (@execHeartbeatReceived x0 x1 s) := by
  intro x0 x1 s
  delta execHeartbeatReceived
  refine OkO.next ?_
  refine Ok.via (rxIn_ok ..) rfl ?_
  exact Ok.refl

theorem execHeartbeatLoss_ok : ∀ x0 s, OkO [.net, .reg .NET_HB, .reg .NET_NODE] s (@execHeartbeatLoss x0 s) := by
  intro x0 s
  delta execHeartbeatLoss
  refine OkO.next ?_
  refine Ok.via (heartbeatLoss_ok ..) rfl ?_
  exact Ok.refl

theorem execEmcySend_ok : ∀ x0 s, OkO [.net, .reg .NET_CNT] s (@execEmcySend x0 s) := by
  intro x0 s
  delta execEmcySend
  refine OkO.next ?_
  refine Ok.via (emcySend_ok ..) rfl ?_
  exact Ok.refl

theorem execCanSync_ok : ∀ x0 x1 x2 s, OkO (.regs :: .snap :: .staged :: .bad :: .replies :: .guards :: .hostPair :: .trioPair :: .mgsPair :: .canPair :: .ticks :: .free :: .trioQ :: .emcyQ :: .logQ :: .logWin :: .legs :: .coils :: .coaches :: .trips :: .runs :: .axes :: .pl :: .power :: .syncOut :: .encs :: .stepLast :: .stepDir :: .sds :: .afe :: .trio :: .mgs :: .net :: .sph :: .spm :: .nvm :: []) s (@execCanSync x0 x1 x2 s) := by
  intro x0 x1 x2 s
  delta execCanSync
  refine OkO.next ?_
  refine Ok.via (rxIn_ok ..) rfl ?_
  exact Ok.refl

theorem execCanTime_ok : ∀ x0 x1 s, OkO (.regs :: .snap :: .staged :: .bad :: .replies :: .guards :: .hostPair :: .trioPair :: .mgsPair :: .canPair :: .ticks :: .free :: .trioQ :: .emcyQ :: .logQ :: .logWin :: .legs :: .coils :: .coaches :: .trips :: .runs :: .axes :: .pl :: .power :: .syncOut :: .encs :: .stepLast :: .stepDir :: .sds :: .afe :: .trio :: .mgs :: .net :: .sph :: .spm :: .nvm :: []) s (@execCanTime x0 x1 s) := by
  intro x0 x1 s
  delta execCanTime
  refine OkO.next ?_
  refine Ok.via (rxIn_ok ..) rfl ?_
  exact Ok.refl

theorem execRpdo_ok : ∀ x0 x1 x2 s, OkO (.regs :: .snap :: .staged :: .bad :: .replies :: .guards :: .hostPair :: .trioPair :: .mgsPair :: .canPair :: .ticks :: .free :: .trioQ :: .emcyQ :: .logQ :: .logWin :: .legs :: .coils :: .coaches :: .trips :: .runs :: .axes :: .pl :: .power :: .syncOut :: .encs :: .stepLast :: .stepDir :: .sds :: .afe :: .trio :: .mgs :: .net :: .sph :: .spm :: .nvm :: []) s (@execRpdo x0 x1 x2 s) := by
  intro x0 x1 x2 s
  delta execRpdo
  refine OkO.next ?_
  refine Ok.via (rxIn_ok ..) rfl ?_
  exact Ok.refl

theorem execRpdoDeadline_ok : ∀ x0 s, OkO [.free, .net, .reg .NET_CNT] s (@execRpdoDeadline x0 s) := by
  intro x0 s
  delta execRpdoDeadline
  refine OkO.next ?_
  refine Ok.via (rpdoDeadline_ok ..) rfl ?_
  exact Ok.refl

theorem execTpdoSend_ok : ∀ x0 s, OkO (.regs :: .staged :: .replies :: .hostPair :: .trioPair :: .mgsPair :: .canPair :: .free :: .trioQ :: .emcyQ :: .logQ :: .logWin :: .legs :: .coils :: .coaches :: .axes :: .pl :: .power :: .sds :: .afe :: .trio :: .mgs :: .net :: .spm :: []) s (@execTpdoSend x0 s) := by
  intro x0 s
  delta execTpdoSend
  refine OkO.next ?_
  refine Ok.via (tpdoSend_ok ..) rfl ?_
  exact Ok.refl

theorem execTpdoTimer_ok : ∀ x0 s, OkO (.regs :: .staged :: .replies :: .hostPair :: .trioPair :: .mgsPair :: .canPair :: .free :: .trioQ :: .emcyQ :: .logQ :: .logWin :: .legs :: .coils :: .coaches :: .axes :: .pl :: .power :: .sds :: .afe :: .trio :: .mgs :: .net :: .spm :: []) s (@execTpdoTimer x0 s) := by
  intro x0 s
  delta execTpdoTimer
  refine OkO.next ?_
  refine Ok.via (tpdoTimer_ok ..) rfl ?_
  exact Ok.refl

theorem execUsdoRequest_ok : ∀ x0 x1 x2 x3 s, OkO (.regs :: .snap :: .staged :: .bad :: .replies :: .guards :: .hostPair :: .trioPair :: .mgsPair :: .canPair :: .ticks :: .free :: .trioQ :: .emcyQ :: .logQ :: .logWin :: .legs :: .coils :: .coaches :: .trips :: .runs :: .axes :: .pl :: .power :: .syncOut :: .encs :: .stepLast :: .stepDir :: .sds :: .afe :: .trio :: .mgs :: .net :: .sph :: .spm :: .nvm :: []) s (@execUsdoRequest x0 x1 x2 x3 s) := by
  intro x0 x1 x2 x3 s
  delta execUsdoRequest
  refine OkO.next ?_
  refine Ok.via (rxIn_ok ..) rfl ?_
  exact Ok.refl

theorem execUsdoTimeout_ok : ∀ x0 x1 x2 s, OkO [.mgs, .net, .reg .MGS_SECBUF, .reg .NET_CNT, .reg .NET_SESS] s (@execUsdoTimeout x0 x1 x2 s) := by
  intro x0 x1 x2 s
  delta execUsdoTimeout
  refine OkO.next ?_
  refine Ok.via (usdoTimeout_ok ..) rfl ?_
  exact Ok.refl

theorem execMalformedFrame_ok : ∀ x0 x1 s, OkO (.regs :: .snap :: .staged :: .bad :: .replies :: .guards :: .hostPair :: .trioPair :: .mgsPair :: .canPair :: .ticks :: .free :: .trioQ :: .emcyQ :: .logQ :: .logWin :: .legs :: .coils :: .coaches :: .trips :: .runs :: .axes :: .pl :: .power :: .syncOut :: .encs :: .stepLast :: .stepDir :: .sds :: .afe :: .trio :: .mgs :: .net :: .sph :: .spm :: .nvm :: []) s (@execMalformedFrame x0 x1 s) := by
  intro x0 x1 s
  delta execMalformedFrame
  refine OkO.next ?_
  refine Ok.via (rxIn_ok ..) rfl ?_
  exact Ok.refl

theorem execQuarantineEnd_ok : ∀ x0 s, OkO [.net, .reg .NET_MAL] s (@execQuarantineEnd x0 s) := by
  intro x0 s
  delta execQuarantineEnd
  refine OkO.next ?_
  refine Ok.via (quarantineEnd_ok ..) rfl ?_
  exact Ok.refl

theorem execContextIdleTimeout_ok : ∀ x0 x1 x2 s, OkO [.mgs, .net, .reg .MGS_SECBUF, .reg .NET_SESS] s (@execContextIdleTimeout x0 x1 x2 s) := by
  intro x0 x1 x2 s
  delta execContextIdleTimeout
  refine OkO.next ?_
  refine Ok.via (contextIdle_ok ..) rfl ?_
  exact Ok.refl

theorem execRxDiscard_ok : ∀ x0 s, OkO [.mgs, .reg .GCTL_RUNSTAT, .reg .NET_CNT] s (@execRxDiscard x0 s) := by
  intro x0 s
  delta execRxDiscard
  refine OkO.next ?_
  refine Ok.via (rxDiscard_ok ..) rfl ?_
  exact Ok.refl

theorem execBusOff_ok : ∀ x0 s, OkO [.trioQ, .emcyQ, .logQ, .logWin, .power, .mgs, .net, .reg .EV_ACT, .reg .EV_PEND, .reg .MGS_LOGSTAT, .reg .MGS_SECBUF, .reg .NET_CNT, .reg .NET_NODE, .reg .NET_SESS, .reg .NET_STAT] s (@execBusOff x0 s) := by
  intro x0 s
  delta execBusOff
  refine OkO.next ?_
  refine Ok.via (busOff_ok ..) rfl ?_
  exact Ok.refl

theorem execBusOffRecovery_ok : ∀ x0 s, OkO [.net, .reg .NET_CNT, .reg .NET_STAT] s (@execBusOffRecovery x0 s) := by
  intro x0 s
  delta execBusOffRecovery
  refine OkO.next ?_
  refine Ok.via (busOffRecovery_ok ..) rfl ?_
  exact Ok.refl

theorem execErrorPassive_ok : ∀ x0 s, OkO [.trioQ, .emcyQ, .logQ, .logWin, .power, .reg .EV_ACT, .reg .EV_PEND, .reg .MGS_LOGSTAT, .reg .NET_STAT] s (@execErrorPassive x0 s) := by
  intro x0 s
  delta execErrorPassive
  refine OkO.next ?_
  refine Ok.via (errorPassive_ok ..) rfl ?_
  exact Ok.refl

theorem execErrorActive_ok : ∀ x0 s, OkO [.reg .EV_ACT, .reg .NET_STAT] s (@execErrorActive x0 s) := by
  intro x0 s
  delta execErrorActive
  refine OkO.next ?_
  refine Ok.via (errorActive_ok ..) rfl ?_
  exact Ok.refl

theorem execBusIntegration_ok : ∀ x0 s, OkO [.reg .NET_STAT] s (@execBusIntegration x0 s) := by
  intro x0 s
  delta execBusIntegration
  refine OkO.next ?_
  refine Ok.via (busIntegration_ok ..) rfl ?_
  exact Ok.refl

theorem execControllerEnable_ok : ∀ x0 x1 s, OkO (.regs :: .snap :: .staged :: .bad :: .replies :: .guards :: .hostPair :: .trioPair :: .mgsPair :: .canPair :: .ticks :: .free :: .trioQ :: .emcyQ :: .logQ :: .logWin :: .legs :: .coils :: .coaches :: .trips :: .runs :: .axes :: .pl :: .power :: .syncOut :: .encs :: .stepLast :: .stepDir :: .sds :: .afe :: .trio :: .mgs :: .net :: .sph :: .spm :: .nvm :: []) s (@execControllerEnable x0 x1 s) := by
  intro x0 x1 s
  delta execControllerEnable
  refine OkO.next ?_
  refine Ok.via (regWrite_ok ..) rfl ?_
  exact Ok.refl

theorem execControllerDisable_ok : ∀ x0 x1 s, OkO (.regs :: .snap :: .staged :: .bad :: .replies :: .guards :: .hostPair :: .trioPair :: .mgsPair :: .canPair :: .ticks :: .free :: .trioQ :: .emcyQ :: .logQ :: .logWin :: .legs :: .coils :: .coaches :: .trips :: .runs :: .axes :: .pl :: .power :: .syncOut :: .encs :: .stepLast :: .stepDir :: .sds :: .afe :: .trio :: .mgs :: .net :: .sph :: .spm :: .nvm :: []) s (@execControllerDisable x0 x1 s) := by
  intro x0 x1 s
  delta execControllerDisable
  refine OkO.next ?_
  refine Ok.via (regWrite_ok ..) rfl ?_
  exact Ok.refl

theorem execControllerOff_ok : ∀ x0 s, OkO [.mgs, .net, .reg .EV_ACT, .reg .MGS_SECBUF, .reg .NET_CNT, .reg .NET_SESS, .reg .NET_STAT] s (@execControllerOff x0 s) := by
  intro x0 s
  delta execControllerOff
  refine OkO.next ?_
  refine Ok.via (controllerIdle_ok ..) rfl ?_
  exact Ok.refl

theorem execStoreObjectWrite_ok : ∀ x0 x1 x2 x3 s, OkO (.regs :: .snap :: .staged :: .bad :: .replies :: .guards :: .hostPair :: .trioPair :: .mgsPair :: .canPair :: .ticks :: .free :: .trioQ :: .emcyQ :: .logQ :: .logWin :: .legs :: .coils :: .coaches :: .trips :: .runs :: .axes :: .pl :: .power :: .syncOut :: .encs :: .stepLast :: .stepDir :: .sds :: .afe :: .trio :: .mgs :: .net :: .sph :: .spm :: .nvm :: []) s (@execStoreObjectWrite x0 x1 x2 x3 s) := by
  intro x0 x1 x2 x3 s
  delta execStoreObjectWrite
  refine OkO.next ?_
  refine Ok.via (rxIn_ok ..) rfl ?_
  exact Ok.refl

theorem execRestoreObjectWrite_ok : ∀ x0 x1 x2 x3 s, OkO (.regs :: .snap :: .staged :: .bad :: .replies :: .guards :: .hostPair :: .trioPair :: .mgsPair :: .canPair :: .ticks :: .free :: .trioQ :: .emcyQ :: .logQ :: .logWin :: .legs :: .coils :: .coaches :: .trips :: .runs :: .axes :: .pl :: .power :: .syncOut :: .encs :: .stepLast :: .stepDir :: .sds :: .afe :: .trio :: .mgs :: .net :: .sph :: .spm :: .nvm :: []) s (@execRestoreObjectWrite x0 x1 x2 x3 s) := by
  intro x0 x1 x2 x3 s
  delta execRestoreObjectWrite
  refine OkO.next ?_
  refine Ok.via (rxIn_ok ..) rfl ?_
  exact Ok.refl

end Sys2Proof.Machine
end

