-- ==== Sys2Proof/Laws/OkPlan.lean ====
section
/-!
SUPPORT. Laws/OkPlan.lean: for each operation of Machine/Plan.lean, the parts of the state it can change, and that it keeps a
good state good.
-/

namespace Sys2Proof.Machine

set_option Elab.async false

theorem execLoad_ok : ∀ x0 x1 s, OkO (.regs :: .snap :: .staged :: .bad :: .replies :: .guards :: .hostPair :: .trioPair :: .mgsPair :: .canPair :: .ticks :: .free :: .trioQ :: .emcyQ :: .logQ :: .logWin :: .legs :: .coils :: .coaches :: .trips :: .runs :: .axes :: .pl :: .power :: .syncOut :: .encs :: .stepLast :: .stepDir :: .sds :: .afe :: .trio :: .mgs :: .net :: .sph :: .spm :: .nvm :: []) s (@execLoad x0 x1 s) := by
  intro x0 x1 s
  delta execLoad
  refine OkO.next ?_
  refine Ok.via (regWrite_ok ..) rfl ?_
  exact Ok.refl

theorem execSave_ok : ∀ x0 x1 s, OkO (.regs :: .snap :: .staged :: .bad :: .replies :: .guards :: .hostPair :: .trioPair :: .mgsPair :: .canPair :: .ticks :: .free :: .trioQ :: .emcyQ :: .logQ :: .logWin :: .legs :: .coils :: .coaches :: .trips :: .runs :: .axes :: .pl :: .power :: .syncOut :: .encs :: .stepLast :: .stepDir :: .sds :: .afe :: .trio :: .mgs :: .net :: .sph :: .spm :: .nvm :: []) s (@execSave x0 x1 s) := by
  intro x0 x1 s
  delta execSave
  refine OkO.next ?_
  refine Ok.via (regWrite_ok ..) rfl ?_
  exact Ok.refl

theorem execErase_ok : ∀ x0 x1 s, OkO (.regs :: .snap :: .staged :: .bad :: .replies :: .guards :: .hostPair :: .trioPair :: .mgsPair :: .canPair :: .ticks :: .free :: .trioQ :: .emcyQ :: .logQ :: .logWin :: .legs :: .coils :: .coaches :: .trips :: .runs :: .axes :: .pl :: .power :: .syncOut :: .encs :: .stepLast :: .stepDir :: .sds :: .afe :: .trio :: .mgs :: .net :: .sph :: .spm :: .nvm :: []) s (@execErase x0 x1 s) := by
  intro x0 x1 s
  delta execErase
  refine OkO.next ?_
  refine Ok.via (regWrite_ok ..) rfl ?_
  exact Ok.refl

theorem execLoadx_ok : ∀ x0 s, OkO (.regs :: .snap :: .staged :: .bad :: .replies :: .guards :: .hostPair :: .trioPair :: .mgsPair :: .canPair :: .ticks :: .free :: .trioQ :: .emcyQ :: .logQ :: .logWin :: .legs :: .coils :: .coaches :: .trips :: .runs :: .axes :: .pl :: .power :: .syncOut :: .encs :: .stepLast :: .stepDir :: .sds :: .afe :: .trio :: .mgs :: .net :: .sph :: .spm :: .nvm :: []) s (@execLoadx x0 s) := by
  intro x0 s
  delta execLoadx
  refine OkO.next ?_
  refine Ok.via (regWrite_ok ..) rfl ?_
  exact Ok.refl

theorem execPlan_ok : ∀ x0 s, OkO (.regs :: .snap :: .staged :: .bad :: .replies :: .guards :: .hostPair :: .trioPair :: .mgsPair :: .canPair :: .ticks :: .free :: .trioQ :: .emcyQ :: .logQ :: .logWin :: .legs :: .coils :: .coaches :: .trips :: .runs :: .axes :: .pl :: .power :: .syncOut :: .encs :: .stepLast :: .stepDir :: .sds :: .afe :: .trio :: .mgs :: .net :: .sph :: .spm :: .nvm :: []) s (@execPlan x0 s) := by
  intro x0 s
  delta execPlan
  refine OkO.next ?_
  refine Ok.via (regWrite_ok ..) rfl ?_
  exact Ok.refl

theorem execRun_ok : ∀ x0 s, OkO (.regs :: .snap :: .staged :: .bad :: .replies :: .guards :: .hostPair :: .trioPair :: .mgsPair :: .canPair :: .ticks :: .free :: .trioQ :: .emcyQ :: .logQ :: .logWin :: .legs :: .coils :: .coaches :: .trips :: .runs :: .axes :: .pl :: .power :: .syncOut :: .encs :: .stepLast :: .stepDir :: .sds :: .afe :: .trio :: .mgs :: .net :: .sph :: .spm :: .nvm :: []) s (@execRun x0 s) := by
  intro x0 s
  delta execRun
  refine OkO.next ?_
  refine Ok.via (regWrite_ok ..) rfl ?_
  exact Ok.refl

theorem execAbort_ok : ∀ x0 x1 s, OkO (.regs :: .snap :: .staged :: .bad :: .replies :: .guards :: .hostPair :: .trioPair :: .mgsPair :: .canPair :: .ticks :: .free :: .trioQ :: .emcyQ :: .logQ :: .logWin :: .legs :: .coils :: .coaches :: .trips :: .runs :: .axes :: .pl :: .power :: .syncOut :: .encs :: .stepLast :: .stepDir :: .sds :: .afe :: .trio :: .mgs :: .net :: .sph :: .spm :: .nvm :: []) s (@execAbort x0 x1 s) := by
  intro x0 x1 s
  delta execAbort
  refine OkO.next ?_
  refine Ok.via (regWrite_ok ..) rfl ?_
  exact Ok.refl

theorem execClear_ok : ∀ x0 s, OkO (.regs :: .snap :: .staged :: .bad :: .replies :: .guards :: .hostPair :: .trioPair :: .mgsPair :: .canPair :: .ticks :: .free :: .trioQ :: .emcyQ :: .logQ :: .logWin :: .legs :: .coils :: .coaches :: .trips :: .runs :: .axes :: .pl :: .power :: .syncOut :: .encs :: .stepLast :: .stepDir :: .sds :: .afe :: .trio :: .mgs :: .net :: .sph :: .spm :: .nvm :: []) s (@execClear x0 s) := by
  intro x0 s
  delta execClear
  refine OkO.next ?_
  refine Ok.via (regWrite_ok ..) rfl ?_
  exact Ok.refl

theorem execPlanComplete_ok : ∀ s, OkO [.pl, .reg .PL_ORD, .reg .PL_PRED, .reg .PL_RES_EEST, .reg .PL_RES_TEST, .reg .PL_STAT] s (@execPlanComplete s) := by
  intro s
  delta execPlanComplete
  refine OkO.next ?_
  refine Ok.via (planComplete_ok ..) rfl ?_
  exact Ok.refl

theorem execPlCommandEnd_ok : ∀ x0 x1 s, OkO [.trioQ, .emcyQ, .logQ, .logWin, .pl, .power, .recipes, .reg .EV_PEND, .reg .GCTL_BUSERR, .reg .GCTL_BUSERRADDR, .reg .GCTL_BUSERRCNT, .reg .MGS_LOGSTAT, .reg .PL_RCP0, .reg .PL_RCP1, .reg .PL_RCP2, .reg .PL_RCP3, .reg .PL_RCPHDR, .reg .PL_STAT] s (@execPlCommandEnd x0 x1 s) := by
  intro x0 x1 s
  delta execPlCommandEnd
  extract_lets +onlyGivenNames -merge -useContext s0
  clear_value s0
  refine OkO.next ?_
  refine Ok.ite ?_ ?_
  · refine Ok.via (plEnd_ok ..) rfl ?_
    refine Ok.via (loadxReads_ok ..) rfl ?_
    exact Ok.refl
  · refine Ok.via (plEnd_ok ..) rfl ?_
    exact Ok.refl

theorem execPlanStart_ok : ∀ s, OkO (.staged :: .free :: .trioQ :: .emcyQ :: .logQ :: .logWin :: .pl :: .sds :: .afe :: .reg .AFE_CFGA :: .reg .AFE_CFGB :: .reg .AFE_CFGC :: .reg .AFE_IEXC :: .reg .AFE_RREF :: .reg .AFE_STAT :: .reg .AFE_TDAC :: .reg .AFE_VEXC :: .reg .EV_PEND :: .reg .MGS_LOGSTAT :: .reg .PL_ENERGY_HI :: .reg .PL_ENERGY_LO :: .reg .PL_MAKESPAN :: .reg .PL_RES :: .reg .PL_RES_EACT :: .reg .PL_RES_END :: .reg .PL_RES_START :: .reg .PL_STAT :: .reg .SD_AVG :: .reg .SD_CAL_GAIN :: .reg .SD_CAL_OFS :: .reg .SD_CFG :: .reg .SD_CNT :: .reg .SD_DIRECT :: .reg .SD_LINDATA :: .reg .SD_SEQ0 :: .reg .SD_SEQ1 :: .reg .SD_SEQCTL :: .reg .SD_STAT :: []) s (@execPlanStart s) := by
  intro s
  delta execPlanStart
  refine OkO.next ?_
  refine Ok.ite ?_ ?_
  · refine Ok.via (plannerTrigger_ok ..) rfl ?_
    refine Ok.via (planBegin_ok ..) rfl ?_
    exact Ok.refl
  · exact Ok.refl

theorem execAdmissionBlocked_ok : ∀ x0 s, OkO [.trioQ, .emcyQ, .logQ, .logWin, .pl, .reg .EV_PEND, .reg .MGS_LOGSTAT, .reg .PL_EVINFO] s (@execAdmissionBlocked x0 s) := by
  intro x0 s
  delta execAdmissionBlocked
  refine OkO.next ?_
  refine Ok.via (admissionBlocked_ok ..) rfl ?_
  exact Ok.refl

theorem execRecipeBufferWrite_ok : ∀ x0 x1 x2 s, OkO (.regs :: .snap :: .staged :: .bad :: .replies :: .guards :: .hostPair :: .trioPair :: .mgsPair :: .canPair :: .ticks :: .free :: .trioQ :: .emcyQ :: .logQ :: .logWin :: .legs :: .coils :: .coaches :: .trips :: .runs :: .axes :: .pl :: .power :: .syncOut :: .encs :: .stepLast :: .stepDir :: .sds :: .afe :: .trio :: .mgs :: .net :: .sph :: .spm :: .nvm :: []) s (@execRecipeBufferWrite x0 x1 x2 s) := by
  intro x0 x1 x2 s
  delta execRecipeBufferWrite
  refine OkO.next ?_
  refine Ok.via (regWrite_ok ..) rfl ?_
  exact Ok.refl

theorem execPlOrdWrite_ok : ∀ x0 x1 x2 s, OkO (.regs :: .snap :: .staged :: .bad :: .replies :: .guards :: .hostPair :: .trioPair :: .mgsPair :: .canPair :: .ticks :: .free :: .trioQ :: .emcyQ :: .logQ :: .logWin :: .legs :: .coils :: .coaches :: .trips :: .runs :: .axes :: .pl :: .power :: .syncOut :: .encs :: .stepLast :: .stepDir :: .sds :: .afe :: .trio :: .mgs :: .net :: .sph :: .spm :: .nvm :: []) s (@execPlOrdWrite x0 x1 x2 s) := by
  intro x0 x1 x2 s
  delta execPlOrdWrite
  refine OkO.next ?_
  refine Ok.via (regWrite_ok ..) rfl ?_
  exact Ok.refl

end Sys2Proof.Machine
end

