-- ==== Sys2Proof/Laws/OkPower.lean ====
section
/-!
SUPPORT. Laws/OkPower.lean: for each operation of Machine/Power.lean, the parts of the state it can change, and that it keeps a
good state good.
-/

namespace Sys2Proof.Machine

set_option Elab.async false

theorem execCoachOnRequest_ok : ∀ x0 x1 s, OkO (.regs :: .snap :: .staged :: .bad :: .replies :: .guards :: .hostPair :: .trioPair :: .mgsPair :: .canPair :: .ticks :: .free :: .trioQ :: .emcyQ :: .logQ :: .logWin :: .legs :: .coils :: .coaches :: .trips :: .runs :: .axes :: .pl :: .power :: .syncOut :: .encs :: .stepLast :: .stepDir :: .sds :: .afe :: .trio :: .mgs :: .net :: .sph :: .spm :: .nvm :: []) s (@execCoachOnRequest x0 x1 s) := by
  intro x0 x1 s
  delta execCoachOnRequest
  refine OkO.next ?_
  refine Ok.via (guardedWrite_ok ..) rfl ?_
  exact Ok.refl

theorem execCoachOnComplete_ok : ∀ x0 s, OkO [.regs, .trioQ, .emcyQ, .logQ, .logWin, .legs, .coaches] s (@execCoachOnComplete x0 s) := by
  intro x0 s
  delta execCoachOnComplete
  refine OkO.next ?_
  refine Ok.via (coachOnDone_ok ..) rfl ?_
  exact Ok.refl

theorem execCoachOnTimeout_ok : ∀ x0 s, OkO (.replies :: .trioQ :: .emcyQ :: .logQ :: .logWin :: .legs :: .coils :: .coaches :: .power :: .net :: .reg .CO_LINKSTAT :: .reg .EV_ACT :: .reg .EV_PEND :: .reg .GCTL_BUSERR :: .reg .GCTL_BUSERRADDR :: .reg .GCTL_BUSERRCNT :: .reg .GCTL_PWRDOM :: .reg .GCTL_PWRSTAT :: .reg .LEG_TEST :: .reg .MGS_LOGSTAT :: .reg .RK_FLTSTAT :: []) s (@execCoachOnTimeout x0 s) := by
  intro x0 s
  delta execCoachOnTimeout
  refine OkO.next ?_
  refine Ok.via (coachOnFail_ok ..) rfl ?_
  exact Ok.refl

theorem execCoachOffRequest_ok : ∀ x0 x1 s, OkO (.regs :: .snap :: .staged :: .bad :: .replies :: .guards :: .hostPair :: .trioPair :: .mgsPair :: .canPair :: .ticks :: .free :: .trioQ :: .emcyQ :: .logQ :: .logWin :: .legs :: .coils :: .coaches :: .trips :: .runs :: .axes :: .pl :: .power :: .syncOut :: .encs :: .stepLast :: .stepDir :: .sds :: .afe :: .trio :: .mgs :: .net :: .sph :: .spm :: .nvm :: []) s (@execCoachOffRequest x0 x1 s) := by
  intro x0 x1 s
  delta execCoachOffRequest
  refine OkO.next ?_
  refine Ok.via (guardedWrite_ok ..) rfl ?_
  exact Ok.refl

theorem execCoachForcedOff_ok : ∀ x0 x1 s, OkO (.regs :: .snap :: .staged :: .bad :: .replies :: .guards :: .hostPair :: .trioPair :: .mgsPair :: .canPair :: .ticks :: .free :: .trioQ :: .emcyQ :: .logQ :: .logWin :: .legs :: .coils :: .coaches :: .trips :: .runs :: .axes :: .pl :: .power :: .syncOut :: .encs :: .stepLast :: .stepDir :: .sds :: .afe :: .trio :: .mgs :: .net :: .sph :: .spm :: .nvm :: []) s (@execCoachForcedOff x0 x1 s) := by
  intro x0 x1 s
  delta execCoachForcedOff
  refine OkO.next ?_
  refine Ok.via (guardedWrite_ok ..) rfl ?_
  exact Ok.refl

theorem execForcedOffTimeout_ok : ∀ x0 s, OkO [.axes] s (@execForcedOffTimeout x0 s) := by
  intro x0 s
  delta execForcedOffTimeout
  refine OkO.next ?_
  refine Ok.via (forcedTimeout_ok ..) rfl ?_
  exact Ok.refl

theorem execAfeOff_ok : ∀ x0 s, OkO (.regs :: .snap :: .staged :: .bad :: .replies :: .guards :: .hostPair :: .trioPair :: .mgsPair :: .canPair :: .ticks :: .free :: .trioQ :: .emcyQ :: .logQ :: .logWin :: .legs :: .coils :: .coaches :: .trips :: .runs :: .axes :: .pl :: .power :: .syncOut :: .encs :: .stepLast :: .stepDir :: .sds :: .afe :: .trio :: .mgs :: .net :: .sph :: .spm :: .nvm :: []) s (@execAfeOff x0 s) := by
  intro x0 s
  delta execAfeOff
  refine OkO.next ?_
  refine Ok.via (guardedWrite_ok ..) rfl ?_
  exact Ok.refl

theorem execAfeOn_ok : ∀ x0 s, OkO (.regs :: .snap :: .staged :: .bad :: .replies :: .guards :: .hostPair :: .trioPair :: .mgsPair :: .canPair :: .ticks :: .free :: .trioQ :: .emcyQ :: .logQ :: .logWin :: .legs :: .coils :: .coaches :: .trips :: .runs :: .axes :: .pl :: .power :: .syncOut :: .encs :: .stepLast :: .stepDir :: .sds :: .afe :: .trio :: .mgs :: .net :: .sph :: .spm :: .nvm :: []) s (@execAfeOn x0 s) := by
  intro x0 s
  delta execAfeOn
  refine OkO.next ?_
  refine Ok.via (guardedWrite_ok ..) rfl ?_
  exact Ok.refl

theorem execSoftwareReset_ok : ∀ x0 s, OkO (.regs :: .snap :: .staged :: .bad :: .replies :: .guards :: .hostPair :: .trioPair :: .mgsPair :: .canPair :: .ticks :: .free :: .trioQ :: .emcyQ :: .logQ :: .logWin :: .legs :: .coils :: .coaches :: .trips :: .runs :: .axes :: .pl :: .power :: .syncOut :: .encs :: .stepLast :: .stepDir :: .sds :: .afe :: .trio :: .mgs :: .net :: .sph :: .spm :: .nvm :: []) s (@execSoftwareReset x0 s) := by
  intro x0 s
  delta execSoftwareReset
  refine OkO.next ?_
  refine Ok.via (guardedWrite_ok ..) rfl ?_
  exact Ok.refl

theorem execReqRun_ok : ∀ x0 s, OkO (.regs :: .snap :: .staged :: .bad :: .replies :: .guards :: .hostPair :: .trioPair :: .mgsPair :: .canPair :: .ticks :: .free :: .trioQ :: .emcyQ :: .logQ :: .logWin :: .legs :: .coils :: .coaches :: .trips :: .runs :: .axes :: .pl :: .power :: .syncOut :: .encs :: .stepLast :: .stepDir :: .sds :: .afe :: .trio :: .mgs :: .net :: .sph :: .spm :: .nvm :: []) s (@execReqRun x0 s) := by
  intro x0 s
  delta execReqRun
  refine OkO.next ?_
  refine Ok.via (regWrite_ok ..) rfl ?_
  exact Ok.refl

theorem execReqDoze_ok : ∀ x0 s, OkO (.regs :: .snap :: .staged :: .bad :: .replies :: .guards :: .hostPair :: .trioPair :: .mgsPair :: .canPair :: .ticks :: .free :: .trioQ :: .emcyQ :: .logQ :: .logWin :: .legs :: .coils :: .coaches :: .trips :: .runs :: .axes :: .pl :: .power :: .syncOut :: .encs :: .stepLast :: .stepDir :: .sds :: .afe :: .trio :: .mgs :: .net :: .sph :: .spm :: .nvm :: []) s (@execReqDoze x0 s) := by
  intro x0 s
  delta execReqDoze
  refine OkO.next ?_
  refine Ok.via (regWrite_ok ..) rfl ?_
  exact Ok.refl

theorem execReqNap_ok : ∀ x0 s, OkO (.regs :: .snap :: .staged :: .bad :: .replies :: .guards :: .hostPair :: .trioPair :: .mgsPair :: .canPair :: .ticks :: .free :: .trioQ :: .emcyQ :: .logQ :: .logWin :: .legs :: .coils :: .coaches :: .trips :: .runs :: .axes :: .pl :: .power :: .syncOut :: .encs :: .stepLast :: .stepDir :: .sds :: .afe :: .trio :: .mgs :: .net :: .sph :: .spm :: .nvm :: []) s (@execReqNap x0 s) := by
  intro x0 s
  delta execReqNap
  refine OkO.next ?_
  refine Ok.via (regWrite_ok ..) rfl ?_
  exact Ok.refl

theorem execReqHibernate_ok : ∀ x0 s, OkO (.regs :: .snap :: .staged :: .bad :: .replies :: .guards :: .hostPair :: .trioPair :: .mgsPair :: .canPair :: .ticks :: .free :: .trioQ :: .emcyQ :: .logQ :: .logWin :: .legs :: .coils :: .coaches :: .trips :: .runs :: .axes :: .pl :: .power :: .syncOut :: .encs :: .stepLast :: .stepDir :: .sds :: .afe :: .trio :: .mgs :: .net :: .sph :: .spm :: .nvm :: []) s (@execReqHibernate x0 s) := by
  intro x0 s
  delta execReqHibernate
  refine OkO.next ?_
  refine Ok.via (regWrite_ok ..) rfl ?_
  exact Ok.refl

theorem execAutodozeEntry_ok : ∀ s, OkO [.reg .GCTL_RUNSTAT] s (@execAutodozeEntry s) := by
  intro s
  delta execAutodozeEntry
  refine OkO.next ?_
  refine Ok.via (autodoze_ok ..) rfl ?_
  exact Ok.refl

theorem execDozeWake_ok : ∀ x0 s, OkO [.mgs, .reg .GCTL_RUNSTAT] s (@execDozeWake x0 s) := by
  intro x0 s
  delta execDozeWake
  refine OkO.next ?_
  refine Ok.ite ?_ ?_
  · split
    · refine Ok.via (dozeEnd_ok ..) rfl ?_
      exact Ok.refl
    · refine Ok.via (dozeEnd_ok ..) rfl ?_
      refine Ok.via (noteWake_ok ..) rfl ?_
      exact Ok.refl
  · exact Ok.refl

theorem execNapWake_ok : ∀ x0 x1 s, OkO [.trioQ, .emcyQ, .logQ, .logWin, .coaches, .axes, .power, .trio, .mgs, .reg .EV_PEND, .reg .EV_PIN, .reg .GCTL_CLKSTAT, .reg .GCTL_PWRDOM, .reg .GCTL_PWRSTAT, .reg .GCTL_RUNSTAT, .reg .MGS_LOGSTAT, .reg .RK_STAT, .reg .TRIO_STAT] s (@execNapWake x0 x1 s) := by
  intro x0 x1 s
  delta execNapWake
  refine OkO.next ?_
  refine Ok.ite ?_ ?_
  · refine Ok.via (napEnd_ok ..) rfl ?_
    exact Ok.refl
  · exact Ok.refl

theorem execHibernateWake_ok : ∀ x0 s, OkO (.regs :: .snap :: .staged :: .bad :: .replies :: .guards :: .hostPair :: .trioPair :: .mgsPair :: .canPair :: .ticks :: .trioQ :: .emcyQ :: .logQ :: .logWin :: .legs :: .coils :: .coaches :: .trips :: .runs :: .axes :: .pl :: .power :: .syncOut :: .encs :: .stepLast :: .stepDir :: .sds :: .afe :: .trio :: .mgs :: .net :: .sph :: .spm :: .nvm :: []) s (@execHibernateWake x0 s) := by
  intro x0 s
  delta execHibernateWake
  refine OkO.next ?_
  refine Ok.ite ?_ ?_
  · refine Ok.via (enterReset_ok ..) rfl ?_
    refine Ok.via (noteWake_ok ..) rfl ?_
    refine Ok.via (rtcCount_ok ..) rfl ?_
    exact Ok.refl
  · exact Ok.refl

theorem execClockFailure_ok : ∀ x0 s, OkO (.regs :: .snap :: .staged :: .bad :: .replies :: .guards :: .hostPair :: .trioPair :: .mgsPair :: .canPair :: .ticks :: .trioQ :: .emcyQ :: .logQ :: .logWin :: .legs :: .coils :: .coaches :: .trips :: .runs :: .axes :: .pl :: .power :: .syncOut :: .encs :: .stepLast :: .stepDir :: .sds :: .afe :: .trio :: .mgs :: .net :: .sph :: .spm :: .nvm :: []) s (@execClockFailure x0 s) := by
  intro x0 s
  delta execClockFailure
  refine OkO.next ?_
  refine Ok.ite ?_ ?_
  · refine Ok.via (enterReset_ok ..) rfl ?_
    exact Ok.refl
  · exact Ok.refl

theorem execOscillatorRestart_ok : ∀ s, OkO [] s (@execOscillatorRestart s) := by
  intro s
  delta execOscillatorRestart
  refine OkO.next ?_
  exact Ok.refl

theorem execClockRecovery_ok : ∀ s, OkO [.power, .reg .GCTL_CLKSTAT] s (@execClockRecovery s) := by
  intro s
  delta execClockRecovery
  refine OkO.next ?_
  refine Ok.ite ?_ ?_
  · refine Ok.via (State.put_at (at_GCTL_CLKSTAT)) rfl ?_
    refine Ok.via (State.modPower_ok ..) rfl ?_
    exact Ok.refl
  · exact Ok.refl

theorem execCrystalChangeover_ok : ∀ s, OkO [.reg .GCTL_CLKSTAT] s (@execCrystalChangeover s) := by
  intro s
  delta execCrystalChangeover
  refine OkO.next ?_
  refine Ok.via (State.put_at (at_GCTL_CLKSTAT)) rfl ?_
  exact Ok.refl

theorem execCrystalStop_ok : ∀ s, OkO [.reg .GCTL_CLKSTAT] s (@execCrystalStop s) := by
  intro s
  delta execCrystalStop
  refine OkO.next ?_
  refine Ok.ite ?_ ?_
  · refine Ok.via (State.put_at (at_GCTL_CLKSTAT)) rfl ?_
    refine Ok.via (State.put_at (at_GCTL_CLKSTAT)) rfl ?_
    exact Ok.refl
  · exact Ok.refl

theorem execRtcWriteCommit_ok : ∀ s, OkO [.power, .reg .GCTL_RTC_HI, .reg .GCTL_RTC_LO] s (@execRtcWriteCommit s) := by
  intro s
  delta execRtcWriteCommit
  refine OkO.next ?_
  refine Ok.via (rtcCommit_ok ..) rfl ?_
  exact Ok.refl

theorem rtcAtAlarm_ok : ∀ s, Ok [.reg .GCTL_RTC_HI, .reg .GCTL_RTC_LO] s (@rtcAtAlarm s) := by
  intro s
  delta rtcAtAlarm
  extract_lets +onlyGivenNames -merge -useContext s0
  clear_value s0
  refine Ok.ite ?_ ?_
  · refine Ok.via (rtcCount_ok ..) rfl ?_
    exact Ok.refl
  · exact Ok.refl

theorem execRtcAlarm_ok : ∀ s, OkO [.power, .reg .GCTL_RTC_HI, .reg .GCTL_RTC_LO] s (@execRtcAlarm s) := by
  intro s
  delta execRtcAlarm
  extract_lets +onlyGivenNames -merge -useContext s0
  refine OkO.withS (x := s0) ?_ fun h1 => ?_
  · unfold s0
    refine Ok.via (rtcAtAlarm_ok ..) rfl ?_
    exact Ok.refl
  clear_value s0
  refine OkO.next ?_
  refine Ok.ite ?_ ?_
  · refine Ok.via (State.modPower_ok ..) rfl ?_
    exact h1
  · exact h1

theorem execPowerOnReset_ok : ∀ s, OkO (.regs :: .snap :: .staged :: .bad :: .replies :: .guards :: .hostPair :: .trioPair :: .mgsPair :: .canPair :: .ticks :: .trioQ :: .emcyQ :: .logQ :: .logWin :: .legs :: .coils :: .coaches :: .trips :: .runs :: .axes :: .pl :: .power :: .syncOut :: .encs :: .stepLast :: .stepDir :: .sds :: .afe :: .trio :: .mgs :: .net :: .sph :: .spm :: .nvm :: []) s (@execPowerOnReset s) := by
  intro s
  delta execPowerOnReset
  refine OkO.next ?_
  refine Ok.via (enterReset_ok ..) rfl ?_
  exact Ok.refl

theorem execResetPin_ok : ∀ s, OkO (.regs :: .snap :: .staged :: .bad :: .replies :: .guards :: .hostPair :: .trioPair :: .mgsPair :: .canPair :: .ticks :: .trioQ :: .emcyQ :: .logQ :: .logWin :: .legs :: .coils :: .coaches :: .trips :: .runs :: .axes :: .pl :: .power :: .syncOut :: .encs :: .stepLast :: .stepDir :: .sds :: .afe :: .trio :: .mgs :: .net :: .sph :: .spm :: .nvm :: []) s (@execResetPin s) := by
  intro s
  delta execResetPin
  refine OkO.next ?_
  refine Ok.via (enterReset_ok ..) rfl ?_
  exact Ok.refl

theorem execPwrgoodLow_ok : ∀ s, OkO (.regs :: .snap :: .staged :: .bad :: .replies :: .guards :: .hostPair :: .trioPair :: .mgsPair :: .canPair :: .ticks :: .trioQ :: .emcyQ :: .logQ :: .logWin :: .legs :: .coils :: .coaches :: .trips :: .runs :: .axes :: .pl :: .power :: .syncOut :: .encs :: .stepLast :: .stepDir :: .sds :: .afe :: .trio :: .mgs :: .net :: .sph :: .spm :: .nvm :: []) s (@execPwrgoodLow s) := by
  intro s
  delta execPwrgoodLow
  refine OkO.next ?_
  refine Ok.ite ?_ ?_
  · exact Ok.refl
  · refine Ok.via (enterReset_ok ..) rfl ?_
    exact Ok.refl

theorem execBrownOut_ok : ∀ s, OkO (.regs :: .snap :: .staged :: .bad :: .replies :: .guards :: .hostPair :: .trioPair :: .mgsPair :: .canPair :: .ticks :: .trioQ :: .emcyQ :: .logQ :: .logWin :: .legs :: .coils :: .coaches :: .trips :: .runs :: .axes :: .pl :: .power :: .syncOut :: .encs :: .stepLast :: .stepDir :: .sds :: .afe :: .trio :: .mgs :: .net :: .sph :: .spm :: .nvm :: []) s (@execBrownOut s) := by
  intro s
  delta execBrownOut
  refine OkO.next ?_
  refine Ok.via (enterReset_ok ..) rfl ?_
  exact Ok.refl

theorem execResetSequenceStart_ok : ∀ x0 x1 s, OkO (.regs :: .snap :: .staged :: .bad :: .replies :: .guards :: .hostPair :: .trioPair :: .mgsPair :: .canPair :: .ticks :: .trioQ :: .emcyQ :: .logQ :: .logWin :: .legs :: .coils :: .coaches :: .trips :: .runs :: .axes :: .pl :: .power :: .syncOut :: .encs :: .stepLast :: .stepDir :: .sds :: .afe :: .trio :: .mgs :: .net :: .sph :: .spm :: .nvm :: []) s (@execResetSequenceStart x0 x1 s) := by
  intro x0 x1 s
  delta execResetSequenceStart
  refine OkO.next ?_
  refine Ok.via (resetStart_ok ..) rfl ?_
  refine Ok.ite ?_ ?_
  · refine Ok.via (rtcCount_ok ..) rfl ?_
    refine Ok.via (State.modPower_ok ..) rfl ?_
    exact Ok.refl
  · exact Ok.refl

theorem execResetSequenceEnd_ok : ∀ s, OkO [.regs, .snap, .logQ, .axes, .power, .afe, .mgs, .net] s (@execResetSequenceEnd s) := by
  intro s
  delta execResetSequenceEnd
  refine OkO.next ?_
  refine Ok.via (resetEnd_ok ..) rfl ?_
  refine Ok.ite ?_ ?_
  · refine Ok.via (rtcCount_ok ..) rfl ?_
    exact Ok.refl
  · exact Ok.refl

theorem execBootUp_ok : ∀ s, OkO [.net, .reg .NET_CNT, .reg .NET_NODE] s (@execBootUp s) := by
  intro s
  delta execBootUp
  refine OkO.next ?_
  refine Ok.via (bootUp_ok ..) rfl ?_
  exact Ok.refl

end Sys2Proof.Machine
end

