-- ==== Sys2Proof/Laws/OkTick.lean ====
section
/-!
SUPPORT. Laws/OkTick.lean: for each operation of Machine/Tick.lean, the parts of the state it can change, and that it keeps a
good state good.
-/

namespace Sys2Proof.Machine

set_option Elab.async false

theorem tickInputs_ok : ∀ x0 s, Ok [.power, .reg .AFE_STAT, .reg .GCTL_RTC_HI, .reg .GCTL_RTC_LO, .reg .NET_STAT] s (@tickInputs x0 s) := by
  intro x0 s
  delta tickInputs
  extract_lets +onlyGivenNames -merge -useContext s0
  refine Ok.withS (x := s0) ?_ fun h1 => ?_
  · unfold s0
    refine Ok.via (rtcCount_ok ..) rfl ?_
    exact Ok.refl
  clear_value s0
  extract_lets +onlyGivenNames -merge -useContext s2
  refine Ok.withS (x := s2) ?_ fun h3 => ?_
  · unfold s2
    refine Ok.via (State.modPower_ok ..) rfl ?_
    exact h1
  clear_value s2
  extract_lets +onlyGivenNames -merge -useContext s4
  refine Ok.withS (x := s4) ?_ fun h5 => ?_
  · unfold s4
    refine Ok.via (State.putB_at (at_AFE_STAT)) rfl ?_
    refine Ok.via (State.put_at (at_AFE_STAT)) rfl ?_
    exact h3
  clear_value s4
  refine Ok.via (canCounters_ok ..) rfl ?_
  refine Ok.via (canCounters_ok ..) rfl ?_
  exact h5

theorem tickBuses_ok : ∀ x0 s, Ok [.staged, .net, .reg .NET_DBT, .reg .NET_GUARD, .reg .NET_HBACT, .reg .NET_NBT, .reg .NET_NODE] s (@tickBuses x0 s) := by
  intro x0 s
  delta tickBuses
  extract_lets +onlyGivenNames -merge -useContext s0
  refine Ok.withS (x := s0) ?_ fun h3 => ?_
  · unfold s0
    refine Ok.applyIf ?_ ?_
    · intro a2
      refine Ok.via (txSent_ok ..) rfl ?_
      exact Ok.refl
    · refine Ok.applyIf ?_ ?_
      · intro a1
        refine Ok.via (txSent_ok ..) rfl ?_
        exact Ok.refl
      · exact Ok.refl
  clear_value s0
  extract_lets +onlyGivenNames -merge -useContext s4
  refine Ok.withS (x := s4) ?_ fun h5 => ?_
  · unfold s4
    refine Ok.via (State.modCan_ok ..) rfl ?_
    refine Ok.via (State.modCan_ok ..) rfl ?_
    exact h3
  clear_value s4
  extract_lets +onlyGivenNames -merge -useContext s6
  clear_value s6
  extract_lets +onlyGivenNames -merge -useContext s7
  clear_value s7
  extract_lets +onlyGivenNames -merge -useContext s8
  refine Ok.withS (x := s8) ?_ fun h11 => ?_
  · unfold s8
    refine Ok.applyIf ?_ ?_
    · intro a10
      refine Ok.via (landFrame_ok ..) rfl ?_
      exact Ok.refl
    · refine Ok.applyIf ?_ ?_
      · intro a9
        refine Ok.via (landFrame_ok ..) rfl ?_
        exact Ok.refl
      · exact h5
  clear_value s8
  refine Ok.applyIf ?_ ?_
  · intro a12
    refine Ok.via (landFrame_ok ..) rfl ?_
    exact Ok.refl
  · exact h11

theorem safeTick_ok : ∀ s, Ok [.axes, .pl, .trio] s (@safeTick s) := by
  intro s
  delta safeTick
  refine Ok.ite ?_ ?_
  · extract_lets +onlyGivenNames -merge -useContext s0
    refine Ok.withS (x := s0) ?_ fun h1 => ?_
    · unfold s0
      refine Ok.via (State.modTrio_ok ?_) rfl ?_
      · exact fun _ h => ⟨h.1, h.2.1, h.2.2.1, h.2.2.2.1, h.2.2.2.2⟩
      exact Ok.refl
    clear_value s0
    extract_lets +onlyGivenNames -merge -useContext s2
    refine Ok.withS (x := s2) ?_ fun h4 => ?_
    · unfold s2
      refine Ok.applyIf ?_ ?_
      · intro a3
        refine Ok.via (State.modPl_ok ..) rfl ?_
        exact Ok.refl
      · exact h1
    clear_value s2
    refine Ok.forEach ?_ ?_
    · intro a5 a6
      refine Ok.ite ?_ ?_
      · refine Ok.via (State.modMo_ok ..) rfl ?_
        exact Ok.refl
      · exact Ok.refl
    · exact h4
  · exact Ok.refl

theorem safeParks_ok : ∀ s, Ok [.axes] s (@safeParks s) := by
  intro s
  delta safeParks
  refine Ok.ite ?_ ?_
  · refine Ok.forEach ?_ ?_
    · intro a0 a1
      refine Ok.ite ?_ ?_
      · refine Ok.via (State.modMo_ok ..) rfl ?_
        exact Ok.refl
      · exact Ok.refl
    · exact Ok.refl
  · exact Ok.refl

theorem tickFeedback_ok : ∀ s, Ok [.free, .trioQ, .emcyQ, .logQ, .logWin, .encs, .reg .CMP_CFG, .reg .CMP_CNTS, .reg .CMP_COUNT, .reg .CMP_POS, .reg .CMP_STAT, .reg .ENC_SPD, .reg .EV_PEND, .reg .MGS_LOGSTAT] s (@tickFeedback s) := by
  intro s
  delta tickFeedback
  refine Ok.forEach ?_ ?_
  · intro a0 a1
    refine Ok.via (speedDecay_ok ..) rfl ?_
    refine Ok.via (cmpTick_ok ..) rfl ?_
    exact Ok.refl
  · exact Ok.refl

theorem tickWave_ok : ∀ s, Ok (.trioQ :: .emcyQ :: .logQ :: .logWin :: .coaches :: .axes :: .pl :: .reg .AXALERT :: .reg .AXEN :: .reg .AX_ACC :: .reg .AX_EPFS :: .reg .AX_FLTCNT :: .reg .AX_FLTSTAT :: .reg .AX_HOMEST :: .reg .AX_MOVEEN :: .reg .AX_SSTAT :: .reg .AX_STALLST :: .reg .AX_STAT :: .reg .AX_USTAT :: .reg .AX_VEL :: .reg .EV_PEND :: .reg .MGS_LOGSTAT :: .reg .PL_ENERGY_HI :: .reg .PL_ENERGY_LO :: .reg .PL_EVINFO :: .reg .PL_MAKESPAN :: .reg .PL_RES :: .reg .PL_RES_EACT :: .reg .PL_RES_END :: .reg .PL_STAT :: []) s (@tickWave s) := by
  intro s
  delta tickWave
  refine Ok.ite ?_ ?_
  · exact Ok.refl
  · extract_lets +onlyGivenNames -merge -useContext s0
    clear_value s0
    refine Ok.forEach ?_ ?_
    · intro a1 a2
      refine Ok.ite ?_ ?_
      · refine Ok.via (axisParity_ok ..) rfl ?_
        exact Ok.refl
      · exact Ok.refl
    · exact Ok.refl

theorem tickHaltN_ok : ∀ s, Ok [.axes, .power] s (@tickHaltN s) := by
  intro s
  delta tickHaltN
  refine Ok.ite ?_ ?_
  · refine Ok.forEach ?_ ?_
    · intro a0 a1
      refine Ok.ite ?_ ?_
      · refine Ok.via (State.modMo_ok ..) rfl ?_
        exact Ok.refl
      · exact Ok.refl
    · refine Ok.via (State.modPower_ok ..) rfl ?_
      exact Ok.refl
  · exact Ok.refl

theorem tickAxes_ok : ∀ s, Ok [.regs, .staged, .free, .trioQ, .emcyQ, .logQ, .logWin, .coaches, .axes, .pl, .syncOut, .encs] s (@tickAxes s) := by
  intro s
  delta tickAxes
  extract_lets +onlyGivenNames -merge -useContext s0
  refine Ok.withS (x := s0) ?_ fun h1 => ?_
  · unfold s0
    refine Ok.via (abortTick_ok ..) rfl ?_
    exact Ok.refl
  clear_value s0
  extract_lets +onlyGivenNames -merge -useContext s2
  refine Ok.withS (x := s2) ?_ fun h5 => ?_
  · unfold s2
    refine Ok.forEach ?_ ?_
    · intro a3 a4
      refine Ok.via (axisActions_ok ..) rfl ?_
      refine Ok.via (axisCommands_ok ..) rfl ?_
      exact Ok.refl
    · exact h1
  clear_value s2
  extract_lets +onlyGivenNames -merge -useContext s6
  refine Ok.withS (x := s6) ?_ fun h9 => ?_
  · unfold s6
    refine Ok.via (tickWave_ok ..) rfl ?_
    refine Ok.forEach ?_ ?_
    · intro a7 a8
      refine Ok.via (axisTick_ok ..) rfl ?_
      exact Ok.refl
    · exact h5
  clear_value s6
  refine Ok.via (gateTick_ok ..) rfl ?_
  refine Ok.via (tickFeedback_ok ..) rfl ?_
  exact h9

theorem tickTrigger_ok : ∀ x0 s, Ok (.staged :: .free :: .trioQ :: .emcyQ :: .logQ :: .logWin :: .sds :: .afe :: .reg .AFE_CFGA :: .reg .AFE_CFGB :: .reg .AFE_CFGC :: .reg .AFE_IEXC :: .reg .AFE_RREF :: .reg .AFE_STAT :: .reg .AFE_TDAC :: .reg .AFE_VEXC :: .reg .EV_PEND :: .reg .MGS_LOGSTAT :: .reg .SD_AVG :: .reg .SD_CAL_GAIN :: .reg .SD_CAL_OFS :: .reg .SD_CFG :: .reg .SD_CNT :: .reg .SD_DIRECT :: .reg .SD_LINDATA :: .reg .SD_SEQ0 :: .reg .SD_SEQ1 :: .reg .SD_SEQCTL :: .reg .SD_STAT :: []) s (@tickTrigger x0 s) := by
  intro x0 s
  delta tickTrigger
  refine Ok.ite ?_ ?_
  · refine Ok.via (plannerTrigger_ok ..) rfl ?_
    exact Ok.refl
  · exact Ok.refl

theorem notePositions_ok : ∀ s, Ok [.axes] s (@notePositions s) := by
  intro s
  delta notePositions
  refine Ok.forEach ?_ ?_
  · intro a0 a1
    refine Ok.via (State.modMo_ok ..) rfl ?_
    exact Ok.refl
  · exact Ok.refl

theorem tickRest_ok : ∀ s, Ok (.regs :: .snap :: .staged :: .bad :: .replies :: .guards :: .hostPair :: .trioPair :: .mgsPair :: .canPair :: .ticks :: .free :: .trioQ :: .emcyQ :: .logQ :: .logWin :: .legs :: .coils :: .coaches :: .trips :: .runs :: .axes :: .pl :: .power :: .syncOut :: .encs :: .stepLast :: .stepDir :: .sds :: .afe :: .trio :: .mgs :: .net :: .sph :: .spm :: .nvm :: []) s (@tickRest s) := by
  intro s
  delta tickRest
  extract_lets +onlyGivenNames -merge -useContext s0
  refine Ok.withS (x := s0) ?_ fun h1 => ?_
  · unfold s0
    refine Ok.via (tpdoTick_ok ..) rfl ?_
    refine Ok.via (tickSnap_ok ..) rfl ?_
    refine Ok.via (notePositions_ok ..) rfl ?_
    exact Ok.refl
  clear_value s0
  extract_lets +onlyGivenNames -merge -useContext s2
  refine Ok.withS (x := s2) ?_ fun h5 => ?_
  · unfold s2
    refine Ok.forEach ?_ ?_
    · intro a3 a4
      refine Ok.via (forcedTick_ok ..) rfl ?_
      exact Ok.refl
    · refine Ok.via (safeParks_ok ..) rfl ?_
      exact h1
  clear_value s2
  refine Ok.via (hostPoll_ok ..) rfl ?_
  refine Ok.via (netSweep_ok ..) rfl ?_
  refine Ok.via (sleepStep_ok ..) rfl ?_
  exact h5

theorem profileTick_ok : ∀ x0 s, Ok (.regs :: .snap :: .staged :: .bad :: .replies :: .guards :: .hostPair :: .trioPair :: .mgsPair :: .canPair :: .ticks :: .free :: .trioQ :: .emcyQ :: .logQ :: .logWin :: .legs :: .coils :: .coaches :: .trips :: .runs :: .axes :: .pl :: .power :: .syncOut :: .encs :: .stepLast :: .stepDir :: .sds :: .afe :: .trio :: .mgs :: .net :: .sph :: .spm :: .nvm :: []) s (@profileTick x0 s) := by
  intro x0 s
  delta profileTick
  refine Ok.ite ?_ ?_
  · exact Ok.refl
  · extract_lets +onlyGivenNames -merge -useContext s0
    refine Ok.withS (x := s0) ?_ fun h1 => ?_
    · unfold s0
      refine Ok.via (tickInputs_ok ..) rfl ?_
      refine Ok.via Ok.ticks rfl ?_
      exact Ok.refl
    clear_value s0
    extract_lets +onlyGivenNames -merge -useContext s2
    refine Ok.withS (x := s2) ?_ fun h3 => ?_
    · unfold s2
      refine Ok.via (safeTick_ok ..) rfl ?_
      refine Ok.via (errorReset_ok ..) rfl ?_
      refine Ok.via (tickBuses_ok ..) rfl ?_
      exact h1
    clear_value s2
    extract_lets +onlyGivenNames -merge -useContext s4
    refine Ok.withS (x := s4) ?_ fun h5 => ?_
    · unfold s4
      refine Ok.via (tickHaltN_ok ..) rfl ?_
      refine Ok.via (storeTake_ok ..) rfl ?_
      refine Ok.via (landAxis_ok ..) rfl ?_
      refine Ok.via (lossActions_ok ..) rfl ?_
      exact h3
    clear_value s4
    extract_lets +onlyGivenNames -merge -useContext s6
    clear_value s6
    refine Ok.via (tickRest_ok ..) rfl ?_
    refine Ok.via (tickTrigger_ok ..) rfl ?_
    refine Ok.via (tickAxes_ok ..) rfl ?_
    exact h5

end Sys2Proof.Machine
end

