-- ==== Sys2Proof/Laws/OkSerialPorts.lean ====
section
/-!
SUPPORT. Laws/OkSerialPorts.lean: for each operation of Machine/SerialPorts.lean, the parts of the state it can change, and that it keeps a
good state good.
-/

namespace Sys2Proof.Machine

set_option Elab.async false

theorem execHostFrameStart_ok : ∀ x0 x1 s, OkO (.regs :: .snap :: .staged :: .bad :: .replies :: .guards :: .hostPair :: .trioPair :: .mgsPair :: .canPair :: .ticks :: .free :: .trioQ :: .emcyQ :: .logQ :: .logWin :: .legs :: .coils :: .coaches :: .trips :: .runs :: .axes :: .pl :: .power :: .syncOut :: .encs :: .stepLast :: .stepDir :: .sds :: .afe :: .trio :: .mgs :: .net :: .sph :: .spm :: .nvm :: []) s (@execHostFrameStart x0 x1 s) := by
  intro x0 x1 s
  delta execHostFrameStart
  refine OkO.next ?_
  refine Ok.via (frameStart_ok ..) rfl ?_
  exact Ok.refl

theorem execHostRead_ok : ∀ s, OkO (.regs :: .snap :: .staged :: .bad :: .replies :: .guards :: .hostPair :: .trioPair :: .mgsPair :: .canPair :: .ticks :: .free :: .trioQ :: .emcyQ :: .logQ :: .logWin :: .legs :: .coils :: .coaches :: .trips :: .runs :: .axes :: .pl :: .power :: .syncOut :: .encs :: .stepLast :: .stepDir :: .sds :: .afe :: .trio :: .mgs :: .net :: .sph :: .spm :: .nvm :: []) s (@execHostRead s) := by
  intro s
  delta execHostRead
  refine OkO.next ?_
  refine Ok.via (hostReadSlot_ok ..) rfl ?_
  exact Ok.refl

theorem execHostReadFixed_ok : ∀ s, OkO (.regs :: .snap :: .staged :: .bad :: .replies :: .guards :: .hostPair :: .trioPair :: .mgsPair :: .canPair :: .ticks :: .free :: .trioQ :: .emcyQ :: .logQ :: .logWin :: .legs :: .coils :: .coaches :: .trips :: .runs :: .axes :: .pl :: .power :: .syncOut :: .encs :: .stepLast :: .stepDir :: .sds :: .afe :: .trio :: .mgs :: .net :: .sph :: .spm :: .nvm :: []) s (@execHostReadFixed s) := by
  intro s
  delta execHostReadFixed
  refine OkO.next ?_
  refine Ok.via (hostReadSlot_ok ..) rfl ?_
  exact Ok.refl

theorem execHostWrite_ok : ∀ x0 x1 s, OkO (.regs :: .snap :: .staged :: .bad :: .replies :: .guards :: .hostPair :: .trioPair :: .mgsPair :: .canPair :: .ticks :: .free :: .trioQ :: .emcyQ :: .logQ :: .logWin :: .legs :: .coils :: .coaches :: .trips :: .runs :: .axes :: .pl :: .power :: .syncOut :: .encs :: .stepLast :: .stepDir :: .sds :: .afe :: .trio :: .mgs :: .net :: .sph :: .spm :: .nvm :: []) s (@execHostWrite x0 x1 s) := by
  intro x0 x1 s
  delta execHostWrite
  refine OkO.next ?_
  refine Ok.via (hostWriteSlot_ok ..) rfl ?_
  exact Ok.refl

theorem execHostWriteFixed_ok : ∀ x0 x1 s, OkO (.regs :: .snap :: .staged :: .bad :: .replies :: .guards :: .hostPair :: .trioPair :: .mgsPair :: .canPair :: .ticks :: .free :: .trioQ :: .emcyQ :: .logQ :: .logWin :: .legs :: .coils :: .coaches :: .trips :: .runs :: .axes :: .pl :: .power :: .syncOut :: .encs :: .stepLast :: .stepDir :: .sds :: .afe :: .trio :: .mgs :: .net :: .sph :: .spm :: .nvm :: []) s (@execHostWriteFixed x0 x1 s) := by
  intro x0 x1 s
  delta execHostWriteFixed
  refine OkO.next ?_
  refine Ok.via (hostWriteSlot_ok ..) rfl ?_
  exact Ok.refl

theorem execHostStatus_ok : ∀ s, OkO (.regs :: .snap :: .staged :: .bad :: .replies :: .guards :: .hostPair :: .trioPair :: .mgsPair :: .canPair :: .ticks :: .free :: .trioQ :: .emcyQ :: .logQ :: .logWin :: .legs :: .coils :: .coaches :: .trips :: .runs :: .axes :: .pl :: .power :: .syncOut :: .encs :: .stepLast :: .stepDir :: .sds :: .afe :: .trio :: .mgs :: .net :: .sph :: .spm :: .nvm :: []) s (@execHostStatus s) := by
  intro s
  delta execHostStatus
  refine OkO.next ?_
  refine Ok.via (hostStatusSlot_ok ..) rfl ?_
  exact Ok.refl

theorem execHostBusyLimit_ok : ∀ s, OkO (.regs :: .snap :: .staged :: .bad :: .replies :: .guards :: .hostPair :: .trioPair :: .mgsPair :: .canPair :: .ticks :: .free :: .trioQ :: .emcyQ :: .logQ :: .logWin :: .legs :: .coils :: .coaches :: .trips :: .runs :: .axes :: .pl :: .power :: .syncOut :: .encs :: .stepLast :: .stepDir :: .sds :: .afe :: .trio :: .mgs :: .net :: .sph :: .spm :: .nvm :: []) s (@execHostBusyLimit s) := by
  intro s
  delta execHostBusyLimit
  refine OkO.next ?_
  refine Ok.via (hostBusyLimit_ok ..) rfl ?_
  exact Ok.refl

theorem execHostFrameEnd_ok : ∀ x0 s, OkO (.regs :: .snap :: .staged :: .bad :: .replies :: .guards :: .hostPair :: .trioPair :: .mgsPair :: .canPair :: .ticks :: .free :: .trioQ :: .emcyQ :: .logQ :: .logWin :: .legs :: .coils :: .coaches :: .trips :: .runs :: .axes :: .pl :: .power :: .syncOut :: .encs :: .stepLast :: .stepDir :: .sds :: .afe :: .trio :: .mgs :: .net :: .sph :: .spm :: .nvm :: []) s (@execHostFrameEnd x0 s) := by
  intro x0 s
  delta execHostFrameEnd
  refine OkO.next ?_
  refine Ok.via (frameEnd_ok ..) rfl ?_
  exact Ok.refl

theorem execXipRead_ok : ∀ x0 x1 s, OkO (.regs :: .staged :: .replies :: .hostPair :: .trioPair :: .mgsPair :: .canPair :: .free :: .trioQ :: .emcyQ :: .logQ :: .logWin :: .legs :: .coils :: .coaches :: .axes :: .pl :: .power :: .sds :: .afe :: .trio :: .mgs :: .spm :: []) s (@execXipRead x0 x1 s) := by
  intro x0 x1 s
  delta execXipRead
  refine OkO.next ?_
  refine Ok.via (busRead_ok ..) rfl ?_
  exact Ok.refl

theorem execLineFetchComplete_ok : ∀ x0 s, OkO (.regs :: .snap :: .staged :: .bad :: .replies :: .guards :: .hostPair :: .trioPair :: .mgsPair :: .canPair :: .ticks :: .free :: .trioQ :: .emcyQ :: .logQ :: .logWin :: .legs :: .coils :: .coaches :: .trips :: .runs :: .axes :: .pl :: .power :: .syncOut :: .encs :: .stepLast :: .stepDir :: .sds :: .afe :: .trio :: .mgs :: .net :: .sph :: .spm :: .nvm :: []) s (@execLineFetchComplete x0 s) := by
  intro x0 s
  delta execLineFetchComplete
  refine OkO.next ?_
  refine Ok.via (hostPoll_ok ..) rfl ?_
  refine Ok.via (fetchComplete_ok ..) rfl ?_
  exact Ok.refl

theorem execSpmGo_ok : ∀ x0 x1 s, OkO (.regs :: .snap :: .staged :: .bad :: .replies :: .guards :: .hostPair :: .trioPair :: .mgsPair :: .canPair :: .ticks :: .free :: .trioQ :: .emcyQ :: .logQ :: .logWin :: .legs :: .coils :: .coaches :: .trips :: .runs :: .axes :: .pl :: .power :: .syncOut :: .encs :: .stepLast :: .stepDir :: .sds :: .afe :: .trio :: .mgs :: .net :: .sph :: .spm :: .nvm :: []) s (@execSpmGo x0 x1 s) := by
  intro x0 x1 s
  delta execSpmGo
  refine OkO.next ?_
  refine Ok.via (regWrite_ok ..) rfl ?_
  exact Ok.refl

theorem execSpmStatusPoll_ok : ∀ x0 s, OkO [.spm] s (@execSpmStatusPoll x0 s) := by
  intro x0 s
  delta execSpmStatusPoll
  refine OkO.next ?_
  refine Ok.via (statusPoll_ok ..) rfl ?_
  exact Ok.refl

theorem execSpmTransactionEnd_ok : ∀ x0 x1 s, OkO [.staged, .spm, .reg .SPM_CFG, .reg .SPM_CLK, .reg .SPM_SFDP, .reg .SPM_STAT, .reg .SPM_XOFS] s (@execSpmTransactionEnd x0 x1 s) := by
  intro x0 x1 s
  delta execSpmTransactionEnd
  refine OkO.next ?_
  refine Ok.via (transactionEnd_ok ..) rfl ?_
  exact Ok.refl

theorem execSpmWaitTimeout_ok : ∀ s, OkO [.staged, .trioQ, .emcyQ, .logQ, .logWin, .power, .spm, .reg .EV_PEND, .reg .MGS_LOGSTAT, .reg .SPM_CFG, .reg .SPM_CLK, .reg .SPM_STAT, .reg .SPM_XOFS] s (@execSpmWaitTimeout s) := by
  intro s
  delta execSpmWaitTimeout
  refine OkO.next ?_
  refine Ok.via (waitTimeout_ok ..) rfl ?_
  exact Ok.refl

theorem execProbe_ok : ∀ x0 s, OkO (.regs :: .snap :: .staged :: .bad :: .replies :: .guards :: .hostPair :: .trioPair :: .mgsPair :: .canPair :: .ticks :: .free :: .trioQ :: .emcyQ :: .logQ :: .logWin :: .legs :: .coils :: .coaches :: .trips :: .runs :: .axes :: .pl :: .power :: .syncOut :: .encs :: .stepLast :: .stepDir :: .sds :: .afe :: .trio :: .mgs :: .net :: .sph :: .spm :: .nvm :: []) s (@execProbe x0 s) := by
  intro x0 s
  delta execProbe
  refine OkO.next ?_
  refine Ok.via (regWrite_ok ..) rfl ?_
  exact Ok.refl

theorem execSpmInv_ok : ∀ x0 s, OkO (.regs :: .snap :: .staged :: .bad :: .replies :: .guards :: .hostPair :: .trioPair :: .mgsPair :: .canPair :: .ticks :: .free :: .trioQ :: .emcyQ :: .logQ :: .logWin :: .legs :: .coils :: .coaches :: .trips :: .runs :: .axes :: .pl :: .power :: .syncOut :: .encs :: .stepLast :: .stepDir :: .sds :: .afe :: .trio :: .mgs :: .net :: .sph :: .spm :: .nvm :: []) s (@execSpmInv x0 s) := by
  intro x0 s
  delta execSpmInv
  refine OkO.next ?_
  refine Ok.via (regWrite_ok ..) rfl ?_
  exact Ok.refl

theorem execFlush_ok : ∀ x0 s, OkO (.regs :: .snap :: .staged :: .bad :: .replies :: .guards :: .hostPair :: .trioPair :: .mgsPair :: .canPair :: .ticks :: .free :: .trioQ :: .emcyQ :: .logQ :: .logWin :: .legs :: .coils :: .coaches :: .trips :: .runs :: .axes :: .pl :: .power :: .syncOut :: .encs :: .stepLast :: .stepDir :: .sds :: .afe :: .trio :: .mgs :: .net :: .sph :: .spm :: .nvm :: []) s (@execFlush x0 s) := by
  intro x0 s
  delta execFlush
  refine OkO.next ?_
  refine Ok.via (regWrite_ok ..) rfl ?_
  exact Ok.refl

theorem execTxfifoPush_ok : ∀ x0 x1 s, OkO (.regs :: .snap :: .staged :: .bad :: .replies :: .guards :: .hostPair :: .trioPair :: .mgsPair :: .canPair :: .ticks :: .free :: .trioQ :: .emcyQ :: .logQ :: .logWin :: .legs :: .coils :: .coaches :: .trips :: .runs :: .axes :: .pl :: .power :: .syncOut :: .encs :: .stepLast :: .stepDir :: .sds :: .afe :: .trio :: .mgs :: .net :: .sph :: .spm :: .nvm :: []) s (@execTxfifoPush x0 x1 s) := by
  intro x0 x1 s
  delta execTxfifoPush
  refine OkO.next ?_
  refine Ok.via (regWrite_ok ..) rfl ?_
  exact Ok.refl

theorem execRxfifoPop_ok : ∀ x0 s, OkO (.regs :: .staged :: .replies :: .hostPair :: .trioPair :: .mgsPair :: .canPair :: .free :: .trioQ :: .emcyQ :: .logQ :: .logWin :: .legs :: .coils :: .coaches :: .axes :: .pl :: .power :: .sds :: .afe :: .trio :: .mgs :: .spm :: []) s (@execRxfifoPop x0 s) := by
  intro x0 s
  delta execRxfifoPop
  refine OkO.next ?_
  refine Ok.via (busRead_ok ..) rfl ?_
  exact Ok.refl

end Sys2Proof.Machine
end

