-- ==== Sys2Proof/Laws/OkTrioCmds.lean ====
section
/-!
SUPPORT. Laws/OkTrioCmds.lean: for each operation of Machine/TrioCmds.lean, the parts of the state it can change, and that it keeps a
good state good.
-/

namespace Sys2Proof.Machine

set_option Elab.async false

theorem execSignatureWindowEnd_ok : ∀ x0 x1 x2 x3 x4 x5 s, OkO [.staged, .free, .logQ, .trio, .reg .MGS_LOGSTAT, .reg .TRIO_CFG, .reg .TRIO_INDIS, .reg .TRIO_MM, .reg .TRIO_STAT] s (@execSignatureWindowEnd x0 x1 x2 x3 x4 x5 s) := by
  intro x0 x1 x2 x3 x4 x5 s
  delta execSignatureWindowEnd
  refine OkO.next ?_
  refine Ok.via (signatureEnd_ok ..) rfl ?_
  exact Ok.refl

theorem execQuietStateScrub_ok : ∀ x0 x1 x2 s, OkO (.regs :: .snap :: .staged :: .bad :: .replies :: .guards :: .hostPair :: .trioPair :: .mgsPair :: .canPair :: .ticks :: .free :: .trioQ :: .emcyQ :: .logQ :: .logWin :: .legs :: .coils :: .coaches :: .trips :: .runs :: .axes :: .pl :: .power :: .syncOut :: .encs :: .stepLast :: .stepDir :: .sds :: .afe :: .trio :: .mgs :: .net :: .sph :: .spm :: .nvm :: []) s (@execQuietStateScrub x0 x1 x2 s) := by
  intro x0 x1 x2 s
  delta execQuietStateScrub
  refine OkO.next ?_
  refine Ok.via (resumeNet_ok ..) rfl ?_
  refine Ok.via (quietScrub_ok ..) rfl ?_
  exact Ok.refl

theorem execComparatorSelfTest_ok : ∀ x0 x1 s, OkO [.trioQ, .emcyQ, .logQ, .logWin, .trio, .reg .EV_PEND, .reg .MGS_LOGSTAT, .reg .TRIO_STAT, .reg .TRIO_STEST] s (@execComparatorSelfTest x0 x1 s) := by
  intro x0 x1 s
  delta execComparatorSelfTest
  refine OkO.next ?_
  refine Ok.via (selfTest_ok ..) rfl ?_
  exact Ok.refl

theorem execDelayParityError_ok : ∀ x0 s, OkO [.logQ, .trio, .reg .MGS_LOGSTAT, .reg .TRIO_CNT, .reg .TRIO_MM, .reg .TRIO_STAT] s (@execDelayParityError x0 s) := by
  intro x0 s
  delta execDelayParityError
  refine OkO.next ?_
  refine Ok.via (delayParity_ok ..) rfl ?_
  exact Ok.refl

theorem execCacheParityError_ok : ∀ x0 s, OkO [.logQ, .trio, .reg .MGS_LOGSTAT, .reg .TRIO_MM, .reg .TRIO_STAT] s (@execCacheParityError x0 s) := by
  intro x0 s
  delta execCacheParityError
  refine OkO.next ?_
  refine Ok.via (cacheParity_ok ..) rfl ?_
  exact Ok.refl

theorem execSramDoubleBitError_ok : ∀ s, OkO [.logQ, .trio, .reg .MGS_LOGSTAT, .reg .TRIO_STAT] s (@execSramDoubleBitError s) := by
  intro s
  delta execSramDoubleBitError
  refine OkO.next ?_
  refine Ok.via (sramDouble_ok ..) rfl ?_
  exact Ok.refl

theorem execSramScrub_ok : ∀ x0 s, OkO [.reg .TRIO_SRAM] s (@execSramScrub x0 s) := by
  intro x0 s
  delta execSramScrub
  refine OkO.next ?_
  refine Ok.via (sramScrub_ok ..) rfl ?_
  exact Ok.refl

theorem execResyncHoldDone_ok : ∀ s, OkO [.trio] s (@execResyncHoldDone s) := by
  intro s
  delta execResyncHoldDone
  refine OkO.next ?_
  refine Ok.via (resyncHold_ok ..) rfl ?_
  exact Ok.refl

theorem execResyncBoundary_ok : ∀ s, OkO [.trio] s (@execResyncBoundary s) := by
  intro s
  delta execResyncBoundary
  refine OkO.next ?_
  refine Ok.via (resyncBoundary_ok ..) rfl ?_
  exact Ok.refl

theorem execResyncComplete_ok : ∀ s, OkO [.trioQ, .emcyQ, .logQ, .logWin, .trio, .reg .EV_PEND, .reg .MGS_LOGSTAT, .reg .TRIO_CNT, .reg .TRIO_STAT] s (@execResyncComplete s) := by
  intro s
  delta execResyncComplete
  refine OkO.next ?_
  refine Ok.via (resyncComplete_ok ..) rfl ?_
  exact Ok.refl

theorem execResyncTimeout_ok : ∀ s, OkO [.logQ, .trio, .reg .MGS_LOGSTAT, .reg .TRIO_STAT] s (@execResyncTimeout s) := by
  intro s
  delta execResyncTimeout
  refine OkO.next ?_
  refine Ok.via (resyncTimeout_ok ..) rfl ?_
  exact Ok.refl

theorem execComparatorFault_ok : ∀ s, OkO [.trioQ, .emcyQ, .logQ, .logWin, .trio, .reg .EV_PEND, .reg .MGS_LOGSTAT, .reg .TRIO_STAT] s (@execComparatorFault s) := by
  intro s
  delta execComparatorFault
  refine OkO.next ?_
  refine Ok.via (comparatorFault_ok ..) rfl ?_
  exact Ok.refl

theorem execVoterDisagreement_ok : ∀ s, OkO [.free, .logQ, .trio, .reg .MGS_LOGSTAT, .reg .TRIO_MM, .reg .TRIO_STAT] s (@execVoterDisagreement s) := by
  intro s
  delta execVoterDisagreement
  refine OkO.next ?_
  refine Ok.via (voterDisagreement_ok ..) rfl ?_
  exact Ok.refl

theorem debugRequest_ok {W' : List Part} {x0} {s : State} (hk : ∀ u, Ok W' u (x0 u)) :
    Ok ([.trioQ, .emcyQ, .logQ, .logWin, .mgs, .reg .EV_PEND, .reg .MGS_ALSTAT, .reg .MGS_LOGSTAT, .reg .MGS_PROV] ++ W') s (@debugRequest x0 s) := by
  delta debugRequest
  refine Ok.ite ?_ ?_
  · exact Ok.refl
  · refine Ok.ite ?_ ?_
    · refine Ok.via (hk ..) within_right ?_
      exact Ok.refl
    · refine Ok.via (alarm_ok ..) (within_left rfl) ?_
      refine Ok.via (setActive_ok ..) (within_left rfl) ?_
      exact Ok.refl

theorem execDebugHalt_ok : ∀ s, OkO [.trioQ, .emcyQ, .logQ, .logWin, .trio, .mgs, .reg .EV_PEND, .reg .MGS_ALSTAT, .reg .MGS_LOGSTAT, .reg .MGS_PROV, .reg .TRIO_STAT] s (@execDebugHalt s) := by
  intro s
  delta execDebugHalt
  refine OkO.next ?_
  refine Ok.via (debugRequest_ok (W' := [.trio, .reg .TRIO_STAT]) ?_) rfl ?_
  · intro a0
    refine Ok.via (debugHalt_ok ..) rfl ?_
    exact Ok.refl
  exact Ok.refl

theorem execDebugResume_ok : ∀ x0 x1 x2 x3 s, OkO (.regs :: .snap :: .staged :: .bad :: .replies :: .guards :: .hostPair :: .trioPair :: .mgsPair :: .canPair :: .ticks :: .free :: .trioQ :: .emcyQ :: .logQ :: .logWin :: .legs :: .coils :: .coaches :: .trips :: .runs :: .axes :: .pl :: .power :: .syncOut :: .encs :: .stepLast :: .stepDir :: .sds :: .afe :: .trio :: .mgs :: .net :: .sph :: .spm :: .nvm :: []) s (@execDebugResume x0 x1 x2 x3 s) := by
  intro x0 x1 x2 x3 s
  delta execDebugResume
  refine OkO.next ?_
  refine Ok.via (resumeNet_ok ..) rfl ?_
  refine Ok.via (debugRequest_ok (W' := [.free, .trioQ, .emcyQ, .logQ, .logWin, .trio, .mgs, .reg .EV_PEND, .reg .MGS_LOGSTAT, .reg .TRIO_CNT, .reg .TRIO_MM, .reg .TRIO_STAT]) ?_) rfl ?_
  · intro a0
    refine Ok.via (debugResume_ok ..) rfl ?_
    exact Ok.refl
  exact Ok.refl

theorem execDebugRegisterWrite_ok : ∀ x0 x1 s, OkO [.trioQ, .emcyQ, .logQ, .logWin, .trio, .mgs, .reg .EV_PEND, .reg .MGS_ALSTAT, .reg .MGS_LOGSTAT, .reg .MGS_PROV] s (@execDebugRegisterWrite x0 x1 s) := by
  intro x0 x1 s
  delta execDebugRegisterWrite
  refine OkO.next ?_
  refine Ok.via (debugRequest_ok (W' := [.trio]) ?_) rfl ?_
  · intro a0
    refine Ok.via (debugRegister_ok ..) rfl ?_
    exact Ok.refl
  exact Ok.refl

theorem execDebugMemoryWrite_ok : ∀ x0 x1 s, OkO [.trioQ, .emcyQ, .logQ, .logWin, .trio, .mgs, .reg .EV_PEND, .reg .MGS_ALSTAT, .reg .MGS_LOGSTAT, .reg .MGS_PROV] s (@execDebugMemoryWrite x0 x1 s) := by
  intro x0 x1 s
  delta execDebugMemoryWrite
  refine OkO.next ?_
  refine Ok.via (debugRequest_ok (W' := [.trio]) ?_) rfl ?_
  · intro a0
    refine Ok.via (debugMemory_ok ..) rfl ?_
    exact Ok.refl
  exact Ok.refl

end Sys2Proof.Machine
end

