-- ==== Sys2Proof/WellFormed.lean ====
section
/-!
DEFINITION. WellFormed.lean: what the operands of a command must be for the environment to be able to send it. Operands whose
type already bounds them need nothing. A meaning answers on any operands; statements that need these bounds assume them.
-/

namespace Sys2Proof

/-- Whether an integer fits a signed field of a number of bits. -/
def fitsSigned (bits : Nat) (i : Int) : Bool := decide (-(2 ^ (bits - 1) : Nat) ≤ i) && decide (i < (2 ^ (bits - 1) : Nat))

/-- Whether a number fits a field of a number of bits. -/
def fits (bits n : Nat) : Bool := decide (n < 2 ^ bits)

/-- A motion-clock time within a PWM period, at most 10,000 counts, R133. -/
def fitsPeriod (t : Nat) : Bool := decide (t ≤ 10000)

/-- The sense currents of a gang: one, two or four legs, R106. -/
def gangOk (l : List Nat) : Bool := decide (l.length ≤ 4)

/-- Ends of on-times are those of gangs, within a period, R109. -/
def endsOk (l : List GangEnd) : Bool := l.all fun x => fitsPeriod x.onTime && gangOk x.cur

/-- Edge times are those of legs of the coach, R103. -/
def edgesOk (c : Nat) (l : List (Fin 512 × Bool × Nat)) : Bool := l.all fun e => e.1.val / 128 = c

/-- A measurement is eight temperatures of CO_TEMP's 13 signed bits, VM, four charge-pump differences and four flags, R114. -/
def CoachMeas.wf (m : CoachMeas) : Bool :=
  m.temps.length = 8 && m.vcp.length = 4 && fits 16 m.vm && fits 4 m.cpOk
    && m.temps.all fun t => match t with
      | none => true
      | some x => fitsSigned 13 x

/-- Charge records carry 24 signed bits, and a frame at most seven of them, R193. -/
def chargeOk (l : List (Fin 4 × Fin 16 × Int)) : Bool := decide (l.length ≤ 7) && l.all fun x => fitsSigned 24 x.2.2

/-- Bytes of a USDO request fit its CAN FD frame, R327. -/
def UsdoOp.wf : UsdoOp → Bool
  | .upload _ _ => true
  | .download _ _ b _ => decide (b.length ≤ 64)
  | .segment b _ => decide (b.length ≤ 64)
  | .blockSegment _ b _ => decide (b.length ≤ 64)
  | .next _ => true
  | .outOfSequence => true
  | .blockDownload _ _ => true
  | .blockEnd => true
  | .blockUpload _ _ _ => true
  | .blockStart => true
  | .blockAck _ _ => true
  | .blockDone => true
  | .abort _ => true

/-- Whether the operands of a command can occur. -/
def Instr.wf : Instr → Bool
  | .coachPeriodStart c x => edgesOk c x.edges && endsOk x.gangs
  | .cfgFrame _ rx => endsOk rx.gangs
  | .ctlKill _ rx => endsOk rx.gangs
  | .ctlRelease _ rx => endsOk rx.gangs
  | .coachWatchdogExpiry x => endsOk x.gangs
  | .overrideOntimeEnd x => endsOk x.gangs
  | .mixedDecaySwitch _ x => endsOk x.gangs
  | .fastDecayZeroGuard _ x => endsOk x.gangs
  | .bemfWindowAbandon _ x => endsOk x.gangs
  | .statFrame _ _ x => x.meas.all CoachMeas.wf
  | .snsFrame _ _ charge => chargeOk charge
  | .rankPeriodStart _ x => endsOk x.gangs
  | .overcurrentTrip _ _ _ time _ _ gang => fitsPeriod time && gangOk gang.cur && endsOk gang.gangs
  | .comparatorTrip _ _ time _ _ gang => fitsPeriod time && gangOk gang.cur && endsOk gang.gangs
  | .bemfWindowZero _ x tz => fits 14 tz && endsOk x.gangs
  | .conversionEnd _ code _ => fitsSigned 24 code
  | .leadConversionEnd _ code _ => fitsSigned 24 code
  | .rpdo _ _ bytes => decide (bytes.length ≤ 64)
  | .usdoRequest _ _ _ op => op.wf
  | .spmTransactionEnd rx _ => decide (rx.length ≤ 64)
  | .spmStatusPoll x => decide (x.rx.length ≤ 64)
  | .lineFetchComplete words => decide (words.length = 16)
  | .responseCheck _ resp => decide (resp.length = 8)
  | .monitorSample temp mv _ _ => fitsSigned 16 temp && decide (mv.length = 4) && mv.all (fits 16)
  | _ => true

end Sys2Proof
end

