-- ==== Sys2Proof/Tests/Slice0.lean ====
section
/-!
SUPPORT. Tests/Slice0.lean: well-formedness refuses what it should; the spec's worked examples; and for every obligation that
has hypotheses, states and operands that meet them, clause by clause in the order of its clauses.
-/

namespace Sys2Proof.Tests

open Sys2Proof Sys2Proof.Machine

set_option Elab.async false

/-! ### Helpers -/

/-- A state with some fields of its registers changed. -/
def withFields (l : List (Fld × Nat)) (s : State) : State := l.foldl (fun s x => s.put x.1 x.2) s

/-- The voter lets the access through, and it passes checks 1 to 3. -/
def passes (s : State) (m : Master) (addr : Nat) (write : Bool) : Bool :=
  !s.voterBlocks m && match accessCheck m .word addr write s with
  | .ok _ => true
  | .error _ => false

theorem mayWrite_iff (s : State) (m : Master) (addr : Nat) : s.mayWrite m addr ↔ passes s m addr true = true := by
  unfold State.mayWrite passes
  split <;> simp_all

theorem mayRead_iff (s : State) (m : Master) (addr : Nat) : s.mayRead m addr ↔ passes s m addr false = true := by
  unfold State.mayRead passes
  split <;> simp_all

theorem mayGuard_iff (s : State) (m : Master) (addr : Nat) : s.mayGuard m addr ↔
    passes s m addr true = true ∧ passes s m (addr + 4) true = true ∧ (s.guardAt addr).all (fun g => g.master = m) = true := by
  unfold State.mayGuard
  simp only [mayWrite_iff]
  cases s.guardAt addr <;> simp

/-! ### Well-formedness refuses -/

theorem smoke_edges : (Instr.coachPeriodStart 0 ⟨[(128, true, 7)], []⟩).wf = false
    ∧ (Instr.coachPeriodStart 1 ⟨[(128, true, 7)], []⟩).wf = true := by
  decide

/-- A measurement that passes every check. -/
def meas : CoachMeas := { temps := List.replicate 8 none, vm := 0, cpOk := 0, gregOk := true, vcp := [0, 0, 0, 0] }

theorem smoke_measurement :
    meas.wf = true ∧ ({ meas with temps := [] } : CoachMeas).wf = false ∧ ({ meas with vcp := [] } : CoachMeas).wf = false
      ∧ ({ meas with vm := 65536 } : CoachMeas).wf = false ∧ ({ meas with cpOk := 16 } : CoachMeas).wf = false
      ∧ ({ meas with temps := List.replicate 8 (some 4096) } : CoachMeas).wf = false
      ∧ (Instr.statFrame 0 true ⟨some { meas with vm := 65536 }, (0, 0)⟩).wf = false := by decide

theorem smoke_charge :
    (Instr.snsFrame 0 true (List.replicate 8 (0, 0, 0))).wf = false ∧ (Instr.snsFrame 0 true [(0, 0, 8388608)]).wf = false := by decide

theorem smoke_times :
    (Instr.overcurrentTrip 0 true true 10001 0 0 ⟨[], []⟩).wf = false ∧ (Instr.overcurrentTrip 0 true true 0 0 0 ⟨[1, 1, 1, 1, 1], []⟩).wf = false
      ∧ (Instr.comparatorTrip 0 0 10001 true 0 ⟨[], []⟩).wf = false ∧ (Instr.comparatorTrip 0 0 0 true 0 ⟨[1, 1, 1, 1, 1], []⟩).wf = false
      ∧ (Instr.bemfWindowZero 0 ⟨0, []⟩ 16384).wf = false := by decide

theorem smoke_codes :
    (Instr.conversionEnd 0 8388608 false).wf = false ∧ (Instr.conversionEnd 0 (-8388608) false).wf = true
      ∧ (Instr.leadConversionEnd 0 (-8388609) false).wf = false := by decide

theorem smoke_lengths :
    (Instr.rpdo 0 0 (List.replicate 65 0)).wf = false
      ∧ (Instr.usdoRequest 0 1 0 (.download 0 0 (List.replicate 65 0) true)).wf = false
      ∧ (Instr.usdoRequest 0 1 0 (.segment (List.replicate 65 0) true)).wf = false
      ∧ (Instr.spmTransactionEnd (List.replicate 65 0) none).wf = false ∧ (Instr.lineFetchComplete []).wf = false
      ∧ (Instr.responseCheck .host []).wf = false := by decide

theorem smoke_monitor :
    (Instr.monitorSample 32768 [0, 0, 0, 0] 0 0).wf = false ∧ (Instr.monitorSample 0 [0] 0 0).wf = false
      ∧ (Instr.monitorSample 0 [65536, 0, 0, 0] 0 0).wf = false := by decide

/-! ### The spec's worked examples -/

/-- 00_scope.md: leg 301 and axis slot 75. -/
theorem test_leg_301 :
    State.reset.legOwner 301 = (75, 1) ∧ axisRank 75 = 9 ∧ axisCoach 75 = 2 ∧ coachSide 2 = 1 ∧ LEG_CFG 301 = 0x24B40
      ∧ AX_CTL 75 = 0x19600 := by decide +kernel

/-- 07_current.md, after R139: THR at CS = 240 and CS = 84 of the crest. -/
theorem test_threshold : threshold 4095 240 = 963 ∧ threshold 4095 84 = 340 := by decide

/-- 18_spi.md: the CRC bytes of the guarded write frame. -/
theorem test_crc8 : crc8 [0x02, 0, 0, 0x40] = 0xEB ∧ crc8 [0, 0, 0, 0x41] = 0xC0 ∧ crc8 [0xFF, 0xFF, 0xFF, 0xBE] = 0x1E := by decide +kernel

/-- 04_registers.md: switching coach 2 on leaves V = 0x41 in GCTL_PWRDOM. -/
theorem test_coach_2_on :
    (match exec (.coachOnRequest .host 2) State.reset with
      | .next t => t.rd GCTL_PWRDOM
      | _ => 0) = 0x41 := by decide +kernel

/-- 04_registers.md: the host reads AX_POS_LO[5] of 0x00_FFFF_FFF0, and its shadow takes the high word. -/
theorem test_shadow :
    (match exec (.pairLoRead .host (BitVec.ofNat 24 (AX_POS_LO 5))) { State.reset with snap := [(AX_POS_LO 5, 0xFFFFFFF0)] } with
      | .next t => (t.reply .host, (t.port .host).shadow)
      | _ => (.none, none)) = (.data 0xFFFFFFF0, some (AX_POS_LO 5, 0)) := by decide +kernel

/-- 09_profiles.md: entry 20, 12,800 pu in 10,000 ticks; half-way 6,400 pu at 1.92 pu/tick, and the end exactly. -/
theorem test_segment :
    let g : SegRun := { dpos := 12800, dur := 10000 };
    segPV g 5000 = ⟨6400 * 2 ^ 24, 2111062325330⟩ ∧ segPV g 10000 = ⟨12800 * 2 ^ 24, 0⟩ := by decide +kernel

/-- 12_feedback.md: a late write of CMP_POS = 10,000 at the count 17,300, with SPACING 2,500 and COUNT 8. -/
theorem test_catch_up :
    let s := withFields [(ENC_CFG.EN 2, 1), (ENC_CNT.CNT 2, 17300), (CMP_CFG.ARM 2, 1), (CMP_CFG.CATCHUP 2, 1), (CMP_CFG.PW 2, 200),
      (CMP_SPACING.SPACING 2, 2500), (CMP_COUNT.COUNT 2, 8), (CMP_COUNT.LEFT 2, 8), (CMP_STAT.ARMED 2, 1)] State.reset;
    (match exec (.cmpPosWrite .host 2 10000) s with
      | .next t => (t.on (CMP_STAT.BEHIND 2), t.rd (CMP_POS 2), t.get (CMP_COUNT.LEFT 2), t.get (CMP_CNTS.SKIP 2))
      | _ => (false, 0, 0, 0)) = (true, 17500, 5, 2) := by decide +kernel

/-- 13_afe.md: the lead code 16,777 at REF = 1, gain 8 and 2,000 ohms gives LEAD = 500 milliohms. -/
theorem test_pt100_lead :
    leadMilli ((State.reset.wr AFE_RREF (f32OfRat 2000 1)).resistance 0x00100000 3 16777) = 500 := by decide +kernel

/-- 14_converters.md: a second TRIG_IN during an injected sequence is dropped: INJDROP = 1, event 100. -/
theorem test_dropped_trigger :
    let s := withFields [(SD_CFG.EN 1, 1), (SD_CFG.CLASS 1, 1), (SD_SEQCTL.TPIN 1, 1), (SD_STAT.ACTIVE 1, 1)]
      { State.reset with sds := [(1, { due := true, inj := some 0 })] };
    (match exec (.trigInEdge ⟨true, 0⟩) s with
      | .next t => (t.get (SD_CNT.INJDROP 1), t.evPending 100)
      | _ => (0, false)) = (1, true) := by decide +kernel

/-- 01_architecture.md, the check value of CRC-32C over "123456789", and a frame of 64 bytes that passes its check while one with a byte
changed does not (R13). -/
theorem test_crc32c : crc32c [0x31, 0x32, 0x33, 0x34, 0x35, 0x36, 0x37, 0x38, 0x39] = 0xE3069283 := by decide +kernel

theorem test_frame :
    let f := frameBytes .cmd 255 (cmdPayload [⟨2, 1, 2, 5, 0x123⟩] 300 2 1);
    f.length = 64 ∧ f.take 5 = [0x01, 0xFF, 0xB0, 0x51, 0x23] ∧ (f.drop 50).take 2 = [44, 0x82] ∧ frameGood f = true
      ∧ frameGood (f.set 20 1) = false := by decide +kernel

/-- The functions that R366 and R374 name, on the published values of FIPS 180-4 ("abc") and of HMAC with SHA-256 ("Jefe"), and the CRC of
R284 on its check value over "123456789". -/
theorem test_sha256 : ofBeBytes (sha256 [0x61, 0x62, 0x63]) = 0xba7816bf8f01cfea414140de5dae2223b00361a396177a9cb410ff61f20015ad := by
  decide +kernel

theorem test_hmac :
    ofBeBytes (hmacSha256 [0x4a, 0x65, 0x66, 0x65] [0x77, 0x68, 0x61, 0x74, 0x20, 0x64, 0x6f, 0x20, 0x79, 0x61, 0x20, 0x77, 0x61, 0x6e, 0x74,
      0x20, 0x66, 0x6f, 0x72, 0x20, 0x6e, 0x6f, 0x74, 0x68, 0x69, 0x6e, 0x67, 0x3f])
      = 0x5bdcc146bf60754e6a042426089575c75a003f089d2739839dec58b964ec3843 := by decide +kernel

theorem test_crc64 : crc64 [0x31, 0x32, 0x33, 0x34, 0x35, 0x36, 0x37, 0x38, 0x39] = 0x6C40DF5F0B497347 := by decide +kernel

/-- 10_stall.md, R193: a back-EMF record of rank 1, position 2, period 3, sample -1, TZ = 1 and CLIP; its payload fills 58 bytes. -/
theorem test_sns_record :
    let p := snsPayload [.bemf 1 2 3 (-1) 1 false true];
    p.length = 58 ∧ p.take 10 = [1, 0, 0x14, 0x80, 0xFF, 0xFC, 0, 0x14, 0, 0] := by decide +kernel

/-- The table gives no row any bits, so no word spells a command. -/
theorem test_no_words : decodeTableWord 32 0 = none ∧ (State.reset.withFetchWord 32 0) = State.reset := ⟨rfl, rfl⟩

/-! ### States for the witnesses -/

/-- Every coach on with its coupling up, and axis 127 enabled. -/
def lit : State :=
  withFields ((GCTL_PWRSTAT.COACHON, 15) :: (GCTL_PWRDOM.COACH, 15) :: (AX_STAT.ENABLED 127, 1)
    :: (List.range 4).map fun c => (CO_LINKSTAT.UP c, 1)) State.reset

/-! ### Witnesses: access, stores, couplings, power -/

/-- The register at an address that has one. -/
def locAt (addr : Nat) : Loc := (locate addr).getD ⟨.AX, 0, entry_AX_VMAX, 0, false⟩

def modeLoc : Loc := locAt (AX_MODE 127)
def scratchLoc : Loc := locAt GCTL_SCRATCH

theorem witness_AccessCompletes :
    State.reset.mayWrite .host GCTL_SCRATCH ∧
    (State.reset.mayWrite .host (AX_VMAX 127) ∧ State.reset.locked = false ∧ 0x333333 ≤ 0x333333) ∧
    (State.reset.mayWrite .host (AX_TGT_LO 127) ∧ (State.reset.port .host).stage = none) ∧
    (∀ v : Int, v = posMax ∨ v = -posMax →
      let s := { State.reset with hostPair := { stage := some (AX_TGT_LO 127, BitVec.ofInt 32 v) } };
      s.mayWrite .host (AX_TGT_HI 127) ∧ (s.port .host).stage = some (AX_TGT_LO 127, BitVec.ofInt 32 v)
        ∧ (s.ownerEntry 127).isSome = false ∧ -posMax ≤ v ∧ v ≤ posMax) ∧
    (State.reset.mayRead .host (AX_POS_LO 127) ∧ State.reset.isBad (AX_POS_LO 127) = false ∧ State.reset.fabricOn = true) ∧
    -- a plain register of the last block instance, each field at its greatest value
    (locate (AX_MODE 127) = some modeLoc ∧ plainReg modeLoc (AX_MODE 127) ∧ State.reset.mayWrite .host (AX_MODE 127)
        ∧ (4 : Word) &&& reservedBits modeLoc.defn = 0 ∧ fieldsTake modeLoc (AX_MODE 127) 4 State.reset ∧ landsLater modeLoc State.reset
        ∧ blockRefuses modeLoc (State.reset.before modeLoc (AX_MODE 127)) (4 &&& modeLoc.defn.maskOf FieldDef.isValue) 0xFFFFFFFF State.reset = false) ∧
    (locate GCTL_SCRATCH = some scratchLoc ∧ plainReg scratchLoc GCTL_SCRATCH ∧ fieldsTake scratchLoc GCTL_SCRATCH 0xFFFFFFFF State.reset) := by
  simp only [mayWrite_iff, mayRead_iff]
  refine ⟨by decide +kernel, by decide +kernel, by decide +kernel, ?_, by decide +kernel, ?_, ?_⟩
  · rintro v (rfl | rfl) <;> decide +kernel
  all_goals unfold plainReg fieldsTake
  · unfold landsLater
    decide +kernel
  · decide +kernel

def storing (cmd : Nat) : State := { State.reset with nvm := { cmd := cmd } }

theorem witness_StoreCompletes :
    (let s := { State.reset with guards := [(GCTL_STORE, some ⟨.host, 1⟩)] };
      s.guardAt (BitVec.ofNat 24 GCTL_STORE).toNat = some ⟨.host, 1⟩ ∧ s.on GCTL_BUSERR.VALID = false) ∧
    natBit ((withFields [(GCTL_BUFHOLD.HOLD, 16)] State.reset).get GCTL_BUFHOLD.HOLD) 4 = true ∧
    (State.reset.mayGuard .host GCTL_STORE ∧ State.reset.locked = false ∧ State.reset.nvm.cmd = 0
      ∧ ∀ t : Fin 8, State.reset.on (WAVE_CTL.LOAD t) = false) ∧
    (∀ k : Fin 4, (storing (k + 1)).nvm.cmd ≠ 0 ∧ (storing (k + 1)).nvm.due = false) ∧
    (State.reset.power.inReset = false ∧ (locate (EV_EN 3)).any (fun l => l.blk = .EV && !l.compl) = true
      ∧ State.reset.isBad (EV_EN 3) = false ∧ State.reset.on GCTL_PARERR.VALID = false) := by
  simp only [mayGuard_iff]
  decide +kernel

/-- The coupling of coach 3 with something in its queues. -/
def linked (f : Coach → Coach) : State := lit.modCoach 3 f

theorem witness_FramesComplete :
    (∀ rx ∈ [[], [⟨3, 0, []⟩]], ∀ run ∈ [1, 2],
      let s := linked fun x => { x with tx := [[{}]], rx := rx, cmdSent := [(3, 0)], cmdRun := run };
      s.linkLive 3 = true ∧ (s.coach 3).cmdMay 3 1 = true ∧ (s.coach 3).rx = rx) ∧
    (∀ q ∈ [CtlFrame.safe, .kill [511], .release [511] false, .release [511] true],
      let s := linked fun x => { x with ctlq := [q], safe := true };
      s.linkLive 3 = true ∧ (s.coach 3).controlMay = true ∧ (s.coach 3).ctlq = [q] ∧ (s.coach 3).safe = true) ∧
    ((lit.coach 3).snsMay = true ∧ (lit.coach 3).snsq = [] ∧ lit.coilLive (4 * 3 + 3) 15 = true
      ∧ lit.enabled (coilAxis (4 * 3 + 3) 15) = true) := by decide +kernel

theorem witness_CouplingsComplete :
    (let e : Exchange := { master := .host, addr := LEG_CFG 511, wr := none, seq := 0 };
      (∀ x ∈ [e, { e with wr := some 0, seq := 255 }, { e with answer := some 1 }, { e with sent := true },
          { e with sent := true, resent := true }],
        let s := linked fun c => { c with cfgq := [x] };
        portIdle s ∧ s.linkLive 3 = true ∧ s.on (CO_LINKSTAT.UP 3) = true ∧ (s.coach 3).controlMay = true ∧ (s.coach 3).ctlq = [] ∧ (s.coach 3).statq = []
          ∧ (s.coach 3).cfgq = [x])
      ∧ coachOf e.addr = some 3 ∧ (locate e.addr).any (fun l => !l.compl) = true) ∧
    (lit.coachLive 3 = true ∧ (lit.coach 3).awaits = false ∧ lit.on (CO_LINKSTAT.UP 3) = true ∧ (lit.coach 3).offWait = false) ∧
    ((linked fun x => { x with awaits := true }).coach 3).awaits = true ∧
    (let s := (linked fun c => { c with training := true, awaits := true }).put (CO_LINKSTAT.UP 3) 0;
      s.coachLive 3 = true ∧ s.on (CO_LINKSTAT.UP 3) = false ∧ (s.coach 3).training = true ∧ (s.coach 3).awaits = true
        ∧ (s.coach 3).silent = false) ∧
    (let n := (lit.get (CO_PERCNT.COUNT 3) + 1) % 2 ^ 32;
      let l := (List.finRange 4).map fun q => ({ q := q.val, period := n % 256, recs := [] } : CmdRx);
      let s := linked fun x => { x with rx := l };
      s.linkLive 3 = true ∧ (s.coach 3).rx = l ∧ (s.get (CO_PERCNT.COUNT 3) + 1) % 2 ^ 32 = n) := by
  unfold portIdle
  decide +kernel

/-- A coach being powered up. -/
def powering : State := (linked fun x => { x with powering := true }).put GCTL_PWRSTAT.COACHON 7

theorem witness_DomainsComplete :
    (State.reset.mayGuard .host GCTL_PWRDOM ∧ othersKept State.reset 3 ∧ State.reset.runState ≠ 2
      ∧ natBit (State.reset.getLatest GCTL_PWRDOM.COACH) 3 = false ∧ State.reset.sideUvf (coachSide 3) = false
      ∧ State.reset.coachLive 3 = false) ∧
    (lit.mayGuard .host GCTL_PWRDOM ∧ othersKept lit 3 ∧ lit.runState ≠ 2 ∧ natBit (lit.getLatest GCTL_PWRDOM.COACH) 3 = true
      ∧ lit.coachOn 3 = true ∧ lit.coachWork 3 = false) ∧
    (powering.mayGuard .host GCTL_PWRDOM ∧ othersKept powering 3 ∧ powering.runState ≠ 2
      ∧ natBit (powering.getLatest GCTL_PWRDOM.COACH) 3 = true ∧ powering.coachOn 3 = false ∧ (powering.coach 3).powering = true
      ∧ powering.coachWork 3 = false) ∧
    (let s := State.reset.put GCTL_RUNSTAT.STATE 2;
      s.mayGuard .host GCTL_PWRDOM ∧ othersKept s 3 ∧ s.runState = 2 ∧ natBit (s.getLatest GCTL_PWRDOM.COACH) 3 = false) ∧
    (powering.on (CO_LINKSTAT.UP 3) = true ∧ (powering.put (CO_LINKSTAT.UP 3) 0).on (CO_LINKSTAT.UP 3) = false
      ∧ ((powering.put (CO_LINKSTAT.UP 3) 0).coach 3).powering = true) ∧
    (lit.put GCTL_PWRSTAT.PENDOFF 8).pendOff 3 = true ∧
    (othersKept lit 4 ∧ lit.getLatest GCTL_PWRDOM.AFE = 1 ∧ lit.afeOn = true) ∧
    (let s := lit.put GCTL_PWRDOM.AFE 0;
      s.mayGuard .host GCTL_PWRDOM ∧ othersKept s 4 ∧ s.runState ≠ 2 ∧ s.getLatest GCTL_PWRDOM.AFE = 0) := by
  simp only [mayGuard_iff, othersKept]
  refine ⟨?_, ?_, ?_, ?_, ?_, ?_, ?_, ?_⟩ <;> decide +kernel

theorem witness_RunStatesComplete :
    (State.reset.power.entering = 0 ∧ State.reset.mayWrite .host GCTL_RUNCTL ∧ State.reset.runState = 0
      ∧ State.reset.refuseCode 1 = 0 ∧ State.reset.power.wakeAct = 0 ∧ ∀ a : Fin 128, State.reset.parkable a = false) ∧
    (∀ st ∈ [1, 2], let s := State.reset.put GCTL_RUNSTAT.STATE st;
      s.power.entering = 0 ∧ s.mayWrite .host GCTL_RUNCTL ∧ s.runState = st ∧ s.power.inReset = false) ∧
    (let s := State.reset.put PL_STAT.STATE 4;
      s.mayWrite .host GCTL_RUNCTL ∧ s.runState = 0 ∧ s.planActive = true) ∧
    (let s := State.reset.put GCTL_RUNCTL.AUTODOZE 1;
      s.on GCTL_RUNCTL.AUTODOZE = true ∧ s.power.inReset = false ∧ s.runState = 0 ∧ s.refuseCode 1 = 0) ∧
    (let s := { State.reset.put GCTL_RUNSTAT.STATE 2 with power := { napParked := [127] } };
      s.power.entering = 0 ∧ s.runState = 2 ∧ s.power.inReset = false ∧ s.wakesFrom 2 .host = true ∧ s.power.napParked = [127]
        ∧ s.trio.saveChk = .agreed
        ∧ s.trioState ≠ 4 ∧ (s.put TRIO_STAT.STATE 4).trioState = 4) := by
  simp only [mayWrite_iff]
  decide +kernel

theorem witness_ResetsComplete :
    (State.reset.mayGuard .host GCTL_PWRDOM ∧ othersKept State.reset 4) ∧
    (let s := withFields [(GCTL_RUNSTAT.STATE, 3), (GCTL_RUNCTL.WRTC, 1)] State.reset;
      s.runState = 3 ∧ s.power.inReset = false ∧ s.wakesFrom 3 .rtc = true) ∧
    ((State.reset.put GCTL_RUNSTAT.STATE 1).runState < 2 ∧ (State.reset.put GCTL_RUNSTAT.STATE 2).runState = 2) ∧
    (let s := { State.reset with power := { inReset := true } };
      s.power.inReset = true ∧ s.power.sequence = false ∧ s.power.refLost = false ∧ s.mgs.slotA.state ≠ 5 ∧ s.mgs.slotA.state ≠ 6
        ∧ s.mgs.slotB.state ≠ 5 ∧ s.mgs.slotB.state ≠ 6 ∧ s.activeSlot = some false ∧ (noteRead (true, true) s).bootOk false = true) ∧
    (let s := { State.reset with power := { inReset := true, sequence := true } };
      s.power.sequence = true ∧ s.nvm.settings = none ∧ s.nvm.waves = none ∧ s.power.hibPos = []) ∧
    (State.reset.stackOn = true ∧ State.reset.nmt = 0 ∧ State.reset.get NET_NODE.SRC ≠ 2) := by
  simp only [mayGuard_iff, othersKept]
  decide +kernel



theorem witness_ClocksComplete :
    (let s := { State.reset with power := { refLost := true, rtcStage := some (2 ^ 48 - 1) } };
      s.power.refLost = true ∧ s.power.rtcStage = some (2 ^ 48 - 1) ∧ 2 ^ 48 - 1 < 2 ^ 48) ∧
    (State.reset.put GCTL_CLKSTAT.T32SRC 1).on GCTL_CLKSTAT.T32SRC = true ∧
    (let s := (State.reset.put GCTL_RUNCTL.WRTC 1).wr GCTL_RTCALM 0;
      s.rtc / 32768 % 2 ^ 32 = (s.rd GCTL_RTCALM).toNat ∧ s.on GCTL_RUNCTL.WRTC = true) ∧
    (let s := withFields [(GCTL_RUNSTAT.STATE, 3), (GCTL_RUNCTL.WRTC, 1)] State.reset;
      s.runState = 3 ∧ s.rtc ≤ s.rtc / 2 ^ 47 * 2 ^ 47 + (s.rd GCTL_RTCALM).toNat * 32768 ∧ s.on GCTL_RUNCTL.WRTC = true) := by
  decide +kernel

/-! ### Witnesses: legs, protection, current -/

theorem witness_LegsComplete :
    lit.coachLive (15 / 4) = true ∧
    (∀ p ∈ [LegPhase.waitLs, .waitHs], let s := lit.modLeg 511 fun x => { x with phase := p };
      (s.leg 511).phase = p ∧ (s.leg 511).ready = false ∧ ∀ m ∈ s.legGang 511, m = 511) ∧
    (let s := lit.modLeg 511 fun x => { x with phase := .block, stuck := true };
      (s.leg 511).waits = false ∧ (s.leg 511).stuck = true) ∧
    (let s := (lit.put (RK_STAT.APPLIED1 15) 2);
      let s := (s.legGang 511).foldl (fun s l => s.modLeg l fun x => { x with phase := .waitHs, ready := true }) s;
      (s.legGang 511).length = 4 ∧ (s.leg 511).phase = .waitHs
        ∧ ∀ m ∈ s.legGang 511, m ≠ 511 → (s.leg m).ready = true ∧ (s.leg m).phase = .waitHs) ∧
    (lit.put (LEG_TEST.OVR 511) 1).overridden 511 = true ∧
    (∀ b, let s := (lit.modLeg 511 fun x => { x with phase := .hsOn }).modCoil 15 15 fun x => { x with phase := .drive, blank := b };
      let (a, e) := s.legOwner 511;
      (s.leg 511).phase = .hsOn ∧ (s.leg 511).cutAt true 7 = none
        ∧ s.blanked (511 / 32) (8 * axisHalf a + 2 * axisSlot a + e / 2) = b) ∧
    -- a switch that another trip of this instant has turned off, in its blanking and after it
    (∀ b, let s := lit.modLeg 511 fun x => { x with phase := .off, cutHs := some (7, b) };
      ((s.leg 511).cutAt true 7).isSome = true ∧ ((s.leg 511).cutAt true 7).getD true = b ∧ (s.leg 511).cutAt true 8 = none) := by
  decide +kernel

/-- The same with no axis enabled. -/
def idle : State := lit.put (AX_STAT.ENABLED 127) 0

theorem witness_CoachWritesComplete :
    idle.locked = false ∧
    (idle.mayGuard .host (RK_MODE 15) ∧ ∀ a : Fin 128, axisRank a = 15 → idle.busyAxis a = false) ∧
    (idle.mayGuard .host (LEG_TEST 511) ∧ idle.busyAxis (idle.legOwner 511).1 = false
      ∧ idle.legLeader 511 = 511 ∧ 4095 < 4096
      ∧ 4095 + 20 ≤ min (idle.get (CO_PWMPER.PER (legCoach 511))) (idle.getLatest (CO_PWMPER.PER (legCoach 511)))) ∧
    (let s := idle.put (CO_PWMPER.PER 3) 4095;
      4075 + 20 ≤ min (s.get (CO_PWMPER.PER (legCoach 511))) (s.getLatest (CO_PWMPER.PER (legCoach 511)))) := by
  simp only [mayGuard_iff]
  decide +kernel

def tripped (hard : Bool) : State :=
  { lit with trips := [{ leg := 511, hard := hard, period := 511, stamp := 0, axis := 127, coilEnd := 3 }] }

theorem witness_FaultManagerCompletes :
    (∀ hard, ∃ x, (tripped hard).trips = [x] ∧ x.hard = hard ∧ x.claimed = false ∧ x.checked = false ∧ x.counted = false
      ∧ x.axis = 127 ∧ x.leg < 512 ∧ x.coilEnd < 4 ∧ x.period % 256 = 255 ∧ (tripped hard).enabled 127 = true
      ∧ (tripped hard).get (AX_FLTSTAT.STATE 127) = 0) ∧
    (lit.trips = [] ∧ lit.get (CO_PROTCFG.PERSIST 3) ≠ 0) ∧
    (let s := (tripped false).put (CO_PROTCFG.PERSIST 3) 1;
      s.runCount 127 3 + 1 = s.get (CO_PROTCFG.PERSIST (axisCoach 127)) ∧ axisCoach 127 = 3) ∧
    (let s := lit.put (AX_FLTSTAT.STATE 127) 1;
      s.get (AX_FLTSTAT.STATE 127) = 1 ∧ s.on (RK_FLTSTAT.FAULT (axisRank 127)) = false
        ∧ s.on (CO_FLTSTAT.FAULT (axisCoach 127)) = false ∧ s.on (CO_VM.UVF (axisCoach 127)) = false
        ∧ s.on (CO_VM.OVF (axisCoach 127)) = false) ∧
    (lit.put (AX_FLTSTAT.STATE 127) 2).get (AX_FLTSTAT.STATE 127) = 2 := by
  refine ⟨fun hard => ⟨_, rfl, rfl, ?_⟩, by decide +kernel, by decide +kernel, by decide +kernel, by decide +kernel⟩
  cases hard <;> decide +kernel

/-- The coach's next CFG frame carries a write of 1 or 2 to a fault control register. -/
def clearing (addr : Nat) (w : Word) (s : State) : State :=
  s.modCoach 3 fun x => { x with cfgq := [{ master := .host, addr := addr, wr := some w, seq := 255 }] }

theorem clearing_next (addr : Nat) (w : Word) (s : State) (h : portIdle (clearing addr w s)) (hl : (clearing addr w s).linkLive 3 = true)
    (hm : ((clearing addr w s).coach 3).controlMay = true) (hq : ((clearing addr w s).coach 3).ctlq = []) (ha : ((clearing addr w s).coach 3).applSeq = none)
    (he : ((clearing addr w s).coach 3).cfgq = [{ master := .host, addr := addr, wr := some w, seq := 255 }]) :
    clearNext 3 addr w (clearing addr w s) :=
  ⟨h, hl, hm, hq, _, _, he, rfl, rfl, rfl, by rw [ha]; nofun⟩

theorem witness_ClearsComplete :
    (∀ st ∈ [1, 2], let s := lit.put (AX_FLTSTAT.STATE 127) st;
      s.mayWrite .host (AX_FLTCTL 127) ∧ s.get (AX_FLTSTAT.STATE 127) = st) ∧
    (let s := withFields [(AX_FLTSTAT.STATE 127, 3), (AX_FLTSTAT.CAUSE 127, 4)] lit;
      s.mayWrite .host (AX_FLTCTL 127) ∧ s.clearRefused 127 (s.get (AX_FLTSTAT.STATE 127)) = false) ∧
    (let s := withFields [(AX_FLTSTAT.STATE 127, 3), (AX_FLTSTAT.CAUSE 127, 9), (RK_FLTSTAT.CAUSE 15, 9)] lit;
      s.mayWrite .host (RK_FLTCTL 15) ∧ s.rankClearBlocked 15 = false ∧ rankCause (s.get (AX_FLTSTAT.CAUSE 127)) = true
        ∧ clearNext 3 (RK_FLTCTL 15) 1 (clearing (RK_FLTCTL 15) 1 s)) ∧
    (let s := withFields [(AX_FLTSTAT.STATE 127, 3), (AX_FLTSTAT.CAUSE 127, 13), (CO_STAT.GREGOK 3, 1)] lit;
      s.mayWrite .host (CO_FLTCTL 3) ∧ s.coachClearRefused 3 = false ∧ s.byCoach 127 = true
        ∧ s.on (CO_VM.UVF 3) = false ∧ s.on (CO_VM.OVF 3) = false ∧ clearNext 3 (CO_FLTCTL 3) 1 (clearing (CO_FLTCTL 3) 1 s)) ∧
    (∀ k ∈ [11, 12], let s := withFields [(AX_FLTSTAT.STATE 127, 3), (AX_FLTSTAT.CAUSE 127, k)] lit;
      s.get (AX_FLTSTAT.STATE 127) = 3 ∧ s.get (AX_FLTSTAT.CAUSE 127) = k) ∧
    clearNext 3 (CO_FLTCTL 3) 2 (clearing (CO_FLTCTL 3) 2 lit) := by
  simp only [mayWrite_iff]
  refine ⟨by decide +kernel, by decide +kernel, ⟨by decide +kernel, by decide +kernel, by decide +kernel, ?_⟩,
    ⟨by decide +kernel, by decide +kernel, by decide +kernel, by decide +kernel, by decide +kernel, ?_⟩, by decide +kernel, ?_⟩ <;>
  · refine clearing_next _ _ _ ?_ ?_ ?_ ?_ ?_ ?_ <;> first | (unfold portIdle; decide +kernel) | decide +kernel

theorem witness_RankConditionsComplete :
    let s := linked fun x => { x with cpSeen := 8, gregSeen := true };
    s.coachLive (15 / 4) = true ∧ s.on (RK_FLTSTAT.FAULT 15) = false ∧ natBit (s.coach (15 / 4)).cpSeen (15 % 4) = true
      ∧ s.coachLive 3 = true ∧ (s.coach 3).gregSeen = true ∧ s.on (CO_FLTSTAT.FAULT 3) = false := by decide +kernel

theorem witness_SideConditionsComplete :
    lit.power.inReset = false ∧ lit.runState ≠ 3 ∧ lit.sideUvf (coachSide 3) = false ∧ lit.sideUvw (coachSide 3) = false
      ∧ lit.sideOvf (coachSide 3) = false ∧ lit.sideOvw (coachSide 3) = false ∧ lit.coachLive 3 = true := by decide +kernel

/-- Coil 255 in a phase. -/
def coiled (p : CoilPhase) (dec : Nat) : State := lit.modCoil 15 15 fun x => { x with phase := p, cmd := { dec := dec } }

theorem witness_CurrentCompletes :
    (let s := (coiled .drive 0);
      let e := coilE 15 (s.coil 15 15).cmd.pol;
      let s := (s.endLegs 127 e.1).foldl (fun s l => s.modLeg l fun x => { x with phase := .hsOn }) s;
      let s := (s.endLegs 127 e.2).foldl (fun s l => s.modLeg l fun x => { x with phase := .lsOn }) s;
      coilAxis 15 15 = 127 ∧ (s.coil 15 15).phase = .drive ∧ (∀ l ∈ s.endLegs 127 e.1, (s.leg l).phase = .hsOn)
        ∧ (∀ l ∈ s.endLegs 127 e.2, (s.leg l).phase = .lsOn)) ∧
    (((coiled .drive 2).coil 15 15).phase = .drive ∧ ((coiled .drive 2).coil 15 15).blank = false) ∧
    (((coiled .fast 2).coil 15 15).phase = .fast ∧ ((coiled .zero 2).coil 15 15).phase = .zero
      ∧ ((coiled .zero 2).coil 15 15).cmd.dec = 2) ∧
    axisCoach 127 = 3 ∧
    (∀ p ∈ [CoilPhase.winFast, .winFloat, .winConv], ((coiled p 0).coil 15 15).phase = p) ∧
    (let s := (coiled .winConv 0).modCoach 3 fun x => { x with sar := [(0, 1), (3, 15), (3, 14)] };
      (s.coil 15 15).phase = .winConv ∧ (s.coach (15 / 4)).sar.find? (fun x => x.1 = 15 % 4) = some (15 % 4, 15)) := by
  decide +kernel

/-! ### Witnesses: motion -/

theorem witness_StandstillCompletes :
    (lit.enabled 127 = true ∧ lit.get (AX_FLTSTAT.STATE 127) = 0 ∧ (lit.put (AX_SSTAT.STATE 127) 1).get (AX_SSTAT.STATE 127) = 1
      ∧ (lit.put (AX_SSTAT.STATE 127) 1).enabled 127 = true ∧ (lit.put (AX_SSTAT.STATE 127) 1).get (AX_FLTSTAT.STATE 127) = 0) ∧
    (∀ x ∈ [AfterEnerg.none, .move, .modeState],
      let s := (lit.put (AX_SSTAT.STATE 127) 7).modMo 127 fun m => { m with afterEnerg := x };
      s.enabled 127 = true ∧ s.get (AX_SSTAT.STATE 127) = 7 ∧ (s.mo 127).afterEnerg = x) := by
  decide +kernel

theorem witness_AxisCommandsComplete :
    (lit.mayWrite .host (AXEN (126 / 32)) ∧ (lit.latest (AXEN (126 / 32))).getLsbD (126 % 32) = false
      ∧ lit.enableRefused 126 = false ∧ lit.trio.safeIn = false) ∧
    (let s := lit.wr (AXEN 3) 0x80000000;
      s.mayWrite .host (AXEN (127 / 32)) ∧ (s.latest (AXEN (127 / 32))).getLsbD (127 % 32) = true ∧ s.enabled 127 = true
        ∧ s.get (AX_FLTSTAT.STATE 127) ≠ 3 ∧ s.inMotion 127 = false
        ∧ (s.modMo 127 fun m => { m with v := 1 }).inMotion 127 = true
        ∧ (s.put (AX_FLTSTAT.STATE 127) 3).get (AX_FLTSTAT.STATE 127) = 3 ∧ (s.put (AX_FLTSTAT.STATE 127) 3).enabled 127 = true
        ∧ (s.put (AX_STAT.ENABLED 127) 0).enabled 127 = false) ∧
    (∀ m ∈ [1, 2], let s := lit.put (AX_MODE.MODE 127) m;
      s.mayWrite .host (AX_CTL 127) ∧ s.startRefused 127 = false ∧ s.startOutcome 127 false = .starts ∧ (s.mo 127).reqs = []) ∧
    (let s := withFields [(AX_MODE.MODE 127, 1), (AX_STARTCFG.SRC 127, 2)] lit;
      s.startRefused 127 = false ∧ s.startOutcome 127 false = .armed) ∧
    (lit.startRefused 127 = false ∧ lit.startOutcome 127 false = .ignored 3 ∧ (lit.mo 127).asked = false) ∧
    (lit.mayWrite .host (AXSTART 3) ∧ ∀ b : Fin 32, lit.startRefused (32 * 3 + b) = false) ∧
    lit.on EV_PIN.HALTN = true ∧ (lit.put (AX_HALTCFG.PIN 127) 0).on (AX_HALTCFG.PIN 127) = false := by
  simp only [mayWrite_iff]
  decide +kernel

theorem witness_SyncAndPositionComplete :
    (lit.fabricOn = true ∧ (lit.put GCTL_RUNSTAT.STATE 2).fabricOn = false) ∧
    (lit.mayWrite .host (AX_POS_LO 127) ∧ lit.mayWrite .host (AX_POS_HI 127) ∧ lit.enabled 126 = false
      ∧ (∀ st ∈ [2, 6], (lit.put (AX_SSTAT.STATE 127) st).get (AX_SSTAT.STATE 127) = st)
      ∧ clampInt (-posMax) posMax (signed 64 posMax.toNat) = signed 64 posMax.toNat
      ∧ clampInt (-posMax) posMax (signed 64 (posMax.toNat + 1)) ≠ signed 64 (posMax.toNat + 1)) := by
  simp only [mayWrite_iff]
  decide +kernel

theorem witness_WavesComplete :
    (lit.mayWrite .host (WAVE_CTL 7) ∧ lit.tableUsed 7 = false) ∧
    (let s := lit.put (WAVE_CTL.LOAD 7) 1;
      s.mayWrite .host (WAVE 7 256) ∧ s.locked = false ∧ s.on (WAVE_CTL.LOAD 7) = true ∧ 4095 < 4096) ∧
    (let w : Word := 7;
      lit.mayWrite .host (AX_WAVESEL 127) ∧ lit.locked = false ∧ w &&& 0xFFFFFEF8 = 0
        ∧ w.getLsbD 8 = (lit.latest (AX_WAVESEL 127)).getLsbD 8 ∧ lit.on (WAVE_CTL.LOAD (w.toNat % 8)) = false) ∧
    (lit.power.inReset = false ∧ (lit.put (AX_WAVESEL.TABLE 127) 7).get (AX_WAVESEL.TABLE 127) = 7 ∧ lit.enabled 127 = true) := by
  simp only [mayWrite_iff]
  decide +kernel

def theWindow (noZero : Bool) : EvalReq := ⟨⟨true, 0, 256, 256, true, true, 100000, 512, 0⟩, 100, noZero, false⟩

/-- Axis 127 with a result and a window to evaluate. -/
def windowed (noZero : Bool) : State :=
  (lit.put (AX_BEMFCFG.EN 127) 1).modSe 127 fun e => { e with
    results := [⟨0, true, 0, f32OfRat 1 10, 100000, 0⟩], evals := [theWindow noZero] }

theorem witness_EstimatorCompletes :
    (((windowed true).se 127).evals = [theWindow true] ∧ (windowed true).evaluate 127 (theWindow true) = .invalid 2) ∧
    (((windowed false).se 127).evals = [theWindow false]
      ∧ (match (windowed false).evaluate 127 (theWindow false) with | .valid _ => true | .invalid _ => false) = true) ∧
    (let s := (lit.put (AX_HOMEST.STATE 127) 3).modMo 127 fun m => { m with run := .homeContact };
      s.get (AX_HOMEST.STATE 127) = 3 ∧ (s.mo 127).run = .homeContact) ∧
    lit.mayWrite .host (AX_LACTL 127) := by
  simp only [mayWrite_iff]
  decide +kernel

theorem witness_ProfileTickCompletes :
    let s := withFields [(AX_STAT.MODEACT 127, 2)] lit;
    s.fabricOn = true ∧ quietTick s ∧ (∀ b : Fin 128, b ≠ 127 → s.ax b = {} ∧ s.enabled b = false ∧ s.on (AX_LIMCFG.EN b) = false
        ∧ s.on (AX_STAT.OUTSIDE b) = false) ∧
      s.enabled 127 = true ∧ s.on (AX_STAT.HALTED 127) = false ∧ s.get (AX_STAT.STOPKIND 127) = 0
        ∧ s.get (AX_STAT.MODEACT 127) = 2 ∧ s.get (AX_SSTAT.STATE 127) = 0 ∧ s.on (AX_LIMCFG.EN 127) = false
        ∧ s.get (AX_WITCFG.SRC 127) ≠ 2 ∧ s.mo 127 = {} ∧
      let v := velStep (s.mo 127).v (clampInt (-(s.vmax 127 : Int)) (s.vmax 127) (s.getI (AX_VTGT.VTGT 127) * 2 ^ 24))
        (s.amax 127) (s.dmax 127);
      let p := (s.mo 127).p + ((s.mo 127).v + v) / 2 ^ 17;
      p < posMax * 2 ^ 24 ∧ -posMax * 2 ^ 24 ≤ p := by
  unfold quietTick portIdle
  decide +kernel

/-! ### Witnesses: the planner -/

/-- A recipe of one entry, 127, for axis 127, with room in every budget. -/
def recipe (extra : List (Fld × Nat)) : State :=
  (withFields extra lit).wr (PL_RCP0 127) 0xFF000000

theorem witness_PlanCommandsComplete :
    ((lit.put MGS_PROV.LOCK 1).locked = true ∧ (lit.put MGS_PROV.LOCK 1).mayWrite .host PL_CMD) ∧
    (lit.mayWrite .host PL_CMD ∧ lit.locked = false ∧ lit.plRefused 1 63 = false ∧ lit.plRefused 3 63 = false
      ∧ lit.plRefused 4 0 = false ∧ lit.plRefused 8 0 = false) ∧
    (let s := lit.put PL_STAT.STATE 1;
      s.mayWrite .host PL_CMD ∧ s.locked = false ∧ s.plRefused 2 63 = false ∧ s.plRefused 5 0 = false) ∧
    ((lit.put PL_STAT.STATE 3).plRefused 6 0 = false ∧ (lit.put PL_STAT.STATE 3).mayWrite .host PL_CMD) ∧
    (let s := withFields [(PL_STAT.STATE, 3), (PL_STAT.BUSY, 1)] { lit with pl := { waiting := true } };
      s.plRefused 7 0 = false ∧ s.runWaits = true) ∧
    (∀ st ∈ [4, 5], (lit.put PL_STAT.STATE st).plRefused 7 0 = false ∧ (lit.put PL_STAT.STATE st).plState = st) := by
  simp only [mayWrite_iff]
  decide +kernel

/-- A recipe image of one entry for axis 127. -/
def image : List Word :=
  let es : List Word := [0xFF000000, 0, 0, 0]
  [0, 0x01010000, crcWords es, 0] ++ es

/-- Budgets and temperatures that leave the entry of `recipe` room. -/
def room : List (Fld × Nat) :=
  (PL_STAT.STATE, 2) :: (PL_STAT.BUSY, 1) :: (PL_BUDGET_PKG.MW, 60000) :: (PL_BUDGET_COACH.MW 3, 60000)
    :: (List.range 4).map fun c => (CO_TEMP.VALID c 0, 1)

theorem witness_PlanStepsComplete :
    (let s := recipe [(PL_STAT.STATE, 2), (PL_STAT.BUSY, 1)];
      s.plState = 2 ∧ s.on PL_STAT.BUSY = true ∧ s.trioRuns = true ∧ s.trioClock = true
        ∧ s.validEntries.find? (fun e => s.entryError e ≠ 0) = some 127 ∧ (s.put TRIO_STAT.STATE 3).trioRuns = false
        ∧ s.pl.held = false ∧ ({ s with pl := { held := true } } : State).pl.held = true ∧ (s.put TRIO_STAT.STATE 1).trioState = 1) ∧
    (let s := recipe room;
      s.plState = 2 ∧ s.on PL_STAT.BUSY = true ∧ s.trioRuns = true ∧ s.trioClock = true ∧ s.validEntries = [127] ∧ s.entryError 127 = 0
        ∧ (simulate (s.get PL_CFG.PASSMAX) s.room 1000 0 (orderBy simBefore (s.validEntries.map s.simEntry))).isOk = true) ∧
    (∀ k ∈ [1, 2, 3, 4], let s := withFields [(PL_STAT.BUSY, 1), (SPM_CFG.XEN, 1)] { lit with recipes := [(63, image)], pl := { cmd := k, slot := 63 } };
      s.on PL_STAT.BUSY = true ∧ s.pl.cmd = k ∧ Sparse.get (fun _ => []) s.recipes s.pl.slot = image ∧ image ≠ []
        ∧ Sparse.get (fun _ => []) lit.recipes s.pl.slot = [] ∧ imageError image = 0 ∧ imageError [0] ≠ 0
        ∧ s.loadxReach (max 1 image.length) = true ∧ s.loadxStop (max 1 image.length) = none
        ∧ (let t := s.put SPM_CFG.XEN 0;
          t.pl.cmd = k ∧ t.loadxReach (max 1 image.length) = false ∧ (t.loadxStop (max 1 image.length)).isSome = true ∧ t.runState ≠ 2
            ∧ t.on GCTL_BUSERR.VALID = false)) ∧
    (let s := (recipe [(PL_STAT.STATE, 3)]).put (PL_RES.STATE 127) 1;
      let s := { s with pl := { waiting := true } };
      s.fabricOn = true ∧ s.runReady = true ∧ s.plState = 3 ∧ s.ordRefused = true) ∧
    (let s := withFields [(PL_RES.STATE 127, 1), (PL_STAT.STATE, 4)] (recipe []);
      s.plState = 4 ∧ s.rcpValid 127 = true ∧ s.entryState 127 = 1 ∧ 127 ∉ s.pl.blocked) ∧
    (lit.mayWrite .host (recipeAddr (.entry 127 3)) ∧ lit.mayWrite .host (recipeAddr (.header 3)) ∧ lit.recipeRefused = false) ∧
    (let s := lit.put PL_STAT.STATE 3;
      s.mayWrite .host (PL_ORD 127) ∧ s.ordRefused = false ∧ (127 : Word).toNat < 128) := by
  simp only [mayWrite_iff]
  decide +kernel


/-! ### Witnesses: feedback and analog -/

theorem witness_FeedbackCompletes :
    (lit.fabricOn = true ∧ lit.on (STEP_CFG.EN 7) = false ∧ (lit.put (STEP_CFG.EN 7) 1).on (STEP_CFG.EN 7) = true
      ∧ lit.power.unticked = false) ∧
    (let settled (s : State) (now : Bool) (since stamp : Nat) : Bool :=
        filtered (s.enc 7).stepFilt (s.get (STEP_FILT.PRE 7)) (s.get (STEP_FILT.N 7)) (s.on (STEP_STAT.STEP 7)) now since stamp;
      let s := lit.put (STEP_CFG.EN 7) 1;
      (∀ e, settled s e 0 10000 = e) ∧ settled s (!s.on (STEP_STAT.STEP 7)) 10000 10000 = s.on (STEP_STAT.STEP 7)
        ∧ s.on (STEP_CFG.EDGE 7) = s.on (STEP_STAT.STEP 7)) ∧
    (lit.on (ENC_CFG.EN 7) = false ∧ lit.get (ENC_CFG.REPEAT 7) ≠ 2 ∧ (lit.put (ENC_CFG.REPEAT 7) 2).get (ENC_CFG.REPEAT 7) = 2) ∧
    (let s := lit.put (ENC_CFG.EN 7) 1;
      let old := (s.on (ENC_STAT.A 7), s.on (ENC_STAT.B 7));
      let settled (was now : Bool) : Bool := filtered (s.enc 7).filt (s.get (ENC_FILT.PRE 7)) (s.get (ENC_FILT.N 7)) was now 0 10000;
      s.on (ENC_CFG.EN 7) = true ∧ s.power.unticked = false ∧ (∀ e, settled old.1 e = e ∧ settled old.2 e = e)
        ∧ quadNext old = (true, false) ∧ quadNext (false, true) = old ∧ true ≠ old.1 ∧ true ≠ old.2
        ∧ s.on (ENC_CFG.ZGATE 7) = false
        ∧ filtered (s.enc 7).filt (s.get (ENC_FILT.PRE 7)) (s.get (ENC_FILT.N 7)) (s.on (ENC_STAT.Z 7)) true 0 10000 = true
        ∧ s.on (ENC_STAT.Z 7) = s.on (ENC_CFG.ZPOL 7) ∧ s.on (ENC_STAT.SPDMODE 7) = false) ∧
    (let s := withFields [(ENC_CFG.EN 7, 1), (ENC_STAT.SPDMODE 7, 1)] { lit with encs := [(7, { ref := true, counted := true, net := 1, span := 100 })] };
      s.on (ENC_CFG.EN 7) = true ∧ s.on (ENC_STAT.SPDMODE 7) = true ∧ (s.enc 7).ref = true ∧ (s.enc 7).counted = true ∧ (s.enc 7).span ≠ 0) ∧
    (let w : Word := 0x00040001;
      lit.mayWrite .host (CMP_CFG 7) ∧ lit.locked = false ∧ w &&& 0x000080E0 = 0 ∧ 4 ≤ w.toNat / 65536) ∧
    (lit.mayWrite .host (CMP_POS 7) ∧ (lit.put (CMP_CFG.SRC 7) 1).mayWrite .host (CMP_POS 7)
      ∧ (lit.put (CMP_CFG.SRC 7) 1).on (CMP_CFG.SRC 7) = true ∧ lit.on (CMP_CFG.SRC 7) = false ∧ lit.on (CMP_STAT.ARMED 7) = false) ∧
    lit.mayWrite .host (ENC_CNT 7) ∧ lit.mayWrite .host (STEP_CNT 7) := by
  simp only [mayWrite_iff]
  decide +kernel

/-- A conversion of configuration 15 in slot 15. -/
def theConv : SdConv :=
  { x := 15, slot := 15, inj := false, direct := false, lead := false, gain := 0, cfgA := 0, cfgB := 0, cfgC := 0, settling := false }

/-- Modulator 3 enabled, in the scan class, active. -/
def sdOn (m : SdMod) : State :=
  withFields [(SD_CFG.EN 3, 1), (SD_CFG.CLASS 3, 1), (SD_STAT.ACTIVE 3, 1)] { lit with sds := [(3, m)] }

theorem witness_ConversionsComplete :
    (let s := sdOn { due := true };
      s.afeOn = true ∧ s.on (SD_CFG.EN 3) = true ∧ (s.sd 3).conv = none ∧ (s.sd 3).cal = none ∧ (s.sd 3).leadDone = false
        ∧ (s.sdNext 3).isSome = true ∧ s.sdWaiting 3 = false ∧ s.held .conv = false ∧ (∀ addr ∈ sharedWords, s.waits addr = false)
        ∧ (∀ x : Fin 16, s.cfgBad x = false ∧ s.pulsed (s.rd (AFE_CFGA x)) = [])) ∧
    (let s := (sdOn { due := true }).wr AFE_IEXC 0x04000400;
      let a : Word := wordPut 0 23 22 3;
      let len := 1000 * modClock;
      s.pulsed a = [0, 1] ∧ len ≤ dutyLimit ∧ (∀ i ∈ s.pulsed a, s.dutyAllows i (32 * 0) len = true)
        ∧ s.dutyAllows 0 (dutyWindow - 1) len = false) ∧
    (((sdOn { conv := some theConv }).sd 3).conv = some theConv
      ∧ (let v := { theConv with cfgA := BitVec.ofNat 32 (2 ^ 24), cfgC := 0x0000FF01 };
          v.settling = false ∧ v.broken = false ∧ cfgBrken v.cfgA = true ∧ cfgTdac v.cfgA ≠ 1 ∧ (0 : Nat) < wordField v.cfgC 7 0
            ∧ 1 ≤ wordField v.cfgC 15 8 ∧ wordField v.cfgC 7 0 ≤ 1)
      ∧ theConv.lead = false ∧ theConv.inj = false ∧ ({ theConv with inj := true } : SdConv).inj = true ∧ (sdOn {}).get (SD_AVG.AVG 3) = 1
      ∧ ((sdOn {}).sd 3).sums = [] ∧ ((sdOn {}).sd 3).simul = false ∧ 0 + 1 < ((sdOn {}).put (SD_AVG.AVG 3) 2).get (SD_AVG.AVG 3)) ∧
    (let v := { theConv with lead := true };
      ((sdOn { conv := some v }).sd 3).conv = some v ∧ ((sdOn {}).corrected 3 v.gain 0).2 = false ∧ cfgRef v.cfgA < 2
        ∧ v.broken = false ∧ v.refOff = false ∧ v.settling = false) ∧
    (∀ inj, let r : SdRes := ⟨15, 3, inj, false, 0, 0, false, false, 0, 0, 0⟩;
      ((sdOn { landing := [r] }).sd 3).landing = r :: [] ∧ ((sdOn {}).put (SD_CFG.MOVE 3) 0).on (SD_CFG.MOVE 3) = false) := by
  refine ⟨?_, ?_, ?_, ?_, ?_⟩ <;> decide +kernel

theorem witness_SharedWordsComplete :
    let w : Word := 0x04370437;
    lit.locked = false ∧ lit.mayWrite .host AFE_IEXC ∧ w &&& 0xF808F808 = 0
      ∧ (∀ i : Fin 2, iexcMode w i < 3 ∧ (iexcMode w i = 2 → iexcPin w i ≤ 3))
      ∧ lit.mayWrite .host AFE_VEXC ∧ lit.mayWrite .host AFE_TDAC ∧ (3 : Word).toNat < 4 ∧ (4095 : Word).toNat < 4096 := by
  simp only [mayWrite_iff]
  decide +kernel

theorem witness_ConverterCommandsComplete :
    (let s := (sdOn {}).put (SD_STAT.ACTIVE 3) 0;
      s.mayWrite .host (SD_CMD 3) ∧ s.afeOn = true ∧ s.on (SD_CFG.EN 3) = true ∧ s.sdWaiting 3 = false ∧ s.on (SD_STAT.ACTIVE 3) = false
        ∧ s.get (SD_CFG.REGTRIG 3) ≠ 2 ∧ s.sdDirect 3 = false ∧ (s.sd 3).cal = none ∧ (s.sd 3).injecting = false
        ∧ (s.put (SD_CFG.CLASS 3) 0).sdDirect 3 = true) ∧
    (let s := sdOn { cal := some 0, conv := some theConv };
      s.mayWrite .host (SD_CMD 3) ∧ (s.sd 3).cal.isSome = true ∧ (s.sd 3).conv = some theConv ∧ theConv.inj = false
        ∧ s.simulRefused 8 = false) ∧
    ((sdOn {}).mayWrite .host (SD_CMD 3) ∧ (sdOn {}).simulRefused 8 = false ∧ (sdOn {}).calRefused 8 = false
      ∧ (8#4).getLsbD 3 = true) ∧
    (let w : Word := 0xB60;
      let s := sdOn {};
      s.mayWrite .host (SD_CFG 3) ∧ s.locked = false ∧ (s.latest (SD_CFG 3)).getLsbD 0 = true ∧ w &&& 0xFF08700C = 0
        ∧ wordField w 11 8 < 12 ∧ wordField w 7 6 < 3 ∧ wordField w 5 4 < 3) := by
  simp only [mayWrite_iff]
  decide +kernel

theorem witness_ConverterEventsComplete :
    ((sdOn {}).afeOn = true ∧ (sdOn {}).on (SD_CFG.EN 3) = true ∧ (sdOn {}).sdDirect 3 = false
      ∧ ((sdOn {}).put (SD_CFG.EN 3) 0).on (SD_CFG.EN 3) = false) ∧
    (∀ due, let s := (sdOn { due := due }).put (SD_CFG.REGTRIG 3) 2;
      s.get (SD_CFG.REGTRIG 3) = 2 ∧ s.on (SD_STAT.ACTIVE 3) = true ∧ (s.sd 3).due = due ∧ s.on (SD_SEQCTL.TTIM 3) = false
        ∧ (s.put (SD_SEQCTL.TTIM 3) 1).on (SD_SEQCTL.TTIM 3) = true ∧ (sdOn {}).get (SD_CFG.REGTRIG 3) ≠ 2) ∧
    (let s := (sdOn {}).put (SD_SEQCTL.TPIN 3) 1;
      s.on (SD_SEQCTL.TPIN 3) = true ∧ s.on (SD_SEQCTL.PEDGE 3) = !true ∧ (s.sd 3).injecting = false
        ∧ ((sdOn { inj := some 0 }).sd 3).injecting = true ∧ ((sdOn { cal := some 0 }).sd 3).cal.isSome = true
        ∧ (sdOn {}).on (SD_SEQCTL.TPIN 3) = false) ∧
    (∀ g : Fin 8, (sdOn { cal := some (2 * g.val) }).bitAt (SD_STAT 3) (24 + g) = false ∧ ((sdOn { cal := some (2 * g.val) }).sd 3).cal = some (2 * g.val)
      ∧ ((sdOn { cal := some (2 * g.val + 1) }).sd 3).cal = some (2 * g.val + 1) ∧ ((sdOn { cal := some (2 * g.val + 1) }).sd 3).simul = false) ∧
    (-(2 ^ 23) ≤ (2 ^ 23 - 1 : Int) ∧ (0x200000 : Int) ≤ 0x600000
      ∧ (let s := { sdOn { cal := some 15 } with afe := { calMask := 8 } }; s.afe.calMask = 2 ^ 3 ∧ (s.sd 3).cal = some 15)) ∧
    (let s := (sdOn { cal := some 15 }).putBitAt (SD_STAT 3) (24 + 15 / 2) true;
      s.bitAt (SD_STAT 3) (24 + 15 / 2) = true ∧ (s.sd 3).cal = some 15 ∧ (s.sd 3).simul = false) ∧
    (∀ inj : Bool, let addr := if inj then SD_INJRESULT 3 else SD_RESULT 3;
      lit.mayRead .host addr ∧ lit.isBad addr = false) ∧
    (∀ brk, let r : SdRes := ⟨15, 15, false, false, 0, 0, brk, false, 0, 0, 0⟩;
      let s := sdOn { lin := [r] };
      (s.sd 3).lin = r :: [] ∧ r.inj = false ∧ ({ r with inj := true } : SdRes).inj = true ∧ r.brk = brk
        ∧ wordField (s.lin (512 + r.x)) 31 31 = 0) ∧
    (let s := lit.put (SD_LINADDR.ADDR 3) 527;
      s.get (SD_LINADDR.ADDR 3) < 528 ∧ s.mayRead .host (SD_LINDATA 3) ∧ s.isBad (SD_LINDATA 3) = false
        ∧ s.mayWrite .host (SD_LINDATA 3) ∧ s.locked = false ∧ linRefused 527 0x80090000 = false
        ∧ linStored 527 0x80090000 = 0x80090000 ∧ linRefused 527 1 = true ∧ linRefused 501 0x700 = false ∧ linStored 501 0x700 ≠ 0x700) := by
  simp only [mayWrite_iff, mayRead_iff]
  decide +kernel

/-! ### Witnesses: the trio and events -/

/-- `n` resynchronisations began at tick 0, one of them now. -/
def resynced (n : Nat) : State := { lit with trio := { begins := List.replicate n 0 } }

/-- What a copy may do in a window, and physical events that strike one. -/
def anAct : List CopyAct := [.write 0 1, .request true 0x40000000 7]
def otherAct : List CopyAct := [.write 0 2]
def anUpset : List Upset := [⟨false, 0, 1⟩]
def otherUpset : List Upset := [⟨true, 0, 1⟩]

theorem witness_ChecksComplete :
    (∀ st : Fin 4, (lit.put TRIO_STAT.STATE st).trioClock = true ∧ (lit.put TRIO_STAT.STATE st).trioState = st
      ∧ lit.staged = [] ∧ lit.trio.nextPat < 192 ∧ lit.net.rxHeld = []) ∧
    -- windows in which one copy differs from the others, or all three do
    (oddOne (signature anAct) (signature []) (signature []) 0 ∧ oddOne (signature []) (signature anAct) (signature []) 1
      ∧ oddOne (signature []) (signature []) (signature anAct) 2
      ∧ signature anAct ≠ signature [] ∧ signature anAct ≠ signature otherAct ∧ signature otherAct ≠ signature []) ∧
    -- copies of which one differs from the others, or all three do
    (let one (x0 x1 x2 : List Upset) := (upsetCopies x0 x1 x2 lit).hashes;
      oddOne (one anUpset [] []).1 (one anUpset [] []).2.1 (one anUpset [] []).2.2 0
        ∧ oddOne (one [] anUpset []).1 (one [] anUpset []).2.1 (one [] anUpset []).2.2 1
        ∧ oddOne (one [] [] anUpset).1 (one [] [] anUpset).2.1 (one [] [] anUpset).2.2 2
        ∧ (one anUpset otherUpset []).1 ≠ (one anUpset otherUpset []).2.1 ∧ (one anUpset otherUpset []).2.1 ≠ (one anUpset otherUpset []).2.2
        ∧ (one anUpset otherUpset []).1 ≠ (one anUpset otherUpset []).2.2
        ∧ (one [] [] []).1 = (one [] [] []).2.1 ∧ (one [] [] []).2.1 = (one [] [] []).2.2) ∧
    (∀ k : Fin 3, let s := withFields [(TRIO_STAT.STATE, 2), (TRIO_STAT.ODD, k)] lit;
      s.trioState = 2 ∧ runningAgree s (if k = 0 then 1 else 0) (if k = 1 then 1 else 0) (if k = 2 then 1 else 0)
        ∧ ¬ runningAgree s (if k = 0 then 0 else 1) (if k = 0 then 1 else 0) 0) ∧
    (let n := lit.get TRIO_CFG.RSLIM - 1;
      (resynced n).recentResyncs.length < (resynced n).get TRIO_CFG.RSLIM ∧ (resynced n).trioState = 0) ∧
    (let s := { lit with trio := { nextPat := 191 } };
      s.trioState < 3 ∧ s.trio.nextPat < 192 ∧ (2 : Fin 3).val = s.testPattern / 64 ∧ (none : Option (Fin 3)) ≠ some 2) := by
  unfold oddOne runningAgree
  decide +kernel

theorem witness_CopyErrorsComplete :
    (let n := lit.get TRIO_CFG.RSLIM;
      (resynced n).trioClock = true ∧ (resynced n).trioState = 0 ∧ (resynced n).get TRIO_CFG.RSLIM ≤ (resynced n).recentResyncs.length
        ∧ (resynced (n - 1)).recentResyncs.length < (resynced (n - 1)).get TRIO_CFG.RSLIM) ∧
    (∀ b : Bool, (lit.putB TRIO_CFG.PERMDUP b).on TRIO_CFG.PERMDUP = b ∧ (lit.putB TRIO_MM.VALID b).on TRIO_MM.VALID = b) ∧
    (∀ k : Fin 4, (lit.put TRIO_STAT.STATE k).trioState = k ∧ (lit.put TRIO_STAT.STATE k).trioClock = true) := by decide +kernel

theorem witness_ResyncCompletes :
    ∀ k ∈ [1, 2, 3], ∀ odd : Fin 3,
      let s := { withFields [(TRIO_STAT.STATE, 1), (TRIO_STAT.ODD, odd)] lit with trio := { phase := k } };
      s.trioState = 1 ∧ s.trio.phase = k ∧ s.trioClock = true ∧ s.get TRIO_STAT.ODD = odd.val := by decide +kernel

/-- A debug session with replayed writes. -/
def debugged (n : Nat) (st : Nat) : State :=
  { lit.put TRIO_STAT.STATE st with mgs := { dbgAuth := true }, trio := { halted := 2, replay := List.replicate n (0, 0) } }

theorem witness_DebugCompletes :
    (let s := debugged 63 3;
      s.fabricOn = true ∧ s.mgs.dbgAuth = true ∧ s.trioState = 3 ∧ s.trio.halted = 2 ∧ s.trio.replay.length < 64 ∧ s.net.rxHeld = []
        ∧ runningAgree s 0 0 0) ∧
    64 ≤ (debugged 64 3).trio.replay.length ∧
    (let s := { debugged 0 3 with trio := { halted := 0 } };
      let all (x0 x1 : List Upset) := (upsetCopies x0 x1 [] (replayCopies s)).hashes;
      s.trioState = 3 ∧ s.trio.halted = 0 ∧ s.recentResyncs.length < s.get TRIO_CFG.RSLIM
        ∧ (all [] []).1 = (all [] []).2.1 ∧ (all [] []).2.1 = (all [] []).2.2
        ∧ oddOne (all anUpset []).1 (all anUpset []).2.1 (all anUpset []).2.2 0
        ∧ (all anUpset otherUpset).1 ≠ (all anUpset otherUpset).2.1 ∧ (all anUpset otherUpset).2.1 ≠ (all anUpset otherUpset).2.2
        ∧ (all anUpset otherUpset).1 ≠ (all anUpset otherUpset).2.2) ∧
    -- in DUPLEX a running copy that an event has struck
    (let s := (debugged 1 3).put TRIO_STAT.ODD 2;
      let h := (upsetCopies anUpset [] [] (replayCopies s)).hashes;
      s.trio.halted = 2 ∧ ¬ runningAgree s h.1 h.2.1 h.2.2) ∧
    (∀ st ∈ [0, 2], (debugged 0 st).fabricOn = true ∧ (debugged 0 st).mgs.dbgAuth = true ∧ (debugged 0 st).trioClock = true
      ∧ (debugged 0 st).trioState = st) := by
  unfold oddOne runningAgree
  decide +kernel

/-- Both controllers on and error active, the node in an NMT state. -/
def online (nmt : Nat) (net : Net) : State :=
  withFields ((NET_NODE.NMT, nmt) :: (List.range 2).flatMap fun k =>
    [(NET_CTL.EN k, 1), (NET_CTL.LISTEN k, 0), (NET_STAT.ON k, 1), (NET_STAT.STATE k, 0)]) { lit with net := net }

theorem witness_EventsComplete :
    (lit.mayWrite .host (EV_PEND 3) ∧ lit.mayWrite .host (EV_EN 3) ∧ lit.mayWrite .host EV_DOORBELL ∧ lit.fabricOn = true) ∧
    (let o : Occ := { src := 127 };
      let s := { lit with trioQ := [o], emcyQ := [o] };
      s.trioState = 0 ∧ s.trio.wake = false ∧ s.firstOcc s.trioQ = some o ∧ s.stackOn = true ∧ s.emcyQ = o :: []) ∧
    (∃ x, lit.logQ = [x]) ∧
    (let s := (online 1 {}).put (NET_STAT.STATE 0) 2; s.canState 0 = 2 ∧ s.stackOn = true) ∧
    (let s := { lit with logWin := [(127, some (0, 5))] };
      Sparse.get (fun _ => none) s.logWin 127 = some (0, 5) ∧ (∀ x ∈ s.logQ, x.code ≠ 127)
        ∧ (s.logQ.map fun x => { x with code := 127 }).any (fun x => x.code = 127) = true) ∧
    lit.power.haltDue = false := by
  simp only [mayWrite_iff]
  refine ⟨by decide +kernel, by decide +kernel, ⟨_, rfl⟩, by decide +kernel, by decide +kernel, by decide +kernel⟩

/-! ### Witnesses: the network -/

/-- A state in which axis 127 has work. -/
def working (s : State) : State := { s with axes := [(127, { mo := { reqs := [.start] } })] }

theorem witness_NmtCompletes :
    ((online 1 {}).stackOn = true ∧ (online 1 {}).hears 1 = true ∧ (online 1 {}).nmt ≠ 0
      ∧ (online 1 {}).on NET_NODE.RNACT = false ∧ ((online 1 {}).put NET_NODE.RNACT 1).on NET_NODE.RNACT = true) ∧
    ((127 : Nat) ≠ (online 1 {}).node ∧ (online 0 {}).nmt = 0 ∧ (online 0 {}).stackOn = true ∧ (online 0 {}).hears 1 = true) ∧
    (let s := working { online 1 { reset := some 0 } with ticks := 99999 };
      s.stackOn = true ∧ s.net.reset = some 0 ∧ s.elapsed < 0 + 100000 ∧ s.hasWork 127 = true) ∧
    (let s := { online 1 { reset := some 0 } with ticks := 100000 };
      s.net.reset = some 0 ∧ 0 + 100000 ≤ s.elapsed ∧ ∀ a : Fin 128, s.hasWork a = false) ∧
    (let s := online 2 {}; s.power.strap < 128 ∧ s.hears 1 = true) := by
  refine ⟨?_, ?_, ?_, ?_, ?_⟩ <;> decide +kernel

/-- Communication objects set. -/
def objects (l : List (Nat × Nat × Nat)) : Sparse (Option Word) :=
  l.foldl (fun m x => Sparse.set (fun _ => none) m (256 * x.1 + x.2.1) (some (BitVec.ofNat 32 x.2.2))) []

/-- Controller 1 with its transmit queue full. -/
def fullQueue : Net := { can1 := { queue := List.replicate 32 ⟨0x700, .heartbeat 0⟩ } }

theorem witness_MessagesComplete :
    (let s := online 1 { objs := objects [(0x1017, 0, 1000), (0x1016, 32, 0x007F0064)] };
      s.stackOn = true ∧ s.nmt ≠ 0 ∧ s.obj 0x1017 0 ≠ 0 ∧ (∀ k : Fin 2, s.canSends k = true ∧ (s.can k).queue.length < 32)
        ∧ s.hears 1 = true ∧ (s.hbEntry 31).1 = 127 ∧ (s.hbEntry 31).2 ≠ 0) ∧
    ((online 1 {}).obj 0x1017 0 = 0 ∧ (online 1 fullQueue).canSends 1 = true ∧ 32 ≤ ((online 1 fullQueue).can 1).queue.length
      ∧ ((online 1 {}).put (NET_CTL.LISTEN 1) 1).canSends 1 = false) ∧
    (let s := online 2 { hbMon0 := 2 ^ 31, objs := objects [(0x1016, 32, 0x007F0064)] };
      s.stackOn = true ∧ s.nmt ≠ 0 ∧ natBit s.net.hbMon0 31 = true ∧ (s.hbEntry 31).1 ≠ 0 ∧ (s.hbEntry 31).2 ≠ 0
        ∧ (s.hbEntry 30).1 = 0) ∧
    (let s := online 2 { can1 := { emcys := [.emcy 0x8250 1 0] } };
      s.nmt = 2 ∧ (s.can 1).emcys = .emcy 0x8250 1 0 :: [] ∧ (s.can 1).emcyAt = none) ∧
    (let s (t : Nat) : State := { online 2 { can1 := { emcys := [.emcy 0x8250 1 0], emcyAt := some 0 }, objs := objects [(0x1015, 0, 10)] } with ticks := t };
      0 + 10 * ((s 100).obj 0x1015 0).toNat ≤ (s 100).ticks ∧ (s 99).ticks < 0 + 10 * ((s 99).obj 0x1015 0).toNat
        ∧ ((s 99).can 1).emcys = .emcy 0x8250 1 0 :: [] ∧ ((s 99).can 1).emcyAt = some 0) ∧
    (let s := withFields [(NET_NODE.SYNCBUS, 1), (AX_STAT.ARMED 127, 1), (AX_STARTCFG.SRC 127, 2), (AX_STARTCFG.SEGSYNC 126, 2), (PL_CFG.RUNSRC, 2)]
        { online 2 { objs := objects [(0x183F, 1, 0x1FF), (0x183F, 2, 0)], tpdoDue := 2 ^ 63, held := [(0, [])] } with
          pl := { waiting := true }, axes := [(126, { mo := { run := .segWait 0 true } })] };
      s.stackOn = true ∧ s.nmt = 2 ∧ s.hears 1 = true ∧ s.get NET_NODE.SYNCBUS = 1 ∧ s.on (AX_STAT.ARMED 127) = true
        ∧ s.get (AX_STARTCFG.SRC 127) = 2 ∧ (s.mo 126).run = .segWait 0 true ∧ s.get (AX_STARTCFG.SEGSYNC 126) = 2 ∧ s.runWaits = true
        ∧ s.get PL_CFG.RUNSRC = 2 ∧ s.tpdoOn 63 = true ∧ s.tpdoType 63 = 0 ∧ natBit s.net.tpdoDue 63 = true ∧ s.net.held ≠ []) ∧
    ((online 2 {}).net.held = [] ∧ (online 2 {}).get NET_NODE.SYNCBUS = 0 ∧ ((online 2 {}).put NET_NODE.SYNCBUS 1).get NET_NODE.SYNCBUS = 1
      ∧ ((online 2 {}).put NET_NODE.SETRTC 0).on NET_NODE.SETRTC = false ∧ (online 2 {}).on NET_NODE.SETRTC = true) := by
  refine ⟨?_, ?_, ?_, ?_, ?_, ?_, ?_⟩ <;> decide +kernel

/-- PDOs 64 mapped: RPDO synchronous with a deadline, TPDO event-driven with an event timer. -/
def mapped : Sparse (Option Word) :=
  objects [(0x143F, 1, 0x27F), (0x143F, 2, 1), (0x143F, 5, 10), (0x163F, 0, 1), (0x163F, 1, 0x00050008), (0x183F, 1, 0x1FF),
    (0x183F, 2, 254), (0x183F, 3, 10), (0x183F, 5, 10), (0x2017, 64, 1), (0x2017, 128, 1)]

theorem witness_PdosComplete :
    (let s := online 2 { objs := mapped, rpdoSeen := 2 ^ 63, tpdoDue := 2 ^ 63 };
      s.nmt = 2 ∧ s.stackOn = true ∧ s.hears 1 = true ∧ s.pdoValid 0x1400 63 = true ∧ s.pdoOn true 63 1 = true
        ∧ mapBytes (s.mapping 0x1600 63) = 1 ∧ (s.obj (0x1400 + 63) 2).toNat < 254 ∧ s.obj (0x1400 + 63) 5 ≠ 0
        ∧ natBit s.net.rpdoSeen 63 = true ∧ s.tpdoOn 63 = true ∧ 254 ≤ s.tpdoType 63 ∧ s.tpdoFree 63 = true
        ∧ natBit s.net.tpdoDue 63 = true ∧ s.obj (0x1800 + 63) 5 ≠ 0 ∧ s.canSends 1 = true ∧ s.pdoOn false 63 1 = true
        ∧ (s.can 1).queue = [] ∧ s.bad = [] ∧ s.mapping 0x1A00 63 = []) ∧
    (let s := online 2 { objs := Sparse.set (fun _ => none) mapped (256 * 0x143F + 2) (some 254) };
      s.nmt = 2 ∧ s.stackOn = true ∧ s.pdoValid 0x1400 63 = true ∧ s.pdoOn true 63 1 = true ∧ 254 ≤ (s.obj (0x1400 + 63) 2).toNat
        ∧ mapBytes (s.mapping 0x1600 63) = 1) ∧
    ((online 2 {}).pdoValid 0x1400 63 = false ∧ (online 2 {}).hears 1 = true) ∧
    (let s := online 2 { objs := mapped, can1 := { queue := [⟨0x1FF, .tpdo 63 [0]⟩] } };
      ∃ x ∈ (s.can 1).queue, x.isTpdo 63 = true) ∧
    (let s := online 2 { objs := mapped, tpdoLast := [(63, some 0)], tpdoDue := 2 ^ 63 };
      s.nmt = 2 ∧ s.stackOn = true ∧ s.tpdoOn 63 = true ∧ 254 ≤ s.tpdoType 63 ∧ s.tpdoFree 63 = false ∧ natBit s.net.tpdoDue 63 = true
        ∧ s.obj (0x1800 + 63) 5 ≠ 0) := by
  refine ⟨?_, ?_, ?_, ?_, ?_⟩ <;> decide +kernel

/-- An authenticated context of node 127 on controller 1. -/
def theCtx : Ctx := { can := 1, node := 127, sess := 255, auth := true }

theorem witness_UsdoCompletes :
    (let s := online 1 {};
      s.stackOn = true ∧ s.hears 1 = true ∧ s.nmt = 1 ∧ 127 ≠ s.node ∧ s.net.quar.contains 127 = false ∧ s.net.done = [] ∧ s.net.ctxs = []
        ∧ 0 < s.get NET_GUARD.PERNODE ∧ (0x1017 : BitVec 16) ≠ 0x3300
        ∧ (match s.findObj 0xFFFF 0xFF with | .error _ => true | .ok _ => false) = true) ∧
    (let s := online 2 { ctxs := [theCtx] };
      s.stackOn = true ∧ s.hears 1 = true ∧ s.net.ctxs = [theCtx] ∧ s.locked = false ∧ s.mayGuard .trio GCTL_STORE ∧ s.nvm.cmd = 0
        ∧ s.runState = 0 ∧ (∀ i : Fin 8, s.on (WAVE_CTL.LOAD i) = false) ∧ s.ctxAuth ⟨1, 127, 255⟩ = true ∧ s.get NET_GUARD.MALLIM ≠ 0
        ∧ s.net.mal = []) ∧
    (let x := { theCtx with xfer := some { idx := 0x1017, sub := 0, down := true } };
      (online 2 { ctxs := [x] }).net.ctxs = [x] ∧ (online 2 { ctxs := [x] }).ctx ⟨1, 127, 255⟩ = some x ∧ x.xfer.isSome = true
        ∧ x.busy = false) ∧
    -- the limits of R328: the contexts of one node, 224 open contexts without an authenticated one of the node, 256 in all
    (let s := (online 2 { ctxs := [{ theCtx with sess := 254 }] }).put NET_GUARD.PERNODE 1;
      s.hears 1 = true ∧ s.ctx ⟨1, 127, 255⟩ = none ∧ (∀ x ∈ s.net.ctxs, x.wait = .none)
        ∧ s.get NET_GUARD.PERNODE ≤ (s.net.ctxs.filter fun x => x.node = 127).length) ∧
    (let l (n : Nat) : List Ctx := (List.range n).map fun i => { can := 0, node := 1, sess := i };
      ∀ n ∈ [224, 256], let s := online 2 { ctxs := l n };
        s.ctx ⟨1, 127, 255⟩ = none ∧ (∀ x ∈ s.net.ctxs, x.wait = .none)
          ∧ (s.net.ctxs.filter fun x => x.node = 127).length < s.get NET_GUARD.PERNODE
          ∧ (s.net.ctxs.length = 256 ∨ (224 ≤ (s.net.ctxs.filter fun x => !x.auth).length ∧ ∀ x ∈ s.net.ctxs, x.node = 127 → x.auth = false))) ∧
    -- a transfer in its steps
    (∀ x ∈ [({ idx := 0x1017, sub := 0, down := true } : Xfer),
        { idx := 0x1017, sub := 0, down := true, block := some ⟨blockMax, 0, false⟩ },
        { idx := 0x1017, sub := 0, down := true, data := [7, 0], block := some ⟨blockMax, 0, true⟩ },
        { idx := 0x1017, sub := 0, down := false, data := [7, 0], block := some ⟨127, 0, false⟩ }],
      let s := online 2 { ctxs := [{ theCtx with xfer := some x }] };
      s.net.ctxs = [{ can := 1, node := 127, sess := 255, auth := true, xfer := some x }] ∧ s.get NET_GUARD.MALLIM ≠ 0 ∧ s.net.mal = []
        ∧ x.data.length ≤ usdoChunk ∧ s.locked = false) ∧
    ((0 : Word) ≠ 0x65766173 ∧ (0xFFFFFFFF : Word) ≠ 0x64616F6C ∧ (127 : BitVec 7) ≠ 0) := by
  simp only [mayGuard_iff]
  refine ⟨?_, ?_, ?_, ?_, ?_, ?_, ?_⟩ <;> decide +kernel

theorem witness_QuarantineCompletes :
    (let s := online 1 { mal := [(some 127, 0)] };
      s.hears 1 = true ∧ s.stackOn = true ∧ 127 ≠ s.node ∧ s.net.quar.contains 127 = false
        ∧ (s.net.mal ++ [(some 127, 0)]).length ≤ s.get NET_GUARD.MALLIM) ∧
    (let s := (online 1 { mal := [(some 127, 0)] }).put NET_GUARD.MALLIM 1;
      s.get NET_GUARD.MALLIM < (s.net.mal ++ [(some 127, 0)]).length) ∧
    (let s := (online 1 { quar := [127] }).put NET_MAL.LASTNODE 127;
      s.hears 1 = true ∧ s.stackOn = true ∧ s.net.quar.contains 127 = true ∧ s.get NET_MAL.LASTNODE = 127) ∧
    -- frames of no known node at the limit of R330 and beyond it
    (let s (n : Nat) : State := (online 1 { mal := List.replicate n (none, 0) }).put NET_GUARD.MALLIM 1;
      let n (k : Nat) := ((s k).net.mal ++ [(none, (s k).elapsed)]).length;
      n 3 ≤ 4 * (s 3).get NET_GUARD.MALLIM ∧ 4 * (s 4).get NET_GUARD.MALLIM < n 4 ∧ n 4 ≤ 4 * (s 4).get NET_GUARD.MALLIM + 1
        ∧ (s 9).net.malOver = false) ∧
    (online 1 {}).node < 128 := by decide +kernel

theorem witness_ControllersComplete :
    ((online 1 {}).canReceives 1 = true ∧ (online 1 {}).on (NET_CTL.EN 1) = true ∧ (online 1 {}).on (NET_STAT.ON 1) = true
      ∧ (online 1 {}).canState 1 = 0 ∧ ((online 1 {}).can 1).ending = false ∧ (online 1 {}).mayWrite .host (NET_CTL 1)
      ∧ ((online 1 {}).latest (NET_CTL 1)).getLsbD 0 = true) ∧
    (∀ st ∈ [1, 2, 3], let s := (online 1 {}).put (NET_STAT.STATE 1) st;
      s.canState 1 = st ∧ s.on (NET_CTL.EN 1) = true ∧ s.power.inReset = false ∧ s.runState ≠ 3 ∧ s.mayWrite .host (NET_CTL 1)
        ∧ (s.latest (NET_CTL 1)).getLsbD 0 = true) ∧
    (lit.mayWrite .host (NET_CTL 1) ∧ lit.on (NET_CTL.EN 1) = false ∧ (lit.latest (NET_CTL 1)).getLsbD 0 = false
      ∧ timingBad (lit.latest (NET_CTL 1)) (lit.latest (NET_NBT 1)) (lit.latest (NET_DBT 1)) = false) ∧
    (let s := lit.wr (NET_NBT 1) 0;
      s.mayWrite .host (NET_CTL 1) ∧ s.on (NET_CTL.EN 1) = false
        ∧ timingBad (s.latest (NET_CTL 1)) (s.latest (NET_NBT 1)) (s.latest (NET_DBT 1)) = true) ∧
    (∀ st ∈ [0, 3], let s := withFields [(NET_STAT.STATE 0, 2), (NET_STAT.STATE 1, st)] (online 1 {});
      s.canState 1 ≠ 2 ∧ s.on (NET_CTL.EN 0) = true ∧ s.canState 0 = 2 ∧ s.mayWrite .host (NET_CTL 1)
        ∧ (s.latest (NET_CTL 1)).getLsbD 0 = true) ∧
    -- a controller that ends its frame after EN = 0, and the device in NAP
    (let s := (online 1 { can1 := { ending := true } }).put (NET_CTL.EN 1) 0;
      (s.can 1).ending = true ∧ s.on (NET_STAT.ON 1) = true ∧ s.canState 1 < 2) ∧
    (napping ((online 1 {}).put GCTL_RUNSTAT.STATE 2) = true ∧ napping (online 1 {}) = false) := by
  simp only [mayWrite_iff]
  refine ⟨?_, ?_, ?_, ?_, ?_, ?_, ?_⟩ <;> decide +kernel

/-! ### Witnesses: the serial ports -/

/-- A frame of the host port in progress. -/
def framed (c addr : Nat) (f : HostPort → HostPort) : State :=
  { lit with sph := f { inFrame := true, headed := true, cmd := c, start := addr, addr := addr } }

theorem witness_HostFramesComplete :
    (lit.power.inReset = false ∧ lit.runState = 0 ∧ lit.staged = [] ∧ lit.guards = [] ∧ portIdle lit ∧ noneWaits lit
      ∧ (∀ c ∈ [0x03, 0x0B, 0x02, 0x0A, 0x05], hostCommand c = true) ∧ hostCommand 0 = false
      ∧ (∀ b : Bool, (lit.putB SPH_CFG.CRC b).hostCrc = b) ∧ (1 : BitVec 8) ≠ crc8 (0x02 :: beBytes 3 0)
      ∧ (1 : BitVec 8) ≠ crc8 (beBytes 4 0)) ∧
    (∀ c ∈ [0x03, 0x0B], let s := framed c GCTL_SCRATCH fun p => { p with got := some 7 };
      inSlot s c ∧ s.sph.got = some 7 ∧ s.mayRead .host GCTL_SCRATCH ∧ s.isBad GCTL_SCRATCH = false) ∧
    (∀ c ∈ [0x02, 0x0A], let s := framed c GCTL_SCRATCH id;
      inSlot s c ∧ s.sph.block = [] ∧ s.sph.addr % 64 ≠ 0x3C ∧ s.sph.addr = GCTL_SCRATCH ∧ s.mayWrite .host GCTL_SCRATCH) ∧
    (inSlot (framed 0x05 0 id) 0x05 ∧ (framed 0x05 0 id).sph.block = []) ∧
    (let s := framed 0x03 GCTL_SCRATCH id;
      s.slotOpen 0x03 = true ∧ s.sph.got = none ∧ s.sph.reading = false ∧ s.sph.issue = [] ∧ s.on SPH_ERR.VALID = false) ∧
    (let s := framed 0x02 GCTL_SCRATCH fun p => { p with full := true, nextFull := true };
      s.slotOpen 0x02 = true ∧ s.sph.buffersHeld = true ∧ s.sph.reading = false ∧ s.sph.issue = [] ∧ s.sph.blockAge = 0 ∧ s.sph.nextAge = 0) ∧
    (let s := { framed 0x02 GCTL_SCRATCH fun p => { p with full := true, blockAge := 2, issue := [(GCTL_SCRATCH, 7)] } with
        replies := [(masterCode .host, .waiting)] };
      s.slotOpen 0x02 = true ∧ s.sph.buffersHeld = true ∧ s.sph.blockAge ≠ 0 ∧ s.sph.reading = false ∧ s.sph.issue ≠ []
        ∧ s.reply .host = .waiting) ∧
    -- a frame before the reset sequence ends, one that has failed, and one without an SCK edge
    ({ State.reset with power := { inReset := true } } : State).power.inReset = true ∧
    (let s := framed 0x03 GCTL_SCRATCH fun p => { p with failed := true };
      portIdle s ∧ s.sph.refusing = true ∧ noneWaits s ∧ s.sph.headed = true ∧ s.sph.reads = false ∧ s.sph.inFrame = true) ∧
    (let s := { framed 0x03 GCTL_SCRATCH fun p => { p with reading := true } with replies := [(masterCode .host, .waiting)] };
      s.slotOpen 0x03 = true ∧ s.sph.got = none ∧ s.sph.reading = true ∧ s.reply .host = .waiting) ∧
    (let s := framed 0x02 GCTL_SCRATCH fun p => { p with block := [(GCTL_SCRATCH, 7)] };
      inSlot s 0x02 ∧ s.sph.block = [(GCTL_SCRATCH, 7)] ∧ s.mayWrite .host GCTL_SCRATCH) ∧
    (let s := { lit with sph := { inFrame := true } };
      portIdle s ∧ s.sph.inFrame = true ∧ s.sph.early = false ∧ s.sph.headed = false ∧ s.sph.dead = false
        ∧ noneWaits s ∧ s.sph.block = [] ∧ s.on SPH_ERR.VALID = false) ∧
    -- the frame ends inside a word
    (let s := framed 0x02 GCTL_SCRATCH id;
      portIdle s ∧ noneWaits s ∧ s.sph.inFrame = true ∧ s.sph.early = false ∧ s.sph.dead = false ∧ s.sph.block = [] ∧ s.sph.headed = true
        ∧ s.sph.reads = false) := by
  simp only [mayWrite_iff, mayRead_iff]
  unfold inSlot portIdle noneWaits
  refine ⟨?_, ?_, ?_, ?_, ?_, ?_, ?_, ?_, ?_, ?_, ?_, ?_, ?_⟩ <;> decide +kernel

/-- The window open, with a line held. -/
def windowOn (p : Spm) : State := { lit.put SPM_CFG.XEN 1 with spm := p }

/-- An access of any width passes checks 1 to 3. -/
def passesAs (s : State) (m : Master) (size : AccessSize) (addr : Nat) (write : Bool) : Bool :=
  match accessCheck m size addr write s with
  | .ok _ => true
  | .error _ => false

theorem access_ok {s : State} {m : Master} {size : AccessSize} {addr : Nat} {write : Bool} (h : passesAs s m size addr write = true) :
    ∃ x, accessCheck m size addr write s = .ok x := by
  unfold passesAs at h
  split at h
  · exact ⟨_, by assumption⟩
  · cases h

theorem witness_WindowCompletes :
    (∀ p, (∃ x, accessCheck .host .byte 0xFFFFFF false (windowOn p) = .ok x) ∧ (∃ x, accessCheck .host .half 0xFFFFFE false (windowOn p) = .ok x)
      ∧ (∃ x, accessCheck .host .word 0xFFFFFC false (windowOn p) = .ok x)) ∧
    (let s := windowOn { lines := [⟨0x1FFFF, []⟩] };
      let f := s.flashAddr 0xFFFFFF;
      0x800000 ≤ 0xFFFFFF ∧ s.windowOpen f = true ∧ (s.spm.lines.find? (fun x => x.line = f / 64)).isSome = true
        ∧ (windowOn {}).spm.lines.find? (fun x => x.line = f / 64) = none) ∧
    (lit.windowOpen (lit.flashAddr 0xFFFFFC) = false ∧ passesAs lit .host .word 0xFFFFFC false = true) ∧
    (∀ f ∈ [0x7FFFFF, 0], ∀ size ∈ [AccessSize.byte, .half, .word],
      let s := windowOn { fetches := [(0x1FFFF, false), (0, true)], waits := [(.host, f, size)] };
      s.spmBusy = false ∧ s.spm.waits = (.host, f, size) :: [] ∧ s.sph.reading = false ∧ s.sph.issue = [] ∧ 0x7FFFFF / 64 = 0x1FFFF) ∧
    lit.staged = [] := by
  refine ⟨fun p => ⟨access_ok ?_, access_ok ?_, access_ok ?_⟩, ?_, ?_, ?_, ?_⟩ <;> first | rfl | decide +kernel

/-- SFDP DWORDs: the header with one parameter header, and a basic table of four DWORDs at byte 16: 128 Mbit, 1-4-4 by opcode 0xEB with
more clocks than DUMMY holds. -/
def sfdp : List Word := [0x50444653, 0x00000106, 0x04000000, 0xFF000010, 0x00000000, 0x07FFFFFF, 0x6B08EBFF, 0x00000000]

theorem witness_FlashCompletes :
    (let v := wordPut 0x00010000 31 31 1;
      let s := windowOn { rx := [] };
      s.mayWrite .host SPM_CMD ∧ s.spmBusy = false ∧ v &&& 0xE0000 = 0 ∧ wordField v 16 8 = 256 ∧ wordField v 25 24 ≠ 3
        ∧ wordField v 27 26 ≠ 3 ∧ wordField v 28 28 = 0 ∧ 256 ≤ 4 * (64 - s.spm.rx.length)) ∧
    (let v := wordPut 0x10010000 31 31 1;
      let s := windowOn { tx := List.replicate 64 0 };
      wordField v 28 28 = 1 ∧ wordField v 16 8 ≤ 4 * s.spm.tx.length ∧ v &&& 0xE0000 = 0) ∧
    (∀ probe waitOk got, let s := windowOn { run := some ⟨probe, 0x40000000, true, waitOk, got⟩ };
      s.spm.run = some ⟨probe, 0x40000000, true, waitOk, got⟩ ∧ wordField (0x40000000 : Word) 30 30 = 1) ∧
    (let v := wordPut 0x01010000 31 31 1;
      let s := windowOn { run := some ⟨false, 0, true, true, false⟩ };
      s.mayWrite .host SPM_CMD ∧ s.spmBusy = true ∧ v &&& 0xE0000 = 0 ∧ wordField v 25 24 ≠ 3 ∧ wordField v 27 26 ≠ 3
        ∧ 256 < wordField (wordPut 0x0001FFFF 31 31 1) 16 8) ∧
    -- a table whose fields stand at their bounds, and DWORDs that hold none
    ((basicTable sfdp).isSome = true ∧ (Sfdp.decode (sfdp.drop 4)).q144 = some (0xEB, 15) ∧ (Sfdp.decode (sfdp.drop 4)).size = 24
      ∧ (some [0, 0] : Option (List Word)).bind basicTable = none ∧ (none : Option (List Word)).bind basicTable = none) ∧
    (lit.mayWrite .host SPM_CTL ∧ lit.spmBusy = false) ∧
    (∀ n ∈ [63, 64], let s := windowOn { tx := List.replicate n 0, rx := [5] };
      s.mayWrite .host SPM_TXFIFO ∧ s.spm.tx.length = n ∧ s.mayRead .host SPM_RXFIFO ∧ s.isBad SPM_RXFIFO = false
        ∧ s.spm.rx = 5 :: [] ∧ lit.spm.rx = []) := by
  simp only [mayWrite_iff, mayRead_iff]
  refine ⟨?_, ?_, ?_, ?_, ?_, ?_, ?_⟩ <;> decide +kernel

/-! ### Witnesses: management -/

/-- The management subsystem in a state. -/
def managed (m : Mgs) : State := { lit with mgs := m }

theorem witness_MonitorsComplete :
    (lit.power.inReset = false ∧ lit.runState ≠ 3 ∧ 16 * (lit.get MGS_THCFG.SHUT : Int) ≤ 32767
      ∧ 16 * (lit.get MGS_THCFG.WARN : Int) ≤ 32767 ∧ lit.bitAt (EV_ACT 3) 30 = false ∧ lit.trioState ≠ 4 ∧ lit.trioRuns = true) ∧
    ((lit.put GCTL_RUNSTAT.STATE 3).runState = 3 ∧ (lit.put TRIO_STAT.STATE 4).trioRuns = false ∧ lit.ticks < lit.mgs.wdStart + 100 * lit.get MGS_WDCFG.TOUT) ∧
    (let s := { lit with ticks := 100 * lit.get MGS_WDCFG.TOUT };
      s.watchdogRuns = true ∧ s.mgs.wdStart + 100 * s.get MGS_WDCFG.TOUT ≤ s.ticks ∧ s.trioState ≠ 4
        ∧ (s.put TRIO_STAT.STATE 4).watchdogRuns = true ∧ ({ s with mgs := { wdRun := false } } : State).watchdogRuns = false) ∧
    (let s := working { managed { resetDue := some 0, actReset := true } with ticks := 99999 };
      s.mgs.resetDue = some 0 ∧ s.elapsed < 0 + 100000 ∧ s.hasWork 127 = true) ∧
    (lit.mgs.actReset = false ∧ lit.mgs.resetDue = none) ∧
    (∀ m ∈ [({ resetDue := some 0 } : Mgs), { actReset := true }],
      ((managed m).mgs.actReset = true ∨ (managed m).mgs.resetDue.isSome = true) ∧ ∀ a : Fin 128, (managed m).hasWork a = false) ∧
    (let s := { managed { resetDue := some 0 } with ticks := 100000 };
      s.mgs.resetDue = some 0 ∧ 0 + 100000 ≤ s.elapsed) ∧
    lit.logQ.length < 62 := by
  refine ⟨?_, ?_, ?_, ?_, ?_, ?_, ?_, ?_⟩ <;> decide +kernel

theorem witness_LogAndUpdateComplete :
    (lit.mayRead .host MGS_LOGDATA ∧ lit.isBad MGS_LOGDATA = false ∧ lit.unread = 0) ∧
    (∀ k : Fin 8, let s := managed { nextSeq := 1, log := [⟨0, 0, 0x0100, 0, false, 0, 0, 0⟩], logIdx := k };
      s.mayRead .host MGS_LOGDATA ∧ s.isBad MGS_LOGDATA = false ∧ s.unread ≠ 0 ∧ s.mgs.logIdx = k) ∧
    (let s := managed { nextSeq := 1, log := [⟨0, 0, 0x0100, 0, false, 0, 0, 0⟩] };
      s.mayWrite .host MGS_LOGRPTR ∧ s.oldestSeq ≤ (1 : Word).toNat ∧ (1 : Word).toNat ≤ s.mgs.nextSeq ∧ s.oldestSeq ≤ (0 : Word).toNat
        ∧ s.clampSeq (2 : Word).toNat ≠ (2 : Word).toNat) ∧
    (lit.mayWrite .host MGS_UPDCTL ∧ lit.updRefused 1 = false ∧ (∀ k ∈ [2, 3, 4, 5, 6], lit.updRefused k = true)
      ∧ (managed { updCmd := 1 }).updRefused 1 = true) ∧
    (∀ x ∈ [(1, 2), (2, 3), (5, 4), (2, 6)], let s := managed { slotB := { state := x.1 } };
      s.mayWrite .host MGS_UPDCTL ∧ s.updRefused x.2 = false) ∧
    (let s := managed { slotA := { state := 6 } };
      s.mayWrite .host MGS_UPDCTL ∧ s.updRefused 5 = false) ∧
    (∀ n ∈ [2 ^ 19 - 2, 2 ^ 19 - 1], let s := (managed { slotB := { state := 1 } }).put MGS_UPDADDR.ADDR n;
      s.mayWrite .host MGS_UPDDATA ∧ s.spare.state = 1 ∧ s.mgs.updFull = false ∧ s.get MGS_UPDADDR.ADDR = n) ∧
    (lit.mayWrite .host MGS_UPDDATA ∧ lit.spare.state ≠ 1) := by
  simp only [mayWrite_iff, mayRead_iff]
  refine ⟨?_, ?_, ?_, ?_, ?_, ?_, ?_, ?_⟩ <;> decide +kernel

theorem witness_UpdateEndCompletes :
    (∀ k ∈ [0, 1, 2, 3, 4, 5], let s := managed { updCmd := k };
      s.net.ctxs = [] ∧ s.net.done = [] ∧ s.mgs.updCmd = k) ∧
    (let x : Xfer := { idx := 0x1F50, sub := 1, down := true };
      let s := { online 1 { ctxs := [{ theCtx with wait := .update, xfer := some x }] } with mgs := { updCmd := 2 } };
      s.net.ctxs = [{ can := 1, node := 127, sess := 255, auth := true, wait := .update, xfer := some x }] ∧ x.data = []
        ∧ s.stackOn = true ∧ s.mgs.updCmd = 2 ∧ s.net.done = []) := by decide +kernel

theorem witness_SecurityCompletes :
    (lit.mayWrite .host MGS_SECCMD ∧ lit.mgs.sec = none ∧ lit.sessionOf .host = false ∧ lit.mayWrite .trio MGS_SECCMD
      ∧ (managed { hostAuth := true }).sessionOf .host = true ∧ (managed { hostAuth := true }).mayWrite .host MGS_SECCMD
      ∧ (managed { ak := none }).mgs.ak = none ∧ (managed { ak := some [] }).mgs.ak ≠ none) ∧
    (let s := managed { sec := some ⟨7, 0, false, true⟩ }; s.mayWrite .host MGS_SECCMD ∧ s.mgs.sec ≠ none) ∧
    (managed { sec := some ⟨7, 0, false, true⟩, hostAuth := true }).sessionOf .host = true ∧
    (∀ k ∈ [1, 2, 3, 4, 5, 6, 7, 8],
      let r : SecRun := ⟨k, 15, true, true⟩;
      let s := managed { sec := some r, ident := if k = 3 then 0 else 1, ak := some [] };
      s.mgs.sec = some r ∧ s.secResult r = 0) ∧
    (let r : SecRun := ⟨7, 0, false, true⟩;
      let s := managed { sec := some r };
      s.mgs.sec = some r ∧ s.secResult r ≠ 0) := by
  simp only [mayWrite_iff]
  decide +kernel

/-- The tag that answers the challenge issued now in a context. -/
def theTag : List Word :=
  responseTag (List.replicate 8 0) ((List.range 4).map (Config.random 0)) Config.serial 1 127 255

/-- A context that waits for the check of that tag. -/
def authing : State :=
  online 2 { ctxs := [{ can := 1, node := 127, sess := 255, chal := some ((List.range 4).map (Config.random 0)), resp := some theTag }] }

/-- A context with a response but no challenge, and failures of its node already counted. -/
def failing (n : Nat) : State :=
  online 2 { ctxs := [{ can := 1, node := 127, sess := 255, chal := none, resp := some [] }], badResp := [(127, n)] }

theorem witness_AuthenticationCompletes :
    (lit.mayRead .host (MGS_AUCHAL 0) ∧ lit.isBad (MGS_AUCHAL 0) = false ∧ lit.mgs.hostCh = none ∧ lit.fabricOn = true) ∧
    (let s := managed { hostCh := some [1, 2, 3, 4] };
      s.mayRead .host (MGS_AUCHAL 0) ∧ s.isBad (MGS_AUCHAL 0) = false ∧ s.mgs.hostCh ≠ none) ∧
    (lit.mgs.dbgCh = none ∧ (managed { dbgCh := some [] }).mgs.dbgCh ≠ none ∧ lit.runState < 2 ∧ 2 ≤ (lit.put GCTL_RUNSTAT.STATE 2).runState) ∧
    (lit.put GCTL_RUNSTAT.STATE 3).fabricOn = false ∧
    (let s := online 1 {};
      s.stackOn = true ∧ s.hears 1 = true ∧ s.nmt = 1 ∧ 127 ≠ s.node ∧ s.net.quar.contains 127 = false ∧ s.net.ctxs = []
        ∧ 0 < s.get NET_GUARD.PERNODE) ∧
    ((managed { respDue := true }).mgs.respDue = true ∧ lit.mgs.respDue = false
      ∧ lit.responseOk lit.mgs.hostCh lit.hostResponse 2 0 0 = false ∧ lit.responseOk lit.mgs.dbgCh [] 3 0 0 = false) ∧
    (authing.net.ctxs = [{ can := 1, node := 127, sess := 255, chal := some ((List.range 4).map (Config.random 0)), resp := some theTag }]
      ∧ authing.free = 0
      ∧ authing.responseOk (some ((List.range 4).map (Config.random authing.free))) theTag 1 127 255 = true) ∧
    (∀ n ∈ [1, 2], (failing n).net.ctxs = [{ can := 1, node := 127, sess := 255, chal := none, resp := some [] }]
      ∧ (failing n).responseOk none [] 1 127 255 = false ∧ Sparse.get (fun _ => 0) (failing n).net.badResp 127 = n) ∧
    (let s := managed { hostAuth := true, dbgAuth := true };
      s.mgs.hostAuth = true ∧ s.mgs.dbgAuth = true ∧ lit.mgs.hostAuth = false ∧ lit.mgs.dbgAuth = false) := by
  simp only [mayRead_iff]
  refine ⟨by decide +kernel, by decide +kernel, by decide +kernel, by decide +kernel, by decide +kernel, by decide +kernel, ⟨rfl, rfl, ?_⟩,
    by decide +kernel, by decide +kernel⟩
  have gone : authing.keysGone = false := by decide +kernel
  simp only [State.responseOk, gone, Bool.false_eq_true, if_false, decide_eq_true_eq]
  rfl

theorem witness_AlarmCompletes :
    (lit.runState ≠ 3 ∧ lit.on GCTL_CLKSTAT.REFOK = true ∧ lit.fabricOn = true ∧ lit.mgs.dbgAuth = false ∧ lit.power.inReset = false) ∧
    ((lit.put GCTL_RUNSTAT.STATE 3).runState = 3 ∧ (lit.put GCTL_CLKSTAT.REFOK 0).on GCTL_CLKSTAT.REFOK = false
      ∧ (managed { dbgAuth := true }).mgs.dbgAuth = true ∧ lit.mgs.erase = none) ∧
    (managed { erase := some 5 }).mgs.erase = some 5 := by decide +kernel

/-! ### Witnesses: the device as a whole -/

theorem witness_StepRunsFront :
    ({ lit with pending := [.tamper, .bootUp] } : State).pending = .tamper :: [.bootUp] ∧ lit.pending = [] := ⟨rfl, rfl⟩

theorem witness_EmptyQueueIdles : lit.pending = [] := rfl

theorem witness_GoodKept :
    let s := { State.reset with pending := [.rtcAlarm] };
    Good s ∧ ∃ t, step s = .next t := by
  refine ⟨?_, _, rfl⟩
  constructor <;> first | decide +kernel | (unfold Trio.good Copy.good; decide +kernel) | (intro x h; cases h) | (refine ⟨?_, ?_, ?_⟩ <;> first | decide +kernel | (intro x h; cases h)) |
    (refine ⟨?_, ?_, ?_, ?_⟩ <;> first | decide +kernel | (refine ⟨?_, ?_, ?_⟩ <;> decide +kernel) | (intro x h; cases h))

/-- The check that an access meets: its error, or 0. -/
def checked (s : State) (addr : Nat) : Nat :=
  match accessCheck .host .word addr true s with
  | .ok _ => 0
  | .error e => e.code

/-- A write of the host reaches a register. -/
def reaches (s : State) (addr : Nat) (l : Loc) : Prop :=
  locate addr = some l ∧ checked s addr = 0 ∧ l.defn.pair = .none

def idLoc : Loc := locAt GCTL_ID
def domLoc : Loc := locAt GCTL_PWRDOM
def complLoc : Loc := locAt (GCTL_PWRDOM + 4)
def vmaxLoc : Loc := locAt (AX_VMAX 127)

theorem witness_FailedWriteRecorded :
    (lit.voterBlocks .host = false ∧ (lit.put TRIO_STAT.STATE 4).voterBlocks .trio = true) ∧
    (checked lit 0x7FFFFC ≠ 0 ∧ lit.on GCTL_BUSERR.VALID = false ∧ (lit.put GCTL_BUSERR.VALID 1).on GCTL_BUSERR.VALID = true
      ∧ checked (lit.put GCTL_BUSERR.VALID 1) 0x7FFFFC ≠ 0) ∧
    -- ACCESS, RESERVED_BIT with and without a window, GUARD of another master's window
    (reaches lit GCTL_ID idLoc ∧ idLoc.compl = false ∧ idLoc.writable = false) ∧
    (let s := { lit with guards := [(GCTL_PWRDOM, some ⟨.trio, 0⟩)] };
      reaches s GCTL_PWRDOM domLoc ∧ domLoc.compl = false ∧ domLoc.writable = true ∧ (2 : Word) &&& reservedBits domLoc.defn ≠ 0
        ∧ (1 : Word) &&& reservedBits domLoc.defn = 0 ∧ domLoc.defn.guarded = true ∧ s.guardAt GCTL_PWRDOM = some ⟨.trio, 0⟩ ∧ Master.trio ≠ .host) ∧
    -- a value the register does not have, and one its block refuses
    (reaches lit (AX_MODE 127) modeLoc ∧ modeLoc.compl = false ∧ modeLoc.writable = true ∧ (7 : Word) &&& reservedBits modeLoc.defn = 0
        ∧ modeLoc.defn.guarded = false ∧ modeLoc.defn.masked = false
        ∧ ∃ f ∈ modeLoc.defn.fields, f.ty ≠ .ro ∧ f.ty ≠ .w1c ∧ checkField f.chk (f.hi + 1 - f.lo) (wordField (7 : Word) f.hi f.lo) = none) ∧
    (let s := lit.put MGS_PROV.LOCK 1;
      reaches s (AX_VMAX 127) vmaxLoc ∧ vmaxLoc.compl = false ∧ vmaxLoc.writable = true ∧ (5 : Word) &&& reservedBits vmaxLoc.defn = 0 ∧ vmaxLoc.defn.guarded = false
        ∧ (match decodeWrite vmaxLoc (s.before vmaxLoc (AX_VMAX 127)) 5 s with
          | none => false
          | some (x, _) =>
            let y := (stateClamps vmaxLoc x s).1;
            blockRefuses vmaxLoc (s.before vmaxLoc (AX_VMAX 127)) (y.val ||| y.act) (dataMask vmaxLoc.defn 5) s) = true) ∧
    -- the complement address, with no window, another master's, and a value that is no complement
    (reaches lit (GCTL_PWRDOM + 4) complLoc ∧ complLoc.compl = true ∧ lit.guardAt GCTL_PWRDOM = none
        ∧ (∀ m, ({ lit with guards := [(GCTL_PWRDOM, some ⟨m, 0⟩)] } : State).guardAt (GCTL_PWRDOM + 4 - 4) = some ⟨m, 0⟩)
        ∧ (0 : Word) ≠ ~~~ 0) := by
  unfold reaches
  dsimp only
  refine ⟨by decide +kernel, by decide +kernel, by decide +kernel, by decide +kernel, by decide +kernel, by decide +kernel, ?_⟩
  refine ⟨by decide +kernel, rfl, by decide +kernel, fun m => rfl, by decide⟩

theorem witness_AlignmentChecked :
    (0x7FFFFF#24).toNat < 0x800000 ∧ (0x7FFFFF#24).toNat % 4 ≠ 0 ∧ (0x7FFFFC#24).toNat % 4 = 0 ∧ 0x800000 ≤ (0xFFFFFE#24).toNat
      ∧ (0xFFFFFE#24).toNat % 2 = 0 := by decide

theorem witness_InterruptPinsFollow :
    let s := (lit.putBitAt (EV_PEND 3) 31 true).putBitAt (EV_EN 3) 31 true;
    s.evPending 127 = true ∧ s.evEnabled 127 = true ∧ lit.mayRead .host EV_IRQ0ID ∧ lit.isBad EV_IRQ0ID = false
      ∧ lit.mayRead .host EV_IRQ1ID ∧ lit.isBad EV_IRQ1ID = false := by
  simp only [mayRead_iff]
  decide +kernel

/-- R368, table: CONFIRM raises the roll-back counter to the index of the image that runs; bits [31:16] of that word are none of it. -/
theorem test_confirm :
    let m : Mgs := { updCmd := 5, slotA := { state := 6, words := [(4, 0xFFFF0009)] } };
    (match exec .updateCommandEnd { managed m with rbcnt := 3 } with
      | .next t => decide (t.rbcnt = 9) && decide (t.mgs.slotA.state = 4)
      | _ => false) = true := by decide +kernel

theorem witness_RollbackOnlyIncreases :
    let s := { managed { updCmd := 5 } with rbcnt := 1 };
    (Instr.bootUp ≠ .updateCommandEnd) ∧ s.mgs.updCmd = 5 ∧ lit.mgs.updCmd ≠ 5 ∧ s.voterBlocks .host = false ∧ ({} : Slot).index < s.rbcnt.toNat
      ∧ (s.mgs.slot true).index < s.rbcnt.toNat ∧ lit.mayRead .host MGS_RBCNT ∧ lit.isBad MGS_RBCNT = false := by
  simp only [mayRead_iff]
  decide +kernel

theorem witness_RecipesKept : ∀ ok flash, Instr.bootUp ≠ .plCommandEnd ok flash := fun _ _ h => Instr.noConfusion h

theorem witness_MailboxSecretsHidden :
    lit.mayWrite .host (MGS_SECBUF 15) ∧ lit.mayWrite .host (MGS_AURESP 7) ∧ lit.mayRead .host (MGS_SECBUF 15)
      ∧ lit.isBad (MGS_SECBUF 15) = false ∧ lit.mgs.sec = none
      ∧ (let s := managed { sec := some ⟨2, 0, true, true⟩, ak := some [] };
        s.mayWrite .host (MGS_SECBUF 15) ∧ s.needsSession 2 true = true ∧ s.sessionOf .host = false)
      ∧ (let s := managed { sec := some ⟨1, 0, false, true⟩, hostAuth := true, dbgAuth := true, erase := some 0 };
        s.mgs.hostAuth = true ∧ s.mgs.dbgAuth = true ∧ s.runState < 2 ∧ s.power.inReset = false ∧ s.mgs.erase.isSome = true
          ∧ s.mayGuard .host GCTL_PWRDOM ∧ othersKept s 4)
      ∧ (let s := online 2 { ctxs := [theCtx] }; s.stackOn = true ∧ s.ctxAuth ⟨1, 127, 255⟩ = true)
      ∧ (let s := withFields [(GCTL_RUNSTAT.STATE, 3), (GCTL_RUNCTL.WRTC, 1)] State.reset;
        s.runState = 3 ∧ s.power.inReset = false ∧ s.wakesFrom 3 .rtc = true) := by
  simp only [mayWrite_iff, mayRead_iff, mayGuard_iff, othersKept]
  decide +kernel

end Sys2Proof.Tests
end

namespace Sys2Proof.Machine

/-! ### CMD frames, R14 and R15 -/

/-- The hub end of a coupling once copy `copy` of rank `q`'s CMD frame has been sent. -/
def Coach.sentCmd (k : Coach) (q copy : Nat) : Coach :=
  { k with
    cmdSent := k.cmdSent ++ [(q, copy)]
    cmdRun := if k.cmdRun = 2 then 1 else k.cmdRun + 1
    cmdSeq := (k.cmdSeq + 1) % 256 }

/-- A CMD frame that may be sent is sent; the coach counts it as lost, has the rank's records already, or keeps it. -/
theorem cmdFrame_sent {s : State} {c q copy : Nat} (hl : s.linkLive c = true) (hm : (s.coach c).cmdMay q copy = true)
    (ok : Bool) :
    (cmdFrame c q copy ok s).coach c =
      (let k := (s.coach c).sentCmd q copy
       if !ok then { k with crcRep := k.crcRep + 1 }
       else if k.rx.any fun x => x.q = q then k
       else { k with rx := k.rx ++ [⟨q, k.txPeriod, k.tx.getD q []⟩] }) := by
  unfold cmdFrame
  rw [hl, hm, if_neg (by decide)]
  dsimp only
  rw [State.coach_modCoach]
  cases ok
  · simp [Coach.sentCmd]
  · simp only [Bool.not_true, Bool.false_eq_true, if_false]
    split <;> simp_all [Coach.sentCmd]

/-! ### CTL frames, R14, R20, R23 and R123 -/

/-- The hub end of a coupling once the CTL frame that has waited longest has been sent, `rest` still waiting. -/
def Coach.sentCtl (k : Coach) (rest : List CtlFrame) : Coach :=
  { k with ctlq := rest, cmdRun := 0, ctlSeq := (k.ctlSeq + 1) % 256 }

theorem ctlFrame_eq {s : State} {c : Nat} {f : CtlFrame} {rest : List CtlFrame} (hl : s.linkLive c = true)
    (hq : (s.coach c).ctlq = f :: rest) (hm : (s.coach c).controlMay = true) (ok : Bool) (gangs : List GangEnd) :
    ctlFrame c f.kind ok gangs s =
      (let u := s.modCoach c fun k => k.sentCtl rest
       if ok then ctlEffect c f (gangOffs (ofCoach c) gangs u) else u.modCoach c fun k => { k with crcRep := k.crcRep + 1 }) := by
  unfold ctlFrame
  rw [hl, hm, hq, if_neg (by decide)]
  dsimp only
  rw [if_neg (by simp)]
  rfl

/-! ### Many updates in a row -/

theorem forEach_cons {α : Type} (x : α) (l : List α) (f : α → State → State) (s : State) :
    forEach (x :: l) f s = forEach l f (f x s) := rfl

/-- What every step keeps, all of them keep. -/
theorem forEach_keeps {α : Type} {P : State → Prop} {f : α → State → State} {l : List α} {s : State}
    (h : ∀ x ∈ l, ∀ u, P u → P (f x u)) (hs : P s) : P (forEach l f s) := by
  induction l generalizing s with
  | nil => exact hs
  | cons x l ih => exact ih (fun y hy => h y (List.mem_cons_of_mem _ hy)) (h x (List.mem_cons_self ..) _ hs)

/-- A step at `a` leads from `P` to `Q`; the other steps keep `P` up to then, and every step keeps `Q`. -/
theorem forEach_reaches {α : Type} {P Q : State → Prop} {f : α → State → State} {l : List α} {s : State} {a : α} (ha : a ∈ l)
    (hp : ∀ x ∈ l, x ≠ a → ∀ u, P u → P (f x u)) (hself : ∀ u, P u → Q (f a u)) (hq : ∀ x ∈ l, ∀ u, Q u → Q (f x u))
    (hs : P s) : Q (forEach l f s) := by
  induction l generalizing s with
  | nil => exact absurd ha List.not_mem_nil
  | cons x l ih =>
    rw [forEach_cons]
    have hq' : ∀ y ∈ l, ∀ u, Q u → Q (f y u) := fun y hy => hq y (List.mem_cons_of_mem _ hy)
    by_cases e : x = a
    · subst e
      exact forEach_keeps hq' (hself s hs)
    · exact ih ((List.mem_cons.mp ha).resolve_left (Ne.symm e)) (fun y hy => hp y (List.mem_cons_of_mem _ hy)) hq'
        (hp x (List.mem_cons_self ..) e s hs)

/-! ### Legs killed and released -/

theorem leg_killLeg (l k : Nat) (s : State) :
    (killLeg l s).leg k = if k = l then
      { s.leg k with killed := true, phase := if (s.leg k).phase = .block then .block else .off, ready := false } else s.leg k := by
  unfold killLeg
  split
  · rename_i h; subst h; rw [State.leg_modLeg]
  · rename_i h; exact State.leg_modLeg_ne _ h

theorem leg_forEach_killLeg (legs : List Nat) (l : Nat) (s : State) :
    (forEach legs killLeg s).leg l = if l ∈ legs then
      { s.leg l with killed := true, phase := if (s.leg l).phase = .block then .block else .off, ready := false } else s.leg l := by
  induction legs generalizing s with
  | nil => rfl
  | cons x legs ih =>
    rw [forEach_cons, ih, leg_killLeg]
    by_cases h : l = x
    · by_cases h' : l ∈ legs <;> simp [h]
    · simp [h]

theorem leg_freeLeg (l k : Nat) (s : State) :
    (freeLeg l s).leg k = if k = l then { s.leg k with killed := false, hs := false, ls := false } else s.leg k := by
  unfold freeLeg
  split
  · rename_i h; subst h; rw [State.leg_modLeg]
  · rename_i h; exact State.leg_modLeg_ne _ h

theorem leg_forEach_freeLeg (legs : List Nat) (l : Nat) (s : State) :
    (forEach legs freeLeg s).leg l =
      if l ∈ legs then { s.leg l with killed := false, hs := false, ls := false } else s.leg l := by
  induction legs generalizing s with
  | nil => rfl
  | cons x legs ih =>
    rw [forEach_cons, ih, leg_freeLeg]
    by_cases h : l = x <;> simp [h]

end Sys2Proof.Machine

namespace Sys2Proof.Machine

/-! ### On-times that a command ends, R109 -/

/-- Two states of a coach that differ in the reports for its next STAT frame alone. -/
def Coach.OnlyReports (k k' : Coach) : Prop := k' = { k with statq := k'.statq }

theorem Coach.OnlyReports.refl (k : Coach) : k.OnlyReports k := rfl

theorem Coach.OnlyReports.trans {k k' k'' : Coach} (h : k.OnlyReports k') (h' : k'.OnlyReports k'') : k.OnlyReports k'' := by
  unfold Coach.OnlyReports at *
  rw [h', h]

theorem coach_report (c d : Nat) (x : StatRep) (s : State) : (s.coach d).OnlyReports ((report c x s).coach d) := by
  unfold report
  by_cases h : d = c
  · subst h; rw [State.coach_modCoach]; rfl
  · rw [State.coach_modCoach_ne _ h]; exact .refl _

theorem coach_imbPct (dev sum d : Nat) (s : State) : (imbPct dev sum s).2.coach d = s.coach d := by
  unfold imbPct
  split <;> rfl

/-- An evaluation of a gang's balance leaves of the coaches all but a report. -/
theorem coach_balance (a e t : Nat) (cur : List Nat) (d : Nat) (s : State) :
    (s.coach d).OnlyReports ((balance a e t cur s).coach d) := by
  unfold balance
  dsimp only
  split
  · exact .refl _
  split
  · exact .refl _
  -- one case for each coil end of a coil
  split
  all_goals
    split
    · refine .trans ?_ (coach_report ..)
      rw [coach_imbPct]
      exact .refl _
    · exact .refl _

theorem coach_gangOffs (p : Nat → Bool) (l : List GangEnd) (d : Nat) (s : State) :
    (s.coach d).OnlyReports ((gangOffs p l s).coach d) := by
  unfold gangOffs
  induction l generalizing s with
  | nil => exact .refl _
  | cons x l ih =>
    refine .trans ?_ (ih _)
    dsimp only
    split
    · exact coach_balance ..
    · exact .refl _

/-- The evaluations leave every register word. -/
theorem rd_gangOffs (p : Nat → Bool) (l : List GangEnd) (s : State) (a : Nat) : (gangOffs p l s).rd a = s.rd a :=
  ((gangOffs_ok p l s).1.2.resolve_left (by decide)) a (by simp)

end Sys2Proof.Machine

namespace Sys2Proof.Machine

/-! ### What a frame keeps -/

section
variable {W : List Part} {s t : State}

theorem Frame.coach (h : Frame W s t) (hw : .coaches ∉ W) (c : Nat) : t.coach c = s.coach c :=
  congrArg (Sparse.get _ · c) (h.1 .coaches hw)

theorem Frame.leg (h : Frame W s t) (hw : .legs ∉ W) (l : Nat) : t.leg l = s.leg l :=
  congrArg (Sparse.get _ · l) (h.1 .legs hw)

theorem Frame.mo (h : Frame W s t) (hw : .axes ∉ W) (a : Nat) : t.mo a = s.mo a :=
  congrArg (fun x : Sparse Axis => (Sparse.get (fun _ => ({} : Axis)) x a).mo) (h.1 .axes hw)

theorem Frame.rd (h : Frame W s t) (hr : .regs ∉ W) {a : Nat} (ha : ∀ r, .reg r ∈ W → ¬ r.at a) : t.rd a = s.rd a :=
  h.2.resolve_left hr a ha

theorem Frame.get (h : Frame W s t) (hr : .regs ∉ W) {f : Fld} (ha : ∀ r, .reg r ∈ W → ¬ r.at f.addr) : t.get f = s.get f :=
  congrArg (wordField · f.hi f.lo) (h.rd hr ha)

theorem Frame.on (h : Frame W s t) (hr : .regs ∉ W) {f : Fld} (ha : ∀ r, .reg r ∈ W → ¬ r.at f.addr) : t.on f = s.on f :=
  congrArg (fun n => decide (n ≠ 0)) (h.get hr ha)

end

/-! ### A field that was put, as a flag -/

theorem State.on_put_self {s : State} {f : Fld} (v : Nat) (h : f.hi < 32) (hl : f.lo ≤ f.hi) :
    (s.put f v).on f = decide (v % 2 ^ (f.hi + 1 - f.lo) ≠ 0) := by
  unfold State.on
  rw [State.get_put_self v h hl]

/-! ### The coach's part of a CTL frame -/

/-- Both on-commands of a leg withdrawn: its phase follows, and nothing is reported. -/
theorem legCmd_off_ok (l : Nat) (s : State) : Ok [.legs] s (legCmd l false false s) :=
  Ok.via (settle_ok l _) rfl (State.modLeg_ok ..)

/-- The coach leaves its safe state: every leg's on-commands go, and SAFEACT clears, R23. -/
def leaveSafe (c : Nat) (s : State) : State :=
  ((forEach (coachLegs c) (fun l s => legCmd l false false s) s).modCoach c fun k => { k with safe := false }).put
    (CO_LINKSTAT.SAFEACT c) 0

theorem ctlEffect_release (c : Nat) (legs : List Nat) (whole : Bool) (s : State) :
    ctlEffect c (.release legs whole) s
      = forEach legs freeLeg (if whole && (s.coach c).safe then leaveSafe c s else s) := rfl

theorem leaveSafe_ok (c : Nat) (s : State) : Ok [.legs, .coaches, .reg .CO_LINKSTAT] s (leaveSafe c s) :=
  Ok.via (State.put_at (at_CO_LINKSTAT c)) rfl
    (Ok.via (State.modCoach_ok ..) rfl ((Ok.forEach (fun l u => legCmd_off_ok l u) .refl).mono rfl))

theorem coach_leaveSafe (c : Nat) (s : State) : (leaveSafe c s).coach c = { s.coach c with safe := false } := by
  unfold leaveSafe
  rw [State.put_coach, State.coach_modCoach,
    (Ok.forEach (W := [.legs]) (fun l u => legCmd_off_ok l u) .refl).1.coach (by decide)]

theorem safeact_leaveSafe (c : Nat) (s : State) : (leaveSafe c s).on (CO_LINKSTAT.SAFEACT c) = false :=
  State.on_put_self _ (by simp) (by simp)

theorem forEach_killLeg_ok (legs : List Nat) (s : State) : Ok [.legs] s (forEach legs killLeg s) := Ok.forEach killLeg_ok .refl

theorem forEach_freeLeg_ok (legs : List Nat) (s : State) : Ok [.legs] s (forEach legs freeLeg s) := Ok.forEach freeLeg_ok .refl

/-- The hub sends a CTL frame: its end of the coupling is all that changes before the coach acts. -/
def ctlSent (c : Nat) (rest : List CtlFrame) (gangs : List GangEnd) (s : State) : State :=
  gangOffs (ofCoach c) gangs (s.modCoach c fun k => k.sentCtl rest)

theorem ctlSent_ok (c : Nat) (rest : List CtlFrame) (gangs : List GangEnd) (s : State) :
    Ok [.coils, .coaches, .free] s (ctlSent c rest gangs s) :=
  Ok.via (gangOffs_ok ..) rfl ((State.modCoach_ok ..).mono rfl)

theorem ctlSent_nil_ok (c : Nat) (rest : List CtlFrame) (s : State) : Ok [.coaches] s (ctlSent c rest [] s) := State.modCoach_ok ..

theorem coach_ctlSent (c : Nat) (rest : List CtlFrame) (gangs : List GangEnd) (s : State) :
    ((s.coach c).sentCtl rest).OnlyReports ((ctlSent c rest gangs s).coach c) := by
  have h := coach_gangOffs (ofCoach c) gangs c (s.modCoach c fun k => k.sentCtl rest)
  rwa [State.coach_modCoach] at h

theorem coach_ctlSent_nil (c : Nat) (rest : List CtlFrame) (s : State) :
    (ctlSent c rest [] s).coach c = (s.coach c).sentCtl rest := State.coach_modCoach ..

/-- A CTL frame that fails CRC is lost: the hub end and the coach's count of such frames are all that changes. -/
theorem ctlFrame_lost {s : State} {c : Nat} {f : CtlFrame} {rest : List CtlFrame} (hl : s.linkLive c = true)
    (hq : (s.coach c).ctlq = f :: rest) (hm : (s.coach c).controlMay = true) (gangs : List GangEnd) :
    let t := ctlFrame c f.kind false gangs s
    t.coach c = { (s.coach c).sentCtl rest with crcRep := ((s.coach c).sentCtl rest).crcRep + 1 } ∧ Frame [.coaches] s t := by
  dsimp only
  rw [ctlFrame_eq hl hq hm]
  exact ⟨by simp, (Ok.via (State.modCoach_ok ..) rfl (State.modCoach_ok ..)).1⟩

/-- A CTL frame that passes CRC acts on the coach. -/
theorem ctlFrame_received {s : State} {c : Nat} {f : CtlFrame} {rest : List CtlFrame} (hl : s.linkLive c = true)
    (hq : (s.coach c).ctlq = f :: rest) (hm : (s.coach c).controlMay = true) (gangs : List GangEnd) :
    ctlFrame c f.kind true gangs s = ctlEffect c f (ctlSent c rest gangs s) := ctlFrame_eq hl hq hm true gangs

/-- A safe-selection frame that passes CRC gives the coach the SAFE value that stands, R20. -/
theorem ctlSafe_effect (c : Nat) (rest : List CtlFrame) (s : State) :
    let t := ctlEffect c .safe (ctlSent c rest [] s)
    t.coach c = { (s.coach c).sentCtl rest with safeSel := s.on (CO_LINKCFG.SAFE c) } ∧ Frame [.coaches] s t := by
  refine ⟨(State.coach_modCoach ..).trans ?_, (Ok.via (State.modCoach_ok ..) rfl (ctlSent_nil_ok c rest s)).1⟩
  rw [coach_ctlSent_nil]
  rfl

/-- A kill frame that passes CRC turns the legs it names off, R123. -/
theorem ctlKill_effect (c : Nat) (legs : List Nat) (rest : List CtlFrame) (gangs : List GangEnd) (s : State) :
    let t := ctlEffect c (.kill legs) (ctlSent c rest gangs s)
    (gangs = [] → t.coach c = (s.coach c).sentCtl rest ∧ Frame [.legs, .coaches] s t) ∧ (t.coach c).ctlq = rest
      ∧ (∀ l, t.leg l = if l ∈ legs then { s.leg l with
        killed := true, phase := if (s.leg l).phase = .block then .block else .off, ready := false } else s.leg l)
      ∧ Frame [.legs, .coils, .coaches, .free] s t := by
  have hk := forEach_killLeg_ok legs (ctlSent c rest gangs s)
  refine ⟨fun hg => ⟨?_, ?_⟩, ?_, fun l => ?_, (Ok.via hk rfl ((ctlSent_ok ..).mono rfl)).1⟩
  · subst hg
    exact (hk.1.coach (by decide) c).trans (coach_ctlSent_nil ..)
  · subst hg
    exact (Ok.via hk rfl ((ctlSent_nil_ok ..).mono rfl)).1
  · refine (congrArg Coach.ctlq (hk.1.coach (by decide) c)).trans ?_
    rw [coach_ctlSent c rest gangs s]
    rfl
  · refine (leg_forEach_killLeg ..).trans ?_
    rw [(ctlSent_ok c rest gangs s).1.leg (by decide)]

/-- A release frame that passes CRC: the legs it names follow commands again, and `whole` ends the coach's safe state, R23. -/
theorem ctlRelease_effect (c : Nat) (legs : List Nat) (whole : Bool) (rest : List CtlFrame) (gangs : List GangEnd) (s : State) :
    let t := ctlEffect c (.release legs whole) (ctlSent c rest gangs s)
    (∀ l ∈ legs, (t.leg l).killed = false ∧ (t.leg l).hs = false ∧ (t.leg l).ls = false)
      ∧ (whole = false → (∀ l, l ∉ legs → t.leg l = s.leg l) ∧ Frame [.legs, .coils, .coaches, .free] s t)
      ∧ (whole = false → gangs = [] → t.coach c = (s.coach c).sentCtl rest ∧ Frame [.legs, .coaches] s t)
      ∧ (whole = true → gangs = [] → t.coach c = { (s.coach c).sentCtl rest with safe := false })
      ∧ (whole = true → (t.coach c).safe = false
          ∧ ((s.coach c).safe = true → t.on (CO_LINKSTAT.SAFEACT c) = false)
          ∧ Frame [.legs, .coils, .coaches, .free, .reg .CO_LINKSTAT] s t) := by
  have hs := coach_ctlSent c rest gangs s
  have hok := ctlSent_ok c rest gangs s
  have hnil (h : gangs = []) : (ctlSent c rest gangs s).coach c = (s.coach c).sentCtl rest := h ▸ coach_ctlSent_nil ..
  have hnok (h : gangs = []) : Ok [.coaches] s (ctlSent c rest gangs s) := h ▸ ctlSent_nil_ok ..
  have hsafe : ((ctlSent c rest gangs s).coach c).safe = (s.coach c).safe := by rw [hs]; rfl
  generalize ctlSent c rest gangs s = u at *
  dsimp only
  rw [ctlEffect_release]
  have hf (v : State) := forEach_freeLeg_ok legs v
  refine ⟨fun l hl => ?_, fun hw => ⟨fun l hl => ?_, ?_⟩, fun hw hg => ⟨?_, ?_⟩, fun hw hg => ?_, fun hw => ⟨?_, fun h => ?_, ?_⟩⟩
  · rw [leg_forEach_freeLeg, if_pos hl]
    exact ⟨rfl, rfl, rfl⟩
  · subst hw
    rw [leg_forEach_freeLeg, if_neg hl]
    exact hok.1.leg (by decide) l
  · subst hw
    exact (Ok.via (hf _) rfl (hok.mono rfl)).1
  · subst hw
    rw [(hf _).1.coach (by decide)]
    exact hnil hg
  · subst hw
    exact (Ok.via (hf _) rfl ((hnok hg).mono rfl)).1
  · subst hw
    rw [(hf _).1.coach (by decide), Bool.true_and]
    split
    · rw [coach_leaveSafe, hnil hg]
    · rename_i h
      have hout : ((s.coach c).sentCtl rest).safe = false := by simpa [← hnil hg] using h
      rw [hnil hg, ← hout]
  · subst hw
    rw [(hf _).1.coach (by decide), Bool.true_and]
    split
    · rw [coach_leaveSafe]
    · rename_i h
      simpa using h
  · subst hw
    rw [(hf _).1.on (by decide) (by simp), Bool.true_and, hsafe, if_pos h]
    exact safeact_leaveSafe c u
  · subst hw
    refine (Ok.via (hf _) rfl ?_).1
    split
    · exact Ok.via (leaveSafe_ok c u) rfl (hok.mono rfl)
    · exact hok.mono rfl

end Sys2Proof.Machine

namespace Sys2Proof.Machine

/-- A command whose outcome is known to be another state. -/
theorem Does.of_eq {c : Instr} {s t u : State} {P : State → Prop} (h : exec c s = .next t) (e : t = u) (hp : P u) : Does c s P :=
  ⟨u, e ▸ h, hp⟩

/-! ### STAT frames, R13 and R114 -/

theorem snapWord_snapWords {l : List Nat} {a : Nat} (h : a ∈ l) (s : State) :
    (snapWords l s).snapWord a = (snapWords l s).rd a := by
  refine (forEach_reaches (f := fun a s => { s with snap := Sparse.set resetWord s.snap a (s.rd a) })
    (P := fun u => u.regs = s.regs) (Q := fun u => u.regs = s.regs ∧ u.snapWord a = u.rd a) h
    (fun x _ _ u hu => hu) (fun u hu => ⟨hu, ?_⟩) (fun x _ u hu => ⟨hu.1, ?_⟩) rfl).2
  · exact Sparse.get_set_self (d := resetWord)
  · show Sparse.get resetWord (Sparse.set resetWord u.snap x (u.rd x)) a = u.rd a
    rw [Sparse.get_set]
    split
    · rename_i e; rw [e]
    · exact hu.2

/-- A STAT frame that passes CRC ends with the snapshot of the words that follow it. -/
theorem statFrame_snaps {c : Nat} {s : State} (hl : s.linkLive c = true) (meas : Option CoachMeas) (idle : Nat × Nat) :
    ∃ u, statFrame c true meas idle s = snapWords (coachWords c) u := by
  unfold statFrame
  rw [hl, if_neg (by decide)]
  exact ⟨_, rfl⟩

/-- A STAT frame that fails CRC is discarded: its reports are lost, and it counts, R13. -/
theorem statFrame_lost {c : Nat} {s : State} (hl : s.linkLive c = true) (meas : Option CoachMeas) (idle : Nat × Nat) :
    let t := statFrame c false meas idle s
    t.coach c = { s.coach c with
        crcRep := (s.coach c).crcRep + idle.1, statq := [], statSeq := ((s.coach c).statSeq + 1) % 256 }
      ∧ t.get (CO_LINKERR.CRCUP c) = min 65535 (min 65535 (s.get (CO_LINKERR.CRCUP c) + idle.2) + 1)
      ∧ Frame [.coaches, .reg .CO_LINKERR] s t := by
  have e : statFrame c false meas idle s =
      ((((s.modCoach c fun k => { k with crcRep := k.crcRep + idle.1 }).addSat (CO_LINKERR.CRCUP c) idle.2).modCoach c fun k =>
        { k with statq := [], statSeq := (k.statSeq + 1) % 256 }).inc (CO_LINKERR.CRCUP c)) := by
    unfold statFrame
    rw [hl, if_neg (by decide)]
    rfl
  dsimp only
  rw [e]
  refine ⟨by simp, ?_, (Ok.via (State.inc_at (at_CO_LINKERR c)) rfl (Ok.via (State.modCoach_ok ..) rfl
    (Ok.via (State.addSat_at (at_CO_LINKERR c)) rfl ((State.modCoach_ok ..).mono rfl)))).1⟩
  unfold State.inc State.addSat
  rw [State.get_put_self _ (by simp) (by simp), State.modCoach_get, State.get_put_self _ (by simp) (by simp), State.modCoach_get]
  simp only [Fld.max]
  omega

/-! ### SNS frames, R193 and R206 -/

/-- An SNS frame of a coach that holds no record carries the charge record measured now. -/
theorem snsFrame_charge {c q z : Nat} {nC : Int} {s : State} (hl : s.linkLive c = true) (hm : (s.coach c).snsMay = true)
    (hq : (s.coach c).snsq = []) :
    snsFrame c true [(q, z, nC)] s
      = chargeRecord c q z nC (s.modCoach c fun k => { k with
          snsq := (k.snsq.filter SnsRec.isBemf ++ k.snsq.filter fun x => !x.isBemf).drop 7
          snsSeq := (k.snsSeq + 1) % 256 }) := by
  unfold snsFrame snsRecords
  rw [hl, hm, hq, if_neg (by decide)]
  rfl

/-- A charge record adds VM × Q to the energy of an enabled axis, within the range of the counter, R206. -/
theorem energy_chargeRecord {c q z : Nat} {nC : Int} {s : State} (hv : s.coilLive (4 * c + q) z = true)
    (he : s.enabled (coilAxis (4 * c + q) z) = true) :
    ((chargeRecord c q z nC s).mo (coilAxis (4 * c + q) z)).energy
      = clampInt (-(2 ^ 63) * 10 ^ 8) (2 ^ 63 * 10 ^ 8 - 1)
          ((s.mo (coilAxis (4 * c + q) z)).energy + nC * Int.ofNat (s.get (CO_VM.VM c))) := by
  unfold chargeRecord
  dsimp only
  rw [hv, he, if_pos (by decide), (State.putPair_ok ..).1.mo (by decide), State.mo_modMo]

/-! ### O3 -/

/-- Settles O3: the frames of a coupling that is up, CMD, CTL, STAT and SNS, each by what its operation does. -/
theorem framesComplete : Obligations.FramesComplete := by
  unfold Obligations.FramesComplete
  intro s c q hl
  refine ⟨fun copy hm => ⟨⟨_, rfl, ?_, (cmdFrame_ok ..).1⟩, fun hx => ⟨_, rfl, ?_, (cmdFrame_ok ..).1⟩,
    fun hx => ⟨_, rfl, ?_, (cmdFrame_ok ..).1⟩⟩, fun f rest hq hm => ⟨?_, ?_, ?_⟩, ?_, ?_, ?_⟩
  · exact cmdFrame_sent hl hm false
  · refine (cmdFrame_sent hl hm true).trans ?_
    have h0 : ((s.coach c).rx.any fun x => x.q = q.val) = false := by simpa using hx
    simp [Coach.sentCmd, h0]
  · refine (cmdFrame_sent hl hm true).trans ?_
    have h1 : ((s.coach c).rx.any fun x => x.q = q.val) = true := by simpa using hx
    simp [Coach.sentCmd, h1]
  · rintro rfl
    exact ⟨⟨_, rfl, ctlFrame_lost hl hq hm []⟩, .of_eq rfl (ctlFrame_received hl hq hm []) <| ctlSafe_effect c rest s⟩
  · rintro legs gangs rfl
    exact ⟨⟨_, rfl, ctlFrame_lost hl hq hm gangs⟩, .of_eq rfl (ctlFrame_received hl hq hm gangs) <|
      ctlKill_effect c legs rest gangs s⟩
  · rintro legs whole gangs rfl
    exact ⟨⟨_, rfl, ctlFrame_lost hl hq hm gangs⟩, .of_eq rfl (ctlFrame_received hl hq hm gangs) <|
      ctlRelease_effect c legs whole rest gangs s⟩
  · intro read
    obtain ⟨u, hu⟩ := statFrame_snaps hl read.meas read.idle
    exact ⟨_, rfl, fun a ha => hu ▸ snapWord_snapWords ha u⟩
  · exact fun meas idle => ⟨_, rfl, statFrame_lost hl meas idle⟩
  · intro z nC a hm hsq hv he
    have e := snsFrame_charge (q := q) (z := z) (nC := nC) hl hm hsq
    refine .of_eq rfl e ⟨?_, (Ok.via (chargeRecord_ok ..) rfl ((State.modCoach_ok ..).mono rfl)).1⟩
    exact energy_chargeRecord (s := s.modCoach c _) hv he

end Sys2Proof.Machine

namespace Sys2Proof.Machine

/-! ### The host port beside an exchange -/

/-- With no access of the host port under way, looking at them again changes nothing. -/
theorem hostPoll_idle {s : State} (h : portIdle s) : hostPoll s = s := by
  obtain ⟨hr, hi⟩ := h
  unfold hostPoll takeRead
  simp [hr, hi]

theorem portIdle_of_sph {s t : State} (h : portIdle s) (e : t.sph = s.sph) : portIdle t := by
  unfold portIdle at *
  rwa [e]

/-! ### CFG frames, R17 -/

/-- The hub has sent the request at the head of a coupling. -/
def cfgSent (c : Nat) (e : Exchange) (rest : List Exchange) (s : State) : State :=
  s.modCoach c fun k => { k with cmdRun := 0, cfgq := { e with sent := true } :: rest }

/-- The coach performs a write that it has not performed yet. -/
def cfgPerformed (c : Nat) (e : Exchange) (l : Loc) (gangs : List GangEnd) (s : State) : State :=
  match e.wr with
  | some v => if (s.coach c).applSeq = some e.seq then s else coachApply { e with sent := true } l v (gangOffs (ofCoach c) gangs s)
  | none => s

section
variable {s : State} {c : Nat} {e : Exchange} {rest : List Exchange}

theorem cfgFrame_lost (hl : s.linkLive c = true) (hm : (s.coach c).controlMay = true) (hc : (s.coach c).ctlq = [])
    (hq : (s.coach c).cfgq = e :: rest) (hs : e.sent = false) (gangs : List GangEnd) :
    cfgFrame c false gangs s = (cfgSent c e rest s).modCoach c fun k => { k with crcRep := k.crcRep + 1 } := by
  unfold cfgFrame
  rw [hl, hm, hc, if_neg (by decide), hq]
  dsimp only
  rw [hs, if_neg (by decide)]
  rfl

theorem cfgFrame_received {l : Loc} (hl : s.linkLive c = true) (hm : (s.coach c).controlMay = true) (hc : (s.coach c).ctlq = [])
    (hq : (s.coach c).cfgq = e :: rest) (hs : e.sent = false) (ha : locate e.addr = some l) (hn : l.compl = false)
    (gangs : List GangEnd) :
    cfgFrame c true gangs s =
      (let t := cfgPerformed c e l gangs (cfgSent c e rest s)
       t.modCoach c fun k => { k with
         applSeq := some e.seq
         cfgq := { e with sent := true, answer := some (t.readWord l e.addr) } :: rest }) := by
  have el : ({ l with compl := false } : Loc) = l := by rw [← hn]
  unfold cfgFrame
  rw [hl, hm, hc, if_neg (by decide), hq]
  dsimp only
  rw [hs, if_neg (by decide), ha]
  simp only [Bool.not_true, Bool.false_eq_true, if_false, if_true, Option.any_some, hn, el]
  rfl

end

/-- A register that a coach holds stands in its legs, ranks or own words. -/
theorem blk_of_coachOf {addr c : Nat} {l : Loc} (h : coachOf addr = some c) (hl : locate addr = some l) :
    l.blk = .LEG ∨ l.blk = .RK ∨ l.blk = .CO := by
  have hb := (locate_some hl).1
  unfold coachOf at h
  split at h
  · cases h
  split at h
  · exact .inl (Option.some.inj (hb.symm.trans (blockOf_LEG (by omega) (by omega))))
  split at h
  · exact .inr (.inl (Option.some.inj (hb.symm.trans (blockOf_RK (by omega) (by omega)))))
  split at h
  · cases h
  split at h
  · exact .inr (.inr (Option.some.inj (hb.symm.trans (blockOf_CO (by omega) (by omega)))))
  · cases h

theorem blockWritten_coach {l : Loc} (h : l.blk = .LEG ∨ l.blk = .RK ∨ l.blk = .CO) (m : Master) (old : Word) (x : WriteWord)
    (sel : Word) (s : State) : blockWritten m l old x sel s = coachWritten l old x s := by
  unfold blockWritten
  rcases h with h | h | h <;> rw [h]

/-- A write that a coach performs leaves the host port alone. -/
theorem sph_coachApply {e : Exchange} {c : Nat} {l : Loc} (h : coachOf e.addr = some c) (hl : locate e.addr = some l) (v : Word)
    (s : State) : (coachApply e l v s).sph = s.sph := by
  unfold coachApply
  dsimp only
  split
  · rfl
  · unfold performWrite
    rw [blockWritten_coach (blk_of_coachOf h hl)]
    exact ((coachWritten_ok ..).1.1 .sph (by decide)).trans
      (((storeWord_ok ..).1.1 .sph (by decide)).trans ((rewritten_ok ..).1.1 .sph (by decide)))

theorem sph_cfgPerformed {e : Exchange} {c d : Nat} {l : Loc} (h : coachOf e.addr = some d) (hl : locate e.addr = some l)
    (gangs : List GangEnd) (s : State) : (cfgPerformed c e l gangs s).sph = s.sph := by
  unfold cfgPerformed
  split
  · split
    · rfl
    · exact (sph_coachApply (e := { e with sent := true }) h hl ..).trans ((gangOffs_ok ..).1.1 .sph (by decide))
  · rfl

/-- What a register reads does not depend on the couplings. -/
theorem readWord_modCoach (s : State) (c : Nat) (f : Coach → Coach) (l : Loc) (a : Nat) :
    (s.modCoach c f).readWord l a = s.readWord l a := rfl

end Sys2Proof.Machine

namespace Sys2Proof.Machine

theorem cfgSent_ok (c : Nat) (e : Exchange) (rest : List Exchange) (s : State) : Ok [.coaches] s (cfgSent c e rest s) :=
  State.modCoach_ok ..

/-- A read, and a write the coach has performed before, change nothing at the coach. -/
theorem cfgPerformed_idle {s : State} {c : Nat} {e : Exchange} {l : Loc} (h : e.wr = none ∨ (s.coach c).applSeq = some e.seq)
    (gangs : List GangEnd) : cfgPerformed c e l gangs s = s := by
  unfold cfgPerformed
  split
  · rename_i v hv
    rw [if_pos (h.resolve_left (by simp [hv]))]
  · rfl

/-! ### CFGR frames, R17 -/

section
variable {s : State} {c : Nat} {e : Exchange} {rest : List Exchange} {w : Word}

theorem cfgrFrame_lost (hl : s.linkLive c = true) (hs : (s.coach c).statq = []) (hq : (s.coach c).cfgq = e :: rest)
    (ha : e.answer = some w) :
    cfgrFrame c false s =
      ((s.modCoach c fun k => { k with cfgrSeq := (k.cfgrSeq + 1) % 256 }).inc (CO_LINKERR.CRCUP c)).modCoach c fun k =>
        { k with cfgq := { e with answer := none } :: rest } := by
  unfold cfgrFrame
  rw [hl, hs, if_neg (by decide), hq]
  dsimp only
  rw [ha]
  rfl

theorem cfgrFrame_received (hl : s.linkLive c = true) (hs : (s.coach c).statq = []) (hq : (s.coach c).cfgq = e :: rest)
    (ha : e.answer = some w) :
    cfgrFrame c true s =
      endExchange e (if e.wr.isSome then .done else .data w)
        ((s.modCoach c fun k => { k with cfgrSeq := (k.cfgrSeq + 1) % 256 }).modCoach c fun k =>
          { k with cfgq := nextServed e.master rest }) := by
  unfold cfgrFrame
  rw [hl, hs, if_neg (by decide), hq]
  dsimp only
  rw [ha]
  rfl

end

/-! ### How an exchange ends, R17 and R18 -/

/-- The trio keeps the answer of an exchange of its own. -/
def noteDone (e : Exchange) (r : Reply) (s : State) : State :=
  if e.master = .trio then { s with net := { s.net with done := s.net.done ++ [(e.addr, r)] } } else s

theorem noteDone_ok (e : Exchange) (r : Reply) (s : State) : Ok [.net] s (noteDone e r s) := by
  unfold noteDone
  split
  · exact Ok.net fun h => h
  · exact .refl

theorem endExchange_eq (e : Exchange) (r : Reply) (s : State) (h : ∀ x, r ≠ .error x) :
    endExchange e r s = noteDone e r (s.answer e.master r) := by
  unfold endExchange
  cases r with
  | error x => exact absurd rfl (h x)
  | _ => rfl

theorem endExchange_error (e : Exchange) (x : BusErr) (s : State) :
    endExchange e (.error x) s
      = noteDone e (.error x) ((recordErr e.master e.addr x (modeFailed e s)).answer e.master (.error x)) := rfl

theorem reply_noteDone (e : Exchange) (r : Reply) (s : State) (m : Master) : (noteDone e r s).reply m = s.reply m := by
  unfold noteDone
  split <;> rfl

theorem sph_noteDone (e : Exchange) (r : Reply) (s : State) : (noteDone e r s).sph = s.sph := by
  unfold noteDone
  split <;> rfl

/-- An error whose event is no D4 cause is recorded without a word to the power states. -/
theorem recordErr_ok_of_event {x : BusErr} (h : x.event ≠ 113) (m : Master) (addr : Nat) (s : State) :
    Ok [.trioQ, .emcyQ, .logQ, .logWin, .reg .EV_PEND, .reg .MGS_LOGSTAT, .reg .GCTL_BUSERR, .reg .GCTL_BUSERRADDR,
      .reg .GCTL_BUSERRCNT] s (recordErr m addr x s) := by
  unfold recordErr
  dsimp only
  rw [if_neg h]
  refine Ok.via (pendSrc_ok ..) rfl (Ok.via (State.inc_at at_GCTL_BUSERRCNT) rfl ?_)
  split
  · exact (State.put_at at_GCTL_BUSERR).mono rfl
  · exact Ok.via (State.put_at at_GCTL_BUSERRADDR) rfl (Ok.via (State.put_at at_GCTL_BUSERR) rfl
      (Ok.via (State.put_at at_GCTL_BUSERR) rfl ((State.put_at at_GCTL_BUSERR).mono rfl)))

/-- An exchange of the coupling and the failure of its RK_MODE write touch different parts of a coach. -/
theorem coach_modeFailed_cfgq (e : Exchange) (c : Nat) (q : List Exchange) (s : State) :
    (modeFailed e (s.modCoach c fun k => { k with cfgq := q })).coach c = { (modeFailed e s).coach c with cfgq := q } := by
  unfold modeFailed
  split
  · rename_i d p h
    by_cases hd : c = d
    · subst hd
      simp only [State.coach_modCoach]
    · rw [State.coach_modCoach_ne _ hd, State.coach_modCoach_ne _ hd, State.coach_modCoach]
  · exact State.coach_modCoach ..

/-! ### CFG_RESEND, R17 -/

section
variable {s : State} {c : Nat} {e : Exchange} {rest : List Exchange}

theorem cfgResend_again (hu : s.on (CO_LINKSTAT.UP c) = true) (hq : (s.coach c).cfgq = e :: rest) (hs : e.sent = true)
    (hr : e.resent = false) :
    cfgResend c s = s.modCoach c fun k => { k with cfgq := { e with sent := false, resent := true, answer := none } :: rest } := by
  unfold cfgResend
  rw [hu, if_neg (by decide), hq]
  dsimp only
  rw [hs, hr]
  rfl

theorem cfgResend_fails (hu : s.on (CO_LINKSTAT.UP c) = true) (hq : (s.coach c).cfgq = e :: rest) (hs : e.sent = true)
    (hr : e.resent = true) :
    cfgResend c s = endExchange e (.error .linkErr) (s.modCoach c fun k => { k with cfgq := nextServed e.master rest }) := by
  unfold cfgResend
  rw [hu, if_neg (by decide), hq]
  dsimp only
  rw [hs, hr]
  rfl

end

/-- An exchange that fails for want of an answer ends with LINK_ERR, R17. -/
theorem linkErr_effect (c : Nat) (e : Exchange) (q : List Exchange) (s : State) :
    let t := endExchange e (.error .linkErr) (s.modCoach c fun k => { k with cfgq := q })
    t.coach c = { (modeFailed e s).coach c with cfgq := q } ∧ t.reply e.master = .error .linkErr
      ∧ Frame (.coaches :: .net :: errorParts) s t := by
  have hrec := recordErr_ok_of_event (x := .linkErr) (by decide) e.master e.addr (modeFailed e (s.modCoach c fun k => { k with cfgq := q }))
  dsimp only
  rw [endExchange_error]
  refine ⟨?_, (reply_noteDone ..).trans (State.reply_answer ..), (Ok.via (noteDone_ok ..) rfl (Ok.via (State.answer_ok ..) rfl
    (Ok.via hrec rfl (Ok.via (modeFailed_ok ..) rfl ((State.modCoach_ok ..).mono rfl))))).1⟩
  rw [(noteDone_ok ..).1.coach (by decide), State.answer_coach, hrec.1.coach (by decide)]
  exact coach_modeFailed_cfgq ..

end Sys2Proof.Machine

namespace Sys2Proof.Machine

/-! ### The safe state of a coach, R20 -/

/-- A leg in the coach's safe state: no override, its low side on where it brakes. -/
def safeLeg (brake : Bool) (l : Nat) (s : State) : State :=
  settle l ((s.put (LEG_TEST.OVR l) 0).modLeg l fun g =>
    { g with hs := false, ls := brake && s.enabled (s.legOwner l).1 && !s.absent (s.legOwner l).1 })

/-- The coils of coach `c` at rest. -/
def restCoils (c : Nat) (s : State) : State :=
  forEach (coachRanks c) (fun r s => forEach (List.range 16) (fun z s =>
    s.modCoil r z fun x => { x with phase := .off, cmd := {} }) s) s

theorem coachSafe_eq (c : Nat) (s : State) :
    coachSafe c s = ((restCoils c (forEach (coachLegs c) (safeLeg (s.coach c).safeSel) s)).modCoach c fun x =>
      { x with safe := true, applied := [], snsq := [], sar := [] }).put (CO_LINKSTAT.SAFEACT c) 1 := rfl

theorem safeLeg_ok (brake : Bool) (l : Nat) (s : State) : Ok [.legs, .reg .LEG_TEST] s (safeLeg brake l s) :=
  Ok.via (settle_ok ..) rfl (Ok.via (State.modLeg_ok ..) rfl ((State.put_at (at_LEG_TEST l)).mono rfl))

theorem restCoils_ok (c : Nat) (s : State) : Ok [.coils] s (restCoils c s) :=
  Ok.forEach (fun _ _ => Ok.forEach (fun _ _ => State.modCoil_ok ..) .refl) .refl

/-! ### What names the owner of a leg -/

/-- Two states with the same topologies in force and the same axes enabled. -/
def State.SameSlots (s t : State) : Prop := (∀ r, t.rd (RK_STAT r) = s.rd (RK_STAT r)) ∧ ∀ a, t.rd (AX_STAT a) = s.rd (AX_STAT a)

namespace State.SameSlots
variable {s t : State}

theorem topo (h : s.SameSlots t) (r k : Nat) : t.topo r k = s.topo r k := by
  unfold State.topo State.get
  simp only [h.1]

theorem legOwner (h : s.SameSlots t) (l : Nat) : t.legOwner l = s.legOwner l := by
  unfold State.legOwner
  simp only [h.topo]

theorem absent (h : s.SameSlots t) (a : Nat) : t.absent a = s.absent a := by
  unfold State.absent
  rw [h.topo]

theorem enabled (h : s.SameSlots t) (a : Nat) : t.enabled a = s.enabled a := by
  unfold State.enabled State.on State.get
  simp only [h.2]

theorem of_frame {W : List Part} (h : Frame W s t) (hr : .regs ∉ W) (hk : ∀ r, .reg r ∈ W → ∀ i, ¬ r.at (RK_STAT i))
    (ha : ∀ r, .reg r ∈ W → ∀ i, ¬ r.at (AX_STAT i)) : s.SameSlots t :=
  ⟨fun i => h.rd hr fun r hw => hk r hw i, fun i => h.rd hr fun r hw => ha r hw i⟩

end State.SameSlots

theorem sameSlots_safeLeg (brake : Bool) (l : Nat) (s : State) : s.SameSlots (safeLeg brake l s) := by
  refine .of_frame (safeLeg_ok ..).1 (by decide) ?_ ?_ <;>
  · intro r hr i hi
    obtain rfl : r = .LEG_TEST := by simpa using hr
    obtain ⟨j, k, hj⟩ := hi
    simp only [regAddr, LEG_TEST, RK_STAT, AX_STAT] at hj
    omega

theorem State.SameSlots.trans {s t u : State} (h : s.SameSlots t) (h' : t.SameSlots u) : s.SameSlots u :=
  ⟨fun r => (h'.1 r).trans (h.1 r), fun a => (h'.2 a).trans (h.2 a)⟩

/-! ### The legs of a coach in its safe state -/

/-- What the safe state makes of leg `l`, its owner taken from `s`. -/
def legSafe (brake : Bool) (l : Nat) (s t : State) : Prop :=
  t.on (LEG_TEST.OVR l) = false ∧ (t.leg l).hs = false
    ∧ (t.leg l).ls = (brake && s.enabled (s.legOwner l).1 && !s.absent (s.legOwner l).1)

theorem leg_settle_ne {l k : Nat} (h : k ≠ l) (s : State) : (settle l s).leg k = s.leg k := State.leg_modLeg_ne _ h

theorem legSafe_safeLeg (brake : Bool) (l : Nat) (s : State) : legSafe brake l s (safeLeg brake l s) := by
  unfold safeLeg legSafe
  refine ⟨?_, ?_, ?_⟩
  · exact ((settle_ok ..).1.on (by decide) (by simp)).trans (State.on_put_self _ (by simp) (by simp))
  all_goals
    unfold settle
    rw [State.leg_modLeg]
    dsimp only
    rw [State.leg_modLeg]

/-- Another leg's part leaves a leg as it is. -/
theorem legSafe_safeLeg_ne {brake : Bool} {l k : Nat} {s t : State} (hk : l ≠ k) (h : legSafe brake l s t) :
    legSafe brake l s (safeLeg brake k t) := by
  obtain ⟨ho, hh, hl⟩ := h
  have e : (safeLeg brake k t).leg l = t.leg l := by
    unfold safeLeg
    rw [leg_settle_ne hk, State.leg_modLeg_ne _ hk, State.put_leg]
  have eo : (safeLeg brake k t).on (LEG_TEST.OVR l) = t.on (LEG_TEST.OVR l) := by
    unfold safeLeg
    rw [(settle_ok ..).1.on (by decide) (by simp)]
    show (t.put (LEG_TEST.OVR k) 0).on (LEG_TEST.OVR l) = _
    unfold State.on
    rw [State.get_put_ne]
    simp only [LEG_TEST]
    omega
  exact ⟨eo.trans ho, e ▸ hh, e ▸ hl⟩

theorem legSafe_congr {brake : Bool} {l : Nat} {s u t : State} (h : s.SameSlots u) (ht : legSafe brake l u t) :
    legSafe brake l s t := by
  unfold legSafe at *
  rwa [h.legOwner, h.enabled, h.absent] at ht

theorem legSafe_forEach {brake : Bool} {l : Nat} {legs : List Nat} (hl : l ∈ legs) (s : State) :
    legSafe brake l s (forEach legs (safeLeg brake) s) := by
  have keep (x : Nat) (u : State) (hu : s.SameSlots u) : s.SameSlots (safeLeg brake x u) := hu.trans (sameSlots_safeLeg ..)
  refine (forEach_reaches (P := s.SameSlots) (Q := fun u => s.SameSlots u ∧ legSafe brake l s u) hl
    (fun x _ _ u hu => keep x u hu) (fun u hu => ⟨keep l u hu, legSafe_congr hu (legSafe_safeLeg ..)⟩) (fun x _ u hu => ?_)
    ⟨fun _ => rfl, fun _ => rfl⟩).2
  refine ⟨keep x u hu.1, ?_⟩
  by_cases h : l = x
  · subst h
    exact legSafe_congr hu.1 (legSafe_safeLeg ..)
  · exact legSafe_safeLeg_ne h hu.2

theorem legSafe_of_frame {brake : Bool} {l : Nat} {W : List Part} {s t u : State} (hf : Frame W t u) (hr : .regs ∉ W)
    (ha : ∀ r, .reg r ∈ W → ¬ r.at (LEG_TEST l)) (hl : .legs ∉ W) (h : legSafe brake l s t) : legSafe brake l s u := by
  unfold legSafe at *
  rwa [hf.on hr ha, hf.leg hl]

theorem CO_LINKSTAT_not_LEG_TEST (l : Nat) : ¬ RegName.CO_LINKSTAT.at (LEG_TEST l) := by
  rintro ⟨j, k, hj⟩
  simp only [regAddr, CO_LINKSTAT, LEG_TEST] at hj
  omega

theorem legSafe_coachSafe {c l : Nat} (hl : l ∈ coachLegs c) (s : State) :
    legSafe (s.coach c).safeSel l s (coachSafe c s) := by
  rw [coachSafe_eq]
  refine legSafe_of_frame (W := [.coils, .coaches, .reg .CO_LINKSTAT]) (Ok.via (State.put_at (at_CO_LINKSTAT c)) rfl
    (Ok.via (State.modCoach_ok ..) rfl ((restCoils_ok ..).mono rfl))).1 (by decide) ?_ (by decide) (legSafe_forEach hl s)
  simpa using CO_LINKSTAT_not_LEG_TEST l

theorem coach_coachSafe (c : Nat) (s : State) :
    (coachSafe c s).coach c = { s.coach c with safe := true, applied := [], snsq := [], sar := [] } := by
  rw [coachSafe_eq, State.put_coach, State.coach_modCoach, (restCoils_ok ..).1.coach (by decide),
    (Ok.forEach (W := [.legs, .reg .LEG_TEST]) (fun l u => safeLeg_ok _ l u) .refl).1.coach (by decide)]

theorem safeact_coachSafe (c : Nat) (s : State) : (coachSafe c s).on (CO_LINKSTAT.SAFEACT c) = true := by
  rw [coachSafe_eq]
  exact State.on_put_self _ (by simp) (by simp)

/-! ### The coach declares the loss of its coupling, R20 and R21 -/

/-- The coach after it has declared the loss; `up` says whether the hub still holds the coupling up. -/
def Coach.lost (k : Coach) (up : Bool) : Coach :=
  { k with safe := true, applied := [], snsq := [], sar := [], declared := up, silent := true, awaits := true, missRun := 0 }

theorem coach_coachLoses (c : Nat) (s : State) :
    (coachLoses c s).coach c = (s.coach c).lost (s.on (CO_LINKSTAT.UP c)) := by
  unfold coachLoses
  rw [State.coach_modCoach, coach_coachSafe]
  rfl

theorem safeact_coachLoses (c : Nat) (s : State) : (coachLoses c s).on (CO_LINKSTAT.SAFEACT c) = true := by
  unfold coachLoses
  exact ((State.modCoach_ok ..).1.on (by decide) (by simp)).trans (safeact_coachSafe c s)

theorem legSafe_coachLoses {c l : Nat} (hl : l ∈ coachLegs c) (s : State) :
    legSafe (s.coach c).safeSel l s (coachLoses c s) :=
  legSafe_of_frame (State.modCoach_ok ..).1 (by decide) (by simp) (by decide) (legSafe_coachSafe hl s)

theorem coachExpiry_loses {c : Nat} {s : State} (hl : s.coachLive c = true) (ha : (s.coach c).awaits = false)
    (gangs : List GangEnd) : coachExpiry c gangs s = coachLoses c (gangOffs (ofCoach c) gangs s) := by
  unfold coachExpiry
  rw [hl, ha, if_pos (by decide)]

theorem coachExpiry_awaits {c : Nat} {s : State} (ha : (s.coach c).awaits = true) (gangs : List GangEnd) :
    coachExpiry c gangs s = s := by
  unfold coachExpiry
  rw [ha, if_neg (by simp)]

/-- The evaluations of the on-times that end leave what a leg's owner is read from. -/
theorem sameSlots_gangOffs (p : Nat → Bool) (gangs : List GangEnd) (s : State) : s.SameSlots (gangOffs p gangs s) :=
  ⟨fun _ => rd_gangOffs .., fun _ => rd_gangOffs ..⟩

theorem mem_coachLegs (c : Nat) (i : Fin 128) : 128 * c + i.val ∈ coachLegs c :=
  List.mem_map.mpr ⟨i, List.mem_range.mpr i.isLt, rfl⟩

end Sys2Proof.Machine

namespace Sys2Proof.Machine

/-! ### What an operation on one axis leaves alone

The frames name a register of every axis. That an axis's fault, halt, disable or clear leaves the words of the other axes, of
the ranks and of the coaches needs the number of the axis too. -/

/-- The registers of the event block, the planner and D4 that an operation on one axis changes beside the axis's own. -/
def sharedRegs : List RegName :=
  [.AXALERT, .AXEN, .EV_PEND, .EV_ACT, .MGS_LOGSTAT, .PL_ENERGY_HI, .PL_ENERGY_LO, .PL_EVINFO, .PL_MAKESPAN, .PL_RES, .PL_RES_EACT,
    .PL_RES_END, .PL_STAT]

/-- A part that holds no axis, rank or coach word and no axis's engine state. -/
def Part.shared : Part → Bool
  | .reg r => decide (r ∈ sharedRegs)
  | .regs => false
  | .axes => false
  | _ => true

theorem le_of_sharedRegs {r : RegName} (h : r ∈ sharedRegs) {addr : Nat} (ha : r.at addr) : 0x70000 ≤ addr := by
  obtain ⟨i, k, rfl⟩ := ha
  simp only [sharedRegs, List.mem_cons, List.not_mem_nil, or_false] at h
  rcases h with rfl | rfl | rfl | rfl | rfl | rfl | rfl | rfl | rfl | rfl | rfl | rfl | rfl
  all_goals
    simp only [regAddr, AXALERT, AXEN, EV_PEND, EV_ACT, MGS_LOGSTAT, PL_ENERGY_HI, PL_ENERGY_LO, PL_EVINFO, PL_MAKESPAN, PL_RES,
      PL_RES_EACT, PL_RES_END, PL_STAT]
    omega

/-- An operation on shared parts leaves the words below the event block. -/
theorem rd_of_shared {W : List Part} {s t : State} (h : Ok W s t) {addr : Nat} (ha : addr < 0x70000)
    (hw : W.all Part.shared = true) : t.rd addr = s.rd addr := by
  have hs {p : Part} (hp : p ∈ W) : p.shared = true := List.all_eq_true.mp hw p hp
  exact h.1.rd (fun hr => absurd (hs hr) (by decide)) fun r hr hat =>
    absurd (le_of_sharedRegs (of_decide_eq_true (hs hr)) hat) (by omega)

theorem mo_of_shared {W : List Part} {s t : State} (h : Ok W s t) (a : Nat) (hw : W.all Part.shared = true) :
    t.mo a = s.mo a :=
  h.1.mo (fun hr => absurd (List.all_eq_true.mp hw _ hr) (by decide)) a

theorem get_of_shared {W : List Part} {s t : State} (h : Ok W s t) {f : Fld} (ha : f.addr < 0x70000)
    (hw : W.all Part.shared = true) : t.get f = s.get f :=
  congrArg (wordField · f.hi f.lo) (rd_of_shared h ha hw)

/-- An address of axis 0's block: where a register of every axis stands in its block. -/
def axisOffset (k : Nat) : Bool := decide (0x10000 ≤ k ∧ k < 0x10200)

theorem axisOffset_iff {k : Nat} : axisOffset k = true ↔ 0x10000 ≤ k ∧ k < 0x10200 := decide_eq_true_iff

/-- Of the words below the event block only those of axis `b`'s block have changed, and of the axes' motions only its own. -/
def AxisOnly (b : Nat) (s t : State) : Prop :=
  (∀ addr < 0x70000, addr < 0x10000 + 0x200 * b ∨ 0x10200 + 0x200 * b ≤ addr → t.rd addr = s.rd addr) ∧ ∀ a ≠ b, t.mo a = s.mo a

namespace AxisOnly
variable {b : Nat} {s t u : State}

theorem refl : AxisOnly b s s := ⟨fun _ _ _ => rfl, fun _ _ => rfl⟩

theorem trans (h : AxisOnly b s t) (h' : AxisOnly b t u) : AxisOnly b s u :=
  ⟨fun a hl ha => (h'.1 a hl ha).trans (h.1 a hl ha), fun a ha => (h'.2 a ha).trans (h.2 a ha)⟩

/-- An operation on parts that no axis holds. -/
theorem shared {W : List Part} (h : AxisOnly b s t) (hu : Ok W t u) (hw : W.all Part.shared = true) : AxisOnly b s u :=
  h.trans ⟨fun _ hl _ => rd_of_shared hu hl hw, fun a _ => mo_of_shared hu a hw⟩

/-- A word of the axis's own block is written. -/
theorem wr {k a : Nat} {w : Word} (e : a = k + 0x200 * b) (hk : axisOffset k = true) (h : AxisOnly b s t) : AxisOnly b s (t.wr a w) :=
  h.trans ⟨fun _ _ ha => State.rd_wr_ne _ (by have := axisOffset_iff.mp hk; omega), fun _ _ => rfl⟩

theorem put {k v : Nat} {f : Fld} (e : f.addr = k + 0x200 * b) (hk : axisOffset k = true) (h : AxisOnly b s t) :
    AxisOnly b s (t.put f v) := h.wr e hk

theorem modMo {f : Motion → Motion} (h : AxisOnly b s t) : AxisOnly b s (t.modMo b f) :=
  h.trans ⟨fun _ _ _ => rfl, fun _ ha => State.mo_modMo_ne _ ha⟩

theorem modSe {f : Sense → Sense} (h : AxisOnly b s t) : AxisOnly b s (t.modSe b f) :=
  h.trans ⟨fun _ _ _ => rfl, fun _ _ => State.mo_modSe ..⟩

end AxisOnly

/-! ### The operations -/

section
variable {b : Nat} {s t : State}

theorem AxisOnly.updAlert (h : AxisOnly b s t) : AxisOnly b s (updAlert b t) := h.shared (updAlert_ok ..) rfl

theorem AxisOnly.latchAxis (h : AxisOnly b s t) : AxisOnly b s (latchAxis b t) := by
  unfold Machine.latchAxis
  dsimp only
  split
  · split
    · exact (AxisOnly.updAlert (h.put rfl rfl)).shared (killLegs_ok ..) rfl
    · exact AxisOnly.updAlert (h.put rfl rfl)
  · exact h

theorem AxisOnly.homeAbort {err : Nat} (h : AxisOnly b s t) : AxisOnly b s (homeAbort b err t) := by
  unfold Machine.homeAbort
  split
  · exact ((h.put rfl rfl).put rfl rfl).updAlert.shared (planRunCause_ok ..) rfl
  · exact h

theorem AxisOnly.closeMove (h : AxisOnly b s t) : AxisOnly b s (closeMove b t) := by
  unfold Machine.closeMove
  dsimp only
  split
  · exact (h.modMo.wr rfl rfl).put rfl rfl
  · exact h

theorem AxisOnly.endMove {done : Bool} (h : AxisOnly b s t) : AxisOnly b s (endMove b done t) := by
  unfold Machine.endMove
  dsimp only
  split
  · refine AxisOnly.shared (.closeMove <| .modMo ?_) (planMoveEnd_ok ..) rfl
    exact .put rfl rfl <| .put rfl rfl <| .put rfl rfl <| .put rfl rfl h
  · exact .closeMove <| .modMo <| .put rfl rfl <| .put rfl rfl <| .put rfl rfl <| .put rfl rfl h

theorem AxisOnly.clearResults (h : AxisOnly b s t) : AxisOnly b s (clearResults b t) := h.modSe

theorem AxisOnly.haltNow {fault : Bool} (h : AxisOnly b s t) : AxisOnly b s (haltNow b fault t) := by
  unfold Machine.haltNow
  dsimp only
  refine .updAlert <| .endMove <| .modSe <| .put rfl rfl <| .clearResults ?_
  suffices hs : ∀ v, AxisOnly b s v → AxisOnly b s (applyIf _ (·.put (AX_STAT.PML b) 1) v) by
    refine hs _ <| .put rfl rfl <| .put rfl rfl <| .put rfl rfl <| .put rfl rfl <| .put rfl rfl <| .put rfl rfl ?_
    exact .put rfl rfl <| .put rfl rfl <| .put rfl rfl <| .modMo h.homeAbort
  intro v hv
  unfold applyIf
  split
  · exact .put rfl rfl hv
  · exact hv

/-- A disable without its latching: what it does to the axis after that. -/
def disableRest (a : Nat) (s : State) : State :=
  let s := homeAbort a 3 s
  let s := s.modMo a fun m => { m with
    v := 0, acc := 0, disNext := false, orderQ := false, orderH := false, forcePark := false, parkHeld := false
    still := false, stillAt := none, stallAct := none }
  let s := ((((((s.put (AX_STAT.ENABLED a) 0).put (AX_STAT.DISPEND a) 0).put (AX_STAT.ARMED a) 0).put
    (AX_STAT.STOPKIND a) 0).put (AX_STAT.MOVING a) 0).put (AX_VEL.VEL a) 0).put (AX_ACC.ACC a) 0
  let s := s.putBitAt (AXEN (a / 32)) (a % 32) false
  let s := (clearResults a s).put (AX_STALLST.CNT a) 0
  let s := endMove a false s
  let s := s.modMo a fun m => { m with afterEnerg := .none }
  s.put (AX_SSTAT.STATE a) 0

theorem disableNow_eq (a : Nat) (s : State) : disableNow a s = disableRest a (latchAxis a s) := rfl

theorem AxisOnly.disableRest (h : AxisOnly b s t) : AxisOnly b s (disableRest b t) := by
  unfold Machine.disableRest
  refine .put rfl rfl <| .modMo <| .endMove <| .put rfl rfl <| .clearResults <| .shared ?_ (State.putBitAt_at (at_AXEN _)) rfl
  refine .put rfl rfl <| .put rfl rfl <| .put rfl rfl <| .put rfl rfl ?_
  exact .put rfl rfl <| .put rfl rfl <| .put rfl rfl <| .modMo h.homeAbort

theorem AxisOnly.disableNow (h : AxisOnly b s t) : AxisOnly b s (disableNow b t) := by
  rw [disableNow_eq]
  exact h.latchAxis.disableRest

theorem AxisOnly.clearAxis (h : AxisOnly b s t) : AxisOnly b s (clearAxis b t) := by
  unfold Machine.clearAxis
  exact .updAlert <| .modMo <| .put rfl rfl <| .disableNow <| .put rfl rfl <| .put rfl rfl h

theorem AxisOnly.faultState {cause leg : Nat} (h : AxisOnly b s t) : AxisOnly b s (faultState b cause leg t) := by
  unfold Machine.faultState
  dsimp only
  split
  · exact h
  · refine .updAlert <| .modMo <| .haltNow <| .wr rfl rfl <| .put rfl rfl <| .put rfl rfl <| .put rfl rfl ?_
    exact h.shared (planCause_ok ..) rfl

end

end Sys2Proof.Machine

namespace Sys2Proof.Machine

/-! ### Axes in turn -/

/-- Operations on axes of the device leave the words between the axis blocks and the event block. -/
theorem rd_forEach_axes {f : Nat → State → State} {l : List Nat} (hf : ∀ b u, AxisOnly b u (f b u)) (hl : ∀ b ∈ l, b < 128)
    {addr : Nat} (ha : 0x20000 ≤ addr ∧ addr < 0x70000) (s : State) : (forEach l f s).rd addr = s.rd addr :=
  forEach_keeps (P := fun u => u.rd addr = s.rd addr)
    (fun b hb u hu => ((hf b u).1 addr ha.2 (.inr (by have := hl b hb; omega))).trans hu) rfl

theorem lt_of_mem_coachAxes {c : Fin 4} {a : Nat} (h : a ∈ coachAxes c) : a < 128 := by
  obtain ⟨i, hi, rfl⟩ := List.mem_map.mp h
  have := List.mem_range.mp hi
  omega

theorem rd_faultAll {l : List Nat} (hl : ∀ b ∈ l, b < 128) {addr : Nat} (ha : 0x20000 ≤ addr ∧ addr < 0x70000) (cause leg : Nat)
    (s : State) : (faultAll l cause leg s).rd addr = s.rd addr := by
  refine rd_forEach_axes (fun b u => ?_) hl ha s
  split
  · exact .faultState .refl
  · exact .refl

/-- A coach's words other than CO_FLTSTAT, and CO_FLTSTAT of another coach, are not part of its fault. -/
theorem rd_coachFault {c : Fin 4} {addr : Nat} (ha : 0x20000 ≤ addr ∧ addr < 0x70000) (hc : addr ≠ CO_FLTSTAT c) (cause : Nat)
    (s : State) : (coachFault c cause s).rd addr = s.rd addr := by
  have low (r : RegName) (hr : r ∈ sharedRegs) : ¬ r.at addr := fun h => absurd (le_of_sharedRegs hr h) (by omega)
  unfold coachFault
  dsimp only
  rw [rd_faultAll (fun b => lt_of_mem_coachAxes) ha]
  split
  · rfl
  · rw [(pend_ok ..).1.rd (by decide) (by simpa using ⟨low _ (by decide), low _ (by decide)⟩),
      (setAct_ok ..).1.rd (by decide) (by simpa using low _ (by decide)), State.rd_put_ne _ hc, State.rd_put_ne _ hc]

/-- A coach fault is latched once it has acted, R128. -/
theorem fault_coachFault (c : Fin 4) (cause : Nat) (s : State) : (coachFault c cause s).on (CO_FLTSTAT.FAULT c) = true := by
  have ha : 0x20000 ≤ CO_FLTSTAT c ∧ CO_FLTSTAT c < 0x70000 := by simp only [CO_FLTSTAT]; omega
  have low (r : RegName) (hr : r ∈ sharedRegs) : ¬ r.at (CO_FLTSTAT c) := fun h => absurd (le_of_sharedRegs hr h) (by omega)
  unfold coachFault
  dsimp only
  unfold State.on State.get
  rw [rd_faultAll (fun b => lt_of_mem_coachAxes) ha]
  split
  · assumption
  · rw [(pend_ok ..).1.rd (by decide) (by simpa using ⟨low _ (by decide), low _ (by decide)⟩),
      (setAct_ok ..).1.rd (by decide) (by simpa using low _ (by decide))]
    refine decide_eq_true ?_
    show State.get _ (CO_FLTSTAT.FAULT c) ≠ 0
    rw [State.get_put_disj _ (by simp) (by simp), State.get_put_self _ (by simp) (by simp)]
    simp

/-! ### Exchanges that end with the coupling, R18 -/

/-- The failure of an RK_MODE write is all that a coach keeps of an exchange that ends. -/
theorem coach_modeFailed (e : Exchange) (s : State) (d : Nat) :
    (modeFailed e s).coach d = { s.coach d with modeLost := ((modeFailed e s).coach d).modeLost } := by
  unfold modeFailed
  split
  · rename_i c q _
    by_cases h : d = c
    · subst h; rw [State.coach_modCoach]
    · rw [State.coach_modCoach_ne _ h]
  · rfl

theorem coach_endExchange (e : Exchange) (x : BusErr) (s : State) (d : Nat) :
    (endExchange e (.error x) s).coach d = (modeFailed e s).coach d := by
  rw [endExchange_error, (noteDone_ok ..).1.coach (by decide), State.answer_coach, (recordErr_ok ..).1.coach (by decide)]

/-- Both queues of the hub end stay empty while the exchanges of a lost coupling end. -/
theorem queues_endExchanges {c : Nat} {s : State} (h : (s.coach c).cfgq = [] ∧ (s.coach c).ctlq = []) (q : List Exchange) :
    ((endExchanges q s).coach c).cfgq = [] ∧ ((endExchanges q s).coach c).ctlq = [] := by
  have step (e : Exchange) (x : BusErr) (u : State) (hu : (u.coach c).cfgq = [] ∧ (u.coach c).ctlq = []) :
      ((endExchange e (.error x) u).coach c).cfgq = [] ∧ ((endExchange e (.error x) u).coach c).ctlq = [] := by
    rw [coach_endExchange, coach_modeFailed]
    exact hu
  unfold endExchanges
  split
  · exact h
  · rename_i e l
    exact forEach_keeps (f := fun e u => endExchange e (.error .domainOff) u) (l := l)
      (P := fun u => (u.coach c).cfgq = [] ∧ (u.coach c).ctlq = []) (fun e _ u => step e .domainOff u) (step e .linkErr s h)

/-! ### Coupling loss, R22 -/

/-- The hub end of a coupling when the hub declares it lost, before its exchanges end. -/
def hubLost (c cause : Nat) (s : State) : State :=
  ((s.put (CO_LINKSTAT.UP c) 0).put (CO_LINKSTAT.LOSSCAUSE c) cause).modCoach c fun x =>
    { x with cfgq := [], ctlq := [], snsq := [], training := false, tx := [], rx := [] }

theorem couplingLost_eq (c cause : Nat) (s : State) :
    couplingLost c cause s = coachFault c 13 (endExchanges (s.coach c).cfgq (hubLost c cause s)) := rfl

/-- The hub watchdog: the coupling is down with its cause, the coach's fault is latched, and nothing waits at the hub end. -/
theorem couplingLost_effect (c : Fin 4) (cause : Nat) (h : cause < 16) (s : State) :
    let t := couplingLost c cause s
    t.on (CO_LINKSTAT.UP c) = false ∧ t.get (CO_LINKSTAT.LOSSCAUSE c) = cause ∧ t.on (CO_FLTSTAT.FAULT c) = true
      ∧ (t.coach c).cfgq = [] ∧ (t.coach c).ctlq = [] := by
  dsimp only
  rw [couplingLost_eq]
  have hq := queues_endExchanges (c := c) (s := hubLost c cause s) (by unfold hubLost; simp) (s.coach c).cfgq
  have hw : (coachFault c 13 (endExchanges (s.coach c).cfgq (hubLost c cause s))).rd (CO_LINKSTAT c)
      = (hubLost c cause s).rd (CO_LINKSTAT c) := by
    rw [rd_coachFault (by simp only [CO_LINKSTAT]; omega) (by simp only [CO_LINKSTAT, CO_FLTSTAT]; omega)]
    refine (endExchanges_ok ..).1.rd (by decide) fun r hr hat => ?_
    obtain ⟨i, k, hi⟩ := hat
    simp only [List.mem_cons, List.not_mem_nil, or_false, reduceCtorEq, Part.reg.injEq, false_or] at hr
    rcases hr with rfl | rfl | rfl | rfl | rfl
    all_goals
      simp only [regAddr, CO_LINKSTAT, EV_PEND, GCTL_BUSERR, GCTL_BUSERRADDR, GCTL_BUSERRCNT, MGS_LOGSTAT] at hi
      omega
  generalize endExchanges (s.coach c).cfgq (hubLost c cause s) = u at *
  have hg (f : Fld) (hf : f.addr = CO_LINKSTAT c) : (coachFault c 13 u).get f = (hubLost c cause s).get f := by
    unfold State.get
    rw [hf, hw]
  rw [(coachFault_ok ..).1.coach (by decide)]
  refine ⟨?_, ?_, fault_coachFault .., hq⟩
  · unfold State.on
    rw [hg _ rfl]
    unfold hubLost
    rw [State.modCoach_get, State.get_put_disj _ (by simp) (by simp), State.get_put_self _ (by simp) (by simp)]
    rfl
  · rw [hg _ rfl]
    unfold hubLost
    rw [State.modCoach_get, State.get_put_self _ (by simp) (by simp)]
    exact Nat.mod_eq_of_lt h

/-! ### Training, R23 -/

/-- The coach's end of a coupling that has been trained. -/
def Coach.trained (k : Coach) : Coach :=
  { k with training := false, declared := false, awaits := false, missRun := 0, tx := [], cmdSent := [], rx := [] }

/-- The link status of a coupling that has been trained, R23. -/
def linkTrained (c : Nat) (declared safe : Bool) (s : State) : State :=
  (applyIf declared (·.put (CO_LINKSTAT.LOSSCAUSE c) 2) (s.put (CO_LINKSTAT.UP c) 1)).putB (CO_LINKSTAT.SAFEACT c) safe

theorem linkTrained_ok (c : Nat) (declared safe : Bool) (s : State) : Ok [.reg .CO_LINKSTAT] s (linkTrained c declared safe s) :=
  Ok.via (State.putB_at (at_CO_LINKSTAT c)) rfl
    (Ok.applyIf (fun _ => State.put_at (at_CO_LINKSTAT c)) (State.put_at (at_CO_LINKSTAT c)))

theorem up_linkTrained (c : Nat) (declared safe : Bool) (s : State) :
    (linkTrained c declared safe s).on (CO_LINKSTAT.UP c) = true := by
  unfold linkTrained applyIf State.putB State.on
  rw [State.get_put_disj _ (by simp) (by simp)]
  split
  · rw [State.get_put_disj _ (by simp) (by simp), State.get_put_self _ (by simp) (by simp)]
    rfl
  · rw [State.get_put_self _ (by simp) (by simp)]
    rfl

theorem losscause_linkTrained (c : Nat) (declared safe : Bool) (s : State) :
    (linkTrained c declared safe s).get (CO_LINKSTAT.LOSSCAUSE c) = if declared then 2 else s.get (CO_LINKSTAT.LOSSCAUSE c) := by
  unfold linkTrained applyIf State.putB
  rw [State.get_put_disj _ (by simp) (by simp)]
  split
  · exact State.get_put_self _ (by simp) (by simp)
  · exact State.get_put_disj _ (by simp) (by simp)

theorem safeact_linkTrained (c : Nat) (declared safe : Bool) (s : State) :
    (linkTrained c declared safe s).on (CO_LINKSTAT.SAFEACT c) = safe := by
  unfold linkTrained State.putB
  rw [State.on_put_self _ (by simp) (by simp)]
  cases safe <;> rfl

theorem trainDone_trained {c : Nat} {s : State} (hl : s.coachLive c = true) (ht : (s.coach c).training = true)
    (ha : (s.coach c).awaits = true) (hs : (s.coach c).silent = false) :
    trainDone c s = ((linkTrained c (s.coach c).declared (s.coach c).safe s).modCoach c Coach.trained).modCoach c fun k =>
      { k with ctlq := k.ctlq ++ [.safe] } := by
  have hu := up_linkTrained c (s.coach c).declared (s.coach c).safe s
  unfold trainDone
  dsimp only
  rw [ht, hl, ha, hs, if_pos (by decide)]
  unfold sendCtl
  rw [if_pos (by exact hu)]
  rfl

end Sys2Proof.Machine

namespace Sys2Proof.Machine

/-! ### Legs' words at a period start

A frame names LEG_STAT of every leg; that the words of the coaches stay needs the number of the leg. -/

/-- Leg `l` lies below the coaches' words. -/
theorem legWord_lt {l k addr : Nat} (hl : l < 576) (ha : 0x29000 ≤ addr) (hk : k < 0x40) :
    addr ≠ 0x20000 + k + 0x40 * l := by
  omega

theorem rd_showFollower {l addr : Nat} (hl : l < 576) (ha : 0x29000 ≤ addr) (s : State) : (showFollower l s).rd addr = s.rd addr := by
  have hne : addr ≠ LEG_STAT l := legWord_lt (k := 4) hl ha (by decide)
  unfold showFollower
  dsimp only
  split
  · exact State.rd_put_ne _ hne
  · rw [State.rd_put_ne _ hne, State.rd_put_ne _ hne, State.rd_put_ne _ hne]
    rfl

/-- The legs of a gang stand in the rank of any one of them, or not far beyond it. -/
theorem lt_of_mem_legGang {l m : Nat} (hl : l < 512) (s : State) (hm : m ∈ s.legGang l) : m < 576 := by
  unfold State.legGang State.legOwner State.endLegs endLocals at hm
  dsimp only at hm
  simp only [List.map_map, List.mem_map, List.mem_range, Function.comp] at hm
  obtain ⟨i, hi, rfl⟩ := hm
  have hi4 : i < 4 := hi.trans_le (by unfold legsPerEnd; split_ifs <;> omega)
  unfold axisRank axisHalf axisSlot axisAt
  split_ifs <;> omega

theorem rd_holdCode {l addr : Nat} (hl : l < 512) (ha : 0x29000 ≤ addr) (s : State) : (holdCode l s).rd addr = s.rd addr := by
  have hne : addr ≠ LEG_STAT l := legWord_lt (k := 4) (by omega) ha (by decide)
  unfold holdCode
  split
  · rfl
  · refine forEach_keeps (P := fun u => u.rd addr = s.rd addr)
      (fun m hm u hu => (rd_showFollower (lt_of_mem_legGang hl _ hm) ha u).trans hu) ?_
    rw [State.modLeg_rd, State.rd_put_ne _ hne, State.rd_put_ne _ hne]

theorem rd_adaptLeg {l addr : Nat} (hl : l < 512) (ha : 0x29000 ≤ addr) (ts : List Nat) (s : State) :
    (adaptLeg l ts s).rd addr = s.rd addr := by
  have hne : addr ≠ LEG_STAT l := legWord_lt (k := 4) (by omega) ha (by decide)
  unfold adaptLeg
  dsimp only
  split
  · rfl
  split
  · exact rd_holdCode hl ha s
  split
  · rfl
  split
  · split <;> exact State.rd_put_ne _ hne
  · exact (State.rd_put_ne _ hne).trans (State.rd_put_ne _ hne)

theorem lt_of_mem_coachLegs {c : Fin 4} {l : Nat} (h : l ∈ coachLegs c) : l < 512 := by
  obtain ⟨i, hi, rfl⟩ := List.mem_map.mp h
  have := List.mem_range.mp hi
  omega

/-- A counted edge (leg, rising, ns) is noted in LEG_EDGE. -/
def noteEdge (x : Nat × Bool × Nat) (s : State) : State :=
  s.put (if x.2.1 then LEG_EDGE.TRISE x.1 else LEG_EDGE.TFALL x.1) (min 255 x.2.2)

/-- The end of a coach's period leaves the coaches' words. -/
theorem rd_adapt {c : Fin 4} {addr : Nat} (ha : 0x29000 ≤ addr) (edges : List (Nat × Bool × Nat)) (s : State) :
    (adapt c edges s).rd addr = s.rd addr := by
  unfold adapt
  dsimp only
  refine forEach_keeps (P := fun u => u.rd addr = s.rd addr)
    (fun l hl u hu => (rd_showFollower (by have := lt_of_mem_coachLegs hl; omega) ha u).trans hu) ?_
  refine forEach_keeps (P := fun u => u.rd addr = s.rd addr)
    (fun l hl u hu => (rd_adaptLeg (lt_of_mem_coachLegs hl) ha _ u).trans hu) ?_
  refine forEach_keeps (f := noteEdge) (P := fun u => u.rd addr = s.rd addr) (fun x hx u hu => ?_) rfl
  have hx' : x.1 / 128 = c.val := of_decide_eq_true (List.mem_filter.mp hx).2
  have hne : addr ≠ LEG_EDGE x.1 := legWord_lt (k := 8) (by omega) ha (by decide)
  refine (State.rd_put_ne _ ?_).trans hu
  split <;> exact hne

/-- Of the coaches a period's end changes the reports alone. -/
theorem coach_adaptLeg (l : Nat) (ts : List Nat) (d : Nat) (s : State) : (s.coach d).OnlyReports ((adaptLeg l ts s).coach d) := by
  unfold adaptLeg
  dsimp only
  split
  · exact .refl _
  split
  · rw [(holdCode_ok ..).1.coach (by decide)]
    exact .refl _
  split
  · exact .refl _
  split
  · split
    · exact coach_report ..
    · exact .refl _
  · exact .refl _

theorem coach_adapt (c : Nat) (edges : List (Nat × Bool × Nat)) (d : Nat) (s : State) :
    (s.coach d).OnlyReports ((adapt c edges s).coach d) := by
  unfold adapt
  dsimp only
  rw [(Ok.forEach (W := [.legs, .reg .LEG_STAT]) (fun l u => showFollower_ok l u) .refl).1.coach (by decide)]
  refine forEach_keeps (P := fun u => (s.coach d).OnlyReports (u.coach d)) (fun l _ u hu => hu.trans (coach_adaptLeg ..)) ?_
  exact forEach_keeps (f := noteEdge) (P := fun u => (s.coach d).OnlyReports (u.coach d)) (fun _ _ _ hu => hu) (.refl _)

/-! ### The set that a coach takes, R15 and R16 -/

/-- Two states of a coach with the same period clock and the same wait to be switched off. -/
def Coach.SameClock (k k' : Coach) : Prop := k'.tStart = k.tStart ∧ k'.perLen = k.perLen ∧ k'.offWait = k.offWait

theorem Coach.OnlyReports.sameClock {k k' : Coach} (h : k.OnlyReports k') : k.SameClock k' := by
  unfold Coach.OnlyReports at h
  rw [h]
  exact ⟨rfl, rfl, rfl⟩

theorem Coach.SameClock.trans {k k' k'' : Coach} (h : k.SameClock k') (h' : k'.SameClock k'') : k.SameClock k'' :=
  ⟨h'.1.trans h.1, h'.2.1.trans h.2.1, h'.2.2.trans h.2.2⟩

theorem coach_takeSet (c : Nat) (gangs : List GangEnd) (s : State) : (s.coach c).SameClock ((takeSet c gangs s).coach c) := by
  unfold takeSet
  dsimp only
  split
  · rw [State.coach_modCoach]
    exact ⟨rfl, rfl, rfl⟩
  split
  · rw [coach_coachLoses]
    refine .trans ?_ (coach_gangOffs ..).sameClock
    rw [State.coach_modCoach]
    exact ⟨rfl, rfl, rfl⟩
  · rw [State.coach_modCoach]
    exact ⟨rfl, rfl, rfl⟩

/-- A coach that has received all four ranks' records for its period applies them. -/
theorem takeSet_full {c : Nat} {s : State} {f : Fin 4 → List CoilRec} {n : Nat} (hn : s.get (CO_PERCNT.COUNT c) = n)
    (hr : (s.coach c).rx = (List.finRange 4).map fun q => ⟨q.val, n % 256, f q⟩) (gangs : List GangEnd) :
    takeSet c gangs s = s.modCoach c fun k => { k with applied := (List.finRange 4).map f, rx := [], missRun := 0 } := by
  have h4 : List.finRange 4 = [0, 1, 2, 3] := by decide
  have hs : (List.range 4).map (fun q => ((s.coach c).rx.find? fun x => x.q = q && x.period = n % 256).map (·.recs))
      = [some (f 0), some (f 1), some (f 2), some (f 3)] := by
    rw [hr, h4, show List.range 4 = [0, 1, 2, 3] by decide]
    simp
  unfold takeSet
  dsimp only
  rw [hn, hs, if_pos (by rfl), h4]
  rfl

/-! ### The parts of a period start, R15, R79 and R133 -/

/-- The coach's part of a period start, up to the set that it takes. -/
def periodTaken (c : Nat) (edges : List (Nat × Bool × Nat)) (gangs : List GangEnd) (s : State) : State :=
  let s := (adapt c edges s).incWrap (CO_PERCNT.COUNT c)
  if s.linkLive c then takeSet c gangs s else s

/-- The rest of a period start: the LEG boundary, the period's clock and the hub's next set. -/
def periodBuilt (c per : Nat) (s : State) : State :=
  let s := landLegs c s
  let s := if s.held .leg then s else forEach (coachRanks c) applyTopology s
  let s := advancePeriod c per s
  if s.linkLive c then buildSet c s else s.modCoach c fun k => { k with tx := [] }

theorem coachPeriod_live {c : Nat} {s : State} (hl : s.coachLive c = true) (edges : List (Nat × Bool × Nat)) (gangs : List GangEnd) :
    coachPeriod c edges gangs s = periodBuilt c (s.get (CO_PWMPER.PER c)) (periodTaken c edges gangs s) := by
  unfold coachPeriod
  rw [hl, if_neg (by decide)]
  rfl

/-- What the landing and the build of each rank keep holds where the built set is handed to the coach. -/
theorem buildSet_built (c : Nat) (s : State) : ∃ sets p t,
    (∀ Q : State → Prop, Q (landPwm c s) → (∀ r ∈ coachRanks c, ∀ p u, Q u → Q (buildRank r p u).2) → Q t)
      ∧ buildSet c s = t.modCoach c fun k => { k with tx := sets, txPeriod := p, cmdSent := [] } := by
  unfold buildSet
  extract_lets p u
  split
  rename_i sets t ht
  refine ⟨sets, p, t, fun Q h0 hr => ?_, rfl⟩
  suffices hq : Q (List.foldl _ ([], u) (coachRanks c)).2 by rwa [ht] at hq
  refine List.foldlRecOn (motive := fun (acc : List (List CoilRec) × State) => Q acc.2) _ _ h0 fun acc hacc r hm => ?_
  have hb := hr r hm p acc.2 hacc
  split
  rename_i recs v hv
  rwa [hv] at hb

/-- Two states of a coach that differ in the hub's copy of its next set alone. -/
def Coach.OnlySet (k k' : Coach) : Prop := k' = { k with tx := k'.tx, txPeriod := k'.txPeriod, cmdSent := k'.cmdSent }

theorem coach_buildSet (c : Nat) (s : State) : (s.coach c).OnlySet ((buildSet c s).coach c) := by
  obtain ⟨sets, p, t, ht, h⟩ := buildSet_built c s
  have hc : t.coach c = s.coach c := ht (fun u => u.coach c = s.coach c) ((landPwm_ok ..).1.coach (by decide) c)
    fun r _ p u hu => ((OkP.snd (buildRank_ok r p u)).1.coach (by decide) c).trans hu
  unfold Coach.OnlySet
  rw [h, State.coach_modCoach, hc]

end Sys2Proof.Machine

namespace Sys2Proof.Machine

/-! ### The period number, R15 -/

/-- The registers that a period start writes, less the period number and what building an axis's records writes. -/
def periodRegs : List RegName :=
  [.LEG_EDGE, .LEG_STAT, .LEG_TEST, .LEG_CFG, .CO_LINKSTAT, .AX_BEMFKE, .AX_STALLST, .AX_STAT, .AX_CS, .AX_DECAY,
    .CMP_CFG, .CMP_CNTS, .CMP_COUNT, .CMP_POS, .CMP_STAT, .CO_BLANK, .CO_CHOPCFG, .CO_DEADT, .CO_DTRIM, .CO_PWMPER,
    .CO_SLEWTGT, .ENC_STAT, .EV_PEND, .AXALERT, .MGS_LOGSTAT, .RK_STAT, .STEP_STAT]

/-- A part that does not hold the period number. -/
def Part.keepsCount : Part → Bool
  | .reg r => decide (r ∈ periodRegs)
  | .regs => false
  | _ => true

theorem not_at_CO_PERCNT {r : RegName} (h : r ∈ periodRegs) (c : Fin 4) : ¬ r.at (CO_PERCNT c) := by
  rintro ⟨i, k, hi⟩
  have hc := c.isLt
  simp only [periodRegs, List.mem_cons, List.not_mem_nil, or_false] at h
  rcases h with rfl | rfl | rfl | rfl | rfl | rfl | rfl | rfl | rfl | rfl | rfl | rfl | rfl | rfl | rfl | rfl | rfl | rfl | rfl | rfl
    | rfl | rfl | rfl | rfl | rfl | rfl | rfl
  all_goals
    simp only [regAddr, CO_PERCNT, LEG_EDGE, LEG_STAT, LEG_TEST, LEG_CFG, CO_LINKSTAT, AX_BEMFKE, AX_STALLST, AX_STAT, AX_CS, AX_DECAY,
      CMP_CFG, CMP_CNTS, CMP_COUNT, CMP_POS, CMP_STAT, CO_BLANK, CO_CHOPCFG, CO_DEADT, CO_DTRIM, CO_PWMPER,
      CO_SLEWTGT, ENC_STAT, EV_PEND, AXALERT, MGS_LOGSTAT, RK_STAT, STEP_STAT] at hi
    omega

theorem count_of_ok {W : List Part} {s t : State} (h : Ok W s t) (hw : W.all Part.keepsCount = true) (c : Fin 4) :
    t.get (CO_PERCNT.COUNT c) = s.get (CO_PERCNT.COUNT c) := by
  have hp {p : Part} (hp : p ∈ W) : p.keepsCount = true := List.all_eq_true.mp hw p hp
  exact h.1.get (fun hr => absurd (hp hr) (by decide)) fun r hr => not_at_CO_PERCNT (of_decide_eq_true (hp hr)) c

/-- The period number of the period that starts. -/
theorem count_adapt (c : Fin 4) (edges : List (Nat × Bool × Nat)) (s : State) :
    ((adapt c edges s).incWrap (CO_PERCNT.COUNT c)).get (CO_PERCNT.COUNT c) = (s.get (CO_PERCNT.COUNT c) + 1) % 2 ^ 32 := by
  unfold State.incWrap
  rw [State.get_put_self _ (by simp) (by simp), count_of_ok (adapt_ok ..) rfl]
  rfl

theorem count_periodTaken (c : Fin 4) (edges : List (Nat × Bool × Nat)) (gangs : List GangEnd) (s : State) :
    (periodTaken c edges gangs s).get (CO_PERCNT.COUNT c) = (s.get (CO_PERCNT.COUNT c) + 1) % 2 ^ 32 := by
  unfold periodTaken
  dsimp only
  split
  · exact (count_of_ok (takeSet_ok ..) rfl c).trans (count_adapt ..)
  · exact count_adapt ..

/-! ### Building the records of an axis -/

theorem AxisOnly.placeWindow {a period : Nat} {b : Bool} {x : CoilRec} {s t : State} (h : AxisOnly a s t) :
    AxisOnly a s (placeWindow a b period x t).2 := by
  unfold Machine.placeWindow
  dsimp only
  split
  · exact h
  split
  · split
    · exact h
    · exact h.modSe
  · exact h

theorem axisOnly_buildAxis (a period : Nat) (s : State) : AxisOnly a s (buildAxis a period s).2 := by
  have hw {b b' : Bool} {x x' : CoilRec} {f : Sense → Sense} :
      AxisOnly a s (((placeWindow a b' period x' (placeWindow a b period x s).2).2).modSe a f) :=
    .modSe <| .placeWindow <| .placeWindow .refl
  unfold buildAxis applyIf
  dsimp only
  refine .put rfl rfl <| .put rfl rfl ?_
  split
  · refine .put rfl rfl <| .put rfl rfl <| .put rfl rfl <| .put rfl rfl ?_
    exact .put rfl rfl <| .put rfl rfl <| .put rfl rfl hw
  · exact .put rfl rfl <| .put rfl rfl <| .put rfl rfl <| .put rfl rfl <| .put rfl rfl <| .put rfl rfl hw

theorem rd_buildRank {r period addr : Nat} (hr : r < 16) (ha : 0x20000 ≤ addr ∧ addr < 0x70000) (s : State) :
    (buildRank r period s).2.rd addr = s.rd addr := by
  unfold buildRank
  refine List.foldlRecOn (motive := fun (acc : List CoilRec × State) => acc.2.rd addr = s.rd addr) _ _ rfl fun acc hacc h hh => ?_
  refine List.foldlRecOn (motive := fun (acc : List CoilRec × State) => acc.2.rd addr = s.rd addr) _ _ hacc fun acc hacc k hk => ?_
  dsimp only
  split
  · have hb : axisAt r h k < 128 := by
      unfold axisAt
      simp only [List.mem_cons, List.not_mem_nil, or_false] at hh hk
      omega
    exact ((axisOnly_buildAxis ..).1 addr ha.2 (.inr (by omega))).trans hacc
  · exact hacc

/-- Beside what lands with it, a built set writes axis words alone. -/
theorem rd_buildSet {c : Fin 4} {addr : Nat} (ha : 0x20000 ≤ addr ∧ addr < 0x70000) (s : State) :
    (buildSet c s).rd addr = (landPwm c s).rd addr := by
  obtain ⟨sets, p, t, ht, h⟩ := buildSet_built c s
  rw [h, State.modCoach_rd]
  refine ht (fun u => u.rd addr = (landPwm c s).rd addr) rfl fun r hr p u hu => ?_
  obtain ⟨i, hi, rfl⟩ := List.mem_map.mp hr
  have := List.mem_range.mp hi
  exact (rd_buildRank (by omega) ha u).trans hu

theorem count_buildSet (c : Fin 4) (s : State) : (buildSet c s).get (CO_PERCNT.COUNT c) = s.get (CO_PERCNT.COUNT c) := by
  refine .trans ?_ (count_of_ok (landPwm_ok c s) rfl c)
  unfold State.get
  rw [rd_buildSet (by simp only [CO_PERCNT]; omega)]

theorem count_periodBuilt (c : Fin 4) (per : Nat) (s : State) :
    (periodBuilt c per s).get (CO_PERCNT.COUNT c) = s.get (CO_PERCNT.COUNT c) := by
  have hland := count_of_ok (landLegs_ok c s) rfl c
  have htop (u : State) : (advancePeriod c per (if u.held .leg then u else forEach (coachRanks c) applyTopology u)).get (CO_PERCNT.COUNT c)
      = u.get (CO_PERCNT.COUNT c) := by
    refine (count_of_ok (advancePeriod_ok ..) rfl c).trans ?_
    split
    · rfl
    · exact count_of_ok (Ok.forEach (fun r v => applyTopology_ok r v) .refl) rfl c
  unfold periodBuilt
  dsimp only
  generalize hu : advancePeriod c per _ = v
  have hv := hu ▸ htop (landLegs c s)
  split
  · rw [count_buildSet, hv, hland]
  · rw [State.modCoach_get, hv, hland]

/-! ### The coach at a period start -/

theorem coach_periodTaken (c : Nat) (edges : List (Nat × Bool × Nat)) (gangs : List GangEnd) (s : State) :
    (s.coach c).SameClock ((periodTaken c edges gangs s).coach c) := by
  have h : (s.coach c).SameClock (((adapt c edges s).incWrap (CO_PERCNT.COUNT c)).coach c) := (coach_adapt c edges c s).sameClock
  unfold periodTaken
  dsimp only
  split
  · exact h.trans (coach_takeSet ..)
  · exact h

/-- The rest of a period start moves the period's clock on, and of the coach's end of the coupling keeps the rest. -/
theorem coach_periodBuilt (c per : Nat) (s : State) :
    let k := s.coach c
    let k' := (periodBuilt c per s).coach c
    k'.tStart = k.tStart + k.perLen ∧ k'.offWait = k.offWait ∧ k'.applied = k.applied ∧ k'.missRun = k.missRun := by
  have hland (d : Nat) : (landLegs c s).coach d = s.coach d := (landLegs_ok c s).1.coach (by decide) d
  have htop (u : State) (hu : u.coach c = s.coach c) :
      (advancePeriod c per (if u.held .leg then u else forEach (coachRanks c) applyTopology u)).coach c
        = { s.coach c with
            tStart := (s.coach c).tStart + (s.coach c).perLen
            perLen := ((advancePeriod c per (if u.held .leg then u else forEach (coachRanks c) applyTopology u)).coach c).perLen } := by
    have hk : (if u.held .leg then u else forEach (coachRanks c) applyTopology u).coach c = s.coach c := by
      split
      · exact hu
      · exact ((Ok.forEach (fun r v => applyTopology_ok r v) .refl).1.coach (by decide) c).trans hu
    unfold advancePeriod
    rw [State.coach_modCoach, hk]
  unfold periodBuilt
  dsimp only
  generalize hu : advancePeriod c per _ = v
  have hv := hu ▸ htop _ (hland c)
  split
  · rw [coach_buildSet c v, hv]
    exact ⟨rfl, rfl, rfl, rfl⟩
  · rw [State.coach_modCoach, hv]
    exact ⟨rfl, rfl, rfl, rfl⟩

/-- A coach whose coupling is up takes a set that has come whole. -/
theorem coach_periodTaken_full {c : Fin 4} {s : State} {f : Fin 4 → List CoilRec} (hl : s.linkLive c = true)
    (hr : (s.coach c).rx = (List.finRange 4).map fun q => ⟨q.val, (s.get (CO_PERCNT.COUNT c) + 1) % 2 ^ 32 % 256, f q⟩)
    (edges : List (Nat × Bool × Nat)) (gangs : List GangEnd) :
    ((periodTaken c edges gangs s).coach c).applied = (List.finRange 4).map f
      ∧ ((periodTaken c edges gangs s).coach c).missRun = 0 := by
  have hrep := coach_adapt c edges c s
  have hlink : ((adapt c edges s).incWrap (CO_PERCNT.COUNT c)).rd (CO_LINKSTAT c) = s.rd (CO_LINKSTAT c) :=
    (State.rd_put_ne _ (by simp only [CO_LINKSTAT, CO_PERCNT]; omega)).trans (rd_adapt (by simp only [CO_LINKSTAT]; omega) edges s)
  have hcount := count_adapt c edges s
  have hk : ((adapt c edges s).incWrap (CO_PERCNT.COUNT c)).coach c = (adapt c edges s).coach c := rfl
  unfold periodTaken
  dsimp only
  generalize (adapt c edges s).incWrap (CO_PERCNT.COUNT c) = u at *
  have hlive : u.linkLive c = true := by
    unfold State.linkLive State.on State.get at *
    rw [hlink, hk, hrep]
    exact hl
  rw [if_pos hlive, takeSet_full hcount (by rw [hk, hrep]; exact hr), State.coach_modCoach]
  exact ⟨rfl, rfl⟩

end Sys2Proof.Machine

namespace Sys2Proof.Machine

/-! ### What the CFG and CFGR frames and a resend come to, the host port idle -/

/-- A CFG frame that fails CRC: the coach counts it, and the request stays sent. -/
theorem does_cfgFrame_lost {s : State} {c : Fin 4} {e : Exchange} {rest : List Exchange} {gangs : List GangEnd} (hp : portIdle s)
    (hl : s.linkLive c = true) (hm : (s.coach c).controlMay = true) (hc : (s.coach c).ctlq = []) (hq : (s.coach c).cfgq = e :: rest)
    (hs : e.sent = false) :
    Does (.cfgFrame c ⟨false, gangs⟩) s fun t =>
      t.coach c = { s.coach c with
          cmdRun := 0, crcRep := (s.coach c).crcRep + 1, cfgq := { e with sent := true } :: rest } ∧ Frame [.coaches] s t := by
  refine .of_eq rfl ((congrArg hostPoll (cfgFrame_lost hl hm hc hq hs gangs)).trans (hostPoll_idle (portIdle_of_sph hp rfl))) ⟨?_, ?_⟩
  · unfold cfgSent
    rw [State.coach_modCoach, State.coach_modCoach]
  · exact (Ok.via (State.modCoach_ok ..) rfl (cfgSent_ok ..)).1

/-- The coach has performed an exchange and holds its answer, what the register reads now. -/
def cfgAnswered (c : Nat) (e : Exchange) (rest : List Exchange) (l : Loc) (s : State) : State :=
  s.modCoach c fun k => { k with
    applSeq := some e.seq, cfgq := { e with sent := true, answer := some (s.readWord l e.addr) } :: rest }

/-- A CFG frame that passes CRC: the coach performs the exchange, and answers with what the register reads then. -/
theorem hostPoll_cfgFrame_received {s : State} {c : Fin 4} {e : Exchange} {rest : List Exchange} {l : Loc} (hp : portIdle s)
    (hl : s.linkLive c = true) (hm : (s.coach c).controlMay = true) (hc : (s.coach c).ctlq = []) (hq : (s.coach c).cfgq = e :: rest)
    (hs : e.sent = false) (ho : coachOf e.addr = some c.val) (ha : locate e.addr = some l) (hn : l.compl = false)
    (gangs : List GangEnd) :
    hostPoll (cfgFrame c true gangs s) = cfgAnswered c e rest l (cfgPerformed c e l gangs (cfgSent c e rest s)) := by
  rw [cfgFrame_received hl hm hc hq hs ha hn]
  exact hostPoll_idle (portIdle_of_sph hp (sph_cfgPerformed ho ha gangs (cfgSent c e rest s)))

/-- A read, or a write performed before, changes the two ends of the coupling alone. -/
theorem cfgFrame_idle_effect {s : State} {c : Fin 4} {e : Exchange} {rest : List Exchange} {l : Loc}
    (h : e.wr = none ∨ (s.coach c).applSeq = some e.seq) (gangs : List GangEnd) :
    let t := cfgAnswered c e rest l (cfgPerformed c e l gangs (cfgSent c e rest s))
    t.coach c = { s.coach c with
        cmdRun := 0, applSeq := some e.seq, cfgq := { e with sent := true, answer := some (s.readWord l e.addr) } :: rest }
      ∧ Frame [.coaches] s t := by
  have hi : cfgPerformed c e l gangs (cfgSent c e rest s) = cfgSent c e rest s :=
    cfgPerformed_idle (h.imp id fun h => by unfold cfgSent; rw [State.coach_modCoach]; exact h) gangs
  dsimp only
  rw [hi]
  refine ⟨?_, (Ok.via (State.modCoach_ok ..) rfl (cfgSent_ok ..)).1⟩
  unfold cfgAnswered cfgSent
  rw [State.coach_modCoach, State.coach_modCoach, readWord_modCoach]

section
variable {s : State} {c : Fin 4} {e : Exchange} {rest : List Exchange} {w : Word} (hp : portIdle s)
  (hl : s.linkLive c = true) (hs : (s.coach c).statq = []) (hq : (s.coach c).cfgq = e :: rest) (ha : e.answer = some w)
include hp hl hs hq ha

theorem does_cfgrFrame_lost :
    Does (.cfgrFrame c false) s fun t =>
      t.coach c = { s.coach c with cfgrSeq := ((s.coach c).cfgrSeq + 1) % 256, cfgq := { e with answer := none } :: rest }
        ∧ Frame [.coaches, .reg .CO_LINKERR] s t := by
  refine .of_eq rfl ((congrArg hostPoll (cfgrFrame_lost hl hs hq ha)).trans (hostPoll_idle (portIdle_of_sph hp rfl))) ⟨?_, ?_⟩
  · rw [State.coach_modCoach, State.inc_coach, State.coach_modCoach]
  · exact (Ok.via (State.modCoach_ok ..) rfl (Ok.via (State.inc_at (at_CO_LINKERR c)) rfl ((State.modCoach_ok ..).mono rfl))).1

theorem does_cfgrFrame_received :
    Does (.cfgrFrame c true) s fun t =>
      t.coach c = { s.coach c with cfgrSeq := ((s.coach c).cfgrSeq + 1) % 256, cfgq := nextServed e.master rest }
        ∧ t.reply e.master = (if e.wr.isSome then .done else .data w) ∧ Frame [.coaches, .replies, .net] s t := by
  have hne : ∀ x, (if e.wr.isSome then Reply.done else .data w) ≠ .error x := by split <;> simp
  have h := cfgrFrame_received hl hs hq ha
  rw [endExchange_eq _ _ _ hne] at h
  refine .of_eq rfl ((congrArg hostPoll h).trans (hostPoll_idle (portIdle_of_sph hp ?_))) ⟨?_, ?_, ?_⟩
  · exact (sph_noteDone ..).trans rfl
  · rw [(noteDone_ok ..).1.coach (by decide), State.answer_coach, State.coach_modCoach, State.coach_modCoach]
  · rw [reply_noteDone, State.reply_answer]
  · exact (Ok.via (noteDone_ok ..) rfl (Ok.via (State.answer_ok ..) rfl (Ok.via (State.modCoach_ok ..) rfl
      ((State.modCoach_ok ..).mono rfl)))).1

end

theorem does_cfgResend {s : State} {c : Fin 4} {e : Exchange} {rest : List Exchange} (hp : portIdle s)
    (hu : s.on (CO_LINKSTAT.UP c) = true) (hq : (s.coach c).cfgq = e :: rest) (hs : e.sent = true) :
    Does (.cfgResend c) s fun t =>
      (e.resent = false →
        t.coach c = { s.coach c with cfgq := { e with sent := false, resent := true, answer := none } :: rest }
        ∧ Frame [.coaches] s t) ∧
      (e.resent = true → t.coach c = { (modeFailed e s).coach c with cfgq := nextServed e.master rest }
        ∧ t.reply e.master = .error .linkErr ∧ Frame (.coaches :: .net :: errorParts) s t) := by
  cases hr : e.resent
  · refine .of_eq rfl ((congrArg hostPoll (cfgResend_again hu hq hs hr)).trans (hostPoll_idle (portIdle_of_sph hp rfl)))
      ⟨fun _ => ?_, nofun⟩
    exact ⟨State.coach_modCoach .., (State.modCoach_ok ..).1⟩
  · have h := linkErr_effect c e (nextServed e.master rest) s
    refine .of_eq rfl ((congrArg hostPoll (cfgResend_fails hu hq hs hr)).trans (hostPoll_idle (portIdle_of_sph hp ?_)))
      ⟨nofun, fun _ => h⟩
    exact h.2.2.1 .sph (by decide)

/-! ### The watchdogs, training and the period start -/

theorem does_coachWatchdogExpiry {s : State} {c : Fin 4} {gangs : List GangEnd} (hl : s.coachLive c = true)
    (ha : (s.coach c).awaits = false) :
    Does (.coachWatchdogExpiry ⟨c, gangs⟩) s fun t =>
      (t.coach c).safe = true ∧ (t.coach c).declared = s.on (CO_LINKSTAT.UP c) ∧ (t.coach c).silent = true
        ∧ (t.coach c).awaits = true ∧ (t.coach c).missRun = 0 ∧ (t.coach c).applied = [] ∧ t.on (CO_LINKSTAT.SAFEACT c) = true
        ∧ (∀ i : Fin 128, t.on (LEG_TEST.OVR (128 * c + i)) = false ∧ (t.leg (128 * c + i)).hs = false ∧
            let a := (s.legOwner (128 * c + i)).1
            (t.leg (128 * c + i)).ls = ((s.coach c).safeSel && s.enabled a && !s.absent a))
        ∧ Frame [.legs, .coils, .coaches, .free, .reg .CO_LINKSTAT, .reg .LEG_TEST] s t := by
  have hg := coach_gangOffs (ofCoach c) gangs c s
  have hup : (gangOffs (ofCoach c) gangs s).on (CO_LINKSTAT.UP c) = s.on (CO_LINKSTAT.UP c) :=
    congrArg (fun w => decide (wordField w 0 0 ≠ 0)) (rd_gangOffs ..)
  have hsel : ((gangOffs (ofCoach c) gangs s).coach c).safeSel = (s.coach c).safeSel := by rw [hg]
  refine .of_eq rfl (coachExpiry_loses hl ha gangs) ?_
  rw [coach_coachLoses, hup]
  refine ⟨rfl, rfl, rfl, rfl, rfl, rfl, safeact_coachLoses .., fun i => ?_,
    (Ok.via (coachLoses_ok ..) rfl ((gangOffs_ok ..).mono rfl)).1⟩
  exact hsel ▸ legSafe_congr (sameSlots_gangOffs ..) (legSafe_coachLoses (mem_coachLegs c i) _)

theorem does_hubWatchdogExpiry {s : State} {c : Fin 4} (hu : s.on (CO_LINKSTAT.UP c) = true) :
    Does (.hubWatchdogExpiry c) s fun t =>
      t.on (CO_LINKSTAT.UP c) = false ∧ t.get (CO_LINKSTAT.LOSSCAUSE c) = 1 ∧ t.on (CO_FLTSTAT.FAULT c) = true
        ∧ (t.coach c).cfgq = [] ∧ (t.coach c).ctlq = [] := by
  refine .of_eq rfl (?_ : hubExpiry c s = couplingLost c 1 s) (couplingLost_effect c 1 (by decide) s)
  unfold hubExpiry
  rw [if_pos hu]

theorem does_trainingAttempt {s : State} {c : Fin 4} (hl : s.coachLive c = true) (hu : s.on (CO_LINKSTAT.UP c) = false) :
    Does (.trainingAttempt c) s fun t => t.coach c = { s.coach c with training := true } ∧ Frame [.coaches] s t := by
  refine .of_eq rfl (?_ : trainAttempt c s = s.modCoach c fun k => { k with training := true })
    ⟨State.coach_modCoach .., (State.modCoach_ok ..).1⟩
  unfold trainAttempt
  rw [hl, hu, if_pos (by decide)]

theorem does_trainingComplete {s : State} {c : Fin 4} (hl : s.coachLive c = true) (ht : (s.coach c).training = true)
    (ha : (s.coach c).awaits = true) (hs : (s.coach c).silent = false) :
    Does (.trainingComplete c) s fun t =>
      t.on (CO_LINKSTAT.UP c) = true ∧ t.on (CO_LINKSTAT.SAFEACT c) = (s.coach c).safe
        ∧ t.get (CO_LINKSTAT.LOSSCAUSE c) = (if (s.coach c).declared then 2 else s.get (CO_LINKSTAT.LOSSCAUSE c))
        ∧ t.coach c = { s.coach c with training := false, declared := false, awaits := false, missRun := 0, tx := [],
                                       cmdSent := [], rx := [], ctlq := (s.coach c).ctlq ++ [.safe] }
        ∧ Frame [.coaches, .reg .CO_LINKSTAT] s t := by
  refine .of_eq rfl (trainDone_trained hl ht ha hs) ⟨up_linkTrained .., safeact_linkTrained .., losscause_linkTrained .., ?_, ?_⟩
  · rw [State.coach_modCoach, State.coach_modCoach, (linkTrained_ok ..).1.coach (by decide)]
    rfl
  · exact (Ok.via (State.modCoach_ok ..) rfl (Ok.via (State.modCoach_ok ..) rfl ((linkTrained_ok ..).mono rfl))).1

theorem does_coachPeriodStart {s : State} {c : Fin 4} (hl : s.coachLive c = true) (ho : (s.coach c).offWait = false) (x : CoachEdges) :
    Does (.coachPeriodStart c x) s fun t =>
      let n := (s.get (CO_PERCNT.COUNT c) + 1) % 2 ^ 32
      t.get (CO_PERCNT.COUNT c) = n ∧ (t.coach c).tStart = (s.coach c).tStart + (s.coach c).perLen
        ∧ ∀ f : Fin 4 → List CoilRec, s.linkLive c = true →
            (s.coach c).rx = (List.finRange 4).map (fun q => ⟨q.val, n % 256, f q⟩) →
          (t.coach c).applied = (List.finRange 4).map f ∧ (t.coach c).missRun = 0 := by
  have hlive := coachPeriod_live hl (x.edges.map fun e => (e.1.val, e.2.1, e.2.2)) x.gangs
  have hcount := count_periodTaken c (x.edges.map fun e => (e.1.val, e.2.1, e.2.2)) x.gangs s
  have hfull (f : Fin 4 → List CoilRec) (hk : s.linkLive c = true) (hr : (s.coach c).rx
      = (List.finRange 4).map fun q => ⟨q.val, (s.get (CO_PERCNT.COUNT c) + 1) % 2 ^ 32 % 256, f q⟩) :=
    coach_periodTaken_full hk hr (x.edges.map fun e => (e.1.val, e.2.1, e.2.2)) x.gangs
  obtain ⟨htS, hpL, hoff⟩ := coach_periodTaken c (x.edges.map fun e => (e.1.val, e.2.1, e.2.2)) x.gangs s
  generalize periodTaken c (x.edges.map fun e => (e.1.val, e.2.1, e.2.2)) x.gangs s = u at *
  obtain ⟨hbS, hbO, hbA, hbM⟩ := coach_periodBuilt c (s.get (CO_PWMPER.PER c)) u
  refine .of_eq (u := periodBuilt c (s.get (CO_PWMPER.PER c)) u) rfl ?_ ⟨?_, ?_, fun f hk hr => ?_⟩
  · rw [hlive, if_neg (by rw [hbO, hoff, ho]; decide)]
  · exact (count_periodBuilt ..).trans hcount
  · rw [hbS, htS, hpL]
  · rw [hbA, hbM]
    exact hfull f hk hr

/-! ### O4 -/

/-- Settles O4: exchanges, watchdogs, training and period starts of a coupling, each by what its operation does. -/
theorem couplingsComplete : Obligations.CouplingsComplete := by
  unfold Obligations.CouplingsComplete
  intro s c
  refine ⟨?_, ?_, ?_, ?_, ?_, ?_, ?_, ?_, ?_, ?_⟩
  · intro e rest l gangs hp hl hm hc hq hs ho ha hn
    have hx := hostPoll_cfgFrame_received hp hl hm hc hq hs ho ha hn gangs
    refine ⟨does_cfgFrame_lost hp hl hm hc hq hs, fun h => .of_eq rfl hx (cfgFrame_idle_effect h gangs),
      .of_eq rfl hx ?_⟩
    unfold cfgAnswered
    rw [State.coach_modCoach]
    exact ⟨rfl, _, rfl⟩
  · exact fun e rest w hp hl hs hq ha => ⟨does_cfgrFrame_lost hp hl hs hq ha, does_cfgrFrame_received hp hl hs hq ha⟩
  · exact fun e rest hp hu hq hs => does_cfgResend hp hu hq hs
  · exact fun gangs hl ha => does_coachWatchdogExpiry hl ha
  · exact fun gangs ha => ⟨_, rfl, coachExpiry_awaits ha gangs⟩
  · exact does_hubWatchdogExpiry
  · exact ⟨_, rfl, State.coach_modCoach .., (State.modCoach_ok ..).1⟩
  · exact does_trainingAttempt
  · exact does_trainingComplete
  · exact does_coachPeriodStart

end Sys2Proof.Machine

namespace Sys2Proof.Machine

/-! ### Words of one axis -/

theorem AX_FLTSTAT_lt {a : Nat} (ha : a < 128) : AX_FLTSTAT a < 0x70000 := by simp only [AX_FLTSTAT]; omega

theorem AX_STAT_lt {a : Nat} (ha : a < 128) : AX_STAT a < 0x70000 := by simp only [AX_STAT]; omega

/-! ### Latching, R125 and R127 -/

theorem latchAxis_idle {a : Nat} {s : State} (h : s.get (AX_FLTSTAT.STATE a) ≠ 1 ∧ s.get (AX_FLTSTAT.STATE a) ≠ 2) :
    latchAxis a s = s := by
  unfold latchAxis
  dsimp only
  rw [if_neg (by simpa using h)]

/-- An axis in FAULT_WAIT or TEST is latched. -/
theorem state_latchAxis {a : Nat} (ha : a < 128) {s : State} (h : s.get (AX_FLTSTAT.STATE a) = 1 ∨ s.get (AX_FLTSTAT.STATE a) = 2) :
    (latchAxis a s).get (AX_FLTSTAT.STATE a) = 3 := by
  have hp : (updAlert a (s.put (AX_FLTSTAT.STATE a) 3)).get (AX_FLTSTAT.STATE a) = 3 :=
    (get_of_shared (updAlert_ok ..) (AX_FLTSTAT_lt ha) rfl).trans (State.get_put_self _ (by simp) (by simp))
  unfold latchAxis
  dsimp only
  rw [if_pos (by simpa using h)]
  split
  · exact (get_of_shared (killLegs_ok ..) (AX_FLTSTAT_lt ha) rfl).trans hp
  · exact hp

/-! ### Disabling, R170 -/

theorem enabled_put {a v : Nat} {f : Fld} {s : State} (h : f.hi < 30 ∨ f.addr ≠ AX_STAT a) :
    (s.put f v).enabled a = s.enabled a := by
  refine congrArg (fun n => decide (n ≠ 0)) ?_
  rcases h with h | h
  · exact State.get_put_disj _ (by omega) (.inr h)
  · exact State.get_put_ne _ (Ne.symm h)

@[simp] theorem enabled_modMo (a b : Nat) (f : Motion → Motion) (s : State) : (s.modMo b f).enabled a = s.enabled a := rfl

@[simp] theorem enabled_clearResults (a b : Nat) (s : State) : (clearResults b s).enabled a = s.enabled a := rfl

theorem enabled_of_frame {W : List Part} {s t : State} (h : Frame W s t) {a : Nat} (hr : .regs ∉ W)
    (hw : ∀ r, .reg r ∈ W → ¬ r.at (AX_STAT a)) : t.enabled a = s.enabled a := h.on hr hw

theorem enabled_of_shared {W : List Part} {s t : State} (h : Ok W s t) {a : Nat} (ha : a < 128)
    (hw : W.all Part.shared = true) : t.enabled a = s.enabled a :=
  congrArg (fun n => decide (n ≠ 0)) (get_of_shared h (AX_STAT_lt ha) hw)

theorem enabled_closeMove (a b : Nat) (s : State) : (closeMove b s).enabled a = s.enabled a := by
  refine enabled_of_frame (closeMove_ok ..).1 (by decide) fun r hr hat => ?_
  obtain ⟨i, k, hi⟩ := hat
  simp only [List.mem_cons, List.not_mem_nil, or_false, reduceCtorEq, Part.reg.injEq, false_or] at hr
  rcases hr with rfl | rfl
  all_goals
    simp only [regAddr, AX_STAT, AX_EPFS, AX_MOVEEN] at hi
    omega

theorem enabled_endMove {a : Nat} (ha : a < 128) (done : Bool) (s : State) : (endMove a done s).enabled a = s.enabled a := by
  unfold endMove
  dsimp only
  split
  · rw [enabled_of_shared (planMoveEnd_ok ..) ha rfl, enabled_closeMove, enabled_modMo, enabled_put (by simp), enabled_put (by simp),
      enabled_put (by simp), enabled_put (by simp)]
  · rw [enabled_closeMove, enabled_modMo, enabled_put (by simp), enabled_put (by simp), enabled_put (by simp), enabled_put (by simp)]

theorem enabled_disableRest {a : Nat} (ha : a < 128) (s : State) : (disableRest a s).enabled a = false := by
  unfold disableRest
  dsimp only
  rw [enabled_put (.inr (by simp only [AX_SSTAT, AX_STAT]; omega)), enabled_modMo, enabled_endMove ha,
    enabled_put (.inr (by simp only [AX_STALLST, AX_STAT]; omega)), enabled_clearResults,
    enabled_of_shared (State.putBitAt_at (at_AXEN _)) ha rfl, enabled_put (.inr (by simp only [AX_ACC, AX_STAT]; omega)),
    enabled_put (.inr (by simp only [AX_VEL, AX_STAT]; omega)), enabled_put (by simp), enabled_put (by simp), enabled_put (by simp),
    enabled_put (by simp)]
  exact State.on_put_self _ (by simp) (by simp)

/-- A disable takes effect: the axis is disabled. -/
theorem enabled_disableNow {a : Nat} (ha : a < 128) (s : State) : (disableNow a s).enabled a = false := by
  rw [disableNow_eq]
  exact enabled_disableRest ha _

/-- The registers that a disable writes beside the latching. -/
def disableParts : List Part :=
  [.trioQ, .emcyQ, .logQ, .logWin, .axes, .pl, .reg .AXALERT, .reg .AXEN, .reg .AX_ACC, .reg .AX_EPFS, .reg .AX_HOMEST, .reg .AX_MOVEEN,
    .reg .AX_SSTAT, .reg .AX_STALLST, .reg .AX_STAT, .reg .AX_VEL, .reg .EV_PEND, .reg .MGS_LOGSTAT, .reg .PL_ENERGY_HI,
    .reg .PL_ENERGY_LO, .reg .PL_EVINFO, .reg .PL_MAKESPAN, .reg .PL_RES, .reg .PL_RES_EACT, .reg .PL_RES_END, .reg .PL_STAT]

theorem disableRest_ok (a : Nat) (s : State) : Ok disableParts s (disableRest a s) := by
  unfold disableRest
  refine Ok.via (State.put_at (at_AX_SSTAT a)) rfl (Ok.via (State.modMo_ok ..) rfl (Ok.via (endMove_ok ..) rfl
    (Ok.via (State.put_at (at_AX_STALLST a)) rfl (Ok.via (clearResults_ok ..) rfl (Ok.via (State.putBitAt_at (at_AXEN _)) rfl ?_)))))
  refine Ok.via (State.put_at (at_AX_ACC a)) rfl (Ok.via (State.put_at (at_AX_VEL a)) rfl ?_)
  have stat {f : Fld} {u : State} (hf : f.addr = AX_STAT a) (hu : Ok disableParts s u) : Ok disableParts s (u.put f 0) :=
    Ok.via (State.put_at (hf ▸ at_AX_STAT a)) rfl hu
  exact stat rfl (stat rfl (stat rfl (stat rfl (stat rfl (Ok.via (State.modMo_ok ..) rfl ((homeAbort_ok ..).mono rfl))))))

theorem fltstat_disableRest {a : Nat} (ha : a < 128) (s : State) : (disableRest a s).rd (AX_FLTSTAT a) = s.rd (AX_FLTSTAT a) := by
  refine (disableRest_ok a s).1.rd (by decide) fun r hr hat => ?_
  obtain ⟨i, k, hi⟩ := hat
  simp only [disableParts, List.mem_cons, List.not_mem_nil, or_false, reduceCtorEq, Part.reg.injEq, false_or] at hr
  rcases hr with rfl | rfl | rfl | rfl | rfl | rfl | rfl | rfl | rfl | rfl | rfl | rfl | rfl | rfl | rfl | rfl | rfl | rfl | rfl | rfl
  all_goals
    simp only [regAddr, AX_FLTSTAT, AXALERT, AXEN, AX_ACC, AX_EPFS, AX_HOMEST, AX_MOVEEN, AX_SSTAT, AX_STALLST, AX_STAT, AX_VEL, EV_PEND,
      MGS_LOGSTAT, PL_ENERGY_HI, PL_ENERGY_LO, PL_EVINFO, PL_MAKESPAN, PL_RES, PL_RES_EACT, PL_RES_END, PL_STAT] at hi
    omega

/-! ### Clearing, R127 -/

/-- The fault status word of an axis whose fault has been cleared. -/
theorem fltstat_clearAxis {a : Nat} (ha : a < 128) (s : State) :
    (clearAxis a s).rd (AX_FLTSTAT a) = ((s.put (AX_FLTSTAT.STATE a) 0).put (AX_FLTSTAT.CAUSE a) 0).rd (AX_FLTSTAT a) := by
  have hz : ((s.put (AX_FLTSTAT.STATE a) 0).put (AX_FLTSTAT.CAUSE a) 0).get (AX_FLTSTAT.STATE a) = 0 := by
    rw [State.get_put_disj _ (by simp) (by simp)]
    exact State.get_put_self _ (by simp) (by simp)
  unfold clearAxis
  dsimp only
  rw [rd_of_shared (updAlert_ok ..) (AX_FLTSTAT_lt ha) rfl, State.modMo_rd,
    State.rd_put_ne _ (by simp only [AX_FLTSTAT, AX_STAT]; omega), disableNow_eq, latchAxis_idle (by rw [hz]; decide),
    fltstat_disableRest ha]

theorem fltget_clearAxis {a : Nat} (ha : a < 128) {f : Fld} (hf : f.addr = AX_FLTSTAT a) (s : State) :
    (clearAxis a s).get f = ((s.put (AX_FLTSTAT.STATE a) 0).put (AX_FLTSTAT.CAUSE a) 0).get f := by
  unfold State.get
  rw [hf, fltstat_clearAxis ha]

theorem state_clearAxis {a : Nat} (ha : a < 128) (s : State) : (clearAxis a s).get (AX_FLTSTAT.STATE a) = 0 := by
  rw [fltget_clearAxis ha rfl, State.get_put_disj _ (by simp) (by simp)]
  exact State.get_put_self _ (by simp) (by simp)

theorem cause_clearAxis {a : Nat} (ha : a < 128) (s : State) : (clearAxis a s).get (AX_FLTSTAT.CAUSE a) = 0 := by
  rw [fltget_clearAxis ha rfl]
  exact State.get_put_self _ (by simp) (by simp)

theorem trycnt_clearAxis {a : Nat} (ha : a < 128) (s : State) :
    (clearAxis a s).get (AX_FLTSTAT.TRYCNT a) = s.get (AX_FLTSTAT.TRYCNT a) := by
  rw [fltget_clearAxis ha rfl, State.get_put_disj _ (by simp) (by simp), State.get_put_disj _ (by simp) (by simp)]

theorem enabled_clearAxis {a : Nat} (ha : a < 128) (s : State) : (clearAxis a s).enabled a = false := by
  unfold clearAxis
  dsimp only
  rw [enabled_of_shared (updAlert_ok ..) ha rfl, enabled_modMo, enabled_put (by simp), enabled_disableNow ha]

theorem halted_clearAxis {a : Nat} (ha : a < 128) (s : State) : (clearAxis a s).on (AX_STAT.HALTED a) = false := by
  unfold clearAxis State.on
  dsimp only
  rw [get_of_shared (updAlert_ok ..) (AX_STAT_lt ha) rfl, State.modMo_get]
  exact decide_eq_false (not_not.mpr (State.get_put_self _ (by simp) (by simp)))

/-! ### AX_FLTCTL, R127 -/

theorem does_axisFaultLatch {m : Master} {a : Fin 128} {s : State} (hw : s.mayWrite m (AX_FLTCTL a))
    (h : s.get (AX_FLTSTAT.STATE a) = 1 ∨ s.get (AX_FLTSTAT.STATE a) = 2) :
    Does (.axisFaultLatch m a) s fun t => t.get (AX_FLTSTAT.STATE a) = 3 ∧ t.reply m = .done := by
  refine .of_eq (u := (latchAxis a (s.touched (AX_FLTCTL a))).answer m .done) rfl (written_AX_FLTCTL a hw (by decide) rfl)
    ⟨?_, State.reply_answer ..⟩
  exact state_latchAxis a.isLt (by rwa [State.touched_get])

theorem does_axisFaultClear {m : Master} {a : Fin 128} {s : State} (hw : s.mayWrite m (AX_FLTCTL a))
    (h : s.clearRefused a (s.get (AX_FLTSTAT.STATE a)) = false) :
    Does (.axisFaultClear m a) s fun t =>
      t.get (AX_FLTSTAT.STATE a) = 0 ∧ t.get (AX_FLTSTAT.CAUSE a) = 0 ∧ t.get (AX_FLTSTAT.TRYCNT a) = 0
        ∧ t.enabled a = false ∧ t.on (AX_STAT.HALTED a) = false ∧ t.reply m = .done := by
  have hx : s.fltctlRefused a 1 = false := by
    unfold State.fltctlRefused
    dsimp only
    rw [show (1 : Word).getLsbD 1 = false by decide, Bool.false_and, if_neg (by decide), h, Bool.and_false]
  have ho (u : State) : Ok [.coaches] (clearAxis a (u.put (AX_FLTSTAT.TRYCNT a) 0)) (clearAxisCmd a u) := by
    unfold clearAxisCmd
    dsimp only
    split
    · exact .refl
    · exact sendCtl_ok ..
  refine .of_eq (u := (clearAxisCmd a (s.touched (AX_FLTCTL a))).answer m .done) rfl (written_AX_FLTCTL a hw (by decide) hx)
    ⟨?_, ?_, ?_, ?_, ?_, State.reply_answer ..⟩
  all_goals generalize s.touched (AX_FLTCTL a) = u
  · exact (get_of_shared (ho u) (AX_FLTSTAT_lt a.isLt) rfl).trans (state_clearAxis a.isLt _)
  · exact (get_of_shared (ho u) (AX_FLTSTAT_lt a.isLt) rfl).trans (cause_clearAxis a.isLt _)
  · exact (get_of_shared (ho u) (AX_FLTSTAT_lt a.isLt) rfl).trans ((trycnt_clearAxis a.isLt _).trans
      (State.get_put_self _ (by simp) (by simp)))
  · exact (enabled_of_shared (ho u) a.isLt rfl).trans (enabled_clearAxis a.isLt _)
  · exact (congrArg (fun n => decide (n ≠ 0)) (get_of_shared (ho u) (AX_STAT_lt a.isLt) rfl)).trans (halted_clearAxis a.isLt _)

end Sys2Proof.Machine

namespace Sys2Proof.Machine

/-! ### Writes that cross a coupling, R17 -/

/-- A plain register of a coach: when every check of R72 lets the write pass, the hub queues the exchange. -/
theorem regWrite_submits {m : Master} {addr c : Nat} {v : Word} {s : State} {l : Loc} (h : s.mayWrite m addr)
    (hl : locate addr = some l) (ha : addr < 0x100000) (hp : l.defn.pair = .none) (hc : l.compl = false)
    (hw : l.writable = true) (hr : v &&& reservedBits l.defn = 0) (hg : l.defn.guarded = false)
    (hd : decodeWrite l (s.before l addr) v s = some (plainWord l.defn v, []))
    (hs : stateClamps l (plainWord l.defn v) s = (plainWord l.defn v, []))
    (hb : blockRefuses l (s.before l addr) ((plainWord l.defn v).val ||| (plainWord l.defn v).act) (dataMask l.defn v) s = false)
    (hco : coachOf addr = some c) (hm : l.defn.reg ≠ .RK_MODE) (hq : secRestricts m l v s = false) :
    regWrite m addr v s = submit m c addr (some v) s := by
  unfold regWrite busWrite
  rw [s.mayWrite_target h hl ha, h.1]
  dsimp only
  rw [hp, hq]
  simp only [Bool.false_eq_true, if_false]
  unfold wordWrite
  rw [hc, hw, hg, hr]
  simp only [Bool.false_eq_true, if_false, Bool.not_true, ne_eq, not_true_eq_false]
  unfold finishWrite
  dsimp only
  rw [hd]
  dsimp only
  rw [hs]
  dsimp only
  rw [hb, hco]
  unfold noteMode
  rw [if_neg hm]
  rfl

/-- A queued write waits behind the coupling's other exchanges. -/
theorem clearSent_submit (m : Master) (c addr : Nat) (w : Word) (s : State) : clearSent m c addr w s (submit m c addr (some w) s) := by
  unfold submit
  exact ⟨(State.answer_coach ..).trans (State.coach_modCoach ..), State.reply_answer ..,
    (Ok.via (State.answer_ok ..) rfl ((State.modCoach_ok ..).mono rfl)).1⟩

theorem coachOf_RK_FLTCTL (r : Fin 16) : coachOf (RK_FLTCTL r) = some (r.val / 4) := by
  unfold coachOf RK_FLTCTL
  exact (if_neg (by omega)).trans ((if_neg (by omega)).trans ((if_pos (by omega)).trans (congrArg some (by omega))))

theorem coachOf_CO_FLTCTL (c : Fin 4) : coachOf (CO_FLTCTL c) = some c.val := by
  unfold coachOf CO_FLTCTL
  exact (if_neg (by omega)).trans ((if_neg (by omega)).trans ((if_neg (by omega)).trans ((if_neg (by omega)).trans
    ((if_pos (by omega)).trans ((if_pos (by omega)).trans (congrArg some (by omega)))))))

/-- What a write of a rank's or a coach's fault control register asks. -/
theorem decodeWrite_RK_FLTCTL (i : Nat) (old v : Word) (s : State) :
    decodeWrite ⟨.RK, i, entry_RK_FLTCTL, 0, false⟩ old v s = some (⟨0, 0, v &&& 0x1⟩, []) := by
  rw [decodeWrite_fit rfl (fieldsFit_any rfl v) (relateFields_none rfl (by dsimp only; decide) (by dsimp only; decide))]
  exact congrArg (fun x => some (x, [])) (plain_RK_FLTCTL v)

theorem decodeWrite_CO_FLTCTL (i : Nat) (old v : Word) (s : State) :
    decodeWrite ⟨.CO, i, entry_CO_FLTCTL, 0, false⟩ old v s = some (⟨0, 0, v &&& 0x3⟩, []) := by
  rw [decodeWrite_fit rfl (fieldsFit_any rfl v) (relateFields_none rfl (by dsimp only; decide) (by dsimp only; decide))]
  exact congrArg (fun x => some (x, [])) (plain_CO_FLTCTL v)

theorem does_rankFaultClear {m : Master} {r : Fin 16} {s : State} (hw : s.mayWrite m (RK_FLTCTL r)) (h : s.rankClearBlocked r = false) :
    Does (.rankFaultClear m r) s (clearSent m (r / 4) (RK_FLTCTL r) 1 s) := by
  have hp : plainWord entry_RK_FLTCTL 1 = ⟨0, 0, 1⟩ := plain_RK_FLTCTL 1
  refine .of_eq rfl (regWrite_submits hw (locate_RK_FLTCTL r) (by unfold RK_FLTCTL; omega) rfl rfl rfl (by dsimp only; decide) rfl ?_ rfl ?_
    (coachOf_RK_FLTCTL r) (by dsimp only; decide) rfl) (clearSent_submit ..)
  · exact (decodeWrite_RK_FLTCTL ..).trans (congrArg (fun x => some (x, [])) hp.symm)
  · rw [hp, blockRefuses, lock_RK_FLTCTL, Bool.false_or]
    exact (congrArg (true && ·) h)

/-- A write of a coach's fault control register that step 8 of R72 lets pass. -/
theorem clearSent_CO_FLTCTL {m : Master} {c : Fin 4} {v : Word} {s : State} (hw : s.mayWrite m (CO_FLTCTL c)) (hv : v &&& 0x3 = v)
    (hr : v &&& reservedBits entry_CO_FLTCTL = 0) (h : ∀ old, coachRefuses ⟨.CO, c.val, entry_CO_FLTCTL, 0, false⟩ old v s = false) :
    clearSent m c (CO_FLTCTL c) v s (regWrite m (CO_FLTCTL c) v s) := by
  have hp : plainWord entry_CO_FLTCTL v = ⟨0, 0, v⟩ := by rw [plain_CO_FLTCTL, hv]
  rw [regWrite_submits (c := c) hw (locate_CO_FLTCTL c) (by unfold CO_FLTCTL; omega) rfl rfl rfl hr rfl ?_ rfl ?_
    (coachOf_CO_FLTCTL c) (by dsimp only; decide) rfl]
  · exact clearSent_submit ..
  · rw [decodeWrite_CO_FLTCTL, hv, hp]
  · rw [hp, blockRefuses, lock_CO_FLTCTL, Bool.false_or]
    dsimp only
    rw [show (0 : Word) ||| v = v from BitVec.zero_or]
    exact h _

theorem does_coachFaultClear {m : Master} {c : Fin 4} {s : State} (hw : s.mayWrite m (CO_FLTCTL c)) (h : s.coachClearRefused c = false) :
    Does (.coachFaultClear m c) s (clearSent m c (CO_FLTCTL c) 1 s) := by
  refine ⟨_, rfl, clearSent_CO_FLTCTL hw (by decide) (by decide) fun old => ?_⟩
  unfold coachRefuses
  dsimp only
  rw [h]
  rfl

theorem does_vmFaultClear {m : Master} {c : Fin 4} {s : State} (hw : s.mayWrite m (CO_FLTCTL c)) (hu : s.on (CO_VM.UVF c) = false)
    (ho : s.on (CO_VM.OVF c) = false) : Does (.vmFaultClear m c) s (clearSent m c (CO_FLTCTL c) 2 s) := by
  refine ⟨_, rfl, clearSent_CO_FLTCTL hw (by decide) (by decide) fun old => ?_⟩
  unfold coachRefuses
  dsimp only
  rw [hu, ho]
  rfl

end Sys2Proof.Machine

namespace Sys2Proof.Machine

/-! ### What one axis is read from -/

/-- Two states with the same words in axis `a`'s block and the same motion of it. -/
def SameAxis (a : Nat) (s t : State) : Prop :=
  (∀ addr, 0x10000 + 0x200 * a ≤ addr → addr < 0x10200 + 0x200 * a → t.rd addr = s.rd addr) ∧ t.mo a = s.mo a

namespace SameAxis
variable {a : Nat} {s t u : State}

theorem refl : SameAxis a s s := ⟨fun _ _ _ => rfl, rfl⟩

theorem trans (h : SameAxis a s t) (h' : SameAxis a t u) : SameAxis a s u :=
  ⟨fun x hl hu => (h'.1 x hl hu).trans (h.1 x hl hu), h'.2.trans h.2⟩

theorem get {k hi lo : Nat} (h : SameAxis a s t) (hk : axisOffset k = true) :
    t.get ⟨k + 0x200 * a, hi, lo⟩ = s.get ⟨k + 0x200 * a, hi, lo⟩ :=
  congrArg (wordField · hi lo)
    (h.1 (k + 0x200 * a) (by have := axisOffset_iff.mp hk; omega) (by have := axisOffset_iff.mp hk; omega))

theorem state (h : SameAxis a s t) : t.get (AX_FLTSTAT.STATE a) = s.get (AX_FLTSTAT.STATE a) := h.get (k := 0x101C4) rfl

theorem cause (h : SameAxis a s t) : t.get (AX_FLTSTAT.CAUSE a) = s.get (AX_FLTSTAT.CAUSE a) := h.get (k := 0x101C4) rfl

theorem enabled (h : SameAxis a s t) : t.enabled a = s.enabled a := congrArg (fun n => decide (n ≠ 0)) (h.get (k := 0x1004C) rfl)

theorem byCoach (h : SameAxis a s t) : t.byCoach a = s.byCoach a := by
  unfold State.byCoach
  rw [h.cause, h.2]

/-- An operation on another axis. -/
theorem of_axisOnly {b : Nat} (ha : a < 128) (hab : a ≠ b) (h : AxisOnly b s t) : SameAxis a s t :=
  ⟨fun _ _ _ => h.1 _ (by omega) (by omega), h.2 a hab⟩

/-- An operation on parts that no axis holds. -/
theorem of_shared {W : List Part} (ha : a < 128) (h : Ok W s t) (hw : W.all Part.shared = true) : SameAxis a s t :=
  ⟨fun _ _ _ => rd_of_shared h (by omega) hw, mo_of_shared h a hw⟩

/-- A word beyond the axis blocks is written. -/
theorem of_wr {addr : Nat} {w : Word} (ha : a < 128) (h : 0x20000 ≤ addr) : SameAxis a s (s.wr addr w) :=
  ⟨fun _ _ _ => State.rd_wr_ne _ (by omega), rfl⟩

end SameAxis

/-- An operation on axes in turn: at axis `a` it leads from what was there to `Q`, which holds from then on. -/
theorem forEach_axes_reaches {f : Nat → State → State} {l : List Nat} {a : Nat} {Q : State → Prop} {s : State} (hm : a ∈ l)
    (ha : a < 128) (hf : ∀ b u, AxisOnly b u (f b u)) (hself : ∀ u, SameAxis a s u → Q (f a u)) (hkeep : ∀ u, Q u → Q (f a u))
    (hQ : ∀ u v, SameAxis a u v → Q u → Q v) : Q (forEach l f s) := by
  refine forEach_reaches (P := SameAxis a s) hm (fun b _ hb u hu => hu.trans (.of_axisOnly ha (Ne.symm hb) (hf b u))) hself ?_ .refl
  intro b _ u hu
  by_cases h : a = b
  · exact h ▸ hkeep u hu
  · exact hQ u _ (.of_axisOnly ha h (hf b u)) hu

/-! ### The write that the coach performs, R17 -/

/-- The state in which a coach acts on a write of one of its command registers. -/
def clearBase (c : Nat) (e : Exchange) (rest : List Exchange) (gangs : List GangEnd) (s : State) : State :=
  let u := rewritten e.addr (gangOffs (ofCoach c) gangs (cfgSent c e rest s))
  u.wr e.addr (u.rd e.addr)

theorem rd_clearBase (c : Nat) (e : Exchange) (rest : List Exchange) (gangs : List GangEnd) (s : State) (a : Nat) :
    (clearBase c e rest gangs s).rd a = s.rd a := by
  unfold clearBase
  dsimp only
  rw [State.rd_wr_rd, (rewritten_ok ..).1.rd (by decide) (by simp), rd_gangOffs, (cfgSent_ok ..).1.rd (by decide) (by simp)]

theorem mo_clearBase (c : Nat) (e : Exchange) (rest : List Exchange) (gangs : List GangEnd) (s : State) (a : Nat) :
    (clearBase c e rest gangs s).mo a = s.mo a := by
  unfold clearBase
  dsimp only
  rw [State.wr_mo, (rewritten_ok ..).1.mo (by decide), (gangOffs_ok ..).1.mo (by decide), (cfgSent_ok ..).1.mo (by decide)]

theorem sameAxis_clearBase (c : Nat) (e : Exchange) (rest : List Exchange) (gangs : List GangEnd) (s : State) (a : Nat) :
    SameAxis a s (clearBase c e rest gangs s) := ⟨fun _ _ _ => rd_clearBase .., mo_clearBase ..⟩

section
variable {s : State} {c : Nat} {e : Exchange} {rest : List Exchange} {w : Word} {l : Loc}

/-- A coach performs a command it has not performed before. -/
theorem cfgPerformed_command (hw : e.wr = some w) (hs : (s.coach c).applSeq ≠ some e.seq)
    (hd : ∀ old u, decodeWrite l old w u = some (⟨0, 0, w⟩, [])) (hst : ∀ u, stateClamps l ⟨0, 0, w⟩ u = (⟨0, 0, w⟩, []))
    (hv : l.defn.maskOf FieldDef.isValue = 0) (hb : l.defn.maskOf FieldDef.buffered = 0)
    (hk : l.blk = .LEG ∨ l.blk = .RK ∨ l.blk = .CO) (gangs : List GangEnd) :
    ∃ old, cfgPerformed c e l gangs (cfgSent c e rest s) = coachWritten l old ⟨0, 0, w⟩ (clearBase c e rest gangs s) := by
  have hs' : ((cfgSent c e rest s).coach c).applSeq ≠ some e.seq := by
    unfold cfgSent
    rw [State.coach_modCoach]
    exact hs
  unfold cfgPerformed
  rw [hw]
  dsimp only
  rw [if_neg hs']
  unfold coachApply
  dsimp only
  rw [hd]
  dsimp only
  rw [hst]
  unfold performWrite
  rw [blockWritten_coach hk, storeWord_command hv hb]
  exact ⟨_, rfl⟩

end

theorem cfgPerformed_RK_FLTCTL {s : State} {c : Nat} {r : Fin 16} {e : Exchange} {rest : List Exchange} (hw : e.wr = some 1)
    (hs : (s.coach c).applSeq ≠ some e.seq) (gangs : List GangEnd) :
    cfgPerformed c e ⟨.RK, r.val, entry_RK_FLTCTL, 0, false⟩ gangs (cfgSent c e rest s)
      = clearRank r (clearBase c e rest gangs s) := by
  obtain ⟨old, h⟩ := cfgPerformed_command (l := ⟨.RK, r.val, entry_RK_FLTCTL, 0, false⟩) (rest := rest) hw hs
    (fun old u => decodeWrite_RK_FLTCTL r old 1 u) (fun _ => rfl) rfl rfl (.inr (.inl rfl)) gangs
  exact h.trans rfl

theorem cfgPerformed_CO_FLTCTL {s : State} {c : Fin 4} {e : Exchange} {rest : List Exchange} {w : Word} (hw : e.wr = some w)
    (hm : w &&& 0x3 = w) (hs : (s.coach c).applSeq ≠ some e.seq) (gangs : List GangEnd) :
    cfgPerformed c e ⟨.CO, c.val, entry_CO_FLTCTL, 0, false⟩ gangs (cfgSent c e rest s) =
      (let u := if w.getLsbD 0 then clearCoach c (clearBase c e rest gangs s) else clearBase c e rest gangs s
       if w.getLsbD 1 then clearVm c u else u) := by
  obtain ⟨old, h⟩ := cfgPerformed_command (l := ⟨.CO, c.val, entry_CO_FLTCTL, 0, false⟩) (rest := rest) hw hs
    (fun old u => by rw [decodeWrite_CO_FLTCTL, hm]) (fun _ => rfl) rfl rfl (.inr (.inr rfl)) gangs
  exact h.trans rfl

theorem cfgPerformed_CLR {s : State} {c : Fin 4} {e : Exchange} {rest : List Exchange} (hw : e.wr = some 1)
    (hs : (s.coach c).applSeq ≠ some e.seq) (gangs : List GangEnd) :
    cfgPerformed c e ⟨.CO, c.val, entry_CO_FLTCTL, 0, false⟩ gangs (cfgSent c e rest s)
      = clearCoach c (clearBase c e rest gangs s) := by
  rw [cfgPerformed_CO_FLTCTL hw (by decide) hs]
  dsimp only
  rw [if_neg (by decide), if_pos (by decide)]

theorem cfgPerformed_CLRVM {s : State} {c : Fin 4} {e : Exchange} {rest : List Exchange} (hw : e.wr = some 2)
    (hs : (s.coach c).applSeq ≠ some e.seq) (gangs : List GangEnd) :
    cfgPerformed c e ⟨.CO, c.val, entry_CO_FLTCTL, 0, false⟩ gangs (cfgSent c e rest s)
      = clearVm c (clearBase c e rest gangs s) := by
  rw [cfgPerformed_CO_FLTCTL hw (by decide) hs]
  dsimp only
  rw [if_pos (by decide), if_neg (by decide)]

/-- A frame that carries a coach's write has passed: what the coach makes of it shows, but for its answer. -/
theorem does_cfgFrame_clear {s : State} {c : Fin 4} {addr : Nat} {w : Word} {l : Loc} {gangs : List GangEnd} {P : State → Prop}
    (h : clearNext c addr w s) (ho : coachOf addr = some c.val) (ha : locate addr = some l) (hn : l.compl = false)
    (hf : ∀ t f, P t → P (t.modCoach c f))
    (hp : ∀ e rest, e.wr = some w → (s.coach c).applSeq ≠ some e.seq → P (cfgPerformed c e l gangs (cfgSent c e rest s))) :
    Does (.cfgFrame c ⟨true, gangs⟩) s P := by
  obtain ⟨hi, hl, hm, hc, e, rest, hq, rfl, hw, hs, hseq⟩ := h
  exact .of_eq rfl (hostPoll_cfgFrame_received hi hl hm hc hq hs ho ha hn gangs) (hf _ _ (hp e rest hw hseq))

end Sys2Proof.Machine

namespace Sys2Proof.Machine

/-! ### Axes cleared in turn, R127 and R131 -/

/-- What a clear of a rank, a coach or VM does to one axis it applies to. -/
def clearIf (p : State → Nat → Bool) (a : Nat) (s : State) : State := if p s a then clearAxis a s else s

theorem axisOnly_clearIf (p : State → Nat → Bool) (b : Nat) (s : State) : AxisOnly b s (clearIf p b s) := by
  unfold clearIf
  split
  · exact .clearAxis .refl
  · exact .refl

/-- An axis that a clear applies to ends in OK. -/
theorem state_forEach_clearIf {p : State → Nat → Bool} {l : List Nat} {a : Nat} {s : State} (hm : a ∈ l) (ha : a < 128)
    (hp : ∀ u, SameAxis a s u → p u a = true) : (forEach l (clearIf p) s).get (AX_FLTSTAT.STATE a) = 0 := by
  refine forEach_axes_reaches hm ha (axisOnly_clearIf p) (fun u hu => ?_) (fun u hu => ?_) (fun u v h hu => h.state.trans hu)
  · unfold clearIf
    rw [if_pos (hp u hu)]
    exact state_clearAxis ha u
  · unfold clearIf
    split
    · exact state_clearAxis ha u
    · exact hu

theorem mem_rankAxes {a r : Nat} (h : axisRank a = r) : a ∈ rankAxes r := by
  refine List.mem_map.mpr ⟨a % 8, List.mem_range.mpr (by omega), ?_⟩
  unfold axisRank at h
  omega

theorem mem_coachAxes {a : Nat} {c : Nat} (h : axisCoach a = c) : a ∈ coachAxes c := by
  refine List.mem_map.mpr ⟨a % 32, List.mem_range.mpr (by omega), ?_⟩
  unfold axisCoach at h
  omega

theorem lt_of_mem_rankAxes {r : Fin 16} {a : Nat} (h : a ∈ rankAxes r) : a < 128 := by
  obtain ⟨i, hi, rfl⟩ := List.mem_map.mp h
  have := List.mem_range.mp hi
  omega

/-! ### RK_FLTCTL.CLR -/

/-- The fault status of a rank whose fault is cleared, before its axes. -/
def rankCleared (r : Nat) (s : State) : State := setAct r false ((s.put (RK_FLTSTAT.FAULT r) 0).put (RK_FLTSTAT.CAUSE r) 0)

/-- Whether a clear of its rank applies to axis `a`. -/
def State.rankClears (s : State) (a : Nat) : Bool := s.get (AX_FLTSTAT.STATE a) = 3 && rankCause (s.get (AX_FLTSTAT.CAUSE a))

/-- The end of a rank's clear: its runs of trips end, and the legs that nothing holds off are released. -/
def rankReleased (r : Nat) (s : State) : State :=
  let s := { s with runs := s.runs.filter fun x => decide (x.1 / 32 ≠ r) }
  sendCtl (r / 4) (.release (s.releasable (rankLegs r)) false) s

theorem clearRank_eq (r : Nat) (s : State) :
    clearRank r s = updRank r (rankReleased r (forEach (rankAxes r) (clearIf State.rankClears) (rankCleared r s))) := rfl

theorem rankReleased_ok (r : Nat) (s : State) : Ok [.coaches, .runs] s (rankReleased r s) :=
  Ok.via (sendCtl_ok ..) rfl ((Ok.runs fun h => Sparse.wf_filter _ h).mono rfl)

theorem RK_FLTSTAT_range (r : Fin 16) : 0x20000 ≤ RK_FLTSTAT r ∧ RK_FLTSTAT r < 0x70000 := by simp only [RK_FLTSTAT]; omega

theorem get_updRank {r : Nat} {f : Fld} (h : 1 < f.lo ∨ f.hi < 1) (s : State) : (updRank r s).get f = s.get f := by
  unfold updRank State.putB
  exact State.get_put_disj _ (by simp) (by simpa [or_comm] using h)

theorem get_rankCleared (r : Fin 16) (s : State) :
    (rankCleared r s).get (RK_FLTSTAT.FAULT r) = 0 ∧ (rankCleared r s).get (RK_FLTSTAT.CAUSE r) = 0 := by
  unfold rankCleared
  rw [get_of_shared (setAct_ok ..) (RK_FLTSTAT_range r).2 rfl, get_of_shared (setAct_ok ..) (RK_FLTSTAT_range r).2 rfl,
    State.get_put_disj _ (by simp) (by simp)]
  exact ⟨State.get_put_self _ (by simp) (by simp), State.get_put_self _ (by simp) (by simp)⟩

/-- A rank's fault is gone once its clear has acted. -/
theorem get_clearRank (r : Fin 16) (s : State) :
    (clearRank r s).get (RK_FLTSTAT.FAULT r) = 0 ∧ (clearRank r s).get (RK_FLTSTAT.CAUSE r) = 0 := by
  have keep {f : Fld} (hf : f.addr = RK_FLTSTAT r) (h : 1 < f.lo ∨ f.hi < 1) : (clearRank r s).get f = (rankCleared r s).get f := by
    have hr := RK_FLTSTAT_range r
    rw [clearRank_eq, get_updRank h, get_of_shared (rankReleased_ok ..) (hf ▸ hr.2) rfl]
    unfold State.get
    rw [rd_forEach_axes (axisOnly_clearIf _) (fun b => lt_of_mem_rankAxes) (hf ▸ hr)]
  obtain ⟨hf, hc⟩ := get_rankCleared r s
  exact ⟨(keep rfl (by simp)).trans hf, (keep rfl (by simp)).trans hc⟩

theorem sameAxis_updRank {a r : Nat} (ha : a < 128) (s : State) : SameAxis a s (updRank r s) :=
  .of_wr ha (by simp only [RK_FLTSTAT]; omega)

theorem sameAxis_rankCleared {a r : Nat} (ha : a < 128) (s : State) : SameAxis a s (rankCleared r s) :=
  ((SameAxis.of_wr ha (by simp only [RK_FLTSTAT]; omega)).trans (.of_wr ha (by simp only [RK_FLTSTAT]; omega))).trans
    (.of_shared ha (setAct_ok ..) rfl)

/-- An axis latched with a rank cause is cleared with its rank. -/
theorem state_clearRank {r : Fin 16} {a : Nat} (ha : a < 128) (hr : axisRank a = r) {s : State} (h : s.rankClears a = true) :
    (clearRank r s).get (AX_FLTSTAT.STATE a) = 0 := by
  rw [clearRank_eq, (sameAxis_updRank ha _).state, (SameAxis.of_shared ha (rankReleased_ok ..) rfl).state]
  refine state_forEach_clearIf (mem_rankAxes hr) ha fun u hu => ?_
  have hs : SameAxis a s u := (sameAxis_rankCleared ha s).trans hu
  unfold State.rankClears at *
  rwa [hs.state, hs.cause]

/-! ### CO_FLTCTL.CLRVM -/

/-- Whether a clear of VM applies to axis `a`. -/
def State.vmClears (s : State) (a : Nat) : Bool :=
  s.get (AX_FLTSTAT.STATE a) = 3 && (s.get (AX_FLTSTAT.CAUSE a) = 11 || s.get (AX_FLTSTAT.CAUSE a) = 12)

/-- The legs of a coach that nothing holds off are released. -/
def vmReleased (c : Nat) (s : State) : State :=
  let legs := s.releasable ((List.range 128).map fun i => 128 * c + i)
  if legs.isEmpty then s else sendCtl c (.release legs false) s

theorem clearVm_eq (c : Nat) (s : State) : clearVm c s = vmReleased c (forEach (coachAxes c) (clearIf State.vmClears) s) := rfl

theorem vmReleased_ok (c : Nat) (s : State) : Ok [.coaches] s (vmReleased c s) := by
  unfold vmReleased
  exact Ok.ite .refl (sendCtl_ok ..)

/-- An axis latched with VM_UV or VM_OV is cleared with its coach's VM faults. -/
theorem state_clearVm {c a : Nat} (ha : a < 128) (hc : axisCoach a = c) {s : State} (h : s.vmClears a = true) :
    (clearVm c s).get (AX_FLTSTAT.STATE a) = 0 := by
  rw [clearVm_eq, (SameAxis.of_shared ha (vmReleased_ok ..) rfl).state]
  refine state_forEach_clearIf (mem_coachAxes hc) ha fun u hu => ?_
  unfold State.vmClears at *
  rwa [hu.state, hu.cause]

/-! ### CO_FLTCTL.CLR -/

/-- The fault status of a coach whose fault is cleared, before its axes. -/
def coachCleared (c : Nat) (s : State) : State := setAct (16 + c) false ((s.put (CO_FLTSTAT.FAULT c) 0).put (CO_FLTSTAT.CAUSE c) 0)

/-- What a clear of its coach does to an axis: a coach fault is cleared, any other slot is disabled. -/
def coachClears (a : Nat) (s : State) : State :=
  if s.get (AX_FLTSTAT.STATE a) = 3 && s.byCoach a then clearAxis a (s.put (AX_FLTSTAT.TRYCNT a) 0)
  else if s.enabled a then disableNow a s
  else s

theorem clearCoach_eq (c : Nat) (s : State) :
    clearCoach c s = (let u := forEach (coachAxes c) coachClears (coachCleared c s)
      sendCtl c (.release (u.releasable ((List.range 128).map fun i => 128 * c + i)) true) u) := rfl

theorem axisOnly_coachClears (b : Nat) (s : State) : AxisOnly b s (coachClears b s) := by
  unfold coachClears
  split
  · exact .clearAxis (.put rfl rfl .refl)
  split
  · exact .disableNow .refl
  · exact .refl

theorem enabled_coachClears {a : Nat} (ha : a < 128) (s : State) : (coachClears a s).enabled a = false := by
  unfold coachClears
  split
  · exact enabled_clearAxis ha _
  split
  · exact enabled_disableNow ha s
  · simpa using ‹¬ s.enabled a = true›

theorem state_coachClears {a : Nat} (ha : a < 128) {s : State} (h : s.get (AX_FLTSTAT.STATE a) = 3) (hb : s.byCoach a = true) :
    (coachClears a s).get (AX_FLTSTAT.STATE a) = 0 := by
  unfold coachClears
  rw [h, hb, if_pos (by decide)]
  exact state_clearAxis ha _

/-- An axis that is OK and disabled stays so. -/
theorem coachClears_idle {a : Nat} {s : State} (h : s.get (AX_FLTSTAT.STATE a) = 0) (he : s.enabled a = false) : coachClears a s = s := by
  unfold coachClears
  rw [h, he, if_neg (by simp), if_neg (by decide)]

theorem CO_FLTSTAT_range (c : Fin 4) : 0x20000 ≤ CO_FLTSTAT c ∧ CO_FLTSTAT c < 0x70000 := by simp only [CO_FLTSTAT]; omega

theorem get_coachCleared (c : Fin 4) (s : State) :
    (coachCleared c s).get (CO_FLTSTAT.FAULT c) = 0 ∧ (coachCleared c s).get (CO_FLTSTAT.CAUSE c) = 0 := by
  unfold coachCleared
  rw [get_of_shared (setAct_ok ..) (CO_FLTSTAT_range c).2 rfl, get_of_shared (setAct_ok ..) (CO_FLTSTAT_range c).2 rfl,
    State.get_put_disj _ (by simp) (by simp)]
  exact ⟨State.get_put_self _ (by simp) (by simp), State.get_put_self _ (by simp) (by simp)⟩

/-- A coach's fault is gone once its clear has acted. -/
theorem get_clearCoach (c : Fin 4) (s : State) :
    (clearCoach c s).get (CO_FLTSTAT.FAULT c) = 0 ∧ (clearCoach c s).get (CO_FLTSTAT.CAUSE c) = 0 := by
  have keep {f : Fld} (hf : f.addr = CO_FLTSTAT c) : (clearCoach c s).get f = (coachCleared c s).get f := by
    have hr := CO_FLTSTAT_range c
    rw [clearCoach_eq]
    dsimp only
    rw [get_of_shared (sendCtl_ok ..) (hf ▸ hr.2) rfl]
    unfold State.get
    rw [rd_forEach_axes axisOnly_coachClears (fun b => lt_of_mem_coachAxes) (hf ▸ hr)]
  obtain ⟨hf, hc⟩ := get_coachCleared c s
  exact ⟨(keep rfl).trans hf, (keep rfl).trans hc⟩

theorem sameAxis_coachCleared {a c : Nat} (ha : a < 128) (s : State) : SameAxis a s (coachCleared c s) :=
  ((SameAxis.of_wr ha (by simp only [CO_FLTSTAT]; omega)).trans (.of_wr ha (by simp only [CO_FLTSTAT]; omega))).trans
    (.of_shared ha (setAct_ok ..) rfl)

/-- Every slot of a coach is disabled by its clear, and an axis latched with a coach cause is cleared. -/
theorem axis_clearCoach {c a : Nat} (ha : a < 128) (hc : axisCoach a = c) (s : State) :
    (clearCoach c s).enabled a = false
      ∧ (s.get (AX_FLTSTAT.STATE a) = 3 → s.byCoach a = true → (clearCoach c s).get (AX_FLTSTAT.STATE a) = 0) := by
  rw [clearCoach_eq]
  dsimp only
  have hs := SameAxis.of_shared ha (sendCtl_ok c (.release ((forEach (coachAxes c) coachClears (coachCleared c s)).releasable
    ((List.range 128).map fun i => 128 * c + i)) true) (forEach (coachAxes c) coachClears (coachCleared c s))) rfl
  rw [hs.enabled, hs.state]
  have hfirst {u : State} (hu : SameAxis a (coachCleared c s) u) : SameAxis a s u := (sameAxis_coachCleared ha s).trans hu
  constructor
  · exact forEach_axes_reaches (mem_coachAxes hc) ha axisOnly_coachClears (fun u _ => enabled_coachClears ha u)
      (fun u _ => enabled_coachClears ha u) (Q := fun u => u.enabled a = false) fun u v h hu => h.enabled.trans hu
  · intro h3 hb
    refine (forEach_axes_reaches (Q := fun u => u.enabled a = false ∧ u.get (AX_FLTSTAT.STATE a) = 0) (mem_coachAxes hc) ha
      axisOnly_coachClears (fun u hu => ⟨enabled_coachClears ha u, ?_⟩) (fun u hu => ?_)
      (fun u v h hu => ⟨h.enabled.trans hu.1, h.state.trans hu.2⟩)).2
    · exact state_coachClears ha ((hfirst hu).state.trans h3) ((hfirst hu).byCoach.trans hb)
    · rw [coachClears_idle hu.2 hu.1]
      exact hu

end Sys2Proof.Machine

namespace Sys2Proof.Machine

/-! ### O12 -/

theorem on_eq_false {s : State} {f : Fld} (h : s.get f = 0) : s.on f = false := decide_eq_false (not_not.mpr h)

/-- Settles O12: the latch and the clear of an axis at once; those of a rank, a coach and VM as an exchange, and when the CFG frame
that carries it has passed. -/
theorem clearsComplete : Obligations.ClearsComplete := by
  unfold Obligations.ClearsComplete
  intro s m
  refine ⟨fun a hw => ⟨does_axisFaultLatch hw, does_axisFaultClear hw⟩, fun r => ⟨does_rankFaultClear, ?_⟩,
    fun c => ⟨fun hw => ⟨does_coachFaultClear hw, does_vmFaultClear hw⟩, ?_, ?_⟩⟩
  · intro c gangs hc hn
    refine does_cfgFrame_clear hn ((coachOf_RK_FLTCTL r).trans (congrArg some hc)) (locate_RK_FLTCTL r) rfl
      (fun _ _ h => h) fun e rest hw hs => ?_
    rw [cfgPerformed_RK_FLTCTL hw hs]
    have hb (a : Nat) := sameAxis_clearBase c e rest gangs s a
    generalize clearBase c e rest gangs s = u at *
    obtain ⟨hfault, hcause⟩ := get_clearRank r u
    refine ⟨on_eq_false hfault, hcause, fun a ha h3 hrc => state_clearRank a.isLt ha ?_⟩
    unfold State.rankClears
    rw [(hb a).state, (hb a).cause, h3, hrc]
    rfl
  · intro gangs hn
    refine does_cfgFrame_clear hn (coachOf_CO_FLTCTL c) (locate_CO_FLTCTL c) rfl (fun _ _ h => h) fun e rest hw hs => ?_
    rw [cfgPerformed_CLR hw hs]
    have hb (a : Nat) := sameAxis_clearBase c e rest gangs s a
    generalize clearBase c e rest gangs s = u at *
    obtain ⟨hfault, hcause⟩ := get_clearCoach c u
    refine ⟨on_eq_false hfault, hcause, fun a ha => ?_⟩
    obtain ⟨hen, hst⟩ := axis_clearCoach a.isLt ha u
    exact ⟨hen, fun h3 hbc => hst ((hb a).state.trans h3) ((hb a).byCoach.trans hbc)⟩
  · intro gangs hn
    refine does_cfgFrame_clear hn (coachOf_CO_FLTCTL c) (locate_CO_FLTCTL c) rfl (fun _ _ h => h) fun e rest hw hs => ?_
    rw [cfgPerformed_CLRVM hw hs]
    have hb (a : Nat) := sameAxis_clearBase c e rest gangs s a
    generalize clearBase c e rest gangs s = u at *
    refine fun a ha h3 hvm => state_clearVm a.isLt ha ?_
    unfold State.vmClears
    rw [(hb a).state, (hb a).cause, h3]
    simpa using hvm

end Sys2Proof.Machine

namespace Sys2Proof.Machine

/-! ### Words that a frame leaves alone, by address -/

theorem regAddr_zero_le (r : RegName) (i k : Nat) : regAddr r 0 0 ≤ regAddr r i k := by
  cases r <;> simp [regAddr, CO_TEMP, WAVE, SD_CAL_OFS, SD_CAL_GAIN] <;> omega

theorem regAddr_gctl {r : RegName} (h : regAddr r 0 0 < 0x10000) (i k : Nat) : regAddr r i k = regAddr r 0 0 := by
  revert h
  cases r <;> simp [regAddr]

/-- A part that holds no register word from `lo` up to `hi`: a register's words stand at or above its first one, and the
registers of GCTL stand once each. -/
def Part.outside (lo hi : Nat) : Part → Bool
  | .reg r => decide (hi ≤ regAddr r 0 0) || decide (regAddr r 0 0 < 0x10000 ∧ regAddr r 0 0 < lo)
  | .regs => false
  | _ => true

section
variable {W : List Part} {s t : State}

theorem Frame.rd_range (h : Frame W s t) {lo hi : Nat} (hw : W.all (Part.outside lo hi) = true) {a : Nat} (ha : lo ≤ a ∧ a < hi) :
    t.rd a = s.rd a := by
  have out {p : Part} (hp : p ∈ W) : p.outside lo hi = true := List.all_eq_true.mp hw p hp
  refine h.rd (fun hr => absurd (out hr) (by simp [Part.outside])) fun r hr hat => ?_
  obtain ⟨i, k, rfl⟩ := hat
  have first := regAddr_zero_le r i k
  have ho := out hr
  simp only [Part.outside, Bool.or_eq_true, decide_eq_true_eq] at ho
  rcases ho with above | ⟨single, below⟩
  · omega
  · rw [regAddr_gctl single i k] at ha
    omega

theorem Frame.rd_of (h : Frame W s t) {a : Nat} (hw : W.all (Part.outside a (a + 1)) = true) : t.rd a = s.rd a :=
  h.rd_range hw ⟨Nat.le_refl a, Nat.lt_succ_self a⟩

theorem Frame.get_of (h : Frame W s t) {f : Fld} (hw : W.all (Part.outside f.addr (f.addr + 1)) = true) : t.get f = s.get f :=
  congrArg (wordField · f.hi f.lo) (h.rd_of hw)

theorem Frame.on_of (h : Frame W s t) {f : Fld} (hw : W.all (Part.outside f.addr (f.addr + 1)) = true) : t.on f = s.on f :=
  congrArg (fun n => decide (n ≠ 0)) (h.get_of hw)

end

/-! ### Bits of a number, and of a field -/

theorem natBit_eq_testBit (n b : Nat) : natBit n b = n.testBit b := by
  unfold natBit
  rw [Nat.shiftRight_eq_div_pow, Nat.testBit_eq_decide_div_mod_eq]

/-- Setting or clearing bit `b` of `2 ^ b * q + r` moves `q` to the even or odd number beside it. -/
theorem natPutBit_eq (n b : Nat) (v : Bool) : natPutBit n b v = 2 ^ b * (2 * (n / 2 ^ (b + 1)) + b2n v) + n % 2 ^ b := by
  have hn := Nat.div_add_mod n (2 ^ b)
  have hq : n / 2 ^ (b + 1) = n / 2 ^ b / 2 := by rw [pow_succ, Nat.div_div_eq_div_mul]
  have hp := Nat.div_add_mod (n / 2 ^ b) 2
  rw [hq]
  generalize n / 2 ^ b / 2 = p at hp
  unfold natPutBit natBit
  rw [Nat.shiftRight_eq_div_pow]
  generalize n / 2 ^ b = q at *
  generalize n % 2 ^ b = r at *
  subst hn
  rcases Nat.mod_two_eq_zero_or_one q with h | h <;> cases v <;> rw [h] at hp <;> simp [b2n, ← hp, Nat.mul_add] <;> omega

theorem testBit_natPutBit (n b : Nat) (v : Bool) (i : Nat) : (natPutBit n b v).testBit i = if i = b then v else n.testBit i := by
  rw [natPutBit_eq, Nat.testBit_two_pow_mul_add _ (Nat.mod_lt _ (Nat.two_pow_pos b))]
  by_cases hi : i < b
  · rw [if_pos hi, if_neg (by omega), Nat.testBit_mod_two_pow, decide_eq_true hi, Bool.true_and]
  · rw [if_neg hi]
    by_cases hb : i = b
    · subst hb
      cases v <;> simp [b2n]
    · rw [if_neg hb]
      obtain ⟨j, rfl⟩ : ∃ j, i = b + 1 + j := ⟨i - (b + 1), by omega⟩
      rw [show b + 1 + j - b = j + 1 from by omega, Nat.testBit_succ,
        show (2 * (n / 2 ^ (b + 1)) + b2n v) / 2 = n / 2 ^ (b + 1) from by unfold b2n; split <;> omega,
        Nat.testBit_div_two_pow, Nat.add_comm]

theorem natBit_natPutBit (n b : Nat) (v : Bool) (i : Nat) : natBit (natPutBit n b v) i = if i = b then v else natBit n i := by
  rw [natBit_eq_testBit, testBit_natPutBit, natBit_eq_testBit]

theorem natBit_mod {n w i : Nat} (h : i < w) : natBit (n % 2 ^ w) i = natBit n i := by
  rw [natBit_eq_testBit, Nat.testBit_mod_two_pow, decide_eq_true h, Bool.true_and, natBit_eq_testBit]

/-- A field bit by bit after one of its bits was put. -/
theorem natBit_putBitOf {s : State} {f : Fld} {b i : Nat} (v : Bool) (h : f.hi < 32) (hi : f.lo + i ≤ f.hi) :
    natBit ((s.putBitOf f b v).get f) i = if i = b then v else natBit (s.get f) i := by
  unfold State.putBitOf
  rw [State.get_put_self _ h (by omega), natBit_mod (by omega), natBit_natPutBit]

theorem natBit_wordField {w : Word} {hi lo i : Nat} (h : lo + i ≤ hi) : natBit (wordField w hi lo) i = w.getLsbD (lo + i) := by
  rw [natBit_eq_testBit, testBit_wordField, decide_eq_true (by omega), Bool.true_and]

end Sys2Proof.Machine

namespace Sys2Proof.Machine

/-! ### The RTC, R64 -/

/-- The RTC holds a count. -/
def State.setRtc (s : State) (v : Nat) : State := (s.wr GCTL_RTC_LO (BitVec.ofNat 32 v)).put GCTL_RTC_HI.RTC (v / 2 ^ 32)

theorem rtc_setRtc {v : Nat} (h : v < 2 ^ 48) (s : State) : (s.setRtc v).rtc = v := by
  unfold State.rtc State.setRtc
  rw [State.rd_put_ne _ (by decide), State.rd_wr_self, State.get_put_self _ (by decide) (by decide), BitVec.toNat_ofNat]
  show v % 2 ^ 32 + 2 ^ 32 * (v / 2 ^ 32 % 2 ^ 16) = v
  omega

theorem setRtc_ok (v : Nat) (s : State) : Ok [.reg .GCTL_RTC_LO, .reg .GCTL_RTC_HI] s (s.setRtc v) :=
  Ok.via (State.put_at at_GCTL_RTC_HI) rfl ((State.wr_at at_GCTL_RTC_LO).mono rfl)

theorem rtc_lt (s : State) : s.rtc < 2 ^ 48 := by
  have hi : s.get GCTL_RTC_HI.RTC < 2 ^ 16 := Nat.mod_lt _ (by decide)
  have lo := (s.rd GCTL_RTC_LO).isLt
  unfold State.rtc
  omega

theorem rtcCount_zero (s : State) : rtcCount 0 s = s := rfl

theorem rtcCount_ne {n : Nat} (h : n ≠ 0) (s : State) : rtcCount n s = s.setRtc ((s.rtc + n) % 2 ^ 48) := if_neg h

theorem rtc_rtcCount (n : Nat) (s : State) : (rtcCount n s).rtc = (s.rtc + n) % 2 ^ 48 := by
  by_cases h : n = 0
  · subst h
    exact (Nat.mod_eq_of_lt (rtc_lt s)).symm
  · rw [rtcCount_ne h, rtc_setRtc (Nat.mod_lt _ (by decide))]

/-- Counting the RTC leaves every word but its own. -/
theorem rd_rtcCount {a : Nat} (n : Nat) (s : State) (h : a ≠ GCTL_RTC_LO) (h' : a ≠ GCTL_RTC_HI) : (rtcCount n s).rd a = s.rd a := by
  by_cases hn : n = 0
  · rw [hn, rtcCount_zero]
  · rw [rtcCount_ne hn, State.setRtc, State.rd_put_ne _ h', State.rd_wr_ne _ h]

theorem rtcCommit_some {v : Nat} {s : State} (h : s.power.rtcStage = some v) :
    rtcCommit s = (s.setRtc v).modPower fun p => { p with rtcStage := none, rtcSet := true } := by
  unfold rtcCommit
  rw [h]
  rfl

/-! ### The RTC alarm, R64 -/

/-- The count nearest to the present one, in the same half of the count, that the alarm compares equal. -/
def State.alarmCount (s : State) : Nat := s.rtc / 2 ^ 47 * 2 ^ 47 + (s.rd GCTL_RTCALM).toNat * 32768

theorem alarmCount_lt (s : State) : s.alarmCount < 2 ^ 48 := by
  have r := rtc_lt s
  have a := (s.rd GCTL_RTCALM).isLt
  unfold State.alarmCount
  omega

theorem alarmCount_matches (s : State) : s.alarmCount / 32768 % 2 ^ 32 = (s.rd GCTL_RTCALM).toNat := by
  have a := (s.rd GCTL_RTCALM).isLt
  unfold State.alarmCount
  omega

/-- A count that matches is not before the one compared. -/
theorem alarmCount_le {s : State} (h : s.rtc / 32768 % 2 ^ 32 = (s.rd GCTL_RTCALM).toNat) : s.alarmCount ≤ s.rtc := by
  unfold State.alarmCount
  omega

/-- In HIBERNATE the alarm itself moves the RTC on to the count compared. -/
theorem rtcAtAlarm_eq (s : State) :
    rtcAtAlarm s = if s.runState = 3 then rtcCount (s.alarmCount - s.rtc) s else s := rfl

/-- The RTC wakes. -/
def rtcWakes (s : State) : State := s.modPower fun p => { p with wakeAct := natPutBit p.wakeAct 5 true }

theorem rtcWakes_ok (s : State) : Ok [.power] s (rtcWakes s) := State.modPower_ok ..

theorem natBit_rtcWakes (s : State) : natBit (rtcWakes s).power.wakeAct 5 = true := (natBit_natPutBit ..).trans (if_pos rfl)

theorem rtc_rtcWakes (s : State) : (rtcWakes s).rtc = s.rtc := rfl

theorem does_rtcAlarm {s u : State} {P : State → Prop} (h : rtcAtAlarm s = u)
    (hm : u.rtc / 32768 % 2 ^ 32 = (u.rd GCTL_RTCALM).toNat) (hw : u.on GCTL_RUNCTL.WRTC = true) (hp : P (rtcWakes u)) :
    Does .rtcAlarm s P := by
  refine ⟨_, rfl, ?_⟩
  rw [h, decide_eq_true hm, hw, Bool.and_self, if_pos rfl]
  exact hp

theorem rtcAlarm_awake {s : State} (h : s.rtc / 32768 % 2 ^ 32 = (s.rd GCTL_RTCALM).toNat) (hw : s.on GCTL_RUNCTL.WRTC = true) :
    Does .rtcAlarm s fun t => t.power = { s.power with wakeAct := natPutBit s.power.wakeAct 5 true } ∧ Frame [.power] s t := by
  have stays : rtcAtAlarm s = s := by
    rw [rtcAtAlarm_eq, Nat.sub_eq_zero_of_le (alarmCount_le h), rtcCount_zero, ite_self]
  exact does_rtcAlarm stays h hw ⟨rfl, (rtcWakes_ok s).1⟩

theorem rtcAlarm_hibernating {s : State} (h3 : s.runState = 3) (hle : s.rtc ≤ s.alarmCount) (hw : s.on GCTL_RUNCTL.WRTC = true) :
    Does .rtcAlarm s fun t =>
      t.rtc = s.alarmCount ∧ natBit t.power.wakeAct 5 = true ∧ Frame [.power, .reg .GCTL_RTC_LO, .reg .GCTL_RTC_HI] s t := by
  have count : (rtcCount (s.alarmCount - s.rtc) s).rtc = s.alarmCount := by
    rw [rtc_rtcCount, Nat.add_sub_cancel' hle, Nat.mod_eq_of_lt (alarmCount_lt s)]
  have alarm : (rtcCount (s.alarmCount - s.rtc) s).rd GCTL_RTCALM = s.rd GCTL_RTCALM := rd_rtcCount _ _ (by decide) (by decide)
  refine does_rtcAlarm (by rw [rtcAtAlarm_eq, if_pos h3]) ?_ ?_ ⟨(rtc_rtcWakes _).trans count, natBit_rtcWakes _,
    (Ok.via (rtcWakes_ok _) rfl ((rtcCount_ok _ s).mono rfl)).1⟩
  · rw [count, alarm, alarmCount_matches]
  · exact ((rtcCount_ok _ s).1.on_of rfl).trans hw

/-! ### O8 -/

theorem does_clockRecovery {s : State} (h : s.power.refLost = true) : Does .clockRecovery s fun t =>
    t.power = { s.power with refLost := false } ∧ t.on GCTL_CLKSTAT.REFOK = true ∧ Frame [.power, .reg .GCTL_CLKSTAT] s t :=
  Does.of_eq rfl (if_pos h) ⟨rfl, State.on_put_self _ (by decide) (by decide),
    (Ok.via (State.put_at at_GCTL_CLKSTAT) rfl ((State.modPower_ok ..).mono rfl)).1⟩

theorem does_crystalStop {s : State} (h : s.on GCTL_CLKSTAT.T32SRC = true) : Does .crystalStop s fun t =>
    t.on GCTL_CLKSTAT.T32SRC = false ∧ t.on GCTL_CLKSTAT.T32FAIL = true ∧ Frame [.reg .GCTL_CLKSTAT] s t := by
  refine Does.of_eq rfl (if_pos h) ⟨?_, State.on_put_self _ (by decide) (by decide),
    ((State.put_at at_GCTL_CLKSTAT).trans (State.put_at at_GCTL_CLKSTAT)).1⟩
  unfold State.on
  rw [State.get_put_disj _ (by decide) (by decide), State.get_put_self _ (by decide) (by decide)]
  rfl

theorem does_rtcWriteCommit {s : State} {v : Nat} (h : s.power.rtcStage = some v) (hv : v < 2 ^ 48) : Does .rtcWriteCommit s fun t =>
    t.rtc = v ∧ t.power = { s.power with rtcStage := none, rtcSet := true }
      ∧ Frame [.power, .reg .GCTL_RTC_LO, .reg .GCTL_RTC_HI] s t :=
  Does.of_eq rfl (rtcCommit_some h) ⟨rtc_setRtc hv s, rfl, (Ok.via (State.modPower_ok ..) rfl ((setRtc_ok v s).mono rfl)).1⟩

/-- Settles O8: each command by the words it writes; the alarm in HIBERNATE counts the RTC on to the value compared. -/
theorem clocksComplete : Obligations.ClocksComplete := by
  unfold Obligations.ClocksComplete
  intro s
  exact ⟨⟨s, rfl, rfl⟩, does_clockRecovery,
    ⟨_, rfl, State.on_put_self _ (by decide) (by decide), (State.put_at at_GCTL_CLKSTAT).1⟩, does_crystalStop,
    fun v h hv => does_rtcWriteCommit h hv, rtcAlarm_awake, rtcAlarm_hibernating⟩

/-! ### O53 and O54 -/

/-- The words that reset leaves other than the register maps' reset values. -/
theorem reset_regs_wf : Sparse.wf resetWord State.reset.regs = true := by decide +kernel

theorem Copy.good_new : ({} : Copy).good := ⟨rfl, rfl⟩

theorem Trio.good_new : ({} : Trio).good := ⟨rfl, Copy.good_new, Copy.good_new, Copy.good_new, rfl⟩

theorem Mgs.good_new : ({} : Mgs).good := ⟨rfl, rfl, rfl, rfl, Nat.zero_le _⟩

theorem Net.good_new : ({} : Net).good := ⟨rfl, rfl, rfl, rfl, Nat.zero_le _, Nat.zero_le _⟩

theorem Spm.good_new : ({} : Spm).good := ⟨Nat.zero_le _, Nat.zero_le _, Nat.zero_le _⟩

theorem Nvm.good_new : ({} : Nvm).good := ⟨nofun, nofun, ⟨rfl, rfl, rfl⟩, rfl⟩

/-- Settles O53: the registers are in canonical form, the log queue holds one entry, and every other part is new. -/
theorem resetGood : Obligations.ResetGood := by
  unfold Obligations.ResetGood
  exact {
    regs := reset_regs_wf, snap := rfl, staged := rfl, bad := rfl, replies := rfl, guards := rfl, logQ := by decide, logWin := rfl
    legs := rfl, coils := rfl, coaches := rfl, runs := rfl, axes := rfl, encs := rfl, stepLast := rfl, stepDir := rfl
    recipes := rfl, sds := rfl, sdMods := fun _ h => absurd h List.not_mem_nil, afe := ⟨rfl, rfl, rfl, rfl⟩, trio := Trio.good_new, mgs := Mgs.good_new
    net := Net.good_new, spm := Spm.good_new, nvm := Nvm.good_new }

/-- What the words of GCTL and the front end's domain say after reset. -/
theorem reset_power_words : State.reset.runState = 0 ∧ State.reset.afeOn = true ∧ State.reset.rd GCTL_RSTCAUSE = 1 := by
  decide +kernel

theorem reset_axis_words (w : Fin 4) : State.reset.rd (AXEN w) = 0 ∧ State.reset.rd (EV_PEND w) = 0 := by
  revert w
  decide +kernel

theorem reset_coach_off (c : Fin 4) : State.reset.coachOn c = false ∧ State.reset.coachLive c = false := by
  revert c
  decide +kernel

/-- Both CAN controllers are off, no plan is loaded, and no access or parity error is recorded. -/
theorem reset_idle : State.reset.canState 0 = 3 ∧ State.reset.canState 1 = 3 ∧ State.reset.plState = 0
    ∧ State.reset.on GCTL_BUSERR.VALID = false ∧ State.reset.on GCTL_PARERR.VALID = false := by decide +kernel

/-- Settles O54: reset leaves three words other than their reset values in the register maps, and the parts beside them new. -/
theorem resetState : Obligations.ResetState := by
  unfold Obligations.ResetState
  obtain ⟨run, afe, cause⟩ := reset_power_words
  obtain ⟨can0, can1, plan, bus, parity⟩ := reset_idle
  exact ⟨run, by decide +kernel, rfl, afe, cause, reset_axis_words, reset_coach_off, can0, can1, plan, bus, parity, by decide +kernel,
    rfl, rfl, rfl, rfl⟩

end Sys2Proof.Machine

namespace Sys2Proof.Machine

/-! ### A write of the power domains, R50 to R53 -/

/-- Only one element of the list acts. -/
theorem forEach_only {α : Type} {l : List α} {f : α → State → State} {a : α} (hd : l.Nodup) (ha : a ∈ l)
    (h : ∀ x ∈ l, x ≠ a → ∀ u, f x u = u) (s : State) : forEach l f s = f a s := by
  have idle {m : List α} (hm : ∀ x ∈ m, ∀ u, f x u = u) (u : State) : forEach m f u = u := by
    induction m with
    | nil => rfl
    | cons x m ih =>
      rw [forEach_cons, hm x (List.mem_cons_self ..)]
      exact ih fun y hy => hm y (List.mem_cons_of_mem _ hy)
  induction l generalizing s with
  | nil => cases ha
  | cons x l ih =>
    obtain ⟨hx, hd⟩ := List.nodup_cons.mp hd
    rw [forEach_cons]
    rcases List.mem_cons.mp ha with rfl | hm
    · exact idle (fun y hy => h y (List.mem_cons_of_mem _ hy) fun e => hx (e ▸ hy)) _
    · rw [h x (List.mem_cons_self ..) fun e => hx (e ▸ hm)]
      exact ih hd hm (fun y hy => h y (List.mem_cons_of_mem _ hy)) s

theorem forEach_idle {α : Type} {l : List α} {f : α → State → State} (h : ∀ x ∈ l, ∀ u, f x u = u) (s : State) :
    forEach l f s = s := forEach_keeps (P := (· = s)) (fun x hx u hu => (h x hx u).trans hu) rfl

/-- What a write of GCTL_PWRDOM asks of coach `c`, outside NAP. -/
def coachAsk (old w : Word) (c : Nat) (s : State) : State :=
  if w.getLsbD (4 + c) then (if old.getLsbD (4 + c) then s else coachPowerUp c s)
  else if !s.coachLive c then s
  else if w.getLsbD (8 + c) then coachForce c s
  else if old.getLsbD (4 + c) then coachOffReq c s else s

/-- What it asks of the front end. -/
def afeAsk (old w : Word) (s : State) : State :=
  if old.getLsbD 0 && !w.getLsbD 0 then afeGoOff s else if !old.getLsbD 0 && w.getLsbD 0 then afeGoOn s else s

/-- What it asks of coach `c` in NAP: the wake is to bring it, or not. -/
def napAsk (old w : Word) (c : Nat) (s : State) : State :=
  if w.getLsbD (4 + c) && old.getLsbD (4 + c) then s
  else s.modPower fun p => { p with napCoach := natPutBit p.napCoach c (w.getLsbD (4 + c)) }

theorem powerWritten_eq (old w : Word) (s : State) :
    powerWritten old w s =
      if w.getLsbD 31 then enterReset 4 false s
      else if s.runState = 2 then forEach (List.range 4) (napAsk old w) s
      else afeAsk old w (forEach (List.range 4) (coachAsk old w) s) := rfl

/-- A coach whose bit stays, and that is not forced off. -/
theorem coachAsk_same {old w : Word} {c : Nat} (h : w.getLsbD (4 + c) = old.getLsbD (4 + c)) (hf : w.getLsbD (8 + c) = false)
    (s : State) : coachAsk old w c s = s := by
  unfold coachAsk
  rw [h, hf]
  cases old.getLsbD (4 + c) <;> simp

theorem afeAsk_same {old w : Word} (h : w.getLsbD 0 = old.getLsbD 0) (s : State) : afeAsk old w s = s := by
  unfold afeAsk
  rw [h]
  cases old.getLsbD 0 <;> rfl

/-! ### The words that commands write -/

theorem Word.and_zero_of_bits {v m : Word} (h : ∀ i, m.getLsbD i = true → v.getLsbD i = false) : v &&& m = 0 := by
  refine BitVec.eq_of_getLsbD_eq fun i _ => ?_
  rw [BitVec.getLsbD_and, show (0 : Word).getLsbD i = false from BitVec.getLsbD_zero]
  cases hm : m.getLsbD i
  · rw [Bool.and_false]
  · rw [h i hm, Bool.false_and]

theorem testBit_b2n (b : Bool) (i : Nat) : (b2n b).testBit i = (b && decide (i = 0)) := by
  cases b <;> cases i <;> simp [b2n, Nat.testBit_succ]

theorem getLsbD_powerWord (s : State) (i : Nat) :
    s.powerWord.getLsbD i = ((s.latest GCTL_PWRDOM).getLsbD i && (0xF1 : Word).getLsbD i) := BitVec.getLsbD_and ..

theorem getLsbD_coachWord (s : State) (c : Fin 4) (on force : Bool) (i : Nat) :
    (s.coachWord c on force).getLsbD i =
      if 8 ≤ i ∧ i ≤ 11 then force && decide (i = 8 + c) else if i = 4 + c then on else s.powerWord.getLsbD i := by
  unfold State.coachWord
  rw [getLsbD_wordPut _ _ _ _ _ (by decide), getLsbD_wordPut _ _ _ _ _ (by omega)]
  by_cases h : 8 ≤ i ∧ i ≤ 11
  · rw [if_pos h, if_pos h]
    cases force
    · simp
    · simp only [if_true, Nat.testBit_two_pow, Bool.true_and]
      exact decide_eq_decide.mpr (by omega)
  · rw [if_neg h, if_neg h]
    by_cases hc : i = 4 + c
    · rw [if_pos ⟨by omega, by omega⟩, if_pos hc, testBit_b2n, decide_eq_true (by omega), Bool.and_true]
    · rw [if_neg (by omega), if_neg hc]

/-- Bits that no field of GCTL_PWRDOM holds. -/
theorem pwrdom_reserved {i : Nat} (h : (0x7FFFF00E : Word).getLsbD i = true) : i ≠ 0 ∧ ¬ (4 ≤ i ∧ i ≤ 11) ∧ i ≠ 31 := by
  have hi : i < 32 := BitVec.lt_of_getLsbD h
  revert h
  revert i
  decide

/-- What a word written to GCTL_PWRDOM says, bit by bit. -/
structure AsksFor (w : Word) (coach force : Nat → Bool) (afe swrst : Bool) : Prop where
  rest : ∀ i, i ≠ 0 → ¬ (4 ≤ i ∧ i ≤ 11) → i ≠ 31 → w.getLsbD i = false
  coach : ∀ d < 4, w.getLsbD (4 + d) = coach d
  force : ∀ d < 4, w.getLsbD (8 + d) = force d
  afe : w.getLsbD 0 = afe
  swrst : w.getLsbD 31 = swrst

/-- The domains that GCTL_PWRDOM selects as last written. -/
def State.askedCoach (s : State) (d : Nat) : Bool := (s.latest GCTL_PWRDOM).getLsbD (4 + d)

def State.askedAfe (s : State) : Bool := (s.latest GCTL_PWRDOM).getLsbD 0

theorem askedCoach_eq {d : Nat} (h : d < 4) (s : State) : s.askedCoach d = natBit (s.getLatest GCTL_PWRDOM.COACH) d :=
  (natBit_wordField (by show 4 + d ≤ 7; omega)).symm

theorem wordField_bit (w : Word) (i : Nat) : wordField w i i = b2n (w.getLsbD i) := by
  refine Nat.eq_of_testBit_eq fun k => ?_
  rw [testBit_wordField, testBit_b2n, show i + 1 - i = 1 from by omega, Bool.and_comm]
  cases k <;> simp

theorem askedAfe_eq (s : State) : s.getLatest GCTL_PWRDOM.AFE = b2n s.askedAfe := wordField_bit ..

theorem powerWord_asks (s : State) : AsksFor s.powerWord s.askedCoach (fun _ => false) s.askedAfe false where
  rest i h0 h4 h31 := by
    rw [getLsbD_powerWord]
    by_cases hi : i < 32
    · have : (0xF1 : Word).getLsbD i = false := by
        revert h0 h4 h31
        revert i
        decide
      rw [this, Bool.and_false]
    · rw [BitVec.getLsbD_of_ge _ _ (Nat.le_of_not_lt hi), Bool.false_and]
  coach d hd := by
    have : (0xF1 : Word).getLsbD (4 + d) = true := by revert d; decide
    rw [getLsbD_powerWord, this, Bool.and_true]
    rfl
  force d hd := by
    have : (0xF1 : Word).getLsbD (8 + d) = false := by revert d; decide
    rw [getLsbD_powerWord, this, Bool.and_false]
  afe := (getLsbD_powerWord s 0).trans (Bool.and_true _)
  swrst := (getLsbD_powerWord s 31).trans (Bool.and_false _)

theorem coachWord_asks (s : State) (c : Fin 4) (on force : Bool) :
    AsksFor (s.coachWord c on force) (fun d => if d = c then on else s.askedCoach d) (fun d => force && decide (d = c)) s.askedAfe
      false where
  rest i h0 h4 h31 := by
    rw [getLsbD_coachWord, if_neg (by omega), if_neg (by omega), (powerWord_asks s).rest i h0 h4 h31]
  coach d hd := by
    rw [getLsbD_coachWord, if_neg (by omega)]
    by_cases h : d = c
    · rw [if_pos (by omega), if_pos h]
    · rw [if_neg (by omega), if_neg h, (powerWord_asks s).coach d hd]
  force d hd := by
    rw [getLsbD_coachWord, if_pos (by omega)]
    exact congrArg (force && ·) (decide_eq_decide.mpr (by omega))
  afe := by rw [getLsbD_coachWord, if_neg (by omega), if_neg (by omega), (powerWord_asks s).afe]
  swrst := by rw [getLsbD_coachWord, if_neg (by omega), if_neg (by omega), (powerWord_asks s).swrst]

/-- One bit of a word of the domains is changed. -/
theorem getLsbD_putBit (w : Word) (k : Nat) (hk : k < 32) (b : Bool) (i : Nat) :
    (wordPut w k k (b2n b)).getLsbD i = if i = k then b else w.getLsbD i := by
  rw [getLsbD_wordPut _ _ _ _ _ hk]
  by_cases h : i = k
  · rw [if_pos ⟨by omega, by omega⟩, if_pos h, testBit_b2n, decide_eq_true (by omega), Bool.and_true]
  · rw [if_neg (by omega), if_neg h]

theorem afeWord_asks (s : State) (b : Bool) :
    AsksFor (wordPut s.powerWord 0 0 (b2n b)) s.askedCoach (fun _ => false) b false where
  rest i h0 h4 h31 := by rw [getLsbD_putBit _ _ (by decide), if_neg h0, (powerWord_asks s).rest i h0 h4 h31]
  coach d hd := by rw [getLsbD_putBit _ _ (by decide), if_neg (by omega), (powerWord_asks s).coach d hd]
  force d hd := by rw [getLsbD_putBit _ _ (by decide), if_neg (by omega), (powerWord_asks s).force d hd]
  afe := by rw [getLsbD_putBit _ _ (by decide), if_pos rfl]
  swrst := by rw [getLsbD_putBit _ _ (by decide), if_neg (by omega), (powerWord_asks s).swrst]

theorem swrstWord_asks (s : State) :
    AsksFor (wordPut s.powerWord 31 31 (b2n true)) s.askedCoach (fun _ => false) s.askedAfe true where
  rest i h0 h4 h31 := by
    rw [getLsbD_putBit _ _ (by decide), if_neg h31, (powerWord_asks s).rest i h0 h4 h31]
  coach d hd := by rw [getLsbD_putBit _ _ (by decide), if_neg (by omega), (powerWord_asks s).coach d hd]
  force d hd := by rw [getLsbD_putBit _ _ (by decide), if_neg (by omega), (powerWord_asks s).force d hd]
  afe := by rw [getLsbD_putBit _ _ (by decide), if_neg (by omega), (powerWord_asks s).afe]
  swrst := by rw [getLsbD_putBit _ _ (by decide), if_pos rfl]

/-! ### The write itself -/

/-- The state in which a write of the power domains takes effect. -/
def State.asked (s : State) (m : Master) (w : Word) : State :=
  ((s.closed m GCTL_PWRDOM).setBad GCTL_PWRDOM false).wr GCTL_PWRDOM ((w &&& 0xF1) ||| (s.rd GCTL_PWRDOM &&& 0xFFFFFF0E))

section
variable {s : State} {m : Master} {w : Word} {coach force : Nat → Bool} {afe swrst : Bool}

theorem asked_ok (s : State) (m : Master) (w : Word) : Ok [.guards, .replies, .bad, .reg .GCTL_PWRDOM] s (s.asked m w) :=
  Ok.via (State.wr_at at_GCTL_PWRDOM) rfl (Ok.via (State.setBad_ok ..) rfl (Ok.via (State.answer_ok ..) rfl
    ((State.setGuard_ok ..).mono rfl)))

theorem getLsbD_asked {i : Nat} (h : i = 0 ∨ (4 ≤ i ∧ i ≤ 7)) : ((s.asked m w).rd GCTL_PWRDOM).getLsbD i = w.getLsbD i := by
  have masks : (0xF1 : Word).getLsbD i = true ∧ (0xFFFFFF0E : Word).getLsbD i = false := by
    have hi : i < 8 := by omega
    revert h
    revert i
    decide
  unfold State.asked
  rw [State.rd_wr_self, BitVec.getLsbD_or, BitVec.getLsbD_and, BitVec.getLsbD_and, masks.1, masks.2, Bool.and_true, Bool.and_false,
    Bool.or_false]

theorem coach_asked (hw : AsksFor w coach force afe swrst) {d : Nat} (hd : d < 4) :
    natBit ((s.asked m w).get GCTL_PWRDOM.COACH) d = coach d := by
  rw [← hw.coach d hd, ← getLsbD_asked (s := s) (m := m) (.inr ⟨Nat.le_add_right .., by omega⟩)]
  exact natBit_wordField (by show 4 + d ≤ 7; omega)

theorem afe_asked (hw : AsksFor w coach force afe swrst) : (s.asked m w).get GCTL_PWRDOM.AFE = b2n afe := by
  rw [← hw.afe, ← getLsbD_asked (s := s) (m := m) (.inl rfl)]
  exact wordField_bit ..

/-- A write of the power domains that switches off no coach with work without FORCE, R51. -/
theorem guardedWrite_pwrdom (h : s.mayGuard m GCTL_PWRDOM) (hw : AsksFor w coach force afe swrst)
    (hk : ∀ d < 4, coach d = false → force d = false → s.coachWork d = false) :
    guardedWrite m GCTL_PWRDOM w s = (powerWritten (s.latest GCTL_PWRDOM) w (s.asked m w)).answer m .done := by
  refine written_GCTL_PWRDOM h (Word.and_zero_of_bits fun i hi => ?_) ?_
  · obtain ⟨h0, h4, h31⟩ := pwrdom_reserved hi
    exact hw.rest i h0 h4 h31
  · refine List.any_eq_false.mpr fun d hd => ?_
    have hd := List.mem_range.mp hd
    rw [hw.coach d hd, hw.force d hd]
    have := hk d hd
    cases hc : coach d <;> cases hf : force d <;> simp_all

end

theorem othersKept_coachWork {s : State} {c : Nat} (h : othersKept s c) {d : Nat} (hd : d < 4) (hc : d ≠ c)
    (ha : s.askedCoach d = false) : s.coachWork d = false := h ⟨d, hd⟩ hc ((askedCoach_eq hd s).symm.trans ha)

/-- A write that changes the COACH bit of one coach, outside NAP. -/
theorem guardedWrite_coach {s : State} {m : Master} {c : Fin 4} {on force : Bool} (h : s.mayGuard m GCTL_PWRDOM)
    (ho : othersKept s c) (hr : s.runState ≠ 2) (hk : on = false → force = false → s.coachWork c = false) :
    guardedWrite m GCTL_PWRDOM (s.coachWord c on force) s
      = (coachAsk (s.latest GCTL_PWRDOM) (s.coachWord c on force) c (s.asked m (s.coachWord c on force))).answer m .done := by
  have hw := coachWord_asks s c on force
  rw [guardedWrite_pwrdom h hw, powerWritten_eq, if_neg (by rw [hw.swrst]; decide), if_neg, afeAsk_same hw.afe,
    forEach_only (a := c.val) List.nodup_range (List.mem_range.mpr c.isLt)]
  · intro d hd hc u
    have hd := List.mem_range.mp hd
    exact coachAsk_same ((hw.coach d hd).trans (if_neg hc)) ((hw.force d hd).trans (by simp [hc])) u
  · have : (s.asked m (s.coachWord c on force)).runState = s.runState := (asked_ok ..).1.get_of rfl
    rwa [this]
  · intro d hd
    by_cases hc : d = c
    · subst hc
      simpa using hk
    · simp only [if_neg hc]
      exact fun ha _ => othersKept_coachWork ho hd hc ha

end Sys2Proof.Machine

namespace Sys2Proof.Machine

theorem Sparse.get_filter {α : Type} {d : Nat → α} {p : Nat → Bool} (m : Sparse α) (k : Nat) :
    Sparse.get d (m.filter fun x => p x.1) k = if p k then Sparse.get d m k else d k := by
  induction m with
  | nil => simp
  | cons x m ih =>
    obtain ⟨j, v⟩ := x
    by_cases hj : j = k
    · subst hj
      by_cases hp : p j = true <;> simp [hp, Sparse.get_cons, ih]
    · by_cases hp : p j = true <;> simp [hp, Sparse.get_cons, ih, hj]

/-! ### Entering reset, R65 and R66 -/

/-- Registers that keep their words through a reset with a cause. -/
def keptThrough (cause addr : Nat) : Bool :=
  keptNvm addr || (!decide (cause = 0) && keptD0 addr) || (decide (cause = 7) && addr = GCTL_RUNCTL)

/-- The first part of a reset: every part in its scope takes its reset state. -/
def resetCleared (cause : Nat) (lost : Bool) (s : State) : State :=
  { regs := s.regs.filter fun x => keptThrough cause x.1
    free := s.free, pending := s.pending, recipes := s.recipes, rbcnt := s.rbcnt
    nvm := { settings := s.nvm.settings, waves := s.nvm.waves }
    mgs := s.mgs.kept (cause = 0)
    logQ := if decide (cause = 0) || cause = 3 then [] else s.logQ
    power :=
      { inReset := true, refLost := lost || (s.power.refLost && s.power.inReset)
        rtcStage := if decide (cause = 0) then none else s.power.rtcStage
        clkFail := cause = 5 || (s.power.clkFail && !decide (cause = 0)), hibPos := if decide (cause = 7) then s.power.hibPos else []
        rtcSet := s.power.rtcSet && !decide (cause = 0) } }

/-- The causes that GCTL_RSTCAUSE reads after a reset. -/
def State.causesAfter (s : State) (cause : Nat) : Word :=
  BitVec.ofNat 32 (if decide (cause = 0) then 1 else natPutBit (s.rd GCTL_RSTCAUSE).toNat cause true)

/-- The comparators of the coaches live on, the cause is recorded, and the device reads RUN. -/
def resetRecorded (cause : Nat) (s u : State) : State :=
  let u := forEach (List.range 4) (fun c t => t.modCoach c fun _ =>
    { uvf := (s.coach c).uvf, uvw := (s.coach c).uvw, ovf := (s.coach c).ovf, ovw := (s.coach c).ovw }) u
  ((u.wr GCTL_RSTCAUSE (s.causesAfter cause)).put GCTL_RUNSTAT.STATE 0).put GCTL_RUNSTAT.REFUSE 0

/-- The status words that a reset changes beside its cause. -/
def resetStatus (por lost : Bool) (u : State) : State :=
  let u := applyIf por (fun t => (t.put MGS_WDCFG.EXPCNT 0).put MGS_AUSTAT.FAILCNT 0) u
  let u := ((u.put GCTL_STORESTAT.DONE 0).put GCTL_STORESTAT.FAIL 0).put MGS_UPDSTAT.ERR 0
  let u := (u.put GCTL_STORESTAT.BUSY 0).wr MGS_ALSTAT (u.rd MGS_ALSTAT &&& 0xFFFF0000)
  applyIf lost (·.put GCTL_CLKSTAT.REFOK 0) ((u.put GCTL_RUNCTL.AUTODOZE 0).put GCTL_CLKSTAT.LOCK 0)

theorem enterReset_eq (cause : Nat) (lost : Bool) (s : State) :
    enterReset cause lost s = resetStatus (cause = 0) lost (resetRecorded cause s (resetCleared cause lost s)) := rfl

theorem resetRecorded_ok (cause : Nat) (s u : State) :
    Ok [.coaches, .reg .GCTL_RSTCAUSE, .reg .GCTL_RUNSTAT] u (resetRecorded cause s u) :=
  Ok.via (State.put_at at_GCTL_RUNSTAT) rfl (Ok.via (State.put_at at_GCTL_RUNSTAT) rfl (Ok.via (State.wr_at at_GCTL_RSTCAUSE) rfl
    ((Ok.forEach (W := [.coaches]) (fun _ _ => State.modCoach_ok ..) .refl).mono rfl)))

theorem resetStatus_ok (por lost : Bool) (u : State) :
    Ok [.reg .MGS_WDCFG, .reg .MGS_AUSTAT, .reg .GCTL_STORESTAT, .reg .MGS_UPDSTAT, .reg .MGS_ALSTAT, .reg .GCTL_RUNCTL,
      .reg .GCTL_CLKSTAT] u (resetStatus por lost u) := by
  unfold resetStatus
  refine Ok.applyIf (fun t => (State.put_at at_GCTL_CLKSTAT).mono rfl) ?_
  refine Ok.via (State.put_at at_GCTL_CLKSTAT) rfl (Ok.via (State.put_at at_GCTL_RUNCTL) rfl ?_)
  refine Ok.via (State.wr_at at_MGS_ALSTAT) rfl (Ok.via (State.put_at at_GCTL_STORESTAT) rfl ?_)
  refine Ok.via (State.put_at at_MGS_UPDSTAT) rfl (Ok.via (State.put_at at_GCTL_STORESTAT) rfl ?_)
  refine Ok.via (State.put_at at_GCTL_STORESTAT) rfl (Ok.applyIf (fun t => ?_) .refl)
  exact Ok.via (State.put_at at_MGS_AUSTAT) rfl ((State.put_at at_MGS_WDCFG).mono rfl)

/-- What follows the first part leaves everything but coaches and registers. -/
theorem enterReset_frame (cause : Nat) (lost : Bool) (s : State) :
    Frame [.coaches, .regs] (resetCleared cause lost s) (enterReset cause lost s) :=
  (Ok.trans ((resetRecorded_ok cause s _).mono rfl) ((resetStatus_ok (cause = 0) lost _).mono rfl)).1

theorem power_enterReset (cause : Nat) (lost : Bool) (s : State) :
    (enterReset cause lost s).power = (resetCleared cause lost s).power := (enterReset_frame cause lost s).1 .power (by decide)

theorem rd_enterReset {cause : Nat} {lost : Bool} {s : State} {a : Nat} (h : [RegName.MGS_WDCFG, .MGS_AUSTAT, .GCTL_STORESTAT,
    .MGS_UPDSTAT, .MGS_ALSTAT, .GCTL_RUNCTL, .GCTL_CLKSTAT].all (fun r => (Part.reg r).outside a (a + 1)) = true) :
    (enterReset cause lost s).rd a = (resetRecorded cause s (resetCleared cause lost s)).rd a :=
  (resetStatus_ok (cause = 0) lost _).1.rd_of h

/-- The cause is recorded, beside those that were recorded before, but after a power-on. -/
theorem rstcause_enterReset (cause : Nat) (lost : Bool) (s : State) :
    (enterReset cause lost s).rd GCTL_RSTCAUSE = s.causesAfter cause := by
  rw [rd_enterReset rfl, resetRecorded, State.rd_put_ne _ (by decide), State.rd_put_ne _ (by decide), State.rd_wr_self]

theorem causesAfter_cause {cause : Nat} (h : cause < 32) (s : State) : (s.causesAfter cause).getLsbD cause = true := by
  unfold State.causesAfter
  rw [BitVec.getLsbD_ofNat, decide_eq_true h, Bool.true_and]
  by_cases hc : cause = 0
  · subst hc
    simp
  · rw [if_neg (by simpa using hc), testBit_natPutBit, if_pos rfl]

/-- The words after the cause was recorded and before the status words: those kept, and the reset values of the others. -/
theorem rd_resetRecorded {cause : Nat} {lost : Bool} {s : State} {a : Nat} (h : a ≠ GCTL_RSTCAUSE) (h' : a ≠ GCTL_RUNSTAT) :
    (resetRecorded cause s (resetCleared cause lost s)).rd a = if keptThrough cause a then s.rd a else resetWord a := by
  unfold resetRecorded
  dsimp only
  rw [State.rd_put_ne _ h', State.rd_put_ne _ h', State.rd_wr_ne _ h,
    (Ok.forEach (W := [.coaches]) (fun _ _ => State.modCoach_ok ..) .refl).1.rd (by decide) (by simp)]
  exact Sparse.get_filter _ a

theorem runState_enterReset (cause : Nat) (lost : Bool) (s : State) : (enterReset cause lost s).runState = 0 := by
  unfold State.runState State.get
  rw [rd_enterReset rfl]
  show State.get (resetRecorded ..) GCTL_RUNSTAT.STATE = 0
  rw [resetRecorded, State.get_put_disj _ (by decide) (by decide), State.get_put_self _ (by decide) (by decide)]
  rfl

/-- The wake cause is kept through every reset but a power-on. -/
theorem wakesrc_enterReset {cause : Nat} (hc : cause ≠ 0) (lost : Bool) (s : State) :
    (enterReset cause lost s).get GCTL_RUNSTAT.WAKESRC = s.get GCTL_RUNSTAT.WAKESRC := by
  have kept : keptThrough cause GCTL_RUNSTAT = true := by simp [keptThrough, keptD0, hc]
  unfold State.get
  rw [rd_enterReset rfl]
  show State.get (resetRecorded ..) GCTL_RUNSTAT.WAKESRC = _
  rw [resetRecorded, State.get_put_disj _ (by decide) (by decide), State.get_put_disj _ (by decide) (by decide),
    State.get_wr_ne _ (by decide),
    (Ok.forEach (W := [.coaches]) (fun _ _ => State.modCoach_ok ..) .refl).1.get (by decide) (by simp)]
  exact congrArg (wordField · 15 8) ((Sparse.get_filter s.regs GCTL_RUNSTAT).trans (if_pos kept))

/-- The RTC goes on through every reset but a power-on, R64. -/
theorem rtc_enterReset {cause : Nat} (hc : cause ≠ 0) (lost : Bool) (s : State) : (enterReset cause lost s).rtc = s.rtc := by
  have kept : keptThrough cause GCTL_RTC_LO = true ∧ keptThrough cause GCTL_RTC_HI = true := by simp [keptThrough, keptD0, hc]
  unfold State.rtc State.get
  rw [rd_enterReset rfl, rd_resetRecorded (by decide) (by decide), if_pos kept.1, rd_enterReset rfl,
    rd_resetRecorded (by decide) (by decide), if_pos kept.2]

theorem rtc_powerOn (lost : Bool) (s : State) : (enterReset 0 lost s).rtc = 0 := by
  unfold State.rtc State.get
  rw [rd_enterReset rfl, rd_resetRecorded (by decide) (by decide), if_neg (by decide), rd_enterReset rfl,
    rd_resetRecorded (by decide) (by decide), if_neg (by decide)]
  decide +kernel

theorem hasReset_enterReset {cause : Nat} (hc : cause < 32) (lost : Bool) (s : State) : hasReset cause s (enterReset cause lost s) := by
  have h := (enterReset_frame cause lost s).1
  have cause_read : ((enterReset cause lost s).rd GCTL_RSTCAUSE).getLsbD cause = true := by
    rw [rstcause_enterReset, causesAfter_cause hc]
  have settings : (enterReset cause lost s).nvm.settings = s.nvm.settings :=
    (congrArg Nvm.settings (h .nvm (by decide))).trans rfl
  have log : (enterReset cause lost s).mgs.log = s.mgs.log := (congrArg Mgs.log (h .mgs (by decide))).trans rfl
  exact ⟨by rw [power_enterReset]; rfl, by rw [power_enterReset]; rfl, cause_read, runState_enterReset .., h .legs (by decide),
    h .coils (by decide), h .axes (by decide), h .pl (by decide), h .net (by decide), h .staged (by decide), h .bad (by decide),
    settings, log, h .pending (by decide), h .recipes (by decide)⟩

/-- The log queue is lost at power-on and brown-out, log entry 29. -/
theorem logQ_brownOut (lost : Bool) (s : State) : (enterReset 3 lost s).logQ = [] :=
  (enterReset_frame 3 lost s).1 .logQ (by decide)

theorem clkFail_enterReset (lost : Bool) (s : State) : (enterReset 5 lost s).power.clkFail = true := by
  rw [power_enterReset]
  rfl

/-- A reset finds the same device after operations that leave NVM, the log, the recipes and the queue. -/
theorem hasReset_after {cause : Nat} {s u t : State} {W : List Part} (hf : Frame W s u) (h : hasReset cause u t)
    (hw : .nvm ∉ W ∧ .mgs ∉ W ∧ .pending ∉ W ∧ .recipes ∉ W) : hasReset cause s t := by
  obtain ⟨reset, sequence, causes, run, legs, coils, axes, pl, net, staged, bad, nvm, log, pending, recipes⟩ := h
  obtain ⟨hn, hm, hp, hr⟩ := hw
  exact ⟨reset, sequence, causes, run, legs, coils, axes, pl, net, staged, bad, nvm.trans (congrArg Nvm.settings (hf.1 .nvm hn)),
    log.trans (congrArg Mgs.log (hf.1 .mgs hm)), pending.trans (hf.1 .pending hp), recipes.trans (hf.1 .recipes hr)⟩

theorem hasReset_answer {cause : Nat} {s t : State} (h : hasReset cause s t) (m : Master) (r : Reply) :
    hasReset cause s (t.answer m r) := h

/-! ### The commands that reset, R65 -/

theorem wakeBit_lt (src : WakeSource) : wakeBit src < 8 := by cases src <;> decide

theorem wakesrc_noteWake {b : Nat} (h : b < 8) (s : State) : (noteWake b s).get GCTL_RUNSTAT.WAKESRC = 2 ^ b := by
  unfold noteWake
  rw [State.get_put_self _ (by decide) (by decide)]
  exact Nat.mod_eq_of_lt (Nat.pow_lt_pow_right (by decide) h)

section
variable {s : State} {m : Master}

theorem does_softwareReset (h : s.mayGuard m GCTL_PWRDOM) (ho : othersKept s 4) : Does (.softwareReset m) s (hasReset 4 s) := by
  have hw := swrstWord_asks s
  have kept : ∀ d < 4, s.askedCoach d = false → false = false → s.coachWork d = false :=
    fun d hd ha _ => othersKept_coachWork ho hd (by omega) ha
  have asks : guardedWrite m GCTL_PWRDOM (wordPut s.powerWord 31 31 (b2n true)) s
      = (enterReset 4 false (s.asked m (wordPut s.powerWord 31 31 (b2n true)))).answer m .done := by
    rw [guardedWrite_pwrdom h hw kept, powerWritten_eq, if_pos hw.swrst]
  refine Does.of_eq rfl asks ?_
  exact hasReset_answer (hasReset_after (asked_ok s m _).1 (hasReset_enterReset (by decide) false _) (by decide)) m .done

theorem does_hibernateWake {src : WakeSource} {n : BitVec 48} (h3 : s.runState = 3) (hr : s.power.inReset = false)
    (hw : s.wakesFrom 3 src = true) :
    Does (.hibernateWake ⟨src, n⟩) s fun t => hasReset 7 s t ∧ t.get GCTL_RUNSTAT.WAKESRC = 2 ^ wakeBit src := by
  have noted : Ok [.reg .GCTL_RTC_HI, .reg .GCTL_RTC_LO, .reg .GCTL_RUNSTAT] s (noteWake (wakeBit src) (rtcCount n.toNat s)) :=
    Ok.via (noteWake_ok ..) rfl ((rtcCount_ok ..).mono rfl)
  refine Does.of_eq (u := enterReset 7 false (noteWake (wakeBit src) (rtcCount n.toNat s))) rfl (if_pos ?_) ⟨?_, ?_⟩
  · rw [h3, hr, hw]
    rfl
  · exact hasReset_after noted.1 (hasReset_enterReset (by decide) false _) (by decide)
  · rw [wakesrc_enterReset (by decide)]
    exact wakesrc_noteWake (wakeBit_lt src) _

theorem does_clockFailure {lost : Bool} (h : s.power.inReset = true ∨ s.runState < 2 ∨ (s.runState = 2 ∧ lost = true)) :
    Does (.clockFailure lost) s fun t => hasReset 5 s t ∧ t.power.clkFail = true :=
  Does.of_eq rfl (if_pos (by simpa [or_assoc] using h)) ⟨hasReset_enterReset (by decide) lost s, clkFail_enterReset lost s⟩

theorem does_powerOnReset : Does .powerOnReset s fun t => hasReset 0 s t ∧ t.rd GCTL_RSTCAUSE = 1 ∧ t.rtc = 0 :=
  ⟨_, rfl, hasReset_enterReset (by decide) false s, rstcause_enterReset 0 false s, rtc_powerOn false s⟩

theorem does_pwrgoodLow (h : s.power.inReset = true ∨ s.runState ≠ 3) :
    Does .pwrgoodLow s fun t => hasReset 2 s t ∧ t.rtc = s.rtc :=
  Does.of_eq rfl (if_neg (by rcases h with h | h <;> simp [h])) ⟨hasReset_enterReset (by decide) false s, rtc_enterReset (by decide) false s⟩

end

/-! ### The reset sequence, R67 and R369 -/

/-- The state in which the firmware slot is selected. -/
def sequenceBegun (strap : Nat) (readOk : Bool × Bool) (s : State) : State :=
  noteRead readOk ((s.modPower fun p => { p with sequence := true, strap := strap }).put GCTL_CLKSTAT.REFOK 1)

theorem resetStart_eq {strap : Nat} {readOk : Bool × Bool} {s : State} {b : Bool}
    (h : s.power.inReset = true ∧ s.power.sequence = false ∧ s.power.refLost = false)
    (hc : bootChoice (sequenceBegun strap readOk s) = (some b, sequenceBegun strap readOk s))
    (hb : ((sequenceBegun strap readOk s).putB MGS_UPDSTAT.RUN b).bootOk b = true) :
    resetStart strap readOk s = logReset b ((sequenceBegun strap readOk s).putB MGS_UPDSTAT.RUN b) := by
  obtain ⟨hr, hs, hl⟩ := h
  unfold resetStart
  unfold sequenceBegun at *
  rw [hr, hs, hl, if_neg (by decide)]
  dsimp only
  rw [hc]
  exact if_pos hb

/-- With no image on trial the active slot boots, and nothing else is chosen. -/
theorem bootChoice_active {s : State} (ha : s.mgs.slotA.state ≠ 5 ∧ s.mgs.slotA.state ≠ 6)
    (hb : s.mgs.slotB.state ≠ 5 ∧ s.mgs.slotB.state ≠ 6) : bootChoice s = (s.activeSlot, s) := by
  unfold bootChoice Mgs.slot
  simp [ha, hb]

/-- Whether an image boots is a matter of its slot and of the roll-back counter. -/
theorem bootOk_congr {s t : State} (hm : t.mgs = s.mgs) (hr : t.rbcnt = s.rbcnt) (b : Bool) : t.bootOk b = s.bootOk b := by
  unfold State.bootOk State.holdsValid State.imageCheck
  rw [hm, hr]

theorem activeSlot_congr {s t : State} (ha : t.mgs.slotA.state = s.mgs.slotA.state) (hb : t.mgs.slotB.state = s.mgs.slotB.state) :
    t.activeSlot = s.activeSlot := by
  unfold State.activeSlot
  rw [ha, hb]

theorem noteRead_mgs {s t : State} (h : t.mgs = s.mgs) (ok : Bool × Bool) : (noteRead ok t).mgs = (noteRead ok s).mgs := by
  unfold noteRead modSlot State.modMgs
  dsimp only
  rw [h]

theorem states_noteRead (ok : Bool × Bool) (s : State) :
    (noteRead ok s).mgs.slotA.state = s.mgs.slotA.state ∧ (noteRead ok s).mgs.slotB.state = s.mgs.slotB.state := ⟨rfl, rfl⟩

/-- The time that has passed is counted, and the time that the sequence takes is noted. -/
def sequenceTimed (n k : Nat) (s : State) : State := rtcCount n (s.modPower fun p => { p with seqTime := k })

theorem sequenceTimed_ok (n k : Nat) (s : State) : Ok [.power, .reg .GCTL_RTC_HI, .reg .GCTL_RTC_LO] s (sequenceTimed n k s) :=
  Ok.via (rtcCount_ok ..) rfl ((State.modPower_ok ..).mono rfl)

theorem power_sequenceTimed (n k : Nat) (s : State) : (sequenceTimed n k s).power = { s.power with seqTime := k } :=
  (rtcCount_ok n _).1.1 .power (by decide)

theorem power_sequenceBegun (strap : Nat) (ok : Bool × Bool) (s : State) :
    (sequenceBegun strap ok s).power = { s.power with sequence := true, strap := strap } := rfl

theorem refok_sequenceBegun (strap : Nat) (ok : Bool × Bool) (s : State) :
    (sequenceBegun strap ok s).on GCTL_CLKSTAT.REFOK = true :=
  State.on_put_self (s := s.modPower fun p => { p with sequence := true, strap := strap }) 1 (by decide) (by decide)

/-- The entry of a reset leaves the slot that runs as it was noted. -/
theorem run_logReset (b : Bool) (s : State) : (logReset b (s.putB MGS_UPDSTAT.RUN b)).on MGS_UPDSTAT.RUN = decide (b2n b % 2 ≠ 0) := by
  have kept : (logReset b (s.putB MGS_UPDSTAT.RUN b)).rd MGS_UPDSTAT = (s.putB MGS_UPDSTAT.RUN b).rd MGS_UPDSTAT :=
    rd_logAdd_ne (by decide)
  have on : (s.putB MGS_UPDSTAT.RUN b).on MGS_UPDSTAT.RUN = decide (b2n b % 2 ≠ 0) := State.on_put_self _ (by decide) (by decide)
  rw [← on]
  exact congrArg (fun w => decide (wordField w 8 8 ≠ 0)) kept

theorem does_resetSequenceStart {s : State} {strap : BitVec 7} {ok : Bool × Bool} {n k : BitVec 48} {b : Bool}
    (hr : s.power.inReset = true) (hs : s.power.sequence = false) (hl : s.power.refLost = false)
    (ha : s.mgs.slotA.state ≠ 5 ∧ s.mgs.slotA.state ≠ 6) (hb : s.mgs.slotB.state ≠ 5 ∧ s.mgs.slotB.state ≠ 6)
    (hact : s.activeSlot = some b) (hok : (noteRead ok s).bootOk b = true) :
    Does (.resetSequenceStart strap ⟨ok, n, k⟩) s fun t =>
      t.power.inReset = true ∧ t.power.sequence = true ∧ t.power.seqTime = k.toNat ∧ t.power.strap = strap.toNat
        ∧ t.on GCTL_CLKSTAT.REFOK = true ∧ t.on MGS_UPDSTAT.RUN = b := by
  let u := sequenceTimed n.toNat k.toNat s
  let v := sequenceBegun strap.toNat ok u
  have mgs : v.mgs = (noteRead ok s).mgs := noteRead_mgs ((sequenceTimed_ok n.toNat k.toNat s).1.1 .mgs (by decide)) ok
  have rbcnt : v.rbcnt = (noteRead ok s).rbcnt := (sequenceTimed_ok n.toNat k.toNat s).1.1 .rbcnt (by decide)
  obtain ⟨stA, stB⟩ := states_noteRead ok s
  have slotA : v.mgs.slotA.state = s.mgs.slotA.state := by rw [mgs, stA]
  have slotB : v.mgs.slotB.state = s.mgs.slotB.state := by rw [mgs, stB]
  have choice : bootChoice v = (some b, v) := by
    rw [bootChoice_active (by rwa [slotA]) (by rwa [slotB]), activeSlot_congr slotA slotB, hact]
  have boots : (v.putB MGS_UPDSTAT.RUN b).bootOk b = true := (bootOk_congr mgs rbcnt b).trans hok
  have power : v.power = { s.power with seqTime := k.toNat, sequence := true, strap := strap.toNat } := by
    rw [show v.power = _ from power_sequenceBegun .., power_sequenceTimed]
  have begun : u.power.inReset = true ∧ u.power.sequence = false ∧ u.power.refLost = false := by
    rw [show u.power = _ from power_sequenceTimed ..]
    exact ⟨hr, hs, hl⟩
  have run : execResetSequenceStart strap ⟨ok, n, k⟩ s = .next (logReset b (v.putB MGS_UPDSTAT.RUN b)) := by
    unfold execResetSequenceStart
    rw [hr, hs, hl, if_pos (by decide)]
    exact congrArg _ (resetStart_eq begun choice boots)
  have logged := (logReset_ok b (v.putB MGS_UPDSTAT.RUN b)).1
  have p : (logReset b (v.putB MGS_UPDSTAT.RUN b)).power = v.power := logged.1 .power (by decide)
  refine ⟨_, run, ?_, ?_, ?_, ?_, ?_, ?_⟩
  · rw [p, power]
    exact hr
  · rw [p, power]
  · rw [p, power]
  · rw [p, power]
  · rw [logged.on_of rfl, (State.putB_at at_MGS_UPDSTAT).1.on_of rfl]
    exact refok_sequenceBegun ..
  · exact (run_logReset ..).trans (by cases b <;> rfl)

/-! ### The end of the reset sequence, R67 and R68 -/

/-- The device leaves reset: the modes of the ranks, the sides' conditions and the node-ID are shown. -/
def resetShown (fail : Bool) (strap : Nat) (s : State) : State :=
  let s := applyIf fail (logMgs 0x0101 0 0 0) s
  let s := if s.trioState = 4 then s.modMgs fun m => { m with wdRun := false } else restartWatchdog s
  let s := forEach [0, 1] showSide s
  let s := forEach (List.range 16) (fun r s =>
    let s := (s.put (RK_STAT.APPLIED0 r) (s.get (RK_MODE.MODE0 r))).put (RK_STAT.APPLIED1 r) (s.get (RK_MODE.MODE1 r))
    showPresent r s) s
  nodeAtReset strap s

theorem resetShown_ok (fail : Bool) (strap : Nat) (s : State) :
    Ok [.logQ, .mgs, .reg .MGS_LOGSTAT, .reg .CO_VM, .reg .EV_ACT, .reg .RK_STAT, .reg .AX_STAT, .reg .NET_NODE] s
      (resetShown fail strap s) := by
  unfold resetShown
  refine Ok.via (nodeAtReset_ok ..) rfl (Ok.forEach (fun r u => ?_) (Ok.forEach (fun sd u => (showSide_ok ..).mono rfl) ?_))
  · exact Ok.via (showPresent_ok ..) rfl (Ok.via (State.put_at (at_RK_STAT r)) rfl ((State.put_at (at_RK_STAT r)).mono rfl))
  · have logged : Ok [.logQ, .mgs, .reg .MGS_LOGSTAT, .reg .CO_VM, .reg .EV_ACT, .reg .RK_STAT, .reg .AX_STAT, .reg .NET_NODE] s
        (applyIf fail (logMgs 0x0101 0 0 0) s) := Ok.applyIf (fun u => (logMgs_ok ..).mono rfl) .refl
    refine Ok.ite (Ok.via (State.modMgs_ok fun m h => ?_) rfl logged) (Ok.via (restartWatchdog_ok ..) rfl logged)
    exact h

theorem restore_nothing {s : State} (h : s.nvm.settings = none) (h' : s.nvm.waves = none) : restore s = s := by
  unfold restore
  rw [h]
  dsimp only
  rw [h']

/-- The device is out of reset. -/
def resetLeft (s : State) : State :=
  s.modPower fun p => { p with inReset := false, sequence := false, seqTime := 0, clkFail := false, hibPos := [] }

theorem resetEnd_plain {s : State} (hs : s.power.sequence = true) (hn : s.nvm.settings = none) (hw : s.nvm.waves = none)
    (hp : s.power.hibPos = []) :
    resetEnd s = resetShown s.power.clkFail s.power.strap (((resetLeft s).put GCTL_CLKSTAT.LOCK 1).put GCTL_PWRSTAT.AFEON 1) := by
  have nothing : restore (resetLeft s) = resetLeft s := restore_nothing hn hw
  unfold resetEnd
  rw [hs, hp, if_neg (by decide)]
  show (if (!([] : List (Nat × Int)).isEmpty) = true then _ else resetShown s.power.clkFail s.power.strap
    (((restore (resetLeft s)).put GCTL_CLKSTAT.LOCK 1).put GCTL_PWRSTAT.AFEON 1)) = _
  rw [nothing]
  rfl

theorem does_resetSequenceEnd {s : State} (hs : s.power.sequence = true) (hn : s.nvm.settings = none) (hw : s.nvm.waves = none)
    (hp : s.power.hibPos = []) :
    Does .resetSequenceEnd s fun t =>
      t.power.inReset = false ∧ t.power.sequence = false ∧ t.on GCTL_CLKSTAT.LOCK = true ∧ t.on GCTL_PWRSTAT.AFEON = true := by
  have counted := (rtcCount_ok s.power.seqTime s).1.1
  have power : (rtcCount s.power.seqTime s).power = s.power := counted .power (by decide)
  have nvm : (rtcCount s.power.seqTime s).nvm = s.nvm := counted .nvm (by decide)
  have run : execResetSequenceEnd s = .next (resetEnd (rtcCount s.power.seqTime s)) := by
    unfold execResetSequenceEnd
    rw [hs, if_pos rfl]
  refine Does.of_eq run (resetEnd_plain (by rwa [power]) (by rwa [nvm]) (by rwa [nvm]) (by rwa [power])) ?_
  generalize rtcCount s.power.seqTime s = u
  have shown := (resetShown_ok u.power.clkFail u.power.strap (((resetLeft u).put GCTL_CLKSTAT.LOCK 1).put GCTL_PWRSTAT.AFEON 1)).1
  have p := shown.1 .power (by decide)
  refine ⟨(congrArg Power.inReset p).trans rfl, (congrArg Power.sequence p).trans rfl, ?_, ?_⟩
  · rw [shown.on_of rfl]
    unfold State.on
    rw [State.get_put_ne _ (by decide), State.get_put_self _ (by decide) (by decide)]
    rfl
  · exact (shown.on_of rfl).trans (State.on_put_self _ (by decide) (by decide))

/-! ### Boot-up, R317 -/

theorem does_bootUp {s : State} (ho : s.stackOn = true) (hn : s.nmt = 0) (hs : s.get NET_NODE.SRC ≠ 2) :
    Does .bootUp s fun t => t.nmt = if (s.obj 0x1F80 0).getLsbD 2 then 2 else 1 := by
  have booted : bootUp s = setNmt (if (s.obj 0x1F80 0).getLsbD 2 then 2 else 1) (txAll [0, 1] ⟨0x700 + s.node, .heartbeat 0⟩ s) := by
    unfold bootUp
    rw [ho, hn, if_pos (by simpa using hs)]
  refine Does.of_eq rfl booted ?_
  unfold setNmt State.nmt
  rw [State.get_put_self _ (by decide) (by decide)]
  split <;> rfl

/-- Settles O7: each reset is `enterReset` with its cause; the sequence boots the active slot and ends with nothing stored; the
node boots up. -/
theorem resetsComplete : Obligations.ResetsComplete := by
  unfold Obligations.ResetsComplete
  intro s m
  exact ⟨does_softwareReset, fun src n => does_hibernateWake, fun lost => does_clockFailure, does_powerOnReset,
    ⟨_, rfl, hasReset_enterReset (by decide) false s, rtc_enterReset (by decide) false s⟩, does_pwrgoodLow,
    fun hr h3 => Does.of_eq rfl (if_pos (by rw [hr, h3]; rfl)) rfl,
    ⟨_, rfl, hasReset_enterReset (by decide) false s, logQ_brownOut false s⟩,
    fun strap ok n k b hr hs hl a5 a6 b5 b6 hact hok => does_resetSequenceStart hr hs hl ⟨a5, a6⟩ ⟨b5, b6⟩ hact hok,
    does_resetSequenceEnd, does_bootUp⟩

end Sys2Proof.Machine

namespace Sys2Proof.Machine

/-! ### What the work of axes depends on -/

/-- The words outside GCTL, the axes' engines and the plan are the same. -/
structure SameWork (s t : State) : Prop where
  rd : ∀ a, 0x10000 ≤ a → t.rd a = s.rd a
  axes : t.axes = s.axes
  pl : t.pl = s.pl

/-- A part that the work of axes does not depend on. -/
def Part.idle : Part → Bool
  | .reg r => decide (regAddr r 0 0 < 0x10000)
  | .regs => false
  | .axes => false
  | .pl => false
  | _ => true

theorem SameWork.of_frame {W : List Part} {s t : State} (h : Frame W s t) (hw : W.all Part.idle = true) : SameWork s t := by
  have idle {p : Part} (hp : p ∈ W) : p.idle = true := List.all_eq_true.mp hw p hp
  refine ⟨fun a ha => h.rd (fun hr => absurd (idle hr) (by decide)) fun r hr hat => ?_,
    h.1 .axes fun hr => absurd (idle hr) (by decide), h.1 .pl fun hr => absurd (idle hr) (by decide)⟩
  obtain ⟨i, k, rfl⟩ := hat
  have low := of_decide_eq_true (idle hr)
  rw [regAddr_gctl low i k] at ha
  omega

section
variable {s t : State}

theorem SameWork.get (h : SameWork s t) {f : Fld} (hf : 0x10000 ≤ f.addr) : t.get f = s.get f :=
  congrArg (wordField · f.hi f.lo) (h.rd f.addr hf)

theorem SameWork.on (h : SameWork s t) {f : Fld} (hf : 0x10000 ≤ f.addr) : t.on f = s.on f :=
  congrArg (fun n => decide (n ≠ 0)) (h.get hf)

theorem SameWork.mo (h : SameWork s t) (a : Nat) : t.mo a = s.mo a :=
  congrArg (fun x : Sparse Axis => (Sparse.get (fun _ => ({} : Axis)) x a).mo) h.axes

theorem SameWork.inMotion (h : SameWork s t) (a : Nat) : t.inMotion a = s.inMotion a := by
  unfold State.inMotion
  rw [h.mo, h.on (by simp only [AX_STAT]; omega)]

theorem SameWork.planActive (h : SameWork s t) : t.planActive = s.planActive := by
  unfold State.planActive State.plState
  rw [h.get (by decide)]

theorem SameWork.hasWork (h : SameWork s t) (a : Nat) : t.hasWork a = s.hasWork a := by
  unfold State.hasWork State.ownerEntry
  rw [h.inMotion, h.planActive, h.pl, h.mo]

end

/-! ### A coach's power-up, R50 -/

/-- The charge pumps of a coach run. -/
def pumpsRun (c : Nat) (s : State) : State := forEach (coachRanks c) (fun r s => s.put (RK_STAT.CPRUN r) 1) s

theorem pumpsRun_ok (c : Nat) (s : State) : Ok [.reg .RK_STAT] s (pumpsRun c s) := Ok.forEach (fun r _ => State.put_at (at_RK_STAT r)) .refl

/-- The coach powers up: its training starts, and its periods are counted on the grid of R133. -/
def Coach.poweringUp (k : Coach) (start len : Nat) : Coach :=
  { k with powering := true, training := true, awaits := true, tStart := start, perLen := len }

theorem coachLive_putOnfail (d b : Nat) (v : Bool) (s : State) :
    (s.putBitOf GCTL_PWRSTAT.ONFAIL b v).coachLive d = s.coachLive d := by
  unfold State.coachLive State.coachOn State.putBitOf
  rw [State.get_put_disj _ (by decide) (by decide), State.put_coach]

/-- With VM present, and the domain not on yet, the power-up begins. -/
theorem coachPowerUp_begins {c : Nat} {s : State} (hv : s.sideUvf (coachSide c) = false) (hl : s.coachLive c = false) :
    let u := pumpsRun c (s.putBitOf GCTL_PWRSTAT.ONFAIL c false)
    coachPowerUp c s = u.modCoach c fun k => k.poweringUp u.clock (periodLength (u.get (CO_PWMPER.PER c)) u.clock false) := by
  have hv' : (s.putBitOf GCTL_PWRSTAT.ONFAIL c false).sideUvf (coachSide c) = false := hv
  unfold coachPowerUp
  dsimp only
  rw [hv', coachLive_putOnfail, hl, if_neg (by decide), if_neg (by decide)]
  rfl

theorem coachPowerUp_effect {c : Nat} (hc : c < 4) {s : State} (hv : s.sideUvf (coachSide c) = false) (hl : s.coachLive c = false) :
    let t := coachPowerUp c s
    (t.coach c).powering = true ∧ (t.coach c).training = true ∧ (t.coach c).awaits = true
      ∧ t.rd GCTL_PWRDOM = s.rd GCTL_PWRDOM ∧ natBit (t.get GCTL_PWRSTAT.ONFAIL) c = false := by
  have pumped := (pumpsRun_ok c (s.putBitOf GCTL_PWRSTAT.ONFAIL c false)).1
  have dom := (pumped.rd_of (a := GCTL_PWRDOM) rfl).trans (State.rd_put_ne _ (by decide))
  have onfail : natBit ((pumpsRun c (s.putBitOf GCTL_PWRSTAT.ONFAIL c false)).get GCTL_PWRSTAT.ONFAIL) c = false := by
    rw [pumped.get_of rfl, natBit_putBitOf _ (by decide) (by show 12 + c ≤ 15; omega), if_pos rfl]
  dsimp only
  rw [coachPowerUp_begins hv hl]
  generalize pumpsRun c (s.putBitOf GCTL_PWRSTAT.ONFAIL c false) = u at *
  rw [State.coach_modCoach, State.modCoach_rd, State.modCoach_get]
  exact ⟨rfl, rfl, rfl, dom, onfail⟩

/-! ### Switching a coach on, R50 -/

section
variable {s : State} {m : Master} {c : Fin 4}

theorem getLsbD_latest_coach (s : State) (c : Fin 4) : (s.latest GCTL_PWRDOM).getLsbD (4 + c) = natBit (s.getLatest GCTL_PWRDOM.COACH) c :=
  askedCoach_eq c.isLt s

theorem sideUvf_asked (s : State) (m : Master) (w : Word) (sd : Nat) : (s.asked m w).sideUvf sd = s.sideUvf sd := rfl

theorem coachOn_asked (s : State) (m : Master) (w : Word) (d : Nat) : (s.asked m w).coachOn d = s.coachOn d :=
  congrArg (natBit · d) ((asked_ok s m w).1.get_of (f := GCTL_PWRSTAT.COACHON) rfl)

theorem coach_asked_same (s : State) (m : Master) (w : Word) (d : Nat) : (s.asked m w).coach d = s.coach d := rfl

theorem coachLive_asked (s : State) (m : Master) (w : Word) (d : Nat) : (s.asked m w).coachLive d = s.coachLive d := by
  unfold State.coachLive
  rw [coachOn_asked, coach_asked_same]

theorem does_coachOnRequest (h : s.mayGuard m GCTL_PWRDOM) (ho : othersKept s c) (hr : s.runState ≠ 2)
    (hb : natBit (s.getLatest GCTL_PWRDOM.COACH) c = false) (hv : s.sideUvf (coachSide c) = false) (hl : s.coachLive c = false) :
    Does (.coachOnRequest m c) s fun t =>
      (t.coach c).powering = true ∧ (t.coach c).training = true ∧ (t.coach c).awaits = true ∧ natBit (t.get GCTL_PWRDOM.COACH) c = true
        ∧ natBit (t.get GCTL_PWRSTAT.ONFAIL) c = false ∧ t.reply m = .done
        ∧ Frame [.guards, .replies, .bad, .coaches, .reg .GCTL_PWRDOM, .reg .GCTL_PWRSTAT, .reg .RK_STAT] s t := by
  let w := s.coachWord c true false
  have hw : AsksFor w _ _ _ _ := coachWord_asks s c true false
  have asks : coachAsk (s.latest GCTL_PWRDOM) w c (s.asked m w) = coachPowerUp c (s.asked m w) := by
    unfold coachAsk
    rw [hw.coach c c.isLt, getLsbD_latest_coach, hb, if_pos rfl]
    rfl
  have e : guardedWrite m GCTL_PWRDOM w s = (coachPowerUp c (s.asked m w)).answer m .done := by
    rw [guardedWrite_coach h ho hr (by simp), asks]
  obtain ⟨powering, training, awaits, dom, onfail⟩ := coachPowerUp_effect (s := s.asked m w) c.isLt (by rwa [sideUvf_asked])
    (by rwa [coachLive_asked])
  have coach : natBit ((coachPowerUp c (s.asked m w)).get GCTL_PWRDOM.COACH) c = true := by
    refine (congrArg (fun x => natBit (wordField x 7 4) c) dom).trans ((coach_asked hw c.isLt).trans (if_pos rfl))
  have frame := (Ok.via (State.answer_ok _ m .done) rfl (Ok.via (W := [.guards, .replies, .bad, .coaches, .reg .GCTL_PWRDOM,
    .reg .GCTL_PWRSTAT, .reg .RK_STAT]) (coachPowerUp_ok c.val (s.asked m w)) rfl ((asked_ok s m w).mono rfl))).1
  generalize coachPowerUp c (s.asked m w) = u at *
  exact Does.of_eq rfl e ⟨powering, training, awaits, coach, onfail, State.reply_answer .., frame⟩

/-! ### Switching a coach off, R51 and R52 -/

/-- What a write that clears the COACH bit of a live coach asks for. -/
theorem coachAsk_off {force : Bool} (hb : natBit (s.getLatest GCTL_PWRDOM.COACH) c = true) (hl : s.coachLive c = true) :
    coachAsk (s.latest GCTL_PWRDOM) (s.coachWord c false force) c (s.asked m (s.coachWord c false force))
      = if force then coachForce c (s.asked m (s.coachWord c false force)) else coachOffReq c (s.asked m (s.coachWord c false force)) := by
  have hw := coachWord_asks s c false force
  unfold coachAsk
  rw [hw.coach c c.isLt, hw.force c c.isLt, coachLive_asked, hl, getLsbD_latest_coach, hb]
  simp

theorem coachLive_of_on (h : s.coachOn c = true) : s.coachLive c = true := by
  unfold State.coachLive
  rw [h, Bool.true_or]

theorem coachLive_of_powering (h : (s.coach c).powering = true) : s.coachLive c = true := by
  unfold State.coachLive
  rw [h, Bool.or_true]

theorem coachOff_asked (s : State) (m : Master) (c : Fin 4) (force : Bool) :
    natBit ((s.asked m (s.coachWord c false force)).get GCTL_PWRDOM.COACH) c = false :=
  (coach_asked (coachWord_asks s c false force) c.isLt).trans (if_pos rfl)

theorem does_coachOffRequest (h : s.mayGuard m GCTL_PWRDOM) (ho : othersKept s c) (hr : s.runState ≠ 2)
    (hb : natBit (s.getLatest GCTL_PWRDOM.COACH) c = true) (hon : s.coachOn c = true) (hk : s.coachWork c = false) :
    Does (.coachOffRequest m c) s fun t =>
      t.coach c = { s.coach c with offWait := true } ∧ natBit (t.get GCTL_PWRDOM.COACH) c = false ∧ t.reply m = .done
        ∧ Frame [.guards, .replies, .bad, .coaches, .reg .GCTL_PWRDOM] s t := by
  let u := s.asked m (s.coachWord c false false)
  have off : coachOffReq c u = u.modCoach c fun k => { k with offWait := true } := if_pos ((coachOn_asked ..).trans hon)
  have e : guardedWrite m GCTL_PWRDOM (s.coachWord c false false) s = (u.modCoach c fun k => { k with offWait := true }).answer m .done := by
    rw [guardedWrite_coach h ho hr fun _ _ => hk, coachAsk_off hb (coachLive_of_on hon), ← off]
    rfl
  exact Does.of_eq rfl e ⟨(State.answer_coach ..).trans (State.coach_modCoach ..), coachOff_asked s m c false, State.reply_answer ..,
    (Ok.via (State.answer_ok _ m .done) rfl (Ok.via (State.modCoach_ok ..) rfl ((asked_ok s m _).mono rfl))).1⟩

/-! #### A forced power-down begins, R52 -/

/-- Step 1 of R52 for one slot: the plan fails for it, and it stops if it moves. -/
def forceStop (a : Nat) (s : State) : State :=
  let s := planCause a 3 s
  if s.inMotion a then s.modMo a fun m => { m with orderQ := true } else s

theorem coachForce_on {c : Nat} {s : State} (h : s.coachOn c = true) :
    coachForce c s = forEach (coachAxes c) forceStop (s.putBitOf GCTL_PWRSTAT.PENDOFF c true) := if_pos h

theorem forceStop_ok (a : Nat) (s : State) : Ok [.axes, .pl, .reg .PL_ENERGY_HI, .reg .PL_ENERGY_LO, .reg .PL_EVINFO, .reg .PL_MAKESPAN,
    .reg .PL_RES, .reg .PL_RES_EACT, .reg .PL_RES_END, .reg .PL_STAT] s (forceStop a s) := by
  have plan := planCause_ok a 3 s
  unfold forceStop
  exact Ok.ite (Ok.via (State.modMo_ok ..) rfl (plan.mono rfl)) (plan.mono rfl)

theorem forceStops_ok (c : Nat) (s : State) : Ok [.axes, .pl, .reg .PL_ENERGY_HI, .reg .PL_ENERGY_LO, .reg .PL_EVINFO,
    .reg .PL_MAKESPAN, .reg .PL_RES, .reg .PL_RES_EACT, .reg .PL_RES_END, .reg .PL_STAT] s (forEach (coachAxes c) forceStop s) :=
  Ok.forEach forceStop_ok .refl

theorem mo_planCause (a reason b : Nat) (s : State) : (planCause a reason s).mo b = s.mo b := (planCause_ok a reason s).1.mo (by decide) b

theorem inMotion_congr {s t : State} {a : Nat} (hm : t.mo a = s.mo a) (hk : t.get (AX_STAT.STOPKIND a) = s.get (AX_STAT.STOPKIND a)) :
    t.inMotion a = s.inMotion a := by
  unfold State.inMotion State.on
  rw [hm, hk]

theorem inMotion_planCause (a reason : Nat) {b : Nat} (hb : b < 128) (s : State) :
    (planCause a reason s).inMotion b = s.inMotion b :=
  inMotion_congr (mo_planCause ..) (get_of_shared (planCause_ok ..) (AX_STAT_lt hb) rfl)

theorem axisOnly_forceStop (b : Nat) (s : State) : AxisOnly b s (forceStop b s) := by
  have plan : AxisOnly b s (planCause b 3 s) := AxisOnly.refl.shared (planCause_ok ..) rfl
  unfold forceStop
  dsimp only
  split
  · exact plan.modMo
  · exact plan

theorem orderQ_forceStop {a : Nat} (ha : a < 128) {s : State} (h : s.inMotion a = true ∨ (s.mo a).orderQ = true) :
    ((forceStop a s).mo a).orderQ = true := by
  unfold forceStop
  dsimp only
  rw [inMotion_planCause a 3 ha]
  by_cases hm : s.inMotion a = true
  · rw [if_pos hm, State.mo_modMo]
  · rw [if_neg hm, mo_planCause]
    exact h.resolve_left hm

/-- Every slot of the coach that moves is ordered to stop. -/
theorem orderQ_forceStops {a c : Nat} (ha : a < 128) (hc : axisCoach a = c) {s : State} (h : s.inMotion a = true) :
    ((forEach (coachAxes c) forceStop s).mo a).orderQ = true := by
  refine forEach_axes_reaches (Q := fun u => (u.mo a).orderQ = true) (mem_coachAxes hc) ha axisOnly_forceStop (fun u hu => ?_)
    (fun u hu => orderQ_forceStop ha (.inr hu)) (fun u v huv hu => ?_)
  · have moves : u.inMotion a = s.inMotion a := inMotion_congr hu.2 (hu.get (k := 0x1004C) rfl)
    exact orderQ_forceStop ha (.inl (moves.trans h))
  · rwa [huv.2]

theorem does_coachForcedOff (h : s.mayGuard m GCTL_PWRDOM) (ho : othersKept s c) (hr : s.runState ≠ 2)
    (hb : natBit (s.getLatest GCTL_PWRDOM.COACH) c = true) (hon : s.coachOn c = true) :
    Does (.coachForcedOff m c) s fun t =>
      natBit (t.get GCTL_PWRSTAT.PENDOFF) c = true ∧ natBit (t.get GCTL_PWRDOM.COACH) c = false ∧ t.reply m = .done
        ∧ ∀ a : Fin 128, axisCoach a = c → s.inMotion a = true → (t.mo a).orderQ = true := by
  let u := s.asked m (s.coachWord c false true)
  have on : u.coachOn c = true := (coachOn_asked ..).trans hon
  let v := u.putBitOf GCTL_PWRSTAT.PENDOFF c true
  have e : guardedWrite m GCTL_PWRDOM (s.coachWord c false true) s = (forEach (coachAxes c) forceStop v).answer m .done := by
    rw [guardedWrite_coach h ho hr (by simp), coachAsk_off hb (coachLive_of_on hon), if_pos rfl, coachForce_on on]
  have same : SameWork s v := .of_frame (W := [.guards, .replies, .bad, .reg .GCTL_PWRDOM, .reg .GCTL_PWRSTAT])
    (Ok.via (State.putBitOf_at at_GCTL_PWRSTAT) rfl ((asked_ok s m _).mono rfl)).1 rfl
  have stops := (forceStops_ok c v).1
  have pend : natBit ((forEach (coachAxes c) forceStop v).get GCTL_PWRSTAT.PENDOFF) c = true := by
    rw [stops.get_of rfl, natBit_putBitOf _ (by decide) (by show 8 + c.val ≤ 11; omega), if_pos rfl]
  have dom : natBit ((forEach (coachAxes c) forceStop v).get GCTL_PWRDOM.COACH) c = false := by
    rw [stops.get_of rfl]
    exact (congrArg (natBit · c) (State.get_put_ne _ (by decide))).trans (coachOff_asked s m c true)
  have orders (a : Fin 128) (hc : axisCoach a = c) (hm : s.inMotion a = true) :
      ((forEach (coachAxes c) forceStop v).mo a).orderQ = true := orderQ_forceStops a.isLt hc ((same.inMotion a).trans hm)
  generalize forEach (coachAxes c) forceStop v = t at *
  exact Does.of_eq rfl e ⟨pend, dom, State.reply_answer .., orders⟩

end

/-! ### The domain of a coach goes off, step 5 of R52 -/

/-- What the coach held is lost. -/
def coachEmptied (c : Nat) (s : State) : State :=
  let s := { s with
    legs := s.legs.filter fun x => x.1 / 128 ≠ c
    coils := s.coils.filter fun x => x.1 / 64 ≠ c }
  s.modCoach c fun k =>
    { ({} : Coach) with uvf := k.uvf, uvw := k.uvw, ovf := k.ovf, ovw := k.ovw, cpuv := k.cpuv, badWords := k.badWords }

/-- Overrides end and the coupling is down. -/
def linkDown (c : Nat) (s : State) : State :=
  ((forEach (coachLegs c) (fun l s => s.put (LEG_TEST.OVR l) 0) s).put (CO_LINKSTAT.UP c) 0).put (CO_LINKSTAT.SAFEACT c) 0

/-- The domain reads off, and the warnings of the coach's ranks end. -/
def domainDown (c : Nat) (s : State) : State :=
  setAct (20 + c) false (forEach (coachRanks c) (fun r s => s.put (RK_FLTSTAT.WARN r) 0) (s.putBitOf GCTL_PWRSTAT.COACHON c false))

theorem coachLost_eq (c : Nat) (s : State) :
    coachLost c s = endExchanges (s.coach c).cfgq (domainDown c (linkDown c (coachEmptied c s))) := rfl

theorem linkDown_ok (c : Nat) (s : State) : Ok [.reg .LEG_TEST, .reg .CO_LINKSTAT] s (linkDown c s) :=
  Ok.via (State.put_at (at_CO_LINKSTAT c)) rfl (Ok.via (State.put_at (at_CO_LINKSTAT c)) rfl
    ((Ok.forEach (W := [.reg .LEG_TEST]) (fun l _ => State.put_at (at_LEG_TEST l)) .refl).mono rfl))

theorem warnsEnd_ok (c : Nat) (s : State) :
    Ok [.reg .RK_FLTSTAT] s (forEach (coachRanks c) (fun r s => s.put (RK_FLTSTAT.WARN r) 0) s) :=
  Ok.forEach (fun r _ => State.put_at (at_RK_FLTSTAT r)) .refl

theorem domainDown_ok (c : Nat) (s : State) : Ok [.reg .GCTL_PWRSTAT, .reg .RK_FLTSTAT, .reg .EV_ACT] s (domainDown c s) :=
  Ok.via (setAct_ok ..) rfl (Ok.via (warnsEnd_ok ..) rfl ((State.putBitOf_at at_GCTL_PWRSTAT).mono rfl))

/-- Exchanges that end leave whether a coach powers up. -/
theorem powering_endExchanges (q : List Exchange) (d : Nat) (s : State) :
    ((endExchanges q s).coach d).powering = (s.coach d).powering := by
  have step (e : Exchange) (x : BusErr) (u : State) (hu : (u.coach d).powering = (s.coach d).powering) :
      ((endExchange e (.error x) u).coach d).powering = (s.coach d).powering := by
    rw [coach_endExchange, coach_modeFailed]
    exact hu
  unfold endExchanges
  split
  · rfl
  · rename_i e l
    exact forEach_keeps (f := fun e u => endExchange e (.error .domainOff) u) (l := l)
      (P := fun u => (u.coach d).powering = (s.coach d).powering) (fun e _ u => step e .domainOff u) (step e .linkErr s rfl)

theorem powering_coachLost (c : Nat) (s : State) : ((coachLost c s).coach c).powering = false := by
  rw [coachLost_eq, powering_endExchanges, (domainDown_ok ..).1.coach (by decide), (linkDown_ok ..).1.coach (by decide),
    coachEmptied, State.coach_modCoach]

theorem coachon_coachLost {c : Nat} (hc : c < 4) (s : State) : natBit ((coachLost c s).get GCTL_PWRSTAT.COACHON) c = false := by
  rw [coachLost_eq, (endExchanges_ok ..).1.get_of rfl, domainDown, (setAct_ok ..).1.get_of rfl, (warnsEnd_ok ..).1.get_of rfl,
    natBit_putBitOf _ (by decide) (by show 4 + c ≤ 7; omega), if_pos rfl]

theorem linkstat_range (c : Fin 4) : 0x29000 ≤ CO_LINKSTAT c ∧ CO_LINKSTAT c < 0x30000 := by simp only [CO_LINKSTAT]; omega

theorem linkstat_ne (c : Fin 4) {a : Nat} (h : a < 0x29000) : CO_LINKSTAT c ≠ a := fun e => by
  have := (linkstat_range c).1
  omega

theorem lt_of_mem_coachRanks {c : Fin 4} {r : Nat} (h : r ∈ coachRanks c) : r < 16 := by
  obtain ⟨i, hi, rfl⟩ := List.mem_map.mp h
  have := List.mem_range.mp hi
  omega

theorem linkstat_domainDown (c : Fin 4) (s : State) : (domainDown c s).rd (CO_LINKSTAT c) = s.rd (CO_LINKSTAT c) := by
  have warns (u : State) : (forEach (coachRanks c) (fun r s => s.put (RK_FLTSTAT.WARN r) 0) u).rd (CO_LINKSTAT c) = u.rd (CO_LINKSTAT c) :=
    forEach_keeps (P := fun v => v.rd (CO_LINKSTAT c) = u.rd (CO_LINKSTAT c)) (fun r hr v hv => (State.rd_put_ne _ (by
      have := lt_of_mem_coachRanks hr
      simp only [CO_LINKSTAT, RK_FLTSTAT]
      omega)).trans hv) rfl
  rw [domainDown, (setAct_ok ..).1.rd_range (lo := 0x29000) (hi := 0x30000) rfl (linkstat_range c), warns, State.putBitOf,
    State.rd_put_ne _ (linkstat_ne c (by decide))]

/-- The cause of a coupling's loss stays as the domain goes off. -/
theorem losscause_linkDown (c : Fin 4) (s : State) :
    (linkDown c s).get (CO_LINKSTAT.LOSSCAUSE c) = s.get (CO_LINKSTAT.LOSSCAUSE c) := by
  have legs : (forEach (coachLegs c) (fun l s => s.put (LEG_TEST.OVR l) 0) s).rd (CO_LINKSTAT c) = s.rd (CO_LINKSTAT c) :=
    forEach_keeps (P := fun v => v.rd (CO_LINKSTAT c) = s.rd (CO_LINKSTAT c)) (fun l hl v hv => (State.rd_put_ne _ (by
      have := lt_of_mem_coachLegs hl
      simp only [CO_LINKSTAT, LEG_TEST]
      omega)).trans hv) rfl
  rw [linkDown, State.get_put_disj _ (by simp) (by simp), State.get_put_disj _ (by simp) (by simp)]
  exact congrArg (wordField · 7 4) legs

theorem losscause_coachLost (c : Fin 4) (s : State) :
    (coachLost c s).get (CO_LINKSTAT.LOSSCAUSE c) = s.get (CO_LINKSTAT.LOSSCAUSE c) := by
  rw [coachLost_eq]
  unfold State.get
  rw [(endExchanges_ok ..).1.rd_range (lo := 0x29000) (hi := 0x30000) rfl (linkstat_range c), linkstat_domainDown]
  exact losscause_linkDown c _

theorem powering_coachDown (c cause : Nat) (s : State) : ((coachDown c cause s).coach c).powering = false := powering_coachLost ..

theorem coachon_coachDown {c : Nat} (hc : c < 4) (cause : Nat) (s : State) :
    natBit ((coachDown c cause s).get GCTL_PWRSTAT.COACHON) c = false := coachon_coachLost hc _

theorem losscause_coachDown {c : Fin 4} {cause : Nat} (h : cause < 16) {s : State} (hp : (s.coach c).powering = true) :
    (coachDown c cause s).get (CO_LINKSTAT.LOSSCAUSE c) = cause := by
  unfold coachDown
  rw [losscause_coachLost, hp, Bool.true_or, if_pos rfl, State.get_put_self _ (by simp) (by simp)]
  exact Nat.mod_eq_of_lt h

/-- Of a coach that neither reads on nor powers up. -/
theorem coachLive_off {s : State} {c : Nat} (hp : (s.coach c).powering = false) (ho : natBit (s.get GCTL_PWRSTAT.COACHON) c = false) :
    s.coachLive c = false := by
  unfold State.coachLive State.coachOn
  rw [hp, ho, Bool.or_self]

/-! ### A power-down at once, and what ends a power-up -/

theorem coachLive_coachOffNow {c : Nat} (hc : c < 4) (s : State) : (coachOffNow c s).coachLive c = false := by
  refine coachLive_off (powering_coachDown c 4 _) ?_
  unfold coachOffNow State.putBitOf
  rw [State.get_put_ne _ (by decide), State.get_put_disj _ (by decide) (by decide)]
  exact coachon_coachDown hc 4 _

section
variable {s : State} {m : Master} {c : Fin 4}

theorem does_coachOffRequest_powering (h : s.mayGuard m GCTL_PWRDOM) (ho : othersKept s c) (hr : s.runState ≠ 2)
    (hb : natBit (s.getLatest GCTL_PWRDOM.COACH) c = true) (hoff : s.coachOn c = false) (hp : (s.coach c).powering = true)
    (hk : s.coachWork c = false) :
    Does (.coachOffRequest m c) s fun t => t.coachLive c = false ∧ t.reply m = .done := by
  have on : ¬ (s.asked m (s.coachWord c false false)).coachOn c = true := by
    rw [coachOn_asked, hoff]
    decide
  have e : guardedWrite m GCTL_PWRDOM (s.coachWord c false false) s
      = (coachOffNow c (s.asked m (s.coachWord c false false))).answer m .done := by
    rw [guardedWrite_coach h ho hr fun _ _ => hk, coachAsk_off hb (coachLive_of_powering hp), if_neg (by decide), coachOffReq, if_neg on]
  have off := coachLive_coachOffNow c.isLt (s.asked m (s.coachWord c false false))
  generalize coachOffNow c (s.asked m (s.coachWord c false false)) = u at *
  exact Does.of_eq rfl e ⟨off, State.reply_answer ..⟩

theorem does_coachOnComplete (hp : (s.coach c).powering = true) (hu : s.on (CO_LINKSTAT.UP c) = true) :
    Does (.coachOnComplete c) s fun t => (t.coach c).powering = false ∧ t.coachOn c = true := by
  have e : coachOnDone c s = (coachReload c (s.modCoach c fun k => { k with powering := false })).putBitOf GCTL_PWRSTAT.COACHON c true :=
    if_pos (by rw [hp, hu]; rfl)
  have kept := (coachReload_ok c (s.modCoach c fun k => { k with powering := false })).1.coach (by decide) c
  refine Does.of_eq rfl e ⟨?_, ?_⟩
  · exact (congrArg Coach.powering kept).trans (by rw [State.coach_modCoach])
  · unfold State.coachOn
    rw [natBit_putBitOf _ (by decide) (by show 4 + c.val ≤ 7; omega), if_pos rfl]

theorem does_coachOnTimeout (hp : (s.coach c).powering = true) (hu : s.on (CO_LINKSTAT.UP c) = false) :
    Does (.coachOnTimeout c) s fun t =>
      t.coachLive c = false ∧ natBit (t.get GCTL_PWRSTAT.ONFAIL) c = true ∧ natBit (t.get GCTL_PWRDOM.COACH) c = false
        ∧ t.get (CO_LINKSTAT.LOSSCAUSE c) = 3 := by
  have e : coachOnFail c s = ((coachDown c 3 s).putBitOf GCTL_PWRSTAT.ONFAIL c true).putBitOf GCTL_PWRDOM.COACH c false :=
    if_pos (by rw [hp, hu]; rfl)
  have powering := powering_coachDown c 3 s
  have coachon := coachon_coachDown c.isLt 3 s
  have cause := losscause_coachDown (cause := 3) (by decide) hp
  generalize coachDown c 3 s = u at *
  refine Does.of_eq rfl e ⟨coachLive_off powering ?_, ?_, ?_, ?_⟩
  · unfold State.putBitOf
    rwa [State.get_put_ne _ (by decide), State.get_put_disj _ (by decide) (by decide)]
  · rw [State.putBitOf, State.get_put_ne _ (by decide), natBit_putBitOf _ (by decide) (by show 12 + c.val ≤ 15; omega), if_pos rfl]
  · rw [natBit_putBitOf _ (by decide) (by show 4 + c.val ≤ 7; omega), if_pos rfl]
  · unfold State.putBitOf
    rwa [State.get_put_ne _ (linkstat_ne c (by decide)), State.get_put_ne _ (linkstat_ne c (by decide))]

end

/-! ### A coach asked for in NAP, R54 and log entry 59 -/

theorem napCoach_napAsk (old w : Word) (d i : Nat) (s : State) :
    natBit (napAsk old w d s).power.napCoach i
      = if i = d ∧ ¬ (w.getLsbD (4 + d) = true ∧ old.getLsbD (4 + d) = true) then w.getLsbD (4 + d) else natBit s.power.napCoach i := by
  unfold napAsk
  by_cases h : w.getLsbD (4 + d) = true ∧ old.getLsbD (4 + d) = true
  · rw [if_pos (by rw [h.1, h.2]; rfl), if_neg fun hc => hc.2 h]
  · rw [if_neg (by simpa using h)]
    refine (natBit_natPutBit ..).trans ?_
    simp [h]

theorem napAsk_ok (old w : Word) (d : Nat) (s : State) : Ok [.power] s (napAsk old w d s) :=
  Ok.ite .refl (State.modPower_ok ..)

theorem does_coachOnRequest_nap {s : State} {m : Master} {c : Fin 4} (h : s.mayGuard m GCTL_PWRDOM) (ho : othersKept s c)
    (hr : s.runState = 2) (hb : natBit (s.getLatest GCTL_PWRDOM.COACH) c = false) :
    Does (.coachOnRequest m c) s fun t =>
      natBit t.power.napCoach c = true ∧ natBit (t.get GCTL_PWRDOM.COACH) c = true ∧ t.reply m = .done
        ∧ Frame [.guards, .replies, .bad, .power, .reg .GCTL_PWRDOM] s t := by
  let w := s.coachWord c true false
  have hw : AsksFor w _ _ _ _ := coachWord_asks s c true false
  have kept : ∀ d : Nat, d < 4 → (if d = c.val then true else s.askedCoach d) = false → (false && decide (d = c.val)) = false → s.coachWork d = false := by
    intro d hd ha _
    by_cases hc : d = c
    · simp [hc] at ha
    · exact othersKept_coachWork ho hd hc (by simpa [hc] using ha)
  have run : (s.asked m w).runState = 2 := ((asked_ok s m w).1.get_of rfl).trans hr
  let t := forEach (List.range 4) (napAsk (s.latest GCTL_PWRDOM) w) (s.asked m w)
  have e : guardedWrite m GCTL_PWRDOM w s = t.answer m .done := by
    rw [guardedWrite_pwrdom h hw kept, powerWritten_eq, if_neg (by rw [hw.swrst]; decide), if_pos run]
  have asks := Ok.forEach (l := List.range 4) (fun d u => napAsk_ok (s.latest GCTL_PWRDOM) w d u) (Ok.refl (s := s.asked m w))
  have bit : natBit t.power.napCoach c = true := by
    refine forEach_reaches (P := fun _ => True) (Q := fun u => natBit u.power.napCoach c = true) (List.mem_range.mpr c.isLt)
      (fun _ _ _ _ _ => trivial) (fun u _ => ?_) (fun d hd u hu => ?_) trivial
    · rw [napCoach_napAsk, getLsbD_latest_coach, hb, if_pos ⟨rfl, by simp⟩, hw.coach c c.isLt, if_pos rfl]
    · rw [napCoach_napAsk]
      split
      · rename_i hi
        rw [← hi.1, hw.coach c c.isLt, if_pos rfl]
      · exact hu
  have dom : natBit (t.get GCTL_PWRDOM.COACH) c = true := by
    rw [asks.1.get_of rfl]
    exact (coach_asked hw c.isLt).trans (if_pos rfl)
  have frame := (Ok.via (State.answer_ok t m .done) rfl (Ok.via (W := [.guards, .replies, .bad, .power, .reg .GCTL_PWRDOM]) asks rfl
    ((asked_ok s m w).mono rfl))).1
  generalize t = u at *
  exact Does.of_eq rfl e ⟨bit, dom, State.reply_answer .., frame⟩

/-! ### The time-out of a forced power-down, R52 -/

/-- A slot that is not at standstill is ordered to halt. -/
def haltUnquiet (a : Nat) (s : State) : State := if s.quiet a then s else s.modMo a fun m => { m with orderH := true }

/-- A slot's standstill is a matter of its own words and of where its motion stands. -/
theorem quiet_congr {s t : State} {a : Nat}
    (hw : ∀ k hi lo, axisOffset k = true → t.get ⟨k + 0x200 * a, hi, lo⟩ = s.get ⟨k + 0x200 * a, hi, lo⟩)
    (hv : (t.mo a).v = (s.mo a).v) (he : (t.mo a).afterEnerg = (s.mo a).afterEnerg) : t.quiet a = s.quiet a := by
  have stat (hi lo : Nat) : t.get ⟨AX_STAT a, hi, lo⟩ = s.get ⟨AX_STAT a, hi, lo⟩ := hw 0x1004C hi lo rfl
  have sstat (hi lo : Nat) : t.get ⟨AX_SSTAT a, hi, lo⟩ = s.get ⟨AX_SSTAT a, hi, lo⟩ := hw 0x10124 hi lo rfl
  have fault (hi lo : Nat) : t.get ⟨AX_FLTSTAT a, hi, lo⟩ = s.get ⟨AX_FLTSTAT a, hi, lo⟩ := hw 0x101C4 hi lo rfl
  unfold State.quiet State.atStandstill State.inMotion State.enabled State.on
  simp only [stat, sstat, fault, hv, he]

theorem quiet_sameAxis {s t : State} {a : Nat} (h : SameAxis a s t) : t.quiet a = s.quiet a :=
  quiet_congr (fun _ _ _ hk => h.get hk) (congrArg Motion.v h.2) (congrArg Motion.afterEnerg h.2)

theorem axisOnly_haltUnquiet (b : Nat) (s : State) : AxisOnly b s (haltUnquiet b s) := by
  unfold haltUnquiet
  split
  · exact .refl
  · exact AxisOnly.refl.modMo

/-- The slot stands as it did in `s`, and is ordered to halt if it is not at standstill. -/
def haltOrdered (a : Nat) (s t : State) : Prop :=
  t.quiet a = s.quiet a ∧ (t.mo a).orderH = (!s.quiet a || (s.mo a).orderH)

theorem haltOrdered_haltUnquiet {a : Nat} {s u : State} (hq : u.quiet a = s.quiet a)
    (ho : (u.mo a).orderH = (s.mo a).orderH ∨ haltOrdered a s u) : haltOrdered a s (haltUnquiet a u) := by
  unfold haltUnquiet
  by_cases h : s.quiet a = true
  · rw [if_pos (hq.trans h)]
    refine ⟨hq, ?_⟩
    rw [h, Bool.not_true, Bool.false_or]
    rcases ho with ho | ho
    · exact ho
    · rw [ho.2, h, Bool.not_true, Bool.false_or]
  · rw [if_neg (by rwa [hq])]
    have moved : (u.modMo a fun m => { m with orderH := true }).mo a = { u.mo a with orderH := true } := State.mo_modMo ..
    have stands : (u.modMo a fun m => { m with orderH := true }).quiet a = u.quiet a :=
      quiet_congr (fun _ _ _ _ => rfl) ((congrArg Motion.v moved).trans rfl) ((congrArg Motion.afterEnerg moved).trans rfl)
    refine ⟨stands.trans hq, ?_⟩
    rw [moved, Bool.eq_false_of_not_eq_true h]
    rfl

theorem does_forcedOffTimeout {s : State} {c : Fin 4} (h : s.pendOff c = true) : Does (.forcedOffTimeout c) s fun t =>
    (∀ a : Fin 128, axisCoach a = c → (t.mo a).orderH = (!s.quiet a || (s.mo a).orderH)) ∧ Frame [.axes] s t := by
  have e : forcedTimeout c s = forEach (coachAxes c) haltUnquiet s := if_pos h
  refine Does.of_eq rfl e ⟨fun a hc => ?_, e ▸ (forcedTimeout_ok c.val s).1⟩
  have halts : haltOrdered a s (forEach (coachAxes c) haltUnquiet s) :=
    forEach_axes_reaches (mem_coachAxes hc) a.isLt axisOnly_haltUnquiet
      (fun u hu => haltOrdered_haltUnquiet (quiet_sameAxis hu) (.inl (congrArg Motion.orderH hu.2)))
      (fun u hu => haltOrdered_haltUnquiet hu.1 (.inr hu))
      (fun u v huv hu => ⟨(quiet_sameAxis huv).trans hu.1, (congrArg Motion.orderH huv.2).trans hu.2⟩)
  exact halts.2

/-! ### The front end, R53 -/

/-- The words of GCTL are the same. -/
def SameGctl (s t : State) : Prop := ∀ a < 0x10000, t.rd a = s.rd a

theorem SameGctl.refl (s : State) : SameGctl s s := fun _ _ => rfl

theorem SameGctl.trans {s t u : State} (h : SameGctl s t) (h' : SameGctl t u) : SameGctl s u := fun a ha => (h' a ha).trans (h a ha)

theorem SameGctl.of_frame {W : List Part} {s t : State} (h : Frame W s t) (hw : W.all (Part.outside 0 0x10000) = true) : SameGctl s t :=
  fun _ ha => h.rd_range hw ⟨Nat.zero_le _, ha⟩

theorem SameGctl.of_wr {s : State} {a : Nat} (w : Word) (ha : 0x10000 ≤ a) : SameGctl s (s.wr a w) :=
  fun _ hb => State.rd_wr_ne _ (by omega)

theorem SameGctl.forEach {α : Type} {l : List α} {f : α → State → State} (h : ∀ x ∈ l, ∀ u, SameGctl u (f x u)) (s : State) :
    SameGctl s (Machine.forEach l f s) := forEach_keeps (P := SameGctl s) (fun x hx u hu => hu.trans (h x hx u)) (.refl s)

theorem sameGctl_calLost (d g : Nat) (s : State) : SameGctl s (calLost d g s) := by
  refine .forEach (fun addr ha u => .trans (.of_frame (State.setStaged_ok ..).1 rfl) (.of_wr _ ?_)) s
  simp only [List.mem_cons, List.not_mem_nil, or_false, SD_CAL_OFS, SD_CAL_GAIN] at ha
  omega

theorem sameGctl_afeLost (s : State) : SameGctl s (afeLost s) := by
  unfold afeLost
  refine .trans ?_ (.of_frame (sharedLand_ok ..).1 rfl)
  refine .trans ?_ (.forEach (fun a ha u => .of_wr _ ?_) _)
  · refine .trans ?_ (.forEach (fun d _ u => .forEach (fun g _ v => sameGctl_calLost d g v) u) _)
    exact .trans (.forEach (fun d _ u => .of_frame (cutOn_ok ..).1 rfl) s) fun _ _ => rfl
  · have := (List.mem_filter.mp ha).2
    simp only [Bool.and_eq_true, decide_eq_true_eq] at this
    omega

theorem afeGoOff_off {s : State} : (afeGoOff s).afeOn = false := by
  unfold afeGoOff
  by_cases h : s.afeOn = true
  · rw [if_pos h]
    exact State.on_put_self _ (by decide) (by decide)
  · rw [if_neg h]
    simpa using h

section
variable {s : State} {m : Master} {b : Bool}

/-- A write that changes the AFE bit, outside NAP. -/
theorem guardedWrite_afe (h : s.mayGuard m GCTL_PWRDOM) (ho : othersKept s 4) (hr : s.runState ≠ 2) :
    guardedWrite m GCTL_PWRDOM (wordPut s.powerWord 0 0 (b2n b)) s
      = (afeAsk (s.latest GCTL_PWRDOM) (wordPut s.powerWord 0 0 (b2n b)) (s.asked m (wordPut s.powerWord 0 0 (b2n b)))).answer m
        .done := by
  have hw := afeWord_asks s b
  have kept : ∀ d < 4, s.askedCoach d = false → false = false → s.coachWork d = false :=
    fun d hd ha _ => othersKept_coachWork ho hd (by omega) ha
  have run : (s.asked m (wordPut s.powerWord 0 0 (b2n b))).runState = s.runState := (asked_ok ..).1.get_of rfl
  rw [guardedWrite_pwrdom h hw kept, powerWritten_eq, if_neg (by rw [hw.swrst]; decide), if_neg (by rwa [run]), forEach_idle]
  intro d hd u
  have hd := List.mem_range.mp hd
  exact coachAsk_same (hw.coach d hd) (hw.force d hd) u

theorem afeAsk_eq (ha : s.getLatest GCTL_PWRDOM.AFE = b2n (!b)) (u : State) :
    afeAsk (s.latest GCTL_PWRDOM) (wordPut s.powerWord 0 0 (b2n b)) u = if b then afeGoOn u else afeGoOff u := by
  have old : (s.latest GCTL_PWRDOM).getLsbD 0 = !b := by
    have := (askedAfe_eq s).symm.trans ha
    unfold State.askedAfe at this
    revert this
    cases (s.latest GCTL_PWRDOM).getLsbD 0 <;> cases b <;> simp [b2n]
  unfold afeAsk
  rw [(afeWord_asks s b).afe, old]
  cases b <;> rfl

theorem does_afeOff (h : s.mayGuard m GCTL_PWRDOM) (ho : othersKept s 4) (hr : s.runState ≠ 2)
    (ha : s.getLatest GCTL_PWRDOM.AFE = 1) (hon : s.afeOn = true) :
    Does (.afeOff m) s fun t => t.afeOn = false ∧ t.get GCTL_PWRDOM.AFE = 0 ∧ t.reply m = .done
      ∧ Frame [.guards, .replies, .bad, .regs, .staged, .free, .sds, .afe] s t := by
  let u := s.asked m (wordPut s.powerWord 0 0 (b2n false))
  have e : guardedWrite m GCTL_PWRDOM (wordPut s.powerWord 0 0 (b2n false)) s = (afeGoOff u).answer m .done := by
    rw [guardedWrite_afe h ho hr, afeAsk_eq (b := false) ha, if_neg (by decide)]
  have on : u.afeOn = true := ((asked_ok s m _).1.on_of rfl).trans hon
  have off : (afeGoOff u).afeOn = false := afeGoOff_off
  have dom : (afeGoOff u).get GCTL_PWRDOM.AFE = 0 := by
    unfold afeGoOff
    rw [if_pos on, State.get_put_ne _ (by decide)]
    exact (congrArg (wordField · 0 0) (sameGctl_afeLost u GCTL_PWRDOM (by decide))).trans (afe_asked (afeWord_asks s false))
  have frame := (Ok.via (State.answer_ok _ m .done) rfl (Ok.via (W := [.guards, .replies, .bad, .regs, .staged, .free, .sds, .afe])
    (afeGoOff_ok u) rfl ((asked_ok s m _).mono rfl))).1
  generalize afeGoOff u = v at *
  exact Does.of_eq rfl e ⟨off, dom, State.reply_answer .., frame⟩

theorem does_afeOn (h : s.mayGuard m GCTL_PWRDOM) (ho : othersKept s 4) (hr : s.runState ≠ 2)
    (ha : s.getLatest GCTL_PWRDOM.AFE = 0) :
    Does (.afeOn m) s fun t => t.get GCTL_PWRSTAT.AFEON = 1 ∧ t.get GCTL_PWRDOM.AFE = 1 ∧ t.reply m = .done
      ∧ Frame [.guards, .replies, .bad, .reg .GCTL_PWRDOM, .reg .GCTL_PWRSTAT] s t := by
  let u := s.asked m (wordPut s.powerWord 0 0 (b2n true))
  have e : guardedWrite m GCTL_PWRDOM (wordPut s.powerWord 0 0 (b2n true)) s = (afeGoOn u).answer m .done := by
    rw [guardedWrite_afe h ho hr, afeAsk_eq (b := true) ha, if_pos rfl]
  have on : (afeGoOn u).get GCTL_PWRSTAT.AFEON = 1 := State.get_put_self _ (by decide) (by decide)
  have dom : (afeGoOn u).get GCTL_PWRDOM.AFE = 1 := ((afeGoOn_ok u).1.get_of rfl).trans (afe_asked (afeWord_asks s true))
  exact Does.of_eq rfl e ⟨on, dom, State.reply_answer .., (Ok.via (State.answer_ok _ m .done) rfl
    (Ok.via (afeGoOn_ok u) rfl ((asked_ok s m _).mono rfl))).1⟩

end

/-- Settles O5: a request is a guarded write that changes one domain's bit (`guardedWrite_coach`, `guardedWrite_afe`); what follows is
the power-up, the power-down or the order that it asks for. -/
theorem domainsComplete : Obligations.DomainsComplete := by
  unfold Obligations.DomainsComplete
  intro s m c
  exact ⟨fun h ho hr => ⟨does_coachOnRequest h ho hr,
      fun hb hon => ⟨does_coachOffRequest h ho hr hb hon, does_coachForcedOff h ho hr hb hon⟩,
      fun hb hoff hp hk => does_coachOffRequest_powering h ho hr hb hoff hp hk⟩,
    does_coachOnRequest_nap, fun hp => ⟨does_coachOnComplete hp, does_coachOnTimeout hp⟩, does_forcedOffTimeout,
    fun h ho hr => ⟨does_afeOff h ho hr, does_afeOn h ho hr⟩⟩

end Sys2Proof.Machine

/-!
# O6: entering and leaving DOZE, NAP and HIBERNATE

The clause of NAP_WAKE asks of TRIO_STAT.STATE what R293 gives: the state the trio left. It does so on every state, also on one that
holds for the wake (R308) an event whose number is past the event sources. The events pend after the trio has its state back
(`pendHeld` after `wakeTrio`), and a number past the sources names a bit of a word beyond EV_PEND.
-/
namespace Sys2Proof.Machine

/-- The number past the event sources for which `pend` writes `EV_PEND (n / 32) = TRIO_STAT`, bit `n % 32 = 0`. -/
def strayEvent : Nat := 8 * (TRIO_STAT - EV_PEND 0)

/-- The reset device in NAP, with this event held for the wake. -/
def strayNap : State := { State.reset.put GCTL_RUNSTAT.STATE 2 with power := { napPend := [(strayEvent, 0, 0)] } }

/-- The state meets what the clause of NAP_WAKE asks, and its trio left state 0. -/
theorem strayNap_naps : strayNap.power.entering = 0 ∧ strayNap.runState = 2 ∧ strayNap.power.inReset = false
    ∧ strayNap.wakesFrom 2 .host = true ∧ strayNap.trio.saveChk = .agreed ∧ strayNap.trioState = 0 ∧ strayNap.trio.asleep = 0 := by
  decide +kernel

/-- The event that pends at the wake has set bit 0 of the state that the trio took back. -/
theorem trioState_napEnd_strayNap : (napEnd 7 .agreed strayNap).get TRIO_STAT.STATE = 1 := by decide +kernel

/-- Refutes O6, by its clause of NAP_WAKE: from `strayNap` the trio comes up in state 1, and it left state 0. No command of the model
holds an event past the sources in `napPend`, but the clause is about every state and has no premise that excludes one. -/
theorem not_runStatesComplete : ¬ Obligations.RunStatesComplete := by
  unfold Obligations.RunStatesComplete
  intro h
  obtain ⟨entering, naps, notReset, wakes, agreed, left, asleep⟩ := strayNap_naps
  obtain ⟨-, -, -, napWake⟩ := h strayNap .host entering
  obtain ⟨t, run, -, -, -, -, state, -⟩ := napWake .host naps notReset wakes agreed
  have woken : exec (.napWake .host .agreed) strayNap = .next (napEnd 7 .agreed strayNap) :=
    congrArg Host.Outcome.next (if_pos (by simp only [naps, notReset, wakes, decide_true, Bool.not_false, Bool.and_self]))
  obtain rfl : napEnd 7 .agreed strayNap = t := Host.Outcome.next.inj (woken.symm.trans run)
  rw [trioState_napEnd_strayNap, left, asleep] at state
  exact absurd state (by decide)

end Sys2Proof.Machine

/-!
# O52: every step keeps a good state good
-/
namespace Sys2Proof.Machine


/-- Every command changes some parts of the state alone and keeps a good state good: the law of its own meaning. -/
theorem exec_ok (c : Instr) (s : State) : ∃ W, OkO W s (exec c s) := by
  cases c with
  | coachPeriodStart => exact ⟨_, execCoachPeriodStart_ok _ _ _⟩
  | cmdFrame => exact ⟨_, execCmdFrame_ok _ _ _ _ _⟩
  | cfgFrame => exact ⟨_, execCfgFrame_ok _ _ _⟩
  | cfgrFrame => exact ⟨_, execCfgrFrame_ok _ _ _⟩
  | cfgResend => exact ⟨_, execCfgResend_ok _ _⟩
  | ctlSafeSelect => exact ⟨_, execCtlSafeSelect_ok _ _ _⟩
  | ctlKill => exact ⟨_, execCtlKill_ok _ _ _⟩
  | ctlRelease => exact ⟨_, execCtlRelease_ok _ _ _⟩
  | statFrame => exact ⟨_, execStatFrame_ok _ _ _ _⟩
  | snsFrame => exact ⟨_, execSnsFrame_ok _ _ _ _⟩
  | coachWatchdogExpiry => exact ⟨_, execCoachWatchdogExpiry_ok _ _⟩
  | hubWatchdogExpiry => exact ⟨_, execHubWatchdogExpiry_ok _ _⟩
  | coachSilenceEnd => exact ⟨_, execCoachSilenceEnd_ok _ _⟩
  | trainingAttempt => exact ⟨_, execTrainingAttempt_ok _ _⟩
  | trainingComplete => exact ⟨_, execTrainingComplete_ok _ _⟩
  | coachOnRequest => exact ⟨_, execCoachOnRequest_ok _ _ _⟩
  | coachOnComplete => exact ⟨_, execCoachOnComplete_ok _ _⟩
  | coachOnTimeout => exact ⟨_, execCoachOnTimeout_ok _ _⟩
  | coachOffRequest => exact ⟨_, execCoachOffRequest_ok _ _ _⟩
  | coachForcedOff => exact ⟨_, execCoachForcedOff_ok _ _ _⟩
  | forcedOffTimeout => exact ⟨_, execForcedOffTimeout_ok _ _⟩
  | afeOff => exact ⟨_, execAfeOff_ok _ _⟩
  | afeOn => exact ⟨_, execAfeOn_ok _ _⟩
  | softwareReset => exact ⟨_, execSoftwareReset_ok _ _⟩
  | reqRun => exact ⟨_, execReqRun_ok _ _⟩
  | reqDoze => exact ⟨_, execReqDoze_ok _ _⟩
  | reqNap => exact ⟨_, execReqNap_ok _ _⟩
  | reqHibernate => exact ⟨_, execReqHibernate_ok _ _⟩
  | autodozeEntry => exact ⟨_, execAutodozeEntry_ok _⟩
  | dozeWake => exact ⟨_, execDozeWake_ok _ _⟩
  | napWake => exact ⟨_, execNapWake_ok _ _ _⟩
  | hibernateWake => exact ⟨_, execHibernateWake_ok _ _⟩
  | clockFailure => exact ⟨_, execClockFailure_ok _ _⟩
  | oscillatorRestart => exact ⟨_, execOscillatorRestart_ok _⟩
  | clockRecovery => exact ⟨_, execClockRecovery_ok _⟩
  | crystalChangeover => exact ⟨_, execCrystalChangeover_ok _⟩
  | crystalStop => exact ⟨_, execCrystalStop_ok _⟩
  | rtcWriteCommit => exact ⟨_, execRtcWriteCommit_ok _⟩
  | rtcAlarm => exact ⟨_, execRtcAlarm_ok _⟩
  | powerOnReset => exact ⟨_, execPowerOnReset_ok _⟩
  | resetPin => exact ⟨_, execResetPin_ok _⟩
  | pwrgoodLow => exact ⟨_, execPwrgoodLow_ok _⟩
  | brownOut => exact ⟨_, execBrownOut_ok _⟩
  | resetSequenceStart => exact ⟨_, execResetSequenceStart_ok _ _ _⟩
  | resetSequenceEnd => exact ⟨_, execResetSequenceEnd_ok _⟩
  | bootUp => exact ⟨_, execBootUp_ok _⟩
  | registerWrite => exact ⟨_, execRegisterWrite_ok _ _ _ _ _⟩
  | guardTimeout => exact ⟨_, execGuardTimeout_ok _ _⟩
  | pairLoRead => exact ⟨_, execPairLoRead_ok _ _ _⟩
  | pairLoWrite => exact ⟨_, execPairLoWrite_ok _ _ _ _⟩
  | pairHiWrite => exact ⟨_, execPairHiWrite_ok _ _ _ _⟩
  | bufholdTimeout => exact ⟨_, execBufholdTimeout_ok _ _⟩
  | storeSettings => exact ⟨_, execStoreSettings_ok _ _⟩
  | storeWaveTables => exact ⟨_, execStoreWaveTables_ok _ _⟩
  | storeBoth => exact ⟨_, execStoreBoth_ok _ _⟩
  | eraseStoredSettings => exact ⟨_, execEraseStoredSettings_ok _ _⟩
  | storeComplete => exact ⟨_, execStoreComplete_ok _ _⟩
  | parityScrub => exact ⟨_, execParityScrub_ok _ _⟩
  | rankPeriodStart => exact ⟨_, execRankPeriodStart_ok _ _ _⟩
  | interlockTimeout => exact ⟨_, execInterlockTimeout_ok _ _⟩
  | rkModeWrite => exact ⟨_, execRkModeWrite_ok _ _ _ _⟩
  | legTestWrite => exact ⟨_, execLegTestWrite_ok _ _ _ _⟩
  | overcurrentTrip => exact ⟨_, execOvercurrentTrip_ok _ _ _ _ _ _ _ _⟩
  | tripCheck => exact ⟨_, execTripCheck_ok _⟩
  | periodCheck => exact ⟨_, execPeriodCheck_ok _ _ _⟩
  | faultWaitExpiry => exact ⟨_, execFaultWaitExpiry_ok _ _⟩
  | retryTestPass => exact ⟨_, execRetryTestPass_ok _ _⟩
  | retryWindowExpiry => exact ⟨_, execRetryWindowExpiry_ok _ _⟩
  | axisFaultLatch => exact ⟨_, execAxisFaultLatch_ok _ _ _⟩
  | axisFaultClear => exact ⟨_, execAxisFaultClear_ok _ _ _⟩
  | rankFaultClear => exact ⟨_, execRankFaultClear_ok _ _ _⟩
  | coachFaultClear => exact ⟨_, execCoachFaultClear_ok _ _ _⟩
  | vmFaultClear => exact ⟨_, execVmFaultClear_ok _ _ _⟩
  | chargePumpUndervoltage => exact ⟨_, execChargePumpUndervoltage_ok _ _⟩
  | gateRegUndervoltage => exact ⟨_, execGateRegUndervoltage_ok _ _⟩
  | tempSensorFailure => exact ⟨_, execTempSensorFailure_ok _ _⟩
  | vmUndervoltageFault => exact ⟨_, execVmUndervoltageFault_ok _ _ _⟩
  | vmUndervoltageWarning => exact ⟨_, execVmUndervoltageWarning_ok _ _ _⟩
  | vmOvervoltageFault => exact ⟨_, execVmOvervoltageFault_ok _ _⟩
  | vmOvervoltageWarning => exact ⟨_, execVmOvervoltageWarning_ok _ _⟩
  | vmRelease => exact ⟨_, execVmRelease_ok _ _ _⟩
  | vmBelow6v => exact ⟨_, execVmBelow6v_ok _ _⟩
  | blankingEnd => exact ⟨_, execBlankingEnd_ok _ _ _⟩
  | comparatorTrip => exact ⟨_, execComparatorTrip_ok _ _ _ _ _ _ _⟩
  | mixedDecaySwitch => exact ⟨_, execMixedDecaySwitch_ok _ _ _⟩
  | fastDecayZeroGuard => exact ⟨_, execFastDecayZeroGuard_ok _ _ _⟩
  | decayTrimWindow => exact ⟨_, execDecayTrimWindow_ok _ _⟩
  | standstillDelayExpiry => exact ⟨_, execStandstillDelayExpiry_ok _ _⟩
  | energiseExpiry => exact ⟨_, execEnergiseExpiry_ok _ _⟩
  | profileTick => exact ⟨_, execProfileTick_ok _ _⟩
  | axisEnable => exact ⟨_, execAxisEnable_ok _ _ _⟩
  | axisDisable => exact ⟨_, execAxisDisable_ok _ _ _⟩
  | start => exact ⟨_, execStart_ok _ _ _⟩
  | axstartWrite => exact ⟨_, execAxstartWrite_ok _ _ _ _⟩
  | stop => exact ⟨_, execStop_ok _ _ _⟩
  | qstop => exact ⟨_, execQstop_ok _ _ _⟩
  | halt => exact ⟨_, execHalt_ok _ _ _⟩
  | release => exact ⟨_, execRelease_ok _ _ _⟩
  | cont => exact ⟨_, execCont_ok _ _ _⟩
  | clrpml => exact ⟨_, execClrpml_ok _ _ _⟩
  | syncInEdge => exact ⟨_, execSyncInEdge_ok _ _⟩
  | axPosWrite => exact ⟨_, execAxPosWrite_ok _ _ _ _ _⟩
  | waveLoadOpen => exact ⟨_, execWaveLoadOpen_ok _ _ _⟩
  | waveLoadClose => exact ⟨_, execWaveLoadClose_ok _ _ _⟩
  | waveEntryWrite => exact ⟨_, execWaveEntryWrite_ok _ _ _ _ _⟩
  | waveSelectWrite => exact ⟨_, execWaveSelectWrite_ok _ _ _ _⟩
  | waveEccError => exact ⟨_, execWaveEccError_ok _ _ _ _⟩
  | bemfWindowZero => exact ⟨_, execBemfWindowZero_ok _ _ _ _⟩
  | bemfSarRequest => exact ⟨_, execBemfSarRequest_ok _ _ _⟩
  | bemfConversionEnd => exact ⟨_, execBemfConversionEnd_ok _ _ _ _⟩
  | bemfWindowAbandon => exact ⟨_, execBemfWindowAbandon_ok _ _ _⟩
  | loadAngleEvaluation => exact ⟨_, execLoadAngleEvaluation_ok _ _⟩
  | homingSettleExpiry => exact ⟨_, execHomingSettleExpiry_ok _ _⟩
  | clre => exact ⟨_, execClre_ok _ _ _⟩
  | clrs => exact ⟨_, execClrs_ok _ _ _⟩
  | clrh => exact ⟨_, execClrh_ok _ _ _⟩
  | witalign => exact ⟨_, execWitalign_ok _ _ _⟩
  | learn => exact ⟨_, execLearn_ok _ _ _⟩
  | load => exact ⟨_, execLoad_ok _ _ _⟩
  | save => exact ⟨_, execSave_ok _ _ _⟩
  | erase => exact ⟨_, execErase_ok _ _ _⟩
  | loadx => exact ⟨_, execLoadx_ok _ _⟩
  | plan => exact ⟨_, execPlan_ok _ _⟩
  | run => exact ⟨_, execRun_ok _ _⟩
  | abort => exact ⟨_, execAbort_ok _ _ _⟩
  | clear => exact ⟨_, execClear_ok _ _⟩
  | planComplete => exact ⟨_, execPlanComplete_ok _⟩
  | plCommandEnd => exact ⟨_, execPlCommandEnd_ok _ _ _⟩
  | planStart => exact ⟨_, execPlanStart_ok _⟩
  | admissionBlocked => exact ⟨_, execAdmissionBlocked_ok _ _⟩
  | recipeBufferWrite => exact ⟨_, execRecipeBufferWrite_ok _ _ _ _⟩
  | plOrdWrite => exact ⟨_, execPlOrdWrite_ok _ _ _ _⟩
  | stepEdge => exact ⟨_, execStepEdge_ok _ _ _ _ _⟩
  | quadratureTransition => exact ⟨_, execQuadratureTransition_ok _ _ _ _ _⟩
  | encoderErrorWindow => exact ⟨_, execEncoderErrorWindow_ok _ _⟩
  | indexEdge => exact ⟨_, execIndexEdge_ok _ _⟩
  | speedTimeout => exact ⟨_, execSpeedTimeout_ok _ _⟩
  | countWindowEnd => exact ⟨_, execCountWindowEnd_ok _⟩
  | comparePulseEnd => exact ⟨_, execComparePulseEnd_ok _ _⟩
  | compareArm => exact ⟨_, execCompareArm_ok _ _ _ _⟩
  | cmpPosWrite => exact ⟨_, execCmpPosWrite_ok _ _ _ _⟩
  | encCntWrite => exact ⟨_, execEncCntWrite_ok _ _ _ _⟩
  | stepCntWrite => exact ⟨_, execStepCntWrite_ok _ _ _ _⟩
  | conversionStart => exact ⟨_, execConversionStart_ok _ _ _⟩
  | settleEnd => exact ⟨_, execSettleEnd_ok _ _⟩
  | breakCheck => exact ⟨_, execBreakCheck_ok _ _ _⟩
  | conversionEnd => exact ⟨_, execConversionEnd_ok _ _ _ _⟩
  | leadConversionEnd => exact ⟨_, execLeadConversionEnd_ok _ _ _ _⟩
  | resultLand => exact ⟨_, execResultLand_ok _ _⟩
  | dutyWindowStart => exact ⟨_, execDutyWindowStart_ok _⟩
  | afeSharedWrite => exact ⟨_, execAfeSharedWrite_ok _ _ _ _⟩
  | sdStart => exact ⟨_, execSdStart_ok _ _ _⟩
  | sdStop => exact ⟨_, execSdStop_ok _ _ _⟩
  | sdInj => exact ⟨_, execSdInj_ok _ _ _⟩
  | sdSimul => exact ⟨_, execSdSimul_ok _ _ _ _⟩
  | sdCal => exact ⟨_, execSdCal_ok _ _ _ _⟩
  | sdClrcnt => exact ⟨_, execSdClrcnt_ok _ _ _⟩
  | sdDisable => exact ⟨_, execSdDisable_ok _ _ _ _⟩
  | sdTimerPulse => exact ⟨_, execSdTimerPulse_ok _ _⟩
  | trigInEdge => exact ⟨_, execTrigInEdge_ok _ _⟩
  | calPhaseEnd => exact ⟨_, execCalPhaseEnd_ok _ _ _⟩
  | sdResultRead => exact ⟨_, execSdResultRead_ok _ _ _ _⟩
  | linearise => exact ⟨_, execLinearise_ok _ _⟩
  | sdLindataAccess => exact ⟨_, execSdLindataAccess_ok _ _ _ _⟩
  | signatureWindowEnd => exact ⟨_, execSignatureWindowEnd_ok _ _ _ _ _ _ _⟩
  | quietStateScrub => exact ⟨_, execQuietStateScrub_ok _ _ _ _⟩
  | comparatorSelfTest => exact ⟨_, execComparatorSelfTest_ok _ _ _⟩
  | delayParityError => exact ⟨_, execDelayParityError_ok _ _⟩
  | cacheParityError => exact ⟨_, execCacheParityError_ok _ _⟩
  | sramDoubleBitError => exact ⟨_, execSramDoubleBitError_ok _⟩
  | sramScrub => exact ⟨_, execSramScrub_ok _ _⟩
  | resyncHoldDone => exact ⟨_, execResyncHoldDone_ok _⟩
  | resyncBoundary => exact ⟨_, execResyncBoundary_ok _⟩
  | resyncComplete => exact ⟨_, execResyncComplete_ok _⟩
  | resyncTimeout => exact ⟨_, execResyncTimeout_ok _⟩
  | debugHalt => exact ⟨_, execDebugHalt_ok _⟩
  | debugResume => exact ⟨_, execDebugResume_ok _ _ _ _ _⟩
  | debugRegisterWrite => exact ⟨_, execDebugRegisterWrite_ok _ _ _⟩
  | debugMemoryWrite => exact ⟨_, execDebugMemoryWrite_ok _ _ _⟩
  | evPendClear => exact ⟨_, execEvPendClear_ok _ _ _ _⟩
  | evEnWrite => exact ⟨_, execEvEnWrite_ok _ _ _ _⟩
  | doorbell => exact ⟨_, execDoorbell_ok _ _⟩
  | trioEventDelivery => exact ⟨_, execTrioEventDelivery_ok _⟩
  | emcyQueue => exact ⟨_, execEmcyQueue_ok _⟩
  | logEntry => exact ⟨_, execLogEntry_ok _⟩
  | logRepeatRewrite => exact ⟨_, execLogRepeatRewrite_ok _ _⟩
  | haltNLow => exact ⟨_, execHaltNLow_ok _⟩
  | haltNHigh => exact ⟨_, execHaltNHigh_ok _⟩
  | nmtStart => exact ⟨_, execNmtStart_ok _ _ _⟩
  | nmtStop => exact ⟨_, execNmtStop_ok _ _ _⟩
  | nmtPreOperational => exact ⟨_, execNmtPreOperational_ok _ _ _⟩
  | nmtResetNode => exact ⟨_, execNmtResetNode_ok _ _ _⟩
  | nmtResetDeferred => exact ⟨_, execNmtResetDeferred_ok _⟩
  | nmtResetCommunication => exact ⟨_, execNmtResetCommunication_ok _ _ _⟩
  | heartbeatProduce => exact ⟨_, execHeartbeatProduce_ok _⟩
  | heartbeatReceived => exact ⟨_, execHeartbeatReceived_ok _ _ _⟩
  | heartbeatLoss => exact ⟨_, execHeartbeatLoss_ok _ _⟩
  | emcySend => exact ⟨_, execEmcySend_ok _ _⟩
  | canSync => exact ⟨_, execCanSync_ok _ _ _ _⟩
  | canTime => exact ⟨_, execCanTime_ok _ _ _⟩
  | rpdo => exact ⟨_, execRpdo_ok _ _ _ _⟩
  | rpdoDeadline => exact ⟨_, execRpdoDeadline_ok _ _⟩
  | tpdoSend => exact ⟨_, execTpdoSend_ok _ _⟩
  | tpdoTimer => exact ⟨_, execTpdoTimer_ok _ _⟩
  | usdoRequest => exact ⟨_, execUsdoRequest_ok _ _ _ _ _⟩
  | usdoTimeout => exact ⟨_, execUsdoTimeout_ok _ _ _ _⟩
  | malformedFrame => exact ⟨_, execMalformedFrame_ok _ _ _⟩
  | quarantineEnd => exact ⟨_, execQuarantineEnd_ok _ _⟩
  | contextIdleTimeout => exact ⟨_, execContextIdleTimeout_ok _ _ _ _⟩
  | rxDiscard => exact ⟨_, execRxDiscard_ok _ _⟩
  | busOff => exact ⟨_, execBusOff_ok _ _⟩
  | busOffRecovery => exact ⟨_, execBusOffRecovery_ok _ _⟩
  | errorPassive => exact ⟨_, execErrorPassive_ok _ _⟩
  | controllerEnable => exact ⟨_, execControllerEnable_ok _ _ _⟩
  | controllerDisable => exact ⟨_, execControllerDisable_ok _ _ _⟩
  | controllerOff => exact ⟨_, execControllerOff_ok _ _⟩
  | storeObjectWrite => exact ⟨_, execStoreObjectWrite_ok _ _ _ _ _⟩
  | restoreObjectWrite => exact ⟨_, execRestoreObjectWrite_ok _ _ _ _ _⟩
  | hostFrameStart => exact ⟨_, execHostFrameStart_ok _ _ _⟩
  | hostRead => exact ⟨_, execHostRead_ok _⟩
  | hostReadFixed => exact ⟨_, execHostReadFixed_ok _⟩
  | hostWrite => exact ⟨_, execHostWrite_ok _ _ _⟩
  | hostWriteFixed => exact ⟨_, execHostWriteFixed_ok _ _ _⟩
  | hostStatus => exact ⟨_, execHostStatus_ok _⟩
  | hostBusyLimit => exact ⟨_, execHostBusyLimit_ok _⟩
  | hostFrameEnd => exact ⟨_, execHostFrameEnd_ok _ _⟩
  | xipRead => exact ⟨_, execXipRead_ok _ _ _⟩
  | lineFetchComplete => exact ⟨_, execLineFetchComplete_ok _ _⟩
  | spmGo => exact ⟨_, execSpmGo_ok _ _ _⟩
  | spmStatusPoll => exact ⟨_, execSpmStatusPoll_ok _ _⟩
  | spmTransactionEnd => exact ⟨_, execSpmTransactionEnd_ok _ _ _⟩
  | spmWaitTimeout => exact ⟨_, execSpmWaitTimeout_ok _⟩
  | probe => exact ⟨_, execProbe_ok _ _⟩
  | spmInv => exact ⟨_, execSpmInv_ok _ _⟩
  | flush => exact ⟨_, execFlush_ok _ _⟩
  | txfifoPush => exact ⟨_, execTxfifoPush_ok _ _ _⟩
  | rxfifoPop => exact ⟨_, execRxfifoPop_ok _ _⟩
  | monitorSample => exact ⟨_, execMonitorSample_ok _ _ _ _ _⟩
  | watchdogService => exact ⟨_, execWatchdogService_ok _⟩
  | watchdogExpiry => exact ⟨_, execWatchdogExpiry_ok _⟩
  | mgsDeferredReset => exact ⟨_, execMgsDeferredReset_ok _⟩
  | logDataRead => exact ⟨_, execLogDataRead_ok _ _⟩
  | logPointerWrite => exact ⟨_, execLogPointerWrite_ok _ _ _⟩
  | updBegin => exact ⟨_, execUpdBegin_ok _ _⟩
  | updEnd => exact ⟨_, execUpdEnd_ok _ _⟩
  | activate => exact ⟨_, execActivate_ok _ _⟩
  | cancel => exact ⟨_, execCancel_ok _ _⟩
  | confirm => exact ⟨_, execConfirm_ok _ _⟩
  | activateReset => exact ⟨_, execActivateReset_ok _ _⟩
  | updateDataWrite => exact ⟨_, execUpdateDataWrite_ok _ _ _⟩
  | updateCommandEnd => exact ⟨_, execUpdateCommandEnd_ok _⟩
  | logout => exact ⟨_, execLogout_ok _ _⟩
  | setkey => exact ⟨_, execSetkey_ok _ _⟩
  | genid => exact ⟨_, execGenid_ok _ _⟩
  | readpub => exact ⟨_, execReadpub_ok _ _⟩
  | readcert => exact ⟨_, execReadcert_ok _ _ _⟩
  | attest => exact ⟨_, execAttest_ok _ _⟩
  | unlock => exact ⟨_, execUnlock_ok _ _⟩
  | clralarm => exact ⟨_, execClralarm_ok _ _⟩
  | securityCommandEnd => exact ⟨_, execSecurityCommandEnd_ok _⟩
  | challengeIssue => exact ⟨_, execChallengeIssue_ok _ _⟩
  | responseCheck => exact ⟨_, execResponseCheck_ok _ _ _⟩
  | challengeExpiry => exact ⟨_, execChallengeExpiry_ok _ _⟩
  | hostSessionTimeout => exact ⟨_, execHostSessionTimeout_ok _⟩
  | debugSessionEnd => exact ⟨_, execDebugSessionEnd_ok _⟩
  | tamper => exact ⟨_, execTamper_ok _⟩
  | voltageGlitch => exact ⟨_, execVoltageGlitch_ok _ _⟩
  | clockGlitch => exact ⟨_, execClockGlitch_ok _ _⟩
  | unauthenticatedDebug => exact ⟨_, execUnauthenticatedDebug_ok _⟩
  | keyIntegrityCheck => exact ⟨_, execKeyIntegrityCheck_ok _ _⟩
  | keyEraseComplete => exact ⟨_, execKeyEraseComplete_ok _⟩
  | deadTimeEnd => exact ⟨_, execDeadTimeEnd_ok _ _⟩
  | overrideOntimeEnd => exact ⟨_, execOverrideOntimeEnd_ok _ _⟩
  | syncOutPulseEnd => exact ⟨_, execSyncOutPulseEnd_ok _⟩
  | errorActive => exact ⟨_, execErrorActive_ok _ _⟩
  | busIntegration => exact ⟨_, execBusIntegration_ok _ _⟩
  | comparatorFault => exact ⟨_, execComparatorFault_ok _⟩
  | voterDisagreement => exact ⟨_, execVoterDisagreement_ok _⟩

/-- A command that answers a next state keeps a good state good. -/
theorem good_exec {c : Instr} {s t : State} (g : Good s) (h : exec c s = .next t) : Good t := by
  obtain ⟨W, ok⟩ := exec_ok c s
  exact (ok t h).2 g

/-- Settles O52: on an empty queue nothing happens; else the front command, on a state that differs in its queue alone, keeps
every part good. -/
theorem goodKept : Obligations.GoodKept := by
  unfold Obligations.GoodKept
  intro s t g h
  unfold step at h
  split at h
  · cases h
    exact g
  · rename_i c cs hp
    exact good_exec (Ok.pending.2 g) h

end Sys2Proof.Machine

/-!
# O56, O2 and O1: a voter that blocks, a shared word that waits, and a stray staged value
-/
namespace Sys2Proof.Machine

/-- A request of the trio that is held does not pass the voter: nothing of it reaches the interconnect, R292. -/
theorem busWrite_blocked {s : State} {m : Master} (h : s.voterBlocks m = true) (size : AccessSize) (addr : Nat) (w : Word) :
    busWrite m size addr w s = s := if_pos h

/-- The reset device with its trio in the safe state, where the voter blocks the trio's requests. -/
def heldTrio : State := State.reset.put TRIO_STAT.STATE 4

/-- The voter blocks a byte write of the held trio, and no answer comes. -/
theorem heldTrio_blocks : heldTrio.voterBlocks .trio = true ∧ heldTrio.reply .trio = .none := by decide +kernel

/-- Refutes O56, by the write of its first clause: a byte write of the trio at address 0 is none of R70, but in the safe state of the
trio the output voter blocks it (R292), so that it meets no check and no ALIGN is answered. -/
theorem not_alignmentChecked : ¬ Obligations.AlignmentChecked := by
  unfold Obligations.AlignmentChecked
  intro h
  obtain ⟨blocked, silent⟩ := heldTrio_blocks
  obtain ⟨outside, -⟩ := h heldTrio .trio .byte 0
  obtain ⟨-, -, writes⟩ := outside (by decide) (.inl (by decide))
  obtain ⟨t, run, reply, -⟩ := writes 0
  obtain rfl : heldTrio = t := (busWrite_blocked blocked ..).symm.trans (Host.Outcome.next.inj run)
  exact absurd (silent.symm.trans reply) (by decide)

/-- The device after the host has held the CONV class and then written AFE_IEXC. -/
def heldShared : State := regWrite .host AFE_IEXC 1 (regWrite .host GCTL_BUFHOLD 0x80008 State.reset)

/-- CONV is held, and the write of AFE_IEXC waits. -/
theorem heldShared_waits : natBit (heldShared.get GCTL_BUFHOLD.HOLD) 3 = true ∧ heldShared.rd AFE_IEXC = 0
    ∧ heldShared.waits AFE_IEXC = true := by decide +kernel

/-- The device after the time-out of the hold. -/
def releasedShared : State :=
  sharedLand ((heldShared.putBitOf GCTL_BUFHOLD.HOLD 3 false).putBitOf GCTL_BUFSTAT.HOLDTO 3 true)

theorem bufholdTimeout_heldShared : exec (.bufholdTimeout 3) heldShared = .next releasedShared :=
  congrArg Host.Outcome.next (if_pos heldShared_waits.1)

/-- The waiting write has landed. -/
theorem rd_releasedShared : releasedShared.rd AFE_IEXC = 1 := by decide +kernel

/-- Refutes O2, by its clause of BUFHOLD_TIMEOUT: once the time-out has released the CONV hold, a shared word that waits lands with no
conversion in progress (R80, R254), and AFE_IEXC is not in the clause's frame. -/
theorem not_storeCompletes : ¬ Obligations.StoreCompletes := by
  unfold Obligations.StoreCompletes
  intro h
  obtain ⟨held, before, -⟩ := heldShared_waits
  obtain ⟨-, timeout, -⟩ := h heldShared .host
  obtain ⟨t, run, -, -, frame⟩ := timeout 3 held
  obtain rfl : releasedShared = t := Host.Outcome.next.inj (bufholdTimeout_heldShared.symm.trans run)
  have unchanged : releasedShared.rd AFE_IEXC = heldShared.rd AFE_IEXC := frame.rd_of (by decide)
  rw [rd_releasedShared, before] at unchanged
  exact absurd unchanged (by decide)

/-- The entry of GCTL_SCRATCH in the address map. -/
def scratchLoc : Loc := ⟨.GCTL, 0, entry_GCTL_SCRATCH, 0, false⟩

/-- The reset device with a value staged at GCTL_SCRATCH, whose field has no boundary to land at. -/
def strayStage : State := { State.reset with staged := [(GCTL_SCRATCH, ⟨1, 1⟩)] }

/-- Checks 1 to 3 of R72 let the host write the word. -/
theorem strayStage_mayWrite : strayStage.mayWrite .host GCTL_SCRATCH := ⟨rfl, .reg scratchLoc, by rfl⟩

theorem plainReg_scratch : plainReg scratchLoc GCTL_SCRATCH := by
  unfold plainReg
  decide +kernel

theorem fieldsTake_scratch : fieldsTake scratchLoc GCTL_SCRATCH 0 strayStage := by
  unfold fieldsTake
  decide +kernel

theorem landsLater_scratch : landsLater scratchLoc strayStage := ⟨nofun, nofun, nofun⟩

/-- What is staged goes before what the write of 0 leaves in the word. -/
theorem latest_strayStage : (busWrite .host .word GCTL_SCRATCH 0 strayStage).latest GCTL_SCRATCH = 1 := by decide +kernel

/-- Refutes O1, by its clause of plain registers: a write of 0 to GCTL_SCRATCH acts on the live word, and the latest value is the one
that `strayStage` has staged there. No command stages a value at a register without buffered fields, but the clause is about every state
and has no premise that excludes one. -/
theorem not_accessCompletes : ¬ Obligations.AccessCompletes := by
  unfold Obligations.AccessCompletes
  intro h
  obtain ⟨-, -, -, -, -, plain⟩ := h strayStage .host 0 0
  obtain ⟨t, run, -, latest, -⟩ := plain GCTL_SCRATCH scratchLoc (by decide) locate_GCTL_SCRATCH plainReg_scratch strayStage_mayWrite
    (by decide) fieldsTake_scratch landsLater_scratch (by decide +kernel)
  obtain rfl : busWrite .host .word GCTL_SCRATCH 0 strayStage = t := Host.Outcome.next.inj run
  have zero : ((0 : Word) &&& scratchLoc.defn.maskOf FieldDef.isValue)
      ||| (strayStage.latest GCTL_SCRATCH &&& ~~~ scratchLoc.defn.maskOf FieldDef.isValue) = 0 := by decide +kernel
  exact absurd (latest_strayStage.symm.trans (latest.trans zero)) (by decide)

end Sys2Proof.Machine

/-!
# O55: a write that fails a check of R72
-/
namespace Sys2Proof.Machine

/-! ### A cause that D4 finds, R308 -/

theorem pendD4_eq (src cause idx : Nat) (s : State) :
    pendD4 src cause idx s = if napping s then s.modPower fun p => { p with napPend := p.napPend ++ [(src, cause, idx)] }
      else pend src cause idx s := rfl

theorem noted_pendD4 {src idx : Nat} (h : src < 128) (s : State) : noted src idx s (pendD4 src 0 idx s) := by
  unfold noted
  rw [pendD4_eq]
  by_cases hn : napping s = true
  · rw [if_pos hn, if_pos hn]
    rfl
  · rw [if_neg hn, if_neg hn]
    exact evPending_pend h

theorem pendD4_frame (src cause idx : Nat) (s : State) : Frame (d4Parts s) s (pendD4 src cause idx s) := by
  unfold d4Parts
  rw [pendD4_eq]
  by_cases hn : napping s = true
  · rw [if_pos hn, if_pos hn]
    exact (State.modPower_ok ..).1
  · rw [if_neg hn, if_neg hn]
    exact pend_parts

theorem napping_of_frame {W : List Part} {s t : State} (h : Frame W s t) (hp : .power ∉ W)
    (hw : W.all (Part.outside GCTL_RUNSTAT (GCTL_RUNSTAT + 1)) = true) : napping t = napping s := by
  have state : t.get GCTL_RUNSTAT.STATE = s.get GCTL_RUNSTAT.STATE := h.get_of hw
  have power : t.power = s.power := h.1 .power hp
  unfold napping State.runState
  rw [state, power]

/-! ### The record of a bus error, R84 -/

/-- The first error since the record was cleared, or the note that another one followed. -/
def errKept (m : Master) (addr : Nat) (e : BusErr) (s : State) : State :=
  if s.on GCTL_BUSERR.VALID then s.put GCTL_BUSERR.MORE 1
  else (((s.put GCTL_BUSERR.VALID 1).put GCTL_BUSERR.MASTER (masterCode m)).put GCTL_BUSERR.CODE e.code).put
    GCTL_BUSERRADDR.ADDR addr

theorem recordErr_eq (m : Master) (addr : Nat) (e : BusErr) (s : State) :
    recordErr m addr e s =
      (let u := (errKept m addr e s).inc GCTL_BUSERRCNT.COUNT
       if e.event = 113 then pendD4 113 0 0 u else pendSrc e.event u) := rfl

theorem masterCode_lt (m : Master) : masterCode m < 16 := by cases m <;> decide

theorem BusErr.code_lt (e : BusErr) : e.code < 16 := by cases e <;> decide

theorem BusErr.event_lt (e : BusErr) : e.event < 128 := by cases e <;> decide

theorem errKept_frame (m : Master) (addr : Nat) (e : BusErr) (s : State) :
    Frame [.reg .GCTL_BUSERR, .reg .GCTL_BUSERRADDR] s (errKept m addr e s) := by
  unfold errKept
  have at0 : RegName.GCTL_BUSERR.at GCTL_BUSERR := ⟨0, 0, rfl⟩
  have at1 : RegName.GCTL_BUSERRADDR.at GCTL_BUSERRADDR := ⟨0, 0, rfl⟩
  refine (Ok.ite (Ok.via (State.put_at at0) rfl .refl) ?_ : Ok _ _ _).1
  exact Ok.via (State.put_at at1) rfl
    (Ok.via (State.put_at at0) rfl (Ok.via (State.put_at at0) rfl (Ok.via (State.put_at at0) rfl .refl)))

/-- What the record says of an error at `addr`: the first one is kept until it is cleared, and a later one is noted. -/
def errRecord (m : Master) (addr : Nat) (e : BusErr) (s t : State) : Prop :=
  t.on GCTL_BUSERR.VALID = true
    ∧ (s.on GCTL_BUSERR.VALID = false → t.get GCTL_BUSERR.CODE = e.code ∧ t.get GCTL_BUSERR.MASTER = masterCode m
        ∧ t.get GCTL_BUSERRADDR.ADDR = addr)
    ∧ (s.on GCTL_BUSERR.VALID = true → t.on GCTL_BUSERR.MORE = true ∧ t.get GCTL_BUSERR.CODE = s.get GCTL_BUSERR.CODE
        ∧ t.get GCTL_BUSERR.MASTER = s.get GCTL_BUSERR.MASTER ∧ t.rd GCTL_BUSERRADDR = s.rd GCTL_BUSERRADDR)

theorem errRecord_errKept {addr : Nat} (ha : addr < 2 ^ 24) (m : Master) (e : BusErr) (s : State) :
    errRecord m addr e s (errKept m addr e s) := by
  unfold errRecord errKept
  by_cases hv : s.on GCTL_BUSERR.VALID = true
  · rw [if_pos hv]
    refine ⟨?_, fun h => absurd (hv.symm.trans h) (by decide), fun _ => ⟨State.on_put_self 1 (by decide) (by decide), ?_, ?_, ?_⟩⟩
    · exact (congrArg (fun n => decide (n ≠ 0)) (State.get_put_disj 1 (by decide) (by decide))).trans hv
    · exact State.get_put_disj 1 (by decide) (by decide)
    · exact State.get_put_disj 1 (by decide) (by decide)
    · exact State.rd_put_ne 1 (by decide)
  · rw [if_neg hv]
    refine ⟨?_, fun _ => ⟨?_, ?_, ?_⟩, fun h => absurd h hv⟩
    · refine decide_eq_true ?_
      rw [State.get_put_ne _ (by decide), State.get_put_disj _ (by decide) (by decide), State.get_put_disj _ (by decide) (by decide),
        State.get_put_self _ (by decide) (by decide)]
      decide
    · rw [State.get_put_ne _ (by decide), State.get_put_self _ (by decide) (by decide)]
      exact Nat.mod_eq_of_lt e.code_lt
    · rw [State.get_put_ne _ (by decide), State.get_put_disj _ (by decide) (by decide), State.get_put_self _ (by decide) (by decide)]
      exact Nat.mod_eq_of_lt (masterCode_lt m)
    · rw [State.get_put_self _ (by decide) (by decide)]
      exact Nat.mod_eq_of_lt ha

/-- The record is read from its own words alone. -/
theorem errRecord_congr {m : Master} {addr : Nat} {e : BusErr} {s t t' : State} (h : errRecord m addr e s t)
    (ht : t'.rd GCTL_BUSERR = t.rd GCTL_BUSERR) (hta : t'.rd GCTL_BUSERRADDR = t.rd GCTL_BUSERRADDR) : errRecord m addr e s t' := by
  unfold errRecord State.on State.get at *
  simpa only [show GCTL_BUSERR.VALID.addr = GCTL_BUSERR from rfl, show GCTL_BUSERR.MORE.addr = GCTL_BUSERR from rfl,
    show GCTL_BUSERR.CODE.addr = GCTL_BUSERR from rfl, show GCTL_BUSERR.MASTER.addr = GCTL_BUSERR from rfl,
    show GCTL_BUSERRADDR.ADDR.addr = GCTL_BUSERRADDR from rfl, ht, hta] using h

theorem get_inc_self {f : Fld} (s : State) (h : f.hi < 32) (hl : f.lo ≤ f.hi) : (s.inc f).get f = min f.max (s.get f + 1) := by
  have pos : 0 < 2 ^ (f.hi + 1 - f.lo) := Nat.two_pow_pos _
  have top : min f.max (s.get f + 1) < 2 ^ (f.hi + 1 - f.lo) := by
    have := Nat.min_le_left f.max (s.get f + 1)
    unfold Fld.max at this ⊢
    omega
  exact (State.get_put_self _ h hl).trans (Nat.mod_eq_of_lt top)

/-- The words of the record once the error is noted: what its event changes are others. -/
theorem recordErr_sameGctl (m : Master) (addr : Nat) (e : BusErr) (s : State) :
    SameGctl ((errKept m addr e s).inc GCTL_BUSERRCNT.COUNT) (recordErr m addr e s) := by
  rw [recordErr_eq]
  dsimp only
  split
  · exact SameGctl.of_frame (pendD4_ok ..).1 (by decide)
  · exact SameGctl.of_frame (pendSrc_ok ..).1 (by decide)

theorem recordErr_errRecord {addr : Nat} (ha : addr < 2 ^ 24) (m : Master) (e : BusErr) (s : State) :
    errRecord m addr e s (recordErr m addr e s) := by
  have same := recordErr_sameGctl m addr e s
  have kept {a : Nat} (h : a ≠ GCTL_BUSERRCNT) (hg : a < 0x10000) : (recordErr m addr e s).rd a = (errKept m addr e s).rd a :=
    (same a hg).trans (State.rd_put_ne _ h)
  exact errRecord_congr (errRecord_errKept ha m e s) (kept (by decide) (by decide)) (kept (by decide) (by decide))

/-- Every error counts. -/
theorem count_recordErr (m : Master) (addr : Nat) (e : BusErr) (s : State) :
    (recordErr m addr e s).get GCTL_BUSERRCNT.COUNT = min GCTL_BUSERRCNT.COUNT.max (s.get GCTL_BUSERRCNT.COUNT + 1) := by
  have counted := get_inc_self (f := GCTL_BUSERRCNT.COUNT) (errKept m addr e s) (by decide) (by decide)
  have before : (errKept m addr e s).get GCTL_BUSERRCNT.COUNT = s.get GCTL_BUSERRCNT.COUNT := (errKept_frame ..).get_of (by decide)
  rw [before] at counted
  exact (congrArg (wordField · _ _) (recordErr_sameGctl m addr e s GCTL_BUSERRCNT (by decide))).trans counted

/-- What marks that an error's event was raised: a write into the XIP window is a cause that D4 finds, R308. -/
def errEvent (e : BusErr) (s t : State) : Prop := if e.event = 113 then noted 113 0 s t else t.evPending e.event = true

theorem errNoted_frame (m : Master) (addr : Nat) (e : BusErr) (s : State) :
    Frame [.reg .GCTL_BUSERR, .reg .GCTL_BUSERRADDR, .reg .GCTL_BUSERRCNT] s ((errKept m addr e s).inc GCTL_BUSERRCNT.COUNT) :=
  ((errKept_frame ..).mono (by decide)).trans ((State.inc_at (r := .GCTL_BUSERRCNT) ⟨0, 0, rfl⟩).1.mono (by decide))

theorem recordErr_errEvent (m : Master) (addr : Nat) (e : BusErr) (s : State) : errEvent e s (recordErr m addr e s) := by
  have frame := errNoted_frame m addr e s
  have nap : napping ((errKept m addr e s).inc GCTL_BUSERRCNT.COUNT) = napping s := napping_of_frame frame (by decide) (by decide)
  have power : ((errKept m addr e s).inc GCTL_BUSERRCNT.COUNT).power = s.power := frame.1 .power (by decide)
  unfold errEvent
  rw [recordErr_eq]
  dsimp only
  by_cases h : e.event = 113
  · rw [if_pos h, if_pos h]
    have done := noted_pendD4 (src := 113) (idx := 0) (by decide) ((errKept m addr e s).inc GCTL_BUSERRCNT.COUNT)
    unfold noted at done ⊢
    rwa [nap, power] at done
  · rw [if_neg h, if_neg h]
    exact evPending_pendSrc e.event_lt

/-- The parts that the record of an error can change but for the answer. -/
def errEventParts (e : BusErr) (s : State) : List Part := if e.event = 113 then d4Parts s else []

theorem Frame.subset {W W' : List Part} {s t : State} (h : Frame W s t) (hw : W ⊆ W') : Frame W' s t :=
  ⟨fun p hp => h.1 p fun hm => hp (hw hm), h.2.imp (fun hr => hw hr) fun hr a ha => hr a fun r hm => ha r (hw hm)⟩

theorem recordErr_frame (m : Master) (addr : Nat) (e : BusErr) (s : State) :
    Frame (errEventParts e s ++ errorParts) s (recordErr m addr e s) := by
  have frame := errNoted_frame m addr e s
  have nap : napping ((errKept m addr e s).inc GCTL_BUSERRCNT.COUNT) = napping s := napping_of_frame frame (by decide) (by decide)
  refine (frame.subset (fun p hp => List.mem_append_right _ ?_)).trans ?_
  · exact (show [Part.reg .GCTL_BUSERR, .reg .GCTL_BUSERRADDR, .reg .GCTL_BUSERRCNT] ⊆ errorParts by decide) hp
  · rw [recordErr_eq]
    dsimp only
    unfold errEventParts
    by_cases h : e.event = 113
    · rw [if_pos h, if_pos h]
      have d4 := pendD4_frame 113 0 0 ((errKept m addr e s).inc GCTL_BUSERRCNT.COUNT)
      rw [d4Parts, nap] at d4
      exact d4.subset (List.subset_append_left _ _)
    · rw [if_neg h, if_neg h]
      exact (pend_parts (s := (errKept m addr e s).inc GCTL_BUSERRCNT.COUNT)).subset (by decide)

/-! ### A failed access, R84 -/

/-- An access of `m` to `a` ended in error `e`: the error is answered, its event raised, and it is recorded and counted. Nothing but
`parts` and the record may differ. -/
def Ended (m : Master) (a : Nat) (e : BusErr) (parts : List Part) (s t : State) : Prop :=
  t.reply m = .error e ∧ errEvent e s t
    ∧ t.get GCTL_BUSERRCNT.COUNT = min GCTL_BUSERRCNT.COUNT.max (s.get GCTL_BUSERRCNT.COUNT + 1)
    ∧ t.on GCTL_BUSERR.VALID = true
    ∧ (s.on GCTL_BUSERR.VALID = false → t.get GCTL_BUSERR.CODE = e.code ∧ t.get GCTL_BUSERR.MASTER = masterCode m
        ∧ t.get GCTL_BUSERRADDR.ADDR = a)
    ∧ (s.on GCTL_BUSERR.VALID = true → t.on GCTL_BUSERR.MORE = true ∧ t.get GCTL_BUSERR.CODE = s.get GCTL_BUSERR.CODE
        ∧ t.get GCTL_BUSERR.MASTER = s.get GCTL_BUSERR.MASTER ∧ t.rd GCTL_BUSERRADDR = s.rd GCTL_BUSERRADDR)
    ∧ Frame (parts ++ (if e.event = 113 then d4Parts s else []) ++ errorParts) s t

theorem ended_busFail {a : Nat} (ha : a < 2 ^ 24) (m : Master) (e : BusErr) (s : State) : Ended m a e [] s (busFail m a e s) := by
  obtain ⟨valid, first, more⟩ := recordErr_errRecord ha m e s
  have frame : Frame (errEventParts e s ++ errorParts) s (busFail m a e s) :=
    (recordErr_frame m a e s).trans
      ((State.answer_ok (recordErr m a e s) m (.error e)).1.subset fun p hp =>
        List.mem_append_right _ ((show [Part.replies] ⊆ errorParts by decide) hp))
  exact ⟨State.reply_answer .., recordErr_errEvent m a e s, count_recordErr m a e s, valid, first, more, frame⟩

/-- A change of the guard windows before the error shows in nothing else. -/
theorem ended_busFail_guards {a b : Nat} (ha : a < 2 ^ 24) (m : Master) (e : BusErr) (g : Option GuardWin) (s : State) :
    Ended m a e [.guards] s (busFail m a e (s.setGuard b g)) := by
  obtain ⟨reply, event, count, valid, first, more, frame⟩ := ended_busFail ha m e (s.setGuard b g)
  have guard : Frame [.guards] s (s.setGuard b g) := (State.setGuard_ok ..).1
  refine ⟨reply, event, count, valid, first, more, (guard.subset ?_).trans (frame.subset ?_)⟩
  · exact fun p hp => List.mem_append_left _ (List.mem_append_left _ hp)
  · exact fun p hp => by
      rcases List.mem_append.mp hp with hp | hp
      · exact List.mem_append_left _ (List.mem_append_right _ hp)
      · exact List.mem_append_right _ hp

theorem Ended.weaken {m : Master} {a : Nat} {e : BusErr} {s t : State} (h : Ended m a e [] s t) (W : List Part) :
    Ended m a e W s t := by
  obtain ⟨reply, event, count, valid, first, more, frame⟩ := h
  exact ⟨reply, event, count, valid, first, more, frame.subset fun p hp => by
    rw [List.append_assoc]
    exact List.mem_append_right W hp⟩

theorem guardAt_busFail (m : Master) (a : Nat) (e : BusErr) (s : State) (b : Nat) : (busFail m a e s).guardAt b = s.guardAt b := by
  have frame := (busFail_ok m a e s).1.1 .guards (by decide)
  exact congrArg (fun g => Sparse.get (fun _ => none) g b) frame

theorem guards_busFail (m : Master) (a : Nat) (e : BusErr) (s : State) : (busFail m a e s).guards = s.guards :=
  (busFail_ok m a e s).1.1 .guards (by decide)

/-! ### The checks of a write, R72 -/

section
variable {s : State} {m : Master} {size : AccessSize} {addr : BitVec 24} {w : Word} {l : Loc} {e : BusErr}

/-- A write that ends in an error completes. -/
theorem does_write_ended {P : State → Prop} {u : State} (h : busWrite m size addr.toNat w s = busFail m addr.toNat e u)
    (hp : P (busFail m addr.toNat e u)) : Does (.registerWrite m size addr w) s P := Does.of_eq rfl h hp

theorem busWrite_denied (hv : s.voterBlocks m = false) {a : Nat} (h : accessCheck m size a true s = .error e) :
    busWrite m size a w s = busFail m a e s := by
  simp only [busWrite, hv, h, Bool.false_eq_true, if_false]

/-- Checks 4 to 9 of R72 decide on a write that checks 1 to 3 let pass. -/
theorem busWrite_word (hv : s.voterBlocks m = false) {a : Nat} (h : accessCheck m size a true s = .ok (.reg l)) (hp : l.defn.pair = .none)
    (hs : secRestricts m l w s = false) : busWrite m size a w s = wordWrite m a a l w s := by
  simp only [busWrite, hv, h, hp, hs, Bool.false_eq_true, if_false]

theorem wordWrite_access {a : Nat} (hc : l.compl = false) (hw : l.writable = false) :
    wordWrite m a a l w s = busFail m a .access s := by
  simp only [wordWrite, hc, hw, Bool.false_eq_true, if_false, Bool.not_false, if_true]

theorem wordWrite_reserved {a : Nat} (hc : l.compl = false) (hw : l.writable = true) (hr : w &&& reservedBits l.defn ≠ 0) :
    wordWrite m a a l w s = busFail m a .reservedBit (if l.defn.guarded then dropGuard m a s else s) := by
  simp only [wordWrite, hc, hw, hr, Bool.false_eq_true, if_false, Bool.not_true, ne_eq, not_false_eq_true, if_true]

theorem wordWrite_opens {a : Nat} (hc : l.compl = false) (hw : l.writable = true) (hr : w &&& reservedBits l.defn = 0)
    (hg : l.defn.guarded = true) : wordWrite m a a l w s = guardOpen m a a w s := by
  simp only [wordWrite, hc, hw, hr, hg, Bool.false_eq_true, if_false, Bool.not_true, ne_eq, not_true, if_true]

theorem wordWrite_finishes {a : Nat} (hc : l.compl = false) (hw : l.writable = true) (hr : w &&& reservedBits l.defn = 0)
    (hg : l.defn.guarded = false) : wordWrite m a a l w s = finishWrite m a a l w s := by
  simp only [wordWrite, hc, hw, hr, hg, Bool.false_eq_true, if_false, Bool.not_true, ne_eq, not_true]

theorem wordWrite_closes {a : Nat} (hc : l.compl = true) : wordWrite m a a l w s = guardClose m a (a - 4) l w s := if_pos hc

theorem guardOpen_other {a b : Nat} {g : GuardWin} (hg : s.guardAt b = some g) (hm : g.master ≠ m) :
    guardOpen m a b w s = busFail m a .guard s := by
  simp only [guardOpen, hg, hm, decide_false, Bool.false_eq_true, if_false]

theorem guardClose_none {a b : Nat} (hg : s.guardAt b = none) : guardClose m a b l w s = busFail m a .guard s := by
  simp only [guardClose, hg]

theorem guardClose_other {a b : Nat} {g : GuardWin} (hg : s.guardAt b = some g) (hm : g.master ≠ m) :
    guardClose m a b l w s = busFail m a .guard s := by
  simp only [guardClose, hg, if_pos hm]

theorem guardClose_wrong {a b : Nat} {g : GuardWin} (hg : s.guardAt b = some g) (hm : g.master = m) (hw : w ≠ ~~~ g.value) :
    guardClose m a b l w s = busFail m a .guard (s.setGuard b none) := by
  simp only [guardClose, hg, hm, hw, ne_eq, not_true, if_false]

theorem finishWrite_undefined {a : Nat} (h : decodeWrite l (s.before l a) w s = none) :
    finishWrite m a a l w s = busFail m a .refused s := by
  simp only [finishWrite, h]

theorem finishWrite_refused {a : Nat} {x : WriteWord} {cl : List Clamp} (h : decodeWrite l (s.before l a) w s = some (x, cl))
    (hb : blockRefuses l (s.before l a) ((stateClamps l x s).1.val ||| (stateClamps l x s).1.act) (dataMask l.defn w) s = true) :
    finishWrite m a a l w s = busFail m a .refused s := by
  simp only [finishWrite, h, hb, if_true]

end

/-- A field whose value is undefined ends the checks on fields. -/
theorem checkFields_undefined {fs : List FieldDef} {v : Word} {f : FieldDef} (hf : f ∈ fs) (hro : f.ty ≠ .ro) (hw : f.ty ≠ .w1c)
    (h : checkField f.chk (f.hi + 1 - f.lo) (wordField v f.hi f.lo) = none) : checkFields fs v = none := by
  induction fs with
  | nil => cases hf
  | cons g gs ih =>
    rw [checkFields]
    rcases List.mem_cons.mp hf with rfl | hf
    · split
      · rfl
      · simp only [hro, hw, or_self, if_false, h]
    · simp only [ih hf]

theorem decodeWrite_undefined {l : Loc} {old v : Word} {s : State} (hm : l.defn.masked = false)
    (h : ∃ f ∈ l.defn.fields, f.ty ≠ .ro ∧ f.ty ≠ .w1c ∧ checkField f.chk (f.hi + 1 - f.lo) (wordField v f.hi f.lo) = none) :
    decodeWrite l old v s = none := by
  obtain ⟨f, hf, hro, hw, hc⟩ := h
  have none := checkFields_undefined (v := v) hf hro hw hc
  simp only [decodeWrite, hm, Bool.false_eq_true, if_false, none]

/-- A reserved bit closes the master's own window alone, R76. -/
theorem ended_dropGuard {a : Nat} (ha : a < 2 ^ 24) (m : Master) (s : State) :
    Ended m a .reservedBit [.guards] s (busFail m a .reservedBit (dropGuard m a s)) := by
  unfold dropGuard
  split
  · exact (ended_busFail ha m _ s).weaken _
  · split
    · exact ended_busFail_guards ha m _ none s
    · exact (ended_busFail ha m _ s).weaken _

theorem guardAt_dropGuard {m : Master} {a : Nat} {s : State} {g : GuardWin} (h : s.guardAt a = some g) :
    (dropGuard m a s).guardAt a = if g.master = m then none else some g := by
  simp only [dropGuard, h]
  split
  · exact State.guardAt_setGuard ..
  · exact h

/-- Settles O55: each check that fails reaches `busFail`, whose record is `errRecord`, whose event is `errEvent`, and which leaves the
rest alone. -/
theorem failedWriteRecorded : Obligations.FailedWriteRecorded := by
  unfold Obligations.FailedWriteRecorded
  intro s m size addr w
  have ha : addr.toNat < 2 ^ 24 := addr.isLt
  have fails {e : BusErr} (h : busWrite m size addr.toNat w s = busFail m addr.toNat e s) :
      Does (.registerWrite m size addr w) s (Ended m addr.toNat e [] s) := does_write_ended h (ended_busFail ha m e s)
  refine ⟨fun blocked => Does.of_eq rfl (if_pos blocked) rfl, fun passes => ⟨fun e denied => fails (busWrite_denied passes denied), ?_⟩⟩
  intro l reg single allowed
  have word : busWrite m size addr.toNat w s = wordWrite m addr.toNat addr.toNat l w s := busWrite_word passes reg single allowed
  refine ⟨fun whole => ⟨fun fixed => fails (word.trans (wordWrite_access whole fixed)), fun can => ⟨fun reserved => ?_, ?_, ?_⟩⟩,
    fun compl => ⟨?_, ?_⟩⟩
  · have failed := word.trans (wordWrite_reserved whole can reserved)
    cases guarded : l.defn.guarded with
    | false =>
      rw [guarded, if_neg Bool.false_ne_true] at failed
      exact does_write_ended failed ⟨(ended_busFail ha m _ s).weaken _, fun _ => guards_busFail .., nofun⟩
    | true =>
      rw [guarded, if_pos rfl] at failed
      exact does_write_ended failed ⟨ended_dropGuard ha m s, nofun, fun _ g hg => (guardAt_busFail ..).trans (guardAt_dropGuard hg)⟩
  · intro clean guarded g hg other
    exact fails (word.trans ((wordWrite_opens whole can clean guarded).trans (guardOpen_other hg other)))
  · intro clean plain
    have finish := word.trans (wordWrite_finishes whole can clean plain)
    refine ⟨fun unmasked undefined => ?_, fun x cl decoded refuses => ?_⟩
    · exact fails (finish.trans (finishWrite_undefined (decodeWrite_undefined unmasked undefined)))
    · exact fails (finish.trans (finishWrite_refused decoded refuses))
  · exact fun closed => fails (word.trans ((wordWrite_closes compl).trans (guardClose_none closed)))
  · intro g hg
    have close := word.trans (wordWrite_closes compl)
    refine ⟨fun other => fails (close.trans (guardClose_other hg other)), fun mine wrong => ?_⟩
    exact does_write_ended (close.trans (guardClose_wrong hg mine wrong))
      ⟨ended_busFail_guards ha m _ none s, (guardAt_busFail ..).trans (State.guardAt_setGuard ..)⟩

end Sys2Proof.Machine

/-!
# O18: edges of SYNC_IN
-/
namespace Sys2Proof.Machine

/-! ### An edge of SYNC_IN, R173, R180 and R220 -/

/-- What a sync event asks of axis `a`. -/
def syncTake (src : Nat) (rising : Bool) (a : Nat) (s : State) : State :=
  let start := s.on (AX_STAT.ARMED a) && s.syncMatches a (s.get (AX_STARTCFG.SRC a)) src rising
  let wait : Bool := match (s.mo a).run with
    | .segWait _ true => s.syncMatches a (s.get (AX_STARTCFG.SEGSYNC a)) src rising
    | _ => false
  if start || wait then s.modMo a fun m => { m with syncHit := m.syncHit || start, waitHit := m.waitHit || wait } else s

theorem syncEvent_eq (src : Nat) (rising : Bool) (s : State) :
    syncEvent src rising s =
      (let u := forEach (List.range 128) (syncTake src rising) s
       if u.runWaits && u.syncMatches 0 (u.get PL_CFG.RUNSRC) src rising then u.modPl fun p => { p with sync := true } else u) := rfl

/-- The motion state of an axis that a sync event starts, or takes on from a wait of its chain. -/
def Motion.synced (m : Motion) (starts goesOn : Bool) : Motion :=
  { m with syncHit := m.syncHit || starts, waitHit := m.waitHit || goesOn }

theorem Motion.synced_synced (m : Motion) (b c : Bool) : (m.synced b c).synced b c = m.synced b c := by
  simp only [Motion.synced, Bool.or_assoc, Bool.or_self]

theorem Motion.synced_false (m : Motion) : m.synced false false = m := by simp only [Motion.synced, Bool.or_false]

/-- Whether the chain of an axis waits for a sync event. -/
def Motion.waitsSync (m : Motion) : Bool := match m.run with | .segWait _ true => true | _ => false

/-- The armed axis `a` starts at the edge. -/
def State.syncStarts (s : State) (rising : Bool) (a : Nat) : Bool :=
  s.on (AX_STAT.ARMED a) && decide (s.get (AX_STARTCFG.SRC a) = 1) && decide (s.on (AX_STARTCFG.EDGE a) = !rising)

/-- The chain of axis `a` goes on at the edge. -/
def State.syncGoesOn (s : State) (rising : Bool) (a : Nat) : Bool :=
  (s.mo a).waitsSync && decide (s.get (AX_STARTCFG.SEGSYNC a) = 1) && decide (s.on (AX_STARTCFG.EDGE a) = !rising)

theorem syncMatches_in (s : State) (a sel : Nat) (rising : Bool) :
    s.syncMatches a sel 1 rising = (decide (sel = 1) && decide (s.on (AX_STARTCFG.EDGE a) = !rising)) := rfl

theorem syncTake_in (rising : Bool) (a : Nat) (s : State) :
    syncTake 1 rising a s = if s.syncStarts rising a || s.syncGoesOn rising a
      then s.modMo a fun m => m.synced (s.syncStarts rising a) (s.syncGoesOn rising a) else s := by
  have start : (s.on (AX_STAT.ARMED a) && s.syncMatches a (s.get (AX_STARTCFG.SRC a)) 1 rising) = s.syncStarts rising a := by
    rw [syncMatches_in, State.syncStarts, Bool.and_assoc]
  have wait : (match (s.mo a).run with
      | .segWait _ true => s.syncMatches a (s.get (AX_STARTCFG.SEGSYNC a)) 1 rising
      | _ => false) = s.syncGoesOn rising a := by
    unfold State.syncGoesOn Motion.waitsSync
    split <;> simp [syncMatches_in]
  unfold syncTake
  rw [start]
  dsimp only
  rw [wait]
  rfl

theorem mo_syncTake_self (rising : Bool) (a : Nat) (s : State) :
    (syncTake 1 rising a s).mo a = (s.mo a).synced (s.syncStarts rising a) (s.syncGoesOn rising a) := by
  rw [syncTake_in]
  split
  · exact State.mo_modMo ..
  · rename_i idle
    simp only [Bool.or_eq_true, not_or, Bool.not_eq_true] at idle
    rw [idle.1, idle.2, Motion.synced_false]

theorem mo_syncTake_ne {a b : Nat} (h : b ≠ a) (rising : Bool) (s : State) : (syncTake 1 rising a s).mo b = s.mo b := by
  rw [syncTake_in]
  split
  · exact State.mo_modMo_ne _ h
  · rfl

theorem se_syncTake (rising : Bool) (a b : Nat) (s : State) : (syncTake 1 rising a s).se b = s.se b := by
  rw [syncTake_in]
  split
  · exact State.se_modMo ..
  · rfl

theorem syncTake_ok (rising : Bool) (a : Nat) (s : State) : Ok [.axes] s (syncTake 1 rising a s) := by
  rw [syncTake_in]
  exact .ite (State.modMo_ok ..) .refl

/-- What one axis is left with once the edge has passed it: its flags are those of the state before. -/
theorem axis_syncAxes (rising : Bool) {a : Nat} (ha : a < 128) (s : State) :
    let t := forEach (List.range 128) (syncTake 1 rising) s
    t.mo a = (s.mo a).synced (s.syncStarts rising a) (s.syncGoesOn rising a) ∧ t.se a = s.se a := by
  have flags {u : State} (hr : u.regs = s.regs) (hm : (u.mo a).run = (s.mo a).run) :
      u.syncStarts rising a = s.syncStarts rising a ∧ u.syncGoesOn rising a = s.syncGoesOn rising a := by
    unfold State.syncStarts State.syncGoesOn Motion.waitsSync State.on State.get State.rd
    rw [hr, hm]
    exact ⟨rfl, rfl⟩
  have regs (x : Nat) (u : State) : (syncTake 1 rising x u).regs = u.regs := by
    rw [syncTake_in]
    split <;> rfl
  let taken := (s.mo a).synced (s.syncStarts rising a) (s.syncGoesOn rising a)
  have done : (forEach (List.range 128) (syncTake 1 rising) s).regs = s.regs
      ∧ (forEach (List.range 128) (syncTake 1 rising) s).mo a = taken
      ∧ (forEach (List.range 128) (syncTake 1 rising) s).se a = s.se a := by
    refine forEach_reaches (P := fun u => u.regs = s.regs ∧ u.mo a = s.mo a ∧ u.se a = s.se a)
      (Q := fun u => u.regs = s.regs ∧ u.mo a = taken ∧ u.se a = s.se a) (List.mem_range.mpr ha) ?_ ?_ ?_ ⟨rfl, rfl, rfl⟩
    · rintro x - hx u ⟨hr, hm, hs⟩
      exact ⟨(regs x u).trans hr, (mo_syncTake_ne hx.symm rising u).trans hm, (se_syncTake ..).trans hs⟩
    · rintro u ⟨hr, hm, hs⟩
      obtain ⟨starts, goesOn⟩ := flags hr (congrArg Motion.run hm)
      refine ⟨(regs a u).trans hr, ?_, (se_syncTake ..).trans hs⟩
      rw [mo_syncTake_self, starts, goesOn, hm]
    · rintro x - u ⟨hr, hm, hs⟩
      refine ⟨(regs x u).trans hr, ?_, (se_syncTake ..).trans hs⟩
      by_cases hx : a = x
      · subst hx
        obtain ⟨starts, goesOn⟩ := flags hr ((congrArg Motion.run hm).trans rfl)
        rw [mo_syncTake_self, starts, goesOn, hm, Motion.synced_synced]
      · exact (mo_syncTake_ne hx rising u).trans hm
  exact done.2

theorem syncAxes_ok (rising : Bool) (s : State) : Ok [.axes] s (forEach (List.range 128) (syncTake 1 rising) s) :=
  Ok.forEach (fun a u => syncTake_ok rising a u) .refl

/-- The edge that a waiting RUN takes, R220. -/
def State.syncRuns (s : State) (rising : Bool) : Bool :=
  s.runWaits && (decide (s.get PL_CFG.RUNSRC = 1) && decide (s.on (AX_STARTCFG.EDGE 0) = !rising))

theorem syncEvent_in (rising : Bool) (s : State) :
    syncEvent 1 rising s =
      (let u := forEach (List.range 128) (syncTake 1 rising) s
       if s.syncRuns rising then u.modPl fun p => { p with sync := true } else u) := by
  have frame := (syncAxes_ok rising s).1
  have waits : (forEach (List.range 128) (syncTake 1 rising) s).runWaits = s.runWaits := congrArg Planner.waiting (frame.1 .pl (by decide))
  have source : (forEach (List.range 128) (syncTake 1 rising) s).get PL_CFG.RUNSRC = s.get PL_CFG.RUNSRC := frame.get_of (by decide)
  have edge : (forEach (List.range 128) (syncTake 1 rising) s).on (AX_STARTCFG.EDGE 0) = s.on (AX_STARTCFG.EDGE 0) := frame.on_of (by decide)
  rw [syncEvent_eq]
  dsimp only
  rw [syncMatches_in, waits, source, edge]
  rfl

theorem does_syncInEdge {rising : Bool} {s : State} (h : s.fabricOn = true) : Does (.syncInEdge rising) s fun t =>
    (∀ a : Fin 128, t.mo a = (s.mo a).synced (s.syncStarts rising a) (s.syncGoesOn rising a) ∧ t.se a = s.se a)
      ∧ t.pl = (if s.runWaits = true ∧ s.get PL_CFG.RUNSRC = 1 ∧ s.on (AX_STARTCFG.EDGE 0) = !rising then { s.pl with sync := true }
          else s.pl)
      ∧ Frame [.axes, .pl] s t := by
  have e : (if s.fabricOn then syncEvent 1 rising s else s) = syncEvent 1 rising s := if_pos h
  refine Does.of_eq rfl e ⟨fun a => ?_, ?_, (syncEvent_ok ..).1⟩
  · have axis := axis_syncAxes rising a.isLt s
    rw [syncEvent_in]
    dsimp only
    split
    · exact axis
    · exact axis
  · have pl : (forEach (List.range 128) (syncTake 1 rising) s).pl = s.pl := (syncAxes_ok rising s).1.1 .pl (by decide)
    have runs : s.syncRuns rising = true ↔ s.runWaits = true ∧ s.get PL_CFG.RUNSRC = 1 ∧ s.on (AX_STARTCFG.EDGE 0) = !rising := by
      simp only [State.syncRuns, Bool.and_eq_true, decide_eq_true_eq]
    rw [syncEvent_in]
    dsimp only
    by_cases hr : s.syncRuns rising = true
    · rw [if_pos hr, if_pos (runs.mp hr), State.modPl_pl, pl]
    · rw [if_neg hr, if_neg (mt runs.mpr hr), pl]

end Sys2Proof.Machine

/-!
# O18: positions and their pairs
-/
namespace Sys2Proof.Machine

/-! ### A pair of words, R89 -/

theorem signed_toNat (x : Int) (h : -(2 ^ 63) ≤ x) (h' : x < 2 ^ 63) : signed 64 (unsigned 64 x) = x := by
  unfold signed unsigned
  split <;> omega

theorem toNat_halves (u : Nat) (h : u < 2 ^ 64) : (BitVec.ofNat 32 u).toNat + 2 ^ 32 * (BitVec.ofNat 32 (u / 2 ^ 32)).toNat = u := by
  simp only [BitVec.toNat_ofNat]
  omega

theorem unsigned_lt (x : Int) : unsigned 64 x < 2 ^ 64 := by
  unfold unsigned
  omega

theorem pair_putPair {lo : Nat} {v : Int} (h : -(2 ^ 63) ≤ v) (h' : v < 2 ^ 63) (s : State) : (s.putPair lo v).pair lo = v := by
  unfold State.pair State.putPair
  dsimp only
  rw [State.rd_wr_ne _ (by omega), State.rd_wr_self, State.rd_wr_self, toNat_halves _ (unsigned_lt v), signed_toNat v h h']

/-! ### Checks 1 to 3 of R72 after other accesses -/

/-- Parts that checks 1 to 3 do not read at an address of the hub. -/
def Part.apartFromChecks : Part → Bool
  | .reg r => [GCTL_RUNSTAT, GCTL_PWRSTAT, TRIO_STAT].all fun a => (Part.reg r).outside a (a + 1)
  | .regs | .power | .mgs | .net => false
  | _ => true

theorem mayWrite_of_frame {W : List Part} {s t : State} (h : Frame W s t) (hw : W.all Part.apartFromChecks = true) {m : Master}
    {addr : Nat} (hc : coachOf addr = none) (hm : s.mayWrite m addr) : t.mayWrite m addr := by
  have apart {p : Part} (hp : p ∈ W) : p.apartFromChecks = true := List.all_eq_true.mp hw p hp
  have reg {a : Nat} (ha : a ∈ [GCTL_RUNSTAT, GCTL_PWRSTAT, TRIO_STAT]) : W.all (Part.outside a (a + 1)) = true := by
    refine List.all_eq_true.mpr fun p hp => ?_
    have := apart hp
    cases p with
    | reg r => exact List.all_eq_true.mp this a ha
    | regs => cases this
    | _ => rfl
  have power : t.power = s.power := h.1 .power fun hp => absurd (apart hp) (by decide)
  have mgs : t.mgs = s.mgs := h.1 .mgs fun hp => absurd (apart hp) (by decide)
  have net : t.net = s.net := h.1 .net fun hp => absurd (apart hp) (by decide)
  have run : t.runState = s.runState := h.get_of (reg (by decide))
  have afe : t.afeOn = s.afeOn := h.on_of (reg (by decide))
  have trio : t.trioState = s.trioState := h.get_of (reg (by decide))
  have session : t.sessionOf m = s.sessionOf m := by
    unfold State.sessionOf
    rw [mgs, net]
  have domain : t.domainOff addr = s.domainOff addr := by
    unfold State.domainOff
    rw [power, run, afe, hc]
  have lacks (x : Target) (b : Bool) : t.sessionLacks m x b = s.sessionLacks m x b := by
    unfold State.sessionLacks mgsRestricts
    rw [session]
  have access : accessCheck m .word addr true t = accessCheck m .word addr true s := by
    unfold accessCheck
    simp only [lacks, domain]
  obtain ⟨blocks, target, ok⟩ := hm
  refine ⟨?_, target, access.trans ok⟩
  rw [State.voterBlocks, trio]
  exact blocks

/-! ### The LO word of a pair, R90 -/

theorem regWrite_lo {m : Master} {addr : Nat} {v : Word} {s : State} {l : Loc} (h : s.mayWrite m addr) (hl : locate addr = some l)
    (ha : addr < 0x100000) (hp : l.defn.pair = .lo) : regWrite m addr v s = stageLo m addr v s := by
  unfold regWrite busWrite
  rw [s.mayWrite_target h hl ha, h.1]
  simp only [hp, Bool.false_eq_true, if_false]

theorem stage_stageLo (m : Master) (addr : Nat) (v : Word) (s : State) : ((stageLo m addr v s).port m).stage = some (addr, v) := by
  unfold stageLo
  dsimp only
  rw [State.port_answer, State.port_setPort]

theorem reply_stageLo (m : Master) (addr : Nat) (v : Word) (s : State) : (stageLo m addr v s).reply m = .done := State.reply_answer ..

/-! ### A write of AX_POS, R187 -/

/-- The write is one of the times R187 allows: the axis is disabled, holds, or is unenergised. -/
def State.posTakes (s : State) (a : Nat) : Prop := s.enabled a = false ∨ s.get (AX_SSTAT.STATE a) = 2 ∨ s.get (AX_SSTAT.STATE a) = 6

/-- The position that a write of two words applies, R188. -/
def posApplied (v : Int) : Int := clampInt (-posMax) posMax v

theorem posApplied_range (v : Int) : -(2 ^ 63) ≤ posApplied v ∧ posApplied v < 2 ^ 63 := by
  unfold posApplied clampInt posMax
  split
  · omega
  · split <;> omega

/-- The record of the clamp, if the value moved. -/
def posClamped (addr : Nat) (v : Int) (s : State) : State :=
  if posApplied v = v then s else recordClamp addr true ⟨unsigned 64 v, unsigned 64 (posApplied v), 64, 0⟩ s

theorem commitPair_AX_POS {m : Master} {ea : Nat} {a : Fin 128} {lo hi : Word} {s : State} (h : s.posTakes a) :
    commitPair m ea (AX_POS_LO a) ⟨.AX, a.val, entry_AX_POS_LO, 0, false⟩ lo hi s =
      (let v := signed 64 (lo.toNat + 2 ^ 32 * hi.toNat)
       (axPosSet a (posApplied v) (posClamped (AX_POS_LO a) v s)).answer m .done) := by
  have top : locate (AX_POS_LO a + 4) = some ⟨.AX, a.val, entry_AX_POS_HI, 0, false⟩ := by
    rw [show AX_POS_LO a + 4 = AX_POS_HI a by simp only [AX_POS_LO, AX_POS_HI]; omega]
    exact locate_AX_POS_HI a
  have none : hi &&& reservedBits entry_AX_POS_HI = 0 :=
    (congrArg (hi &&& ·) (show reservedBits entry_AX_POS_HI = 0 by decide)).trans BitVec.and_zero
  have takes (x : Int) : pairRefused ⟨.AX, a.val, entry_AX_POS_LO, 0, false⟩ (AX_POS_LO a) x s = false := by
    show (s.enabled a && decide (s.get (AX_SSTAT.STATE a) ≠ 2) && decide (s.get (AX_SSTAT.STATE a) ≠ 6)) = false
    rcases h with h | h | h <;> simp [h]
  have writable : (⟨.AX, a.val, entry_AX_POS_LO, 0, false⟩ : Loc).writable = true := rfl
  unfold commitPair
  rw [writable, top]
  dsimp only
  rw [none, Bool.not_true, if_neg Bool.false_ne_true, if_neg (fun h => h rfl), takes, if_neg Bool.false_ne_true]
  rfl

/-- The event of an alert is one of sources 48 to 63. -/
theorem pend3_updAlert {a : Nat} (ha : a < 128) (s : State) : (updAlert a s).rd (EV_PEND 3) = s.rd (EV_PEND 3) := by
  have word : (48 + a / 8) / 32 = 1 := by omega
  have apart : EV_PEND 3 ≠ AXALERT (a / 32) := by simp only [EV_PEND, AXALERT]; omega
  unfold updAlert
  dsimp only
  split
  · rw [rd_pend_ne (by decide) (by rw [word]; decide)]
    exact State.rd_wr_ne _ apart
  · exact State.rd_wr_ne _ apart

/-- The state in which the alert of an axis is worked out after a write of its position. -/
def posMoved (a : Nat) (v : Int) (s : State) : State :=
  ((((s.modMo a fun m => { m with p := v * 2 ^ 24 }).putPair (AX_POS_LO a) v).put (AX_STAT.PML a) 0).put
    (AX_WITST.ALIGNPEND a) 1).modSe a fun e => { e.cut with fresh := true }

theorem axPosSet_eq (a : Nat) (v : Int) (s : State) : axPosSet a v s = updAlert a (posMoved a v s) := rfl

theorem posMoved_ok (a : Nat) (v : Int) (s : State) :
    Ok [.axes, .reg .AX_POS_LO, .reg .AX_POS_HI, .reg .AX_STAT, .reg .AX_WITST] s (posMoved a v s) :=
  Ok.via (State.modSe_ok ..) rfl (Ok.via (State.put_at (at_AX_WITST a)) rfl (Ok.via (State.put_at (at_AX_STAT a)) rfl
    (Ok.via (State.putPair_at (at_AX_POS_LO a) (hi_AX_POS_LO a)) rfl (Ok.via (State.modMo_ok ..) rfl .refl))))

theorem rd_posMoved {a b : Nat} (h : b ≠ AX_STAT a) (h' : b ≠ AX_WITST a) (v : Int) (s : State) :
    (posMoved a v s).rd b = (s.putPair (AX_POS_LO a) v).rd b := by
  unfold posMoved
  rw [State.modSe_rd, State.rd_put_ne _ h', State.rd_put_ne _ h]
  rfl

theorem rd_putPair_ne {lo b : Nat} (h : b ≠ lo) (h' : b ≠ lo + 4) (v : Int) (s : State) : (s.putPair lo v).rd b = s.rd b := by
  unfold State.putPair
  dsimp only
  rw [State.rd_wr_ne _ h', State.rd_wr_ne _ h]

theorem pend3_axPosSet {a : Nat} (ha : a < 128) (v : Int) (s : State) : (axPosSet a v s).rd (EV_PEND 3) = s.rd (EV_PEND 3) := by
  rw [axPosSet_eq, pend3_updAlert ha, rd_posMoved (by simp only [EV_PEND, AX_STAT]; omega) (by simp only [EV_PEND, AX_WITST]; omega),
    rd_putPair_ne (by simp only [EV_PEND, AX_POS_LO]; omega) (by simp only [EV_PEND, AX_POS_LO]; omega)]

theorem mo_axPosSet (a : Nat) (v : Int) (s : State) : (axPosSet a v s).mo a = { s.mo a with p := v * 2 ^ 24 } := by
  rw [axPosSet_eq, mo_of_shared (updAlert_ok ..) a rfl]
  simp [posMoved]

theorem rd_axPosSet {a addr : Nat} (h : addr < 0x70000) (v : Int) (s : State) : (axPosSet a v s).rd addr = (posMoved a v s).rd addr :=
  rd_of_shared (updAlert_ok ..) h rfl

theorem pair_axPosSet {a : Nat} (ha : a < 128) {v : Int} (h : -(2 ^ 63) ≤ v) (h' : v < 2 ^ 63) (s : State) :
    (axPosSet a v s).pair (AX_POS_LO a) = v := by
  have lo : (axPosSet a v s).rd (AX_POS_LO a) = (s.putPair (AX_POS_LO a) v).rd (AX_POS_LO a) := by
    rw [rd_axPosSet (by simp only [AX_POS_LO]; omega), rd_posMoved (by simp only [AX_POS_LO, AX_STAT]; omega)
      (by simp only [AX_POS_LO, AX_WITST]; omega)]
  have hi : (axPosSet a v s).rd (AX_POS_LO a + 4) = (s.putPair (AX_POS_LO a) v).rd (AX_POS_LO a + 4) := by
    rw [rd_axPosSet (by simp only [AX_POS_LO]; omega), rd_posMoved (by simp only [AX_POS_LO, AX_STAT]; omega)
      (by simp only [AX_POS_LO, AX_WITST]; omega)]
  have put := pair_putPair (lo := AX_POS_LO a) h h' s
  unfold State.pair at put ⊢
  rwa [lo, hi]

theorem pml_axPosSet {a : Nat} (ha : a < 128) (v : Int) (s : State) : (axPosSet a v s).on (AX_STAT.PML a) = false := by
  have low : (axPosSet a v s).get (AX_STAT.PML a) = (posMoved a v s).get (AX_STAT.PML a) :=
    congrArg (wordField · 27 27) (rd_axPosSet (AX_STAT_lt ha) v s)
  refine on_eq_false (low.trans ?_)
  unfold posMoved
  rw [State.modSe_get, State.get_put_ne _ (by simp only [AX_STAT, AX_WITST]; omega), State.get_put_self _ (by simp) (by simp)]
  exact Nat.zero_mod _

theorem alignpend_axPosSet {a : Nat} (ha : a < 128) (v : Int) (s : State) : (axPosSet a v s).on (AX_WITST.ALIGNPEND a) = true := by
  have low : (axPosSet a v s).get (AX_WITST.ALIGNPEND a) = (posMoved a v s).get (AX_WITST.ALIGNPEND a) :=
    congrArg (wordField · 29 29) (rd_axPosSet (by simp only [AX_WITST]; omega) v s)
  have set : (posMoved a v s).get (AX_WITST.ALIGNPEND a) = 1 % 2 ^ (29 + 1 - 29) := by
    unfold posMoved
    rw [State.modSe_get, State.get_put_self _ (by simp) (by simp)]
  exact decide_eq_true (by rw [low, set]; decide)

/-! ### The record of a clamp, R87 -/

/-- The words of a clamp's record. -/
def clampShown (addr : Nat) (pair : Bool) (c : Clamp) (s : State) : State :=
  let u := if s.on GCTL_CLAMPADDR.VALID then s.put GCTL_CLAMPADDR.MORE 1 else s
  let u := (((u.put GCTL_CLAMPADDR.VALID 1).putB GCTL_CLAMPADDR.PAIR pair).put GCTL_CLAMPADDR.ADDR addr)
  let u := ((u.wr GCTL_CLAMPREQ (BitVec.ofNat 32 c.req)).wr GCTL_CLAMPAPP (BitVec.ofNat 32 c.app))
  (u.wr GCTL_CLAMPREQHI (BitVec.ofNat 32 (c.req / 2 ^ 32))).wr GCTL_CLAMPAPPHI (BitVec.ofNat 32 (c.app / 2 ^ 32))

theorem recordClamp_eq (addr : Nat) (pair : Bool) (c : Clamp) (s : State) :
    recordClamp addr pair c s = pend 118 0 0 (reportClamp addr c (clampShown addr pair c s)) := rfl

theorem get_clampShown {addr : Nat} (h : addr < 2 ^ 24) (pair : Bool) (c : Clamp) (s : State) :
    (clampShown addr pair c s).on GCTL_CLAMPADDR.VALID = true ∧ (clampShown addr pair c s).get GCTL_CLAMPADDR.ADDR = addr := by
  unfold clampShown
  refine ⟨decide_eq_true ?_, ?_⟩
  · rw [State.get_wr_ne _ (by decide), State.get_wr_ne _ (by decide), State.get_wr_ne _ (by decide), State.get_wr_ne _ (by decide),
      State.get_put_disj _ (by decide) (by decide), State.putB, State.get_put_disj _ (by decide) (by decide),
      State.get_put_self _ (by decide) (by decide)]
    decide
  · rw [State.get_wr_ne _ (by decide), State.get_wr_ne _ (by decide), State.get_wr_ne _ (by decide), State.get_wr_ne _ (by decide),
      State.get_put_self _ (by decide) (by decide)]
    exact Nat.mod_eq_of_lt h

theorem recordClamp_shows {addr : Nat} (h : addr < 2 ^ 24) (pair : Bool) (c : Clamp) (s : State) :
    let t := recordClamp addr pair c s
    t.on GCTL_CLAMPADDR.VALID = true ∧ t.get GCTL_CLAMPADDR.ADDR = addr ∧ t.evPending 118 = true := by
  obtain ⟨valid, shown⟩ := get_clampShown h pair c s
  have same : Frame _ (clampShown addr pair c s) (recordClamp addr pair c s) :=
    (Ok.via (pend_ok 118 0 0 _) (W := [.net, .trioQ, .emcyQ, .logQ, .logWin, .reg .EV_PEND, .reg .MGS_LOGSTAT]) rfl
      ((reportClamp_ok addr c _).mono rfl)).1
  exact ⟨(same.on_of (by decide)).trans valid, (same.get_of (by decide)).trans shown, evPending_pend (by decide)⟩

/-! ### AX_POS_WRITE -/

theorem port_of_frame {W : List Part} {s t : State} (h : Frame W s t)
    (hw : .hostPair ∉ W ∧ .trioPair ∉ W ∧ .mgsPair ∉ W ∧ .canPair ∉ W) (m : Master) : t.port m = s.port m := by
  obtain ⟨host, trio, mgs, can⟩ := hw
  cases m with
  | host => exact h.1 .hostPair host
  | trio => exact h.1 .trioPair trio
  | mgs => exact h.1 .mgsPair mgs
  | _ => exact h.1 .canPair can

/-- The state in which the pair of a position is committed: its LO word was staged, and no word waits any more. -/
def posBase (m : Master) (a : Nat) (lo : Word) (s : State) : State :=
  let u := stageLo m (AX_POS_LO a) lo s
  u.setPort m { u.port m with stage := none }

/-- What the two writes of a position leave of it. -/
def posWritten (m : Master) (a : Nat) (lo : Word) (v : Int) (s : State) : State :=
  (axPosSet a (posApplied v) (posClamped (AX_POS_LO a) v (posBase m a lo s))).answer m .done

/-- What the write stage of a position can change. -/
def stageParts : List Part := pairParts ++ [.replies, .reg .GCTL_SEQERR]

theorem posBase_frame (m : Master) (a : Nat) (lo : Word) (s : State) : Frame stageParts s (posBase m a lo s) :=
  (Ok.via (State.setPort_ok ..) rfl ((stageLo_ok m (AX_POS_LO a) lo s).mono rfl)).1

theorem axPosWrite_eq {m : Master} {a : Fin 128} {lo hi : Word} {s : State} (hl : s.mayWrite m (AX_POS_LO a))
    (hh : s.mayWrite m (AX_POS_HI a)) (ht : s.posTakes a) :
    execAxPosWrite m a lo hi s = .next (posWritten m a lo (signed 64 (lo.toNat + 2 ^ 32 * hi.toNat)) s) := by
  have low : AX_POS_LO a < 0x20000 := by simp only [AX_POS_LO]; omega
  have high : AX_POS_HI a < 0x20000 := by simp only [AX_POS_HI]; omega
  have below : AX_POS_HI a - 4 = AX_POS_LO a := by simp only [AX_POS_HI, AX_POS_LO]; omega
  have first := regWrite_lo (v := lo) hl (locate_AX_POS_LO a) (by omega) rfl
  have stage : ((stageLo m (AX_POS_LO a) lo s).port m).stage = some (AX_POS_HI a - 4, lo) := below ▸ stage_stageLo m (AX_POS_LO a) lo s
  have may : (stageLo m (AX_POS_LO a) lo s).mayWrite m (AX_POS_HI a) :=
    mayWrite_of_frame (stageLo_ok m (AX_POS_LO a) lo s).1 (by decide) (coachOf_low high) hh
  have takes : (posBase m a lo s).posTakes a := by
    have frame := posBase_frame m a lo s
    have enabled : (posBase m a lo s).enabled a = s.enabled a :=
      congrArg (fun w => decide (wordField w 30 30 ≠ 0))
        (frame.rd_range (lo := 0x10000) (hi := 0x20000) (by decide) (by simp only [AX_STAT]; omega))
    have state : (posBase m a lo s).get (AX_SSTAT.STATE a) = s.get (AX_SSTAT.STATE a) :=
      congrArg (wordField · 2 0) (frame.rd_range (lo := 0x10000) (hi := 0x20000) (by decide) (by simp only [AX_SSTAT]; omega))
    unfold State.posTakes
    rwa [enabled, state]
  have second := pairHiWrite_eq (v := hi) may (locate_AX_POS_HI a) (by omega) rfl (below.symm ▸ locate_AX_POS_LO a) stage
  rw [below] at second
  unfold execAxPosWrite
  rw [first]
  dsimp only
  rw [if_pos (reply_stageLo ..), second]
  exact congrArg _ (commitPair_AX_POS takes)

theorem posClamped_same {v : Int} (h : posApplied v = v) (addr : Nat) (s : State) : posClamped addr v s = s := if_pos h

theorem posClamped_moved {v : Int} (h : posApplied v ≠ v) (addr : Nat) (s : State) :
    posClamped addr v s = recordClamp addr true ⟨unsigned 64 v, unsigned 64 (posApplied v), 64, 0⟩ s := if_neg h

theorem posClamped_ok (addr : Nat) (v : Int) (s : State) : Ok clampParts s (posClamped addr v s) :=
  .ite .refl ((recordClamp_ok ..).mono rfl)

/-- What a write of a position can change, but for the record of a clamp. -/
def posParts : List Part :=
  pairParts ++ eventParts
    ++ [.replies, .axes, .reg .GCTL_SEQERR, .reg .AX_POS_LO, .reg .AX_POS_HI, .reg .AX_STAT, .reg .AX_WITST, .reg .AXALERT]

theorem posWritten_frame {m : Master} {a : Nat} {lo : Word} {v : Int} {s : State} {W : List Part} (hw : posParts ⊆ W)
    (h : Frame W (posBase m a lo s) (posClamped (AX_POS_LO a) v (posBase m a lo s))) : Frame W s (posWritten m a lo v s) :=
  ((((posBase_frame m a lo s).subset (List.Subset.trans (by decide) hw)).trans h).trans
    ((axPosSet_ok a (posApplied v) _).1.subset (List.Subset.trans (by decide) hw))).trans
      ((State.answer_ok _ m .done).1.subset (List.Subset.trans (by decide) hw))

theorem port_posWritten (m : Master) (a : Nat) (lo : Word) (v : Int) (s : State) : ((posWritten m a lo v s).port m).stage = none := by
  have clamped := port_of_frame (posClamped_ok (AX_POS_LO a) v (posBase m a lo s)).1 (by decide) m
  have set := port_of_frame (axPosSet_ok a (posApplied v) (posClamped (AX_POS_LO a) v (posBase m a lo s))).1 (by decide) m
  unfold posWritten
  rw [State.port_answer, set, clamped, posBase, State.port_setPort]

theorem mo_posWritten (m : Master) (a : Nat) (lo : Word) (v : Int) (s : State) :
    (posWritten m a lo v s).mo a = { s.mo a with p := posApplied v * 2 ^ 24 } := by
  unfold posWritten
  rw [State.answer_mo, mo_axPosSet, (posClamped_ok ..).1.mo (by decide), (posBase_frame ..).mo (by decide)]

theorem posWritten_clamps {m : Master} {a : Nat} (ha : a < 128) {lo : Word} {v : Int} {s : State} (h : posApplied v ≠ v) :
    let t := posWritten m a lo v s
    t.on GCTL_CLAMPADDR.VALID = true ∧ t.get GCTL_CLAMPADDR.ADDR = AX_POS_LO a ∧ t.evPending 118 = true := by
  have addr : AX_POS_LO a < 2 ^ 24 := by simp only [AX_POS_LO]; omega
  obtain ⟨valid, shown, pends⟩ := recordClamp_shows addr true ⟨unsigned 64 v, unsigned 64 (posApplied v), 64, 0⟩ (posBase m a lo s)
  have kept := (axPosSet_ok a (posApplied v) (posClamped (AX_POS_LO a) v (posBase m a lo s))).1
  have word := pend3_axPosSet ha (posApplied v) (posClamped (AX_POS_LO a) v (posBase m a lo s))
  rw [posClamped_moved h] at kept word
  dsimp only
  unfold posWritten
  rw [posClamped_moved h]
  exact ⟨(kept.on_of (by decide)).trans valid, (kept.get_of (by decide)).trans shown,
    (congrArg (fun w : Word => w.getLsbD 22) word).trans pends⟩

/-- Settles O18: an edge passes every axis once (`axis_syncAxes`), and a position is committed by its HI word (`axPosWrite_eq`). -/
theorem syncAndPositionComplete : Obligations.SyncAndPositionComplete := by
  unfold Obligations.SyncAndPositionComplete
  intro s
  refine ⟨fun rising on => does_syncInEdge on, fun rising off => Does.of_eq rfl (if_neg (by rw [off]; decide)) rfl, ⟨_, rfl, rfl⟩, ?_⟩
  intro m a lo hi mayLo mayHi takes
  obtain ⟨least, most⟩ := posApplied_range (signed 64 (lo.toNat + 2 ^ 32 * hi.toNat))
  refine ⟨_, axPosWrite_eq mayLo mayHi takes, mo_posWritten .., pair_axPosSet a.isLt least most _, pml_axPosSet a.isLt ..,
    alignpend_axPosSet a.isLt .., port_posWritten .., State.reply_answer .., fun same => ?_, fun moved => ?_⟩
  · refine posWritten_frame (List.Subset.refl _) ?_
    rw [posClamped_same same]
    exact Frame.refl
  · obtain ⟨valid, shown, pends⟩ := posWritten_clamps (m := m) (lo := lo) (s := s) a.isLt moved
    exact ⟨valid, shown, pends, posWritten_frame (List.subset_append_left ..)
      ((posClamped_ok ..).1.subset (List.subset_append_right ..))⟩

end Sys2Proof.Machine

/-!
# O40: words the host writes, and the causes of its port's errors
-/
namespace Sys2Proof.Machine

/-! ### A write of GCTL_SCRATCH -/

/-- The state after a write of GCTL_SCRATCH that every check lets pass. -/
def scratchWritten (m : Master) (w : Word) (s : State) : State := (((s.setBad GCTL_SCRATCH false).wr GCTL_SCRATCH w)).answer m .done

theorem regWrite_scratch {m : Master} {s : State} (h : s.mayWrite m GCTL_SCRATCH) (w : Word) :
    regWrite m GCTL_SCRATCH w s = scratchWritten m w s := by
  have write := plain_eq (v := w) h locate_GCTL_SCRATCH (by decide) rfl rfl rfl
    (by rw [show reservedBits entry_GCTL_SCRATCH = 0 by decide]; exact Word.and_zero w) rfl rfl (fieldsFit_any rfl w) rfl
    (by decide) (by decide) (by rw [blockRefuses, lock_GCTL_SCRATCH, Bool.false_or]; rfl)
  rw [write, plain_GCTL_SCRATCH, storeWord_full (by decide) rfl (by decide)]
  rfl

theorem scratchWritten_ok (m : Master) (w : Word) (s : State) :
    Ok [.replies, .bad, .reg .GCTL_SCRATCH] s (scratchWritten m w s) :=
  Ok.via (State.answer_ok ..) rfl (Ok.via (State.wr_at (r := .GCTL_SCRATCH) ⟨0, 0, rfl⟩) rfl ((State.setBad_ok ..).mono rfl))

/-! ### The causes of host port errors, R348 -/

/-- The words of the record of a host port error: the first cause is kept, and a later one is noted. -/
def hostShown (cause addr code : Nat) (s : State) : State :=
  if s.on SPH_ERR.VALID then s.put SPH_ERR.MORE 1
  else (((s.put SPH_ERR.VALID 1).put SPH_ERR.CAUSE cause).put SPH_ERR.ADDR addr).put SPH_ERRCODE.CODE code

/-- The counter of a cause. -/
def hostCounted (cause : Nat) (s : State) : State :=
  if cause = 3 || cause = 4 then s.inc SPH_CNT.CRCERR else if cause = 6 then s.inc SPH_CNT.BUSYLIM else s

/-- The event source of a cause. -/
def hostSource (cause : Nat) : Nat := if cause = 6 then 112 else 111

theorem hostSource_lt (cause : Nat) : hostSource cause < 128 := by
  unfold hostSource
  split <;> decide

theorem hostCause_eq (cause addr code : Nat) (s : State) :
    hostCause cause addr code s = pendD4 (hostSource cause) 0 0 (hostCounted cause (hostShown cause addr code s)) := rfl

/-- What the record says of a cause. -/
def hostRecord (cause addr : Nat) (s t : State) : Prop :=
  t.on SPH_ERR.VALID = true ∧ (s.on SPH_ERR.VALID = false → t.get SPH_ERR.CAUSE = cause ∧ t.get SPH_ERR.ADDR = addr % 2 ^ 24)
    ∧ (s.on SPH_ERR.VALID = true → t.on SPH_ERR.MORE = true)

theorem hostRecord_hostShown {cause : Nat} (hc : cause < 16) (addr code : Nat) (s : State) :
    hostRecord cause addr s (hostShown cause addr code s) := by
  unfold hostRecord hostShown
  by_cases hv : s.on SPH_ERR.VALID = true
  · rw [if_pos hv]
    refine ⟨?_, fun h => absurd (hv.symm.trans h) (by decide), fun _ => State.on_put_self 1 (by decide) (by decide)⟩
    exact (congrArg (fun n => decide (n ≠ 0)) (State.get_put_disj 1 (by decide) (by decide))).trans hv
  · rw [if_neg hv]
    refine ⟨decide_eq_true ?_, fun _ => ⟨?_, ?_⟩, fun h => absurd h hv⟩
    · rw [State.get_put_ne _ (by decide), State.get_put_disj _ (by decide) (by decide), State.get_put_disj _ (by decide) (by decide),
        State.get_put_self _ (by decide) (by decide)]
      decide
    · rw [State.get_put_ne _ (by decide), State.get_put_disj _ (by decide) (by decide), State.get_put_self _ (by decide) (by decide)]
      exact Nat.mod_eq_of_lt hc
    · exact (State.get_put_ne _ (by decide)).trans (State.get_put_self _ (by decide) (by decide))

/-- The record is read from its own word alone. -/
theorem hostRecord_congr {cause addr : Nat} {s t t' : State} (h : hostRecord cause addr s t) (ht : t'.rd SPH_ERR = t.rd SPH_ERR) :
    hostRecord cause addr s t' := by
  unfold hostRecord State.on State.get at *
  simpa only [show SPH_ERR.VALID.addr = SPH_ERR from rfl, show SPH_ERR.MORE.addr = SPH_ERR from rfl,
    show SPH_ERR.CAUSE.addr = SPH_ERR from rfl, show SPH_ERR.ADDR.addr = SPH_ERR from rfl, ht] using h

theorem rd_pendD4_ne {src cause idx b : Nat} {s : State} (h : b ≠ MGS_LOGSTAT) (h' : b ≠ EV_PEND (src / 32)) :
    (pendD4 src cause idx s).rd b = s.rd b := by
  rw [pendD4_eq]
  split
  · rfl
  · exact rd_pend_ne h h'

theorem rd_hostShown_ne {b : Nat} (h : b ≠ SPH_ERR) (h' : b ≠ SPH_ERRCODE) (cause addr code : Nat) (s : State) :
    (hostShown cause addr code s).rd b = s.rd b := by
  unfold hostShown
  split
  · exact State.rd_put_ne _ h
  · rw [State.rd_put_ne _ h', State.rd_put_ne _ h, State.rd_put_ne _ h, State.rd_put_ne _ h]

theorem rd_hostCounted_ne {b : Nat} (h : b ≠ SPH_CNT) (cause : Nat) (s : State) : (hostCounted cause s).rd b = s.rd b := by
  unfold hostCounted
  split
  · exact State.rd_put_ne _ h
  · split
    · exact State.rd_put_ne _ h
    · rfl

/-- What the event of a cause changes is in other words. -/
theorem rd_hostCause {b : Nat} (h : 0xA0000 ≤ b ∧ b < 0xB0000) (cause addr code : Nat) (s : State) :
    (hostCause cause addr code s).rd b = (hostCounted cause (hostShown cause addr code s)).rd b := by
  have source : hostSource cause / 32 = 3 := by
    unfold hostSource
    split <;> rfl
  rw [hostCause_eq, rd_pendD4_ne (by simp only [MGS_LOGSTAT]; omega) (by rw [source]; simp only [EV_PEND]; omega)]

theorem hostShown_ok (cause addr code : Nat) (s : State) : Ok [.reg .SPH_ERR, .reg .SPH_ERRCODE] s (hostShown cause addr code s) := by
  have err {v : State} {f : Fld} {n : Nat} (hf : f.addr = SPH_ERR) : Ok [.reg .SPH_ERR] v (v.put f n) := State.put_at ⟨0, 0, hf⟩
  refine .ite ((err rfl).mono rfl) (Ok.via (State.put_at (r := .SPH_ERRCODE) ⟨0, 0, rfl⟩) rfl ?_)
  exact Ok.via (err rfl) rfl (Ok.via (err rfl) rfl (Ok.via (err rfl) rfl .refl))

theorem hostCounted_ok (cause : Nat) (s : State) : Ok [.reg .SPH_CNT] s (hostCounted cause s) :=
  .ite (State.inc_at ⟨0, 0, rfl⟩) (.ite (State.inc_at ⟨0, 0, rfl⟩) .refl)

theorem hostNoted_frame (cause addr code : Nat) (s : State) :
    Frame [.reg .SPH_ERR, .reg .SPH_ERRCODE, .reg .SPH_CNT] s (hostCounted cause (hostShown cause addr code s)) :=
  (Ok.via (hostCounted_ok ..) rfl ((hostShown_ok ..).mono rfl)).1

theorem hostRecord_hostCause {cause : Nat} (hc : cause < 16) (addr code : Nat) (s : State) :
    hostRecord cause addr s (hostCause cause addr code s) := by
  refine hostRecord_congr (hostRecord_hostShown hc addr code s) ?_
  rw [rd_hostCause (by decide), rd_hostCounted_ne (by decide)]

theorem noted_hostCause (cause addr code : Nat) (s : State) : noted (hostSource cause) 0 s (hostCause cause addr code s) := by
  have frame := hostNoted_frame cause addr code s
  have nap := napping_of_frame frame (by decide) (by decide)
  have power : (hostCounted cause (hostShown cause addr code s)).power = s.power := frame.1 .power (by decide)
  have done := noted_pendD4 (idx := 0) (hostSource_lt cause) (hostCounted cause (hostShown cause addr code s))
  unfold noted at done ⊢
  rwa [nap, power] at done

theorem hostCause_frame (cause addr code : Nat) (s : State) :
    Frame (d4Parts s ++ [.reg .SPH_ERR, .reg .SPH_ERRCODE, .reg .SPH_CNT]) s (hostCause cause addr code s) := by
  have frame := hostNoted_frame cause addr code s
  have d4 := pendD4_frame (hostSource cause) 0 0 (hostCounted cause (hostShown cause addr code s))
  rw [d4Parts, napping_of_frame frame (by decide) (by decide)] at d4
  exact (frame.subset (List.subset_append_right ..)).trans (d4.subset (List.subset_append_left ..))

theorem sph_hostCause (cause addr code : Nat) (s : State) : (hostCause cause addr code s).sph = s.sph :=
  (hostCause_ok ..).1.1 .sph (by decide)

/-- The frame in progress has failed for a cause, R348. -/
def hostFailed (cause addr : Nat) (s t : State) : Prop :=
  t.sph.failed = true ∧ noted (hostSource cause) 0 s t ∧ hostRecord cause addr s t

theorem hostFailed_hostFail {cause : Nat} (hc : cause < 16) (addr code : Nat) (s : State) :
    hostFailed cause addr s (hostFail cause addr code s) :=
  ⟨rfl, noted_hostCause cause addr code s, hostRecord_hostCause hc addr code s⟩

theorem sph_hostFail (cause addr code : Nat) (s : State) : (hostFail cause addr code s).sph = { s.sph with failed := true } :=
  congrArg (fun p : HostPort => { p with failed := true }) (sph_hostCause cause addr code s)

/-- The port is one of the parts that an error of it can change. -/
theorem port_subset (s : State) : [Part.sph] ⊆ hostErrorParts s :=
  List.cons_subset.mpr ⟨List.mem_append_right _ List.mem_cons_self, List.nil_subset _⟩

theorem hostFail_frame (cause addr code : Nat) (s : State) : Frame (hostErrorParts s) s (hostFail cause addr code s) := by
  have port : Frame [.sph] (hostCause cause addr code s) (hostFail cause addr code s) := (State.modSph_ok ..).1
  refine ((hostCause_frame cause addr code s).subset ?_).trans (port.subset (port_subset s))
  exact List.append_subset.mpr ⟨List.subset_append_left .., List.subset_append_of_subset_right _ (by decide)⟩

theorem busylim_hostFail (addr code : Nat) (s : State) :
    (hostFail 6 addr code s).get SPH_CNT.BUSYLIM = min SPH_CNT.BUSYLIM.max (s.get SPH_CNT.BUSYLIM + 1) := by
  have before : (hostShown 6 addr code s).get SPH_CNT.BUSYLIM = s.get SPH_CNT.BUSYLIM :=
    congrArg (wordField · 30 24) (rd_hostShown_ne (by decide) (by decide) 6 addr code s)
  have counted : (hostCounted 6 (hostShown 6 addr code s)).get SPH_CNT.BUSYLIM = _ :=
    get_inc_self (f := SPH_CNT.BUSYLIM) (hostShown 6 addr code s) (by decide) (by decide)
  have after : (hostFail 6 addr code s).get SPH_CNT.BUSYLIM = (hostCounted 6 (hostShown 6 addr code s)).get SPH_CNT.BUSYLIM :=
    congrArg (wordField · 30 24) (rd_hostCause (by decide) 6 addr code s)
  rw [after, counted, before]

end Sys2Proof.Machine

/-!
# O40: accesses of the host port under way
-/
namespace Sys2Proof.Machine

/-! ### Accesses of the host port under way, R345 -/

/-- Looking at accesses that wait for their answer changes nothing. -/
theorem hostPoll_waiting {s : State} (h : s.sph.reading = true ∨ s.sph.issue ≠ [] → s.reply .host = .waiting) : hostPoll s = s := by
  have taken : takeRead s = s := by
    unfold takeRead
    cases hr : s.sph.reading with
    | false => rfl
    | true => simp only [h (.inl hr), Bool.not_true, Bool.false_eq_true, if_false]
  unfold hostPoll
  simp only [taken]
  split
  · cases s.sph.reading <;> rfl
  · rename_i issue
    simp only [h (.inr (by rw [issue]; exact List.cons_ne_nil _ _))]

/-- Nothing of the host port waits to go on but the read of the next slot. -/
structure HostPort.Quiet (p : HostPort) : Prop where
  reading : p.reading = false
  issue : p.issue = []
  due : p.due = false
  full : p.full = false

theorem closeIdle_over {s : State} (h : s.sph.due = false) : closeIdle s = s := by
  unfold closeIdle
  simp only [h, Bool.false_and, Bool.false_eq_true, if_false]

theorem hostSettle_quiet {s : State} (h : s.sph.Quiet) :
    hostSettle s = if s.sph.reads && s.sph.got.isNone then issueRead s else s := by
  obtain ⟨reading, issue, due, full⟩ := h
  unfold hostSettle
  dsimp only
  rw [closeIdle_over due, full, Bool.and_false, if_neg Bool.false_ne_true, closeIdle_over due, issue, reading, full]
  simp only [List.isEmpty_nil, Bool.not_false, Bool.true_and, Bool.and_true]

theorem hostSettle_still {s : State} (h : s.sph.Quiet) (hr : s.sph.reads = false) : hostSettle s = s := by
  rw [hostSettle_quiet h, hr]
  rfl

/-! ### The read of the next slot, R346 -/

/-- The same frame of the host port, but for what the read of a slot changes. -/
def HostPort.SameSlot (p q : HostPort) : Prop :=
  q = { p with reading := q.reading, readAt := q.readAt, stale := q.stale, got := q.got, words := q.words, failed := q.failed }

/-- The read of the next slot is under way. -/
def readIssued (s : State) : State :=
  (busRead .host .word s.sph.addr s).modSph fun p => { p with reading := true, readAt := p.addr, stale := 0 }

theorem issueRead_eq (s : State) : issueRead s = takeRead (readIssued s) := rfl

theorem sph_readIssued (s : State) : (readIssued s).sph = { s.sph with reading := true, readAt := s.sph.addr, stale := 0 } :=
  congrArg (fun p : HostPort => { p with reading := true, readAt := p.addr, stale := 0 }) ((busRead_ok ..).1.1 .sph (by decide))

theorem sameSlot_issueRead (s : State) : s.sph.SameSlot (issueRead s).sph := by
  have sph := sph_readIssued s
  have reading : (readIssued s).sph.reading = true := by rw [sph]
  have stale : (readIssued s).sph.stale = 0 := by rw [sph]
  rw [issueRead_eq, takeRead, reading]
  simp only [Bool.not_true, Bool.false_eq_true, if_false, stale, if_true]
  unfold HostPort.SameSlot
  split
  · simp only [readTaken, State.modSph, sph]
  · simp only [sph_hostFail, readTaken, State.modSph, sph]
  · rw [sph]

/-- GCTL_SCRATCH reads its latest value. -/
theorem readWord_scratch (s : State) : s.readWord scratchLoc GCTL_SCRATCH = s.latest GCTL_SCRATCH := by
  have snap : (if s.fabricOn then scratchLoc.defn.snapMask else 0) = 0 :=
    ite_eq_right_iff.mpr fun _ => show scratchLoc.defn.snapMask = 0 by decide
  have wo : scratchLoc.defn.maskOf (fun f => f.ty = .wo) = 0 := by decide
  show s.fieldWord scratchLoc GCTL_SCRATCH = _
  unfold State.fieldWord
  dsimp only
  rw [snap, wo]
  simp only [Word.and_zero, Word.not_zero, Word.and_ones, Word.zero_or]

/-- The state after a read of GCTL_SCRATCH that every check lets pass. -/
theorem busRead_scratch {s : State} {m : Master} (h : s.mayRead m GCTL_SCRATCH) (hb : s.isBad GCTL_SCRATCH = false) :
    busRead m .word GCTL_SCRATCH s = s.answer m (.data (s.latest GCTL_SCRATCH)) := by
  rw [busRead_eq h locate_GCTL_SCRATCH (by decide) rfl hb (by decide)]
  exact congrArg (fun w => s.answer m (.data w)) (readWord_scratch s)

/-- A read of GCTL_SCRATCH for a slot is answered at once. -/
theorem issueRead_scratch {s : State} (ha : s.sph.addr = GCTL_SCRATCH) (hf : s.sph.failed = false)
    (h : s.mayRead .host GCTL_SCRATCH) (hb : s.isBad GCTL_SCRATCH = false) :
    (issueRead s).sph.got = some (s.latest GCTL_SCRATCH) ∧ Frame [.sph, .replies] s (issueRead s) := by
  have read : readIssued s = (s.answer .host (.data (s.latest GCTL_SCRATCH))).modSph fun p =>
      { p with reading := true, readAt := p.addr, stale := 0 } := by
    rw [readIssued, ha, busRead_scratch h hb]
  have reply : (readIssued s).reply .host = .data (s.latest GCTL_SCRATCH) := by
    rw [read]
    show (s.answer .host (.data (s.latest GCTL_SCRATCH))).reply .host = _
    rw [State.reply_answer]
  have sph := sph_readIssued s
  have taken : issueRead s = readTaken (some (s.latest GCTL_SCRATCH)) 1 (readIssued s) := by
    rw [issueRead_eq, takeRead]
    simp only [reply, sph, hf, Bool.not_true, Bool.false_eq_true, if_false, if_true]
  rw [taken]
  refine ⟨rfl, ?_⟩
  rw [read]
  exact (Ok.via (State.modSph_ok ..) rfl (Ok.via (State.modSph_ok ..) rfl ((State.answer_ok ..).mono rfl))).1

end Sys2Proof.Machine

/-!
# O40: the start of a frame of the host port
-/
namespace Sys2Proof.Machine

/-! ### A frame begins, R342 and R343 -/

/-- The port at the start of a frame. -/
def frameBegun (mode3 : Bool) (s : State) : State :=
  s.modSph fun p =>
    { p with inFrame := true, early := false, mode3 := mode3, dead := false, headed := false, words := 0, failed := false,
             got := none, miso := [], out := [] }

theorem landClass_none {c : BufClass} {p : Nat → Bool} {s : State} (h : ∀ x ∈ s.staged, p x.1 = false) : landClass c p s = s := by
  have none : (s.staged.map (·.1)).filter p = [] := by
    refine List.filter_eq_nil_iff.mpr fun a ha => ?_
    obtain ⟨x, hx, rfl⟩ := List.mem_map.mp ha
    rw [h x hx]
    exact Bool.false_ne_true
  unfold landClass
  rw [none]
  split
  · rfl
  · rfl

/-- Bytes with the CRC byte that belongs to them pass the check of R352, if there is one. -/
theorem crcBad_false {checks : Bool} {got is : BitVec 8} (h : checks = true → got = is) : (checks && decide (is ≠ got)) = false := by
  cases checks with
  | false => rfl
  | true => rw [h rfl]; exact decide_eq_false fun ne => ne rfl

/-- The header of a frame has been received. -/
def frameHeaded (mode3 : Bool) (c a : Nat) (s : State) : State :=
  (sendBytes (s.get SPH_STAT.OUTCOME :: List.replicate (3 + b2n s.hostCrc) 0) (frameBegun mode3 s)).modSph fun p =>
    { p with headed := true, cmd := c, start := a, addr := a }

section
variable {s : State} (mode3 : Bool)

theorem frameStart_eq (hr : s.power.inReset = false) (h0 : s.runState = 0) (hs : ∀ x ∈ s.staged, x.1 ≠ SPH_CFG)
    (hp : portIdle s) (h : Option HostHead) :
    frameStart mode3 h s = match h with
      | none => frameBegun mode3 s
      | some x =>
        let u := frameHeaded mode3 x.cmd.toNat x.addr.toNat s
        if s.hostCrc && decide (crc8 (x.cmd.toNat :: beBytes 3 x.addr.toNat) ≠ x.crc) then hostFail 3 x.addr.toNat 0 u
        else if !hostCommand x.cmd.toNat then hostFail 2 x.addr.toNat 0 u
        else hostSettle u := by
  have land : landClass .hostFrame (· = SPH_CFG) s = s := landClass_none fun x hx => decide_eq_false (hs x hx)
  have three : ¬ s.runState = 3 := by rw [h0]; decide
  have one : ¬ s.runState = 1 := by rw [h0]; decide
  unfold frameStart
  rw [hr, if_neg Bool.false_ne_true, if_neg three, if_neg one]
  dsimp only
  rw [land, hostPoll_idle hp]
  cases h <;> rfl

end

end Sys2Proof.Machine

namespace Sys2Proof.Machine

/-- The read of the next slot has been issued and answered, where it is one of GCTL_SCRATCH that every check lets pass. -/
def readsNext (s : State) (addr : Nat) (t : State) : Prop :=
  addr = GCTL_SCRATCH → s.mayRead .host GCTL_SCRATCH → s.isBad GCTL_SCRATCH = false →
    t.sph.got = some (s.latest GCTL_SCRATCH) ∧ Frame [.sph, .replies] s t

theorem readsNext_issueRead {p : HostPort} (hf : p.failed = false) (s : State) :
    readsNext s p.addr (issueRead { s with sph := p }) := by
  intro addr may good
  obtain ⟨got, frame⟩ := issueRead_scratch (s := { s with sph := p }) addr hf may good
  have port : Frame [.sph] s { s with sph := p } := Ok.sph.1
  exact ⟨got, (port.subset (by decide)).trans frame⟩

section
variable {s : State} {mode3 : Bool} (hr : s.power.inReset = false) (h0 : s.runState = 0) (hs : ∀ x ∈ s.staged, x.1 ≠ SPH_CFG)
  (hp : portIdle s)
include hr h0 hs hp

theorem does_hostFrameStart_none : Does (.hostFrameStart mode3 none) s fun t =>
    t.sph.inFrame = true ∧ t.sph.headed = false ∧ t.sph.mode3 = mode3 ∧ t.sph.miso = [] ∧ t.sph.out = [] ∧ Frame [.sph] s t :=
  Does.of_eq rfl (frameStart_eq mode3 hr h0 hs hp none) ⟨rfl, rfl, rfl, rfl, rfl, (State.modSph_ok ..).1⟩

end

section
variable {s : State} {mode3 : Bool} {h : HostHead}

/-- The bytes that a header leaves on MISO. -/
def headerBytes (s : State) : List Nat := s.get SPH_STAT.OUTCOME :: 0 :: 0 :: 0 :: List.replicate (b2n s.hostCrc) 0

theorem out_frameHeaded (c a : Nat) : (frameHeaded mode3 c a s).sph.out = headerBytes s := by
  have zeros : List.replicate (3 + b2n s.hostCrc) 0 = 0 :: 0 :: 0 :: List.replicate (b2n s.hostCrc) 0 := by
    rw [Nat.add_comm]
    rfl
  show [] ++ s.get SPH_STAT.OUTCOME :: List.replicate (3 + b2n s.hostCrc) 0 = _
  rw [zeros]
  rfl

theorem quiet_frameHeaded (hp : portIdle s) (hn : noneWaits s) (c a : Nat) : (frameHeaded mode3 c a s).sph.Quiet := by
  obtain ⟨reading, issue⟩ := hp
  obtain ⟨-, full, -, -, -, -, due⟩ := hn
  exact ⟨reading, issue, due, full⟩

theorem reads_frameHeaded (c a : Nat) : (frameHeaded mode3 c a s).sph.reads = (decide (c = 0x03) || decide (c = 0x0B)) := rfl

theorem frameHeaded_frame (c a : Nat) : Frame [.sph] s (frameHeaded mode3 c a s) :=
  Ok.sph (s := s) (x := (frameHeaded mode3 c a s).sph).1

/-- What the start of a frame with a good header leaves, R343. -/
def hostStarted (h : HostHead) (s t : State) : Prop :=
  t.sph.inFrame = true ∧ t.sph.headed = true ∧ t.sph.cmd = h.cmd.toNat ∧ t.sph.start = h.addr.toNat
    ∧ t.sph.addr = h.addr.toNat ∧ t.sph.miso = [] ∧ t.sph.out = headerBytes s
    ∧ (h.cmd = 0x02 ∨ h.cmd = 0x0A ∨ h.cmd = 0x05 →
        t.slotOpen h.cmd.toNat = true ∧ t.sph.words = 0 ∧ Frame [.sph] s t)
    ∧ (h.cmd = 0x03 ∨ h.cmd = 0x0B → readsNext s h.addr.toNat t)

theorem hostStarted_hostSettle (hp : portIdle s) (hn : noneWaits s) :
    hostStarted h s (hostSettle (frameHeaded mode3 h.cmd.toNat h.addr.toNat s)) := by
  have quiet := quiet_frameHeaded (mode3 := mode3) hp hn h.cmd.toNat h.addr.toNat
  have out := out_frameHeaded (s := s) (mode3 := mode3) h.cmd.toNat h.addr.toNat
  have settle := hostSettle_quiet quiet
  by_cases hc : h.cmd = 0x03 ∨ h.cmd = 0x0B
  · have reads : (frameHeaded mode3 h.cmd.toNat h.addr.toNat s).sph.reads = true := by
      rw [reads_frameHeaded]
      rcases hc with hc | hc <;> rw [hc] <;> rfl
    have issue : hostSettle (frameHeaded mode3 h.cmd.toNat h.addr.toNat s) = issueRead (frameHeaded mode3 h.cmd.toNat h.addr.toNat s) := by
      rw [settle, reads]
      rfl
    have same := sameSlot_issueRead (frameHeaded mode3 h.cmd.toNat h.addr.toNat s)
    rw [issue]
    unfold hostStarted
    rw [same]
    refine ⟨rfl, rfl, rfl, rfl, rfl, rfl, out, fun other => ?_, fun _ =>
      readsNext_issueRead (p := (frameHeaded mode3 h.cmd.toNat h.addr.toNat s).sph) rfl s⟩
    exact absurd hc (by rcases other with hc | hc | hc <;> rw [hc] <;> decide)
  · have reads : (frameHeaded mode3 h.cmd.toNat h.addr.toNat s).sph.reads = false := by
      rw [reads_frameHeaded]
      refine Bool.eq_false_iff.mpr fun e => hc ?_
      simp only [Bool.or_eq_true, decide_eq_true_eq] at e
      exact e.imp (fun e => BitVec.eq_of_toNat_eq e) fun e => BitVec.eq_of_toNat_eq e
    rw [hostSettle_still quiet reads]
    exact ⟨rfl, rfl, rfl, rfl, rfl, rfl, out, fun _ => ⟨by simp [State.slotOpen, frameHeaded, frameBegun, State.modSph, sendBytes], rfl,
      frameHeaded_frame ..⟩, fun e => absurd e hc⟩

/-- A cause that fails the frame in progress. -/
theorem fails_frameHeaded {cause : Nat} (hc : cause < 16) (c a addr : Nat) :
    let t := hostFail cause addr 0 (frameHeaded mode3 c a s)
    hostFailed cause addr s t ∧ t.sph.refusing = true ∧ t.sph.out = headerBytes s ∧ Frame (hostErrorParts s) s t := by
  have failed : hostFailed cause addr s (hostFail cause addr 0 (frameHeaded mode3 c a s)) :=
    hostFailed_hostFail hc addr 0 (frameHeaded mode3 c a s)
  have frame : Frame (hostErrorParts s) (frameHeaded mode3 c a s) (hostFail cause addr 0 (frameHeaded mode3 c a s)) :=
    hostFail_frame cause addr 0 (frameHeaded mode3 c a s)
  have sph := sph_hostFail cause addr 0 (frameHeaded mode3 c a s)
  dsimp only
  refine ⟨failed, by rw [sph]; rfl, by rw [sph]; exact out_frameHeaded c a, ((frameHeaded_frame c a).subset ?_).trans frame⟩
  exact port_subset s

variable (hr : s.power.inReset = false) (h0 : s.runState = 0) (hs : ∀ x ∈ s.staged, x.1 ≠ SPH_CFG) (hp : portIdle s)
include hr h0 hs hp

theorem does_hostFrameStart (hn : noneWaits s) (hc : hostCommand h.cmd.toNat = true)
    (hk : s.hostCrc = true → h.crc = crc8 (h.cmd.toNat :: beBytes 3 h.addr.toNat)) :
    Does (.hostFrameStart mode3 (some h)) s (hostStarted h s) := by
  have start := frameStart_eq mode3 hr h0 hs hp (some h)
  dsimp only at start
  rw [crcBad_false hk, hc, if_neg Bool.false_ne_true, Bool.not_true, if_neg Bool.false_ne_true] at start
  exact Does.of_eq rfl start (hostStarted_hostSettle hp hn)

theorem does_hostFrameStart_crc (hk : s.hostCrc = true) (hw : h.crc ≠ crc8 (h.cmd.toNat :: beBytes 3 h.addr.toNat)) :
    Does (.hostFrameStart mode3 (some h)) s fun t =>
      hostFailed 3 h.addr.toNat s t ∧ t.sph.refusing = true ∧ t.sph.out = headerBytes s ∧ Frame (hostErrorParts s) s t := by
  have start := frameStart_eq mode3 hr h0 hs hp (some h)
  dsimp only at start
  rw [hk, Bool.true_and, if_pos (decide_eq_true hw.symm)] at start
  exact Does.of_eq rfl start (fails_frameHeaded (by decide) ..)

theorem does_hostFrameStart_command (hc : hostCommand h.cmd.toNat = false)
    (hk : s.hostCrc = true → h.crc = crc8 (h.cmd.toNat :: beBytes 3 h.addr.toNat)) :
    Does (.hostFrameStart mode3 (some h)) s fun t =>
      hostFailed 2 h.addr.toNat s t ∧ t.sph.refusing = true ∧ t.sph.out = headerBytes s ∧ Frame (hostErrorParts s) s t := by
  have start := frameStart_eq mode3 hr h0 hs hp (some h)
  dsimp only at start
  rw [crcBad_false hk, hc, if_neg Bool.false_ne_true, Bool.not_false, if_pos rfl] at start
  exact Does.of_eq rfl start (fails_frameHeaded (by decide) ..)

end

/-- A frame that starts before the reset sequence ends, R353. -/
theorem does_hostFrameStart_early {s : State} (hr : s.power.inReset = true) (mode3 : Bool) (h : Option HostHead) :
    Does (.hostFrameStart mode3 h) s fun t =>
      t.sph.early = true ∧ t.sph.out = (if h.isSome then List.replicate (4 + b2n s.hostCrc) 0xE1 else []) ∧ Frame [.sph] s t := by
  have start : frameStart mode3 h s = s.modSph fun p =>
      { p with inFrame := true, early := true, mode3 := mode3, miso := [],
               out := List.replicate (if h.isSome then 4 + b2n s.hostCrc else 0) 0xE1 } := by
    rw [frameStart, if_pos hr]
  refine Does.of_eq rfl start ⟨rfl, ?_, (State.modSph_ok ..).1⟩
  cases h <;> rfl

/-! ### Slots, R343 to R349 -/

/-- A slot of a frame that has failed or started too early, R348 and R353. -/
theorem deadSlot_effect (s : State) :
    (deadSlot s).sph = { s.sph with dead := true, out := s.sph.out ++ List.replicate (5 + b2n s.hostCrc) 0xE1 }
      ∧ Frame [.sph] s (deadSlot s) := ⟨rfl, Ok.sph.1⟩

theorem hostReadSlot_refusing {s : State} (hp : portIdle s) (h : s.sph.refusing = true) (fixed : Bool) :
    hostReadSlot fixed s = deadSlot s := by
  unfold hostReadSlot
  dsimp only
  rw [hostPoll_idle hp, if_pos h]

theorem hostWriteSlot_refusing {s : State} (hp : portIdle s) (h : s.sph.refusing = true) (fixed : Bool) (w : Word) (crc : BitVec 8) :
    hostWriteSlot fixed w crc s = deadSlot s := by
  unfold hostWriteSlot
  dsimp only
  rw [hostPoll_idle hp, if_pos h]

theorem hostStatusSlot_refusing {s : State} (hp : portIdle s) (h : s.sph.refusing = true) : hostStatusSlot s = deadSlot s := by
  unfold hostStatusSlot
  dsimp only
  rw [hostPoll_idle hp, if_pos h]

/-- What an open slot says of its frame. -/
theorem slotOpen_iff {s : State} {c : Nat} :
    s.slotOpen c = true ↔
      s.sph.inFrame = true ∧ s.sph.early = false ∧ s.sph.headed = true ∧ s.sph.failed = false ∧ s.sph.cmd = c := by
  simp only [State.slotOpen, Bool.and_eq_true, Bool.not_eq_true', decide_eq_true_eq, and_assoc]

theorem refusing_of_slotOpen {s : State} {c : Nat} (h : s.slotOpen c = true) : s.sph.refusing = false := by
  obtain ⟨-, early, -, failed, -⟩ := slotOpen_iff.mp h
  simp only [HostPort.refusing, early, failed, Bool.and_false, Bool.or_false]

theorem reads_of_slotOpen {s : State} {c : Nat} (h : s.slotOpen c = true) :
    s.sph.reads = (decide (c = 0x03) || decide (c = 0x0B)) := by
  obtain ⟨inFrame, -, headed, failed, cmd⟩ := slotOpen_iff.mp h
  simp only [HostPort.reads, inFrame, headed, failed, cmd, Bool.true_and, Bool.not_false]

theorem quiet_of_noneWaits {s : State} (hp : portIdle s) (hn : noneWaits s) : s.sph.Quiet := by
  obtain ⟨reading, issue⟩ := hp
  obtain ⟨-, full, -, -, -, -, due⟩ := hn
  exact ⟨reading, issue, due, full⟩

/-- The command of a slot of READ and of READ FIXED. -/
def readCommand (fixed : Bool) : Nat := if fixed then 0x0B else 0x03

/-- The word of a read slot has been sent, and the address of the next one is set. -/
def slotSent (fixed : Bool) (w : Word) (s : State) : State :=
  (sendWord w s).modSph fun p => { p with got := none, addr := nextAddr fixed p.addr }

theorem hostReadSlot_word {s : State} {fixed : Bool} {w : Word} (hg : s.sph.got = some w) (hi : inSlot s (readCommand fixed)) :
    hostReadSlot fixed s = issueRead (slotSent fixed w s) := by
  obtain ⟨idle, slot, waits⟩ := hi
  have settle : hostSettle (slotSent fixed w s) = issueRead (slotSent fixed w s) := by
    have quiet : (slotSent fixed w s).sph.Quiet := by
      obtain ⟨reading, issue, due, full⟩ := quiet_of_noneWaits idle waits
      exact ⟨reading, issue, due, full⟩
    have reads : (slotSent fixed w s).sph.reads = true := by
      refine (reads_of_slotOpen slot).trans ?_
      cases fixed <;> rfl
    rw [hostSettle_quiet quiet, reads]
    rfl
  unfold hostReadSlot
  dsimp only
  rw [hostPoll_idle idle, refusing_of_slotOpen slot, if_neg Bool.false_ne_true,
    show (if fixed = true then 0x0B else 0x03) = readCommand fixed from rfl, slot, Bool.not_true, if_neg Bool.false_ne_true, hg]
  exact settle

theorem hostRead_effect {s : State} {fixed : Bool} {w : Word} (hg : s.sph.got = some w) (hi : inSlot s (readCommand fixed)) :
    let t := hostReadSlot fixed s
    (t.sph.miso = w :: s.sph.miso ∧ t.sph.out = s.sph.out ++ 0xA5 :: s.dataBytes w) ∧ t.sph.addr = nextAddr fixed s.sph.addr
      ∧ readsNext s (nextAddr fixed s.sph.addr) t := by
  have same := sameSlot_issueRead (slotSent fixed w s)
  obtain ⟨-, -, -, failed, -⟩ := slotOpen_iff.mp hi.2.1
  dsimp only
  rw [hostReadSlot_word hg hi]
  refine ⟨?_, ?_, readsNext_issueRead (p := (slotSent fixed w s).sph) failed s⟩
  · rw [same]
    exact ⟨rfl, rfl⟩
  · rw [same]
    rfl

end Sys2Proof.Machine

/-!
# O40: slots that write
-/
namespace Sys2Proof.Machine

/-- A slot passes a busy byte, R345. -/
theorem busy_effect (s : State) :
    (sendBytes [0x5A] s).sph = { s.sph with out := s.sph.out ++ [0x5A] } ∧ Frame [.sph] s (sendBytes [0x5A] s) := ⟨rfl, Ok.sph.1⟩

theorem hostReadSlot_busy {s : State} {fixed : Bool} (hp : hostPoll s = s) (hs : s.slotOpen (readCommand fixed) = true)
    (hg : s.sph.got = none) : hostReadSlot fixed s = sendBytes [0x5A] s := by
  unfold hostReadSlot
  dsimp only
  rw [hp, refusing_of_slotOpen hs, if_neg Bool.false_ne_true, show (if fixed = true then 0x0B else 0x03) = readCommand fixed from rfl,
    hs, Bool.not_true, if_neg Bool.false_ne_true, hg]

/-- The command of a slot of WRITE and of WRITE FIXED. -/
def writeCommand (fixed : Bool) : Nat := if fixed then 0x0A else 0x02

theorem hostWriteSlot_open {s : State} {fixed : Bool} (hp : hostPoll s = s) (hs : s.slotOpen (writeCommand fixed) = true) (w : Word)
    (crc : BitVec 8) :
    hostWriteSlot fixed w crc s =
      if s.sph.buffersHeld then sendBytes [0x5A] s
      else
        let u := sendBytes (0xA5 :: List.replicate (4 + b2n s.hostCrc) 0) s
        if s.hostCrc && decide (crc8 (beBytes 4 w.toNat) ≠ crc) then hostFail 4 s.sph.addr 0 u
        else
          let a := s.sph.addr
          let other : Bool := !s.sph.full && s.sph.block.any fun x => x.1 / 64 ≠ a / 64
          let u := if other then hostSettle (u.modSph fun p => { p with full := true }) else u
          if u.sph.failed then u
          else hostSettle (u.modSph fun p => { p.buffer (a, w) (fixed || a % 64 = 0x3C) with addr := nextAddr fixed a }) := by
  unfold hostWriteSlot
  dsimp only
  rw [hp, refusing_of_slotOpen hs, if_neg Bool.false_ne_true, show (if fixed = true then 0x0A else 0x02) = writeCommand fixed from rfl,
    hs, Bool.not_true, if_neg Bool.false_ne_true]
  rfl

/-- The bytes of a slot that takes a word. -/
def takenBytes (s : State) : List Nat := 0xA5 :: 0 :: 0 :: 0 :: 0 :: List.replicate (b2n s.hostCrc) 0

theorem takenBytes_eq (s : State) : 0xA5 :: List.replicate (4 + b2n s.hostCrc) 0 = takenBytes s := by
  rw [Nat.add_comm]
  rfl

/-- The word of a slot goes to the buffer that gathers. -/
def wordBuffered (fixed : Bool) (w : Word) (s : State) : State :=
  (sendBytes (takenBytes s) s).modSph fun p =>
    { p.buffer (s.sph.addr, w) (fixed || decide (s.sph.addr % 64 = 0x3C)) with addr := nextAddr fixed s.sph.addr }

section
variable {s : State} {fixed : Bool} {w : Word} {crc : BitVec 8} (hi : inSlot s (writeCommand fixed))
include hi

theorem hostWriteSlot_takes (hk : s.hostCrc = true → crc = crc8 (beBytes 4 w.toNat))
    (hb : ∀ x ∈ s.sph.block, x.1 / 64 = s.sph.addr / 64) :
    hostWriteSlot fixed w crc s = hostSettle (wordBuffered fixed w s) := by
  obtain ⟨idle, slot, waits⟩ := hi
  obtain ⟨-, -, -, failed, -⟩ := slotOpen_iff.mp slot
  have held : s.sph.buffersHeld = false := by simp only [HostPort.buffersHeld, (quiet_of_noneWaits idle waits).full, Bool.false_and]
  have same : (!s.sph.full && s.sph.block.any fun x => decide (x.1 / 64 ≠ s.sph.addr / 64)) = false := by
    refine Bool.and_eq_false_imp.mpr fun _ => List.any_eq_false.mpr fun x hx => ?_
    simp only [hb x hx, ne_eq, not_true, decide_false, Bool.false_eq_true, not_false_eq_true]
  have kept : (sendBytes (takenBytes s) s).sph.failed = false := failed
  rw [hostWriteSlot_open (hostPoll_idle idle) slot, held, if_neg Bool.false_ne_true]
  dsimp only
  rw [crcBad_false hk, if_neg Bool.false_ne_true, same, if_neg Bool.false_ne_true, takenBytes_eq, kept, if_neg Bool.false_ne_true]
  rfl

theorem hostWriteSlot_crc (hk : s.hostCrc = true) (hw : crc ≠ crc8 (beBytes 4 w.toNat)) :
    hostWriteSlot fixed w crc s = hostFail 4 s.sph.addr 0 (sendBytes (takenBytes s) s) := by
  obtain ⟨idle, slot, waits⟩ := hi
  have held : s.sph.buffersHeld = false := by simp only [HostPort.buffersHeld, (quiet_of_noneWaits idle waits).full, Bool.false_and]
  rw [hostWriteSlot_open (hostPoll_idle idle) slot, held, if_neg Bool.false_ne_true]
  dsimp only
  rw [hk, Bool.true_and, if_pos (decide_eq_true hw.symm), ← takenBytes_eq, hk]

end

theorem HostPort.buffer_open {p : HostPort} (h : p.full = false) (x : Nat × Word) (close : Bool) :
    p.buffer x close = { p with block := p.block ++ [x], full := close } := if_neg (by rw [h]; exact Bool.false_ne_true)

theorem HostPort.full_false {p : HostPort} (h : p.full = false) : { p with full := false } = p := by
  cases p
  cases h
  rfl

theorem sph_wordBuffered {s : State} (h : s.sph.full = false) (fixed : Bool) (w : Word) :
    (wordBuffered fixed w s).sph =
      { s.sph with
        block := s.sph.block ++ [(s.sph.addr, w)], full := fixed || decide (s.sph.addr % 64 = 0x3C)
        addr := nextAddr fixed s.sph.addr, out := s.sph.out ++ takenBytes s } :=
  congrArg (fun p : HostPort => { p with addr := nextAddr fixed s.sph.addr })
    (HostPort.buffer_open (p := { s.sph with out := s.sph.out ++ takenBytes s }) h _ _)

theorem reads_wordBuffered {s : State} {fixed : Bool} (hi : inSlot s (writeCommand fixed)) (w : Word) :
    (wordBuffered fixed w s).sph.reads = false := by
  have reads : s.sph.reads = false := by
    rw [reads_of_slotOpen hi.2.1]
    cases fixed <;> rfl
  rw [sph_wordBuffered (quiet_of_noneWaits hi.1 hi.2.2).full]
  exact reads

/-- A word that leaves its block open waits there, R347. -/
theorem hostWrite_buffers {s : State} {w : Word} {crc : BitVec 8} (hi : inSlot s 0x02)
    (hk : s.hostCrc = true → crc = crc8 (beBytes 4 w.toNat)) (hb : ∀ x ∈ s.sph.block, x.1 / 64 = s.sph.addr / 64)
    (ha : s.sph.addr % 64 ≠ 0x3C) :
    let t := hostWriteSlot false w crc s
    t.sph = { s.sph with block := s.sph.block ++ [(s.sph.addr, w)], addr := (s.sph.addr + 4) % 2 ^ 24, out := s.sph.out ++ takenBytes s }
      ∧ Frame [.sph] s t := by
  have quiet := quiet_of_noneWaits hi.1 hi.2.2
  have sph : (wordBuffered false w s).sph
      = { s.sph with block := s.sph.block ++ [(s.sph.addr, w)], addr := (s.sph.addr + 4) % 2 ^ 24, out := s.sph.out ++ takenBytes s } := by
    rw [sph_wordBuffered quiet.full, show (false || decide (s.sph.addr % 64 = 0x3C)) = false from decide_eq_false ha]
    exact congrArg (fun p : HostPort => { p with
      block := s.sph.block ++ [(s.sph.addr, w)], addr := (s.sph.addr + 4) % 2 ^ 24, out := s.sph.out ++ takenBytes s })
        (HostPort.full_false quiet.full)
  have still : (wordBuffered false w s).sph.Quiet := by
    rw [sph]
    exact ⟨quiet.reading, quiet.issue, quiet.due, quiet.full⟩
  dsimp only
  rw [hostWriteSlot_takes (fixed := false) hi hk hb, hostSettle_still still (reads_wordBuffered (fixed := false) hi w)]
  exact ⟨sph, Ok.sph.1⟩

end Sys2Proof.Machine

/-!
# O40: words issued, STATUS and the busy limit
-/
namespace Sys2Proof.Machine

/-! ### A block of one word is issued, R347 -/

/-- A block of one word at GCTL_SCRATCH waits to be issued, and nothing else waits. -/
structure HostPort.OneWord (p : HostPort) (w : Word) : Prop where
  reading : p.reading = false
  issue : p.issue = []
  due : p.due = false
  block : p.block = [(GCTL_SCRATCH, w)]
  full : p.full = true
  prev : p.prev = 0
  blockAge : p.blockAge = 0
  next : p.next = []
  nextFull : p.nextFull = false
  nextAge : p.nextAge = 0
  reads : p.reads = false

/-- The port once the block gathered is taken for issue. -/
def HostPort.blockTaken (p : HostPort) : HostPort :=
  { p with
    prev := p.blockAge, block := p.next, full := p.nextFull, blockAge := p.nextAge
    next := [], nextFull := false, nextAge := 0 }

/-- The port once the one word of the block has been performed. -/
def HostPort.wordPerformed (p : HostPort) : HostPort := { p.blockTaken with words := p.words + 1, issue := [], prev := 0 }

theorem HostPort.OneWord.wordPerformed {p : HostPort} {w : Word} (h : p.OneWord w) :
    p.wordPerformed = { p with block := [], full := false, words := p.words + 1 } := by
  obtain ⟨-, issue, -, -, -, prev, blockAge, next, nextFull, nextAge, -⟩ := h
  cases p
  dsimp only at issue prev blockAge next nextFull nextAge
  subst issue prev blockAge next nextFull nextAge
  rfl

/-- The last word of a block of the frame in progress has been performed. -/
theorem issueWords_nil {s : State} (h : s.sph.prev = 0) : issueWords [] s = s.modSph fun p => { p with issue := [], prev := 0 } := by
  have old : s.sph.lastOld = false := by rw [HostPort.lastOld, h]; rfl
  show applyIf s.sph.lastOld splitGuards _ = _
  rw [old]
  rfl

/-- The state with another host port. -/
def State.withPort (s : State) (p : HostPort) : State := { s with sph := p }

theorem issueBlock_scratch {u : State} {w : Word} (h : u.sph.OneWord w) (hm : u.mayWrite .host GCTL_SCRATCH) :
    issueBlock u = (scratchWritten .host w u).withPort u.sph.wordPerformed := by
  let x : State := u.withPort u.sph.blockTaken
  have write : busWrite .host .word GCTL_SCRATCH w x = scratchWritten .host w x := regWrite_scratch (s := x) hm w
  have reply : (scratchWritten .host w x).reply .host = .done := State.reply_answer ..
  have count : countWord (scratchWritten .host w x) = (scratchWritten .host w x).modSph fun p => { p with words := p.words + 1 } :=
    if_pos h.blockAge
  have run : issueBlock u = issueWords [(GCTL_SCRATCH, w)] x := by
    unfold issueBlock
    rw [h.block]
    rfl
  rw [run, issueWords, write, reply]
  dsimp only
  rw [count, issueWords_nil (s := (scratchWritten .host w x).modSph fun p => { p with words := p.words + 1 }) h.blockAge]
  rfl

theorem hostSettle_issues {u v : State} (hi : u.sph.issue = []) (hr : u.sph.reading = false) (hd : u.sph.due = false)
    (hf : u.sph.full = true) (hv : issueBlock u = v) (hq : v.sph.Quiet) (hn : v.sph.reads = false) : hostSettle u = v := by
  unfold hostSettle
  dsimp only
  rw [closeIdle_over hd, hi, hr, hf, List.isEmpty_nil, Bool.not_false, Bool.true_and, Bool.true_and, if_pos rfl, hv,
    closeIdle_over hq.due, hn, Bool.and_false, Bool.false_and, Bool.false_and, if_neg Bool.false_ne_true]

/-- The word is written, and the frame has performed one more. -/
theorem hostSettle_scratch {u : State} {w : Word} (h : u.sph.OneWord w) (hm : u.mayWrite .host GCTL_SCRATCH) :
    hostSettle u = (scratchWritten .host w u).withPort { u.sph with block := [], full := false, words := u.sph.words + 1 } := by
  have block := issueBlock_scratch h hm
  rw [h.wordPerformed] at block
  exact hostSettle_issues h.issue h.reading h.due h.full block ⟨h.reading, h.issue, h.due, rfl⟩ h.reads

theorem rd_scratchWritten (m : Master) (w : Word) (s : State) : (scratchWritten m w s).rd GCTL_SCRATCH = w := State.rd_wr_self ..

theorem scratchWritten_withPort (w : Word) (s : State) (p : HostPort) :
    Frame (accessParts ++ [.sph, .reg .GCTL_SCRATCH]) s ((scratchWritten .host w s).withPort p) :=
  ((scratchWritten_ok .host w s).1.subset (by decide)).trans (Ok.sph.1.subset (by decide))

/-- A port whose one word has gone on from an empty buffer. -/
theorem HostPort.emptied {p : HostPort} (hb : p.block = []) (hf : p.full = false) : { p with block := [], full := false } = p := by
  cases p
  cases hb
  cases hf
  rfl

/-- A word of WRITE FIXED is performed at once, R347. -/
theorem hostWriteFixed_performs {s : State} {w : Word} {crc : BitVec 8} (hi : inSlot s 0x0A)
    (hk : s.hostCrc = true → crc = crc8 (beBytes 4 w.toNat)) (hb : s.sph.block = []) (ha : s.sph.addr = GCTL_SCRATCH)
    (hm : s.mayWrite .host GCTL_SCRATCH) :
    let t := hostWriteSlot true w crc s
    t.rd GCTL_SCRATCH = w ∧ t.sph = { s.sph with words := s.sph.words + 1, out := s.sph.out ++ takenBytes s }
      ∧ Frame (accessParts ++ [.sph, .reg .GCTL_SCRATCH]) s t := by
  obtain ⟨reading, issue, due, full⟩ := quiet_of_noneWaits hi.1 hi.2.2
  obtain ⟨prev, -, blockAge, next, nextFull, nextAge, -⟩ := hi.2.2
  have sph := sph_wordBuffered full true w
  have one : (wordBuffered true w s).sph.OneWord w := by
    have reads := reads_wordBuffered (fixed := true) hi w
    rw [sph] at reads ⊢
    exact ⟨reading, issue, due, by rw [hb, ha]; rfl, rfl, prev, blockAge, next, nextFull, nextAge, reads⟩
  have slot : hostWriteSlot true w crc s = hostSettle (wordBuffered true w s) :=
    hostWriteSlot_takes (fixed := true) hi hk (by rw [hb]; exact fun x hx => absurd hx List.not_mem_nil)
  have done := hostSettle_scratch one (u := wordBuffered true w s) hm
  dsimp only
  rw [slot, done]
  refine ⟨rd_scratchWritten .host w (wordBuffered true w s), ?_, ?_⟩
  · rw [sph]
    exact congrArg (fun p : HostPort => { p with words := s.sph.words + 1, out := s.sph.out ++ takenBytes s }) (HostPort.emptied hb full)
  · exact (Ok.sph.1.subset (by decide) : Frame _ s (wordBuffered true w s)).trans (scratchWritten_withPort w (wordBuffered true w s) _)

/-- A word that fails its CRC, R352. -/
theorem hostWrite_crc {s : State} {fixed : Bool} {w : Word} {crc : BitVec 8} (hi : inSlot s (writeCommand fixed)) (hk : s.hostCrc = true)
    (hw : crc ≠ crc8 (beBytes 4 w.toNat)) :
    let t := hostWriteSlot fixed w crc s
    hostFailed 4 s.sph.addr s t ∧ t.sph = { s.sph with failed := true, out := s.sph.out ++ takenBytes s }
      ∧ Frame (hostErrorParts s) s t := by
  let u := sendBytes (takenBytes s) s
  have failed : hostFailed 4 s.sph.addr s (hostFail 4 s.sph.addr 0 u) := hostFailed_hostFail (by decide) s.sph.addr 0 u
  have frame : Frame (hostErrorParts s) u (hostFail 4 s.sph.addr 0 u) := hostFail_frame 4 s.sph.addr 0 u
  dsimp only
  rw [hostWriteSlot_crc hi hk hw]
  exact ⟨failed, sph_hostFail 4 s.sph.addr 0 u, (Ok.sph.1.subset (port_subset s) : Frame _ s u).trans frame⟩

/-- A slot of STATUS, R344. -/
theorem hostStatus_effect {s : State} (hi : inSlot s 0x05) :
    let t := hostStatusSlot s
    t.sph = { s.sph with miso := s.rd SPH_STAT :: s.sph.miso, out := s.sph.out ++ 0xA5 :: s.dataBytes (s.rd SPH_STAT) }
      ∧ Frame [.sph] s t := by
  have slot : hostStatusSlot s = sendWord (s.rd SPH_STAT) s := by
    unfold hostStatusSlot
    dsimp only
    rw [hostPoll_idle hi.1, refusing_of_slotOpen hi.2.1, if_neg Bool.false_ne_true, if_pos hi.2.1]
  dsimp only
  rw [slot]
  exact ⟨rfl, Ok.sph.1⟩

/-! ### The busy limit, R349 -/

/-- The slot in progress is busy. -/
def slotBusy (s : State) : Prop :=
  (s.slotOpen 0x03 = true ∨ s.slotOpen 0x0B = true) ∧ s.sph.got = none
    ∨ (s.slotOpen 0x02 = true ∨ s.slotOpen 0x0A = true) ∧ s.sph.buffersHeld = true

theorem hostBusyLimit_eq {s : State} (hp : hostPoll s = s) (hb : slotBusy s) :
    hostBusyLimit s = sendBytes [0xE1] ((hostFail 6 s.sph.addr 0 s).modSph fun p => { p.dropBlocks 0 with dead := true }) := by
  have busy : (s.sph.reads && s.sph.got.isNone || (decide (s.sph.cmd = 0x02) || decide (s.sph.cmd = 0x0A)) && s.sph.buffersHeld) = true := by
    rcases hb with ⟨slot, got⟩ | ⟨slot, held⟩
    · have reads : s.sph.reads = true := by rcases slot with slot | slot <;> rw [reads_of_slotOpen slot] <;> rfl
      rw [reads, got]
      rfl
    · have cmd : (decide (s.sph.cmd = 0x02) || decide (s.sph.cmd = 0x0A)) = true := by
        rcases slot with slot | slot <;> obtain ⟨-, -, -, -, cmd⟩ := slotOpen_iff.mp slot <;> rw [cmd] <;> rfl
      rw [cmd, held, Bool.true_and, Bool.or_true]
  obtain ⟨c, slot⟩ : ∃ c, s.slotOpen c = true := by rcases hb with ⟨h | h, -⟩ | ⟨h | h, -⟩ <;> exact ⟨_, h⟩
  obtain ⟨inFrame, early, headed, failed, -⟩ := slotOpen_iff.mp slot
  unfold hostBusyLimit
  dsimp only
  rw [hp, busy, inFrame, early, headed, failed]
  rfl

/-- The block gathered behind another one is dropped, if the frame in progress gathered it. -/
def HostPort.nextDropped (p : HostPort) : HostPort :=
  if p.nextAge = 0 then { p with next := [], nextFull := false, nextAge := 0 } else p

theorem dropBlocks_zero (p : HostPort) :
    p.dropBlocks 0 = if p.nextDropped.blockAge = 0 then
        { p.nextDropped with
          block := p.nextDropped.next, full := p.nextDropped.nextFull, blockAge := p.nextDropped.nextAge
          next := [], nextFull := false, nextAge := 0 }
      else p.nextDropped := rfl

theorem nextDropped_keeps (p : HostPort) :
    p.nextDropped = { p with next := p.nextDropped.next, nextFull := p.nextDropped.nextFull, nextAge := p.nextDropped.nextAge } := by
  unfold HostPort.nextDropped
  split <;> rfl

/-- A drop leaves the accesses under way and what has been sent alone. -/
theorem dropBlocks_keeps (p : HostPort) :
    (p.dropBlocks 0).reading = p.reading ∧ (p.dropBlocks 0).issue = p.issue ∧ (p.dropBlocks 0).failed = p.failed
      ∧ (p.dropBlocks 0).out = p.out := by
  rw [dropBlocks_zero, nextDropped_keeps]
  split <;> exact ⟨rfl, rfl, rfl, rfl⟩

theorem dropBlocks_own {p : HostPort} (hb : p.blockAge = 0) (hn : p.nextAge = 0) :
    (p.dropBlocks 0).block = [] ∧ (p.dropBlocks 0).full = false ∧ (p.dropBlocks 0).next = [] := by
  have next : p.nextDropped = { p with next := [], nextFull := false, nextAge := 0 } := if_pos hn
  rw [dropBlocks_zero, next, if_pos hb]
  exact ⟨rfl, rfl, rfl⟩

theorem dropBlocks_earlier {p : HostPort} (hb : p.blockAge ≠ 0) :
    (p.dropBlocks 0).block = p.block ∧ (p.dropBlocks 0).full = p.full := by
  rw [dropBlocks_zero, nextDropped_keeps, if_neg hb]
  exact ⟨rfl, rfl⟩

theorem does_hostBusyLimit {s : State} (hb : slotBusy s) (hw : s.sph.reading = true ∨ s.sph.issue ≠ [] → s.reply .host = .waiting) :
    Does .hostBusyLimit s fun t =>
      hostFailed 6 s.sph.addr s t ∧ t.sph.dead = true ∧ t.sph.out = s.sph.out ++ [0xE1]
        ∧ t.sph.reading = s.sph.reading ∧ t.sph.issue = s.sph.issue
        ∧ (s.sph.blockAge = 0 → s.sph.nextAge = 0 → t.sph.block = [] ∧ t.sph.full = false ∧ t.sph.next = [])
        ∧ (s.sph.blockAge ≠ 0 → t.sph.block = s.sph.block ∧ t.sph.full = s.sph.full)
        ∧ t.get SPH_CNT.BUSYLIM = min SPH_CNT.BUSYLIM.max (s.get SPH_CNT.BUSYLIM + 1) ∧ Frame (hostErrorParts s) s t := by
  refine Does.of_eq rfl (hostBusyLimit_eq (hostPoll_waiting hw) hb) ?_
  obtain ⟨-, record⟩ := hostFailed_hostFail (cause := 6) (by decide) s.sph.addr 0 s
  have frame := hostFail_frame 6 s.sph.addr 0 s
  have count := busylim_hostFail s.sph.addr 0 s
  have sph := sph_hostFail 6 s.sph.addr 0 s
  generalize hostFail 6 s.sph.addr 0 s = u at record frame count sph
  obtain ⟨reading, issue, failed, out⟩ := dropBlocks_keeps u.sph
  have after : (sendBytes [0xE1] (u.modSph fun p => { p.dropBlocks 0 with dead := true })).sph
      = { u.sph.dropBlocks 0 with dead := true, out := s.sph.out ++ [0xE1] } := by
    show ({ u.sph.dropBlocks 0 with dead := true, out := (u.sph.dropBlocks 0).out ++ [0xE1] } : HostPort) = _
    rw [out, sph]
  rw [sph] at reading issue failed
  have own := dropBlocks_own (p := u.sph)
  have earlier := dropBlocks_earlier (p := u.sph)
  rw [after]
  rw [sph] at own earlier ⊢
  exact ⟨⟨by rw [after, sph]; exact failed, record⟩, rfl, rfl, reading, issue, own, earlier, count,
    frame.trans (Ok.sph.1.subset (port_subset s))⟩

end Sys2Proof.Machine

/-!
# O40: guard windows that a frame leaves open
-/
namespace Sys2Proof.Machine

/-! ### What the error of a guard window leaves alone, R77 -/

/-- A pending source stays pending when another one pends. -/
theorem evPending_pend_keeps {x src cause idx : Nat} {s : State} (hx : x < 128) (h : s.evPending x = true) :
    (pend src cause idx s).evPending x = true := by
  unfold State.evPending State.bitAt at *
  rw [rd_pend (by simp only [EV_PEND, MGS_LOGSTAT]; omega)]
  by_cases e : EV_PEND (x / 32) = EV_PEND (src / 32) ∧ x % 32 = src % 32
  · obtain ⟨word, bit⟩ := e
    rw [word, bit]
    exact State.bitAt_putBitAt_self _ _ _ (Nat.mod_lt _ (by decide))
  · refine (State.bitAt_putBitAt_ne (s := s) _ (Nat.mod_lt _ (by decide)) ?_).trans h
    exact Decidable.not_and_iff_not_or_not.mp e

/-- The words of the host port, and GCTL_SCRATCH. -/
def portWord (b : Nat) : Prop := 0xA0000 ≤ b ∧ b < 0xB0000 ∨ b = GCTL_SCRATCH

/-- `t` is `s` after errors of other accesses: what the frames of the host port say is the same. -/
structure PortApart (s t : State) : Prop where
  sph : t.sph = s.sph
  power : t.power = s.power
  rd : ∀ b, portWord b → t.rd b = s.rd b
  pends : ∀ src < 128, s.evPending src = true → t.evPending src = true

theorem PortApart.refl (s : State) : PortApart s s := ⟨rfl, rfl, fun _ _ => rfl, fun _ _ h => h⟩

theorem PortApart.trans {s t u : State} (h : PortApart s t) (h' : PortApart t u) : PortApart s u :=
  ⟨h'.sph.trans h.sph, h'.power.trans h.power, fun b hb => (h'.rd b hb).trans (h.rd b hb),
    fun x hx hp => h'.pends x hx (h.pends x hx hp)⟩

theorem portApart_recordErr {e : BusErr} (he : e.event ≠ 113) (m : Master) (addr : Nat) (s : State) :
    PortApart s (recordErr m addr e s) := by
  have frame := (recordErr_ok_of_event he m addr s).1
  have noted := errNoted_frame m addr e s
  have final : recordErr m addr e s = pendSrc e.event ((errKept m addr e s).inc GCTL_BUSERRCNT.COUNT) := by
    rw [recordErr_eq]
    exact if_neg he
  have lt := e.event_lt
  refine ⟨frame.1 .sph (by decide), frame.1 .power (by decide), fun b hb => ?_, fun x hx hp => ?_⟩
  · have apart : b ≠ MGS_LOGSTAT ∧ b ≠ EV_PEND (e.event / 32) := by
      rcases hb with hb | rfl
      · simp only [MGS_LOGSTAT, EV_PEND]
        omega
      · simp only [GCTL_SCRATCH, MGS_LOGSTAT, EV_PEND]
        omega
    rw [final, rd_pendSrc_ne apart.1 apart.2]
    refine noted.rd (by decide) fun r hr hat => ?_
    simp only [List.mem_cons, List.not_mem_nil, or_false, Part.reg.injEq] at hr
    obtain ⟨i, k, rfl⟩ := hat
    unfold portWord at hb
    rcases hr with rfl | rfl | rfl <;> simp [regAddr, GCTL_BUSERR, GCTL_BUSERRADDR, GCTL_BUSERRCNT, GCTL_SCRATCH] at hb
  · rw [final]
    refine evPending_pend_keeps hx ?_
    refine (congrArg (fun w : Word => w.getLsbD (x % 32)) ?_).trans hp
    exact noted.rd_range (lo := 0x10000) (hi := 0x80000) (by decide) (by simp only [EV_PEND]; omega)

/-! ### Guard windows that a frame leaves open, R77 -/

/-- The window at an address times out, if the host opened it. -/
def splitGuard (addr : Nat) (s : State) : State :=
  match s.guardAt addr with
  | none => s
  | some g => if g.master = .host then guardTimeout addr s else s

theorem splitGuards_eq (s : State) : splitGuards s = forEach (s.guards.map (·.1)) splitGuard s := rfl

theorem splitGuard_host {addr : Nat} {s : State} {g : GuardWin} (hg : s.guardAt addr = some g) (hm : g.master = .host) :
    splitGuard addr s = recordErr g.master addr .guard (s.setGuard addr none) := by
  simp only [splitGuard, guardTimeout, hg, if_pos hm]

theorem splitGuard_other {addr : Nat} {s : State} (h : ∀ g, s.guardAt addr = some g → g.master ≠ .host) : splitGuard addr s = s := by
  unfold splitGuard
  split
  · rfl
  · rename_i g hg
    exact if_neg (h g hg)

/-- Either nothing happens, or the host's window closes with its error. -/
theorem splitGuard_cases (addr : Nat) (s : State) :
    splitGuard addr s = s ∨ ∃ m, splitGuard addr s = recordErr m addr .guard (s.setGuard addr none) := by
  by_cases h : ∃ g, s.guardAt addr = some g ∧ g.master = .host
  · obtain ⟨g, hg, hm⟩ := h
    exact .inr ⟨g.master, splitGuard_host hg hm⟩
  · exact .inl (splitGuard_other fun g hg hm => h ⟨g, hg, hm⟩)

theorem portApart_splitGuards (s : State) : PortApart s (splitGuards s) := by
  rw [splitGuards_eq]
  refine forEach_keeps (P := PortApart s) (fun a _ u hu => hu.trans ?_) (.refl s)
  rcases splitGuard_cases a u with h | ⟨m, h⟩
  · rw [h]
    exact .refl u
  · rw [h]
    have closed : PortApart u (u.setGuard a none) := ⟨rfl, rfl, fun _ _ => rfl, fun _ _ h => h⟩
    exact closed.trans (portApart_recordErr (by decide) m a _)

theorem guardAt_recordErr (m : Master) (addr : Nat) (e : BusErr) (s : State) (a : Nat) : (recordErr m addr e s).guardAt a = s.guardAt a :=
  congrArg (fun g => Sparse.get (fun _ => none) g a) ((recordErr_ok m addr e s).1.1 .guards (by decide))

theorem guardAt_setGuard_ne {a b : Nat} (h : a ≠ b) (g : Option GuardWin) (s : State) : (s.setGuard b g).guardAt a = s.guardAt a :=
  Sparse.get_set_ne h

/-- Every window of the host closes. -/
theorem splitGuards_closes {s : State} {a : Nat} {g : GuardWin} (hg : s.guardAt a = some g) (hm : g.master = .host) :
    (splitGuards s).guardAt a = none := by
  have key : a ∈ s.guards.map (·.1) := by
    rcases Sparse.get_mem_or (d := fun _ => none) (m := s.guards) (k := a) with h | h
    · exact List.mem_map.mpr ⟨_, h, rfl⟩
    · exact absurd (hg.symm.trans h) (by simp)
  have other {x : Nat} (hx : a ≠ x) (u : State) : (splitGuard x u).guardAt a = u.guardAt a := by
    rcases splitGuard_cases x u with h | ⟨m, h⟩
    · rw [h]
    · rw [h, guardAt_recordErr, guardAt_setGuard_ne hx]
  rw [splitGuards_eq]
  refine forEach_reaches (P := fun u => u.guardAt a = some g) (Q := fun u => u.guardAt a = none) key ?_ ?_ ?_ hg
  · exact fun x _ hx u hu => (other hx.symm u).trans hu
  · intro u hu
    rw [splitGuard_host hu hm, guardAt_recordErr, State.guardAt_setGuard]
  · intro x _ u hu
    by_cases hx : a = x
    · subst hx
      rw [splitGuard_other (by rw [hu]; exact nofun)]
      exact hu
    · exact (other hx u).trans hu

/-- No window is open from the host. -/
def noHostGuard (s : State) : Prop := ∀ a g, s.guardAt a = some g → g.master ≠ .host

theorem splitGuards_none {s : State} (h : noHostGuard s) : splitGuards s = s := by
  rw [splitGuards_eq]
  exact forEach_keeps (P := (· = s)) (fun a _ u hu => by rw [hu]; exact splitGuard_other (h a)) rfl

end Sys2Proof.Machine

/-!
# O40: the end of a frame of the host port
-/
namespace Sys2Proof.Machine

/-! ### The end of a frame, R350 and R351 -/

/-- The words of SPH_STAT and SPH_CNT that name the outcome of a frame. -/
def outcomeShown (bad : Bool) (s : State) : State :=
  applyIf bad (·.inc SPH_CNT.ERRS) ((s.put SPH_STAT.OUTCOME (if bad then 0xE1 else 0xA5)).put SPH_STAT.PENDING 0)

theorem closePrev_eq {s : State} (h : s.sph.issue = []) :
    closePrev s = (outcomeShown s.sph.prevBad (splitGuards s)).modSph fun p => { p with due := false, prevBad := false } := by
  have sph := (portApart_splitGuards s).sph
  unfold closePrev
  rw [h, ← sph]
  rfl

/-- The port once its frame has become the previous one, with nothing left to issue. -/
def HostPort.ended (p : HostPort) : HostPort :=
  { p with
    inFrame := false, headed := false, got := none, prev := 0, blockAge := 0, nextAge := 0, due := false
    prevBad := p.failed, oldBad := false
    stale := if p.reading then p.stale + 1 else 0
    staleBad := if p.stale = 0 then p.failed else p.staleBad }

/-- The words of the frame that is over. -/
def wordsShown (s : State) : State := (s.put SPH_STAT.WORDS (min 0xFFFF s.sph.words)).putB SPH_STAT.PENDING false

theorem frameOver_quiet {s : State} (hq : s.sph.Quiet) (hn : s.sph.nextFull = false) :
    frameOver s = closePrev ((wordsShown s).modSph HostPort.ended) := by
  unfold frameOver
  dsimp only
  rw [hq.issue, hq.full, hq.due, hn]
  rfl

/-- What the frame that ends leaves, R351: `u` is the state after its last word. -/
structure FrameDone (u t : State) : Prop where
  inFrame : t.sph.inFrame = false
  failed : t.sph.failed = u.sph.failed
  words : t.get SPH_STAT.WORDS = min 0xFFFF u.sph.words
  pending : t.on SPH_STAT.PENDING = false
  outcome : t.get SPH_STAT.OUTCOME = if u.sph.failed then 0xE1 else 0xA5
  errs : t.get SPH_CNT.ERRS = if u.sph.failed then min SPH_CNT.ERRS.max (u.get SPH_CNT.ERRS + 1) else u.get SPH_CNT.ERRS
  closes : ∀ a g, u.guardAt a = some g → g.master = .host → t.guardAt a = none
  frame : noHostGuard u → Frame ([.sph, .reg .SPH_STAT] ++ if u.sph.failed then [.reg .SPH_CNT] else []) u t
  power : t.power = u.power
  rd : ∀ b, portWord b → b ≠ SPH_STAT → b ≠ SPH_CNT → t.rd b = u.rd b
  pends : ∀ src < 128, u.evPending src = true → t.evPending src = true

theorem rd_outcomeShown_ne {b : Nat} (h : b ≠ SPH_STAT) (h' : b ≠ SPH_CNT) (bad : Bool) (s : State) :
    (outcomeShown bad s).rd b = s.rd b := by
  unfold outcomeShown
  cases bad with
  | false => exact (State.rd_put_ne _ h).trans (State.rd_put_ne _ h)
  | true => exact (State.rd_put_ne _ h').trans ((State.rd_put_ne _ h).trans (State.rd_put_ne _ h))

/-- The status word is that without the count of errors. -/
theorem stat_outcomeShown (bad : Bool) (s : State) :
    (outcomeShown bad s).rd SPH_STAT = ((s.put SPH_STAT.OUTCOME (if bad then 0xE1 else 0xA5)).put SPH_STAT.PENDING 0).rd SPH_STAT := by
  unfold outcomeShown
  cases bad with
  | false => rfl
  | true => exact State.rd_put_ne _ (by decide)

theorem errs_outcomeShown (bad : Bool) (s : State) :
    (outcomeShown bad s).get SPH_CNT.ERRS = if bad then min SPH_CNT.ERRS.max (s.get SPH_CNT.ERRS + 1) else s.get SPH_CNT.ERRS := by
  have same : ((s.put SPH_STAT.OUTCOME (if bad then 0xE1 else 0xA5)).put SPH_STAT.PENDING 0).get SPH_CNT.ERRS = s.get SPH_CNT.ERRS :=
    (State.get_put_ne _ (by decide)).trans (State.get_put_ne _ (by decide))
  cases bad with
  | false => exact same
  | true => exact (get_inc_self _ (by decide) (by decide)).trans (by rw [same]; rfl)

theorem outcomeShown_ok (bad : Bool) (s : State) :
    Ok ([.reg .SPH_STAT] ++ if bad then [.reg .SPH_CNT] else []) s (outcomeShown bad s) := by
  have stat {v : State} {f : Fld} {n : Nat} (hf : f.addr = SPH_STAT) : Ok [.reg .SPH_STAT] v (v.put f n) := State.put_at ⟨0, 0, hf⟩
  cases bad with
  | false => exact Ok.via (stat rfl) rfl ((stat rfl).mono rfl)
  | true => exact Ok.via (State.inc_at (r := .SPH_CNT) ⟨0, 0, rfl⟩) rfl (Ok.via (stat rfl) rfl ((stat rfl).mono rfl))

theorem wordsShown_ok (s : State) : Ok [.reg .SPH_STAT] s (wordsShown s) :=
  Ok.via (State.put_at (r := .SPH_STAT) ⟨0, 0, rfl⟩) rfl ((State.put_at (r := .SPH_STAT) ⟨0, 0, rfl⟩).mono rfl)

theorem words_wordsShown (s : State) : (wordsShown s).get SPH_STAT.WORDS = min 0xFFFF s.sph.words := by
  refine (State.get_put_disj _ (by decide) (by decide)).trans ((State.get_put_self _ (by decide) (by decide)).trans ?_)
  exact Nat.mod_eq_of_lt (Nat.lt_of_le_of_lt (Nat.min_le_left ..) (by decide))

theorem rd_wordsShown_ne {b : Nat} (h : b ≠ SPH_STAT) (s : State) : (wordsShown s).rd b = s.rd b :=
  (State.rd_put_ne _ h).trans (State.rd_put_ne _ h)

theorem pends_of_rd {s t : State} (h : ∀ k < 4, t.rd (EV_PEND k) = s.rd (EV_PEND k)) {src : Nat} (hs : src < 128)
    (hp : s.evPending src = true) : t.evPending src = true :=
  (congrArg (fun w : Word => w.getLsbD (src % 32)) (h (src / 32) (by omega))).trans hp

/-- The frame that ends, its other accesses' errors noted. -/
def outcomeClosed (bad : Bool) (g : State) : State := (outcomeShown bad g).modSph fun p => { p with due := false, prevBad := false }

theorem guards_outcomeClosed (bad : Bool) (g : State) : (outcomeClosed bad g).guards = g.guards :=
  (outcomeShown_ok bad g).1.1 .guards (by cases bad <;> decide)

theorem sph_outcomeClosed (bad : Bool) (g : State) : (outcomeClosed bad g).sph = { g.sph with due := false, prevBad := false } :=
  congrArg (fun p : HostPort => { p with due := false, prevBad := false }) ((outcomeShown_ok bad g).1.1 .sph (by cases bad <;> decide))

theorem outcomeClosed_frame (bad : Bool) (g : State) :
    Frame ([.sph, .reg .SPH_STAT] ++ if bad then [.reg .SPH_CNT] else []) g (outcomeClosed bad g) := by
  have port : Frame [.sph] (outcomeShown bad g) (outcomeClosed bad g) := Ok.sph.1
  exact ((outcomeShown_ok bad g).1.subset (by cases bad <;> decide)).trans (port.subset (by cases bad <;> decide))

theorem get_outcomeClosed (bad : Bool) (g : State) :
    let t := outcomeClosed bad g
    t.get SPH_STAT.WORDS = g.get SPH_STAT.WORDS ∧ t.on SPH_STAT.PENDING = false
      ∧ t.get SPH_STAT.OUTCOME = if bad then 0xE1 else 0xA5 := by
  let w := (g.put SPH_STAT.OUTCOME (if bad then 0xE1 else 0xA5)).put SPH_STAT.PENDING 0
  have stat (hi lo : Nat) : (outcomeClosed bad g).get ⟨SPH_STAT, hi, lo⟩ = w.get ⟨SPH_STAT, hi, lo⟩ :=
    congrArg (wordField · hi lo) (stat_outcomeShown bad g)
  refine ⟨(stat 31 16).trans ?_, on_eq_false ((stat 0 0).trans ?_), (stat 15 8).trans ?_⟩
  · exact (State.get_put_disj _ (by decide) (by decide)).trans (State.get_put_disj _ (by decide) (by decide))
  · exact State.get_put_self _ (by decide) (by decide)
  · refine (State.get_put_disj _ (by decide) (by decide)).trans ((State.get_put_self _ (by decide) (by decide)).trans ?_)
    cases bad <;> rfl

theorem frameDone_frameOver {u : State} (hq : u.sph.Quiet) (hn : u.sph.nextFull = false) : FrameDone u (frameOver u) := by
  let v := (wordsShown u).modSph HostPort.ended
  have apart : PortApart v (splitGuards v) := portApart_splitGuards v
  have closes : ∀ a g, u.guardAt a = some g → g.master = .host → (splitGuards v).guardAt a = none :=
    fun a g hg hm => splitGuards_closes (s := v) hg hm
  have none : noHostGuard u → splitGuards v = v := fun h => splitGuards_none (s := v) h
  have eq : frameOver u = outcomeClosed u.sph.failed (splitGuards v) := (frameOver_quiet hq hn).trans (closePrev_eq (s := v) hq.issue)
  rw [eq]
  generalize splitGuards v = g at apart closes none
  have port : (outcomeClosed u.sph.failed g).sph = { u.sph.ended with due := false, prevBad := false } := by
    rw [sph_outcomeClosed, apart.sph]
    rfl
  have word {b : Nat} (hb : portWord b) (hs : b ≠ SPH_STAT) : g.rd b = u.rd b := (apart.rd b hb).trans (rd_wordsShown_ne hs u)
  obtain ⟨words, pending, outcome⟩ := get_outcomeClosed u.sph.failed g
  refine ⟨by rw [port]; rfl, by rw [port]; rfl, ?_, pending, outcome, ?_, fun a x hx hm => ?_, fun h => ?_, ?_, fun b hb hs hc => ?_,
    fun src hs hp => ?_⟩
  · exact words.trans ((congrArg (wordField · 31 16) (apart.rd SPH_STAT (.inl (by decide)))).trans (words_wordsShown u))
  · have before : g.get SPH_CNT.ERRS = u.get SPH_CNT.ERRS := congrArg (wordField · 15 0) (word (.inl (by decide)) (by decide))
    exact (errs_outcomeShown u.sph.failed g).trans (by rw [before])
  · exact (congrArg (Sparse.get (fun _ => Option.none) · a) (guards_outcomeClosed u.sph.failed g)).trans (closes a x hx hm)
  · have shown : Frame [.sph, .reg .SPH_STAT] u v := ((wordsShown_ok u).1.subset (by decide)).trans (Ok.sph.1.subset (by decide))
    rw [none h]
    exact (shown.subset (List.subset_append_left ..)).trans (outcomeClosed_frame u.sph.failed v)
  · exact ((outcomeClosed_frame u.sph.failed g).1 .power (by split <;> decide)).trans
      (apart.power.trans ((wordsShown_ok u).1.1 .power (by decide)))
  · exact (rd_outcomeShown_ne hs hc u.sph.failed g).trans (word hb hs)
  · refine pends_of_rd (s := g) (fun k hk => ?_) hs (apart.pends src hs (pends_of_rd (s := u) (fun k hk => ?_) hs hp))
    · exact rd_outcomeShown_ne (by simp only [EV_PEND, SPH_STAT]; omega) (by simp only [EV_PEND, SPH_CNT]; omega) u.sph.failed g
    · exact rd_wordsShown_ne (by simp only [EV_PEND, SPH_STAT]; omega) u

end Sys2Proof.Machine

namespace Sys2Proof.Machine

/-- The words gathered so far are the last of their frame. -/
def buffersClosed (s : State) : State := s.modSph fun p => { p with full := !p.block.isEmpty, nextFull := !p.next.isEmpty }

theorem frameEnd_eq {s : State} {kind : FrameEnd} (hp : portIdle s) (hf : s.sph.inFrame = true) (he : s.sph.early = false)
    (hk : s.sph.headed = true ∨ kind ≠ .clean) : frameEnd kind s = frameOver (hostSettle (buffersClosed (shortEnd kind s))) := by
  have goes : (s.sph.early || (!s.sph.headed && decide (kind = .clean))) = false := by
    rw [he, Bool.false_or]
    rcases hk with hk | hk
    · rw [hk]
      rfl
    · rw [decide_eq_false hk, Bool.and_false]
  unfold frameEnd
  dsimp only
  rw [hostPoll_idle hp, hf, Bool.not_true, if_neg Bool.false_ne_true, goes, if_neg Bool.false_ne_true]
  rfl

theorem shortEnd_clean (s : State) : shortEnd .clean s = s := by
  unfold shortEnd
  split <;> rfl

theorem shortEnd_inHeader {s : State} (h : s.sph.dead = false) (a : BitVec 24) : shortEnd (.inHeader a) s = hostFail 5 a.toNat 0 s := by
  unfold shortEnd
  rw [h]
  rfl

theorem shortEnd_inWord {s : State} (h : s.sph.dead = false) (hr : s.sph.reads = false) (last : Bool) :
    shortEnd (.inWord last) s = hostFail 5 s.sph.addr 0 s := by
  unfold shortEnd
  rw [h, if_neg Bool.false_ne_true]
  dsimp only
  rw [hr, Bool.and_false, Bool.false_and, if_neg Bool.false_ne_true]

/-- A cause that was noted stays so while what waits for the wake is kept, and no source stops pending. -/
theorem noted_congr {src idx : Nat} {s t u : State} (hs : src < 128) (h : noted src idx s t) (hp : u.power = t.power)
    (hk : ∀ x < 128, t.evPending x = true → u.evPending x = true) : noted src idx s u := by
  unfold noted at h ⊢
  by_cases nap : napping s = true
  · rw [if_pos nap] at h ⊢
    exact hp.trans h
  · rw [if_neg nap] at h ⊢
    exact hk src hs h

section
variable {s : State} (hp : portIdle s) (hn : noneWaits s)
include hp hn

/-- With no word gathered nothing is left to do at the end of a frame. -/
theorem quiet_buffersClosed (hb : s.sph.block = []) : (buffersClosed s).sph.Quiet ∧ (buffersClosed s).sph.nextFull = false := by
  obtain ⟨reading, issue⟩ := hp
  obtain ⟨-, -, -, next, -, -, due⟩ := hn
  refine ⟨⟨reading, issue, due, ?_⟩, ?_⟩
  · show (!s.sph.block.isEmpty) = false
    rw [hb]
    rfl
  · show (!s.sph.next.isEmpty) = false
    rw [next]
    rfl

theorem frameEnd_plain (hb : s.sph.block = []) (hf : s.sph.inFrame = true) (he : s.sph.early = false) (hh : s.sph.headed = true)
    (hr : s.sph.reads = false) : FrameDone (buffersClosed s) (frameEnd .clean s) := by
  obtain ⟨quiet, next⟩ := quiet_buffersClosed hp hn hb
  rw [frameEnd_eq hp hf he (.inl hh), shortEnd_clean, hostSettle_still quiet hr]
  exact frameDone_frameOver quiet next

theorem does_frameEnd (hb : s.sph.block = []) (hf : s.sph.inFrame = true) (he : s.sph.early = false) (hh : s.sph.headed = true)
    (hr : s.sph.reads = false) : Does (.hostFrameEnd .clean) s fun t =>
      t.sph.inFrame = false ∧ t.get SPH_STAT.WORDS = min 0xFFFF s.sph.words ∧ t.on SPH_STAT.PENDING = false
        ∧ t.get SPH_STAT.OUTCOME = (if s.sph.failed then 0xE1 else 0xA5)
        ∧ t.get SPH_CNT.ERRS = (if s.sph.failed then min SPH_CNT.ERRS.max (s.get SPH_CNT.ERRS + 1) else s.get SPH_CNT.ERRS)
        ∧ (∀ a g, s.guardAt a = some g → g.master = .host → t.guardAt a = none)
        ∧ (noHostGuard s → Frame [.sph, .reg .SPH_STAT, .reg .SPH_CNT] s t) := by
  have done := frameEnd_plain hp hn hb hf he hh hr
  refine Does.of_eq rfl rfl ⟨done.inFrame, done.words, done.pending, done.outcome, done.errs, done.closes, fun h => ?_⟩
  exact (Ok.sph.1.subset (by decide) : Frame _ s (buffersClosed s)).trans ((done.frame h).subset (by split <;> decide))

/-- A frame that ends inside its header or a word, R350. -/
theorem does_frameEnd_short {kind : FrameEnd} {a : Nat} (hs : shortEnd kind s = hostFail 5 a 0 s) (hb : s.sph.block = [])
    (hf : s.sph.inFrame = true) (he : s.sph.early = false) (hk : s.sph.headed = true ∨ kind ≠ .clean) :
    Does (.hostFrameEnd kind) s fun t =>
      hostFailed 5 a s t ∧ t.sph.inFrame = false ∧ t.get SPH_STAT.OUTCOME = 0xE1
        ∧ (∀ b g, s.guardAt b = some g → g.master = .host → t.guardAt b = none)
        ∧ (noHostGuard s → Frame (hostErrorParts s ++ [.reg .SPH_STAT]) s t) := by
  have finish := frameEnd_eq hp hf he hk
  rw [hs] at finish
  obtain ⟨-, note, record⟩ := hostFailed_hostFail (cause := 5) (by decide) a 0 s
  have frame := hostFail_frame 5 a 0 s
  have sph := sph_hostFail 5 a 0 s
  have guards : (hostFail 5 a 0 s).guards = s.guards := (hostCause_ok 5 a 0 s).1.1 .guards (by decide)
  generalize hostFail 5 a 0 s = u at finish note record frame sph guards
  have idle : portIdle u := by
    unfold portIdle
    rw [sph]
    exact hp
  have waits : noneWaits u := by
    unfold noneWaits
    rw [sph]
    exact hn
  obtain ⟨quiet, next⟩ := quiet_buffersClosed idle waits (by rw [sph]; exact hb)
  have reads : (buffersClosed u).sph.reads = false := by
    show u.sph.reads = false
    rw [sph]
    simp only [HostPort.reads, Bool.not_true, Bool.and_false, Bool.false_and]
  have failed : (buffersClosed u).sph.failed = true := by
    show u.sph.failed = true
    rw [sph]
  have done := frameDone_frameOver quiet next
  rw [← hostSettle_still quiet reads, ← finish, hostSettle_still quiet reads] at done
  have same (b : Nat) : u.guardAt b = s.guardAt b := congrArg (Sparse.get (fun _ => none) · b) guards
  refine Does.of_eq rfl rfl ⟨⟨done.failed.trans failed, ?_, ?_⟩, done.inFrame, ?_, fun b g hg hm => ?_, fun h => ?_⟩
  · exact noted_congr (hostSource_lt 5) note done.power done.pends
  · exact hostRecord_congr record (done.rd SPH_ERR (.inl (by decide)) (by decide) (by decide))
  · exact done.outcome.trans (if_pos failed)
  · exact done.closes b g ((same b).trans hg) hm
  · have closed : Frame [.sph] u (buffersClosed u) := Ok.sph.1
    have own : noHostGuard (buffersClosed u) := fun b g hg => h b g ((same b).symm.trans hg)
    have parts : ([.sph, .reg .SPH_STAT] ++ if (buffersClosed u).sph.failed then [.reg .SPH_CNT] else [])
        ⊆ hostErrorParts s ++ [Part.reg .SPH_STAT] := by
      rw [failed, hostErrorParts, List.append_assoc]
      exact List.subset_append_of_subset_right _ (by decide)
    exact (frame.subset (List.subset_append_left ..)).trans
      ((closed.subset (List.Subset.trans (port_subset s) (List.subset_append_left ..))).trans ((done.frame own).subset parts))

end

/-- A frame without an SCK edge leaves no trace, R342. -/
theorem does_frameEnd_bare {s : State} (hp : portIdle s) (hf : s.sph.inFrame = true) (hh : s.sph.headed = false) :
    Does (.hostFrameEnd .clean) s fun t => t.sph = { s.sph with inFrame := false, early := false } ∧ Frame [.sph] s t := by
  have bare : frameEnd .clean s = s.modSph fun p => { p with inFrame := false, early := false } := by
    unfold frameEnd
    dsimp only
    rw [hostPoll_idle hp, hf, Bool.not_true, if_neg Bool.false_ne_true, hh, if_pos (by simp)]
  exact Does.of_eq rfl bare ⟨rfl, Ok.sph.1⟩

/-- The state at the end of a frame whose last word, of GCTL_SCRATCH, has been performed. -/
def scratchEnded (w : Word) (s : State) : State :=
  (scratchWritten .host w (buffersClosed s)).withPort
    { (buffersClosed s).sph with block := [], full := false, words := (buffersClosed s).sph.words + 1 }

/-- The last word of a frame, in the buffer when it ends, is performed, R347. -/
theorem does_frameEnd_scratch {s : State} {w : Word} (hi : inSlot s 0x02) (hb : s.sph.block = [(GCTL_SCRATCH, w)])
    (hm : s.mayWrite .host GCTL_SCRATCH) :
    Does (.hostFrameEnd .clean) s fun t =>
      t.rd GCTL_SCRATCH = w ∧ t.sph.inFrame = false ∧ t.get SPH_STAT.WORDS = min 0xFFFF (s.sph.words + 1)
        ∧ t.get SPH_STAT.OUTCOME = 0xA5 ∧ (∀ a g, s.guardAt a = some g → g.master = .host → t.guardAt a = none)
        ∧ (noHostGuard s → Frame (accessParts ++ [.sph, .reg .SPH_STAT, .reg .GCTL_SCRATCH]) s t) := by
  obtain ⟨idle, slot, prev, -, blockAge, next, -, nextAge, due⟩ := hi
  obtain ⟨inFrame, early, headed, failed, -⟩ := slotOpen_iff.mp slot
  have one : (buffersClosed s).sph.OneWord w := by
    refine ⟨idle.1, idle.2, due, hb, ?_, prev, blockAge, next, ?_, nextAge, reads_of_slotOpen slot⟩
    · show (!s.sph.block.isEmpty) = true
      rw [hb]
      rfl
    · show (!s.sph.next.isEmpty) = false
      rw [next]
      rfl
  have settle : hostSettle (buffersClosed s) = scratchEnded w s := hostSettle_scratch one (u := buffersClosed s) hm
  have finish := frameEnd_eq idle inFrame early (kind := .clean) (.inl headed)
  rw [shortEnd_clean, settle] at finish
  have done := frameDone_frameOver (u := scratchEnded w s) ⟨one.reading, one.issue, one.due, rfl⟩ one.nextFull
  rw [← finish] at done
  have written : Frame (accessParts ++ [.sph, .reg .GCTL_SCRATCH]) (buffersClosed s) (scratchEnded w s) := scratchWritten_withPort ..
  refine Does.of_eq rfl rfl ⟨?_, done.inFrame, done.words, done.outcome.trans (if_neg ?_), done.closes, fun h => ?_⟩
  · exact (done.rd GCTL_SCRATCH (.inr rfl) (by decide) (by decide)).trans (rd_scratchWritten .host w (buffersClosed s))
  · show ¬ s.sph.failed = true
    rw [failed]
    exact Bool.false_ne_true
  · have closed : Frame [.sph] s (buffersClosed s) := Ok.sph.1
    have ends := done.frame h
    rw [show (scratchEnded w s).sph.failed = false from failed] at ends
    exact (closed.subset (by decide)).trans ((written.subset (by decide)).trans (ends.subset (by decide)))

end Sys2Proof.Machine

namespace Sys2Proof.Machine

/-- Settles O40, clause by clause: what the accesses under way leave (`hostPoll_waiting`), what then goes on (`hostSettle_quiet`,
`hostSettle_scratch`), what an error records (`hostFailed_hostFail`), and what the end of a frame leaves (`frameDone_frameOver`). -/
theorem hostFramesComplete : Obligations.HostFramesComplete := by
  unfold Obligations.HostFramesComplete
  intro s
  refine ⟨?start, fun mode3 h early => does_hostFrameStart_early early mode3 h, ?dead, ?sent, ⟨?busyRead, ?busyWrite⟩, ?taken, ?status,
    ?limit, does_frameEnd, does_frameEnd_bare, fun w => does_frameEnd_scratch, ?short⟩
  case start =>
    intro mode3 up run staged idle
    exact ⟨does_hostFrameStart_none up run staged idle, fun h =>
      ⟨fun waits command crc => does_hostFrameStart up run staged idle waits command crc,
        fun crc wrong => does_hostFrameStart_crc up run staged idle crc wrong,
        fun command crc => does_hostFrameStart_command up run staged idle command crc⟩⟩
  case dead =>
    intro w crc idle refusing
    have read (fixed : Bool) := hostReadSlot_refusing idle refusing fixed
    have write (fixed : Bool) := hostWriteSlot_refusing idle refusing fixed w crc
    exact ⟨Does.of_eq rfl (read false) (deadSlot_effect s), Does.of_eq rfl (read true) (deadSlot_effect s),
      Does.of_eq rfl (write false) (deadSlot_effect s), Does.of_eq rfl (write true) (deadSlot_effect s),
      Does.of_eq rfl (hostStatusSlot_refusing idle refusing) (deadSlot_effect s)⟩
  case sent =>
    intro w got
    exact ⟨fun slot => Does.of_eq rfl rfl (hostRead_effect (fixed := false) got slot),
      fun slot => Does.of_eq rfl rfl (hostRead_effect (fixed := true) got slot)⟩
  case busyRead =>
    intro issue reading got reply
    have poll := hostPoll_waiting (s := s) fun _ => reply
    exact ⟨fun slot => Does.of_eq rfl (hostReadSlot_busy (fixed := false) poll slot got) (busy_effect s),
      fun slot => Does.of_eq rfl (hostReadSlot_busy (fixed := true) poll slot got) (busy_effect s)⟩
  case busyWrite =>
    intro w crc reading held reply
    have poll := hostPoll_waiting (s := s) fun h => h.elim (fun e => absurd (reading.symm.trans e) Bool.false_ne_true) reply
    exact ⟨fun slot => Does.of_eq rfl ((hostWriteSlot_open (fixed := false) poll slot w crc).trans (if_pos held)) (busy_effect s),
      fun slot => Does.of_eq rfl ((hostWriteSlot_open (fixed := true) poll slot w crc).trans (if_pos held)) (busy_effect s)⟩
  case taken =>
    intro w crc
    exact ⟨fun good =>
        ⟨fun slot block addr => Does.of_eq rfl rfl (hostWrite_buffers slot good block addr),
          fun slot block addr may => Does.of_eq rfl rfl (hostWriteFixed_performs slot good block addr may)⟩,
      fun crc wrong => ⟨fun slot => Does.of_eq rfl rfl (hostWrite_crc (fixed := false) slot crc wrong),
        fun slot => Does.of_eq rfl rfl (hostWrite_crc (fixed := true) slot crc wrong)⟩⟩
  case status => exact fun slot => Does.of_eq rfl rfl (hostStatus_effect slot)
  case limit => exact fun busy reply => does_hostBusyLimit busy reply
  case short =>
    intro idle waits inFrame early alive block
    exact ⟨fun a _ => does_frameEnd_short idle waits (shortEnd_inHeader alive a) block inFrame early (.inr nofun),
      fun last headed reads => does_frameEnd_short idle waits (shortEnd_inWord alive reads last) block inFrame early (.inl headed)⟩

end Sys2Proof.Machine

namespace Sys2Proof.Machine
/-! ### What the chop loop of a coach can change, R98 to R109 and R136 -/

/-- The parts that leg switching, chopping and gang balance change. -/
def chopParts : List Part := [.free, .legs, .coils, .coaches, .reg .LEG_FLTCNT]

/-- Two states of a coach between which it has queued reports for its next STAT frame, and nothing else has changed. -/
def Coach.MoreReports (k k' : Coach) : Prop := ∃ l, k' = { k with statq := k.statq ++ l }

namespace Coach.MoreReports
variable {k k' k'' : Coach}

theorem refl : k.MoreReports k := ⟨[], by rw [List.append_nil]⟩

theorem trans (h : k.MoreReports k') (h' : k'.MoreReports k'') : k.MoreReports k'' := by
  obtain ⟨l, rfl⟩ := h
  obtain ⟨l', rfl⟩ := h'
  exact ⟨l ++ l', by rw [List.append_assoc]⟩

theorem mem {x : StatRep} (h : k.MoreReports k') (hx : x ∈ k.statq) : x ∈ k'.statq := by
  obtain ⟨l, rfl⟩ := h
  exact List.mem_append_left l hx

theorem snsq (h : k.MoreReports k') : k'.snsq = k.snsq := by
  obtain ⟨l, rfl⟩ := h
  rfl

theorem locPer (h : k.MoreReports k') : k'.locPer = k.locPer := by
  obtain ⟨l, rfl⟩ := h
  rfl

end Coach.MoreReports

/-- The same switches have tripped in two states. -/
def State.SameTrips (s t : State) : Prop := ∀ l, (t.leg l).tripHs = (s.leg l).tripHs ∧ (t.leg l).tripLs = (s.leg l).tripLs

namespace State.SameTrips
variable {s t u : State}

theorem refl : s.SameTrips s := fun _ => ⟨rfl, rfl⟩

theorem trans (h : s.SameTrips t) (h' : t.SameTrips u) : s.SameTrips u :=
  fun l => ⟨(h' l).1.trans (h l).1, (h' l).2.trans (h l).2⟩

theorem of_frame {W : List Part} (h : Frame W s t) (hw : .legs ∉ W) : s.SameTrips t := fun l => by
  rw [h.leg hw]
  exact ⟨rfl, rfl⟩

theorem modLeg (l : Nat) {f : Leg → Leg} (h : ∀ g, (f g).tripHs = g.tripHs ∧ (f g).tripLs = g.tripLs) : s.SameTrips (s.modLeg l f) := by
  intro k
  by_cases e : k = l
  · subst e
    rw [State.leg_modLeg]
    exact h _
  · rw [State.leg_modLeg_ne _ e]
    exact ⟨rfl, rfl⟩

theorem forEach {α : Type} {l : List α} {f : α → State → State} (h : ∀ x (u : State), u.SameTrips (f x u)) : s.SameTrips (forEach l f s) :=
  forEach_keeps (P := s.SameTrips) (fun x _ u hu => hu.trans (h x u)) refl

end State.SameTrips

/-- `t` comes from `s` by switching legs, chopping coils and balancing gangs: no switch trips or is released, and of the coaches
only their reports grow. -/
structure Chopped (s t : State) : Prop where
  frame : Frame chopParts s t
  trips : s.SameTrips t
  coach : ∀ c, (s.coach c).MoreReports (t.coach c)

namespace Chopped
variable {s t u : State}

theorem refl : Chopped s s := ⟨.refl, .refl, fun _ => .refl⟩

theorem trans (h : Chopped s t) (h' : Chopped t u) : Chopped s u :=
  ⟨h.frame.trans h'.frame, h.trips.trans h'.trips, fun c => (h.coach c).trans (h'.coach c)⟩

theorem forEach {α : Type} {l : List α} {f : α → State → State} (h : ∀ x u, Chopped u (f x u)) : Chopped s (forEach l f s) :=
  forEach_keeps (P := Chopped s) (fun x _ u hu => hu.trans (h x u)) refl

theorem ite {c : Prop} [Decidable c] (ht : Chopped s t) (hu : Chopped s u) : Chopped s (if c then t else u) := by
  split
  · exact ht
  · exact hu

/-- An operation on neither legs nor coaches. -/
theorem of_ok {W : List Part} (h : Ok W s t) (hw : within W chopParts = true) (hl : .legs ∉ W) (hc : .coaches ∉ W) : Chopped s t :=
  ⟨h.1.mono hw, .of_frame h.1 hl, fun c => by rw [h.1.coach hc]; exact .refl⟩

theorem modCoil (r z : Nat) (f : Coil → Coil) : Chopped s (s.modCoil r z f) :=
  of_ok (State.modCoil_ok ..) (by decide) (by decide) (by decide)

theorem inc {f : Fld} (h : RegName.at .LEG_FLTCNT f.addr) : Chopped s (s.inc f) :=
  of_ok (State.inc_at h) (by decide) (by decide) (by decide)

theorem modLeg (l : Nat) {f : Leg → Leg} (h : ∀ g, (f g).tripHs = g.tripHs ∧ (f g).tripLs = g.tripLs) : Chopped s (s.modLeg l f) :=
  ⟨(State.modLeg_ok s l f).1.mono (by decide), .modLeg l h, fun _ => .refl⟩

theorem report (c : Nat) (x : StatRep) : Chopped s (report c x s) := by
  refine ⟨(report_ok c x s).1.mono (by decide), .of_frame (report_ok c x s).1 (by decide), fun d => ?_⟩
  unfold Machine.report
  by_cases e : d = c
  · subst e
    rw [State.coach_modCoach]
    exact ⟨[x], rfl⟩
  · rw [State.coach_modCoach_ne _ e]
    exact .refl

/-! #### What names the owner of a leg and the timing of a coil -/

section
variable (h : Chopped s t)
include h

/-- LEG_FLTCNT stands at offset 0xC of 64 bytes. -/
theorem rd {a : Nat} (ha : a % 0x40 ≠ 0xC) : t.rd a = s.rd a := by
  refine h.frame.rd (by decide) fun r hr hat => ?_
  obtain rfl : r = .LEG_FLTCNT := by simpa [chopParts] using hr
  obtain ⟨i, k, rfl⟩ := hat
  simp only [regAddr, LEG_FLTCNT] at ha
  omega

theorem get {f : Fld} (ha : f.addr % 0x40 ≠ 0xC) : t.get f = s.get f := congrArg (wordField · f.hi f.lo) (h.rd ha)

theorem per (c : Nat) : t.get (CO_PWMPER.PER c) = s.get (CO_PWMPER.PER c) := h.get (by simp only [CO_PWMPER]; omega)

theorem topo (r k : Nat) : t.topo r k = s.topo r k := by
  unfold State.topo
  rw [h.get (f := RK_STAT.APPLIED0 r) (by simp only [RK_STAT]; omega), h.get (f := RK_STAT.APPLIED1 r) (by simp only [RK_STAT]; omega)]

theorem endLegs (a e : Nat) : t.endLegs a e = s.endLegs a e := by
  unfold State.endLegs
  rw [h.topo]

theorem legOwner (l : Nat) : t.legOwner l = s.legOwner l := by
  unfold State.legOwner
  simp only [h.topo]

theorem legGang (l : Nat) : t.legGang l = s.legGang l := by
  unfold State.legGang
  simp only [h.legOwner, h.endLegs]

theorem legLeader (l : Nat) : t.legLeader l = s.legLeader l := by
  unfold State.legLeader
  simp only [h.legOwner, h.endLegs]

theorem overridden (l : Nat) : t.overridden l = s.overridden l := by
  unfold State.overridden State.on
  rw [h.legLeader, h.get (by simp only [LEG_TEST]; omega)]

theorem locPer (r : Nat) : t.locPer r = s.locPer r := by
  unfold State.locPer
  rw [(h.coach _).locPer]

end

end Chopped

/-! ### Legs, R98 to R100 -/

theorem chopped_settle (l : Nat) (s : State) : Chopped s (settle l s) := .modLeg l fun _ => ⟨rfl, rfl⟩

theorem chopped_crossed (l : Nat) (s : State) : Chopped s (crossed l s) := by
  have blocked : Chopped s (s.modLeg l fun g => { g with phase := .block, ready := false, xcSeen := true }) := .modLeg l fun _ => ⟨rfl, rfl⟩
  unfold crossed
  dsimp only
  split
  · exact blocked
  · exact blocked.trans (.trans (.inc (at_LEG_FLTCNT l)) (.report ..))

theorem chopped_legCmd (l : Nat) (hs ls : Bool) (s : State) : Chopped s (legCmd l hs ls s) := by
  have given : Chopped s (s.modLeg l fun g => { g with hs := hs, ls := ls }) := .modLeg l fun _ => ⟨rfl, rfl⟩
  unfold legCmd
  dsimp only
  split
  · split
    · exact given
    · exact given.trans (chopped_crossed ..)
  · exact given.trans (chopped_settle ..)

/-! ### Coils, R136 -/

theorem Frame.coil {W : List Part} {s t : State} (h : Frame W s t) (hw : .coils ∉ W) (r z : Nat) : t.coil r z = s.coil r z :=
  congrArg (Sparse.get _ · (16 * r + z)) (h.1 .coils hw)

theorem chopped_setEnd (a e : Nat) (hs ls : Bool) (s : State) : Chopped s (setEnd a e hs ls s) := by
  refine .forEach fun l u => ?_
  split
  · exact .refl
  · exact chopped_legCmd ..

theorem chopped_showCoil (r z : Nat) (s : State) : Chopped s (showCoil r z s) := by
  unfold showCoil
  dsimp only
  split <;> exact (chopped_setEnd ..).trans (chopped_setEnd ..)

theorem chopped_coilTo (r z : Nat) (p : CoilPhase) (s : State) : Chopped s (coilTo r z p s) :=
  .trans (.modCoil ..) (chopped_showCoil ..)

theorem chopped_enterDecay (r z t : Nat) (s : State) : Chopped s (enterDecay r z t s) :=
  .trans (.modCoil ..) (chopped_coilTo ..)

theorem chopped_beginChop (r z : Nat) (cont : Bool) (s : State) : Chopped s (beginChop r z cont s) := by
  unfold beginChop
  split
  · exact .trans (.modCoil ..) (chopped_coilTo ..)
  · exact .trans (.modCoil ..) (chopped_enterDecay ..)

theorem chopped_driveEnd (r z t : Nat) (early : Bool) (s : State) : Chopped s (driveEnd r z t early s) :=
  .trans (.modCoil ..) (chopped_enterDecay ..)

/-! ### Gang balance, R109 -/

/-- Two states of a coil that differ in its counts of evaluations over the imbalance threshold alone. -/
def Coil.OnlyBalance (k k' : Coil) : Prop := k' = { k with imb1 := k'.imb1, imb2 := k'.imb2 }

namespace Coil.OnlyBalance
variable {k k' k'' : Coil}

theorem refl : k.OnlyBalance k := rfl

theorem trans (h : k.OnlyBalance k') (h' : k'.OnlyBalance k'') : k.OnlyBalance k'' := by
  unfold Coil.OnlyBalance at *
  rw [h', h]

theorem cmd (h : k.OnlyBalance k') : k'.cmd = k.cmd := by rw [h]

theorem phase (h : k.OnlyBalance k') : k'.phase = k.phase := by rw [h]

theorem tz (h : k.OnlyBalance k') : k'.tz = k.tz := by rw [h]

end Coil.OnlyBalance

theorem coil_modCoil_onlyBalance (r z x y : Nat) {f : Coil → Coil} (h : ∀ k : Coil, k.OnlyBalance (f k)) (s : State) :
    (s.coil r z).OnlyBalance ((s.modCoil x y f).coil r z) := by
  unfold State.coil State.modCoil
  by_cases e : 16 * r + z = 16 * x + y
  · rw [e, Sparse.get_modify_self]
    exact h _
  · rw [Sparse.get_modify_ne e]
    exact .refl

theorem chopped_imbPct (dev sum : Nat) (s : State) : Chopped s (imbPct dev sum s).2 :=
  .of_ok (imbPct_ok dev sum s).snd (by decide) (by decide) (by decide)

/-- A coil whose count for end `e` is `n`. -/
def Coil.withCount (e n : Nat) (k : Coil) : Coil := if e % 2 = 0 then { k with imb1 := n } else { k with imb2 := n }

theorem Coil.onlyBalance_withCount (e n : Nat) (k : Coil) : k.OnlyBalance (k.withCount e n) := by
  unfold Coil.withCount
  split <;> rfl

/-- An evaluation of a gang leaves all as it is, or counts at the coil, and may then report the imbalance. -/
theorem balance_cases (a e t : Nat) (cur : List Nat) (s : State) : balance a e t cur s = s ∨
    ∃ r z n, balance a e t cur s = s.modCoil r z (Coil.withCount e n) ∨
      ∃ c x dev sum, balance a e t cur s = report c x (imbPct dev sum (s.modCoil r z (Coil.withCount e n))).2 := by
  unfold balance
  dsimp only
  generalize (1 + if e % 2 = 0 then _ else _) = run
  split
  · exact .inl rfl
  · refine .inr ⟨axisRank a, 8 * axisHalf a + 2 * axisSlot a + e / 2, ?_⟩
    split
    · exact ⟨0, .inl rfl⟩
    · refine ⟨min run (s.get (RK_BALCFG.NPER (axisRank a))), ?_⟩
      by_cases per : s.get (RK_BALCFG.NPER (axisRank a)) ≤ run
      · exact .inr ⟨_, _, _, _, if_pos per⟩
      · exact .inl (if_neg per)

theorem chopped_balance (a e t : Nat) (cur : List Nat) (s : State) : Chopped s (balance a e t cur s) := by
  obtain same | ⟨r, z, n, counts | ⟨c, x, dev, sum, reports⟩⟩ := balance_cases a e t cur s
  · rw [same]
    exact .refl
  · rw [counts]
    exact .modCoil ..
  · rw [reports]
    exact .trans (.modCoil ..) (.trans (chopped_imbPct ..) (.report ..))

theorem coil_balance (a e t : Nat) (cur : List Nat) (r z : Nat) (s : State) : (s.coil r z).OnlyBalance ((balance a e t cur s).coil r z) := by
  obtain same | ⟨x, y, n, counts | ⟨c, w, dev, sum, reports⟩⟩ := balance_cases a e t cur s
  · rw [same]
    exact .refl
  · rw [counts]
    exact coil_modCoil_onlyBalance _ _ _ _ (Coil.onlyBalance_withCount e n) s
  · rw [reports, (report_ok ..).1.coil (by decide), (imbPct_ok ..).snd.1.coil (by decide)]
    exact coil_modCoil_onlyBalance _ _ _ _ (Coil.onlyBalance_withCount e n) s

/-- What every evaluation keeps, all of those that a command ends with keep. -/
theorem gangOffs_keeps {P : State → Prop} (h : ∀ a e t cur u, P u → P (balance a e t cur u)) (p : Nat → Bool) (l : List GangEnd) {s : State}
    (hs : P s) : P (gangOffs p l s) := by
  refine forEach_keeps (f := fun (x : GangEnd) s =>
    if p x.leg && (s.leg x.leg).conducts then balance (s.legOwner x.leg).1 (s.legOwner x.leg).2 x.onTime x.cur s else s) (fun x _ u hu => ?_) hs
  split
  · exact h _ _ _ _ u hu
  · exact hu

theorem chopped_gangOffs (p : Nat → Bool) (l : List GangEnd) (s : State) : Chopped s (gangOffs p l s) :=
  gangOffs_keeps (P := Chopped s) (fun _ _ _ _ _ hu => hu.trans (chopped_balance ..)) p l .refl

theorem coil_gangOffs (p : Nat → Bool) (l : List GangEnd) (r z : Nat) (s : State) : (s.coil r z).OnlyBalance ((gangOffs p l s).coil r z) :=
  gangOffs_keeps (P := fun u => (s.coil r z).OnlyBalance (u.coil r z)) (fun _ _ _ _ _ hu => hu.trans (coil_balance ..)) p l .refl

/-! ### Legs in turn -/

/-- An operation on legs in turn: what it makes of leg `l` holds at the end, since the other legs' turns leave `l` alone. -/
theorem forEach_leg {Q : Leg → Prop} {f : Nat → State → State} {legs : List Nat} {l : Nat} (hl : l ∈ legs)
    (self : ∀ u, Q ((f l u).leg l)) (other : ∀ m u, l ≠ m → (f m u).leg l = u.leg l) (s : State) : Q ((forEach legs f s).leg l) := by
  refine forEach_reaches (P := fun _ => True) (Q := fun u => Q (u.leg l)) hl (fun _ _ _ _ _ => trivial) (fun u _ => self u) ?_ trivial
  intro m _ u hu
  by_cases e : l = m
  · exact e ▸ self u
  · exact (other m u e).symm ▸ hu

/-- The same of a change of each leg by itself. -/
theorem forEach_modLeg {Q : Leg → Prop} {f : Nat → Leg → Leg} {legs : List Nat} {l : Nat} (hl : l ∈ legs) (h : ∀ g, Q (f l g)) (s : State) :
    Q ((forEach legs (fun m s => s.modLeg m (f m)) s).leg l) :=
  forEach_leg hl (fun u => by rw [State.leg_modLeg]; exact h _) (fun _ _ e => State.leg_modLeg_ne _ e) s

theorem hs_ls_legCmd_off (l : Nat) (s : State) : ((legCmd l false false s).leg l).hs = false ∧ ((legCmd l false false s).leg l).ls = false := by
  have e : legCmd l false false s = settle l (s.modLeg l fun g => { g with hs := false, ls := false }) := rfl
  rw [e, settle, State.leg_modLeg, State.leg_modLeg]
  exact ⟨rfl, rfl⟩

theorem leg_legCmd_off_ne {l m : Nat} (h : l ≠ m) (s : State) : (legCmd m false false s).leg l = s.leg l :=
  (leg_settle_ne h _).trans (State.leg_modLeg_ne _ h)

/-! ### INTERLOCK_TIMEOUT, R100 and R108 -/

theorem ilkcnt_inc (l : Nat) (s : State) :
    (s.inc (LEG_FLTCNT.ILKCNT l)).get (LEG_FLTCNT.ILKCNT l) = min 127 (s.get (LEG_FLTCNT.ILKCNT l) + 1) := by
  unfold State.inc State.addSat
  rw [State.get_put_self _ (by simp) (by simp)]
  simp only [Fld.max]
  omega

theorem statq_report (c : Nat) (x : StatRep) (s : State) : ((report c x s).coach c).statq = (s.coach c).statq ++ [x] := by
  unfold report
  rw [State.coach_modCoach]

/-- Leg `m` of the gang of leg `l` when the interlock of `l` times out. -/
def Leg.stopped (l m : Nat) (g : Leg) : Leg := { g with phase := .block, ready := false, stuck := g.waits && m ≠ l }

theorem does_interlockTimeout_waits {s : State} {l : Fin 512} (hp : (s.leg l).phase = .waitHs ∨ (s.leg l).phase = .waitLs)
    (hr : (s.leg l).ready = false) : Does (.interlockTimeout l) s fun t =>
      (∀ m ∈ s.legGang l, (t.leg m).phase = .block) ∧ t.get (LEG_FLTCNT.ILKCNT l) = min 127 (s.get (LEG_FLTCNT.ILKCNT l) + 1)
        ∧ (t.coach (legCoach l)).statq = (s.coach (legCoach l)).statq ++ [.ilk l] ∧ Frame [.legs, .coaches, .reg .LEG_FLTCNT] s t := by
  have waits : (s.leg l).waits = true := by
    unfold Leg.waits
    rw [hr]
    rcases hp with hp | hp <;> rw [hp] <;> rfl
  let u := forEach (s.legGang l) (fun m s => s.modLeg m (Leg.stopped l m)) s
  have blocked : Ok [.legs] s u := Ok.forEach (fun _ _ => State.modLeg_ok ..) .refl
  have timeout : interlockTimeout l s = report (legCoach l) (.ilk l) (u.inc (LEG_FLTCNT.ILKCNT l)) := by
    unfold interlockTimeout
    dsimp only
    rw [if_pos waits]
    rfl
  refine ⟨_, rfl, ?_⟩
  refine ⟨fun m hm => ?_, ?_, ?_, (interlockTimeout_ok l s).1⟩ <;> rw [timeout]
  · rw [(report_ok ..).1.leg (by decide), State.inc_leg]
    exact forEach_modLeg hm (f := Leg.stopped l) (Q := fun g => g.phase = .block) (fun _ => rfl) s
  · refine (ilkcnt_inc l u).trans ?_
    rw [blocked.1.get (by decide) (by simp)]
  · rw [statq_report, State.inc_coach, blocked.1.coach (by decide)]

theorem does_interlockTimeout_stuck {s : State} {l : Fin 512} (hw : (s.leg l).waits = false) (hs : (s.leg l).stuck = true) :
    Does (.interlockTimeout l) s fun t =>
      t.leg l = { s.leg l with stuck := false } ∧ t.get (LEG_FLTCNT.ILKCNT l) = min 127 (s.get (LEG_FLTCNT.ILKCNT l) + 1)
        ∧ (t.coach (legCoach l)).statq = (s.coach (legCoach l)).statq ++ [.ilk l] ∧ Frame [.legs, .coaches, .reg .LEG_FLTCNT] s t := by
  have timeout : interlockTimeout l s
      = report (legCoach l) (.ilk l) ((s.inc (LEG_FLTCNT.ILKCNT l)).modLeg l fun g => { g with stuck := false }) := by
    unfold interlockTimeout
    dsimp only
    rw [hw, if_neg (by decide), if_pos hs]
  refine ⟨_, rfl, ?_, ?_, ?_, (interlockTimeout_ok l s).1⟩ <;> rw [timeout]
  · rw [(report_ok ..).1.leg (by decide), State.leg_modLeg, State.inc_leg]
  · exact ilkcnt_inc l s
  · rw [statq_report, State.modLeg_coach, State.inc_coach]

/-! ### DEAD_TIME_END, R98 and R108 -/

/-- The leg's switch conducts that the dead time held back. -/
def Leg.turned (hs : Bool) (g : Leg) : Leg := { g with phase := if hs then .hsOn else .lsOn, ready := false }

theorem does_deadTimeEnd {s : State} {l : Fin 512} {hs : Bool} (hp : (s.leg l).phase = if hs then .waitHs else .waitLs)
    (hg : ∀ m ∈ s.legGang l, m ≠ l → (s.leg m).ready = true ∧ (s.leg m).phase = if hs then .waitHs else .waitLs) :
    Does (.deadTimeEnd l) s fun t => (∀ m ∈ s.legGang l, (t.leg m).phase = if hs then .hsOn else .lsOn) ∧ Frame [.legs] s t := by
  let u := s.modLeg l fun g => { g with ready := true }
  have waits : ((s.leg l).phase = .waitHs || (s.leg l).phase = .waitLs) = true := by cases hs <;> simp [hp]
  have next : (if (s.leg l).phase = .waitHs then LegPhase.hsOn else .lsOn) = if hs then .hsOn else .lsOn := by cases hs <;> simp [hp]
  have gang : u.legGang l = s.legGang l := Chopped.legGang (.modLeg l fun _ => ⟨rfl, rfl⟩) l
  have all : (u.legGang l).all (fun m => (u.leg m).ready && (u.leg m).phase = (s.leg l).phase) = true := by
    refine List.all_eq_true.mpr fun m hm => ?_
    by_cases e : m = l
    · subst e
      simp [u]
    · obtain ⟨ready, phase⟩ := hg m (gang ▸ hm) e
      simp [u, State.leg_modLeg_ne _ e, ready, phase, hp]
  have moved : deadTimeEnd l s = forEach (s.legGang l) (fun m v => v.modLeg m (Leg.turned hs)) u := by
    unfold deadTimeEnd
    dsimp only
    rw [if_pos waits, ← gang, next]
    exact if_pos all
  refine ⟨_, rfl, fun m hm => ?_, (deadTimeEnd_ok l s).1⟩
  rw [moved]
  exact forEach_modLeg hm (f := fun _ => Leg.turned hs) (Q := fun g => g.phase = if hs then .hsOn else .lsOn) (fun _ => rfl) u

/-! ### OVERRIDE_ONTIME_END, R113 -/

theorem does_overrideOntimeEnd {s : State} {l : Fin 512} (ho : s.overridden l = true) (gangs : List GangEnd) :
    Does (.overrideOntimeEnd ⟨l, gangs⟩) s fun t =>
      (∀ m ∈ s.legGang l, (t.leg m).hs = false ∧ (t.leg m).ls = false) ∧ Frame [.free, .legs, .coils, .coaches, .reg .LEG_FLTCNT] s t := by
  let u := gangOffs (ofRank (l / 32)) gangs s
  have still : Chopped s u := chopped_gangOffs ..
  have ends : overrideEnd l u = forEach (s.legGang l) (fun m s => legCmd m false false s) u := by
    unfold overrideEnd
    rw [still.overridden, if_pos ho, still.legGang]
  refine ⟨_, rfl, fun m hm => ?_, (execOverrideOntimeEnd_ok ⟨l, gangs⟩ s _ rfl).1⟩
  show ((overrideEnd l u).leg m).hs = false ∧ ((overrideEnd l u).leg m).ls = false
  rw [ends]
  exact forEach_leg (f := fun m s => legCmd m false false s) (Q := fun g => g.hs = false ∧ g.ls = false) hm (hs_ls_legCmd_off m) (fun _ _ e => leg_legCmd_off_ne e _) u

/-! ### RANK_PERIOD_START, R134 -/

theorem sameTrips_startPeriod (r z : Nat) (x : CoilRec) (s : State) : s.SameTrips (startPeriod r z x s) := by
  unfold startPeriod
  dsimp only
  split
  · exact (Chopped.trans (.modCoil ..) (chopped_coilTo ..)).trips
  · exact (Chopped.trans (.modCoil ..) (chopped_beginChop ..)).trips
  · exact (Chopped.trans (.modCoil ..) (chopped_coilTo ..)).trips
  · exact (Chopped.trans (.modCoil ..) (.trans (.modCoil ..) (chopped_coilTo ..))).trips

theorem sameTrips_overrideStart (l : Nat) (s : State) : s.SameTrips (overrideStart l s) := by
  unfold overrideStart
  dsimp only
  split
  · exact (chopped_legCmd ..).trips
  · exact .refl

/-- The work of a local period start before its legs' flags clear. -/
def periodOpened (r : Nat) (deep : List Nat) (gangs : List GangEnd) (s : State) : State :=
  let s := decayFlags r deep (forEach (List.range 16) (windowAbandon r) (gangOffs (ofRank r) gangs s))
  s.modCoach (r / 4) fun k => { k with locPer := k.locPer.set (r % 4) (s.get (CO_PERCNT.COUNT (r / 4)) % 256) }

/-- Its work after that: the legs in the coach's safe state, or the coils' records and the overrides. -/
def periodCommands (r : Nat) (s : State) : State :=
  let x := s.coach (r / 4)
  if x.safe then forEach (rankLegs r) (fun l s => legCmd l (s.leg l).hs (s.leg l).ls s) s
  else
    let recs := x.applied.getD (r % 4) []
    forEach (rankLegs r) overrideStart (forEach (List.range 16) (fun z s =>
      if s.coilLive r z then startPeriod r z (recs.getD z {}) s else s) s)

theorem rankStart_live {r : Nat} {s : State} (h : s.coachLive (r / 4) = true) (deep : List Nat) (gangs : List GangEnd) :
    rankStart r deep gangs s = periodCommands r (forEach (rankLegs r) legPeriod (periodOpened r deep gangs s)) := by
  unfold rankStart
  dsimp only
  rw [h]
  rfl

theorem sameTrips_periodCommands (r : Nat) (s : State) : s.SameTrips (periodCommands r s) := by
  unfold periodCommands
  dsimp only
  split
  · exact .forEach fun _ _ => (chopped_legCmd ..).trips
  · refine .trans (.forEach fun z u => ?_) (.forEach sameTrips_overrideStart)
    split
    · exact sameTrips_startPeriod r z _ u
    · exact .refl

theorem does_rankPeriodStart {s : State} {r : Fin 16} (h : s.coachLive (r / 4) = true) (edges : PeriodEdges) :
    Does (.rankPeriodStart r edges) s fun t =>
      (∀ i : Fin 32, (t.leg (32 * r + i)).tripHs = false ∧ (t.leg (32 * r + i)).tripLs = false)
        ∧ Frame [.free, .legs, .coils, .coaches, .reg .LEG_FLTCNT] s t := by
  refine ⟨_, rfl, fun i => ?_, (rankStart_ok ..).1⟩
  have mem : 32 * r.val + i.val ∈ rankLegs r := List.mem_map.mpr ⟨i, List.mem_range.mpr i.isLt, rfl⟩
  have cleared (u : State) := forEach_leg (f := legPeriod) (Q := fun g => g.tripHs = false ∧ g.tripLs = false) mem
    (fun v => by rw [legPeriod, State.leg_modLeg]; exact ⟨rfl, rfl⟩) (fun _ _ e => State.leg_modLeg_ne _ e) u
  rw [rankStart_live h]
  obtain ⟨hs, ls⟩ := sameTrips_periodCommands r (forEach (rankLegs r) legPeriod (periodOpened r (edges.deep.map (·.val)) edges.gangs s))
    (32 * r + i)
  obtain ⟨hs', ls'⟩ := cleared (periodOpened r (edges.deep.map (·.val)) edges.gangs s)
  exact ⟨hs.trans hs', ls.trans ls'⟩

/-! ### OVERCURRENT_TRIP, R117 to R119 -/

/-- The coil position that a leg's coil end belongs to. -/
def tripCoil (s : State) (l : Nat) : Nat := 8 * axisHalf (s.legOwner l).1 + 2 * axisSlot (s.legOwner l).1 + (s.legOwner l).2 / 2

/-- The switches of the coil that conduct may still trip in the instant `stamp`; the one that trips now has done so. -/
def tripMarked (l : Nat) (hs : Bool) (stamp : Nat) (s : State) : State :=
  let (a, e) := s.legOwner l
  let ev := !s.blanked (l / 32) (tripCoil s l)
  (forEach (s.endLegs a e ++ s.endLegs a (e / 2 * 2 + (e + 1) % 2)) (fun m s =>
    if (s.leg m).cutAt true stamp = none && (s.leg m).cutAt false stamp = none then s.modLeg m (Leg.cut stamp ev) else s) s).modLeg l
      (Leg.uncut hs)

/-- A switch ignores its on-commands for the period. -/
def Leg.trip (hs : Bool) (g : Leg) : Leg := if hs then { g with tripHs := true } else { g with tripLs := true }

/-- The same switch of every leg of a gang trips. -/
def gangTripped (l : Nat) (hs : Bool) (s : State) : State := forEach (s.legGang l) (fun m s => settle m (s.modLeg m (Leg.trip hs))) s

/-- The trip is counted once in a period; `g` is the leg before it. -/
def tripCounted (l : Nat) (hard : Bool) (g : Leg) (s : State) : State :=
  if hard then (if g.hocSeen then s else (s.inc (LEG_FLTCNT.HOCCNT l)).modLeg l fun g => { g with hocSeen := true })
  else if g.ocSeen then s else (s.inc (LEG_FLTCNT.OCCNT l)).modLeg l fun g => { g with ocSeen := true }

/-- The on-times of gangs that a trip ends, and drive if the switch is in its path; `s` is the state before the trip. -/
def tripEnds (l : Nat) (hs : Bool) (time onTime : Nat) (x : TripRead) (s t : State) : State :=
  let (a, e) := s.legOwner l
  let isOn : Bool := if hs then (s.leg l).phase = .hsOn else (s.leg l).phase = .lsOn
  let t := gangOffs (ofRank (l / 32)) x.gangs (if isOn then balance a e onTime x.cur t else t)
  let c := t.coil (l / 32) (tripCoil s l)
  let (e1, e2) := coilE (tripCoil s l) c.cmd.pol
  if c.phase = .drive && (if hs then e = e1 else e = e2) then driveEnd (l / 32) (tripCoil s l) time false t else t

/-- Whether the detector of a switch evaluates: as the switch stood before another trip of this instant,
and not in the blanking, R118. -/
def State.evaluatesOC (s : State) (l : Nat) (hs : Bool) (stamp : Nat) : Bool :=
  ((s.leg l).cutAt hs stamp).getD (!s.blanked (l / 32) (tripCoil s l))

/-- Whether the switch conducts, or did until another trip of this instant. -/
def State.mayTrip (s : State) (l : Nat) (hs : Bool) (stamp : Nat) : Prop :=
  (s.leg l).phase = (if hs then .hsOn else .lsOn) ∨ ((s.leg l).cutAt hs stamp).isSome = true

/-- A switch that conducts trips if its detector evaluates or the trip is a hard one; else nothing happens. -/
theorem overcurrent_eq {s : State} {l : Nat} {hs : Bool} {stamp : Nat} (hm : s.mayTrip l hs stamp) (hard : Bool) (time onTime : Nat)
    (x : TripRead) :
    overcurrent l hs hard time stamp onTime x s =
      if hard || s.evaluatesOC l hs stamp then
        let t := tripCounted l hard (s.leg l) (gangTripped l hs (tripMarked l hs stamp s))
        tripEnds l hs time onTime x s (report (legCoach l) (.trip l hs hard (t.locPer (l / 32)) time stamp) t)
      else s := by
  have may : (match (s.leg l).cutAt hs stamp with
      | some ev => hard || ev
      | none => (if hs then decide ((s.leg l).phase = .hsOn) else decide ((s.leg l).phase = .lsOn))
          && (hard || !s.blanked (l / 32) (tripCoil s l))) = (hard || s.evaluatesOC l hs stamp) := by
    unfold State.evaluatesOC
    unfold State.mayTrip at hm
    cases cut : (s.leg l).cutAt hs stamp with
    | some ev => rfl
    | none =>
      rw [cut] at hm
      have on := hm.resolve_right (by decide)
      cases hs <;> simp_all
  unfold overcurrent
  dsimp only
  rw [← may]
  rfl

theorem overcurrent_still {s : State} {l : Nat} {hs : Bool} {stamp : Nat} (hm : s.mayTrip l hs stamp) (he : s.evaluatesOC l hs stamp = false)
    (time onTime : Nat) (x : TripRead) : overcurrent l hs false time stamp onTime x s = s := by
  rw [overcurrent_eq hm, he]
  rfl

theorem chopped_tripMarked (l : Nat) (hs : Bool) (stamp : Nat) (s : State) : Chopped s (tripMarked l hs stamp s) := by
  have cut (ev : Bool) (g : Leg) : (g.cut stamp ev).tripHs = g.tripHs ∧ (g.cut stamp ev).tripLs = g.tripLs := by
    unfold Leg.cut
    split <;> exact ⟨rfl, rfl⟩
  have uncut (g : Leg) : (g.uncut hs).tripHs = g.tripHs ∧ (g.uncut hs).tripLs = g.tripLs := by cases hs <;> exact ⟨rfl, rfl⟩
  refine .trans (.forEach fun m u => ?_) (.modLeg l uncut)
  split
  · exact .modLeg m (cut _)
  · exact .refl

theorem gangTripped_ok (l : Nat) (hs : Bool) (s : State) : Ok [.legs] s (gangTripped l hs s) :=
  Ok.forEach (fun _ _ => (State.modLeg_ok ..).trans (settle_ok ..)) .refl

/-- The switch of a leg ignores its on-commands for the period. -/
def Leg.hasTripped (hs : Bool) (g : Leg) : Bool := if hs then g.tripHs else g.tripLs

theorem hasTripped_gangTripped {l m : Nat} {s : State} (hm : m ∈ s.legGang l) (hs : Bool) :
    ((gangTripped l hs s).leg m).hasTripped hs = true := by
  refine forEach_leg (Q := fun g => g.hasTripped hs = true) hm (fun u => ?_)
    (fun _ _ e => (leg_settle_ne e _).trans (State.leg_modLeg_ne _ e)) s
  rw [settle, State.leg_modLeg, State.leg_modLeg]
  cases hs <;> rfl

theorem chopped_tripCounted (l : Nat) (hard : Bool) (g : Leg) (s : State) : Chopped s (tripCounted l hard g s) := by
  unfold tripCounted
  split <;> split
  · exact .refl
  · exact .trans (.inc (at_LEG_FLTCNT l)) (.modLeg l fun _ => ⟨rfl, rfl⟩)
  · exact .refl
  · exact .trans (.inc (at_LEG_FLTCNT l)) (.modLeg l fun _ => ⟨rfl, rfl⟩)

theorem chopped_tripEnds (l : Nat) (hs : Bool) (time onTime : Nat) (x : TripRead) (s t : State) :
    Chopped t (tripEnds l hs time onTime x s t) := by
  have gangs (b : Bool) : Chopped t (gangOffs (ofRank (l / 32)) x.gangs
      (if b then balance (s.legOwner l).1 (s.legOwner l).2 onTime x.cur t else t)) :=
    .trans (.ite (chopped_balance ..) .refl) (chopped_gangOffs ..)
  exact .ite ((gangs _).trans (chopped_driveEnd ..)) (gangs _)

/-- A trip turns off its switch in every leg of the gang and reports itself with the local period it came in. -/
theorem overcurrent_trips {s : State} {l : Nat} {hs hard : Bool} {stamp : Nat} (hm : s.mayTrip l hs stamp)
    (he : hard = true ∨ s.evaluatesOC l hs stamp = true) (time onTime : Nat) (x : TripRead) :
    (∀ m ∈ s.legGang l, ((overcurrent l hs hard time stamp onTime x s).leg m).hasTripped hs = true)
      ∧ StatRep.trip l hs hard (s.locPer (l / 32)) time stamp ∈ ((overcurrent l hs hard time stamp onTime x s).coach (legCoach l)).statq := by
  let u := tripMarked l hs stamp s
  let v := gangTripped l hs u
  let w := tripCounted l hard (s.leg l) v
  let y := report (legCoach l) (.trip l hs hard (w.locPer (l / 32)) time stamp) w
  have marked : Chopped s u := chopped_tripMarked ..
  have counted : Chopped v w := chopped_tripCounted ..
  have reported : Chopped w y := .report ..
  have ended : Chopped y (tripEnds l hs time onTime x s y) := chopped_tripEnds ..
  have trips : overcurrent l hs hard time stamp onTime x s = tripEnds l hs time onTime x s y := by
    rw [overcurrent_eq hm, if_pos (by simpa using he)]
  have per : w.locPer (l / 32) = s.locPer (l / 32) := by
    rw [counted.locPer, State.locPer, (gangTripped_ok l hs u).1.coach (by decide)]
    exact marked.locPer _
  rw [trips]
  refine ⟨fun m hm => ?_, (ended.coach _).mem ?_⟩
  · obtain ⟨high, low⟩ := (counted.trans (reported.trans ended)).trips m
    rw [Leg.hasTripped, high, low]
    exact hasTripped_gangTripped (by rwa [marked.legGang]) hs
  · rw [statq_report, per]
    exact List.mem_append_right _ (List.mem_singleton_self _)

/-- Settles O9: each command of legs has its effect on them, and what follows in the same command releases no trip. -/
theorem legsComplete : Obligations.LegsComplete := by
  unfold Obligations.LegsComplete
  intro s l
  refine ⟨fun r edges h => does_rankPeriodStart h edges, does_interlockTimeout_waits, does_interlockTimeout_stuck,
    fun hs hp hg => does_deadTimeEnd hp hg, fun gangs ho => does_overrideOntimeEnd ho gangs, fun hs hard time stamp onTime gang hm => ?_⟩
  dsimp only
  refine ⟨fun hh he => ?_, fun he => ?_⟩
  · subst hh
    exact ⟨_, rfl, overcurrent_still hm he time onTime gang⟩
  · obtain ⟨gangOff, reported⟩ := overcurrent_trips hm he time onTime gang
    exact ⟨_, rfl, gangOff, reported, (overcurrent_ok ..).1⟩

/-! ### What the chop loop makes of its coil, R136 -/

theorem coil_showCoil (r z : Nat) (s : State) (x y : Nat) : (showCoil r z s).coil x y = s.coil x y := (showCoil_ok r z s).1.coil (by decide) x y

theorem coil_coilTo (r z : Nat) (p : CoilPhase) (s : State) : (coilTo r z p s).coil r z = { s.coil r z with phase := p } := by
  unfold coilTo
  rw [coil_showCoil, State.coil_modCoil]

/-- The decay that a coil's command asks for from time `t` on, `per` the chopper period, R136 steps 4 and 6. -/
def CoilRec.decay (c : CoilRec) (per t : Nat) : CoilPhase := if c.dec = 1 ∨ (c.dec = 2 ∧ 0 < fastLen c.ff per t) then .fast else .slow

theorem coil_enterDecay (r z t : Nat) (s : State) :
    (enterDecay r z t s).coil r z =
      (let c := (s.coil r z).cmd
       let per := s.get (CO_PWMPER.PER (r / 4))
       { s.coil r z with tTrip := t, tFast := if c.dec = 2 then fastLen c.ff per t else 0, phase := c.decay per t }) := by
  unfold enterDecay
  dsimp only
  rw [coil_coilTo, State.coil_modCoil]
  simp only [CoilRec.decay, Bool.or_eq_true, Bool.and_eq_true, decide_eq_true_eq]

theorem phase_beginChop (r z : Nat) (s : State) : ((beginChop r z false s).coil r z).phase = chopPhase s r z := by
  unfold beginChop chopPhase
  dsimp only
  by_cases h : 0 < (s.coil r z).cmd.thr
  · rw [if_pos h, if_pos h, coil_coilTo]
  · rw [if_neg h, if_neg h, coil_enterDecay, State.coil_modCoil]
    rfl

/-- The phase in which a coil begins depends on its command and the period alone. -/
theorem chopPhase_congr {s t : State} {r z : Nat} (hc : (t.coil r z).cmd = (s.coil r z).cmd)
    (hp : t.get (CO_PWMPER.PER (r / 4)) = s.get (CO_PWMPER.PER (r / 4))) : chopPhase t r z = chopPhase s r z := by
  unfold chopPhase
  rw [hc, hp]

/-! ### The end of blanking and of drive -/

section
variable {s : State} {r z : Fin 16}

theorem does_blankingEnd (hp : (s.coil r z).phase = .drive)
    (h1 : ∀ l ∈ s.endLegs (coilAxis r z) (coilE z (s.coil r z).cmd.pol).1, (s.leg l).phase = .hsOn)
    (h2 : ∀ l ∈ s.endLegs (coilAxis r z) (coilE z (s.coil r z).cmd.pol).2, (s.leg l).phase = .lsOn) :
    Does (.blankingEnd r z) s fun t => t.coil r z = { s.coil r z with blank := false } ∧ Frame [.coils] s t := by
  have ends : blankingEnd r z s = s.modCoil r z fun c => { c with blank := false } := by
    unfold blankingEnd
    dsimp only
    rw [if_pos]
    rw [hp, List.all_eq_true.mpr fun l hl => decide_eq_true (h1 l hl), List.all_eq_true.mpr fun l hl => decide_eq_true (h2 l hl)]
    rfl
  exact .of_eq rfl ends ⟨State.coil_modCoil .., (State.modCoil_ok ..).1⟩

theorem does_comparatorTrip (hp : (s.coil r z).phase = .drive) (hb : (s.coil r z).blank = false) (time : Nat) (first : Bool) (onTime : Nat)
    (gang : TripRead) :
    let c := (s.coil r z).cmd
    let n := fastLen c.ff (s.get (CO_PWMPER.PER (r / 4))) time
    Does (.comparatorTrip r z time first onTime gang) s fun t =>
      (t.coil r z).tripped = true ∧ (t.coil r z).early = first ∧ (t.coil r z).tTrip = time
        ∧ (t.coil r z).phase = (if c.dec = 1 ∨ (c.dec = 2 ∧ 0 < n) then .fast else .slow)
        ∧ (t.coil r z).tFast = (if c.dec = 2 then n else 0) ∧ Frame [.free, .legs, .coils, .coaches, .reg .LEG_FLTCNT] s t := by
  intro c n
  let u := gangOffs (ofRank r) gang.gangs s
  have trips : comparatorTrip r z time first onTime gang s
      = balance (coilAxis r z) (coilE z c.pol).1 onTime gang.cur (driveEnd r z time first u) := by
    unfold comparatorTrip
    dsimp only
    rw [hp, hb]
    rfl
  have cmd : (u.coil r z).cmd = c := (coil_gangOffs ..).cmd
  have per : u.get (CO_PWMPER.PER (r / 4)) = s.get (CO_PWMPER.PER (r / 4)) := (chopped_gangOffs ..).per _
  have ended : (driveEnd r z time first u).coil r z = { u.coil r z with
      tripped := true, early := first, tTrip := time, tFast := if c.dec = 2 then n else 0, phase := c.decay (s.get (CO_PWMPER.PER (r / 4))) time } := by
    unfold driveEnd
    rw [coil_enterDecay, State.coil_modCoil, State.modCoil_get, per]
    dsimp only
    rw [cmd]
  have left := coil_balance (coilAxis r z) (coilE z c.pol).1 onTime gang.cur r z (driveEnd r z time first u)
  rw [← trips, ended] at left
  exact ⟨_, rfl, congrArg Coil.tripped left, congrArg Coil.early left, congrArg Coil.tTrip left, congrArg Coil.phase left,
    congrArg Coil.tFast left, (comparatorTrip_ok ..).1⟩

/-! ### Decay, R136 and R137 -/

theorem does_mixedDecaySwitch (hd : (s.coil r z).cmd.dec = 2) (hp : (s.coil r z).phase = .fast ∨ (s.coil r z).phase = .zero)
    (gangs : List GangEnd) : Does (.mixedDecaySwitch r ⟨z, gangs⟩) s fun t =>
      t.coil r z = { (gangOffs (ofRank r) gangs s).coil r z with phase := .slow }
        ∧ Frame [.free, .legs, .coils, .coaches, .reg .LEG_FLTCNT] s t := by
  have same := coil_gangOffs (ofRank r) gangs r z s
  have switches : mixedSwitch r z (gangOffs (ofRank r) gangs s) = coilTo r z .slow (gangOffs (ofRank r) gangs s) := by
    unfold mixedSwitch
    dsimp only
    rw [same.cmd, same.phase, if_pos]
    rcases hp with hp | hp <;> simp [hd, hp]
  refine ⟨_, rfl, ?_, (execMixedDecaySwitch_ok r ⟨z, gangs⟩ s _ rfl).1⟩
  rw [switches]
  exact coil_coilTo ..

end

/-! ### The zero guard, R137 -/

/-- A leg with neither on-command. -/
def Leg.idle (g : Leg) : Prop := g.hs = false ∧ g.ls = false

theorem idle_legCmd_off {l m : Nat} {s : State} (h : l = m ∨ (s.leg l).idle) : ((legCmd m false false s).leg l).idle := by
  by_cases e : l = m
  · exact e ▸ hs_ls_legCmd_off l s
  · rw [leg_legCmd_off_ne e]
    exact h.resolve_left e

/-- Withdrawing the commands of a coil end gives no leg a command. -/
theorem idle_setEnd_of_idle {l : Nat} {s : State} (a e : Nat) (h : (s.leg l).idle) : ((setEnd a e false false s).leg l).idle :=
  forEach_keeps (P := fun u => (u.leg l).idle) (fun m _ u hu => by
    split
    · exact hu
    · exact idle_legCmd_off (.inr hu)) h

/-- The legs of a coil end whose commands are withdrawn, but for overrides. -/
theorem idle_setEnd {a e l : Nat} {s : State} (hl : l ∈ s.endLegs a e) (ho : s.overridden l = false) :
    ((setEnd a e false false s).leg l).idle := by
  have step (m : Nat) (u : State) : Chopped u (if u.overridden m then u else legCmd m false false u) := by
    split
    · exact .refl
    · exact chopped_legCmd ..
  refine forEach_reaches (P := Chopped s) (Q := fun u => (u.leg l).idle) hl (fun m _ _ u hu => hu.trans (step m u)) ?_ ?_ .refl
  · intro u hu
    rw [hu.overridden, ho]
    exact idle_legCmd_off (.inl rfl)
  · intro m _ u hu
    split
    · exact hu
    · exact idle_legCmd_off (.inr hu)

/-- Both ends of a coil in the zero phase go off, but for overrides. -/
theorem idle_showCoil_zero {r z l : Nat} {s : State} (hp : (s.coil r z).phase = .zero)
    (hl : l ∈ s.endLegs (coilAxis r z) (2 * (z % 2)) ∨ l ∈ s.endLegs (coilAxis r z) (2 * (z % 2) + 1)) (ho : s.overridden l = false) :
    ((showCoil r z s).leg l).idle := by
  let e := coilE z (s.coil r z).cmd.pol
  let u := setEnd (coilAxis r z) e.1 false false s
  have shown : showCoil r z s = setEnd (coilAxis r z) e.2 false false u := by
    unfold showCoil
    dsimp only
    rw [hp]
  have still : Chopped s u := chopped_setEnd ..
  have ends : l ∈ s.endLegs (coilAxis r z) e.1 ∨ l ∈ s.endLegs (coilAxis r z) e.2 := by
    unfold e coilE
    dsimp only
    split
    · exact hl
    · exact hl.symm
  rw [shown]
  rcases ends with first | second
  · exact idle_setEnd_of_idle _ _ (idle_setEnd first ho)
  · exact idle_setEnd (by rwa [still.endLegs]) ((still.overridden l).trans ho)

section
variable {s : State} {r z : Fin 16}

theorem does_fastDecayZeroGuard (hp : (s.coil r z).phase = .fast) (gangs : List GangEnd) :
    Does (.fastDecayZeroGuard r ⟨z, gangs⟩) s fun t =>
      t.coil r z = { (gangOffs (ofRank r) gangs s).coil r z with phase := .zero }
        ∧ (∀ l, l ∈ s.endLegs (coilAxis r z) (2 * (z % 2)) ∨ l ∈ s.endLegs (coilAxis r z) (2 * (z % 2) + 1) → s.overridden l = false →
            (t.leg l).hs = false ∧ (t.leg l).ls = false)
        ∧ Frame [.free, .legs, .coils, .coaches, .reg .LEG_FLTCNT] s t := by
  let u := gangOffs (ofRank r) gangs s
  have stops : zeroGuard r z u = coilTo r z .zero u := if_pos ((coil_gangOffs ..).phase.trans hp)
  refine ⟨_, rfl, ?_, fun l hl ho => ?_, (execFastDecayZeroGuard_ok r ⟨z, gangs⟩ s _ rfl).1⟩
  · rw [stops]
    exact coil_coilTo ..
  · rw [stops]
    have still : Chopped s (u.modCoil r z fun c => { c with phase := .zero }) := (chopped_gangOffs ..).trans (.modCoil ..)
    refine idle_showCoil_zero (by rw [State.coil_modCoil]) ?_ ((still.overridden l).trans ho)
    rwa [still.endLegs, still.endLegs]

/-! ### Back-EMF windows, R192 -/

theorem does_bemfWindowZero (hp : (s.coil r z).phase = .winFast) (tz : Nat) (gangs : List GangEnd) :
    Does (.bemfWindowZero r ⟨z, gangs⟩ tz) s fun t =>
      t.coil r z = { (gangOffs (ofRank r) gangs s).coil r z with phase := .winFloat, tz := tz }
        ∧ Frame [.free, .legs, .coils, .coaches, .reg .LEG_FLTCNT] s t := by
  have floats : windowZero r z tz (gangOffs (ofRank r) gangs s)
      = coilTo r z .winFloat ((gangOffs (ofRank r) gangs s).modCoil r z fun c => { c with tz := tz }) :=
    if_pos ((coil_gangOffs ..).phase.trans hp)
  refine ⟨_, rfl, ?_, (execBemfWindowZero_ok r ⟨z, gangs⟩ tz s _ rfl).1⟩
  rw [floats, coil_coilTo, State.coil_modCoil]

theorem does_bemfSarRequest (hp : (s.coil r z).phase = .winFloat) : Does (.bemfSarRequest r z) s fun t =>
    t.coil r z = { s.coil r z with phase := .winConv }
      ∧ t.coach (r / 4) = { s.coach (r / 4) with sar := (s.coach (r / 4)).sar ++ [(r.val % 4, z.val)] } ∧ Frame [.coils, .coaches] s t := by
  have asks : sarRequest r z s = (s.modCoil r z fun c => { c with phase := .winConv }).modCoach (r / 4) fun k =>
      { k with sar := k.sar ++ [(r.val % 4, z.val)] } := if_pos hp
  refine ⟨_, rfl, ?_, ?_, (sarRequest_ok ..).1⟩
  · rw [asks, State.modCoach_coil, State.coil_modCoil]
  · rw [asks, State.coach_modCoach, State.modCoil_coach]

end

/-- The coil leaves its window with the record `x`, and runs R136 from step 1. -/
def windowEnds (r z : Nat) (x : SnsRec) (s : State) : State := beginChop r z false (dropSar r z (sense (r / 4) x s))

theorem windowEnds_effect (r z : Nat) (x : SnsRec) (s : State) :
    ((windowEnds r z x s).coach (r / 4)).snsq = (s.coach (r / 4)).snsq ++ [x] ∧ ((windowEnds r z x s).coil r z).phase = chopPhase s r z := by
  refine ⟨?_, (phase_beginChop ..).trans (chopPhase_congr rfl rfl)⟩
  unfold windowEnds
  rw [((chopped_beginChop ..).coach _).snsq, dropSar, sense, State.coach_modCoach, State.coach_modCoach]

section
variable {s : State} {r z : Fin 16}

theorem does_bemfConversionEnd (hp : (s.coil r z).phase = .winConv)
    (hf : (s.coach (r / 4)).sar.find? (fun x => x.1 = r.val % 4) = some (r.val % 4, z.val)) (sample : Int) :
    let x := clampInt (-2048) 2047 sample
    Does (.bemfConversionEnd r z sample) s fun t =>
      (t.coach (r / 4)).snsq = (s.coach (r / 4)).snsq ++ [.bemf (r % 4) z (s.locPer r) x (s.coil r z).tz false (x = -2048 || x = 2047)]
        ∧ (t.coil r z).phase = chopPhase s r z ∧ Frame [.legs, .coils, .coaches, .reg .LEG_FLTCNT] s t := by
  intro x
  have converts : sarConversion r z sample s
      = windowEnds r z (.bemf (r % 4) z (s.locPer r) x (s.coil r z).tz false (x = -2048 || x = 2047)) s := by
    unfold sarConversion
    dsimp only
    rw [hp, hf]
    exact if_pos (by simp)
  obtain ⟨record, phase⟩ := windowEnds_effect r z (.bemf (r % 4) z (s.locPer r) x (s.coil r z).tz false (x = -2048 || x = 2047)) s
  rw [← converts] at record phase
  exact ⟨_, rfl, record, phase, (sarConversion_ok ..).1⟩

theorem does_bemfWindowAbandon (hp : (s.coil r z).phase = .winFast ∨ (s.coil r z).phase = .winFloat ∨ (s.coil r z).phase = .winConv)
    (gangs : List GangEnd) : Does (.bemfWindowAbandon r ⟨z, gangs⟩) s fun t =>
      (t.coach (r / 4)).snsq = (s.coach (r / 4)).snsq ++ [.bemf (r % 4) z (s.locPer r) 0 (s.coil r z).tz true false]
        ∧ (t.coil r z).phase = chopPhase s r z ∧ Frame [.free, .legs, .coils, .coaches, .reg .LEG_FLTCNT] s t := by
  let u := gangOffs (ofRank r) gangs s
  have still : Chopped s u := chopped_gangOffs ..
  have same : (s.coil r z).OnlyBalance (u.coil r z) := coil_gangOffs ..
  have window : (s.coil r z).phase.window = true := by
    rcases hp with hp | hp | hp <;> rw [hp] <;> rfl
  have abandons : windowAbandon r z u = windowEnds r z (.bemf (r % 4) z (s.locPer r) 0 (s.coil r z).tz true false) u := by
    unfold windowAbandon
    rw [same.phase, if_pos window, still.locPer, same.tz]
    rfl
  obtain ⟨record, phase⟩ := windowEnds_effect r z (.bemf (r % 4) z (s.locPer r) 0 (s.coil r z).tz true false) u
  rw [← abandons] at record phase
  refine ⟨_, rfl, record.trans ?_, phase.trans (chopPhase_congr same.cmd (still.per _)), (execBemfWindowAbandon_ok r ⟨z, gangs⟩ s _ rfl).1⟩
  rw [(still.coach _).snsq]

end

/-! ### DECAY_TRIM_WINDOW, R143 -/

/-- The end of a trim window for one axis; the coach's words are those of `s`. -/
def trimAxis (s : State) (c a : Nat) (u : State) : State :=
  (u.put (AX_DECAYST.EARLY a) (min 255 (u.se a).earlyN)).modSe a fun x => { x with
    earlyN := 0, deepN := 0
    ffEff := if u.get (AX_DECAY.MODE a) = 2 && u.on (AX_DECAY.TRIM a) then
        if 2 ≤ (u.se a).earlyN then min 127 ((u.se a).ffEff + s.get (CO_DTRIM.STEP c))
        else if s.get (CO_DTRIM.WIN c) ≤ 2 * (u.se a).deepN then (u.se a).ffEff - s.get (CO_DTRIM.STEP c)
        else (u.se a).ffEff
      else u.get (AX_DECAY.FF a) }

theorem trimWindow_eq (c : Nat) (s : State) : trimWindow c s = forEach (coachAxes c) (trimAxis s c) s := rfl

/-- Operations on different things in turn: that on `a` leads from `P` to `Q`, the others keep `P` before it and `Q` after it. -/
theorem forEach_once {α : Type} {P Q : State → Prop} {f : α → State → State} {l : List α} {a : α} {s : State} (hd : l.Nodup) (ha : a ∈ l)
    (before : ∀ x ≠ a, ∀ u, P u → P (f x u)) (self : ∀ u, P u → Q (f a u)) (after : ∀ x ≠ a, ∀ u, Q u → Q (f x u)) (hs : P s) :
    Q (forEach l f s) := by
  induction l generalizing s with
  | nil => cases ha
  | cons x l ih =>
    obtain ⟨hx, hd⟩ := List.nodup_cons.mp hd
    rw [forEach_cons]
    by_cases e : x = a
    · subst e
      exact forEach_keeps (fun y hy => after y fun h => hx (h ▸ hy)) (self s hs)
    · exact ih hd ((List.mem_cons.mp ha).resolve_left (Ne.symm e)) (before x e s hs)

theorem nodup_coachAxes (c : Nat) : (coachAxes c).Nodup := List.nodup_range.map fun _ _ h => by simpa using h

/-- What the end of a trim window makes of axis `b`. -/
def hasTrim (c b : Nat) (s t : State) : Prop :=
  t.se b = { s.se b with
      earlyN := 0, deepN := 0
      ffEff :=
        if s.get (AX_DECAY.MODE b) = 2 ∧ s.on (AX_DECAY.TRIM b) = true then
          if 2 ≤ (s.se b).earlyN then min 127 ((s.se b).ffEff + s.get (CO_DTRIM.STEP c))
          else if s.get (CO_DTRIM.WIN c) ≤ 2 * (s.se b).deepN then (s.se b).ffEff - s.get (CO_DTRIM.STEP c)
          else (s.se b).ffEff
        else s.get (AX_DECAY.FF b) }
    ∧ t.get (AX_DECAYST.EARLY b) = min 255 (s.se b).earlyN

theorem hasTrim_trimAxis {s u : State} {c b : Nat} (he : u.se b = s.se b) (hw : u.rd (AX_DECAY b) = s.rd (AX_DECAY b)) :
    hasTrim c b s (trimAxis s c b u) := by
  have field (hi lo : Nat) : u.get ⟨AX_DECAY b, hi, lo⟩ = s.get ⟨AX_DECAY b, hi, lo⟩ := congrArg (wordField · hi lo) hw
  have trim : u.on (AX_DECAY.TRIM b) = s.on (AX_DECAY.TRIM b) := congrArg (fun n => decide (n ≠ 0)) (field 15 15)
  refine ⟨?_, ?_⟩
  · unfold trimAxis
    rw [State.se_modSe, State.put_se, he, field, field, trim]
    simp only [Bool.and_eq_true, decide_eq_true_eq]
  · unfold trimAxis
    rw [State.modSe_get, State.get_put_self _ (by simp) (by simp), he]
    show min 255 (s.se b).earlyN % 2 ^ 8 = min 255 (s.se b).earlyN
    omega

/-- The trim of another axis leaves what axis `b` is trimmed by, and what its trim made. -/
theorem trimAxis_ne {c a b : Nat} (h : a ≠ b) (s u : State) :
    (trimAxis s c a u).se b = u.se b ∧ (trimAxis s c a u).rd (AX_DECAY b) = u.rd (AX_DECAY b)
      ∧ (trimAxis s c a u).rd (AX_DECAYST b) = u.rd (AX_DECAYST b) := by
  refine ⟨(State.se_modSe_ne _ h.symm).trans (State.put_se ..), (State.modSe_rd ..).trans (State.rd_put_ne _ ?_),
    (State.modSe_rd ..).trans (State.rd_put_ne _ ?_)⟩ <;>
  · simp only [AX_DECAY, AX_DECAYST]
    omega

theorem does_decayTrimWindow {s : State} {c : Fin 4} {b : Fin 128} (hb : axisCoach b = c) :
    Does (.decayTrimWindow c) s fun t => hasTrim c b s t ∧ Frame [.axes, .reg .AX_DECAYST] s t := by
  refine ⟨_, rfl, ?_, (trimWindow_ok ..).1⟩
  rw [trimWindow_eq]
  refine forEach_once (P := fun u => u.se b = s.se b ∧ u.rd (AX_DECAY b) = s.rd (AX_DECAY b)) (nodup_coachAxes c) (mem_coachAxes hb)
    (fun a ha u hu => ?_) (fun u hu => hasTrim_trimAxis hu.1 hu.2) (fun a ha u hu => ?_) ⟨rfl, rfl⟩
  · obtain ⟨se, word, -⟩ := trimAxis_ne (c := c) ha s u
    exact ⟨se.trans hu.1, word.trans hu.2⟩
  · obtain ⟨se, -, shown⟩ := trimAxis_ne (c := c) ha s u
    exact ⟨se.trans hu.1, (congrArg (wordField · 7 0) shown).trans hu.2⟩

/-- Settles O15, command by command: the phase of its coil, what the record of a window holds, and the trim of each axis once. -/
theorem currentCompletes : Obligations.CurrentCompletes := by
  unfold Obligations.CurrentCompletes
  intro s r z
  refine ⟨does_blankingEnd, fun time first onTime gang hp hb => does_comparatorTrip hp hb time first onTime gang,
    fun gangs hd hp => does_mixedDecaySwitch hd hp gangs, fun gangs hp => does_fastDecayZeroGuard hp gangs, fun c b hb => ?_,
    fun tz gangs hp => does_bemfWindowZero hp tz gangs, does_bemfSarRequest, fun sample hp hf => does_bemfConversionEnd hp hf sample,
    fun gangs hp => does_bemfWindowAbandon hp gangs⟩
  obtain ⟨t, run, ⟨se, early⟩, frame⟩ := does_decayTrimWindow hb
  exact ⟨t, run, se, early, frame⟩

/-! ### Guarded writes that cross a coupling, R17 and R76 -/

section
variable {m : Master} {addr : Nat} {v : Word} {s : State} {l : Loc}

/-- The first of the two writes opens a window with the value, if no other master's is open. -/
theorem regWrite_opens (h : s.mayWrite m addr) (hg : ∀ g, s.guardAt addr = some g → g.master = m) (hl : locate addr = some l)
    (ha : addr < 0x100000) (hp : l.defn.pair = .none) (hc : l.compl = false) (hw : l.writable = true)
    (hr : v &&& reservedBits l.defn = 0) (hd : l.defn.guarded = true) (hq : secRestricts m l v s = false) :
    regWrite m addr v s = (s.setGuard addr (some ⟨m, v⟩)).answer m .done := by
  unfold regWrite busWrite
  rw [s.mayWrite_target h hl ha, h.1]
  dsimp only
  rw [hp, hq]
  simp only [Bool.false_eq_true, if_false]
  unfold wordWrite
  rw [hc, hw, hd, hr]
  simp only [Bool.false_eq_true, if_false, Bool.not_true, ne_eq, not_true_eq_false, if_true]
  unfold guardOpen
  cases e : s.guardAt addr with
  | none => rfl
  | some g => simp [hg g e]

/-- The write of the complement to the next word closes the window, and the value is written. -/
theorem regWrite_closes (h : s.mayWrite m (addr + 4)) (hg : s.guardAt addr = some ⟨m, v⟩)
    (hl : locate (addr + 4) = some { l with compl := true }) (ha : addr + 4 < 0x100000) (hp : l.defn.pair = .none) (hc : l.compl = false)
    (hq : secRestricts m { l with compl := true } (~~~ v) s = false) :
    regWrite m (addr + 4) (~~~ v) s = finishWrite m (addr + 4) addr l v (s.setGuard addr none) := by
  have same : ({ blk := l.blk, inst := l.inst, defn := l.defn, copy := l.copy, compl := false } : Loc) = l := by rw [← hc]
  unfold regWrite busWrite
  rw [s.mayWrite_target h hl ha, h.1]
  dsimp only
  rw [hp, hq]
  simp only [Bool.false_eq_true, if_false]
  unfold wordWrite
  rw [if_pos rfl]
  unfold guardClose
  simp only [Nat.add_sub_cancel]
  rw [hg]
  dsimp only
  rw [if_neg (by simp), if_pos rfl, same]

/-- A guarded register of a coach: when every check of R72 and R76 lets both writes pass, the hub queues the exchange. -/
theorem guardedWrite_submits {c : Nat} (h : s.mayGuard m addr) (hl : locate addr = some l)
    (hl' : locate (addr + 4) = some { l with compl := true }) (ha : addr + 4 < 0x100000) (hp : l.defn.pair = .none) (hc : l.compl = false)
    (hw : l.writable = true) (hr : v &&& reservedBits l.defn = 0) (hd : l.defn.guarded = true)
    (hdec : ∀ old t, decodeWrite l old v t = some (plainWord l.defn v, []))
    (hs : stateClamps l (plainWord l.defn v) (s.closed m addr) = (plainWord l.defn v, []))
    (hb : ∀ old sel, blockRefuses l old ((plainWord l.defn v).val ||| (plainWord l.defn v).act) sel (s.closed m addr) = false)
    (hco : coachOf addr = some c) (hq : ∀ k w t, secRestricts m { l with compl := k } w t = false) :
    guardedWrite m addr v s
      = submit m c addr (some v) (noteMode l ((s.closed m addr).before l addr) (plainWord l.defn v).val (s.closed m addr)) := by
  obtain ⟨first, second, mine⟩ := h
  have opens := regWrite_opens first mine hl (by omega) hp hc hw hr hd (hc ▸ hq l.compl v s)
  let u := (s.setGuard addr (some ⟨m, v⟩)).answer m .done
  have may : u.mayWrite m (addr + 4) := second
  have held : u.guardAt addr = some ⟨m, v⟩ := (State.answer_guardAt ..).trans (State.guardAt_setGuard ..)
  have closed : u.setGuard addr none = s.closed m addr := congrArg (State.answer · m .done) (State.setGuard_setGuard addr (some ⟨m, v⟩) none)
  unfold guardedWrite
  dsimp only
  rw [opens, State.reply_answer, if_pos rfl, regWrite_closes may held hl' ha hp hc (hq ..), closed]
  unfold finishWrite
  dsimp only
  rw [hdec]
  dsimp only
  rw [hs]
  dsimp only
  rw [hb, hco]
  rfl

/-- The exchange waits behind the coupling's others. -/
theorem submit_effect (m : Master) (c addr : Nat) (w : Word) {t : State} (h : t.coach c = s.coach c) :
    ((submit m c addr (some w) t).coach c).cfgq = (s.coach c).cfgq ++ [{ master := m, addr := addr, wr := some w, seq := (s.coach c).seq }]
      ∧ (submit m c addr (some w) t).reply m = .waiting := by
  refine ⟨?_, State.reply_answer ..⟩
  unfold submit
  rw [State.answer_coach, State.coach_modCoach, h]

end

theorem closed_ok (s : State) (m : Master) (addr : Nat) : Ok [.guards, .replies] s (s.closed m addr) :=
  Ok.via (State.answer_ok ..) rfl ((State.setGuard_ok ..).mono rfl)

/-! ### RK_MODE_WRITE, R111 -/

theorem coachOf_RK_MODE (r : Fin 16) : coachOf (RK_MODE r) = some (r.val / 4) := by
  unfold coachOf RK_MODE
  exact (if_neg (by omega)).trans ((if_neg (by omega)).trans ((if_pos (by omega)).trans (congrArg some (by omega))))

theorem reserved_RK_MODE : ∀ v : Fin 16, BitVec.ofNat 32 v &&& reservedBits entry_RK_MODE = 0 := by decide

/-- Topologies 0 to 2 are legal in both half-ranks. -/
theorem fieldsFit_RK_MODE : ∀ v : Fin 16, v.val % 4 ≠ 3 → v.val / 4 ≠ 3 → fieldsFit entry_RK_MODE.fields (BitVec.ofNat 32 v) = true := by
  decide

theorem decodeWrite_RK_MODE {v : Fin 16} (h0 : v.val % 4 ≠ 3) (h1 : v.val / 4 ≠ 3) (i : Nat) (old : Word) (s : State) :
    decodeWrite ⟨.RK, i, entry_RK_MODE, 0, false⟩ old (BitVec.ofNat 32 v) s = some (plainWord entry_RK_MODE (BitVec.ofNat 32 v), []) :=
  decodeWrite_fit rfl (fieldsFit_RK_MODE v h0 h1) (relateFields_none rfl (by dsimp only; decide) (by dsimp only; decide))

/-- A rank whose axes are all disabled takes any topology. -/
theorem blockRefuses_RK_MODE {s : State} {r : Fin 16} (hk : s.locked = false) (h : ∀ a : Fin 128, axisRank a = r → s.busyAxis a = false)
    (old w sel : Word) : blockRefuses ⟨.RK, r.val, entry_RK_MODE, 0, false⟩ old w sel s = false := by
  have idle (i : Nat) (hi : i < 2) : ([0, 1, 2, 3].any fun k => s.busyAxis (axisAt r i k)) = false := by
    refine List.any_eq_false.mpr fun k hk => ?_
    have : k < 4 := by simp at hk; omega
    have := h ⟨axisAt r i k, by unfold axisAt; omega⟩ (by unfold axisRank axisAt; dsimp only; omega)
    simpa using this
  rw [blockRefuses, lock_open hk, Bool.false_or]
  unfold coachRefuses
  refine List.any_eq_false.mpr fun i hi => ?_
  dsimp only
  rw [idle i (by simp at hi; omega), Bool.and_false]
  decide

theorem does_rkModeWrite {s : State} {m : Master} {r v : Fin 16} (hk : s.locked = false) (h : s.mayGuard m (RK_MODE r))
    (hb : ∀ a : Fin 128, axisRank a = r → s.busyAxis a = false) (h0 : v.val % 4 ≠ 3) (h1 : v.val / 4 ≠ 3) :
    Does (.rkModeWrite m r v) s fun t =>
      (t.coach (r / 4)).cfgq = (s.coach (r / 4)).cfgq ++
          [{ master := m, addr := RK_MODE r, wr := some (BitVec.ofNat 32 v), seq := (s.coach (r / 4)).seq }]
        ∧ t.reply m = .waiting ∧ Frame [.guards, .replies, .coaches, .reg .RK_STAT] s t := by
  let u := s.closed m (RK_MODE r)
  let l : Loc := ⟨.RK, r.val, entry_RK_MODE, 0, false⟩
  let t := noteMode l (u.before l (RK_MODE r)) (plainWord entry_RK_MODE (BitVec.ofNat 32 v)).val u
  have noted : Ok [.guards, .replies, .reg .RK_STAT] s t := ((closed_ok ..).mono rfl).trans ((noteMode_ok ..).mono rfl)
  have submits : guardedWrite m (RK_MODE r) (BitVec.ofNat 32 v) s = submit m (r / 4) (RK_MODE r) (some (BitVec.ofNat 32 v)) t :=
    guardedWrite_submits h (locate_RK_MODE r) (locate_RK_MODE_compl r) (by unfold RK_MODE; omega) rfl rfl rfl (reserved_RK_MODE v) rfl
      (decodeWrite_RK_MODE h0 h1 r) rfl (fun old sel => blockRefuses_RK_MODE hk hb old _ sel) (coachOf_RK_MODE r)
      (fun _ _ _ => rfl)
  obtain ⟨queued, waits⟩ := submit_effect m (r / 4) (RK_MODE r) (BitVec.ofNat 32 v) (noted.1.coach (by decide) (r / 4))
  exact .of_eq rfl submits ⟨queued, waits, ((noted.mono rfl).trans ((submit_ok ..).mono rfl)).1⟩

/-! ### LEG_TEST_WRITE, R113 -/

theorem coachOf_LEG_TEST (l : Fin 512) : coachOf (LEG_TEST l) = some (legCoach l) := by
  unfold coachOf LEG_TEST legCoach
  exact (if_neg (by omega)).trans ((if_pos (by omega)).trans (congrArg some (by omega)))

/-- The word of LEG_TEST that overrides a leg with an on-time of `n`. -/
def overrideWord (hs ls : Bool) (n : Nat) : Word := BitVec.ofNat 32 (1 + 2 * b2n hs + 4 * b2n ls + 16 * n)

theorem overrideFlags_lt (hs ls : Bool) : 1 + 2 * b2n hs + 4 * b2n ls < 8 := by cases hs <;> cases ls <;> decide

theorem reserved_LEG_TEST : reservedBits entry_LEG_TEST = 0xFFFF0008 := by decide

section
variable {hs ls : Bool} {n : Nat}

theorem toNat_overrideWord (hn : n < 4096) : (overrideWord hs ls n).toNat = 1 + 2 * b2n hs + 4 * b2n ls + 16 * n := by
  have := overrideFlags_lt hs ls
  exact Nat.mod_eq_of_lt (by omega)

theorem wordField_overrideWord (hn : n < 4096) : wordField (overrideWord hs ls n) 15 4 = n := by
  have := overrideFlags_lt hs ls
  rw [wordField_eq, toNat_overrideWord hn]
  omega

/-- Bit 3 and bits 31 to 16 are 0. -/
theorem overrideWord_rest (hn : n < 4096) : overrideWord hs ls n &&& (0xFFFF0008 : Word) = 0 := by
  have := overrideFlags_lt hs ls
  refine Word.and_zero_of_bits fun i hi => ?_
  have place : i = 3 ∨ 16 ≤ i := by
    have : i < 32 := BitVec.lt_of_getLsbD hi
    revert hi
    revert i
    decide
  have bits : (overrideWord hs ls n).getLsbD i = (2 ^ 4 * n + (1 + 2 * b2n hs + 4 * b2n ls)).testBit i := by
    rw [BitVec.getLsbD, toNat_overrideWord hn]
    congr 1
    omega
  rw [bits, Nat.testBit_two_pow_mul_add _ (by omega)]
  rcases place with rfl | high
  · exact Nat.testBit_lt_two_pow (by omega)
  · rw [if_neg (by omega)]
    exact Nat.testBit_lt_two_pow (hn.trans_le (Nat.pow_le_pow_right (show 0 < 2 by decide) (show 12 ≤ i - 4 by omega)))

theorem plain_LEG_TEST_fit (hn : n < 4096) : plainWord entry_LEG_TEST (overrideWord hs ls n) = ⟨overrideWord hs ls n, 0, 0⟩ := by
  rw [plain_LEG_TEST, Word.and_of_rest (overrideWord_rest hn)]

end

theorem decodeWrite_LEG_TEST (i : Nat) (old v : Word) (s : State) :
    decodeWrite ⟨.LEG, i, entry_LEG_TEST, 0, false⟩ old v s = some (plainWord entry_LEG_TEST v, []) :=
  decodeWrite_fit rfl (fieldsFit_any rfl v) (relateFields_none rfl (by dsimp only; decide) (by dsimp only; decide))

/-- An on-time that leaves 20 ticks of the shorter period is not clamped. -/
theorem stateClamps_LEG_TEST {s : State} {i : Nat} {x : WriteWord}
    (h : wordField x.val 15 4 + 20 ≤ min (s.get (CO_PWMPER.PER (legCoach i))) (s.getLatest (CO_PWMPER.PER (legCoach i)))) :
    stateClamps ⟨.LEG, i, entry_LEG_TEST, 0, false⟩ x s = (x, []) := by
  unfold stateClamps limitField
  exact if_pos (Nat.min_eq_right (Nat.le_sub_of_add_le h))

/-- The leader of an axis that is disabled may be overridden. -/
theorem blockRefuses_LEG_TEST {s : State} {i : Nat} (hk : s.locked = false) (hb : s.busyAxis (s.legOwner i).1 = false)
    (hl : s.legLeader i = i) (old w sel : Word) : blockRefuses ⟨.LEG, i, entry_LEG_TEST, 0, false⟩ old w sel s = false := by
  rw [blockRefuses, lock_open hk, Bool.false_or]
  unfold coachRefuses
  dsimp only
  rw [hb, hl]
  simp

theorem does_legTestWrite {s : State} {m : Master} {l : Fin 512} {hs ls : Bool} {n : Nat} (hk : s.locked = false)
    (h : s.mayGuard m (LEG_TEST l)) (hb : s.busyAxis (s.legOwner l).1 = false) (hl : s.legLeader l = l) (hn : n < 4096)
    (hp : n + 20 ≤ min (s.get (CO_PWMPER.PER (legCoach l))) (s.getLatest (CO_PWMPER.PER (legCoach l)))) :
    Does (.legTestWrite m l (overrideWord hs ls n)) s fun t =>
      (t.coach (legCoach l)).cfgq = (s.coach (legCoach l)).cfgq ++
          [{ master := m, addr := LEG_TEST l, wr := some (overrideWord hs ls n), seq := (s.coach (legCoach l)).seq }]
        ∧ t.reply m = .waiting ∧ Frame [.guards, .replies, .coaches] s t := by
  let u := s.closed m (LEG_TEST l)
  have plain : plainWord entry_LEG_TEST (overrideWord hs ls n) = ⟨overrideWord hs ls n, 0, 0⟩ := plain_LEG_TEST_fit hn
  have clamps : stateClamps ⟨.LEG, l.val, entry_LEG_TEST, 0, false⟩ (plainWord entry_LEG_TEST (overrideWord hs ls n)) u
      = (plainWord entry_LEG_TEST (overrideWord hs ls n), []) := by
    rw [plain]
    exact stateClamps_LEG_TEST (by rw [wordField_overrideWord hn]; exact hp)
  have submits : guardedWrite m (LEG_TEST l) (overrideWord hs ls n) s
      = submit m (legCoach l) (LEG_TEST l) (some (overrideWord hs ls n)) u :=
    guardedWrite_submits h (locate_LEG_TEST l) (locate_LEG_TEST_compl l) (by unfold LEG_TEST; omega) rfl rfl rfl (reserved_LEG_TEST ▸ overrideWord_rest hn) rfl
      (fun old t => decodeWrite_LEG_TEST l old _ t) clamps (fun old sel => blockRefuses_LEG_TEST hk hb hl old _ sel) (coachOf_LEG_TEST l)
      (fun _ _ _ => rfl)
  have closed : Ok [.guards, .replies] s u := closed_ok ..
  obtain ⟨queued, waits⟩ := submit_effect m (legCoach l) (LEG_TEST l) (overrideWord hs ls n) (closed.1.coach (by decide) (legCoach l))
  exact .of_eq rfl submits ⟨queued, waits, ((closed.mono rfl).trans ((submit_ok ..).mono rfl)).1⟩

/-- Settles O10: the word passes every check of both writes, unclamped, and waits in the coupling's queue. -/
theorem coachWritesComplete : Obligations.CoachWritesComplete := by
  unfold Obligations.CoachWritesComplete
  intro s m hk
  exact ⟨fun r v h hb h0 h1 => does_rkModeWrite hk h hb h0 h1, fun l hs ls n h hb hl hn hp => does_legTestWrite hk h hb hl hn hp⟩

end Sys2Proof.Machine

/-!
# O11, O13 and O14: faults and conditions
-/
namespace Sys2Proof.Machine

/-! ### Sources that stay pending while faults are recorded, R297 -/

/-- Every source that is pending in `s` is pending in `t`. -/
def KeepsPending (s t : State) : Prop := ∀ src < 128, s.evPending src = true → t.evPending src = true

/-- The registers, but EV_PEND, that the faults of axes, ranks, coaches and sides change. -/
def faultRegs : List RegName :=
  [.AXALERT, .AX_ACC, .AX_EPFS, .AX_FLTCNT, .AX_FLTSTAT, .AX_HOMEST, .AX_MOVEEN, .AX_STALLST, .AX_STAT, .AX_USTAT, .AX_VEL, .EV_ACT,
    .PL_ENERGY_HI, .PL_ENERGY_LO, .PL_EVINFO, .PL_MAKESPAN, .PL_RES, .PL_RES_EACT, .PL_RES_END, .PL_STAT, .RK_FLTSTAT]

/-- A part that holds no word of EV_PEND. -/
def Part.unpending : Part → Bool
  | .reg r => decide (r ∈ faultRegs)
  | .regs => false
  | _ => true

theorem not_at_EV_PEND {r : RegName} (h : r ∈ faultRegs) {k : Nat} (hk : k < 4) : ¬ r.at (EV_PEND k) := by
  rintro ⟨i, j, e⟩
  simp only [faultRegs, List.mem_cons, List.not_mem_nil, or_false] at h
  rcases h with rfl | rfl | rfl | rfl | rfl | rfl | rfl | rfl | rfl | rfl | rfl | rfl | rfl | rfl | rfl | rfl | rfl | rfl | rfl | rfl | rfl
  all_goals
    simp only [regAddr, EV_PEND, AXALERT, AX_ACC, AX_EPFS, AX_FLTCNT, AX_FLTSTAT, AX_HOMEST, AX_MOVEEN, AX_STALLST, AX_STAT, AX_USTAT,
      AX_VEL, EV_ACT, PL_ENERGY_HI, PL_ENERGY_LO, PL_EVINFO, PL_MAKESPAN, PL_RES, PL_RES_EACT, PL_RES_END, PL_STAT, RK_FLTSTAT] at e
    omega

namespace KeepsPending
variable {s t u : State}

theorem refl : KeepsPending s s := fun _ _ h => h

theorem trans (h : KeepsPending s t) (h' : KeepsPending t u) : KeepsPending s u := fun x hx hp => h' x hx (h x hx hp)

/-- An operation on parts that hold no word of EV_PEND. -/
theorem ok {W : List Part} (hu : Ok W t u) (hw : W.all Part.unpending = true) (h : KeepsPending s t) : KeepsPending s u := by
  have free {p : Part} (hp : p ∈ W) : p.unpending = true := List.all_eq_true.mp hw p hp
  refine h.trans fun src hs hp => (congrArg (fun w : Word => w.getLsbD (src % 32)) ?_).trans hp
  exact hu.1.rd (fun hr => absurd (free hr) (by decide)) fun r hr => not_at_EV_PEND (of_decide_eq_true (free hr)) (by omega)

theorem put {f : Fld} {v : Nat} {r : RegName} (ha : r.at f.addr) (hr : r ∈ faultRegs) (h : KeepsPending s t) :
    KeepsPending s (t.put f v) :=
  h.ok (State.put_at ha) (by simpa [Part.unpending] using hr)

theorem pend {src cause idx : Nat} (h : KeepsPending s t) : KeepsPending s (pend src cause idx t) :=
  h.trans fun _ hx hp => evPending_pend_keeps hx hp

theorem forEach {α : Type} {l : List α} {f : α → State → State} (hf : ∀ x u, KeepsPending u (f x u)) (h : KeepsPending s t) :
    KeepsPending s (forEach l f t) :=
  forEach_keeps (P := KeepsPending s) (fun x _ u hu => hu.trans (hf x u)) h

end KeepsPending

section
variable {a : Nat} {s t : State}

theorem KeepsPending.stat {f : Fld} {v : Nat} (hf : f.addr = AX_STAT a) (h : KeepsPending s t) : KeepsPending s (t.put f v) :=
  h.put (hf ▸ at_AX_STAT a) (by decide)

theorem KeepsPending.updAlert (h : KeepsPending s t) : KeepsPending s (updAlert a t) := by
  have shown (b : Bool) : KeepsPending s (t.putBitAt (AXALERT (a / 32)) (a % 32) b) :=
    h.ok (State.putBitAt_at (at_AXALERT _)) rfl
  unfold Machine.updAlert
  dsimp only
  split
  · exact (shown _).pend
  · exact shown _

theorem KeepsPending.homeAbort {err : Nat} (h : KeepsPending s t) : KeepsPending s (homeAbort a err t) := by
  unfold Machine.homeAbort
  split
  · exact .ok (planRunCause_ok ..) rfl <| .updAlert <| .put (at_AX_HOMEST a) (by decide) <| .put (at_AX_HOMEST a) (by decide) h
  · exact h

theorem KeepsPending.haltNow {fault : Bool} (h : KeepsPending s t) : KeepsPending s (haltNow a fault t) := by
  have band {f : Fld} {u : State} (hf : f.addr = AX_USTAT a) (hu : KeepsPending s u) : KeepsPending s (u.put f 0) :=
    hu.put (hf ▸ at_AX_USTAT a) (by decide)
  have lost (b : Bool) {u : State} (hu : KeepsPending s u) : KeepsPending s (applyIf b (·.put (AX_STAT.PML a) 1) u) := by
    cases b
    · exact hu
    · exact hu.stat rfl
  unfold Machine.haltNow
  dsimp only
  refine .updAlert <| .ok (endMove_ok ..) rfl <| .ok (State.modSe_ok ..) rfl <| .put (at_AX_STALLST a) (by decide) <|
    .ok (clearResults_ok ..) rfl <| lost _ <| band rfl <| band rfl <| band rfl ?_
  exact .put (at_AX_ACC a) (by decide) <| .put (at_AX_VEL a) (by decide) <| .stat rfl <| .stat rfl <| .stat rfl <| .stat rfl <|
    .ok (State.modMo_ok ..) rfl h.homeAbort

theorem KeepsPending.faultState {cause leg : Nat} (h : KeepsPending s t) : KeepsPending s (faultState a cause leg t) := by
  have status {f : Fld} {v : Nat} {u : State} (hf : f.addr = AX_FLTSTAT a) (hu : KeepsPending s u) : KeepsPending s (u.put f v) :=
    hu.put (hf ▸ at_AX_FLTSTAT a) (by decide)
  unfold Machine.faultState
  dsimp only
  split
  · exact h
  · exact .updAlert <| .ok (State.modMo_ok ..) rfl <| .haltNow <| .ok (State.inc_at (at_AX_FLTCNT a)) rfl <| status rfl <|
      status rfl <| status rfl <| .ok (planCause_ok ..) rfl h

theorem KeepsPending.faultAll {l : List Nat} {cause leg : Nat} (h : KeepsPending s t) : KeepsPending s (faultAll l cause leg t) := by
  refine h.forEach fun b u => ?_
  split
  · exact .faultState .refl
  · exact .refl

end

/-! ### CTL frames that wait -/

/-- Two states of a coach that differ in the CTL frames that wait alone. -/
def Coach.OnlyCtl (k k' : Coach) : Prop := k' = { k with ctlq := k'.ctlq }

theorem Coach.OnlyCtl.refl (k : Coach) : k.OnlyCtl k := rfl

theorem Coach.OnlyCtl.trans {k k' k'' : Coach} (h : k.OnlyCtl k') (h' : k'.OnlyCtl k'') : k.OnlyCtl k'' := by
  unfold Coach.OnlyCtl at *
  rw [h', h]

theorem coach_sendCtl (c : Nat) (f : CtlFrame) (d : Nat) (s : State) : (s.coach d).OnlyCtl ((sendCtl c f s).coach d) := by
  unfold sendCtl
  split
  · by_cases h : d = c
    · subst h
      rw [State.coach_modCoach]
      rfl
    · rw [State.coach_modCoach_ne _ h]
      exact .refl _
  · exact .refl _

/-! ### What a fault leaves alone while it acts -/

/-- From `s` to `t` a fault has acted on axes and their legs: no source has stopped pending, and of the ranks' and the coaches' words, and
of the coaches, nothing has changed but the CTL frames that wait. -/
structure FaultActed (s t : State) : Prop where
  pends : KeepsPending s t
  coach : ∀ c, (s.coach c).OnlyCtl (t.coach c)
  rd : ∀ b, 0x20000 ≤ b ∧ b < 0x70000 → t.rd b = s.rd b

namespace FaultActed
variable {s t u : State}

theorem refl : FaultActed s s := ⟨.refl, fun _ => .refl _, fun _ _ => rfl⟩

theorem trans (h : FaultActed s t) (h' : FaultActed t u) : FaultActed s u :=
  ⟨h.pends.trans h'.pends, fun c => (h.coach c).trans (h'.coach c), fun b hb => (h'.rd b hb).trans (h.rd b hb)⟩

theorem forEach {α : Type} {l : List α} {f : α → State → State} (hf : ∀ x u, FaultActed u (f x u)) : FaultActed s (forEach l f s) :=
  forEach_keeps (P := FaultActed s) (fun x _ u hu => hu.trans (hf x u)) refl

theorem applyIf {b : Bool} {f : State → State} (hf : ∀ u, FaultActed u (f u)) : FaultActed s (applyIf b f s) := by
  cases b
  · exact refl
  · exact hf s

theorem pend {src cause idx : Nat} : FaultActed s (pend src cause idx s) :=
  ⟨.pend .refl, fun c => by rw [(pend_ok ..).1.coach (by decide)]; exact .refl _, fun _ hb => rd_of_shared (pend_ok ..) hb.2 rfl⟩

theorem sendCtl {c : Nat} {f : CtlFrame} : FaultActed s (sendCtl c f s) :=
  ⟨.ok (sendCtl_ok ..) rfl .refl, fun d => coach_sendCtl c f d s, fun _ hb => rd_of_shared (sendCtl_ok ..) hb.2 rfl⟩

theorem killLegs {c : Nat} {legs : List Nat} : FaultActed s (killLegs c legs s) := by
  unfold Machine.killLegs
  split
  · exact refl
  · exact sendCtl

theorem faultAll {l : List Nat} {cause leg : Nat} (hl : ∀ b ∈ l, b < 128) : FaultActed s (faultAll l cause leg s) :=
  ⟨.faultAll .refl, fun c => by rw [(faultAll_ok ..).1.coach (by decide)]; exact .refl _, fun _ hb => rd_faultAll hl hb _ _ _⟩

theorem get (h : FaultActed s t) {f : Fld} (hf : 0x20000 ≤ f.addr ∧ f.addr < 0x70000) : t.get f = s.get f :=
  congrArg (wordField · f.hi f.lo) (h.rd f.addr hf)

theorem on (h : FaultActed s t) {f : Fld} (hf : 0x20000 ≤ f.addr ∧ f.addr < 0x70000) : t.on f = s.on f :=
  congrArg (fun n => decide (n ≠ 0)) (h.get hf)

end FaultActed

/-! ### Faults of a rank or a coach latch, R128 -/

/-- The first fault of a rank or a coach: its status word at `addr` takes FAULT, and the cause from bit `lo` up; its source pends. -/
def latchFault (src cause leg addr lo : Nat) (s : State) : State :=
  pend src cause leg (setAct src true ((s.put ⟨addr, 0, 0⟩ 1).put ⟨addr, lo + 3, lo⟩ cause))

/-- From `s` to `t` the fault of the status word at `addr` has latched and its source pends; of the other ranks' and coaches' words, and
of the coaches, nothing has changed but the CTL frames that wait. -/
structure FaultLatched (src cause addr lo : Nat) (s t : State) : Prop where
  fault : t.on ⟨addr, 0, 0⟩ = true
  cause : t.get ⟨addr, lo + 3, lo⟩ = cause
  event : t.evPending src = true
  coach : ∀ c, (s.coach c).OnlyCtl (t.coach c)
  rd : ∀ b, 0x20000 ≤ b ∧ b < 0x70000 → b ≠ addr → t.rd b = s.rd b

theorem faultLatched_latchFault {src cause addr lo : Nat} (hs : src < 128) (hc : cause < 16) (ha : 0x20000 ≤ addr ∧ addr < 0x70000)
    (hl : 0 < lo ∧ lo ≤ 28) (leg : Nat) (s : State) : FaultLatched src cause addr lo s (latchFault src cause leg addr lo s) := by
  have keep {b : Nat} (hb : b < 0x70000) (u : State) : (pend src cause leg (setAct src true u)).rd b = u.rd b :=
    (rd_of_shared (pend_ok ..) hb rfl).trans (rd_of_shared (setAct_ok ..) hb rfl)
  have field (hi lo : Nat) (u : State) : (pend src cause leg (setAct src true u)).get ⟨addr, hi, lo⟩ = u.get ⟨addr, hi, lo⟩ :=
    congrArg (wordField · hi lo) (keep ha.2 u)
  refine ⟨decide_eq_true ?_, ?_, evPending_pend hs, fun c => ?_, fun b hb hne => ?_⟩
  · rw [latchFault, field, State.get_put_disj _ (by dsimp only; omega) (by dsimp only; omega), State.get_put_self _ (by simp) (by simp)]
    simp
  · rw [latchFault, field, State.get_put_self _ (by dsimp only; omega) (by dsimp only; omega)]
    dsimp only
    rw [show lo + 3 + 1 - lo = 4 by omega]
    exact Nat.mod_eq_of_lt hc
  · rw [latchFault, (pend_ok ..).1.coach (by decide), (setAct_ok ..).1.coach (by decide)]
    exact .refl _
  · rw [latchFault, keep hb.2, State.rd_put_ne _ hne, State.rd_put_ne _ hne]

/-- A fault that acts keeps what has latched. -/
theorem FaultLatched.acted {src cause addr lo : Nat} {s t u : State} (h : FaultLatched src cause addr lo s t) (hs : src < 128)
    (ha : 0x20000 ≤ addr ∧ addr < 0x70000) (hu : FaultActed t u) : FaultLatched src cause addr lo s u :=
  ⟨(hu.on ha).trans h.fault, (hu.get ha).trans h.cause, hu.pends src hs h.event, fun c => (h.coach c).trans (hu.coach c),
    fun b hb hne => (hu.rd b hb).trans (h.rd b hb hne)⟩

/-- CLRBLK is a bit of its own. -/
theorem FaultLatched.updRank {r : Fin 16} {cause : Nat} {s t : State} (h : FaultLatched r cause (RK_FLTSTAT r) 12 s t) :
    FaultLatched r cause (RK_FLTSTAT r) 12 s (updRank r t) := by
  refine ⟨(congrArg (fun n => decide (n ≠ 0)) (get_updRank (by simp) t)).trans h.fault, (get_updRank (by simp) t).trans h.cause,
    (KeepsPending.put (at_RK_FLTSTAT r) (by decide) .refl) r (by omega) h.event, h.coach, fun b hb hne => ?_⟩
  exact (State.rd_put_ne _ hne).trans (h.rd b hb hne)

theorem faultLatched_rankFault {r : Fin 16} {cause : Nat} (hc : cause < 16) (leg : Nat) {s : State}
    (h : s.on (RK_FLTSTAT.FAULT r) = false) : FaultLatched r cause (RK_FLTSTAT r) 12 s (rankFault r cause leg s) := by
  have e : rankFault r cause leg s = updRank r (killLegs (r / 4) (rankLegs r)
      (faultAll (rankAxes r) cause leg (latchFault r cause leg (RK_FLTSTAT r) 12 s))) := by
    unfold rankFault
    rw [h]
    rfl
  have latched := faultLatched_latchFault (src := r) (lo := 12) (by omega) hc (RK_FLTSTAT_range r) (by decide) leg s
  rw [e]
  exact (latched.acted (by omega) (RK_FLTSTAT_range r) ((FaultActed.faultAll fun b => lt_of_mem_rankAxes).trans .killLegs)).updRank

theorem faultLatched_gregFault {c : Fin 4} {s : State} (h : s.on (CO_FLTSTAT.FAULT c) = false) :
    FaultLatched (16 + c) 10 (CO_FLTSTAT c) 4 s (gregFault c s) := by
  have e : gregFault c s = killLegs c ((List.range 128).map fun i => 128 * c + i)
      (faultAll (coachAxes c) 10 0 (latchFault (16 + c) 10 0 (CO_FLTSTAT c) 4 s)) := by
    unfold gregFault coachFault
    rw [h]
    rfl
  have latched := faultLatched_latchFault (src := 16 + c) (lo := 4) (by omega) (show 10 < 16 by decide) (CO_FLTSTAT_range c) (by decide) 0 s
  rw [e]
  exact latched.acted (by omega) (CO_FLTSTAT_range c) ((FaultActed.faultAll fun b => lt_of_mem_coachAxes).trans .killLegs)

/-! ### O13: charge pump, gate regulator and sensor failures, R115 and R128 -/

theorem does_chargePumpUndervoltage {s : State} {r : Fin 16} (hl : s.coachLive (r / 4) = true) (hf : s.on (RK_FLTSTAT.FAULT r) = false)
    (hs : natBit (s.coach (r / 4)).cpSeen (r % 4) = true) :
    Does (.chargePumpUndervoltage r) s fun t =>
      t.on (RK_FLTSTAT.FAULT r) = true ∧ t.get (RK_FLTSTAT.CAUSE r) = 9 ∧ t.evPending r = true
        ∧ natBit (t.coach (r / 4)).cpuv (r % 4) = true := by
  let u := s.modCoach (r / 4) fun k => { k with cpuv := natPutBit k.cpuv (r % 4) true }
  have unlatched : u.on (RK_FLTSTAT.FAULT r) = false := hf
  have latched : FaultLatched r 9 (RK_FLTSTAT r) 12 u (updRank r (rankFault r 9 0 u)) :=
    (faultLatched_rankFault (cause := 9) (by decide) 0 unlatched).updRank
  refine .of_eq rfl (if_pos (by rw [hl, hs]; rfl)) ⟨latched.fault, latched.cause, latched.event, ?_⟩
  rw [latched.coach, State.coach_modCoach]
  exact (natBit_natPutBit ..).trans (if_pos rfl)

theorem does_tempSensorFailure {s : State} {r : Fin 16} (hl : s.coachLive (r / 4) = true) (hf : s.on (RK_FLTSTAT.FAULT r) = false) :
    Does (.tempSensorFailure r) s fun t =>
      t.on (RK_FLTSTAT.FAULT r) = true ∧ t.get (RK_FLTSTAT.CAUSE r) = 15 ∧ t.evPending r = true ∧ t.on (RK_THERM.VALID r) = false := by
  let u := s.put (RK_THERM.VALID r) 0
  have apart : RK_FLTSTAT r ≠ RK_THERM r := by simp only [RK_FLTSTAT, RK_THERM]; omega
  have unlatched : u.on (RK_FLTSTAT.FAULT r) = false :=
    (congrArg (fun n => decide (n ≠ 0)) (State.get_put_ne _ apart)).trans hf
  have latched : FaultLatched r 15 (RK_FLTSTAT r) 12 u (updRank r (rankFault r 15 0 u)) :=
    (faultLatched_rankFault (cause := 15) (by decide) 0 unlatched).updRank
  refine .of_eq rfl (if_pos hl) ⟨latched.fault, latched.cause, latched.event, ?_⟩
  have word := latched.rd (RK_THERM r) (by simp only [RK_THERM]; omega) apart.symm
  exact (congrArg (fun w => decide (wordField w 31 31 ≠ 0)) word).trans (State.on_put_self _ (by simp) (by simp))

theorem does_gateRegUndervoltage {s : State} {c : Fin 4} (hl : s.coachLive c = true) (hs : (s.coach c).gregSeen = true)
    (hf : s.on (CO_FLTSTAT.FAULT c) = false) :
    Does (.gateRegUndervoltage c) s fun t =>
      t.on (CO_FLTSTAT.FAULT c) = true ∧ t.get (CO_FLTSTAT.CAUSE c) = 10 ∧ t.evPending (16 + c) = true
        ∧ t.on (CO_STAT.GREGOK c) = false ∧ (t.coach c).greguv = true := by
  let u := (s.put (CO_STAT.GREGOK c) 0).modCoach c fun k => { k with greguv := true }
  have apart : CO_FLTSTAT c ≠ CO_STAT c := by simp only [CO_FLTSTAT, CO_STAT]; omega
  have unlatched : u.on (CO_FLTSTAT.FAULT c) = false :=
    (congrArg (fun n => decide (n ≠ 0)) (State.get_put_ne _ apart)).trans hf
  have latched : FaultLatched (16 + c) 10 (CO_FLTSTAT c) 4 u (gregFault c u) := faultLatched_gregFault unlatched
  refine .of_eq rfl (if_pos (by rw [hl, hs]; rfl)) ⟨latched.fault, latched.cause, latched.event, ?_, ?_⟩
  · have word := latched.rd (CO_STAT c) (by simp only [CO_STAT]; omega) apart.symm
    exact (congrArg (fun w => decide (wordField w 0 0 ≠ 0)) word).trans (State.on_put_self _ (by simp) (by simp))
  · rw [latched.coach, State.coach_modCoach]

/-- Settles O13: the condition is recorded, then the fault of its rank or coach latches with its cause, R128. -/
theorem rankConditionsComplete : Obligations.RankConditionsComplete := by
  unfold Obligations.RankConditionsComplete
  intro s
  exact ⟨fun r hl hf => ⟨does_chargePumpUndervoltage hl hf, does_tempSensorFailure hl hf⟩,
    fun c hl hs hf => does_gateRegUndervoltage hl hs hf⟩

end Sys2Proof.Machine

namespace Sys2Proof.Machine

/-! ### The VM conditions of a side, R115 and R116 -/

theorem State.on_putB_self {s : State} {f : Fld} (b : Bool) (h : f.hi < 32) (hl : f.lo = f.hi) : (s.putB f b).on f = b := by
  rw [State.putB, State.on_put_self _ h hl.le, hl, Nat.add_sub_cancel_left]
  cases b <;> rfl

theorem State.on_putB_disj {s : State} {f g : Fld} (b : Bool) (h : f.hi < 32) (hd : g.hi < f.lo ∨ f.hi < g.lo) :
    (s.putB f b).on g = s.on g := congrArg (fun n => decide (n ≠ 0)) (State.get_put_disj _ h hd)

/-- Some coach of side `sd` is in condition `p`; each of `sideUvf`, `sideUvw`, `sideOvf` and `sideOvw` is this of one comparator. -/
def State.sideHolds (s : State) (p : Coach → Bool) (sd : Nat) : Bool := (sideCoaches sd).any fun c => p (s.coach c)

theorem mem_sideCoaches (c : Nat) : c ∈ sideCoaches (coachSide c) := by
  simp only [sideCoaches, coachSide, List.mem_cons, List.not_mem_nil, or_false]
  omega

theorem sideHolds_of_coach {s : State} {p : Coach → Bool} {c : Nat} (h : p (s.coach c) = true) : s.sideHolds p (coachSide c) = true :=
  List.any_eq_true.mpr ⟨c, mem_sideCoaches c, h⟩

theorem sideHolds_imp {s t : State} {p : Coach → Bool} {sd : Nat} (h : ∀ c, p (s.coach c) = true → p (t.coach c) = true)
    (hs : s.sideHolds p sd = true) : t.sideHolds p sd = true := by
  obtain ⟨c, hc, hp⟩ := List.any_eq_true.mp hs
  exact List.any_eq_true.mpr ⟨c, hc, h c hp⟩

theorem sideHolds_congr {s t : State} {p : Coach → Bool} {sd : Nat} (h : ∀ c, p (t.coach c) = p (s.coach c)) :
    t.sideHolds p sd = s.sideHolds p sd := by
  unfold State.sideHolds
  simp only [h]

/-- Two states whose sides are in the same VM conditions. -/
structure SameSides (s t : State) : Prop where
  uvf : ∀ sd, t.sideUvf sd = s.sideUvf sd
  uvw : ∀ sd, t.sideUvw sd = s.sideUvw sd
  ovf : ∀ sd, t.sideOvf sd = s.sideOvf sd
  ovw : ∀ sd, t.sideOvw sd = s.sideOvw sd

theorem sameSides_of_coach {s t : State} (h : ∀ c, t.coach c = s.coach c) : SameSides s t :=
  ⟨fun _ => sideHolds_congr (p := Coach.uvf) fun c => by rw [h], fun _ => sideHolds_congr (p := Coach.uvw) fun c => by rw [h],
    fun _ => sideHolds_congr (p := Coach.ovf) fun c => by rw [h], fun _ => sideHolds_congr (p := Coach.ovw) fun c => by rw [h]⟩

theorem FaultActed.sides {s t : State} (h : FaultActed s t) : SameSides s t :=
  ⟨fun _ => sideHolds_congr (p := Coach.uvf) fun c => by rw [h.coach], fun _ => sideHolds_congr (p := Coach.uvw) fun c => by rw [h.coach],
    fun _ => sideHolds_congr (p := Coach.ovf) fun c => by rw [h.coach], fun _ => sideHolds_congr (p := Coach.ovw) fun c => by rw [h.coach]⟩

/-! ### CO_VM shows them -/

/-- CO_VM of coach `c` shows the conditions of side `sd`. -/
def showCoach (sd c : Nat) (s : State) : State :=
  (((s.putB (CO_VM.UVF c) (s.sideUvf sd)).putB (CO_VM.OVF c) (s.sideOvf sd)).putB (CO_VM.UVW c) (s.sideUvw sd)).putB
    (CO_VM.OVW c) (s.sideOvw sd)

theorem showSide_eq (sd : Nat) (s : State) :
    showSide sd s = (let u := forEach (sideCoaches sd) (showCoach sd) s
      setAct (26 + sd) (u.sideUvw sd || u.sideOvw sd) (setAct (24 + sd) (u.sideUvf sd || u.sideOvf sd) u)) := rfl

/-- In `t` the CO_VM word of coach `c` shows the conditions in which its side is in `s`. -/
structure ShowsSide (c : Nat) (s t : State) : Prop where
  uvf : t.on (CO_VM.UVF c) = s.sideUvf (coachSide c)
  ovf : t.on (CO_VM.OVF c) = s.sideOvf (coachSide c)
  uvw : t.on (CO_VM.UVW c) = s.sideUvw (coachSide c)
  ovw : t.on (CO_VM.OVW c) = s.sideOvw (coachSide c)

theorem ShowsSide.of_rd {c : Nat} {s t u : State} (h : ShowsSide c s t) (hr : u.rd (CO_VM c) = t.rd (CO_VM c)) : ShowsSide c s u := by
  have field (hi lo : Nat) : u.on ⟨CO_VM c, hi, lo⟩ = t.on ⟨CO_VM c, hi, lo⟩ := congrArg (fun w => decide (wordField w hi lo ≠ 0)) hr
  exact ⟨(field 19 19).trans h.uvf, (field 18 18).trans h.ovf, (field 17 17).trans h.uvw, (field 16 16).trans h.ovw⟩

theorem showsSide_showCoach {c : Nat} {s u : State} (h : SameSides s u) : ShowsSide c s (showCoach (coachSide c) c u) := by
  unfold showCoach
  rw [h.uvf, h.ovf, h.uvw, h.ovw]
  constructor
  · rw [State.on_putB_disj _ (by simp) (by simp), State.on_putB_disj _ (by simp) (by simp), State.on_putB_disj _ (by simp) (by simp),
      State.on_putB_self _ (by simp) (by simp)]
  · rw [State.on_putB_disj _ (by simp) (by simp), State.on_putB_disj _ (by simp) (by simp), State.on_putB_self _ (by simp) (by simp)]
  · rw [State.on_putB_disj _ (by simp) (by simp), State.on_putB_self _ (by simp) (by simp)]
  · exact State.on_putB_self _ (by simp) (by simp)

theorem CO_VM_range (c : Fin 4) : 0x20000 ≤ CO_VM c ∧ CO_VM c < 0x70000 := by simp only [CO_VM]; omega

theorem showsSide_showSide (c : Fin 4) (s : State) : ShowsSide c s (showSide (coachSide c) s) := by
  have shown : ShowsSide c s (forEach (sideCoaches (coachSide c)) (showCoach (coachSide c)) s) := by
    refine forEach_once (P := SameSides s) (by simp [sideCoaches]) (mem_sideCoaches c) (fun d _ u hu => ?_)
      (fun u hu => showsSide_showCoach hu) (fun d hd u hu => hu.of_rd ?_) (sameSides_of_coach fun _ => rfl)
    · exact ⟨hu.uvf, hu.uvw, hu.ovf, hu.ovw⟩
    · have apart : CO_VM c ≠ CO_VM d := by simp only [CO_VM]; omega
      unfold showCoach State.putB
      rw [State.rd_put_ne _ apart, State.rd_put_ne _ apart, State.rd_put_ne _ apart, State.rd_put_ne _ apart]
  rw [showSide_eq]
  exact shown.of_rd ((rd_of_shared (setAct_ok ..) (CO_VM_range c).2 rfl).trans (rd_of_shared (setAct_ok ..) (CO_VM_range c).2 rfl))

theorem coach_showSide (sd c : Nat) (s : State) : (showSide sd s).coach c = s.coach c := (showSide_ok ..).1.coach (by decide) c

/-! ### A side fault acts, R128 and R129 -/

theorem lt_of_mem_sideAxes {c : Fin 4} {a : Nat} (h : a ∈ sideAxes (coachSide c)) : a < 128 := by
  obtain ⟨i, hi, rfl⟩ := List.mem_map.mp h
  have := List.mem_range.mp hi
  unfold coachSide
  omega

/-- The side's legs are held off, or brake: CTL frames to its coaches. -/
def sideLegs (cause : Nat) (held : List Nat) (c : Nat) (s : State) : State :=
  if cause = 12 && !s.on (CO_PROTCFG.OVACT c) then
    forEach (held.filter fun a => axisCoach a = c && s.ovBrake a) (fun a s => sendCtl c (.release (s.axisLegs a) false) s) s
  else killLegs c ((List.range 128).map fun i => 128 * c + i) s

theorem sideFault_eq (sd cause : Nat) (s : State) :
    sideFault sd cause s =
      forEach (sideCoaches sd) (sideLegs cause ((sideAxes sd).filter fun a => s.enabled a && s.get (AX_FLTSTAT.STATE a) = 1))
        (faultAll (sideAxes sd) cause 0 (pend (24 + sd) cause 0 s)) := rfl

theorem acted_sideLegs (cause : Nat) (held : List Nat) (c : Nat) (s : State) : FaultActed s (sideLegs cause held c s) := by
  unfold sideLegs
  split
  · exact .forEach fun _ _ => .sendCtl
  · exact .killLegs

theorem acted_sideFault (c : Fin 4) (cause : Nat) (s : State) :
    FaultActed (pend (24 + coachSide c) cause 0 s) (sideFault (coachSide c) cause s) := by
  rw [sideFault_eq]
  exact (FaultActed.faultAll fun _ => lt_of_mem_sideAxes).trans (.forEach (acted_sideLegs cause _))

theorem coachSide_lt (c : Fin 4) : coachSide c < 2 := by unfold coachSide; omega

theorem evPending_sideFault (c : Fin 4) (cause : Nat) (s : State) :
    (sideFault (coachSide c) cause s).evPending (24 + coachSide c) = true := by
  have := coachSide_lt c
  exact (acted_sideFault c cause s).pends _ (by omega) (evPending_pend (by omega))

/-! ### The comparators of a coach change, R115 and R116 -/

/-- The change is recorded and shown; it has not acted yet. -/
def vmShown (c : Nat) (f : Coach → Coach) (s : State) : State := showSide (coachSide c) (s.modCoach c f)

/-- A side that enters undervoltage faults with VM_UV, cause 11. -/
def actUv (c : Nat) (s u : State) : State :=
  applyIf (!s.sideUvf (coachSide c) && u.sideUvf (coachSide c)) (sideFault (coachSide c) 11) u

/-- A side that enters overvoltage faults with VM_OV, cause 12. -/
def actOv (c : Nat) (s u : State) : State :=
  applyIf (!s.sideOvf (coachSide c) && u.sideOvf (coachSide c)) (sideFault (coachSide c) 12) u

/-- A side that enters its first warning pends VM_WARN. -/
def actWarn (c : Nat) (s u : State) : State :=
  applyIf (!(s.sideUvw (coachSide c) || s.sideOvw (coachSide c)) && (u.sideUvw (coachSide c) || u.sideOvw (coachSide c)))
    (pendSrc (26 + coachSide c)) u

theorem vmChange_eq (c : Nat) (f : Coach → Coach) (s : State) :
    vmChange c f s = actWarn c s (actOv c s (actUv c s (vmShown c f s))) := rfl

section
variable {s u : State} {c : Fin 4} {f : Coach → Coach}

theorem acted_actUv : FaultActed u (actUv c s u) := .applyIf fun _ => FaultActed.pend.trans (acted_sideFault ..)

theorem acted_actOv : FaultActed u (actOv c s u) := .applyIf fun _ => FaultActed.pend.trans (acted_sideFault ..)

theorem acted_actWarn : FaultActed u (actWarn c s u) := .applyIf fun _ => .pend

theorem acted_vmChange (c : Fin 4) (f : Coach → Coach) (s : State) : FaultActed (vmShown c f s) (vmChange c f s) := by
  rw [vmChange_eq]
  exact acted_actUv.trans (acted_actOv.trans acted_actWarn)

theorem coach_vmShown (c : Nat) (f : Coach → Coach) (s : State) (d : Nat) : (vmShown c f s).coach d = (s.modCoach c f).coach d :=
  coach_showSide ..

theorem sides_vmShown (c : Nat) (f : Coach → Coach) (s : State) : SameSides (s.modCoach c f) (vmShown c f s) :=
  sameSides_of_coach (coach_vmShown c f s)

/-- The coach is as the change leaves it, but for CTL frames. -/
theorem coach_vmChange (c : Fin 4) (f : Coach → Coach) (s : State) : (f (s.coach c)).OnlyCtl ((vmChange c f s).coach c) := by
  have h := (acted_vmChange c f s).coach c
  rwa [coach_vmShown, State.coach_modCoach] at h

theorem showsSide_vmChange (c : Fin 4) (f : Coach → Coach) (s : State) : ShowsSide c (s.modCoach c f) (vmChange c f s) :=
  (showsSide_showSide c _).of_rd ((acted_vmChange c f s).rd _ (CO_VM_range c))

/-- A side that enters undervoltage pends its VM_FAULT. -/
theorem evPending_vmChange_uvf (h : s.sideUvf (coachSide c) = false) (hf : (s.modCoach c f).sideUvf (coachSide c) = true) :
    (vmChange c f s).evPending (24 + coachSide c) = true := by
  have := coachSide_lt c
  have acts : actUv c s (vmShown c f s) = sideFault (coachSide c) 11 (vmShown c f s) :=
    if_pos (by rw [h, (sides_vmShown c f s).uvf, hf]; rfl)
  rw [vmChange_eq, acts]
  exact (acted_actOv.trans acted_actWarn).pends _ (by omega) (evPending_sideFault ..)

/-- A side that enters overvoltage pends its VM_FAULT. -/
theorem evPending_vmChange_ovf (h : s.sideOvf (coachSide c) = false) (hf : (s.modCoach c f).sideOvf (coachSide c) = true) :
    (vmChange c f s).evPending (24 + coachSide c) = true := by
  have := coachSide_lt c
  have enters : (actUv c s (vmShown c f s)).sideOvf (coachSide c) = true :=
    (acted_actUv.sides.ovf _).trans (((sides_vmShown c f s).ovf _).trans hf)
  have acts : actOv c s (actUv c s (vmShown c f s)) = sideFault (coachSide c) 12 (actUv c s (vmShown c f s)) :=
    if_pos (by rw [h, enters]; rfl)
  rw [vmChange_eq, acts]
  exact acted_actWarn.pends _ (by omega) (evPending_sideFault ..)

/-- A side that enters its first warning pends its VM_WARN. -/
theorem evPending_vmChange_warn (hu : s.sideUvw (coachSide c) = false) (ho : s.sideOvw (coachSide c) = false)
    (hf : ((s.modCoach c f).sideUvw (coachSide c) || (s.modCoach c f).sideOvw (coachSide c)) = true) :
    (vmChange c f s).evPending (26 + coachSide c) = true := by
  have := coachSide_lt c
  have acted : FaultActed (vmShown c f s) (actOv c s (actUv c s (vmShown c f s))) := acted_actUv.trans acted_actOv
  rw [vmChange_eq, actWarn, hu, ho, acted.sides.uvw, acted.sides.ovw, (sides_vmShown c f s).uvw, (sides_vmShown c f s).ovw, hf]
  exact evPending_pendSrc (by omega)

end

/-- A condition that held before is not entered. -/
theorem not_enters {before now : Bool} (h : now = true → before = true) : (!before && now) = false := by
  cases now
  · exact Bool.and_false _
  · rw [h rfl]
    rfl

/-- A change that puts the side in no condition it was not in acts on nothing. -/
theorem vmChange_quiet {c : Nat} {f : Coach → Coach} {s : State}
    (h : ∀ p ∈ [Coach.uvf, Coach.uvw, Coach.ovf, Coach.ovw], ∀ k, p (f k) = true → p k = true) : vmChange c f s = vmShown c f s := by
  have side (p : Coach → Bool) (hp : p ∈ [Coach.uvf, Coach.uvw, Coach.ovf, Coach.ovw])
      (he : (vmShown c f s).sideHolds p (coachSide c) = true) : s.sideHolds p (coachSide c) = true := by
    refine sideHolds_imp (fun d hd => ?_) he
    rw [coach_vmShown] at hd
    by_cases e : d = c
    · subst e
      rw [State.coach_modCoach] at hd
      exact h p hp _ hd
    · rwa [State.coach_modCoach_ne _ e] at hd
  have uvf : (vmShown c f s).sideUvf (coachSide c) = true → s.sideUvf (coachSide c) = true := side Coach.uvf (by simp)
  have ovf : (vmShown c f s).sideOvf (coachSide c) = true → s.sideOvf (coachSide c) = true := side Coach.ovf (by simp)
  have warns : ((vmShown c f s).sideUvw (coachSide c) || (vmShown c f s).sideOvw (coachSide c)) = true →
      (s.sideUvw (coachSide c) || s.sideOvw (coachSide c)) = true := fun now =>
    (Bool.or_eq_true ..).mpr (((Bool.or_eq_true ..).mp now).imp (side Coach.uvw (by simp)) (side Coach.ovw (by simp)))
  have uv : actUv c s (vmShown c f s) = vmShown c f s := by rw [actUv, not_enters uvf]; rfl
  have ov : actOv c s (vmShown c f s) = vmShown c f s := by rw [actOv, not_enters ovf]; rfl
  have warn : actWarn c s (vmShown c f s) = vmShown c f s := by rw [actWarn, not_enters warns]; rfl
  rw [vmChange_eq, uv, ov, warn]

/-! ### The commands of the comparators -/

section
variable {s : State} {c : Fin 4}

theorem vmEvent_awake (hr : s.power.inReset = false) (h3 : s.runState ≠ 3) (f : Coach → Coach) : vmEvent c f s = vmChange c f s :=
  if_neg (by rw [hr, decide_eq_false h3]; decide)

theorem does_vmUndervoltageFault (hr : s.power.inReset = false) (h3 : s.runState ≠ 3) (below4 : Bool) :
    Does (.vmUndervoltageFault c below4) s fun t =>
      (t.coach c).uvf = true ∧ (below4 = true → (t.coach c).uvw = true) ∧ t.on (CO_VM.UVF c) = true
        ∧ (s.sideUvf (coachSide c) = false → t.evPending (24 + coachSide c) = true) := by
  let f : Coach → Coach := fun k => if below4 then noVm k else { k with uvf := true }
  have faulted : (f (s.coach c)).uvf = true := by cases below4 <;> rfl
  have side : (s.modCoach c f).sideUvf (coachSide c) = true := sideHolds_of_coach (p := Coach.uvf) (by rwa [State.coach_modCoach])
  refine .of_eq rfl (vmEvent_awake hr h3 f) ⟨(congrArg Coach.uvf (coach_vmChange c f s)).trans faulted, fun hb => ?_,
    (showsSide_vmChange c f s).uvf.trans side, fun out => evPending_vmChange_uvf out side⟩
  rw [coach_vmChange]
  exact congrArg Coach.uvw (if_pos hb)

theorem does_vmUndervoltageWarning (hr : s.power.inReset = false) (h3 : s.runState ≠ 3) (below4 : Bool) :
    Does (.vmUndervoltageWarning c below4) s fun t =>
      (t.coach c).uvw = true ∧ (below4 = true → (t.coach c).uvf = true) ∧ t.on (CO_VM.UVW c) = true
        ∧ (s.sideUvw (coachSide c) = false → s.sideOvw (coachSide c) = false → t.evPending (26 + coachSide c) = true) := by
  let f : Coach → Coach := fun k => if below4 then noVm k else { k with uvw := true }
  have warned : (f (s.coach c)).uvw = true := by cases below4 <;> rfl
  have side : (s.modCoach c f).sideUvw (coachSide c) = true := sideHolds_of_coach (p := Coach.uvw) (by rwa [State.coach_modCoach])
  refine .of_eq rfl (vmEvent_awake hr h3 f) ⟨(congrArg Coach.uvw (coach_vmChange c f s)).trans warned, fun hb => ?_,
    (showsSide_vmChange c f s).uvw.trans side, fun hu ho => evPending_vmChange_warn hu ho (by rw [side]; rfl)⟩
  rw [coach_vmChange]
  exact congrArg Coach.uvf (if_pos hb)

theorem does_vmOvervoltageFault (hr : s.power.inReset = false) (h3 : s.runState ≠ 3) :
    Does (.vmOvervoltageFault c) s fun t => (t.coach c).ovf = true ∧ t.on (CO_VM.OVF c) = true
      ∧ (s.sideOvf (coachSide c) = false → t.evPending (24 + coachSide c) = true) := by
  let f : Coach → Coach := fun k => { k with ovf := true }
  have side : (s.modCoach c f).sideOvf (coachSide c) = true := sideHolds_of_coach (p := Coach.ovf) (by rw [State.coach_modCoach])
  exact .of_eq rfl (vmEvent_awake hr h3 f) ⟨congrArg Coach.ovf (coach_vmChange c f s), (showsSide_vmChange c f s).ovf.trans side,
    fun out => evPending_vmChange_ovf out side⟩

theorem does_vmOvervoltageWarning (hr : s.power.inReset = false) (h3 : s.runState ≠ 3) :
    Does (.vmOvervoltageWarning c) s fun t => (t.coach c).ovw = true ∧ t.on (CO_VM.OVW c) = true
      ∧ (s.sideUvw (coachSide c) = false → s.sideOvw (coachSide c) = false → t.evPending (26 + coachSide c) = true) := by
  let f : Coach → Coach := fun k => { k with ovw := true }
  have side : (s.modCoach c f).sideOvw (coachSide c) = true := sideHolds_of_coach (p := Coach.ovw) (by rw [State.coach_modCoach])
  exact .of_eq rfl (vmEvent_awake hr h3 f) ⟨congrArg Coach.ovw (coach_vmChange c f s), (showsSide_vmChange c f s).ovw.trans side,
    fun hu ho => evPending_vmChange_warn hu ho (by rw [side, Bool.or_true])⟩

/-- A release brings no condition. -/
theorem releaseVm_imp (cond : VmCond) : ∀ p ∈ [Coach.uvf, Coach.uvw, Coach.ovf, Coach.ovw], ∀ k, p (releaseVm cond k) = true → p k = true := by
  cases cond <;> simp [releaseVm]

theorem does_vmRelease (hr : s.power.inReset = false) (h3 : s.runState ≠ 3) (cond : VmCond) : Does (.vmRelease c cond) s fun t =>
    t.coach c = releaseVm cond (s.coach c) ∧ t.on (CO_VM.UVF c) = t.sideUvf (coachSide c)
      ∧ t.on (CO_VM.OVF c) = t.sideOvf (coachSide c) ∧ t.on (CO_VM.UVW c) = t.sideUvw (coachSide c)
      ∧ t.on (CO_VM.OVW c) = t.sideOvw (coachSide c) ∧ Frame [.coaches, .reg .CO_VM, .reg .EV_ACT] s t := by
  have shows := showsSide_showSide c (s.modCoach c (releaseVm cond))
  have sides := sides_vmShown c (releaseVm cond) s
  refine .of_eq rfl ((vmEvent_awake hr h3 (releaseVm cond)).trans (vmChange_quiet (releaseVm_imp cond))) ⟨?_,
    shows.uvf.trans (sides.uvf _).symm, shows.ovf.trans (sides.ovf _).symm, shows.uvw.trans (sides.uvw _).symm,
    shows.ovw.trans (sides.ovw _).symm, (Ok.via (showSide_ok ..) rfl ((State.modCoach_ok ..).mono rfl)).1⟩
  rw [coach_vmShown, State.coach_modCoach]

end

/-! ### VM below 6.0 V, R130 -/

/-- Two states of a coach in which its undervoltage comparators read the same. -/
def Coach.SameVm (k k' : Coach) : Prop := k'.uvf = k.uvf ∧ k'.uvw = k.uvw

theorem Coach.SameVm.trans {k k' k'' : Coach} (h : k.SameVm k') (h' : k'.SameVm k'') : k.SameVm k'' :=
  ⟨h'.1.trans h.1, h'.2.trans h.2⟩

theorem sameVm_endExchanges (q : List Exchange) (d : Nat) (s : State) : (s.coach d).SameVm ((endExchanges q s).coach d) := by
  have step (e : Exchange) (x : BusErr) (u : State) (hu : (s.coach d).SameVm (u.coach d)) :
      (s.coach d).SameVm ((endExchange e (.error x) u).coach d) := by
    rw [coach_endExchange, coach_modeFailed]
    exact hu
  unfold endExchanges
  split
  · exact ⟨rfl, rfl⟩
  · rename_i e l
    exact forEach_keeps (f := fun e u => endExchange e (.error .domainOff) u) (l := l)
      (P := fun u => (s.coach d).SameVm (u.coach d)) (fun e _ u => step e .domainOff u) (step e .linkErr s ⟨rfl, rfl⟩)

theorem sameVm_couplingLost (c cause : Nat) (s : State) : (s.coach c).SameVm ((couplingLost c cause s).coach c) := by
  rw [couplingLost_eq, (coachFault_ok ..).1.coach (by decide)]
  refine Coach.SameVm.trans ?_ (sameVm_endExchanges ..)
  rw [hubLost, State.coach_modCoach]
  exact ⟨rfl, rfl⟩

theorem sameVm_coachDown (c cause : Nat) (s : State) : (s.coach c).SameVm ((coachDown c cause s).coach c) := by
  have emptied (u : State) : (u.coach c).SameVm ((coachLost c u).coach c) := by
    rw [coachLost_eq]
    refine Coach.SameVm.trans ?_ (sameVm_endExchanges ..)
    rw [(domainDown_ok ..).1.coach (by decide), (linkDown_ok ..).1.coach (by decide), coachEmptied, State.coach_modCoach]
    exact ⟨rfl, rfl⟩
  refine Coach.SameVm.trans ?_ (emptied _)
  split <;> exact ⟨rfl, rfl⟩

theorem CO_VM_words (c : Fin 4) : 0x29000 ≤ CO_VM c ∧ CO_VM c < 0x30000 := by simp only [CO_VM]; omega

theorem rd_couplingLost_CO_VM (c : Fin 4) (cause : Nat) (s : State) : (couplingLost c cause s).rd (CO_VM c) = s.rd (CO_VM c) := by
  have apart : CO_VM c ≠ CO_LINKSTAT c := by simp only [CO_VM, CO_LINKSTAT]; omega
  rw [couplingLost_eq, rd_coachFault (CO_VM_range c) (by simp only [CO_VM, CO_FLTSTAT]; omega),
    (endExchanges_ok ..).1.rd_range (lo := 0x29000) (hi := 0x30000) rfl (CO_VM_words c), hubLost, State.modCoach_rd,
    State.rd_put_ne _ apart, State.rd_put_ne _ apart]

theorem rd_coachDown_CO_VM (c : Fin 4) (cause : Nat) (s : State) : (coachDown c cause s).rd (CO_VM c) = s.rd (CO_VM c) := by
  have apart : CO_VM c ≠ CO_LINKSTAT c := by simp only [CO_VM, CO_LINKSTAT]; omega
  have legs (u : State) : (forEach (coachLegs c) (fun l s => s.put (LEG_TEST.OVR l) 0) u).rd (CO_VM c) = u.rd (CO_VM c) :=
    forEach_keeps (P := fun v => v.rd (CO_VM c) = u.rd (CO_VM c)) (fun l hl v hv => (State.rd_put_ne _ (by
      have := lt_of_mem_coachLegs hl
      simp only [CO_VM, LEG_TEST]
      omega)).trans hv) rfl
  have warns (u : State) : (forEach (coachRanks c) (fun r s => s.put (RK_FLTSTAT.WARN r) 0) u).rd (CO_VM c) = u.rd (CO_VM c) :=
    forEach_keeps (P := fun v => v.rd (CO_VM c) = u.rd (CO_VM c)) (fun r hr v hv => (State.rd_put_ne _ (by
      have := lt_of_mem_coachRanks hr
      simp only [CO_VM, RK_FLTSTAT]
      omega)).trans hv) rfl
  have lost (u : State) : (coachLost c u).rd (CO_VM c) = u.rd (CO_VM c) := by
    rw [coachLost_eq, (endExchanges_ok ..).1.rd_range (lo := 0x29000) (hi := 0x30000) rfl (CO_VM_words c), domainDown,
      rd_of_shared (setAct_ok ..) (CO_VM_range c).2 rfl, warns, State.putBitOf, State.rd_put_ne _ (by simp only [CO_VM, GCTL_PWRSTAT]; omega),
      linkDown, State.rd_put_ne _ apart, State.rd_put_ne _ apart, legs]
    rfl
  unfold coachDown
  rw [lost]
  split
  · exact State.rd_put_ne _ apart
  · rfl

/-- The coupling of a coach whose domain drops is lost with its cause: the domain is on, or the hub declares the loss first. -/
theorem losscause_dropped {c : Fin 4} {s : State} (h : s.coachLive c = true) :
    (coachDown c 1 (if s.on (CO_LINKSTAT.UP c) then couplingLost c 1 s else s)).get (CO_LINKSTAT.LOSSCAUSE c) = 1 := by
  by_cases up : s.on (CO_LINKSTAT.UP c) = true
  · have lost := (couplingLost_effect c 1 (by decide) s).2.1
    rw [if_pos up, coachDown, losscause_coachLost]
    split
    · exact State.get_put_self _ (by simp) (by simp)
    · exact lost
  · have on : ((s.coach c).powering || s.coachOn c) = true := (Bool.or_comm ..).trans h
    rw [if_neg up, coachDown, losscause_coachLost, if_pos on]
    exact State.get_put_self _ (by simp) (by simp)

theorem does_vmBelow6v {s : State} {c : Fin 4} (hr : s.power.inReset = false) (h3 : s.runState ≠ 3) : Does (.vmBelow6v c) s fun t =>
    (t.coach c).uvf = true ∧ (t.coach c).uvw = true ∧ t.on (CO_VM.UVF c) = true ∧ t.coachLive c = false
      ∧ (s.coachLive c = true → t.get (CO_LINKSTAT.LOSSCAUSE c) = 1 ∧ natBit (t.get GCTL_PWRDOM.COACH) c = false) := by
  let f : Coach → Coach := fun k => { k with uvf := true, uvw := true }
  let v := faultAll (coachAxes c) 11 0 (vmChange c f s)
  have acted : FaultActed (vmShown c f s) v := (acted_vmChange c f s).trans (.faultAll fun _ => lt_of_mem_coachAxes)
  have sensed : (f (s.coach c)).SameVm (v.coach c) := by
    rw [acted.coach, coach_vmShown, State.coach_modCoach]
    exact ⟨rfl, rfl⟩
  have shows : v.on (CO_VM.UVF c) = true := by
    refine ((showsSide_showSide c _).of_rd (acted.rd _ (CO_VM_range c))).uvf.trans (sideHolds_of_coach (p := Coach.uvf) ?_)
    rw [State.coach_modCoach]
  have live : v.coachLive c = s.coachLive c := by
    unfold State.coachLive State.coachOn
    rw [acted.coach, coach_vmShown, State.coach_modCoach, (faultAll_ok ..).1.get_of rfl, (vmChange_ok ..).1.get_of rfl]
  have awake : ¬ (s.power.inReset || s.runState = 3) = true := by rw [hr, decide_eq_false h3]; decide
  have run : exec (.vmBelow6v c) s = .next (vmBelow6 c s) := congrArg _ (if_neg awake)
  let w := if v.on (CO_LINKSTAT.UP c) then couplingLost c 1 v else v
  have hw : (v.coach c).SameVm (w.coach c) ∧ w.rd (CO_VM c) = v.rd (CO_VM c) := by
    unfold w
    split
    · exact ⟨sameVm_couplingLost .., rd_couplingLost_CO_VM ..⟩
    · exact ⟨⟨rfl, rfl⟩, rfl⟩
  by_cases hl : s.coachLive c = true
  · have e : vmBelow6 c s = ((coachDown c 1 w).putBitOf GCTL_PWRDOM.COACH c false).putBitOf GCTL_PWRSTAT.PENDOFF c false :=
      if_pos (live.trans hl)
    have powering := powering_coachDown c 1 w
    have coachon := coachon_coachDown c.isLt 1 w
    have cause : (coachDown c 1 w).get (CO_LINKSTAT.LOSSCAUSE c) = 1 := losscause_dropped (live.trans hl)
    have vm : (v.coach c).SameVm ((coachDown c 1 w).coach c) := hw.1.trans (sameVm_coachDown c 1 w)
    have word : (coachDown c 1 w).rd (CO_VM c) = v.rd (CO_VM c) := (rd_coachDown_CO_VM c 1 w).trans hw.2
    generalize coachDown c 1 w = d at *
    obtain ⟨uvf, uvw⟩ := sensed.trans vm
    refine .of_eq run e ⟨uvf, uvw, ?_, coachLive_off powering ?_, fun _ => ⟨?_, ?_⟩⟩
    · refine (congrArg (fun w => decide (wordField w 19 19 ≠ 0)) ?_).trans shows
      refine (State.rd_put_ne _ ?_).trans ((State.rd_put_ne _ ?_).trans word)
      · simp only [CO_VM, GCTL_PWRSTAT]; omega
      · simp only [CO_VM, GCTL_PWRDOM]; omega
    · unfold State.putBitOf
      rwa [State.get_put_disj _ (by decide) (by decide), State.get_put_ne _ (by decide)]
    · unfold State.putBitOf
      rwa [State.get_put_ne _ (linkstat_ne c (by decide)), State.get_put_ne _ (linkstat_ne c (by decide))]
    · rw [State.putBitOf, State.get_put_ne _ (by decide), natBit_putBitOf _ (by decide) (by show 4 + c.val ≤ 7; omega), if_pos rfl]
  · have e : vmBelow6 c s = v := if_neg (by rwa [live])
    refine .of_eq run e ⟨sensed.1, sensed.2, shows, ?_, fun h => absurd h hl⟩
    rw [live]
    simpa using hl

/-- Settles O14: each change is shown in CO_VM, and the faults and events that follow leave the comparators, CO_VM and what pends;
below 6.0 V the loss of the coupling and of the domain leaves them too. -/
theorem sideConditionsComplete : Obligations.SideConditionsComplete := by
  unfold Obligations.SideConditionsComplete
  intro s c hr h3
  exact ⟨does_vmUndervoltageFault hr h3, does_vmUndervoltageWarning hr h3, does_vmOvervoltageFault hr h3, does_vmOvervoltageWarning hr h3,
    does_vmRelease hr h3, does_vmBelow6v hr h3⟩

end Sys2Proof.Machine

namespace Sys2Proof.Machine

/-! ### The fault of one axis, R123 and R125 -/

/-- A halt leaves the axis's fault status. -/
theorem fltstat_haltNow {a : Nat} (ha : a < 128) (b : Nat) (fault : Bool) (s : State) :
    (haltNow b fault s).rd (AX_FLTSTAT a) = s.rd (AX_FLTSTAT a) := by
  refine (haltNow_ok b fault s).1.rd (by decide) fun r hr hat => ?_
  obtain ⟨i, k, hi⟩ := hat
  simp only [List.mem_cons, List.not_mem_nil, or_false, reduceCtorEq, Part.reg.injEq, false_or] at hr
  rcases hr with rfl | rfl | rfl | rfl | rfl | rfl | rfl | rfl | rfl | rfl | rfl | rfl | rfl | rfl | rfl | rfl | rfl | rfl | rfl | rfl
  all_goals
    simp only [regAddr, AX_FLTSTAT, AXALERT, AX_ACC, AX_EPFS, AX_HOMEST, AX_MOVEEN, AX_STALLST, AX_STAT, AX_USTAT, AX_VEL, EV_PEND,
      MGS_LOGSTAT, PL_ENERGY_HI, PL_ENERGY_LO, PL_EVINFO, PL_MAKESPAN, PL_RES, PL_RES_EACT, PL_RES_END, PL_STAT] at hi
    omega

/-- The fault state of R125: a retry cause waits while tries are left, any other latches. -/
def State.faultCode (s : State) (a cause : Nat) : Nat :=
  if retryCause cause && decide (s.get (AX_FLTSTAT.TRYCNT a) < s.get (AX_FLTCFG.TRIES a)) then 1 else 3

/-- Axis `a` has the fault of `cause` with leg `leg`, in fault state `state`. -/
structure AxisFaulted (a cause leg state : Nat) (t : State) : Prop where
  state : t.get (AX_FLTSTAT.STATE a) = state
  cause : t.get (AX_FLTSTAT.CAUSE a) = cause
  leg : t.get (AX_FLTSTAT.LEG a) = leg

theorem AxisFaulted.of_rd {a cause leg state : Nat} {t u : State} (h : AxisFaulted a cause leg state t)
    (hr : u.rd (AX_FLTSTAT a) = t.rd (AX_FLTSTAT a)) : AxisFaulted a cause leg state u := by
  have field (hi lo : Nat) : u.get ⟨AX_FLTSTAT a, hi, lo⟩ = t.get ⟨AX_FLTSTAT a, hi, lo⟩ := congrArg (wordField · hi lo) hr
  exact ⟨(field 1 0).trans h.state, (field 11 8).trans h.cause, (field 24 16).trans h.leg⟩

/-- The fault status of an axis that faults. -/
def faultStatus (a cause leg state : Nat) (s : State) : State :=
  ((s.put (AX_FLTSTAT.STATE a) state).put (AX_FLTSTAT.CAUSE a) cause).put (AX_FLTSTAT.LEG a) leg

theorem axisFaulted_faultStatus {cause leg state : Nat} (hc : cause < 16) (hl : leg < 512) (hs : state < 4) (a : Nat) (s : State) :
    AxisFaulted a cause leg state (faultStatus a cause leg state s) := by
  unfold faultStatus
  constructor
  · rw [State.get_put_disj _ (by simp) (by simp), State.get_put_disj _ (by simp) (by simp), State.get_put_self _ (by simp) (by simp)]
    exact Nat.mod_eq_of_lt hs
  · rw [State.get_put_disj _ (by simp) (by simp), State.get_put_self _ (by simp) (by simp)]
    exact Nat.mod_eq_of_lt hc
  · rw [State.get_put_self _ (by simp) (by simp)]
    exact Nat.mod_eq_of_lt hl

theorem faultState_eq {a : Nat} {s : State} (h : s.get (AX_FLTSTAT.STATE a) = 0) (cause leg : Nat) :
    faultState a cause leg s =
      (let u := planCause a 2 s
       updAlert a ((haltNow a true ((faultStatus a cause leg (u.faultCode a cause) u).inc (AX_FLTCNT.FAULTS a))).modMo a fun m =>
         { m with ownParity := false })) := by
  unfold faultState
  dsimp only
  rw [h, if_neg (by simp)]
  rfl

/-- An axis that is OK faults. -/
theorem axisFaulted_faultState {a cause leg : Nat} (ha : a < 128) (hc : cause < 16) (hl : leg < 512) {s : State}
    (h : s.get (AX_FLTSTAT.STATE a) = 0) : AxisFaulted a cause leg (s.faultCode a cause) (faultState a cause leg s) := by
  have code : (planCause a 2 s).faultCode a cause = s.faultCode a cause := by
    unfold State.faultCode
    rw [get_of_shared (planCause_ok ..) (AX_FLTSTAT_lt ha) rfl, get_of_shared (planCause_ok ..) (by simp only [AX_FLTCFG]; omega) rfl]
  have lt : s.faultCode a cause < 4 := by unfold State.faultCode; split <;> decide
  rw [faultState_eq h]
  dsimp only
  rw [code]
  refine (axisFaulted_faultStatus hc hl lt a (planCause a 2 s)).of_rd ?_
  rw [rd_of_shared (updAlert_ok ..) (AX_FLTSTAT_lt ha) rfl, State.modMo_rd, fltstat_haltNow ha]
  exact State.rd_put_ne _ (by simp only [AX_FLTSTAT, AX_FLTCNT]; omega)

theorem axisFaulted_faultAxis {a cause leg : Nat} (ha : a < 128) (hc : cause < 16) (hl : leg < 512) {s : State}
    (he : s.enabled a = true) (h : s.get (AX_FLTSTAT.STATE a) = 0) :
    AxisFaulted a cause leg (s.faultCode a cause) (faultAxis a cause leg s) := by
  unfold faultAxis
  rw [if_pos he]
  exact (axisFaulted_faultState ha hc hl h).of_rd (rd_of_shared (killLegs_ok ..) (AX_FLTSTAT_lt ha) rfl)

theorem axisOnly_faultAxis (a cause leg : Nat) (s : State) : AxisOnly a s (faultAxis a cause leg s) := by
  unfold faultAxis
  split
  · exact (AxisOnly.faultState .refl).shared (killLegs_ok ..) rfl
  · exact .refl

theorem rd_tripMaps {a : Nat} (ha : a < 0x20000) (l : List Trip) (s : State) : (tripMaps l s).rd a = s.rd a :=
  (tripMaps_ok ..).1.rd_range (lo := 0) (hi := 0x20000) rfl ⟨Nat.zero_le _, ha⟩

theorem AX_FLTSTAT_axes {a : Nat} (ha : a < 128) : AX_FLTSTAT a < 0x20000 := by simp only [AX_FLTSTAT]; omega

/-! ### TRIP_CHECK of one trip, R121 -/

/-- The ranks with trips of four coil ends or more: RANK_OC. -/
def crowdedRanks (ends : List (Nat × Nat)) : List Nat :=
  (((ends.map (·.1)).eraseDups.map axisRank).eraseDups).filter fun r => decide (4 ≤ (ends.filter fun p => axisRank p.1 = r).length)

/-- XAXIS, PH_SHORT or OC_HARD of the event `set` that trip `x` begins, and whether it was one of them. -/
def actOnTrips (x : Trip) (set : List Trip) (s : State) : Bool × State :=
  let axes := ((coilEnds set).map (·.1)).eraseDups
  let mine := ((coilEnds set).filter fun p => p.1 = x.axis).length
  if 2 ≤ axes.length then
    (true, forEach axes (fun a s =>
      if s.on (RK_FLTSTAT.FAULT (axisRank a)) then s else faultAxis a 2 (firstLeg set a) s) s)
  else if 2 ≤ mine then (true, faultAxis x.axis 1 (firstLeg set x.axis) s)
  else if x.hard then (true, faultAxis x.axis 4 x.leg s)
  else (false, s)

/-- The trips of an event are claimed. -/
def claimTrips (x : Trip) (set : List Trip) (s : State) : State :=
  let s := tripMaps set s
  { s with trips := s.trips.map fun t => if !t.claimed && within1us x t then { t with claimed := true } else t }

theorem checkTrip_eq (x : Trip) (s : State) : checkTrip x s =
    (let set := s.trips.filter fun t => !t.claimed && within1us x t
     let bad := crowdedRanks (coilEnds set)
     let (hit, u) := actOnTrips x set
       (forEach bad (fun r s => rankFault r 3 (firstLeg (set.filter fun t => axisRank t.axis = r) 128) s) s)
     if hit || !bad.isEmpty then claimTrips x set u
     else { u with trips := u.trips.map fun t => if t = x then { t with checked := true } else t }) := rfl

theorem nextTrip_single {x : Trip} (hc : x.claimed = false) (hk : x.checked = false) : nextTrip [x] = some x := by
  simp [nextTrip, hc, hk]

theorem within1us_self (x : Trip) : within1us x x = true := by simp [within1us]

theorem coilEnds_single (x : Trip) : coilEnds [x] = [(x.axis, x.coilEnd)] := rfl

theorem not_le_length_filter_single {α : Type} (p : α → Bool) (v : α) {n : Nat} (hn : 1 < n) : ¬ n ≤ ([v].filter p).length := by
  have : ([v].filter p).length ≤ 1 := List.length_filter_le p [v]
  omega

theorem crowdedRanks_single (q : Nat × Nat) : crowdedRanks [q] = [] :=
  List.filter_eq_nil_iff.mpr fun _ _ h => not_le_length_filter_single _ q (by decide) (of_decide_eq_true h)

theorem actOnTrips_single (x : Trip) (s : State) :
    actOnTrips x [x] s = if x.hard then (true, faultAxis x.axis 4 x.leg s) else (false, s) := by
  have one : ¬ 2 ≤ (((coilEnds [x]).map (·.1)).eraseDups).length := (by decide : ¬ 2 ≤ 1)
  unfold actOnTrips
  dsimp only
  rw [if_neg one, coilEnds_single, if_neg (not_le_length_filter_single _ _ (by decide))]

/-- Alone within 1 µs, a hard trip faults its axis and is claimed; a soft one waits for the period check. -/
theorem checkTrip_single {s : State} {x : Trip} (ht : s.trips = [x]) (hc : x.claimed = false) :
    checkTrip x s = if x.hard then claimTrips x [x] (faultAxis x.axis 4 x.leg s)
      else { s with trips := [{ x with checked := true }] } := by
  have set : (s.trips.filter fun t => !t.claimed && within1us x t) = [x] := by simp [ht, hc, within1us_self]
  rw [checkTrip_eq, set]
  dsimp only
  rw [coilEnds_single, crowdedRanks_single, show (forEach [] _ s : State) = s from rfl, actOnTrips_single]
  cases hh : x.hard
  · simp [ht, hh]
  · rfl

theorem does_tripCheck {s : State} {a : Fin 128} {x : Trip} (ht : s.trips = [x]) (hc : x.claimed = false) (hk : x.checked = false)
    (ha : x.axis = a) (hl : x.leg < 512) (he : s.enabled a = true) (h0 : s.get (AX_FLTSTAT.STATE a) = 0) :
    Does .tripCheck s fun t =>
      (x.hard = true → t.get (AX_FLTSTAT.CAUSE a) = 4 ∧ t.get (AX_FLTSTAT.LEG a) = x.leg
        ∧ t.get (AX_FLTSTAT.STATE a) = if s.get (AX_FLTSTAT.TRYCNT a) < s.get (AX_FLTCFG.TRIES a) then 1 else 3) ∧
      (x.hard = false → t.get (AX_FLTSTAT.STATE a) = 0 ∧ Frame [.trips] s t) := by
  have check : tripCheck s = sweepTrips (checkTrip x s) := by
    unfold tripCheck
    rw [ht, nextTrip_single hc hk]
  refine .of_eq rfl (check.trans (congrArg sweepTrips (checkTrip_single ht hc))) ⟨fun hh => ?_, fun hh => ?_⟩
  · rw [hh, if_pos rfl, ha]
    have faulted : AxisFaulted a 4 x.leg (s.faultCode a 4) (claimTrips x [x] (faultAxis a 4 x.leg s)) :=
      (axisFaulted_faultAxis a.isLt (by decide) hl he h0).of_rd (rd_tripMaps (AX_FLTSTAT_axes a.isLt) ..)
    refine ⟨faulted.cause, faulted.leg, faulted.state.trans ?_⟩
    simp [State.faultCode, retryCause]
  · rw [hh, if_neg (by decide)]
    exact ⟨h0, Ok.trips.1⟩

/-! ### PERIOD_CHECK, R121 -/

/-- Two coil ends of an enabled axis in one period: PH_SHORT. -/
def shortEnds (l : List Trip) (a : Nat) (s : State) : State :=
  if s.enabled a && s.get (AX_FLTSTAT.STATE a) % 2 = 0 && decide (2 ≤ ((coilEnds l).filter fun q => q.1 = a).length)
  then faultAxis a 1 (firstLeg l a) (tripMaps (l.filter fun t => t.axis = a) s) else s

/-- The run of coil end `e` of axis `a` is set to `run`. -/
def State.setRun (s : State) (a e run : Nat) : State := { s with runs := Sparse.set (fun _ => 0) s.runs (4 * a + e) run }

/-- The run of a coil end after a period of coach `c` with trips `l`: it counts on or ends, and faults the axis at PERSIST. -/
def endRun (c : Nat) (l : List Trip) (a e : Nat) (s : State) : State :=
  let run := if (coilEnds l).contains (a, e) then s.runCount a e + 1 else 0
  let s := s.setRun a e run
  if run = s.get (CO_PROTCFG.PERSIST c) then faultAxis a 5 (firstLeg l a) (tripMaps (l.filter fun t => t.axis = a) s) else s

/-- The trips of coach `c` in period `p` that no period check has counted. -/
def State.tripsIn (s : State) (c p : Nat) : List Trip :=
  s.trips.filter fun t => axisCoach t.axis = c && t.period % 256 = p % 256 && !t.counted

/-- The trips of the period are counted. -/
def countTrips (c p : Nat) (s : State) : State :=
  sweepTrips { s with
    trips := s.trips.map fun t => if axisCoach t.axis = c && t.period % 256 = p % 256 then { t with counted := true } else t }

/-- The coil ends of a coach. -/
def coachEnds (c : Nat) : List (Nat × Nat) := coachAxes c ×ˢ [0, 1, 2, 3]

theorem forEach_forEach {α β : Type} (l : List α) (m : List β) (f : α → β → State → State) (s : State) :
    forEach l (fun a s => forEach m (f a) s) s = forEach (l ×ˢ m) (fun p => f p.1 p.2) s := by
  induction l generalizing s with
  | nil => rfl
  | cons x l ih =>
    rw [forEach_cons, ih, List.product_cons]
    unfold forEach
    rw [List.foldl_append, List.foldl_map]

theorem periodCheck_eq (c p : Nat) (s : State) :
    periodCheck c p s = countTrips c p (forEach (coachEnds c) (fun q => endRun c (s.tripsIn c p) q.1 q.2)
      (forEach (coachAxes c) (shortEnds (s.tripsIn c p)) s)) := by
  unfold coachEnds
  rw [← forEach_forEach]
  rfl

theorem runCount_setRun (s : State) (a e run : Nat) : (s.setRun a e run).runCount a e = run := Sparse.get_set_self

theorem runCount_setRun_ne {s : State} {a e b d run : Nat} (h : 4 * a + e ≠ 4 * b + d) :
    (s.setRun b d run).runCount a e = s.runCount a e := Sparse.get_set_ne h

theorem setRun_frame (s : State) (a e run : Nat) : Frame [.runs] s (s.setRun a e run) := (Ok.runs fun h => Sparse.wf_set h).1

theorem mem_coachEnds {a c : Nat} (h : axisCoach a = c) {e : Nat} (he : e < 4) : (a, e) ∈ coachEnds c :=
  List.mem_product.mpr ⟨mem_coachAxes h, by simp; omega⟩

theorem lt_of_mem_coachEnds {c : Nat} {q : Nat × Nat} (h : q ∈ coachEnds c) : q.2 < 4 := by
  have := (List.mem_product.mp h).2
  simp at this
  omega

/-- At most one coil end tripped: no axis has two. -/
theorem shortEnds_few {l : List Trip} (h : (coilEnds l).length ≤ 1) (a : Nat) (s : State) : shortEnds l a s = s := by
  have few : ¬ 2 ≤ ((coilEnds l).filter fun q => decide (q.1 = a)).length := by
    have := List.length_filter_le (fun q : Nat × Nat => decide (q.1 = a)) (coilEnds l)
    omega
  unfold shortEnds
  rw [decide_eq_false few, Bool.and_false, if_neg (by decide)]

theorem shortEnds_none {l : List Trip} (h : (coilEnds l).length ≤ 1) (axes : List Nat) (s : State) : forEach axes (shortEnds l) s = s :=
  forEach_keeps (P := fun u => u = s) (fun a _ u hu => (shortEnds_few h a u).trans hu) rfl

/-- A coil end without a trip in the period ends its run; PERSIST of 0 would be reached by that. -/
theorem endRun_untripped {c a e : Nat} {l : List Trip} {s : State} (h : (coilEnds l).contains (a, e) = false)
    (hp : s.get (CO_PROTCFG.PERSIST c) ≠ 0) : endRun c l a e s = s.setRun a e 0 := by
  unfold endRun
  rw [h]
  exact if_neg (Ne.symm hp)

theorem does_periodCheck_untripped {s : State} {c : Fin 4} {p : Fin 256} (ht : s.trips = [])
    (hp : s.get (CO_PROTCFG.PERSIST c) ≠ 0) : Does (.periodCheck c p) s fun t =>
      (∀ (a : Fin 128) (e : Fin 4), axisCoach a = c → t.runCount a e = 0) ∧ Frame [.runs] s t := by
  let f : Nat × Nat → State → State := fun q => endRun c [] q.1 q.2
  let t := forEach (coachEnds c) f s
  have step (q : Nat × Nat) {u : State} (hu : Frame [.runs] s u) : f q u = u.setRun q.1 q.2 0 :=
    endRun_untripped rfl (by rwa [hu.get (by decide) (by simp)])
  have kept : Frame [.runs] s t := forEach_keeps (P := Frame [.runs] s) (fun q _ u hu => by
    rw [step q hu]
    exact hu.trans (setRun_frame ..)) .refl
  have none : t.trips = [] := (kept.1 .trips (by decide)).trans ht
  have e : periodCheck c p s = t := by
    rw [periodCheck_eq, show s.tripsIn c p = [] by rw [State.tripsIn, ht]; rfl, shortEnds_none (by decide)]
    show countTrips c p t = t
    unfold countTrips sweepTrips
    rw [none, List.map_nil, List.filter_nil, ← none]
  refine .of_eq rfl e ⟨fun a d ha => ?_, kept⟩
  refine (forEach_reaches (P := Frame [.runs] s) (Q := fun u => Frame [.runs] s u ∧ u.runCount a d = 0) (mem_coachEnds ha d.isLt)
    (fun q _ _ u hu => ?_) (fun u hu => ?_) (fun q _ u hu => ?_) .refl).2
  · rw [step q hu]
    exact hu.trans (setRun_frame ..)
  · rw [step _ hu]
    exact ⟨hu.trans (setRun_frame ..), runCount_setRun ..⟩
  · rw [step q hu.1]
    refine ⟨hu.1.trans (setRun_frame ..), ?_⟩
    by_cases k : 4 * a.val + d.val = 4 * q.1 + q.2
    · exact (congrArg (fun i => Sparse.get (fun _ => 0) (u.setRun q.1 q.2 0).runs i) k).trans (runCount_setRun ..)
    · exact (runCount_setRun_ne k).trans hu.2

/-! ### One trip in a period -/

section
variable {s u : State} {x : Trip} {c : Fin 4}

/-- The axis of trip `x` has its fault, and the run of its coil end has reached PERSIST, as it stood in `s`. -/
structure Persisted (s : State) (x : Trip) (c : Nat) (u : State) : Prop where
  faulted : AxisFaulted x.axis 5 x.leg (s.faultCode x.axis 5) u
  persist : u.get (CO_PROTCFG.PERSIST c) = s.get (CO_PROTCFG.PERSIST c)
  run : s.get (CO_PROTCFG.PERSIST c) ≤ u.runCount x.axis x.coilEnd

/-- The fault state is a matter of the axis's own words. -/
theorem faultCode_congr {s t : State} {a : Nat} (ha : a < 128) (h : ∀ b < 0x20000, t.rd b = s.rd b) (cause : Nat) :
    t.faultCode a cause = s.faultCode a cause := by
  have tries : t.get (AX_FLTCFG.TRIES a) = s.get (AX_FLTCFG.TRIES a) :=
    congrArg (wordField · 23 20) (h _ (by simp only [AX_FLTCFG]; omega))
  have count : t.get (AX_FLTSTAT.TRYCNT a) = s.get (AX_FLTSTAT.TRYCNT a) := congrArg (wordField · 15 12) (h _ (AX_FLTSTAT_axes ha))
  unfold State.faultCode
  rw [tries, count]

theorem PERSIST_tripMaps (c : Fin 4) (l : List Trip) (s : State) :
    (tripMaps l s).get (CO_PROTCFG.PERSIST c) = s.get (CO_PROTCFG.PERSIST c) := by
  refine (tripMaps_ok l s).1.get (by decide) fun r hr hat => ?_
  obtain rfl : r = .RK_TRIPMAP := by simpa using hr
  obtain ⟨i, k, hi⟩ := hat
  simp only [regAddr, CO_PROTCFG, RK_TRIPMAP] at hi
  omega

theorem firstLeg_single (x : Trip) : firstLeg [x] x.axis = x.leg := by simp [firstLeg]

theorem contains_own (x : Trip) : (coilEnds [x]).contains (x.axis, x.coilEnd) = true := by simp [coilEnds_single]

theorem contains_other {q : Nat × Nat} (h : q ≠ (x.axis, x.coilEnd)) : (coilEnds [x]).contains q = false := by
  rw [coilEnds_single]
  simpa using h

/-- At its turn the run reaches PERSIST, and the axis faults. -/
theorem persisted_endRun (ha : x.axis < 128) (hl : x.leg < 512) (he : s.enabled x.axis = true)
    (h0 : s.get (AX_FLTSTAT.STATE x.axis) = 0) (hr : s.runCount x.axis x.coilEnd + 1 = s.get (CO_PROTCFG.PERSIST c))
    (hu : Frame [.runs] s u) (hn : u.runCount x.axis x.coilEnd = s.runCount x.axis x.coilEnd) :
    Persisted s x c (endRun c [x] x.axis x.coilEnd u) := by
  let v := u.setRun x.axis x.coilEnd (u.runCount x.axis x.coilEnd + 1)
  let w := tripMaps ([x].filter fun t => t.axis = x.axis) v
  have words (b : Nat) : v.rd b = s.rd b := (hu.trans (setRun_frame ..)).rd (by decide) (by simp)
  have axes (b : Nat) (hb : b < 0x20000) : w.rd b = s.rd b := (rd_tripMaps hb ..).trans (words b)
  have enabled : w.enabled x.axis = s.enabled x.axis :=
    congrArg (fun w => decide (wordField w 30 30 ≠ 0)) (axes _ (by simp only [AX_STAT]; omega))
  have state : w.get (AX_FLTSTAT.STATE x.axis) = s.get (AX_FLTSTAT.STATE x.axis) :=
    congrArg (wordField · 1 0) (axes _ (AX_FLTSTAT_axes ha))
  have persist : v.get (CO_PROTCFG.PERSIST c) = s.get (CO_PROTCFG.PERSIST c) := congrArg (wordField · 15 8) (words _)
  have turn : endRun c [x] x.axis x.coilEnd u = faultAxis x.axis 5 x.leg w := by
    unfold endRun
    rw [contains_own, if_pos rfl, firstLeg_single]
    exact if_pos ((congrArg (· + 1) hn).trans (hr.trans persist.symm))
  have faulted := axisFaulted_faultAxis (cause := 5) ha (by decide) hl (enabled.trans he) (state.trans h0)
  rw [faultCode_congr ha axes] at faulted
  rw [turn]
  refine ⟨faulted, ?_, ?_⟩
  · have own := (axisOnly_faultAxis x.axis 5 x.leg w).1 (CO_PROTCFG c) (by simp only [CO_PROTCFG]; omega)
      (.inr (by simp only [CO_PROTCFG]; omega))
    exact (congrArg (wordField · 15 8) own).trans ((PERSIST_tripMaps c _ v).trans persist)
  · have runs : (faultAxis x.axis 5 x.leg w).runs = v.runs :=
      ((faultAxis_ok ..).1.1 .runs (by decide)).trans ((tripMaps_ok ..).1.1 .runs (by decide))
    have count : (faultAxis x.axis 5 x.leg w).runCount x.axis x.coilEnd = u.runCount x.axis x.coilEnd + 1 :=
      (congrArg (fun m => Sparse.get (fun _ => 0) m (4 * x.axis + x.coilEnd)) runs).trans (runCount_setRun ..)
    omega

/-- The run of a coil end past PERSIST faults nothing again, nor do the others. -/
theorem Persisted.endRun (hd : x.coilEnd < 4) (hp : s.get (CO_PROTCFG.PERSIST c) ≠ 0) (h : Persisted s x c u) {q : Nat × Nat}
    (hq : q ∈ coachEnds c) : Persisted s x c (endRun c [x] q.1 q.2 u) := by
  by_cases e : q = (x.axis, x.coilEnd)
  · subst e
    have past : ¬ u.runCount x.axis x.coilEnd + 1 = u.get (CO_PROTCFG.PERSIST c) := by
      have := h.persist
      have := h.run
      omega
    have turn : Machine.endRun c [x] x.axis x.coilEnd u = u.setRun x.axis x.coilEnd (u.runCount x.axis x.coilEnd + 1) := by
      unfold Machine.endRun
      rw [contains_own, if_pos rfl]
      exact if_neg past
    rw [turn]
    refine ⟨h.faulted.of_rd rfl, h.persist, ?_⟩
    rw [runCount_setRun]
    exact h.run.trans (Nat.le_succ _)
  · have apart : 4 * x.axis + x.coilEnd ≠ 4 * q.1 + q.2 := fun k => by
      have := lt_of_mem_coachEnds hq
      exact e (Prod.ext (show q.1 = x.axis by omega) (show q.2 = x.coilEnd by omega))
    rw [endRun_untripped (contains_other e) (by rwa [h.persist])]
    refine ⟨h.faulted.of_rd rfl, h.persist, ?_⟩
    rw [runCount_setRun_ne apart]
    exact h.run

theorem tripsIn_single {p : Nat} (ht : s.trips = [x]) (hc : axisCoach x.axis = c) (hp : x.period % 256 = p % 256)
    (hx : x.counted = false) : s.tripsIn c p = [x] := by
  rw [State.tripsIn, ht]
  exact List.filter_cons_of_pos (by rw [hc, hp, hx]; simp)

/-- The axis of the one trip has its fault after the coach's coil ends. -/
theorem persisted_forEach (hc : axisCoach x.axis = c) (ha : x.axis < 128) (hd : x.coilEnd < 4) (hl : x.leg < 512)
    (he : s.enabled x.axis = true) (h0 : s.get (AX_FLTSTAT.STATE x.axis) = 0)
    (hr : s.runCount x.axis x.coilEnd + 1 = s.get (CO_PROTCFG.PERSIST c)) :
    Persisted s x c (forEach (coachEnds c) (fun q => endRun c [x] q.1 q.2) s) := by
  have persist : s.get (CO_PROTCFG.PERSIST c) ≠ 0 := by omega
  -- until the turn of the coil end only runs change, and not its own
  refine forEach_reaches (P := fun u => Frame [.runs] s u ∧ u.runCount x.axis x.coilEnd = s.runCount x.axis x.coilEnd)
    (mem_coachEnds hc hd) (fun q hm hq u hu => ?_) (fun u hu => persisted_endRun ha hl he h0 hr hu.1 hu.2)
    (fun q hm u hu => hu.endRun hd persist hm) ⟨.refl, rfl⟩
  have apart : 4 * x.axis + x.coilEnd ≠ 4 * q.1 + q.2 := fun k => by
    have := lt_of_mem_coachEnds hm
    exact hq (Prod.ext (show q.1 = x.axis by omega) (show q.2 = x.coilEnd by omega))
  rw [endRun_untripped (contains_other hq) (by rwa [hu.1.get (by decide) (by simp)])]
  exact ⟨hu.1.trans (setRun_frame ..), (runCount_setRun_ne apart).trans hu.2⟩

theorem does_periodCheck_persists {p : Fin 256} (ht : s.trips = [x]) (hx : x.counted = false) (hc : axisCoach x.axis = c)
    (ha : x.axis < 128) (hd : x.coilEnd < 4) (hl : x.leg < 512) (hp : x.period % 256 = p) (he : s.enabled x.axis = true)
    (h0 : s.get (AX_FLTSTAT.STATE x.axis) = 0) (hr : s.runCount x.axis x.coilEnd + 1 = s.get (CO_PROTCFG.PERSIST c)) :
    Does (.periodCheck c p) s fun t => t.get (AX_FLTSTAT.CAUSE x.axis) = 5 ∧ t.get (AX_FLTSTAT.LEG x.axis) = x.leg := by
  have persisted := persisted_forEach hc ha hd hl he h0 hr
  have e : periodCheck c p s = countTrips c p (forEach (coachEnds c) (fun q => endRun c [x] q.1 q.2) s) := by
    rw [periodCheck_eq, tripsIn_single ht hc (hp.trans (Nat.mod_eq_of_lt p.isLt).symm) hx,
      shortEnds_none (by rw [coilEnds_single, List.length_singleton])]
  generalize forEach (coachEnds c) (fun q => endRun c [x] q.1 q.2) s = t at *
  exact .of_eq rfl e ⟨persisted.faulted.cause, persisted.faulted.leg⟩

end

/-! ### Retries, R125 -/

theorem does_faultWaitExpiry {s : State} {a : Fin 128} (h1 : s.get (AX_FLTSTAT.STATE a) = 1)
    (hr : s.on (RK_FLTSTAT.FAULT (axisRank a)) = false) (hc : s.on (CO_FLTSTAT.FAULT (axisCoach a)) = false)
    (hu : s.on (CO_VM.UVF (axisCoach a)) = false) (ho : s.on (CO_VM.OVF (axisCoach a)) = false) :
    Does (.faultWaitExpiry a) s fun t =>
      t.get (AX_FLTSTAT.STATE a) = 2 ∧ t.get (AX_FLTSTAT.TRYCNT a) = (s.get (AX_FLTSTAT.TRYCNT a) + 1) % 16
        ∧ t.get (AX_FLTCNT.RETRIES a) = min 255 (s.get (AX_FLTCNT.RETRIES a) + 1)
        ∧ Frame [.coaches, .reg .AX_FLTCNT, .reg .AX_FLTSTAT] s t := by
  let u := (s.put (AX_FLTSTAT.STATE a) 2).put (AX_FLTSTAT.TRYCNT a) (s.get (AX_FLTSTAT.TRYCNT a) + 1)
  have e : waitExpiry a s = sendCtl (axisCoach a) (.release (u.axisLegs a) false) (u.inc (AX_FLTCNT.RETRIES a)) :=
    if_pos (by rw [h1, hr, hc, hu, ho]; rfl)
  have apart : AX_FLTSTAT a ≠ AX_FLTCNT a := by simp only [AX_FLTSTAT, AX_FLTCNT]; omega
  have sent {f : Fld} (hf : f.addr < 0x70000) : (waitExpiry a s).get f = (u.inc (AX_FLTCNT.RETRIES a)).get f :=
    (congrArg (State.get · f) e).trans (get_of_shared (sendCtl_ok ..) hf rfl)
  refine ⟨_, rfl, ?_, ?_, ?_, (waitExpiry_ok ..).1⟩
  · refine (sent (AX_FLTSTAT_lt a.isLt)).trans ((State.get_put_ne _ apart).trans ((State.get_put_disj _ (by simp) (by simp)).trans ?_))
    exact State.get_put_self _ (by simp) (by simp)
  · exact (sent (AX_FLTSTAT_lt a.isLt)).trans ((State.get_put_ne _ apart).trans (State.get_put_self _ (by simp) (by simp)))
  · have count : u.get (AX_FLTCNT.RETRIES a) = s.get (AX_FLTCNT.RETRIES a) :=
      (State.get_put_ne _ apart.symm).trans (State.get_put_ne _ apart.symm)
    refine (sent (by simp only [AX_FLTCNT]; omega)).trans ((State.get_put_self _ (by simp) (by simp)).trans ?_)
    rw [count]
    simp only [Fld.max]
    omega

/-- The words of an axis whose test has passed: OK and recovered, not halted, MODE and the standstill state 0. -/
def testPassed (a : Nat) (s : State) : State :=
  let s := (s.put (AX_FLTSTAT.STATE a) 0).put (AX_FLTSTAT.RECOV a) 1
  let s := (s.put (AX_STAT.HALTED a) 0).setStaged (AX_MODE a) {}
  (s.put (AX_MODE.MODE a) 0).put (AX_SSTAT.STATE a) 0

theorem testPass_eq {a : Nat} {s : State} (h : s.get (AX_FLTSTAT.STATE a) = 2) : testPass a s =
    (let u := ((testPassed a s).modMo a fun m => { m with faultHalt := false }).modSe a fun e => { e with fresh := true }
     pend (48 + a / 8) (u.get (AX_FLTSTAT.CAUSE a)) a (updAlert a u)) := if_pos h

theorem testPassed_effect (a : Nat) (s : State) :
    let t := testPassed a s
    t.get (AX_FLTSTAT.STATE a) = 0 ∧ t.on (AX_FLTSTAT.RECOV a) = true ∧ t.on (AX_STAT.HALTED a) = false
      ∧ t.get (AX_MODE.MODE a) = 0 ∧ t.get (AX_SSTAT.STATE a) = 0 := by
  let u := (s.put (AX_FLTSTAT.STATE a) 0).put (AX_FLTSTAT.RECOV a) 1
  have fault {hi lo : Nat} : (testPassed a s).get ⟨AX_FLTSTAT a, hi, lo⟩ = u.get ⟨AX_FLTSTAT a, hi, lo⟩ := by
    rw [testPassed, State.get_put_ne _ (by simp), State.get_put_ne _ (by simp), State.setStaged_get, State.get_put_ne _ (by simp)]
  have mode : AX_MODE a ≠ AX_SSTAT a := by simp
  have stat : AX_STAT a ≠ AX_SSTAT a ∧ AX_STAT a ≠ AX_MODE a := by simp
  refine ⟨fault.trans ?_, decide_eq_true ?_, on_eq_false ?_, ?_, State.get_put_self _ (by simp) (by simp)⟩
  · exact (State.get_put_disj _ (by simp) (by simp)).trans (State.get_put_self _ (by simp) (by simp))
  · rw [fault, State.get_put_self _ (by simp) (by simp)]
    simp
  · rw [testPassed, State.get_put_ne _ stat.1, State.get_put_ne _ stat.2, State.setStaged_get]
    exact State.get_put_self _ (by simp) (by simp)
  · rw [testPassed, State.get_put_ne _ mode]
    exact State.get_put_self _ (by simp) (by simp)

theorem does_retryTestPass {s : State} {a : Fin 128} (h2 : s.get (AX_FLTSTAT.STATE a) = 2) : Does (.retryTestPass a) s fun t =>
    t.get (AX_FLTSTAT.STATE a) = 0 ∧ t.on (AX_FLTSTAT.RECOV a) = true ∧ t.on (AX_STAT.HALTED a) = false
      ∧ t.get (AX_MODE.MODE a) = 0 ∧ t.get (AX_SSTAT.STATE a) = 0 ∧ t.evPending (48 + a / 8) = true := by
  refine .of_eq rfl (testPass_eq h2) ?_
  dsimp only
  generalize hu : ((testPassed a s).modMo a fun m => { m with faultHalt := false }).modSe a (fun e => { e with fresh := true }) = u
  have word {f : Fld} (hf : f.addr < 0x70000) :
      (pend (48 + a / 8) (u.get (AX_FLTSTAT.CAUSE a)) a (updAlert a u)).get f = (testPassed a s).get f :=
    (get_of_shared (pend_ok ..) hf rfl).trans ((get_of_shared (updAlert_ok ..) hf rfl).trans
      (by rw [← hu, State.modSe_get, State.modMo_get]))
  have flag {f : Fld} (hf : f.addr < 0x70000) := congrArg (fun n => decide (n ≠ 0)) (word hf)
  obtain ⟨state, recov, halted, mode, stands⟩ := testPassed_effect a s
  exact ⟨(word (AX_FLTSTAT_lt a.isLt)).trans state, (flag (AX_FLTSTAT_lt a.isLt)).trans recov, (flag (AX_STAT_lt a.isLt)).trans halted,
    (word (by simp only [AX_MODE]; omega)).trans mode, (word (by simp only [AX_SSTAT]; omega)).trans stands, evPending_pend (by omega)⟩

theorem does_retryWindowExpiry {s : State} {a : Fin 128} (h0 : s.get (AX_FLTSTAT.STATE a) = 0) : Does (.retryWindowExpiry a) s fun t =>
    t.get (AX_FLTSTAT.TRYCNT a) = 0 ∧ t.get (AX_FLTSTAT.CAUSE a) = s.get (AX_FLTSTAT.CAUSE a) ∧ Frame [.reg .AX_FLTSTAT] s t :=
  .of_eq rfl (if_pos h0) ⟨State.get_put_self _ (by simp) (by simp), State.get_put_disj _ (by simp) (by simp),
    (State.put_at (at_AX_FLTSTAT a)).1⟩

/-- Settles O11: a trip alone faults its axis when it is hard, or when its run reaches PERSIST; retries by the axis's own words. -/
theorem faultManagerCompletes : Obligations.FaultManagerCompletes := by
  unfold Obligations.FaultManagerCompletes
  intro s a
  refine ⟨fun x ht hc hk ha hl he h0 => does_tripCheck ht hc hk ha hl he h0, fun c p ht hp => ?_,
    fun p x ht hx ha hd hl hp he h0 hr c hc => ?_, does_faultWaitExpiry, does_retryTestPass, does_retryWindowExpiry⟩
  · obtain ⟨t, run, ends, frame⟩ := does_periodCheck_untripped (p := p) ht hp
    exact ⟨t, run, fun e hc => ends a e hc, frame⟩
  · rw [← ha] at he h0 hr hc ⊢
    rw [hc] at hr
    exact does_periodCheck_persists ht hx hc (ha ▸ a.isLt) hd hl hp he h0 hr

end Sys2Proof.Machine

namespace Sys2Proof.Machine

/-! ### The mode state of an axis at standstill, R147 and R149 -/

/-- Whether the mode state of axis `a` is PARKING: by AX_STANDSTILL.MODE, or by a forced park. -/
def State.entersPark (s : State) (a : Nat) : Bool := (s.mo a).forcePark || decide (s.get (AX_STANDSTILL.MODE a) = 3)

/-- AX_SSTAT.STATE of axis `a` once it has entered its mode state: a park ends at once on a park address, and a halted axis shows
DELAY for it. -/
def State.modeCode (s : State) (a : Nat) : Nat :=
  if s.entersPark a then (if s.on (AX_STAT.HALTED a) then 1 else if s.parkDelta a = 0 then 6 else 5)
  else s.get (AX_STANDSTILL.MODE a) + 2

/-- Axis `a` enters its mode state, with its coils energised. -/
def enterModeState (a : Nat) (s : State) : State :=
  (s.put (AX_SSTAT.STATE a) (s.modeCode a)).modMo a fun m =>
    { m with parkHeld := s.entersPark a && s.on (AX_STAT.HALTED a) }

theorem startPark_eq {a : Nat} {s : State} (h : s.entersPark a = true) : startPark a s = enterModeState a s := by
  unfold startPark enterModeState State.modeCode
  rw [h]
  cases s.on (AX_STAT.HALTED a) <;> simp

/-- From a state other than OFF and PARKED the coils need no energising first. -/
theorem modeState_eq {a : Nat} {s : State} (hoff : s.get (AX_SSTAT.STATE a) ≠ 2) (hparked : s.get (AX_SSTAT.STATE a) ≠ 6) :
    modeState a s = enterModeState a s := by
  have target : (if (s.mo a).forcePark then 5 else s.get (AX_STANDSTILL.MODE a) + 2)
      = if s.entersPark a then 5 else s.get (AX_STANDSTILL.MODE a) + 2 := by
    unfold State.entersPark
    cases (s.mo a).forcePark
    · by_cases h : s.get (AX_STANDSTILL.MODE a) = 3 <;> simp [h]
    · rfl
  unfold modeState
  dsimp only
  rw [target, decide_eq_false hoff, decide_eq_false hparked]
  cases h : s.entersPark a
  · have other : s.get (AX_STANDSTILL.MODE a) ≠ 3 := (by simpa [State.entersPark] using h : _ ∧ _).2
    simp [enterModeState, State.modeCode, h, other]
  · exact startPark_eq h

theorem modeCode_lt (s : State) (a : Nat) : s.modeCode a < 8 := by
  have mode : s.get (AX_STANDSTILL.MODE a) < 4 := by
    rw [State.get, wordField_eq]
    exact Nat.mod_lt _ (Nat.two_pow_pos _)
  unfold State.modeCode
  split_ifs <;> omega

theorem enterModeState_state (a : Nat) (s : State) : (enterModeState a s).get (AX_SSTAT.STATE a) = s.modeCode a :=
  (State.get_put_self _ (by simp) (by simp)).trans (Nat.mod_eq_of_lt (modeCode_lt s a))

theorem enterModeState_mo (a : Nat) (s : State) :
    (enterModeState a s).mo a = { s.mo a with parkHeld := s.entersPark a && s.on (AX_STAT.HALTED a) } := by
  rw [enterModeState, State.mo_modMo, State.put_mo]

/-- The start delay of R149 has elapsed: the axis leaves ENERGISE with nothing to follow. -/
def endEnergise (a : Nat) (s : State) : State :=
  (s.put (AX_SSTAT.STATE a) 0).modMo a fun m => { m with afterEnerg := .none }

theorem endEnergise_state (a : Nat) (s : State) : (endEnergise a s).get (AX_SSTAT.STATE a) = 0 :=
  State.get_put_self _ (by simp) (by simp)

theorem endEnergise_mo (a : Nat) (s : State) : (endEnergise a s).mo a = { s.mo a with afterEnerg := .none } := by
  rw [endEnergise, State.mo_modMo, State.put_mo]

theorem endEnergise_get {a : Nat} {s : State} {g : Fld} (h : g.addr ≠ AX_SSTAT a) : (endEnergise a s).get g = s.get g :=
  State.get_put_ne _ h

theorem endEnergise_on {a : Nat} {s : State} {g : Fld} (h : g.addr ≠ AX_SSTAT a) : (endEnergise a s).on g = s.on g :=
  congrArg (fun n => decide (n ≠ 0)) (endEnergise_get h)

theorem endEnergise_parkDelta (a : Nat) (s : State) : (endEnergise a s).parkDelta a = s.parkDelta a := by
  have dir : (endEnergise a s).on (AX_SSTAT.DIR a) = s.on (AX_SSTAT.DIR a) :=
    congrArg (fun n => decide (n ≠ 0)) (State.get_put_disj _ (by simp) (by simp))
  unfold State.parkDelta State.posOf
  rw [dir, endEnergise_on (by simp), endEnergise_mo]

theorem endEnergise_entersPark (a : Nat) (s : State) : (endEnergise a s).entersPark a = s.entersPark a := by
  unfold State.entersPark
  rw [endEnergise_get (by simp), endEnergise_mo]

/-- The mode state to enter is that of before ENERGISE ended. -/
theorem endEnergise_modeCode (a : Nat) (s : State) : (endEnergise a s).modeCode a = s.modeCode a := by
  unfold State.modeCode
  rw [endEnergise_entersPark, endEnergise_parkDelta, endEnergise_on (by simp), endEnergise_get (by simp)]

theorem delayExpiry_eq {a : Nat} {s : State} (he : s.enabled a = true) (h1 : s.get (AX_SSTAT.STATE a) = 1)
    (h0 : s.get (AX_FLTSTAT.STATE a) = 0) : delayExpiry a s = enterModeState a s := by
  have go : (s.enabled a && decide (s.get (AX_SSTAT.STATE a) = 1) && !s.on (AX_FLTSTAT.STATE a)) = true := by
    rw [he, h1, on_eq_false h0]
    rfl
  exact (if_pos go).trans (modeState_eq (by omega) (by omega))

theorem energExpiry_eq {a : Nat} {s : State} (he : s.enabled a = true) (h7 : s.get (AX_SSTAT.STATE a) = 7) :
    energExpiry a s =
      if (s.mo a).afterEnerg = .modeState then enterModeState a (endEnergise a s) else endEnergise a s := by
  have state := endEnergise_state a s
  rw [← modeState_eq (by omega) (by omega)]
  exact if_pos (by rw [he, h7]; rfl)

/-- Settles O16: both expiries enter the mode state from a state that has its coils energised (`modeState_eq`), and the end of
ENERGISE leaves what that state is formed from (`endEnergise_modeCode`). -/
theorem standstillCompletes : Obligations.StandstillCompletes := by
  unfold Obligations.StandstillCompletes
  intro s a he
  refine ⟨fun h1 h0 => ?_, fun h7 => ⟨fun hn => ?_, fun hm => ?_⟩⟩
  · have e := delayExpiry_eq he h1 h0
    exact .of_eq rfl e ⟨enterModeState_state a s, enterModeState_mo a s, e ▸ (delayExpiry_ok a s).1⟩
  · have e := (energExpiry_eq he h7).trans (if_neg hn)
    exact .of_eq rfl e ⟨endEnergise_state a s, endEnergise_mo a s, e ▸ (energExpiry_ok a s).1⟩
  · have e := (energExpiry_eq he h7).trans (if_pos hm)
    refine .of_eq rfl e ⟨?_, ?_, e ▸ (energExpiry_ok a s).1⟩
    · exact (enterModeState_state ..).trans (endEnergise_modeCode a s)
    · rw [enterModeState_mo, endEnergise_entersPark, endEnergise_on (by simp), endEnergise_mo]
      rfl

end Sys2Proof.Machine

/-!
# O19: loading and selecting wave tables, and their ECC errors
-/
namespace Sys2Proof.Machine

/-! ### Fields a write takes over into a word -/

/-- A field inside the bits that a write replaces reads as in the value written, whatever the other bits kept. -/
theorem wordField_replaced {v old k : Word} {hi lo : Nat} (inside : ∀ i, lo ≤ i → i ≤ hi → k.getLsbD i = true) :
    wordField (v ||| (old &&& ~~~ k)) hi lo = wordField v hi lo := by
  refine Nat.eq_of_testBit_eq fun i => ?_
  rw [testBit_wordField, testBit_wordField]
  by_cases hb : i < hi + 1 - lo
  · have bit := inside (lo + i) (by omega) (by omega)
    simp [bit]
  · simp [hb]

/-- The same of a word whose bits wait: the latest value of a field is that of the value staged. -/
theorem getLatest_setStaged {s : State} {f : Fld} {v old mask k : Word}
    (inside : ∀ i, f.lo ≤ i → i ≤ f.hi → k.getLsbD i = true) :
    (s.setStaged f.addr ⟨v ||| (old &&& ~~~ k), mask ||| k⟩).getLatest f = wordField v f.hi f.lo := by
  unfold State.getLatest State.latest
  rw [State.stagedAt_setStaged]
  refine Nat.eq_of_testBit_eq fun i => ?_
  rw [testBit_wordField, testBit_wordField]
  by_cases hb : i < f.hi + 1 - f.lo
  · have bit := inside (f.lo + i) (by omega) (by omega)
    simp [bit]
  · simp [hb]

theorem Word.and_zero_of_lt {v : Word} (h : v.toNat < 4096) : v &&& 0xFFFFF000 = 0 := by
  refine Word.and_zero_of_bits fun i hi => ?_
  have high : 12 ≤ i := by
    have : i < 32 := BitVec.lt_of_getLsbD hi
    revert hi
    revert i
    decide
  exact Nat.testBit_lt_two_pow (h.trans_le (Nat.pow_le_pow_right (show 0 < 2 by decide) high))

/-! ### Words of the table block, R157 -/

section
variable {s : State} {m : Master} {t : Fin 8}

/-- The state after a write that puts `w` in the word at `a` and does nothing beyond. -/
def wordWritten (m : Master) (a : Nat) (w : Word) (s : State) : State := ((s.setBad a false).wr a w).answer m .done

theorem wordWritten_reply (a : Nat) (w : Word) : (wordWritten m a w s).reply m = .done := State.reply_answer ..

theorem wordWritten_frame {a : Nat} {r : RegName} (h : r.at a) (w : Word) :
    Frame (accessParts ++ [.reg r]) s (wordWritten m a w s) := by
  refine (((State.setBad_ok ..).1.subset ?_).trans ((State.wr_at h).1.subset ?_)).trans ((State.answer_ok ..).1.subset ?_) <;>
    simp [accessParts]

theorem wordWritten_get {f : Fld} {v old k : Word} (inside : ∀ i, f.lo ≤ i → i ≤ f.hi → k.getLsbD i = true) :
    (wordWritten m f.addr (v ||| (old &&& ~~~ k)) s).get f = wordField v f.hi f.lo := by
  unfold wordWritten State.get
  rw [State.answer_rd, State.rd_wr_self, wordField_replaced inside]

/-- LOAD opens a table that no enabled axis uses, and closes any. -/
theorem waveRefuses_WAVE_CTL {v : Word} (ht : t ≠ 0) (free : v.getLsbD 0 = true → s.tableUsed t = false) :
    waveRefuses ⟨.WAVE, t.val, entry_WAVE_CTL, 0, false⟩ v s = false := by
  have user : t.val ≠ 0 := fun h => ht (Fin.ext h)
  show (v.getLsbD 0 && (decide (t.val = 0) || s.tableUsed t)) = false
  cases hv : v.getLsbD 0
  · rfl
  · rw [free hv, decide_eq_false user]
    rfl

theorem does_waveCtl {c : Instr} {v : Word} (hc : exec c s = .next (regWrite m (WAVE_CTL t) v s)) (h : s.mayWrite m (WAVE_CTL t))
    (ht : t ≠ 0) (hr : v &&& 0xFFFFFFFE = 0) (free : v.getLsbD 0 = true → s.tableUsed t = false) :
    Does c s fun u => u.on (WAVE_CTL.LOAD t) = v.getLsbD 0 ∧ u.reply m = .done ∧ Frame (accessParts ++ [.reg .WAVE_CTL]) s u := by
  refine .of_eq (u := wordWritten m (WAVE_CTL t) (v ||| (s.rd (WAVE_CTL t) &&& ~~~ (0x1 : Word))) s) hc
    (written_WAVE_CTL t h hr (waveRefuses_WAVE_CTL ht free)) ⟨?_, wordWritten_reply .., wordWritten_frame (at_WAVE_CTL t) _⟩
  unfold State.on
  rw [wordWritten_get (f := WAVE_CTL.LOAD t) (fun i _ hi => by rw [Nat.le_zero.mp hi]; decide), wordField_bit]
  cases v.getLsbD 0 <;> decide

theorem reserved_WAVE : reservedBits entry_WAVE = 0xFFFFF000 := by decide

/-- A write of an entry of a table that is open for loading. -/
theorem written_WAVE {k : Fin 257} {w : Word} (h : s.mayWrite m (WAVE t k)) (ht : t ≠ 0) (hk : s.locked = false)
    (loading : s.on (WAVE_CTL.LOAD t) = true) (hw : w &&& 0xFFFFF000 = 0) :
    regWrite m (WAVE t k) w s = wordWritten m (WAVE t k) (w ||| (s.rd (WAVE t k) &&& ~~~ (0xFFF : Word))) s := by
  let l : Loc := ⟨.WAVE, t.val, entry_WAVE, k.val, false⟩
  have value : w &&& 0xFFF = w := Word.and_of_rest (m := 0xFFF) hw
  have plain : plainWord entry_WAVE w = ⟨w, 0, 0⟩ := by rw [plain_WAVE, value]
  have user : t.val ≠ 0 := fun h => ht (Fin.ext h)
  have writable : l.writable = true := by
    show (true && !(true && decide (t.val = 0))) = true
    rw [decide_eq_false user]
    rfl
  have taken (old v sel : Word) : blockRefuses l old v sel s = false := by
    rw [blockRefuses, lock_open hk, Bool.false_or]
    show (!s.on (WAVE_CTL.LOAD t)) = false
    rw [loading]
    rfl
  rw [plain_eq (l := l) h (locate_WAVE t k) (by simp only [WAVE]; omega) rfl rfl writable
    (by rw [show reservedBits l.defn = 0xFFFFF000 from reserved_WAVE]; exact hw) rfl rfl (fieldsFit_any rfl w) rfl
    (by dsimp only [l]; decide) (coachOf_high (by simp only [WAVE]; omega)) (taken ..), plain,
    storeWord_value (k := 0xFFF) rfl rfl rfl value]
  rfl

theorem does_waveEntryWrite {k : Fin 257} {w : Word} (h : s.mayWrite m (WAVE t k)) (ht : t ≠ 0) (hk : s.locked = false)
    (loading : s.on (WAVE_CTL.LOAD t) = true) (hw : w.toNat < 4096) :
    Does (.waveEntryWrite m t k w) s fun u =>
      u.get (WAVE.Q t k) = w.toNat ∧ u.reply m = .done ∧ Frame (accessParts ++ [.reg .WAVE]) s u := by
  refine .of_eq rfl (written_WAVE h ht hk loading (Word.and_zero_of_lt hw))
    ⟨?_, wordWritten_reply .., wordWritten_frame (at_WAVE t k) _⟩
  have bits : ∀ i, i ≤ 11 → (0xFFF : Word).getLsbD i = true := by decide
  rw [wordWritten_get (f := WAVE.Q t k) (fun i _ => bits i), wordField_eq]
  show w.toNat / 1 % 4096 = w.toNat
  omega

end

/-! ### Selecting a table, R159 -/

section
variable {s : State} {m : Master} {a : Fin 128} {w : Word}

theorem wordField_table (w : Word) : wordField w 2 0 = w.toNat % 8 :=
  (wordField_eq w 2 0).trans (congrArg (· % 8) (Nat.div_one _))

/-- What lets a selection pass: INV is left alone while the axis is enabled, and the table of an axis that is or will be enabled is
closed, R157. -/
theorem axRefuses_AX_WAVESEL (inv : s.enabled a = true → w.getLsbD 8 = (s.latest (AX_WAVESEL a)).getLsbD 8)
    (closed : s.enabledOrPend a = true → s.on (WAVE_CTL.LOAD (w.toNat % 8)) = false) :
    axRefuses ⟨.AX, a.val, entry_AX_WAVESEL, 0, false⟩ (s.latest (AX_WAVESEL a)) w s = false := by
  show ((s.enabled a && decide (wordField w 8 8 ≠ wordField (s.latest (AX_WAVESEL a)) 8 8))
    || (s.enabledOrPend a && s.on (WAVE_CTL.LOAD (wordField w 2 0)))) = false
  rw [wordField_table, wordField_bit, wordField_bit]
  refine Bool.or_eq_false_iff.mpr ⟨?_, ?_⟩
  · cases he : s.enabled a
    · rfl
    · rw [inv he]
      simp
  · cases he : s.enabledOrPend a
    · rfl
    · rw [closed he]
      rfl

theorem does_waveSelectWrite (h : s.mayWrite m (AX_WAVESEL a)) (hk : s.locked = false) (hr : w &&& 0xFFFFFEF8 = 0)
    (inv : s.enabled a = true → w.getLsbD 8 = (s.latest (AX_WAVESEL a)).getLsbD 8)
    (closed : s.enabledOrPend a = true → s.on (WAVE_CTL.LOAD (w.toNat % 8)) = false) :
    Does (.waveSelectWrite m a w) s fun u =>
      u.getLatest (AX_WAVESEL.TABLE a) = w.toNat % 8 ∧ u.getLatest (AX_WAVESEL.INV a) = b2n (w.getLsbD 8) ∧ u.reply m = .done
        ∧ Frame (accessParts ++ [.staged]) s u := by
  have tableBits : ∀ i, i ≤ 2 → (0x107 : Word).getLsbD i = true := by decide
  refine .of_eq rfl (written_AX_WAVESEL a h hr (axRefuses_AX_WAVESEL inv closed) hk) ⟨?_, ?_, State.reply_answer .., ?_⟩
  · exact (getLatest_setStaged (f := AX_WAVESEL.TABLE a) fun i _ => tableBits i).trans (wordField_table w)
  · refine (getLatest_setStaged (f := AX_WAVESEL.INV a) fun i low high => ?_).trans (wordField_bit ..)
    exact (Nat.le_antisymm high low : i = 8) ▸ show (0x107 : Word).getLsbD 8 = true by decide
  · exact (Ok.via (State.answer_ok ..) rfl (Ok.via (State.setStaged_ok ..) rfl ((State.touched_ok ..).mono rfl))).1

end

/-! ### ECC errors, R156 -/

section
variable {s : State} {t : Fin 8} {k : Fin 257}

theorem waveEcc_corrected (ht : t ≠ 0) (k : Nat) (s : State) : waveEcc t k false s = s.inc (WAVE_STAT.CORR t) :=
  (if_neg fun h => ht (Fin.ext h)).trans (if_pos rfl)

/-- The word marked and the error counted, before it is recorded. -/
def waveMarked (t k : Nat) (s : State) : State := (s.inc (WAVE_STAT.UNCORR t)).setBad (WAVE t k) true

theorem waveEcc_uncorrectable (ht : t ≠ 0) (k : Nat) (s : State) :
    waveEcc t k true s = recordParity (WAVE t k) (waveMarked t k s) :=
  (if_neg fun h => ht (Fin.ext h)).trans (if_neg (by decide))

theorem noteParity_valid (addr : Nat) (s : State) : (noteParity addr s).on GCTL_PARERR.VALID = true := by
  unfold noteParity
  split
  · rename_i valid
    exact (congrArg (fun n => decide (n ≠ 0)) (State.get_put_disj 1 (by decide) (by decide))).trans valid
  · exact (congrArg (fun n => decide (n ≠ 0)) (State.get_put_disj addr (by decide) (by decide))).trans
      (State.on_put_self 1 (by decide) (by decide))

theorem recordParity_valid (addr : Nat) (s : State) : (recordParity addr s).on GCTL_PARERR.VALID = true :=
  ((pend_ok ..).1.on_of (by decide)).trans (noteParity_valid addr s)

theorem does_waveEccError {fatal : Bool} {P : State → Prop} (live : s.power.inReset = false) (h : P (waveEcc t k fatal s)) :
    Does (.waveEccError t k fatal) s P :=
  .of_eq rfl (if_neg (by rw [live]; decide)) h

theorem waveEcc_shows (ht : t ≠ 0) :
    let u := waveEcc t k true s
    u.isBad (WAVE t k) = true ∧ u.on GCTL_PARERR.VALID = true ∧ u.evPending 114 = true
      ∧ u.get (WAVE_STAT.UNCORR t) = min (WAVE_STAT.UNCORR t).max (s.get (WAVE_STAT.UNCORR t) + 1) := by
  have recorded := (recordParity_ok (WAVE t k) (waveMarked t k s)).1
  have marks : (recordParity (WAVE t k) (waveMarked t k s)).bad = (waveMarked t k s).bad := recorded.1 .bad (by decide)
  rw [waveEcc_uncorrectable ht]
  refine ⟨?_, recordParity_valid .., evPending_pend (by decide), ?_⟩
  · exact (congrArg (fun b => Sparse.get (fun _ => false) b (WAVE t k)) marks).trans (State.isBad_setBad ..)
  · have kept := recorded.rd_range (lo := 0x40000) (hi := 0x44000) (by decide) (a := WAVE_STAT t)
      (by simp only [WAVE_STAT]; omega)
    exact (congrArg (wordField · 7 0) kept).trans (get_inc_self s (by simp) (by simp))

end

/-- Settles O19: a write of each word of the tables passes its checks and takes over its fields; an ECC error is counted, and recorded
when it cannot be corrected, with no axis faulted until a sequencer reads the word (log entry 26). -/
theorem wavesComplete : Obligations.WavesComplete := by
  unfold Obligations.WavesComplete
  intro s m t ht
  refine ⟨fun may => ⟨fun free => ?_, ?_⟩, fun k w may unlocked loading small => ?_, fun a w may unlocked fits inv closed => ?_,
    fun k live => ⟨?_, ?_⟩⟩
  · exact does_waveCtl (v := 1) rfl may ht (by decide) fun _ => free
  · exact does_waveCtl (v := 0) rfl may ht (by decide) fun one => absurd one (by decide)
  · exact does_waveEntryWrite may ht unlocked loading small
  · exact does_waveSelectWrite may unlocked fits inv closed
  · refine does_waveEccError live ?_
    rw [waveEcc_corrected ht]
    exact ⟨get_inc_self s (by simp) (by simp), (State.inc_at (at_WAVE_STAT t)).1⟩
  · obtain ⟨bad, recorded, pends, counted⟩ := waveEcc_shows (s := s) (k := k) ht
    exact does_waveEccError live ⟨bad, recorded, pends, counted, (waveEcc_ok ..).1.mono rfl⟩

end Sys2Proof.Machine

/-!
# O50: an empty queue
-/
namespace Sys2Proof.Machine

/-- Settles O50: a step looks at the queue first (log entry 3). -/
theorem emptyQueueIdles : Obligations.EmptyQueueIdles := by
  unfold Obligations.EmptyQueueIdles
  intro s empty
  unfold step
  rw [empty]

end Sys2Proof.Machine

/-!
# O17: requests to an axis

The clause of AXIS_DISABLE asks that the bit of AXEN reads 0 after the write, on every state, also on one where the entry that owns the
axis is past the 128 of a recipe. That entry fails (R223), and its record goes to a word beyond PL_RES.
-/
namespace Sys2Proof.Machine

/-- The number past the entries of a recipe for which `endEntry` writes `PL_RES e = AXEN 0`. -/
def strayEntry : Nat := (AXEN 0 - PL_RES 0) / 0x20

/-- The reset device with the bit of axis 28 set in AXEN, and the axis owned by that entry. -/
def strayOwner : State := { State.reset.wr (AXEN 0) 0x10000000 with pl := { owned := [(28, strayEntry)] } }

/-- Checks 1 to 3 of R72 let the host write AXEN. -/
theorem strayOwner_mayWrite : strayOwner.mayWrite .host (AXEN 0) :=
  ⟨rfl, .reg ⟨.PL, 0, entry_AXEN, 0, false⟩, by rfl⟩

/-- AXIS_DISABLE asks for a change, and the axis is disabled already. -/
theorem strayOwner_asks : (strayOwner.latest (AXEN 0)).getLsbD 28 = true ∧ strayOwner.enabled 28 = false := by decide +kernel

/-- The entry that ends as FAILED sets bit 28 of the word that AXIS_DISABLE has written. -/
theorem axen_disable_strayOwner :
    ((regWrite .host (AXEN 0) (strayOwner.axenWord 28 false) strayOwner).rd (AXEN 0)).getLsbD 28 = true := by decide +kernel

/-- Refutes O17, by its clause of AXIS_DISABLE for a bit that is 1: the disable fails the entry that owns the axis, and for an entry past
the recipe the record of that is written over the bit just cleared. No command of the model gives an axis to such an entry, but the
clause is about every state and has no premise that excludes one. -/
theorem not_axisCommandsComplete : ¬ Obligations.AxisCommandsComplete := by
  unfold Obligations.AxisCommandsComplete
  intro h
  obtain ⟨asked, idle⟩ := strayOwner_asks
  obtain ⟨enabling, -⟩ := h strayOwner .host 28
  obtain ⟨-, -, -, disable⟩ := enabling strayOwner_mayWrite
  obtain ⟨t, run, -, -, -, -, cleared, -⟩ := disable asked
  obtain rfl : regWrite .host (AXEN 0) (strayOwner.axenWord 28 false) strayOwner = t := Host.Outcome.next.inj run
  exact absurd (axen_disable_strayOwner.symm.trans (cleared (.inl idle))) (by decide)

end Sys2Proof.Machine

/-!
# O21: a profile tick, and the step of velocity mode

A tick has three parts. Before the axes, and after them, a quiet tick changes parts that no engine reads (`begun_tickBegin`,
`tickRest_quiet`): it counts the tick, takes the operands, sends TPDOs and takes the snapshot. Between them every axis has its turn: the
axes that are off leave the one that runs alone (`axisTicks_one`), and its turn is the step of R168 (`axisMove_velocity`), of which the
rest of its turn and of the tick keeps position, velocity and acceleration (`Held`, `Coasts`).
-/

namespace Sys2Proof.Machine

/-! ### Reads that find every word sound, R85 and R326 -/

/-- What a read of the interconnect changes while no word fails parity and D4 is awake. -/
def readParts : List Part :=
  [.replies, .hostPair, .trioPair, .mgsPair, .canPair, .free, .trioQ, .emcyQ, .logQ, .logWin, .coaches, .sds, .mgs, .spm, .reg .EV_PEND,
    .reg .GCTL_BUSERR, .reg .GCTL_BUSERRADDR, .reg .GCTL_BUSERRCNT, .reg .GCTL_SEQERR, .reg .MGS_AUCHAL, .reg .MGS_LOGRPTR,
    .reg .MGS_LOGSTAT, .reg .SD_LINADDR, .reg .SPM_STAT]

/-- No word is known to fail parity, and the device is not in NAP. -/
def Sound (s : State) : Prop := s.bad = [] ∧ napping s = false

theorem Sound.of_frame {W : List Part} {s t : State} (h : Frame W s t) (hb : .bad ∉ W) (hp : .power ∉ W)
    (hw : W.all (Part.outside GCTL_RUNSTAT (GCTL_RUNSTAT + 1)) = true) (hs : Sound s) : Sound t :=
  ⟨(h.1 .bad hb).trans hs.1, (napping_of_frame h hp hw).trans hs.2⟩

theorem Sound.isBad {s : State} (h : Sound s) (addr : Nat) : s.isBad addr = false := by
  unfold State.isBad
  rw [h.1]
  rfl

/-- From a sound state the operation changes what a read can change. -/
structure Reads (s t : State) : Prop where
  frame : Sound s → Frame readParts s t

namespace Reads
variable {s t u : State}

theorem of_sound (h : Sound s → Reads s t) : Reads s t := ⟨fun hs => (h hs).frame hs⟩

theorem refl : Reads s s := ⟨fun _ => .refl⟩

theorem trans (h : Reads s t) (h' : Reads t u) : Reads s u :=
  ⟨fun hs => (h.frame hs).trans (h'.frame (hs.of_frame (h.frame hs) (by decide) (by decide) (by decide)))⟩

theorem of_ok {W : List Part} (h : Ok W s t) (hw : within W readParts = true) : Reads s t := ⟨fun _ => h.1.mono hw⟩

theorem of_eq {α : Type} {x : α × State} {a : α} (e : x = (a, t)) (h : Reads s x.2) : Reads s t := by rwa [e] at h

end Reads

section
variable {s : State} {m : Master}

theorem pendD4_reads (src cause idx : Nat) : Reads s (pendD4 src cause idx s) := ⟨fun hs => by
  have frame := pendD4_frame src cause idx s
  rw [d4Parts, if_neg (by rw [hs.2]; decide)] at frame
  exact frame.mono rfl⟩

theorem busFail_reads (addr : Nat) (e : BusErr) : Reads s (busFail m addr e s) := ⟨fun hs => by
  have parts : within (errEventParts e s ++ errorParts) readParts = true := by
    unfold errEventParts d4Parts
    rw [hs.2]
    cases e <;> rfl
  exact ((recordErr_frame m addr e s).mono parts).trans ((State.answer_ok ..).1.mono rfl)⟩

/-- A read of the window is refused, served from a line, or waits for one. -/
theorem xipRead_reads (size : AccessSize) (addr w : Nat) : Reads s (xipRead m size w (busFail m addr .refused) s) := by
  have served {f : Spm → Spm} {r : Reply} (good : ∀ x : Spm, x.good → (f x).good) : Reads s ((s.modSpm f).answer m r) :=
    .of_ok (W := [.spm, .replies]) (Ok.via (State.answer_ok ..) rfl ((State.modSpm_ok good).mono rfl)) rfl
  unfold xipRead
  dsimp only
  split
  · exact (pendD4_reads ..).trans (busFail_reads ..)
  · split
    · exact served fun _ h => ⟨h.1, h.2.1, List.length_take_le _ _⟩
    · exact served fun _ h => ⟨h.1, h.2.1, h.2.2⟩

theorem regRead_reads (addr : Nat) (l : Loc) : Reads s (regRead m addr l s) := .of_sound fun hs => by
  unfold regRead
  dsimp only
  rw [hs.isBad, if_neg Bool.false_ne_true]
  split
  · exact .of_ok (submit_ok ..) rfl
  · split
    · exact .of_ok (readLo_ok ..) rfl
    · exact .of_ok (readHi_ok ..) rfl
    · split
      · exact .of_ok (State.answer_ok ..) rfl
      · exact .trans (.of_ok (OkP.snd (readAct_ok ..)) rfl) (.of_ok (State.answer_ok ..) rfl)

theorem busRead_reads (size : AccessSize) (addr : Nat) : Reads s (busRead m size addr s) := .of_sound fun hs => by
  unfold busRead
  split
  · exact .refl
  · split
    · exact busFail_reads ..
    · split
      · exact xipRead_reads ..
      · dsimp only
        rw [hs.isBad, if_neg Bool.false_ne_true]
        split
        · exact .of_ok (State.answer_ok ..) rfl
        · exact .refl
      · exact regRead_reads ..

theorem readReg_reads (addr : Nat) (f : Word → List Nat) : Reads s (readReg m addr f s).2 :=
  (busRead_reads .word addr).trans (.of_ok (OkP.snd (gotWord_ok ..)) rfl)

theorem readRegs_reads (l : List Nat) : Reads s (readRegs m l s).2 := by
  induction l generalizing s with
  | nil => exact .refl
  | cons a l ih =>
    have first := readReg_reads (s := s) (m := m) a fun w => leBytes 4 w.toNat
    unfold readRegs
    split
    · rename_i b t e
      have rest : Reads s (readRegs m l t).2 := (Reads.of_eq e first).trans ih
      split
      · rename_i e'
        exact .of_eq e' rest
      · exact rest
    · exact first

/-- The read pointer of the log moves on, R365. -/
theorem logTaken_ok (w : Word) : Ok [.mgs, .reg .MGS_LOGRPTR] s ((s.wr MGS_LOGRPTR w).modMgs fun x => { x with logIdx := 0 }) := by
  refine Ok.via (State.modMgs_ok ?_) rfl ((State.wr_at at_MGS_LOGRPTR).mono rfl)
  exact fun _ h => ⟨h.1, h.2.1, h.2.2.1, h.2.2.2.1, h.2.2.2.2⟩

theorem firmRead_reads (idx sub : Nat) : Reads s (firmRead m idx sub s).2 := by
  unfold firmRead
  split
  case h_2 => split <;> exact .refl
  case h_5 =>
    split
    · exact .refl
    · exact readReg_reads ..
  case h_7 =>
    split
    · exact .refl
    · split <;> exact .refl
  case h_8 =>
    dsimp only
    split
    · exact .refl
    · exact .of_ok (logTaken_ok _) rfl
  all_goals exact .refl

theorem readObj_reads (idx sub : Nat) (d : ObjDef) : Reads s (readObj m idx sub d s).2 := by
  have words {l : List Nat} {r : Got} {t : State} (e : readRegs m l s = (r, t)) : Reads s t := .of_eq e (readRegs_reads l)
  unfold readObj
  split
  case h_4 | h_5 | h_7 => exact readReg_reads ..
  case h_6 | h_9 =>
    split
    · exact words ‹_›
    · exact readRegs_reads _
  case h_8 => exact readRegs_reads _
  case h_10 => split <;> exact .refl
  case h_12 =>
    split
    · split
      · exact words ‹_›
      · exact readRegs_reads _
    · exact readReg_reads ..
  case h_13 => exact firmRead_reads ..
  all_goals exact .refl

theorem readMapped_reads (l : List Word) : Reads s (readMapped m l s).2 := by
  induction l generalizing s with
  | nil => exact .refl
  | cons w l ih =>
    unfold readMapped
    split
    · rename_i d _
      have object := readObj_reads (s := s) (m := m) (mapIdx w) (mapSub w) d
      split <;> exact .trans (.of_eq ‹_› object) ih
    · exact ih

end

/-! ### Network requests that wait -/

/-- Nothing that the trio is to answer waits, and no loss of a heartbeat is to act. -/
structure Net.Idle (n : Net) : Prop where
  done : n.done = []
  ctxs : n.ctxs = []
  hbDue : n.hbDue = []

section
variable {s : State}

theorem idle_modCan {k : Nat} {f : Can → Can} (h : s.net.Idle) : (s.modCan k f).net.Idle := by
  unfold State.modCan
  by_cases e : k = 0
  · simp only [e, if_true]
    exact ⟨h.done, h.ctxs, h.hbDue⟩
  · simp only [e, if_false]
    exact ⟨h.done, h.ctxs, h.hbDue⟩

theorem idle_ite {c : Prop} [Decidable c] {t u : State} (h : t.net.Idle) (h' : u.net.Idle) : (if c then t else u).net.Idle := by
  split <;> assumption

theorem idle_txAdd {k : Nat} {x : TxFrame} (h : s.net.Idle) : (txAdd k x s).net.Idle := by
  refine idle_ite h (idle_ite ?_ (idle_ite h (idle_modCan h)))
  dsimp only
  rw [State.inc_net]
  exact idle_modCan h

theorem idle_txSent {k : Nat} (h : s.net.Idle) : (txSent k s).net.Idle := by
  refine idle_ite ?_ h
  split
  · exact h
  · exact idle_modCan h

theorem idle_errorReset (h : s.net.Idle) : (errorReset s).net.Idle := by
  have reset : (s.modNet fun n => { n with errReg := 0 }).net.Idle := ⟨h.done, h.ctxs, h.hbDue⟩
  refine idle_ite (idle_ite (forEach_keeps (P := fun u => u.net.Idle) (fun k _ u hu => ?_) reset) reset) h
  exact idle_ite hu (idle_ite hu (idle_modCan hu))

end

/-! ### TPDOs at a tick, R326 -/

/-- What TPDOs change: what their reads do, and the queues they go to. -/
def tpdoParts : List Part := .net :: .reg .NET_CNT :: readParts

/-- From a sound state the operation changes what TPDOs change, and a network with nothing to do stays so. -/
structure Sends (s t : State) : Prop where
  frame : Sound s → Frame tpdoParts s t
  idle : Sound s → s.net.Idle → t.net.Idle

theorem sound_of_tpdo {s t : State} (h : Frame tpdoParts s t) (hs : Sound s) : Sound t :=
  hs.of_frame h (by decide) (by decide) (by decide)

namespace Sends
variable {s t u : State}

theorem refl : Sends s s := ⟨fun _ => .refl, fun _ => id⟩

theorem trans (h : Sends s t) (h' : Sends t u) : Sends s u :=
  ⟨fun hs => (h.frame hs).trans (h'.frame (sound_of_tpdo (h.frame hs) hs)),
    fun hs => h'.idle (sound_of_tpdo (h.frame hs) hs) ∘ h.idle hs⟩

theorem of_reads (h : Reads s t) : Sends s t :=
  ⟨fun hs => (h.frame hs).mono rfl, fun hs hn => (h.frame hs).1 .net (by decide) ▸ hn⟩

theorem of_net {W : List Part} (h : Frame W s t) (hw : within W [.net, .reg .NET_CNT] = true) (hi : s.net.Idle → t.net.Idle) :
    Sends s t :=
  ⟨fun _ => (h.mono hw).mono rfl, fun _ => hi⟩

theorem forEach {α : Type} {l : List α} {f : α → State → State} (h : ∀ x u, Sends u (f x u)) : Sends s (forEach l f s) :=
  forEach_keeps (P := Sends s) (fun x _ u hu => hu.trans (h x u)) .refl

end Sends

section
variable {s : State}

theorem queueOn_sends (n k : Nat) : Sends s (queueOn n k s) :=
  (Sends.of_reads (readMapped_reads _)).trans (.of_net (txAdd_ok ..).1 rfl idle_txAdd)

theorem modNet_frame (f : Net → Net) : Frame [.net] s (s.modNet f) :=
  ⟨fun p hp => by cases p <;> trivial, .inr fun _ _ => rfl⟩

theorem queueTpdo_sends (n : Nat) : Sends s (queueTpdo n s) :=
  (Sends.of_net (modNet_frame _) rfl fun h => ⟨h.done, h.ctxs, h.hbDue⟩).trans (.forEach fun k _ => queueOn_sends n k)

theorem tpdoTick_sends : Sends s (tpdoTick s) := by
  refine (Sends.of_net (modNet_frame _) rfl fun h => ⟨h.done, h.ctxs, h.hbDue⟩).trans (.forEach fun n u => ?_)
  split
  · exact queueTpdo_sends n
  · exact .refl

end

/-! ### What lands and acts before the axes, R166 -/

theorem landClass_idle {s : State} (h : s.staged = []) (c : BufClass) (p : Nat → Bool) : landClass c p s = s := by
  unfold landClass
  rw [h]
  split <;> rfl

section
variable {s : State} {i : TickIn}

theorem applyIf_idle {b : Bool} {f : State → State} (h : f s = s) : applyIf b f s = s := by
  cases b
  · rfl
  · exact h

/-- With nothing staged the buses take the frames they have sent, and are noted as busy or idle. -/
theorem tickBuses_quiet (hs : s.staged = []) (hn : s.net.Idle) : Frame [.net] s (tickBuses i s) ∧ (tickBuses i s).net.Idle := by
  have sent (b : Bool) (k : Nat) (u : State) (h : Frame [.net] s u ∧ u.net.Idle) :
      Frame [.net] s (applyIf b (txSent k) u) ∧ (applyIf b (txSent k) u).net.Idle := by
    cases b
    · exact h
    · exact ⟨h.1.trans (txSent_ok ..).1, idle_txSent h.2⟩
  have noted (k : Nat) (f : Can → Can) (u : State) (h : Frame [.net] s u ∧ u.net.Idle) :
      Frame [.net] s (u.modCan k f) ∧ (u.modCan k f).net.Idle := ⟨h.1.trans (State.modCan_ok ..).1, idle_modCan h.2⟩
  have buses := noted 1 (fun c => { c with busy := !i.idle1 }) _ (noted 0 (fun c => { c with busy := !i.idle0 }) _
    (sent i.sent1 1 _ (sent i.sent0 0 s ⟨.refl, hn⟩)))
  have staged := (buses.1.1 .staged (by decide)).trans hs
  have lands (b : Bool) (p : Nat → Bool) := applyIf_idle (b := b) (f := landFrame p) (landClass_idle staged .frame p)
  unfold tickBuses
  dsimp only
  rw [lands, lands, lands]
  exact buses

theorem lossActions_quiet (hn : s.net.Idle) : Frame [.net] s (lossActions s) ∧ (lossActions s).net.Idle := by
  unfold lossActions
  dsimp only
  rw [hn.hbDue]
  split
  · exact ⟨modNet_frame fun n => { n with hbDue := [] }, hn.done, hn.ctxs, rfl⟩
  · exact ⟨.refl, hn⟩

/-- The time, the wake sources and the counters of the buses, as the tick's operands give them. -/
theorem tickInputs_power : (tickInputs i s).power = { s.power with wakeAct := i.wake.toNat, unticked := false } := by
  have clock : (rtcCount i.rtc s).power = s.power := (rtcCount_ok ..).1.1 .power (by decide)
  unfold tickInputs
  dsimp only
  rw [(canCounters_ok ..).1.1 .power (by decide), (canCounters_ok ..).1.1 .power (by decide)]
  show { (rtcCount i.rtc s).power with wakeAct := i.wake.toNat, unticked := false } = _
  rw [clock]

end

/-! ### The tick before and after the axes, R166 -/

section
variable {s : State} {i : TickIn}

/-- The part of a tick before the axes: what the operands tell, what lands, and what was asked for this tick. -/
def tickBegin (i : TickIn) (s : State) : State :=
  tickHaltN (storeTake (landAxis (lossActions (safeTick (errorReset (tickBuses i (tickInputs i { s with ticks := s.ticks + 1 })))))))

theorem profileTick_eq (h : s.fabricOn = true) :
    profileTick i s = tickRest (tickTrigger (tickBegin i s).planActive (tickAxes (tickBegin i s))) := by
  unfold profileTick
  rw [h]
  rfl

/-- What the part before the axes changes while nothing waits for the tick. -/
def beginParts : List Part :=
  [.ticks, .power, .net, .nvm, .reg .AFE_STAT, .reg .GCTL_RTC_HI, .reg .GCTL_RTC_LO, .reg .NET_STAT, .reg .NET_CNT]

/-- The tick has begun: it is counted, its operands are taken, and nothing that waits is there to act on the axes. -/
structure Begun (i : TickIn) (s u : State) : Prop where
  frame : Frame beginParts s u
  ticks : u.ticks = s.ticks + 1
  power : u.power = { s.power with wakeAct := i.wake.toNat, unticked := false }
  idle : u.net.Idle

theorem begun_tickBegin (h : quietTick s) : Begun i s (tickBegin i s) := by
  obtain ⟨-, -, haltDue, done, ctxs, hbDue, staged, -, -, -, safe, -, -⟩ := h
  let s1 := tickInputs i { s with ticks := s.ticks + 1 }
  let s2 := tickBuses i s1
  let s3 := errorReset s2
  let s4 := lossActions s3
  let s5 := storeTake s4
  let W : List Part := [.net, .nvm, .reg .NET_CNT]
  have inputs := (tickInputs_ok i { s with ticks := s.ticks + 1 }).1
  have power1 : s1.power = { s.power with wakeAct := i.wake.toNat, unticked := false } := tickInputs_power
  have idle1 : s1.net.Idle := inputs.1 .net (by decide) ▸ ⟨done, ctxs, hbDue⟩
  have staged1 : s1.staged = [] := (inputs.1 .staged (by decide)).trans staged
  obtain ⟨f2, idle2⟩ := tickBuses_quiet (i := i) staged1 idle1
  have f3 : Frame W s1 s3 := (f2.mono rfl).trans ((errorReset_ok s2).1.mono rfl)
  have trio3 : s3.trio = s.trio := (f3.1 .trio (by decide)).trans (inputs.1 .trio (by decide))
  have notSafe : safeTick s3 = s3 := if_neg (by rw [trio3, safe]; exact Bool.false_ne_true)
  obtain ⟨f4, idle4⟩ := lossActions_quiet (idle_errorReset idle2)
  have f14 : Frame W s1 s4 := f3.trans (f4.mono rfl)
  have landed : landAxis s4 = s4 := landClass_idle ((f14.1 .staged (by decide)).trans staged1) ..
  have store := (storeTake_ok s4).1
  have f15 : Frame W s1 s5 := f14.trans (store.mono rfl)
  have power5 : s5.power = { s.power with wakeAct := i.wake.toNat, unticked := false } := (f15.1 .power (by decide)).trans power1
  have noHalt : tickHaltN s5 = s5 := if_neg (by rw [power5]; exact ne_true_of_eq_false haltDue)
  have last : tickBegin i s = s5 := by
    show tickHaltN (storeTake (landAxis (lossActions (safeTick s3)))) = s5
    rw [notSafe, landed, noHalt]
  rw [last]
  exact
    { frame := (Ok.ticks.1.mono rfl).trans ((inputs.mono rfl).trans (f15.mono rfl))
      ticks := (f15.1 .ticks (by decide)).trans (inputs.1 .ticks (by decide))
      power := power5
      idle := store.1 .net (by decide) ▸ idle4 }

end

/-! ### The tick of an axis that is disabled, R166 -/

theorem AxisOnly.putPair {b k lo : Nat} {v : Int} {s t : State} (e : lo = k + 0x200 * b) (hk : axisOffset k = true)
    (hk' : axisOffset (k + 4) = true) (h : AxisOnly b s t) : AxisOnly b s (t.putPair lo v) :=
  (h.wr e hk).wr (by omega) hk'

section
variable {b : Nat} {s t : State}

theorem AxisOnly.putB {k : Nat} {f : Fld} {v : Bool} (e : f.addr = k + 0x200 * b) (hk : axisOffset k = true) (h : AxisOnly b s t) :
    AxisOnly b s (t.putB f v) := h.put e hk

theorem AxisOnly.putI {k : Nat} {f : Fld} {v : Int} (e : f.addr = k + 0x200 * b) (hk : axisOffset k = true) (h : AxisOnly b s t) :
    AxisOnly b s (t.putI f v) := h.put e hk

/-- The axis is disabled and stands. -/
structure Off (b : Nat) (s : State) : Prop where
  enabled : s.enabled b = false
  v : (s.mo b).v = 0

theorem Off.of_sameAxis (h : SameAxis b s t) (hs : Off b s) : Off b t := ⟨h.enabled.trans hs.enabled, h.2 ▸ hs.v⟩

theorem Off.of_shared {W : List Part} (hb : b < 128) (h : Ok W s t) (hw : W.all Part.shared = true) (hs : Off b s) : Off b t :=
  hs.of_sameAxis (.of_shared hb h hw)

theorem Off.put {f : Fld} {v : Nat} (hf : f.addr ≠ AX_STAT b ∨ f.hi < 30) (hs : Off b s) : Off b (s.put f v) := by
  refine ⟨?_, hs.v⟩
  have enabled : (s.put f v).get (AX_STAT.ENABLED b) = s.get (AX_STAT.ENABLED b) := by
    rcases hf with other | below
    · exact State.get_put_ne v other.symm
    · exact State.get_put_disj v (by omega) (.inr below)
  exact (congrArg (fun n => decide (n ≠ 0)) enabled).trans hs.enabled

theorem Off.beginStop (hs : Off b s) (kind : Nat) (run : Run) : beginStop b kind run s = s := by
  unfold Machine.beginStop
  rw [hs.enabled]
  rfl

/-- A disabled axis has nothing to stop. -/
theorem Off.stopCmd (hs : Off b s) : stopCmd b s = s := by
  unfold Machine.stopCmd
  rw [hs.v, hs.beginStop]
  simp

theorem AxisOnly.runAction (hb : b < 128) (act : Nat) (hs : Off b s) : AxisOnly b s (runAction b act s) := by
  have cause : Ok _ s (planRunCause b 5 s) := planRunCause_ok ..
  have off : Off b (planRunCause b 5 s) := hs.of_shared hb cause rfl
  have noted : AxisOnly b s (planRunCause b 5 s) := .shared .refl cause rfl
  unfold Machine.runAction
  dsimp only
  rw [off.stopCmd, quickStop, off.beginStop, off.enabled, Bool.not_false, Bool.or_true, if_pos rfl, ite_self, ite_self]
  split
  · exact .refl
  · exact noted

theorem AxisOnly.witLost (hb : b < 128) (hs : Off b s) : AxisOnly b s (witLost b true s) := by
  let u := (s.put (AX_WITST.LOST b) 1).put (AX_STAT.PML b) 1
  have only : AxisOnly b s u := .put rfl rfl (.put rfl rfl .refl)
  have lost : Off b u := (hs.put (.inl (by simp))).put (.inr (by simp))
  have off : Off b (Machine.updAlert b u) := lost.of_shared hb (updAlert_ok ..) rfl
  exact only.updAlert.trans (.runAction hb _ off)

theorem AxisOnly.witCheck (hb : b < 128) (raw : Int) (still : Bool) (hs : Off b s) : AxisOnly b s (witCheck b raw still true s) := by
  have valid : AxisOnly b s (s.put (AX_WITST.INV b) 0) := .put rfl rfl .refl
  have put (u : State) (f : Fld) (v : Nat) (e : f.addr = AX_WITST b) (h : AxisOnly b s u ∧ Off b u) :
      AxisOnly b s (u.put f v) ∧ Off b (u.put f v) := ⟨.put e rfl h.1, h.2.put (.inl (by rw [e]; simp))⟩
  have lost {u : State} (h : AxisOnly b s u ∧ Off b u) : AxisOnly b s (Machine.witLost b true u) := h.1.trans (.witLost hb h.2)
  unfold Machine.witCheck
  dsimp only
  split
  · exact .updAlert <| .put rfl rfl <| .put rfl rfl <| .put rfl rfl <| .putPair rfl rfl rfl valid
  · split
    · exact valid
    · split
      · split
        · exact lost (put _ _ _ rfl (put _ _ _ rfl (put _ _ _ rfl ⟨.refl, hs⟩)))
        · exact .put rfl rfl (.putI rfl rfl valid)
      · exact .put rfl rfl (.putI rfl rfl valid)

theorem AxisOnly.witTick (hb : b < 128) (hs : Off b s) : AxisOnly b s (witTick b s) := by
  unfold Machine.witTick
  split
  · split
    · exact .modSe .refl
    · exact .refl
  · extract_lets n now e raw u
    have noted : AxisOnly b s u := .modSe .refl
    split
    · exact AxisOnly.put (f := AX_WITST.INV b) (v := 1) rfl rfl noted
    · exact noted.trans (.witCheck hb _ _ ⟨hs.enabled, (congrArg Motion.v (State.mo_modSe ..)).trans hs.v⟩)

theorem AxisOnly.axisPublish (h : AxisOnly b s t) : AxisOnly b s (axisPublish b t) := by
  unfold Machine.axisPublish
  dsimp only
  have words : ∀ x y z v w, AxisOnly b s (((((t.putPair (AX_POS_LO b) x).putI (AX_VEL.VEL b) y).putI (AX_ACC.ACC b) z).putB
      (AX_STAT.MOVING b) v).putB (AX_STAT.OUTSIDE b) w) := fun _ _ _ _ _ =>
    .putB rfl rfl <| .putB rfl rfl <| .putI rfl rfl <| .putI rfl rfl <| .putPair rfl rfl rfl h
  split
  · exact .putI rfl rfl (words ..)
  · exact words ..

theorem AxisOnly.axisTick_off (hb : b < 128) (hs : Off b s) : AxisOnly b s (axisTick b s) := by
  unfold Machine.axisTick
  rw [hs.enabled, if_neg Bool.false_ne_true]
  split
  · exact .refl
  · exact .axisPublish (.witTick hb hs)

end

/-! ### What follows the step of a running axis, R147, R163 and R190 -/

/-- Position, velocity and acceleration of an axis. -/
def Motion.course (m : Motion) : Int × Int × Int := (m.p, m.v, m.acc)

/-- An operation on axis `b` alone that leaves its position, velocity and acceleration. -/
structure Held (b : Nat) (s t : State) : Prop where
  only : AxisOnly b s t
  course : (t.mo b).course = (s.mo b).course

section
variable {b k v : Nat} {f : Fld} {s t u : State}

namespace Held

theorem refl : Held b s s := ⟨.refl, rfl⟩

theorem trans (h : Held b s t) (h' : Held b t u) : Held b s u := ⟨h.only.trans h'.only, h'.course.trans h.course⟩

theorem put (e : f.addr = k + 0x200 * b) (hk : axisOffset k = true) (h : Held b s t) : Held b s (t.put f v) := ⟨h.only.put e hk, h.course⟩

theorem putB {x : Bool} (e : f.addr = k + 0x200 * b) (hk : axisOffset k = true) (h : Held b s t) : Held b s (t.putB f x) := h.put e hk

theorem modMo {g : Motion → Motion} (hg : ∀ m, (g m).course = m.course) (h : Held b s t) : Held b s (t.modMo b g) :=
  ⟨h.only.modMo, (congrArg Motion.course (State.mo_modMo ..)).trans ((hg _).trans h.course)⟩

theorem modSe {g : Sense → Sense} (h : Held b s t) : Held b s (t.modSe b g) :=
  ⟨h.only.modSe, (congrArg Motion.course (State.mo_modSe ..)).trans h.course⟩

/-- From any state but a park in progress and its neighbours, the standstill table only notes what it enters. -/
theorem enterModeState : Held b s (enterModeState b s) := .modMo (fun _ => rfl) (.put rfl rfl .refl)

theorem standstill (h : s.get (AX_SSTAT.STATE b) = 0) : Held b s (standstill b s) := by
  have enter : modeState b s = Machine.enterModeState b s := modeState_eq (by rw [h]; decide) (by rw [h]; decide)
  unfold Machine.standstill
  dsimp only
  rw [enter, h, if_pos rfl]
  split
  · exact .refl
  · split
    · exact .modMo (fun _ => rfl) (.put rfl rfl .refl)
    · split
      · exact .enterModeState
      · split
        · exact .put rfl rfl .refl
        · exact .enterModeState

theorem sequence : Held b s (sequence b s) := by
  unfold Machine.sequence
  split
  · exact .refl
  · split
    · exact .put rfl rfl <| .put rfl rfl <| .put rfl rfl <| .modSe .refl
    · exact .put rfl rfl <| .putB rfl rfl <| .put rfl rfl <| .put rfl rfl <| .modSe .refl

theorem setInvalid {reason : Nat} (h : Held b s t) : Held b s (setInvalid b reason t) := .putB rfl rfl <| .put rfl rfl <| .put rfl rfl h

theorem applySuspend (h : Held b s t) : Held b s (applySuspend b t) := by
  unfold Machine.applySuspend
  dsimp only
  split <;> exact .modSe h

theorem axisEstimate {moving : Bool} : Held b s (axisEstimate b moving s) := by
  have steady (g : Sense → Sense) : Held b s (s.modSe b g) := .modSe .refl
  unfold Machine.axisEstimate
  extract_lets m st u w x
  have valid : Held b s w := by
    unfold w
    split
    · exact .setInvalid (steady _)
    · split
      · exact .setInvalid (steady _)
      · exact steady _
  split
  · exact .modSe (.applySuspend valid)
  · exact .applySuspend valid

/-- With no encoder selected the witness reads none, R202. -/
theorem witTick (h : s.get (AX_WITCFG.SRC b) ≠ 2) : Held b s (witTick b s) := by
  unfold Machine.witTick
  rw [if_pos h]
  split
  · exact .modSe .refl
  · exact .refl

end Held
end

/-! ### The step of an axis in velocity mode, R168 and R177 -/

/-- The words of axis `a`'s block read the same. -/
def SameWords (a : Nat) (s t : State) : Prop :=
  ∀ addr, 0x10000 + 0x200 * a ≤ addr → addr < 0x10200 + 0x200 * a → t.rd addr = s.rd addr

namespace SameWords
variable {a k hi lo : Nat} {s t : State}

theorem get (h : SameWords a s t) (hk : axisOffset k = true) :
    t.get ⟨k + 0x200 * a, hi, lo⟩ = s.get ⟨k + 0x200 * a, hi, lo⟩ :=
  congrArg (wordField · hi lo) (h (k + 0x200 * a) (by have := axisOffset_iff.mp hk; omega) (by have := axisOffset_iff.mp hk; omega))

theorem on (h : SameWords a s t) (hk : axisOffset k = true) :
    t.on ⟨k + 0x200 * a, hi, lo⟩ = s.on ⟨k + 0x200 * a, hi, lo⟩ := congrArg (fun n => decide (n ≠ 0)) (h.get hk)

end SameWords

/-- The axis runs in velocity mode: enabled, neither halted nor stopping, without limits, and no encoder is its witness. -/
structure InVelocity (a : Nat) (s : State) : Prop where
  enabled : s.enabled a = true
  halted : s.on (AX_STAT.HALTED a) = false
  stopkind : s.get (AX_STAT.STOPKIND a) = 0
  mode : s.get (AX_STAT.MODEACT a) = 2
  sstat : s.get (AX_SSTAT.STATE a) = 0
  limits : s.on (AX_LIMCFG.EN a) = false
  witness : s.get (AX_WITCFG.SRC a) ≠ 2

/-- The velocity after the next step of velocity mode. -/
def State.nextV (s : State) (a : Nat) : Int :=
  let lim : Int := Int.ofNat (s.vmax a)
  velStep (s.mo a).v (clampInt (-lim) lim (s.getI (AX_VTGT.VTGT a) * 2 ^ 24)) (s.amax a) (s.dmax a)

/-- The position after it. -/
def State.nextP (s : State) (a : Nat) : Int := (s.mo a).p + ((s.mo a).v + s.nextV a) / 2 ^ 17

section
variable {a : Nat} {s t : State}

theorem InVelocity.of_words (h : SameWords a s t) (hs : InVelocity a s) : InVelocity a t where
  enabled := (h.on (k := 0x1004C) rfl).trans hs.enabled
  halted := (h.on (k := 0x1004C) rfl).trans hs.halted
  stopkind := (h.get (k := 0x1004C) rfl).trans hs.stopkind
  mode := (h.get (k := 0x1004C) rfl).trans hs.mode
  sstat := (h.get (k := 0x10124) rfl).trans hs.sstat
  limits := (h.on (k := 0x10048) rfl).trans hs.limits
  witness := ne_of_eq_of_ne (h.get (k := 0x10198) rfl) hs.witness

theorem nextV_of_words (h : SameWords a s t) (hv : (t.mo a).v = (s.mo a).v) : t.nextV a = s.nextV a := by
  have vmax : t.vmax a = s.vmax a := congrArg (· * 2 ^ 24) (h.get (k := 0x10010) rfl)
  have amax : t.amax a = s.amax a := congrArg (· * 2 ^ 8) (h.get (k := 0x10014) rfl)
  have dmax : t.dmax a = s.dmax a := congrArg (· * 2 ^ 8) (h.get (k := 0x10018) rfl)
  have vtgt : t.getI (AX_VTGT.VTGT a) = s.getI (AX_VTGT.VTGT a) := congrArg (signed 32) (h.get (k := 0x10024) rfl)
  unfold State.nextV
  rw [vmax, amax, dmax, vtgt, hv]

theorem nextP_of_words (h : SameWords a s t) (hp : (t.mo a).p = (s.mo a).p) (hv : (t.mo a).v = (s.mo a).v) : t.nextP a = s.nextP a := by
  unfold State.nextP
  rw [nextV_of_words h hv, hp, hv]

/-- The direction of travel is noted. -/
theorem InVelocity.putDir (v : Nat) (hs : InVelocity a s) : InVelocity a (s.put (AX_SSTAT.DIR a) v) := by
  have off {f : Fld} (h : f.addr ≠ AX_SSTAT a) : (s.put (AX_SSTAT.DIR a) v).get f = s.get f := State.get_put_ne v h
  have flag {f : Fld} (h : f.addr ≠ AX_SSTAT a) : (s.put (AX_SSTAT.DIR a) v).on f = s.on f := congrArg (fun n => decide (n ≠ 0)) (off h)
  exact
    { enabled := (flag (by simp)).trans hs.enabled
      halted := (flag (by simp)).trans hs.halted
      stopkind := (off (by simp)).trans hs.stopkind
      mode := (off (by simp)).trans hs.mode
      sstat := (State.get_put_disj v (by simp) (.inl (by simp))).trans hs.sstat
      limits := (flag (by simp)).trans hs.limits
      witness := ne_of_eq_of_ne (off (by simp)) hs.witness }

/-- The motion of an axis after the step of R168. -/
def State.stepMotion (s : State) (a : Nat) : State :=
  setPV a ⟨s.nextP a, s.nextV a⟩ (s.modMo a fun m => { m with acc := 0 })

/-- Without limits a step is made as proposed, R183. -/
theorem guarded_free {x : PV} {k : State → State} (h : s.on (AX_LIMCFG.EN a) = false) : guarded a x k s = k (setPV a x s) := by
  unfold guarded
  rw [h]
  rfl

theorem modeStep_velocity (hs : InVelocity a s) :
    modeStep a (s.modMo a fun m => { m with acc := 0 }) = s.stepMotion a := by
  let u := s.modMo a fun m => { m with acc := 0 }
  have mode : u.get (AX_STAT.MODEACT a) = 2 := hs.mode
  have motion : u.mo a = { s.mo a with acc := 0 } := State.mo_modMo ..
  have v : u.nextV a = s.nextV a := nextV_of_words (fun _ _ _ => rfl) (by rw [motion])
  have step : advance (u.mo a).p (u.mo a).v (u.nextV a - (u.mo a).v) = ⟨s.nextP a, s.nextV a⟩ := by
    unfold advance
    rw [add_sub_cancel, v, motion]
    rfl
  calc modeStep a u
    _ = guarded a (advance (u.mo a).p (u.mo a).v (u.nextV a - (u.mo a).v)) id u := by
      unfold modeStep
      rw [mode]
      rfl
    _ = s.stepMotion a := by
      rw [step]
      exact guarded_free (s := u) hs.limits

/-- The axis has made the step. -/
structure Moved (a : Nat) (s t : State) : Prop where
  only : AxisOnly a s t
  course : (t.mo a).course = (s.nextP a, s.nextV a, s.nextV a - (s.mo a).v)
  velocity : InVelocity a t

theorem moved_stepMotion (hs : InVelocity a s) : Moved a s (s.stepMotion a) where
  only := .modMo (.modMo .refl)
  course := by
    unfold State.stepMotion setPV
    rw [State.mo_modMo, State.mo_modMo]
    rfl
  velocity := InVelocity.of_words (s := s) (fun _ _ _ => rfl) hs

theorem Moved.putDir {v : Nat} (h : Moved a s t) : Moved a s (t.put (AX_SSTAT.DIR a) v) :=
  ⟨h.only.put rfl rfl, h.course, h.velocity.putDir v⟩

/-- Within the range of positions the check of R188 finds nothing. -/
theorem satCheck_inRange {p0 : Int} (hhi : (s.mo a).p < posMax * 2 ^ 24) (hlo : -posMax * 2 ^ 24 ≤ (s.mo a).p) : satCheck a p0 s = s := by
  unfold posMax at hhi hlo
  unfold satCheck posMax
  dsimp only
  rw [if_neg]
  simp only [Bool.or_eq_true, Bool.and_eq_true, decide_eq_true_eq]
  omega

theorem axisMove_velocity (hs : InVelocity a s) (hhi : s.nextP a < posMax * 2 ^ 24) (hlo : -posMax * 2 ^ 24 ≤ s.nextP a) :
    Moved a s (axisMove a s) := by
  have base := moved_stepMotion hs
  unfold axisMove
  extract_lets u p0 st w m x
  have stepped : w = s.stepMotion a := by
    have stopkind : u.on (AX_STAT.STOPKIND a) = false := on_eq_false hs.stopkind
    have running : st = 0 := hs.sstat
    unfold w
    rw [stopkind, running]
    exact modeStep_velocity hs
  have moved : Moved a s x := by
    unfold x
    rw [stepped]
    split
    · exact base.putDir
    · split
      · exact base.putDir
      · exact base
  have p : (x.mo a).p = s.nextP a := congrArg Prod.fst moved.course
  rw [satCheck_inRange (p ▸ hhi) (p ▸ hlo)]
  have halted : u.on (AX_STAT.HALTED a) = false := hs.halted
  rw [halted]
  exact moved

end

/-! ### Words of one axis that a frame leaves alone, by offset -/

theorem regAddr_axis {r : RegName} (h : 0x10000 ≤ regAddr r 0 0 ∧ regAddr r 0 0 < 0x10200) (i k : Nat) :
    regAddr r i k = regAddr r 0 0 + 0x200 * i := by
  revert h
  cases r <;> simp [regAddr, CO_TEMP, WAVE, SD_CAL_OFS, SD_CAL_GAIN]
  all_goals exact fun lo hi => absurd (And.intro lo hi) (by decide)

/-- A part that holds no axis's word at offset `k` of its block: registers of GCTL, other registers of the axes, and those beyond
the axis blocks. -/
def Part.offAxis (k : Nat) : Part → Bool
  | .reg r => decide (regAddr r 0 0 < 0x10000) || decide (0x20000 ≤ regAddr r 0 0)
      || (axisOffset (regAddr r 0 0) && decide (regAddr r 0 0 ≠ k))
  | .regs => false
  | _ => true

theorem Frame.rd_axis {W : List Part} {s t : State} (h : Frame W s t) {a k : Nat} (ha : a < 128) (hk : axisOffset k = true)
    (hw : W.all (Part.offAxis k) = true) : t.rd (k + 0x200 * a) = s.rd (k + 0x200 * a) := by
  have off {p : Part} (hp : p ∈ W) : p.offAxis k = true := List.all_eq_true.mp hw p hp
  have block := axisOffset_iff.mp hk
  refine h.rd (fun hr => absurd (off hr) (by simp [Part.offAxis])) fun r hr hat => ?_
  obtain ⟨i, j, e⟩ := hat
  have ho := off hr
  simp only [Part.offAxis, Bool.or_eq_true, Bool.and_eq_true, decide_eq_true_eq, axisOffset_iff] at ho
  rcases ho with (gctl | above) | ⟨other, ne⟩
  · rw [regAddr_gctl gctl] at e
    omega
  · have := regAddr_zero_le r i j
    omega
  · rw [regAddr_axis other] at e
    omega

/-! ### The tick of an axis in velocity mode, R166 -/

/-- The axis stands at `p` and moves at `v`, the last step changed its velocity by `acc`, and AX_POS shows the position. -/
structure Stands (a : Nat) (p v acc : Int) (t : State) : Prop where
  course : (t.mo a).course = (p, v, acc)
  pos : t.pair (AX_POS_LO a) = p / 2 ^ 24

section
variable {a : Nat} {p v acc : Int} {s t : State}

/-- What shows the position and the motion. -/
structure Coasts (a : Nat) (s t : State) : Prop where
  course : (t.mo a).course = (s.mo a).course
  lo : t.rd (AX_POS_LO a) = s.rd (AX_POS_LO a)
  hi : t.rd (AX_POS_LO a + 4) = s.rd (AX_POS_LO a + 4)

theorem Coasts.stands (h : Coasts a s t) (hs : Stands a p v acc s) : Stands a p v acc t := by
  refine ⟨h.course.trans hs.course, ?_⟩
  rw [← hs.pos, State.pair, h.lo, h.hi]
  rfl

theorem axPosHi_eq (a : Nat) : AX_POS_LO a + 4 = 0x1002C + 0x200 * a := Nat.add_right_comm ..

theorem Coasts.of_sameAxis (h : SameAxis a s t) : Coasts a s t := by
  refine ⟨congrArg Motion.course h.2, h.1 (0x10028 + 0x200 * a) (by omega) (by omega), ?_⟩
  rw [axPosHi_eq]
  exact h.1 _ (by omega) (by omega)

/-- Parts that hold neither word of AX_POS. -/
def offPos (W : List Part) : Bool := W.all (Part.offAxis 0x10028) && W.all (Part.offAxis 0x1002C)

theorem Coasts.of_frame {W : List Part} (ha : a < 128) (h : Frame W s t) (hw : offPos W = true)
    (hc : (t.mo a).course = (s.mo a).course) : Coasts a s t := by
  obtain ⟨hlo, hhi⟩ := (Bool.and_eq_true _ _).mp hw
  refine ⟨hc, h.rd_axis (k := 0x10028) ha rfl hlo, ?_⟩
  rw [axPosHi_eq]
  exact h.rd_axis ha rfl hhi

/-- The position is shown as it is. -/
theorem stands_axisPublish (hc : (s.mo a).course = (p, v, acc)) (hhi : p < posMax * 2 ^ 24) (hlo : -posMax * 2 ^ 24 ≤ p) :
    Stands a p v acc (axisPublish a s) := by
  unfold posMax at hhi hlo
  have at_p : (s.mo a).p = p := congrArg Prod.fst hc
  have put {u : State} (f : Fld) (x : Nat) (hf : f.addr ≠ 0x10028 + 0x200 * a ∧ f.addr ≠ 0x1002C + 0x200 * a) (h : Stands a p v acc u) :
      Stands a p v acc (u.put f x) :=
    Coasts.stands (s := u) ⟨rfl, State.rd_put_ne x hf.1.symm, State.rd_put_ne x (axPosHi_eq a ▸ hf.2.symm)⟩ h
  unfold axisPublish
  extract_lets m q s1 s2 s3 outside s4
  have hq : q = p / 2 ^ 24 := congrArg (· / 2 ^ 24) at_p
  have shown : Stands a p v acc s1 := ⟨hc, (pair_putPair (by omega) (by omega) s).trans hq⟩
  have live : Stands a p v acc s4 := put (AX_STAT.OUTSIDE a) _ (by simp) <| put (AX_STAT.MOVING a) _ (by simp) <|
    put (AX_ACC.ACC a) _ (by simp) <| put (AX_VEL.VEL a) _ (by simp) shown
  split
  · exact put (AX_FLWERR.ERR a) _ (by simp) live
  · exact live

theorem axisTick_velocity (ha : a < 128) (hs : InVelocity a s) (hhi : s.nextP a < posMax * 2 ^ 24) (hlo : -posMax * 2 ^ 24 ≤ s.nextP a) :
    AxisOnly a s (axisTick a s) ∧ Stands a (s.nextP a) (s.nextV a) (s.nextV a - (s.mo a).v) (axisTick a s) := by
  let u := axisMove a s
  let moving := (s.mo a).moving
  obtain ⟨only, course, velocity⟩ := axisMove_velocity hs hhi hlo
  let t1 := standstill a u
  let t2 := sequence a t1
  let t3 := axisEstimate a moving t2
  let t4 := witTick a t3
  let t5 := t4.modMo a fun m => { m with
    still := t4.atStandstill a
    stillAt := if t4.atStandstill a then some (m.stillAt.getD t4.ticks) else none }
  have witness : t3.rd (AX_WITCFG a) = u.rd (AX_WITCFG a) :=
    ((axisEstimate_ok ..).1.rd_axis (k := 0x10198) ha rfl rfl).trans <|
      ((sequence_ok ..).1.rd_axis (k := 0x10198) ha rfl rfl).trans ((standstill_ok ..).1.rd_axis (k := 0x10198) ha rfl rfl)
  have source : t3.get (AX_WITCFG.SRC a) ≠ 2 := ne_of_eq_of_ne (congrArg (wordField · _ _) witness) velocity.witness
  have held : Held a u t5 := .modMo (fun _ => rfl) <|
    (Held.standstill velocity.sstat).trans <| Held.sequence.trans <| Held.axisEstimate.trans (.witTick source)
  have last : axisTick a s = axisPublish a t5 := by
    unfold axisTick
    rw [hs.enabled]
    dsimp only
    rw [if_pos rfl, velocity.enabled]
    rfl
  rw [last]
  exact ⟨.axisPublish (only.trans held.only), stands_axisPublish (held.course.trans course) hhi hlo⟩

end

/-! ### The commands and actions of an axis that waits for nothing, R166 -/

/-- No command, request, order or action waits for the axis's next tick. -/
structure Motion.Quiet (m : Motion) : Prop where
  enPend : m.enPend = false
  disNext : m.disNext = false
  syncHit : m.syncHit = false
  waitHit : m.waitHit = false
  reqs : m.reqs = []
  orderH : m.orderH = false
  orderQ : m.orderQ = false
  stallAct : m.stallAct = none
  witAct : m.witAct = none

section
variable {a b : Nat} {s : State}

theorem axisActions_quiet (hs : (s.mo a).stallAct = none) (hw : (s.mo a).witAct = none) : axisActions a s = s := by
  unfold axisActions
  dsimp only
  rw [hs, hw]

theorem landEnable_quiet (h : (s.mo a).enPend = false) : landEnable a s = s := by
  unfold landEnable
  rw [h]
  rfl

theorem syncAxis_quiet (hs : (s.mo a).syncHit = false) (hw : (s.mo a).waitHit = false) :
    syncAxis a s = s.modMo a fun m => { m with syncHit := false, waitHit := false } := by
  unfold syncAxis
  dsimp only
  rw [hs, hw]
  rfl

/-- The axis's flags of requests taken are cleared. -/
def State.heard (a : Nat) (s : State) : State :=
  ((s.modMo a fun m => { m with reqs := [], asked := false, said := false }).modMo a fun m =>
    { m with syncHit := false, waitHit := false }).modMo a fun m => { m with orderH := false, orderQ := false }

theorem axisCommands_quiet (h : (s.mo a).Quiet) (hne : s.mo a ≠ {}) : axisCommands a s = s.heard a := by
  unfold axisCommands
  rw [if_neg hne]
  extract_lets s1 s2 s3 s4 s5 s6 s7
  have mo1 : s1.mo a = { s.mo a with reqs := [], asked := false, said := false } := State.mo_modMo ..
  have e2 : s2 = s1 := landEnable_quiet (by rw [mo1]; exact h.enPend)
  have e3 : s3 = s1 := by
    unfold s3
    rw [h.disNext, e2]
    rfl
  have e4 : s4 = s1.modMo a fun m => { m with syncHit := false, waitHit := false } := by
    unfold s4
    rw [e3]
    exact syncAxis_quiet (by rw [mo1]; exact h.syncHit) (by rw [mo1]; exact h.waitHit)
  have mo4 : (s4.mo a).orderH = false ∧ (s4.mo a).orderQ = false := by
    rw [e4, State.mo_modMo, mo1]
    exact ⟨h.orderH, h.orderQ⟩
  have e5 : s5 = s4 := by
    unfold s5
    rw [h.reqs]
    rfl
  have e6 : s6 = s4 := by
    unfold s6
    rw [e5, mo4.1]
    rfl
  have e7 : s7 = s4 := by
    unfold s7
    rw [e6, mo4.2]
    rfl
  rw [e7, e4]
  rfl

/-- What an axis that waits for nothing does before the step: no word changes, and its position and velocity stay. -/
structure Waits (a : Nat) (s t : State) : Prop where
  only : AxisOnly a s t
  regs : t.regs = s.regs
  course : (t.mo a).course = (s.mo a).course

theorem commands_quiet (h : (s.mo a).Quiet) : Waits a s (axisActions a (axisCommands a s)) := by
  by_cases e : s.mo a = {}
  · have none : axisCommands a s = s := if_pos e
    rw [none, axisActions_quiet h.stallAct h.witAct]
    exact ⟨.refl, rfl, rfl⟩
  · have heard : (s.heard a).mo a =
        { s.mo a with reqs := [], asked := false, said := false, syncHit := false, waitHit := false, orderH := false, orderQ := false } := by
      unfold State.heard
      simp only [State.mo_modMo]
    rw [axisCommands_quiet h e, axisActions_quiet (by rw [heard]; exact h.stallAct) (by rw [heard]; exact h.witAct)]
    exact ⟨.modMo (.modMo (.modMo .refl)), rfl, by rw [heard]; rfl⟩

/-- An axis with nothing noted does nothing before the step. -/
theorem commands_idle (h : s.mo b = {}) : axisActions b (axisCommands b s) = s := by
  have none : axisCommands b s = s := if_pos h
  rw [none, axisActions_quiet (by rw [h]) (by rw [h])]

/-! ### Every axis in turn -/

/-- Of different things in turn, one that is reached in a known state. -/
theorem forEach_at {α : Type} {f : α → State → State} {l₁ l₂ : List α} {x : α} :
    forEach (l₁ ++ x :: l₂) f s = forEach l₂ f (f x (forEach l₁ f s)) := List.foldl_append

theorem axes_split (ha : a < 128) : ∃ l₁ l₂, allAxes = l₁ ++ a :: l₂ ∧ (∀ b ∈ l₁ ++ l₂, b < 128 ∧ b ≠ a) ∧ l₁.Nodup ∧ l₂.Nodup
    ∧ ∀ b ∈ l₂, b ∉ l₁ := by
  obtain ⟨l₁, l₂, e⟩ := List.append_of_mem (List.mem_range.mpr ha)
  have nodup : (l₁ ++ a :: l₂).Nodup := e ▸ List.nodup_range
  obtain ⟨first, second, apart⟩ := List.nodup_append.mp nodup
  obtain ⟨later, second⟩ := List.nodup_cons.mp second
  refine ⟨l₁, l₂, e, fun b hb => ?_, first, second, fun b hb hb' => apart b hb' b (List.mem_cons_of_mem _ hb) rfl⟩
  rcases List.mem_append.mp hb with h | h
  · exact ⟨List.mem_range.mp (e ▸ List.mem_append_left _ h), apart b h a (List.mem_cons_self ..)⟩
  · exact ⟨List.mem_range.mp (e ▸ List.mem_append_right _ (List.mem_cons_of_mem _ h)), fun hba => later (hba ▸ h)⟩

/-- Axes that are off leave the other axes alone. -/
theorem axisTicks_off {l : List Nat} (hd : l.Nodup) (hl : ∀ b ∈ l, b < 128 ∧ Off b s) {c : Nat} (hc : c < 128) (hm : c ∉ l) :
    SameAxis c s (forEach l axisTick s) := by
  induction l generalizing s with
  | nil => exact .refl
  | cons b l ih =>
    obtain ⟨hb, off⟩ := hl b (List.mem_cons_self ..)
    obtain ⟨hbl, hd⟩ := List.nodup_cons.mp hd
    have only : AxisOnly b s (axisTick b s) := .axisTick_off hb off
    refine (SameAxis.of_axisOnly hc (List.ne_of_not_mem_cons hm) only).trans (ih hd (fun d hd' => ?_) (List.not_mem_of_not_mem_cons hm))
    obtain ⟨hd128, off'⟩ := hl d (List.mem_cons_of_mem _ hd')
    exact ⟨hd128, off'.of_sameAxis (.of_axisOnly hd128 (ne_of_mem_of_not_mem hd' hbl) only)⟩

/-- With the other axes off, axis `a` has its tick as it was, and is left as that tick leaves it. -/
theorem axisTicks_one (ha : a < 128) (hoff : ∀ b < 128, b ≠ a → Off b s) (hself : ∀ u, SameAxis a s u → AxisOnly a u (axisTick a u)) :
    ∃ u, SameAxis a s u ∧ SameAxis a (axisTick a u) (forEach allAxes axisTick s) := by
  obtain ⟨l₁, l₂, e, others, nodup₁, nodup₂, apart⟩ := axes_split ha
  have off₁ (b : Nat) (hb : b ∈ l₁) : b < 128 ∧ b ≠ a := others b (List.mem_append_left _ hb)
  have off₂ (b : Nat) (hb : b ∈ l₂) : b < 128 ∧ b ≠ a := others b (List.mem_append_right _ hb)
  rw [e, forEach_at]
  let u := forEach l₁ axisTick s
  have before {c : Nat} (hc : c < 128) (hm : c ∉ l₁) : SameAxis c s u :=
    axisTicks_off nodup₁ (fun b hb => ⟨(off₁ b hb).1, hoff b (off₁ b hb).1 (off₁ b hb).2⟩) hc hm
  have reached : SameAxis a s u := before ha fun hm => (off₁ a hm).2 rfl
  refine ⟨u, reached, axisTicks_off nodup₂ (fun b hb => ?_) ha fun hm => (off₂ a hm).2 rfl⟩
  obtain ⟨hb128, hba⟩ := off₂ b hb
  have untouched : SameAxis b s u := before hb128 (apart b hb)
  exact ⟨hb128, (hoff b hb128 hba).of_sameAxis (untouched.trans (.of_axisOnly hb128 hba (hself u reached)))⟩

/-- With nothing noted for the other axes, only axis `a` acts before the step. -/
theorem commands_one (ha : a < 128) (h : (s.mo a).Quiet) (hidle : ∀ b < 128, b ≠ a → s.mo b = {}) :
    forEach allAxes (fun b u => axisActions b (axisCommands b u)) s = axisActions a (axisCommands a s) := by
  obtain ⟨l₁, l₂, e, others, -⟩ := axes_split ha
  have only := (commands_quiet h).only
  rw [e, forEach_at]
  have before : forEach l₁ (fun b u => axisActions b (axisCommands b u)) s = s :=
    forEach_keeps (P := (· = s)) (fun b hb u hu => by
      obtain ⟨hb128, hba⟩ := others b (List.mem_append_left _ hb)
      rw [hu]
      exact commands_idle (hidle b hb128 hba)) rfl
  rw [before]
  refine forEach_keeps (P := (· = axisActions a (axisCommands a s))) (fun b hb u hu => ?_) rfl
  obtain ⟨hb128, hba⟩ := others b (List.mem_append_right _ hb)
  rw [hu]
  exact commands_idle ((only.2 b hba).trans (hidle b hb128 hba))

end

/-! ### The admission gate and the rest of the tick leave the motion of every axis, R221 -/

/-- Position, velocity and acceleration of axis `a` are the same. -/
structure SameCourse (a : Nat) (s t : State) : Prop where
  eq : (t.mo a).course = (s.mo a).course

section
variable {a : Nat} {s t u : State}

namespace SameCourse

theorem refl : SameCourse a s s := ⟨rfl⟩

theorem trans (h : SameCourse a s t) (h' : SameCourse a t u) : SameCourse a s u := ⟨h'.eq.trans h.eq⟩

theorem of_frame {W : List Part} (h : Frame W s t) (hw : .axes ∉ W) : SameCourse a s t := ⟨congrArg Motion.course (h.mo hw a)⟩

theorem modMo (b : Nat) {f : Motion → Motion} (hf : ∀ m, (f m).course = m.course) : SameCourse a s (s.modMo b f) := by
  constructor
  by_cases e : a = b
  · rw [e, State.mo_modMo, hf]
  · rw [State.mo_modMo_ne f e]

theorem put (f : Fld) (v : Nat) (h : SameCourse a s t) : SameCourse a s (t.put f v) := ⟨h.eq⟩

theorem modPl (f : Planner → Planner) (h : SameCourse a s t) : SameCourse a s (t.modPl f) := ⟨h.eq⟩

theorem ite {c : Prop} [Decidable c] (h : SameCourse a s t) (h' : SameCourse a s u) : SameCourse a s (if c then t else u) := by
  split <;> assumption

theorem forEach {α : Type} {l : List α} {f : α → State → State} (h : ∀ x u, SameCourse a u (f x u)) :
    SameCourse a s (forEach l f s) :=
  forEach_keeps (P := SameCourse a s) (fun x _ u hu => hu.trans (h x u)) .refl

theorem endEntry (e st reason : Nat) : SameCourse a s (endEntry e st reason s) := .of_frame (endEntry_ok ..).1 (by decide)

theorem letIn (e : Nat) : SameCourse a s (letIn e s) := by
  unfold Machine.letIn
  extract_lets b mode s1 s2 x mask s3 s4
  have first : SameCourse a s s1 := ⟨rfl⟩
  have target : SameCourse a s s2 := .ite ⟨rfl⟩ first
  have chain : SameCourse a s s3 := .ite ⟨target.eq⟩ target
  split
  · exact chain.trans (.trans (.of_frame (ignoreStart_ok ..).1 (by decide)) (.endEntry ..))
  · exact chain.trans (.endEntry ..)
  · exact .trans (.put _ _ (.put _ _ chain)) (.modMo b fun _ => rfl)

theorem gateEntry (before : List Nat) (e : Nat) (m : Room) : SameCourse a s (gateEntry before e m s).2 := by
  unfold Machine.gateEntry
  extract_lets b c passed
  have passes : SameCourse a s passed := .forEach fun y u => .ite ⟨rfl⟩ .refl
  split
  · exact .refl
  · split
    · exact .endEntry e 4 0
    · split
      · exact .refl
      · split
        · exact passes.trans (.letIn e)
        · split
          · exact .put (PL_RES.HOLDER e) 1 .refl
          · exact .refl

theorem gateScan (l before : List Nat) (m : Room) : SameCourse a s (gateScan l before m s).2 := by
  induction l generalizing before m s with
  | nil => exact .refl
  | cons e l ih => exact (gateEntry before e m).trans (ih ..)

theorem gateTick : SameCourse a s (gateTick s) := by
  unfold Machine.gateTick
  extract_lets s1 m ovr newly s2 s3 order
  have opened : SameCourse a s s3 := by
    refine .put _ _ (.modPl _ ?_)
    exact .trans (.of_frame (gateLearn_ok ..).1 (by decide)) (.forEach fun b _ => .of_frame (pendSrc_ok ..).1 (by decide))
  have scanned : SameCourse a s (if s3.plState = 4 && s3.admissionOpen then Machine.gateScan order [] m s3 else (m, s3)).2 := by
    split
    · exact opened.trans (.gateScan ..)
    · exact opened
  split
  rename_i m s4 e
  rw [e] at scanned
  extract_lets s5 s6 s7
  have waiting : SameCourse a s s5 := .ite (scanned.trans (.of_frame (gateWaiting_ok ..).1 (by decide))) scanned
  have ended : SameCourse a s s6 := waiting.trans (.of_frame (gateEnd_ok ..).1 (by decide))
  have published : SameCourse a s s7 := ended.trans (.of_frame (gatePublish_ok ..).1 (by decide))
  exact .ite (.modPl _ published) published

theorem notePositions : SameCourse a s (notePositions s) := .forEach fun b _ => .modMo b fun _ => rfl

theorem safeParks : SameCourse a s (safeParks s) :=
  .ite (.forEach fun b _ => .ite (.modMo b fun _ => rfl) .refl) .refl

theorem forcedTick (c : Nat) : SameCourse a s (forcedTick c s) := by
  unfold Machine.forcedTick
  split
  · exact .refl
  · split
    · split
      · extract_lets s1
        have parked : SameCourse a s s1 := .forEach fun b _ => .modMo b fun _ => rfl
        exact ⟨parked.eq⟩
      · exact .refl
    · exact .ite ⟨rfl⟩ .refl

end SameCourse

end

/-! ### A tick while nothing but the axes acts, R166 -/

section
variable {a : Nat} {i : TickIn} {p v acc : Int} {s t : State}

/-- What the rest of a tick changes while nothing waits for it. -/
def restParts : List Part := .snap :: .axes :: tpdoParts

theorem netSweep_idle (h : s.net.Idle) : Frame [.net] s (netSweep s) := by
  unfold netSweep
  split
  · exact .refl
  · simp only [h.done, h.ctxs, State.modNet, List.foldl_nil]
    exact modNet_frame fun n => { n with done := [], ctxs := [] }

theorem tickRest_quiet (hs : Sound s) (hn : s.net.Idle) (he : s.power.entering = 0) (hp : portIdle s) :
    Frame restParts s (tickRest s) ∧ ∀ a, SameCourse a s (tickRest s) := by
  let s1 := tickSnap (notePositions s)
  let s2 := tpdoTick s1
  let s3 := forEach (List.range 4) forcedTick (safeParks s2)
  have noted : Frame [.snap, .axes] s s1 := ((notePositions_ok s).1.mono rfl).trans ((tickSnap_ok ..).1.mono rfl)
  have sound1 : Sound s1 := hs.of_frame noted (by decide) (by decide) (by decide)
  have f2 : Frame tpdoParts s1 s2 := tpdoTick_sends.frame sound1
  have idle2 : s2.net.Idle := tpdoTick_sends.idle sound1 (noted.1 .net (by decide) ▸ hn)
  have parks : Frame [.coaches, .axes] s2 s3 :=
    (Ok.forEach forcedTick_ok ((safeParks_ok s2).mono (W' := [.coaches, .axes]) rfl)).1
  have f3 : Frame restParts s s3 := (noted.mono rfl).trans ((f2.mono rfl).trans (parks.mono rfl))
  have awake : sleepStep s3 = s3 := if_pos ((congrArg Power.entering (f3.1 .power (by decide))).trans he)
  have idle3 : s3.net.Idle := parks.1 .net (by decide) ▸ idle2
  have swept : Frame [.net] s3 (netSweep s3) := netSweep_idle idle3
  have f4 : Frame restParts s (netSweep s3) := f3.trans (swept.mono rfl)
  have last : tickRest s = netSweep s3 := by
    show hostPoll (netSweep (sleepStep s3)) = netSweep s3
    rw [awake, hostPoll_idle (portIdle_of_sph hp (f4.1 .sph (by decide)))]
  have course (a : Nat) : SameCourse a s s3 := by
    have noted : SameCourse a s s1 := SameCourse.notePositions.trans (.of_frame (tickSnap_ok ..).1 (by decide))
    exact noted.trans <| .trans (.of_frame f2 (by decide)) <| SameCourse.safeParks.trans (.forEach fun c _ => .forcedTick c)
  rw [last]
  exact ⟨f4, fun a => (course a).trans (.of_frame swept (by decide))⟩

/-- The commands and actions of every axis. -/
def tickCommands (s : State) : State := forEach allAxes (fun a u => axisActions a (axisCommands a u)) s

theorem tickAxes_eq (h : s.pl.abort = none) :
    tickAxes s = gateTick (tickFeedback (tickWave (forEach allAxes axisTick (tickCommands s)))) := by
  have none : abortTick s = s := by
    unfold abortTick
    rw [h]
  unfold tickAxes
  rw [none]
  rfl

theorem sound_axisTicks (h : Sound s) : Sound (forEach allAxes axisTick (tickCommands s)) := by
  have commands : Sound (tickCommands s) := forEach_keeps (P := Sound) (fun b _ u hu => by
    have heard := hu.of_frame (axisCommands_ok b u).1 (by decide) (by decide) (by decide)
    exact heard.of_frame (axisActions_ok ..).1 (by decide) (by decide) (by decide)) h
  exact forEach_keeps (P := Sound) (fun b _ u hu => hu.of_frame (axisTick_ok b u).1 (by decide) (by decide) (by decide)) commands

theorem tickWave_sound (h : Sound s) : tickWave s = s := by
  unfold tickWave
  rw [h.1]
  rfl

theorem sound_tickAxes (ha : s.pl.abort = none) (h : Sound s) : Sound (tickAxes s) := by
  have ticks := sound_axisTicks h
  rw [tickAxes_eq ha, tickWave_sound ticks]
  have feedback := ticks.of_frame (tickFeedback_ok ..).1 (by decide) (by decide) (by decide)
  exact feedback.of_frame (gateTick_ok ..).1 (by decide) (by decide) (by decide)

theorem napping_of_fabricOn (h : s.fabricOn = true) : napping s = false := by
  unfold State.fabricOn at h
  unfold napping
  simp only [Bool.and_eq_true, decide_eq_true_eq] at h
  rw [decide_eq_false (by omega)]
  rfl

theorem planActive_begun (h : Begun i s t) : t.planActive = s.planActive := by
  have state : t.plState = s.plState := by
    refine h.frame.get (by decide) fun r hr hat => ?_
    obtain ⟨j, k, e⟩ := hat
    have e : PL_STAT = regAddr r j k := e
    simp only [beginParts, List.mem_cons, Part.reg.injEq, reduceCtorEq, List.not_mem_nil, false_or, or_false] at hr
    rcases hr with rfl | rfl | rfl | rfl | rfl
    all_goals
      simp only [regAddr, PL_STAT, GCTL_RTC_HI, GCTL_RTC_LO, AFE_STAT, NET_STAT, NET_CNT] at e
      omega
  unfold State.planActive
  rw [state]

theorem napping_begun (h : Begun i s t) : napping t = napping s := by
  have state : t.runState = s.runState := h.frame.get_of (by decide)
  unfold napping
  rw [state, h.power]

/-- A tick while nothing but the axes acts: how it begins, and what the rest of it leaves of what the axes did. -/
structure QuietSteps (i : TickIn) (s : State) : Prop where
  begun : Begun i s (tickBegin i s)
  sound : Sound (tickBegin i s)
  rest : Frame restParts (tickAxes (tickBegin i s)) (profileTick i s)
  course : ∀ a, SameCourse a (tickAxes (tickBegin i s)) (profileTick i s)

theorem quietSteps (h : s.fabricOn = true) (hq : quietTick s) : QuietSteps i s := by
  have begun := begun_tickBegin (i := i) hq
  obtain ⟨port, entering, -, -, -, -, -, bad, plan, abort, -, -, -⟩ := hq
  let u := tickBegin i s
  have inactive : u.planActive = false := (planActive_begun begun).trans plan
  have eq : profileTick i s = tickRest (tickAxes u) := by
    rw [profileTick_eq h]
    show tickRest (tickTrigger u.planActive (tickAxes u)) = _
    rw [inactive]
    rfl
  have bad' : u.bad = [] := (begun.frame.1 .bad (by decide)).trans bad
  have awake : napping u = false := (napping_begun begun).trans (napping_of_fabricOn h)
  have abort' : u.pl.abort = none := by rw [begun.frame.1 .pl (by decide)]; exact abort
  have axes := (tickAxes_ok u).1
  have sound : Sound u := ⟨bad', awake⟩
  have quiet : Frame restParts (tickAxes u) (tickRest (tickAxes u)) ∧ ∀ a, SameCourse a (tickAxes u) (tickRest (tickAxes u)) := by
    refine tickRest_quiet (sound_tickAxes abort' sound) ?_ ?_ ?_
    · rw [axes.1 .net (by decide)]
      exact begun.idle
    · rw [axes.1 .power (by decide), begun.power]
      exact entering
    · exact portIdle_of_sph port ((axes.1 .sph (by decide)).trans (begun.frame.1 .sph (by decide)))
  rw [← eq] at quiet
  exact ⟨begun, sound, quiet.1, quiet.2⟩

theorem does_profileTick (h : s.fabricOn = true) (hq : quietTick s) :
    Does (.profileTick i) s fun t => t.ticks = s.ticks + 1 ∧ t.power.wakeAct = i.wake.toNat := by
  obtain ⟨begun, -, rest, -⟩ := quietSteps (i := i) h hq
  have axes := (tickAxes_ok (tickBegin i s)).1
  refine ⟨_, rfl, ?_, ?_⟩
  · rw [rest.1 .ticks (by decide), axes.1 .ticks (by decide)]
    exact begun.ticks
  · rw [rest.1 .power (by decide), axes.1 .power (by decide), begun.power]

/-! ### Velocity mode at a tick, R168 and R177 -/

theorem sameAxis_begun (ha : a < 128) (h : Begun i s t) : SameAxis a s t :=
  ⟨fun _ hl hu => h.frame.rd_range (lo := 0x10000) (hi := 0x20000) (by decide) (by omega), h.frame.mo (by decide) a⟩

theorem coasts_tickFeedback (ha : a < 128) : Coasts a s (tickFeedback s) := by
  have frame := (tickFeedback_ok s).1
  exact .of_frame ha frame (by decide) (congrArg Motion.course (frame.mo (by decide) a))

theorem coasts_gateTick (ha : a < 128) : Coasts a s (gateTick s) := .of_frame ha (gateTick_ok s).1 (by decide) SameCourse.gateTick.eq

/-- The axis makes the step of velocity mode at the axes' part of a tick. -/
theorem stands_tickAxes (ha : a < 128) (hsound : Sound s) (habort : s.pl.abort = none) (hv : InVelocity a s) (hq : (s.mo a).Quiet)
    (hidle : ∀ b < 128, b ≠ a → s.mo b = {} ∧ s.enabled b = false)
    (hhi : s.nextP a < posMax * 2 ^ 24) (hlo : -posMax * 2 ^ 24 ≤ s.nextP a) :
    Stands a (s.nextP a) (s.nextV a) (s.nextV a - (s.mo a).v) (tickAxes s) := by
  have commands : tickCommands s = axisActions a (axisCommands a s) := commands_one ha hq fun b hb hba => (hidle b hb hba).1
  obtain ⟨only, regs, course⟩ := commands_quiet hq
  rw [← commands] at only regs course
  have words (u : State) (h : SameAxis a (tickCommands s) u) : SameWords a s u := fun addr hl hu =>
    (h.1 addr hl hu).trans (congrArg (Sparse.get resetWord · addr) regs)
  have off (b : Nat) (hb : b < 128) (hba : b ≠ a) : Off b (tickCommands s) := by
    obtain ⟨rest, disabled⟩ := hidle b hb hba
    exact Off.of_sameAxis (.of_axisOnly hb hba only) ⟨disabled, by rw [rest]⟩
  have step (u : State) (h : SameAxis a (tickCommands s) u) :
      AxisOnly a u (axisTick a u) ∧ Stands a (s.nextP a) (s.nextV a) (s.nextV a - (s.mo a).v) (axisTick a u) := by
    have same : (u.mo a).course = (s.mo a).course := (congrArg Motion.course h.2).trans course
    have at_p : (u.mo a).p = (s.mo a).p := congrArg Prod.fst same
    have at_v : (u.mo a).v = (s.mo a).v := congrArg (·.2.1) same
    have nextP := nextP_of_words (words u h) at_p at_v
    have nextV := nextV_of_words (words u h) at_v
    have tick := axisTick_velocity ha (hv.of_words (words u h)) (nextP ▸ hhi) (nextP ▸ hlo)
    rwa [nextP, nextV, at_v] at tick
  obtain ⟨u, reached, last⟩ := axisTicks_one ha off fun u h => (step u h).1
  rw [tickAxes_eq habort, tickWave_sound (sound_axisTicks hsound)]
  exact (coasts_gateTick ha).stands <| (coasts_tickFeedback ha).stands <| (Coasts.of_sameAxis last).stands (step u reached).2

/-- A tick is a step of velocity mode for the one axis that runs. -/
theorem stands_profileTick (ha : a < 128) (hon : s.fabricOn = true) (hquiet : quietTick s) (hv : InVelocity a s) (hq : (s.mo a).Quiet)
    (hidle : ∀ b < 128, b ≠ a → s.mo b = {} ∧ s.enabled b = false)
    (hhi : s.nextP a < posMax * 2 ^ 24) (hlo : -posMax * 2 ^ 24 ≤ s.nextP a) :
    Stands a (s.nextP a) (s.nextV a) (s.nextV a - (s.mo a).v) (profileTick i s) := by
  obtain ⟨begun, sound, rest, course⟩ := quietSteps (i := i) hon hquiet
  have same {b : Nat} (hb : b < 128) : SameAxis b s (tickBegin i s) := sameAxis_begun hb begun
  obtain ⟨words, mo⟩ := same ha
  have nextV := nextV_of_words words (by rw [mo])
  have nextP := nextP_of_words words (by rw [mo]) (by rw [mo])
  have abort : (tickBegin i s).pl.abort = none := by
    obtain ⟨-, -, -, -, -, -, -, -, -, abort, -⟩ := hquiet
    rw [begun.frame.1 .pl (by decide)]
    exact abort
  have stepped := stands_tickAxes ha sound abort (hv.of_words words) (mo ▸ hq)
    (fun b hb hba => ⟨(same hb).2.trans (hidle b hb hba).1, (same hb).enabled.trans (hidle b hb hba).2⟩) (nextP ▸ hhi) (nextP ▸ hlo)
  rw [nextP, nextV, mo] at stepped
  exact (Coasts.of_frame ha rest (by decide) (course a).eq).stands stepped

end

/-- Settles O21: what comes before and after the axes leaves the one that runs alone, and its tick is the step of velocity mode. -/
theorem profileTickCompletes : Obligations.ProfileTickCompletes := by
  unfold Obligations.ProfileTickCompletes
  intro s i hon hquiet
  refine ⟨does_profileTick hon hquiet, ?_⟩
  intro a others enabled halted stopkind mode sstat limits witness enPend disNext syncHit waitHit reqs orderH orderQ stallAct witAct
    m lim v p hhi hlo
  have idle (b : Nat) (hb : b < 128) (hba : b ≠ a) : s.mo b = {} ∧ s.enabled b = false := by
    obtain ⟨rest, disabled, -⟩ := others ⟨b, hb⟩ (Fin.ne_of_val_ne hba)
    exact ⟨congrArg Axis.mo rest, disabled⟩
  obtain ⟨course, pos⟩ := stands_profileTick (i := i) a.isLt hon hquiet ⟨enabled, halted, stopkind, mode, sstat, limits, witness⟩
    ⟨enPend, disNext, syncHit, waitHit, reqs, orderH, orderQ, stallAct, witAct⟩ idle hhi hlo
  exact ⟨_, rfl, congrArg (·.2.1) course, congrArg Prod.fst course, congrArg (·.2.2) course, pos⟩

end Sys2Proof.Machine

namespace Sys2Proof.Machine

theorem Frame.se {W : List Part} {s t : State} (h : Frame W s t) (hw : .axes ∉ W) (a : Nat) : t.se a = s.se a :=
  congrArg (fun x => (Sparse.get (fun _ => {}) x a : Axis).se) (h.1 .axes hw)

/-! ### A load-angle evaluation, R195 and R196 -/

section
variable {a : Nat} {q : EvalReq} {e : Estimate} {k : Nat} {s : State}

/-- The window results that wait are taken out to be evaluated. -/
def State.takeEvals (s : State) (a : Nat) : State := s.modSe a fun e => { e with evals := [] }

theorem evalAxis_one (h : (s.se a).evals = [q]) : evalAxis a s = evalOne a q (s.takeEvals a) := by
  unfold evalAxis
  rw [h]
  rfl

@[simp] theorem evals_takeEvals (s : State) (a : Nat) : ((s.takeEvals a).se a).evals = [] :=
  congrArg Sense.evals (State.se_modSe ..)

@[simp] theorem evaluate_takeEvals (s : State) (a : Nat) (q : EvalReq) : (s.takeEvals a).evaluate a q = s.evaluate a q := by
  have results : ((s.takeEvals a).se a).results = (s.se a).results := by
    unfold State.takeEvals
    rw [State.se_modSe]
  unfold State.evaluate
  rw [results]
  rfl

/-- The validity codes fit their field. -/
theorem reason_lt (h : s.evaluate a q = .invalid k) : k < 8 := by
  unfold State.evaluate at h
  dsimp only at h
  split_ifs at h
  · cases h; decide
  · cases h; decide
  · cases h; decide
  · cases h; decide
  all_goals
    split at h
    · cases h; decide
    · split at h <;> cases h
      decide

/-- A window with no zero crossing, or clipped, has no valid estimate. -/
theorem sampled_of_valid (h : s.evaluate a q = .valid e) : (q.noZero || q.clip) = false := by
  unfold State.evaluate at h
  dsimp only at h
  split_ifs at h with slow zero clipped
  all_goals exact Bool.or_eq_false_iff.mpr ⟨Bool.eq_false_iff.mpr zero, Bool.eq_false_iff.mpr clipped⟩

/-! ### The result kept for later windows, R195 -/

/-- The result of a window. -/
def EvalReq.result (q : EvalReq) : WinRes :=
  ⟨q.tag.pos, q.tag.up, q.tag.dist, alignedSample q.tag q.sample, q.tag.speed, q.tag.era⟩

/-- The result joins those near enough to it. -/
def keepResult (a : Nat) (w : WinRes) (s : State) : State :=
  s.modSe a fun e => { e with results := w :: e.results.filter fun r => decide ((r.pos - w.pos).natAbs ≤ 512) && r.era = w.era }

theorem evalOne_eq (a : Nat) (q : EvalReq) (s : State) :
    evalOne a q s = if q.noZero || q.clip then evalNote a q (s.evaluate a q) s
      else keepResult a q.result (evalNote a q (s.evaluate a q) s) := rfl

theorem evalOne_sampled (h : (q.noZero || q.clip) = false) :
    evalOne a q s = keepResult a q.result (evalNote a q (s.evaluate a q) s) :=
  (evalOne_eq ..).trans (if_neg (by rw [h]; decide))

theorem keepResult_ok (a : Nat) (w : WinRes) (s : State) : Ok [.axes] s (keepResult a w s) := State.modSe_ok ..

@[simp] theorem rd_keepResult (a : Nat) (w : WinRes) (s : State) (b : Nat) : (keepResult a w s).rd b = s.rd b := rfl

@[simp] theorem evals_keepResult (a : Nat) (w : WinRes) (s : State) : ((keepResult a w s).se a).evals = (s.se a).evals := by
  unfold keepResult
  rw [State.se_modSe]

theorem head_keepResult (a : Nat) (w : WinRes) (s : State) : ((keepResult a w s).se a).results.head? = some w :=
  congrArg (fun e : Sense => e.results.head?) (State.se_modSe ..)

/-- Keeping the result changes no register, and no window that waits. -/
theorem rd_evalOne (a : Nat) (q : EvalReq) (s : State) (b : Nat) :
    (evalOne a q s).rd b = (evalNote a q (s.evaluate a q) s).rd b := by
  rw [evalOne_eq]
  split
  · rfl
  · exact rd_keepResult ..

theorem get_evalOne (a : Nat) (q : EvalReq) (s : State) (f : Fld) :
    (evalOne a q s).get f = (evalNote a q (s.evaluate a q) s).get f := congrArg (wordField · f.hi f.lo) (rd_evalOne ..)

theorem evals_evalOne (a : Nat) (q : EvalReq) (s : State) :
    ((evalOne a q s).se a).evals = ((evalNote a q (s.evaluate a q) s).se a).evals := by
  rw [evalOne_eq]
  split
  · rfl
  · exact evals_keepResult ..

/-! ### An estimate that is not valid, R195 and R198 -/

/-- The registers after an invalid estimate. -/
def noteInvalid (a k : Nat) (s : State) : State := (setInvalid a k s).put (AX_STALLST.CNT a) 0

theorem evalNote_invalid (a : Nat) (q : EvalReq) (k : Nat) (s : State) :
    evalNote a q (.invalid k) s = (noteInvalid a k s).modSe a fun e => { e with learnN := 0, learnSum := 0 } := rfl

theorem evalOne_invalid_ok (h : s.evaluate a q = .invalid k) : Ok [.axes, .reg .AX_LA, .reg .AX_STALLST] s (evalOne a q s) := by
  have note : Ok [.axes, .reg .AX_LA, .reg .AX_STALLST] s (evalNote a q (.invalid k) s) :=
    Ok.via (State.modSe_ok ..) rfl (Ok.via (State.put_at (at_AX_STALLST a)) rfl ((setInvalid_ok ..).mono rfl))
  rw [evalOne_eq, h]
  exact note.ite (Ok.via (keepResult_ok ..) rfl note)

theorem get_noteInvalid {f : Fld} (h : f.addr = AX_LA a) :
    (noteInvalid a k s).get f = ((s.put (AX_LA.VALID a) 0).put (AX_LA.REASON a) k).get f := by
  have apart : f.addr ≠ AX_STALLST a := by rw [h]; simp
  exact (State.get_put_ne _ apart).trans (State.get_put_ne _ apart)

theorem valid_noteInvalid (a k : Nat) (s : State) : (noteInvalid a k s).get (AX_LA.VALID a) = 0 := by
  rw [get_noteInvalid rfl, State.get_put_disj _ (by simp) (by simp)]
  exact State.get_put_self _ (by simp) (by simp)

theorem reason_noteInvalid (hk : k < 8) (s : State) : (noteInvalid a k s).get (AX_LA.REASON a) = k := by
  rw [get_noteInvalid rfl]
  exact (State.get_put_self _ (by simp) (by simp)).trans (Nat.mod_eq_of_lt hk)

theorem cnt_noteInvalid (a k : Nat) (s : State) : (noteInvalid a k s).get (AX_STALLST.CNT a) = 0 :=
  State.get_put_self _ (by simp) (by simp)

theorem does_evaluation_invalid {a : Fin 128} {s : State} (one : (s.se a).evals = [q]) (h : s.evaluate a q = .invalid k) :
    Does (.loadAngleEvaluation a) s fun t =>
      t.on (AX_LA.VALID a) = false ∧ t.get (AX_LA.REASON a) = k ∧ t.get (AX_STALLST.CNT a) = 0 ∧ (t.se a).evals = []
        ∧ Frame [.axes, .reg .AX_LA, .reg .AX_STALLST] s t := by
  have taken : (s.takeEvals a).evaluate a q = .invalid k := (evaluate_takeEvals ..).trans h
  have shows (f : Fld) : (evalOne a q (s.takeEvals a)).get f = (noteInvalid a k (s.takeEvals a)).get f := by
    rw [get_evalOne, taken, evalNote_invalid, State.modSe_get]
  refine .of_eq rfl (evalAxis_one one) ⟨on_eq_false ?_, ?_, ?_, ?_, ?_⟩
  · exact (shows _).trans (valid_noteInvalid ..)
  · exact (shows _).trans (reason_noteInvalid (reason_lt h) _)
  · exact (shows _).trans (cnt_noteInvalid ..)
  · rw [evals_evalOne, taken, evalNote_invalid, State.se_modSe]
    exact evals_takeEvals ..
  · exact (Ok.via (evalOne_invalid_ok taken) rfl ((State.modSe_ok ..).mono rfl)).1

end

/-! ### A valid estimate, R195 to R198 -/

section
variable {a : Nat} {q : EvalReq} {e : Estimate} {s t : State}

/-- The estimate is marked valid and its angle shown. -/
def showAngle (a : Nat) (e : Estimate) (s : State) : State :=
  (((s.put (AX_LA.VALID a) 1).put (AX_LA.REASON a) 0).put (AX_STALLST.UNAV a) 0).putI (AX_LA.ANGLE a) e.delta

/-- The back-EMF amplitude as a register value. -/
def ampReg (a : Nat) (q : EvalReq) (e : Estimate) (s : State) : Nat × State :=
  roundReg (f32Mul e.kest (speedFs q.tag.speed)) 100 16 (showAngle a e s)

/-- KEST as a register value. -/
def kestReg (a : Nat) (q : EvalReq) (e : Estimate) (s : State) : Nat × State := roundReg e.kest 1000000 16 (ampReg a q e s).2

/-- The estimate stands in AX_LA and AX_STALLST. -/
def showEstimate (a : Nat) (q : EvalReq) (e : Estimate) (s : State) : State :=
  ((kestReg a q e s).2.put (AX_LA.AMP a) (ampReg a q e s).1).put (AX_STALLST.KEST a) (kestReg a q e s).1

/-- Trimming follows, R144. -/
def trimmed (a : Nat) (q : EvalReq) (e : Estimate) (s : State) : State :=
  if s.on (AX_TRIM.EN a) && (showEstimate a q e s).suspend a = 0 then trimUpdate a e.delta (showEstimate a q e s)
  else showEstimate a q e s

theorem evalNote_valid (a : Nat) (q : EvalReq) (e : Estimate) (s : State) :
    evalNote a q (.valid e) s = detect a e (learnKe a e.kest (trimmed a q e s)) := rfl

/-! #### What follows leaves the estimate and the windows that wait -/

/-- AX_LA and the windows that wait on axis `a` are the same. -/
structure SameEstimate (a : Nat) (s t : State) : Prop where
  la : t.rd (AX_LA a) = s.rd (AX_LA a)
  evals : (t.se a).evals = (s.se a).evals

theorem SameEstimate.refl : SameEstimate a s s := ⟨rfl, rfl⟩

theorem SameEstimate.trans {u : State} (h : SameEstimate a s t) (h' : SameEstimate a t u) : SameEstimate a s u :=
  ⟨h'.la.trans h.la, h'.evals.trans h.evals⟩

theorem SameEstimate.modSe {f : Sense → Sense} (hf : ∀ x, (f x).evals = x.evals) (h : SameEstimate a s t) :
    SameEstimate a s (t.modSe a f) :=
  h.trans ⟨rfl, (congrArg Sense.evals (State.se_modSe ..)).trans (hf _)⟩

theorem SameEstimate.modMo {f : Motion → Motion} (h : SameEstimate a s t) : SameEstimate a s (t.modMo a f) :=
  h.trans ⟨rfl, congrArg Sense.evals (State.se_modMo ..)⟩

theorem SameEstimate.put {f : Fld} {v : Nat} (hf : AX_LA a ≠ f.addr) (h : SameEstimate a s t) : SameEstimate a s (t.put f v) :=
  h.trans ⟨State.rd_put_ne v hf, rfl⟩

theorem sameEstimate_trimUpdate (a : Nat) (theta : Int) (s : State) : SameEstimate a s (trimUpdate a theta s) := by
  unfold trimUpdate
  dsimp only
  split
  · exact .modSe (fun _ => rfl) .refl
  · split
    · exact .modSe (fun _ => rfl) .refl
    · split
      · exact .modSe (fun x => by split <;> rfl) .refl
      · exact .modSe (fun _ => rfl) .refl

theorem sameEstimate_learnKe (a : Nat) (kest : Word) (s : State) : SameEstimate a s (learnKe a kest s) := by
  have restart : SameEstimate a s (s.modSe a fun x => { x with learnN := 0, learnSum := 0 }) := .modSe (fun _ => rfl) .refl
  unfold learnKe
  dsimp only
  split
  · exact .refl
  · split
    · exact restart
    · split
      · exact .modSe (fun _ => rfl) .refl
      · exact .put (by simp) (.put (by simp) (.put (by simp) restart))

/-- Whatever an axis that stalls is to do, the count itself leaves the estimate. -/
theorem sameEstimate_countStall (a : Nat) (hit : Bool) (f : Motion → Motion) (s : State) :
    SameEstimate a s (if (countStall a hit s).1 then (countStall a hit s).2.modMo a f else (countStall a hit s).2) := by
  have counted : SameEstimate a s (countStall a hit s).2 := by
    unfold countStall
    split
    · exact .put (by simp) .refl
    · exact .put (by simp) .refl
  split
  · exact .modMo counted
  · exact counted

theorem sameEstimate_detect (a : Nat) (e : Estimate) (s : State) : SameEstimate a s (detect a e s) := by
  have seen : SameEstimate a s (s.modSe a fun x => { x with homeN := (s.se a).homeN + 1 }) := .modSe (fun _ => rfl) .refl
  unfold detect
  dsimp only
  split
  · split
    · split
      · exact seen
      · exact seen.trans (sameEstimate_countStall ..)
    · exact .refl
  · split
    · exact sameEstimate_countStall ..
    · exact .refl

/-! #### What the registers show -/

theorem kestReg_ok (a : Nat) (q : EvalReq) (e : Estimate) (s : State) : Ok [.free] (showAngle a e s) (kestReg a q e s).2 :=
  Ok.trans (roundReg_ok ..) (roundReg_ok ..)

/-- The registers of amplitude and KEST leave the upper half of AX_LA. -/
theorem get_showEstimate {f : Fld} (ha : f.addr = AX_LA a) (hlo : 16 ≤ f.lo) :
    (showEstimate a q e s).get f = (showAngle a e s).get f := by
  have apart : f.addr ≠ AX_STALLST a := by rw [ha]; simp
  calc (showEstimate a q e s).get f
    _ = ((kestReg a q e s).2.put (AX_LA.AMP a) (ampReg a q e s).1).get f := State.get_put_ne _ apart
    _ = (kestReg a q e s).2.get f := State.get_put_disj _ (by simp) (.inr hlo)
    _ = (showAngle a e s).get f := (kestReg_ok ..).1.get (by decide) fun r hr => by simp at hr

theorem evals_showEstimate (a : Nat) (q : EvalReq) (e : Estimate) (s : State) :
    ((showEstimate a q e s).se a).evals = (s.se a).evals := by
  unfold showEstimate
  rw [State.put_se, State.put_se, (kestReg_ok a q e s).1.se (by decide)]
  rfl

theorem sameEstimate_trimmed (a : Nat) (q : EvalReq) (e : Estimate) (s : State) :
    SameEstimate a (showEstimate a q e s) (trimmed a q e s) := by
  unfold trimmed
  split
  · exact sameEstimate_trimUpdate ..
  · exact .refl

theorem sameEstimate_evalNote (a : Nat) (q : EvalReq) (e : Estimate) (s : State) :
    SameEstimate a (showEstimate a q e s) (evalNote a q (.valid e) s) := by
  rw [evalNote_valid]
  exact (sameEstimate_trimmed ..).trans ((sameEstimate_learnKe ..).trans (sameEstimate_detect ..))

theorem get_evalNote_valid {f : Fld} (ha : f.addr = AX_LA a) (hlo : 16 ≤ f.lo) :
    (evalNote a q (.valid e) s).get f = (showAngle a e s).get f := by
  rw [← get_showEstimate ha hlo (q := q), State.get, ha, (sameEstimate_evalNote a q e s).la, ← ha]
  rfl

theorem angle_showAngle (a : Nat) (e : Estimate) (s : State) :
    (showAngle a e s).get (AX_LA.ANGLE a) = unsigned ((AX_LA.ANGLE a).hi + 1 - (AX_LA.ANGLE a).lo) e.delta := by
  refine (State.get_put_self _ (by simp) (by simp)).trans (Nat.mod_eq_of_lt ?_)
  unfold unsigned
  dsimp only
  omega

theorem reason_showAngle (a : Nat) (e : Estimate) (s : State) : (showAngle a e s).get (AX_LA.REASON a) = 0 := by
  unfold showAngle State.putI
  rw [State.get_put_disj _ (by simp) (by simp), State.get_put_ne _ (by simp)]
  exact State.get_put_self _ (by simp) (by simp)

theorem valid_showAngle (a : Nat) (e : Estimate) (s : State) : (showAngle a e s).get (AX_LA.VALID a) = 1 := by
  unfold showAngle State.putI
  rw [State.get_put_disj _ (by simp) (by simp), State.get_put_ne _ (by simp), State.get_put_disj _ (by simp) (by simp)]
  exact State.get_put_self _ (by simp) (by simp)

theorem does_evaluation_valid {a : Fin 128} {s : State} (one : (s.se a).evals = [q]) (h : s.evaluate a q = .valid e) :
    Does (.loadAngleEvaluation a) s fun t =>
      t.on (AX_LA.VALID a) = true ∧ t.get (AX_LA.REASON a) = 0
        ∧ t.get (AX_LA.ANGLE a) = unsigned ((AX_LA.ANGLE a).hi + 1 - (AX_LA.ANGLE a).lo) e.delta
        ∧ (t.se a).evals = [] ∧ (t.se a).results.head? = some q.result
        ∧ Frame [.free, .axes, .reg .AX_BEMFKE, .reg .AX_LA, .reg .AX_STALLST] s t := by
  have taken : (s.takeEvals a).evaluate a q = .valid e := (evaluate_takeEvals ..).trans h
  have shows {f : Fld} (ha : f.addr = AX_LA a) (hlo : 16 ≤ f.lo) :
      (evalOne a q (s.takeEvals a)).get f = (showAngle a e (s.takeEvals a)).get f := by
    rw [get_evalOne, taken, get_evalNote_valid ha hlo]
  refine .of_eq rfl (evalAxis_one one) ⟨decide_eq_true ?_, ?_, ?_, ?_, ?_, ?_⟩
  · rw [shows rfl (by simp), valid_showAngle]
    decide
  · exact (shows rfl (by simp)).trans (reason_showAngle ..)
  · exact (shows rfl (by simp)).trans (angle_showAngle ..)
  · rw [evals_evalOne, taken, (sameEstimate_evalNote ..).evals, evals_showEstimate, evals_takeEvals]
  · rw [evalOne_sampled (sampled_of_valid h)]
    exact head_keepResult ..
  · exact (Ok.via (evalOne_ok ..) rfl ((State.modSe_ok ..).mono rfl)).1

end

/-! ### HOMING_SETTLE_EXPIRY, R201 -/

/-- Where the back-off of a homing axis ends, BACK against the direction of HSPD. -/
def State.backOff (s : State) (a : Nat) : Int :=
  if s.getI (AX_HOMECFG.HSPD a) < 0 then (s.mo a).p + (Int.ofNat (s.get (AX_HOMEBACK.BACK a)) * 2 ^ 24)
  else (s.mo a).p - (Int.ofNat (s.get (AX_HOMEBACK.BACK a)) * 2 ^ 24)

theorem homeSettle_contact {a : Nat} {s : State} (hs : s.get (AX_HOMEST.STATE a) = 3) (hc : (s.mo a).run = .homeContact) :
    homeSettle a s = (s.put (AX_HOMEST.STATE a) 4).modMo a fun m => { m with run := .homeBack (s.backOff a) } :=
  if_pos (by rw [hs, hc]; rfl)

theorem does_homingSettle {a : Fin 128} {s : State} (hs : s.get (AX_HOMEST.STATE a) = 3) (hc : (s.mo a).run = .homeContact) :
    Does (.homingSettleExpiry a) s fun t =>
      t.get (AX_HOMEST.STATE a) = 4 ∧ t.mo a = { s.mo a with run := .homeBack (s.backOff a) }
        ∧ Frame [.axes, .reg .AX_HOMEST] s t :=
  .of_eq rfl (homeSettle_contact hs hc) ⟨State.get_put_self _ (by simp) (by simp), State.mo_modMo ..,
    (Ok.via (State.modMo_ok ..) rfl ((State.put_at (at_AX_HOMEST a)).mono rfl)).1⟩

/-! ### The commands of AX_LACTL, one bit each: R197, R199, R201, R204 and R206 -/

theorem lactlWritten_clre (a : Nat) (s : State) :
    lactlWritten a 0x80000000 s
      = (s.modMo a fun m => { m with eStart := m.eStart - m.energy, energy := 0 }).putPair (AX_ENERGY_LO a) 0 := by
  simp [lactlWritten]

theorem lactlWritten_clrs (a : Nat) (s : State) :
    lactlWritten a 0x40000000 s = (s.put (AX_STALLST.STALLS a) 0).wr (AX_BEMFCNT a) 0 := by
  simp [lactlWritten]

theorem lactlWritten_clrh (a : Nat) (s : State) :
    lactlWritten a 0x20000000 s = updAlert a ((s.put (AX_HOMEST.ERR a) 0).put (AX_HOMEST.HOMED a) 0) := by
  simp [lactlWritten]

theorem lactlWritten_witalign (a : Nat) (s : State) : lactlWritten a 2 s = s.put (AX_WITST.ALIGNPEND a) 1 := by
  simp [lactlWritten]

theorem lactlWritten_learn (a : Nat) (s : State) :
    lactlWritten a 1 s = (s.put (AX_BEMFKE.LEARNING a) 1).modSe a fun e => { e with learnN := 0, learnSum := 0 } := by
  simp [lactlWritten]

section
variable {m : Master} {a : Fin 128} {s : State}

/-- Beside what its command changes, a write of AX_LACTL answers its master and may mend the word. -/
theorem lactl_frame {v : Word} {W : List Part} (command : ∀ u, Ok W u (lactlWritten a v u)) :
    Frame (accessParts ++ W) s ((lactlWritten a v (s.touched (AX_LACTL a))).answer m .done) := by
  have touch : Ok (accessParts ++ W) s (s.touched (AX_LACTL a)) := (State.touched_ok ..).mono rfl
  exact (Ok.via (State.answer_ok ..) rfl (Ok.via (command _) within_right touch)).1

theorem does_clre (h : s.mayWrite m (AX_LACTL a)) : Does (.clre m a) s fun t =>
    (t.mo a).energy = 0 ∧ t.pair (AX_ENERGY_LO a) = 0 ∧ t.reply m = .done
      ∧ Frame (accessParts ++ [.axes, .reg .AX_ENERGY_LO, .reg .AX_ENERGY_HI]) s t := by
  refine .of_eq rfl (written_AX_LACTL a h (by decide)) ⟨?_, ?_, State.reply_answer .., lactl_frame fun u => ?_⟩
  all_goals rw [lactlWritten_clre]
  · rw [State.answer_mo, State.putPair_mo, State.mo_modMo]
  · exact pair_putPair (by decide) (by decide) _
  · exact Ok.via (State.putPair_at (at_AX_ENERGY_LO a) (hi_AX_ENERGY_LO a)) rfl
      ((State.modMo_ok ..).mono rfl)

theorem does_clrs (h : s.mayWrite m (AX_LACTL a)) : Does (.clrs m a) s fun t =>
    t.get (AX_STALLST.STALLS a) = 0 ∧ t.rd (AX_BEMFCNT a) = 0 ∧ t.reply m = .done
      ∧ Frame (accessParts ++ [.reg .AX_STALLST, .reg .AX_BEMFCNT]) s t := by
  refine .of_eq rfl (written_AX_LACTL a h (by decide)) ⟨?_, ?_, State.reply_answer .., lactl_frame fun u => ?_⟩
  all_goals rw [lactlWritten_clrs]
  · rw [State.answer_get, State.get_wr_ne _ (by simp)]
    exact State.get_put_self _ (by simp) (by simp)
  · rw [State.answer_rd, State.rd_wr_self]
  · exact Ok.via (State.wr_at (at_AX_BEMFCNT a)) rfl
      ((State.put_at (at_AX_STALLST a)).mono rfl)

theorem does_clrh (h : s.mayWrite m (AX_LACTL a)) : Does (.clrh m a) s fun t =>
    t.on (AX_HOMEST.HOMED a) = false ∧ t.get (AX_HOMEST.ERR a) = 0 ∧ t.reply m = .done
      ∧ Frame (accessParts ++ eventParts ++ [.reg .AX_HOMEST, .reg .AXALERT]) s t := by
  have alert (u : State) {f : Fld} (hf : f.addr = AX_HOMEST a) : (updAlert a u).get f = u.get f :=
    get_of_shared (updAlert_ok ..) (by rw [hf]; simp only [AX_HOMEST]; omega) rfl
  refine .of_eq rfl (written_AX_LACTL a h (by decide)) ⟨on_eq_false ?_, ?_, State.reply_answer .., lactl_frame fun u => ?_⟩
  all_goals rw [lactlWritten_clrh]
  · rw [State.answer_get, alert _ rfl]
    exact State.get_put_self _ (by simp) (by simp)
  · rw [State.answer_get, alert _ rfl, State.get_put_disj _ (by simp) (by simp)]
    exact State.get_put_self _ (by simp) (by simp)
  · exact Ok.via (updAlert_ok ..) rfl <| Ok.via (State.put_at (at_AX_HOMEST a)) rfl <|
      (State.put_at (at_AX_HOMEST a)).mono rfl

theorem does_witalign (h : s.mayWrite m (AX_LACTL a)) : Does (.witalign m a) s fun t =>
    t.on (AX_WITST.ALIGNPEND a) = true ∧ t.reply m = .done ∧ Frame (accessParts ++ [.reg .AX_WITST]) s t := by
  refine .of_eq rfl (written_AX_LACTL a h (by decide)) ⟨?_, State.reply_answer .., lactl_frame fun u => ?_⟩
  all_goals rw [lactlWritten_witalign]
  · exact State.on_put_self 1 (by simp) (by simp)
  · exact State.put_at (at_AX_WITST a)

theorem does_learn (h : s.mayWrite m (AX_LACTL a)) : Does (.learn m a) s fun t =>
    t.on (AX_BEMFKE.LEARNING a) = true ∧ t.se a = { s.se a with learnN := 0, learnSum := 0 } ∧ t.reply m = .done
      ∧ Frame (accessParts ++ [.axes, .reg .AX_BEMFKE]) s t := by
  refine .of_eq rfl (written_AX_LACTL a h (by decide)) ⟨?_, ?_, State.reply_answer .., lactl_frame fun u => ?_⟩
  all_goals rw [lactlWritten_learn]
  · exact State.on_put_self 1 (by simp) (by simp)
  · rw [State.answer_se, State.se_modSe]
    rfl
  · exact Ok.via (State.modSe_ok ..) rfl ((State.put_at (at_AX_BEMFKE a)).mono rfl)

end

/-- Settles O20: each outcome of an evaluation, the settle after contact and each command of AX_LACTL, one after the other. -/
theorem estimatorCompletes : Obligations.EstimatorCompletes := by
  unfold Obligations.EstimatorCompletes
  intro s m a
  exact ⟨fun _ _ one h => does_evaluation_invalid one h, fun _ _ one h => does_evaluation_valid one h,
    fun hs hc => does_homingSettle hs hc,
    fun h => ⟨does_clre h, does_clrs h, does_clrh h, does_witalign h, does_learn h⟩⟩

end Sys2Proof.Machine


/-!
# O59: recipe slots change at the end of a planner command alone
-/
namespace Sys2Proof.Machine

/-- Parts that a command leaves alone whatever its operands and the state: none touches the queue, recipe slots change at the end of
a planner command (R210, R212) and the roll-back counter at the end of an update command (R371). -/
def keptParts : Instr → List Part
  | .plCommandEnd .. => [.pending, .rbcnt]
  | .updateCommandEnd => [.pending, .recipes]
  | _ => [.pending, .recipes, .rbcnt]

/-- No part of the first list is in the second. -/
def apart (l W : List Part) : Bool := l.all fun p => W.all fun q => !Nat.beq p.code q.code

theorem not_mem_of_apart {l W : List Part} (h : apart l W = true) {p : Part} (hp : p ∈ l) : p ∉ W := by
  intro hw
  have differ := List.all_eq_true.mp (List.all_eq_true.mp h p hp) p hw
  rw [Nat.beq_refl] at differ
  exact absurd differ (by decide)

/-- A command answers a next state that differs in some parts alone, and the parts it keeps are none of them. -/
def Keeps (c : Instr) (s : State) : Prop := ∃ t W, exec c s = .next t ∧ Frame W s t ∧ ∀ p ∈ keptParts c, p ∉ W

theorem keeps_of_ok {c : Instr} {s t : State} {W : List Part} (h : exec c s = .next t) (ok : OkO W s (exec c s))
    (hk : apart (keptParts c) W = true) : Keeps c s := ⟨t, W, h, (ok t h).1, fun _ hp => not_mem_of_apart hk hp⟩

/-- Every command answers, and keeps the parts that are its own to keep: the law of its own meaning. -/
theorem exec_keeps (c : Instr) (s : State) : Keeps c s := by
  cases c with
  | coachPeriodStart => exact keeps_of_ok rfl (execCoachPeriodStart_ok _ _ _) rfl
  | cmdFrame => exact keeps_of_ok rfl (execCmdFrame_ok _ _ _ _ _) rfl
  | cfgFrame => exact keeps_of_ok rfl (execCfgFrame_ok _ _ _) rfl
  | cfgrFrame => exact keeps_of_ok rfl (execCfgrFrame_ok _ _ _) rfl
  | cfgResend => exact keeps_of_ok rfl (execCfgResend_ok _ _) rfl
  | ctlSafeSelect => exact keeps_of_ok rfl (execCtlSafeSelect_ok _ _ _) rfl
  | ctlKill => exact keeps_of_ok rfl (execCtlKill_ok _ _ _) rfl
  | ctlRelease => exact keeps_of_ok rfl (execCtlRelease_ok _ _ _) rfl
  | statFrame => exact keeps_of_ok rfl (execStatFrame_ok _ _ _ _) rfl
  | snsFrame => exact keeps_of_ok rfl (execSnsFrame_ok _ _ _ _) rfl
  | coachWatchdogExpiry => exact keeps_of_ok rfl (execCoachWatchdogExpiry_ok _ _) rfl
  | hubWatchdogExpiry => exact keeps_of_ok rfl (execHubWatchdogExpiry_ok _ _) rfl
  | coachSilenceEnd => exact keeps_of_ok rfl (execCoachSilenceEnd_ok _ _) rfl
  | trainingAttempt => exact keeps_of_ok rfl (execTrainingAttempt_ok _ _) rfl
  | trainingComplete => exact keeps_of_ok rfl (execTrainingComplete_ok _ _) rfl
  | coachOnRequest => exact keeps_of_ok rfl (execCoachOnRequest_ok _ _ _) rfl
  | coachOnComplete => exact keeps_of_ok rfl (execCoachOnComplete_ok _ _) rfl
  | coachOnTimeout => exact keeps_of_ok rfl (execCoachOnTimeout_ok _ _) rfl
  | coachOffRequest => exact keeps_of_ok rfl (execCoachOffRequest_ok _ _ _) rfl
  | coachForcedOff => exact keeps_of_ok rfl (execCoachForcedOff_ok _ _ _) rfl
  | forcedOffTimeout => exact keeps_of_ok rfl (execForcedOffTimeout_ok _ _) rfl
  | afeOff => exact keeps_of_ok rfl (execAfeOff_ok _ _) rfl
  | afeOn => exact keeps_of_ok rfl (execAfeOn_ok _ _) rfl
  | softwareReset => exact keeps_of_ok rfl (execSoftwareReset_ok _ _) rfl
  | reqRun => exact keeps_of_ok rfl (execReqRun_ok _ _) rfl
  | reqDoze => exact keeps_of_ok rfl (execReqDoze_ok _ _) rfl
  | reqNap => exact keeps_of_ok rfl (execReqNap_ok _ _) rfl
  | reqHibernate => exact keeps_of_ok rfl (execReqHibernate_ok _ _) rfl
  | autodozeEntry => exact keeps_of_ok rfl (execAutodozeEntry_ok _) rfl
  | dozeWake => exact keeps_of_ok rfl (execDozeWake_ok _ _) rfl
  | napWake => exact keeps_of_ok rfl (execNapWake_ok _ _ _) rfl
  | hibernateWake => exact keeps_of_ok rfl (execHibernateWake_ok _ _) rfl
  | clockFailure => exact keeps_of_ok rfl (execClockFailure_ok _ _) rfl
  | oscillatorRestart => exact keeps_of_ok rfl (execOscillatorRestart_ok _) rfl
  | clockRecovery => exact keeps_of_ok rfl (execClockRecovery_ok _) rfl
  | crystalChangeover => exact keeps_of_ok rfl (execCrystalChangeover_ok _) rfl
  | crystalStop => exact keeps_of_ok rfl (execCrystalStop_ok _) rfl
  | rtcWriteCommit => exact keeps_of_ok rfl (execRtcWriteCommit_ok _) rfl
  | rtcAlarm => exact keeps_of_ok rfl (execRtcAlarm_ok _) rfl
  | powerOnReset => exact keeps_of_ok rfl (execPowerOnReset_ok _) rfl
  | resetPin => exact keeps_of_ok rfl (execResetPin_ok _) rfl
  | pwrgoodLow => exact keeps_of_ok rfl (execPwrgoodLow_ok _) rfl
  | brownOut => exact keeps_of_ok rfl (execBrownOut_ok _) rfl
  | resetSequenceStart => exact keeps_of_ok rfl (execResetSequenceStart_ok _ _ _) rfl
  | resetSequenceEnd => exact keeps_of_ok rfl (execResetSequenceEnd_ok _) rfl
  | bootUp => exact keeps_of_ok rfl (execBootUp_ok _) rfl
  | registerWrite => exact keeps_of_ok rfl (execRegisterWrite_ok _ _ _ _ _) rfl
  | guardTimeout => exact keeps_of_ok rfl (execGuardTimeout_ok _ _) rfl
  | pairLoRead => exact keeps_of_ok rfl (execPairLoRead_ok _ _ _) rfl
  | pairLoWrite => exact keeps_of_ok rfl (execPairLoWrite_ok _ _ _ _) rfl
  | pairHiWrite => exact keeps_of_ok rfl (execPairHiWrite_ok _ _ _ _) rfl
  | bufholdTimeout => exact keeps_of_ok rfl (execBufholdTimeout_ok _ _) rfl
  | storeSettings => exact keeps_of_ok rfl (execStoreSettings_ok _ _) rfl
  | storeWaveTables => exact keeps_of_ok rfl (execStoreWaveTables_ok _ _) rfl
  | storeBoth => exact keeps_of_ok rfl (execStoreBoth_ok _ _) rfl
  | eraseStoredSettings => exact keeps_of_ok rfl (execEraseStoredSettings_ok _ _) rfl
  | storeComplete => exact keeps_of_ok rfl (execStoreComplete_ok _ _) rfl
  | parityScrub => exact keeps_of_ok rfl (execParityScrub_ok _ _) rfl
  | rankPeriodStart => exact keeps_of_ok rfl (execRankPeriodStart_ok _ _ _) rfl
  | interlockTimeout => exact keeps_of_ok rfl (execInterlockTimeout_ok _ _) rfl
  | rkModeWrite => exact keeps_of_ok rfl (execRkModeWrite_ok _ _ _ _) rfl
  | legTestWrite => exact keeps_of_ok rfl (execLegTestWrite_ok _ _ _ _) rfl
  | overcurrentTrip => exact keeps_of_ok rfl (execOvercurrentTrip_ok _ _ _ _ _ _ _ _) rfl
  | tripCheck => exact keeps_of_ok rfl (execTripCheck_ok _) rfl
  | periodCheck => exact keeps_of_ok rfl (execPeriodCheck_ok _ _ _) rfl
  | faultWaitExpiry => exact keeps_of_ok rfl (execFaultWaitExpiry_ok _ _) rfl
  | retryTestPass => exact keeps_of_ok rfl (execRetryTestPass_ok _ _) rfl
  | retryWindowExpiry => exact keeps_of_ok rfl (execRetryWindowExpiry_ok _ _) rfl
  | axisFaultLatch => exact keeps_of_ok rfl (execAxisFaultLatch_ok _ _ _) rfl
  | axisFaultClear => exact keeps_of_ok rfl (execAxisFaultClear_ok _ _ _) rfl
  | rankFaultClear => exact keeps_of_ok rfl (execRankFaultClear_ok _ _ _) rfl
  | coachFaultClear => exact keeps_of_ok rfl (execCoachFaultClear_ok _ _ _) rfl
  | vmFaultClear => exact keeps_of_ok rfl (execVmFaultClear_ok _ _ _) rfl
  | chargePumpUndervoltage => exact keeps_of_ok rfl (execChargePumpUndervoltage_ok _ _) rfl
  | gateRegUndervoltage => exact keeps_of_ok rfl (execGateRegUndervoltage_ok _ _) rfl
  | tempSensorFailure => exact keeps_of_ok rfl (execTempSensorFailure_ok _ _) rfl
  | vmUndervoltageFault => exact keeps_of_ok rfl (execVmUndervoltageFault_ok _ _ _) rfl
  | vmUndervoltageWarning => exact keeps_of_ok rfl (execVmUndervoltageWarning_ok _ _ _) rfl
  | vmOvervoltageFault => exact keeps_of_ok rfl (execVmOvervoltageFault_ok _ _) rfl
  | vmOvervoltageWarning => exact keeps_of_ok rfl (execVmOvervoltageWarning_ok _ _) rfl
  | vmRelease => exact keeps_of_ok rfl (execVmRelease_ok _ _ _) rfl
  | vmBelow6v => exact keeps_of_ok rfl (execVmBelow6v_ok _ _) rfl
  | blankingEnd => exact keeps_of_ok rfl (execBlankingEnd_ok _ _ _) rfl
  | comparatorTrip => exact keeps_of_ok rfl (execComparatorTrip_ok _ _ _ _ _ _ _) rfl
  | mixedDecaySwitch => exact keeps_of_ok rfl (execMixedDecaySwitch_ok _ _ _) rfl
  | fastDecayZeroGuard => exact keeps_of_ok rfl (execFastDecayZeroGuard_ok _ _ _) rfl
  | decayTrimWindow => exact keeps_of_ok rfl (execDecayTrimWindow_ok _ _) rfl
  | standstillDelayExpiry => exact keeps_of_ok rfl (execStandstillDelayExpiry_ok _ _) rfl
  | energiseExpiry => exact keeps_of_ok rfl (execEnergiseExpiry_ok _ _) rfl
  | profileTick => exact keeps_of_ok rfl (execProfileTick_ok _ _) rfl
  | axisEnable => exact keeps_of_ok rfl (execAxisEnable_ok _ _ _) rfl
  | axisDisable => exact keeps_of_ok rfl (execAxisDisable_ok _ _ _) rfl
  | start => exact keeps_of_ok rfl (execStart_ok _ _ _) rfl
  | axstartWrite => exact keeps_of_ok rfl (execAxstartWrite_ok _ _ _ _) rfl
  | stop => exact keeps_of_ok rfl (execStop_ok _ _ _) rfl
  | qstop => exact keeps_of_ok rfl (execQstop_ok _ _ _) rfl
  | halt => exact keeps_of_ok rfl (execHalt_ok _ _ _) rfl
  | release => exact keeps_of_ok rfl (execRelease_ok _ _ _) rfl
  | cont => exact keeps_of_ok rfl (execCont_ok _ _ _) rfl
  | clrpml => exact keeps_of_ok rfl (execClrpml_ok _ _ _) rfl
  | syncInEdge => exact keeps_of_ok rfl (execSyncInEdge_ok _ _) rfl
  | axPosWrite => exact keeps_of_ok rfl (execAxPosWrite_ok _ _ _ _ _) rfl
  | waveLoadOpen => exact keeps_of_ok rfl (execWaveLoadOpen_ok _ _ _) rfl
  | waveLoadClose => exact keeps_of_ok rfl (execWaveLoadClose_ok _ _ _) rfl
  | waveEntryWrite => exact keeps_of_ok rfl (execWaveEntryWrite_ok _ _ _ _ _) rfl
  | waveSelectWrite => exact keeps_of_ok rfl (execWaveSelectWrite_ok _ _ _ _) rfl
  | waveEccError => exact keeps_of_ok rfl (execWaveEccError_ok _ _ _ _) rfl
  | bemfWindowZero => exact keeps_of_ok rfl (execBemfWindowZero_ok _ _ _ _) rfl
  | bemfSarRequest => exact keeps_of_ok rfl (execBemfSarRequest_ok _ _ _) rfl
  | bemfConversionEnd => exact keeps_of_ok rfl (execBemfConversionEnd_ok _ _ _ _) rfl
  | bemfWindowAbandon => exact keeps_of_ok rfl (execBemfWindowAbandon_ok _ _ _) rfl
  | loadAngleEvaluation => exact keeps_of_ok rfl (execLoadAngleEvaluation_ok _ _) rfl
  | homingSettleExpiry => exact keeps_of_ok rfl (execHomingSettleExpiry_ok _ _) rfl
  | clre => exact keeps_of_ok rfl (execClre_ok _ _ _) rfl
  | clrs => exact keeps_of_ok rfl (execClrs_ok _ _ _) rfl
  | clrh => exact keeps_of_ok rfl (execClrh_ok _ _ _) rfl
  | witalign => exact keeps_of_ok rfl (execWitalign_ok _ _ _) rfl
  | learn => exact keeps_of_ok rfl (execLearn_ok _ _ _) rfl
  | load => exact keeps_of_ok rfl (execLoad_ok _ _ _) rfl
  | save => exact keeps_of_ok rfl (execSave_ok _ _ _) rfl
  | erase => exact keeps_of_ok rfl (execErase_ok _ _ _) rfl
  | loadx => exact keeps_of_ok rfl (execLoadx_ok _ _) rfl
  | plan => exact keeps_of_ok rfl (execPlan_ok _ _) rfl
  | run => exact keeps_of_ok rfl (execRun_ok _ _) rfl
  | abort => exact keeps_of_ok rfl (execAbort_ok _ _ _) rfl
  | clear => exact keeps_of_ok rfl (execClear_ok _ _) rfl
  | planComplete => exact keeps_of_ok rfl (execPlanComplete_ok _) rfl
  | plCommandEnd => exact keeps_of_ok rfl (execPlCommandEnd_ok _ _ _) rfl
  | planStart => exact keeps_of_ok rfl (execPlanStart_ok _) rfl
  | admissionBlocked => exact keeps_of_ok rfl (execAdmissionBlocked_ok _ _) rfl
  | recipeBufferWrite => exact keeps_of_ok rfl (execRecipeBufferWrite_ok _ _ _ _) rfl
  | plOrdWrite => exact keeps_of_ok rfl (execPlOrdWrite_ok _ _ _ _) rfl
  | stepEdge => exact keeps_of_ok rfl (execStepEdge_ok _ _ _ _ _) rfl
  | quadratureTransition => exact keeps_of_ok rfl (execQuadratureTransition_ok _ _ _ _ _) rfl
  | encoderErrorWindow => exact keeps_of_ok rfl (execEncoderErrorWindow_ok _ _) rfl
  | indexEdge => exact keeps_of_ok rfl (execIndexEdge_ok _ _) rfl
  | speedTimeout => exact keeps_of_ok rfl (execSpeedTimeout_ok _ _) rfl
  | countWindowEnd => exact keeps_of_ok rfl (execCountWindowEnd_ok _) rfl
  | comparePulseEnd => exact keeps_of_ok rfl (execComparePulseEnd_ok _ _) rfl
  | compareArm => exact keeps_of_ok rfl (execCompareArm_ok _ _ _ _) rfl
  | cmpPosWrite => exact keeps_of_ok rfl (execCmpPosWrite_ok _ _ _ _) rfl
  | encCntWrite => exact keeps_of_ok rfl (execEncCntWrite_ok _ _ _ _) rfl
  | stepCntWrite => exact keeps_of_ok rfl (execStepCntWrite_ok _ _ _ _) rfl
  | conversionStart => exact keeps_of_ok rfl (execConversionStart_ok _ _ _) rfl
  | settleEnd => exact keeps_of_ok rfl (execSettleEnd_ok _ _) rfl
  | breakCheck => exact keeps_of_ok rfl (execBreakCheck_ok _ _ _) rfl
  | conversionEnd => exact keeps_of_ok rfl (execConversionEnd_ok _ _ _ _) rfl
  | leadConversionEnd => exact keeps_of_ok rfl (execLeadConversionEnd_ok _ _ _ _) rfl
  | resultLand => exact keeps_of_ok rfl (execResultLand_ok _ _) rfl
  | dutyWindowStart => exact keeps_of_ok rfl (execDutyWindowStart_ok _) rfl
  | afeSharedWrite => exact keeps_of_ok rfl (execAfeSharedWrite_ok _ _ _ _) rfl
  | sdStart => exact keeps_of_ok rfl (execSdStart_ok _ _ _) rfl
  | sdStop => exact keeps_of_ok rfl (execSdStop_ok _ _ _) rfl
  | sdInj => exact keeps_of_ok rfl (execSdInj_ok _ _ _) rfl
  | sdSimul => exact keeps_of_ok rfl (execSdSimul_ok _ _ _ _) rfl
  | sdCal => exact keeps_of_ok rfl (execSdCal_ok _ _ _ _) rfl
  | sdClrcnt => exact keeps_of_ok rfl (execSdClrcnt_ok _ _ _) rfl
  | sdDisable => exact keeps_of_ok rfl (execSdDisable_ok _ _ _ _) rfl
  | sdTimerPulse => exact keeps_of_ok rfl (execSdTimerPulse_ok _ _) rfl
  | trigInEdge => exact keeps_of_ok rfl (execTrigInEdge_ok _ _) rfl
  | calPhaseEnd => exact keeps_of_ok rfl (execCalPhaseEnd_ok _ _ _) rfl
  | sdResultRead => exact keeps_of_ok rfl (execSdResultRead_ok _ _ _ _) rfl
  | linearise => exact keeps_of_ok rfl (execLinearise_ok _ _) rfl
  | sdLindataAccess m d w =>
    have law := execSdLindataAccess_ok m d w s
    cases w with
    | none => exact keeps_of_ok rfl law rfl
    | some => exact keeps_of_ok rfl law rfl
  | signatureWindowEnd => exact keeps_of_ok rfl (execSignatureWindowEnd_ok _ _ _ _ _ _ _) rfl
  | quietStateScrub => exact keeps_of_ok rfl (execQuietStateScrub_ok _ _ _ _) rfl
  | comparatorSelfTest => exact keeps_of_ok rfl (execComparatorSelfTest_ok _ _ _) rfl
  | delayParityError => exact keeps_of_ok rfl (execDelayParityError_ok _ _) rfl
  | cacheParityError => exact keeps_of_ok rfl (execCacheParityError_ok _ _) rfl
  | sramDoubleBitError => exact keeps_of_ok rfl (execSramDoubleBitError_ok _) rfl
  | sramScrub => exact keeps_of_ok rfl (execSramScrub_ok _ _) rfl
  | resyncHoldDone => exact keeps_of_ok rfl (execResyncHoldDone_ok _) rfl
  | resyncBoundary => exact keeps_of_ok rfl (execResyncBoundary_ok _) rfl
  | resyncComplete => exact keeps_of_ok rfl (execResyncComplete_ok _) rfl
  | resyncTimeout => exact keeps_of_ok rfl (execResyncTimeout_ok _) rfl
  | debugHalt => exact keeps_of_ok rfl (execDebugHalt_ok _) rfl
  | debugResume => exact keeps_of_ok rfl (execDebugResume_ok _ _ _ _ _) rfl
  | debugRegisterWrite => exact keeps_of_ok rfl (execDebugRegisterWrite_ok _ _ _) rfl
  | debugMemoryWrite => exact keeps_of_ok rfl (execDebugMemoryWrite_ok _ _ _) rfl
  | evPendClear => exact keeps_of_ok rfl (execEvPendClear_ok _ _ _ _) rfl
  | evEnWrite => exact keeps_of_ok rfl (execEvEnWrite_ok _ _ _ _) rfl
  | doorbell => exact keeps_of_ok rfl (execDoorbell_ok _ _) rfl
  | trioEventDelivery => exact keeps_of_ok rfl (execTrioEventDelivery_ok _) rfl
  | emcyQueue => exact keeps_of_ok rfl (execEmcyQueue_ok _) rfl
  | logEntry => exact keeps_of_ok rfl (execLogEntry_ok _) rfl
  | logRepeatRewrite => exact keeps_of_ok rfl (execLogRepeatRewrite_ok _ _) rfl
  | haltNLow => exact keeps_of_ok rfl (execHaltNLow_ok _) rfl
  | haltNHigh => exact keeps_of_ok rfl (execHaltNHigh_ok _) rfl
  | nmtStart => exact keeps_of_ok rfl (execNmtStart_ok _ _ _) rfl
  | nmtStop => exact keeps_of_ok rfl (execNmtStop_ok _ _ _) rfl
  | nmtPreOperational => exact keeps_of_ok rfl (execNmtPreOperational_ok _ _ _) rfl
  | nmtResetNode => exact keeps_of_ok rfl (execNmtResetNode_ok _ _ _) rfl
  | nmtResetDeferred => exact keeps_of_ok rfl (execNmtResetDeferred_ok _) rfl
  | nmtResetCommunication => exact keeps_of_ok rfl (execNmtResetCommunication_ok _ _ _) rfl
  | heartbeatProduce => exact keeps_of_ok rfl (execHeartbeatProduce_ok _) rfl
  | heartbeatReceived => exact keeps_of_ok rfl (execHeartbeatReceived_ok _ _ _) rfl
  | heartbeatLoss => exact keeps_of_ok rfl (execHeartbeatLoss_ok _ _) rfl
  | emcySend => exact keeps_of_ok rfl (execEmcySend_ok _ _) rfl
  | canSync => exact keeps_of_ok rfl (execCanSync_ok _ _ _ _) rfl
  | canTime => exact keeps_of_ok rfl (execCanTime_ok _ _ _) rfl
  | rpdo => exact keeps_of_ok rfl (execRpdo_ok _ _ _ _) rfl
  | rpdoDeadline => exact keeps_of_ok rfl (execRpdoDeadline_ok _ _) rfl
  | tpdoSend => exact keeps_of_ok rfl (execTpdoSend_ok _ _) rfl
  | tpdoTimer => exact keeps_of_ok rfl (execTpdoTimer_ok _ _) rfl
  | usdoRequest => exact keeps_of_ok rfl (execUsdoRequest_ok _ _ _ _ _) rfl
  | usdoTimeout => exact keeps_of_ok rfl (execUsdoTimeout_ok _ _ _ _) rfl
  | malformedFrame => exact keeps_of_ok rfl (execMalformedFrame_ok _ _ _) rfl
  | quarantineEnd => exact keeps_of_ok rfl (execQuarantineEnd_ok _ _) rfl
  | contextIdleTimeout => exact keeps_of_ok rfl (execContextIdleTimeout_ok _ _ _ _) rfl
  | rxDiscard => exact keeps_of_ok rfl (execRxDiscard_ok _ _) rfl
  | busOff => exact keeps_of_ok rfl (execBusOff_ok _ _) rfl
  | busOffRecovery => exact keeps_of_ok rfl (execBusOffRecovery_ok _ _) rfl
  | errorPassive => exact keeps_of_ok rfl (execErrorPassive_ok _ _) rfl
  | controllerEnable => exact keeps_of_ok rfl (execControllerEnable_ok _ _ _) rfl
  | controllerDisable => exact keeps_of_ok rfl (execControllerDisable_ok _ _ _) rfl
  | controllerOff => exact keeps_of_ok rfl (execControllerOff_ok _ _) rfl
  | storeObjectWrite => exact keeps_of_ok rfl (execStoreObjectWrite_ok _ _ _ _ _) rfl
  | restoreObjectWrite => exact keeps_of_ok rfl (execRestoreObjectWrite_ok _ _ _ _ _) rfl
  | hostFrameStart => exact keeps_of_ok rfl (execHostFrameStart_ok _ _ _) rfl
  | hostRead => exact keeps_of_ok rfl (execHostRead_ok _) rfl
  | hostReadFixed => exact keeps_of_ok rfl (execHostReadFixed_ok _) rfl
  | hostWrite => exact keeps_of_ok rfl (execHostWrite_ok _ _ _) rfl
  | hostWriteFixed => exact keeps_of_ok rfl (execHostWriteFixed_ok _ _ _) rfl
  | hostStatus => exact keeps_of_ok rfl (execHostStatus_ok _) rfl
  | hostBusyLimit => exact keeps_of_ok rfl (execHostBusyLimit_ok _) rfl
  | hostFrameEnd => exact keeps_of_ok rfl (execHostFrameEnd_ok _ _) rfl
  | xipRead => exact keeps_of_ok rfl (execXipRead_ok _ _ _) rfl
  | lineFetchComplete => exact keeps_of_ok rfl (execLineFetchComplete_ok _ _) rfl
  | spmGo => exact keeps_of_ok rfl (execSpmGo_ok _ _ _) rfl
  | spmStatusPoll => exact keeps_of_ok rfl (execSpmStatusPoll_ok _ _) rfl
  | spmTransactionEnd => exact keeps_of_ok rfl (execSpmTransactionEnd_ok _ _ _) rfl
  | spmWaitTimeout => exact keeps_of_ok rfl (execSpmWaitTimeout_ok _) rfl
  | probe => exact keeps_of_ok rfl (execProbe_ok _ _) rfl
  | spmInv => exact keeps_of_ok rfl (execSpmInv_ok _ _) rfl
  | flush => exact keeps_of_ok rfl (execFlush_ok _ _) rfl
  | txfifoPush => exact keeps_of_ok rfl (execTxfifoPush_ok _ _ _) rfl
  | rxfifoPop => exact keeps_of_ok rfl (execRxfifoPop_ok _ _) rfl
  | monitorSample => exact keeps_of_ok rfl (execMonitorSample_ok _ _ _ _ _) rfl
  | watchdogService => exact keeps_of_ok rfl (execWatchdogService_ok _) rfl
  | watchdogExpiry => exact keeps_of_ok rfl (execWatchdogExpiry_ok _) rfl
  | mgsDeferredReset => exact keeps_of_ok rfl (execMgsDeferredReset_ok _) rfl
  | logDataRead => exact keeps_of_ok rfl (execLogDataRead_ok _ _) rfl
  | logPointerWrite => exact keeps_of_ok rfl (execLogPointerWrite_ok _ _ _) rfl
  | updBegin => exact keeps_of_ok rfl (execUpdBegin_ok _ _) rfl
  | updEnd => exact keeps_of_ok rfl (execUpdEnd_ok _ _) rfl
  | activate => exact keeps_of_ok rfl (execActivate_ok _ _) rfl
  | cancel => exact keeps_of_ok rfl (execCancel_ok _ _) rfl
  | confirm => exact keeps_of_ok rfl (execConfirm_ok _ _) rfl
  | activateReset => exact keeps_of_ok rfl (execActivateReset_ok _ _) rfl
  | updateDataWrite => exact keeps_of_ok rfl (execUpdateDataWrite_ok _ _ _) rfl
  | updateCommandEnd => exact keeps_of_ok rfl (execUpdateCommandEnd_ok _) rfl
  | logout => exact keeps_of_ok rfl (execLogout_ok _ _) rfl
  | setkey => exact keeps_of_ok rfl (execSetkey_ok _ _) rfl
  | genid => exact keeps_of_ok rfl (execGenid_ok _ _) rfl
  | readpub => exact keeps_of_ok rfl (execReadpub_ok _ _) rfl
  | readcert => exact keeps_of_ok rfl (execReadcert_ok _ _ _) rfl
  | attest => exact keeps_of_ok rfl (execAttest_ok _ _) rfl
  | unlock => exact keeps_of_ok rfl (execUnlock_ok _ _) rfl
  | clralarm => exact keeps_of_ok rfl (execClralarm_ok _ _) rfl
  | securityCommandEnd => exact keeps_of_ok rfl (execSecurityCommandEnd_ok _) rfl
  | challengeIssue => exact keeps_of_ok rfl (execChallengeIssue_ok _ _) rfl
  | responseCheck => exact keeps_of_ok rfl (execResponseCheck_ok _ _ _) rfl
  | challengeExpiry => exact keeps_of_ok rfl (execChallengeExpiry_ok _ _) rfl
  | hostSessionTimeout => exact keeps_of_ok rfl (execHostSessionTimeout_ok _) rfl
  | debugSessionEnd => exact keeps_of_ok rfl (execDebugSessionEnd_ok _) rfl
  | tamper => exact keeps_of_ok rfl (execTamper_ok _) rfl
  | voltageGlitch => exact keeps_of_ok rfl (execVoltageGlitch_ok _ _) rfl
  | clockGlitch => exact keeps_of_ok rfl (execClockGlitch_ok _ _) rfl
  | unauthenticatedDebug => exact keeps_of_ok rfl (execUnauthenticatedDebug_ok _) rfl
  | keyIntegrityCheck => exact keeps_of_ok rfl (execKeyIntegrityCheck_ok _ _) rfl
  | keyEraseComplete => exact keeps_of_ok rfl (execKeyEraseComplete_ok _) rfl
  | deadTimeEnd => exact keeps_of_ok rfl (execDeadTimeEnd_ok _ _) rfl
  | overrideOntimeEnd => exact keeps_of_ok rfl (execOverrideOntimeEnd_ok _ _) rfl
  | syncOutPulseEnd => exact keeps_of_ok rfl (execSyncOutPulseEnd_ok _) rfl
  | errorActive => exact keeps_of_ok rfl (execErrorActive_ok _ _) rfl
  | busIntegration => exact keeps_of_ok rfl (execBusIntegration_ok _ _) rfl
  | comparatorFault => exact keeps_of_ok rfl (execComparatorFault_ok _) rfl
  | voterDisagreement => exact keeps_of_ok rfl (execVoterDisagreement_ok _) rfl

theorem recipes_mem_keptParts {c : Instr} (h : ∀ ok flash, c ≠ .plCommandEnd ok flash) : Part.recipes ∈ keptParts c := by
  unfold keptParts
  split
  · exact absurd rfl (h _ _)
  · exact List.mem_cons_of_mem _ (List.mem_cons_self ..)
  · exact List.mem_cons_of_mem _ (List.mem_cons_self ..)

/-- Settles O59: the frame of every other command's law leaves the recipe slots out. -/
theorem recipesKept : Obligations.RecipesKept := by
  unfold Obligations.RecipesKept
  intro c s other
  obtain ⟨t, W, answers, frame, kept⟩ := exec_keeps c s
  exact ⟨t, answers, frame.1 .recipes (kept _ (recipes_mem_keptParts other))⟩

end Sys2Proof.Machine

/-!
# O22: the commands of PL_CMD
-/
namespace Sys2Proof.Machine

/-! ### Words written one after another -/

section
variable {α β : Type} {l : List α} {f : α → State → State} {g : State → β} {s : State}

/-- What the step at `k` sets and no other step touches. -/
theorem forEach_sets {k : α} {v : β} (hk : k ∈ l) (self : ∀ u, g (f k u) = v) (other : ∀ x ∈ l, x ≠ k → ∀ u, g (f x u) = g u) :
    g (forEach l f s) = v := by
  refine forEach_reaches (P := fun _ => True) (Q := fun u => g u = v) hk (fun _ _ _ _ _ => trivial) (fun u _ => self u)
    (fun x hx u hu => ?_) trivial
  by_cases e : x = k
  · rw [e]
    exact self u
  · exact (other x hx e u).trans hu

/-- What no step touches. -/
theorem forEach_leaves (h : ∀ x ∈ l, ∀ u, g (f x u) = g u) : g (forEach l f s) = g s :=
  forEach_keeps (P := fun u => g u = g s) (fun x hx u hu => (h x hx u).trans hu) rfl

end

/-! ### The recipe buffer, R212 -/

/-- The header of the recipe buffer takes the first words of an image. -/
def headerTo (w : List Word) (s : State) : State := forEach [0, 1, 2, 3] (fun i s => s.wr (PL_RCPHDR i) (w.getD i 0)) s

theorem headerTo_ok (w : List Word) (s : State) : Ok [.reg .PL_RCPHDR] s (headerTo w s) :=
  Ok.forEach (fun i _ => State.wr_at (at_PL_RCPHDR i)) .refl

theorem rd_headerTo (w : List Word) (i : Fin 4) (s : State) : (headerTo w s).rd (PL_RCPHDR i) = w.getD i 0 := by
  have hi : (i : Nat) ∈ [0, 1, 2, 3] := by revert i; decide
  exact forEach_sets (g := fun u => u.rd (PL_RCPHDR i)) hi (fun u => State.rd_wr_self ..) fun x _ hx u =>
    State.rd_wr_ne _ (by simp only [PL_RCPHDR]; omega)

theorem stat_headerTo (w : List Word) (s : State) : (headerTo w s).rd PL_STAT = s.rd PL_STAT :=
  forEach_leaves (g := fun u => u.rd PL_STAT) fun _ _ _ => State.rd_wr_ne _ (by simp only [PL_STAT, PL_RCPHDR]; omega)

theorem putEntry_eq (e : Nat) (w : List Word) (s : State) :
    putEntry e w s = (((s.wr (PL_RCP0 e) (w.getD 0 0)).wr (PL_RCP0 e + 4) (w.getD 1 0)).wr (PL_RCP0 e + 8) (w.getD 2 0)).wr
      (PL_RCP0 e + 12) (w.getD 3 0) := by
  rw [show PL_RCP0 e + 4 = PL_RCP1 e by simp only [PL_RCP0, PL_RCP1]; omega,
    show PL_RCP0 e + 8 = PL_RCP2 e by simp only [PL_RCP0, PL_RCP2]; omega,
    show PL_RCP0 e + 12 = PL_RCP3 e by simp only [PL_RCP0, PL_RCP3]; omega]
  rfl

theorem rd_putEntry_self {i : Nat} (hi : i < 4) (e : Nat) (w : List Word) (s : State) :
    (putEntry e w s).rd (PL_RCP0 e + 4 * i) = w.getD i 0 := by
  rw [putEntry_eq]
  match i, hi with
  | 0, _ =>
    iterate 3 rw [State.rd_wr_ne _ (by omega)]
    exact State.rd_wr_self ..
  | 1, _ =>
    iterate 2 rw [State.rd_wr_ne _ (by omega)]
    exact State.rd_wr_self ..
  | 2, _ =>
    rw [State.rd_wr_ne _ (by omega)]
    exact State.rd_wr_self ..
  | 3, _ => exact State.rd_wr_self ..

theorem rd_putEntry_ne {e a : Nat} (h : a < PL_RCP0 e ∨ PL_RCP0 e + 16 ≤ a) (w : List Word) (s : State) :
    (putEntry e w s).rd a = s.rd a := by
  rw [putEntry_eq]
  iterate 4 rw [State.rd_wr_ne _ (by omega)]

/-- The words of an entry stand one after another. -/
theorem rcpWords_eq (s : State) (e : Nat) : s.rcpWords e = (List.range 4).map fun i => s.rd (PL_RCP0 e + 4 * i) := by
  have h1 : PL_RCP1 e = PL_RCP0 e + 4 := by simp only [PL_RCP0, PL_RCP1]; omega
  have h2 : PL_RCP2 e = PL_RCP0 e + 8 := by simp only [PL_RCP0, PL_RCP2]; omega
  have h3 : PL_RCP3 e = PL_RCP0 e + 12 := by simp only [PL_RCP0, PL_RCP3]; omega
  rw [State.rcpWords, h1, h2, h3]
  rfl

/-- From the header of the recipe buffer on, the planner's words read the same. -/
def SameBuffer (s t : State) : Prop := ∀ a, PL_RCPHDR 0 ≤ a → t.rd a = s.rd a

/-- The words of the planner that stand below the recipe buffer, one each. -/
def statusParts : List Part :=
  [.pl, .reg .PL_ENERGY_HI, .reg .PL_ENERGY_LO, .reg .PL_EVINFO, .reg .PL_MAKESPAN, .reg .PL_PRED, .reg .PL_STAT]

theorem sameBuffer_of_status {s t : State} (h : Frame statusParts s t) : SameBuffer s t := by
  intro a ha
  refine h.rd (by decide) ?_
  simp only [statusParts, List.mem_cons, List.not_mem_nil, or_false, Part.reg.injEq]
  rintro r hr ⟨i, k, rfl⟩
  rcases hr with hr | rfl | rfl | rfl | rfl | rfl | rfl
  · cases hr
  all_goals exact absurd ha (show ¬ PL_RCPHDR 0 ≤ _ by simp only [regAddr]; decide)

/-! ### CLEAR, R210 -/

/-- The results of an entry are cleared. -/
def blankResults (e : Nat) (s : State) : State :=
  (((((s.wr (PL_RES e) 0).wr (PL_RES_START e) 0).wr (PL_RES_END e) 0).wr (PL_RES_TEST e) 0).wr (PL_RES_EEST e) 0).wr
    (PL_RES_EACT e) 0

theorem rd_blankResults_ne {e a : Nat} (h : a < PL_RES e ∨ PL_RES e + 32 ≤ a) (s : State) : (blankResults e s).rd a = s.rd a := by
  unfold blankResults
  simp only [PL_RES, PL_RES_START, PL_RES_END, PL_RES_TEST, PL_RES_EEST, PL_RES_EACT] at h ⊢
  iterate 6 rw [State.rd_wr_ne _ (by omega)]

theorem rd_blankResults_self (e : Nat) (s : State) : (blankResults e s).rd (PL_RES e) = 0 := by
  unfold blankResults
  simp only [PL_RES, PL_RES_START, PL_RES_END, PL_RES_TEST, PL_RES_EEST, PL_RES_EACT]
  iterate 5 rw [State.rd_wr_ne _ (by omega)]
  exact State.rd_wr_self ..

/-- CLEAR empties the results of the plan as a whole. -/
def clearTotals (s : State) : State :=
  (((((((s.wr PL_MAKESPAN 0).wr PL_PRED 0).putPair PL_ENERGY_LO 0).put PL_STAT.FAILCNT 0).put PL_STAT.ERR 0).put
    PL_STAT.ERRENT 0)).wr PL_EVINFO 0

/-- CLEAR empties the recipe buffer and the results entry by entry. -/
def clearEntries (s : State) : State := forEach (List.range 128) (fun e s => blankResults e (putEntry e [] s)) (headerTo [] s)

theorem plClear_eq (s : State) : plClear s = plTo 0 (clearTotals (clearEntries s)) := rfl

theorem clearTotals_ok (s : State) :
    Ok [.reg .PL_ENERGY_HI, .reg .PL_ENERGY_LO, .reg .PL_EVINFO, .reg .PL_MAKESPAN, .reg .PL_PRED, .reg .PL_STAT] s (clearTotals s) :=
  Ok.via (State.wr_at at_PL_EVINFO) rfl <| Ok.via (State.put_at at_PL_STAT) rfl <| Ok.via (State.put_at at_PL_STAT) rfl <|
    Ok.via (State.put_at at_PL_STAT) rfl <| Ok.via (State.putPair_at at_PL_ENERGY_LO hi_PL_ENERGY_LO) rfl <|
    Ok.via (State.wr_at at_PL_PRED) rfl ((State.wr_at at_PL_MAKESPAN).mono rfl)

/-- From the header of the recipe buffer on, CLEAR leaves a word what clearing the entries made it. -/
theorem rd_plClear {a : Nat} (h : PL_RCPHDR 0 ≤ a) (s : State) : (plClear s).rd a = (clearEntries s).rd a := by
  have totals : Ok _ (clearEntries s) (plTo 0 (clearTotals (clearEntries s))) := Ok.via (plTo_ok ..) rfl (clearTotals_ok _)
  exact sameBuffer_of_status (totals.1.mono (by decide)) a h

theorem header_plClear (i : Fin 4) (s : State) : (plClear s).rd (PL_RCPHDR i) = 0 := by
  rw [rd_plClear (by simp only [PL_RCPHDR]; omega), clearEntries,
    forEach_leaves (g := fun u => u.rd (PL_RCPHDR i)) fun e _ u => ?_, rd_headerTo, List.getD_nil]
  rw [rd_blankResults_ne (by simp only [PL_RCPHDR, PL_RES]; omega), rd_putEntry_ne (by simp only [PL_RCPHDR, PL_RCP0]; omega)]

theorem entry_plClear (e : Fin 128) (s : State) : (plClear s).rcpWords e = [0, 0, 0, 0] := by
  have word {i : Nat} (hi : i < 4) : (plClear s).rd (PL_RCP0 e + 4 * i) = 0 := by
    rw [rd_plClear (by simp only [PL_RCPHDR, PL_RCP0]; omega)]
    have below (x : Nat) : PL_RCP0 e + 4 * i < PL_RES x ∨ PL_RES x + 32 ≤ PL_RCP0 e + 4 * i := by simp only [PL_RCP0, PL_RES]; omega
    refine forEach_sets (g := fun u => u.rd (PL_RCP0 e + 4 * i)) (List.mem_range.mpr e.isLt) (fun u => ?_) fun x _ hx u => ?_
    · rw [rd_blankResults_ne (below _), rd_putEntry_self hi, List.getD_nil]
    · rw [rd_blankResults_ne (below _), rd_putEntry_ne (by simp only [PL_RCP0]; omega)]
  rw [rcpWords_eq]
  exact List.map_eq_replicate_iff.mpr fun i hi => word (List.mem_range.mp hi)

theorem result_plClear (e : Fin 128) (s : State) : (plClear s).rd (PL_RES e) = 0 := by
  rw [rd_plClear (by simp only [PL_RCPHDR, PL_RES]; omega)]
  refine forEach_sets (g := fun u => u.rd (PL_RES e)) (List.mem_range.mpr e.isLt) (fun u => rd_blankResults_self ..) fun x hx hne u => ?_
  have hx := List.mem_range.mp hx
  rw [rd_blankResults_ne (by simp only [PL_RES]; omega), rd_putEntry_ne (by simp only [PL_RCP0, PL_RES]; omega)]

theorem plState_plTo {n : Nat} (h : n < 8) (s : State) : (plTo n s).plState = n :=
  (State.get_put_self n (by decide) (by decide)).trans (Nat.mod_eq_of_lt h)

/-- The other fields of PL_STAT stand while the plan state changes. -/
theorem get_plTo {f : Fld} (h : f.hi < 8 ∨ 10 < f.lo) (n : Nat) (s : State) : (plTo n s).get f = s.get f :=
  State.get_put_disj n (by decide) h

theorem err_plClear (s : State) : (plClear s).get PL_STAT.ERR = 0 := by
  rw [plClear_eq, get_plTo (by decide), clearTotals, State.get_wr_ne _ (by decide), State.get_put_disj _ (by decide) (by decide)]
  exact State.get_put_self 0 (by decide) (by decide)

/-! ### The word of a planner command -/

section
variable {cmd slot : Nat}

theorem plWord_toNat (hc : cmd < 16) (hs : slot < 256) (q : Bool) : (plWord cmd slot q).toNat = slot * 256 + b2n q * 16 + cmd := by
  have hq : b2n q ≤ 1 := by cases q <;> decide
  unfold plWord
  rw [BitVec.toNat_ofNat]
  omega

theorem cmd_plWord (hc : cmd < 16) (hs : slot < 256) (q : Bool) : wordField (plWord cmd slot q) 3 0 = cmd := by
  rw [wordField_eq, plWord_toNat hc hs]
  omega

theorem slot_plWord (hc : cmd < 16) (hs : slot < 256) (q : Bool) : wordField (plWord cmd slot q) 15 8 = slot := by
  have hq : b2n q ≤ 1 := by cases q <;> decide
  rw [wordField_eq, plWord_toNat hc hs]
  omega

theorem abq_plWord (hc : cmd < 16) (hs : slot < 256) (q : Bool) : (plWord cmd slot q).getLsbD 4 = q := by
  have bit : wordField (plWord cmd slot q) 4 4 = b2n q := by
    have hq : b2n q ≤ 1 := by cases q <;> decide
    rw [wordField_eq, plWord_toNat hc hs]
    omega
  have inj : ∀ a b : Bool, b2n a = b2n b → a = b := by decide
  exact inj _ _ ((wordField_bit _ _).symm.trans bit)

/-- Bits that no field of PL_CMD holds. -/
theorem plCmd_reserved {i : Nat} (h : (0xffff00e0 : Word).getLsbD i = true) : 5 ≤ i ∧ i ≤ 7 ∨ 16 ≤ i ∧ i ≤ 31 := by
  have hi : i < 32 := BitVec.lt_of_getLsbD h
  revert h
  revert i
  decide

theorem getLsbD_of_wordField_zero {w : Word} {hi lo i : Nat} (h : wordField w hi lo = 0) (hl : lo ≤ i) (hh : i ≤ hi) :
    w.getLsbD i = false := by
  have bit := testBit_wordField w hi lo (i - lo)
  rw [h, Nat.zero_testBit, decide_eq_true (by omega), Bool.true_and, Nat.add_sub_cancel' hl] at bit
  exact bit.symm

theorem plWord_unreserved (hc : cmd < 16) (hs : slot < 256) (q : Bool) : plWord cmd slot q &&& 0xffff00e0 = 0 := by
  have hq : b2n q ≤ 1 := by cases q <;> decide
  refine Word.and_zero_of_bits fun i hi => ?_
  rcases plCmd_reserved hi with ⟨lo, hi⟩ | ⟨lo, hi⟩
  · refine getLsbD_of_wordField_zero (hi := 7) (lo := 5) ?_ lo hi
    rw [wordField_eq, plWord_toNat hc hs]
    omega
  · refine getLsbD_of_wordField_zero (hi := 31) (lo := 16) ?_ lo hi
    rw [wordField_eq, plWord_toNat hc hs]
    omega

theorem plWord_fits (h1 : 1 ≤ cmd) (h8 : cmd ≤ 8) (hs : slot < 256) (q : Bool) :
    fieldsFit entry_PL_CMD.fields (plWord cmd slot q) = true := by
  simp [fieldsFit, checkField, cmd_plWord (show cmd < 16 by omega) hs, h1, h8]

/-! ### A write of PL_CMD -/

/-- Where PL_CMD stands. -/
abbrev plCmdLoc : Loc := ⟨.PL, 0, entry_PL_CMD, 0, false⟩

/-- The lock refuses no command but SAVE and ERASE, R378. -/
theorem lock_plCmd {old w : Word} {s : State} (h : s.locked = false ∨ wordField w 3 0 ≠ 2 ∧ wordField w 3 0 ≠ 3) :
    lockRefuses plCmdLoc old w s = false := by
  rcases h with open_ | ⟨save, erase⟩
  · exact lock_open open_
  · have none : entry_PL_CMD.maskOf (fun f => f.ty = .rws) = 0 := by decide
    simp [lockRefuses, none, save, erase]

variable {m : Master} {s : State}

/-- A command of PL_CMD that R210 does not refuse is carried out. -/
theorem plCmd_written (h : s.mayWrite m PL_CMD) (h1 : 1 ≤ cmd) (h8 : cmd ≤ 8) (hs : slot < 256) (q : Bool)
    (hx : s.plRefused cmd slot = false) (hk : s.locked = false ∨ cmd ≠ 2 ∧ cmd ≠ 3) :
    regWrite m PL_CMD (plWord cmd slot q) s = (plCommand cmd slot q (s.touched PL_CMD)).answer m .done := by
  have hc : cmd < 16 := by omega
  have whole : plWord cmd slot q &&& 0xff1f = plWord cmd slot q := Word.and_of_rest (m := 0xff1f) (plWord_unreserved hc hs q)
  have passes : blockRefuses plCmdLoc (s.before plCmdLoc PL_CMD) (plWord cmd slot q &&& 0xff1f) 0xFFFFFFFF s = false := by
    rw [whole, blockRefuses, lock_plCmd (by rwa [cmd_plWord hc hs]), Bool.false_or]
    refine Bool.or_eq_false_iff.mpr ⟨rfl, ?_⟩
    show s.plRefused (wordField _ 3 0) (wordField _ 15 8) = false
    rw [cmd_plWord hc hs, slot_plWord hc hs, hx]
  have written := command_eq (l := plCmdLoc) h locate_PL_CMD (by decide) rfl rfl rfl
    ((show reservedBits entry_PL_CMD = 0xffff00e0 by decide) ▸ plWord_unreserved hc hs q) rfl rfl (plWord_fits h1 h8 hs q) rfl
    (by dsimp only; decide) rfl rfl rfl (by decide) passes
  rw [written]
  show (plCommand (wordField (_ &&& 0xff1f) 3 0) (wordField (_ &&& 0xff1f) 15 8) ((_ &&& 0xff1f : Word).getLsbD 4)
    (s.touched PL_CMD)).answer m .done = _
  rw [whole, cmd_plWord hc hs, slot_plWord hc hs, abq_plWord hc hs]

/-- While the configuration is locked, R378 refuses SAVE and ERASE. -/
theorem plCmd_locked (h : s.mayWrite m PL_CMD) (hk : s.locked = true) (hs : slot < 256) (hc : cmd = 2 ∨ cmd = 3) :
    regWrite m PL_CMD (plWord cmd slot false) s = busFail m PL_CMD .refused s := by
  have small : cmd < 16 := by omega
  have reserved : plWord cmd slot false &&& reservedBits entry_PL_CMD = 0 :=
    (show reservedBits entry_PL_CMD = 0xffff00e0 by decide) ▸ plWord_unreserved small hs false
  have whole : plWord cmd slot false &&& 0xff1f = plWord cmd slot false :=
    Word.and_of_rest (m := 0xff1f) (plWord_unreserved small hs false)
  have decoded := decodeWrite_fit (l := plCmdLoc) (old := s.before plCmdLoc PL_CMD) (s := s) rfl
    (plWord_fits (cmd := cmd) (by omega) (by omega) hs false) (relateFields_none rfl (by decide) (by decide))
  refine (busWrite_word h.1 (s.mayWrite_target h locate_PL_CMD (by decide)) rfl rfl).trans ?_
  refine (wordWrite_finishes rfl rfl reserved rfl).trans (finishWrite_refused decoded ?_)
  have refuses : lockRefuses plCmdLoc (s.before plCmdLoc PL_CMD) (plWord cmd slot false) s = true := by
    have none : entry_PL_CMD.maskOf (fun f => f.ty = .rws) = 0 := by decide
    simp [lockRefuses, none, hk, cmd_plWord small hs, hc]
  show blockRefuses plCmdLoc _ ((_ &&& 0) ||| (_ &&& 0xff1f)) _ s = true
  rw [whole, Word.and_zero, Word.zero_or, blockRefuses, refuses, Bool.true_or]

/-- Beside what its command changes, a write of PL_CMD answers its master and may mend the word. -/
theorem plCommand_frame {q : Bool} {W : List Part} (command : ∀ u, Ok W u (plCommand cmd slot q u)) :
    Frame (accessParts ++ W) s ((plCommand cmd slot q (s.touched PL_CMD)).answer m .done) := by
  have touch : Ok (accessParts ++ W) s (s.touched PL_CMD) := (State.touched_ok ..).mono rfl
  exact (Ok.via (State.answer_ok ..) rfl (Ok.via (command _) within_right touch)).1

end

/-! ### Commands that take time -/

/-- A planner command is in progress. -/
def plBusy (cmd slot : Nat) (s : State) : State := (s.modPl fun p => { p with cmd := cmd, slot := slot }).put PL_STAT.BUSY 1

theorem plBusy_ok (cmd slot : Nat) (s : State) : Ok [.pl, .reg .PL_STAT] s (plBusy cmd slot s) :=
  Ok.via (State.put_at at_PL_STAT) rfl ((State.modPl_ok ..).mono rfl)

@[simp] theorem pl_plBusy (cmd slot : Nat) (s : State) : (plBusy cmd slot s).pl = { s.pl with cmd := cmd, slot := slot } := rfl

@[simp] theorem on_plBusy (cmd slot : Nat) (s : State) : (plBusy cmd slot s).on PL_STAT.BUSY = true := State.on_put_self 1 (by decide) (by decide)

@[simp] theorem plState_plBusy (cmd slot : Nat) (s : State) : (plBusy cmd slot s).plState = s.plState :=
  State.get_put_disj 1 (by decide) (by decide)

@[simp] theorem State.answer_plState (s : State) (m : Master) (r : Reply) : (s.answer m r).plState = s.plState := rfl
@[simp] theorem State.answer_rcpWords (s : State) (m : Master) (r : Reply) (e : Nat) : (s.answer m r).rcpWords e = s.rcpWords e := rfl
@[simp] theorem State.modPl_plState (s : State) (f : Planner → Planner) : (s.modPl f).plState = s.plState := rfl
@[simp] theorem State.touched_plState (s : State) (a : Nat) : (s.touched a).plState = s.plState := State.touched_get ..
@[simp] theorem State.touched_runWaits (s : State) (a : Nat) : (s.touched a).runWaits = s.runWaits := rfl
@[simp] theorem State.touched_trioState (s : State) (a : Nat) : (s.touched a).trioState = s.trioState := State.touched_get ..

theorem plCommand_begins {cmd : Nat} (h : cmd ∈ [1, 2, 3, 4]) (slot : Nat) (q : Bool) (s : State) :
    plCommand cmd slot q s = plBusy cmd slot s := by
  simp only [List.mem_cons, List.not_mem_nil, or_false] at h
  rcases h with rfl | rfl | rfl | rfl <;> rfl

theorem plCommand_plan (s : State) :
    plCommand 5 0 false s = (plTo 2 (plBusy 5 0 s)).modPl fun p => { p with held := s.trioState = 1 } := rfl

theorem plCommand_run (s : State) :
    plCommand 6 0 false s = (plBusy 6 0 s).modPl fun p => { p with waiting := true, sync := false } := rfl

section
variable {m : Master} {s : State}

/-- LOAD, SAVE, ERASE and LOADX begin. -/
theorem does_begin {c : Instr} {cmd slot : Nat} (hc : exec c s = .next (regWrite m PL_CMD (plWord cmd slot false) s))
    (h : s.mayWrite m PL_CMD) (hm : cmd ∈ [1, 2, 3, 4]) (hs : slot < 256) (hx : s.plRefused cmd slot = false)
    (hk : s.locked = false ∨ cmd ≠ 2 ∧ cmd ≠ 3) : Does c s fun t =>
      t.pl = { s.pl with cmd := cmd, slot := slot } ∧ t.on PL_STAT.BUSY = true ∧ t.plState = s.plState ∧ t.reply m = .done
        ∧ Frame (accessParts ++ [.pl, .reg .PL_STAT]) s t := by
  have range : 1 ≤ cmd ∧ cmd ≤ 8 := by
    simp only [List.mem_cons, List.not_mem_nil, or_false] at hm
    omega
  have begins (u : State) : plCommand cmd slot false u = plBusy cmd slot u := plCommand_begins hm slot false u
  refine .of_eq hc (plCmd_written h range.1 range.2 hs false hx hk)
    ⟨?_, ?_, ?_, State.reply_answer .., plCommand_frame fun u => begins u ▸ plBusy_ok ..⟩
  all_goals rw [begins]
  all_goals simp

theorem does_locked {c : Instr} {cmd slot : Nat} (hc : exec c s = .next (regWrite m PL_CMD (plWord cmd slot false) s))
    (h : s.mayWrite m PL_CMD) (hk : s.locked = true) (hs : slot < 256) (hm : cmd = 2 ∨ cmd = 3) :
    Does c s fun t => t.reply m = .error .refused ∧ Frame errorParts s t := by
  obtain ⟨reply, -, -, -, -, -, frame⟩ := ended_busFail (a := PL_CMD) (by decide) m .refused s
  exact .of_eq hc (plCmd_locked h hk hs hm) ⟨reply, frame⟩

/-- PLAN begins. -/
theorem does_plan (h : s.mayWrite m PL_CMD) (hx : s.plRefused 5 0 = false) : Does (.plan m) s fun t =>
    t.pl = { s.pl with cmd := 5, slot := 0, held := s.trioState = 1 } ∧ t.on PL_STAT.BUSY = true ∧ t.plState = 2 ∧ t.reply m = .done
      ∧ Frame (accessParts ++ [.pl, .reg .PL_STAT]) s t := by
  refine .of_eq rfl (plCmd_written h (by decide) (by decide) (by decide) false hx (.inr (by decide)))
    ⟨?_, ?_, ?_, State.reply_answer .., plCommand_frame fun u => ?_⟩
  all_goals rw [plCommand_plan]
  · simp [plTo]
  · rw [State.answer_on, State.modPl_on]
    exact (congrArg (fun n => decide (n ≠ 0)) (get_plTo (by decide) ..)).trans (on_plBusy ..)
  · rw [State.answer_plState, State.modPl_plState, plState_plTo (by decide)]
  · exact Ok.via (State.modPl_ok ..) rfl (Ok.via (plTo_ok ..) rfl (plBusy_ok ..))

/-- RUN waits for its start source. -/
theorem does_run (h : s.mayWrite m PL_CMD) (hx : s.plRefused 6 0 = false) : Does (.run m) s fun t =>
    t.pl = { s.pl with cmd := 6, slot := 0, waiting := true, sync := false } ∧ t.on PL_STAT.BUSY = true ∧ t.plState = s.plState
      ∧ t.reply m = .done ∧ Frame (accessParts ++ [.pl, .reg .PL_STAT]) s t := by
  refine .of_eq rfl (plCmd_written h (by decide) (by decide) (by decide) false hx (.inr (by decide)))
    ⟨?_, ?_, ?_, State.reply_answer .., plCommand_frame fun u => ?_⟩
  all_goals rw [plCommand_run]
  · simp
  · simp
  · simp
  · exact Ok.via (State.modPl_ok ..) rfl (plBusy_ok ..)

/-! ### ABORT, R210 and R226 -/

theorem plCommand_abort_waiting {q : Bool} (h : s.runWaits = true) :
    plCommand 7 0 q s = (s.modPl fun p => { p with waiting := false, sync := false, cmd := 0 }).put PL_STAT.BUSY 0 := if_pos h

theorem plCommand_abort_active {q : Bool} (h : s.runWaits = false) (h4 : s.plState = 4) :
    plCommand 7 0 q s = s.modPl fun p => { p with abort := some (q || p.abort = some true) } :=
  (if_neg (Bool.eq_false_iff.mp h)).trans (if_pos h4)

theorem plCommand_abort_quick (h : s.runWaits = false) (h4 : s.plState ≠ 4) :
    plCommand 7 0 true s = s.modPl fun p => { p with abort := some true } :=
  (if_neg (Bool.eq_false_iff.mp h)).trans ((if_neg h4).trans (if_pos rfl))

theorem plCommand_abort_ok (q : Bool) (s : State) : Ok [.pl, .reg .PL_STAT] s (plCommand 7 0 q s) :=
  Ok.ite (Ok.via (State.put_at at_PL_STAT) rfl ((State.modPl_ok ..).mono rfl))
    (Ok.ite ((State.modPl_ok ..).mono rfl) (Ok.ite ((State.modPl_ok ..).mono rfl) .refl))

theorem does_abort (abq : Bool) (h : s.mayWrite m PL_CMD) (hx : s.plRefused 7 0 = false) : Does (.abort m abq) s fun t =>
    (s.runWaits = true → t.pl = { s.pl with waiting := false, sync := false, cmd := 0 } ∧ t.on PL_STAT.BUSY = false)
      ∧ (s.runWaits = false → s.plState = 4 → t.pl.abort = some (abq || s.pl.abort = some true))
      ∧ (s.runWaits = false → s.plState = 5 → abq = true → t.pl.abort = some true)
      ∧ t.reply m = .done ∧ Frame (accessParts ++ [.pl, .reg .PL_STAT]) s t := by
  refine .of_eq rfl (plCmd_written h (by decide) (by decide) (by decide) abq hx (.inr (by decide)))
    ⟨fun waits => ?_, fun idle active => ?_, fun idle aborting quick => ?_, State.reply_answer .., plCommand_frame (plCommand_abort_ok abq)⟩
  · rw [plCommand_abort_waiting (by simpa using waits)]
    exact ⟨rfl, on_eq_false (State.get_put_self 0 (by decide) (by decide))⟩
  · rw [plCommand_abort_active (by simpa using idle) (by simpa using active)]
    rfl
  · rw [quick, plCommand_abort_quick (by simpa using idle) (by rw [State.touched_plState, aborting]; decide)]
    rfl

/-- CLEAR empties the planner at once. -/
theorem does_clear (h : s.mayWrite m PL_CMD) (hx : s.plRefused 8 0 = false) : Does (.clear m) s fun t =>
    t.plState = 0 ∧ t.get PL_STAT.ERR = 0 ∧ (∀ e : Fin 128, t.rcpWords e = [0, 0, 0, 0] ∧ t.rd (PL_RES e) = 0)
      ∧ (∀ i : Fin 4, t.rd (PL_RCPHDR i) = 0) ∧ t.pl = s.pl ∧ t.reply m = .done
      ∧ Frame (accessParts ++ bufferParts ++ [.reg .PL_STAT, .reg .PL_EVINFO, .reg .PL_MAKESPAN, .reg .PL_PRED, .reg .PL_ENERGY_LO,
          .reg .PL_ENERGY_HI, .reg .PL_RES, .reg .PL_RES_START, .reg .PL_RES_END, .reg .PL_RES_TEST, .reg .PL_RES_EEST,
          .reg .PL_RES_EACT]) s t := by
  have cleared (u : State) : plCommand 8 0 false u = plClear u := rfl
  have frame := plCommand_frame (m := m) (s := s) fun u => cleared u ▸ plClear_ok u
  refine .of_eq rfl (plCmd_written h (by decide) (by decide) (by decide) false hx (.inr (by decide)))
    ⟨?_, ?_, fun e => ⟨?_, ?_⟩, fun i => ?_, ?_, State.reply_answer .., frame.mono (by decide)⟩
  all_goals rw [cleared]
  · rw [State.answer_plState, plClear_eq, plState_plTo (by decide)]
  · rw [State.answer_get, err_plClear]
  · rw [State.answer_rcpWords, entry_plClear]
  · rw [State.answer_rd, result_plClear]
  · rw [State.answer_rd, header_plClear]
  · rw [State.answer_pl]
    exact (plClear_ok (s.touched PL_CMD)).1.1 .pl (by decide)

end

/-- Settles O22: a command that R210 does not refuse is carried out (`plCmd_written`), but SAVE and ERASE while the configuration is
locked (`plCmd_locked`). -/
theorem planCommandsComplete : Obligations.PlanCommandsComplete := by
  unfold Obligations.PlanCommandsComplete
  intro s m h begun
  have begins {c : Instr} {cmd slot : Nat} (hc : exec c s = .next (regWrite m PL_CMD (plWord cmd slot false) s))
      (hm : cmd ∈ [1, 2, 3, 4]) (hs : slot < 256) (hx : s.plRefused cmd slot = false)
      (hk : s.locked = false ∨ cmd ≠ 2 ∧ cmd ≠ 3) : Does c s (begun cmd slot) := does_begin hc h hm hs hx hk
  refine ⟨fun slot => ⟨?_, ?_, ?_, ?_⟩, ?_, does_plan h, does_run h, fun abq => does_abort abq h, does_clear h⟩
  · exact fun hx => begins rfl (by decide) slot.isLt hx (.inr (by decide))
  · exact fun hk hx => begins rfl (by decide) slot.isLt hx (.inl hk)
  · exact fun hk hx => begins rfl (by decide) slot.isLt hx (.inl hk)
  · intro hk i hi
    simp only [List.mem_cons, List.not_mem_nil, or_false] at hi
    rcases hi with rfl | rfl
    · exact does_locked rfl h hk slot.isLt (.inl rfl)
    · exact does_locked rfl h hk slot.isLt (.inr rfl)
  · exact fun hx => begins rfl (by decide) (by decide) hx (.inr (by decide))

end Sys2Proof.Machine

/-!
# O23: planning, the ends of planner commands, the plan start and writes of the recipe
-/
namespace Sys2Proof.Machine

/-! ### The planner's words beside what happens elsewhere -/

/-- The words of the planner's block read the same. -/
def SamePlan (s t : State) : Prop := ∀ a, 0x80000 ≤ a → a < 0x90000 → t.rd a = s.rd a

namespace SamePlan
variable {s t u : State}

theorem refl (s : State) : SamePlan s s := fun _ _ _ => rfl

theorem trans (h : SamePlan s t) (h' : SamePlan t u) : SamePlan s u := fun a ha hb => (h' a ha hb).trans (h a ha hb)

theorem wr {a : Nat} (w : Word) (ha : a < 0x80000 ∨ 0x90000 ≤ a) : SamePlan s (s.wr a w) :=
  fun _ hb hc => State.rd_wr_ne _ (by omega)

theorem put {f : Fld} (v : Nat) (ha : f.addr < 0x80000 ∨ 0x90000 ≤ f.addr) : SamePlan s (s.put f v) := .wr _ ha

theorem pend {src cause idx : Nat} (h : src < 128) : SamePlan s (pend src cause idx s) :=
  fun _ hb hc => rd_pend_ne (by simp only [MGS_LOGSTAT]; omega) (by simp only [EV_PEND]; omega)

theorem pendSrc {src : Nat} (h : src < 128) : SamePlan s (pendSrc src s) := .pend h

theorem inc {f : Fld} (ha : f.addr < 0x80000 ∨ 0x90000 ≤ f.addr) : SamePlan s (s.inc f) := .put _ ha

theorem modSd {d : Nat} {f : SdMod → SdMod} : SamePlan s (s.modSd d f) := fun _ _ _ => rfl

theorem forEach {α : Type} {l : List α} {f : α → State → State} (h : ∀ x ∈ l, ∀ u, SamePlan u (f x u)) :
    SamePlan s (Machine.forEach l f s) := forEach_keeps (P := SamePlan s) (fun x hx u hu => hu.trans (h x hx u)) (.refl s)

theorem get (h : SamePlan s t) {f : Fld} (ha : 0x80000 ≤ f.addr) (hb : f.addr < 0x90000) : t.get f = s.get f :=
  congrArg (wordField · f.hi f.lo) (h _ ha hb)

theorem on (h : SamePlan s t) {f : Fld} (ha : 0x80000 ≤ f.addr) (hb : f.addr < 0x90000) : t.on f = s.on f :=
  congrArg (fun n => decide (n ≠ 0)) (h.get ha hb)

end SamePlan

/-! ### An urgent trigger leaves the planner alone, R267 and R268 -/

/-- What lands in a shared word of the front end starts nothing. -/
theorem landed_shared {addr : Nat} (h : addr ∈ sharedWords) {l : Loc} (hl : locate addr = some l) (m old : Word) (s : State) :
    landed l m old s = s := by
  simp only [sharedWords, List.mem_cons, List.not_mem_nil, or_false] at h
  rcases h with rfl | rfl | rfl
  · cases locate_AFE_IEXC.symm.trans hl
    rfl
  · cases locate_AFE_VEXC.symm.trans hl
    rfl
  · cases locate_AFE_TDAC.symm.trans hl
    rfl

theorem sharedWords_low {addr : Nat} (h : addr ∈ sharedWords) : addr < 0x80000 := by
  simp only [sharedWords, List.mem_cons, List.not_mem_nil, or_false] at h
  rcases h with rfl | rfl | rfl <;> decide

theorem samePlan_landWords {addr : Nat} (h : addr ∈ sharedWords) (s : State) : SamePlan s (landWords .conv [addr] s) := by
  have only {x : Nat × Word × Word} (hx : x ∈ ([addr].map fun b => (b, s.landing .conv b, s.rd b)).filter fun x => x.2.1 ≠ 0) :
      x.1 = addr := by
    obtain ⟨b, hb, rfl⟩ := List.mem_map.mp (List.mem_of_mem_filter hx)
    exact List.mem_singleton.mp hb
  unfold landWords
  refine .trans (.forEach fun x hx u => ?_) (.forEach fun x hx u => ?_)
  · exact .wr _ (.inl (only hx ▸ sharedWords_low h))
  · split
    · exact .refl u
    · rename_i l hl
      rw [landed_shared h (only hx ▸ hl)]
      exact .refl u

theorem samePlan_sharedLand (s : State) : SamePlan s (sharedLand s) := by
  unfold sharedLand
  refine .trans (.forEach fun addr ha u => ?_) (.put _ (.inl (by decide)))
  split
  · exact samePlan_landWords ha u
  · exact .refl u

theorem samePlan_sdStatus {d : Nat} (h : d < 4) (s : State) : SamePlan s (sdStatus d s) := by
  have low : SD_STAT d < 0x80000 := by simp only [SD_STAT]; omega
  unfold sdStatus
  exact .trans (.trans (.trans (fun _ _ _ => rfl) (.put _ (.inl low))) (.put _ (.inl low))) (.put _ (.inl low))

theorem rd_momentOf (now : Option Nat) (s : State) (a : Nat) : (momentOf now s).2.rd a = s.rd a := by cases now <;> rfl

theorem samePlan_cutOn (d : Nat) (now : Option Nat) (s : State) : SamePlan s (cutOn d now s) := by
  unfold cutOn
  split
  · exact .refl s
  · dsimp only
    split
    · exact .refl s
    · exact fun a _ _ => rd_momentOf now s a

theorem samePlan_sdAbort {d : Nat} (h : d < 4) (now : Option Nat) (s : State) : SamePlan s (sdAbort d now s) := by
  unfold sdAbort
  split
  · exact fun _ _ _ => rfl
  · refine .trans (.trans (samePlan_cutOn d now s) ?_) (samePlan_sharedLand _)
    exact .trans .modSd (samePlan_sdStatus h _)

theorem samePlan_urgent {d : Nat} (h : d < 4) (now : Option Nat) (s : State) : SamePlan s (urgent now d s) := by
  unfold urgent
  dsimp only
  split
  · exact .refl s
  · split
    · have counted : SamePlan s (s.inc (SD_CNT.INJDROP d)) := .inc (.inl (by simp only [SD_CNT]; omega))
      exact counted.trans (.pendSrc (by decide))
    · refine (samePlan_sdAbort h now s).trans ?_
      exact .trans .modSd (samePlan_sdStatus h _)

theorem samePlan_plannerTrigger (s : State) : SamePlan s (plannerTrigger s) :=
  .forEach fun _ hd u => samePlan_urgent (List.mem_range.mp (List.mem_of_mem_filter hd)) _ u

/-! ### A bus error leaves the planner alone, R84 -/

theorem samePlan_pendD4 {src cause idx : Nat} (h : src < 128) (s : State) : SamePlan s (pendD4 src cause idx s) := by
  rw [pendD4_eq]
  split
  · exact fun _ _ _ => rfl
  · exact .pend h

theorem samePlan_errKept (m : Master) (addr : Nat) (e : BusErr) (s : State) : SamePlan s (errKept m addr e s) := by
  unfold errKept
  split
  · exact .put _ (.inl (by decide))
  · exact .trans (.trans (.trans (.put _ (.inl (by decide))) (.put _ (.inl (by decide)))) (.put _ (.inl (by decide))))
      (.put _ (.inl (by decide)))

theorem samePlan_recordErr (m : Master) (addr : Nat) (e : BusErr) (s : State) : SamePlan s (recordErr m addr e s) := by
  have counted : SamePlan (errKept m addr e s) ((errKept m addr e s).inc GCTL_BUSERRCNT.COUNT) := .inc (.inl (by decide))
  refine ((samePlan_errKept m addr e s).trans counted).trans ?_
  rw [recordErr_eq]
  dsimp only
  split
  · exact samePlan_pendD4 (by decide) _
  · exact .pendSrc e.event_lt

/-- The reads of a LOADX leave the planner's words alone. -/
theorem samePlan_loadxReads (n : Nat) (s : State) : SamePlan s (loadxReads n s) := by
  unfold loadxReads
  split
  · exact .refl s
  · exact (samePlan_pendD4 (src := 113) (by decide) s).trans (samePlan_recordErr _ _ _ _)

/-! ### What the planner reads of the recipe -/

section
variable {s t : State}

/-- The first word of an entry, which says all but its goal. -/
theorem rcpAxis_of_rd {e : Nat} (h : t.rd (PL_RCP0 e) = s.rd (PL_RCP0 e)) : t.rcpAxis e = s.rcpAxis e :=
  congrArg (wordField · 30 24) h

theorem rcpAfter_of_rd {e : Nat} (h : t.rd (PL_RCP0 e) = s.rd (PL_RCP0 e)) : t.rcpAfter e = s.rcpAfter e :=
  congrArg (fun w => decide (wordField w 20 20 = 1)) h

theorem rcpValid_of_rd {e : Nat} (h : t.rd (PL_RCP0 e) = s.rd (PL_RCP0 e)) : t.rcpValid e = s.rcpValid e :=
  congrArg (fun w => decide (wordField w 31 31 = 1)) h

theorem validEntries_of_rd (h : ∀ e < 128, t.rd (PL_RCP0 e) = s.rd (PL_RCP0 e)) : t.validEntries = s.validEntries :=
  List.filter_congr fun e he => rcpValid_of_rd (h e (List.mem_range.mp he))

theorem lt_of_mem_validEntries {e : Nat} (h : e ∈ s.validEntries) : e < 128 := List.mem_range.mp (List.mem_of_mem_filter h)

theorem nodup_validEntries (s : State) : s.validEntries.Nodup := List.nodup_range.filter _

theorem length_validEntries_le (s : State) : s.validEntries.length ≤ 128 :=
  (List.length_filter_le ..).trans_eq List.length_range

/-! ### PLAN ends, R213 -/

theorem planComplete_waits (h : s.trioRuns = false ∨ s.trioClock = false ∨ (s.pl.held = true ∧ s.trioState = 1)) :
    planComplete s = s := by
  refine if_pos ?_
  rcases h with h | h | ⟨held, resync⟩
  · simp [h]
  · simp [h]
  · simp [held, resync]

/-- PLAN is in progress, and the trio's firmware runs to finish it, R210. -/
structure Planning (s : State) : Prop where
  state : s.plState = 2
  busy : s.on PL_STAT.BUSY = true
  runs : s.trioRuns = true
  clock : s.trioClock = true
  free : s.pl.held = false ∨ s.trioState ≠ 1

theorem Planning.goes (h : Planning s) :
    ¬ (s.plState ≠ 2 || !s.on PL_STAT.BUSY || !s.trioRuns || !s.trioClock || (s.pl.held && s.trioState = 1)) = true := by
  obtain ⟨state, busy, runs, clock, free⟩ := h
  rcases free with free | free <;> simp [state, busy, runs, clock, free]

/-- PLAN finds an entry that fails a check. -/
theorem planComplete_fails (h : Planning s) {e : Nat} (he : s.validEntries.find? (fun e => s.entryError e ≠ 0) = some e) :
    planComplete s = planFail (s.entryError e) e s := by
  unfold planComplete
  rw [if_neg h.goes]
  simp only [he]

theorem entryError_le (s : State) (e : Nat) : s.entryError e ≤ 8 := by
  unfold State.entryError
  dsimp only
  split_ifs <;> omega

theorem busy_planFail (err ent : Nat) (s : State) : (planFail err ent s).on PL_STAT.BUSY = false :=
  on_eq_false ((get_plTo (by decide) ..).trans (State.get_put_self 0 (by decide) (by decide)))

theorem err_planFail {err : Nat} (h : err < 16) (ent : Nat) (s : State) : (planFail err ent s).get PL_STAT.ERR = err := by
  rw [planFail, get_plTo (by decide), State.get_put_disj _ (by decide) (by decide), State.get_put_disj _ (by decide) (by decide),
    State.get_put_self _ (by decide) (by decide)]
  exact Nat.mod_eq_of_lt h

theorem errent_planFail {ent : Nat} (h : ent < 128) (err : Nat) (s : State) : (planFail err ent s).get PL_STAT.ERRENT = ent := by
  rw [planFail, get_plTo (by decide), State.get_put_disj _ (by decide) (by decide), State.get_put_self _ (by decide) (by decide)]
  exact Nat.mod_eq_of_lt h

end

/-! ### The order of a plan, R219 -/

theorem orderInto_perm {α : Type} (before : α → α → Bool) (x : α) (l : List α) : (orderInto before x l).Perm (x :: l) := by
  induction l with
  | nil => exact .refl _
  | cons y l ih =>
    unfold orderInto
    split
    · exact .refl _
    · exact (ih.cons y).trans (.swap x y l)

theorem orderBy_perm {α : Type} (before : α → α → Bool) (l : List α) : (orderBy before l).Perm l := by
  induction l with
  | nil => exact .refl _
  | cons x l ih => exact (orderInto_perm before x _).trans (ih.cons x)

/-- The valid entries in the order of R219. -/
def planOrder (s : State) : List SimEntry := orderBy simBefore (s.validEntries.map s.simEntry)

theorem entries_planOrder (s : State) : ((planOrder s).map (·.e)).Perm s.validEntries := by
  refine ((orderBy_perm simBefore _).map (·.e)).trans (.of_eq ?_)
  rw [List.map_map]
  exact List.map_id _

theorem length_planOrder (s : State) : (planOrder s).length = s.validEntries.length := by
  have len := (entries_planOrder s).length_eq
  rwa [List.length_map] at len

/-- PL_ORD takes the order. -/
def orderTo (order : List SimEntry) (s : State) : State :=
  forEach (List.range order.length) (fun k s => s.put (PL_ORD.ENTRY k) ((order.map (·.e)).getD k 0)) s

/-- The results take the predictions of each entry. -/
def predictEach (order : List SimEntry) (s : State) : State :=
  forEach order (fun x s => (s.put (PL_RES_TEST.TEST x.e) x.dur).put (PL_RES_EEST.EEST x.e) (s.entryEnergy x.e x.dur)) s

/-- What a plan keeps for R227. -/
def planKept (count : Nat) (s : State) : State :=
  s.modPl fun p => { p with
    heldT := (List.range 16).map fun r => (s.rd (RK_THERM r)).toNat
    heldVm := (List.range 4).map fun c => (s.rd (CO_VM c)).toNat
    count := count }

/-- The prediction of the plan stands, and no error. -/
def planReady (n : Nat) (s : State) : State := plTo 3 ((((s.put PL_PRED.TICKS n).put PL_STAT.BUSY 0).put PL_STAT.ERR 0).put PL_STAT.ERRENT 0)

section
variable {s : State} {n : Nat}

theorem planComplete_plans (h : Planning s) (he : ∀ e ∈ s.validEntries, s.entryError e = 0)
    (hs : simulate (s.get PL_CFG.PASSMAX) s.room 1000 0 (planOrder s) = .ok n) :
    planComplete s = planReady n (planKept s.validEntries.length (predictEach (planOrder s) (orderTo (planOrder s) s))) := by
  have none : s.validEntries.find? (fun e => s.entryError e ≠ 0) = none :=
    List.find?_eq_none.mpr fun e hm => by simp [he e hm]
  unfold planOrder at hs
  unfold planComplete
  rw [if_neg h.goes]
  simp only [none, hs]
  rfl

theorem get_orderTo {order : List SimEntry} {k : Nat} (hk : k < order.length) (s : State) :
    (orderTo order s).get (PL_ORD.ENTRY k) = (order.map (·.e)).getD k 0 % 128 := by
  refine forEach_sets (g := fun u => u.get (PL_ORD.ENTRY k)) (List.mem_range.mpr hk)
    (fun u => State.get_put_self _ (by simp) (by simp)) fun x _ hx u => State.get_put_ne _ (by simp only [PL_ORD]; omega)

theorem rd_orderTo {order : List SimEntry} (hl : order.length ≤ 128) {a : Nat} (ha : PL_RCP0 0 ≤ a) (s : State) :
    (orderTo order s).rd a = s.rd a := by
  refine forEach_leaves (g := fun u => u.rd a) fun k hk u => State.rd_put_ne _ ?_
  have hk := List.mem_range.mp hk
  simp only [PL_RCP0, PL_ORD] at ha ⊢
  omega

theorem rd_predictEach {a : Nat} (ha : a < PL_RES 0) (order : List SimEntry) (s : State) : (predictEach order s).rd a = s.rd a := by
  refine forEach_leaves (g := fun u => u.rd a) fun x _ u => ?_
  simp only [PL_RES] at ha
  exact (State.rd_put_ne _ (by simp only [PL_RES_EEST]; omega)).trans (State.rd_put_ne _ (by simp only [PL_RES_TEST]; omega))

theorem planReady_ok (n : Nat) (s : State) : Ok [.reg .PL_PRED, .reg .PL_STAT] s (planReady n s) :=
  Ok.via (plTo_ok ..) rfl <| Ok.via (State.put_at at_PL_STAT) rfl <| Ok.via (State.put_at at_PL_STAT) rfl <|
    Ok.via (State.put_at at_PL_STAT) rfl ((State.put_at at_PL_PRED).mono rfl)

theorem sameBuffer_planKept (n count : Nat) (s : State) : SameBuffer s (planReady n (planKept count s)) :=
  have kept : Ok statusParts s (planKept count s) := (State.modPl_ok ..).mono rfl
  sameBuffer_of_status (Ok.via (planReady_ok ..) rfl kept).1

/-- The plan that PLAN makes names every valid entry once. -/
theorem orderGood_planned {t : State}
    (ht : t = planReady n (planKept s.validEntries.length (predictEach (planOrder s) (orderTo (planOrder s) s)))) :
    t.orderGood = true := by
  have short : (planOrder s).length ≤ 128 := (length_planOrder s).trans_le (length_validEntries_le s)
  have buffer : SameBuffer (predictEach (planOrder s) (orderTo (planOrder s) s)) t := ht ▸ sameBuffer_planKept _ _ _
  have valid : t.validEntries = s.validEntries := validEntries_of_rd fun e he => by
    rw [buffer _ (by simp only [PL_RCPHDR, PL_RCP0]; omega), rd_predictEach (by simp only [PL_RCP0, PL_RES]; omega),
      rd_orderTo short (by simp only [PL_RCP0]; omega)]
  have order : (List.range s.validEntries.length).map (fun k => t.get (PL_ORD.ENTRY k)) = (planOrder s).map (·.e) := by
    refine List.ext_getElem (by simp [length_planOrder]) fun k h1 h2 => ?_
    have hk : k < (planOrder s).length := by simpa using h2
    have entry : ((planOrder s).map (·.e))[k] < 128 :=
      lt_of_mem_validEntries ((entries_planOrder s).mem_iff.mp (List.getElem_mem h2))
    have read : t.get (PL_ORD.ENTRY k) = (orderTo (planOrder s) s).get (PL_ORD.ENTRY k) :=
      congrArg (wordField · 6 0) ((buffer _ (by simp only [PL_RCPHDR, PL_ORD]; omega)).trans
        (rd_predictEach (by simp only [PL_ORD, PL_RES]; omega) ..))
    rw [List.getElem_map, List.getElem_range, read, get_orderTo hk, List.getD_eq_getElem _ _ h2, Nat.mod_eq_of_lt entry]
  unfold State.orderGood
  dsimp only
  rw [valid, order]
  refine List.all_eq_true.mpr fun e he => decide_eq_true ?_
  rw [((entries_planOrder s).filter _).length_eq]
  exact (List.count_eq_length_filter ..).symm.trans (List.count_eq_one_of_mem (nodup_validEntries s) he)

end

section
variable {s : State}

theorem does_plan_fails (h : Planning s) {e : Nat} (he : s.validEntries.find? (fun e => s.entryError e ≠ 0) = some e) :
    Does .planComplete s fun t => t.plState = 1 ∧ t.get PL_STAT.ERR = s.entryError e ∧ t.get PL_STAT.ERRENT = e
      ∧ t.on PL_STAT.BUSY = false ∧ Frame [.reg .PL_STAT] s t :=
  .of_eq rfl (planComplete_fails h he) ⟨plState_plTo (by decide) _, err_planFail (Nat.lt_of_le_of_lt (entryError_le s e) (by decide)) ..,
    errent_planFail (lt_of_mem_validEntries (List.mem_of_find?_eq_some he)) .., busy_planFail .., (planFail_ok ..).1⟩

theorem does_plan_ready {n : Nat} (h : Planning s) (he : ∀ e ∈ s.validEntries, s.entryError e = 0)
    (hs : simulate (s.get PL_CFG.PASSMAX) s.room 1000 0 (planOrder s) = .ok n) : Does .planComplete s fun t =>
      t.plState = 3 ∧ t.get PL_STAT.ERR = 0 ∧ t.on PL_STAT.BUSY = false ∧ t.get PL_PRED.TICKS = n % 2 ^ 32
        ∧ t.pl.count = s.validEntries.length ∧ t.orderGood = true
        ∧ Frame [.pl, .reg .PL_ORD, .reg .PL_PRED, .reg .PL_RES_EEST, .reg .PL_RES_TEST, .reg .PL_STAT] s t := by
  have plans := planComplete_plans h he hs
  refine .of_eq rfl plans ⟨plState_plTo (by decide) _, ?_, on_eq_false ?_, ?_, rfl, orderGood_planned rfl, plans ▸ (planComplete_ok s).1⟩
  all_goals unfold planReady
  · rw [get_plTo (by decide), State.get_put_disj _ (by decide) (by decide)]
    exact State.get_put_self 0 (by decide) (by decide)
  · rw [get_plTo (by decide), State.get_put_disj _ (by decide) (by decide), State.get_put_disj _ (by decide) (by decide)]
    exact State.get_put_self 0 (by decide) (by decide)
  · unfold plTo
    iterate 4 rw [State.get_put_ne _ (by decide)]
    exact State.get_put_self n (by decide) (by decide)

end

/-! ### The image of a recipe, R212 -/

/-- The entries of the recipe buffer take the words of an image; those above its count are cleared. -/
def entriesTo (w : List Word) (s : State) : State :=
  forEach (List.range 128) (fun e s => putEntry e (if e < wordField (w.getD 1 0) 23 16 then (w.drop (4 + 4 * e)).take 4 else []) s) s

theorem loadImage_eq (w : List Word) (s : State) : loadImage w s = plTo 1 (entriesTo w (headerTo w s)) := rfl

/-- The recipe buffer holds an image, and the plan state is that of a loaded recipe. -/
def Loaded (w : List Word) (s t : State) : Prop :=
  t.plState = 1 ∧ t.get PL_STAT.ERR = 0 ∧ (∀ i : Fin 4, t.rd (PL_RCPHDR i) = w.getD i 0)
    ∧ (∀ e : Fin 128, ∀ i < 4, (t.rcpWords e).getD i 0 = if e < wordField (w.getD 1 0) 23 16 then w.getD (4 + 4 * e + i) 0 else 0)
    ∧ Frame (bufferParts ++ [.pl, .reg .PL_STAT]) s t

section
variable {s t : State}

theorem SameBuffer.trans {u : State} (h : SameBuffer s t) (h' : SameBuffer t u) : SameBuffer s u :=
  fun a ha => (h' a ha).trans (h a ha)

theorem SameBuffer.rcpWords (h : SameBuffer s t) (e : Nat) : t.rcpWords e = s.rcpWords e := by
  rw [rcpWords_eq, rcpWords_eq]
  exact List.map_congr_left fun i _ => h _ (by simp only [PL_RCPHDR, PL_RCP0]; omega)

theorem SameBuffer.validEntries (h : SameBuffer s t) : t.validEntries = s.validEntries :=
  validEntries_of_rd fun e _ => h _ (by simp only [PL_RCPHDR, PL_RCP0]; omega)

/-- SAVE writes what the recipe buffer holds. -/
theorem SameBuffer.recipeImage (h : SameBuffer s t) : t.recipeImage = s.recipeImage := by
  unfold State.recipeImage State.saveCount
  rw [h.validEntries, h (PL_RCPHDR 0) (Nat.le_refl _), show t.rcpWords = s.rcpWords from funext h.rcpWords]

theorem rcpWords_getD {i : Nat} (h : i < 4) (s : State) (e : Nat) : (s.rcpWords e).getD i 0 = s.rd (PL_RCP0 e + 4 * i) := by
  rw [rcpWords_eq, List.getD_eq_getElem _ _ (by simpa using h), List.getElem_map, List.getElem_range]

theorem sameBuffer_put (f : Fld) (v : Nat) (h : f.addr = PL_STAT) (s : State) : SameBuffer s (s.put f v) :=
  fun a ha => State.rd_put_ne _ (by rw [h]; simp only [PL_RCPHDR, PL_STAT] at ha ⊢; omega)

theorem header_entriesTo (w : List Word) (i : Fin 4) (s : State) : (entriesTo w s).rd (PL_RCPHDR i) = s.rd (PL_RCPHDR i) :=
  forEach_leaves (g := fun u => u.rd (PL_RCPHDR i)) fun e _ _ => rd_putEntry_ne (by simp only [PL_RCPHDR, PL_RCP0]; omega) ..

theorem getD_take_drop {α : Type} {w : List α} {k n i : Nat} (h : i < n) (d : α) : ((w.drop k).take n).getD i d = w.getD (k + i) d := by
  simp only [List.getD_eq_getElem?_getD, List.getElem?_take, h, if_true, List.getElem?_drop]

theorem entry_entriesTo (w : List Word) (e : Fin 128) {i : Nat} (hi : i < 4) (s : State) :
    (entriesTo w s).rd (PL_RCP0 e + 4 * i) = if e < wordField (w.getD 1 0) 23 16 then w.getD (4 + 4 * e + i) 0 else 0 := by
  refine forEach_sets (g := fun u => u.rd (PL_RCP0 e + 4 * i)) (List.mem_range.mpr e.isLt) (fun u => ?_) fun x _ hx u =>
    rd_putEntry_ne (by simp only [PL_RCP0]; omega) ..
  refine (rd_putEntry_self hi ..).trans ?_
  split
  · exact getD_take_drop hi 0
  · exact List.getD_nil ..

/-- A LOAD or LOADX whose image is good. -/
theorem loaded_loadImage (w : List Word) (hs : Frame [.pl, .reg .PL_STAT] s t) : Loaded w s ((loadImage w t).put PL_STAT.ERR 0) := by
  have state : SameBuffer (entriesTo w (headerTo w t)) ((loadImage w t).put PL_STAT.ERR 0) :=
    .trans (sameBuffer_put PL_STAT.STATE 1 rfl _) (sameBuffer_put _ _ rfl _)
  refine ⟨?_, State.get_put_self 0 (by decide) (by decide), fun i => ?_, fun e i hi => ?_, ?_⟩
  · exact (State.get_put_disj 0 (by decide) (by decide)).trans (plState_plTo (by decide) _)
  · rw [state _ (by simp only [PL_RCPHDR]; omega), header_entriesTo, rd_headerTo]
  · rw [rcpWords_getD hi, state _ (by simp only [PL_RCPHDR, PL_RCP0]; omega), entry_entriesTo w e hi]
  · exact (hs.mono (by decide)).trans (Ok.via (State.put_at at_PL_STAT) rfl ((loadImage_ok w t).mono rfl)).1

/-! ### What the end of a command does, R210 -/

/-- The command is over. -/
def plIdle (s : State) : State := (s.put PL_STAT.BUSY 0).modPl fun p => { p with cmd := 0 }

theorem plIdle_ok (s : State) : Ok [.pl, .reg .PL_STAT] s (plIdle s) :=
  Ok.via (State.modPl_ok ..) rfl ((State.put_at at_PL_STAT).mono rfl)

theorem sameBuffer_plIdle (s : State) : SameBuffer s (plIdle s) := sameBuffer_of_status ((plIdle_ok s).1.mono (by decide))

/-- An error code in PL_STAT. -/
def plError (n : Nat) (s : State) : State := s.put PL_STAT.ERR n

/-- A LOAD or LOADX ends with the image it read. -/
def loadEnd (w : List Word) (s : State) : State :=
  if imageError w ≠ 0 then plError (imageError w) s else plError 0 (loadImage w s)

/-- The image in the slot of the command in progress. -/
def State.slotImage (s : State) : List Word := Sparse.get (fun _ => []) s.recipes s.pl.slot

/-- The slot of the command in progress takes an image. -/
def keepImage (w : List Word) (slot : Nat) (s : State) : State := { s with recipes := Sparse.set (fun _ => []) s.recipes slot w }

variable {ok : Bool} {flash : List Word}

/-- A command that takes time is in progress. -/
def Commanded (cmd : Nat) (s : State) : Prop := s.on PL_STAT.BUSY = true ∧ s.pl.cmd = cmd

theorem plEnd_load (h : Commanded 1 s) :
    plEnd ok flash s = if s.slotImage.isEmpty then plError 6 (plIdle s) else loadEnd s.slotImage (plIdle s) := by
  obtain ⟨busy, cmd⟩ := h
  simp only [plEnd, busy, cmd]
  rfl

theorem plEnd_save (h : Commanded 2 s) :
    plEnd ok flash s = if ok then plError 0 (keepImage s.recipeImage s.pl.slot (headerTo s.recipeImage (plIdle s)))
      else plError 9 (plIdle s) := by
  obtain ⟨busy, cmd⟩ := h
  rw [← (sameBuffer_plIdle s).recipeImage]
  simp only [plEnd, busy, cmd]
  rfl

theorem plEnd_erase (h : Commanded 3 s) : plEnd ok flash s = plError 0 (keepImage [] s.pl.slot (plIdle s)) := by
  obtain ⟨busy, cmd⟩ := h
  simp only [plEnd, busy, cmd]
  rfl

theorem plEnd_loadx (h : Commanded 4 s) : plEnd ok flash s = if ok then loadEnd flash (plIdle s) else plError 10 (plIdle s) := by
  obtain ⟨busy, cmd⟩ := h
  simp only [plEnd, busy, cmd]
  cases ok <;> rfl

end

section
variable {s t u : State} {ok : Bool} {flash : List Word}

/-! ### How a command leaves the planner -/

/-- No command is in progress any more. -/
def Idle (s t : State) : Prop := t.on PL_STAT.BUSY = false ∧ t.pl = { s.pl with cmd := 0 }

theorem idle_plIdle (s : State) : Idle s (plIdle s) := ⟨on_eq_false (State.get_put_self 0 (by decide) (by decide)), rfl⟩

theorem Idle.plError (h : Idle s t) (n : Nat) : Idle s (plError n t) :=
  ⟨(congrArg (fun v => decide (v ≠ 0)) (State.get_put_disj n (by decide) (by decide))).trans h.1, h.2⟩

theorem Idle.keepImage (h : Idle s t) (w : List Word) (slot : Nat) : Idle s (keepImage w slot t) := h

theorem busy_loadImage (w : List Word) (s : State) : (loadImage w s).on PL_STAT.BUSY = s.on PL_STAT.BUSY := by
  have entries : (entriesTo w (headerTo w s)).rd PL_STAT = s.rd PL_STAT :=
    (forEach_leaves (g := fun u => u.rd PL_STAT) fun e _ _ => rd_putEntry_ne (by simp only [PL_STAT, PL_RCP0]; omega) ..).trans
      (stat_headerTo w s)
  rw [loadImage_eq]
  exact congrArg (fun v => decide (v ≠ 0)) ((get_plTo (by decide) ..).trans (congrArg (wordField · 23 23) entries))

theorem Idle.loadEnd (h : Idle s t) (w : List Word) : Idle s (loadEnd w t) := by
  unfold Machine.loadEnd
  split
  · exact h.plError _
  · exact Idle.plError ⟨(busy_loadImage w t).trans h.1, ((loadImage_ok w t).1.1 .pl (by decide)).trans h.2⟩ 0

theorem idle_plEnd {cmd : Nat} (h : Commanded cmd s) (hc : cmd = 1 ∨ cmd = 2 ∨ cmd = 3 ∨ cmd = 4) : Idle s (plEnd ok flash s) := by
  have idle := idle_plIdle s
  have header (w : List Word) : Idle s (headerTo w (plIdle s)) :=
    ⟨(congrArg (fun v => decide (wordField v 23 23 ≠ 0)) (stat_headerTo ..)).trans idle.1,
      ((headerTo_ok w _).1.1 .pl (by decide)).trans idle.2⟩
  rcases hc with rfl | rfl | rfl | rfl
  · rw [plEnd_load h]
    split
    · exact idle.plError 6
    · exact idle.loadEnd _
  · rw [plEnd_save h]
    split
    · exact ((header _).keepImage ..).plError 0
    · exact idle.plError 9
  · rw [plEnd_erase h]
    exact (idle.keepImage ..).plError 0
  · rw [plEnd_loadx h]
    split
    · exact idle.loadEnd _
    · exact idle.plError 10

theorem err_plError {n : Nat} (h : n < 16) (s : State) : (plError n s).get PL_STAT.ERR = n :=
  (State.get_put_self n (by decide) (by decide)).trans (Nat.mod_eq_of_lt h)

theorem plError_ok (n : Nat) (s : State) : Ok [.reg .PL_STAT] s (plError n s) := State.put_at at_PL_STAT

/-- A command that ends with an error leaves everything but its code. -/
theorem plError_frame (n : Nat) (s : State) : Frame [.pl, .reg .PL_STAT] s (plError n (plIdle s)) :=
  (Ok.via (plError_ok ..) rfl (plIdle_ok s)).1

theorem imageError_lt (w : List Word) : imageError w < 16 := by
  unfold imageError
  dsimp only
  split_ifs <;> decide

theorem loadEnd_good {w : List Word} (h : imageError w = 0) (s : State) : Loaded w s (loadEnd w (plIdle s)) := by
  unfold loadEnd
  rw [if_neg (not_not.mpr h)]
  exact loaded_loadImage w (plIdle_ok s).1

theorem loadEnd_bad {w : List Word} (h : imageError w ≠ 0) (s : State) :
    (loadEnd w (plIdle s)).get PL_STAT.ERR = imageError w ∧ Frame [.pl, .reg .PL_STAT] s (loadEnd w (plIdle s)) := by
  unfold loadEnd
  rw [if_pos h]
  exact ⟨err_plError (imageError_lt w) _, plError_frame ..⟩

/-! ### LOAD, SAVE and ERASE end -/

theorem plEnd_load_image (h : Commanded 1 s) (hi : s.slotImage ≠ []) : plEnd ok flash s = loadEnd s.slotImage (plIdle s) :=
  (plEnd_load h).trans (if_neg (by simpa using hi))

theorem plEnd_load_empty (h : Commanded 1 s) (hi : s.slotImage = []) :
    (plEnd ok flash s).get PL_STAT.ERR = 6 ∧ Frame [.pl, .reg .PL_STAT] s (plEnd ok flash s) := by
  rw [plEnd_load h, if_pos (by rw [hi]; rfl)]
  exact ⟨err_plError (by decide) _, plError_frame ..⟩

theorem slotImage_keepImage (w : List Word) (slot : Nat) (s : State) :
    Sparse.get (fun _ => []) (plError 0 (keepImage w slot s)).recipes slot = w :=
  Sparse.get_set.trans (if_pos rfl)

theorem keepImage_frame (w : List Word) (slot : Nat) (s : State) : Frame [.recipes, .reg .PL_STAT] s (plError 0 (keepImage w slot s)) :=
  (Ok.via (plError_ok ..) rfl ((Ok.recipes Sparse.wf_set).mono rfl)).1

theorem plEnd_saved (h : Commanded 2 s) :
    Sparse.get (fun _ => []) (plEnd true flash s).recipes s.pl.slot = s.recipeImage ∧ (plEnd true flash s).get PL_STAT.ERR = 0
      ∧ Frame [.pl, .recipes, .reg .PL_RCPHDR, .reg .PL_STAT] s (plEnd true flash s) := by
  rw [plEnd_save h, if_pos rfl]
  have header := Ok.via (headerTo_ok s.recipeImage _) (W := [.pl, .recipes, .reg .PL_RCPHDR, .reg .PL_STAT]) rfl ((plIdle_ok s).mono rfl)
  exact ⟨slotImage_keepImage .., err_plError (by decide) _, header.1.trans ((keepImage_frame ..).mono (by decide))⟩

theorem plEnd_save_fails (h : Commanded 2 s) :
    (plEnd false flash s).get PL_STAT.ERR = 9 ∧ Frame [.pl, .reg .PL_STAT] s (plEnd false flash s) := by
  rw [plEnd_save h, if_neg Bool.false_ne_true]
  exact ⟨err_plError (by decide) _, plError_frame ..⟩

theorem plEnd_erased (h : Commanded 3 s) :
    Sparse.get (fun _ => []) (plEnd ok flash s).recipes s.pl.slot = [] ∧ (plEnd ok flash s).get PL_STAT.ERR = 0
      ∧ Frame [.pl, .recipes, .reg .PL_STAT] s (plEnd ok flash s) := by
  rw [plEnd_erase h]
  exact ⟨slotImage_keepImage .., err_plError (by decide) _,
    ((plIdle_ok s).1.mono (by decide)).trans ((keepImage_frame ..).mono (by decide))⟩

/-! ### LOADX ends, R355 and R357 -/

theorem Commanded.loadxReads {cmd : Nat} (h : Commanded cmd s) (n : Nat) : Commanded cmd (loadxReads n s) := by
  have pl : (Machine.loadxReads n s).pl = s.pl := (loadxReads_ok n s).1.1 .pl (by decide)
  exact ⟨((samePlan_loadxReads n s).on (by decide) (by decide)).trans h.1, pl ▸ h.2⟩

theorem loadxReads_none {n : Nat} (h : s.loadxStop n = none) : loadxReads n s = s := by
  unfold loadxReads
  rw [h]

theorem loadxReads_some {n f : Nat} (h : s.loadxStop n = some f) :
    loadxReads n s = recordErr .xip (0x800000 + (f - s.get SPM_XOFS.OFS * 65536)) .refused (pendD4 113 0 0 s) := by
  unfold loadxReads
  rw [h]

theorem loadxStop_of_reach {n : Nat} (h : s.loadxReach n = true) : s.loadxStop n = none :=
  Option.isNone_iff_eq_none.mp (Bool.and_eq_true_iff.mp h).2

/-- The word at which a LOADX stops lies in the window. -/
theorem loadxStop_lt {n f : Nat} (h : s.loadxStop n = some f) : 0x800000 + (f - s.get SPM_XOFS.OFS * 65536) < 2 ^ 24 := by
  unfold State.loadxStop at h
  split at h
  · rename_i inside
    obtain ⟨i, hi, rfl⟩ := List.mem_map.mp (List.mem_of_find?_eq_some h)
    have hi := List.mem_range.mp hi
    simp only [State.loadxInside, Bool.and_eq_true, decide_eq_true_eq] at inside
    omega
  · cases h

/-- The end of a planner command: a LOADX succeeds only where the XIP fetcher reaches its image. -/
def commandEnd (ok : Bool) (flash : List Word) (s : State) : State :=
  let n := max 1 flash.length
  if s.pl.cmd = 4 then plEnd (ok && s.loadxReach n) flash (loadxReads n s) else plEnd ok flash s

theorem commandEnd_stored {cmd : Nat} (h : Commanded cmd s) (hc : cmd ≠ 4) : commandEnd ok flash s = plEnd ok flash s :=
  if_neg (h.2 ▸ hc)

theorem commandEnd_loadx (h : Commanded 4 s) :
    commandEnd ok flash s = if ok && s.loadxReach (max 1 flash.length) then loadEnd flash (plIdle (loadxReads (max 1 flash.length) s))
      else plError 10 (plIdle (loadxReads (max 1 flash.length) s)) :=
  (if_pos h.2).trans (plEnd_loadx (h.loadxReads _))

theorem idle_commandEnd {cmd : Nat} (h : Commanded cmd s) (hc : cmd = 1 ∨ cmd = 2 ∨ cmd = 3 ∨ cmd = 4) :
    Idle s (commandEnd ok flash s) := by
  by_cases h4 : cmd = 4
  · have pl : (loadxReads (max 1 flash.length) s).pl = s.pl := (loadxReads_ok ..).1.1 .pl (by decide)
    subst h4
    obtain ⟨busy, idle⟩ := idle_plEnd (ok := ok && s.loadxReach (max 1 flash.length)) (flash := flash) (h.loadxReads (max 1 flash.length)) hc
    rw [show commandEnd ok flash s = _ from if_pos h.2]
    exact ⟨busy, pl ▸ idle⟩
  · rw [commandEnd_stored h h4]
    exact idle_plEnd h hc

theorem loadx_reached (h : Commanded 4 s) (hr : s.loadxReach (max 1 flash.length) = true) :
    commandEnd true flash s = loadEnd flash (plIdle s) := by
  rw [commandEnd_loadx h, hr, loadxReads_none (loadxStop_of_reach hr)]
  rfl

theorem loadx_fails (h : Commanded 4 s) (hf : ok = false ∨ s.loadxReach (max 1 flash.length) = false) :
    commandEnd ok flash s = plError 10 (plIdle (loadxReads (max 1 flash.length) s)) := by
  rw [commandEnd_loadx h, if_neg (by rcases hf with hf | hf <;> simp [hf])]

theorem loadx_unreached {f n : Nat} (h : s.loadxStop n = some f) : s.loadxReach n = false := by
  rw [State.loadxReach, h]
  exact Bool.and_false _

/-- A LOADX whose image the fetcher cannot read to its end records the failed read as its bus error, R355. -/
theorem loadx_stops {f : Nat} (h : Commanded 4 s) (hf : s.loadxStop (max 1 flash.length) = some f) :
    let t := commandEnd ok flash s
    t.evPending 116 = true ∧ (s.runState ≠ 2 → t.evPending 113 = true)
      ∧ (s.on GCTL_BUSERR.VALID = false → t.get GCTL_BUSERR.CODE = BusErr.refused.code ∧ t.get GCTL_BUSERR.MASTER = masterCode .xip
          ∧ t.get GCTL_BUSERRADDR.ADDR = (0x800000 + (f - s.get SPM_XOFS.OFS * 65536)) % 2 ^ 24)
      ∧ Frame (.pl :: .power :: .reg .PL_STAT :: errorParts) s t := by
  intro t
  have final : t = plError 10 (plIdle (loadxReads (max 1 flash.length) s)) := loadx_fails h (.inr (loadx_unreached hf))
  rw [loadxReads_some hf] at final
  generalize hA : 0x800000 + (f - s.get SPM_XOFS.OFS * 65536) = addr at final ⊢
  have low : addr < 2 ^ 24 := hA ▸ loadxStop_lt hf
  have pended := pendD4_ok 113 0 0 s
  have cause := noted_pendD4 (src := 113) (idx := 0) (by decide) s
  generalize pendD4 113 0 0 s = u at final pended cause
  have recorded := recordErr_errRecord low .xip .refused u
  have event : (recordErr .xip addr .refused u).evPending 116 = true := recordErr_errEvent .xip addr .refused u
  have kept : u.evPending 113 = true → (recordErr .xip addr .refused u).evPending 113 = true := fun hu =>
    evPending_pend_keeps (by decide) (((congrArg (fun w : Word => w.getLsbD 17)
      ((errNoted_frame .xip addr .refused u).rd_of (a := EV_PEND 3) rfl))).trans hu)
  have parts := recordErr_ok .xip addr .refused u
  generalize recordErr .xip addr .refused u = v at final recorded event kept parts
  have last : Frame [.pl, .reg .PL_STAT] v t := final ▸ plError_frame 10 v
  have word : t.rd (EV_PEND 3) = v.rd (EV_PEND 3) := last.rd_of rfl
  refine ⟨(congrArg (fun w : Word => w.getLsbD 20) word).trans event, fun awake => ?_, fun first => ?_, ?_⟩
  · have up : napping s = false := by simp [napping, awake]
    rw [noted, up] at cause
    exact (congrArg (fun w : Word => w.getLsbD 17) word).trans (kept cause)
  · obtain ⟨-, record, -⟩ := recorded
    obtain ⟨code, master, address⟩ := record ((pended.1.on_of rfl).trans first)
    exact ⟨(last.get_of rfl).trans code, (last.get_of rfl).trans master,
      (last.get_of rfl).trans (address.trans (Nat.mod_eq_of_lt low).symm)⟩
  · exact ((pended.1.mono (by decide)).trans (parts.1.mono (by decide))).trans (last.mono (by decide))

end

/-! ### The plan starts, R220 -/

/-- The results of an entry at plan tick 0. -/
def zeroResults (e : Nat) (s : State) : State :=
  (((s.wr (PL_RES e) 0).wr (PL_RES_START e) 0).wr (PL_RES_END e) 0).wr (PL_RES_EACT e) 0

/-- Entries become READY or WAITING. -/
def markEntry (e : Nat) (s : State) : State := s.put (PL_RES.STATE e) (if s.rcpAfter e then 0 else 1)

/-- The results as a whole at plan tick 0. -/
def zeroTotals (s : State) : State :=
  (((s.put PL_STAT.FAILCNT 0).put PL_STAT.BUSY 0).put PL_MAKESPAN.TICKS 0).putPair PL_ENERGY_LO 0

/-- The results of a plan at tick 0. -/
def startResults (s : State) : State := zeroTotals (forEach s.validEntries markEntry (forEach (List.range 128) zeroResults s))

/-- The plan owns its axes, R223. -/
def planOwn (es : List Nat) (s : State) : State :=
  s.modPl fun p => { p with
    cmd := 0, waiting := false, sync := false, tick := 0, count := es.length, abort := none
    owned := es.map fun e => (s.rcpAxis e, e)
    started := [], causes := [], blocked := [] }

section
variable {s : State}

theorem planBegin_eq (hr : s.runReady = true) (h3 : s.plState = 3) :
    planBegin s = plTo 4 (planOwn s.validEntries (startResults s)) :=
  if_neg (by simp [hr, h3])

theorem zeroTotals_ok (s : State) :
    Ok [.reg .PL_ENERGY_HI, .reg .PL_ENERGY_LO, .reg .PL_MAKESPAN, .reg .PL_STAT] s (zeroTotals s) :=
  Ok.via (State.putPair_at at_PL_ENERGY_LO hi_PL_ENERGY_LO) rfl <| Ok.via (State.put_at at_PL_MAKESPAN) rfl <|
    Ok.via (State.put_at at_PL_STAT) rfl ((State.put_at at_PL_STAT).mono rfl)

theorem sameBuffer_zeroTotals (s : State) : SameBuffer s (zeroTotals s) := sameBuffer_of_status ((zeroTotals_ok s).1.mono (by decide))

theorem rd_zeroResults {a : Nat} (h : a < PL_RES 0) (e : Nat) (s : State) : (zeroResults e s).rd a = s.rd a := by
  unfold zeroResults
  simp only [PL_RES, PL_RES_START, PL_RES_END, PL_RES_EACT] at h ⊢
  iterate 4 rw [State.rd_wr_ne _ (by omega)]

theorem rd_markEntry {a : Nat} (h : a < PL_RES 0) (e : Nat) (s : State) : (markEntry e s).rd a = s.rd a :=
  State.rd_put_ne _ (by simp only [PL_RES] at h ⊢; omega)

/-- Plan tick 0 leaves the recipe as it is. -/
theorem rd_startResults {a : Nat} (hl : PL_RCPHDR 0 ≤ a) (hh : a < PL_RES 0) (s : State) : (startResults s).rd a = s.rd a :=
  (sameBuffer_zeroTotals _ a hl).trans <|
    (forEach_leaves (g := fun u => u.rd a) fun e _ u => rd_markEntry hh e u).trans
      (forEach_leaves (g := fun u => u.rd a) fun e _ u => rd_zeroResults hh e u)

theorem rcpAxis_startResults {e : Nat} (h : e < 128) (s : State) : (startResults s).rcpAxis e = s.rcpAxis e :=
  rcpAxis_of_rd (rd_startResults (by simp only [PL_RCPHDR, PL_RCP0]; omega) (by simp only [PL_RCP0, PL_RES]; omega) s)

theorem entryState_markEntry (e : Nat) (s : State) : (markEntry e s).entryState e = if s.rcpAfter e then 0 else 1 := by
  refine (State.get_put_self _ (by simp) (by simp)).trans ?_
  split <;> rfl

theorem entryState_startResults {e : Nat} (h : e ∈ s.validEntries) :
    (startResults s).entryState e = if s.rcpAfter e then 0 else 1 := by
  have small := lt_of_mem_validEntries h
  have below : PL_RCP0 e < PL_RES 0 := by simp only [PL_RCP0, PL_RES]; omega
  have first (u : State) (hu : u.rd (PL_RCP0 e) = s.rd (PL_RCP0 e)) :
      (markEntry e u).entryState e = (if s.rcpAfter e then 0 else 1) ∧ (markEntry e u).rd (PL_RCP0 e) = s.rd (PL_RCP0 e) :=
    ⟨by rw [entryState_markEntry, rcpAfter_of_rd hu], (rd_markEntry below e u).trans hu⟩
  have marked := forEach_reaches (l := s.validEntries) (f := markEntry) (P := fun u => u.rd (PL_RCP0 e) = s.rd (PL_RCP0 e))
    (Q := fun u => u.entryState e = (if s.rcpAfter e then 0 else 1) ∧ u.rd (PL_RCP0 e) = s.rd (PL_RCP0 e)) h
    (fun x _ _ u hu => (rd_markEntry below x u).trans hu) first
    (fun x _ u hu => by
      by_cases hx : x = e
      · rw [hx]
        exact first u hu.2
      · exact ⟨(State.get_put_ne _ (by simp only [PL_RES]; omega)).trans hu.1, (rd_markEntry below x u).trans hu.2⟩)
    (forEach_leaves (g := fun u => u.rd (PL_RCP0 e)) (l := List.range 128) (s := s) fun x _ u => rd_zeroResults below x u)
  exact (congrArg (wordField · 31 28) (sameBuffer_zeroTotals _ _ (by simp only [PL_RCPHDR, PL_RES]; omega))).trans marked.1

theorem busy_zeroTotals (s : State) : (zeroTotals s).on PL_STAT.BUSY = false := by
  refine on_eq_false ?_
  unfold zeroTotals State.putPair
  rw [State.get_wr_ne _ (by decide), State.get_wr_ne _ (by decide), State.get_put_ne _ (by decide)]
  exact State.get_put_self 0 (by decide) (by decide)

theorem does_planStart (hf : s.fabricOn = true) (hr : s.runReady = true) (h3 : s.plState = 3) : Does .planStart s fun t =>
    t.plState = 4 ∧ t.on PL_STAT.BUSY = false ∧ t.pl.waiting = false ∧ t.pl.tick = 0
      ∧ t.pl.owned = s.validEntries.map (fun e => (s.rcpAxis e, e))
      ∧ (∀ e ∈ s.validEntries, t.entryState e = if s.rcpAfter e then 0 else 1)
      ∧ Frame (triggerParts ++ [.pl, .reg .PL_STAT, .reg .PL_MAKESPAN, .reg .PL_ENERGY_LO, .reg .PL_ENERGY_HI, .reg .PL_RES,
          .reg .PL_RES_START, .reg .PL_RES_END, .reg .PL_RES_EACT]) s t := by
  have begins := planBegin_eq hr h3
  have plan : (plannerTrigger (planBegin s)).pl = (planBegin s).pl := (plannerTrigger_ok _).1.1 .pl (by decide)
  have same := samePlan_plannerTrigger (planBegin s)
  refine .of_eq rfl (if_pos (by simp [hf, hr, h3]) : _ = plannerTrigger (planBegin s))
    ⟨?_, ?_, ?_, ?_, ?_, fun e he => ?_, (planBegin_ok s).1.mono (by decide) |>.trans ((plannerTrigger_ok _).1.mono (by decide))⟩
  · exact (same.get (by decide) (by decide)).trans (begins ▸ plState_plTo (by decide) _)
  · refine (same.on (by decide) (by decide)).trans ?_
    rw [begins]
    exact (congrArg (fun v => decide (v ≠ 0)) (get_plTo (by decide) ..)).trans (busy_zeroTotals _)
  · rw [plan, begins]
    rfl
  · rw [plan, begins]
    rfl
  · rw [plan, begins]
    exact List.map_congr_left fun e he => congrArg (·, e) (rcpAxis_startResults (lt_of_mem_validEntries he) s)
  · have small := lt_of_mem_validEntries he
    refine (same.get (by simp only [PL_RES]; omega) (by simp only [PL_RES]; omega)).trans ?_
    rw [begins]
    exact (State.get_put_ne _ (by simp only [PL_RES, PL_STAT]; omega)).trans (entryState_startResults he)

/-! ### ADMISSION_BLOCKED, R225 -/

theorem does_admissionBlocked {e : Fin 128} (h4 : s.plState = 4) (hv : s.rcpValid e = true) (h1 : s.entryState e = 1)
    (hb : e.val ∉ s.pl.blocked) : Does (.admissionBlocked e) s fun t =>
      t.evPending 29 = true ∧ t.get PL_EVINFO.BLKENT = e ∧ t.pl = { s.pl with blocked := e.val :: s.pl.blocked }
        ∧ Frame (.pl :: .reg .PL_EVINFO :: eventParts) s t := by
  have blocked : admissionBlocked e s
      = pend 29 0 (s.rcpAxis e) ((s.put PL_EVINFO.BLKENT e).modPl fun p => { p with blocked := e :: p.blocked }) := if_pos (by simp [h4, hv, h1, hb])
  refine .of_eq rfl blocked ⟨evPending_pend (by decide), ?_, (pend_ok ..).1.1 .pl (by decide), ?_⟩
  · rw [get_pend_ne (by decide) (by decide), State.modPl_get]
    exact (State.get_put_self _ (by decide) (by decide)).trans (Nat.mod_eq_of_lt e.isLt)
  · exact (Ok.via (pend_ok ..) rfl (Ok.via (State.modPl_ok ..) rfl ((State.put_at at_PL_EVINFO).mono rfl))).1

/-! ### Writes of the recipe, R213 and R219 -/

variable {m : Master} {w : Word}

/-- A word of the recipe buffer is one of its header or one of four words of an entry. -/
theorem recipeAddr_cases (at_ : RecipeWord) : (∃ i : Fin 4, recipeAddr at_ = PL_RCPHDR i) ∨ ∃ e : Fin 128,
    recipeAddr at_ = PL_RCP0 e ∨ recipeAddr at_ = PL_RCP1 e ∨ recipeAddr at_ = PL_RCP2 e ∨ recipeAddr at_ = PL_RCP3 e := by
  cases at_ with
  | header i => exact .inl ⟨i, rfl⟩
  | entry e i =>
    refine .inr ⟨e, ?_⟩
    simp only [recipeAddr, PL_RCP0, PL_RCP1, PL_RCP2, PL_RCP3]
    omega

/-- A word of the recipe buffer is written, and the plan state is that of a loaded recipe. -/
theorem written_recipe {at_ : RecipeWord} (h : s.mayWrite m (recipeAddr at_)) (hx : s.recipeRefused = false) :
    regWrite m (recipeAddr at_) w s = (plTo 1 ((s.setBad (recipeAddr at_) false).wr (recipeAddr at_) w)).answer m .done := by
  rcases recipeAddr_cases at_ with ⟨i, hi⟩ | ⟨e, he | he | he | he⟩
  · rw [hi] at h ⊢
    exact written_PL_RCPHDR i h hx
  · rw [he] at h ⊢
    exact written_PL_RCP0 e h hx
  · rw [he] at h ⊢
    exact written_PL_RCP1 e h hx
  · rw [he] at h ⊢
    exact written_PL_RCP2 e h hx
  · rw [he] at h ⊢
    exact written_PL_RCP3 e h hx

theorem wr_recipe (at_ : RecipeWord) (w : Word) (s : State) : Ok bufferParts s (s.wr (recipeAddr at_) w) := by
  rcases recipeAddr_cases at_ with ⟨i, hi⟩ | ⟨e, he | he | he | he⟩
  · exact hi ▸ (State.wr_at (at_PL_RCPHDR i)).mono rfl
  · exact he ▸ (State.wr_at (at_PL_RCP0 e)).mono rfl
  · exact he ▸ (State.wr_at (at_PL_RCP1 e)).mono rfl
  · exact he ▸ (State.wr_at (at_PL_RCP2 e)).mono rfl
  · exact he ▸ (State.wr_at (at_PL_RCP3 e)).mono rfl

theorem does_recipeWrite {at_ : RecipeWord} (h : s.mayWrite m (recipeAddr at_)) (hx : s.recipeRefused = false) :
    Does (.recipeBufferWrite m at_ w) s fun t =>
      t.rd (recipeAddr at_) = w ∧ t.plState = 1 ∧ t.reply m = .done ∧ Frame (accessParts ++ bufferParts ++ [.reg .PL_STAT]) s t := by
  have apart : recipeAddr at_ ≠ PL_STAT := by
    rcases recipeAddr_cases at_ with ⟨i, hi⟩ | ⟨e, he⟩
    · rw [hi]
      simp only [PL_RCPHDR, PL_STAT]
      omega
    · simp only [PL_RCP0, PL_RCP1, PL_RCP2, PL_RCP3, PL_STAT] at he ⊢
      omega
  refine .of_eq rfl (written_recipe h hx) ⟨?_, plState_plTo (by decide) _, State.reply_answer .., ?_⟩
  · exact (State.rd_put_ne _ apart).trans (State.rd_wr_self ..)
  · exact (Ok.via (State.answer_ok ..) rfl <| Ok.via (plTo_ok ..) rfl <| Ok.via (wr_recipe ..) rfl ((State.setBad_ok ..).mono rfl)).1

theorem does_ordWrite {k : Fin 128} (h : s.mayWrite m (PL_ORD k)) (hx : s.ordRefused = false) (hw : w.toNat < 128) :
    Does (.plOrdWrite m k w) s fun t =>
      t.get (PL_ORD.ENTRY k) = w.toNat ∧ t.reply m = .done ∧ Frame (accessParts ++ [.reg .PL_ORD]) s t := by
  have unreserved : w &&& 0xffffff80 = 0 := by
    refine Word.and_zero_of_bits fun i hi => ?_
    have high : 7 ≤ i := by
      have : i < 32 := BitVec.lt_of_getLsbD hi
      revert hi
      revert i
      decide
    exact Nat.testBit_lt_two_pow (hw.trans_le (Nat.pow_le_pow_right (show 0 < 2 by decide) high))
  refine .of_eq rfl (written_PL_ORD k h unreserved hx) ⟨?_, State.reply_answer .., ?_⟩
  · rw [State.answer_get]
    refine (congrArg (wordField · 6 0) (State.rd_wr_self ..)).trans ((wordField_replaced (by decide)).trans ?_)
    rw [wordField_eq]
    omega
  · exact (Ok.via (State.answer_ok ..) rfl <| Ok.via (State.wr_at (at_PL_ORD k)) rfl ((State.setBad_ok ..).mono rfl)).1

end

/-- Settles O23: PLAN_COMPLETE makes or refuses the plan (`does_plan_ready`, `does_plan_fails`), each command that takes time ends by its
own law (`commandEnd`), and the plan start, a blocked admission and the writes have their effect. -/
theorem planStepsComplete : Obligations.PlanStepsComplete := by
  unfold Obligations.PlanStepsComplete
  intro s
  refine ⟨fun state busy => ⟨fun waits => .of_eq rfl (planComplete_waits waits) rfl, fun runs clock free => ?_⟩, fun ok flash busy => ?_,
    does_planStart, fun e => does_admissionBlocked, fun m at_ w => does_recipeWrite, fun m k w => does_ordWrite⟩
  · have planning : Planning s := ⟨state, busy, runs, clock, free⟩
    exact ⟨fun e => does_plan_fails planning, fun n => does_plan_ready planning⟩
  · intro loaded image n cmd
    have now {k : Nat} (h : s.pl.cmd = k) : Commanded k s := ⟨busy, h⟩
    have stored {k : Nat} (h : s.pl.cmd = k) (hk : k ≠ 4) : commandEnd ok flash s = plEnd ok flash s := commandEnd_stored (now h) hk
    obtain ⟨ended, idle⟩ := idle_commandEnd (ok := ok) (flash := flash) (now rfl) cmd
    refine .of_eq rfl (rfl : _ = commandEnd ok flash s)
      ⟨ended, idle, fun c hi good => ?_, fun c hi bad => ?_, fun c hi => ?_, fun c hok => ?_, fun c hok => ?_, fun c => ?_,
        fun c hok reach good => ?_, fun c hok reach bad => ?_, fun c fails => ?_, fun c fails stop => ?_, fun f c stop => ?_⟩
    · rw [stored c (by decide), plEnd_load_image (now c) hi]
      exact loadEnd_good good s
    · rw [stored c (by decide), plEnd_load_image (now c) hi]
      exact loadEnd_bad bad s
    · rw [stored c (by decide)]
      exact plEnd_load_empty (now c) hi
    · rw [stored c (by decide), hok]
      exact plEnd_saved (now c)
    · rw [stored c (by decide), hok]
      exact plEnd_save_fails (now c)
    · rw [stored c (by decide)]
      exact plEnd_erased (now c)
    · rw [hok, loadx_reached (now c) reach]
      exact loadEnd_good good s
    · rw [hok, loadx_reached (now c) reach]
      exact loadEnd_bad bad s
    · rw [loadx_fails (now c) fails]
      exact err_plError (by decide) _
    · rw [loadx_fails (now c) fails, loadxReads_none stop]
      exact plError_frame 10 s
    · exact loadx_stops (now c) stop

end Sys2Proof.Machine
